-- ==== Sys2Proof/Word.lean ====
section
/-! DEFINITION. The word types of the module: bytes, 32-bit registers (R12), 64-bit values (R13), and the index types of
the variant with every unit fitted (R2: DXM-9640-F). -/

namespace Sys2Proof

/-- One byte of a memory, a packet or a flash record. -/
abbrev Byte := BitVec 8

/-- One BAR0 register (R12). -/
abbrev Word := BitVec 32

/-- A PCI Express port (R344). -/
abbrev Port := Fin 4

/-- A partition (Table SCOPE-1: 8 partitions). -/
abbrev Part := Fin 8

/-- A physical core (Table MAP-4: 40 physical cores). -/
abbrev CoreId := Fin 40

/-- A camera lane. -/
abbrev LaneId := Fin 32

/-- An image context. -/
abbrev CtxId := Fin 64

/-- A position channel. -/
abbrev ChanId := Fin 8

end Sys2Proof
end

