-- ==== Sys2Proof/Image.lean ====
section
/-! DEFINITION. The Zaelle image as data (Tables ZLD-1 to ZLD-4, PACE-2, SAFE-10, MOT-2, MOT-5, ROUTE-1): the container,
and what its sections declare.  The container is held to the byte (R46); the spec gives the sections' contents byte by byte only
in part, so what they say is held as the fields the rules name, beside the bytes that carry it. -/

namespace Sys2Proof

/-! ### STRUCTURE (Tables ZLD-4, ZLD-5; R328, R336) -/

/-- A window of a logical core: one of its four time slots (R235). -/
structure WindowCfg where
  lcore : Nat
  index : Nat
  start : Nat
  length : Nat
  deriving DecidableEq, Repr

/-- A partition of STRUCTURE. -/
structure PartCfg where
  defined : Bool
  cores : Nat
  quota : Nat
  bandwidth : Nat
  criticality : Nat
  port : Nat
  windows : List WindowCfg
  deriving DecidableEq, Repr

/-- A camera lane of STRUCTURE. -/
structure LaneCfg where
  enabled : Bool
  rate : Nat
  refMode : Nat
  channel : Nat
  sensors : Nat
  deriving DecidableEq, Repr

/-- A context of STRUCTURE. -/
structure CtxCfg where
  defined : Bool
  lane : Nat
  stream : Nat
  kind : Nat
  part : Nat
  deriving DecidableEq, Repr

/-- The STRUCTURE section. -/
structure StructureSec where
  split : Nat
  roles : List Nat
  islands : Nat
  lanes : List LaneCfg
  contexts : List CtxCfg
  parts : List PartCfg
  upkeep : Nat
  masterCapable : Bool
  tcMode : Nat
  domain : Nat
  p2p : Bool
  priority1 : Nat
  priority2 : Nat
  logSync : Int
  logAnnounce : Int
  nodeId : Nat
  digest : BitVec 512
  deriving DecidableEq, Repr

/-! ### PACE (Table PACE-2, R333) -/

/-- The PACE section; `vStart` none is the default of Table PACE-2, the factory value of each die. -/
structure PaceSec where
  ratedPace : Nat
  paceCeiling : Nat
  guard : Nat
  paceStep : Nat
  vStep : Nat
  vCeiling : Nat
  horizon : Nat
  vStart : Option Nat
  periodUs : Nat
  free : Nat
  milestoneNs : Nat
  digest : BitVec 512
  deriving DecidableEq, Repr

/-! ### SAFETY (Table SAFE-10) -/

/-- A window watchdog (R371): kind 0 BUILDER, 1 SHEET, 2 CONTEXT, 3 TRACKER, 4 STEP, 5 MILEPOST, 6 TIMEBASE, 7 CHECKER. -/
structure WatchdogCfg where
  kind : Nat
  target : Nat
  minUs : Nat
  maxUs : Nat
  reaction : Nat
  deriving DecidableEq, Repr

/-- A check set (Table SAFE-10): limits, tolerances as FP32 codes, digest prefixes as their first 4 bytes. -/
structure CheckSet where
  part : Nat
  contexts : List Nat
  travelLo : Int
  travelHi : Int
  lengthLo : Nat
  lengthHi : Nat
  maxAgeUs : Nat
  limits : List (BitVec 32 × BitVec 32)
  tolerances : List (BitVec 32)
  programs : List Nat
  weights : List Nat
  burst : Nat
  armPartition : Bool
  deriving DecidableEq, Repr

/-- A golden frame (R376): its context and the digest its outputs must have. -/
structure GoldenCfg where
  ctx : Nat
  pixels : Nat
  digest : BitVec 256
  deriving DecidableEq, Repr

/-- A safe input: function 0 STOP_OUT0, 1 STOP_OUT1, 2 STOP_BOTH, 3 SAFE_STATE, 4 MONITOR. -/
structure SafeInCfg where
  function : Nat
  pulses : Bool
  filterUs : Nat
  discrepancyMs : Nat
  deriving DecidableEq, Repr

/-- A safe output. -/
structure SafeOutCfg where
  manual : Bool
  resetInput : Option Nat
  testMs : Nat
  pulseUs : Nat
  deriving DecidableEq, Repr

/-- The SAFETY section. -/
structure SafetySec where
  dtiMs : Nat
  overdueSafe : Bool
  goldens : List GoldenCfg
  goldenLimit : Nat
  watchdogs : List WatchdogCfg
  checkSets : List CheckSet
  frozenFrames : Nat
  recoveryS : Nat
  inputs : List SafeInCfg
  outputs : List SafeOutCfg
  resetByInput : Option Nat
  msgPorts : Nat
  destMac : Nat
  heartbeatUs : Nat
  key : Nat
  digest : BitVec 512
  deriving DecidableEq, Repr

/-! ### Module TABLES (R302, R304, R305, R311, R318, R339, R49) -/

/-- A framing table of a position channel (R304 to R306, R308, R310); fields are (kind, bits) of Table MOT-2. -/
structure FramingCfg where
  clock100k : Nat
  monoflopUs : Nat
  gray : Bool
  fields : List (Nat × Nat)
  cpr : Nat
  tolerance : Nat
  maxStep : Nat
  badLimit : Nat
  deriving DecidableEq, Repr

/-- A position channel; times of the speed estimate in 5 ns samples, limits in counts/s. -/
structure ChanCfg where
  mode : Nat
  decode : Nat
  reverse : Bool
  filter : Nat
  framing : Nat
  indexCheck : Bool
  interval : Nat
  standstill : Nat
  window : Nat
  vHi : Nat
  vLo : Nat
  deriving DecidableEq, Repr

/-- A trigger divider: source 0 OFF, 1 CHANNEL, 2 MILESTONE; width in 5 ns; ratio in 1/65,536 counts. -/
structure DividerCfg where
  source : Nat
  channel : Nat
  pulse : Bool
  width : Nat
  ratio : Nat
  lanes : Nat
  streams : Nat
  deriving DecidableEq, Repr

/-- A field input. -/
structure FieldInCfg where
  ty : Nat
  filterUs : Nat
  capture : Nat
  edge : Nat
  deriving DecidableEq, Repr

/-- One side of the peer table (R339). -/
structure PeerCfg where
  expected : Bool
  node : Nat
  deriving DecidableEq, Repr

/-- One seam of the peer table (R339, R341, R404): its side, whether this module owns the ejector, the context output, the verge
width in columns, its ring of rows in the partition's pages (in 64-byte units, rows, row stride) with its tags, the check layer
and block height, and the partition that owns the context. -/
structure SeamCfg where
  side : Nat
  owner : Bool
  ctx : Nat
  output : Nat
  width : Nat
  ringOff : Nat
  ringRows : Nat
  stride : Nat
  tagOff : Nat
  layer : Nat
  checkBlock : Nat
  part : Nat
  deriving DecidableEq, Repr

/-- The module-wide TABLES section. -/
structure TablesSec where
  funcVersion : Nat
  functions : List Nat
  channels : List ChanCfg
  framings : List FramingCfg
  dividers : List DividerCfg
  inputs : List FieldInCfg
  position : Nat
  peers : List PeerCfg
  seams : List SeamCfg
  digest : BitVec 512
  deriving DecidableEq, Repr

/-! ### Partition TABLES (R316, R319, R321, R337) -/

/-- A step of a pulse program: action 0 END, 1 ON, 2 OFF; unit in counts or in µs; duration. -/
structure PulseStep where
  action : Nat
  counts : Bool
  duration : Nat
  deriving DecidableEq, Repr

/-- A pulse program (Table MOT-5). -/
structure PulseProgram where
  steps : List PulseStep
  maxOn : Nat
  deriving DecidableEq, Repr

/-- A claim of an output: 0 to 31 field, 32 to 39 PULSE. -/
structure ClaimCfg where
  output : Nat
  host : Bool
  retryMs : Nat
  openWireMask : Bool
  deriving DecidableEq, Repr

/-- A claimed launch queue (R337). -/
structure LaunchClaim where
  queue : Nat
  sendLate : Bool
  windowUs : Nat
  deriving DecidableEq, Repr

/-- A partition's TABLES section. -/
structure PartTables where
  programs : List (Nat × PulseProgram)
  claims : List ClaimCfg
  launch : List LaunchClaim
  presets : List (List (List Nat))
  digest : BitVec 512
  deriving DecidableEq, Repr

/-! ### PROGRAM (Table ROUTE-1; R145, R146, R205, R206, R227, R240, R356, R402) -/

/-- One variant of a batched leg (R240). -/
structure VariantCfg where
  rows : Nat
  pages : Nat
  span : Nat
  deriving DecidableEq, Repr

/-- A binding of the verge table (Table ROUTE-7, R168): the token 4 to 7 that the leg's `core`-th core binds, the slot as
(space, offset in 64-byte units), its two buffers as (space, offset, units), and what the slot names (Table CONV-2): the position in the
leg's core set of the producer, the boundary and the verge rows of a generation. -/
structure VergeCfg where
  core : Nat
  token : Nat
  space : Nat
  offset : Nat
  buffers : List (Nat × Nat × Nat)
  producer : Nat
  boundary : Nat
  rows : Nat
  deriving DecidableEq, Repr

/-- A word of a leg (R157): the position in the leg's core set of the core that runs it, the group stream it stands in, the word, and the
64-byte descriptor that the program puts where the word says, empty where it names none. -/
structure SheetWord where
  core : Nat
  group : Nat
  word : BitVec 128
  desc : List Byte
  deriving DecidableEq, Repr

/-- A leg of a template (Table ROUTE-1).  `engines` lists the engine slots (kind of Table ROUTE-8, offset, ticks, position in the core set of the core that holds it); `policy`
is the breach policy (R146): 0 FLAG, 1 VOID; `road` marks a detection, backbone or sequence leg (R19); `verges` its share of
the verge tables; `words` its words, in issue order for each core and group. -/
structure LegCfg where
  span : Nat
  cores : Nat
  groups : Nat
  tokens : Nat
  engines : List (Nat × Nat × Nat × Nat)
  hbmLines : Nat
  preds : List Nat
  kind : Nat
  variants : List VariantCfg
  policy : Nat
  tracker : Bool
  verdict : Bool
  road : Bool
  verges : List VergeCfg
  words : List SheetWord
  deriving DecidableEq, Repr

/-- The sequence model of a STEP template (R204 to R206): sequences it may hold, length limit, layers, query heads per KV head, tokens per page
(16 in E4M3, 8 in BF16), where its pool begins in the partition's pages and its size, the byte where the length table stands in core SRAM, whether
its query rows are one pooled row for each slot (Table KV-6), and for E4M3 the FP32 scales of K and V for each layer and head, layer by layer. -/
structure SeqModelCfg where
  maxSeq : Nat
  maxLen : Nat
  layers : Nat
  groups : Nat
  tokensPerPage : Nat
  pageOffset : Nat
  poolPages : Nat
  lengthTable : Nat
  pooled : Bool
  scales : List (BitVec 32 × BitVec 32)
  deriving DecidableEq, Repr

/-- A job template (R227): `output` says that its iterations have an OUTPUT result. -/
structure TemplateCfg where
  index : Nat
  cadence : Nat
  every : Nat
  eventRate : Nat
  pages : Nat
  contexts : List Nat
  legs : List LegCfg
  model : Option SeqModelCfg
  ingest : Option Nat
  output : Bool
  deriving DecidableEq, Repr

/-- A weights set a PROGRAM names (R356). -/
structure WeightSetCfg where
  set : Nat
  expected : List (BitVec 256)
  adaptable : Bool
  deriving DecidableEq, Repr

/-- An op of an input-pipeline chain (R296, Table INGEST-5): code, its parameters in the table's order, and the FP32 means and
scales of CONVERT by channel. -/
structure ChainOpCfg where
  code : Nat
  a : Int
  b : Int
  c : Int
  d : Int
  means : List (BitVec 32)
  scales : List (BitVec 32)
  deriving DecidableEq, Repr

/-- An input-pipeline chain (R291): ring, slot shape and format, scratch area, ops. -/
structure ChainCfg where
  index : Nat
  ringOffset : Nat
  depth : Nat
  height : Nat
  width : Nat
  chans : Nat
  format : Nat
  scratch : Nat
  ops : List ChainOpCfg
  deriving DecidableEq, Repr

/-- An entry of a core's residency list (R125): what stands in core SRAM from `dst` also stands at `offset` of a space, in 64-byte
units. -/
structure ResidentCfg where
  core : Nat
  dst : Nat
  space : Nat
  offset : Nat
  units : Nat
  deriving DecidableEq, Repr

/-- A tap plan record (R181, Table CONV-5), with the layer it belongs to: tap indices; classes on y and x, 0 INNER,
1 EDGE, 2 PAD; action, 0 KEEP, 1 DROP, 2 FOLD; reach beyond the near and the far edge, in pixels. -/
structure TapCfg where
  layer : Nat
  ty : Nat
  tx : Nat
  classY : Nat
  classX : Nat
  action : Nat
  reachNear : Nat
  reachFar : Nat
  deriving DecidableEq, Repr

/-- A partition's PROGRAM section; `taps` are the tap plan records (R181), `tablePages` the HBM pages of the KV table area (R207), `mailboxIn` and `mailboxOut` are the byte offsets in the line store of the areas that its
mailboxes use (R358, R359). -/
structure ProgramSec where
  build : Nat
  templates : List TemplateCfg
  needBandwidth : Nat
  weights : List WeightSetCfg
  chains : List ChainCfg
  seqDigest : BitVec 64
  recompute : Nat
  rangeCheck : Bool
  callTrace : Bool
  digestRing : Nat
  digestDepth : Nat
  mailboxIn : Option Nat
  mailboxOut : Option Nat
  residency : List ResidentCfg
  taps : List TapCfg
  tablePages : Nat
  fits : Bool
  digest : BitVec 512
  deriving DecidableEq, Repr

/-! ### The container (Tables ZLD-1, ZLD-2) -/

/-- The image header. -/
structure ImageHeader where
  magic : Nat
  format : Nat
  kind : Nat
  package : Nat
  variantMask : Nat
  minStepping : Nat
  epoch : Nat
  sectionCount : Nat
  totalLength : Nat
  build : Nat
  buildTime : Nat
  baseDigest : BitVec 512
  name : List Byte
  deriving DecidableEq, Repr

/-- A section directory entry. -/
structure DirEntry where
  ty : Nat
  scope : Nat
  flags : Nat
  offset : Nat
  length : Nat
  reserved : Nat
  digest : BitVec 512
  deriving DecidableEq, Repr

/-- An image as the module reads it (R46): header, directory, `body` the bytes between the directory and the signer's key, which hold
the sections at the directory's offsets, the key and the signature; and what the sections say.  `signs` is the digest over which the
signature verifies as ML-DSA-87 under `key`, if there is one.  `absent` and `inconsistent` name the first offending (directory index,
item) in what a section's bytes hold beside the fields of this model. -/
structure ImageFile where
  header : ImageHeader
  dir : List DirEntry
  body : List Byte
  structureSec : Option StructureSec
  pace : Option PaceSec
  safety : Option SafetySec
  tables : Option TablesSec
  partTables : List (Nat × PartTables)
  programs : List (Nat × ProgramSec)
  key : List Byte
  signature : List Byte
  signs : Option (BitVec 512)
  absent : Option (Nat × Nat)
  inconsistent : Option (Nat × Nat)
  deriving DecidableEq, Repr

/-- A serial frame as received (R305, R306): its bits in transmission order, whether the start bit was missing within 1.5
frame times, and whether SLO was low at idle. -/
structure SerialFrame where
  bits : List Bool
  startMissing : Bool
  idleLow : Bool
  deriving DecidableEq, Repr

/-- What a verdict leg delivers: its 128-byte record (Table SAFE-2), and the program outputs that enter the result: the
input digest (R407), payload bytes 120 to 255, and which of them are variable; `seam` is the seam (2 × side + index) of a
straddling part whose ejector the neighbour owns, and `expects` the seams across which a straddling part whose ejector this module owns
expects a contribution, as its program states (R20, R342), `blocks` the blocks of seams' check layers that it touches (seam, line count of
the first row), each of which is an expected contribution too (R405). -/
structure VerdictIn where
  record : List Byte
  seam : Option Nat
  expects : List (Fin 4)
  blocks : List (Fin 4 × BitVec 32)
  inputDigest : BitVec 256
  tail : List Byte
  variableMask : Nat
  deriving DecidableEq, Repr

/-- An up-link packet as received (R261, R262): the header of Table LANE-2, its data blocks, the CRC of its trailer, whether
a sync header inside it was invalid, and whether it found the lane's bridge full (R94). -/
structure Packet where
  head : BitVec 64
  data : List Byte
  crc : BitVec 32
  badSync : Bool
  bridgeFull : Bool
  deriving DecidableEq, Repr

/-- What a start finds (Tables BOOT-1, BOOT-2): whether the identity seed was reconstructed, tries of a TRIAL firmware slot
that did not reach its running row, copies of records whose CRC does not fit (record, copy: 0 or 1; numbered as Table KEEP-1 lists them, from 0;
9 the fence list, 10 the retire list), image slots that no longer match their digests (FULL slots 0 and 1, overlays 2 + 2 × partition + slot),
failed self-tests (unit, counted from 1 in the order of Table BOOT-2; pattern; byte address in the module's memories), TIME
ports with a link, PCI Express ports in L0, whether the HBM trained, the recorder's scan time and the start-up time until the links
train, in ms. -/
structure BootReport where
  pufOk : Bool
  tries : Nat
  torn : List (Nat × Nat)
  badSlots : List Nat
  failed : List (Nat × Nat × Nat)
  timeUp : Nat
  pcieUp : Nat
  hbmUp : Bool
  scanMs : Nat
  bootMs : Nat
  deriving DecidableEq, Repr

/-- What the cores and the checker find at a period boundary: the ticks that each physical core completed in the period that
ends, those of them outside every window, the ticks that a core still has to run of earlier sheets (R102), and the sheets whose
header is wrong, by logical core with the field: 0 magic, 1 CRC, 2 period number, 3 partition, 4 logical core (R249, R377); and the bridges
of lane transmit, peer, PCI Express and Ethernet transmit islands that filled in that period, each with its direction (R94). -/
structure PeriodIn where
  ticks : List Nat
  outside : List Nat
  overrun : List Nat
  bad : List (Fin 32 × Fin 5)
  full : List (Fin 126 × Fin 2)
  deriving DecidableEq, Repr

/-- The header of a DOE request (R89): the message code, the tag and the body length that it states. A message whose code no row of Table
KEEP-5 has is any of these commands with that code. -/
structure DoeHeader where
  code : BitVec 16
  tag : BitVec 32
  length : BitVec 16
  deriving DecidableEq, Repr

/-- A part window that the tracker closes, or a further observation of a part (R228, R239): its context, its tag, its new
tokens, and the prefix its sequence starts from. -/
structure WindowIn where
  ctx : Nat
  tag : BitVec 32
  tokens : Nat
  prefix_ : Option Nat
  deriving DecidableEq, Repr

/-- What a leg's last word leaves: part windows closed, the verge rows it read with the tags of the parts that touch them (seam,
line count, tags), sequences (by tag) that become prefixes, the digest of its
non-variable outputs (R409), and for an iteration's last leg the input digest, payload bytes 120 to 255 and which of them
are variable (Table HOST-5). -/
structure LegReport where
  windows : List WindowIn
  verges : List (Nat × Nat × List Nat)
  prefixes : List (BitVec 32 × Fin 64)
  digest : BitVec 256
  inputDigest : BitVec 256
  tail : List Byte
  variableMask : Nat
  deriving DecidableEq, Repr

/-- Board readings (Tables HW-15 to HW-18), in the units of their fields. -/
structure Telemetry where
  v48 : BitVec 16
  v24 : BitVec 16
  p48 : BitVec 16
  inlet : BitVec 12
  outlet : BitVec 12
  flow : BitVec 8
  die0 : BitVec 8
  die1 : BitVec 8
  hub : BitVec 8
  hbm : BitVec 8
  deriving DecidableEq, Repr

/-- A 128-bit word of a route sheet as it comes to issue on a core (R115, R156): the physical core, the group stream in which the sheet
places it (R157: 0 matrix, 1 vector, 2 scalar, 3 transfer), its offset in the sheet, in words, and the word. -/
structure Issue where
  core : CoreId
  group : Fin 4
  offset : BitVec 15
  word : BitVec 128
  deriving DecidableEq, Repr

/-- A memory line that holds an error (R389, R392): the raw bytes as read, the 4-bit byte checks and the stored CRC. -/
structure BadLine where
  raw : List Byte
  checks : List Nat
  crc : Nat
  deriving DecidableEq, Repr

/-- A PTP message as a TIME port receives it (R328, IEEE 1588): version, domain, the length the header claims and the bytes that
came, source port identity, sequence number, correction in 1/65,536 ns, two-step flag, the timestamp of its body, the port
identity it answers, the Announce data set (priority1, class, accuracy, variance, priority2, grandmaster identity, stepsRemoved),
whether it found the port's receive bridge full (R94), and the log message interval. -/
structure Ptp where
  version : Nat
  domain : Nat
  claimed : Nat
  length : Nat
  source : Nat
  seq : Nat
  correction : Int
  twoStep : Bool
  sec : Nat
  ns : Nat
  target : Nat
  dataset : List Nat
  bridgeFull : Bool
  interval : Int
  deriving DecidableEq, Repr

/-- A peer packet as received (R339): its lane of the side, and its header, padded payload and CRC (Table LANE-2, R262). Table PEER-1 gives
the payloads no byte layout, so what a packet says stands beside it as the command's own operand. -/
structure PeerHead where
  lane : Fin 2
  packet : Packet
  deriving DecidableEq, Repr

/-- A HELLO (Table PEER-1): node identifier, chain position, sequence compatibility digests of the partitions with seams. -/
structure Hello where
  node : BitVec 18
  position : BitVec 4
  digests : List (BitVec 64)
  deriving DecidableEq, Repr

/-- The content of a VERGE packet: the verge columns of rows of a seam from a line count on, or the digest of a block of its
check layer (Table INTEG-7). -/
inductive VergeIn where
  | rows (seam : Fin 2) (line : BitVec 32) (data : List (List Byte))
  | check (seam : Fin 2) (line : BitVec 32) (height layer : Nat) (digest : BitVec 256) (compat : BitVec 64)
  deriving DecidableEq, Repr

/-- What the read of a sample brings: whether the read of host memory succeeded, and the bytes read. -/
structure SampleIn where
  readOk : Bool
  bytes : List Byte
  deriving DecidableEq, Repr

/-- How a read of host memory ends (Table HOST-10): with data, with Unsupported Request, Completer Abort, or poisoned. -/
inductive DmaEnd where
  | data (bytes : List Byte)
  | unsupported
  | abort
  | poison
  deriving DecidableEq, Repr

/-- A block of a seam's check layer as this module computed it (R404): the seam (2 × side + index), the line count of its first
row, the tags of the parts that touch it. -/
structure SeamBlock where
  seam : Fin 4
  line : BitVec 32
  tags : List Nat
  deriving DecidableEq, Repr

/-- What resets the safe outputs or leaves the safe state (R379, R382): SAFE_CMD from a port, or the reset pulse on a field
input. -/
inductive ResetBy where
  | port (i : Port)
  | input (n : Fin 32)
  deriving DecidableEq, Repr

end Sys2Proof
end

