-- ==== Sys2Proof/Syntax.lean ====
section
/-! DEFINITION. The commands: one constructor for each row of the opcode table, with the operands that the row's rule names.
The table gives no bits to any row; the queue of the State holds commands as these terms. -/

namespace Sys2Proof

/-- A command of the block.  Each constructor carries its row's mnemonic and rule. -/
inductive Instr where
  /-- POWER_UP (R73). -/
  | powerUp (r : BootReport)
  /-- SUPPLY_DIP (R36). -/
  | supplyDip (us : Fin 1000)
  /-- BROWN_OUT (R37). -/
  | brownOut (v : BitVec 16)
  /-- OVER_VOLTAGE (R38). -/
  | overVoltage (v : BitVec 16)
  /-- OVERVOLTAGE_RESTART (R38). -/
  | overvoltageRestart (r : BootReport)
  /-- FIELD_SUPPLY_LOW (R35). -/
  | fieldSupplyLow (v : BitVec 16)
  /-- FIELD_SUPPLY_RETURN (R35). -/
  | fieldSupplyReturn (v : BitVec 16) (levels : Word)
  /-- GROUP_SUPPLY_LOW (R35). -/
  | groupSupplyLow (g : Fin 4) (low : Bool) (v : BitVec 16)
  /-- ENC_SUPPLY_FAULT (R27). -/
  | encSupplyFault (n : ChanId) (pin24 : Bool)
  /-- COOLANT_OUT_OF_RANGE (R40). -/
  | coolantOutOfRange (inlet : BitVec 12) (flow : BitVec 8)
  /-- DERATED (R41). -/
  | derated (junction : BitVec 8)
  /-- DERATE_GROW (R41). -/
  | derateGrow
  /-- DERATE_SHORTEN (R41). -/
  | derateShorten
  /-- THERMAL_SHUTDOWN (R40). -/
  | thermalShutdown (cause : Fin 3) (junction : BitVec 8) (flow : BitVec 8)
  /-- THERMAL_CONDITION_CLEARED (R40). -/
  | thermalConditionCleared (which : Fin 3)
  /-- CAGE_CHANGE (R258). -/
  | cageChange (cage : Fin 12) (inserted : Bool)
  /-- SERVICE_SESSION (R31). -/
  | serviceSession (opened : Bool)
  /-- CONSOLE_FIRMWARE_LOAD (R31). -/
  | consoleFirmwareLoad (ok : Bool) (digest : BitVec 512)
  /-- LOCATE_WRITE (R44). -/
  | locateWrite (port : Port) (on : Bool)
  /-- BOARD_TELEMETRY_REFRESH (R45). -/
  | boardTelemetryRefresh (t : Telemetry)
  /-- OPEN (R54). -/
  | openLoad (port : Port)
  /-- FETCH (R55). -/
  | fetch (port : Port) (img : ImageFile)
  /-- FETCH_DONE (R55). -/
  | fetchDone
  /-- COMMIT (R58). -/
  | commit (port : Port)
  /-- ABORT (R57). -/
  | abort (port : Port)
  /-- ZLD_SESSION_TIMEOUT (R57). -/
  | zldSessionTimeout
  /-- RESTART (R59). -/
  | restart (port : Port) (r : BootReport)
  /-- RELOAD_TIMEOUT (R62). -/
  | reloadTimeout (p : Part)
  /-- OP_SECONDS_SAVE (R81). -/
  | opSecondsSave
  /-- GET_IDENTITY (R89). -/
  | getIdentity (port : Port) (h : DoeHeader)
  /-- GET_MEASUREMENTS (R89). -/
  | getMeasurements (port : Port) (h : DoeHeader)
  /-- ATTEST (R89). -/
  | attest (port : Port) (h : DoeHeader) (nonce : BitVec 256)
  /-- OWNER_CHALLENGE (R85). -/
  | ownerChallenge (port : Port) (h : DoeHeader)
  /-- OWNER_PROVE (R84). -/
  | ownerProve (port : Port) (h : DoeHeader) (ok : Bool)
  /-- OWNER_CLAIM (R86). -/
  | ownerClaim (port : Port) (h : DoeHeader) (key : BitVec 512) (signers : List (BitVec 512)) (ok : Bool)
  /-- OWNER_TRANSFER (R86). -/
  | ownerTransfer (port : Port) (h : DoeHeader) (key : BitVec 512) (signers : List (BitVec 512)) (okOld : Bool) (okNew : Bool)
  /-- OWNER_SET_SIGNERS (R86). -/
  | ownerSetSigners (port : Port) (h : DoeHeader) (signers : List (BitVec 512)) (ok : Bool)
  /-- GET_RATCHETS (R89). -/
  | getRatchets (port : Port) (h : DoeHeader)
  /-- DOE_ABORT (R90). -/
  | doeAbort (port : Port)
  /-- CHALLENGE_EXPIRED (R85). -/
  | challengeExpired (port : Port)
  /-- PERIOD_BOUNDARY (R102). -/
  | periodBoundary (x : PeriodIn)
  /-- PACE_MISS (R100). -/
  | paceMiss (c : Option CoreId) (slip : BitVec 32)
  /-- SLACK_WINDOW (R103): per physical core the tick times it saw, in ps, and beside each how many ticks took it. -/
  | slackWindow (ticks : List (List (BitVec 12))) (counts : List (List Nat)) (hub : BitVec 12)
  /-- SLACK_LOG_WRITE (R104). -/
  | slackLogWrite
  /-- PLAN_EVALUATION (R106). -/
  | planEvaluation
  /-- OPEN_WINDOW (R107). -/
  | openWindow (port : Port) (minutes : BitVec 11)
  /-- CLOSE_WINDOW (R107). -/
  | closeWindow (port : Port)
  /-- PLAN_WINDOW_EXPIRED (R107). -/
  | planWindowExpired
  /-- HUBFW_LOAD (R111). -/
  | hubfwLoad (port : Port)
  /-- HUBFW_VERIFIED (R111). -/
  | hubfwVerified (ok : Bool) (digest : BitVec 512)
  /-- HANDOVER (R111). -/
  | handover (port : Port)
  /-- HANDOVER_DONE (R111). -/
  | handoverDone
  /-- CONFIRM (R111). -/
  | confirm (port : Port)
  /-- HUBFW_ABORT (R111). -/
  | hubfwAbort (port : Port)
  /-- STANDBY_EXPIRED (R112). -/
  | standbyExpired
  /-- HANDOVER_FAILED (R112). -/
  | handoverFailed
  /-- CORE_HANG (R123). -/
  | coreHang (c : CoreId)
  /-- DETOUR_REQUEST (R123). -/
  | detourRequest (port : Port) (c : CoreId)
  /-- FENCE_CLEAR (R131). -/
  | fenceClear (port : Port) (c : CoreId)
  /-- NOP (R157). -/
  | nop (x : Issue)
  /-- MLOAD (R155). -/
  | mload (x : Issue)
  /-- MSWAP (R155). -/
  | mswap (x : Issue)
  /-- MMA (R141). -/
  | mma (x : Issue)
  /-- ACLR (R140). -/
  | aclr (x : Issue)
  /-- ABIAS (R148). -/
  | abias (x : Issue)
  /-- ASCALE (R148). -/
  | ascale (x : Issue)
  /-- ADRAIN (R148). -/
  | adrain (x : Issue)
  /-- ASAVE (R155). -/
  | asave (x : Issue)
  /-- ARESTORE (R155). -/
  | arestore (x : Issue)
  /-- VADD (R151). -/
  | vadd (x : Issue)
  /-- VSUB (R151). -/
  | vsub (x : Issue)
  /-- VMUL (R151). -/
  | vmul (x : Issue)
  /-- VFMA (R151). -/
  | vfma (x : Issue)
  /-- VDIV (R152). -/
  | vdiv (x : Issue)
  /-- VMIN (R151). -/
  | vmin (x : Issue)
  /-- VMAX (R151). -/
  | vmax (x : Issue)
  /-- VABS (R155). -/
  | vabs (x : Issue)
  /-- VNEG (R155). -/
  | vneg (x : Issue)
  /-- VCMP (R155). -/
  | vcmp (x : Issue)
  /-- VSEL (R155). -/
  | vsel (x : Issue)
  /-- VCVT (R149). -/
  | vcvt (x : Issue)
  /-- VLOGIC (R155). -/
  | vlogic (x : Issue)
  /-- VSHIFT (R152). -/
  | vshift (x : Issue)
  /-- VADDS (R152). -/
  | vadds (x : Issue)
  /-- VSUBS (R152). -/
  | vsubs (x : Issue)
  /-- VFUNC (R153). -/
  | vfunc (x : Issue)
  /-- VRED (R154). -/
  | vred (x : Issue)
  /-- VASUM (R154). -/
  | vasum (x : Issue)
  /-- VMOV (R155). -/
  | vmov (x : Issue)
  /-- ADD (R155). -/
  | add (x : Issue)
  /-- SUB (R155). -/
  | sub (x : Issue)
  /-- MUL (R155). -/
  | mul (x : Issue)
  /-- AND (R155). -/
  | and (x : Issue)
  /-- OR (R155). -/
  | or (x : Issue)
  /-- XOR (R155). -/
  | xor (x : Issue)
  /-- SHL (R152). -/
  | shl (x : Issue)
  /-- SHR (R152). -/
  | shr (x : Issue)
  /-- SAR (R152). -/
  | sar (x : Issue)
  /-- SLT (R155). -/
  | slt (x : Issue)
  /-- LDI (R155). -/
  | ldi (x : Issue)
  /-- DIV (R152). -/
  | div (x : Issue)
  /-- REM (R152). -/
  | rem (x : Issue)
  /-- LD (R155). -/
  | ld (x : Issue)
  /-- ST (R155). -/
  | st (x : Issue)
  /-- FADD (R151). -/
  | fadd (x : Issue)
  /-- FSUB (R151). -/
  | fsub (x : Issue)
  /-- FMUL (R151). -/
  | fmul (x : Issue)
  /-- FFMA (R151). -/
  | ffma (x : Issue)
  /-- FDIV (R151). -/
  | fdiv (x : Issue)
  /-- FSQRT (R151). -/
  | fsqrt (x : Issue)
  /-- FCVT (R151). -/
  | fcvt (x : Issue)
  /-- RDV (R159). -/
  | rdv (x : Issue)
  /-- LOOP (R158). -/
  | loop (x : Issue)
  /-- WAITT (R170). -/
  | waitt (x : Issue)
  /-- WAITT_COMPLETE (R170). -/
  | waittComplete (c : CoreId)
  /-- VERGE_TIMEOUT (R171). -/
  | vergeTimeout (c : CoreId)
  /-- SIGNAL (R169). -/
  | signal (x : Issue)
  /-- TRANSFER (R117). -/
  | transfer (x : Issue)
  /-- ERUN (R185). -/
  | erun (x : Issue)
  /-- PRUN (R188). -/
  | prun (x : Issue)
  /-- EDGE_CALL_COMPLETE (R189). -/
  | edgeCallComplete (c : CoreId)
  /-- GATHER_KV (R217). -/
  | gatherKv (x : Issue)
  /-- WRITE_KV (R217). -/
  | writeKv (x : Issue)
  /-- WALK_CALL_COMPLETE (R217). -/
  | walkCallComplete (c : CoreId)
  /-- GATHER (R192). -/
  | gather (x : Issue)
  /-- SCATTER (R197). -/
  | scatter (x : Issue)
  /-- SEGRED (R197). -/
  | segred (x : Issue)
  /-- SCAN (R197). -/
  | scan (x : Issue)
  /-- COMPACT (R192). -/
  | compact (x : Issue)
  /-- SORT (R197). -/
  | sort (x : Issue)
  /-- MERGE (R197). -/
  | merge (x : Issue)
  /-- TOPK (R197). -/
  | topk (x : Issue)
  /-- UNIQUE (R197). -/
  | unique (x : Issue)
  /-- LABEL (R198). -/
  | label (x : Issue)
  /-- GRAPH_CC (R199). -/
  | graphCc (x : Issue)
  /-- EXPAND (R200). -/
  | expand (x : Issue)
  /-- IRREG_CALL_COMPLETE (R193). -/
  | irregCallComplete (c : CoreId)
  /-- CAPPEND (R398). -/
  | cappend (x : Issue)
  /-- CCHECK (R398). -/
  | ccheck (x : Issue)
  /-- CSTRIP (R398). -/
  | cstrip (x : Issue)
  /-- CRANGE (R401). -/
  | crange (x : Issue)
  /-- CCOMPARE (R403). -/
  | ccompare (x : Issue)
  /-- CHECK_CALL_COMPLETE (R400). -/
  | checkCallComplete (c : CoreId) (block : Option SeamBlock)
  /-- PREFIX_RETIRE (R224). -/
  | prefixRetire (port : Port) (p : Part) (target : BitVec 19)
  /-- SEQ_END (R224). -/
  | seqEnd (port : Port) (p : Part) (target : BitVec 19)
  /-- PAGE_QUERY (R224). -/
  | pageQuery (port : Port) (p : Part) (target : BitVec 19)
  /-- ADMIT (R229). -/
  | admitTemplate (port : Port) (p : Part) (t : BitVec 8)
  /-- RETIRE (R230). -/
  | retire (port : Port) (p : Part) (j : BitVec 8)
  /-- SET_WEIGHT (R236). -/
  | setWeight (port : Port) (p : Part) (j : BitVec 8)
  /-- MEASURE_SOLO (R244). -/
  | measureSolo (port : Port) (p : Part) (j : BitVec 8)
  /-- SET_QUOTA (R245). -/
  | setQuota (port : Port) (p : Part)
  /-- SET_BANDWIDTH (R245). -/
  | setBandwidth (port : Port) (p : Part)
  /-- SET_WINDOW (R245). -/
  | setWindow (port : Port) (p : Part) (l : BitVec 8)
  /-- BUILD_START (R228). -/
  | buildStart
  /-- BUILD_COMPLETE (R234). -/
  | buildComplete
  /-- LEG_COMPLETE (R226). -/
  | legComplete (c : CoreId) (k : Fin 256) (r : LegReport)
  /-- LANE_RETRAIN (R260). -/
  | laneRetrain (port : Port) (n : LaneId)
  /-- LANE_LOOP (R260). -/
  | laneLoop (port : Port) (n : LaneId) (loop : BitVec 2)
  /-- LANE_PRBS (R260). -/
  | lanePrbs (port : Port) (n : LaneId) (prbs : BitVec 2)
  /-- CLEAR_TEST (R260). -/
  | clearTest (port : Port) (n : LaneId)
  /-- LANE_DISABLE (R260). -/
  | laneDisable (port : Port) (n : LaneId)
  /-- LANE_ENABLE (R260). -/
  | laneEnable (port : Port) (n : LaneId)
  /-- LANE_REF_WAIT_DONE (R256). -/
  | laneRefWaitDone (n : LaneId)
  /-- BLOCK_LOCK (R256). -/
  | blockLock (n : LaneId)
  /-- TRAINING_WORD (R259). -/
  | trainingWord (n : LaneId) (w : BitVec 256)
  /-- LANE_UP (R256). -/
  | laneUp (n : LaneId)
  /-- LANE_TRAIN_TIMEOUT (R257). -/
  | laneTrainTimeout (n : LaneId)
  /-- LANE_TRAIN_RETRY (R257). -/
  | laneTrainRetry (n : LaneId)
  /-- LANE_DOWN (R258). -/
  | laneDown (n : LaneId)
  /-- RETRAIN_WAIT_EXPIRED (R268). -/
  | retrainWaitExpired (n : LaneId)
  /-- LINE_START (R263). -/
  | lineStart (n : LaneId) (p : Packet)
  /-- PIXELS (R263). -/
  | pixels (n : LaneId) (p : Packet)
  /-- LINE_END (R263). -/
  | lineEnd (n : LaneId) (p : Packet)
  /-- FRAME_MARK (R275). -/
  | frameMark (n : LaneId) (p : Packet)
  /-- CTRL_RESPONSE (R269). -/
  | ctrlResponse (n : LaneId) (p : Packet)
  /-- HEAD_NAK (R269). -/
  | headNak (n : LaneId) (p : Packet)
  /-- HEAD_RESYNC (R267). -/
  | headResync (n : LaneId) (p : Packet)
  /-- NAK_TIMEOUT (R266). -/
  | nakTimeout (n : LaneId) (k : Fin 8)
  /-- LANE_CTRL_TIMEOUT (R269). -/
  | laneCtrlTimeout (n : LaneId) (r : BitVec 16)
  /-- LINE_ENTERS_CHANNEL (R278). -/
  | lineEntersChannel (ch : Fin 16)
  /-- FRAME_TIMEOUT (R283). -/
  | frameTimeout (c : CtxId)
  /-- PARAM_LOAD (R276). -/
  | paramLoad (port : Port) (c : CtxId)
  /-- PARAM_LOAD_DONE (R276). -/
  | paramLoadDone (c : CtxId) (host : List Byte)
  /-- PARAM_COMMIT (R276). -/
  | paramCommit (port : Port) (c : CtxId)
  /-- PARAM_DISCARD (R276). -/
  | paramDiscard (port : Port) (c : CtxId)
  /-- CONTEXT_RESTART (R287). -/
  | contextRestart (port : Port) (c : CtxId)
  /-- GOLDEN_DUE (R285). -/
  | goldenDue (c : CtxId)
  /-- GOLDEN_RETRY (R285). -/
  | goldenRetry (c : CtxId)
  /-- GOLDEN_FORCED (R285). -/
  | goldenForced (c : CtxId)
  /-- GOLDEN_COMPLETE (R376). -/
  | goldenComplete (c : CtxId) (d : BitVec 256)
  /-- INGEST_START (R290). -/
  | ingestStart (port : Port) (p : Part)
  /-- INGEST_STOP (R290). -/
  | ingestStop (port : Port) (p : Part)
  /-- SET_SEED (R297). -/
  | setSeed (port : Port) (p : Part)
  /-- SET_EPOCH (R297). -/
  | setEpoch (port : Port) (p : Part)
  /-- INGEST_DOORBELL (R290). -/
  | ingestDoorbell (port : Port) (p : Part) (tail : BitVec 32)
  /-- DESCRIPTOR_READ (R290). -/
  | descriptorRead (p : Part) (r : Option (List Byte))
  /-- SAMPLE_COMPLETE (R296). -/
  | sampleComplete (p : Part) (pos : BitVec 32) (x : SampleIn)
  /-- SLOT_TIMEOUT (R292). -/
  | slotTimeout (p : Part) (pos : BitVec 32)
  /-- COUNT_CHANGE (R303). -/
  | countChange (n : ChanId) (levels : BitVec 3)
  /-- AMPLITUDE_LOSS (R308). -/
  | amplitudeLoss (n : ChanId)
  /-- INDEX_PULSE (R304). -/
  | indexPulse (n : ChanId)
  /-- SERIAL_SAMPLE (R305). -/
  | serialSample (n : ChanId)
  /-- SERIAL_FRAME_DONE (R306). -/
  | serialFrameDone (n : ChanId) (f : SerialFrame)
  /-- SPEED_STANDSTILL (R310). -/
  | speedStandstill (n : ChanId)
  /-- DIVIDER_TRIGGER (R312). -/
  | dividerTrigger (d : Fin 8)
  /-- TRIGGER_RELEASE (R313). -/
  | triggerRelease (d : Fin 8)
  /-- PULSE_WIDTH_END (R312). -/
  | pulseWidthEnd (d : Fin 8)
  /-- ARM (R314). -/
  | arm (p : Part) (r : List Byte)
  /-- MILEPOST_FIRE (R314). -/
  | milepostFire (n : ChanId)
  /-- PULSE_STEP_END (R316). -/
  | pulseStepEnd (n : ChanId) (e : Fin 4096)
  /-- PULSE_MAX_ON (R316). -/
  | pulseMaxOn (n : ChanId) (e : Fin 4096)
  /-- NO_VERDICT (R348). -/
  | noVerdict (p : Part) (tag : BitVec 32)
  /-- CLEAR_FAULT (R308). -/
  | clearFault (port : Port) (n : ChanId)
  /-- FIELD_INPUT_CHANGE (R318). -/
  | fieldInputChange (port : Fin 32) (level : Bool)
  /-- FIO_OUT_SET (R319). -/
  | fioOutSet (port : Port) (mask : Word)
  /-- FIO_OUT_CLR (R319). -/
  | fioOutClr (port : Port) (mask : Word)
  /-- OUTPUT_CLEAR (R321). -/
  | outputClear (port : Port) (o : BitVec 6)
  /-- FIO_OUTPUT_FAULT (R321). -/
  | fioOutputFault (o : Fin 32) (kind : Fin 5) (mA : BitVec 16)
  /-- OUTPUT_RETRY (R321). -/
  | outputRetry (o : Fin 32)
  /-- SYNC (R330). -/
  | sync (tp : Fin 2) (m : Ptp)
  /-- FOLLOW_UP (R328). -/
  | followUp (tp : Fin 2) (m : Ptp)
  /-- DELAY_REQ (R328). -/
  | delayReq (tp : Fin 2) (m : Ptp)
  /-- DELAY_RESP (R328). -/
  | delayResp (tp : Fin 2) (m : Ptp)
  /-- ANNOUNCE (R328). -/
  | announce (tp : Fin 2) (m : Ptp)
  /-- PDELAY_REQ (R329). -/
  | pdelayReq (tp : Fin 2) (m : Ptp)
  /-- PDELAY_RESP (R329). -/
  | pdelayResp (tp : Fin 2) (m : Ptp)
  /-- PDELAY_RESP_FOLLOW_UP (R329). -/
  | pdelayRespFollowUp (tp : Fin 2) (m : Ptp)
  /-- SYNC_TRANSMIT (R328). -/
  | syncTransmit (tp : Fin 2)
  /-- ANNOUNCE_TRANSMIT (R328). -/
  | announceTransmit (tp : Fin 2)
  /-- MASTER_LOST (R330). -/
  | masterLost
  /-- NON_PTP_FRAME (R338). -/
  | nonPtpFrame (tp : Fin 2)
  /-- STEP (R332). -/
  | step (port : Port)
  /-- SLEW (R332). -/
  | slew (port : Port)
  /-- START_AT (R335). -/
  | startAt (port : Port) (p : Part)
  /-- START_CANCEL (R335). -/
  | startCancel (port : Port) (p : Part)
  /-- LAUNCH_RECORD (R337). -/
  | launchRecord (tp : Fin 2) (p : Part) (r : List Byte)
  /-- FRAME_LAUNCH (R338). -/
  | frameLaunch (tp : Fin 2)
  /-- HELLO (R339). -/
  | hello (side : Fin 2) (head : PeerHead) (h : Hello)
  /-- PEER_HELLO_RETRY (R339). -/
  | peerHelloRetry (side : Fin 2)
  /-- PEER_DOWN (R340). -/
  | peerDown (side : Fin 2)
  /-- VERGE (R341). -/
  | verge (side : Fin 2) (head : PeerHead) (v : VergeIn)
  /-- SEAM_CHECK_MISSING (R405). -/
  | seamCheckMissing (seam : Fin 4) (line : BitVec 32)
  /-- CONTRIB (R342). -/
  | contrib (side : Fin 2) (head : PeerHead) (r : List Byte) (tracked : Option (BitVec 32))
  /-- ACK (R340). -/
  | ack (side : Fin 2) (head : PeerHead) (seq : BitVec 16)
  /-- PEER_NAK (R340). -/
  | peerNak (side : Fin 2) (head : PeerHead) (seq : BitVec 16)
  /-- REJECT (R342). -/
  | reject (side : Fin 2) (head : PeerHead) (key : BitVec 64) (reason : BitVec 8)
  /-- CREDIT (R340). -/
  | credit (side : Fin 2) (head : PeerHead) (n : BitVec 16)
  /-- PORT_RESET (R361). -/
  | portReset (port : Port) (cause : Fin 5)
  /-- LINK_UP (R361). -/
  | linkUp (port : Port) (speed : BitVec 3) (width : BitVec 5)
  /-- CONFIG_REQUEST (R74). -/
  | configRequest (port : Port) (reg : BitVec 10)
  /-- RESULT_STATE_READ (R350). -/
  | resultStateRead (port : Port) (p : Part) (k : BitVec 12)
  /-- HOST_RES_ACK (R351). -/
  | hostResAck (port : Port) (p : Part) (seq : BitVec 32)
  /-- HOST_RES_CFG_WRITE (R346). -/
  | hostResCfgWrite (port : Port) (p : Part) (v : Word)
  /-- HOST_PUSH_HEAD (R352). -/
  | hostPushHead (port : Port) (p : Part) (seq : BitVec 32)
  /-- COALESCE_TIMER (R353). -/
  | coalesceTimer (port : Port) (p : Part)
  /-- HOST_SQ_TAIL (R354). -/
  | hostSqTail (port : Port) (r : Fin 4) (tail : BitVec 32)
  /-- COPY_IN (R354). -/
  | copyIn (port : Port) (r : Fin 4) (d : List Byte)
  /-- COPY_OUT (R354). -/
  | copyOut (port : Port) (r : Fin 4) (d : List Byte)
  /-- RELEASE (R355). -/
  | release (port : Port) (r : Fin 4) (d : List Byte)
  /-- BIND_WEIGHTS (R356). -/
  | bindWeights (port : Port) (r : Fin 4) (d : List Byte)
  /-- WEIGHTS_DIGEST_DONE (R356). -/
  | weightsDigestDone (port : Port) (r : Fin 4)
  /-- FENCE (R355). -/
  | fence (port : Port) (r : Fin 4) (d : List Byte)
  /-- DMA_TIMEOUT (R360). -/
  | dmaTimeout (port : Port) (r : Fin 4)
  /-- HOST_MBOX_POST (R358). -/
  | hostMboxPost (port : Port) (p : Part) (number : Word)
  /-- BAR4_ACCESS (R357). -/
  | bar4Access (port : Port) (off : BitVec 32) (w : Option Word)
  /-- UNMAPPED_ACCESS (R433). -/
  | unmappedAccess (port : Port) (bar2 : Bool) (off : BitVec 26) (bytes : BitVec 8) (write : Bool)
  /-- VERDICT_RECORD (R368). -/
  | verdictRecord (p : Part) (v : VerdictIn)
  /-- WATCHDOG_MISS (R371). -/
  | watchdogMiss (w : Fin 64) (early : Bool)
  /-- LOCKSTEP_MISMATCH (R366). -/
  | lockstepMismatch (addr : Word)
  /-- TEST_SLICE (R374). -/
  | testSlice (t : Fin 9) (unit : Fin 64) (bound : BitVec 8) (left : BitVec 8) (waiting : Bool) (ends : Fin 4)
  /-- SLICE_OVERRUN (R374). -/
  | sliceOverrun
  /-- TEST_OVERDUE (R375). -/
  | testOverdue (t : Fin 9)
  /-- CONTEXT_NO_REFERENCE (R372). -/
  | contextNoReference (c : CtxId)
  /-- CHECKER_START_DONE (R382). -/
  | checkerStartDone
  /-- SAFE_INPUT_CHANGE (R378). -/
  | safeInputChange (port : Fin 2) (ch : Fin 2) (level : Bool)
  /-- SAFE_INPUT_DEMAND (R378). -/
  | safeInputDemand (port : Fin 2)
  /-- SAFE_INPUT_FAULT (R378). -/
  | safeInputFault (port : Fin 2) (ch : Fin 2) (test : Bool)
  /-- TEST_PULSE (R378). -/
  | testPulse (src : Fin 2) (follow : BitVec 4) (returned : BitVec 4)
  /-- INPUT_FAULT_RECOVERED (R378). -/
  | inputFaultRecovered (port : Fin 2)
  /-- OUTPUT_TEST (R379). -/
  | outputTest (o : Fin 2) (ch : Fin 2) (start : Bool) (readback : Bool)
  /-- SAFE_RESET (R382). -/
  | safeReset (by_ : ResetBy)
  /-- FORCE_SAFE (R380). -/
  | forceSafe (port : Port)
  /-- LOCK (R384). -/
  | lock (port : Port)
  /-- UNLOCK (R384). -/
  | unlock (port : Port)
  /-- SAFETY_MESSAGE (R383). -/
  | safetyMessage
  /-- SCRUB_READ (R395). -/
  | scrubRead (kind : Fin 4) (line : BitVec 32) (found : Option BadLine) (hbm : Fin 5)
  /-- SCRUB_WRITE_BACK (R395). -/
  | scrubWriteBack (kind : Fin 3) (line : BitVec 32) (accessed : Bool)
  /-- TRIPLE_VOTE (R397). -/
  | tripleVote (upsets : List (Fin 3 × Fin 256 × Word))
  /-- TRACE_SET (R409). -/
  | traceSet (port : Port) (level : BitVec 2) (parts : BitVec 8)
  /-- CAPTURE_CLEAR (R389). -/
  | captureClear (port : Port)
  /-- WAYMARK_WRITE (R419). -/
  | waymarkWrite
  /-- SECTOR_ERASED (R418). -/
  | sectorErased
  /-- BUDGET_REFILL (R420). -/
  | budgetRefill
  /-- BUCKET_REFILL (R422). -/
  | bucketRefill
  /-- WAYMARK_SUMMARY (R422). -/
  | waymarkSummary (code : Nat) (par : Nat)
  /-- FREEZE (R424). -/
  | freeze (port : Port)
  /-- THAW (R424). -/
  | thaw (port : Port)
  /-- FREEZE_TIMEOUT (R424). -/
  | freezeTimeout
  /-- WAYM_READ (R423). -/
  | waymRead (port : Port)
  /-- SNAPSHOT (R428). -/
  | snapshot (port : Port)
  /-- TAG_ON (R429). -/
  | tagOn (port : Port)
  /-- TAG_OFF (R429). -/
  | tagOff (port : Port)
  /-- PERF_EVENT_WRITE (R427). -/
  | perfEventWrite (port : Port) (c : CoreId) (k : Fin 8) (v : BitVec 16)
  /-- BW_WINDOW_END (R430). -/
  | bwWindowEnd (port : Port)
  /-- APERTURE_READ (R434). -/
  | apertureRead (port : Port) (off : BitVec 24) (idle : Bool) (found : Option BadLine)
  /-- LOW_WORD_READ (R13). -/
  | lowWordRead (port : Port) (off : BitVec 26)
  /-- RC_READ (R15). -/
  | rcRead (port : Port) (off : BitVec 26)
  /-- REGISTER_WRITE (R435). -/
  | registerWrite (port : Port) (bar2 : Bool) (off : BitVec 26) (v : Word)
  /-- METRONOME_UNLOCKED (R114). -/
  | metronomeUnlocked (locked : Bool) (cause : BitVec 32)
  /-- SAFE_MSG_LINK (R383). -/
  | safeMsgLink (tp : Fin 2) (up : Bool)
  /-- DMA_READ_COMPLETION (R360). -/
  | dmaReadCompletion (port : Port) (r : Fin 4) (e : DmaEnd)
  /-- HOST_SQ_CFG_WRITE (R354). -/
  | hostSqCfgWrite (port : Port) (r : Fin 4) (v : Word)
  /-- SAFE_INPUT_DEMAND_CLEARED (R378). -/
  | safeInputDemandCleared (port : Fin 2)
  /-- OUTPUT_COOLED (R321). -/
  | outputCooled (o : Fin 32)
  /-- ENC_SUPPLY_RESTORED (R308). -/
  | encSupplyRestored (n : ChanId) (pin24 : Bool)
  /-- AMPLITUDE_RETURN (R308). -/
  | amplitudeReturn (n : ChanId)
  /-- DELAY_REQ_TRANSMIT (R328). -/
  | delayReqTransmit
  /-- PDELAY_REQ_TRANSMIT (R329). -/
  | pdelayReqTransmit (tp : Fin 2)
  deriving DecidableEq, Repr

end Sys2Proof
end

