-- ==== Sys2Proof/Decode.lean ====
section
/-! DEFINITION. Commands from words: the opcode table gives no bits to any row, so that no word spells a command.  The fields
of a 128-bit sheet word are read in Machine/Descriptors.lean. -/

namespace Sys2Proof

/-- The command that a word spells by the table's bits: none, since no row of the table has bits. -/
def decodeTableWord (_nbits _w : Nat) : Option Instr := none

end Sys2Proof
end

