-- ==== Sys2Proof/Config.lean ====
section
/-! DEFINITION. What an implementation fixes, and the free values: constants without a body, so that nothing can be proved
of their values.  A function from `Nat` is applied to the State's counter `free`, which every use advances. -/

namespace Sys2Proof.Config

/-- A value that the spec leaves open: 64 bits, for the use number of the State's counter `free`. -/
opaque freeWord : Nat → BitVec 64

/-- Hub entropy (R85 nonces, R159 sources, R429 positions): 256 bits for each use. -/
opaque entropy : Nat → BitVec 256

/-- Chendatex has published this version of the function tables (R49). -/
opaque publishedVersion : BitVec 16 → Bool

/-- The package stepping (CAP_ID.stepping, Table MAP-4). -/
opaque stepping : BitVec 8

/-- The working space in KiB that a parameter set takes in the line store (R277, ISP_LINESTORE), by the set's digest: the
spec gives the limit and not the sizes. -/
opaque workKib : BitVec 256 → BitVec 16

/-- The SHA3-512 digest of the hub firmware delivered in slot A. -/
opaque factoryFirmware : BitVec 512

/-- The SHA3-512 digest of the Chendatex commissioning key in the boot ROM (R50). -/
opaque commissioningKey : BitVec 512

/-- Byte `i` of the identity record from byte 12 on (Table KEEP-3): manufacture date, CA digest, identity key, signature. -/
opaque identityByte : Nat → BitVec 8

/-- Byte `i` of the ML-DSA-87 signature by the identity key over a message digest (R89). -/
opaque signByte : BitVec 512 → Nat → BitVec 8

/-- The arrangement of the 4-bit Hamming check of a data byte (R388): the spec names the code and does not list its columns. The
value for bit `j` picks the column among those left. -/
opaque checkColumn : Nat → Nat

/-- The magnitude of the most negative integer of a format, where VABS or VNEG asks for one: R152 states no result. -/
opaque absLeast : BitVec 4 → BitVec 64

/-- S of the ACC80 image of a cell in FP32 mode, by its FP32 code: Table ARITH-5 gives the layout of anchored cells. -/
opaque rawCell : BitVec 32 → BitVec 80

/-- The relations in which the condition imm10 of VCMP holds: bit 0 less, 1 equal, 2 greater, 3 unordered (Table ARITH-11
names the condition and gives no codes). -/
opaque vcmpHolds : BitVec 10 → BitVec 4

/-- The PTP clock identity of the module (IEEE 1588, cited by R328; the spec gives none). -/
opaque clockIdentity : BitVec 64

/-- clockClass while time is VALID, clockAccuracy and variance of the module's own data set, which R328 leaves open. -/
opaque clockClassValid : BitVec 8
opaque clockAccuracy : BitVec 8
opaque clockVariance : BitVec 16

/-- The log message interval of a Delay_Resp (IEEE 1588, cited by R328; the STRUCTURE item ptp_role sets none). -/
opaque logDelayReq : BitVec 8

/-- Receive buffers, in 4,096-byte units, that a side grants when it comes up (R340 gives no number). -/
opaque peerBuffers : BitVec 16

/-- The Chendatex PCI-SIG vendor identifier (Table HOST-1, which gives no number). -/
opaque vendorId : BitVec 16

/-- The input digest of an ingest batch (R298), which names what it is formed from and gives no layout. -/
opaque adaptDigest : List (BitVec 8) → BitVec 256

/-- Sample `i` of a JPEG file, by the inverse DCT, up-sampling and colour conversion of the host library (R293), which gives none of them. -/
opaque jpegSample : List (BitVec 8) → Nat → BitVec 16

end Sys2Proof.Config
end

