-- ==== Sys2Proof/Machine/Codes.lean ====
section
/-! DEFINITION. The status and waymark codes (R439; Tables HW-21, ZLD-16, KEEP-9, PACE-8, CORE-7, ARITH-16, CONV-12,
IRR-7, KV-9, ROUTE-12, LANE-8, ISP-12, INGEST-8, MOT-10, TIME-6, HOST-13, SAFE-13, INTEG-14, WAYM-5 and rule R440), each
with the parameters its table lists, their severity (R440, Table MAP-5) and their source unit (R445, Table WAYM-2). -/

namespace Sys2Proof.Machine

namespace Code

/-- Table HW-21: +48V in 10 mV at detection. -/
def BROWN_OUT : Nat := 0xF001
/-- Table HW-21: +48V in 10 mV at detection. -/
def OVER_VOLTAGE : Nat := 0xF002
/-- Table HW-21: duration in µs. -/
def SUPPLY_DIP : Nat := 0xF003
/-- Table HW-21: FIELD-PWR in 10 mV; set or cleared. -/
def FIELD_SUPPLY_LOW : Nat := 0xF004
/-- Table HW-21: group number; L+ in 10 mV; set or cleared. -/
def GROUP_SUPPLY_LOW : Nat := 0xF005
/-- Table HW-21: position channel; 5 V or 24 V pin. -/
def ENC_SUPPLY_FAULT : Nat := 0xF006
/-- Table HW-21: inlet, flow; set or cleared. -/
def COOLANT_OUT_OF_RANGE : Nat := 0xF010
/-- Table HW-21: hottest junction; requested pace in ps. -/
def DERATED : Nat := 0xF011
/-- Table HW-21: cause; hottest junction; flow. -/
def THERMAL_SHUTDOWN : Nat := 0xF012
/-- Table HW-21: cage designator; inserted or removed. -/
def CAGE_CHANGE : Nat := 0xF020
/-- Table HW-21: opened or closed; firmware slot if loaded. -/
def SERVICE_SESSION : Nat := 0xF030
/-- Table ZLD-16: header byte offset. -/
def ZLD_BAD_FORMAT : Nat := 0xE001
/-- Table ZLD-16: package; variant_mask; min_stepping. -/
def ZLD_BAD_TARGET : Nat := 0xE002
/-- Table ZLD-16: first 4 bytes of the key digest. -/
def ZLD_SIGNER_UNKNOWN : Nat := 0xE003
/-- Table ZLD-16: port. -/
def ZLD_SIGNATURE_FAIL : Nat := 0xE004
/-- Table ZLD-16: section index. -/
def ZLD_SECTION_DIGEST : Nat := 0xE005
/-- Table ZLD-16: image epoch; module epoch. -/
def ZLD_EPOCH_LOW : Nat := 0xE006
/-- Table ZLD-16: partition. -/
def ZLD_BASE_MISMATCH : Nat := 0xE007
/-- Table ZLD-16: section; item. -/
def ZLD_ABSENT_UNIT : Nat := 0xE008
/-- Table ZLD-16: section; item. -/
def ZLD_INCONSISTENT : Nat := 0xE009
/-- Table ZLD-16: port. -/
def ZLD_SAFETY_LOCKED : Nat := 0xE00A
/-- Table ZLD-16: ratchet. -/
def ZLD_RATCHET_EXHAUSTED : Nat := 0xE00B
/-- Table ZLD-16: port; image kind. -/
def ZLD_ROLE : Nat := 0xE00C
/-- Table ZLD-16: requesting port; session port. -/
def ZLD_BUSY : Nat := 0xE00D
/-- Table ZLD-16: port; cause: ABORT, reset, removal, timeout. -/
def ZLD_ABORTED : Nat := 0xE00E
/-- Table ZLD-16: port; command value. -/
def ZLD_BAD_COMMAND : Nat := 0xE00F
/-- Table ZLD-16: kind; epoch; build. -/
def ZLD_COMMITTED : Nat := 0xE010
/-- Table ZLD-16: target; period number. -/
def ZLD_LANDED : Nat := 0xE011
/-- Table ZLD-16: partition; build. -/
def ZLD_SUPERSEDED : Nat := 0xE012
/-- Table ZLD-16: slot used. -/
def ZLD_BOOT_FALLBACK : Nat := 0xE013
/-- Table ZLD-16: —. -/
def ZLD_NO_IMAGE : Nat := 0xE014
/-- Table ZLD-16: partition; parts and iterations ended by R62. -/
def ZLD_OLD_PARTS_ENDED : Nat := 0xE015
/-- Table KEEP-9: record. -/
def KEEP_WRITE_TORN : Nat := 0xE040
/-- Table KEEP-9: ratchet; remaining. -/
def KEEP_RATCHET_SPENT : Nat := 0xE041
/-- Table KEEP-9: ratchet; requesting port. -/
def KEEP_RATCHET_EMPTY : Nat := 0xE042
/-- Table KEEP-9: attempts. -/
def KEEP_IDENTITY_FAIL : Nat := 0xE043
/-- Table KEEP-9: port; signer count. -/
def KEEP_OWNER_CLAIMED : Nat := 0xE044
/-- Table KEEP-9: port; ownership remaining. -/
def KEEP_OWNER_TRANSFERRED : Nat := 0xE045
/-- Table KEEP-9: port; signer count. -/
def KEEP_SIGNERS_CHANGED : Nat := 0xE046
/-- Table KEEP-9: port; message code. -/
def KEEP_PROOF_FAIL : Nat := 0xE047
/-- Table KEEP-9: port; byte offset. -/
def KEEP_DOE_MALFORMED : Nat := 0xE048
/-- Table KEEP-9: —. -/
def KEEP_BASELINE_ABSENT : Nat := 0xE049
/-- Table KEEP-9: power-cycle count; 0 = cold, 1 = RESTART. -/
def BOOT_START : Nat := 0xE100
/-- Table KEEP-9: slot used; tries. -/
def BOOT_FW_FALLBACK : Nat := 0xE101
/-- Table KEEP-9: unit; pattern; address. -/
def BOOT_SELFTEST_FAIL : Nat := 0xE102
/-- Table KEEP-9: duration in ms. -/
def BOOT_COMPLETE : Nat := 0xE103
/-- Table KEEP-9: link kind; link number. -/
def BOOT_TRAINING_FAIL : Nat := 0xE104
/-- Table PACE-8: physical core; slip in ticks; pace in ps. -/
def PACE_MISS : Nat := 0x1001
/-- Table PACE-8: partition; physical core; overrun in ticks. -/
def PACE_OVERRUN : Nat := 0x1002
/-- Table PACE-8: physical core; corrected slack in ps. -/
def SLACK_LOW : Nat := 0x1003
/-- Table PACE-8: die; new voltage in mV. -/
def VOLTAGE_RAISED : Nat := 0x1004
/-- Table PACE-8: proposed pace; die at ceiling. -/
def PACE_PROPOSED : Nat := 0x1005
/-- Table PACE-8: old pace; new pace; cause: PLAN, DERATE, RESTORE. -/
def PACE_CHANGED : Nat := 0x1006
/-- Table PACE-8: rated_pace; planned pace. -/
def REDUCED_RATING : Nat := 0x1007
/-- Table PACE-8: least hub slack in ps. -/
def HUB_SLACK_LOW : Nat := 0x1008
/-- Table PACE-8: port; opened or closed; minutes. -/
def PLAN_WINDOW : Nat := 0x1009
/-- Table PACE-8: cause. -/
def METRONOME_UNLOCKED : Nat := 0x100A
/-- Table PACE-8: island bit number; direction. -/
def BRIDGE_FULL : Nat := 0x100B
/-- Table PACE-8: new slot; period number. -/
def HANDOVER_DONE : Nat := 0x100C
/-- Table PACE-8: slot; cause: VERIFY, WATCHDOG, ABORT. -/
def HANDOVER_FAILED : Nat := 0x100D
/-- Table PACE-8: port; register offset. -/
def PACE_ROLE : Nat := 0x100E
/-- Table CORE-7: physical core; cause code; aborted leg. -/
def CORE_FAILED : Nat := 0x2001
/-- Table CORE-7: failed physical core; spare physical core; landing period number. -/
def CORE_DETOUR : Nat := 0x2002
/-- Table CORE-7: logical core; partition. -/
def CORE_LOST : Nat := 0x2003
/-- Table CORE-7: physical core; test. -/
def SPARE_FAILED : Nat := 0x2004
/-- Table CORE-7: port; physical core; reason: ROLE, NOT_ACTIVE, NO_SPARE, AGE. -/
def DETOUR_REFUSED : Nat := 0x2005
/-- Table CORE-7: port; physical core. -/
def CORE_FENCE_CLEARED : Nat := 0x2006
/-- Table CORE-7: port; register offset. -/
def CORE_ROLE : Nat := 0x2007
/-- Table CORE-7: port; command value. -/
def CORE_BAD_COMMAND : Nat := 0x2008
/-- Table CORE-7: copy used. -/
def FENCE_LIST_TORN : Nat := 0x2009
/-- Table ARITH-16: partition; leg; breached cells; first row and column. -/
def ANCHOR_BREACH : Nat := 0x2010
/-- Table ARITH-16: partition; leg; non-finite cells. -/
def NONFINITE_OPERAND : Nat := 0x2011
/-- Table ARITH-16: physical core; sheet offset in words; class and op. -/
def ILLEGAL_WORD : Nat := 0x2012
/-- Table ARITH-16: partition; leg; count. -/
def INT_DIV_ZERO : Nat := 0x2013
/-- Table ARITH-16: partition; leg; samples voided by R146. -/
def BREACH_VOID : Nat := 0x2014
/-- Table CONV-12: partition; leg; token; expected and found generation. -/
def VERGE_SKEW : Nat := 0x2020
/-- Table CONV-12: partition; leg; token; generation. -/
def VERGE_TIMEOUT : Nat := 0x2021
/-- Table CONV-12: partition; leg; breached columns. -/
def FOLD_BREACH : Nat := 0x2022
/-- Table CONV-12: partition; leg; candidates above threshold; M. -/
def POST_TRUNCATED : Nat := 0x2023
/-- Table CONV-12: partition; leg; candidates dropped. -/
def POST_NONFINITE : Nat := 0x2024
/-- Table CONV-12: kind: EDGE or POST; cluster or die; test. -/
def ENGINE_FAILED : Nat := 0x2025
/-- Table IRR-7: partition; leg; entries dropped. -/
def IRREG_OVERFLOW : Nat := 0x2030
/-- Table IRR-7: partition; leg; count. -/
def IRREG_INDEX_RANGE : Nat := 0x2031
/-- Table IRR-7: partition; leg; op. -/
def IRREG_BAD_INPUT : Nat := 0x2032
/-- Table IRR-7: partition; leg; rounds. -/
def IRREG_NOT_CONVERGED : Nat := 0x2033
/-- Table IRR-7: partition; leg; samples voided by R202. -/
def IRREG_VOID : Nat := 0x2034
/-- Table KV-9: partition; sequence; charge in pages. -/
def KV_JOIN_WAIT : Nat := 0x7001
/-- Table KV-9: partition; charge; quota; set or cleared. -/
def KV_OVER_QUOTA : Nat := 0x7002
/-- Table KV-9: partition; sequence; max_len. -/
def KV_LENGTH_LIMIT : Nat := 0x7003
/-- Table KV-9: partition; leg; snapshot generation. -/
def KV_SNAPSHOT_EXPIRED : Nat := 0x7004
/-- Table KV-9: partition; leg; page number. -/
def KV_SHARED_WRITE : Nat := 0x7005
/-- Table KV-9: partition; prefix; pages. -/
def KV_PREFIX_MADE : Nat := 0x7006
/-- Table KV-9: partition; prefix; generation. -/
def KV_PREFIX_RETIRED : Nat := 0x7007
/-- Table KV-9: port; command; target. -/
def KV_CMD_REFUSED : Nat := 0x7008
/-- Table KV-9: partition; leg; pages needed; capacity. -/
def KV_WALK_OVERFLOW : Nat := 0x7009
/-- Table KV-9: cluster; test. -/
def KV_WALKER_FAILED : Nat := 0x700A
/-- Table KV-9: partition; sequence; port. -/
def KV_SEQ_ENDED : Nat := 0x700B
/-- Table ROUTE-12: port; job; template; landing period. -/
def JOB_ADMITTED : Nat := 0x3001
/-- Table ROUTE-12: port; partition; reason. -/
def ADMIT_REFUSED : Nat := 0x3002
/-- Table ROUTE-12: job; parts ended. -/
def JOB_RETIRED : Nat := 0x3003
/-- Table ROUTE-12: partition; job; leg. -/
def LEG_DEFERRED : Nat := 0x3004
/-- Table ROUTE-12: partition; worst-case ticks; pace. -/
def FIT_LOST : Nat := 0x3005
/-- Table ROUTE-12: partition; worst-case ticks; pace. -/
def FIT_RESTORED : Nat := 0x3006
/-- Table ROUTE-12: partition; period number. -/
def BUILD_LATE : Nat := 0x3007
/-- Table ROUTE-12: partition; job; slots deferred. -/
def BATCH_DEFERRED : Nat := 0x3008
/-- Table ROUTE-12: job; slow-down; limit. -/
def SLOWDOWN_HIGH : Nat := 0x3009
/-- Table ROUTE-12: job; baseline in ns. -/
def SOLO_BASELINE : Nat := 0x300A
/-- Table ROUTE-12: port; partition or job; kind; new value. -/
def SHARE_CHANGED : Nat := 0x300B
/-- Table ROUTE-12: port; partition; reason. -/
def CUT_REFUSED : Nat := 0x300C
/-- Table ROUTE-12: partition; held; quota; set or cleared. -/
def HBM_OVER_QUOTA : Nat := 0x300D
/-- Table ROUTE-12: logical core; job; leg. -/
def SHEET_FULL : Nat := 0x300E
/-- Table ROUTE-12: logical core; period number; check. -/
def SHEET_REJECTED : Nat := 0x300F
/-- Table ROUTE-12: port; command. -/
def ROUTE_ROLE : Nat := 0x3010
/-- Table ROUTE-12: port; command value. -/
def ROUTE_BAD_COMMAND : Nat := 0x3011
/-- Table LANE-8: lane; rate; trainings. -/
def LANE_UP : Nat := 0x4001
/-- Table LANE-8: lane; invalid headers counted. -/
def LANE_DOWN : Nat := 0x4002
/-- Table LANE-8: lane; state reached; cause: TIMEOUT, HEAD_MISMATCH. -/
def LANE_TRAIN_FAIL : Nat := 0x4003
/-- Table LANE-8: lane; stream; first and last sequence number; cause: the RESYNC cause byte (R266, R267), or 0xFE for lines lost through loss of lock or while the lane was down (R268). -/
def LANE_LINE_LOST : Nat := 0x4004
/-- Table LANE-8: lane; stream; cause of Table LANE-6. -/
def LANE_VIOLATION : Nat := 0x4005
/-- Table LANE-8: lane; head register. -/
def LANE_CTRL_TIMEOUT : Nat := 0x4006
/-- Table LANE-8: lane; loop or PRBS; entered or left. -/
def LANE_TEST : Nat := 0x4007
/-- Table LANE-8: port; lane; reason: ROLE, AGE. -/
def LANE_REFUSED : Nat := 0x4008
/-- Table LANE-8: port; register offset. -/
def LANE_ROLE : Nat := 0x4009
/-- Table LANE-8: port; lane; value. -/
def LANE_BAD_COMMAND : Nat := 0x400A
/-- Table ISP-12: context; port; digest bytes 0 to 3. -/
def ISP_PARAM_LOADED : Nat := 0x5001
/-- Table ISP-12: context; reason; byte offset. -/
def ISP_PARAM_REFUSED : Nat := 0x5002
/-- Table ISP-12: context; frame number; bank. -/
def ISP_BANK_SWAPPED : Nat := 0x5003
/-- Table ISP-12: context; row flag; line count. -/
def ISP_LINE_FAULT : Nat := 0x5004
/-- Table ISP-12: context; frame number; frame flags. -/
def ISP_FRAME_FAULT : Nat := 0x5005
/-- Table ISP-12: channel; context; lines. -/
def LAYBY_LINE_LOST : Nat := 0x5006
/-- Table ISP-12: channel; context; longest wait in ns. -/
def GOLDEN_INJECTED : Nat := 0x5007
/-- Table ISP-12: channel; context; occupancy in bytes. -/
def GOLDEN_DEFERRED : Nat := 0x5008
/-- Table ISP-12: channel; context; occupancy in bytes. -/
def GOLDEN_FORCED : Nat := 0x5009
/-- Table ISP-12: context; port; frame number. -/
def ISP_CTX_RESTARTED : Nat := 0x500A
/-- Table ISP-12: port; register offset. -/
def ISP_ROLE : Nat := 0x500B
/-- Table ISP-12: port; context; command value. -/
def ISP_BAD_COMMAND : Nat := 0x500C
/-- Table INGEST-8: queue; batch; slot; cause. -/
def INGEST_SAMPLE_VOID : Nat := 0x6001
/-- Table INGEST-8: queue; port; cause; ring position. -/
def INGEST_HOST_VIOLATION : Nat := 0x6002
/-- Table INGEST-8: queue; port; new state. -/
def INGEST_QUEUE_STATE : Nat := 0x6003
/-- Table INGEST-8: port; register offset. -/
def INGEST_ROLE : Nat := 0x6004
/-- Table INGEST-8: port; queue; value. -/
def INGEST_BAD_COMMAND : Nat := 0x6005
/-- Table MOT-10: channel; cause: AB_TOGETHER, SERIAL_BAD, HALL_INVALID, HALL_SKIP, INDEX (R307); count [31:0]. -/
def POS_COUNT_ERROR : Nat := 0x8001
/-- Table MOT-10: channel; cause; withdrawn entries. -/
def POS_FAULT : Nat := 0x8002
/-- Table MOT-10: port; channel. -/
def POS_FAULT_CLEARED : Nat := 0x8003
/-- Table MOT-10: divider; trigger number. -/
def TRIGGER_DROPPED : Nat := 0x8004
/-- Table MOT-10: channel; part tag; reason of Table MOT-4. -/
def MILEPOST_REFUSED : Nat := 0x8010
/-- Table MOT-10: channel; part tag; verdict. -/
def MILEPOST_LATE : Nat := 0x8011
/-- Table MOT-10: channel; part tag; output. -/
def MILEPOST_SUPPRESSED : Nat := 0x8012
/-- Table MOT-10: output; part tag of the starting entry; part tag of the entry whose program was already driving the output, the lowest arm serial if several, low 24 bits. -/
def MP_OVERLAP : Nat := 0x8013
/-- Table MOT-10: output; program. -/
def PULSE_MAX_ON : Nat := 0x8014
/-- Table MOT-10: output; fault; current in mA. -/
def FIO_OUTPUT_FAULT : Nat := 0x8020
/-- Table MOT-10: port; register offset. -/
def FIO_ROLE : Nat := 0x8021
/-- Table MOT-10: port; value. -/
def FIO_BAD_COMMAND : Nat := 0x8022
/-- Table MOT-10: port; register offset. -/
def MOT_ROLE : Nat := 0x8023
/-- Table MOT-10: port; value. -/
def MOT_BAD_COMMAND : Nat := 0x8024
/-- Table MOT-10: port; channel; reason: CAUSE_ACTIVE, NOT_FAULT. -/
def MOT_CMD_REFUSED : Nat := 0x8025
/-- Table TIME-6: port; offset in ns. -/
def TIME_LOCKED : Nat := 0x9001
/-- Table TIME-6: cause: MASTER_LOST, JUMP_REFUSED, STEP_WITHOUT_MASTER. -/
def TIME_HOLDOVER : Nat := 0x9002
/-- Table TIME-6: offset in ns; port. -/
def TIME_JUMP_REFUSED : Nat := 0x9003
/-- Table TIME-6: port; step in ns; period number. -/
def TIME_STEPPED : Nat := 0x9004
/-- Table TIME-6: port; command; reason. -/
def TIME_REFUSED : Nat := 0x9005
/-- Table TIME-6: TIME port; cause; message type. -/
def PTP_VIOLATION : Nat := 0x9006
/-- Table TIME-6: queue; lateness in ns; sent or discarded. -/
def LAUNCH_LATE : Nat := 0x9007
/-- Table TIME-6: queue; cause. -/
def LAUNCH_REFUSED : Nat := 0x9008
/-- Table TIME-6: partition; milestone count. -/
def START_RELEASED : Nat := 0x9009
/-- Table TIME-6: extension in ns; period number. -/
def TIME_REALIGNED : Nat := 0x900A
/-- Table TIME-6: side; neighbour node. -/
def PEER_UP : Nat := 0x9010
/-- Table TIME-6: side; packets dropped. -/
def PEER_DOWN : Nat := 0x9011
/-- Table TIME-6: side; reason of Table PEER-3. -/
def PEER_VIOLATION : Nat := 0x9012
/-- Table TIME-6: side; key [31:0]; reason. -/
def PEER_CONTRIB_REJECTED : Nat := 0x9013
/-- Table TIME-6: seam; line count; parts ended. -/
def SEAM_MISSING : Nat := 0x9014
/-- Table HOST-13: port; speed; width. -/
def HOST_LINK_UP : Nat := 0xA001
/-- Table HOST-13: port; cause: PERST, HOT_RESET, FLR, LINK, REMOVAL. -/
def HOST_LINK_DOWN : Nat := 0xA002
/-- Table HOST-13: port; BAR; offset. -/
def HOST_UR : Nat := 0xA003
/-- Table HOST-13: port; ring; completion status. -/
def HOST_DMA_ERROR : Nat := 0xA004
/-- Table HOST-13: port; ring; byte offset. -/
def HOST_BAD_DESCRIPTOR : Nat := 0xA005
/-- Table HOST-13: port; ring; cause. -/
def HOST_RING_STOPPED : Nat := 0xA006
/-- Table HOST-13: port; partition; sequence; reason. -/
def HOST_ACK_REFUSED : Nat := 0xA007
/-- Table HOST-13: port; partition; dropped. -/
def HOST_RESULT_OVERFLOW : Nat := 0xA008
/-- Table HOST-13: port; partition; page. -/
def HOST_PAGE_BOUND : Nat := 0xA009
/-- Table HOST-13: partition; set; landing period. -/
def HOST_WEIGHTS_BOUND : Nat := 0xA00A
/-- Table HOST-13: port; partition; set. -/
def HOST_WEIGHTS_REFUSED : Nat := 0xA00B
/-- Table HOST-13: port; register offset. -/
def HOST_ROLE : Nat := 0xA00C
/-- Table HOST-13: partition; part tag. -/
def NO_VERDICT : Nat := 0xA010
/-- Table SAFE-13: cause code; source unit. -/
def SAFE_STATE_ENTERED : Nat := 0xB001
/-- Table SAFE-13: port or reset input; seconds in SAFE. -/
def SAFE_STATE_LEFT : Nat := 0xB002
/-- Table SAFE-13: address. -/
def LOCKSTEP_MISMATCH : Nat := 0xB003
/-- Table SAFE-13: partition; failures. -/
def JUDGE_BURST : Nat := 0xB004
/-- Table SAFE-13: watchdog; early or late; gap in µs. -/
def WATCHDOG_MISS : Nat := 0xB005
/-- Table SAFE-13: context; frame number. -/
def FROZEN_FRAME : Nat := 0xB006
/-- Table SAFE-13: context. -/
def CONTEXT_NO_REFERENCE : Nat := 0xB007
/-- Table SAFE-13: context; digest bytes 0 to 3. -/
def GOLDEN_FAIL : Nat := 0xB008
/-- Table SAFE-13: item; unit. -/
def TEST_FAILED : Nat := 0xB009
/-- Table SAFE-13: item; age in ms. -/
def TEST_OVERDUE : Nat := 0xB00A
/-- Table SAFE-13: item; bound in µs. -/
def SLICE_OVERRUN : Nat := 0xB00B
/-- Table SAFE-13: logical core; period number; field. -/
def SHEET_CHECK : Nat := 0xB00C
/-- Table SAFE-13: input; set or cleared. -/
def SAFE_INPUT_DEMAND : Nat := 0xB00D
/-- Table SAFE-13: input; channel; DISCREPANCY or TEST. -/
def SAFE_INPUT_FAULT : Nat := 0xB00E
/-- Table SAFE-13: output; channel. -/
def SAFE_OUTPUT_FAULT : Nat := 0xB00F
/-- Table SAFE-13: TIME port; up or down. -/
def SAFE_MSG_LINK : Nat := 0xB010
/-- Table SAFE-13: port; state; steps remaining. -/
def SAFE_LOCK_CHANGED : Nat := 0xB011
/-- Table SAFE-13: port; command; reason. -/
def SAFE_CMD_REFUSED : Nat := 0xB012
/-- Table SAFE-13: port. -/
def SAFE_FORCED : Nat := 0xB013
/-- Table SAFE-13: partition; part tag; first unmet condition of R22: CHANNEL, FIT, CHECKER, PARAMETERS. -/
def ROAD_CLOSED : Nat := 0xB014
/-- Table SAFE-13: partition; part tag; offending value. -/
def SAFE_RECORD : Nat := 0xb021
/-- Table SAFE-13: partition; part tag; offending value. -/
def SAFE_SEQUENCE : Nat := 0xb022
/-- Table SAFE-13: partition; part tag; offending value. -/
def SAFE_ARM_MISMATCH : Nat := 0xb023
/-- Table SAFE-13: partition; part tag; offending value. -/
def SAFE_STATION : Nat := 0xb024
/-- Table SAFE-13: partition; part tag; offending value. -/
def SAFE_STALE : Nat := 0xb025
/-- Table SAFE-13: partition; part tag; offending value. -/
def SAFETY_UNLISTED : Nat := 0xb026
/-- Table SAFE-13: partition; part tag; offending value. -/
def SAFE_LIMIT : Nat := 0xb027
/-- Table SAFE-13: partition; part tag; offending value. -/
def SAFE_SHADOW : Nat := 0xb028
/-- Table SAFE-13: partition; part tag; offending value. -/
def SAFE_TEMPORAL : Nat := 0xb029
/-- Table INTEG-14: kind; unit; line. -/
def SRAM_CORRECTED : Nat := 0xC001
/-- Table INTEG-14: kind; unit; line. -/
def SRAM_UNCORRECTABLE : Nat := 0xC002
/-- Table INTEG-14: physical core; leg. -/
def SRAM_REFETCHED : Nat := 0xC003
/-- Table INTEG-14: partition; leg; physical core. -/
def LEG_REPLAYED : Nat := 0xC004
/-- Table INTEG-14: cluster; bank. -/
def STRIPE_BANK_FAILED : Nat := 0xC005
/-- Table INTEG-14: bank; count. -/
def LINESTORE_DEGRADED : Nat := 0xC006
/-- Table INTEG-14: page; line. -/
def HBM_LINE_REREAD : Nat := 0xC007
/-- Table INTEG-14: partition; page; line. -/
def HBM_UNCORRECTABLE : Nat := 0xC008
/-- Table INTEG-14: page; retired total. -/
def HBM_PAGE_RETIRED : Nat := 0xC009
/-- Table INTEG-14: page. -/
def POISON_FULL : Nat := 0xC00A
/-- Table INTEG-14: kind; lap in s. -/
def SCRUB_LAP_SLOW : Nat := 0xC00B
/-- Table INTEG-14: word; copy. -/
def TRIPLE_REPAIRED : Nat := 0xC00C
/-- Table INTEG-14: word. -/
def TRIPLE_DISAGREE : Nat := 0xC00D
/-- Table INTEG-14: partition; leg; op. -/
def CHECK_MISMATCH : Nat := 0xC00E
/-- Table INTEG-14: partition; leg; count. -/
def RANGE_VIOLATION : Nat := 0xC00F
/-- Table INTEG-14: partition; leg; iteration. -/
def RECOMPUTE_MISMATCH : Nat := 0xC010
/-- Table INTEG-14: physical core; partition; leg. -/
def RECOMPUTE_ATTRIBUTED : Nat := 0xC011
/-- Table INTEG-14: partition; leg; iteration. -/
def RECOMPUTE_UNRESOLVED : Nat := 0xC012
/-- Table INTEG-14: seam; line count; parts ended. -/
def SEAM_DIGEST_MISMATCH : Nat := 0xC013
/-- Table INTEG-14: seam; line count; parts ended. -/
def SEAM_CHECK_MISSING : Nat := 0xC014
/-- Table INTEG-14: port; records dropped. -/
def TRACE_OVERFLOW : Nat := 0xC015
/-- Table INTEG-14: port; register offset. -/
def INTEG_ROLE : Nat := 0xC016
/-- Table INTEG-14: port; value. -/
def INTEG_BAD_COMMAND : Nat := 0xC017
/-- Table INTEG-14: partition; leg; samples voided. -/
def CHECK_VOID : Nat := 0xC018
/-- Table WAYM-5: head sequence number; records found; scan time in ms. -/
def RECORDER_START : Nat := 0xD001
/-- Table WAYM-5: records dropped; lowest severity dropped. -/
def RECORDER_DROP : Nat := 0xD002
/-- Table WAYM-5: set or cleared; tokens. -/
def RECORDER_BUDGET : Nat := 0xD003
/-- Table WAYM-5: port; sequence number at freeze. -/
def RECORDER_FROZEN : Nat := 0xD004
/-- Table WAYM-5: cause: THAW, RESET, TIMEOUT; records held; records dropped. -/
def RECORDER_THAWED : Nat := 0xD005
/-- Table WAYM-5: sector; erases. -/
def SECTOR_WEAR : Nat := 0xD006
/-- Table WAYM-5: port; register offset. -/
def WAYM_ROLE : Nat := 0xD007
/-- Table WAYM-5: port; value. -/
def WAYM_BAD_COMMAND : Nat := 0xD008
/-- Table WAYM-5: port; register offset. -/
def PERF_ROLE : Nat := 0xD009
/-- Table WAYM-5: port; value. -/
def PERF_BAD_COMMAND : Nat := 0xD00A
/-- Table MAP-5: port; register offset. -/
def CAP_ROLE : Nat := 0xF040
/-- Table MAP-5: port; register offset (R15). -/
def RWL_LOCKED : Nat := 0xF041

end Code

/-- The codes of severity INFO, Table MAP-5. -/
def infoCodes : List Nat := [
  0x1004, 0x1005, 0x1006, 0x1009, 0x100C, 0x2006, 0x3001, 0x3003, 0x3006, 0x300A, 0x300B, 0x4001, 0x4007, 0x5001, 0x5003,
  0x5007, 0x500A, 0x6003, 0x7006, 0x7007, 0x700B, 0x8003, 0x9001, 0x9009, 0x900A, 0x9010, 0xA001, 0xA00A, 0xB002, 0xB011,
  0xB014, 0xC001, 0xC003, 0xC007, 0xC00C, 0xD001, 0xD004, 0xD005, 0xE010, 0xE011, 0xE041, 0xE044, 0xE045, 0xE046, 0xE100,
  0xE103, 0xF020, 0xF030]

/-- The codes of severity ERROR, Table MAP-5 (0xB021 to 0xB029 are tested apart). -/
def errorCodes : List Nat := [
  0x100A, 0x100D, 0x2001, 0x2003, 0x2004, 0x2012, 0x2020, 0x2025, 0x3007, 0x300F, 0x7004, 0x7005, 0x700A, 0x8002, 0xA010,
  0xC002, 0xC005, 0xC006, 0xC008, 0xC00A, 0xC00D, 0xC010, 0xC013, 0xD002, 0xE013, 0xE014, 0xE043, 0xE101, 0xE102, 0xE104,
  0xF006]

/-- The codes of severity SAFETY, Table MAP-5. -/
def safetyCodes : List Nat := [
  0xB001, 0xB003, 0xB004, 0xB005, 0xB008, 0xB009, 0xB00A, 0xB00B, 0xB00C, 0xB00D, 0xB00E, 0xB00F, 0xB013, 0xF001, 0xF002,
  0xF004, 0xF012]

/-- Severity of a code (R440): 0 INFO, 1 WARNING, 2 ERROR, 3 SAFETY; a code listed nowhere is a WARNING. -/
def severity (code : Nat) : Nat :=
  if infoCodes.contains code then 0
  else if errorCodes.contains code || (0xB021 ≤ code && code ≤ 0xB029) then 2
  else if safetyCodes.contains code then 3
  else 1

/-- Source unit kinds, Table WAYM-2. -/
def kindOf (code : Nat) : Nat :=
  match code / 0x1000 with
  | 0x1 => 0x05
  | 0x2 => 0x06
  | 0x3 => 0x07
  | 0x4 => 0x09
  | 0x5 => 0x0A
  | 0x6 => 0x0B
  | 0x7 => 0x08
  | 0x8 => if code = 0x8020 || code = 0x8021 || code = 0x8022 then 0x0D else 0x0C
  | 0x9 => if code < 0x9010 then 0x0E else 0x0F
  | 0xA => 0x10
  | 0xB => 0x11
  | 0xC => 0x12
  | 0xD => if code < 0xD009 then 0x13 else 0x14
  | 0xE => if code < 0xE040 then 0x02 else if code < 0xE100 then 0x03 else 0x04
  | _ => 0x01

end Sys2Proof.Machine
end

