-- ==== Sys2Proof/Machine/RegMap.lean ====
section
/-! DEFINITION. The register map of BAR0 (Tables MAP-1, HW-15 to HW-20, ZLD-10 to ZLD-15, KEEP-7, KEEP-8, PACE-5 to
PACE-7, CORE-6, KV-8, ROUTE-9 to ROUTE-11, LANE-7, ISP-10, ISP-11, INGEST-7, MOT-8, MOT-9, FIO-2, TIME-5, PEER-4,
HOST-12, SAFE-12, INTEG-13, WAYM-4, PERF-2 to PERF-4, MAP-4): the place of every register field, and one row per
register for the accesses that have no behaviour of their own (R435).  A register that the spec holds separately for
each port has the port as its first index. -/

namespace Sys2Proof.Machine

/-- Where one register field stands: the key of its register in the register file, its lowest bit and its width.
The key is the BAR0 offset, with a bank of its own for each port of a register held separately for each port; an index beyond
its array names no register of its own, and is taken modulo the array's length. -/
structure Field where
  key : Nat
  lo : Nat
  width : Nat
  deriving DecidableEq, Repr

/-- The bank of the registers held separately for port `i` (R361, R435). -/
def portBank (i : Nat) : Nat := (i % 4 + 1) * 0x4000000

/-- The access types of Table SCOPE-6. -/
inductive RegType where
  | ro | rw | wo | w1c | rc | rwl
  deriving DecidableEq, Repr

/-- One field of a register row: lowest bit, width, access type. -/
structure FieldRow where
  lo : Nat
  width : Nat
  ty : RegType
  deriving DecidableEq, Repr

/-- One register, or one array of registers with up to three strides, as the spec's tables give it. -/
structure RegRow where
  name : String
  base : Nat
  dims : List (Nat × Nat)
  perPort : Bool
  fields : List FieldRow
  deriving DecidableEq, Repr

namespace F

/-- CAP_BOARD_SUPPLY.v48, Table HW-15. -/
def CAP_BOARD_SUPPLY_v48 : Field := ⟨0x800, 0, 16⟩
/-- CAP_BOARD_SUPPLY.v24, Table HW-15. -/
def CAP_BOARD_SUPPLY_v24 : Field := ⟨0x800, 16, 16⟩
/-- CAP_BOARD_POWER.p48, Table HW-16. -/
def CAP_BOARD_POWER_p48 : Field := ⟨0x804, 0, 16⟩
/-- CAP_BOARD_COOLANT.inlet, Table HW-17. -/
def CAP_BOARD_COOLANT_inlet : Field := ⟨0x808, 0, 12⟩
/-- CAP_BOARD_COOLANT.outlet, Table HW-17. -/
def CAP_BOARD_COOLANT_outlet : Field := ⟨0x808, 12, 12⟩
/-- CAP_BOARD_COOLANT.flow, Table HW-17. -/
def CAP_BOARD_COOLANT_flow : Field := ⟨0x808, 24, 8⟩
/-- CAP_BOARD_TEMP.die0, Table HW-18. -/
def CAP_BOARD_TEMP_die0 : Field := ⟨0x80c, 0, 8⟩
/-- CAP_BOARD_TEMP.die1, Table HW-18. -/
def CAP_BOARD_TEMP_die1 : Field := ⟨0x80c, 8, 8⟩
/-- CAP_BOARD_TEMP.hub, Table HW-18. -/
def CAP_BOARD_TEMP_hub : Field := ⟨0x80c, 16, 8⟩
/-- CAP_BOARD_TEMP.hbm, Table HW-18. -/
def CAP_BOARD_TEMP_hbm : Field := ⟨0x80c, 24, 8⟩
/-- CAP_BOARD_STATUS.dip_seen, Table HW-19. -/
def CAP_BOARD_STATUS_dip_seen : Field := ⟨0x810, 0, 1⟩
/-- CAP_BOARD_STATUS.field_low, Table HW-19. -/
def CAP_BOARD_STATUS_field_low : Field := ⟨0x810, 1, 1⟩
/-- CAP_BOARD_STATUS.group_low, Table HW-19. -/
def CAP_BOARD_STATUS_group_low : Field := ⟨0x810, 2, 4⟩
/-- CAP_BOARD_STATUS.coolant_range, Table HW-19. -/
def CAP_BOARD_STATUS_coolant_range : Field := ⟨0x810, 6, 1⟩
/-- CAP_BOARD_STATUS.derated, Table HW-19. -/
def CAP_BOARD_STATUS_derated : Field := ⟨0x810, 7, 1⟩
/-- CAP_BOARD_STATUS.cage_present, Table HW-19. -/
def CAP_BOARD_STATUS_cage_present : Field := ⟨0x810, 8, 8⟩
/-- CAP_BOARD_STATUS.peer_present, Table HW-19. -/
def CAP_BOARD_STATUS_peer_present : Field := ⟨0x810, 16, 2⟩
/-- CAP_BOARD_STATUS.time_present, Table HW-19. -/
def CAP_BOARD_STATUS_time_present : Field := ⟨0x810, 18, 2⟩
/-- CAP_BOARD_STATUS.last_off_overvoltage, Table HW-19. -/
def CAP_BOARD_STATUS_last_off_overvoltage : Field := ⟨0x810, 20, 1⟩
/-- CAP_BOARD_LED.locate, Table HW-20. -/
def CAP_BOARD_LED_locate : Field := ⟨0x814, 0, 1⟩
/-- ZLD_CTRL.cmd, Table ZLD-10. -/
def ZLD_CTRL_cmd : Field := ⟨0x10000, 0, 4⟩
/-- ZLD_STATUS.state, Table ZLD-11. -/
def ZLD_STATUS_state : Field := ⟨0x10004, 0, 3⟩
/-- ZLD_STATUS.session_port, Table ZLD-11. -/
def ZLD_STATUS_session_port : Field := ⟨0x10004, 3, 2⟩
/-- ZLD_STATUS.restart_pending, Table ZLD-11. -/
def ZLD_STATUS_restart_pending : Field := ⟨0x10004, 5, 1⟩
/-- ZLD_STATUS.armed, Table ZLD-11. -/
def ZLD_STATUS_armed : Field := ⟨0x10004, 6, 8⟩
/-- ZLD_STATUS.full_armed, Table ZLD-11. -/
def ZLD_STATUS_full_armed : Field := ⟨0x10004, 14, 1⟩
/-- ZLD_SRC_LO.addr, Table ZLD-12. -/
def ZLD_SRC_LO_addr : Field := ⟨0x10008, 0, 32⟩
/-- ZLD_SRC_HI.addr, Table ZLD-12. -/
def ZLD_SRC_HI_addr : Field := ⟨0x1000c, 0, 32⟩
/-- ZLD_SRC_LEN.bytes, Table ZLD-12. -/
def ZLD_SRC_LEN_bytes : Field := ⟨0x10010, 0, 26⟩
/-- ZLD_PROGRESS.bytes, Table ZLD-12. -/
def ZLD_PROGRESS_bytes : Field := ⟨0x10014, 0, 26⟩
/-- ZLD_RESULT.code, Table ZLD-13. -/
def ZLD_RESULT_code (i : Nat) : Field := ⟨0x10018 + portBank i, 0, 16⟩
/-- ZLD_RESULT.section, Table ZLD-13. -/
def ZLD_RESULT_section (i : Nat) : Field := ⟨0x10018 + portBank i, 16, 8⟩
/-- ZLD_RESULT.item, Table ZLD-13. -/
def ZLD_RESULT_item (i : Nat) : Field := ⟨0x10018 + portBank i, 24, 8⟩
/-- ZLD_ACTIVE.slot, Table ZLD-14. -/
def ZLD_ACTIVE_slot : Field := ⟨0x1001c, 0, 1⟩
/-- ZLD_ACTIVE.epoch, Table ZLD-14. -/
def ZLD_ACTIVE_epoch : Field := ⟨0x1001c, 1, 10⟩
/-- ZLD_ACTIVE.upkeep_left, Table ZLD-14. -/
def ZLD_ACTIVE_upkeep_left : Field := ⟨0x1001c, 11, 7⟩
/-- ZLD_ACTIVE.upkeep_mode, Table ZLD-14. -/
def ZLD_ACTIVE_upkeep_mode : Field := ⟨0x1001c, 18, 2⟩
/-- ZLD_ACTIVE.factory_structure, Table ZLD-14. -/
def ZLD_ACTIVE_factory_structure : Field := ⟨0x1001c, 20, 1⟩
/-- ZLD_BUILD.build, Table ZLD-15. -/
def ZLD_BUILD_build : Field := ⟨0x10020, 0, 32⟩
/-- ZLD_DIGEST.word, Table ZLD-15. -/
def ZLD_DIGEST_word (i : Nat) : Field := ⟨0x10040 + 0x4 * (i % 16), 0, 32⟩
/-- ZLD_OVERLAY.present, Table ZLD-15. -/
def ZLD_OVERLAY_present (p : Nat) : Field := ⟨0x10080 + 0x4 * (p % 8), 0, 1⟩
/-- ZLD_OVERLAY.slot, Table ZLD-15. -/
def ZLD_OVERLAY_slot (p : Nat) : Field := ⟨0x10080 + 0x4 * (p % 8), 1, 1⟩
/-- ZLD_OVERLAY.build, Table ZLD-15. -/
def ZLD_OVERLAY_build (p : Nat) : Field := ⟨0x10080 + 0x4 * (p % 8), 2, 30⟩
/-- ZLD_LANDED.period, Table ZLD-15. -/
def ZLD_LANDED_period : Field := ⟨0x100a0, 0, 28⟩
/-- ZLD_LANDED.target, Table ZLD-15. -/
def ZLD_LANDED_target : Field := ⟨0x100a0, 28, 4⟩
/-- KEEP_STATUS.identity, Table KEEP-7. -/
def KEEP_STATUS_identity : Field := ⟨0x20000, 0, 2⟩
/-- KEEP_STATUS.owned, Table KEEP-7. -/
def KEEP_STATUS_owned : Field := ⟨0x20000, 2, 1⟩
/-- KEEP_STATUS.port_proven, Table KEEP-7. -/
def KEEP_STATUS_port_proven : Field := ⟨0x20000, 3, 1⟩
/-- KEEP_STATUS.boot_phase, Table KEEP-7. -/
def KEEP_STATUS_boot_phase : Field := ⟨0x20000, 4, 3⟩
/-- KEEP_STATUS.baseline_present, Table KEEP-7. -/
def KEEP_STATUS_baseline_present : Field := ⟨0x20000, 7, 1⟩
/-- KEEP_STATUS.fw_slot, Table KEEP-7. -/
def KEEP_STATUS_fw_slot : Field := ⟨0x20000, 8, 1⟩
/-- KEEP_STATUS.fw_fallback, Table KEEP-7. -/
def KEEP_STATUS_fw_fallback : Field := ⟨0x20000, 9, 1⟩
/-- KEEP_STATUS.restarted, Table KEEP-7. -/
def KEEP_STATUS_restarted : Field := ⟨0x20000, 10, 1⟩
/-- KEEP_POWER_CYCLES.count, Table KEEP-8. -/
def KEEP_POWER_CYCLES_count : Field := ⟨0x20004, 0, 24⟩
/-- KEEP_OP_SECONDS_LO.seconds, Table KEEP-8. -/
def KEEP_OP_SECONDS_LO_seconds : Field := ⟨0x20008, 0, 32⟩
/-- KEEP_OP_SECONDS_HI.seconds, Table KEEP-8. -/
def KEEP_OP_SECONDS_HI_seconds : Field := ⟨0x2000c, 0, 8⟩
/-- KEEP_RATCHET.owner_left, Table KEEP-8. -/
def KEEP_RATCHET_owner_left : Field := ⟨0x20010, 0, 4⟩
/-- KEEP_RATCHET.epoch_left, Table KEEP-8. -/
def KEEP_RATCHET_epoch_left : Field := ⟨0x20010, 4, 10⟩
/-- KEEP_RATCHET.safety_left, Table KEEP-8. -/
def KEEP_RATCHET_safety_left : Field := ⟨0x20010, 14, 6⟩
/-- KEEP_RATCHET.upkeep_left, Table KEEP-8. -/
def KEEP_RATCHET_upkeep_left : Field := ⟨0x20010, 20, 7⟩
/-- KEEP_DEVICE_ID.word, Table KEEP-8. -/
def KEEP_DEVICE_ID_word (i : Nat) : Field := ⟨0x20020 + 0x4 * (i % 2), 0, 32⟩
/-- KEEP_OWNER_KEY.word, Table KEEP-8. -/
def KEEP_OWNER_KEY_word (i : Nat) : Field := ⟨0x20040 + 0x4 * (i % 16), 0, 32⟩
/-- KEEP_SIGNERS.count, Table KEEP-8. -/
def KEEP_SIGNERS_count : Field := ⟨0x20080, 0, 3⟩
/-- KEEP_SELFTEST.failed_cores, Table KEEP-8. -/
def KEEP_SELFTEST_failed_cores : Field := ⟨0x20084, 0, 16⟩
/-- KEEP_SELFTEST.failed_unit, Table KEEP-8. -/
def KEEP_SELFTEST_failed_unit : Field := ⟨0x20084, 16, 8⟩
/-- KEEP_SELFTEST.boot_ms, Table KEEP-8. -/
def KEEP_SELFTEST_boot_ms : Field := ⟨0x20084, 24, 8⟩
/-- PACE_STATUS.pace, Table PACE-5. -/
def PACE_STATUS_pace : Field := ⟨0x30000, 0, 12⟩
/-- PACE_STATUS.planned_pace, Table PACE-5. -/
def PACE_STATUS_planned_pace : Field := ⟨0x30000, 12, 12⟩
/-- PACE_STATUS.metronome_lock, Table PACE-5. -/
def PACE_STATUS_metronome_lock : Field := ⟨0x30000, 24, 1⟩
/-- PACE_STATUS.derated, Table PACE-5. -/
def PACE_STATUS_derated : Field := ⟨0x30000, 25, 1⟩
/-- PACE_STATUS.reduced_rating, Table PACE-5. -/
def PACE_STATUS_reduced_rating : Field := ⟨0x30000, 26, 1⟩
/-- PACE_STATUS.window_open, Table PACE-5. -/
def PACE_STATUS_window_open : Field := ⟨0x30000, 27, 1⟩
/-- PACE_STATUS.upkeep_mode, Table PACE-5. -/
def PACE_STATUS_upkeep_mode : Field := ⟨0x30000, 28, 2⟩
/-- PACE_PERIOD.us, Table PACE-6. -/
def PACE_PERIOD_us : Field := ⟨0x30004, 0, 14⟩
/-- PACE_MODE.free, Table PACE-6. -/
def PACE_MODE_free : Field := ⟨0x30008, 0, 8⟩
/-- PACE_PLAN_CTRL.cmd, Table PACE-6. -/
def PACE_PLAN_CTRL_cmd : Field := ⟨0x3000c, 0, 4⟩
/-- PACE_PLAN_CTRL.minutes, Table PACE-6. -/
def PACE_PLAN_CTRL_minutes : Field := ⟨0x3000c, 16, 11⟩
/-- PACE_PLAN_STATUS.minutes_left, Table PACE-6. -/
def PACE_PLAN_STATUS_minutes_left : Field := ⟨0x30010, 0, 11⟩
/-- PACE_PLAN_STATUS.proposal_pending, Table PACE-6. -/
def PACE_PLAN_STATUS_proposal_pending : Field := ⟨0x30010, 11, 1⟩
/-- PACE_PLAN_STATUS.proposed_pace, Table PACE-6. -/
def PACE_PLAN_STATUS_proposed_pace : Field := ⟨0x30010, 12, 12⟩
/-- PACE_PLAN_STATUS.refusal, Table PACE-6. -/
def PACE_PLAN_STATUS_refusal : Field := ⟨0x30010, 24, 3⟩
/-- PACE_TABLE0.rated_pace, Table PACE-6. -/
def PACE_TABLE0_rated_pace : Field := ⟨0x30014, 0, 12⟩
/-- PACE_TABLE0.pace_ceiling, Table PACE-6. -/
def PACE_TABLE0_pace_ceiling : Field := ⟨0x30014, 12, 12⟩
/-- PACE_TABLE0.guard, Table PACE-6. -/
def PACE_TABLE0_guard : Field := ⟨0x30014, 24, 8⟩
/-- PACE_TABLE1.pace_step, Table PACE-6. -/
def PACE_TABLE1_pace_step : Field := ⟨0x30018, 0, 6⟩
/-- PACE_TABLE1.v_step, Table PACE-6. -/
def PACE_TABLE1_v_step : Field := ⟨0x30018, 6, 5⟩
/-- PACE_TABLE1.v_ceiling, Table PACE-6. -/
def PACE_TABLE1_v_ceiling : Field := ⟨0x30018, 11, 10⟩
/-- PACE_TABLE1.horizon, Table PACE-6. -/
def PACE_TABLE1_horizon : Field := ⟨0x30018, 21, 7⟩
/-- PACE_DIE.voltage, Table PACE-6. -/
def PACE_DIE_voltage (d : Nat) : Field := ⟨0x30020 + 0x4 * (d % 2), 0, 10⟩
/-- PACE_DIE.v_start, Table PACE-6. -/
def PACE_DIE_v_start (d : Nat) : Field := ⟨0x30020 + 0x4 * (d % 2), 10, 10⟩
/-- PACE_DIE.at_ceiling, Table PACE-6. -/
def PACE_DIE_at_ceiling (d : Nat) : Field := ⟨0x30020 + 0x4 * (d % 2), 20, 1⟩
/-- PACE_DIE.least_slack, Table PACE-6. -/
def PACE_DIE_least_slack (d : Nat) : Field := ⟨0x30020 + 0x4 * (d % 2), 21, 11⟩
/-- PACE_SLACK.slack, Table PACE-6. -/
def PACE_SLACK_slack (c : Nat) : Field := ⟨0x30100 + 0x4 * (c % 40), 0, 12⟩
/-- PACE_SLACK.baseline, Table PACE-6. -/
def PACE_SLACK_baseline (c : Nat) : Field := ⟨0x30100 + 0x4 * (c % 40), 12, 12⟩
/-- PACE_SLACK.trend, Table PACE-6. -/
def PACE_SLACK_trend (c : Nat) : Field := ⟨0x30100 + 0x4 * (c % 40), 24, 8⟩
/-- PACE_MISS.count, Table PACE-6. -/
def PACE_MISS_count (c : Nat) : Field := ⟨0x30200 + 0x4 * (c % 40), 0, 32⟩
/-- PACE_OVERRUN.count, Table PACE-6. -/
def PACE_OVERRUN_count (p : Nat) : Field := ⟨0x30300 + 0x4 * (p % 8), 0, 32⟩
/-- PACE_HUB.slack, Table PACE-6. -/
def PACE_HUB_slack : Field := ⟨0x30400, 0, 12⟩
/-- PACE_HUB.misses, Table PACE-6. -/
def PACE_HUB_misses : Field := ⟨0x30400, 16, 16⟩
/-- PACE_BRIDGE.full, Table PACE-6. -/
def PACE_BRIDGE_full (i : Nat) : Field := ⟨0x30480 + 0x4 * (i % 126), 0, 16⟩
/-- PACE_HUBFW_CTRL.cmd, Table PACE-7. -/
def PACE_HUBFW_CTRL_cmd : Field := ⟨0x30700, 0, 4⟩
/-- PACE_HUBFW_STATUS.state, Table PACE-7. -/
def PACE_HUBFW_STATUS_state : Field := ⟨0x30704, 0, 3⟩
/-- PACE_HUBFW_STATUS.active_slot, Table PACE-7. -/
def PACE_HUBFW_STATUS_active_slot : Field := ⟨0x30704, 3, 1⟩
/-- PACE_HUBFW_STATUS.trial, Table PACE-7. -/
def PACE_HUBFW_STATUS_trial : Field := ⟨0x30704, 4, 1⟩
/-- PACE_HUBFW_STATUS.standby_s, Table PACE-7. -/
def PACE_HUBFW_STATUS_standby_s : Field := ⟨0x30704, 5, 10⟩
/-- PACE_HUBFW_SRC_LO.addr, Table PACE-7. -/
def PACE_HUBFW_SRC_LO_addr : Field := ⟨0x30708, 0, 32⟩
/-- PACE_HUBFW_SRC_HI.addr, Table PACE-7. -/
def PACE_HUBFW_SRC_HI_addr : Field := ⟨0x3070c, 0, 32⟩
/-- PACE_HUBFW_LEN.bytes, Table PACE-7. -/
def PACE_HUBFW_LEN_bytes : Field := ⟨0x30710, 0, 24⟩
/-- CORE_ID.physical, Table CORE-6. -/
def CORE_ID_physical (c : Nat) : Field := ⟨0x200000 + 0x10000 * (c % 40), 0, 6⟩
/-- CORE_ID.cluster, Table CORE-6. -/
def CORE_ID_cluster (c : Nat) : Field := ⟨0x200000 + 0x10000 * (c % 40), 6, 4⟩
/-- CORE_ID.die, Table CORE-6. -/
def CORE_ID_die (c : Nat) : Field := ⟨0x200000 + 0x10000 * (c % 40), 10, 1⟩
/-- CORE_ID.logical, Table CORE-6. -/
def CORE_ID_logical (c : Nat) : Field := ⟨0x200000 + 0x10000 * (c % 40), 11, 6⟩
/-- CORE_ID.role, Table CORE-6. -/
def CORE_ID_role (c : Nat) : Field := ⟨0x200000 + 0x10000 * (c % 40), 17, 3⟩
/-- CORE_STATUS.partition, Table CORE-6. -/
def CORE_STATUS_partition (c : Nat) : Field := ⟨0x200004 + 0x10000 * (c % 40), 0, 3⟩
/-- CORE_STATUS.in_partition, Table CORE-6. -/
def CORE_STATUS_in_partition (c : Nat) : Field := ⟨0x200004 + 0x10000 * (c % 40), 3, 1⟩
/-- CORE_STATUS.paced, Table CORE-6. -/
def CORE_STATUS_paced (c : Nat) : Field := ⟨0x200004 + 0x10000 * (c % 40), 4, 1⟩
/-- CORE_STATUS.sheet_running, Table CORE-6. -/
def CORE_STATUS_sheet_running (c : Nat) : Field := ⟨0x200004 + 0x10000 * (c % 40), 5, 1⟩
/-- CORE_STATUS.backlog, Table CORE-6. -/
def CORE_STATUS_backlog (c : Nat) : Field := ⟨0x200004 + 0x10000 * (c % 40), 6, 1⟩
/-- CORE_STATUS.tick_pos, Table CORE-6. -/
def CORE_STATUS_tick_pos (c : Nat) : Field := ⟨0x200004 + 0x10000 * (c % 40), 8, 24⟩
/-- CORE_CTRL.cmd, Table CORE-6. -/
def CORE_CTRL_cmd (c : Nat) : Field := ⟨0x200008 + 0x10000 * (c % 40), 0, 4⟩
/-- CORE_FAIL.cause, Table CORE-6. -/
def CORE_FAIL_cause (c : Nat) : Field := ⟨0x20000c + 0x10000 * (c % 40), 0, 4⟩
/-- CORE_FAIL.period, Table CORE-6. -/
def CORE_FAIL_period (c : Nat) : Field := ⟨0x20000c + 0x10000 * (c % 40), 4, 28⟩
/-- CORE_SRAM_ERR.corrected, Table CORE-6. -/
def CORE_SRAM_ERR_corrected (c : Nat) : Field := ⟨0x200010 + 0x10000 * (c % 40), 0, 16⟩
/-- CORE_SRAM_ERR.uncorrectable, Table CORE-6. -/
def CORE_SRAM_ERR_uncorrectable (c : Nat) : Field := ⟨0x200010 + 0x10000 * (c % 40), 16, 16⟩
/-- CORE_SPARE_TEST.passed, Table CORE-6. -/
def CORE_SPARE_TEST_passed (c : Nat) : Field := ⟨0x200014 + 0x10000 * (c % 40), 0, 16⟩
/-- CORE_SPARE_TEST.age_s, Table CORE-6. -/
def CORE_SPARE_TEST_age_s (c : Nat) : Field := ⟨0x200014 + 0x10000 * (c % 40), 16, 16⟩
/-- CORE_CLUSTER.spare_left, Table CORE-6. -/
def CORE_CLUSTER_spare_left (c : Nat) : Field := ⟨0x200100 + 0x10000 * (c % 40), 0, 1⟩
/-- CORE_CLUSTER.spare_index, Table CORE-6. -/
def CORE_CLUSTER_spare_index (c : Nat) : Field := ⟨0x200100 + 0x10000 * (c % 40), 1, 3⟩
/-- CORE_CLUSTER.lost, Table CORE-6. -/
def CORE_CLUSTER_lost (c : Nat) : Field := ⟨0x200100 + 0x10000 * (c % 40), 4, 4⟩
/-- CORE_CLUSTER.failed, Table CORE-6. -/
def CORE_CLUSTER_failed (c : Nat) : Field := ⟨0x200100 + 0x10000 * (c % 40), 8, 5⟩
/-- CORE_CLUSTER.detours, Table CORE-6. -/
def CORE_CLUSTER_detours (c : Nat) : Field := ⟨0x200100 + 0x10000 * (c % 40), 16, 8⟩
/-- CORE_MAP.physical, Table CORE-6. -/
def CORE_MAP_physical (c : Nat) : Field := ⟨0x200104 + 0x10000 * (c % 40), 0, 12⟩
/-- KV_STATUS.pool_total, Table KV-8. -/
def KV_STATUS_pool_total : Field := ⟨0xd0000, 0, 19⟩
/-- KV_STATUS.sequences, Table KV-8. -/
def KV_STATUS_sequences : Field := ⟨0xd0000, 19, 13⟩
/-- KV_CMD.cmd, Table KV-8. -/
def KV_CMD_cmd : Field := ⟨0xd0004, 0, 4⟩
/-- KV_CMD.partition, Table KV-8. -/
def KV_CMD_partition : Field := ⟨0xd0004, 4, 3⟩
/-- KV_CMD.target, Table KV-8. -/
def KV_CMD_target : Field := ⟨0xd0004, 8, 19⟩
/-- KV_CMD_STATUS.code, Table KV-8. -/
def KV_CMD_STATUS_code (i : Nat) : Field := ⟨0xd0008 + portBank i, 0, 16⟩
/-- KV_CMD_STATUS.count, Table KV-8. -/
def KV_CMD_STATUS_count (i : Nat) : Field := ⟨0xd0008 + portBank i, 16, 16⟩
/-- KV_CMD_STATUS2.generation, Table KV-8. -/
def KV_CMD_STATUS2_generation (i : Nat) : Field := ⟨0xd000c + portBank i, 0, 32⟩
/-- KV_POOL.pages, Table KV-8. -/
def KV_POOL_pages (p : Nat) : Field := ⟨0xd0100 + 0x20 * (p % 8), 0, 19⟩
/-- KV_FREE.pages, Table KV-8. -/
def KV_FREE_pages (p : Nat) : Field := ⟨0xd0104 + 0x20 * (p % 8), 0, 19⟩
/-- KV_CHARGE.pages, Table KV-8. -/
def KV_CHARGE_pages (p : Nat) : Field := ⟨0xd0108 + 0x20 * (p % 8), 0, 19⟩
/-- KV_CHARGE.over_quota, Table KV-8. -/
def KV_CHARGE_over_quota (p : Nat) : Field := ⟨0xd0108 + 0x20 * (p % 8), 31, 1⟩
/-- KV_LIMBO.pages, Table KV-8. -/
def KV_LIMBO_pages (p : Nat) : Field := ⟨0xd010c + 0x20 * (p % 8), 0, 19⟩
/-- KV_GEN.current, Table KV-8. -/
def KV_GEN_current (p : Nat) : Field := ⟨0xd0110 + 0x20 * (p % 8), 0, 32⟩
/-- KV_GEN_HELD.oldest, Table KV-8. -/
def KV_GEN_HELD_oldest (p : Nat) : Field := ⟨0xd0114 + 0x20 * (p % 8), 0, 32⟩
/-- KV_SEQ.live, Table KV-8. -/
def KV_SEQ_live (p : Nat) : Field := ⟨0xd0118 + 0x20 * (p % 8), 0, 13⟩
/-- KV_SEQ.prefixes, Table KV-8. -/
def KV_SEQ_prefixes (p : Nat) : Field := ⟨0xd0118 + 0x20 * (p % 8), 16, 7⟩
/-- KV_WAIT.joins, Table KV-8. -/
def KV_WAIT_joins (p : Nat) : Field := ⟨0xd011c + 0x20 * (p % 8), 0, 16⟩
/-- KV_WAIT.cows, Table KV-8. -/
def KV_WAIT_cows (p : Nat) : Field := ⟨0xd011c + 0x20 * (p % 8), 16, 16⟩
/-- KV_WALKER.failed, Table KV-8. -/
def KV_WALKER_failed (c : Nat) : Field := ⟨0xd0200 + 0x4 * (c % 8), 0, 1⟩
/-- KV_WALKER.serving, Table KV-8. -/
def KV_WALKER_serving (c : Nat) : Field := ⟨0xd0200 + 0x4 * (c % 8), 1, 3⟩
/-- KV_WALKER.overflows, Table KV-8. -/
def KV_WALKER_overflows (c : Nat) : Field := ⟨0xd0200 + 0x4 * (c % 8), 16, 16⟩
/-- ROUTE_STATUS.builder_running, Table ROUTE-9. -/
def ROUTE_STATUS_builder_running : Field := ⟨0x40000, 0, 1⟩
/-- ROUTE_STATUS.jobs, Table ROUTE-9. -/
def ROUTE_STATUS_jobs : Field := ⟨0x40000, 8, 9⟩
/-- ROUTE_PERIOD_LO.number, Table ROUTE-9. -/
def ROUTE_PERIOD_LO_number : Field := ⟨0x40004, 0, 32⟩
/-- ROUTE_PERIOD_HI.number, Table ROUTE-9. -/
def ROUTE_PERIOD_HI_number : Field := ⟨0x40008, 0, 32⟩
/-- ROUTE_CMD.cmd, Table ROUTE-9. -/
def ROUTE_CMD_cmd : Field := ⟨0x40010, 0, 4⟩
/-- ROUTE_CMD.partition, Table ROUTE-9. -/
def ROUTE_CMD_partition : Field := ⟨0x40010, 4, 3⟩
/-- ROUTE_CMD.target, Table ROUTE-9. -/
def ROUTE_CMD_target : Field := ⟨0x40010, 8, 8⟩
/-- ROUTE_CMD_ARG0.value, Table ROUTE-9. -/
def ROUTE_CMD_ARG0_value (i : Nat) : Field := ⟨0x40014 + portBank i, 0, 19⟩
/-- ROUTE_CMD_ARG0.high, Table ROUTE-9. -/
def ROUTE_CMD_ARG0_high (i : Nat) : Field := ⟨0x40014 + portBank i, 19, 13⟩
/-- ROUTE_CMD_ARG1.start, Table ROUTE-9. -/
def ROUTE_CMD_ARG1_start (i : Nat) : Field := ⟨0x40018 + portBank i, 0, 24⟩
/-- ROUTE_CMD_ARG2.length, Table ROUTE-9. -/
def ROUTE_CMD_ARG2_length (i : Nat) : Field := ⟨0x4001c + portBank i, 0, 24⟩
/-- ROUTE_CMD_STATUS.code, Table ROUTE-9. -/
def ROUTE_CMD_STATUS_code (i : Nat) : Field := ⟨0x40020 + portBank i, 0, 16⟩
/-- ROUTE_CMD_STATUS.reason, Table ROUTE-9. -/
def ROUTE_CMD_STATUS_reason (i : Nat) : Field := ⟨0x40020 + portBank i, 16, 8⟩
/-- ROUTE_CMD_STATUS.job, Table ROUTE-9. -/
def ROUTE_CMD_STATUS_job (i : Nat) : Field := ⟨0x40020 + portBank i, 24, 8⟩
/-- ROUTE_CMD_STATUS2.period, Table ROUTE-9. -/
def ROUTE_CMD_STATUS2_period (i : Nat) : Field := ⟨0x40024 + portBank i, 0, 32⟩
/-- ROUTE_PART.criticality, Table ROUTE-10. -/
def ROUTE_PART_criticality (p : Nat) : Field := ⟨0x40100 + 0x20 * (p % 8), 0, 2⟩
/-- ROUTE_PART.port, Table ROUTE-10. -/
def ROUTE_PART_port (p : Nat) : Field := ⟨0x40100 + 0x20 * (p % 8), 2, 2⟩
/-- ROUTE_PART.paced, Table ROUTE-10. -/
def ROUTE_PART_paced (p : Nat) : Field := ⟨0x40100 + 0x20 * (p % 8), 4, 1⟩
/-- ROUTE_PART.fit, Table ROUTE-10. -/
def ROUTE_PART_fit (p : Nat) : Field := ⟨0x40100 + 0x20 * (p % 8), 5, 1⟩
/-- ROUTE_PART.over_quota, Table ROUTE-10. -/
def ROUTE_PART_over_quota (p : Nat) : Field := ⟨0x40100 + 0x20 * (p % 8), 6, 1⟩
/-- ROUTE_PART.defined, Table ROUTE-10. -/
def ROUTE_PART_defined (p : Nat) : Field := ⟨0x40100 + 0x20 * (p % 8), 7, 1⟩
/-- ROUTE_PART.jobs, Table ROUTE-10. -/
def ROUTE_PART_jobs (p : Nat) : Field := ⟨0x40100 + 0x20 * (p % 8), 8, 9⟩
/-- ROUTE_QUOTA.pages, Table ROUTE-10. -/
def ROUTE_QUOTA_pages (p : Nat) : Field := ⟨0x40104 + 0x20 * (p % 8), 0, 19⟩
/-- ROUTE_QUOTA_LIMIT.pages, Table ROUTE-10. -/
def ROUTE_QUOTA_LIMIT_pages (p : Nat) : Field := ⟨0x40108 + 0x20 * (p % 8), 0, 19⟩
/-- ROUTE_PAGES.held, Table ROUTE-10. -/
def ROUTE_PAGES_held (p : Nat) : Field := ⟨0x4010c + 0x20 * (p % 8), 0, 19⟩
/-- ROUTE_BW.share, Table ROUTE-10. -/
def ROUTE_BW_share (p : Nat) : Field := ⟨0x40110 + 0x20 * (p % 8), 0, 11⟩
/-- ROUTE_BW.need, Table ROUTE-10. -/
def ROUTE_BW_need (p : Nat) : Field := ⟨0x40110 + 0x20 * (p % 8), 11, 11⟩
/-- ROUTE_PENDING.quota, Table ROUTE-10. -/
def ROUTE_PENDING_quota (p : Nat) : Field := ⟨0x40114 + 0x20 * (p % 8), 0, 1⟩
/-- ROUTE_PENDING.bandwidth, Table ROUTE-10. -/
def ROUTE_PENDING_bandwidth (p : Nat) : Field := ⟨0x40114 + 0x20 * (p % 8), 1, 1⟩
/-- ROUTE_PENDING.window, Table ROUTE-10. -/
def ROUTE_PENDING_window (p : Nat) : Field := ⟨0x40114 + 0x20 * (p % 8), 2, 1⟩
/-- ROUTE_PENDING.weight, Table ROUTE-10. -/
def ROUTE_PENDING_weight (p : Nat) : Field := ⟨0x40114 + 0x20 * (p % 8), 3, 1⟩
/-- ROUTE_FIT.ticks, Table ROUTE-10. -/
def ROUTE_FIT_ticks (p : Nat) : Field := ⟨0x40118 + 0x20 * (p % 8), 0, 24⟩
/-- ROUTE_DEFER.legs, Table ROUTE-10. -/
def ROUTE_DEFER_legs (p : Nat) : Field := ⟨0x4011c + 0x20 * (p % 8), 0, 16⟩
/-- ROUTE_DEFER.slots, Table ROUTE-10. -/
def ROUTE_DEFER_slots (p : Nat) : Field := ⟨0x4011c + 0x20 * (p % 8), 16, 16⟩
/-- ROUTE_JOB.state, Table ROUTE-11. -/
def ROUTE_JOB_state (j : Nat) : Field := ⟨0x41000 + 0x20 * (j % 256), 0, 3⟩
/-- ROUTE_JOB.partition, Table ROUTE-11. -/
def ROUTE_JOB_partition (j : Nat) : Field := ⟨0x41000 + 0x20 * (j % 256), 3, 3⟩
/-- ROUTE_JOB.cadence, Table ROUTE-11. -/
def ROUTE_JOB_cadence (j : Nat) : Field := ⟨0x41000 + 0x20 * (j % 256), 6, 2⟩
/-- ROUTE_JOB.template, Table ROUTE-11. -/
def ROUTE_JOB_template (j : Nat) : Field := ⟨0x41000 + 0x20 * (j % 256), 8, 8⟩
/-- ROUTE_JOB.weight, Table ROUTE-11. -/
def ROUTE_JOB_weight (j : Nat) : Field := ⟨0x41000 + 0x20 * (j % 256), 16, 10⟩
/-- ROUTE_TOLL_LO.ticks, Table ROUTE-11. -/
def ROUTE_TOLL_LO_ticks (j : Nat) : Field := ⟨0x41004 + 0x20 * (j % 256), 0, 32⟩
/-- ROUTE_TOLL_HI.ticks, Table ROUTE-11. -/
def ROUTE_TOLL_HI_ticks (j : Nat) : Field := ⟨0x41008 + 0x20 * (j % 256), 0, 16⟩
/-- ROUTE_SLOWDOWN.slowdown, Table ROUTE-11. -/
def ROUTE_SLOWDOWN_slowdown (j : Nat) : Field := ⟨0x4100c + 0x20 * (j % 256), 0, 16⟩
/-- ROUTE_SLOWDOWN.limit, Table ROUTE-11. -/
def ROUTE_SLOWDOWN_limit (j : Nat) : Field := ⟨0x4100c + 0x20 * (j % 256), 16, 16⟩
/-- ROUTE_BASELINE.ns, Table ROUTE-11. -/
def ROUTE_BASELINE_ns (j : Nat) : Field := ⟨0x41010 + 0x20 * (j % 256), 0, 32⟩
/-- ROUTE_ITER.count, Table ROUTE-11. -/
def ROUTE_ITER_count (j : Nat) : Field := ⟨0x41014 + 0x20 * (j % 256), 0, 32⟩
/-- ROUTE_DEFERRED.legs, Table ROUTE-11. -/
def ROUTE_DEFERRED_legs (j : Nat) : Field := ⟨0x41018 + 0x20 * (j % 256), 0, 16⟩
/-- ROUTE_WIN_START.tick, Table ROUTE-11. -/
def ROUTE_WIN_START_tick (i : Nat) : Field := ⟨0x44000 + 0x8 * (i % 128), 0, 24⟩
/-- ROUTE_WIN_LEN.ticks, Table ROUTE-11. -/
def ROUTE_WIN_LEN_ticks (i : Nat) : Field := ⟨0x44004 + 0x8 * (i % 128), 0, 24⟩
/-- LANE_REF.spread, Table LANE-7. -/
def LANE_REF_spread : Field := ⟨0x80000, 0, 2⟩
/-- LANE_UP_MASK.up, Table LANE-7. -/
def LANE_UP_MASK_up : Field := ⟨0x80004, 0, 32⟩
/-- LANE_CFG.enabled, Table LANE-7. -/
def LANE_CFG_enabled (n : Nat) : Field := ⟨0x81000 + 0x100 * (n % 32), 0, 1⟩
/-- LANE_CFG.rate, Table LANE-7. -/
def LANE_CFG_rate (n : Nat) : Field := ⟨0x81000 + 0x100 * (n % 32), 1, 2⟩
/-- LANE_CFG.ref_mode, Table LANE-7. -/
def LANE_CFG_ref_mode (n : Nat) : Field := ⟨0x81000 + 0x100 * (n % 32), 3, 1⟩
/-- LANE_CFG.channel, Table LANE-7. -/
def LANE_CFG_channel (n : Nat) : Field := ⟨0x81000 + 0x100 * (n % 32), 4, 4⟩
/-- LANE_CFG.sensors, Table LANE-7. -/
def LANE_CFG_sensors (n : Nat) : Field := ⟨0x81000 + 0x100 * (n % 32), 8, 3⟩
/-- LANE_CTRL.cmd, Table LANE-7. -/
def LANE_CTRL_cmd (n : Nat) : Field := ⟨0x81004 + 0x100 * (n % 32), 0, 4⟩
/-- LANE_CTRL.loop, Table LANE-7. -/
def LANE_CTRL_loop (n : Nat) : Field := ⟨0x81004 + 0x100 * (n % 32), 4, 2⟩
/-- LANE_CTRL.prbs, Table LANE-7. -/
def LANE_CTRL_prbs (n : Nat) : Field := ⟨0x81004 + 0x100 * (n % 32), 6, 2⟩
/-- LANE_STATUS.state, Table LANE-7. -/
def LANE_STATUS_state (n : Nat) : Field := ⟨0x81008 + 0x100 * (n % 32), 0, 4⟩
/-- LANE_STATUS.block_lock, Table LANE-7. -/
def LANE_STATUS_block_lock (n : Nat) : Field := ⟨0x81008 + 0x100 * (n % 32), 4, 1⟩
/-- LANE_STATUS.streams, Table LANE-7. -/
def LANE_STATUS_streams (n : Nat) : Field := ⟨0x81008 + 0x100 * (n % 32), 8, 8⟩
/-- LANE_STATUS.trainings, Table LANE-7. -/
def LANE_STATUS_trainings (n : Nat) : Field := ⟨0x81008 + 0x100 * (n % 32), 16, 16⟩
/-- LANE_TXEQ.pre, Table LANE-7. -/
def LANE_TXEQ_pre (n : Nat) : Field := ⟨0x8100c + 0x100 * (n % 32), 0, 5⟩
/-- LANE_TXEQ.post, Table LANE-7. -/
def LANE_TXEQ_post (n : Nat) : Field := ⟨0x8100c + 0x100 * (n % 32), 8, 5⟩
/-- LANE_TXEQ.main, Table LANE-7. -/
def LANE_TXEQ_main (n : Nat) : Field := ⟨0x8100c + 0x100 * (n % 32), 16, 7⟩
/-- LANE_CRC_ERR.count, Table LANE-7. -/
def LANE_CRC_ERR_count (n : Nat) : Field := ⟨0x81010 + 0x100 * (n % 32), 0, 32⟩
/-- LANE_NAK.sent, Table LANE-7. -/
def LANE_NAK_sent (n : Nat) : Field := ⟨0x81014 + 0x100 * (n % 32), 0, 16⟩
/-- LANE_NAK.resent, Table LANE-7. -/
def LANE_NAK_resent (n : Nat) : Field := ⟨0x81014 + 0x100 * (n % 32), 16, 16⟩
/-- LANE_LOST.lines, Table LANE-7. -/
def LANE_LOST_lines (n : Nat) : Field := ⟨0x81018 + 0x100 * (n % 32), 0, 16⟩
/-- LANE_LOST.resyncs, Table LANE-7. -/
def LANE_LOST_resyncs (n : Nat) : Field := ⟨0x81018 + 0x100 * (n % 32), 16, 16⟩
/-- LANE_VIOL.count, Table LANE-7. -/
def LANE_VIOL_count (n : Nat) : Field := ⟨0x8101c + 0x100 * (n % 32), 0, 32⟩
/-- LANE_PRBS_ERR.bits, Table LANE-7. -/
def LANE_PRBS_ERR_bits (n : Nat) : Field := ⟨0x81020 + 0x100 * (n % 32), 0, 32⟩
/-- LANE_LINES.count, Table LANE-7. -/
def LANE_LINES_count (n : Nat) : Field := ⟨0x81024 + 0x100 * (n % 32), 0, 32⟩
/-- LANE_RETRY.limit, Table LANE-7. -/
def LANE_RETRY_limit (n : Nat) : Field := ⟨0x81028 + 0x100 * (n % 32), 0, 2⟩
/-- LANE_STREAM.next_seq, Table LANE-7. -/
def LANE_STREAM_next_seq (n s : Nat) : Field := ⟨0x81040 + 0x100 * (n % 32) + 0x4 * (s % 8), 0, 16⟩
/-- LANE_STREAM.state, Table LANE-7. -/
def LANE_STREAM_state (n s : Nat) : Field := ⟨0x81040 + 0x100 * (n % 32) + 0x4 * (s % 8), 16, 2⟩
/-- ISP_STATUS.contexts, Table ISP-10. -/
def ISP_STATUS_contexts : Field := ⟨0xa0000, 0, 7⟩
/-- ISP_STATUS.channels, Table ISP-10. -/
def ISP_STATUS_channels : Field := ⟨0xa0000, 7, 16⟩
/-- ISP_LINESTORE.work_kib, Table ISP-10. -/
def ISP_LINESTORE_work_kib : Field := ⟨0xa0004, 0, 16⟩
/-- ISP_CHAN.lanes, Table ISP-10. -/
def ISP_CHAN_lanes (n : Nat) : Field := ⟨0xa0100 + 0x20 * (n % 16), 0, 32⟩
/-- ISP_LAYBY.bytes, Table ISP-10. -/
def ISP_LAYBY_bytes (n : Nat) : Field := ⟨0xa0104 + 0x20 * (n % 16), 0, 22⟩
/-- ISP_LAYBY_PEAK.bytes, Table ISP-10. -/
def ISP_LAYBY_PEAK_bytes (n : Nat) : Field := ⟨0xa0108 + 0x20 * (n % 16), 0, 22⟩
/-- ISP_LAYBY_LOST.lines, Table ISP-10. -/
def ISP_LAYBY_LOST_lines (n : Nat) : Field := ⟨0xa010c + 0x20 * (n % 16), 0, 32⟩
/-- ISP_GOLDEN.injected, Table ISP-10. -/
def ISP_GOLDEN_injected (n : Nat) : Field := ⟨0xa0110 + 0x20 * (n % 16), 0, 16⟩
/-- ISP_GOLDEN.deferred, Table ISP-10. -/
def ISP_GOLDEN_deferred (n : Nat) : Field := ⟨0xa0110 + 0x20 * (n % 16), 16, 8⟩
/-- ISP_GOLDEN.forced, Table ISP-10. -/
def ISP_GOLDEN_forced (n : Nat) : Field := ⟨0xa0110 + 0x20 * (n % 16), 24, 8⟩
/-- ISP_GOLDEN_WAIT.ns, Table ISP-10. -/
def ISP_GOLDEN_WAIT_ns (n : Nat) : Field := ⟨0xa0114 + 0x20 * (n % 16), 0, 16⟩
/-- ISP_CHAN_LINES.count, Table ISP-10. -/
def ISP_CHAN_LINES_count (n : Nat) : Field := ⟨0xa0118 + 0x20 * (n % 16), 0, 32⟩
/-- ISP_CTX_CFG.defined, Table ISP-11. -/
def ISP_CTX_CFG_defined (c : Nat) : Field := ⟨0xa1000 + 0x100 * (c % 64), 0, 1⟩
/-- ISP_CTX_CFG.lane, Table ISP-11. -/
def ISP_CTX_CFG_lane (c : Nat) : Field := ⟨0xa1000 + 0x100 * (c % 64), 1, 5⟩
/-- ISP_CTX_CFG.stream, Table ISP-11. -/
def ISP_CTX_CFG_stream (c : Nat) : Field := ⟨0xa1000 + 0x100 * (c % 64), 6, 3⟩
/-- ISP_CTX_CFG.kind, Table ISP-11. -/
def ISP_CTX_CFG_kind (c : Nat) : Field := ⟨0xa1000 + 0x100 * (c % 64), 9, 2⟩
/-- ISP_CTX_CFG.partition, Table ISP-11. -/
def ISP_CTX_CFG_partition (c : Nat) : Field := ⟨0xa1000 + 0x100 * (c % 64), 11, 3⟩
/-- ISP_CTX_CFG.channel, Table ISP-11. -/
def ISP_CTX_CFG_channel (c : Nat) : Field := ⟨0xa1000 + 0x100 * (c % 64), 14, 4⟩
/-- ISP_CTX_CMD.cmd, Table ISP-11. -/
def ISP_CTX_CMD_cmd (c : Nat) : Field := ⟨0xa1004 + 0x100 * (c % 64), 0, 4⟩
/-- ISP_CTX_SRC_LO.addr, Table ISP-11. -/
def ISP_CTX_SRC_LO_addr (c : Nat) : Field := ⟨0xa1008 + 0x100 * (c % 64), 0, 32⟩
/-- ISP_CTX_SRC_HI.addr, Table ISP-11. -/
def ISP_CTX_SRC_HI_addr (c : Nat) : Field := ⟨0xa100c + 0x100 * (c % 64), 0, 32⟩
/-- ISP_CTX_LEN.bytes, Table ISP-11. -/
def ISP_CTX_LEN_bytes (c : Nat) : Field := ⟨0xa1010 + 0x100 * (c % 64), 0, 21⟩
/-- ISP_CTX_LEN.hbm, Table ISP-11. -/
def ISP_CTX_LEN_hbm (c : Nat) : Field := ⟨0xa1010 + 0x100 * (c % 64), 31, 1⟩
/-- ISP_CTX_STATUS.active_bank, Table ISP-11. -/
def ISP_CTX_STATUS_active_bank (c : Nat) : Field := ⟨0xa1014 + 0x100 * (c % 64), 0, 1⟩
/-- ISP_CTX_STATUS.shadow, Table ISP-11. -/
def ISP_CTX_STATUS_shadow (c : Nat) : Field := ⟨0xa1014 + 0x100 * (c % 64), 1, 2⟩
/-- ISP_CTX_STATUS.loaded, Table ISP-11. -/
def ISP_CTX_STATUS_loaded (c : Nat) : Field := ⟨0xa1014 + 0x100 * (c % 64), 3, 3⟩
/-- ISP_CTX_STATUS.restart_pending, Table ISP-11. -/
def ISP_CTX_STATUS_restart_pending (c : Nat) : Field := ⟨0xa1014 + 0x100 * (c % 64), 6, 1⟩
/-- ISP_CTX_STATUS.frame_open, Table ISP-11. -/
def ISP_CTX_STATUS_frame_open (c : Nat) : Field := ⟨0xa1014 + 0x100 * (c % 64), 7, 1⟩
/-- ISP_CTX_STATUS.outputs, Table ISP-11. -/
def ISP_CTX_STATUS_outputs (c : Nat) : Field := ⟨0xa1014 + 0x100 * (c % 64), 8, 4⟩
/-- ISP_CTX_FRAME.number, Table ISP-11. -/
def ISP_CTX_FRAME_number (c : Nat) : Field := ⟨0xa1018 + 0x100 * (c % 64), 0, 32⟩
/-- ISP_CTX_LINES.count, Table ISP-11. -/
def ISP_CTX_LINES_count (c : Nat) : Field := ⟨0xa101c + 0x100 * (c % 64), 0, 32⟩
/-- ISP_CTX_STATS.frame, Table ISP-11. -/
def ISP_CTX_STATS_frame (c : Nat) : Field := ⟨0xa1020 + 0x100 * (c % 64), 0, 32⟩
/-- ISP_CTX_FAULTS.lost, Table ISP-11. -/
def ISP_CTX_FAULTS_lost (c : Nat) : Field := ⟨0xa1024 + 0x100 * (c % 64), 0, 16⟩
/-- ISP_CTX_FAULTS.cut, Table ISP-11. -/
def ISP_CTX_FAULTS_cut (c : Nat) : Field := ⟨0xa1024 + 0x100 * (c % 64), 16, 8⟩
/-- ISP_CTX_FAULTS.frames, Table ISP-11. -/
def ISP_CTX_FAULTS_frames (c : Nat) : Field := ⟨0xa1024 + 0x100 * (c % 64), 24, 8⟩
/-- ISP_CTX_RESULT.code, Table ISP-11. -/
def ISP_CTX_RESULT_code (i c : Nat) : Field := ⟨0xa1028 + portBank i + 0x100 * (c % 64), 0, 16⟩
/-- ISP_CTX_RESULT.reason, Table ISP-11. -/
def ISP_CTX_RESULT_reason (i c : Nat) : Field := ⟨0xa1028 + portBank i + 0x100 * (c % 64), 16, 8⟩
/-- ISP_CTX_DIGEST.word, Table ISP-11. -/
def ISP_CTX_DIGEST_word (c i : Nat) : Field := ⟨0xa1040 + 0x100 * (c % 64) + 0x4 * (i % 8), 0, 32⟩
/-- INGEST_STATUS.decoders_busy, Table INGEST-7. -/
def INGEST_STATUS_decoders_busy : Field := ⟨0xc0000, 0, 4⟩
/-- INGEST_STATUS.running, Table INGEST-7. -/
def INGEST_STATUS_running : Field := ⟨0xc0000, 4, 8⟩
/-- INGEST_LOAD.decoder, Table INGEST-7. -/
def INGEST_LOAD_decoder : Field := ⟨0xc0004, 0, 8⟩
/-- INGEST_LOAD.augment, Table INGEST-7. -/
def INGEST_LOAD_augment : Field := ⟨0xc0004, 8, 8⟩
/-- INGEST_CMD.cmd, Table INGEST-7. -/
def INGEST_CMD_cmd : Field := ⟨0xc0008, 0, 4⟩
/-- INGEST_CMD.queue, Table INGEST-7. -/
def INGEST_CMD_queue : Field := ⟨0xc0008, 4, 3⟩
/-- INGEST_Q_RING_LO.addr, Table INGEST-7. -/
def INGEST_Q_RING_LO_addr (p : Nat) : Field := ⟨0xc0100 + 0x40 * (p % 8), 0, 32⟩
/-- INGEST_Q_RING_HI.addr, Table INGEST-7. -/
def INGEST_Q_RING_HI_addr (p : Nat) : Field := ⟨0xc0104 + 0x40 * (p % 8), 0, 32⟩
/-- INGEST_Q_RING_SIZE.log2, Table INGEST-7. -/
def INGEST_Q_RING_SIZE_log2 (p : Nat) : Field := ⟨0xc0108 + 0x40 * (p % 8), 0, 5⟩
/-- INGEST_Q_RING_SIZE.batch, Table INGEST-7. -/
def INGEST_Q_RING_SIZE_batch (p : Nat) : Field := ⟨0xc0108 + 0x40 * (p % 8), 16, 11⟩
/-- INGEST_Q_TAIL.pos, Table INGEST-7. -/
def INGEST_Q_TAIL_pos (p : Nat) : Field := ⟨0xc010c + 0x40 * (p % 8), 0, 32⟩
/-- INGEST_Q_HEAD.pos, Table INGEST-7. -/
def INGEST_Q_HEAD_pos (p : Nat) : Field := ⟨0xc0110 + 0x40 * (p % 8), 0, 32⟩
/-- INGEST_Q_SEED_LO.seed, Table INGEST-7. -/
def INGEST_Q_SEED_LO_seed (p : Nat) : Field := ⟨0xc0114 + 0x40 * (p % 8), 0, 32⟩
/-- INGEST_Q_SEED_HI.seed, Table INGEST-7. -/
def INGEST_Q_SEED_HI_seed (p : Nat) : Field := ⟨0xc0118 + 0x40 * (p % 8), 0, 32⟩
/-- INGEST_Q_EPOCH.epoch, Table INGEST-7. -/
def INGEST_Q_EPOCH_epoch (p : Nat) : Field := ⟨0xc011c + 0x40 * (p % 8), 0, 32⟩
/-- INGEST_Q_LIMITS.stale_ms, Table INGEST-7. -/
def INGEST_Q_LIMITS_stale_ms (p : Nat) : Field := ⟨0xc0120 + 0x40 * (p % 8), 0, 14⟩
/-- INGEST_Q_LIMITS.timeout_us, Table INGEST-7. -/
def INGEST_Q_LIMITS_timeout_us (p : Nat) : Field := ⟨0xc0120 + 0x40 * (p % 8), 14, 18⟩
/-- INGEST_Q_STATE.state, Table INGEST-7. -/
def INGEST_Q_STATE_state (p : Nat) : Field := ⟨0xc0124 + 0x40 * (p % 8), 0, 2⟩
/-- INGEST_Q_STATE.over_quota, Table INGEST-7. -/
def INGEST_Q_STATE_over_quota (p : Nat) : Field := ⟨0xc0124 + 0x40 * (p % 8), 2, 1⟩
/-- INGEST_Q_STATE.error, Table INGEST-7. -/
def INGEST_Q_STATE_error (p : Nat) : Field := ⟨0xc0124 + 0x40 * (p % 8), 8, 8⟩
/-- INGEST_Q_STATE.open, Table INGEST-7. -/
def INGEST_Q_STATE_open (p : Nat) : Field := ⟨0xc0124 + 0x40 * (p % 8), 16, 4⟩
/-- INGEST_Q_BATCHES.closed, Table INGEST-7. -/
def INGEST_Q_BATCHES_closed (p : Nat) : Field := ⟨0xc0128 + 0x40 * (p % 8), 0, 32⟩
/-- INGEST_Q_DONE.samples, Table INGEST-7. -/
def INGEST_Q_DONE_samples (p : Nat) : Field := ⟨0xc012c + 0x40 * (p % 8), 0, 32⟩
/-- INGEST_Q_VOID.count, Table INGEST-7. -/
def INGEST_Q_VOID_count (p i b : Nat) : Field := ⟨0xc0130 + 0x40 * (p % 8) + 0x4 * (i % 3), 8 * (b % 4), 8⟩
/-- MOT_STATUS.present, Table MOT-8. -/
def MOT_STATUS_present : Field := ⟨0xe0000, 0, 8⟩
/-- MOT_STATUS.count_valid, Table MOT-8. -/
def MOT_STATUS_count_valid : Field := ⟨0xe0000, 8, 8⟩
/-- MOT_STATUS.fault, Table MOT-8. -/
def MOT_STATUS_fault : Field := ⟨0xe0000, 16, 8⟩
/-- MOT_STATUS.speed_valid, Table MOT-8. -/
def MOT_STATUS_speed_valid : Field := ⟨0xe0000, 24, 8⟩
/-- MOT_CMD.cmd, Table MOT-8. -/
def MOT_CMD_cmd : Field := ⟨0xe0004, 0, 4⟩
/-- MOT_CMD.channel, Table MOT-8. -/
def MOT_CMD_channel : Field := ⟨0xe0004, 4, 3⟩
/-- MOT_CMD_STATUS.code, Table MOT-8. -/
def MOT_CMD_STATUS_code (i : Nat) : Field := ⟨0xe0008 + portBank i, 0, 16⟩
/-- MOT_CMD_STATUS.reason, Table MOT-8. -/
def MOT_CMD_STATUS_reason (i : Nat) : Field := ⟨0xe0008 + portBank i, 16, 8⟩
/-- MOT_CH_CFG.mode, Table MOT-8. -/
def MOT_CH_CFG_mode (n : Nat) : Field := ⟨0xe0100 + 0x40 * (n % 8), 0, 3⟩
/-- MOT_CH_CFG.decode, Table MOT-8. -/
def MOT_CH_CFG_decode (n : Nat) : Field := ⟨0xe0100 + 0x40 * (n % 8), 3, 2⟩
/-- MOT_CH_CFG.reverse, Table MOT-8. -/
def MOT_CH_CFG_reverse (n : Nat) : Field := ⟨0xe0100 + 0x40 * (n % 8), 5, 1⟩
/-- MOT_CH_CFG.filter, Table MOT-8. -/
def MOT_CH_CFG_filter (n : Nat) : Field := ⟨0xe0100 + 0x40 * (n % 8), 6, 3⟩
/-- MOT_CH_CFG.framing, Table MOT-8. -/
def MOT_CH_CFG_framing (n : Nat) : Field := ⟨0xe0100 + 0x40 * (n % 8), 9, 3⟩
/-- MOT_CH_CFG.index_check, Table MOT-8. -/
def MOT_CH_CFG_index_check (n : Nat) : Field := ⟨0xe0100 + 0x40 * (n % 8), 12, 1⟩
/-- MOT_CH_CFG.interval, Table MOT-8. -/
def MOT_CH_CFG_interval (n : Nat) : Field := ⟨0xe0100 + 0x40 * (n % 8), 16, 16⟩
/-- MOT_CH_STATUS.count_state, Table MOT-8. -/
def MOT_CH_STATUS_count_state (n : Nat) : Field := ⟨0xe0104 + 0x40 * (n % 8), 0, 2⟩
/-- MOT_CH_STATUS.speed_state, Table MOT-8. -/
def MOT_CH_STATUS_speed_state (n : Nat) : Field := ⟨0xe0104 + 0x40 * (n % 8), 2, 2⟩
/-- MOT_CH_STATUS.fault_cause, Table MOT-8. -/
def MOT_CH_STATUS_fault_cause (n : Nat) : Field := ⟨0xe0104 + 0x40 * (n % 8), 4, 3⟩
/-- MOT_CH_STATUS.bad_run, Table MOT-8. -/
def MOT_CH_STATUS_bad_run (n : Nat) : Field := ⟨0xe0104 + 0x40 * (n % 8), 16, 16⟩
/-- MOT_CH_COUNT_LO.count, Table MOT-8. -/
def MOT_CH_COUNT_LO_count (n : Nat) : Field := ⟨0xe0108 + 0x40 * (n % 8), 0, 32⟩
/-- MOT_CH_COUNT_HI.count, Table MOT-8. -/
def MOT_CH_COUNT_HI_count (n : Nat) : Field := ⟨0xe010c + 0x40 * (n % 8), 0, 32⟩
/-- MOT_CH_SPEED.speed, Table MOT-8. -/
def MOT_CH_SPEED_speed (n : Nat) : Field := ⟨0xe0110 + 0x40 * (n % 8), 0, 32⟩
/-- MOT_CH_INDEX.count, Table MOT-8. -/
def MOT_CH_INDEX_count (n : Nat) : Field := ⟨0xe0114 + 0x40 * (n % 8), 0, 32⟩
/-- MOT_CH_ERR.errors, Table MOT-8. -/
def MOT_CH_ERR_errors (n : Nat) : Field := ⟨0xe0118 + 0x40 * (n % 8), 0, 16⟩
/-- MOT_CH_ERR.warnings, Table MOT-8. -/
def MOT_CH_ERR_warnings (n : Nat) : Field := ⟨0xe0118 + 0x40 * (n % 8), 16, 16⟩
/-- MOT_CH_MP.armed, Table MOT-8. -/
def MOT_CH_MP_armed (n : Nat) : Field := ⟨0xe011c + 0x40 * (n % 8), 0, 13⟩
/-- MOT_CH_FIRED.count, Table MOT-8. -/
def MOT_CH_FIRED_count (n : Nat) : Field := ⟨0xe0120 + 0x40 * (n % 8), 0, 32⟩
/-- MOT_CH_CANCELLED.count, Table MOT-8. -/
def MOT_CH_CANCELLED_count (n : Nat) : Field := ⟨0xe0124 + 0x40 * (n % 8), 0, 32⟩
/-- MOT_CH_LATE.count, Table MOT-8. -/
def MOT_CH_LATE_count (n : Nat) : Field := ⟨0xe0128 + 0x40 * (n % 8), 0, 16⟩
/-- MOT_CH_LATE.refused, Table MOT-8. -/
def MOT_CH_LATE_refused (n : Nat) : Field := ⟨0xe0128 + 0x40 * (n % 8), 16, 16⟩
/-- MOT_CH_SUPPRESSED.count, Table MOT-8. -/
def MOT_CH_SUPPRESSED_count (n : Nat) : Field := ⟨0xe012c + 0x40 * (n % 8), 0, 16⟩
/-- MOT_CH_SUPPRESSED.overlaps, Table MOT-8. -/
def MOT_CH_SUPPRESSED_overlaps (n : Nat) : Field := ⟨0xe012c + 0x40 * (n % 8), 16, 16⟩
/-- MOT_DIV_CFG.source, Table MOT-8. -/
def MOT_DIV_CFG_source (d : Nat) : Field := ⟨0xe0400 + 0x20 * (d % 8), 0, 2⟩
/-- MOT_DIV_CFG.channel, Table MOT-8. -/
def MOT_DIV_CFG_channel (d : Nat) : Field := ⟨0xe0400 + 0x20 * (d % 8), 2, 3⟩
/-- MOT_DIV_CFG.pulse, Table MOT-8. -/
def MOT_DIV_CFG_pulse (d : Nat) : Field := ⟨0xe0400 + 0x20 * (d % 8), 5, 1⟩
/-- MOT_DIV_CFG.width, Table MOT-8. -/
def MOT_DIV_CFG_width (d : Nat) : Field := ⟨0xe0400 + 0x20 * (d % 8), 8, 24⟩
/-- MOT_DIV_RATIO.ratio, Table MOT-8. -/
def MOT_DIV_RATIO_ratio (d : Nat) : Field := ⟨0xe0404 + 0x20 * (d % 8), 0, 32⟩
/-- MOT_DIV_LANES.mask, Table MOT-8. -/
def MOT_DIV_LANES_mask (d : Nat) : Field := ⟨0xe0408 + 0x20 * (d % 8), 0, 32⟩
/-- MOT_DIV_STREAMS.mask, Table MOT-8. -/
def MOT_DIV_STREAMS_mask (d : Nat) : Field := ⟨0xe040c + 0x20 * (d % 8), 0, 8⟩
/-- MOT_DIV_TRIG.next, Table MOT-8. -/
def MOT_DIV_TRIG_next (d : Nat) : Field := ⟨0xe0410 + 0x20 * (d % 8), 0, 16⟩
/-- MOT_DIV_TRIG.dropped, Table MOT-8. -/
def MOT_DIV_TRIG_dropped (d : Nat) : Field := ⟨0xe0410 + 0x20 * (d % 8), 16, 16⟩
/-- MOT_MP_SEL.channel, Table MOT-8. -/
def MOT_MP_SEL_channel (i : Nat) : Field := ⟨0xe0800 + portBank i, 0, 3⟩
/-- MOT_MP_SEL.index, Table MOT-8. -/
def MOT_MP_SEL_index (i : Nat) : Field := ⟨0xe0800 + portBank i, 3, 12⟩
/-- MOT_MP_ENTRY.word, Table MOT-8. -/
def MOT_MP_ENTRY_word (i0 i : Nat) : Field := ⟨0xe0820 + portBank i0 + 0x4 * (i % 8), 0, 32⟩
/-- FIO_STATUS.field_low, Table FIO-2. -/
def FIO_STATUS_field_low : Field := ⟨0xf0000, 0, 1⟩
/-- FIO_STATUS.group_low, Table FIO-2. -/
def FIO_STATUS_group_low : Field := ⟨0xf0000, 1, 4⟩
/-- FIO_STATUS.safe_state, Table FIO-2. -/
def FIO_STATUS_safe_state : Field := ⟨0xf0000, 5, 1⟩
/-- FIO_IN.state, Table FIO-2. -/
def FIO_IN_state : Field := ⟨0xf0004, 0, 32⟩
/-- FIO_OUT_STATE.on, Table FIO-2. -/
def FIO_OUT_STATE_on : Field := ⟨0xf0008, 0, 32⟩
/-- FIO_OUT_SET.mask, Table FIO-2. -/
def FIO_OUT_SET_mask : Field := ⟨0xf000c, 0, 32⟩
/-- FIO_OUT_CLR.mask, Table FIO-2. -/
def FIO_OUT_CLR_mask : Field := ⟨0xf0010, 0, 32⟩
/-- FIO_OUT_CMD.cmd, Table FIO-2. -/
def FIO_OUT_CMD_cmd : Field := ⟨0xf0014, 0, 4⟩
/-- FIO_OUT_CMD.output, Table FIO-2. -/
def FIO_OUT_CMD_output : Field := ⟨0xf0014, 4, 6⟩
/-- FIO_GROUP.current_ma, Table FIO-2. -/
def FIO_GROUP_current_ma (g : Nat) : Field := ⟨0xf0020 + 0x4 * (g % 4), 0, 16⟩
/-- FIO_IN_CFG.type, Table FIO-2. -/
def FIO_IN_CFG_type (i : Nat) : Field := ⟨0xf0100 + 0x10 * (i % 32), 0, 2⟩
/-- FIO_IN_CFG.filter_us, Table FIO-2. -/
def FIO_IN_CFG_filter_us (i : Nat) : Field := ⟨0xf0100 + 0x10 * (i % 32), 2, 14⟩
/-- FIO_IN_CFG.capture, Table FIO-2. -/
def FIO_IN_CFG_capture (i : Nat) : Field := ⟨0xf0100 + 0x10 * (i % 32), 16, 3⟩
/-- FIO_IN_CFG.edge, Table FIO-2. -/
def FIO_IN_CFG_edge (i : Nat) : Field := ⟨0xf0100 + 0x10 * (i % 32), 19, 2⟩
/-- FIO_CAP_COUNT.count, Table FIO-2. -/
def FIO_CAP_COUNT_count (i : Nat) : Field := ⟨0xf0104 + 0x10 * (i % 32), 0, 32⟩
/-- FIO_CAP_TIME.ns, Table FIO-2. -/
def FIO_CAP_TIME_ns (i : Nat) : Field := ⟨0xf0108 + 0x10 * (i % 32), 0, 30⟩
/-- FIO_CAP_TIME.new, Table FIO-2. -/
def FIO_CAP_TIME_new (i : Nat) : Field := ⟨0xf0108 + 0x10 * (i % 32), 31, 1⟩
/-- FIO_OUT_CFG.claimed, Table FIO-2. -/
def FIO_OUT_CFG_claimed (o : Nat) : Field := ⟨0xf0300 + 0x10 * (o % 32), 0, 1⟩
/-- FIO_OUT_CFG.mode, Table FIO-2. -/
def FIO_OUT_CFG_mode (o : Nat) : Field := ⟨0xf0300 + 0x10 * (o % 32), 1, 1⟩
/-- FIO_OUT_CFG.partition, Table FIO-2. -/
def FIO_OUT_CFG_partition (o : Nat) : Field := ⟨0xf0300 + 0x10 * (o % 32), 2, 3⟩
/-- FIO_OUT_CFG.retry_ms, Table FIO-2. -/
def FIO_OUT_CFG_retry_ms (o : Nat) : Field := ⟨0xf0300 + 0x10 * (o % 32), 5, 14⟩
/-- FIO_OUT_DIAG.overload, Table FIO-2. -/
def FIO_OUT_DIAG_overload (o : Nat) : Field := ⟨0xf0304 + 0x10 * (o % 32), 0, 1⟩
/-- FIO_OUT_DIAG.open_wire, Table FIO-2. -/
def FIO_OUT_DIAG_open_wire (o : Nat) : Field := ⟨0xf0304 + 0x10 * (o % 32), 1, 1⟩
/-- FIO_OUT_DIAG.over_temp, Table FIO-2. -/
def FIO_OUT_DIAG_over_temp (o : Nat) : Field := ⟨0xf0304 + 0x10 * (o % 32), 2, 1⟩
/-- FIO_OUT_DIAG.isolator, Table FIO-2. -/
def FIO_OUT_DIAG_isolator (o : Nat) : Field := ⟨0xf0304 + 0x10 * (o % 32), 3, 1⟩
/-- FIO_OUT_DIAG.latched, Table FIO-2. -/
def FIO_OUT_DIAG_latched (o : Nat) : Field := ⟨0xf0304 + 0x10 * (o % 32), 4, 1⟩
/-- FIO_OUT_DIAG.current_ma, Table FIO-2. -/
def FIO_OUT_DIAG_current_ma (o : Nat) : Field := ⟨0xf0304 + 0x10 * (o % 32), 16, 16⟩
/-- FIO_OUT_FAULTS.count, Table FIO-2. -/
def FIO_OUT_FAULTS_count (o : Nat) : Field := ⟨0xf0308 + 0x10 * (o % 32), 0, 16⟩
/-- TIME_STATUS.state, Table TIME-5. -/
def TIME_STATUS_state : Field := ⟨0x100000, 0, 2⟩
/-- TIME_STATUS.grandmaster, Table TIME-5. -/
def TIME_STATUS_grandmaster : Field := ⟨0x100000, 2, 1⟩
/-- TIME_STATUS.tc_mode, Table TIME-5. -/
def TIME_STATUS_tc_mode : Field := ⟨0x100000, 3, 2⟩
/-- TIME_STATUS.step_pending, Table TIME-5. -/
def TIME_STATUS_step_pending : Field := ⟨0x100000, 5, 1⟩
/-- TIME_STATUS.valid, Table TIME-5. -/
def TIME_STATUS_valid : Field := ⟨0x100000, 6, 1⟩
/-- TIME_NOW_NS.ns, Table TIME-5. -/
def TIME_NOW_NS_ns : Field := ⟨0x100004, 0, 30⟩
/-- TIME_NOW_SEC_LO.s, Table TIME-5. -/
def TIME_NOW_SEC_LO_s : Field := ⟨0x100008, 0, 32⟩
/-- TIME_NOW_SEC_HI.s, Table TIME-5. -/
def TIME_NOW_SEC_HI_s : Field := ⟨0x10000c, 0, 16⟩
/-- TIME_OFFSET.ns, Table TIME-5. -/
def TIME_OFFSET_ns : Field := ⟨0x100010, 0, 32⟩
/-- TIME_FREQ.ppb, Table TIME-5. -/
def TIME_FREQ_ppb : Field := ⟨0x100014, 0, 32⟩
/-- TIME_JUMP.ns, Table TIME-5. -/
def TIME_JUMP_ns : Field := ⟨0x100018, 0, 30⟩
/-- TIME_SLEW.ppm, Table TIME-5. -/
def TIME_SLEW_ppm : Field := ⟨0x10001c, 0, 7⟩
/-- TIME_CMD.cmd, Table TIME-5. -/
def TIME_CMD_cmd : Field := ⟨0x100020, 0, 4⟩
/-- TIME_CMD.partition, Table TIME-5. -/
def TIME_CMD_partition : Field := ⟨0x100020, 4, 3⟩
/-- TIME_CMD_STATUS.code, Table TIME-5. -/
def TIME_CMD_STATUS_code (i : Nat) : Field := ⟨0x100024 + portBank i, 0, 16⟩
/-- TIME_CMD_STATUS.reason, Table TIME-5. -/
def TIME_CMD_STATUS_reason (i : Nat) : Field := ⟨0x100024 + portBank i, 16, 8⟩
/-- TIME_SET_NS.ns, Table TIME-5. -/
def TIME_SET_NS_ns (i : Nat) : Field := ⟨0x100028 + portBank i, 0, 32⟩
/-- TIME_SET_SEC_LO.s, Table TIME-5. -/
def TIME_SET_SEC_LO_s (i : Nat) : Field := ⟨0x10002c + portBank i, 0, 32⟩
/-- TIME_SET_SEC_HI.s, Table TIME-5. -/
def TIME_SET_SEC_HI_s (i : Nat) : Field := ⟨0x100030 + portBank i, 0, 16⟩
/-- TIME_MS_LO.count, Table TIME-5. -/
def TIME_MS_LO_count : Field := ⟨0x100038, 0, 32⟩
/-- TIME_MS_HI.count, Table TIME-5. -/
def TIME_MS_HI_count : Field := ⟨0x10003c, 0, 32⟩
/-- TIME_START_LO.count, Table TIME-5. -/
def TIME_START_LO_count (i : Nat) : Field := ⟨0x100040 + portBank i, 0, 32⟩
/-- TIME_START_HI.count, Table TIME-5. -/
def TIME_START_HI_count (i : Nat) : Field := ⟨0x100044 + portBank i, 0, 32⟩
/-- TIME_START_PENDING.mask, Table TIME-5. -/
def TIME_START_PENDING_mask : Field := ⟨0x100048, 0, 8⟩
/-- TIME_PTP_CNT.violations, Table TIME-5. -/
def TIME_PTP_CNT_violations (i : Nat) : Field := ⟨0x100050 + 0x4 * (i % 2), 0, 16⟩
/-- TIME_PTP_CNT.jumps, Table TIME-5. -/
def TIME_PTP_CNT_jumps (i : Nat) : Field := ⟨0x100050 + 0x4 * (i % 2), 16, 16⟩
/-- TIME_LQ.depth, Table TIME-5. -/
def TIME_LQ_depth (i : Nat) : Field := ⟨0x100060 + 0x10 * (i % 2), 0, 7⟩
/-- TIME_LQ.send_late, Table TIME-5. -/
def TIME_LQ_send_late (i : Nat) : Field := ⟨0x100060 + 0x10 * (i % 2), 7, 1⟩
/-- TIME_LQ.partition, Table TIME-5. -/
def TIME_LQ_partition (i : Nat) : Field := ⟨0x100060 + 0x10 * (i % 2), 8, 3⟩
/-- TIME_LQ.claimed, Table TIME-5. -/
def TIME_LQ_claimed (i : Nat) : Field := ⟨0x100060 + 0x10 * (i % 2), 11, 1⟩
/-- TIME_LQ.window_us, Table TIME-5. -/
def TIME_LQ_window_us (i : Nat) : Field := ⟨0x100060 + 0x10 * (i % 2), 16, 16⟩
/-- TIME_LQ_SENT.count, Table TIME-5. -/
def TIME_LQ_SENT_count (i : Nat) : Field := ⟨0x100064 + 0x10 * (i % 2), 0, 32⟩
/-- TIME_LQ_LATE.late, Table TIME-5. -/
def TIME_LQ_LATE_late (i : Nat) : Field := ⟨0x100068 + 0x10 * (i % 2), 0, 16⟩
/-- TIME_LQ_LATE.refused, Table TIME-5. -/
def TIME_LQ_LATE_refused (i : Nat) : Field := ⟨0x100068 + 0x10 * (i % 2), 16, 16⟩
/-- PEER_STATUS.position, Table PEER-4. -/
def PEER_STATUS_position : Field := ⟨0x110000, 0, 4⟩
/-- PEER_STATUS.west_up, Table PEER-4. -/
def PEER_STATUS_west_up : Field := ⟨0x110000, 4, 1⟩
/-- PEER_STATUS.east_up, Table PEER-4. -/
def PEER_STATUS_east_up : Field := ⟨0x110000, 5, 1⟩
/-- PEER_SIDE.node, Table PEER-4. -/
def PEER_SIDE_node (s : Nat) : Field := ⟨0x110100 + 0x40 * (s % 2), 0, 18⟩
/-- PEER_SIDE.state, Table PEER-4. -/
def PEER_SIDE_state (s : Nat) : Field := ⟨0x110100 + 0x40 * (s % 2), 18, 4⟩
/-- PEER_SIDE.expected, Table PEER-4. -/
def PEER_SIDE_expected (s : Nat) : Field := ⟨0x110100 + 0x40 * (s % 2), 22, 1⟩
/-- PEER_VERGE.rows, Table PEER-4. -/
def PEER_VERGE_rows (s : Nat) : Field := ⟨0x110104 + 0x40 * (s % 2), 0, 32⟩
/-- PEER_CONTRIB.sent, Table PEER-4. -/
def PEER_CONTRIB_sent (s : Nat) : Field := ⟨0x110108 + 0x40 * (s % 2), 0, 32⟩
/-- PEER_REJECT.received, Table PEER-4. -/
def PEER_REJECT_received (s : Nat) : Field := ⟨0x11010c + 0x40 * (s % 2), 0, 16⟩
/-- PEER_REJECT.sent, Table PEER-4. -/
def PEER_REJECT_sent (s : Nat) : Field := ⟨0x11010c + 0x40 * (s % 2), 16, 16⟩
/-- PEER_RESEND.naks, Table PEER-4. -/
def PEER_RESEND_naks (s : Nat) : Field := ⟨0x110110 + 0x40 * (s % 2), 0, 16⟩
/-- PEER_RESEND.no_credit, Table PEER-4. -/
def PEER_RESEND_no_credit (s : Nat) : Field := ⟨0x110110 + 0x40 * (s % 2), 16, 16⟩
/-- PEER_MISSING.rows, Table PEER-4. -/
def PEER_MISSING_rows (s : Nat) : Field := ⟨0x110114 + 0x40 * (s % 2), 0, 32⟩
/-- HOST_STATUS.port, Table HOST-12. -/
def HOST_STATUS_port (i : Nat) : Field := ⟨0x60000 + portBank i, 0, 2⟩
/-- HOST_STATUS.role, Table HOST-12. -/
def HOST_STATUS_role (i : Nat) : Field := ⟨0x60000 + portBank i, 2, 2⟩
/-- HOST_STATUS.speed, Table HOST-12. -/
def HOST_STATUS_speed (i : Nat) : Field := ⟨0x60000 + portBank i, 4, 3⟩
/-- HOST_STATUS.width, Table HOST-12. -/
def HOST_STATUS_width (i : Nat) : Field := ⟨0x60000 + portBank i, 7, 5⟩
/-- HOST_STATUS.ports_up, Table HOST-12. -/
def HOST_STATUS_ports_up (i : Nat) : Field := ⟨0x60000 + portBank i, 12, 4⟩
/-- HOST_BAR4_WIN.partition, Table HOST-12. -/
def HOST_BAR4_WIN_partition (i : Nat) : Field := ⟨0x60010 + portBank i, 0, 3⟩
/-- HOST_BAR4_WIN.enable, Table HOST-12. -/
def HOST_BAR4_WIN_enable (i : Nat) : Field := ⟨0x60010 + portBank i, 3, 1⟩
/-- HOST_BAR4_WIN.page, Table HOST-12. -/
def HOST_BAR4_WIN_page (i : Nat) : Field := ⟨0x60010 + portBank i, 8, 19⟩
/-- HOST_RES_CFG.enable, Table HOST-12. -/
def HOST_RES_CFG_enable (i p : Nat) : Field := ⟨0x60100 + portBank i + 0x20 * (p % 8), 0, 1⟩
/-- HOST_RES_CFG.mode, Table HOST-12. -/
def HOST_RES_CFG_mode (i p : Nat) : Field := ⟨0x60100 + portBank i + 0x20 * (p % 8), 1, 1⟩
/-- HOST_RES_CFG.size, Table HOST-12. -/
def HOST_RES_CFG_size (i p : Nat) : Field := ⟨0x60100 + portBank i + 0x20 * (p % 8), 2, 4⟩
/-- HOST_RES_CFG.coalesce, Table HOST-12. -/
def HOST_RES_CFG_coalesce (i p : Nat) : Field := ⟨0x60100 + portBank i + 0x20 * (p % 8), 8, 8⟩
/-- HOST_RES_CFG.timer_us, Table HOST-12. -/
def HOST_RES_CFG_timer_us (i p : Nat) : Field := ⟨0x60100 + portBank i + 0x20 * (p % 8), 16, 16⟩
/-- HOST_RES_ACK.seq, Table HOST-12. -/
def HOST_RES_ACK_seq (i p : Nat) : Field := ⟨0x60104 + portBank i + 0x20 * (p % 8), 0, 32⟩
/-- HOST_RES_SEQ.next, Table HOST-12. -/
def HOST_RES_SEQ_next (i p : Nat) : Field := ⟨0x60108 + portBank i + 0x20 * (p % 8), 0, 32⟩
/-- HOST_RES_DROP.count, Table HOST-12. -/
def HOST_RES_DROP_count (i p : Nat) : Field := ⟨0x6010c + portBank i + 0x20 * (p % 8), 0, 32⟩
/-- HOST_PUSH_LO.addr, Table HOST-12. -/
def HOST_PUSH_LO_addr (i p : Nat) : Field := ⟨0x60110 + portBank i + 0x20 * (p % 8), 0, 32⟩
/-- HOST_PUSH_HI.addr, Table HOST-12. -/
def HOST_PUSH_HI_addr (i p : Nat) : Field := ⟨0x60114 + portBank i + 0x20 * (p % 8), 0, 32⟩
/-- HOST_PUSH_HEAD.seq, Table HOST-12. -/
def HOST_PUSH_HEAD_seq (i p : Nat) : Field := ⟨0x60118 + portBank i + 0x20 * (p % 8), 0, 32⟩
/-- HOST_RES_STATE.ack_reason, Table HOST-12. -/
def HOST_RES_STATE_ack_reason (i p : Nat) : Field := ⟨0x6011c + portBank i + 0x20 * (p % 8), 0, 2⟩
/-- HOST_RES_STATE.push_stopped, Table HOST-12. -/
def HOST_RES_STATE_push_stopped (i p : Nat) : Field := ⟨0x6011c + portBank i + 0x20 * (p % 8), 2, 1⟩
/-- HOST_RES_STATE.pending, Table HOST-12. -/
def HOST_RES_STATE_pending (i p : Nat) : Field := ⟨0x6011c + portBank i + 0x20 * (p % 8), 16, 16⟩
/-- HOST_SQ_LO.addr, Table HOST-12. -/
def HOST_SQ_LO_addr (i r : Nat) : Field := ⟨0x60400 + portBank i + 0x20 * (r % 4), 0, 32⟩
/-- HOST_SQ_HI.addr, Table HOST-12. -/
def HOST_SQ_HI_addr (i r : Nat) : Field := ⟨0x60404 + portBank i + 0x20 * (r % 4), 0, 32⟩
/-- HOST_CQ_LO.addr, Table HOST-12. -/
def HOST_CQ_LO_addr (i r : Nat) : Field := ⟨0x60408 + portBank i + 0x20 * (r % 4), 0, 32⟩
/-- HOST_CQ_HI.addr, Table HOST-12. -/
def HOST_CQ_HI_addr (i r : Nat) : Field := ⟨0x6040c + portBank i + 0x20 * (r % 4), 0, 32⟩
/-- HOST_SQ_CFG.size, Table HOST-12. -/
def HOST_SQ_CFG_size (i r : Nat) : Field := ⟨0x60410 + portBank i + 0x20 * (r % 4), 0, 4⟩
/-- HOST_SQ_CFG.partition, Table HOST-12. -/
def HOST_SQ_CFG_partition (i r : Nat) : Field := ⟨0x60410 + portBank i + 0x20 * (r % 4), 4, 3⟩
/-- HOST_SQ_CFG.run, Table HOST-12. -/
def HOST_SQ_CFG_run (i r : Nat) : Field := ⟨0x60410 + portBank i + 0x20 * (r % 4), 8, 1⟩
/-- HOST_SQ_TAIL.pos, Table HOST-12. -/
def HOST_SQ_TAIL_pos (i r : Nat) : Field := ⟨0x60414 + portBank i + 0x20 * (r % 4), 0, 32⟩
/-- HOST_SQ_HEAD.pos, Table HOST-12. -/
def HOST_SQ_HEAD_pos (i r : Nat) : Field := ⟨0x60418 + portBank i + 0x20 * (r % 4), 0, 32⟩
/-- HOST_SQ_STATE.error, Table HOST-12. -/
def HOST_SQ_STATE_error (i r : Nat) : Field := ⟨0x6041c + portBank i + 0x20 * (r % 4), 0, 16⟩
/-- HOST_SQ_STATE.stopped, Table HOST-12. -/
def HOST_SQ_STATE_stopped (i r : Nat) : Field := ⟨0x6041c + portBank i + 0x20 * (r % 4), 16, 1⟩
/-- HOST_MBOX_POST.number, Table HOST-12. -/
def HOST_MBOX_POST_number (i p : Nat) : Field := ⟨0x60600 + portBank i + 0x4 * (p % 8), 0, 32⟩
/-- HOST_MBOX_DONE.number, Table HOST-12. -/
def HOST_MBOX_DONE_number (i p : Nat) : Field := ⟨0x60620 + portBank i + 0x4 * (p % 8), 0, 32⟩
/-- SAFE_STATUS.state, Table SAFE-12. -/
def SAFE_STATUS_state : Field := ⟨0x120000, 0, 2⟩
/-- SAFE_STATUS.lock, Table SAFE-12. -/
def SAFE_STATUS_lock : Field := ⟨0x120000, 2, 1⟩
/-- SAFE_STATUS.cause_active, Table SAFE-12. -/
def SAFE_STATUS_cause_active : Field := ⟨0x120000, 3, 1⟩
/-- SAFE_STATUS.overdue, Table SAFE-12. -/
def SAFE_STATUS_overdue : Field := ⟨0x120000, 4, 1⟩
/-- SAFE_STATUS.msg_link, Table SAFE-12. -/
def SAFE_STATUS_msg_link : Field := ⟨0x120000, 5, 1⟩
/-- SAFE_CAUSE.code, Table SAFE-12. -/
def SAFE_CAUSE_code : Field := ⟨0x120004, 0, 16⟩
/-- SAFE_CAUSE.entries, Table SAFE-12. -/
def SAFE_CAUSE_entries : Field := ⟨0x120004, 16, 16⟩
/-- SAFE_CMD.cmd, Table SAFE-12. -/
def SAFE_CMD_cmd : Field := ⟨0x120008, 0, 4⟩
/-- SAFE_CMD_STATUS.code, Table SAFE-12. -/
def SAFE_CMD_STATUS_code (i : Nat) : Field := ⟨0x12000c + portBank i, 0, 16⟩
/-- SAFE_CMD_STATUS.reason, Table SAFE-12. -/
def SAFE_CMD_STATUS_reason (i : Nat) : Field := ⟨0x12000c + portBank i, 16, 8⟩
/-- SAFE_IO.outputs, Table SAFE-12. -/
def SAFE_IO_outputs : Field := ⟨0x120010, 0, 4⟩
/-- SAFE_IO.inputs, Table SAFE-12. -/
def SAFE_IO_inputs : Field := ⟨0x120010, 4, 4⟩
/-- SAFE_IO.demand, Table SAFE-12. -/
def SAFE_IO_demand : Field := ⟨0x120010, 8, 2⟩
/-- SAFE_IO.input_fault, Table SAFE-12. -/
def SAFE_IO_input_fault : Field := ⟨0x120010, 10, 2⟩
/-- SAFE_IO.held, Table SAFE-12. -/
def SAFE_IO_held : Field := ⟨0x120010, 12, 2⟩
/-- SAFE_MSG.counter, Table SAFE-12. -/
def SAFE_MSG_counter : Field := ⟨0x120014, 0, 32⟩
/-- SAFE_DTI.ms, Table SAFE-12. -/
def SAFE_DTI_ms : Field := ⟨0x120018, 0, 10⟩
/-- SAFE_JUDGE_PASS.count, Table SAFE-12. -/
def SAFE_JUDGE_PASS_count (s : Nat) : Field := ⟨0x120100 + 0x10 * (s % 8), 0, 32⟩
/-- SAFE_JUDGE_FAIL.count, Table SAFE-12. -/
def SAFE_JUDGE_FAIL_count (s : Nat) : Field := ⟨0x120104 + 0x10 * (s % 8), 0, 16⟩
/-- SAFE_JUDGE_FAIL.check, Table SAFE-12. -/
def SAFE_JUDGE_FAIL_check (s : Nat) : Field := ⟨0x120104 + 0x10 * (s % 8), 16, 4⟩
/-- SAFE_JUDGE_SEQ.counter, Table SAFE-12. -/
def SAFE_JUDGE_SEQ_counter (s : Nat) : Field := ⟨0x120108 + 0x10 * (s % 8), 0, 32⟩
/-- SAFE_WDOG.misses, Table SAFE-12. -/
def SAFE_WDOG_misses (w : Nat) : Field := ⟨0x120200 + 0x4 * (w % 64), 0, 16⟩
/-- SAFE_WDOG.armed, Table SAFE-12. -/
def SAFE_WDOG_armed (w : Nat) : Field := ⟨0x120200 + 0x4 * (w % 64), 16, 1⟩
/-- SAFE_WDOG.early, Table SAFE-12. -/
def SAFE_WDOG_early (w : Nat) : Field := ⟨0x120200 + 0x4 * (w % 64), 17, 1⟩
/-- SAFE_CTX.phase, Table SAFE-12. -/
def SAFE_CTX_phase (c : Nat) : Field := ⟨0x120300 + 0x4 * (c % 64), 0, 2⟩
/-- SAFE_CTX.golden_fail, Table SAFE-12. -/
def SAFE_CTX_golden_fail (c : Nat) : Field := ⟨0x120300 + 0x4 * (c % 64), 2, 1⟩
/-- SAFE_CTX.mismatches, Table SAFE-12. -/
def SAFE_CTX_mismatches (c : Nat) : Field := ⟨0x120300 + 0x4 * (c % 64), 8, 8⟩
/-- SAFE_CTX.golden_passed, Table SAFE-12. -/
def SAFE_CTX_golden_passed (c : Nat) : Field := ⟨0x120300 + 0x4 * (c % 64), 16, 16⟩
/-- SAFE_TEST.completions, Table SAFE-12. -/
def SAFE_TEST_completions (t : Nat) : Field := ⟨0x120400 + 0x4 * (t % 9), 0, 16⟩
/-- SAFE_TEST.overdue, Table SAFE-12. -/
def SAFE_TEST_overdue (t : Nat) : Field := ⟨0x120400 + 0x4 * (t % 9), 16, 1⟩
/-- SAFE_TEST.failed, Table SAFE-12. -/
def SAFE_TEST_failed (t : Nat) : Field := ⟨0x120400 + 0x4 * (t % 9), 17, 1⟩
/-- SAFE_TEST.age_ms, Table SAFE-12. -/
def SAFE_TEST_age_ms (t : Nat) : Field := ⟨0x120400 + 0x4 * (t % 9), 20, 12⟩
/-- INTEG_STATUS.trace_level, Table INTEG-13. -/
def INTEG_STATUS_trace_level : Field := ⟨0x130000, 0, 2⟩
/-- INTEG_STATUS.trace_port, Table INTEG-13. -/
def INTEG_STATUS_trace_port : Field := ⟨0x130000, 2, 2⟩
/-- INTEG_STATUS.poison_full, Table INTEG-13. -/
def INTEG_STATUS_poison_full : Field := ⟨0x130000, 4, 1⟩
/-- INTEG_CMD.cmd, Table INTEG-13. -/
def INTEG_CMD_cmd : Field := ⟨0x130004, 0, 4⟩
/-- INTEG_CMD.level, Table INTEG-13. -/
def INTEG_CMD_level : Field := ⟨0x130004, 4, 2⟩
/-- INTEG_CMD.partitions, Table INTEG-13. -/
def INTEG_CMD_partitions : Field := ⟨0x130004, 8, 8⟩
/-- INTEG_CMD_STATUS.code, Table INTEG-13. -/
def INTEG_CMD_STATUS_code (i : Nat) : Field := ⟨0x130008 + portBank i, 0, 16⟩
/-- INTEG_CMD_STATUS.reason, Table INTEG-13. -/
def INTEG_CMD_STATUS_reason (i : Nat) : Field := ⟨0x130008 + portBank i, 16, 8⟩
/-- INTEG_TRACE_LO.addr, Table INTEG-13. -/
def INTEG_TRACE_LO_addr (i : Nat) : Field := ⟨0x130010 + portBank i, 0, 32⟩
/-- INTEG_TRACE_HI.addr, Table INTEG-13. -/
def INTEG_TRACE_HI_addr (i : Nat) : Field := ⟨0x130014 + portBank i, 0, 32⟩
/-- INTEG_TRACE_SIZE.log2, Table INTEG-13. -/
def INTEG_TRACE_SIZE_log2 (i : Nat) : Field := ⟨0x130018 + portBank i, 0, 5⟩
/-- INTEG_TRACE_HEAD.pos, Table INTEG-13. -/
def INTEG_TRACE_HEAD_pos (i : Nat) : Field := ⟨0x13001c + portBank i, 0, 32⟩
/-- INTEG_TRACE_TAIL.pos, Table INTEG-13. -/
def INTEG_TRACE_TAIL_pos (i : Nat) : Field := ⟨0x130020 + portBank i, 0, 32⟩
/-- INTEG_TRACE_DROP.count, Table INTEG-13. -/
def INTEG_TRACE_DROP_count (i : Nat) : Field := ⟨0x130024 + portBank i, 0, 32⟩
/-- INTEG_SCRUB_LIMIT.s, Table INTEG-13. -/
def INTEG_SCRUB_LIMIT_s : Field := ⟨0x130028, 0, 24⟩
/-- INTEG_SCRUB_LAP.ms, Table INTEG-13. -/
def INTEG_SCRUB_LAP_ms (k : Nat) : Field := ⟨0x130040 + 0x8 * (k % 4), 0, 32⟩
/-- INTEG_SCRUB_LAPS.count, Table INTEG-13. -/
def INTEG_SCRUB_LAPS_count (k : Nat) : Field := ⟨0x130044 + 0x8 * (k % 4), 0, 32⟩
/-- INTEG_ERR_CORR.count, Table INTEG-13. -/
def INTEG_ERR_CORR_count (k : Nat) : Field := ⟨0x130080 + 0x10 * (k % 4), 0, 32⟩
/-- INTEG_ERR_UNCORR.count, Table INTEG-13. -/
def INTEG_ERR_UNCORR_count (k : Nat) : Field := ⟨0x130084 + 0x10 * (k % 4), 0, 32⟩
/-- INTEG_ERR_RETRY.refetches, Table INTEG-13. -/
def INTEG_ERR_RETRY_refetches (k : Nat) : Field := ⟨0x130088 + 0x10 * (k % 4), 0, 16⟩
/-- INTEG_ERR_RETRY.replays, Table INTEG-13. -/
def INTEG_ERR_RETRY_replays (k : Nat) : Field := ⟨0x130088 + 0x10 * (k % 4), 16, 16⟩
/-- INTEG_HBM.poisoned, Table INTEG-13. -/
def INTEG_HBM_poisoned : Field := ⟨0x1300c0, 0, 13⟩
/-- INTEG_HBM.retired, Table INTEG-13. -/
def INTEG_HBM_retired : Field := ⟨0x1300c0, 16, 11⟩
/-- INTEG_CAP_LOC.kind, Table INTEG-13. -/
def INTEG_CAP_LOC_kind : Field := ⟨0x130100, 0, 2⟩
/-- INTEG_CAP_LOC.unit, Table INTEG-13. -/
def INTEG_CAP_LOC_unit : Field := ⟨0x130100, 2, 6⟩
/-- INTEG_CAP_LOC.bank, Table INTEG-13. -/
def INTEG_CAP_LOC_bank : Field := ⟨0x130100, 8, 5⟩
/-- INTEG_CAP_LOC.valid, Table INTEG-13. -/
def INTEG_CAP_LOC_valid : Field := ⟨0x130100, 13, 1⟩
/-- INTEG_CAP_ADDR.line, Table INTEG-13. -/
def INTEG_CAP_ADDR_line : Field := ⟨0x130104, 0, 32⟩
/-- INTEG_CAP_CRC.value, Table INTEG-13. -/
def INTEG_CAP_CRC_value : Field := ⟨0x130108, 0, 32⟩
/-- INTEG_CAP_DATA.word, Table INTEG-13. -/
def INTEG_CAP_DATA_word (i : Nat) : Field := ⟨0x130110 + 0x4 * (i % 16), 0, 32⟩
/-- INTEG_CAP_CHECK.word, Table INTEG-13. -/
def INTEG_CAP_CHECK_word (i : Nat) : Field := ⟨0x130150 + 0x4 * (i % 8), 0, 32⟩
/-- INTEG_RECOMP.fraction, Table INTEG-13. -/
def INTEG_RECOMP_fraction (p : Nat) : Field := ⟨0x130200 + 0x10 * (p % 8), 0, 2⟩
/-- INTEG_RECOMP.range_check, Table INTEG-13. -/
def INTEG_RECOMP_range_check (p : Nat) : Field := ⟨0x130200 + 0x10 * (p % 8), 2, 1⟩
/-- INTEG_RECOMP_LEGS.count, Table INTEG-13. -/
def INTEG_RECOMP_LEGS_count (p : Nat) : Field := ⟨0x130204 + 0x10 * (p % 8), 0, 32⟩
/-- INTEG_RECOMP_FAULT.mismatches, Table INTEG-13. -/
def INTEG_RECOMP_FAULT_mismatches (p : Nat) : Field := ⟨0x130208 + 0x10 * (p % 8), 0, 16⟩
/-- INTEG_RECOMP_FAULT.unresolved, Table INTEG-13. -/
def INTEG_RECOMP_FAULT_unresolved (p : Nat) : Field := ⟨0x130208 + 0x10 * (p % 8), 16, 16⟩
/-- INTEG_SEAM.blocks, Table INTEG-13. -/
def INTEG_SEAM_blocks (s : Nat) : Field := ⟨0x130300 + 0x10 * (s % 4), 0, 32⟩
/-- INTEG_SEAM_FAULT.mismatches, Table INTEG-13. -/
def INTEG_SEAM_FAULT_mismatches (s : Nat) : Field := ⟨0x130304 + 0x10 * (s % 4), 0, 16⟩
/-- INTEG_SEAM_FAULT.missing, Table INTEG-13. -/
def INTEG_SEAM_FAULT_missing (s : Nat) : Field := ⟨0x130304 + 0x10 * (s % 4), 16, 16⟩
/-- INTEG_TRIP_STATUS.repaired, Table INTEG-13. -/
def INTEG_TRIP_STATUS_repaired : Field := ⟨0x130400, 0, 16⟩
/-- INTEG_TRIP_STATUS.disagree, Table INTEG-13. -/
def INTEG_TRIP_STATUS_disagree : Field := ⟨0x130400, 16, 16⟩
/-- INTEG_TRIP.value, Table INTEG-13. -/
def INTEG_TRIP_value (i : Nat) : Field := ⟨0x131000 + 0x4 * (i % 256), 0, 32⟩
/-- INTEG_TRIP_COPY.word, Table INTEG-13. -/
def INTEG_TRIP_COPY_word (k i : Nat) : Field := ⟨0x131400 + 0x400 * (k % 3) + 0x4 * (i % 256), 0, 32⟩
/-- WAYM_STATUS.frozen, Table WAYM-4. -/
def WAYM_STATUS_frozen : Field := ⟨0x140000, 0, 1⟩
/-- WAYM_STATUS.freeze_port, Table WAYM-4. -/
def WAYM_STATUS_freeze_port : Field := ⟨0x140000, 1, 2⟩
/-- WAYM_STATUS.scan_done, Table WAYM-4. -/
def WAYM_STATUS_scan_done : Field := ⟨0x140000, 3, 1⟩
/-- WAYM_STATUS.budget_empty, Table WAYM-4. -/
def WAYM_STATUS_budget_empty : Field := ⟨0x140000, 4, 1⟩
/-- WAYM_STATUS.buffered, Table WAYM-4. -/
def WAYM_STATUS_buffered : Field := ⟨0x140000, 5, 11⟩
/-- WAYM_HEAD_SEQ.seq, Table WAYM-4. -/
def WAYM_HEAD_SEQ_seq : Field := ⟨0x140004, 0, 32⟩
/-- WAYM_OLDEST_SEQ.seq, Table WAYM-4. -/
def WAYM_OLDEST_SEQ_seq : Field := ⟨0x140008, 0, 32⟩
/-- WAYM_CMD.cmd, Table WAYM-4. -/
def WAYM_CMD_cmd : Field := ⟨0x14000c, 0, 4⟩
/-- WAYM_CMD_STATUS.code, Table WAYM-4. -/
def WAYM_CMD_STATUS_code (i : Nat) : Field := ⟨0x140010 + portBank i, 0, 16⟩
/-- WAYM_CMD_STATUS.reason, Table WAYM-4. -/
def WAYM_CMD_STATUS_reason (i : Nat) : Field := ⟨0x140010 + portBank i, 16, 8⟩
/-- WAYM_READ_SEQ.seq, Table WAYM-4. -/
def WAYM_READ_SEQ_seq (i : Nat) : Field := ⟨0x140014 + portBank i, 0, 32⟩
/-- WAYM_READ_STATE.state, Table WAYM-4. -/
def WAYM_READ_STATE_state (i : Nat) : Field := ⟨0x140018 + portBank i, 0, 2⟩
/-- WAYM_READ_DATA.word, Table WAYM-4. -/
def WAYM_READ_DATA_word (i0 i : Nat) : Field := ⟨0x140020 + portBank i0 + 0x4 * (i % 8), 0, 32⟩
/-- WAYM_DROPPED.count, Table WAYM-4. -/
def WAYM_DROPPED_count : Field := ⟨0x140040, 0, 32⟩
/-- WAYM_SUPPRESSED.count, Table WAYM-4. -/
def WAYM_SUPPRESSED_count : Field := ⟨0x140044, 0, 32⟩
/-- WAYM_BUDGET.tokens, Table WAYM-4. -/
def WAYM_BUDGET_tokens : Field := ⟨0x140048, 0, 17⟩
/-- WAYM_IRQ.min_severity, Table WAYM-4. -/
def WAYM_IRQ_min_severity (i : Nat) : Field := ⟨0x14004c + portBank i, 0, 2⟩
/-- WAYM_IRQ.enable, Table WAYM-4. -/
def WAYM_IRQ_enable (i : Nat) : Field := ⟨0x14004c + portBank i, 2, 1⟩
/-- WAYM_FROZEN_AT.seq, Table WAYM-4. -/
def WAYM_FROZEN_AT_seq : Field := ⟨0x140050, 0, 32⟩
/-- WAYM_WEAR.erases, Table WAYM-4. -/
def WAYM_WEAR_erases : Field := ⟨0x140054, 0, 17⟩
/-- PERF_STATUS.snapshot_valid, Table PERF-2. -/
def PERF_STATUS_snapshot_valid : Field := ⟨0x150000, 0, 1⟩
/-- PERF_STATUS.pending, Table PERF-2. -/
def PERF_STATUS_pending : Field := ⟨0x150000, 1, 1⟩
/-- PERF_STATUS.snapshot_pending, Table PERF-2. -/
def PERF_STATUS_snapshot_pending : Field := ⟨0x150000, 2, 1⟩
/-- PERF_STATUS.tagging, Table PERF-2. -/
def PERF_STATUS_tagging : Field := ⟨0x150000, 3, 1⟩
/-- PERF_CMD.cmd, Table PERF-2. -/
def PERF_CMD_cmd : Field := ⟨0x150004, 0, 4⟩
/-- PERF_CMD_STATUS.code, Table PERF-2. -/
def PERF_CMD_STATUS_code (i : Nat) : Field := ⟨0x150008 + portBank i, 0, 16⟩
/-- PERF_SNAP_PERIOD.number, Table PERF-2. -/
def PERF_SNAP_PERIOD_number : Field := ⟨0x15000c, 0, 32⟩
/-- PERF_TAG_CFG.log2, Table PERF-2. -/
def PERF_TAG_CFG_log2 : Field := ⟨0x150010, 0, 5⟩
/-- PERF_TAG_CFG.partitions, Table PERF-2. -/
def PERF_TAG_CFG_partitions : Field := ⟨0x150010, 8, 8⟩
/-- PERF_TICK_LO.ticks, Table PERF-3. -/
def PERF_TICK_LO_ticks (c : Nat) : Field := ⟨0x151000 + 0x100 * (c % 40), 0, 32⟩
/-- PERF_TICK_HI.ticks, Table PERF-3. -/
def PERF_TICK_HI_ticks (c : Nat) : Field := ⟨0x151004 + 0x100 * (c % 40), 0, 32⟩
/-- PERF_COUNT_LO.count, Table PERF-3. -/
def PERF_COUNT_LO_count (c k : Nat) : Field := ⟨0x151008 + 0x100 * (c % 40) + 0x8 * (k % 8), 0, 32⟩
/-- PERF_COUNT_HI.count, Table PERF-3. -/
def PERF_COUNT_HI_count (c k : Nat) : Field := ⟨0x15100c + 0x100 * (c % 40) + 0x8 * (k % 8), 0, 16⟩
/-- PERF_EVENT.event, Table PERF-3. -/
def PERF_EVENT_event (c k : Nat) : Field := ⟨0x151048 + 0x100 * (c % 40) + 0x4 * (k % 8), 0, 8⟩
/-- PERF_EVENT.partitions, Table PERF-3. -/
def PERF_EVENT_partitions (c k : Nat) : Field := ⟨0x151048 + 0x100 * (c % 40) + 0x4 * (k % 8), 8, 8⟩
/-- PERF_SNAP_TICK_LO.ticks, Table PERF-3. -/
def PERF_SNAP_TICK_LO_ticks (c : Nat) : Field := ⟨0x151080 + 0x100 * (c % 40), 0, 32⟩
/-- PERF_SNAP_TICK_HI.ticks, Table PERF-3. -/
def PERF_SNAP_TICK_HI_ticks (c : Nat) : Field := ⟨0x151084 + 0x100 * (c % 40), 0, 32⟩
/-- PERF_SNAP_LO.count, Table PERF-3. -/
def PERF_SNAP_LO_count (c k : Nat) : Field := ⟨0x151088 + 0x100 * (c % 40) + 0x8 * (k % 8), 0, 32⟩
/-- PERF_SNAP_HI.count, Table PERF-3. -/
def PERF_SNAP_HI_count (c k : Nat) : Field := ⟨0x15108c + 0x100 * (c % 40) + 0x8 * (k % 8), 0, 16⟩
/-- PERF_TAG_COUNT.taken, Table PERF-3. -/
def PERF_TAG_COUNT_taken (c : Nat) : Field := ⟨0x1510c8 + 0x100 * (c % 40), 0, 16⟩
/-- PERF_TAG_COUNT.overwritten, Table PERF-3. -/
def PERF_TAG_COUNT_overwritten (c : Nat) : Field := ⟨0x1510c8 + 0x100 * (c % 40), 16, 16⟩
/-- PERF_BW_CFG.window_ms, Table PERF-3. -/
def PERF_BW_CFG_window_ms (i : Nat) : Field := ⟨0x158000 + 0x20 * (i % 4), 0, 10⟩
/-- PERF_BW_IN.units, Table PERF-3. -/
def PERF_BW_IN_units (i : Nat) : Field := ⟨0x158004 + 0x20 * (i % 4), 0, 32⟩
/-- PERF_BW_OUT.units, Table PERF-3. -/
def PERF_BW_OUT_units (i : Nat) : Field := ⟨0x158008 + 0x20 * (i % 4), 0, 32⟩
/-- PERF_BW_PEAK_IN.units, Table PERF-3. -/
def PERF_BW_PEAK_IN_units (i : Nat) : Field := ⟨0x15800c + 0x20 * (i % 4), 0, 32⟩
/-- PERF_BW_PEAK_OUT.units, Table PERF-3. -/
def PERF_BW_PEAK_OUT_units (i : Nat) : Field := ⟨0x158010 + 0x20 * (i % 4), 0, 32⟩
/-- PERF_TAG_A.offset, Table PERF-4. -/
def PERF_TAG_A_offset (c e : Nat) : Field := ⟨0x154000 + 0x100 * (c % 40) + 0x10 * (e % 16), 0, 15⟩
/-- PERF_TAG_A.class, Table PERF-4. -/
def PERF_TAG_A_class (c e : Nat) : Field := ⟨0x154000 + 0x100 * (c % 40) + 0x10 * (e % 16), 16, 4⟩
/-- PERF_TAG_A.op, Table PERF-4. -/
def PERF_TAG_A_op (c e : Nat) : Field := ⟨0x154000 + 0x100 * (c % 40) + 0x10 * (e % 16), 20, 8⟩
/-- PERF_TAG_A.partition, Table PERF-4. -/
def PERF_TAG_A_partition (c e : Nat) : Field := ⟨0x154000 + 0x100 * (c % 40) + 0x10 * (e % 16), 28, 3⟩
/-- PERF_TAG_A.valid, Table PERF-4. -/
def PERF_TAG_A_valid (c e : Nat) : Field := ⟨0x154000 + 0x100 * (c % 40) + 0x10 * (e % 16), 31, 1⟩
/-- PERF_TAG_B.issue, Table PERF-4. -/
def PERF_TAG_B_issue (c e : Nat) : Field := ⟨0x154004 + 0x100 * (c % 40) + 0x10 * (e % 16), 0, 24⟩
/-- PERF_TAG_B.leg, Table PERF-4. -/
def PERF_TAG_B_leg (c e : Nat) : Field := ⟨0x154004 + 0x100 * (c % 40) + 0x10 * (e % 16), 24, 8⟩
/-- PERF_TAG_C.complete, Table PERF-4. -/
def PERF_TAG_C_complete (c e : Nat) : Field := ⟨0x154008 + 0x100 * (c % 40) + 0x10 * (e % 16), 0, 24⟩
/-- PERF_TAG_C.reason, Table PERF-4. -/
def PERF_TAG_C_reason (c e : Nat) : Field := ⟨0x154008 + 0x100 * (c % 40) + 0x10 * (e % 16), 24, 4⟩
/-- PERF_TAG_D.waited, Table PERF-4. -/
def PERF_TAG_D_waited (c e : Nat) : Field := ⟨0x15400c + 0x100 * (c % 40) + 0x10 * (e % 16), 0, 24⟩
/-- PERF_TAG_D.period, Table PERF-4. -/
def PERF_TAG_D_period (c e : Nat) : Field := ⟨0x15400c + 0x100 * (c % 40) + 0x10 * (e % 16), 24, 8⟩
/-- CAP_ID.package, Table MAP-4. -/
def CAP_ID_package : Field := ⟨0x0, 0, 16⟩
/-- CAP_ID.variant, Table MAP-4. -/
def CAP_ID_variant : Field := ⟨0x0, 16, 8⟩
/-- CAP_ID.stepping, Table MAP-4. -/
def CAP_ID_stepping : Field := ⟨0x0, 24, 8⟩
/-- CAP_VERSION.format, Table MAP-4. -/
def CAP_VERSION_format : Field := ⟨0x4, 0, 8⟩
/-- CAP_VERSION.func_table, Table MAP-4. -/
def CAP_VERSION_func_table : Field := ⟨0x4, 16, 16⟩
/-- CAP_PRESENT.compute_die1, Table MAP-4. -/
def CAP_PRESENT_compute_die1 : Field := ⟨0x8, 0, 1⟩
/-- CAP_PRESENT.position, Table MAP-4. -/
def CAP_PRESENT_position : Field := ⟨0x8, 1, 1⟩
/-- CAP_PRESENT.pulse, Table MAP-4. -/
def CAP_PRESENT_pulse : Field := ⟨0x8, 2, 1⟩
/-- CAP_PRESENT.milepost, Table MAP-4. -/
def CAP_PRESENT_milepost : Field := ⟨0x8, 3, 1⟩
/-- CAP_PRESENT.field_io, Table MAP-4. -/
def CAP_PRESENT_field_io : Field := ⟨0x8, 4, 1⟩
/-- CAP_PRESENT.safety_io, Table MAP-4. -/
def CAP_PRESENT_safety_io : Field := ⟨0x8, 5, 1⟩
/-- CAP_PRESENT.safety_functions, Table MAP-4. -/
def CAP_PRESENT_safety_functions : Field := ⟨0x8, 6, 1⟩
/-- CAP_PRESENT.clusters, Table MAP-4. -/
def CAP_PRESENT_clusters : Field := ⟨0x8, 8, 8⟩
/-- CAP_COUNTS0.physical_cores, Table MAP-4. -/
def CAP_COUNTS0_physical_cores : Field := ⟨0xc, 0, 6⟩
/-- CAP_COUNTS0.logical_cores, Table MAP-4. -/
def CAP_COUNTS0_logical_cores : Field := ⟨0xc, 6, 6⟩
/-- CAP_COUNTS0.clusters, Table MAP-4. -/
def CAP_COUNTS0_clusters : Field := ⟨0xc, 12, 4⟩
/-- CAP_COUNTS0.compute_dies, Table MAP-4. -/
def CAP_COUNTS0_compute_dies : Field := ⟨0xc, 16, 2⟩
/-- CAP_COUNTS0.contexts, Table MAP-4. -/
def CAP_COUNTS0_contexts : Field := ⟨0xc, 18, 7⟩
/-- CAP_COUNTS0.lanes, Table MAP-4. -/
def CAP_COUNTS0_lanes : Field := ⟨0xc, 25, 7⟩
/-- CAP_COUNTS1.channels, Table MAP-4. -/
def CAP_COUNTS1_channels : Field := ⟨0x10, 0, 5⟩
/-- CAP_COUNTS1.partitions, Table MAP-4. -/
def CAP_COUNTS1_partitions : Field := ⟨0x10, 5, 4⟩
/-- CAP_COUNTS1.jobs, Table MAP-4. -/
def CAP_COUNTS1_jobs : Field := ⟨0x10, 9, 9⟩
/-- CAP_COUNTS1.ports, Table MAP-4. -/
def CAP_COUNTS1_ports : Field := ⟨0x10, 18, 4⟩
/-- CAP_COUNTS1.split, Table MAP-4. -/
def CAP_COUNTS1_split : Field := ⟨0x10, 22, 2⟩
/-- CAP_COUNTS1.position_channels, Table MAP-4. -/
def CAP_COUNTS1_position_channels : Field := ⟨0x10, 24, 4⟩
/-- CAP_COUNTS1.time_ports, Table MAP-4. -/
def CAP_COUNTS1_time_ports : Field := ⟨0x10, 28, 4⟩
/-- CAP_COUNTS2.inputs, Table MAP-4. -/
def CAP_COUNTS2_inputs : Field := ⟨0x14, 0, 6⟩
/-- CAP_COUNTS2.outputs, Table MAP-4. -/
def CAP_COUNTS2_outputs : Field := ⟨0x14, 6, 6⟩
/-- CAP_COUNTS2.safe_inputs, Table MAP-4. -/
def CAP_COUNTS2_safe_inputs : Field := ⟨0x14, 12, 2⟩
/-- CAP_COUNTS2.safe_outputs, Table MAP-4. -/
def CAP_COUNTS2_safe_outputs : Field := ⟨0x14, 14, 2⟩
/-- CAP_COUNTS2.mileposts, Table MAP-4. -/
def CAP_COUNTS2_mileposts : Field := ⟨0x14, 16, 13⟩
/-- CAP_HBM.usable, Table MAP-4. -/
def CAP_HBM_usable : Field := ⟨0x18, 0, 19⟩
/-- CAP_HBM_AVAIL.pages, Table MAP-4. -/
def CAP_HBM_AVAIL_pages : Field := ⟨0x1c, 0, 19⟩
/-- CAP_HBM_AVAIL.retired, Table MAP-4. -/
def CAP_HBM_AVAIL_retired : Field := ⟨0x1c, 19, 11⟩
/-- CAP_KV.sequences, Table MAP-4. -/
def CAP_KV_sequences : Field := ⟨0x20, 0, 13⟩
/-- CAP_KV.max_len, Table MAP-4. -/
def CAP_KV_max_len : Field := ⟨0x20, 13, 16⟩
/-- CAP_KV_POOL.pages, Table MAP-4. -/
def CAP_KV_POOL_pages : Field := ⟨0x24, 0, 19⟩
/-- CAP_ENGINES.spare_left, Table MAP-4. -/
def CAP_ENGINES_spare_left : Field := ⟨0x28, 0, 8⟩
/-- CAP_ENGINES.edge_ok, Table MAP-4. -/
def CAP_ENGINES_edge_ok : Field := ⟨0x28, 8, 8⟩
/-- CAP_ENGINES.walker_ok, Table MAP-4. -/
def CAP_ENGINES_walker_ok : Field := ⟨0x28, 16, 8⟩
/-- CAP_ENGINES.post_ok, Table MAP-4. -/
def CAP_ENGINES_post_ok : Field := ⟨0x28, 24, 2⟩
/-- CAP_APERTURE.kind, Table MAP-4. -/
def CAP_APERTURE_kind : Field := ⟨0x40, 0, 2⟩
/-- CAP_APERTURE.unit, Table MAP-4. -/
def CAP_APERTURE_unit : Field := ⟨0x40, 2, 6⟩
/-- CAP_APERTURE.segment, Table MAP-4. -/
def CAP_APERTURE_segment : Field := ⟨0x40, 8, 2⟩
/-- CAP_APERTURE.enable, Table MAP-4. -/
def CAP_APERTURE_enable : Field := ⟨0x40, 10, 1⟩
/-- CAP_APERTURE.bad, Table MAP-4. -/
def CAP_APERTURE_bad : Field := ⟨0x40, 11, 1⟩

end F

/-- The registers of block CAP, in the order of its tables. -/
def rowsCAP : List RegRow := [
  ⟨"CAP_BOARD_SUPPLY", 0x800, [], false, [⟨0, 16, .ro⟩, ⟨16, 16, .ro⟩]⟩,
  ⟨"CAP_BOARD_POWER", 0x804, [], false, [⟨0, 16, .ro⟩]⟩,
  ⟨"CAP_BOARD_COOLANT", 0x808, [], false, [⟨0, 12, .ro⟩, ⟨12, 12, .ro⟩, ⟨24, 8, .ro⟩]⟩,
  ⟨"CAP_BOARD_TEMP", 0x80c, [], false, [⟨0, 8, .ro⟩, ⟨8, 8, .ro⟩, ⟨16, 8, .ro⟩, ⟨24, 8, .ro⟩]⟩,
  ⟨"CAP_BOARD_STATUS", 0x810, [], false, [⟨0, 1, .w1c⟩, ⟨1, 1, .ro⟩, ⟨2, 4, .ro⟩, ⟨6, 1, .ro⟩, ⟨7, 1, .ro⟩, ⟨8, 8, .ro⟩, ⟨16, 2, .ro⟩, ⟨18, 2, .ro⟩, ⟨20, 1, .ro⟩]⟩,
  ⟨"CAP_BOARD_LED", 0x814, [], false, [⟨0, 1, .rw⟩]⟩,
  ⟨"CAP_ID", 0x0, [], false, [⟨0, 16, .ro⟩, ⟨16, 8, .ro⟩, ⟨24, 8, .ro⟩]⟩,
  ⟨"CAP_VERSION", 0x4, [], false, [⟨0, 8, .ro⟩, ⟨16, 16, .ro⟩]⟩,
  ⟨"CAP_PRESENT", 0x8, [], false, [⟨0, 1, .ro⟩, ⟨1, 1, .ro⟩, ⟨2, 1, .ro⟩, ⟨3, 1, .ro⟩, ⟨4, 1, .ro⟩, ⟨5, 1, .ro⟩, ⟨6, 1, .ro⟩, ⟨8, 8, .ro⟩]⟩,
  ⟨"CAP_COUNTS0", 0xc, [], false, [⟨0, 6, .ro⟩, ⟨6, 6, .ro⟩, ⟨12, 4, .ro⟩, ⟨16, 2, .ro⟩, ⟨18, 7, .ro⟩, ⟨25, 7, .ro⟩]⟩,
  ⟨"CAP_COUNTS1", 0x10, [], false, [⟨0, 5, .ro⟩, ⟨5, 4, .ro⟩, ⟨9, 9, .ro⟩, ⟨18, 4, .ro⟩, ⟨22, 2, .ro⟩, ⟨24, 4, .ro⟩, ⟨28, 4, .ro⟩]⟩,
  ⟨"CAP_COUNTS2", 0x14, [], false, [⟨0, 6, .ro⟩, ⟨6, 6, .ro⟩, ⟨12, 2, .ro⟩, ⟨14, 2, .ro⟩, ⟨16, 13, .ro⟩]⟩,
  ⟨"CAP_HBM", 0x18, [], false, [⟨0, 19, .ro⟩]⟩,
  ⟨"CAP_HBM_AVAIL", 0x1c, [], false, [⟨0, 19, .ro⟩, ⟨19, 11, .ro⟩]⟩,
  ⟨"CAP_KV", 0x20, [], false, [⟨0, 13, .ro⟩, ⟨13, 16, .ro⟩]⟩,
  ⟨"CAP_KV_POOL", 0x24, [], false, [⟨0, 19, .ro⟩]⟩,
  ⟨"CAP_ENGINES", 0x28, [], false, [⟨0, 8, .ro⟩, ⟨8, 8, .ro⟩, ⟨16, 8, .ro⟩, ⟨24, 2, .ro⟩]⟩,
  ⟨"CAP_APERTURE", 0x40, [], false, [⟨0, 2, .rw⟩, ⟨2, 6, .rw⟩, ⟨8, 2, .rw⟩, ⟨10, 1, .rw⟩, ⟨11, 1, .rc⟩]⟩]

/-- The registers of block ZLD, in the order of its tables. -/
def rowsZLD : List RegRow := [
  ⟨"ZLD_CTRL", 0x10000, [], false, [⟨0, 4, .wo⟩]⟩,
  ⟨"ZLD_STATUS", 0x10004, [], false, [⟨0, 3, .ro⟩, ⟨3, 2, .ro⟩, ⟨5, 1, .ro⟩, ⟨6, 8, .ro⟩, ⟨14, 1, .ro⟩]⟩,
  ⟨"ZLD_SRC_LO", 0x10008, [], false, [⟨0, 32, .rw⟩]⟩,
  ⟨"ZLD_SRC_HI", 0x1000c, [], false, [⟨0, 32, .rw⟩]⟩,
  ⟨"ZLD_SRC_LEN", 0x10010, [], false, [⟨0, 26, .rw⟩]⟩,
  ⟨"ZLD_PROGRESS", 0x10014, [], false, [⟨0, 26, .ro⟩]⟩,
  ⟨"ZLD_RESULT", 0x10018, [], true, [⟨0, 16, .ro⟩, ⟨16, 8, .ro⟩, ⟨24, 8, .ro⟩]⟩,
  ⟨"ZLD_ACTIVE", 0x1001c, [], false, [⟨0, 1, .ro⟩, ⟨1, 10, .ro⟩, ⟨11, 7, .ro⟩, ⟨18, 2, .ro⟩, ⟨20, 1, .ro⟩]⟩,
  ⟨"ZLD_BUILD", 0x10020, [], false, [⟨0, 32, .ro⟩]⟩,
  ⟨"ZLD_DIGEST", 0x10040, [(16, 0x4)], false, [⟨0, 32, .ro⟩]⟩,
  ⟨"ZLD_OVERLAY", 0x10080, [(8, 0x4)], false, [⟨0, 1, .ro⟩, ⟨1, 1, .ro⟩, ⟨2, 30, .ro⟩]⟩,
  ⟨"ZLD_LANDED", 0x100a0, [], false, [⟨0, 28, .ro⟩, ⟨28, 4, .ro⟩]⟩]

/-- The registers of block KEEP, in the order of its tables. -/
def rowsKEEP : List RegRow := [
  ⟨"KEEP_STATUS", 0x20000, [], false, [⟨0, 2, .ro⟩, ⟨2, 1, .ro⟩, ⟨3, 1, .ro⟩, ⟨4, 3, .ro⟩, ⟨7, 1, .ro⟩, ⟨8, 1, .ro⟩, ⟨9, 1, .ro⟩, ⟨10, 1, .ro⟩]⟩,
  ⟨"KEEP_POWER_CYCLES", 0x20004, [], false, [⟨0, 24, .ro⟩]⟩,
  ⟨"KEEP_OP_SECONDS_LO", 0x20008, [], false, [⟨0, 32, .ro⟩]⟩,
  ⟨"KEEP_OP_SECONDS_HI", 0x2000c, [], false, [⟨0, 8, .ro⟩]⟩,
  ⟨"KEEP_RATCHET", 0x20010, [], false, [⟨0, 4, .ro⟩, ⟨4, 10, .ro⟩, ⟨14, 6, .ro⟩, ⟨20, 7, .ro⟩]⟩,
  ⟨"KEEP_DEVICE_ID", 0x20020, [(2, 0x4)], false, [⟨0, 32, .ro⟩]⟩,
  ⟨"KEEP_OWNER_KEY", 0x20040, [(16, 0x4)], false, [⟨0, 32, .ro⟩]⟩,
  ⟨"KEEP_SIGNERS", 0x20080, [], false, [⟨0, 3, .ro⟩]⟩,
  ⟨"KEEP_SELFTEST", 0x20084, [], false, [⟨0, 16, .ro⟩, ⟨16, 8, .ro⟩, ⟨24, 8, .ro⟩]⟩]

/-- The registers of block PACE, in the order of its tables. -/
def rowsPACE : List RegRow := [
  ⟨"PACE_STATUS", 0x30000, [], false, [⟨0, 12, .ro⟩, ⟨12, 12, .ro⟩, ⟨24, 1, .ro⟩, ⟨25, 1, .ro⟩, ⟨26, 1, .ro⟩, ⟨27, 1, .ro⟩, ⟨28, 2, .ro⟩]⟩,
  ⟨"PACE_PERIOD", 0x30004, [], false, [⟨0, 14, .ro⟩]⟩,
  ⟨"PACE_MODE", 0x30008, [], false, [⟨0, 8, .ro⟩]⟩,
  ⟨"PACE_PLAN_CTRL", 0x3000c, [], false, [⟨0, 4, .wo⟩, ⟨16, 11, .wo⟩]⟩,
  ⟨"PACE_PLAN_STATUS", 0x30010, [], false, [⟨0, 11, .ro⟩, ⟨11, 1, .ro⟩, ⟨12, 12, .ro⟩, ⟨24, 3, .ro⟩]⟩,
  ⟨"PACE_TABLE0", 0x30014, [], false, [⟨0, 12, .ro⟩, ⟨12, 12, .ro⟩, ⟨24, 8, .ro⟩]⟩,
  ⟨"PACE_TABLE1", 0x30018, [], false, [⟨0, 6, .ro⟩, ⟨6, 5, .ro⟩, ⟨11, 10, .ro⟩, ⟨21, 7, .ro⟩]⟩,
  ⟨"PACE_DIE", 0x30020, [(2, 0x4)], false, [⟨0, 10, .ro⟩, ⟨10, 10, .ro⟩, ⟨20, 1, .ro⟩, ⟨21, 11, .ro⟩]⟩,
  ⟨"PACE_SLACK", 0x30100, [(40, 0x4)], false, [⟨0, 12, .ro⟩, ⟨12, 12, .ro⟩, ⟨24, 8, .ro⟩]⟩,
  ⟨"PACE_MISS", 0x30200, [(40, 0x4)], false, [⟨0, 32, .rc⟩]⟩,
  ⟨"PACE_OVERRUN", 0x30300, [(8, 0x4)], false, [⟨0, 32, .rc⟩]⟩,
  ⟨"PACE_HUB", 0x30400, [], false, [⟨0, 12, .ro⟩, ⟨16, 16, .rc⟩]⟩,
  ⟨"PACE_BRIDGE", 0x30480, [(126, 0x4)], false, [⟨0, 16, .rc⟩]⟩,
  ⟨"PACE_HUBFW_CTRL", 0x30700, [], false, [⟨0, 4, .wo⟩]⟩,
  ⟨"PACE_HUBFW_STATUS", 0x30704, [], false, [⟨0, 3, .ro⟩, ⟨3, 1, .ro⟩, ⟨4, 1, .ro⟩, ⟨5, 10, .ro⟩]⟩,
  ⟨"PACE_HUBFW_SRC_LO", 0x30708, [], false, [⟨0, 32, .rw⟩]⟩,
  ⟨"PACE_HUBFW_SRC_HI", 0x3070c, [], false, [⟨0, 32, .rw⟩]⟩,
  ⟨"PACE_HUBFW_LEN", 0x30710, [], false, [⟨0, 24, .rw⟩]⟩]

/-- The registers of block CORE, in the order of its tables. -/
def rowsCORE : List RegRow := [
  ⟨"CORE_ID", 0x200000, [(40, 0x10000)], false, [⟨0, 6, .ro⟩, ⟨6, 4, .ro⟩, ⟨10, 1, .ro⟩, ⟨11, 6, .ro⟩, ⟨17, 3, .ro⟩]⟩,
  ⟨"CORE_STATUS", 0x200004, [(40, 0x10000)], false, [⟨0, 3, .ro⟩, ⟨3, 1, .ro⟩, ⟨4, 1, .ro⟩, ⟨5, 1, .ro⟩, ⟨6, 1, .ro⟩, ⟨8, 24, .ro⟩]⟩,
  ⟨"CORE_CTRL", 0x200008, [(40, 0x10000)], false, [⟨0, 4, .wo⟩]⟩,
  ⟨"CORE_FAIL", 0x20000c, [(40, 0x10000)], false, [⟨0, 4, .ro⟩, ⟨4, 28, .ro⟩]⟩,
  ⟨"CORE_SRAM_ERR", 0x200010, [(40, 0x10000)], false, [⟨0, 16, .rc⟩, ⟨16, 16, .rc⟩]⟩,
  ⟨"CORE_SPARE_TEST", 0x200014, [(40, 0x10000)], false, [⟨0, 16, .ro⟩, ⟨16, 16, .ro⟩]⟩,
  ⟨"CORE_CLUSTER", 0x200100, [(40, 0x10000)], false, [⟨0, 1, .ro⟩, ⟨1, 3, .ro⟩, ⟨4, 4, .ro⟩, ⟨8, 5, .ro⟩, ⟨16, 8, .ro⟩]⟩,
  ⟨"CORE_MAP", 0x200104, [(40, 0x10000)], false, [⟨0, 12, .ro⟩]⟩]

/-- The registers of block KV, in the order of its tables. -/
def rowsKV : List RegRow := [
  ⟨"KV_STATUS", 0xd0000, [], false, [⟨0, 19, .ro⟩, ⟨19, 13, .ro⟩]⟩,
  ⟨"KV_CMD", 0xd0004, [], false, [⟨0, 4, .wo⟩, ⟨4, 3, .wo⟩, ⟨8, 19, .wo⟩]⟩,
  ⟨"KV_CMD_STATUS", 0xd0008, [], true, [⟨0, 16, .ro⟩, ⟨16, 16, .ro⟩]⟩,
  ⟨"KV_CMD_STATUS2", 0xd000c, [], true, [⟨0, 32, .ro⟩]⟩,
  ⟨"KV_POOL", 0xd0100, [(8, 0x20)], false, [⟨0, 19, .ro⟩]⟩,
  ⟨"KV_FREE", 0xd0104, [(8, 0x20)], false, [⟨0, 19, .ro⟩]⟩,
  ⟨"KV_CHARGE", 0xd0108, [(8, 0x20)], false, [⟨0, 19, .ro⟩, ⟨31, 1, .ro⟩]⟩,
  ⟨"KV_LIMBO", 0xd010c, [(8, 0x20)], false, [⟨0, 19, .ro⟩]⟩,
  ⟨"KV_GEN", 0xd0110, [(8, 0x20)], false, [⟨0, 32, .ro⟩]⟩,
  ⟨"KV_GEN_HELD", 0xd0114, [(8, 0x20)], false, [⟨0, 32, .ro⟩]⟩,
  ⟨"KV_SEQ", 0xd0118, [(8, 0x20)], false, [⟨0, 13, .ro⟩, ⟨16, 7, .ro⟩]⟩,
  ⟨"KV_WAIT", 0xd011c, [(8, 0x20)], false, [⟨0, 16, .ro⟩, ⟨16, 16, .rc⟩]⟩,
  ⟨"KV_WALKER", 0xd0200, [(8, 0x4)], false, [⟨0, 1, .ro⟩, ⟨1, 3, .ro⟩, ⟨16, 16, .rc⟩]⟩]

/-- The registers of block ROUTE, in the order of its tables. -/
def rowsROUTE : List RegRow := [
  ⟨"ROUTE_STATUS", 0x40000, [], false, [⟨0, 1, .ro⟩, ⟨8, 9, .ro⟩]⟩,
  ⟨"ROUTE_PERIOD_LO", 0x40004, [], false, [⟨0, 32, .ro⟩]⟩,
  ⟨"ROUTE_PERIOD_HI", 0x40008, [], false, [⟨0, 32, .ro⟩]⟩,
  ⟨"ROUTE_CMD", 0x40010, [], false, [⟨0, 4, .wo⟩, ⟨4, 3, .wo⟩, ⟨8, 8, .wo⟩]⟩,
  ⟨"ROUTE_CMD_ARG0", 0x40014, [], true, [⟨0, 19, .rw⟩, ⟨19, 13, .rw⟩]⟩,
  ⟨"ROUTE_CMD_ARG1", 0x40018, [], true, [⟨0, 24, .rw⟩]⟩,
  ⟨"ROUTE_CMD_ARG2", 0x4001c, [], true, [⟨0, 24, .rw⟩]⟩,
  ⟨"ROUTE_CMD_STATUS", 0x40020, [], true, [⟨0, 16, .ro⟩, ⟨16, 8, .ro⟩, ⟨24, 8, .ro⟩]⟩,
  ⟨"ROUTE_CMD_STATUS2", 0x40024, [], true, [⟨0, 32, .ro⟩]⟩,
  ⟨"ROUTE_PART", 0x40100, [(8, 0x20)], false, [⟨0, 2, .ro⟩, ⟨2, 2, .ro⟩, ⟨4, 1, .ro⟩, ⟨5, 1, .ro⟩, ⟨6, 1, .ro⟩, ⟨7, 1, .ro⟩, ⟨8, 9, .ro⟩]⟩,
  ⟨"ROUTE_QUOTA", 0x40104, [(8, 0x20)], false, [⟨0, 19, .ro⟩]⟩,
  ⟨"ROUTE_QUOTA_LIMIT", 0x40108, [(8, 0x20)], false, [⟨0, 19, .ro⟩]⟩,
  ⟨"ROUTE_PAGES", 0x4010c, [(8, 0x20)], false, [⟨0, 19, .ro⟩]⟩,
  ⟨"ROUTE_BW", 0x40110, [(8, 0x20)], false, [⟨0, 11, .ro⟩, ⟨11, 11, .ro⟩]⟩,
  ⟨"ROUTE_PENDING", 0x40114, [(8, 0x20)], false, [⟨0, 1, .ro⟩, ⟨1, 1, .ro⟩, ⟨2, 1, .ro⟩, ⟨3, 1, .ro⟩]⟩,
  ⟨"ROUTE_FIT", 0x40118, [(8, 0x20)], false, [⟨0, 24, .ro⟩]⟩,
  ⟨"ROUTE_DEFER", 0x4011c, [(8, 0x20)], false, [⟨0, 16, .rc⟩, ⟨16, 16, .rc⟩]⟩,
  ⟨"ROUTE_JOB", 0x41000, [(256, 0x20)], false, [⟨0, 3, .ro⟩, ⟨3, 3, .ro⟩, ⟨6, 2, .ro⟩, ⟨8, 8, .ro⟩, ⟨16, 10, .ro⟩]⟩,
  ⟨"ROUTE_TOLL_LO", 0x41004, [(256, 0x20)], false, [⟨0, 32, .ro⟩]⟩,
  ⟨"ROUTE_TOLL_HI", 0x41008, [(256, 0x20)], false, [⟨0, 16, .ro⟩]⟩,
  ⟨"ROUTE_SLOWDOWN", 0x4100c, [(256, 0x20)], false, [⟨0, 16, .ro⟩, ⟨16, 16, .ro⟩]⟩,
  ⟨"ROUTE_BASELINE", 0x41010, [(256, 0x20)], false, [⟨0, 32, .ro⟩]⟩,
  ⟨"ROUTE_ITER", 0x41014, [(256, 0x20)], false, [⟨0, 32, .ro⟩]⟩,
  ⟨"ROUTE_DEFERRED", 0x41018, [(256, 0x20)], false, [⟨0, 16, .rc⟩]⟩,
  ⟨"ROUTE_WIN_START", 0x44000, [(128, 0x8)], false, [⟨0, 24, .ro⟩]⟩,
  ⟨"ROUTE_WIN_LEN", 0x44004, [(128, 0x8)], false, [⟨0, 24, .ro⟩]⟩]

/-- The registers of block LANE, in the order of its tables. -/
def rowsLANE : List RegRow := [
  ⟨"LANE_REF", 0x80000, [], false, [⟨0, 2, .rwl⟩]⟩,
  ⟨"LANE_UP_MASK", 0x80004, [], false, [⟨0, 32, .ro⟩]⟩,
  ⟨"LANE_CFG", 0x81000, [(32, 0x100)], false, [⟨0, 1, .ro⟩, ⟨1, 2, .ro⟩, ⟨3, 1, .ro⟩, ⟨4, 4, .ro⟩, ⟨8, 3, .ro⟩]⟩,
  ⟨"LANE_CTRL", 0x81004, [(32, 0x100)], false, [⟨0, 4, .wo⟩, ⟨4, 2, .wo⟩, ⟨6, 2, .wo⟩]⟩,
  ⟨"LANE_STATUS", 0x81008, [(32, 0x100)], false, [⟨0, 4, .ro⟩, ⟨4, 1, .ro⟩, ⟨8, 8, .ro⟩, ⟨16, 16, .ro⟩]⟩,
  ⟨"LANE_TXEQ", 0x8100c, [(32, 0x100)], false, [⟨0, 5, .rw⟩, ⟨8, 5, .rw⟩, ⟨16, 7, .ro⟩]⟩,
  ⟨"LANE_CRC_ERR", 0x81010, [(32, 0x100)], false, [⟨0, 32, .rc⟩]⟩,
  ⟨"LANE_NAK", 0x81014, [(32, 0x100)], false, [⟨0, 16, .rc⟩, ⟨16, 16, .rc⟩]⟩,
  ⟨"LANE_LOST", 0x81018, [(32, 0x100)], false, [⟨0, 16, .rc⟩, ⟨16, 16, .rc⟩]⟩,
  ⟨"LANE_VIOL", 0x8101c, [(32, 0x100)], false, [⟨0, 32, .rc⟩]⟩,
  ⟨"LANE_PRBS_ERR", 0x81020, [(32, 0x100)], false, [⟨0, 32, .rc⟩]⟩,
  ⟨"LANE_LINES", 0x81024, [(32, 0x100)], false, [⟨0, 32, .ro⟩]⟩,
  ⟨"LANE_RETRY", 0x81028, [(32, 0x100)], false, [⟨0, 2, .rw⟩]⟩,
  ⟨"LANE_STREAM", 0x81040, [(32, 0x100), (8, 0x4)], false, [⟨0, 16, .ro⟩, ⟨16, 2, .ro⟩]⟩]

/-- The registers of block ISP, in the order of its tables. -/
def rowsISP : List RegRow := [
  ⟨"ISP_STATUS", 0xa0000, [], false, [⟨0, 7, .ro⟩, ⟨7, 16, .ro⟩]⟩,
  ⟨"ISP_LINESTORE", 0xa0004, [], false, [⟨0, 16, .ro⟩]⟩,
  ⟨"ISP_CHAN", 0xa0100, [(16, 0x20)], false, [⟨0, 32, .ro⟩]⟩,
  ⟨"ISP_LAYBY", 0xa0104, [(16, 0x20)], false, [⟨0, 22, .ro⟩]⟩,
  ⟨"ISP_LAYBY_PEAK", 0xa0108, [(16, 0x20)], false, [⟨0, 22, .rc⟩]⟩,
  ⟨"ISP_LAYBY_LOST", 0xa010c, [(16, 0x20)], false, [⟨0, 32, .rc⟩]⟩,
  ⟨"ISP_GOLDEN", 0xa0110, [(16, 0x20)], false, [⟨0, 16, .rc⟩, ⟨16, 8, .rc⟩, ⟨24, 8, .rc⟩]⟩,
  ⟨"ISP_GOLDEN_WAIT", 0xa0114, [(16, 0x20)], false, [⟨0, 16, .rc⟩]⟩,
  ⟨"ISP_CHAN_LINES", 0xa0118, [(16, 0x20)], false, [⟨0, 32, .ro⟩]⟩,
  ⟨"ISP_CTX_CFG", 0xa1000, [(64, 0x100)], false, [⟨0, 1, .ro⟩, ⟨1, 5, .ro⟩, ⟨6, 3, .ro⟩, ⟨9, 2, .ro⟩, ⟨11, 3, .ro⟩, ⟨14, 4, .ro⟩]⟩,
  ⟨"ISP_CTX_CMD", 0xa1004, [(64, 0x100)], false, [⟨0, 4, .wo⟩]⟩,
  ⟨"ISP_CTX_SRC_LO", 0xa1008, [(64, 0x100)], false, [⟨0, 32, .rw⟩]⟩,
  ⟨"ISP_CTX_SRC_HI", 0xa100c, [(64, 0x100)], false, [⟨0, 32, .rw⟩]⟩,
  ⟨"ISP_CTX_LEN", 0xa1010, [(64, 0x100)], false, [⟨0, 21, .rw⟩, ⟨31, 1, .rw⟩]⟩,
  ⟨"ISP_CTX_STATUS", 0xa1014, [(64, 0x100)], false, [⟨0, 1, .ro⟩, ⟨1, 2, .ro⟩, ⟨3, 3, .ro⟩, ⟨6, 1, .ro⟩, ⟨7, 1, .ro⟩, ⟨8, 4, .ro⟩]⟩,
  ⟨"ISP_CTX_FRAME", 0xa1018, [(64, 0x100)], false, [⟨0, 32, .ro⟩]⟩,
  ⟨"ISP_CTX_LINES", 0xa101c, [(64, 0x100)], false, [⟨0, 32, .ro⟩]⟩,
  ⟨"ISP_CTX_STATS", 0xa1020, [(64, 0x100)], false, [⟨0, 32, .ro⟩]⟩,
  ⟨"ISP_CTX_FAULTS", 0xa1024, [(64, 0x100)], false, [⟨0, 16, .rc⟩, ⟨16, 8, .rc⟩, ⟨24, 8, .rc⟩]⟩,
  ⟨"ISP_CTX_RESULT", 0xa1028, [(64, 0x100)], true, [⟨0, 16, .ro⟩, ⟨16, 8, .ro⟩]⟩,
  ⟨"ISP_CTX_DIGEST", 0xa1040, [(64, 0x100), (8, 0x4)], false, [⟨0, 32, .ro⟩]⟩]

/-- The registers of block INGEST, in the order of its tables. -/
def rowsINGEST : List RegRow := [
  ⟨"INGEST_STATUS", 0xc0000, [], false, [⟨0, 4, .ro⟩, ⟨4, 8, .ro⟩]⟩,
  ⟨"INGEST_LOAD", 0xc0004, [], false, [⟨0, 8, .ro⟩, ⟨8, 8, .ro⟩]⟩,
  ⟨"INGEST_CMD", 0xc0008, [], false, [⟨0, 4, .wo⟩, ⟨4, 3, .wo⟩]⟩,
  ⟨"INGEST_Q_RING_LO", 0xc0100, [(8, 0x40)], false, [⟨0, 32, .rwl⟩]⟩,
  ⟨"INGEST_Q_RING_HI", 0xc0104, [(8, 0x40)], false, [⟨0, 32, .rwl⟩]⟩,
  ⟨"INGEST_Q_RING_SIZE", 0xc0108, [(8, 0x40)], false, [⟨0, 5, .rwl⟩, ⟨16, 11, .rwl⟩]⟩,
  ⟨"INGEST_Q_TAIL", 0xc010c, [(8, 0x40)], false, [⟨0, 32, .rw⟩]⟩,
  ⟨"INGEST_Q_HEAD", 0xc0110, [(8, 0x40)], false, [⟨0, 32, .ro⟩]⟩,
  ⟨"INGEST_Q_SEED_LO", 0xc0114, [(8, 0x40)], false, [⟨0, 32, .rw⟩]⟩,
  ⟨"INGEST_Q_SEED_HI", 0xc0118, [(8, 0x40)], false, [⟨0, 32, .rw⟩]⟩,
  ⟨"INGEST_Q_EPOCH", 0xc011c, [(8, 0x40)], false, [⟨0, 32, .rw⟩]⟩,
  ⟨"INGEST_Q_LIMITS", 0xc0120, [(8, 0x40)], false, [⟨0, 14, .rwl⟩, ⟨14, 18, .rwl⟩]⟩,
  ⟨"INGEST_Q_STATE", 0xc0124, [(8, 0x40)], false, [⟨0, 2, .ro⟩, ⟨2, 1, .ro⟩, ⟨8, 8, .ro⟩, ⟨16, 4, .ro⟩]⟩,
  ⟨"INGEST_Q_BATCHES", 0xc0128, [(8, 0x40)], false, [⟨0, 32, .ro⟩]⟩,
  ⟨"INGEST_Q_DONE", 0xc012c, [(8, 0x40)], false, [⟨0, 32, .rc⟩]⟩,
  ⟨"INGEST_Q_VOID", 0xc0130, [(8, 0x40), (3, 0x4)], false, [⟨0, 8, .rc⟩, ⟨8, 8, .rc⟩, ⟨16, 8, .rc⟩, ⟨24, 8, .rc⟩]⟩]

/-- The registers of block MOT, in the order of its tables. -/
def rowsMOT : List RegRow := [
  ⟨"MOT_STATUS", 0xe0000, [], false, [⟨0, 8, .ro⟩, ⟨8, 8, .ro⟩, ⟨16, 8, .ro⟩, ⟨24, 8, .ro⟩]⟩,
  ⟨"MOT_CMD", 0xe0004, [], false, [⟨0, 4, .wo⟩, ⟨4, 3, .wo⟩]⟩,
  ⟨"MOT_CMD_STATUS", 0xe0008, [], true, [⟨0, 16, .ro⟩, ⟨16, 8, .ro⟩]⟩,
  ⟨"MOT_CH_CFG", 0xe0100, [(8, 0x40)], false, [⟨0, 3, .ro⟩, ⟨3, 2, .ro⟩, ⟨5, 1, .ro⟩, ⟨6, 3, .ro⟩, ⟨9, 3, .ro⟩, ⟨12, 1, .ro⟩, ⟨16, 16, .ro⟩]⟩,
  ⟨"MOT_CH_STATUS", 0xe0104, [(8, 0x40)], false, [⟨0, 2, .ro⟩, ⟨2, 2, .ro⟩, ⟨4, 3, .ro⟩, ⟨16, 16, .ro⟩]⟩,
  ⟨"MOT_CH_COUNT_LO", 0xe0108, [(8, 0x40)], false, [⟨0, 32, .ro⟩]⟩,
  ⟨"MOT_CH_COUNT_HI", 0xe010c, [(8, 0x40)], false, [⟨0, 32, .ro⟩]⟩,
  ⟨"MOT_CH_SPEED", 0xe0110, [(8, 0x40)], false, [⟨0, 32, .ro⟩]⟩,
  ⟨"MOT_CH_INDEX", 0xe0114, [(8, 0x40)], false, [⟨0, 32, .ro⟩]⟩,
  ⟨"MOT_CH_ERR", 0xe0118, [(8, 0x40)], false, [⟨0, 16, .rc⟩, ⟨16, 16, .rc⟩]⟩,
  ⟨"MOT_CH_MP", 0xe011c, [(8, 0x40)], false, [⟨0, 13, .ro⟩]⟩,
  ⟨"MOT_CH_FIRED", 0xe0120, [(8, 0x40)], false, [⟨0, 32, .rc⟩]⟩,
  ⟨"MOT_CH_CANCELLED", 0xe0124, [(8, 0x40)], false, [⟨0, 32, .rc⟩]⟩,
  ⟨"MOT_CH_LATE", 0xe0128, [(8, 0x40)], false, [⟨0, 16, .rc⟩, ⟨16, 16, .rc⟩]⟩,
  ⟨"MOT_CH_SUPPRESSED", 0xe012c, [(8, 0x40)], false, [⟨0, 16, .rc⟩, ⟨16, 16, .rc⟩]⟩,
  ⟨"MOT_DIV_CFG", 0xe0400, [(8, 0x20)], false, [⟨0, 2, .ro⟩, ⟨2, 3, .ro⟩, ⟨5, 1, .ro⟩, ⟨8, 24, .ro⟩]⟩,
  ⟨"MOT_DIV_RATIO", 0xe0404, [(8, 0x20)], false, [⟨0, 32, .ro⟩]⟩,
  ⟨"MOT_DIV_LANES", 0xe0408, [(8, 0x20)], false, [⟨0, 32, .ro⟩]⟩,
  ⟨"MOT_DIV_STREAMS", 0xe040c, [(8, 0x20)], false, [⟨0, 8, .ro⟩]⟩,
  ⟨"MOT_DIV_TRIG", 0xe0410, [(8, 0x20)], false, [⟨0, 16, .ro⟩, ⟨16, 16, .rc⟩]⟩,
  ⟨"MOT_MP_SEL", 0xe0800, [], true, [⟨0, 3, .rw⟩, ⟨3, 12, .rw⟩]⟩,
  ⟨"MOT_MP_ENTRY", 0xe0820, [(8, 0x4)], true, [⟨0, 32, .ro⟩]⟩]

/-- The registers of block FIO, in the order of its tables. -/
def rowsFIO : List RegRow := [
  ⟨"FIO_STATUS", 0xf0000, [], false, [⟨0, 1, .ro⟩, ⟨1, 4, .ro⟩, ⟨5, 1, .ro⟩]⟩,
  ⟨"FIO_IN", 0xf0004, [], false, [⟨0, 32, .ro⟩]⟩,
  ⟨"FIO_OUT_STATE", 0xf0008, [], false, [⟨0, 32, .ro⟩]⟩,
  ⟨"FIO_OUT_SET", 0xf000c, [], false, [⟨0, 32, .wo⟩]⟩,
  ⟨"FIO_OUT_CLR", 0xf0010, [], false, [⟨0, 32, .wo⟩]⟩,
  ⟨"FIO_OUT_CMD", 0xf0014, [], false, [⟨0, 4, .wo⟩, ⟨4, 6, .wo⟩]⟩,
  ⟨"FIO_GROUP", 0xf0020, [(4, 0x4)], false, [⟨0, 16, .ro⟩]⟩,
  ⟨"FIO_IN_CFG", 0xf0100, [(32, 0x10)], false, [⟨0, 2, .ro⟩, ⟨2, 14, .ro⟩, ⟨16, 3, .ro⟩, ⟨19, 2, .ro⟩]⟩,
  ⟨"FIO_CAP_COUNT", 0xf0104, [(32, 0x10)], false, [⟨0, 32, .ro⟩]⟩,
  ⟨"FIO_CAP_TIME", 0xf0108, [(32, 0x10)], false, [⟨0, 30, .ro⟩, ⟨31, 1, .rc⟩]⟩,
  ⟨"FIO_OUT_CFG", 0xf0300, [(32, 0x10)], false, [⟨0, 1, .ro⟩, ⟨1, 1, .ro⟩, ⟨2, 3, .ro⟩, ⟨5, 14, .ro⟩]⟩,
  ⟨"FIO_OUT_DIAG", 0xf0304, [(32, 0x10)], false, [⟨0, 1, .ro⟩, ⟨1, 1, .ro⟩, ⟨2, 1, .ro⟩, ⟨3, 1, .ro⟩, ⟨4, 1, .ro⟩, ⟨16, 16, .ro⟩]⟩,
  ⟨"FIO_OUT_FAULTS", 0xf0308, [(32, 0x10)], false, [⟨0, 16, .rc⟩]⟩]

/-- The registers of block TIME, in the order of its tables. -/
def rowsTIME : List RegRow := [
  ⟨"TIME_STATUS", 0x100000, [], false, [⟨0, 2, .ro⟩, ⟨2, 1, .ro⟩, ⟨3, 2, .ro⟩, ⟨5, 1, .ro⟩, ⟨6, 1, .ro⟩]⟩,
  ⟨"TIME_NOW_NS", 0x100004, [], false, [⟨0, 30, .ro⟩]⟩,
  ⟨"TIME_NOW_SEC_LO", 0x100008, [], false, [⟨0, 32, .ro⟩]⟩,
  ⟨"TIME_NOW_SEC_HI", 0x10000c, [], false, [⟨0, 16, .ro⟩]⟩,
  ⟨"TIME_OFFSET", 0x100010, [], false, [⟨0, 32, .ro⟩]⟩,
  ⟨"TIME_FREQ", 0x100014, [], false, [⟨0, 32, .ro⟩]⟩,
  ⟨"TIME_JUMP", 0x100018, [], false, [⟨0, 30, .rw⟩]⟩,
  ⟨"TIME_SLEW", 0x10001c, [], false, [⟨0, 7, .rw⟩]⟩,
  ⟨"TIME_CMD", 0x100020, [], false, [⟨0, 4, .wo⟩, ⟨4, 3, .wo⟩]⟩,
  ⟨"TIME_CMD_STATUS", 0x100024, [], true, [⟨0, 16, .ro⟩, ⟨16, 8, .ro⟩]⟩,
  ⟨"TIME_SET_NS", 0x100028, [], true, [⟨0, 32, .rw⟩]⟩,
  ⟨"TIME_SET_SEC_LO", 0x10002c, [], true, [⟨0, 32, .rw⟩]⟩,
  ⟨"TIME_SET_SEC_HI", 0x100030, [], true, [⟨0, 16, .rw⟩]⟩,
  ⟨"TIME_MS_LO", 0x100038, [], false, [⟨0, 32, .ro⟩]⟩,
  ⟨"TIME_MS_HI", 0x10003c, [], false, [⟨0, 32, .ro⟩]⟩,
  ⟨"TIME_START_LO", 0x100040, [], true, [⟨0, 32, .rw⟩]⟩,
  ⟨"TIME_START_HI", 0x100044, [], true, [⟨0, 32, .rw⟩]⟩,
  ⟨"TIME_START_PENDING", 0x100048, [], false, [⟨0, 8, .ro⟩]⟩,
  ⟨"TIME_PTP_CNT", 0x100050, [(2, 0x4)], false, [⟨0, 16, .rc⟩, ⟨16, 16, .rc⟩]⟩,
  ⟨"TIME_LQ", 0x100060, [(2, 0x10)], false, [⟨0, 7, .ro⟩, ⟨7, 1, .ro⟩, ⟨8, 3, .ro⟩, ⟨11, 1, .ro⟩, ⟨16, 16, .ro⟩]⟩,
  ⟨"TIME_LQ_SENT", 0x100064, [(2, 0x10)], false, [⟨0, 32, .ro⟩]⟩,
  ⟨"TIME_LQ_LATE", 0x100068, [(2, 0x10)], false, [⟨0, 16, .rc⟩, ⟨16, 16, .rc⟩]⟩]

/-- The registers of block PEER, in the order of its tables. -/
def rowsPEER : List RegRow := [
  ⟨"PEER_STATUS", 0x110000, [], false, [⟨0, 4, .ro⟩, ⟨4, 1, .ro⟩, ⟨5, 1, .ro⟩]⟩,
  ⟨"PEER_SIDE", 0x110100, [(2, 0x40)], false, [⟨0, 18, .ro⟩, ⟨18, 4, .ro⟩, ⟨22, 1, .ro⟩]⟩,
  ⟨"PEER_VERGE", 0x110104, [(2, 0x40)], false, [⟨0, 32, .ro⟩]⟩,
  ⟨"PEER_CONTRIB", 0x110108, [(2, 0x40)], false, [⟨0, 32, .ro⟩]⟩,
  ⟨"PEER_REJECT", 0x11010c, [(2, 0x40)], false, [⟨0, 16, .rc⟩, ⟨16, 16, .rc⟩]⟩,
  ⟨"PEER_RESEND", 0x110110, [(2, 0x40)], false, [⟨0, 16, .rc⟩, ⟨16, 16, .rc⟩]⟩,
  ⟨"PEER_MISSING", 0x110114, [(2, 0x40)], false, [⟨0, 32, .rc⟩]⟩]

/-- The registers of block HOST, in the order of its tables. -/
def rowsHOST : List RegRow := [
  ⟨"HOST_STATUS", 0x60000, [], true, [⟨0, 2, .ro⟩, ⟨2, 2, .ro⟩, ⟨4, 3, .ro⟩, ⟨7, 5, .ro⟩, ⟨12, 4, .ro⟩]⟩,
  ⟨"HOST_BAR4_WIN", 0x60010, [], true, [⟨0, 3, .rw⟩, ⟨3, 1, .rw⟩, ⟨8, 19, .rw⟩]⟩,
  ⟨"HOST_RES_CFG", 0x60100, [(8, 0x20)], true, [⟨0, 1, .rw⟩, ⟨1, 1, .rw⟩, ⟨2, 4, .rw⟩, ⟨8, 8, .rw⟩, ⟨16, 16, .rw⟩]⟩,
  ⟨"HOST_RES_ACK", 0x60104, [(8, 0x20)], true, [⟨0, 32, .wo⟩]⟩,
  ⟨"HOST_RES_SEQ", 0x60108, [(8, 0x20)], true, [⟨0, 32, .ro⟩]⟩,
  ⟨"HOST_RES_DROP", 0x6010c, [(8, 0x20)], true, [⟨0, 32, .rc⟩]⟩,
  ⟨"HOST_PUSH_LO", 0x60110, [(8, 0x20)], true, [⟨0, 32, .rw⟩]⟩,
  ⟨"HOST_PUSH_HI", 0x60114, [(8, 0x20)], true, [⟨0, 32, .rw⟩]⟩,
  ⟨"HOST_PUSH_HEAD", 0x60118, [(8, 0x20)], true, [⟨0, 32, .rw⟩]⟩,
  ⟨"HOST_RES_STATE", 0x6011c, [(8, 0x20)], true, [⟨0, 2, .ro⟩, ⟨2, 1, .ro⟩, ⟨16, 16, .ro⟩]⟩,
  ⟨"HOST_SQ_LO", 0x60400, [(4, 0x20)], true, [⟨0, 32, .rwl⟩]⟩,
  ⟨"HOST_SQ_HI", 0x60404, [(4, 0x20)], true, [⟨0, 32, .rwl⟩]⟩,
  ⟨"HOST_CQ_LO", 0x60408, [(4, 0x20)], true, [⟨0, 32, .rwl⟩]⟩,
  ⟨"HOST_CQ_HI", 0x6040c, [(4, 0x20)], true, [⟨0, 32, .rwl⟩]⟩,
  ⟨"HOST_SQ_CFG", 0x60410, [(4, 0x20)], true, [⟨0, 4, .rwl⟩, ⟨4, 3, .rwl⟩, ⟨8, 1, .rw⟩]⟩,
  ⟨"HOST_SQ_TAIL", 0x60414, [(4, 0x20)], true, [⟨0, 32, .rw⟩]⟩,
  ⟨"HOST_SQ_HEAD", 0x60418, [(4, 0x20)], true, [⟨0, 32, .ro⟩]⟩,
  ⟨"HOST_SQ_STATE", 0x6041c, [(4, 0x20)], true, [⟨0, 16, .ro⟩, ⟨16, 1, .ro⟩]⟩,
  ⟨"HOST_MBOX_POST", 0x60600, [(8, 0x4)], true, [⟨0, 32, .wo⟩]⟩,
  ⟨"HOST_MBOX_DONE", 0x60620, [(8, 0x4)], true, [⟨0, 32, .ro⟩]⟩]

/-- The registers of block SAFE, in the order of its tables. -/
def rowsSAFE : List RegRow := [
  ⟨"SAFE_STATUS", 0x120000, [], false, [⟨0, 2, .ro⟩, ⟨2, 1, .ro⟩, ⟨3, 1, .ro⟩, ⟨4, 1, .ro⟩, ⟨5, 1, .ro⟩]⟩,
  ⟨"SAFE_CAUSE", 0x120004, [], false, [⟨0, 16, .ro⟩, ⟨16, 16, .ro⟩]⟩,
  ⟨"SAFE_CMD", 0x120008, [], false, [⟨0, 4, .wo⟩]⟩,
  ⟨"SAFE_CMD_STATUS", 0x12000c, [], true, [⟨0, 16, .ro⟩, ⟨16, 8, .ro⟩]⟩,
  ⟨"SAFE_IO", 0x120010, [], false, [⟨0, 4, .ro⟩, ⟨4, 4, .ro⟩, ⟨8, 2, .ro⟩, ⟨10, 2, .ro⟩, ⟨12, 2, .ro⟩]⟩,
  ⟨"SAFE_MSG", 0x120014, [], false, [⟨0, 32, .ro⟩]⟩,
  ⟨"SAFE_DTI", 0x120018, [], false, [⟨0, 10, .ro⟩]⟩,
  ⟨"SAFE_JUDGE_PASS", 0x120100, [(8, 0x10)], false, [⟨0, 32, .rc⟩]⟩,
  ⟨"SAFE_JUDGE_FAIL", 0x120104, [(8, 0x10)], false, [⟨0, 16, .rc⟩, ⟨16, 4, .ro⟩]⟩,
  ⟨"SAFE_JUDGE_SEQ", 0x120108, [(8, 0x10)], false, [⟨0, 32, .ro⟩]⟩,
  ⟨"SAFE_WDOG", 0x120200, [(64, 0x4)], false, [⟨0, 16, .rc⟩, ⟨16, 1, .ro⟩, ⟨17, 1, .ro⟩]⟩,
  ⟨"SAFE_CTX", 0x120300, [(64, 0x4)], false, [⟨0, 2, .ro⟩, ⟨2, 1, .ro⟩, ⟨8, 8, .ro⟩, ⟨16, 16, .rc⟩]⟩,
  ⟨"SAFE_TEST", 0x120400, [(9, 0x4)], false, [⟨0, 16, .rc⟩, ⟨16, 1, .ro⟩, ⟨17, 1, .ro⟩, ⟨20, 12, .ro⟩]⟩]

/-- The registers of block INTEG, in the order of its tables. -/
def rowsINTEG : List RegRow := [
  ⟨"INTEG_STATUS", 0x130000, [], false, [⟨0, 2, .ro⟩, ⟨2, 2, .ro⟩, ⟨4, 1, .ro⟩]⟩,
  ⟨"INTEG_CMD", 0x130004, [], false, [⟨0, 4, .wo⟩, ⟨4, 2, .wo⟩, ⟨8, 8, .wo⟩]⟩,
  ⟨"INTEG_CMD_STATUS", 0x130008, [], true, [⟨0, 16, .ro⟩, ⟨16, 8, .ro⟩]⟩,
  ⟨"INTEG_TRACE_LO", 0x130010, [], true, [⟨0, 32, .rwl⟩]⟩,
  ⟨"INTEG_TRACE_HI", 0x130014, [], true, [⟨0, 32, .rwl⟩]⟩,
  ⟨"INTEG_TRACE_SIZE", 0x130018, [], true, [⟨0, 5, .rwl⟩]⟩,
  ⟨"INTEG_TRACE_HEAD", 0x13001c, [], true, [⟨0, 32, .rw⟩]⟩,
  ⟨"INTEG_TRACE_TAIL", 0x130020, [], true, [⟨0, 32, .ro⟩]⟩,
  ⟨"INTEG_TRACE_DROP", 0x130024, [], true, [⟨0, 32, .rc⟩]⟩,
  ⟨"INTEG_SCRUB_LIMIT", 0x130028, [], false, [⟨0, 24, .rw⟩]⟩,
  ⟨"INTEG_SCRUB_LAP", 0x130040, [(4, 0x8)], false, [⟨0, 32, .ro⟩]⟩,
  ⟨"INTEG_SCRUB_LAPS", 0x130044, [(4, 0x8)], false, [⟨0, 32, .ro⟩]⟩,
  ⟨"INTEG_ERR_CORR", 0x130080, [(4, 0x10)], false, [⟨0, 32, .rc⟩]⟩,
  ⟨"INTEG_ERR_UNCORR", 0x130084, [(4, 0x10)], false, [⟨0, 32, .rc⟩]⟩,
  ⟨"INTEG_ERR_RETRY", 0x130088, [(4, 0x10)], false, [⟨0, 16, .rc⟩, ⟨16, 16, .rc⟩]⟩,
  ⟨"INTEG_HBM", 0x1300c0, [], false, [⟨0, 13, .ro⟩, ⟨16, 11, .ro⟩]⟩,
  ⟨"INTEG_CAP_LOC", 0x130100, [], false, [⟨0, 2, .ro⟩, ⟨2, 6, .ro⟩, ⟨8, 5, .ro⟩, ⟨13, 1, .ro⟩]⟩,
  ⟨"INTEG_CAP_ADDR", 0x130104, [], false, [⟨0, 32, .ro⟩]⟩,
  ⟨"INTEG_CAP_CRC", 0x130108, [], false, [⟨0, 32, .ro⟩]⟩,
  ⟨"INTEG_CAP_DATA", 0x130110, [(16, 0x4)], false, [⟨0, 32, .ro⟩]⟩,
  ⟨"INTEG_CAP_CHECK", 0x130150, [(8, 0x4)], false, [⟨0, 32, .ro⟩]⟩,
  ⟨"INTEG_RECOMP", 0x130200, [(8, 0x10)], false, [⟨0, 2, .ro⟩, ⟨2, 1, .ro⟩]⟩,
  ⟨"INTEG_RECOMP_LEGS", 0x130204, [(8, 0x10)], false, [⟨0, 32, .rc⟩]⟩,
  ⟨"INTEG_RECOMP_FAULT", 0x130208, [(8, 0x10)], false, [⟨0, 16, .rc⟩, ⟨16, 16, .rc⟩]⟩,
  ⟨"INTEG_SEAM", 0x130300, [(4, 0x10)], false, [⟨0, 32, .rc⟩]⟩,
  ⟨"INTEG_SEAM_FAULT", 0x130304, [(4, 0x10)], false, [⟨0, 16, .rc⟩, ⟨16, 16, .rc⟩]⟩,
  ⟨"INTEG_TRIP_STATUS", 0x130400, [], false, [⟨0, 16, .rc⟩, ⟨16, 16, .rc⟩]⟩,
  ⟨"INTEG_TRIP", 0x131000, [(256, 0x4)], false, [⟨0, 32, .ro⟩]⟩,
  ⟨"INTEG_TRIP_COPY", 0x131400, [(3, 0x400), (256, 0x4)], false, [⟨0, 32, .ro⟩]⟩]

/-- The registers of block WAYM, in the order of its tables. -/
def rowsWAYM : List RegRow := [
  ⟨"WAYM_STATUS", 0x140000, [], false, [⟨0, 1, .ro⟩, ⟨1, 2, .ro⟩, ⟨3, 1, .ro⟩, ⟨4, 1, .ro⟩, ⟨5, 11, .ro⟩]⟩,
  ⟨"WAYM_HEAD_SEQ", 0x140004, [], false, [⟨0, 32, .ro⟩]⟩,
  ⟨"WAYM_OLDEST_SEQ", 0x140008, [], false, [⟨0, 32, .ro⟩]⟩,
  ⟨"WAYM_CMD", 0x14000c, [], false, [⟨0, 4, .wo⟩]⟩,
  ⟨"WAYM_CMD_STATUS", 0x140010, [], true, [⟨0, 16, .ro⟩, ⟨16, 8, .ro⟩]⟩,
  ⟨"WAYM_READ_SEQ", 0x140014, [], true, [⟨0, 32, .rw⟩]⟩,
  ⟨"WAYM_READ_STATE", 0x140018, [], true, [⟨0, 2, .ro⟩]⟩,
  ⟨"WAYM_READ_DATA", 0x140020, [(8, 0x4)], true, [⟨0, 32, .ro⟩]⟩,
  ⟨"WAYM_DROPPED", 0x140040, [], false, [⟨0, 32, .rc⟩]⟩,
  ⟨"WAYM_SUPPRESSED", 0x140044, [], false, [⟨0, 32, .rc⟩]⟩,
  ⟨"WAYM_BUDGET", 0x140048, [], false, [⟨0, 17, .ro⟩]⟩,
  ⟨"WAYM_IRQ", 0x14004c, [], true, [⟨0, 2, .rw⟩, ⟨2, 1, .rw⟩]⟩,
  ⟨"WAYM_FROZEN_AT", 0x140050, [], false, [⟨0, 32, .ro⟩]⟩,
  ⟨"WAYM_WEAR", 0x140054, [], false, [⟨0, 17, .ro⟩]⟩]

/-- The registers of block PERF, in the order of its tables. -/
def rowsPERF : List RegRow := [
  ⟨"PERF_STATUS", 0x150000, [], false, [⟨0, 1, .ro⟩, ⟨1, 1, .ro⟩, ⟨2, 1, .ro⟩, ⟨3, 1, .ro⟩]⟩,
  ⟨"PERF_CMD", 0x150004, [], false, [⟨0, 4, .wo⟩]⟩,
  ⟨"PERF_CMD_STATUS", 0x150008, [], true, [⟨0, 16, .ro⟩]⟩,
  ⟨"PERF_SNAP_PERIOD", 0x15000c, [], false, [⟨0, 32, .ro⟩]⟩,
  ⟨"PERF_TAG_CFG", 0x150010, [], false, [⟨0, 5, .rw⟩, ⟨8, 8, .rw⟩]⟩,
  ⟨"PERF_TICK_LO", 0x151000, [(40, 0x100)], false, [⟨0, 32, .ro⟩]⟩,
  ⟨"PERF_TICK_HI", 0x151004, [(40, 0x100)], false, [⟨0, 32, .ro⟩]⟩,
  ⟨"PERF_COUNT_LO", 0x151008, [(40, 0x100), (8, 0x8)], false, [⟨0, 32, .ro⟩]⟩,
  ⟨"PERF_COUNT_HI", 0x15100c, [(40, 0x100), (8, 0x8)], false, [⟨0, 16, .ro⟩]⟩,
  ⟨"PERF_EVENT", 0x151048, [(40, 0x100), (8, 0x4)], false, [⟨0, 8, .rw⟩, ⟨8, 8, .rw⟩]⟩,
  ⟨"PERF_SNAP_TICK_LO", 0x151080, [(40, 0x100)], false, [⟨0, 32, .ro⟩]⟩,
  ⟨"PERF_SNAP_TICK_HI", 0x151084, [(40, 0x100)], false, [⟨0, 32, .ro⟩]⟩,
  ⟨"PERF_SNAP_LO", 0x151088, [(40, 0x100), (8, 0x8)], false, [⟨0, 32, .ro⟩]⟩,
  ⟨"PERF_SNAP_HI", 0x15108c, [(40, 0x100), (8, 0x8)], false, [⟨0, 16, .ro⟩]⟩,
  ⟨"PERF_TAG_COUNT", 0x1510c8, [(40, 0x100)], false, [⟨0, 16, .rc⟩, ⟨16, 16, .rc⟩]⟩,
  ⟨"PERF_BW_CFG", 0x158000, [(4, 0x20)], false, [⟨0, 10, .rw⟩]⟩,
  ⟨"PERF_BW_IN", 0x158004, [(4, 0x20)], false, [⟨0, 32, .ro⟩]⟩,
  ⟨"PERF_BW_OUT", 0x158008, [(4, 0x20)], false, [⟨0, 32, .ro⟩]⟩,
  ⟨"PERF_BW_PEAK_IN", 0x15800c, [(4, 0x20)], false, [⟨0, 32, .rc⟩]⟩,
  ⟨"PERF_BW_PEAK_OUT", 0x158010, [(4, 0x20)], false, [⟨0, 32, .rc⟩]⟩,
  ⟨"PERF_TAG_A", 0x154000, [(40, 0x100), (16, 0x10)], false, [⟨0, 15, .ro⟩, ⟨16, 4, .ro⟩, ⟨20, 8, .ro⟩, ⟨28, 3, .ro⟩, ⟨31, 1, .ro⟩]⟩,
  ⟨"PERF_TAG_B", 0x154004, [(40, 0x100), (16, 0x10)], false, [⟨0, 24, .ro⟩, ⟨24, 8, .ro⟩]⟩,
  ⟨"PERF_TAG_C", 0x154008, [(40, 0x100), (16, 0x10)], false, [⟨0, 24, .ro⟩, ⟨24, 4, .ro⟩]⟩,
  ⟨"PERF_TAG_D", 0x15400c, [(40, 0x100), (16, 0x10)], false, [⟨0, 24, .ro⟩, ⟨24, 8, .ro⟩]⟩]

/-- The registers whose Reset column is not zero: first key, how many, stride, reset word. -/
def resetWords : List (Nat × Nat × Nat × Nat) := [
  (0x100a0, 1, 0x4, 0xf0000000),
  (0x30000, 1, 0x4, 0x3e83e8),
  (0x30004, 1, 0x4, 0x64),
  (0x30014, 1, 0x4, 0x3c7d03e8),
  (0x30018, 1, 0x4, 0x3da928a),
  (0x200000, 40, 0x10000, 0x1f800),
  (0xd0110, 8, 0x20, 0x1),
  (0xd0114, 8, 0x20, 0x1),
  (0x4100c, 256, 0x20, 0xffff),
  (0x81028, 32, 0x100, 0x2),
  (0xa1020, 64, 0x100, 0xffffffff),
  (0xc0120, 8, 0x40, 0x9c40064),
  (0x100018, 1, 0x4, 0x3e8),
  (0x10001c, 1, 0x4, 0xa),
  (0x120018, 1, 0x4, 0x64),
  (0x130028, 1, 0x4, 0xe10),
  (0x140048, 1, 0x4, 0x186a0),
  (0x414004c, 1, 0x4, 0x2),
  (0x814004c, 1, 0x4, 0x2),
  (0xc14004c, 1, 0x4, 0x2),
  (0x1014004c, 1, 0x4, 0x2),
  (0x150010, 1, 0x4, 0x10),
  (0x158000, 4, 0x20, 0x3e8)]

/-- The reset word of the register at `key`: the Reset columns of the spec's tables (R442). -/
def regReset (key : Nat) : BitVec 32 :=
  match resetWords.find? (fun r => r.1 ≤ key && (key - r.1) % r.2.2.1 == 0 && (key - r.1) / r.2.2.1 < r.2.1) with
  | some r => BitVec.ofNat 32 r.2.2.2
  | none => 0

end Sys2Proof.Machine
end

