-- ==== Sys2Proof/Machine/Tab.lean ====
section
/-! DEFINITION. Sparse tables: a list of (key, value) pairs with strictly rising keys.  The register file, the byte memory
and the indexed groups of the State are tables of this one kind, so that equal contents are equal data. -/

namespace Sys2Proof.Machine

/-- A sparse table: keys strictly rising, each with its value. -/
abbrev Tab (α : Type) := List (Nat × α)

/-- The value listed at key `i`, if any. -/
def tfind {α : Type} : Tab α → Nat → Option α
  | [], _ => none
  | (k, v) :: t, i => if i = k then some v else tfind t i

/-- The value at key `i`, where an unlisted key reads as `d`. -/
def tget {α : Type} (d : α) (t : Tab α) (i : Nat) : α := (tfind t i).getD d

/-- The table with `v` listed at key `i`. -/
def tput {α : Type} : Tab α → Nat → α → Tab α
  | [], i, v => [(i, v)]
  | (k, w) :: t, i, v =>
    if i = k then (i, v) :: t else if i < k then (i, v) :: (k, w) :: t else (k, w) :: tput t i v

/-- The table with nothing listed at key `i`. -/
def tdel {α : Type} (t : Tab α) (i : Nat) : Tab α := t.filter (fun e => e.1 != i)

/-- Set key `i` to `v` in a table whose unlisted keys read as `d`: the entry is removed where `v` is that value. -/
def tset {α : Type} [DecidableEq α] (d : α) (t : Tab α) (i : Nat) (v : α) : Tab α :=
  if v = d then tdel t i else tput t i v

/-- Every key of the table is above `lo`, the keys rise strictly, and no listed value is the unlisted one. -/
def tabWfFrom {α : Type} [DecidableEq α] (d : Nat → α) : Option Nat → Tab α → Bool
  | _, [] => true
  | lo, (k, v) :: t =>
    (match lo with | none => true | some l => decide (l < k)) && decide (v ≠ d k) && tabWfFrom d (some k) t

/-- The canonical form of a table whose unlisted key `k` reads as `d k`. -/
def tabWf {α : Type} [DecidableEq α] (d : Nat → α) (t : Tab α) : Bool := tabWfFrom d none t

/-- The entry of an association list with any key type: the first one listed. -/
def afind {κ α : Type} [DecidableEq κ] : List (κ × α) → κ → Option α
  | [], _ => none
  | (k, v) :: t, i => if i = k then some v else afind t i

/-- Replace the entry at `i`, or add it at the end. -/
def aput {κ α : Type} [DecidableEq κ] : List (κ × α) → κ → α → List (κ × α)
  | [], i, v => [(i, v)]
  | (k, w) :: t, i, v => if i = k then (i, v) :: t else (k, w) :: aput t i v

/-- Remove the entry at `i`. -/
def adel {κ α : Type} [DecidableEq κ] : List (κ × α) → κ → List (κ × α)
  | [], _ => []
  | (k, w) :: t, i => if i = k then t else (k, w) :: adel t i

/-- The first `n` numbers from 0: the index list over which the meanings fold. -/
def upTo (n : Nat) : List Nat := List.range n

end Sys2Proof.Machine
end

