-- ==== Sys2Proof/Machine/State.lean ====
section
/-! DEFINITION. The state of the block as plain data, the reasons a step could stop, and the state at reset.  The BAR0
registers stand in ONE register file, `regs`, keyed as RegMap.lean says; what the spec gives the machine beside its
registers stands in one structure per block. -/

namespace Sys2Proof.Machine

/-- The image in force: each section that runs, a partition's old programs and tables while R62 holds them, keyed partition + 8 × generation, and the image
content of the flash slots. -/
structure Running where
  structureSec : StructureSec
  pace : PaceSec
  safety : SafetySec
  tables : TablesSec
  partTables : Tab PartTables
  programs : Tab ProgramSec
  oldPrograms : Tab ProgramSec
  oldTables : Tab PartTables
  digest : BitVec 512
  deriving DecidableEq, Repr

/-- A partition that no structure defines. -/
def noPart : PartCfg :=
  { defined := false, cores := 0, quota := 0, bandwidth := 0, criticality := 0, port := 0, windows := [] }

/-- A lane that no structure enables. -/
def noLane : LaneCfg := { enabled := false, rate := 0, refMode := 0, channel := 0, sensors := 0 }

/-- A context that no structure defines. -/
def noCtx : CtxCfg := { defined := false, lane := 0, stream := 0, kind := 0, part := 0 }

/-- A channel in mode OFF. -/
def noChan : ChanCfg :=
  { mode := 0, decode := 0, reverse := false, filter := 0, framing := 0, indexCheck := false, interval := 0
    standstill := 20000000, window := 20000, vHi := 20000, vLo := 10000 }

/-- A framing table with the default limit of consecutive bad samples (R308). -/
def noFraming : FramingCfg :=
  { clock100k := 0, monoflopUs := 0, gray := false, fields := [], cpr := 0, tolerance := 0, maxStep := 0, badLimit := 3 }

/-- A divider without a source. -/
def noDivider : DividerCfg :=
  { source := 0, channel := 0, pulse := false, width := 0, ratio := 0, lanes := 0, streams := 0 }

/-- A field input as it is without TABLES. -/
def noFieldIn : FieldInCfg := { ty := 0, filterUs := 0, capture := 0, edge := 0 }

/-- The factory structure (R69): a 4 x 4 split, the islands of [107:72] and [125:121], no lanes, contexts or partitions;
every port OBSERVER until one proves the owner credential. -/
def factoryStructure : StructureSec :=
  { split := 0, roles := [2, 2, 2, 2], islands := (2 ^ 108 - 2 ^ 72) + (2 ^ 126 - 2 ^ 121), lanes := [], contexts := []
    parts := [], upkeep := 0, masterCapable := false, tcMode := 0, domain := 0, p2p := false, priority1 := 128
    priority2 := 128, logSync := -4, logAnnounce := 1, nodeId := 0, digest := 0 }

/-- The pace table at the Reset columns of Table PACE-6 and the default milestone interval (R333). -/
def factoryPace : PaceSec :=
  { ratedPace := 1000, paceCeiling := 2000, guard := 60, paceStep := 10, vStep := 10, vCeiling := 850, horizon := 30
    vStart := none, periodUs := 100, free := 0, milestoneNs := 1000, digest := 0 }

/-- The SAFETY section at the defaults of Table SAFE-10, with nothing declared. -/
def factorySafety : SafetySec :=
  { dtiMs := 100, overdueSafe := true, goldens := [], goldenLimit := 2, watchdogs := [], checkSets := []
    frozenFrames := 4, recoveryS := 60
    inputs := [{ function := 2, pulses := true, filterUs := 200, discrepancyMs := 50 },
               { function := 2, pulses := true, filterUs := 200, discrepancyMs := 50 }]
    outputs := [{ manual := true, resetInput := none, testMs := 1000, pulseUs := 300 },
                { manual := true, resetInput := none, testMs := 1000, pulseUs := 300 }]
    resetByInput := none, msgPorts := 1, destMac := 0, heartbeatUs := 1000, key := 0, digest := 0 }

/-- Module TABLES with nothing declared. -/
def factoryTables : TablesSec :=
  { funcVersion := 0, functions := [], channels := [], framings := [], dividers := [], inputs := []
    position := 0, peers := [], seams := [], digest := 0 }

/-- The running image of the factory structure. -/
def Running.factory : Running :=
  { structureSec := factoryStructure, pace := factoryPace, safety := factorySafety, tables := factoryTables
    partTables := [], programs := [], oldPrograms := [], oldTables := [], digest := 0 }
/-- The ordering variant of the module (R2): a property of the board, not a register. -/
inductive Variant where
  | f9640
  | v9640
  | f9620
  deriving DecidableEq, Repr

/-- The board beside its registers (R27, R31, R35, R40, R41): shorted encoder supply pins (2 x channel, + 1 for 24 V), the
derating request in ps (0 = none) and the change of it that waits for a period boundary, whether its condition holds, the
compute dies off after THERMAL_SHUTDOWN or kept off by a failed self-test, whether it is a THERMAL_SHUTDOWN, an open console session with the slot it has loaded; and
what FIELD-PWR and the L+ of each output group read in 10 mV where they lie below 19.2 V, which holds with or without the 48 V supply
(R35). -/
structure Board where
  encShort : List Nat
  derateReq : Nat
  derateNew : Option Nat
  derateHolds : Bool
  diesOff : Bool
  overheated : Bool
  console : Option (Option Nat)
  fieldLow : Option Nat
  groupsLow : Tab Nat
  deriving DecidableEq, Repr
/-- A section that is armed for live landing (R60, R61): its target partition, or 8 for SAFETY, the period in which it
lands, what lands, the build and overlay slot of a PARTIAL, and whether the build of that period has taken it in. -/
structure Armed where
  target : Nat
  land : Nat
  program : Option ProgramSec
  tables : Option PartTables
  safety : Option SafetySec
  build : Nat
  slot : Nat
  partial_ : Bool
  taken : Bool
  deriving DecidableEq, Repr

/-- The load session and the images beside ZLD_STATUS: the image being fetched or verified with the slot that receives
it, the armed sections, and the period in which a landing left each old generation behind, keyed as its old program (R62). -/
structure Zld where
  image : Option ImageFile
  armed : List Armed
  oldSince : Tab Nat
  deriving DecidableEq, Repr
/-- The owner record (R84): the digest of the owner public key, and the image-signer key digests. -/
structure OwnerRec where
  key : BitVec 512
  signers : List (BitVec 512)
  deriving DecidableEq, Repr

/-- The slack baseline (R104, Table KEEP-1): corrected slack by core, of those that have been measured, and per die v_start in mV, the slack gain in ps per
v_step and the temperature coefficient in 0.1 ps per °C. -/
structure Baseline where
  slack : Tab Int
  vStart : List Nat
  gain : List Nat
  tempCo : List Int
  deriving DecidableEq, Repr

/-- The keep store (Table KEEP-1): the copy in force of each record. Boot record: firmware slot, TRIAL mark, try count.
Commit record: FULL slot and digest, overlay slot and digest per partition. Counters, ratchets (Table KEEP-2; the epoch
ratchet is 1,023 − epoch), owner, baseline, safety lock. -/
structure Keep where
  fwSlot : Nat
  fwTrial : Bool
  fwTries : Nat
  full : Option (Nat × BitVec 512)
  overlays : Tab (Nat × BitVec 512)
  cycles : Nat
  seconds : Nat
  ownerLeft : Nat
  epoch : Nat
  safetyLeft : Nat
  upkeepLeft : Nat
  owner : Option OwnerRec
  baseline : Option Baseline
  lock : Bool
  deriving DecidableEq, Repr

/-- A hub firmware image in flash: whether it verifies (R75), and its digest. -/
structure Firmware where
  ok : Bool
  digest : BitVec 512
  deriving DecidableEq, Repr

/-- One record of the slack log (R104): a byte per core, die voltages, operating seconds and power cycles. -/
structure SlackRec where
  cores : List (BitVec 8)
  volts : List Nat
  seconds : Nat
  cycles : Nat
  deriving DecidableEq, Repr

/-- The flash beside the event ring: hub firmware slots, FULL slots A and B, overlay slots (2 × partition + slot), the
slack log newest first. -/
structure Flash where
  fw : Tab Firmware
  full : Tab ImageFile
  overlays : Tab ImageFile
  slack : List SlackRec
  deriving DecidableEq, Repr

/-- One of the two copies of the keep store (R80): its records, the sequence number of each, by record, and the records whose CRC-32 does
not fit, of which a write was cut. -/
structure KeepCopy where
  content : Keep
  seq : Tab Nat
  bad : List Nat
  deriving DecidableEq, Repr

/-- Start-up and identity beside the registers: the two copies of each keep record (R80), `trainFailed` the links that have written
BOOT_TRAINING_FAIL and `pcieUp` and `hbmUp` those that trained, whether the boot ROM has cleared the PUF region (R77, R83), `proven` the
ports with a valid owner proof, challenges and DOE responses by port, how long the start-up took in ms when the links began to train. -/
structure Boot where
  copyA : KeepCopy
  copyB : KeepCopy
  pufClear : Bool
  pcieUp : Nat
  hbmUp : Bool
  trainFailed : List (Nat × Nat)
  proven : List Nat
  challenge : Tab (BitVec 256)
  doe : Tab (List Byte)
  fwDigest : BitVec 512
  startMs : Nat
  deriving DecidableEq, Repr

/-- The keep store as delivered: unclaimed, every ratchet full, firmware in slot A, no image (R10, Table KEEP-2). -/
def Keep.delivered : Keep :=
  { fwSlot := 0, fwTrial := false, fwTries := 0, full := none, overlays := [], cycles := 0, seconds := 0, ownerLeft := 8
    epoch := 0, safetyLeft := 32, upkeepLeft := 64, owner := none, baseline := none, lock := false }

/-- A copy of the keep store as delivered. -/
def KeepCopy.delivered : KeepCopy := { content := Keep.delivered, seq := [], bad := [] }
/-- The ageing planner and the hub firmware handover beside the PACE registers (R103 to R112): raises that wait for a
boundary per die, ticks below guard in the last window by core, the least corrected slack of each core since the last record of the slack
log, the operating second of the last SLACK_LOW by core (40 = the hub), the port of the open window, a window whose first boundary has
not come, the samples at which the window opened and the standby began, the port of the handover, the planned pace that the next start
begins with (R107, R108; 0 = none), and the slip of each core since the boundary (R100). -/
structure PaceSt where
  raises : List Nat
  below : Tab Nat
  hourLeast : Tab Int
  lowAt : Tab Nat
  windowPort : Nat
  windowFresh : Bool
  windowAt : Nat
  standbyAt : Nat
  portHand : Nat
  kept : Nat
  slips : Tab Nat
  deriving DecidableEq, Repr

/-- The core map beside the CORE registers (R122 to R132): the fence list in flash with its older copy and the number of its writes, cores to leave it at the next restart,
detours that wait (failed core, spare, landing period; spare 254 = not yet chosen, 255 = none, the logical core becomes LOST), detours landed
since manufacture by cluster, corrections, uncorrectable lines and recompute counts by core with their operating seconds,
when a spare last passed a test leg, failures of stripe banks (8 × cluster + bank) and line-store banks (64 + bank), failed edge engines, walkers and post
engines, and for each core that runs a sheet the period of that sheet and the ticks of it that earlier periods ran, less those that the present
one ran before it (R102, Table CORE-6). -/
structure CoreMapSt where
  fence : List Nat
  fenceOld : List Nat
  fenceSeq : Nat
  fenceClear : List Nat
  due : List (Nat × Nat × Nat)
  everDetours : Tab Nat
  corr : Tab (List Nat)
  uncorr : Tab (List Nat)
  recomp : Tab (List Nat)
  spareTest : Tab Nat
  banks : Tab (List Nat)
  edgeFailed : List Nat
  walkFailed : List Nat
  postFailed : List Nat
  sheetAt : Tab (Nat × Int)
  deriving DecidableEq, Repr

/-- An accumulator cell (R140, R147): S in carry width, or an FP32 code, and its flags. -/
structure AccCell where
  s : Int
  fp : Nat
  breach : Bool
  nonfinite : Bool
  coarse : Bool
  deriving DecidableEq, Repr

/-- A tile of B in the matrix engine (R139): its format, K, and its element codes and MX scales, row by row. -/
structure Tile where
  fmt : Nat
  k : Nat
  elems : List Nat
  scales : List Nat
  deriving DecidableEq, Repr

/-- A fixed-tick call in flight (R189, R193, R217, R398): kind 1 EDGE, 2 POST, 3 WALK, 4 IRREG, 5 CHECK; the tokens it
fires and the bytes it writes when it completes; the codes it writes then, each with its parameters after partition and leg;
the causes that its flags give under the leg's breach policy, each with the code that counts the samples, and the batch
slots they touch (none: every sample); the leg that issued it; its ticks, and the time in ps at which they have elapsed at the pace in force; the digest it computed, and whether it compared
unequal digests of a recomputed leg; and the engine that runs it, the cluster or die of an edge, walk or post call. -/
structure Call where
  kind : Nat
  unit : Nat
  op : Nat
  signal : Nat
  writes : List (Nat × List Byte)
  codes : List (Nat × List Nat)
  causes : List (Nat × Nat)
  slots : Option (List Nat)
  leg : Option Nat
  ticks : Nat
  endAt : Nat
  digest : Option (BitVec 256)
  unequal : Bool
  deriving DecidableEq, Repr

/-- A loop that a core runs (R158): the offset of its first word, its words, the trips left with the present one, and the words of its
body that this trip has issued. -/
structure LoopRun where
  first : Nat
  body : Nat
  left : Nat
  words : List Issue
  deriving DecidableEq, Repr

/-- One physical core (R115, R140, R155, R158, R168): matrix engine, ACC bank rows (keyed by row: anchor and FP32 mode; cells
keyed 512 × row + column), the biases (format, code) and column scales loaded, scalar registers (64 × unit + register), loops
running, the innermost first, local tokens signalled, the tokens and the leg of a WAITT that waits, calls in flight, and what
transfers of running legs brought into core SRAM (leg, destination, source, bytes), and the words that wait to issue, each with its leg
(R156). -/
structure CoreExec where
  active : Option Tile
  standby : Option Tile
  cells : Tab AccCell
  rows : Tab (Int × Bool)
  bias : List (Nat × Nat)
  scale : List Nat
  sregs : Tab Nat
  loops : List LoopRun
  tokens : Nat
  waiting : Option (Nat × Option Nat)
  calls : List Call
  fetched : List (Nat × Nat × Nat × Nat)
  held : List (Issue × Option Nat)
  deriving DecidableEq, Repr

/-- An engine slot of a sheet (Table ROUTE-8): kind, serving cluster or die, first tick and end in the period, the logical core that holds
it (R185), and the job. -/
structure EngSlot where
  kind : Nat
  unit : Nat
  start : Nat
  stop : Nat
  core : Nat
  job : Nat
  deriving DecidableEq, Repr

/-- A transfer slot of a sheet (R119, Table ROUTE-8): the logical core and the number of its TRANSFER word in the leg, the path (0 die
network, 1 die-to-die, 2 hub, 3 HBM), the link it belongs to, and its ticks in the period, so that the frame is `start / 256` and the slot
in the frame `start % 256`. -/
structure NetSlot where
  core : Nat
  word : Nat
  path : Nat
  link : Nat
  start : Nat
  stop : Nat
  deriving DecidableEq, Repr

/-- A leg in a route sheet (Tables ROUTE-1, ROUTE-8): `copy` 0 the leg itself, 1 its recomputation, 2 the tie-break (R402,
R403); `gen` the generation of its program; `cores` its logical cores and `done` those that have completed it; its KV
snapshot; replays taken (R390); integer divisions by zero; the codes it has written once; calls issued (R409); the
generations taken and posted since it began, by logical core and verge slot (R168, R172); its engine and transfer slots; whether a word with the variable mark has run in it (R159); the first
generation that each verge token of its cores handles in the period (Table ROUTE-7); and the SHA3-256 of its last CHECK call, which is that of its
outputs once its trace call has run (R409). -/
structure LegRun where
  id : Nat
  part : Nat
  job : Nat
  iter : Nat
  leg : Nat
  copy : Nat
  gen : Nat
  period : Nat
  start : Nat
  span : Nat
  cores : List Nat
  done : List Nat
  snapshot : Option Nat
  replays : Nat
  divZero : Nat
  codes : List Nat
  replayAt : Option Nat
  callNo : Nat
  verges : List (Nat × Nat × Nat × Nat)
  eng : List EngSlot
  net : List NetSlot
  marked : Bool
  firstGen : List (Nat × Nat × Nat)
  digest : Option (BitVec 256)
  deriving DecidableEq, Repr

/-- A batch slot of a step (Table KV-6): sequence, past length, new tokens, query rows, voided. -/
structure BatchSlot where
  seq : Nat
  past : Nat
  fresh : Nat
  rows : Nat
  offset : Nat
  void_ : Bool
  deriving DecidableEq, Repr

/-- An iteration of a job (R227, R228): its number, its parts, the legs still to place, those placed (leg, copy, period,
planned end, cores) and done, the period into which its release entered with the boundary's time in ns, whether no other
leg shared a core with it, its OUTPUT result, the variant of its batched legs, whether a word with the variable mark has run in a leg of it (R159), and
for an ingest batch the address of its slot records and their number (R291), for a step its batch (R239), and whether its job retired before all its legs were placed (R230). -/
structure Iter where
  part : Nat
  job : Nat
  num : Nat
  gen : Nat
  tags : List Nat
  toPlace : List (Nat × Nat)
  placed : List (Nat × Nat × Nat × Nat × List Nat)
  done : List (Nat × Nat)
  entered : Option Nat
  enteredNs : Nat
  alone : Bool
  resNum : Option Nat
  variant : Nat
  input : BitVec 256
  marked : Bool
  ring : Option (Nat × Nat)
  batch : List (Option BatchSlot)
  retired : Bool
  deriving DecidableEq, Repr

/-- A job beside its registers (R229 to R244); `relAt` is the period of its latest release, `soloFrom` the period from which it measures its
baseline alone (R244), `used` the logical cores that its legs have had, as a mask (R242), `lastGen` the generation of its latest batch
step (R64), and `foldGen` the latest generation for which it has run its fold legs (R178). -/
structure Job where
  part : Nat
  template : Nat
  landing : Nat
  retireAt : Option Nat
  oldWeight : Nat
  weightFrom : Nat
  vtoll : Nat
  next : Nat
  lats : List Nat
  solos : List Nat
  soloLeft : Nat
  sinceHigh : Nat
  pages : Nat
  relAt : Nat
  soloFrom : Nat
  used : Nat
  lastGen : Nat
  foldGen : Nat
  deriving DecidableEq, Repr

/-- A cut or raise that waits for its landing (R245): kind 1 bandwidth, 2 window (number 4 × core + window), 3 a job's
weight. -/
structure Cut where
  kind : Nat
  part : Nat
  index : Nat
  a : Nat
  b : Nat
  landing : Nat
  port : Nat
  deriving DecidableEq, Repr

/-- The scheduler beside the ROUTE registers: `buildFor` is the period of the latest build begun, `built` that it is
complete; the next generation of the consumer and of the producer of each verge slot, by the slot's address (R169, R170); `deferNew` the legs
and batch slots deferred since the last boundary, by partition (Table ROUTE-5); `partGens` the generation of the program that each part runs,
by 8 × tag + partition, and whether its verdict record has come (R62); and `sheets` the bytes of the sheets built last, by logical core (R249). -/
structure RouteSt where
  jobs : Tab Job
  iters : List Iter
  buildFor : Nat
  built : Bool
  planned : List LegRun
  legs : List LegRun
  nextId : Nat
  cuts : List Cut
  gens : Tab Nat
  boundaryNs : Nat
  vergeGet : Tab Nat
  vergePut : Tab Nat
  deferNew : Tab (Nat × Nat)
  partGens : Tab (Nat × Bool)
  sheets : Tab (List Byte)
  deriving DecidableEq, Repr

/-- A sequence (Table KV-2): state 1 LIVE, 2 PREFIX, 3 LEAVING; tokens in the pages; the prefix it shares; pages reserved
and taken of the reservation; its part's tag; pending tokens; the generation at which it left. -/
structure KvSeq where
  state : Nat
  length : Nat
  prefix_ : Option Nat
  reserved : Nat
  taken : Nat
  tag : Nat
  pend : Nat
  left : Nat
  gen : Nat
  tmpl : Nat
  deriving DecidableEq, Repr

/-- A sequence that waits to join (R220): tag, prefix, pending tokens, whether KV_JOIN_WAIT and KV_OVER_QUOTA were written for it, the generation
of its program and the template whose batch it joins. -/
structure JoinWait where
  tag : Nat
  prefix_ : Option Nat
  pend : Nat
  noted : Bool
  refused : Bool
  gen : Nat
  tmpl : Nat
  deriving DecidableEq, Repr

/-- A queued page edit (Table KV-3). -/
inductive Edit where
  | join (seq : Nat) (w : JoinWait)
  | append (seq entry : Nat)
  | cow (seq entry : Nat)
  | leave (seq : Nat)
  | prefixMake (seq id : Nat)
  | prefixRetire (id : Nat) (port : Nat)
  deriving DecidableEq, Repr

/-- A batch step that a build has formed and no boundary has begun (R239, R247): its job, generation, template and iteration, its period, its
positions, the joins that it admits with the sequence identifiers they take, and the sequences that leave. -/
structure StepDraft where
  job : Nat
  gen : Nat
  tmpl : Nat
  num : Nat
  period : Nat
  slots : List (Option BatchSlot)
  joins : List (Nat × JoinWait)
  leaves : List Nat
  deriving DecidableEq, Repr

/-- A KV pool (R206 to R213): the free list, page counts, the tables of the last generations (262,144 × sequence + entry to
page), limbo pages with the generation that freed them, sequences and prefixes by identifier, join queue, sequences that leave at the next
boundary, host edits with the build that they wait for, the batch positions of the steps in force (by job + 256 × generation), sequences (by
tag) to become prefixes, and the batches of a build in progress. Of the table area (R207): the words of each chunk, the chunks never used yet
from `chunkNext` on, those returned, those that wait in limbo, the present root of each sequence's tree, and its eight root pointers. -/
structure Pool where
  base : Nat
  size : Nat
  free : List Nat
  counts : Tab Nat
  tables : List (Nat × Tab Nat)
  limbo : List (Nat × Nat)
  seqs : Tab KvSeq
  prefixes : Tab Nat
  joins : List JoinWait
  leaves : List Nat
  host : List (Edit × Nat)
  slots : Tab (List (Option BatchSlot))
  makes : List (Nat × Nat)
  drafts : List StepDraft
  chunks : Tab (Tab Nat)
  chunkNext : Nat
  chunkFree : List Nat
  chunkLimbo : List (Nat × Nat)
  roots : Tab Nat
  places : Tab (List Nat)
  deriving DecidableEq, Repr
/-- A line that a stream is sending (R263): what its LINE_START said, the next PIXELS index, and the bytes so far. `bad`:
its stamp or number failed the trigger record (violation 0x08). -/
structure OpenLine where
  seq : Nat
  stamp : Nat
  pixels : Nat
  format : Nat
  freeRun : Bool
  resend : Bool
  index : Nat
  data : List Byte
  bad : Bool
  deriving DecidableEq, Repr

/-- One entry of a stream's trigger record (R264): number, count, and the time of the trigger in 5 ns samples. -/
structure Trig where
  number : Nat
  count : Nat
  at_ : Nat
  deriving DecidableEq, Repr

/-- A stream of a lane beside LANE_STREAM (R263 to R268): the open line, the line whose rest is a stale resend, NAKs sent
for the line with the cause of the last, the first line missing since the stream expects any number and the cause to
report for it, whether that is since a RESYNC (R267), the trigger record newest first, and the triggers that the head NAKed. -/
structure Stream where
  line : Option OpenLine
  stale : Option Nat
  naks : Nat
  nakCause : Nat
  lostFrom : Option Nat
  lostCause : Nat
  resynced : Bool
  trigs : List Trig
  missed : List Nat
  deriving DecidableEq, Repr

/-- A camera lane beside its registers: the retry time in ms, a RETRAIN that waits for open lines, training words received
and how many identical ones in a row, transmit equalisation in use, the loop or pattern of TEST, recent head RESYNCs, the
last UNKNOWN_STREAM answer, the last RESPONSE (tag, status, value). -/
structure Lane where
  retryMs : Nat
  retrainWait : Bool
  lastWord : BitVec 256
  words : Nat
  eqPre : Nat
  eqPost : Nat
  test : Option (Nat × Nat)
  resyncs : List Nat
  unknownAt : Option Nat
  response : Option (Nat × Nat × Nat)
  deriving DecidableEq, Repr

/-- The camera lanes; `streams` is keyed 8 × lane + stream, `out` holds the back-channel packets sent, by lane. -/
structure Lanes where
  lanes : Tab Lane
  streams : Tab Stream
  out : List (Nat × List Byte)
  deriving DecidableEq, Repr
/-- A line as the lane hands it on (R263), `code` the cause of a LOST line (R17), `at_` the sample at which it was accepted, `local_` the local clock then in ns, `trigAt`
that of its trigger, `waited` that it stood in the lay-by buffer for a golden slot (R284). -/
structure LineIn where
  ctx : Nat
  seq : Nat
  stamp : Nat
  pixels : Nat
  format : Nat
  data : List Byte
  headStatus : Nat
  lost : Bool
  short : Bool
  long : Bool
  code : Nat
  at_ : Nat
  local_ : Nat
  trigAt : Option Nat
  waited : Bool
  deriving DecidableEq, Repr

/-- What enters a pipeline channel, in order: a line, or a FRAME_MARK of a context with its frame number and the local clock at its
acceptance in ns. -/
inductive LayItem where
  | line (l : LineIn)
  | mark (ctx frame : Nat) (opens : Bool) (local_ : Nat)
  deriving DecidableEq, Repr

/-- An output record (Table ISP-5). -/
structure OutRec where
  content : Nat
  format : Nat
  h : Nat
  v : Nat
  x0 : Nat
  cropW : Nat
  y0 : Nat
  cropH : Nat
  dest : Nat
  ring : Nat
  ringOff : Nat
  stride : Nat
  tagOff : Nat
  deriving DecidableEq, Repr

/-- A parameter set in a bank (Tables ISP-2, ISP-3). An empty `flat` or `tone` is unity; `width` 0 is the unity set's. -/
structure ParamSet where
  mask : Nat
  width : Nat
  statsOff : Nat
  statsEntries : Nat
  black : List Nat
  defects : List (Nat × Nat × Nat)
  flat : List (Nat × Nat)
  dG : Int
  dB : Int
  wb : List Nat
  matrix : List Int
  offs : List Int
  tone : List (List Nat)
  outputs : List OutRec
  frameLines : Nat
  timeoutUs : Nat
  lateUs : Nat
  lateLost : Bool
  bytes : Nat
  digest : BitVec 256
  deriving DecidableEq, Repr

/-- A line after step 3 (Table ISP-4), with its line count or area row, its frame and its tag: one plane, or three for
TRILINEAR. -/
structure Row where
  count : Nat
  frame : Nat
  stamp : Nat
  flags : Nat
  status : Nat
  lost : Bool
  local_ : Nat
  planes : List (List Nat)
  deriving DecidableEq, Repr

/-- What the frame in progress has gathered (R282). `hist` is keyed 256 × colour + bin, `zones` 64 × colour + zone; `endAt` is
the line count of its last line, `bank` the bank in force for it. -/
structure FrameAcc where
  number : Nat
  endAt : Nat
  bank : Nat
  flags : Nat
  lines : Nat
  lost : Nat
  sig : Nat
  sums : List Nat
  hist : Tab Nat
  zones : Tab (Nat × Nat)
  deriving DecidableEq, Repr

/-- A context beside its registers (R274 to R287): the set in force, the set of the other bank before it, the shadow bank, the
port of a pending restart, the sequence number of the last line, the first count of the frame, the next output row, the
corrected rows still needed, rows waiting for their box average by output, open frame accumulators, the arrangement of the
last line that showed one, the number of the last area frame, and whether lines until OPEN are discarded. -/
structure Ctx where
  set : ParamSet
  old : ParamSet
  shadow : Option ParamSet
  loadPort : Nat
  restart : Option Nat
  lastSeq : Option Nat
  frameAt : Nat
  nextRow : Nat
  rows : List Row
  boxes : Tab (List Row)
  accs : List FrameAcc
  cfa : Option Nat
  lastFrame : Option Nat
  discard : Bool
  deriving DecidableEq, Repr

/-- A pipeline channel beside its registers: what waits, and the context whose golden frame is in the datapath. -/
structure IspChan where
  queue : List LayItem
  golden : Option Nat
  deriving DecidableEq, Repr

/-- The image pipeline; `goldenWait` holds the contexts whose golden slot waits for the open one, and whether it is forced (R285); `captures` keeps the capture time of each ring slot in ns (R299), keyed 2^24 × (16 × context + output) +
slot; none where a STEP has made it stale. -/
structure Isp where
  chans : Tab IspChan
  ctxs : Tab Ctx
  goldenWait : List (Nat × Bool)
  captures : Tab (Option Nat)
  deriving DecidableEq, Repr
/-- A slot of an open batch (R290 to R292): state 0 unread, 1 read, 2 DONE, 3 VOID; its void cause, its descriptor. -/
structure IngSlot where
  state : Nat
  cause : Nat
  desc : List Byte
  deriving DecidableEq, Repr

/-- An open batch: its number, size, seed and epoch, the chains of the program when it opened, its slots. -/
structure IngBatch where
  num : Nat
  size : Nat
  seed : Nat
  epoch : Nat
  chains : List ChainCfg
  slots : List IngSlot
  deriving DecidableEq, Repr

/-- An ingest queue beside its registers: the seed and epoch of the next batch, the number of the next batch to open, the open
batches in order. -/
structure IngQueue where
  seed : Nat
  epoch : Nat
  next : Nat
  lastSize : Nat
  batches : List IngBatch
  deriving DecidableEq, Repr
/-- One milepost entry (Table MOT-9; `doubt` is the code that set DOUBT, 0 = none), with the pulse program it fixed at its arm and the result it allocated. `state`:
1 ARMED, 2 CONFIRMED, 3 FIRING. `late` is set once it fired while ARMED. -/
structure Milepost where
  target : Int
  tag : Nat
  lead : Nat
  prog : Nat
  program : PulseProgram
  output : Nat
  state : Nat
  doubt : Nat
  suppressed : Bool
  outFault : Bool
  overlap : Bool
  part : Nat
  firedAt : Int
  serial : Nat
  late : Bool
  deriving DecidableEq, Repr

/-- A pulse program that runs on an output: its entry's key, the step, when it began, and the ON time so far. -/
structure Pulse where
  entry : Nat
  output : Nat
  chan : Nat
  serial : Nat
  program : PulseProgram
  step : Nat
  stepCount : Int
  stepTime : Nat
  onTime : Nat
  on : Bool
  deriving DecidableEq, Repr

/-- A position channel beside its registers (R302 to R310): the count, the last filtered levels, the count at the last
index pulse, serial readings, the recent count changes with their times (newest first), the count errors of the last
millisecond, and the causes of a FAULT that persist. -/
structure Chan where
  count : Int
  levels : Option Nat
  index : Option Int
  reading : Option Nat
  awaitFirst : Bool
  everGood : Bool
  clocking : Bool
  changes : List (Nat × Int)
  seen : Nat
  errTimes : List Nat
  lineBreak : Bool
  supply : Bool
  serial : Nat
  deriving DecidableEq, Repr

/-- A trigger divider (R311 to R313): threshold in 1/65,536 counts, triggers that wait, the level of its pulse. -/
structure Divider where
  started : Bool
  threshold : Int
  waiting : List Nat
  busy : Bool
  pulse : Bool
  deriving DecidableEq, Repr

/-- The motion block. -/
structure Motion where
  chans : Tab Chan
  entries : Tab Milepost
  pulses : List Pulse
  dividers : Tab Divider
  deriving DecidableEq, Repr

/-- The field-I/O block beside its registers (R318 to R322): HOST-mode outputs switched on, and the level of the PULSE
outputs. -/
structure Fio where
  hostOn : Nat
  pulseOut : Nat
  settle : List (Nat × Nat × Bool)
  deriving DecidableEq, Repr
/-- One launch record in a queue (Table TIME-3): launch time in ns, length, location. -/
structure Launch where
  timeNs : Nat
  length : Nat
  loc : Nat
  deriving DecidableEq, Repr

/-- What left a TIME port: a PTP message of a type, with its fields, or a launched frame with its bytes. -/
inductive FrameOut where
  | ptp (port kind : Nat) (m : Ptp)
  | frame (port : Nat) (bytes : List Byte)
  deriving DecidableEq, Repr

/-- A foreign master (R328): its port identity, the TIME port that hears it, its Announce data set, when its last two Announces
came (the last first). -/
structure Foreign where
  source : Nat
  port : Nat
  dataset : List Nat
  heard : List Nat
  deriving DecidableEq, Repr

/-- A Sync whose Follow_Up is outstanding: TIME port, source, sequence number, when it came and its correction in ns. -/
structure SyncWait where
  port : Nat
  source : Nat
  seq : Nat
  at_ : Int
  corr : Int
  deriving DecidableEq, Repr

/-- The time unit beside its registers (R325 to R338): the least value that the published milestone counter may show, the
selected master with its TIME port, whether an offset was measured from it, the latest offset in ns, the runs of offsets below
100 ns and of 100 ns or more, an accepted SLEW (its offset and the sample at which it began), whether corrections keep to the slew
limit, the rate at the last lock in ppb, a pending STEP (port, TIME_SET in ns), the extension of the period after a STEP, Syncs and
delay requests that are outstanding (port, sequence, egress time), Pdelay exchanges (port, sequence, egress time, and after the
response the turnaround so far), sequence numbers, foreign masters, link delays by port, the path delay and the Sync half of it,
message counts (port, source, second, count), discarded frames by port, M0 by partition, launch queues, what was sent. -/
structure TimeSt where
  msHold : Nat
  master : Option (Nat × Nat)
  measured : Bool
  offset : Int
  goodRun : Nat
  badRun : Nat
  slew : Option (Int × Nat)
  slewing : Bool
  lockedRate : Int
  step : Option (Nat × Nat)
  realign : Option Nat
  syncWait : List SyncWait
  delayReq : List (Nat × Nat × Int)
  pdelayReq : List (Nat × Nat × Int × Option Int)
  seqNos : Tab Nat
  foreign : List Foreign
  linkDelay : Tab Int
  pathDelay : Int
  syncLeg : Option Int
  msgCount : List (Nat × Nat × Nat × Nat)
  nonPtp : Tab Nat
  startAt : Tab Nat
  queues : Tab (List Launch)
  out : List FrameOut
  deriving DecidableEq, Repr

/-- A packet that a peer side sends (Table PEER-1). -/
inductive PeerMsg where
  | hello (h : Hello)
  | verge (v : VergeIn)
  | contrib (bytes : List Byte)
  | ack (seq : Nat)
  | nak (seq : Nat)
  | reject (key : Nat) (reason : Nat)
  | credit (n : Nat)
  deriving DecidableEq, Repr

/-- One peer side (R339, R340): the lanes that are UP, the last good HELLO of each lane with how many came alike in a row, next sequence numbers, the resend buffer, packets that wait
for credit or buffer, the credit held and the credit granted, and the neighbour's compatibility digests. -/
structure PeerSide where
  lanes : Nat
  hellos : Tab (Hello × Nat)
  rxNext : Nat
  txNext : Nat
  resend : List (Nat × PeerMsg)
  waiting : List PeerMsg
  credit : Nat
  granted : Nat
  digests : List (BitVec 64)
  deriving DecidableEq, Repr

/-- A contribution recorded for a part (Table PEER-2): its key, seam, verdict, cause, sender and digest. -/
structure Contrib where
  key : Nat
  seam : Nat
  verdict : Nat
  cause : Nat
  node : Nat
  digest : BitVec 256
  deriving DecidableEq, Repr

/-- A block of a seam's check layer that waits for its comparison (R405): the seam, its line count, both digests as they come, and
the tags of the parts that touch it. -/
structure SeamWait where
  seam : Nat
  line : Nat
  own : Option (BitVec 256)
  peer : Option (BitVec 256)
  tags : List Nat
  deriving DecidableEq, Repr

/-- A verdict that the checker has passed for a straddling part, which waits for the contributions that the part expects (R20). -/
structure HeldVerdict where
  part : Nat
  v : VerdictIn
  verdict : Nat
  cause : Nat
  deriving DecidableEq, Repr

/-- The neighbours (R339 to R342, R404, R405): the sides, what was sent (side, the lane where the spec says which, sequence number of a
sequenced packet, packet),
the contributions, the verdicts that wait for contributions, the seam blocks that wait, and those whose comparison has passed (seam, line
count of the first row). -/
structure PeerSt where
  sides : Tab PeerSide
  out : List (Nat × Option Nat × Option Nat × PeerMsg)
  contribs : List Contrib
  held : List HeldVerdict
  blocks : List SeamWait
  passed : List (Nat × Nat)
  deriving DecidableEq, Repr
/-- The payload of a result (Table HOST-5). `latency` is bytes 60 to 63, `tail` bytes 120 to 255. -/
structure Payload where
  subject : Nat
  outcome : Nat
  carried : Nat
  cause : Nat
  chan : Nat
  output : Nat
  flags : Nat
  iteration : Nat
  stamp : Int
  target : Int
  latency : Nat
  milestone : Nat
  sec : Nat
  ns : Nat
  digest : BitVec 256
  build : Nat
  tail : List Byte
  deriving DecidableEq, Repr

/-- One result of one subscription: a slot of a BAR2 ring, or an entry of a pushed ring that is not yet written. `state`:
1 PENDING, 2 READY, 3 READ (Table HOST-4). -/
structure Slot where
  port : Nat
  part : Nat
  push : Bool
  seq : Nat
  kind : Nat
  drops : Nat
  milestone : Nat
  resNum : Nat
  reads : Nat
  state : Nat
  payload : Option Payload
  deriving DecidableEq, Repr

/-- The subject of a result: a part by its arm, or an OUTPUT iteration of a job.  `firedPeriod` is the period in which the
entry fired while ARMED, `key` the milepost key that an accepted arm took, and `joins` says that its tag had an outcome open when it was armed, so
that it belongs to the same part. -/
structure Subject where
  part : Nat
  resNum : Nat
  kind : Nat
  tag : Nat
  key : Option Nat
  chan : Nat
  output : Nat
  target : Int
  flags : Nat
  firedPeriod : Option Nat
  settled : Bool
  joins : Bool
  deriving DecidableEq, Repr

/-- A write that the module makes into host memory through a port: a pushed result, a completion entry, COPY_OUT data, a
trace record. -/
structure HostWrite where
  port : Nat
  addr : Nat
  bytes : List Byte
  deriving DecidableEq, Repr

/-- A weights set bound to a region of a partition's pages, or about to be (R356): `from_` is the landing period. -/
structure Binding where
  part : Nat
  set : Nat
  offset : Nat
  length : Nat
  digest : BitVec 256
  landing : Nat
  deriving DecidableEq, Repr

/-- A submission command in progress: a digest being computed, or a read of host memory outstanding. -/
structure SqBusy where
  port : Nat
  ring : Nat
  op : Nat
  set : Nat
  tag : Nat
  host : Nat
  offset : Nat
  length : Nat
  deriving DecidableEq, Repr

/-- The host block beside its registers. `dropsSince`, `pushTop` and `waiting` are keyed 8 × port + partition; `completed` counts
the completion entries written on a ring, keyed 4 × port + ring; `posted` lists the mailbox posts that wait (partition, number,
landing period), their content in staging; `pubNum` the last publication number by partition; `ready` the ports whose BAR0 is
ready. -/
structure HostSt where
  slots : List Slot
  subjects : List Subject
  resNum : Tab Nat
  dropsSince : Tab Nat
  pushTop : Tab Nat
  waiting : Tab Nat
  writes : List HostWrite
  bindings : List Binding
  busy : List SqBusy
  completed : Tab Nat
  posted : List (Nat × Nat × Nat)
  pubNum : Tab Nat
  ready : Tab Bool
  deriving DecidableEq, Repr
/-- A safety message sent (Table SAFE-9): TIME port, and its 48 bytes. -/
structure SafetyMsg where
  port : Nat
  bytes : List Byte
  deriving DecidableEq, Repr

/-- A row reported LOST (R17): its context and line count, the first lost line that it reads, and the code of the unit that lost it. -/
structure LostRow where
  ctx : Nat
  row : Nat
  line : Nat
  code : Nat
  deriving DecidableEq, Repr

/-- The safety checker beside its registers (R366 to R383): the causes that persist, guard-counter resets, previous
stamps, judgement failures of the last second, the watchdogs' last kicks, contexts and partitions made INVALID by a
watchdog, lines reported LOST, frame signatures with their number and the run of differing ones, faulted inputs whose channels
have agreed for 1 s, an output channel under its test pulse, a slice that has not ended (item, unit, bound in µs), when each
test item last completed, the messages sent, TIME ports without a link. -/
structure SafeSt where
  active : List Nat
  enteredAt : Nat
  restartNeeded : Bool
  seqFresh : List Nat
  prevStamp : Tab Int
  fails : List (Nat × Nat)
  kicked : Tab Nat
  ctxMiss : Tab Nat
  partMiss : List Nat
  lostLines : List LostRow
  signature : Tab Nat
  frameNo : Tab Nat
  run : Tab Nat
  refMissed : List Nat
  goldenSeen : List Nat
  agreed : List Nat
  outTest : Option (Nat × Nat)
  slice : Option (Nat × Nat × Nat)
  testAt : Tab Nat
  msgs : List SafetyMsg
  down : List Nat
  deriving DecidableEq, Repr
/-- Data integrity beside the INTEG registers (R388 to R409): damaged SRAM lines by line address (kind 0 core SRAM, 1 stripe,
2 line store, as one address in 64-byte units), poisoned HBM lines, retired pages with the older copy of their list and the number of its writes, a write-back the scrubber holds
(line address), when each lap began in 5 ns samples and whether it was written as slow, triplicated words without a majority
that a boundary rewrites, the partitions traced, digests of recomputed legs. -/
structure IntegSt where
  bad : Tab BadLine
  poison : List Nat
  retired : List Nat
  retiredOld : List Nat
  retiredSeq : Nat
  writeBack : List Nat
  lapStart : List (Nat × Bool)
  tripFix : List Nat
  traceParts : Nat
  digests : List (Nat × Nat × Nat × BitVec 256)
  deriving DecidableEq, Repr
/-- The supply state of the module (R34, R37, R38). -/
inductive Power where
  /-- No supply, or switched off after a brown-out. -/
  | off
  /-- Switched off by an over-voltage: waits for +48V below 60 V (R38). -/
  | offOverVoltage
  /-- Up, with no hub firmware that verifies: the boot ROM answers only on the SERVICE port (R75). -/
  | bootRom
  /-- Running. -/
  | on
  deriving DecidableEq, Repr

/-- The local clock and the time base (R325, R327).  `now` counts 5 ns samples of the time base since the start;
`sec`, `ns` and `frac` (1/65,536 ns) are the PTP time of the local clock, `rest` what a rate leaves below that, in 10^-9 of it. -/
structure Clock where
  now : Nat
  sec : Nat
  ns : Nat
  frac : Nat
  rest : Nat
  deriving DecidableEq, Repr

/-- One waymark (Table WAYM-1), its fields as numbers. -/
structure Waymark where
  code : Nat
  kind : Nat
  inst : Nat
  sev : Nat
  flags : Nat
  supp : Nat
  seq : Nat
  opSec : Nat
  cycles : Nat
  p1 : Nat
  p2 : Nat
  p3 : Nat
  deriving DecidableEq, Repr

/-- One rate-limit bucket (R422): tokens left, suppressed count held, time of the latest suppression, and that record. -/
structure Bucket where
  tokens : Nat
  supp : Nat
  lastAt : Nat
  last : Option Waymark
  deriving DecidableEq, Repr

/-- The event recorder (R415 to R425).  `buckets` lists the buckets that are not full with nothing held, keyed by code
and limiting parameter. `flash` is the ring: position to record. -/
structure Recorder where
  buffer : List Waymark
  flash : Tab Waymark
  torn : List Nat
  headPos : Nat
  erasing : Option Nat
  eraseHeld : Bool
  wear : Tab Nat
  buckets : List ((Nat × Nat) × Bucket)
  lost : Nat
  lostSev : Nat
  dropBefore : Bool
  early : Bool
  frozenLost : Nat
  frozenBy : Option Nat
  deriving DecidableEq, Repr

/-- The observers of PERF (R426 to R430): counter changes that wait for a boundary, the span and pick of the tagging of
each core, the next tag slot, and the payload bytes of each port's running bandwidth window. -/
structure Perf where
  events : Tab Nat
  span : Tab Nat
  pick : Tab Nat
  slot : Tab Nat
  unread : Tab Nat
  bwIn : Tab Nat
  bwOut : Tab Nat
  deriving DecidableEq, Repr

/-- What a port's last bus access was answered with (Table HOST-10). -/
inductive Reply where
  | none
  | data (v : Word)
  | unsupported
  | abort
  | retry
  | dropped
  deriving DecidableEq, Repr

/-- The state of the block: every register, memory, queue, counter, mode and pin of the spec, and the commands that wait.
`pending` is the queue of the commands sent to the block, first in, first out. -/
structure State where
  cfg : Running
  variant : Variant
  board : Board
  zld : Zld
  keep : Keep
  flash : Flash
  boot : Boot
  pace : PaceSt
  cores : CoreMapSt
  exec : Tab CoreExec
  route : RouteSt
  kv : Tab Pool
  lane : Lanes
  isp : Isp
  ingest : Tab IngQueue
  motion : Motion
  fio : Fio
  time : TimeSt
  peer : PeerSt
  host : HostSt
  safe : SafeSt
  integ : IntegSt
  power : Power
  regs : Tab Word
  mem : List Host.Cell
  clk : Clock
  free : Nat
  recorder : Recorder
  perf : Perf
  replies : Tab Reply
  hiLatch : Tab Word
  msix : List (Nat × Nat)
  pending : List Instr
  deriving DecidableEq, Repr

/-- Why the block would stop with a fault.  No command of this block ends so: the spec gives every command an effect, and
the type has the one constructor that no meaning answers with.  Nothing raises it: safe. -/
inductive Fault where
  /-- Raised by no meaning (safe). -/
  | unreachable
  deriving DecidableEq, Repr

/-- Why the block refuses a command. -/
inductive Refusal where
  /-- The command has no meaning yet: raised by an arm of `exec` alone (safe). -/
  | notModelled (mnemonic : String)
  deriving DecidableEq, Repr

/-- The block right after reset: unpowered, every register at the Reset column of its table (an unlisted register reads
as that value, `regReset`), every memory clear, nothing queued. -/
def State.reset : State :=
  { cfg := Running.factory

    variant := .f9640
    board := { encShort := [], derateReq := 0, derateNew := none, derateHolds := false, diesOff := false, overheated := false, console := none
               fieldLow := none, groupsLow := [] }

    zld := { image := none, armed := [], oldSince := [] }

    keep := Keep.delivered
    flash := { fw := [(0, { ok := true, digest := Config.factoryFirmware })], full := [], overlays := [], slack := [] }
    boot := { copyA := KeepCopy.delivered, copyB := KeepCopy.delivered, pufClear := false, pcieUp := 0, hbmUp := false, trainFailed := [], proven := [], challenge := [], doe := [], fwDigest := 0, startMs := 0 }

    pace := { raises := [0, 0], below := [], hourLeast := [], lowAt := [], windowPort := 0, windowFresh := false, windowAt := 0
              standbyAt := 0, portHand := 0, kept := 0, slips := [] }
    cores := { fence := [], fenceOld := [], fenceSeq := 0, fenceClear := [], due := [], everDetours := [], corr := [], uncorr := [], recomp := [], spareTest := [], banks := []
               edgeFailed := [], walkFailed := [], postFailed := [], sheetAt := [] }
    exec := []

    route := { jobs := [], iters := [], buildFor := 0, built := true, planned := [], legs := [], nextId := 0, cuts := []
               gens := [], boundaryNs := 0, vergeGet := [], vergePut := [], deferNew := [], partGens := [], sheets := [] }
    kv := []

    lane := { lanes := [], streams := [], out := [] }

    isp := { chans := [], ctxs := [], goldenWait := [], captures := [] }

    ingest := []

    motion := { chans := [], entries := [], pulses := [], dividers := [] }
    fio := { hostOn := 0, pulseOut := 0, settle := [] }

    time := { msHold := 0, master := none, measured := false, offset := 0, goodRun := 0, badRun := 0, slew := none
              slewing := false, lockedRate := 0, step := none, realign := none, syncWait := [], delayReq := []
              pdelayReq := [], seqNos := [], foreign := [], linkDelay := [], pathDelay := 0, syncLeg := none
              msgCount := [], nonPtp := [], startAt := [], queues := [], out := [] }
    peer := { sides := [], out := [], contribs := [], held := [], blocks := [], passed := [] }

    host := { slots := [], subjects := [], resNum := [], dropsSince := [], pushTop := [], waiting := [], writes := []
              bindings := [], busy := [], completed := [], posted := [], pubNum := [], ready := [] }

    safe := { active := [], enteredAt := 0, restartNeeded := false, seqFresh := [], prevStamp := [], fails := []
              kicked := [], ctxMiss := [], partMiss := [], lostLines := [], signature := [], frameNo := [], run := []
              refMissed := [], goldenSeen := [], agreed := [], outTest := none, slice := none, testAt := [], msgs := [], down := [] }

    integ := { bad := [], poison := [], retired := [], retiredOld := [], retiredSeq := 0, writeBack := [], lapStart := [(0, false), (0, false), (0, false), (0, false)], tripFix := []
               traceParts := 0, digests := [] }

    power := .off
    regs := []
    mem := []
    clk := { now := 0, sec := 0, ns := 0, frac := 0, rest := 0 }
    free := 0
    recorder := { buffer := [], flash := [], torn := [], headPos := 0, erasing := none, eraseHeld := false, wear := [],
                  buckets := [], lost := 0, lostSev := 3, dropBefore := false, early := true, frozenLost := 0,
                  frozenBy := none }
    perf := { events := [], span := [], pick := [], slot := [], unread := [], bwIn := [], bwOut := [] }
    replies := []
    hiLatch := []
    msix := []
    pending := [] }

end Sys2Proof.Machine
end

