-- ==== Sys2Proof/Machine/Ops.lean ====
section
/-! DEFINITION. The named operations over the register file, the byte memory, the event recorder and the event vectors:
every meaning changes these through the operations of this file. -/

namespace Sys2Proof.Machine

/-! ### Registers (R12 to R15) -/

/-- The word of the register at `key`: an unlisted register holds its reset word (R442). -/
def regRead (rs : Tab Word) (key : Nat) : Word := (tfind rs key).getD (regReset key)

/-- The register file with the register at `key` holding `w`. -/
def regWrite (rs : Tab Word) (key : Nat) (w : Word) : Tab Word := tset (regReset key) rs key w

/-- The value of a field of a register word. -/
def fieldOf (w : Word) (lo width : Nat) : Nat := (w.toNat >>> lo) % 2 ^ width

/-- The register word with `v`, cut to the field's width, in the field. -/
def withField (w : Word) (lo width v : Nat) : Word :=
  let mask : Word := BitVec.ofNat 32 ((2 ^ width - 1) * 2 ^ lo)
  (w &&& ~~~mask) ||| (BitVec.ofNat 32 ((v % 2 ^ width) * 2 ^ lo))

/-- The value of a register field. -/
def State.get (s : State) (f : Field) : Nat := fieldOf (regRead s.regs f.key) f.lo f.width

/-- The state with `v`, cut to the field's width, in a register field. -/
def State.set (s : State) (f : Field) (v : Nat) : State :=
  { s with regs := regWrite s.regs f.key (withField (regRead s.regs f.key) f.lo f.width v) }

/-- A one-bit field read as a truth value. -/
def State.on (s : State) (f : Field) : Bool := s.get f != 0

/-- The number 1 or 0 of a truth value. -/
def bit (b : Bool) : Nat := if b then 1 else 0

/-- A one-bit field written from a truth value. -/
def State.setB (s : State) (f : Field) (b : Bool) : State := s.set f (bit b)

/-- Add `n` to a counting field that saturates. -/
def State.addSat (s : State) (f : Field) (n : Nat) : State := s.set f (min (s.get f + n) (2 ^ f.width - 1))

/-- Count one on a field that saturates. -/
def State.inc (s : State) (f : Field) : State := s.addSat f 1

/-- Count one on a field that wraps. -/
def State.incWrap (s : State) (f : Field) : State := s.set f (s.get f + 1)

/-- Set one bit, numbered within the field, to `b`. -/
def State.setBit (s : State) (f : Field) (i : Nat) (b : Bool) : State :=
  let v := s.get f
  let v0 := if v.testBit i then v - 2 ^ i else v
  s.set f (if b then v0 + 2 ^ i else v0)

/-- The 64-bit value of a register pair, low word first (R13). -/
def State.get64 (s : State) (lo hi : Field) : Nat := s.get lo + 2 ^ lo.width * s.get hi

/-- Write a register pair, low word first. -/
def State.set64 (s : State) (lo hi : Field) (v : Nat) : State := (s.set lo v).set hi (v / 2 ^ lo.width)

/-- Return every register whose key lies in `[a, b)` to its reset word. -/
def State.resetRegs (s : State) (a b : Nat) : State :=
  { s with regs := s.regs.filter (fun e => e.1 < a || b ≤ e.1) }

/-- Fold a state change over a list, the first element first. -/
def State.each {α : Type} (s : State) (l : List α) (f : State → α → State) : State := l.foldl f s

/-- Apply a change only where a condition holds. -/
def State.when (s : State) (b : Bool) (f : State → State) : State := if b then f s else s

/-- The signed value of a `w`-bit field. -/
def toSigned (w v : Nat) : Int := if v % 2 ^ w < 2 ^ (w - 1) then (v % 2 ^ w : Nat) else ((v % 2 ^ w : Nat) : Int) - 2 ^ w

/-- The `w`-bit two's complement code of an integer. -/
def ofSigned (w : Nat) (i : Int) : Nat := (i % (2 ^ w : Int)).toNat

/-! ### Free values -/

/-- The next free 64-bit value, and the state with the counter advanced. -/
def State.draw (s : State) : Nat × State := ((Config.freeWord s.free).toNat, { s with free := s.free + 1 })

/-- The next 256 bits of hub entropy, and the state with the counter advanced. -/
def State.drawEntropy (s : State) : Nat × State := ((Config.entropy s.free).toNat, { s with free := s.free + 1 })

/-! ### The byte memory

One list of (address, byte) cells holds every memory of the spec.  Each memory has its own base, so that no two overlap.
An unlisted byte reads 0: the fast clear leg and the HBM clear leave every word 0 (R77, Table BOOT-1). -/

/-- Base of the core SRAM of physical core `c` (8 MiB each). -/
def sramBase (c : Nat) : Nat := c * 0x800000

/-- Base of the stripe store of cluster `k` (32 MiB each). -/
def stripeBase (k : Nat) : Nat := 0x20000000 + k * 0x2000000

/-- Base of the hub line store (64 MiB). -/
def lineStoreBase : Nat := 0x40000000

/-- Base of the in-mailbox of partition `p`, of the staging of its posts, and of its out-mailbox (R358). -/
def inMailbox (p : Nat) : Nat := 0x50000000 + 0x2000 * p
def outMailbox (p : Nat) : Nat := 0x50001000 + 0x2000 * p
def mailStaging (p : Nat) : Nat := 0x50010000 + 0x1000 * p

/-- Base of the HBM: page `g` of 64 KiB begins at `hbmBase + 65536 g`. -/
def hbmBase : Nat := 0x100000000

/-- The byte at an address. -/
def memByte (m : List Host.Cell) (a : Nat) : Byte := tget 0 m a

/-- Write one byte. -/
def memPut (m : List Host.Cell) (a : Nat) (b : Byte) : List Host.Cell := tset 0 m a b

/-- Write bytes from an address upward. -/
def memPutAll : List Host.Cell → Nat → List Byte → List Host.Cell
  | m, _, [] => m
  | m, a, b :: bs => memPutAll (memPut m a b) (a + 1) bs

/-- The canonical form of the byte memory: addresses strictly rising, no listed byte equal to the unlisted one. -/
abbrev Memory.wf (m : List Host.Cell) : Bool := tabWf (fun _ => (0 : Byte)) m

/-- Read one byte. -/
def State.byte (s : State) (a : Nat) : Byte := memByte s.mem a

/-- Read `n` bytes from an address upward. -/
def State.bytes (s : State) (a n : Nat) : List Byte := (List.range n).map (fun i => s.byte (a + i))

/-- Write bytes from an address upward. -/
def State.putBytes (s : State) (a : Nat) (bs : List Byte) : State := { s with mem := memPutAll s.mem a bs }

/-- The little-endian number of bytes (R11). -/
def leNat : List Byte → Nat
  | [] => 0
  | b :: bs => b.toNat + 256 * leNat bs

/-- The `n` little-endian bytes of a number (R11). -/
def leBytes : Nat → Nat → List Byte
  | 0, _ => []
  | n + 1, v => BitVec.ofNat 8 v :: leBytes n (v / 256)

/-- Read an `n`-byte little-endian number. -/
def State.rd (s : State) (a n : Nat) : Nat := leNat (s.bytes a n)

/-- Write an `n`-byte little-endian number. -/
def State.wr (s : State) (a n v : Nat) : State := s.putBytes a (leBytes n v)

/-- A field of `n` bytes at offset `o` of a record held as bytes. -/
def recField (r : List Byte) (o n : Nat) : Nat := leNat ((r.drop o).take n)

/-! ### Power, roles and ports -/

/-- The module runs. -/
def State.powered (s : State) : Bool := s.power == .on

/-- Role numbers of Table ZLD-4. -/
def roleOWNER : Nat := 0
def roleOPERATOR : Nat := 1
def roleOBSERVER : Nat := 2
def roleSERVICE : Nat := 3

/-- The role of a port, as HOST_STATUS.role shows it. -/
def State.role (s : State) (i : Port) : Nat := s.get (F.HOST_STATUS_role i)

/-- OWNER or SERVICE: the privileged host roles (R345). -/
def State.privileged (s : State) (i : Port) : Bool := s.role i == roleOWNER || s.role i == roleSERVICE

/-- The port owns partition `p` (ROUTE_PART.port of a defined partition). -/
def State.owns (s : State) (i : Port) (p : Nat) : Bool :=
  s.on (F.ROUTE_PART_defined p) && s.get (F.ROUTE_PART_port p) == i.val && s.role i == roleOPERATOR

/-- Fire MSI-X vector `v` of port `i` (Table HOST-6); a port whose BAR0 is not ready sends nothing (R361). -/
def State.fire (s : State) (i v : Nat) : State :=
  if tget false s.host.ready i then { s with msix := s.msix ++ [(i, v)] } else s

/-- Fire vector `v` of every port. -/
def State.fireAll (s : State) (v : Nat) : State := s.each [0, 1, 2, 3] (fun s i => s.fire i v)

/-- Answer the access of port `i`. -/
def State.reply (s : State) (i : Nat) (r : Reply) : State := { s with replies := tset .none s.replies i r }

/-! ### The event recorder (R415 to R425) -/

/-- 5 ns samples in one millisecond and in one second. -/
def samplesPerMs : Nat := 200000
def samplesPerS : Nat := 200000000

/-- The position, in a code's parameters, of the instance of its source unit (Table WAYM-2); 255 where it has none. -/
def instOf (code : Nat) (ps : List Nat) : Nat :=
  let at0 := [Code.PACE_MISS, Code.SLACK_LOW, Code.CORE_FAILED, Code.CORE_DETOUR, Code.SPARE_FAILED, Code.ILLEGAL_WORD,
    Code.LEG_DEFERRED, Code.FIT_LOST, Code.FIT_RESTORED, Code.BUILD_LATE, Code.BATCH_DEFERRED, Code.HBM_OVER_QUOTA,
    Code.KV_JOIN_WAIT, Code.KV_OVER_QUOTA, Code.KV_LENGTH_LIMIT, Code.KV_SNAPSHOT_EXPIRED, Code.KV_SHARED_WRITE,
    Code.KV_PREFIX_MADE, Code.KV_PREFIX_RETIRED, Code.KV_WALK_OVERFLOW, Code.KV_SEQ_ENDED, Code.LANE_UP, Code.LANE_DOWN,
    Code.LANE_TRAIN_FAIL, Code.LANE_LINE_LOST, Code.LANE_VIOLATION, Code.LANE_CTRL_TIMEOUT, Code.LANE_TEST,
    Code.ISP_PARAM_LOADED, Code.ISP_PARAM_REFUSED, Code.ISP_BANK_SWAPPED, Code.ISP_LINE_FAULT, Code.ISP_FRAME_FAULT,
    Code.ISP_CTX_RESTARTED, Code.INGEST_SAMPLE_VOID, Code.INGEST_HOST_VIOLATION, Code.INGEST_QUEUE_STATE,
    Code.POS_COUNT_ERROR, Code.POS_FAULT, Code.FIO_OUTPUT_FAULT, Code.MILEPOST_REFUSED, Code.MILEPOST_SUPPRESSED,
    Code.PTP_VIOLATION, Code.LAUNCH_LATE, Code.LAUNCH_REFUSED, Code.TIME_LOCKED, Code.PEER_UP, Code.PEER_DOWN,
    Code.PEER_VIOLATION, Code.PEER_CONTRIB_REJECTED, Code.HOST_LINK_UP, Code.HOST_LINK_DOWN, Code.HOST_UR,
    Code.HOST_DMA_ERROR, Code.HOST_BAD_DESCRIPTOR, Code.HOST_RING_STOPPED, Code.HOST_ACK_REFUSED,
    Code.HOST_RESULT_OVERFLOW, Code.HOST_PAGE_BOUND, Code.HOST_WEIGHTS_REFUSED, Code.HOST_ROLE, Code.ZLD_SIGNATURE_FAIL,
    Code.ZLD_SAFETY_LOCKED, Code.ZLD_ROLE, Code.ZLD_BUSY, Code.ZLD_ABORTED, Code.ZLD_BAD_COMMAND, Code.RECORDER_FROZEN,
    Code.WAYM_ROLE, Code.WAYM_BAD_COMMAND, Code.PERF_ROLE, Code.PERF_BAD_COMMAND]
  let at1 := [Code.PACE_OVERRUN, Code.DETOUR_REFUSED, Code.CORE_FENCE_CLEARED, Code.ADMIT_REFUSED, Code.CUT_REFUSED,
    Code.LANE_REFUSED, Code.LANE_BAD_COMMAND, Code.LAYBY_LINE_LOST, Code.GOLDEN_INJECTED, Code.GOLDEN_DEFERRED,
    Code.GOLDEN_FORCED, Code.ISP_BAD_COMMAND, Code.INGEST_BAD_COMMAND, Code.POS_FAULT_CLEARED, Code.MOT_CMD_REFUSED,
    Code.TIME_JUMP_REFUSED, Code.CORE_LOST]
  if at0.contains code then ps.getD 0 255
  else if at1.contains code then (if code = Code.CORE_LOST then 255 else ps.getD 1 255)
  else 255

/-- Parameters packed into P1, P2 and P3 (R416). -/
def packParams (ps : List Nat) : Nat × Nat × Nat :=
  match ps with
  | [] => (0, 0, 0)
  | [a] => (a % 2 ^ 32, 0, 0)
  | [a, b] => (a % 2 ^ 32, b % 2 ^ 32, 0)
  | [a, b, c] => (a % 2 ^ 32, b % 2 ^ 32, c % 2 ^ 24)
  | [a, b, c, d] => (a % 2 ^ 16 + 2 ^ 16 * (b % 2 ^ 16), c % 2 ^ 32, d % 2 ^ 24)
  | a :: b :: c :: d :: e :: _ =>
    (a % 2 ^ 16 + 2 ^ 16 * (b % 2 ^ 16), c % 2 ^ 16 + 2 ^ 16 * (d % 2 ^ 16), e % 2 ^ 24)

/-- The parameter by which a code is rate-limited, beside the code itself (R422; R269, R301, R343: per cause or reason). -/
def limitParam (code : Nat) (ps : List Nat) : Nat :=
  if code = Code.LANE_VIOLATION then ps.getD 2 0
  else if code = Code.INGEST_SAMPLE_VOID then ps.getD 3 0
  else if code = Code.PTP_VIOLATION then ps.getD 1 0
  else if code = Code.PEER_VIOLATION then ps.getD 1 0
  else 0

/-- Capacity of a bucket (R422). -/
def bucketCap (code : Nat) : Nat := if severity code = 3 then 64 else 16

/-- The bucket of a key: one that is not listed is full and holds nothing. -/
def State.bucket (s : State) (k : Nat × Nat) : Bucket :=
  (afind s.recorder.buckets k).getD { tokens := bucketCap k.1, supp := 0, lastAt := 0, last := none }

/-- Set a bucket. -/
def State.setBucket (s : State) (k : Nat × Nat) (b : Bucket) : State :=
  { s with recorder := { s.recorder with buckets := aput s.recorder.buckets k b } }

/-- The lowest severity among the records dropped since the last RECORDER_DROP. -/
def State.noteDrop (s : State) (sev : Nat) : State :=
  let r := s.recorder
  ({ s with recorder :=
      { r with lost := r.lost + 1, lostSev := min r.lostSev sev, dropBefore := true,
               frozenLost := if s.on F.WAYM_STATUS_frozen then r.frozenLost + 1 else r.frozenLost } }).inc
    F.WAYM_DROPPED_count

/-- Put a waymark into the front-end buffer, where it may enter: all 1,024 entries for ERROR and SAFETY, 960 for the
rest (R419). -/
def State.buffer (s : State) (w : Waymark) : Option State :=
  let r := s.recorder
  let n := r.buffer.length
  if n < (if w.sev ≥ 2 then 1024 else 960) then
    let s1 := ({ s with recorder := { r with buffer := r.buffer ++ [w] } }).set F.WAYM_STATUS_buffered (n + 1)
    -- at the freeze of R424, vector 8 fires when the buffer passes half full (R425)
    some (if s.on F.WAYM_STATUS_frozen && n + 1 == 513 then
      s1.each [0, 1, 2, 3] (fun s i => if s.on (F.WAYM_IRQ_enable i) then s.fire i 8 else s) else s1)
  else none

/-- Flag bits of Table WAYM-1. -/
def flagSUMMARY : Nat := 1
def flagEARLY : Nat := 2
def flagPOWERLOSS : Nat := 4
def flagFROZEN : Nat := 8
def flagDROPBEFORE : Nat := 16

/-- Operating seconds (R81): the value restored at the start, which the register pair holds, and the time since then,
saturating. -/
def State.opSeconds (s : State) : Nat :=
  min (s.get64 F.KEEP_OP_SECONDS_LO_seconds F.KEEP_OP_SECONDS_HI_seconds + s.clk.now / samplesPerS) (2 ^ 40 - 1)

/-- The waymark of a code raised now. -/
def State.mkWaymark (s : State) (inst code : Nat) (ps : List Nat) : Waymark :=
  let (p1, p2, p3) := packParams ps
  { code := code, kind := kindOf code, inst := inst % 256, sev := severity code,
    flags := if s.recorder.early then flagEARLY else 0, supp := 0, seq := 0, opSec := s.opSeconds,
    cycles := s.get F.KEEP_POWER_CYCLES_count, p1 := p1, p2 := p2, p3 := p3 }

/-- The code bypasses the global budget (R420). -/
def bypassesBudget (code : Nat) : Bool := severity code ≥ 2 || code == Code.RECORDER_BUDGET

/-- Raise a ready-made waymark under the bucket of `key` (R420, R422). -/
def State.raiseMark (s : State) (key : Nat × Nat) (w : Waymark) : State :=
  let b := s.bucket key
  if b.tokens = 0 || (s.on F.WAYM_STATUS_budget_empty && !bypassesBudget w.code) then
    (s.setBucket key { b with supp := min (b.supp + 1) 65535, lastAt := s.clk.now, last := some w }).inc
      F.WAYM_SUPPRESSED_count
  else
    let b1 := { b with tokens := b.tokens - 1 }
    match s.buffer { w with supp := b.supp } with
    | some s1 => s1.setBucket key { b1 with supp := 0, last := none }
    | none => (s.setBucket key b1).noteDrop w.sev

/-- Raise a waymark from instance `inst` of the code's source unit. -/
def State.raiseAt (s : State) (inst code : Nat) (ps : List Nat) : State :=
  s.raiseMark (code, limitParam code ps) (s.mkWaymark inst code ps)

/-- Raise a waymark: the instance is the parameter that names it (Table WAYM-2), or 0xFF. -/
def State.raise (s : State) (code : Nat) (ps : List Nat) : State := s.raiseAt (instOf code ps) code ps

/-- Raise a waymark at physical core `c`, which is the instance of a code of unit kind core (Table WAYM-2). -/
def State.raiseCore (s : State) (c code : Nat) (ps : List Nat) : State :=
  s.raiseAt (if kindOf code = 0x06 then c else instOf code ps) code ps

/-- Raise a waymark under the source unit kind of another block (R445). -/
def State.raiseKind (s : State) (kind inst code : Nat) (ps : List Nat) : State :=
  s.raiseMark (code, limitParam code ps) { s.mkWaymark inst code ps with kind := kind }

end Sys2Proof.Machine
end

