-- ==== Sys2Proof/Machine/Outputs.lean ====
section
/-! DEFINITION. What the running image says of each unit, the output pins as a function of the state (R35, R317, R319,
R322, R379), and the close of every command. -/

namespace Sys2Proof.Machine

/-! ### The image in force -/

def State.part (s : State) (p : Nat) : PartCfg := s.cfg.structureSec.parts.getD p noPart
def State.laneCfg (s : State) (n : Nat) : LaneCfg := s.cfg.structureSec.lanes.getD n noLane
def State.ctxCfg (s : State) (c : Nat) : CtxCfg := s.cfg.structureSec.contexts.getD c noCtx
def State.chanCfg (s : State) (n : Nat) : ChanCfg := s.cfg.tables.channels.getD n noChan
def State.framing (s : State) (n : Nat) : FramingCfg := s.cfg.tables.framings.getD (s.chanCfg n).framing noFraming
def State.divCfg (s : State) (d : Nat) : DividerCfg := s.cfg.tables.dividers.getD d noDivider
def State.inCfg (s : State) (i : Nat) : FieldInCfg := s.cfg.tables.inputs.getD i noFieldIn

/-- Criticality numbers of Table ZLD-4. -/
def critSAFETY : Nat := 0
def critMISSION : Nat := 1
def critBESTEFFORT : Nat := 2

/-- Island `b` is powered: its enable bit in the running STRUCTURE is 1 (R93, Table ZLD-5). A disabled island is held in reset, and its
bridges read as empty. -/
def State.island (s : State) (b : Nat) : Bool := s.cfg.structureSec.islands.testBit b

/-- The receive and transmit islands of TIME port `t` are enabled (Table ZLD-5). -/
def State.timePort (s : State) (t : Nat) : Bool := s.island (108 + 2 * t) && s.island (109 + 2 * t)

/-- The partition that claims output `o`, and its claim (R319). -/
def State.claim (s : State) (o : Nat) : Option (Nat × ClaimCfg) :=
  s.cfg.partTables.findSome? (fun e => (e.2.claims.find? (fun c => c.output == o)).map (fun c => (e.1, c)))

/-- The key of an old program or old tables of partition `p`: its generation `g`. -/
def oldKey (p g : Nat) : Nat := p + 8 * g

/-- The field side, the safety connector and the position channels are fitted (R25, Table MAP-4). -/
def State.hasField (s : State) : Bool := s.variant != .v9640

/-- The number of physical cores (Table MAP-4). -/
def State.coreCount (s : State) : Nat := if s.variant = .f9620 then 20 else 40

/-- The number of usable HBM pages (R121). -/
def State.hbmPages (s : State) : Nat := if s.variant = .f9620 then 190464 else 380928

/-- The first page of partition `p`: partitions take their pages in partition order, each its structure quota. -/
def State.pageBase (s : State) (p : Nat) : Nat :=
  ((List.range p).map (fun q => (s.part q).quota)).foldl (· + ·) 0

/-- The pages of partition `p` that its programs and hosts can address: its quota without the KV table area, which takes the last of them
(R207; where it stands is a DESIGN CHOICE). -/
def State.reach (s : State) (p : Nat) : Nat := (s.part p).quota - ((tfind s.cfg.programs p).map (fun g => g.tablePages)).getD 0

/-- The address of a byte offset in partition `p`'s HBM pages. -/
def State.partAddr (s : State) (p off : Nat) : Nat := hbmBase + 65536 * s.pageBase p + off

/-! ### Safe state and outputs -/

/-- SAFE_STATUS.state numbers (Table SAFE-12). -/
def safeSTART : Nat := 0
def safeRECOVERY : Nat := 1
def safeRUN : Nat := 2
def safeSAFE : Nat := 3

/-- The module is in the safe state. -/
def State.isSafe (s : State) : Bool := s.get F.SAFE_STATUS_state == safeSAFE

/-- FIELD-PWR is below 19.2 V. -/
def State.fieldLow (s : State) : Bool := s.on F.CAP_BOARD_STATUS_field_low

/-- The L+ of group `g` is below 19.2 V. -/
def State.groupLow (s : State) (g : Nat) : Bool := (s.get F.CAP_BOARD_STATUS_group_low).testBit g

/-- A running pulse program drives output `o` ON (R317). -/
def State.pulsesOn (s : State) (o : Nat) : Bool := s.motion.pulses.any (fun u => u.output == o && u.on)

/-- Output `o` is driven by its claim: pulse programs in MILEPOST mode, the host masks in HOST mode (R319). -/
def State.driven (s : State) (o : Nat) : Bool :=
  s.pulsesOn o || (match s.claim o with
    | some (_, c) => c.host && s.fio.hostOn.testBit o
    | none => false)

/-- The supply of output `o` is good (R35). -/
def State.supplied (s : State) (o : Nat) : Bool := !s.fieldLow && !s.groupLow (o / 8)

/-- A diagnostic of Table FIO-1 holds output `o` off. -/
def State.blocked (s : State) (o : Nat) : Bool :=
  s.on (F.FIO_OUT_DIAG_overload o) || s.on (F.FIO_OUT_DIAG_over_temp o) || s.on (F.FIO_OUT_DIAG_isolator o)

/-- Field output `o` is on: driven, supplied, not switched off by a diagnostic, and the module not in the safe state
(R321, R322); the field-I/O island drives it (R93). -/
def State.fieldOut (s : State) (o : Nat) : Bool :=
  s.hasField && s.island 120 && !s.isSafe && s.supplied o && !s.blocked o && s.driven o

/-- PULSE output `d`: high for a divider's pulse or a pulse program, low in the safe state (R312, R317, R322). -/
def State.pulseOut (s : State) (d : Nat) : Bool :=
  s.hasField && !s.isSafe &&
    (((tfind s.motion.dividers d).map (fun v => v.pulse)).getD false && (s.divCfg d).pulse || s.driven (32 + d))

/-- The configuration of safe input `i` and safe output `o`. -/
def State.safeIn (s : State) (i : Nat) : SafeInCfg :=
  s.cfg.safety.inputs.getD i { function := 2, pulses := true, filterUs := 200, discrepancyMs := 50 }
def State.safeOut (s : State) (o : Nat) : SafeOutCfg :=
  s.cfg.safety.outputs.getD o { manual := true, resetInput := none, testMs := 1000, pulseUs := 300 }

/-- Safe input `i` switches safe output `o` (R378). -/
def State.mapped (s : State) (i o : Nat) : Bool :=
  let f := (s.safeIn i).function
  f == 2 || f == o

/-- Input `i` demands, or counts as demanding in SAFE_INPUT_FAULT (R378). -/
def State.demands (s : State) (i : Nat) : Bool :=
  (s.get F.SAFE_IO_demand).testBit i || (s.get F.SAFE_IO_input_fault).testBit i

/-- Some input mapped to safe output `o` demands. -/
def State.outDemand (s : State) (o : Nat) : Bool := (s.mapped 0 o && s.demands 0) || (s.mapped 1 o && s.demands 1)

/-- Channel `ch` of safe output `o` is energised (R379). -/
def State.safeOutOn (s : State) (o ch : Nat) : Bool :=
  s.hasField && (s.get F.SAFE_STATUS_state == safeRECOVERY || s.get F.SAFE_STATUS_state == safeRUN) &&
    !s.outDemand o && !s.fieldLow && !(s.get F.SAFE_IO_held).testBit o && s.safe.outTest != some (o, ch)

/-- A mask from a predicate over the first `n` bits. -/
def maskOf (n : Nat) (f : Nat → Bool) : Nat := (List.range n).foldl (fun m i => if f i then m + 2 ^ i else m) 0

/-- Bring the output pins and their readbacks to what the state drives. -/
def State.driveOutputs (s : State) : State :=
  let fo := maskOf 32 s.fieldOut
  let po := maskOf 8 s.pulseOut
  let so := maskOf 4 (fun k => s.safeOutOn (k / 2) (k % 2))
  let s := (s.set F.FIO_OUT_STATE_on fo).set F.SAFE_IO_outputs so
  let s := s.setB F.FIO_STATUS_safe_state s.isSafe
  { s with fio := { s.fio with pulseOut := po } }

/-- A command in state `s` leads to `u`: the commands that wait stay as they are. -/
def State.become (s u : State) : Host.Outcome State Fault Refusal := .next { u with pending := s.pending }

/-- The outcome of a command: its effect while the module runs, and then the outputs as the new state drives them.
Without power no command changes anything (nothing stays powered without the 48 V supply, R36). -/
def State.run (s : State) (f : State → State) : Host.Outcome State Fault Refusal :=
  s.become (if s.powered then (f s).driveOutputs else s)

end Sys2Proof.Machine
end

