-- ==== Sys2Proof/Machine/Links.lean ====
section
/-! DEFINITION. Links and islands: bridges that fill (R94), the end of link training at start-up (R73, R78), and the
upkeep mode that link and context commands ask for (R110). -/

namespace Sys2Proof.Machine

/-- A word finds the bridge of island `i` full, in direction 0 = toward the core, 1 = from it (R94). -/
def State.bridgeFull (s : State) (i dir : Nat) : State := (s.inc (F.PACE_BRIDGE_full i)).raise Code.BRIDGE_FULL [i, dir]

/-- Upkeep modes of Table ZLD-4. -/
def upkeepLIVE : Nat := 1
def upkeepAGE : Nat := 2
def upkeepBOTH : Nat := 3

/-- The running upkeep mode is AGE alone, so that live upkeep actions are refused (Table PACE-4). -/
def State.ageOnly (s : State) : Bool := s.get F.PACE_STATUS_upkeep_mode == upkeepAGE

/-- Boot phases of Table KEEP-7. -/
def phaseTRAINING : Nat := 5
def phaseBOOTED : Nat := 6

/-- Link kinds of BOOT_TRAINING_FAIL: Table KEEP-9 names the parameter and gives no numbers (DESIGN CHOICE). -/
def linkLANE : Nat := 0
def linkPEER : Nat := 1
def linkTIME : Nat := 2
def linkPCIE : Nat := 3
def linkHBM : Nat := 4

/-- The host port exists under the split (Table HW-4): the sideband sets that the split leaves unused are ignored (R26). -/
def State.hasPort (s : State) (i : Nat) : Bool :=
  i < (match s.cfg.structureSec.split with | 0 => 4 | 1 => 2 | _ => 1)

/-- Lane states of Table LANE-1. -/
def laneDISABLED : Nat := 0
def laneREFWAIT : Nat := 1
def laneLOCK : Nat := 2
def laneEXCHANGE : Nat := 3
def lanePRBS : Nat := 4
def laneUP : Nat := 5
def laneTEST : Nat := 6
def laneFAILED : Nat := 7

/-- Every enabled link is UP or has written BOOT_TRAINING_FAIL: camera lanes, peer sides, TIME ports and PCI Express ports (R73). -/
def State.linksSettled (s : State) : Bool :=
  (upTo 32).all (fun n => !(s.laneCfg n).enabled || s.get (F.LANE_STATUS_state n) == laneUP ||
    s.boot.trainFailed.contains (linkLANE, n)) &&
  !(s.on (F.PEER_SIDE_expected 0) && !s.on F.PEER_STATUS_west_up && !s.boot.trainFailed.contains (linkPEER, 0)) &&
  !(s.on (F.PEER_SIDE_expected 1) && !s.on F.PEER_STATUS_east_up && !s.boot.trainFailed.contains (linkPEER, 1)) &&
  [0, 1].all (fun t => !s.timePort t || !s.safe.down.contains t || s.boot.trainFailed.contains (linkTIME, t)) &&
  (upTo 4).all (fun i => !s.hasPort i || s.boot.pcieUp.testBit i || s.boot.trainFailed.contains (linkPCIE, i)) &&
  (s.boot.hbmUp || s.boot.trainFailed.contains (linkHBM, 0))

/-- While the links train, the module is BOOTED once they are settled (Table BOOT-1): the start-up is complete, and its
duration is shown. -/
def State.checkBooted (s : State) : State :=
  if s.get F.KEEP_STATUS_boot_phase == phaseTRAINING && s.linksSettled then
    let ms := s.boot.startMs + s.clk.now / samplesPerMs
    ((s.set F.KEEP_STATUS_boot_phase phaseBOOTED).set F.KEEP_SELFTEST_boot_ms (min (ms / 10) 255)).raise Code.BOOT_COMPLETE [ms]
  else s

/-- A training step of a link fails (R78): during start-up it writes BOOT_TRAINING_FAIL, once for each link. -/
def State.bootTrainFail (s : State) (kind n : Nat) : State :=
  if s.get F.KEEP_STATUS_boot_phase == phaseTRAINING && !s.boot.trainFailed.contains (kind, n) then
    let s := { s with boot := { s.boot with trainFailed := s.boot.trainFailed ++ [(kind, n)] } }
    (s.raise Code.BOOT_TRAINING_FAIL [kind, n]).checkBooted
  else s

end Sys2Proof.Machine
end

