-- ==== Sys2Proof/Machine/Crc.lean ====
section
/-! DEFINITION. Cyclic redundancy checks: CRC-32 (sheets, Table ROUTE-7), CRC-32C (R262, R368, R383, R389), CRC-64 and the
16-bit line check (Table INTEG-3), and the BiSS CRC6 (Table MOT-2). -/

namespace Sys2Proof.Machine

/-- One byte into a reflected CRC register whose reversed polynomial is `poly`. -/
def crcByte (poly : Nat) (crc : Nat) (b : Byte) : Nat :=
  (List.range 8).foldl (fun c _ => if c % 2 = 1 then (c / 2) ^^^ poly else c / 2) (crc ^^^ b.toNat)

/-- A reflected CRC with initial value and final inversion of `w` ones. -/
def crcReflected (w poly : Nat) (bs : List Byte) : Nat :=
  (bs.foldl (crcByte poly) (2 ^ w - 1)) ^^^ (2 ^ w - 1)

/-- CRC-32, polynomial 0x04C1_1DB7 (reversed 0xEDB8_8320). -/
def crc32 (bs : List Byte) : Nat := crcReflected 32 0xEDB88320 bs

/-- CRC-32C, polynomial 0x1EDC_6F41 (reversed 0x82F6_3B78). -/
def crc32c (bs : List Byte) : Nat := crcReflected 32 0x82F63B78 bs

/-- One bit, the first sent first, into a CRC register of `w` bits with polynomial `poly` (without its top bit). -/
def crcBit (w poly : Nat) (crc : Nat) (b : Bool) : Nat :=
  let top := crc.testBit (w - 1)
  let c := (crc * 2) % 2 ^ w
  if top != b then c ^^^ poly else c

/-- The six-bit BiSS C check of a bit sequence: polynomial 0x43, start value 0, inverted when sent (Table MOT-2). -/
def crc6 (bits : List Bool) : Nat := (bits.foldl (crcBit 6 0x03) 0) ^^^ 0x3F

end Sys2Proof.Machine
end

