-- ==== Sys2Proof/Machine/Sha3.lean ====
section
/-! DEFINITION. SHA3-256 and SHA3-512 (FIPS 202), the digests of R50, R298, R356, R376 and R403 to R408. -/

namespace Sys2Proof.Machine

/-- One step of the register that generates the round constants: the next power of x modulo x^8 + x^6 + x^5 + x^4 + 1. -/
def keccakStep (w : Nat) : Nat := if w < 128 then 2 * w else (2 * w) ^^^ 0x171

/-- The constants of `n` rounds from a register on: each takes its bits 0, 1, 3, 7, 15, 31 and 63 from seven steps. -/
def keccakConsts : Nat → Nat → List (BitVec 64)
  | 0, _ => []
  | n + 1, w =>
    let steps := (List.range 7).foldl (fun (l : List Nat) _ => l ++ [keccakStep (l.getLastD w)]) [w]
    let bits := (List.range 7).filter (fun j => (steps.getD j 0) % 2 == 1)
    BitVec.ofNat 64 ((bits.map (fun j => 2 ^ (2 ^ j - 1))).sum) :: keccakConsts n (steps.getD 7 0)

/-- The moves of rho and pi from lane (x, y) on: the `k`-th lane of the walk turns by (k + 1)(k + 2) / 2 and goes to (y, 2x + 3y). A move
is the lane it leaves, the lane it reaches, and the turn. -/
def keccakWalk : Nat → Nat → Nat → Nat → List (Nat × Nat × Nat)
  | 0, _, _, _ => []
  | n + 1, k, x, y =>
    let z := (2 * x + 3 * y) % 5
    (x + 5 * y, y + 5 * z, (k + 1) * (k + 2) / 2 % 64) :: keccakWalk n (k + 1) y z

/-- The moves of all lanes: lane (0, 0) stays, the walk from (1, 0) visits the others. -/
def keccakMoves : List (Nat × Nat × Nat) := (0, 0, 0) :: keccakWalk 24 0 1 0

/-- Lane `i` of a Keccak state of 25 lanes. -/
def lane (a : List (BitVec 64)) (i : Nat) : BitVec 64 := a.getD i 0

/-- The parity of the column of lane `i`. -/
def keccakParity (a : List (BitVec 64)) (i : Nat) : BitVec 64 := (List.range 5).foldl (fun p k => p ^^^ lane a (i % 5 + 5 * k)) 0

/-- One round of Keccak-f with round constant `rc`: theta, rho and pi along the moves, chi, iota. -/
def keccakRound (a : List (BitVec 64)) (rc : BitVec 64) : List (BitVec 64) :=
  let par := (List.range 5).map (keccakParity a)
  let turned := keccakMoves.map (fun m =>
    let v := lane a m.1 ^^^ lane par ((m.1 + 4) % 5) ^^^ (lane par ((m.1 + 1) % 5)).rotateLeft 1
    (m.2.1, v.rotateLeft m.2.2))
  let b := (List.range 25).map (fun i => ((turned.find? (fun e => e.1 == i)).map (fun e => e.2)).getD 0)
  let row := fun i k => lane b (5 * (i / 5) + (i % 5 + k) % 5)
  (List.range 25).map (fun i =>
    let v := lane b i ^^^ (~~~ (row i 1) &&& row i 2)
    if i = 0 then v ^^^ rc else v)

/-- Keccak-f[1600]: 24 rounds. -/
def keccakF (a : List (BitVec 64)) : List (BitVec 64) := (keccakConsts 24 1).foldl keccakRound a

/-- The 64-bit little-endian lanes of bytes. -/
def lanesOf : Nat → List Byte → List (BitVec 64)
  | 0, _ => []
  | n + 1, bs =>
    ((bs.take 8).foldr (fun b (acc : BitVec 64) => (acc <<< 8) ||| b.setWidth 64) 0) :: lanesOf n (bs.drop 8)

/-- Absorb one block of `r` lanes. -/
def absorb (r : Nat) (a : List (BitVec 64)) (block : List Byte) : List (BitVec 64) :=
  let ls := lanesOf r block
  keccakF ((List.range 25).map (fun i => lane a i ^^^ lane ls i))

/-- Absorb `n` blocks of `8 r` bytes each. -/
def absorbAll (r : Nat) : Nat → List (BitVec 64) → List Byte → List (BitVec 64)
  | 0, a, _ => a
  | n + 1, a, bs => absorbAll r n (absorb r a (bs.take (8 * r))) (bs.drop (8 * r))

/-- The padded message of SHA3 at a rate of `8 r` bytes: bits 01, then 1, zeros and 1. -/
def sha3Pad (r : Nat) (bs : List Byte) : List Byte :=
  let rate := 8 * r
  let k := rate - bs.length % rate
  if k = 1 then bs ++ [0x86] else bs ++ [0x06] ++ List.replicate (k - 2) 0 ++ [0x80]

/-- The bytes of a lane, the lowest first. -/
def laneBytes (l : BitVec 64) : List Byte := (List.range 8).map (fun i => (l >>> (8 * i)).setWidth 8)

/-- SHA3 with a digest of `8 n` bytes: rate 200 - 16 n bytes. -/
def sha3 (n : Nat) (bs : List Byte) : List Byte :=
  let r := 25 - 2 * n
  let m := sha3Pad r bs
  let a := absorbAll r (m.length / (8 * r)) (List.replicate 25 0) m
  ((a.take n).map laneBytes).flatten

/-- SHA3-256 as 32 bytes. -/
def sha3_256 (bs : List Byte) : List Byte := sha3 4 bs

/-- SHA3-512 as 64 bytes. -/
def sha3_512 (bs : List Byte) : List Byte := sha3 8 bs

end Sys2Proof.Machine
end

