-- ==== Sys2Proof/Machine/Results.lean ====
section
/-! DEFINITION. Results and their delivery to the ports (R346 to R353), the per-result digest and its record (R406 to R408),
and the time a result carries (R333, R334). -/

namespace Sys2Proof.Machine

/-! ### Time as results carry it -/

/-- The local clock in nanoseconds, the fraction dropped (R327). -/
def State.localNs (s : State) : Nat := s.clk.sec * 1000000000 + s.clk.ns

/-- Set the local clock to a time in ns. -/
def State.setClock (s : State) (t : Nat) : State :=
  { s with clk := { s.clk with sec := t / 1000000000 % 2 ^ 48, ns := t % 1000000000, frac := 0, rest := 0 } }

/-- The raw milestone count floor(T / I) (R333). -/
def State.rawMs (s : State) : Nat := s.localNs / max s.cfg.pace.milestoneNs 1

/-- The published milestone counter: it never runs backwards (R334). -/
def State.milestone (s : State) : Nat := max s.rawMs s.time.msHold

/-- The schedule period number (ROUTE_PERIOD). -/
def State.period (s : State) : Nat := s.get64 F.ROUTE_PERIOD_LO_number F.ROUTE_PERIOD_HI_number

/-! ### Digests -/

/-- The bytes of a 256-bit digest, byte 0 in the lowest bits. -/
def digestBytes (d : BitVec 256) : List Byte := leBytes 32 d.toNat

/-- The bytes of a 512-bit digest. -/
def digestBytes512 (d : BitVec 512) : List Byte := leBytes 64 d.toNat

/-- A digest from its 32 bytes. -/
def digestOf (bs : List Byte) : BitVec 256 := BitVec.ofNat 256 (leNat bs)

/-- A free digest, for a value that the spec does not state. -/
def State.drawDigest (s : State) : BitVec 256 × State :=
  (BitVec.ofNat 256 ((Config.entropy s.free).toNat), { s with free := s.free + 1 })

/-- The program that partition `p` runs. -/
def State.program (s : State) (p : Nat) : Option ProgramSec := tfind s.cfg.programs p

/-- The section for partition `p` that the build in progress has taken in (R61). -/
def State.takenFor (s : State) (p : Nat) : Option Armed := s.zld.armed.find? (fun a => a.target == p && a.taken)

/-- The program that partition `p` runs once a section has landed: a PARTIAL without PROGRAM leaves the running one. -/
def State.programOf (s : State) (p : Nat) (a : Armed) : Option ProgramSec :=
  if a.partial_ && a.program.isNone then s.program p else a.program

/-- The program of generation `g` of partition `p`: the running one, the one that a build in progress has taken in, or an older
one that R62 still holds. -/
def State.programAt (s : State) (p g : Nat) : Option ProgramSec :=
  let k := tget 0 s.route.gens p
  if g = k then s.program p
  else if k < g then (s.takenFor p).bind (s.programOf p)
  else tfind s.cfg.oldPrograms (oldKey p g)

/-- The program that part `tag` runs on: the one whose sheets its first leg entered (R62). -/
def State.programFor (s : State) (p tag : Nat) : Option ProgramSec :=
  ((tfind s.route.partGens (8 * tag + p)).bind (fun e => s.programAt p e.1)).or (s.program p)

/-- Weights bindings of partition `p` in force in the present period, in ascending set number (R356). -/
def State.boundSets (s : State) (p : Nat) : List Binding :=
  (List.range 16).filterMap (fun w =>
    (s.host.bindings.filter (fun b => b.part == p && b.set == w && b.landing ≤ s.period)).getLast?)

/-- The weights digest: SHA3-256 over the digests of the bound sets that program `g` names (R406). -/
def State.weightsDigest (s : State) (p : Nat) (g : Option ProgramSec) : BitVec 256 :=
  let named := (g.map (fun g => g.weights.map (fun w => w.set))).getD []
  digestOf (sha3_256 (((s.boundSets p).filter (fun b => named.contains b.set)).flatMap (fun b => digestBytes b.digest)))

/-- The bytes of "CHX-RESULT-1". -/
def resultTag : List Byte := [0x43, 0x48, 0x58, 0x2D, 0x52, 0x45, 0x53, 0x55, 0x4C, 0x54, 0x2D, 0x31]

/-- Payload bytes 120 to 255 with every variable byte replaced by zero (R406). -/
def maskTail (tail : List Byte) (mask : Nat) : List Byte :=
  (List.range 136).map (fun b => if mask.testBit b then 0 else tail.getD b 0)

/-- The per-result digest (R406) of a result that program `g` produced: for a VERDICT `leg` is the verdict byte and the two cause
bytes, for an OUTPUT empty. -/
def State.resultDigest (s : State) (p : Nat) (g : Option ProgramSec) (input : BitVec 256) (leg tail : List Byte) (mask : Nat) :
    BitVec 256 :=
  let prog := (g.map (fun g => g.digest)).getD 0
  digestOf (sha3_256 (resultTag ++ digestBytes512 prog ++ digestBytes (s.weightsDigest p g) ++ digestBytes input ++ leg ++
    maskTail tail mask))

/-- Write the digest record of a result into the partition's digest ring, the valid mark last (R408, Table INTEG-8). -/
def State.digestRecord (s : State) (p : Nat) (g : Option ProgramSec) (resNum subject : Nat) (input d : BitVec 256)
    (mask legV legC : Nat) : State :=
  match g with
  | none => s
  | some g =>
    if g.digestDepth = 0 then s
    else
      let bs := leBytes 4 0x54534744 ++ leBytes 4 resNum ++ leBytes 3 s.cfg.structureSec.nodeId ++ leBytes 1 p ++
        leBytes 4 subject ++ leBytes 8 s.milestone ++ digestBytes512 g.digest ++ digestBytes (s.weightsDigest p (some g)) ++
        digestBytes input ++ digestBytes d ++ leBytes 4 g.build ++ leBytes 17 mask ++ leBytes 1 legV ++ leBytes 2 legC ++
        List.replicate 47 0 ++ [0xA5]
      s.putBytes (s.partAddr p (g.digestRing + 256 * (resNum % g.digestDepth))) bs

/-! ### Rings -/

/-- The size N of a ring (R347). -/
def State.ringSize (s : State) (i p : Nat) : Nat := 2 ^ s.get (F.HOST_RES_CFG_size i p)

/-- Port and partition as one key. -/
def ppKey (i p : Nat) : Nat := 8 * i + p

/-- Bring HOST_RES_STATE[p].pending of port `i` to the number of PENDING slots. -/
def State.countPending (s : State) (i p : Nat) : State :=
  s.set (F.HOST_RES_STATE_pending i p)
    (s.host.slots.filter (fun x => x.port == i && x.part == p && x.state == 1)).length

/-- Drop a result for port `i` (R347). -/
def State.dropResult (s : State) (i p : Nat) : State :=
  let n := tget 0 s.host.dropsSince (ppKey i p) + 1
  let s := { s with host := { s.host with dropsSince := tset 0 s.host.dropsSince (ppKey i p) n } }
  ((s.inc (F.HOST_RES_DROP_count i p)).raise Code.HOST_RESULT_OVERFLOW [i, p, n]).fire i 0

/-- Port `i` allocates its copy of a result of partition `p`, if it subscribes (R346, R347). -/
def State.allocPort (s : State) (i p resNum kind : Nat) : State :=
  if !s.on (F.HOST_RES_CFG_enable i p) then s
  else
    let seq := s.get (F.HOST_RES_SEQ_next i p)
    let s := s.incWrap (F.HOST_RES_SEQ_next i p)
    let n := s.ringSize i p
    let push := s.on (F.HOST_RES_CFG_mode i p)
    let full := if push then
        s.on (F.HOST_RES_STATE_push_stopped i p) ||
          (seq + 2 ^ 32 - s.get (F.HOST_PUSH_HEAD_seq i p)) % 2 ^ 32 ≥ n
      else s.host.slots.any (fun x => x.port == i && x.part == p && x.seq % n == seq % n)
    if full then s.dropResult i p
    else
      let drops := if push then 0 else min (tget 0 s.host.dropsSince (ppKey i p)) 65535
      let slot : Slot := { port := i, part := p, push := push, seq := seq, kind := kind, drops := drops,
                           milestone := s.milestone, resNum := resNum, reads := 0, state := 1, payload := none }
      let ds := if push then s.host.dropsSince else tset 0 s.host.dropsSince (ppKey i p) 0
      ({ s with host := { s.host with slots := s.host.slots ++ [slot], dropsSince := ds } }).countPending i p

/-- Allocate a result for every subscribing port; answers the partition result number (R347, R408). -/
def State.alloc (s : State) (p kind : Nat) : Nat × State :=
  let n := tget 0 s.host.resNum p
  let s := { s with host := { s.host with resNum := tset 0 s.host.resNum p ((n + 1) % 2 ^ 32) } }
  (n, s.each [0, 1, 2, 3] (fun s i => s.allocPort i p n kind))

/-- The 256 bytes of a result (Tables HOST-4, HOST-5). -/
def slotBytes (x : Slot) : List Byte :=
  let head := leBytes 4 x.seq ++ leBytes 1 x.kind ++ leBytes 1 x.part ++ leBytes 2 x.drops ++ leBytes 8 x.milestone ++
    leBytes 4 x.resNum ++ List.replicate 8 0 ++ leBytes 2 x.reads ++ leBytes 1 x.state ++ [0xA5]
  match x.payload with
  | none => head ++ List.replicate 224 0
  | some y =>
    let verdict := x.kind == 1
    head ++ leBytes 4 y.subject ++ leBytes 1 y.outcome ++ leBytes 1 y.carried ++ leBytes 2 y.cause ++
      (if verdict then leBytes 1 y.chan ++ leBytes 1 y.output ++ leBytes 1 y.flags ++ [0] else leBytes 4 y.iteration) ++
      (if verdict then leBytes 8 (ofSigned 64 y.stamp) ++ leBytes 8 (ofSigned 64 y.target) else List.replicate 16 0) ++
      leBytes 4 y.latency ++ leBytes 8 y.milestone ++ leBytes 6 y.sec ++ leBytes 4 y.ns ++ [0, 0] ++ digestBytes y.digest ++
      leBytes 4 y.build ++ (List.range 136).map (fun b => y.tail.getD b 0)

/-- Signal one new READY result of partition `p` on port `i` (R353). -/
def State.coalesce (s : State) (i p : Nat) : State :=
  let n := tget 0 s.host.waiting (ppKey i p) + 1
  let c := s.get (F.HOST_RES_CFG_coalesce i p)
  if n ≥ c then ({ s with host := { s.host with waiting := tset 0 s.host.waiting (ppKey i p) 0 } }).fire i (16 + p)
  else { s with host := { s.host with waiting := tset 0 s.host.waiting (ppKey i p) n } }

/-- The later of two sequence numbers modulo 2^32. -/
def laterOf (a b : Nat) : Nat := if (b + 2 ^ 32 - a) % 2 ^ 32 < 2 ^ 31 then b else a

/-- One slot becomes READY with payload `y`: in SLOT mode in place, in PUSH mode by a write into host memory, body first
and state word last, unless the push was stopped or its ring is full (R349, R352, R360). -/
def State.readySlot (s : State) (x : Slot) (y : Payload) : State :=
  let others := s.host.slots.filter (fun z => !(z.port == x.port && z.part == x.part && z.seq == x.seq))
  if x.push then
    let s := { s with host := { s.host with slots := others } }.countPending x.port x.part
    let full := (x.seq + 2 ^ 32 - s.get (F.HOST_PUSH_HEAD_seq x.port x.part)) % 2 ^ 32 ≥ s.ringSize x.port x.part
    if s.on (F.HOST_RES_STATE_push_stopped x.port x.part) || full then s.dropResult x.port x.part
    else
      let k := ppKey x.port x.part
      let x := { x with state := 2, payload := some y, drops := min (tget 0 s.host.dropsSince k) 65535 }
      let base := s.get64 (F.HOST_PUSH_LO_addr x.port x.part) (F.HOST_PUSH_HI_addr x.port x.part)
      let w : HostWrite := { port := x.port, addr := base + 256 * (x.seq % s.ringSize x.port x.part), bytes := slotBytes x }
      ({ s with host := { s.host with writes := s.host.writes ++ [w], dropsSince := tset 0 s.host.dropsSince k 0,
                                      pushTop := tset 0 s.host.pushTop k (laterOf (tget 0 s.host.pushTop k) ((x.seq + 1) % 2 ^ 32)) } }
        ).coalesce x.port x.part
  else
    let x1 := { x with state := 2, payload := some y }
    let slots := s.host.slots.map (fun z => if z.port == x.port && z.part == x.part && z.seq == x.seq then x1 else z)
    (({ s with host := { s.host with slots := slots } }).countPending x.port x.part).coalesce x.port x.part

/-- The result `resNum` of partition `p` becomes READY on every port that holds it PENDING (R349). -/
def State.ready (s : State) (p resNum : Nat) (y : Payload) : State :=
  s.each (s.host.slots.filter (fun x => x.part == p && x.resNum == resNum && x.state == 1)) (fun s x => s.readySlot x y)

/-- Outcome numbers of Table HOST-5. -/
def outGOOD : Nat := 1
def outBAD : Nat := 2
def outINVALID : Nat := 3
def outLATE : Nat := 4
def outENDED : Nat := 5

/-- Settle a VERDICT subject with an outcome (R349): a verdict in `v` brings its stamp, output and digest; without one the
spec states no digest, stamp or latency, and these are free.  A settled outcome never changes. -/
def State.settle (s : State) (u : Subject) (outcome carried cause flags : Nat) (v : Option VerdictIn) : State :=
  if u.settled then s
  else
    let prog := s.programFor u.part u.tag
    let (d, s, stamp, tail, lat) := match v with
      | some v =>
        let leg := (v.record.drop 2).take 1 ++ (v.record.drop 20).take 2
        let dg := s.resultDigest u.part prog v.inputDigest leg v.tail v.variableMask
        let cap := recField v.record 72 4 * 1000000000 + recField v.record 76 4
        let now := (s.clk.sec % 2 ^ 32) * 1000000000 + s.clk.ns
        let s1 := s.digestRecord u.part prog u.resNum u.tag v.inputDigest dg v.variableMask (recField v.record 2 1)
          (recField v.record 20 2)
        (dg, s1, toSigned 64 (recField v.record 12 8), v.tail,
          if outcome = outLATE then 2 ^ 32 - 1 else (now - cap) % 2 ^ 32)
      | none =>
        let (dg, s1) := s.drawDigest
        let (st, s1) := s1.draw
        let (la, s1) := s1.draw
        (dg, s1, toSigned 64 st, [], if outcome = outLATE then 2 ^ 32 - 1 else la % 2 ^ 32)
    let y : Payload := { subject := u.tag, outcome := outcome, carried := carried, cause := cause, chan := u.chan,
                         output := u.output, flags := flags, iteration := 0, stamp := stamp, target := u.target,
                         latency := lat, milestone := s.milestone, sec := s.clk.sec, ns := s.clk.ns, digest := d,
                         build := (prog.map (fun g => g.build)).getD 0, tail := tail }
    let subs := s.host.subjects.map (fun z =>
      if z.part == u.part && z.resNum == u.resNum then { z with settled := true } else z)
    ({ s with host := { s.host with subjects := subs } }).ready u.part u.resNum y

/-- Open a VERDICT subject for an accepted arm and allocate its result (R347). -/
def State.openSubject (s : State) (p tag : Nat) (key : Option Nat) (ch out : Nat) (target : Int) : State :=
  let (n, s) := s.alloc p 1
  let joins := s.host.subjects.any (fun u => u.kind == 1 && u.part == p && u.tag == tag && !u.settled)
  let u : Subject := { part := p, resNum := n, kind := 1, tag := tag, key := key, chan := ch, output := out,
                       target := target, flags := 0, firedPeriod := none, settled := false, joins := joins }
  { s with host := { s.host with subjects := s.host.subjects ++ [u] } }

end Sys2Proof.Machine
end

