-- ==== Sys2Proof/Machine/SafeOps.lean ====
section
/-! DEFINITION. Entering the safe state and the safety message (R322, R380, R381, R383), the causes that persist, and the
end of pulse programs, which other blocks call. -/

namespace Sys2Proof.Machine

/-! ### Milepost entries and pulse programs -/

/-- The key of entry `i` of channel `ch`. -/
def mpKey (ch i : Nat) : Nat := 4096 * ch + i

/-- Set or free one entry, and bring MOT_CH_MP[n].armed to the number of entries in use. -/
def State.setEntry (s : State) (key : Nat) (e : Option Milepost) : State :=
  let t := match e with
    | some v => tput s.motion.entries key v
    | none => tdel s.motion.entries key
  let ch := key / 4096
  ({ s with motion := { s.motion with entries := t } }).set (F.MOT_CH_MP_armed ch)
    (t.filter (fun (x : Nat × Milepost) => x.1 / 4096 == ch)).length

/-- A pulse program ends: its output is released and its FIRING entry freed (R316). -/
def State.endPulse (s : State) (u : Pulse) : State :=
  let s := { s with motion := { s.motion with
    pulses := s.motion.pulses.filter (fun v => !(v.entry == u.entry && v.serial == u.serial)) } }
  match tfind s.motion.entries u.entry with
  | some e => if e.state == 3 && e.serial == u.serial then s.setEntry u.entry none else s
  | none => s

/-- Every running pulse program ends (R322). -/
def State.endAllPulses (s : State) : State := s.each s.motion.pulses State.endPulse

/-! ### The safety message (R383, Table SAFE-9) -/

/-- The byte of input channels and demands (byte 15). -/
def State.safeInByte (s : State) : Nat :=
  s.get F.SAFE_IO_inputs + 16 * s.get F.SAFE_IO_demand + 64 * bit (s.get F.SAFE_IO_input_fault != 0)

/-- The 48 bytes of a safety message with cause `cause`.  Table SAFE-9 gives its multi-byte fields no byte order, and R11 does not list the
message: they stand little-endian (DESIGN CHOICE). -/
def State.safetyBytes (s : State) (cause : Nat) : List Byte :=
  let outs := maskOf 4 (fun k => s.safeOutOn (k / 2) (k % 2))
  let b := leBytes 2 0x5346 ++ [1] ++ leBytes 1 (s.get F.SAFE_STATUS_state + 1) ++ leBytes 4 s.cfg.structureSec.nodeId ++
    leBytes 4 (s.get F.SAFE_MSG_counter) ++ leBytes 2 cause ++ leBytes 1 outs ++ leBytes 1 s.safeInByte ++
    leBytes 8 s.milestone ++ leBytes 5 s.opSeconds ++ leBytes 3 (s.get F.KEEP_POWER_CYCLES_count) ++ List.replicate 12 0
  b ++ leBytes 4 (crc32c (leBytes 4 s.cfg.safety.key ++ b))

/-- The TIME port has a link: its islands are enabled (R93) and the Ethernet link is up. -/
def State.timeLinked (s : State) (tp : Nat) : Bool := s.timePort tp && !s.safe.down.contains tp

/-- Send the safety message with a cause on each TIME port that the SAFETY section names; a port without a link sends
nothing and writes SAFE_MSG_LINK (R383).  The DXM-9640-V sends none (R365). -/
def State.sendSafetyWith (s : State) (cause : Nat) : State :=
  if !s.hasField then s
  else
    let some_ := [0, 1].any (fun tp => s.cfg.safety.msgPorts.testBit tp && s.timeLinked tp)
    let s := if some_ then s.incWrap F.SAFE_MSG_counter else s
    let b := s.safetyBytes cause
    s.each [0, 1] (fun s tp =>
      if !s.cfg.safety.msgPorts.testBit tp then s
      else if s.timeLinked tp then { s with safe := { s.safe with msgs := s.safe.msgs ++ [{ port := tp, bytes := b }] } }
      else s.raise Code.SAFE_MSG_LINK [tp, 1])

/-- The code of the safe-state cause, 0 outside SAFE. -/
def State.safeCause (s : State) : Nat := if s.isSafe then s.get F.SAFE_CAUSE_code else 0

/-- Send the safety message of the present state. -/
def State.sendSafety (s : State) : State := s.sendSafetyWith s.safeCause

/-! ### Causes and the safe state -/

/-- Keep SAFE_STATUS.cause_active at "a cause persists". -/
def State.setActive (s : State) (l : List Nat) : State :=
  ({ s with safe := { s.safe with active := l } }).setB F.SAFE_STATUS_cause_active (!l.isEmpty)

/-- A cause persists from now on. -/
def State.causeOn (s : State) (code : Nat) : State :=
  if s.safe.active.contains code then s else s.setActive (s.safe.active ++ [code])

/-- A cause persists no longer. -/
def State.causeOff (s : State) (code : Nat) : State := s.setActive (s.safe.active.filter (fun c => c != code))

/-- The source unit field of a waymark: kind in [15:8], instance in [7:0]. -/
def sourceUnit (kind inst : Nat) : Nat := 256 * kind + inst % 256

/-- Enter the safe state with a cause (R380, R381): latched with its cause; every pulse program ends and every HOST-mode
output stays off (R322); the safety message is sent; vector 7 fires.  While the module is in the safe state a further cause
leaves the latched one. -/
def State.enterSafe (s : State) (code unit : Nat) : State :=
  if s.isSafe then s
  else
    let s := (s.set F.SAFE_STATUS_state safeSAFE).set F.SAFE_CAUSE_code code
    let s := (s.inc F.SAFE_CAUSE_entries).raise Code.SAFE_STATE_ENTERED [code, unit]
    let s := { s.endAllPulses with fio := { s.fio with hostOn := 0 } }
    let s := { s with safe := { s.safe with enteredAt := s.clk.now, outTest := none } }
    (s.sendSafety).fireAll 7

/-- Enter the safe state with a cause that persists until it is removed. -/
def State.enterSafeHeld (s : State) (code unit : Nat) : State := (s.causeOn code).enterSafe code unit

/-- The partition is a SAFETY partition of the running structure. -/
def State.isSafetyPart (s : State) (p : Nat) : Bool := (s.part p).defined && (s.part p).criticality == critSAFETY

/-! ### Window watchdogs (R371) and the frame phases of contexts (R372) -/

/-- Watchdog kinds of Table SAFE-4. -/
def wdBUILDER : Nat := 0
def wdSHEET : Nat := 1
def wdCONTEXT : Nat := 2
def wdTRACKER : Nat := 3
def wdSTEP : Nat := 4
def wdMILEPOST : Nat := 5
def wdTIMEBASE : Nat := 6
def wdCHECKER : Nat := 7

/-- The watchdogs that the SAFETY section declares for a kind and target, by their index. -/
def State.watchdogs (s : State) (kind target : Nat) : List Nat :=
  (upTo 64).filter (fun w => match s.cfg.safety.watchdogs[w]? with
    | some g => g.kind == kind && g.target == target
    | none => false)

/-- A kick of watchdog `w`: the first, and the first after a missing one, begins a window; a further kick, within its
window, ends its PARTITION reaction and counts one row toward the end of its CONTEXT reaction. -/
def State.kick (s : State) (w : Nat) : State :=
  let s := (s.setB (F.SAFE_WDOG_armed w) true)
  let t := (s.cfg.safety.watchdogs[w]?.map (fun g => g.target)).getD 0
  let n := tget 0 s.safe.ctxMiss t
  let within := (tfind s.safe.kicked w).isSome
  let miss := if within && (s.cfg.safety.watchdogs[w]?.map (fun g => g.reaction)) == some 0 then
      tset 0 s.safe.ctxMiss t (n - 1)
    else s.safe.ctxMiss
  let parts := if within then s.safe.partMiss.filter (fun x => x != w) else s.safe.partMiss
  { s with safe := { s.safe with kicked := tput s.safe.kicked w s.clk.now, partMiss := parts, ctxMiss := miss } }

/-- The stage of a kind kicks the watchdogs that watch it. -/
def State.kickAll (s : State) (kind target : Nat) : State := s.each (s.watchdogs kind target) State.kick

/-- The stage of a kind that has one instance in the module kicks every watchdog that watches it. -/
def State.kickKind (s : State) (kind : Nat) : State :=
  s.each ((upTo 64).filter (fun w => (s.cfg.safety.watchdogs[w]?.map (fun g => g.kind)) == some kind)) State.kick

/-- Frame phases of SAFE_CTX (Table SAFE-12). -/
def ctxNOREF : Nat := 0
def ctxFROZEN : Nat := 1
def ctxNORMAL : Nat := 2

/-- A context enters NO_REFERENCE (R372). -/
def State.noReference (s : State) (c : Nat) : State :=
  let s := s.set (F.SAFE_CTX_phase c) ctxNOREF
  { s with safe := { s.safe with signature := tdel s.safe.signature c, run := tset 0 s.safe.run c 0
                                 refMissed := s.safe.refMissed.filter (fun x => x != c) } }

/-- The checker sees a frame of context `c` end (R372): outside NORMAL its signature is compared with that of the frame
before it; `jump` is FRAME_SKIP or FRAME_REPEAT. -/
def State.frameSeen (s : State) (c frame sig : Nat) (jump : Bool) : State :=
  if s.get (F.SAFE_CTX_phase c) == ctxNORMAL then s
  else
    let old := tfind s.safe.signature c
    let steps := frame == (tget 0 s.safe.frameNo c + 1) % 2 ^ 32
    let s := { s with safe := { s.safe with signature := tput s.safe.signature c sig, frameNo := tput s.safe.frameNo c frame } }
    match old with
    | none => s
    | some o =>
      if o == sig || jump then
        let s := { s with safe := { s.safe with run := tset 0 s.safe.run c 0 } }
        (s.set (F.SAFE_CTX_phase c) ctxFROZEN).raise Code.FROZEN_FRAME [c, frame]
      else
        let n := if steps then tget 0 s.safe.run c + 1 else 0
        let s := { s with safe := { s.safe with run := tset 0 s.safe.run c n } }
        if n ≥ s.cfg.safety.frozenFrames then s.set (F.SAFE_CTX_phase c) ctxNORMAL else s

/-- The pipeline reports row `row` of a context LOST to the checker, for lost line `line` with the cause code of R17. -/
def State.reportLost (s : State) (ctx row line code : Nat) : State :=
  { s with safe := { s.safe with lostLines := { ctx := ctx, row := row, line := line, code := code } :: s.safe.lostLines } }

/-- At line count `n` of context `c` the reports of rows that lie 2^31 lines or more back, whose counts are about to return, are gone. -/
def State.ageLost (s : State) (c n : Nat) : State :=
  { s with safe := { s.safe with lostLines := s.safe.lostLines.filter (fun e => e.ctx != c || (n + 2 ^ 32 - e.row) % 2 ^ 32 < 2 ^ 31) } }

/-- The code of the unit that lost line `n` of context `c`. -/
def State.lostCode (s : State) (c n : Nat) : Nat :=
  ((s.safe.lostLines.find? (fun e => e.ctx == c && e.row == n && e.line == n)).map (fun e => e.code)).getD Code.ISP_LINE_FAULT

/-- The lost lines of context `c` belong to line counts that a restart of the context has left behind. -/
def State.forgetLost (s : State) (c : Nat) : State :=
  { s with safe := { s.safe with lostLines := s.safe.lostLines.filter (fun e => e.ctx != c) } }

/-! ### Test items (R373, R375) and recovery (R382) -/

/-- Keep SAFE_STATUS.overdue at "an item is overdue", and end the cause TEST_OVERDUE with the last. -/
def State.showOverdue (s : State) : State :=
  let any := (upTo 9).any (fun t => s.on (F.SAFE_TEST_overdue t))
  let s := s.setB F.SAFE_STATUS_overdue any
  if any then s else s.causeOff Code.TEST_OVERDUE

/-- Test item `t` completes a run, passed or failed; its overdue flag clears (R375). -/
def State.testDone (s : State) (t : Nat) (failed : Bool) : State :=
  let s := ((s.inc (F.SAFE_TEST_completions t)).setB (F.SAFE_TEST_failed t) failed).set (F.SAFE_TEST_overdue t) 0
  ({ s with safe := { s.safe with testAt := tset 0 s.safe.testAt t s.clk.now } }).showOverdue

/-- The time in ms since the last completion of item `t`, as SAFE_TEST.age_ms shows it. -/
def State.testAge (s : State) (t : Nat) : Nat := min 4095 ((s.clk.now - tget 0 s.safe.testAt t) / samplesPerMs)

/-- The checker leaves RECOVERY for RUN once the first golden frame of every context has passed (Table SAFE-12, R382). -/
def State.recoveryCheck (s : State) : State :=
  if s.get F.SAFE_STATUS_state == safeRECOVERY &&
      (upTo 64).all (fun c => !(s.ctxCfg c).defined || s.safe.goldenSeen.contains c) then
    (s.set F.SAFE_STATUS_state safeRUN).sendSafety
  else s

/-- The golden frame of context `c` gave digest `d` (R376). -/
def State.goldenJudge (s : State) (c : Nat) (d : BitVec 256) : State :=
  let want := (s.cfg.safety.goldens.find? (fun g => g.ctx == c)).map (fun g => g.digest)
  if want == some d then
    let s := ((s.inc (F.SAFE_CTX_golden_passed c)).set (F.SAFE_CTX_mismatches c) 0).set (F.SAFE_CTX_golden_fail c) 0
    let s := { s with safe := { s.safe with goldenSeen := if s.safe.goldenSeen.contains c then s.safe.goldenSeen
                                                           else s.safe.goldenSeen ++ [c] } }
    let s := if (upTo 64).any (fun k => s.on (F.SAFE_CTX_golden_fail k)) then s else s.causeOff Code.GOLDEN_FAIL
    (s.testDone 5 false).recoveryCheck
  else
    let s := s.raise Code.GOLDEN_FAIL [c, d.toNat % 2 ^ 32]
    let s := (s.set (F.SAFE_CTX_golden_fail c) 1).inc (F.SAFE_CTX_mismatches c)
    let s := s.testDone 5 true
    if s.get (F.SAFE_CTX_mismatches c) ≥ s.cfg.safety.goldenLimit then
      s.enterSafeHeld Code.GOLDEN_FAIL (sourceUnit 0x11 255)
    else s

end Sys2Proof.Machine
end

