-- ==== Sys2Proof/Machine/Lane.lean ====
section
/-! DEFINITION. Camera lanes (R251 to R270): training, test loops, packets and their checks, NAK, resend and RESYNC, and
handing lines on to the pipeline channel's lay-by buffer (R286). -/

namespace Sys2Proof

/-- Header fields of a packet (Table LANE-2). -/
def Packet.kind (p : Packet) : Nat := p.head.toNat % 16
def Packet.stream (p : Packet) : Nat := p.head.toNat / 256 % 8
def Packet.seq (p : Packet) : Nat := p.head.toNat / 2 ^ 16 % 65536
def Packet.length (p : Packet) : Nat := p.head.toNat / 2 ^ 32 % 65536
def Packet.index (p : Packet) : Nat := p.head.toNat / 2 ^ 48
/-- The payload without its padding. -/
def Packet.payload (p : Packet) : List Byte := p.data.take p.length

end Sys2Proof

namespace Sys2Proof.Machine

/-! ### Lanes and streams -/

/-- A lane at start: the first retry follows after 1 ms (R257). -/
def lane0 : Lane :=
  { retryMs := 1, retrainWait := false, lastWord := 0, words := 0, eqPre := 0, eqPost := 0, test := none, resyncs := []
    unknownAt := none, response := none }

/-- A stream at start. -/
def stream0 : Stream :=
  { line := none, stale := none, naks := 0, nakCause := 0, lostFrom := none, lostCause := 0, resynced := false, trigs := [], missed := [] }

def State.laneAt (s : State) (n : Nat) : Lane := tget lane0 s.lane.lanes n
def State.setLane (s : State) (n : Nat) (l : Lane) : State :=
  { s with lane := { s.lane with lanes := tset lane0 s.lane.lanes n l } }
def State.streamAt (s : State) (n k : Nat) : Stream := tget stream0 s.lane.streams (8 * n + k)
def State.setStream (s : State) (n k : Nat) (x : Stream) : State :=
  { s with lane := { s.lane with streams := tset stream0 s.lane.streams (8 * n + k) x } }

/-- The state of a lane (Table LANE-1). -/
def State.laneState (s : State) (n : Nat) : Nat := s.get (F.LANE_STATUS_state n)

/-- The context of stream `k` of lane `n`, if STRUCTURE defines one. -/
def State.laneCtx (s : State) (n k : Nat) : Option Nat :=
  (upTo 64).find? (fun c => (s.ctxCfg c).defined && (s.ctxCfg c).lane == n && (s.ctxCfg c).stream == k)

/-- The contexts of lane `n`. -/
def State.laneCtxs (s : State) (n : Nat) : List Nat :=
  (upTo 64).filter (fun c => (s.ctxCfg c).defined && (s.ctxCfg c).lane == n)

/-- Stream states of LANE_STREAM (Table LANE-7). -/
def stNONE : Nat := 0
def stANY : Nat := 1
def stORDER : Nat := 2
def stRESEND : Nat := 3

def State.streamState (s : State) (n k : Nat) : Nat := s.get (F.LANE_STREAM_state n k)

/-- The first line of a stream that it has not accepted: the open or expected line, or the line from which lines are
missing (R266 to R268). -/
def State.firstMissing (s : State) (n k : Nat) : Option Nat :=
  if s.streamState n k == stORDER || s.streamState n k == stRESEND then some (s.get (F.LANE_STREAM_next_seq n k))
  else (s.streamAt n k).lostFrom

/-- The packet being received on every stream is dropped, and each stream expects any number with a cause for the lines
that turn out missing (R258, R267). -/
def State.dropStream (s : State) (n k st cause : Nat) : State :=
  let x := s.streamAt n k
  (s.setStream n k { x with line := none, stale := none, naks := 0, lostFrom := s.firstMissing n k, lostCause := cause, resynced := st == stANY }).set
    (F.LANE_STREAM_state n k) st

/-! ### Back-channel (R261, R262, R264) -/

/-- The CRC of a packet over its four fold bytes, its header and its padded payload (R262). -/
def packetCrc (lane stream seq : Nat) (head data : List Byte) : Nat :=
  (crc32 (leBytes 1 lane ++ leBytes 1 stream ++ leBytes 2 seq ++ head ++ data))

/-- Pad a payload with zeros to whole data blocks. -/
def pad8 (bs : List Byte) : List Byte := bs ++ List.replicate ((8 - bs.length % 8) % 8) 0

/-- Send a packet on the back-channel of lane `n`: header, padded payload, trailer (Table LANE-2). -/
def State.sendBack (s : State) (n kind stream seq : Nat) (payload : List Byte) : State :=
  let head := leBytes 1 kind ++ leBytes 1 stream ++ leBytes 2 seq ++ leBytes 2 payload.length ++ [0, 0]
  let data := pad8 payload
  let bs := head ++ data ++ leBytes 4 (packetCrc n stream seq head data) ++ List.replicate 4 0
  { s with lane := { s.lane with out := s.lane.out ++ [(n, bs)] } }

/-- A CTRL TRIGGER packet (Table LANE-4). -/
def State.sendTrigger (s : State) (n mask number count : Nat) : State :=
  s.sendBack n 5 0 number ([1] ++ leBytes 1 mask ++ leBytes 2 number ++ leBytes 4 count)

/-- A NAK for line `seq` of a stream with its cause. -/
def State.sendNak (s : State) (n k seq cause : Nat) : State :=
  (s.sendBack n 6 k seq (leBytes 2 seq ++ leBytes 1 cause ++ List.replicate 5 0)).inc (F.LANE_NAK_sent n)

/-- The module's RESYNC: the stream accepts any number from now on, and the lines from the missing one are lost when the
next LINE_START arrives (R266). -/
def State.sendResync (s : State) (n k cause : Nat) : State :=
  let s := s.dropStream n k stANY cause
  let s := s.inc (F.LANE_LOST_resyncs n)
  s.sendBack n 7 k 0xFFFF (leBytes 2 0xFFFF ++ leBytes 1 cause ++ List.replicate 5 0)

/-! ### Handing on (R263, R286) -/

def chan0Isp : IspChan := { queue := [], golden := none }
def State.ispChan (s : State) (n : Nat) : IspChan := tget chan0Isp s.isp.chans n
def State.setIspChan (s : State) (n : Nat) (c : IspChan) : State :=
  { s with isp := { s.isp with chans := tset chan0Isp s.isp.chans n c } }

/-- The bytes that one waiting item occupies in the lay-by buffer. -/
def layBytes : LayItem → Nat
  | .line l => if l.waited then l.data.length else 0
  | .mark _ _ _ _ => 0

/-- Capacity of a lay-by buffer. -/
def layCapacity : Nat := 2097152

/-- Bring the occupancy registers of channel `n` to what waits there. -/
def State.showLayby (s : State) (n : Nat) : State :=
  let b := ((s.ispChan n).queue.map layBytes).foldl (· + ·) 0
  (s.set (F.ISP_LAYBY_bytes n) b).set (F.ISP_LAYBY_PEAK_bytes n) (max b (s.get (F.ISP_LAYBY_PEAK_bytes n)))

/-- Hand a line on to its channel: it enters at once where the channel is free, or waits in the lay-by; a line that finds
the lay-by full is handed to its context as LOST (R286). -/
def State.handOn (s : State) (ch : Nat) (l : LineIn) : State :=
  let c := s.ispChan ch
  let wait := c.golden.isSome || !c.queue.isEmpty
  let l := { l with waited := wait }
  let used := (c.queue.map layBytes).foldl (· + ·) 0
  if wait && !l.lost && used + l.data.length > layCapacity then
    let s := (s.inc (F.ISP_LAYBY_LOST_lines ch)).raise Code.LAYBY_LINE_LOST [ch, l.ctx, 1]
    s.setIspChan ch { c with queue := c.queue ++
      [.line { l with data := [], lost := true, waited := false, code := Code.LAYBY_LINE_LOST }] }
  else (s.setIspChan ch { c with queue := c.queue ++ [.line l] }).showLayby ch

/-- Hand on line `seq` of a stream as LOST with the stamp of its trigger record, and the cause code of R17. -/
def State.handLost (s : State) (n k seq code : Nat) : State :=
  let s := s.inc (F.LANE_LOST_lines n)
  match s.laneCtx n k with
  | none => s
  | some c =>
    let t := (s.streamAt n k).trigs.find? (fun t => t.number == seq)
    let (stamp, s) := match t with
      | some t => (t.count, s)
      | none => let (v, s) := s.draw; (v % 2 ^ 32, s)
    s.handOn (s.laneCfg n).channel
      { ctx := c, seq := seq, stamp := stamp, pixels := 0, format := 0, data := [], headStatus := 0, lost := true
        short := false, long := false, code := code, at_ := s.clk.now, local_ := s.localNs, trigAt := t.map (fun t => t.at_)
        waited := false }

/-- Hand on `m` lines from `first` as LOST, in sequence order. -/
def State.handLostRun (s : State) (n k first m code : Nat) : State :=
  s.each (upTo m) (fun s i => s.handLost n k ((first + i) % 65536) code)

/-! ### Training (R256 to R260) -/

/-- A lane leaves UP: lines that were to come are missing with cause 0xFE (R258, R268), and its contexts enter
NO_REFERENCE (R372). -/
def State.laneGone (s : State) (n : Nat) : State :=
  if s.laneState n != laneUP then s
  else
    let s := s.setBit F.LANE_UP_MASK_up n false
    let s := s.each (upTo 8) (fun s k => if (s.laneCtx n k).isSome then s.dropStream n k stNONE 0xFE else s)
    s.each (s.laneCtxs n) State.noReference

/-- The transmit equalisation of LANE_TXEQ takes effect as a training of lane `n` starts (R253). -/
def State.takeTaps (s : State) (n : Nat) : State :=
  s.setLane n { s.laneAt n with eqPre := s.get (F.LANE_TXEQ_pre n), eqPost := s.get (F.LANE_TXEQ_post n) }

/-- A test of lane `n` ends: what the pattern unit counted while it ran is a free value, since no command brings bit errors (R259). -/
def State.endTest (s : State) (n : Nat) : State :=
  match (s.laneAt n).test with
  | some (1, _) =>
    if s.laneState n == laneTEST then
      let (v, s) := s.draw
      s.addSat (F.LANE_PRBS_ERR_bits n) v
    else s
  | _ => s

/-- Start a training of lane `n` from REF_WAIT (R256). -/
def State.train (s : State) (n : Nat) : State :=
  if !(s.laneCfg n).enabled then s
  else
    let s := (s.laneGone n).endTest n
    let s := (s.set (F.LANE_STATUS_state n) laneREFWAIT).set (F.LANE_STATUS_block_lock n) 0
    (s.setLane n { s.laneAt n with retrainWait := false, words := 0, test := none }).takeTaps n

/-- Lane `n` carries nothing more (R260). -/
def State.disableLane (s : State) (n : Nat) : State :=
  let s := (s.laneGone n).endTest n
  let s := (s.set (F.LANE_STATUS_state n) laneDISABLED).set (F.LANE_STATUS_block_lock n) 0
  s.setLane n { s.laneAt n with retrainWait := false, test := none }

/-- A training attempt fails with cause 0 = TIMEOUT, 1 = HEAD_MISMATCH: the lane waits in FAILED for its retry (R257,
R259). -/
def State.trainFail (s : State) (n cause : Nat) : State :=
  let st := s.laneState n
  let s := (s.set (F.LANE_STATUS_state n) laneFAILED).set (F.LANE_STATUS_block_lock n) 0
  (s.raise Code.LANE_TRAIN_FAIL [n, st, cause]).bootTrainFail linkLANE n

/-- A lane in one of the states of a training attempt. -/
def training (st : Nat) : Bool := st == laneREFWAIT || st == laneLOCK || st == laneEXCHANGE || st == lanePRBS

/-- Reasons of LANE_REFUSED. -/
def laneReasonAGE : Nat := 1

/-- The offset of LANE_CTRL[n] in the LANE block. -/
def laneCtrlOff (n : Nat) : Nat := 0x1004 + 0x100 * n

/-- A LANE_CTRL command of port `i`: writes of ports other than OWNER and SERVICE are ignored and write LANE_ROLE. -/
def State.laneCmd (s : State) (i : Port) (n : LaneId) (f : State → State) : State :=
  if s.privileged i then f s else s.raise Code.LANE_ROLE [i, laneCtrlOff n]

/-- Upkeep commands in AGE upkeep act only on a lane in FAILED or DISABLED (R260). -/
def State.laneUpkeep (s : State) (i : Port) (n : LaneId) (f : State → State) : State :=
  if s.ageOnly && s.laneState n != laneFAILED && s.laneState n != laneDISABLED then
    s.raise Code.LANE_REFUSED [i, n, laneReasonAGE]
  else f s

/-- RETRAIN (R260): with a line open it waits for the open lines to end, for at most 1 ms (R268). -/
def execLaneRetrain (i : Port) (n : LaneId) (s : State) : Host.Outcome State Fault Refusal :=
  s.run (fun s => s.laneCmd i n (fun s => s.laneUpkeep i n (fun s =>
    if s.laneState n == laneUP && (upTo 8).any (fun k => (s.streamAt n k).line.isSome) then
      s.setLane n { s.laneAt n with retrainWait := true }
    else s.train n)))

/-- Enter TEST with a loop or pattern (R259). -/
def State.enterTest (s : State) (n kind which : Nat) : State :=
  let s := (s.laneGone n).endTest n
  let s := s.each (s.laneCtxs n) State.noReference
  let s := (s.set (F.LANE_STATUS_state n) laneTEST).setLane n { s.laneAt n with test := some (kind, which), retrainWait := false }
  s.raise Code.LANE_TEST [n, kind, 0]

/-- LOOP with loop 0 near-end serial, 1 near-end parallel, 2 far-end (R260); 3 is no loop of Table LANE-7. -/
def execLaneLoop (i : Port) (n : LaneId) (loop : BitVec 2) (s : State) : Host.Outcome State Fault Refusal :=
  s.run (fun s => s.laneCmd i n (fun s =>
    if loop.toNat = 3 then s.raise Code.LANE_BAD_COMMAND [i, n, 0x32]
    else s.laneUpkeep i n (fun s => s.enterTest n 0 loop.toNat)))

/-- PRBS with pattern 0 PRBS7, 1 PRBS15, 2 PRBS31 (R260); 3 is no pattern of Table LANE-7. -/
def execLanePrbs (i : Port) (n : LaneId) (prbs : BitVec 2) (s : State) : Host.Outcome State Fault Refusal :=
  s.run (fun s => s.laneCmd i n (fun s =>
    if prbs.toNat = 3 then s.raise Code.LANE_BAD_COMMAND [i, n, 0xC3]
    else s.laneUpkeep i n (fun s => s.enterTest n 1 prbs.toNat)))

/-- CLEAR_TEST leaves TEST and starts a training, or leaves a lane that STRUCTURE does not enable DISABLED (R256, R260). -/
def execClearTest (i : Port) (n : LaneId) (s : State) : Host.Outcome State Fault Refusal :=
  s.run (fun s => s.laneCmd i n (fun s =>
    match (s.laneAt n).test with
    | some (kind, _) =>
      if s.laneState n != laneTEST then s
      else
        let s := s.raise Code.LANE_TEST [n, kind, 1]
        if (s.laneCfg n).enabled then s.train n else s.disableLane n
    | none => s))

/-- DISABLE: refused in AGE upkeep for an UP lane (R260). -/
def execLaneDisable (i : Port) (n : LaneId) (s : State) : Host.Outcome State Fault Refusal :=
  s.run (fun s => s.laneCmd i n (fun s =>
    if s.ageOnly && s.laneState n == laneUP then s.raise Code.LANE_REFUSED [i, n, laneReasonAGE]
    else s.disableLane n))

/-- ENABLE restores a DISABLED lane that STRUCTURE enables; refused in AGE upkeep for an UP lane (R260). -/
def execLaneEnable (i : Port) (n : LaneId) (s : State) : Host.Outcome State Fault Refusal :=
  s.run (fun s => s.laneCmd i n (fun s =>
    if s.ageOnly && s.laneState n == laneUP then s.raise Code.LANE_REFUSED [i, n, laneReasonAGE]
    else if s.laneState n == laneDISABLED then s.train n else s))

/-- LANE_REF_WAIT_DONE: the reference, or the back-channel, has been present for 1 ms (Table LANE-1). -/
def execLaneRefWaitDone (n : LaneId) (s : State) : Host.Outcome State Fault Refusal :=
  s.run (fun s => if s.laneState n != laneREFWAIT then s else s.set (F.LANE_STATUS_state n) laneLOCK)

/-- The training word that the module sends on lane `n` (Table LANE-3), its CRC with fold bytes 0. -/
def State.ownTrainingWord (s : State) (n : Nat) : List Byte :=
  let g := s.laneCfg n
  let bs := leBytes 2 0x5254 ++ [0] ++ leBytes 1 n ++ leBytes 1 g.rate ++ leBytes 1 g.sensors ++ [0, 0] ++
    leBytes 3 s.cfg.structureSec.nodeId ++ List.replicate 17 0
  bs ++ leBytes 4 (crc32 (List.replicate 4 0 ++ bs))

/-- BLOCK_LOCK: 64 consecutive valid sync headers (Table LANE-1). In EXCHANGE the module sends three identical training words, each four data
blocks after a header block of kind 0xF (Tables LANE-1, LANE-3). -/
def execBlockLock (n : LaneId) (s : State) : Host.Outcome State Fault Refusal :=
  s.run (fun s =>
    if s.laneState n != laneLOCK then s
    else
      let s := (s.set (F.LANE_STATUS_state n) laneEXCHANGE).set (F.LANE_STATUS_block_lock n) 1
      let w := [0x0F, 0, 0, 0, 0, 0, 0, 0] ++ s.ownTrainingWord n
      { s with lane := { s.lane with out := s.lane.out ++ List.replicate 3 (n.val, w) } })

/-- A training word of a head is well formed: mark, sender, echoed lane number and CRC (Table LANE-3). -/
def goodTrainingWord (n : Nat) (w : BitVec 256) : Bool :=
  let bs := leBytes 32 w.toNat
  recField bs 0 2 == 0x5254 && recField bs 2 1 == 1 && recField bs 3 1 == n &&
    recField bs 28 4 == (crc32 (List.replicate 4 0 ++ bs.take 28))

/-- TRAINING_WORD: a training word of the head arrives (R259): a head with too few streams or another rate fails the
exchange; three identical words complete it (Table LANE-1). -/
def execTrainingWord (n : LaneId) (w : BitVec 256) (s : State) : Host.Outcome State Fault Refusal :=
  s.run (fun s =>
    if s.laneState n != laneEXCHANGE || !goodTrainingWord n w then s
    else
      let bs := leBytes 32 w.toNat
      let streams := recField bs 5 1
      if streams < (s.laneCfg n).sensors || recField bs 4 1 != (s.laneCfg n).rate then s.trainFail n 1
      else
        let l := s.laneAt n
        let k := if l.words > 0 && l.lastWord == w then l.words + 1 else 1
        let s := s.setLane n { l with words := k, lastWord := w }
        if k ≥ 3 then (s.set (F.LANE_STATUS_streams n) streams).set (F.LANE_STATUS_state n) lanePRBS else s)

/-- LANE_UP: 1 ms of PRBS31 without error completes training (R256). -/
def execLaneUp (n : LaneId) (s : State) : Host.Outcome State Fault Refusal :=
  s.run (fun s =>
    if s.laneState n != lanePRBS then s
    else
      let s := (s.set (F.LANE_STATUS_state n) laneUP).inc (F.LANE_STATUS_trainings n)
      let s := (s.setBit F.LANE_UP_MASK_up n true).setLane n { s.laneAt n with retryMs := 1 }
      let s := s.each (upTo 8) (fun s k =>
        if (s.laneCtx n k).isSome then s.set (F.LANE_STREAM_state n k) stANY else s)
      (s.raise Code.LANE_UP [n, (s.laneCfg n).rate, s.get (F.LANE_STATUS_trainings n)]).checkBooted)

/-- LANE_TRAIN_TIMEOUT: 50 ms without reaching UP (R257). -/
def execLaneTrainTimeout (n : LaneId) (s : State) : Host.Outcome State Fault Refusal :=
  s.run (fun s => if training (s.laneState n) then s.trainFail n 0 else s)

/-- LANE_TRAIN_RETRY: the retry time of a FAILED lane ends; the next is twice as long, up to 1 s (R257). -/
def execLaneTrainRetry (n : LaneId) (s : State) : Host.Outcome State Fault Refusal :=
  s.run (fun s =>
    if s.laneState n != laneFAILED then s
    else (s.setLane n { s.laneAt n with retryMs := min (2 * (s.laneAt n).retryMs) 1000 }).train n)

/-- Loss of lock of an UP lane: LANE_DOWN with the invalid headers counted, and retraining from REF_WAIT (R258). -/
def State.laneDown (s : State) (n invalid : Nat) : State :=
  if s.laneState n != laneUP then s else (s.raise Code.LANE_DOWN [n, invalid]).train n

/-- LANE_DOWN: 16 of any 64 consecutive sync headers are invalid (R258). -/
def execLaneDown (n : LaneId) (s : State) : Host.Outcome State Fault Refusal := s.run (fun s => s.laneDown n 16)

/-- RETRAIN_WAIT_EXPIRED: a RETRAIN has waited 1 ms for open lines (R268). -/
def execRetrainWaitExpired (n : LaneId) (s : State) : Host.Outcome State Fault Refusal :=
  s.run (fun s => if (s.laneAt n).retrainWait then s.train n else s)

/-! ### Violations and NAKs (R265 to R269) -/

/-- The violations whose answer is a NAK (Table LANE-6). -/
def nakCause (cause : Nat) : Bool := [1, 2, 3, 6, 7, 9, 13].contains cause

/-- Send a NAK for line `seq`, or, with the NAK limit of the lane spent, RESYNC (R266). -/
def State.nakLine (s : State) (n k seq cause : Nat) : State :=
  let x := s.streamAt n k
  if x.naks ≥ s.get (F.LANE_RETRY_limit n) then
    -- with a limit of 0 there was no NAK, and the cause byte is open
    let (v, s1) := if x.naks = 0 then s.draw else (x.nakCause, s)
    s1.sendResync n k (v % 256)
  else
    let s := s.setStream n k { x with line := none, naks := x.naks + 1, nakCause := cause }
    let s := (s.set (F.LANE_STREAM_state n k) stRESEND).set (F.LANE_STREAM_next_seq n k) seq
    s.sendNak n k seq cause

/-- A violation of Table LANE-6 on stream `k`: counted; while a resend is awaited, and while a RESYNC's gap is open, counted
only (R265, R267, R268); else written as LANE_VIOLATION, and answered with a NAK of the open or the expected line. -/
def State.violation (s : State) (n k cause : Nat) : State :=
  let s := s.inc (F.LANE_VIOL_count n)
  let st := s.streamState n k
  if st == stRESEND || (st == stANY && (s.streamAt n k).resynced) then s
  else
    let s := s.raise Code.LANE_VIOLATION [n, k, cause]
    if nakCause cause && st == stORDER then
      s.nakLine n k (((s.streamAt n k).line.map (fun l => l.seq)).getD (s.get (F.LANE_STREAM_next_seq n k))) cause
    else s

/-- A stream that the lane is not configured for: every packet is discarded, and the head told so at most once per 1 ms
(violation 0x05). The spec gives the status UNKNOWN_STREAM no number. -/
def State.unknownStream (s : State) (n k : Nat) : State :=
  let s := (s.inc (F.LANE_VIOL_count n)).raise Code.LANE_VIOLATION [n, k, 5]
  let l := s.laneAt n
  if (l.unknownAt.map (fun t => decide (s.clk.now - t < samplesPerMs))).getD false then s
  else
    let (v, s) := s.draw
    (s.setLane n { l with unknownAt := some s.clk.now }).sendBack n 5 k 0 ([4, 0] ++ leBytes 1 (v % 256) ++ List.replicate 5 0)

/-- The checks that every packet of an UP lane passes before its kind counts (R262, R269): `f` runs where all pass. -/
def State.packet (s : State) (n kind : Nat) (p : Packet) (f : State → State) : State :=
  if s.laneState n != laneUP then s
  else if p.badSync then s.violation n p.stream 1
  else if p.length > 4096 || p.data.length > (p.length + 7) / 8 * 8 then s.violation n p.stream 3
  else if p.crc.toNat != packetCrc n p.stream p.seq (leBytes 8 p.head.toNat) p.data then
    (s.inc (F.LANE_CRC_ERR_count n)).violation n p.stream 2
  else if p.bridgeFull then (s.bridgeFull n 0).violation n p.stream 9
  else if p.kind != kind then s.violation n p.stream 4
  else if (s.laneCtx n p.stream).isNone then s.unknownStream n p.stream
  else f s

/-! ### Lines (R263, R264, R268) -/

/-- Some divider triggers stream `k` of lane `n` (R311). -/
def State.triggered (s : State) (n k : Nat) : Bool :=
  (upTo 8).any (fun d => (s.divCfg d).source != 0 && (s.divCfg d).lanes.testBit n && (s.divCfg d).streams.testBit k)

/-- Open the line that a LINE_START announces, checked against the trigger record unless FREE_RUN is set (R264). -/
def State.openLine (s : State) (n k : Nat) (p : Packet) : State :=
  let b := p.payload
  let fl := recField b 7 1
  let stamp := recField b 0 4
  let x := s.streamAt n k
  let known := x.trigs.any (fun t => t.number == p.seq && t.count == stamp) && !x.missed.contains p.seq
  let bad := s.triggered n k && !fl.testBit 0 && !known
  let naks := if s.get (F.LANE_STREAM_next_seq n k) == p.seq then x.naks else 0
  let l : OpenLine := { seq := p.seq, stamp := stamp, pixels := recField b 4 2, format := recField b 6 1,
                        freeRun := fl.testBit 0, resend := fl.testBit 1, index := 0, data := [], bad := bad }
  let s := s.setStream n k { x with line := some l, stale := none, lostFrom := none, resynced := false, naks := naks }
  let s := (s.set (F.LANE_STREAM_state n k) stORDER).set (F.LANE_STREAM_next_seq n k) p.seq
  if bad then s.violation n k 8 else s

/-- The lines from `first` up to number `seq` are handed on as LOST, with LANE_LINE_LOST (R268). -/
def State.gap (s : State) (n k first seq cause : Nat) : State :=
  let m := (seq + 65536 - first) % 65536
  if m = 0 then s
  else (s.handLostRun n k first m Code.LANE_LINE_LOST).raise Code.LANE_LINE_LOST [n, k, first, (seq + 65535) % 65536, cause]

/-- LINE_START on a configured stream. -/
def State.lineStart (s : State) (n k : Nat) (p : Packet) : State :=
  let x := s.streamAt n k
  let next := s.get (F.LANE_STREAM_next_seq n k)
  let ahead := (p.seq + 65536 - next) % 65536
  let resend := (recField p.payload 7 1).testBit 1
  match s.streamState n k with
  | 2 =>
    -- a resend that precedes the expected line by 1 to 32,767 is stale (R265), whether or not a line is open
    if resend && ahead ≥ 32769 then s.setStream n k { x with stale := some p.seq }
    else if x.line.isSome then s.violation n k 6
    else if ahead = 0 then s.openLine n k p
    else if resend then s.violation n k 7
    else if ahead < 32768 && (upTo ahead).all (fun i => x.missed.contains ((next + i) % 65536)) then
      -- the lines of triggers that the head NAKed are LOST (violation 0x0B)
      (s.handLostRun n k next ahead Code.LANE_VIOLATION).openLine n k p
    else s.violation n k 7
  | 3 => if ahead = 0 then s.openLine n k p else s
  | 1 =>
    (match x.lostFrom with
      | some first => s.gap n k first p.seq x.lostCause
      | none => s).openLine n k p
  | _ => s

/-- LINE_START (R263). -/
def execLineStart (n : LaneId) (p : Packet) (s : State) : Host.Outcome State Fault Refusal :=
  s.run (fun s => s.packet n 1 p (fun s => s.lineStart n p.stream p))

/-- PIXELS (R263): the next index of the open line. -/
def execPixels (n : LaneId) (p : Packet) (s : State) : Host.Outcome State Fault Refusal :=
  s.run (fun s => s.packet n 2 p (fun s =>
    let x := s.streamAt n p.stream
    if s.streamState n p.stream != stORDER then (if s.streamState n p.stream == stRESEND then s else s.violation n p.stream 6)
    else if x.stale == some p.seq then s
    else match x.line with
      | none => s.violation n p.stream 6
      | some l =>
        if l.seq != p.seq || l.index != p.index then s.violation n p.stream 7
        else s.setStream n p.stream { x with line := some { l with index := l.index + 1, data := l.data ++ p.payload } }))

/-- Bits of one pixel by the packing code of Table ISP-1; 0 for an unknown code. -/
def packBits (format : Nat) : Nat :=
  match format % 16 with | 1 => 8 | 2 => 10 | 3 => 12 | 4 => 16 | _ => 0

/-- Arrangement of a format code (Table ISP-1). -/
def arrangement (format : Nat) : Nat := format / 16 % 8

/-- The format code is one of Table ISP-1. -/
def knownFormat (format : Nat) : Bool := packBits format != 0 && arrangement format ≤ 5 && format / 128 == 0

/-- The bytes that a line's pixel count and format imply: three rows for a trilinear line (R273). -/
def impliedBytes (pixels format : Nat) : Nat :=
  ((if arrangement format = 5 then 3 else 1) * pixels * packBits format + 7) / 8

/-- A RETRAIN that waited starts once no line of the lane is open (R268). -/
def State.retrainCheck (s : State) (n : Nat) : State :=
  if (s.laneAt n).retrainWait && (upTo 8).all (fun k => (s.streamAt n k).line.isNone) then s.train n else s

/-- A line is accepted and handed on (R263). -/
def State.acceptLine (s : State) (n k : Nat) (l : OpenLine) (status : Nat) : State :=
  let x := s.streamAt n k
  let s := s.setStream n k { x with line := none, naks := 0 }
  let s := s.set (F.LANE_STREAM_next_seq n k) (l.seq + 1)
  if l.bad then s.handLost n k l.seq Code.LANE_VIOLATION
  else
    let s := s.inc (F.LANE_LINES_count n)
    let s := if l.resend then s.inc (F.LANE_NAK_resent n) else s
    let imp := impliedBytes l.pixels l.format
    match s.laneCtx n k with
    | none => s
    | some c => s.handOn (s.laneCfg n).channel
        { ctx := c, seq := l.seq, stamp := l.stamp, pixels := l.pixels, format := l.format, data := l.data
          headStatus := status, lost := false, short := knownFormat l.format && l.data.length < imp
          long := knownFormat l.format && l.data.length > imp, code := 0, at_ := s.clk.now, local_ := s.localNs
          trigAt := if l.freeRun then none else (x.trigs.find? (fun t => t.number == l.seq)).map (fun t => t.at_)
          waited := false }

/-- LINE_END (R263): the byte count it reports must be the bytes received. -/
def execLineEnd (n : LaneId) (p : Packet) (s : State) : Host.Outcome State Fault Refusal :=
  s.run (fun s => s.packet n 3 p (fun s =>
    let x := s.streamAt n p.stream
    if s.streamState n p.stream != stORDER then (if s.streamState n p.stream == stRESEND then s else s.violation n p.stream 6)
    else if x.stale == some p.seq then s
    else match x.line with
      | none => s.violation n p.stream 6
      | some l =>
        if l.seq != p.seq then s.violation n p.stream 7
        else if recField p.payload 0 4 != l.data.length then s.violation n p.stream 13
        else (s.acceptLine n p.stream l (recField p.payload 4 1)).retrainCheck n))

/-- CTRL_RESPONSE: the head answers a READ or WRITE (Table LANE-4). -/
def execCtrlResponse (n : LaneId) (p : Packet) (s : State) : Host.Outcome State Fault Refusal :=
  s.run (fun s => s.packet n 5 p (fun s =>
    let b := p.payload
    if recField b 0 1 != 4 then s
    else s.setLane n { s.laneAt n with response := some (recField b 1 1, recField b 2 1, recField b 4 4) }))

/-- HEAD_NAK: the head NAKs a back-channel TRIGGER; it is not resent, and its line is LOST later (violation 0x0B). An open line of the stream, which
has it between its packets, is not accepted: it is handed on as LOST with its LINE_END (R263). -/
def execHeadNak (n : LaneId) (p : Packet) (s : State) : Host.Outcome State Fault Refusal :=
  s.run (fun s => s.packet n 6 p (fun s =>
    if p.length != 8 then s.violation n p.stream 4
    else
      let num := recField p.payload 0 2
      let y := s.streamAt n p.stream
      let s := s.setStream n p.stream { y with line := y.line.map (fun l => { l with bad := true }) }
      let s := s.violation n p.stream 11
      s.each (upTo 8) (fun s k =>
        let x := s.streamAt n k
        if x.trigs.any (fun t => t.number == num) && !x.missed.contains num then
          s.setStream n k { x with missed := x.missed ++ [num] } else s)))

/-- HEAD_RESYNC (R267): a pending NAK is cancelled and the missing lines are lost at the next LINE_START; more than 16
within 1 ms are counted as violation 0x0C, each still obeyed. -/
def execHeadResync (n : LaneId) (p : Packet) (s : State) : Host.Outcome State Fault Refusal :=
  s.run (fun s => s.packet n 7 p (fun s =>
    if p.length != 8 then s.violation n p.stream 4
    else
      let l := s.laneAt n
      let times := s.clk.now :: l.resyncs.filter (fun t => s.clk.now - t < samplesPerMs)
      let s := s.setLane n { l with resyncs := times }
      let s := if times.length > 16 then
          (s.inc (F.LANE_VIOL_count n)).raise Code.LANE_VIOLATION [n, p.stream, 12] else s
      (s.dropStream n p.stream stANY (recField p.payload 2 1)).inc (F.LANE_LOST_resyncs n)))

/-- NAK_TIMEOUT: 64 µs after a NAK the line has not come; RESYNC with cause 0 (R266). -/
def execNakTimeout (n : LaneId) (k : Fin 8) (s : State) : Host.Outcome State Fault Refusal :=
  s.run (fun s => if s.laneState n == laneUP && s.streamState n k == stRESEND then s.sendResync n k 0 else s)

/-- LANE_CTRL_TIMEOUT: a READ or WRITE of head register `r` had no RESPONSE, nor its retry (violation 0x0A, on stream 0, which CTRL packets name). -/
def execLaneCtrlTimeout (n : LaneId) (r : BitVec 16) (s : State) : Host.Outcome State Fault Refusal :=
  s.run (fun s =>
    if s.laneState n != laneUP then s
    else ((s.inc (F.LANE_VIOL_count n)).raise Code.LANE_VIOLATION [n, 0, 10]).raise Code.LANE_CTRL_TIMEOUT [n, r.toNat])

/-- The frame mark of a stream joins its channel's queue (R275). -/
def State.handMark (s : State) (n k frame : Nat) (opens : Bool) : State :=
  match s.laneCtx n k with
  | none => s
  | some c =>
    let ch := (s.laneCfg n).channel
    let q := s.ispChan ch
    s.setIspChan ch { q with queue := q.queue ++ [.mark c frame opens s.localNs] }

end Sys2Proof.Machine
end

