-- ==== Sys2Proof/Machine/Motion.lean ====
section
/-! DEFINITION. Position channels, counts, faults and speed (R302 to R310), mileposts and pulse programs (R314 to R317) and
the acts of verdicts on them (R315, R348, R349). -/

namespace Sys2Proof.Machine

/-! ### Channels -/

/-- A channel before its first event. -/
def chan0 : Chan :=
  { count := 0, levels := none, index := none, reading := none, awaitFirst := true, everGood := false, clocking := false
    changes := [], seen := 0, errTimes := [], lineBreak := false, supply := false, serial := 0 }

def State.chan (s : State) (n : Nat) : Chan := tget chan0 s.motion.chans n

def State.setChan (s : State) (n : Nat) (c : Chan) : State :=
  { s with motion := { s.motion with chans := tset chan0 s.motion.chans n c } }

/-- Count states of Table MOT-8. -/
def cntOFF : Nat := 0
def cntWAIT : Nat := 1
def cntVALID : Nat := 2
def cntFAULT : Nat := 3

/-- The count state of a channel. -/
def State.cntState (s : State) (n : Nat) : Nat := s.get (F.MOT_CH_STATUS_count_state n)

/-- The channel reads a serial encoder. -/
def State.serialMode (s : State) (n : Nat) : Bool := (s.chanCfg n).mode == 3 || (s.chanCfg n).mode == 4

/-! ### Speed (R310), as an exact fraction of counts per second -/

/-- The period method: one count over the time between the last two changes, decaying with the time since the last, and
0 after the standstill time. -/
def periodSpeed (c : Chan) (cfg : ChanCfg) (now : Nat) : Int × Nat :=
  match c.changes with
  | (t1, d) :: (t0, _) :: _ =>
    let dt := max (t1 - t0) 1
    let el := now - t1
    if el ≥ cfg.standstill then (0, 1)
    else (d.sign * samplesPerS, if el > dt then el else dt)
  | _ => (0, 1)

/-- The count method: the count change, since the speed was last INVALID, over the window that ends now. -/
def countSpeed (c : Chan) (cfg : ChanCfg) (now : Nat) : Int × Nat :=
  let w := max cfg.window 1
  let ds := ((c.changes.take c.seen).filter (fun e => now - e.1 < w)).map (fun e => e.2)
  (ds.foldl (· + ·) 0 * samplesPerS, w)

/-- A serial channel: the count change between the last two good readings over the time between them. -/
def serialSpeed (c : Chan) : Int × Nat :=
  match c.changes with
  | (t1, d) :: (t0, _) :: _ => (d * samplesPerS, max (t1 - t0) 1)
  | _ => (0, 1)

/-- The speed of channel `n` by its method; 0 while INVALID. -/
def State.speed (s : State) (n : Nat) : Int × Nat :=
  let c := s.chan n
  let m := s.get (F.MOT_CH_STATUS_speed_state n)
  if m = 0 then (0, 1)
  else if s.serialMode n then serialSpeed c
  else if m = 1 then periodSpeed c (s.chanCfg n) s.clk.now
  else countSpeed c (s.chanCfg n) s.clk.now

/-- The projection P of a lead in µs: floor(speed × lead / 1,000,000) while VALID and positive (R314). -/
def State.projection (s : State) (n lead : Nat) : Int :=
  let v := s.speed n
  if v.1 > 0 then (v.1 * lead) / ((v.2 * 1000000 : Nat) : Int) else 0

/-- Bring the registers of a channel to its count and speed. -/
def State.showChan (s : State) (n : Nat) : State :=
  let c := s.chan n
  let s := s.set64 (F.MOT_CH_COUNT_LO_count n) (F.MOT_CH_COUNT_HI_count n) (ofSigned 64 c.count)
  let v := s.speed n
  let s := s.set (F.MOT_CH_SPEED_speed n) (ofSigned 32 ((16 * v.1) / (v.2 : Int)))
  let s := s.setBit F.MOT_STATUS_present n ((s.chanCfg n).mode != 0)
  let s := s.setBit F.MOT_STATUS_count_valid n (s.cntState n == cntVALID)
  let s := s.setBit F.MOT_STATUS_fault n (s.cntState n == cntFAULT)
  s.setBit F.MOT_STATUS_speed_valid n (s.get (F.MOT_CH_STATUS_speed_state n) != 0)

/-- Choose the speed method (R310): VALID after two changes; count method from v_hi, period method again below v_lo. -/
def State.chooseMethod (s : State) (n : Nat) : State :=
  let c := s.chan n
  let cfg := s.chanCfg n
  let st := F.MOT_CH_STATUS_speed_state n
  if c.seen < 2 then s.set st 0
  else if s.serialMode n then s.set st 2
  else
    let s := if s.get st = 0 then s.set st 1 else s
    let v := s.speed n
    if s.get st = 1 && v.1.natAbs ≥ cfg.vHi * v.2 then s.set st 2
    else if s.get st = 2 && v.1.natAbs < cfg.vLo * v.2 then s.set st 1
    else s

/-! ### Dividers start -/

/-- A divider of source channel `n`, or of the milestone counter, starts at count `c` (R312). -/
def State.startDivider (s : State) (d : Nat) (c : Int) : State :=
  let v : Divider := { started := true, threshold := c * 65536 + (s.divCfg d).ratio, waiting := [], busy := false,
                       pulse := false }
  { s with motion := { s.motion with dividers := tput s.motion.dividers d v } }

/-- A STEP re-bases the threshold of a divider of the milestone counter to the raw count at the landing plus its ratio; triggers that wait
go on (R334). -/
def State.rebaseDivider (s : State) (d : Nat) (c : Int) : State :=
  match tfind s.motion.dividers d with
  | some v => { s with motion := { s.motion with
      dividers := tput s.motion.dividers d { v with threshold := c * 65536 + (s.divCfg d).ratio } } }
  | none => s

/-- Start every divider whose source is channel `n` from its present count: those not yet started, or all after a FAULT
has cleared. -/
def State.startDividers (s : State) (n : Nat) (again : Bool) : State :=
  s.each (upTo 8) (fun s d =>
    let g := s.divCfg d
    let started := ((tfind s.motion.dividers d).map (fun v => v.started)).getD false
    if g.source == 1 && g.channel == n && (again || !started) then s.startDivider d (s.chan n).count else s)

/-! ### Firing (R314, R316, R317, R322) -/

/-- The flags byte of an entry (Table MOT-9, byte 17). -/
def mpFlags (e : Milepost) : Nat := bit (e.doubt != 0) + 2 * bit e.suppressed + 4 * bit e.outFault + 8 * bit e.overlap

/-- The entries of channel `n`. -/
def State.chanEntries (s : State) (n : Nat) : List (Nat × Milepost) :=
  s.motion.entries.filter (fun (x : Nat × Milepost) => x.1 / 4096 == n)

/-- Output `o` cannot be driven now: the safe state, or for a field output its supply (R322). -/
def State.suppressed (s : State) (o : Nat) : Bool := s.isSafe || (o < 32 && !s.supplied o)

/-- A step of a running program begins (R316): END, or the step after the last, ends the program. -/
def State.beginStep (s : State) (u : Pulse) (k : Nat) : State :=
  let spent := if u.on then s.clk.now - u.stepTime else 0
  match u.program.steps[k]? with
  | some st =>
    if st.action = 0 then s.endPulse u
    else
      let u1 := { u with step := k, stepCount := (s.chan u.chan).count, stepTime := s.clk.now, onTime := u.onTime + spent,
                         on := st.action == 1 }
      { s with motion := { s.motion with
        pulses := s.motion.pulses.map (fun v => if v.entry == u.entry && v.serial == u.serial then u1 else v) } }
  | none => s.endPulse u

/-- One entry fires (R314, R316, R317, R322). -/
def State.fireEntry (s : State) (key : Nat) (e : Milepost) : State :=
  let ch := key / 4096
  let sup := s.suppressed e.output
  let others := s.motion.pulses.filter (fun v => v.output == e.output)
  let beyond := !others.isEmpty
  let low := others.foldl (fun (b : Option Pulse) v => match b with
    | some x => if v.serial < x.serial then some v else b
    | none => some v) none
  let lowTag := (low.bind (fun v => (tfind s.motion.entries v.entry).map (fun x => x.tag))).getD 0
  let e1 := { e with state := 3, firedAt := (s.chan ch).count, late := e.state == 1, suppressed := e.suppressed || sup,
                     overlap := e.overlap || beyond }
  let s := (s.setEntry key (some e1)).inc (F.MOT_CH_FIRED_count ch)
  let s := if e.state == 1 then
      { s with host := { s.host with subjects := s.host.subjects.map (fun u =>
          if u.key == some key && u.tag == e.tag && u.part == e.part && !u.settled then
            { u with firedPeriod := some s.period, flags := mpFlags e1 } else u) } }
    else s
  let s := if sup then (s.inc (F.MOT_CH_SUPPRESSED_count ch)).raise Code.MILEPOST_SUPPRESSED [ch, e.tag, e.output] else s
  let s := if beyond then
      (s.inc (F.MOT_CH_SUPPRESSED_overlaps ch)).raiseAt ch Code.MP_OVERLAP [e.output, e.tag, lowTag] else s
  -- in the safe state no program starts; the entry is done
  if s.isSafe then s.setEntry key none
  else
    let u : Pulse := { entry := key, output := e.output, chan := ch, serial := e.serial, program := e.program, step := 0,
                       stepCount := e1.firedAt, stepTime := s.clk.now, onTime := 0, on := false }
    ({ s with motion := { s.motion with pulses := s.motion.pulses ++ [u] } }).beginStep u 0

/-- The entries of channel `n` that fire at the present count, in ascending arm serial. -/
def State.due (s : State) (n : Nat) : List (Nat × Milepost) :=
  ((s.chanEntries n).filter (fun x => (x.2.state == 1 || x.2.state == 2) &&
    (s.chan n).count + s.projection n x.2.lead ≥ x.2.target)).mergeSort (fun a b => a.2.serial ≤ b.2.serial)

/-! ### Verdicts, withdrawals and outcomes -/

/-- The unsettled subjects of tag `tag` of partition `p`. -/
def State.openSubjects (s : State) (p tag : Nat) : List Subject :=
  s.host.subjects.filter (fun u => u.kind == 1 && u.part == p && u.tag == tag && !u.settled)

/-- The entry that a subject still holds. -/
def State.entryOf (s : State) (u : Subject) : Option (Nat × Milepost) :=
  match u.key with
  | none => none
  | some k => (tfind s.motion.entries k).bind (fun e => if e.tag == u.tag && e.part == u.part then some (k, e) else none)

/-- The entry of a subject fires first where its count is due: in a sample, comparison and firing come before verdicts (R315). -/
def State.fireDue (s : State) (u : Subject) : State :=
  match s.entryOf u with
  | some (k, e) => if (s.due (k / 4096)).any (fun x => x.1 == k) then s.fireEntry k e else s
  | none => s

/-- A subject as it stands now. -/
def State.subjectNow (s : State) (u : Subject) : Subject :=
  ((s.openSubjects u.part u.tag).find? (fun z => z.resNum == u.resNum)).getD u

/-- A verdict for an arm whose due entry has fired (R315): on an ARMED entry GOOD frees it, or confirms it with DOUBT, BAD and INVALID
confirm it; after the entry fired while ARMED the part is LATE. -/
def State.verdictArm (s : State) (u : Subject) (verdict cause : Nat) (v : Option VerdictIn) : State :=
  match s.entryOf u with
  | some (k, e) =>
    if e.state == 1 then
      if verdict == outGOOD && e.doubt == 0 then
        ((s.setEntry k none).inc (F.MOT_CH_CANCELLED_count u.chan)).settle u outGOOD 0 0 (mpFlags e) v
      else
        let c := if verdict == outGOOD then e.doubt else if verdict == outINVALID then cause else 0
        let o := if verdict == outGOOD then outINVALID else verdict
        (s.setEntry k (some { e with state := 2 })).settle u o 0 c (mpFlags e) v
    else if e.late then
      (((s.raiseAt u.chan Code.MILEPOST_LATE [u.chan, u.tag, verdict]).inc (F.MOT_CH_LATE_count u.chan))).settle u outLATE verdict 0
        (mpFlags e) v
    else s
  | none =>
    if u.firedPeriod.isSome then
      (((s.raiseAt u.chan Code.MILEPOST_LATE [u.chan, u.tag, verdict]).inc (F.MOT_CH_LATE_count u.chan))).settle u outLATE verdict 0
        u.flags v
    else s.settle u verdict 0 (if verdict == outINVALID then cause else 0) u.flags v

/-- A verdict for an arm (R16, R315). -/
def State.verdictOn (s : State) (u : Subject) (verdict cause : Nat) (v : Option VerdictIn) : State :=
  let s := s.fireDue u
  s.verdictArm (s.subjectNow u) verdict cause v

/-- The arms of the part that a tag names last: that of its last subject, with those before it that it joins. -/
def lastPart : List Subject → List Subject → List Subject
  | acc, [] => acc
  | acc, u :: us => lastPart (if u.joins then acc ++ [u] else [u]) us

/-- A verdict of partition `p` for tag `tag` reaches the milepost unit (R315): every arm of the part acts on its own. For an entry whose outcome is
settled it is counted on the entry's channel and written as MILEPOST_LATE only; for a tag that holds and held no entry it is written with 0xFF. -/
def State.applyVerdict (s : State) (p tag verdict cause : Nat) (v : Option VerdictIn) : State :=
  let l := lastPart [] (s.host.subjects.filter (fun u => u.kind == 1 && u.part == p && u.tag == tag))
  -- an entry of a channel that the part took again later is no longer its entry there
  let held := l.filter (fun u => !u.settled || (u.key.isSome && (l.filter (fun z => z.chan == u.chan)).getLast? == some u))
  if held.isEmpty then s.raiseAt 255 Code.MILEPOST_LATE [255, tag, verdict]
  else s.each held (fun s u =>
    if u.settled then (s.raiseAt u.chan Code.MILEPOST_LATE [u.chan, tag, verdict]).inc (F.MOT_CH_LATE_count u.chan)
    else s.verdictOn u verdict cause v)

/-- The module gives the parts `tags` of partition `p` INVALID with a cause (R17, R124, R146, R171, R202). -/
def State.invalidate (s : State) (p : Nat) (tags : List Nat) (cause : Nat) : State :=
  s.each tags (fun s t => s.each (s.openSubjects p t) (fun s u => s.verdictOn u outINVALID cause none))

/-! ### Faults and count errors -/

/-- Withdraw every ARMED or CONFIRMED entry of channel `n` without firing; the parts of ARMED ones are INVALID with cause
POSITION_FAULT; answers how many (R308). -/
def State.withdraw (s : State) (n : Nat) : Nat × State :=
  let l := (s.chanEntries n).filter (fun x => x.2.state == 1 || x.2.state == 2)
  (l.length, s.each l (fun s x =>
    let s1 := s.setEntry x.1 none
    if x.2.state == 1 then
      s1.each ((s1.openSubjects x.2.part x.2.tag).filter (fun u => u.key == some x.1)) (fun s u =>
        s.settle u outINVALID 0 Code.POS_FAULT (mpFlags x.2) none)
    else s1))

/-- Channel `n` enters FAULT with a cause of Table MOT-8 (R308): the count freezes, the speed is INVALID, entries are
withdrawn, and on a channel that carries mileposts of a SAFETY partition the module enters the safe state (Table SAFE-7). -/
def State.posFault (s : State) (n cause : Nat) : State :=
  if s.cntState n == cntFAULT || s.cntState n == cntOFF then s
  else
    let carries := (s.chanEntries n).any (fun x => s.isSafetyPart x.2.part)
    let s := (s.set (F.MOT_CH_STATUS_count_state n) cntFAULT).set (F.MOT_CH_STATUS_fault_cause n) cause
    let s := (s.set (F.MOT_CH_STATUS_speed_state n) 0).setChan n { s.chan n with seen := 0, index := none }
    let (k, s) := s.withdraw n
    let s := (s.raise Code.POS_FAULT [n, cause, k]).showChan n
    if carries then s.enterSafeHeld Code.POS_FAULT (sourceUnit 0x0C n) else s

/-- Mark every milepost armed on channel `n` with DOUBT, for a code (R307, R313). -/
def State.doubt (s : State) (n code : Nat) : State :=
  s.each ((s.chanEntries n).filter (fun x => x.2.state == 1 && x.2.doubt == 0)) (fun s x =>
    s.setEntry x.1 (some { x.2 with doubt := code }))

/-- Causes of POS_COUNT_ERROR, by their place in the list. -/
def errAB : Nat := 0
def errSERIAL : Nat := 1
def errHALLINVALID : Nat := 2
def errHALLSKIP : Nat := 3
def errINDEX : Nat := 4

/-- A count error of channel `n` (R307); more than 16 within 1 ms are a FAULT (R308). -/
def State.countError (s : State) (n cause : Nat) : State :=
  let c := s.chan n
  let times := s.clk.now :: c.errTimes.filter (fun t => s.clk.now - t < samplesPerMs)
  let s := s.setChan n { c with errTimes := times }
  let s := (s.inc (F.MOT_CH_ERR_errors n)).raise Code.POS_COUNT_ERROR [n, cause, ofSigned 32 c.count]
  let s := s.doubt n Code.POS_COUNT_ERROR
  if times.length > 16 then s.posFault n 3 else s

/-! ### Counting -/

/-- The count changes that a window, a filter time or a method may still look at, with a new one in front: the last two, and all of the last
10 ms, the longest window (R310) and filter time (R318). -/
def Chan.withChange (c : Chan) (now : Nat) (d : Int) : List (Nat × Int) :=
  (now, d) :: (c.changes.take 1 ++ (c.changes.drop 1).filter (fun e => now - e.1 < 10 * samplesPerMs))

/-- One step of `d` counts on channel `n`: the first makes the count VALID and starts its dividers. -/
def State.stepCount (s : State) (n : Nat) (d : Int) : State :=
  let c := s.chan n
  let first := s.cntState n == cntWAIT
  let d := if (s.chanCfg n).reverse then -d else d
  let s := s.setChan n { c with count := c.count + d, changes := c.withChange s.clk.now d, seen := c.seen + 1 }
  let s := if first then (s.set (F.MOT_CH_STATUS_count_state n) cntVALID).startDividers n false else s
  (s.chooseMethod n).showChan n

/-- The place of a quadrature state (A in bit 0, B in bit 1) in the forward order 00, A, AB, B. -/
def quadPos (v : Nat) : Nat := match v % 4 with | 0 => 0 | 1 => 1 | 3 => 2 | _ => 3

/-- The count step of a quadrature change at decode 0 = ×1, 1 = ×2, 2 = ×4 (R303): ×1 counts the transition of the forward
A rising edge in both directions, ×2 both A transitions, ×4 every one. -/
def quadStep (decode a b : Nat) : Int :=
  let p := quadPos a
  let q := quadPos b
  let fwd := (p + 1) % 4 == q
  -- the transition lies between place `t` and place t + 1
  let t := if fwd then p else q
  let counts := decode == 2 || (decode == 1 && t % 2 == 0) || (decode == 0 && t == 0)
  if !counts then 0 else if fwd then 1 else -1

/-- The place of a Hall state (U in bit 0, V in bit 1, W in bit 2) in the order U, UV, V, VW, W, WU. -/
def hallPos (v : Nat) : Nat := match v % 8 with | 1 => 0 | 3 => 1 | 2 => 2 | 6 => 3 | 4 => 4 | _ => 5

/-- COUNT_CHANGE: the filtered inputs of an incremental or Hall channel change (R303). -/
def execCountChange (n : ChanId) (levels : BitVec 3) (s : State) : Host.Outcome State Fault Refusal :=
  s.run (fun s =>
    let mode := (s.chanCfg n).mode
    let v := levels.toNat
    let c := s.chan n
    let live := s.cntState n == cntWAIT || s.cntState n == cntVALID
    if mode == 2 && (v % 8 == 0 || v % 8 == 7) then if live then s.countError n errHALLINVALID else s
    else if mode == 1 || mode == 2 then
      let s := s.setChan n { c with levels := some (if mode == 1 then v % 4 else v % 8) }
      match c.levels with
      -- before the first state there is no step to judge
      | none => s
      | some old =>
        if !live then s
        else if mode == 1 then
          if old % 4 == v % 4 then s
          else if (quadPos old + 2) % 4 == quadPos v then s.countError n errAB
          else
            let d := quadStep (s.chanCfg n).decode old v
            if d = 0 then s else s.stepCount n d
        else if old == v % 8 then s
        else if (hallPos old + 1) % 6 == hallPos v then s.stepCount n 1
        else if (hallPos v + 1) % 6 == hallPos old then s.stepCount n (-1)
        else s.countError n errHALLSKIP
    else s)

/-- INDEX_PULSE: the Z input latches the count, and with the index check on, the count between two pulses is compared with
the counts per revolution (R304); a FAULT between two pulses parts them. -/
def execIndexPulse (n : ChanId) (s : State) : Host.Outcome State Fault Refusal :=
  s.run (fun s =>
    let c := s.chan n
    if (s.chanCfg n).mode != 1 then s
    else if s.cntState n == cntFAULT then s.set (F.MOT_CH_INDEX_count n) (ofSigned 32 c.count)
    else
      let s1 := (s.setChan n { c with index := some c.count }).set (F.MOT_CH_INDEX_count n) (ofSigned 32 c.count)
      match c.index with
      | some z =>
        let d : Int := ((c.count - z).natAbs : Int) - (s.framing n).cpr
        if (s.chanCfg n).indexCheck && d.natAbs > (s.framing n).tolerance then s1.countError n errINDEX else s1
      | none => s1)

/-- SERIAL_SAMPLE: the raw milestone count reaches a multiple of the sample interval, and a frame is clocked (R305). -/
def execSerialSample (n : ChanId) (s : State) : Host.Outcome State Fault Refusal :=
  s.run (fun s => if s.serialMode n && s.cntState n != cntOFF then s.setChan n { s.chan n with clocking := true } else s)

/-- What a serial frame says: position and turn bits, and its fault and warning bits. -/
structure Reading where
  pos : Nat
  posBits : Nat
  turn : Nat
  turnBits : Nat
  parityBad : Bool
  crcBad : Bool
  error : Bool
  warning : Bool
  deriving DecidableEq, Repr

/-- The number of a bit list, the first bit the highest. -/
def bitsNat (l : List Bool) : Nat := l.foldl (fun n b => 2 * n + bit b) 0

/-- Read the fields of a frame in transmission order (Table MOT-2); `done` holds the bits before the present field. -/
def readFields : List (Nat × Nat) → List Bool → List Bool → Reading → Reading
  | [], _, _, r => r
  | (kind, n) :: fs, bits, done, r =>
    let b := bits.take n
    let v := bitsNat b
    let r := match kind with
      | 1 => { r with pos := v, posBits := n }
      | 2 => { r with turn := v, turnBits := n }
      | 3 => { r with error := r.error || v == 0 }
      | 4 => { r with warning := r.warning || v == 0 }
      | 5 => { r with parityBad := r.parityBad || ((done ++ b).filter id).length % 2 == 1 }
      | 6 => { r with crcBad := r.crcBad || v != crc6 done }
      | _ => r
    readFields fs (bits.drop n) (done ++ b) r

/-- The binary value of an `n`-bit Gray code. -/
def grayDecode (n v : Nat) : Nat :=
  ((List.range n).foldl (fun (acc : Nat × Bool) i =>
    let b := v.testBit (n - 1 - i) != acc.2
    (2 * acc.1 + bit b, b)) (0, false)).1

/-- The value congruent to `r` modulo 2^n nearest to `c`. -/
def extendNear (n : Nat) (r : Nat) (c : Int) : Int := c + toSigned n (ofSigned n ((r : Int) - c))

/-- SERIAL_FRAME_DONE: a frame is received and judged good or bad, and the count is extended (R304, R306). -/
def execSerialFrameDone (n : ChanId) (f : SerialFrame) (s : State) : Host.Outcome State Fault Refusal :=
  s.run (fun s =>
    let c := s.chan n
    if !c.clocking then s
    else
      let s := s.setChan n { c with clocking := false }
      let g := s.framing n
      let r := readFields g.fields f.bits [] { pos := 0, posBits := 0, turn := 0, turnBits := 0, parityBad := false,
                                               crcBad := false, error := false, warning := false }
      let bitsN := r.posBits + r.turnBits
      let pos := if g.gray then grayDecode r.posBits r.pos else r.pos
      let raw := r.turn * 2 ^ r.posBits + pos
      let v := if (s.chanCfg n).reverse then (2 ^ bitsN - raw) % 2 ^ bitsN else raw
      let step := match c.reading with
        | some q => toSigned bitsN (ofSigned bitsN ((v : Int) - q))
        | none => 0
      let tooFar := !c.awaitFirst && step.natAbs > g.maxStep
      let s := if r.warning && !f.startMissing then s.inc (F.MOT_CH_ERR_warnings n) else s
      let other := f.idleLow || (!f.startMissing && (r.parityBad || r.crcBad || r.error || tooFar))
      if f.startMissing && !other && c.awaitFirst then s
      else if f.startMissing || other then
        if s.cntState n == cntFAULT then s.set (F.MOT_CH_STATUS_bad_run n) (min (s.get (F.MOT_CH_STATUS_bad_run n) + 1) 65535)
        else
          let s := s.inc (F.MOT_CH_STATUS_bad_run n)
          let s := s.countError n errSERIAL
          if s.get (F.MOT_CH_STATUS_bad_run n) > g.badLimit then s.posFault n 4 else s
      else
        let s := s.set (F.MOT_CH_STATUS_bad_run n) 0
        if s.cntState n == cntFAULT then s
        else
          let count := if !c.awaitFirst then c.count + step else if c.everGood then extendNear bitsN v c.count else (v : Int)
          let d := count - c.count
          let first := s.cntState n == cntWAIT
          let s := s.setChan n { s.chan n with count := count, reading := some v, awaitFirst := false, everGood := true,
                                               changes := c.withChange s.clk.now d, seen := c.seen + 1 }
          let s := if first then (s.set (F.MOT_CH_STATUS_count_state n) cntVALID).startDividers n false else s
          (s.chooseMethod n).showChan n)

/-- AMPLITUDE_LOSS: a differential pair has lost amplitude for 1 µs (R308). -/
def execAmplitudeLoss (n : ChanId) (s : State) : Host.Outcome State Fault Refusal :=
  s.run (fun s => if s.cntState n == cntOFF then s else (s.setChan n { s.chan n with lineBreak := true }).posFault n 1)

/-- AMPLITUDE_RETURN: the pair has amplitude again; the FAULT stays until CLEAR_FAULT (R308). -/
def execAmplitudeReturn (n : ChanId) (s : State) : Host.Outcome State Fault Refusal :=
  s.run (fun s => s.setChan n { s.chan n with lineBreak := false })

/-- The speed of every channel whose speed is VALID as the sample that begins finds it (R310): the window slides, the estimate decays, and the method
changes. -/
def State.speedSample (s : State) : State :=
  s.each (upTo 8) (fun s n => if s.get (F.MOT_CH_STATUS_speed_state n) = 0 then s else (s.chooseMethod n).showChan n)

/-- SPEED_STANDSTILL: no count change for the standstill time; the estimate is 0 (R310). -/
def execSpeedStandstill (n : ChanId) (s : State) : Host.Outcome State Fault Refusal :=
  s.run (fun s =>
    if s.get (F.MOT_CH_STATUS_speed_state n) = 0 || s.serialMode n then s
    else (s.set (F.MOT_CH_STATUS_speed_state n) 1).showChan n)

/-- A cause of R308 is there: loss of amplitude, the supply pin, more than 16 count errors in the last 1 ms, or too many bad samples in a row. -/
def State.faultPersists (s : State) (n : Nat) : Bool :=
  let c := s.chan n
  c.lineBreak || c.supply || decide (16 < (c.errTimes.filter (fun t => s.clk.now - t < samplesPerMs)).length) ||
    (s.serialMode n && decide (s.get (F.MOT_CH_STATUS_bad_run n) > (s.framing n).badLimit))

/-- Set the command status of MOT for port `i`. -/
def State.motStatus (s : State) (i : Port) (code reason : Nat) : State :=
  (s.set (F.MOT_CMD_STATUS_code i) code).set (F.MOT_CMD_STATUS_reason i) reason

/-- CLEAR_FAULT (R308). -/
def execClearFault (i : Port) (n : ChanId) (s : State) : Host.Outcome State Fault Refusal :=
  s.run (fun s =>
    if !s.privileged i then (s.raise Code.MOT_ROLE [i, 4]).motStatus i Code.MOT_ROLE 0
    else if s.cntState n != cntFAULT then
      (s.raise Code.MOT_CMD_REFUSED [i, n, 1]).motStatus i Code.MOT_CMD_REFUSED 2
    else if s.faultPersists n then
      (s.raise Code.MOT_CMD_REFUSED [i, n, 0]).motStatus i Code.MOT_CMD_REFUSED 1
    else
      let s := (s.set (F.MOT_CH_STATUS_count_state n) cntWAIT).set (F.MOT_CH_STATUS_fault_cause n) 0
      let s := s.set (F.MOT_CH_STATUS_bad_run n) 0
      let s := s.setChan n { s.chan n with awaitFirst := true, seen := 0, errTimes := [] }
      let s := (s.raise Code.POS_FAULT_CLEARED [i, n]).startDividers n true
      let s := if (upTo 8).any (fun k => s.cntState k == cntFAULT) then s else s.causeOff Code.POS_FAULT
      (s.showChan n).motStatus i 0 0)

/-! ### Arming and firing (R314 to R317) -/

/-- The tables of partition `p` that part `tag` runs on: the old ones for a part of an old iteration (R62). -/
def State.tablesFor (s : State) (p tag : Nat) : Option PartTables :=
  match s.route.iters.find? (fun it => it.part == p && it.gen < tget 0 s.route.gens p && it.tags.contains tag) with
  | some it => tfind s.cfg.oldTables (oldKey p it.gen)
  | none => tfind s.cfg.partTables p

/-- The pulse program `k` of partition `p` for part `tag`. -/
def State.pulseProgram (s : State) (p k tag : Nat) : Option PulseProgram :=
  (s.tablesFor p tag).bind (fun t => (t.programs.find? (fun e => e.1 == k)).map (fun e => e.2))

/-- The lowest free entry of a channel. -/
def State.freeEntry (s : State) (n : Nat) : Option Nat :=
  let used := (s.chanEntries n).map (fun x => x.1 % 4096)
  if used.length ≥ 4096 then none else (List.range (used.length + 1)).find? (fun i => !used.contains i)

/-- Why an arm is refused, the first of R314's order: 0 = accepted (Table MOT-4). -/
def State.armReason (s : State) (p : Nat) (r : List Byte) : Nat :=
  let ch := recField r 1 1
  let out := recField r 3 1
  let tag := recField r 4 4
  let target := toSigned 64 (recField r 8 8)
  let lead := recField r 16 2
  let es := s.chanEntries ch
  if recField r 0 1 != 1 || recField r 18 14 != 0 then 8
  else if ch ≥ 8 || (s.cntState ch != cntVALID) then 6
  else if (s.pulseProgram p (recField r 2 1) tag).isNone then 7
  else if !(match s.claim out with | some (q, c) => q == p && !c.host | none => false) then 5
  else if es.any (fun x => x.2.tag == tag) then 4
  else if es.length ≥ 4096 then 1
  else if target - (s.chan ch).count > 2 ^ 40 then 3
  else if (s.chan ch).count + s.projection ch lead ≥ target then 2
  else 0

/-- The arm-refusal reaction of partition `p` is PARTITION (Table SAFE-10). -/
def State.armRefusalSoft (s : State) (p : Nat) : Bool :=
  s.cfg.safety.checkSets.any (fun k => k.part == p && k.armPartition)

/-- ARM: the milepost unit consumes an ARM record of partition `p` (R314); on the DXM-9640-V the tracker's report of a
detection allocates the result (R347). -/
def execArm (p : Part) (r : List Byte) (s : State) : Host.Outcome State Fault Refusal :=
  s.run (fun s =>
    let ch := recField r 1 1
    let tag := recField r 4 4
    let out := recField r 3 1
    let target := toSigned 64 (recField r 8 8)
    if !s.hasField then s.openSubject p tag none 255 out target
    else
      let reason := s.armReason p r
      if reason != 0 then
        let s := s.raise Code.MILEPOST_REFUSED [ch, tag, reason]
        let s := if ch < 8 then s.inc (F.MOT_CH_LATE_refused ch) else s
        let s := s.openSubject p tag none ch out target
        let s := match s.host.subjects.getLast? with
          | some u => s.settle u outINVALID 0 Code.MILEPOST_REFUSED 0 none
          | none => s
        if s.isSafetyPart p && !s.armRefusalSoft p then s.enterSafe Code.MILEPOST_REFUSED (sourceUnit 0x0C ch) else s
      else
        match s.freeEntry ch, s.pulseProgram p (recField r 2 1) tag with
        | some i, some g =>
          let c := s.chan ch
          let e : Milepost :=
            { target := target, tag := tag, lead := recField r 16 2, prog := recField r 2 1, program := g, output := out,
              state := 1, doubt := 0, suppressed := false, outFault := false, overlap := false, part := p, firedAt := 0,
              serial := c.serial, late := false }
          let s := (s.setChan ch { c with serial := (c.serial + 1) % 65536 }).setEntry (mpKey ch i) (some e)
          s.openSubject p tag (some (mpKey ch i)) ch out target
        | _, _ => s)

/-- MILEPOST_FIRE: count plus projection reaches a target (R314). -/
def execMilepostFire (n : ChanId) (s : State) : Host.Outcome State Fault Refusal :=
  s.run (fun s => s.each (s.due n) (fun s x => s.fireEntry x.1 x.2))

/-- The running program of an entry. -/
def State.pulseOf (s : State) (key : Nat) : Option Pulse := s.motion.pulses.find? (fun u => u.entry == key)

/-- PULSE_STEP_END: a time step ends, or the count has advanced by the step's count (R316). -/
def execPulseStepEnd (n : ChanId) (e : Fin 4096) (s : State) : Host.Outcome State Fault Refusal :=
  s.run (fun s => match s.pulseOf (mpKey n e) with
    | none => s
    | some u => match u.program.steps[u.step]? with
      | none => s.endPulse u
      | some st =>
        if st.counts && (s.chan n).count - u.stepCount < st.duration then s else s.beginStep u (u.step + 1))

/-- PULSE_MAX_ON: the total ON time reaches max_on; the output is released and the program ends (R316). -/
def execPulseMaxOn (n : ChanId) (e : Fin 4096) (s : State) : Host.Outcome State Fault Refusal :=
  s.run (fun s => match s.pulseOf (mpKey n e) with
    | none => s
    | some u =>
      let prog := ((tfind s.motion.entries u.entry).map (fun x => x.prog)).getD 0
      (s.raiseAt n Code.PULSE_MAX_ON [u.output, prog]).endPulse u)

/-- NO_VERDICT: 64 periods after firing with no verdict (R348). -/
def execNoVerdict (p : Part) (tag : BitVec 32) (s : State) : Host.Outcome State Fault Refusal :=
  s.run (fun s => s.each ((s.openSubjects p tag.toNat).filter (fun u => u.firedPeriod.isSome)) (fun s u =>
    (s.raise Code.NO_VERDICT [p, tag.toNat]).settle u outINVALID 0 Code.NO_VERDICT u.flags none))

end Sys2Proof.Machine
end

