-- ==== Sys2Proof/Machine/Fio.lean ====
section
/-! DEFINITION. Trigger dividers (R311 to R313, R264), field inputs and captures (R318), field outputs and their diagnostics
(R319 to R322). -/

namespace Sys2Proof.Machine

/-! ### Dividers -/

def State.divider (s : State) (d : Nat) : Option Divider := tfind s.motion.dividers d
def State.setDivider (s : State) (d : Nat) (v : Divider) : State :=
  { s with motion := { s.motion with dividers := tput s.motion.dividers d v } }

/-- Enter a trigger in the record of a stream: the last 1,024, the newest first (R264). -/
def State.recordTrigger (s : State) (n k number count : Nat) : State :=
  let x := s.streamAt n k
  let t : Trig := { number := number, count := count, at_ := s.clk.now }
  s.setStream n k { x with trigs := (t :: x.trigs.filter (fun u => u.number != number)).take 1024
                           missed := x.missed.filter (fun m => m != number) }

/-- Divider `d` emits a trigger for count `c` (R312): it takes the next number, raises its PULSE output, and goes to each
lane of the mask, where a lane that is not UP only records it (R264). -/
def State.emitTrigger (s : State) (d c : Nat) : State :=
  let number := s.get (F.MOT_DIV_TRIG_next d)
  let s := s.incWrap (F.MOT_DIV_TRIG_next d)
  let g := s.divCfg d
  s.each (upTo 32) (fun s n =>
    if g.lanes.testBit n && (s.laneCfg n).enabled then
      let s := if s.laneState n == laneUP then s.sendTrigger n g.streams number c else s
      s.each (upTo 8) (fun s k => if g.streams.testBit k then s.recordTrigger n k number c else s)
    else s)

/-- The count of a divider's source, and whether the source delivers one.  A milestone source gives the raw count, which no STEP holds
back; its low 32 bits are the stamps of the DXM-9640-V (R4, R304, R334). -/
def State.divSource (s : State) (d : Nat) : Option Int :=
  let g := s.divCfg d
  if g.source == 1 then (if s.cntState g.channel == cntVALID then some (s.chan g.channel).count else none)
  else if g.source == 2 then some s.rawMs
  else none

/-- DIVIDER_TRIGGER: the source's count reaches or passes the threshold (R312); a trigger closer than 100 ns waits, and a
fifth one is dropped with DOUBT on the source channel (R313). -/
def execDividerTrigger (d : Fin 8) (s : State) : Host.Outcome State Fault Refusal :=
  s.run (fun s => match s.divider d, s.divSource d with
    | some v, some c =>
      if !v.started || c * 65536 < v.threshold then s
      else
        let n := ofSigned 32 c
        let v1 := { v with threshold := v.threshold + (s.divCfg d).ratio }
        if !v.busy then
          (s.setDivider d { v1 with busy := true, pulse := true }).emitTrigger d n
        else if v.waiting.length < 4 then s.setDivider d { v1 with waiting := v.waiting ++ [n] }
        else
          let s := ((s.setDivider d v1).inc (F.MOT_DIV_TRIG_dropped d)).raise Code.TRIGGER_DROPPED
            [d, s.get (F.MOT_DIV_TRIG_next d)]
          if (s.divCfg d).source == 1 then s.doubt (s.divCfg d).channel Code.TRIGGER_DROPPED else s
    | _, _ => s)

/-- TRIGGER_RELEASE: 100 ns after a trigger, the next that waits is emitted (R313). -/
def execTriggerRelease (d : Fin 8) (s : State) : Host.Outcome State Fault Refusal :=
  s.run (fun s => match s.divider d with
    | none => s
    | some v => match v.waiting with
      | [] => s.setDivider d { v with busy := false }
      | c :: cs => (s.setDivider d { v with waiting := cs, busy := true, pulse := true }).emitTrigger d c)

/-- PULSE_WIDTH_END: the pulse width of a divider's PULSE output ends (R312). -/
def execPulseWidthEnd (d : Fin 8) (s : State) : Host.Outcome State Fault Refusal :=
  s.run (fun s => match s.divider d with
    | none => s
    | some v => s.setDivider d { v with pulse := false })

/-! ### Field inputs (R318) -/

/-- The count of channel `n` as it was `back` samples ago, from its recent count changes. -/
def State.countAt (s : State) (n back : Nat) : Int :=
  let c := s.chan n
  c.count - (c.changes.filter (fun e => s.clk.now < e.1 + back)).foldl (fun a e => a + e.2) 0

/-- Input `i` takes its first level after the return of the field supply, without an edge (R318). -/
def State.settleInput (s : State) (i : Nat) (level : Bool) : State :=
  let s := { s with fio := { s.fio with settle := s.fio.settle.filter (fun e => e.1 != i) } }
  s.setBit F.FIO_IN_state i level

/-- The inputs whose filter time since that return has passed take their level. -/
def State.settleField (s : State) : State :=
  s.each (s.fio.settle.filter (fun e => e.2.1 ≤ s.clk.now)) (fun s e => s.settleInput e.1 e.2.2)

/-- FIELD_INPUT_CHANGE: input `i` has held a new level for its filter time; a named edge is captured with the count and the
clock of its first sample, which lies the filter time back (R318); an input that settles takes its level without an edge. -/
def execFieldInputChange (i : Fin 32) (level : Bool) (s : State) : Host.Outcome State Fault Refusal :=
  s.run (fun s =>
    if !s.hasField || !s.island 120 || s.fieldLow then s
    else if s.fio.settle.any (fun e => e.1 == i.val) then s.settleInput i level
    else if (s.get F.FIO_IN_state).testBit i == level then s
    else
      let g := s.inCfg i
      let s := s.setBit F.FIO_IN_state i level
      let wants := g.edge == 3 || (g.edge == 1 && level) || (g.edge == 2 && !level)
      if !wants then s
      else
        let s := s.set (F.FIO_CAP_COUNT_count i) (ofSigned 32 (s.countAt g.capture (g.filterUs * 200)))
        let s := s.set (F.FIO_CAP_TIME_ns i) ((s.clk.ns + 1000000000 - g.filterUs * 1000) % 1000000000)
        s.set (F.FIO_CAP_TIME_new i) 1)

/-! ### Field outputs (R319, R321, R322) -/

/-- Port `i` is the owning port of the partition that claims output `o`. -/
def State.claimPort (s : State) (i : Port) (o : Nat) : Bool :=
  match s.claim o with
  | some (p, _) => s.owns i p
  | none => false

/-- Port `i` may drive output `o` as a HOST output (R319). -/
def State.mayDrive (s : State) (i : Port) (o : Nat) : Bool :=
  match s.claim o with
  | some (p, c) => c.host && (s.owns i p || s.role i == roleOWNER)
  | none => false

/-- A write of FIO_OUT_SET or FIO_OUT_CLR: `f` acts for each output of the mask that port `i` may drive; any other output
of the mask is ignored and the write is written as FIO_ROLE. -/
def State.hostOut (s : State) (i : Port) (mask off : Nat) (f : State → Nat → State) : State :=
  let s := s.each (upTo 32) (fun s o => if mask.testBit o && s.mayDrive i o then f s o else s)
  if (upTo 32).any (fun o => mask.testBit o && !s.mayDrive i o) then s.raise Code.FIO_ROLE [i, off] else s

/-- FIO_OUT_SET (R319): ignored in the safe state, and for an output whose supply is low (R322). -/
def execFioOutSet (i : Port) (mask : Word) (s : State) : Host.Outcome State Fault Refusal :=
  s.run (fun s =>
    if !s.hasField then s
    else s.hostOut i mask.toNat 0xC (fun s o =>
      if s.suppressed o || s.fio.hostOn.testBit o then s
      else { s with fio := { s.fio with hostOn := s.fio.hostOn + 2 ^ o } }))

/-- FIO_OUT_CLR (R319). -/
def execFioOutClr (i : Port) (mask : Word) (s : State) : Host.Outcome State Fault Refusal :=
  s.run (fun s =>
    if !s.hasField then s
    else s.hostOut i mask.toNat 0x10 (fun s o =>
      if s.fio.hostOn.testBit o then { s with fio := { s.fio with hostOn := s.fio.hostOn - 2 ^ o } } else s))

/-- A latched or reported diagnostic of output `o` is cleared. -/
def State.clearOutput (s : State) (o : Nat) : State :=
  (((s.set (F.FIO_OUT_DIAG_overload o) 0).set (F.FIO_OUT_DIAG_latched o) 0).set (F.FIO_OUT_DIAG_open_wire o) 0).set
    (F.FIO_OUT_DIAG_isolator o) 0

/-- OUTPUT_CLEAR: FIO_OUT_CMD CLEAR from OWNER, SERVICE or the owning port of the claiming partition (R321). -/
def execOutputClear (i : Port) (o : BitVec 6) (s : State) : Host.Outcome State Fault Refusal :=
  s.run (fun s =>
    if !s.hasField then s
    else if !(s.privileged i || s.claimPort i o.toNat) then s.raise Code.FIO_ROLE [i, 0x14]
    else if o.toNat < 32 then s.clearOutput o.toNat else s)

/-- Fault numbers of FIO_OUTPUT_FAULT, in the order of Table FIO-1. -/
def faultOVERLOAD : Nat := 0
def faultGROUP : Nat := 1
def faultOPENWIRE : Nat := 2
def faultOVERTEMP : Nat := 3
def faultISOLATOR : Nat := 4

/-- The entries whose programs run on output `o` carry OUTPUT_FAULT (R321). -/
def State.markOutFault (s : State) (o : Nat) : State :=
  s.each (s.motion.pulses.filter (fun u => u.output == o)) (fun s u => match tfind s.motion.entries u.entry with
    | none => s
    | some e =>
      let e1 := { e with outFault := true }
      let s := s.setEntry u.entry (some e1)
      { s with host := { s.host with subjects := s.host.subjects.map (fun x =>
        if x.key == some u.entry && x.tag == e.tag && x.part == e.part && !x.settled then { x with flags := mpFlags e1 } else x) } })

/-- Output `o` is off for an overload: retried after its retry time, or latched until CLEAR where that is 0. -/
def State.overload (s : State) (o : Nat) : State :=
  let s := (s.set (F.FIO_OUT_DIAG_overload o) 1).markOutFault o
  if s.get (F.FIO_OUT_CFG_retry_ms o) = 0 then s.set (F.FIO_OUT_DIAG_latched o) 1 else s

/-- FIO_OUTPUT_FAULT: a diagnostic of Table FIO-1 (R321). -/
def execFioOutputFault (o : Fin 32) (kind : Fin 5) (mA : BitVec 16) (s : State) : Host.Outcome State Fault Refusal :=
  s.run (fun s =>
    let masked := kind.val == faultOPENWIRE && ((s.claim o).map (fun c => c.2.openWireMask)).getD false
    if !s.hasField || !s.island 120 || masked then s
    else
      let s := (s.inc (F.FIO_OUT_FAULTS_count o)).raise Code.FIO_OUTPUT_FAULT [o, kind, mA.toNat]
      match kind.val with
      | 0 => (s.set (F.FIO_OUT_DIAG_current_ma o) mA.toNat).overload o
      | 1 => (s.set (F.FIO_GROUP_current_ma (o.val / 8)) mA.toNat).each (upTo 8) (fun s k => s.overload (8 * (o.val / 8) + k))
      | 2 => ((s.set (F.FIO_OUT_DIAG_current_ma o) mA.toNat).set (F.FIO_OUT_DIAG_open_wire o) 1).markOutFault o
      | 3 => ((s.set (F.FIO_OUT_DIAG_current_ma o) mA.toNat).set (F.FIO_OUT_DIAG_over_temp o) 1).markOutFault o
      | _ => (s.set (F.FIO_OUT_DIAG_isolator o) 1).markOutFault o)

/-- OUTPUT_RETRY: the retry time of an output off for an overload has passed (R321). -/
def execOutputRetry (o : Fin 32) (s : State) : Host.Outcome State Fault Refusal :=
  s.run (fun s => if s.on (F.FIO_OUT_DIAG_latched o) then s else s.set (F.FIO_OUT_DIAG_overload o) 0)

/-- OUTPUT_COOLED: the driver has cooled by 15 °C (R321). -/
def execOutputCooled (o : Fin 32) (s : State) : Host.Outcome State Fault Refusal :=
  s.run (fun s => s.set (F.FIO_OUT_DIAG_over_temp o) 0)

end Sys2Proof.Machine
end

