-- ==== Sys2Proof/Machine/Keep.lean ====
section
/-! DEFINITION. The keep store (R80 to R82), identity and the DOE messages (R83 to R90). -/

namespace Sys2Proof.Machine

/-! ### Records (Table KEEP-1) -/

/-- Record numbers, in the order of Table KEEP-1. -/
def recBOOT : Nat := 0
def recCOMMIT : Nat := 1
def recCOUNTERS : Nat := 2
def recRATCHETS : Nat := 3
def recOWNER : Nat := 6
def recBASELINE : Nat := 7
def recLOCK : Nat := 8

/-- `into` with record `r` taken from `k`. -/
def Keep.takeRec (r : Nat) (k into : Keep) : Keep :=
  match r with
  | 0 => { into with fwSlot := k.fwSlot, fwTrial := k.fwTrial, fwTries := k.fwTries }
  | 1 => { into with full := k.full, overlays := k.overlays }
  | 2 => { into with cycles := k.cycles, seconds := k.seconds }
  | 3 => { into with ownerLeft := k.ownerLeft, epoch := k.epoch, safetyLeft := k.safetyLeft, upkeepLeft := k.upkeepLeft }
  | 6 => { into with owner := k.owner }
  | 7 => { into with baseline := k.baseline }
  | 8 => { into with lock := k.lock }
  -- helper data and identity record are written at manufacture only: both copies say the same
  | _ => into

/-- What a reader takes of the ratchets is never more than what `old` has left: they count down and never up (R82). -/
def Keep.neverUp (k old : Keep) : Keep :=
  { k with ownerLeft := min k.ownerLeft old.ownerLeft, epoch := max k.epoch old.epoch
           safetyLeft := min k.safetyLeft old.safetyLeft, upkeepLeft := min k.upkeepLeft old.upkeepLeft }

/-- Sequence number `a` is higher than `b`, or equal: both are 32-bit numbers, compared modulo 2^32 (R80; the wrap is a DESIGN CHOICE). -/
def seqLe (b a : Nat) : Bool := (a + 2 ^ 32 - b) % 2 ^ 32 < 2 ^ 31

/-- The sequence number of record `r` in a copy, and whether its CRC-32 fits (R80). -/
def KeepCopy.seqOf (c : KeepCopy) (r : Nat) : Nat := tget 0 c.seq r
def KeepCopy.good (c : KeepCopy) (r : Nat) : Bool := !c.bad.contains r

/-- Record `r` of a copy written from `k` with sequence number `n`, its CRC-32 last (R80). -/
def KeepCopy.write (c : KeepCopy) (r : Nat) (k : Keep) (n : Nat) : KeepCopy :=
  { content := Keep.takeRec r k c.content, seq := tput c.seq r n, bad := c.bad.filter (fun q => q != r) }

/-- A reader of record `r` takes copy A: the valid copy with the higher sequence number (R80). -/
def Boot.readsA (b : Boot) (r : Nat) : Bool :=
  b.copyA.good r && (!b.copyB.good r || seqLe (b.copyB.seqOf r) (b.copyA.seqOf r))

/-- A write of record `r` goes to copy A: the copy with the lower sequence number, a copy whose CRC does not fit before a valid
one (R80). -/
def Boot.writesA (b : Boot) (r : Nat) : Bool :=
  if b.copyA.good r == b.copyB.good r then seqLe (b.copyA.seqOf r) (b.copyB.seqOf r) else !b.copyA.good r

/-- Write record `r` from `k` into the keep store, with the higher sequence number plus 1 (R80). -/
def Boot.writeRec (b : Boot) (r : Nat) (k : Keep) : Boot :=
  let higher := if seqLe (b.copyA.seqOf r) (b.copyB.seqOf r) then b.copyB.seqOf r else b.copyA.seqOf r
  let n := (higher + 1) % 2 ^ 32
  if b.writesA r then { b with copyA := b.copyA.write r k n } else { b with copyB := b.copyB.write r k n }

/-- The CRC of record `r` in copy `c` (0 = A) does not fit. -/
def Boot.tear (b : Boot) (r c : Nat) : Boot :=
  if c = 0 then { b with copyA := { b.copyA with bad := r :: b.copyA.bad.filter (fun q => q != r) } }
  else { b with copyB := { b.copyB with bad := r :: b.copyB.bad.filter (fun q => q != r) } }

/-- Write record `r` of the keep store. -/
def State.keepWrite (s : State) (r : Nat) (f : Keep → Keep) : State :=
  { s with boot := s.boot.writeRec r (f s.keep), keep := f s.keep }

/-- The first record of Table KEEP-1 both of whose copies are bad (Table BOOT-2). -/
def State.lostRecord (s : State) : Option Nat := (upTo 9).find? (fun r => !s.boot.copyA.good r && !s.boot.copyB.good r)

/-- Both copies of some record of Table KEEP-1 are bad. -/
def State.keepLost (s : State) : Bool := s.lostRecord.isSome

/-- The owner record as the module can read it: without an identity it cannot be unwrapped (R83). -/
def State.ownerRec (s : State) : Option OwnerRec := if s.get F.KEEP_STATUS_identity == 2 then none else s.keep.owner

/-- Show the keep store in the KEEP, ZLD and SAFE registers that hold its values. -/
def State.showKeep (s : State) : State :=
  let k := s.keep
  let s := (s.set F.KEEP_RATCHET_owner_left k.ownerLeft).set F.KEEP_RATCHET_epoch_left (1023 - k.epoch)
  let s := (s.set F.KEEP_RATCHET_safety_left k.safetyLeft).set F.KEEP_RATCHET_upkeep_left k.upkeepLeft
  let s := (s.set F.ZLD_ACTIVE_epoch k.epoch).set F.ZLD_ACTIVE_upkeep_left k.upkeepLeft
  let w := s.ownerRec
  let s := (s.setB F.KEEP_STATUS_owned w.isSome).setB F.KEEP_STATUS_baseline_present k.baseline.isSome
  let s := s.setB F.SAFE_STATUS_lock k.lock
  let s := s.set F.KEEP_SIGNERS_count ((w.map (fun o => o.signers.length)).getD 0)
  let key := (w.map (fun o => o.key)).getD 0
  s.each (upTo 16) (fun s i => s.set (F.KEEP_OWNER_KEY_word i) (key.toNat / 2 ^ (32 * i)))

/-- Ratchet numbers, in the order of Table KEEP-2. -/
def ratOWNER : Nat := 0
def ratEPOCH : Nat := 1
def ratSAFETY : Nat := 2
def ratUPKEEP : Nat := 3

/-- Spend ratchet steps with `f`, which leaves `left` of ratchet `n`; the step is written first (R82), to one copy of the record and then
to the other, so that a step which has taken effect stands in both, and a write that is cut never gains one (DESIGN CHOICE). -/
def State.spend (s : State) (n left : Nat) (f : Keep → Keep) : State :=
  (((s.keepWrite recRATCHETS f).keepWrite recRATCHETS (fun k => k)).showKeep).raise Code.KEEP_RATCHET_SPENT [n, left]

/-- OP_SECONDS_SAVE: the counters are saved (R81). -/
def State.saveCounters (s : State) : State :=
  s.keepWrite recCOUNTERS (fun k => { k with cycles := s.get F.KEEP_POWER_CYCLES_count, seconds := s.opSeconds })

def execOpSecondsSave (s : State) : Host.Outcome State Fault Refusal := s.run State.saveCounters

/-! ### DOE (R89, R90) -/

/-- Message codes of Table KEEP-5. -/
def doeGET_IDENTITY : Nat := 0x01
def doeGET_MEASUREMENTS : Nat := 0x02
def doeATTEST : Nat := 0x03
def doeCHALLENGE : Nat := 0x10
def doePROVE : Nat := 0x11
def doeCLAIM : Nat := 0x12
def doeTRANSFER : Nat := 0x13
def doeSIGNERS : Nat := 0x14
def doeRATCHETS : Nat := 0x20
def doeERROR : Nat := 0xFF

/-- The response of port `i`: its header copies the tag, its code is the request's with bit 7 set. -/
def State.doeAnswer (s : State) (i : Port) (code : Nat) (h : DoeHeader) (body : List Byte) : State :=
  let bs := leBytes 2 (code ||| 0x80) ++ leBytes 2 body.length ++ leBytes 4 h.tag.toNat ++ body
  { s with boot := { s.boot with doe := tput s.boot.doe i bs } }

/-- An ERROR response with a status code for a request code. -/
def State.doeError (s : State) (i : Port) (h : DoeHeader) (status req : Nat) : State :=
  s.doeAnswer i doeERROR h (leBytes 2 status ++ leBytes 2 req)

/-- A malformed request changes nothing (R90); `off` is the offending byte. -/
def State.doeMalformed (s : State) (i : Port) (h : DoeHeader) (req off : Nat) : State :=
  (s.raise Code.KEEP_DOE_MALFORMED [i, off]).doeError i h Code.KEEP_DOE_MALFORMED req

/-- A request whose proof does not hold. -/
def State.doeProofFail (s : State) (i : Port) (h : DoeHeader) (req : Nat) : State :=
  (s.raise Code.KEEP_PROOF_FAIL [i, req]).doeError i h Code.KEEP_PROOF_FAIL req

/-- Take a request of the stated body length: an unknown code and a wrong length are malformed (R90), and without an identity every request but
GET_IDENTITY is answered ERROR (R83). The status code of that ERROR is KEEP_IDENTITY_FAIL: R83 names no code (DESIGN CHOICE). -/
def State.doe (s : State) (i : Port) (h : DoeHeader) (req len : Nat) (f : State → State) : State :=
  if h.code.toNat != req then s.doeMalformed i h h.code.toNat 0
  else if h.length.toNat != len then s.doeMalformed i h req 2
  else if s.get F.KEEP_STATUS_identity == 2 && req != doeGET_IDENTITY then s.doeError i h Code.KEEP_IDENTITY_FAIL req
  else f s

/-- The device identifier: the first 8 bytes of the SHA3-256 digest of the identity public key, bytes 80 to 2,671 of the identity
record (R83, Table KEEP-3). -/
@[irreducible] def deviceId : Nat := leNat ((sha3_256 ((List.range 2592).map (fun i => Config.identityByte (68 + i)))).take 8)

/-- The variant byte of Table KEEP-3. -/
def State.variantMask (s : State) : Nat := match s.variant with | .f9640 => 1 | .v9640 => 2 | .f9620 => 4

/-- The identity record, 7,299 bytes (Table KEEP-3). -/
def State.identityRecord (s : State) : List Byte :=
  leBytes 8 deviceId ++ leBytes 2 0x9640 ++ leBytes 1 s.variantMask ++ leBytes 1 Config.stepping.toNat ++
    (List.range 7287).map Config.identityByte

/-- The four remaining ratchet counts (Table KEEP-2). -/
def State.ratchetBytes (s : State) : List Byte :=
  leBytes 2 s.keep.ownerLeft ++ leBytes 2 (1023 - s.keep.epoch) ++ leBytes 2 s.keep.safetyLeft ++ leBytes 2 s.keep.upkeepLeft

/-- The measurement block, 536 bytes (Table KEEP-6). -/
def State.measurements (s : State) : List Byte :=
  leBytes 8 deviceId ++ digestBytes512 s.boot.fwDigest ++ digestBytes512 s.cfg.digest ++
    (upTo 8).flatMap (fun p => match tfind s.keep.overlays p with
      | some (_, d) => if s.on (F.ZLD_OVERLAY_present p) then (digestBytes512 d).take 32 else List.replicate 32 0
      | none => List.replicate 32 0) ++
    leBytes 2 s.keep.epoch ++ s.ratchetBytes ++ leBytes 1 (bit s.keep.owner.isSome) ++
    leBytes 1 (s.get F.ZLD_ACTIVE_upkeep_mode) ++ digestBytes512 ((s.keep.owner.map (fun o => o.key)).getD 0) ++
    leBytes 3 (s.get F.KEEP_POWER_CYCLES_count) ++ leBytes 1 (bit s.keep.lock) ++ digestBytes512 s.cfg.safety.digest

/-- GET_IDENTITY. -/
def execGetIdentity (i : Port) (h : DoeHeader) (s : State) : Host.Outcome State Fault Refusal :=
  s.run (fun s => s.doe i h doeGET_IDENTITY 0 (fun s => s.doeAnswer i doeGET_IDENTITY h s.identityRecord))

/-- GET_MEASUREMENTS. -/
def execGetMeasurements (i : Port) (h : DoeHeader) (s : State) : Host.Outcome State Fault Refusal :=
  s.run (fun s => s.doe i h doeGET_MEASUREMENTS 0 (fun s => s.doeAnswer i doeGET_MEASUREMENTS h s.measurements))

/-- The bytes of "CHX-ATTEST". -/
def attestTag : List Byte := [0x43, 0x48, 0x58, 0x2D, 0x41, 0x54, 0x54, 0x45, 0x53, 0x54]

/-- ATTEST: the measurement block, and the identity key's signature over domain, device, port, nonce and block (R89). -/
def execAttest (i : Port) (h : DoeHeader) (nonce : BitVec 256) (s : State) : Host.Outcome State Fault Refusal :=
  s.run (fun s => s.doe i h doeATTEST 32 (fun s =>
    let m := s.measurements
    let msg := attestTag ++ leBytes 8 deviceId ++ leBytes 1 i ++ digestBytes nonce ++ m
    let d := BitVec.ofNat 512 (leNat (sha3_512 msg))
    s.doeAnswer i doeATTEST h (m ++ (List.range 4627).map (Config.signByte d))))

/-- OWNER_CHALLENGE: a nonce from the entropy source; the port's earlier challenge is void (R85). -/
def execOwnerChallenge (i : Port) (h : DoeHeader) (s : State) : Host.Outcome State Fault Refusal :=
  s.run (fun s => s.doe i h doeCHALLENGE 0 (fun s =>
    let (n, s) := s.drawEntropy
    let s := { s with boot := { s.boot with challenge := tput s.boot.challenge i (BitVec.ofNat 256 n) } }
    s.doeAnswer i doeCHALLENGE h (leBytes 32 n)))

/-- Void the challenge of port `i`. -/
def State.voidChallenge (s : State) (i : Nat) : State :=
  { s with boot := { s.boot with challenge := tdel s.boot.challenge i } }

/-- CHALLENGE_EXPIRED: 10 s after it was issued (R85). -/
def execChallengeExpired (i : Port) (s : State) : Host.Outcome State Fault Refusal := s.run (fun s => s.voidChallenge i)

/-- In the factory structure a port with a proof acts as OWNER and every other as OBSERVER (R69). -/
def State.factoryRoles (s : State) : State :=
  if s.on F.ZLD_ACTIVE_factory_structure then
    s.each [0, 1, 2, 3] (fun s i => s.set (F.HOST_STATUS_role i) (if s.boot.proven.contains i then roleOWNER else roleOBSERVER))
  else s

/-- OWNER_PROVE: a signature by the owner key over the port's challenge, which is used up (R84, R85). `ok` says that the
signature verifies. -/
def execOwnerProve (i : Port) (h : DoeHeader) (ok : Bool) (s : State) : Host.Outcome State Fault Refusal :=
  s.run (fun s => s.doe i h doePROVE 4627 (fun s =>
    let had := (tfind s.boot.challenge i).isSome
    let s := s.voidChallenge i
    if had && ok && s.keep.owner.isSome then
      let s := { s with boot := { s.boot with proven := if s.boot.proven.contains i then s.boot.proven
                                                        else s.boot.proven ++ [i.val] } }
      (s.factoryRoles).doeAnswer i doePROVE h [0, 0]
    else s.doeProofFail i h doePROVE))

/-- The owner record changes: every proof and challenge is void (R84, R85). -/
def State.setOwner (s : State) (o : OwnerRec) : State :=
  let s := s.keepWrite recOWNER (fun k => { k with owner := some o })
  (({ s with boot := { s.boot with proven := [], challenge := [] } }).showKeep).factoryRoles

/-- The body length of an ownership message: a key where it has one, the signer list and `n` signatures. -/
def ownerLen (key : Bool) (signers n : Nat) : Nat := (if key then 2592 else 0) + 1 + 64 * signers + 4627 * n

/-- A signer count outside 1 to 4 is malformed (R90); it stands at byte `off`. -/
def State.signerCount (s : State) (i : Port) (h : DoeHeader) (req n off : Nat) (f : State → State) : State :=
  if n < 1 || n > 4 then s.doeMalformed i h req off else f s

/-- Spend an ownership step, or refuse with KEEP_RATCHET_EMPTY at 0 (R82, R86). -/
def State.ownerStep (s : State) (i : Port) (h : DoeHeader) (req : Nat) (f : State → State) : State :=
  if s.keep.ownerLeft = 0 then (s.raise Code.KEEP_RATCHET_EMPTY [ratOWNER, i]).doeError i h Code.KEEP_RATCHET_EMPTY req
  else f (s.spend ratOWNER (s.keep.ownerLeft - 1) (fun k => { k with ownerLeft := k.ownerLeft - 1 }))

/-- OWNER_CLAIM (R86): the module is unclaimed, the port is OWNER or SERVICE or the factory structure runs, and the new
owner key signed over the port's challenge (`ok`). -/
def execOwnerClaim (i : Port) (h : DoeHeader) (key : BitVec 512) (signers : List (BitVec 512)) (ok : Bool) (s : State) :
    Host.Outcome State Fault Refusal :=
  s.run (fun s => s.doe i h doeCLAIM (ownerLen true signers.length 1) (fun s =>
    s.signerCount i h doeCLAIM signers.length 2600 (fun s =>
      let had := (tfind s.boot.challenge i).isSome
      let s := s.voidChallenge i
      if s.keep.owner.isSome || !(s.privileged i || s.on F.ZLD_ACTIVE_factory_structure) || !had || !ok then
        s.doeProofFail i h doeCLAIM
      else s.ownerStep i h doeCLAIM (fun s =>
        let s := (s.setOwner { key := key, signers := signers }).raise Code.KEEP_OWNER_CLAIMED [i, signers.length]
        s.doeAnswer i doeCLAIM h ([0, 0] ++ leBytes 2 s.keep.ownerLeft)))))

/-- OWNER_TRANSFER (R86): signatures by the current and by the new owner key (`okOld`, `okNew`). -/
def execOwnerTransfer (i : Port) (h : DoeHeader) (key : BitVec 512) (signers : List (BitVec 512)) (okOld okNew : Bool)
    (s : State) : Host.Outcome State Fault Refusal :=
  s.run (fun s => s.doe i h doeTRANSFER (ownerLen true signers.length 2) (fun s =>
    s.signerCount i h doeTRANSFER signers.length 2600 (fun s =>
      let had := (tfind s.boot.challenge i).isSome
      let s := s.voidChallenge i
      if s.keep.owner.isNone || !had || !okOld || !okNew then s.doeProofFail i h doeTRANSFER
      else s.ownerStep i h doeTRANSFER (fun s =>
        let s := s.setOwner { key := key, signers := signers }
        let s := s.raise Code.KEEP_OWNER_TRANSFERRED [i, s.keep.ownerLeft]
        s.doeAnswer i doeTRANSFER h ([0, 0] ++ leBytes 2 s.keep.ownerLeft)))))

/-- OWNER_SET_SIGNERS (R86): a signature by the current owner key; no step is spent. -/
def execOwnerSetSigners (i : Port) (h : DoeHeader) (signers : List (BitVec 512)) (ok : Bool) (s : State) :
    Host.Outcome State Fault Refusal :=
  s.run (fun s => s.doe i h doeSIGNERS (ownerLen false signers.length 1) (fun s =>
    s.signerCount i h doeSIGNERS signers.length 8 (fun s =>
      let had := (tfind s.boot.challenge i).isSome
      let s := s.voidChallenge i
      match s.keep.owner with
      | some o =>
        if !had || !ok then s.doeProofFail i h doeSIGNERS
        else
          let s := (s.setOwner { o with signers := signers }).raise Code.KEEP_SIGNERS_CHANGED [i, signers.length]
          s.doeAnswer i doeSIGNERS h [0, 0]
      | none => s.doeProofFail i h doeSIGNERS)))

/-- GET_RATCHETS. -/
def execGetRatchets (i : Port) (h : DoeHeader) (s : State) : Host.Outcome State Fault Refusal :=
  s.run (fun s => s.doe i h doeRATCHETS 0 (fun s => s.doeAnswer i doeRATCHETS h s.ratchetBytes))

/-- DOE_ABORT ends the port's request: its response is gone; a spent ratchet step stays spent (R90). -/
def execDoeAbort (i : Port) (s : State) : Host.Outcome State Fault Refusal :=
  s.run (fun s => { s with boot := { s.boot with doe := tdel s.boot.doe i } })

end Sys2Proof.Machine
end

