-- ==== Sys2Proof/Machine/Waym.lean ====
section
/-! DEFINITION. The event recorder's own steps: the flash ring, the budget, the buckets, freezing and the read windows
(R417 to R425). -/

namespace Sys2Proof.Machine

/-- Records in one sector and sectors in the ring. -/
def sectorRecords : Nat := 2048
def ringSectors : Nat := 1024
def ringRecords : Nat := 2097152

/-- The ring holds a record in sector `x`. -/
def sectorHolds (flash : Tab Waymark) (x : Nat) : Bool := flash.any (fun e => e.1 / sectorRecords == x)

/-- The sequence number of the oldest readable record; the head's where the ring holds none. -/
def State.oldestSeq (s : State) : Nat :=
  let head := s.get F.WAYM_HEAD_SEQ_seq
  s.recorder.flash.foldl (fun best e =>
    if (head + 2 ^ 32 - e.2.seq) % 2 ^ 32 > (head + 2 ^ 32 - best) % 2 ^ 32 then e.2.seq else best) head

/-- Start the erase of sector `x` (R418): its records are gone, its wear grows, SECTOR_WEAR once per 1,000 erases above
80,000 (R420). -/
def State.eraseSector (s : State) (x : Nat) : State :=
  let r := s.recorder
  let n := tget 0 r.wear x + 1
  let s := { s with recorder :=
    { r with flash := r.flash.filter (fun e => e.1 / sectorRecords != x), torn := r.torn.filter (fun p => p / sectorRecords != x),
             wear := tset 0 r.wear x n, erasing := some x, eraseHeld := false } }
  let s := s.set F.WAYM_WEAR_erases (max (s.get F.WAYM_WEAR_erases) n)
  let s := s.set F.WAYM_OLDEST_SEQ_seq s.oldestSeq
  if n > 80000 && n % 1000 == 0 then s.raise Code.SECTOR_WEAR [x, n] else s

/-- The recorder may write at the head: the head was found, and at the first record of a sector that sector's erase has
completed and is not held back by a freeze (R418, R424). -/
def State.headFree (s : State) : Bool :=
  let r := s.recorder
  s.on F.WAYM_STATUS_scan_done &&
    (r.headPos % sectorRecords != 0 ||
      (!r.eraseHeld && (match r.erasing with | some x => x != r.headPos / sectorRecords | none => true)))

/-- The head enters a new sector `x`: the sector ahead of it is erased, or its erase is held back while the ring is
frozen and that sector holds records (R418, R424). -/
def State.enterSector (s : State) (x : Nat) : State :=
  let y := (x + 1) % ringSectors
  if s.on F.WAYM_STATUS_frozen && sectorHolds s.recorder.flash y then
    { s with recorder := { s.recorder with eraseHeld := true } }
  else s.eraseSector y

/-- Take one token of the global budget, if one is left (R420); an emptied budget writes RECORDER_BUDGET once. -/
def State.takeBudget (s : State) : State :=
  let t := s.get F.WAYM_BUDGET_tokens
  if t = 0 then s
  else
    let s := s.set F.WAYM_BUDGET_tokens (t - 1)
    if t = 1 && !s.on F.WAYM_STATUS_budget_empty then
      (s.set F.WAYM_STATUS_budget_empty 1).raise Code.RECORDER_BUDGET [0, 0]
    else s

/-- Write waymark `w` to flash at the head with the next sequence number, byte 31 last (R415, R417, R419). -/
def State.flashWrite (s : State) (w : Waymark) (extra : Nat) : State :=
  let r := s.recorder
  let seq := s.get F.WAYM_HEAD_SEQ_seq
  let fl := w.flags ||| extra ||| (if s.on F.WAYM_STATUS_frozen then flagFROZEN else 0) |||
    (if r.dropBefore then flagDROPBEFORE else 0)
  let w := { w with seq := seq, flags := fl }
  let s := if r.headPos % sectorRecords = 0 then s.enterSector (r.headPos / sectorRecords) else s
  let r := s.recorder
  let s := { s with recorder :=
    { r with flash := tput r.flash r.headPos w, headPos := (r.headPos + 1) % ringRecords, dropBefore := false } }
  let s := s.set F.WAYM_HEAD_SEQ_seq (seq + 1)
  let s := s.set F.WAYM_OLDEST_SEQ_seq s.oldestSeq
  let s := s.takeBudget
  -- vector 8 of each port that asks for this severity (R425)
  s.each [0, 1, 2, 3] (fun s i =>
    if s.on (F.WAYM_IRQ_enable i) && w.sev ≥ s.get (F.WAYM_IRQ_min_severity i) then s.fire i 8 else s)

/-- Take the oldest buffered waymark out of the front-end buffer. -/
def State.unbuffer (s : State) : State :=
  let b := s.recorder.buffer.drop 1
  ({ s with recorder := { s.recorder with buffer := b } }).set F.WAYM_STATUS_buffered b.length

/-- Write RECORDER_DROP once space has returned (R419). -/
def State.reportDrop (s : State) : State :=
  let r := s.recorder
  if r.lost = 0 then s
  else
    let s1 := { s with recorder := { r with lost := 0, lostSev := 3 } }
    s1.raise Code.RECORDER_DROP [r.lost, r.lostSev]

/-- Write the oldest buffered waymark, where there is one and the head is free. -/
def State.waymarkWrite (s : State) (extra : Nat) : State :=
  match s.recorder.buffer with
  | [] => s
  | w :: _ => if s.headFree then ((s.unbuffer).flashWrite w extra).reportDrop else s

/-- WAYMARK_WRITE (R419). -/
def execWaymarkWrite (s : State) : Host.Outcome State Fault Refusal := s.run (fun s => s.waymarkWrite 0)

/-- SECTOR_ERASED: the erase ahead of the head completes (R418). -/
def execSectorErased (s : State) : Host.Outcome State Fault Refusal :=
  s.run (fun s => { s with recorder := { s.recorder with erasing := none } })

/-- BUDGET_REFILL: one token of the 200 per second; leaving the empty budget writes RECORDER_BUDGET (R420). -/
def execBudgetRefill (s : State) : Host.Outcome State Fault Refusal :=
  s.run (fun s =>
    let t := min (s.get F.WAYM_BUDGET_tokens + 1) 100000
    let s := s.set F.WAYM_BUDGET_tokens t
    if s.on F.WAYM_STATUS_budget_empty then
      (s.set F.WAYM_STATUS_budget_empty 0).raise Code.RECORDER_BUDGET [1, t] else s)

/-- BUCKET_REFILL: every bucket below its capacity gains one token (R422). -/
def execBucketRefill (s : State) : Host.Outcome State Fault Refusal :=
  s.run (fun s =>
    let bs := s.recorder.buckets.map (fun e => (e.1, { e.2 with tokens := min (e.2.tokens + 1) (bucketCap e.1.1) }))
    let bs := bs.filter (fun e => e.2.tokens != bucketCap e.1.1 || e.2.supp != 0)
    { s with recorder := { s.recorder with buckets := bs } })

/-- WAYMARK_SUMMARY: a count held 10 s after its latest suppression is written in a SUMMARY record, which takes no token
of its bucket and passes the budget; dropped at a full buffer, the count stays held (R422). -/
def execWaymarkSummary (code par : Nat) (s : State) : Host.Outcome State Fault Refusal :=
  s.run (fun s =>
    let b := s.bucket (code, par)
    match b.last with
    | none => s
    | some w =>
      if b.supp = 0 then s
      else
        let w := { w with supp := b.supp, flags := (if s.recorder.early then flagEARLY else 0) ||| flagSUMMARY,
                          opSec := s.opSeconds, cycles := s.get F.KEEP_POWER_CYCLES_count }
        match s.buffer w with
        | some s1 => s1.setBucket (code, par) { b with supp := 0, last := none }
        | none => (s.setBucket (code, par) { b with lastAt := s.clk.now }).noteDrop w.sev)

/-- End the freeze of the ring with cause 0 = THAW, 1 = RESET or 2 = TIMEOUT (R424, Table WAYM-5): an erase held back by
the freeze starts. -/
def State.thaw (s : State) (cause : Nat) : State :=
  if !s.on F.WAYM_STATUS_frozen then s
  else
    let r := s.recorder
    let s := { s with recorder := { r with frozenBy := none, frozenLost := 0 } }
    let s := (s.set F.WAYM_STATUS_frozen 0).set F.WAYM_STATUS_freeze_port 0
    let s := s.raise Code.RECORDER_THAWED [cause, r.buffer.length, r.frozenLost]
    if r.eraseHeld then
      s.eraseSector (if r.headPos % sectorRecords = 0 then r.headPos / sectorRecords
        else (r.headPos / sectorRecords + 1) % ringSectors)
    else s

/-- Set the command status of WAYM for port `i`. -/
def State.waymStatus (s : State) (i : Port) (code reason : Nat) : State :=
  (s.set (F.WAYM_CMD_STATUS_code i) code).set (F.WAYM_CMD_STATUS_reason i) reason

/-- A WAYM command of port `i`: only OWNER and SERVICE ports may write WAYM_CMD (R431). -/
def State.waymCmd (s : State) (i : Port) (f : State → State) : State :=
  if s.privileged i then f s else (s.raise Code.WAYM_ROLE [i, 0xC]).waymStatus i Code.WAYM_ROLE 1

/-- FREEZE (R424): refused with reason BUSY while the ring is frozen. -/
def execFreeze (i : Port) (s : State) : Host.Outcome State Fault Refusal :=
  s.run (fun s => s.waymCmd i (fun s =>
    if s.on F.WAYM_STATUS_frozen then s.waymStatus i Code.WAYM_BAD_COMMAND 2
    else
      let seq := s.get F.WAYM_HEAD_SEQ_seq
      let s := { s with recorder := { s.recorder with frozenBy := some i, frozenLost := 0 } }
      let s := ((s.set F.WAYM_STATUS_frozen 1).set F.WAYM_STATUS_freeze_port i).set F.WAYM_FROZEN_AT_seq seq
      (s.raise Code.RECORDER_FROZEN [i, seq]).waymStatus i 0 0))

/-- THAW (R424): only the freezing port ends the freeze; from another port it is refused with reason ROLE. -/
def execThaw (i : Port) (s : State) : Host.Outcome State Fault Refusal :=
  s.run (fun s => s.waymCmd i (fun s =>
    if s.on F.WAYM_STATUS_frozen && s.recorder.frozenBy != some i.val then s.waymStatus i Code.WAYM_ROLE 1
    else (s.thaw 0).waymStatus i 0 0))

/-- FREEZE_TIMEOUT: 600 s after a freeze it ends (R424). -/
def execFreezeTimeout (s : State) : Host.Outcome State Fault Refusal := s.run (fun s => s.thaw 2)

/-- The eight words of a record (Table WAYM-1), byte 31 = 0xA5. -/
def waymarkWords (w : Waymark) : List Nat :=
  [w.code + 2 ^ 16 * (w.inst + 2 ^ 8 * w.kind),
   w.sev + 2 ^ 8 * w.flags + 2 ^ 16 * w.supp,
   w.seq,
   w.opSec % 2 ^ 32,
   w.opSec / 2 ^ 32 + 2 ^ 8 * w.cycles,
   w.p1, w.p2,
   w.p3 + 2 ^ 24 * 0xA5]

/-- The record with sequence number `q` as a read window takes it (R423): 0 with its words, or 1 gone, 2 not yet written, 3 torn. -/
def State.ringRecord (s : State) (q : Nat) : Nat × List Nat :=
  match s.recorder.flash.find? (fun e => e.2.seq == q) with
  | some e => if s.recorder.torn.contains e.1 then (3, []) else (0, waymarkWords e.2)
  -- sequence numbers compare modulo 2^32 (R417)
  | none => if (q + 2 ^ 32 - s.get F.WAYM_HEAD_SEQ_seq) % 2 ^ 32 < 2 ^ 31 then (2, []) else (1, [])

/-- WAYM_READ: port `i` reads WAYM_READ_DATA[0], which latches the whole selected record, and tells in WAYM_READ_STATE
whether it was present, gone, not yet written or torn (R423). -/
def execWaymRead (i : Port) (s : State) : Host.Outcome State Fault Refusal :=
  s.run (fun s =>
    let (st, ws) := s.ringRecord (s.get (F.WAYM_READ_SEQ_seq i))
    let s := s.set (F.WAYM_READ_STATE_state i) st
    let s := s.each (upTo 8) (fun s k => s.set (F.WAYM_READ_DATA_word i k) (ws.getD k 0))
    s.reply i (.data (BitVec.ofNat 32 (ws.getD 0 0))))

end Sys2Proof.Machine
end

