-- ==== Sys2Proof/Machine/Board.lean ====
section
/-! DEFINITION. The board (R24 to R45): supplies and the power-loss sequence, encoder supplies, coolant and derating, cages,
the service console and telemetry. -/

namespace Sys2Proof.Machine

/-! ### Power loss (R36 to R38, R421, Table HW-9) -/

/-- SUPPLY_DIP: a dip shorter than 1 ms is recorded and has no other effect (R36). -/
def execSupplyDip (us : Fin 1000) (s : State) : Host.Outcome State Fault Refusal :=
  s.run (fun s => (s.set F.CAP_BOARD_STATUS_dip_seen 1).raise Code.SUPPLY_DIP [us])

/-- The planned pace with which the next start begins: a proposal that waits lands there (R107), and the planner may return to a
shorter pace only there (R108). -/
def State.keptPace (s : State) : Nat :=
  if !s.powered then s.pace.kept
  else if s.on F.PACE_PLAN_STATUS_proposal_pending then s.get F.PACE_PLAN_STATUS_proposed_pace
  else s.get F.PACE_STATUS_planned_pace

/-- What is left of a module that switches itself off: the keep store, the flash, the field supplies, and what has already left the
module. -/
def State.powerDown (s : State) (p : Power) : State :=
  { State.reset with
    power := p
    variant := s.variant
    keep := s.keep
    flash := s.flash
    board := { State.reset.board with fieldLow := s.board.fieldLow, groupsLow := s.board.groupsLow }
    pace := { State.reset.pace with kept := s.keptPace }
    cores := { State.reset.cores with fence := s.cores.fence, fenceOld := s.cores.fenceOld, fenceSeq := s.cores.fenceSeq
                                      fenceClear := s.cores.fenceClear, everDetours := s.cores.everDetours }
    integ := { State.reset.integ with retired := s.integ.retired, retiredOld := s.integ.retiredOld, retiredSeq := s.integ.retiredSeq }
    boot := { State.reset.boot with copyA := s.boot.copyA, copyB := s.boot.copyB }
    recorder := { State.reset.recorder with flash := s.recorder.flash, torn := s.recorder.torn, headPos := s.recorder.headPos
                                            wear := s.recorder.wear }
    free := s.free
    safe := { State.reset.safe with msgs := s.safe.msgs }
    host := { State.reset.host with writes := s.host.writes }
    time := { State.reset.time with out := s.time.out }
    lane := { State.reset.lane with out := s.lane.out }
    peer := { State.reset.peer with out := s.peer.out }
    msix := s.msix
    pending := s.pending }

/-- Write the buffered waymarks to flash on hold-up energy with POWER_LOSS set; `n` bounds them. -/
def State.flushMarks (s : State) : Nat → State
  | 0 => s
  | n + 1 => (s.waymarkWrite flagPOWERLOSS).flushMarks n

/-- The power-loss sequence (Table HW-9): outputs off and the safety message with the cause, the counters saved, pending
waymarks written, ERROR and SAFETY first, ending with the cause's own; at least 128, the number beyond being open. -/
def State.powerLoss (s : State) (code v : Nat) (p : Power) : State :=
  let s := if s.isSafe then s.sendSafetyWith code else s.enterSafe code (sourceUnit 0x01 255)
  let s := s.driveOutputs
  let s := s.saveCounters
  let (k, s) := s.draw
  let n := 127 + k % 897
  let b := s.recorder.buffer
  let l := (b.filter (fun w => w.sev ≥ 2) ++ b.filter (fun w => w.sev < 2)).take n
  let last := { s.mkWaymark 255 code [v] with supp := (s.bucket (code, 0)).supp }
  let s := { s with recorder := { s.recorder with buffer := l ++ [last] } }
  let s := s.flushMarks (l.length + 1)
  -- the record in progress at the end of the time can be torn (R421)
  let (t, s) := s.draw
  let at_ := (s.recorder.headPos + ringRecords - 1) % ringRecords
  let s := if t % 2 = 1 && (tfind s.recorder.flash at_).isSome then
      { s with recorder := { s.recorder with torn := s.recorder.torn ++ [at_] } }
    else s
  s.powerDown p

/-- BROWN_OUT: +48V below 38.0 V for 1 ms (R37). `v` is the voltage in 10 mV. While the boot ROM runs without a firmware slot (R75) the
module only switches itself off: what of Table HW-9 the boot ROM does is not stated (DESIGN CHOICE). -/
def execBrownOut (v : BitVec 16) (s : State) : Host.Outcome State Fault Refusal :=
  if s.power == .bootRom then s.become (s.powerDown .off) else s.run (fun s => s.powerLoss Code.BROWN_OUT v.toNat .off)

/-- OVER_VOLTAGE: +48V above 62 V for 1 ms (R38); in the boot ROM as for BROWN_OUT. -/
def execOverVoltage (v : BitVec 16) (s : State) : Host.Outcome State Fault Refusal :=
  if s.power == .bootRom then s.become (s.powerDown .offOverVoltage)
  else s.run (fun s => s.powerLoss Code.OVER_VOLTAGE v.toNat .offOverVoltage)

/-! ### Field supplies (R35, R322) -/

/-- HOST-mode outputs of a mask are switched off, and stay off until FIO_OUT_SET (R322). -/
def State.dropHost (s : State) (off : Nat → Bool) : State :=
  { s with fio := { s.fio with hostOn := maskOf 40 (fun o => s.fio.hostOn.testBit o && !off o) } }

/-- FIELD-PWR reads `v` below 19.2 V, or lies at 19.2 V or more, with or without the 48 V supply (R35). -/
def State.noteField (s : State) (v : Option Nat) : State :=
  if s.hasField then { s with board := { s.board with fieldLow := v } } else s

/-- The L+ of group `g` reads `v` below 19.2 V, or lies at 19.2 V or more (R35). -/
def State.noteGroup (s : State) (g : Nat) (v : Option Nat) : State :=
  if s.hasField then
    { s with board := { s.board with groupsLow := match v with | some x => tput s.board.groupsLow g x | none => tdel s.board.groupsLow g } }
  else s

/-- The field side without its supply: the inputs read 0 and HOST-mode outputs are off (R35, R322). -/
def State.fieldDown (s : State) : State :=
  let s := ((s.set F.CAP_BOARD_STATUS_field_low 1).set F.FIO_STATUS_field_low 1).set F.FIO_IN_state 0
  let s := { s with fio := { s.fio with settle := [] } }
  s.dropHost (fun o => o < 32)

/-- FIELD_SUPPLY_LOW: FIELD-PWR below 19.2 V (R35); a cause of the safe state (Table SAFE-7). -/
def execFieldSupplyLow (v : BitVec 16) (s : State) : Host.Outcome State Fault Refusal :=
  (s.noteField (some v.toNat)).run (fun s =>
    if !s.hasField || s.fieldLow then s
    else (s.fieldDown.raise Code.FIELD_SUPPLY_LOW [v.toNat, 0]).enterSafeHeld Code.FIELD_SUPPLY_LOW (sourceUnit 0x01 255))

/-- FIELD_SUPPLY_RETURN: FIELD-PWR at 19.2 V or more; each input takes its level of `levels` once its filter time has passed,
without an edge (R35, R318); field inputs of a disabled island stay at 0 (R93). -/
def execFieldSupplyReturn (v : BitVec 16) (levels : Word) (s : State) : Host.Outcome State Fault Refusal :=
  (s.noteField none).run (fun s =>
    if !s.hasField || !s.fieldLow then s
    else
      let s := (s.set F.CAP_BOARD_STATUS_field_low 0).set F.FIO_STATUS_field_low 0
      let s := if !s.island 120 then s
        else ({ s with fio := { s.fio with settle := (upTo 32).map (fun i =>
          (i, s.clk.now + 200 * (s.inCfg i).filterUs, levels.getLsbD i)) } }).settleField
      (s.raise Code.FIELD_SUPPLY_LOW [v.toNat, 1]).causeOff Code.FIELD_SUPPLY_LOW)

/-- GROUP_SUPPLY_LOW: the L+ of output group `g` falls below or returns above 19.2 V (R35). -/
def execGroupSupplyLow (g : Fin 4) (low : Bool) (v : BitVec 16) (s : State) : Host.Outcome State Fault Refusal :=
  (s.noteGroup g (if low then some v.toNat else none)).run (fun s =>
    if !s.hasField || s.groupLow g == low then s
    else
      let s := (s.setBit F.CAP_BOARD_STATUS_group_low g low).setBit F.FIO_STATUS_group_low g low
      let s := if low then s.dropHost (fun o => o / 8 == g.val) else s
      s.raise Code.GROUP_SUPPLY_LOW [g, v.toNat, bit (!low)])

/-- ENC_SUPPLY_FAULT: an encoder supply pin is shorted, 5 V or 24 V (R27): a channel supply fault (R308). -/
def execEncSupplyFault (n : ChanId) (pin24 : Bool) (s : State) : Host.Outcome State Fault Refusal :=
  s.run (fun s =>
    let k := 2 * n.val + bit pin24
    if !s.hasField || s.board.encShort.contains k then s
    else
      let s := { s with board := { s.board with encShort := s.board.encShort ++ [k] } }
      let s := s.raise Code.ENC_SUPPLY_FAULT [n, bit pin24]
      (s.setChan n { s.chan n with supply := true }).posFault n 2)

/-- ENC_SUPPLY_RESTORED: the short of an encoder supply pin is gone (R27). -/
def execEncSupplyRestored (n : ChanId) (pin24 : Bool) (s : State) : Host.Outcome State Fault Refusal :=
  s.run (fun s =>
    let l := s.board.encShort.filter (fun k => k != 2 * n.val + bit pin24)
    let s := { s with board := { s.board with encShort := l } }
    s.setChan n { s.chan n with supply := l.contains (2 * n.val) || l.contains (2 * n.val + 1) })

/-! ### Thermal behaviour (R40, R41) -/

/-- COOLANT_OUT_OF_RANGE: inlet above 45 °C or flow below 1.5 L/min: a warning (R40). -/
def execCoolantOutOfRange (inlet : BitVec 12) (flow : BitVec 8) (s : State) : Host.Outcome State Fault Refusal :=
  s.run (fun s =>
    if s.on F.CAP_BOARD_STATUS_coolant_range then s
    else (s.set F.CAP_BOARD_STATUS_coolant_range 1).raise Code.COOLANT_OUT_OF_RANGE [inlet.toNat, flow.toNat, 0])

/-- The derating request that holds, or the change of it that waits for a boundary. -/
def State.derateWish (s : State) : Nat := s.board.derateNew.getD s.board.derateReq

/-- DERATED: a junction reaches its limit; the request is the pace in force plus 50 ps, up to 2,000 ps, and lands at the next period
boundary; while the request shortens, growth resumes from the present request, and a shortening that waits is dropped (R41). -/
def execDerated (junction : BitVec 8) (s : State) : Host.Outcome State Fault Refusal :=
  s.run (fun s =>
    if s.on F.CAP_BOARD_STATUS_derated then
      let keep := match s.board.derateNew with | some r => decide (s.board.derateReq ≤ r) | none => false
      { s with board := { s.board with derateHolds := true, derateNew := if keep then s.board.derateNew else none } }
    else
      let r := min (s.get F.PACE_STATUS_pace + 50) 2000
      let s := { s with board := { s.board with derateNew := some r, derateHolds := true } }
      let s := (s.set F.CAP_BOARD_STATUS_derated 1).set F.PACE_STATUS_derated 1
      s.raise Code.DERATED [junction.toNat, r])

/-- DERATE_GROW: 100 ms more with the condition; the request grows by 50 ps at the next boundary, up to 2,000 ps (R41). -/
def execDerateGrow (s : State) : Host.Outcome State Fault Refusal :=
  s.run (fun s =>
    if s.on F.CAP_BOARD_STATUS_derated && s.board.derateHolds then
      { s with board := { s.board with derateNew := some (min (s.derateWish + 50) 2000) } }
    else s)

/-- DERATE_SHORTEN: 10 s more without the condition; the request shortens by 50 ps at the next boundary (R41). -/
def execDerateShorten (s : State) : Host.Outcome State Fault Refusal :=
  s.run (fun s =>
    if s.on F.CAP_BOARD_STATUS_derated && !s.board.derateHolds then
      { s with board := { s.board with derateNew := some (s.derateWish - 50) } }
    else s)

/-- THERMAL_SHUTDOWN: safe state, compute dies off, the hub stays up (Table HW-10); a restart is needed. Causes: 0 junction,
1 inlet, 2 flow. -/
def execThermalShutdown (cause : Fin 3) (junction flow : BitVec 8) (s : State) : Host.Outcome State Fault Refusal :=
  s.run (fun s =>
    let s := s.raise Code.THERMAL_SHUTDOWN [cause, junction.toNat, flow.toNat]
    let s := { s with board := { s.board with diesOff := true, overheated := true }, safe := { s.safe with restartNeeded := true } }
    s.enterSafeHeld Code.THERMAL_SHUTDOWN (sourceUnit 0x01 255))

/-- THERMAL_CONDITION_CLEARED: a condition of Table HW-10 has been false for 10 s: 0 coolant range, 1 derating, 2 shutdown. -/
def execThermalConditionCleared (which : Fin 3) (s : State) : Host.Outcome State Fault Refusal :=
  s.run (fun s => match which.val with
    | 0 =>
      if s.on F.CAP_BOARD_STATUS_coolant_range then
        (s.set F.CAP_BOARD_STATUS_coolant_range 0).raise Code.COOLANT_OUT_OF_RANGE
          [s.get F.CAP_BOARD_COOLANT_inlet, s.get F.CAP_BOARD_COOLANT_flow, 1]
      else s
    | 1 => { s with board := { s.board with derateHolds := false } }
    | _ => s.causeOff Code.THERMAL_SHUTDOWN)

/-! ### Cages, console and telemetry -/

/-- A cage: CAM[0] to CAM[7], PEER-W, PEER-E, TIME[0], TIME[1], numbered in this order. -/
def execCageChange (cage : Fin 12) (inserted : Bool) (s : State) : Host.Outcome State Fault Refusal :=
  s.run (fun s =>
    let k := cage.val
    let s := if k < 8 then s.setBit F.CAP_BOARD_STATUS_cage_present k inserted
      else if k < 10 then s.setBit F.CAP_BOARD_STATUS_peer_present (k - 8) inserted
      else s.setBit F.CAP_BOARD_STATUS_time_present (k - 10) inserted
    let s := s.raise Code.CAGE_CHANGE [k, bit (!inserted)]
    if inserted then s
    else if k < 8 then
      s.each (upTo 4) (fun s i =>
        let (v, s1) := s.draw
        if s.laneState (4 * k + i) == laneUP then s1.laneDown (4 * k + i) (v % 65536) else s)
    else s)

/-- SERVICE_SESSION: a console session opens or closes and writes a waymark, with the slot it has loaded (R31). -/
def execServiceSession (opened : Bool) (s : State) : Host.Outcome State Fault Refusal :=
  s.run (fun s =>
    let slot := (s.board.console.bind id).getD 0
    let s := s.raise Code.SERVICE_SESSION (if opened then [0, 0] else [1, slot])
    { s with board := { s.board with console := if opened then some none else none } })

/-- The firmware slot that does not run. -/
def State.inactiveSlot (s : State) : Nat := 1 - s.get F.PACE_HUBFW_STATUS_active_slot

/-- Store a hub firmware image in the inactive slot, which becomes a TRIAL boot slot where it verifies (R75, R111). -/
def State.storeFirmware (s : State) (slot : Nat) (f : Firmware) : State :=
  let s := { s with flash := { s.flash with fw := tput s.flash.fw slot f } }
  if f.ok then s.keepWrite recBOOT (fun k => { k with fwSlot := slot, fwTrial := true, fwTries := 0 }) else s

/-- CONSOLE_FIRMWARE_LOAD: the open console session loads a firmware image into the inactive slot (R31); `ok` says that it
verifies. The boot ROM accepts it too where no slot verifies (R75). -/
def execConsoleFirmwareLoad (ok : Bool) (digest : BitVec 512) (s : State) : Host.Outcome State Fault Refusal :=
  if s.power == .bootRom then s.become (s.storeFirmware s.inactiveSlot { ok := ok, digest := digest })
  else s.run (fun s => match s.board.console with
    | none => s
    | some _ =>
      let n := s.inactiveSlot
      let s := s.storeFirmware n { ok := ok, digest := digest }
      -- the console may load the slot in place of PACE_HUBFW_CTRL (R111 step 1)
      let st := s.get F.PACE_HUBFW_STATUS_state
      let s := if st ≤ 3 then s.set F.PACE_HUBFW_STATUS_state (if ok then 2 else 3) else s
      { s with board := { s.board with console := some (some n) } })

/-- LOCATE_WRITE: port `i` writes CAP_BOARD_LED.locate (R44). -/
def execLocateWrite (i : Port) (on : Bool) (s : State) : Host.Outcome State Fault Refusal :=
  s.run (fun s => if s.privileged i then s.setB F.CAP_BOARD_LED_locate on else s.raiseKind 0x01 255 Code.CAP_ROLE [i, 0x814])

/-- BOARD_TELEMETRY_REFRESH: the readings of the last millisecond (Tables HW-15 to HW-18); die 1 reads 0 on the
DXM-9620-F. -/
def execBoardTelemetryRefresh (t : Telemetry) (s : State) : Host.Outcome State Fault Refusal :=
  s.run (fun s =>
    let s := (s.set F.CAP_BOARD_SUPPLY_v48 t.v48.toNat).set F.CAP_BOARD_SUPPLY_v24 t.v24.toNat
    let s := s.set F.CAP_BOARD_POWER_p48 t.p48.toNat
    let s := ((s.set F.CAP_BOARD_COOLANT_inlet t.inlet.toNat).set F.CAP_BOARD_COOLANT_outlet t.outlet.toNat).set
      F.CAP_BOARD_COOLANT_flow t.flow.toNat
    let s := (s.set F.CAP_BOARD_TEMP_die0 t.die0.toNat).set F.CAP_BOARD_TEMP_die1
      (if s.variant = .f9620 then 0 else t.die1.toNat)
    (s.set F.CAP_BOARD_TEMP_hub t.hub.toNat).set F.CAP_BOARD_TEMP_hbm t.hbm.toNat)

end Sys2Proof.Machine
end

