-- ==== Sys2Proof/Machine/Perf.lean ====
section
/-! DEFINITION. Performance counters, tagged words and port bandwidth windows (R426 to R431). -/

namespace Sys2Proof.Machine

/-- CORE_ID.role numbers (Table CORE-6). -/
def coreABSENT : Nat := 0
def coreACTIVE : Nat := 1
def coreSPARE : Nat := 2
def corePREPARING : Nat := 3
def coreFAILED : Nat := 4

/-- The role of a physical core. -/
def State.coreRole (s : State) (c : Nat) : Nat := s.get (F.CORE_ID_role c)

/-- The 48-bit counter `k` of core `c`. -/
def State.perfCount (s : State) (c k : Nat) : Nat := s.get64 (F.PERF_COUNT_LO_count c k) (F.PERF_COUNT_HI_count c k)

/-- The partition whose leg core `c` runs. -/
def State.runningPart (s : State) (c : Nat) : Option Nat :=
  if s.on (F.CORE_STATUS_sheet_running c) && s.on (F.CORE_STATUS_in_partition c) then
    some (s.get (F.CORE_STATUS_partition c)) else none

/-- Count `n` of event `ev` on the counters of core `c` that select it, under their partition masks (R427). -/
def State.perfEvent (s : State) (c ev n : Nat) : State :=
  s.each (upTo 8) (fun s k =>
    let mask := s.get (F.PERF_EVENT_partitions c k)
    let inMask := mask == 0 || (match s.runningPart c with | some p => mask.testBit p | none => false)
    if s.get (F.PERF_EVENT_event c k) = ev && ev ≠ 0 && inMask then
      s.set64 (F.PERF_COUNT_LO_count c k) (F.PERF_COUNT_HI_count c k) (min (s.perfCount c k + n) (2 ^ 48 - 1))
    else s)

/-- Core `c` completes `n` ticks (R426): the counter stands still while the core is FAILED or ABSENT. -/
def State.tick (s : State) (c n : Nat) : State :=
  if s.coreRole c = coreFAILED || s.coreRole c = coreABSENT then s
  else s.set64 (F.PERF_TICK_LO_ticks c) (F.PERF_TICK_HI_ticks c)
    (s.get64 (F.PERF_TICK_LO_ticks c) (F.PERF_TICK_HI_ticks c) + n)

/-- Store one tag record in the ring of core `c`, the newest over the oldest (R429, Table PERF-4). -/
def State.storeTag (s : State) (c offset cls op part leg issue complete reason waited : Nat) : State :=
  let e := tget 0 s.perf.slot c
  let beyond := s.on (F.PERF_TAG_A_valid c e)
  let s := (s.set (F.PERF_TAG_B_issue c e) issue).set (F.PERF_TAG_B_leg c e) leg
  let s := (s.set (F.PERF_TAG_C_complete c e) complete).set (F.PERF_TAG_C_reason c e) reason
  let s := (s.set (F.PERF_TAG_D_waited c e) waited).set (F.PERF_TAG_D_period c e) (s.get F.ROUTE_PERIOD_LO_number)
  let s := ((s.set (F.PERF_TAG_A_offset c e) offset).set (F.PERF_TAG_A_class c e) cls).set (F.PERF_TAG_A_op c e) op
  let s := (s.set (F.PERF_TAG_A_partition c e) part).set (F.PERF_TAG_A_valid c e) 1
  let s := (s.inc (F.PERF_TAG_COUNT_taken c)).when beyond (fun s => s.inc (F.PERF_TAG_COUNT_overwritten c))
  { s with perf := { s.perf with slot := tset 0 s.perf.slot c ((e + 1) % 16) } }

/-- The tagging observer sees one issued word: it picks one word in each span of 2^n issued words of the selected
partitions, at a position drawn from the entropy source (R429). -/
def State.tagWord (s : State) (c offset cls op leg issue complete reason waited : Nat) : State :=
  let mask := s.get F.PERF_TAG_CFG_partitions
  match s.runningPart c with
  | none => s
  | some p =>
    if !s.on F.PERF_STATUS_tagging || !(mask == 0 || mask.testBit p) then s
    else
      let n := 2 ^ s.get F.PERF_TAG_CFG_log2
      let i := tget 0 s.perf.span c
      -- at the start of a span the position is drawn
      let (pos, s) := if i = 0 then
          let (e, s) := s.drawEntropy
          (e % n, { s with perf := { s.perf with pick := tset 0 s.perf.pick c (e % n) } })
        else (tget 0 s.perf.pick c, s)
      let s := if i = pos then s.storeTag c offset cls op p leg issue complete reason waited else s
      { s with perf := { s.perf with span := tset 0 s.perf.span c ((i + 1) % n) } }

/-- Latch the tick counter and the eight counters of every core into the snapshot registers (R428). -/
def State.takeSnapshot (s : State) : State :=
  let s := s.each (upTo 40) (fun s c =>
    let s := (s.set (F.PERF_SNAP_TICK_LO_ticks c) (s.get (F.PERF_TICK_LO_ticks c))).set
      (F.PERF_SNAP_TICK_HI_ticks c) (s.get (F.PERF_TICK_HI_ticks c))
    s.each (upTo 8) (fun s k =>
      (s.set (F.PERF_SNAP_LO_count c k) (s.get (F.PERF_COUNT_LO_count c k))).set
        (F.PERF_SNAP_HI_count c k) (s.get (F.PERF_COUNT_HI_count c k))))
  let s := (s.set F.PERF_STATUS_snapshot_valid 1).set F.PERF_STATUS_snapshot_pending 0
  s.set F.PERF_SNAP_PERIOD_number (s.get F.ROUTE_PERIOD_LO_number)

/-- The boundary's share of PERF: a waiting snapshot is taken first, then counter changes land and clear their counters
(R427, R428). -/
def State.perfBoundary (s : State) : State :=
  let s := s.when (s.on F.PERF_STATUS_snapshot_pending) State.takeSnapshot
  let s := s.each s.perf.events (fun s e =>
    let c := e.1 / 8
    let k := e.1 % 8
    let s := (s.set (F.PERF_EVENT_event c k) (e.2 % 256)).set (F.PERF_EVENT_partitions c k) (e.2 / 256)
    s.set64 (F.PERF_COUNT_LO_count c k) (F.PERF_COUNT_HI_count c k) 0)
  { s with perf := { s.perf with events := [] } }.set F.PERF_STATUS_pending 0

/-- A PERF command of port `i`: only OWNER and SERVICE ports may write (R431); else PERF_ROLE. `off` is the register's
offset in the block. -/
def State.perfCmd (s : State) (i : Port) (off : Nat) (f : State → State) : State :=
  if s.privileged i then (f s).set (F.PERF_CMD_STATUS_code i) 0
  else (s.raise Code.PERF_ROLE [i, off]).set (F.PERF_CMD_STATUS_code i) Code.PERF_ROLE

/-- SNAPSHOT (R428): all counters are latched at the next period boundary. -/
def execSnapshot (i : Port) (s : State) : Host.Outcome State Fault Refusal :=
  s.run (fun s => s.perfCmd i 4 (fun s => s.set F.PERF_STATUS_snapshot_pending 1))

/-- TAG_ON (R429). -/
def execTagOn (i : Port) (s : State) : Host.Outcome State Fault Refusal :=
  s.run (fun s => s.perfCmd i 4 (fun s =>
    { s with perf := { s.perf with span := [], pick := [] } }.set F.PERF_STATUS_tagging 1))

/-- TAG_OFF (R429). -/
def execTagOff (i : Port) (s : State) : Host.Outcome State Fault Refusal :=
  s.run (fun s => s.perfCmd i 4 (fun s => s.set F.PERF_STATUS_tagging 0))

/-- A write of PERF_EVENT (R427): the change waits for the next period boundary. -/
def execPerfEventWrite (i : Port) (c : CoreId) (k : Fin 8) (v : BitVec 16) (s : State) :
    Host.Outcome State Fault Refusal :=
  s.run (fun s =>
    if !s.privileged i then s.raise Code.PERF_ROLE [i, 0x1048 + 0x100 * c + 4 * k]
    else if s.coreRole c = coreABSENT then s
    -- Table PERF-1 lists events 0x00 to 0x17: any other value leaves the register as it is (R444)
    else if v.toNat % 256 > 0x17 then s.raise Code.PERF_BAD_COMMAND [i, v.toNat]
    else { s with perf := { s.perf with events := tput s.perf.events (8 * c + k) v.toNat } }.set F.PERF_STATUS_pending 1)

/-- A bandwidth window of port `i` ends (R430): its counts replace the previous ones, and the peaks keep the highest. -/
def execBwWindowEnd (i : Port) (s : State) : Host.Outcome State Fault Refusal :=
  s.run (fun s =>
    let a := min (tget 0 s.perf.bwIn i / 64) (2 ^ 32 - 1)
    let b := min (tget 0 s.perf.bwOut i / 64) (2 ^ 32 - 1)
    let s := (s.set (F.PERF_BW_IN_units i) a).set (F.PERF_BW_OUT_units i) b
    let s := (s.set (F.PERF_BW_PEAK_IN_units i) (max (s.get (F.PERF_BW_PEAK_IN_units i)) a)).set
      (F.PERF_BW_PEAK_OUT_units i) (max (s.get (F.PERF_BW_PEAK_OUT_units i)) b)
    { s with perf := { s.perf with bwIn := tset 0 s.perf.bwIn i 0, bwOut := tset 0 s.perf.bwOut i 0 } })

/-- Count `n` payload bytes into the module at port `i` (R430). -/
def State.bwInAdd (s : State) (i n : Nat) : State :=
  { s with perf := { s.perf with bwIn := tset 0 s.perf.bwIn i (tget 0 s.perf.bwIn i + n) } }

/-- Count `n` payload bytes out of the module at port `i` (R430). -/
def State.bwOutAdd (s : State) (i n : Nat) : State :=
  { s with perf := { s.perf with bwOut := tset 0 s.perf.bwOut i (tget 0 s.perf.bwOut i + n) } }

end Sys2Proof.Machine
end

