-- ==== Sys2Proof/Machine/CoreMap.lean ====
section
/-! DEFINITION. The core map (R116, R122 to R135): failure of a core, detours, the fence list, and the engines that serve a
cluster (R190, R224). -/

namespace Sys2Proof.Machine

/-! ### The map (R116) -/

/-- The cluster of a logical core, and the die of a cluster. -/
def clusterOf (l : Nat) : Nat := l / 4
def dieOf (k : Nat) : Nat := k / 4

/-- The physical index, within its cluster, of a logical core; 7 = LOST (Table CORE-6). -/
def State.mapIndex (s : State) (l : Nat) : Nat := s.get (F.CORE_MAP_physical (5 * (l / 4))) / 8 ^ (l % 4) % 8

/-- The physical core of a logical core, if it has one. -/
def State.physOf (s : State) (l : Nat) : Option Nat :=
  if s.mapIndex l = 7 then none else some (5 * (l / 4) + s.mapIndex l)

/-- Write the map of a logical core. -/
def State.setMap (s : State) (l v : Nat) : State :=
  let f := F.CORE_MAP_physical (5 * (l / 4))
  s.set f (s.get f - s.mapIndex l * 8 ^ (l % 4) + v * 8 ^ (l % 4))

/-- The logical core of a physical core, if it has one. -/
def State.logicalOf (s : State) (c : Nat) : Option Nat :=
  let l := s.get (F.CORE_ID_logical c)
  if l = 63 then none else some l

/-- The partition that holds a logical core (Table ZLD-4). -/
def State.partOf (s : State) (l : Nat) : Option Nat := (upTo 8).find? (fun p => (s.part p).defined && (s.part p).cores.testBit l)

/-- What a core's execution state is before its first word. -/
def coreExec0 : CoreExec :=
  { active := none, standby := none, cells := [], rows := [], bias := [], scale := [], sregs := [], loops := [], tokens := 0
    waiting := none, calls := [], fetched := [], held := [] }

def State.core (s : State) (c : Nat) : CoreExec := tget coreExec0 s.exec c
def State.setCore (s : State) (c : Nat) (x : CoreExec) : State := { s with exec := tset coreExec0 s.exec c x }

/-- Raise vector `v` on the OWNER port and on the port that owns partition `p` (R128, R237). -/
def State.fireOwners (s : State) (p : Option Nat) (v : Nat) : State :=
  s.each [0, 1, 2, 3] (fun s i =>
    if s.get (F.HOST_STATUS_role i) == roleOWNER || p.any (fun q => s.get (F.ROUTE_PART_port q) == i) then s.fire i v else s)

/-! ### Legs on a core -/

/-- The legs that logical core `l` has still to complete, those of earlier periods first (R102, R126). -/
def State.legsOn (s : State) (l : Nat) : List LegRun :=
  (s.route.legs.filter (fun g => g.cores.contains l && !g.done.contains l)).mergeSort
    (fun a b => a.period < b.period || (a.period == b.period && (a.start < b.start || (a.start == b.start && a.id ≤ b.id))))

/-- The leg that logical core `l` runs. -/
def State.firstLeg (s : State) (l : Nat) : Option LegRun := (s.legsOn l).head?

/-- The ticks that paced core `c` has run since the period boundary: one for each release edge, less the slip (R95, R100). -/
def State.ticksRun (s : State) (c : Nat) : Int :=
  ((s.clk.now * 5 - s.route.boundaryNs) * 1000 / max (s.get F.PACE_STATUS_pace) 1 : Nat) - (tget 0 s.pace.slips c : Nat)

/-- Core `c` runs the sheet of period `q`, or none: a sheet that begins after an earlier one within a period begins with the ticks that the
core has still to run (R102). -/
def State.noteSheet (s : State) (c : Nat) (q : Option Nat) : State :=
  let t := s.cores.sheetAt
  let now := q.map (fun q => match tfind t c with
    | some e => if e.1 = q then e else (q, -s.ticksRun c)
    | none => (q, -s.ticksRun c))
  { s with cores := { s.cores with sheetAt := match now with
    | some e => tput t c e
    | none => tdel t c } }

/-- Bring CORE_STATUS of physical core `c` to what it runs: a sheet runs while a leg is left, and sheets of earlier periods
are a backlog. -/
def State.showCore (s : State) (c : Nat) : State :=
  match s.logicalOf c with
  | none => ((s.set (F.CORE_STATUS_sheet_running c) 0).set (F.CORE_STATUS_backlog c) 0).noteSheet c none
  | some l =>
    let g := s.legsOn l
    let s := s.noteSheet c (g.head?.map (fun x => x.period))
    let s := s.setB (F.CORE_STATUS_sheet_running c) (s.coreRole c == coreACTIVE && !g.isEmpty)
    s.setB (F.CORE_STATUS_backlog c) (s.coreRole c == coreACTIVE && g.any (fun x => x.period < s.period))

/-- The partition fields of a core: those of its logical core. -/
def State.showOwner (s : State) (c : Nat) : State :=
  match (s.logicalOf c).bind s.partOf with
  | none => ((s.set (F.CORE_STATUS_partition c) 0).set (F.CORE_STATUS_in_partition c) 0).set (F.CORE_STATUS_paced c) 0
  | some p =>
    let s := (s.set (F.CORE_STATUS_partition c) p).set (F.CORE_STATUS_in_partition c) 1
    s.setB (F.CORE_STATUS_paced c) (!(s.get F.PACE_MODE_free).testBit p)

/-! ### Failure (R123, R124, R128) -/

/-- Causes of Table CORE-3. -/
def failSTART : Nat := 1
def failHANG : Nat := 2
def failUNCORR : Nat := 3
def failCORR : Nat := 4
def failRECOMP : Nat := 5
def failROTATING : Nat := 6
def failREQUEST : Nat := 7

/-- The cluster's spare, if a tested one is there. -/
def State.spareOf (s : State) (k : Nat) : Option Nat :=
  let c := 5 * k + s.get (F.CORE_CLUSTER_spare_index (5 * k))
  if s.on (F.CORE_CLUSTER_spare_left (5 * k)) && s.coreRole c == coreSPARE then some c else none

/-- The spare count of a cluster falls to 0. -/
def State.spareGone (s : State) (k : Nat) : State :=
  (s.set (F.CORE_CLUSTER_spare_left (5 * k)) 0).set (F.CORE_CLUSTER_spare_index (5 * k)) 7

/-- The upkeep mode runs detours at a period boundary (R126, R130). -/
def State.liveDetours (s : State) : Bool :=
  s.get F.PACE_STATUS_upkeep_mode == upkeepLIVE || s.get F.PACE_STATUS_upkeep_mode == upkeepBOTH

/-- Write the fence list: the copy in force becomes the older one (R131, R80). -/
def State.fenceWrite (s : State) (l : List Nat) : State :=
  if l = s.cores.fence then s
  else { s with cores := { s.cores with fenceOld := s.cores.fence, fence := l, fenceSeq := s.cores.fenceSeq + 1 } }

/-- The generation `n` before `g` (R169). -/
def genBack (g n : Nat) : Nat := (g + 65532 + 65534 - n % 65534) % 65534 + 2

/-- How many generations `g` lies after `h`. -/
def genSpan (g h : Nat) : Nat := (g + 65534 - h) % 65534

/-- A leg that has taken a generation at verge slot `a` still runs: the last generation taken there is not acknowledged. The acknowledge of
the consumer's last read of a generation is taken to be its wait for the next one, or its leg's end (DESIGN CHOICE). -/
def State.stillReads (s : State) (a : Nat) : Bool :=
  s.route.legs.any (fun x => x.verges.any (fun e => e.2.1 == a && e.2.2.1 != 0))

/-- Logical core `l` has failed: what the legs that it was running posted at their verge slots and no consumer has acknowledged is discarded
(R124): the entries show no generation, and the producer posts those generations again. -/
def State.withdrawVerges (s : State) (l : Nat) : State :=
  s.each ((s.legsOn l).flatMap (fun g => (g.verges.filter (fun e => e.1 == l && e.2.2.2 != 0)).map (fun e => (g.id, e)))) (fun s x =>
    let (id, _, a, _, p) := x
    let put := tget 2 s.route.vergePut a
    let n := min p (genSpan put (tget 2 s.route.vergeGet a) + bit (s.stillReads a))
    let s := s.each ((upTo n).map (fun k => genBack put (k + 1))) (fun s g => s.putBytes (a + 2 * (g % 2)) (leBytes 2 0))
    { s with route := { s.route with
      vergePut := tset 2 s.route.vergePut a (genBack put n)
      legs := s.route.legs.map (fun (g : LegRun) => if g.id == id then
        { g with verges := g.verges.map (fun e => if e.1 == l && e.2.1 == a then (e.1, e.2.1, e.2.2.1, e.2.2.2 - n) else e) } else g) } })

/-- Declare physical core `c` failed with a cause, at most once (R123), and after THERMAL_SHUTDOWN not at all (Table CORE-4): it is
fenced, its leg aborted to run again from its start and what no consumer had taken of its outputs discarded (R124, R126), its index enters the fence list, and a detour or a loss of its logical
core falls due (R126, R129, R130). `test` is the rotating test that it failed, if it did. -/
def State.failCore (s : State) (c cause : Nat) (test : Nat := 0) : State :=
  let role := s.coreRole c
  if role == coreABSENT || role == coreFAILED || s.board.diesOff then s
  else
    let k := c / 5
    let l := s.logicalOf c
    let leg := (l.bind s.firstLeg).map (fun g => g.leg)
    let s := (s.set (F.CORE_ID_role c) coreFAILED).set (F.CORE_FAIL_cause c) cause
    let s := (s.set (F.CORE_FAIL_period c) s.period).setBit (F.CORE_CLUSTER_failed (5 * k)) (c % 5) true
    let s := if s.cores.fence.contains c then s else s.fenceWrite (s.cores.fence ++ [c])
    let s := match l with | some q => s.withdrawVerges q | none => s
    let s := (s.setCore c coreExec0).showCore c
    if role == coreSPARE then
      let s := ((s.spareGone k).raise Code.CORE_FAILED [c, cause, 0xFFFF]).fireOwners none 4
      if cause == failROTATING then s.raise Code.SPARE_FAILED [c, test] else s
    else
      let s := (s.raise Code.CORE_FAILED [c, cause, leg.getD 0xFFFF]).fireOwners (l.bind s.partOf) 4
      if role == corePREPARING then
        -- the spare fails while it prepares: its logical core is LOST from the next build (Table CORE-4)
        let s := s.spareGone k
        { s with cores := { s.cores with due := s.cores.due.map (fun d =>
          if d.2.1 == c then (d.1, 255, s.route.buildFor + 1) else d) } }
      else if l.isNone then s
      else
        let spare := if s.liveDetours then 254 else 255
        { s with cores := { s.cores with due := s.cores.due ++ [(c, spare, s.route.buildFor + 1)] } }

/-- The build for period `n` chooses the spares of the detours that fall due: the lower physical index first, and none left
means LOST (R126, Table CORE-4). -/
def State.chooseSpares (s : State) (n : Nat) : State :=
  let l := (s.cores.due.filter (fun d => d.2.1 == 254 && d.2.2 ≤ n)).mergeSort (fun a b => a.1 ≤ b.1)
  s.each l (fun s d =>
    let (v, s) := match s.spareOf (d.1 / 5) with
      | some c => (c, s.set (F.CORE_ID_role c) corePREPARING)
      | none => (255, s)
    { s with cores := { s.cores with due := s.cores.due.map (fun e => if e.1 == d.1 then (e.1, v, e.2.2) else e) } })

/-- The legs that `sel` names start again on the cores that `on` names: their verge tokens go back to the generations of the
start (R172). -/
def State.replayVerges (s : State) (sel : LegRun → Bool) (on : Nat → Bool) : State :=
  let again := (s.route.legs.filter sel).flatMap (fun g => g.verges.filter (fun e => on e.1))
  let back := fun (t : Tab Nat) (f : Nat × Nat × Nat × Nat → Nat) =>
    again.foldl (fun t e => tset 2 t e.2.1 (genBack (tget 2 t e.2.1) (f e))) t
  { s with route := { s.route with
    vergeGet := back s.route.vergeGet (fun e => e.2.2.1), vergePut := back s.route.vergePut (fun e => e.2.2.2)
    legs := s.route.legs.map (fun (g : LegRun) => if sel g then { g with verges := g.verges.filter (fun e => !on e.1) } else g) } }

/-- Verge slots in the core SRAM of core `a` stand at the same place in that of core `b`. -/
def State.moveVerges (s : State) (a b : Nat) : State :=
  let move := fun x => if sramBase a ≤ x && x < sramBase (a + 1) then x - sramBase a + sramBase b else x
  let tab := fun (t : Tab Nat) => t.foldl (fun t e => tput t (move e.1) e.2) []
  { s with route := { s.route with
    vergeGet := tab s.route.vergeGet, vergePut := tab s.route.vergePut
    legs := s.route.legs.map (fun (g : LegRun) => { g with verges := g.verges.map (fun e => (e.1, move e.2.1, e.2.2)) }) } }

/-- The landing of a detour or a loss at the boundary of period `n` (R126, R128, R129). -/
def State.landDetours (s : State) (n : Nat) : State :=
  let l := s.cores.due.filter (fun d => d.2.1 != 254 && d.2.2 ≤ n)
  let s := { s with cores := { s.cores with due := s.cores.due.filter (fun d => !(d.2.1 != 254 && d.2.2 ≤ n)) } }
  s.each l (fun s d =>
    let (c, v, _) := d
    let k := c / 5
    match s.logicalOf c with
    | none => s
    | some lg =>
      let p := s.partOf lg
      let s := (s.set (F.CORE_ID_logical c) 63).showOwner c
      if v == 255 then
        let s := (s.setMap lg 7).setBit (F.CORE_CLUSTER_lost (5 * k)) (lg % 4) true
        (s.raise Code.CORE_LOST [lg, p.getD 255]).fireOwners p 4
      else
        -- the fast clear leg leaves the spare's core SRAM zero (R77)
        let outside := fun a => a < sramBase v || sramBase (v + 1) ≤ a
        let s := { s with mem := s.mem.filter (fun x => outside x.1)
                          integ := { s.integ with bad := s.integ.bad.filter (fun x => outside (64 * x.1))
                                                  writeBack := s.integ.writeBack.filter (fun l => outside (64 * l)) } }
        let s := (s.set (F.CORE_ID_role v) coreACTIVE).set (F.CORE_ID_logical v) lg
        let s := ((s.setMap lg (v % 5)).spareGone k).setCore v coreExec0
        let s := { s with cores := { s.cores with everDetours := tput s.cores.everDetours k (tget 0 s.cores.everDetours k + 1) } }
        let s := s.inc (F.CORE_CLUSTER_detours (5 * k))
        let s := ((s.showOwner v).showCore v).moveVerges c v
        let s := s.replayVerges (fun g => g.cores.contains lg && !g.done.contains lg) (fun q => q == lg)
        (s.raise Code.CORE_DETOUR [c, v, n]).fireOwners p 4)

/-! ### Error counts of core SRAM and recomputation (Table CORE-3) -/

/-- Add an event at the present operating second to a list, dropping those `span` seconds old or older. -/
def recent (l : List Nat) (now span : Nat) : List Nat := l.filter (fun t => now < t + span) ++ [now]

/-- A single-byte correction in the core SRAM of core `c` (R389): 256 within 3,600 operating seconds fail the core. -/
def State.coreCorrected (s : State) (c : Nat) : State :=
  let l := recent (tget [] s.cores.corr c) s.opSeconds 3600
  let s := { s with cores := { s.cores with corr := tset [] s.cores.corr c l } }
  let s := s.inc (F.CORE_SRAM_ERR_corrected c)
  if l.length ≥ 256 then s.failCore c failCORR else s

/-- An error beyond correction in the core SRAM of core `c`: 3 within 3,600 operating seconds fail the core. -/
def State.coreUncorrected (s : State) (c : Nat) : State :=
  let l := recent (tget [] s.cores.uncorr c) s.opSeconds 3600
  let s := { s with cores := { s.cores with uncorr := tset [] s.cores.uncorr c l } }
  let s := s.inc (F.CORE_SRAM_ERR_uncorrectable c)
  if l.length ≥ 3 then s.failCore c failUNCORR else s

/-- A recomputation mismatch attributed to core `c`: 2 within 86,400 operating seconds fail the core. -/
def State.coreRecompute (s : State) (c : Nat) : State :=
  let l := recent (tget [] s.cores.recomp c) s.opSeconds 86400
  let s := { s with cores := { s.cores with recomp := tset [] s.cores.recomp c l } }
  if l.length ≥ 2 then s.failCore c failRECOMP else s

/-! ### Engines (R190, R224) -/

/-- Kinds of Table ROUTE-8. -/
def engEDGE : Nat := 1
def engWALK : Nat := 2
def engPOST : Nat := 3

/-- The clusters of this variant. -/
def State.clusters (s : State) : Nat := s.coreCount / 5

/-- The units that may serve an engine slot of cluster `k`, the first choice first: its own, and only where that has failed the same kind
of the other clusters of its die in ascending order, or the post engine of the other die (R190). -/
def State.servers (s : State) (kind k : Nat) : List Nat :=
  if kind == engPOST then
    (if s.cores.postFailed.contains (dieOf k) then [1 - dieOf k] else [dieOf k]).filter (fun d =>
      d < s.clusters / 4 && !s.cores.postFailed.contains d)
  else
    let bad := if kind == engEDGE then s.cores.edgeFailed else s.cores.walkFailed
    if bad.contains k then ((upTo 8).filter (fun j => dieOf j == dieOf k && j < s.clusters && !bad.contains j)) else [k]

/-- Show which walker serves each cluster from the build on (Table KV-8). -/
def State.showWalkers (s : State) : State :=
  s.each (upTo s.clusters) (fun s k => s.set (F.KV_WALKER_serving k) ((s.servers engWALK k).headD k))

/-- CAP_ENGINES as a boundary brings it up to date (R438). -/
def State.showEngines (s : State) : State :=
  let ok := fun (bad : List Nat) => maskOf 8 (fun k => k < s.clusters && !bad.contains k)
  let s := s.set F.CAP_ENGINES_spare_left (maskOf 8 (fun k => k < s.clusters && s.on (F.CORE_CLUSTER_spare_left (5 * k))))
  let s := (s.set F.CAP_ENGINES_edge_ok (ok s.cores.edgeFailed)).set F.CAP_ENGINES_walker_ok (ok s.cores.walkFailed)
  s.set F.CAP_ENGINES_post_ok (maskOf 2 (fun d => d < s.clusters / 4 && !s.cores.postFailed.contains d))

/-! ### Commands -/

/-- Reasons of DETOUR_REFUSED. -/
def detNOTACTIVE : Nat := 1
def detNOSPARE : Nat := 2
def detAGE : Nat := 3

/-- The offset of CORE_CTRL of core `c` in the CORE block. -/
def coreCtrlAt (c : Nat) : Nat := c * 0x10000 + 8

/-- CORE_HANG (R123): a tick not acknowledged for 20 µs. -/
def execCoreHang (c : CoreId) (s : State) : Host.Outcome State Fault Refusal := s.run (fun s => s.failCore c failHANG)

/-- DETOUR_REQUEST of port `i` (R123, R132, R134). -/
def execDetourRequest (i : Port) (c : CoreId) (s : State) : Host.Outcome State Fault Refusal :=
  s.run (fun s =>
    if !s.privileged i then s.raiseAt c Code.CORE_ROLE [i, coreCtrlAt c]
    else if c.val ≥ s.coreCount || s.coreRole c != coreACTIVE then s.raise Code.DETOUR_REFUSED [i, c, detNOTACTIVE]
    else if (s.spareOf (c.val / 5)).isNone then s.raise Code.DETOUR_REFUSED [i, c, detNOSPARE]
    else if !s.liveDetours then s.raise Code.DETOUR_REFUSED [i, c, detAGE]
    else s.failCore c failREQUEST)

/-- FENCE_CLEAR of port `i` (R131, R134). For a core that is not FAILED the spec names no answer, and the write does nothing (DESIGN
CHOICE). -/
def execFenceClear (i : Port) (c : CoreId) (s : State) : Host.Outcome State Fault Refusal :=
  s.run (fun s =>
    if s.role i != roleSERVICE then s.raiseAt c Code.CORE_ROLE [i, coreCtrlAt c]
    else if s.coreRole c != coreFAILED then s
    else
      let l := if s.cores.fenceClear.contains c.val then s.cores.fenceClear else s.cores.fenceClear ++ [c.val]
      { s with cores := { s.cores with fenceClear := l } }.raise Code.CORE_FENCE_CLEARED [i, c])

end Sys2Proof.Machine
end

