-- ==== Sys2Proof/Machine/Kv.lean ====
section
/-! DEFINITION. KV pools: page tables by generation, edits, reservations and the batch of a step (R204 to R224, R239, R240),
and the KV commands. -/

namespace Sys2Proof.Machine

/-! ### Pools -/

/-- A pool that is absent. -/
def pool0 : Pool :=
  { base := 0, size := 0, free := [], counts := [], tables := [], limbo := [], seqs := [], prefixes := [], joins := [], leaves := []
    host := [], slots := [], makes := [], drafts := [], chunks := [], chunkNext := 1024, chunkFree := [], chunkLimbo := [], roots := []
    places := [] }

def State.pool (s : State) (p : Nat) : Pool := tget pool0 s.kv p
def State.setPool (s : State) (p : Nat) (x : Pool) : State := { s with kv := tset pool0 s.kv p x }

/-- Sequence states of Table KV-2. -/
def seqLIVE : Nat := 1
def seqPREFIX : Nat := 2
def seqLEAVING : Nat := 3

/-- The sequence model of partition `p` whose pool stands for the partition: the models of one program state one pool (R206). -/
def State.model (s : State) (p : Nat) : Option SeqModelCfg :=
  (tfind s.cfg.programs p).bind (fun g => g.templates.findSome? (fun t => t.model))

/-- The sequence model of template `k` of generation `g` of the program of partition `p`. -/
def State.modelAt (s : State) (p g k : Nat) : Option SeqModelCfg :=
  (s.programAt p g).bind (fun g => (g.templates.find? (fun t => t.index == k)).bind (fun t => t.model))

/-- The STEP template of partition `p` whose batch an observation of context `c` joins: the first with a sequence model that names the
context, else the first with one (DESIGN CHOICE: the spec does not say which where a program has several). -/
def State.seqTemplate (s : State) (p c : Nat) : Nat :=
  let l := (((s.program p).map (fun g => g.templates)).getD []).filter (fun t => t.model.isSome)
  (((l.find? (fun t => t.contexts.contains c)).or l.head?).map (fun t => t.index)).getD 0

/-- The key of the batch positions of job `j` on generation `g` of its program: a job's old and new sequences never share a step (R64). -/
def batchKey (j g : Nat) : Nat := j + 256 * g

/-- The `n` batch positions at key `k`. -/
def Pool.positions (x : Pool) (k n : Nat) : List (Option BatchSlot) := (List.range n).map (fun i => (tget [] x.slots k).getD i none)

/-- The HBM pages of the KV table area of partition `p` (R207), and with those of its pool. -/
def State.tablePages (s : State) (p : Nat) : Nat := ((s.program p).map (fun g => g.tablePages)).getD 0
def State.kvPages (s : State) (p : Nat) : Nat := (s.pool p).size + s.tablePages p

/-- The generation of the program that a build now places for partition `p`. -/
def State.buildGen (s : State) (p : Nat) : Nat := tget 0 s.route.gens p + bit (s.takenFor p).isSome

/-- The latest published generation of partition `p`. -/
def State.gen (s : State) (p : Nat) : Nat := s.get (F.KV_GEN_current p)

/-- The page table of the latest generation. -/
def Pool.table (x : Pool) : Tab Nat := (x.tables.head?.map (fun e => e.2)).getD []

/-- The page table of generation `g`. -/
def Pool.tableAt (x : Pool) (g : Nat) : Tab Nat := ((x.tables.find? (fun e => e.1 == g)).map (fun e => e.2)).getD []

/-- Generation `a` is `b` or older; generations are compared modulo 2^32 (R210). -/
def genLe (a b : Nat) : Bool := (b + 2 ^ 32 - a) % 2 ^ 32 < 2 ^ 31

/-- The key of an entry: sequence and entry index e = layer × 4,096 + page index. -/
def entryKey (seq e : Nat) : Nat := 262144 * seq + e

/-- The pages reserved or held (R220): reservations of LIVE sequences beyond what they took, every page in use, and limbo. -/
def Pool.charge (x : Pool) : Nat :=
  (x.seqs.map (fun e => if e.2.state = seqLIVE then e.2.reserved - e.2.taken else 0)).foldl (· + ·) 0 + x.counts.length +
    x.limbo.length

/-- Bring the KV registers of partition `p` to its pool. -/
def State.showPool (s : State) (p : Nat) : State :=
  let x := s.pool p
  let live := (x.seqs.filter (fun e => e.2.state == seqLIVE || e.2.state == seqLEAVING)).length
  let s := (s.set (F.KV_POOL_pages p) x.size).set (F.KV_FREE_pages p) x.free.length
  let s := (s.set (F.KV_CHARGE_pages p) x.charge).set (F.KV_LIMBO_pages p) x.limbo.length
  let s := (s.set (F.KV_SEQ_live p) live).set (F.KV_SEQ_prefixes p) x.prefixes.length
  let s := s.set (F.KV_WAIT_joins p) (min x.joins.length 65535)
  let held := (s.route.legs.filterMap (fun l => if l.part == p then l.snapshot else none)).foldl (fun a b => if genLe b a then b else a) (s.gen p)
  let s := s.set (F.KV_GEN_HELD_oldest p) held
  let s := s.set F.KV_STATUS_pool_total ((s.kv.map (fun e => e.2.size)).foldl (· + ·) 0)
  s.set F.KV_STATUS_sequences ((s.kv.map (fun e =>
    (e.2.seqs.filter (fun y => y.2.state == seqLIVE || y.2.state == seqLEAVING)).length)).foldl (· + ·) 0)

/-- A pool at start-up: every page free, generation 1 (R223). -/
def State.startPool (s : State) (p : Nat) : State :=
  let s := match s.model p with
    | none => s.setPool p pool0
    | some m =>
      let b := s.pageBase p + m.pageOffset
      s.setPool p { pool0 with
        base := b, size := m.poolPages, tables := [(1, [])]
        free := ((List.range m.poolPages).map (fun i => b + i)).filter (fun g => !s.integ.retired.contains g) }
  (s.set (F.KV_GEN_current p) 1).showPool p

/-- The reservation of a sequence: the pages it may still need beside its prefix (R220). -/
def reservation (m : SeqModelCfg) (prefixTokens : Nat) : Nat :=
  let t := max m.tokensPerPage 1
  m.layers * ((m.maxLen + t - 1) / t - prefixTokens / t)

/-- The entries of a sequence in a table: (entry index, page). -/
def entriesOf (t : Tab Nat) (seq : Nat) : List (Nat × Nat) :=
  (t.filter (fun e => e.1 / 262144 == seq)).map (fun e => (e.1 % 262144, e.2))

/-- The prefix of a sequence: its sequence identifier and length. -/
def Pool.prefixOf (x : Pool) (k : Option Nat) : Option (Nat × Nat) :=
  k.bind (fun id => (tfind x.prefixes id).bind (fun q => (tfind x.seqs q).map (fun y => (q, y.length))))

/-- One holder of page `g` less; at 0 the page waits in limbo for generation `g'` to retire (R211). -/
def Pool.release (x : Pool) (g gen : Nat) : Pool :=
  let n := tget 0 x.counts g
  if n ≤ 1 then { x with counts := tdel x.counts g, limbo := x.limbo ++ [(gen, g)] }
  else { x with counts := tput x.counts g (n - 1) }

/-- Replace the latest table. -/
def Pool.setTable (x : Pool) (t : Tab Nat) : Pool :=
  match x.tables with
  | (g, _) :: r => { x with tables := (g, t) :: r }
  | [] => { x with tables := [(0, t)] }

/-! ### The table area (R207, R211, Table KV-2) -/

/-- A chunk pointer that names no chunk. -/
def chunkNone : Nat := 0xFFFFFFFF

/-- A chunk with the words `ws`: one that was returned, else one never used. The area begins with its directory, an entry for each sequence
identifier, and its chunks follow it (DESIGN CHOICE). -/
def Pool.takeChunk (x : Pool) (ws : Tab Nat) : Nat × Pool :=
  match x.chunkFree with
  | c :: r => (c, { x with chunkFree := r, chunks := tput x.chunks c ws })
  | [] => (x.chunkNext, { x with chunkNext := x.chunkNext + 1, chunks := tput x.chunks x.chunkNext ws })

/-- Chunk `c` with word `i` at `v`: a fresh copy, which leaves `c` to wait for generation `gen` to retire (R211), or `c` itself where it is a
copy that this edit has made (`fresh`). A word that is not listed is `d`. -/
def Pool.copyChunk (x : Pool) (fresh : List Nat) (gen c i d v : Nat) : Nat × Pool × List Nat :=
  let ws := tset d (tget [] x.chunks c) i v
  if fresh.contains c then (c, { x with chunks := tput x.chunks c ws }, fresh)
  else
    let (n, y) := x.takeChunk ws
    (n, if c = chunkNone then y else { y with chunkLimbo := y.chunkLimbo ++ [(gen, c)] }, n :: fresh)

/-- Word `i` of a chunk of pointers. -/
def Pool.pointer (x : Pool) (c i : Nat) : Nat := if c = chunkNone then chunkNone else tget chunkNone (tget [] x.chunks c) i

/-- Write entry `e.1` of the tree of a sequence as `e.2`: fresh copies of the leaf, the index chunk and the root on its path. -/
def Pool.setPath (gen seq : Nat) (a : Pool × List Nat) (e : Nat × Nat) : Pool × List Nat :=
  let root := tget chunkNone a.1.roots seq
  let idx := a.1.pointer root (e.1 / 4096)
  let leaf := a.1.pointer idx (e.1 / 64 % 64)
  let (l, x, fresh) := a.1.copyChunk a.2 gen leaf (e.1 % 64) 0 e.2
  let (i, x, fresh) := x.copyChunk fresh gen idx (e.1 / 64 % 64) chunkNone l
  let (r, x, fresh) := x.copyChunk fresh gen root (e.1 / 4096) chunkNone i
  ({ x with roots := tset chunkNone x.roots seq r }, fresh)

/-- The page entries that one edit of generation `gen` writes into the tree of a sequence: entry index and page (Table KV-2). -/
def Pool.setPaths (x : Pool) (gen seq : Nat) (es : List (Nat × Nat)) : Pool :=
  ((es.map (fun e => (e.1, 2 ^ 31 + e.2))).foldl (Pool.setPath gen seq) (x, [])).1

/-- The tree of a sequence is given up: its chunks wait for generation `gen` to retire (R211). -/
def Pool.dropTree (x : Pool) (seq gen : Nat) : Pool :=
  match tfind x.roots seq with
  | none => x
  | some r =>
    let kids := fun c => (tget [] x.chunks c).map (fun e => e.2)
    let all := r :: (kids r).flatMap (fun i => i :: kids i)
    { x with roots := tdel x.roots seq, chunkLimbo := x.chunkLimbo ++ all.map (fun c => (gen, c)) }

/-- Generation `g` is published: its root stands in place g mod 8 of each sequence's directory entry. -/
def Pool.publish (x : Pool) (g : Nat) : Pool :=
  { x with places := x.seqs.map (fun e =>
      (e.1, (tget (List.replicate 8 chunkNone) x.places e.1).set (g % 8) (tget chunkNone x.roots e.1))) }

/-- The directory entry of sequence `q` (Table KV-2); one without a sequence is FREE. -/
def State.dirEntry (s : State) (p : Nat) (x : Pool) (q : Nat) : List Byte :=
  match tfind x.seqs q with
  | none => leBytes 2 0xFFFF ++ List.replicate 62 0
  | some y =>
    let m := s.modelAt p y.gen y.tmpl
    let fmt := if (m.map (fun m => m.tokensPerPage)) == some 8 then 0xA else 0x5
    leBytes 2 q ++ leBytes 1 y.state ++ leBytes 1 fmt ++ leBytes 4 y.length ++ leBytes 2 (y.prefix_.getD 0xFFFF) ++
      leBytes 2 ((m.map (fun m => m.layers)).getD 0) ++ leBytes 4 y.reserved ++
      (tget (List.replicate 8 chunkNone) x.places q).flatMap (leBytes 4) ++ List.replicate 16 0

/-- The 256 bytes of chunk `c` of a pool: a leaf holds page entries, whose unlisted words are 0, and every other chunk pointers. -/
def Pool.chunkBytes (x : Pool) (c : Nat) : List Byte :=
  let ws := tget [] x.chunks c
  let leaf := ws.any (fun e => (e.2.testBit 31 && e.2 != chunkNone))
  (List.range 64).flatMap (fun i => leBytes 4 (tget (if leaf then 0 else chunkNone) ws i))

/-- Where the table area of partition `p` begins: the last of its pages, which programs and hosts cannot address (R207). -/
def State.tableBase (s : State) (p : Nat) : Nat := hbmBase + 65536 * (s.pageBase p + (s.part p).quota - s.tablePages p)

/-- The table area of partition `p` takes what the edits of a boundary changed of the pool `old`: chunks and directory entries. -/
def State.writeTables (s : State) (p : Nat) (old : Pool) : State :=
  if s.tablePages p = 0 then s
  else
    let x := s.pool p
    let base := s.tableBase p
    let chunks := (x.chunks.filter (fun e => tfind old.chunks e.1 != some e.2)).map (fun e => e.1)
    let seqs := ((old.seqs ++ x.seqs).map (fun e => e.1)).eraseDups
    let s := s.each chunks (fun s c => s.putBytes (base + 256 * c) (x.chunkBytes c))
    s.each seqs (fun s q => s.putBytes (base + 64 * q) (s.dirEntry p x q))

/-- Clear every entry of a sequence, with one holder less for each page (LEAVE, PREFIX_RETIRE). -/
def Pool.clearSeq (x : Pool) (seq gen : Nat) : Pool :=
  let es := entriesOf x.table seq
  let x1 := es.foldl (fun y e => y.release e.2 gen) (x.dropTree seq gen)
  x1.setTable (x.table.filter (fun e => e.1 / 262144 != seq))

/-- The sequences that hold page `g`'s table entry. -/
def Pool.lookup (x : Pool) (seq e : Nat) : Option Nat := tfind x.table (entryKey seq e)

/-- The first 64-byte line of page `g`, as a line number in the HBM. -/
def lineOfPage (g : Nat) : Nat := 1024 * g

/-- Page `g` holds a poisoned line (R393). -/
def State.pagePoisoned (s : State) (g : Nat) : Bool := s.integ.poison.any (fun l => l / 1024 == g)

/-- Copy page `a` to page `b`. -/
def State.copyPage (s : State) (a b : Nat) : State := s.putBytes (hbmBase + 65536 * b) (s.bytes (hbmBase + 65536 * a) 65536)

/-- The batch positions with those of a sequence EMPTY. -/
def Pool.withoutSeq (x : Pool) (seq : Nat) : Tab (List (Option BatchSlot)) :=
  x.slots.map (fun e => (e.1, e.2.map (fun b => if b.any (fun z => z.seq == seq) then none else b)))

/-- A sequence leaves: LEAVING until generation `gen` retires (R207, R221). -/
def Pool.leaveSeq (x : Pool) (seq gen : Nat) : Pool :=
  match tfind x.seqs seq with
  | some y =>
    if y.state = seqLEAVING then x
    else
      let x1 := x.clearSeq seq gen
      { x1 with seqs := tput x1.seqs seq { y with state := seqLEAVING, left := gen }, slots := x1.withoutSeq seq }
  | none => x

/-- Apply one edit of the queue in the generation `gen` that is about to be published (R208, R212, R213, R220). -/
def State.applyEdit (s : State) (p gen : Nat) (e : Edit) : State :=
  let x := s.pool p
  match e with
  | .join q w =>
    match s.modelAt p w.gen w.tmpl with
    | none => s
    | some m =>
      let pre := x.prefixOf w.prefix_
      let res := reservation m ((pre.map (fun e => e.2)).getD 0)
      let es := match pre with | some (k, _) => entriesOf x.table k | none => []
      let x1 := es.foldl (fun y e => { y with counts := tput y.counts e.2 (tget 0 y.counts e.2 + 1) }) x
      let x1 := (x1.setTable (es.foldl (fun t e => tput t (entryKey q e.1) e.2) x.table)).setPaths gen q es
      let y : KvSeq := { state := seqLIVE, length := (pre.map (fun e => e.2)).getD 0, prefix_ := w.prefix_, reserved := res, taken := 0
                         tag := w.tag, pend := w.pend, left := 0, gen := w.gen, tmpl := w.tmpl }
      s.setPool p { x1 with seqs := tput x1.seqs q y }
  | .append q en =>
    match tfind x.seqs q, x.free with
    | some y, g :: rest =>
      if y.state = seqLIVE && (x.lookup q en).isNone then
        s.setPool p { ((x.setTable (tput x.table (entryKey q en) g)).setPaths gen q [(en, g)]) with
          free := rest, counts := tput x.counts g 1, seqs := tput x.seqs q { y with taken := y.taken + 1 } }
      else s
    | _, _ => s
  | .cow q en =>
    match tfind x.seqs q, x.free, x.lookup q en with
    | some y, g :: rest, some old =>
      if y.state != seqLIVE || tget 0 x.counts old ≤ 1 then s
      else if s.pagePoisoned old then
        -- the copy fails: the writing sequence is INVALID and leaves (Table INTEG-12)
        let s := s.raise Code.HBM_UNCORRECTABLE [p, old, 0]
        (s.setPool p (x.leaveSeq q gen)).invalidate p [y.tag] Code.HBM_UNCORRECTABLE
      else
        let x1 := (x.setTable (tput x.table (entryKey q en) g)).setPaths gen q [(en, g)]
        let x1 := { x1 with free := rest, counts := tput x.counts g 1, seqs := tput x.seqs q { y with taken := y.taken + 1 } }
        ((s.setPool p (x1.release old gen)).copyPage old g).inc (F.KV_WAIT_cows p)
    | _, _, _ => s
  | .leave q => s.setPool p (x.leaveSeq q gen)
  | .prefixMake q id =>
    match tfind x.seqs q with
    | some y =>
      if y.state != seqLIVE then s
      else
        let s := s.setPool p { x with seqs := tput x.seqs q { y with state := seqPREFIX }, prefixes := tput x.prefixes id q
                                      slots := x.withoutSeq q }
        s.raise Code.KV_PREFIX_MADE [p, id, (entriesOf x.table q).length]
    | none => s
  | .prefixRetire id _ =>
    match tfind x.prefixes id with
    | some q =>
      let x1 := x.leaveSeq q gen
      (s.setPool p { x1 with prefixes := tdel x1.prefixes id }).raise Code.KV_PREFIX_RETIRED [p, id, gen]
    | none => s

/-- Page `k` enters the retire list, which holds 1,024, and its poisoned lines leave the poison list (R394). -/
def State.retirePage (s : State) (k : Nat) : State :=
  if s.integ.retired.length ≥ 1024 || s.integ.retired.contains k then s
  else
    let s := { s with integ := { s.integ with retiredOld := s.integ.retired, retired := s.integ.retired ++ [k], poison := s.integ.poison.filter (fun l => l / 1024 != k) } }
    let n := s.integ.retired.length
    let s := (s.set F.INTEG_HBM_poisoned s.integ.poison.length).set F.INTEG_HBM_retired n
    let s := (s.set F.CAP_HBM_AVAIL_pages (s.hbmPages - n)).set F.CAP_HBM_AVAIL_retired n
    s.raise Code.HBM_PAGE_RETIRED [k, n]

/-- The partition's held pages against its quota: OVER_QUOTA is entered above it and clears below it (R245). -/
def State.checkQuota (s : State) (p : Nat) : State :=
  let h := s.get (F.ROUTE_PAGES_held p)
  let q := s.get (F.ROUTE_QUOTA_pages p)
  if s.on (F.ROUTE_PART_over_quota p) then
    if h < q then (s.set (F.ROUTE_PART_over_quota p) 0).raise Code.HBM_OVER_QUOTA [p, h, q, 1] else s
  else if h > q then (s.set (F.ROUTE_PART_over_quota p) 1).raise Code.HBM_OVER_QUOTA [p, h, q, 0]
  else s

/-- The pages that a retired generation frees return to the free list in ascending order, and so do its chunks; a page with a poisoned line
is retired instead (R211, R394), and in OVER_QUOTA pages go to the unassigned ones (R222). -/
def State.retireGen (s : State) (p g : Nat) : State :=
  let x := s.pool p
  let back := ((x.limbo.filter (fun e => genLe e.1 g)).map (fun e => e.2)).mergeSort (· ≤ ·)
  let bad := back.filter s.pagePoisoned
  let good := back.filter (fun k => !s.pagePoisoned k)
  let beyond := s.on (F.KV_CHARGE_over_quota p)
  let chunks := ((x.chunkLimbo.filter (fun e => genLe e.1 g)).map (fun e => e.2)).mergeSort (· ≤ ·)
  let s := s.setPool p { x with limbo := x.limbo.filter (fun e => !genLe e.1 g), free := if beyond then x.free else x.free ++ good
                                chunkLimbo := x.chunkLimbo.filter (fun e => !genLe e.1 g), chunkFree := x.chunkFree ++ chunks
                                seqs := x.seqs.filter (fun e => !(e.2.state == seqLEAVING && genLe e.2.left g)) }
  let s := if beyond then s.set (F.ROUTE_PAGES_held p) (s.get (F.ROUTE_PAGES_held p) - good.length) else s
  s.each bad State.retirePage

/-- The pool leaves OVER_QUOTA once its charge is below the quota, and its join queue resumes (R222). -/
def State.quotaCheck (s : State) (p : Nat) : State :=
  let c := (s.pool p).charge
  let q := s.get (F.ROUTE_QUOTA_pages p)
  if s.on (F.KV_CHARGE_over_quota p) && c < q then
    let x := s.pool p
    let s := s.setPool p { x with joins := x.joins.map (fun (w : JoinWait) => { w with refused := false }) }
    (s.set (F.KV_CHARGE_over_quota p) 0).raise Code.KV_OVER_QUOTA [p, c, q, 1]
  else s

/-- The directory entries of a step's sequences take its tokens; a slot that is VOID writes none (R215). -/
def Pool.takeTokens (x : Pool) (l : List (Option BatchSlot)) : Pool :=
  l.foldl (fun y b => match b with
    | some z => match tfind y.seqs z.seq with
      | some q => if q.state = seqLIVE && !z.void_ then { y with seqs := tput y.seqs z.seq { q with length := z.past + z.fresh } } else y
      | none => y
    | none => y) x

/-- The generation that publishing the next one retires (R210). -/
def State.retiring (s : State) (p : Nat) : Nat := (s.gen p + 2 ^ 32 - 7) % 2 ^ 32

/-! ### The batch of a step (R239, R240, R214, R215, R221) -/

/-- The tag has its outcome: every result of it is settled. -/
def State.tagSettled (s : State) (p tag : Nat) : Bool :=
  let l := s.host.subjects.filter (fun u => u.kind == 1 && u.part == p && u.tag == tag)
  !l.isEmpty && l.all (fun u => u.settled)

/-- Part `tag` has given its verdict: its results are settled, or, where none is open for it, its record has come (R62). -/
def State.partDone (s : State) (p tag : Nat) (seen : Bool) : Bool :=
  if s.host.subjects.any (fun u => u.kind == 1 && u.part == p && u.tag == tag) then s.tagSettled p tag else seen

/-- The lowest sequence identifier that is free, `used` being taken by joins of the same build. -/
def Pool.freeSeq (x : Pool) (used : List Nat) : Option Nat :=
  (List.range 4096).find? (fun k => (tfind x.seqs k).isNone && !used.contains k)

/-- The edits that `fresh` tokens after `past` need: APPEND for missing page indices, COW for a page that is shared. -/
def pageEdits (x : Pool) (m : SeqModelCfg) (seq src past fresh : Nat) : List Edit :=
  if fresh = 0 then []
  else
    let t := max m.tokensPerPage 1
    let a := past / t
    let n := (past + fresh - 1) / t + 1 - a
    let idx := (List.range m.layers).flatMap (fun l => (List.range n).map (fun k => 4096 * l + a + k))
    (idx.filter (fun e => (x.lookup src e).isNone)).map (fun e => Edit.append seq e) ++
      (idx.filter (fun e => (x.lookup src e).isSome)).map (fun e => Edit.cow seq e)

/-- A sequence that would pass max_len: its part is INVALID (R221). -/
def State.lengthLimit (s : State) (p q tag : Nat) (m : SeqModelCfg) : State :=
  (s.raise Code.KV_LENGTH_LIMIT [p, q, m.maxLen]).invalidate p [tag] Code.KV_LENGTH_LIMIT

/-- The generations that the steps of job `j` of partition `p` run, in ascending order: those whose sequences hold positions of it, and that of
the sequences that wait to join its template `k`. -/
def State.stepGens (s : State) (p j k : Nat) : List Nat :=
  let x := s.pool p
  let held := x.slots.filterMap (fun e => if e.1 % 256 == j && e.2.any (fun b => b.isSome) then some (e.1 / 256) else none)
  ((held ++ (x.joins.filter (fun w => w.tmpl == k)).map (fun w => w.gen)).eraseDups).mergeSort (· ≤ ·)

/-- The generation of the next step of a job whose latest one ran `last`: old and new sequences run in separate steps until the old ones have
finished (R64), in turn (DESIGN CHOICE). -/
def State.batchGen (s : State) (p j k last : Nat) : Nat :=
  let l := s.stepGens p j k
  (((l.find? (fun g => last < g)).or l.head?)).getD (s.buildGen p)

/-- The joins that the build in progress has admitted. -/
def Pool.admitted (x : Pool) : List (Nat × JoinWait) := x.drafts.flatMap (fun d => d.joins)

/-- The draft with its job, generation and period takes the place of the one that stands there. -/
def Pool.setDraft (x : Pool) (d : StepDraft) : Pool :=
  { x with drafts := x.drafts.map (fun e => if e.job == d.job && e.gen == d.gen && e.period == d.period then d else e) }

/-- Some job of partition `p` that does not retire steps template `k`. -/
def State.stepped (s : State) (p k : Nat) : Bool :=
  s.route.jobs.any (fun e => e.2.part == p && e.2.template == k && e.2.retireAt.isNone)

/-- The first of the join queue of partition `p` that this build has not admitted; a sequence whose template no job steps holds no other
one back (DESIGN CHOICE). -/
def State.firstJoin (s : State) (p : Nat) : Option JoinWait :=
  let x := s.pool p
  x.joins.find? (fun w => !x.admitted.any (fun e => e.2.tag == w.tag) && s.stepped p w.tmpl)

/-- In OVER_QUOTA every JOIN is refused, and its sequence waits (R222): each is written once. -/
def State.refuseJoins (s : State) (p : Nat) : State :=
  let x := s.pool p
  let s := s.each (x.joins.filter (fun w => !w.refused)) (fun s _ =>
    s.raise Code.KV_OVER_QUOTA [p, x.charge, s.get (F.ROUTE_QUOTA_pages p), 0])
  s.setPool p { x with joins := x.joins.map (fun (w : JoinWait) => { w with refused := true }) }

/-- The pages that a JOIN of this build would leave without room, if any (R220): what is charged to the pool at the boundary, without the
pages that return there before the edits (R211), with the reservations that this build has admitted and one of `res` pages more, and less
`freed`, which the LEAVEs before it in the queue uncharge (R221), against the pages that the pool then has. -/
def State.joinFits (s : State) (p res freed : Nat) : Bool :=
  let x := s.pool p
  let back := x.limbo.filter (fun e => genLe e.1 (s.retiring p))
  let bad := (back.filter (fun e => s.pagePoisoned e.2)).length
  let taken := (x.admitted.map (fun e => ((s.modelAt p e.2.gen e.2.tmpl).map (fun n =>
    reservation n (((x.prefixOf e.2.prefix_).map (fun e => e.2)).getD 0))).getD 0)).foldl (· + ·) 0
  x.charge + taken + res + bad ≤ x.free.length + x.counts.length + x.limbo.length + back.length + freed

/-- Sequences join the batch of draft `d` in the order of the partition's queue: the first that does not fit, or belongs to another batch,
holds the rest back (R220, R222, R239).  A JOIN takes the lowest EMPTY position; `freed` is what the LEAVEs of lower positions, which stand
before it in the queue, take off the charge. -/
def State.admitJoins (s : State) (p : Nat) (d : StepDraft) (m : SeqModelCfg) (freed : Nat → Nat) : Nat → State
  | 0 => s
  | fuel + 1 =>
    let x := s.pool p
    match s.firstJoin p with
    | none => s
    | some w =>
      let past := ((x.prefixOf w.prefix_).map (fun e => e.2)).getD 0
      if w.tmpl != d.tmpl || w.gen != d.gen then s
      else if s.on (F.KV_CHARGE_over_quota p) then s.refuseJoins p
      else match d.slots.findIdx? (fun b => b.isNone), x.freeSeq (x.admitted.map (fun e => e.1)) with
        | some i, some q =>
          if past + min w.pend 1024 > m.maxLen then
            ((s.setPool p { x with joins := x.joins.erase w }).lengthLimit p q w.tag m).admitJoins p d m freed fuel
          else if !s.joinFits p (reservation m past) (freed i) then
            if w.noted then s
            else (s.setPool p { x with joins := x.joins.map (fun v => if v = w then { w with noted := true } else v) }).raise
              Code.KV_JOIN_WAIT [p, q, x.charge]
          else
            let b : BatchSlot := { seq := q, past := past, fresh := 0, rows := 0, offset := 0, void_ := false }
            let d := { d with joins := d.joins ++ [(q, w)], slots := d.slots.set i (some b) }
            (s.setPool p (x.setDraft d)).admitJoins p d m freed fuel
        | _, _ => s

end Sys2Proof.Machine

namespace Sys2Proof

open Sys2Proof.Machine

/-- The query rows of a slot with `n` new tokens: as many, or 1 for a pooled verdict query (Table KV-6); a slot without new tokens has
none (DESIGN CHOICE for a pooled one). -/
def SeqModelCfg.rowsOf (m : SeqModelCfg) (n : Nat) : Nat := if m.pooled then min n 1 else n

/-- The batched legs of a template. -/
def TemplateCfg.batched (t : TemplateCfg) : List LegCfg := t.legs.filter (fun l => l.kind == 1)

/-- Capacities of variant `v` of a template: what that variant of every batched leg covers; a leg with fewer variants has its largest. -/
def TemplateCfg.capacity (t : TemplateCfg) (v : Nat) : Option (Nat × Nat) :=
  (t.batched.filterMap (fun l => (l.variants[v]?).or l.variants.getLast?)).foldl (fun a k => match a with
    | none => some (k.rows, k.pages)
    | some b => some (min b.1 k.rows, min b.2 k.pages)) none

/-- The variants of a template: as many as its batched legs have, at most. -/
def TemplateCfg.variantCount (t : TemplateCfg) : Nat := (t.batched.map (fun l => l.variants.length)).foldl max 0

/-- Capacities of the largest variant of a template's batched legs. -/
def TemplateCfg.largest (t : TemplateCfg) : Option (Nat × Nat) := t.capacity (t.variantCount - 1)

end Sys2Proof

namespace Sys2Proof.Machine

/-- Rows and pages of a list of slots. -/
def batchNeed (m : SeqModelCfg) (l : List (Option BatchSlot)) : Nat × Nat :=
  l.foldl (fun a b => match b with
    | some z => (a.1 + z.rows, a.2 + (z.past + z.fresh + max m.tokensPerPage 1 - 1) / max m.tokensPerPage 1)
    | none => a) (0, 0)

/-- Give the slots their pending tokens in ascending order while the largest variant covers them; every later slot in use carries none and is
deferred (R240). Answers the slots and how many are deferred. -/
def fillSlots (m : SeqModelCfg) (cap : Option (Nat × Nat)) (pend : Nat → Nat) : List (Option BatchSlot) → Nat → Nat → Bool →
    List (Option BatchSlot) × Nat
  | [], _, _, _ => ([], 0)
  | none :: r, rows, pages, full => let (l, d) := fillSlots m cap pend r rows pages full; (none :: l, d)
  | some z :: r, rows, pages, full =>
    let t := max m.tokensPerPage 1
    let want := min (pend z.seq) 1024
    let pg := fun n => (z.past + n + t - 1) / t
    let beyond := full || (match cap with
      | some (cr, cp) => decide (rows + m.rowsOf want > cr) || decide (pages + pg want > cp)
      | none => false)
    let n := if beyond then 0 else want
    let b : BatchSlot := { z with fresh := n, rows := m.rowsOf n, offset := rows }
    let (l, d) := fillSlots m cap pend r (rows + m.rowsOf n) (pages + pg n) beyond
    (some b :: l, d + bit beyond)

/-- The edits of one batch position in the order of Table KV-3: the JOIN of the sequence that takes it and what its new tokens need, none
where it is VOID (R215), the LEAVEs of the sequences that had it or have it, and a PREFIX_MAKE (R208). -/
def slotEdits (x : Pool) (m : SeqModelCfg) (js : List (Nat × JoinWait)) (z : Option BatchSlot) (leaves : List Nat)
    (makes : List (Nat × Nat)) : List Edit :=
  let mine : List Edit × List Edit := match z with
    | none => ([], [])
    | some z =>
      let w : Option JoinWait := (js.find? (fun e => e.1 == z.seq)).map (fun e => e.2)
      let src := match w with | some w => ((x.prefixOf w.prefix_).map (fun e => e.1)).getD 4096 | none => z.seq
      ((match w with | some w => [.join z.seq { w with pend := w.pend - z.fresh }] | none => []) ++
         (if z.void_ then [] else pageEdits x m z.seq src z.past z.fresh),
       (makes.filter (fun e => e.1 == z.seq)).map (fun e => .prefixMake e.1 e.2))
  mine.1 ++ leaves.map Edit.leave ++ mine.2

/-- Iteration `num` of job `j` runs the batch `l`: its parts are those of the batch's sequences. -/
def State.setStepBatch (s : State) (p j num : Nat) (l : List (Option BatchSlot)) (js : List (Nat × JoinWait)) : State :=
  let tag := fun (z : BatchSlot) => match js.find? (fun e => e.1 == z.seq) with
    | some e => some e.2.tag
    | none => (tfind (s.pool p).seqs z.seq).map (fun y => y.tag)
  { s with route := { s.route with iters := s.route.iters.map (fun (it : Iter) =>
    if it.job == j && it.num == num then { it with batch := l, tags := l.filterMap (fun b => b.bind tag) } else it) } }

/-- The batch of iteration `num` of job `j` on generation `g`, in the step at the boundary of period `n` (R239): leaves first, joins, tokens.
It is a draft until that boundary, where its membership and its edits take effect (R208, R247); what a late build drafted is formed again
(R238). A further iteration of the job in the same build finds every token taken. -/
def State.formBatch (s : State) (p n j num g : Nat) (t : TemplateCfg) (m : SeqModelCfg) : State :=
  let x := s.pool p
  match x.drafts.find? (fun d => d.job == j && d.gen == g && d.period == n) with
  | some d => s.setStepBatch p j num (d.slots.map (fun b => b.map (fun z =>
      { z with past := z.past + z.fresh, fresh := 0, rows := 0, offset := 0 }))) d.joins
  | none =>
    let old := x.positions (batchKey j g) m.maxSeq
    let seqs := old.filterMap (fun b => b.bind (fun z => (tfind x.seqs z.seq).map (fun y => (z, y))))
    -- sequences whose part has its outcome, whose slot was voided, or which leave for another cause
    let gone := (seqs.filter (fun e => e.1.void_ || x.leaves.contains e.1.seq || e.2.state != seqLIVE || s.tagSettled p e.2.tag)).map
      (fun e => e.1.seq)
    -- and those that would pass max_len
    let long := seqs.filter (fun e => !gone.contains e.1.seq && e.2.length + min e.2.pend 1024 > m.maxLen)
    let leaves := gone ++ long.map (fun e => e.1.seq)
    let s := s.each long (fun s e => s.lengthLimit p e.1.seq e.2.tag m)
    let left := fun (b : Option BatchSlot) => b.bind (fun z => if leaves.contains z.seq then tfind x.seqs z.seq else none)
    let freed := fun i => ((old.take i).map (fun b => ((left b).map (fun y => y.reserved - y.taken)).getD 0)).foldl (· + ·) 0
    let d : StepDraft := { job := j, gen := g, tmpl := t.index, num := num, period := n, joins := [], leaves := leaves
                           slots := old.map (fun b => b.bind (fun z => if leaves.contains z.seq then none
                             else some { z with past := ((tfind x.seqs z.seq).map (fun y => y.length)).getD z.past })) }
    let s := s.setPool p { x with joins := x.joins.filter (fun w => !s.tagSettled p w.tag), drafts := x.drafts ++ [d] }
    let s := s.admitJoins p d m freed (s.pool p).joins.length
    let x := s.pool p
    let d := (x.drafts.find? (fun e => e.job == j && e.gen == g && e.period == n)).getD d
    let pend := fun q => match d.joins.find? (fun e => e.1 == q) with
      | some e => e.2.pend
      | none => ((tfind x.seqs q).map (fun y => y.pend)).getD 0
    let (mine, deferred) := fillSlots m t.largest pend d.slots 0 0 false
    let s := (s.setPool p (x.setDraft { d with slots := mine })).setStepBatch p j num mine d.joins
    if deferred = 0 then s
    else
      let k := tget (0, 0) s.route.deferNew p
      ({ s with route := { s.route with deferNew := tput s.route.deferNew p (k.1, k.2 + deferred) } }).raise Code.BATCH_DEFERRED [p, j, deferred]

/-! ### Step boundaries (R208 to R211, R239) -/

/-- A draft as its boundary finds it: a slot that was voided meanwhile is VOID (R215), in OVER_QUOTA its joins are refused (R222), and a join
brings what it has pending. -/
def State.finalDraft (s : State) (p : Nat) (d : StepDraft) : StepDraft :=
  let x := s.pool p
  let joins := if s.on (F.KV_CHARGE_over_quota p) then []
    else d.joins.filterMap (fun e => (x.joins.find? (fun w => w.tag == e.2.tag)).map (fun w => (e.1, w)))
  let refused := fun q => d.joins.any (fun e => e.1 == q) && !joins.any (fun e => e.1 == q)
  { d with joins := joins
           slots := d.slots.map (fun b => b.bind (fun z =>
             if refused z.seq then none else some { z with void_ := z.void_ || x.leaves.contains z.seq })) }

/-- The edits of a draft in ascending position (R208). -/
def State.draftEdits (s : State) (p : Nat) (makes : List (Nat × Nat)) (d : StepDraft) : List Edit :=
  let x := s.pool p
  match s.modelAt p d.gen d.tmpl with
  | none => []
  | some m =>
    (d.slots.zip (x.positions (batchKey d.job d.gen) d.slots.length)).flatMap (fun e =>
      let mine := ([e.2, e.1].filterMap (fun b => b.map (fun z => z.seq))).eraseDups
      slotEdits x m d.joins e.1 (mine.filter (fun q => d.leaves.contains q || x.leaves.contains q)) makes)

/-- The batch of a draft is in force: its positions, its iteration's batch and parts, and its tokens, which are pending no more. -/
def State.takeDraft (s : State) (p : Nat) (d : StepDraft) : State :=
  let x := s.pool p
  let taken := fun q => (d.slots.findSome? (fun b => b.bind (fun z => if z.seq = q then some (if z.void_ then 0 else z.fresh) else none))).getD 0
  let s := s.setStepBatch p d.job d.num d.slots d.joins
  s.setPool p { x with slots := tput x.slots (batchKey d.job d.gen) d.slots
                       joins := x.joins.filter (fun w => !d.joins.any (fun e => e.2.tag == w.tag))
                       seqs := x.seqs.map (fun e => (e.1, { e.2 with pend := e.2.pend - taken e.1 })) }

/-- The queue as it is applied: an APPEND of a sequence that leaves in the same step is dropped (R213). -/
def dropAppends (q : List Edit) : List Edit :=
  q.filter (fun e => match e with | .append k _ => !q.contains (.leave k) | _ => true)

/-- A step boundary of partition `p`, that of period `n` (R208 to R211): generation G + 8 retires G, the queued edits are applied in order, those
of the builder before those of the host, and the new generation is published. -/
def State.kvStep (s : State) (p n : Nat) : State :=
  let g := (s.gen p + 1) % 2 ^ 32
  let before := s.pool p
  let s := s.retireGen p (s.retiring p)
  let x := s.pool p
  let ds := (x.drafts.filter (fun d => d.period == n)).map (s.finalDraft p)
  let s := if s.on (F.KV_CHARGE_over_quota p) then s.refuseJoins p else s
  let makes := x.makes.filterMap (fun k => (x.seqs.find? (fun e => e.2.tag == k.1 && e.2.state == seqLIVE)).map (fun e => (e.1, k.2)))
  let edits := ds.flatMap (s.draftEdits p makes)
  let others := (x.leaves.filter (fun q => !edits.contains (.leave q))).map Edit.leave
  let due := (x.host.filter (fun e => e.2 ≤ n)).map (fun e => e.1)
  let s := s.each ds (fun s d => s.takeDraft p d)
  let x := s.pool p
  let made := fun (k : Nat × Nat) => x.seqs.any (fun e => e.2.tag == k.1 && edits.contains (.prefixMake e.1 k.2))
  let s := s.setPool p { x with tables := ((g, x.table) :: x.tables).take 9, leaves := [], drafts := []
                                makes := x.makes.filter (fun k => !made k && x.seqs.any (fun e => e.2.tag == k.1 && e.2.state == seqLIVE))
                                host := x.host.filter (fun e => e.2 > n) }
  let s := s.each (dropAppends (edits ++ others ++ due)) (fun s e => s.applyEdit p g e)
  let s := s.setPool p ((ds.foldl (fun (y : Pool) d => y.takeTokens d.slots) (s.pool p)).publish g)
  ((((s.set (F.KV_GEN_current p) g).writeTables p before).quotaCheck p).checkQuota p).showPool p

/-- The bytes of a length-table slot (Table KV-6). -/
def lengthSlot (b : Option BatchSlot) : List Byte :=
  match b with
  | none => leBytes 2 0xFFFF ++ List.replicate 14 0
  | some z => leBytes 2 z.seq ++ [if z.void_ then 2 else 1, 0] ++ leBytes 4 z.past ++ leBytes 2 z.fresh ++ leBytes 2 z.rows ++
      leBytes 4 z.offset

/-- An observation of a part reaches the sequences of its partition: tokens for its sequence, or a new sequence that waits to
join (R220, R239). -/
def State.observe (s : State) (p : Nat) (w : WindowIn) : State :=
  let x := s.pool p
  let tag := w.tag.toNat
  if (s.model p).isNone then s
  else match x.seqs.find? (fun e => e.2.tag == tag && e.2.state == seqLIVE) with
    | some (q, y) => s.setPool p { x with seqs := tput x.seqs q { y with pend := y.pend + w.tokens } }
    | none =>
      if x.joins.any (fun j => j.tag == tag) then
        s.setPool p { x with joins := x.joins.map (fun j => if j.tag = tag then { j with pend := j.pend + w.tokens } else j) }
      else
        let j : JoinWait := { tag := tag, prefix_ := w.prefix_, pend := w.tokens, noted := false, refused := false, gen := s.buildGen p
                              tmpl := s.seqTemplate p w.ctx }
        (s.setPool p { x with joins := x.joins ++ [j] }).showPool p

/-! ### KV commands (R224) -/

/-- Set KV_CMD_STATUS of port `i`. -/
def State.kvStatus (s : State) (i : Port) (code count gen : Nat) : State :=
  ((s.set (F.KV_CMD_STATUS_code i) code).set (F.KV_CMD_STATUS_count i) count).set (F.KV_CMD_STATUS2_generation i) gen

/-- A refused KV command. -/
def State.kvRefused (s : State) (i : Port) (cmd target : Nat) : State :=
  (s.raise Code.KV_CMD_REFUSED [i, cmd, target]).kvStatus i Code.KV_CMD_REFUSED 0 0

/-- Only the owning port of the partition and the OWNER port may write KV_CMD. -/
def State.kvCmd (s : State) (i : Port) (p : Part) (cmd target : Nat) (f : State → State) : State :=
  if s.role i == roleOWNER || (s.on (F.ROUTE_PART_defined p) && s.get (F.ROUTE_PART_port p) == i.val) then f s
  else s.kvRefused i cmd target

/-- The generation that publishes an edit queued now. -/
def State.nextGen (s : State) (p : Nat) : Nat := (s.gen p + (if (s.pool p).drafts.isEmpty then 1 else 2)) % 2 ^ 32

/-- PREFIX_RETIRE: queues the retirement of a prefix (R208). -/
def execPrefixRetire (i : Port) (p : Part) (target : BitVec 19) (s : State) : Host.Outcome State Fault Refusal :=
  s.run (fun s => s.kvCmd i p 1 target.toNat (fun s =>
    let id := target.toNat % 64
    let x := s.pool p
    if (tfind x.prefixes id).isNone then s.kvRefused i 1 target.toNat
    else (s.setPool p { x with host := x.host ++ [(.prefixRetire id i, s.route.buildFor + 1)] }).kvStatus i 0 0 (s.nextGen p)))

/-- SEQ_END: ends a sequence; its part is INVALID with cause HOST_END (R224). -/
def execSeqEnd (i : Port) (p : Part) (target : BitVec 19) (s : State) : Host.Outcome State Fault Refusal :=
  s.run (fun s => s.kvCmd i p 2 target.toNat (fun s =>
    let q := target.toNat % 4096
    let x := s.pool p
    match tfind x.seqs q with
    | some y =>
      if y.state != seqLIVE then s.kvRefused i 2 target.toNat
      else
        let g := s.nextGen p
        let s := (s.setPool p { x with host := x.host ++ [(.leave q, s.route.buildFor + 1)] }).kvStatus i 0 0 g
        (s.raise Code.KV_SEQ_ENDED [p, q, i]).invalidate p [y.tag] Code.KV_SEQ_ENDED
    | none => s.kvRefused i 2 target.toNat))

/-- PAGE_QUERY: the reference count of a page of the pool. -/
def execPageQuery (i : Port) (p : Part) (target : BitVec 19) (s : State) : Host.Outcome State Fault Refusal :=
  s.run (fun s => s.kvCmd i p 3 target.toNat (fun s =>
    let x := s.pool p
    let g := target.toNat
    if g < x.base || g ≥ x.base + x.size then s.kvRefused i 3 g
    else s.kvStatus i 0 (tget 0 x.counts g) (s.gen p)))

end Sys2Proof.Machine
end

