-- ==== Sys2Proof/Machine/Float.lean ====
section
/-! DEFINITION. Element formats and rounding (R136 to R138, R149 to R151): every number is read as an exact value, computed
exactly, and rounded once to the nearest value of its destination, ties to even. -/

namespace Sys2Proof.Machine

/-- The exact value of a number of the package: NaN, an infinity, or `± m × 2^e`; a zero keeps its sign. -/
inductive FV where
  | nan
  | inf (neg : Bool)
  | fin (neg : Bool) (m : Nat) (e : Int)
  deriving DecidableEq, Repr

/-! ### Formats (Table ARITH-1) -/

def fmtNONE : Nat := 0x0
def fmtI4 : Nat := 0x1
def fmtI8 : Nat := 0x2
def fmtI16 : Nat := 0x3
def fmtI32 : Nat := 0x4
def fmtE4M3 : Nat := 0x5
def fmtE5M2 : Nat := 0x6
def fmtMX8E4 : Nat := 0x7
def fmtMX8E5 : Nat := 0x8
def fmtMX4 : Nat := 0x9
def fmtBF16 : Nat := 0xA
def fmtFP16 : Nat := 0xB
def fmtFP32 : Nat := 0xC
def fmtACC80 : Nat := 0xD
def fmtU8 : Nat := 0xE
def fmtU16 : Nat := 0xF

/-- The element code of an E2M1 element, which only MX blocks hold; a number outside the format codes. -/
def fmtE2M1 : Nat := 16

/-- The width of an element in bits. -/
def fmtBits (f : Nat) : Nat :=
  if f = fmtI4 || f = fmtMX4 || f = fmtE2M1 then 4
  else if f = fmtI16 || f = fmtBF16 || f = fmtFP16 || f = fmtU16 then 16
  else if f = fmtI32 || f = fmtFP32 then 32
  else if f = fmtACC80 then 128
  else 8

/-- The format is a two's complement or unsigned integer. -/
def isIntFmt (f : Nat) : Bool := [fmtI4, fmtI8, fmtI16, fmtI32, fmtU8, fmtU16].contains f

/-- The format's integers have no sign. -/
def isUnsignedFmt (f : Nat) : Bool := f = fmtU8 || f = fmtU16

/-- The format holds microscaling blocks (R138), and the format of their elements. -/
def isMxFmt (f : Nat) : Bool := f = fmtMX8E4 || f = fmtMX8E5 || f = fmtMX4
def mxElem (f : Nat) : Nat := if f = fmtMX8E4 then fmtE4M3 else if f = fmtMX8E5 then fmtE5M2 else fmtE2M1

/-- A binary floating-point format: width of exponent and mantissa, bias, and what its top exponent stands for. -/
structure FloatFmt where
  ebits : Nat
  mbits : Nat
  bias : Nat
  /-- The greatest finite magnitude, as significand and exponent. -/
  maxM : Nat
  maxE : Int
  /-- The format has infinities. -/
  infs : Bool
  /-- The canonical NaN (R137); an E2M1 element has none. -/
  nan : Nat
  deriving DecidableEq, Repr

/-- The floating-point formats of Table ARITH-1. -/
def floatFmt (f : Nat) : Option FloatFmt :=
  if f = fmtE4M3 then some { ebits := 4, mbits := 3, bias := 7, maxM := 14, maxE := 5, infs := false, nan := 0x7F }
  else if f = fmtE5M2 then some { ebits := 5, mbits := 2, bias := 15, maxM := 7, maxE := 13, infs := true, nan := 0x7F }
  else if f = fmtE2M1 then some { ebits := 2, mbits := 1, bias := 1, maxM := 3, maxE := 1, infs := false, nan := 0 }
  else if f = fmtBF16 then some { ebits := 8, mbits := 7, bias := 127, maxM := 255, maxE := 120, infs := true, nan := 0x7FC0 }
  else if f = fmtFP16 then some { ebits := 5, mbits := 10, bias := 15, maxM := 2047, maxE := 5, infs := true, nan := 0x7E00 }
  else if f = fmtFP32 then
    some { ebits := 8, mbits := 23, bias := 127, maxM := 16777215, maxE := 104, infs := true, nan := 0x7FC00000 }
  else none

/-- The exponent of the least significant bit of the subnormal numbers. -/
def FloatFmt.lsb (g : FloatFmt) : Int := 1 - (g.bias : Int) - g.mbits

/-- The value that a floating-point code stands for: a full top exponent is infinity or NaN, except in E4M3, whose
one NaN has a full mantissa too, and in E2M1, which has no special values. -/
def FloatFmt.decode (g : FloatFmt) (c : Nat) : FV :=
  let c := c % 2 ^ (1 + g.ebits + g.mbits)
  let neg := c.testBit (g.ebits + g.mbits)
  let ex := c / 2 ^ g.mbits % 2 ^ g.ebits
  let man := c % 2 ^ g.mbits
  let top := ex = 2 ^ g.ebits - 1
  if g.infs && top then (if man = 0 then .inf neg else .nan)
  else if !g.infs && g.ebits = 4 && top && man = 7 then .nan
  else if ex = 0 then .fin neg man g.lsb
  else .fin neg (2 ^ g.mbits + man) (g.lsb + (ex - 1 : Int))

/-! ### Rounding -/

/-- The nearest integer to `m × 2^e`, ties to even, and whether it is exact. -/
def roundInt (m : Nat) (e : Int) : Nat × Bool :=
  if 0 ≤ e then (m <<< e.toNat, true)
  else
    let d := (-e).toNat
    let q := m >>> d
    let r := m - (q <<< d)
    let half := 1 <<< (d - 1)
    (if r > half || (r = half && q % 2 = 1) then q + 1 else q, r = 0)

/-- The number of bits of a number. -/
def bitLen (m : Nat) : Nat := if m = 0 then 0 else m.log2 + 1

/-- Round a finite value to a floating-point format (R149, Table ARITH-8): the code. -/
def FloatFmt.round (g : FloatFmt) (sat : Bool) (neg : Bool) (m : Nat) (e : Int) : Nat :=
  let sign := if neg then 2 ^ (g.ebits + g.mbits) else 0
  if m = 0 then sign
  else
    let q := max (e + (bitLen m : Int) - 1 - g.mbits) g.lsb
    let r := (roundInt m (e - q)).1
    -- r × 2^q above the greatest finite value overflows
    let beyond := if g.maxE ≤ q then decide (g.maxM < r <<< (q - g.maxE).toNat) else decide (g.maxM <<< (g.maxE - q).toNat < r)
    let big := (g.maxE - g.lsb).toNat * 2 ^ g.mbits + g.maxM
    if beyond then sign + (if g.infs && !sat then (2 ^ g.ebits - 1) * 2 ^ g.mbits else big)
    else sign + (q - g.lsb).toNat * 2 ^ g.mbits + r

/-- The least and the greatest integer of an integer format. -/
def intLo (f : Nat) : Int := if isUnsignedFmt f then 0 else -(2 ^ (fmtBits f - 1) : Int)
def intHi (f : Nat) : Int := if isUnsignedFmt f then 2 ^ fmtBits f - 1 else 2 ^ (fmtBits f - 1) - 1

/-- The code of an integer in an integer format, modulo its width. -/
def intCode (f : Nat) (i : Int) : Nat := (i % (2 ^ fmtBits f : Int)).toNat

/-- The integer that a code of an integer format stands for. -/
def intOf (f : Nat) (c : Nat) : Int :=
  let w := fmtBits f
  let c := c % 2 ^ w
  if isUnsignedFmt f || c < 2 ^ (w - 1) then c else (c : Int) - 2 ^ w

/-- An integer saturated to the range of a format. -/
def intSat (f : Nat) (i : Int) : Int := if i < intLo f then intLo f else if intHi f < i then intHi f else i

/-- A value as a signed integer times a power of two. -/
def sgn (neg : Bool) (m : Nat) : Int := if neg then -(m : Int) else m

/-- Conversion of an exact value to a destination format (Table ARITH-8). -/
def fmtRound (f : Nat) (sat : Bool) (v : FV) : Nat :=
  match floatFmt f with
  | some g =>
    match v with
    | .nan => g.nan
    | .inf neg => (if neg then 2 ^ (g.ebits + g.mbits) else 0) +
        (if g.infs then (2 ^ g.ebits - 1) * 2 ^ g.mbits else (g.maxE - g.lsb).toNat * 2 ^ g.mbits + g.maxM)
    | .fin neg m e => g.round sat neg m e
  | none =>
    match v with
    | .nan => 0
    | .inf neg => intCode f (if neg then intLo f else intHi f)
    | .fin neg m e => intCode f (intSat f (sgn neg (roundInt m e).1))

/-- The value of an element code of a format without blocks. -/
def fmtValue (f c : Nat) : FV :=
  match floatFmt f with
  | some g => g.decode c
  | none =>
    let i := intOf f c
    .fin (decide (i < 0)) i.natAbs 0

/-! ### Exact operations with the special values of IEEE 754-2019 -/

def FV.neg? : FV → Bool
  | .nan => false
  | .inf n => n
  | .fin n _ _ => n

def FV.isZero : FV → Bool
  | .fin _ 0 _ => true
  | _ => false

def FV.isNan : FV → Bool
  | .nan => true
  | _ => false

/-- Not a NaN and not an infinity. -/
def FV.finite : FV → Bool
  | .fin _ _ _ => true
  | _ => false

def FV.negate : FV → FV
  | .nan => .nan
  | .inf n => .inf (!n)
  | .fin n m e => .fin (!n) m e

def FV.abs : FV → FV
  | .nan => .nan
  | .inf _ => .inf false
  | .fin _ m e => .fin false m e

/-- The exact product. -/
def FV.mul (x y : FV) : FV :=
  match x, y with
  | .nan, _ => .nan
  | _, .nan => .nan
  | .inf a, .inf b => .inf (a != b)
  | .inf a, .fin b m _ => if m = 0 then .nan else .inf (a != b)
  | .fin a m _, .inf b => if m = 0 then .nan else .inf (a != b)
  | .fin a m e, .fin b n k => .fin (a != b) (m * n) (e + k)

/-- The exact sum; a sum of zero is +0 unless both terms are −0. -/
def FV.add (x y : FV) : FV :=
  match x, y with
  | .nan, _ => .nan
  | _, .nan => .nan
  | .inf a, .inf b => if a = b then .inf a else .nan
  | .inf a, _ => .inf a
  | _, .inf b => .inf b
  | .fin a m e, .fin b n k =>
    if m = 0 && n = 0 then .fin (a && b) 0 0
    else
      let q := min e k
      let i := sgn a (m <<< (e - q).toNat) + sgn b (n <<< (k - q).toNat)
      .fin (decide (i < 0)) i.natAbs q

/-- A quotient with its sign, to within a last bit that marks what lies below it: enough for one rounding to any format. -/
def FV.div (x y : FV) : FV :=
  match x, y with
  | .nan, _ => .nan
  | _, .nan => .nan
  | .inf _, .inf _ => .nan
  | .inf a, .fin b _ _ => .inf (a != b)
  | .fin a _ _, .inf b => .fin (a != b) 0 0
  | .fin a m e, .fin b n k =>
    if n = 0 then (if m = 0 then .nan else .inf (a != b))
    else
      let sh := 64 + bitLen n
      let q := (m <<< sh) / n
      let r := (m <<< sh) % n
      .fin (a != b) (2 * q + if r = 0 then 0 else 1) (e - k - sh - 1)

/-- The integer square root by bits: `i` bits of the root are still to find. -/
def isqrtFrom (n : Nat) : Nat → Nat → Nat
  | 0, r => r
  | i + 1, r => let t := r + 2 ^ i; isqrtFrom n i (if t * t ≤ n then t else r)

/-- The integer square root, rounded down. -/
def isqrt (n : Nat) : Nat := isqrtFrom n (bitLen n / 2 + 1) 0

/-- A square root to within a last bit that marks what lies below it. -/
def FV.sqrt (x : FV) : FV :=
  match x with
  | .nan => .nan
  | .inf a => if a then .nan else .inf false
  | .fin a m e =>
    if m = 0 then .fin a 0 0
    else if a then .nan
    else
      -- an even exponent, and a significand of at least 128 bits
      let m1 := (if e % 2 = 0 then m else 2 * m) <<< 128
      let e1 := (if e % 2 = 0 then e else e - 1) - 128
      let r := isqrt m1
      .fin false (2 * r + if r * r = m1 then 0 else 1) (e1 / 2 - 1)

/-- The order of two numbers, −0 below +0 (R151); none where one is NaN. -/
def FV.lt (x y : FV) : Option Bool :=
  match x, y with
  | .nan, _ => none
  | _, .nan => none
  | .inf a, .inf b => some (a && !b)
  | .inf a, _ => some a
  | _, .inf b => some (!b)
  | .fin a m e, .fin b n k =>
    if m = 0 && n = 0 then some (a && !b)
    else
      let q := min e k
      some (decide (sgn a (m <<< (e - q).toNat) < sgn b (n <<< (k - q).toNat)))

/-- The lesser or the greater of two values: the one that is not NaN when exactly one is (R151). -/
def FV.minMax (max? : Bool) (x y : FV) : FV :=
  match x, y with
  | .nan, _ => y
  | _, .nan => x
  | _, _ => match x.lt y with
    | some b => if b != max? then x else y
    | none => .nan

/-- Rounded to FP32 (R147, R148). -/
def FV.fp32 (v : FV) : FV := fmtValue fmtFP32 (fmtRound fmtFP32 false v)

/-! ### Microscaling blocks (R138, R150) -/

/-- An element of a block with its scale byte. -/
def mxValue (elem scale c : Nat) : FV :=
  if scale % 256 = 255 then .nan
  else (fmtValue elem c).mul (.fin false 1 ((scale % 256 : Nat) - 127))

/-- The exponent that is left for the greatest element of a block. -/
def mxEmax (elem : Nat) : Int := if elem = fmtE4M3 then 8 else if elem = fmtE5M2 then 15 else 2

/-- floor(log2 |v|) of a non-zero finite value. -/
def FV.expo : FV → Int
  | .fin _ m e => e + (bitLen m : Int) - 1
  | _ => 0

/-- One block written in a microscaling format (R150): scale byte and element codes. -/
def mxBlock (elem : Nat) (vs : List FV) : Nat × List Nat :=
  if vs.any (fun v => !v.finite) then (255, vs.map (fun _ => 0))
  else if vs.all FV.isZero then (0, vs.map (fun _ => 0))
  else
    let top := (vs.filter (fun v => !v.isZero)).foldl (fun a v => max a v.expo) (-100000)
    let x := max (-127) (min 127 (top - mxEmax elem))
    ((x + 127).toNat, vs.map (fun v => fmtRound elem true (v.mul (.fin false 1 (-x)))))

/-- A list in blocks of 32. -/
def blocksOf32 {α : Type} : Nat → List α → List (List α)
  | 0, _ => []
  | n + 1, l => if l.isEmpty then [] else l.take 32 :: blocksOf32 n (l.drop 32)

/-- Values written in a microscaling format: scale bytes, element codes. -/
def mxWrite (f : Nat) (vs : List FV) : List Nat × List Nat :=
  let bs := (blocksOf32 vs.length vs).map (mxBlock (mxElem f))
  (bs.map (fun b => b.1), bs.flatMap (fun b => b.2))

/-! ### Elements as bytes -/

/-- Codes of 4 bits packed two in a byte, the even one low (R136). -/
def packNibbles : List Nat → List Byte
  | [] => []
  | [a] => [BitVec.ofNat 8 (a % 16)]
  | a :: b :: t => BitVec.ofNat 8 (a % 16 + 16 * (b % 16)) :: packNibbles t

/-- Codes of a format as the bytes of a tensor. -/
def codesBytes (f : Nat) (cs : List Nat) : List Byte :=
  if fmtBits f = 4 then packNibbles cs
  else cs.flatMap (fun c => (List.range (fmtBits f / 8)).map (fun i => BitVec.ofNat 8 (c >>> (8 * i))))

/-- The bytes of `n` elements of a format. -/
def fmtSize (f n : Nat) : Nat := (fmtBits f * n + 7) / 8

end Sys2Proof.Machine
end

