-- ==== Sys2Proof/Machine/Descriptors.lean ====
section
/-! DEFINITION. The 128-bit words of a route sheet (R156, Tables ARITH-13, ARITH-15) and the 64-byte descriptors that some of them name
(Tables CONV-9, CONV-11, IRR-2, KV-7, INTEG-5), as numbers: fields, limits and ticks. What a load checks of them stands in Load.lean, what
they do in the files of their groups. -/

namespace Sys2Proof.Machine

/-! ### Fields (Table ARITH-13) -/

/-- Bits `[lo + width - 1 : lo]` of a word. -/
def wField (w : BitVec 128) (lo width : Nat) : Nat := (w.toNat >>> lo) % 2 ^ width

def wClass (w : BitVec 128) : Nat := wField w 124 4
def wUnit (w : BitVec 128) : Nat := wField w 120 3
def wOp (w : BitVec 128) : Nat := wField w 112 8
def wFmtA (w : BitVec 128) : Nat := wField w 108 4
def wFmtB (w : BitVec 128) : Nat := wField w 104 4
def wFmtD (w : BitVec 128) : Nat := wField w 100 4
def wSat (w : BitVec 128) : Bool := wField w 97 1 == 1
def wWait (w : BitVec 128) : Nat := wField w 88 8
def wSignal (w : BitVec 128) : Nat := wField w 80 8
def wSrcA (w : BitVec 128) : Nat := wField w 62 18
def wSrcB (w : BitVec 128) : Nat := wField w 44 18
def wDst (w : BitVec 128) : Nat := wField w 26 18
def wImm10 (w : BitVec 128) : Nat := wField w 16 10

/-- The count field, where 0 stands for 65,536. -/
def wCount (w : BitVec 128) : Nat := if wField w 0 16 = 0 then 65536 else wField w 0 16

def wRd (w : BitVec 128) : Nat := wField w 74 6
def wRs1 (w : BitVec 128) : Nat := wField w 68 6
def wRs2 (w : BitVec 128) : Nat := wField w 62 6
def wBody (w : BitVec 128) : Nat := wField w 32 16
def wImm32 (w : BitVec 128) : Nat := wField w 0 32

/-- The bits that are reserved in every word, and mode.round, which must be nearest even. -/
def wCommon (w : BitVec 128) : Bool := wField w 96 1 == 0 && wField w 98 2 == 0

/-- Sequencer groups (Table ARITH-15). -/
def grpMATRIX : Nat := 0
def grpVECTOR : Nat := 1
def grpSCALAR : Nat := 2
def grpTRANSFER : Nat := 3

/-- The operand field names a vector register. -/
def isReg (field : Nat) : Bool := field.testBit 17

/-! ### Formats of operations -/

/-- The 8-bit and 4-bit formats of the anchored group, and the 16-bit ones. -/
def isEight (f : Nat) : Bool := [fmtI8, fmtE4M3, fmtE5M2, fmtMX8E4, fmtMX8E5].contains f
def isFour (f : Nat) : Bool := f = fmtI4 || f = fmtMX4
def isWide (f : Nat) : Bool := f = fmtBF16 || f = fmtFP16

/-- K of an operand pairing, where Table ARITH-3 lists it. -/
def pairK (a b : Nat) : Option Nat :=
  if isFour a && isFour b then some 256
  else if (isEight a || isFour a) && (isEight b || isFour b) then some 128
  else if isWide a && a = b then some 32
  else none

/-- Rows `r` to `r + n - 1` lie in the bank. -/
def inBank (r n : Nat) : Bool := r + n ≤ 256

/-- The floating-point formats that the vector engines compute in. -/
def isVecFloat (f : Nat) : Bool := f = fmtFP32 || f = fmtBF16 || f = fmtFP16

/-- The integer formats that the vector engines compute in. -/
def isVecInt (f : Nat) : Bool := [fmtI4, fmtI8, fmtI16, fmtI32].contains f

/-- Formats of one kind, each in a list. -/
def sameKind (allowed fs : List Nat) : Bool :=
  fs.all (fun f => allowed.contains f) && (fs.all isVecFloat || fs.all isVecInt)

/-- Arithmetic formats of VADD, VSUB and VMUL, of VDIV, and of the operations on all or all integer formats. ACC80 is none of "all": it is what
accumulators hold, and VCVT and VASUM alone take it (DEDUCED). -/
def arithFmts : List Nat := [fmtFP32, fmtBF16, fmtFP16, fmtI32, fmtI16, fmtI8]
def divFmts : List Nat := [fmtFP32, fmtBF16, fmtFP16, fmtI32, fmtI16]
def allFmts : List Nat := [fmtFP32, fmtBF16, fmtFP16, fmtI32, fmtI16, fmtI8, fmtI4]
def floatFmts : List Nat := [fmtFP32, fmtBF16, fmtFP16]
def intFmts : List Nat := [fmtI32, fmtI16, fmtI8, fmtI4]

/-- Bits `[lo + n - 1 : lo]` of byte `o` of a record. -/
def nib (r : List Byte) (o lo n : Nat) : Nat := recField r o 1 / 2 ^ lo % 2 ^ n

/-- A number of bytes padded to whole 64-byte units. -/
def pad64 (n : Nat) : Nat := (n + 63) / 64 * 64

/-- A word that names only a descriptor (R189, R398): bit 17 of its location is 0, and bits [61:0] are reserved. -/
def descWord (w : BitVec 128) : Bool := wUnit w == 0 && !isReg (wSrcA w) && wField w 0 62 == 0

/-! ### Legal words (R155 to R159, Tables ARITH-10 to ARITH-13, ARITH-15) -/

/-- K of the tile that MLOAD loads: that of its pairing, or that of B's format where the word names no format of A. -/
def tileK (a b : Nat) : Option Nat :=
  if a = fmtNONE then (if isWide b then some 32 else if isFour b then some 256 else if isEight b then some 128 else none)
  else pairK a b

/-- Class MATRIX (Table ARITH-10; R139). -/
def matrixLegal (w : BitVec 128) : Bool :=
  wUnit w == 0 &&
    (if wOp w = 1 then (tileK (wFmtA w) (wFmtB w)).isSome
     else if wOp w = 2 then true
     else wOp w == 3 && (pairK (wFmtA w) (wFmtB w)).isSome && inBank (wDst w) (wCount w))

/-- Class ACC (Table ARITH-10). -/
def accLegal (w : BitVec 128) : Bool :=
  wUnit w == 0 &&
    (if wOp w = 1 then (wFmtD w == fmtACC80 || wFmtD w == fmtFP32) && inBank (wDst w) (wCount w)
     else if wOp w = 2 then wFmtA w == fmtFP32 || wFmtA w == fmtACC80
     else if wOp w = 3 then wFmtA w == fmtFP32 || wFmtA w == fmtNONE
     else if wOp w = 4 then wFmtD w != fmtNONE && inBank (wSrcA w) (wCount w)
     else if wOp w = 5 then inBank (wSrcA w) (wCount w)
     else wOp w == 6 && inBank (wDst w) (wCount w))

/-- Class VECTOR (Table ARITH-11). The formats "all" are those that the vector engines compute in: U8 and U16 belong to edge engines and
conversions (Table ARITH-1), and FP8 and MX to the matrix engine and conversions (R151). -/
def vectorLegal (w : BitVec 128) : Bool :=
  let (a, b, d, i) := (wFmtA w, wFmtB w, wFmtD w, wImm10 w)
  let ints := intFmts.contains a && b == a && d == a
  wUnit w ≤ 2 && (match wOp w with
    | 0x01 | 0x02 | 0x03 => sameKind arithFmts [a, b, d]
    | 0x04 => sameKind floatFmts [a, b, d]
    | 0x05 => sameKind divFmts [a, b, d]
    | 0x06 | 0x07 => sameKind allFmts [a, b, d]
    | 0x08 | 0x09 => sameKind allFmts [a, d]
    | 0x0A => sameKind allFmts [a, b] && d != fmtNONE
    | 0x0B => allFmts.contains a && b == a && d == a
    | 0x0C => a != fmtNONE && d != fmtNONE
    | 0x0D => ints && i ≤ 3
    | 0x0E => ints && i ≤ 2
    | 0x0F => ints && i ≤ 1
    | 0x10 => sameKind floatFmts [a, d] && 1 ≤ i && i ≤ 0x0E
    | 0x11 => sameKind allFmts [a, d] && i ≤ 2
    | 0x12 => (a == fmtFP32 || a == fmtACC80) && (d == fmtFP32 || d == fmtACC80)
    | 0x13 => allFmts.contains a && d == a
    | _ => false)

/-- Classes SCALAR, LOOP and SYNC (Table ARITH-12): units 0 to 3, bits [61:48] reserved. FCVT names FP32, I32, or 0x0 for I64, which has no
code; FADD to FSQRT name FP32, or 0x0 since they take nothing else; the operations on 64-bit registers name no format (DEDUCED). RDV carries the
variable mark (R159). -/
def scalarLegal (w : BitVec 128) : Bool :=
  let int := fun f => f == fmtI32 || f == fmtNONE
  let fmts := fun (ok : Nat → Bool) => ok (wFmtA w) && ok (wFmtB w) && ok (wFmtD w)
  let none_ := fmts (fun f => f == fmtNONE)
  wUnit w ≤ 3 && wField w 48 14 == 0 &&
    (if wClass w = 6 then wOp w == 1 && none_
     else if wClass w = 7 then (wOp w == 1 || wOp w == 2) && none_
     else if wOp w = 0x16 then (wFmtA w == fmtFP32 && int (wFmtD w)) || (int (wFmtA w) && wFmtD w == fmtFP32)
     else if wOp w = 0x20 then wField w 123 1 == 1 && 1 ≤ wImm32 w % 256 && wImm32 w % 256 ≤ 7 && none_
     else if 0x10 ≤ wOp w && wOp w ≤ 0x15 then fmts (fun f => f == fmtFP32 || f == fmtNONE)
     else 1 ≤ wOp w && wOp w ≤ 0x0F && none_)

/-- The unit field of a NOP is one that its group has (Table ARITH-13). -/
def nopUnit (group : Nat) (w : BitVec 128) : Bool :=
  wClass w != 0 || wUnit w ≤ (if group = grpVECTOR then 2 else if group = grpSCALAR then 3 else 0)

/-- An IRREG word (R192). -/
def irregLegal (w : BitVec 128) : Bool :=
  wUnit w == 2 && !isReg (wSrcA w) && wField w 0 62 == 0 && wField w 100 12 == 0 && 1 ≤ wOp w && wOp w ≤ 0x0C

/-- A TRANSFER word: spaces 5 to 7 do not exist (Table ARITH-13). Table ARITH-12 gives the class no operations, so its op is not looked
at. -/
def transferLegal (w : BitVec 128) : Bool := wUnit w == 0 && wField w 77 3 ≤ 4 && wField w 45 3 ≤ 4

/-- The word is legal: its class and operation are defined, its formats are those the operation accepts, and its reserved bits are 0
(R156, R157). -/
def wordLegal (w : BitVec 128) : Bool :=
  wCommon w && (match wClass w with
    | 0 => true
    | 1 => matrixLegal w
    | 2 => accLegal w
    | 3 => vectorLegal w
    | 4 => irregLegal w
    | 5 | 6 | 7 => scalarLegal w
    | 8 => transferLegal w
    | 9 | 10 | 11 => descWord w && wOp w == 1
    | 12 => descWord w && wField w 100 12 == 0 && 1 ≤ wOp w && wOp w ≤ 5
    | _ => false)

/-- The sequencer group of a class (Table ARITH-15); none for NOP, which any group takes. -/
def classGroup (k : Nat) : Option Nat :=
  if k = 0 then none else if k ≤ 2 then some grpMATRIX else if k ≤ 4 then some grpVECTOR else if k ≤ 7 then some grpSCALAR
  else some grpTRANSFER

/-! ### Descriptors -/

/-- Algorithms of Table INTEG-5. -/
def algCRC32C : Nat := 1
def algCRC64 : Nat := 2
def algSHA3 : Nat := 3

/-- Call kinds. -/
def callEDGE : Nat := 1
def callPOST : Nat := 2
def callWALK : Nat := 3
def callIRREG : Nat := 4
def callCHECK : Nat := 5

/-- An edge descriptor as numbers. -/
structure EdgeDesc where
  first : Bool
  layout : Nat
  fin : Nat
  fw : Nat
  fout : Nat
  bias : Bool
  scale : Bool
  pad : Nat
  width : Nat
  rows : Nat
  kh : Nat
  kw : Nat
  sy : Nat
  sx : Nat
  cin : Nat
  cout : Nat
  anchor : Int
  shift : Int
  value : Nat
  locs : List Nat
  inStride : Nat
  outStride : Nat
  pt : Nat
  pb : Nat
  pl : Nat
  pr : Nat
  /-- Bytes 17 and 50 to 63 are zero. -/
  zeros : Bool
  deriving DecidableEq, Repr

/-- Read an edge descriptor (Table CONV-11). -/
def edgeDesc (r : List Byte) : EdgeDesc :=
  { first := recField r 0 1 == 1, layout := recField r 1 1, fin := nib r 2 0 4, fw := nib r 2 4 4, fout := nib r 3 0 4
    bias := nib r 3 4 1 == 1, scale := nib r 3 5 1 == 1, pad := nib r 3 6 2, width := recField r 4 2, rows := recField r 6 2
    kh := nib r 8 0 4, kw := nib r 8 4 4, sy := nib r 9 0 4, sx := nib r 9 4 4, cin := recField r 10 2, cout := recField r 12 2
    anchor := toSigned 10 (recField r 14 2), shift := toSigned 8 (recField r 16 1), value := recField r 18 2
    locs := (upTo 6).map (fun i => recField r (20 + 4 * i) 4), inStride := recField r 44 2, outStride := recField r 46 2
    pt := nib r 48 0 4, pb := nib r 48 4 4, pl := nib r 49 0 4, pr := nib r 49 4 4
    zeros := recField r 17 1 == 0 && (r.drop 50).all (fun b => b == 0) }

/-- The descriptor lies within Tables CONV-8 and CONV-11. -/
def EdgeDesc.legal (d : EdgeDesc) (mode : Nat) : Bool :=
  let space := fun i => d.locs.getD i 0 % 8
  let weights := d.fw == fmtI8 || d.fw == fmtE4M3
  let common := d.zeros && weights && d.fout != fmtNONE && 1 ≤ d.width && d.width ≤ 8192 && 1 ≤ d.rows && d.rows ≤ 1024 &&
    (upTo 6).all (fun i => space i ≤ 4)
  if mode == 1 then
    common && [fmtU8, fmtU16, fmtI8, fmtE4M3].contains d.fin && 1 ≤ d.kh && d.kh ≤ 7 && 1 ≤ d.kw && d.kw ≤ 7 && 1 ≤ d.sy &&
      d.sy ≤ 4 && 1 ≤ d.sx && d.sx ≤ 4 && 1 ≤ d.cout && d.cout ≤ 64 && d.layout ≤ 6 &&
      (if d.layout == 0 then 1 ≤ d.cin && d.cin ≤ 4 else if d.layout == 1 then d.cin == 1 else if d.layout == 6 then d.cin == 3
        else d.cin == 4 && d.width % 2 == 0) &&
      d.pt ≤ 3 && d.pb ≤ 3 && d.pl ≤ 3 && d.pr ≤ 3 && [1, 2, 3].contains (space 0)
  else if mode == 2 then
    common && [fmtI8, fmtE4M3, fmtBF16].contains d.fin && d.kh == 1 && d.kw == 1 && d.sy == 1 && d.sx == 1 && 1 ≤ d.cin &&
      d.cin ≤ 1024 && 1 ≤ d.cout && d.cout ≤ 16 && d.layout == 0 && d.pt == 0 && d.pb == 0 && d.pl == 0 && d.pr == 0 &&
      [1, 2].contains (space 0)
  else false

/-- The layout is a Bayer mosaic. -/
def EdgeDesc.bayer (d : EdgeDesc) : Bool := 2 ≤ d.layout && d.layout ≤ 5

/-- Columns of the input after unpacking. -/
def EdgeDesc.cols (d : EdgeDesc) : Nat := if d.bayer then d.width / 2 else d.width

/-- Output columns (R162): none where the kernel is wider than the padded row. -/
def EdgeDesc.outCols (d : EdgeDesc) : Nat :=
  if d.cols + d.pl + d.pr < d.kw then 0 else (d.cols + d.pl + d.pr - d.kw) / d.sx + 1

/-- Rows of the input after unpacking that the call's output rows need (R162). -/
def EdgeDesc.inRows (d : EdgeDesc) : Nat := (d.rows - 1) * d.sy + d.kh - d.pt - d.pb

/-- Ticks of the call (R185). -/
def EdgeDesc.ticks (d : EdgeDesc) : Nat := 16 + (d.rows * d.outCols * d.kh * d.kw * d.cin * d.cout + 8191) / 8192

/-- Bytes of one pixel of the input. -/
def EdgeDesc.pixelBytes (d : EdgeDesc) : Nat :=
  let b := fmtBits d.fin / 8
  if d.layout == 0 then pad64 (d.cin * b) else if d.layout == 6 then 3 * b else b

/-- Ticks of a post call (R188). -/
def postTicks (n cls m : Nat) : Nat := 64 + (n * (4 + cls) + 127) / 128 + 4 * m + (m * (m - 1) + 511) / 512

/-- A post descriptor lies within Table CONV-9. -/
def postLegal (r : List Byte) : Bool :=
  let iou := recField r 16 4
  (recField r 0 1 == 1 || recField r 0 1 == 2) && nib r 1 3 1 == 0 && (iou ≤ 0x3F800000 || iou == 0x80000000) && isVecFloat (nib r 1 4 4) && recField r 4 4 ≤ 262144 && recField r 2 2 ≤ 256 &&
    recField r 8 2 ≤ 4096 && recField r 10 2 ≤ 1024 && (upTo 4).all (fun i => recField r (32 + 4 * i) 4 % 8 ≤ 4)

/-- Ticks of the post call of a descriptor. -/
def postCallTicks (r : List Byte) : Nat := postTicks (recField r 4 4) (recField r 2 2) (recField r 8 2)

/-- An irregular descriptor as numbers: mode, value and payload format, flags, rounds, capacities, anchor, slot, fill value,
locations. -/
structure IrrDesc where
  mode : Nat
  f : Nat
  pf : Nat
  desc : Bool
  eight : Bool
  excl : Bool
  relax : Bool
  rounds : Nat
  n : Nat
  m : Nat
  e : Nat
  anchor : Int
  slot : Nat
  fill : Nat
  locs : List Nat
  deriving DecidableEq, Repr

/-- Read an irregular descriptor. -/
def irrDesc (r : List Byte) : IrrDesc :=
  { mode := recField r 0 1, f := nib r 1 0 4, pf := nib r 1 4 4, desc := nib r 2 0 1 == 1, eight := nib r 2 1 1 == 1
    excl := nib r 2 2 1 == 1, relax := nib r 2 3 1 == 1, rounds := recField r 3 1, n := recField r 4 4, m := recField r 8 4
    e := recField r 12 4, anchor := toSigned 10 (recField r 16 2), slot := recField r 18 2, fill := recField r 20 4
    locs := (upTo 8).map (fun i => recField r (24 + 4 * i) 4) }

/-- Key and value formats of R195. -/
def irrFmts : List Nat := [fmtI8, fmtI16, fmtI32, fmtBF16, fmtFP16, fmtFP32, fmtU8, fmtU16]

/-- ceil(a ÷ b). -/
def cdiv (a b : Nat) : Nat := (a + b - 1) / b

/-- ceil(log2 n). -/
def clog2 (n : Nat) : Nat := if n ≤ 1 then 0 else (n - 1).log2 + 1

/-- Ticks of a sort of `n` entries. -/
def sortTicks (n : Nat) : Nat :=
  let b := clog2 (max n 2)
  32 + cdiv n 512 * (b * (b + 1)) / 2

/-- Ticks of an irregular operation (Table IRR-1); `stripe` tells that its table stands in stripe store. -/
def irrTicks (op : Nat) (d : IrrDesc) (stripe : Bool) : Nat :=
  let lanes := if stripe then 4 else 16
  if op = 0x01 then 16 + cdiv d.n lanes
  else if op = 0x02 then 16 + 2 * cdiv d.n lanes
  else if op = 0x03 || op = 0x04 then 16 + cdiv d.n 512 * (1 + clog2 d.e) + cdiv d.m 512
  else if op = 0x05 then 16 + 2 * cdiv d.n 512
  else if op = 0x06 then sortTicks d.n
  else if op = 0x07 then 32 + cdiv (d.n + d.m) 64
  else if op = 0x08 then
    let c := clog2 (max d.m 2)
    32 + cdiv d.n 512 * (c + 1) + cdiv d.m 512 * (c * (c + 1)) / 2
  else if op = 0x09 then sortTicks d.n + 2 * cdiv d.n 512
  else if op = 0x0A then 64 + 6 * cdiv d.n 1024 + 16 * cdiv d.m 512
  else if op = 0x0B then 32 + d.rounds * (cdiv d.n 512 + cdiv d.e 128)
  else 32 + 2 * cdiv d.m 512 + cdiv d.e 64 + cdiv d.n 8192

/-- The descriptor lies within the limits of Table IRR-1, with locations in core SRAM or the own stripe store (R194, R195). -/
def IrrDesc.legal (d : IrrDesc) (op : Nat) : Bool :=
  let space := fun i => d.locs.getD i 0 % 8
  let spaces := (upTo 8).all (fun i => space i ≤ 1)
  let fmts := (irrFmts.contains d.f || op == 0x0A || op == 0x0B || (op == 0x0C && !d.relax)) && (d.pf == fmtNONE || d.pf == fmtI32)
  let n := decide (d.n ≤ 65536)
  spaces && fmts &&
    (if op == 0x01 then n && d.m ≤ 2 ^ 24
     else if op == 0x02 then n && d.m ≤ 2 ^ 24 && d.mode ≤ 4
     else if op == 0x03 then n && d.m ≤ 65536 && d.e ≤ d.n && d.mode ≤ 5
     else if op == 0x04 then n && d.m ≤ 65536 && d.e ≤ d.n
     else if op == 0x05 || op == 0x06 || op == 0x09 then n
     else if op == 0x07 then d.n + d.m ≤ 1048576 && space 0 == 1 && space 1 == 1 && space 4 == 1 &&
       (d.pf == fmtNONE || (space 2 == 1 && space 5 == 1))
     else if op == 0x08 then n && d.m ≤ 4096
     else if op == 0x0A then d.e % 65536 ≤ 8192 && d.e / 65536 ≤ 1024 && d.n == (d.e % 65536) * (d.e / 65536) && d.n ≤ 1048576 &&
       d.m ≤ 65534
     else if op == 0x0B then d.n ≤ 1048576 && d.e ≤ 2097152 && 1 ≤ d.rounds && d.rounds ≤ 64 && space 0 == 1 && space 1 == 1
     else d.m ≤ 65536 && d.e ≤ 262144 && d.n ≤ 1048576 && space 1 == 1 && space 2 == 1)

/-- What a call reads beside its descriptor: its input planes at their capacities, and the planes that it updates in place: the table of SCATTER,
and parents and bitmap or distances of EXPAND (R196). Of EXPAND's neighbours, whose number the descriptor does not name, as many as it
may examine. -/
def irrReads (op : Nat) (d : IrrDesc) (loc : Nat → Nat) : List (Nat × Nat) :=
  let w := fmtBits d.f / 8
  let pay := fun i n => if d.pf = fmtNONE then [] else [(loc i, 4 * n)]
  let count := [(loc 3, 4)]
  if op = 0x01 then count ++ [(loc 0, 4 * d.n), (loc 1, w * d.m)]
  else if op = 0x02 then count ++ [(loc 0, w * d.n), (loc 1, 4 * d.n)] ++ pay 2 d.n ++ [(loc 4, w * d.m)] ++ pay 5 d.m
  else if op = 0x03 || op = 0x04 then count ++ [(loc 0, w * d.n), (loc 1, 4 * (d.m + 1))]
  else if op = 0x05 then count ++ [(loc 0, w * d.n), (loc 2, d.n)] ++ pay 1 d.n
  else if op = 0x07 then [(loc 3, 8), (loc 0, w * d.n), (loc 1, w * d.m)] ++ pay 2 (d.n + d.m)
  else if op = 0x0A then [(loc 0, d.n)]
  else if op = 0x0B then count ++ [(loc 0, 4 * (d.n + 1)), (loc 1, 4 * d.e)]
  else if op = 0x0C then count ++ [(loc 0, 4 * d.m), (loc 1, 4 * (d.n + 1)), (loc 2, 4 * d.e), (loc 5, 4 * d.n),
    (loc 6, if d.relax then w * d.n else (d.n + 7) / 8)]
  else count ++ [(loc 0, w * d.n)] ++ pay 1 d.n

/-- A walk descriptor as numbers (Table KV-7). -/
structure WalkDesc where
  kind : Nat
  layer : Nat
  first : Nat
  count : Nat
  pages : Nat
  rate : Nat
  locs : List Nat
  deriving DecidableEq, Repr

def walkDesc (r : List Byte) : WalkDesc :=
  { kind := recField r 0 1, layer := recField r 1 1, first := recField r 2 2, count := recField r 4 2, pages := recField r 8 4
    rate := recField r 12 4, locs := (upTo 4).map (fun i => recField r (16 + 4 * i) 4) }

/-- A walk descriptor names a call and a layer (Table KV-7). -/
def WalkDesc.legal (d : WalkDesc) : Bool :=
  (d.kind == 1 || d.kind == 2) && d.layer ≤ 63 && d.locs.all (fun l => l % 8 ≤ 4)

/-- Ticks of a walk call. -/
def walkTicks (d : WalkDesc) : Nat := 32 + 2 * d.pages + cdiv (d.pages * 65536) (max d.rate 1)

/-- A check descriptor as numbers. -/
structure CheckDesc where
  alg : Nat
  start : Bool
  finish : Bool
  addrFold : Bool
  seqFold : Bool
  f : Nat
  len : Nat
  seq : Nat
  tag : Nat
  lo : Nat
  hi : Nat
  slot : Nat
  locs : List Nat
  deriving DecidableEq, Repr

/-- Read a check descriptor. -/
def checkDesc (r : List Byte) : CheckDesc :=
  { alg := recField r 0 1, start := nib r 1 0 1 == 1, finish := nib r 1 1 1 == 1, addrFold := nib r 1 2 1 == 1
    seqFold := nib r 1 3 1 == 1, f := nib r 2 0 4, len := recField r 4 4, seq := recField r 8 4, tag := recField r 12 4
    lo := recField r 16 4, hi := recField r 20 4, slot := recField r 24 2, locs := (upTo 6).map (fun i => recField r (28 + 4 * i) 4) }

/-- The descriptor lies within its limits, with locations in core SRAM or the own stripe store (R398). -/
def CheckDesc.legal (d : CheckDesc) (op : Nat) : Bool :=
  decide (d.len ≤ 8388608) && d.locs.all (fun l => l % 8 ≤ 1) &&
    (if op ≤ 3 then 1 ≤ d.alg && d.alg ≤ 3 else if op = 4 then d.f != fmtNONE && d.f != fmtACC80 else true)

/-- The ticks A of Table INTEG-4: `rest` is what the state record had unabsorbed. -/
def CheckDesc.absorbTicks (d : CheckDesc) (rest : Nat) : Nat :=
  let b := d.len + if d.start then 16 else 0
  if d.alg = algSHA3 then 8 + 3 * ((rest + b) / 136 + bit d.finish) else 8 + cdiv b 64

/-- Locations of a check descriptor, by position. -/
def locDATA : Nat := 0
def locVALUE : Nat := 1
def locOUTPUT : Nat := 2
def locSTATE : Nat := 3
def locSECOND : Nat := 4
def locSTATUS : Nat := 5

end Sys2Proof.Machine
end

