-- ==== Sys2Proof/Machine/Load.lean ====
section
/-! DEFINITION. What a load checks of the words of a PROGRAM (R139, R142, R153, R157, R159, R188, R189, R192, R194, R196, R226, R398, R443):
legal words in streams of their groups, descriptors within their limits and slots, bank rows set before they are used, the products of a
cell, calls that do not overlap, and regions. -/

namespace Sys2Proof.Machine

/-! ### Words and their descriptors -/

/-- The ticks of the call that a word starts (R185, R188, R192, R217, R398); 0 for a word that starts none. A check call's data that an
earlier call left unabsorbed counts as none. -/
def callTicks (w : BitVec 128) (r : List Byte) : Nat :=
  match wClass w with
  | 4 => let d := irrDesc r
         irrTicks (wOp w) d (d.locs.getD (if wOp w = 0x02 then 4 else 1) 0 % 8 == 1)
  | 9 => (edgeDesc r).ticks
  | 10 => walkTicks (walkDesc r)
  | 11 => postCallTicks r
  | 12 => (checkDesc r).absorbTicks 0
  | _ => 0

/-- The descriptor of a word lies within its limits (R189, R192, R194, R398); a word that names none has none. -/
def descLegal (w : BitVec 128) (r : List Byte) : Bool :=
  match wClass w with
  | 4 => r.length == 64 && (irrDesc r).legal (wOp w)
  | 9 => r.length == 64 && (edgeDesc r).legal (recField r 0 1)
  | 10 => r.length == 64 && (walkDesc r).legal
  | 11 => r.length == 64 && postLegal r
  | 12 => r.length == 64 && (checkDesc r).legal (wOp w)
  | _ => true

/-! ### Bank rows (R142, R443) -/

/-- The products that have entered the cells of a bank row since the leg set it; none where it has not. -/
abbrev RowUse := Tab Nat

/-- Rows `r` to `r + n - 1` are set, and take `k` more products each, at most 65,536 (R142, R443). -/
def useRows (u : RowUse) (r n k : Nat) : Option RowUse :=
  (upTo n).foldl (fun (a : Option RowUse) j => a.bind (fun u =>
    match tfind u (r + j) with
    | some c => if c + k ≤ 65536 then some (tput u (r + j) (c + k)) else none
    | none => none)) (some u)

/-- Rows `r` to `r + n - 1` are set, with the products that `k` gives each. -/
def setRows (u : RowUse) (r n : Nat) (k : Nat → Nat) : RowUse := (upTo n).foldl (fun u j => tput u (r + j) (k j)) u

/-- What a matrix word does to the rows, and to the products that rows saved at an address (in rows of 8,192 bytes) held; none where it breaks
R142 or R443. A bias is one term: that of a drain, and in a fold leg that of a save (R178). A row that ARESTORE takes goes on with the products
that it held at its save; one that this stream did not save counts as one term, since S saturated to the window is no more (DESIGN CHOICE). -/
def rowStep (fold : Bool) (x : RowUse × Tab Nat) (w : BitVec 128) : Option (RowUse × Tab Nat) :=
  let (u, saved) := x
  let n := wCount w
  if wClass w = 1 then
    (if wOp w = 3 then (useRows u (wDst w) n ((pairK (wFmtA w) (wFmtB w)).getD 0)).map (fun u => (u, saved)) else some x)
  else if wClass w = 2 then
    (if wOp w = 1 then some (setRows u (wDst w) n (fun _ => 0), saved)
     else if wOp w = 6 then some (setRows u (wDst w) n (fun j => tget 1 saved (wSrcA w + 128 * j)), saved)
     else if wOp w = 4 then (useRows u (wSrcA w) n (bit ((wImm10 w).testBit 0))).map (fun u => (u, saved))
     else if wOp w = 5 then (useRows u (wSrcA w) n (bit fold)).map (fun u =>
       (u, (upTo n).foldl (fun t j => tput t (wDst w + 128 * j) (max (tget 0 u (wSrcA w + j)) 1)) saved))
     else some x)
  else some x

/-- The words of a stream of a leg, a fold leg or not, keep R142 and R443. -/
def rowsOk (fold : Bool) (ws : List (BitVec 128)) : Bool :=
  (ws.foldl (fun (a : Option (RowUse × Tab Nat)) w => a.bind (fun x => rowStep fold x w)) (some ([], []))).isSome

/-! ### Tokens -/

/-- The tokens that a word waits for and those that it signals; WAITT and SIGNAL name theirs in imm32 (Table ARITH-12). -/
def waitsOn (w : BitVec 128) : Nat := wWait w ||| (if wClass w = 7 && wOp w = 1 then wImm32 w % 256 else 0)
def signalsOf (w : BitVec 128) : Nat := wSignal w ||| (if wClass w = 7 && wOp w = 2 then wImm32 w % 256 else 0)

/-- Two masks share a token. -/
def sharesToken (a b : Nat) : Bool := a &&& b != 0

end Sys2Proof.Machine

namespace Sys2Proof

open Sys2Proof.Machine

/-- The words of the leg's core at position `k`. -/
def LegCfg.wordsOf (g : LegCfg) (k : Nat) : List SheetWord := g.words.filter (fun x => x.core == k)

/-- The stream of a group of the core at position `k`. -/
def LegCfg.stream (g : LegCfg) (k group : Nat) : List SheetWord := (g.wordsOf k).filter (fun x => x.group == group)

/-- The verge slot that a token of the core at position `k` is bound to, as (space, offset). -/
def LegCfg.slotOf (g : LegCfg) (k token : Nat) : Option (Nat × Nat) :=
  (g.verges.find? (fun v => v.core == k && v.token == token)).map (fun v => (v.space, v.offset))

/-- The tokens of the core at position `k` that the tokens of `mask` on core `j` reach: the same tokens on one core, and on another those
bound to the same verge slot. -/
def LegCfg.carried (g : LegCfg) (j mask k : Nat) : Nat :=
  if j = k then mask
  else (upTo 8).foldl (fun m t => if (g.slotOf k t).isSome && (upTo 8).any (fun u => mask.testBit u && g.slotOf j u == g.slotOf k t)
    then m ||| 2 ^ t else m) 0

/-- One round of a chain of tokens: the words that wait for a token of the chain add what they signal. The chain is a mask for each core of
the leg. -/
def LegCfg.chainRound (g : LegCfg) (m : List Nat) : List Nat :=
  g.words.foldl (fun m x =>
    if sharesToken (waitsOn x.word) (m.getD x.core 0) then
      m.mapIdx (fun k v => v ||| g.carried x.core (signalsOf x.word) k) else m) m

/-- The chain of tokens that starts with what a word signals. -/
def LegCfg.chain (g : LegCfg) (x : SheetWord) : List Nat :=
  (upTo 8).foldl (fun m _ => g.chainRound m) ((upTo g.cores).map (fun k => g.carried x.core (signalsOf x.word) k))

/-- A token chain leads from word `x` to word `y`: `y`, or a word before it in its stream, waits for a token of the chain. -/
def LegCfg.follows (g : LegCfg) (x y : SheetWord) (before : List SheetWord) : Bool :=
  let m := (g.chain x).getD y.core 0
  (before ++ [y]).any (fun z => sharesToken (waitsOn z.word) m)

/-- Calls of class `k` in a stream keep apart (R192, R398): between a call and the next word of the classes `stops` stands a wait for a
token that the call's signals lead to, since the stream goes on while the call runs. -/
def LegCfg.callsApart (g : LegCfg) (k : Nat) (stops : List Nat) : List SheetWord → Bool
  | [] => true
  | x :: t =>
    (wClass x.word != k ||
      (match t.findIdx? (fun y => stops.contains (wClass y.word)) with
       | some i => (match t[i]? with | some y => g.follows x y (t.take i) | none => true)
       | none => true)) && g.callsApart k stops t

/-! ### Regions (R196) -/

/-- A region: the space, or 8 + position for a core's SRAM, and the bytes from `lo` up to `hi`. -/
structure Region where
  space : Nat
  lo : Nat
  hi : Nat
  deriving DecidableEq, Repr

/-- Two regions share a byte. -/
def Region.meets (a b : Region) : Bool := a.space == b.space && a.lo < b.hi && b.lo < a.hi

/-- What is left of a region outside another. -/
def Region.minus (a b : Region) : List Region :=
  if a.meets b then
    (if a.lo < b.lo then [{ a with hi := b.lo }] else []) ++ (if b.hi < a.hi then [{ a with lo := b.hi }] else [])
  else [a]

end Sys2Proof

namespace Sys2Proof.Machine

/-- A region of a space as a core names it, in bytes; a space of 0 is the core's own SRAM. -/
def regionAt (k space off n : Nat) : Region :=
  { space := if space = 0 then 8 + k else space, lo := off, hi := off + n }

/-- The region of an operand field, in bytes; a vector register is no region. -/
def fieldRegion (k field n : Nat) : List Region := if isReg field then [] else [regionAt k 0 (64 * field) n]

/-- The region of a location field (Table CONV-9). -/
def locRegion (k loc n : Nat) : Region := regionAt k (loc % 8) (64 * (loc / 8 % 2 ^ 29)) n

/-- Bytes of `n` elements with the scale plane of a microscaling format after them. -/
def tensorSize (f n : Nat) : Nat := fmtSize f n + if isMxFmt f then (n + 31) / 32 else 0

/-- Bytes of a row of A as an MMA steps over it (R165): imm10 gives it in 64-byte units, 0 standing for K elements; the word has no other
field for it (DESIGN CHOICE). -/
def rowBytes (w : BitVec 128) (k : Nat) : Nat :=
  if wImm10 w = 0 then pad64 (fmtSize (wFmtA w) k) else 64 * wImm10 w

/-- Two operands, and the old destination, are read by these operations of class VECTOR. -/
def vectorTwo (op : Nat) : Bool := op ≤ 7 || op == 0x0A || op == 0x0B || (0x0D ≤ op && op ≤ 0x0F)
def vectorOld (op : Nat) : Bool := op == 4 || op == 0x0B

/-- Lanes that an operation of class VECTOR writes for `n` lanes read. -/
def vectorOut (op n : Nat) : Nat := if op = 0x11 || op = 0x12 then 1 else n

/-- The planes that an irregular call writes (Table IRR-1): location and bytes. -/
def irrWrites (op : Nat) (d : IrrDesc) : List (Nat × Nat) :=
  let w := fmtBits d.f / 8
  let pay := fun n => if d.pf = fmtNONE then [] else [(5, 4 * n)]
  (if op = 0x01 then [(4, w * d.n), (3, 4)]
   else if op = 0x02 then (4, w * d.m) :: pay d.m
   else if op = 0x03 then [(4, 4 * d.m), (3, 4)]
   else if op = 0x04 then [(4, w * d.n), (3, 4)]
   else if op = 0x05 || op = 0x06 then [(4, w * d.n), (3, 4)] ++ pay d.n
   else if op = 0x07 then [(4, w * (d.n + d.m)), (3, 4)] ++ pay (d.n + d.m)
   else if op = 0x08 then [(4, w * d.m), (3, 4)] ++ pay d.m
   else if op = 0x09 then let c := if d.m = 0 then d.n else d.m
                          [(4, w * c), (5, 4 * c), (6, 4 * c), (3, 4)]
   else if op = 0x0A then [(4, 2 * d.n), (5, 32 * d.m), (3, 4)]
   else if op = 0x0B then [(4, 4 * d.n), (3, 4)]
   else [(4, pad64 (4 * d.m) + 4 * d.m), (5, 4 * d.n), (6, if d.relax then w * d.n else (d.n + 7) / 8), (3, 8)]) ++ [(7, 16)]

/-- The regions that a word of the core at position `k` reads, where the word or its descriptor names them. What LD, ST and walk calls
reach depends on registers and page tables, and is not named. -/
def wordReads (k : Nat) (w : BitVec 128) (r : List Byte) : List Region :=
  let n := wCount w
  match wClass w with
  | 1 =>
    if wOp w = 1 then
      let e := (tileK (wFmtA w) (wFmtB w)).getD 0 * 512
      fieldRegion k (wSrcB w) (fmtSize (wFmtB w) e) ++ (if isMxFmt (wFmtB w) then fieldRegion k (wSrcA w) (e / 32) else [])
    else if wOp w = 3 then
      fieldRegion k (wSrcA w) (n * rowBytes w ((pairK (wFmtA w) (wFmtB w)).getD 0))
    else []
  | 2 => if wOp w = 2 then fieldRegion k (wSrcA w) (fmtSize (wFmtA w) 512)
         else if wOp w = 3 then fieldRegion k (wSrcA w) 2048
         else if wOp w = 6 then fieldRegion k (wSrcA w) (n * 8192) else []
  | 3 => fieldRegion k (wSrcA w) (fmtSize (wFmtA w) n) ++
         (if vectorTwo (wOp w) then fieldRegion k (wSrcB w) (fmtSize (wFmtB w) n) else []) ++
         (if vectorOld (wOp w) then fieldRegion k (wDst w) (fmtSize (wFmtD w) n) else [])
  | 4 => let d := irrDesc r
         (irrReads (wOp w) d (fun i => i)).map (fun e => locRegion k (d.locs.getD e.1 0) e.2)
  | 8 => [regionAt k (wField w 77 3) (64 * wField w 48 29) (64 * n)]
  | 9 => let d := edgeDesc r
         [locRegion k (d.locs.getD 0 0) (64 * d.inStride * (if d.bayer then 2 * d.inRows else d.inRows)),
          locRegion k (d.locs.getD 1 0) (d.kh * d.kw * d.cin * d.cout)] ++
         (if d.bias then [locRegion k (d.locs.getD 2 0) (4 * d.cout)] else []) ++
         (if d.scale then [locRegion k (d.locs.getD 3 0) (4 * d.cout)] else [])
  | 11 => let e := fmtBits (nib r 1 4 4) / 8
          let m := recField r 4 4
          [locRegion k (recField r 32 4) (m * recField r 2 2 * e), locRegion k (recField r 36 4) (m * 4 * e),
           locRegion k (recField r 40 4) (m * (if recField r 0 1 = 1 then 16 else 12))]
  | 12 => let d := checkDesc r
          [locRegion k (d.locs.getD locDATA 0) d.len]
  | _ => []

/-- The regions that a word of the core at position `k` writes, where the word or its descriptor names them. -/
def wordWrites (k : Nat) (w : BitVec 128) (r : List Byte) : List Region :=
  let n := wCount w
  match wClass w with
  | 2 => if wOp w = 4 then fieldRegion k (wDst w) (tensorSize (wFmtD w) (n * 512)) ++ fieldRegion k (wSrcB w) 16
         else if wOp w = 5 then fieldRegion k (wDst w) (n * 8192) else []
  | 3 => fieldRegion k (wDst w) (tensorSize (wFmtD w) (vectorOut (wOp w) n))
  | 4 => let d := irrDesc r
         (irrWrites (wOp w) d).map (fun e => locRegion k (d.locs.getD e.1 0) e.2)
  | 8 => [regionAt k (wField w 45 3) (64 * wField w 16 29) (64 * n)]
  | 9 => let d := edgeDesc r
         [locRegion k (d.locs.getD 4 0) (64 * d.outStride * d.rows), locRegion k (d.locs.getD 5 0) 16]
  | 10 => let d := walkDesc r
          (if d.kind = 1 then [locRegion k (d.locs.getD 1 0) (32768 * d.pages), locRegion k (d.locs.getD 2 0) (32768 * d.pages)] else []) ++
            [locRegion k (d.locs.getD 3 0) 16]
  | 11 => [locRegion k (recField r 44 4) (32 + 32 * recField r 10 2)]
  | 12 => let d := checkDesc r
          (if wOp w ≤ 2 then [] else [locRegion k (d.locs.getD locOUTPUT 0) (if wOp w = 3 then d.len else 0)]) ++
            [locRegion k (d.locs.getD locSTATUS 0) 16]
  | _ => []

end Sys2Proof.Machine

namespace Sys2Proof

open Sys2Proof.Machine

def SheetWord.reads (x : SheetWord) : List Region := wordReads x.core x.word x.desc
def SheetWord.writes (x : SheetWord) : List Region := wordWrites x.core x.word x.desc

/-- A leg never writes what held an input of its own when it started (R196): going through its words, `ins` is what has been read before
the leg wrote it, and `outs` what it has written. -/
def inputsKept : List SheetWord → List Region → List Region → Bool
  | [], _, _ => true
  | x :: t, ins, outs =>
    let fresh := outs.foldl (fun l o => l.flatMap (fun a => a.minus o)) x.reads
    let ins := ins ++ fresh
    x.writes.all (fun o => ins.all (fun a => !o.meets a)) && inputsKept t ins (outs ++ x.writes)

/-- Two words on different cores whose outputs share a byte are joined by a token chain (R196). Words of one leg at two positions run on two
cores; on which cores the legs of a program run, the builder decides in each period (R234), so that a load knows of no other pair. -/
def LegCfg.outputsJoined (g : LegCfg) : Bool :=
  g.words.all (fun x => g.words.all (fun y => !(x.core < y.core) || x.writes.all (fun a => y.writes.all (fun b => !a.meets b)) ||
    g.follows x y (((g.stream y.core y.group).takeWhile (fun z => z != y))) ||
    g.follows y x (((g.stream x.core x.group).takeWhile (fun z => z != x)))))

/-- The engine slot kind of a class: 1 EDGE, 2 WALK, 3 POST (Table ROUTE-8). -/
def slotKind (k : Nat) : Option Nat := if k = 9 then some 1 else if k = 10 then some 2 else if k = 11 then some 3 else none

/-- The calls of each engine kind fit the leg's slots of that kind, one call for one slot in their order, on every core (R188, R189). -/
def LegCfg.slotsHold (g : LegCfg) : Bool :=
  (upTo g.cores).all (fun k => (upTo 3).all (fun e =>
    let calls := (g.wordsOf k).filter (fun x => slotKind (wClass x.word) == some (e + 1))
    let slots := g.engines.filter (fun t => t.1 == e + 1 && t.2.2.2 == k)
    calls.length ≤ slots.length && (calls.zip slots).all (fun c => callTicks c.1.word c.1.desc ≤ c.2.2.2.1)))

/-- The tokens of the leg keep apart (R226): no core binds one token to two verge slots, and its words use no token outside its mask. -/
def LegCfg.tokensApart (g : LegCfg) : Bool :=
  (g.verges.all (fun v => (g.verges.filter (fun u => u.core == v.core && u.token == v.token)).length == 1 && 4 ≤ v.token && v.token < 8 &&
    g.tokens.testBit v.token)) &&
    g.words.all (fun x => (waitsOn x.word ||| signalsOf x.word) ||| g.tokens == g.tokens)

/-- A word is one that the leg may hold: legal, in a stream of its group that the leg declares, with a legal descriptor, and, where it is a
VFUNC, with a function of the loaded table (R153, R157). -/
def LegCfg.wordOk (g : LegCfg) (functions : List Nat) (x : SheetWord) : Bool :=
  wordLegal x.word && nopUnit x.group x.word && (classGroup (wClass x.word)).all (fun k => k == x.group) && x.group < 4 && g.groups.testBit x.group &&
    x.core < g.cores && descLegal x.word x.desc &&
    (wClass x.word != 3 || wOp x.word != 0x10 || functions.contains (wImm10 x.word))

/-- The words of a leg pass the load check. -/
def LegCfg.wordsOk (g : LegCfg) (functions : List Nat) : Bool :=
  g.words.all (g.wordOk functions) && g.tokensApart && g.slotsHold && inputsKept g.words [] [] && g.outputsJoined &&
    (upTo g.cores).all (fun k =>
      rowsOk (g.kind == 2) ((g.stream k grpMATRIX).map (fun x => x.word)) && g.callsApart 4 [3, 4] (g.stream k grpVECTOR) &&
        g.callsApart 12 [12] (g.stream k grpTRANSFER))

/-- The words of every leg of a program pass the load check (R157). -/
def ProgramSec.wordsOk (g : ProgramSec) (functions : List Nat) : Bool := g.templates.all (fun t => t.legs.all (fun l => l.wordsOk functions))

/-- A TRANSFER of the program names a stripe store of die 1 (R133): a transfer between dies on a package with one. -/
def ProgramSec.namesDie1 (g : ProgramSec) : Bool :=
  g.templates.any (fun t => t.legs.any (fun l => l.words.any (fun x => wClass x.word == 8 &&
    ((wField x.word 77 3 == 4 && 4 * 524288 < wField x.word 48 29 + wCount x.word) ||
     (wField x.word 45 3 == 4 && 4 * 524288 < wField x.word 16 29 + wCount x.word)))))

/-- The TRANSFER words of the core at position `k`, in their order (Table ROUTE-8). -/
def LegCfg.transfers (g : LegCfg) (k : Nat) : List (BitVec 128) :=
  ((g.wordsOf k).map (fun x => x.word)).filter (fun w => wClass w == 8)

/-- The 8 bytes of a tap plan record (Table CONV-5). -/
def TapCfg.bytes (t : TapCfg) : List Byte :=
  leBytes 1 t.ty ++ leBytes 1 t.tx ++ leBytes 1 (t.classY + 4 * t.classX) ++ leBytes 1 t.action ++ leBytes 2 t.reachNear ++
    leBytes 2 t.reachFar

/-- A tap plan record says what the tap planner may say (R175, R176): classes and actions exist, and exactly a PAD tap is not kept. -/
def TapCfg.legal (t : TapCfg) : Bool :=
  t.classY ≤ 2 && t.classX ≤ 2 && t.action ≤ 2 && ((t.classY == 2 || t.classX == 2) || t.action == 0)

/-- Bytes 0 to 7 of a verge slot as the builder writes them before the program's first period (Table CONV-2, R172): no generation, then
producer, boundary and rows. -/
def vergeSlotBytes (producer boundary rows : Nat) : List Byte :=
  leBytes 2 0 ++ leBytes 2 0 ++ leBytes 1 producer ++ leBytes 1 boundary ++ leBytes 2 rows

end Sys2Proof
end

