-- ==== Sys2Proof/Machine/Philox.lean ====
section
/-! DEFINITION. Random draws by Philox4x32-10 and the augmentation ops of input-pipeline chains (R296, Table INGEST-5). -/

namespace Sys2Proof.Machine

/-- One round of Philox4x32. -/
def philoxRound (k : Nat × Nat) (c : Nat × Nat × Nat × Nat) : Nat × Nat × Nat × Nat :=
  let a := 0xD2511F53 * c.1
  let b := 0xCD9E8D57 * c.2.2.1
  ((b / 2 ^ 32) ^^^ c.2.1 ^^^ k.1, b % 2 ^ 32, (a / 2 ^ 32) ^^^ c.2.2.2 ^^^ k.2, a % 2 ^ 32)

/-- `n` rounds, the key stepped between them. -/
def philoxRounds : Nat → Nat × Nat → Nat × Nat × Nat × Nat → Nat × Nat × Nat × Nat
  | 0, _, c => c
  | n + 1, k, c => philoxRounds n ((k.1 + 0x9E3779B9) % 2 ^ 32, (k.2 + 0xBB67AE85) % 2 ^ 32) (philoxRound k c)

/-- The four words of one call of Philox4x32-10 under a 64-bit seed, low word first. -/
def philox (seed : Nat) (c : Nat × Nat × Nat × Nat) : List Nat :=
  let r := philoxRounds 10 (seed % 2 ^ 32, seed / 2 ^ 32 % 2 ^ 32) c
  [r.1, r.2.1, r.2.2.1, r.2.2.2]

/-- What a sample's draws depend on. -/
structure DrawKey where
  seed : Nat
  sample : Nat
  epoch : Nat
  deriving DecidableEq, Repr

/-- Draw `d` of op `op`. -/
def drawWord (k : DrawKey) (op d : Nat) : Nat := (philox k.seed (d / 4, k.sample, k.epoch, op)).getD (d % 4) 0

/-- A uniform integer in [lo, hi] from a 32-bit word. -/
def uniform (u : Nat) (lo hi : Int) : Int := lo + ((u : Int) * (hi - lo + 1)) / 4294967296

/-- The op with probability `q` in 1/65,536 applies. -/
def applies (k : DrawKey) (op : Nat) (q : Int) : Bool := ((drawWord k op 0 / 65536 : Nat) : Int) < q

/-- A U16 image in HWC order. -/
structure Img where
  w : Nat
  h : Nat
  c : Nat
  px : List Nat
  deriving DecidableEq, Repr

/-- The element at column `x`, row `y` and channel `k`. -/
def Img.at (i : Img) (x y k : Nat) : Nat := i.px.getD ((y * i.w + x) * i.c + k) 0

/-- An image from its elements. -/
def Img.of (w h c : Nat) (f : Nat → Nat → Nat → Nat) : Img :=
  { w := w, h := h, c := c
    px := (List.range h).flatMap (fun y => (List.range w).flatMap (fun x => (List.range c).map (f x y))) }

/-- Saturate to U16. -/
def satU16 (v : Int) : Nat := (max 0 (min 65535 v)).toNat

/-- Round half up of `a / 2^n`. -/
def roundShift (a : Int) (n : Nat) : Int := (2 * a + 2 ^ n) / 2 ^ (n + 1)

/-- A source coordinate of RESIZE in 16 fraction bits: (i + 0.5) × n / m − 0.5, clamped to [0, n − 1]. -/
def resizeAt (i n m : Nat) : Nat :=
  let v : Int := (2 * i + 1) * n - m
  let c := (2 * v * 65536 + 2 * m) / (4 * max m 1)
  (max 0 (min (65536 * ((n - 1 : Nat) : Int)) c)).toNat

/-- Bilinear resize. -/
def resize (i : Img) (w h : Nat) : Img :=
  Img.of w h i.c (fun x y k =>
    let cx := resizeAt x i.w w
    let cy := resizeAt y i.h h
    let (x0, fx) := (cx / 65536, cx % 65536)
    let (y0, fy) := (cy / 65536, cy % 65536)
    let (x1, y1) := (min (x0 + 1) (i.w - 1), min (y0 + 1) (i.h - 1))
    let sum := (65536 - fx) * (65536 - fy) * i.at x0 y0 k + fx * (65536 - fy) * i.at x1 y0 k +
      (65536 - fx) * fy * i.at x0 y1 k + fx * fy * i.at x1 y1 k
    (2 * sum + 2 ^ 32) / 2 ^ 33)

/-- Op codes of Table INGEST-5. -/
def opCONVERT : Nat := 0x0F

/-- One op but CONVERT, at place `op` of its chain. -/
def augment (k : DrawKey) (op : Nat) (g : ChainOpCfg) (i : Img) : Img :=
  let w := g.a.toNat
  let h := g.b.toNat
  match g.code with
  | 0x01 => if applies k op g.a then Img.of i.w i.h i.c (fun x y c => i.at (i.w - 1 - x) y c) else i
  | 0x02 => if applies k op g.a then Img.of i.w i.h i.c (fun x y c => i.at x (i.h - 1 - y) c) else i
  | 0x03 =>
    match (uniform (drawWord k op 1) 0 3).toNat with
    | 1 => Img.of i.h i.w i.c (fun x y c => i.at (i.w - 1 - y) x c)
    | 2 => Img.of i.w i.h i.c (fun x y c => i.at (i.w - 1 - x) (i.h - 1 - y) c)
    | 3 => Img.of i.h i.w i.c (fun x y c => i.at y (i.h - 1 - x) c)
    | _ => i
  | 0x04 =>
    let x0 := if i.w < w then 0 else (uniform (drawWord k op 0) 0 (i.w - w : Nat)).toNat
    let y0 := if i.h < h then 0 else (uniform (drawWord k op 1) 0 (i.h - h : Nat)).toNat
    Img.of w h i.c (fun x y c => if x0 + x < i.w && y0 + y < i.h then i.at (x0 + x) (y0 + y) c else g.c.toNat)
  | 0x05 => resize i w h
  | 0x06 =>
    if applies k op g.a then
      let d := uniform (drawWord k op 1) (-g.b) g.b
      { i with px := i.px.map (fun (v : Nat) => satU16 ((v : Int) + d)) }
    else i
  | 0x07 =>
    if applies k op g.a then
      let m := uniform (drawWord k op 1) g.b g.c
      { i with px := i.px.map (fun (v : Nat) => satU16 (roundShift (((v : Int) - 32768) * m) 14 + 32768)) }
    else i
  | 0x08 =>
    { i with px := (i.px.zip (List.range i.px.length)).map (fun e =>
        satU16 ((e.1 : Int) + uniform (drawWord k op e.2) (-g.a) g.a)) }
  | 0x09 =>
    let (cw, ch) := (g.b.toNat, g.c.toNat)
    if applies k op g.a then
      let x0 := if i.w < cw then 0 else (uniform (drawWord k op 1) 0 (i.w - cw : Nat)).toNat
      let y0 := if i.h < ch then 0 else (uniform (drawWord k op 2) 0 (i.h - ch : Nat)).toNat
      Img.of i.w i.h i.c (fun x y c =>
        if x0 ≤ x && x < x0 + cw && y0 ≤ y && y < y0 + ch then g.d.toNat else i.at x y c)
    else i
  | 0x0A =>
    if w = i.c then i
    else if w = 1 then
      Img.of i.w i.h 1 (fun x y _ => (4899 * i.at x y 0 + 9617 * i.at x y 1 + 1868 * i.at x y 2 + 8192) / 2 ^ 14)
    else Img.of i.w i.h w (fun x y _ => i.at x y 0)
  | _ => i

/-- CONVERT: (x − mean) × scale by channel, exact, rounded once to the format with saturation. -/
def convert (g : ChainOpCfg) (i : Img) : List Byte :=
  let f := g.a.toNat
  codesBytes f ((i.px.zip (List.range i.px.length)).map (fun e =>
    let c := e.2 % max i.c 1
    let mean := fmtValue fmtFP32 (g.means.getD c 0).toNat
    let scale := fmtValue fmtFP32 (g.scales.getD c 0).toNat
    fmtRound f true (((FV.fin false e.1 0).add mean.negate).mul scale)))

/-- The image after the ops from place `op` on, up to CONVERT. -/
def chainImage (k : DrawKey) : Nat → List ChainOpCfg → Img → Img
  | _, [], i => i
  | op, g :: gs, i => if g.code = opCONVERT then i else chainImage k (op + 1) gs (augment k op g i)

/-- The bytes of the tensor that the ops from place `op` on give: CONVERT writes them. -/
def runChain (k : DrawKey) (op : Nat) (ops : List ChainOpCfg) (i : Img) : List Byte :=
  match ops.find? (fun g => g.code == opCONVERT) with
  | some g => convert g (chainImage k op ops i)
  | none => codesBytes fmtU16 (chainImage k op ops i).px

/-- The shape (width, height, channels) that the first ops of a chain fix, none for a size they leave as it comes. -/
def shapeAfter : List ChainOpCfg → Option (Nat × Nat) × Option Nat → Option (Nat × Nat) × Option Nat
  | [], r => r
  | g :: gs, r => shapeAfter gs (match g.code with
    | 0x03 => (match r.1 with | some (w, h) => (if w = h then some (w, h) else none) | none => none, r.2)
    | 0x04 => (some (g.a.toNat, g.b.toNat), r.2)
    | 0x05 => (some (g.a.toNat, g.b.toNat), r.2)
    | 0x0A => (r.1, some g.a.toNat)
    | _ => r)

end Sys2Proof.Machine

namespace Sys2Proof

open Machine

/-- A shape as far as it is fixed is that of a chain's slot. -/
def ChainCfg.shapeSuits (c : ChainCfg) (r : Option (Nat × Nat) × Option Nat) : Bool :=
  (match r.1 with | some z => z == (c.width, c.height) | none => true) && (match r.2 with | some z => z == c.chans | none => true)

/-- The bytes of a chain's slot, in whole 64-byte units. -/
def ChainCfg.slotBytes (c : ChainCfg) : Nat := cdiv (fmtSize c.format (c.height * c.width * c.chans)) 64 * 64

/-- The bytes of a batch's header and slot records, in whole 64-byte units. -/
def batchHeadBytes (size : Nat) : Nat := cdiv (64 + 8 * size) 64 * 64

/-- The ring of a chain, for batches of `size` slots, lies within `pages` pages. -/
def ChainCfg.ringFits (c : ChainCfg) (size pages : Nat) : Bool :=
  c.ringOffset + c.depth * (batchHeadBytes size + size * c.slotBytes) ≤ 65536 * pages

/-- A chain keeps R291 and R296: at most 16 defined ops, the last CONVERT to a format of Table INGEST-5, the shape that its ops fix that of its slot, and
a ring of 2 to 16 batches that can lie within `pages` pages. -/
def ChainCfg.fits (c : ChainCfg) (pages : Nat) : Bool :=
  c.index ≤ 15 && 2 ≤ c.depth && c.depth ≤ 16 && c.ringFits 1 pages && c.ops.length ≤ 16 && c.shapeSuits (shapeAfter c.ops (none, none)) &&
    (c.ops.dropLast.all (fun g => 1 ≤ g.code && g.code ≤ 0x0A && (g.code != 0x0A || g.a == 1 || g.a == 3))) &&
    (match c.ops.getLast? with
    | some g => g.code == opCONVERT && g.a == (c.format : Int) && [0x2, 0x5, 0xA, 0xB, 0xC].contains c.format
    | none => false)

end Sys2Proof
end

