-- ==== Sys2Proof/Machine/Zld.lean ====
section
/-! DEFINITION. Loading an image (R46 to R66): the session, the checks of Table ZLD-7, the commit, and what waits to land. -/

namespace Sys2Proof.Machine

/-! ### The checks of Table ZLD-7 -/

/-- Session states of Table ZLD-11. -/
def zldIDLE : Nat := 0
def zldOPEN : Nat := 1
def zldFETCHING : Nat := 2
def zldVERIFIED : Nat := 3
def zldFAILED : Nat := 4

/-- Image kinds and section types (Tables ZLD-1, ZLD-2). -/
def kindFULL : Nat := 1
def kindPARTIAL : Nat := 2
def secSTRUCTURE : Nat := 1
def secTABLES : Nat := 2
def secPACE : Nat := 3
def secSAFETY : Nat := 4
def secPROGRAM : Nat := 5
def scopeMODULE : Nat := 255

/-- Why a check fails: code, directory index of the section (0xFF = header), item, and the waymark's parameters. -/
structure Failure where
  code : Nat
  section_ : Nat
  item : Nat
  params : List Nat
  deriving DecidableEq, Repr

/-- The first failure of a list of checks, each a condition that must hold and its failure. -/
def firstFailure : List (Bool × Failure) → Option Failure
  | [] => none
  | (ok, f) :: t => if ok then firstFailure t else some f

end Sys2Proof.Machine

namespace Sys2Proof

open Sys2Proof.Machine

/-- The directory index of a section. -/
def ImageFile.sectionAt (img : ImageFile) (ty scope : Nat) : Nat :=
  (img.dir.findIdx? (fun e => e.ty == ty && e.scope == scope)).getD 255

/-- The number of directory entries of a type and scope. -/
def ImageFile.count (img : ImageFile) (ty scope : Nat) : Nat :=
  (img.dir.filter (fun e => e.ty == ty && e.scope == scope)).length

/-- The sections of the directory are those that the image says: one TABLES and one PROGRAM for each entry of its partitions. -/
def ImageFile.listsMatch (img : ImageFile) : Bool :=
  (List.range 8).all (fun p =>
    img.count secTABLES p == (img.partTables.filter (fun e => e.1 == p)).length &&
      img.count secPROGRAM p == (img.programs.filter (fun e => e.1 == p)).length)

/-- The partition of a PARTIAL image. -/
def ImageFile.part (img : ImageFile) : Nat := (img.dir.head?.map (fun e => e.scope)).getD 255

end Sys2Proof

namespace Sys2Proof.Machine

/-- A header failure at byte `off`. -/
def badFormat (off : Nat) : Failure := { code := Code.ZLD_BAD_FORMAT, section_ := 255, item := off, params := [off] }

end Sys2Proof.Machine

namespace Sys2Proof

open Sys2Proof.Machine

/-- The 128 bytes of the header (Table ZLD-1). -/
def ImageHeader.bytes (h : ImageHeader) : List Byte :=
  leBytes 4 h.magic ++ leBytes 2 h.format ++ leBytes 2 h.kind ++ leBytes 2 h.package ++ leBytes 1 h.variantMask ++
    leBytes 1 h.minStepping ++ leBytes 2 h.epoch ++ leBytes 2 h.sectionCount ++ leBytes 4 h.totalLength ++ leBytes 4 h.build ++
    leBytes 8 h.buildTime ++ digestBytes512 h.baseDigest ++ h.name

/-- The 80 bytes of a directory entry (Table ZLD-2). -/
def DirEntry.bytes (e : DirEntry) : List Byte :=
  leBytes 1 e.ty ++ leBytes 1 e.scope ++ leBytes 2 e.flags ++ leBytes 4 e.offset ++ leBytes 4 e.length ++ leBytes 4 e.reserved ++
    digestBytes512 e.digest

/-- Where the directory ends, where the signer's key begins, and the bytes of the whole image (R46). -/
def ImageFile.bodyAt (img : ImageFile) : Nat := 128 + 80 * img.dir.length
def ImageFile.keyAt (img : ImageFile) : Nat := img.bodyAt + img.body.length
def ImageFile.size (img : ImageFile) : Nat := img.keyAt + img.key.length + img.signature.length

/-- The bytes of a section, without its padding. -/
def ImageFile.sectionBytes (img : ImageFile) (e : DirEntry) : List Byte := (img.body.drop (e.offset - img.bodyAt)).take e.length

/-- Where the padding of a section ends: the next 4,096-byte boundary. -/
def DirEntry.stop (e : DirEntry) : Nat := (e.offset + e.length + 4095) / 4096 * 4096

/-- The section lies at a 4,096-byte boundary between the directory and the key, apart from every other section, its flags and its
reserved bytes as Table ZLD-2 says (R46). -/
def ImageFile.entryOk (img : ImageFile) (e : DirEntry) : Bool :=
  e.flags < 2 && e.reserved == 0 && e.offset % 4096 == 0 && img.bodyAt ≤ e.offset && e.stop ≤ img.keyAt &&
    (img.dir.filter (fun f => f.offset < e.stop && e.offset < f.stop || f == e)).length == 1

/-- Every byte of the body that belongs to no section is zero: what stands before the first section, and the padding (R46). -/
def ImageFile.paddingOk (img : ImageFile) : Bool :=
  (List.range img.body.length).all (fun i => img.body.getD i 0 == 0 ||
    img.dir.any (fun e => e.offset ≤ img.bodyAt + i && img.bodyAt + i < e.offset + e.length))

/-- The bytes that the signature covers: byte 0 to the last byte of the public key (R50). -/
def ImageFile.signedBytes (img : ImageFile) : List Byte :=
  img.header.bytes ++ img.dir.flatMap DirEntry.bytes ++ img.body ++ img.key

/-- A SHA3-512 digest as a 512-bit value, its first byte lowest. Not unfolded, since it is long to compute. -/
@[irreducible] def sha512 (bs : List Byte) : BitVec 512 := BitVec.ofNat 512 (leNat (sha3_512 bs))

/-- The digests of R50 and R58: of the signer's key, of what the signature covers, and of the image. -/
def ImageFile.signer (img : ImageFile) : BitVec 512 := sha512 img.key
def ImageFile.signedDigest (img : ImageFile) : BitVec 512 := sha512 img.signedBytes
def ImageFile.digest (img : ImageFile) : BitVec 512 := sha512 (img.signedBytes ++ img.signature)

/-- The digest that what section `e` says carries, where this image says it. -/
def ImageFile.contentDigest (img : ImageFile) (e : DirEntry) : Option (BitVec 512) :=
  if e.scope == scopeMODULE then
    if e.ty == secSTRUCTURE then img.structureSec.map (fun x => x.digest) else if e.ty == secPACE then img.pace.map (fun x => x.digest)
    else if e.ty == secSAFETY then img.safety.map (fun x => x.digest)
    else if e.ty == secTABLES then img.tables.map (fun x => x.digest) else none
  else if e.ty == secTABLES then (img.partTables.find? (fun x => x.1 == e.scope)).map (fun x => x.2.digest)
  else if e.ty == secPROGRAM then (img.programs.find? (fun x => x.1 == e.scope)).map (fun x => x.2.digest)
  else none

/-- The digest of the section matches its directory entry (R50). -/
def ImageFile.digestOk (img : ImageFile) (e : DirEntry) : Bool :=
  sha512 (img.sectionBytes e) == e.digest && (match img.contentDigest e with | some d => d == e.digest | none => true)

/-- Step 1: the container's header and its layout. Table ZLD-7 names the header fields; a directory entry or padding that breaks R46 is
answered in the same step, with the byte at which the entry or the body begins (DESIGN CHOICE). -/
def ImageFile.checkFormat (img : ImageFile) (len : Nat) : Option Failure :=
  let h := img.header
  firstFailure (
    [(h.magic == 0x4C45415A, badFormat 0), (h.format == 1, badFormat 4), (h.kind == kindFULL || h.kind == kindPARTIAL, badFormat 6),
     (h.epoch ≤ 1023, badFormat 12), (1 ≤ h.sectionCount && h.sectionCount ≤ 24 && h.sectionCount == img.dir.length, badFormat 14),
     (h.totalLength == len && h.totalLength == img.size && h.totalLength ≤ (if h.kind == kindFULL then 50331648 else 4194304), badFormat 16)] ++
    (img.dir.mapIdx (fun k e => (img.entryOk e, badFormat (128 + 80 * k)))) ++ [(img.paddingOk, badFormat img.bodyAt)])

end Sys2Proof

namespace Sys2Proof.Machine

/-- Step 2: the role of the loading port (Table ZLD-6). -/
def State.mayLoad (s : State) (i : Port) (img : ImageFile) : Bool :=
  s.privileged i ||
    (img.header.kind == kindPARTIAL && (s.part img.part).defined && (s.part img.part).criticality != critSAFETY &&
      (s.part img.part).port == i.val)

/-- Step 3: package, variant and stepping. -/
def State.goodTarget (s : State) (img : ImageFile) : Bool :=
  img.header.package == 0x9640 && img.header.variantMask &&& s.variantMask != 0 &&
    img.header.minStepping ≤ Config.stepping.toNat

/-- Step 4: the signer is registered, or the commissioning key while the module is unclaimed (R50). A claimed module that cannot unwrap
its owner record knows no signer (R83). -/
def State.knownSigner (s : State) (k : BitVec 512) : Bool :=
  if s.keep.owner.isNone then k == Config.commissioningKey else s.ownerRec.any (fun o => o.signers.contains k)

/-- Items of STRUCTURE, in the order of Table ZLD-4. -/
def itemSPLIT : Nat := 0
def itemROLE : Nat := 1
def itemISLAND : Nat := 2
def itemLANE : Nat := 3
def itemCONTEXT : Nat := 4
def itemPARTITION : Nat := 5
def itemUPKEEP : Nat := 6
def itemPTP : Nat := 7
def itemNODE : Nat := 8

/-- Ports that a split creates (Table ZLD-4). -/
def portsOf (split : Nat) : Nat := match split with | 0 => 4 | 1 => 2 | 2 => 1 | _ => 0

end Sys2Proof.Machine

namespace Sys2Proof

open Sys2Proof.Machine

/-- Bit `b` of the island mask. -/
def StructureSec.island (t : StructureSec) (b : Nat) : Bool := t.islands.testBit b

/-- The partition holds logical core `c`. -/
def PartCfg.holds (q : PartCfg) (c : Nat) : Bool := q.defined && q.cores.testBit c

/-- The logical cores of a partition, in ascending order. -/
def PartCfg.coreList (q : PartCfg) : List Nat := (List.range 32).filter q.holds

end Sys2Proof

namespace Sys2Proof.Machine

/-- Pairs of indices below `n`, the first the lower. -/
def pairs (n : Nat) : List (Nat × Nat) := (List.range n).flatMap (fun j => (List.range j).map (fun i => (i, j)))

/-- Two windows of one core overlap. -/
def windowsMeet (a b : WindowCfg) : Bool :=
  a.lcore == b.lcore && a.start < b.start + b.length && b.start < a.start + a.length

end Sys2Proof.Machine

namespace Sys2Proof

open Sys2Proof.Machine

/-- The items of STRUCTURE that break R48, Table ZLD-4, R232 or R271, each with what must hold. `usable` counts the pages
that are neither absent nor retired. -/
def StructureSec.checks (t : StructureSec) (usable : Nat) (tables : TablesSec) : List (Bool × Nat) :=
  let n := portsOf t.split
  let role := fun i => t.roles.getD i 2
  let lane := fun k => t.lanes.getD k noLane
  let ctxs := t.contexts.filter (fun c => c.defined)
  let parts := t.parts.filter (fun q => q.defined)
  [(n != 0, itemSPLIT),
   (((List.range 4).filter (fun i => role i == roleOWNER)).length == 1, itemROLE),
   (((List.range 4).filter (fun i => role i == roleSERVICE)).length ≤ 1, itemROLE),
   ((List.range 4).all (fun i => i < n || role i == roleOBSERVER), itemROLE),
   ((List.range 32).all (fun b => t.island (76 + b)), itemISLAND),
   ((List.range 5).all (fun b => t.island (121 + b)), itemISLAND),
   ((List.range n).all (fun i => t.island (72 + i)), itemISLAND),
   ((List.range 8).all (fun k => (tables.channels.getD k noChan).mode == 0 || t.island (112 + k)), itemISLAND),
   ((List.range 32).all (fun k => !(lane k).enabled || (t.island k && t.island (32 + k))), itemLANE),
   ((List.range 32).all (fun k => !(lane k).enabled ||
     ((lane k).rate ≤ 2 && (lane k).channel < 16 && 1 ≤ (lane k).sensors && (lane k).sensors ≤ 8)), itemLANE),
   -- the lanes of one pipeline channel carry at most 51.2 Gb/s (R271), in units of 6.4 Gb/s
   ((List.range 16).all (fun ch => (((List.range 32).filter (fun k => (lane k).enabled && (lane k).channel == ch)).map
     (fun k => 2 ^ (lane k).rate)).foldl (· + ·) 0 ≤ 8), itemLANE),
   (ctxs.all (fun c => (lane c.lane).enabled && c.kind ≤ 2 && c.stream < 8), itemCONTEXT),
   ((pairs t.contexts.length).all (fun e => match t.contexts[e.1]?, t.contexts[e.2]? with
     | some a, some b => !(a.defined && b.defined && a.lane == b.lane && a.stream == b.stream)
     | _, _ => true), itemCONTEXT),
   ((List.range 32).all (fun k => (ctxs.filter (fun c => c.lane == k)).length ≤ (lane k).sensors), itemCONTEXT),
   (ctxs.all (fun c => (t.parts.getD c.part noPart).defined), itemCONTEXT),
   ((pairs t.parts.length).all (fun e => (List.range 32).all (fun c =>
     !((t.parts.getD e.1 noPart).holds c && (t.parts.getD e.2 noPart).holds c))), itemPARTITION),
   ((parts.map (fun q => q.bandwidth)).foldl (· + ·) 0 ≤ 1024, itemPARTITION),
   ((parts.map (fun q => q.quota)).foldl (· + ·) 0 ≤ usable, itemPARTITION),
   (parts.all (fun q => q.port < n && (role q.port == roleOWNER || role q.port == roleOPERATOR)), itemPARTITION),
   (parts.all (fun q => q.criticality ≤ 2), itemPARTITION),
   (parts.all (fun q => q.windows.all (fun w => q.holds w.lcore && w.index < 4)), itemPARTITION),
   (1 ≤ t.upkeep && t.upkeep ≤ 3, itemUPKEEP),
   (t.tcMode ≤ 2 && t.domain ≤ 127 && -7 ≤ t.logSync && t.logSync ≤ 0 && -3 ≤ t.logAnnounce && t.logAnnounce ≤ 3 &&
     t.priority1 ≤ 255 && t.priority2 ≤ 255, itemPTP),
   (t.nodeId < 2 ^ 18, itemNODE)]

/-- The PACE fields lie in their ranges (Table PACE-2, Table SCOPE-1, R333). -/
def PaceSec.inRange (p : PaceSec) : Bool :=
  800 ≤ p.ratedPace && p.ratedPace ≤ 2000 && p.ratedPace % 10 == 0 && p.ratedPace ≤ p.paceCeiling && p.paceCeiling ≤ 2000 &&
    10 ≤ p.paceStep && p.paceStep ≤ 50 && p.paceStep % 10 == 0 && 700 ≤ p.vCeiling && p.vCeiling ≤ 850 && p.vCeiling % 5 == 0 &&
    5 ≤ p.vStep && p.vStep ≤ 25 && p.vStep % 5 == 0 && 20 ≤ p.guard && p.guard ≤ 200 && 1 ≤ p.horizon && p.horizon ≤ 90 &&
    p.vStart.all (fun v => 700 ≤ v && v ≤ 850) && 10 ≤ p.periodUs && p.periodUs ≤ 10000 && p.free < 256 && 100 ≤ p.milestoneNs && p.milestoneNs ≤ 1000000

/-- Ticks of the schedule period at rated pace. -/
def PaceSec.ticks (p : PaceSec) : Nat := p.periodUs * 1000000 / max p.ratedPace 1

end Sys2Proof

namespace Sys2Proof.Machine

/-- The time slots lie in the period and do not overlap on one core (R48). -/
def slotsFit (t : StructureSec) (p : PaceSec) : Bool :=
  let ws := (t.parts.filter (fun q => q.defined)).flatMap (fun q => q.windows)
  ws.all (fun w => w.start + w.length ≤ p.ticks) &&
    (pairs ws.length).all (fun e => match ws[e.1]?, ws[e.2]? with | some a, some b => !windowsMeet a b | _, _ => true)

end Sys2Proof.Machine

namespace Sys2Proof

open Sys2Proof.Machine

/-- The SAFETY items lie in their limits (Table SAFE-10, R370, R371, R372), with test pulses of at most 400 µs (R30). -/
def SafetySec.inRange (y : SafetySec) : Bool :=
  10 ≤ y.dtiMs && y.dtiMs ≤ 1000 && 1 ≤ y.goldenLimit && y.goldenLimit ≤ 8 && y.watchdogs.length ≤ 64 &&
    2 ≤ y.frozenFrames && y.frozenFrames ≤ 64 && 1 ≤ y.recoveryS && y.recoveryS ≤ 600 &&
    250 ≤ y.heartbeatUs && y.heartbeatUs ≤ 10000 && y.goldens.all (fun g => g.pixels ≤ 131072) &&
    y.checkSets.all (fun k => 1 ≤ k.burst && k.burst ≤ 1000 && k.limits.length == 4 && k.tolerances.length == 4 &&
      k.programs.length ≤ 4 && k.weights.length ≤ 4) &&
    y.watchdogs.all (fun w => w.kind ≤ 7 && w.reaction ≤ 2) && y.inputs.all (fun i => i.function ≤ 4) &&
    y.outputs.all (fun o => o.pulseUs ≤ 400)

/-- A position channel keeps the limits of R303 and R310. -/
def ChanCfg.inRange (c : ChanCfg) : Bool :=
  c.mode ≤ 4 && c.decode ≤ 2 && c.filter ≤ 7 && (c.mode != 1 || c.decode != 2 || c.filter ≤ 3) &&
    ((c.mode != 1 && c.mode != 2) ||
      (c.vLo < c.vHi && 2000 ≤ c.window && c.window ≤ 2000000 && 200000 ≤ c.standstill && c.standstill ≤ 200000000))

/-- A divider keeps the limits of R311: a ratio from 1.0 to 65,535.0, and a pulse width from 20 ns to 1 ms. -/
def DividerCfg.inRange (g : DividerCfg) : Bool :=
  g.source ≤ 2 && g.channel < 8 && (g.source == 0 || (65536 ≤ g.ratio && g.ratio ≤ 65535 * 65536 && 4 ≤ g.width && g.width ≤ 200000))

/-- A serial channel's framing keeps R304 to R308: one position field of 10 to 32 bits among up to eight, and the time of a frame, with the acknowledge,
start and CDS bits of BiSS, and of the monoflop within the sample interval. -/
def ChanCfg.frameFits (c : ChanCfg) (framings : List FramingCfg) (milestoneNs : Nat) : Bool :=
  (c.mode != 3 && c.mode != 4) ||
    match framings[c.framing]? with
    | none => false
    | some g =>
      let bits := (g.fields.map (fun f => f.2)).foldl (· + ·) 0 + (if c.mode == 4 then 3 else 0)
      1 ≤ g.clock100k && g.clock100k ≤ 100 && 1 ≤ g.monoflopUs && g.monoflopUs ≤ 64 && g.fields.length ≤ 8 &&
        (g.fields.filter (fun f => f.1 == 1)).length == 1 && g.fields.all (fun f => 1 ≤ f.1 && f.1 ≤ 7 && (f.1 != 1 || (10 ≤ f.2 && f.2 ≤ 32))) &&
        g.tolerance ≤ 15 && 1 ≤ g.badLimit && g.badLimit ≤ 255 && 1 ≤ c.interval && c.interval ≤ 65535 &&
        bits * 10000 + g.monoflopUs * 1000 * g.clock100k ≤ c.interval * milestoneNs * g.clock100k

/-- The module TABLES hold a published function table, channels, dividers and framings in their limits, and type 2 field inputs only among 0 to 7 (R49,
R303, R305, R311, R318). -/
def TablesSec.inRange (t : TablesSec) (milestoneNs : Nat) : Bool :=
  Config.publishedVersion (BitVec.ofNat 16 t.funcVersion) &&
    (List.range 32).all (fun i => (i < 8 || (t.inputs.getD i noFieldIn).ty != 2) && (t.inputs.getD i noFieldIn).filterUs ≤ 10000) &&
    t.channels.all (fun c => c.inRange && c.frameFits t.framings milestoneNs) && t.dividers.all DividerCfg.inRange &&
    t.channels.length ≤ 8 && t.dividers.length ≤ 8

/-- A pulse program keeps Table MOT-5. -/
def PulseProgram.inRange (g : PulseProgram) : Bool :=
  1 ≤ g.steps.length && g.steps.length ≤ 8 && 1 ≤ g.maxOn && g.maxOn ≤ 10000000 &&
    g.steps.all (fun x => x.action ≤ 2 && 1 ≤ x.duration && x.duration ≤ 1000000)

/-- A partition's TABLES hold up to 64 pulse programs of Table MOT-5 (R316), and claims whose retry time lies in Table FIO-1. -/
def PartTables.inRange (t : PartTables) : Bool :=
  t.programs.all (fun e => e.1 < 64 && e.2.inRange) && (t.programs.map (fun e => e.1)).eraseDups.length == t.programs.length &&
    t.claims.all (fun c => c.retryMs == 0 || (10 ≤ c.retryMs && c.retryMs ≤ 10000))

end Sys2Proof

namespace Sys2Proof.Machine

/-- Outputs and launch queues have one claiming partition each, and no claimed PULSE output is one that a divider of `b` drives (R319, R337). -/
def claimsApart (b : TablesSec) (l : List (Nat × PartTables)) : Bool :=
  let outs := l.flatMap (fun e => e.2.claims.map (fun c => c.output))
  let driven := fun d => match b.dividers[d]? with | some g => g.source != 0 && g.pulse | none => false
  let qs := l.flatMap (fun e => e.2.launch.map (fun c => c.queue))
  (pairs outs.length).all (fun e => outs[e.1]? != outs[e.2]?) && outs.all (fun o => o < 40 && !(32 ≤ o && driven (o - 32))) && l.all (fun e => e.2.inRange) &&
    (pairs qs.length).all (fun e => qs[e.1]? != qs[e.2]?) && qs.all (fun q => q < 2)

end Sys2Proof.Machine

namespace Sys2Proof

open Sys2Proof.Machine

/-- The longest window of a partition. -/
def PartCfg.longest (q : PartCfg) : Nat := (q.windows.map (fun w => w.length)).foldl max 0

/-- A leg keeps the limits of Table ROUTE-1 and R226. -/
def LegCfg.fits (l : LegCfg) (q : PartCfg) : Bool :=
  1 ≤ l.span && l.span ≤ 12500000 && 1 ≤ l.cores && l.cores ≤ 32 && l.cores ≤ q.coreList.length && 1 ≤ l.groups &&
    l.groups < 16 && l.tokens < 256 && l.preds.length ≤ 8 && l.kind ≤ 2 && l.variants.length ≤ 8 &&
    l.span ≤ q.longest && l.variants.all (fun v => v.span ≤ q.longest) && (l.kind != 1 || !l.variants.isEmpty) &&
    (l.variants.zip (l.variants.drop 1)).all (fun v => v.1.rows ≤ v.2.rows && v.1.pages ≤ v.2.pages)

/-- A template keeps the limits of R227, and its batched legs have variants in ascending capacity, one for each variant of the others (R240). -/
def TemplateCfg.fits (t : TemplateCfg) (q : PartCfg) : Bool :=
  t.cadence ≤ 2 && (t.cadence != 0 || (1 ≤ t.every && t.every ≤ 1024)) && (t.cadence != 2 || (1 ≤ t.every && t.every ≤ 16)) &&
    t.index < 256 && t.legs.all (fun l => l.fits q && l.preds.all (fun k => k < t.legs.length)) &&
    t.batched.all (fun l => l.variants.length == t.variantCount)

/-- A sequence model keeps the limits of R205, and in E4M3 holds a scale of K and V for every layer and head (R204). -/
def SeqModelCfg.inRange (m : SeqModelCfg) : Bool :=
  1 ≤ m.maxLen && m.maxLen ≤ 32768 && 1 ≤ m.layers && m.layers ≤ 64 && 1 ≤ m.groups && m.groups ≤ 8 && m.maxSeq ≤ 4096 &&
    (m.tokensPerPage == 16 || m.tokensPerPage == 8) && (m.tokensPerPage == 8 || m.scales.length == 16 * m.layers)

/-- The sequence models of a program. -/
def ProgramSec.models (g : ProgramSec) : List SeqModelCfg := g.templates.filterMap (fun t => t.model)

/-- The pool and the KV table area of a program stand in its partition's quota, apart from each other, and its models state one pool (R206,
R207). -/
def ProgramSec.poolsHold (g : ProgramSec) (q : PartCfg) : Bool :=
  g.models.all (fun m => m.pageOffset + m.poolPages + g.tablePages ≤ q.quota &&
    g.models.all (fun k => k.pageOffset == m.pageOffset && k.poolPages == m.poolPages))

/-- The words of a program name no byte of its partition beyond the pages it can address (R121, R207). -/
def ProgramSec.wordsReach (g : ProgramSec) (q : PartCfg) : Bool :=
  g.templates.all (fun t => t.legs.all (fun l => l.words.all (fun x => (x.reads ++ x.writes).all (fun a =>
    a.space != 2 || a.hi ≤ 65536 * (q.quota - g.tablePages)))))

/-- A program is consistent with its partition: templates, models, chains, tap plan, the words of its legs (R157, R181, R205, R226, R296,
R402), and it fits the time slots. -/
def ProgramSec.consistent (g : ProgramSec) (q : PartCfg) (t : TablesSec) : Bool :=
  g.fits && g.templates.all (fun x => x.fits q) && g.models.all SeqModelCfg.inRange &&
    g.chains.all (fun c => c.fits (q.quota - g.tablePages)) && g.recompute ≤ 3 &&
    g.weights.all (fun w => w.set < 16) && g.residency.all (fun r => q.holds r.core && r.dst + r.units ≤ 131072 &&
      ((r.space == 1 && r.offset + r.units ≤ 524288) || (r.space == 2 && r.offset + r.units ≤ 1024 * (q.quota - g.tablePages)))) && g.poolsHold q && g.wordsReach q && g.taps.all TapCfg.legal && g.wordsOk t.functions && (g.recompute == 0 || 2 ≤ q.coreList.length)

end Sys2Proof

namespace Sys2Proof.Machine

/-- The pool limits over all partitions (R206). -/
def poolsFit (l : List (Nat × ProgramSec)) : Bool :=
  let ms := l.flatMap (fun e => e.2.models)
  (l.map (fun e => (e.2.models.head?.map (fun m => m.poolPages)).getD 0)).foldl (· + ·) 0 ≤ 262144 && (ms.map (fun m => m.maxSeq)).foldl (· + ·) 0 ≤ 4096

/-- Usable pages less retired ones (R394). -/
def State.pagesAvail (s : State) : Nat := s.hbmPages - s.integ.retired.length

/-- Module TABLES name a position channel, a field input or a PULSE output (R70). -/
def tablesNameField (y : TablesSec) : Bool :=
  y.channels.any (fun c => c.mode != 0) || !y.framings.isEmpty || y.dividers.any (fun d => d.source == 1 || (d.source != 0 && d.pulse)) ||
    y.inputs.any (fun i => i.ty != 0)

/-- SAFETY refers to the safety connector or to a field input (R70). -/
def safetyNamesField (y : SafetySec) : Bool := !y.inputs.isEmpty || !y.outputs.isEmpty || y.resetByInput.isSome

/-- The image names an absent unit (R70): section index and item. `t`, `y` and `z` are the STRUCTURE, the module TABLES and the SAFETY
section that it brings or that run. -/
def State.absentIn (s : State) (img : ImageFile) (t : StructureSec) (y : TablesSec) (z : SafetySec) : Option (Nat × Nat) :=
  let at_ := fun ty => img.sectionAt ty scopeMODULE
  let full := img.header.kind == kindFULL
  if full && !s.hasField && (List.range 9).any (fun b => t.island (112 + b)) then some (at_ secSTRUCTURE, itemISLAND)
  else if full && s.variant == .f9620 && t.parts.any (fun q => q.defined && q.cores / 65536 != 0) then some (at_ secSTRUCTURE, itemPARTITION)
  else if full && !s.hasField && safetyNamesField z then some (at_ secSAFETY, 0)
  else if full && !s.hasField && tablesNameField y then some (at_ secTABLES, 0)
  else match (if s.hasField then none else img.partTables.find? (fun e => !e.2.programs.isEmpty || !e.2.claims.isEmpty)) with
    | some e => some (img.sectionAt secTABLES e.1, 0)
    | none => match (if s.variant == .f9620 then img.programs.find? (fun e => e.2.namesDie1) else none) with
      | some e => some (img.sectionAt secPROGRAM e.1, 0)
      | none => img.absent

/-- The code for an inconsistent section and item. -/
def inconsistent (sec item : Nat) : Failure :=
  { code := Code.ZLD_INCONSISTENT, section_ := sec, item := item, params := [sec, item] }

/-- Step 10 for a FULL image (R47, R48, R49). -/
def State.checkFull (s : State) (img : ImageFile) (t : StructureSec) (p : PaceSec) (y : SafetySec) (b : TablesSec) :
    Option Failure :=
  let at_ := fun ty => img.sectionAt ty scopeMODULE
  firstFailure (
    (t.checks s.pagesAvail b).map (fun e => (e.1, inconsistent (at_ secSTRUCTURE) e.2)) ++
    [(p.inRange, inconsistent (at_ secPACE) 0), (slotsFit t p, inconsistent (at_ secPACE) 1),
     (y.inRange, inconsistent (at_ secSAFETY) 0), (b.inRange p.milestoneNs, inconsistent (at_ secTABLES) 0),
     (claimsApart b img.partTables, inconsistent (img.sectionAt secTABLES ((img.partTables.head?.map (fun e => e.1)).getD 0)) 1),
     (poolsFit img.programs, inconsistent (img.sectionAt secPROGRAM ((img.programs.head?.map (fun e => e.1)).getD 0)) 1)] ++
    img.programs.map (fun e =>
      (e.2.consistent (t.parts.getD e.1 noPart) b, inconsistent (img.sectionAt secPROGRAM e.1) 0)) ++
    (match img.inconsistent with | some (a, i) => [(false, inconsistent a i)] | none => []))

/-- Step 10 for a PARTIAL image, against the running image. -/
def State.checkPartial (s : State) (img : ImageFile) : Option Failure :=
  let p := img.part
  firstFailure (
    [(p < 8 && (s.part p).defined, inconsistent 0 0),
     (img.dir.all (fun e => e.scope == p && (e.ty == secTABLES || e.ty == secPROGRAM)), inconsistent 255 0),
     (img.count secTABLES p ≤ 1 && img.count secPROGRAM p ≤ 1, inconsistent 255 1),
     (img.partTables.all (fun e => e.1 == p) && img.programs.all (fun e => e.1 == p) && img.listsMatch, inconsistent 255 0),
     (claimsApart s.cfg.tables (img.partTables ++ s.cfg.partTables.filter (fun e => e.1 != p || img.partTables.isEmpty)),
       inconsistent (img.sectionAt secTABLES p) 1),
     (poolsFit (img.programs ++ s.cfg.programs.filter (fun e => e.1 != p || img.programs.isEmpty)),
       inconsistent (img.sectionAt secPROGRAM p) 1)] ++
    img.programs.map (fun e => (e.2.consistent (s.part p) s.cfg.tables, inconsistent (img.sectionAt secPROGRAM p) 0)) ++
    (match img.inconsistent with | some (a, i) => [(false, inconsistent a i)] | none => []))

end Sys2Proof.Machine

namespace Sys2Proof

open Sys2Proof.Machine

/-- R47 for a FULL image: exactly one of each module-wide section, at most one of each section of a partition that its STRUCTURE declares,
and no other. -/
def ImageFile.fullSections (img : ImageFile) (t : StructureSec) : Bool :=
  let module := [secSTRUCTURE, secPACE, secSAFETY, secTABLES]
  module.all (fun ty => img.count ty scopeMODULE == 1) &&
    img.dir.all (fun e => if e.scope == scopeMODULE then module.contains e.ty
      else (e.ty == secTABLES || e.ty == secPROGRAM) && e.scope < 8 && (t.parts.getD e.scope noPart).defined && img.count e.ty e.scope == 1) &&
    img.listsMatch

end Sys2Proof

namespace Sys2Proof.Machine

/-- Step 11 against a running SAFETY digest and upkeep mode: the safety lock and the upkeep ratchet (R52, R53). -/
def State.checkLockWith (s : State) (img : ImageFile) (i : Nat) (safety : BitVec 512) (upkeep : Nat) : Option Failure :=
  if img.header.kind != kindFULL then none
  else match img.structureSec, img.safety with
    | some t, some y =>
      if s.keep.lock && y.digest != safety then
        some { code := Code.ZLD_SAFETY_LOCKED, section_ := img.sectionAt secSAFETY scopeMODULE, item := 0, params := [i] }
      else if t.upkeep != upkeep && s.keep.upkeepLeft == 0 then
        some { code := Code.ZLD_RATCHET_EXHAUSTED, section_ := img.sectionAt secSTRUCTURE scopeMODULE, item := itemUPKEEP,
               params := [ratUPKEEP] }
      else none
    | _, _ => none

/-- Step 11 against what runs. -/
def State.checkLock (s : State) (img : ImageFile) (i : Nat) : Option Failure :=
  s.checkLockWith img i s.cfg.safety.digest (s.get F.ZLD_ACTIVE_upkeep_mode)

/-- Steps 3 to 10, which a start runs too. -/
def State.checkContent (s : State) (img : ImageFile) (i : Nat) : Option Failure :=
  let h := img.header
  if !s.goodTarget img then
    some { code := Code.ZLD_BAD_TARGET, section_ := 255, item := 8, params := [h.package, h.variantMask, h.minStepping] }
  else if !s.knownSigner img.signer then
    some { code := Code.ZLD_SIGNER_UNKNOWN, section_ := 255, item := 0, params := [img.signer.toNat % 2 ^ 32] }
  else if img.signs != some img.signedDigest then
    some { code := Code.ZLD_SIGNATURE_FAIL, section_ := 255, item := 0, params := [i] }
  else match img.dir.findIdx? (fun e => !img.digestOk e) with
    | some k => some { code := Code.ZLD_SECTION_DIGEST, section_ := k, item := 0, params := [k] }
    | none =>
      if h.epoch < s.keep.epoch then
        some { code := Code.ZLD_EPOCH_LOW, section_ := 255, item := 12, params := [h.epoch, s.keep.epoch] }
      else if h.kind == kindPARTIAL && h.baseDigest != s.cfg.structureSec.digest then
        some { code := Code.ZLD_BASE_MISMATCH, section_ := 255, item := 32, params := [img.part] }
      else if h.kind == kindPARTIAL then
        match s.absentIn img s.cfg.structureSec s.cfg.tables s.cfg.safety with
        | some (a, b) => some { code := Code.ZLD_ABSENT_UNIT, section_ := a, item := b, params := [a, b] }
        | none => s.checkPartial img
      else match img.structureSec, img.pace, img.safety, img.tables with
        | some t, some p, some y, some b =>
          match s.absentIn img t b y with
          | some (a, k) => some { code := Code.ZLD_ABSENT_UNIT, section_ := a, item := k, params := [a, k] }
          | none => if img.fullSections t then s.checkFull img t p y b else some (inconsistent 255 0)
        | _, _, _, _ => some (inconsistent 255 0)

/-- The checks of Table ZLD-7 in their order, for the loading port (R55). -/
def State.checkImage (s : State) (i : Port) (img : ImageFile) : Option Failure :=
  match img.checkFormat (s.get F.ZLD_SRC_LEN_bytes) with
  | some f => some f
  | none =>
    if !s.mayLoad i img then
      some { code := Code.ZLD_ROLE, section_ := if img.header.kind == kindFULL then 255 else 0, item := 0,
             params := [i, img.header.kind] }
    else match s.checkContent img i with
      | some f => some f
      | none => s.checkLock img i

/-! ### The session (R54 to R57) -/

/-- ZLD_RESULT of port `i`. -/
def State.zldResult (s : State) (i : Port) (code sec item : Nat) : State :=
  ((s.set (F.ZLD_RESULT_code i) code).set (F.ZLD_RESULT_section i) sec).set (F.ZLD_RESULT_item i) item

/-- A command that the session does not accept: ZLD_BAD_COMMAND, and nothing changes (R54). -/
def State.zldBad (s : State) (i : Port) (cmd : Nat) : State :=
  (s.raise Code.ZLD_BAD_COMMAND [i, cmd]).zldResult i Code.ZLD_BAD_COMMAND 0 0

def State.zldState (s : State) : Nat := s.get F.ZLD_STATUS_state

/-- Port `i` holds the session. -/
def State.holdsSession (s : State) (i : Port) : Bool := s.zldState != zldIDLE && s.get F.ZLD_STATUS_session_port == i.val

/-- The inactive flash slot of an image: FULL slot, or overlay slot of its partition. -/
def State.inactiveImageSlot (s : State) (img : ImageFile) : Nat :=
  if img.header.kind != kindPARTIAL then (match s.keep.full with | some (k, _) => 1 - k | none => 0)
  else match tfind s.keep.overlays img.part with | some (k, _) => 1 - k | none => 0

/-- Mark the inactive FULL slot empty. -/
def State.emptyFull (s : State) : State :=
  let k := match s.keep.full with | some (k, _) => 1 - k | none => 0
  { s with flash := { s.flash with full := tdel s.flash.full k } }

/-- Program the inactive slot, or mark it empty. -/
def State.slotWrite (s : State) (img : ImageFile) (v : Option ImageFile) : State :=
  let k := s.inactiveImageSlot img
  if img.header.kind != kindPARTIAL then
    { s with flash := { s.flash with full := match v with | some x => tput s.flash.full k x | none => tdel s.flash.full k } }
  else
    let k := 2 * img.part + k
    { s with flash := { s.flash with overlays := match v with | some x => tput s.flash.overlays k x | none => tdel s.flash.overlays k } }

/-- End the session as ABORT does: cause 0 ABORT, 1 reset, 2 removal, 3 timeout (R57). The slot that its image would take is marked
empty, the inactive FULL slot where no header of a PARTIAL image has been read. A FETCH that is cut short here raises no ZLD vector: whether
it counts as a FETCH that ends (R72) is not stated (DESIGN CHOICE). -/
def State.zldEnd (s : State) (cause : Nat) : State :=
  if s.zldState == zldIDLE then s
  else
    let p := s.get F.ZLD_STATUS_session_port
    let s := match s.zld.image with | some img => s.slotWrite img none | none => s.emptyFull
    let s := { s with zld := { s.zld with image := none } }
    ((s.set F.ZLD_STATUS_state zldIDLE).set F.ZLD_STATUS_session_port 0).raise Code.ZLD_ABORTED [p, cause]

/-- OPEN (R54, R56). -/
def execOpen (i : Port) (s : State) : Host.Outcome State Fault Refusal :=
  s.run (fun s =>
    if s.zldState != zldIDLE then
      (s.raise Code.ZLD_BUSY [i, s.get F.ZLD_STATUS_session_port]).zldResult i Code.ZLD_BUSY 0 0
    else
      let s := ((s.set F.ZLD_STATUS_state zldOPEN).set F.ZLD_STATUS_session_port i).set F.ZLD_PROGRESS_bytes 0
      { s with zld := { s.zld with image := none } })

/-- FETCH of the image at ZLD_SRC (R54, R55). A session takes one FETCH: a further one in VERIFIED or FAILED is refused with
ZLD_BAD_COMMAND, which the spec says of COMMIT only (DESIGN CHOICE). -/
def execFetch (i : Port) (img : ImageFile) (s : State) : Host.Outcome State Fault Refusal :=
  s.run (fun s =>
    if !s.holdsSession i || s.zldState != zldOPEN then s.zldBad i 2
    else
      let s := (s.set F.ZLD_STATUS_state zldFETCHING).set F.ZLD_PROGRESS_bytes 0
      { s with zld := { s.zld with image := some img } })

/-- FETCH_DONE: every check has passed and the inactive slot is programmed, or the first failure is reported (R55, R72). -/
def execFetchDone (s : State) : Host.Outcome State Fault Refusal :=
  s.run (fun s => match s.zld.image with
    | none => s
    | some img =>
      if s.zldState != zldFETCHING then s
      else
        let i : Port := Fin.ofNat 4 (s.get F.ZLD_STATUS_session_port)
        match s.checkImage i img with
        | some f =>
          -- how many bytes were checked before the failure is not stated
          let (n, s) := s.draw
          let s := (s.set F.ZLD_STATUS_state zldFAILED).set F.ZLD_PROGRESS_bytes n
          ((s.raise f.code f.params).zldResult i f.code f.section_ f.item).fireAll 1
        | none =>
          let s := (s.slotWrite img (some img)).set F.ZLD_STATUS_state zldVERIFIED
          ((s.set F.ZLD_PROGRESS_bytes img.header.totalLength).zldResult i 0 0 0).fireAll 1)

/-- The period in which something written now lands: the first whose build begins after the write (R61, R229). -/
def State.landing (s : State) : Nat := s.route.buildFor + 1

/-- ABORT (R57). -/
def execAbort (i : Port) (s : State) : Host.Outcome State Fault Refusal :=
  s.run (fun s => if s.holdsSession i then (s.zldEnd 0).zldResult i 0 0 0 else s.zldBad i 4)

/-- ZLD_SESSION_TIMEOUT: 60 s without a command (R57). -/
def execZldSessionTimeout (s : State) : Host.Outcome State Fault Refusal := s.run (fun s => s.zldEnd 3)

end Sys2Proof.Machine
end

