-- ==== Sys2Proof/Machine/Builder.lean ====
section
/-! DEFINITION. The route-sheet builder (R226 to R240, R249): windows and shares of a build, the placement of legs, releases,
and the worst-case plan. -/

namespace Sys2Proof.Machine

/-! ### What a build for period `n` sees -/

/-- The window `i = 4 × core + window` as of period `n`: start and length (R231, R245). -/
def State.winAt (s : State) (n i : Nat) : Nat × Nat :=
  match (s.route.cuts.filter (fun c => c.kind == 2 && c.index == i && c.landing ≤ n)).getLast? with
  | some c => (c.a, c.b)
  | none => (s.get (F.ROUTE_WIN_START_tick i), s.get (F.ROUTE_WIN_LEN_ticks i))

/-- The windows of logical core `l` as of period `n`, in ascending start. -/
def State.windowsAt (s : State) (n l : Nat) : List (Nat × Nat) :=
  (((upTo 4).map (fun w => s.winAt n (4 * l + w))).filter (fun w => w.2 != 0)).mergeSort (fun a b => a.1 ≤ b.1)

/-- The bandwidth share of partition `p` as of period `n`. -/
def State.shareAt (s : State) (n p : Nat) : Nat :=
  match (s.route.cuts.filter (fun c => c.kind == 1 && c.part == p && c.landing ≤ n)).getLast? with
  | some c => c.a
  | none => s.get (F.ROUTE_BW_share p)

/-- The weight of job `j` as of period `n` (R236). -/
def State.weightAt (s : State) (n j : Nat) (b : Job) : Nat :=
  max 1 (if b.weightFrom ≤ n then s.get (F.ROUTE_JOB_weight j) else b.oldWeight)

/-- Logical core `l` is LOST as of period `n` (R129). -/
def State.lostAt (s : State) (n l : Nat) : Bool :=
  (s.physOf l).isNone || s.cores.due.any (fun d => d.2.1 == 255 && d.2.2 ≤ n && s.logicalOf d.1 == some l)

/-- The logical cores of partition `p` that a build for period `n` may use. -/
def State.coresAt (s : State) (n p : Nat) : List Nat := (s.part p).coreList.filter (fun l => !s.lostAt n l)

/-- The 64-byte units that one share moves in a period: 800 MB/s at 1,000 ps, scaled by 1,000 ps ÷ pace (R118, Table CORE-2). -/
def State.linesPerShare (s : State) : Nat := 25 * s.cfg.pace.periodUs * 1000 / (2 * max (s.get F.PACE_STATUS_pace) 1)

/-- Ticks of a period at rated_pace. -/
def State.periodTicks (s : State) : Nat := s.cfg.pace.ticks

/-- Ticks that a core gets in a period at the pace in force (R95): the slots of a longer pace end with them (R119). -/
def State.ticksNow (s : State) : Nat := s.cfg.pace.periodUs * 1000000 / max (s.get F.PACE_STATUS_pace) 1

/-- A span, declared at rated_pace, at the pace in force (R108), in the ticks of rated_pace in which windows and sheets count. -/
def State.spanNow (s : State) (span : Nat) : Nat :=
  let r := max s.cfg.pace.ratedPace 1
  (span * s.get F.PACE_STATUS_pace + r - 1) / r

/-- The tick at the pace in force that stands at tick `t` at rated_pace, or first after it. -/
def State.tickNow (s : State) (t : Nat) : Nat :=
  let r := max (s.get F.PACE_STATUS_pace) 1
  (t * s.cfg.pace.ratedPace + r - 1) / r

/-- What a cut of the bandwidth share adds to the span of a leg of partition `p` that moves `lines` HBM lines (R245): the ticks that the share in
force takes for them beyond those of the structure share, with which the span was declared (DESIGN CHOICE). -/
def State.cutSpan (s : State) (n p lines : Nat) : Nat :=
  let ticks := fun share => let rate := share * s.linesPerShare; if rate = 0 then 0 else (lines * s.periodTicks + rate - 1) / rate
  ticks (s.shareAt n p) - ticks (s.part p).bandwidth

/-- The span of a leg in variant `v` for the build of period `n`. -/
def State.spanAt (s : State) (n p : Nat) (g : LegCfg) (span : Nat) : Nat := s.spanNow span + s.cutSpan n p (g.hbmLines * max g.cores 1)

/-! ### Templates and variants -/

/-- Template `t` of generation `g` of partition `p`. -/
def State.templateAt (s : State) (p g t : Nat) : Option TemplateCfg :=
  (s.programAt p g).bind (fun x => x.templates.find? (fun y => y.index == t))

/-- A leg that is absent. -/
def leg0 : LegCfg :=
  { span := 0, cores := 0, groups := 0, tokens := 0, engines := [], hbmLines := 0, preds := [], kind := 0, variants := [], policy := 0
    tracker := false, verdict := false, road := false, verges := [], words := [] }

end Sys2Proof.Machine

namespace Sys2Proof

open Sys2Proof.Machine

/-- The declared span of a leg in variant `v` (R240). -/
def LegCfg.spanOf (l : LegCfg) (v : Nat) : Nat :=
  if l.kind == 1 then ((l.variants[v]?).map (fun x => x.span)).getD l.span else l.span

/-- The denominator of a recompute fraction (R402); 0 = none. -/
def recomputeDen (f : Nat) : Nat := if f = 1 then 64 else if f = 2 then 8 else if f = 3 then 2 else 0

/-- Leg `l` of iteration `i` is recomputed (R402). -/
def recomputed (den i l : Nat) : Bool := den != 0 && (i * 257 + l) % den == 0

/-- The legs of an iteration with their copies: FOLD legs only where a weights set first takes effect (R178). -/
def TemplateCfg.copies (t : TemplateCfg) (den i : Nat) (fold : Bool) : List (Nat × Nat) :=
  (List.range t.legs.length).flatMap (fun l =>
    let g := t.legs.getD l leg0
    if g.kind == 2 && !fold then []
    else if recomputed den i l then [(l, 0), (l, 1)] else [(l, 0)])

end Sys2Proof

namespace Sys2Proof.Machine

/-! ### Placement (R233 to R235, R249) -/

/-- A leg that occupies a core in the sheet being built, with its words on it. -/
structure Busy where
  core : Nat
  start : Nat
  stop : Nat
  groups : Nat
  tokens : Nat
  job : Nat
  words : Nat
  deriving DecidableEq, Repr

/-- The sheets of one build in progress: legs on cores, engine slots in ticks of rated_pace and transfer slots in those of the pace in force, HBM
lines taken by partition, and those beyond the shares. -/
structure Sheets where
  busy : List Busy
  eng : List EngSlot
  net : List NetSlot
  lines : Tab Nat
  extra : Nat
  full : Bool
  deriving DecidableEq, Repr

/-- Sheets with nothing placed. -/
def sheets0 : Sheets := { busy := [], eng := [], net := [], lines := [], extra := 0, full := false }

/-- Two legs may not share a core at the same ticks (R235). -/
def clash (g1 t1 g2 t2 : Nat) : Bool := (g1 &&& g2) != 0 || (t1 &&& t2) != 0

/-- The earliest tick from which core `l` is free for a leg within a window. -/
def State.freeTick (s : State) (n : Nat) (x : Sheets) (l : Nat) (g : LegCfg) (ready : Nat) : Option Nat :=
  let t := ((x.busy.filter (fun b => b.core == l && clash b.groups b.tokens g.groups g.tokens)).map (fun b => b.stop)).foldl max ready
  ((s.windowsAt n l).find? (fun w => t < w.1 + w.2)).map (fun w => max t w.1)

/-- The span fits at tick `t` inside a window of core `l`, with the leg table of its sheet not full. -/
def State.fitsAt (s : State) (n : Nat) (x : Sheets) (l : Nat) (g : LegCfg) (t span : Nat) : Bool :=
  (s.windowsAt n l).any (fun w => w.1 ≤ t && t + span ≤ w.1 + w.2) &&
    x.busy.all (fun b => b.core != l || !clash b.groups b.tokens g.groups g.tokens || b.stop ≤ t || t + span ≤ b.start)

/-- The engine slots of a leg that starts at tick `t` on the cores `l`, in the order of its core set, each on a unit that is free: an edge call
or a walk of each core's own cluster, a post call of its die (R185, R190); and the cores for which no unit is. -/
def State.engineSlots (s : State) (x : Sheets) (g : LegCfg) (l : List Nat) (t job : Nat) : List EngSlot × List Nat :=
  g.engines.foldl (fun out e =>
    let (kind, off, ticks, q) := e
    let core := l.getD q 0
    let a := t + s.spanNow off
    let b := t + s.spanNow (off + ticks)
    match (s.servers kind (clusterOf core)).find? (fun u =>
        (x.eng ++ out.1).all (fun z => z.kind != kind || z.unit != u || z.stop ≤ a || b ≤ z.start)) with
    | some u => (out.1 ++ [{ kind := kind, unit := u, start := a, stop := b, core := core, job := job }], out.2)
    | none => (out.1, out.2 ++ [core])) ([], [])

/-! ### Transfer slots (R117, R119, R233, Table ROUTE-8) -/

/-- Paths of Table ROUTE-8. -/
def pathNETWORK : Nat := 0
def pathDIES : Nat := 1
def pathHUB : Nat := 2
def pathHBM : Nat := 3

/-- The path of a TRANSFER word on a core of cluster `k`, with its link and the 64-byte units that the link moves in a tick (Table CORE-2): a
link for each cluster and direction of the die networks, for each direction between the dies, and for each die and direction to the hub. A
transfer within the cluster takes the core's stripe port, and no slot. Table ROUTE-8 gives one path for a transfer; the choice of the links,
one for each port and direction that Table CORE-2 lists, is the model's (DESIGN CHOICE).  A transfer between the hub and any stripe store takes
the hub link of that stripe's die, in the direction in which the data go. -/
def transferPath (w : BitVec 128) (k : Nat) : Option (Nat × Nat × Nat) :=
  let (src, dst) := (wField w 77 3, wField w 45 3)
  let far := if src = 4 then wField w 48 29 / 524288 else wField w 16 29 / 524288
  let hub := fun (n : Nat) => n = 2 || n = 3
  let die := dieOf (if src = 4 || dst = 4 then far else k)
  if hub src || hub dst then some (if src = 2 || dst = 2 then pathHBM else pathHUB, 18 + 2 * die + bit (hub src), 16)
  else if src = 4 || dst = 4 then
    (if dieOf far != dieOf k then some (pathDIES, 16 + (if src = 4 then dieOf far else dieOf k), 8)
     else some (pathNETWORK, 2 * k + bit (src = 4), 16))
  else none

/-- The first run of `n` free ticks of a link from tick `t` on: each slot that it would meet puts it behind that slot. -/
def freeRun (taken : List NetSlot) (n : Nat) : Nat → Nat → Nat
  | 0, t => t
  | fuel + 1, t =>
    match taken.find? (fun z => z.start < t + n && t < z.stop) with
    | none => t
    | some z => freeRun taken n fuel z.stop

/-- The transfer slots of a leg of `span` ticks that starts at tick `t` on the cores `l` (R119, R234): each TRANSFER word in its order takes
the first run of free slots of its link within the leg and the period, both in ticks of the pace in force; and the cores for a word of which
there is none. -/
def State.netSlots (s : State) (x : Sheets) (g : LegCfg) (l : List Nat) (t span : Nat) : List NetSlot × List Nat :=
  let words := (upTo l.length).flatMap (fun q => (g.transfers q).mapIdx (fun i w => (l.getD q 0, i, w)))
  words.foldl (fun out e =>
    let (core, i, w) := e
    match transferPath w (clusterOf core) with
    | none => out
    | some (path, link, rate) =>
      let n := (wCount w + rate - 1) / rate
      let taken := (x.net ++ out.1).filter (fun z => z.link == link)
      let a := freeRun taken n (taken.length + 1) (s.tickNow t)
      if a + n ≤ min (s.tickNow (t + span)) s.ticksNow then
        (out.1 ++ [{ core := core, word := i, path := path, link := link, start := a, stop := a + n }], out.2)
      else (out.1, out.2 ++ [core])) ([], [])

/-- What a leg brings to its placement: partition, job, declaration, span at the pace in force, when it is ready on a core,
cores it may not use, and clusters to avoid if it can. -/
structure Want where
  part : Nat
  job : Nat
  leg : LegCfg
  span : Nat
  ready : Nat → Nat
  notOn : List Nat
  avoid : List Nat

/-- The common start of a chosen set of (core, free tick). -/
def commonStart (l : List (Nat × Nat)) : Nat := (l.map (fun e => e.2)).foldl max 0

/-- Try the chosen cores, and in place of the last one that failed, for want of a window, an engine slot or a transfer slot, the next of the
order (R234); answers the start, the cores and the engine and transfer slots. -/
def State.tryCores (s : State) (n : Nat) (x : Sheets) (w : Want) :
    List (Nat × Nat) → List (Nat × Nat) → Option (Nat × List Nat × List EngSlot × List NetSlot)
  | chosen, rest =>
    let t := commonStart chosen
    let l := chosen.map (fun e => e.1)
    let e := s.engineSlots x w.leg l t w.job
    let z := s.netSlots x w.leg l t w.span
    match (chosen.filter (fun k => !s.fitsAt n x k.1 w.leg t w.span || e.2.contains k.1 || z.2.contains k.1)).getLast?, rest with
    | none, _ => some (t, l, e.1, z.1)
    | some b, r :: rs => s.tryCores n x w (chosen.map (fun k => if k == b then r else k)) rs
    | some _, [] => none
termination_by structural _ rest => rest

/-- The 16-byte units of `n` bytes. -/
def units16 (n : Nat) : Nat := (n + 15) / 16

/-- The bytes that the sheet of core `q` takes with `legs`, `net`, `eng` and `words` entries more, of Tables ROUTE-7 and ROUTE-8: 128 for its
header, 16 for a leg, 4 for a transfer slot, 8 for an engine slot, each table in whole units, 16 for a word (R249). -/
def Sheets.bytes (x : Sheets) (q legs net eng words : Nat) : Nat :=
  let mine := x.busy.filter (fun b => b.core == q)
  128 + 16 * (mine.length + legs + units16 (4 * ((x.net.filter (fun z => z.core == q)).length + net)) +
    units16 (8 * ((x.eng.filter (fun z => z.core == q)).length + eng)) + (mine.map (fun b => b.words)).foldl (· + ·) 0 + words)

/-- The sheet of core `q` has no room for a leg with these entries (R249): 256 legs, 8,192 transfer slots, 1,024 engine slots, 256 KiB. -/
def Sheets.noRoom (x : Sheets) (q net eng words : Nat) : Bool :=
  (x.busy.filter (fun b => b.core == q)).length ≥ 256 || (x.net.filter (fun z => z.core == q)).length + net > 8192 ||
    (x.eng.filter (fun z => z.core == q)).length + eng > 1024 || x.bytes q 1 net eng words > 262144

/-- The HBM lines that partition `p` may still use in this build: its share, and for BEST_EFFORT what no partition has been
given (R233). -/
def State.linesLeft (s : State) (n : Nat) (x : Sheets) (p : Nat) : Nat :=
  let own := s.shareAt n p * s.linesPerShare - tget 0 x.lines p
  if (s.part p).criticality == critBESTEFFORT then
    let given := (((upTo 8).filter (fun q => (s.part q).defined)).map (fun q => s.shareAt n q)).foldl (· + ·) 0
    own + ((1024 - given) * s.linesPerShare - x.extra)
  else own

/-- Place a leg by R234: its start, cores and slots, and the sheets with it; or what held it back: a core whose sheet has no room for it
(R249), where that was it. -/
def State.place (s : State) (n : Nat) (x : Sheets) (w : Want) : Except (Option Nat) (Nat × List Nat × List EngSlot × List NetSlot × Sheets) :=
  let p := w.part
  let cores := (s.coresAt n p).filter (fun l => !w.notOn.contains l)
  let order := (cores.filterMap (fun l => (s.freeTick n x l w.leg (w.ready l)).map (fun t => (l, t)))).mergeSort
    (fun a b =>
      let fa := w.avoid.contains (clusterOf a.1)
      let fb := w.avoid.contains (clusterOf b.1)
      (!fa && fb) || (fa == fb && (a.2 < b.2 || (a.2 == b.2 && a.1 ≤ b.1))))
  let c := max w.leg.cores 1
  let lines := w.leg.hbmLines * c
  if order.length < c || lines > s.linesLeft n x p then .error none
  else match s.tryCores n x w (order.take c) (order.drop c) with
    | none => .error none
    | some (t, l, e, z) =>
      let of := fun (q : Nat) => ((z.filter (fun k => k.core == q)).length, (e.filter (fun k => k.core == q)).length)
      let words := l.mapIdx (fun i q => (q, (w.leg.wordsOf i).length))
      match words.find? (fun k => x.noRoom k.1 (of k.1).1 (of k.1).2 k.2) with
      | some k => .error (some k.1)
      | none =>
        let own := min lines (s.shareAt n p * s.linesPerShare - tget 0 x.lines p)
        let busy := words.map (fun k => ({ core := k.1, start := t, stop := t + w.span, groups := w.leg.groups, tokens := w.leg.tokens
                                           job := w.job, words := k.2 } : Busy))
        .ok (t, l, e, z, { x with busy := x.busy ++ busy, eng := x.eng ++ e, net := x.net ++ z
                                  lines := tset 0 x.lines p (tget 0 x.lines p + own), extra := x.extra + (lines - own) })

/-! ### Releases (R227, R228, R239, R240) -/

/-- Job states of Table ROUTE-11. -/
def jobFREE : Nat := 0
def jobADMITTED : Nat := 1
def jobRUNNING : Nat := 2
def jobSOLO : Nat := 3
def jobRETIRING : Nat := 4

def State.jobState (s : State) (j : Nat) : Nat := s.get (F.ROUTE_JOB_state j)
def State.job? (s : State) (j : Nat) : Option Job := tfind s.route.jobs j
def State.setJob (s : State) (j : Nat) (b : Job) : State := { s with route := { s.route with jobs := tput s.route.jobs j b } }

/-- The template of a job in the program that a build now places. -/
def State.jobTemplate (s : State) (b : Job) : Option TemplateCfg := s.templateAt b.part (s.buildGen b.part) b.template

/-- Job `j` is placed by the build for period `n`. -/
def State.jobActive (s : State) (n j : Nat) (b : Job) : Bool :=
  b.landing ≤ n && (match b.retireAt with | some r => n < r | none => true) && s.jobState j != jobFREE

/-- The local time in ns at the boundary of period `n`, as the time base foresees it. -/
def State.boundaryAt (s : State) (n : Nat) : Nat :=
  s.localNs - (s.clk.now * 5 - s.route.boundaryNs) + (n - s.period) * (s.cfg.pace.periodUs * 1000)

/-- Partition `p`'s cadences are held in period `n` by a START_AT whose count its boundary does not reach (R335, Table TIME-4). -/
def State.held (s : State) (n p : Nat) : Bool :=
  (s.get F.TIME_START_PENDING_mask).testBit p &&
    !(tfind s.time.startAt p).any (fun m => m ≤ max (s.boundaryAt n / max s.cfg.pace.milestoneNs 1) s.time.msHold)

/-- A weights set of partition `p` takes effect in period `n` first for a job whose latest release was for period `last` (R178). -/
def State.firstWeights (s : State) (p last n : Nat) : Bool :=
  s.host.bindings.any (fun b => b.part == p && last < b.landing && b.landing ≤ n)

/-- The recompute denominator of generation `g` of partition `p` (R402). -/
def State.denAt (s : State) (p g : Nat) : Nat := recomputeDen (((s.programAt p g).map (fun x => x.recompute)).getD 0)

/-- Release one iteration of job `j` on generation `g` (R227): it waits for the build that takes it in.  It holds the fold legs where it is the
job's first, or the first on a new program or under a new weights set (R178). -/
def State.release (s : State) (j : Nat) (b : Job) (g : Nat) (t : TemplateCfg) (tags : List Nat) (input : BitVec 256) (n : Nat)
    (ring : Option (Nat × Nat) := none) : State :=
  let den := s.denAt b.part g
  let fold := b.next = 0 || b.foldGen < g || s.firstWeights b.part b.relAt n
  let (res, s) := if t.output then (let (r, s1) := s.alloc b.part 2; (some r, s1)) else (none, s)
  let it : Iter := { part := b.part, job := j, num := b.next, gen := g, tags := tags, toPlace := t.copies den b.next fold, placed := []
                     done := [], entered := none, enteredNs := 0, alone := true, resNum := res, variant := 0, input := input
                     marked := false, ring := ring, batch := [], retired := false }
  let s := s.setJob j { b with next := b.next + 1, relAt := n, foldGen := max b.foldGen g }
  { s with route := { s.route with iters := s.route.iters ++ [it] } }

/-- The generation of the program that a part of partition `p` runs, once its first leg has entered a sheet (R62). -/
def State.partGen (s : State) (p tag : Nat) : Option Nat :=
  ((tfind s.route.partGens (8 * tag + p)).map (fun e => e.1)).filter (fun g => (s.programAt p g).isSome)

/-- An event of partition `p` releases one iteration of each EVENT job whose template `sel` names (R227, R228), on the program of its part
(R62); `ring` gives the slot records of the ingest batch that it is. -/
def State.releaseEvents (s : State) (p : Nat) (sel : TemplateCfg → Bool) (tags : List Nat) (input : BitVec 256)
    (ring : Option (Nat × Nat) := none) : State :=
  s.each s.route.jobs (fun s e =>
    let (j, b) := e
    let n := s.route.buildFor + 1
    let g := (tags.findSome? (s.partGen p)).getD (s.buildGen p)
    match s.job? j, s.templateAt p g b.template with
    | some b, some t =>
      if b.part = p && t.cadence == 1 && sel t && !s.held n p && s.jobActive n j b then s.release j b g t tags input n ring else s
    | _, _ => s)

/-- The variant that covers rows and pages in every batched leg: the first, else the largest (R214, R240). -/
def pickVariant (t : TemplateCfg) (need : Nat × Nat) : Nat :=
  ((List.range t.variantCount).find? (fun v => (t.capacity v).any (fun c => need.1 ≤ c.1 && need.2 ≤ c.2))).getD (t.variantCount - 1)

/-- Form the batch of iteration `num` of job `j` on generation `g`, and pick the variant of its sheets (R214, R239, R240). -/
def State.stepBatch (s : State) (n j num g : Nat) (b : Job) : State :=
  match s.templateAt b.part g b.template with
  | none => s
  | some t => match t.model with
    | none => s
    | some m =>
      let s := s.formBatch b.part n j num g t m
      { s with route := { s.route with iters := s.route.iters.map (fun (it : Iter) =>
        if it.job == j && it.num == num then { it with variant := pickVariant t (batchNeed m it.batch) } else it) } }

/-- The boundary cadences of job `j` in the build for period `n` (R227): a step runs on the generation of its batch, and a step whose build was
late comes before the one that is due (R238). -/
def State.cadences (s : State) (n j : Nat) (b : Job) : State :=
  let due := fun (t : TemplateCfg) (k : Nat) => t.cadence == k && (n - b.landing) % max t.every 1 == 0
  let g := s.buildGen b.part
  let s := match s.templateAt b.part g b.template with
    | none => s
    | some t => if due t 0 then s.release j b g t [] 0 n else s
  let s := s.each (s.route.iters.filter (fun it => it.job == j && it.entered.isNone && it.batch.isEmpty)) (fun s it =>
    if (s.templateAt b.part it.gen b.template).any (fun t => t.cadence == 2) then s.stepBatch n j it.num it.gen b else s)
  let g := s.batchGen b.part j b.template b.lastGen
  match s.templateAt b.part g b.template, s.job? j with
  | some t, some b =>
    if due t 2 then ((s.setJob j { b with lastGen := g }).release j { b with lastGen := g } g t [] 0 n).stepBatch n j b.next g b else s
  | _, _ => s

/-- The releases of the build for period `n`: the boundary cadences, and events up to the declared rate (R227, R228). -/
def State.takeReleases (s : State) (n : Nat) : State :=
  let s := s.each s.route.jobs (fun s e => match s.job? e.1 with
    | none => s
    | some b => if !s.jobActive n e.1 b || s.held n b.part then s else s.cadences n e.1 b)
  -- releases written before this build began enter it, events up to the declared rate of their template
  let (its, _) := s.route.iters.foldl (fun (acc : List Iter × Tab Nat) it =>
    if it.entered.isSome then (acc.1 ++ [it], acc.2)
    else
      let rate := ((s.job? it.job).bind s.jobTemplate).map (fun t => if t.cadence == 1 then t.eventRate else 1000000)
      let k := tget 0 acc.2 it.job
      if k < rate.getD 1000000 then (acc.1 ++ [{ it with entered := some n }], tset 0 acc.2 it.job (k + 1))
      else (acc.1 ++ [it], acc.2)) ([], [])
  { s with route := { s.route with iters := its } }

/-! ### Rounds of a build (R234, R236) -/

/-- When the legs that leg `l` of an iteration reads end, on core `q`, in ticks of period `n`: 0 for earlier periods that are
over; 256 ticks of the pace in force more where one sits in another cluster. -/
def State.readyAt (s : State) (n : Nat) (it : Iter) (preds : List Nat) (q : Nat) : Nat :=
  ((it.placed.filter (fun e => preds.contains e.1 && e.2.1 == 0)).map (fun e =>
    let (_, _, per, stop, cores) := e
    let far := cores.any (fun c => clusterOf c != clusterOf q)
    stop + (if far then s.spanNow 256 else 0) - s.periodTicks * (n - per))).foldl max 0

/-- Every leg of the same iteration that leg (l, copy) waits for has been placed: its predecessors, and for a copy the
original (R234, R402). -/
def legReady (it : Iter) (g : LegCfg) (l copy : Nat) : Bool :=
  g.preds.all (fun q => !it.toPlace.any (fun e => e.1 == q && e.2 == 0)) &&
    (copy == 0 || !it.toPlace.any (fun e => e.1 == l && e.2 < copy))

/-- A leg that a build may place: partition, job, iteration number, leg, copy. -/
abbrev Ready := Nat × Nat × Nat × Nat × Nat

/-- The ready legs of partition `p` for period `n`: by iteration, then in template order (R234). -/
def State.readyLegs (s : State) (n p : Nat) : List Ready :=
  s.route.iters.flatMap (fun it =>
    if it.part != p || it.entered.isNone || !((s.job? it.job).any (fun b => s.jobActive n it.job b)) then []
    else match s.templateAt p it.gen (((s.job? it.job).map (fun b => b.template)).getD 0) with
      | none => []
      | some t => (it.toPlace.filter (fun e => legReady it (t.legs.getD e.1 leg0) e.1 e.2)).map (fun e =>
          (p, it.job, it.num, e.1, e.2)))

/-- The iteration of a ready leg, and its declaration. -/
def State.iterOf (s : State) (j num : Nat) : Option Iter := s.route.iters.find? (fun it => it.job == j && it.num == num)
def State.setIter (s : State) (it : Iter) : State :=
  { s with route := { s.route with iters := s.route.iters.map (fun x => if x.job == it.job && x.num == it.num then it else x) } }

/-- Leg `g` is ready again in the next build; where no other leg of its iteration has been placed, and `fresh` says so, the iteration
enters that build anew. -/
def State.putBack (s : State) (g : LegRun) (fresh : Bool) : State :=
  match s.iterOf g.job g.iter with
  | none => s
  | some it =>
    let placed := it.placed.filter (fun e => !(e.1 == g.leg && e.2.1 == g.copy))
    let todo := (it.toPlace ++ [(g.leg, g.copy)]).mergeSort (fun a b => a.1 < b.1 || (a.1 == b.1 && a.2 ≤ b.2))
    s.setIter { it with placed := placed, toPlace := todo, entered := if placed.isEmpty && fresh then none else it.entered }

/-- The cores of the copies of a leg that are placed: a further copy goes on a disjoint set (R402, R403). -/
def copyCores (it : Iter) (l : Nat) : List Nat := (it.placed.filter (fun e => e.1 == l)).flatMap (fun e => e.2.2.2.2)

/-- What a ready leg brings to its placement. -/
def State.wantOf (s : State) (n p j l copy : Nat) (it : Iter) (g : LegCfg) (notOn : List Nat) : Want :=
  let others := if copy == 0 then [] else copyCores it l
  { part := p, job := j, leg := g, span := s.spanAt n p g (g.spanOf it.variant), ready := s.readyAt n it g.preds
    notOn := notOn ++ others, avoid := if copy == 1 then others.map clusterOf else [] }

/-- Charge a toll to job `j` (R236), which has had the logical cores `cores`. -/
def State.charge (s : State) (n j toll : Nat) (cores : List Nat) : State :=
  match s.job? j with
  | none => s
  | some b =>
    let s := s.setJob j { b with vtoll := b.vtoll + toll * 1024 / s.weightAt n j b, used := cores.foldl (fun m q => m ||| 2 ^ q) b.used }
    s.set64 (F.ROUTE_TOLL_LO_ticks j) (F.ROUTE_TOLL_HI_ticks j)
      (min (s.get64 (F.ROUTE_TOLL_LO_ticks j) (F.ROUTE_TOLL_HI_ticks j) + toll) (2 ^ 48 - 1))

/-- Leg `g` of partition `p` finds no place for want of a core that is LOST, or of an engine that has failed and whose slots no other can take
(R129, R190): the core. -/
def State.wantsLost (s : State) (n p : Nat) (g : LegCfg) : Option Nat :=
  (s.part p).coreList.find? (fun q => s.lostAt n q || g.engines.any (fun e => (s.servers e.1 (clusterOf q)).isEmpty))

/-- Defer a ready leg: it is ready again in the next build (R234), and ROUTE_DEFER counts it from the boundary on (Table ROUTE-5); SHEET_FULL
where the sheet of core `full` has no room (R249); in a SAFETY or
MISSION partition with a LOST core or a failed engine its parts end with CORE_LOST, and a BEST_EFFORT job is reported to its port (R129,
R190). -/
def State.deferLeg (s : State) (n p j l : Nat) (full : Option Nat) (it : Iter) (copy : Nat) (g : LegCfg) : State :=
  let k := tget (0, 0) s.route.deferNew p
  let s := { s with route := { s.route with deferNew := tput s.route.deferNew p (k.1 + 1, k.2) } }.inc (F.ROUTE_DEFERRED_legs j)
  let s := match full with
    | some q => s.raise Code.SHEET_FULL [q, j, l]
    | none => s
  let s := s.raise Code.LEG_DEFERRED [p, j, l]
  match s.wantsLost n p g with
  | none => s
  | some q =>
    if (s.part p).criticality == critBESTEFFORT then
      (s.raise Code.CORE_LOST [q, p]).fire (s.get (F.ROUTE_PART_port p)) 4
    else
      (s.setIter { it with toPlace := it.toPlace.filter (fun e => e != (l, copy)), done := it.done ++ [(l, copy)] }).invalidate p
        it.tags Code.CORE_LOST

/-- The declaration of a leg in the sheets. -/
def State.legDecl (s : State) (g : LegRun) : LegCfg :=
  ((s.templateAt g.part g.gen (((s.job? g.job).map (fun b => b.template)).getD 0)).map (fun t => t.legs.getD g.leg leg0)).getD leg0

/-- The address of a verge slot that core `c` names: a core SRAM, the stripe store of its cluster, or any stripe store. -/
def State.slotAddrOf (_ : State) (c space off : Nat) : Nat :=
  if space = 0 then sramBase c + 64 * off % 0x800000
  else if space = 4 then stripeBase 0 + 64 * off % 0x10000000 else stripeBase (c / 5) + 64 * off % 0x2000000

/-- How many generations a word at place `i` of a stream posts or takes: once for each trip of the loops around it (R158). -/
def tripsAt (stream : List SheetWord) (i : Nat) : Nat :=
  (stream.take i).zipIdx.foldl (fun n e => if wClass e.1.word = 6 && i ≤ e.2 + wBody e.1.word then n * wImm32 e.1.word else n) 1

/-- How many generations the words of the core at position `k` of a leg post at the verge slot of a token, and how many they take. -/
def vergeCount (g : LegCfg) (k token : Nat) : Nat × Nat :=
  (upTo 4).foldl (fun a q =>
    let ws := g.stream k q
    ws.zipIdx.foldl (fun a e =>
      (a.1 + (if (signalsOf e.1.word).testBit token then tripsAt ws e.2 else 0),
       a.2 + (if (waitsOn e.1.word).testBit token then tripsAt ws e.2 else 0))) a) (0, 0)

/-- The generation `n` after `g` (R169). -/
def genAhead (g n : Nat) : Nat := (g + 65532 + n) % 65534 + 2

/-- The first generation that each verge token of a leg handles in the period, as the sheet's header gives it (R168, Table ROUTE-7): logical
core, token, generation. The builder computes it from the generations reached and what the legs `before` it still post and take there. -/
def State.firstGens (s : State) (before : List LegRun) (g : LegCfg) (cores : List Nat) : List (Nat × Nat × Nat) :=
  g.verges.map (fun v =>
    let l := cores.getD v.core 64
    let c := (s.physOf l).getD 0
    let a := s.slotAddrOf c v.space v.offset
    let post := v.producer == v.core
    let ahead := (before.map (fun r =>
      let d := s.legDecl r
      (d.verges.map (fun u =>
        let q := r.cores.getD u.core 64
        if r.done.contains q || s.slotAddrOf ((s.physOf q).getD 0) u.space u.offset != a then 0
        else
          let k := vergeCount d u.core u.token
          let had := ((r.verges.find? (fun e => e.1 == q && e.2.1 == a)).map (fun e => e.2.2)).getD (0, 0)
          if post then k.1 - had.2 else k.2 - had.1)).foldl (· + ·) 0)).foldl (· + ·) 0
    (l, v.token, genAhead (if post then tget 2 s.route.vergePut a else tget 2 s.route.vergeGet a) ahead))

/-- Of the ready legs of jobs (`job`), one of the job with the least virtual toll, ties to the lower index, and of a job the first of the list
(R234); the job `last`, whose leg found no place, is passed over while another has one. -/
def leastToll {α : Type} (job : α → Nat) (toll : Nat → Nat) (last : Option Nat) (l : List α) : Option α :=
  let other := l.filter (fun r => last != some (job r))
  (if other.isEmpty then l else other).foldl (fun (a : Option α) r => match a with
    | none => some r
    | some b => if toll (job r) < toll (job b) || (toll (job r) == toll (job b) && job r < job b) then some r else a) none

/-- Rounds of placement: the ready leg of the job with the least virtual toll, ties to the lower index; a leg that fits nowhere
is deferred and the next job takes its turn.  `gone` lists deferred legs, `last` the job passed over. -/
def State.rounds (s : State) (n p : Nat) (sel : Nat → Bool) (notOn : List Nat) :
    Nat → Sheets → List LegRun → List Ready → Option Nat → State × Sheets × List LegRun
  | 0, x, legs, _, _ => (s, x, legs)
  | fuel + 1, x, legs, gone, last =>
    let ready := (s.readyLegs n p).filter (fun r => sel r.2.1 && !gone.contains r)
    let toll := fun j => ((s.job? j).map (fun b => b.vtoll)).getD 0
    match leastToll (fun (r : Ready) => r.2.1) toll last ready with
    | none => (s, x, legs)
    | some r =>
      let (_, j, num, l, copy) := r
      match s.iterOf j num with
      | none => (s, x, legs)
      | some it =>
        let g := (((s.templateAt p it.gen (((s.job? j).map (fun b => b.template)).getD 0)).map (fun t => t.legs.getD l leg0)).getD leg0)
        let w := s.wantOf n p j l copy it g notOn
        match s.place n x w with
        | .error full => (s.deferLeg n p j l full it copy g).rounds n p sel notOn fuel x legs (gone ++ [r]) (some j)
        | .ok (t, cores, eng, net, x1) =>
          let run : LegRun := { id := s.route.nextId, part := p, job := j, iter := num, leg := l, copy := copy, gen := it.gen, period := n
                                start := t, span := w.span, cores := cores, done := [], snapshot := none, replays := 0, divZero := 0
                                codes := [], replayAt := none, callNo := 0, verges := [], eng := eng, net := net, marked := false
                                firstGen := s.firstGens (s.route.legs ++ legs) g cores, digest := none }
          let it1 := { it with toPlace := it.toPlace.filter (fun e => e != (l, copy))
                               placed := it.placed ++ [(l, copy, n, t + w.span, cores)] }
          let s := (s.setIter it1).charge n j (g.spanOf it.variant * cores.length) cores
          let s := { s with route := { s.route with nextId := s.route.nextId + 1 } }
          let s := if copy == 1 then s.inc (F.INTEG_RECOMP_LEGS_count p) else s
          s.rounds n p sel notOn fuel x1 (legs ++ [run]) gone none

/-- The legs that a build could place at most, counted for the fuel of its rounds. -/
def State.legCount (s : State) : Nat := (s.route.iters.map (fun it => it.toPlace.length)).foldl (· + ·) 0 + 1

/-- The partitions in the order of R233. -/
def State.buildOrder (s : State) : List Nat :=
  [critSAFETY, critMISSION, critBESTEFFORT].flatMap (fun c =>
    (upTo 8).filter (fun p => (s.part p).defined && (s.part p).criticality == c))

/-- Job `j` measures its solo baseline in period `n` (R244). -/
def State.soloAt (s : State) (n j : Nat) : Bool := (s.job? j).any (fun b => b.soloLeft != 0 && b.soloFrom ≤ n)

/-- Place one partition: a SOLO job first, alone on the cores of its iterations (R244). -/
def State.buildPart (s : State) (n p : Nat) (x : Sheets) (legs : List LegRun) : State × Sheets × List LegRun :=
  let (s, x, legs) := s.rounds n p (s.soloAt n) [] s.legCount x legs [] none
  let mine := (s.route.iters.filter (fun it => it.part == p && s.soloAt n it.job)).flatMap (fun it => it.placed.flatMap (fun e => e.2.2.2.2))
  s.rounds n p (fun j => !s.soloAt n j) mine s.legCount x legs [] none

/-- The iterations that share a core or an engine slot with a leg of another job in these sheets are not solo (R242). -/
def State.markShared (s : State) (x : Sheets) (legs : List LegRun) : State :=
  let coreShared := fun (g : LegRun) => g.cores.any (fun c => x.busy.any (fun b => b.core == c && b.job != g.job))
  let slotShared := fun (g : LegRun) => g.eng.any (fun e => x.eng.any (fun f =>
    f.kind == e.kind && f.unit == e.unit && f.job != g.job && f.start < e.stop && e.start < f.stop))
  { s with route := { s.route with iters := s.route.iters.map (fun it =>
    if legs.any (fun g => g.job == it.job && g.iter == it.num && (coreShared g || slotShared g)) then { it with alone := false } else it) } }

/-! ### The bytes of a sheet (R249, Tables ROUTE-7, ROUTE-8) -/

/-- Bytes in whole 16-byte units. -/
def pad16 (bs : List Byte) : List Byte := bs ++ List.replicate (16 * units16 bs.length - bs.length) 0

/-- The words of group `q` of logical core `l` in the sheet of the legs `mine`: legs that share a core use other groups, so that a stream holds
the words of leg after leg in the order of their starts, each leg's in its own order (R235). -/
def State.streamOf (s : State) (mine : List LegRun) (l q : Nat) : List SheetWord :=
  mine.flatMap (fun g => (s.legDecl g).stream (g.cores.idxOf l) q)

/-- The header's binding of verge token `k` on logical core `l` (Table ROUTE-7). -/
def State.vergeEntry (s : State) (mine : List LegRun) (l k : Nat) : List Byte :=
  match mine.findSome? (fun g => ((s.legDecl g).verges.find? (fun v => v.token == k && g.cores.getD v.core 64 == l)).map (fun v => (g, v))) with
  | none => List.replicate 8 0
  | some (g, v) => [1, 0] ++ leBytes 2 (((g.firstGen.find? (fun e => e.1 == l && e.2.1 == k)).map (fun e => e.2.2)).getD 0) ++
      leBytes 4 (v.space + 8 * v.offset)

/-- The sheet of logical core `l` of partition `p` for period `n`: header, leg table, transfer slot table, engine slot table and the four group
streams, with the CRC-32 of the whole (Tables ROUTE-7 and ROUTE-8). Its planned ticks are the end of its last leg (DESIGN CHOICE). -/
def State.sheetBytes (s : State) (n p l : Nat) (legs : List LegRun) : List Byte :=
  let mine := (legs.filter (fun g => g.cores.contains l)).mergeSort (fun a b => a.start ≤ b.start)
  let net := mine.flatMap (fun g => g.net.filter (fun z => z.core == l))
  let eng := mine.flatMap (fun g => g.eng.filter (fun z => z.core == l))
  let streams := (upTo 4).map (s.streamOf mine l)
  let legTab := mine.flatMap (fun g =>
    let d := s.legDecl g
    leBytes 1 g.job ++ [0] ++ leBytes 2 g.leg ++ leBytes 4 g.start ++ leBytes 4 g.span ++ leBytes 1 d.groups ++ leBytes 1 d.tokens ++
      leBytes 2 g.iter)
  let netTab := pad16 (net.flatMap (fun z => leBytes 1 (z.start % 256) ++ leBytes 1 z.path ++ leBytes 2 (z.start / 256)))
  let engTab := pad16 (eng.flatMap (fun z => leBytes 1 z.kind ++ leBytes 1 z.unit ++ [0, 0] ++ leBytes 4 z.start))
  let netAt := 8 + mine.length
  let engAt := netAt + netTab.length / 16
  let wordsAt := engAt + engTab.length / 16
  let walks := streams.any (fun ws => ws.any (fun x => wClass x.word == 10))
  let gen := (s.gen p + bit ((s.pool p).drafts.any (fun d => d.period == n))) % 2 ^ 32
  let variant := ((mine.filter (fun g => (s.legDecl g).kind == 1)).findSome? (fun g => (s.iterOf g.job g.iter).map (fun it => it.variant))).getD 0xFFFF
  let spans := (streams.foldl (fun (a : List Byte × Nat) ws => (a.1 ++ leBytes 2 a.2 ++ leBytes 2 ws.length, a.2 + ws.length)) ([], wordsAt)).1
  let head := leBytes 4 0x54454853 ++ leBytes 2 1 ++ leBytes 1 l ++ leBytes 1 p ++ leBytes 8 n ++
    leBytes 4 ((mine.map (fun g => g.start + g.span)).foldl max 0) ++ leBytes 2 mine.length ++ leBytes 2 net.length ++ leBytes 2 eng.length ++
    leBytes 2 variant ++ spans ++ [4, 5, 6, 7].flatMap (s.vergeEntry mine l) ++ leBytes 4 8 ++ leBytes 4 netAt ++ leBytes 4 engAt ++
    leBytes 4 (if walks then gen else 0) ++ List.replicate 32 0
  let rest := legTab ++ netTab ++ engTab ++ streams.flatMap (fun ws => ws.flatMap (fun x => leBytes 16 x.word.toNat))
  head ++ leBytes 4 (crc32 (head ++ [0, 0, 0, 0] ++ rest)) ++ rest

/-- What the sequencer finds wrong in a sheet before period `n`'s first word, if anything (R249): 0 magic, 1 CRC, 2 period number. -/
def sheetFault (n : Nat) (bs : List Byte) : Option Nat :=
  if recField bs 0 4 != 0x54454853 then some 0
  else if recField bs 124 4 != crc32 (bs.take 124 ++ [0, 0, 0, 0] ++ bs.drop 128) then some 1
  else if recField bs 8 8 != n then some 2
  else none

/-- The sheets of period `n` (R233, R234, R249). -/
def State.buildSheets (s : State) (n : Nat) : State :=
  let (s, x, legs) := s.buildOrder.foldl (fun (a : State × Sheets × List LegRun) p => a.1.buildPart n p a.2.1 a.2.2) (s, sheets0, [])
  let s := s.markShared x legs
  let cores := s.buildOrder.flatMap (fun p => (s.coresAt n p).map (fun l => (l, p)))
  let sheets := cores.foldl (fun t e => tput t e.1 (s.sheetBytes n e.2 e.1 legs)) []
  { s with route := { s.route with planned := legs, built := true, sheets := sheets } }

/-! ### Fit (R19, R237) -/

/-- A leg of the worst-case plan: its declaration, declared span, iteration, leg and copy. -/
structure PlanLeg where
  job : Nat
  iter : Nat
  leg : Nat
  copy : Nat
  cfg : LegCfg
  span : Nat
  deriving DecidableEq, Repr

/-- The legs of one iteration of a template with its largest variant, with the selections of the iteration that has the most. -/
def State.planIter (s : State) (j i : Nat) (t : TemplateCfg) (den : Nat) : List PlanLeg :=
  let picks := fun k => ((List.range t.legs.length).filter (fun l => recomputed den k l)).length
  let worst := (List.range den).foldl (fun b k => if picks k > picks b then k else b) 0
  (t.copies den worst true).map (fun e =>
    let g := t.legs.getD e.1 leg0
    { job := j, iter := i, leg := e.1, copy := e.2, cfg := g, span := g.spanOf (g.variants.length - 1) })

/-- The worst-case work of partition `p` with `jobs` (index and template index). -/
def State.planWork (s : State) (p : Nat) (jobs : List (Nat × Nat)) : List PlanLeg :=
  let den := s.denAt p (s.buildGen p)
  jobs.flatMap (fun e => match s.templateAt p (s.buildGen p) e.2 with
    | none => []
    | some t => (List.range (if t.cadence == 1 then t.eventRate else 1)).flatMap (fun i => s.planIter e.1 i t den))

/-- What is placed in the plan: (leg, its end, its cores). -/
abbrev PlanDone := List (PlanLeg × Nat × List Nat)

/-- Place a leg of the plan: in the windows of the period in which its predecessors end, else in those of a later one. Every period of the plan
holds the same legs of successive iterations, so that a chain longer than a period goes on in the next (R19): `k` counts the periods that the
leg lies after its release. Answers the end since the release, the cores and the sheets. -/
def State.planTry (s : State) (n : Nat) (x : Sheets) (w : Want) : Nat → Nat → Option (Nat × List Nat × Sheets)
  | 0, _ => none
  | fuel + 1, k =>
    let t := s.periodTicks
    match s.place n x { w with ready := fun q => w.ready q - k * t } with
    | .ok (a, cores, _, _, x1) => some (k * t + a + w.span, cores, x1)
    | .error _ => s.planTry n x w fuel (k + 1)

/-- Place the plan's legs by the rounds of R234, each after its predecessors, on no core of `notOn`; `tolls` are the virtual tolls as the plan
charges them. Answers the sheets and whether every leg landed. -/
def State.planPlace (s : State) (n p : Nat) (notOn : List Nat) : Nat → List PlanLeg → Sheets → PlanDone → Tab Nat → Bool → Sheets × Bool
  | 0, todo, x, _, _, ok => (x, ok && todo.isEmpty)
  | fuel + 1, todo, x, done, tolls, ok =>
    let same := fun (a b : PlanLeg) => a.job == b.job && a.iter == b.iter
    let isReady := fun (a : PlanLeg) => a.cfg.preds.all (fun q => !todo.any (fun b => same a b && b.leg == q && b.copy == 0)) &&
      (a.copy == 0 || !todo.any (fun b => same a b && b.leg == a.leg && b.copy < a.copy))
    match leastToll (fun (a : PlanLeg) => a.job) (tget 0 tolls) none (todo.filter isReady) with
    | none => (x, ok && todo.isEmpty)
    | some a =>
      let preds := done.filter (fun d => same d.1 a && a.cfg.preds.contains d.1.leg && d.1.copy == 0)
      let mine := (done.filter (fun d => same d.1 a && d.1.leg == a.leg)).flatMap (fun d => d.2.2)
      let gap := s.spanNow 256
      let last := (preds.map (fun d => d.2.1 + gap)).foldl max 0
      let w : Want := { part := p, job := a.job, leg := a.cfg, span := s.spanAt n p a.cfg a.span
                        ready := fun q => (preds.map (fun d =>
                          d.2.1 + (if d.2.2.any (fun c => clusterOf c != clusterOf q) then gap else 0))).foldl max 0
                        notOn := notOn ++ (if a.copy == 0 then [] else mine), avoid := if a.copy == 1 then mine.map clusterOf else [] }
      let rest := todo.filter (fun b => b != a)
      -- from the period that its predecessors reach, one period more than they do
      match s.planTry n x w (last / max s.periodTicks 1 + 2) 0 with
      | none => s.planPlace n p notOn fuel rest x done tolls false
      | some (stop, cores, x1) =>
        let weight := ((s.job? a.job).map (s.weightAt n a.job)).getD 1
        let tolls := tput tolls a.job (tget 0 tolls a.job + a.span * cores.length * 1024 / max weight 1)
        s.planPlace n p notOn fuel rest x1 (done ++ [(a, stop, cores)]) tolls ok

/-- The admitted jobs of partition `p` as of period `n`: index and template. -/
def State.jobsOf (s : State) (n p : Nat) : List (Nat × Nat) :=
  (s.route.jobs.filter (fun e => e.2.part == p && (match e.2.retireAt with | some r => n < r | none => true))).map
    (fun e => (e.1, e.2.template))

/-- The busiest core of partition `p` in the plan's sheets: its planned ticks. -/
def State.busiest (s : State) (p : Nat) (x : Sheets) : Nat :=
  ((s.part p).coreList.map (fun q => ((x.busy.filter (fun b => b.core == q)).map (fun b => b.stop - b.start)).foldl (· + ·) 0)).foldl max 0

/-- What the checker's time takes of the latency of a partition whose templates are `ts`, in ps (R369): judging a batch step of n verdicts takes
4 + 2 × n µs from its last record, and what is beyond the 20 µs of Table ROAD-3 counts to the compute part; a step gives at most one verdict
for each sequence of its batch. -/
def checkerTime (ts : List TemplateCfg) : Nat :=
  let n := (ts.map (fun t => if t.legs.any (fun l => l.verdict) then (t.model.map (fun m => m.maxSeq)).getD 1 else 0)).foldl max 0
  (4 + 2 * n - 20) * 1000000

/-- The latency condition of R19 for partitions that give verdicts: period plus the road legs at the pace in force, and the checker's time
beyond its row, 280 µs. -/
def State.latencyOk (s : State) (p : Nat) (jobs : List (Nat × Nat)) : Bool :=
  let ts := ((jobs.map (fun e => e.2)).eraseDups).filterMap (fun t => s.templateAt p (s.buildGen p) t)
  let legs := ts.flatMap (fun t => t.legs)
  if legs.any (fun l => l.verdict) then
    s.cfg.pace.periodUs * 1000000 + checkerTime ts +
      ((legs.filter (fun l => l.road)).map (fun l => l.spanOf (l.variants.length - 1))).foldl (· + ·) 0 * s.get F.PACE_STATUS_pace ≤
      280000000
  else true

/-- The worst-case plan of partition `p` with `jobs` on what the sheets `x` leave, and with the jobs other than `solo` kept off its cores where
one is named (R237, R244). -/
def State.planPart (s : State) (n p : Nat) (jobs : List (Nat × Nat)) (solo : Option Nat) (x : Sheets) : Sheets × Bool :=
  let tolls := jobs.foldl (fun t e => tput t e.1 (((s.job? e.1).map (fun b => b.vtoll)).getD 0)) []
  let place := fun (l : List (Nat × Nat)) (notOn : List Nat) (x : Sheets) =>
    let work := s.planWork p l
    s.planPlace n p notOn work.length work x [] tolls true
  match solo with
  | none => place jobs [] x
  | some j =>
    let (x1, ok1) := place (jobs.filter (fun e => e.1 == j)) [] x
    let used := (x1.busy.filter (fun b => b.job == j && (s.part p).coreList.contains b.core)).map (fun b => b.core)
    let (x2, ok2) := place (jobs.filter (fun e => e.1 != j)) used x1
    (x2, ok1 && ok2)

/-- The worst-case plan as of period `n` with `extra` jobs (partition, index, template) and with a job that measures its solo baseline
(partition, index), if one does: for each SAFETY and MISSION partition, whether it fits and its busiest core's ticks (R237, R244). -/
def State.fitPlan (s : State) (n : Nat) (extra : List (Nat × Nat × Nat)) (solo : Option (Nat × Nat) := none) : List (Nat × Bool × Nat) :=
  let order := s.buildOrder.filter (fun p => (s.part p).criticality != critBESTEFFORT)
  (order.foldl (fun (a : Sheets × List (Nat × Bool × Nat)) p =>
    let jobs := s.jobsOf n p ++ (extra.filter (fun e => e.1 == p)).map (fun e => e.2)
    let (x, ok) := s.planPart n p jobs ((solo.filter (fun e => e.1 == p)).map (fun e => e.2)) a.1
    let fenced := !s.liveDetours && (s.part p).coreList.any (fun l => s.lostAt n l)
    let fit := ok && s.latencyOk p jobs && !(s.get F.PACE_MODE_free).testBit p && !fenced
    (x, a.2 ++ [(p, fit, s.busiest p x)])) (sheets0, [])).2

/-- Re-evaluate fit at a build: each change is written and raises the ROUTE vector (R237). -/
def State.checkFit (s : State) (n : Nat) (quiet : Bool) : State :=
  s.each (s.fitPlan n []) (fun s e =>
    let (p, fit, ticks) := e
    let was := s.on (F.ROUTE_PART_fit p)
    let s := (s.setB (F.ROUTE_PART_fit p) fit).set (F.ROUTE_FIT_ticks p) ticks
    if fit == was || quiet then s
    else (s.raise (if fit then Code.FIT_RESTORED else Code.FIT_LOST) [p, ticks, s.get F.PACE_STATUS_pace]).fireOwners (some p) 5)

end Sys2Proof.Machine
end

