-- ==== Sys2Proof/Machine/Pixels.lean ====
section
/-! DEFINITION. The arithmetic of the image pipeline on the pixels of one line (R273, R278 to R280, R282, Tables ISP-1 to
ISP-5), and the reading of a parameter set (R276, R277). -/

namespace Sys2Proof.Machine

/-! ### Pixels -/

/-- Pixels of `bits` bits from a little-endian bit stream, the first in the lowest bits. -/
def unpackBits (bits : Nat) : List Byte → Nat → Nat → List Nat
  | [], _, _ => []
  | b :: bs, acc, have_ =>
    let acc := acc + b.toNat * 2 ^ have_
    let have_ := have_ + 8
    if have_ ≥ bits then (acc % 2 ^ bits) :: unpackBits bits bs (acc / 2 ^ bits) (have_ - bits)
    else unpackBits bits bs acc have_

/-- The U16 values of `n` pixels, expanded by a left shift of 16 − depth (R273). -/
def expand (format n : Nat) (data : List Byte) : List Nat :=
  let bits := packBits format
  ((unpackBits bits data 0 0).take n).map (fun v => v * 2 ^ (16 - bits))

/-- Clamp to 0 to 65,535. -/
def sat16 (v : Int) : Nat := if v < 0 then 0 else if v > 65535 then 65535 else v.toNat

/-- Round half up of `v` over a positive divisor. -/
def roundDiv (v : Int) (d : Nat) : Int := (2 * v + d) / (2 * d : Nat)

/-- The rounded mean of some values. -/
def meanOf (l : List Nat) : Nat := (roundDiv ((l.foldl (· + ·) 0 : Nat)) (max l.length 1)).toNat

/-- A list with its indices. -/
def indexed {α : Type} (l : List α) : List (Nat × α) := (List.range l.length).zip l

/-! ### Steps 1 to 3 -/

/-- The black level position of column `x` of a line with colour row `r`, image row `y` (Table ISP-3). -/
def blackIndex (kind cfa r y x : Nat) : Nat :=
  if kind = 1 then r else if kind = 2 && cfa != 0 then (y % 2) * 2 + x % 2 else 0

/-- Step 1: black level. -/
def stepBlack (q : ParamSet) (kind cfa r y : Nat) (px : List Nat) : List Nat :=
  (indexed px).map (fun e => e.2 - q.black.getD (blackIndex kind cfa r y e.1) 0)

/-- The defect columns of a row. -/
def defectCols (q : ParamSet) (kind r y : Nat) : List Nat :=
  (q.defects.filter (fun d => (kind != 1 || d.2.1 == r) && (kind != 2 || d.2.2 == y))).map (fun d => d.1)

/-- The nearest neighbour that is not listed itself, at up to four steps of `dist` to one side. -/
def neighbour (px cols : List Nat) (x dist : Nat) (left : Bool) : Option Nat :=
  [1, 2, 3, 4].findSome? (fun j =>
    let d := j * dist
    if left then (if x < d || cols.contains (x - d) then none else px[x - d]?)
    else if cols.contains (x + d) then none else px[x + d]?)

/-- Step 2: defect pixels. -/
def stepDefects (q : ParamSet) (kind cfa r y : Nat) (px : List Nat) : List Nat :=
  let cols := defectCols q kind r y
  if cols.isEmpty then px
  else
    let dist := if kind = 2 && cfa != 0 then 2 else 1
    (indexed px).map (fun e =>
      if !cols.contains e.1 then e.2
      else match neighbour px cols e.1 dist true, neighbour px cols e.1 dist false with
        | some a, some b => meanOf [a, b]
        | some a, none => a
        | none, some b => b
        | none, none => 0)

/-- Step 3: flat field. -/
def stepFlat (q : ParamSet) (r : Nat) (px : List Nat) : List Nat :=
  if q.flat.isEmpty then px
  else (px.zip (q.flat.drop (r * q.width))).map (fun e => sat16 (roundDiv ((e.1 - e.2.1) * e.2.2 : Nat) 16384))

/-- Steps 1 to 3 of one colour row. -/
def correctRow (q : ParamSet) (kind cfa r y : Nat) (px : List Nat) : List Nat :=
  stepFlat q r (stepDefects q kind cfa r y (stepBlack q kind cfa r y px))

/-! ### Steps 4 to 7 -/

/-- Step 4 for a colour row that lies between two lines, at `f` / 256. -/
def interpolate (a b : List Nat) (f : Nat) : List Nat :=
  if f = 0 then a else (a.zip b).map (fun e => (roundDiv (e.1 * (256 - f) + e.2 * f : Nat) 256).toNat)

/-- The colour of a Bayer position: 0 R, 1 G, 2 B, for the arrangements 1 to 4 of Table ISP-1. -/
def bayerColour (cfa y x : Nat) : Nat :=
  let k := (y % 2) * 2 + x % 2
  match cfa, k with
  | 1, 0 => 0 | 1, 3 => 2
  | 2, 1 => 0 | 2, 2 => 2
  | 3, 2 => 0 | 3, 1 => 2
  | 4, 3 => 0 | 4, 0 => 2
  | _, _ => 1

/-- Step 4, demosaic of row `y`: each missing colour is the rounded mean of its nearest samples of that colour. At an image edge
the edge column of the colour's own samples is replicated: column 1 stands for column −1, and w − 2 for w (DEDUCED). -/
def demosaic (cfa y : Nat) (up mid dn : List Nat) : List (List Nat) :=
  let w := mid.length
  let at_ := fun (l : List Nat) (x : Nat) (dx : Int) =>
    let i : Int := (x : Int) + dx
    l.getD (if i < 0 then 1 else if i.toNat = w then w - 2 else i.toNat) 0
  let horiz := fun x => meanOf [at_ mid x (-1), at_ mid x 1]
  let vert := fun x => meanOf [at_ up x 0, at_ dn x 0]
  let cross := fun x => meanOf [at_ mid x (-1), at_ mid x 1, at_ up x 0, at_ dn x 0]
  let diag := fun x => meanOf [at_ up x (-1), at_ up x 1, at_ dn x (-1), at_ dn x 1]
  let rowHas := fun c => bayerColour cfa y 0 == c || bayerColour cfa y 1 == c
  let pick := fun (c x : Nat) =>
    let own := bayerColour cfa y x
    if own == c then at_ mid x 0
    else if c == 1 then cross x
    else if own == 1 then (if rowHas c then horiz x else vert x)
    else diag x
  [0, 1, 2].map (fun c => (List.range w).map (fun x => pick c x))

/-- Step 5: white balance of one colour. -/
def stepBalance (g : Nat) (px : List Nat) : List Nat := px.map (fun c => sat16 (roundDiv (c * g : Nat) 8192))

/-- Step 6: the colour matrix. -/
def stepMatrix (q : ParamSet) (planes : List (List Nat)) : List (List Nat) :=
  match planes with
  | [r, g, b] =>
    [0, 1, 2].map (fun i =>
      let m := fun j => q.matrix.getD (3 * i + j) 0
      (r.zip (g.zip b)).map (fun e =>
        sat16 (roundDiv (m 0 * e.1 + m 1 * e.2.1 + m 2 * e.2.2) 4096 + q.offs.getD i 0)))
  | l => l

/-- Step 7: tone curve `c`. -/
def stepTone (q : ParamSet) (c : Nat) (px : List Nat) : List Nat :=
  match q.tone[c]? with
  | none => px.map (fun x =>
      let i := x / 64
      let f := x % 64
      ((min (64 * i) 65535 * (64 - f) + min (64 * (i + 1)) 65535 * f) + 32) / 64)
  | some t => px.map (fun x =>
      let i := x / 64
      let f := x % 64
      (t.getD i 0 * (64 - f) + t.getD (i + 1) 0 * f + 32) / 64)

/-- Steps 5 and 6: a colour row of planes; MONO skips them. -/
def colourSteps (q : ParamSet) (planes : List (List Nat)) : List (List Nat) :=
  if planes.length = 3 then
    stepMatrix q ((indexed planes).map (fun e => stepBalance (q.wb.getD e.1 8192) e.2))
  else planes

/-- Step 7 on every plane. -/
def toneSteps (q : ParamSet) (planes : List (List Nat)) : List (List Nat) := (indexed planes).map (fun e => stepTone q e.1 e.2)

/-! ### Outputs (R280) -/

/-- Sum equal-length rows. -/
def sumRows : List (List Nat) → List Nat
  | [] => []
  | [a] => a
  | a :: l => (a.zip (sumRows l)).map (fun e => e.1 + e.2)

/-- Sums of groups of `h` values, with fewer left over dropped; `fuel` bounds the groups. -/
def groupSums (h : Nat) : Nat → List Nat → List Nat
  | 0, _ => []
  | k + 1, l => (l.take h).foldl (· + ·) 0 :: groupSums h k (l.drop h)

/-- Box average of the crop of `v` rows: each output pixel the rounded mean of its h × v source pixels. -/
def boxRow (o : OutRec) (rows : List (List Nat)) : List Nat :=
  let crop := rows.map (fun r => (r.drop o.x0).take o.cropW)
  (groupSums o.h (o.cropW / o.h) (sumRows crop)).map (fun (t : Nat) => (roundDiv t (o.h * o.v)).toNat)

/-- A U8 or U16 pixel as bytes. -/
def pixelBytes (format v : Nat) : List Byte := if format = 0xE then leBytes 1 (min ((v + 128) / 256) 255) else leBytes 2 v

/-- Output width and height of a record, for a frame of `height` rows. -/
def OutRec.width (o : OutRec) : Nat := o.cropW / max o.h 1
def OutRec.height (o : OutRec) : Nat := o.cropH / max o.v 1

/-- The planes of a processed row that a content takes: a processed row holds its toned planes, then its mosaic. -/
def contentPlanes (content : Nat) (planes : List (List Nat)) : List (List Nat) :=
  match content with
  | 0 => planes.take 3
  | 1 => (planes.drop 0).take 1
  | 2 => (planes.drop 1).take 1
  | 3 => (planes.drop 2).take 1
  | 4 => planes.take 1
  | _ => planes.drop (planes.length - 1)

/-- Interleave equal-length planes pixel by pixel. -/
def interleave (planes : List (List Nat)) : List Nat :=
  let n := (planes.head?.getD []).length
  (List.range n).flatMap (fun x => planes.map (fun p => p.getD x 0))

/-- The bytes of an output row from its `v` source rows, zero-padded to the stride. -/
def outputBytes (o : OutRec) (rows : List (List (List Nat))) (lost : Bool) : List Byte :=
  let n := (contentPlanes o.content (rows.head?.getD [])).length
  let planes := (List.range n).map (fun i => boxRow o (rows.map (fun r => (contentPlanes o.content r).getD i [])))
  let bs := if lost then [] else (interleave planes).flatMap (pixelBytes o.format)
  (bs ++ List.replicate (o.stride * 64) 0).take (o.stride * 64)

/-! ### CRC-64 (R282) -/

/-- One byte of CRC-64 with the ECMA-182 polynomial, highest bit first. -/
def crc64Byte (c : Nat) (b : Nat) : Nat :=
  (List.range 8).foldl (fun c _ =>
    if c ≥ 2 ^ 63 then (c * 2 % 2 ^ 64) ^^^ 0x42F0E1EBA9EA3693 else c * 2) (c ^^^ (b * 2 ^ 56))

/-- Continue a frame signature over U16 pixels, little-endian. -/
def crc64Pixels (c : Nat) (px : List Nat) : Nat := px.foldl (fun c v => crc64Byte (crc64Byte c (v % 256)) (v / 256)) c

/-! ### Parameter sets (Tables ISP-2, ISP-3, ISP-5) -/

/-- The unity set (R277) of a context of a kind: no width of its own and no statistics ring. -/
def unitySet (kind : Nat) : ParamSet :=
  { mask := 0, width := 0, statsOff := 0, statsEntries := 0, black := [0, 0, 0, 0], defects := [], flat := [], dG := 0
    dB := 0, wb := [8192, 8192, 8192], matrix := [4096, 0, 0, 0, 4096, 0, 0, 0, 4096], offs := [0, 0, 0], tone := []
    outputs := [], frameLines := if kind = 2 then 1024 else 4096, timeoutUs := 10000, lateUs := 0, lateLost := true
    bytes := 0, digest := 0 }

/-- Refusal reasons of ISP_CTX_RESULT (Table ISP-11). -/
def ispFORMAT : Nat := 1
def ispDIGEST : Nat := 2
def ispKIND : Nat := 3
def ispRANGE : Nat := 4
def ispSPACE : Nat := 5
def ispBUSY : Nat := 6
def ispAGE : Nat := 7
def ispDESTINATION : Nat := 8
def ispRESTART : Nat := 9

/-- Size of section `bit` at `pos` of a set. -/
def sectionSize (bs : List Byte) (rows width bit pos : Nat) : Nat :=
  match bit with
  | 0 => 8
  | 1 => 2 + 4 * recField bs pos 2
  | 2 => rows * width * 4
  | 3 => 4
  | 4 => 6
  | 5 => 24
  | 6 => if recField bs pos 1 = 0 then 2 + 3 * 1025 * 2 else 2
  | 7 => 1 + 32 * recField bs pos 1
  | _ => 13

/-- The place of each present section, in presence-mask order, each from a 64-byte boundary. -/
def sectionPlaces (bs : List Byte) (rows width mask : Nat) : List (Nat × Nat) :=
  ((List.range 9).foldl (fun (st : Nat × List (Nat × Nat)) bit =>
    if mask.testBit bit then
      let pos := (st.1 + 63) / 64 * 64
      (pos + sectionSize bs rows width bit pos, st.2 ++ [(bit, pos)])
    else st) (64, [])).2

/-- The end of the last section. -/
def sectionsEnd (bs : List Byte) (rows width : Nat) (places : List (Nat × Nat)) : Nat :=
  places.foldl (fun _ e => e.2 + sectionSize bs rows width e.1 e.2) 64

/-- An output record. -/
def readOutput (r : List Byte) : OutRec :=
  { content := recField r 0 1, format := recField r 1 1, h := recField r 2 1, v := recField r 3 1, x0 := recField r 4 2
    cropW := recField r 6 2, y0 := recField r 8 2, cropH := recField r 10 2, dest := recField r 12 1
    ring := recField r 14 2, ringOff := recField r 16 4, stride := recField r 20 4, tagOff := recField r 24 4 }

/-- The `n` U16 values at `pos`. -/
def readU16s (bs : List Byte) (pos n : Nat) : List Nat := (List.range n).map (fun i => recField bs (pos + 2 * i) 2)

/-- Take one section into a set. -/
def readSection (bs : List Byte) (rows width : Nat) (presets : List (List (List Nat))) (q : ParamSet) (bit pos : Nat) :
    ParamSet :=
  match bit with
  | 0 => { q with black := readU16s bs pos 4 }
  | 1 => { q with defects := (List.range (recField bs pos 2)).map (fun i =>
      let a := recField bs (pos + 2 + 4 * i) 2
      (a % 2 ^ 14, a / 2 ^ 14, recField bs (pos + 4 + 4 * i) 2)) }
  | 2 => { q with flat := (List.range (rows * width)).map (fun i =>
      (recField bs (pos + 4 * i) 2, recField bs (pos + 4 * i + 2) 2)) }
  | 3 => { q with dG := toSigned 16 (recField bs pos 2), dB := toSigned 16 (recField bs (pos + 2) 2) }
  | 4 => { q with wb := readU16s bs pos 3 }
  | 5 => { q with matrix := (readU16s bs pos 9).map (fun v => toSigned 16 v)
                  offs := (readU16s bs (pos + 18) 3).map (fun v => toSigned 16 v) }
  | 6 =>
    if recField bs pos 1 = 0 then
      { q with tone := [0, 1, 2].map (fun c => readU16s bs (pos + 2 + 2050 * c) 1025) }
    else { q with tone := presets.getD (recField bs (pos + 1) 1) [] }
  | 7 => { q with outputs := (List.range (recField bs pos 1)).map (fun i => readOutput ((bs.drop (pos + 1 + 32 * i)).take 32)) }
  | _ => { q with frameLines := recField bs pos 4, timeoutUs := recField bs (pos + 4) 4, lateUs := recField bs (pos + 8) 4
                  lateLost := recField bs (pos + 12) 1 != 0 }

/-- The content of a record suits the kind of the context (an AREA context is MONO or colour by its lines' arrangement, which
the set does not say); 0xE and 0xF are the formats. -/
def outputSuits (kind : Nat) (o : OutRec) : Bool :=
  (if kind == 0 then o.content == 4 || o.content == 5 else if kind == 1 then o.content ≤ 3 || o.content == 5
    else o.content ≤ 5) &&
    (o.format == 0xE || o.format == 0xF) && 1 ≤ o.h && o.h ≤ 16 && 1 ≤ o.v && o.v ≤ 16 && 1 ≤ o.ring &&
    (o.content != 5 || (o.h == 1 && o.v == 1)) && (kind == 2 || (o.y0 == 0 && o.cropH == 0))

/-- The rows that a ring slot of a record holds, and its byte extents: the ring's end and the tag plane's end. -/
def OutRec.ends (o : OutRec) (kind : Nat) : Nat × Nat :=
  let n := o.ring * (if kind = 2 then o.height else 1)
  (64 * o.ringOff + n * o.stride * 64, 64 * o.tagOff + 16 * n)

/-- The bytes of one row of a record. -/
def OutRec.rowBytes (o : OutRec) : Nat := o.width * (if o.content = 0 then 3 else 1) * (if o.format = 0xE then 1 else 2)

/-- Why a record is refused. -/
def outputReason (kind width height pages : Nat) (o : OutRec) : Option Nat :=
  if !outputSuits kind o || o.x0 + o.cropW > width || o.rowBytes > o.stride * 64 ||
      (kind == 2 && o.y0 + o.cropH > height) then some ispRANGE
  else
    let e := o.ends kind
    if o.dest == 2 then (if e.1 > pages * 65536 || e.2 > pages * 65536 then some ispDESTINATION else none)
    else if o.dest == 3 then (if e.1 > 0x2000000 || e.2 > 0x2000000 then some ispDESTINATION else none)
    else some ispDESTINATION

/-- The range checks on the sections of a set: reason and byte offset of the first that fails. -/
def rangeReason (bs : List Byte) (kind : Nat) (q : ParamSet) (presets pages : Nat) (places : List (Nat × Nat)) :
    Option (Nat × Nat) :=
  places.findSome? (fun e =>
    let pos := e.2
    let bad := fun (b : Bool) => if b then some (ispRANGE, pos) else none
    match e.1 with
    | 1 => bad (q.defects.length > 1024 || q.defects.any (fun d => d.1 ≥ q.width || (kind == 1 && d.2.1 ≥ 3)))
    | 3 => bad (q.dG.natAbs > 64 * 256 || q.dB.natAbs > 64 * 256)
    | 6 => bad (recField bs pos 1 > 1 || (recField bs pos 1 == 1 && recField bs (pos + 1) 1 ≥ presets))
    | 7 =>
      if q.outputs.length > 8 then some (ispRANGE, pos)
      else (indexed q.outputs).findSome? (fun o =>
        (outputReason kind q.width q.frameLines pages o.2).map (fun r => (r, pos + 1 + 32 * o.1)))
    | 8 => bad (!(if kind = 2 then 1 ≤ q.frameLines && q.frameLines ≤ 16384 else 256 ≤ q.frameLines && q.frameLines ≤ 65536) ||
        q.timeoutUs < 100 || q.timeoutUs > 1000000 || q.lateUs > 100000 || recField bs (pos + 12) 1 > 1)
    | _ => none)

/-- Read and check a parameter set (Table ISP-2) for a context of a kind whose partition has `pages` pages and these
presets: the set, or the reason and byte offset of the refusal. -/
def readSet (bs : List Byte) (len kind pages : Nat) (presets : List (List (List Nat))) :
    ParamSet ⊕ (Nat × Nat) :=
  let width := recField bs 10 2
  let mask := recField bs 8 2
  let rows := if kind = 1 then 3 else 1
  let places := sectionPlaces bs rows width mask
  if recField bs 0 4 != 0x53505349 then .inr (ispFORMAT, 0)
  else if recField bs 4 2 != 1 then .inr (ispFORMAT, 4)
  else if recField bs 6 1 != kind then .inr (ispKIND, 6)
  else if recField bs 7 1 != 0 then .inr (ispFORMAT, 7)
  else if mask ≥ 512 then .inr (ispFORMAT, 8)
  else if width = 0 || width > 16384 then .inr (ispRANGE, 10)
  else if recField bs 12 4 != len || recField bs 12 4 > 1048576 || bs.length != len then .inr (ispFORMAT, 12)
  else if leNat ((bs.drop 16).take 32) != leNat (sha3_256 (bs.drop 64)) then .inr (ispDIGEST, 16)
  else if recField bs 48 4 * 64 + 4096 * recField bs 52 2 > pages * 65536 then .inr (ispDESTINATION, 48)
  else if recField bs 52 2 = 0 || recField bs 52 2 > 64 then .inr (ispRANGE, 52)
  else if recField bs 54 10 != 0 then .inr (ispFORMAT, 54)
  else if sectionsEnd bs rows width places > len then .inr (ispFORMAT, 8)
  else
    let q0 := { unitySet kind with mask := mask, width := width, statsOff := recField bs 48 4, statsEntries := recField bs 52 2
                                   bytes := len, digest := digestOf ((bs.drop 16).take 32) }
    let q := places.foldl (fun q e => readSection bs rows width presets q e.1 e.2) q0
    match rangeReason bs kind q presets.length pages places with
    | some r => .inr r
    | none => .inl q

end Sys2Proof.Machine
end

