-- ==== Sys2Proof/Machine/Decoders.lean ====
section
/-! DEFINITION. The decoders of the input pipelines (R293, R294, Table INGEST-3): the headers of PNG and JPEG files, PNG down to its
samples, and the checks on a JPEG file's markers, tables and scans. The rules of both standards are PRESUMED: the spec names the
standards and does not repeat them. -/

namespace Sys2Proof.Machine

/-! ### Bits and Huffman codes -/

/-- The big-endian number in the `n` bytes from place `o`. -/
def beField (bs : List Byte) (o n : Nat) : Nat := ((bs.drop o).take n).foldl (fun v b => 256 * v + b.toNat) 0

/-- The bits of a byte, the lowest first. -/
def bitsUp (b : Byte) : List Bool := (List.range 8).map b.toNat.testBit

/-- Take `n` bits, the first the lowest. -/
def takeUp : Nat → List Bool → Option (Nat × List Bool)
  | 0, l => some (0, l)
  | _ + 1, [] => none
  | n + 1, b :: l => (takeUp n l).map (fun e => (bit b + 2 * e.1, e.2))

/-- A Huffman code: the length, the code and the symbol of each entry. -/
abbrev HuffCode := List (Nat × Nat × Nat)

/-- The canonical codes of (length, symbol) entries in ascending length, after a code `next` of length `len`. -/
def canonical : Nat → Nat → List (Nat × Nat) → HuffCode
  | _, _, [] => []
  | len, next, (l, v) :: rest => (l, next * 2 ^ (l - len), v) :: canonical l (next * 2 ^ (l - len) + 1) rest

/-- How much of the code space entries take, in units of 2^-16. -/
def codeSpace (l : List (Nat × Nat)) : Nat := (l.map (fun e => 2 ^ (16 - e.1))).foldl (· + ·) 0

/-- The next symbol; `len` bits of it, `code`, are read. -/
def huffSymbol (t : HuffCode) : Nat → Nat → List Bool → Option (Nat × List Bool)
  | _, _, [] => none
  | len, code, b :: l =>
    match t.find? (fun e => e.1 == len + 1 && e.2.1 == 2 * code + bit b) with
    | some e => some (e.2.2, l)
    | none => if 16 ≤ len + 1 then none else huffSymbol t (len + 1) (2 * code + bit b) l

/-! ### zlib streams -/

/-- The code of an alphabet from its code lengths: complete, or one code of length 1 or none where `few`. -/
def deflateCode (few : Bool) (lens : List Nat) : Option HuffCode :=
  let es := (List.range 16).flatMap (fun n => ((indexed lens).filter (fun e => n != 0 && e.2 == n)).map (fun e => (n, e.1)))
  if codeSpace es = 65536 || (few && es.all (fun e => e.1 == 1) && es.length ≤ 1) then some (canonical 0 0 es) else none

/-- Base and extra bits of a length symbol, and of a distance symbol. -/
def lengthOf (v : Nat) : Nat × Nat :=
  if v = 285 then (258, 0) else if v < 265 then (v - 254, 0)
  else ((4 + (v - 265) % 4) * 2 ^ ((v - 261) / 4) + 3, (v - 261) / 4)
def distanceOf (d : Nat) : Nat × Nat := if d < 4 then (d + 1, 0) else ((2 + d % 2) * 2 ^ (d / 2 - 1) + 1, d / 2 - 1)

/-- Append `n` bytes that stand `far` back; the output is kept newest first. -/
def copyBack (far : Nat) : Nat → List Byte → List Byte
  | 0, out => out
  | n + 1, out => copyBack far n (out.getD (far - 1) 0 :: out)

/-- The symbols of one compressed block. -/
def inflateSymbols (lit dist : HuffCode) (window : Nat) : Nat → List Bool → List Byte → Option (List Bool × List Byte)
  | 0, _, _ => none
  | fuel + 1, l, out => do
    let (v, l) ← huffSymbol lit 0 0 l
    if v < 256 then inflateSymbols lit dist window fuel l (BitVec.ofNat 8 v :: out)
    else if v = 256 then some (l, out)
    else if 285 < v then none
    else
      let (x, l) ← takeUp (lengthOf v).2 l
      let (d, l) ← huffSymbol dist 0 0 l
      if 29 < d then none
      else
        let (y, l) ← takeUp (distanceOf d).2 l
        let far := (distanceOf d).1 + y
        if out.length < far || window < far then none
        else inflateSymbols lit dist window fuel l (copyBack far ((lengthOf v).1 + x) out)

/-- The code lengths of a dynamic block: `n` of them, those read so far newest first. -/
def codeLengths (t : HuffCode) (n : Nat) : Nat → List Bool → List Nat → Option (List Nat × List Bool)
  | 0, _, _ => none
  | fuel + 1, l, acc =>
    if acc.length = n then some (acc.reverse, l)
    else if n < acc.length then none
    else do
      let (v, l) ← huffSymbol t 0 0 l
      if v < 16 then codeLengths t n fuel l (v :: acc)
      else
        let (x, l) ← takeUp (if v = 16 then 2 else if v = 17 then 3 else 7) l
        if v = 16 && acc.isEmpty then none
        else codeLengths t n fuel l (List.replicate ((if v = 18 then 11 else 3) + x) (if v = 16 then acc.headD 0 else 0) ++ acc)

/-- The codes of a dynamic block. -/
def dynamicCodes (l : List Bool) : Option (HuffCode × HuffCode × List Bool) := do
  let (hlit, l) ← takeUp 5 l
  let (hdist, l) ← takeUp 5 l
  let (hclen, l) ← takeUp 4 l
  let order := [16, 17, 18, 0, 8, 7, 9, 6, 10, 5, 11, 4, 12, 3, 13, 2, 14, 1, 15].take (hclen + 4)
  let cl := (List.range (hclen + 4)).map (fun i => (((takeUp (3 * i) l).bind (fun e => takeUp 3 e.2)).map (fun e => e.1)).getD 0)
  let (_, l) ← takeUp (3 * (hclen + 4)) l
  let t ← deflateCode false ((List.range 19).map (fun v => ((order.zip cl).find? (fun e => e.1 == v)).elim 0 (fun e => e.2)))
  let (lens, l) ← codeLengths t (hlit + hdist + 258) (hlit + hdist + 259) l []
  if lens.getD 256 0 = 0 || 29 < hlit || 29 < hdist then none
  else
    let lit ← deflateCode true (lens.take (hlit + 257))
    let dist ← deflateCode true (lens.drop (hlit + 257))
    some (lit, dist, l)

/-- The codes of a fixed block. -/
def fixedLit : Option HuffCode :=
  deflateCode false (List.replicate 144 8 ++ List.replicate 112 9 ++ List.replicate 24 7 ++ List.replicate 8 8)
def fixedDist : Option HuffCode := deflateCode false (List.replicate 32 5)

/-- A stored block, from the next byte boundary. -/
def storedBlock (l : List Bool) (out : List Byte) : Option (List Bool × List Byte) := do
  let l := l.drop (l.length % 8)
  let (n, l) ← takeUp 16 l
  let (m, l) ← takeUp 16 l
  if n + m ≠ 65535 then none
  else
    let (v, l) ← takeUp (8 * n) l
    some (l, (leBytes n v).reverse ++ out)

/-- The blocks of a Deflate stream. -/
def inflateBlocks (window : Nat) : Nat → List Bool → List Byte → Option (List Bool × List Byte)
  | 0, _, _ => none
  | fuel + 1, l, out => do
    let (final, l) ← takeUp 1 l
    let (kind, l) ← takeUp 2 l
    let (l, out) ←
      if kind = 0 then storedBlock l out
      else if kind = 3 then none
      else do
        let (lit, dist, l) ← if kind = 2 then dynamicCodes l else fixedLit.bind (fun a => fixedDist.map (fun b => (a, b, l)))
        inflateSymbols lit dist window (l.length + 1) l out
    if final = 1 then some (l, out) else inflateBlocks window fuel l out

/-- Adler-32. -/
def adler32 (bs : List Byte) : Nat :=
  let (a, b) := bs.foldl (fun (e : Nat × Nat) x => let a := (e.1 + x.toNat) % 65521; (a, (e.2 + a) % 65521)) (1, 0)
  65536 * b + a

/-- The content of a zlib stream: its header, its blocks, and its Adler-32 hold. -/
def zlibContent (bs : List Byte) : Option (List Byte) := do
  let cmf := beField bs 0 1
  let flg := beField bs 1 1
  if bs.length < 2 || cmf % 16 ≠ 8 || 7 < cmf / 16 || (256 * cmf + flg) % 31 ≠ 0 || flg.testBit 5 then none
  else
    let l := (bs.drop 2).flatMap bitsUp
    let (rest, out) ← inflateBlocks (2 ^ (cmf / 16 + 8)) (l.length + 1) l []
    let at_ := bs.length - rest.length / 8
    let data := out.reverse
    if bs.length < at_ + 4 || beField bs at_ 4 ≠ adler32 data then none else some data

/-! ### Headers (R294) -/

/-- Void causes of Table INGEST-4. -/
def vcCORRUPT : Nat := 1
def vcUNSUPPORTED : Nat := 2
def vcTOOLARGE : Nat := 3
def vcDIGEST : Nat := 4
def vcSTALE : Nat := 5
def vcOVERWRITTEN : Nat := 6
def vcLATE : Nat := 7
def vcSOURCE : Nat := 8
def vcBADDESCRIPTOR : Nat := 9

/-- What a file's header claims: width, height, and channels of the decoded image. -/
structure ImageHead where
  width : Nat
  height : Nat
  chans : Nat
  deriving DecidableEq, Repr

/-! ### PNG -/

/-- Chunk types. -/
def pngIHDR : List Byte := [0x49, 0x48, 0x44, 0x52]
def pngPLTE : List Byte := [0x50, 0x4C, 0x54, 0x45]
def pngIDAT : List Byte := [0x49, 0x44, 0x41, 0x54]
def pngIEND : List Byte := [0x49, 0x45, 0x4E, 0x44]

/-- The signature of a PNG file. -/
def pngSignature : List Byte := [0x89, 0x50, 0x4E, 0x47, 0x0D, 0x0A, 0x1A, 0x0A]

/-- A letter. -/
def isLetter (b : Byte) : Bool := let v := b.toNat; (0x41 ≤ v && v ≤ 0x5A) || (0x61 ≤ v && v ≤ 0x7A)

/-- The next chunk, its type and data, and what follows; none where its length, type or CRC is wrong. -/
def pngChunk (l : List Byte) : Option (List Byte × List Byte × List Byte) :=
  let n := beField l 0 4
  let ty := (l.drop 4).take 4
  if l.length < n + 12 || 2 ^ 31 ≤ n || !ty.all isLetter || crc32 ((l.drop 4).take (n + 4)) ≠ beField l (n + 8) 4 then none
  else some (ty, (l.drop 8).take n, l.drop (n + 12))

/-- The chunks up to IEND. -/
def pngChunks : Nat → List Byte → Option (List (List Byte × List Byte))
  | 0, _ => none
  | fuel + 1, l => do
    let (ty, data, rest) ← pngChunk l
    if ty = pngIEND then some [(ty, data)] else (pngChunks fuel rest).map (fun cs => (ty, data) :: cs)

/-- The chunks stand in order: IHDR first, at most one palette before the image data, the image data together, IEND last and empty, and no critical
chunk that the standard does not name. -/
def pngOrder (cs : List (List Byte × List Byte)) : Bool :=
  let tys := cs.map (fun c => c.1)
  let data := tys.dropWhile (fun t => t != pngIDAT)
  tys.head? == some pngIHDR && (tys.drop 1).all (fun t => t == pngPLTE || t == pngIDAT || t == pngIEND || 0x61 ≤ (t.headD 0).toNat) &&
    (tys.filter (fun t => t == pngPLTE)).length ≤ 1 && !data.isEmpty && !data.contains pngPLTE &&
    !(data.dropWhile (fun t => t == pngIDAT)).contains pngIDAT && (cs.getLast?.map (fun c => c.2)) == some []

/-- Samples of a pixel as stored, by colour type, and the bit depths that the type permits. -/
def pngSamples : Nat → Nat
  | 2 => 3
  | 4 => 2
  | 6 => 4
  | _ => 1
def pngDepths : Nat → List Nat
  | 0 => [1, 2, 4, 8, 16]
  | 3 => [1, 2, 4, 8]
  | 2 => [8, 16]
  | 4 => [8, 16]
  | 6 => [8, 16]
  | _ => []

/-- The header of a PNG file: its IHDR chunk. -/
def pngHead (bs : List Byte) : Nat ⊕ ImageHead :=
  match (if bs.take 8 = pngSignature then pngChunk (bs.drop 8) else none) with
  | none => .inl vcCORRUPT
  | some (ty, d, _) =>
    let (w, h, t) := (beField d 0 4, beField d 4 4, beField d 9 1)
    if ty ≠ pngIHDR || d.length ≠ 13 || w = 0 || h = 0 || 2 ^ 31 ≤ w || 2 ^ 31 ≤ h || !(pngDepths t).contains (beField d 8 1) ||
        beField d 10 2 ≠ 0 || 1 < beField d 12 1 then .inl vcCORRUPT
    else if beField d 12 1 = 1 then .inl vcUNSUPPORTED
    else .inr { width := w, height := h, chans := if t = 0 || t = 4 then 1 else 3 }

/-- The Paeth predictor. -/
def paeth (a b c : Nat) : Nat :=
  let p : Int := (a : Int) + b - c
  let (pa, pb, pc) := ((p - a).natAbs, (p - b).natAbs, (p - c).natAbs)
  if pa ≤ pb && pa ≤ pc then a else if pb ≤ pc then b else c

/-- Undo the filter of a row whose pixels take `bpp` bytes, from the row above. -/
def pngRow (bpp filter : Nat) (above row : List Byte) : List Byte :=
  ((row.zip (above.zip (List.replicate bpp 0 ++ above))).foldl (fun (done : List Byte) e =>
    let a := (done.getD (bpp - 1) 0).toNat
    let (b, c) := (e.2.1.toNat, e.2.2.toNat)
    let p := match filter with
      | 1 => a
      | 2 => b
      | 3 => (a + b) / 2
      | 4 => paeth a b c
      | _ => 0
    BitVec.ofNat 8 (e.1.toNat + p) :: done) []).reverse

/-- The rows of an image of `n` bytes a row, each behind its filter type; none where the data end early. -/
def pngRows (bpp n : Nat) : Nat → List Byte → List Byte → Option (List (List Byte))
  | 0, _, _ => some []
  | h + 1, above, data =>
    match data with
    | [] => none
    | t :: l =>
      if 4 < t.toNat || l.length < n then none
      else
        let row := pngRow bpp t.toNat above (l.take n)
        (pngRows bpp n h row (l.drop n)).map (fun rows => row :: rows)

/-- Sample `i` of a row of samples of `depth` bits, the first in the highest bits. -/
def pngSample (depth : Nat) (row : List Byte) (i : Nat) : Nat :=
  if depth = 16 then beField row (2 * i) 2
  else beField row (i * depth / 8) 1 / 2 ^ (8 - depth - i * depth % 8) % 2 ^ depth

/-- The samples of pixel `x` of a row as U16: alpha is dropped, and a palette entry expands to RGB; none for an entry that the palette lacks. -/
def pngPixel (colour depth : Nat) (pal row : List Byte) (x : Nat) : Option (List Nat) :=
  let n := pngSamples colour
  let v := fun i => pngSample depth row (n * x + i)
  if colour = 3 then
    if pal.length < 3 * v 0 + 3 then none else some ((List.range 3).map (fun i => 256 * beField pal (3 * v 0 + i) 1))
  else some ((List.range (if colour = 0 || colour = 4 then 1 else 3)).map (fun i => v i * 2 ^ (16 - depth)))

/-- The samples of a PNG file, none where it breaks the rules of its standard. -/
def pngPixels (bs : List Byte) : Option (List Nat) := do
  let cs ← pngChunks bs.length (bs.drop 8)
  if !pngOrder cs then none
  else
    let d := (cs.headD ([], [])).2
    let (w, h, depth, colour) := (beField d 0 4, beField d 4 4, beField d 8 1, beField d 9 1)
    let pal := (cs.find? (fun c => c.1 == pngPLTE)).map (fun c => c.2)
    let palOk := match pal with
      | none => colour != 3
      | some p => p.length % 3 == 0 && p.length != 0 && p.length ≤ 768 && colour != 0 && colour != 4 && (colour != 3 || p.length ≤ 3 * 2 ^ depth)
    if !palOk then none
    else
      let data ← zlibContent ((cs.filter (fun c => c.1 == pngIDAT)).flatMap (fun c => c.2))
      let bits := depth * pngSamples colour
      let n := cdiv (w * bits) 8
      let rows ← pngRows (max 1 (bits / 8)) n h (List.replicate n 0) data
      let px ← (rows.flatMap (fun r => (List.range w).map (fun x => pngPixel colour depth (pal.getD []) r x))).mapM id
      some (px.flatMap id)

/-! ### JPEG -/

/-- A component of a frame: its identifier, sampling factors, and quantisation table. -/
structure JpegComp where
  id : Nat
  h : Nat
  v : Nat
  tq : Nat
  deriving DecidableEq, Repr

/-- A frame header: sequential with extensions, precision, size, components. -/
structure JpegFrame where
  extended : Bool
  precision : Nat
  width : Nat
  height : Nat
  comps : List JpegComp
  deriving DecidableEq, Repr

/-- What the markers of a file have defined: the frame, the quantisation tables, the DC and AC codes by table, the restart interval, and the
components whose scan is complete. -/
structure JpegSt where
  frame : Option JpegFrame
  quants : List Nat
  dc : Tab HuffCode
  ac : Tab HuffCode
  restart : Nat
  coded : List Nat
  deriving DecidableEq, Repr

/-- The next marker, which fill bytes may precede, and what follows. -/
def jpegMarker : List Byte → Option (Nat × List Byte)
  | b :: l =>
    if b ≠ 0xFF then none
    else match l.dropWhile (fun x => x == 0xFF) with
      | m :: rest => some (m.toNat, rest)
      | [] => none
  | [] => none

/-- The parameters of a marker segment, and what follows. -/
def jpegSegment (l : List Byte) : Option (List Byte × List Byte) :=
  let n := beField l 0 2
  if n < 2 || l.length < n then none else some ((l.take n).drop 2, l.drop n)

/-- Markers of frames, tables or procedures outside the subset: progressive, lossless, hierarchical and arithmetic coding, and a height that only the
scan's end gives. -/
def jpegOutside (m : Nat) : Bool :=
  [0xC2, 0xC3, 0xC5, 0xC6, 0xC7, 0xC8, 0xC9, 0xCA, 0xCB, 0xCC, 0xCD, 0xCE, 0xCF, 0xDC, 0xDE, 0xDF].contains m

/-- Segments that are passed over: application segments and comments. -/
def jpegIgnored (m : Nat) : Bool := (0xE0 ≤ m && m ≤ 0xEF) || m == 0xFE

/-- A frame header of baseline (0xC0) or extended sequential (0xC1) coding, or the cause that voids the sample. -/
def jpegFrame (m : Nat) (d : List Byte) : Nat ⊕ JpegFrame :=
  let n := beField d 5 1
  let cs := (List.range n).map (fun i =>
    ({ id := beField d (6 + 3 * i) 1, h := beField d (7 + 3 * i) 1 / 16, v := beField d (7 + 3 * i) 1 % 16, tq := beField d (8 + 3 * i) 1 } : JpegComp))
  let p := beField d 0 1
  if d.length ≠ 6 + 3 * n || n = 0 || beField d 3 2 = 0 || !(p = 8 || (p = 12 && m = 0xC1)) || (cs.map (fun c => c.id)).eraseDups.length ≠ n ||
      cs.any (fun c => c.h = 0 || 4 < c.h || c.v = 0 || 4 < c.v || 3 < c.tq) then .inl vcCORRUPT
  else if !(n = 1 || n = 3) || beField d 1 2 = 0 || cs.any (fun c => 2 < c.h || 2 < c.v) then .inl vcUNSUPPORTED
  else .inr { extended := m == 0xC1, precision := p, width := beField d 3 2, height := beField d 1 2, comps := cs }

/-- The frame header of a file from the segments behind its start-of-image marker. -/
def jpegHeader : Nat → List Byte → Nat ⊕ JpegFrame
  | 0, _ => .inl vcCORRUPT
  | fuel + 1, l =>
    match jpegMarker l with
    | none => .inl vcCORRUPT
    | some (m, l) =>
      if jpegOutside m then .inl vcUNSUPPORTED
      else match jpegSegment l with
        | none => .inl vcCORRUPT
        | some (d, rest) =>
          if m = 0xC0 || m = 0xC1 then jpegFrame m d
          else if jpegIgnored m || m = 0xC4 || m = 0xDB || m = 0xDD then jpegHeader fuel rest
          else .inl vcCORRUPT

/-- The header of a JPEG file. -/
def jpegHead (bs : List Byte) : Nat ⊕ ImageHead :=
  if bs.take 2 ≠ [0xFF, 0xD8] then .inl vcCORRUPT
  else match jpegHeader bs.length (bs.drop 2) with
    | .inl c => .inl c
    | .inr f => .inr { width := f.width, height := f.height, chans := f.comps.length }

/-- The Huffman tables of a segment: a code has no more entries than its lengths hold, with the code of all ones left over. -/
def jpegCodes (most : Nat) : Nat → List Byte → JpegSt → Option JpegSt
  | 0, _, _ => none
  | fuel + 1, d, st =>
    if d.isEmpty then some st
    else
      let (tc, th) := (beField d 0 1 / 16, beField d 0 1 % 16)
      let counts := (List.range 16).map (fun i => beField d (1 + i) 1)
      let n := counts.foldl (· + ·) 0
      let lens := (indexed counts).flatMap (fun e => List.replicate e.2 (e.1 + 1))
      let es := lens.zip ((d.drop 17).map (fun b => b.toNat))
      if 1 < tc || most < th || 256 < n || d.length < 17 + n || 65536 ≤ codeSpace es then none
      else
        let t := canonical 0 0 es
        jpegCodes most fuel (d.drop (17 + n)) (if tc = 0 then { st with dc := tset [] st.dc th t } else { st with ac := tset [] st.ac th t })

/-- The quantisation tables of a segment, by number. -/
def jpegQuants : Nat → List Byte → List Nat → Option (List Nat)
  | 0, _, _ => none
  | fuel + 1, d, qs =>
    if d.isEmpty then some qs
    else
      let (pq, tq) := (beField d 0 1 / 16, beField d 0 1 % 16)
      let n := 1 + 64 * (pq + 1)
      if 1 < pq || 3 < tq || d.length < n then none else jpegQuants fuel (d.drop n) (qs ++ [tq])

/-- Cut entropy-coded data into the segments between restart markers, which count modulo 8 from 0, with stuffed zeros dropped; and what follows,
from its marker on. -/
def entropySegments : List Byte → Nat → List Byte → Option (List (List Byte) × List Byte)
  | [], _, _ => none
  | b :: l, k, cur =>
    if b ≠ 0xFF then entropySegments l k (b :: cur)
    else match l with
      | [] => none
      | m :: rest =>
        if m = 0 then entropySegments rest k (b :: cur)
        else if m.toNat / 8 = 0x1A then
          if m.toNat % 8 = k then (entropySegments rest ((k + 1) % 8) []).map (fun e => (cur.reverse :: e.1, e.2)) else none
        else some ([cur.reverse], b :: m :: rest)

/-- The AC coefficients of a block from index `k`; `most` bounds a coefficient's size. -/
def jpegAc (ac : HuffCode) (most : Nat) : Nat → Nat → List Bool → Option (List Bool)
  | 0, _, _ => none
  | fuel + 1, k, l =>
    if k = 64 then some l
    else if 64 < k then none
    else do
      let (rs, l) ← huffSymbol ac 0 0 l
      let (r, n) := (rs / 16, rs % 16)
      if n = 0 then (if r = 15 then jpegAc ac most fuel (k + 16) l else if r = 0 then some l else none)
      else if 63 < k + r || most < n then none
      else
        let (_, l) ← takeUp n l
        jpegAc ac most fuel (k + r + 1) l

/-- One block: its DC difference and its AC coefficients. -/
def jpegBlock (precision : Nat) (t : HuffCode × HuffCode) (l : List Bool) : Option (List Bool) := do
  let (n, l) ← huffSymbol t.1 0 0 l
  if precision + 3 < n then none
  else
    let (_, l) ← takeUp n l
    jpegAc t.2 (precision + 2) 65 1 l

/-- The units of one segment, each of these blocks. -/
def jpegUnits (precision : Nat) (blocks : List (HuffCode × HuffCode)) : Nat → List Bool → Option (List Bool)
  | 0, l => some l
  | n + 1, l => (blocks.foldl (fun (l : Option (List Bool)) t => l.bind (jpegBlock precision t)) (some l)).bind (jpegUnits precision blocks n)

/-- A scan: every component that its header names is of the frame, in its order and new, its tables are defined, and its units are complete; answers
the new state, and what follows. -/
def jpegScan (st : JpegSt) (d l : List Byte) : Option (JpegSt × List Byte) := do
  let f ← st.frame
  let n := beField d 0 1
  let sel := (List.range n).map (fun i => (beField d (1 + 2 * i) 1, beField d (2 + 2 * i) 1))
  let cs := f.comps.filterMap (fun c => (sel.find? (fun e => e.1 == c.id)).map (fun e => (c, e.2)))
  if d.length ≠ 4 + 2 * n || n = 0 || sel.map (fun e => e.1) ≠ cs.map (fun c => c.1.id) || d.drop (1 + 2 * n) ≠ [0, 63, 0] ||
      cs.any (fun c => st.coded.contains c.1.id || !st.quants.contains c.1.tq || (tfind st.dc (c.2 / 16)).isNone || (tfind st.ac (c.2 % 16)).isNone ||
        (!f.extended && (1 < c.2 / 16 || 1 < c.2 % 16))) ||
      (1 < n && 10 < (cs.map (fun c => c.1.h * c.1.v)).foldl (· + ·) 0) then none
  else
    let code := fun (c : JpegComp × Nat) => (tget [] st.dc (c.2 / 16), tget [] st.ac (c.2 % 16))
    let blocks := if n = 1 then cs.map code else cs.flatMap (fun c => List.replicate (c.1.h * c.1.v) (code c))
    let (hm, vm) := ((f.comps.map (fun c => c.h)).foldl max 1, (f.comps.map (fun c => c.v)).foldl max 1)
    let units := if n = 1 then (cs.map (fun c => cdiv (cdiv (f.width * c.1.h) hm) 8 * cdiv (cdiv (f.height * c.1.v) vm) 8)).headD 0
      else cdiv f.width (8 * hm) * cdiv f.height (8 * vm)
    let (segs, rest) ← entropySegments l 0 []
    let per := if st.restart = 0 then units else st.restart
    if segs.length ≠ cdiv units per then none
    else if (indexed segs).all (fun e =>
        match jpegUnits f.precision blocks (min per (units - per * e.1)) (e.2.flatMap (fun b => (bitsUp b).reverse)) with
        | some l => decide (l.length < 8)
        | none => false) then some ({ st with coded := st.coded ++ cs.map (fun c => c.1.id) }, rest)
    else none

/-- The file from the segments behind its start-of-image marker keeps the rules of its standard down to its end-of-image marker. -/
def jpegHolds : Nat → JpegSt → List Byte → Bool
  | 0, _, _ => false
  | fuel + 1, st, l =>
    match jpegMarker l with
    | none => false
    | some (m, l) =>
      if m = 0xD9 then (st.frame.map (fun f => f.comps.all (fun c => st.coded.contains c.id))).getD false
      else match jpegSegment l with
        | none => false
        | some (d, rest) =>
          if jpegIgnored m then jpegHolds fuel st rest
          else if m = 0xC0 || m = 0xC1 then
            match st.frame, jpegFrame m d with
            | none, .inr f => jpegHolds fuel { st with frame := some f } rest
            | _, _ => false
          else if m = 0xC4 then
            match jpegCodes 3 (d.length + 1) d st with
            | some st => jpegHolds fuel st rest
            | none => false
          else if m = 0xDB then
            match jpegQuants (d.length + 1) d st.quants with
            | some qs => jpegHolds fuel { st with quants := qs } rest
            | none => false
          else if m = 0xDD then (if d.length = 2 then jpegHolds fuel { st with restart := beField d 0 2 } rest else false)
          else if m = 0xDA then
            match jpegScan st d rest with
            | some (st, rest) => jpegHolds fuel st rest
            | none => false
          else false

/-- The samples of a JPEG file, none where it breaks the rules of its standard. Inverse DCT, up-sampling and colour conversion are those of the host
library of the function table version, which the spec does not give: each sample is a free value of its precision (R293). -/
def jpegPixels (bs : List Byte) : Option (List Nat) :=
  match jpegHeader bs.length (bs.drop 2) with
  | .inl _ => none
  | .inr f =>
    if jpegHolds bs.length { frame := none, quants := [], dc := [], ac := [], restart := 0, coded := [] } (bs.drop 2) then
      some ((List.range (f.width * f.height * f.comps.length)).map (fun i =>
        (Config.jpegSample bs i).toNat % 2 ^ f.precision * 2 ^ (16 - f.precision)))
    else none

/-! ### Both containers -/

/-- The header of a file in a container (Table INGEST-1, byte 6), or the cause that voids the sample. -/
def imageHead (con : Nat) (bs : List Byte) : Nat ⊕ ImageHead := if con = 2 then pngHead bs else jpegHead bs

/-- The image of a file in a container, none where it is CORRUPT (R293, R294). -/
def decodeImage (con : Nat) (h : ImageHead) (bs : List Byte) : Option Img :=
  (if con = 2 then pngPixels bs else jpegPixels bs).map (fun px => { w := h.width, h := h.height, c := h.chans, px := px })

end Sys2Proof.Machine
end

