-- ==== Sys2Proof/Machine/Peer.lean ====
section
/-! DEFINITION. The neighbouring modules (R339 to R343): the two peer sides with their credit and resend, verge rows of seams,
contributions, and the comparison of seam digests (R404, R405). -/

namespace Sys2Proof

/-- The sequence number that a received packet carries. -/
def PeerHead.seq (h : PeerHead) : BitVec 16 := BitVec.ofNat 16 h.packet.seq

/-- The packet found the receive bridge of its lane full (R94). -/
def PeerHead.bridgeFull (h : PeerHead) : Bool := h.packet.bridgeFull

/-- A packet that arrives on side `k` is sound: valid sync headers, at most 4,096 payload bytes padded to whole data blocks, and the CRC of R262
with the peer lane number, 2 × side + lane, in the fold (R339). -/
def PeerHead.sound (h : PeerHead) (k : Nat) : Bool :=
  let p := h.packet
  !p.badSync && p.length ≤ 4096 && p.data.length == (p.length + 7) / 8 * 8 &&
    p.crc.toNat == Machine.packetCrc (2 * k + h.lane.val) p.stream p.seq (Machine.leBytes 8 p.head.toNat) p.data

end Sys2Proof

namespace Sys2Proof.Machine

/-! ### What a verdict must find when it is entered (R22, R371, R376) -/

/-- A context of a kind after a start. -/
def ctx0 (kind : Nat) : Ctx :=
  { set := unitySet kind, old := unitySet kind, shadow := none, loadPort := 0, restart := none, lastSeq := none
    frameAt := 0, nextRow := 0, rows := [], boxes := [], accs := [], cfa := none, lastFrame := none, discard := false }

/-- A context. -/
def State.ctx (s : State) (c : Nat) : Ctx := tget (ctx0 (s.ctxCfg c).kind) s.isp.ctxs c

/-- The stations of a verdict record: context, line count of the first row, line count of the last row (Table SAFE-2). -/
def stations (r : List Byte) : List (Nat × Nat × Nat) :=
  (List.range (min (recField r 3 1) 4)).map (fun k =>
    (recField r (24 + 12 * k) 1, recField r (28 + 12 * k) 4, recField r (32 + 12 * k) 4))

/-- A watchdog's or a golden frame's reaction makes the part INVALID (R371, R376). -/
def State.blockedBy (s : State) (p : Nat) (ctxs : List Nat) : Option Nat :=
  if ctxs.any (fun c => tget 0 s.safe.ctxMiss c != 0) ||
      s.safe.partMiss.any (fun w => (s.cfg.safety.watchdogs[w]?.map (fun g => g.target)) == some p) then
    some Code.WATCHDOG_MISS
  else if ctxs.any (fun c => s.on (F.SAFE_CTX_golden_fail c)) then some Code.GOLDEN_FAIL
  else none

/-- Context `c` has its flat field, tone curves and, where it has colour, white balance from a loaded set (R22). -/
def State.paramsLoaded (s : State) (c : Nat) : Bool :=
  let v := s.get (F.ISP_CTX_STATUS_loaded c)
  let colour := (s.ctxCfg c).kind = 1 || (s.ctx c).cfa.getD 0 != 0
  v.testBit 0 && v.testBit 2 && (!colour || v.testBit 1)

/-- The first condition of R22 that fails: 0 CHANNEL, 1 FIT, 2 CHECKER, 3 PARAMETERS.  The DXM-9640-V has no position channel, and R22 does
not speak of it: there the condition CHANNEL is dropped and the others hold (DESIGN CHOICE). -/
def State.roadClosed (s : State) (p : Nat) (ctxs : List Nat) : Option Nat :=
  if s.hasField && !(s.cntState 0 == cntVALID && s.get (F.MOT_CH_STATUS_speed_state 0) != 0) then some 0
  else if !s.on (F.ROUTE_PART_fit p) then some 1
  else if s.get F.SAFE_STATUS_state == safeSTART || ctxs.any (fun c => !s.safe.goldenSeen.contains c) then some 2
  else if ctxs.any (fun c => !s.paramsLoaded c) then some 3
  else none

/-! ### Sides -/

/-- A side that is down. -/
def side0 : PeerSide :=
  { lanes := 0, hellos := [], rxNext := 0, txNext := 0, resend := [], waiting := [], credit := 0, granted := 0, digests := [] }

def State.side (s : State) (k : Nat) : PeerSide := tget side0 s.peer.sides k

def State.setSide (s : State) (k : Nat) (x : PeerSide) : State :=
  { s with peer := { s.peer with sides := tset side0 s.peer.sides k x } }

/-- The UP bit of a side: 0 west, 1 east. -/
def sideUpField (k : Nat) : Field := if k = 0 then F.PEER_STATUS_west_up else F.PEER_STATUS_east_up

/-- The side is UP: both of its lanes are (R339). -/
def State.sideUp (s : State) (k : Nat) : Bool := s.on (sideUpField k)

/-- What the peer table says of a side. -/
def State.peerCfg (s : State) (k : Nat) : PeerCfg := s.cfg.tables.peers.getD k { expected := false, node := 0 }

/-- The chain position that the peer table implies for the neighbour of a side. -/
def State.neighbourPosition (s : State) (k : Nat) : Int :=
  if k = 0 then (s.cfg.tables.position : Int) - 1 else (s.cfg.tables.position : Int) + 1

/-- The receive island of a lane of side `k`; its transmit island follows it (Table ZLD-5, bits [71:64]). -/
def peerRxIsland (k : Nat) (lane : Fin 2) : Nat := 64 + 2 * (2 * k + lane.val)

/-- Lane `lane` of side `k` has its receive and transmit islands (R93). -/
def State.peerLane (s : State) (k : Nat) (lane : Fin 2) : Bool := s.island (peerRxIsland k lane) && s.island (peerRxIsland k lane + 1)

/-- The seams of a side, with their number (2 × side + index). -/
def State.seamNo (s : State) (k i : Nat) : Option SeamCfg := (s.cfg.tables.seams.filter (fun c => c.side == k))[i]?

/-- The sequence compatibility digest of the program of partition `p`, 0 where it runs none. -/
def State.compat (s : State) (p : Nat) : BitVec 64 := ((tfind s.cfg.programs p).map (fun g => g.seqDigest)).getD 0

/-- A packet leaves a side: the sequenced ones are striped over its two lanes in the order of their sequence numbers (R339); of the others
the spec does not say the lane. -/
def State.peerOut (s : State) (k : Nat) (seq : Option Nat) (m : PeerMsg) : State :=
  { s with peer := { s.peer with out := s.peer.out ++ [(k, seq.map (fun n => n % 2), seq, m)] } }

/-- The module's own HELLO: its node identifier, its position, the compatibility digests of the partitions with seams. -/
def State.ownHello (s : State) : Hello :=
  { node := BitVec.ofNat 18 s.cfg.structureSec.nodeId, position := BitVec.ofNat 4 s.cfg.tables.position
    digests := ((s.cfg.tables.seams.map (fun c => c.part)).eraseDups).map s.compat }

def State.sendHello (s : State) (k lane : Nat) : State :=
  { s with peer := { s.peer with out := s.peer.out ++ [(k, some lane, none, .hello s.ownHello)] } }

/-- How many HELLOs alike have come in a row on lane `lane` of a side, `h` among them. -/
def PeerSide.helloRun (x : PeerSide) (lane : Nat) (h : Hello) : Nat :=
  match tfind x.hellos lane with
  | some (g, n) => if g == h then min (n + 1) 3 else 1
  | none => 1

/-- A lane of a side takes a good HELLO: it is UP once both sides have sent and received three identical ones (Table LANE-1, with HELLO
in place of the training word). -/
def PeerSide.takeHello (x : PeerSide) (lane : Fin 2) (h : Hello) : PeerSide :=
  let n := x.helloRun lane h
  { x with hellos := tput x.hellos lane (h, n)
           lanes := if n < 3 || x.lanes.testBit lane then x.lanes else x.lanes + 2 ^ lane.val }

/-! ### Sending (R340) -/

/-- Packets that the resend buffer of a side holds. -/
def resendDepth : Nat := 64

/-- Send what waits while the side holds credit and its resend buffer has room; `fuel` bounds the packets. -/
def State.peerPump (s : State) (k : Nat) : Nat → State
  | 0 => s
  | fuel + 1 =>
    let x := s.side k
    match x.waiting with
    | m :: rest =>
      if x.credit = 0 || resendDepth ≤ x.resend.length then s
      else
        let s := s.setSide k { x with waiting := rest, credit := x.credit - 1, txNext := (x.txNext + 1) % 65536
                                      resend := x.resend ++ [(x.txNext, m)] }
        (s.peerOut k (some x.txNext) m).peerPump k fuel
    | [] => s

/-- Send a packet that needs credit, or hold it; a side that is down sends nothing (R340). -/
def State.peerSend (s : State) (k : Nat) (m : PeerMsg) : State :=
  if !s.sideUp k then s
  else
    let x := s.side k
    let s := if x.credit = 0 then s.inc (F.PEER_RESEND_no_credit k) else s
    let s := s.setSide k { x with waiting := x.waiting ++ [m] }
    s.peerPump k (x.waiting.length + 1)

/-! ### Going up and down (R339, R340) -/

/-- Both lanes have seen a good HELLO: the side is UP and grants the neighbour its receive buffers. -/
def State.sideComesUp (s : State) (k : Nat) (h : Hello) : State :=
  let n := Config.peerBuffers.toNat
  let s := s.setSide k { side0 with lanes := 3, granted := n, digests := h.digests }
  let s := ((s.set (sideUpField k) 1).set (F.PEER_SIDE_state k) laneUP).set (F.PEER_SIDE_node k) h.node.toNat
  ((s.raise Code.PEER_UP [k, h.node.toNat]).peerOut k none (.credit n)).checkBooted

/-- A side goes down into a state of Table LANE-1: its unacknowledged packets are dropped. -/
def State.sideGoesDown (s : State) (k state : Nat) : State :=
  let x := s.side k
  let up := s.sideUp k
  let s := ((s.setSide k side0).set (sideUpField k) 0).set (F.PEER_SIDE_state k) state
  if up then s.raise Code.PEER_DOWN [k, x.resend.length + x.waiting.length] else s

/-- A violation of Table PEER-3 on a side. -/
def State.peerViolation (s : State) (k reason : Nat) : State := s.raise Code.PEER_VIOLATION [k, reason]

/-- HELLO: a peer HELLO is received and checked against the peer table (R339, Table PEER-3 reason 1). -/
def execHello (side : Fin 2) (head : PeerHead) (h : Hello) (s : State) : Host.Outcome State Fault Refusal :=
  s.run (fun s =>
    let k := side.val
    if !s.peerLane k head.lane then s
    else if head.bridgeFull then s.bridgeFull (peerRxIsland k head.lane) 0
    else if !head.sound k then
      ((s.peerViolation k 2).inc (F.PEER_RESEND_naks k)).peerOut k none (.nak (s.side k).rxNext)
    else
      let c := s.peerCfg k
      let good := c.expected && h.node.toNat == c.node && h.node.toNat != s.cfg.structureSec.nodeId &&
        (h.position.toNat : Int) == s.neighbourPosition k
      if !good then
        let s := (s.sideGoesDown k laneFAILED).peerViolation k 1
        (s.sendHello k head.lane).bootTrainFail linkPEER k
      else if s.sideUp k then s
      else
        let x := (s.side k).takeHello head.lane h
        let s := (s.setSide k x).sendHello k head.lane
        if x.lanes == 3 then s.sideComesUp k h else s.set (F.PEER_SIDE_state k) laneEXCHANGE)

/-- PEER_HELLO_RETRY: a side held DOWN by its HELLO is tried again on both lanes (Table PEER-3 reason 1). -/
def execPeerHelloRetry (side : Fin 2) (s : State) : Host.Outcome State Fault Refusal :=
  s.run (fun s =>
    if s.get (F.PEER_SIDE_state side) == laneFAILED then ((s.set (F.PEER_SIDE_state side) laneEXCHANGE).sendHello side 0).sendHello side 1 else s)

/-- PEER_DOWN: a side goes down (R340); its lanes train again. -/
def execPeerDown (side : Fin 2) (s : State) : Host.Outcome State Fault Refusal :=
  s.run (fun s => if s.sideUp side then s.sideGoesDown side laneREFWAIT else s)

/-! ### Receiving (R339, R340, Table PEER-3) -/

/-- A packet that is sequenced and needs credit: `f` takes it where every check passes. -/
def State.peerPacket (s : State) (k : Nat) (h : PeerHead) (f : State → State) : State :=
  if !s.sideUp k || !s.peerLane k h.lane then s
  else if h.bridgeFull then s.bridgeFull (peerRxIsland k h.lane) 0
  else
    let x := s.side k
    let nak := fun (s : State) (reason : Nat) =>
      ((s.peerViolation k reason).inc (F.PEER_RESEND_naks k)).peerOut k none (.nak x.rxNext)
    if !h.sound k || h.seq.toNat != x.rxNext then nak s 2
    else if x.granted = 0 then nak s 3
    else
      let s := s.setSide k { x with rxNext := (x.rxNext + 1) % 65536 }
      ((f s).peerOut k none (.ack h.seq.toNat)).peerOut k none (.credit 1)

/-- A packet outside the sequence: `f` takes it where its CRC is right. -/
def State.peerControl (s : State) (k : Nat) (h : PeerHead) (f : State → State) : State :=
  if !s.sideUp k || !s.peerLane k h.lane then s
  else if h.bridgeFull then s.bridgeFull (peerRxIsland k h.lane) 0
  else if !h.sound k then ((s.peerViolation k 2).inc (F.PEER_RESEND_naks k)).peerOut k none (.nak (s.side k).rxNext)
  else f s

/-- ACK: the packets up to sequence number `seq` are acknowledged and leave the resend buffer. -/
def execAck (side : Fin 2) (head : PeerHead) (seq : BitVec 16) (s : State) : Host.Outcome State Fault Refusal :=
  s.run (fun s => s.peerControl side head (fun s =>
    let x := s.side side
    match x.resend.findIdx? (fun e => e.1 == seq.toNat) with
    | some i => (s.setSide side { x with resend := x.resend.drop (i + 1) }).peerPump side x.waiting.length
    | none => s))

/-- PEER_NAK: go-back-N from sequence number `seq`. -/
def execPeerNak (side : Fin 2) (head : PeerHead) (seq : BitVec 16) (s : State) : Host.Outcome State Fault Refusal :=
  s.run (fun s => s.peerControl side head (fun s =>
    let x := s.side side
    let s := s.inc (F.PEER_RESEND_naks side)
    match x.resend.findIdx? (fun e => e.1 == seq.toNat) with
    | some i => s.each (x.resend.drop i) (fun s e => s.peerOut side (some e.1) e.2)
    | none => s))

/-- CREDIT: the neighbour frees `n` receive buffers. -/
def execCredit (side : Fin 2) (head : PeerHead) (n : BitVec 16) (s : State) : Host.Outcome State Fault Refusal :=
  s.run (fun s => s.peerControl side head (fun s =>
    let x := s.side side
    (s.setSide side { x with credit := x.credit + n.toNat }).peerPump side x.waiting.length))

/-! ### Verge rows (R341) -/

/-- Where the row of line `line` of a seam's ring stands, and its tag. -/
def State.seamRowAddr (s : State) (c : SeamCfg) (line : Nat) : Nat :=
  s.partAddr c.part (64 * c.ringOff + line % max c.ringRows 1 * c.stride * 64)
def State.seamTagAddr (s : State) (c : SeamCfg) (line : Nat) : Nat :=
  s.partAddr c.part (64 * c.tagOff + 16 * (line % max c.ringRows 1))

/-- Write one verge row and then its tag (Table ISP-6): the line count, the valid mark; the packet gives no stamp, frame number,
flags and head status, which are free. -/
def State.seamRow (s : State) (c : SeamCfg) (line : Nat) (row : List Byte) : State :=
  let (a, s) := s.draw
  let (b, s) := s.draw
  let s := s.putBytes (s.seamRowAddr c line) (row.take (c.stride * 64))
  s.putBytes (s.seamTagAddr c line) (leBytes 4 line ++ leBytes 8 a ++ leBytes 3 b ++ [0xA5])

/-- A leg reads the verge row of line `line` of seam `seam`: a tag that is missing or carries another line count ends the parts
`tags` of partition `p` that touch it. -/
def State.seamRead (s : State) (p seam line : Nat) (tags : List Nat) : State :=
  match s.seamNo (seam / 2) (seam % 2) with
  | none => s
  | some c =>
    let t := s.bytes (s.seamTagAddr c line) 16
    if recField t 0 4 == line && recField t 15 1 == 0xA5 then s
    else
      let s := (s.inc (F.PEER_MISSING_rows (seam / 2))).raise Code.SEAM_MISSING [seam, line, tags.length]
      s.invalidate p tags Code.SEAM_MISSING

/-- The verge columns of an output row of `w` pixels: the outermost on the seam's side. -/
def vergeColumns (side w width px : Nat) (row : List Byte) : List Byte :=
  (row.drop (px * (if side = 0 then 0 else w - width))).take (px * width)

/-- After output `o` of context `ctx` has a row, its verge columns go to the neighbours (R341). -/
def State.sendVerge (s : State) (ctx o line w px : Nat) (row : List Byte) : State :=
  s.each [(0, 0), (0, 1), (1, 0), (1, 1)] (fun s e =>
    match s.seamNo e.1 e.2 with
    | some c =>
      if c.ctx == ctx && c.output == o && s.sideUp e.1 then
        (s.inc (F.PEER_VERGE_rows e.1)).peerSend e.1
          (.verge (.rows (if e.2 = 0 then 0 else 1) (BitVec.ofNat 32 line) [vergeColumns e.1 w c.width px row]))
      else s
    | none => s)

/-! ### Contributions (R342, Tables PEER-2, PEER-3) -/

/-- Answer REJECT to the contribution with a key, for a reason of Table PEER-3. -/
def State.rejectContrib (s : State) (k key reason : Nat) : State :=
  ((s.peerViolation k reason).inc (F.PEER_REJECT_sent k)).peerSend k (.reject key reason)

/-- The milepost of part `tag` of partition `p` has fired. -/
def State.partFired (s : State) (p tag : Nat) : Bool :=
  s.host.subjects.any (fun u => u.kind == 1 && u.part == p && u.tag == tag && u.firedPeriod.isSome) ||
    s.motion.entries.any (fun (e : Nat × Milepost) => e.2.part == p && e.2.tag == tag && e.2.state == 3)

/-- Record a contribution. -/
def State.keepContrib (s : State) (c : Contrib) : State :=
  { s with peer := { s.peer with contribs := s.peer.contribs ++ [c] } }

/-! A part that straddles a seam and whose ejector this module owns waits for the contributions that its program expects (R20, R342). -/

/-- The comparison of every block that the part touches has passed (R405). -/
def State.blocksPassed (s : State) (v : VerdictIn) : Bool := v.blocks.all (fun b => s.peer.passed.contains (b.1.val, b.2.toNat))

/-- The contributions that a verdict expects, where all have come and the blocks that it touches have passed. -/
def State.contribsFor (s : State) (v : VerdictIn) : Option (List Contrib) :=
  let l := v.expects.filterMap (fun k => s.peer.contribs.find? (fun z => z.key == recField v.record 12 8 && z.seam == k.val))
  if l.length = v.expects.length && s.blocksPassed v then some l else none

/-- A verdict combined with its contributions: GOOD only where every one is GOOD (R342).  The rest is the program's own statement, which
the model takes as INVALID where one is INVALID, and else BAD (DESIGN CHOICE). -/
def combined (verdict cause : Nat) (l : List Contrib) : Nat × Nat :=
  if verdict != outGOOD then (verdict, cause)
  else match l.find? (fun z => z.verdict == outINVALID) with
    | some z => (outINVALID, z.cause)
    | none => if l.any (fun z => z.verdict == outBAD) then (outBAD, 0) else (outGOOD, 0)

/-- A verdict that passed the checker goes to the milepost unit once every contribution that it expects has come and every block that it
touches has passed; until then the part has
no verdict (R20). -/
def State.giveVerdict (s : State) (p : Nat) (v : VerdictIn) (verdict cause : Nat) : State :=
  let tag := recField v.record 4 4
  match s.contribsFor v with
  | some l =>
    let (o, c) := if s.isSafe then (outINVALID, Code.SAFE_STATE_ENTERED) else combined verdict cause l
    s.applyVerdict p tag o c (some v)
  | none => { s with peer := { s.peer with held := s.peer.held ++ [{ part := p, v := v, verdict := verdict, cause := cause }] } }

/-- A verdict that waited is given as it would be given now: a GOOD one meets the reactions in force and the conditions of R22 again. -/
def State.giveWaited (s : State) (h : HeldVerdict) : State :=
  let r := h.v.record
  let ctxs := (stations r).map (fun e => e.1)
  if h.verdict != outGOOD || s.isSafe then s.giveVerdict h.part h.v h.verdict h.cause
  else match s.blockedBy h.part ctxs, s.roadClosed h.part ctxs with
    | some c, _ => s.giveVerdict h.part h.v outINVALID c
    | none, some n => (s.raise Code.ROAD_CLOSED [h.part, recField r 4 4, n]).giveVerdict h.part h.v outINVALID Code.ROAD_CLOSED
    | none, none => s.giveVerdict h.part h.v h.verdict h.cause

/-- A contribution has come, or a block has passed: the verdicts that waited for it are given, a late one as LATE (Table ROAD-2). -/
def State.giveHeld (s : State) : State :=
  let due := fun (h : HeldVerdict) => (s.contribsFor h.v).isSome
  let l := s.peer.held.filter due
  ({ s with peer := { s.peer with held := s.peer.held.filter (fun h => !due h) } }).each l State.giveWaited

/-- CONTRIB: a contribution record arrives; `tracked` is the tag of the part that the tracker holds under its key.  The first
reason of Table PEER-3 that holds rejects it. -/
def execContrib (side : Fin 2) (head : PeerHead) (r : List Byte) (tracked : Option (BitVec 32)) (s : State) :
    Host.Outcome State Fault Refusal :=
  s.run (fun s => s.peerPacket side head (fun s =>
    let k := side.val
    let key := recField r 0 8
    let seam := recField r 8 2
    let c : Contrib := { key := key, seam := seam, verdict := recField r 10 1, cause := recField r 11 1
                         node := recField r 12 3 % 2 ^ 18, digest := digestOf ((r.drop 16).take 32) }
    match tracked, (if seam / 2 == k && seam < 4 then s.seamNo k (seam % 2) else none) with
    | some t, some g =>
      let reserved := recField r 12 3 ≥ 2 ^ 18 || recField r 15 1 != 0 || recField r 56 8 != 0 || c.verdict = 0 || 3 < c.verdict
      if s.peer.contribs.any (fun z => z.key == key && z.seam == seam) then s.rejectContrib k key 5
      else if BitVec.ofNat 64 (recField r 48 8) != s.compat g.part then
        (s.rejectContrib k key 6).invalidate g.part [t.toNat] Code.PEER_VIOLATION
      else if s.partFired g.part t.toNat then ((s.rejectContrib k key 7).keepContrib c).giveHeld
      else if reserved then (s.rejectContrib k key 8).invalidate g.part [t.toNat] Code.PEER_VIOLATION
      else (s.keepContrib c).giveHeld
    | _, _ => s.rejectContrib k key 4))

/-- REJECT: the neighbour rejects a contribution of this module. -/
def execReject (side : Fin 2) (head : PeerHead) (key : BitVec 64) (reason : BitVec 8) (s : State) :
    Host.Outcome State Fault Refusal :=
  s.run (fun s => s.peerPacket side head (fun s =>
    (s.inc (F.PEER_REJECT_received side)).raise Code.PEER_CONTRIB_REJECTED [side, key.toNat % 2 ^ 32, reason.toNat]))

/-- The module's own contribution for a straddling part whose ejector the neighbour owns: sent once its verdict has passed the
checker (R342). -/
def State.sendContrib (s : State) (seam p : Nat) (key : Int) (verdict cause : Nat) (d : BitVec 256) : State :=
  let bs := leBytes 8 (ofSigned 64 key) ++ leBytes 2 seam ++ leBytes 1 verdict ++ leBytes 1 (if verdict = 3 then cause else 0) ++
    leBytes 3 s.cfg.structureSec.nodeId ++ [0] ++ digestBytes d ++ leBytes 8 (s.compat p).toNat ++ List.replicate 8 0
  if s.sideUp (seam / 2) then (s.inc (F.PEER_CONTRIB_sent (seam / 2))).peerSend (seam / 2) (.contrib bs) else s

/-! ### Seam digests (R404, R405) -/

/-- A block of a seam compares both digests, once both are there. -/
def State.compareSeam (s : State) (b : SeamWait) : State :=
  match b.own, b.peer with
  | some x, some y =>
    let s := { s with peer := { s.peer with blocks := s.peer.blocks.filter (fun z => !(z.seam == b.seam && z.line == b.line)) } }
    if x == y then
      let s := s.inc (F.INTEG_SEAM_blocks b.seam)
      ({ s with peer := { s.peer with passed := s.peer.passed ++ [(b.seam, b.line)] } }).giveHeld
    else
      let s := (s.inc (F.INTEG_SEAM_FAULT_mismatches b.seam)).raise Code.SEAM_DIGEST_MISMATCH [b.seam, b.line, b.tags.length]
      match s.seamNo (b.seam / 2) (b.seam % 2) with
      | some c => s.invalidate c.part b.tags Code.SEAM_DIGEST_MISMATCH
      | none => s
  | _, _ => s

/-- One half of a block's comparison arrives. -/
def State.seamHalf (s : State) (seam line : Nat) (f : SeamWait → SeamWait) : State :=
  let old := (s.peer.blocks.find? (fun z => z.seam == seam && z.line == line)).getD
    { seam := seam, line := line, own := none, peer := none, tags := [] }
  let b := f old
  let rest := s.peer.blocks.filter (fun z => !(z.seam == seam && z.line == line))
  -- a line count that comes again names a new block
  let passed := s.peer.passed.filter (fun z => z != (seam, line))
  ({ s with peer := { s.peer with blocks := rest ++ [b], passed := passed } }).compareSeam b

/-- The module's own digest of a block: it goes to the neighbour as a VERGE packet without rows (R404). -/
def State.seamOwn (s : State) (b : SeamBlock) (d : BitVec 256) : State :=
  match s.seamNo (b.seam.val / 2) (b.seam.val % 2) with
  | none => s
  | some c =>
    let s := s.peerSend (b.seam.val / 2)
      (.verge (.check (if b.seam.val % 2 = 0 then 0 else 1) b.line c.checkBlock c.layer d (s.compat c.part)))
    s.seamHalf b.seam.val b.line.toNat (fun z => { z with own := some d, tags := b.tags })

/-- VERGE: verge rows go into the seam ring (R341); a packet without rows carries the neighbour's digest of a block (R405). -/
def execVerge (side : Fin 2) (head : PeerHead) (v : VergeIn) (s : State) : Host.Outcome State Fault Refusal :=
  s.run (fun s => s.peerPacket side head (fun s =>
    match v with
    | .rows seam line data =>
      match s.seamNo side seam with
      | none => s
      | some c => s.each (data.zip (upTo data.length)) (fun s e => s.seamRow c ((line.toNat + e.2) % 2 ^ 32) e.1)
    | .check seam line _ _ d _ =>
      s.seamHalf (2 * side.val + seam.val) line.toNat (fun z => { z with peer := some d })))

/-- SEAM_CHECK_MISSING: 100 µs after the module's own digest of a block the neighbour's has not come (R405). -/
def execSeamCheckMissing (seam : Fin 4) (line : BitVec 32) (s : State) : Host.Outcome State Fault Refusal :=
  s.run (fun s =>
    match s.peer.blocks.find? (fun z => z.seam == seam.val && z.line == line.toNat) with
    | none => s
    | some b =>
      if b.own.isNone || b.peer.isSome then s
      else
        let s := { s with peer := { s.peer with blocks := s.peer.blocks.filter (fun z => !(z.seam == seam.val && z.line == line.toNat)) } }
        let s := (s.inc (F.INTEG_SEAM_FAULT_missing seam)).raise Code.SEAM_CHECK_MISSING [seam, line.toNat, b.tags.length]
        match s.seamNo (seam / 2) (seam % 2) with
        | some c => s.invalidate c.part b.tags Code.SEAM_CHECK_MISSING
        | none => s)

end Sys2Proof.Machine
end

