-- ==== Sys2Proof/Machine/Isp.lean ====
section
/-! DEFINITION. The image pipeline (R271 to R289): frames and line counts, parameter banks, output rows and tags, statistics,
faulty lines and frames, golden slots and context restarts. -/

namespace Sys2Proof.Machine

/-! ### Contexts -/

/-- Write a context. -/
def State.setCtx (s : State) (c : Nat) (x : Ctx) : State := { s with isp := { s.isp with ctxs := tput s.isp.ctxs c x } }

/-- Shadow states of ISP_CTX_STATUS (Table ISP-11). -/
def shEMPTY : Nat := 0
def shLOADING : Nat := 1
def shLOADED : Nat := 2
def shCOMMITTED : Nat := 3

/-- The usable pages of the context's partition. -/
def State.ctxPages (s : State) (c : Nat) : Nat := s.reach (s.ctxCfg c).part

/-- The result of an ISP command for port `i`. -/
def State.ispResult (s : State) (i c code reason : Nat) : State :=
  (s.set (F.ISP_CTX_RESULT_code i c) code).set (F.ISP_CTX_RESULT_reason i c) reason

/-- A refused set or command (R276). -/
def State.ispRefuse (s : State) (i c reason off : Nat) : State :=
  (s.raise Code.ISP_PARAM_REFUSED [c, reason, off]).ispResult i c Code.ISP_PARAM_REFUSED reason

/-- Working space in use: the active and shadow sets of every context (R277). -/
def State.workKib (s : State) : Nat :=
  s.isp.ctxs.foldl (fun n e =>
    n + (if e.2.set.bytes = 0 then 0 else (Config.workKib e.2.set.digest).toNat) +
      (match e.2.shadow with | some q => (Config.workKib q.digest).toNat | none => 0)) 0

def State.showWork (s : State) : State := s.set F.ISP_LINESTORE_work_kib (min s.workKib 65535)

/-- Show the set in force of context `c` in its registers (Table ISP-11). -/
def State.showSet (s : State) (c : Nat) : State :=
  let q := (s.ctx c).set
  let s := s.set (F.ISP_CTX_STATUS_loaded c) (bit (q.mask.testBit 2) + 2 * bit (q.mask.testBit 4) + 4 * bit (q.mask.testBit 6))
  let s := s.set (F.ISP_CTX_STATUS_outputs c) q.outputs.length
  let s := s.each (upTo 8) (fun s i => s.set (F.ISP_CTX_DIGEST_word c i) (q.digest.toNat / 2 ^ (32 * i)))
  s.showWork

/-! ### Frame ends and statistics (R282) -/

/-- Frame flags of the statistics record. -/
def ffSHORT : Nat := 1
def ffLONG : Nat := 2
def ffLATE : Nat := 4
def ffSKIP : Nat := 8
def ffREPEAT : Nat := 16

/-- The accumulators of a frame that starts. -/
def acc0 (number endAt bank flags : Nat) : FrameAcc :=
  { number := number, endAt := endAt, bank := bank, flags := flags, lines := 0, lost := 0, sig := 0, sums := [0, 0, 0], hist := [], zones := [] }

/-- The set of bank `b` of a context: that of the bank in force, or the other one's, for the frames that began before the swap. -/
def State.bankSet (s : State) (c b : Nat) : ParamSet :=
  if b = s.get (F.ISP_CTX_STATUS_active_bank c) then (s.ctx c).set else (s.ctx c).old

/-- The set with which frame `f` of context `c` is processed (R276). -/
def State.frameSet (s : State) (c f : Nat) : ParamSet :=
  match (s.ctx c).accs.find? (fun a => a.number == f) with
  | some a => s.bankSet c a.bank
  | none => (s.ctx c).set

/-- Change the accumulators of frame `f`. -/
def State.withAcc (s : State) (c f : Nat) (g : FrameAcc → FrameAcc) : State :=
  let x := s.ctx c
  s.setCtx c { x with accs := x.accs.map (fun a => if a.number == f then g a else a) }

/-- Add the pixels of a row after step 6 to the accumulators: sums, histograms and zones (`row` of `height` on an AREA
context, else column zones). -/
def addPixels (area : Bool) (row height : Nat) (a : FrameAcc) (planes : List (List Nat)) : FrameAcc :=
  (indexed planes).foldl (fun a e =>
    let w := e.2.length
    let a := { a with sums := a.sums.set e.1 (a.sums.getD e.1 0 + e.2.foldl (· + ·) 0) }
    (indexed e.2).foldl (fun a p =>
      let h := 256 * e.1 + p.2 / 256
      let z := 64 * e.1 + (if area then (row * 8 / max height 1) % 8 * 8 + p.1 * 8 / max w 1 else p.1 * 64 / max w 1)
      let old := tget (0, 0) a.zones z
      { a with hist := tset 0 a.hist h (tget 0 a.hist h + 1), zones := tset (0, 0) a.zones z (old.1 + p.2, old.2 + 1) }) a) a

/-- The zone means of a frame; a zone without a pixel has no stated mean, and is free. -/
def State.zoneBytes (s : State) (a : FrameAcc) : List Byte × State :=
  (List.range 192).foldl (fun (st : List Byte × State) z =>
    let (sum, n) := tget (0, 0) a.zones z
    if n = 0 then
      let (v, s1) := st.2.draw
      (st.1 ++ leBytes 2 (v % 65536), s1)
    else (st.1 ++ leBytes 2 (roundDiv sum n).toNat, st.2)) ([], s)

/-- The statistics record of a frame (R282), 4,096 bytes. -/
def State.statsRecord (s : State) (c : Nat) (a : FrameAcc) : List Byte × State :=
  let (zb, s) := s.zoneBytes a
  (leBytes 4 a.number ++ leBytes 1 c ++ leBytes 1 a.bank ++ leBytes 2 a.flags ++
    leBytes 4 a.lines ++ leBytes 4 a.lost ++ leBytes 8 a.sig ++ leBytes 4 s.clk.sec ++ leBytes 4 s.clk.ns ++
    (List.range 3).flatMap (fun i => leBytes 8 (a.sums.getD i 0)) ++ List.replicate 7 0 ++ [0xA5] ++
    (List.range 768).flatMap (fun h => leBytes 4 (tget 0 a.hist h)) ++ zb ++ List.replicate 576 0, s)

/-- Frame `f` of context `c` ends: its statistics record goes to the ring of its set, and the checker sees its signature (R282, R372). -/
def State.endFrame (s : State) (c f : Nat) : State :=
  let x := s.ctx c
  match x.accs.find? (fun a => a.number == f) with
  | none => s
  | some a =>
    let q := s.bankSet c a.bank
    let (bs, s) := s.statsRecord c a
    let s := if q.statsEntries = 0 then s
      else (s.putBytes (s.partAddr (s.ctxCfg c).part (64 * q.statsOff + 4096 * (f % q.statsEntries))) bs).set (F.ISP_CTX_STATS_frame c) f
    let s := s.setCtx c { x with accs := x.accs.filter (fun b => b.number != f) }
    s.frameSeen c f a.sig (a.flags.testBit 3 || a.flags.testBit 4)

/-! ### Output rows (R280, R281) -/

/-- Where byte `off` of a record's destination lies. -/
def State.outAddr (s : State) (c : Nat) (o : OutRec) (off : Nat) : Nat :=
  if o.dest = 2 then s.partAddr (s.ctxCfg c).part off else lineStoreBase + 0x2000000 + off

/-- Tag flag bits of Table ISP-6. -/
def tfLOST : Nat := 1
def tfLONG : Nat := 2
def tfWIDE : Nat := 4
def tfLATE : Nat := 8
def tfPADDED : Nat := 16
def tfNOALIGN : Nat := 32
def tfMALFORMED : Nat := 64
def tfLAYBY : Nat := 128
def tfHEADSTATUS : Nat := 256

/-- Free pixels, for RAW rows of a trilinear context, whose content the spec does not state. -/
def State.drawPixels (s : State) (n : Nat) : List Nat × State :=
  (List.range n).foldl (fun (st : List Nat × State) _ =>
    let (v, s1) := st.2.draw
    (st.1 ++ [v % 65536], s1)) ([], s)

/-- The key of a ring slot's capture time. -/
def captureKey (c i slot : Nat) : Nat := 2 ^ 24 * (16 * c + i) + slot

/-- Keep the capture time of a ring slot (R299). -/
def State.capturedAt (s : State) (c i slot : Nat) (t : Option Nat) : State :=
  { s with isp := { s.isp with captures := tput s.isp.captures (captureKey c i slot) t } }

/-- Write one output row from its source rows, and then its tag with the valid mark (R280, R281). -/
def State.writeRow (s : State) (c i : Nat) (o : OutRec) (slot first : Nat) (rows : List Row) : State :=
  let lost := rows.any (fun r => r.lost)
  let bs := outputBytes o (rows.map (fun r => r.planes)) lost
  let flags := rows.foldl (fun n r => n ||| r.flags) 0 ||| (if lost then tfLOST else 0)
  let r0 := rows.head?
  let tag := leBytes 4 first ++ leBytes 4 ((r0.map (fun r => r.stamp)).getD 0) ++ leBytes 4 ((r0.map (fun r => r.frame)).getD 0) ++
    leBytes 2 flags ++ leBytes 1 ((r0.map (fun r => r.status)).getD 0) ++ [0xA5]
  let s := s.putBytes (s.outAddr c o (64 * o.ringOff + slot * o.stride * 64)) bs
  let s := s.putBytes (s.outAddr c o (64 * o.tagOff + 16 * slot)) tag
  let s := if (s.ctxCfg c).kind = 2 then s else s.capturedAt c i slot (some ((rows.map (fun r => r.local_)).foldl max 0))
  let px := (if o.format = 0xE then 1 else 2) * (contentPlanes o.content ((r0.map (fun r => r.planes)).getD [])).length
  (s.sendVerge c i first o.width px bs).kickAll wdCONTEXT c

/-- A processed row reaches output `i`: it joins its box, and the last row of a box writes the output row. -/
def State.outputRow (s : State) (c i : Nat) (o : OutRec) (r : Row) : State :=
  let x := s.ctx c
  let area := (s.ctxCfg c).kind == 2
  let y := r.count
  let v := max o.v 1
  let inside := !area || (o.y0 ≤ y && y < o.y0 + o.height * v)
  if !inside then s
  else
    let k := if area then y - o.y0 else y
    let box := (if k % v = 0 then [] else tget [] x.boxes i) ++ [r]
    let s := s.setCtx c { x with boxes := tset [] x.boxes i box }
    if k % v = v - 1 && box.length = v then
      let slot := if area then (r.frame % o.ring) * o.height + k / v else (k / v) % o.ring
      s.writeRow c i o slot (y + 1 - v) box
    else s

/-- A row whose planes after step 4 are known: steps 5 to 8 and the statistics (R278, R282). `mosaic` is the row after
step 3 for RAW outputs. -/
def State.finishRow (s : State) (c : Nat) (q : ParamSet) (r : Row) (mosaic : Option (List Nat)) : State :=
  let area := (s.ctxCfg c).kind == 2
  let p6 := colourSteps q r.planes
  let s := s.withAcc c r.frame (fun a =>
    if r.lost then { a with lost := a.lost + 1 } else addPixels area r.count q.frameLines a p6)
  let needRaw := q.outputs.any (fun o => o.content == 5)
  let (raw, s) := match mosaic with
    | some m => (m, s)
    | none => if needRaw then s.drawPixels ((r.planes.head?.getD []).length) else ([], s)
  let out := { r with planes := toneSteps q p6 ++ [raw] }
  (indexed q.outputs).foldl (fun s e => s.outputRow c e.1 e.2 out) s

/-! ### Banks and restarts (R276, R287) -/

/-- The committed set of context `c` takes over at the start of frame `f` (R276). Rows of the frame before go on under their own set; an output row
whose lines belong to both frames takes them as each was processed, and is written by the record of its last line (DESIGN CHOICE). -/
def State.swapBank (s : State) (c f : Nat) : State :=
  let x := s.ctx c
  match x.shadow with
  | none => s
  | some q =>
    if s.get (F.ISP_CTX_STATUS_shadow c) != shCOMMITTED then s
    else
      let s := s.setCtx c { x with old := x.set, set := q, shadow := none }
      let s := s.set (F.ISP_CTX_STATUS_active_bank c) (1 - s.get (F.ISP_CTX_STATUS_active_bank c))
      let s := (s.set (F.ISP_CTX_STATUS_shadow c) shEMPTY).showSet c
      s.raise Code.ISP_BANK_SWAPPED [c, f, s.get (F.ISP_CTX_STATUS_active_bank c)]

/-- A pending restart of context `c` lands at a frame start (R287): unity banks, line count from 0; a committed set is
discarded with reason RESTART. -/
def State.landRestart (s : State) (c : Nat) : State :=
  let x := s.ctx c
  match x.restart with
  | none => s
  | some i =>
    let s := if s.get (F.ISP_CTX_STATUS_shadow c) == shCOMMITTED then s.ispRefuse x.loadPort c ispRESTART 0 else s
    let frame := s.get (F.ISP_CTX_FRAME_number c)
    let s := s.setCtx c { ctx0 (s.ctxCfg c).kind with cfa := x.cfa, lastFrame := x.lastFrame }
    let s := ((s.set (F.ISP_CTX_STATUS_shadow c) shEMPTY).set (F.ISP_CTX_STATUS_restart_pending c) 0).set
      (F.ISP_CTX_STATUS_frame_open c) 0
    let s := (s.set (F.ISP_CTX_LINES_count c) 0).showSet c
    ((s.raise Code.ISP_CTX_RESTARTED [c, i, frame]).noReference c).forgetLost c

/-! ### Trilinear alignment (R279) -/

/-- Least integer not below d / 256. -/
def ceil256 (d : Int) : Int := -((-d) / 256)

/-- The line count that lies `k` lines from the first, modulo 2^32 (R274). -/
def lineAt (k : Int) : Nat := (k % 4294967296).toNat

/-- How many lines after line count `p` line count `n` follows, modulo 2^32 (R274). -/
def linesSince (n p : Nat) : Nat := (n + 4294967296 - p) % 4294967296

/-- The line counts that row `p` reads for a colour of offset `d` (Table ISP-4). -/
def alignReads (p : Nat) (d : Int) : List Nat :=
  let k : Int := p + d / 256
  if d % 256 = 0 then [lineAt k] else [lineAt k, lineAt (k + 1)]

/-- The row of colour `i` at line count `p` with offset `d`, from the corrected lines; none where a line it reads is
missing or LOST. -/
def alignColour (rows : List Row) (p : Nat) (i : Nat) (d : Int) : Option (List Nat) :=
  let k : Int := p + d / 256
  let f := (d % 256).toNat
  let line := fun (j : Int) => (rows.find? (fun r => r.count == lineAt j)).bind (fun r => if r.lost then none else r.planes[i]?)
  if f = 0 then line k
  else match line k, line (k + 1) with
    | some a, some b => some (interpolate a b f)
    | _, _ => none

/-- A line that row `p` reads lies before the first line, so that no row holds it (Table ISP-7). -/
def beforeStart (rows : List Row) (p : Nat) (d : Int) : Bool := !(alignReads p d).all (fun k => rows.any (fun r => r.count == k))

/-- The first lost line that row `p` reads with alignment offsets `ds` (R17, R279). -/
def firstLost (rows : List Row) (p : Nat) (ds : List Int) : Option Nat :=
  let reads := ds.flatMap (alignReads p)
  ((rows.filter (fun r => r.lost && reads.contains r.count)).map (fun r => r.count)).min?

/-- Emit every trilinear output row that is complete once line `n` has entered; `fuel` bounds the rows. -/
def State.emitTrilinear (s : State) (c n : Nat) : Nat → State
  | 0 => s
  | fuel + 1 =>
    let x := s.ctx c
    let p := x.nextRow
    match x.rows.find? (fun r => r.count == p) with
    | none =>
      -- a count that no line took is passed over
      if linesSince n p ≥ 2147483648 then s else (s.setCtx c { x with nextRow := lineAt (p + 1) }).emitTrilinear c n fuel
    | some r =>
      let q := s.frameSet c r.frame
      let m := max 0 (max (ceil256 q.dG) (ceil256 q.dB))
      if m > linesSince n p then s
      else
        let s := s.setCtx c { x with nextRow := lineAt (p + 1) }
        let early := beforeStart x.rows p q.dG || beforeStart x.rows p q.dB
        let r1 := match (if r.lost then none else r.planes[0]?), alignColour x.rows p 1 q.dG, alignColour x.rows p 2 q.dB with
          | some a, some g, some b => { r with planes := [a, g, b] }
          | _, _, _ => { r with lost := true, planes := [], flags := r.flags ||| tfLOST ||| (if early then tfNOALIGN else 0) }
        let s := if r1.lost && !r.lost then
            let line := (firstLost x.rows p [q.dG, q.dB]).getD p
            let s := (s.inc (F.ISP_CTX_FAULTS_lost c)).reportLost c p line (s.lostCode c line)
            s.raise Code.ISP_LINE_FAULT [c, r1.flags, p]
          else s
        let s := s.finishRow c q r1 none
        let s := match (s.ctx c).accs.find? (fun a => a.number == r.frame) with
          | some a => if a.endAt = p then s.endFrame c r.frame else s
          | none => s
        s.emitTrilinear c n fuel

/-! ### Lines of LINE and TRILINEAR contexts -/

/-- The fault flags of a line against set `q` (R273, R283, Table ISP-7), and whether it is LOST. -/
def lineFlags (kind : Nat) (q : ParamSet) (l : LineIn) : Nat × Bool :=
  let arr := arrangement l.format
  let malformed := !l.lost && (!knownFormat l.format ||
    (if kind = 0 then arr != 0 else if kind = 1 then arr != 5 else arr > 4))
  let head := !l.lost && l.headStatus.testBit 0
  let narrow := !l.lost && q.width != 0 && l.pixels < q.width
  let wide := !l.lost && q.width != 0 && l.pixels > q.width
  let late := match l.trigAt with
    | some t => !l.lost && q.lateUs != 0 && l.at_ - t > q.lateUs * 200
    | none => false
  let lost := l.lost || l.short || malformed || head || narrow || (late && q.lateLost)
  ((if lost then tfLOST else 0) + (if l.long && !malformed then tfLONG else 0) + (if wide && !malformed then tfWIDE else 0) +
    (if late && !q.lateLost then tfLATE else 0) + (if malformed then tfMALFORMED else 0) + (if l.waited then tfLAYBY else 0) +
    (if head then tfHEADSTATUS else 0), lost)

/-- The raw expanded rows of a line: three for a trilinear line, each cut to the set's width. -/
def rawPlanes (q : ParamSet) (l : LineIn) : List (List Nat) :=
  let n := if arrangement l.format = 5 then 3 else 1
  let px := expand l.format (n * l.pixels) l.data
  (List.range n).map (fun i =>
    let row := (px.drop (i * l.pixels)).take l.pixels
    if q.width = 0 then row else row.take q.width)

/-- Count and write the faults of a line (R283): `flags` without LAYBY. -/
def State.lineFault (s : State) (c n flags : Nat) (lost : Bool) : State :=
  let s := if lost then s.inc (F.ISP_CTX_FAULTS_lost c) else s
  let s := if flags &&& tfLONG != 0 then s.inc (F.ISP_CTX_FAULTS_cut c) else s
  let s := if flags &&& tfWIDE != 0 then s.inc (F.ISP_CTX_FAULTS_cut c) else s
  let s := if flags &&& tfMALFORMED != 0 then s.inc (F.ISP_CTX_FAULTS_frames c) else s
  let fl := flags &&& 0x17F
  if fl != 0 then s.raise Code.ISP_LINE_FAULT [c, fl, n] else s

/-- A frame of a LINE or TRILINEAR context starts at line count `n` (R274, R276, R287); answers the state with the frame
begun and the line's own count, which a landing restart sets to 0. -/
def State.startLineFrame (s : State) (c n f : Nat) : State × Nat × Nat :=
  let restart := (s.ctx c).restart.isSome
  let s := s.landRestart c
  let n := if restart then 0 else n
  let f := if restart then 0 else f
  let s := s.swapBank c f
  let x := s.ctx c
  let s := s.setCtx c { x with frameAt := n, accs := x.accs ++ [acc0 f (lineAt (n + x.set.frameLines - 1)) (s.get (F.ISP_CTX_STATUS_active_bank c)) 0]
                               nextRow := if restart then 0 else x.nextRow }
  (s.set (F.ISP_CTX_FRAME_number c) f, n, f)

/-- A line of a LINE or TRILINEAR context enters (R274, R278, R279). -/
def State.lineEnters (s : State) (c : Nat) (l : LineIn) : State :=
  let kind := (s.ctxCfg c).kind
  let x := s.ctx c
  let n := match x.lastSeq with
    | none => 0
    | some q => (s.get (F.ISP_CTX_LINES_count c) + (l.seq + 65536 - q) % 65536) % 2 ^ 32
  let f := s.get (F.ISP_CTX_FRAME_number c)
  let (s, n, f) := match x.lastSeq with
    | none => s.startLineFrame c n f
    | some _ => if linesSince n x.frameAt ≥ x.set.frameLines then s.startLineFrame c n (f + 1) else (s, n, f)
  let x := s.ctx c
  let q := x.set
  let (flags, lost) := lineFlags kind q l
  let s := s.lineFault c n flags lost
  let s := s.ageLost c n
  let s := if lost then s.reportLost c n n (if l.lost then l.code else Code.ISP_LINE_FAULT) else s
  let raw := if lost then [] else rawPlanes q l
  let planes := (indexed raw).map (fun e => correctRow q kind 0 e.1 0 e.2)
  let r : Row := { count := n, frame := f, stamp := l.stamp, flags := flags, status := l.headStatus, lost := lost
                   local_ := l.local_, planes := planes }
  let s := s.withAcc c f (fun a => { a with lines := a.lines + 1, sig := raw.foldl crc64Pixels a.sig })
  let x := s.ctx c
  let rows := if kind = 1 then x.rows.filter (fun o => linesSince n o.count < 200) ++ [r] else []
  let s := s.setCtx c { x with lastSeq := some l.seq, rows := rows }
  let s := s.set (F.ISP_CTX_LINES_count c) n
  if kind = 1 then s.emitTrilinear c n 256
  else
    let s := s.finishRow c q r (planes.head?)
    match (s.ctx c).accs.find? (fun a => a.number == f) with
    | some a => if a.endAt = n then s.endFrame c f else s
    | none => s

/-! ### AREA frames (R275, R279, R283) -/

/-- Finish area row `y` of arrangement `cfa`, whose neighbours are the rows that have entered; beyond the edge row the nearest row of the same
colours is replicated. An image of one row or one column holds no sample of the missing colours, which are free. -/
def State.finishArea (s : State) (c cfa y : Nat) : State :=
  let x := s.ctx c
  match x.rows.find? (fun r => r.count == y) with
  | none => s
  | some r =>
    let mid := r.planes.head?.getD []
    let get := fun k => (x.rows.find? (fun o => o.count == k)).bind (fun o => o.planes.head?)
    let up := if y = 0 then get 1 else get (y - 1)
    let dn := (get (y + 1)).or up
    let w := mid.length
    if cfa = 0 then s.finishRow c x.set { r with planes := [mid] } (some mid)
    else match up.or dn, dn, decide (2 ≤ w) with
      | some a, some b, true => s.finishRow c x.set { r with planes := demosaic cfa y a mid b } (some mid)
      | _, _, _ =>
        let (v, s) := s.drawPixels (3 * w)
        let planes := [0, 1, 2].map (fun k => (List.range w).map (fun i =>
          if bayerColour cfa y i = k then mid.getD i 0 else v.getD (k * w + i) 0))
        s.finishRow c x.set { r with planes := planes } (some mid)

/-- Finish the area rows below `lim` that have entered and are not finished; the row before them stays for its neighbour. -/
def State.finishTo (s : State) (c cfa lim : Nat) : State :=
  let y := (s.ctx c).nextRow
  let s := s.each (upTo (lim - y)) (fun s i => s.finishArea c cfa (y + i))
  let x := s.ctx c
  s.setCtx c { x with nextRow := max y lim, rows := x.rows.filter (fun o => o.count + 1 ≥ max y lim) }

/-- Enter an area row and finish the rows that needed it (R279): a MONO row at once, a Bayer row with the next one. Rows wait
until a line has shown the arrangement. -/
def State.areaRow (s : State) (c : Nat) (r : Row) : State :=
  let x := s.ctx c
  let s := s.setCtx c { x with rows := x.rows ++ [r] }
  match x.cfa with
  | none => s
  | some cfa => s.finishTo c cfa (if cfa = 0 then r.count + 1 else r.count)

/-- The arrangement with which a frame closes: where no line has shown one, all its samples are 0, and it is a colour frame where
its set writes a colour (DESIGN CHOICE). -/
def Ctx.arrangement (x : Ctx) : Nat := x.cfa.getD (bit (x.set.outputs.any (fun o => o.content ≤ 3)))

/-- Pad the open frame of context `c` with its last row up to its height (R283). -/
def State.padArea (s : State) (c f height : Nat) : Nat → State
  | 0 => s
  | fuel + 1 =>
    let x := s.ctx c
    match x.accs.find? (fun a => a.number == f) with
    | none => s
    | some a =>
      if a.lines ≥ height then s
      else
        let last := (x.rows.getLast?).map (fun r => r.planes)
        let r : Row := { count := a.lines, frame := f, stamp := ((x.rows.getLast?).map (fun r => r.stamp)).getD 0
                         flags := tfPADDED, status := 0, lost := false, local_ := 0
                         planes := last.getD [List.replicate x.set.width 0] }
        let s := s.withAcc c f (fun a => { a with lines := a.lines + 1 })
        (s.areaRow c r).padArea c f height fuel

/-- The open area frame closes at local time `t` with frame flags for its faults: padded, finished and its statistics written. -/
def State.closeArea (s : State) (c flags t : Nat) : State :=
  let f := s.get (F.ISP_CTX_FRAME_number c)
  let x := s.ctx c
  let h := x.set.frameLines
  let got := ((x.accs.find? (fun a => a.number == f)).map (fun a => a.lines)).getD 0
  let flags := flags ||| (if got < h && flags = 0 then ffSHORT else 0)
  let s := s.withAcc c f (fun a => { a with flags := a.flags ||| flags })
  let s := s.padArea c f h (h + 1)
  let s := s.finishTo c x.arrangement h
  let s := s.endFrame c f
  let s := (indexed x.set.outputs).foldl (fun s e =>
    s.each (upTo e.2.height) (fun s y => s.capturedAt c e.1 ((f % max e.2.ring 1) * e.2.height + y) (some t))) s
  let s := s.set (F.ISP_CTX_STATUS_frame_open c) 0
  let s := s.setCtx c { s.ctx c with rows := [], boxes := [], nextRow := 0 }
  -- the frame releases the EVENT jobs that the context feeds (R227, R228)
  let s := s.releaseEvents (s.ctxCfg c).part (fun t => t.contexts.contains c) [] 0
  if flags != 0 then (s.inc (F.ISP_CTX_FAULTS_frames c)).raise Code.ISP_FRAME_FAULT [c, f, flags] else s

/-- A frame mark enters the channel (R275). -/
def State.markEnters (s : State) (c frame : Nat) (opens : Bool) (t : Nat) : State :=
  if (s.ctxCfg c).kind != 2 then s
  else
    let isOpen := s.on (F.ISP_CTX_STATUS_frame_open c)
    if opens then
      -- a restart that lands drops the open frame (R287)
      let s := if isOpen && (s.ctx c).restart.isNone then s.closeArea c ffSHORT t else s
      let s := (s.landRestart c).swapBank c frame
      let x := s.ctx c
      let jump := match x.lastFrame with
        | none => 0
        | some p => (if frame = (p + 1) % 2 ^ 32 then 0 else ffSKIP) + (if frame = p then ffREPEAT else 0)
      let s := s.setCtx c { x with accs := [acc0 frame 0 (s.get (F.ISP_CTX_STATUS_active_bank c)) jump], rows := [], boxes := [], nextRow := 0, lastFrame := some frame, discard := false }
      (s.set (F.ISP_CTX_STATUS_frame_open c) 1).set (F.ISP_CTX_FRAME_number c) frame
    else if isOpen then s.closeArea c 0 t else s

/-- A line of an AREA context enters (R275, R283). -/
def State.areaLine (s : State) (c : Nat) (l : LineIn) : State :=
  let x := s.ctx c
  let n := match x.lastSeq with
    | none => 0
    | some q => (s.get (F.ISP_CTX_LINES_count c) + (l.seq + 65536 - q) % 65536) % 2 ^ 32
  let s := (s.setCtx c { x with lastSeq := some l.seq }).set (F.ISP_CTX_LINES_count c) n
  if !s.on (F.ISP_CTX_STATUS_frame_open c) then
    if x.discard then s
    else (s.inc (F.ISP_CTX_FAULTS_frames c)).raise Code.ISP_LINE_FAULT [c, tfMALFORMED, n]
  else
    let f := s.get (F.ISP_CTX_FRAME_number c)
    let q := x.set
    let y := (((s.ctx c).accs.find? (fun a => a.number == f)).map (fun a => a.lines)).getD 0
    if y ≥ q.frameLines then
      -- a row beyond the frame height is cut
      let already := ((s.ctx c).accs.any (fun a => a.number == f && a.flags.testBit 1))
      let s := s.withAcc c f (fun a => { a with flags := a.flags ||| ffLONG })
      if already then s else (s.inc (F.ISP_CTX_FAULTS_cut c)).raise Code.ISP_FRAME_FAULT [c, f, ffLONG]
    else
      let (flags, lost) := lineFlags 2 q l
      let s := s.lineFault c n (if lost then flags ||| tfPADDED else flags) lost
      let cfa := if lost then x.cfa else some (arrangement l.format)
      let raw := if lost then [] else (rawPlanes q l).head?.getD []
      let px := if lost then ((x.rows.getLast?).bind (fun r => r.planes.head?)).getD (List.replicate q.width 0)
        else correctRow q 2 (arrangement l.format) 0 y raw
      let fl := if lost then (flags &&& 0x1FE) ||| tfPADDED else flags
      let s := s.setCtx c { s.ctx c with cfa := cfa }
      let s := s.withAcc c f (fun a =>
        { a with lines := a.lines + 1, lost := if lost then a.lost + 1 else a.lost, sig := crc64Pixels a.sig raw })
      s.areaRow c { count := y, frame := f, stamp := l.stamp, flags := fl, status := l.headStatus, lost := false
                    local_ := l.local_, planes := [px] }

/-! ### Channels -/

/-- Let the marks at the head of a channel's queue take effect; `fuel` bounds them. -/
def State.drainMarks (s : State) (ch : Nat) : Nat → State
  | 0 => s
  | fuel + 1 =>
    let c := s.ispChan ch
    match c.queue with
    | .mark x f o t :: rest => ((s.setIspChan ch { c with queue := rest }).markEnters x f o t).drainMarks ch fuel
    | _ => s

/-- FRAME_MARK (R263, R275): it takes its place in the channel behind the lines that wait; inside an open line it is
violation 0x06 and takes effect before that line. -/
def execFrameMark (n : LaneId) (p : Packet) (s : State) : Host.Outcome State Fault Refusal :=
  s.run (fun s => s.packet n 4 p (fun s =>
    if s.streamState n p.stream == stRESEND then s
    else
      let what := recField p.payload 4 1
      let ch := (s.laneCfg n).channel
      let isOpen := (s.streamAt n p.stream).line.isSome
      let s := s.handMark n p.stream (recField p.payload 0 4) (what == 1)
      let s := if (s.ispChan ch).golden.isNone then s.drainMarks ch (s.ispChan ch).queue.length else s
      if isOpen then s.violation n p.stream 6 else s))

/-- LINE_ENTERS_CHANNEL: the next line of channel `ch` leaves the lay-by, or comes straight from its lane, and passes every
step; the marks behind it follow. During a golden slot every real line waits (R284). -/
def execLineEntersChannel (ch : Fin 16) (s : State) : Host.Outcome State Fault Refusal :=
  s.run (fun s =>
    let c := s.ispChan ch
    if c.golden.isSome then s
    else match c.queue with
      | .line l :: rest =>
        let s := (s.setIspChan ch { c with queue := rest }).showLayby ch
        let s := s.inc (F.ISP_CHAN_LINES_count ch)
        let s := if l.waited then
            s.set (F.ISP_GOLDEN_WAIT_ns ch) (min 65535 (max (s.get (F.ISP_GOLDEN_WAIT_ns ch)) (5 * (s.clk.now - l.at_))))
          else s
        let s := if (s.ctxCfg l.ctx).kind = 2 then s.areaLine l.ctx l else s.lineEnters l.ctx l
        s.drainMarks ch rest.length
      | _ => s.drainMarks ch c.queue.length)

/-- FRAME_TIMEOUT: no CLOSE within the frame timeout (R283): the frame is closed and padded with LATE_FRAME, and rows until
the next OPEN are discarded. -/
def execFrameTimeout (c : CtxId) (s : State) : Host.Outcome State Fault Refusal :=
  s.run (fun s =>
    if (s.ctxCfg c).kind == 2 && s.on (F.ISP_CTX_STATUS_frame_open c) then
      let s := s.closeArea c ffLATE s.localNs
      s.setCtx c { s.ctx c with discard := true }
    else s)

/-! ### Commands of the ISP block (R276, R287) -/

/-- The offset of ISP_CTX_CMD[c]. -/
def ispCmdOff (c : Nat) : Nat := 0x1004 + 0x100 * c

/-- An ISP_CTX_CMD write of port `i`: the owning port of the context's partition, OWNER and SERVICE may write it. -/
def State.ispCmd (s : State) (i : Port) (c : CtxId) (f : State → State) : State :=
  if !(s.privileged i || s.owns i (s.ctxCfg c).part) then s.raise Code.ISP_ROLE [i, ispCmdOff c]
  else if !(s.ctxCfg c).defined then s
  else f s

/-- LOAD (R276): refused BUSY while a committed swap is pending. -/
def execParamLoad (i : Port) (c : CtxId) (s : State) : Host.Outcome State Fault Refusal :=
  s.run (fun s => s.ispCmd i c (fun s =>
    let st := s.get (F.ISP_CTX_STATUS_shadow c)
    if st == shCOMMITTED || st == shLOADING then s.ispRefuse i c ispBUSY 0
    else
      let s := (s.set (F.ISP_CTX_STATUS_shadow c) shLOADING).setCtx c { s.ctx c with shadow := none, loadPort := i }
      (s.showWork).ispResult i c 0 0))

/-- PARAM_LOAD_DONE: the read of a set ends, from host memory with its bytes, or from the partition's pages; it is checked
and written into the shadow bank, or refused (R276, Table ISP-2). -/
def execParamLoadDone (c : CtxId) (host : List Byte) (s : State) : Host.Outcome State Fault Refusal :=
  s.run (fun s =>
    if s.get (F.ISP_CTX_STATUS_shadow c) != shLOADING then s
    else
      let len := s.get (F.ISP_CTX_LEN_bytes c)
      let src := s.get64 (F.ISP_CTX_SRC_LO_addr c) (F.ISP_CTX_SRC_HI_addr c)
      let part := (s.ctxCfg c).part
      let bs := if s.on (F.ISP_CTX_LEN_hbm c) then
          (if src + len > 65536 * s.ctxPages c then [] else s.bytes (s.partAddr part src) len)
        else host
      let presets := ((tfind s.cfg.partTables part).map (fun t => t.presets)).getD []
      let x := s.ctx c
      let fail := fun (s : State) (reason off : Nat) => (s.set (F.ISP_CTX_STATUS_shadow c) shEMPTY).ispRefuse x.loadPort c reason off
      if src % 64 != 0 then fail s ispFORMAT 0
      else match readSet bs len (s.ctxCfg c).kind (s.ctxPages c) presets with
        | .inr (reason, off) => fail s reason off
        | .inl q =>
          let s1 := s.setCtx c { x with shadow := some q }
          if s1.workKib > 32768 then fail s ispSPACE 0
          else
            let s := ((s1.set (F.ISP_CTX_STATUS_shadow c) shLOADED).showWork).ispResult x.loadPort c 0 0
            s.raise Code.ISP_PARAM_LOADED [c, x.loadPort, q.digest.toNat % 2 ^ 32])

/-- COMMIT (R276): a LOADED shadow bank takes over at the next frame start. -/
def execParamCommit (i : Port) (c : CtxId) (s : State) : Host.Outcome State Fault Refusal :=
  s.run (fun s => s.ispCmd i c (fun s =>
    if s.get (F.ISP_CTX_STATUS_shadow c) == shLOADED then
      (s.set (F.ISP_CTX_STATUS_shadow c) shCOMMITTED).ispResult i c 0 0
    else s))

/-- DISCARD empties a LOADED or COMMITTED shadow bank (Table ISP-11). -/
def execParamDiscard (i : Port) (c : CtxId) (s : State) : Host.Outcome State Fault Refusal :=
  s.run (fun s => s.ispCmd i c (fun s =>
    let st := s.get (F.ISP_CTX_STATUS_shadow c)
    if st == shLOADED || st == shCOMMITTED then
      ((s.set (F.ISP_CTX_STATUS_shadow c) shEMPTY).setCtx c { s.ctx c with shadow := none }).showWork.ispResult i c 0 0
    else s))

/-- CONTEXT_RESTART (R287): lands at the next frame start, and is refused in AGE upkeep. -/
def execContextRestart (i : Port) (c : CtxId) (s : State) : Host.Outcome State Fault Refusal :=
  s.run (fun s => s.ispCmd i c (fun s =>
    if s.get F.PACE_STATUS_upkeep_mode != upkeepLIVE && s.get F.PACE_STATUS_upkeep_mode != upkeepBOTH then
      s.ispRefuse i c ispAGE 0
    else
      ((s.setCtx c { s.ctx c with restart := some i }).set (F.ISP_CTX_STATUS_restart_pending c) 1).ispResult i c 0 0))

/-! ### Golden frames (R284, R285, R376) -/

/-- The checker's golden frame of context `c` is declared. -/
def State.hasGolden (s : State) (c : Nat) : Bool := s.cfg.safety.goldens.any (fun g => g.ctx == c)

/-- The pipeline channel of a context. -/
def State.ctxChan (s : State) (c : Nat) : Nat := (s.laneCfg (s.ctxCfg c).lane).channel

/-- The golden slot of channel `ch` opens for context `c`: the lines that are in the channel's queue wait for it, too (R284). -/
def State.openGolden (s : State) (ch c : Nat) : State :=
  let q := s.ispChan ch
  s.setIspChan ch { q with golden := some c, queue := q.queue.map (fun e => match e with
    | .line l => .line { l with waited := l.waited || l.code != Code.LAYBY_LINE_LOST }
    | .mark x f o t => .mark x f o t) }

/-- The slot for the golden frame of context `c` is requested: granted, deferred above 75 % occupancy unless `forced`, or,
while the channel's slot is open, kept until it closes (R285). -/
def State.goldenRequest (s : State) (c : Nat) (forced : Bool) : State :=
  let ch := s.ctxChan c
  let q := s.ispChan ch
  let used := s.get (F.ISP_LAYBY_bytes ch)
  if !s.hasGolden c || !(s.ctxCfg c).defined then s
  else if q.golden == some c then s
  else if q.golden.isSome then
    let was := s.isp.goldenWait.any (fun e => e.1 == c && e.2)
    { s with isp := { s.isp with goldenWait := s.isp.goldenWait.filter (fun e => e.1 != c) ++ [(c, was || forced)] } }
  else if forced then
    ((s.openGolden ch c).inc (F.ISP_GOLDEN_forced ch)).raise Code.GOLDEN_FORCED [ch, c, used]
  else if used > 1572864 then (s.inc (F.ISP_GOLDEN_deferred ch)).raise Code.GOLDEN_DEFERRED [ch, c, used]
  else s.openGolden ch c

/-- GOLDEN_DUE: the golden frame of a context falls due (R285). -/
def execGoldenDue (c : CtxId) (s : State) : Host.Outcome State Fault Refusal := s.run (fun s => s.goldenRequest c false)

/-- GOLDEN_RETRY: 1 ms after a deferral or mismatch the checker requests the slot again (R285, R376). -/
def execGoldenRetry (c : CtxId) (s : State) : Host.Outcome State Fault Refusal := s.run (fun s => s.goldenRequest c false)

/-- GOLDEN_FORCED: 40 µs before the DTI ends the injection starts whatever the occupancy (R285). -/
def execGoldenForced (c : CtxId) (s : State) : Host.Outcome State Fault Refusal := s.run (fun s => s.goldenRequest c true)

/-- GOLDEN_COMPLETE: a golden frame has passed the datapath with output digest `d`: the injection is written with the
longest wait it caused, the slot goes to the lowest context that waits, and the checker judges the digest (R285, R376). -/
def execGoldenComplete (c : CtxId) (d : BitVec 256) (s : State) : Host.Outcome State Fault Refusal :=
  s.run (fun s =>
    let ch := s.ctxChan c
    let q := s.ispChan ch
    if q.golden != some c.val then s
    else
      let wait := q.queue.foldl (fun m e => match e with
        | .line l => if l.waited then max m (5 * (s.clk.now - l.at_)) else m
        | .mark _ _ _ _ => m) 0
      let s := (s.setIspChan ch { q with golden := none }).inc (F.ISP_GOLDEN_injected ch)
      let s := s.set (F.ISP_GOLDEN_WAIT_ns ch) (min 65535 (max (s.get (F.ISP_GOLDEN_WAIT_ns ch)) wait))
      let s := s.raise Code.GOLDEN_INJECTED [ch, c, wait]
      let s := s.goldenJudge c d
      match (upTo 64).findSome? (fun k => s.isp.goldenWait.find? (fun e => e.1 == k && s.ctxChan k == ch)) with
      | none => s
      | some (k, forced) =>
        ({ s with isp := { s.isp with goldenWait := s.isp.goldenWait.filter (fun e => e.1 != k) } }).goldenRequest k forced)

end Sys2Proof.Machine
end

