-- ==== Sys2Proof/Machine/Landing.lean ====
section
/-! DEFINITION. What a committed image leaves armed, the build that takes it in, and COMMIT (R51, R52, R58 to R65). -/

namespace Sys2Proof.Machine

/-! ### The build takes a section in (R61, R62, R64) -/

/-- An iteration worked out on generation `g` of its program; where that has no such template the iteration stays as it is. -/
def State.rework (s : State) (n g : Nat) (first : Bool) (it : Iter) : Iter :=
  let old := (s.job? it.job).bind (fun b => s.templateAt it.part it.gen b.template)
  let folds := it.toPlace.any (fun e => old.any (fun t => (t.legs.getD e.1 leg0).kind == 2))
  match (s.job? it.job).bind (fun b => s.templateAt it.part g b.template) with
  | none => it
  | some t => { it with gen := g, placed := [], batch := []
                        toPlace := t.copies (s.denAt it.part g) it.num (it.num = 0 || first || folds || s.firstWeights it.part (n - 1) n) }

/-- Iterations of partition `p` and generation `a` of which no sheet holds a leg go on with generation `b`; the first of each job on a new
program runs its fold legs (R178). -/
def State.reworkAll (s : State) (p n a b : Nat) (sel : Iter → Bool) : State :=
  let l := s.route.iters.filter (fun it => it.part == p && it.gen == a && sel it)
  let first := fun (it : Iter) => (s.job? it.job).any (fun k => k.foldGen < b) && (l.find? (fun x => x.job == it.job)) == some it
  { s with route := { s.route with
    iters := s.route.iters.map (fun it => if it.part == p && it.gen == a && sel it then s.rework n b (first it) it else it)
    jobs := s.route.jobs.map (fun e => (e.1, if l.any (fun it => it.job == e.1) then { e.2 with foldGen := b } else e.2)) } }

/-- Programs of generations `a` and `b` of partition `p` have one sequence compatibility digest (R64). -/
def State.sameSequences (s : State) (p a b : Nat) : Bool :=
  (s.programAt p a).map (fun g => g.seqDigest) == (s.programAt p b).map (fun g => g.seqDigest)

/-- Waiting joins of generation `a` go on with generation `b`, and its sequences with their batches do where `live` says so. -/
def State.carrySequences (s : State) (p a b : Nat) (live : Bool) : State :=
  let x := s.pool p
  s.setPool p { x with
    seqs := x.seqs.map (fun e => (e.1, if live && e.2.gen = a then { e.2 with gen := b } else e.2))
    slots := x.slots.foldl (fun t e => tput t (if live && e.1 / 256 = a then batchKey (e.1 % 256) b else e.1) e.2) []
    joins := x.joins.map (fun w => if w.gen = a then { w with gen := b } else w) }

/-- The build for period `n` takes in the sections that land then: what has entered no sheet goes on with the new program, a sequence that waits
to join among it; those that are live do where the programs have one sequence compatibility digest, and are old parts where not (R64). -/
def State.takeLandings (s : State) (n : Nat) : State :=
  s.each (upTo 8) (fun s p =>
    if !s.zld.armed.any (fun a => a.target == p && !a.taken && a.land ≤ n) then s
    else
      let s := { s with zld := { s.zld with armed := s.zld.armed.map (fun (a : Armed) =>
        if a.target == p && a.land ≤ n then { a with taken := true } else a) } }
      let g := tget 0 s.route.gens p
      let s := s.reworkAll p n g (g + 1) (fun it => it.placed.isEmpty && it.done.isEmpty)
      s.carrySequences p g (g + 1) (s.sameSequences p g (g + 1)))

/-- A section that a build has taken in will not land after all: the sheets in the builder lose its legs. -/
def State.untake (s : State) (p : Nat) : State :=
  if (s.takenFor p).isNone then s
  else
    let g := tget 0 s.route.gens p
    let s := { s with route := { s.route with planned := s.route.planned.filter (fun l => !(l.part == p && l.gen == g + 1)) } }
    (s.reworkAll p (s.route.buildFor + 1) (g + 1) g (fun _ => true)).carrySequences p (g + 1) g true

/-! ### COMMIT -/

/-- The running upkeep mode lands sections live (Table ZLD-8). -/
def State.liveUpkeep (s : State) : Bool :=
  s.get F.ZLD_ACTIVE_upkeep_mode == upkeepLIVE || s.get F.ZLD_ACTIVE_upkeep_mode == upkeepBOTH

/-- Show what is armed in ZLD_STATUS. -/
def State.showArmed (s : State) : State :=
  let s := s.set F.ZLD_STATUS_armed (maskOf 8 (fun p => s.zld.armed.any (fun a => a.partial_ && a.target == p)))
  s.setB F.ZLD_STATUS_full_armed (s.zld.armed.any (fun a => !a.partial_))

/-- Arm a section. -/
def State.arm (s : State) (a : Armed) : State := ({ s with zld := { s.zld with armed := s.zld.armed ++ [a] } }).showArmed

/-- Arm a committed PARTIAL: a second one for the same partition replaces the first (R65). -/
def State.armPartial (s : State) (img : ImageFile) (slot : Nat) : State :=
  let p := img.part
  let old := s.zld.armed.find? (fun a => a.partial_ && a.target == p)
  let s := match old with
    | some a =>
      let s := (s.raise Code.ZLD_SUPERSEDED [p, a.build]).untake p
      { s with zld := { s.zld with armed := s.zld.armed.filter (fun b => !(b.partial_ && b.target == p)) } }
    | none => s
  s.arm { target := p, land := s.landing, program := (img.programs.head?.map (fun e => e.2)),
          tables := (img.partTables.head?.map (fun e => e.2)), safety := none, build := img.header.build, slot := slot,
          partial_ := true, taken := false }

/-- Nothing is armed any more: a FULL image that is committed drops what an earlier FULL image has armed, without ZLD_SUPERSEDED, which R65
states for PARTIALs only (DESIGN CHOICE). -/
def State.disarm (s : State) : State :=
  let s := s.each (upTo 8) State.untake
  ({ s with zld := { s.zld with armed := [] } }).showArmed

/-- Once every section of a committed FULL image runs, its build and digest are those of the running image, and no overlay
runs. -/
def State.adoptFull (s : State) (build : Nat) : State :=
  match s.keep.full with
  | none => s
  | some (_, d) =>
    if s.zld.armed.any (fun a => !a.partial_) then s
    else
      let s := { s with cfg := { s.cfg with digest := d } }.set F.ZLD_BUILD_build build
      let s := s.each (upTo 16) (fun s i => s.set (F.ZLD_DIGEST_word i) (d.toNat / 2 ^ (32 * i)))
      s.each (upTo 8) (fun s p => ((s.set (F.ZLD_OVERLAY_present p) 0).set (F.ZLD_OVERLAY_slot p) 0).set (F.ZLD_OVERLAY_build p) 0)

/-- The sections of a committed FULL image that land live: SAFETY, and those of every partition (R60, Table ZLD-8); an earlier image that
waited for a restart is replaced, and nothing waits any more (R59). -/
def State.armFull (s : State) (img : ImageFile) (y : SafetySec) : State :=
  let s := s.disarm.set F.ZLD_STATUS_restart_pending 0
  let s := s.arm { target := 8, land := s.landing, program := none, tables := none, safety := some y, build := img.header.build,
                   slot := 0, partial_ := false, taken := false }
  s.each ((upTo 8).filter (fun p => (s.part p).defined)) (fun s p =>
    s.arm { target := p, land := s.landing, program := afind img.programs p, tables := afind img.partTables p, safety := none
            build := img.header.build, slot := 0, partial_ := false, taken := false })

/-- A refused COMMIT changes nothing but what it reports. -/
def State.commitRefused (s : State) (i : Port) (f : Failure) : State :=
  (s.raise f.code f.params).zldResult i f.code f.section_ f.item

/-- What follows the commit record of a committed image (R59 to R61, Table ZLD-8): a FULL image that changes neither STRUCTURE, PACE nor
TABLES is armed for every partition, a partial one for its own; any other takes effect with a restart. -/
def State.followCommit (s : State) (img : ImageFile) (slot : Nat) : State :=
  match img.header.kind == kindFULL, img.structureSec, img.pace, img.safety, img.tables with
  | true, some t, some p, some y, some b =>
    if s.liveUpkeep && t.digest = s.cfg.structureSec.digest && p.digest = s.cfg.pace.digest &&
        b.digest = s.cfg.tables.digest then s.armFull img y
    else s.disarm.set F.ZLD_STATUS_restart_pending 1
  | _, _, _, _, _ =>
    if s.liveUpkeep then s.armPartial img slot else s.set F.ZLD_STATUS_restart_pending 1

/-- COMMIT (R51, R52, R53, R56, R58). -/
def execCommit (i : Port) (s : State) : Host.Outcome State Fault Refusal :=
  s.run (fun s => match s.zld.image with
    | none => s.zldBad i 3
    | some img =>
      if !s.holdsSession i || s.zldState != zldVERIFIED then s.zldBad i 3
      else if img.header.kind == kindFULL && s.zld.armed.any (fun a => a.partial_) then
        (s.raise Code.ZLD_BUSY [i, s.get F.ZLD_STATUS_session_port]).zldResult i Code.ZLD_BUSY 0 0
      else match s.checkLock img i with
        | some f => s.commitRefused i f
        | none =>
          let h := img.header
          let slot := s.inactiveImageSlot img
          -- the steps are written before the action they permit (R82)
          let s := if h.epoch > s.keep.epoch then
              s.spend ratEPOCH (1023 - h.epoch) (fun k => { k with epoch := h.epoch }) else s
          let mode := (img.structureSec.map (fun t => t.upkeep)).getD 0
          let s := if h.kind == kindFULL && mode != s.get F.ZLD_ACTIVE_upkeep_mode then
              s.spend ratUPKEEP (s.keep.upkeepLeft - 1) (fun k => { k with upkeepLeft := k.upkeepLeft - 1 }) else s
          let s := if h.kind == kindFULL then s.keepWrite recCOMMIT (fun k => { k with full := some (slot, img.digest), overlays := [] })
            else s.keepWrite recCOMMIT (fun k => { k with overlays := tput k.overlays img.part (slot, img.digest) })
          let s := if h.kind == kindFULL then { s with flash := { s.flash with overlays := [] } } else s
          let s := s.raise Code.ZLD_COMMITTED [h.kind, h.epoch, h.build]
          let s := { s with zld := { s.zld with image := none } }
          let s := (s.set F.ZLD_STATUS_state zldIDLE).set F.ZLD_STATUS_session_port 0
          let s := s.followCommit img slot
          (s.zldResult i 0 0 0).fireAll 1)

end Sys2Proof.Machine
end

