-- ==== Sys2Proof/Machine/Route.lean ====
section
/-! DEFINITION. Jobs and shares (R229, R230, R241 to R250), the build commands (R228, R234), the completion and the abort of
legs and iterations (R62, R146, R226, R227, R242, R243, R409), and what lands at a boundary (R247). -/

namespace Sys2Proof.Machine

/-! ### Commands of the ROUTE block (R229, R230, R244 to R248) -/

/-- ROUTE_CMD values of Table ROUTE-9. -/
def rcADMIT : Nat := 1
def rcRETIRE : Nat := 2
def rcSETWEIGHT : Nat := 3
def rcSOLO : Nat := 4
def rcQUOTA : Nat := 5
def rcBANDWIDTH : Nat := 6
def rcWINDOW : Nat := 7

/-- Reasons of ROUTE_CMD_STATUS. -/
def rrTEMPLATE : Nat := 1
def rrNOINDEX : Nat := 2
def rrQUOTA : Nat := 3
def rrNOFIT : Nat := 4
def rrBADWEIGHT : Nat := 5
def rrABOVE : Nat := 6
def rrBELOWNEED : Nat := 7
def rrLEGLONG : Nat := 8
def rrOVERLAP : Nat := 9

/-- The result of a ROUTE command on its port. -/
def State.routeStatus (s : State) (i : Port) (code reason job period : Nat) : State :=
  let s := (s.set (F.ROUTE_CMD_STATUS_code i) code).set (F.ROUTE_CMD_STATUS_reason i) reason
  (s.set (F.ROUTE_CMD_STATUS_job i) job).set (F.ROUTE_CMD_STATUS2_period i) period

/-- Rights of Table ROUTE-6: job commands for the owning port on its own partition, cuts only on a BEST_EFFORT one. -/
def State.routeRight (s : State) (i : Port) (p cmd : Nat) : Bool :=
  s.privileged i ||
    (s.owns i p && (cmd ≤ rcSOLO || s.get (F.ROUTE_PART_criticality p) == critBESTEFFORT))

/-- Run a ROUTE command of port `i` on partition `p`, or refuse it with ROUTE_ROLE (R248). -/
def State.routeCmd (s : State) (i : Port) (p : Part) (cmd : Nat) (f : State → State) : State :=
  if s.routeRight i p cmd then f s
  else (s.raise Code.ROUTE_ROLE [i, cmd]).routeStatus i Code.ROUTE_ROLE 0 0 0

/-- The first argument of port `i`. -/
def State.routeArg (s : State) (i : Port) : Nat := s.get (F.ROUTE_CMD_ARG0_value i) + 2 ^ 19 * s.get (F.ROUTE_CMD_ARG0_high i)

/-- A refused admission or a refused cut. -/
def State.admitRefused (s : State) (i : Port) (p reason : Nat) : State :=
  (s.raise Code.ADMIT_REFUSED [i, p, reason]).routeStatus i Code.ADMIT_REFUSED reason 0 0
def State.cutRefused (s : State) (i : Port) (p reason : Nat) : State :=
  (s.raise Code.CUT_REFUSED [i, p, reason]).routeStatus i Code.CUT_REFUSED reason 0 0

/-- A job command that names no job of the partition. -/
def State.noSuchJob (s : State) (i : Port) (cmd : Nat) : State :=
  (s.raise Code.ROUTE_BAD_COMMAND [i, cmd]).routeStatus i Code.ROUTE_BAD_COMMAND 0 0 0

/-- Bring the counts of admitted jobs to the job table. -/
def State.countJobs (s : State) : State :=
  let s := s.set F.ROUTE_STATUS_jobs s.route.jobs.length
  s.each (upTo 8) (fun s p => s.set (F.ROUTE_PART_jobs p) (s.route.jobs.filter (fun e => e.2.part == p)).length)

/-- The registers of an admitted job (Table ROUTE-11). -/
def State.showJob (s : State) (j p w limit : Nat) (t : TemplateCfg) : State :=
  let s := (s.set (F.ROUTE_JOB_state j) jobADMITTED).set (F.ROUTE_JOB_partition j) p
  let s := (s.set (F.ROUTE_JOB_cadence j) t.cadence).set (F.ROUTE_JOB_template j) t.index
  let s := (s.set (F.ROUTE_JOB_weight j) w).set (F.ROUTE_SLOWDOWN_limit j) limit
  let s := (s.set (F.ROUTE_SLOWDOWN_slowdown j) 0xFFFF).set (F.ROUTE_BASELINE_ns j) 0
  let s := (s.set64 (F.ROUTE_TOLL_LO_ticks j) (F.ROUTE_TOLL_HI_ticks j) 0).set (F.ROUTE_ITER_count j) 0
  s.set (F.ROUTE_DEFERRED_legs j) 0

/-- ADMIT of template `t` into partition `p` (R229, Table ROUTE-2). -/
def execAdmit (i : Port) (p : Part) (t : BitVec 8) (s : State) : Host.Outcome State Fault Refusal :=
  s.run (fun s => s.routeCmd i p rcADMIT (fun s =>
    let arg := s.routeArg i
    let w := arg % 1024
    let limit := arg / 1024 % 65536
    match s.templateAt p (tget 0 s.route.gens p) t.toNat with
    | none => s.admitRefused i p rrTEMPLATE
    | some tm =>
      match (upTo 256).find? (fun j => (s.job? j).isNone) with
      | none => s.admitRefused i p rrNOINDEX
      | some j =>
        let n := s.landing
        if s.on (F.ROUTE_PART_over_quota p) then
          (s.raise Code.HBM_OVER_QUOTA [p, s.get (F.ROUTE_PAGES_held p), s.get (F.ROUTE_QUOTA_pages p), 0]).admitRefused i p rrQUOTA
        else if s.get (F.ROUTE_PAGES_held p) + tm.pages > s.get (F.ROUTE_QUOTA_pages p) then s.admitRefused i p rrQUOTA
        else if (s.part p).criticality != critBESTEFFORT &&
            !((s.fitPlan n [(p.val, j, t.toNat)]).any (fun e => e.1 == p.val && e.2.1)) then s.admitRefused i p rrNOFIT
        else if w = 0 then s.admitRefused i p rrBADWEIGHT
        else
          let b : Job := { part := p, template := t.toNat, landing := n, retireAt := none, oldWeight := w, weightFrom := n, vtoll := 0
                           next := 0, lats := [], solos := [], soloLeft := 0, sinceHigh := 1024, pages := tm.pages, relAt := 0
                           soloFrom := 0, used := 0, lastGen := 0, foldGen := 0 }
          let s := (s.setJob j b).showJob j p w limit tm
          let s := s.set (F.ROUTE_PAGES_held p) (s.get (F.ROUTE_PAGES_held p) + tm.pages)
          (s.countJobs.raise Code.JOB_ADMITTED [i, j, t.toNat, n]).routeStatus i 0 0 j n))

/-- RETIRE of job `j` (R230). -/
def execRetire (i : Port) (p : Part) (j : BitVec 8) (s : State) : Host.Outcome State Fault Refusal :=
  s.run (fun s => s.routeCmd i p rcRETIRE (fun s => match s.job? j.toNat with
    | none => s.noSuchJob i rcRETIRE
    | some b =>
      if b.part != p.val then s.noSuchJob i rcRETIRE
      else
        let n := b.retireAt.getD s.landing
        let s := (s.setJob j.toNat { b with retireAt := some n }).set (F.ROUTE_JOB_state j.toNat) jobRETIRING
        s.routeStatus i 0 0 j.toNat n))

/-- SET_WEIGHT of job `j` (R236, R245): the new weight shows at once, tolls take it from the build at which it lands. -/
def execSetWeight (i : Port) (p : Part) (j : BitVec 8) (s : State) : Host.Outcome State Fault Refusal :=
  s.run (fun s => s.routeCmd i p rcSETWEIGHT (fun s => match s.job? j.toNat with
    | none => s.noSuchJob i rcSETWEIGHT
    | some b =>
      let w := s.routeArg i % 1024
      if b.part != p.val then s.noSuchJob i rcSETWEIGHT
      else if w = 0 then s.cutRefused i p rrBADWEIGHT
      else
        let n := s.landing
        let old := s.weightAt (s.route.buildFor) j.toNat b
        let s := (s.setJob j.toNat { b with oldWeight := old, weightFrom := n }).set (F.ROUTE_JOB_weight j.toNat) w
        let s := s.set (F.ROUTE_PENDING_weight p) 1
        let c : Cut := { kind := 3, part := p, index := j.toNat, a := w, b := 0, landing := n, port := i }
        ({ s with route := { s.route with cuts := s.route.cuts ++ [c] } }).routeStatus i 0 0 j.toNat n))

/-- The worst-case plan holds with the other jobs of partition `p` kept off the cores of job `j` (R244). -/
def State.soloFits (s : State) (n p j : Nat) : Bool := (s.fitPlan n [] (some (p, j))).any (fun e => e.1 == p && e.2.1)

/-- MEASURE_SOLO of job `j` (R244). -/
def execMeasureSolo (i : Port) (p : Part) (j : BitVec 8) (s : State) : Host.Outcome State Fault Refusal :=
  s.run (fun s => s.routeCmd i p rcSOLO (fun s => match s.job? j.toNat with
    | none => s.noSuchJob i rcSOLO
    | some b =>
      if b.part != p.val then s.noSuchJob i rcSOLO
      else if (s.part p).criticality != critBESTEFFORT && !s.soloFits s.landing p j.toNat then s.admitRefused i p rrNOFIT
      else (s.setJob j.toNat { b with soloLeft := 16, soloFrom := s.landing }).routeStatus i 0 0 j.toNat s.landing))

/-- Pages of a pool that are neither free, used, in limbo nor retired: what OVER_QUOTA sent to the unassigned pages (R222). -/
def State.unassignedOf (s : State) (p : Nat) : List Nat :=
  let x := s.pool p
  ((List.range x.size).map (fun k => x.base + k)).filter (fun g =>
    !x.free.contains g && (tfind x.counts g).isNone && !x.limbo.any (fun e => e.2 == g) && !s.integ.retired.contains g)

/-- A raise of the quota returns unassigned pages to the pool, up to the new quota (R246). -/
def State.returnPages (s : State) (p q : Nat) : State :=
  let x := s.pool p
  let back := (s.unassignedOf p).take (q - s.get (F.ROUTE_PAGES_held p))
  (s.setPool p { x with free := x.free ++ back }).set (F.ROUTE_PAGES_held p) (s.get (F.ROUTE_PAGES_held p) + back.length)

/-- SHARE_CHANGED kinds in the order of Table ROUTE-4. -/
def shQUOTA : Nat := 0
def shWEIGHT : Nat := 1
def shBANDWIDTH : Nat := 2
def shWINDOW : Nat := 3

/-- SET_QUOTA of partition `p`: lands at once (R245, R246, R222). -/
def execSetQuota (i : Port) (p : Part) (s : State) : Host.Outcome State Fault Refusal :=
  s.run (fun s => s.routeCmd i p rcQUOTA (fun s =>
    let q := s.get (F.ROUTE_CMD_ARG0_value i)
    if q > s.get (F.ROUTE_QUOTA_LIMIT_pages p) then s.cutRefused i p rrABOVE
    else
      let old := s.get (F.ROUTE_QUOTA_pages p)
      let s := s.set (F.ROUTE_QUOTA_pages p) q
      let s := if q > old then s.returnPages p q else s
      let c := (s.pool p).charge
      -- the pool enters OVER_QUOTA where the cut lies below what the partition holds (R222)
      let s := if !s.on (F.KV_CHARGE_over_quota p) && q < s.get (F.ROUTE_PAGES_held p) && (s.pool p).size != 0 then
          (s.set (F.KV_CHARGE_over_quota p) 1).raise Code.KV_OVER_QUOTA [p, c, q, 0]
        else s.quotaCheck p
      let s := ((s.checkQuota p).showPool p).raise Code.SHARE_CHANGED [i, p, shQUOTA, q]
      s.routeStatus i 0 0 0 s.period))

/-- SET_BANDWIDTH of partition `p` (R245, R246). -/
def execSetBandwidth (i : Port) (p : Part) (s : State) : Host.Outcome State Fault Refusal :=
  s.run (fun s => s.routeCmd i p rcBANDWIDTH (fun s =>
    let v := s.get (F.ROUTE_CMD_ARG0_value i)
    if v > (s.part p).bandwidth then s.cutRefused i p rrABOVE
    else if v < s.get (F.ROUTE_BW_need p) then s.cutRefused i p rrBELOWNEED
    else
      let n := s.landing
      let c : Cut := { kind := 1, part := p, index := 0, a := v, b := 0, landing := n, port := i }
      let s := { s with route := { s.route with cuts := s.route.cuts ++ [c] } }
      (s.set (F.ROUTE_PENDING_bandwidth p) 1).routeStatus i 0 0 0 n))

/-- The windows of partition `p` with window `i` set to (a, b), as of period `n`: (core, start, length). -/
def State.windowsWith (s : State) (n p i a b : Nat) : List (Nat × Nat × Nat) :=
  ((s.part p).coreList.flatMap (fun l => (upTo 4).map (fun w => 4 * l + w))).filterMap (fun k =>
    let v := if k = i then (a, b) else s.winAt n k
    if v.2 = 0 then none else some (k / 4, v.1, v.2))

/-- The reason for which window `w` of logical core `l` of partition `p` cannot become (a, b) at period `n`; none where it can
(R246): outside the declared windows, too short for a leg's span, or overlapping. -/
def State.windowRefusal (s : State) (n p l w a b : Nat) : Option Nat :=
  let within := w < 4 && (s.part p).holds l && (b = 0 ||
    (s.part p).windows.any (fun v => v.lcore == l && v.index == w && v.start ≤ a && a + b ≤ v.start + v.length))
  let ws := s.windowsWith n p (4 * l + w) a b
  let spans := ((s.jobsOf n p).filterMap (fun e => s.templateAt p (s.buildGen p) e.2)).flatMap
    (fun t => t.legs.map (fun g => s.spanAt n p g (g.spanOf (g.variants.length - 1))))
  if !within then some rrABOVE
  else if spans.any (fun x => !ws.any (fun v => x ≤ v.2.2)) then some rrLEGLONG
  else if a + b > s.periodTicks ||
      ws.any (fun u => ws.any (fun v => u != v && u.1 == v.1 && u.2.1 < v.2.1 + v.2.2 && v.2.1 < u.2.1 + u.2.2)) ||
      (b != 0 && (ws.filter (fun v => v == (l, a, b))).length > 1) then some rrOVERLAP
  else none

/-- SET_WINDOW of logical core `l` of partition `p` (R245, R246). -/
def execSetWindow (i : Port) (p : Part) (l : BitVec 8) (s : State) : Host.Outcome State Fault Refusal :=
  s.run (fun s => s.routeCmd i p rcWINDOW (fun s =>
    let w := s.routeArg i
    let a := s.get (F.ROUTE_CMD_ARG1_start i)
    let b := s.get (F.ROUTE_CMD_ARG2_length i)
    let n := s.landing
    match s.windowRefusal n p l.toNat w a b with
    | some r => s.cutRefused i p r
    | none =>
      let c : Cut := { kind := 2, part := p, index := 4 * l.toNat + w, a := a, b := b, landing := n, port := i }
      let s := { s with route := { s.route with cuts := s.route.cuts ++ [c] } }
      (s.set (F.ROUTE_PENDING_window p) 1).routeStatus i 0 0 0 n))

/-! ### Builds (R228, R234, R237) -/

/-- BUILD_START: at the start of period k the builder begins period k + 1 (R228): it chooses spares, takes the releases in,
forms the batches of steps and re-evaluates fit. -/
def State.buildStart (s : State) : State :=
  let n := s.period + 1
  let s := { s with route := { s.route with buildFor := n, built := false, planned := [] } }
  let s := ((s.set F.ROUTE_STATUS_builder_running 1).takeLandings n).chooseSpares n
  let s := s.showWalkers
  -- a job's virtual toll starts at the least of the running jobs of its partition (R236)
  let s := s.each s.route.jobs (fun s e =>
    let (j, b) := e
    if b.landing == n && s.jobState j == jobADMITTED then
      let l := (s.route.jobs.filter (fun f => f.2.part == b.part && f.1 != j && f.2.landing < n &&
        (s.jobState f.1 == jobRUNNING || s.jobState f.1 == jobSOLO))).map (fun f => f.2.vtoll)
      s.setJob j { b with vtoll := match l with | [] => 0 | v :: r => r.foldl min v }
    else s)
  (s.takeReleases n).checkFit n false

/-- BUILD_START of the period after the present one; a build begins once. -/
def execBuildStart (s : State) : Host.Outcome State Fault Refusal :=
  s.run (fun s => if s.route.buildFor > s.period || s.board.diesOff then s else s.buildStart)

/-- BUILD_COMPLETE: the sheets of the period are placed (R234); the build kicks the BUILDER watchdogs (Table SAFE-4). -/
def execBuildComplete (s : State) : Host.Outcome State Fault Refusal :=
  s.run (fun s =>
    if s.route.built || s.route.buildFor ≤ s.period then s
    else
      let s := s.buildSheets s.route.buildFor
      s.kickKind wdBUILDER)

/-! ### Iterations (R62, R227, R230, R242, R243) -/

/-- The mark in an iteration's completed legs that the iteration has completed. -/
def iterMark : Nat × Nat := (65535, 0)

/-- Every leg and recomputation of the iteration has completed. -/
def iterDone (it : Iter) : Bool :=
  !it.toPlace.any (fun e => e.2 < 2) && it.placed.all (fun e => e.2.1 ≥ 2 || it.done.contains (e.1, e.2.1))

/-- The median of 16 figures: the mean of the middle two, rounded down. -/
def median16 (l : List Nat) : Nat :=
  let m := l.mergeSort (· ≤ ·)
  (m.getD 7 0 + m.getD 8 0) / 2

/-- A completed iteration's latency enters the figures of its job (R242, R243). -/
def State.latency (s : State) (j lat : Nat) (alone : Bool) : State :=
  match s.job? j with
  | none => s
  | some b =>
    let lats := (b.lats ++ [lat]).drop (b.lats.length + 1 - 64)
    let solos := if alone && b.solos.length < 16 then b.solos ++ [lat] else b.solos
    let made := solos.length == 16 && b.solos.length == 15
    let left := if alone && s.jobState j == jobSOLO then b.soloLeft - 1 else b.soloLeft
    let s := if b.soloLeft != 0 && left == 0 && s.jobState j == jobSOLO then s.set (F.ROUTE_JOB_state j) jobRUNNING else s
    let s := if made then (s.set (F.ROUTE_BASELINE_ns j) (median16 solos)).raise Code.SOLO_BASELINE [j, median16 solos] else s
    let base := s.get (F.ROUTE_BASELINE_ns j)
    let b := { b with lats := lats, solos := solos, soloLeft := left, sinceHigh := b.sinceHigh + 1 }
    if base = 0 then s.setJob j b
    else
      let v := min (lats.foldl (· + ·) 0 * 256 / (lats.length * base)) 0xFFFE
      let s := s.set (F.ROUTE_SLOWDOWN_slowdown j) v
      let limit := s.get (F.ROUTE_SLOWDOWN_limit j)
      if limit != 0 && v > limit && 1024 ≤ b.sinceHigh then
        (s.setJob j { b with sinceHigh := 0 }).raise Code.SLOWDOWN_HIGH [j, v, limit]
      else s.setJob j b

/-- The payload of an OUTPUT result (Table HOST-5). -/
def State.outputPayload (s : State) (it : Iter) (outcome cause lat : Nat) (d : BitVec 256) (tail : List Byte) : Payload :=
  { subject := it.job, outcome := outcome, carried := 0, cause := cause, chan := 0, output := 0, flags := 0, iteration := it.num
    stamp := 0, target := 0, latency := lat, milestone := s.milestone, sec := s.clk.sec, ns := s.clk.ns, digest := d
    build := ((s.programAt it.part it.gen).map (fun g => g.build)).getD 0, tail := tail }

/-- An iteration ends without completing (R62, R230): its parts are INVALID and its OUTPUT result is ENDED, with the cause. -/
def State.endIter (s : State) (it : Iter) (cause : Nat) : State :=
  let s := s.invalidate it.part it.tags cause
  let s := match it.resNum with
    | some r =>
      let (d, s) := s.drawDigest
      let (v, s) := s.draw
      s.ready it.part r (s.outputPayload it outENDED cause (v % 2 ^ 32) d [])
    | none => s
  { s with route := { s.route with iters := s.route.iters.filter (fun x => !(x.job == it.job && x.num == it.num))
                                   legs := s.route.legs.filter (fun g => !(g.job == it.job && g.iter == it.num))
                                   planned := s.route.planned.filter (fun g => !(g.job == it.job && g.iter == it.num)) } }

/-- The pages that partition `p` holds: those of its jobs, of its pool without what went to the unassigned pages, and of its KV table
area (R206, R207, R222, R245). -/
def State.countHeld (s : State) (p : Nat) : State :=
  let jobs := ((s.route.jobs.filter (fun e => e.2.part == p)).map (fun e => e.2.pages)).foldl (· + ·) 0
  s.set (F.ROUTE_PAGES_held p) (jobs + s.kvPages p - (s.unassignedOf p).length)

/-- Once nothing lives in the pool of partition `p`, a program with another pool starts its own, for which the parts wait that wait to join
(R206, R220, R223). -/
def State.refreshPool (s : State) (p : Nat) : State :=
  let x := s.pool p
  let fits := match s.model p with
    | none => x.size == 0
    | some m => x.base == s.pageBase p + m.pageOffset && x.size == m.poolPages
  (if fits || x.seqs.any (fun e => e.2.state == seqLIVE) then s
    else
      let t := s.startPool p
      (t.setPool p { t.pool p with joins := x.joins }).showPool p).countHeld p

/-- Partition `p` leaves an old program and its tables once the last iteration, sequence, waiting join and part of its generation
has ended (R62). -/
def State.dropOld (s : State) (p : Nat) : State :=
  let x := s.pool p
  let used := fun g => s.route.iters.any (fun it => it.part == p && it.gen == g) ||
    x.seqs.any (fun e => e.2.gen == g && e.2.state == seqLIVE) || x.joins.any (fun w => w.gen == g) ||
    s.route.partGens.any (fun e => e.1 % 8 == p && e.2.1 == g && !s.partDone p (e.1 / 8) e.2.2)
  let keep := fun k => k % 8 != p || used (k / 8)
  let c := { s.cfg with oldPrograms := s.cfg.oldPrograms.filter (fun e => keep e.1)
                        oldTables := s.cfg.oldTables.filter (fun e => keep e.1) }
  let left := c.oldPrograms.any (fun e => e.1 % 8 == p) || c.oldTables.any (fun e => e.1 % 8 == p)
  let s := { s with cfg := c, zld := { s.zld with oldSince := s.zld.oldSince.filter (fun e => keep e.1) } }
  -- a template that the landing removed: its jobs retire now (R230)
  if left then s
  else (s.refreshPool p).each s.route.jobs (fun s e =>
    if e.2.part == p && e.2.retireAt.isNone && (s.templateAt p (tget 0 s.route.gens p) e.2.template).isNone then
      s.setJob e.1 { e.2 with retireAt := some s.landing }
    else s)

/-- The LIVE sequences of the batches of job `j`. -/
def State.jobSeqs (s : State) (j : Nat) (b : Job) : List Nat :=
  let x := s.pool b.part
  (x.slots.filter (fun e => e.1 % 256 == j)).flatMap (fun e => e.2.filterMap (fun z => z.bind (fun z =>
    if (tfind x.seqs z.seq).any (fun y => y.state == seqLIVE) then some z.seq else none)))

/-- A RETIRING job whose last legs have completed becomes FREE: its pages return (R230, R211). -/
def State.freeJob (s : State) (j : Nat) : State :=
  match s.job? j with
  | none => s
  | some b =>
    let due := match b.retireAt with | some r => r ≤ s.period | none => false
    if !due || (s.route.legs ++ s.route.planned).any (fun g => g.job == j) then s
    else
      let s := { s with route := { s.route with jobs := tdel s.route.jobs j, iters := s.route.iters.filter (fun it => it.job != j) } }
      let s := s.set (F.ROUTE_JOB_state j) jobFREE
      let s := s.set (F.ROUTE_PAGES_held b.part) (s.get (F.ROUTE_PAGES_held b.part) - b.pages)
      -- the sequences of a STEP job leave at the next step boundary, and their pages return by R211; a part that has no outcome by now gets none
      let x := s.pool b.part
      let live := (s.jobSeqs j b).filter (fun q => !x.leaves.contains q)
      let s := s.invalidate b.part (live.filterMap (fun q => (tfind x.seqs q).map (fun y => y.tag))) Code.JOB_RETIRED
      let s := if live.isEmpty && x.slots.all (fun e => e.1 % 256 != j) then s
        else (s.setPool b.part { x with leaves := x.leaves ++ live, slots := x.slots.filter (fun e => e.1 % 256 != j) }).showPool b.part
      (s.checkQuota b.part).countJobs

/-- An iteration completes with its last leg (R227): latency, OUTPUT result and digest record (R242, R349, R406, R408). -/
def State.completeIter (s : State) (it : Iter) (r : LegReport) : State :=
  let lat := s.clk.now * 5 - it.enteredNs
  let s := s.inc (F.ROUTE_ITER_count it.job)
  let s := match it.resNum with
    | some n =>
      let prog := s.programAt it.part it.gen
      -- without a marked word no output is variable (R159)
      let mask := if it.marked then r.variableMask else 0
      let d := s.resultDigest it.part prog r.inputDigest [] r.tail mask
      let s := s.digestRecord it.part prog n (it.job % 256 + 256 * (it.num % 2 ^ 24)) r.inputDigest d mask 0 0
      s.ready it.part n (s.outputPayload it 0 0 (min lat (2 ^ 32 - 1)) d r.tail)
    | none => s
  let s := s.latency it.job lat it.alone
  let tie := it.toPlace.any (fun e => e.2 == 2) || it.placed.any (fun e => e.2.1 == 2 && !it.done.contains (e.1, 2))
  let s := if tie then s.setIter { it with done := it.done ++ [iterMark] }
    else { s with route := { s.route with iters := s.route.iters.filter (fun x => !(x.job == it.job && x.num == it.num)) } }
  (s.dropOld it.part).freeJob it.job

/-! ### Tracing (R409) -/

/-- The 64 bytes of a trace record (Table INTEG-9). -/
def State.traceBytes (s : State) (g : LegRun) (level ordinal : Nat) (d : BitVec 256) : List Byte :=
  let t := ((s.job? g.job).map (fun b => b.template)).getD 0
  leBytes 2 t ++ leBytes 1 g.part ++ leBytes 1 level ++ leBytes 4 g.iter ++ leBytes 2 g.leg ++ leBytes 2 0 ++ leBytes 4 ordinal ++
    digestBytes d ++ leBytes 8 s.milestone ++ List.replicate 7 0 ++ [0xA5]

/-- Write a trace record into the ring of the port that set trace, or drop and count it where the ring is full. -/
def State.trace (s : State) (g : LegRun) (level ordinal : Nat) (d : BitVec 256) : State :=
  if s.get F.INTEG_STATUS_trace_level < level || !s.integ.traceParts.testBit g.part then s
  else
    let i := s.get F.INTEG_STATUS_trace_port
    let n := 2 ^ s.get (F.INTEG_TRACE_SIZE_log2 i)
    let tail := s.get (F.INTEG_TRACE_TAIL_pos i)
    if (tail + 2 ^ 32 - s.get (F.INTEG_TRACE_HEAD_pos i)) % 2 ^ 32 ≥ n then
      let s := s.inc (F.INTEG_TRACE_DROP_count i)
      s.raise Code.TRACE_OVERFLOW [i, s.get (F.INTEG_TRACE_DROP_count i)]
    else
      let base := s.get64 (F.INTEG_TRACE_LO_addr i) (F.INTEG_TRACE_HI_addr i)
      let w : HostWrite := { port := i, addr := base + 64 * (tail % n), bytes := s.traceBytes g level ordinal d }
      ({ s with host := { s.host with writes := s.host.writes ++ [w] } }).set (F.INTEG_TRACE_TAIL_pos i) (tail + 1)

/-! ### Legs (R146, R226) -/

/-- The leg with identifier `id` in the sheets that run. -/
def State.leg? (s : State) (id : Nat) : Option LegRun := s.route.legs.find? (fun g => g.id == id)
def State.setLeg (s : State) (g : LegRun) : State :=
  { s with route := { s.route with legs := s.route.legs.map (fun x => if x.id == g.id then g else x) } }

/-- The parts of a leg: those of its iteration. -/
def State.legTags (s : State) (g : LegRun) : List Nat := ((s.iterOf g.job g.iter).map (fun it => it.tags)).getD []

/-- Write a code of core `c` once per leg (R146, R202, R400). -/
def State.legCode (s : State) (c id code : Nat) (ps : List Nat) : State :=
  match s.leg? id with
  | none => s
  | some g => if g.codes.contains code then s else (s.setLeg { g with codes := g.codes ++ [code] }).raiseCore c code ps

/-- The cores of a leg forget its calls, its waits and its words that wait. -/
def State.clearLeg (s : State) (g : LegRun) : State :=
  s.each g.cores (fun s l => match s.physOf l with
    | none => s
    | some c =>
      let x := s.core c
      (s.setCore c { x with calls := x.calls.filter (fun k => k.leg != some g.id), waiting := none, loops := [],
                                  fetched := x.fetched.filter (fun f => f.1 != g.id),
                                  held := x.held.filter (fun h => h.2 != some g.id) }).showCore c)

/-- A leg ends: it leaves the sheets and its iteration counts it done, with its variable mark; the snapshot it held is released (R209). -/
def State.endLeg (s : State) (g : LegRun) : State :=
  let s := { s with route := { s.route with legs := s.route.legs.filter (fun x => x.id != g.id) } }
  let s := match s.iterOf g.job g.iter with
    | some it => s.setIter { it with done := it.done ++ [(g.leg, g.copy)], marked := it.marked || g.marked }
    | none => s
  let s := s.clearLeg g
  if g.snapshot.isSome then s.showPool g.part else s

/-- The iteration of a leg that ended, once nothing is left of it. -/
def State.afterLeg (s : State) (g : LegRun) (r : LegReport) : State :=
  match s.iterOf g.job g.iter with
  | none => s.freeJob g.job
  | some it =>
    if it.done.contains iterMark then
      if it.toPlace.isEmpty && it.placed.all (fun e => it.done.contains (e.1, e.2.1)) then
        { s with route := { s.route with iters := s.route.iters.filter (fun x => !(x.job == it.job && x.num == it.num)) } }
      else s
    else if !iterDone it then s.freeJob g.job
    else if it.retired then (s.endIter it Code.JOB_RETIRED).freeJob g.job
    else s.completeIter it r

/-- A report with nothing in it. -/
def noReport : LegReport := { windows := [], verges := [], prefixes := [], digest := 0, inputDigest := 0, tail := [], variableMask := 0 }

/-- Abort a leg: its parts are INVALID with a cause, and it does not run again (R157, R171, R210, R212, R217, R390). -/
def State.abortLeg (s : State) (id cause : Nat) : State :=
  match s.leg? id with
  | none => s
  | some g => ((s.invalidate g.part (s.legTags g) cause).endLeg g).afterLeg g noReport

/-- The sequence model of a leg's template. -/
def State.legModel (s : State) (g : LegRun) : Option SeqModelCfg :=
  s.modelAt g.part g.gen (((s.job? g.job).map (fun b => b.template)).getD 0)

/-- The leg belongs to a STEP job, whose batch slots are its samples. -/
def State.stepLeg (s : State) (g : LegRun) : Bool :=
  ((s.job? g.job).bind (fun b => s.templateAt g.part g.gen b.template)).any (fun t => t.cadence == 2)

/-- The batch slot of a leg's step whose query rows hold row `r` (R146, Table KV-6). -/
def State.slotOfRow (s : State) (g : LegRun) (r : Nat) : Option Nat :=
  (((s.iterOf g.job g.iter).map (fun it => it.batch)).getD []).findIdx? (fun b => b.any (fun z => z.offset ≤ r && r < z.offset + z.rows))

/-- Every sample of a leg: the slots in use of its step, or those of its ingest batch. -/
def State.slotsOf (s : State) (g : LegRun) : List Nat :=
  match s.iterOf g.job g.iter with
  | none => []
  | some it => match it.ring with
    | some (_, n) => upTo n
    | none => (upTo it.batch.length).filter (fun k => (it.batch.getD k none).isSome)

/-- Some samples of a leg, at least one: which ones is a free value. -/
def State.someSlots (s : State) (g : LegRun) : List Nat × State :=
  let l := s.slotsOf g
  if l.length ≤ 1 then (l, s)
  else
    let first := (Config.freeWord s.free).toNat % l.length
    ((l.zipIdx.filter (fun e => e.2 == first || (Config.freeWord (s.free + 1 + e.2)).getLsbD 0)).map (fun e => e.1),
      { s with free := s.free + 1 + l.length })

/-- The samples of a leg that a flagged result touches (R146): those of a step's rows `rows`, where the word names rows. Which elements belong to
which sample of an ingest batch, or to which slot where the word names no row, is the program's own: at least one sample of the leg is touched, and
which ones is a free value. -/
def State.touched (s : State) (g : LegRun) (rows : Option (List Nat)) : List Nat × State :=
  match rows with
  | some l => if s.stepLeg g then (l.filterMap (s.slotOfRow g), s) else s.someSlots g
  | none => s.someSlots g

/-- Void slot `k` of the step that leg `g` runs, and give its part INVALID with a cause (R146, R215): the length tables of the step's legs and
the batches of later steps mark it, and its sequence leaves at the next boundary. -/
def State.voidSlot (s : State) (g : LegRun) (k cause : Nat) : State :=
  match ((s.iterOf g.job g.iter).bind (fun it => it.batch.getD k none)) with
  | none => s
  | some z =>
    let p := g.part
    let mark := fun (b : Option BatchSlot) => b.map (fun y => if y.seq = z.seq then { y with void_ := true } else y)
    let x := s.pool p
    let s := s.setPool p { x with slots := x.slots.map (fun e => (e.1, e.2.map mark))
                                  leaves := if x.leaves.contains z.seq then x.leaves else x.leaves ++ [z.seq] }
    let s := { s with route := { s.route with iters := s.route.iters.map (fun (it : Iter) =>
      if it.job == g.job then { it with batch := it.batch.map mark } else it) } }
    let at_ := 16 * k + 2 + ((s.legModel g).map (fun m => m.lengthTable)).getD 0
    let cores := (s.route.legs.filter (fun h => h.job == g.job && h.iter == g.iter)).flatMap (fun h => h.cores.filterMap s.physOf)
    let s := s.each cores.eraseDups (fun s c => s.putBytes (sramBase c + at_) [2])
    match tfind x.seqs z.seq with
    | some y => s.invalidate p [y.tag] cause
    | none => s

/-- The slot record of sample `k` of an ingest batch becomes VOID with weight 0 (R146, R292, Table INGEST-2); the record keeps its void cause,
of which the table gives none for a breach (DESIGN CHOICE). -/
def State.voidRecord (s : State) (ring : Nat × Nat) (k : Nat) : State :=
  if k < ring.2 then (s.putBytes (ring.1 + 8 * k + 4) [2]).putBytes (ring.1 + 8 * k + 6) [0, 0] else s

/-- The breach policy of a leg for the samples (batch slots) that a fault touches (R146, R202, R400): FLAG records, VOID voids
their slots, and the part of a release without a batch is its one sample; `note` is the code that counts the samples, which core `c` writes. -/
def State.breach (s : State) (c id cause note : Nat) (slots : List Nat) : State :=
  match s.leg? id with
  | none => s
  | some g =>
    let l := slots.eraseDups
    if (s.legDecl g).policy == 0 then s
    else if s.stepLeg g then (s.each l (fun s k => s.voidSlot g k cause)).raiseCore c note [g.part, g.leg, l.length]
    else
      let tags := s.legTags g
      match (s.iterOf g.job g.iter).bind (fun it => it.ring) with
      | some ring => (s.each l (fun s k => s.voidRecord ring k)).raiseCore c note [g.part, g.leg, l.length]
      | none => (s.invalidate g.part tags cause).raiseCore c note [g.part, g.leg, tags.length]

/-- Digests of copies of a recomputed leg: by job, iteration and 4 × leg + copy (R403). -/
def State.keepDigest (s : State) (g : LegRun) (d : BitVec 256) : State :=
  let l := s.integ.digests.filter (fun e => !(e.1 == g.job && e.2.1 == g.iter && e.2.2.1 == 4 * g.leg + g.copy))
  { s with integ := { s.integ with digests := l ++ [(g.job, g.iter, 4 * g.leg + g.copy, d)] } }

/-- The digest of a copy. -/
def State.digestOfCopy (s : State) (j it l copy : Nat) : Option (BitVec 256) :=
  (s.integ.digests.find? (fun e => e.1 == j && e.2.1 == it && e.2.2.1 == 4 * l + copy)).map (fun e => e.2.2.2)

/-- The tie-break of a recomputed leg has run (R403): the copy whose digest differs from the other two takes one count on its
first core; without agreement none does. -/
def State.tieBreak (s : State) (g : LegRun) : State :=
  match s.digestOfCopy g.job g.iter g.leg 0, s.digestOfCopy g.job g.iter g.leg 1, s.digestOfCopy g.job g.iter g.leg 2,
      s.iterOf g.job g.iter with
  | some a, some b, some c, some it =>
    let coreOf := fun k => ((it.placed.find? (fun e => e.1 == g.leg && e.2.1 == k)).bind (fun e => e.2.2.2.2.head?)).bind s.physOf
    let l := s.integ.digests.filter (fun e => !(e.1 == g.job && e.2.1 == g.iter && e.2.2.1 / 4 == g.leg))
    let s := { s with integ := { s.integ with digests := l } }
    if c == a || c == b then
      match coreOf (if c == a then 1 else 0) with
      | some q => (s.raise Code.RECOMPUTE_ATTRIBUTED [q, g.part, g.leg]).coreRecompute q
      | none => s
    else (s.inc (F.INTEG_RECOMP_FAULT_unresolved g.part)).raise Code.RECOMPUTE_UNRESOLVED [g.part, g.leg, g.iter]
  | _, _, _, _ => s

/-- The leg's last word completes on its last core (R226): windows and prefixes it leaves, its trace record, its iteration. -/
def State.legDone (s : State) (g : LegRun) (r : LegReport) : State :=
  let p := g.part
  let decl := s.legDecl g
  let twin := (s.iterOf g.job g.iter).any (fun it => it.placed.any (fun e => e.1 == g.leg && e.2.1 != g.copy))
  let c := ((g.done.getLast?).bind s.physOf).getD 255
  let s := if g.divZero != 0 then s.raiseCore c Code.INT_DIV_ZERO [p, g.leg, g.divZero] else s
  let d := g.digest.getD r.digest
  let s := if twin || g.copy != 0 then s.keepDigest g d else s
  let s := if g.copy == 2 then s.tieBreak g else s
  let s := if g.copy == 0 then s.trace g 1 0 d else s
  let s := if decl.tracker then s.kickAll wdTRACKER p else s
  let s := s.each r.windows (fun s w =>
    (s.observe p w).releaseEvents p (fun t => t.contexts.contains w.ctx) [w.tag.toNat] 0)
  let s := s.each r.verges (fun s v => s.seamRead p v.1 v.2.1 v.2.2)
  let x := s.pool p
  let s := if r.prefixes.isEmpty then s
    else s.setPool p { x with makes := x.makes ++ r.prefixes.map (fun e => (e.1.toNat, e.2.val)) }
  (s.endLeg g).afterLeg g r

/-- LEG_COMPLETE: the last word of the k-th leg that core `c` runs has completed on it (R226). -/
def execLegComplete (c : CoreId) (k : Fin 256) (r : LegReport) (s : State) : Host.Outcome State Fault Refusal :=
  s.run (fun s =>
    if s.coreRole c != coreACTIVE then s
    else match s.logicalOf c with
      | none => s
      | some l => match (s.legsOn l)[k.val]? with
        | none => s
        | some g =>
          let s := s.perfEvent c 0x16 1
          let g := { g with done := g.done ++ [l] }
          let s := (s.setLeg g).showCore c
          if g.cores.all (fun q => g.done.contains q) then s.legDone g r else s)

/-! ### Old parts (R62) -/

/-- RELOAD_TIMEOUT of partition `p`: the old parts and iterations of every landing that lies 64 periods back end (R62); without one the
command does nothing. -/
def execReloadTimeout (p : Part) (s : State) : Host.Outcome State Fault Refusal :=
  s.run (fun s =>
    let due := fun g => (tfind s.zld.oldSince (oldKey p g)).any (fun n => n + 64 ≤ s.period)
    if !s.zld.oldSince.any (fun e => e.1 % 8 == p.val && due (e.1 / 8)) then s
    else
      let old := s.route.iters.filter (fun it => it.part == p.val && due it.gen)
      let x := s.pool p
      let seqs := x.seqs.filter (fun e => due e.2.gen && e.2.state == seqLIVE)
      let joins := x.joins.filter (fun w => due w.gen)
      let parts := (s.route.partGens.filter (fun e => e.1 % 8 == p.val && due e.2.1 && !s.partDone p (e.1 / 8) e.2.2)).map (fun e => e.1 / 8)
      let tags := (old.flatMap (fun it => it.tags) ++ seqs.map (fun e => e.2.tag) ++ joins.map (fun w => w.tag) ++ parts).eraseDups
      let n := (tags.filter (fun t => !s.tagSettled p t)).length + (old.filter (fun it => it.tags.isEmpty)).length
      let g := tget 0 s.route.gens p
      let s := s.setPool p { x with leaves := x.leaves ++ (seqs.map (fun e => e.1)).filter (fun q => !x.leaves.contains q)
                                    joins := x.joins.filter (fun w => !due w.gen)
                                    seqs := x.seqs.map (fun e => (e.1, if due e.2.gen then { e.2 with gen := g } else e.2)) }
      let s := s.each old (fun s it => s.endIter it Code.ZLD_OLD_PARTS_ENDED)
      let s := s.invalidate p tags Code.ZLD_OLD_PARTS_ENDED
      let s := { s with route := { s.route with partGens := s.route.partGens.filter (fun e => !(e.1 % 8 == p.val && due e.2.1)) } }
      (s.raise Code.ZLD_OLD_PARTS_ENDED [p, n]).dropOld p)

/-! ### What lands at a boundary (R230, R238, R245 to R247) -/

/-- The parts that wait to join the batch of job `j`, where no other job steps its template, and those of its sequences that no running
iteration holds: with the job they find no further leg (R230). -/
def State.stranded (s : State) (j : Nat) (b : Job) : List Nat :=
  let x := s.pool b.part
  let waits := if s.stepped b.part b.template then [] else (x.joins.filter (fun w => w.tmpl == b.template)).map (fun w => w.tag)
  let runs := (s.route.iters.filter (fun it => it.job == j && it.toPlace.isEmpty)).flatMap (fun it => it.tags)
  waits ++ ((s.jobSeqs j b).filterMap (fun q => (tfind x.seqs q).map (fun y => y.tag))).filter (fun t => !runs.contains t)

/-- Retirements and admissions that land at the boundary of period `n`, and jobs that begin to measure their solo baseline (R244, R247). -/
def State.landJobs (s : State) (n : Nat) : State :=
  let s := s.each s.route.jobs (fun s e =>
    let (j, b) := e
    if b.retireAt == some n then
      let ends := s.route.iters.filter (fun it => it.job == j && !it.toPlace.isEmpty)
      let lone := s.stranded j b
      let tags := (ends.flatMap (fun it => it.tags) ++ lone).eraseDups
      let x := s.pool b.part
      let s := if x.joins.any (fun w => lone.contains w.tag) then
          (s.setPool b.part { x with joins := x.joins.filter (fun w => !lone.contains w.tag) }).showPool b.part
        else s
      let parts := (tags.filter (fun t => !s.tagSettled b.part t)).length
      let s := s.invalidate b.part tags Code.JOB_RETIRED
      let s := { s with route := { s.route with iters := s.route.iters.map (fun (it : Iter) =>
        if it.job == j && !it.toPlace.isEmpty then { it with toPlace := [], retired := true } else it) } }
      let idle := ends.filter (fun it => !(s.route.legs ++ s.route.planned).any (fun g => g.job == j && g.iter == it.num))
      let s := s.each idle (fun s it => s.endIter it Code.JOB_RETIRED)
      (s.raise Code.JOB_RETIRED [j, parts]).freeJob j
    else s)
  s.each s.route.jobs (fun s e =>
    let s := if e.2.landing ≤ n && s.jobState e.1 == jobADMITTED then s.set (F.ROUTE_JOB_state e.1) jobRUNNING else s
    if e.2.soloLeft != 0 && e.2.soloFrom ≤ n && s.jobState e.1 == jobRUNNING then s.set (F.ROUTE_JOB_state e.1) jobSOLO else s)

/-- What the builds of the period that ends have deferred shows in ROUTE_DEFER (Table ROUTE-5). -/
def State.landDefers (s : State) : State :=
  let s := s.each s.route.deferNew (fun s e => (s.addSat (F.ROUTE_DEFER_legs e.1) e.2.1).addSat (F.ROUTE_DEFER_slots e.1) e.2.2)
  { s with route := { s.route with deferNew := [] } }

/-- The parts of a leg whose sheet begins run on its program from now on (R62); a part that has given its verdict is forgotten. -/
def State.markParts (s : State) : State :=
  let keep := s.route.partGens.filter (fun e => !s.partDone (e.1 % 8) (e.1 / 8) e.2.2)
  let gens := s.route.planned.foldl (fun (t : Tab (Nat × Bool)) g => (s.legTags g).foldl (fun t k =>
    if (tfind t (8 * k + g.part)).isSome || s.tagSettled g.part k then t else tput t (8 * k + g.part) (g.gen, false)) t) keep
  { s with route := { s.route with partGens := gens } }

/-- Weights, windows and shares that land at the boundary of period `n`, in order of arrival (R246, R247). -/
def State.landCuts (s : State) (n : Nat) : State :=
  let due := s.route.cuts.filter (fun c => c.landing ≤ n)
  let s := { s with route := { s.route with cuts := s.route.cuts.filter (fun c => c.landing > n) } }
  let s := s.each (due.filter (fun c => c.kind == 3)) (fun s c => s.raise Code.SHARE_CHANGED [c.port, c.index, shWEIGHT, c.a])
  let s := s.each (due.filter (fun c => c.kind != 3)) (fun s c =>
    if c.kind == 1 then (s.set (F.ROUTE_BW_share c.part) c.a).raise Code.SHARE_CHANGED [c.port, c.part, shBANDWIDTH, c.a]
    else
      let s := (s.set (F.ROUTE_WIN_START_tick c.index) c.a).set (F.ROUTE_WIN_LEN_ticks c.index) c.b
      s.raise Code.SHARE_CHANGED [c.port, c.part, shWINDOW, c.b])
  s.each (upTo 8) (fun s p =>
    let waits := fun k => s.route.cuts.any (fun c => c.part == p && c.kind == k)
    ((s.setB (F.ROUTE_PENDING_bandwidth p) (waits 1)).setB (F.ROUTE_PENDING_window p) (waits 2)).setB (F.ROUTE_PENDING_weight p)
      (waits 3))

/-- The builder's length table stands in the core SRAM of the leg's cores (R214, Table KV-6). -/
def State.writeLengths (s : State) (g : LegRun) : State :=
  match s.legModel g, s.iterOf g.job g.iter with
  | some m, some it =>
    if it.batch.isEmpty then s
    else s.each (g.cores.filterMap s.physOf) (fun s c => s.putBytes (sramBase c + m.lengthTable) (it.batch.flatMap lengthSlot))
  | _, _ => s

/-- The verge table of the leg's sheet binds its slots (R168): producer, boundary and rows stand in each (Table CONV-2). -/
def State.bindVerges (s : State) (g : LegRun) : State :=
  s.each (s.legDecl g).verges (fun s v =>
    match (g.cores[v.core]?).bind s.physOf with
    | none => s
    | some c => s.putBytes (s.slotAddrOf c v.space v.offset + 4) ((vergeSlotBytes (g.cores.getD v.producer 0) v.boundary v.rows).drop 4))

/-- The sheets built for period `n` begin to run, or its build is late (R238): no word of it issues, the releases it took in enter the next
build, and the batches that it formed are formed anew. -/
def State.startSheets (s : State) (n : Nat) : State :=
  if s.route.built && s.route.buildFor == n then
    let s := s.markParts.each s.route.planned State.writeLengths
    let s := s.each s.route.planned State.bindVerges
    let s := { s with route := { s.route with
      legs := s.route.legs ++ s.route.planned, planned := [], boundaryNs := s.clk.now * 5
      iters := s.route.iters.map (fun (it : Iter) => if it.entered == some n then { it with enteredNs := s.clk.now * 5 } else it) } }
    s.each (upTo 40) State.showCore
  else
    let s := s.each (upTo 8) (fun s p => if (s.part p).defined && !s.board.diesOff then s.raise Code.BUILD_LATE [p, n] else s)
    let s := { s with route := { s.route with
      buildFor := max s.route.buildFor n, built := true, planned := [], boundaryNs := s.clk.now * 5
      iters := s.route.iters.map (fun (it : Iter) =>
        if it.entered == some n && it.placed.isEmpty then { it with entered := none, batch := [] } else it) } }
    s.each (upTo 8) (fun s p =>
      let x := s.pool p
      if x.drafts.isEmpty then s else s.setPool p { x with drafts := [] })

/-- The solo baseline of job `j` is cleared (R242). -/
def State.clearBaseline (s : State) (j : Nat) : State :=
  match s.job? j with
  | none => s
  | some b =>
    let s := s.setJob j { b with solos := [] }
    (s.set (F.ROUTE_BASELINE_ns j) 0).set (F.ROUTE_SLOWDOWN_slowdown j) 0xFFFF

end Sys2Proof.Machine
end

