-- ==== Sys2Proof/Machine/MemCheck.lean ====
section
/-! DEFINITION. Line checks (R388 to R394): what a read of a damaged SRAM line or a poisoned HBM line does, and the store
that writes check bits with its lines. -/

namespace Sys2Proof.Machine

/-! ### Where a line stands -/

/-- Memory kinds of INTEG_CAP_LOC. -/
def memCORE : Nat := 0
def memSTRIPE : Nat := 1
def memLINES : Nat := 2
def memHBM : Nat := 3

/-- The memory kind of an address. -/
def memKind (a : Nat) : Nat :=
  if a < stripeBase 0 then memCORE else if a < lineStoreBase then memSTRIPE else if a < hbmBase then memLINES else memHBM

/-- The unit of an address: physical core, cluster or 0. -/
def memUnit (a : Nat) : Nat :=
  let k := memKind a
  if k = memCORE then a / 0x800000 else if k = memSTRIPE then (a - stripeBase 0) / 0x2000000 else 0

/-- The line address within the unit, in 64-byte units. -/
def memLine (a : Nat) : Nat :=
  let k := memKind a
  (if k = memCORE then a % 0x800000 else if k = memSTRIPE then (a - stripeBase 0) % 0x2000000
    else if k = memLINES then a - lineStoreBase else a - hbmBase) / 64

/-- The bank of a line (Table CORE-2), or the pseudo-channel of an HBM line (R121). -/
def memBank (a : Nat) : Nat :=
  let k := memKind a
  if k = memCORE then memLine a / 8192 else if k = memHBM then memLine a / 32 % 32 else memLine a / 65536

/-- The four fold bytes of a line's CRC-32C. -/
def foldBytes (a : Nat) : List Byte := leBytes 1 (memKind a) ++ leBytes 1 (memUnit a) ++ leBytes 2 (memLine a % 65536)

/-! ### The byte check -/

/-- `n` columns of the check, each picked among those of `left` not taken yet. -/
def pickColumns (pick : Nat → Nat) : Nat → List (BitVec 4) → List (BitVec 4)
  | 0, _ => []
  | n + 1, left => left.getD (pick n % left.length) 0 :: pickColumns pick n (left.eraseIdx (pick n % left.length))

/-- The columns of the data bits 0 to 7: distinct, and of two or more ones each, since the check bits themselves have the columns of a
single one (a Hamming code, R388). Which column belongs to which bit is open. -/
def checkColumns : List (BitVec 4) := pickColumns Config.checkColumn 8 [3, 5, 6, 7, 9, 10, 11, 12, 13, 14, 15]

/-- The 4-bit Hamming check of a data byte (R388): the sum of the columns of its ones. -/
def byteCheck (v : Byte) : BitVec 4 :=
  (upTo 8).foldl (fun c j => if v.getLsbD j then c ^^^ checkColumns.getD j 0 else c) 0

/-! ### Table INTEG-1 -/

/-- The byte positions whose check does not match. -/
def flagged (b : BadLine) : List Nat :=
  (upTo 64).filter (fun i => (byteCheck (b.raw.getD i 0)).toNat != b.checks.getD i 0)

/-- The line with the one flagged byte corrected, where the CRC and the byte's check agree on its value. -/
def corrected (a : Nat) (b : BadLine) : Option (List Byte) :=
  match flagged b with
  | [i] =>
    ((upTo 256).find? (fun v =>
      (byteCheck (BitVec.ofNat 8 v)).toNat == b.checks.getD i 0 &&
        crc32c (foldBytes a ++ b.raw.set i (BitVec.ofNat 8 v)) == b.crc)).map (fun v => b.raw.set i (BitVec.ofNat 8 v))
  | _ => none

/-- No byte is flagged and the CRC matches. -/
def sound (a : Nat) (b : BadLine) : Bool := (flagged b).isEmpty && crc32c (foldBytes a ++ b.raw) == b.crc

/-- Capture the first bad line since INTEG_CAP_LOC.valid was cleared (R389). -/
def State.capture (s : State) (a : Nat) (b : BadLine) : State :=
  if s.on F.INTEG_CAP_LOC_valid then s
  else
    let s := ((s.set F.INTEG_CAP_LOC_kind (memKind a)).set F.INTEG_CAP_LOC_unit (memUnit a)).set F.INTEG_CAP_LOC_bank (memBank a)
    let s := ((s.set F.INTEG_CAP_LOC_valid 1).set F.INTEG_CAP_ADDR_line (memLine a)).set F.INTEG_CAP_CRC_value b.crc
    let s := s.each (upTo 16) (fun s i => s.set (F.INTEG_CAP_DATA_word i) (leNat ((b.raw.drop (4 * i)).take 4)))
    s.each (upTo 8) (fun s i => s.set (F.INTEG_CAP_CHECK_word i)
      ((upTo 8).foldl (fun n j => n + b.checks.getD (8 * i + j) 0 % 16 * 16 ^ j) 0))

/-- A line read with one byte corrected (Table INTEG-1). -/
def State.noteCorrected (s : State) (a : Nat) (b : BadLine) : State :=
  let k := memKind a
  let s := (s.capture a b).inc (F.INTEG_ERR_CORR_count k)
  let s := s.raise Code.SRAM_CORRECTED [k, memUnit a, memLine a]
  if k = memCORE then s.coreCorrected (memUnit a) else s

/-- An uncorrectable line counts toward the thresholds of its unit (R391). -/
def State.noteUncorrected (s : State) (a : Nat) (b : BadLine) : State :=
  let k := memKind a
  let u := memUnit a
  let s := (s.capture a b).inc (F.INTEG_ERR_UNCORR_count k)
  let s := s.raise Code.SRAM_UNCORRECTABLE [k, u, memLine a]
  if k = memCORE then s.coreUncorrected u
  else
    let key := if k = memSTRIPE then 8 * u + memBank a else 64 + memBank a
    let l := recent (tget [] s.cores.banks key) s.opSeconds 3600
    let s := { s with cores := { s.cores with banks := tset [] s.cores.banks key l } }
    if l.length < 3 then s
    else if k = memSTRIPE then
      (s.raise Code.STRIPE_BANK_FAILED [u, memBank a]).each (upTo 5) (fun s i => s.failCore (5 * u + i) failUNCORR)
    else
      (s.raise Code.LINESTORE_DEGRADED [memBank a, l.length]).enterSafeHeld Code.TEST_FAILED (sourceUnit 0x12 255)

/-! ### Stores -/

/-- Write bytes and, with them, the check bits of their lines: a line written whole, or one that could be corrected, is good
again, and a whole HBM line loses its poison (R388, R393). -/
def State.store (s : State) (a : Nat) (bs : List Byte) : State :=
  let s := s.putBytes a bs
  let n := bs.length
  if s.integ.bad.isEmpty && s.integ.poison.isEmpty then s
  else
    let whole := fun l => a ≤ 64 * l && 64 * l + 64 ≤ a + n
    let touched := fun l => a < 64 * l + 64 && 64 * l < a + n
    let bad := s.integ.bad.filter (fun e => !(whole e.1 || (touched e.1 && (corrected (64 * e.1) e.2).isSome)))
    let poison := s.integ.poison.filter (fun l => !whole (hbmBase / 64 + l))
    { s with integ := { s.integ with bad := bad, poison := poison } }.set F.INTEG_HBM_poisoned poison.length

/-- Several stores, in order. -/
def State.storeAll (s : State) (ws : List (Nat × List Byte)) : State := s.each ws (fun s w => s.store w.1 w.2)

/-! ### Reads (R389, R390, R393) -/

/-- The damaged lines that the ranges (address, bytes) touch. -/
def State.badIn (s : State) (rs : List (Nat × Nat)) : List (Nat × BadLine) :=
  s.integ.bad.filter (fun e => rs.any (fun r => r.1 < 64 * e.1 + 64 && 64 * e.1 < r.1 + r.2))

/-- The poisoned HBM lines that the ranges touch. -/
def State.poisonIn (s : State) (rs : List (Nat × Nat)) : List Nat :=
  s.integ.poison.filter (fun l => rs.any (fun r => r.1 < hbmBase + 64 * l + 64 && hbmBase + 64 * l < r.1 + r.2))

/-- Run leg `id` once more from its start at the next period boundary, or, where it has been replayed, give its parts
INVALID (R390). -/
def State.replayLeg (s : State) (id c kind : Nat) : State :=
  match s.leg? id with
  | none => s
  | some g =>
    if g.replays = 0 then
      let s := s.clearLeg g
      let s := s.setLeg { g with replays := 1, replayAt := some (s.period + 1) }
      (s.inc (F.INTEG_ERR_RETRY_replays kind)).raise Code.LEG_REPLAYED [g.part, g.leg, c]
    else s.abortLeg id Code.SRAM_UNCORRECTABLE

/-- Fetch a bad core-SRAM line again from the source that its transfer still holds (R390 step 1). -/
def State.refetch (s : State) (c l : Nat) (id : Option Nat) : Option State :=
  match id with
  | none => none
  | some g =>
    ((s.core c).fetched.find? (fun f => f.1 == g && f.2.1 ≤ 64 * l && 64 * l + 64 ≤ f.2.1 + f.2.2.2)).bind (fun f =>
      let src := f.2.2.1 + (64 * l - f.2.1)
      let again := (s.badIn [(src, 64)]).any (fun e => (corrected (64 * e.1) e.2).isNone) || !(s.poisonIn [(src, 64)]).isEmpty
      let s := (s.inc (F.INTEG_ERR_RETRY_refetches memCORE)).raise Code.SRAM_REFETCHED [c, ((s.leg? g).map (fun x => x.leg)).getD 0]
      let s := s.perfEvent c 0x0C 1
      if again then none else some (s.store (64 * l) (s.bytes src 64)))

/-- Check the lines that core `c` reads for leg `id` before a word uses them; answers whether every line could be used. -/
def State.checkRead (s : State) (c : Nat) (id : Option Nat) (rs : List (Nat × Nat)) : Bool × State :=
  let bad := s.badIn rs
  let (ok, s) := bad.foldl (fun (acc : Bool × State) e =>
    let (ok, s) := acc
    let a := 64 * e.1
    if (corrected a e.2).isSome then (ok, (s.noteCorrected a e.2).perfEvent c 0x0D 1)
    else if sound a e.2 then (ok, s)
    else
      let s := s.noteUncorrected a e.2
      match s.refetch c e.1 id with
      | some s => (ok, s)
      | none => (false, match id with | some g => s.replayLeg g c (memKind a) | none => s)) (true, s)
  match s.poisonIn rs with
  | [] => (ok, s)
  | l :: _ =>
    let p := ((id.bind s.leg?).map (fun g => g.part)).getD 255
    let s := s.raise Code.HBM_UNCORRECTABLE [p, l / 1024, l % 1024]
    (false, match id with | some g => s.abortLeg g Code.HBM_UNCORRECTABLE | none => s)

end Sys2Proof.Machine
end

