-- ==== Sys2Proof/Machine/Ingest.lean ====
section
/-! DEFINITION. Input pipelines (R290 to R301): the ingest queues, their batches and slots, decoding, live samples, and the
commands of the INGEST block. -/

namespace Sys2Proof.Machine

/-! ### Queues -/

def queue0 : IngQueue := { seed := 0, epoch := 0, next := 0, lastSize := 0, batches := [] }
def State.ingestQueue (s : State) (p : Nat) : IngQueue := tget queue0 s.ingest p

/-- Queue states of INGEST_Q_STATE. -/
def iqSTOPPED : Nat := 0
def iqRUNNING : Nat := 1
def iqDRAINING : Nat := 2

/-- Slot states. -/
def slUNREAD : Nat := 0
def slREAD : Nat := 1
def slDONE : Nat := 2
def slVOID : Nat := 3

/-- Sources of Table INGEST-1. -/
def srcHOST : Nat := 1
def srcHBM : Nat := 2
def srcLIVE : Nat := 3

/-- The port that owns partition `p`. -/
def State.portOf (s : State) (p : Nat) : Nat := s.get (F.ROUTE_PART_port p)

/-- Partition `p` is OVER_QUOTA (R245). -/
def State.overQuota (s : State) (p : Nat) : Bool := s.on (F.ROUTE_PART_over_quota p)

/-- Bring the registers of queue `p` to its state; up to four decoder engines serve the compressed samples that wait. -/
def State.showIngest (s : State) (p : Nat) : State :=
  let q := s.ingestQueue p
  let s := s.set (F.INGEST_Q_STATE_open p) q.batches.length
  let s := s.setB (F.INGEST_Q_STATE_over_quota p) (s.overQuota p)
  let s := s.setBit F.INGEST_STATUS_running p (s.get (F.INGEST_Q_STATE_state p) == iqRUNNING)
  let waiting := (s.ingest.flatMap (fun e => e.2.batches.flatMap (fun b =>
    b.slots.filter (fun x => x.state == slREAD && recField x.desc 5 1 == 0 && recField x.desc 4 1 != srcLIVE)))).length
  s.set F.INGEST_STATUS_decoders_busy (2 ^ min waiting 4 - 1)

def State.setQueue (s : State) (p : Nat) (q : IngQueue) : State := ({ s with ingest := tset queue0 s.ingest p q }).showIngest p

/-- Queue `p` enters a state, at the act of port `port`. -/
def State.queueState (s : State) (p port st : Nat) : State :=
  if s.get (F.INGEST_Q_STATE_state p) == st then s
  else ((s.set (F.INGEST_Q_STATE_state p) st).showIngest p).raise Code.INGEST_QUEUE_STATE [p, port, st]

/-! ### The batch ring (R291) -/

/-- Where batch `b` of partition `p` stands in a chain's ring: header and slot records, then the slots. -/
def State.batchAddr (s : State) (p : Nat) (c : ChainCfg) (b : IngBatch) : Nat :=
  s.partAddr p (c.ringOffset + b.num % c.depth * (batchHeadBytes b.size + b.size * c.slotBytes))
def State.slotAddr (s : State) (p : Nat) (c : ChainCfg) (b : IngBatch) (i : Nat) : Nat :=
  s.batchAddr p c b + batchHeadBytes b.size + i * c.slotBytes

/-- The chain that the descriptor of slot `i` names, where one was read. -/
def IngBatch.chain (b : IngBatch) (i : Nat) : Option ChainCfg :=
  match b.slots[i]? with
  | some x => if x.desc.length ≤ 7 then none else b.chains.find? (fun c => c.index == recField x.desc 7 1)
  | none => none

/-- The chain whose ring holds a batch's header: that of its first slot with a chain, else the program's first. -/
def IngBatch.headChain (b : IngBatch) : Option ChainCfg := ((upTo b.size).findSome? b.chain).or b.chains.head?

/-- Change slot `i` of a batch. -/
def IngBatch.setSlot (b : IngBatch) (i : Nat) (x : IngSlot) : IngBatch := { b with slots := b.slots.set i x }

/-- Change a batch of queue `p`. -/
def State.setBatch (s : State) (p : Nat) (b : IngBatch) : State :=
  let q := s.ingestQueue p
  s.setQueue p { q with batches := q.batches.map (fun x => if x.num == b.num then b else x) }

/-- The open batch and slot of a ring position. -/
def State.slotAt (s : State) (p pos : Nat) : Option (IngBatch × Nat × IngSlot) :=
  ((s.ingestQueue p).batches.find? (fun b => b.num * b.size ≤ pos && pos < (b.num + 1) * b.size)).bind (fun b =>
    (b.slots[pos - b.num * b.size]?).map (fun x => (b, pos - b.num * b.size, x)))

/-- The bytes of a closed batch's header and slot records (Table INGEST-2). -/
def batchHeader (b : IngBatch) : List Byte :=
  leBytes 4 0x54474E49 ++ leBytes 4 b.num ++ leBytes 2 b.size ++ leBytes 2 (b.slots.filter (fun x => x.state == slVOID)).length ++
    leBytes 4 b.epoch ++ leBytes 8 b.seed ++ List.replicate 39 0 ++ [0xA5] ++
    b.slots.flatMap (fun x => leBytes 4 (recField x.desc 0 4) ++
      (if x.state == slDONE then [1, 0] ++ leBytes 2 0x3F80 else [2] ++ leBytes 1 x.cause ++ [0, 0]))

/-- What the input digest of a batch is formed from (R298). -/
def batchInputs (b : IngBatch) : List Byte :=
  b.slots.flatMap (fun x => (x.desc.drop 32).take 32 ++ leBytes 1 (recField x.desc 7 1) ++ leBytes 8 b.seed ++ leBytes 4 b.epoch ++
    leBytes 4 (recField x.desc 0 4))

/-- Close the oldest batches of queue `p` whose slots are all DONE or VOID, in batch order; `fuel` bounds them.  A draining queue
stops with its last. -/
def State.closeBatches (s : State) (p : Nat) : Nat → State
  | 0 => s
  | fuel + 1 =>
    let q := s.ingestQueue p
    match q.batches with
    | [] => if s.get (F.INGEST_Q_STATE_state p) == iqDRAINING then s.queueState p (s.portOf p) iqSTOPPED else s
    | b :: rest =>
      if b.slots.any (fun x => x.state == slUNREAD || x.state == slREAD) then s
      else
        let s := match b.headChain with
          | some c =>
            -- a slot whose descriptor named no chain is zero in the ring of the header
            let s := s.each ((upTo b.size).filter (fun i => (b.chain i).isNone)) (fun s i =>
              s.store (s.slotAddr p c b i) (List.replicate c.slotBytes 0))
            s.store (s.batchAddr p c b) (batchHeader b)
          | none => s
        let s := (s.setQueue p { q with batches := rest }).inc (F.INGEST_Q_BATCHES_closed p)
        (s.releaseEvents p (fun t => t.ingest.isSome) [] (Config.adaptDigest (batchInputs b))
          (b.headChain.map (fun c => (s.batchAddr p c b + 64, b.size)))).closeBatches p fuel

/-- Void slot `i` of batch `b` of queue `p` with a cause (R292, R300): its tensor is written as zero elements. -/
def State.voidSample (s : State) (p : Nat) (b : IngBatch) (i : Nat) (x : IngSlot) (cause : Nat) : State :=
  let s := match b.chain i with
    | some c => s.store (s.slotAddr p c b i) (List.replicate c.slotBytes 0)
    | none => s
  let s := s.setBatch p (b.setSlot i { x with state := slVOID, cause := cause })
  let s := (s.inc (F.INGEST_Q_VOID_count p ((cause - 1) / 4) ((cause - 1) % 4))).raise Code.INGEST_SAMPLE_VOID [p, b.num, i, cause]
  s.closeBatches p 5

/-- A host violation on queue `p` (R300). -/
def State.ingestViolation (s : State) (p cause pos : Nat) : State :=
  (s.set (F.INGEST_Q_STATE_error p) cause).raise Code.INGEST_HOST_VIOLATION [p, s.portOf p, cause, pos]

/-! ### Descriptors (Table INGEST-1) -/

/-- A descriptor breaks Table INGEST-1 or R298, or names what does not exist. -/
def State.badDescriptor (s : State) (p : Nat) (chains : List ChainCfg) (r : List Byte) : Bool :=
  let src := recField r 4 1
  let st := recField r 5 1
  let con := recField r 6 1
  let len := recField r 16 4
  let (w, h, ch) := (recField r 20 2, recField r 22 2, recField r 24 1)
  match chains.find? (fun c => c.index == recField r 7 1) with
  | none => true
  | some c =>
    let n := c.ops.length
    let ctx := recField r 8 1
    recField r 26 2 != 0 || !(1 ≤ src && src ≤ 3) ||
    (if src == srcLIVE then
      recField r 10 6 != 0 || recField r 32 32 != 0 || len = 0 || 65535 < len || !(s.ctxCfg ctx).defined ||
        (s.ctxCfg ctx).part != p || (s.ctx ctx).set.outputs.length ≤ recField r 9 1
    else
      16777216 < len || !(1 ≤ con && con ≤ 3) || (con == 3) != (1 ≤ st) || n + 1 < st ||
        (src == srcHBM && 65536 * s.reach p < 64 * recField r 8 8 + len) ||
        (con == 3 && (
          let f := recField r 25 1
          let want := if st ≤ n then fmtU16 else c.format
          let (size, chans) := shapeAfter (c.ops.take (st - 1)) (none, none)
          !(ch == 1 || ch == 3) || f != want || len != fmtSize f (w * h * ch) ||
            (match size with | some z => z != (w, h) | none => false) ||
            (match chans with | some z => z != ch | none => false) ||
            !c.shapeSuits (shapeAfter (c.ops.drop (st - 1)) (some (w, h), some ch)))))

/-- DESCRIPTOR_READ: the next descriptor of queue `p` is read while a batch has room (R290, R291); `r` is what the read of the
ring brought, none where it ended in an error. No batch opens whose place in a ring would not lie in the partition's pages. -/
def execDescriptorRead (p : Part) (r : Option (List Byte)) (s : State) : Host.Outcome State Fault Refusal :=
  s.run (fun s =>
    let head := s.get (F.INGEST_Q_HEAD_pos p)
    let size := s.get (F.INGEST_Q_RING_SIZE_batch p)
    let st := s.get (F.INGEST_Q_STATE_state p)
    let q := s.ingestQueue p
    if size = 0 || st == iqSTOPPED || head == s.get (F.INGEST_Q_TAIL_pos p) then s
    else
      let k := head / size
      let isOpen := (s.slotAt p head).isSome
      let chains := ((tfind s.cfg.programs p).map (fun g => g.chains)).getD []
      -- a position whose batch, the last that opened, has closed without it is passed over
      if !isOpen && q.next = k + 1 && q.lastSize = size then s.set (F.INGEST_Q_HEAD_pos p) (head + 1)
      else if !isOpen && (st != iqRUNNING || q.batches.length ≥ 4 || s.overQuota p || !chains.all (fun c => c.ringFits size (s.reach p))) then s
      else
        let s := if isOpen then s
          else
            let b : IngBatch := { num := k, size := size, seed := q.seed, epoch := q.epoch
                                  chains := chains
                                  slots := List.replicate size { state := slUNREAD, cause := 0, desc := [] } }
            s.setQueue p { q with batches := q.batches ++ [b], next := k + 1, lastSize := size }
        let s := s.set (F.INGEST_Q_HEAD_pos p) (head + 1)
        match s.slotAt p head with
        | none => s
        | some (b, i, x) =>
          if x.state != slUNREAD then s
          else match r with
            | none =>
              let (v, s) := s.draw
              s.voidSample p b i { x with desc := leBytes 4 v } vcSOURCE
            | some r =>
              let x := { x with state := slREAD, desc := r.take 64 }
              let b := b.setSlot i x
              let s := s.setBatch p b
              if s.badDescriptor p b.chains r then (s.ingestViolation p vcBADDESCRIPTOR head).voidSample p b i x vcBADDESCRIPTOR
              else s)

/-! ### Samples (R293 to R299) -/

/-- The ring slots of a LIVE sample with the tag fields they must carry: (slot, line count), and the frame number on an area
context. -/
def State.liveSlots (s : State) (r : List Byte) : List (Nat × Nat × Option Nat) :=
  let ctx := recField r 8 1
  match (s.ctx ctx).set.outputs[recField r 9 1]? with
  | none => []
  | some o =>
    let n := recField r 16 4
    let first := recField r 28 4
    let v := max o.v 1
    if (s.ctxCfg ctx).kind = 2 then
      (upTo n).flatMap (fun f => (upTo o.height).map (fun y =>
        (((first + f) % max o.ring 1) * o.height + y, o.y0 + y * v, some ((first + f) % 2 ^ 32))))
    else (upTo n).map (fun j => ((first / v + j) % max o.ring 1, (first + j * v) % 2 ^ 32, none))

/-- Read a LIVE sample: its image and the capture time of its last line, or the cause that voids it. -/
def State.liveImage (s : State) (r : List Byte) : Nat ⊕ Img :=
  let ctx := recField r 8 1
  let out := recField r 9 1
  match (s.ctx ctx).set.outputs[out]? with
  | none => .inl vcOVERWRITTEN
  | some o =>
    let slots := s.liveSlots r
    let ok := slots.all (fun e =>
      let t := s.bytes (s.outAddr ctx o (64 * o.tagOff + 16 * e.1)) 16
      recField t 15 1 == 0xA5 && recField t 0 4 == e.2.1 && (match e.2.2 with | some f => recField t 8 4 == f | none => true))
    if !ok then .inl vcOVERWRITTEN
    else
      let times := slots.map (fun e => ((tfind s.isp.captures (captureKey ctx out e.1)).getD none))
      let stale := match times.getLast?.getD none with
        | none => true
        | some t => decide (s.localNs > t + s.get (F.INGEST_Q_LIMITS_stale_ms (s.ctxCfg ctx).part) * 1000000)
      let n := if o.content = 0 && (s.ctxCfg ctx).kind != 0 then 3 else 1
      let row := fun (e : Nat × Nat × Option Nat) =>
        let b := if o.format = 0xE then 1 else 2
        let bs := s.bytes (s.outAddr ctx o (64 * o.ringOff + e.1 * o.stride * 64)) (o.width * n * b)
        (upTo (o.width * n)).map (fun k => if b = 1 then 256 * recField bs k 1 else recField bs (2 * k) 2)
      if stale then .inl vcSTALE
      else .inr { w := o.width, h := slots.length, c := n, px := slots.flatMap row }

/-- The tensor that a chain's ops from place `op` on give for an image: its bytes, or the cause that voids a sample whose shape is not its slot's (R298;
for a sample that the unit decodes or copies, the same cause is a DESIGN CHOICE). -/
def chainTensor (c : ChainCfg) (key : DrawKey) (op : Nat) (i : Img) : Nat ⊕ List Byte :=
  let ops := c.ops.drop op
  let e := chainImage key op ops i
  if c.shapeSuits (some (e.w, e.h), some e.c) then .inr (runChain key op ops i) else .inl vcBADDESCRIPTOR

/-- What a sample gives: the bytes of its tensor, or the cause that voids it. -/
def State.sampleResult (s : State) (p : Nat) (b : IngBatch) (c : ChainCfg) (r : List Byte) (x : SampleIn) : Nat ⊕ List Byte :=
  let src := recField r 4 1
  let st := recField r 5 1
  let len := recField r 16 4
  let key : DrawKey := { seed := b.seed, sample := recField r 0 4, epoch := b.epoch }
  if src == srcLIVE then
    match s.liveImage r with
    | .inl v => .inl v
    | .inr i => chainTensor c key 0 i
  else if src == srcHOST && !x.readOk then .inl vcSOURCE
  else
    let data := if src == srcHBM then s.bytes (s.partAddr p (64 * recField r 8 8)) len else x.bytes
    if st = 0 then
      match imageHead (recField r 6 1) data with
      | .inl cause => .inl cause
      | .inr h =>
        let px := h.width * h.height
        if 268435456 < px || 2048 * len < px || c.scratch < px * h.chans * 2 then .inl vcTOOLARGE
        else match decodeImage (recField r 6 1) h data with
          | none => .inl vcCORRUPT
          | some i =>
            if digestBytes (digestOf (sha3_256 data)) != (r.drop 32).take 32 then .inl vcDIGEST else chainTensor c key 0 i
    else if c.ops.length < st then .inr data
    else
      let i : Img := { w := recField r 20 2, h := recField r 22 2, c := recField r 24 1
                       px := (upTo (len / 2)).map (fun k => recField data (2 * k) 2) }
      chainTensor c key (st - 1) i

/-- SAMPLE_COMPLETE: the decoding and the chain of the sample at ring position `pos` of queue `p` finish, and its slot becomes
DONE or VOID (R292, R296).  The load figures of the unit are free. -/
def execSampleComplete (p : Part) (pos : BitVec 32) (x : SampleIn) (s : State) : Host.Outcome State Fault Refusal :=
  s.run (fun s =>
    match s.slotAt p pos.toNat with
    | none => s
    | some (b, i, y) =>
      if y.state != slREAD then s
      else
        let (u, s) := s.draw
        let (v, s) := s.draw
        let s := (s.set F.INGEST_LOAD_decoder (u % 101)).set F.INGEST_LOAD_augment (v % 101)
        match b.chain i with
        | none => s.voidSample p b i y vcBADDESCRIPTOR
        | some c =>
          match s.sampleResult p b c y.desc x with
          | .inl cause => s.voidSample p b i y cause
          | .inr bs =>
            let n := c.slotBytes
            let s := s.store (s.slotAddr p c b i) ((bs ++ List.replicate n 0).take n)
            let s := (s.setBatch p (b.setSlot i { y with state := slDONE })).inc (F.INGEST_Q_DONE_samples p)
            s.closeBatches p 5)

/-- SLOT_TIMEOUT: the slot at a ring position is not DONE within the timeout of its batch opening (Table INGEST-4).  A slot whose
descriptor was never read has no sample index; the field is free. -/
def execSlotTimeout (p : Part) (pos : BitVec 32) (s : State) : Host.Outcome State Fault Refusal :=
  s.run (fun s =>
    match s.slotAt p pos.toNat with
    | none => s
    | some (b, i, x) =>
      if x.state == slUNREAD then
        let (v, s) := s.draw
        s.voidSample p b i { x with desc := leBytes 4 v } vcLATE
      else if x.state == slREAD then s.voidSample p b i x vcLATE
      else s)

/-- Void every open slot of queue `p` that `sel` names, with a cause. -/
def State.voidAll (s : State) (p cause : Nat) (sel : State → IngSlot → Bool) : State :=
  s.each (s.ingestQueue p).batches (fun s b0 =>
    s.each (upTo b0.size) (fun s i =>
      match s.slotAt p (b0.num * b0.size + i) with
      | some (b, k, x) => if sel s x then s.voidSample p b k x cause else s
      | none => s))

/-- A STEP of the local clock lands: every LIVE sample captured before it is STALE (R332), and so is what the rings hold. -/
def State.stepLive (s : State) : State :=
  let captured := fun (s : State) (x : IngSlot) =>
    (x.state == slREAD) && recField x.desc 4 1 == srcLIVE &&
      (((s.liveSlots x.desc).getLast?).map (fun e =>
        (tfind s.isp.captures (captureKey (recField x.desc 8 1) (recField x.desc 9 1) e.1)).isSome)).getD false
  let s := s.each (upTo 8) (fun s p => s.voidAll p vcSTALE captured)
  { s with isp := { s.isp with captures := s.isp.captures.map (fun e => (e.1, none)) } }

/-- The owning port of partition `p` is reset or removed (Table INGEST-6): the queue stops, its unread HOST slots are voided with
cause SOURCE, and its open batches close. -/
def State.ingestPortDown (s : State) (p : Nat) : State :=
  let s := if s.get (F.INGEST_Q_STATE_state p) == iqSTOPPED then s else s.queueState p (s.portOf p) iqSTOPPED
  s.voidAll p vcSOURCE (fun _ x => x.state == slUNREAD || (x.state == slREAD && recField x.desc 4 1 == srcHOST))

/-! ### Commands of the INGEST block (Table INGEST-7) -/

/-- Port `i` may write queue `p`. -/
def State.mayIngest (s : State) (i : Port) (p : Nat) : Bool := s.privileged i || s.owns i p

/-- An INGEST command of port `i` for queue `p`. -/
def State.ingestCmd (s : State) (i : Port) (p : Nat) (f : State → State) : State :=
  if s.mayIngest i p then f s else s.raise Code.INGEST_ROLE [i, 8]

/-- INGEST_START: the queue runs. -/
def execIngestStart (i : Port) (p : Part) (s : State) : Host.Outcome State Fault Refusal :=
  s.run (fun s => s.ingestCmd i p (fun s => s.queueState p i iqRUNNING))

/-- INGEST_STOP: no new batch opens; open batches complete (Table INGEST-6). -/
def execIngestStop (i : Port) (p : Part) (s : State) : Host.Outcome State Fault Refusal :=
  s.run (fun s => s.ingestCmd i p (fun s =>
    if s.get (F.INGEST_Q_STATE_state p) == iqSTOPPED then s
    else s.queueState p i (if (s.ingestQueue p).batches.isEmpty then iqSTOPPED else iqDRAINING)))

/-- SET_SEED: the seed registers apply from the next batch that opens (R297). -/
def execSetSeed (i : Port) (p : Part) (s : State) : Host.Outcome State Fault Refusal :=
  s.run (fun s => s.ingestCmd i p (fun s =>
    s.setQueue p { s.ingestQueue p with seed := s.get64 (F.INGEST_Q_SEED_LO_seed p) (F.INGEST_Q_SEED_HI_seed p) }))

/-- SET_EPOCH: the epoch register applies from the next batch that opens (R297). -/
def execSetEpoch (i : Port) (p : Part) (s : State) : Host.Outcome State Fault Refusal :=
  s.run (fun s => s.ingestCmd i p (fun s => s.setQueue p { s.ingestQueue p with epoch := s.get (F.INGEST_Q_EPOCH_epoch p) }))

/-- INGEST_DOORBELL: a write of INGEST_Q_TAIL; one that passes the head by more than the ring's size is a violation, which stops
the queue (R300). -/
def execIngestDoorbell (i : Port) (p : Part) (tail : BitVec 32) (s : State) : Host.Outcome State Fault Refusal :=
  s.run (fun s =>
    if !s.mayIngest i p then s.raise Code.INGEST_ROLE [i, 0x10C + 0x40 * p.val]
    else
      let head := s.get (F.INGEST_Q_HEAD_pos p)
      if (tail.toNat + 2 ^ 32 - head) % 2 ^ 32 > 2 ^ s.get (F.INGEST_Q_RING_SIZE_log2 p) then
        let s := s.ingestViolation p vcBADDESCRIPTOR tail.toNat
        if s.get (F.INGEST_Q_STATE_state p) == iqSTOPPED then s
        else s.queueState p i (if (s.ingestQueue p).batches.isEmpty then iqSTOPPED else iqDRAINING)
      else s.set (F.INGEST_Q_TAIL_pos p) tail.toNat)

end Sys2Proof.Machine
end

