-- ==== Sys2Proof/Machine/Hosts.lean ====
section
/-! DEFINITION. Hosts (R344 to R363): port reset and link-up, subscriptions, result slots and their release, submission rings and
their commands, weights bindings, mailboxes and the BAR4 window. -/

namespace Sys2Proof.Machine

/-! ### Rights (Table HOST-3) -/

/-- Port `i` may submit for partition `p` with every op, post its in-mailbox and write it through BAR4. -/
def State.mayWritePart (s : State) (i : Port) (p : Nat) : Bool := s.role i == roleOWNER || s.owns i p

/-- Port `i` may read partition `p` through BAR4 and submit COPY_OUT and FENCE for it. -/
def State.mayReadPart (s : State) (i : Port) (p : Nat) : Bool := s.mayWritePart i p || s.role i == roleSERVICE

/-- A write refused by Table HOST-3. -/
def State.hostRole (s : State) (i : Port) (off : Nat) : State := s.raise Code.HOST_ROLE [i, off]

/-! ### Port reset and link-up (R361, R362, R74) -/

/-- Role and number of a port in its HOST_STATUS. -/
def State.showPort (s : State) (i : Nat) : State :=
  let role := if s.on F.ZLD_ACTIVE_factory_structure then (if s.boot.proven.contains i then roleOWNER else roleOBSERVER)
    else s.cfg.structureSec.roles.getD i roleOBSERVER
  (s.set (F.HOST_STATUS_port i) i).set (F.HOST_STATUS_role i) role

/-- Bring HOST_STATUS.ports_up of every port to the ports that are up. -/
def State.showUp (s : State) : State :=
  let m := maskOf 4 (fun k => tget false s.host.ready k)
  s.each (upTo 4) (fun s k => s.set (F.HOST_STATUS_ports_up k) m)

/-- Set whether a port's BAR0 is ready. -/
def State.setReady (s : State) (i : Nat) (b : Bool) : State :=
  ({ s with host := { s.host with ready := tset false s.host.ready i b } }).showUp

/-- Causes of HOST_LINK_DOWN. -/
def downREMOVAL : Nat := 4

/-- What a reset of port `k` drops (R361): its outstanding DMA and MSI-X, a parameter set that loads from its host, its
subscriptions and push state, and its proof of ownership. -/
def State.portQuiet (s : State) (k : Nat) : State :=
  let s := { s with host := { s.host with busy := s.host.busy.filter (fun b => b.port != k) }
                    msix := s.msix.filter (fun e => e.1 != k) }
  let s := s.each (upTo 64) (fun s c =>
    if s.get (F.ISP_CTX_STATUS_shadow c) == shLOADING && (s.ctx c).loadPort == k && !s.on (F.ISP_CTX_LEN_hbm c) then
      s.set (F.ISP_CTX_STATUS_shadow c) shEMPTY else s)
  let mine := fun (e : Nat × Nat) => e.1 / 8 == k
  let s := { s with host := { s.host with
    slots := s.host.slots.filter (fun x => x.port != k)
    dropsSince := s.host.dropsSince.filter (fun e => !mine e), pushTop := s.host.pushTop.filter (fun e => !mine e)
    waiting := s.host.waiting.filter (fun e => !mine e), completed := s.host.completed.filter (fun e => e.1 / 4 != k) } }
  { s with boot := { s.boot with proven := s.boot.proven.filter (fun x => x != k)
                                 challenge := tdel s.boot.challenge k, doe := tdel s.boot.doe k } }

/-- What a reset of port `i` ends (R361): its load session, its freeze, its trace, and the queues of its partitions. -/
def State.portDuties (s : State) (i : Port) (cause : Nat) : State :=
  let k := i.val
  let s := if s.holdsSession i then s.zldEnd (if cause = downREMOVAL then 2 else 1) else s
  let s := if s.recorder.frozenBy == some k then s.thaw 1 else s
  let s := if s.get F.INTEG_STATUS_trace_level != 0 && s.get F.INTEG_STATUS_trace_port == k then
      s.set F.INTEG_STATUS_trace_level 0 else s
  s.each (upTo 8) (fun s p => if s.on (F.ROUTE_PART_defined p) && s.portOf p == k then s.ingestPortDown p else s)

/-- The registers that port `k` holds for itself return to reset, with its unread answer and latched words (R361). -/
def State.portRegs (s : State) (k : Nat) : State :=
  let s := s.resetRegs (portBank k) (portBank k + 0x4000000)
  { s with replies := tdel s.replies k
           hiLatch := s.hiLatch.filter (fun e => !(portBank k ≤ e.1 && e.1 < portBank k + 0x4000000)) }

/-- PORT_RESET: 0 PERST#, 1 hot reset, 2 FLR, 3 link down or 4 removal of a port resets only that port (R361); the sideband
sets that the split leaves unused are ignored (R26). -/
def execPortReset (i : Port) (cause : Fin 5) (s : State) : Host.Outcome State Fault Refusal :=
  s.run (fun s =>
    if !s.hasPort i then s
    else
      -- its subscriptions end before its duties do, so that no result of these opens a slot for it
      let s := (((s.portQuiet i).portRegs i).portDuties i cause.val).portRegs i
      ((s.setReady i false).showPort i).raise Code.HOST_LINK_DOWN [i, cause])

/-- LINK_UP: the link of a port comes up, and its BAR0 is ready (R361). -/
def execLinkUp (i : Port) (speed : BitVec 3) (width : BitVec 5) (s : State) : Host.Outcome State Fault Refusal :=
  s.run (fun s =>
    if !s.hasPort i then s
    else
      let s := ((s.showPort i).set (F.HOST_STATUS_speed i) speed.toNat).set (F.HOST_STATUS_width i) width.toNat
      ((s.setReady i true).raise Code.HOST_LINK_UP [i, speed.toNat, width.toNat]).fire i 0)

/-- The device identifier of the variant (Table HOST-1). -/
def State.deviceIdNo (s : State) : Nat := match s.variant with | .f9640 => 0x9640 | .v9640 => 0x9644 | .f9620 => 0x9620

/-- CONFIG_REQUEST: a read of configuration register `reg`, in 32-bit words, of a port: Request Retry Status until its BAR0 is ready
(R74, R361); then the identity of Table HOST-1, and beyond it a value that the spec does not state. -/
def execConfigRequest (i : Port) (reg : BitVec 10) (s : State) : Host.Outcome State Fault Refusal :=
  s.run (fun s =>
    if !tget false s.host.ready i then s.reply i .retry
    else if reg = 0 then s.reply i (.data (BitVec.ofNat 32 (Config.vendorId.toNat + 65536 * s.deviceIdNo)))
    else if reg = 2 then s.reply i (.data (BitVec.ofNat 32 (Config.stepping.toNat + 256 * 0x120000)))
    else
      let (v, s) := s.draw
      s.reply i (.data (BitVec.ofNat 32 v)))

/-! ### Subscriptions and slots (R346, R350 to R353) -/

/-- A subscription of port `i` to partition `p` ends or begins: its ring is empty and its counts start again. -/
def State.clearRing (s : State) (i : Port) (p : Nat) : State :=
  let k := ppKey i p
  let s := { s with host := { s.host with
    slots := s.host.slots.filter (fun x => !(x.port == i.val && x.part == p)), dropsSince := tdel s.host.dropsSince k
    pushTop := tdel s.host.pushTop k, waiting := tdel s.host.waiting k } }
  (s.set (F.HOST_RES_STATE_pending i p) 0).set (F.HOST_RES_STATE_push_stopped i p) 0

/-- HOST_RES_CFG_WRITE: a write of HOST_RES_CFG (R346): the other fields change only while enable is 0, and a size outside 4 to 12
is ignored in whole (R444). -/
def execHostResCfgWrite (i : Port) (p : Part) (v : Word) (s : State) : Host.Outcome State Fault Refusal :=
  s.run (fun s =>
    let en := v.getLsbD 0
    let size := fieldOf v 2 4
    if s.on (F.HOST_RES_CFG_enable i p) then
      if en then s else (s.clearRing i p).set (F.HOST_RES_CFG_enable i p) 0
    else if size < 4 || 12 < size then s
    else
      let s := (s.set (F.HOST_RES_CFG_mode i p) (fieldOf v 1 1)).set (F.HOST_RES_CFG_size i p) size
      let s := (s.set (F.HOST_RES_CFG_coalesce i p) (fieldOf v 8 8)).set (F.HOST_RES_CFG_timer_us i p) (fieldOf v 16 16)
      if en then
        let s := ((s.clearRing i p).set (F.HOST_RES_SEQ_next i p) 0).set (F.HOST_PUSH_HEAD_seq i p) 0
        s.set (F.HOST_RES_CFG_enable i p) 1
      else s)

/-- The slot that stands at index `k` of the BAR2 ring of port `i` for partition `p`. -/
def State.slotIndexed (s : State) (i p k : Nat) : Option Slot :=
  if k < s.ringSize i p then s.host.slots.find? (fun x => x.port == i && x.part == p && !x.push && x.seq % s.ringSize i p == k)
  else none

/-- The state word of a slot (Table HOST-4). -/
def stateWord (reads st : Nat) : Word := BitVec.ofNat 32 (reads + 2 ^ 16 * st + 2 ^ 24 * 0xA5)

/-- RESULT_STATE_READ: a read of the state word of slot `k` (R350). -/
def execResultStateRead (i : Port) (p : Part) (k : BitVec 12) (s : State) : Host.Outcome State Fault Refusal :=
  s.run (fun s => match s.slotIndexed i p k.toNat with
    | none => s.reply i (.data 0)
    | some x =>
      if x.state == 1 then s.reply i (.data (stateWord 0 1))
      else
        let n := min (x.reads + 1) 65535
        let slots := s.host.slots.map (fun z =>
          if z.port == x.port && z.part == x.part && z.seq == x.seq && !z.push then { z with state := 3, reads := n } else z)
        ({ s with host := { s.host with slots := slots } }).reply i (.data (stateWord n 3)))

/-- HOST_RES_ACK: an ACK with sequence number `seq` (R351). -/
def execHostResAck (i : Port) (p : Part) (seq : BitVec 32) (s : State) : Host.Outcome State Fault Refusal :=
  s.run (fun s =>
    let q := seq.toNat
    let n := s.ringSize i p
    let next := s.get (F.HOST_RES_SEQ_next i p)
    let gone := fun (x : Slot) => x.port == i.val && x.part == p.val && !x.push && x.state ≥ 2 && decide ((q + 2 ^ 32 - x.seq) % 2 ^ 32 < n)
    let refuse := fun (r : Nat) =>
      (((s.set (F.HOST_RES_STATE_ack_reason i p) r).raise Code.HOST_ACK_REFUSED [i, p, q, r])).fire i 0
    if (q + 2 ^ 32 - next) % 2 ^ 32 < 2 ^ 31 then refuse 1
    else if !s.host.slots.any gone then refuse 2
    else
      ({ s with host := { s.host with slots := s.host.slots.filter (fun x => !gone x) } }).set (F.HOST_RES_STATE_ack_reason i p) 0)

/-- HOST_PUSH_HEAD: the host has consumed pushed entries up to `seq` (R352); beyond the last entry pushed it stops the push
(R360). -/
def execHostPushHead (i : Port) (p : Part) (seq : BitVec 32) (s : State) : Host.Outcome State Fault Refusal :=
  s.run (fun s =>
    let top := tget 0 s.host.pushTop (ppKey i p)
    if seq.toNat != top && (seq.toNat + 2 ^ 32 - top) % 2 ^ 32 < 2 ^ 31 then
      (s.set (F.HOST_RES_STATE_push_stopped i p) 1).fire i 0
    else s.set (F.HOST_PUSH_HEAD_seq i p) seq.toNat)

/-- COALESCE_TIMER: the coalesce timer of a ring expires with results waiting (R353). -/
def execCoalesceTimer (i : Port) (p : Part) (s : State) : Host.Outcome State Fault Refusal :=
  s.run (fun s =>
    let k := ppKey i p
    if tget 0 s.host.waiting k = 0 then s
    else ({ s with host := { s.host with waiting := tset 0 s.host.waiting k 0 } }).fire i (16 + p))

/-! ### Submission rings (R354 to R356, R360) -/

/-- Op codes of Table HOST-8. -/
def sqCOPYIN : Nat := 1
def sqCOPYOUT : Nat := 2
def sqRELEASE : Nat := 3
def sqBIND : Nat := 4
def sqFENCE : Nat := 5

/-- Port `i` may bind a ring to partition `p` (R354). -/
def State.mayBind (s : State) (i : Port) (p : Nat) : Bool := s.mayReadPart i p

/-- HOST_SQ_CFG_WRITE: a write of HOST_SQ_CFG binds, starts or stops a ring (R354, R444).  While the ring runs its RWL fields are
locked, and a write that would change one of them writes RWL_LOCKED (R15). -/
def execHostSqCfgWrite (i : Port) (r : Fin 4) (v : Word) (s : State) : Host.Outcome State Fault Refusal :=
  s.run (fun s =>
    let run := v.getLsbD 8
    let size := fieldOf v 0 4
    let p := fieldOf v 4 3
    if s.on (F.HOST_SQ_CFG_run i r) then
      if !s.mayBind i (s.get (F.HOST_SQ_CFG_partition i r)) then s.hostRole i (0x410 + 0x20 * r.val)
      else
        let same := size == s.get (F.HOST_SQ_CFG_size i r) && p == s.get (F.HOST_SQ_CFG_partition i r)
        let s := if same then s else s.raiseKind 0x10 i Code.RWL_LOCKED [i, 0x410 + 0x20 * r.val]
        s.set (F.HOST_SQ_CFG_run i r) (bit run)
    else if !s.mayBind i p then s.hostRole i (0x410 + 0x20 * r.val)
    else if size < 4 || 12 < size then s
    else
      let s := (s.set (F.HOST_SQ_CFG_size i r) size).set (F.HOST_SQ_CFG_partition i r) p
      if run then
        ((s.set (F.HOST_SQ_CFG_run i r) 1).set (F.HOST_SQ_STATE_error i r) 0).set (F.HOST_SQ_STATE_stopped i r) 0
      else s)

/-- HOST_SQ_TAIL: a doorbell; one that passes the head by more than the ring's size stops the ring (R360). -/
def execHostSqTail (i : Port) (r : Fin 4) (tail : BitVec 32) (s : State) : Host.Outcome State Fault Refusal :=
  s.run (fun s =>
    if !s.mayBind i (s.get (F.HOST_SQ_CFG_partition i r)) then s.hostRole i (0x414 + 0x20 * r.val)
    else
      let head := s.get (F.HOST_SQ_HEAD_pos i r)
      if (tail.toNat + 2 ^ 32 - head) % 2 ^ 32 > 2 ^ s.get (F.HOST_SQ_CFG_size i r) then
        let s := (s.set (F.HOST_SQ_STATE_stopped i r) 1).set (F.HOST_SQ_STATE_error i r) Code.HOST_RING_STOPPED
        (s.raise Code.HOST_RING_STOPPED [i, r, 0]).fire i 0
      else s.set (F.HOST_SQ_TAIL_pos i r) tail.toNat)

/-- Write a completion entry (Table HOST-9) and signal it. -/
def State.complete (s : State) (i r tag status op landing : Nat) : State :=
  let n := tget 0 s.host.completed (4 * i + r)
  let size := 2 ^ s.get (F.HOST_SQ_CFG_size i r)
  let bs := leBytes 4 tag ++ leBytes 2 status ++ leBytes 1 op ++ [0] ++ leBytes 4 landing ++ [0, 0] ++
    leBytes 1 (1 - n / size % 2) ++ [0xA5]
  let base := s.get64 (F.HOST_CQ_LO_addr i r) (F.HOST_CQ_HI_addr i r)
  let w : HostWrite := { port := i, addr := base + 16 * (n % size), bytes := bs }
  ({ s with host := { s.host with completed := tset 0 s.host.completed (4 * i + r) (n + 1), writes := s.host.writes ++ [w] } }).fire i
    (32 + r)

/-- A page of a partition that a binding names, in force or pending, within a region of its pages; also a region whose digest is
being computed (R356). -/
def State.boundPage (s : State) (p off len : Nat) : Option Nat :=
  let inForce := fun (b : Binding) => b.landing > s.period || (s.boundSets p).contains b
  let regions := (s.host.bindings.filter (fun b => b.part == p && inForce b)).map (fun b => (b.offset, b.length)) ++
    (s.host.busy.filter (fun b => b.op == sqBIND && s.get (F.HOST_SQ_CFG_partition b.port b.ring) == p)).map
      (fun b => (b.offset, b.length))
  -- whole pages are bound
  (regions.find? (fun e => len != 0 && e.2 != 0 && off / 65536 ≤ (e.1 + e.2 - 1) / 65536 && e.1 / 65536 ≤ (off + len - 1) / 65536)).map
    (fun e => max (off / 65536) (e.1 / 65536))

/-- The byte offset of the first field of a descriptor that breaks Table HOST-8 for partition `p` of `pages` pages. -/
def badField (pages : Nat) (d : List Byte) : Option Nat :=
  let op := recField d 0 1
  let off := 64 * recField d 16 8
  let len := recField d 24 4
  if op = 0 || 5 < op then some 0
  else if (op != sqBIND && recField d 1 1 != 0) || 15 < recField d 1 1 then some 1
  else if op != sqRELEASE && recField d 2 1 != 0 then some 2
  else if recField d 3 1 != 0 then some 3
  else if recField d 8 8 % 64 != 0 then some 8
  else if 65536 * pages < off + len then some 16
  else if len % 64 != 0 || 268435456 < len then some 24
  else (List.range 36).findSome? (fun k => if recField d (28 + k) 1 != 0 then some (28 + k) else none)

/-- The next descriptor of a ring may start: the ring runs, holds one, and its earlier commands have completed. -/
def State.ringNext (s : State) (i r : Nat) : Bool :=
  s.on (F.HOST_SQ_CFG_run i r) && !s.on (F.HOST_SQ_STATE_stopped i r) && s.get (F.HOST_SQ_HEAD_pos i r) != s.get (F.HOST_SQ_TAIL_pos i r) &&
    !s.host.busy.any (fun b => b.port == i && b.ring == r)

/-- A descriptor at the head of ring `r` of port `i` starts as command `op`: it is checked, and `f` runs it for the ring's
partition. -/
def State.submit (s : State) (i : Port) (r : Fin 4) (op : Nat) (d : List Byte) (f : State → Nat → State) : State :=
  let p := s.get (F.HOST_SQ_CFG_partition i r)
  let k := recField d 0 1
  -- an unknown op is no command of any row, and is refused by each
  if !s.ringNext i r || (1 ≤ k && k ≤ 5 && k != op) then s
  else
    let s := s.set (F.HOST_SQ_HEAD_pos i r) (s.get (F.HOST_SQ_HEAD_pos i r) + 1)
    let refuse := fun (at_ : Nat) =>
      (((s.set (F.HOST_SQ_STATE_error i r) Code.HOST_BAD_DESCRIPTOR).raise Code.HOST_BAD_DESCRIPTOR [i, r, at_]).fire i 0).complete
        i r (recField d 4 4) Code.HOST_BAD_DESCRIPTOR k 0
    match badField (s.reach p) d with
    | some at_ => refuse at_
    | none =>
      if s.role i == roleSERVICE && k != sqCOPYOUT && k != sqFENCE then refuse 0
      else f s p

/-- The outstanding command of a ring, from its descriptor. -/
def sqBusy (i r : Nat) (d : List Byte) : SqBusy :=
  { port := i, ring := r, op := recField d 0 1, set := recField d 1 1, tag := recField d 4 4, host := recField d 8 8
    offset := 64 * recField d 16 8, length := recField d 24 4 }

/-- COPY_IN: a read of the host region is issued; pages bound as weights refuse it (R354, R356). -/
def execCopyIn (i : Port) (r : Fin 4) (d : List Byte) (s : State) : Host.Outcome State Fault Refusal :=
  s.run (fun s => s.submit i r sqCOPYIN d (fun s p =>
    let b := sqBusy i r d
    match s.boundPage p b.offset b.length with
    | some g => ((s.raise Code.HOST_PAGE_BOUND [i, p, g]).fire i 0).complete i r b.tag Code.HOST_PAGE_BOUND b.op 0
    | none => { s with host := { s.host with busy := s.host.busy ++ [b] } }))

/-- COPY_OUT: the region's bytes are written into host memory (R354). -/
def execCopyOut (i : Port) (r : Fin 4) (d : List Byte) (s : State) : Host.Outcome State Fault Refusal :=
  s.run (fun s => s.submit i r sqCOPYOUT d (fun s p =>
    let b := sqBusy i r d
    let w : HostWrite := { port := i, addr := b.host, bytes := s.bytes (s.partAddr p b.offset) b.length }
    ((({ s with host := { s.host with writes := s.host.writes ++ [w] } }).bwOutAdd i b.length)).complete i r b.tag 0 b.op 0))

/-- RELEASE: one EVENT iteration of the named job of the ring's partition, with the region as its input (R355). -/
def execRelease (i : Port) (r : Fin 4) (d : List Byte) (s : State) : Host.Outcome State Fault Refusal :=
  s.run (fun s => s.submit i r sqRELEASE d (fun s p =>
    let b := sqBusy i r d
    let j := recField d 2 1
    let n := s.route.buildFor + 1
    let bad := (((s.set (F.HOST_SQ_STATE_error i r) Code.HOST_BAD_DESCRIPTOR).raise Code.HOST_BAD_DESCRIPTOR [i, r, 2]).fire i 0
      ).complete i r b.tag Code.HOST_BAD_DESCRIPTOR b.op 0
    match s.job? j with
    | some jb => match s.jobTemplate jb with
      | some t =>
        if jb.part == p && t.cadence == 1 && s.jobActive n j jb then
          let s := s.release j jb (s.buildGen p) t [] (digestOf (sha3_256 (s.bytes (s.partAddr p b.offset) b.length))) n
          s.complete i r b.tag 0 b.op (n % 2 ^ 32)
        else bad
      | none => bad
    | none => bad))

/-- BIND_WEIGHTS: the digest of the region is computed (R356). -/
def execBindWeights (i : Port) (r : Fin 4) (d : List Byte) (s : State) : Host.Outcome State Fault Refusal :=
  s.run (fun s => s.submit i r sqBIND d (fun s _ =>
    { s with host := { s.host with busy := s.host.busy ++ [sqBusy i r d] } }))

/-- FENCE: it completes once every earlier command of the ring has (R355). -/
def execFence (i : Port) (r : Fin 4) (d : List Byte) (s : State) : Host.Outcome State Fault Refusal :=
  s.run (fun s => s.submit i r sqFENCE d (fun s _ => s.complete i r (recField d 4 4) 0 sqFENCE 0))

/-- The outstanding command `op` of a ring, and the state without it. -/
def State.takeBusy (s : State) (i : Port) (r : Fin 4) (op : Nat) : Option (SqBusy × State) :=
  (s.host.busy.find? (fun b => b.port == i.val && b.ring == r.val && b.op == op)).map (fun b =>
    (b, { s with host := { s.host with busy := s.host.busy.filter (fun x => !(x.port == i.val && x.ring == r.val)) } }))

/-- WEIGHTS_DIGEST_DONE: the digest of a BIND_WEIGHTS region completes (R356). -/
def execWeightsDigestDone (i : Port) (r : Fin 4) (s : State) : Host.Outcome State Fault Refusal :=
  s.run (fun s => match s.takeBusy i r sqBIND with
    | none => s
    | some (b, s) =>
      let p := s.get (F.HOST_SQ_CFG_partition i r)
      let d := digestOf (sha3_256 (s.bytes (s.partAddr p b.offset) b.length))
      let decl := (s.program p).bind (fun g => g.weights.find? (fun w => w.set == b.set))
      let ok := match decl with
        | none => true
        | some w => if w.adaptable then s.role i == roleOWNER else w.expected.isEmpty || w.expected.contains d
      if !ok then
        ((s.raise Code.HOST_WEIGHTS_REFUSED [i, p, b.set]).fire i 0).complete i r b.tag Code.HOST_WEIGHTS_REFUSED b.op 0
      else
        let n := s.route.buildFor + 1
        let g : Binding := { part := p, set := b.set, offset := b.offset, length := b.length, digest := d, landing := n }
        let s := { s with host := { s.host with bindings := s.host.bindings ++ [g] } }
        (s.raise Code.HOST_WEIGHTS_BOUND [p, b.set, n]).complete i r b.tag 0 b.op (n % 2 ^ 32))

/-- A failed DMA read of a ring (Table HOST-10). -/
def State.dmaError (s : State) (i : Port) (r : Fin 4) (b : SqBusy) (st : Nat) : State :=
  let s := s.set (F.HOST_SQ_STATE_error i r) Code.HOST_DMA_ERROR
  ((s.raise Code.HOST_DMA_ERROR [i, r, st]).fire i 0).complete i r b.tag Code.HOST_DMA_ERROR b.op 0

/-- DMA_READ_COMPLETION: the read of a COPY_IN ends with data, which goes into the partition's pages, or fails (R360). -/
def execDmaReadCompletion (i : Port) (r : Fin 4) (e : DmaEnd) (s : State) : Host.Outcome State Fault Refusal :=
  s.run (fun s => match s.takeBusy i r sqCOPYIN with
    | none => s
    | some (b, s) => match e with
      | .data bs =>
        let p := s.get (F.HOST_SQ_CFG_partition i r)
        let data := (bs ++ List.replicate b.length 0).take b.length
        ((s.store (s.partAddr p b.offset) data).bwInAdd i b.length).complete i r b.tag 0 b.op 0
      | .unsupported => s.dmaError i r b 1
      | .abort => s.dmaError i r b 2
      | .poison => s.dmaError i r b 3)

/-- DMA_TIMEOUT: the read of a COPY_IN is not completed within 50 ms (R360). -/
def execDmaTimeout (i : Port) (r : Fin 4) (s : State) : Host.Outcome State Fault Refusal :=
  s.run (fun s => match s.takeBusy i r sqCOPYIN with
    | none => s
    | some (b, s) => s.dmaError i r b 4)

/-! ### Mailboxes (R358, R359) -/

/-- HOST_MBOX_POST: the in-mailbox is copied into staging and waits for its boundary; a later post replaces an earlier one. -/
def execHostMboxPost (i : Port) (p : Part) (number : Word) (s : State) : Host.Outcome State Fault Refusal :=
  s.run (fun s =>
    if !s.mayWritePart i p then s.hostRole i (0x600 + 4 * p.val)
    else
      let s := s.putBytes (mailStaging p) (s.bytes (inMailbox p) 4096)
      { s with host := { s.host with
        posted := s.host.posted.filter (fun e => e.1 != p.val) ++ [(p.val, number.toNat, s.route.buildFor + 1)] } })

/-- Posts that land at the boundary of period `n` are delivered to the partition's area in the line store. -/
def State.landMail (s : State) (n : Nat) : State :=
  let due := s.host.posted.filter (fun e => e.2.2 ≤ n)
  let s := { s with host := { s.host with posted := s.host.posted.filter (fun e => e.2.2 > n) } }
  s.each due (fun s e =>
    let s := match (s.program e.1).bind (fun g => g.mailboxIn) with
      | some off => s.store (lineStoreBase + off) (s.bytes (mailStaging e.1) 4096)
      | none => s
    s.each (upTo 4) (fun s i => s.set (F.HOST_MBOX_DONE_number i e.1) e.2.1))

/-- The out-areas that programs have written are published (R359): an area has been written where its words differ from the last
publication. -/
def State.publishMail (s : State) : State :=
  s.each (upTo 8) (fun s p =>
    match (s.program p).bind (fun g => g.mailboxOut) with
    | none => s
    | some off =>
      let body := s.bytes (lineStoreBase + off + 4) 4088
      if body == s.bytes (outMailbox p + 4) 4088 then s
      else
        let k := (tget 0 s.host.pubNum p + 1) % 2 ^ 32
        let s := { s with host := { s.host with pubNum := tset 0 s.host.pubNum p k } }
        (s.putBytes (outMailbox p) (leBytes 4 k ++ body ++ leBytes 4 k)).fireAll (24 + p))

/-! ### BAR4 (R357) -/

/-- BAR4_ACCESS: a 32-bit read, or a write of `w`, at an offset of the HBM window of port `i`. -/
def execBar4Access (i : Port) (off : BitVec 32) (w : Option Word) (s : State) : Host.Outcome State Fault Refusal :=
  s.run (fun s =>
    let p := s.get (F.HOST_BAR4_WIN_partition i)
    let a := 65536 * s.get (F.HOST_BAR4_WIN_page i) + off.toNat
    let reach := s.on (F.HOST_BAR4_WIN_enable i) && decide (a + 4 ≤ 65536 * s.reach p)
    match w with
    | none =>
      if reach && s.mayReadPart i p then (s.bwOutAdd i 4).reply i (.data (BitVec.ofNat 32 (s.rd (s.partAddr p a) 4)))
      else ((s.raise Code.HOST_UR [i, 4, off.toNat]).fire i 0).reply i .unsupported
    | some v =>
      if !(reach && s.mayWritePart i p) then ((s.raise Code.HOST_UR [i, 4, off.toNat]).fire i 0).reply i .dropped
      else match s.boundPage p a 4 with
        | some g => ((s.raise Code.HOST_PAGE_BOUND [i, p, g]).fire i 0).reply i .dropped
        | none => (s.bwInAdd i 4).store (s.partAddr p a) (leBytes 4 v.toNat))

end Sys2Proof.Machine
end

