-- ==== Sys2Proof/Machine/Pace.lean ====
section
/-! DEFINITION. Pace and ageing (R95 to R114): pace misses, slack windows, the planner, the planned window, the hub firmware
handover, and what of them lands at a period boundary. -/

namespace Sys2Proof.Machine

/-! ### Pace misses (R100, R109) -/

/-- PACE_MISS of core `c`, or of the hub (R100, R109): the slip is counted and written, and timing alone changes (R101). -/
def execPaceMiss (c : Option CoreId) (slip : BitVec 32) (s : State) : Host.Outcome State Fault Refusal :=
  s.run (fun s => match c with
    | none => (s.inc F.PACE_HUB_misses).raise Code.PACE_MISS [0xFF, slip.toNat, 1000]
    | some c =>
      if s.coreRole c == coreABSENT || s.coreRole c == coreFAILED || (s.on (F.CORE_STATUS_in_partition c) && !s.on (F.CORE_STATUS_paced c)) then s
      else
        let s := ((s.inc (F.PACE_MISS_count c)).perfEvent c 0x07 1).perfEvent c 0x08 slip.toNat
        let s := { s with pace := { s.pace with slips := tset 0 s.pace.slips c (tget 0 s.pace.slips c + slip.toNat) } }
        s.raise Code.PACE_MISS [c, slip.toNat, s.get F.PACE_STATUS_pace])

/-! ### Slack (R103 to R105) -/

/-- The die of a physical core. -/
def dieOfCore (c : Nat) : Nat := c / 20

/-- Defaults of a module without a baseline (R104): 0.80 V, 16 ps per 10 mV, 0.6 ps per °C. -/
def defaultStart : Nat := 800
def defaultGain (vStep : Nat) : Nat := 16 * vStep / 10
def defaultTemp : Int := 6

/-- The slack gain per v_step of die `d`, and its temperature coefficient in 0.1 ps per °C. -/
def State.gainOf (s : State) (d : Nat) : Nat :=
  match s.keep.baseline with
  | some b => b.gain.getD d 0
  | none => defaultGain (s.get F.PACE_TABLE1_v_step)
def State.tempCoOf (s : State) (d : Nat) : Int :=
  match s.keep.baseline with
  | some b => b.tempCo.getD d 0
  | none => defaultTemp

/-- The junction temperature of die `d`. -/
def State.dieTemp (s : State) (d : Nat) : Nat := if d = 0 then s.get F.CAP_BOARD_TEMP_die0 else s.get F.CAP_BOARD_TEMP_die1

/-- Slack at 100 °C (R104): a hotter die is slower, so a cooler reading loses the coefficient times the difference. -/
def State.correctedSlack (s : State) (c : Nat) (reading : Int) : Int :=
  let d := dieOfCore c
  reading - (s.tempCoOf d * (100 - (s.dieTemp d : Int))) / 10

/-- Saturate to a signed field of `w` bits. -/
def satSigned (w : Nat) (i : Int) : Nat := ofSigned w (max (-(2 : Int) ^ (w - 1)) (min (2 ^ (w - 1) - 1) i))

/-- The corrected slack of core `c` in the last window. -/
def State.slackOf (s : State) (c : Nat) : Int := toSigned 12 (s.get (F.PACE_SLACK_slack c))

/-- The cores whose slack counts: those that are neither absent nor failed. -/
def State.liveCores (s : State) : List Nat := (upTo 40).filter (fun c => s.coreRole c != coreABSENT && s.coreRole c != coreFAILED)

/-- Write SLACK_LOW for core `c`, or HUB_SLACK_LOW for 40, at most once per hour (R105, R109). -/
def State.slackLow (s : State) (c : Nat) (v : Int) : State :=
  let again := match tfind s.pace.lowAt c with | some t => t + 3600 ≤ s.opSeconds | none => true
  if !again then s
  else
    let s := { s with pace := { s.pace with lowAt := tput s.pace.lowAt c s.opSeconds } }
    if c = 40 then s.raise Code.HUB_SLACK_LOW [ofSigned 32 v] else s.raise Code.SLACK_LOW [c, ofSigned 32 v]

/-- The baseline holds core `c`: a factory baseline holds every core, a stored one those that have been measured (R104). -/
def State.hasHistory (s : State) (c : Nat) : Bool := (s.keep.baseline.bind (fun b => tfind b.slack c)).isSome

/-- The live cores with a history, for which the planner plans (Table BOOT-4). -/
def State.plannedCores (s : State) : List Nat := s.liveCores.filter s.hasHistory

/-- The slack below which a core is low. -/
def State.guard (s : State) : Int := s.get F.PACE_TABLE0_guard

/-- The pace against which the monitor of core `c` measures: the pace in force, or rated_pace in free mode (R103). -/
def State.slackPace (s : State) (c : Nat) : Nat :=
  if s.on (F.CORE_STATUS_in_partition c) && !s.on (F.CORE_STATUS_paced c) then s.get F.PACE_TABLE0_rated_pace else s.get F.PACE_STATUS_pace

/-- The slack of a tick of `t` ps on core `c`, in steps of 5 ps, the lower one where it lies between two (R103). -/
def State.tickSlack (s : State) (c t : Nat) : Int := 5 * (((s.slackPace c : Int) - t) / 5)

/-- A module without a baseline stores the first corrected measurement of each core as its baseline (R104, Table BOOT-4), and says once
that it had none. A spare runs test legs only, so that its first measurement comes later than that of the others. -/
def State.storeBaseline (s : State) (now : List (Nat × Int)) : State :=
  let new := now.filter (fun e => !s.hasHistory e.1)
  if new.isEmpty then s
  else
    let absent := s.keep.baseline.isNone
    let gain := defaultGain (s.get F.PACE_TABLE1_v_step)
    let b : Baseline := s.keep.baseline.getD { slack := [], vStart := [defaultStart, defaultStart], gain := [gain, gain]
                                               tempCo := [defaultTemp, defaultTemp] }
    let b := { b with slack := new.foldl (fun t e => tput t e.1 e.2) b.slack }
    let s := (s.keepWrite recBASELINE (fun k => { k with baseline := some b })).showKeep
    let s := s.each new (fun s e => s.set (F.PACE_SLACK_baseline e.1) (satSigned 12 e.2))
    if absent then s.raise Code.KEEP_BASELINE_ABSENT [] else s

/-- SLACK_WINDOW: the ticks of each physical core in a window of 1 s, as tick times in ps with how many ticks took each, and the least
hub slack (R103 to R105, R109). A core that ran no tick is not measured in that window. -/
def execSlackWindow (ticks : List (List (BitVec 12))) (counts : List (List Nat)) (hub : BitVec 12) (s : State) : Host.Outcome State Fault Refusal :=
  s.run (fun s =>
    let slacks := fun c => (((ticks.getD c []).zip (counts.getD c [])).filter (fun e => e.2 != 0)).map (fun e => (s.tickSlack c e.1.toNat, e.2))
    let now := (upTo s.coreCount).filterMap (fun c => match slacks c with
      | [] => none
      | e :: l => some (c, s.correctedSlack c (l.foldl (fun m x => min m x.1) e.1)))
    let below := (upTo s.coreCount).map (fun c => ((slacks c).filter (fun e => e.1 < s.guard)).foldl (fun n e => n + e.2) 0)
    let s := s.storeBaseline now
    let s := s.each now (fun s e => s.set (F.PACE_SLACK_slack e.1) (satSigned 12 e.2))
    let least := fun (t : Tab Int) (e : Nat × Int) => tput t e.1 (match tfind t e.1 with | some v => min v e.2 | none => e.2)
    let s := { s with pace := { s.pace with below := (upTo 40).foldl (fun t c => tset 0 t c (below.getD c 0)) []
                                            hourLeast := now.foldl least s.pace.hourLeast } }
    let s := s.each [0, 1] (fun s d =>
      match (now.filter (fun e => dieOfCore e.1 == d)).map (fun e => e.2) with
      | [] => s
      | v :: r => s.set (F.PACE_DIE_least_slack d) (satSigned 11 (r.foldl min v)))
    let s := s.set F.PACE_HUB_slack hub.toNat
    let s := if hub.toInt < 100 then s.slackLow 40 hub.toInt else s
    -- LIVE margins are fixed: a low core is only written (R105, R110)
    if s.get F.PACE_STATUS_upkeep_mode ≤ upkeepLIVE then
      s.each now (fun s e => if e.2 < s.guard then s.slackLow e.1 e.2 else s)
    else s)

/-- SLACK_LOG_WRITE: the hour's record of the slack log, the ring holding 16,384 (R104). A core that was not measured in the hour
writes 0x80, which every trend leaves out. -/
def execSlackLogWrite (s : State) : Host.Outcome State Fault Refusal :=
  s.run (fun s =>
    let byte := fun c => match tfind s.pace.hourLeast c with
      | none => (0x80 : BitVec 8)
      | some v => BitVec.ofNat 8 (satSigned 8 (v / 5))
    let r : SlackRec := { cores := (upTo 40).map byte, volts := [s.get (F.PACE_DIE_voltage 0), s.get (F.PACE_DIE_voltage 1)]
                          seconds := s.opSeconds, cycles := s.get F.KEEP_POWER_CYCLES_count }
    { s with flash := { s.flash with slack := (r :: s.flash.slack).take 16384 }, pace := { s.pace with hourLeast := [] } })

/-! ### The planner (R104, R106, R107) -/

/-- The decline of core `c` in ps per day: the least-squares slope of the log over 90 days of operation, which is never positive; fewer
than 24 unsaturated records give 0 (R104). -/
def State.decline (s : State) (c : Nat) : Rat :=
  let pts := (s.flash.slack.filter (fun r => s.opSeconds ≤ r.seconds + 90 * 86400)).filterMap (fun r =>
    let b := r.cores.getD c 0x80
    if b = 0x80 || b = 0x7F then none else some ((r.seconds : Int), b.toInt * 5))
  if pts.length < 24 then 0
  else
    let n : Int := pts.length
    let sx := (pts.map (fun e => e.1)).foldl (· + ·) 0
    let sy := (pts.map (fun e => e.2)).foldl (· + ·) 0
    let sxy := (pts.map (fun e => e.1 * e.2)).foldl (· + ·) 0
    let sxx := (pts.map (fun e => e.1 * e.1)).foldl (· + ·) 0
    let den := n * sxx - sx * sx
    let num := n * sxy - sx * sy
    if den ≤ 0 || num ≥ 0 then 0 else ((-num * 86400 : Int) : Rat) / (den : Int)

/-- The decline as PACE_SLACK.trend shows it, in whole units of 0.1 ps per day. -/
def State.trendOf (s : State) (c : Nat) : Nat := min (10 * s.decline c).floor.toNat 255

/-- The projected slack of core `c` in ps: the corrected slack plus trend × horizon (R106). -/
def State.projected (s : State) (c : Nat) : Rat := (s.slackOf c : Int) - s.decline c * s.get F.PACE_TABLE1_horizon

/-- The shortfall of die `d`'s worst core below guard in ps; 0 where none projects below it. -/
def State.shortfall (s : State) (d : Nat) : Rat :=
  ((s.plannedCores.filter (fun c => dieOfCore c == d)).map (fun c => (s.guard : Rat) - s.projected c)).foldl max 0

/-- The smallest number of steps of `step` ps that cover `x` ps. -/
def stepsFor (x : Rat) (step : Nat) : Nat := if step = 0 then 0 else (x / step).ceil.toNat

/-- Voltage steps that die `d` may still take up to v_ceiling, beyond those that wait. Less than a whole v_step below v_ceiling gives no
further raise, and the die counts as at v_ceiling for a proposal, which the spec does not state (DESIGN CHOICE). -/
def State.stepsLeft (s : State) (d : Nat) : Nat :=
  let v := s.get F.PACE_TABLE1_v_step
  (s.get F.PACE_TABLE1_v_ceiling - s.get (F.PACE_DIE_voltage d)) / max v 1 - s.pace.raises.getD d 0

/-- The dies of this variant. -/
def State.dies (s : State) : List Nat := if s.variant = .f9620 then [0] else [0, 1]

/-- Raises of die `d` (R106): the fewest v_steps that bring the projection to guard, as far as v_ceiling allows. -/
def State.planRaises (s : State) (d : Nat) : State :=
  let waiting := s.pace.raises.getD d 0
  let short := s.shortfall d - s.gainOf d * waiting
  let k := min (stepsFor short (s.gainOf d)) (s.stepsLeft d)
  { s with pace := { s.pace with raises := s.pace.raises.set d (waiting + k) } }

/-- The proposal of R107: a die at v_ceiling that still projects below guard asks for the fewest pace_steps that bring every
core to guard, up to pace_ceiling. An evaluation, or the opening of a window, that finds no such die any more withdraws a proposal that waits:
the rule says only that it is recomputed (DESIGN CHOICE). -/
def State.propose (s : State) : State :=
  let at_ := s.dies.filter (fun d => s.stepsLeft d = 0 && s.pace.raises.getD d 0 = 0 && s.shortfall d != 0)
  let short := (at_.map s.shortfall).foldl max 0
  let planned := s.get F.PACE_STATUS_planned_pace
  let ceil := s.get F.PACE_TABLE0_pace_ceiling
  let want := planned + s.get F.PACE_TABLE1_pace_step * stepsFor short (s.get F.PACE_TABLE1_pace_step)
  let new := min want ceil
  if at_.isEmpty then (s.set F.PACE_PLAN_STATUS_proposal_pending 0).set F.PACE_PLAN_STATUS_proposed_pace 0
  else
    let s := if want > ceil then
        -- pace_ceiling does not suffice: each core still below guard is written
        s.each s.plannedCores (fun s c => if s.projected c + ((ceil : Int) - planned : Int) < s.guard then s.slackLow c (s.slackOf c) else s)
      else s
    if new ≤ planned then (s.set F.PACE_PLAN_STATUS_proposal_pending 0).set F.PACE_PLAN_STATUS_proposed_pace 0
    else if s.on F.PACE_PLAN_STATUS_proposal_pending && s.get F.PACE_PLAN_STATUS_proposed_pace == new then s
    else
      let s := (s.set F.PACE_PLAN_STATUS_proposal_pending 1).set F.PACE_PLAN_STATUS_proposed_pace new
      s.raise Code.PACE_PROPOSED [new, at_.headD 0]

/-- The planner runs in AGE and LIVE+AGE upkeep (R106). -/
def State.ageing (s : State) : Bool :=
  s.get F.PACE_STATUS_upkeep_mode == upkeepAGE || s.get F.PACE_STATUS_upkeep_mode == upkeepBOTH

/-- One evaluation of the planner: trends, raises, proposal (R106, R107). Before the first measurement of a module without a baseline it
keeps the default pace table (Table BOOT-4). -/
def State.plan (s : State) : State :=
  let s := s.each s.liveCores (fun s c => s.set (F.PACE_SLACK_trend c) (s.trendOf c))
  if !s.ageing || s.keep.baseline.isNone then s else (s.each s.dies State.planRaises).propose

/-- PLAN_EVALUATION: hourly and at every start (R106). -/
def execPlanEvaluation (s : State) : Host.Outcome State Fault Refusal := s.run State.plan

/-! ### The planned window (R107, R113) -/

/-- Offsets of PACE_PLAN_CTRL and PACE_HUBFW_CTRL in their block. -/
def planCtrlAt : Nat := 0xC
def hubfwCtrlAt : Nat := 0x700

/-- A PACE command of port `i`: only OWNER and SERVICE ports (R113). -/
def State.paceCmd (s : State) (i : Port) (off : Nat) (f : State → State) : State :=
  if s.privileged i then f s else s.raise Code.PACE_ROLE [i, off]

/-- OPEN_WINDOW of `minutes`: the proposal is recomputed, and lands at the first boundary of the window (R107). -/
def execOpenWindow (i : Port) (minutes : BitVec 11) (s : State) : Host.Outcome State Fault Refusal :=
  s.run (fun s =>
    let m := minutes.toNat
    let s := if s.privileged i then s else s.set F.PACE_PLAN_STATUS_refusal 1
    s.paceCmd i planCtrlAt (fun s =>
      if !s.ageing then s.set F.PACE_PLAN_STATUS_refusal 2
      else if m = 0 || m > 1440 then s.set F.PACE_PLAN_STATUS_refusal 3
      else
        let s := (s.set F.PACE_STATUS_window_open 1).set F.PACE_PLAN_STATUS_minutes_left m
        let s := { s with pace := { s.pace with windowPort := i, windowFresh := true, windowAt := s.clk.now } }
        (s.raise Code.PLAN_WINDOW [i, 0, m]).propose))

/-- What is left in samples of `n` units of `unit` samples that began at sample `at_`, in whole units, a part of one counting as one. -/
def unitsLeft (n unit at_ now : Nat) : Nat := (n * unit - (now - at_) + unit - 1) / unit

/-- PACE_PLAN_STATUS.minutes_left: minutes left in the open window, and PACE_HUBFW_STATUS.standby_s: seconds left of the standby
(R112, R113). The register holds the length. -/
def State.minutesLeft (s : State) : Nat :=
  unitsLeft (s.get F.PACE_PLAN_STATUS_minutes_left) (60 * samplesPerS) s.pace.windowAt s.clk.now
def State.standbyLeft (s : State) : Nat := unitsLeft (s.get F.PACE_HUBFW_STATUS_standby_s) samplesPerS s.pace.standbyAt s.clk.now

/-- The open window ends. -/
def State.closeWindow (s : State) (port : Nat) : State :=
  if !s.on F.PACE_STATUS_window_open then s
  else
    let m := s.minutesLeft
    let s := (s.set F.PACE_STATUS_window_open 0).set F.PACE_PLAN_STATUS_minutes_left 0
    { s with pace := { s.pace with windowFresh := false } }.raise Code.PLAN_WINDOW [port, 1, m]

/-- CLOSE_WINDOW (R107). -/
def execCloseWindow (i : Port) (s : State) : Host.Outcome State Fault Refusal :=
  s.run (fun s =>
    let s := if s.privileged i then s else s.set F.PACE_PLAN_STATUS_refusal 1
    s.paceCmd i planCtrlAt (fun s => s.closeWindow i))

/-- PLAN_WINDOW_EXPIRED: the minutes have run out (R107). -/
def execPlanWindowExpired (s : State) : Host.Outcome State Fault Refusal :=
  s.run (fun s => (s.set F.PACE_PLAN_STATUS_minutes_left 0).closeWindow s.pace.windowPort)

/-! ### Hub firmware (R111, R112) -/

/-- PACE_HUBFW_STATUS.state numbers. -/
def hfIDLE : Nat := 0
def hfLOADING : Nat := 1
def hfVERIFIED : Nat := 2
def hfFAILED : Nat := 3
def hfHANDED : Nat := 4
def hfSTANDBY : Nat := 5

def State.hubfw (s : State) : Nat := s.get F.PACE_HUBFW_STATUS_state

/-- Some upkeep mode is set: in the factory structure no upkeep action is possible. -/
def State.anyUpkeep (s : State) : Bool := s.get F.PACE_STATUS_upkeep_mode != 0

/-- HUBFW_LOAD: reading and verifying a firmware image begins (R111). -/
def execHubfwLoad (i : Port) (s : State) : Host.Outcome State Fault Refusal :=
  s.run (fun s => s.paceCmd i hubfwCtrlAt (fun s =>
    if s.anyUpkeep && (s.hubfw == hfIDLE || s.hubfw == hfVERIFIED || s.hubfw == hfFAILED) then s.set F.PACE_HUBFW_STATUS_state hfLOADING
    else s))

/-- HUBFW_VERIFIED: `ok` says that the image verifies as in R75 (R111). -/
def execHubfwVerified (ok : Bool) (digest : BitVec 512) (s : State) : Host.Outcome State Fault Refusal :=
  s.run (fun s =>
    if s.hubfw != hfLOADING then s
    else
      let n := s.inactiveSlot
      let s := s.storeFirmware n { ok := ok, digest := digest }
      if ok then s.set F.PACE_HUBFW_STATUS_state hfVERIFIED
      else (s.set F.PACE_HUBFW_STATUS_state hfFAILED).raise Code.HANDOVER_FAILED [n, 0])

/-- HANDOVER: only in LIVE or LIVE+AGE upkeep (R111). The spec names the values of PACE_HUBFW_STATUS.state and not when each shows:
HANDED_OVER shows from this command on, STANDBY_HELD from the boundary of the switch (DESIGN CHOICE). -/
def execHandover (i : Port) (s : State) : Host.Outcome State Fault Refusal :=
  s.run (fun s => s.paceCmd i hubfwCtrlAt (fun s =>
    if s.liveUpkeep && s.hubfw == hfVERIFIED then s.set F.PACE_HUBFW_STATUS_state hfHANDED else s))

/-- HANDOVER_DONE: the duties pass to the new firmware, and the old one stays for 600 s (R111, R112); the state shows STANDBY_HELD from
here on (DESIGN CHOICE, as for HANDOVER). -/
def execHandoverDone (s : State) : Host.Outcome State Fault Refusal :=
  s.run (fun s =>
    if s.hubfw != hfHANDED then s
    else
      let n := s.inactiveSlot
      let s := ((s.set F.PACE_HUBFW_STATUS_active_slot n).set F.PACE_HUBFW_STATUS_trial 1).set F.PACE_HUBFW_STATUS_standby_s 600
      let s := (s.set F.PACE_HUBFW_STATUS_state hfSTANDBY).set F.KEEP_STATUS_fw_slot n
      let s := { s with boot := { s.boot with fwDigest := ((tfind s.flash.fw n).map (fun (f : Firmware) => f.digest)).getD 0 }
                        pace := { s.pace with standbyAt := s.clk.now } }
      s.raise Code.HANDOVER_DONE [n, s.period])

/-- CONFIRM: the TRIAL mark is cleared, and the standby firmware released (R111, R112). -/
def execConfirm (i : Port) (s : State) : Host.Outcome State Fault Refusal :=
  s.run (fun s => s.paceCmd i hubfwCtrlAt (fun s =>
    if !s.on F.PACE_HUBFW_STATUS_trial then s
    else
      let s := s.keepWrite recBOOT (fun k => { k with fwTrial := false, fwTries := 0 })
      let s := (s.set F.PACE_HUBFW_STATUS_trial 0).set F.PACE_HUBFW_STATUS_standby_s 0
      if s.hubfw == hfSTANDBY then s.set F.PACE_HUBFW_STATUS_state hfIDLE else s))

/-- HUBFW_ABORT: a load or a handover is abandoned; the boot record names the running slot again (R111). -/
def execHubfwAbort (i : Port) (s : State) : Host.Outcome State Fault Refusal :=
  s.run (fun s => s.paceCmd i hubfwCtrlAt (fun s =>
    let back := fun (s : State) => s.keepWrite recBOOT (fun k =>
      { k with fwSlot := s.get F.PACE_HUBFW_STATUS_active_slot, fwTrial := s.on F.PACE_HUBFW_STATUS_trial, fwTries := 0 })
    if s.hubfw == hfLOADING then s.set F.PACE_HUBFW_STATUS_state hfIDLE
    else if s.hubfw == hfVERIFIED then (back s).set F.PACE_HUBFW_STATUS_state hfIDLE
    else if s.hubfw == hfHANDED then
      ((back s).set F.PACE_HUBFW_STATUS_state hfIDLE).raise Code.HANDOVER_FAILED [s.inactiveSlot, 2]
    else s))

/-- STANDBY_EXPIRED: 600 s without CONFIRM; the old firmware is no longer held and the slot stays TRIAL (R112). -/
def execStandbyExpired (s : State) : Host.Outcome State Fault Refusal :=
  s.run (fun s =>
    if s.hubfw == hfSTANDBY then (s.set F.PACE_HUBFW_STATUS_state hfIDLE).set F.PACE_HUBFW_STATUS_standby_s 0 else s)

/-- HANDOVER_FAILED: the new firmware's watchdog expires, and the old firmware resumes at the boundary (R112). -/
def execHandoverFailed (s : State) : Host.Outcome State Fault Refusal :=
  s.run (fun s =>
    if s.hubfw != hfSTANDBY then s
    else
      let bad := s.get F.PACE_HUBFW_STATUS_active_slot
      let n := 1 - bad
      let s := ((s.set F.PACE_HUBFW_STATUS_active_slot n).set F.PACE_HUBFW_STATUS_trial 0).set F.PACE_HUBFW_STATUS_standby_s 0
      let s := (s.set F.PACE_HUBFW_STATUS_state hfIDLE).set F.KEEP_STATUS_fw_slot n
      let s := { s with boot := { s.boot with fwDigest := ((tfind s.flash.fw n).map (fun (f : Firmware) => f.digest)).getD 0 } }
      s.raise Code.HANDOVER_FAILED [bad, 1])

/-- METRONOME_UNLOCKED: the metronome loses or regains its lock (R114). -/
def execMetronomeUnlocked (locked : Bool) (cause : BitVec 32) (s : State) : Host.Outcome State Fault Refusal :=
  s.run (fun s =>
    if s.on F.PACE_STATUS_metronome_lock == locked then s
    else (s.setB F.PACE_STATUS_metronome_lock locked).raise Code.METRONOME_UNLOCKED [cause.toNat])

/-! ### What lands at a period boundary (R98, R106, R107, R108) -/

/-- One v_step of each die's planned raise lands (R106). -/
def State.landVoltage (s : State) : State :=
  s.each s.dies (fun s d =>
    let k := s.pace.raises.getD d 0
    if k = 0 then s
    else
      let v := min (s.get (F.PACE_DIE_voltage d) + s.get F.PACE_TABLE1_v_step) (s.get F.PACE_TABLE1_v_ceiling)
      let s := { s with pace := { s.pace with raises := s.pace.raises.set d (k - 1) } }
      let s := (s.set (F.PACE_DIE_voltage d) v).setB (F.PACE_DIE_at_ceiling d) (v == s.get F.PACE_TABLE1_v_ceiling)
      s.raise Code.VOLTAGE_RAISED [d, v])

/-- The planned pace exceeds rated_pace (R108). -/
def State.showReduced (s : State) : State :=
  let r := s.get F.PACE_TABLE0_rated_pace
  let p := s.get F.PACE_STATUS_planned_pace
  if p > r then ((s.set F.PACE_STATUS_reduced_rating 1).raise Code.REDUCED_RATING [r, p]).fireAll 3
  else s.set F.PACE_STATUS_reduced_rating 0

/-- The causes of PACE_CHANGED in the order of Table PACE-8. -/
def pcPLAN : Nat := 0
def pcDERATE : Nat := 1
def pcRESTORE : Nat := 2

/-- The pace in force: the longer of the planned pace and the derating request (R98). -/
def State.paceNow (s : State) : Nat := max (s.get F.PACE_STATUS_planned_pace) s.board.derateReq

/-- The derating request becomes `r`, 0 withdrawing it: each change of it writes PACE_CHANGED, with the pace in force before and after
(R41). -/
def State.setDerate (s : State) (r : Nat) : State :=
  let old := s.paceNow
  let s1 := { s with board := { s.board with derateReq := r } }
  let s1 := if r = 0 then (s1.set F.PACE_STATUS_derated 0).set F.CAP_BOARD_STATUS_derated 0 else s1
  (s1.set F.PACE_STATUS_pace s1.paceNow).raise Code.PACE_CHANGED [old, s1.paceNow, if s.board.derateReq < r then pcDERATE else pcRESTORE]

/-- The change of the derating request that waits lands (R41): growth only while the condition holds, the first request of all in any
case; a shortening only while it does not; one that would reach the planned pace withdraws the request. -/
def State.landDerate (s : State) : State :=
  match s.board.derateNew with
  | none => s
  | some r =>
    let q := s.board.derateReq
    let s := { s with board := { s.board with derateNew := none } }
    if r = q then s
    else if q < r then (if q = 0 || s.board.derateHolds then s.setDerate r else s)
    else if s.board.derateHolds then s
    else s.setDerate (if r ≤ s.get F.PACE_STATUS_planned_pace then 0 else r)

/-- The pace that lands at a boundary, where every core's slip returns to 0 (R102): a proposal in the first boundary of a window (R107), and the derating request (R41, R98). The solo
baselines are cleared where the pace in force changes (R242); the build that follows re-evaluates fit (R237). -/
def State.landPace (s : State) : State :=
  let old := s.get F.PACE_STATUS_pace
  let plans := s.pace.windowFresh && s.on F.PACE_STATUS_window_open && s.on F.PACE_PLAN_STATUS_proposal_pending
  let s := if plans then
      let p := s.get F.PACE_PLAN_STATUS_proposed_pace
      let s := (s.set F.PACE_STATUS_planned_pace p).set F.PACE_PLAN_STATUS_proposal_pending 0
      (s.set F.PACE_PLAN_STATUS_proposed_pace 0).showReduced
    else s
  let s := { s with pace := { s.pace with windowFresh := false, slips := [] } }
  let now := s.paceNow
  let s := if now = old then s else (s.set F.PACE_STATUS_pace now).raise Code.PACE_CHANGED [old, now, pcPLAN]
  let s := s.landDerate
  if s.get F.PACE_STATUS_pace = old then s else s.each s.route.jobs (fun s e => s.clearBaseline e.1)

end Sys2Proof.Machine
end

