-- ==== Sys2Proof/Machine/Scrub.lean ====
section
/-! DEFINITION. Scrubbing (R392 to R396), the vote of the triplicated words (R397), and the commands of the INTEG block (R389,
R409, R413). -/

namespace Sys2Proof.Machine

/-! ### Scrubbing -/

/-- The address of line `line` of a memory kind. -/
def lineAddr (kind line : Nat) : Nat :=
  (if kind = memCORE then 0 else if kind = memSTRIPE then stripeBase 0 else if kind = memLINES then lineStoreBase else hbmBase) +
    64 * line

/-- The number of lines that the scrubber reads of a kind. -/
def State.kindLines (s : State) (kind : Nat) : Nat :=
  if kind = memCORE then s.coreCount * 131072 else if kind = memSTRIPE then s.clusters * 524288
  else if kind = memLINES then 1048576 else s.hbmPages * 1024

/-- A scrubbed SRAM line, with the error that its read meets (R395): a correctable line waits for its write-back; an
uncorrectable one is counted and left. -/
def State.scrubSram (s : State) (a : Nat) (found : Option BadLine) : State :=
  let l := a / 64
  match (match found with | some b => some b | none => tfind s.integ.bad l) with
  | none => s
  | some b =>
    if sound a b then
      let s := s.putBytes a b.raw
      { s with integ := { s.integ with bad := tdel s.integ.bad l } }
    else
      let s := { s with integ := { s.integ with bad := tput s.integ.bad l b } }
      match corrected a b with
      | some bs =>
        let s := (s.putBytes a bs).noteCorrected a b
        { s with integ := { s.integ with writeBack := s.integ.writeBack.filter (fun x => x != l) ++ [l] } }
      | none => (s.putBytes a b.raw).noteUncorrected a b

/-- Poison an HBM line; with the list full its page is retired at once (R392 to R394). -/
def State.poisonLine (s : State) (l : Nat) : State :=
  if s.integ.poison.contains l then s
  else
    let s := s.inc (F.INTEG_ERR_UNCORR_count memHBM)
    if s.integ.poison.length ≥ 4096 then
      ((s.set F.INTEG_STATUS_poison_full 1).raise Code.POISON_FULL [l / 1024]).retirePage (l / 1024)
    else
      let s := { s with integ := { s.integ with poison := s.integ.poison ++ [l] } }
      s.set F.INTEG_HBM_poisoned s.integ.poison.length

/-- A scrubbed HBM line: 0 good, 1 corrected by the device, 2 good when read again, 3 bad twice, 4 uncorrectable. -/
def State.scrubHbm (s : State) (l how : Nat) : State :=
  let reread := fun (s : State) => (s.inc (F.INTEG_ERR_RETRY_refetches memHBM)).raise Code.HBM_LINE_REREAD [l / 1024, l % 1024]
  if s.integ.poison.contains l then s
  else match how with
    | 0 => s
    | 1 => s.inc (F.INTEG_ERR_CORR_count memHBM)
    | 2 => reread s
    | 3 => (reread s).poisonLine l
    | _ => s.poisonLine l

/-- The lap of a kind ends with its last line; a lap beyond INTEG_SCRUB_LIMIT is written once (R396). -/
def State.lapStep (s : State) (kind line : Nat) : State :=
  let (start, noted) := s.integ.lapStart.getD kind (0, false)
  let t := s.clk.now - start
  let slow := !noted && t > s.get F.INTEG_SCRUB_LIMIT_s * samplesPerS
  let s := if slow then s.raise Code.SCRUB_LAP_SLOW [kind, t / samplesPerS] else s
  let ends := line + 1 ≥ s.kindLines kind
  let s := if ends then
      (s.set (F.INTEG_SCRUB_LAP_ms kind) (min (t / samplesPerMs) (2 ^ 32 - 1))).inc (F.INTEG_SCRUB_LAPS_count kind)
    else s
  let x := if ends then (s.clk.now, false) else (start, noted || slow)
  { s with integ := { s.integ with lapStart := s.integ.lapStart.set kind x } }

/-- SCRUB_READ: the scrubber reads line `line` of a memory kind, and meets the error that `found` gives for an SRAM line and
`hbm` for an HBM line. -/
def execScrubRead (kind : Fin 4) (line : BitVec 32) (found : Option BadLine) (hbm : Fin 5) (s : State) :
    Host.Outcome State Fault Refusal :=
  s.run (fun s =>
    let l := line.toNat
    if s.kindLines kind ≤ l then s
    -- the SRAM of a failed core is never read again (R124)
    else if kind.val = memCORE && s.coreRole (l / 131072) == coreFAILED then s.lapStep kind l
    else
      let s := if kind.val = memHBM then s.scrubHbm l hbm else s.scrubSram (lineAddr kind l) found
      s.lapStep kind l)

/-- SCRUB_WRITE_BACK: the corrected line is written back in the next idle tick of its bank, unless the bank was accessed since
(R395). -/
def execScrubWriteBack (kind : Fin 3) (line : BitVec 32) (accessed : Bool) (s : State) : Host.Outcome State Fault Refusal :=
  s.run (fun s =>
    let l := lineAddr kind line.toNat / 64
    if !s.integ.writeBack.contains l then s
    else
      let s := { s with integ := { s.integ with writeBack := s.integ.writeBack.filter (fun x => x != l) } }
      if accessed then s else { s with integ := { s.integ with bad := tdel s.integ.bad l } })

/-! ### Triplicated words (R397) -/

/-- Write a triplicated word: all three copies, and the voted value. -/
def State.tripWrite (s : State) (w v : Nat) : State :=
  (s.each [0, 1, 2] (fun s k => s.set (F.INTEG_TRIP_COPY_word k w) v)).set (F.INTEG_TRIP_value w) v

/-- The bitwise majority of three words. -/
def majority (a b c : Nat) : Nat := (a &&& b) ||| (a &&& c) ||| (b &&& c)

/-- The vote over word `w`. -/
def State.voteWord (s : State) (w : Nat) : State :=
  let c := fun k => s.get (F.INTEG_TRIP_COPY_word k w)
  if c 0 == c 1 && c 1 == c 2 then s
  else
    let v := majority (c 0) (c 1) (c 2)
    let odd := if c 1 == c 2 then some 0 else if c 0 == c 2 then some 1 else if c 0 == c 1 then some 2 else none
    match odd with
    | some k =>
      ((s.set (F.INTEG_TRIP_COPY_word k w) v).set (F.INTEG_TRIP_value w) v).inc F.INTEG_TRIP_STATUS_repaired
        |>.raise Code.TRIPLE_REPAIRED [w, k]
    | none =>
      if s.integ.tripFix.contains w then s
      else
        let s := if 48 ≤ w && w < 192 then s.enterSafe Code.TEST_FAILED (sourceUnit 0x12 255) else s
        let s := ((s.set (F.INTEG_TRIP_value w) v).inc F.INTEG_TRIP_STATUS_disagree).raise Code.TRIPLE_DISAGREE [w]
        { s with integ := { s.integ with tripFix := s.integ.tripFix ++ [w] } }

/-- TRIPLE_VOTE: the module reads all 256 words; `upsets` are the copies (copy, word, value) that changed of themselves. -/
def execTripleVote (upsets : List (Fin 3 × Fin 256 × Word)) (s : State) : Host.Outcome State Fault Refusal :=
  s.run (fun s =>
    let s := s.each upsets (fun s u => s.set (F.INTEG_TRIP_COPY_word u.1 u.2.1) u.2.2.toNat)
    s.each (upTo 256) State.voteWord)

/-- At a boundary the hub controller rewrites the words without a majority from the state they mirror, whose layout the spec
does not give: their values are free. -/
def State.fixTriples (s : State) : State :=
  let l := s.integ.tripFix
  let s := s.each l (fun s w =>
    let (v, s) := s.draw
    s.tripWrite w (v % 2 ^ 32))
  { s with integ := { s.integ with tripFix := [] } }

/-! ### Commands of the INTEG block -/

/-- Refusal reasons of INTEG_CMD_STATUS. -/
def irROLE : Nat := 1
def irBUSY : Nat := 2
def irNOCALLTRACE : Nat := 3

/-- The command status of INTEG for port `i`. -/
def State.integStatus (s : State) (i : Port) (code reason : Nat) : State :=
  (s.set (F.INTEG_CMD_STATUS_code i) code).set (F.INTEG_CMD_STATUS_reason i) reason

/-- An INTEG command of port `i` (R413). -/
def State.integCmd (s : State) (i : Port) (f : State → State) : State :=
  if s.privileged i then f s else (s.raise Code.INTEG_ROLE [i, 4]).integStatus i Code.INTEG_ROLE irROLE

/-- TRACE_SET: trace at a level, for the partitions of a mask (R409). -/
def execTraceSet (i : Port) (level : BitVec 2) (parts : BitVec 8) (s : State) : Host.Outcome State Fault Refusal :=
  s.run (fun s => s.integCmd i (fun s =>
    let lv := level.toNat
    let noCall := (upTo 8).any (fun p => parts.toNat.testBit p && (match tfind s.cfg.programs p with
      | some g => !g.callTrace
      | none => false))
    if lv = 3 then
      (s.raise Code.INTEG_BAD_COMMAND [i, 1 + 16 * lv + 256 * parts.toNat]).integStatus i Code.INTEG_BAD_COMMAND 0
    else if s.get F.INTEG_STATUS_trace_level != 0 && s.get F.INTEG_STATUS_trace_port != i.val then
      s.integStatus i Code.INTEG_BAD_COMMAND irBUSY
    else if lv = 2 && noCall then s.integStatus i Code.INTEG_BAD_COMMAND irNOCALLTRACE
    else
      let s := (s.set F.INTEG_STATUS_trace_level lv).set F.INTEG_STATUS_trace_port i
      ({ s with integ := { s.integ with traceParts := parts.toNat } }).integStatus i 0 0))

/-- CAPTURE_CLEAR: the capture registers may take the next bad line (R389). -/
def execCaptureClear (i : Port) (s : State) : Host.Outcome State Fault Refusal :=
  s.run (fun s => s.integCmd i (fun s => (s.set F.INTEG_CAP_LOC_valid 0).integStatus i 0 0))

end Sys2Proof.Machine
end

