-- ==== Sys2Proof/Machine/Time.lean ====
section
/-! DEFINITION. Time (R325 to R338, R343): PTP messages, the best master clock and the servo, SLEW and STEP, START_AT, and the
launch queues of the TIME ports.  The parts of IEEE 1588-2019 that R328 cites and does not state are PRESUMED from it. -/

namespace Sys2Proof.Machine

/-! ### Servo states and ports -/

/-- Codes of TIME_STATUS.state. -/
def tsINVALID : Nat := 0
def tsLOCKED : Nat := 1
def tsHOLDOVER : Nat := 2
def tsACQUIRING : Nat := 3

/-- Time is VALID (R326). -/
def State.timeValid (s : State) : Bool := s.on F.TIME_STATUS_valid

/-- PTP message types of IEEE 1588. -/
def ptpSYNC : Nat := 0
def ptpDELAYREQ : Nat := 1
def ptpPDELAYREQ : Nat := 2
def ptpPDELAYRESP : Nat := 3
def ptpFOLLOWUP : Nat := 8
def ptpDELAYRESP : Nat := 9
def ptpPDELAYRESPFU : Nat := 10
def ptpANNOUNCE : Nat := 11

/-- The module's port identity on a TIME port. -/
def portIdentity (tp : Nat) : Nat := Config.clockIdentity.toNat * 65536 + (tp + 1)

/-- The transparent-clock mode: 0 OFF, 1 E2E, 2 P2P (R328). -/
def State.tcMode (s : State) : Nat := s.cfg.structureSec.tcMode

/-- The delay mechanism is peer-to-peer. -/
def State.peerDelay (s : State) : Bool := s.cfg.structureSec.p2p || s.tcMode == 2

/-- The ordinary clock may become master: master-capable, and not in a transparent-clock mode (R328). -/
def State.masterCapable (s : State) : Bool := s.cfg.structureSec.masterCapable && s.tcMode == 0

/-- The TIME port by which something leaves. -/
def FrameOut.port (f : FrameOut) : Nat :=
  match f with
  | .ptp tp _ _ => tp
  | .frame tp _ => tp

/-- Something leaves a TIME port whose transmit island is enabled (R93). -/
def State.timeOut (s : State) (f : FrameOut) : State :=
  if s.island (109 + 2 * f.port) then { s with time := { s.time with out := s.time.out ++ [f] } } else s

/-- Servo state and rate. -/
def State.setServo (s : State) (st : Nat) : State := s.set F.TIME_STATUS_state st
def State.setRate (s : State) (ppb : Int) : State := s.set F.TIME_FREQ_ppb (ofSigned 32 ppb)

/-! ### Messages in (Table TIME-2) -/

/-- A PTP violation: counted, written, answered with nothing. -/
def State.ptpViolation (s : State) (tp cause kind : Nat) : State :=
  (s.inc (F.TIME_PTP_CNT_violations tp)).raise Code.PTP_VIOLATION [tp, cause, kind]

/-- Count a message of a source on a port in the present second; answers how many that makes. -/
def State.countMessage (s : State) (tp source : Nat) : Nat × State :=
  let sec := s.clk.now / samplesPerS
  let old := s.time.msgCount.filter (fun e => e.2.2.1 == sec)
  let n := ((old.find? (fun e => e.1 == tp && e.2.1 == source)).map (fun e => e.2.2.2)).getD 0 + 1
  let rest := old.filter (fun e => !(e.1 == tp && e.2.1 == source))
  (n, { s with time := { s.time with msgCount := (tp, source, sec, n) :: rest } })

/-- A PTP message of a type arrives on a TIME port, whose receive island is enabled (R93): `f` takes it where Table TIME-2 does not
discard it. -/
def State.ptpIn (s : State) (tp : Fin 2) (kind : Nat) (m : Ptp) (f : State → State) : State :=
  if !s.island (108 + 2 * tp.val) then s
  else if m.bridgeFull then s.bridgeFull (108 + 2 * tp.val) 0
  else
    let (n, s) := s.countMessage tp m.source
    if m.domain != s.cfg.structureSec.domain || m.version != 2 || m.length < m.claimed then s.ptpViolation tp 0 kind
    else if n > 1024 then s.ptpViolation tp 4 kind
    else f s

/-- In a transparent-clock mode a message passes to the other TIME port (R329): an event message with its residence time, the egress
stamp minus the ingress stamp, which is free, and in P2P mode the ingress port's mean link delay. -/
def State.forward (s : State) (tp : Fin 2) (kind : Nat) (event : Bool) (m : Ptp) : State :=
  if s.tcMode = 0 then s
  else if !event then s.timeOut (.ptp (1 - tp.val) kind m)
  else
    let (v, s) := s.draw
    let r : Int := (65536 * v : Nat)
    let l : Int := if s.tcMode == 2 then 65536 * tget 0 s.time.linkDelay tp.val else 0
    s.timeOut (.ptp (1 - tp.val) kind { m with correction := m.correction + r + l })

/-! ### The best master clock (R328) -/

/-- The module's own clockClass: 248 while time is INVALID. -/
def State.ownClass (s : State) : Nat := if s.timeValid then Config.clockClassValid.toNat else 248

/-- The module's own data set. -/
def State.ownDataset (s : State) : List Nat :=
  [s.cfg.structureSec.priority1, s.ownClass, Config.clockAccuracy.toNat,
    Config.clockVariance.toNat, s.cfg.structureSec.priority2, Config.clockIdentity.toNat, 0]

/-- The first list is better: lower at the first place where they differ. -/
def better : List Nat → List Nat → Bool
  | [], _ => false
  | _, [] => false
  | a :: l, b :: m => if a = b then better l m else a < b

/-- The announce interval in samples. -/
def State.announceSamples (s : State) : Nat := samplesPerS / 8 * 2 ^ (s.cfg.structureSec.logAnnounce + 3).toNat

/-- A foreign master qualifies while two of its Announces came within the last four announce intervals; the selected one stays until
MASTER_LOST. -/
def State.qualifies (s : State) (f : Foreign) : Bool :=
  s.time.master == some (f.source, f.port) ||
    2 ≤ (f.heard.filter (fun a => s.clk.now < a + 4 * s.announceSamples)).length

/-- The best foreign master among those that qualify. -/
def State.bestForeign (s : State) : Option Foreign :=
  (s.time.foreign.filter s.qualifies).foldl (fun b f => match b with
    | none => some f
    | some g => if better (f.dataset ++ [f.source]) (g.dataset ++ [g.source]) then some f else some g) none

/-- The servo has no master: HOLDOVER at the last locked rate while time is VALID, else INVALID at the nominal rate. -/
def State.noMaster (s : State) : State :=
  let s := { s with time := { s.time with master := none, measured := false, goodRun := 0, badRun := 0, slew := none
                                          syncLeg := none } }
  if s.timeValid then (s.setServo tsHOLDOVER).setRate s.time.lockedRate
  else
    -- the first offset of a lost master sets nothing any more
    let s := if s.time.step.any (fun e => e.1 == 255) then
        { s with time := { s.time with step := none } }.set F.TIME_STATUS_step_pending 0 else s
    (s.setServo tsINVALID).setRate 0

/-- Select a master, or become grandmaster. `timeout` says that the announce receipt timeout has passed. -/
def State.bmca (s : State) (timeout : Bool) : State :=
  match s.bestForeign with
  | some f =>
    if s.masterCapable && better s.ownDataset f.dataset then
      (if s.time.master.isSome then s.noMaster else s).set F.TIME_STATUS_grandmaster 1
    else if s.masterCapable && s.ownClass < 128 then
      -- a clock of class 1 to 127 takes no master: its ports are passive
      (if s.time.master.isSome then s.noMaster else s).set F.TIME_STATUS_grandmaster 0
    else if s.time.master == some (f.source, f.port) then s
    else
      let s := (if s.time.master.isSome then s.noMaster else s).set F.TIME_STATUS_grandmaster 0
      { s with time := { s.time with master := some (f.source, f.port), measured := false } }
  | none => if timeout && s.masterCapable then s.set F.TIME_STATUS_grandmaster 1 else s

/-- ANNOUNCE: an Announce enters the best master clock algorithm (R328). -/
def execAnnounce (tp : Fin 2) (m : Ptp) (s : State) : Host.Outcome State Fault Refusal :=
  s.run (fun s => s.ptpIn tp ptpANNOUNCE m (fun s =>
    if m.dataset.getD 6 0 ≥ 255 then s.ptpViolation tp 1 ptpANNOUNCE
    else if m.source / 65536 == Config.clockIdentity.toNat then s
    else
      let s := s.forward tp ptpANNOUNCE false m
      let heard := ((s.time.foreign.find? (fun f => f.source == m.source && f.port == tp.val)).map (fun f => f.heard)).getD []
      let rest := s.time.foreign.filter (fun f => !(f.source == m.source && f.port == tp.val))
      let f : Foreign := { source := m.source, port := tp.val, dataset := m.dataset, heard := s.clk.now :: heard.take 1 }
      ({ s with time := { s.time with foreign := rest ++ [f] } }).bmca false))

/-- MASTER_LOST: no Announce or Sync within the announce receipt timeout (R330). -/
def execMasterLost (s : State) : Host.Outcome State Fault Refusal :=
  s.run (fun s =>
    match s.time.master with
    | none => s.bmca true
    | some (src, port) =>
      let held := s.get F.TIME_STATUS_state == tsHOLDOVER
      let s := { s with time := { s.time with foreign := s.time.foreign.filter (fun f => !(f.source == src && f.port == port)) } }
      let s := s.noMaster
      let s := if s.timeValid && !held then s.raise Code.TIME_HOLDOVER [0] else s
      s.bmca true)

/-! ### The servo (R330 to R332) -/

/-- A rate correction of at most `limit` ppb either way, which the spec leaves to the servo. -/
def State.servoRate (s : State) (limit : Nat) : State :=
  let (v, s) := s.draw
  s.setRate ((v % (2 * limit + 1) : Nat) - (limit : Int))

/-- The slew limit in ppb. -/
def State.slewPpb (s : State) : Nat := s.get F.TIME_SLEW_ppm * 1000

/-- The still uncorrected part of an accepted SLEW of offset `off` that began at sample `at_`. -/
def State.slewRest (s : State) (off : Int) (at_ : Nat) : Int :=
  let done : Int := 5 * (s.clk.now - at_) * s.get F.TIME_SLEW_ppm / 1000000
  if off < 0 then -(max 0 (-off - done)) else max 0 (off - done)

/-- The jump threshold. -/
def State.jump (s : State) : Int := s.get F.TIME_JUMP_ns

/-- A refused offset (R331): counted, written; HOLDOVER at the last locked rate, and the slew limit from now on. -/
def State.refuseOffset (s : State) (tp : Nat) (off : Int) : State :=
  let held := s.get F.TIME_STATUS_state == tsHOLDOVER
  let s := (s.inc (F.TIME_PTP_CNT_jumps tp)).raise Code.TIME_JUMP_REFUSED [ofSigned 32 off, tp]
  let s := s.ptpViolation tp 3 ptpSYNC
  let s := { s with time := { s.time with goodRun := 0, badRun := 0, slew := none, slewing := true } }
  let s := (s.setServo tsHOLDOVER).setRate s.time.lockedRate
  if held then s else s.raise Code.TIME_HOLDOVER [1]

/-- An accepted offset (R330): the runs, the servo state and the rate that follow from it. -/
def State.acceptOffset (s : State) (tp : Nat) (off : Int) : State :=
  let good := off.natAbs < 100
  let t := s.time
  let s := { s with time := { t with goodRun := if good then min (t.goodRun + 1) 16 else 0
                                     badRun := if good then 0 else min (t.badRun + 1) 4 } }
  let st := s.get F.TIME_STATUS_state
  let s := if st == tsHOLDOVER || st == tsINVALID then s.setServo tsACQUIRING else s
  let s := if st == tsLOCKED && s.time.badRun ≥ 4 then s.setServo tsACQUIRING else s
  let s := if s.time.goodRun ≥ 16 && st != tsLOCKED then
      let s := (s.setServo tsLOCKED).set F.TIME_STATUS_valid 1
      ({ s with time := { s.time with slewing := false } }).raise Code.TIME_LOCKED [tp, ofSigned 32 off]
    else s
  match s.time.slew with
  | some (o, _) => s.setRate (if o > 0 then -(s.slewPpb : Int) else s.slewPpb)
  | none =>
    let s := s.servoRate (if s.time.slewing then s.slewPpb else 200000)
    if s.get F.TIME_STATUS_state == tsLOCKED then
      { s with time := { s.time with lockedRate := toSigned 32 (s.get F.TIME_FREQ_ppb) } }
    else s

/-- The servo measures an offset, local clock minus master, on a TIME port. -/
def State.measure (s : State) (tp : Nat) (off : Int) : State :=
  let first := !s.time.measured
  let s := ({ s with time := { s.time with offset := off, measured := true } }).set F.TIME_OFFSET_ns (ofSigned 32 off)
  if !s.timeValid then
    -- the first offset sets the clock at the next boundary, as a STEP of port 0xFF (R331)
    let s := if first && s.time.step.isNone then
        { s with time := { s.time with step := some (255, 0) } }.set F.TIME_STATUS_step_pending 1 else s
    s.acceptOffset tp off
  else
    match s.time.slew with
    | some (o, at_) =>
      if (off - s.slewRest o at_).natAbs > s.jump.natAbs then s.refuseOffset tp off
      else if off.natAbs ≤ s.jump.natAbs then ({ s with time := { s.time with slew := none } }).acceptOffset tp off
      else s.acceptOffset tp off
    | none => if off.natAbs > s.jump.natAbs then s.refuseOffset tp off else s.acceptOffset tp off

/-- The path delay from the master on a port, in ns. -/
def State.masterPath (s : State) (tp : Nat) : Int := if s.peerDelay then tget 0 s.time.linkDelay tp else s.time.pathDelay

/-- The servo takes a Sync that came at `t2`, was sent at `t1` and carries a correction, all in ns. -/
def State.servoSync (s : State) (tp : Nat) (t1 t2 corr : Int) : State :=
  let leg := t2 - t1 - corr
  ({ s with time := { s.time with syncLeg := some leg } }).measure tp (leg - s.masterPath tp)

/-- The timestamp of a message body in ns. -/
def ptpStamp (m : Ptp) : Int := (m.sec * 1000000000 + m.ns : Nat)

/-- The correction of a message in whole ns. -/
def ptpCorr (m : Ptp) : Int := m.correction / 65536

/-- SYNC: a Sync is received; a two-step one waits for its Follow_Up (R328, R330). -/
def execSync (tp : Fin 2) (m : Ptp) (s : State) : Host.Outcome State Fault Refusal :=
  s.run (fun s => s.ptpIn tp ptpSYNC m (fun s =>
    let s := s.forward tp ptpSYNC true m
    if m.twoStep then
      let rest := s.time.syncWait.filter (fun w => !(w.port == tp.val && w.source == m.source))
      { s with time := { s.time with
        syncWait := rest ++ [{ port := tp.val, source := m.source, seq := m.seq, at_ := s.localNs, corr := ptpCorr m }] } }
    else if s.time.master == some (m.source, tp.val) then s.servoSync tp (ptpStamp m) s.localNs (ptpCorr m)
    else s))

/-- FOLLOW_UP: the timestamp of an outstanding Sync; one that matches none is a violation (Table TIME-2). -/
def execFollowUp (tp : Fin 2) (m : Ptp) (s : State) : Host.Outcome State Fault Refusal :=
  s.run (fun s => s.ptpIn tp ptpFOLLOWUP m (fun s =>
    match s.time.syncWait.find? (fun w => w.port == tp.val && w.source == m.source && w.seq == m.seq) with
    | none => s.ptpViolation tp 2 ptpFOLLOWUP
    | some w =>
      let s := s.forward tp ptpFOLLOWUP false m
      let s := { s with time := { s.time with
        syncWait := s.time.syncWait.filter (fun v => !(v.port == w.port && v.source == w.source)) } }
      if s.time.master == some (m.source, tp.val) then s.servoSync tp (ptpStamp m) w.at_ (w.corr + (ptpCorr m)) else s))

/-! ### Delay measurement (R328, R329) -/

/-- The next sequence number of a message type on a port. -/
def State.nextSeq (s : State) (tp kind : Nat) : Nat × State :=
  let n := tget 0 s.time.seqNos (16 * tp + kind)
  (n, { s with time := { s.time with seqNos := tset 0 s.time.seqNos (16 * tp + kind) ((n + 1) % 65536) } })

/-- A message of the module's own on a port, its timestamp the local clock, with no log message interval (127). -/
def State.ownPtp (s : State) (tp seq length : Nat) : Ptp :=
  { version := 2, domain := s.cfg.structureSec.domain, claimed := length, length := length, source := portIdentity tp, seq := seq
    correction := 0, twoStep := false, sec := s.clk.sec, ns := s.clk.ns, target := 0, dataset := [], bridgeFull := false
    interval := 127 }

/-- DELAY_REQ: a master answers with the time of receipt; a transparent clock passes it on. -/
def execDelayReq (tp : Fin 2) (m : Ptp) (s : State) : Host.Outcome State Fault Refusal :=
  s.run (fun s => s.ptpIn tp ptpDELAYREQ m (fun s =>
    let s := s.forward tp ptpDELAYREQ true m
    if s.on F.TIME_STATUS_grandmaster && !s.peerDelay then
      s.timeOut (.ptp tp ptpDELAYRESP { s.ownPtp tp m.seq 54 with correction := m.correction, target := m.source, interval := Config.logDelayReq.toInt })
    else s))

/-- DELAY_RESP: the answer of the present master to an outstanding Delay_Req gives the path delay; one for this module that matches none is a
violation. -/
def execDelayResp (tp : Fin 2) (m : Ptp) (s : State) : Host.Outcome State Fault Refusal :=
  s.run (fun s => s.ptpIn tp ptpDELAYRESP m (fun s =>
    if m.target != portIdentity tp then s.forward tp ptpDELAYRESP false m
    else
      match s.time.delayReq.find? (fun e => e.1 == tp.val && e.2.1 == m.seq) with
      | none => s.ptpViolation tp 2 ptpDELAYRESP
      | some (_, _, t3) =>
        let s := { s with time := { s.time with delayReq := s.time.delayReq.filter (fun e => e.1 != tp.val) } }
        match (if s.time.master == some (m.source, tp.val) then s.time.syncLeg else none) with
        | some leg => { s with time := { s.time with pathDelay := (leg + ((ptpStamp m) - t3 - (ptpCorr m))) / 2 } }
        | none => s))

/-- DELAY_REQ_TRANSMIT: a slave sends a Delay_Req on the port of its master. -/
def execDelayReqTransmit (s : State) : Host.Outcome State Fault Refusal :=
  s.run (fun s =>
    match s.time.master with
    | none => s
    | some (_, tp) =>
      if s.peerDelay then s
      else
        let (n, s) := s.nextSeq tp ptpDELAYREQ
        let s := { s with time := { s.time with
          delayReq := s.time.delayReq.filter (fun (e : Nat × Nat × Int) => e.1 != tp) ++ [(tp, n, (s.localNs : Int))] } }
        s.timeOut (.ptp tp ptpDELAYREQ (s.ownPtp tp n 44)))

/-- PDELAY_REQ_TRANSMIT: a Pdelay_Req leaves a TIME port in P2P operation. -/
def execPdelayReqTransmit (tp : Fin 2) (s : State) : Host.Outcome State Fault Refusal :=
  s.run (fun s =>
    if !s.peerDelay then s
    else
      let (n, s) := s.nextSeq tp ptpPDELAYREQ
      let s := { s with time := { s.time with
        pdelayReq := s.time.pdelayReq.filter (fun (e : Nat × Nat × Int × Option Int) => e.1 != tp.val) ++ [(tp.val, n, (s.localNs : Int), none)] } }
      s.timeOut (.ptp tp ptpPDELAYREQ (s.ownPtp tp n 54)))

/-- PDELAY_REQ: in P2P operation it is answered with the time of receipt, and a follow-up with the time the answer left, which is
free; an E2E transparent clock passes it on. -/
def execPdelayReq (tp : Fin 2) (m : Ptp) (s : State) : Host.Outcome State Fault Refusal :=
  s.run (fun s => s.ptpIn tp ptpPDELAYREQ m (fun s =>
    if s.peerDelay then
      let r := { s.ownPtp tp m.seq 54 with target := m.source }
      let (v, s) := s.draw
      let t3 := s.localNs + v % 1000000000
      let s := s.timeOut (.ptp tp ptpPDELAYRESP { r with twoStep := true })
      s.timeOut (.ptp tp ptpPDELAYRESPFU
        { r with correction := m.correction, sec := t3 / 1000000000, ns := t3 % 1000000000 })
    else s.forward tp ptpPDELAYREQ true m))

/-- PDELAY_RESP: the answer to an outstanding Pdelay_Req; a one-step one gives the mean link delay of the port. -/
def execPdelayResp (tp : Fin 2) (m : Ptp) (s : State) : Host.Outcome State Fault Refusal :=
  s.run (fun s => s.ptpIn tp ptpPDELAYRESP m (fun s =>
    if m.target != portIdentity tp then (if s.peerDelay then s else s.forward tp ptpPDELAYRESP true m)
    else
      match s.time.pdelayReq.find? (fun e => e.1 == tp.val && e.2.1 == m.seq) with
      | none => s
      | some (_, _, t1, _) =>
        let rest := s.time.pdelayReq.filter (fun e => e.1 != tp.val)
        let t4 : Int := s.localNs
        if m.twoStep then
          { s with time := { s.time with pdelayReq := rest ++ [(tp.val, m.seq, t1, some ((ptpStamp m) - t1 + t4 - (ptpCorr m)))] } }
        else
          { s with time := { s.time with pdelayReq := rest, linkDelay := tput s.time.linkDelay tp ((t4 - t1 - (ptpCorr m)) / 2) } }))

/-- PDELAY_RESP_FOLLOW_UP: it completes a two-step exchange. -/
def execPdelayRespFollowUp (tp : Fin 2) (m : Ptp) (s : State) : Host.Outcome State Fault Refusal :=
  s.run (fun s => s.ptpIn tp ptpPDELAYRESPFU m (fun s =>
    if m.target != portIdentity tp then (if s.peerDelay then s else s.forward tp ptpPDELAYRESPFU false m)
    else
      match s.time.pdelayReq.find? (fun e => e.1 == tp.val && e.2.1 == m.seq) with
      | some (_, _, _, some v) =>
        { s with time := { s.time with
          pdelayReq := s.time.pdelayReq.filter (fun e => e.1 != tp.val)
          linkDelay := tput s.time.linkDelay tp ((v - (ptpStamp m) - (ptpCorr m)) / 2) } }
      | _ => s))

/-- SYNC_TRANSMIT: the grandmaster sends a Sync with its egress time on a port. -/
def execSyncTransmit (tp : Fin 2) (s : State) : Host.Outcome State Fault Refusal :=
  s.run (fun s =>
    if !s.on F.TIME_STATUS_grandmaster || !s.timeLinked tp then s
    else
      let (n, s) := s.nextSeq tp ptpSYNC
      s.timeOut (.ptp tp ptpSYNC { s.ownPtp tp n 44 with interval := s.cfg.structureSec.logSync }))

/-- ANNOUNCE_TRANSMIT: the grandmaster announces its data set on a port. -/
def execAnnounceTransmit (tp : Fin 2) (s : State) : Host.Outcome State Fault Refusal :=
  s.run (fun s =>
    if !s.on F.TIME_STATUS_grandmaster || !s.timeLinked tp then s
    else
      let (n, s) := s.nextSeq tp ptpANNOUNCE
      s.timeOut (.ptp tp ptpANNOUNCE { s.ownPtp tp n 64 with dataset := s.ownDataset, interval := s.cfg.structureSec.logAnnounce }))

/-- NON_PTP_FRAME: a received frame that is no PTP message is discarded and counted (R338). -/
def execNonPtpFrame (tp : Fin 2) (s : State) : Host.Outcome State Fault Refusal :=
  s.run (fun s =>
    if s.island (108 + 2 * tp.val) then { s with time := { s.time with nonPtp := tset 0 s.time.nonPtp tp (tget 0 s.time.nonPtp tp + 1) } }
    else s)

/-! ### Commands of the TIME block (R332, R335, Table TIME-5) -/

/-- Command values and refusal reasons of Table TIME-5. -/
def tcSTEP : Nat := 1
def tcSLEW : Nat := 2
def tcSTARTAT : Nat := 3
def tcSTARTCANCEL : Nat := 4
def trROLE : Nat := 1
def trPAST : Nat := 2
def trINVALIDTIME : Nat := 3
def trNOMASTER : Nat := 4
def trBADCOMMAND : Nat := 5
def trBADVALUE : Nat := 6

/-- The command status of TIME for port `i`. -/
def State.timeStatus (s : State) (i : Port) (code reason : Nat) : State :=
  (s.set (F.TIME_CMD_STATUS_code i) code).set (F.TIME_CMD_STATUS_reason i) reason

/-- A refused TIME command. -/
def State.timeRefuse (s : State) (i : Port) (cmd reason : Nat) : State :=
  (s.raise Code.TIME_REFUSED [i, cmd, reason]).timeStatus i Code.TIME_REFUSED reason

/-- TIME_SET of port `i` in ns. -/
def State.timeSet (s : State) (i : Port) : Nat :=
  (s.get (F.TIME_SET_SEC_LO_s i) + 2 ^ 32 * s.get (F.TIME_SET_SEC_HI_s i)) * 1000000000 + s.get (F.TIME_SET_NS_ns i)

/-- A master is present (R332). -/
def State.masterPresent (s : State) : Bool := s.time.master.isSome && s.time.measured

/-- STEP: a privileged port sets the clock at the next boundary (R332); the value of TIME_SET is taken now. -/
def execStep (i : Port) (s : State) : Host.Outcome State Fault Refusal :=
  s.run (fun s =>
    if !s.privileged i then s.timeRefuse i tcSTEP trROLE
    else
      let s := { s with time := { s.time with step := some (i.val, s.timeSet i) } }
      (s.set F.TIME_STATUS_step_pending 1).timeStatus i 0 0)

/-- SLEW: a privileged port accepts the present master offset, which is corrected at the slew limit (R332). -/
def execSlew (i : Port) (s : State) : Host.Outcome State Fault Refusal :=
  s.run (fun s =>
    if !s.privileged i then s.timeRefuse i tcSLEW trROLE
    else if !s.masterPresent then s.timeRefuse i tcSLEW trNOMASTER
    else
      let o := s.time.offset
      let s := { s with time := { s.time with slew := some (o, s.clk.now), slewing := true } }
      (s.setRate (if o > 0 then -(s.slewPpb : Int) else if o < 0 then s.slewPpb else 0)).timeStatus i 0 0)

/-- START_AT: the cadences of partition `p` are held until the milestone count M0 (R335). -/
def execStartAt (i : Port) (p : Part) (s : State) : Host.Outcome State Fault Refusal :=
  s.run (fun s =>
    let m0 := s.get64 (F.TIME_START_LO_count i) (F.TIME_START_HI_count i)
    if !(s.privileged i || s.owns i p) then s.timeRefuse i tcSTARTAT trROLE
    else if !s.timeValid then s.timeRefuse i tcSTARTAT trINVALIDTIME
    else if m0 < s.milestone then s.timeRefuse i tcSTARTAT trPAST
    else
      let s := { s with time := { s.time with startAt := tput s.time.startAt p m0 } }
      (s.setBit F.TIME_START_PENDING_mask p true).timeStatus i 0 0)

/-- START_CANCEL: a pending START_AT of partition `p` is cancelled. -/
def execStartCancel (i : Port) (p : Part) (s : State) : Host.Outcome State Fault Refusal :=
  s.run (fun s =>
    if !(s.privileged i || s.owns i p) then s.timeRefuse i tcSTARTCANCEL trROLE
    else
      let s := { s with time := { s.time with startAt := tdel s.time.startAt p } }
      (s.setBit F.TIME_START_PENDING_mask p false).timeStatus i 0 0)

/-! ### What lands at a boundary (R332, R334, R335) -/

/-- Release the partitions whose M0 the published counter has reached. -/
def State.landStarts (s : State) : State :=
  s.each s.time.startAt (fun s e =>
    if e.2 ≤ s.milestone then
      let s := { s with time := { s.time with startAt := tdel s.time.startAt e.1 } }
      (s.setBit F.TIME_START_PENDING_mask e.1 false).raise Code.START_RELEASED [e.1, s.milestone]
    else s)

/-- The schedule period in ns. -/
def State.periodNs (s : State) : Nat := s.cfg.pace.periodUs * 1000

/-- A pending STEP lands at the boundary that begins period `n`. -/
def State.landStep (s : State) (n : Nat) : State :=
  match s.time.step with
  | none => s
  | some (port, v) =>
    let present := s.masterPresent
    let old := s.localNs
    let new := if present then ((old : Int) - s.time.offset).toNat else if port = 255 then old else v
    let before := s.milestone
    let per := max s.periodNs 1
    let ends := (new + 2 * per - 1) / per * per
    let held := s.get F.TIME_STATUS_state == tsHOLDOVER
    let s := s.setClock new
    let s := { s with time := { s.time with step := none, msHold := before, realign := some (ends - (new + per)), slew := none
                                            slewing := false, offset := if present then 0 else s.time.offset } }
    let s := s.set F.TIME_STATUS_step_pending 0
    let s := if port = 255 then s else s.set F.TIME_STATUS_valid 1
    let s := if present then s
      else
        let s := (s.setServo tsHOLDOVER).setRate s.time.lockedRate
        if held then s else s.raise Code.TIME_HOLDOVER [2]
    let s := s.each (upTo 8) (fun s d =>
      let started := ((tfind s.motion.dividers d).map (fun x => x.started)).getD false
      if (s.divCfg d).source == 2 && started then s.rebaseDivider d s.rawMs else s)
    s.raise Code.TIME_STEPPED [port, ofSigned 32 ((new : Int) - old), n]

/-- The period after a STEP has ended: its extension is written. -/
def State.landRealign (s : State) (n : Nat) : State :=
  match s.time.realign with
  | none => s
  | some e => ({ s with time := { s.time with realign := none } }).raise Code.TIME_REALIGNED [e, n]

/-! ### Launch queues (R337, R338) -/

/-- The claim of a launch queue: its partition and policy. -/
def State.launchClaim (s : State) (q : Nat) : Option (Nat × LaunchClaim) :=
  s.cfg.partTables.findSome? (fun e => (e.2.launch.find? (fun c => c.queue == q)).map (fun c => (e.1, c)))

def State.launches (s : State) (q : Nat) : List Launch := tget [] s.time.queues q

/-- Set a queue and its depth. -/
def State.setLaunches (s : State) (q : Nat) (l : List Launch) : State :=
  ({ s with time := { s.time with queues := tset [] s.time.queues q l } }).set (F.TIME_LQ_depth q) l.length

/-- Show the claims of the queues. -/
def State.showQueues (s : State) : State :=
  s.each [0, 1] (fun s q =>
    let (p, sl, w) := match s.launchClaim q with
      | some (p, c) => (p, c.sendLate, c.windowUs)
      | none => (0, false, 0)
    let s := (s.setB (F.TIME_LQ_claimed q) (s.launchClaim q).isSome).set (F.TIME_LQ_partition q) p
    (s.setB (F.TIME_LQ_send_late q) sl).set (F.TIME_LQ_window_us q) w)

/-- Refusal causes of R337, by their place in its list. -/
def lrBADRECORD : Nat := 0
def lrINVALIDTIME : Nat := 1
def lrFULL : Nat := 2
def lrORDER : Nat := 3

/-- LAUNCH_RECORD: a program of partition `p` enters a record (Table TIME-3) into the queue of a TIME port. -/
def execLaunchRecord (tp : Fin 2) (p : Part) (r : List Byte) (s : State) : Host.Outcome State Fault Refusal :=
  s.run (fun s =>
    let q := s.launches tp
    let ns := recField r 6 4
    let x : Launch := { timeNs := recField r 0 6 * 1000000000 + ns, length := recField r 10 2, loc := recField r 12 4 }
    let refuse := fun (c : Nat) => (s.inc (F.TIME_LQ_LATE_refused tp)).raise Code.LAUNCH_REFUSED [tp, c]
    let mine := match s.launchClaim tp with | some (o, _) => o == p.val | none => false
    if !mine || ns ≥ 1000000000 || x.length < 60 || 1518 < x.length || 0x4000000 < 64 * x.loc + x.length then refuse lrBADRECORD
    else if !s.timeValid then refuse lrINVALIDTIME
    else if q.length ≥ 64 then refuse lrFULL
    else if q.getLast?.any (fun t => x.timeNs < t.timeNs) then refuse lrORDER
    else s.setLaunches tp (q ++ [x]))

/-- A frame as it stands on the wire: the port appends the FCS (R337). -/
def withFcs (bs : List Byte) : List Byte := bs ++ leBytes 4 (crc32 bs)

/-- The head of a queue leaves, or is late. -/
def State.launchHead (s : State) (q : Nat) : State :=
  match s.launches q with
  | [] => s
  | x :: rest =>
    let s := s.setLaunches q rest
    let send := fun (s : State) =>
      (s.timeOut (.frame q (withFcs (s.bytes (lineStoreBase + 64 * x.loc) x.length)))).inc (F.TIME_LQ_SENT_count q)
    let late := s.localNs - x.timeNs
    -- a launch counts as on time within its accuracy of 8 ns
    if late ≤ 8 then send s
    else
      let ok := match s.launchClaim q with | some (_, c) => c.sendLate && late ≤ c.windowUs * 1000 | none => false
      let s := (s.inc (F.TIME_LQ_LATE_late q)).raise Code.LAUNCH_LATE [q, late, bit (!ok)]
      if ok then send s else s

/-- FRAME_LAUNCH: the launch time of the head of a queue arrives (R338). -/
def execFrameLaunch (tp : Fin 2) (s : State) : Host.Outcome State Fault Refusal :=
  s.run (fun s => match s.launches tp with
    | [] => s
    | x :: _ => if s.localNs + 8 < x.timeNs then s else s.launchHead tp)

/-- After a STEP every queued frame whose launch time lies in the past is late (R332); `n` bounds them. -/
def State.lateLaunches (s : State) (q : Nat) : Nat → State
  | 0 => s
  | n + 1 => match s.launches q with
    | [] => s
    | x :: _ => if x.timeNs + 8 < s.localNs then (s.launchHead q).lateLaunches q n else s

end Sys2Proof.Machine
end

