-- ==== Sys2Proof/Machine/Configure.lean ====
section
/-! DEFINITION. The boot values of the registers that show what the module is and what the running image says (R438, R442,
Tables MAP-4, MAP-7). -/

namespace Sys2Proof.Machine

/-- Write a list of fields. -/
def State.setAll (s : State) (l : List (Field × Nat)) : State := s.each l (fun s e => s.set e.1 e.2)

/-- The CAP block (Table MAP-4). -/
def State.showCaps (s : State) : State :=
  let one := bit s.hasField
  let die1 := bit (s.variant != .f9620)
  let split := s.cfg.structureSec.split
  let s := s.setAll
    [(F.CAP_ID_package, 0x9640), (F.CAP_ID_variant, s.variantMask), (F.CAP_ID_stepping, Config.stepping.toNat),
     (F.CAP_VERSION_format, 1), (F.CAP_VERSION_func_table, s.cfg.tables.funcVersion),
     (F.CAP_PRESENT_compute_die1, die1), (F.CAP_PRESENT_position, one), (F.CAP_PRESENT_pulse, one),
     (F.CAP_PRESENT_milepost, one), (F.CAP_PRESENT_field_io, one), (F.CAP_PRESENT_safety_io, one),
     (F.CAP_PRESENT_safety_functions, one), (F.CAP_PRESENT_clusters, 2 ^ s.clusters - 1)]
  let s := s.setAll
    [(F.CAP_COUNTS0_physical_cores, s.coreCount), (F.CAP_COUNTS0_logical_cores, 4 * s.clusters),
     (F.CAP_COUNTS0_clusters, s.clusters), (F.CAP_COUNTS0_compute_dies, 1 + die1), (F.CAP_COUNTS0_contexts, 64),
     (F.CAP_COUNTS0_lanes, 32), (F.CAP_COUNTS1_channels, 16), (F.CAP_COUNTS1_partitions, 8), (F.CAP_COUNTS1_jobs, 256),
     (F.CAP_COUNTS1_ports, portsOf split), (F.CAP_COUNTS1_split, split), (F.CAP_COUNTS1_position_channels, 8 * one)]
  s.setAll
    [(F.CAP_COUNTS1_time_ports, 2), (F.CAP_COUNTS2_inputs, 32 * one), (F.CAP_COUNTS2_outputs, 32 * one),
     (F.CAP_COUNTS2_safe_inputs, 2 * one), (F.CAP_COUNTS2_safe_outputs, 2 * one), (F.CAP_COUNTS2_mileposts, 4096 * one),
     (F.CAP_HBM_usable, s.hbmPages), (F.CAP_HBM_AVAIL_pages, s.hbmPages - s.integ.retired.length),
     (F.CAP_HBM_AVAIL_retired, s.integ.retired.length), (F.CAP_KV_sequences, 4096), (F.CAP_KV_max_len, 32768),
     (F.CAP_KV_POOL_pages, 262144), (F.INTEG_HBM_retired, s.integ.retired.length)]

/-- The lanes of STRUCTURE (Table LANE-7): an enabled lane starts in REF_WAIT with the transmit equalisation of its rate (R253). -/
def State.showLanes (s : State) : State :=
  s.each (upTo 32) (fun s n =>
    let g := s.laneCfg n
    (s.setAll
      [(F.LANE_CFG_enabled n, bit g.enabled), (F.LANE_CFG_rate n, g.rate), (F.LANE_CFG_ref_mode n, g.refMode),
       (F.LANE_CFG_channel n, g.channel), (F.LANE_CFG_sensors n, g.sensors - 1), (F.LANE_TXEQ_pre n, 2 * g.rate),
       (F.LANE_TXEQ_post n, 4 + 4 * g.rate), (F.LANE_STATUS_state n, if g.enabled then laneREFWAIT else laneDISABLED)]).takeTaps n)

/-- The contexts and channels of STRUCTURE (Tables ISP-10, ISP-11). -/
def State.showContexts (s : State) : State :=
  let feeds := fun ch => maskOf 32 (fun n => (s.laneCfg n).enabled && (s.laneCfg n).channel == ch)
  let s := s.setAll
    [(F.ISP_STATUS_contexts, ((upTo 64).filter (fun c => (s.ctxCfg c).defined)).length),
     (F.ISP_STATUS_channels, maskOf 16 (fun ch => feeds ch != 0))]
  let s := s.each (upTo 16) (fun s ch => s.set (F.ISP_CHAN_lanes ch) (feeds ch))
  s.each (upTo 64) (fun s c =>
    let g := s.ctxCfg c
    if g.defined then s.setAll
      [(F.ISP_CTX_CFG_defined c, 1), (F.ISP_CTX_CFG_lane c, g.lane), (F.ISP_CTX_CFG_stream c, g.stream),
       (F.ISP_CTX_CFG_kind c, g.kind), (F.ISP_CTX_CFG_partition c, g.part), (F.ISP_CTX_CFG_channel c, s.ctxChan c)]
    else s)

/-- The partitions of STRUCTURE with their modes (Table ROUTE-10), quotas, shares and windows in force. -/
def State.showPartitions (s : State) : State :=
  s.each (upTo 8) (fun s p =>
    let q := s.part p
    if !q.defined then s
    else
      let s := s.setAll
        [(F.ROUTE_PART_criticality p, q.criticality), (F.ROUTE_PART_port p, q.port), (F.ROUTE_PART_defined p, 1),
         (F.ROUTE_PART_paced p, bit (!s.cfg.pace.free.testBit p)), (F.ROUTE_QUOTA_pages p, q.quota),
         (F.ROUTE_QUOTA_LIMIT_pages p, q.quota), (F.ROUTE_BW_share p, q.bandwidth)]
      s.each q.windows (fun s w =>
        let k := 4 * w.lcore + w.index
        (s.set (F.ROUTE_WIN_START_tick k) w.start).set (F.ROUTE_WIN_LEN_ticks k) w.length))

/-- What the PROGRAM of partition `p` declares in registers: its bandwidth need, recomputation and range checks. -/
def State.showProgram (s : State) (p : Nat) : State :=
  let g := s.program p
  s.setAll
    [(F.ROUTE_BW_need p, (g.map (fun x => x.needBandwidth)).getD 0),
     (F.INTEG_RECOMP_fraction p, (g.map (fun x => x.recompute)).getD 0),
     (F.INTEG_RECOMP_range_check p, bit ((g.map (fun x => x.rangeCheck)).getD false))]

/-- The pace table, the period and the modes of partitions (Tables PACE-5, PACE-6). -/
def State.showPace (s : State) : State :=
  let p := s.cfg.pace
  s.setAll
    [(F.PACE_STATUS_upkeep_mode, s.cfg.structureSec.upkeep), (F.PACE_PERIOD_us, p.periodUs), (F.PACE_MODE_free, p.free),
     (F.PACE_TABLE0_rated_pace, p.ratedPace), (F.PACE_TABLE0_pace_ceiling, p.paceCeiling), (F.PACE_TABLE0_guard, p.guard),
     (F.PACE_TABLE1_pace_step, p.paceStep), (F.PACE_TABLE1_v_step, p.vStep), (F.PACE_TABLE1_v_ceiling, p.vCeiling),
     (F.PACE_TABLE1_horizon, p.horizon), (F.PACE_STATUS_pace, p.ratedPace), (F.PACE_STATUS_planned_pace, p.ratedPace),
     (F.PACE_STATUS_metronome_lock, 1)]

/-- Dividers of TABLES (Table MOT-8), which every variant has (R25). -/
def State.showDividers (s : State) : State :=
  s.each (upTo 8) (fun s d =>
    let v := s.divCfg d
    s.setAll
      [(F.MOT_DIV_CFG_source d, v.source), (F.MOT_DIV_CFG_channel d, v.channel), (F.MOT_DIV_CFG_pulse d, bit v.pulse),
       (F.MOT_DIV_CFG_width d, v.width), (F.MOT_DIV_RATIO_ratio d, v.ratio), (F.MOT_DIV_LANES_mask d, v.lanes),
       (F.MOT_DIV_STREAMS_mask d, v.streams)])

/-- Position channels, dividers and field inputs of TABLES (Tables MOT-8, FIO-2): a configured channel waits for its count. -/
def State.showMotion (s : State) : State :=
  let s := s.showDividers
  if !s.hasField then s
  else
    let s := s.each (upTo 8) (fun s n =>
      let c := s.chanCfg n
      let s := s.setAll
        [(F.MOT_CH_CFG_mode n, c.mode), (F.MOT_CH_CFG_decode n, c.decode), (F.MOT_CH_CFG_reverse n, bit c.reverse),
         (F.MOT_CH_CFG_filter n, c.filter), (F.MOT_CH_CFG_framing n, c.framing), (F.MOT_CH_CFG_index_check n, bit c.indexCheck),
         (F.MOT_CH_CFG_interval n, c.interval), (F.MOT_CH_STATUS_count_state n, if c.mode = 0 then cntOFF else cntWAIT)]
      s.setBit F.MOT_STATUS_present n (c.mode != 0))
    s.each (upTo 32) (fun s i =>
      let g := s.inCfg i
      s.setAll
        [(F.FIO_IN_CFG_type i, g.ty), (F.FIO_IN_CFG_filter_us i, g.filterUs), (F.FIO_IN_CFG_capture i, g.capture),
         (F.FIO_IN_CFG_edge i, g.edge)])

/-- The claims of outputs and launch queues (R319, R337). -/
def State.showClaims (s : State) : State :=
  let s := if !s.hasField then s else s.each (upTo 32) (fun s o =>
    let (p, host, retry) := match s.claim o with
      | some (p, c) => (p, c.host, c.retryMs)
      | none => (0, false, 0)
    s.setAll
      [(F.FIO_OUT_CFG_claimed o, bit (s.claim o).isSome), (F.FIO_OUT_CFG_mode o, bit host), (F.FIO_OUT_CFG_partition o, p),
       (F.FIO_OUT_CFG_retry_ms o, retry)])
  s.showQueues

/-- The peer table, time and safety values (Tables PEER-4, TIME-5, SAFE-12). -/
def State.showRest (s : State) : State :=
  let s := s.setAll
    [(F.TIME_STATUS_tc_mode, s.tcMode), (F.PEER_STATUS_position, s.cfg.tables.position), (F.SAFE_DTI_ms, s.cfg.safety.dtiMs)]
  s.each [0, 1] (fun s k =>
    let e := (s.peerCfg k).expected
    (s.set (F.PEER_SIDE_expected k) (bit e)).set (F.PEER_SIDE_state k) (if e then laneREFWAIT else laneDISABLED))

/-- The boot values that the running image gives. -/
def State.configure (s : State) : State :=
  let s := s.showCaps.showLanes.showContexts.showPartitions.showPace.showMotion.showClaims.showRest
  let s := s.each (upTo 8) State.showProgram
  s.each (upTo 4) State.showPort

end Sys2Proof.Machine
end

