-- ==== Sys2Proof/Machine/Safe.lean ====
section
/-! DEFINITION. The safety checker's own steps: judging verdicts (R22, R368 to R370), watchdogs (R371), frame phases (R372),
self-tests (R373 to R375), safe inputs and outputs (R378, R379), leaving the safe state (R382), the safety message (R383) and
SAFE_CMD (R384, R386). -/

namespace Sys2Proof.Machine

/-! ### A change of what the safety message says (R383) -/

/-- Bytes 3 and 12 to 15 of the safety message. -/
def State.safeSignature (s : State) : Nat × Nat × Nat × Nat :=
  (s.get F.SAFE_STATUS_state, s.safeCause, maskOf 4 (fun k => s.safeOutOn (k / 2) (k % 2)), s.safeInByte)

/-- A change of the checker's state, its cause, an output or an input sends a safety message. -/
def State.safeChange (s : State) (f : State → State) : State :=
  let t := f s
  if t.safeSignature == s.safeSignature || t.safe.msgs.length != s.safe.msgs.length then t else t.sendSafety

/-! ### The checks of Table SAFE-3 -/

/-- The check set of partition `p`, where it is a SAFETY partition. -/
def State.checkSet (s : State) (p : Nat) : Option CheckSet :=
  if s.isSafetyPart p then s.cfg.safety.checkSets.find? (fun k => k.part == p) else none

/-- The FP32 quantity at byte `o` of a record. -/
def quantity (r : List Byte) (o : Nat) : FV := fmtValue fmtFP32 (recField r o 4)

/-- `x` is at most `y` in value; a NaN is not. -/
def FV.le (x y : FV) : Bool := match y.lt x with
  | some b => !b || (x.isZero && y.isZero)
  | none => false

/-- C1: kind, partition and reserved bytes are correct, and the CRC matches. `p` is the partition of the ring. -/
def checkRecord (p : Nat) (r : List Byte) : Option Nat :=
  if recField r 0 1 != 2 || r.length != 128 then some (recField r 0 1)
  else if recField r 1 1 != p then some (recField r 1 1)
  else if recField r 2 1 = 0 || 3 < recField r 2 1 then some (recField r 2 1)
  else if recField r 3 1 = 0 || 4 < recField r 3 1 then some (recField r 3 1)
  else if recField r 22 2 != 0 || recField r 120 4 != 0 ||
      (List.range (recField r 3 1)).any (fun k => recField r (25 + 12 * k) 3 != 0) then some 0
  else if recField r 124 4 != crc32c (r.take 124) then some (recField r 124 4)
  else none

/-- C2: the guard counter steps by one, or is 0 for the first record. -/
def State.checkSequence (s : State) (p : Nat) (r : List Byte) : Option Nat :=
  let want := if s.safe.seqFresh.contains p then 0 else (s.get (F.SAFE_JUDGE_SEQ_counter p) + 1) % 2 ^ 32
  if recField r 8 4 == want then none else some (recField r 8 4)

/-- The arms of tag `tag` that a verdict can still reach: ARMED entries, and those that fired while ARMED with their outcome
open (R315); on the DXM-9640-V every part the tracker has reported (R365). -/
def State.armsOf (s : State) (p tag : Nat) : List Subject :=
  if s.hasField then s.openSubjects p tag
  else s.host.subjects.filter (fun u => u.kind == 1 && u.part == p && u.tag == tag)

/-- C3: an arm of the partition holds the tag, and for a check set target − stamp lies within its travel range. -/
def State.checkArm (s : State) (p : Nat) (r : List Byte) (k : Option CheckSet) : Option Nat :=
  let tag := recField r 4 4
  let stamp := toSigned 64 (recField r 12 8)
  match s.armsOf p tag with
  | [] => some tag
  | u :: l => match k with
    | none => none
    | some g =>
      if !s.hasField || (u :: l).any (fun a => g.travelLo ≤ a.target - stamp && a.target - stamp ≤ g.travelHi) then none
      else some (ofSigned 24 (u.target - stamp))

/-- C4: every context belongs to the check set and is NORMAL, and its lines span the declared length range. -/
def State.checkStations (s : State) (r : List Byte) (g : CheckSet) : Option Nat :=
  (stations r).findSome? (fun (c, a, b) =>
    if !g.contexts.contains c || s.get (F.SAFE_CTX_phase c) != ctxNORMAL then some c
    else if (s.ctxCfg c).kind = 2 then none
    else
      let n := (b + 2 ^ 32 - a) % 2 ^ 32 + 1
      if g.lengthLo ≤ n && n ≤ g.lengthHi then none else some n)

/-- C5: the capture time is neither in the future nor older than max_age. -/
def State.checkFresh (s : State) (r : List Byte) (g : CheckSet) : Option Nat :=
  let now : Int := (s.clk.sec % 2 ^ 32) * 1000000000 + s.clk.ns
  let age := now - (recField r 72 4 * 1000000000 + recField r 76 4 : Nat)
  if 0 ≤ age && age ≤ g.maxAgeUs * 1000 then none else some (ofSigned 24 (age / 1000))

/-- C6: both digest prefixes are listed in the check set. -/
def checkListed (r : List Byte) (g : CheckSet) : Option Nat :=
  if !g.programs.contains (recField r 112 4) then some (recField r 112 4)
  else if !g.weights.contains (recField r 116 4) then some (recField r 116 4)
  else none

/-- C7: each check quantity lies within its limits; a NaN fails. -/
def checkLimits (r : List Byte) (g : CheckSet) : Option Nat :=
  (indexed (g.limits.take 4)).findSome? (fun (i, lo, hi) =>
    let v := quantity r (80 + 4 * i)
    if (fmtValue fmtFP32 lo.toNat).le v && v.le (fmtValue fmtFP32 hi.toNat) then none else some i)

/-- C8: each |check − shadow|, computed in FP32, is at most its tolerance. -/
def checkShadow (r : List Byte) (g : CheckSet) : Option Nat :=
  (indexed (g.tolerances.take 4)).findSome? (fun (i, tol) =>
    let d := ((quantity r (80 + 4 * i)).add (quantity r (96 + 4 * i)).negate).fp32.abs
    if d.le (fmtValue fmtFP32 tol.toNat) then none else some i)

/-- When the row of a context that holds line (or frame) `n` was captured, as its first output's ring keeps it (R299). -/
def State.stationTime (s : State) (c n : Nat) : Option Nat :=
  match (s.ctx c).set.outputs.head? with
  | none => none
  | some o =>
    let slot := if (s.ctxCfg c).kind = 2 then (n % max o.ring 1) * o.height else n / max o.v 1 % max o.ring 1
    (tfind s.isp.captures (captureKey c 0 slot)).getD none

/-- The times do not decrease. -/
def ascending : List Nat → Bool
  | a :: b :: l => a ≤ b && ascending (b :: l)
  | _ => true

/-- C9: station capture times do not decrease, and the stamp is not older than the previous one by more than the travel
range. -/
def State.checkTemporal (s : State) (p : Nat) (r : List Byte) (g : CheckSet) : Option Nat :=
  let stamp := toSigned 64 (recField r 12 8)
  if !ascending ((stations r).filterMap (fun (c, _, b) => s.stationTime c b)) then some 0
  else match tfind s.safe.prevStamp p with
    | some q => if q - stamp > g.travelHi then some (ofSigned 24 (q - stamp)) else none
    | none => none

/-- The first failed check after C1, with its offending value (R368). -/
def State.checks (s : State) (p : Nat) (r : List Byte) : Option (Nat × Nat) :=
  if recField r 2 1 != outGOOD then none
  else
    let k := s.checkSet p
    let base := [(2, s.checkSequence p r), (3, s.checkArm p r k)]
    let more := match k with
      | some g => [(4, s.checkStations r g), (5, s.checkFresh r g), (6, checkListed r g), (7, checkLimits r g),
                   (8, checkShadow r g), (9, s.checkTemporal p r g)]
      | none => if s.isSafetyPart p then [(4, some 0)] else []
    (base ++ more).findSome? (fun e => e.2.map (fun v => (e.1, v)))

/-- The cause of the first lost line, in line-count order, of the record's stations: the code of the unit that lost it (R17, R368). A
row of a trilinear context may read lines up to 65 before it. -/
def State.lostIn (s : State) (r : List Byte) : Option Nat :=
  (stations r).findSome? (fun (c, a, b) =>
    if (s.ctxCfg c).kind = 2 then none
    else
      let span := (b + 2 ^ 32 - a) % 2 ^ 32
      let l := s.safe.lostLines.filter (fun e => e.ctx == c && (e.row + 2 ^ 32 - a) % 2 ^ 32 ≤ span)
      let place := fun (e : LostRow) => (e.line + 2 ^ 32 + 65 - a) % 2 ^ 32
      (l.foldl (fun (best : Option LostRow) e => match best with
        | some z => if place e ≤ place z then some e else best
        | none => some e) none).map (fun e => e.code))

/-- A failed judgement counts toward its check set's burst limit (R370). -/
def State.burst (s : State) (p : Nat) : State :=
  match s.checkSet p with
  | none => s
  | some g =>
    let l := s.safe.fails.filter (fun e => s.clk.now < e.2 + samplesPerS) ++ [(p, s.clk.now)]
    let s := { s with safe := { s.safe with fails := l } }
    let n := (l.filter (fun e => e.1 == p)).length
    if n > g.burst then (s.raise Code.JUDGE_BURST [p, n]).enterSafe Code.JUDGE_BURST (sourceUnit 0x11 255) else s

/-- After each record its guard counter and stamp are the previous ones, whether it passed or failed (R368); its part has given its verdict
(R62). -/
def State.recordSeen (s : State) (p : Nat) (r : List Byte) : State :=
  let s := s.set (F.SAFE_JUDGE_SEQ_counter p) (recField r 8 4)
  let k := 8 * recField r 4 4 + p
  let gens := match tfind s.route.partGens k with | some e => tput s.route.partGens k (e.1, true) | none => s.route.partGens
  { s with route := { s.route with partGens := gens }
           safe := { s.safe with seqFresh := s.safe.seqFresh.filter (fun q => q != p)
                                 prevStamp := tput s.safe.prevStamp p (toSigned 64 (recField r 12 8)) } }

/-- A judged verdict goes to the milepost unit (R315), or as a contribution to the neighbour that owns the ejector of a
straddling part, once it has passed (R342). -/
def State.passOn (s : State) (p : Nat) (v : VerdictIn) (passed : Bool) (verdict cause : Nat) : State :=
  let tag := recField v.record 4 4
  match v.seam with
  | none => if passed then s.giveVerdict p v verdict cause else s.applyVerdict p tag verdict cause (some v)
  | some k =>
    if !passed then s
    else
      let leg := (v.record.drop 2).take 1 ++ (v.record.drop 20).take 2
      s.sendContrib k p (toSigned 64 (recField v.record 12 8)) verdict cause
        (s.resultDigest p (s.programFor p tag) v.inputDigest leg v.tail v.variableMask)

/-- A record that fails check `n`: INVALID with the check's code. -/
def State.judgeFail (s : State) (p : Nat) (v : VerdictIn) (n value : Nat) : State :=
  let code := 0xB020 + n
  let s := (s.raise code [p, recField v.record 4 4, value]).inc (F.SAFE_JUDGE_FAIL_count p)
  let s := (s.set (F.SAFE_JUDGE_FAIL_check p) n).recordSeen p v.record
  (s.passOn p v false outINVALID code).burst p

/-- A record that passes its checks: reactions in force and a closed road make it INVALID (R22, R371, R376). -/
def State.judgePass (s : State) (p : Nat) (v : VerdictIn) : State :=
  let r := v.record
  let ctxs := (stations r).map (fun e => e.1)
  let verdict := recField r 2 1
  let s := (s.inc (F.SAFE_JUDGE_PASS_count p)).recordSeen p r
  match s.blockedBy p ctxs, s.roadClosed p ctxs with
  | some c, _ => s.passOn p v true outINVALID c
  | none, some n => (s.raise Code.ROAD_CLOSED [p, recField r 4 4, n]).passOn p v true outINVALID Code.ROAD_CLOSED
  | none, none => s.passOn p v true verdict (if verdict == outINVALID then recField r 20 2 else 0)

/-- A straddling part whose ejector the neighbour owns has no arm here: C3 does not apply to it. -/
def State.checksOf (s : State) (p : Nat) (v : VerdictIn) : Option (Nat × Nat) :=
  if v.seam.isSome then
    match s.checks p v.record with
    | some (3, _) => none
    | x => x
  else s.checks p v.record

/-- VERDICT_RECORD: the checker takes the next record of partition `p`'s verdict ring and judges it (R368); in the safe state
every verdict is INVALID with cause SAFE_STATE_ENTERED (R381). -/
def execVerdictRecord (p : Part) (v : VerdictIn) (s : State) : Host.Outcome State Fault Refusal :=
  s.run (fun s =>
    let r := v.record
    if s.isSafe then (s.recordSeen p r).passOn p v false outINVALID Code.SAFE_STATE_ENTERED
    else match checkRecord p r with
      | some x => s.judgeFail p v 1 x
      | none => match s.lostIn r with
        | some c => (s.recordSeen p r).passOn p v false outINVALID c
        | none => match s.checksOf p v with
          | some (n, x) => s.judgeFail p v n x
          | none => s.judgePass p v)

/-! ### Watchdogs and frame phases -/

/-- A CONTEXT watchdog is paused while the trigger source's speed is 0 or INVALID (Table SAFE-4). -/
def State.triggerPaused (s : State) (c : Nat) : Bool :=
  let lane := (s.ctxCfg c).lane
  (upTo 8).any (fun d =>
    let g := s.divCfg d
    g.source == 1 && g.lanes.testBit lane && g.streams.testBit (s.ctxCfg c).stream &&
      (s.get (F.MOT_CH_STATUS_speed_state g.channel) == 0 || (s.speed g.channel).1 == 0))

/-- WATCHDOG_MISS: watchdog `w` is kicked early, or not by max (R371).  An early kick begins the next window; after a missing
kick the next one does. -/
def execWatchdogMiss (w : Fin 64) (early : Bool) (s : State) : Host.Outcome State Fault Refusal :=
  s.run (fun s => match s.cfg.safety.watchdogs[w.val]? with
    | none => s
    | some g =>
      let paused := g.kind == wdCONTEXT && !early && s.triggerPaused g.target
      if !s.on (F.SAFE_WDOG_armed w) || paused || (g.kind == wdMILEPOST && !s.hasField) then s
      else
        let gap := (s.clk.now - tget s.clk.now s.safe.kicked w) / 200
        let s := ((s.inc (F.SAFE_WDOG_misses w)).setB (F.SAFE_WDOG_early w) early).raise Code.WATCHDOG_MISS [w, bit (!early), gap]
        let kicked := if early then tput s.safe.kicked w s.clk.now else tdel s.safe.kicked w
        let s := { s with safe := { s.safe with kicked := kicked } }
        match g.reaction with
        | 0 => { s with safe := { s.safe with ctxMiss := tset 0 s.safe.ctxMiss g.target 16 } }
        | 1 => { s with safe := { s.safe with partMiss := if s.safe.partMiss.contains w.val then s.safe.partMiss
                                                          else s.safe.partMiss ++ [w.val] } }
        | _ => s.enterSafe Code.WATCHDOG_MISS (sourceUnit 0x11 255))

/-- CONTEXT_NO_REFERENCE: context `c` is not NORMAL when the recovery timeout ends; written once (R372). -/
def execContextNoReference (c : CtxId) (s : State) : Host.Outcome State Fault Refusal :=
  s.run (fun s =>
    if !(s.ctxCfg c).defined || s.get (F.SAFE_CTX_phase c) == ctxNORMAL || s.safe.refMissed.contains c.val then s
    else ({ s with safe := { s.safe with refMissed := s.safe.refMissed ++ [c.val] } }).raise Code.CONTEXT_NO_REFERENCE [c])

/-- LOCKSTEP_MISMATCH: the comparator finds a mismatch; a hardware path enters the safe state (R366). -/
def execLockstepMismatch (addr : Word) (s : State) : Host.Outcome State Fault Refusal :=
  s.run (fun s => (s.raise Code.LOCKSTEP_MISMATCH [addr.toNat]).enterSafe Code.LOCKSTEP_MISMATCH (sourceUnit 0x11 255))

/-! ### Self-tests (Table SAFE-5) -/

/-- The unit of test item `t` is fitted in this variant (R365). -/
def State.testFitted (s : State) (t : Nat) : Bool := s.hasField || t < 6

/-- An edge engine (unit 0 to 7), a walker (8 to 15) or a post engine (16, 17) fails its test (R190, R224). -/
def State.engineFails (s : State) (unit : Nat) : State :=
  let add := fun (l : List Nat) (k : Nat) => if l.contains k then l else l ++ [k]
  if unit < 8 then
    ({ s with cores := { s.cores with edgeFailed := add s.cores.edgeFailed unit } }).raise Code.ENGINE_FAILED [0, unit, 3]
  else if unit < 16 then
    let s := { s with cores := { s.cores with walkFailed := add s.cores.walkFailed (unit - 8) } }
    (s.set (F.KV_WALKER_failed (unit - 8)) 1).raise Code.KV_WALKER_FAILED [unit - 8, 3]
  else
    ({ s with cores := { s.cores with postFailed := add s.cores.postFailed (unit - 16) } }).raise Code.ENGINE_FAILED
      [1, unit - 16, 3]

/-- The items whose failure the module answers with the safe state still have a failed run. -/
def State.testCause (s : State) : State :=
  if [0, 1, 4, 7].any (fun t => s.on (F.SAFE_TEST_failed t)) then s else s.causeOff Code.TEST_FAILED

/-- A failed test of item `t` on a unit (Table SAFE-5): the reaction of the item.  Units of item 4: core SRAM of physical core
0 to 39, stripe store of cluster 40 to 47, line store and lay-by buffers 48, check-value units 49 (Table BOOT-2). -/
def State.testFails (s : State) (t unit : Nat) : State :=
  let s := (s.testDone t true).raise Code.TEST_FAILED [t, unit]
  let safe := fun (s : State) => s.enterSafeHeld Code.TEST_FAILED (sourceUnit 0x11 255)
  match t with
  | 2 => s.failCore unit failROTATING t
  | 3 => s.engineFails unit
  | 4 =>
    if unit < 40 then s.failCore unit failROTATING t
    else if unit < 48 then s.each (upTo 5) (fun s k => s.failCore (5 * (unit - 40) + k) failROTATING t)
    else safe s
  | _ => safe s

/-- How a slice ends: more slices follow, the item's run has passed or failed, or it is still running. -/
def sliceMORE : Nat := 0
def slicePASS : Nat := 1
def sliceFAIL : Nat := 2
def sliceRUNS : Nat := 3

/-- TEST_SLICE: a slice of item `t` with a bound in µs starts where the bound fits in what is left of the test window and no
record waits (R374); items 5 to 8 are not run in slices. -/
def execTestSlice (t : Fin 9) (unit : Fin 64) (bound left : BitVec 8) (waiting : Bool) (ends : Fin 4) (s : State) :
    Host.Outcome State Fault Refusal :=
  s.run (fun s =>
    if 5 ≤ t.val || waiting || left.toNat < bound.toNat || 4 < bound.toNat || s.safe.slice.isSome then s
    else if ends.val == slicePASS then
      -- a test leg that a spare has passed (Table CORE-6)
      let s := if t.val = 2 && s.coreRole unit == coreSPARE then
          ({ s with cores := { s.cores with spareTest := tput s.cores.spareTest unit s.clk.now } }).inc (F.CORE_SPARE_TEST_passed unit)
        else s
      (s.testDone t false).testCause
    else if ends.val == sliceFAIL then s.testFails t unit
    else if ends.val == sliceRUNS then { s with safe := { s.safe with slice := some (t.val, unit.val, bound.toNat) } }
    else s)

/-- SLICE_OVERRUN: the running slice passes its bound and is stopped; it counts as a failed test of its item (R374). -/
def execSliceOverrun (s : State) : Host.Outcome State Fault Refusal :=
  s.run (fun s => match s.safe.slice with
    | none => s
    | some (t, unit, bound) =>
      (({ s with safe := { s.safe with slice := none } }).raise Code.SLICE_OVERRUN [t, bound]).testFails t unit)

/-- TEST_OVERDUE: item `t` has not completed within its interval (R375). -/
def execTestOverdue (t : Fin 9) (s : State) : Host.Outcome State Fault Refusal :=
  s.run (fun s =>
    if !s.testFitted t || s.on (F.SAFE_TEST_overdue t) then s
    else
      let s := ((s.set (F.SAFE_TEST_overdue t) 1).set F.SAFE_STATUS_overdue 1).raise Code.TEST_OVERDUE [t, s.testAge t]
      if s.cfg.safety.overdueSafe then s.enterSafeHeld Code.TEST_OVERDUE (sourceUnit 0x11 255) else s)

/-- CHECKER_START_DONE: the start-up tests pass and the checker enters RECOVERY (R382). -/
def execCheckerStartDone (s : State) : Host.Outcome State Fault Refusal :=
  s.run (fun s =>
    if s.get F.SAFE_STATUS_state != safeSTART then s
    else (s.safeChange (fun s => s.set F.SAFE_STATUS_state safeRECOVERY)).recoveryCheck)

/-! ### Safe inputs (R378) -/

/-- Function numbers of safe inputs: SAFE_STATE, MONITOR. -/
def fnSAFESTATE : Nat := 3
def fnMONITOR : Nat := 4

/-- Input `i` still demands: by its channels, or faulted without 1 s of agreement. -/
def State.insists (s : State) (i : Nat) : Bool :=
  (s.get F.SAFE_IO_demand).testBit i || ((s.get F.SAFE_IO_input_fault).testBit i && !s.safe.agreed.contains i)

/-- The demand on output `o` has ended. -/
def State.demandEnded (s : State) (o : Nat) : Bool := !(s.mapped 0 o && s.insists 0) && !(s.mapped 1 o && s.insists 1)

/-- The fault of input `i` ends once its channels have agreed and its outputs have been reset. -/
def State.endInputFault (s : State) (i : Nat) : State :=
  if (s.get F.SAFE_IO_input_fault).testBit i && !s.insists i &&
      [0, 1].all (fun o => !s.mapped i o || !(s.get F.SAFE_IO_held).testBit o) then
    { s.setBit F.SAFE_IO_input_fault i false with safe := { s.safe with agreed := s.safe.agreed.filter (fun k => k != i) } }
  else s

/-- AUTO outputs are reset as soon as no mapped input demands (R379), and faults end whose outputs are reset. -/
def State.settleInputs (s : State) : State :=
  let s := s.each [0, 1] (fun s o => if !(s.safeOut o).manual && s.demandEnded o then s.setBit F.SAFE_IO_held o false else s)
  let s := s.each [0, 1] State.endInputFault
  if [0, 1].any (fun i => (s.safeIn i).function == fnSAFESTATE && s.demands i) then s else s.causeOff Code.SAFE_INPUT_DEMAND

/-- Input `i` demands from now on: its outputs stay off until they are reset, and an input whose function is SAFE_STATE enters
the safe state. -/
def State.demand (s : State) (i : Nat) : State :=
  let s := s.each [0, 1] (fun s o => if s.mapped i o then s.setBit F.SAFE_IO_held o true else s)
  if (s.safeIn i).function == fnSAFESTATE then s.enterSafeHeld Code.SAFE_INPUT_DEMAND (sourceUnit 0x11 255) else s

/-- The level of channel `ch` of safe input `i`. -/
def State.safeLevel (s : State) (i ch : Nat) : Bool := (s.get F.SAFE_IO_inputs).testBit (2 * i + ch)

/-- A command of the safe inputs; the DXM-9640-V has none (R365). -/
def State.safeIo (s : State) (f : State → State) : State := if s.hasField then s.safeChange f else s

/-- SAFE_INPUT_CHANGE: channel `ch` of input `i` changes level (R378). -/
def execSafeInputChange (i ch : Fin 2) (level : Bool) (s : State) : Host.Outcome State Fault Refusal :=
  s.run (fun s => s.safeIo (fun s =>
    let s := s.setBit F.SAFE_IO_inputs (2 * i.val + ch.val) level
    if level then s else { s with safe := { s.safe with agreed := s.safe.agreed.filter (fun k => k != i.val) } }))

/-- SAFE_INPUT_DEMAND: a channel of input `i` has read low for the filter time (R378). -/
def execSafeInputDemand (i : Fin 2) (s : State) : Host.Outcome State Fault Refusal :=
  s.run (fun s => s.safeIo (fun s =>
    if (s.safeLevel i 0 && s.safeLevel i 1) || (s.get F.SAFE_IO_demand).testBit i then s
    else ((s.setBit F.SAFE_IO_demand i true).raise Code.SAFE_INPUT_DEMAND [i, 0]).demand i))

/-- SAFE_INPUT_DEMAND_CLEARED: both channels of input `i` have read high for the filter time (R378). -/
def execSafeInputDemandCleared (i : Fin 2) (s : State) : Host.Outcome State Fault Refusal :=
  s.run (fun s => s.safeIo (fun s =>
    if s.safeLevel i 0 && s.safeLevel i 1 && (s.get F.SAFE_IO_demand).testBit i then
      ((s.setBit F.SAFE_IO_demand i false).raise Code.SAFE_INPUT_DEMAND [i, 1]).settleInputs
    else s))

/-- A SAFE_INPUT_FAULT of input `i`, kind 0 DISCREPANCY or 1 TEST: it counts as demanding. -/
def State.inputFault (s : State) (i ch kind : Nat) : State :=
  let s := (s.setBit F.SAFE_IO_input_fault i true).raise Code.SAFE_INPUT_FAULT [i, ch, kind]
  let s := { s with safe := { s.safe with agreed := s.safe.agreed.filter (fun k => k != i) } }
  s.demand i

/-- SAFE_INPUT_FAULT: the channels of input `i` have differed for longer than the discrepancy time, or one failed its test
pulse (R378). -/
def execSafeInputFault (i ch : Fin 2) (test : Bool) (s : State) : Host.Outcome State Fault Refusal :=
  s.run (fun s => s.safeIo (fun s =>
    if test then (if (s.safeIn i).pulses then s.inputFault i ch 1 else s)
    else if s.safeLevel i 0 != s.safeLevel i 1 then s.inputFault i ch 0 else s))

/-- TEST_PULSE: source `src` (0 TEST_A, 1 TEST_B) pulls low; `follow` and `returned` are the channels that followed the pulse
and came back within 100 µs.  A channel follows its own source and no other (R378). -/
def execTestPulse (src : Fin 2) (follow returned : BitVec 4) (s : State) : Host.Outcome State Fault Refusal :=
  s.run (fun s => s.safeIo (fun s =>
    let bad := [0, 1, 2, 3].filter (fun k => (s.safeIn (k / 2)).pulses &&
      (follow.getLsbD k != (k % 2 == src.val) || !returned.getLsbD k))
    let s := s.testDone 6 (!bad.isEmpty)
    s.each bad (fun s k => s.inputFault (k / 2) (k % 2) 1)))

/-- INPUT_FAULT_RECOVERED: both channels of faulted input `i` have agreed in the non-demand state for 1 s (R378). -/
def execInputFaultRecovered (i : Fin 2) (s : State) : Host.Outcome State Fault Refusal :=
  s.run (fun s => s.safeIo (fun s =>
    if (s.get F.SAFE_IO_input_fault).testBit i && s.safeLevel i 0 && s.safeLevel i 1 then
      ({ s with safe := { s.safe with agreed := s.safe.agreed.filter (fun k => k != i.val) ++ [i.val] } }).settleInputs
    else s))

/-! ### Safe outputs (R379) -/

/-- OUTPUT_TEST: the off-test of channel `ch` of output `o` begins or ends, with the readback 100 µs later.  An output that
something else holds off stays off, and the test passes if the readback shows off (Table SAFE-11). -/
def execOutputTest (o ch : Fin 2) (start readback : Bool) (s : State) : Host.Outcome State Fault Refusal :=
  s.run (fun s =>
    if !s.hasField then s
    else if start then
      let s := { s with safe := { s.safe with outTest := some (o.val, ch.val) } }
      if readback then
        ((({ s with safe := { s.safe with outTest := none } }).testDone 7 true).raise Code.SAFE_OUTPUT_FAULT [o, ch]).enterSafeHeld
          Code.SAFE_OUTPUT_FAULT (sourceUnit 0x11 255)
      else s
    else if s.safe.outTest != some (o.val, ch.val) then s
    else
      let s := { s with safe := { s.safe with outTest := none } }
      if readback == s.safeOutOn o ch then ((s.testDone 7 false).causeOff Code.SAFE_OUTPUT_FAULT).testCause
      else ((s.testDone 7 true).raise Code.SAFE_OUTPUT_FAULT [o, ch]).enterSafeHeld Code.SAFE_OUTPUT_FAULT (sourceUnit 0x11 255))

/-! ### SAFE_CMD (R379, R382, R384, R386) -/

/-- Reasons of SAFE_CMD_REFUSED. -/
def srROLE : Nat := 1
def srCAUSEACTIVE : Nat := 2
def srNOTPROVEN : Nat := 3
def srRATCHET : Nat := 4
def srBADCOMMAND : Nat := 5

/-- The result of the last command of port `i`. -/
def State.safeStatus (s : State) (i : Port) (code reason : Nat) : State :=
  (s.set (F.SAFE_CMD_STATUS_code i) code).set (F.SAFE_CMD_STATUS_reason i) reason

/-- A refused command changes nothing beyond its report. -/
def State.safeRefuse (s : State) (i : Port) (cmd reason : Nat) : State :=
  (s.raise Code.SAFE_CMD_REFUSED [i, cmd, reason]).safeStatus i Code.SAFE_CMD_REFUSED reason

/-- The reset of MANUAL output `o` outside the safe state: it takes effect once its demand has ended (R379). -/
def State.resetOutput (s : State) (o : Nat) : State :=
  if (s.safeOut o).manual && s.demandEnded o then s.setBit F.SAFE_IO_held o false else s

/-- Leave the safe state (R382): the checker repeats its start-up tests, every context enters NO_REFERENCE, and the first record
of each partition carries guard counter 0. -/
def State.leaveSafe (s : State) (origin : Nat) : State :=
  let s := s.raise Code.SAFE_STATE_LEFT [origin, (s.clk.now - s.safe.enteredAt) / samplesPerS]
  let s := s.set F.SAFE_STATUS_state safeSTART
  let s := s.each (upTo 64) (fun s c => if (s.ctxCfg c).defined then s.noReference c else s)
  let s := { s with safe := { s.safe with goldenSeen := [], seqFresh := upTo 8 } }
  (s.each [0, 1] State.resetOutput).settleInputs

/-- The safe state cannot be left: a cause is active, or a restart is needed after THERMAL_SHUTDOWN (R382). -/
def State.safeHeld (s : State) : Bool := !s.safe.active.isEmpty || s.safe.restartNeeded

/-- SAFE_RESET: SAFE_CMD RESET of a port, or the reset pulse on the field input that the SAFETY section names. -/
def execSafeReset (by_ : ResetBy) (s : State) : Host.Outcome State Fault Refusal :=
  s.run (fun s => match by_ with
    | .port i =>
      if !s.privileged i then s.safeRefuse i 1 srROLE
      else if s.isSafe then
        (if s.safeHeld then s.safeRefuse i 1 srCAUSEACTIVE else (s.safeChange (fun s => s.leaveSafe i)).safeStatus i 0 0)
      else (s.safeChange (fun s => (s.each [0, 1] State.resetOutput).settleInputs)).safeStatus i 0 0
    | .input n =>
      if !s.hasField then s
      else if s.isSafe then
        (if s.cfg.safety.resetByInput == some n.val && !s.safeHeld then s.safeChange (fun s => s.leaveSafe (0x100 + n)) else s)
      else s.safeChange (fun s =>
        (s.each [0, 1] (fun s o => if (s.safeOut o).resetInput == some n.val then s.resetOutput o else s)).settleInputs))

/-- FORCE_SAFE (R380, R386). -/
def execForceSafe (i : Port) (s : State) : Host.Outcome State Fault Refusal :=
  s.run (fun s =>
    if !s.privileged i then s.safeRefuse i 2 srROLE
    else ((s.raise Code.SAFE_FORCED [i]).enterSafe Code.SAFE_FORCED (sourceUnit 0x11 255)).safeStatus i 0 0)

/-- Set or clear the safety lock (R384): a ratchet step is spent before it takes effect. -/
def State.setLock (s : State) (i : Port) (cmd : Nat) (lock : Bool) : State :=
  if s.role i != roleOWNER then s.safeRefuse i cmd srROLE
  else if !s.boot.proven.contains i.val then s.safeRefuse i cmd srNOTPROVEN
  else if s.keep.safetyLeft = 0 then (s.raise Code.KEEP_RATCHET_EMPTY [ratSAFETY, i]).safeRefuse i cmd srRATCHET
  else
    let left := s.keep.safetyLeft - 1
    let s := s.spend ratSAFETY left (fun k => { k with safetyLeft := k.safetyLeft - 1 })
    let s := (s.keepWrite recLOCK (fun k => { k with lock := lock })).showKeep
    (s.raise Code.SAFE_LOCK_CHANGED [i, bit lock, left]).safeStatus i 0 0

/-- LOCK and UNLOCK (R384). -/
def execLock (i : Port) (s : State) : Host.Outcome State Fault Refusal := s.run (fun s => s.setLock i 3 true)
def execUnlock (i : Port) (s : State) : Host.Outcome State Fault Refusal := s.run (fun s => s.setLock i 4 false)

/-! ### The safety message (R383) -/

/-- SAFETY_MESSAGE: the heartbeat. -/
def execSafetyMessage (s : State) : Host.Outcome State Fault Refusal := s.run State.sendSafety

/-- Keep SAFE_STATUS.msg_link at "every named TIME port is linked". -/
def State.showMsgLink (s : State) : State :=
  s.setB F.SAFE_STATUS_msg_link ([0, 1].all (fun tp => !s.cfg.safety.msgPorts.testBit tp || s.timeLinked tp))

/-- SAFE_MSG_LINK: the Ethernet link of a TIME port comes up or goes down (R383). -/
def execSafeMsgLink (tp : Fin 2) (up : Bool) (s : State) : Host.Outcome State Fault Refusal :=
  s.run (fun s =>
    if !s.timePort tp || s.timeLinked tp == up then s
    else
      let s := { s with safe := { s.safe with down := if up then s.safe.down.filter (fun x => x != tp.val)
                                                     else s.safe.down ++ [tp.val] } }
      let s := s.showMsgLink
      if s.hasField && s.cfg.safety.msgPorts.testBit tp then s.raise Code.SAFE_MSG_LINK [tp, bit (!up)] else s)

end Sys2Proof.Machine
end

