-- ==== Sys2Proof/Machine/Boot.lean ====
section
/-! DEFINITION. Start-up (R33, R34, R38, R59, R67 to R69, R73 to R84, Tables BOOT-1 to BOOT-4): POWER_UP, the restart after an
over-voltage, and RESTART. -/

namespace Sys2Proof.Machine

/-! ### Units of the self-test (Table BOOT-2) -/

/-- Units in the order of the table, from 1. -/
def unitKEEP : Nat := 1
def unitLINES : Nat := 2
def unitCORE : Nat := 3
def unitSTRIPE : Nat := 4
def unitBITS : Nat := 5
def unitHBM : Nat := 6
def unitCHECKER : Nat := 7
def unitVALUES : Nat := 8

/-- The memory unit that a failing test names: check bits fail as the memory that they guard. -/
def guardedUnit (unit addr : Nat) : Nat :=
  if unit != unitBITS then unit
  else if addr < stripeBase 0 then unitCORE
  else if addr < lineStoreBase then unitSTRIPE
  else if addr < hbmBase then unitLINES
  else unitHBM

/-- The cores that a failed test declares failed: the core of a core SRAM, the cores of a stripe store's cluster. -/
def failedCores (f : Nat × Nat × Nat) : List Nat :=
  let u := guardedUnit f.1 f.2.2
  if u == unitCORE then [f.2.2 / 0x800000]
  else if u == unitSTRIPE then (upTo 5).map (fun j => 5 * ((f.2.2 - stripeBase 0) / 0x2000000) + j)
  else []

/-- The failed tests hold the safe state, or keep every partition from running. -/
def bootHolds (r : BootReport) : Bool :=
  r.failed.any (fun f => [unitLINES, unitHBM, unitCHECKER, unitVALUES].contains (guardedUnit f.1 f.2.2))
def bootStopsParts (r : BootReport) : Bool :=
  r.failed.any (fun f => [unitLINES, unitHBM].contains (guardedUnit f.1 f.2.2))

/-- The first hub unit that failed; 0 = none (Table KEEP-8). -/
def firstHubUnit (failed : List (Nat × Nat × Nat)) : Nat :=
  match failed.find? (fun f => !([unitCORE, unitSTRIPE].contains (guardedUnit f.1 f.2.2))) with
  | some f => f.1
  | none => 0

/-! ### The boot ROM (R75, R80, R83) -/

/-- Read the keep store: of each record the valid copy with the higher sequence number (R80); the fence list and the retire list
follow the same scheme (R131, R394). `torn` names the copies whose CRC does not fit. -/
def State.readKeep (s : State) (torn : List (Nat × Nat)) : State :=
  s.each torn (fun s e =>
    let (r, c) := e
    if r ≤ 8 then
      let b := s.boot.tear r c
      let from_ := if b.readsA r then b.copyA.content else b.copyB.content
      let k := if b.copyA.good r || b.copyB.good r then (Keep.takeRec r from_ s.keep).neverUp s.keep else s.keep
      { s with boot := b, keep := k }.raise Code.KEEP_WRITE_TORN [r]
    else if r = 9 then
      let now := s.cores.fenceSeq % 2
      if c = now then
        { s with cores := { s.cores with fence := s.cores.fenceOld, fenceSeq := s.cores.fenceSeq + 1 } }.raise Code.FENCE_LIST_TORN [1 - now]
      else s.raise Code.FENCE_LIST_TORN [now]
    else if c = s.integ.retiredSeq % 2 then
      { s with integ := { s.integ with retired := s.integ.retiredOld, retiredSeq := s.integ.retiredSeq + 1 } }
    else s)

/-- The self-test of the keep store: without a valid copy of some record the module takes the path of KEEP_IDENTITY_FAIL
(Table BOOT-2, R83). -/
def State.testKeep (s : State) (r : BootReport) : State :=
  if s.get F.KEEP_STATUS_identity == 1 && (s.keepLost || r.failed.any (fun f => f.1 == unitKEEP)) then
    ((s.setAll [(F.KEEP_STATUS_identity, 2), (F.KEEP_DEVICE_ID_word 0, 0), (F.KEEP_DEVICE_ID_word 1, 0)])).raise
      Code.KEEP_IDENTITY_FAIL [3]
  else s

/-- The failed self-tests of a start: those that the report names, and that of the keep store where both copies of a record are bad, which
is no pattern (0), at the record's number (Table BOOT-2; the two parameters are a DESIGN CHOICE). -/
def State.failedTests (s : State) (r : BootReport) : List (Nat × Nat × Nat) :=
  match s.lostRecord with
  | some n => if r.failed.any (fun f => f.1 == unitKEEP) then r.failed else (unitKEEP, 0, n) :: r.failed
  | none => r.failed

/-- The hub firmware in a slot verifies. -/
def State.firmwareOk (s : State) (k : Nat) : Bool := ((tfind s.flash.fw k).map (fun f => f.ok)).getD false

/-- The firmware slot that the boot ROM runs, and whether it fell back to the other one; none where none can run (R75). -/
def State.firmwareSlot (s : State) (tries : Nat) : Option (Nat × Bool) :=
  let k := s.keep.fwSlot
  let spent := s.keep.fwTrial && 3 ≤ s.keep.fwTries + tries
  if s.firmwareOk k && !spent then some (k, false)
  else if s.firmwareOk (1 - k) then some (1 - k, true)
  else none

/-- The hub firmware of slot `k` runs; it has reached its row, so that its tries begin again. After a fallback the boot record names the slot
that runs, without TRIAL mark and tries, so that the next start takes that slot without falling back: R75 only says that the boot ROM uses
the other slot and writes BOOT_FW_FALLBACK (DESIGN CHOICE). -/
def State.runFirmware (s : State) (k : Nat) (fell : Bool) (tries : Nat) : State :=
  let s := if fell then
      (s.keepWrite recBOOT (fun x => { x with fwSlot := k, fwTrial := false, fwTries := 0 })).raise Code.BOOT_FW_FALLBACK
        [k, s.keep.fwTries + tries]
    else s.keepWrite recBOOT (fun x => { x with fwTries := 0 })
  let s := { s with boot := { s.boot with fwDigest := ((tfind s.flash.fw k).map (fun (f : Firmware) => f.digest)).getD 0 } }
  s.setAll
    [(F.KEEP_STATUS_fw_slot, k), (F.KEEP_STATUS_fw_fallback, bit fell), (F.PACE_HUBFW_STATUS_active_slot, k),
     (F.PACE_HUBFW_STATUS_trial, bit s.keep.fwTrial)]

/-! ### The image (R67 to R69) -/

/-- The FULL image in slot `k` of flash, where it still matches its digest. -/
def State.slotImage (s : State) (r : BootReport) (k : Nat) : Option ImageFile :=
  if r.badSlots.contains k then none else tfind s.flash.full k

/-- Step 11 of Table ZLD-7 for the other slot `x` where slot `k` fails (R68): nothing runs yet, so that SAFETY and the upkeep mode are held
against what slot `k` says (DESIGN CHOICE). -/
def State.fallbackLock (s : State) (k : Nat) (x : ImageFile) : Option Failure :=
  let old := tfind s.flash.full k
  s.checkLockWith x 0 (((old.bind (fun o => o.safety)).map (fun y => y.digest)).getD 0)
    (((old.bind (fun o => o.structureSec)).map (fun t => t.upkeep)).getD ((x.structureSec.map (fun t => t.upkeep)).getD 0))

/-- The FULL slot and image to run: the committed one by its digest, else the other slot if it passes the checks (R67, R68). -/
def State.chooseImage (s : State) (r : BootReport) : Option (Nat × ImageFile × Bool) :=
  match s.keep.full with
  | none => none
  | some (k, d) =>
    match (s.slotImage r k).bind (fun x => if x.digest = d then some x else none) with
    | some x => some (k, x, false)
    | none =>
      (s.slotImage r (1 - k)).bind (fun x =>
        if x.header.kind == kindFULL && (x.checkFormat x.header.totalLength).isNone && (s.checkContent x 0).isNone &&
            (s.fallbackLock k x).isNone then
          some (1 - k, x, true)
        else none)

/-- A table from a list of numbered sections. -/
def sections {α : Type} (l : List (Nat × α)) : Tab α := l.foldl (fun t e => tput t e.1 e.2) []

/-- The running image of a FULL image; none where a module-wide section is missing. -/
def imageRun (x : ImageFile) : Option Running :=
  match x.structureSec, x.pace, x.safety, x.tables with
  | some t, some p, some y, some b =>
    some { structureSec := t, pace := p, safety := y, tables := b, partTables := sections x.partTables
           programs := sections x.programs, oldPrograms := [], oldTables := [], digest := x.digest }
  | _, _, _, _ => none

/-- Load the overlay of partition `p` that the commit record names, where it is sound and built on the running STRUCTURE;
else the partition runs what the FULL image gives it (R67). -/
def State.loadOverlay (s : State) (r : BootReport) (p : Nat) : State :=
  match tfind s.keep.overlays p with
  | none => s
  | some (k, d) =>
    match tfind s.flash.overlays (2 * p + k) with
    | none => s
    | some x =>
      if r.badSlots.contains (2 + 2 * p + k) || x.digest != d || x.header.baseDigest != s.cfg.structureSec.digest then s
      else
        let c := s.cfg
        let c := { c with programs := match x.programs.head? with | some e => tput c.programs p e.2 | none => c.programs
                          partTables := match x.partTables.head? with | some e => tput c.partTables p e.2 | none => c.partTables }
        { s with cfg := c }.setAll
          [(F.ZLD_OVERLAY_present p, 1), (F.ZLD_OVERLAY_slot p, k), (F.ZLD_OVERLAY_build p, x.header.build)]

/-- Run FULL image `x` of slot `k`. -/
def State.runImage (s : State) (r : BootReport) (k : Nat) (x : ImageFile) (c : Running) : State :=
  let s := { s with cfg := c }.setAll
    [(F.ZLD_ACTIVE_slot, k), (F.ZLD_ACTIVE_upkeep_mode, c.structureSec.upkeep), (F.ZLD_BUILD_build, x.header.build)]
  let s := s.each (upTo 16) (fun s i => s.set (F.ZLD_DIGEST_word i) (x.digest.toNat / 2 ^ (32 * i)))
  s.each (upTo 8) (fun s p => s.loadOverlay r p)

/-- The factory structure runs, with the safe state held for `code` (R69, R83). -/
def State.holdFactory (s : State) (code : Nat) : State :=
  let s := { s with cfg := Running.factory, safe := { s.safe with restartNeeded := true } }
  (s.set F.ZLD_ACTIVE_factory_structure 1).enterSafeHeld code (sourceUnit 0x02 255)

/-- Load the image: without a usable FULL slot, and without an identity, the factory structure runs, with the safe state held
(R69, R83). -/
def State.loadImage (s : State) (r : BootReport) : State :=
  if s.get F.KEEP_STATUS_identity == 2 then s.holdFactory Code.KEEP_IDENTITY_FAIL
  else match (s.chooseImage r).bind (fun e => (imageRun e.2.1).map (fun c => (e, c))) with
    | none => (s.raise Code.ZLD_NO_IMAGE []).holdFactory Code.ZLD_NO_IMAGE
    | some ((k, x, fell), c) =>
      let s := if fell then
          (s.raise Code.ZLD_BOOT_FALLBACK [k]).keepWrite recCOMMIT (fun y => { y with full := some (k, x.digest) })
        else s
      s.runImage r k x c

/-! ### Cores (R123, R131) -/

/-- The fence list after a start: cleared cores that pass the self-test leave it, and cores that fail it enter (R131). -/
def State.fenceCores (s : State) (failing : List Nat) : State :=
  let kept := s.cores.fence.filter (fun c => failing.contains c || !s.cores.fenceClear.contains c)
  let new := failing.filter (fun c => !kept.contains c)
  let fence := kept ++ new
  let s := (s.fenceWrite fence)
  let s := { s with cores := { s.cores with fenceClear := [] } }
  s.each new (fun s c => (s.set (F.CORE_FAIL_cause c) failSTART).raise Code.CORE_FAILED [c, failSTART, 0xFFFF])

/-- The map of cluster `k`: logical core i stands on physical index i, and the spare, index 4, stands in for the lowest
logical core whose own is in the fence list; a further one is LOST (R131, Table CORE-6). -/
def State.mapCluster (s : State) (k : Nat) : State :=
  let bad := fun j => s.cores.fence.contains (5 * k + j)
  let stand := if bad 4 then none else (upTo 4).find? bad
  let index := fun i => if !bad i then i else if stand == some i then 4 else 7
  let s := s.each (upTo 4) (fun s i => s.setMap (4 * k + i) (index i))
  let lost := (upTo 4).filter (fun i => index i == 7)
  let s := s.each (upTo 5) (fun s j =>
    let c := 5 * k + j
    let l := (upTo 4).find? (fun i => index i == j)
    let role := if bad j then coreFAILED else if l.isSome then coreACTIVE else coreSPARE
    s.setAll
      [(F.CORE_ID_physical c, c), (F.CORE_ID_cluster c, k), (F.CORE_ID_die c, dieOf k), (F.CORE_ID_role c, role),
       (F.CORE_ID_logical c, match l with | some i => 4 * k + i | none => 63)])
  let spare := !bad 4 && stand.isNone
  let s := s.setAll
    [(F.CORE_CLUSTER_spare_left (5 * k), bit spare), (F.CORE_CLUSTER_spare_index (5 * k), if spare then 4 else 7),
     (F.CORE_CLUSTER_lost (5 * k), maskOf 4 (fun i => index i == 7)), (F.CORE_CLUSTER_failed (5 * k), maskOf 5 bad),
     (F.CORE_CLUSTER_detours (5 * k), min (tget 0 s.cores.everDetours k) 255)]
  let s := s.each (upTo 5) (fun s j => s.showOwner (5 * k + j))
  s.each lost (fun s i => s.raise Code.CORE_LOST [4 * k + i, (s.partOf (4 * k + i)).getD 255])

/-- The detours of cores that failed the self-test of this start: each lands at the first period boundary, before which the spare
stands in for it (Table BOOT-2, R128, R131). -/
def State.startDetours (s : State) (new : List Nat) : State :=
  s.each new (fun s c =>
    let k := c / 5
    if c % 5 != 4 && s.mapIndex (4 * k + c % 5) == 4 then
      let s := { s with cores := { s.cores with everDetours := tput s.cores.everDetours k (tget 0 s.cores.everDetours k + 1) } }
      (s.inc (F.CORE_CLUSTER_detours (5 * k))).raise Code.CORE_DETOUR [c, 5 * k + 4, s.period + 1]
    else s)

/-! ### Pace and voltage (R105 to R108) -/

/-- The core voltage with which die `d` begins, and the v_start it shows: v_start, and where the planner runs, plus the raises that the
slack log records, up to v_ceiling (R105, R106). In LIVE upkeep v_start is the factory value (R105). -/
def State.startVolts (s : State) (d : Nat) : Nat × Nat :=
  let factory := match s.keep.baseline with | some b => b.vStart.getD d defaultStart | none => defaultStart
  let v0 := if s.ageing then s.cfg.pace.vStart.getD factory else factory
  let logged := (s.flash.slack.map (fun x => x.volts.getD d 0)).foldl max 0
  (if s.ageing then max v0 (min logged (s.get F.PACE_TABLE1_v_ceiling)) else v0, v0)

/-- The planned pace `p` is in force from the start. -/
def State.beginPace (s : State) (p : Nat) : State :=
  (s.setAll
    [(F.PACE_STATUS_planned_pace, p), (F.PACE_STATUS_pace, p), (F.PACE_PLAN_STATUS_proposal_pending, 0),
     (F.PACE_PLAN_STATUS_proposed_pace, 0)])

/-- Voltages and pace at a start, and the start's evaluation, before any partition runs (R79, R105 to R108): the pace begins at the
proposal that waited, or at the planned pace of the run before, which gives way to rated_pace where every projection there reaches
guard. -/
def State.startPace (s : State) : State :=
  let vStep := s.get F.PACE_TABLE1_v_step
  let s := s.each s.dies (fun s d =>
    let (v, v0) := s.startVolts d
    s.setAll
      [(F.PACE_DIE_voltage d, v), (F.PACE_DIE_v_start d, v0), (F.PACE_DIE_at_ceiling d, bit (s.get F.PACE_TABLE1_v_ceiling ≤ v))])
  let rated := s.get F.PACE_TABLE0_rated_pace
  let kept := if s.ageing then min (max rated s.pace.kept) (s.get F.PACE_TABLE0_pace_ceiling) else rated
  let s := { s with pace := { s.pace with kept := 0 } }
  match s.keep.baseline with
  | none => (s.beginPace kept).showReduced
  | some b =>
    let s := s.each b.slack (fun s e => s.set (F.PACE_SLACK_baseline e.1) (satSigned 12 e.2))
    if !s.ageing then s
    else
      -- history is the baseline, at the voltage of the start and at rated_pace (Table BOOT-4)
      let base := fun (s : State) (c : Nat) =>
        let d := dieOfCore c
        let steps := (s.get (F.PACE_DIE_voltage d) - s.get (F.PACE_DIE_v_start d)) / max vStep 1
        tget 0 b.slack c + (steps * s.gainOf d : Nat)
      let s := s.each s.plannedCores (fun s c => s.set (F.PACE_SLACK_slack c) (satSigned 12 (base s c)))
      let back := s.plannedCores.all (fun c => ((s.guard : Int) : Rat) ≤ s.projected c)
      let p := if back then rated else kept
      let s := (s.beginPace p).each s.plannedCores (fun s c => s.set (F.PACE_SLACK_slack c) (satSigned 12 (base s c + (p - rated : Nat))))
      let s := s.plan
      let s := if s.on F.PACE_PLAN_STATUS_proposal_pending then s.beginPace (s.get F.PACE_PLAN_STATUS_proposed_pace) else s
      s.showReduced

/-! ### The recorder (R418) -/

/-- The recorder finds the head of its ring and puts RECORDER_START before the waymarks that were raised earlier. -/
def State.startRecorder (s : State) (scanMs : Nat) : State :=
  let r := s.recorder
  let head := match tfind r.flash ((r.headPos + ringRecords - 1) % ringRecords) with
    | some w => (w.seq + 1) % 2 ^ 32
    | none => 0
  let s := s.set F.WAYM_HEAD_SEQ_seq head
  let s := s.setAll [(F.WAYM_OLDEST_SEQ_seq, s.oldestSeq), (F.WAYM_STATUS_scan_done, 1),
    (F.WAYM_WEAR_erases, (r.wear.map (fun e => e.2)).foldl max 0)]
  let found := (r.flash.filter (fun e => !r.torn.contains e.1)).length
  let w := s.mkWaymark 255 Code.RECORDER_START [head, found, scanMs]
  let b := w :: s.recorder.buffer
  ({ s with recorder := { s.recorder with buffer := b } }).set F.WAYM_STATUS_buffered b.length

/-! ### The sequence -/

/-- Field supplies that are low at the start are shown and reported, and hold the safe state (R35); the inputs read 0. -/
def State.startField (s : State) : State :=
  if !s.hasField then s
  else
    let s := s.each (upTo 4) (fun s g => match tfind s.board.groupsLow g with
      | some v => ((s.setBit F.CAP_BOARD_STATUS_group_low g true).setBit F.FIO_STATUS_group_low g true).raise Code.GROUP_SUPPLY_LOW [g, v, 0]
      | none => (s.setBit F.CAP_BOARD_STATUS_group_low g false).setBit F.FIO_STATUS_group_low g false)
    match s.board.fieldLow with
    | some v => (s.fieldDown).raise Code.FIELD_SUPPLY_LOW [v, 0] |>.enterSafeHeld Code.FIELD_SUPPLY_LOW (sourceUnit 0x01 255)
    | none => (s.set F.CAP_BOARD_STATUS_field_low 0).set F.FIO_STATUS_field_low 0

/-- An encoder supply pin that is shorted at the start is a channel supply fault again (R27, R308). -/
def State.startEncoders (s : State) : State :=
  s.each s.board.encShort (fun s k =>
    let s := s.raise Code.ENC_SUPPLY_FAULT [k / 2, k % 2]
    (s.setChan (k / 2) { s.chan (k / 2) with supply := true }).posFault (k / 2) 2)

/-- Links whose training row failed at the start write BOOT_TRAINING_FAIL (R78): PCI Express ports that the split creates, TIME ports
whose islands are enabled, and HBM. -/
def State.trainingResults (s : State) (r : BootReport) : State :=
  let s := s.each ((upTo 4).filter (fun i => s.hasPort i && !r.pcieUp.testBit i)) (fun s i => s.bootTrainFail linkPCIE i)
  let s := s.each ([0, 1].filter (fun t => s.timePort t && !r.timeUp.testBit t)) (fun s t => s.bootTrainFail linkTIME t)
  if r.hbmUp then s else s.bootTrainFail linkHBM 0

/-- At the end of start-up the clock reads the time since the hub rails were good, in the first 20 ms of it, or since the RESTART began (R325):
when in those 20 ms is free. -/
def State.bootClock (s : State) (again : Bool) (r : BootReport) : State :=
  let (v, s) := s.draw
  s.setClock (1000000 * r.bootMs - (if again then 0 else v % 20000001))

/-- The start-up from the row "hub firmware running" (Table BOOT-1): self-test, image, clear, map, and the values that every
block has when BAR0 is ready. -/
def State.startUp (s : State) (again : Bool) (r : BootReport) : State :=
  let s := (s.bootClock again r).raise Code.BOOT_START [s.get F.KEEP_POWER_CYCLES_count, bit again]
  let s := (s.testKeep r).startField
  let failing := ((r.failed.flatMap failedCores).filter (fun c => c < s.coreCount)).eraseDups
  let tests := s.failedTests r
  let s := s.each tests (fun s f => s.raise Code.BOOT_SELFTEST_FAIL [f.1, f.2.1, f.2.2])
  let s := s.setAll [(F.KEEP_SELFTEST_failed_cores, failing.length), (F.KEEP_SELFTEST_failed_unit, firstHubUnit tests)]
  let s := { s with boot := { s.boot with startMs := r.bootMs, pcieUp := r.pcieUp, hbmUp := r.hbmUp }, safe := { s.safe with
    seqFresh := upTo 8, down := [0, 1].filter (fun t => !r.timeUp.testBit t) } }
  let s := (s.loadImage r).showKeep.configure.startEncoders
  let new := failing.filter (fun c => !s.cores.fence.contains c)
  let s := s.fenceCores failing
  let s := (s.each (upTo s.clusters) State.mapCluster).startDetours new
  let s := s.startPace
  let s := s.each (upTo 8) State.startPool
  let s := s.each (upTo 8) (fun s p => s.set (F.ROUTE_PAGES_held p) (s.kvPages p))
  let s := s.showWalkers.showEngines
  let s := s.each (upTo 8) (fun s d => if (s.divCfg d).source == 2 then s.startDivider d s.rawMs else s)
  let s := s.each (upTo 256) (fun s w =>
    let (v, s) := s.draw
    s.tripWrite w (v % 2 ^ 32))
  let runs := !bootStopsParts r
  let s := { s with board := { s.board with diesOff := !runs } }
  let s := s.setB F.ROUTE_STATUS_builder_running (runs && (upTo 8).any (fun p => (s.part p).defined))
  let s := s.checkFit 0 true
  -- MANUAL outputs need their reset (R379)
  let s := if s.hasField then s.set F.SAFE_IO_held (maskOf 2 (fun o => (s.safeOut o).manual)) else s
  let s := (if s.hasField then s.kickKind wdMILEPOST else s).kickKind wdCHECKER
  let s := if bootHolds r then
      { s with safe := { s.safe with restartNeeded := true } }.enterSafeHeld Code.TEST_FAILED (sourceUnit 0x11 255)
    else s
  let s := { s.startRecorder r.scanMs with power := .on }
  let s := s.set F.KEEP_STATUS_boot_phase phaseTRAINING
  (s.trainingResults r).checkBooted

/-- A cold start (R73): the identity, the keep store, the hub firmware, and the rest of the sequence; where no firmware slot can
run the module stays in the boot ROM with every output off (R75). -/
def State.coldStart (s : State) (r : BootReport) : State :=
  let s := if s.power == .offOverVoltage then s.set F.CAP_BOARD_STATUS_last_off_overvoltage 1 else s
  -- without the keep store's two copies the identity cannot be reconstructed either (Table BOOT-2)
  let known := r.pufOk && !r.failed.any (fun f => f.1 == unitKEEP)
  let s := if known then s.set F.KEEP_STATUS_identity 1
    else (s.set F.KEEP_STATUS_identity 2).raise Code.KEEP_IDENTITY_FAIL [3]
  let s := if known then
      s.setAll [(F.KEEP_DEVICE_ID_word 0, deviceId), (F.KEEP_DEVICE_ID_word 1, deviceId / 2 ^ 32)]
    else s
  -- the boot ROM has cleared the PUF region (R77, R83)
  let s := { s with boot := { s.boot with pufClear := true } }
  let s := s.readKeep r.torn
  let n := min (s.keep.cycles + 1) (2 ^ 24 - 1)
  let s := s.keepWrite recCOUNTERS (fun k => { k with cycles := n })
  let s := (s.set F.KEEP_POWER_CYCLES_count n).set64 F.KEEP_OP_SECONDS_LO_seconds F.KEEP_OP_SECONDS_HI_seconds s.keep.seconds
  -- the waymarks raised before are stamped now (R417)
  let marks := s.recorder.buffer.map (fun (w : Waymark) => { w with opSec := s.keep.seconds, cycles := n })
  let s := { s with recorder := { s.recorder with early := false, buffer := marks } }
  match s.firmwareSlot r.tries with
  | none => { s.bootClock false r with power := .bootRom }
  | some (k, fell) => (s.runFirmware k fell r.tries).startUp false r

/-- POWER_UP: +48V rises through 39.0 V (R34, R73). -/
def execPowerUp (r : BootReport) (s : State) : Host.Outcome State Fault Refusal :=
  s.become (if s.power == .off || s.power == .offOverVoltage then (s.coldStart r).driveOutputs else s)

/-- OVERVOLTAGE_RESTART: +48V has been below 60 V for 1 s after an over-voltage switch-off (R38). -/
def execOvervoltageRestart (r : BootReport) (s : State) : Host.Outcome State Fault Refusal :=
  s.become (if s.power == .offOverVoltage then (s.coldStart r).driveOutputs else s)

/-- What a RESTART leaves of a running module: beside what outlasts a switch-off, the waymarks that wait, the identity, the
counters, and what the board's pins read. -/
def State.restartBase (s : State) : State :=
  let t := s.powerDown .on
  let marks : Recorder := { t.recorder with
    buffer := s.recorder.buffer, early := false, lost := s.recorder.lost, lostSev := s.recorder.lostSev,
    dropBefore := s.recorder.dropBefore, erasing := s.recorder.erasing }
  let t : State := { t with
    recorder := marks, board := { t.board with encShort := s.board.encShort }, boot := { t.boot with pufClear := s.boot.pufClear },
    regs := s.regs.filter (fun e => 0x800 ≤ e.1 && e.1 < 0x814) }
  let t := t.setAll
    [(F.CAP_BOARD_STATUS_dip_seen, 0), (F.CAP_BOARD_STATUS_derated, 0), (F.CAP_BOARD_STATUS_last_off_overvoltage, 0),
     (F.FIO_IN_state, s.get F.FIO_IN_state), (F.KEEP_STATUS_identity, s.get F.KEEP_STATUS_identity),
     (F.KEEP_DEVICE_ID_word 0, s.get (F.KEEP_DEVICE_ID_word 0)), (F.KEEP_DEVICE_ID_word 1, s.get (F.KEEP_DEVICE_ID_word 1)),
     (F.KEEP_STATUS_restarted, 1), (F.KEEP_POWER_CYCLES_count, s.get F.KEEP_POWER_CYCLES_count)]
  t.set64 F.KEEP_OP_SECONDS_LO_seconds F.KEEP_OP_SECONDS_HI_seconds s.opSeconds

/-- RESTART of port `i`: through the safe state, and the start-up sequence from the point where the hub firmware runs (R59); the
boot record's firmware slot runs from it (R111). The spec states neither what becomes of a load session, which ends here with
ZLD_ABORTED, cause reset, its slot left empty, nor the cause code of the safe state, here 0 (DESIGN CHOICE). -/
def execRestart (i : Port) (r : BootReport) (s : State) : Host.Outcome State Fault Refusal :=
  s.run (fun s =>
    if !s.privileged i then (s.raise Code.ZLD_ROLE [i, 0]).zldResult i Code.ZLD_ROLE 0 0
    else
      let s := ((s.zldEnd 1).enterSafe 0 (sourceUnit 0x02 i)).driveOutputs
      let t := s.restartBase.readKeep r.torn
      let (k, fell) := (t.firmwareSlot 0).getD (s.get F.PACE_HUBFW_STATUS_active_slot, false)
      (t.runFirmware k fell 0).startUp true r)

end Sys2Proof.Machine
end

