-- ==== Sys2Proof/Machine/Functions.lean ====
section
/-! DEFINITION. The functions of VFUNC (R153, Table ARITH-9).  Each is computed in integers scaled by 2^448, far beyond the
precision of any destination, and handed to the one rounding with a last bit that marks what lies below it.  Arguments so
small that the function is its first term, and so large that it is its limit, keep that term with the side on which the
function lies.  Special cases follow the recommended operations of IEEE 754-2019. -/

namespace Sys2Proof.Machine

/-- Bits below the point in the fixed-point numbers of this file. -/
def fixP : Nat := 448

/-- ln 2, scaled by 2^448. -/
def fixLn2 : Nat := 0xb17217f7d1cf79abc9e3b39803f2f6af40f343267298b62d8a0d175b8baafa2be7b876206debac98559552fb4afa1b10ed2eae35c1382144

/-- π/2, scaled by 2^640. -/
def fixHalfPi : Nat := 0x1921fb54442d18469898cc51701b839a252049c1114cf98e804177d4c76273644a29410f31c6809bbdf2a33679a748636605614dbe4be286e9fc26adadaa3848bc90b6aecc4bcfd8de89885d34c6fdad6

/-- 2 / √π, scaled by 2^448. -/
def fixErf : Nat := 0x120dd750429b6d11ae3a914fed7fd8688281341d7587cea2e7342b06199cc416180eb39f0b24e1e2281806c12d98f35d77a3e9ddc91c394f0

/-- A positive fixed-point number `y × 2^(e - 448)`, known to within some units of its last bits: the low 32 bits give
way to one bit that marks a rest. -/
def fixValue (neg : Bool) (y : Nat) (e : Int) : FV := .fin neg (2 * (y >>> 32) + 1) (e - fixP + 31)

/-- The value `m × 2^e`, moved by less than any rounding can tell, away from zero or toward it. -/
def nudged (away neg : Bool) (m : Nat) (e : Int) : FV := .fin neg (if away then (m <<< 64) + 1 else (m <<< 64) - 1) (e - 64)

/-- The dyadic number `± m × 2^e` scaled by 2^p, rounded down. -/
def fixOf (p : Nat) (neg : Bool) (m : Nat) (e : Int) : Int :=
  let k := e + p
  let v := sgn neg m
  if 0 ≤ k then v * 2 ^ k.toNat else v / 2 ^ (-k).toNat

/-- Terms `t`, `t r / (k+1)`, … of the exponential series, summed. -/
def expTerms (r : Int) : Nat → Nat → Int → Int → Int
  | 0, _, _, acc => acc
  | n + 1, k, t, acc => expTerms r n (k + 1) (t * r / 2 ^ fixP / (k + 1 : Nat)) (acc + t)

/-- e^r for |r| below 1. -/
def fixExp (r : Int) : Nat := (expTerms r 110 0 (2 ^ fixP) 0).toNat

/-- e^x as a fixed-point number and a power of two, for |x| below 2^12. -/
def fixExpOf (x : Int) : Nat × Int :=
  let k := (2 * x + fixLn2) / (2 * fixLn2 : Nat)
  (fixExp (x - k * (fixLn2 : Nat)), k)

/-- Terms of the inverse hyperbolic tangent of `z`: `t` = z^(2k+1), `z2` = z². -/
def atanhTerms (z2 : Int) : Nat → Nat → Int → Int → Int
  | 0, _, _, acc => acc
  | n + 1, k, t, acc => atanhTerms z2 n (k + 1) (t * z2 / 2 ^ fixP) (acc + t / (2 * k + 1 : Nat))

/-- ln (m × 2^e) for m above 0, scaled by 2^448. -/
def fixLog (m : Nat) (e : Int) : Int :=
  -- m × 2^e = y × 2^k with y in [3/4, 3/2)
  let k0 := (bitLen m : Int) - 1
  let big := decide (3 * 2 ^ k0.toNat ≤ 2 * m)
  let k := if big then k0 + 1 else k0
  -- z = (y - 1) / (y + 1) with y = m / 2^k
  let d := (2 : Int) ^ k.toNat
  let z := ((m : Int) - d) * 2 ^ fixP / ((m : Int) + d)
  2 * atanhTerms (z * z / 2 ^ fixP) 130 0 z 0 + (k + e) * (fixLn2 : Nat)

/-- Terms of the sine (`k` = 1) or cosine (`k` = 0) series: each term is the one before times −r² / ((k+1)(k+2)). -/
def trigTerms (r2 : Int) : Nat → Nat → Int → Int → Int
  | 0, _, _, acc => acc
  | n + 1, k, t, acc => trigTerms r2 n (k + 2) (-(t * r2 / 2 ^ fixP / ((k + 1) * (k + 2) : Nat))) (acc + t)

/-- sin r or cos r for r in [0, π/2]. -/
def fixTrig (cosine : Bool) (r : Int) : Int :=
  let r2 := r * r / 2 ^ fixP
  if cosine then trigTerms r2 60 0 (2 ^ fixP) 0 else trigTerms r2 60 1 r 0

/-- Terms of the series Σ (−x²)^k / (k! (2k+1)). -/
def erfTerms (x2 : Int) : Nat → Nat → Int → Int → Int
  | 0, _, _, acc => acc
  | n + 1, k, t, acc => erfTerms x2 n (k + 1) (-(t * x2 / 2 ^ fixP / (k + 1 : Nat))) (acc + t / (2 * k + 1 : Nat))

/-- A signed fixed-point number as a value. -/
def fixSigned (y : Int) (e : Int) : FV := fixValue (decide (y < 0)) y.natAbs e

/-! ### The functions of finite non-zero arguments `± m × 2^e`; `x` is log2 of the argument, rounded down -/

/-- e^x, or 2^x where `two`. -/
def fnExp (two neg : Bool) (m : Nat) (e : Int) : FV :=
  let x := (FV.fin neg m e).expo
  if x ≥ 11 then (if neg then .fin false 1 (-3000) else .fin false 1 3000)
  else if x < -40 then nudged (!neg) false 1 0
  else if two then
    -- an integer gives an exact power
    let f := fixOf fixP neg m e
    let n := f / 2 ^ fixP
    let r := f % 2 ^ fixP
    if r = 0 then .fin false 1 n else fixValue false (fixExp (r * (fixLn2 : Nat) / 2 ^ fixP)) n
  else
    let (y, k) := fixExpOf (fixOf fixP neg m e)
    fixValue false y k

/-- e^x − 1. -/
def fnExpm1 (neg : Bool) (m : Nat) (e : Int) : FV :=
  let x := (FV.fin neg m e).expo
  if x ≥ 11 then (if neg then nudged false true 1 0 else .fin false 1 3000)
  else if x < -40 then nudged (!neg) neg m e
  else
    let (y, k) := fixExpOf (fixOf fixP neg m e)
    -- y 2^k − 1 over the power 2^(k − 448), or 2^−448 for k above 0
    if 0 ≤ k then fixSigned ((y <<< k.toNat : Nat) - 2 ^ fixP) 0
    else fixSigned ((y : Int) - 2 ^ (fixP + (-k).toNat)) k

/-- ln x, or log2 x where `two`, for x above 0. -/
def fnLog (two : Bool) (m : Nat) (e : Int) : FV :=
  let k := (bitLen m : Int) - 1
  if m = 2 ^ k.toNat && (two || k + e = 0) then
    let i := k + e
    .fin (decide (i < 0)) i.natAbs 0
  else
    let y := fixLog m e
    fixSigned (if two then y * 2 ^ fixP / (fixLn2 : Nat) else y) 0

/-- ln (1 + x), for x above −1. -/
def fnLog1p (neg : Bool) (m : Nat) (e : Int) : FV :=
  if (FV.fin neg m e).expo < -40 then nudged neg neg m e
  else
    match (FV.fin false 1 0).add (.fin neg m e) with
    | .fin _ n k => fnLog false n k
    | v => v

/-- 1 / √x for x above 0. -/
def fnRsqrt (m : Nat) (e : Int) : FV :=
  let m1 := if e % 2 = 0 then m else 2 * m
  let e1 := if e % 2 = 0 then e else e - 1
  let k := 128 + bitLen m1
  let y := isqrt (2 ^ (2 * k) / m1)
  .fin false (2 * y + if y * y * m1 = 2 ^ (2 * k) then 0 else 1) (-(e1 / 2) - k - 1)

/-- sin x or cos x with exact argument reduction. -/
def fnTrig (cosine neg : Bool) (m : Nat) (e : Int) : FV :=
  if (FV.fin neg m e).expo < -20 then (if cosine then nudged false false 1 0 else nudged false neg m e)
  else
    let f := (fixOf 640 false m e).toNat
    let n := f / fixHalfPi
    let r := ((f % fixHalfPi) >>> (640 - fixP) : Nat)
    let q := if cosine then n + 1 else n
    -- quadrant q of the sine
    let y := fixTrig (q % 2 = 1) r
    let flip := decide (2 ≤ q % 4)
    fixSigned (if flip != (neg && !cosine) then -y else y) 0

/-- tanh x. -/
def fnTanh (neg : Bool) (m : Nat) (e : Int) : FV :=
  let x := (FV.fin neg m e).expo
  if x ≥ 6 then nudged false neg 1 0
  else if x < -20 then nudged false neg m e
  else
    -- (1 − t) / (1 + t) with t = e^(−2|x|)
    let (y, k) := fixExpOf (fixOf fixP true m (e + 1))
    let t := y >>> (-k).toNat
    (FV.fin neg (2 ^ fixP - t) 0).div (.fin false (2 ^ fixP + t) 0)

/-- 1 / (1 + e^−x). -/
def fnSigmoid (neg : Bool) (m : Nat) (e : Int) : FV :=
  let x := (FV.fin neg m e).expo
  if x ≥ 8 then (if neg then .fin false 1 (-3000) else nudged false false 1 0)
  else if x < -40 then nudged (!neg) false 1 (-1)
  else
    let (y, k) := fixExpOf (fixOf fixP true m e)
    -- t = e^−|x|: 1 / (1 + t), or t / (1 + t) for a negative x
    let one := 2 ^ (fixP + (-k).toNat)
    (FV.fin false (if neg then y else one) 0).div (.fin false (one + y) 0)

/-- erf x. -/
def fnErf (neg : Bool) (m : Nat) (e : Int) : FV :=
  let a := FV.fin neg m e
  if (FV.fin false 6 0).lt a.abs = some true then nudged false neg 1 0
  else
    let x2 := fixOf fixP false (m * m) (2 * e)
    let g := erfTerms x2 320 0 (2 ^ fixP) 0
    -- x times 2/√π times the series
    match fixSigned (g * (fixErf : Nat) / 2 ^ fixP) 0 with
    | .fin _ n k => .fin neg (n * m) (k + e)
    | v => v

/-- Function `i` of Table ARITH-9 (R153). -/
def vfunc (i : Nat) (v : FV) : FV :=
  match v with
  | .nan => .nan
  | .inf n =>
    if i = 0x01 || i = 0x02 then (if n then .fin false 0 0 else .inf false)
    else if i = 0x03 then (if n then .fin true 1 0 else .inf false)
    else if i ≤ 0x06 then (if n then .nan else .inf false)
    else if i = 0x07 then v.sqrt
    else if i = 0x08 then (if n then .nan else .fin false 0 0)
    else if i = 0x09 then .fin n 0 0
    else if i ≤ 0x0B then .nan
    else if i = 0x0D then (if n then .fin false 0 0 else .fin false 1 0)
    else .fin n 1 0
  | .fin n m e =>
    if m = 0 then
      if i = 0x01 || i = 0x02 || i = 0x0B then .fin false 1 0
      else if i = 0x04 || i = 0x05 then .inf true
      else if i = 0x08 || i = 0x09 then .inf n
      else if i = 0x0D then .fin false 1 (-1)
      else .fin n 0 0
    else if i = 0x01 then fnExp false n m e
    else if i = 0x02 then fnExp true n m e
    else if i = 0x03 then fnExpm1 n m e
    else if i = 0x04 || i = 0x05 then (if n then .nan else fnLog (i = 0x05) m e)
    else if i = 0x06 then
      if !n then fnLog1p n m e
      else match (FV.fin false 1 0).add v with
        | .fin s k _ => if k = 0 then .inf true else if s then .nan else fnLog1p n m e
        | _ => .nan
    else if i = 0x07 then v.sqrt
    else if i = 0x08 then (if n then .nan else fnRsqrt m e)
    else if i = 0x09 then (FV.fin false 1 0).div v
    else if i = 0x0A then fnTrig false n m e
    else if i = 0x0B then fnTrig true n m e
    else if i = 0x0C then fnTanh n m e
    else if i = 0x0D then fnSigmoid n m e
    else fnErf n m e

end Sys2Proof.Machine
end

