-- ==== Sys2Proof/Machine/Words.lean ====
section
/-! DEFINITION. The issue of the 128-bit words of a route sheet (R156): the tokens they wait on and signal (R168 to R171), the buffers
that hold a producer (R120), and what every word does around its own effect: whether it issues or waits, and ILLEGAL_WORD where it fails
decode (R157). -/

namespace Sys2Proof.Machine

/-! ### Legs and addresses of a core -/

/-- Core `c` issues words: it is not failed or absent, and its die has power. -/
def State.issues (s : State) (c : Nat) : Bool :=
  !s.board.diesOff && (s.coreRole c == coreACTIVE || s.coreRole c == coreSPARE || s.coreRole c == corePREPARING)

/-- The leg whose words a group of core `c` issues: the first that the core has still to complete and that uses the
group. -/
def State.legIn (s : State) (c group : Nat) : Option LegRun :=
  (s.logicalOf c).bind (fun l => (s.legsOn l).find? (fun g => (s.legDecl g).groups.testBit group))

/-- The partition that core `c` belongs to. -/
def State.corePart (s : State) (c : Nat) : Nat := ((s.logicalOf c).bind s.partOf).getD 0

/-- The address of an offset, in 64-byte units, in a space of Table ARITH-13 as core `c` sees it: own core SRAM, own
cluster's stripe store, partition HBM pages, hub line store, another cluster's stripe store (offsets over the stripe stores in
cluster order). -/
def State.spaceAddr (s : State) (c space off : Nat) : Nat :=
  if space = 0 then sramBase c + 64 * off % 0x800000
  else if space = 1 then stripeBase (c / 5) + 64 * off % 0x2000000
  else if space = 2 then s.partAddr (s.corePart c) (64 * off % (65536 * s.reach (s.corePart c)))
  else if space = 3 then lineStoreBase + 64 * off % 0x4000000
  else stripeBase 0 + 64 * off % 0x10000000

/-- A location field (Table CONV-9): [2:0] space, [31:3] offset in 64-byte units. -/
def State.locAddr (s : State) (c loc : Nat) : Nat := s.spaceAddr c (loc % 8) (loc / 8 % 2 ^ 29)

/-! ### Tokens (R168 to R171) -/

/-- The leg that binds a token of core `c` to a verge slot, the logical core and the binding. -/
def State.vergeOf (s : State) (c tok : Nat) : Option (LegRun × Nat × VergeCfg) :=
  if tok < 4 then none
  else
    (s.logicalOf c).bind (fun l =>
      (s.legsOn l).findSome? (fun g =>
        ((s.legDecl g).verges.find? (fun v => v.token == tok && g.cores.getD v.core 64 == l)).map (fun v => (g, l, v))))

/-- The leg that binds a token of core `c` to a verge slot, the logical core and the slot's address. -/
def State.vergeBound (s : State) (c tok : Nat) : Option (LegRun × Nat × Nat) :=
  (s.vergeOf c tok).map (fun e => (e.1, e.2.1, s.spaceAddr c e.2.2.space e.2.2.offset))

/-- The verge slot that a token of core `c` is bound to. -/
def State.vergeSlot (s : State) (c tok : Nat) : Option Nat := (s.vergeBound c tok).map (fun e => e.2.2)

/-- The generation that the sheet's header gives for a token of core `c` (R168, Table ROUTE-7), until `used` tells that its leg has counted one
at the slot. -/
def State.headGen (s : State) (c tok : Nat) (used : Nat × Nat → Bool) : Option Nat :=
  (s.vergeBound c tok).bind (fun e =>
    let (g, l, a) := e
    if g.verges.any (fun e => e.1 == l && e.2.1 == a && used e.2.2) then none
    else (g.firstGen.find? (fun e => e.1 == l && e.2.1 == tok)).map (fun e => e.2.2))

/-- The generations that a verge token of core `c`, bound to slot `a`, takes and posts next: a leg's first is the header's (R168 to R170). -/
def State.takeGen (s : State) (c tok a : Nat) : Nat := (s.headGen c tok (fun e => e.1 != 0)).getD (tget 2 s.route.vergeGet a)
def State.postGen (s : State) (c tok a : Nat) : Nat := (s.headGen c tok (fun e => e.2 != 0)).getD (tget 2 s.route.vergePut a)

/-- A leg counts what it takes and posts at a verge slot. -/
def State.noteVerge (s : State) (c tok taken posted : Nat) : State :=
  match s.vergeBound c tok with
  | none => s
  | some (g, l, a) =>
    let mine := fun (e : Nat × Nat × Nat × Nat) => e.1 == l && e.2.1 == a
    let (t, p) := ((g.verges.find? mine).map (fun e => e.2.2)).getD (0, 0)
    s.setLeg { g with verges := g.verges.filter (fun e => !mine e) ++ [(l, a, t + taken, p + posted)] }

/-- The generation after `g` (R169). -/
def genAfter (g : Nat) : Nat := if g ≥ 65535 then 2 else g + 1

/-- The generation before `g` in the same buffer. -/
def genBefore (g : Nat) : Nat := if g ≤ 3 then g + 65532 else g - 2

/-- What a token shows to a word that waits for it. -/
inductive TokState where
  | ready
  | waits
  | skew (expected found : Nat)
  deriving DecidableEq, Repr

/-- The state of a token of core `c`: a local token is signalled or not; a verge token compares its slot entry with the
generation that it expects (R170, R171). -/
def State.tokState (s : State) (c tok : Nat) : TokState :=
  match s.vergeSlot c tok with
  | none => if (s.core c).tokens.testBit tok then .ready else .waits
  | some a =>
    let g := s.takeGen c tok a
    let e := s.rd (a + 2 * (g % 2)) 2
    if e = g then .ready else if e = 0 || e = genBefore g then .waits else .skew g e

/-- The tokens of a mask. -/
def tokensOf (mask : Nat) : List Nat := (upTo 8).filter (fun t => mask.testBit t)

/-- Clear the bits of `m` in `n`. -/
def clearBits (n m : Nat) : Nat := n - (n &&& m)

/-- A wait takes a token: a local signal is used up, and the consumer's generation of a verge token advances (R170). -/
def State.takeToken (s : State) (c tok : Nat) : State :=
  match s.vergeSlot c tok with
  | none =>
    let x := s.core c
    s.setCore c { x with tokens := clearBits x.tokens (2 ^ tok) }
  | some a =>
    let g := s.takeGen c tok a
    let s := s.noteVerge c tok 1 0
    { s with route := { s.route with vergeGet := tset 2 s.route.vergeGet a (genAfter g) } }

/-- Signal a token: a local one, or the posting of the producer's generation in the slot entry of its buffer (R169). -/
def State.fireToken (s : State) (c tok : Nat) : State :=
  match s.vergeSlot c tok with
  | none =>
    let x := s.core c
    s.setCore c { x with tokens := x.tokens ||| 2 ^ tok }
  | some a =>
    let g := s.postGen c tok a
    let s := (s.store (a + 2 * (g % 2)) (leBytes 2 g)).noteVerge c tok 0 1
    { s with route := { s.route with vergePut := tset 2 s.route.vergePut a (genAfter g) } }

/-- Signal the tokens of a mask. -/
def State.fireTokens (s : State) (c mask : Nat) : State := s.each (tokensOf mask) (fun s t => s.fireToken c t)

/-- Abort leg `id` for the skew of a verge token (R171). -/
def State.vergeSkew (s : State) (c : Nat) (id : Option Nat) (tok expected found : Nat) : State :=
  match id.bind s.leg? with
  | none => s
  | some g => (s.raiseCore c Code.VERGE_SKEW [g.part, g.leg, tok, expected, found]).abortLeg g.id Code.VERGE_SKEW

/-- Wait for the tokens of a mask: what to do when all have arrived, when some have not, and the abort on a skew. -/
def State.awaitTokens (s : State) (c mask : Nat) (id : Option Nat) (arrived waits : State → State) : State :=
  let l := tokensOf mask
  match l.findSome? (fun t => match s.tokState c t with | .skew e f => some (t, e, f) | _ => none) with
  | some (t, e, f) => s.vergeSkew c id t e f
  | none =>
    if l.all (fun t => s.tokState c t == .ready) then arrived (s.each l (fun s t => s.takeToken c t)) else waits s

/-! ### Buffers that a consumer still reads (R120) -/

/-- Generation `g`, which the producer at slot `a` posts next, may not yet take its buffer: the generation before it in that buffer is
posted, and its consumer has not taken it, or has taken it and not the one after it while its leg still runs. -/
def State.bufferHeld (s : State) (a g : Nat) : Bool :=
  let old := genBefore g
  let next := tget 2 s.route.vergeGet a
  s.rd (a + 2 * (g % 2)) 2 == old &&
    (next == old || (next == genAfter old && s.stillReads a))

/-- Register `r` of scalar unit `u` of core `c`, 64 bits. -/
def State.sreg (s : State) (c u r : Nat) : Nat := tget 0 (s.core c).sregs (64 * (u % 4) + r % 64) % 2 ^ 64

/-- The byte offset in core SRAM of an LD or ST: rs1 plus imm32, signed (Table ARITH-12). -/
def State.wordOffset (s : State) (c : Nat) (w : BitVec 128) : Nat :=
  ofSigned 23 ((s.sreg c (wUnit w) (wRs1 w) : Nat) + toSigned 32 (wImm32 w))

/-- The ranges (address, bytes) that a word of core `c` writes: those that the word or its descriptor names, and the 8 bytes of an ST. -/
def State.wordStores (s : State) (c : Nat) (w : BitVec 128) : List (Nat × Nat) :=
  if wClass w = 5 then (if wOp w = 0x0F then [(sramBase c + s.wordOffset c w, 8)] else [])
  else (wordWrites 0 w (s.bytes (sramBase c + 64 * wSrcA w) 64)).map (fun r =>
    (s.spaceAddr c (if 8 ≤ r.space then 0 else r.space) (r.lo / 64), r.hi - r.lo))

/-- A word of core `c` would post at a verge slot, or write into the buffer of the generation that it posts next there, while the consumer still
reads that buffer (R120, R170). -/
def State.producerHeld (s : State) (c : Nat) (w : BitVec 128) : Bool :=
  let fired := wSignal w ||| (if wClass w = 7 && wOp w = 2 then wImm32 w % 256 else 0)
  [4, 5, 6, 7].any (fun t => match s.vergeOf c t with
    | none => false
    | some (_, _, v) =>
      let a := s.spaceAddr c v.space v.offset
      let g := s.postGen c t a
      let (sp, off, units) := v.buffers.getD (g % 2) (0, 0, 0)
      let b := s.spaceAddr c sp off
      s.bufferHeld a g && (fired.testBit t || (s.wordStores c w).any (fun r => r.1 < b + 64 * units && b < r.1 + r.2)))

/-! ### Issue (R156, R157) -/

/-- A failed decode counts toward the SRAM_UNCORR threshold of its core (R157). -/
def State.countIllegal (s : State) (c : Nat) : State :=
  let l := recent (tget [] s.cores.uncorr c) s.opSeconds 3600
  let s := { s with cores := { s.cores with uncorr := tset [] s.cores.uncorr c l } }
  if l.length ≥ 3 then s.failCore c failUNCORR else s

/-- A word fails decode: its leg is aborted and its parts are INVALID with ILLEGAL_WORD (R157). -/
def State.illegalWord (s : State) (x : Issue) (id : Option Nat) : State :=
  let s := s.raise Code.ILLEGAL_WORD [x.core, x.offset.toNat, wClass x.word, wOp x.word]
  let s := match id with
    | some g => s.abortLeg g Code.ILLEGAL_WORD
    | none => s
  s.countIllegal x.core

/-- The event that counts the words of a group (Table PERF-1). -/
def groupEvent (group : Nat) : Nat := group + 1

/-- The observers see a word issued: its group's counter event, and the tagging of R429 with the ticks of issue and
completion, which this model leaves free. -/
def State.observeWord (s : State) (x : Issue) (group : Nat) (id : Option Nat) : State :=
  let s := s.perfEvent x.core (groupEvent group) 1
  if s.on F.PERF_STATUS_tagging then
    let (a, s) := s.draw
    let (b, s) := s.draw
    let (r, s) := s.draw
    let (w, s) := s.draw
    let leg := match (s.logicalOf x.core), id with
      | some l, some g => ((s.legsOn l).findIdx? (fun h => h.id == g)).getD 0
      | _, _ => 0
    s.tagWord x.core x.offset.toNat (wClass x.word) (wOp x.word) leg a b (r % 7) w
  else s

/-- The leg that a word belonged to still runs: the word did not abort it. -/
def State.legStands (s : State) (id : Option Nat) : Bool :=
  match id with
  | none => true
  | some g => (s.leg? g).any (fun h => h.replayAt.isNone)

/-- A word waits in its stream (R156): the words of the same stream issue after it, in their order. -/
def State.holdWord (s : State) (x : Issue) (id : Option Nat) : State :=
  s.setCore x.core { s.core x.core with held := (s.core x.core).held ++ [(x, id)] }

/-- The stream of group `group` of core `c` stands: a word of it waits, or, in the scalar group, a WAITT. -/
def State.streamStands (s : State) (c group : Nat) : Bool :=
  (s.core c).held.any (fun h => h.1.group.val == group) || (group == grpSCALAR && (s.core c).waiting.isSome)

/-! ### Loops (R158) -/

/-- The loop's body holds the word at offset `o`. -/
def LoopRun.has (l : LoopRun) (o : Nat) : Bool := l.first ≤ o && o < l.first + l.body

/-- The loop's present trip has issued a word. -/
def LoopRun.note (l : LoopRun) (x : Issue) : LoopRun :=
  if !l.has x.offset.toNat || l.words.any (fun y => y.offset == x.offset) then l else { l with words := l.words ++ [x] }

/-- A word of the scalar stream has issued: the loops, the innermost first, and the words of the body that the next trip issues. The last
word of a body ends a trip of its loop; a loop with no trip left is over, and the word may end a trip of the loop around it. -/
def loopStep (x : Issue) : List LoopRun → List LoopRun × List Issue
  | [] => ([], [])
  | l :: t =>
    if !l.has x.offset.toNat then
      let (t, again) := loopStep x t
      (l :: t, again)
    else if x.offset.toNat + 1 != l.first + l.body then ((l :: t).map (fun k => k.note x), [])
    else if 1 < l.left then ({ l with left := l.left - 1, words := [] } :: t.map (fun k => k.note x), (l.note x).words)
    else loopStep x t

/-- A word has issued, or was passed over in a loop without trips: the loops of its stream go on. The sheet's words come to issue once, and
the further trips of a loop wait at the head of the stream. -/
def State.stepLoops (s : State) (x : Issue) (id : Option Nat) : State :=
  let e := s.core x.core
  if x.group.val != grpSCALAR || e.loops.isEmpty then s
  else
    let (loops, again) := loopStep x e.loops
    s.setCore x.core { e with loops := loops, held := again.map (fun y => (y, id)) ++ e.held }

/-- The word stands in the body of a loop with no trips. -/
def State.loopSkips (s : State) (x : Issue) : Bool :=
  x.group.val == grpSCALAR && (s.core x.core).loops.any (fun l => l.left == 0 && l.has x.offset.toNat)

/-- A marked word has run in leg `id` (R159). -/
def State.noteMark (s : State) (x : Issue) (id : Option Nat) : State :=
  if wField x.word 123 1 = 0 then s
  else match id.bind s.leg? with
    | some g => s.setLeg { g with marked := true }
    | none => s

/-- The first word of a leg issues: the leg takes its snapshot, the latest generation of its partition (R209). -/
def State.holdGeneration (s : State) (id : Option Nat) : State :=
  match id.bind s.leg? with
  | none => s
  | some g =>
    if g.snapshot.isSome then s
    else
      let s := s.setLeg { g with snapshot := some (s.gen g.part) }
      if (s.pool g.part).size = 0 then s else s.showPool g.part

/-- A word of class `cls` and operation `op` comes to issue in a group of its core.  A core without power, failed or absent
issues nothing, nor does a group whose leg waits for its replay (R390).  A word whose stream stands joins it, and one in a loop without trips is passed over.  A legal word
whose class and operation are not the command's joins its stream, from where it issues as what it spells (`State.wordInstr`).  A word that is not legal,
or stands in the stream of another group, takes ILLEGAL_WORD (R157); `legal` is what its operation asks beside Table ARITH-13.  A word
whose wait tokens have not arrived, or whose buffer or engine is held (`ready`), waits.  Else `body` is its effect for the leg it belongs
to; `fires` tells whether the signal tokens are fired with it, or later by the completion of its call. -/
def State.issue (s : State) (x : Issue) (cls op : Nat) (legal ready fires : Bool) (body : State → Option Nat → State) : State :=
  let c := x.core.val
  if !s.issues c then s
  else
    let g := s.legIn c x.group
    if g.any (fun h => h.replayAt.isSome) then s
    else
      let id := g.map (fun h => h.id)
      if s.streamStands c x.group then s.holdWord x id
      else if s.loopSkips x then s.stepLoops x id
      else if !(wClass x.word == cls && wOp x.word == op) && wordLegal x.word && (classGroup (wClass x.word)).all (fun k => x.group.val == k) then
        s.holdWord x id
      else if !(wClass x.word == cls && wOp x.word == op && wordLegal x.word && (classGroup cls).all (fun k => x.group.val == k) && legal) then
        s.illegalWord x id
      else if !ready || s.producerHeld c x.word then s.holdWord x id
      else
        s.awaitTokens c (wWait x.word) id
          (fun s =>
            let s := s.holdGeneration id
            let s := ((body s id).observeWord x x.group id).noteMark x id
            let s := if s.legStands id then s.stepLoops x id else s
            if fires && s.legStands id then s.fireTokens c (wSignal x.word) else s)
          (fun s => s.holdWord x id)

end Sys2Proof.Machine
end

