-- ==== Sys2Proof/Machine/Operands.lean ====
section
/-! DEFINITION. Operands of sheet words (R136, R138, R156): where the lanes of a vector, the rows of a matrix and the blocks
of a microscaling tensor stand, and reading and writing them as element codes. -/

namespace Sys2Proof.Machine

/-! ### Places -/

/-- The vector registers stand in the byte memory beside the SRAMs: 64 registers of 2,048 bytes for each engine of a core. -/
def vregBase (c e r : Nat) : Nat := 0x60000000 + c * 0x40000 + e * 0x20000 + (r % 64) * 2048

/-- A stretch of a core's SRAM, which goes on at its start after its last byte. -/
def sramSegs (c off n : Nat) : List (Nat × Nat) :=
  let o := off % 0x800000
  if o + n ≤ 0x800000 then [(sramBase c + o, n)]
  else [(sramBase c + o, 0x800000 - o), (sramBase c, n - (0x800000 - o))]

/-- Lanes of a lane set of one engine (Table ARITH-11): 512 of 32 bits, 128 of ACC80, 1,024 of 16 bits and less. -/
def fmtLanes (f : Nat) : Nat := if fmtBits f = 128 then 128 else if fmtBits f = 32 then 512 else 1024

/-- The lane set of a word is that of its widest format. -/
def lanesPerSet (fs : List Nat) : Nat := (fs.filter (fun f => f != fmtNONE)).foldl (fun n f => min n (fmtLanes f)) 1024

/-- Where set `j` of a vector operand stands: unit 0b010 deals the sets to both engines in turn, and further sets take the
following registers. -/
def setReg (c unit field j : Nat) : Nat :=
  if unit = 2 then vregBase c (j % 2) (field % 64 + j / 2) else vregBase c unit (field % 64 + j)

/-- The stretches, with the number of lanes in each, of a vector operand of `n` lanes of a format. -/
def laneSegs (c unit field f n per : Nat) : List ((Nat × Nat) × Nat) :=
  if isReg field then
    (upTo ((n + per - 1) / per)).map (fun j =>
      let k := min per (n - j * per)
      ((setReg c unit field j, fmtSize f k), k))
  else [((64 * field, fmtSize f n), n)]

/-- The byte ranges of a vector operand. -/
def laneRanges (c unit field f n per : Nat) : List (Nat × Nat) :=
  if isReg field then (laneSegs c unit field f n per).map (fun e => e.1) else sramSegs c (64 * field) (fmtSize f n)

/-! ### Element codes -/

/-- A list cut into rows of `w`. -/
def rowsOf {α : Type} (w : Nat) : Nat → List α → List (List α)
  | 0, _ => []
  | n + 1, l => l.take w :: rowsOf w n (l.drop w)

/-- The first `n` element codes of a format in bytes. -/
def bytesCodes (f n : Nat) (bs : List Byte) : List Nat :=
  if fmtBits f = 4 then
    (bs.flatMap (fun b => [b.toNat % 16, b.toNat / 16])).take n
  else
    (rowsOf (fmtBits f / 8) n bs).map leNat

/-- The bytes of ranges, in order. -/
def State.rangeBytes (s : State) (rs : List (Nat × Nat)) : List Byte := rs.flatMap (fun r => s.bytes r.1 r.2)

/-- The element codes of a vector operand. -/
def State.laneCodes (s : State) (c unit field f n per : Nat) : List Nat :=
  if isReg field then (laneSegs c unit field f n per).flatMap (fun e => bytesCodes f e.2 (s.bytes e.1.1 e.1.2))
  else bytesCodes f n (s.rangeBytes (sramSegs c (64 * field) (fmtSize f n)))

/-- Write bytes over ranges, in order. -/
def State.storeRanges : State → List (Nat × Nat) → List Byte → State
  | s, [], _ => s
  | s, r :: rs, bs => (s.store r.1 (bs.take r.2)).storeRanges rs (bs.drop r.2)

/-- Bytes over the ranges of a core's SRAM. -/
def State.storeSram (s : State) (c off : Nat) (bs : List Byte) : State := s.storeRanges (sramSegs c off bs.length) bs

/-- Write the stretches of a vector operand with element codes. -/
def State.storeLanes : State → List ((Nat × Nat) × Nat) → Nat → List Nat → State
  | s, [], _, _ => s
  | s, e :: es, f, cs => (s.store e.1.1 (codesBytes f (cs.take e.2))).storeLanes es f (cs.drop e.2)

/-- Write the element codes of a vector operand. -/
def State.putLanes (s : State) (c unit field f per : Nat) (cs : List Nat) : State :=
  if isReg field then s.storeLanes (laneSegs c unit field f cs.length per) f cs
  else s.storeSram c (64 * field) (codesBytes f cs)

/-! ### ACC80 elements (Table ARITH-5) -/

/-- S of an ACC80 code. -/
def accS (c : Nat) : Int := toSigned 80 c

/-- The anchor of an ACC80 code. -/
def accAnchor (c : Nat) : Int := toSigned 10 (c / 2 ^ 80)

def accBreach (c : Nat) : Bool := c.testBit 90
def accNonfinite (c : Nat) : Bool := c.testBit 91
def accCoarse (c : Nat) : Bool := c.testBit 92

/-- The value of an ACC80 element: NaN where its non-finite flag is set. -/
def accValue (c : Nat) : FV :=
  if accNonfinite c then .nan
  else .fin (decide (accS c < 0)) (accS c).natAbs (accAnchor c)

/-- An ACC80 element from S within the window, its anchor and flags. -/
def accCode (v anchor : Int) (breach nonfinite coarse : Bool) : Nat :=
  ofSigned 80 v + ofSigned 10 anchor * 2 ^ 80 + bit breach * 2 ^ 90 + bit nonfinite * 2 ^ 91 + bit coarse * 2 ^ 92

/-! ### Values of any format -/

/-- The values of `n` elements of a format, given their codes and, for microscaling formats, the scale bytes of blocks of
32. -/
def codeValues (f : Nat) (cs scales : List Nat) : List FV :=
  if f = fmtACC80 then cs.map accValue
  else if isMxFmt f then cs.mapIdx (fun i c => mxValue (mxElem f) (scales.getD (i / 32) 0) c)
  else cs.map (fmtValue f)

/-- Scale bytes of `n` elements. -/
def scaleCount (n : Nat) : Nat := (n + 31) / 32

end Sys2Proof.Machine
end

