-- ==== Sys2Proof/Machine/Flags.lean ====
section
/-! DEFINITION. Accumulator cells and their flags (R140 to R148, R179): entering products, the window, the drain of a cell,
the tile status record (Table ARITH-6), and the breach policy over it (R146). -/

namespace Sys2Proof.Machine

/-- A cell that holds zero with no flag (R443). -/
def cell0 : AccCell := { s := 0, fp := 0, breach := false, nonfinite := false, coarse := false }

/-- The window: S from −2^79 to 2^79 − 1 (R140). -/
def window : Int := 2 ^ 79

/-- A term enters an anchored cell (R141, R144): rounded to the anchor, clamped, and added exactly; one that is not finite
is not added. -/
def AccCell.put (c : AccCell) (anchor : Int) (v : FV) : AccCell :=
  match v with
  | .fin neg m e =>
    let (n, exact) := roundInt m (e - anchor)
    let beyond := decide (window ≤ (n : Int))
    let n := if beyond then 2 ^ 79 - 1 else n
    { c with s := c.s + sgn neg n, coarse := c.coarse || !exact, breach := c.breach || beyond }
  | _ => { c with nonfinite := true }

/-- The window check of a drain, a save or a sum (R143). -/
def AccCell.window (c : AccCell) : AccCell :=
  if c.s < -(2 ^ 79) then { c with s := -(2 ^ 79), breach := true }
  else if 2 ^ 79 ≤ c.s then { c with s := 2 ^ 79 - 1, breach := true }
  else c

/-- The exact sum of the products of a chunk, rounded once to FP32 (R147 point 1). -/
def chunkSum : List FV → FV
  | [] => .fin false 0 0
  | v :: vs => (vs.foldl FV.add v).fp32

/-- A chunk enters an FP32-mode cell with one rounding (R147 point 2). -/
def AccCell.addChunk (c : AccCell) (chunk : FV) : AccCell :=
  let v := ((fmtValue fmtFP32 c.fp).add chunk).fp32
  { c with fp := fmtRound fmtFP32 false v, nonfinite := c.nonfinite || !chunk.finite || !v.finite }

/-- An anchored-group product enters an FP32-mode row: the cell is NaN (R147). -/
def AccCell.spoil (c : AccCell) : AccCell := { c with fp := 0x7FC00000, nonfinite := true }

/-- The products of one cell in one tick: `fp` tells the mode of the row, `wide` that they are BF16 or FP16 products. -/
def AccCell.dot (c : AccCell) (fp wide : Bool) (anchor : Int) (ps : List FV) : AccCell :=
  match fp, wide with
  | false, false => ps.foldl (fun c v => c.put anchor v) c
  | true, true => c.addChunk (chunkSum ps)
  | true, false => c.spoil
  | false, true => { c with nonfinite := true }

/-- The bias enters a cell at its drain (R148 step 1): as one term of the sum, or with one rounding; the flags of an ACC80
bias carry over (R179, R154). -/
def AccCell.addBias (c : AccCell) (fp : Bool) (anchor : Int) (fmt code : Nat) : AccCell :=
  let acc := fmt = fmtACC80
  let v := if acc then accValue code else fmtValue fmtFP32 code
  let c := { c with breach := c.breach || (acc && accBreach code), coarse := c.coarse || (acc && accCoarse code) }
  if fp then c.addChunk v else c.put anchor v

/-- The value that a drain converts: NaN where an anchored cell is non-finite (R144). -/
def AccCell.value (c : AccCell) (fp : Bool) (anchor : Int) : FV :=
  if fp then fmtValue fmtFP32 c.fp
  else if c.nonfinite then .nan
  else .fin (decide (c.s < 0)) c.s.natAbs anchor

/-- A value times a power of two. -/
def FV.shift (v : FV) (k : Int) : FV :=
  match v with
  | .fin n m e => .fin n m (e + k)
  | v => v

/-- What a drain converts to its destination (R148 step 3): an integer destination shifts by out_shift, and a column scale
multiplies in FP32. -/
def drainValue (v : FV) (dest : Nat) (shift : Int) (scale : Option Nat) : FV :=
  let y := if isIntFmt dest then v.shift shift else v
  match scale with
  | some c => (y.fp32.mul (fmtValue fmtFP32 c)).fp32
  | none => y

/-- Counts of a drained tile: cells with breach, non-finite and coarse flag, and row and column of the first breach. -/
structure TileStatus where
  breach : Nat
  nonfinite : Nat
  coarse : Nat
  first : Option (Nat × Nat)
  /-- The bank rows that hold a breached or non-finite cell. -/
  rows : List Nat
  deriving DecidableEq, Repr

def status0 : TileStatus := { breach := 0, nonfinite := 0, coarse := 0, first := none, rows := [] }

/-- Count a cell at row and column. -/
def TileStatus.count (t : TileStatus) (c : AccCell) (r col : Nat) : TileStatus :=
  { breach := t.breach + bit c.breach
    nonfinite := t.nonfinite + bit c.nonfinite
    coarse := t.coarse + bit c.coarse
    first := match t.first with | none => if c.breach then some (r, col) else none | f => f
    rows := if (c.breach || c.nonfinite) && !t.rows.contains r then t.rows ++ [r] else t.rows }

/-- The 16 bytes of a tile status record (Table ARITH-6). -/
def TileStatus.bytes (t : TileStatus) : List Byte :=
  let (r, c) := t.first.getD (0xFFFF, 0xFFFF)
  leBytes 4 t.breach ++ leBytes 4 t.nonfinite ++ leBytes 4 t.coarse ++ leBytes 2 r ++ leBytes 2 c

/-- A tile of core `q` with its flags meets its leg's policy: the codes once per leg, with the counts of the first tile that has any (DESIGN
CHOICE), and under VOID the samples that it touches, with BREACH_VOID for each such tile (DESIGN CHOICE; R146). `rows` says that the tile's rows are
rows of the leg's batch. -/
def State.tilePolicy (s : State) (q : Nat) (id : Option Nat) (t : TileStatus) (rows : Bool) : State :=
  match id with
  | none => s
  | some k =>
    match s.leg? k with
    | none => s
    | some g =>
      let (r, c) := t.first.getD (0xFFFF, 0xFFFF)
      let s := if t.breach = 0 then s else s.legCode q k Code.ANCHOR_BREACH [g.part, g.leg, t.breach, r, c]
      let s := if t.nonfinite = 0 then s else s.legCode q k Code.NONFINITE_OPERAND [g.part, g.leg, t.nonfinite]
      if t.rows.isEmpty then s
      else
        let (l, s) := s.touched g (if rows then some t.rows else none)
        s.breach q k Code.ANCHOR_BREACH Code.BREACH_VOID l

end Sys2Proof.Machine
end

