-- ==== Sys2Proof/Machine/Matrix.lean ====
section
/-! DEFINITION. The matrix group (R139 to R148, Table ARITH-10): tiles, products into bank rows, biases and scales, drains,
saves and restores. -/

namespace Sys2Proof.Machine

/-! ### Pairings and tiles -/

/-- Raw bytes of an operand field: core SRAM, or the registers of engine 0 from the named one on. -/
def rawRanges (c field n : Nat) : List (Nat × Nat) :=
  if isReg field then
    (upTo ((n + 2047) / 2048)).map (fun j => (vregBase c 0 (field % 64 + j), min 2048 (n - 2048 * j)))
  else sramSegs c (64 * field) n

/-- Run `f` once the lines of the ranges have passed their checks (R389). -/
def State.reading (s : State) (c : Nat) (id : Option Nat) (rs : List (Nat × Nat)) (f : State → State) : State :=
  let (ok, s) := s.checkRead c id rs
  if ok then f s else s

/-- The values of a tile, row by row. -/
def Tile.values (t : Tile) : List (List FV) :=
  let vs := if isMxFmt t.fmt then
      t.elems.mapIdx (fun i c => mxValue (mxElem t.fmt) (t.scales.getD (i / 512 / 32 * 512 + i % 512) 0) c)
    else t.elems.map (fmtValue t.fmt)
  rowsOf 512 t.k vs

/-- The tile before the first MLOAD: zeros. -/
def tileZero (fmt k : Nat) : Tile := { fmt := fmt, k := k, elems := List.replicate (k * 512) 0, scales := [] }

/-! ### Bank rows -/

/-- The 512 cells of bank row `r`. -/
def CoreExec.row (x : CoreExec) (r : Nat) : List AccCell :=
  let t := x.cells.filter (fun e => e.1 / 512 == r)
  (upTo 512).map (fun c => tget cell0 t (512 * r + c))

/-- Replace the cells of bank row `r`. -/
def CoreExec.setRow (x : CoreExec) (r : Nat) (cs : List AccCell) : CoreExec :=
  let new := (cs.mapIdx (fun i c => (512 * r + i, c))).filter (fun (e : Nat × AccCell) => e.2 != cell0)
  { x with cells := x.cells.filter (fun e => e.1 < 512 * r) ++ new ++ x.cells.filter (fun e => 512 * (r + 1) ≤ e.1) }

/-- Anchor and mode of bank row `r`: anchor 0, anchored, before it is set (R443). -/
def CoreExec.rowMode (x : CoreExec) (r : Nat) : Int × Bool := tget (0, false) x.rows r

/-- The products of one row of A with the tile, added into a row of cells (R141, R147). -/
def dotRow (fp wide : Bool) (anchor : Int) (cells : List AccCell) (a : List FV) (b : List (List FV)) : List AccCell :=
  if !fp && !wide then
    (a.zip b).foldl (fun cs e => List.zipWith (fun (c : AccCell) y => c.put anchor (e.1.mul y)) cs e.2) cells
  else if fp && wide then
    let ps := (a.zip b).foldr (fun e acc => List.zipWith (fun y l => e.1.mul y :: l) e.2 acc) (List.replicate 512 [])
    List.zipWith (fun (c : AccCell) l => c.addChunk (chunkSum l)) cells ps
  else cells.map (fun c => c.dot fp wide anchor [])

/-! ### Meanings -/

/-- MLOAD: the standby tile takes K × 512 elements at src_b, and an MX scale plane at src_a. -/
def execMload (x : Issue) (s : State) : Host.Outcome State Fault Refusal :=
  s.run (fun s =>
    let w := x.word
    let c := x.core.val
    let fb := wFmtB w
    s.issue x 0x1 0x01 true true true (fun s id =>
      let k := (tileK (wFmtA w) fb).getD 0
      let rb := rawRanges c (wSrcB w) (fmtSize fb (k * 512))
      let ra := if isMxFmt fb then rawRanges c (wSrcA w) (k / 32 * 512) else []
      s.reading c id (rb ++ ra) (fun s =>
        let t : Tile := { fmt := fb, k := k, elems := bytesCodes fb (k * 512) (s.rangeBytes rb)
                          scales := (s.rangeBytes ra).map BitVec.toNat }
        s.setCore c { s.core c with standby := some t })))

/-- MSWAP: the standby tile becomes active. -/
def execMswap (x : Issue) (s : State) : Host.Outcome State Fault Refusal :=
  s.run (fun s => s.issue x 0x1 0x02 true true true (fun s _ =>
    let e := s.core x.core
    match e.standby with
    | some t => s.setCore x.core { e with active := some t, standby := none }
    | none => s))

/-- MMA: rows of A times the active tile add into bank rows (R141, R147). A row begins one row size after the one before it, the padded
channel vector of a pixel (R165, `rowBytes`), of which the first K elements enter; elements that a shorter row size does not hold are zero (DESIGN CHOICE). An MX scale plane of A stands at
src_b, in rows of the same elements. A word whose K or format of B is not that of the active tile is an illegal word (DESIGN CHOICE; R139). -/
def execMma (x : Issue) (s : State) : Host.Outcome State Fault Refusal :=
  s.run (fun s =>
    let w := x.word
    let c := x.core.val
    let fa := wFmtA w
    let fb := wFmtB w
    let n := wCount w
    let tile := (s.core c).active.getD (tileZero fb ((pairK fa fb).getD 0))
    s.issue x 0x1 0x03 (pairK fa fb == some tile.k && tile.fmt == fb) true true (fun s id =>
      let k := tile.k
      let size := rowBytes w k
      let blocks := 8 * size / fmtBits fa / 32
      let ra := rawRanges c (wSrcA w) ((n - 1) * size + fmtSize fa k)
      let rs := if isMxFmt fa then rawRanges c (wSrcB w) ((n - 1) * blocks + k / 32) else []
      s.reading c id (ra ++ rs) (fun s =>
        let codes := (rowsOf size n (s.rangeBytes ra)).map (fun l => bytesCodes fa k l)
        let scales := (rowsOf blocks n ((s.rangeBytes rs).map BitVec.toNat)).map (fun l => l.take (k / 32))
        let b := tile.values
        let e := (codes.zip (if isMxFmt fa then scales else codes.map (fun _ => []))).foldl
          (fun (acc : CoreExec × Nat) row =>
            let (e, r) := acc
            let (anchor, fp) := e.rowMode r
            (e.setRow r (dotRow fp (isWide fa) anchor (e.row r) (codeValues fa row.1 row.2) b), r + 1)) (s.core c, wDst w)
        (s.setCore c e.1).perfEvent c 0x0F (n * k * 512 / 65536))))

/-- ACLR: bank rows become zero with an anchor, in anchored or FP32 mode. -/
def execAclr (x : Issue) (s : State) : Host.Outcome State Fault Refusal :=
  s.run (fun s =>
    let w := x.word
    let n := wCount w
    s.issue x 0x2 0x01 true true true (fun s _ =>
      let e := (upTo n).foldl (fun (e : CoreExec) j =>
        let r := wDst w + j
        { e.setRow r [] with rows := tset (0, false) e.rows r (toSigned 10 (wImm10 w), wFmtD w == fmtFP32) }) (s.core x.core)
      s.setCore x.core e))

/-- ABIAS: 512 biases, FP32 or ACC80, from src_a. -/
def execAbias (x : Issue) (s : State) : Host.Outcome State Fault Refusal :=
  s.run (fun s =>
    let w := x.word
    let c := x.core.val
    let f := wFmtA w
    s.issue x 0x2 0x02 true true true (fun s id =>
      let r := rawRanges c (wSrcA w) (fmtSize f 512)
      s.reading c id r (fun s =>
        s.setCore c { s.core c with bias := (bytesCodes f 512 (s.rangeBytes r)).map (fun v => (f, v)) })))

/-- ASCALE: 512 FP32 column scales from src_a. -/
def execAscale (x : Issue) (s : State) : Host.Outcome State Fault Refusal :=
  s.run (fun s =>
    let w := x.word
    let c := x.core.val
    s.issue x 0x2 0x03 true true true (fun s id =>
      let r := rawRanges c (wSrcA w) 2048
      s.reading c id r (fun s => s.setCore c { s.core c with scale := bytesCodes fmtFP32 512 (s.rangeBytes r) })))

/-- A cell as a drain or save sees it: with its bias, and checked against the window (R148 steps 1 and 2). -/
def drainCell (e : CoreExec) (bias fp : Bool) (anchor : Int) (col : Nat) (c : AccCell) : AccCell :=
  let b := e.bias.getD col (fmtFP32, 0)
  let c := if bias then c.addBias fp anchor b.1 b.2 else c
  if fp then c else c.window

/-- The cells of `n` rows from `r` on as a drain sees them: row, column, mode, anchor, cell. -/
def drainCells (e : CoreExec) (bias : Bool) (r n : Nat) : List (Nat × Nat × Bool × Int × AccCell) :=
  (upTo n).flatMap (fun j =>
    let (anchor, fp) := e.rowMode (r + j)
    (e.row (r + j)).mapIdx (fun col c => (r + j, col, fp, anchor, drainCell e bias fp anchor col c)))

/-- Cells as ACC80 codes (Table ARITH-5); the raw cell of an FP32-mode row has no stated S, which is a free value of the FP32 code. -/
def rawCodes (l : List (Nat × Nat × Bool × Int × AccCell)) : List Nat :=
  l.map (fun e =>
    let (_, _, fp, anchor, c) := e
    let v := if fp then toSigned 80 (Config.rawCell (BitVec.ofNat 32 c.fp)).toNat else c.s
    accCode v anchor c.breach c.nonfinite c.coarse)

/-- Values as the bytes of a destination, an MX scale plane after its element plane. -/
def destBytes (f : Nat) (sat : Bool) (vs : List FV) : List Byte :=
  if isMxFmt f then
    let (scales, cs) := mxWrite f vs
    codesBytes f cs ++ scales.map (BitVec.ofNat 8)
  else codesBytes f (vs.map (fmtRound f sat))

/-- Write bytes to an operand field. -/
def State.storeRaw (s : State) (c field : Nat) (bs : List Byte) : State := s.storeRanges (rawRanges c field bs.length) bs

/-- ADRAIN: bank rows are biased, checked, converted and written, with the tile status record (R148, Table ARITH-6). -/
def execAdrain (x : Issue) (s : State) : Host.Outcome State Fault Refusal :=
  s.run (fun s =>
    let w := x.word
    let c := x.core.val
    let n := wCount w
    let f := wFmtD w
    s.issue x 0x2 0x04 true true true (fun s id =>
      let e := s.core c
      let imm := wImm10 w
      let cells := drainCells e (imm.testBit 0) (wSrcA w) n
      let st := cells.foldl (fun (t : TileStatus) d => t.count d.2.2.2.2 d.1 d.2.1) status0
      let scale := fun col => if imm.testBit 1 then some (e.scale.getD col 0) else none
      let bs := if f = fmtACC80 then codesBytes f (rawCodes cells)
        else destBytes f (wSat w) (cells.map (fun d =>
          drainValue (d.2.2.2.2.value d.2.2.1 d.2.2.2.1) f (toSigned 8 (imm / 4)) (scale d.2.1)))
      let s := ((s.storeRaw c (wDst w) bs).storeRaw c (wSrcB w) st.bytes).perfEvent c 0x0E st.breach
      s.tilePolicy c id st true))

/-- The leg is a fold leg (R178). -/
def State.isFold (s : State) (id : Option Nat) : Bool := (id.bind s.leg?).any (fun g => (s.legDecl g).kind == 2)

/-- ASAVE: bank rows are written as ACC80; the row of a fold leg includes the bias it loaded, and a breach there writes
FOLD_BREACH (R178, R179); in another leg flagged cells meet the leg's policy (R146). -/
def execAsave (x : Issue) (s : State) : Host.Outcome State Fault Refusal :=
  s.run (fun s =>
    let w := x.word
    let c := x.core.val
    let n := wCount w
    s.issue x 0x2 0x05 true true true (fun s id =>
      let fold := s.isFold id
      let cells := drainCells (s.core c) fold (wSrcA w) n
      let s := s.storeRaw c (wDst w) (codesBytes fmtACC80 (rawCodes cells))
      let cols := (cells.filter (fun d => d.2.2.2.2.breach)).length
      match id.bind s.leg? with
      | some g =>
        if !fold then s.tilePolicy c id (cells.foldl (fun (t : TileStatus) d => t.count d.2.2.2.2 d.1 d.2.1) status0) true
        else if cols != 0 then s.legCode c g.id Code.FOLD_BREACH [g.part, g.leg, cols] else s
      | none => s))

/-- ARESTORE: bank rows take cells, anchors and flags from ACC80 at src_a; the anchor of a row is that of its first element. -/
def execArestore (x : Issue) (s : State) : Host.Outcome State Fault Refusal :=
  s.run (fun s =>
    let w := x.word
    let c := x.core.val
    let n := wCount w
    s.issue x 0x2 0x06 true true true (fun s id =>
      let r := rawRanges c (wSrcA w) (n * 8192)
      s.reading c id r (fun s =>
        let rows := rowsOf 512 n (bytesCodes fmtACC80 (n * 512) (s.rangeBytes r))
        let e := rows.foldl (fun (acc : CoreExec × Nat) cs =>
          let (e, j) := acc
          let cells := cs.map (fun v => { cell0 with s := accS v, breach := accBreach v, nonfinite := accNonfinite v, coarse := accCoarse v })
          ({ e.setRow j cells with rows := tset (0, false) e.rows j (accAnchor (cs.headD 0), false) }, j + 1)) (s.core c, wDst w)
        s.setCore c e.1)))

end Sys2Proof.Machine
end

