-- ==== Sys2Proof/Machine/Vector.lean ====
section
/-! DEFINITION. The vector group (R151 to R154, Table ARITH-11): lane by lane operations, comparisons and masks, conversions,
functions and reductions. -/

namespace Sys2Proof.Machine

/-- The number of one lane: an exact value where the format is floating-point, an integer where it is not. -/
inductive Num where
  | f (v : FV)
  | i (v : Int)
  deriving DecidableEq, Repr

def numOf (f c : Nat) : Num := if isVecFloat f then .f (fmtValue f c) else .i (intOf f c)

/-- Write a number: one rounding, or the wrap of R152. -/
def numCode (f : Nat) (sat : Bool) : Num → Nat
  | .f v => fmtRound f sat v
  | .i v => intCode f v

/-- Combine two numbers of one kind. -/
def Num.op2 (ff : FV → FV → FV) (fi : Int → Int → Int) (a b : Num) : Num :=
  match a, b with
  | .f x, .f y => .f (ff x y)
  | .i x, .i y => .i (fi x y)
  | .f x, .i _ => .f x
  | .i x, .f _ => .i x

def FV.sub (x y : FV) : FV := x.add y.negate

/-- Division of integers: toward zero, 0 for a zero divisor (R152). -/
def intDiv (x y : Int) : Int := if y = 0 then 0 else x.tdiv y

/-! ### Lanes -/

/-- A vector word: its operands pass their checks, `f` computes the destination codes from those of A, B and the old
destination, and they are written.  `two` and `old` tell whether B and the old destination are read. -/
def State.lanes (s : State) (x : Issue) (id : Option Nat) (two old : Bool) (outLanes : Nat → Nat)
    (f : State → List Nat → List Nat → List Nat → List Nat × State) : State :=
  let w := x.word
  let c := x.core.val
  let u := wUnit w
  let n := wCount w
  let (fa, fb, fd) := (wFmtA w, wFmtB w, wFmtD w)
  let per := lanesPerSet ([fa, fd] ++ if two then [fb] else [])
  let ra := laneRanges c u (wSrcA w) fa n per
  let rb := if two then laneRanges c u (wSrcB w) fb n per else []
  let rd := if old then laneRanges c u (wDst w) fd (outLanes n) per else []
  s.reading c id (ra ++ rb ++ rd) (fun s =>
    let a := s.laneCodes c u (wSrcA w) fa n per
    let b := if two then s.laneCodes c u (wSrcB w) fb n per else []
    let d := if old then s.laneCodes c u (wDst w) fd (outLanes n) per else []
    let (cs, s) := f s a b d
    s.putLanes c u (wDst w) fd per cs)

/-- The vector engines of core `c` are free: no irregular call runs on the pair (R192). -/
def State.pairFree (s : State) (c : Nat) : Bool := !(s.core c).calls.any (fun k => k.kind == callIRREG)

/-- A vector word with operation `op`; it waits while an irregular call runs. -/
def State.vector (s : State) (x : Issue) (op : Nat) (legal : Bool) (body : State → Option Nat → State) : State :=
  s.issue x 0x3 op legal (s.pairFree x.core) true body

/-- A lane by lane operation of two operands on numbers. -/
def State.vector2 (s : State) (x : Issue) (op : Nat) (g : Num → Num → Num) : State :=
  let w := x.word
  s.vector x op true (fun s id =>
    s.lanes x id true false (fun n => n) (fun s a b _ =>
      (List.zipWith (fun p q => numCode (wFmtD w) (wSat w) (g (numOf (wFmtA w) p) (numOf (wFmtB w) q))) a b, s)))

/-- A lane by lane operation of one operand on numbers. -/
def State.vector1 (s : State) (x : Issue) (op : Nat) (g : Num → Num) : State :=
  let w := x.word
  s.vector x op true (fun s id =>
    s.lanes x id false false (fun n => n) (fun s a _ _ =>
      (a.map (fun p => numCode (wFmtD w) (wSat w) (g (numOf (wFmtA w) p))), s)))

/-- VADD (R151, R152). -/
def execVadd (x : Issue) (s : State) : Host.Outcome State Fault Refusal :=
  s.run (fun s => s.vector2 x 0x01 (Num.op2 FV.add (· + ·)))

/-- VSUB (R151, R152). -/
def execVsub (x : Issue) (s : State) : Host.Outcome State Fault Refusal :=
  s.run (fun s => s.vector2 x 0x02 (Num.op2 FV.sub (· - ·)))

/-- VMUL (R151, R152). -/
def execVmul (x : Issue) (s : State) : Host.Outcome State Fault Refusal :=
  s.run (fun s => s.vector2 x 0x03 (Num.op2 FV.mul (· * ·)))

/-- VFMA: the product of A and B plus the destination, rounded once (R151); the table names no third operand, and the old destination is taken
for it (DESIGN CHOICE). -/
def execVfma (x : Issue) (s : State) : Host.Outcome State Fault Refusal :=
  s.run (fun s =>
    let w := x.word
    s.vector x 0x04 true (fun s id =>
      s.lanes x id true true (fun n => n) (fun s a b d =>
        (List.zipWith (fun pq r => fmtRound (wFmtD w) (wSat w)
          (((fmtValue (wFmtA w) pq.1).mul (fmtValue (wFmtB w) pq.2)).add (fmtValue (wFmtD w) r))) (a.zip b) d, s))))

/-- Count integer divisions by zero of leg `id` (R152). -/
def State.countDivZero (s : State) (id : Option Nat) (n : Nat) : State :=
  match id.bind s.leg? with
  | some g => s.setLeg { g with divZero := g.divZero + n }
  | none => s

/-- VDIV (R151, R152). -/
def execVdiv (x : Issue) (s : State) : Host.Outcome State Fault Refusal :=
  s.run (fun s =>
    let w := x.word
    let ints := isVecInt (wFmtB w)
    s.vector x 0x05 true (fun s id =>
      s.lanes x id true false (fun n => n) (fun s a b _ =>
        let zeros := if ints then (b.filter (fun q => intOf (wFmtB w) q == 0)).length else 0
        (List.zipWith (fun p q => numCode (wFmtD w) (wSat w)
          (Num.op2 FV.div intDiv (numOf (wFmtA w) p) (numOf (wFmtB w) q))) a b, s.countDivZero id zeros))))

/-- VMIN (R151). -/
def execVmin (x : Issue) (s : State) : Host.Outcome State Fault Refusal :=
  s.run (fun s => s.vector2 x 0x06 (Num.op2 (FV.minMax false) min))

/-- VMAX (R151). -/
def execVmax (x : Issue) (s : State) : Host.Outcome State Fault Refusal :=
  s.run (fun s => s.vector2 x 0x07 (Num.op2 (FV.minMax true) max))

/-- The magnitude or negation of a number; that of the most negative integer has no stated value and is a free value of the format. -/
def numAbs (f : Nat) (fl : FV → FV) (fi : Int → Int) (v : Num) : Num :=
  match v with
  | .f v => .f (fl v)
  | .i v => if v = intLo f then .i (Config.absLeast (BitVec.ofNat 4 f)).toNat else .i (fi v)

/-- VABS. -/
def execVabs (x : Issue) (s : State) : Host.Outcome State Fault Refusal :=
  s.run (fun s => s.vector1 x 0x08 (numAbs (wFmtA x.word) FV.abs (fun i => i.natAbs)))

/-- VNEG. -/
def execVneg (x : Issue) (s : State) : Host.Outcome State Fault Refusal :=
  s.run (fun s => s.vector1 x 0x09 (numAbs (wFmtA x.word) FV.negate (fun i => -i)))

/-- The relation of two numbers: 0 less, 1 equal, 2 greater, 3 unordered; −0 is less than +0 (R151). -/
def numRel (a b : Num) : Nat :=
  match a, b with
  | .f x, .f y => match x.lt y, y.lt x with
    | some true, _ => 0
    | _, some true => 2
    | some false, some false => 1
    | _, _ => 3
  | .i x, .i y => if x < y then 0 else if x = y then 1 else 2
  | _, _ => 3

/-- VCMP: a lane mask, all ones where the condition of imm10 holds and zero elsewhere, at the destination. -/
def execVcmp (x : Issue) (s : State) : Host.Outcome State Fault Refusal :=
  s.run (fun s =>
    let w := x.word
    s.vector x 0x0A true (fun s id =>
      s.lanes x id true false (fun n => n) (fun s a b _ =>
        let holds := (Config.vcmpHolds (BitVec.ofNat 10 (wImm10 w))).toNat
        (List.zipWith (fun p q =>
          if holds.testBit (numRel (numOf (wFmtA w) p) (numOf (wFmtB w) q)) then 2 ^ fmtBits (wFmtD w) - 1 else 0) a b, s))))

/-- VSEL: lanes of A where the mask at the destination is not zero, else lanes of B. -/
def execVsel (x : Issue) (s : State) : Host.Outcome State Fault Refusal :=
  s.run (fun s =>
    let w := x.word
    s.vector x 0x0B true (fun s id =>
      s.lanes x id true true (fun n => n) (fun s a b d =>
        (List.zipWith (fun pq m => if m != 0 then pq.1 else pq.2) (a.zip b) d, s))))

/-- Registers of one engine from the named one on, as raw bytes. -/
def rawUnit (c unit field n : Nat) : List (Nat × Nat) :=
  if isReg field then
    (upTo ((n + 2047) / 2048)).map (fun j => (vregBase c (if unit = 1 then 1 else 0) (field % 64 + j), min 2048 (n - 2048 * j)))
  else sramSegs c (64 * field) n

/-- A value converted exactly into an anchored cell, as an ACC80 code. -/
def accConvert (anchor : Int) (v : FV) : Nat :=
  let c := (cell0.put anchor v).window
  accCode c.s anchor c.breach c.nonfinite c.coarse

/-- VCVT: any format to any format (R149, R150).  The scale plane of an MX source stands at src_b, that of an MX
destination after its elements; a destination ACC80 takes its anchor from imm10. -/
def execVcvt (x : Issue) (s : State) : Host.Outcome State Fault Refusal :=
  s.run (fun s =>
    let w := x.word
    let c := x.core.val
    let u := wUnit w
    let (fa, fd, n) := (wFmtA w, wFmtD w, wCount w)
    s.vector x 0x0C true (fun s id =>
      let per := lanesPerSet [fa, fd]
      let ra := laneRanges c u (wSrcA w) fa n per
      let rs := if isMxFmt fa then rawUnit c u (wSrcB w) (scaleCount n) else []
      s.reading c id (ra ++ rs) (fun s =>
        let vs := codeValues fa (s.laneCodes c u (wSrcA w) fa n per) ((s.rangeBytes rs).map BitVec.toNat)
        if isMxFmt fd then
          let bs := destBytes fd true vs
          s.storeRanges (rawUnit c u (wDst w) bs.length) bs
        else if fd = fmtACC80 then s.putLanes c u (wDst w) fd per (vs.map (accConvert (toSigned 10 (wImm10 w))))
        else s.putLanes c u (wDst w) fd per (vs.map (fmtRound fd (wSat w))))))

/-- A lane by lane operation on the codes of integers of one format. -/
def State.vectorBits (s : State) (x : Issue) (op : Nat) (legal : Bool) (g : Nat → Nat → Nat → Nat) : State :=
  let w := x.word
  let f := wFmtA w
  s.vector x op legal (fun s id =>
    s.lanes x id true false (fun n => n) (fun s a b _ => (List.zipWith (g f) a b, s)))

/-- VLOGIC: AND, OR, XOR or ANDN by imm10. -/
def execVlogic (x : Issue) (s : State) : Host.Outcome State Fault Refusal :=
  s.run (fun s =>
    let i := wImm10 x.word
    s.vectorBits x 0x0D true (fun _ a b =>
      if i = 0 then a &&& b else if i = 1 then a ||| b else if i = 2 then a ^^^ b else clearBits a b))

/-- A shift of a `w`-bit code: 0 left, 1 right, 2 right with sign; the amount is taken modulo the width (R152). -/
def shiftCode (kind w a n : Nat) : Nat :=
  let k := n % w
  if kind = 0 then (a <<< k) % 2 ^ w
  else if kind = 1 then a >>> k
  else ofSigned w (toSigned w a / 2 ^ k)

/-- VSHIFT: SHL, SHR or SAR by imm10. -/
def execVshift (x : Issue) (s : State) : Host.Outcome State Fault Refusal :=
  s.run (fun s =>
    let i := wImm10 x.word
    s.vectorBits x 0x0E true (fun f a b => shiftCode i (fmtBits f) a b))

/-- VADDS: a saturating sum (R152); imm10 is 0. -/
def execVadds (x : Issue) (s : State) : Host.Outcome State Fault Refusal :=
  s.run (fun s => s.vectorBits x (if wImm10 x.word = 1 then 0 else 0x0F) (wImm10 x.word == 0) (fun f a b => intCode f (intSat f (intOf f a + intOf f b))))

/-- VSUBS: a saturating difference (R152); imm10 is 1. -/
def execVsubs (x : Issue) (s : State) : Host.Outcome State Fault Refusal :=
  s.run (fun s => s.vectorBits x (if wImm10 x.word = 0 then 0 else 0x0F) (wImm10 x.word == 1) (fun f a b => intCode f (intSat f (intOf f a - intOf f b))))

/-- VFUNC: the function of imm10, correctly rounded (R153). -/
def execVfunc (x : Issue) (s : State) : Host.Outcome State Fault Refusal :=
  s.run (fun s =>
    let w := x.word
    let i := wImm10 w
    s.vector x 0x10 true (fun s id =>
      s.lanes x id false false (fun n => n) (fun s a _ _ =>
        (a.map (fun p => fmtRound (wFmtD w) (wSat w) (vfunc i (fmtValue (wFmtA w) p))), s))))

/-- One level of the reduction tree: lanes 2i and 2i + 1 combine into lane i, and a last odd lane meets the identity. -/
def treeLevel (g : Nat → Nat → Nat) (one : Nat → Nat) : List Nat → List Nat
  | [] => []
  | [a] => [one a]
  | a :: b :: t => g a b :: treeLevel g one t

/-- The pairwise tree over its levels. -/
def treeReduce (g : Nat → Nat → Nat) (one : Nat → Nat) : Nat → List Nat → List Nat
  | 0, l => l
  | n + 1, l => if l.length ≤ 1 then l else treeReduce g one n (treeLevel g one l)

/-- VRED: SUM, MIN or MAX by imm10 over the lanes, as a pairwise tree that rounds at every node (R154). -/
def execVred (x : Issue) (s : State) : Host.Outcome State Fault Refusal :=
  s.run (fun s =>
    let w := x.word
    let i := wImm10 w
    let (fa, fd) := (wFmtA w, wFmtD w)
    let g := fun a b => numCode fd (wSat w)
      ((if i = 0 then Num.op2 FV.add (· + ·) else if i = 1 then Num.op2 (FV.minMax false) min else Num.op2 (FV.minMax true) max)
        (numOf fd a) (numOf fd b))
    -- the leaves combine exactly: one rounding at the first level, from the operand's format
    let leaf := fun a b => numCode fd (wSat w)
      ((if i = 0 then Num.op2 FV.add (· + ·) else if i = 1 then Num.op2 (FV.minMax false) min else Num.op2 (FV.minMax true) max)
        (numOf fa a) (numOf fa b))
    let one := fun a => numCode fd (wSat w) (numOf fa a)
    s.vector x 0x11 true (fun s id =>
      s.lanes x id false false (fun _ => 1) (fun s a _ _ => (treeReduce g (fun v => v) 17 (treeLevel leaf one a), s))))

/-- The anchored sum of VASUM (R154): inputs of FP32 or ACC80, whose flags carry over. -/
def vasum (anchor : Int) (acc : Bool) (cs : List Nat) : AccCell :=
  (cs.foldl (fun (c : AccCell) v =>
    if acc then
      { c with breach := c.breach || accBreach v, coarse := c.coarse || accCoarse v }.put anchor (accValue v)
    else c.put anchor (fmtValue fmtFP32 v)) cell0).window

/-- VASUM: the exact sum of the lanes of A, all of them, into one lane under the anchor of imm10 (R154; that one operand holds all taps is a DESIGN
CHOICE). The word names no batch row. -/
def execVasum (x : Issue) (s : State) : Host.Outcome State Fault Refusal :=
  s.run (fun s =>
    let w := x.word
    let (fa, fd) := (wFmtA w, wFmtD w)
    let anchor := toSigned 10 (wImm10 w)
    s.vector x 0x12 true (fun s id =>
      s.lanes x id false false (fun _ => 1) (fun s a _ _ =>
        let c := vasum anchor (fa == fmtACC80) a
        let s := s.tilePolicy x.core id { status0.count c 0 0 with rows := if c.breach || c.nonfinite then [0] else [] } false
        ([if fd = fmtACC80 then accCode c.s anchor c.breach c.nonfinite c.coarse
          else fmtRound fd (wSat w) (c.value false anchor)], s))))

/-- VMOV: the lanes as they are. -/
def execVmov (x : Issue) (s : State) : Host.Outcome State Fault Refusal :=
  s.run (fun s =>
    let w := x.word
    s.vector x 0x13 true (fun s id =>
      s.lanes x id false false (fun n => n) (fun s a _ _ => (a, s))))

end Sys2Proof.Machine
end

