-- ==== Sys2Proof/Machine/Scalar.lean ====
section
/-! DEFINITION. The scalar group and the transfer words (R117, R151, R152, R155 to R159, R168 to R171, Table ARITH-12): 64-bit
integer and FP32 arithmetic, loops, variable sources, tokens, NOP and TRANSFER. -/

namespace Sys2Proof.Machine

/-! ### Registers -/

/-- Write a scalar register. -/
def State.setSreg (s : State) (c u r v : Nat) : State :=
  s.setCore c { s.core c with sregs := tset 0 (s.core c).sregs (64 * (u % 4) + r % 64) (v % 2 ^ 64) }

/-- A scalar word with operation `op`. -/
def State.scalar (s : State) (x : Issue) (op : Nat) (body : State → Option Nat → State) : State := s.issue x 0x5 op true true true body

/-- An operation of rs1 and rs2 into rd. -/
def State.scalar2 (s : State) (x : Issue) (op : Nat) (g : Nat → Nat → Nat) : State :=
  let w := x.word
  s.scalar x op (fun s _ =>
    s.setSreg x.core (wUnit w) (wRd w) (g (s.sreg x.core (wUnit w) (wRs1 w)) (s.sreg x.core (wUnit w) (wRs2 w))))

/-- ADD, in 64 bits. -/
def execAdd (x : Issue) (s : State) : Host.Outcome State Fault Refusal := s.run (fun s => s.scalar2 x 0x01 (· + ·))

/-- SUB, in 64 bits. -/
def execSub (x : Issue) (s : State) : Host.Outcome State Fault Refusal := s.run (fun s => s.scalar2 x 0x02 (fun a b => a + 2 ^ 64 - b))

/-- MUL, in 64 bits. -/
def execMul (x : Issue) (s : State) : Host.Outcome State Fault Refusal := s.run (fun s => s.scalar2 x 0x03 (· * ·))

/-- AND. -/
def execAnd (x : Issue) (s : State) : Host.Outcome State Fault Refusal := s.run (fun s => s.scalar2 x 0x04 (· &&& ·))

/-- OR. -/
def execOr (x : Issue) (s : State) : Host.Outcome State Fault Refusal := s.run (fun s => s.scalar2 x 0x05 (· ||| ·))

/-- XOR. -/
def execXor (x : Issue) (s : State) : Host.Outcome State Fault Refusal := s.run (fun s => s.scalar2 x 0x06 (· ^^^ ·))

/-- SHL: the amount is taken modulo 64 (R152). -/
def execShl (x : Issue) (s : State) : Host.Outcome State Fault Refusal := s.run (fun s => s.scalar2 x 0x07 (shiftCode 0 64))

/-- SHR. -/
def execShr (x : Issue) (s : State) : Host.Outcome State Fault Refusal := s.run (fun s => s.scalar2 x 0x08 (shiftCode 1 64))

/-- SAR. -/
def execSar (x : Issue) (s : State) : Host.Outcome State Fault Refusal := s.run (fun s => s.scalar2 x 0x09 (shiftCode 2 64))

/-- SLT: 1 where rs1 is less than rs2 as signed numbers, else 0. -/
def execSlt (x : Issue) (s : State) : Host.Outcome State Fault Refusal :=
  s.run (fun s => s.scalar2 x 0x0A (fun a b => bit (decide (toSigned 64 a < toSigned 64 b))))

/-- LDI: imm32 with its sign. -/
def execLdi (x : Issue) (s : State) : Host.Outcome State Fault Refusal :=
  s.run (fun s => s.scalar x 0x0B (fun s _ =>
    s.setSreg x.core (wUnit x.word) (wRd x.word) (ofSigned 64 (toSigned 32 (wImm32 x.word)))))

/-- A division of signed 64-bit numbers; a zero divisor adds one to the leg's count (R152). -/
def State.scalarDiv (s : State) (x : Issue) (op : Nat) (g : Int → Int → Int) : State :=
  let w := x.word
  s.scalar x op (fun s id =>
    let a := toSigned 64 (s.sreg x.core (wUnit w) (wRs1 w))
    let b := toSigned 64 (s.sreg x.core (wUnit w) (wRs2 w))
    let s := if b = 0 then s.countDivZero id 1 else s
    s.setSreg x.core (wUnit w) (wRd w) (ofSigned 64 (g a b)))

/-- DIV: truncates toward zero; 0 for a zero divisor (R152). -/
def execDiv (x : Issue) (s : State) : Host.Outcome State Fault Refusal := s.run (fun s => s.scalarDiv x 0x0C intDiv)

/-- REM: the dividend for a zero divisor (R152). -/
def execRem (x : Issue) (s : State) : Host.Outcome State Fault Refusal :=
  s.run (fun s => s.scalarDiv x 0x0D (fun a b => if b = 0 then a else a.tmod b))

/-- The byte address in core SRAM of a 64-bit access: rs1 plus imm32, signed. -/
def State.sramOffset (s : State) (x : Issue) : Nat := s.wordOffset x.core x.word

/-- LD: 64 bits of core SRAM. -/
def execLd (x : Issue) (s : State) : Host.Outcome State Fault Refusal :=
  s.run (fun s => s.scalar x 0x0E (fun s id =>
    let r := sramSegs x.core (s.sramOffset x) 8
    s.reading x.core id r (fun s => s.setSreg x.core (wUnit x.word) (wRd x.word) (leNat (s.rangeBytes r)))))

/-- ST: 64 bits of rs2 into core SRAM. -/
def execSt (x : Issue) (s : State) : Host.Outcome State Fault Refusal :=
  s.run (fun s => s.scalar x 0x0F (fun s _ =>
    s.storeSram x.core (s.sramOffset x) (leBytes 8 (s.sreg x.core (wUnit x.word) (wRs2 x.word)))))

/-- An FP32 operation of rs1, rs2 and rd, rounded once into rd (R151). -/
def State.scalarF (s : State) (x : Issue) (op : Nat) (g : FV → FV → FV → FV) : State :=
  let w := x.word
  s.scalar x op (fun s _ =>
    let v := fun r => fmtValue fmtFP32 (s.sreg x.core (wUnit w) r)
    s.setSreg x.core (wUnit w) (wRd w) (fmtRound fmtFP32 (wSat w) (g (v (wRs1 w)) (v (wRs2 w)) (v (wRd w)))))

/-- FADD. -/
def execFadd (x : Issue) (s : State) : Host.Outcome State Fault Refusal := s.run (fun s => s.scalarF x 0x10 (fun a b _ => a.add b))

/-- FSUB. -/
def execFsub (x : Issue) (s : State) : Host.Outcome State Fault Refusal := s.run (fun s => s.scalarF x 0x11 (fun a b _ => a.sub b))

/-- FMUL. -/
def execFmul (x : Issue) (s : State) : Host.Outcome State Fault Refusal := s.run (fun s => s.scalarF x 0x12 (fun a b _ => a.mul b))

/-- FFMA: rs1 × rs2 + rd with one rounding; the table names no third operand, and the old rd is taken for it (DESIGN CHOICE). -/
def execFfma (x : Issue) (s : State) : Host.Outcome State Fault Refusal :=
  s.run (fun s => s.scalarF x 0x13 (fun a b d => (a.mul b).add d))

/-- FDIV. -/
def execFdiv (x : Issue) (s : State) : Host.Outcome State Fault Refusal := s.run (fun s => s.scalarF x 0x14 (fun a b _ => a.div b))

/-- FSQRT of rs1. -/
def execFsqrt (x : Issue) (s : State) : Host.Outcome State Fault Refusal := s.run (fun s => s.scalarF x 0x15 (fun a _ _ => a.sqrt))

/-- A 64-bit integer rounded and saturated (Table ARITH-8, for I64). -/
def toI64 (v : FV) : Nat :=
  match v with
  | .nan => 0
  | .inf n => if n then 2 ^ 63 else 2 ^ 63 - 1
  | .fin n m e => ofSigned 64 (max (-(2 ^ 63)) (min (2 ^ 63 - 1) (sgn n (roundInt m e).1)))

/-- FCVT between FP32 and I32 or I64: the format codes of the word, where 0x0 stands for I64, which has none; an I32 result
keeps its sign in 64 bits. -/
def execFcvt (x : Issue) (s : State) : Host.Outcome State Fault Refusal :=
  s.run (fun s =>
    let w := x.word
    let (fa, fd) := (wFmtA w, wFmtD w)
    s.scalar x 0x16 (fun s _ =>
      let a := s.sreg x.core (wUnit w) (wRs1 w)
      let v := if fa = fmtFP32 || fa = fmtI32 then fmtValue fa a
        else let i := toSigned 64 a
          FV.fin (decide (i < 0)) i.natAbs 0
      let r := if fd = fmtFP32 then fmtRound fmtFP32 (wSat w) v
        else if fd = fmtI32 then ofSigned 64 (toSigned 32 (fmtRound fmtI32 (wSat w) v))
        else toI64 v
      s.setSreg x.core (wUnit w) (wRd w) r))

/-- RDV: a variable source (Table ARITH-14); the word carries the variable mark (R159).  The local clock takes two
registers. -/
def execRdv (x : Issue) (s : State) : Host.Outcome State Fault Refusal :=
  s.run (fun s =>
    let w := x.word
    let k := wImm32 w % 256
    let c := x.core.val
    let u := wUnit w
    s.scalar x 0x20 (fun s _ =>
      if k = 1 then s.setSreg c u (wRd w) (s.get64 (F.PERF_TICK_LO_ticks c) (F.PERF_TICK_HI_ticks c))
      else if k = 2 then (s.setSreg c u (wRd w) (s.clk.sec % 2 ^ 48)).setSreg c u (wRd w + 1) s.clk.ns
      else if k = 3 then s.setSreg c u (wRd w) s.milestone
      else if k = 4 then s.setSreg c u (wRd w) (s.get (F.PACE_MISS_count c))
      else if k = 5 then s.setSreg c u (wRd w) (ofSigned 64 (s.slackOf c))
      else if k = 6 then s.setSreg c u (wRd w) (s.perfCount c (wImm32 w / 256 % 8))
      else
        let (v, s) := s.drawEntropy
        s.setSreg c u (wRd w) v))

/-- LOOP: opens a loop over the words of its stream that follow, for imm32 trips; loops nest at most four deep (R158). -/
def execLoop (x : Issue) (s : State) : Host.Outcome State Fault Refusal :=
  s.run (fun s =>
    let w := x.word
    let o := x.offset.toNat
    let inside := (s.core x.core).loops.filter (fun l => l.has o)
    s.issue x 0x6 0x01 (decide (inside.length < 4)) true true (fun s _ =>
      s.setCore x.core { s.core x.core with
        loops := if wBody w = 0 then inside else { first := o + 1, body := wBody w, left := wImm32 w, words := [] } :: inside }))

/-! ### Tokens -/

/-- WAITT: waits for the tokens of imm32 [7:0]; while some have not arrived the scalar group waits (R155, R170). -/
def execWaitt (x : Issue) (s : State) : Host.Outcome State Fault Refusal :=
  s.run (fun s =>
    let w := x.word
    let c := x.core.val
    let mask := wImm32 w % 256
    s.issue x 0x7 0x01 true true false (fun s id =>
      s.awaitTokens c mask id (fun s => s.fireTokens c (wSignal w))
        (fun s => s.setCore c { s.core c with waiting := some (mask + 256 * wSignal w, id) })))

/-- WAITT_COMPLETE: what the WAITT of a core waits for has arrived, or a verge slot shows a skew (R170, R171). -/
def execWaittComplete (c : CoreId) (s : State) : Host.Outcome State Fault Refusal :=
  s.run (fun s =>
    match (s.core c).waiting with
    | none => s
    | some (m, id) =>
      s.awaitTokens c (m % 256) id
        (fun s => (s.setCore c { s.core c with waiting := none }).fireTokens c (m / 256))
        (fun s => s))

/-- VERGE_TIMEOUT: a WAITT on a verge token has waited for four periods; its leg is aborted (R171). -/
def execVergeTimeout (c : CoreId) (s : State) : Host.Outcome State Fault Refusal :=
  s.run (fun s =>
    match (s.core c).waiting with
    | none => s
    | some (m, id) =>
      match (tokensOf m).find? (fun t => (s.vergeSlot c t).isSome && s.tokState c t != .ready) with
      | none => s
      | some t =>
        match id.bind s.leg? with
        | none => s
        | some g =>
          let e := s.takeGen c t ((s.vergeSlot c t).getD 0)
          let s := s.setCore c { s.core c with waiting := none }
          (s.raiseCore c Code.VERGE_TIMEOUT [g.part, g.leg, t, e]).abortLeg g.id Code.VERGE_TIMEOUT)

/-- SIGNAL: the tokens of imm32 [7:0] are signalled; a verge token posts its generation (R169). -/
def execSignal (x : Issue) (s : State) : Host.Outcome State Fault Refusal :=
  s.run (fun s =>
    let w := x.word
    s.issue x 0x7 0x02 true true true (fun s _ =>
      s.fireTokens x.core (wImm32 w % 256)))

/-! ### NOP and TRANSFER -/

/-- NOP, in the group of its stream (Table ARITH-15): it waits and signals like every word and does nothing else. -/
def execNop (x : Issue) (s : State) : Host.Outcome State Fault Refusal :=
  s.run (fun s => s.issue x 0x0 (wOp x.word) (nopUnit x.group x.word) true true (fun s _ => s))

/-- The 64-byte units of a space as core `c` may name them; spaces 5 to 7 do not exist. -/
def State.spaceUnits (s : State) (c space : Nat) : Nat :=
  [131072, 524288, 1024 * s.get (F.ROUTE_QUOTA_LIMIT_pages (s.corePart c)), 1048576, 524288 * s.clusters].getD space 0

/-- TRANSFER: whole 64-byte units move between the spaces of Table ARITH-13 (R117); what comes into core SRAM can be fetched
again while its leg runs (R390). -/
def execTransfer (x : Issue) (s : State) : Host.Outcome State Fault Refusal :=
  s.run (fun s =>
    let w := x.word
    let c := x.core.val
    let n := wCount w
    let (ss, so, ds, dof) := (wField w 77 3, wField w 48 29, wField w 45 3, wField w 16 29)
    let inside := fun sp off => decide (off + n ≤ s.spaceUnits c sp)
    s.issue x 0x8 (wOp w) (inside ss so && inside ds dof) true true (fun s id =>
      let src := s.spaceAddr c ss so
      let dst := s.spaceAddr c ds dof
      s.reading c id [(src, 64 * n)] (fun s =>
        let s := s.store dst (s.bytes src (64 * n))
        let s := match id, ds with
          | some g, 0 => s.setCore c { s.core c with fetched := (s.core c).fetched ++ [(g, dst, src, 64 * n)] }
          | _, _ => s
        let s := s.perfEvent c 0x09 n
        let s := if ss = 2 then s.perfEvent c 0x0A n else s
        if ds = 2 then s.perfEvent c 0x0B n else s)))

end Sys2Proof.Machine
end

