-- ==== Sys2Proof/Machine/Edge.lean ====
section
/-! DEFINITION. Fixed-tick calls, the edge engine and the post engine (R182 to R190): a call computes its outputs from what it
reads at issue and writes them when its ticks have elapsed. -/

namespace Sys2Proof.Machine

/-! ### Calls -/

/-- A call with nothing to write. -/
def call0 (kind op signal : Nat) (leg : Option Nat) : Call :=
  { kind := kind, unit := 0, op := op, signal := signal, writes := [], codes := [], causes := [], slots := none, leg := leg, ticks := 0
    endAt := 0, digest := none, unequal := false }

/-- A call starts on core `c`: its ticks have elapsed after that many ticks at the pace in force. -/
def State.startCall (s : State) (c : Nat) (k : Call) : State :=
  s.setCore c { s.core c with
    calls := (s.core c).calls ++ [{ k with endAt := s.clk.now * 5000 + k.ticks * s.get F.PACE_STATUS_pace }] }

/-- The engine of a kind (Table ROUTE-8) that core `c` uses for its leg: that of the leg's engine slot on it, else the one that serves its
cluster (R185, R190). -/
def State.engineOf (s : State) (c kind : Nat) (id : Option Nat) : Nat :=
  match ((id.bind s.leg?).bind (fun g => g.eng.find? (fun e => e.kind == kind && s.logicalOf c == some e.core))) with
  | some e => e.unit
  | none => (s.servers kind (c / 5)).headD (if kind == engPOST then c / 20 else c / 5)

/-- No core has a call of kind `call` in flight on engine `unit`: an engine serves one core at a time (R185, R188). -/
def State.engineFree (s : State) (call unit : Nat) : Bool :=
  !s.exec.any (fun e => e.2.calls.any (fun k => k.kind == call && k.unit == unit))

/-- The leg that core `c` issues words of group `group` for, by its number. -/
def State.legId (s : State) (c group : Nat) : Option Nat := (s.legIn c group).map (fun g => g.id)

/-- Partition and leg index as codes name them; 0xFFFF where no leg issued the call. -/
def State.legNames (s : State) (c : Nat) (id : Option Nat) : List Nat :=
  match id.bind s.leg? with
  | some g => [g.part, g.leg]
  | none => [s.corePart c, 0xFFFF]

/-- A call ends: outputs and status are written, codes and the breach policy follow from its flags (`once`: each code once per
leg), and its signal tokens fire. -/
def State.finishCall (s : State) (c : Nat) (k : Call) (once : Bool) (event : Nat) : State :=
  let s := s.storeAll k.writes
  let s := if event = 0 then s else s.perfEvent c event k.ticks
  let names := s.legNames c k.leg
  let s := s.each k.codes (fun s e =>
    match once, k.leg with
    | true, some g => s.legCode c g e.1 (names ++ e.2)
    | _, _ => s.raiseCore c e.1 (names ++ e.2))
  let s := match k.leg with
    | some g => s.each k.causes (fun s e => s.breach c g e.1 e.2 (k.slots.getD (((s.leg? g).map s.slotsOf).getD [])))
    | none => s
  if s.legStands k.leg then s.fireTokens c k.signal else s

/-- The call of the given kinds on core `c` whose ticks elapse first completes, the oldest of equals. -/
def State.completeCall (s : State) (c : Nat) (kinds : List Nat) (f : State → Call → State) : State :=
  let mine := (s.core c).calls.filter (fun k => kinds.contains k.kind)
  let first := (mine.map (fun k => k.endAt)).foldl min ((mine.head?.map (fun k => k.endAt)).getD 0)
  match (s.core c).calls.findIdx? (fun k => kinds.contains k.kind && k.endAt == first) with
  | none => s
  | some i =>
    match (s.core c).calls[i]? with
    | none => s
    | some k => f (s.setCore c { s.core c with calls := (s.core c).calls.eraseIdx i }) k

/-- The 64 bytes of the descriptor that a word names. -/
def State.descriptor (s : State) (c : Nat) (w : BitVec 128) : List Byte := s.bytes (sramBase c + 64 * wSrcA w) 64

/-! ### The edge engine (R184, R185, Tables CONV-8, CONV-11) -/

/-- The offset in the input of channel `ch` of pixel (y, x) after unpacking; Bayer channels are R, G on R rows, G on B rows, B
(Table CONV-8). -/
def EdgeDesc.inOffset (d : EdgeDesc) (y x ch : Nat) : Nat :=
  let b := fmtBits d.fin / 8
  if d.bayer then
    -- row and column of R within the 2 × 2 cell: RGGB (0,0), GRBG (0,1), GBRG (1,0), BGGR (1,1)
    let k := d.layout - 2
    let ry := k / 2
    let rx := k % 2
    let (dy, dx) := if ch = 0 then (ry, rx) else if ch = 1 then (ry, 1 - rx) else if ch = 2 then (1 - ry, rx) else (1 - ry, 1 - rx)
    64 * d.inStride * (2 * y + dy) + (2 * x + dx) * b
  else 64 * d.inStride * y + x * d.pixelBytes + ch * b

/-- An index outside the image under a padding mode (Table CONV-4): the index read, or none for a filled value. -/
def padIndex (mode n : Nat) (i : Int) : Option Nat :=
  if 0 ≤ i && i < n then some i.toNat
  else if mode = 2 || (mode = 3 && n = 1) then some (if i < 0 then 0 else n - 1)
  else if mode = 3 then
    let m := (i % (2 * ((n : Int) - 1))).toNat
    some (if m ≤ n - 1 then m else 2 * (n - 1) - m)
  else none

/-- One input element: an element of the image, or the value that fills the border (R174). -/
def State.edgeElem (s : State) (d : EdgeDesc) (base : Nat) (y x : Int) (ch : Nat) : FV :=
  match padIndex d.pad d.inRows y, padIndex d.pad d.cols x with
  | some r, some c => fmtValue d.fin (s.rd (base + d.inOffset r c ch) (fmtBits d.fin / 8))
  | _, _ => if d.pad = 1 then fmtValue d.fin d.value else .fin false 0 0

/-- The cell of output pixel (y, x), channel `n`: the exact products of the kernel with their input (R162, R184). -/
def State.edgeCell (s : State) (d : EdgeDesc) (base : Nat) (weights bias : List Nat) (y x n : Nat) : AccCell :=
  let taps := (upTo d.kh).flatMap (fun ty => (upTo d.kw).map (fun tx => (ty, tx)))
  let c := taps.foldl (fun (a : AccCell) t =>
    (upTo d.cin).foldl (fun (a : AccCell) ch =>
      let v := s.edgeElem d base ((y * d.sy + t.1 : Nat) - (d.pt : Int)) ((x * d.sx + t.2 : Nat) - (d.pl : Int)) ch
      let w := fmtValue d.fw (weights.getD (((t.1 * d.kw + t.2) * d.cin + ch) * d.cout + n) 0)
      a.put d.anchor (v.mul w)) a) cell0
  (if d.bias then c.addBias false d.anchor fmtFP32 (bias.getD n 0) else c).window

/-- The samples of leg `id` that the flagged pixels of an edge call touch. -/
def State.edgeSlots (s : State) (id : Option Nat) (st : TileStatus) : Option (List Nat) × State :=
  match id.bind s.leg? with
  | none => (none, s)
  | some g =>
    if st.rows.isEmpty then (some [], s)
    else
      let (l, s) := s.touched g (some st.rows)
      (some l, s)

/-- ERUN: an edge call (R184, R185, R189). -/
def execErun (x : Issue) (s : State) : Host.Outcome State Fault Refusal :=
  s.run (fun s =>
    let w := x.word
    let c := x.core.val
    let r := s.descriptor c w
    let d := edgeDesc r
    let unit := s.engineOf c engEDGE (s.legId c x.group)
    s.issue x 0x9 0x01 (d.legal (recField r 0 1)) (s.engineFree callEDGE unit) false (fun s id =>
      let loc := fun i => s.locAddr c (d.locs.getD i 0)
      let wn := d.kh * d.kw * d.cin * d.cout
      let raw := if d.bayer then 2 * d.inRows else d.inRows
      let reads := [(sramBase c + 64 * wSrcA w, 64), (loc 1, wn)] ++ (if d.bias then [(loc 2, 4 * d.cout)] else []) ++
        (if d.scale then [(loc 3, 4 * d.cout)] else []) ++
        (upTo raw).map (fun y => (loc 0 + 64 * d.inStride * y, d.width * d.pixelBytes))
      s.reading c id reads (fun s =>
        let weights := bytesCodes d.fw wn (s.bytes (loc 1) wn)
        let bias := bytesCodes fmtFP32 d.cout (s.bytes (loc 2) (4 * d.cout))
        let scale := bytesCodes fmtFP32 d.cout (s.bytes (loc 3) (4 * d.cout))
        let pixels := (upTo d.rows).flatMap (fun y => (upTo d.outCols).map (fun q => (y, q)))
        let cells := pixels.map (fun p => (p, (upTo d.cout).map (fun n => s.edgeCell d (loc 0) weights bias p.1 p.2 n)))
        let st := (cells.foldl (fun (acc : TileStatus × Nat) e =>
          ((e.2.foldl (fun (a : TileStatus × Nat) k => (a.1.count k acc.2 a.2, a.2 + 1)) (acc.1, 0)).1, acc.2 + 1)) (status0, 0)).1
        let value := fun (k : AccCell) n =>
          drainValue (k.value false d.anchor) d.fout d.shift (if d.scale then some (scale.getD n 0) else none)
        let vecBytes := pad64 (fmtSize d.fout d.cout)
        let out := cells.map (fun e =>
          let bs := if d.fout = fmtACC80 then
              codesBytes fmtACC80 (e.2.map (fun k => accCode k.s d.anchor k.breach k.nonfinite k.coarse))
            else if isMxFmt d.fout then codesBytes d.fout (mxWrite d.fout (e.2.mapIdx (fun n k => value k n))).2
            else destBytes d.fout (wSat w) (e.2.mapIdx (fun n k => value k n))
          (loc 4 + 64 * d.outStride * e.1.1 + vecBytes * e.1.2, bs))
        let scales := if isMxFmt d.fout then
            [(loc 4 + 64 * d.outStride * d.rows,
              (cells.flatMap (fun e => (mxWrite d.fout (e.2.mapIdx (fun n k => value k n))).1)).map (BitVec.ofNat 8))] else []
        let (fr, fc) := st.first.getD (0xFFFF, 0xFFFF)
        let k := call0 callEDGE 1 (wSignal w) id
        let p := s.corePart c
        let (slots, s) := s.edgeSlots id st
        s.startCall c { k with
          unit := unit
          writes := out ++ scales ++ [(loc 5, st.bytes)]
          codes := (if st.breach = 0 then [] else [(Code.ANCHOR_BREACH, [st.breach, fr, fc])]) ++
            (if st.nonfinite = 0 then [] else [(Code.NONFINITE_OPERAND, [st.nonfinite])])
          causes := if st.rows.isEmpty then [] else [(Code.ANCHOR_BREACH, Code.BREACH_VOID)]
          slots := slots
          ticks := d.ticks })))

/-! ### The post engine (R186 to R188, Tables CONV-9, CONV-10) -/

/-- FP32 operations, each rounded. -/
def fAdd (a b : FV) : FV := (a.add b).fp32
def fSub (a b : FV) : FV := (a.sub b).fp32
def fMul (a b : FV) : FV := (a.mul b).fp32
def fDiv (a b : FV) : FV := (a.div b).fp32
def fMin (a b : FV) : FV := FV.minMax false a b
def fMax (a b : FV) : FV := FV.minMax true a b
def fZero : FV := .fin false 0 0
def fHalf : FV := .fin false 1 (-1)

/-- A box. -/
structure Box where
  x1 : FV
  y1 : FV
  x2 : FV
  y2 : FV
  deriving DecidableEq, Repr

/-- A candidate: score, box, class, anchor index. -/
structure Cand where
  score : FV
  box : Box
  cls : Nat
  anchor : Nat
  index : Nat
  deriving DecidableEq, Repr

/-- Decode a box (R186): ANCHOR mode with anchor (acx, acy, aw, ah), or DISTANCE mode with point (px, py, st). -/
def decodeBox (anchorMode : Bool) (a d v : List FV) (clampLog : FV) : Box :=
  let g := fun (l : List FV) i => l.getD i fZero
  if anchorMode then
    let cx := fAdd (g a 0) (fMul (fMul (g d 0) (g v 0)) (g a 2))
    let cy := fAdd (g a 1) (fMul (fMul (g d 1) (g v 1)) (g a 3))
    let w := fMul (g a 2) (vfunc 0x01 (fMin (fMul (g d 2) (g v 2)) clampLog)).fp32
    let h := fMul (g a 3) (vfunc 0x01 (fMin (fMul (g d 3) (g v 3)) clampLog)).fp32
    { x1 := fSub cx (fMul fHalf w), y1 := fSub cy (fMul fHalf h), x2 := fAdd cx (fMul fHalf w), y2 := fAdd cy (fMul fHalf h) }
  else
    { x1 := fSub (g a 0) (fMul (g d 0) (g a 2)), y1 := fSub (g a 1) (fMul (g d 1) (g a 2))
      x2 := fAdd (g a 0) (fMul (g d 2) (g a 2)), y2 := fAdd (g a 1) (fMul (g d 3) (g a 2)) }

/-- Clamp a box to the image. -/
def clipBox (b : Box) (w h : FV) : Box :=
  let cl := fun v hi => fMin (fMax v fZero) hi
  { x1 := cl b.x1 w, y1 := cl b.y1 h, x2 := cl b.x2 w, y2 := cl b.y2 h }

/-- The overlap of two boxes (R187), each step rounded. -/
def iou (a b : Box) : FV :=
  let iw := fMax fZero (fSub (fMin a.x2 b.x2) (fMax a.x1 b.x1))
  let ih := fMax fZero (fSub (fMin a.y2 b.y2) (fMax a.y1 b.y1))
  let inter := fMul iw ih
  let area := fun (k : Box) => fMul (fMax fZero (fSub k.x2 k.x1)) (fMax fZero (fSub k.y2 k.y1))
  let union := fSub (fAdd (area a) (area b)) inter
  if fZero.lt union = some true then fDiv inter union else fZero

/-- Suppression (R187 steps 5 and 6): the kept candidates, and whether some remained when `d` were kept. -/
def suppress (agnostic : Bool) (thr : FV) (d : Nat) : List Cand → List Cand → List Cand × Bool
  | [], kept => (kept, false)
  | c :: cs, kept =>
    if kept.length ≥ d then (kept, true)
    else if kept.any (fun k => (agnostic || k.cls == c.cls) && thr.lt (iou k.box c.box) == some true) then
      suppress agnostic thr d cs kept
    else suppress agnostic thr d cs (kept ++ [c])

/-- Candidates in order of descending score, equal scores by ascending index (R187 step 3). -/
def candBefore (a b : Cand) : Bool :=
  match b.score.lt a.score, a.score.lt b.score with
  | some true, _ => true
  | _, some true => false
  | _, _ => decide (a.index ≤ b.index)

/-- The bytes of an output record (Table CONV-10). -/
def candBytes (c : Cand) : List Byte :=
  let f := fun v => leBytes 4 (fmtRound fmtFP32 false v)
  f c.box.x1 ++ f c.box.y1 ++ f c.box.x2 ++ f c.box.y2 ++ f c.score ++ leBytes 2 c.cls ++ [0, 0] ++ leBytes 4 c.index ++
    leBytes 4 c.anchor

/-- PRUN: a post call (R186 to R189). The planes stand row-major: N × C scores, N × 4 deltas, and for each anchor four FP32 numbers (ANCHOR) or
three (DISTANCE); the spec does not lay them out (DESIGN CHOICE). -/
def execPrun (x : Issue) (s : State) : Host.Outcome State Fault Refusal :=
  s.run (fun s =>
    let w := x.word
    let c := x.core.val
    let r := s.descriptor c w
    let mode := recField r 0 1
    let f := nib r 1 4 4
    let (cls, n, m, d) := (recField r 2 2, recField r 4 4, recField r 8 2, recField r 10 2)
    let locs := (upTo 4).map (fun i => recField r (32 + 4 * i) 4)
    let unit := s.engineOf c engPOST (s.legId c x.group)
    s.issue x 0xB 0x01 (postLegal r) (s.engineFree callPOST unit) false (fun s id =>
      let loc := fun i => s.locAddr c (locs.getD i 0)
      let size := fmtBits f / 8
      let per := if mode = 1 then 4 else 3
      let reads := [(sramBase c + 64 * wSrcA w, 64), (loc 0, n * cls * size), (loc 1, n * 4 * size), (loc 2, n * per * 4)]
      s.reading c id reads (fun s =>
        let fp := fun o => fmtValue fmtFP32 (recField r o 4)
        let vars := (upTo 4).map (fun i => fp (48 + 4 * i))
        let scores := (bytesCodes f (n * cls) (s.bytes (loc 0) (n * cls * size))).map (fmtValue f)
        let deltas := rowsOf 4 n ((bytesCodes f (n * 4) (s.bytes (loc 1) (n * 4 * size))).map (fmtValue f))
        let anchors := rowsOf per n ((bytesCodes fmtFP32 (n * per) (s.bytes (loc 2) (n * per * 4))).map (fmtValue fmtFP32))
        let boxes := List.zipWith (fun a dl =>
          let b := decodeBox (mode = 1) a dl vars (fp 20)
          if nib r 1 2 1 = 1 then clipBox b (fp 24) (fp 28) else b) anchors deltas
        let cands := ((rowsOf cls n scores).zip boxes).mapIdx (fun i e =>
          e.1.mapIdx (fun k v =>
            ({ score := if nib r 1 0 1 = 1 then (vfunc 0x0D v).fp32 else v, box := e.2, cls := k, anchor := i
               index := i * cls + k } : Cand)))
        let cands := cands.flatten
        let good := fun (k : Cand) => !k.score.isNan && k.box.x1.finite && k.box.y1.finite && k.box.x2.finite && k.box.y2.finite
        let dropped := (cands.filter (fun k => !good k)).length
        let above := cands.filter (fun k => good k && k.score.lt (fp 12) == some false)
        let sorted := above.mergeSort candBefore
        let (kept, full) := suppress (nib r 1 1 1 = 1) (fp 16) d (sorted.take m) []
        let beyond := decide (m < above.length)
        let head := leBytes 2 kept.length ++ [0, 0] ++ leBytes 4 above.length ++ leBytes 4 dropped ++
          leBytes 1 (bit beyond + 2 * bit full) ++ List.replicate 19 0
        s.startCall c { call0 callPOST 1 (wSignal w) id with
          unit := unit
          writes := [(loc 3, head ++ kept.flatMap candBytes)]
          codes := (if beyond then [(Code.POST_TRUNCATED, [above.length, m])] else []) ++
            (if dropped = 0 then [] else [(Code.POST_NONFINITE, [dropped])])
          ticks := postTicks n cls m })))

/-- EDGE_CALL_COMPLETE: the ticks of an edge or post call have elapsed (R189). -/
def execEdgeCallComplete (c : CoreId) (s : State) : Host.Outcome State Fault Refusal :=
  s.run (fun s => s.completeCall c [callEDGE, callPOST] (fun s k =>
    if k.kind = callEDGE then s.finishCall c k true 0x12 else s.finishCall c k false 0x14))

end Sys2Proof.Machine
end

