-- ==== Sys2Proof/Machine/Irreg.lean ====
section
/-! DEFINITION. Irregular calls (R192 to R202): gathers, segments, sorts, sets, labels and graphs, with orders and ties of Table
IRR-3, the input faults of Table IRR-5 and the status record of Table IRR-6. -/

namespace Sys2Proof.Machine

/-! ### Descriptor (Table IRR-2) -/

/-- What a call leaves: the planes it writes, the output count where it produces a set, entries dropped, indices or edges
counted, and its flags (Table IRR-6). -/
structure IrrOut where
  planes : List (Nat × List Byte)
  count : Option Nat
  dropped : Nat
  counted : Nat
  overflow : Bool
  range : Bool
  bad : Bool
  breach : Bool
  unsettled : Bool
  rounds : Nat
  written : Option Nat
  deriving DecidableEq, Repr

def irr0 : IrrOut :=
  { planes := [], count := none, dropped := 0, counted := 0, overflow := false, range := false, bad := false, breach := false
    unsettled := false, rounds := 0, written := none }

/-- A plane of `n` element codes at an address. -/
def State.plane (s : State) (a f n : Nat) : List Nat := bytesCodes f n (s.bytes a (fmtSize f n))

/-- A plane of signed 32-bit numbers. -/
def State.plane32 (s : State) (a n : Nat) : List Int := (s.plane a fmtI32 n).map (toSigned 32)

/-- An output plane: its codes, and the fill value up to its capacity (R195). -/
def filled (f cap fill : Nat) (cs : List Nat) : List Byte :=
  codesBytes f (cs ++ List.replicate (cap - cs.length) (fill % 2 ^ fmtBits f))

/-! ### Orders (Table IRR-3) -/

/-- The value of a key. -/
def keyValue (f c : Nat) : FV := fmtValue f c

/-- Key `a` comes strictly before key `b`; NaN comes last in both directions. -/
def keyBefore (desc : Bool) (a b : FV) : Bool :=
  match a.isNan, b.isNan with
  | true, _ => false
  | false, true => true
  | false, false => if desc then b.lt a == some true else a.lt b == some true

/-- Two keys stand at the same place of the order. -/
def keySame (a b : FV) : Bool := !keyBefore false a b && !keyBefore false b a

/-- An entry of a set: key code, payload, original index. -/
structure Entry where
  key : Nat
  pay : Nat
  index : Nat
  deriving DecidableEq, Repr

/-- The entry order of a sort: keys first, then the original index. -/
def entryBefore (f : Nat) (desc : Bool) (a b : Entry) : Bool :=
  let (x, y) := (keyValue f a.key, keyValue f b.key)
  keyBefore desc x y || (!keyBefore desc y x && decide (a.index ≤ b.index))

/-- A stable sort. -/
def sortEntries (f : Nat) (desc : Bool) (l : List Entry) : List Entry := l.mergeSort (entryBefore f desc)

/-! ### Sums and extremes -/

/-- The exact anchored sum of values, rounded once, and whether it left the window (R140 to R144). -/
def exactSum (f : Nat) (anchor : Int) (vs : List FV) : Nat × Bool :=
  let c := (vs.foldl (fun (c : AccCell) v => c.put anchor v) cell0).window
  (fmtRound f false (c.value false anchor), c.breach)

/-- The sum of codes of a format: integers wrap, floating point is exact until its one rounding. -/
def sumCodes (f : Nat) (anchor : Int) (cs : List Nat) : Nat × Bool :=
  if isIntFmt f then (intCode f ((cs.map (intOf f)).foldl (· + ·) 0), false)
  else exactSum f anchor (cs.map (fmtValue f))

/-- The position of the least or greatest of the codes, the lowest among equals; a NaN gives way to a number (R151), and where all are NaN the
result is the canonical NaN (R137). -/
def extreme (f : Nat) (max? : Bool) (cs : List (Nat × Nat)) : Option (Nat × Nat) :=
  (cs.foldl (fun (acc : Option (Nat × Nat)) e =>
    match acc with
    | none => some e
    | some b =>
      let (x, y) := (fmtValue f b.1, fmtValue f e.1)
      if x.isNan && !y.isNan then some e
      else if (if max? then x.lt y else y.lt x) == some true then some e else acc) none).map (fun e =>
    if (fmtValue f e.1).isNan then (fmtRound f false .nan, e.2) else e)

/-- The greatest and least value of a format: infinities where it has them (Table IRR-3, empty segments). -/
def topCode (f : Nat) (neg : Bool) : Nat :=
  if isIntFmt f then intCode f (if neg then intLo f else intHi f) else fmtRound f false (.inf neg)

/-! ### The operations (Table IRR-1) -/

/-- The actual count of a set, cut to its capacity, and whether it was above it. -/
def State.actual (s : State) (a cap : Nat) : Nat × Bool :=
  let n := s.rd a 4
  (min n cap, decide (cap < n))

/-- GATHER: A holds indices, B the table of `m` elements. -/
def irrGather (s : State) (d : IrrDesc) (loc : Nat → Nat) : IrrOut :=
  let (n, beyond) := s.actual (loc 3) d.n
  let idx := s.plane32 (loc 0) n
  let w := fmtBits d.f / 8
  let ok := fun (i : Int) => decide (0 ≤ i) && decide (i < (d.m : Int))
  let out := idx.map (fun i => if ok i then s.rd (loc 1 + w * i.toNat) w else d.fill % 2 ^ fmtBits d.f)
  let k := (idx.filter (fun i => !ok i)).length
  { irr0 with planes := [(loc 4, filled d.f d.n d.fill out)], count := some n, counted := k, overflow := beyond, range := k != 0 }

/-- SCATTER: A holds values, B indices, C payloads; output 1 is the table of `m` elements and output 2 its payloads. -/
def irrScatter (s : State) (d : IrrDesc) (loc : Nat → Nat) : IrrOut :=
  let (n, beyond) := s.actual (loc 3) d.n
  let vals := s.plane (loc 0) d.f n
  let idx := s.plane32 (loc 1) n
  let pays := if d.pf = fmtNONE then [] else s.plane (loc 2) fmtI32 n
  let ok := fun (i : Int) => decide (0 ≤ i) && decide (i < (d.m : Int))
  let l := ((vals.zip idx).mapIdx (fun i e => (e.1, e.2, i))).filter (fun e => ok e.2.1)
  let w := fmtBits d.f / 8
  let targets := (l.map (fun e => e.2.1.toNat)).eraseDups
  let res := targets.map (fun t =>
    let here := (l.filter (fun e => e.2.1.toNat == t)).map (fun e => (e.1, e.2.2))
    if d.mode = 4 then
      let (v, b) := sumCodes d.f d.anchor (s.rd (loc 4 + w * t) w :: here.map (fun e => e.1))
      (t, v, (here.headD (0, 0)).2, b)
    else
      let e := (if d.mode = 0 then here.head? else if d.mode = 1 then here.getLast? else extreme d.f (d.mode = 3) here).getD (0, 0)
      (t, e.1, e.2, false))
  let k := n - l.length
  { irr0 with planes := res.map (fun e => (loc 4 + w * e.1, leBytes w e.2.1)) ++
                (if d.pf = fmtNONE then [] else res.map (fun e => (loc 5 + 4 * e.1, leBytes 4 (pays.getD e.2.2.1 0))))
              counted := k, overflow := beyond, range := k != 0, breach := res.any (fun e => e.2.2.2) }

/-- The segments of a set from their `s + 1` offsets; none where the offsets are malformed (Table IRR-5). -/
def segments (offs : List Int) (n : Nat) : Option (List (Nat × Nat)) :=
  let pairs := offs.zip (offs.drop 1)
  if offs.headD 1 != 0 || pairs.any (fun e => decide (e.2 < e.1)) || offs.any (fun o => decide ((n : Int) < o)) then none
  else some (pairs.map (fun e => (e.1.toNat, e.2.toNat)))

/-- SEGRED: A holds values, B the segment offsets; modes SUM, MIN, MAX, COUNT, ARGMIN, ARGMAX. -/
def irrSegred (s : State) (d : IrrDesc) (loc : Nat → Nat) : IrrOut :=
  let (n, beyond) := s.actual (loc 3) d.n
  let vals := s.plane (loc 0) d.f n
  let offs := s.plane32 (loc 1) (d.m + 1)
  let empty := if d.mode = 0 || d.mode = 3 then 0 else if d.mode = 1 then topCode d.f false else if d.mode = 2 then topCode d.f true
    else 2 ^ 32 - 1
  let fo := if d.mode ≤ 2 then d.f else fmtI32
  match segments offs n with
  | none =>
    { irr0 with planes := [(loc 4, codesBytes fo (List.replicate d.m empty))], count := some d.m, counted := 1, overflow := beyond
                bad := true }
  | some segs =>
    let res := segs.map (fun g =>
      let cs := ((vals.drop g.1).take (g.2 - g.1)).mapIdx (fun i c => (c, g.1 + i))
      if cs.isEmpty then (empty, false)
      else if d.mode = 0 then sumCodes d.f d.anchor (cs.map (fun e => e.1))
      else if d.mode = 3 then (cs.length, false)
      else
        let e := (extreme d.f (d.mode = 2 || d.mode = 5) cs).getD (0, 0)
        (if d.mode ≤ 2 then e.1 else e.2, false))
    { irr0 with planes := [(loc 4, codesBytes fo (res.map (fun e => e.1)))], count := some d.m, overflow := beyond
                breach := res.any (fun e => e.2) }

/-- Prefix sums of a segment. -/
def scanSeg (f : Nat) (anchor : Int) (excl : Bool) (cs : List Nat) : List (Nat × Bool) :=
  (upTo cs.length).map (fun i => sumCodes f anchor (cs.take (if excl then i else i + 1)))

/-- SCAN: prefix sums within segments, inclusive or exclusive. -/
def irrScan (s : State) (d : IrrDesc) (loc : Nat → Nat) : IrrOut :=
  let (n, beyond) := s.actual (loc 3) d.n
  let vals := s.plane (loc 0) d.f n
  let offs := s.plane32 (loc 1) (d.m + 1)
  match segments offs n with
  | none =>
    { irr0 with planes := [(loc 4, filled d.f d.n d.fill (List.replicate n 0))], count := some n, counted := 1, overflow := beyond
                bad := true }
  | some segs =>
    let res := segs.flatMap (fun g => scanSeg d.f d.anchor d.excl ((vals.drop g.1).take (g.2 - g.1)))
    { irr0 with planes := [(loc 4, filled d.f d.n d.fill (res.map (fun e => e.1)))], count := some n, overflow := beyond
                breach := res.any (fun e => e.2) }

/-- The entries of a set: keys at A, payloads at B where there are any. -/
def State.entries (s : State) (d : IrrDesc) (a b n : Nat) : List Entry :=
  let pays := if d.pf = fmtNONE then [] else s.plane b fmtI32 n
  (s.plane a d.f n).mapIdx (fun i k => { key := k, pay := pays.getD i 0, index := i })

/-- Output planes of entries: keys at output 1 and payloads at output 2. -/
def entryPlanes (d : IrrDesc) (loc : Nat → Nat) (cap : Nat) (l : List Entry) : List (Nat × List Byte) :=
  (loc 4, filled d.f cap d.fill (l.map (fun e => e.key))) ::
    (if d.pf = fmtNONE then [] else [(loc 5, filled fmtI32 cap d.fill (l.map (fun e => e.pay)))])

/-- COMPACT: A holds elements, B payloads, C the mask bytes. -/
def irrCompact (s : State) (d : IrrDesc) (loc : Nat → Nat) : IrrOut :=
  let (n, beyond) := s.actual (loc 3) d.n
  let mask := s.plane (loc 2) fmtU8 n
  let l := (s.entries d (loc 0) (loc 1) n).filter (fun e => mask.getD e.index 0 != 0)
  { irr0 with planes := entryPlanes d loc d.n l, count := some l.length, overflow := beyond }

/-- SORT. -/
def irrSort (s : State) (d : IrrDesc) (loc : Nat → Nat) : IrrOut :=
  let (n, beyond) := s.actual (loc 3) d.n
  { irr0 with planes := entryPlanes d loc d.n (sortEntries d.f d.desc (s.entries d (loc 0) (loc 1) n)), count := some n
              overflow := beyond }

/-- MERGE: runs at A and B, payloads of both at C one after the other, their counts in the count word and the word after it;
run A goes before run B on equal keys. -/
def irrMerge (s : State) (d : IrrDesc) (loc : Nat → Nat) : IrrOut :=
  let (n, o1) := s.actual (loc 3) d.n
  let (m, o2) := s.actual (loc 3 + 4) d.m
  let a := s.entries d (loc 0) (loc 2) n
  let b := (s.entries d (loc 1) (loc 2 + pad64 (4 * d.n)) m).map (fun e => { e with index := e.index + d.n })
  let l := List.merge a b (entryBefore d.f d.desc)
  { irr0 with planes := entryPlanes d loc (d.n + d.m) l, count := some l.length, overflow := o1 || o2 }

/-- TOPK: the first `m` entries of the sort order. -/
def irrTopk (s : State) (d : IrrDesc) (loc : Nat → Nat) : IrrOut :=
  let (n, beyond) := s.actual (loc 3) d.n
  let l := sortEntries d.f d.desc (s.entries d (loc 0) (loc 1) n)
  { irr0 with planes := entryPlanes d loc d.m (l.take d.m), count := some (min n d.m), dropped := n - d.m
              overflow := beyond || decide (d.m < n) }

/-- Groups of equal keys in a sorted list: first entry and number. -/
def keyGroups (f : Nat) : List Entry → List (Entry × Nat)
  | [] => []
  | e :: t => match keyGroups f t with
    | [] => [(e, 1)]
    | (g, n) :: r => if keySame (keyValue f e.key) (keyValue f g.key) then (e, n + 1) :: r else (e, 1) :: (g, n) :: r

/-- UNIQUE: distinct keys ascending, first indices and counts. -/
def irrUnique (s : State) (d : IrrDesc) (loc : Nat → Nat) : IrrOut :=
  let (n, beyond) := s.actual (loc 3) d.n
  let g := keyGroups d.f (sortEntries d.f false (s.entries { d with pf := fmtNONE } (loc 0) (loc 1) n))
  let cap := if d.m = 0 then d.n else d.m
  let l := g.take cap
  { irr0 with planes := [(loc 4, filled d.f cap d.fill (l.map (fun e => e.1.key))),
                (loc 5, filled fmtI32 cap d.fill (l.map (fun e => e.1.index))),
                (loc 6, filled fmtI32 cap d.fill (l.map (fun e => e.2)))]
              count := some l.length, dropped := g.length - cap, overflow := beyond || decide (cap < g.length) }

/-! ### LABEL (R198) -/

/-- Provisional labels while an image is scanned: the root of each label made, by label − 1. -/
def joinRoots (roots : List Nat) (ls : List Nat) : List Nat :=
  let rs := ls.map (fun l => roots.getD (l - 1) 0)
  let r := rs.foldl min (rs.headD 0)
  roots.map (fun x => if rs.contains x then r else x)

/-- One row of the scan: mask, the row above with one pixel on each side, the label to the left. -/
def labelRow (eight : Bool) : List Nat → List Nat → Nat → List Nat → List Nat × List Nat
  | [], _, _, roots => ([], roots)
  | p :: ps, up, left, roots =>
    let ns := ([left, up.getD 1 0] ++ if eight then [up.getD 0 0, up.getD 2 0] else []).filter (fun l => l != 0)
    let (l, roots) :=
      if p = 0 then (0, roots)
      else if ns.isEmpty then (roots.length + 1, roots ++ [roots.length + 1])
      else (ns.foldl min (ns.headD 0), joinRoots roots ns)
    let (rest, roots) := labelRow eight ps (up.drop 1) l roots
    (l :: rest, roots)

/-- The scan of all rows: provisional labels row by row, and their roots. -/
def labelScan (eight : Bool) (w : Nat) : List (List Nat) → List Nat → List Nat → List (List Nat) × List Nat
  | [], _, roots => ([], roots)
  | r :: rs, up, roots =>
    let (l, roots) := labelRow eight r (0 :: up ++ [0]) 0 roots
    let (rest, roots) := labelScan eight w rs l roots
    (l :: rest, roots)

/-- The component number of each pixel in raster order of first pixels, 0 for background. -/
def components (eight : Bool) (w h : Nat) (mask : List Nat) : List Nat :=
  let (rows, roots) := labelScan eight w (rowsOf w h mask) (List.replicate w 0) []
  let tops := roots.eraseDups.mergeSort (· ≤ ·)
  rows.flatten.map (fun l => if l = 0 then 0 else (tops.idxOf (roots.getD (l - 1) 0)) + 1)

/-- The blob record of component `k` (Table IRR-4). -/
def blobBytes (w : Nat) (labels : List Nat) (k : Nat) : List Byte :=
  let ps := ((labels.mapIdx (fun i l => (l, i))).filter (fun e => e.1 == k)).map (fun e => e.2)
  let xs := ps.map (fun i => i % w)
  let ys := ps.map (fun i => i / w)
  let lo := fun (l : List Nat) => l.foldl min (l.headD 0)
  let hi := fun (l : List Nat) => l.foldl max 0
  leBytes 2 k ++ [0, 0] ++ leBytes 4 ps.length ++ leBytes 2 (lo xs) ++ leBytes 2 (lo ys) ++ leBytes 2 (hi xs) ++
    leBytes 2 (hi ys) ++ leBytes 4 (ps.headD 0) ++ List.replicate 12 0

/-- LABEL: A holds the mask; output 1 the label image, output 2 the blob table. The count word holds the number of components, the status
record that of the records written. -/
def irrLabel (s : State) (d : IrrDesc) (loc : Nat → Nat) : IrrOut :=
  let (w, h) := (d.e % 65536, d.e / 65536)
  let ls := components d.eight w h (s.plane (loc 0) fmtU8 (w * h))
  let total := ls.foldl max 0
  let kept := min total d.m
  let img := ls.map (fun l => if d.m < l then 0xFFFF else l)
  let table := (upTo kept).flatMap (fun k => blobBytes w ls (k + 1))
  let rest := (upTo (8 * (d.m - kept))).flatMap (fun _ => leBytes 4 d.fill)
  { irr0 with planes := [(loc 4, codesBytes fmtU16 img), (loc 5, table ++ rest)], count := some total, written := some kept
              dropped := total - kept, overflow := decide (kept < total) }

/-! ### Graphs (R199, R200) -/

/-- One round of least-label propagation over the neighbours of each vertex. -/
def ccRound (labels : List Nat) (adj : List (List Nat)) : List Nat :=
  List.zipWith (fun l ns => ns.foldl (fun a v => min a (labels.getD v a)) l) labels adj

/-- Rounds of propagation: labels, rounds used, and whether the last round changed a label. -/
def ccRounds (adj : List (List Nat)) : Nat → Nat → List Nat → List Nat × Nat × Bool
  | 0, used, l => (l, used, false)
  | n + 1, used, l =>
    let l2 := ccRound l adj
    if l2 = l then (l, used + 1, false)
    else if n = 0 then (l2, used + 1, true)
    else ccRounds adj n (used + 1) l2

/-- GRAPH_CC: A holds the offsets, B the neighbours; the count word gives the vertices. -/
def irrGraphCc (s : State) (d : IrrDesc) (loc : Nat → Nat) : IrrOut :=
  let (v, beyond) := s.actual (loc 3) d.n
  let offs := s.plane32 (loc 0) (v + 1)
  match segments offs d.e with
  | none =>
    { irr0 with planes := [(loc 4, filled fmtI32 d.n d.fill [])], count := some 0, counted := 1, overflow := beyond, bad := true }
  | some segs =>
    let edges := segs.map (fun g => (s.plane32 (loc 1 + 4 * g.1) (g.2 - g.1)))
    let ok := fun (i : Int) => decide (0 ≤ i) && decide (i < (v : Int))
    let adj := edges.map (fun l => (l.filter ok).map Int.toNat)
    let k := (edges.map (fun l => (l.filter (fun i => !ok i)).length)).foldl (· + ·) 0
    let (ls, used, open_) := ccRounds adj d.rounds 0 (upTo v)
    { irr0 with planes := [(loc 4, filled fmtI32 d.n d.fill ls)], count := some v, counted := k, overflow := beyond, range := k != 0
                unsettled := open_, rounds := used }

/-- An edge that a frontier entry reaches: the vertex, the entry's vertex, the edge index. -/
structure Reach where
  dst : Nat
  from_ : Nat
  edge : Nat
  deriving DecidableEq, Repr

/-- The frontier entries whose edges are examined within the capacity `x`, and the entries carried over. -/
def frontierSplit (deg : Nat → Nat) : Nat → List Nat → List Nat × List Nat
  | _, [] => ([], [])
  | x, u :: us =>
    if deg u ≤ x then
      let (a, b) := frontierSplit deg (x - deg u) us
      (u :: a, b)
    else ([], u :: us)

/-- The most edges of a graph (Table IRR-1): EXPAND's descriptor does not name E, and an offset beyond this is past it (DESIGN CHOICE). -/
def graphEdges : Nat := 2097152

/-- EXPAND: A holds the frontier, B the offsets, C the neighbours with the weights behind them; outputs are the next frontier
with the carry list behind its capacity, the parents, and the bitmap or distances; the word after the count word takes the
number of entries carried. -/
def irrExpand (s : State) (d : IrrDesc) (loc : Nat → Nat) : IrrOut :=
  let (n, beyond) := s.actual (loc 3) d.m
  let v := d.n
  let offs := s.plane32 (loc 1) (v + 1)
  let total := (offs.getLast?.getD 0).toNat
  match segments offs graphEdges with
  | none =>
    let third := if d.relax then filled d.f v d.fill [] else ((upTo ((v + 31) / 32)).flatMap (fun _ => leBytes 4 d.fill)).take ((v + 7) / 8)
    { irr0 with planes := [(loc 4, filled fmtI32 d.m d.fill []), (loc 3 + 4, leBytes 4 0), (loc 5, filled fmtI32 v d.fill []), (loc 6, third)]
                count := some 0, counted := 1, overflow := beyond, bad := true }
  | some segs =>
    let ok := fun (i : Int) => decide (0 ≤ i) && decide (i < (v : Int))
    let front := s.plane32 (loc 0) n
    let lost := (front.filter (fun i => !ok i)).length
    let seg := fun u => segs.getD u (0, 0)
    let (walk, carry) := frontierSplit (fun u => (seg u).2 - (seg u).1) d.e ((front.filter ok).map Int.toNat)
    let es := walk.flatMap (fun u =>
      (upTo ((seg u).2 - (seg u).1)).map (fun k => (u, (seg u).1 + k, toSigned 32 (s.rd (loc 2 + 4 * ((seg u).1 + k)) 4))))
    let range := (es.filter (fun e => !ok e.2.2)).length
    let reach := (es.filter (fun e => ok e.2.2)).map (fun e => ({ dst := e.2.2.toNat, from_ := e.1, edge := e.2.1 } : Reach))
    let wBytes := fmtBits d.f / 8
    let weight := fun e => fmtValue d.f (s.rd (loc 2 + pad64 (4 * total) + wBytes * e) wBytes)
    let nans := if d.relax then (reach.filter (fun r => (weight r.edge).isNan)).length else 0
    let targets := (reach.map (fun r => r.dst)).eraseDups.mergeSort (· ≤ ·)
    let dist := fun u => fmtValue d.f (s.rd (loc 6 + wBytes * u) wBytes)
    -- the vertices that change, each with its parent and what its plane takes
    let hits : List (Nat × Nat × Nat) := targets.filterMap (fun t =>
      let here := reach.filter (fun r => r.dst == t)
      if d.relax then
        let sums := (here.filter (fun r => !(weight r.edge).isNan)).map (fun r =>
          (r, fmtRound d.f false ((dist r.from_).add (weight r.edge))))
        match extreme d.f false (sums.mapIdx (fun i e => (e.2, i))) with
        | some (c, i) =>
          if (fmtValue d.f c).lt (dist t) == some true then some (t, ((sums[i]?).map (fun e => e.1.from_)).getD 0, c) else none
        | none => none
      else if (s.byte (loc 6 + t / 8)).toNat.testBit (t % 8) then none
      else (here.head?).map (fun r => (t, r.from_, 0)))
    let next := hits.map (fun h => h.1)
    let kept := next.take d.m
    let bitmap := fun (k : Nat) =>
      let b := (s.byte (loc 6 + k)).toNat
      next.foldl (fun m t => if t / 8 = k then m ||| 2 ^ (t % 8) else m) b
    let third := if d.relax then hits.map (fun h => (loc 6 + wBytes * h.1, leBytes wBytes h.2.2))
      else (next.map (fun t => t / 8)).eraseDups.map (fun k => (loc 6 + k, leBytes 1 (bitmap k)))
    { irr0 with planes := [(loc 4, filled fmtI32 d.m d.fill kept), (loc 4 + pad64 (4 * d.m), codesBytes fmtI32 carry),
                  (loc 3 + 4, leBytes 4 carry.length)] ++ hits.map (fun h => (loc 5 + 4 * h.1, leBytes 4 h.2.1)) ++ third
                count := some kept.length, dropped := next.length - kept.length, counted := range + lost + nans
                overflow := beyond || !carry.isEmpty || decide (kept.length < next.length), range := range + lost != 0
                bad := nans != 0 }

/-! ### Calls -/

/-- The flags byte of a status record. -/
def IrrOut.flags (o : IrrOut) : Nat :=
  bit o.overflow + 2 * bit o.range + 4 * bit o.bad + 8 * bit o.breach + 16 * bit o.unsettled

/-- The status record (Table IRR-6). -/
def IrrOut.status (o : IrrOut) (slot : Nat) : List Byte :=
  leBytes 4 ((o.written.or o.count).getD 0) ++ leBytes 4 o.dropped ++ leBytes 4 o.counted ++ leBytes 1 o.flags ++ leBytes 1 o.rounds ++ leBytes 2 slot

/-- The codes and causes of the flags (R202). -/
def IrrOut.codes (o : IrrOut) (op : Nat) : List (Nat × List Nat) :=
  (if o.overflow then [(Code.IRREG_OVERFLOW, [o.dropped])] else []) ++
  (if o.range then [(Code.IRREG_INDEX_RANGE, [o.counted])] else []) ++
  (if o.bad then [(Code.IRREG_BAD_INPUT, [op])] else []) ++
  (if o.breach then [(Code.ANCHOR_BREACH, [1, 0xFFFF, 0xFFFF])] else []) ++
  (if o.unsettled then [(Code.IRREG_NOT_CONVERGED, [o.rounds])] else [])

/-- An irregular word (R192): the call computes its outputs from the descriptor's inputs. -/
def State.irreg (s : State) (x : Issue) (op : Nat) (f : State → IrrDesc → (Nat → Nat) → IrrOut) : State :=
  let w := x.word
  let c := x.core.val
  let d := irrDesc (s.descriptor c w)
  s.issue x 0x4 op (d.legal op) (s.pairFree c) false (fun s id =>
    let loc := fun i => s.locAddr c (d.locs.getD i 0)
    s.reading c id ((sramBase c + 64 * wSrcA w, 64) :: irrReads op d loc) (fun s =>
      let o := f s d loc
      let codes := o.codes op
      s.startCall c { call0 callIRREG op (wSignal w) id with
        writes := o.planes ++ (match o.count with | some n => [(loc 3, leBytes 4 n)] | none => []) ++ [(loc 7, o.status d.slot)]
        codes := codes, causes := (codes.head?.map (fun e => (e.1, Code.IRREG_VOID))).toList
        slots := if d.slot = 0xFFFF then none else some [d.slot], ticks := irrTicks op d (d.locs.getD (if op = 0x02 then 4 else 1) 0 % 8 == 1) }))

/-- GATHER. -/
def execGather (x : Issue) (s : State) : Host.Outcome State Fault Refusal := s.run (fun s => s.irreg x 0x01 irrGather)

/-- SCATTER. -/
def execScatter (x : Issue) (s : State) : Host.Outcome State Fault Refusal := s.run (fun s => s.irreg x 0x02 irrScatter)

/-- SEGRED. -/
def execSegred (x : Issue) (s : State) : Host.Outcome State Fault Refusal := s.run (fun s => s.irreg x 0x03 irrSegred)

/-- SCAN. -/
def execScan (x : Issue) (s : State) : Host.Outcome State Fault Refusal := s.run (fun s => s.irreg x 0x04 irrScan)

/-- COMPACT. -/
def execCompact (x : Issue) (s : State) : Host.Outcome State Fault Refusal := s.run (fun s => s.irreg x 0x05 irrCompact)

/-- SORT. -/
def execSort (x : Issue) (s : State) : Host.Outcome State Fault Refusal := s.run (fun s => s.irreg x 0x06 irrSort)

/-- MERGE. -/
def execMerge (x : Issue) (s : State) : Host.Outcome State Fault Refusal := s.run (fun s => s.irreg x 0x07 irrMerge)

/-- TOPK. -/
def execTopk (x : Issue) (s : State) : Host.Outcome State Fault Refusal := s.run (fun s => s.irreg x 0x08 irrTopk)

/-- UNIQUE. -/
def execUnique (x : Issue) (s : State) : Host.Outcome State Fault Refusal := s.run (fun s => s.irreg x 0x09 irrUnique)

/-- LABEL. -/
def execLabel (x : Issue) (s : State) : Host.Outcome State Fault Refusal := s.run (fun s => s.irreg x 0x0A irrLabel)

/-- GRAPH_CC. -/
def execGraphCc (x : Issue) (s : State) : Host.Outcome State Fault Refusal := s.run (fun s => s.irreg x 0x0B irrGraphCc)

/-- EXPAND. -/
def execExpand (x : Issue) (s : State) : Host.Outcome State Fault Refusal := s.run (fun s => s.irreg x 0x0C irrExpand)

/-- IRREG_CALL_COMPLETE: the ticks of an irregular call have elapsed (R193, R202). -/
def execIrregCallComplete (c : CoreId) (s : State) : Host.Outcome State Fault Refusal :=
  s.run (fun s => s.completeCall c [callIRREG] (fun s k => s.finishCall c k true 0x10))

end Sys2Proof.Machine
end

