-- ==== Sys2Proof/Machine/Walk.lean ====
section
/-! DEFINITION. Walk calls (R204, R209, R212, R214, R215, R217): gathering the keys and values of a batch from the pages of the
leg's snapshot, and writing those of its new tokens. -/

namespace Sys2Proof.Machine

/-- A slot of the length table as the walker reads it (Table KV-6). -/
structure WalkSlot where
  index : Nat
  seq : Nat
  state : Nat
  past : Nat
  fresh : Nat
  offset : Nat
  deriving DecidableEq, Repr

/-- The slots of a call that are not EMPTY. -/
def State.walkSlots (s : State) (d : WalkDesc) (table : Nat) : List WalkSlot :=
  ((upTo d.count).map (fun k =>
    let r := s.bytes (table + 16 * (d.first + k)) 16
    ({ index := d.first + k, seq := recField r 0 2, state := recField r 2 1, past := recField r 4 4, fresh := recField r 8 2
       offset := recField r 12 4 } : WalkSlot))).filter (fun z => z.state != 0 && z.seq != 0xFFFF)

/-- The slots whose pages fit in the capacity in slot order, the pages they take, and the slots from the first that does not
fit (R217). -/
def fitSlots (need : WalkSlot → Nat) (cap : Nat) : Nat → List WalkSlot → List WalkSlot × List WalkSlot
  | _, [] => ([], [])
  | used, z :: zs =>
    if used + need z ≤ cap then
      let (a, b) := fitSlots need cap (used + need z) zs
      (z :: a, b)
    else ([], z :: zs)

/-- The snapshot of the leg that issued a call, or the latest generation where it holds none (R209). -/
def State.snapshotTable (s : State) (p : Nat) (id : Option Nat) : Tab Nat :=
  match (id.bind s.leg?).bind (fun g => g.snapshot) with
  | some g => (s.pool p).tableAt g
  | none => (s.pool p).table

/-- The tokens of a page in the format of the leg's sequence model (Table KV-1); without a leg, that of the partition's first model. -/
def State.pageTokens (s : State) (p : Nat) (id : Option Nat) : Nat :=
  max (((((id.bind s.leg?).map s.legModel).getD (s.model p)).map (fun (m : SeqModelCfg) => m.tokensPerPage)).getD 16) 1

/-- The count of page `g` in a snapshot: the entries that name it (R212, Table KV-3). -/
def countIn (table : Tab Nat) (g : Nat) : Nat := (table.filter (fun e => e.2 == g)).length

/-- One plane of a page with every token slot at or beyond `n` written as 0: `w` bytes for each head and token. -/
def maskPlane (w tokens n : Nat) (bs : List Byte) : List Byte :=
  bs.mapIdx (fun i b => if i % 2048 / w < n || tokens ≤ n then b else 0)

/-- The status record of a walk call: pages moved and the OVERFLOW flag. -/
def walkStatus (moved dropped : Nat) (beyond : Bool) : List Byte :=
  leBytes 4 moved ++ leBytes 4 dropped ++ leBytes 4 0 ++ leBytes 1 (bit beyond) ++ [0, 0, 0]

/-- The page of page index `k` of a slot's sequence at a layer. -/
def pageOf (table : Tab Nat) (d : WalkDesc) (z : WalkSlot) (k : Nat) : Option Nat := tfind table (entryKey z.seq (4096 * d.layer + k))

/-- The sequences of the slots that read a poisoned KV line end (R393): their parts are INVALID, and they leave at the next boundary. -/
def State.endPoisoned (s : State) (id : Option Nat) (tpp : Nat) (d : WalkDesc) (table : Tab Nat) (zs : List WalkSlot) : State :=
  match id.bind s.leg? with
  | none => s
  | some g => s.each (zs.filter (fun z => z.state != 2 && (upTo (cdiv (z.past + z.fresh) tpp)).any (fun k => (pageOf table d z k).any s.pagePoisoned)))
      (fun s z => s.voidSlot g z.index Code.HBM_UNCORRECTABLE)

/-- A walk word (class 0xA, WRUN): the call of a kind with its slots; `f` answers the writes of the slots that fit, and the
HBM ranges they read. -/
def State.walk (s : State) (x : Issue) (kind : Nat) (need : Nat → WalkSlot → Nat)
    (f : State → WalkDesc → (Nat → Nat) → Nat → Tab Nat → List WalkSlot → List (Nat × List Byte) × List (Nat × Nat) × Option Nat) :
    State :=
  let w := x.word
  let c := x.core.val
  let d := walkDesc (s.descriptor c w)
  let unit := s.engineOf c engWALK (s.legId c x.group)
  s.issue x 0xA (if d.legal && d.kind != kind then 0 else 0x01) (d.kind == kind && d.legal) (s.engineFree callWALK unit) false (fun s id =>
    let p := s.corePart c
    let tpp := s.pageTokens p id
    let loc := fun i => s.locAddr c (d.locs.getD i 0)
    s.reading c id [(sramBase c + 64 * wSrcA w, 64), (loc 0 + 16 * d.first, 16 * d.count)] (fun s =>
      let slots := s.walkSlots d (loc 0)
      let (fit, rest) := fitSlots (need tpp) d.pages 0 slots
      let table := s.snapshotTable p id
      let (writes, reads, shared) := f s d loc tpp table fit
      let total := (slots.map (need tpp)).foldl (· + ·) 0
      let moved := (fit.map (need tpp)).foldl (· + ·) 0
      match shared with
      | some g =>
        let s := s.raise Code.KV_SHARED_WRITE (s.legNames c id ++ [g])
        (match id with | some k => s.abortLeg k Code.KV_SHARED_WRITE | none => s)
      | none =>
        let s := if kind = 1 then s.endPoisoned id tpp d table fit else s
        s.reading c id reads (fun s =>
          let beyond := !rest.isEmpty
          let s := if beyond then s.inc (F.KV_WALKER_overflows (s.get (F.KV_WALKER_serving (c / 5)))) else s
          s.startCall c { call0 callWALK kind (wSignal w) id with
            unit := unit
            writes := writes ++ [(loc 3, walkStatus moved (total - moved) beyond)]
            codes := if beyond then [(Code.KV_WALK_OVERFLOW, [total, d.pages])] else []
            causes := if beyond then [(Code.KV_WALK_OVERFLOW, Code.IRREG_VOID)] else []
            slots := some (rest.map (fun z => z.index)), ticks := walkTicks d })))

/-- GATHER_KV: the pages of each slot, in ascending page index, go to the K and V buffers, zero beyond the sequence and for a
slot that is VOID, whose keys are masked (R214, R215, R217). -/
def execGatherKv (x : Issue) (s : State) : Host.Outcome State Fault Refusal :=
  s.run (fun s =>
    s.walk x 1 (fun tpp z => cdiv (z.past + z.fresh) tpp) (fun s d loc tpp table fit =>
      let pages := fit.flatMap (fun z => (upTo (cdiv (z.past + z.fresh) tpp)).map (fun k =>
        (if z.state = 2 then none else pageOf table d z k, z.past + z.fresh - k * tpp)))
      let plane := fun base (e : Option Nat × Nat) => match e.1 with
        | some g => maskPlane (2048 / tpp) tpp e.2 (s.bytes (hbmBase + 65536 * g + base) 32768)
        | none => List.replicate 32768 0
      (pages.mapIdx (fun i e => (loc 1 + 32768 * i, plane 0 e)) ++ pages.mapIdx (fun i e => (loc 2 + 32768 * i, plane 32768 e)),
       pages.filterMap (fun e => e.1.map (fun g => (hbmBase + 65536 * g, 65536))), none)))

/-- The pages of a slot that its new tokens touch. -/
def writePages (tpp : Nat) (z : WalkSlot) : List Nat :=
  if z.fresh = 0 || z.state = 2 then [] else (upTo ((z.past + z.fresh - 1) / tpp + 1 - z.past / tpp)).map (fun k => z.past / tpp + k)

/-- WRITE_KV: keys and values of the new tokens go to their page slots; a page with a count above 1 refuses the write
(R212, R217). -/
def execWriteKv (x : Issue) (s : State) : Host.Outcome State Fault Refusal :=
  s.run (fun s =>
    s.walk x 2 (fun tpp z => (writePages tpp z).length) (fun s d loc tpp table fit =>
      let w := 2048 / tpp
      let first := ((fit.head?).map (fun z => z.offset)).getD 0
      let toks := fit.flatMap (fun z => if z.state = 2 then [] else (upTo z.fresh).map (fun j => (z, j)))
      let shared := (fit.flatMap (fun z => (writePages tpp z).filterMap (pageOf table d z))).find? (fun g =>
        decide (1 < countIn table g))
      let writes := toks.flatMap (fun e =>
        let (z, j) := e
        let pos := z.past + j
        match pageOf table d z (pos / tpp) with
        | none => []
        | some g =>
          let row := z.offset - first + j
          (upTo 2).flatMap (fun v => (upTo 16).map (fun h =>
            (hbmBase + 65536 * g + 32768 * v + 2048 * h + pos % tpp * w,
             s.bytes (loc (1 + v) + 16 * w * row + w * h) w))))
      (writes, (upTo 2).flatMap (fun v => toks.map (fun e => (loc (1 + v) + 16 * w * (e.1.offset - first + e.2), 16 * w))), shared)))

/-- WALK_CALL_COMPLETE: the ticks of a walk call have elapsed (R217). -/
def execWalkCallComplete (c : CoreId) (s : State) : Host.Outcome State Fault Refusal :=
  s.run (fun s => s.completeCall c [callWALK] (fun s k =>
    let pages := cdiv ((k.writes.map (fun e => e.2.length)).foldl (· + ·) 0) 64
    let s := s.perfEvent c (if k.op = 1 then 0x0A else 0x0B) pages
    s.finishCall c k true 0x13))

end Sys2Proof.Machine
end

