-- ==== Sys2Proof/Machine/Boundary.lean ====
section
/-! DEFINITION. The schedule-period boundary (R61, R62, R66, R102, R126, R172, R247, R249, R377): what lands there, in the order of
R247, and the sheets that begin. -/

namespace Sys2Proof.Machine

/-! ### Detours (R126, R242) -/

/-- The spare `c` of logical core `l` loads the residency list (R125, R126). -/
def State.loadResidency (s : State) (c l : Nat) : State :=
  match (s.partOf l).bind s.program with
  | none => s
  | some g => s.each (g.residency.filter (fun r => r.core == l)) (fun s r =>
      s.store (sramBase c + 64 * r.dst) (s.bytes (s.spaceAddr c r.space r.offset) (64 * r.units)))

/-- Leg `g`, whose logical core is LOST, is placed again on other cores from its start (R129): its verge tokens go back, and its cores
forget it. -/
def State.unplace (s : State) (g : LegRun) : State :=
  let s := (s.replayVerges (fun x => x.id == g.id) (fun _ => true)).clearLeg g
  { s with route := { s.route with legs := s.route.legs.filter (fun x => x.id != g.id) } }.putBack g false

/-- Detours and losses of the boundary of period `n`: the spares take over with their residency lists, the solo baselines of
the jobs that use such a core are cleared (R242), and the legs of a LOST core are placed again (R129). -/
def State.landMap (s : State) (n : Nat) : State :=
  let gone := (s.cores.due.filter (fun d => d.2.1 == 255 && d.2.2 ≤ n)).filterMap (fun d => s.logicalOf d.1)
  let moved := (s.cores.due.filter (fun d => d.2.1 < 254 && d.2.2 ≤ n)).filterMap (fun d => (s.logicalOf d.1).map (fun l => (d.2.1, l)))
  let s := s.landDetours n
  let s := s.each (s.route.legs.filter (fun g => g.cores.any (fun l => gone.contains l && !g.done.contains l))) State.unplace
  s.each moved (fun s e =>
    let s := s.loadResidency e.1 e.2
    -- the legs that start again there find their length tables (R214)
    let s := s.each (s.legsOn e.2) State.writeLengths
    s.each s.route.jobs (fun s b => if b.2.used.testBit e.2 then s.clearBaseline b.1 else s))

/-! ### Sections (R61 to R66) -/

/-- The verge slots of the program of partition `p`, and both buffers of each, are zero before its first period; a slot that a leg of an older
program still uses is not one of them: old and new programs use separate slots (R172). -/
def State.clearVerges (s : State) (p : Nat) : State :=
  let cores := (s.part p).coreList.filterMap s.physOf
  let verges := (((s.program p).map (fun g => g.templates)).getD []).flatMap (fun t => t.legs.flatMap (fun l => l.verges))
  let old := (s.route.legs.filter (fun g => g.part == p && g.gen != tget 0 s.route.gens p)).flatMap (fun g =>
    (s.legDecl g).verges.map (fun v => s.spaceAddr (((g.cores[v.core]?).bind s.physOf).getD 0) v.space v.offset))
  s.each verges (fun s v => s.each cores (fun s c =>
    let a := s.spaceAddr c v.space v.offset
    if old.contains a then s
    else
      let s := s.store a (List.replicate 64 0)
      let s := s.each v.buffers (fun s b => s.store (s.spaceAddr c b.1 b.2.1) (List.replicate (64 * b.2.2) 0))
      { s with route := { s.route with vergeGet := tdel s.route.vergeGet a, vergePut := tdel s.route.vergePut a } }))

/-- A table with an entry where there is one. -/
def putOpt {α : Type} (t : Tab α) (k : Nat) (v : Option α) : Tab α := match v with | some x => tput t k x | none => tdel t k

/-- A FULL image lands: the pool of partition `p` starts empty and no snapshot is held (R223).  The steps that ran on it and the parts of its
sequences end as R62 ends old ones, since their contents are gone (DESIGN CHOICE). -/
def State.emptyPool (s : State) (p : Nat) : State :=
  let x := s.pool p
  let tags := (x.seqs.filter (fun e => e.2.state == seqLIVE)).map (fun e => e.2.tag) ++ x.joins.map (fun w => w.tag)
  let s := s.each (s.route.iters.filter (fun it => it.part == p && !it.batch.isEmpty)) (fun s it => s.endIter it Code.ZLD_OLD_PARTS_ENDED)
  let s := s.invalidate p tags Code.ZLD_OLD_PARTS_ENDED
  let s := { s with route := { s.route with legs := s.route.legs.map (fun (g : LegRun) => if g.part == p then { g with snapshot := none } else g) } }
  (s.startPool p).countHeld p

/-- A section of partition `a.target` lands at the boundary of period `n`: what it replaces stays for the old parts (R62). A PARTIAL without
TABLES keeps the tables of an earlier overlay, until a restart runs those of the FULL image (DESIGN CHOICE at R67). -/
def State.landPart (s : State) (n : Nat) (a : Armed) : State :=
  let p := a.target
  let g := tget 0 s.route.gens p
  let c := s.cfg
  let tables := if a.partial_ && a.tables.isNone then tfind c.partTables p else a.tables
  let s := { s with
    cfg := { c with programs := putOpt c.programs p (s.programOf p a), partTables := putOpt c.partTables p tables
                    oldPrograms := putOpt c.oldPrograms (oldKey p g) (tfind c.programs p)
                    oldTables := putOpt c.oldTables (oldKey p g) (tfind c.partTables p) }
    route := { s.route with gens := tput s.route.gens p (g + 1) }
    zld := { s.zld with armed := s.zld.armed.filter (fun b => b.target != p), oldSince := tput s.zld.oldSince (oldKey p g) n }
    safe := { s.safe with seqFresh := if s.safe.seqFresh.contains p then s.safe.seqFresh else s.safe.seqFresh ++ [p] } }
  let s := (if a.partial_ then s else s.emptyPool p).clearVerges p
  let s := s.each s.route.jobs (fun s e =>
    if e.2.part != p then s
    else
      let s := s.clearBaseline e.1
      if (s.templateAt p (g + 1) e.2.template).isNone then s.set (F.ROUTE_JOB_state e.1) jobRETIRING else s)
  let s := (s.showProgram p).showClaims
  -- an output that the partition no longer claims in HOST mode switches off
  let s := { s with fio := { s.fio with hostOn := maskOf 32 (fun o => s.fio.hostOn.testBit o && (s.claim o).any (fun (e : Nat × ClaimCfg) => e.2.host)) } }
  let s := if a.partial_ then
      s.setAll [(F.ZLD_OVERLAY_present p, 1), (F.ZLD_OVERLAY_slot p, a.slot), (F.ZLD_OVERLAY_build p, a.build)]
    else s
  s.dropOld p

/-- A SAFETY section lands live: the module enters its safe state, and watchdogs wait for their first kick (R66, R371). -/
def State.landSafety (s : State) (y : SafetySec) : State :=
  let s := { s with
    cfg := { s.cfg with safety := y }
    safe := { s.safe with kicked := [], partMiss := [], ctxMiss := [], goldenSeen := [], seqFresh := upTo 8 }
    zld := { s.zld with armed := s.zld.armed.filter (fun b => b.target != 8) } }
  let s := s.each (upTo 64) (fun s w => s.set (F.SAFE_WDOG_armed w) 0)
  let s := (if s.hasField then s.kickKind wdMILEPOST else s).kickKind wdCHECKER
  (s.set F.SAFE_DTI_ms y.dtiMs).enterSafe Code.ZLD_LANDED (sourceUnit 0x02 255)

/-- The sections that land at the boundary of period `n`. -/
def State.landSections (s : State) (n : Nat) : State :=
  let s := s.takeLandings n
  let due := s.zld.armed.filter (fun a => a.land ≤ n)
  if due.isEmpty then s
  else
    let s := s.each due (fun s a =>
      let s := match a.safety with
        | some y => s.landSafety y
        | none => s.landPart n a
      let s := (s.set F.ZLD_LANDED_period n).set F.ZLD_LANDED_target a.target
      (s.raise Code.ZLD_LANDED [a.target, n]).fireAll 1)
    let s := match (due.filter (fun a => !a.partial_)).getLast? with
      | some a => s.adoptFull a.build
      | none => s
    s.showArmed

/-! ### Sheets (R238, R249, R377, R390) -/

/-- A header field that the sequencer checks: magic, CRC, period (R249); the checker reads partition and logical core too
(R377). -/
def headerFields : Nat := 3

/-- The sheet of logical core `l` is rejected: its legs enter the next build (R238, R249). -/
def State.rejectSheet (s : State) (n l field : Nat) : State :=
  let s := s.raise Code.SHEET_REJECTED [l, n, field]
  let out := s.route.planned.filter (fun g => g.cores.contains l)
  let s := { s with route := { s.route with planned := s.route.planned.filter (fun g => !g.cores.contains l) } }
  s.each out (fun s g => s.putBack g true)

/-- The sheet headers of the boundary: the sequencers reject a sheet whose bytes fail their check, or that `bad` says they read wrong, and the
checker takes the safe state for a core of a SAFETY partition. -/
def State.readHeaders (s : State) (n : Nat) (bad : List (Fin 32 × Fin 5)) : State :=
  if !(s.route.built && s.route.buildFor == n) then s
  else s.each (s.route.sheets.filterMap (fun e => (sheetFault n e.2).map (fun f => (e.1, f))) ++ bad.map (fun e => (e.1.val, e.2.val))) (fun s e =>
    let (l, f) := e
    let s := if f < headerFields then s.rejectSheet n l f else s
    match s.partOf l with
    | some p =>
      if s.isSafetyPart p then
        (s.raise Code.SHEET_CHECK [l, n, f]).enterSafe Code.SHEET_CHECK (sourceUnit 0x11 255)
      else s
    | none => s)

/-- Legs that an error aborted run again from their start, from the boundary that follows (R390). -/
def State.startReplays (s : State) (n : Nat) : State :=
  let again := fun (g : LegRun) => g.replayAt.any (fun k => k ≤ n)
  let s := s.replayVerges again (fun _ => true)
  { s with route := { s.route with legs := s.route.legs.map (fun (g : LegRun) =>
    if again g then { g with done := [], replayAt := none } else g) } }

/-- Cores that still have ticks of an earlier sheet to run (R102, R126); `ticks` says how many, by core. -/
def State.countOverruns (s : State) (n : Nat) (ticks : List Nat) : State :=
  s.each (upTo 40) (fun s c =>
    if s.coreRole c != coreACTIVE then s
    else match s.logicalOf c with
      | none => s
      | some l => match s.partOf l with
        | none => s
        | some p =>
          if (s.legsOn l).any (fun g => g.period < n) then
            (s.inc (F.PACE_OVERRUN_count p)).raise Code.PACE_OVERRUN [p, c, ticks.getD c 0]
          else s)

/-- A STEP of the local clock lands, with what it makes late or stale (R332). -/
def State.landClock (s : State) (n : Nat) : State :=
  if s.time.step.isNone then s
  else
    let s := (s.landStep n).stepLive
    s.each [0, 1] (fun s q => s.lateLaunches q (s.launches q).length)

/-- The legs of partition `p` that hold a snapshot of the generation that is about to retire, or of an older one, are aborted (R210). -/
def State.expireSnapshots (s : State) (p : Nat) : State :=
  let old := s.retiring p
  s.each (s.route.legs.filter (fun g => g.part == p && g.snapshot.any (fun k => genLe k old))) (fun s g =>
    (s.raise Code.KV_SNAPSHOT_EXPIRED [p, g.leg, g.snapshot.getD 0]).abortLeg g.id Code.KV_SNAPSHOT_EXPIRED)

/-- No job of partition `p` steps, and its pool still has edits or pages to return: each boundary is a step boundary for it, so that the pages
return by R211 (DESIGN CHOICE). -/
def State.poolDrains (s : State) (p : Nat) : Bool :=
  let x := s.pool p
  (!x.leaves.isEmpty || !x.host.isEmpty || !x.limbo.isEmpty || x.seqs.any (fun e => e.2.state == seqLEAVING)) &&
    !s.route.jobs.any (fun e => e.2.part == p && (s.jobTemplate e.2).any (fun t => t.model.isSome))

/-- The page edits of the steps that begin (R208), which kick the STEP watchdogs (Table SAFE-4). -/
def State.landSteps (s : State) (n : Nat) : State :=
  if !(s.route.built && s.route.buildFor == n) then s
  else s.each (upTo 8) (fun s p =>
    if (s.pool p).drafts.any (fun d => d.period == n) then ((s.expireSnapshots p).kvStep p n).kickAll wdSTEP p
    else if s.poolDrains p then (s.expireSnapshots p).kvStep p n else s)

/-- The bridges whose filling comes with the report of the boundary: those of lane transmit and PCI Express islands, and of the transmit
islands of the peer lanes and of Ethernet, each in a direction of its own. Those of receive islands fill with the packet that finds them full,
and the others cannot fill (Table PACE-1). -/
def bridgeReported (i : Nat) : Bool :=
  (32 ≤ i && i < 64) || (64 ≤ i && i < 72 && i % 2 == 1) || (72 ≤ i && i < 76) || i == 109 || i == 111

/-- The bridges that filled in the period that ends count and write BRIDGE_FULL (R94); a disabled island's bridges read as empty (R93). -/
def State.reportFull (s : State) (full : List (Fin 126 × Fin 2)) : State :=
  s.each (full.filter (fun e => bridgeReported e.1.val && s.island e.1.val)) (fun s e => s.bridgeFull e.1.val e.2.val)

/-- A partition that still holds an old program leaves it once its last old part has given its verdict (R62). -/
def State.leaveOld (s : State) : State :=
  s.each (upTo 8) (fun s p => if s.zld.oldSince.any (fun e => e.1 % 8 == p) then s.dropOld p else s)

/-- Core `c` ran `n` ticks in the period that ends: they count for the sheet that it runs (Table CORE-6). -/
def State.carryTicks (s : State) (c n : Nat) : State :=
  match tfind s.cores.sheetAt c with
  | none => s
  | some e => { s with cores := { s.cores with sheetAt := tput s.cores.sheetAt c (e.1, e.2 + (n : Int)) } }

/-- PERIOD_BOUNDARY: the next period begins.  `x` brings the ticks that each core completed in the period that ends, those
outside its windows, those it still owes, the sheet headers that are wrong, and the bridges that filled. -/
def execPeriodBoundary (x : PeriodIn) (s : State) : Host.Outcome State Fault Refusal :=
  s.run (fun s =>
    let n := s.period + 1
    let s := s.each (upTo 40) (fun s c => ((s.tick c (x.ticks.getD c 0)).carryTicks c (x.ticks.getD c 0)).perfEvent c 0x17 (x.outside.getD c 0))
    let s := s.set64 F.ROUTE_PERIOD_LO_number F.ROUTE_PERIOD_HI_number n
    let s := (s.reportFull x.full).perfBoundary.fixTriples
    let s := ((s.landRealign n).landClock n).landPace.landVoltage
    let s := ((((s.landMap n).landSections n).landJobs n).landDefers).landCuts n
    let s := ((s.landSteps n).landStarts.landMail n).publishMail
    let s := s.readHeaders n x.bad
    let ready := s.route.built && s.route.buildFor == n
    let s := ((s.startReplays n).startSheets n).leaveOld
    let s := if ready then s.each ((upTo 8).filter s.isSafetyPart) (fun s p => s.kickAll wdSHEET p) else s
    let s := ((s.kickKind wdTIMEBASE).countOverruns n x.overrun).showEngines.showWalkers
    let s := s.each (upTo 8) State.showIngest
    s.each (upTo 40) State.showCore)

end Sys2Proof.Machine
end

