-- ==== Sys2Proof/Machine/Check.lean ====
section
/-! DEFINITION. Check-value units (R398 to R404, R409): check values over buffers, range checks, the comparison of recomputed
digests, the digests of seam blocks and call traces. -/

namespace Sys2Proof.Machine

/-! ### Running values (R399) -/

/-- The state record of a check value that has absorbed nothing. -/
def checkStart (alg : Nat) : List Byte :=
  if alg = algCRC32C then leBytes 8 (2 ^ 32 - 1) else if alg = algCRC64 then leBytes 8 0 else List.replicate 384 0

/-- Bytes of the state record: 8 for the CRCs; for SHA3-256 the 200-byte state, the unabsorbed bytes and their count. -/
def checkRecBytes (alg : Nat) : Nat := if alg = algSHA3 then 384 else 8

/-- The unabsorbed bytes of a SHA3 state record. -/
def shaRest (r : List Byte) : List Byte := (r.drop 200).take (recField r 336 4 % 136)

/-- A state record after absorbing bytes. -/
def checkAbsorb (alg : Nat) (r data : List Byte) : List Byte :=
  if alg = algCRC32C then leBytes 8 (data.foldl (crcByte 0x82F63B78) (leNat (r.take 4)))
  else if alg = algCRC64 then leBytes 8 (data.foldl (fun c b => crc64Byte c b.toNat) (leNat (r.take 8)))
  else
    let m := shaRest r ++ data
    let n := m.length / 136
    let a := absorbAll 17 n (lanesOf 25 (r.take 200)) m
    let rest := m.drop (136 * n)
    (a.map laneBytes).flatten ++ rest ++ List.replicate (136 - rest.length) 0 ++ leBytes 4 rest.length ++ List.replicate 44 0

/-- The check value of a state record: 4, 8 or 32 bytes. -/
def checkValue (alg : Nat) (r : List Byte) : List Byte :=
  if alg = algCRC32C then leBytes 4 (leNat (r.take 4) ^^^ (2 ^ 32 - 1))
  else if alg = algCRC64 then r.take 8
  else ((absorb 17 (lanesOf 25 (r.take 200)) (sha3Pad 17 (shaRest r))).take 4).flatMap laneBytes

/-- Bytes of a check value. -/
def checkBytes (alg : Nat) : Nat := if alg = algCRC32C then 4 else if alg = algCRC64 then 8 else 32

/-! ### Descriptors (Table INTEG-5) -/

/-- The 16 fold bytes of a call with start set (R399). -/
def CheckDesc.fold (d : CheckDesc) : List Byte :=
  (if d.addrFold then leBytes 4 (d.locs.getD locDATA 0) else leBytes 4 0) ++ (if d.seqFold then leBytes 4 d.seq else leBytes 4 0) ++
    leBytes 4 d.tag ++ leBytes 4 0

/-- The status record (R400). -/
def checkStatus (out nonfinite slot : Nat) (mismatch : Bool) : List Byte :=
  leBytes 4 out ++ leBytes 4 nonfinite ++ leBytes 1 (bit mismatch + 2 * bit (out != 0) + 4 * bit (nonfinite != 0)) ++ [0, 0, 0] ++
    leBytes 2 slot ++ [0, 0]

/-! ### The words (Table INTEG-4) -/

/-- A CHECK word of operation `op`: `f` answers what the call reads beside its descriptor, and the call itself. -/
def State.check (s : State) (x : Issue) (op : Nat) (reads : CheckDesc → (Nat → Nat) → List (Nat × Nat))
    (f : State → CheckDesc → (Nat → Nat) → Call → Call) : State :=
  let w := x.word
  let c := x.core.val
  let d := checkDesc (s.descriptor c w)
  s.issue x 0xC op (d.legal op) (!(s.core c).calls.any (fun k => k.kind == callCHECK)) false (fun s id =>
    let loc := fun i => s.locAddr c (d.locs.getD i 0)
    s.reading c id ((sramBase c + 64 * wSrcA w, 64) :: reads d loc) (fun s =>
      let k := { call0 callCHECK op (wSignal w) id with slots := if d.slot = 0xFFFF then none else some [d.slot] }
      s.startCall c (f s d loc k)))

/-- What an absorbing call reads. -/
def absorbReads (compares : Bool) (d : CheckDesc) (loc : Nat → Nat) : List (Nat × Nat) :=
  [(loc locDATA, d.len)] ++ (if d.start then [] else [(loc locSTATE, checkRecBytes d.alg)]) ++
    (if compares && d.finish then [(loc locVALUE, checkBytes d.alg)] else [])

/-- An absorbing call (R398, R399): `compares` compares with the value location instead of writing it, `copies` copies the data
without its trailer to the output. -/
def absorbCall (compares copies : Bool) (s : State) (d : CheckDesc) (loc : Nat → Nat) (k : Call) : Call :=
  let data := s.bytes (loc locDATA) d.len
  let r0 := if d.start then checkAbsorb d.alg (checkStart d.alg) d.fold else s.bytes (loc locSTATE) (checkRecBytes d.alg)
  let rest := if d.start then 0 else (shaRest r0).length
  let r := checkAbsorb d.alg r0 data
  let v := checkValue d.alg r
  let bad := compares && d.finish && s.bytes (loc locVALUE) (checkBytes d.alg) != v
  { k with
    writes := (if d.finish then (if compares then [] else [(loc locVALUE, v)]) else [(loc locSTATE, r)]) ++
      (if copies then [(loc locOUTPUT, data)] else []) ++ [(loc locSTATUS, checkStatus 0 0 d.slot bad)]
    codes := if bad then [(Code.CHECK_MISMATCH, [k.op])] else []
    causes := if bad then [(Code.CHECK_MISMATCH, Code.CHECK_VOID)] else []
    ticks := d.absorbTicks rest + (if copies then cdiv d.len 1024 else 0)
    digest := if d.finish && d.alg = algSHA3 then some (digestOf v) else none }

/-- CAPPEND: absorbs the data, and with finish set writes the check value. -/
def execCappend (x : Issue) (s : State) : Host.Outcome State Fault Refusal :=
  s.run (fun s => s.check x 0x01 (absorbReads false) (absorbCall false false))

/-- CCHECK: absorbs the data, and with finish set compares with the check value. -/
def execCcheck (x : Issue) (s : State) : Host.Outcome State Fault Refusal :=
  s.run (fun s => s.check x 0x02 (absorbReads true) (absorbCall true false))

/-- CSTRIP: CCHECK, and the data goes to the output without its trailer. -/
def execCstrip (x : Issue) (s : State) : Host.Outcome State Fault Refusal :=
  s.run (fun s => s.check x 0x03 (absorbReads true) (absorbCall true true))

/-- The element format that a range check compares: that of the elements of a microscaling format. -/
def rangeFmt (f : Nat) : Nat := if isMxFmt f then mxElem f else f

/-- CRANGE: counts the elements outside [lo, hi], and those that are not finite (R398, R401). -/
def execCrange (x : Issue) (s : State) : Host.Outcome State Fault Refusal :=
  s.run (fun s => s.check x 0x04 (fun d loc => [(loc locDATA, d.len)]) (fun s d loc k =>
    let f := rangeFmt d.f
    let w := fmtBits d.f
    let vs := (bytesCodes d.f (8 * d.len / max w 1) (s.bytes (loc locDATA) d.len)).map (fmtValue f)
    let (lo, hi) := (fmtValue f (d.lo % 2 ^ w), fmtValue f (d.hi % 2 ^ w))
    let out := fun (v : FV) => v.lt lo == some true || hi.lt v == some true
    let n := (vs.filter out).length
    let m := (vs.filter (fun v => !v.finite)).length
    let any := (vs.filter (fun v => out v || !v.finite)).length
    { k with writes := [(loc locSTATUS, checkStatus n m d.slot false)]
             codes := if any = 0 then [] else [(Code.RANGE_VIOLATION, [any])]
             causes := if any = 0 then [] else [(Code.RANGE_VIOLATION, Code.CHECK_VOID)]
             ticks := 8 + cdiv d.len 1024 }))

/-- CCOMPARE: compares 32 bytes at two locations (R398, R403). -/
def execCcompare (x : Issue) (s : State) : Host.Outcome State Fault Refusal :=
  s.run (fun s => s.check x 0x05 (fun _ loc => [(loc locVALUE, 32), (loc locSECOND, 32)]) (fun s d loc k =>
    let bad := s.bytes (loc locVALUE) 32 != s.bytes (loc locSECOND) 32
    { k with writes := [(loc locSTATUS, checkStatus 0 0 d.slot bad)]
             codes := if bad then [(Code.CHECK_MISMATCH, [0x05])] else []
             causes := if bad then [(Code.CHECK_MISMATCH, Code.CHECK_VOID)] else []
             ticks := 8, unequal := bad }))

/-! ### Completion (R400, R403, R404, R409) -/

/-- The recomputed legs of an iteration whose two digests differ and that wait for no tie-break yet. -/
def State.mismatched (s : State) (it : Iter) : List Nat :=
  ((s.integ.digests.filter (fun e => e.1 == it.job && e.2.1 == it.num)).map (fun e => e.2.2.1 / 4)).eraseDups.filter (fun l =>
    match s.digestOfCopy it.job it.num l 0, s.digestOfCopy it.job it.num l 1 with
    | some a, some b => a != b && !it.toPlace.contains (l, 2) && !it.placed.any (fun e => e.1 == l && e.2.1 == 2)
    | _, _ => false)

/-- The comparison of a recomputed leg failed (R403): every part of the iteration is INVALID, and the leg runs a third time in
the first period whose build begins from now on. -/
def State.recomputeMismatch (s : State) (it : Iter) (ls : List Nat) : State :=
  let s := s.each ls (fun s l => (s.inc (F.INTEG_RECOMP_FAULT_mismatches it.part)).raise Code.RECOMPUTE_MISMATCH [it.part, l, it.num])
  (s.setIter { it with toPlace := it.toPlace ++ ls.map (fun l => (l, 2)) }).invalidate it.part it.tags Code.RECOMPUTE_MISMATCH

/-- The iteration of the leg that issued a call. -/
def State.iterOfCall (s : State) (k : Call) : Option Iter := (k.leg.bind s.leg?).bind (fun g => s.iterOf g.job g.iter)

/-- A traced call writes its record at level CALL (R409): the digest is the next call of its leg, and its leg's last so far. -/
def State.traceCall (s : State) (k : Call) : State :=
  match k.digest, k.leg.bind s.leg? with
  | some d, some g =>
    let s := s.setLeg { g with digest := some d }
    if ((s.programAt g.part g.gen).map (fun x => x.callTrace)).getD false then
      (s.setLeg { g with digest := some d, callNo := g.callNo + 1 }).trace g 2 g.callNo d
    else s
  | _, _ => s

/-- CHECK_CALL_COMPLETE: the ticks of a check call have elapsed (R400).  A comparison that found recomputed digests unequal
takes R403; `block` says that the digest is that of a seam block (R404). -/
def execCheckCallComplete (c : CoreId) (block : Option SeamBlock) (s : State) : Host.Outcome State Fault Refusal :=
  s.run (fun s => s.completeCall c [callCHECK] (fun s k =>
    let it := s.iterOfCall k
    let ls := if k.unequal then ((it.map s.mismatched).getD []) else []
    let k1 := if ls.isEmpty then k else { k with codes := [], causes := [] }
    let s := s.finishCall c k1 true 0x15
    let s := match it with
      | some i => if ls.isEmpty then s else s.recomputeMismatch i ls
      | none => s
    let s := s.traceCall k
    match block, k.digest with
    | some b, some d => s.seamOwn b d
    | _, _ => s))

end Sys2Proof.Machine
end

