-- ==== Sys2Proof/Machine/Regs.lean ====
section
/-! DEFINITION. Accesses to BAR0 and BAR2 (R12 to R15, R433 to R437, R444): which register an offset names, reads with their
latches and clears, writes with rights, locks and ranges, and the SRAM aperture (R434). -/

namespace Sys2Proof.Machine

/-! ### The register at an offset (Table MAP-1) -/

/-- A block of BAR0: where it begins and ends, its source unit kind (R445), its registers. -/
structure Block where
  lo : Nat
  hi : Nat
  kind : Nat
  rows : List RegRow

/-- The blocks of Table MAP-1. -/
def blocks : List Block := [
  ⟨0x000000, 0x010000, 0x01, rowsCAP⟩, ⟨0x010000, 0x020000, 0x02, rowsZLD⟩, ⟨0x020000, 0x030000, 0x03, rowsKEEP⟩,
  ⟨0x030000, 0x040000, 0x05, rowsPACE⟩, ⟨0x040000, 0x060000, 0x07, rowsROUTE⟩, ⟨0x060000, 0x080000, 0x10, rowsHOST⟩,
  ⟨0x080000, 0x0A0000, 0x09, rowsLANE⟩, ⟨0x0A0000, 0x0C0000, 0x0A, rowsISP⟩, ⟨0x0C0000, 0x0D0000, 0x0B, rowsINGEST⟩,
  ⟨0x0D0000, 0x0E0000, 0x08, rowsKV⟩, ⟨0x0E0000, 0x0F0000, 0x0C, rowsMOT⟩, ⟨0x0F0000, 0x100000, 0x0D, rowsFIO⟩,
  ⟨0x100000, 0x110000, 0x0E, rowsTIME⟩, ⟨0x110000, 0x120000, 0x0F, rowsPEER⟩, ⟨0x120000, 0x130000, 0x11, rowsSAFE⟩,
  ⟨0x130000, 0x140000, 0x12, rowsINTEG⟩, ⟨0x140000, 0x150000, 0x13, rowsWAYM⟩, ⟨0x150000, 0x160000, 0x14, rowsPERF⟩,
  ⟨0x200000, 0x480000, 0x06, rowsCORE⟩]

/-- The indices of a distance from a row's base in its array, the widest stride first. -/
def arrayIndex (d : Nat) : List (Nat × Nat) → Option (List Nat)
  | [] => if d = 0 then some [] else none
  | (n, st) :: l => if d / st < n then (arrayIndex (d % st) l).map (fun is => d / st :: is) else none

/-- A register that an offset names: its row, its indices, its offset in its block, the block's kind, its BAR0 offset. -/
structure Hit where
  row : RegRow
  idx : List Nat
  inBlock : Nat
  kind : Nat
  off : Nat

/-- The register at an aligned BAR0 offset; none where the range is reserved (R433). -/
def findReg (off : Nat) : Option Hit :=
  match blocks.find? (fun b => b.lo ≤ off && off < b.hi) with
  | none => none
  | some b => b.rows.findSome? (fun r =>
      if off < r.base then none
      else (arrayIndex (off - r.base) r.dims).map (fun is =>
        { row := r, idx := is, inBlock := off - b.lo, kind := b.kind, off := off }))

/-- Index `k` of the register. -/
def Hit.at (h : Hit) (k : Nat) : Nat := h.idx.getD k 0

/-- The unit of the register is absent in this variant: its registers read 0 and ignore writes (Tables MAP-4, MOT-8, FIO-2, R431). -/
def State.absent (s : State) (h : Hit) : Bool :=
  (!s.hasField && (h.kind == 0x0D || (h.kind == 0x0C && ((0xE0100 ≤ h.off && h.off < 0xE0400) || 0xE0800 ≤ h.off)))) ||
    (s.variant == .f9620 && (h.kind == 0x06 || (h.kind == 0x14 && h.off < 0x158000 && 0x151000 ≤ h.off)) && 20 ≤ h.at 0)

/-! ### Reads -/

/-- The 32 bytes of a milepost entry (Table MOT-9). -/
def entryBytes (e : Option Milepost) : List Byte :=
  match e with
  | none => List.replicate 32 0
  | some m => leBytes 8 (ofSigned 64 m.target) ++ leBytes 4 m.tag ++ leBytes 2 m.lead ++ leBytes 1 m.prog ++ leBytes 1 m.output ++
      leBytes 1 m.state ++ leBytes 1 (mpFlags m) ++ leBytes 1 m.part ++ [0] ++ leBytes 8 (ofSigned 64 m.firedAt) ++
      leBytes 2 m.serial ++ [0, 0]

/-- The key of a register as port `i` sees it. -/
def Hit.key (h : Hit) (i : Port) : Nat := if h.row.perPort then portBank i + h.off else h.off

/-- The mask of the fields of a row that a read returns: write-only fields read 0 (R15). -/
def readMask (fs : List FieldRow) : Nat :=
  fs.foldl (fun m f => if f.ty == .wo then m else m ||| ((2 ^ f.width - 1) * 2 ^ f.lo)) 0

/-- The ticks that core `c` has run in its current sheet (Table CORE-6): those of earlier periods, and in paced mode one for each release edge
since the boundary, less the slip (R95, R100, R102). A tick of a free core starts when the one before it is acknowledged (R96), at times that the
spec does not give: what it has run in the present period is a free value. -/
def State.tickPos (s : State) (c : Nat) : Nat :=
  if !s.on (F.CORE_STATUS_sheet_running c) then 0
  else
    let before := ((tfind s.cores.sheetAt c).map (fun e => e.2)).getD 0
    let run : Int := if s.on (F.CORE_STATUS_paced c) then s.ticksRun c else ((Config.freeWord s.free).toNat : Int)
    (before + run).toNat % 2 ^ 24

/-- The value of a register before latches: what is kept in the register file, and what a read computes. -/
def State.peek (s : State) (i : Port) (h : Hit) : Word :=
  if s.absent h then 0
  else match h.row.name with
    | "TIME_NOW_NS" => BitVec.ofNat 32 s.clk.ns
    | "TIME_NOW_SEC_LO" => BitVec.ofNat 32 s.clk.sec
    | "TIME_NOW_SEC_HI" => BitVec.ofNat 32 (s.clk.sec / 2 ^ 32 % 2 ^ 16)
    | "KEEP_OP_SECONDS_LO" => BitVec.ofNat 32 s.opSeconds
    | "KEEP_OP_SECONDS_HI" => BitVec.ofNat 32 (s.opSeconds / 2 ^ 32)
    | "KEEP_STATUS" => withField (regRead s.regs (h.key i)) 3 1 (bit (s.boot.proven.contains i.val))
    | "CORE_STATUS" => withField (regRead s.regs (h.key i)) 8 24 (s.tickPos (h.at 0))
    | "PACE_PLAN_STATUS" => withField (regRead s.regs (h.key i)) 0 11 s.minutesLeft
    | "PACE_HUBFW_STATUS" => withField (regRead s.regs (h.key i)) 5 10 s.standbyLeft
    | "CORE_SPARE_TEST" =>
      withField (regRead s.regs (h.key i)) 16 16 (if s.coreRole (h.at 0) == coreSPARE then
        min 0xFFFF ((s.clk.now - tget 0 s.cores.spareTest (h.at 0)) / samplesPerS) else 0xFFFF)
    | "TIME_MS_LO" => BitVec.ofNat 32 s.milestone
    | "TIME_MS_HI" => BitVec.ofNat 32 (s.milestone / 2 ^ 32)
    | "CORE_MAP" => regRead s.regs (F.CORE_MAP_physical (5 * (h.at 0 / 5))).key
    | "CORE_CLUSTER" => regRead s.regs (F.CORE_CLUSTER_spare_left (5 * (h.at 0 / 5))).key
    | "LANE_TXEQ" =>
      let w := regRead s.regs (h.key i)
      withField w 16 7 (64 - fieldOf w 0 5 - fieldOf w 8 5)
    | "SAFE_TEST" => withField (regRead s.regs (h.key i)) 20 12 (s.testAge (h.at 0))
    | "MOT_MP_ENTRY" =>
      let e := tfind s.motion.entries (mpKey (s.get (F.MOT_MP_SEL_channel i)) (s.get (F.MOT_MP_SEL_index i)))
      BitVec.ofNat 32 (recField (entryBytes e) (4 * h.at 0) 4)
    | _ => regRead s.regs (h.key i) &&& BitVec.ofNat 32 (readMask h.row.fields)

/-- The registers that hold the low word of a 64-bit value, whose high word stands next (R13). The word pairs of MOT_MP_ENTRY are words of one
register and are read without a latch (DESIGN CHOICE). -/
def lowWords : List String :=
  ["ZLD_SRC_LO", "KEEP_OP_SECONDS_LO", "PACE_HUBFW_SRC_LO", "ROUTE_PERIOD_LO", "ROUTE_TOLL_LO", "ISP_CTX_SRC_LO",
   "INGEST_Q_RING_LO", "INGEST_Q_SEED_LO", "MOT_CH_COUNT_LO", "TIME_NOW_SEC_LO", "TIME_SET_SEC_LO", "TIME_MS_LO",
   "TIME_START_LO", "HOST_PUSH_LO", "HOST_SQ_LO", "HOST_CQ_LO", "INTEG_TRACE_LO", "PERF_TICK_LO", "PERF_COUNT_LO",
   "PERF_SNAP_TICK_LO", "PERF_SNAP_LO"]

/-- Latch the register at `off` for port `i` (R13, R437). -/
def State.latch (s : State) (i : Port) (off : Nat) : State :=
  match findReg off with
  | some h => { s with hiLatch := tput s.hiLatch (portBank i + off) (s.peek i h) }
  | none => s

/-- The RC fields of a register clear with the read that returns them (R15). -/
def State.clearRc (s : State) (i : Port) (h : Hit) : State :=
  s.each (h.row.fields.filter (fun f => f.ty == .rc)) (fun s f => s.set ⟨h.key i, f.lo, f.width⟩ 0)

/-- A 32-bit read of port `i` at a BAR0 register: a latched word is returned once, the read of a low word latches its high
word for that port, and RC fields clear. -/
def State.readReg (s : State) (i : Port) (h : Hit) : State :=
  let k := portBank i + h.off
  match tfind s.hiLatch k with
  | some w => { s with hiLatch := tdel s.hiLatch k }.reply i (.data w)
  | none =>
    let w := s.peek i h
    let s := if h.row.name == "TIME_NOW_NS" then (s.latch i (h.off + 4)).latch i (h.off + 8)
      else if lowWords.contains h.row.name then s.latch i (h.off + 4) else s
    let s := if h.row.name == "CORE_STATUS" then { s with free := s.free + 1 } else s
    (if s.absent h then s else s.clearRc i h).reply i (.data w)

/-- An access that no range answers (R433, Table HOST-10): a read completes with Unsupported Request, a write is dropped. -/
def State.unmapped (s : State) (i : Port) (bar off : Nat) (write : Bool) : State :=
  ((s.raise Code.HOST_UR [i, bar, off]).fire i 0).reply i (if write then .dropped else .unsupported)

/-- A read of BAR0 at `off`. -/
def State.readBar0 (s : State) (i : Port) (off : Nat) : State :=
  match findReg off with
  | some h => s.readReg i h
  | none => s.unmapped i 0 off false

/-- LOW_WORD_READ (R13, R437). -/
def execLowWordRead (i : Port) (off : BitVec 26) (s : State) : Host.Outcome State Fault Refusal :=
  s.run (fun s => s.readBar0 i off.toNat)

/-- RC_READ (R15). -/
def execRcRead (i : Port) (off : BitVec 26) (s : State) : Host.Outcome State Fault Refusal :=
  s.run (fun s => s.readBar0 i off.toNat)

/-- The range of an access is mapped: a BAR0 register, the aperture, a result ring, or a mailbox (Tables MAP-1, MAP-2). -/
def mapped (bar2 : Bool) (off : Nat) : Bool :=
  if bar2 then off < 0x810000 else (findReg off).isSome || (0x1000000 ≤ off && off < 0x2000000)

/-- UNMAPPED_ACCESS: an access to a reserved range, or one that is not 32 bits wide and aligned (R433, R12). -/
def execUnmappedAccess (i : Port) (bar2 : Bool) (off : BitVec 26) (bytes : BitVec 8) (write : Bool) (s : State) :
    Host.Outcome State Fault Refusal :=
  s.run (fun s =>
    if mapped bar2 off.toNat && bytes.toNat = 4 && off.toNat % 4 = 0 then s
    else s.unmapped i (if bar2 then 2 else 0) off.toNat write)

/-! ### The SRAM aperture (R434) -/

/-- The address that aperture offset `off` selects; none for an absent core, for a failed one, whose SRAM is never read again (R124), or
for a segment beyond the memory. -/
def State.apertureAt (s : State) (off : Nat) : Option Nat :=
  let unit := s.get F.CAP_APERTURE_unit
  let a := 0x1000000 * s.get F.CAP_APERTURE_segment + off
  match s.get F.CAP_APERTURE_kind with
  | 0 => if unit < s.coreCount && a < 0x800000 && s.coreRole unit != coreABSENT && s.coreRole unit != coreFAILED then
      some (sramBase unit + a) else none
  | 1 => if unit < s.clusters && a < 0x2000000 then some (stripeBase unit + a) else none
  | 2 => if a < 0x4000000 then some (lineStoreBase + a) else none
  | _ => none

/-- APERTURE_READ: the line is checked and corrected as for a scrub read; `found` is the error that the read meets, and `idle`
says that an idle tick of the bank came within 10 ms. -/
def execApertureRead (i : Port) (off : BitVec 24) (idle : Bool) (found : Option BadLine) (s : State) :
    Host.Outcome State Fault Refusal :=
  s.run (fun s =>
    if !s.privileged i || off.toNat % 4 != 0 then s.unmapped i 0 (0x1000000 + off.toNat) false
    else if !s.on F.CAP_APERTURE_enable then s.reply i (.data 0)
    else match s.apertureAt off.toNat with
      | none => s.reply i (.data 0)
      | some a =>
        if !idle then s.reply i .abort
        else
          let l := a / 64
          match (match found with | some b => some b | none => tfind s.integ.bad l) with
          | none => s.reply i (.data (BitVec.ofNat 32 (s.rd a 4)))
          | some b =>
            let s := { s with integ := { s.integ with bad := tput s.integ.bad l b } }
            if sound (64 * l) b then s.reply i (.data (BitVec.ofNat 32 (recField b.raw (a % 64) 4)))
            else match corrected (64 * l) b with
              | some bs => (s.noteCorrected (64 * l) b).reply i (.data (BitVec.ofNat 32 (recField bs (a % 64) 4)))
              | none => ((s.noteUncorrected (64 * l) b).set F.CAP_APERTURE_bad 1).reply i (.data 0))

/-! ### Writes: rights, locks, ranges (R435, R15, R444) -/

/-- The port may write the register (Table MAP-3). -/
def State.mayWrite (s : State) (i : Port) (h : Hit) (v : Word) : Bool :=
  match h.row.name with
  | "MOT_MP_SEL" | "WAYM_READ_SEQ" | "WAYM_IRQ" | "HOST_PUSH_LO" | "HOST_PUSH_HI" | "ZLD_CTRL" | "ZLD_SRC_LO" | "ZLD_SRC_HI"
  | "ZLD_SRC_LEN" | "KV_CMD" => true
  | "ROUTE_CMD" | "ROUTE_CMD_ARG0" | "ROUTE_CMD_ARG1" | "ROUTE_CMD_ARG2" | "HOST_BAR4_WIN" | "HOST_SQ_LO" | "HOST_SQ_HI"
  | "HOST_CQ_LO" | "HOST_CQ_HI" => s.role i != roleOBSERVER
  | "TIME_START_LO" | "TIME_START_HI" => s.privileged i || s.role i == roleOPERATOR
  | "ISP_CTX_CMD" | "ISP_CTX_SRC_LO" | "ISP_CTX_SRC_HI" | "ISP_CTX_LEN" => s.privileged i || s.owns i (s.ctxCfg (h.at 0)).part
  | "INGEST_CMD" => s.mayIngest i (v.toNat / 16 % 8)
  | _ => if h.kind == 0x0B then s.mayIngest i (h.at 0) else s.privileged i

/-- The ROLE code of the register's block (R435, R445). -/
def State.writeRole (s : State) (i : Port) (h : Hit) (v : Word) : State :=
  let cmd := if (h.row.fields.map (fun f => f.ty)).contains .wo then v.toNat % 16 else 0
  match h.kind with
  | 0x01 => s.raiseKind 0x01 255 Code.CAP_ROLE [i, h.inBlock]
  | 0x05 => s.raiseAt 255 Code.PACE_ROLE [i, h.inBlock]
  | 0x06 => s.raiseAt (h.at 0) Code.CORE_ROLE [i, h.inBlock]
  | 0x07 =>
    let s := s.raise Code.ROUTE_ROLE [i, cmd]
    if h.row.name == "ROUTE_CMD" then s.routeStatus i Code.ROUTE_ROLE 0 0 0 else s
  | 0x09 => s.raise Code.LANE_ROLE [i, h.inBlock]
  | 0x0A => s.raise Code.ISP_ROLE [i, h.inBlock]
  | 0x0B => s.raise Code.INGEST_ROLE [i, h.inBlock]
  | 0x0C => s.raise Code.MOT_ROLE [i, h.inBlock]
  | 0x0D => s.raise Code.FIO_ROLE [i, h.inBlock]
  | 0x0E => s.timeRefuse i cmd 1
  | 0x10 => s.hostRole i h.inBlock
  | 0x11 => s.safeRefuse i cmd srROLE
  | 0x12 => (s.raise Code.INTEG_ROLE [i, h.inBlock]).integStatus i Code.INTEG_ROLE irROLE
  | 0x13 => (s.raise Code.WAYM_ROLE [i, h.inBlock]).waymStatus i Code.WAYM_ROLE 1
  | 0x14 => s.raise Code.PERF_ROLE [i, h.inBlock]
  | _ => s

/-- The unit that owns the RWL fields of the register is locked (R15). -/
def State.regLocked (s : State) (i : Port) (h : Hit) : Bool :=
  match h.row.name with
  | "LANE_REF" => (upTo 32).any (fun n => s.laneState n != laneDISABLED)
  | "HOST_SQ_LO" | "HOST_SQ_HI" | "HOST_CQ_LO" | "HOST_CQ_HI" => s.on (F.HOST_SQ_CFG_run i (h.at 0))
  | _ => if h.kind == 0x0B then s.get (F.INGEST_Q_STATE_state (h.at 0)) != iqSTOPPED else s.get F.INTEG_STATUS_trace_level != 0

/-- RWL_LOCKED under the source unit of the block, with the instance that the register belongs to (R445). -/
def State.writeLocked (s : State) (i : Port) (h : Hit) : State :=
  let inst := if h.kind == 0x0B then h.at 0 else if h.kind == 0x10 then i.val else 255
  s.raiseKind h.kind inst Code.RWL_LOCKED [i, h.inBlock]

/-- The value lies within the ranges of the register's fields (R444). -/
def inRange (name : String) (v : Nat) : Bool :=
  let f := fun (lo w : Nat) => v / 2 ^ lo % 2 ^ w
  let within := fun (lo hi x : Nat) => lo ≤ x && x ≤ hi
  match name with
  | "CAP_APERTURE" => f 0 2 ≤ 2
  | "ZLD_SRC_LO" | "PACE_HUBFW_SRC_LO" => v % 4096 = 0
  | "PACE_HUBFW_LEN" => f 0 24 ≤ 8388608
  | "LANE_REF" => f 0 2 ≤ 2
  | "LANE_TXEQ" => f 0 5 ≤ 16 && f 8 5 ≤ 24 && f 0 5 + f 8 5 ≤ 28
  | "ISP_CTX_SRC_LO" | "INGEST_Q_RING_LO" | "HOST_SQ_LO" | "INTEG_TRACE_LO" => v % 64 = 0
  | "ISP_CTX_LEN" => f 0 21 ≤ 1048576
  | "INGEST_Q_RING_SIZE" => within 4 16 (f 0 5) && within 1 1024 (f 16 11)
  | "INGEST_Q_LIMITS" => within 1 10000 (f 0 14) && within 100 200000 (f 14 18)
  | "TIME_JUMP" => within 100 1000000000 (f 0 30)
  | "TIME_SLEW" => within 1 100 (f 0 7)
  | "TIME_SET_NS" => v < 2 ^ 30
  | "HOST_PUSH_LO" => v % 256 = 0
  | "HOST_CQ_LO" => v % 16 = 0
  | "INTEG_SCRUB_LIMIT" => within 1 8640000 (f 0 24)
  | "INTEG_TRACE_SIZE" => within 4 20 (f 0 5)
  | "PERF_TAG_CFG" => within 10 20 (f 0 5)
  | "PERF_BW_CFG" => within 1 1000 (f 0 10)
  | _ => true

/-- The BAD_COMMAND code of the block for a value `v`; blocks without one write nothing (R444). -/
def State.writeBad (s : State) (i : Port) (h : Hit) (v : Nat) : State :=
  match h.kind with
  | 0x02 => s.zldBad i v
  | 0x06 => s.raiseAt (h.at 0) Code.CORE_BAD_COMMAND [i, v % 16]
  | 0x07 => s.noSuchJob i v
  | 0x08 => s.kvRefused i (v % 16) (v / 256 % 2 ^ 19)
  | 0x09 => s.raise Code.LANE_BAD_COMMAND [i, if h.row.name == "LANE_REF" then 255 else h.at 0, v]
  | 0x0A => s.raise Code.ISP_BAD_COMMAND [i, h.at 0, v]
  | 0x0B => s.raise Code.INGEST_BAD_COMMAND [i, if h.row.name == "INGEST_CMD" then v / 16 % 8 else h.at 0, v]
  | 0x0C => (s.raise Code.MOT_BAD_COMMAND [i, v]).motStatus i Code.MOT_BAD_COMMAND 0
  | 0x0D => s.raise Code.FIO_BAD_COMMAND [i, v]
  | 0x12 => (s.raise Code.INTEG_BAD_COMMAND [i, v]).integStatus i Code.INTEG_BAD_COMMAND 0
  | 0x13 => (s.raise Code.WAYM_BAD_COMMAND [i, v]).waymStatus i Code.WAYM_BAD_COMMAND 0
  | 0x14 => (s.raise Code.PERF_BAD_COMMAND [i, v]).set (F.PERF_CMD_STATUS_code i) Code.PERF_BAD_COMMAND
  | _ => s

/-- A value outside its range, as R444 says: the TIME block answers with reason BAD_VALUE. -/
def State.outOfRange (s : State) (i : Port) (h : Hit) (v : Nat) : State :=
  if h.kind == 0x0E then s.timeRefuse i 0 6 else s.writeBad i h v

/-- An undefined command value: TIME and SAFE answer with a reason of their own; the codes of zld, core, route and isp carry the command value, the
others the value written. -/
def State.badCommand (s : State) (i : Port) (h : Hit) (v : Nat) : State :=
  if h.kind == 0x0E then s.timeRefuse i (v % 16) 5
  else if h.kind == 0x11 then s.safeRefuse i (v % 16) srBADCOMMAND
  else s.writeBad i h (if [0x02, 0x06, 0x07, 0x0A].contains h.kind then v % 16 else v)

/-- Apply a write to the fields of a register: RW and RWL fields take their bits, and a 1 clears a W1C bit (R14, R15). -/
def State.applyWrite (s : State) (i : Port) (h : Hit) (v : Word) : State :=
  s.each h.row.fields (fun s f => match f.ty with
    | .rw | .rwl => s.set ⟨h.key i, f.lo, f.width⟩ (fieldOf v f.lo f.width)
    | .w1c => if v.getLsbD f.lo then s.set ⟨h.key i, f.lo, f.width⟩ 0 else s
    | _ => s)

/-- A write to a register without behaviour of its own. -/
def State.plainWrite (s : State) (i : Port) (h : Hit) (v : Word) : State :=
  let tys := h.row.fields.map (fun f => f.ty)
  if s.absent h || tys.all (fun t => t == .ro || t == .rc) then s
  else if !s.mayWrite i h v then s.writeRole i h v
  else if tys.contains .rwl && s.regLocked i h then s.writeLocked i h
  else if tys.contains .wo then s.badCommand i h v.toNat
  else if !inRange h.row.name v.toNat then s.outOfRange i h v.toNat
  else s.applyWrite i h v

/-! ### Registers with behaviour of their own -/

/-- What a write to a command register or doorbell of port `i` does: the command that its value names (R436).  A FETCH and a
RESTART bring findings that a register does not hold, and are commands of their own. -/
def State.commandWrite (s : State) (i : Port) (h : Hit) (v : Word) : Option (Host.Outcome State Fault Refusal) :=
  let cmd := v.toNat % 16
  let k := h.at 0
  let part : Part := Fin.ofNat 8 (v.toNat / 16)
  let target : BitVec 8 := BitVec.ofNat 8 (v.toNat / 256)
  let kvTarget : BitVec 19 := BitVec.ofNat 19 (v.toNat / 256)
  let lane : LaneId := Fin.ofNat 32 k
  let ctx : CtxId := Fin.ofNat 64 k
  let core : CoreId := Fin.ofNat 40 k
  let p : Part := Fin.ofNat 8 k
  let r : Fin 4 := Fin.ofNat 4 k
  match h.row.name, cmd with
  | "CAP_BOARD_LED", _ => some (execLocateWrite i (v.getLsbD 0) s)
  | "ZLD_CTRL", 1 => some (execOpen i s)
  | "ZLD_CTRL", 2 => some (.next s)
  | "ZLD_CTRL", 3 => some (execCommit i s)
  | "ZLD_CTRL", 4 => some (execAbort i s)
  | "ZLD_CTRL", 5 => some (.next s)
  | "PACE_PLAN_CTRL", 1 => some (execOpenWindow i (BitVec.ofNat 11 (v.toNat / 65536)) s)
  | "PACE_PLAN_CTRL", 2 => some (execCloseWindow i s)
  | "PACE_HUBFW_CTRL", 1 => some (execHubfwLoad i s)
  | "PACE_HUBFW_CTRL", 2 => some (execHandover i s)
  | "PACE_HUBFW_CTRL", 3 => some (execConfirm i s)
  | "PACE_HUBFW_CTRL", 4 => some (execHubfwAbort i s)
  | "CORE_CTRL", 1 => some (execDetourRequest i core s)
  | "CORE_CTRL", 2 => some (execFenceClear i core s)
  | "KV_CMD", 1 => some (execPrefixRetire i part kvTarget s)
  | "KV_CMD", 2 => some (execSeqEnd i part kvTarget s)
  | "KV_CMD", 3 => some (execPageQuery i part kvTarget s)
  | "ROUTE_CMD", 1 => some (execAdmit i part target s)
  | "ROUTE_CMD", 2 => some (execRetire i part target s)
  | "ROUTE_CMD", 3 => some (execSetWeight i part target s)
  | "ROUTE_CMD", 4 => some (execMeasureSolo i part target s)
  | "ROUTE_CMD", 5 => some (execSetQuota i part s)
  | "ROUTE_CMD", 6 => some (execSetBandwidth i part s)
  | "ROUTE_CMD", 7 => some (execSetWindow i part target s)
  | "LANE_CTRL", 1 => some (execLaneRetrain i lane s)
  | "LANE_CTRL", 2 => some (execLaneLoop i lane (BitVec.ofNat 2 (v.toNat / 16)) s)
  | "LANE_CTRL", 3 => some (execLanePrbs i lane (BitVec.ofNat 2 (v.toNat / 64)) s)
  | "LANE_CTRL", 4 => some (execClearTest i lane s)
  | "LANE_CTRL", 5 => some (execLaneDisable i lane s)
  | "LANE_CTRL", 6 => some (execLaneEnable i lane s)
  | "ISP_CTX_CMD", 1 => some (execParamLoad i ctx s)
  | "ISP_CTX_CMD", 2 => some (execParamCommit i ctx s)
  | "ISP_CTX_CMD", 3 => some (execParamDiscard i ctx s)
  | "ISP_CTX_CMD", 4 => some (execContextRestart i ctx s)
  | "INGEST_CMD", 1 => some (execIngestStart i part s)
  | "INGEST_CMD", 2 => some (execIngestStop i part s)
  | "INGEST_CMD", 3 => some (execSetSeed i part s)
  | "INGEST_CMD", 4 => some (execSetEpoch i part s)
  | "INGEST_Q_TAIL", _ => some (execIngestDoorbell i p v s)
  | "MOT_CMD", 1 => some (execClearFault i (Fin.ofNat 8 (v.toNat / 16)) s)
  | "FIO_OUT_SET", _ => some (execFioOutSet i v s)
  | "FIO_OUT_CLR", _ => some (execFioOutClr i v s)
  | "FIO_OUT_CMD", 1 => some (execOutputClear i (BitVec.ofNat 6 (v.toNat / 16)) s)
  | "TIME_CMD", 1 => some (execStep i s)
  | "TIME_CMD", 2 => some (execSlew i s)
  | "TIME_CMD", 3 => some (execStartAt i part s)
  | "TIME_CMD", 4 => some (execStartCancel i part s)
  | "HOST_RES_CFG", _ => some (execHostResCfgWrite i p v s)
  | "HOST_RES_ACK", _ => some (execHostResAck i p v s)
  | "HOST_PUSH_HEAD", _ => some (execHostPushHead i p v s)
  | "HOST_SQ_CFG", _ => some (execHostSqCfgWrite i r v s)
  | "HOST_SQ_TAIL", _ => some (execHostSqTail i r v s)
  | "HOST_MBOX_POST", _ => some (execHostMboxPost i p v s)
  | "SAFE_CMD", 1 => some (execSafeReset (.port i) s)
  | "SAFE_CMD", 2 => some (execForceSafe i s)
  | "SAFE_CMD", 3 => some (execLock i s)
  | "SAFE_CMD", 4 => some (execUnlock i s)
  | "INTEG_CMD", 1 => some (execTraceSet i (BitVec.ofNat 2 (v.toNat / 16)) target s)
  | "INTEG_CMD", 2 => some (execCaptureClear i s)
  | "WAYM_CMD", 1 => some (execFreeze i s)
  | "WAYM_CMD", 2 => some (execThaw i s)
  | "PERF_CMD", 1 => some (execSnapshot i s)
  | "PERF_CMD", 2 => some (execTagOn i s)
  | "PERF_CMD", 3 => some (execTagOff i s)
  | "PERF_EVENT", _ => some (execPerfEventWrite i core (Fin.ofNat 8 (h.at 1)) (BitVec.ofNat 16 v.toNat) s)
  | _, _ => none

/-- A write to BAR2: into an in-mailbox by a port that may submit for its partition; every other range drops it (Table MAP-2). -/
def State.writeBar2 (s : State) (i : Port) (off : Nat) (v : Word) : State :=
  let p := (off - 0x800000) / 0x2000
  let o := (off - 0x800000) % 0x2000
  if off < 0x800000 || 8 ≤ p || 0x1000 ≤ o || off % 4 != 0 then s.unmapped i 2 off true
  else if !s.mayWritePart i p then s.hostRole i off
  else (s.wr (inMailbox p + o) 4 v.toNat).bwInAdd i 4

/-- REGISTER_WRITE: port `i` writes 32 bits at an offset of BAR0 or BAR2 (R435, R436, R444). -/
def execRegisterWrite (i : Port) (bar2 : Bool) (off : BitVec 26) (v : Word) (s : State) : Host.Outcome State Fault Refusal :=
  if bar2 then s.run (fun s => s.writeBar2 i off.toNat v)
  else match findReg off.toNat with
    | none => s.run (fun s => s.unmapped i 0 off.toNat true)
    | some h =>
      match (if s.absent h then none else s.commandWrite i h v) with
      | some o => o
      | none => s.run (fun s => s.plainWrite i h v)

end Sys2Proof.Machine
end

