-- ==== Sys2Proof/Machine/Dispatch.lean ====
section
/-! DEFINITION. One arm for each command: the call of its meaning. -/

namespace Sys2Proof.Machine

/-- The effect of a command on everything but the queue. -/
def exec (i : Instr) (s : State) : Host.Outcome State Fault Refusal :=
  match i with
  | .powerUp r => Sys2Proof.Machine.execPowerUp r s
  | .supplyDip us => Sys2Proof.Machine.execSupplyDip us s
  | .brownOut v => Sys2Proof.Machine.execBrownOut v s
  | .overVoltage v => Sys2Proof.Machine.execOverVoltage v s
  | .overvoltageRestart r => Sys2Proof.Machine.execOvervoltageRestart r s
  | .fieldSupplyLow v => Sys2Proof.Machine.execFieldSupplyLow v s
  | .fieldSupplyReturn v levels => Sys2Proof.Machine.execFieldSupplyReturn v levels s
  | .groupSupplyLow g low v => Sys2Proof.Machine.execGroupSupplyLow g low v s
  | .encSupplyFault n pin24 => Sys2Proof.Machine.execEncSupplyFault n pin24 s
  | .coolantOutOfRange inlet flow => Sys2Proof.Machine.execCoolantOutOfRange inlet flow s
  | .derated junction => Sys2Proof.Machine.execDerated junction s
  | .derateGrow => Sys2Proof.Machine.execDerateGrow s
  | .derateShorten => Sys2Proof.Machine.execDerateShorten s
  | .thermalShutdown cause junction flow => Sys2Proof.Machine.execThermalShutdown cause junction flow s
  | .thermalConditionCleared which => Sys2Proof.Machine.execThermalConditionCleared which s
  | .cageChange cage inserted => Sys2Proof.Machine.execCageChange cage inserted s
  | .serviceSession opened => Sys2Proof.Machine.execServiceSession opened s
  | .consoleFirmwareLoad ok digest => Sys2Proof.Machine.execConsoleFirmwareLoad ok digest s
  | .locateWrite port on => Sys2Proof.Machine.execLocateWrite port on s
  | .boardTelemetryRefresh t => Sys2Proof.Machine.execBoardTelemetryRefresh t s
  | .openLoad port => Sys2Proof.Machine.execOpen port s
  | .fetch port img => Sys2Proof.Machine.execFetch port img s
  | .fetchDone => Sys2Proof.Machine.execFetchDone s
  | .commit port => Sys2Proof.Machine.execCommit port s
  | .abort port => Sys2Proof.Machine.execAbort port s
  | .zldSessionTimeout => Sys2Proof.Machine.execZldSessionTimeout s
  | .restart port r => Sys2Proof.Machine.execRestart port r s
  | .reloadTimeout p => Sys2Proof.Machine.execReloadTimeout p s
  | .opSecondsSave => Sys2Proof.Machine.execOpSecondsSave s
  | .getIdentity port h => Sys2Proof.Machine.execGetIdentity port h s
  | .getMeasurements port h => Sys2Proof.Machine.execGetMeasurements port h s
  | .attest port h nonce => Sys2Proof.Machine.execAttest port h nonce s
  | .ownerChallenge port h => Sys2Proof.Machine.execOwnerChallenge port h s
  | .ownerProve port h ok => Sys2Proof.Machine.execOwnerProve port h ok s
  | .ownerClaim port h key signers ok => Sys2Proof.Machine.execOwnerClaim port h key signers ok s
  | .ownerTransfer port h key signers okOld okNew => Sys2Proof.Machine.execOwnerTransfer port h key signers okOld okNew s
  | .ownerSetSigners port h signers ok => Sys2Proof.Machine.execOwnerSetSigners port h signers ok s
  | .getRatchets port h => Sys2Proof.Machine.execGetRatchets port h s
  | .doeAbort port => Sys2Proof.Machine.execDoeAbort port s
  | .challengeExpired port => Sys2Proof.Machine.execChallengeExpired port s
  | .periodBoundary x => Sys2Proof.Machine.execPeriodBoundary x s
  | .paceMiss c slip => Sys2Proof.Machine.execPaceMiss c slip s
  | .slackWindow ticks counts hub => Sys2Proof.Machine.execSlackWindow ticks counts hub s
  | .slackLogWrite => Sys2Proof.Machine.execSlackLogWrite s
  | .planEvaluation => Sys2Proof.Machine.execPlanEvaluation s
  | .openWindow port minutes => Sys2Proof.Machine.execOpenWindow port minutes s
  | .closeWindow port => Sys2Proof.Machine.execCloseWindow port s
  | .planWindowExpired => Sys2Proof.Machine.execPlanWindowExpired s
  | .hubfwLoad port => Sys2Proof.Machine.execHubfwLoad port s
  | .hubfwVerified ok digest => Sys2Proof.Machine.execHubfwVerified ok digest s
  | .handover port => Sys2Proof.Machine.execHandover port s
  | .handoverDone => Sys2Proof.Machine.execHandoverDone s
  | .confirm port => Sys2Proof.Machine.execConfirm port s
  | .hubfwAbort port => Sys2Proof.Machine.execHubfwAbort port s
  | .standbyExpired => Sys2Proof.Machine.execStandbyExpired s
  | .handoverFailed => Sys2Proof.Machine.execHandoverFailed s
  | .coreHang c => Sys2Proof.Machine.execCoreHang c s
  | .detourRequest port c => Sys2Proof.Machine.execDetourRequest port c s
  | .fenceClear port c => Sys2Proof.Machine.execFenceClear port c s
  | .nop x => Sys2Proof.Machine.execNop x s
  | .mload x => Sys2Proof.Machine.execMload x s
  | .mswap x => Sys2Proof.Machine.execMswap x s
  | .mma x => Sys2Proof.Machine.execMma x s
  | .aclr x => Sys2Proof.Machine.execAclr x s
  | .abias x => Sys2Proof.Machine.execAbias x s
  | .ascale x => Sys2Proof.Machine.execAscale x s
  | .adrain x => Sys2Proof.Machine.execAdrain x s
  | .asave x => Sys2Proof.Machine.execAsave x s
  | .arestore x => Sys2Proof.Machine.execArestore x s
  | .vadd x => Sys2Proof.Machine.execVadd x s
  | .vsub x => Sys2Proof.Machine.execVsub x s
  | .vmul x => Sys2Proof.Machine.execVmul x s
  | .vfma x => Sys2Proof.Machine.execVfma x s
  | .vdiv x => Sys2Proof.Machine.execVdiv x s
  | .vmin x => Sys2Proof.Machine.execVmin x s
  | .vmax x => Sys2Proof.Machine.execVmax x s
  | .vabs x => Sys2Proof.Machine.execVabs x s
  | .vneg x => Sys2Proof.Machine.execVneg x s
  | .vcmp x => Sys2Proof.Machine.execVcmp x s
  | .vsel x => Sys2Proof.Machine.execVsel x s
  | .vcvt x => Sys2Proof.Machine.execVcvt x s
  | .vlogic x => Sys2Proof.Machine.execVlogic x s
  | .vshift x => Sys2Proof.Machine.execVshift x s
  | .vadds x => Sys2Proof.Machine.execVadds x s
  | .vsubs x => Sys2Proof.Machine.execVsubs x s
  | .vfunc x => Sys2Proof.Machine.execVfunc x s
  | .vred x => Sys2Proof.Machine.execVred x s
  | .vasum x => Sys2Proof.Machine.execVasum x s
  | .vmov x => Sys2Proof.Machine.execVmov x s
  | .add x => Sys2Proof.Machine.execAdd x s
  | .sub x => Sys2Proof.Machine.execSub x s
  | .mul x => Sys2Proof.Machine.execMul x s
  | .and x => Sys2Proof.Machine.execAnd x s
  | .or x => Sys2Proof.Machine.execOr x s
  | .xor x => Sys2Proof.Machine.execXor x s
  | .shl x => Sys2Proof.Machine.execShl x s
  | .shr x => Sys2Proof.Machine.execShr x s
  | .sar x => Sys2Proof.Machine.execSar x s
  | .slt x => Sys2Proof.Machine.execSlt x s
  | .ldi x => Sys2Proof.Machine.execLdi x s
  | .div x => Sys2Proof.Machine.execDiv x s
  | .rem x => Sys2Proof.Machine.execRem x s
  | .ld x => Sys2Proof.Machine.execLd x s
  | .st x => Sys2Proof.Machine.execSt x s
  | .fadd x => Sys2Proof.Machine.execFadd x s
  | .fsub x => Sys2Proof.Machine.execFsub x s
  | .fmul x => Sys2Proof.Machine.execFmul x s
  | .ffma x => Sys2Proof.Machine.execFfma x s
  | .fdiv x => Sys2Proof.Machine.execFdiv x s
  | .fsqrt x => Sys2Proof.Machine.execFsqrt x s
  | .fcvt x => Sys2Proof.Machine.execFcvt x s
  | .rdv x => Sys2Proof.Machine.execRdv x s
  | .loop x => Sys2Proof.Machine.execLoop x s
  | .waitt x => Sys2Proof.Machine.execWaitt x s
  | .waittComplete c => Sys2Proof.Machine.execWaittComplete c s
  | .vergeTimeout c => Sys2Proof.Machine.execVergeTimeout c s
  | .signal x => Sys2Proof.Machine.execSignal x s
  | .transfer x => Sys2Proof.Machine.execTransfer x s
  | .erun x => Sys2Proof.Machine.execErun x s
  | .prun x => Sys2Proof.Machine.execPrun x s
  | .edgeCallComplete c => Sys2Proof.Machine.execEdgeCallComplete c s
  | .gatherKv x => Sys2Proof.Machine.execGatherKv x s
  | .writeKv x => Sys2Proof.Machine.execWriteKv x s
  | .walkCallComplete c => Sys2Proof.Machine.execWalkCallComplete c s
  | .gather x => Sys2Proof.Machine.execGather x s
  | .scatter x => Sys2Proof.Machine.execScatter x s
  | .segred x => Sys2Proof.Machine.execSegred x s
  | .scan x => Sys2Proof.Machine.execScan x s
  | .compact x => Sys2Proof.Machine.execCompact x s
  | .sort x => Sys2Proof.Machine.execSort x s
  | .merge x => Sys2Proof.Machine.execMerge x s
  | .topk x => Sys2Proof.Machine.execTopk x s
  | .unique x => Sys2Proof.Machine.execUnique x s
  | .label x => Sys2Proof.Machine.execLabel x s
  | .graphCc x => Sys2Proof.Machine.execGraphCc x s
  | .expand x => Sys2Proof.Machine.execExpand x s
  | .irregCallComplete c => Sys2Proof.Machine.execIrregCallComplete c s
  | .cappend x => Sys2Proof.Machine.execCappend x s
  | .ccheck x => Sys2Proof.Machine.execCcheck x s
  | .cstrip x => Sys2Proof.Machine.execCstrip x s
  | .crange x => Sys2Proof.Machine.execCrange x s
  | .ccompare x => Sys2Proof.Machine.execCcompare x s
  | .checkCallComplete c block => Sys2Proof.Machine.execCheckCallComplete c block s
  | .prefixRetire port p target => Sys2Proof.Machine.execPrefixRetire port p target s
  | .seqEnd port p target => Sys2Proof.Machine.execSeqEnd port p target s
  | .pageQuery port p target => Sys2Proof.Machine.execPageQuery port p target s
  | .admitTemplate port p t => Sys2Proof.Machine.execAdmit port p t s
  | .retire port p j => Sys2Proof.Machine.execRetire port p j s
  | .setWeight port p j => Sys2Proof.Machine.execSetWeight port p j s
  | .measureSolo port p j => Sys2Proof.Machine.execMeasureSolo port p j s
  | .setQuota port p => Sys2Proof.Machine.execSetQuota port p s
  | .setBandwidth port p => Sys2Proof.Machine.execSetBandwidth port p s
  | .setWindow port p l => Sys2Proof.Machine.execSetWindow port p l s
  | .buildStart => Sys2Proof.Machine.execBuildStart s
  | .buildComplete => Sys2Proof.Machine.execBuildComplete s
  | .legComplete c k r => Sys2Proof.Machine.execLegComplete c k r s
  | .laneRetrain port n => Sys2Proof.Machine.execLaneRetrain port n s
  | .laneLoop port n loop => Sys2Proof.Machine.execLaneLoop port n loop s
  | .lanePrbs port n prbs => Sys2Proof.Machine.execLanePrbs port n prbs s
  | .clearTest port n => Sys2Proof.Machine.execClearTest port n s
  | .laneDisable port n => Sys2Proof.Machine.execLaneDisable port n s
  | .laneEnable port n => Sys2Proof.Machine.execLaneEnable port n s
  | .laneRefWaitDone n => Sys2Proof.Machine.execLaneRefWaitDone n s
  | .blockLock n => Sys2Proof.Machine.execBlockLock n s
  | .trainingWord n w => Sys2Proof.Machine.execTrainingWord n w s
  | .laneUp n => Sys2Proof.Machine.execLaneUp n s
  | .laneTrainTimeout n => Sys2Proof.Machine.execLaneTrainTimeout n s
  | .laneTrainRetry n => Sys2Proof.Machine.execLaneTrainRetry n s
  | .laneDown n => Sys2Proof.Machine.execLaneDown n s
  | .retrainWaitExpired n => Sys2Proof.Machine.execRetrainWaitExpired n s
  | .lineStart n p => Sys2Proof.Machine.execLineStart n p s
  | .pixels n p => Sys2Proof.Machine.execPixels n p s
  | .lineEnd n p => Sys2Proof.Machine.execLineEnd n p s
  | .frameMark n p => Sys2Proof.Machine.execFrameMark n p s
  | .ctrlResponse n p => Sys2Proof.Machine.execCtrlResponse n p s
  | .headNak n p => Sys2Proof.Machine.execHeadNak n p s
  | .headResync n p => Sys2Proof.Machine.execHeadResync n p s
  | .nakTimeout n k => Sys2Proof.Machine.execNakTimeout n k s
  | .laneCtrlTimeout n r => Sys2Proof.Machine.execLaneCtrlTimeout n r s
  | .lineEntersChannel ch => Sys2Proof.Machine.execLineEntersChannel ch s
  | .frameTimeout c => Sys2Proof.Machine.execFrameTimeout c s
  | .paramLoad port c => Sys2Proof.Machine.execParamLoad port c s
  | .paramLoadDone c host => Sys2Proof.Machine.execParamLoadDone c host s
  | .paramCommit port c => Sys2Proof.Machine.execParamCommit port c s
  | .paramDiscard port c => Sys2Proof.Machine.execParamDiscard port c s
  | .contextRestart port c => Sys2Proof.Machine.execContextRestart port c s
  | .goldenDue c => Sys2Proof.Machine.execGoldenDue c s
  | .goldenRetry c => Sys2Proof.Machine.execGoldenRetry c s
  | .goldenForced c => Sys2Proof.Machine.execGoldenForced c s
  | .goldenComplete c d => Sys2Proof.Machine.execGoldenComplete c d s
  | .ingestStart port p => Sys2Proof.Machine.execIngestStart port p s
  | .ingestStop port p => Sys2Proof.Machine.execIngestStop port p s
  | .setSeed port p => Sys2Proof.Machine.execSetSeed port p s
  | .setEpoch port p => Sys2Proof.Machine.execSetEpoch port p s
  | .ingestDoorbell port p tail => Sys2Proof.Machine.execIngestDoorbell port p tail s
  | .descriptorRead p r => Sys2Proof.Machine.execDescriptorRead p r s
  | .sampleComplete p pos x => Sys2Proof.Machine.execSampleComplete p pos x s
  | .slotTimeout p pos => Sys2Proof.Machine.execSlotTimeout p pos s
  | .countChange n levels => Sys2Proof.Machine.execCountChange n levels s
  | .amplitudeLoss n => Sys2Proof.Machine.execAmplitudeLoss n s
  | .indexPulse n => Sys2Proof.Machine.execIndexPulse n s
  | .serialSample n => Sys2Proof.Machine.execSerialSample n s
  | .serialFrameDone n f => Sys2Proof.Machine.execSerialFrameDone n f s
  | .speedStandstill n => Sys2Proof.Machine.execSpeedStandstill n s
  | .dividerTrigger d => Sys2Proof.Machine.execDividerTrigger d s
  | .triggerRelease d => Sys2Proof.Machine.execTriggerRelease d s
  | .pulseWidthEnd d => Sys2Proof.Machine.execPulseWidthEnd d s
  | .arm p r => Sys2Proof.Machine.execArm p r s
  | .milepostFire n => Sys2Proof.Machine.execMilepostFire n s
  | .pulseStepEnd n e => Sys2Proof.Machine.execPulseStepEnd n e s
  | .pulseMaxOn n e => Sys2Proof.Machine.execPulseMaxOn n e s
  | .noVerdict p tag => Sys2Proof.Machine.execNoVerdict p tag s
  | .clearFault port n => Sys2Proof.Machine.execClearFault port n s
  | .fieldInputChange port level => Sys2Proof.Machine.execFieldInputChange port level s
  | .fioOutSet port mask => Sys2Proof.Machine.execFioOutSet port mask s
  | .fioOutClr port mask => Sys2Proof.Machine.execFioOutClr port mask s
  | .outputClear port o => Sys2Proof.Machine.execOutputClear port o s
  | .fioOutputFault o kind mA => Sys2Proof.Machine.execFioOutputFault o kind mA s
  | .outputRetry o => Sys2Proof.Machine.execOutputRetry o s
  | .sync tp m => Sys2Proof.Machine.execSync tp m s
  | .followUp tp m => Sys2Proof.Machine.execFollowUp tp m s
  | .delayReq tp m => Sys2Proof.Machine.execDelayReq tp m s
  | .delayResp tp m => Sys2Proof.Machine.execDelayResp tp m s
  | .announce tp m => Sys2Proof.Machine.execAnnounce tp m s
  | .pdelayReq tp m => Sys2Proof.Machine.execPdelayReq tp m s
  | .pdelayResp tp m => Sys2Proof.Machine.execPdelayResp tp m s
  | .pdelayRespFollowUp tp m => Sys2Proof.Machine.execPdelayRespFollowUp tp m s
  | .syncTransmit tp => Sys2Proof.Machine.execSyncTransmit tp s
  | .announceTransmit tp => Sys2Proof.Machine.execAnnounceTransmit tp s
  | .masterLost => Sys2Proof.Machine.execMasterLost s
  | .nonPtpFrame tp => Sys2Proof.Machine.execNonPtpFrame tp s
  | .step port => Sys2Proof.Machine.execStep port s
  | .slew port => Sys2Proof.Machine.execSlew port s
  | .startAt port p => Sys2Proof.Machine.execStartAt port p s
  | .startCancel port p => Sys2Proof.Machine.execStartCancel port p s
  | .launchRecord tp p r => Sys2Proof.Machine.execLaunchRecord tp p r s
  | .frameLaunch tp => Sys2Proof.Machine.execFrameLaunch tp s
  | .hello side head h => Sys2Proof.Machine.execHello side head h s
  | .peerHelloRetry side => Sys2Proof.Machine.execPeerHelloRetry side s
  | .peerDown side => Sys2Proof.Machine.execPeerDown side s
  | .verge side head v => Sys2Proof.Machine.execVerge side head v s
  | .seamCheckMissing seam line => Sys2Proof.Machine.execSeamCheckMissing seam line s
  | .contrib side head r tracked => Sys2Proof.Machine.execContrib side head r tracked s
  | .ack side head seq => Sys2Proof.Machine.execAck side head seq s
  | .peerNak side head seq => Sys2Proof.Machine.execPeerNak side head seq s
  | .reject side head key reason => Sys2Proof.Machine.execReject side head key reason s
  | .credit side head n => Sys2Proof.Machine.execCredit side head n s
  | .portReset port cause => Sys2Proof.Machine.execPortReset port cause s
  | .linkUp port speed width => Sys2Proof.Machine.execLinkUp port speed width s
  | .configRequest port reg => Sys2Proof.Machine.execConfigRequest port reg s
  | .resultStateRead port p k => Sys2Proof.Machine.execResultStateRead port p k s
  | .hostResAck port p seq => Sys2Proof.Machine.execHostResAck port p seq s
  | .hostResCfgWrite port p v => Sys2Proof.Machine.execHostResCfgWrite port p v s
  | .hostPushHead port p seq => Sys2Proof.Machine.execHostPushHead port p seq s
  | .coalesceTimer port p => Sys2Proof.Machine.execCoalesceTimer port p s
  | .hostSqTail port r tail => Sys2Proof.Machine.execHostSqTail port r tail s
  | .copyIn port r d => Sys2Proof.Machine.execCopyIn port r d s
  | .copyOut port r d => Sys2Proof.Machine.execCopyOut port r d s
  | .release port r d => Sys2Proof.Machine.execRelease port r d s
  | .bindWeights port r d => Sys2Proof.Machine.execBindWeights port r d s
  | .weightsDigestDone port r => Sys2Proof.Machine.execWeightsDigestDone port r s
  | .fence port r d => Sys2Proof.Machine.execFence port r d s
  | .dmaTimeout port r => Sys2Proof.Machine.execDmaTimeout port r s
  | .hostMboxPost port p number => Sys2Proof.Machine.execHostMboxPost port p number s
  | .bar4Access port off w => Sys2Proof.Machine.execBar4Access port off w s
  | .unmappedAccess port bar2 off bytes write => Sys2Proof.Machine.execUnmappedAccess port bar2 off bytes write s
  | .verdictRecord p v => Sys2Proof.Machine.execVerdictRecord p v s
  | .watchdogMiss w early => Sys2Proof.Machine.execWatchdogMiss w early s
  | .lockstepMismatch addr => Sys2Proof.Machine.execLockstepMismatch addr s
  | .testSlice t unit bound left waiting ends => Sys2Proof.Machine.execTestSlice t unit bound left waiting ends s
  | .sliceOverrun => Sys2Proof.Machine.execSliceOverrun s
  | .testOverdue t => Sys2Proof.Machine.execTestOverdue t s
  | .contextNoReference c => Sys2Proof.Machine.execContextNoReference c s
  | .checkerStartDone => Sys2Proof.Machine.execCheckerStartDone s
  | .safeInputChange port ch level => Sys2Proof.Machine.execSafeInputChange port ch level s
  | .safeInputDemand port => Sys2Proof.Machine.execSafeInputDemand port s
  | .safeInputFault port ch test => Sys2Proof.Machine.execSafeInputFault port ch test s
  | .testPulse src follow returned => Sys2Proof.Machine.execTestPulse src follow returned s
  | .inputFaultRecovered port => Sys2Proof.Machine.execInputFaultRecovered port s
  | .outputTest o ch start readback => Sys2Proof.Machine.execOutputTest o ch start readback s
  | .safeReset by_ => Sys2Proof.Machine.execSafeReset by_ s
  | .forceSafe port => Sys2Proof.Machine.execForceSafe port s
  | .lock port => Sys2Proof.Machine.execLock port s
  | .unlock port => Sys2Proof.Machine.execUnlock port s
  | .safetyMessage => Sys2Proof.Machine.execSafetyMessage s
  | .scrubRead kind line found hbm => Sys2Proof.Machine.execScrubRead kind line found hbm s
  | .scrubWriteBack kind line accessed => Sys2Proof.Machine.execScrubWriteBack kind line accessed s
  | .tripleVote upsets => Sys2Proof.Machine.execTripleVote upsets s
  | .traceSet port level parts => Sys2Proof.Machine.execTraceSet port level parts s
  | .captureClear port => Sys2Proof.Machine.execCaptureClear port s
  | .waymarkWrite => Sys2Proof.Machine.execWaymarkWrite s
  | .sectorErased => Sys2Proof.Machine.execSectorErased s
  | .budgetRefill => Sys2Proof.Machine.execBudgetRefill s
  | .bucketRefill => Sys2Proof.Machine.execBucketRefill s
  | .waymarkSummary code par => Sys2Proof.Machine.execWaymarkSummary code par s
  | .freeze port => Sys2Proof.Machine.execFreeze port s
  | .thaw port => Sys2Proof.Machine.execThaw port s
  | .freezeTimeout => Sys2Proof.Machine.execFreezeTimeout s
  | .waymRead port => Sys2Proof.Machine.execWaymRead port s
  | .snapshot port => Sys2Proof.Machine.execSnapshot port s
  | .tagOn port => Sys2Proof.Machine.execTagOn port s
  | .tagOff port => Sys2Proof.Machine.execTagOff port s
  | .perfEventWrite port c k v => Sys2Proof.Machine.execPerfEventWrite port c k v s
  | .bwWindowEnd port => Sys2Proof.Machine.execBwWindowEnd port s
  | .apertureRead port off idle found => Sys2Proof.Machine.execApertureRead port off idle found s
  | .lowWordRead port off => Sys2Proof.Machine.execLowWordRead port off s
  | .rcRead port off => Sys2Proof.Machine.execRcRead port off s
  | .registerWrite port bar2 off v => Sys2Proof.Machine.execRegisterWrite port bar2 off v s
  | .metronomeUnlocked locked cause => Sys2Proof.Machine.execMetronomeUnlocked locked cause s
  | .safeMsgLink tp up => Sys2Proof.Machine.execSafeMsgLink tp up s
  | .dmaReadCompletion port r e => Sys2Proof.Machine.execDmaReadCompletion port r e s
  | .hostSqCfgWrite port r v => Sys2Proof.Machine.execHostSqCfgWrite port r v s
  | .safeInputDemandCleared port => Sys2Proof.Machine.execSafeInputDemandCleared port s
  | .outputCooled o => Sys2Proof.Machine.execOutputCooled o s
  | .encSupplyRestored n pin24 => Sys2Proof.Machine.execEncSupplyRestored n pin24 s
  | .amplitudeReturn n => Sys2Proof.Machine.execAmplitudeReturn n s
  | .delayReqTransmit => Sys2Proof.Machine.execDelayReqTransmit s
  | .pdelayReqTransmit tp => Sys2Proof.Machine.execPdelayReqTransmit tp s

end Sys2Proof.Machine
end

