-- ==== Sys2Proof/Machine/Idle.lean ====
section
/-! DEFINITION. What a step does while no command waits: one 5 ns sample of the local clock and the time base passes. -/

namespace Sys2Proof.Machine

/-- A sample lasts 5 ns of the time-base island, and the local clock advances by it at a rate correction of `ppb` (R325, R330):
5 × 65,536 × (1 + ppb / 10^9) in 1/65,536 ns, with what is left below that carried. -/
def Clock.tick (c : Clock) (ppb : Int) : Clock :=
  let u := c.rest + (327680 * (1000000000 + ppb)).toNat
  let frac := c.frac + u / 1000000000
  let ns := c.ns + frac / 65536
  { now := c.now + 1, sec := (c.sec + ns / 1000000000) % 2 ^ 48, ns := ns % 1000000000, frac := frac % 65536
    rest := u % 1000000000 }

/-- One idle step: a sample begins, at which the speeds are taken (R310) and field inputs settle (R318); the boot ROM leaves the
time base running (R325). -/
def State.idle (s : State) : State :=
  if s.powered then ({ s with clk := s.clk.tick (toSigned 32 (s.get F.TIME_FREQ_ppb)) }).speedSample.settleField
  else if s.power == .bootRom then { s with clk := s.clk.tick 0 }
  else s

end Sys2Proof.Machine
end

