-- ==== Sys2Proof/Machine/Held.lean ====
section
/-! DEFINITION. The words that wait in the streams of the cores (R156, R158): while no command waits, the first of them whose wait is over
issues, and only when none can does a sample of the clock pass. -/

namespace Sys2Proof.Machine

/-- The operations of a class in the order of their codes from 1 (Tables ARITH-10 to ARITH-12, IRR-1, INTEG-4); RDV, VADDS and VSUBS and
the walk words stand in `wordInstr`. -/
def classOps (cls : Nat) : List (Issue → Instr) :=
  match cls with
  | 0x1 => [.mload, .mswap, .mma]
  | 0x2 => [.aclr, .abias, .ascale, .adrain, .asave, .arestore]
  | 0x3 => [.vadd, .vsub, .vmul, .vfma, .vdiv, .vmin, .vmax, .vabs, .vneg, .vcmp, .vsel, .vcvt, .vlogic, .vshift, .vadds, .vfunc, .vred,
            .vasum, .vmov]
  | 0x4 => [.gather, .scatter, .segred, .scan, .compact, .sort, .merge, .topk, .unique, .label, .graphCc, .expand]
  | 0x5 => [.add, .sub, .mul, .and, .or, .xor, .shl, .shr, .sar, .slt, .ldi, .div, .rem, .ld, .st, .fadd, .fsub, .fmul, .ffma, .fdiv,
            .fsqrt, .fcvt]
  | 0x6 => [.loop]
  | 0x7 => [.waitt, .signal]
  | 0x9 => [.erun]
  | 0xB => [.prun]
  | 0xC => [.cappend, .ccheck, .cstrip, .crange, .ccompare]
  | _ => []

/-- The command that issues a word, by its class and operation; a word that spells none comes as a NOP, and fails its decode there. -/
def State.wordInstr (s : State) (x : Issue) : Instr :=
  let (cls, op) := (wClass x.word, wOp x.word)
  if cls = 0x8 then .transfer x
  else if cls = 0xA then (if (walkDesc (s.descriptor x.core x.word)).kind = 2 then .writeKv x else .gatherKv x)
  else if cls = 0x5 && op = 0x20 then .rdv x
  else if cls = 0x3 && op = 0x0F && wImm10 x.word = 1 then .vsubs x
  else if op = 0 then .nop x
  else (((classOps cls)[op - 1]?).getD Instr.nop) x

/-- The first word that waits in the stream of group `k` of core `c` comes to issue again, with the words behind it kept behind it; none
where it still waits. A word that has issued as the last of a loop's body can stand there again, one trip on. -/
def State.retryHead (s : State) (c k : Nat) : Option State :=
  let e := s.core c
  let mine := fun (h : Issue × Option Nat) => h.1.group.val == k
  match e.held.filter mine with
  | [] => none
  | h :: rest =>
    match Sys2Proof.Machine.exec (s.wordInstr h.1) (s.setCore c { e with held := e.held.filter (fun h => !mine h) }) with
    | .next t =>
      let now := (t.core c).held
      if (now.filter mine).head? == some h && (t.core c).loops == e.loops then none
      else some (t.setCore c { t.core c with held := now ++ rest.filter (fun r => t.legStands r.2) })
    | _ => none

/-- The first stream, in core and group order, whose first word issues. -/
def State.issueHeld (s : State) : Option State :=
  (s.exec.flatMap (fun e => (upTo 4).map (fun k => (e.1, k)))).findSome? (fun e => s.retryHead e.1 e.2)

/-- A step while no command waits. -/
def State.idleStep (s : State) : State := if s.powered then s.issueHeld.getD s.idle else s.idle

end Sys2Proof.Machine
end

