-- ==== Sys2Proof/Machine/Kinds.lean ====
section
/-! DEFINITION. The areas of the state, one number each: every component of State beside the register file, and every register
of Table MAP-1 by its name.  `Frame` says that a state differs from another in given areas alone, and keeps what no command of
the block may break. -/

namespace Sys2Proof.Machine

/-- The kind number of a register of the block CAP. -/
def kindCap (u : Nat) : Nat :=
  if u < 0x44 then 30 + (u - 0x0) / 4 else
  if u < 0x818 then 47 + (u - 0x800) / 4 else 375

/-- The kind number of a register of the block ZLD. -/
def kindZld (u : Nat) : Nat :=
  if u < 0x10024 then 53 + (u - 0x10000) / 4 else
  if u < 0x10080 then 62 else
  if u < 0x100a0 then 63 else
  if u < 0x100a4 then 64 + (u - 0x100a0) / 4 else 375

/-- The kind number of a register of the block KEEP. -/
def kindKeep (u : Nat) : Nat :=
  if u < 0x20014 then 65 + (u - 0x20000) / 4 else
  if u < 0x20028 then 70 else
  if u < 0x20080 then 71 else
  if u < 0x20088 then 72 + (u - 0x20080) / 4 else 375

/-- The kind number of a register of the block PACE. -/
def kindPace (u : Nat) : Nat :=
  if u < 0x3001c then 74 + (u - 0x30000) / 4 else
  if u < 0x30028 then 81 else
  if u < 0x301a0 then 82 else
  if u < 0x302a0 then 83 else
  if u < 0x30320 then 84 else
  if u < 0x30404 then 85 + (u - 0x30400) / 4 else
  if u < 0x30678 then 86 else
  if u < 0x30714 then 87 + (u - 0x30700) / 4 else 375

/-- The kind number of a register of the block ROUTE. -/
def kindRoute (u : Nat) : Nat :=
  if u < 0x40028 then 92 + (u - 0x40000) / 4 else
  if u < 0x40200 then 102 + ((u - 0x40100) % 0x20) / 4 else
  if u < 0x43000 then 110 + ((u - 0x41000) % 0x20) / 4 else
  if u < 0x44400 then 117 + ((u - 0x44000) % 0x8) / 4 else 375

/-- The kind number of a register of the block HOST. -/
def kindHost (u : Nat) : Nat :=
  if u < 0x60014 then 119 + (u - 0x60000) / 4 else
  if u < 0x60200 then 124 + ((u - 0x60100) % 0x20) / 4 else
  if u < 0x60480 then 132 + ((u - 0x60400) % 0x20) / 4 else
  if u < 0x60620 then 140 else
  if u < 0x60640 then 141 else 375

/-- The kind number of a register of the block LANE. -/
def kindLane (u : Nat) : Nat :=
  if u < 0x80008 then 142 + (u - 0x80000) / 4 else
  if u < 0x83000 then (let o := (u - 0x81000) % 0x100; if o < 0x2c then 144 + (o - 0x0) / 4 else 155) else 375

/-- The kind number of a register of the block ISP. -/
def kindIsp (u : Nat) : Nat :=
  if u < 0xa0008 then 156 + (u - 0xa0000) / 4 else
  if u < 0xa0300 then 158 + ((u - 0xa0100) % 0x20) / 4 else
  if u < 0xa5000 then (let o := (u - 0xa1000) % 0x100; if o < 0x2c then 165 + (o - 0x0) / 4 else 176) else 375

/-- The kind number of a register of the block INGEST. -/
def kindIngest (u : Nat) : Nat :=
  if u < 0xc000c then 177 + (u - 0xc0000) / 4 else
  if u < 0xc0300 then (let o := (u - 0xc0100) % 0x40; if o < 0x30 then 180 + (o - 0x0) / 4 else 192) else 375

/-- The kind number of a register of the block KV. -/
def kindKv (u : Nat) : Nat :=
  if u < 0xd0010 then 193 + (u - 0xd0000) / 4 else
  if u < 0xd0200 then 197 + ((u - 0xd0100) % 0x20) / 4 else
  if u < 0xd0220 then 205 else 375

/-- The kind number of a register of the block MOT. -/
def kindMot (u : Nat) : Nat :=
  if u < 0xe000c then 206 + (u - 0xe0000) / 4 else
  if u < 0xe0300 then 209 + ((u - 0xe0100) % 0x40) / 4 else
  if u < 0xe0500 then 221 + ((u - 0xe0400) % 0x20) / 4 else
  if u < 0xe0804 then 226 + (u - 0xe0800) / 4 else
  if u < 0xe0840 then 227 else 375

/-- The kind number of a register of the block FIO. -/
def kindFio (u : Nat) : Nat :=
  if u < 0xf0018 then 228 + (u - 0xf0000) / 4 else
  if u < 0xf0030 then 234 else
  if u < 0xf0300 then 235 + ((u - 0xf0100) % 0x10) / 4 else
  if u < 0xf0500 then 238 + ((u - 0xf0300) % 0x10) / 4 else 375

/-- The kind number of a register of the block TIME. -/
def kindTime (u : Nat) : Nat :=
  if u < 0x10004c then 241 + (u - 0x100000) / 4 else
  if u < 0x100058 then 260 else
  if u < 0x100080 then 261 + ((u - 0x100060) % 0x10) / 4 else 375

/-- The kind number of a register of the block PEER. -/
def kindPeer (u : Nat) : Nat :=
  if u < 0x110004 then 264 + (u - 0x110000) / 4 else
  if u < 0x110180 then 265 + ((u - 0x110100) % 0x40) / 4 else 375

/-- The kind number of a register of the block SAFE. -/
def kindSafe (u : Nat) : Nat :=
  if u < 0x12001c then 271 + (u - 0x120000) / 4 else
  if u < 0x120180 then 278 + ((u - 0x120100) % 0x10) / 4 else
  if u < 0x120300 then 281 else
  if u < 0x120400 then 282 else
  if u < 0x120424 then 283 else 375

/-- The kind number of a register of the block INTEG. -/
def kindInteg (u : Nat) : Nat :=
  if u < 0x13002c then 284 + (u - 0x130000) / 4 else
  if u < 0x130060 then 295 + ((u - 0x130040) % 0x8) / 4 else
  if u < 0x1300c0 then 297 + ((u - 0x130080) % 0x10) / 4 else
  if u < 0x13010c then 300 + (u - 0x1300c0) / 4 else
  if u < 0x130150 then 319 else
  if u < 0x130170 then 320 else
  if u < 0x130280 then 321 + ((u - 0x130200) % 0x10) / 4 else
  if u < 0x130340 then 324 + ((u - 0x130300) % 0x10) / 4 else
  if u < 0x130404 then 326 + (u - 0x130400) / 4 else
  if u < 0x131400 then 327 else
  if u < 0x132000 then 328 else 375

/-- The kind number of a register of the block WAYM. -/
def kindWaym (u : Nat) : Nat :=
  if u < 0x14001c then 329 + (u - 0x140000) / 4 else
  if u < 0x140040 then 336 else
  if u < 0x140058 then 337 + (u - 0x140040) / 4 else 375

/-- The kind number of a register of the block PERF. -/
def kindPerf (u : Nat) : Nat :=
  if u < 0x150014 then 343 + (u - 0x150000) / 4 else
  if u < 0x153800 then (let o := (u - 0x151000) % 0x100; if o < 0x8 then 348 + (o - 0x0) / 4 else if o < 0x48 then 350 + (o - 0x8) % 0x8 / 4 else if o < 0x68 then 352 else if o < 0x88 then 353 + (o - 0x80) / 4 else if o < 0xc8 then 355 + (o - 0x88) % 0x8 / 4 else 357 + (o - 0xc8) / 4) else
  if u < 0x156800 then 358 + ((u - 0x154000) % 0x100) % 0x10 / 4 else
  if u < 0x158080 then 362 + ((u - 0x158000) % 0x20) / 4 else 375

/-- The kind number of a register of the block CORE. -/
def kindCore (u : Nat) : Nat :=
  if u < 0x480000 then (let o := (u - 0x200000) % 0x10000; if o < 0x18 then 367 + (o - 0x0) / 4 else if o < 0x108 then 373 + (o - 0x100) / 4 else 375) else 375

/-- The number of the register at `k` (375: no register): the same for every port and every index of the register's array. -/
def regKind (k : Nat) : Nat :=
  let u := k % 0x4000000
  if u < 0x10000 then kindCap u else
  if u < 0x20000 then kindZld u else
  if u < 0x30000 then kindKeep u else
  if u < 0x40000 then kindPace u else
  if u < 0x60000 then kindRoute u else
  if u < 0x80000 then kindHost u else
  if u < 0xa0000 then kindLane u else
  if u < 0xc0000 then kindIsp u else
  if u < 0xd0000 then kindIngest u else
  if u < 0xe0000 then kindKv u else
  if u < 0xf0000 then kindMot u else
  if u < 0x100000 then kindFio u else
  if u < 0x110000 then kindTime u else
  if u < 0x120000 then kindPeer u else
  if u < 0x130000 then kindSafe u else
  if u < 0x140000 then kindInteg u else
  if u < 0x150000 then kindWaym u else
  if u < 0x200000 then kindPerf u else
  kindCore u

/-- An area of the state: a component beside the register file, or a register by the key of any
of its instances. -/
inductive Area where
  /-- The running image. -/
  | cfg
  /-- The board. -/
  | board
  /-- The load session. -/
  | zld
  /-- The keep store. -/
  | keep
  /-- The flash. -/
  | flash
  /-- Start-up and identity. -/
  | boot
  /-- The planner. -/
  | pace
  /-- The core map. -/
  | cores
  /-- The physical cores. -/
  | exec
  /-- The scheduler. -/
  | route
  /-- The KV pools. -/
  | kv
  /-- The camera lanes. -/
  | lane
  /-- The image pipeline. -/
  | isp
  /-- The ingest queues. -/
  | ingest
  /-- The motion block. -/
  | motion
  /-- Field I/O. -/
  | fio
  /-- The time unit. -/
  | time
  /-- The neighbours. -/
  | peer
  /-- The host block. -/
  | host
  /-- The safety checker. -/
  | safe
  /-- Data integrity. -/
  | integ
  /-- The supply state. -/
  | power
  /-- The byte memory. -/
  | mem
  /-- The clock. -/
  | clk
  /-- The counter of free values. -/
  | free
  /-- The event recorder. -/
  | recorder
  /-- The observers. -/
  | perf
  /-- The answers to the ports. -/
  | replies
  /-- The latched high words. -/
  | hiLatch
  /-- The vectors fired. -/
  | msix
  /-- A register. -/
  | reg (key : Nat)
  deriving DecidableEq, Repr

/-- The number of an area. -/
def Area.num : Area → Nat
  | .cfg => 0
  | .board => 1
  | .zld => 2
  | .keep => 3
  | .flash => 4
  | .boot => 5
  | .pace => 6
  | .cores => 7
  | .exec => 8
  | .route => 9
  | .kv => 10
  | .lane => 11
  | .isp => 12
  | .ingest => 13
  | .motion => 14
  | .fio => 15
  | .time => 16
  | .peer => 17
  | .host => 18
  | .safe => 19
  | .integ => 20
  | .power => 21
  | .mem => 22
  | .clk => 23
  | .free => 24
  | .recorder => 25
  | .perf => 26
  | .replies => 27
  | .hiLatch => 28
  | .msix => 29
  | .reg k => regKind k

/-- A set of areas, as a number whose bits are theirs. -/
def areas (l : List Area) : Nat := l.foldl (fun m p => m ||| 2 ^ p.num) 0

/-- No ratchet of `k'` is above its value in `k` (Table KEEP-2, R82). -/
def Keep.spent (k k' : Keep) : Prop :=
  k'.ownerLeft ≤ k.ownerLeft ∧ k.epoch ≤ k'.epoch ∧ k'.safetyLeft ≤ k.safetyLeft ∧ k'.upkeepLeft ≤ k.upkeepLeft

/-- The register file in canonical form: keys strictly rising, no register listed at its reset word. -/
abbrev Regs.wf (r : Tab Word) : Bool := tabWf regReset r

/-- `t` differs from `s` in the areas `w` alone; the variant, the waiting commands and the canonical forms are kept. -/
structure Frame (w : Nat) (s t : State) : Prop where
  variant : t.variant = s.variant
  pending : t.pending = s.pending
  memWf : Memory.wf s.mem = true → Memory.wf t.mem = true
  regsWf : Regs.wf s.regs = true → Regs.wf t.regs = true
  regs : ∀ k, w.testBit (regKind k) = false → regRead t.regs k = regRead s.regs k
  spent : Keep.spent s.keep t.keep
  cfg : w.testBit Area.cfg.num = false → t.cfg = s.cfg
  board : w.testBit Area.board.num = false → t.board = s.board
  zld : w.testBit Area.zld.num = false → t.zld = s.zld
  keep : w.testBit Area.keep.num = false → t.keep = s.keep
  flash : w.testBit Area.flash.num = false → t.flash = s.flash
  boot : w.testBit Area.boot.num = false → t.boot = s.boot
  pace : w.testBit Area.pace.num = false → t.pace = s.pace
  cores : w.testBit Area.cores.num = false → t.cores = s.cores
  exec : w.testBit Area.exec.num = false → t.exec = s.exec
  route : w.testBit Area.route.num = false → t.route = s.route
  kv : w.testBit Area.kv.num = false → t.kv = s.kv
  lane : w.testBit Area.lane.num = false → t.lane = s.lane
  isp : w.testBit Area.isp.num = false → t.isp = s.isp
  ingest : w.testBit Area.ingest.num = false → t.ingest = s.ingest
  motion : w.testBit Area.motion.num = false → t.motion = s.motion
  fio : w.testBit Area.fio.num = false → t.fio = s.fio
  time : w.testBit Area.time.num = false → t.time = s.time
  peer : w.testBit Area.peer.num = false → t.peer = s.peer
  host : w.testBit Area.host.num = false → t.host = s.host
  safe : w.testBit Area.safe.num = false → t.safe = s.safe
  integ : w.testBit Area.integ.num = false → t.integ = s.integ
  power : w.testBit Area.power.num = false → t.power = s.power
  mem : w.testBit Area.mem.num = false → t.mem = s.mem
  clk : w.testBit Area.clk.num = false → t.clk = s.clk
  free : w.testBit Area.free.num = false → t.free = s.free
  recorder : w.testBit Area.recorder.num = false → t.recorder = s.recorder
  perf : w.testBit Area.perf.num = false → t.perf = s.perf
  replies : w.testBit Area.replies.num = false → t.replies = s.replies
  hiLatch : w.testBit Area.hiLatch.num = false → t.hiLatch = s.hiLatch
  msix : w.testBit Area.msix.num = false → t.msix = s.msix

end Sys2Proof.Machine
end

