-- ==== Sys2Proof/Safety.lean ====
section
/-! DEFINITION. The words in which the statements speak of a run of the block: the canonical form of its tables, the outputs of
the safe state, what a waymark leaves in the recorder, and when a word of a leg can complete. -/

namespace Sys2Proof.Machine

/-- In the safe state every field output and every safe output is off (R322, R379, R380). -/
def State.outputsOff (s : State) : Prop :=
  s.get F.FIO_OUT_STATE_on = 0 ∧ s.get F.SAFE_IO_outputs = 0 ∧ s.fio.pulseOut = 0

/-- While the module is in the safe state its outputs are off (R322, R379). -/
def State.safeMeansOff (s : State) : Prop := s.get F.SAFE_STATUS_state = safeSAFE → s.outputsOff

/-- The canonical form of the byte memory and of the register file. -/
def State.canonical (s : State) : Prop := Memory.wf s.mem = true ∧ tabWf regReset s.regs = true

/-- The parameters of a waymark. -/
def Waymark.carries (w : Waymark) (code : Nat) (ps : List Nat) : Prop := w.code = code ∧ (w.p1, w.p2, w.p3) = packParams ps

/-- The waymark of a code with its parameters is the newest of the front-end buffer, or its bucket holds it as the latest
suppressed (R422), or the buffer was full for it and the recorder holds that records were dropped (R419, R420). -/
def State.wrote (s : State) (code : Nat) (ps : List Nat) : Prop :=
  (∃ w, s.recorder.buffer.getLast? = some w ∧ w.carries code ps) ∨
  (∃ w, (s.bucket (code, limitParam code ps)).last = some w ∧ w.carries code ps) ∨
  s.recorder.dropBefore = true

/-- A response of the DOE mailbox (R90): the request's code with bit 7 set, the body's length, the request's tag, the body. -/
def doeResponse (code : Nat) (h : DoeHeader) (body : List Byte) : List Byte :=
  leBytes 2 (code ||| 0x80) ++ leBytes 2 body.length ++ leBytes 4 h.tag.toNat ++ body

/-- The ERROR response to request `req` with a status code. -/
def doeFailure (h : DoeHeader) (status req : Nat) : List Byte := doeResponse doeERROR h (leBytes 2 status ++ leBytes 2 req)

/-! ### Words of a leg (R156, R157, R168 to R171) -/

/-- The word `x` of the stream of `group`, of a class and an operation, can issue and complete on its core: the core issues words, the
leg of the group is not waiting for its replay, no word of the stream waits and no WAITT holds the scalar group, the word stands in no
loop without trips, it is a legal word of that class and operation in a group that takes the class, no consumer holds the buffer that
it would fill, and every token it waits for has arrived. -/
structure State.Ready (s : State) (x : Issue) (cls op group : Nat) : Prop where
  power : s.powered = true
  issues : s.issues x.core = true
  stream : x.group.val = group ∧ (classGroup cls).all (fun k => group == k) = true
  leg : ∀ g, s.legIn x.core group = some g → g.replayAt = none
  idle : s.streamStands x.core group = false
  trips : s.loopSkips x = false
  code : wClass x.word = cls ∧ wOp x.word = op ∧ wordLegal x.word = true
  free : s.producerHeld x.core x.word = false
  tokens : ∀ k ∈ tokensOf (wWait x.word), s.tokState x.core k = .ready

/-- No two legs in the sheets bear one number. -/
def State.legsApart (s : State) : Prop := (s.route.legs.map (fun g => g.id)).Nodup

/-- No SRAM line is damaged and no HBM line is poisoned: every read finds good bytes. -/
def State.clean (s : State) : Prop := s.integ.bad = [] ∧ s.integ.poison = []

/-- A scalar word that is ready. -/
def State.ScalarReady (s : State) (x : Issue) (op : Nat) : Prop := s.Ready x 0x5 op grpSCALAR

/-- The values of the scalar registers a word names: rs1, rs2 and rd. -/
def State.rs1 (s : State) (x : Issue) : BitVec 64 := BitVec.ofNat 64 (s.sreg x.core (wUnit x.word) (wRs1 x.word))
def State.rs2 (s : State) (x : Issue) : BitVec 64 := BitVec.ofNat 64 (s.sreg x.core (wUnit x.word) (wRs2 x.word))
def State.rdOld (s : State) (x : Issue) : BitVec 64 := BitVec.ofNat 64 (s.sreg x.core (wUnit x.word) (wRd x.word))

/-- From `s` to `t` a word wrote `v` to the register rd of its scalar unit, and no other scalar register of its core. -/
def State.tookRd (s t : State) (x : Issue) (v : BitVec 64) : Prop :=
  ∀ u r, u < 4 → r < 64 → t.sreg x.core u r =
    if u = wUnit x.word ∧ r = wRd x.word then v.toNat else s.sreg x.core u r

/-- The leg whose word `x` is, in a group, by its number. -/
def State.legOf (s : State) (x : Issue) (group : Nat) : Option Nat := (s.legIn x.core group).map (fun g => g.id)

/-- The state after the word took the tokens it waits for, and its leg its snapshot (R170, R209). -/
def State.took (s : State) (x : Issue) : State :=
  (s.each (tokensOf (wWait x.word)) (fun s k => s.takeToken x.core k)).holdGeneration (s.legOf x x.group)

/-- No token of core `c` is bound to a verge slot: its eight tokens are local. -/
def State.localTokens (s : State) (c : Nat) : Prop := ∀ k, s.vergeSlot c k = none

/-- From `s` to `t` the local tokens of `taken` were used up on core `c`, and then those of `fired` signalled. -/
def State.movedTokens (s t : State) (c taken fired : Nat) : Prop := ∀ k, k < 8 →
  (t.core c).tokens.testBit k = (fired.testBit k || ((s.core c).tokens.testBit k && !taken.testBit k))

/-- A word that signals no token left memory as it was. -/
def State.memKept (s t : State) (x : Issue) : Prop := wSignal x.word = 0 → t.mem = s.mem

/-- The lanes of a vector word's sets: those of its widest format, B's counted where `two`. -/
def setLanes (x : Issue) (two : Bool) : Nat :=
  lanesPerSet ([wFmtA x.word, wFmtD x.word] ++ if two then [wFmtB x.word] else [])

/-- The element codes of a vector word's operands: A, B, and the destination as it stands. -/
def State.lanesA (s : State) (x : Issue) (two : Bool) : List Nat :=
  s.laneCodes x.core (wUnit x.word) (wSrcA x.word) (wFmtA x.word) (wCount x.word) (setLanes x two)
def State.lanesB (s : State) (x : Issue) : List Nat :=
  s.laneCodes x.core (wUnit x.word) (wSrcB x.word) (wFmtB x.word) (wCount x.word) (setLanes x true)
def State.lanesD (s : State) (x : Issue) : List Nat :=
  s.laneCodes x.core (wUnit x.word) (wDst x.word) (wFmtD x.word) (wCount x.word) (setLanes x true)

/-- The numbers of lanes of A and of B. -/
def numA (x : Issue) (p : Nat) : Num := numOf (wFmtA x.word) p
def numB (x : Issue) (p : Nat) : Num := numOf (wFmtB x.word) p

/-- The code of a number in a vector word's destination. -/
def codeD (x : Issue) (v : Num) : Nat := numCode (wFmtD x.word) (wSat x.word) v

/-- The values of a conversion's source, the scale plane of a microscaling format at src_b (R150). -/
def State.converted (s : State) (x : Issue) : List FV :=
  codeValues (wFmtA x.word) (s.lanesA x false) (if isMxFmt (wFmtA x.word) then
    (s.rangeBytes (rawUnit x.core (wUnit x.word) (wSrcB x.word) (scaleCount (wCount x.word)))).map BitVec.toNat else [])

/-- A vector word that is ready, with no call on the engine pair, all of whose reads find good lines. -/
def State.VectorReady (s : State) (x : Issue) (op : Nat) : Prop :=
  s.Ready x 0x3 op grpVECTOR ∧ s.pairFree x.core = true ∧ s.clean

/-- From `s` to `t` a vector word wrote the codes to its destination and, where it signals no token, nothing else of memory; no
core changed but for the tokens of its own. -/
def State.tookLanes (s t : State) (x : Issue) (two : Bool) (cs : List Nat) : Prop :=
  (wSignal x.word = 0 →
    t.mem = (s.putLanes x.core (wUnit x.word) (wDst x.word) (wFmtD x.word) (setLanes x two) cs).mem) ∧
  ∀ c, { t.core c with tokens := 0 } = { s.core c with tokens := 0 }

/-- The rows of the accumulator bank that a drain or a save sees, with its bias. -/
def State.drained (s : State) (x : Issue) (bias : Bool) : List (Nat × Nat × Bool × Int × AccCell) :=
  drainCells (s.core x.core) bias (wSrcA x.word) (wCount x.word)

/-- S of a drained cell as ACC80 holds it: that of an FP32-mode row is free (log entry 110). -/
def savedS (d : Nat × Nat × Bool × Int × AccCell) : Int :=
  if d.2.2.1 then toSigned 80 (Config.rawCell (BitVec.ofNat 32 d.2.2.2.2.fp)).toNat else d.2.2.2.2.s

/-- The tile status of drained cells. -/
def tileStatus (l : List (Nat × Nat × Bool × Int × AccCell)) : TileStatus :=
  l.foldl (fun t d => t.count d.2.2.2.2 d.1 d.2.1) status0

/-- The cell that an ACC80 element restores. -/
def restoredCell (v : Nat) : AccCell :=
  { cell0 with s := accS v, breach := accBreach v, nonfinite := accNonfinite v, coarse := accCoarse v }

/-- From `s` to `t` a matrix word left bank rows outside `[r, r + n)` of its core as they were, with their anchors and modes. -/
def State.rowsKept (s t : State) (x : Issue) (r n : Nat) : Prop :=
  ∀ k, (k < r ∨ r + n ≤ k) → (t.core x.core).row k = (s.core x.core).row k ∧
    (t.core x.core).rowMode k = (s.core x.core).rowMode k

/-! ### Calls (R182, R189, R192, R217, R398) -/

/-- From `s` to `t` a word started call `k` on its core: the call is the last of those in flight, its ticks end at the pace in force,
and memory is as it was. -/
def State.started (s t : State) (x : Issue) (k : Call) : Prop :=
  (t.core x.core).calls = (s.core x.core).calls ++
    [{ k with endAt := s.clk.now * 5000 + k.ticks * s.get F.PACE_STATUS_pace }] ∧ t.mem = s.mem

/-- A call names what its word says: kind, operation, signal tokens and the leg. -/
def Call.isOf (k : Call) (s : State) (x : Issue) (kind op group : Nat) : Prop :=
  k.kind = kind ∧ k.op = op ∧ k.signal = wSignal x.word ∧ k.leg = s.legOf x group

/-- The descriptor of an irregular word, and its locations. -/
def State.irrOf (s : State) (x : Issue) : IrrDesc := irrDesc (s.descriptor x.core x.word)
def State.irrLoc (s : State) (x : Issue) (i : Nat) : Nat := s.locAddr x.core ((s.irrOf x).locs.getD i 0)

/-- An irregular word that is ready, with a free engine pair and a descriptor within the limits of its operation, all of whose reads
find good lines. -/
def State.IrregReady (s : State) (x : Issue) (op : Nat) : Prop :=
  s.Ready x 0x4 op grpVECTOR ∧ s.pairFree x.core = true ∧ s.clean ∧ (s.irrOf x).legal op = true

/-- From `s` to `t` an irregular word started the call that writes `o`: its planes, the count where it produces a set, and the
status record, with the codes of its flags. -/
def State.startedIrreg (s t : State) (x : Issue) (op : Nat) (o : IrrOut) : Prop :=
  ∃ k : Call, s.started t x k ∧ k.isOf s x callIRREG op grpVECTOR ∧ k.codes = o.codes op ∧
    k.writes = o.planes ++ (match o.count with | some n => [((s.took x).irrLoc x 3, leBytes 4 n)] | none => []) ++
      [((s.took x).irrLoc x 7, o.status (s.irrOf x).slot)]

/-- A word that names a descriptor alone, ready in the transfer group, all of whose reads find good lines. -/
def State.DescReady (s : State) (x : Issue) (cls op : Nat) : Prop := s.Ready x cls op grpTRANSFER ∧ s.clean

/-- An ERUN, PRUN or WRUN word that is ready, whose engine serves no other call (R185, R188, R189). -/
def State.CallReady (s : State) (x : Issue) (cls call eng : Nat) : Prop :=
  s.DescReady x cls 0x01 ∧ s.engineFree call (s.engineOf x.core eng (s.legId x.core x.group)) = true

/-- Tokens that a page holds in the program of a walk word's leg (R204). -/
def State.walkTokens (s : State) (c : Nat) (id : Option Nat) : Nat :=
  s.pageTokens (s.corePart c) id

/-- The check descriptor of a word, and its locations. -/
def State.checkOf (s : State) (x : Issue) : CheckDesc := checkDesc (s.descriptor x.core x.word)
def State.checkLoc (s : State) (x : Issue) (i : Nat) : Nat := s.locAddr x.core ((s.checkOf x).locs.getD i 0)

/-- A check call before its operation: its kind, operation, signal tokens, leg and the batch slot it touches. -/
def State.checkCall (s : State) (x : Issue) (op : Nat) : Call :=
  { call0 callCHECK op (wSignal x.word) (s.legOf x grpTRANSFER) with
    slots := if (s.checkOf x).slot = 0xFFFF then none else some [(s.checkOf x).slot] }

/-- A check word that is ready, with a legal descriptor, while the check unit of its core is free (R398). -/
def State.CheckReady (s : State) (x : Issue) (op : Nat) : Prop :=
  s.DescReady x 0xC op ∧ (s.core x.core).calls.any (fun k => k.kind == callCHECK) = false ∧ (s.checkOf x).legal op = true

/-- The call of some kinds in flight on a core whose ticks elapse first, the oldest of equals, with its place. -/
def State.firstCall (s : State) (c : Nat) (kinds : List Nat) (i : Nat) (k : Call) : Prop :=
  (s.core c).calls[i]? = some k ∧ k.kind ∈ kinds ∧ ∀ (j : Nat) (y : Call), (s.core c).calls[j]? = some y → y.kind ∈ kinds →
    k.endAt ≤ y.endAt ∧ (j < i → k.endAt < y.endAt)

/-- From `s` to `t` call `k`, the `i`-th on core `c`, which meets no policy, ended: it is in flight no more, its outputs are
written, and its tokens are signalled. -/
def State.endedCall (s t : State) (c i : Nat) (k : Call) : Prop :=
  (t.core c).calls = (s.core c).calls.eraseIdx i ∧ (k.signal = 0 → t.mem = (s.storeAll k.writes).mem) ∧
    (k.leg = none → s.localTokens c → s.movedTokens t c 0 k.signal)

/-! ### Packets of a camera lane (R262, R269) -/

/-- The packet of a kind passes the checks of an UP lane: its sync headers, length and CRC are good, the bridge took it, and its
stream is configured. -/
def State.goodPacket (s : State) (n kind : Nat) (p : Packet) : Prop :=
  s.laneState n = laneUP ∧ p.badSync = false ∧ p.length ≤ 4096 ∧ p.data.length ≤ (p.length + 7) / 8 * 8 ∧
    p.crc.toNat = packetCrc n p.stream p.seq (leBytes 8 p.head.toNat) p.data ∧ p.bridgeFull = false ∧ p.kind = kind ∧
    s.laneCtx n p.stream ≠ none

/-! ### PTP messages (Table TIME-2) -/

/-- A message that Table TIME-2 does not discard: the port's receive island is enabled (R93), the bridge took it, its domain, version and length are good, and its source has
sent at most 1,024 in the present second. -/
def State.goodMessage (s : State) (tp : Nat) (m : Ptp) : Prop :=
  s.island (108 + 2 * tp) = true ∧ m.bridgeFull = false ∧ m.domain = s.cfg.structureSec.domain ∧ m.version = 2 ∧ m.claimed ≤ m.length ∧
    (s.countMessage tp m.source).1 ≤ 1024

/-- From `s` to `t` a message was a violation of a kind on a port: counted and written. -/
def State.violated (s t : State) (tp cause kind : Nat) : Prop :=
  t.get (F.TIME_PTP_CNT_violations tp) = min (s.get (F.TIME_PTP_CNT_violations tp) + 1) 65535 ∧
    t.wrote Code.PTP_VIOLATION [tp, cause, kind]

/-- From `s` to `t` the servo measured an offset. -/
def State.measured (t : State) (off : Int) : Prop :=
  t.time.offset = off ∧ t.time.measured = true ∧ t.get F.TIME_OFFSET_ns = ofSigned 32 off

/-! ### Neighbours (R339, R340) -/

/-- A peer HELLO that names the neighbour the peer table expects, in its place, and not this module. -/
def State.goodHello (s : State) (k : Nat) (h : Hello) : Prop :=
  (s.peerCfg k).expected = true ∧ h.node.toNat = (s.peerCfg k).node ∧ h.node.toNat ≠ s.cfg.structureSec.nodeId ∧
    (h.position.toNat : Int) = s.neighbourPosition k

/-- A packet on an enabled lane of an UP side whose CRC is good and that the bridge took. -/
def State.peerHears (s : State) (k : Nat) (h : PeerHead) : Prop :=
  s.sideUp k = true ∧ s.peerLane k h.lane = true ∧ h.bridgeFull = false ∧ h.sound k = true

/-- A packet that the side takes: heard, the next of the sequence, and within the credit it granted. -/
def State.peerTakes (s : State) (k : Nat) (h : PeerHead) : Prop :=
  s.peerHears k h ∧ h.seq.toNat = (s.side k).rxNext ∧ (s.side k).granted ≠ 0

/-- From `s` to `t` the side took a packet: it counts the sequence on, and answers with ACK and one credit. -/
def State.tookPacket (s t : State) (k : Nat) (h : PeerHead) : Prop :=
  (t.side k).rxNext = ((s.side k).rxNext + 1) % 65536 ∧
    t.peer.out = s.peer.out ++ [(k, none, none, .ack h.seq.toNat), (k, none, none, .credit 1)]

/-- From `s` to `t` the side refused a packet with NAK for a reason of Table PEER-3: it stays where it was in the sequence. -/
def State.nakked (s t : State) (k reason : Nat) : Prop :=
  t.side k = s.side k ∧ t.peer.out = s.peer.out ++ [(k, none, none, .nak (s.side k).rxNext)] ∧
    t.get (F.PEER_RESEND_naks k) = min (s.get (F.PEER_RESEND_naks k) + 1) 65535 ∧ t.wrote Code.PEER_VIOLATION [k, reason]

/-- The contribution that a record of Table PEER-2 holds. -/
def contribOf (r : List Byte) : Contrib :=
  { key := recField r 0 8, seam := recField r 8 2, verdict := recField r 10 1, cause := recField r 11 1
    node := recField r 12 3 % 2 ^ 18, digest := digestOf ((r.drop 16).take 32) }

/-- The record breaks Table PEER-2: a reserved bit is set, or its verdict is none of the three. -/
def contribBad (r : List Byte) : Prop :=
  2 ^ 18 ≤ recField r 12 3 ∨ recField r 15 1 ≠ 0 ∨ recField r 56 8 ≠ 0 ∨ recField r 10 1 = 0 ∨ 3 < recField r 10 1

/-! ### Submission rings (R354, R355, Tables HOST-8, HOST-9) -/

/-- The completion entry of a ring's next completion (Table HOST-9). -/
def State.cqEntry (s : State) (i r tag status op landing : Nat) : HostWrite :=
  let n := tget 0 s.host.completed (4 * i + r)
  let size := 2 ^ s.get (F.HOST_SQ_CFG_size i r)
  { port := i, addr := s.get64 (F.HOST_CQ_LO_addr i r) (F.HOST_CQ_HI_addr i r) + 16 * (n % size)
    bytes := leBytes 4 tag ++ leBytes 2 status ++ leBytes 1 op ++ [0] ++ leBytes 4 landing ++ [0, 0] ++
      leBytes 1 (1 - n / size % 2) ++ [0xA5] }

/-- The partition a ring is bound to. -/
def State.ringPart (s : State) (i r : Nat) : Nat := s.get (F.HOST_SQ_CFG_partition i r)

/-- A descriptor of an operation can start: the ring runs with nothing outstanding, the descriptor keeps Table HOST-8, and a
SERVICE port asks only for COPY_OUT or FENCE. -/
def State.sqReady (s : State) (i : Port) (r : Fin 4) (op : Nat) (d : List Byte) : Prop :=
  s.ringNext i r = true ∧ recField d 0 1 = op ∧ badField (s.reach (s.ringPart i r)) d = none ∧
    (s.role i ≠ roleSERVICE ∨ op = sqCOPYOUT ∨ op = sqFENCE)

/-- The head of a ring moved on by one. -/
def State.headMoved (s t : State) (i : Port) (r : Fin 4) : Prop :=
  t.get (F.HOST_SQ_HEAD_pos i r) = (s.get (F.HOST_SQ_HEAD_pos i r) + 1) % 2 ^ 32

/-- The bytes that end a COPY_IN of `n` bytes: those that came, and 0 beyond them. -/
def copyData (bs : List Byte) (n : Nat) : List Byte := (bs ++ List.replicate n 0).take n

/-! ### The safety checker (R368, R380) -/

/-- The module is in the safe state, entered with a cause, and its outputs are off. -/
def State.safeWith (t : State) (code : Nat) : Prop :=
  t.get F.SAFE_STATUS_state = safeSAFE ∧ t.get F.SAFE_CAUSE_code = code ∧ t.outputsOff

/-- The part that a tag names last has one arm, `u`, and it is the tag's only open one (R315). -/
def State.oneArm (s : State) (p tag : Nat) (u : Subject) : Prop :=
  s.openSubjects p tag = [u] ∧
    lastPart [] (s.host.subjects.filter (fun z => z.kind == 1 && z.part == p && z.tag == tag)) = [u]

/-- The one open arm of a tag: subject `u` with its ARMED entry `e` at key `k`. -/
def State.armedOnce (s : State) (p tag k : Nat) (u : Subject) (e : Milepost) : Prop :=
  s.oneArm p tag u ∧ u.key = some k ∧ tfind s.motion.entries k = some e ∧ e.state = 1 ∧ e.tag = u.tag ∧ e.part = u.part ∧
    ∀ x ∈ s.due (k / 4096), x.1 ≠ k

/-- Partition `p`'s record passes: the module is not in the safe state, and no check of R368 fails it. -/
def State.passes (s : State) (p : Nat) (v : VerdictIn) : Prop :=
  s.isSafe = false ∧ checkRecord p v.record = none ∧ s.lostIn v.record = none ∧ s.checksOf p v = none

/-- Partition `p`'s record fails check `n` of R368. -/
def State.failsAt (s : State) (p : Nat) (v : VerdictIn) (n : Nat) : Prop :=
  s.isSafe = false ∧ ((checkRecord p v.record ≠ none ∧ n = 1) ∨
    (checkRecord p v.record = none ∧ s.lostIn v.record = none ∧ ∃ x, s.checksOf p v = some (n, x)))

/-- Nothing in force turns a passing record to INVALID: no watchdog's or golden frame's reaction, and an open road (R22, R371, R376). -/
def State.roadFree (s : State) (p : Nat) (r : List Byte) : Prop :=
  s.blockedBy p ((stations r).map (fun e => e.1)) = none ∧ s.roadClosed p ((stations r).map (fun e => e.1)) = none

/-- Failed judgements of a check set within the last second (R370). -/
def State.failsNow (s : State) (p : Nat) : Nat :=
  (s.safe.fails.filter (fun e => e.1 == p && decide (s.clk.now < e.2 + samplesPerS))).length

/-- From `s` to `t` the guard counter and stamp of a record are the previous ones of its ring. -/
def State.sawRecord (t : State) (p : Nat) (r : List Byte) : Prop :=
  t.get (F.SAFE_JUDGE_SEQ_counter p) = recField r 8 4 ∧ tfind t.safe.prevStamp p = some (toSigned 64 (recField r 12 8))

/-- A watchdog acts on a miss: it is armed, not paused, and watches a unit that is fitted. -/
def State.watches (s : State) (w : Nat) (g : WatchdogCfg) (early : Bool) : Prop :=
  s.cfg.safety.watchdogs[w]? = some g ∧ s.on (F.SAFE_WDOG_armed w) = true ∧
    (g.kind = wdCONTEXT → early = true ∨ s.triggerPaused g.target = false) ∧ (g.kind = wdMILEPOST → s.hasField = true)

/-- From `s` to `t` test item `k` completed a run that passed or failed. -/
def State.tested (s t : State) (k : Nat) (failed : Bool) : Prop :=
  t.get (F.SAFE_TEST_completions k) = min (s.get (F.SAFE_TEST_completions k) + 1) 65535 ∧
    t.get (F.SAFE_TEST_failed k) = bit failed ∧ t.get (F.SAFE_TEST_overdue k) = 0

/-! ### Scrubbing, the recorder and the registers (R395, R397, R417, R434) -/

/-- The error that a read of the line at `a` meets: the one it brings, or the one that stands there. -/
def State.errorAt (s : State) (a : Nat) (found : Option BadLine) : Option BadLine := found.or (tfind s.integ.bad (a / 64))

/-- No error of the unit and bank at `a` is on record. -/
def State.noErrors (s : State) (a : Nat) : Prop :=
  tget [] s.cores.corr (memUnit a) = [] ∧ tget [] s.cores.uncorr (memUnit a) = [] ∧
    tget [] s.cores.banks (8 * memUnit a + memBank a) = [] ∧ tget [] s.cores.banks (64 + memBank a) = []

/-- The three copies of a triplicated word agree. -/
def State.tripAgree (s : State) (w : Nat) : Prop :=
  s.get (F.INTEG_TRIP_COPY_word 0 w) = s.get (F.INTEG_TRIP_COPY_word 1 w) ∧
    s.get (F.INTEG_TRIP_COPY_word 1 w) = s.get (F.INTEG_TRIP_COPY_word 2 w)

/-- The read of port `i` is answered with `v`. -/
def State.answered (t : State) (i : Port) (v : Word) : Prop := tget .none t.replies i.val = .data v

/-- The window of port `i` shows state `st` and the words of a record, of which it read the first (R423). -/
def State.readWindow (t : State) (i : Port) (st : Nat) (ws : List Nat) : Prop :=
  t.get (F.WAYM_READ_STATE_state i) = st ∧ (∀ k, k < 8 → t.get (F.WAYM_READ_DATA_word i k) = ws.getD k 0 % 2 ^ 32) ∧
    t.answered i (BitVec.ofNat 32 (ws.getD 0 0))

/-! ### What a command may touch -/

/-- The output pins and their readbacks, which follow the state after every command. -/
def outputAreas : List Area :=
   [.fio, .reg F.FIO_STATUS_field_low.key, .reg F.FIO_OUT_STATE_on.key, .reg F.SAFE_IO_outputs.key]

/-- What a waymark and a vector touch: the recorder, its counts and the vectors fired. -/
def markAreas : List Area :=
   [.recorder, .msix, .reg F.WAYM_STATUS_frozen.key, .reg F.WAYM_DROPPED_count.key, .reg F.WAYM_SUPPRESSED_count.key]

/-- Line `l` of a memory kind lies in the SRAM of a failed core, which is never read again (R124). -/
def State.failedSram (s : State) (kind l : Nat) : Prop := kind = memCORE ∧ s.coreRole (l / 131072) = coreFAILED

/-- What an entry into the safe state touches. -/
def safeAreas : List Area :=
   [.motion, .safe, .reg (F.MOT_CH_MP_armed 0).key, .reg F.SAFE_STATUS_state.key, .reg F.SAFE_CAUSE_code.key,
    .reg F.SAFE_MSG_counter.key]

/-- What a word of a leg may touch: its core and its leg, and what the end of the leg's iteration or the failure of its core
touches. -/
def wordAreas : List Area :=
   [.cfg, .zld, .cores, .exec, .route, .kv, .motion, .host, .integ, .mem, .free, .perf,
    .reg F.ROUTE_STATUS_builder_running.key, .reg (F.ROUTE_PART_criticality 0).key, .reg (F.ROUTE_PAGES_held 0).key,
    .reg (F.ROUTE_JOB_state 0).key, .reg (F.ROUTE_SLOWDOWN_slowdown 0).key, .reg (F.ROUTE_BASELINE_ns 0).key,
    .reg (F.ROUTE_ITER_count 0).key, .reg (F.HOST_RES_DROP_count 0 0).key, .reg (F.HOST_RES_STATE_ack_reason 0 0).key,
    .reg F.KV_STATUS_pool_total.key, .reg (F.KV_POOL_pages 0).key, .reg (F.KV_FREE_pages 0).key,
    .reg (F.KV_CHARGE_pages 0).key, .reg (F.KV_LIMBO_pages 0).key, .reg (F.KV_GEN_current 0).key,
    .reg (F.KV_GEN_HELD_oldest 0).key, .reg (F.KV_SEQ_live 0).key, .reg (F.KV_WAIT_joins 0).key,
    .reg (F.MOT_CH_MP_armed 0).key, .reg (F.MOT_CH_FIRED_count 0).key, .reg (F.MOT_CH_CANCELLED_count 0).key,
    .reg (F.MOT_CH_LATE_count 0).key, .reg (F.MOT_CH_SUPPRESSED_count 0).key, .reg F.INTEG_HBM_poisoned.key,
    .reg (F.PERF_COUNT_LO_count 0 0).key, .reg (F.PERF_COUNT_HI_count 0 0).key,
    .reg (F.PERF_TAG_COUNT_taken 0).key, .reg (F.PERF_TAG_A_offset 0 0).key, .reg (F.PERF_TAG_B_issue 0 0).key,
    .reg (F.PERF_TAG_C_complete 0 0).key, .reg (F.PERF_TAG_D_waited 0 0).key, .reg (F.CORE_ID_physical 0).key,
    .reg (F.CORE_STATUS_partition 0).key, .reg (F.CORE_FAIL_cause 0).key, .reg (F.CORE_CLUSTER_spare_left 0).key]

/-- What a word that reads operands from a memory may touch beside that: the record of the lines it finds damaged. -/
def operandAreas : List Area :=
   [.safe, .reg F.SAFE_STATUS_state.key, .reg F.SAFE_CAUSE_code.key, .reg F.SAFE_MSG_counter.key,
    .reg (F.INTEG_ERR_CORR_count 0).key, .reg (F.INTEG_ERR_UNCORR_count 0).key, .reg (F.INTEG_ERR_RETRY_refetches 0).key,
    .reg F.INTEG_CAP_LOC_kind.key, .reg F.INTEG_CAP_ADDR_line.key, .reg F.INTEG_CAP_CRC_value.key,
    .reg (F.INTEG_CAP_DATA_word 0).key, .reg (F.INTEG_CAP_CHECK_word 0).key, .reg (F.CORE_SRAM_ERR_corrected 0).key]

/-- Command `c` touches the areas of the lists `ls`, the outputs, and nothing else. -/
def touches (c : Instr) (ls : List (List Area)) : Prop :=
  ∀ s t : State, exec c s = .next t → Frame (areas (ls.flatten ++ outputAreas)) s t

/-- What a scalar word touches that can issue: its core, its leg with the KV registers that show the generation it holds, the slots of
the tokens it signals, and the observers. -/
def wordOnly : List Area :=
   [.exec, .route, .integ, .mem, .free, .perf, .reg F.KV_STATUS_pool_total.key, .reg (F.KV_POOL_pages 0).key,
    .reg (F.KV_FREE_pages 0).key, .reg (F.KV_CHARGE_pages 0).key, .reg (F.KV_LIMBO_pages 0).key,
    .reg (F.KV_GEN_HELD_oldest 0).key, .reg (F.KV_SEQ_live 0).key, .reg (F.KV_WAIT_joins 0).key,
    .reg F.INTEG_HBM_poisoned.key, .reg (F.PERF_COUNT_LO_count 0 0).key,
    .reg (F.PERF_COUNT_HI_count 0 0).key, .reg (F.PERF_TAG_COUNT_taken 0).key, .reg (F.PERF_TAG_A_offset 0 0).key,
    .reg (F.PERF_TAG_B_issue 0 0).key, .reg (F.PERF_TAG_C_complete 0 0).key, .reg (F.PERF_TAG_D_waited 0 0).key]

/-- The ready ports whose WAYM_IRQ is enabled and asks for severity `sev` (R425). -/
def State.askedFor (s : State) (sev : Nat) : List Nat :=
  [0, 1, 2, 3].filter (fun i =>
    tget false s.host.ready i && s.on (F.WAYM_IRQ_enable i) && decide (s.get (F.WAYM_IRQ_min_severity i) ≤ sev))

/-- The safe outputs: a channel is energised only while the checker is in RECOVERY or RUN, no mapped input demands, and
FIELD-PWR is in range (R379). -/
def State.safeOutputsHold (s : State) : Prop :=
  ∀ o ch : Nat, o < 2 → ch < 2 → (s.get F.SAFE_IO_outputs).testBit (2 * o + ch) = true →
    (s.get F.SAFE_STATUS_state = safeRECOVERY ∨ s.get F.SAFE_STATUS_state = safeRUN) ∧ s.outDemand o = false ∧
      s.fieldLow = false

end Sys2Proof.Machine
end

