-- ==== Sys2Proof/Certificates/Slice0/Obligations.lean ====
section
/-! DEFINITION. The statements for the provers: what the commands of each family do, what they leave, and what every step keeps. -/

section Statements

open Sys2Proof Sys2Proof.Machine

/-- R442 and the Reset columns of the register tables. Power off at reset is the model's choice (see log entry 1). -/
def Obligations.ResetState : Prop :=
  (State.reset.power = .off ∧ State.reset.pending = [] ∧ State.reset.mem = [] ∧ State.reset.regs = []) ∧
  (∀ k : Nat, regRead State.reset.regs k = regReset k) ∧
  (State.reset.keep.ownerLeft = 8 ∧ State.reset.keep.epoch = 0 ∧ State.reset.keep.safetyLeft = 32 ∧ State.reset.keep.upkeepLeft = 64 ∧ State.reset.keep.owner = none) ∧
  (State.reset.canonical ∧ State.reset.outputsOff ∧ State.reset.safeMeansOff ∧ State.reset.safeOutputsHold) ∧
  (State.reset.get F.ZLD_STATUS_state = zldIDLE) ∧
  (State.reset.get F.ZLD_LANDED_target = 15) ∧
  (State.reset.get F.KEEP_STATUS_owned = 0) ∧
  (State.reset.get F.PACE_STATUS_pace = 1000) ∧
  (State.reset.get F.PACE_STATUS_planned_pace = 1000) ∧
  (State.reset.get F.PACE_PERIOD_us = 100) ∧
  (State.reset.get F.PACE_TABLE0_rated_pace = 1000) ∧
  (State.reset.get F.PACE_TABLE0_pace_ceiling = 2000) ∧
  (State.reset.get F.PACE_TABLE0_guard = 60) ∧
  (State.reset.get F.PACE_TABLE1_pace_step = 10) ∧
  (State.reset.get F.PACE_TABLE1_v_step = 10) ∧
  (State.reset.get F.PACE_TABLE1_v_ceiling = 850) ∧
  (State.reset.get F.PACE_TABLE1_horizon = 30) ∧
  (State.reset.get F.TIME_STATUS_valid = 0) ∧
  (State.reset.get F.TIME_JUMP_ns = 1000) ∧
  (State.reset.get F.TIME_SLEW_ppm = 10) ∧
  (State.reset.get F.SAFE_STATUS_state = safeSTART) ∧
  (State.reset.get F.SAFE_DTI_ms = 100) ∧
  (State.reset.get F.INTEG_SCRUB_LIMIT_s = 3600) ∧
  (State.reset.get F.WAYM_BUDGET_tokens = 100000) ∧
  (State.reset.get F.WAYM_HEAD_SEQ_seq = 0) ∧
  (State.reset.get F.PERF_TAG_CFG_log2 = 16) ∧
  (∀ p : Nat, State.reset.get (F.CORE_ID_logical p) = 63) ∧
  (∀ p : Nat, State.reset.get (F.KV_GEN_current p) = 1) ∧
  (∀ p : Nat, State.reset.get (F.KV_GEN_HELD_oldest p) = 1) ∧
  (∀ p : Nat, State.reset.get (F.ROUTE_SLOWDOWN_slowdown p) = 0xFFFF) ∧
  (∀ p : Nat, State.reset.get (F.ROUTE_SLOWDOWN_limit p) = 0) ∧
  (∀ p : Nat, State.reset.get (F.LANE_RETRY_limit p) = 2) ∧
  (∀ p : Nat, State.reset.get (F.ISP_CTX_STATS_frame p) = 0xFFFFFFFF) ∧
  (∀ p : Nat, State.reset.get (F.INGEST_Q_LIMITS_stale_ms p) = 100) ∧
  (∀ p : Nat, State.reset.get (F.INGEST_Q_LIMITS_timeout_us p) = 10000) ∧
  (∀ p : Nat, State.reset.get (F.WAYM_IRQ_min_severity p) = 2) ∧
  (∀ p : Nat, State.reset.get (F.WAYM_IRQ_enable p) = 0) ∧
  (∀ p : Nat, State.reset.get (F.PERF_BW_CFG_window_ms p) = 1000) ∧
  (∀ p : Nat, State.reset.get (F.MOT_CH_FIRED_count p) = 0) ∧
  (∀ p : Nat, State.reset.get (F.SAFE_JUDGE_PASS_count p) = 0)

/-- Commands are taken in order (R436). What a step does on an empty queue, a word whose wait is over first, else a sample of the clock with the
speeds and the filtered inputs that it ends (R310, R318, R325), is the model's choice (see log entry 3). -/
def Obligations.StepRunsTheFrontCommand : Prop :=
  (∀ (c : Instr) (s : State) (q : List Instr), step { s with pending := c :: q } = exec c { s with pending := q }) ∧
  (∀ s : State, s.pending = [] → s.powered = true → (∀ c, (s.core c).held = []) → ∃ t, step s = .next t ∧
    t.clk = s.clk.tick (toSigned 32 (s.get F.TIME_FREQ_ppb)) ∧ t.clk.now = s.clk.now + 1 ∧
    t = { s with clk := t.clk, fio := t.fio, regs := t.regs } ∧
    (s.fio.settle = [] → (∀ n < 8, s.get (F.MOT_CH_STATUS_speed_state n) = 0) → t = { s with clk := t.clk })) ∧
  (∀ s t : State, s.pending = [] → s.powered = true → s.issueHeld = some t → step s = .next t) ∧
  (∀ s : State, s.pending = [] → s.power = .bootRom → step s = .next { s with clk := s.clk.tick 0 }) ∧
  (∀ s : State, s.pending = [] → s.power = .off ∨ s.power = .offOverVoltage → step s = .next s)

/-- R34, R37, R38, R59, R75, R80, R81 (the power-loss sequence's effect on the images and the boot ROM's choice of slot included). -/
def Obligations.SupplyAndStartCommands : Prop :=
  (∀ (s : State) (r : BootReport), s.power = .off ∨ s.power = .offOverVoltage → ∃ t, exec (.powerUp r) s = .next t ∧
    let u := s.readKeep r.torn
    t.keep.cycles = min (u.keep.cycles + 1) (2 ^ 24 - 1) ∧ t.get F.KEEP_POWER_CYCLES_count = t.keep.cycles ∧
    (u.firmwareSlot r.tries = none → t.power = .bootRom) ∧ (u.firmwareSlot r.tries ≠ none → t.power = .on)) ∧
  (∀ (s : State) (r : BootReport), s.power = .on ∨ s.power = .bootRom → exec (.powerUp r) s = .next s) ∧
  (∀ (s : State) (r : BootReport), s.power = .offOverVoltage → ∃ t, exec (.overvoltageRestart r) s = .next t ∧
    let u := s.readKeep r.torn
    t.keep.cycles = min (u.keep.cycles + 1) (2 ^ 24 - 1) ∧ t.get F.KEEP_POWER_CYCLES_count = t.keep.cycles ∧
    (u.firmwareSlot r.tries = none → t.power = .bootRom) ∧ (u.firmwareSlot r.tries ≠ none → t.power = .on)) ∧
  (∀ (s : State) (r : BootReport), s.power ≠ .offOverVoltage → exec (.overvoltageRestart r) s = .next s) ∧
  (∀ (s : State) (i : Port) (r : BootReport), s.powered = true → s.privileged i = true → ∃ t,
    exec (.restart i r) s = .next t ∧ t.power = .on ∧ t.mem = State.reset.mem ∧ t.route = State.reset.route ∧
    t.exec = State.reset.exec ∧ t.keep.cycles = (s.readKeep r.torn).keep.cycles) ∧
  (∀ (s : State) (i : Port) (r : BootReport), s.powered = true → s.privileged i = false → ∃ t,
    exec (.restart i r) s = .next t ∧ t.mem = s.mem ∧ t.route = s.route ∧ t.exec = s.exec ∧
    t.get (F.ZLD_RESULT_code i) = Code.ZLD_ROLE) ∧
  (∀ (s : State) (v : BitVec 16), s.power = .on ∨ s.power = .bootRom → ∃ t, exec (.brownOut v) s = .next t ∧ t.power = .off ∧
    t.keep.owner = s.keep.owner ∧ t.keep.full = s.keep.full ∧ t.flash.full = s.flash.full ∧ t.flash.fw = s.flash.fw ∧
    t.regs = State.reset.regs) ∧
  (∀ (s : State) (v : BitVec 16), s.power = .on ∨ s.power = .bootRom → ∃ t, exec (.overVoltage v) s = .next t ∧
    t.power = .offOverVoltage ∧ t.keep.owner = s.keep.owner ∧ t.keep.full = s.keep.full ∧ t.flash.full = s.flash.full ∧
    t.flash.fw = s.flash.fw ∧ t.regs = State.reset.regs)

/-- R27, R31, R35, R36, R44, R75, Tables HW-15 to HW-21. -/
def Obligations.SupplyAndCageReports : Prop :=
  (∀ (s : State) (us : Fin 1000), s.powered = true → ∃ t, exec (.supplyDip us) s = .next t ∧
    t.get F.CAP_BOARD_STATUS_dip_seen = 1 ∧ t.wrote Code.SUPPLY_DIP [us] ∧ t.power = s.power) ∧
  (∀ (s : State) (v : BitVec 16), s.powered = true → s.hasField = true → s.fieldLow = false → ∃ t,
    exec (.fieldSupplyLow v) s = .next t ∧ t.get F.CAP_BOARD_STATUS_field_low = 1 ∧ t.get F.FIO_STATUS_field_low = 1 ∧
    t.get F.FIO_IN_state = 0 ∧ t.get F.SAFE_STATUS_state = safeSAFE ∧ t.outputsOff) ∧
  (∀ (s : State) (v : BitVec 16) (levels : Word), s.powered = true → s.hasField = true → s.fieldLow = true → ∃ t,
    exec (.fieldSupplyReturn v levels) s = .next t ∧ t.get F.CAP_BOARD_STATUS_field_low = 0 ∧
    t.get F.FIO_STATUS_field_low = 0 ∧ (s.island 120 = false → t.get F.FIO_IN_state = s.get F.FIO_IN_state) ∧
    (s.island 120 = true → ∀ i < 32,
      ((s.inCfg i).filterUs = 0 → (t.get F.FIO_IN_state).testBit i = levels.getLsbD i) ∧
      ((s.inCfg i).filterUs ≠ 0 → (t.get F.FIO_IN_state).testBit i = (s.get F.FIO_IN_state).testBit i ∧
        (i, s.clk.now + 200 * (s.inCfg i).filterUs, levels.getLsbD i) ∈ t.fio.settle))) ∧
  (∀ (s : State) (g : Fin 4) (low : Bool) (v : BitVec 16), s.powered = true → s.hasField = true → s.groupLow g = !low →
    ∃ t, exec (.groupSupplyLow g low v) s = .next t ∧ t.groupLow g = low ∧
    (t.get F.FIO_STATUS_group_low).testBit g = low ∧ t.wrote Code.GROUP_SUPPLY_LOW [g, v.toNat, bit (!low)]) ∧
  (∀ (s : State) (n : ChanId) (pin24 : Bool), s.powered = true → s.hasField = true →
    2 * n.val + bit pin24 ∉ s.board.encShort → ∃ t, exec (.encSupplyFault n pin24) s = .next t ∧
    t.board.encShort = s.board.encShort ++ [2 * n.val + bit pin24]) ∧
  (∀ (s : State) (n : ChanId) (pin24 : Bool), s.powered = true → ∃ t, exec (.encSupplyRestored n pin24) s = .next t ∧
    2 * n.val + bit pin24 ∉ t.board.encShort ∧
    ((t.chan n).supply = true ↔ 2 * n.val ∈ t.board.encShort ∨ 2 * n.val + 1 ∈ t.board.encShort)) ∧
  (∀ (s : State) (cage : Fin 12) (inserted : Bool), s.powered = true → ∃ t, exec (.cageChange cage inserted) s = .next t ∧
    (cage.val < 8 → (t.get F.CAP_BOARD_STATUS_cage_present).testBit cage = inserted) ∧
    (8 ≤ cage.val → cage.val < 10 → (t.get F.CAP_BOARD_STATUS_peer_present).testBit (cage - 8) = inserted) ∧
    (10 ≤ cage.val → (t.get F.CAP_BOARD_STATUS_time_present).testBit (cage - 10) = inserted)) ∧
  (∀ s : State, s.powered = true → ∃ t, exec (.serviceSession true) s = .next t ∧ t.board.console = some none ∧
    t.wrote Code.SERVICE_SESSION [0, 0]) ∧
  (∀ s : State, s.powered = true → ∃ t, exec (.serviceSession false) s = .next t ∧ t.board.console = none ∧
    t.wrote Code.SERVICE_SESSION [1, (s.board.console.bind id).getD 0]) ∧
  (∀ (s : State) (ok : Bool) (d : BitVec 512), s.power = .bootRom ∨ (s.power = .on ∧ s.board.console ≠ none) → ∃ t,
    exec (.consoleFirmwareLoad ok d) s = .next t ∧
    tfind t.flash.fw s.inactiveSlot = some { ok := ok, digest := d } ∧
    (s.power = .on → t.board.console = some (some s.inactiveSlot))) ∧
  (∀ (s : State) (i : Port) (on : Bool), s.powered = true → s.privileged i = true → ∃ t,
    exec (.locateWrite i on) s = .next t ∧ t.get F.CAP_BOARD_LED_locate = bit on) ∧
  (∀ (s : State) (i : Port) (on : Bool), s.powered = true → s.privileged i = false → ∃ t,
    exec (.locateWrite i on) s = .next t ∧ t.get F.CAP_BOARD_LED_locate = s.get F.CAP_BOARD_LED_locate ∧
    t.wrote Code.CAP_ROLE [i, 0x814]) ∧
  (∀ (s : State) (r : Telemetry), s.powered = true → ∃ t, exec (.boardTelemetryRefresh r) s = .next t ∧
    t.get F.CAP_BOARD_SUPPLY_v48 = r.v48.toNat ∧ t.get F.CAP_BOARD_SUPPLY_v24 = r.v24.toNat ∧
    t.get F.CAP_BOARD_POWER_p48 = r.p48.toNat ∧ t.get F.CAP_BOARD_COOLANT_inlet = r.inlet.toNat ∧
    t.get F.CAP_BOARD_COOLANT_outlet = r.outlet.toNat ∧ t.get F.CAP_BOARD_COOLANT_flow = r.flow.toNat ∧
    t.get F.CAP_BOARD_TEMP_die0 = r.die0.toNat ∧ (s.variant ≠ .f9620 → t.get F.CAP_BOARD_TEMP_die1 = r.die1.toNat) ∧
    (s.variant = .f9620 → t.get F.CAP_BOARD_TEMP_die1 = 0) ∧ t.get F.CAP_BOARD_TEMP_hub = r.hub.toNat ∧
    t.get F.CAP_BOARD_TEMP_hbm = r.hbm.toNat)

/-- R40, R41, Table HW-10. -/
def Obligations.ThermalSteps : Prop :=
  (∀ (s : State) (inlet : BitVec 12) (flow : BitVec 8), s.powered = true → ∃ t,
    exec (.coolantOutOfRange inlet flow) s = .next t ∧ t.get F.CAP_BOARD_STATUS_coolant_range = 1 ∧
    (s.get F.CAP_BOARD_STATUS_coolant_range = 0 → t.wrote Code.COOLANT_OUT_OF_RANGE [inlet.toNat, flow.toNat, 0])) ∧
  (∀ (s : State) (j : BitVec 8), s.powered = true → s.get F.CAP_BOARD_STATUS_derated = 0 → ∃ t,
    exec (.derated j) s = .next t ∧ t.board.derateNew = some (min (s.get F.PACE_STATUS_pace + 50) 2000) ∧
    t.board.derateHolds = true ∧ t.get F.CAP_BOARD_STATUS_derated = 1 ∧ t.get F.PACE_STATUS_derated = 1 ∧
    t.wrote Code.DERATED [j.toNat, min (s.get F.PACE_STATUS_pace + 50) 2000]) ∧
  (∀ (s : State) (j : BitVec 8), s.powered = true → s.get F.CAP_BOARD_STATUS_derated = 1 → ∃ t,
    exec (.derated j) s = .next t ∧ t.board.derateHolds = true ∧ t.board.derateReq = s.board.derateReq ∧
    ((∀ r, s.board.derateNew = some r → s.board.derateReq ≤ r) → t.board.derateNew = s.board.derateNew) ∧
    (∀ r, s.board.derateNew = some r → r < s.board.derateReq → t.board.derateNew = none)) ∧
  (∀ s : State, s.powered = true → s.get F.CAP_BOARD_STATUS_derated = 1 → s.board.derateHolds = true → ∃ t,
    exec .derateGrow s = .next t ∧ t.board.derateNew = some (min (s.derateWish + 50) 2000)) ∧
  (∀ s : State, s.powered = true → s.get F.CAP_BOARD_STATUS_derated = 0 ∨ s.board.derateHolds = false → ∃ t,
    exec .derateGrow s = .next t ∧ t.board = s.board) ∧
  (∀ s : State, s.powered = true → s.get F.CAP_BOARD_STATUS_derated = 1 → s.board.derateHolds = false → ∃ t,
    exec .derateShorten s = .next t ∧ t.board.derateNew = some (s.derateWish - 50)) ∧
  (∀ s : State, s.powered = true → s.get F.CAP_BOARD_STATUS_derated = 0 ∨ s.board.derateHolds = true → ∃ t,
    exec .derateShorten s = .next t ∧ t.board = s.board) ∧
  (∀ (s : State) (c : Fin 3) (j flow : BitVec 8), s.powered = true → ∃ t, exec (.thermalShutdown c j flow) s = .next t ∧
    t.board.diesOff = true ∧ t.board.overheated = true ∧ t.safe.restartNeeded = true ∧ t.get F.SAFE_STATUS_state = safeSAFE ∧ t.outputsOff ∧
    t.power = s.power) ∧
  (∀ s : State, s.powered = true → ∃ t, exec (.thermalConditionCleared 0) s = .next t ∧
    t.get F.CAP_BOARD_STATUS_coolant_range = 0) ∧
  (∀ s : State, s.powered = true → ∃ t, exec (.thermalConditionCleared 1) s = .next t ∧ t.board.derateHolds = false) ∧
  (∀ s : State, s.powered = true → ∃ t, exec (.thermalConditionCleared 2) s = .next t ∧
    Code.THERMAL_SHUTDOWN ∉ t.safe.active)

/-- R54 to R57, R72. -/
def Obligations.ZldSession : Prop :=
  (∀ (s : State) (i : Port), s.powered = true → s.zldState = zldIDLE → ∃ t, exec (.openLoad i) s = .next t ∧
    t.zldState = zldOPEN ∧ t.get F.ZLD_STATUS_session_port = i ∧ t.get F.ZLD_PROGRESS_bytes = 0 ∧ t.zld.image = none ∧
    t.cfg = s.cfg ∧ t.keep = s.keep ∧ t.flash = s.flash ∧ t.zld.armed = s.zld.armed) ∧
  (∀ (s : State) (i : Port), s.powered = true → s.zldState ≠ zldIDLE → ∃ t, exec (.openLoad i) s = .next t ∧
    t.zldState = s.zldState ∧ t.zld = s.zld ∧ t.get (F.ZLD_RESULT_code i) = Code.ZLD_BUSY) ∧
  (∀ (s : State) (i : Port) (img : ImageFile), s.powered = true → s.holdsSession i = true → s.zldState = zldOPEN → ∃ t,
    exec (.fetch i img) s = .next t ∧ t.zldState = zldFETCHING ∧ t.zld.image = some img ∧ t.get F.ZLD_PROGRESS_bytes = 0 ∧
    t.cfg = s.cfg ∧ t.keep = s.keep ∧ t.flash = s.flash ∧ t.zld.armed = s.zld.armed) ∧
  (∀ (s : State) (i : Port) (img : ImageFile), s.powered = true → s.holdsSession i = false ∨ s.zldState ≠ zldOPEN → ∃ t,
    exec (.fetch i img) s = .next t ∧ t.zldState = s.zldState ∧ t.zld = s.zld ∧
    t.get (F.ZLD_RESULT_code i) = Code.ZLD_BAD_COMMAND) ∧
  (∀ (s : State) (img : ImageFile), s.powered = true → s.zld.image = some img → s.zldState = zldFETCHING →
    s.checkImage (Fin.ofNat 4 (s.get F.ZLD_STATUS_session_port)) img = none → ∃ t,
    exec .fetchDone s = .next t ∧ t.zldState = zldVERIFIED ∧ t.flash = (s.slotWrite img (some img)).flash ∧
    t.get (F.ZLD_RESULT_code (Fin.ofNat 4 (s.get F.ZLD_STATUS_session_port))) = 0 ∧
    t.cfg = s.cfg ∧ t.keep = s.keep ∧ t.zld = s.zld) ∧
  (∀ (s : State) (img : ImageFile) (f : Failure), s.powered = true → s.zld.image = some img → s.zldState = zldFETCHING →
    s.checkImage (Fin.ofNat 4 (s.get F.ZLD_STATUS_session_port)) img = some f → ∃ t,
    exec .fetchDone s = .next t ∧ t.zldState = zldFAILED ∧ t.zld = s.zld ∧
    t.get (F.ZLD_RESULT_code (Fin.ofNat 4 (s.get F.ZLD_STATUS_session_port))) = f.code % 2 ^ 16 ∧
    t.cfg = s.cfg ∧ t.keep = s.keep ∧ t.flash = s.flash) ∧
  (∀ (s : State) (i : Port), s.powered = true → s.holdsSession i = true → ∃ t, exec (.abort i) s = .next t ∧
    t.zldState = zldIDLE ∧ t.zld.image = none ∧ t.wrote Code.ZLD_ABORTED [i, 0] ∧
    (∀ img, s.zld.image = some img → t.flash = (s.slotWrite img none).flash) ∧
    (s.zld.image = none → t.flash = s.emptyFull.flash) ∧
    t.cfg = s.cfg ∧ t.keep = s.keep ∧ t.zld.armed = s.zld.armed) ∧
  (∀ (s : State) (i : Port), s.powered = true → s.holdsSession i = false → ∃ t, exec (.abort i) s = .next t ∧
    t.zldState = s.zldState ∧ t.zld = s.zld ∧ t.get (F.ZLD_RESULT_code i) = Code.ZLD_BAD_COMMAND) ∧
  (∀ s : State, s.powered = true → s.zldState ≠ zldIDLE → ∃ t, exec .zldSessionTimeout s = .next t ∧
    t.zldState = zldIDLE ∧ t.zld.image = none ∧ t.wrote Code.ZLD_ABORTED [s.get F.ZLD_STATUS_session_port, 3] ∧
    (∀ img, s.zld.image = some img → t.flash = (s.slotWrite img none).flash) ∧
    (s.zld.image = none → t.flash = s.emptyFull.flash) ∧
    t.cfg = s.cfg ∧ t.keep = s.keep ∧ t.zld.armed = s.zld.armed)

/-- R51, R52, R53, R56, R58, R60. -/
def Obligations.ZldCommit : Prop :=
  (∀ (s : State) (i : Port) (img : ImageFile), s.powered = true → s.zld.image = some img → s.holdsSession i = true →
    s.zldState = zldVERIFIED → img.header.kind = kindFULL → (∀ a ∈ s.zld.armed, a.partial_ = false) →
    s.checkLock img i = none → ∃ t, exec (.commit i) s = .next t ∧
    t.keep.full = some (s.inactiveImageSlot img, img.digest) ∧ t.keep.overlays = [] ∧
    t.keep.epoch = max s.keep.epoch img.header.epoch ∧
    t.keep.upkeepLeft = (if (img.structureSec.map (fun x => x.upkeep)).getD 0 ≠ s.get F.ZLD_ACTIVE_upkeep_mode then
      s.keep.upkeepLeft - 1 else s.keep.upkeepLeft) ∧
    t.keep.ownerLeft = s.keep.ownerLeft ∧ t.keep.safetyLeft = s.keep.safetyLeft ∧
    t.zldState = zldIDLE ∧ t.zld.image = none ∧ t.get (F.ZLD_RESULT_code i) = 0) ∧
  (∀ (s : State) (i : Port) (img : ImageFile), s.powered = true → s.zld.image = some img → s.holdsSession i = true →
    s.zldState = zldVERIFIED → img.header.kind ≠ kindFULL → ∃ t, exec (.commit i) s = .next t ∧
    tfind t.keep.overlays img.part = some (s.inactiveImageSlot img, img.digest) ∧ t.keep.full = s.keep.full ∧
    t.keep.epoch = max s.keep.epoch img.header.epoch ∧ t.keep.upkeepLeft = s.keep.upkeepLeft ∧
    t.zldState = zldIDLE ∧ t.zld.image = none ∧ t.get (F.ZLD_RESULT_code i) = 0) ∧
  (∀ (s : State) (i : Port) (img : ImageFile), s.powered = true → s.zld.image = some img → s.holdsSession i = true →
    s.zldState = zldVERIFIED → img.header.kind = kindFULL → (∃ a ∈ s.zld.armed, a.partial_ = true) → ∃ t,
    exec (.commit i) s = .next t ∧ t.keep = s.keep ∧ t.cfg = s.cfg ∧ t.zld = s.zld ∧ t.zldState = s.zldState ∧
    t.get (F.ZLD_RESULT_code i) = Code.ZLD_BUSY) ∧
  (∀ (s : State) (i : Port) (img : ImageFile) (f : Failure), s.powered = true → s.zld.image = some img →
    s.holdsSession i = true → s.zldState = zldVERIFIED →
    (img.header.kind = kindFULL → ∀ a ∈ s.zld.armed, a.partial_ = false) → s.checkLock img i = some f → ∃ t,
    exec (.commit i) s = .next t ∧ t.keep = s.keep ∧ t.cfg = s.cfg ∧ t.zld = s.zld ∧ t.zldState = s.zldState ∧
    (t.get (F.ZLD_RESULT_code i) = Code.ZLD_SAFETY_LOCKED ∨ t.get (F.ZLD_RESULT_code i) = Code.ZLD_RATCHET_EXHAUSTED)) ∧
  (∀ (s : State) (i : Port), s.powered = true →
    s.zld.image = none ∨ s.holdsSession i = false ∨ s.zldState ≠ zldVERIFIED → ∃ t,
    exec (.commit i) s = .next t ∧ t.keep = s.keep ∧ t.cfg = s.cfg ∧ t.zld = s.zld ∧ t.zldState = s.zldState ∧
    t.get (F.ZLD_RESULT_code i) = Code.ZLD_BAD_COMMAND)

/-- R81, R83, R89, R90. The signature bytes are the opaque ones of Config: the statement holds for every choice of them. -/
def Obligations.IdentityRequests : Prop :=
  (∀ s : State, s.powered = true → ∃ t, exec .opSecondsSave s = .next t ∧
    t.keep = { s.keep with cycles := s.get F.KEEP_POWER_CYCLES_count, seconds := s.opSeconds }) ∧
  (∀ (s : State) (i : Port) (h : DoeHeader), s.powered = true → h.code.toNat = doeGET_IDENTITY → h.length.toNat = 0 → ∃ t,
    exec (.getIdentity i h) s = .next t ∧ tfind t.boot.doe i = some (doeResponse doeGET_IDENTITY h s.identityRecord) ∧
    t.keep = s.keep) ∧
  (∀ (s : State) (i : Port) (h : DoeHeader), s.powered = true → h.code.toNat = doeGET_MEASUREMENTS → h.length.toNat = 0 → s.get F.KEEP_STATUS_identity ≠ 2 → ∃ t,
    exec (.getMeasurements i h) s = .next t ∧
    tfind t.boot.doe i = some (doeResponse doeGET_MEASUREMENTS h s.measurements) ∧ t.keep = s.keep) ∧
  (∀ (s : State) (i : Port) (h : DoeHeader) (nonce : BitVec 256), s.powered = true → h.code.toNat = doeATTEST → h.length.toNat = 32 →
    s.get F.KEEP_STATUS_identity ≠ 2 → ∃ t, exec (.attest i h nonce) s = .next t ∧ t.keep = s.keep ∧
    tfind t.boot.doe i = some (doeResponse doeATTEST h (s.measurements ++ (List.range 4627).map (Config.signByte
      (BitVec.ofNat 512 (leNat (sha3_512 (attestTag ++ leBytes 8 deviceId ++ leBytes 1 i ++ digestBytes nonce ++
        s.measurements)))))))) ∧
  (∀ (s : State) (i : Port) (h : DoeHeader), s.powered = true → h.code.toNat = doeRATCHETS → h.length.toNat = 0 → s.get F.KEEP_STATUS_identity ≠ 2 → ∃ t,
    exec (.getRatchets i h) s = .next t ∧ tfind t.boot.doe i = some (doeResponse doeRATCHETS h s.ratchetBytes) ∧
    t.keep = s.keep) ∧
  (∀ (s : State) (i : Port) (h : DoeHeader), s.powered = true → h.code.toNat = doeGET_IDENTITY → h.length.toNat ≠ 0 → ∃ t,
    exec (.getIdentity i h) s = .next t ∧ t.keep = s.keep ∧
    tfind t.boot.doe i = some (doeFailure h Code.KEEP_DOE_MALFORMED doeGET_IDENTITY)) ∧
  (∀ (s : State) (i : Port) (h : DoeHeader) (nonce : BitVec 256), s.powered = true → h.code.toNat = doeATTEST → h.length.toNat ≠ 32 → ∃ t,
    exec (.attest i h nonce) s = .next t ∧ t.keep = s.keep ∧
    tfind t.boot.doe i = some (doeFailure h Code.KEEP_DOE_MALFORMED doeATTEST)) ∧
  (∀ (s : State) (i : Port) (h : DoeHeader), s.powered = true → h.code.toNat = doeGET_MEASUREMENTS → h.length.toNat = 0 → s.get F.KEEP_STATUS_identity = 2 → ∃ t,
    exec (.getMeasurements i h) s = .next t ∧ t.keep = s.keep ∧
    tfind t.boot.doe i = some (doeFailure h Code.KEEP_IDENTITY_FAIL doeGET_MEASUREMENTS)) ∧
  (∀ (s : State) (i : Port) (h : DoeHeader), s.powered = true → h.code.toNat ≠ doeGET_IDENTITY → ∃ t,
    exec (.getIdentity i h) s = .next t ∧ t.keep = s.keep ∧ t.wrote Code.KEEP_DOE_MALFORMED [i, 0] ∧
    tfind t.boot.doe i = some (doeFailure h Code.KEEP_DOE_MALFORMED h.code.toNat)) ∧
  (∀ (s : State) (i : Port), s.powered = true → ∃ t, exec (.doeAbort i) s = .next t ∧ tfind t.boot.doe i = none ∧
    t.keep = s.keep)

/-- R82, R84, R85, R86. The challenge is the entropy value of Config: the statement holds for every choice of it. -/
def Obligations.OwnershipChanges : Prop :=
  (∀ (s : State) (i : Port) (h : DoeHeader), s.powered = true → h.code.toNat = doeCHALLENGE → h.length.toNat = 0 → s.get F.KEEP_STATUS_identity ≠ 2 → ∃ t,
    exec (.ownerChallenge i h) s = .next t ∧ tfind t.boot.challenge i = some (BitVec.ofNat 256 (Config.entropy s.free).toNat) ∧
    tfind t.boot.doe i = some (doeResponse doeCHALLENGE h (leBytes 32 (Config.entropy s.free).toNat)) ∧ t.keep = s.keep) ∧
  (∀ (s : State) (i : Port), s.powered = true → ∃ t, exec (.challengeExpired i) s = .next t ∧
    tfind t.boot.challenge i = none ∧ t.keep = s.keep) ∧
  (∀ (s : State) (i : Port) (h : DoeHeader), s.powered = true → h.code.toNat = doePROVE → h.length.toNat = 4627 → s.get F.KEEP_STATUS_identity ≠ 2 →
    tfind s.boot.challenge i ≠ none → s.keep.owner ≠ none → ∃ t, exec (.ownerProve i h true) s = .next t ∧
    i.val ∈ t.boot.proven ∧ tfind t.boot.challenge i = none ∧ t.keep = s.keep) ∧
  (∀ (s : State) (i : Port) (h : DoeHeader) (ok : Bool), s.powered = true → h.code.toNat = doePROVE → h.length.toNat = 4627 →
    s.get F.KEEP_STATUS_identity ≠ 2 → tfind s.boot.challenge i = none ∨ ok = false ∨ s.keep.owner = none → ∃ t,
    exec (.ownerProve i h ok) s = .next t ∧ t.boot.proven = s.boot.proven ∧ tfind t.boot.challenge i = none ∧
    t.keep = s.keep) ∧
  (∀ (s : State) (i : Port) (h : DoeHeader) (key : BitVec 512) (signers : List (BitVec 512)), s.powered = true → h.code.toNat = doeCLAIM →
    h.length.toNat = ownerLen true signers.length 1 → s.get F.KEEP_STATUS_identity ≠ 2 → 1 ≤ signers.length →
    signers.length ≤ 4 → s.keep.owner = none → s.privileged i = true ∨ s.get F.ZLD_ACTIVE_factory_structure = 1 →
    tfind s.boot.challenge i ≠ none → s.keep.ownerLeft ≠ 0 → ∃ t, exec (.ownerClaim i h key signers true) s = .next t ∧
    t.keep = { s.keep with owner := some { key := key, signers := signers }, ownerLeft := s.keep.ownerLeft - 1 } ∧
    t.boot.proven = [] ∧ t.boot.challenge = []) ∧
  (∀ (s : State) (i : Port) (h : DoeHeader) (key : BitVec 512) (signers : List (BitVec 512)) (ok : Bool), s.powered = true →
    s.keep.owner ≠ none ∨ tfind s.boot.challenge i = none ∨ ok = false ∨ s.keep.ownerLeft = 0 → ∃ t,
    exec (.ownerClaim i h key signers ok) s = .next t ∧ t.keep = s.keep) ∧
  (∀ (s : State) (i : Port) (h : DoeHeader) (key : BitVec 512) (signers : List (BitVec 512)), s.powered = true → h.code.toNat = doeTRANSFER →
    h.length.toNat = ownerLen true signers.length 2 → s.get F.KEEP_STATUS_identity ≠ 2 → 1 ≤ signers.length →
    signers.length ≤ 4 → s.keep.owner ≠ none → tfind s.boot.challenge i ≠ none → s.keep.ownerLeft ≠ 0 → ∃ t,
    exec (.ownerTransfer i h key signers true true) s = .next t ∧
    t.keep = { s.keep with owner := some { key := key, signers := signers }, ownerLeft := s.keep.ownerLeft - 1 } ∧
    t.boot.proven = [] ∧ t.boot.challenge = []) ∧
  (∀ (s : State) (i : Port) (h : DoeHeader) (key : BitVec 512) (signers : List (BitVec 512)) (a b : Bool), s.powered = true →
    s.keep.owner = none ∨ tfind s.boot.challenge i = none ∨ a = false ∨ b = false ∨ s.keep.ownerLeft = 0 → ∃ t,
    exec (.ownerTransfer i h key signers a b) s = .next t ∧ t.keep = s.keep) ∧
  (∀ (s : State) (i : Port) (h : DoeHeader) (signers : List (BitVec 512)) (o : OwnerRec), s.powered = true → h.code.toNat = doeSIGNERS →
    h.length.toNat = ownerLen false signers.length 1 → s.get F.KEEP_STATUS_identity ≠ 2 → 1 ≤ signers.length →
    signers.length ≤ 4 → s.keep.owner = some o → tfind s.boot.challenge i ≠ none → ∃ t,
    exec (.ownerSetSigners i h signers true) s = .next t ∧
    t.keep = { s.keep with owner := some { o with signers := signers } } ∧ t.boot.proven = [] ∧ t.boot.challenge = [])

/-- R79, R100, R103, R104, R106, R107, R114. -/
def Obligations.SlackAndPlan : Prop :=
  (∀ (s : State) (slip : BitVec 32), s.powered = true → ∃ t, exec (.paceMiss none slip) s = .next t ∧
    t.get F.PACE_HUB_misses = min (s.get F.PACE_HUB_misses + 1) (2 ^ F.PACE_HUB_misses.width - 1) ∧
    t.wrote Code.PACE_MISS [0xFF, slip.toNat, 1000]) ∧
  (∀ (s : State) (c : CoreId) (slip : BitVec 32), s.powered = true → s.coreRole c ≠ coreABSENT → s.coreRole c ≠ coreFAILED →
    s.get (F.CORE_STATUS_in_partition c) = 0 ∨ s.get (F.CORE_STATUS_paced c) = 1 → ∃ t,
    exec (.paceMiss (some c) slip) s = .next t ∧
    t.get (F.PACE_MISS_count c) = min (s.get (F.PACE_MISS_count c) + 1) (2 ^ (F.PACE_MISS_count c).width - 1) ∧
    t.wrote Code.PACE_MISS [c, slip.toNat, s.get F.PACE_STATUS_pace] ∧ t.mem = s.mem ∧ t.exec = s.exec) ∧
  (∀ (s : State) (ticks : List (List (BitVec 12))) (counts : List (List Nat)) (hub : BitVec 12), s.powered = true → ∃ t,
    exec (.slackWindow ticks counts hub) s = .next t ∧ t.get F.PACE_HUB_slack = hub.toNat ∧
    (∀ c e, c < s.coreCount → e ∈ (ticks.getD c []).zip (counts.getD c []) → e.2 ≠ 0 → t.hasHistory c = true) ∧
    ((∀ c < s.coreCount, s.hasHistory c = true) → t.keep = s.keep) ∧
    (∀ (c : Nat) (p : BitVec 12) (n : Nat), c < s.coreCount → ticks.getD c [] = [p] → counts.getD c [] = [n] → n ≠ 0 →
      s.hasHistory c = false → (t.keep.baseline.bind (fun b => tfind b.slack c)) = some (s.correctedSlack c (s.tickSlack c p.toNat))) ∧
    (∀ (c : Nat) (p : BitVec 12) (n : Nat), c < s.coreCount → ticks.getD c [] = [p] → counts.getD c [] = [n] → n ≠ 0 →
      t.get (F.PACE_SLACK_slack c) = satSigned 12 (s.correctedSlack c (s.tickSlack c p.toNat)))) ∧
  (∀ s : State, s.powered = true → ∃ t, exec .slackLogWrite s = .next t ∧ ∃ r, t.flash.slack = (r :: s.flash.slack).take 16384 ∧
    r.cores.length = 40 ∧ r.volts = [s.get (F.PACE_DIE_voltage 0), s.get (F.PACE_DIE_voltage 1)] ∧ r.seconds = s.opSeconds ∧
    r.cycles = s.get F.KEEP_POWER_CYCLES_count) ∧
  (∀ s : State, s.powered = true → ∃ t, exec .planEvaluation s = .next t ∧
    (∀ c ∈ s.liveCores, t.get (F.PACE_SLACK_trend c) = s.trendOf c % 2 ^ (F.PACE_SLACK_trend c).width) ∧
    (s.ageing = false → t.pace = s.pace)) ∧
  (∀ (s : State) (i : Port) (m : BitVec 11), s.powered = true → s.privileged i = true → s.ageing = true → m.toNat ≠ 0 →
    m.toNat ≤ 1440 → ∃ t, exec (.openWindow i m) s = .next t ∧ t.get F.PACE_STATUS_window_open = 1 ∧
    t.pace.windowPort = i ∧ t.pace.windowFresh = true) ∧
  (∀ (s : State) (i : Port) (m : BitVec 11), s.powered = true → s.privileged i = true → s.ageing = true →
    m.toNat = 0 ∨ 1440 < m.toNat → ∃ t, exec (.openWindow i m) s = .next t ∧
    t.get F.PACE_STATUS_window_open = s.get F.PACE_STATUS_window_open ∧ t.get F.PACE_PLAN_STATUS_refusal = 3) ∧
  (∀ (s : State) (i : Port) (m : BitVec 11), s.powered = true → s.privileged i = false → ∃ t,
    exec (.openWindow i m) s = .next t ∧ t.get F.PACE_STATUS_window_open = s.get F.PACE_STATUS_window_open ∧
    t.get F.PACE_PLAN_STATUS_refusal = 1) ∧
  (∀ (s : State) (i : Port), s.powered = true → s.privileged i = true → ∃ t, exec (.closeWindow i) s = .next t ∧
    t.get F.PACE_STATUS_window_open = 0) ∧
  (∀ s : State, s.powered = true → ∃ t, exec .planWindowExpired s = .next t ∧ t.get F.PACE_STATUS_window_open = 0) ∧
  (∀ (s : State) (locked : Bool) (cause : BitVec 32), s.powered = true → ∃ t, exec (.metronomeUnlocked locked cause) s = .next t ∧
    t.get F.PACE_STATUS_metronome_lock = bit locked ∧
    (s.get F.PACE_STATUS_metronome_lock ≠ bit locked → t.wrote Code.METRONOME_UNLOCKED [cause.toNat]))

/-- R75, R111, R112. -/
def Obligations.FirmwareHandover : Prop :=
  (∀ (s : State) (i : Port), s.powered = true → s.privileged i = true → s.anyUpkeep = true →
    s.hubfw = hfIDLE ∨ s.hubfw = hfVERIFIED ∨ s.hubfw = hfFAILED → ∃ t, exec (.hubfwLoad i) s = .next t ∧
    t.hubfw = hfLOADING ∧ t.keep = s.keep) ∧
  (∀ (s : State) (i : Port), s.powered = true → s.privileged i = false ∨ s.anyUpkeep = false → ∃ t,
    exec (.hubfwLoad i) s = .next t ∧ t.hubfw = s.hubfw) ∧
  (∀ (s : State) (ok : Bool) (d : BitVec 512), s.powered = true → s.hubfw = hfLOADING → ∃ t,
    exec (.hubfwVerified ok d) s = .next t ∧ tfind t.flash.fw s.inactiveSlot = some { ok := ok, digest := d } ∧
    t.hubfw = (if ok then hfVERIFIED else hfFAILED)) ∧
  (∀ (s : State) (ok : Bool) (d : BitVec 512), s.powered = true → s.hubfw ≠ hfLOADING → ∃ t,
    exec (.hubfwVerified ok d) s = .next t ∧ t.flash = s.flash ∧ t.hubfw = s.hubfw) ∧
  (∀ (s : State) (i : Port), s.powered = true → s.privileged i = true → s.liveUpkeep = true → s.hubfw = hfVERIFIED → ∃ t,
    exec (.handover i) s = .next t ∧ t.hubfw = hfHANDED ∧
    t.get F.PACE_HUBFW_STATUS_active_slot = s.get F.PACE_HUBFW_STATUS_active_slot) ∧
  (∀ (s : State) (i : Port), s.powered = true → s.privileged i = false ∨ s.liveUpkeep = false ∨ s.hubfw ≠ hfVERIFIED → ∃ t,
    exec (.handover i) s = .next t ∧ t.hubfw = s.hubfw) ∧
  (∀ s : State, s.powered = true → s.hubfw = hfHANDED → ∃ t, exec .handoverDone s = .next t ∧ t.hubfw = hfSTANDBY ∧
    t.get F.PACE_HUBFW_STATUS_active_slot = s.inactiveSlot ∧ t.get F.PACE_HUBFW_STATUS_trial = 1 ∧
    t.get F.PACE_HUBFW_STATUS_standby_s = 600 ∧ t.wrote Code.HANDOVER_DONE [s.inactiveSlot, s.period]) ∧
  (∀ (s : State) (i : Port), s.powered = true → s.privileged i = true → s.get F.PACE_HUBFW_STATUS_trial = 1 → ∃ t,
    exec (.confirm i) s = .next t ∧ t.keep = { s.keep with fwTrial := false, fwTries := 0 } ∧
    t.get F.PACE_HUBFW_STATUS_trial = 0 ∧ t.get F.PACE_HUBFW_STATUS_standby_s = 0 ∧ (s.hubfw = hfSTANDBY → t.hubfw = hfIDLE)) ∧
  (∀ (s : State) (i : Port), s.powered = true → s.privileged i = true → s.hubfw = hfLOADING → ∃ t,
    exec (.hubfwAbort i) s = .next t ∧ t.hubfw = hfIDLE ∧ t.keep = s.keep) ∧
  (∀ (s : State) (i : Port), s.powered = true → s.privileged i = true → s.hubfw = hfVERIFIED ∨ s.hubfw = hfHANDED → ∃ t,
    exec (.hubfwAbort i) s = .next t ∧ t.hubfw = hfIDLE ∧ t.keep.fwSlot = s.get F.PACE_HUBFW_STATUS_active_slot ∧
    t.get F.PACE_HUBFW_STATUS_active_slot = s.get F.PACE_HUBFW_STATUS_active_slot) ∧
  (∀ s : State, s.powered = true → s.hubfw = hfSTANDBY → ∃ t, exec .standbyExpired s = .next t ∧ t.hubfw = hfIDLE ∧
    t.get F.PACE_HUBFW_STATUS_standby_s = 0 ∧ t.get F.PACE_HUBFW_STATUS_trial = s.get F.PACE_HUBFW_STATUS_trial ∧
    t.keep = s.keep) ∧
  (∀ s : State, s.powered = true → s.hubfw = hfSTANDBY → ∃ t, exec .handoverFailed s = .next t ∧ t.hubfw = hfIDLE ∧
    t.get F.PACE_HUBFW_STATUS_active_slot = 1 - s.get F.PACE_HUBFW_STATUS_active_slot ∧
    t.get F.PACE_HUBFW_STATUS_trial = 0 ∧ t.wrote Code.HANDOVER_FAILED [s.get F.PACE_HUBFW_STATUS_active_slot, 1])

/-- R229, R230, R236, R244, R248 (Tables ROUTE-2, ROUTE-6). The landing in the period after the one being built is DEDUCED (log entry 31). -/
def Obligations.JobCommands : Prop :=
  (∀ (s : State) (i : Port) (p : Part) (t : BitVec 8) (tm : TemplateCfg) (j : Nat), s.powered = true →
    s.routeRight i p rcADMIT = true → s.templateAt p (tget 0 s.route.gens p) t.toNat = some tm →
    (upTo 256).find? (fun k => (s.job? k).isNone) = some j →
    s.get (F.ROUTE_PART_over_quota p) = 0 → s.get (F.ROUTE_PAGES_held p) + tm.pages ≤ s.get (F.ROUTE_QUOTA_pages p) →
    ((s.part p).criticality = critBESTEFFORT ∨
      (s.fitPlan s.landing [(p.val, j, t.toNat)]).any (fun e => e.1 == p.val && e.2.1) = true) →
    s.routeArg i % 1024 ≠ 0 → ∃ u, exec (.admitTemplate i p t) s = .next u ∧
    (∃ b, u.job? j = some b ∧ b.part = p.val ∧ b.template = t.toNat ∧ b.landing = s.landing ∧ b.retireAt = none ∧
      b.pages = tm.pages) ∧
    u.get (F.ROUTE_JOB_state j) = jobADMITTED ∧ u.get (F.ROUTE_JOB_weight j) = s.routeArg i % 1024 ∧
    u.get (F.ROUTE_CMD_STATUS_code i) = 0 ∧ u.get (F.ROUTE_CMD_STATUS_job i) = j) ∧
  (∀ (s : State) (i : Port) (p : Part) (j : BitVec 8) (b : Job), s.powered = true → s.routeRight i p rcRETIRE = true →
    s.job? j.toNat = some b → b.part = p.val → ∃ u, exec (.retire i p j) s = .next u ∧
    u.job? j.toNat = some { b with retireAt := some (b.retireAt.getD s.landing) } ∧
    u.get (F.ROUTE_JOB_state j.toNat) = jobRETIRING ∧ u.get (F.ROUTE_CMD_STATUS_code i) = 0) ∧
  (∀ (s : State) (i : Port) (p : Part) (j : BitVec 8) (b : Job), s.powered = true → s.routeRight i p rcSETWEIGHT = true →
    s.job? j.toNat = some b → b.part = p.val → s.routeArg i % 1024 ≠ 0 → ∃ u, exec (.setWeight i p j) s = .next u ∧
    u.get (F.ROUTE_JOB_weight j.toNat) = s.routeArg i % 1024 ∧ u.get (F.ROUTE_PENDING_weight p) = 1 ∧
    (∃ c ∈ u.route.cuts, c.kind = 3 ∧ c.index = j.toNat ∧ c.a = s.routeArg i % 1024 ∧ c.landing = s.landing) ∧
    u.get (F.ROUTE_CMD_STATUS_code i) = 0) ∧
  (∀ (s : State) (i : Port) (p : Part) (j : BitVec 8) (b : Job), s.powered = true → s.routeRight i p rcSOLO = true →
    s.job? j.toNat = some b → b.part = p.val →
    (s.part p).criticality = critBESTEFFORT ∨ s.soloFits s.landing p j.toNat = true → ∃ u,
    exec (.measureSolo i p j) s = .next u ∧ u.job? j.toNat = some { b with soloLeft := 16, soloFrom := s.landing } ∧
    u.get (F.ROUTE_CMD_STATUS_code i) = 0) ∧
  (∀ (s : State) (i : Port) (p : Part) (t : BitVec 8), s.powered = true → s.routeRight i p rcADMIT = false → ∃ u,
    exec (.admitTemplate i p t) s = .next u ∧ u.route = s.route ∧ u.get (F.ROUTE_CMD_STATUS_code i) = Code.ROUTE_ROLE) ∧
  (∀ (s : State) (i : Port) (p : Part) (j : BitVec 8), s.powered = true → s.routeRight i p rcRETIRE = false → ∃ u,
    exec (.retire i p j) s = .next u ∧ u.route = s.route ∧ u.get (F.ROUTE_CMD_STATUS_code i) = Code.ROUTE_ROLE) ∧
  (∀ (s : State) (i : Port) (p : Part) (j : BitVec 8), s.powered = true → s.routeRight i p rcSETWEIGHT = false → ∃ u,
    exec (.setWeight i p j) s = .next u ∧ u.route = s.route ∧ u.get (F.ROUTE_CMD_STATUS_code i) = Code.ROUTE_ROLE) ∧
  (∀ (s : State) (i : Port) (p : Part) (j : BitVec 8), s.powered = true → s.routeRight i p rcSOLO = false → ∃ u,
    exec (.measureSolo i p j) s = .next u ∧ u.route = s.route ∧ u.get (F.ROUTE_CMD_STATUS_code i) = Code.ROUTE_ROLE) ∧
  (∀ (s : State) (i : Port) (p : Part) (j : BitVec 8), s.powered = true → s.routeRight i p rcRETIRE = true →
    (∀ b, s.job? j.toNat = some b → b.part ≠ p.val) → ∃ u, exec (.retire i p j) s = .next u ∧ u.route = s.route ∧
    u.get (F.ROUTE_CMD_STATUS_code i) = Code.ROUTE_BAD_COMMAND)

/-- R222, R245, R246, R248. -/
def Obligations.ShareCuts : Prop :=
  (∀ (s : State) (i : Port) (p : Part), s.powered = true → s.routeRight i p rcQUOTA = true →
    s.get (F.ROUTE_CMD_ARG0_value i) ≤ s.get (F.ROUTE_QUOTA_LIMIT_pages p) → ∃ u, exec (.setQuota i p) s = .next u ∧
    u.get (F.ROUTE_QUOTA_pages p) = s.get (F.ROUTE_CMD_ARG0_value i) ∧ u.get (F.ROUTE_CMD_STATUS_code i) = 0) ∧
  (∀ (s : State) (i : Port) (p : Part), s.powered = true → s.routeRight i p rcQUOTA = true →
    s.get (F.ROUTE_QUOTA_LIMIT_pages p) < s.get (F.ROUTE_CMD_ARG0_value i) → ∃ u, exec (.setQuota i p) s = .next u ∧
    u.get (F.ROUTE_QUOTA_pages p) = s.get (F.ROUTE_QUOTA_pages p) ∧
    u.get (F.ROUTE_CMD_STATUS_code i) = Code.CUT_REFUSED ∧ u.get (F.ROUTE_CMD_STATUS_reason i) = rrABOVE) ∧
  (∀ (s : State) (i : Port) (p : Part), s.powered = true → s.routeRight i p rcBANDWIDTH = true →
    s.get (F.ROUTE_CMD_ARG0_value i) ≤ (s.part p).bandwidth → s.get (F.ROUTE_BW_need p) ≤ s.get (F.ROUTE_CMD_ARG0_value i) →
    ∃ u, exec (.setBandwidth i p) s = .next u ∧ u.get (F.ROUTE_PENDING_bandwidth p) = 1 ∧
    (∃ c ∈ u.route.cuts, c.kind = 1 ∧ c.part = p.val ∧ c.a = s.get (F.ROUTE_CMD_ARG0_value i) ∧ c.landing = s.landing) ∧
    u.get (F.ROUTE_CMD_STATUS_code i) = 0) ∧
  (∀ (s : State) (i : Port) (p : Part), s.powered = true → s.routeRight i p rcBANDWIDTH = true →
    (s.part p).bandwidth < s.get (F.ROUTE_CMD_ARG0_value i) ∨ s.get (F.ROUTE_CMD_ARG0_value i) < s.get (F.ROUTE_BW_need p) →
    ∃ u, exec (.setBandwidth i p) s = .next u ∧ u.route = s.route ∧
    u.get (F.ROUTE_PENDING_bandwidth p) = s.get (F.ROUTE_PENDING_bandwidth p) ∧
    u.get (F.ROUTE_CMD_STATUS_code i) = Code.CUT_REFUSED) ∧
  (∀ (s : State) (i : Port) (p : Part) (l : BitVec 8), s.powered = true → s.routeRight i p rcWINDOW = true →
    s.windowRefusal s.landing p l.toNat (s.routeArg i) (s.get (F.ROUTE_CMD_ARG1_start i)) (s.get (F.ROUTE_CMD_ARG2_length i)) = none →
    ∃ u, exec (.setWindow i p l) s = .next u ∧ u.get (F.ROUTE_PENDING_window p) = 1 ∧
    (∃ c ∈ u.route.cuts, c.kind = 2 ∧ c.part = p.val ∧ c.index = 4 * l.toNat + s.routeArg i ∧
      c.a = s.get (F.ROUTE_CMD_ARG1_start i) ∧ c.b = s.get (F.ROUTE_CMD_ARG2_length i) ∧ c.landing = s.landing) ∧
    u.get (F.ROUTE_CMD_STATUS_code i) = 0) ∧
  (∀ (s : State) (i : Port) (p : Part) (l : BitVec 8) (r : Nat), s.powered = true → s.routeRight i p rcWINDOW = true →
    s.windowRefusal s.landing p l.toNat (s.routeArg i) (s.get (F.ROUTE_CMD_ARG1_start i)) (s.get (F.ROUTE_CMD_ARG2_length i)) = some r →
    ∃ u, exec (.setWindow i p l) s = .next u ∧ u.route = s.route ∧ u.get (F.ROUTE_CMD_STATUS_code i) = Code.CUT_REFUSED ∧
    u.get (F.ROUTE_CMD_STATUS_reason i) = r ∧ (r = rrABOVE ∨ r = rrLEGLONG ∨ r = rrOVERLAP)) ∧
  (∀ (s : State) (n : Nat) (p : Part) (l w a b : Nat), 4 ≤ w ∨ (s.part p).holds l = false →
    s.windowRefusal n p l w a b = some rrABOVE) ∧
  (∀ (s : State) (i : Port) (p : Part), s.powered = true → s.routeRight i p rcQUOTA = false → ∃ u,
    exec (.setQuota i p) s = .next u ∧ u.get (F.ROUTE_QUOTA_pages p) = s.get (F.ROUTE_QUOTA_pages p) ∧
    u.get (F.ROUTE_CMD_STATUS_code i) = Code.ROUTE_ROLE) ∧
  (∀ (s : State) (i : Port) (p : Part), s.powered = true → s.routeRight i p rcBANDWIDTH = false → ∃ u,
    exec (.setBandwidth i p) s = .next u ∧ u.route = s.route ∧ u.get (F.ROUTE_CMD_STATUS_code i) = Code.ROUTE_ROLE) ∧
  (∀ (s : State) (i : Port) (p : Part) (l : BitVec 8), s.powered = true → s.routeRight i p rcWINDOW = false → ∃ u,
    exec (.setWindow i p l) s = .next u ∧ u.route = s.route ∧ u.get (F.ROUTE_CMD_STATUS_code i) = Code.ROUTE_ROLE)

/-- R62, R226, R228, R234. -/
def Obligations.BuildsAndLegs : Prop :=
  (∀ s : State, s.powered = true → s.route.buildFor ≤ s.period → s.board.diesOff = false → ∃ t,
    exec .buildStart s = .next t ∧ t.route.buildFor = s.period + 1 ∧ t.route.built = false ∧ t.route.planned = [] ∧
    t.get F.ROUTE_STATUS_builder_running = 1) ∧
  (∀ s : State, s.powered = true → s.period < s.route.buildFor ∨ s.board.diesOff = true → ∃ t,
    exec .buildStart s = .next t ∧ t.route = s.route) ∧
  (∀ s : State, s.powered = true → s.route.built = false → s.period < s.route.buildFor → ∃ t,
    exec .buildComplete s = .next t ∧ t.route.built = true ∧ t.route.buildFor = s.route.buildFor ∧ t.route.legs = s.route.legs) ∧
  (∀ s : State, s.powered = true → s.route.built = true ∨ s.route.buildFor ≤ s.period → ∃ t,
    exec .buildComplete s = .next t ∧ t.route = s.route) ∧
  (∀ (s : State) (c : CoreId) (k : Fin 256) (r : LegReport) (l : Nat) (g : LegRun), s.powered = true →
    s.coreRole c = coreACTIVE → s.logicalOf c = some l → (s.legsOn l)[k.val]? = some g →
    (∃ q ∈ g.cores, q ≠ l ∧ q ∉ g.done) → ∃ t, exec (.legComplete c k r) s = .next t ∧
    (∃ x ∈ t.route.legs, x.id = g.id ∧ x.done = g.done ++ [l]) ∧ t.mem = s.mem) ∧
  (∀ (s : State) (c : CoreId) (k : Fin 256) (r : LegReport) (l : Nat) (g : LegRun), s.powered = true →
    s.coreRole c = coreACTIVE → s.logicalOf c = some l → (s.legsOn l)[k.val]? = some g →
    (∀ q ∈ g.cores, q = l ∨ q ∈ g.done) → ∃ t, exec (.legComplete c k r) s = .next t ∧ ∀ x ∈ t.route.legs, x.id ≠ g.id) ∧
  (∀ (s : State) (c : CoreId) (k : Fin 256) (r : LegReport), s.powered = true →
    (s.coreRole c ≠ coreACTIVE ∨ s.logicalOf c = none ∨ ∃ l, s.logicalOf c = some l ∧ (s.legsOn l)[k.val]? = none) → ∃ t,
    exec (.legComplete c k r) s = .next t ∧ t.route = s.route ∧ t.mem = s.mem) ∧
  (∀ (s : State) (p : Part) (g n : Nat), s.powered = true → tfind s.zld.oldSince (oldKey p g) = some n → n + 64 ≤ s.period → ∃ t,
    exec (.reloadTimeout p) s = .next t ∧ ∀ w ∈ (t.pool p).joins, w.gen ≠ g) ∧
  (∀ (s : State) (p : Part), s.powered = true →
    (∀ g n, tfind s.zld.oldSince (oldKey p g) = some n → s.period < n + 64) → ∃ t,
    exec (.reloadTimeout p) s = .next t ∧ t.route = s.route ∧ t.kv = s.kv ∧ t.cfg = s.cfg)

/-- R123, R124, R126, R131, R132, R134, R377. -/
def Obligations.BoundaryAndCores : Prop :=
  (∀ (s : State) (x : PeriodIn), s.powered = true → ∃ t, exec (.periodBoundary x) s = .next t ∧
    t.period = (s.period + 1) % 2 ^ 64) ∧
  (∀ (s : State) (x : PeriodIn) (l : Fin 32) (f : Fin 5) (p : Nat), s.powered = true → s.route.built = true →
    s.route.buildFor = s.period + 1 → (l, f) ∈ x.bad → s.partOf l = some p → s.isSafetyPart p = true → ∃ t,
    exec (.periodBoundary x) s = .next t ∧ t.get F.SAFE_STATUS_state = safeSAFE ∧ t.outputsOff) ∧
  (∀ (s : State) (c : CoreId), s.powered = true → s.board.diesOff = false → s.coreRole c ≠ coreABSENT →
    s.coreRole c ≠ coreFAILED → ∃ t,
    exec (.coreHang c) s = .next t ∧ t.coreRole c = coreFAILED ∧ t.get (F.CORE_FAIL_cause c) = failHANG ∧
    c.val ∈ t.cores.fence ∧ t.core c = coreExec0) ∧
  (∀ (s : State) (c : CoreId), s.powered = true → s.board.diesOff = true → ∃ t, exec (.coreHang c) s = .next t ∧
    t.coreRole c = s.coreRole c ∧ t.cores = s.cores ∧ t.exec = s.exec) ∧
  (∀ (s : State) (i : Port) (c : CoreId), s.powered = true → s.board.diesOff = false → c.val < s.coreCount →
    s.privileged i = true → s.coreRole c = coreACTIVE → s.spareOf (c.val / 5) ≠ none → s.liveDetours = true → ∃ t,
    exec (.detourRequest i c) s = .next t ∧ t.coreRole c = coreFAILED ∧ t.get (F.CORE_FAIL_cause c) = failREQUEST ∧
    c.val ∈ t.cores.fence ∧ t.core c = coreExec0) ∧
  (∀ (s : State) (i : Port) (c : CoreId), s.powered = true → c.val < s.coreCount → s.privileged i = false → ∃ t,
    exec (.detourRequest i c) s = .next t ∧ t.coreRole c = s.coreRole c ∧ t.cores = s.cores ∧
    t.wrote Code.CORE_ROLE [i, coreCtrlAt c]) ∧
  (∀ (s : State) (i : Port) (c : CoreId), s.powered = true → c.val < s.coreCount → s.privileged i = true →
    s.coreRole c ≠ coreACTIVE ∨ s.spareOf (c.val / 5) = none ∨ s.liveDetours = false → ∃ t,
    exec (.detourRequest i c) s = .next t ∧ t.coreRole c = s.coreRole c ∧ t.cores = s.cores) ∧
  (∀ (s : State) (i : Port) (c : CoreId), s.powered = true → s.coreCount ≤ c.val → s.privileged i = true → ∃ t,
    exec (.detourRequest i c) s = .next t ∧ t.cores = s.cores ∧ t.wrote Code.DETOUR_REFUSED [i, c, detNOTACTIVE]) ∧
  (∀ (s : State) (i : Port) (c : CoreId), s.powered = true → c.val < s.coreCount → s.role i = roleSERVICE →
    s.coreRole c = coreFAILED → ∃ t, exec (.fenceClear i c) s = .next t ∧ c.val ∈ t.cores.fenceClear ∧
    t.wrote Code.CORE_FENCE_CLEARED [i, c]) ∧
  (∀ (s : State) (i : Port) (c : CoreId), s.powered = true → c.val < s.coreCount → s.role i ≠ roleSERVICE → ∃ t,
    exec (.fenceClear i c) s = .next t ∧ t.cores = s.cores ∧ t.wrote Code.CORE_ROLE [i, coreCtrlAt c])

/-- R152, R155 (Table ARITH-12), R156 (Table ARITH-13). That LDI extends the sign of imm32 is DEDUCED (log entry 112). -/
def Obligations.ScalarIntegers : Prop :=
  (∀ (s : State) (x : Issue), s.ScalarReady x 0x01 → ∃ t, exec (.add x) s = .next t ∧
    s.tookRd t x (s.rs1 x + s.rs2 x) ∧ s.memKept t x) ∧
  (∀ (s : State) (x : Issue), s.ScalarReady x 0x02 → ∃ t, exec (.sub x) s = .next t ∧
    s.tookRd t x (s.rs1 x - s.rs2 x) ∧ s.memKept t x) ∧
  (∀ (s : State) (x : Issue), s.ScalarReady x 0x03 → ∃ t, exec (.mul x) s = .next t ∧
    s.tookRd t x (s.rs1 x * s.rs2 x) ∧ s.memKept t x) ∧
  (∀ (s : State) (x : Issue), s.ScalarReady x 0x04 → ∃ t, exec (.and x) s = .next t ∧
    s.tookRd t x (s.rs1 x &&& s.rs2 x) ∧ s.memKept t x) ∧
  (∀ (s : State) (x : Issue), s.ScalarReady x 0x05 → ∃ t, exec (.or x) s = .next t ∧
    s.tookRd t x (s.rs1 x ||| s.rs2 x) ∧ s.memKept t x) ∧
  (∀ (s : State) (x : Issue), s.ScalarReady x 0x06 → ∃ t, exec (.xor x) s = .next t ∧
    s.tookRd t x (s.rs1 x ^^^ s.rs2 x) ∧ s.memKept t x) ∧
  (∀ (s : State) (x : Issue), s.ScalarReady x 0x07 → ∃ t, exec (.shl x) s = .next t ∧
    s.tookRd t x (s.rs1 x <<< ((s.rs2 x).toNat % 64)) ∧ s.memKept t x) ∧
  (∀ (s : State) (x : Issue), s.ScalarReady x 0x08 → ∃ t, exec (.shr x) s = .next t ∧
    s.tookRd t x (s.rs1 x >>> ((s.rs2 x).toNat % 64)) ∧ s.memKept t x) ∧
  (∀ (s : State) (x : Issue), s.ScalarReady x 0x09 → ∃ t, exec (.sar x) s = .next t ∧
    s.tookRd t x ((s.rs1 x).sshiftRight ((s.rs2 x).toNat % 64)) ∧ s.memKept t x) ∧
  (∀ (s : State) (x : Issue), s.ScalarReady x 0x0A → ∃ t, exec (.slt x) s = .next t ∧
    s.tookRd t x (if (s.rs1 x).slt (s.rs2 x) then 1 else 0) ∧ s.memKept t x) ∧
  (∀ (s : State) (x : Issue), s.ScalarReady x 0x0B → ∃ t, exec (.ldi x) s = .next t ∧
    s.tookRd t x ((BitVec.ofNat 32 (wImm32 x.word)).signExtend 64) ∧ s.memKept t x) ∧
  (∀ (s : State) (x : Issue), s.ScalarReady x 0x0C → ∃ t, exec (.div x) s = .next t ∧
    s.tookRd t x ((s.rs1 x).sdiv (s.rs2 x)) ∧ s.memKept t x) ∧
  (∀ (s : State) (x : Issue), s.ScalarReady x 0x0D → ∃ t, exec (.rem x) s = .next t ∧
    s.tookRd t x ((s.rs1 x).srem (s.rs2 x)) ∧ s.memKept t x) ∧
  (∀ (s : State) (x : Issue) (g : LegRun), s.ScalarReady x 0x0C ∨ s.ScalarReady x 0x0D → s.rs2 x = 0 →
    wWait x.word = 0 → wSignal x.word = 0 → s.legIn x.core grpSCALAR = some g → s.leg? g.id = some g → ∃ t u, exec (.div x) s = .next t ∧ exec (.rem x) s = .next u ∧
    (s.ScalarReady x 0x0C → (t.leg? g.id).map (fun h => h.divZero) = some (g.divZero + 1)) ∧
    (s.ScalarReady x 0x0D → (u.leg? g.id).map (fun h => h.divZero) = some (g.divZero + 1)))

/-- R150, R151, R155 (Table ARITH-12). The address of LD and ST and the format code of I64 are DEDUCED (log entry 112). -/
def Obligations.ScalarFloatsAndMemory : Prop :=
  (∀ (s : State) (x : Issue), s.ScalarReady x 0x10 → ∃ t, exec (.fadd x) s = .next t ∧
    s.tookRd t x (BitVec.ofNat 64 (fmtRound fmtFP32 (wSat x.word) ((fmtValue fmtFP32 (s.rs1 x).toNat).add (fmtValue fmtFP32 (s.rs2 x).toNat)))) ∧ s.memKept t x) ∧
  (∀ (s : State) (x : Issue), s.ScalarReady x 0x11 → ∃ t, exec (.fsub x) s = .next t ∧
    s.tookRd t x (BitVec.ofNat 64 (fmtRound fmtFP32 (wSat x.word) ((fmtValue fmtFP32 (s.rs1 x).toNat).sub (fmtValue fmtFP32 (s.rs2 x).toNat)))) ∧ s.memKept t x) ∧
  (∀ (s : State) (x : Issue), s.ScalarReady x 0x12 → ∃ t, exec (.fmul x) s = .next t ∧
    s.tookRd t x (BitVec.ofNat 64 (fmtRound fmtFP32 (wSat x.word) ((fmtValue fmtFP32 (s.rs1 x).toNat).mul (fmtValue fmtFP32 (s.rs2 x).toNat)))) ∧ s.memKept t x) ∧
  (∀ (s : State) (x : Issue), s.ScalarReady x 0x13 → ∃ t, exec (.ffma x) s = .next t ∧
    s.tookRd t x (BitVec.ofNat 64 (fmtRound fmtFP32 (wSat x.word) (((fmtValue fmtFP32 (s.rs1 x).toNat).mul (fmtValue fmtFP32 (s.rs2 x).toNat)).add (fmtValue fmtFP32 (s.rdOld x).toNat)))) ∧ s.memKept t x) ∧
  (∀ (s : State) (x : Issue), s.ScalarReady x 0x14 → ∃ t, exec (.fdiv x) s = .next t ∧
    s.tookRd t x (BitVec.ofNat 64 (fmtRound fmtFP32 (wSat x.word) ((fmtValue fmtFP32 (s.rs1 x).toNat).div (fmtValue fmtFP32 (s.rs2 x).toNat)))) ∧ s.memKept t x) ∧
  (∀ (s : State) (x : Issue), s.ScalarReady x 0x15 → ∃ t, exec (.fsqrt x) s = .next t ∧
    s.tookRd t x (BitVec.ofNat 64 (fmtRound fmtFP32 (wSat x.word) ((fmtValue fmtFP32 (s.rs1 x).toNat).sqrt))) ∧ s.memKept t x) ∧
  (∀ (s : State) (x : Issue), s.ScalarReady x 0x16 → wFmtA x.word = fmtI32 → wFmtD x.word = fmtFP32 → ∃ t, exec (.fcvt x) s = .next t ∧
    s.tookRd t x (BitVec.ofNat 64 (fmtRound fmtFP32 (wSat x.word) (fmtValue fmtI32 (s.rs1 x).toNat))) ∧ s.memKept t x) ∧
  (∀ (s : State) (x : Issue), s.ScalarReady x 0x16 → wFmtA x.word = fmtFP32 → wFmtD x.word = fmtI32 → ∃ t, exec (.fcvt x) s = .next t ∧
    s.tookRd t x ((BitVec.ofNat 32 (fmtRound fmtI32 (wSat x.word) (fmtValue fmtFP32 (s.rs1 x).toNat))).signExtend 64) ∧ s.memKept t x) ∧
  (∀ (s : State) (x : Issue), s.ScalarReady x 0x16 → wFmtA x.word = fmtNONE → wFmtD x.word = fmtFP32 → ∃ t, exec (.fcvt x) s = .next t ∧
    s.tookRd t x (BitVec.ofNat 64 (fmtRound fmtFP32 (wSat x.word) (.fin ((s.rs1 x).toInt < 0) (s.rs1 x).toInt.natAbs 0))) ∧ s.memKept t x) ∧
  (∀ (s : State) (x : Issue), s.ScalarReady x 0x16 → wFmtA x.word = fmtFP32 → wFmtD x.word = fmtNONE → ∃ t, exec (.fcvt x) s = .next t ∧
    s.tookRd t x (BitVec.ofNat 64 (toI64 (fmtValue fmtFP32 (s.rs1 x).toNat))) ∧ s.memKept t x) ∧
  (∀ (s : State) (x : Issue), s.ScalarReady x 0x0E → s.clean → ∃ t, exec (.ld x) s = .next t ∧
    s.tookRd t x (BitVec.ofNat 64 (leNat (s.rangeBytes (sramSegs x.core (s.sramOffset x) 8)))) ∧ s.memKept t x) ∧
  (∀ (s : State) (x : Issue), s.ScalarReady x 0x0F → ∃ t, exec (.st x) s = .next t ∧
    (∀ u r, u < 4 → r < 64 → t.sreg x.core u r = s.sreg x.core u r) ∧
    (wSignal x.word = 0 → (t.mem = (s.storeSram x.core (s.sramOffset x) (leBytes 8 (s.rs2 x).toNat)).mem) ∧
      (∀ a, (∀ k, k < 8 → a ≠ sramBase x.core + (s.sramOffset x + k) % 0x800000) → t.rd a 1 = s.rd a 1) ∧
      ∀ k, k < 8 → t.rd (sramBase x.core + (s.sramOffset x + k) % 0x800000) 1 = (s.rs2 x).toNat / 256 ^ k % 256))

/-- R117, R157, R158, R159, R168 to R171 (Tables ARITH-13 to ARITH-15). That a wait uses up a local token is DEDUCED (log entry 97). -/
def Obligations.ScalarControl : Prop :=
  (∀ (s : State) (x : Issue), s.ScalarReady x 0x20 → wImm32 x.word % 256 = 1 → ∃ t, exec (.rdv x) s = .next t ∧
    s.tookRd t x (BitVec.ofNat 64 (s.get64 (F.PERF_TICK_LO_ticks x.core) (F.PERF_TICK_HI_ticks x.core))) ∧ s.memKept t x) ∧
  (∀ (s : State) (x : Issue), s.ScalarReady x 0x20 → wImm32 x.word % 256 = 3 → ∃ t, exec (.rdv x) s = .next t ∧
    s.tookRd t x (BitVec.ofNat 64 s.milestone) ∧ s.memKept t x) ∧
  (∀ (s : State) (x : Issue), s.ScalarReady x 0x20 → wImm32 x.word % 256 = 4 → ∃ t, exec (.rdv x) s = .next t ∧
    s.tookRd t x (BitVec.ofNat 64 (s.get (F.PACE_MISS_count x.core))) ∧ s.memKept t x) ∧
  (∀ (s : State) (x : Issue), s.ScalarReady x 0x20 → wImm32 x.word % 256 = 5 → ∃ t, exec (.rdv x) s = .next t ∧
    s.tookRd t x ((BitVec.ofNat 12 (s.get (F.PACE_SLACK_slack x.core))).signExtend 64) ∧ s.memKept t x) ∧
  (∀ (s : State) (x : Issue), s.ScalarReady x 0x20 → wImm32 x.word % 256 = 6 → ∃ t, exec (.rdv x) s = .next t ∧
    s.tookRd t x (BitVec.ofNat 64 (s.perfCount x.core (wImm32 x.word / 256 % 8))) ∧ s.memKept t x) ∧
  (∀ (s : State) (x : Issue), s.ScalarReady x 0x20 → wImm32 x.word % 256 = 2 → ∃ t,
    exec (.rdv x) s = .next t ∧ s.memKept t x ∧ ∀ u r, u < 4 → r < 64 → t.sreg x.core u r =
      if u = wUnit x.word ∧ r = (wRd x.word + 1) % 64 then s.clk.ns % 2 ^ 64
      else if u = wUnit x.word ∧ r = wRd x.word then s.clk.sec % 2 ^ 48 else s.sreg x.core u r) ∧
  (∀ (s : State) (x : Issue), s.ScalarReady x 0x20 → wImm32 x.word % 256 = 7 → ∃ t v,
    exec (.rdv x) s = .next t ∧ s.tookRd t x v ∧ s.memKept t x) ∧
  (∀ (s : State) (x : Issue) (l : List LoopRun), s.Ready x 0x6 0x01 grpSCALAR → s.legsApart →
    l = (s.core x.core).loops.filter (fun e => e.has x.offset.toNat) → l.length < 4 → ∃ t,
    exec (.loop x) s = .next t ∧ s.memKept t x ∧
    (t.core x.core).loops = (if wBody x.word = 0 then [] else
      [{ first := x.offset.toNat + 1, body := wBody x.word, left := wImm32 x.word, words := [] }]) ++ (loopStep x l).1 ∧
    (t.core x.core).held = (loopStep x l).2.map (fun y => (y, s.legOf x grpSCALAR)) ++ (s.core x.core).held) ∧
  (∀ (s : State) (x : Issue), s.Ready x 0x7 0x01 grpSCALAR → s.localTokens x.core →
    (∀ k ∈ tokensOf (wImm32 x.word), (s.core x.core).tokens.testBit k = true ∧ (wWait x.word).testBit k = false) → ∃ t,
    exec (.waitt x) s = .next t ∧ (t.core x.core).waiting = none ∧ t.mem = s.mem ∧
    s.movedTokens t x.core (wWait x.word ||| wImm32 x.word) (wSignal x.word)) ∧
  (∀ (s : State) (x : Issue) (k : Nat), s.Ready x 0x7 0x01 grpSCALAR →
    s.localTokens x.core → k ∈ tokensOf (wImm32 x.word) → (s.core x.core).tokens.testBit k = false → ∃ t,
    exec (.waitt x) s = .next t ∧ (t.core x.core).waiting = some (wImm32 x.word % 256 + 256 * wSignal x.word,
      (s.legIn x.core grpSCALAR).map (fun g => g.id)) ∧ t.mem = s.mem ∧ s.movedTokens t x.core (wWait x.word) 0) ∧
  (∀ (s : State) (c : CoreId) (m : Nat) (id : Option Nat), s.powered = true → s.localTokens c →
    (s.core c).waiting = some (m, id) → (∀ k ∈ tokensOf m, (s.core c).tokens.testBit k = true) → ∃ t,
    exec (.waittComplete c) s = .next t ∧ (t.core c).waiting = none ∧ t.mem = s.mem ∧ s.movedTokens t c m (m / 256)) ∧
  (∀ (s : State) (c : CoreId), s.powered = true → s.localTokens c → (∀ m id, (s.core c).waiting = some (m, id) →
    ∃ k ∈ tokensOf m, (s.core c).tokens.testBit k = false) → ∃ t u, exec (.waittComplete c) s = .next t ∧ t.exec = s.exec ∧
    t.route = s.route ∧ exec (.vergeTimeout c) s = .next u ∧ u.exec = s.exec ∧ u.route = s.route) ∧
  (∀ (s : State) (c : CoreId) (m i k a : Nat) (g : LegRun), s.powered = true → (s.core c).waiting = some (m, some i) →
    s.leg? i = some g → g.id = i → k ∈ tokensOf m → s.vergeSlot c k = some a → s.tokState c k ≠ .ready → ∃ t,
    exec (.vergeTimeout c) s = .next t ∧ (∀ h ∈ t.route.legs, h.id ≠ i)) ∧
  (∀ (s : State) (x : Issue), s.Ready x 0x7 0x02 grpSCALAR → s.legsApart → s.localTokens x.core →
    ∃ t, exec (.signal x) s = .next t ∧ t.mem = s.mem ∧ s.movedTokens t x.core (wWait x.word) (wImm32 x.word ||| wSignal x.word)) ∧
  (∀ (s : State) (x : Issue) (k a g : Nat), s.Ready x 0x7 0x02 grpSCALAR → s.legsApart →
    wWait x.word = 0 → wSignal x.word = 0 → k < 8 → wImm32 x.word % 256 = 2 ^ k → s.vergeSlot x.core k = some a →
    g = s.postGen x.core k a → g < 65536 → ∃ t, exec (.signal x) s = .next t ∧ t.rd (a + 2 * (g % 2)) 2 = g ∧
    tget 2 t.route.vergePut a = genAfter g ∧
    ∀ b, b < a + 2 * (g % 2) ∨ a + 2 * (g % 2) + 2 ≤ b → t.rd b 1 = s.rd b 1) ∧
  (∀ (s : State) (x : Issue) (k a g : Nat), s.Ready x 0x7 0x01 grpSCALAR → s.legsApart →
    wWait x.word = 0 → wSignal x.word = 0 → k < 8 → wImm32 x.word % 256 = 2 ^ k → s.vergeSlot x.core k = some a →
    g = s.takeGen x.core k a → s.rd (a + 2 * (g % 2)) 2 = g → ∃ t, exec (.waitt x) s = .next t ∧ t.mem = s.mem ∧
    tget 2 t.route.vergeGet a = genAfter g ∧ (t.core x.core).waiting = none ∧ (t.core x.core).tokens = (s.core x.core).tokens) ∧
  (∀ (s : State) (x : Issue), s.Ready x 0x0 (wOp x.word) x.group → nopUnit x.group x.word = true → s.legsApart →
    s.localTokens x.core → ∃ t,
    exec (.nop x) s = .next t ∧ t.mem = s.mem ∧ s.movedTokens t x.core (wWait x.word) (wSignal x.word) ∧
    (∀ u r, u < 4 → r < 64 → t.sreg x.core u r = s.sreg x.core u r) ∧ s.rowsKept t x 0 0) ∧
  (∀ (s : State) (x : Issue) (n ss so ds dof : Nat), s.Ready x 0x8 (wOp x.word) grpTRANSFER → s.clean →
    n = wCount x.word → ss = wField x.word 77 3 → so = wField x.word 48 29 → ds = wField x.word 45 3 →
    dof = wField x.word 16 29 → so + n ≤ s.spaceUnits x.core ss → dof + n ≤ s.spaceUnits x.core ds → ∃ t,
    exec (.transfer x) s = .next t ∧ (wSignal x.word = 0 →
      t.mem = (s.store (s.spaceAddr x.core ds dof) (s.bytes (s.spaceAddr x.core ss so) (64 * n))).mem))

/-- R141 to R148, R155 (Table ARITH-10), R178, R443. Where scale planes stand and which row an anchor comes from are DEDUCED, and the row size in imm10 is the model's choice (log entries 108, 109). -/
def Obligations.MatrixWords : Prop :=
  (∀ (s : State) (x : Issue) (k : Nat), s.Ready x 0x1 0x01 grpMATRIX → s.clean → tileK (wFmtA x.word) (wFmtB x.word) = some k → ∃ t,
    exec (.mload x) s = .next t ∧
    (t.core x.core).standby = some { fmt := wFmtB x.word, k := k, elems := (bytesCodes (wFmtB x.word) (k * 512)
        (s.rangeBytes (rawRanges x.core (wSrcB x.word) (fmtSize (wFmtB x.word) (k * 512))))), scales :=
        (if isMxFmt (wFmtB x.word) then (s.rangeBytes (rawRanges x.core (wSrcA x.word) (k / 32 * 512))).map BitVec.toNat else []) } ∧
    (t.core x.core).active = (s.core x.core).active ∧ s.rowsKept t x 0 0 ∧ s.memKept t x) ∧
  (∀ (s : State) (x : Issue) (b : Tile), s.Ready x 0x1 0x02 grpMATRIX →
    (s.core x.core).standby = some b → ∃ t, exec (.mswap x) s = .next t ∧ (t.core x.core).active = some b ∧
    (t.core x.core).standby = none ∧ s.rowsKept t x 0 0 ∧ s.memKept t x) ∧
  (∀ (s : State) (x : Issue), s.Ready x 0x1 0x02 grpMATRIX → (s.core x.core).standby = none → ∃ t,
    exec (.mswap x) s = .next t ∧ (t.core x.core).active = (s.core x.core).active ∧ s.rowsKept t x 0 0 ∧ s.memKept t x) ∧
  (∀ (s : State) (x : Issue) (b : Tile) (n sz blocks : Nat), s.Ready x 0x1 0x03 grpMATRIX → s.clean →
    b = (s.core x.core).active.getD (tileZero (wFmtB x.word) ((pairK (wFmtA x.word) (wFmtB x.word)).getD 0)) →
    b.fmt = wFmtB x.word → pairK (wFmtA x.word) (wFmtB x.word) = some b.k →
    n = wCount x.word → sz = rowBytes x.word b.k → blocks = 8 * sz / fmtBits (wFmtA x.word) / 32 → ∃ t,
    exec (.mma x) s = .next t ∧ (t.core x.core).active = (s.core x.core).active ∧ s.rowsKept t x (wDst x.word) n ∧ s.memKept t x ∧
    ∀ j col, j < n → col < 512 → ((t.core x.core).row (wDst x.word + j)).getD col cell0 =
      (dotRow ((s.core x.core).rowMode (wDst x.word + j)).2 (isWide (wFmtA x.word)) ((s.core x.core).rowMode (wDst x.word + j)).1
        ((s.core x.core).row (wDst x.word + j)) (codeValues (wFmtA x.word)
          (bytesCodes (wFmtA x.word) b.k ((rowsOf sz n
            (s.rangeBytes (rawRanges x.core (wSrcA x.word) ((n - 1) * sz + fmtSize (wFmtA x.word) b.k)))).getD j []))
          (if isMxFmt (wFmtA x.word) then ((rowsOf blocks n
            ((s.rangeBytes (rawRanges x.core (wSrcB x.word) ((n - 1) * blocks + b.k / 32))).map BitVec.toNat)).getD j []).take (b.k / 32)
           else []))
        b.values).getD col cell0) ∧
  (∀ (s : State) (x : Issue) (n : Nat), s.Ready x 0x2 0x01 grpMATRIX → n = wCount x.word → ∃ t,
    exec (.aclr x) s = .next t ∧ s.rowsKept t x (wDst x.word) n ∧ s.memKept t x ∧
    ∀ r, wDst x.word ≤ r → r < wDst x.word + n → (t.core x.core).row r = List.replicate 512 cell0 ∧
      (t.core x.core).rowMode r = (toSigned 10 (wImm10 x.word), wFmtD x.word == fmtFP32)) ∧
  (∀ (s : State) (x : Issue), s.Ready x 0x2 0x02 grpMATRIX → s.clean → ∃ t,
    exec (.abias x) s = .next t ∧ s.rowsKept t x 0 0 ∧ s.memKept t x ∧
    (t.core x.core).bias = (bytesCodes (wFmtA x.word) 512 (s.rangeBytes (rawRanges x.core (wSrcA x.word)
      (fmtSize (wFmtA x.word) 512)))).map (fun v => (wFmtA x.word, v))) ∧
  (∀ (s : State) (x : Issue), s.Ready x 0x2 0x03 grpMATRIX → s.clean → ∃ t,
    exec (.ascale x) s = .next t ∧ s.rowsKept t x 0 0 ∧ s.memKept t x ∧
    (t.core x.core).scale = bytesCodes fmtFP32 512 (s.rangeBytes (rawRanges x.core (wSrcA x.word) 2048))) ∧
  (∀ (s : State) (x : Issue), s.Ready x 0x2 0x04 grpMATRIX → wFmtD x.word ≠ fmtACC80 →
    (∀ d ∈ s.drained x ((wImm10 x.word).testBit 0), d.2.2.2.2.breach = false ∧ d.2.2.2.2.nonfinite = false) → ∃ t,
    exec (.adrain x) s = .next t ∧ s.rowsKept t x 0 0 ∧ (wSignal x.word = 0 →
      t.mem = ((s.storeRaw x.core (wDst x.word) (destBytes (wFmtD x.word) (wSat x.word)
        ((s.drained x ((wImm10 x.word).testBit 0)).map (fun d => drainValue (d.2.2.2.2.value d.2.2.1 d.2.2.2.1) (wFmtD x.word)
          (toSigned 8 (wImm10 x.word / 4)) (if (wImm10 x.word).testBit 1 then some ((s.core x.core).scale.getD d.2.1 0) else none))))
        ).storeRaw x.core (wSrcB x.word) (tileStatus (s.drained x ((wImm10 x.word).testBit 0))).bytes).mem)) ∧
  (∀ (s : State) (x : Issue), s.Ready x 0x2 0x04 grpMATRIX → wFmtD x.word = fmtACC80 →
    (∀ d ∈ s.drained x ((wImm10 x.word).testBit 0), d.2.2.2.2.breach = false ∧ d.2.2.2.2.nonfinite = false) → ∃ t,
    exec (.adrain x) s = .next t ∧ s.rowsKept t x 0 0 ∧ (wSignal x.word = 0 →
      t.mem = ((s.storeRaw x.core (wDst x.word) (codesBytes fmtACC80 ((s.drained x ((wImm10 x.word).testBit 0)).map (fun d =>
        accCode (savedS d) d.2.2.2.1 false false d.2.2.2.2.coarse)))).storeRaw x.core (wSrcB x.word)
        (tileStatus (s.drained x ((wImm10 x.word).testBit 0))).bytes).mem)) ∧
  (∀ (s : State) (x : Issue) (fold : Bool), s.Ready x 0x2 0x05 grpMATRIX → fold = (s.took x).isFold (s.legOf x grpMATRIX) → ∃ t,
    exec (.asave x) s = .next t ∧ s.rowsKept t x 0 0 ∧ (wSignal x.word = 0 →
      fold = true ∨ s.legOf x grpMATRIX = none ∨ (∀ d ∈ s.drained x fold, d.2.2.2.2.breach = false ∧ d.2.2.2.2.nonfinite = false) →
      t.mem = (s.storeRaw x.core (wDst x.word) (codesBytes fmtACC80 ((s.drained x fold).map (fun d =>
        accCode (savedS d) d.2.2.2.1 d.2.2.2.2.breach d.2.2.2.2.nonfinite d.2.2.2.2.coarse)))).mem)) ∧
  (∀ (s : State) (x : Issue) (n : Nat), s.Ready x 0x2 0x06 grpMATRIX → s.clean → n = wCount x.word →
    ∃ t, exec (.arestore x) s = .next t ∧ s.rowsKept t x (wDst x.word) n ∧ s.memKept t x ∧
    ∀ (j : Nat) (cs : List Nat), j < n → (rowsOf 512 n (bytesCodes fmtACC80 (n * 512) (s.rangeBytes (rawRanges x.core (wSrcA x.word) (n * 8192)))))[j]? =
      some cs → (t.core x.core).rowMode (wDst x.word + j) = (accAnchor (cs.headD 0), false) ∧
      ∀ col, col < 512 → ((t.core x.core).row (wDst x.word + j)).getD col cell0 =
        restoredCell (cs.getD col 0))

/-- R149 to R155 (Table ARITH-11). The codes of the conditions and the result for the most negative integer are free (log entries 103, 104); sub-operation codes and the mask operand are DEDUCED (log entries 102, 103). -/
def Obligations.VectorWords : Prop :=
  (∀ (s : State) (x : Issue), s.VectorReady x 0x01 → ∃ t,
    exec (.vadd x) s = .next t ∧ s.tookLanes t x true (List.zipWith (fun p q => codeD x (Num.op2 FV.add (· + ·) (numA x p) (numB x q))) (s.lanesA x true) (s.lanesB x))) ∧
  (∀ (s : State) (x : Issue), s.VectorReady x 0x02 → ∃ t,
    exec (.vsub x) s = .next t ∧ s.tookLanes t x true (List.zipWith (fun p q => codeD x (Num.op2 FV.sub (· - ·) (numA x p) (numB x q))) (s.lanesA x true) (s.lanesB x))) ∧
  (∀ (s : State) (x : Issue), s.VectorReady x 0x03 → ∃ t,
    exec (.vmul x) s = .next t ∧ s.tookLanes t x true (List.zipWith (fun p q => codeD x (Num.op2 FV.mul (· * ·) (numA x p) (numB x q))) (s.lanesA x true) (s.lanesB x))) ∧
  (∀ (s : State) (x : Issue), s.VectorReady x 0x05 → ∃ t,
    exec (.vdiv x) s = .next t ∧ s.tookLanes t x true (List.zipWith (fun p q => codeD x (Num.op2 FV.div intDiv (numA x p) (numB x q))) (s.lanesA x true) (s.lanesB x))) ∧
  (∀ (s : State) (x : Issue), s.VectorReady x 0x06 → ∃ t,
    exec (.vmin x) s = .next t ∧ s.tookLanes t x true (List.zipWith (fun p q => codeD x (Num.op2 (FV.minMax false) min (numA x p) (numB x q))) (s.lanesA x true) (s.lanesB x))) ∧
  (∀ (s : State) (x : Issue), s.VectorReady x 0x07 → ∃ t,
    exec (.vmax x) s = .next t ∧ s.tookLanes t x true (List.zipWith (fun p q => codeD x (Num.op2 (FV.minMax true) max (numA x p) (numB x q))) (s.lanesA x true) (s.lanesB x))) ∧
  (∀ (s : State) (x : Issue), s.VectorReady x 0x04 → ∃ t,
    exec (.vfma x) s = .next t ∧ s.tookLanes t x true (List.zipWith (fun pq r => fmtRound (wFmtD x.word) (wSat x.word)
      (((fmtValue (wFmtA x.word) pq.1).mul (fmtValue (wFmtB x.word) pq.2)).add (fmtValue (wFmtD x.word) r)))
      ((s.lanesA x true).zip (s.lanesB x)) (s.lanesD x))) ∧
  (∀ (s : State) (x : Issue), s.VectorReady x 0x08 → ∃ t, exec (.vabs x) s = .next t ∧
    s.tookLanes t x false ((s.lanesA x false).map (fun p => codeD x (match numA x p with
      | .f v => .f (FV.abs v)
      | .i v => if v = intLo (wFmtA x.word) then .i (Config.absLeast (BitVec.ofNat 4 (wFmtA x.word))).toNat else .i ((fun i => (i.natAbs : Int)) v))))) ∧
  (∀ (s : State) (x : Issue), s.VectorReady x 0x09 → ∃ t, exec (.vneg x) s = .next t ∧
    s.tookLanes t x false ((s.lanesA x false).map (fun p => codeD x (match numA x p with
      | .f v => .f (FV.negate v)
      | .i v => if v = intLo (wFmtA x.word) then .i (Config.absLeast (BitVec.ofNat 4 (wFmtA x.word))).toNat else .i ((fun i => -i) v))))) ∧
  (∀ (s : State) (x : Issue), s.VectorReady x 0x0A → ∃ t, exec (.vcmp x) s = .next t ∧ s.tookLanes t x true (List.zipWith (fun p q =>
      if (Config.vcmpHolds (BitVec.ofNat 10 (wImm10 x.word))).toNat.testBit (numRel (numA x p) (numB x q))
      then 2 ^ fmtBits (wFmtD x.word) - 1 else 0) (s.lanesA x true) (s.lanesB x))) ∧
  (∀ (s : State) (x : Issue), s.VectorReady x 0x0B → ∃ t, exec (.vsel x) s = .next t ∧ s.tookLanes t x true
      (List.zipWith (fun pq m => if m = 0 then pq.2 else pq.1) ((s.lanesA x true).zip (s.lanesB x)) (s.lanesD x))) ∧
  (∀ (s : State) (x : Issue) (vs : List FV), s.VectorReady x 0x0C → vs = s.converted x → isMxFmt (wFmtD x.word) = false → ∃ t,
    exec (.vcvt x) s = .next t ∧ s.tookLanes t x false (vs.map (fun v =>
      if wFmtD x.word = fmtACC80 then accConvert (toSigned 10 (wImm10 x.word)) v else fmtRound (wFmtD x.word) (wSat x.word) v))) ∧
  (∀ (s : State) (x : Issue) (bs : List Byte), s.VectorReady x 0x0C → isMxFmt (wFmtD x.word) = true →
    bs = destBytes (wFmtD x.word) true (s.converted x) → ∃ t, exec (.vcvt x) s = .next t ∧ (wSignal x.word = 0 →
      t.mem = (s.storeRanges (rawUnit x.core (wUnit x.word) (wDst x.word) bs.length) bs).mem)) ∧
  (∀ (s : State) (x : Issue) (f : Nat), s.VectorReady x 0x0D → f = wFmtA x.word → ∃ t, exec (.vlogic x) s = .next t ∧ s.tookLanes t x true
      (List.zipWith (fun p q => if wImm10 x.word = 0 then p &&& q else if wImm10 x.word = 1 then p ||| q else if wImm10 x.word = 2 then p ^^^ q
        else p - (p &&& q)) (s.lanesA x true) (s.lanesB x))) ∧
  (∀ (s : State) (x : Issue) (f : Nat), s.VectorReady x 0x0E → f = wFmtA x.word → ∃ t, exec (.vshift x) s = .next t ∧ s.tookLanes t x true
      (List.zipWith (fun p q => shiftCode (wImm10 x.word) (fmtBits f) p q) (s.lanesA x true) (s.lanesB x))) ∧
  (∀ (s : State) (x : Issue) (f : Nat), s.VectorReady x 0x0F → wImm10 x.word = 0 → f = wFmtA x.word → ∃ t, exec (.vadds x) s = .next t ∧ s.tookLanes t x true
      (List.zipWith (fun p q => intCode f (max (intLo f) (min (intHi f) (intOf f p + intOf f q)))) (s.lanesA x true) (s.lanesB x))) ∧
  (∀ (s : State) (x : Issue) (f : Nat), s.VectorReady x 0x0F → wImm10 x.word = 1 → f = wFmtA x.word → ∃ t, exec (.vsubs x) s = .next t ∧ s.tookLanes t x true
      (List.zipWith (fun p q => intCode f (max (intLo f) (min (intHi f) (intOf f p - intOf f q)))) (s.lanesA x true) (s.lanesB x))) ∧
  (∀ (s : State) (x : Issue), s.VectorReady x 0x10 → ∃ t, exec (.vfunc x) s = .next t ∧ s.tookLanes t x false ((s.lanesA x false).map (fun p =>
      fmtRound (wFmtD x.word) (wSat x.word) (vfunc (wImm10 x.word) (fmtValue (wFmtA x.word) p))))) ∧
  (∀ (s : State) (x : Issue) (g : Machine.Num → Machine.Num → Machine.Num), s.VectorReady x 0x11 →
    (wImm10 x.word = 0 ∧ g = Num.op2 FV.add (· + ·)) ∨ (wImm10 x.word = 1 ∧ g = Num.op2 (FV.minMax false) min) ∨
      (wImm10 x.word = 2 ∧ g = Num.op2 (FV.minMax true) max) → ∃ t, exec (.vred x) s = .next t ∧ s.tookLanes t x false
      (treeReduce (fun a b => codeD x (g (numOf (wFmtD x.word) a) (numOf (wFmtD x.word) b))) (fun v => v) 17
        (treeLevel (fun a b => codeD x (g (numA x a) (numA x b))) (fun a => codeD x (numA x a)) (s.lanesA x false)))) ∧
  (∀ (s : State) (x : Issue) (c : AccCell), s.VectorReady x 0x12 →
    c = vasum (toSigned 10 (wImm10 x.word)) (wFmtA x.word == fmtACC80) (s.lanesA x false) → c.breach = false → c.nonfinite = false →
    ∃ t, exec (.vasum x) s = .next t ∧ s.tookLanes t x false [if wFmtD x.word = fmtACC80
      then accCode c.s (toSigned 10 (wImm10 x.word)) false false c.coarse
      else fmtRound (wFmtD x.word) (wSat x.word) (c.value false (toSigned 10 (wImm10 x.word)))]) ∧
  (∀ (s : State) (x : Issue), s.VectorReady x 0x13 → ∃ t,
    exec (.vmov x) s = .next t ∧ s.tookLanes t x false (s.lanesA x false))

/-- R192 to R195, R202 (Tables IRR-1, IRR-2, IRR-6). The assignment of locations and the status layout are DEDUCED (log entry 119). -/
def Obligations.IrregularCalls : Prop :=
  (∀ (s : State) (x : Issue), s.IrregReady x 0x01 → ∃ t, exec (.gather x) s = .next t ∧
    s.startedIrreg t x 0x01 (irrGather (s.took x) (s.irrOf x) ((s.took x).irrLoc x))) ∧
  (∀ (s : State) (x : Issue), s.IrregReady x 0x02 → ∃ t, exec (.scatter x) s = .next t ∧
    s.startedIrreg t x 0x02 (irrScatter (s.took x) (s.irrOf x) ((s.took x).irrLoc x))) ∧
  (∀ (s : State) (x : Issue), s.IrregReady x 0x03 → ∃ t, exec (.segred x) s = .next t ∧
    s.startedIrreg t x 0x03 (irrSegred (s.took x) (s.irrOf x) ((s.took x).irrLoc x))) ∧
  (∀ (s : State) (x : Issue), s.IrregReady x 0x04 → ∃ t, exec (.scan x) s = .next t ∧
    s.startedIrreg t x 0x04 (irrScan (s.took x) (s.irrOf x) ((s.took x).irrLoc x))) ∧
  (∀ (s : State) (x : Issue), s.IrregReady x 0x05 → ∃ t, exec (.compact x) s = .next t ∧
    s.startedIrreg t x 0x05 (irrCompact (s.took x) (s.irrOf x) ((s.took x).irrLoc x))) ∧
  (∀ (s : State) (x : Issue), s.IrregReady x 0x06 → ∃ t, exec (.sort x) s = .next t ∧
    s.startedIrreg t x 0x06 (irrSort (s.took x) (s.irrOf x) ((s.took x).irrLoc x))) ∧
  (∀ (s : State) (x : Issue), s.IrregReady x 0x07 → ∃ t, exec (.merge x) s = .next t ∧
    s.startedIrreg t x 0x07 (irrMerge (s.took x) (s.irrOf x) ((s.took x).irrLoc x))) ∧
  (∀ (s : State) (x : Issue), s.IrregReady x 0x08 → ∃ t, exec (.topk x) s = .next t ∧
    s.startedIrreg t x 0x08 (irrTopk (s.took x) (s.irrOf x) ((s.took x).irrLoc x))) ∧
  (∀ (s : State) (x : Issue), s.IrregReady x 0x09 → ∃ t, exec (.unique x) s = .next t ∧
    s.startedIrreg t x 0x09 (irrUnique (s.took x) (s.irrOf x) ((s.took x).irrLoc x))) ∧
  (∀ (s : State) (x : Issue), s.IrregReady x 0x0A → ∃ t, exec (.label x) s = .next t ∧
    s.startedIrreg t x 0x0A (irrLabel (s.took x) (s.irrOf x) ((s.took x).irrLoc x))) ∧
  (∀ (s : State) (x : Issue), s.IrregReady x 0x0B → ∃ t, exec (.graphCc x) s = .next t ∧
    s.startedIrreg t x 0x0B (irrGraphCc (s.took x) (s.irrOf x) ((s.took x).irrLoc x))) ∧
  (∀ (s : State) (x : Issue), s.IrregReady x 0x0C → ∃ t, exec (.expand x) s = .next t ∧
    s.startedIrreg t x 0x0C (irrExpand (s.took x) (s.irrOf x) ((s.took x).irrLoc x))) ∧
  (∀ (s : State) (c : CoreId) (i : Nat) (k : Call), s.powered = true → s.firstCall c [callIRREG] i k → k.codes = [] →
    k.causes = [] → ∃ t, exec (.irregCallComplete c) s = .next t ∧ s.endedCall t c i k) ∧
  (∀ (s : State) (c : CoreId) (i : Nat) (k : Call) (code : Nat) (ps : List Nat), s.powered = true →
    s.firstCall c [callIRREG] i k → k.leg = none → k.codes = [(code, ps)] → k.causes = [] → ∃ t,
    exec (.irregCallComplete c) s = .next t ∧ s.endedCall t c i k ∧ t.wrote code (s.corePart c :: 0xFFFF :: ps)) ∧
  (∀ (s : State) (c : CoreId), s.powered = true → (∀ k ∈ (s.core c).calls, k.kind ∉ [callIRREG]) → ∃ t,
    exec (.irregCallComplete c) s = .next t ∧ t.exec = s.exec ∧ t.mem = s.mem ∧ t.route = s.route)

/-- R184 to R189, R212, R214, R217, R398 to R401. Plane, record and descriptor layouts are DEDUCED where the spec gives none (log entries 94, 95, 117, 118, 122). -/
def Obligations.DescriptorCalls : Prop :=
  (∀ (s : State) (x : Issue) (r : List Byte) (d : EdgeDesc), s.CallReady x 0x9 callEDGE engEDGE → r = s.descriptor x.core x.word →
    d = edgeDesc r → d.legal (recField r 0 1) = true → isMxFmt d.fout = false → d.fout ≠ fmtACC80 → ∃ t, ∃ k : Call, ∃ st : TileStatus,
    exec (.erun x) s = .next t ∧ s.started t x k ∧ k.isOf s x callEDGE 1 grpTRANSFER ∧ k.ticks = d.ticks ∧
    k.writes = ((upTo d.rows).flatMap (fun y => (upTo d.outCols).map (fun q =>
      ((s.took x).locAddr x.core (d.locs.getD 4 0) + 64 * d.outStride * y + pad64 (fmtSize d.fout d.cout) * q,
        destBytes d.fout (wSat x.word) ((upTo d.cout).map (fun n => drainValue (((s.took x).edgeCell d
          ((s.took x).locAddr x.core (d.locs.getD 0 0))
          (bytesCodes d.fw (d.kh * d.kw * d.cin * d.cout) (s.bytes ((s.took x).locAddr x.core (d.locs.getD 1 0)) (d.kh * d.kw * d.cin * d.cout)))
          (bytesCodes fmtFP32 d.cout (s.bytes ((s.took x).locAddr x.core (d.locs.getD 2 0)) (4 * d.cout))) y q n).value false d.anchor)
          d.fout d.shift (if d.scale then some ((bytesCodes fmtFP32 d.cout (s.bytes ((s.took x).locAddr x.core (d.locs.getD 3 0))
          (4 * d.cout))).getD n 0) else none))))))) ++ [((s.took x).locAddr x.core (d.locs.getD 5 0), st.bytes)]) ∧
  (∀ (s : State) (x : Issue) (r : List Byte) (n cls m d : Nat), s.CallReady x 0xB callPOST engPOST → r = s.descriptor x.core x.word →
    postLegal r = true → cls = recField r 2 2 → n = recField r 4 4 → m = recField r 8 2 → d = recField r 10 2 → ∃ t, ∃ k : Call, ∃ kept : List Cand, ∃ above dropped flags : Nat,
    exec (.prun x) s = .next t ∧ s.started t x k ∧ k.isOf s x callPOST 1 grpTRANSFER ∧ k.ticks = postTicks n cls m ∧ kept.length ≤ d ∧
    k.writes = [((s.took x).locAddr x.core (recField r 44 4), leBytes 2 kept.length ++ [0, 0] ++ leBytes 4 above ++
      leBytes 4 dropped ++ leBytes 1 flags ++ List.replicate 19 0 ++ kept.flatMap candBytes)]) ∧
  (∀ (s : State) (x : Issue) (d : WalkDesc) (tpp : Nat) (fit rest : List WalkSlot), s.CallReady x 0xA callWALK engWALK →
    d = walkDesc (s.descriptor x.core x.word) → d.kind = 1 → d.legal = true →
    tpp = (s.took x).walkTokens x.core (s.legOf x grpTRANSFER) → (fit, rest) = fitSlots (fun z => cdiv (z.past + z.fresh) tpp) d.pages 0
      ((s.took x).walkSlots d ((s.took x).locAddr x.core (d.locs.getD 0 0))) → ∃ t, ∃ k : Call,
    exec (.gatherKv x) s = .next t ∧ s.started t x k ∧ k.isOf s x callWALK 1 grpTRANSFER ∧ k.ticks = walkTicks d ∧
    (k.codes = [] ↔ rest = []) ∧ ∃ pages : List (Option Nat × Nat), ∃ status : List Byte,
    pages = fit.flatMap (fun z => (upTo (cdiv (z.past + z.fresh) tpp)).map (fun j =>
      (if z.state = 2 then none else pageOf ((s.took x).snapshotTable (s.corePart x.core) (s.legOf x grpTRANSFER)) d z j,
        z.past + z.fresh - j * tpp))) ∧
    k.writes = pages.mapIdx (fun i e => ((s.took x).locAddr x.core (d.locs.getD 1 0) + 32768 * i, match e.1 with
        | some g => maskPlane (2048 / tpp) tpp e.2 (s.bytes (hbmBase + 65536 * g) 32768)
        | none => List.replicate 32768 0)) ++
      pages.mapIdx (fun i e => ((s.took x).locAddr x.core (d.locs.getD 2 0) + 32768 * i, match e.1 with
        | some g => maskPlane (2048 / tpp) tpp e.2 (s.bytes (hbmBase + 65536 * g + 32768) 32768)
        | none => List.replicate 32768 0)) ++ [((s.took x).locAddr x.core (d.locs.getD 3 0), status)]) ∧
  (∀ (s : State) (x : Issue) (d : WalkDesc) (tpp : Nat) (fit rest : List WalkSlot), s.CallReady x 0xA callWALK engWALK →
    d = walkDesc (s.descriptor x.core x.word) → d.kind = 2 → d.legal = true →
    tpp = (s.took x).walkTokens x.core (s.legOf x grpTRANSFER) → (fit, rest) = fitSlots (fun z => (writePages tpp z).length) d.pages 0
      ((s.took x).walkSlots d ((s.took x).locAddr x.core (d.locs.getD 0 0))) →
    (∀ z ∈ fit, ∀ j ∈ writePages tpp z, ∀ g, pageOf ((s.took x).snapshotTable (s.corePart x.core) (s.legOf x grpTRANSFER)) d z j = some g →
      countIn ((s.took x).snapshotTable (s.corePart x.core) (s.legOf x grpTRANSFER)) g ≤ 1) → ∃ t, ∃ k : Call,
    exec (.writeKv x) s = .next t ∧ s.started t x k ∧ k.isOf s x callWALK 2 grpTRANSFER ∧ k.ticks = walkTicks d ∧
    (k.codes = [] ↔ rest = [])) ∧
  (∀ (s : State) (x : Issue) (d : WalkDesc) (tpp : Nat) (fit rest : List WalkSlot), s.CallReady x 0xA callWALK engWALK →
    d = walkDesc (s.descriptor x.core x.word) → d.kind = 2 → d.legal = true →
    tpp = (s.took x).walkTokens x.core (s.legOf x grpTRANSFER) → (fit, rest) = fitSlots (fun z => (writePages tpp z).length) d.pages 0
      ((s.took x).walkSlots d ((s.took x).locAddr x.core (d.locs.getD 0 0))) →
    s.legIn x.core grpTRANSFER = none → (∃ z ∈ fit, ∃ j ∈ writePages tpp z, ∃ g,
      pageOf ((s.took x).snapshotTable (s.corePart x.core) none) d z j = some g ∧ 1 < countIn ((s.took x).snapshotTable (s.corePart x.core) none) g) →
    ∃ t, exec (.writeKv x) s = .next t ∧ (t.core x.core).calls = (s.core x.core).calls ∧ t.mem = s.mem) ∧
  (∀ (s : State) (x : Issue), s.CheckReady x 0x01 → ∃ t,
    exec (.cappend x) s = .next t ∧ s.started t x (absorbCall false false (s.took x) (s.checkOf x) ((s.took x).checkLoc x) (s.checkCall x 0x01))) ∧
  (∀ (s : State) (x : Issue), s.CheckReady x 0x02 → ∃ t,
    exec (.ccheck x) s = .next t ∧ s.started t x (absorbCall true false (s.took x) (s.checkOf x) ((s.took x).checkLoc x) (s.checkCall x 0x02))) ∧
  (∀ (s : State) (x : Issue), s.CheckReady x 0x03 → ∃ t,
    exec (.cstrip x) s = .next t ∧ s.started t x (absorbCall true true (s.took x) (s.checkOf x) ((s.took x).checkLoc x) (s.checkCall x 0x03))) ∧
  (∀ (s : State) (x : Issue) (d : CheckDesc) (vs : List FV), s.CheckReady x 0x04 → d = s.checkOf x →
    vs = (bytesCodes d.f (8 * d.len / fmtBits d.f) (s.bytes ((s.took x).checkLoc x locDATA) d.len)).map
      (fmtValue (rangeFmt d.f)) → fmtBits d.f ≠ 0 → ∃ t, ∃ k : Call, exec (.crange x) s = .next t ∧ s.started t x k ∧
    k.isOf s x callCHECK 0x04 grpTRANSFER ∧ ∃ out : Nat, out = (vs.filter (fun v =>
      v.lt (fmtValue (rangeFmt d.f) (d.lo % 2 ^ fmtBits d.f)) == some true ||
      (fmtValue (rangeFmt d.f) (d.hi % 2 ^ fmtBits d.f)).lt v == some true)).length ∧
    k.writes = [((s.took x).checkLoc x locSTATUS, checkStatus out (vs.filter (fun v => !v.finite)).length d.slot false)] ∧
    (k.codes = [] ↔ out = 0 ∧ ∀ v ∈ vs, v.finite = true)) ∧
  (∀ (s : State) (x : Issue) (b : Bool), s.CheckReady x 0x05 →
    b = (s.bytes ((s.took x).checkLoc x locVALUE) 32 != s.bytes ((s.took x).checkLoc x locSECOND) 32) → ∃ t, ∃ k : Call,
    exec (.ccompare x) s = .next t ∧ s.started t x k ∧ k.isOf s x callCHECK 0x05 grpTRANSFER ∧ k.unequal = b ∧
    k.writes = [((s.took x).checkLoc x locSTATUS, checkStatus 0 0 (s.checkOf x).slot b)] ∧
    k.codes = if b then [(Code.CHECK_MISMATCH, [0x05])] else []) ∧
  (∀ (s : State) (c : CoreId) (i : Nat) (k : Call), s.powered = true → s.firstCall c [callEDGE, callPOST] i k → k.codes = [] →
    k.causes = [] → ∃ t, exec (.edgeCallComplete c) s = .next t ∧ s.endedCall t c i k) ∧
  (∀ (s : State) (c : CoreId) (i : Nat) (k : Call) (code : Nat) (ps : List Nat), s.powered = true →
    s.firstCall c [callEDGE, callPOST] i k → k.leg = none → k.codes = [(code, ps)] → k.causes = [] → ∃ t,
    exec (.edgeCallComplete c) s = .next t ∧ s.endedCall t c i k ∧ t.wrote code (s.corePart c :: 0xFFFF :: ps)) ∧
  (∀ (s : State) (c : CoreId), s.powered = true → (∀ k ∈ (s.core c).calls, k.kind ∉ [callEDGE, callPOST]) → ∃ t,
    exec (.edgeCallComplete c) s = .next t ∧ t.exec = s.exec ∧ t.mem = s.mem ∧ t.route = s.route) ∧
  (∀ (s : State) (c : CoreId) (i : Nat) (k : Call), s.powered = true → s.firstCall c [callWALK] i k → k.codes = [] →
    k.causes = [] → ∃ t, exec (.walkCallComplete c) s = .next t ∧ s.endedCall t c i k) ∧
  (∀ (s : State) (c : CoreId) (i : Nat) (k : Call) (code : Nat) (ps : List Nat), s.powered = true →
    s.firstCall c [callWALK] i k → k.leg = none → k.codes = [(code, ps)] → k.causes = [] → ∃ t,
    exec (.walkCallComplete c) s = .next t ∧ s.endedCall t c i k ∧ t.wrote code (s.corePart c :: 0xFFFF :: ps)) ∧
  (∀ (s : State) (c : CoreId), s.powered = true → (∀ k ∈ (s.core c).calls, k.kind ∉ [callWALK]) → ∃ t,
    exec (.walkCallComplete c) s = .next t ∧ t.exec = s.exec ∧ t.mem = s.mem ∧ t.route = s.route) ∧
  (∀ (s : State) (c : CoreId) (i : Nat) (k : Call), s.powered = true → s.firstCall c [callCHECK] i k → k.codes = [] →
    k.causes = [] → k.unequal = false → k.digest = none → ∃ t, exec (.checkCallComplete c none) s = .next t ∧ s.endedCall t c i k) ∧
  (∀ (s : State) (c : CoreId) (i : Nat) (k : Call) (code : Nat) (ps : List Nat), s.powered = true →
    s.firstCall c [callCHECK] i k → k.leg = none → k.codes = [(code, ps)] → k.causes = [] → k.unequal = false → k.digest = none → ∃ t,
    exec (.checkCallComplete c none) s = .next t ∧ s.endedCall t c i k ∧ t.wrote code (s.corePart c :: 0xFFFF :: ps)) ∧
  (∀ (s : State) (c : CoreId), s.powered = true → (∀ k ∈ (s.core c).calls, k.kind ∉ [callCHECK]) → ∃ t,
    exec (.checkCallComplete c none) s = .next t ∧ t.exec = s.exec ∧ t.mem = s.mem ∧ t.route = s.route)

/-- R208, R224 (Table KV-9). The build that takes a host edit is DEDUCED (log entry 93). -/
def Obligations.KvCommands : Prop :=
  (∀ (s : State) (i : Port) (p : Part) (v : BitVec 19) (x : Nat), s.powered = true → s.role i = roleOWNER ∨ (s.on
    (F.ROUTE_PART_defined p) = true ∧ s.get (F.ROUTE_PART_port p) = i.val) → tfind (s.pool p).prefixes (v.toNat
    % 64) = some x → ∃ t, exec (.prefixRetire i p v) s = .next t ∧ (t.pool p).host = (s.pool p).host ++
    [(.prefixRetire (v.toNat % 64) i, s.route.buildFor + 1)] ∧ t.get (F.KV_CMD_STATUS_code i) = 0 ∧ t.get
    (F.KV_CMD_STATUS2_generation i) = s.nextGen p) ∧
  (∀ (s : State) (i : Port) (p : Part) (v : BitVec 19) (y : KvSeq), s.powered = true → s.role i = roleOWNER ∨ (s.on
    (F.ROUTE_PART_defined p) = true ∧ s.get (F.ROUTE_PART_port p) = i.val) → tfind (s.pool p).seqs (v.toNat %
    4096) = some y → y.state = seqLIVE → ∃ t, exec (.seqEnd i p v) s = .next t ∧ (t.pool p).host = (s.pool
    p).host ++ [(.leave (v.toNat % 4096), s.route.buildFor + 1)] ∧ t.get (F.KV_CMD_STATUS_code i) = 0 ∧ t.get
    (F.KV_CMD_STATUS2_generation i) = s.nextGen p) ∧
  (∀ (s : State) (i : Port) (p : Part) (v : BitVec 19), s.powered = true → s.role i = roleOWNER ∨ (s.on
    (F.ROUTE_PART_defined p) = true ∧ s.get (F.ROUTE_PART_port p) = i.val) → (s.pool p).base ≤ v.toNat → v.toNat
    < (s.pool p).base + (s.pool p).size → ∃ t, exec (.pageQuery i p v) s = .next t ∧ t.kv = s.kv ∧ t.get
    (F.KV_CMD_STATUS_code i) = 0 ∧ t.get (F.KV_CMD_STATUS_count i) = tget 0 (s.pool p).counts v.toNat % 65536 ∧
    t.get (F.KV_CMD_STATUS2_generation i) = s.gen p) ∧
  (∀ (s : State) (i : Port) (p : Part) (v : BitVec 19), s.powered = true → s.role i ≠ roleOWNER → s.on
    (F.ROUTE_PART_defined p) = false ∨ s.get (F.ROUTE_PART_port p) ≠ i.val → ∃ t, exec (.prefixRetire i p v) s =
    .next t ∧ t.kv = s.kv ∧ t.get (F.KV_CMD_STATUS_code i) = Code.KV_CMD_REFUSED ∧ t.wrote Code.KV_CMD_REFUSED
    [i, 1, v.toNat]) ∧
  (∀ (s : State) (i : Port) (p : Part) (v : BitVec 19), s.powered = true → s.role i ≠ roleOWNER → s.on
    (F.ROUTE_PART_defined p) = false ∨ s.get (F.ROUTE_PART_port p) ≠ i.val → ∃ t, exec (.seqEnd i p v) s = .next
    t ∧ t.kv = s.kv ∧ t.get (F.KV_CMD_STATUS_code i) = Code.KV_CMD_REFUSED ∧ t.wrote Code.KV_CMD_REFUSED [i, 2,
    v.toNat]) ∧
  (∀ (s : State) (i : Port) (p : Part) (v : BitVec 19), s.powered = true → s.role i ≠ roleOWNER → s.on
    (F.ROUTE_PART_defined p) = false ∨ s.get (F.ROUTE_PART_port p) ≠ i.val → ∃ t, exec (.pageQuery i p v) s =
    .next t ∧ t.kv = s.kv ∧ t.get (F.KV_CMD_STATUS_code i) = Code.KV_CMD_REFUSED ∧ t.wrote Code.KV_CMD_REFUSED
    [i, 3, v.toNat]) ∧
  (∀ (s : State) (i : Port) (p : Part) (v : BitVec 19), s.powered = true → s.role i = roleOWNER ∨ (s.on
    (F.ROUTE_PART_defined p) = true ∧ s.get (F.ROUTE_PART_port p) = i.val) → tfind (s.pool p).prefixes (v.toNat
    % 64) = none → ∃ t, exec (.prefixRetire i p v) s = .next t ∧ t.kv = s.kv ∧ t.get (F.KV_CMD_STATUS_code i) =
    Code.KV_CMD_REFUSED ∧ t.wrote Code.KV_CMD_REFUSED [i, 1, v.toNat]) ∧
  (∀ (s : State) (i : Port) (p : Part) (v : BitVec 19), s.powered = true → s.role i = roleOWNER ∨ (s.on
    (F.ROUTE_PART_defined p) = true ∧ s.get (F.ROUTE_PART_port p) = i.val) → (∀ y, tfind (s.pool p).seqs
    (v.toNat % 4096) = some y → y.state ≠ seqLIVE) → ∃ t, exec (.seqEnd i p v) s = .next t ∧ t.kv = s.kv ∧ t.get
    (F.KV_CMD_STATUS_code i) = Code.KV_CMD_REFUSED ∧ t.wrote Code.KV_CMD_REFUSED [i, 2, v.toNat]) ∧
  (∀ (s : State) (i : Port) (p : Part) (v : BitVec 19), s.powered = true → s.role i = roleOWNER ∨ (s.on
    (F.ROUTE_PART_defined p) = true ∧ s.get (F.ROUTE_PART_port p) = i.val) → v.toNat < (s.pool p).base ∨ (s.pool
    p).base + (s.pool p).size ≤ v.toNat → ∃ t, exec (.pageQuery i p v) s = .next t ∧ t.kv = s.kv ∧ t.get
    (F.KV_CMD_STATUS_code i) = Code.KV_CMD_REFUSED ∧ t.wrote Code.KV_CMD_REFUSED [i, 3, v.toNat])

/-- R253, R256 to R260, R268 (Tables LANE-1, LANE-3, LANE-7). -/
def Obligations.LaneTraining : Prop :=
  (∀ (s : State) (i : Port) (n : LaneId), s.powered = true → s.privileged i = true → (s.laneCfg n).enabled = true →
    s.ageOnly = false ∨ s.laneState n = laneFAILED ∨ s.laneState n = laneDISABLED → (s.laneState n ≠ laneUP ∨ (∀
    k, k < 8 → (s.streamAt n k).line = none)) → ∃ t, exec (.laneRetrain i n) s = .next t ∧ t.laneState n =
    laneREFWAIT ∧ (t.laneAt n).retrainWait = false ∧ (t.laneAt n).test = none ∧ (t.laneAt n).eqPre = s.get (F.LANE_TXEQ_pre n) ∧
    (t.laneAt n).eqPost = s.get (F.LANE_TXEQ_post n) ∧ (t.get F.LANE_UP_MASK_up = s.get
    F.LANE_UP_MASK_up ∨ (t.get F.LANE_UP_MASK_up).testBit n = false)) ∧
  (∀ (s : State) (i : Port) (n : LaneId) (k : Nat), s.powered = true → s.privileged i = true → s.ageOnly = false →
    s.laneState n = laneUP → k < 8 → (s.streamAt n k).line ≠ none → ∃ t, exec (.laneRetrain i n) s = .next t ∧
    t.laneState n = laneUP ∧ (t.laneAt n).retrainWait = true) ∧
  (∀ (s : State) (i : Port) (n : LaneId) (b : BitVec 2), s.powered = true → s.privileged i = true → b ≠ 3 →
    s.ageOnly = false ∨ s.laneState n = laneFAILED ∨ s.laneState n = laneDISABLED → ∃ t, exec (.laneLoop i n b)
    s = .next t ∧ t.laneState n = laneTEST ∧ (t.laneAt n).test = some (0, b.toNat) ∧ t.wrote Code.LANE_TEST [n,
    0, 0]) ∧
  (∀ (s : State) (i : Port) (n : LaneId) (b : BitVec 2), s.powered = true → s.privileged i = true → b ≠ 3 →
    s.ageOnly = false ∨ s.laneState n = laneFAILED ∨ s.laneState n = laneDISABLED → ∃ t, exec (.lanePrbs i n b)
    s = .next t ∧ t.laneState n = laneTEST ∧ (t.laneAt n).test = some (1, b.toNat) ∧ t.wrote Code.LANE_TEST [n,
    1, 0]) ∧
  (∀ (s : State) (i : Port) (n : LaneId), s.powered = true → s.privileged i = true → ∃ t, exec (.laneLoop i n 3) s
    = .next t ∧ t.lane = s.lane ∧ t.laneState n = s.laneState n ∧ t.wrote Code.LANE_BAD_COMMAND [i, n, 0x32]) ∧
  (∀ (s : State) (i : Port) (n : LaneId), s.powered = true → s.privileged i = true → ∃ t, exec (.lanePrbs i n 3) s
    = .next t ∧ t.lane = s.lane ∧ t.laneState n = s.laneState n ∧ t.wrote Code.LANE_BAD_COMMAND [i, n, 0xC3]) ∧
  (∀ (s : State) (i : Port) (n : LaneId) (kind which : Nat), s.powered = true → s.privileged i = true → (s.laneCfg
    n).enabled = true → s.laneState n = laneTEST → (s.laneAt n).test = some (kind, which) → ∃ t, exec
    (.clearTest i n) s = .next t ∧ t.laneState n = laneREFWAIT ∧ (t.laneAt n).test = none ∧ t.wrote
    Code.LANE_TEST [n, kind, 1]) ∧
  (∀ (s : State) (i : Port) (n : LaneId) (kind which : Nat), s.powered = true → s.privileged i = true → (s.laneCfg
    n).enabled = false → s.laneState n = laneTEST → (s.laneAt n).test = some (kind, which) → ∃ t, exec
    (.clearTest i n) s = .next t ∧ t.laneState n = laneDISABLED ∧ (t.laneAt n).test = none ∧ t.wrote
    Code.LANE_TEST [n, kind, 1]) ∧
  (∀ (s : State) (i : Port) (n : LaneId), s.powered = true → s.privileged i = true → s.ageOnly = false ∨
    s.laneState n ≠ laneUP → ∃ t, exec (.laneDisable i n) s = .next t ∧ t.laneState n = laneDISABLED ∧ t.get
    (F.LANE_STATUS_block_lock n) = 0) ∧
  (∀ (s : State) (i : Port) (n : LaneId), s.powered = true → s.privileged i = true → (s.laneCfg n).enabled = true →
    s.laneState n = laneDISABLED → ∃ t, exec (.laneEnable i n) s = .next t ∧ t.laneState n = laneREFWAIT) ∧
  (∀ (s : State) (i : Port) (n : LaneId), s.powered = true → s.privileged i = true → s.laneState n ≠ laneDISABLED →
    ∃ t, exec (.laneEnable i n) s = .next t ∧ t.laneState n = s.laneState n ∧ t.lane = s.lane) ∧
  (∀ (s : State) (i : Port) (n : LaneId), s.powered = true → s.privileged i = true → s.ageOnly = true → s.laneState
    n = laneUP → ∃ t, exec (.laneRetrain i n) s = .next t ∧ t.lane = s.lane ∧ t.laneState n = laneUP ∧ t.wrote
    Code.LANE_REFUSED [i, n, 1]) ∧
  (∀ (s : State) (i : Port) (n : LaneId), s.powered = true → s.privileged i = true → s.ageOnly = true → s.laneState
    n = laneUP → ∃ t, exec (.laneDisable i n) s = .next t ∧ t.lane = s.lane ∧ t.laneState n = laneUP ∧ t.wrote
    Code.LANE_REFUSED [i, n, 1]) ∧
  (∀ (s : State) (i : Port) (n : LaneId), s.powered = true → s.privileged i = true → s.ageOnly = true → s.laneState
    n = laneUP → ∃ t, exec (.laneEnable i n) s = .next t ∧ t.lane = s.lane ∧ t.laneState n = laneUP ∧ t.wrote
    Code.LANE_REFUSED [i, n, 1]) ∧
  (∀ (s : State) (i : Port) (n : LaneId), s.powered = true → s.privileged i = false → ∃ t, exec (.laneRetrain i n)
    s = .next t ∧ t.lane = s.lane ∧ t.laneState n = s.laneState n ∧ t.wrote Code.LANE_ROLE [i, laneCtrlOff n]) ∧
  (∀ (s : State) (i : Port) (n : LaneId), s.powered = true → s.privileged i = false → ∃ t, exec (.laneLoop i n 0) s
    = .next t ∧ t.lane = s.lane ∧ t.laneState n = s.laneState n ∧ t.wrote Code.LANE_ROLE [i, laneCtrlOff n]) ∧
  (∀ (s : State) (i : Port) (n : LaneId), s.powered = true → s.privileged i = false → ∃ t, exec (.lanePrbs i n 0) s
    = .next t ∧ t.lane = s.lane ∧ t.laneState n = s.laneState n ∧ t.wrote Code.LANE_ROLE [i, laneCtrlOff n]) ∧
  (∀ (s : State) (i : Port) (n : LaneId), s.powered = true → s.privileged i = false → ∃ t, exec (.clearTest i n) s
    = .next t ∧ t.lane = s.lane ∧ t.laneState n = s.laneState n ∧ t.wrote Code.LANE_ROLE [i, laneCtrlOff n]) ∧
  (∀ (s : State) (i : Port) (n : LaneId), s.powered = true → s.privileged i = false → ∃ t, exec (.laneDisable i n)
    s = .next t ∧ t.lane = s.lane ∧ t.laneState n = s.laneState n ∧ t.wrote Code.LANE_ROLE [i, laneCtrlOff n]) ∧
  (∀ (s : State) (i : Port) (n : LaneId), s.powered = true → s.privileged i = false → ∃ t, exec (.laneEnable i n) s
    = .next t ∧ t.lane = s.lane ∧ t.laneState n = s.laneState n ∧ t.wrote Code.LANE_ROLE [i, laneCtrlOff n]) ∧
  (∀ (s : State) (n : LaneId), s.powered = true → s.laneState n = laneREFWAIT → ∃ t, exec (.laneRefWaitDone n) s =
    .next t ∧ t.laneState n = laneLOCK ∧ t.lane = s.lane) ∧
  (∀ (s : State) (n : LaneId), s.powered = true → s.laneState n = laneLOCK → ∃ t, exec (.blockLock n) s = .next t ∧
    t.laneState n = laneEXCHANGE ∧ t.get (F.LANE_STATUS_block_lock n) = 1 ∧ t.lane.out = s.lane.out ++
    List.replicate 3 (n.val, [0x0F, 0, 0, 0, 0, 0, 0, 0] ++ s.ownTrainingWord n)) ∧
  (∀ (s : State) (n : LaneId) (w : BitVec 256) (bs : List Byte), s.powered = true → s.laneState n = laneEXCHANGE →
    goodTrainingWord n w = true → bs = leBytes 32 w.toNat → (s.laneCfg n).sensors ≤ recField bs 5 1 → recField
    bs 4 1 = (s.laneCfg n).rate → 2 ≤ (s.laneAt n).words → (s.laneAt n).lastWord = w → ∃ t, exec (.trainingWord
    n w) s = .next t ∧ t.laneState n = lanePRBS ∧ t.get (F.LANE_STATUS_streams n) = recField bs 5 1 % 16) ∧
  (∀ (s : State) (n : LaneId) (w : BitVec 256) (bs : List Byte), s.powered = true → s.laneState n = laneEXCHANGE →
    goodTrainingWord n w = true → bs = leBytes 32 w.toNat → (s.laneCfg n).sensors ≤ recField bs 5 1 → recField
    bs 4 1 = (s.laneCfg n).rate → (s.laneAt n).words = 0 ∨ (s.laneAt n).lastWord ≠ w → ∃ t, exec (.trainingWord
    n w) s = .next t ∧ t.laneState n = laneEXCHANGE ∧ (t.laneAt n).words = 1 ∧ (t.laneAt n).lastWord = w) ∧
  (∀ (s : State) (n : LaneId) (w : BitVec 256) (bs : List Byte), s.powered = true → s.laneState n = laneEXCHANGE →
    goodTrainingWord n w = true → bs = leBytes 32 w.toNat → recField bs 5 1 < (s.laneCfg n).sensors ∨ recField
    bs 4 1 ≠ (s.laneCfg n).rate → ∃ t, exec (.trainingWord n w) s = .next t ∧ t.laneState n = laneFAILED) ∧
  (∀ (s : State) (n : LaneId) (w : BitVec 256), s.powered = true → goodTrainingWord n w = false ∨ s.laneState n ≠
    laneEXCHANGE → ∃ t, exec (.trainingWord n w) s = .next t ∧ t.lane = s.lane ∧ t.laneState n = s.laneState n) ∧
  (∀ (s : State) (n : LaneId), s.powered = true → s.laneState n = lanePRBS → ∃ t, exec (.laneUp n) s = .next t ∧
    t.laneState n = laneUP ∧ (t.get F.LANE_UP_MASK_up).testBit n = true ∧ (t.laneAt n).retryMs = 1) ∧
  (∀ (s : State) (n : LaneId), s.powered = true → training (s.laneState n) = true → ∃ t, exec (.laneTrainTimeout n)
    s = .next t ∧ t.laneState n = laneFAILED ∧ t.get (F.LANE_STATUS_block_lock n) = 0) ∧
  (∀ (s : State) (n : LaneId), s.powered = true → s.laneState n = laneFAILED → (s.laneCfg n).enabled = true → ∃ t,
    exec (.laneTrainRetry n) s = .next t ∧ t.laneState n = laneREFWAIT ∧ (t.laneAt n).retryMs = min (2 *
    (s.laneAt n).retryMs) 1000) ∧
  (∀ (s : State) (n : LaneId), s.powered = true → s.laneState n = laneUP → (s.laneCfg n).enabled = true → ∃ t, exec
    (.laneDown n) s = .next t ∧ t.laneState n = laneREFWAIT ∧ (t.get F.LANE_UP_MASK_up).testBit n = false ∧
    t.wrote Code.LANE_DOWN [n, 16]) ∧
  (∀ (s : State) (n : LaneId), s.powered = true → (s.laneAt n).retrainWait = true → (s.laneCfg n).enabled = true →
    ∃ t, exec (.retrainWaitExpired n) s = .next t ∧ t.laneState n = laneREFWAIT ∧ (t.laneAt n).retrainWait =
    false) ∧
  (∀ (s : State) (n : LaneId), s.powered = true → s.laneState n ≠ laneREFWAIT → ∃ t, exec (.laneRefWaitDone n) s =
    .next t ∧ t.lane = s.lane ∧ t.laneState n = s.laneState n)

/-- R262 to R269, R286 (Tables LANE-2, LANE-4, LANE-6). -/
def Obligations.LanePackets : Prop :=
  (∀ (s : State) (n : LaneId) (p : Packet) (first : Nat), s.powered = true → s.goodPacket n 1 p → s.streamState n
    p.stream = stANY → (s.streamAt n p.stream).lostFrom = some first → s.triggered n p.stream = false → ∃ t,
    exec (.lineStart n p) s = .next t ∧ t.streamState n p.stream = stORDER ∧ t.get (F.LANE_STREAM_next_seq n
    p.stream) = p.seq ∧ ∃ l, (t.streamAt n p.stream).line = some l ∧ l.seq = p.seq ∧ l.index = 0 ∧ l.data = [] ∧
    l.stamp = recField p.payload 0 4 ∧ l.pixels = recField p.payload 4 2 ∧ l.format = recField p.payload 6 1) ∧
  (∀ (s : State) (n : LaneId) (p : Packet), s.powered = true → s.goodPacket n 1 p → s.streamState n p.stream =
    stANY ∧ (s.streamAt n p.stream).lostFrom = none ∨ s.streamState n p.stream = stORDER ∧ (s.streamAt n
    p.stream).line = none ∧ s.get (F.LANE_STREAM_next_seq n p.stream) = p.seq ∨ s.streamState n p.stream =
    stRESEND ∧ s.get (F.LANE_STREAM_next_seq n p.stream) = p.seq → s.triggered n p.stream = false → ∃ t, exec
    (.lineStart n p) s = .next t ∧ t.streamState n p.stream = stORDER ∧ t.get (F.LANE_STREAM_next_seq n
    p.stream) = p.seq ∧ ∃ l, (t.streamAt n p.stream).line = some l ∧ l.seq = p.seq ∧ l.index = 0 ∧ l.data = [] ∧
    l.stamp = recField p.payload 0 4 ∧ l.pixels = recField p.payload 4 2 ∧ l.format = recField p.payload 6 1 ∧
    l.bad = false) ∧
  (∀ (s : State) (n : LaneId) (p : Packet) (l : OpenLine), s.powered = true → s.goodPacket n 1 p → s.streamState n
    p.stream = stORDER → (s.streamAt n p.stream).line = some l → (recField p.payload 7 1).testBit 1 = true →
    32769 ≤ (p.seq + 65536 - s.get (F.LANE_STREAM_next_seq n p.stream)) % 65536 → ∃ t, exec (.lineStart n p) s = .next t ∧
    t.streamAt n p.stream = { s.streamAt n p.stream with stale := some p.seq } ∧ t.get (F.LANE_VIOL_count n) =
    s.get (F.LANE_VIOL_count n) ∧ t.lane.out = s.lane.out) ∧
  (∀ (s : State) (n : LaneId) (p : Packet), s.powered = true → s.goodPacket n 2 p → s.streamState n p.stream = stORDER →
    (s.streamAt n p.stream).stale = some p.seq → ∃ t, exec (.pixels n p) s = .next t ∧ t.lane = s.lane ∧ t.isp = s.isp ∧
    t.get (F.LANE_VIOL_count n) = s.get (F.LANE_VIOL_count n)) ∧
  (∀ (s : State) (n : LaneId) (p : Packet), s.powered = true → s.goodPacket n 3 p → s.streamState n p.stream = stORDER →
    (s.streamAt n p.stream).stale = some p.seq → ∃ t, exec (.lineEnd n p) s = .next t ∧ t.lane = s.lane ∧ t.isp = s.isp ∧
    t.get (F.LANE_VIOL_count n) = s.get (F.LANE_VIOL_count n)) ∧
  (∀ (s : State) (n : LaneId) (p : Packet) (l : OpenLine), s.powered = true → s.goodPacket n 2 p → s.streamState n
    p.stream = stORDER → (s.streamAt n p.stream).stale ≠ some p.seq →
    (s.streamAt n p.stream).line = some l → l.seq = p.seq → l.index = p.index → ∃ t, exec
    (.pixels n p) s = .next t ∧ (t.streamAt n p.stream).line = some
    { l with index := l.index + 1, data := l.data ++ p.payload } ∧ t.isp = s.isp) ∧
  (∀ (s : State) (n : LaneId) (p : Packet) (l : OpenLine) (c : Nat), s.powered = true → s.goodPacket n 3 p →
    s.streamState n p.stream = stORDER → (s.streamAt n p.stream).stale ≠ some p.seq →
    (s.streamAt n p.stream).line = some l → l.seq = p.seq → recField
    p.payload 0 4 = l.data.length → l.bad = false → s.laneCtx n p.stream = some c → (s.ispChan (s.laneCfg
    n).channel).golden = none → (s.ispChan (s.laneCfg n).channel).queue = [] → (s.laneAt n).retrainWait = false
    → ∃ t, exec (.lineEnd n p) s = .next t ∧ (t.streamAt n p.stream).line = none ∧ t.get (F.LANE_STREAM_next_seq
    n p.stream) = (l.seq + 1) % 65536 ∧ ∃ x : LineIn, (t.ispChan (s.laneCfg n).channel).queue = [.line x] ∧
    x.ctx = c ∧ x.seq = l.seq ∧ x.stamp = l.stamp ∧ x.data = l.data ∧ x.lost = false ∧ x.headStatus = recField
    p.payload 4 1) ∧
  (∀ (s : State) (n : LaneId) (p : Packet) (l : OpenLine), s.powered = true → s.goodPacket n 2 p → s.streamState n
    p.stream = stORDER → (s.streamAt n p.stream).stale ≠ some p.seq →
    (s.streamAt n p.stream).line = some l → l.seq ≠ p.seq ∨ l.index ≠ p.index → s.get
    (F.LANE_RETRY_limit n) > (s.streamAt n p.stream).naks → ∃ t, exec (.pixels n p) s = .next t ∧ t.streamState
    n p.stream = stRESEND ∧ (t.streamAt n p.stream).line = none ∧ (t.streamAt n p.stream).naks = (s.streamAt n
    p.stream).naks + 1 ∧ t.wrote Code.LANE_VIOLATION [n, p.stream, 7] ∧ t.get (F.LANE_STREAM_next_seq n
    p.stream) = l.seq % 65536) ∧
  (∀ (s : State) (n : LaneId) (p : Packet) (l : OpenLine), s.powered = true → s.goodPacket n 3 p → s.streamState n
    p.stream = stORDER → (s.streamAt n p.stream).stale ≠ some p.seq →
    (s.streamAt n p.stream).line = some l → l.seq = p.seq → recField p.payload 0 4 ≠
    l.data.length → s.get (F.LANE_RETRY_limit n) > (s.streamAt n p.stream).naks → ∃ t, exec (.lineEnd n p) s =
    .next t ∧ t.streamState n p.stream = stRESEND ∧ (t.streamAt n p.stream).line = none ∧ (t.streamAt n
    p.stream).naks = (s.streamAt n p.stream).naks + 1 ∧ t.wrote Code.LANE_VIOLATION [n, p.stream, 13] ∧ t.get
    (F.LANE_STREAM_next_seq n p.stream) = l.seq % 65536) ∧
  (∀ (s : State) (n : LaneId) (p : Packet), s.powered = true → s.laneState n = laneUP → p.badSync = false →
    p.length ≤ 4096 → p.data.length ≤ (p.length + 7) / 8 * 8 → p.crc.toNat ≠ packetCrc n p.stream p.seq (leBytes
    8 p.head.toNat) p.data → s.streamState n p.stream = stORDER → s.get (F.LANE_RETRY_limit n) > (s.streamAt n
    p.stream).naks → ∃ t, exec (.lineStart n p) s = .next t ∧ t.streamState n p.stream = stRESEND ∧ (t.streamAt
    n p.stream).line = none ∧ (t.streamAt n p.stream).naks = (s.streamAt n p.stream).naks + 1 ∧ t.wrote
    Code.LANE_VIOLATION [n, p.stream, 2]) ∧
  (∀ (s : State) (n : LaneId) (p : Packet), s.powered = true → s.laneState n ≠ laneUP → ∃ t, exec (.lineStart n p)
    s = .next t ∧ t.lane = s.lane ∧ t.isp = s.isp) ∧
  (∀ (s : State) (n : LaneId) (p : Packet), s.powered = true → s.laneState n = laneUP → p.badSync = false →
    p.length ≤ 4096 → p.data.length ≤ (p.length + 7) / 8 * 8 → p.crc.toNat ≠ packetCrc n p.stream p.seq (leBytes
    8 p.head.toNat) p.data → s.streamState n p.stream = stORDER → s.get (F.LANE_RETRY_limit n) > (s.streamAt n
    p.stream).naks → ∃ t, exec (.pixels n p) s = .next t ∧ t.streamState n p.stream = stRESEND ∧ (t.streamAt n
    p.stream).line = none ∧ (t.streamAt n p.stream).naks = (s.streamAt n p.stream).naks + 1 ∧ t.wrote
    Code.LANE_VIOLATION [n, p.stream, 2]) ∧
  (∀ (s : State) (n : LaneId) (p : Packet), s.powered = true → s.laneState n ≠ laneUP → ∃ t, exec (.pixels n p) s =
    .next t ∧ t.lane = s.lane ∧ t.isp = s.isp) ∧
  (∀ (s : State) (n : LaneId) (p : Packet), s.powered = true → s.laneState n = laneUP → p.badSync = false →
    p.length ≤ 4096 → p.data.length ≤ (p.length + 7) / 8 * 8 → p.crc.toNat ≠ packetCrc n p.stream p.seq (leBytes
    8 p.head.toNat) p.data → s.streamState n p.stream = stORDER → s.get (F.LANE_RETRY_limit n) > (s.streamAt n
    p.stream).naks → ∃ t, exec (.lineEnd n p) s = .next t ∧ t.streamState n p.stream = stRESEND ∧ (t.streamAt n
    p.stream).line = none ∧ (t.streamAt n p.stream).naks = (s.streamAt n p.stream).naks + 1 ∧ t.wrote
    Code.LANE_VIOLATION [n, p.stream, 2]) ∧
  (∀ (s : State) (n : LaneId) (p : Packet), s.powered = true → s.laneState n ≠ laneUP → ∃ t, exec (.lineEnd n p) s
    = .next t ∧ t.lane = s.lane ∧ t.isp = s.isp) ∧
  (∀ (s : State) (n : LaneId) (p : Packet), s.powered = true → s.goodPacket n 5 p → recField p.payload 0 1 = 4 → ∃
    t, exec (.ctrlResponse n p) s = .next t ∧ (t.laneAt n).response = some (recField p.payload 1 1, recField
    p.payload 2 1, recField p.payload 4 4)) ∧
  (∀ (s : State) (n : LaneId) (p : Packet) (k : Nat), s.powered = true → s.goodPacket n 6 p → p.length = 8 → k < 8
    → (s.streamAt n k).trigs.any (fun g => g.number == recField p.payload 0 2) = true → s.streamState n p.stream
    ≠ stRESEND → s.streamState n p.stream ≠ stANY → ∃ t, exec (.headNak n p) s = .next t ∧ recField p.payload 0
    2 ∈ (t.streamAt n k).missed ∧ t.wrote Code.LANE_VIOLATION [n, p.stream, 11] ∧ ∀ l, (s.streamAt n p.stream).line = some l →
    (t.streamAt n p.stream).line = some { l with bad := true }) ∧
  (∀ (s : State) (n : LaneId) (p : Packet), s.powered = true → s.goodPacket n 7 p → p.length = 8 → ∃ t, exec
    (.headResync n p) s = .next t ∧ t.streamState n p.stream = stANY ∧ (t.streamAt n p.stream).line = none ∧
    (t.streamAt n p.stream).naks = 0 ∧ (t.streamAt n p.stream).lostFrom = s.firstMissing n p.stream ∧
    (t.streamAt n p.stream).lostCause = recField p.payload 2 1) ∧
  (∀ (s : State) (n : LaneId) (k : Fin 8), s.powered = true → s.laneState n = laneUP → s.streamState n k = stRESEND
    → ∃ t, exec (.nakTimeout n k) s = .next t ∧ t.streamState n k = stANY ∧ (t.streamAt n k).line = none ∧
    (t.streamAt n k).lostFrom = some (s.get (F.LANE_STREAM_next_seq n k)) ∧ (t.streamAt n k).lostCause = 0) ∧
  (∀ (s : State) (n : LaneId) (k : Fin 8), s.powered = true → s.laneState n ≠ laneUP ∨ s.streamState n k ≠ stRESEND
    → ∃ t, exec (.nakTimeout n k) s = .next t ∧ t.lane = s.lane) ∧
  (∀ (s : State) (n : LaneId) (r : BitVec 16), s.powered = true → s.laneState n = laneUP → ∃ t, exec
    (.laneCtrlTimeout n r) s = .next t ∧ t.lane = s.lane ∧ t.wrote Code.LANE_CTRL_TIMEOUT [n, r.toNat])

/-- R274 to R276, R283 to R287, R376 (Tables ISP-2, ISP-11). -/
def Obligations.PipelineCommands : Prop :=
  (∀ (s : State) (ch : Fin 16) (l : LineIn) (q : Nat), s.powered = true → (s.ispChan ch).golden = none → (s.ispChan
    ch).queue = [.line l] → (s.ctxCfg l.ctx).kind = 0 → (s.ctx l.ctx).lastSeq = some q → linesSince ((s.get
    (F.ISP_CTX_LINES_count l.ctx) + (l.seq + 65536 - q) % 65536) % 2 ^ 32) (s.ctx l.ctx).frameAt < (s.ctx
    l.ctx).set.frameLines → ∃ t, exec (.lineEntersChannel ch) s = .next t ∧ (t.ispChan ch).queue = [] ∧ (t.ctx
    l.ctx).lastSeq = some l.seq ∧ t.get (F.ISP_CTX_LINES_count l.ctx) = (s.get (F.ISP_CTX_LINES_count l.ctx) +
    (l.seq + 65536 - q) % 65536) % 2 ^ 32 ∧ t.get (F.ISP_CHAN_LINES_count ch) = min (s.get
    (F.ISP_CHAN_LINES_count ch) + 1) (2 ^ 32 - 1)) ∧
  (∀ (s : State) (ch : Fin 16) (l : LineIn), s.powered = true → (s.ispChan ch).golden = none → (s.ispChan ch).queue
    = [.line l] → (s.ctxCfg l.ctx).kind = 2 → s.get (F.ISP_CTX_STATUS_frame_open l.ctx) = 0 → (s.ctx
    l.ctx).discard = false → ∃ t, exec (.lineEntersChannel ch) s = .next t ∧ (t.ispChan ch).queue = [] ∧ (t.ctx
    l.ctx).lastSeq = some l.seq ∧ t.get (F.ISP_CTX_LINES_count l.ctx) = ((s.ctx l.ctx).lastSeq.map (fun q =>
    (s.get (F.ISP_CTX_LINES_count l.ctx) + (l.seq + 65536 - q) % 65536) % 2 ^ 32)).getD 0 ∧ t.wrote
    Code.ISP_LINE_FAULT [l.ctx, tfMALFORMED, t.get (F.ISP_CTX_LINES_count l.ctx)]) ∧
  (∀ (s : State) (ch : Fin 16), s.powered = true → (s.ispChan ch).golden ≠ none ∨ (s.ispChan ch).queue = [] → ∃ t,
    exec (.lineEntersChannel ch) s = .next t ∧ t.isp = s.isp ∧ t.mem = s.mem) ∧
  (∀ (s : State) (n : LaneId) (p : Packet) (c g : Nat), s.powered = true → s.goodPacket n 4 p → s.streamState n
    p.stream ≠ stRESEND → (s.streamAt n p.stream).line = none → s.laneCtx n p.stream = some c → (s.ispChan
    (s.laneCfg n).channel).golden = some g → ∃ t, exec (.frameMark n p) s = .next t ∧ (t.ispChan (s.laneCfg
    n).channel).queue = (s.ispChan (s.laneCfg n).channel).queue ++ [.mark c (recField p.payload 0 4) (recField
    p.payload 4 1 == 1) s.localNs]) ∧
  (∀ (s : State) (n : LaneId) (p : Packet) (c : Nat), s.powered = true → s.goodPacket n 4 p → s.streamState n
    p.stream ≠ stRESEND → (s.streamAt n p.stream).line = none → s.laneCtx n p.stream = some c → (s.ispChan
    (s.laneCfg n).channel).golden = none → (s.ispChan (s.laneCfg n).channel).queue = [] → (s.ctxCfg c).kind = 2
    → recField p.payload 4 1 = 1 → s.get (F.ISP_CTX_STATUS_frame_open c) = 0 → ∃ t, exec (.frameMark n p) s =
    .next t ∧ t.get (F.ISP_CTX_STATUS_frame_open c) = 1 ∧ t.get (F.ISP_CTX_FRAME_number c) = recField p.payload
    0 4 ∧ (t.ctx c).lastFrame = some (recField p.payload 0 4) ∧ (t.ctx c).rows = []) ∧
  (∀ (s : State) (c : CtxId), s.powered = true → (s.ctxCfg c).kind = 2 → s.get (F.ISP_CTX_STATUS_frame_open c) = 1
    → ∃ t, exec (.frameTimeout c) s = .next t ∧ t.get (F.ISP_CTX_STATUS_frame_open c) = 0 ∧ (t.ctx c).discard =
    true ∧ (t.ctx c).rows = []) ∧
  (∀ (s : State) (c : CtxId), s.powered = true → (s.ctxCfg c).kind ≠ 2 ∨ s.get (F.ISP_CTX_STATUS_frame_open c) = 0
    → ∃ t, exec (.frameTimeout c) s = .next t ∧ t.isp = s.isp ∧ t.mem = s.mem) ∧
  (∀ (s : State) (i : Port) (c : CtxId), s.powered = true → s.privileged i = true ∨ s.owns i (s.ctxCfg c).part =
    true → (s.ctxCfg c).defined = true → s.get (F.ISP_CTX_STATUS_shadow c) ≠ shCOMMITTED → s.get
    (F.ISP_CTX_STATUS_shadow c) ≠ shLOADING → ∃ t, exec (.paramLoad i c) s = .next t ∧ t.get
    (F.ISP_CTX_STATUS_shadow c) = shLOADING ∧ (t.ctx c).loadPort = i.val ∧ (t.ctx c).shadow = none ∧ (t.ctx
    c).set = (s.ctx c).set ∧ t.get (F.ISP_CTX_RESULT_code i c) = 0) ∧
  (∀ (s : State) (i : Port) (c : CtxId), s.powered = true → s.privileged i = true ∨ s.owns i (s.ctxCfg c).part =
    true → (s.ctxCfg c).defined = true → s.get (F.ISP_CTX_STATUS_shadow c) = shCOMMITTED ∨ s.get
    (F.ISP_CTX_STATUS_shadow c) = shLOADING → ∃ t, exec (.paramLoad i c) s = .next t ∧ t.isp = s.isp ∧ t.get
    (F.ISP_CTX_STATUS_shadow c) = s.get (F.ISP_CTX_STATUS_shadow c) ∧ t.get (F.ISP_CTX_RESULT_code i c) =
    Code.ISP_PARAM_REFUSED ∧ t.get (F.ISP_CTX_RESULT_reason i c) = ispBUSY ∧ t.wrote Code.ISP_PARAM_REFUSED [c,
    ispBUSY, 0]) ∧
  (∀ (s : State) (c : CtxId) (bs : List Byte) (q : ParamSet), s.powered = true → s.get (F.ISP_CTX_STATUS_shadow c)
    = shLOADING → s.get (F.ISP_CTX_LEN_hbm c) = 0 → s.get64 (F.ISP_CTX_SRC_LO_addr c) (F.ISP_CTX_SRC_HI_addr c)
    % 64 = 0 → readSet bs (s.get (F.ISP_CTX_LEN_bytes c)) (s.ctxCfg c).kind (s.ctxPages c) (((tfind
    s.cfg.partTables (s.ctxCfg c).part).map (fun t => t.presets)).getD []) = .inl q → ∃ t, exec (.paramLoadDone
    c bs) s = .next t ∧ (if (s.setCtx c { s.ctx c with shadow := some q }).workKib ≤ 32768 then t.get
    (F.ISP_CTX_STATUS_shadow c) = shLOADED ∧ (t.ctx c).shadow = some q ∧ (t.ctx c).set = (s.ctx c).set ∧ t.wrote
    Code.ISP_PARAM_LOADED [c, (s.ctx c).loadPort, q.digest.toNat % 2 ^ 32] else t.get (F.ISP_CTX_STATUS_shadow
    c) = shEMPTY ∧ t.isp = s.isp ∧ t.wrote Code.ISP_PARAM_REFUSED [c, ispSPACE, 0])) ∧
  (∀ (s : State) (c : CtxId) (bs : List Byte) (r o : Nat), s.powered = true → s.get (F.ISP_CTX_STATUS_shadow c) =
    shLOADING → s.get (F.ISP_CTX_LEN_hbm c) = 0 → s.get64 (F.ISP_CTX_SRC_LO_addr c) (F.ISP_CTX_SRC_HI_addr c) %
    64 = 0 → readSet bs (s.get (F.ISP_CTX_LEN_bytes c)) (s.ctxCfg c).kind (s.ctxPages c) (((tfind
    s.cfg.partTables (s.ctxCfg c).part).map (fun t => t.presets)).getD []) = .inr (r, o) → ∃ t, exec
    (.paramLoadDone c bs) s = .next t ∧ t.get (F.ISP_CTX_STATUS_shadow c) = shEMPTY ∧ t.isp = s.isp ∧ t.wrote
    Code.ISP_PARAM_REFUSED [c, r, o]) ∧
  (∀ (s : State) (i : Port) (c : CtxId), s.powered = true → s.privileged i = true ∨ s.owns i (s.ctxCfg c).part =
    true → (s.ctxCfg c).defined = true → s.get (F.ISP_CTX_STATUS_shadow c) = shLOADED → ∃ t, exec (.paramCommit
    i c) s = .next t ∧ t.get (F.ISP_CTX_STATUS_shadow c) = shCOMMITTED ∧ t.isp = s.isp ∧ t.get
    (F.ISP_CTX_RESULT_code i c) = 0) ∧
  (∀ (s : State) (i : Port) (c : CtxId), s.powered = true → s.privileged i = true ∨ s.owns i (s.ctxCfg c).part =
    true → (s.ctxCfg c).defined = true → s.get (F.ISP_CTX_STATUS_shadow c) ≠ shLOADED → ∃ t, exec (.paramCommit
    i c) s = .next t ∧ t.get (F.ISP_CTX_STATUS_shadow c) = s.get (F.ISP_CTX_STATUS_shadow c) ∧ t.isp = s.isp) ∧
  (∀ (s : State) (i : Port) (c : CtxId), s.powered = true → s.privileged i = true ∨ s.owns i (s.ctxCfg c).part =
    true → (s.ctxCfg c).defined = true → s.get (F.ISP_CTX_STATUS_shadow c) = shLOADED ∨ s.get
    (F.ISP_CTX_STATUS_shadow c) = shCOMMITTED → ∃ t, exec (.paramDiscard i c) s = .next t ∧ t.get
    (F.ISP_CTX_STATUS_shadow c) = shEMPTY ∧ (t.ctx c).shadow = none ∧ (t.ctx c).set = (s.ctx c).set ∧ t.get
    (F.ISP_CTX_RESULT_code i c) = 0) ∧
  (∀ (s : State) (i : Port) (c : CtxId), s.powered = true → s.privileged i = true ∨ s.owns i (s.ctxCfg c).part =
    true → (s.ctxCfg c).defined = true → s.get F.PACE_STATUS_upkeep_mode = upkeepLIVE ∨ s.get
    F.PACE_STATUS_upkeep_mode = upkeepBOTH → ∃ t, exec (.contextRestart i c) s = .next t ∧ t.get
    (F.ISP_CTX_STATUS_restart_pending c) = 1 ∧ (t.ctx c).restart = some i.val ∧ t.get (F.ISP_CTX_RESULT_code i
    c) = 0) ∧
  (∀ (s : State) (i : Port) (c : CtxId), s.powered = true → s.privileged i = true ∨ s.owns i (s.ctxCfg c).part =
    true → (s.ctxCfg c).defined = true → s.get F.PACE_STATUS_upkeep_mode ≠ upkeepLIVE → s.get
    F.PACE_STATUS_upkeep_mode ≠ upkeepBOTH → ∃ t, exec (.contextRestart i c) s = .next t ∧ t.isp = s.isp ∧ t.get
    (F.ISP_CTX_RESULT_code i c) = Code.ISP_PARAM_REFUSED ∧ t.get (F.ISP_CTX_RESULT_reason i c) = ispAGE ∧
    t.wrote Code.ISP_PARAM_REFUSED [c, ispAGE, 0]) ∧
  (∀ (s : State) (i : Port) (c : CtxId), s.powered = true → s.privileged i = false → s.owns i (s.ctxCfg c).part =
    false → ∃ t, exec (.paramLoad i c) s = .next t ∧ t.isp = s.isp ∧ t.get (F.ISP_CTX_STATUS_shadow c) = s.get
    (F.ISP_CTX_STATUS_shadow c) ∧ t.wrote Code.ISP_ROLE [i, ispCmdOff c]) ∧
  (∀ (s : State) (i : Port) (c : CtxId), s.powered = true → s.privileged i = false → s.owns i (s.ctxCfg c).part =
    false → ∃ t, exec (.paramCommit i c) s = .next t ∧ t.isp = s.isp ∧ t.get (F.ISP_CTX_STATUS_shadow c) = s.get
    (F.ISP_CTX_STATUS_shadow c) ∧ t.wrote Code.ISP_ROLE [i, ispCmdOff c]) ∧
  (∀ (s : State) (i : Port) (c : CtxId), s.powered = true → s.privileged i = false → s.owns i (s.ctxCfg c).part =
    false → ∃ t, exec (.paramDiscard i c) s = .next t ∧ t.isp = s.isp ∧ t.get (F.ISP_CTX_STATUS_shadow c) =
    s.get (F.ISP_CTX_STATUS_shadow c) ∧ t.wrote Code.ISP_ROLE [i, ispCmdOff c]) ∧
  (∀ (s : State) (i : Port) (c : CtxId), s.powered = true → s.privileged i = false → s.owns i (s.ctxCfg c).part =
    false → ∃ t, exec (.contextRestart i c) s = .next t ∧ t.isp = s.isp ∧ t.get (F.ISP_CTX_STATUS_shadow c) =
    s.get (F.ISP_CTX_STATUS_shadow c) ∧ t.wrote Code.ISP_ROLE [i, ispCmdOff c]) ∧
  (∀ (s : State) (c : CtxId), s.powered = true → s.hasGolden c = true → (s.ctxCfg c).defined = true → (s.ispChan
    (s.ctxChan c)).golden = none → s.get (F.ISP_LAYBY_bytes (s.ctxChan c)) ≤ 1572864 → ∃ t, exec (.goldenDue c)
    s = .next t ∧ (t.ispChan (s.ctxChan c)).golden = some c.val) ∧
  (∀ (s : State) (c : CtxId), s.powered = true → s.hasGolden c = true → (s.ctxCfg c).defined = true → (s.ispChan
    (s.ctxChan c)).golden = none → s.get (F.ISP_LAYBY_bytes (s.ctxChan c)) > 1572864 → ∃ t, exec (.goldenDue c)
    s = .next t ∧ t.isp = s.isp ∧ t.wrote Code.GOLDEN_DEFERRED [s.ctxChan c, c, s.get (F.ISP_LAYBY_bytes
    (s.ctxChan c))]) ∧
  (∀ (s : State) (c : CtxId), s.powered = true → s.hasGolden c = true → (s.ctxCfg c).defined = true → (s.ispChan
    (s.ctxChan c)).golden = none → s.get (F.ISP_LAYBY_bytes (s.ctxChan c)) ≤ 1572864 → ∃ t, exec (.goldenRetry
    c) s = .next t ∧ (t.ispChan (s.ctxChan c)).golden = some c.val) ∧
  (∀ (s : State) (c : CtxId), s.powered = true → s.hasGolden c = true → (s.ctxCfg c).defined = true → (s.ispChan
    (s.ctxChan c)).golden = none → s.get (F.ISP_LAYBY_bytes (s.ctxChan c)) > 1572864 → ∃ t, exec (.goldenRetry
    c) s = .next t ∧ t.isp = s.isp ∧ t.wrote Code.GOLDEN_DEFERRED [s.ctxChan c, c, s.get (F.ISP_LAYBY_bytes
    (s.ctxChan c))]) ∧
  (∀ (s : State) (c : CtxId), s.powered = true → s.hasGolden c = true → (s.ctxCfg c).defined = true → (s.ispChan
    (s.ctxChan c)).golden = none → ∃ t, exec (.goldenForced c) s = .next t ∧ (t.ispChan (s.ctxChan c)).golden =
    some c.val ∧ t.wrote Code.GOLDEN_FORCED [s.ctxChan c, c, s.get (F.ISP_LAYBY_bytes (s.ctxChan c))]) ∧
  (∀ (s : State) (c : CtxId) (d : BitVec 256), s.powered = true → (s.ispChan (s.ctxChan c)).golden = some c.val →
    s.isp.goldenWait = [] → (s.cfg.safety.goldens.find? (fun g => g.ctx == c.val)).map (fun g => g.digest) =
    some d → ∃ t, exec (.goldenComplete c d) s = .next t ∧ (t.ispChan (s.ctxChan c)).golden = none ∧ t.get
    (F.SAFE_CTX_golden_fail c) = 0 ∧ t.get (F.SAFE_CTX_mismatches c) = 0 ∧ c.val ∈ t.safe.goldenSeen) ∧
  (∀ (s : State) (c : CtxId) (d : BitVec 256), s.powered = true → (s.ispChan (s.ctxChan c)).golden = some c.val →
    s.isp.goldenWait = [] → (s.cfg.safety.goldens.find? (fun g => g.ctx == c.val)).map (fun g => g.digest) ≠
    some d → s.get (F.SAFE_CTX_mismatches c) < 255 → s.cfg.safety.goldenLimit ≤ s.get (F.SAFE_CTX_mismatches c)
    + 1 → ∃ t, exec (.goldenComplete c d) s = .next t ∧ (t.ispChan (s.ctxChan c)).golden = none ∧ t.get
    (F.SAFE_CTX_golden_fail c) = 1 ∧ t.get F.SAFE_STATUS_state = safeSAFE ∧ t.outputsOff) ∧
  (∀ (s : State) (c : CtxId) (d : BitVec 256), s.powered = true → (s.ispChan (s.ctxChan c)).golden ≠ some c.val → ∃
    t, exec (.goldenComplete c d) s = .next t ∧ t.isp = s.isp)

/-- R290 to R292, R296, R297, R300 (Tables INGEST-1, INGEST-2, INGEST-4, INGEST-7). -/
def Obligations.IngestCommands : Prop :=
  (∀ (s : State) (i : Port) (p : Part), s.powered = true → s.mayIngest i p = true → ∃ t, exec (.ingestStart i p) s
    = .next t ∧ t.get (F.INGEST_Q_STATE_state p) = iqRUNNING ∧ t.ingest = s.ingest) ∧
  (∀ (s : State) (i : Port) (p : Part), s.powered = true → s.mayIngest i p = true → s.get (F.INGEST_Q_STATE_state
    p) ≠ iqSTOPPED → ∃ t, exec (.ingestStop i p) s = .next t ∧ t.get (F.INGEST_Q_STATE_state p) = (if
    (s.ingestQueue p).batches = [] then iqSTOPPED else iqDRAINING) ∧ t.ingest = s.ingest) ∧
  (∀ (s : State) (i : Port) (p : Part), s.powered = true → s.mayIngest i p = true → s.get (F.INGEST_Q_STATE_state
    p) = iqSTOPPED → ∃ t, exec (.ingestStop i p) s = .next t ∧ t.get (F.INGEST_Q_STATE_state p) = iqSTOPPED ∧
    t.ingest = s.ingest) ∧
  (∀ (s : State) (i : Port) (p : Part), s.powered = true → s.mayIngest i p = true → ∃ t, exec (.setSeed i p) s =
    .next t ∧ t.ingestQueue p =
    { s.ingestQueue p with seed := s.get64 (F.INGEST_Q_SEED_LO_seed p) (F.INGEST_Q_SEED_HI_seed p) }) ∧
  (∀ (s : State) (i : Port) (p : Part), s.powered = true → s.mayIngest i p = true → ∃ t, exec (.setEpoch i p) s =
    .next t ∧ t.ingestQueue p = { s.ingestQueue p with epoch := s.get (F.INGEST_Q_EPOCH_epoch p) }) ∧
  (∀ (s : State) (i : Port) (p : Part) (b : BitVec 32), s.powered = true → s.mayIngest i p = true → (b.toNat + 2 ^
    32 - s.get (F.INGEST_Q_HEAD_pos p)) % 2 ^ 32 ≤ 2 ^ s.get (F.INGEST_Q_RING_SIZE_log2 p) → ∃ t, exec
    (.ingestDoorbell i p b) s = .next t ∧ t.get (F.INGEST_Q_TAIL_pos p) = b.toNat ∧ t.ingest = s.ingest ∧ t.get
    (F.INGEST_Q_STATE_state p) = s.get (F.INGEST_Q_STATE_state p)) ∧
  (∀ (s : State) (i : Port) (p : Part) (b : BitVec 32), s.powered = true → s.mayIngest i p = true → 2 ^ s.get
    (F.INGEST_Q_RING_SIZE_log2 p) < (b.toNat + 2 ^ 32 - s.get (F.INGEST_Q_HEAD_pos p)) % 2 ^ 32 → ∃ t, exec
    (.ingestDoorbell i p b) s = .next t ∧ t.get (F.INGEST_Q_TAIL_pos p) = s.get (F.INGEST_Q_TAIL_pos p) ∧ t.get
    (F.INGEST_Q_STATE_error p) = vcBADDESCRIPTOR ∧ t.get (F.INGEST_Q_STATE_state p) ≠ iqRUNNING) ∧
  (∀ (s : State) (i : Port) (p : Part), s.powered = true → s.mayIngest i p = false → ∃ t, exec (.ingestStart i p) s
    = .next t ∧ t.ingest = s.ingest ∧ t.get (F.INGEST_Q_STATE_state p) = s.get (F.INGEST_Q_STATE_state p) ∧
    t.get (F.INGEST_Q_TAIL_pos p) = s.get (F.INGEST_Q_TAIL_pos p) ∧ t.wrote Code.INGEST_ROLE [i, 8]) ∧
  (∀ (s : State) (i : Port) (p : Part), s.powered = true → s.mayIngest i p = false → ∃ t, exec (.ingestStop i p) s
    = .next t ∧ t.ingest = s.ingest ∧ t.get (F.INGEST_Q_STATE_state p) = s.get (F.INGEST_Q_STATE_state p) ∧
    t.get (F.INGEST_Q_TAIL_pos p) = s.get (F.INGEST_Q_TAIL_pos p) ∧ t.wrote Code.INGEST_ROLE [i, 8]) ∧
  (∀ (s : State) (i : Port) (p : Part), s.powered = true → s.mayIngest i p = false → ∃ t, exec (.setSeed i p) s =
    .next t ∧ t.ingest = s.ingest ∧ t.get (F.INGEST_Q_STATE_state p) = s.get (F.INGEST_Q_STATE_state p) ∧ t.get
    (F.INGEST_Q_TAIL_pos p) = s.get (F.INGEST_Q_TAIL_pos p) ∧ t.wrote Code.INGEST_ROLE [i, 8]) ∧
  (∀ (s : State) (i : Port) (p : Part), s.powered = true → s.mayIngest i p = false → ∃ t, exec (.setEpoch i p) s =
    .next t ∧ t.ingest = s.ingest ∧ t.get (F.INGEST_Q_STATE_state p) = s.get (F.INGEST_Q_STATE_state p) ∧ t.get
    (F.INGEST_Q_TAIL_pos p) = s.get (F.INGEST_Q_TAIL_pos p) ∧ t.wrote Code.INGEST_ROLE [i, 8]) ∧
  (∀ (s : State) (i : Port) (p : Part), s.powered = true → s.mayIngest i p = false → ∃ t, exec (.ingestDoorbell i p
    0) s = .next t ∧ t.ingest = s.ingest ∧ t.get (F.INGEST_Q_STATE_state p) = s.get (F.INGEST_Q_STATE_state p) ∧
    t.get (F.INGEST_Q_TAIL_pos p) = s.get (F.INGEST_Q_TAIL_pos p) ∧ t.wrote Code.INGEST_ROLE [i, 0x10C + 0x40 *
    p.val]) ∧
  (∀ (s : State) (p : Part) (r : List Byte) (n k : Nat), s.powered = true → n = s.get (F.INGEST_Q_RING_SIZE_batch
    p) → n ≠ 0 → s.get (F.INGEST_Q_STATE_state p) = iqRUNNING → s.get (F.INGEST_Q_HEAD_pos p) ≠ s.get
    (F.INGEST_Q_TAIL_pos p) → (s.ingestQueue p).batches = [] → k = s.get (F.INGEST_Q_HEAD_pos p) / n →
    (s.ingestQueue p).next ≠ k + 1 ∨ (s.ingestQueue p).lastSize ≠ n → (((tfind s.cfg.programs p).map (fun g =>
    g.chains)).getD []).all (fun c => c.ringFits n (s.reach p)) = true → s.get (F.ROUTE_PART_over_quota p) = 0 → s.badDescriptor p (((tfind
    s.cfg.programs p).map (fun g => g.chains)).getD []) (r.take 64) = false → ∃ t, exec (.descriptorRead p (some
    r)) s = .next t ∧ t.get (F.INGEST_Q_HEAD_pos p) = (s.get (F.INGEST_Q_HEAD_pos p) + 1) % 2 ^ 32 ∧
    (t.ingestQueue p).next = k + 1 ∧ ∃ b, (t.ingestQueue p).batches = [b] ∧ b.num = k ∧ b.size = n ∧ b.seed =
    (s.ingestQueue p).seed ∧ b.epoch = (s.ingestQueue p).epoch ∧ b.slots[s.get (F.INGEST_Q_HEAD_pos p) % n]? =
    some { state := slREAD, cause := 0, desc := r.take 64 }) ∧
  (∀ (s : State) (p : Part) (r : Option (List Byte)), s.powered = true → s.get (F.INGEST_Q_RING_SIZE_batch p) = 0 ∨
    s.get (F.INGEST_Q_STATE_state p) = iqSTOPPED ∨ s.get (F.INGEST_Q_HEAD_pos p) = s.get (F.INGEST_Q_TAIL_pos p)
    → ∃ t, exec (.descriptorRead p r) s = .next t ∧ t.ingest = s.ingest ∧ t.get (F.INGEST_Q_HEAD_pos p) = s.get
    (F.INGEST_Q_HEAD_pos p)) ∧
  (∀ (s : State) (p : Part) (v : BitVec 32) (x : SampleIn) (b : IngBatch) (j : Nat) (y : IngSlot) (c : ChainCfg)
    (bs : List Byte), s.powered = true → s.slotAt p v.toNat = some (b, j, y) → y.state = slREAD → b.chain j =
    some c → s.sampleResult p b c y.desc x = .inr bs → (s.ingestQueue p).batches = [b] → ((∃ z ∈ b.slots,
    z.state = slUNREAD)) → ∃ t, exec (.sampleComplete p v x) s = .next t ∧ (t.ingestQueue p).batches =
    [b.setSlot j { y with state := slDONE }] ∧ t.mem = (s.store (s.slotAddr p c b j) ((bs ++ List.replicate
    (c.slotBytes) 0).take (c.slotBytes))).mem ∧ t.get (F.INGEST_Q_DONE_samples p) = min (s.get
    (F.INGEST_Q_DONE_samples p) + 1) (2 ^ 32 - 1)) ∧
  (∀ (s : State) (p : Part) (v : BitVec 32) (x : SampleIn) (b : IngBatch) (j : Nat) (y : IngSlot) (c : ChainCfg)
    (cause : Nat), s.powered = true → s.slotAt p v.toNat = some (b, j, y) → y.state = slREAD → b.chain j = some
    c → s.sampleResult p b c y.desc x = .inl cause → (s.ingestQueue p).batches = [b] → ((∃ z ∈ b.slots, z.state
    = slUNREAD)) → ∃ t, exec (.sampleComplete p v x) s = .next t ∧ (t.ingestQueue p).batches = [b.setSlot j
    { y with state := slVOID, cause := cause }] ∧ t.mem = (s.store (s.slotAddr p c b j) (List.replicate
    (c.slotBytes) 0)).mem ∧ t.wrote Code.INGEST_SAMPLE_VOID [p, b.num, j, cause]) ∧
  (∀ (s : State) (p : Part) (v : BitVec 32) (x : SampleIn), s.powered = true → (∀ b j y, s.slotAt p v.toNat = some
    (b, j, y) → y.state ≠ slREAD) → ∃ t, exec (.sampleComplete p v x) s = .next t ∧ t.ingest = s.ingest ∧ t.mem
    = s.mem) ∧
  (∀ (s : State) (p : Part) (v : BitVec 32) (b : IngBatch) (j : Nat) (y : IngSlot), s.powered = true → s.slotAt p
    v.toNat = some (b, j, y) → y.state = slREAD → (s.ingestQueue p).batches = [b] → ((∃ z ∈ b.slots, z.state =
    slUNREAD)) → ∃ t, exec (.slotTimeout p v) s = .next t ∧ (t.ingestQueue p).batches = [b.setSlot j
    { y with state := slVOID, cause := vcLATE }] ∧ t.wrote Code.INGEST_SAMPLE_VOID [p, b.num, j, vcLATE]) ∧
  (∀ (s : State) (p : Part) (v : BitVec 32), s.powered = true → (∀ b j y, s.slotAt p v.toNat = some (b, j, y) →
    y.state ≠ slREAD ∧ y.state ≠ slUNREAD) → ∃ t, exec (.slotTimeout p v) s = .next t ∧ t.ingest = s.ingest ∧
    t.mem = s.mem)

/-- R303 to R308, R310 (Tables MOT-2, MOT-8). -/
def Obligations.PositionChannels : Prop :=
  (∀ (s : State) (n : ChanId) (v : BitVec 3) (o : Nat) (d : Int), s.powered = true → (s.chanCfg n).mode = 1 → s.cntState n = cntWAIT ∨
    s.cntState n = cntVALID → (s.chan n).levels = some o → o % 4 ≠ v.toNat % 4 → (quadPos o + 2) % 4 ≠
    quadPos v.toNat → d = quadStep (s.chanCfg n).decode o v.toNat → d ≠ 0 → ∃ t, exec (.countChange n v)
    s = .next t ∧ (t.chan n).count = (s.chan n).count + (if (s.chanCfg n).reverse then -d else d) ∧
    t.cntState n = cntVALID ∧ t.get (F.MOT_CH_COUNT_LO_count n) = ofSigned 64 ((s.chan n).count + (if (s.chanCfg
    n).reverse then -d else d)) % 2 ^ 32) ∧
  (∀ (s : State) (n : ChanId) (v : BitVec 3), s.powered = true → (s.chanCfg n).mode = 1 → (s.chan n).levels = none → ∃ t,
    exec (.countChange n v) s = .next t ∧ t.chan n = { s.chan n with levels := some (v.toNat % 4) } ∧
    t.cntState n = s.cntState n ∧ t.get (F.MOT_CH_ERR_errors n) = s.get (F.MOT_CH_ERR_errors n)) ∧
  (∀ (s : State) (n : ChanId) (v : BitVec 3) (o : Nat), s.powered = true → (s.chanCfg n).mode = 1 → s.cntState n = cntWAIT ∨
    s.cntState n = cntVALID → (s.chan n).levels = some o → o % 4 ≠ v.toNat % 4 → (quadPos o + 2) % 4 = quadPos v.toNat → (s.chan n).errTimes = [] →
    ∃ t, exec (.countChange n v) s = .next t ∧ (t.chan n).count = (s.chan n).count ∧ t.get (F.MOT_CH_ERR_errors
    n) = min (s.get (F.MOT_CH_ERR_errors n) + 1) 65535 ∧ t.wrote Code.POS_COUNT_ERROR [n, errAB, ofSigned 32
    (s.chan n).count]) ∧
  (∀ (s : State) (n : ChanId) (v : BitVec 3) (o : Nat), s.powered = true → (s.chanCfg n).mode = 2 → s.cntState n = cntWAIT ∨
    s.cntState n = cntVALID → v.toNat ≠ 0 → v.toNat ≠ 7 → (s.chan n).levels = some o → (hallPos o +
    1) % 6 = hallPos v.toNat → ∃ t, exec (.countChange n v) s = .next t ∧ (t.chan n).count = (s.chan n).count +
    (if (s.chanCfg n).reverse then -(1) else 1) ∧ t.cntState n = cntVALID ∧ t.get (F.MOT_CH_COUNT_LO_count n) =
    ofSigned 64 ((s.chan n).count + (if (s.chanCfg n).reverse then -(1) else 1)) % 2 ^ 32) ∧
  (∀ (s : State) (n : ChanId) (v : BitVec 3) (o : Nat), s.powered = true → (s.chanCfg n).mode = 2 → s.cntState n = cntWAIT ∨
    s.cntState n = cntVALID → v.toNat ≠ 0 → v.toNat ≠ 7 → (s.chan n).levels = some o → (hallPos v.toNat + 1) % 6 =
    hallPos o → ∃ t, exec (.countChange n v) s = .next t ∧ (t.chan n).count = (s.chan n).count +
    (if (s.chanCfg n).reverse then -((-1)) else (-1)) ∧ t.cntState n = cntVALID ∧ t.get (F.MOT_CH_COUNT_LO_count
    n) = ofSigned 64 ((s.chan n).count + (if (s.chanCfg n).reverse then -((-1)) else (-1))) % 2 ^ 32) ∧
  (∀ (s : State) (n : ChanId) (v : BitVec 3), s.powered = true → s.cntState n ≠ cntWAIT → s.cntState n ≠ cntVALID →
    ∃ t, exec (.countChange n v) s = .next t ∧ (t.chan n).count = (s.chan n).count ∧ t.cntState n = s.cntState n) ∧
  (∀ (s : State) (n : ChanId), s.powered = true → (s.chanCfg n).mode = 1 → s.cntState n ≠ cntFAULT → (s.chan
    n).index = none → ∃ t, exec (.indexPulse n) s = .next t ∧ (t.chan n).index = some (s.chan n).count ∧ t.get
    (F.MOT_CH_INDEX_count n) = ofSigned 32 (s.chan n).count ∧ (t.chan n).count = (s.chan n).count) ∧
  (∀ (s : State) (n : ChanId), s.powered = true → (s.chanCfg n).mode ≠ 1 ∨ s.cntState n = cntFAULT → ∃ t, exec
    (.indexPulse n) s = .next t ∧ t.motion = s.motion ∧ ((s.chanCfg n).mode = 1 → t.get (F.MOT_CH_INDEX_count n) =
    ofSigned 32 (s.chan n).count)) ∧
  (∀ (s : State) (n : ChanId), s.powered = true → s.serialMode n = true → s.cntState n ≠ cntOFF → ∃ t, exec
    (.serialSample n) s = .next t ∧ t.chan n = { s.chan n with clocking := true }) ∧
  (∀ (s : State) (n : ChanId), s.powered = true → s.serialMode n = false ∨ s.cntState n = cntOFF → ∃ t, exec
    (.serialSample n) s = .next t ∧ t.motion = s.motion) ∧
  (∀ (s : State) (n : ChanId) (f : SerialFrame) (r : Reading) (raw : Nat), s.powered = true → (s.chan n).clocking =
    true → f.startMissing = false → f.idleLow = false → r = readFields (s.framing n).fields f.bits []
    { pos := 0, posBits := 0, turn := 0, turnBits := 0, parityBad := false, crcBad := false, error := false, warning := false }
    → r.parityBad = false → r.crcBad = false → r.error = false → s.cntState n = cntWAIT → (s.chan n).awaitFirst
    = true → (s.chan n).everGood = false → raw = r.turn * 2 ^ r.posBits + (if (s.framing n).gray then grayDecode
    r.posBits r.pos else r.pos) → (s.chanCfg n).reverse = false → ∃ t, exec (.serialFrameDone n f) s = .next t ∧
    (t.chan n).count = raw ∧ (t.chan n).awaitFirst = false ∧ (t.chan n).clocking = false ∧ t.cntState n =
    cntVALID ∧ t.get (F.MOT_CH_STATUS_bad_run n) = 0) ∧
  (∀ (s : State) (n : ChanId) (f : SerialFrame), s.powered = true → (s.chan n).clocking = true → f.idleLow = true →
    s.cntState n = cntVALID → (s.framing n).badLimit < s.get (F.MOT_CH_STATUS_bad_run n) + 1 → s.get
    (F.MOT_CH_STATUS_bad_run n) < 65535 → ∃ t, exec (.serialFrameDone n f) s = .next t ∧ (t.chan n).count =
    (s.chan n).count ∧ t.cntState n = cntFAULT) ∧
  (∀ (s : State) (n : ChanId) (f : SerialFrame), s.powered = true → (s.chan n).clocking = false → ∃ t, exec
    (.serialFrameDone n f) s = .next t ∧ t.motion = s.motion) ∧
  (∀ (s : State) (n : ChanId), s.powered = true → s.cntState n = cntWAIT ∨ s.cntState n = cntVALID → ∃ t, exec
    (.amplitudeLoss n) s = .next t ∧ (t.chan n).lineBreak = true ∧ t.cntState n = cntFAULT ∧ t.get
    (F.MOT_CH_STATUS_fault_cause n) = 1 ∧ t.get (F.MOT_CH_STATUS_speed_state n) = 0 ∧ (t.chan n).count = (s.chan
    n).count ∧ ∀ x ∈ t.chanEntries n, x.2.state ≠ 1 ∧ x.2.state ≠ 2) ∧
  (∀ (s : State) (n : ChanId) (x : Nat × Milepost), s.powered = true → s.cntState n = cntWAIT ∨ s.cntState n =
    cntVALID → x ∈ s.chanEntries n → s.isSafetyPart x.2.part = true → ∃ t, exec (.amplitudeLoss n) s = .next t ∧
    t.get F.SAFE_STATUS_state = safeSAFE ∧ t.outputsOff) ∧
  (∀ (s : State) (n : ChanId), s.powered = true → s.cntState n = cntOFF → ∃ t, exec (.amplitudeLoss n) s = .next t
    ∧ t.motion = s.motion) ∧
  (∀ (s : State) (n : ChanId), s.powered = true → ∃ t, exec (.amplitudeReturn n) s = .next t ∧ t.chan n =
    { s.chan n with lineBreak := false } ∧ t.cntState n = s.cntState n) ∧
  (∀ (s : State) (n : ChanId), s.powered = true → s.get (F.MOT_CH_STATUS_speed_state n) ≠ 0 → s.serialMode n =
    false → (∀ x ∈ (s.chan n).changes, (s.chanCfg n).standstill ≤ s.clk.now - x.1) → ∃ t, exec (.speedStandstill n) s = .next t ∧ t.get (F.MOT_CH_STATUS_speed_state n) = 1 ∧ t.get
    (F.MOT_CH_SPEED_speed n) = 0 ∧ (t.chan n).count = (s.chan n).count) ∧
  (∀ (s : State) (i : Port) (n : ChanId), s.powered = true → s.privileged i = true → s.cntState n = cntFAULT →
    s.faultPersists n = false → ∃ t, exec (.clearFault i n) s = .next t ∧ t.cntState n = cntWAIT ∧ t.get
    (F.MOT_CH_STATUS_fault_cause n) = 0 ∧ (t.chan n).awaitFirst = true ∧ (t.chan n).count = (s.chan n).count ∧
    t.get (F.MOT_CMD_STATUS_code i) = 0 ∧ t.get (F.MOT_CMD_STATUS_reason i) = 0) ∧
  (∀ (s : State) (i : Port) (n : ChanId), s.powered = true → s.privileged i = true → s.cntState n = cntFAULT →
    s.faultPersists n = true → ∃ t, exec (.clearFault i n) s = .next t ∧ t.cntState n = cntFAULT ∧ t.motion =
    s.motion ∧ t.wrote Code.MOT_CMD_REFUSED [i, n, 0] ∧ t.get (F.MOT_CMD_STATUS_code i) = Code.MOT_CMD_REFUSED ∧
    t.get (F.MOT_CMD_STATUS_reason i) = 1) ∧
  (∀ (s : State) (i : Port) (n : ChanId), s.powered = true → s.privileged i = true → s.cntState n ≠ cntFAULT → ∃ t,
    exec (.clearFault i n) s = .next t ∧ t.cntState n = s.cntState n ∧ t.motion = s.motion ∧ t.wrote
    Code.MOT_CMD_REFUSED [i, n, 1] ∧ t.get (F.MOT_CMD_STATUS_code i) = Code.MOT_CMD_REFUSED ∧ t.get
    (F.MOT_CMD_STATUS_reason i) = 2) ∧
  (∀ (s : State) (i : Port) (n : ChanId), s.powered = true → s.privileged i = false → ∃ t, exec (.clearFault i n) s
    = .next t ∧ t.cntState n = s.cntState n ∧ t.motion = s.motion ∧ t.wrote Code.MOT_ROLE [i, 4] ∧ t.get
    (F.MOT_CMD_STATUS_code i) = Code.MOT_ROLE ∧ t.get (F.MOT_CMD_STATUS_reason i) = 0)

/-- R314, R316, R317, R322, R347, R348 (Tables MOT-4, MOT-9). -/
def Obligations.Mileposts : Prop :=
  (∀ (s : State) (p : Part) (r : List Byte) (c j : Nat) (g : PulseProgram), s.powered = true → s.hasField = true →
    s.armReason p r = 0 → c = recField r 1 1 → s.freeEntry c = some j → s.pulseProgram p (recField r 2 1)
    (recField r 4 4) = some g → ∃ t, exec (.arm p r) s = .next t ∧ ∃ e, tfind t.motion.entries (mpKey c j) =
    some e ∧ e.state = 1 ∧ e.target = toSigned 64 (recField r 8 8) ∧ e.tag = recField r 4 4 ∧ e.lead = recField
    r 16 2 ∧ e.program = g ∧ e.output = recField r 3 1 ∧ e.part = p.val ∧ e.doubt = 0) ∧
  (∀ (s : State) (p : Part) (r : List Byte), s.powered = true → s.hasField = true → s.armReason p r ≠ 0 → recField
    r 1 1 < 8 → s.isSafetyPart p = false ∨ s.armRefusalSoft p = true → ∃ t, exec (.arm p r) s = .next t ∧
    t.motion.entries = s.motion.entries ∧ t.get (F.MOT_CH_LATE_refused (recField r 1 1)) = min (s.get
    (F.MOT_CH_LATE_refused (recField r 1 1)) + 1) 65535) ∧
  (∀ (s : State) (p : Part) (r : List Byte), s.powered = true → s.hasField = true → s.armReason p r ≠ 0 →
    s.isSafetyPart p = true → s.armRefusalSoft p = false → ∃ t, exec (.arm p r) s = .next t ∧ t.get
    F.SAFE_STATUS_state = safeSAFE ∧ t.outputsOff) ∧
  (∀ (s : State) (p : Part) (r : List Byte), s.powered = true → s.hasField = false → ∃ t, exec (.arm p r) s = .next
    t ∧ t.motion = s.motion ∧ ∃ u ∈ t.host.subjects, u.part = p.val ∧ u.tag = recField r 4 4 ∧ u.key = none ∧
    u.settled = false) ∧
  (∀ (s : State) (n : ChanId) (k : Nat) (e : Milepost) (st : PulseStep), s.powered = true → s.due n = [(k, e)] → k
    / 4096 = n.val → s.suppressed e.output = false → s.motion.pulses = [] → e.program.steps[0]? = some st →
    st.action ≠ 0 → ∃ t, exec (.milepostFire n) s = .next t ∧ (∃ x, tfind t.motion.entries k = some x ∧ x.state
    = 3 ∧ x.firedAt = (s.chan n).count ∧ x.tag = e.tag) ∧ t.get (F.MOT_CH_FIRED_count n) = min (s.get
    (F.MOT_CH_FIRED_count n) + 1) (2 ^ 32 - 1) ∧ ∃ u, t.motion.pulses = [u] ∧ u.entry = k ∧ u.step = 0 ∧
    u.output = e.output ∧ u.on = (st.action == 1)) ∧
  (∀ (s : State) (n : ChanId) (k : Nat) (e : Milepost), s.powered = true → s.due n = [(k, e)] → k / 4096 = n.val →
    s.get F.SAFE_STATUS_state = safeSAFE → ∃ t, exec (.milepostFire n) s = .next t ∧ tfind t.motion.entries k =
    none ∧ t.motion.pulses = s.motion.pulses ∧ t.get (F.MOT_CH_SUPPRESSED_count n) = min (s.get
    (F.MOT_CH_SUPPRESSED_count n) + 1) 65535) ∧
  (∀ (s : State) (n : ChanId), s.powered = true → s.due n = [] → ∃ t, exec (.milepostFire n) s = .next t ∧ t.motion
    = s.motion) ∧
  (∀ (s : State) (n : ChanId) (e : Fin 4096) (u : Pulse) (st q : PulseStep), s.powered = true → s.motion.pulses =
    [u] → u.entry = mpKey n e → u.program.steps[u.step]? = some st → st.counts = false ∨ st.duration ≤ (s.chan
    n).count - u.stepCount → u.program.steps[u.step + 1]? = some q → q.action ≠ 0 → ∃ t, exec (.pulseStepEnd n
    e) s = .next t ∧ ∃ v, t.motion.pulses = [v] ∧ v.entry = u.entry ∧ v.step = u.step + 1 ∧ v.stepTime =
    s.clk.now ∧ v.on = (q.action == 1)) ∧
  (∀ (s : State) (n : ChanId) (e : Fin 4096) (u : Pulse) (st : PulseStep), s.powered = true → s.motion.pulses = [u]
    → u.entry = mpKey n e → u.program.steps[u.step]? = some st → st.counts = false ∨ st.duration ≤ (s.chan
    n).count - u.stepCount → (u.program.steps[u.step + 1]? = none ∨ (∃ q, u.program.steps[u.step + 1]? = some q
    ∧ q.action = 0)) → ∃ t, exec (.pulseStepEnd n e) s = .next t ∧ t.motion.pulses = []) ∧
  (∀ (s : State) (n : ChanId) (e : Fin 4096), s.powered = true → s.pulseOf (mpKey n e) = none → ∃ t, exec
    (.pulseStepEnd n e) s = .next t ∧ t.motion = s.motion) ∧
  (∀ (s : State) (n : ChanId) (e : Fin 4096) (u : Pulse) (x : Milepost), s.powered = true → s.motion.pulses = [u] →
    u.entry = mpKey n e → tfind s.motion.entries u.entry = some x → x.state = 3 → x.serial = u.serial → ∃ t,
    exec (.pulseMaxOn n e) s = .next t ∧ t.motion.pulses = [] ∧ tfind t.motion.entries u.entry = none) ∧
  (∀ (s : State) (n : ChanId) (e : Fin 4096), s.powered = true → s.pulseOf (mpKey n e) = none → ∃ t, exec
    (.pulseMaxOn n e) s = .next t ∧ t.motion = s.motion) ∧
  (∀ (s : State) (p : Part) (g : BitVec 32), s.powered = true → (∀ u ∈ s.openSubjects p g.toNat, u.firedPeriod =
    none) → ∃ t, exec (.noVerdict p g) s = .next t ∧ t.host.subjects = s.host.subjects ∧ t.motion = s.motion) ∧
  (∀ (s : State) (p : Part) (g : BitVec 32) (u : Subject), s.powered = true → s.host.subjects = [u] → u.kind = 1 →
    u.part = p.val → u.tag = g.toNat → u.settled = false → u.firedPeriod ≠ none → ∃ t, exec (.noVerdict p g) s =
    .next t ∧ s.openSubjects p g.toNat = [u] ∧ t.openSubjects p g.toNat = [])

/-- R93, R311 to R313, R318, R319, R321, R322 (Tables FIO-1, MOT-5). -/
def Obligations.FieldIo : Prop :=
  (∀ (s : State) (d : Fin 8) (v : Divider) (c : Int), s.powered = true → s.divider d = some v → s.divSource d =
    some c → v.started = true → v.threshold ≤ c * 65536 → v.busy = false → ∃ t, exec (.dividerTrigger d) s =
    .next t ∧ (t.divider d).map (fun w => (w.threshold, w.busy, w.pulse)) = some (v.threshold + (s.divCfg
    d).ratio, true, true) ∧ t.get (F.MOT_DIV_TRIG_next d) = (s.get (F.MOT_DIV_TRIG_next d) + 1) % 65536) ∧
  (∀ (s : State) (d : Fin 8) (v : Divider) (c : Int), s.powered = true → s.divider d = some v → s.divSource d =
    some c → v.started = true → v.threshold ≤ c * 65536 → v.busy = true → v.waiting.length < 4 → ∃ t, exec
    (.dividerTrigger d) s = .next t ∧ t.divider d = some
    { v with threshold := v.threshold + (s.divCfg d).ratio, waiting := v.waiting ++ [ofSigned 32 c] } ∧ t.lane =
    s.lane) ∧
  (∀ (s : State) (d : Fin 8) (v : Divider) (c : Int), s.powered = true → s.divider d = some v → s.divSource d =
    some c → v.started = true → v.threshold ≤ c * 65536 → v.busy = true → 4 ≤ v.waiting.length → ∃ t, exec
    (.dividerTrigger d) s = .next t ∧ t.divider d = some
    { v with threshold := v.threshold + (s.divCfg d).ratio } ∧ t.get (F.MOT_DIV_TRIG_dropped d) = min (s.get
    (F.MOT_DIV_TRIG_dropped d) + 1) 65535 ∧ t.wrote Code.TRIGGER_DROPPED [d, s.get (F.MOT_DIV_TRIG_next d)] ∧
    t.lane = s.lane) ∧
  (∀ (s : State) (d : Fin 8) (v : Divider) (c : Int), s.powered = true → s.divider d = some v → s.divSource d =
    some c → v.started = false ∨ c * 65536 < v.threshold → ∃ t, exec (.dividerTrigger d) s = .next t ∧ t.motion
    = s.motion ∧ t.lane = s.lane) ∧
  (∀ (s : State) (d : Fin 8) (v : Divider) (c : Nat) (cs : List Nat), s.powered = true → s.divider d = some v →
    v.waiting = c :: cs → ∃ t, exec (.triggerRelease d) s = .next t ∧ t.divider d = some
    { v with waiting := cs, busy := true, pulse := true } ∧ t.get (F.MOT_DIV_TRIG_next d) = (s.get
    (F.MOT_DIV_TRIG_next d) + 1) % 65536) ∧
  (∀ (s : State) (d : Fin 8) (v : Divider), s.powered = true → s.divider d = some v → v.waiting = [] → ∃ t, exec
    (.triggerRelease d) s = .next t ∧ t.divider d = some { v with busy := false } ∧ t.lane = s.lane) ∧
  (∀ (s : State) (d : Fin 8) (v : Divider), s.powered = true → s.divider d = some v → ∃ t, exec (.pulseWidthEnd d)
    s = .next t ∧ t.divider d = some { v with pulse := false }) ∧
  (∀ (s : State) (i : Fin 32) (b : Bool), s.powered = true → s.hasField = true → s.island 120 = true → s.fieldLow = false →
    (∀ e ∈ s.fio.settle, e.1 ≠ i.val) → (s.get
    F.FIO_IN_state).testBit i ≠ b → (s.inCfg i).edge = 3 ∨ (s.inCfg i).edge = 1 ∧ b = true ∨ (s.inCfg i).edge =
    2 ∧ b = false → ∃ t, exec (.fieldInputChange i b) s = .next t ∧ (t.get F.FIO_IN_state).testBit i = b ∧ t.get
    (F.FIO_CAP_TIME_new i) = 1 ∧ t.get (F.FIO_CAP_COUNT_count i) = ofSigned 32 (s.countAt (s.inCfg i).capture
    ((s.inCfg i).filterUs * 200)) ∧ t.get (F.FIO_CAP_TIME_ns i) = (s.clk.ns + 1000000000 - (s.inCfg i).filterUs
    * 1000) % 1000000000) ∧
  (∀ (s : State) (i : Fin 32) (b : Bool), s.powered = true → s.hasField = true → s.island 120 = true → s.fieldLow = false →
    (∀ e ∈ s.fio.settle, e.1 ≠ i.val) → (s.get
    F.FIO_IN_state).testBit i ≠ b → (s.inCfg i).edge = 0 → ∃ t, exec (.fieldInputChange i b) s = .next t ∧
    (t.get F.FIO_IN_state).testBit i = b ∧ t.get (F.FIO_CAP_COUNT_count i) = s.get (F.FIO_CAP_COUNT_count i) ∧
    t.get (F.FIO_CAP_TIME_new i) = s.get (F.FIO_CAP_TIME_new i)) ∧
  (∀ (s : State) (i : Fin 32) (b : Bool), s.powered = true → s.hasField = true → s.island 120 = true → s.fieldLow = false →
    (∃ e ∈ s.fio.settle, e.1 = i.val) → ∃ t, exec (.fieldInputChange i b) s = .next t ∧ (t.get F.FIO_IN_state).testBit i = b ∧
    (∀ e ∈ t.fio.settle, e.1 ≠ i.val) ∧ t.get (F.FIO_CAP_COUNT_count i) = s.get (F.FIO_CAP_COUNT_count i) ∧
    t.get (F.FIO_CAP_TIME_new i) = s.get (F.FIO_CAP_TIME_new i)) ∧
  (∀ (s : State) (i : Fin 32) (b : Bool), s.powered = true → s.hasField = false ∨ s.island 120 = false ∨ s.fieldLow = true → ∃ t, exec
    (.fieldInputChange i b) s = .next t ∧ t.get F.FIO_IN_state = s.get F.FIO_IN_state) ∧
  (∀ (s : State) (i : Port) (m : Word), s.powered = true → s.hasField = true → ∃ t, exec (.fioOutSet i m) s = .next
    t ∧ ∀ o, t.fio.hostOn.testBit o = (s.fio.hostOn.testBit o || (decide (o < 32) && m.toNat.testBit o &&
    s.mayDrive i o && !s.suppressed o))) ∧
  (∀ (s : State) (i : Port) (m : Word), s.powered = true → s.hasField = true → ∃ t, exec (.fioOutClr i m) s = .next
    t ∧ ∀ o, t.fio.hostOn.testBit o = (s.fio.hostOn.testBit o && !(decide (o < 32) && m.toNat.testBit o &&
    s.mayDrive i o))) ∧
  (∀ (s : State) (i : Port) (m : Word) (o : Nat), s.powered = true → s.hasField = true → o < 32 → m.toNat.testBit o
    = true → s.mayDrive i o = false → ∃ t, exec (.fioOutSet i m) s = .next t ∧ t.wrote Code.FIO_ROLE [i, 0xC]) ∧
  (∀ (s : State) (i : Port) (m : Word), s.powered = true → s.hasField = false → ∃ t, exec (.fioOutSet i m) s =
    .next t ∧ t.fio.hostOn = s.fio.hostOn) ∧
  (∀ (s : State) (i : Port) (m : Word) (o : Nat), s.powered = true → s.hasField = true → o < 32 → m.toNat.testBit o
    = true → s.mayDrive i o = false → ∃ t, exec (.fioOutClr i m) s = .next t ∧ t.wrote Code.FIO_ROLE [i, 0x10]) ∧
  (∀ (s : State) (i : Port) (m : Word), s.powered = true → s.hasField = false → ∃ t, exec (.fioOutClr i m) s =
    .next t ∧ t.fio.hostOn = s.fio.hostOn) ∧
  (∀ (s : State) (i : Port) (o : BitVec 6), s.powered = true → s.hasField = true → s.privileged i = true ∨
    s.claimPort i o.toNat = true → o.toNat < 32 → ∃ t, exec (.outputClear i o) s = .next t ∧ t.get
    (F.FIO_OUT_DIAG_overload o.toNat) = 0 ∧ t.get (F.FIO_OUT_DIAG_latched o.toNat) = 0 ∧ t.get
    (F.FIO_OUT_DIAG_open_wire o.toNat) = 0 ∧ t.get (F.FIO_OUT_DIAG_isolator o.toNat) = 0) ∧
  (∀ (s : State) (i : Port) (o : BitVec 6), s.powered = true → s.hasField = true → s.privileged i = false →
    s.claimPort i o.toNat = false → ∃ t, exec (.outputClear i o) s = .next t ∧ t.get (F.FIO_OUT_DIAG_latched
    o.toNat) = s.get (F.FIO_OUT_DIAG_latched o.toNat) ∧ t.wrote Code.FIO_ROLE [i, 0x14]) ∧
  (∀ (s : State) (o : Fin 32) (mA : BitVec 16), s.powered = true → s.hasField = true → s.island 120 = true → ∃ t, exec (.fioOutputFault o
    0 mA) s = .next t ∧ t.get (F.FIO_OUT_FAULTS_count o) = min (s.get (F.FIO_OUT_FAULTS_count o) + 1) 65535 ∧
    t.get (F.FIO_OUT_DIAG_overload o) = 1 ∧ t.get (F.FIO_OUT_DIAG_current_ma o) = mA.toNat ∧ (s.get
    (F.FIO_OUT_CFG_retry_ms o) = 0 → t.get (F.FIO_OUT_DIAG_latched o) = 1) ∧ t.wrote Code.FIO_OUTPUT_FAULT [o,
    0, mA.toNat]) ∧
  (∀ (s : State) (o : Fin 32) (mA : BitVec 16), s.powered = true → s.hasField = true → s.island 120 = true → ∃ t, exec (.fioOutputFault o
    3 mA) s = .next t ∧ t.get (F.FIO_OUT_FAULTS_count o) = min (s.get (F.FIO_OUT_FAULTS_count o) + 1) 65535 ∧
    t.get (F.FIO_OUT_DIAG_over_temp o) = 1 ∧ t.get (F.FIO_OUT_DIAG_current_ma o) = mA.toNat ∧ t.wrote
    Code.FIO_OUTPUT_FAULT [o, 3, mA.toNat]) ∧
  (∀ (s : State) (o : Fin 32) (mA : BitVec 16), s.powered = true → s.hasField = true → s.island 120 = true → ∃ t, exec (.fioOutputFault o
    4 mA) s = .next t ∧ t.get (F.FIO_OUT_FAULTS_count o) = min (s.get (F.FIO_OUT_FAULTS_count o) + 1) 65535 ∧
    t.get (F.FIO_OUT_DIAG_isolator o) = 1 ∧ t.wrote Code.FIO_OUTPUT_FAULT [o, 4, mA.toNat]) ∧
  (∀ (s : State) (o : Fin 32) (mA : BitVec 16) (k : Nat), s.powered = true → s.hasField = true → s.island 120 = true → k < 8 → ∃ t, exec
    (.fioOutputFault o 1 mA) s = .next t ∧ t.get (F.FIO_OUT_FAULTS_count o) = min (s.get (F.FIO_OUT_FAULTS_count
    o) + 1) 65535 ∧ t.get (F.FIO_OUT_DIAG_overload (8 * (o.val / 8) + k)) = 1 ∧ t.get (F.FIO_GROUP_current_ma
    (o.val / 8)) = mA.toNat) ∧
  (∀ (s : State) (o : Fin 32) (mA : BitVec 16), s.powered = true → s.hasField = true → s.island 120 = true → (∀ q, s.claim o = some q →
    q.2.openWireMask = false) → ∃ t, exec (.fioOutputFault o 2 mA) s = .next t ∧ t.get (F.FIO_OUT_FAULTS_count
    o) = min (s.get (F.FIO_OUT_FAULTS_count o) + 1) 65535 ∧ t.get (F.FIO_OUT_DIAG_open_wire o) = 1 ∧ t.get
    (F.FIO_OUT_DIAG_current_ma o) = mA.toNat) ∧
  (∀ (s : State) (o : Fin 32) (mA : BitVec 16) (q : Nat × ClaimCfg), s.powered = true → s.claim o = some q →
    q.2.openWireMask = true → ∃ t, exec (.fioOutputFault o 2 mA) s = .next t ∧ t.get (F.FIO_OUT_DIAG_open_wire
    o) = s.get (F.FIO_OUT_DIAG_open_wire o) ∧ t.get (F.FIO_OUT_FAULTS_count o) = s.get (F.FIO_OUT_FAULTS_count
    o)) ∧
  (∀ (s : State) (o : Fin 32) (c : Fin 5) (mA : BitVec 16), s.powered = true → s.island 120 = false → ∃ t, exec (.fioOutputFault o c
    mA) s = .next t ∧ t.get (F.FIO_OUT_FAULTS_count o) = s.get (F.FIO_OUT_FAULTS_count o) ∧ t.get (F.FIO_OUT_DIAG_current_ma o) =
    s.get (F.FIO_OUT_DIAG_current_ma o)) ∧
  (∀ (s : State) (o : Fin 32), s.powered = true → ∃ t, exec (.outputRetry o) s = .next t ∧ t.get
    (F.FIO_OUT_DIAG_overload o) = if s.get (F.FIO_OUT_DIAG_latched o) = 0 then 0 else s.get
    (F.FIO_OUT_DIAG_overload o)) ∧
  (∀ (s : State) (o : Fin 32), s.powered = true → ∃ t, exec (.outputCooled o) s = .next t ∧ t.get
    (F.FIO_OUT_DIAG_over_temp o) = 0 ∧ t.get (F.FIO_OUT_DIAG_overload o) = s.get (F.FIO_OUT_DIAG_overload o))

/-- R328 to R331, Table TIME-2.  The arithmetic of offset and delay is PRESUMED from IEEE 1588-2019, which R328 cites (see log entry 145). -/
def Obligations.PtpServo : Prop :=
  (∀ (s : State) (tp : Fin 2) (m : Ptp), s.powered = true → s.goodMessage tp m → m.twoStep = true → ∃ t, exec
    (.sync tp m) s = .next t ∧
    { port := tp.val, source := m.source, seq := m.seq, at_ := s.localNs, corr := ptpCorr m } ∈ t.time.syncWait
    ∧ t.time.offset = s.time.offset) ∧
  (∀ (s : State) (tp : Fin 2) (m : Ptp) (off : Int), s.powered = true → s.goodMessage tp m → m.twoStep = false →
    s.time.master = some (m.source, tp.val) → off = s.localNs - ptpStamp m - ptpCorr m - s.masterPath tp → ∃ t,
    exec (.sync tp m) s = .next t ∧ t.measured off) ∧
  (∀ (s : State) (tp : Fin 2) (m : Ptp) (off : Int), s.powered = true → s.goodMessage tp m → m.twoStep = false →
    s.time.master = some (m.source, tp.val) → off = s.localNs - ptpStamp m - ptpCorr m - s.masterPath tp →
    s.timeValid = true → s.time.slew = none → s.jump.natAbs < off.natAbs → ∃ t, exec (.sync tp m) s = .next t ∧
    t.get F.TIME_STATUS_state = tsHOLDOVER ∧ t.get F.TIME_FREQ_ppb = ofSigned 32 s.time.lockedRate ∧ t.get
    F.TIME_STATUS_valid = 1 ∧ t.get (F.TIME_PTP_CNT_jumps tp) = min (s.get (F.TIME_PTP_CNT_jumps tp) + 1) 65535
    ∧ t.clk = s.clk) ∧
  (∀ (s : State) (tp : Fin 2) (m : Ptp) (off : Int), s.powered = true → s.goodMessage tp m → m.twoStep = false →
    s.time.master = some (m.source, tp.val) → off = s.localNs - ptpStamp m - ptpCorr m - s.masterPath tp →
    s.timeValid = true → s.time.slew = none → off.natAbs ≤ s.jump.natAbs → off.natAbs < 100 → 15 ≤
    s.time.goodRun → s.get F.TIME_STATUS_state ≠ tsLOCKED → ∃ t, exec (.sync tp m) s = .next t ∧ t.get
    F.TIME_STATUS_state = tsLOCKED ∧ t.wrote Code.TIME_LOCKED [tp, ofSigned 32 off] ∧ -200000 ≤ toSigned 32
    (t.get F.TIME_FREQ_ppb) ∧ toSigned 32 (t.get F.TIME_FREQ_ppb) ≤ 200000) ∧
  (∀ (s : State) (tp : Fin 2) (m : Ptp) (off : Int), s.powered = true → s.goodMessage tp m → m.twoStep = false →
    s.time.master = some (m.source, tp.val) → off = s.localNs - ptpStamp m - ptpCorr m - s.masterPath tp →
    s.timeValid = true → s.time.slew = none → off.natAbs ≤ s.jump.natAbs → 100 ≤ off.natAbs → 3 ≤ s.time.badRun
    → s.get F.TIME_STATUS_state = tsLOCKED → ∃ t, exec (.sync tp m) s = .next t ∧ t.get F.TIME_STATUS_state =
    tsACQUIRING ∧ t.get F.TIME_STATUS_valid = 1) ∧
  (∀ (s : State) (tp : Fin 2) (m : Ptp) (off : Int), s.powered = true → s.goodMessage tp m → m.twoStep = false →
    s.time.master = some (m.source, tp.val) → off = s.localNs - ptpStamp m - ptpCorr m - s.masterPath tp →
    s.timeValid = false → s.time.measured = false → s.time.step = none → ∃ t, exec (.sync tp m) s = .next t ∧
    t.time.step = some (255, 0) ∧ t.get F.TIME_STATUS_step_pending = 1 ∧ t.clk = s.clk) ∧
  (∀ (s : State) (tp : Fin 2) (m : Ptp), s.powered = true → s.goodMessage tp m → m.twoStep = false → s.time.master
    ≠ some (m.source, tp.val) → ∃ t, exec (.sync tp m) s = .next t ∧ t.time.offset = s.time.offset ∧ t.get
    F.TIME_STATUS_state = s.get F.TIME_STATUS_state) ∧
  (∀ (s : State) (tp : Fin 2) (m : Ptp), s.powered = true → s.goodMessage tp m → s.tcMode ≠ 0 → s.island (109 +
    2 * (1 - tp.val)) = true → ∃ t, exec (.sync tp m) s = .next t ∧ ∃ r : Nat, t.time.out = s.time.out ++ [.ptp (1 - tp.val) ptpSYNC
    { m with correction := m.correction + 65536 * r + (if s.tcMode = 2 then 65536 * tget 0 s.time.linkDelay tp.val else 0) }]) ∧
  (∀ (s : State) (tp : Fin 2) (m : Ptp) (w : SyncWait), s.powered = true → s.goodMessage tp m →
    s.time.syncWait.find? (fun w => w.port == tp.val && w.source == m.source && w.seq == m.seq) = some w →
    s.time.master = some (m.source, tp.val) → ∃ t, exec (.followUp tp m) s = .next t ∧ t.measured (w.at_ -
    ptpStamp m - (w.corr + ptpCorr m) - s.masterPath tp)) ∧
  (∀ (s : State) (tp : Fin 2) (m : Ptp) (w : SyncWait), s.powered = true → s.goodMessage tp m →
    s.time.syncWait.find? (fun w => w.port == tp.val && w.source == m.source && w.seq == m.seq) = some w →
    s.time.master ≠ some (m.source, tp.val) → ∃ t, exec (.followUp tp m) s = .next t ∧ t.time.offset =
    s.time.offset ∧ ∀ v ∈ t.time.syncWait, v.port ≠ w.port ∨ v.source ≠ w.source) ∧
  (∀ (s : State) (tp : Fin 2) (m : Ptp), s.powered = true → s.goodMessage tp m → s.time.syncWait.find? (fun w =>
    w.port == tp.val && w.source == m.source && w.seq == m.seq) = none → ∃ t, exec (.followUp tp m) s = .next t
    ∧ s.violated t tp 2 ptpFOLLOWUP ∧ t.time.offset = s.time.offset)

/-- R326, R328 to R330, R338, Table TIME-2.  The delay arithmetic is PRESUMED from IEEE 1588-2019, which R328 cites (see log entry 145). -/
def Obligations.PtpProtocol : Prop :=
  (∀ (s : State) (tp : Fin 2) (m : Ptp), s.powered = true → s.island (108 + 2 * tp.val) = true → m.bridgeFull = false → m.domain ≠
    s.cfg.structureSec.domain ∨ m.version ≠ 2 ∨ m.length < m.claimed → ∃ t, exec (.sync tp m) s = .next t ∧
    s.violated t tp 0 ptpSYNC ∧ t.time.out = s.time.out ∧ t.clk = s.clk) ∧
  (∀ (s : State) (tp : Fin 2) (m : Ptp), s.powered = true → s.island (108 + 2 * tp.val) = true → m.bridgeFull = false → m.domain ≠
    s.cfg.structureSec.domain ∨ m.version ≠ 2 ∨ m.length < m.claimed → ∃ t, exec (.delayReq tp m) s = .next t ∧
    s.violated t tp 0 ptpDELAYREQ ∧ t.time.out = s.time.out ∧ t.clk = s.clk) ∧
  (∀ (s : State) (tp : Fin 2) (m : Ptp), s.powered = true → s.island (108 + 2 * tp.val) = true → m.bridgeFull = false → m.domain ≠
    s.cfg.structureSec.domain ∨ m.version ≠ 2 ∨ m.length < m.claimed → ∃ t, exec (.pdelayReq tp m) s = .next t ∧
    s.violated t tp 0 ptpPDELAYREQ ∧ t.time.out = s.time.out ∧ t.clk = s.clk) ∧
  (∀ (s : State) (tp : Fin 2) (m : Ptp), s.powered = true → s.island (108 + 2 * tp.val) = true → m.bridgeFull = false → m.domain ≠
    s.cfg.structureSec.domain ∨ m.version ≠ 2 ∨ m.length < m.claimed → ∃ t, exec (.pdelayResp tp m) s = .next t
    ∧ s.violated t tp 0 ptpPDELAYRESP ∧ t.time.out = s.time.out ∧ t.clk = s.clk) ∧
  (∀ (s : State) (tp : Fin 2) (m : Ptp), s.powered = true → s.island (108 + 2 * tp.val) = true → m.bridgeFull = false → m.domain ≠
    s.cfg.structureSec.domain ∨ m.version ≠ 2 ∨ m.length < m.claimed → ∃ t, exec (.followUp tp m) s = .next t ∧
    s.violated t tp 0 ptpFOLLOWUP ∧ t.time.out = s.time.out ∧ t.clk = s.clk) ∧
  (∀ (s : State) (tp : Fin 2) (m : Ptp), s.powered = true → s.island (108 + 2 * tp.val) = true → m.bridgeFull = false → m.domain ≠
    s.cfg.structureSec.domain ∨ m.version ≠ 2 ∨ m.length < m.claimed → ∃ t, exec (.delayResp tp m) s = .next t ∧
    s.violated t tp 0 ptpDELAYRESP ∧ t.time.out = s.time.out ∧ t.clk = s.clk) ∧
  (∀ (s : State) (tp : Fin 2) (m : Ptp), s.powered = true → s.island (108 + 2 * tp.val) = true → m.bridgeFull = false → m.domain ≠
    s.cfg.structureSec.domain ∨ m.version ≠ 2 ∨ m.length < m.claimed → ∃ t, exec (.pdelayRespFollowUp tp m) s =
    .next t ∧ s.violated t tp 0 ptpPDELAYRESPFU ∧ t.time.out = s.time.out ∧ t.clk = s.clk) ∧
  (∀ (s : State) (tp : Fin 2) (m : Ptp), s.powered = true → s.island (108 + 2 * tp.val) = true → m.bridgeFull = false → m.domain ≠
    s.cfg.structureSec.domain ∨ m.version ≠ 2 ∨ m.length < m.claimed → ∃ t, exec (.announce tp m) s = .next t ∧
    s.violated t tp 0 ptpANNOUNCE ∧ t.time.out = s.time.out ∧ t.clk = s.clk) ∧
  (∀ (s : State) (tp : Fin 2) (m : Ptp), s.powered = true → s.goodMessage tp m → 255 ≤ m.dataset.getD 6 0 → ∃ t,
    exec (.announce tp m) s = .next t ∧ s.violated t tp 1 ptpANNOUNCE ∧ t.time.foreign = s.time.foreign) ∧
  (∀ (s : State) (tp : Fin 2) (m : Ptp), s.powered = true → s.goodMessage tp m → m.dataset.getD 6 0 < 255 →
    m.source / 65536 = Config.clockIdentity.toNat → ∃ t, exec (.announce tp m) s = .next t ∧ t.time.foreign =
    s.time.foreign ∧ t.time.master = s.time.master) ∧
  (∀ (s : State) (tp : Fin 2) (m : Ptp), s.powered = true → s.goodMessage tp m → m.dataset.getD 6 0 < 255 →
    m.source / 65536 ≠ Config.clockIdentity.toNat → ∃ t, exec (.announce tp m) s = .next t ∧ ∃ f ∈
    t.time.foreign, f.source = m.source ∧ f.port = tp.val ∧ f.dataset = m.dataset) ∧
  (∀ (s : State) (tp : Fin 2) (m : Ptp) (g : Foreign) (a : Nat) (l : List Nat), s.powered = true → s.goodMessage tp m →
    m.dataset.getD 6 0 < 255 → m.source / 65536 ≠ Config.clockIdentity.toNat → s.time.foreign = [g] → g.source = m.source → g.port =
    tp.val → g.heard = a :: l → s.clk.now < a + 4 * s.announceSamples → s.masterCapable = false ∨ better s.ownDataset m.dataset =
    false → ∃ t, exec (.announce tp m) s = .next t ∧ (s.masterCapable = true ∧ s.ownClass < 128 → t.time.master = none ∧
    t.get F.TIME_STATUS_grandmaster = 0) ∧ (s.masterCapable = false ∨ 128 ≤ s.ownClass → s.time.master = none → t.time.master =
    some (m.source, tp.val) ∧ t.time.measured = false ∧ t.get F.TIME_STATUS_grandmaster = 0)) ∧
  (∀ (s : State) (tp : Fin 2) (m : Ptp) (g : Foreign) (a : Nat) (l : List Nat), s.powered = true → s.goodMessage tp m →
    m.dataset.getD 6 0 < 255 → m.source / 65536 ≠ Config.clockIdentity.toNat → s.time.foreign = [g] → g.source = m.source → g.port =
    tp.val → g.heard = a :: l → s.clk.now < a + 4 * s.announceSamples → s.masterCapable = true → better s.ownDataset m.dataset =
    true → ∃ t, exec (.announce tp m) s = .next t ∧ t.time.master = none ∧ t.get F.TIME_STATUS_grandmaster = 1) ∧
  (∀ (s : State) (tp : Fin 2) (m : Ptp), s.powered = true → s.goodMessage tp m → m.dataset.getD 6 0 < 255 →
    m.source / 65536 ≠ Config.clockIdentity.toNat → s.time.foreign = [] → s.time.master = none → ∃ t, exec (.announce tp m) s =
    .next t ∧ t.time.master = none ∧ t.get F.TIME_STATUS_grandmaster = s.get F.TIME_STATUS_grandmaster) ∧
  (∀ (s : State) (tp : Fin 2) (m : Ptp), s.powered = true → s.goodMessage tp m → s.island (109 + 2 * tp.val) = true →
    s.tcMode = 0 → s.on F.TIME_STATUS_grandmaster = true → s.peerDelay = false → ∃ t, exec (.delayReq tp m) s = .next t ∧ t.time.out
    = s.time.out ++ [.ptp tp ptpDELAYRESP
    { s.ownPtp tp m.seq 54 with correction := m.correction, target := m.source, interval := Config.logDelayReq.toInt }]) ∧
  (∀ (s : State) (tp : Fin 2) (m : Ptp), s.powered = true → s.goodMessage tp m → s.tcMode = 0 → s.on
    F.TIME_STATUS_grandmaster = false → ∃ t, exec (.delayReq tp m) s = .next t ∧ t.time.out = s.time.out) ∧
  (∀ (s : State) (tp : Fin 2) (m : Ptp) (a b : Nat) (t3 leg : Int), s.powered = true → s.goodMessage tp m →
    m.target = portIdentity tp → s.time.delayReq.find? (fun e => e.1 == tp.val && e.2.1 == m.seq) = some (a, b,
    t3) → s.time.syncLeg = some leg → ∃ t, exec (.delayResp tp m) s = .next t ∧ t.time.pathDelay = (if s.time.master =
    some (m.source, tp.val) then (leg + (ptpStamp m - t3 - ptpCorr m)) / 2 else s.time.pathDelay)) ∧
  (∀ (s : State) (tp : Fin 2) (m : Ptp), s.powered = true → s.goodMessage tp m → m.target = portIdentity tp →
    s.time.delayReq.find? (fun e => e.1 == tp.val && e.2.1 == m.seq) = none → ∃ t, exec (.delayResp tp m) s =
    .next t ∧ s.violated t tp 2 ptpDELAYRESP ∧ t.time.pathDelay = s.time.pathDelay) ∧
  (∀ (s : State) (tp : Fin 2) (m : Ptp), s.powered = true → s.goodMessage tp m → m.target ≠ portIdentity tp →
    s.tcMode ≠ 0 → s.island (109 + 2 * (1 - tp.val)) = true → ∃ t, exec (.delayResp tp m) s = .next t ∧ t.time.out = s.time.out ++ [.ptp (1 - tp.val)
    ptpDELAYRESP m]) ∧
  (∀ (s : State) (src tp : Nat) (n : Nat), s.powered = true → s.time.master = some (src, tp) → s.peerDelay = false
    → s.island (109 + 2 * tp) = true → n = tget 0 s.time.seqNos (16 * tp + ptpDELAYREQ) → ∃ t, exec .delayReqTransmit s = .next t ∧ t.time.out =
    s.time.out ++ [.ptp tp ptpDELAYREQ (s.ownPtp tp n 44)] ∧ (tp, n, (s.localNs : Int)) ∈ t.time.delayReq) ∧
  (∀ (s : State), s.powered = true → s.time.master = none → ∃ t, exec .delayReqTransmit s = .next t ∧ t.time =
    s.time) ∧
  (∀ (s : State) (tp : Fin 2) (n : Nat), s.powered = true → s.island (109 + 2 * tp.val) = true → s.peerDelay = true → n = tget 0 s.time.seqNos (16 *
    tp.val + ptpPDELAYREQ) → ∃ t, exec (.pdelayReqTransmit tp) s = .next t ∧ t.time.out = s.time.out ++ [.ptp tp
    ptpPDELAYREQ (s.ownPtp tp n 54)] ∧ (tp.val, n, (s.localNs : Int), none) ∈ t.time.pdelayReq) ∧
  (∀ (s : State) (tp : Fin 2), s.powered = true → s.peerDelay = false → ∃ t, exec (.pdelayReqTransmit tp) s = .next
    t ∧ t.time = s.time) ∧
  (∀ (s : State) (tp : Fin 2) (m : Ptp), s.powered = true → s.goodMessage tp m → s.island (109 + 2 * tp.val) = true →
    s.peerDelay = true → ∃ t, exec (.pdelayReq tp m) s = .next t ∧ ∃ f : Ptp, t.time.out = s.time.out ++ [.ptp tp ptpPDELAYRESP
    { s.ownPtp tp m.seq 54 with target := m.source, twoStep := true }, .ptp tp ptpPDELAYRESPFU f] ∧ f.target =
    m.source ∧ f.seq = m.seq ∧ f.correction = m.correction) ∧
  (∀ (s : State) (tp : Fin 2) (m : Ptp), s.powered = true → s.goodMessage tp m → s.peerDelay = false → s.tcMode = 0
    → ∃ t, exec (.pdelayReq tp m) s = .next t ∧ t.time.out = s.time.out) ∧
  (∀ (s : State) (tp : Fin 2) (m : Ptp) (a b : Nat) (t1 : Int) (o : Option Int), s.powered = true → s.goodMessage
    tp m → m.target = portIdentity tp → s.time.pdelayReq.find? (fun e => e.1 == tp.val && e.2.1 == m.seq) = some
    (a, b, t1, o) → m.twoStep = false → ∃ t, exec (.pdelayResp tp m) s = .next t ∧ tget 0 t.time.linkDelay
    tp.val = ((s.localNs : Int) - t1 - ptpCorr m) / 2) ∧
  (∀ (s : State) (tp : Fin 2) (m : Ptp) (a b : Nat) (t1 : Int) (o : Option Int), s.powered = true → s.goodMessage
    tp m → m.target = portIdentity tp → s.time.pdelayReq.find? (fun e => e.1 == tp.val && e.2.1 == m.seq) = some
    (a, b, t1, o) → m.twoStep = true → ∃ t, exec (.pdelayResp tp m) s = .next t ∧ (tp.val, m.seq, t1, some
    (ptpStamp m - t1 + s.localNs - ptpCorr m)) ∈ t.time.pdelayReq) ∧
  (∀ (s : State) (tp : Fin 2) (m : Ptp) (a b : Nat) (t1 v : Int), s.powered = true → s.goodMessage tp m → m.target
    = portIdentity tp → s.time.pdelayReq.find? (fun e => e.1 == tp.val && e.2.1 == m.seq) = some (a, b, t1, some
    v) → ∃ t, exec (.pdelayRespFollowUp tp m) s = .next t ∧ tget 0 t.time.linkDelay tp.val = (v - ptpStamp m -
    ptpCorr m) / 2) ∧
  (∀ (s : State) (tp : Fin 2) (m : Ptp), s.powered = true → s.goodMessage tp m → m.target = portIdentity tp →
    s.time.pdelayReq.find? (fun e => e.1 == tp.val && e.2.1 == m.seq) = none → ∃ t, exec (.pdelayRespFollowUp tp
    m) s = .next t ∧ t.time.linkDelay = s.time.linkDelay) ∧
  (∀ (s : State) (tp : Fin 2) (n : Nat), s.powered = true → s.on F.TIME_STATUS_grandmaster = true → s.timeLinked tp
    = true → n = tget 0 s.time.seqNos (16 * tp.val + ptpSYNC) → ∃ t, exec (.syncTransmit tp) s = .next t ∧
    t.time.out = s.time.out ++ [.ptp tp ptpSYNC { s.ownPtp tp n 44 with interval := s.cfg.structureSec.logSync }] ∧ tget 0 t.time.seqNos (16 * tp.val +
    ptpSYNC) = (n + 1) % 65536) ∧
  (∀ (s : State) (tp : Fin 2), s.powered = true → s.on F.TIME_STATUS_grandmaster = false → ∃ t, exec (.syncTransmit
    tp) s = .next t ∧ t.time = s.time) ∧
  (∀ (s : State) (tp : Fin 2) (n : Nat), s.powered = true → s.on F.TIME_STATUS_grandmaster = true → s.timeLinked tp
    = true → n = tget 0 s.time.seqNos (16 * tp.val + ptpANNOUNCE) → ∃ t, exec (.announceTransmit tp) s = .next t
    ∧ t.time.out = s.time.out ++ [.ptp tp ptpANNOUNCE { s.ownPtp tp n 64 with dataset := s.ownDataset, interval := s.cfg.structureSec.logAnnounce }] ∧ tget
    0 t.time.seqNos (16 * tp.val + ptpANNOUNCE) = (n + 1) % 65536) ∧
  (∀ (s : State) (tp : Fin 2), s.powered = true → s.on F.TIME_STATUS_grandmaster = false → ∃ t, exec
    (.announceTransmit tp) s = .next t ∧ t.time = s.time) ∧
  (∀ (s : State) (src tp : Nat), s.powered = true → s.time.master = some (src, tp) → (∀ f ∈ s.time.foreign,
    f.source = src ∧ f.port = tp) → s.timeValid = true → s.get F.TIME_STATUS_state ≠ tsHOLDOVER → ∃ t, exec
    .masterLost s = .next t ∧ t.time.master = none ∧ t.time.foreign = [] ∧ t.get F.TIME_STATUS_state =
    tsHOLDOVER ∧ t.get F.TIME_STATUS_valid = 1 ∧ t.get F.TIME_FREQ_ppb = ofSigned 32 s.time.lockedRate ∧
    (s.masterCapable = true → t.get F.TIME_STATUS_grandmaster = 1) ∧ t.wrote Code.TIME_HOLDOVER [0]) ∧
  (∀ (s : State) (src tp : Nat), s.powered = true → s.time.master = some (src, tp) → (∀ f ∈ s.time.foreign,
    f.source = src ∧ f.port = tp) → s.timeValid = false → ∃ t, exec .masterLost s = .next t ∧ t.time.master =
    none ∧ t.get F.TIME_STATUS_state = tsINVALID ∧ t.get F.TIME_FREQ_ppb = 0) ∧
  (∀ (s : State) (tp : Fin 2), s.powered = true → s.island (108 + 2 * tp.val) = true → ∃ t, exec (.nonPtpFrame tp)
    s = .next t ∧ tget 0 t.time.nonPtp tp.val = tget 0 s.time.nonPtp tp.val + 1 ∧ t.time.queues = s.time.queues ∧
    t.time.out = s.time.out) ∧
  (∀ (s : State) (tp : Fin 2) (m : Ptp), s.powered = true → s.island (108 + 2 * tp.val) = false → ∃ t, exec (.sync tp
    m) s = .next t ∧ t.time = s.time ∧ t.clk = s.clk) ∧
  (∀ (s : State) (tp : Fin 2) (m : Ptp), s.powered = true → s.island (108 + 2 * tp.val) = false → ∃ t, exec (.delayReq tp
    m) s = .next t ∧ t.time = s.time ∧ t.clk = s.clk) ∧
  (∀ (s : State) (tp : Fin 2) (m : Ptp), s.powered = true → s.island (108 + 2 * tp.val) = false → ∃ t, exec (.pdelayReq tp
    m) s = .next t ∧ t.time = s.time ∧ t.clk = s.clk) ∧
  (∀ (s : State) (tp : Fin 2) (m : Ptp), s.powered = true → s.island (108 + 2 * tp.val) = false → ∃ t, exec (.pdelayResp tp
    m) s = .next t ∧ t.time = s.time ∧ t.clk = s.clk) ∧
  (∀ (s : State) (tp : Fin 2) (m : Ptp), s.powered = true → s.island (108 + 2 * tp.val) = false → ∃ t, exec (.followUp tp
    m) s = .next t ∧ t.time = s.time ∧ t.clk = s.clk) ∧
  (∀ (s : State) (tp : Fin 2) (m : Ptp), s.powered = true → s.island (108 + 2 * tp.val) = false → ∃ t, exec (.delayResp tp
    m) s = .next t ∧ t.time = s.time ∧ t.clk = s.clk) ∧
  (∀ (s : State) (tp : Fin 2) (m : Ptp), s.powered = true → s.island (108 + 2 * tp.val) = false → ∃ t, exec (.pdelayRespFollowUp tp
    m) s = .next t ∧ t.time = s.time ∧ t.clk = s.clk) ∧
  (∀ (s : State) (tp : Fin 2) (m : Ptp), s.powered = true → s.island (108 + 2 * tp.val) = false → ∃ t, exec (.announce tp
    m) s = .next t ∧ t.time = s.time ∧ t.clk = s.clk) ∧
  (∀ (s : State) (tp : Fin 2), s.powered = true → s.island (108 + 2 * tp.val) = false → ∃ t, exec (.nonPtpFrame tp)
    s = .next t ∧ t.time = s.time)

/-- R332, R335, Table TIME-5. -/
def Obligations.TimeCommands : Prop :=
  (∀ (s : State) (i : Port), s.powered = true → s.privileged i = true → ∃ t, exec (.step i) s = .next t ∧
    t.time.step = some (i.val, s.timeSet i) ∧ t.get F.TIME_STATUS_step_pending = 1 ∧ t.clk = s.clk ∧ t.get
    (F.TIME_CMD_STATUS_code i) = 0 ∧ t.get (F.TIME_CMD_STATUS_reason i) = 0) ∧
  (∀ (s : State) (i : Port), s.powered = true → s.privileged i = false → ∃ t, exec (.step i) s = .next t ∧ t.wrote
    Code.TIME_REFUSED [i, tcSTEP, trROLE] ∧ t.get (F.TIME_CMD_STATUS_code i) = Code.TIME_REFUSED ∧ t.get
    (F.TIME_CMD_STATUS_reason i) = trROLE ∧ t.time = s.time ∧ t.clk = s.clk) ∧
  (∀ (s : State) (i : Port), s.powered = true → s.privileged i = true → s.masterPresent = true → ∃ t, exec (.slew
    i) s = .next t ∧ t.time.slew = some (s.time.offset, s.clk.now) ∧ t.get F.TIME_FREQ_ppb = ofSigned 32 (if 0 <
    s.time.offset then -(s.slewPpb : Int) else if s.time.offset < 0 then s.slewPpb else 0) ∧ t.clk = s.clk ∧
    t.get (F.TIME_CMD_STATUS_code i) = 0 ∧ t.get (F.TIME_CMD_STATUS_reason i) = 0) ∧
  (∀ (s : State) (i : Port), s.powered = true → s.privileged i = false → ∃ t, exec (.slew i) s = .next t ∧ t.wrote
    Code.TIME_REFUSED [i, tcSLEW, trROLE] ∧ t.get (F.TIME_CMD_STATUS_code i) = Code.TIME_REFUSED ∧ t.get
    (F.TIME_CMD_STATUS_reason i) = trROLE ∧ t.time = s.time ∧ t.clk = s.clk) ∧
  (∀ (s : State) (i : Port), s.powered = true → s.privileged i = true → s.masterPresent = false → ∃ t, exec (.slew
    i) s = .next t ∧ t.wrote Code.TIME_REFUSED [i, tcSLEW, trNOMASTER] ∧ t.get (F.TIME_CMD_STATUS_code i) =
    Code.TIME_REFUSED ∧ t.get (F.TIME_CMD_STATUS_reason i) = trNOMASTER ∧ t.time = s.time ∧ t.clk = s.clk) ∧
  (∀ (s : State) (i : Port) (p : Part) (n : Nat), s.powered = true → s.privileged i = true ∨ s.owns i p = true →
    s.timeValid = true → n = s.get64 (F.TIME_START_LO_count i) (F.TIME_START_HI_count i) → s.milestone ≤ n → ∃
    t, exec (.startAt i p) s = .next t ∧ tfind t.time.startAt p.val = some n ∧ (t.get
    F.TIME_START_PENDING_mask).testBit p.val = true ∧ t.get (F.TIME_CMD_STATUS_code i) = 0 ∧ t.get
    (F.TIME_CMD_STATUS_reason i) = 0) ∧
  (∀ (s : State) (i : Port) (p : Part), s.powered = true → s.privileged i = false → s.owns i p = false → ∃ t, exec
    (.startAt i p) s = .next t ∧ t.wrote Code.TIME_REFUSED [i, tcSTARTAT, trROLE] ∧ t.get
    (F.TIME_CMD_STATUS_code i) = Code.TIME_REFUSED ∧ t.get (F.TIME_CMD_STATUS_reason i) = trROLE ∧ t.time =
    s.time ∧ t.clk = s.clk) ∧
  (∀ (s : State) (i : Port) (p : Part), s.powered = true → s.privileged i = true ∨ s.owns i p = true → s.timeValid
    = false → ∃ t, exec (.startAt i p) s = .next t ∧ t.wrote Code.TIME_REFUSED [i, tcSTARTAT, trINVALIDTIME] ∧
    t.get (F.TIME_CMD_STATUS_code i) = Code.TIME_REFUSED ∧ t.get (F.TIME_CMD_STATUS_reason i) = trINVALIDTIME ∧
    t.time = s.time ∧ t.clk = s.clk) ∧
  (∀ (s : State) (i : Port) (p : Part), s.powered = true → s.privileged i = true ∨ s.owns i p = true → s.timeValid
    = true → s.get64 (F.TIME_START_LO_count i) (F.TIME_START_HI_count i) < s.milestone → ∃ t, exec (.startAt i
    p) s = .next t ∧ t.wrote Code.TIME_REFUSED [i, tcSTARTAT, trPAST] ∧ t.get (F.TIME_CMD_STATUS_code i) =
    Code.TIME_REFUSED ∧ t.get (F.TIME_CMD_STATUS_reason i) = trPAST ∧ t.time = s.time ∧ t.clk = s.clk) ∧
  (∀ (s : State) (i : Port) (p : Part), s.powered = true → s.privileged i = true ∨ s.owns i p = true → ∃ t, exec
    (.startCancel i p) s = .next t ∧ tfind t.time.startAt p.val = none ∧ (t.get
    F.TIME_START_PENDING_mask).testBit p.val = false ∧ t.get (F.TIME_CMD_STATUS_code i) = 0 ∧ t.get
    (F.TIME_CMD_STATUS_reason i) = 0) ∧
  (∀ (s : State) (i : Port) (p : Part), s.powered = true → s.privileged i = false → s.owns i p = false → ∃ t, exec
    (.startCancel i p) s = .next t ∧ t.wrote Code.TIME_REFUSED [i, tcSTARTCANCEL, trROLE] ∧ t.get
    (F.TIME_CMD_STATUS_code i) = Code.TIME_REFUSED ∧ t.get (F.TIME_CMD_STATUS_reason i) = trROLE ∧ t.time =
    s.time ∧ t.clk = s.clk)

/-- R337, R338, Table TIME-3. -/
def Obligations.LaunchQueues : Prop :=
  (∀ (s : State) (tp : Fin 2) (p : Part) (r : List Byte) (x : Launch), s.powered = true → x =
    { timeNs := recField r 0 6 * 1000000000 + recField r 6 4, length := recField r 10 2, loc := recField r 12 4 }
    → (s.launchClaim tp).map (fun e => e.1) = some p.val → recField r 6 4 < 1000000000 → 60 ≤ x.length →
    x.length ≤ 1518 → 64 * x.loc + x.length ≤ 0x4000000 → s.timeValid = true → (s.launches tp).length < 64 → (∀
    y, (s.launches tp).getLast? = some y → y.timeNs ≤ x.timeNs) → ∃ t, exec (.launchRecord tp p r) s = .next t ∧
    t.launches tp = s.launches tp ++ [x] ∧ t.get (F.TIME_LQ_depth tp) = (s.launches tp).length + 1) ∧
  (∀ (s : State) (tp : Fin 2) (p : Part) (r : List Byte) (x : Launch), s.powered = true → x =
    { timeNs := recField r 0 6 * 1000000000 + recField r 6 4, length := recField r 10 2, loc := recField r 12 4 }
    → (s.launchClaim tp).map (fun e => e.1) ≠ some p.val ∨ 1000000000 ≤ recField r 6 4 ∨ x.length < 60 ∨ 1518 <
    x.length ∨ 0x4000000 < 64 * x.loc + x.length → ∃ t, exec (.launchRecord tp p r) s = .next t ∧ t.time =
    s.time ∧ t.wrote Code.LAUNCH_REFUSED [tp, lrBADRECORD] ∧ t.get (F.TIME_LQ_LATE_refused tp) = min (s.get
    (F.TIME_LQ_LATE_refused tp) + 1) 65535) ∧
  (∀ (s : State) (tp : Fin 2) (p : Part) (r : List Byte) (x : Launch), s.powered = true → x =
    { timeNs := recField r 0 6 * 1000000000 + recField r 6 4, length := recField r 10 2, loc := recField r 12 4 }
    → (s.launchClaim tp).map (fun e => e.1) = some p.val → recField r 6 4 < 1000000000 → 60 ≤ x.length →
    x.length ≤ 1518 → 64 * x.loc + x.length ≤ 0x4000000 → s.timeValid = false → ∃ t, exec (.launchRecord tp p r)
    s = .next t ∧ t.time = s.time ∧ t.wrote Code.LAUNCH_REFUSED [tp, lrINVALIDTIME] ∧ t.get
    (F.TIME_LQ_LATE_refused tp) = min (s.get (F.TIME_LQ_LATE_refused tp) + 1) 65535) ∧
  (∀ (s : State) (tp : Fin 2) (p : Part) (r : List Byte) (x : Launch), s.powered = true → x =
    { timeNs := recField r 0 6 * 1000000000 + recField r 6 4, length := recField r 10 2, loc := recField r 12 4 }
    → (s.launchClaim tp).map (fun e => e.1) = some p.val → recField r 6 4 < 1000000000 → 60 ≤ x.length →
    x.length ≤ 1518 → 64 * x.loc + x.length ≤ 0x4000000 → s.timeValid = true → 64 ≤ (s.launches tp).length → ∃
    t, exec (.launchRecord tp p r) s = .next t ∧ t.time = s.time ∧ t.wrote Code.LAUNCH_REFUSED [tp, lrFULL] ∧
    t.get (F.TIME_LQ_LATE_refused tp) = min (s.get (F.TIME_LQ_LATE_refused tp) + 1) 65535) ∧
  (∀ (s : State) (tp : Fin 2) (p : Part) (r : List Byte) (x : Launch) (y : Launch), s.powered = true → x =
    { timeNs := recField r 0 6 * 1000000000 + recField r 6 4, length := recField r 10 2, loc := recField r 12 4 }
    → (s.launchClaim tp).map (fun e => e.1) = some p.val → recField r 6 4 < 1000000000 → 60 ≤ x.length →
    x.length ≤ 1518 → 64 * x.loc + x.length ≤ 0x4000000 → s.timeValid = true → (s.launches tp).length < 64 →
    (s.launches tp).getLast? = some y → x.timeNs < y.timeNs → ∃ t, exec (.launchRecord tp p r) s = .next t ∧
    t.time = s.time ∧ t.wrote Code.LAUNCH_REFUSED [tp, lrORDER] ∧ t.get (F.TIME_LQ_LATE_refused tp) = min (s.get
    (F.TIME_LQ_LATE_refused tp) + 1) 65535) ∧
  (∀ (s : State) (tp : Fin 2) (x : Launch) (rest : List Launch), s.powered = true → s.launches tp = x :: rest →
    x.timeNs ≤ s.localNs + 8 → s.localNs ≤ x.timeNs + 8 → s.island (109 + 2 * tp.val) = true → ∃ t, exec (.frameLaunch tp) s = .next t ∧ t.launches
    tp = rest ∧ t.time.out = s.time.out ++ [.frame tp (withFcs (s.bytes (lineStoreBase + 64 * x.loc) x.length))] ∧ t.get
    (F.TIME_LQ_SENT_count tp) = min (s.get (F.TIME_LQ_SENT_count tp) + 1) (2 ^ 32 - 1)) ∧
  (∀ (s : State) (tp : Fin 2) (x : Launch) (rest : List Launch), s.powered = true → s.launches tp = x :: rest →
    s.localNs + 8 < x.timeNs → ∃ t, exec (.frameLaunch tp) s = .next t ∧ t.time = s.time) ∧
  (∀ (s : State) (tp : Fin 2) (x : Launch) (rest : List Launch) (q : Nat × LaunchClaim), s.powered = true →
    s.launches tp = x :: rest → x.timeNs + 8 < s.localNs → s.launchClaim tp = some q → q.2.sendLate = true →
    s.localNs - x.timeNs ≤ q.2.windowUs * 1000 → s.island (109 + 2 * tp.val) = true → ∃ t, exec (.frameLaunch tp) s = .next t ∧ t.launches tp = rest
    ∧ t.get (F.TIME_LQ_LATE_late tp) = min (s.get (F.TIME_LQ_LATE_late tp) + 1) 65535 ∧ t.time.out = s.time.out
    ++ [.frame tp (withFcs (s.bytes (lineStoreBase + 64 * x.loc) x.length))] ∧ t.get (F.TIME_LQ_SENT_count tp) = min
    (s.get (F.TIME_LQ_SENT_count tp) + 1) (2 ^ 32 - 1)) ∧
  (∀ (s : State) (tp : Fin 2) (x : Launch) (rest : List Launch) (q : Nat × LaunchClaim), s.powered = true →
    s.launches tp = x :: rest → x.timeNs + 8 < s.localNs → s.launchClaim tp = some q → q.2.sendLate = false ∨
    q.2.windowUs * 1000 < s.localNs - x.timeNs → ∃ t, exec (.frameLaunch tp) s = .next t ∧ t.launches tp = rest
    ∧ t.get (F.TIME_LQ_LATE_late tp) = min (s.get (F.TIME_LQ_LATE_late tp) + 1) 65535 ∧ t.time.out = s.time.out
    ∧ t.wrote Code.LAUNCH_LATE [tp, s.localNs - x.timeNs, 1]) ∧
  (∀ (s : State) (tp : Fin 2) (x : Launch) (rest : List Launch), s.powered = true → s.launches tp = x :: rest →
    x.timeNs ≤ s.localNs + 8 → s.localNs ≤ x.timeNs + 8 → s.island (109 + 2 * tp.val) = false → ∃ t, exec
    (.frameLaunch tp) s = .next t ∧ t.launches tp = rest ∧ t.time.out = s.time.out) ∧
  (∀ (s : State) (tp : Fin 2), s.powered = true → s.launches tp = [] → ∃ t, exec (.frameLaunch tp) s = .next t ∧
    t.time = s.time)

/-- R339, R340, Table PEER-3 (reasons 1 and 2).  That HELLO and credit are unsequenced, and the number of buffers granted, are the model's (see log entry 148). -/
def Obligations.PeerSides : Prop :=
  (∀ (s : State) (k : Fin 2) (e : PeerHead) (h : Hello), s.powered = true → s.peerLane k e.lane = true → e.bridgeFull = false →
    e.sound k = true → s.goodHello k h → s.sideUp k = false → (s.side k).lanes.testBit e.lane = false →
    (s.side k).lanes + 2 ^ e.lane.val = 3 → (s.side k).helloRun e.lane h = 3 → ∃ t, exec (.hello k e h) s =
    .next t ∧ t.sideUp k = true ∧ t.get (F.PEER_SIDE_state k) = laneUP ∧ t.get (F.PEER_SIDE_node k) =
    h.node.toNat ∧ t.side k =
    { side0 with lanes := 3, granted := Config.peerBuffers.toNat, digests := h.digests } ∧ t.peer.out =
    s.peer.out ++ [(k.val, some e.lane.val, none, .hello s.ownHello), (k.val, none, none, .credit Config.peerBuffers.toNat)] ∧ (s.get
    F.KEEP_STATUS_boot_phase ≠ phaseTRAINING → t.wrote Code.PEER_UP [k, h.node.toNat])) ∧
  (∀ (s : State) (k : Fin 2) (e : PeerHead) (h : Hello), s.powered = true → s.peerLane k e.lane = true → e.bridgeFull = false →
    e.sound k = true → s.goodHello k h → s.sideUp k = false → (s.side k).lanes = 0 → (s.side k).helloRun e.lane h = 3 → ∃ t,
    exec (.hello k e h) s = .next t ∧ t.sideUp k = false ∧ t.get (F.PEER_SIDE_state k) = laneEXCHANGE ∧ t.side k =
    { s.side k with hellos := tput (s.side k).hellos e.lane (h, 3), lanes := 2 ^ e.lane.val } ∧
    t.peer.out = s.peer.out ++ [(k.val, some e.lane.val, none, .hello s.ownHello)]) ∧
  (∀ (s : State) (k : Fin 2) (e : PeerHead) (h : Hello) (n : Nat), s.powered = true → s.peerLane k e.lane = true →
    e.bridgeFull = false → e.sound k = true → s.goodHello k h → s.sideUp k = false → (s.side k).lanes ≠ 3 →
    n = (s.side k).helloRun e.lane h → n < 3 → ∃ t,
    exec (.hello k e h) s = .next t ∧ t.sideUp k = false ∧ t.get (F.PEER_SIDE_state k) = laneEXCHANGE ∧ t.side k =
    { s.side k with hellos := tput (s.side k).hellos e.lane (h, n) } ∧
    t.peer.out = s.peer.out ++ [(k.val, some e.lane.val, none, .hello s.ownHello)]) ∧
  (∀ (s : State) (k : Fin 2) (e : PeerHead) (h : Hello), s.powered = true → s.peerLane k e.lane = true → e.bridgeFull = false → e.sound k = true →
    ¬ s.goodHello k h → ∃ t, exec (.hello k e h) s = .next t ∧ t.sideUp k = false ∧ t.get (F.PEER_SIDE_state k)
    = laneFAILED ∧ t.side k = side0 ∧ t.peer.out = s.peer.out ++ [(k.val, some e.lane.val, none, .hello s.ownHello)] ∧ (s.get
    F.KEEP_STATUS_boot_phase ≠ phaseTRAINING → t.wrote Code.PEER_VIOLATION [k, 1])) ∧
  (∀ (s : State) (k : Fin 2) (e : PeerHead) (h : Hello), s.powered = true → s.peerLane k e.lane = true → e.bridgeFull = false → e.sound k = false
    → ∃ t, exec (.hello k e h) s = .next t ∧ s.nakked t k 2) ∧
  (∀ (s : State) (k : Fin 2) (e : PeerHead) (h : Hello), s.powered = true → s.peerLane k e.lane = false → ∃ t, exec
    (.hello k e h) s = .next t ∧ t.peer = s.peer ∧ t.sideUp k = s.sideUp k) ∧
  (∀ (s : State) (k : Fin 2), s.powered = true → s.get (F.PEER_SIDE_state k) = laneFAILED → ∃ t, exec
    (.peerHelloRetry k) s = .next t ∧ t.get (F.PEER_SIDE_state k) = laneEXCHANGE ∧ t.peer.out = s.peer.out ++
    [(k.val, some 0, none, .hello s.ownHello), (k.val, some 1, none, .hello s.ownHello)]) ∧
  (∀ (s : State) (k : Fin 2), s.powered = true → s.get (F.PEER_SIDE_state k) ≠ laneFAILED → ∃ t, exec
    (.peerHelloRetry k) s = .next t ∧ t.peer = s.peer ∧ t.get (F.PEER_SIDE_state k) = s.get (F.PEER_SIDE_state
    k)) ∧
  (∀ (s : State) (k : Fin 2), s.powered = true → s.sideUp k = true → ∃ t, exec (.peerDown k) s = .next t ∧ t.sideUp
    k = false ∧ t.get (F.PEER_SIDE_state k) = laneREFWAIT ∧ t.side k = side0 ∧ t.wrote Code.PEER_DOWN [k,
    (s.side k).resend.length + (s.side k).waiting.length]) ∧
  (∀ (s : State) (k : Fin 2), s.powered = true → s.sideUp k = false → ∃ t, exec (.peerDown k) s = .next t ∧ t.peer
    = s.peer ∧ t.get (F.PEER_SIDE_state k) = s.get (F.PEER_SIDE_state k))

/-- R340 to R342, R404, R405, Table PEER-3. -/
def Obligations.PeerPackets : Prop :=
  (∀ (s : State) (k : Fin 2) (e : PeerHead) (v : VergeIn), s.powered = true → s.sideUp k = true → s.peerLane k e.lane = true → e.bridgeFull = false → e.sound k = false ∨ e.seq.toNat ≠ (s.side k).rxNext → ∃ t, exec (.verge k e v) s = .next t ∧ s.nakked
    t k 2) ∧
  (∀ (s : State) (k : Fin 2) (e : PeerHead) (v : VergeIn), s.powered = true → s.peerHears k e → e.seq.toNat =
    (s.side k).rxNext → (s.side k).granted = 0 → ∃ t, exec (.verge k e v) s = .next t ∧ s.nakked t k 3) ∧
  (∀ (s : State) (k : Fin 2) (e : PeerHead) (v : VergeIn), s.powered = true → s.sideUp k = false ∨ s.peerLane k e.lane = false → ∃ t, exec
    (.verge k e v) s = .next t ∧ t.peer = s.peer ∧ t.mem = s.mem) ∧
  (∀ (s : State) (k : Fin 2) (e : PeerHead) (r : List Byte) (tr : Option (BitVec 32)), s.powered = true → s.sideUp k = true → s.peerLane k e.lane = true → e.bridgeFull = false → e.sound k = false ∨ e.seq.toNat ≠ (s.side k).rxNext → ∃ t, exec (.contrib k
    e r tr) s = .next t ∧ s.nakked t k 2) ∧
  (∀ (s : State) (k : Fin 2) (e : PeerHead) (r : List Byte) (tr : Option (BitVec 32)), s.powered = true →
    s.peerHears k e → e.seq.toNat = (s.side k).rxNext → (s.side k).granted = 0 → ∃ t, exec (.contrib k e r tr) s
    = .next t ∧ s.nakked t k 3) ∧
  (∀ (s : State) (k : Fin 2) (e : PeerHead) (r : List Byte) (tr : Option (BitVec 32)), s.powered = true → s.sideUp k = false ∨ s.peerLane k e.lane = false → ∃ t, exec (.contrib k e r tr) s = .next t ∧ t.peer = s.peer ∧ t.mem = s.mem) ∧
  (∀ (s : State) (k : Fin 2) (e : PeerHead) (key : BitVec 64) (n : BitVec 8), s.powered = true → s.sideUp k = true → s.peerLane k e.lane = true → e.bridgeFull = false → e.sound k = false ∨ e.seq.toNat ≠ (s.side k).rxNext → ∃ t, exec (.reject k e key n) s
    = .next t ∧ s.nakked t k 2) ∧
  (∀ (s : State) (k : Fin 2) (e : PeerHead) (key : BitVec 64) (n : BitVec 8), s.powered = true → s.peerHears k e →
    e.seq.toNat = (s.side k).rxNext → (s.side k).granted = 0 → ∃ t, exec (.reject k e key n) s = .next t ∧
    s.nakked t k 3) ∧
  (∀ (s : State) (k : Fin 2) (e : PeerHead) (key : BitVec 64) (n : BitVec 8), s.powered = true → s.sideUp k = false ∨ s.peerLane k e.lane = false → ∃ t, exec (.reject k e key n) s = .next t ∧ t.peer = s.peer ∧ t.mem = s.mem) ∧
  (∀ (s : State) (k : Fin 2) (e : PeerHead) (seam : Fin 2) (line : BitVec 32) (row : List Byte) (c : SeamCfg),
    s.powered = true → s.peerTakes k e → s.seamNo k seam = some c → c.stride * 64 ≤ row.length → s.seamTagAddr c
    line.toNat + 16 ≤ s.seamRowAddr c line.toNat ∨ s.seamRowAddr c line.toNat + c.stride * 64 ≤ s.seamTagAddr c
    line.toNat → ∃ t, exec (.verge k e (.rows seam line [row])) s = .next t ∧ s.tookPacket t k e ∧ t.bytes
    (s.seamRowAddr c line.toNat) (c.stride * 64) = row.take (c.stride * 64) ∧ t.bytes (s.seamTagAddr c
    line.toNat) 4 = leBytes 4 line.toNat ∧ t.byte (s.seamTagAddr c line.toNat + 15) = 0xA5 ∧ ∀ a, (a <
    s.seamRowAddr c line.toNat ∨ s.seamRowAddr c line.toNat + c.stride * 64 ≤ a) → (a < s.seamTagAddr c
    line.toNat ∨ s.seamTagAddr c line.toNat + 16 ≤ a) → t.byte a = s.byte a) ∧
  (∀ (s : State) (k : Fin 2) (e : PeerHead) (seam : Fin 2) (line : BitVec 32) (n : Nat) (l : Nat) (d : BitVec 256) (w : BitVec 64) (b : SeamWait), s.powered = true → s.peerTakes k e → s.peer.blocks
    = [b] → b.seam = 2 * k.val + seam.val → b.line = line.toNat → b.own = some d → ∃ t, exec (.verge k e (.check
    seam line n l d w)) s = .next t ∧ s.tookPacket t k e ∧ t.peer.blocks = [] ∧ (b.seam, b.line) ∈ t.peer.passed ∧ t.get (F.INTEG_SEAM_blocks
    b.seam) = min (s.get (F.INTEG_SEAM_blocks b.seam) + 1) (2 ^ 32 - 1)) ∧
  (∀ (s : State) (k : Fin 2) (e : PeerHead) (seam : Fin 2) (line : BitVec 32) (n : Nat) (l : Nat) (d : BitVec 256) (w : BitVec 64) (b : SeamWait) (x : BitVec 256), s.powered = true → s.peerTakes k e
    → s.peer.blocks = [b] → b.seam = 2 * k.val + seam.val → b.line = line.toNat → b.own = some x → x ≠ d → ∃ t,
    exec (.verge k e (.check seam line n l d w)) s = .next t ∧ t.peer.blocks = [] ∧ t.get
    (F.INTEG_SEAM_FAULT_mismatches b.seam) = min (s.get (F.INTEG_SEAM_FAULT_mismatches b.seam) + 1) 65535 ∧
    (b.tags = [] → s.tookPacket t k e ∧ t.wrote Code.SEAM_DIGEST_MISMATCH [b.seam, b.line, 0])) ∧
  (∀ (s : State) (k : Fin 2) (e : PeerHead) (seam : Fin 2) (line : BitVec 32) (n : Nat) (l : Nat) (d : BitVec 256) (w : BitVec 64), s.powered = true → s.peerTakes k e → s.peer.blocks = [] → ∃ t,
    exec (.verge k e (.check seam line n l d w)) s = .next t ∧ s.tookPacket t k e ∧ t.peer.blocks =
    [{ seam := 2 * k.val + seam.val, line := line.toNat, own := none, peer := some d, tags := [] }]) ∧
  (∀ (s : State) (m : Fin 4) (line : BitVec 32) (b : SeamWait), s.powered = true → s.peer.blocks.find? (fun z =>
    z.seam == m.val && z.line == line.toNat) = some b → b.own.isSome = true → b.peer = none → ∃ t, exec
    (.seamCheckMissing m line) s = .next t ∧ t.get (F.INTEG_SEAM_FAULT_missing m) = min (s.get
    (F.INTEG_SEAM_FAULT_missing m) + 1) 65535 ∧ (∀ z ∈ t.peer.blocks, ¬(z.seam = m.val ∧ z.line = line.toNat)) ∧
    (b.tags = [] → t.wrote Code.SEAM_CHECK_MISSING [m, line.toNat, 0])) ∧
  (∀ (s : State) (m : Fin 4) (line : BitVec 32), s.powered = true → (∀ b, s.peer.blocks.find? (fun z => z.seam ==
    m.val && z.line == line.toNat) = some b → b.own = none ∨ b.peer.isSome = true) → ∃ t, exec
    (.seamCheckMissing m line) s = .next t ∧ t.peer = s.peer) ∧
  (∀ (s : State) (k : Fin 2) (e : PeerHead) (r : List Byte) (g : BitVec 32) (c : SeamCfg), s.powered = true →
    s.peerTakes k e → recField r 8 2 / 2 = k.val → recField r 8 2 < 4 → s.seamNo k (recField r 8 2 % 2) = some c
    → (∀ z ∈ s.peer.contribs, ¬(z.key = recField r 0 8 ∧ z.seam = recField r 8 2)) → recField r 48 8 = (s.compat
    c.part).toNat → s.partFired c.part g.toNat = false → ¬ contribBad r → ∃ t, exec (.contrib k e r (some g)) s
    = .next t ∧ t.peer.contribs = s.peer.contribs ++ [contribOf r] ∧ s.tookPacket t k e) ∧
  (∀ (s : State) (k : Fin 2) (e : PeerHead) (r : List Byte) (g : BitVec 32) (c : SeamCfg) (h : HeldVerdict) (q : Fin
    4) (u : Subject), s.powered = true → s.peerTakes k e → recField r 8 2 = q.val → q.val / 2 = k.val → s.seamNo k
    (q.val % 2) = some c → (∀ z ∈ s.peer.contribs, ¬(z.key = recField r 0 8 ∧ z.seam = q.val)) → recField r 48 8 =
    (s.compat c.part).toNat → s.partFired c.part g.toNat = false → ¬ contribBad r → s.peer.held = [h] → recField
    h.v.record 12 8 = recField r 0 8 → h.v.expects = [q] → s.blocksPassed h.v = true → s.oneArm h.part (recField h.v.record 4 4) u →
    u.key = none → u.firedPeriod = none → ∃ t, exec (.contrib k e r (some g)) s = .next t ∧ t.peer.held = [] ∧
    t.openSubjects h.part (recField h.v.record 4 4) = [] ∧ s.tookPacket t k e) ∧
  (∀ (s : State) (k : Fin 2) (e : PeerHead) (r : List Byte), s.powered = true → s.peerTakes k e → ∃ t, exec
    (.contrib k e r none) s = .next t ∧ t.peer.contribs = s.peer.contribs ∧ t.get (F.PEER_REJECT_sent k) = min
    (s.get (F.PEER_REJECT_sent k) + 1) 65535 ∧ t.wrote Code.PEER_VIOLATION [k, 4]) ∧
  (∀ (s : State) (k : Fin 2) (e : PeerHead) (r : List Byte) (g : BitVec 32) (c : SeamCfg), s.powered = true →
    s.peerTakes k e → recField r 8 2 / 2 = k.val → recField r 8 2 < 4 → s.seamNo k (recField r 8 2 % 2) = some c
    → (∃ z ∈ s.peer.contribs, (z.key = recField r 0 8 ∧ z.seam = recField r 8 2)) → ∃ t, exec (.contrib k e r
    (some g)) s = .next t ∧ t.peer.contribs = s.peer.contribs ∧ t.get (F.PEER_REJECT_sent k) = min (s.get
    (F.PEER_REJECT_sent k) + 1) 65535 ∧ t.wrote Code.PEER_VIOLATION [k, 5]) ∧
  (∀ (s : State) (k : Fin 2) (e : PeerHead) (r : List Byte) (g : BitVec 32) (c : SeamCfg), s.powered = true →
    s.peerTakes k e → recField r 8 2 / 2 = k.val → recField r 8 2 < 4 → s.seamNo k (recField r 8 2 % 2) = some c
    → (∀ z ∈ s.peer.contribs, ¬(z.key = recField r 0 8 ∧ z.seam = recField r 8 2)) → recField r 48 8 ≠ (s.compat
    c.part).toNat → ∃ t, exec (.contrib k e r (some g)) s = .next t ∧ t.peer.contribs = s.peer.contribs ∧ t.get
    (F.PEER_REJECT_sent k) = min (s.get (F.PEER_REJECT_sent k) + 1) 65535 ∧ (s.openSubjects c.part g.toNat = []
    → t.wrote Code.PEER_VIOLATION [k, 6])) ∧
  (∀ (s : State) (k : Fin 2) (e : PeerHead) (r : List Byte) (g : BitVec 32) (c : SeamCfg), s.powered = true →
    s.peerTakes k e → recField r 8 2 / 2 = k.val → recField r 8 2 < 4 → s.seamNo k (recField r 8 2 % 2) = some c
    → (∀ z ∈ s.peer.contribs, ¬(z.key = recField r 0 8 ∧ z.seam = recField r 8 2)) → recField r 48 8 = (s.compat
    c.part).toNat → s.partFired c.part g.toNat = true → s.peer.held = [] → ∃ t, exec (.contrib k e r (some g)) s = .next t ∧
    t.peer.contribs = s.peer.contribs ++ [contribOf r] ∧ t.get (F.PEER_REJECT_sent k) = min (s.get
    (F.PEER_REJECT_sent k) + 1) 65535 ∧ t.wrote Code.PEER_VIOLATION [k, 7]) ∧
  (∀ (s : State) (k : Fin 2) (e : PeerHead) (r : List Byte) (g : BitVec 32) (c : SeamCfg), s.powered = true →
    s.peerTakes k e → recField r 8 2 / 2 = k.val → recField r 8 2 < 4 → s.seamNo k (recField r 8 2 % 2) = some c
    → (∀ z ∈ s.peer.contribs, ¬(z.key = recField r 0 8 ∧ z.seam = recField r 8 2)) → recField r 48 8 = (s.compat
    c.part).toNat → s.partFired c.part g.toNat = false → contribBad r → ∃ t, exec (.contrib k e r (some g)) s =
    .next t ∧ t.peer.contribs = s.peer.contribs ∧ t.get (F.PEER_REJECT_sent k) = min (s.get (F.PEER_REJECT_sent
    k) + 1) 65535 ∧ (s.openSubjects c.part g.toNat = [] → t.wrote Code.PEER_VIOLATION [k, 8])) ∧
  (∀ (s : State) (k : Fin 2) (e : PeerHead) (key : BitVec 64) (n : BitVec 8), s.powered = true → s.peerTakes k e →
    ∃ t, exec (.reject k e key n) s = .next t ∧ s.tookPacket t k e ∧ t.get (F.PEER_REJECT_received k) = min
    (s.get (F.PEER_REJECT_received k) + 1) 65535 ∧ t.wrote Code.PEER_CONTRIB_REJECTED [k, key.toNat % 2 ^ 32,
    n.toNat]) ∧
  (∀ (s : State) (k : Fin 2) (e : PeerHead) (q : BitVec 16) (i : Nat), s.powered = true → s.peerHears k e → (s.side
    k).resend.findIdx? (fun z => z.1 == q.toNat) = some i → (s.side k).waiting = [] → ∃ t, exec (.ack k e q) s =
    .next t ∧ t.side k = { s.side k with resend := (s.side k).resend.drop (i + 1) } ∧ t.peer.out = s.peer.out) ∧
  (∀ (s : State) (k : Fin 2) (e : PeerHead) (q : BitVec 16), s.powered = true → s.peerHears k e → (s.side
    k).resend.findIdx? (fun z => z.1 == q.toNat) = none → ∃ t, exec (.ack k e q) s = .next t ∧ t.peer = s.peer) ∧
  (∀ (s : State) (k : Fin 2) (e : PeerHead) (q : BitVec 16) (i : Nat), s.powered = true → s.peerHears k e → (s.side
    k).resend.findIdx? (fun z => z.1 == q.toNat) = some i → ∃ t, exec (.peerNak k e q) s = .next t ∧ t.side k =
    s.side k ∧ t.peer.out = s.peer.out ++ ((s.side k).resend.drop i).map (fun z => (k.val, some (z.1 % 2), some z.1, z.2)) ∧
    t.get (F.PEER_RESEND_naks k) = min (s.get (F.PEER_RESEND_naks k) + 1) 65535) ∧
  (∀ (s : State) (k : Fin 2) (e : PeerHead) (q : BitVec 16), s.powered = true → s.peerHears k e → (s.side
    k).waiting = [] → ∃ t, exec (.credit k e q) s = .next t ∧ t.side k =
    { s.side k with credit := (s.side k).credit + q.toNat } ∧ t.peer.out = s.peer.out) ∧
  (∀ (s : State) (k : Fin 2) (e : PeerHead) (q : BitVec 16) (m : PeerMsg), s.powered = true → s.peerHears k e →
    (s.side k).waiting = [m] → (s.side k).resend.length < resendDepth → q ≠ 0 → ∃ t, exec (.credit k e q) s =
    .next t ∧ t.peer.out = s.peer.out ++ [(k.val, some ((s.side k).txNext % 2), some (s.side k).txNext, m)] ∧ t.side k =
    { s.side k with credit := (s.side k).credit + q.toNat - 1, waiting := [], txNext := ((s.side k).txNext + 1) % 65536, resend := (s.side k).resend ++ [((s.side k).txNext, m)] })

/-- R344, R346, R350 to R353, R360, R361, R444 (Tables HOST-1, HOST-4). -/
def Obligations.HostPortsAndResults : Prop :=
  (∀ (s : State) (i : Port) (c : Fin 5), s.powered = true → s.hasPort i = true → ∃ t, exec (.portReset i c) s = .next t ∧ tget false
    t.host.ready i.val = false ∧ (∀ p, t.get (F.HOST_RES_CFG_enable i p) = 0) ∧ (∀ r, t.get (F.HOST_SQ_CFG_run i
    r) = 0) ∧ (∀ x ∈ t.host.slots, x.port ≠ i.val) ∧ (∀ b ∈ t.host.busy, b.port ≠ i.val) ∧ i.val ∉ t.boot.proven
    ∧ tget .none t.replies i.val = .none ∧ t.wrote Code.HOST_LINK_DOWN [i, c] ∧ (s.holdsSession i = true →
    t.zldState = zldIDLE ∧ t.zld.image = none) ∧ (∀ j : Port, j ≠ i → ∀ r, t.get (F.HOST_SQ_CFG_run j r) = s.get
    (F.HOST_SQ_CFG_run j r) ∧ tget false t.host.ready j.val = tget false s.host.ready j.val)) ∧
  (∀ (s : State) (i : Port) (v : BitVec 3) (w : BitVec 5), s.powered = true → s.hasPort i = true → ∃ t, exec
    (.linkUp i v w) s = .next t ∧ tget false t.host.ready i.val = true ∧ t.get (F.HOST_STATUS_speed i) = v.toNat
    ∧ t.get (F.HOST_STATUS_width i) = w.toNat ∧ (∀ j : Port, (t.get (F.HOST_STATUS_ports_up j)).testBit i.val =
    true) ∧ t.wrote Code.HOST_LINK_UP [i, v.toNat, w.toNat] ∧ (i.val, 0) ∈ t.msix) ∧
  (∀ (s : State) (i : Port) (c : Fin 5), s.powered = true → s.hasPort i = false → ∃ t, exec (.portReset i c) s = .next
    t ∧ t.host = s.host ∧ t.regs = s.regs ∧ t.recorder = s.recorder ∧ t.zld = s.zld) ∧
  (∀ (s : State) (i : Port) (v : BitVec 3) (w : BitVec 5), s.powered = true → s.hasPort i = false → ∃ t, exec
    (.linkUp i v w) s = .next t ∧ t.host = s.host) ∧
  (∀ (s : State) (i : Port) (r : BitVec 10), s.powered = true → tget false s.host.ready i.val = false → ∃ t, exec
    (.configRequest i r) s = .next t ∧ tget .none t.replies i.val = .retry) ∧
  (∀ (s : State) (i : Port), s.powered = true → tget false s.host.ready i.val = true → ∃ t, exec (.configRequest i
    0) s = .next t ∧ tget .none t.replies i.val = .data (BitVec.ofNat 32 (Config.vendorId.toNat + 65536 *
    s.deviceIdNo))) ∧
  (∀ (s : State) (i : Port), s.powered = true → tget false s.host.ready i.val = true → ∃ t, exec (.configRequest i
    2) s = .next t ∧ tget .none t.replies i.val = .data (BitVec.ofNat 32 (Config.stepping.toNat + 256 *
    0x120000))) ∧
  (∀ (s : State) (i : Port) (r : BitVec 10), s.powered = true → tget false s.host.ready i.val = true → ∃ t, exec
    (.configRequest i r) s = .next t ∧ ∃ v, tget .none t.replies i.val = .data v) ∧
  (∀ (s : State) (i : Port) (p : Part) (v : Word), s.powered = true → s.on (F.HOST_RES_CFG_enable i p) = false → 4
    ≤ fieldOf v 2 4 → fieldOf v 2 4 ≤ 12 → v.getLsbD 0 = true → ∃ t, exec (.hostResCfgWrite i p v) s = .next t ∧
    t.get (F.HOST_RES_CFG_enable i p) = 1 ∧ t.get (F.HOST_RES_CFG_mode i p) = fieldOf v 1 1 ∧ t.get
    (F.HOST_RES_CFG_size i p) = fieldOf v 2 4 ∧ t.get (F.HOST_RES_CFG_coalesce i p) = fieldOf v 8 8 ∧ t.get
    (F.HOST_RES_CFG_timer_us i p) = fieldOf v 16 16 ∧ t.get (F.HOST_RES_SEQ_next i p) = 0 ∧ t.get
    (F.HOST_RES_STATE_pending i p) = 0 ∧ ∀ x ∈ t.host.slots, ¬(x.port = i.val ∧ x.part = p.val)) ∧
  (∀ (s : State) (i : Port) (p : Part) (v : Word), s.powered = true → s.on (F.HOST_RES_CFG_enable i p) = false →
    fieldOf v 2 4 < 4 ∨ 12 < fieldOf v 2 4 → ∃ t, exec (.hostResCfgWrite i p v) s = .next t ∧ t.host = s.host ∧
    t.get (F.HOST_RES_CFG_enable i p) = 0 ∧ t.get (F.HOST_RES_CFG_size i p) = s.get (F.HOST_RES_CFG_size i p)) ∧
  (∀ (s : State) (i : Port) (p : Part) (v : Word), s.powered = true → s.on (F.HOST_RES_CFG_enable i p) = true →
    v.getLsbD 0 = false → ∃ t, exec (.hostResCfgWrite i p v) s = .next t ∧ t.get (F.HOST_RES_CFG_enable i p) = 0
    ∧ t.get (F.HOST_RES_CFG_size i p) = s.get (F.HOST_RES_CFG_size i p) ∧ ∀ x ∈ t.host.slots, ¬(x.port = i.val ∧
    x.part = p.val)) ∧
  (∀ (s : State) (i : Port) (p : Part) (v : Word), s.powered = true → s.on (F.HOST_RES_CFG_enable i p) = true →
    v.getLsbD 0 = true → ∃ t, exec (.hostResCfgWrite i p v) s = .next t ∧ t.host = s.host ∧ t.get
    (F.HOST_RES_CFG_size i p) = s.get (F.HOST_RES_CFG_size i p)) ∧
  (∀ (s : State) (i : Port) (p : Part) (k : BitVec 12), s.powered = true → s.slotIndexed i p k.toNat = none → ∃ t,
    exec (.resultStateRead i p k) s = .next t ∧ tget .none t.replies i.val = .data 0 ∧ t.host = s.host) ∧
  (∀ (s : State) (i : Port) (p : Part) (k : BitVec 12) (x : Slot), s.powered = true → s.slotIndexed i p k.toNat =
    some x → x.state = 1 → ∃ t, exec (.resultStateRead i p k) s = .next t ∧ tget .none t.replies i.val = .data
    (stateWord 0 1) ∧ t.host = s.host) ∧
  (∀ (s : State) (i : Port) (p : Part) (k : BitVec 12) (x : Slot), s.powered = true → s.host.slots = [x] →
    s.slotIndexed i p k.toNat = some x → x.state ≠ 1 → ∃ t, exec (.resultStateRead i p k) s = .next t ∧ tget
    .none t.replies i.val = .data (stateWord (min (x.reads + 1) 65535) 3) ∧ t.host.slots =
    [{ x with state := 3, reads := min (x.reads + 1) 65535 }]) ∧
  (∀ (s : State) (i : Port) (p : Part) (q : BitVec 32), s.powered = true → 2 ^ 31 ≤ (q.toNat + 2 ^ 32 - s.get
    (F.HOST_RES_SEQ_next i p)) % 2 ^ 32 → (∃ x ∈ s.host.slots, x.port = i.val ∧ x.part = p.val ∧ x.push = false
    ∧ 2 ≤ x.state ∧ (q.toNat + 2 ^ 32 - x.seq) % 2 ^ 32 < s.ringSize i p) → ∃ t, exec (.hostResAck i p q) s =
    .next t ∧ t.get (F.HOST_RES_STATE_ack_reason i p) = 0 ∧ ∀ x, x ∈ t.host.slots ↔ x ∈ s.host.slots ∧ ¬(x.port
    = i.val ∧ x.part = p.val ∧ x.push = false ∧ 2 ≤ x.state ∧ (q.toNat + 2 ^ 32 - x.seq) % 2 ^ 32 < s.ringSize i
    p)) ∧
  (∀ (s : State) (i : Port) (p : Part) (q : BitVec 32), s.powered = true → (q.toNat + 2 ^ 32 - s.get
    (F.HOST_RES_SEQ_next i p)) % 2 ^ 32 < 2 ^ 31 → ∃ t, exec (.hostResAck i p q) s = .next t ∧ t.get
    (F.HOST_RES_STATE_ack_reason i p) = 1 ∧ t.host.slots = s.host.slots ∧ t.wrote Code.HOST_ACK_REFUSED [i, p,
    q.toNat, 1]) ∧
  (∀ (s : State) (i : Port) (p : Part) (q : BitVec 32), s.powered = true → 2 ^ 31 ≤ (q.toNat + 2 ^ 32 - s.get
    (F.HOST_RES_SEQ_next i p)) % 2 ^ 32 → (∀ x ∈ s.host.slots, ¬(x.port = i.val ∧ x.part = p.val ∧ x.push =
    false ∧ 2 ≤ x.state ∧ (q.toNat + 2 ^ 32 - x.seq) % 2 ^ 32 < s.ringSize i p)) → ∃ t, exec (.hostResAck i p q)
    s = .next t ∧ t.get (F.HOST_RES_STATE_ack_reason i p) = 2 ∧ t.host.slots = s.host.slots ∧ t.wrote
    Code.HOST_ACK_REFUSED [i, p, q.toNat, 2]) ∧
  (∀ (s : State) (i : Port) (p : Part) (q : BitVec 32), s.powered = true → q.toNat = tget 0 s.host.pushTop (ppKey i
    p) ∨ 2 ^ 31 ≤ (q.toNat + 2 ^ 32 - tget 0 s.host.pushTop (ppKey i p)) % 2 ^ 32 → ∃ t, exec (.hostPushHead i p
    q) s = .next t ∧ t.get (F.HOST_PUSH_HEAD_seq i p) = q.toNat ∧ t.get (F.HOST_RES_STATE_push_stopped i p) =
    s.get (F.HOST_RES_STATE_push_stopped i p)) ∧
  (∀ (s : State) (i : Port) (p : Part) (q : BitVec 32), s.powered = true → q.toNat ≠ tget 0 s.host.pushTop (ppKey i
    p) → (q.toNat + 2 ^ 32 - tget 0 s.host.pushTop (ppKey i p)) % 2 ^ 32 < 2 ^ 31 → ∃ t, exec (.hostPushHead i p
    q) s = .next t ∧ t.get (F.HOST_PUSH_HEAD_seq i p) = s.get (F.HOST_PUSH_HEAD_seq i p) ∧ t.get
    (F.HOST_RES_STATE_push_stopped i p) = 1) ∧
  (∀ (s : State) (i : Port) (p : Part), s.powered = true → tget false s.host.ready i.val = true → tget 0
    s.host.waiting (ppKey i p) ≠ 0 → ∃ t, exec (.coalesceTimer i p) s = .next t ∧ tget 0 t.host.waiting (ppKey i
    p) = 0 ∧ t.msix = s.msix ++ [(i.val, 16 + p.val)]) ∧
  (∀ (s : State) (i : Port) (p : Part), s.powered = true → tget 0 s.host.waiting (ppKey i p) = 0 → ∃ t, exec
    (.coalesceTimer i p) s = .next t ∧ t.host = s.host ∧ t.msix = s.msix)

/-- R354 to R356, R360, Tables HOST-8, HOST-9. -/
def Obligations.HostSubmissions : Prop :=
  (∀ (s : State) (i : Port) (r : Fin 4) (d : List Byte), s.powered = true → s.sqReady i r sqCOPYIN d → s.boundPage
    (s.ringPart i r) (sqBusy i r d).offset (sqBusy i r d).length = none → ∃ t, exec (.copyIn i r d) s = .next t
    ∧ s.headMoved t i r ∧ t.host.busy = s.host.busy ++ [sqBusy i r d] ∧ t.mem = s.mem) ∧
  (∀ (s : State) (i : Port) (r : Fin 4) (d : List Byte) (g : Nat), s.powered = true → s.sqReady i r sqCOPYIN d →
    s.boundPage (s.ringPart i r) (sqBusy i r d).offset (sqBusy i r d).length = some g → ∃ t, exec (.copyIn i r
    d) s = .next t ∧ s.headMoved t i r ∧ t.host.busy = s.host.busy ∧ t.mem = s.mem ∧ t.host.writes =
    s.host.writes ++ [s.cqEntry i r (recField d 4 4) (Code.HOST_PAGE_BOUND) (sqCOPYIN) (0)] ∧ t.wrote
    Code.HOST_PAGE_BOUND [i, s.ringPart i r, g]) ∧
  (∀ (s : State) (i : Port) (r : Fin 4) (d : List Byte), s.powered = true → s.sqReady i r sqCOPYOUT d → ∃ t, exec
    (.copyOut i r d) s = .next t ∧ s.headMoved t i r ∧ t.mem = s.mem ∧ t.host.writes = s.host.writes ++
    [{ port := i, addr := recField d 8 8, bytes := s.bytes (s.partAddr (s.ringPart i r) (64 * recField d 16 8)) (recField d 24 4) },
    s.cqEntry i r (recField d 4 4) (0) (sqCOPYOUT) (0)]) ∧
  (∀ (s : State) (i : Port) (r : Fin 4) (d : List Byte) (b : Job) (g : TemplateCfg) (n : Nat), s.powered = true →
    s.sqReady i r sqRELEASE d → n = s.route.buildFor + 1 → s.job? (recField d 2 1) = some b → s.jobTemplate b =
    some g → b.part = s.ringPart i r → g.cadence = 1 → s.jobActive n (recField d 2 1) b = true → ∃ t, exec
    (.release i r d) s = .next t ∧ s.headMoved t i r ∧ (∃ x, t.route.iters = s.route.iters ++ [x] ∧ x.part =
    s.ringPart i r ∧ x.job = recField d 2 1 ∧ x.num = b.next ∧ x.tags = []) ∧ t.host.writes = s.host.writes ++
    [s.cqEntry i r (recField d 4 4) (0) (sqRELEASE) (n % 2 ^ 32)]) ∧
  (∀ (s : State) (i : Port) (r : Fin 4) (d : List Byte), s.powered = true → s.sqReady i r sqRELEASE d → s.job?
    (recField d 2 1) = none → ∃ t, exec (.release i r d) s = .next t ∧ s.headMoved t i r ∧ t.route = s.route ∧
    t.get (F.HOST_SQ_STATE_error i r) = Code.HOST_BAD_DESCRIPTOR ∧ t.host.writes = s.host.writes ++ [s.cqEntry i
    r (recField d 4 4) (Code.HOST_BAD_DESCRIPTOR) (sqRELEASE) (0)]) ∧
  (∀ (s : State) (i : Port) (r : Fin 4) (d : List Byte), s.powered = true → s.sqReady i r sqBIND d → ∃ t, exec
    (.bindWeights i r d) s = .next t ∧ s.headMoved t i r ∧ t.host.busy = s.host.busy ++ [sqBusy i r d] ∧
    t.host.bindings = s.host.bindings) ∧
  (∀ (s : State) (i : Port) (r : Fin 4) (d : List Byte), s.powered = true → s.sqReady i r sqFENCE d → ∃ t, exec
    (.fence i r d) s = .next t ∧ s.headMoved t i r ∧ t.host.writes = s.host.writes ++ [s.cqEntry i r (recField d
    4 4) (0) (sqFENCE) (0)] ∧ t.mem = s.mem) ∧
  (∀ (s : State) (i : Port) (r : Fin 4) (d : List Byte) (a : Nat), s.powered = true → s.ringNext i r = true →
    recField d 0 1 = sqCOPYIN ∨ recField d 0 1 = 0 ∨ 5 < recField d 0 1 → badField (s.reach (s.ringPart i r)) d = some a → ∃ t, exec (.copyIn i r d) s = .next t ∧ s.headMoved t i r ∧ t.get
    (F.HOST_SQ_STATE_error i r) = Code.HOST_BAD_DESCRIPTOR ∧ t.wrote Code.HOST_BAD_DESCRIPTOR [i, r, a] ∧
    t.host.writes = s.host.writes ++ [s.cqEntry i r (recField d 4 4) (Code.HOST_BAD_DESCRIPTOR) (recField d 0 1)
    (0)] ∧ t.host.busy = s.host.busy ∧ t.mem = s.mem ∧ t.route = s.route) ∧
  (∀ (s : State) (i : Port) (r : Fin 4) (d : List Byte), s.powered = true → s.ringNext i r = false → ∃ t, exec
    (.copyIn i r d) s = .next t ∧ t.host = s.host ∧ t.mem = s.mem ∧ t.route = s.route ∧ t.get
    (F.HOST_SQ_HEAD_pos i r) = s.get (F.HOST_SQ_HEAD_pos i r)) ∧
  (∀ (s : State) (i : Port) (r : Fin 4) (d : List Byte) (a : Nat), s.powered = true → s.ringNext i r = true →
    recField d 0 1 = sqCOPYOUT ∨ recField d 0 1 = 0 ∨ 5 < recField d 0 1 → badField (s.reach (s.ringPart i r)) d = some a → ∃ t, exec (.copyOut i r d) s = .next t ∧ s.headMoved t i r ∧ t.get
    (F.HOST_SQ_STATE_error i r) = Code.HOST_BAD_DESCRIPTOR ∧ t.wrote Code.HOST_BAD_DESCRIPTOR [i, r, a] ∧
    t.host.writes = s.host.writes ++ [s.cqEntry i r (recField d 4 4) (Code.HOST_BAD_DESCRIPTOR) (recField d 0 1)
    (0)] ∧ t.host.busy = s.host.busy ∧ t.mem = s.mem ∧ t.route = s.route) ∧
  (∀ (s : State) (i : Port) (r : Fin 4) (d : List Byte), s.powered = true → s.ringNext i r = false → ∃ t, exec
    (.copyOut i r d) s = .next t ∧ t.host = s.host ∧ t.mem = s.mem ∧ t.route = s.route ∧ t.get
    (F.HOST_SQ_HEAD_pos i r) = s.get (F.HOST_SQ_HEAD_pos i r)) ∧
  (∀ (s : State) (i : Port) (r : Fin 4) (d : List Byte) (a : Nat), s.powered = true → s.ringNext i r = true →
    recField d 0 1 = sqRELEASE ∨ recField d 0 1 = 0 ∨ 5 < recField d 0 1 → badField (s.reach (s.ringPart i r)) d = some a → ∃ t, exec (.release i r d) s = .next t ∧ s.headMoved t i r ∧ t.get
    (F.HOST_SQ_STATE_error i r) = Code.HOST_BAD_DESCRIPTOR ∧ t.wrote Code.HOST_BAD_DESCRIPTOR [i, r, a] ∧
    t.host.writes = s.host.writes ++ [s.cqEntry i r (recField d 4 4) (Code.HOST_BAD_DESCRIPTOR) (recField d 0 1)
    (0)] ∧ t.host.busy = s.host.busy ∧ t.mem = s.mem ∧ t.route = s.route) ∧
  (∀ (s : State) (i : Port) (r : Fin 4) (d : List Byte), s.powered = true → s.ringNext i r = false → ∃ t, exec
    (.release i r d) s = .next t ∧ t.host = s.host ∧ t.mem = s.mem ∧ t.route = s.route ∧ t.get
    (F.HOST_SQ_HEAD_pos i r) = s.get (F.HOST_SQ_HEAD_pos i r)) ∧
  (∀ (s : State) (i : Port) (r : Fin 4) (d : List Byte) (a : Nat), s.powered = true → s.ringNext i r = true →
    recField d 0 1 = sqBIND ∨ recField d 0 1 = 0 ∨ 5 < recField d 0 1 → badField (s.reach (s.ringPart i r)) d = some a → ∃ t, exec (.bindWeights i r d) s = .next t ∧ s.headMoved t i r ∧ t.get (F.HOST_SQ_STATE_error i
    r) = Code.HOST_BAD_DESCRIPTOR ∧ t.wrote Code.HOST_BAD_DESCRIPTOR [i, r, a] ∧ t.host.writes = s.host.writes
    ++ [s.cqEntry i r (recField d 4 4) (Code.HOST_BAD_DESCRIPTOR) (recField d 0 1) (0)] ∧ t.host.busy =
    s.host.busy ∧ t.mem = s.mem ∧ t.route = s.route) ∧
  (∀ (s : State) (i : Port) (r : Fin 4) (d : List Byte), s.powered = true → s.ringNext i r = false → ∃ t, exec
    (.bindWeights i r d) s = .next t ∧ t.host = s.host ∧ t.mem = s.mem ∧ t.route = s.route ∧ t.get
    (F.HOST_SQ_HEAD_pos i r) = s.get (F.HOST_SQ_HEAD_pos i r)) ∧
  (∀ (s : State) (i : Port) (r : Fin 4) (d : List Byte) (a : Nat), s.powered = true → s.ringNext i r = true →
    recField d 0 1 = sqFENCE ∨ recField d 0 1 = 0 ∨ 5 < recField d 0 1 → badField (s.reach (s.ringPart i r)) d = some a → ∃ t, exec (.fence i r d) s = .next t ∧ s.headMoved t i r ∧ t.get
    (F.HOST_SQ_STATE_error i r) = Code.HOST_BAD_DESCRIPTOR ∧ t.wrote Code.HOST_BAD_DESCRIPTOR [i, r, a] ∧
    t.host.writes = s.host.writes ++ [s.cqEntry i r (recField d 4 4) (Code.HOST_BAD_DESCRIPTOR) (recField d 0 1)
    (0)] ∧ t.host.busy = s.host.busy ∧ t.mem = s.mem ∧ t.route = s.route) ∧
  (∀ (s : State) (i : Port) (r : Fin 4) (d : List Byte), s.powered = true → s.ringNext i r = false → ∃ t, exec
    (.fence i r d) s = .next t ∧ t.host = s.host ∧ t.mem = s.mem ∧ t.route = s.route ∧ t.get (F.HOST_SQ_HEAD_pos
    i r) = s.get (F.HOST_SQ_HEAD_pos i r))

/-- R354 to R356, R360, R444, Table HOST-10. -/
def Obligations.HostRingsAndDma : Prop :=
  (∀ (s : State) (i : Port) (r : Fin 4) (b : SqBusy), s.powered = true → s.host.busy.find? (fun b => b.port ==
    i.val && b.ring == r.val && b.op == sqBIND) = some b → (s.program (s.ringPart i r)).bind (fun g =>
    g.weights.find? (fun w => w.set == b.set)) = none → ∃ t, exec (.weightsDigestDone i r) s = .next t ∧
    t.host.bindings = s.host.bindings ++
    [{ part := s.ringPart i r, set := b.set, offset := b.offset, length := b.length, digest := digestOf (sha3_256 (s.bytes (s.partAddr (s.ringPart i r) b.offset) b.length)), landing := s.route.buildFor + 1 }]
    ∧ (∀ x ∈ t.host.busy, ¬(x.port = i.val ∧ x.ring = r.val)) ∧ t.host.writes = s.host.writes ++ [s.cqEntry i r
    (b.tag) (0) (b.op) ((s.route.buildFor + 1) % 2 ^ 32)] ∧ t.wrote Code.HOST_WEIGHTS_BOUND [s.ringPart i r,
    b.set, s.route.buildFor + 1]) ∧
  (∀ (s : State) (i : Port) (r : Fin 4) (b : SqBusy) (w : WeightSetCfg), s.powered = true → s.host.busy.find? (fun
    b => b.port == i.val && b.ring == r.val && b.op == sqBIND) = some b → (s.program (s.ringPart i r)).bind (fun
    g => g.weights.find? (fun w => w.set == b.set)) = some w → w.adaptable = true → s.role i = roleOWNER → ∃ t,
    exec (.weightsDigestDone i r) s = .next t ∧ t.host.bindings = s.host.bindings ++
    [{ part := s.ringPart i r, set := b.set, offset := b.offset, length := b.length, digest := digestOf (sha3_256 (s.bytes (s.partAddr (s.ringPart i r) b.offset) b.length)), landing := s.route.buildFor + 1 }]
    ∧ (∀ x ∈ t.host.busy, ¬(x.port = i.val ∧ x.ring = r.val)) ∧ t.host.writes = s.host.writes ++ [s.cqEntry i r
    (b.tag) (0) (b.op) ((s.route.buildFor + 1) % 2 ^ 32)] ∧ t.wrote Code.HOST_WEIGHTS_BOUND [s.ringPart i r,
    b.set, s.route.buildFor + 1]) ∧
  (∀ (s : State) (i : Port) (r : Fin 4) (b : SqBusy) (w : WeightSetCfg), s.powered = true → s.host.busy.find? (fun
    b => b.port == i.val && b.ring == r.val && b.op == sqBIND) = some b → (s.program (s.ringPart i r)).bind (fun
    g => g.weights.find? (fun w => w.set == b.set)) = some w → w.adaptable = false → w.expected = [] ∨ digestOf
    (sha3_256 (s.bytes (s.partAddr (s.ringPart i r) b.offset) b.length)) ∈ w.expected → ∃ t, exec
    (.weightsDigestDone i r) s = .next t ∧ t.host.bindings = s.host.bindings ++
    [{ part := s.ringPart i r, set := b.set, offset := b.offset, length := b.length, digest := digestOf (sha3_256 (s.bytes (s.partAddr (s.ringPart i r) b.offset) b.length)), landing := s.route.buildFor + 1 }]
    ∧ (∀ x ∈ t.host.busy, ¬(x.port = i.val ∧ x.ring = r.val)) ∧ t.host.writes = s.host.writes ++ [s.cqEntry i r
    (b.tag) (0) (b.op) ((s.route.buildFor + 1) % 2 ^ 32)] ∧ t.wrote Code.HOST_WEIGHTS_BOUND [s.ringPart i r,
    b.set, s.route.buildFor + 1]) ∧
  (∀ (s : State) (i : Port) (r : Fin 4) (b : SqBusy) (w : WeightSetCfg), s.powered = true → s.host.busy.find? (fun
    b => b.port == i.val && b.ring == r.val && b.op == sqBIND) = some b → (s.program (s.ringPart i r)).bind (fun
    g => g.weights.find? (fun w => w.set == b.set)) = some w → w.adaptable = true ∧ s.role i ≠ roleOWNER ∨
    w.adaptable = false ∧ w.expected ≠ [] ∧ digestOf (sha3_256 (s.bytes (s.partAddr (s.ringPart i r) b.offset)
    b.length)) ∉ w.expected → ∃ t, exec (.weightsDigestDone i r) s = .next t ∧ t.host.bindings = s.host.bindings
    ∧ (∀ x ∈ t.host.busy, ¬(x.port = i.val ∧ x.ring = r.val)) ∧ t.host.writes = s.host.writes ++ [s.cqEntry i r
    (b.tag) (Code.HOST_WEIGHTS_REFUSED) (b.op) (0)] ∧ t.wrote Code.HOST_WEIGHTS_REFUSED [i, s.ringPart i r,
    b.set]) ∧
  (∀ (s : State) (i : Port) (r : Fin 4), s.powered = true → s.host.busy.find? (fun b => b.port == i.val && b.ring
    == r.val && b.op == sqBIND) = none → ∃ t, exec (.weightsDigestDone i r) s = .next t ∧ t.host = s.host ∧
    t.mem = s.mem) ∧
  (∀ (s : State) (i : Port) (r : Fin 4), s.powered = true → s.host.busy.find? (fun b => b.port == i.val && b.ring
    == r.val && b.op == sqCOPYIN) = none → ∃ t, exec (.dmaTimeout i r) s = .next t ∧ t.host = s.host ∧ t.mem =
    s.mem) ∧
  (∀ (s : State) (i : Port) (r : Fin 4) (e : DmaEnd), s.powered = true → s.host.busy.find? (fun b => b.port ==
    i.val && b.ring == r.val && b.op == sqCOPYIN) = none → ∃ t, exec (.dmaReadCompletion i r e) s = .next t ∧
    t.host = s.host ∧ t.mem = s.mem) ∧
  (∀ (s : State) (i : Port) (r : Fin 4) (b : SqBusy) (bs : List Byte), s.powered = true → s.host.busy.find? (fun b
    => b.port == i.val && b.ring == r.val && b.op == sqCOPYIN) = some b → ∃ t, exec (.dmaReadCompletion i r
    (.data bs)) s = .next t ∧ t.bytes (s.partAddr (s.ringPart i r) b.offset) b.length = copyData bs b.length ∧
    (∀ a, a < s.partAddr (s.ringPart i r) b.offset ∨ s.partAddr (s.ringPart i r) b.offset + b.length ≤ a →
    t.byte a = s.byte a) ∧ (∀ x ∈ t.host.busy, ¬(x.port = i.val ∧ x.ring = r.val)) ∧ t.host.writes =
    s.host.writes ++ [s.cqEntry i r (b.tag) (0) (b.op) (0)]) ∧
  (∀ (s : State) (i : Port) (r : Fin 4) (b : SqBusy), s.powered = true → s.host.busy.find? (fun b => b.port ==
    i.val && b.ring == r.val && b.op == sqCOPYIN) = some b → ∃ t, exec (.dmaReadCompletion i r .unsupported) s =
    .next t ∧ t.mem = s.mem ∧ (∀ x ∈ t.host.busy, ¬(x.port = i.val ∧ x.ring = r.val)) ∧ t.get
    (F.HOST_SQ_STATE_error i r) = Code.HOST_DMA_ERROR ∧ t.wrote Code.HOST_DMA_ERROR [i, r, 1] ∧ t.host.writes =
    s.host.writes ++ [s.cqEntry i r (b.tag) (Code.HOST_DMA_ERROR) (b.op) (0)]) ∧
  (∀ (s : State) (i : Port) (r : Fin 4) (b : SqBusy), s.powered = true → s.host.busy.find? (fun b => b.port ==
    i.val && b.ring == r.val && b.op == sqCOPYIN) = some b → ∃ t, exec (.dmaReadCompletion i r .abort) s = .next
    t ∧ t.mem = s.mem ∧ (∀ x ∈ t.host.busy, ¬(x.port = i.val ∧ x.ring = r.val)) ∧ t.get (F.HOST_SQ_STATE_error i
    r) = Code.HOST_DMA_ERROR ∧ t.wrote Code.HOST_DMA_ERROR [i, r, 2] ∧ t.host.writes = s.host.writes ++
    [s.cqEntry i r (b.tag) (Code.HOST_DMA_ERROR) (b.op) (0)]) ∧
  (∀ (s : State) (i : Port) (r : Fin 4) (b : SqBusy), s.powered = true → s.host.busy.find? (fun b => b.port ==
    i.val && b.ring == r.val && b.op == sqCOPYIN) = some b → ∃ t, exec (.dmaReadCompletion i r .poison) s =
    .next t ∧ t.mem = s.mem ∧ (∀ x ∈ t.host.busy, ¬(x.port = i.val ∧ x.ring = r.val)) ∧ t.get
    (F.HOST_SQ_STATE_error i r) = Code.HOST_DMA_ERROR ∧ t.wrote Code.HOST_DMA_ERROR [i, r, 3] ∧ t.host.writes =
    s.host.writes ++ [s.cqEntry i r (b.tag) (Code.HOST_DMA_ERROR) (b.op) (0)]) ∧
  (∀ (s : State) (i : Port) (r : Fin 4) (b : SqBusy), s.powered = true → s.host.busy.find? (fun b => b.port ==
    i.val && b.ring == r.val && b.op == sqCOPYIN) = some b → ∃ t, exec (.dmaTimeout i r) s = .next t ∧ t.mem =
    s.mem ∧ (∀ x ∈ t.host.busy, ¬(x.port = i.val ∧ x.ring = r.val)) ∧ t.get (F.HOST_SQ_STATE_error i r) =
    Code.HOST_DMA_ERROR ∧ t.wrote Code.HOST_DMA_ERROR [i, r, 4] ∧ t.host.writes = s.host.writes ++ [s.cqEntry i
    r (b.tag) (Code.HOST_DMA_ERROR) (b.op) (0)]) ∧
  (∀ (s : State) (i : Port) (r : Fin 4) (q : BitVec 32), s.powered = true → s.mayBind i (s.ringPart i r) = true →
    (q.toNat + 2 ^ 32 - s.get (F.HOST_SQ_HEAD_pos i r)) % 2 ^ 32 ≤ 2 ^ s.get (F.HOST_SQ_CFG_size i r) → ∃ t,
    exec (.hostSqTail i r q) s = .next t ∧ t.get (F.HOST_SQ_TAIL_pos i r) = q.toNat ∧ t.host = s.host) ∧
  (∀ (s : State) (i : Port) (r : Fin 4) (q : BitVec 32), s.powered = true → s.mayBind i (s.ringPart i r) = true → 2
    ^ s.get (F.HOST_SQ_CFG_size i r) < (q.toNat + 2 ^ 32 - s.get (F.HOST_SQ_HEAD_pos i r)) % 2 ^ 32 → ∃ t, exec
    (.hostSqTail i r q) s = .next t ∧ t.get (F.HOST_SQ_STATE_stopped i r) = 1 ∧ t.get (F.HOST_SQ_STATE_error i
    r) = Code.HOST_RING_STOPPED ∧ t.get (F.HOST_SQ_TAIL_pos i r) = s.get (F.HOST_SQ_TAIL_pos i r) ∧ t.wrote
    Code.HOST_RING_STOPPED [i, r, 0]) ∧
  (∀ (s : State) (i : Port) (r : Fin 4) (q : BitVec 32), s.powered = true → s.mayBind i (s.ringPart i r) = false →
    ∃ t, exec (.hostSqTail i r q) s = .next t ∧ t.get (F.HOST_SQ_TAIL_pos i r) = s.get (F.HOST_SQ_TAIL_pos i r)
    ∧ t.wrote Code.HOST_ROLE [i, 0x414 + 0x20 * r.val]) ∧
  (∀ (s : State) (i : Port) (r : Fin 4) (v : Word), s.powered = true → s.on (F.HOST_SQ_CFG_run i r) = false →
    s.mayBind i (fieldOf v 4 3) = true → 4 ≤ fieldOf v 0 4 → fieldOf v 0 4 ≤ 12 → v.getLsbD 8 = true → ∃ t, exec
    (.hostSqCfgWrite i r v) s = .next t ∧ t.get (F.HOST_SQ_CFG_run i r) = 1 ∧ t.get (F.HOST_SQ_CFG_size i r) =
    fieldOf v 0 4 ∧ t.ringPart i r = fieldOf v 4 3 ∧ t.get (F.HOST_SQ_STATE_error i r) = 0 ∧ t.get
    (F.HOST_SQ_STATE_stopped i r) = 0) ∧
  (∀ (s : State) (i : Port) (r : Fin 4) (v : Word), s.powered = true → s.on (F.HOST_SQ_CFG_run i r) = false →
    s.mayBind i (fieldOf v 4 3) = true → fieldOf v 0 4 < 4 ∨ 12 < fieldOf v 0 4 → ∃ t, exec (.hostSqCfgWrite i r
    v) s = .next t ∧ t.get (F.HOST_SQ_CFG_run i r) = 0 ∧ t.get (F.HOST_SQ_CFG_size i r) = s.get
    (F.HOST_SQ_CFG_size i r)) ∧
  (∀ (s : State) (i : Port) (r : Fin 4) (v : Word), s.powered = true → s.on (F.HOST_SQ_CFG_run i r) = true →
    s.mayBind i (s.ringPart i r) = true → ∃ t, exec (.hostSqCfgWrite i r v) s = .next t ∧ t.get
    (F.HOST_SQ_CFG_run i r) = bit (v.getLsbD 8) ∧ t.get (F.HOST_SQ_CFG_size i r) = s.get (F.HOST_SQ_CFG_size i
    r) ∧ t.ringPart i r = s.ringPart i r ∧ (fieldOf v 0 4 ≠ s.get (F.HOST_SQ_CFG_size i r) ∨ fieldOf v 4 3 ≠
    s.ringPart i r → t.wrote Code.RWL_LOCKED [i, 0x410 + 0x20 * r.val])) ∧
  (∀ (s : State) (i : Port) (r : Fin 4) (v : Word), s.powered = true → s.on (F.HOST_SQ_CFG_run i r) = false →
    s.mayBind i (fieldOf v 4 3) = false → ∃ t, exec (.hostSqCfgWrite i r v) s = .next t ∧ t.get
    (F.HOST_SQ_CFG_run i r) = 0 ∧ t.wrote Code.HOST_ROLE [i, 0x410 + 0x20 * r.val])

/-- R356 to R358, R360, Table HOST-3. -/
def Obligations.HostWindows : Prop :=
  (∀ (s : State) (i : Port) (p : Part) (n : Word), s.powered = true → s.mayWritePart i p = true → ∃ t, exec
    (.hostMboxPost i p n) s = .next t ∧ t.bytes (mailStaging p) 4096 = s.bytes (inMailbox p) 4096 ∧ (p.val,
    n.toNat, s.route.buildFor + 1) ∈ t.host.posted ∧ (∀ e ∈ t.host.posted, e.1 = p.val → e = (p.val, n.toNat,
    s.route.buildFor + 1)) ∧ ∀ a, a < mailStaging p ∨ mailStaging p + 4096 ≤ a → t.byte a = s.byte a) ∧
  (∀ (s : State) (i : Port) (p : Part) (n : Word), s.powered = true → s.mayWritePart i p = false → ∃ t, exec
    (.hostMboxPost i p n) s = .next t ∧ t.host = s.host ∧ t.mem = s.mem ∧ t.wrote Code.HOST_ROLE [i, 0x600 + 4 *
    p.val]) ∧
  (∀ (s : State) (i : Port) (o : BitVec 32) (p a : Nat), s.powered = true → p = s.get (F.HOST_BAR4_WIN_partition i)
    → a = 65536 * s.get (F.HOST_BAR4_WIN_page i) + o.toNat → s.on (F.HOST_BAR4_WIN_enable i) = true → a + 4 ≤
    65536 * s.reach p → s.mayReadPart i p = true → ∃ t, exec (.bar4Access i o none) s = .next t ∧ tget
    .none t.replies i.val = .data (BitVec.ofNat 32 (s.rd (s.partAddr p a) 4)) ∧ t.mem = s.mem) ∧
  (∀ (s : State) (i : Port) (o : BitVec 32) (p a : Nat), s.powered = true → p = s.get (F.HOST_BAR4_WIN_partition i)
    → a = 65536 * s.get (F.HOST_BAR4_WIN_page i) + o.toNat → s.on (F.HOST_BAR4_WIN_enable i) = false ∨ 65536 * s.reach p < a + 4 ∨ s.mayReadPart i p = false → ∃ t, exec (.bar4Access i o none) s = .next t ∧ tget
    .none t.replies i.val = .unsupported ∧ t.wrote Code.HOST_UR [i, 4, o.toNat] ∧ t.mem = s.mem) ∧
  (∀ (s : State) (i : Port) (o : BitVec 32) (p a : Nat) (v : Word), s.powered = true → p = s.get
    (F.HOST_BAR4_WIN_partition i) → a = 65536 * s.get (F.HOST_BAR4_WIN_page i) + o.toNat → s.on
    (F.HOST_BAR4_WIN_enable i) = true → a + 4 ≤ 65536 * s.reach p → s.mayWritePart i p = true →
    s.boundPage p a 4 = none → ∃ t, exec (.bar4Access i o (some v)) s = .next t ∧ t.rd (s.partAddr p a) 4 =
    v.toNat ∧ ∀ b, b < s.partAddr p a ∨ s.partAddr p a + 4 ≤ b → t.byte b = s.byte b) ∧
  (∀ (s : State) (i : Port) (o : BitVec 32) (p a : Nat) (v : Word) (g : Nat), s.powered = true → p = s.get
    (F.HOST_BAR4_WIN_partition i) → a = 65536 * s.get (F.HOST_BAR4_WIN_page i) + o.toNat → s.on
    (F.HOST_BAR4_WIN_enable i) = true → a + 4 ≤ 65536 * s.reach p → s.mayWritePart i p = true →
    s.boundPage p a 4 = some g → ∃ t, exec (.bar4Access i o (some v)) s = .next t ∧ tget .none t.replies i.val =
    .dropped ∧ t.mem = s.mem ∧ t.wrote Code.HOST_PAGE_BOUND [i, p, g]) ∧
  (∀ (s : State) (i : Port) (o : BitVec 32) (p a : Nat) (v : Word), s.powered = true → p = s.get
    (F.HOST_BAR4_WIN_partition i) → a = 65536 * s.get (F.HOST_BAR4_WIN_page i) + o.toNat → s.on
    (F.HOST_BAR4_WIN_enable i) = false ∨ 65536 * s.reach p < a + 4 ∨ s.mayWritePart i p = false → ∃ t,
    exec (.bar4Access i o (some v)) s = .next t ∧ tget .none t.replies i.val = .dropped ∧ t.wrote Code.HOST_UR
    [i, 4, o.toNat] ∧ t.mem = s.mem)

/-- R368, R370, R381, R315, R17, R20, R22 (Tables SAFE-3, SAFE-7).  The order of failed checks, watchdog, golden frame and road is the model's reading (see log entry 86). -/
def Obligations.Judgements : Prop :=
  (∀ (s : State) (p : Part) (v : VerdictIn), s.powered = true → ∃ t, exec (.verdictRecord p v) s = .next t ∧
    t.sawRecord p v.record ∧ (s.passes p v → t.get (F.SAFE_JUDGE_PASS_count p) = min (s.get (F.SAFE_JUDGE_PASS_count
    p) + 1) (2 ^ 32 - 1) ∧ t.get (F.SAFE_JUDGE_FAIL_count p) = s.get (F.SAFE_JUDGE_FAIL_count p)) ∧ (∀ n,
    s.failsAt p v n → t.get (F.SAFE_JUDGE_FAIL_count p) = min (s.get (F.SAFE_JUDGE_FAIL_count p) + 1) 65535 ∧
    t.get (F.SAFE_JUDGE_FAIL_check p) = n ∧ t.get (F.SAFE_JUDGE_PASS_count p) = s.get (F.SAFE_JUDGE_PASS_count p)) ∧
    (¬ s.passes p v → (∀ n, ¬ s.failsAt p v n) → t.get (F.SAFE_JUDGE_PASS_count p) = s.get (F.SAFE_JUDGE_PASS_count
    p) ∧ t.get (F.SAFE_JUDGE_FAIL_count p) = s.get (F.SAFE_JUDGE_FAIL_count p))) ∧
  (∀ (s : State) (p : Part) (v : VerdictIn) (k : Nat) (u : Subject) (e : Milepost), s.powered = true → s.isSafe =
    true → v.seam = none → s.armedOnce p (recField v.record 4 4) k u e → ∃ t, exec (.verdictRecord p v) s =
    .next t ∧ tfind t.motion.entries k = some { e with state := 2 } ∧ t.sawRecord p v.record ∧ t.get
    (F.SAFE_JUDGE_PASS_count p) = s.get (F.SAFE_JUDGE_PASS_count p) ∧ t.get (F.SAFE_JUDGE_FAIL_count p) = s.get
    (F.SAFE_JUDGE_FAIL_count p) ∧ t.get F.SAFE_STATUS_state = safeSAFE) ∧
  (∀ (s : State) (p : Part) (v : VerdictIn) (k : Nat) (u : Subject) (e : Milepost) (x : Nat), s.powered = true →
    s.isSafe = false → v.seam = none → s.armedOnce p (recField v.record 4 4) k u e → checkRecord p v.record =
    some x → ∃ t, exec (.verdictRecord p v) s = .next t ∧ tfind t.motion.entries k = some { e with state := 2 }
    ∧ t.sawRecord p v.record ∧ t.get (F.SAFE_JUDGE_FAIL_count p) = min (s.get (F.SAFE_JUDGE_FAIL_count p) + 1)
    (65535) ∧ t.get (F.SAFE_JUDGE_FAIL_check p) = 1 ∧ t.get (F.SAFE_JUDGE_PASS_count p) = s.get
    (F.SAFE_JUDGE_PASS_count p)) ∧
  (∀ (s : State) (p : Part) (v : VerdictIn) (k : Nat) (u : Subject) (e : Milepost) (c : Nat), s.powered = true →
    s.isSafe = false → v.seam = none → s.armedOnce p (recField v.record 4 4) k u e → checkRecord p v.record =
    none → s.lostIn v.record = some c → ∃ t, exec (.verdictRecord p v) s = .next t ∧ tfind t.motion.entries k =
    some { e with state := 2 } ∧ t.sawRecord p v.record ∧ t.get (F.SAFE_JUDGE_FAIL_count p) = s.get
    (F.SAFE_JUDGE_FAIL_count p) ∧ t.get (F.SAFE_JUDGE_PASS_count p) = s.get (F.SAFE_JUDGE_PASS_count p)) ∧
  (∀ (s : State) (p : Part) (v : VerdictIn) (k : Nat) (u : Subject) (e : Milepost) (n x : Nat), s.powered = true →
    s.isSafe = false → v.seam = none → s.armedOnce p (recField v.record 4 4) k u e → checkRecord p v.record =
    none → s.lostIn v.record = none → s.checksOf p v = some (n, x) → ∃ t, exec (.verdictRecord p v) s = .next t
    ∧ tfind t.motion.entries k = some { e with state := 2 } ∧ t.sawRecord p v.record ∧ t.get
    (F.SAFE_JUDGE_FAIL_count p) = min (s.get (F.SAFE_JUDGE_FAIL_count p) + 1) (65535) ∧ t.get
    (F.SAFE_JUDGE_FAIL_check p) = n ∧ t.get (F.SAFE_JUDGE_PASS_count p) = s.get (F.SAFE_JUDGE_PASS_count p)) ∧
  (∀ (s : State) (p : Part) (v : VerdictIn) (n x : Nat) (g : CheckSet), s.powered = true → s.isSafe = false →
    checkRecord p v.record = none → s.lostIn v.record = none → s.checksOf p v = some (n, x) → s.checkSet p =
    some g → g.burst ≤ s.failsNow p → ∃ t, exec (.verdictRecord p v) s = .next t ∧ t.safeWith Code.JUDGE_BURST) ∧
  (∀ (s : State) (p : Part) (v : VerdictIn) (k : Nat) (u : Subject) (e : Milepost) (l : List Contrib), s.powered =
    true → v.seam = none → s.armedOnce p (recField v.record 4 4) k u e → s.passes p v → s.contribsFor v = some l →
    s.roadFree p v.record → recField v.record 2 1 = outGOOD → (∀ z ∈ l, z.verdict = outGOOD) → e.doubt = 0 → ∃ t,
    exec (.verdictRecord p v) s = .next t ∧ tfind t.motion.entries k = none ∧ t.get (F.MOT_CH_CANCELLED_count
    u.chan) = min (s.get (F.MOT_CH_CANCELLED_count u.chan) + 1) (2 ^ 32 - 1)) ∧
  (∀ (s : State) (p : Part) (v : VerdictIn) (k : Nat) (u : Subject) (e : Milepost) (l : List Contrib), s.powered =
    true → v.seam = none → s.armedOnce p (recField v.record 4 4) k u e → s.passes p v → s.contribsFor v = some l →
    ¬ s.roadFree p v.record ∨ recField v.record 2 1 = outBAD ∨ recField v.record 2 1 = outINVALID ∨ recField
    v.record 2 1 = outGOOD ∧ (e.doubt ≠ 0 ∨ ∃ z ∈ l, z.verdict = outBAD ∨ z.verdict = outINVALID) → ∃ t, exec
    (.verdictRecord p v) s = .next t ∧ tfind t.motion.entries k = some { e with state := 2 }) ∧
  (∀ (s : State) (p : Part) (v : VerdictIn), s.powered = true → v.seam = none → s.passes p v → s.contribsFor v =
    none → s.roadFree p v.record → ∃ t, exec (.verdictRecord p v) s = .next t ∧ t.motion = s.motion ∧
    t.host.subjects = s.host.subjects ∧ t.peer.held = s.peer.held ++
    [{ part := p, v := v, verdict := recField v.record 2 1,
       cause := (if recField v.record 2 1 = outINVALID then recField v.record 20 2 else 0) }]) ∧
  (∀ (s : State) (p : Part) (v : VerdictIn) (k : Nat) (u : Subject) (e : Milepost), s.powered = true → v.seam =
    none → s.oneArm p (recField v.record 4 4) u → u.key = some k → tfind s.motion.entries k = some e →
    e.state = 1 → e.tag = u.tag → e.part = u.part → (k, e) ∈ s.due (k / 4096) → (∃ n, s.failsAt p v n) ∨ s.passes
    p v ∧ (∃ l, s.contribsFor v = some l) → ∃ t, exec (.verdictRecord p v) s = .next t ∧ t.get
    (F.MOT_CH_LATE_count u.chan) = min (s.get (F.MOT_CH_LATE_count u.chan) + 1) 65535 ∧ t.openSubjects p (recField
    v.record 4 4) = []) ∧
  (∀ (s : State) (p : Part) (v : VerdictIn) (u : Subject), s.powered = true → v.seam = none → s.oneArm p
    (recField v.record 4 4) u → u.key = none → u.firedPeriod = none → (∃ n, s.failsAt p v n) ∨ s.passes p v ∧
    (∃ l, s.contribsFor v = some l) → ∃ t, exec (.verdictRecord p v) s = .next t ∧ t.openSubjects p (recField
    v.record 4 4) = []) ∧
  (∀ (s : State) (p : Part) (v : VerdictIn) (q : Nat), s.powered = true → v.seam = some q → ∃ t, exec
    (.verdictRecord p v) s = .next t ∧ t.host.subjects = s.host.subjects ∧ (s.passes p v → t.motion = s.motion) ∧
    (s.passes p v → s.sideUp (q / 2) = true → t.get (F.PEER_CONTRIB_sent (q / 2)) = min (s.get
    (F.PEER_CONTRIB_sent (q / 2)) + 1) (2 ^ 32 - 1)) ∧ (¬ s.passes p v → t.peer = s.peer))

/-- R366, R371, R372, R374, R375, R382 (Tables SAFE-4, SAFE-5). -/
def Obligations.CheckerSupervision : Prop :=
  (∀ (s : State) (w : Fin 64) (early : Bool) (g : WatchdogCfg), s.powered = true → s.watches w g early → g.reaction
    = 0 → ∃ t, exec (.watchdogMiss w early) s = .next t ∧ t.get (F.SAFE_WDOG_misses w) = min (s.get
    (F.SAFE_WDOG_misses w) + 1) (65535) ∧ t.get (F.SAFE_WDOG_early w) = bit early ∧ tget 0 t.safe.ctxMiss
    g.target = 16 ∧ t.get F.SAFE_STATUS_state = s.get F.SAFE_STATUS_state) ∧
  (∀ (s : State) (w : Fin 64) (early : Bool) (g : WatchdogCfg), s.powered = true → s.watches w g early → g.reaction
    = 1 → ∃ t, exec (.watchdogMiss w early) s = .next t ∧ t.get (F.SAFE_WDOG_misses w) = min (s.get
    (F.SAFE_WDOG_misses w) + 1) (65535) ∧ t.get (F.SAFE_WDOG_early w) = bit early ∧ w.val ∈ t.safe.partMiss ∧
    t.get F.SAFE_STATUS_state = s.get F.SAFE_STATUS_state) ∧
  (∀ (s : State) (w : Fin 64) (early : Bool) (g : WatchdogCfg), s.powered = true → s.watches w g early → 2 ≤
    g.reaction → s.isSafe = false → ∃ t, exec (.watchdogMiss w early) s = .next t ∧ t.get (F.SAFE_WDOG_misses w)
    = min (s.get (F.SAFE_WDOG_misses w) + 1) (65535) ∧ t.get (F.SAFE_WDOG_early w) = bit early ∧ t.safeWith
    Code.WATCHDOG_MISS) ∧
  (∀ (s : State) (w : Fin 64) (early : Bool), s.powered = true → (∀ g, ¬ s.watches w g early) → ∃ t, exec
    (.watchdogMiss w early) s = .next t ∧ t.safe = s.safe ∧ t.get (F.SAFE_WDOG_misses w) = s.get
    (F.SAFE_WDOG_misses w)) ∧
  (∀ (s : State) (a : Word), s.powered = true → s.isSafe = false → ∃ t, exec (.lockstepMismatch a) s = .next t ∧
    t.safeWith Code.LOCKSTEP_MISMATCH) ∧
  (∀ (s : State) (a : Word), s.powered = true → s.isSafe = true → ∃ t, exec (.lockstepMismatch a) s = .next t ∧
    t.get F.SAFE_STATUS_state = safeSAFE ∧ t.get F.SAFE_CAUSE_code = s.get F.SAFE_CAUSE_code ∧ t.outputsOff ∧
    t.wrote Code.LOCKSTEP_MISMATCH [a.toNat]) ∧
  (∀ (s : State) (c : CtxId), s.powered = true → (s.ctxCfg c).defined = true → s.get (F.SAFE_CTX_phase c) ≠
    ctxNORMAL → c.val ∉ s.safe.refMissed → ∃ t, exec (.contextNoReference c) s = .next t ∧ c.val ∈
    t.safe.refMissed ∧ t.wrote Code.CONTEXT_NO_REFERENCE [c]) ∧
  (∀ (s : State) (c : CtxId), s.powered = true → (s.ctxCfg c).defined = false ∨ s.get (F.SAFE_CTX_phase c) =
    ctxNORMAL ∨ c.val ∈ s.safe.refMissed → ∃ t, exec (.contextNoReference c) s = .next t ∧ t.safe = s.safe) ∧
  (∀ (s : State), s.powered = true → s.get F.SAFE_STATUS_state = safeSTART → (∀ c < 64, (s.ctxCfg c).defined = true
    → c ∈ s.safe.goldenSeen) → ∃ t, exec .checkerStartDone s = .next t ∧ t.get F.SAFE_STATUS_state = safeRUN) ∧
  (∀ (s : State) (c : CtxId), s.powered = true → s.get F.SAFE_STATUS_state = safeSTART → (s.ctxCfg c).defined =
    true → c.val ∉ s.safe.goldenSeen → ∃ t, exec .checkerStartDone s = .next t ∧ t.get F.SAFE_STATUS_state =
    safeRECOVERY) ∧
  (∀ (s : State), s.powered = true → s.get F.SAFE_STATUS_state ≠ safeSTART → ∃ t, exec .checkerStartDone s = .next
    t ∧ t.get F.SAFE_STATUS_state = s.get F.SAFE_STATUS_state ∧ t.safe = s.safe) ∧
  (∀ (s : State) (k : Fin 9) (u : Fin 64) (b l : BitVec 8), s.powered = true → k.val < 5 → b.toNat ≤ l.toNat →
    b.toNat ≤ 4 → s.safe.slice = none → ∃ t, exec (.testSlice k u b l false 1) s = .next t ∧ s.tested t k false
    ∧ t.safe.slice = none) ∧
  (∀ (s : State) (k : Fin 9) (u : Fin 64) (b l : BitVec 8), s.powered = true → k.val < 5 → b.toNat ≤ l.toNat →
    b.toNat ≤ 4 → s.safe.slice = none → ∃ t, exec (.testSlice k u b l false 3) s = .next t ∧ t.safe.slice = some
    (k.val, u.val, b.toNat)) ∧
  (∀ (s : State) (k : Fin 9) (u : Fin 64) (b l : BitVec 8), s.powered = true → k.val < 5 → b.toNat ≤ l.toNat →
    b.toNat ≤ 4 → s.safe.slice = none → ∃ t, exec (.testSlice k u b l false 0) s = .next t ∧ t.safe = s.safe) ∧
  (∀ (s : State) (k : Fin 9) (u : Fin 64) (b l : BitVec 8), s.powered = true → k.val < 5 → b.toNat ≤ l.toNat →
    b.toNat ≤ 4 → s.safe.slice = none → k.val < 2 → s.isSafe = false → ∃ t, exec (.testSlice k u b l false 2) s
    = .next t ∧ s.tested t k true ∧ t.safeWith Code.TEST_FAILED) ∧
  (∀ (s : State) (k : Fin 9) (u : Fin 64) (b l : BitVec 8), s.powered = true → k.val < 5 → b.toNat ≤ l.toNat →
    b.toNat ≤ 4 → s.safe.slice = none → k.val = 3 → u.val < 8 → ∃ t, exec (.testSlice k u b l false 2) s = .next
    t ∧ s.tested t k true ∧ u.val ∈ t.cores.edgeFailed ∧ t.wrote Code.ENGINE_FAILED [0, u, 3]) ∧
  (∀ (s : State) (k : Fin 9) (u : Fin 64) (b l : BitVec 8), s.powered = true → k.val < 5 → b.toNat ≤ l.toNat →
    b.toNat ≤ 4 → s.safe.slice = none → k.val = 4 → 48 ≤ u.val → s.isSafe = false → ∃ t, exec (.testSlice k u b
    l false 2) s = .next t ∧ s.tested t k true ∧ t.safeWith Code.TEST_FAILED) ∧
  (∀ (s : State) (k : Fin 9) (u : Fin 64) (b l : BitVec 8) (w : Bool) (e : Fin 4), s.powered = true → 5 ≤ k.val ∨ w
    = true ∨ l.toNat < b.toNat ∨ 4 < b.toNat ∨ s.safe.slice ≠ none → ∃ t, exec (.testSlice k u b l w e) s =
    .next t ∧ t.safe = s.safe) ∧
  (∀ (s : State) (k u b : Nat), s.powered = true → s.safe.slice = some (k, u, b) → k < 2 → s.isSafe = false → ∃ t,
    exec .sliceOverrun s = .next t ∧ t.safe.slice = none ∧ s.tested t k true ∧ t.safeWith Code.TEST_FAILED) ∧
  (∀ (s : State), s.powered = true → s.safe.slice = none → ∃ t, exec .sliceOverrun s = .next t ∧ t.safe = s.safe) ∧
  (∀ (s : State) (k : Fin 9), s.powered = true → s.testFitted k = true → s.on (F.SAFE_TEST_overdue k) = false →
    s.cfg.safety.overdueSafe = false → ∃ t, exec (.testOverdue k) s = .next t ∧ t.get (F.SAFE_TEST_overdue k) =
    1 ∧ t.get F.SAFE_STATUS_overdue = 1 ∧ t.get F.SAFE_STATUS_state = s.get F.SAFE_STATUS_state ∧ t.wrote
    Code.TEST_OVERDUE [k, s.testAge k]) ∧
  (∀ (s : State) (k : Fin 9), s.powered = true → s.testFitted k = true → s.on (F.SAFE_TEST_overdue k) = false →
    s.cfg.safety.overdueSafe = true → s.isSafe = false → ∃ t, exec (.testOverdue k) s = .next t ∧ t.get
    (F.SAFE_TEST_overdue k) = 1 ∧ t.safeWith Code.TEST_OVERDUE) ∧
  (∀ (s : State) (k : Fin 9), s.powered = true → s.testFitted k = false ∨ s.on (F.SAFE_TEST_overdue k) = true → ∃
    t, exec (.testOverdue k) s = .next t ∧ t.safe = s.safe ∧ t.get F.SAFE_STATUS_state = s.get
    F.SAFE_STATUS_state)

/-- R365, R378, R379, R383 (Tables SAFE-9, SAFE-11). -/
def Obligations.SafeIo : Prop :=
  (∀ (s : State) (i ch : Fin 2) (b : Bool), s.powered = true → s.hasField = true → ∃ t, exec (.safeInputChange i ch
    b) s = .next t ∧ (t.get F.SAFE_IO_inputs).testBit (2 * i.val + ch.val) = b ∧ t.get F.SAFE_IO_demand = s.get
    F.SAFE_IO_demand) ∧
  (∀ (s : State) (i : Fin 2), s.powered = true → s.hasField = true → s.safeLevel i 0 = false ∨ s.safeLevel i 1 =
    false → (s.get F.SAFE_IO_demand).testBit i.val = false → ∃ t, exec (.safeInputDemand i) s = .next t ∧ (t.get
    F.SAFE_IO_demand).testBit i.val = true ∧ (∀ o < 2, s.mapped i o = true → (t.get F.SAFE_IO_held).testBit o =
    true ∧ ∀ ch, t.safeOutOn o ch = false)) ∧
  (∀ (s : State) (i : Fin 2), s.powered = true → s.hasField = true → s.safeLevel i 0 = false ∨ s.safeLevel i 1 =
    false → (s.get F.SAFE_IO_demand).testBit i.val = false → (s.safeIn i).function = fnSAFESTATE → s.isSafe =
    false → ∃ t, exec (.safeInputDemand i) s = .next t ∧ t.safeWith Code.SAFE_INPUT_DEMAND) ∧
  (∀ (s : State) (i : Fin 2), s.powered = true → s.hasField = true → (s.get F.SAFE_IO_demand).testBit i.val = true
    ∨ s.safeLevel i 0 = true ∧ s.safeLevel i 1 = true → ∃ t, exec (.safeInputDemand i) s = .next t ∧ t.get
    F.SAFE_IO_demand = s.get F.SAFE_IO_demand ∧ t.get F.SAFE_IO_held = s.get F.SAFE_IO_held) ∧
  (∀ (s : State) (i : Fin 2), s.powered = true → s.hasField = true → s.safeLevel i 0 = true → s.safeLevel i 1 =
    true → (s.get F.SAFE_IO_demand).testBit i.val = true → ∃ t, exec (.safeInputDemandCleared i) s = .next t ∧
    (t.get F.SAFE_IO_demand).testBit i.val = false ∧ ∀ o < 2, (s.safeOut o).manual = true → (t.get
    F.SAFE_IO_held).testBit o = (s.get F.SAFE_IO_held).testBit o) ∧
  (∀ (s : State) (i : Fin 2) (o : Nat), s.powered = true → s.hasField = true → s.safeLevel i 0 = true → s.safeLevel
    i 1 = true → s.get F.SAFE_IO_demand = 2 ^ i.val → s.get F.SAFE_IO_input_fault = 0 → o < 2 → (s.safeOut
    o).manual = false → ∃ t, exec (.safeInputDemandCleared i) s = .next t ∧ (t.get F.SAFE_IO_held).testBit o =
    false) ∧
  (∀ (s : State) (i : Fin 2), s.powered = true → s.hasField = true → s.safeLevel i 0 = false ∨ s.safeLevel i 1 =
    false ∨ (s.get F.SAFE_IO_demand).testBit i.val = false → ∃ t, exec (.safeInputDemandCleared i) s = .next t ∧
    t.get F.SAFE_IO_demand = s.get F.SAFE_IO_demand ∧ t.get F.SAFE_IO_held = s.get F.SAFE_IO_held) ∧
  (∀ (s : State) (i ch : Fin 2), s.powered = true → s.hasField = true → s.safeLevel i 0 ≠ s.safeLevel i 1 → ∃ t,
    exec (.safeInputFault i ch false) s = .next t ∧ (t.get F.SAFE_IO_input_fault).testBit i.val = true ∧ (∀ o <
    2, s.mapped i o = true → (t.get F.SAFE_IO_held).testBit o = true ∧ ∀ ch, t.safeOutOn o ch = false)) ∧
  (∀ (s : State) (i ch : Fin 2), s.powered = true → s.hasField = true → (s.safeIn i).pulses = true → ∃ t, exec
    (.safeInputFault i ch true) s = .next t ∧ (t.get F.SAFE_IO_input_fault).testBit i.val = true ∧ (∀ o < 2,
    s.mapped i o = true → (t.get F.SAFE_IO_held).testBit o = true ∧ ∀ ch, t.safeOutOn o ch = false)) ∧
  (∀ (s : State) (i ch : Fin 2), s.powered = true → s.hasField = true → s.safeLevel i 0 = s.safeLevel i 1 → ∃ t,
    exec (.safeInputFault i ch false) s = .next t ∧ t.safe = s.safe ∧ t.get F.SAFE_IO_input_fault = s.get
    F.SAFE_IO_input_fault) ∧
  (∀ (s : State) (c : Fin 2) (f r : BitVec 4), s.powered = true → s.hasField = true → (∀ k, k < 4 → (s.safeIn (k /
    2)).pulses = true → f.getLsbD k = (k % 2 == c.val) ∧ r.getLsbD k = true) → ∃ t, exec (.testPulse c f r) s =
    .next t ∧ s.tested t 6 false ∧ t.get F.SAFE_IO_input_fault = s.get F.SAFE_IO_input_fault) ∧
  (∀ (s : State) (c : Fin 2) (f r : BitVec 4) (k : Nat), s.powered = true → s.hasField = true → k < 4 → (s.safeIn
    (k / 2)).pulses = true → f.getLsbD k ≠ (k % 2 == c.val) ∨ r.getLsbD k = false → ∃ t, exec (.testPulse c f r)
    s = .next t ∧ s.tested t 6 true ∧ (t.get F.SAFE_IO_input_fault).testBit (k / 2) = true) ∧
  (∀ (s : State) (i : Fin 2), s.powered = true → s.hasField = true → s.safeLevel i 0 = true → s.safeLevel i 1 =
    true → s.get F.SAFE_IO_demand = 0 → s.get F.SAFE_IO_input_fault = 2 ^ i.val → (∀ o < 2, s.mapped i o = true
    → (s.safeOut o).manual = false) → ∃ t, exec (.inputFaultRecovered i) s = .next t ∧ t.get
    F.SAFE_IO_input_fault = 0) ∧
  (∀ (s : State) (i : Fin 2) (o : Nat), s.powered = true → s.hasField = true → s.safeLevel i 0 = true → s.safeLevel
    i 1 = true → (s.get F.SAFE_IO_input_fault).testBit i.val = true → o < 2 → s.mapped i o = true → (s.safeOut
    o).manual = true → (s.get F.SAFE_IO_held).testBit o = true → ∃ t, exec (.inputFaultRecovered i) s = .next t
    ∧ (t.get F.SAFE_IO_input_fault).testBit i.val = true ∧ i.val ∈ t.safe.agreed) ∧
  (∀ (s : State) (i : Fin 2), s.powered = true → s.hasField = true → s.safeLevel i 0 = false ∨ s.safeLevel i 1 =
    false ∨ (s.get F.SAFE_IO_input_fault).testBit i.val = false → ∃ t, exec (.inputFaultRecovered i) s = .next t
    ∧ t.safe = s.safe ∧ t.get F.SAFE_IO_input_fault = s.get F.SAFE_IO_input_fault) ∧
  (∀ (s : State) (o ch : Fin 2), s.powered = true → s.hasField = true → ∃ t, exec (.outputTest o ch true false) s =
    .next t ∧ t.safe.outTest = some (o.val, ch.val) ∧ t.safeOutOn o ch = false ∧ t.get F.SAFE_STATUS_state =
    s.get F.SAFE_STATUS_state) ∧
  (∀ (s : State) (o ch : Fin 2), s.powered = true → s.hasField = true → s.isSafe = false → ∃ t, exec (.outputTest o
    ch true true) s = .next t ∧ s.tested t 7 true ∧ t.safeWith Code.SAFE_OUTPUT_FAULT) ∧
  (∀ (s : State) (o ch : Fin 2) (b : Bool), s.powered = true → s.hasField = true → s.safe.outTest = some (o.val,
    ch.val) → b = ({ s with safe := { s.safe with outTest := none } }).safeOutOn o ch → ∃ t, exec (.outputTest o
    ch false b) s = .next t ∧ s.tested t 7 false ∧ t.safe.outTest = none) ∧
  (∀ (s : State) (o ch : Fin 2) (b : Bool), s.powered = true → s.hasField = true → s.safe.outTest = some (o.val,
    ch.val) → b ≠ ({ s with safe := { s.safe with outTest := none } }).safeOutOn o ch → s.isSafe = false → ∃ t,
    exec (.outputTest o ch false b) s = .next t ∧ s.tested t 7 true ∧ t.safeWith Code.SAFE_OUTPUT_FAULT) ∧
  (∀ (s : State) (o ch : Fin 2) (b : Bool), s.powered = true → s.hasField = true → s.safe.outTest ≠ some (o.val,
    ch.val) → ∃ t, exec (.outputTest o ch false b) s = .next t ∧ t.safe = s.safe) ∧
  (∀ (s : State) (i ch : Fin 2) (b : Bool), s.powered = true → s.hasField = false → ∃ t, exec (.safeInputChange i
    ch b) s = .next t ∧ t.get F.SAFE_IO_inputs = s.get F.SAFE_IO_inputs ∧ t.get F.SAFE_IO_demand = s.get
    F.SAFE_IO_demand ∧ t.get F.SAFE_IO_input_fault = s.get F.SAFE_IO_input_fault ∧ t.safe = s.safe) ∧
  (∀ (s : State) (i : Fin 2), s.powered = true → s.hasField = false → ∃ t, exec (.safeInputDemand i) s = .next t ∧
    t.get F.SAFE_IO_inputs = s.get F.SAFE_IO_inputs ∧ t.get F.SAFE_IO_demand = s.get F.SAFE_IO_demand ∧ t.get
    F.SAFE_IO_input_fault = s.get F.SAFE_IO_input_fault ∧ t.safe = s.safe) ∧
  (∀ (s : State) (i : Fin 2), s.powered = true → s.hasField = false → ∃ t, exec (.safeInputDemandCleared i) s =
    .next t ∧ t.get F.SAFE_IO_inputs = s.get F.SAFE_IO_inputs ∧ t.get F.SAFE_IO_demand = s.get F.SAFE_IO_demand
    ∧ t.get F.SAFE_IO_input_fault = s.get F.SAFE_IO_input_fault ∧ t.safe = s.safe) ∧
  (∀ (s : State) (i ch : Fin 2) (b : Bool), s.powered = true → s.hasField = false → ∃ t, exec (.safeInputFault i ch
    b) s = .next t ∧ t.get F.SAFE_IO_inputs = s.get F.SAFE_IO_inputs ∧ t.get F.SAFE_IO_demand = s.get
    F.SAFE_IO_demand ∧ t.get F.SAFE_IO_input_fault = s.get F.SAFE_IO_input_fault ∧ t.safe = s.safe) ∧
  (∀ (s : State) (c : Fin 2) (f r : BitVec 4), s.powered = true → s.hasField = false → ∃ t, exec (.testPulse c f r)
    s = .next t ∧ t.get F.SAFE_IO_inputs = s.get F.SAFE_IO_inputs ∧ t.get F.SAFE_IO_demand = s.get
    F.SAFE_IO_demand ∧ t.get F.SAFE_IO_input_fault = s.get F.SAFE_IO_input_fault ∧ t.safe = s.safe) ∧
  (∀ (s : State) (i : Fin 2), s.powered = true → s.hasField = false → ∃ t, exec (.inputFaultRecovered i) s = .next
    t ∧ t.get F.SAFE_IO_inputs = s.get F.SAFE_IO_inputs ∧ t.get F.SAFE_IO_demand = s.get F.SAFE_IO_demand ∧
    t.get F.SAFE_IO_input_fault = s.get F.SAFE_IO_input_fault ∧ t.safe = s.safe) ∧
  (∀ (s : State) (o ch : Fin 2) (a b : Bool), s.powered = true → s.hasField = false → ∃ t, exec (.outputTest o ch a
    b) s = .next t ∧ t.get F.SAFE_IO_inputs = s.get F.SAFE_IO_inputs ∧ t.get F.SAFE_IO_demand = s.get
    F.SAFE_IO_demand ∧ t.get F.SAFE_IO_input_fault = s.get F.SAFE_IO_input_fault ∧ t.safe = s.safe) ∧
  (∀ (s : State), s.powered = true → s.hasField = false → ∃ t, exec .safetyMessage s = .next t ∧ t.get
    F.SAFE_IO_inputs = s.get F.SAFE_IO_inputs ∧ t.get F.SAFE_IO_demand = s.get F.SAFE_IO_demand ∧ t.get
    F.SAFE_IO_input_fault = s.get F.SAFE_IO_input_fault ∧ t.safe = s.safe) ∧
  (∀ (s : State) (k : Nat), s.powered = true → s.hasField = true → k < 2 → s.cfg.safety.msgPorts.testBit k = true →
    s.timeLinked k = true → ∃ t, exec .safetyMessage s = .next t ∧ t.get F.SAFE_MSG_counter = (s.get
    F.SAFE_MSG_counter + 1) % 2 ^ 32 ∧ ∃ b, ⟨k, b⟩ ∈ t.safe.msgs.drop s.safe.msgs.length ∧ b.length = 48 ∧
    recField b 3 1 = s.get F.SAFE_STATUS_state + 1 ∧ recField b 8 4 = t.get F.SAFE_MSG_counter ∧ recField b 12 2
    = s.safeCause ∧ recField b 44 4 = crc32c (leBytes 4 s.cfg.safety.key ++ b.take 44)) ∧
  (∀ (s : State), s.powered = true → s.hasField = true → (∀ k < 2, s.cfg.safety.msgPorts.testBit k = true →
    s.timeLinked k = false) → ∃ t, exec .safetyMessage s = .next t ∧ t.get F.SAFE_MSG_counter = s.get
    F.SAFE_MSG_counter ∧ t.safe.msgs = s.safe.msgs) ∧
  (∀ (s : State) (k : Fin 2) (b : Bool), s.powered = true → s.timePort k = true → s.timeLinked k ≠ b → ∃ t, exec (.safeMsgLink k b) s =
    .next t ∧ t.timeLinked k = b ∧ t.safe.msgs = s.safe.msgs ∧ (s.hasField = true →
    s.cfg.safety.msgPorts.testBit k = true → t.wrote Code.SAFE_MSG_LINK [k, bit (!b)])) ∧
  (∀ (s : State) (k : Fin 2) (b : Bool), s.powered = true → s.timePort k = false ∨ s.timeLinked k = b → ∃ t, exec (.safeMsgLink k b) s =
    .next t ∧ t.safe = s.safe)

/-- R379, R382, R384, R386 (Table SAFE-12). -/
def Obligations.SafeCommands : Prop :=
  (∀ (s : State) (i : Port), s.powered = true → s.privileged i = true → s.isSafe = false → ∃ t, exec (.forceSafe i)
    s = .next t ∧ t.safeWith Code.SAFE_FORCED ∧ t.get (F.SAFE_CMD_STATUS_code i) = 0 ∧ t.get
    (F.SAFE_CMD_STATUS_reason i) = 0) ∧
  (∀ (s : State) (i : Port), s.powered = true → s.privileged i = true → s.isSafe = true → ∃ t, exec (.forceSafe i)
    s = .next t ∧ t.get F.SAFE_STATUS_state = safeSAFE ∧ t.get F.SAFE_CAUSE_code = s.get F.SAFE_CAUSE_code ∧
    t.get (F.SAFE_CMD_STATUS_code i) = 0 ∧ t.get (F.SAFE_CMD_STATUS_reason i) = 0) ∧
  (∀ (s : State) (i : Port), s.powered = true → s.privileged i = false → ∃ t, exec (.forceSafe i) s = .next t ∧
    t.wrote Code.SAFE_CMD_REFUSED [i, 2, srROLE] ∧ t.get (F.SAFE_CMD_STATUS_code i) = Code.SAFE_CMD_REFUSED ∧
    t.get (F.SAFE_CMD_STATUS_reason i) = srROLE ∧ t.safe = s.safe ∧ t.keep = s.keep ∧ t.get F.SAFE_STATUS_state
    = s.get F.SAFE_STATUS_state) ∧
  (∀ (s : State) (i : Port), s.powered = true → s.privileged i = true → s.isSafe = true → s.safeHeld = false → ∃ t,
    exec (.safeReset (.port i)) s = .next t ∧ t.get F.SAFE_STATUS_state = safeSTART ∧ t.safe.goldenSeen = [] ∧
    t.safe.seqFresh = upTo 8 ∧ t.get (F.SAFE_CMD_STATUS_code i) = 0 ∧ t.get (F.SAFE_CMD_STATUS_reason i) = 0 ∧ ∀
    c < 64, (s.ctxCfg c).defined = true → t.get (F.SAFE_CTX_phase c) = ctxNOREF) ∧
  (∀ (s : State) (i : Port), s.powered = true → s.privileged i = true → s.isSafe = true → s.safeHeld = true → ∃ t,
    exec (.safeReset (.port i)) s = .next t ∧ t.wrote Code.SAFE_CMD_REFUSED [i, 1, srCAUSEACTIVE] ∧ t.get
    (F.SAFE_CMD_STATUS_code i) = Code.SAFE_CMD_REFUSED ∧ t.get (F.SAFE_CMD_STATUS_reason i) = srCAUSEACTIVE ∧
    t.safe = s.safe ∧ t.keep = s.keep ∧ t.get F.SAFE_STATUS_state = s.get F.SAFE_STATUS_state) ∧
  (∀ (s : State) (i : Port), s.powered = true → s.privileged i = false → ∃ t, exec (.safeReset (.port i)) s = .next
    t ∧ t.wrote Code.SAFE_CMD_REFUSED [i, 1, srROLE] ∧ t.get (F.SAFE_CMD_STATUS_code i) = Code.SAFE_CMD_REFUSED
    ∧ t.get (F.SAFE_CMD_STATUS_reason i) = srROLE ∧ t.safe = s.safe ∧ t.keep = s.keep ∧ t.get
    F.SAFE_STATUS_state = s.get F.SAFE_STATUS_state) ∧
  (∀ (s : State) (i : Port), s.powered = true → s.privileged i = true → s.isSafe = false → ∃ t, exec (.safeReset
    (.port i)) s = .next t ∧ t.get (F.SAFE_CMD_STATUS_code i) = 0 ∧ t.get (F.SAFE_CMD_STATUS_reason i) = 0 ∧
    t.get F.SAFE_STATUS_state = s.get F.SAFE_STATUS_state ∧ ∀ o < 2, (s.safeOut o).manual = true → (t.get
    F.SAFE_IO_held).testBit o = ((s.get F.SAFE_IO_held).testBit o && !s.demandEnded o)) ∧
  (∀ (s : State) (n : Fin 32), s.powered = true → s.hasField = true → s.isSafe = true → s.cfg.safety.resetByInput =
    some n.val → s.safeHeld = false → ∃ t, exec (.safeReset (.input n)) s = .next t ∧ t.get F.SAFE_STATUS_state
    = safeSTART ∧ t.safe.goldenSeen = [] ∧ t.safe.seqFresh = upTo 8 ∧ ∀ c < 64, (s.ctxCfg c).defined = true →
    t.get (F.SAFE_CTX_phase c) = ctxNOREF) ∧
  (∀ (s : State) (n : Fin 32), s.powered = true → s.isSafe = true → s.cfg.safety.resetByInput ≠ some n.val ∨
    s.safeHeld = true → ∃ t, exec (.safeReset (.input n)) s = .next t ∧ t.get F.SAFE_STATUS_state = safeSAFE ∧
    t.safe = s.safe) ∧
  (∀ (s : State) (i : Port), s.powered = true → s.role i = roleOWNER → i.val ∈ s.boot.proven → s.keep.safetyLeft ≠
    0 → ∃ t, exec (.lock i) s = .next t ∧ t.keep.lock = true ∧ t.get F.SAFE_STATUS_lock = 1 ∧ t.keep.safetyLeft
    = s.keep.safetyLeft - 1 ∧ t.get F.SAFE_STATUS_state = s.get F.SAFE_STATUS_state ∧ t.get
    (F.SAFE_CMD_STATUS_code i) = 0 ∧ t.get (F.SAFE_CMD_STATUS_reason i) = 0) ∧
  (∀ (s : State) (i : Port), s.powered = true → s.role i ≠ roleOWNER → ∃ t, exec (.lock i) s = .next t ∧ t.wrote
    Code.SAFE_CMD_REFUSED [i, 3, srROLE] ∧ t.get (F.SAFE_CMD_STATUS_code i) = Code.SAFE_CMD_REFUSED ∧ t.get
    (F.SAFE_CMD_STATUS_reason i) = srROLE ∧ t.safe = s.safe ∧ t.keep = s.keep ∧ t.get F.SAFE_STATUS_state =
    s.get F.SAFE_STATUS_state) ∧
  (∀ (s : State) (i : Port), s.powered = true → s.role i = roleOWNER → i.val ∉ s.boot.proven → ∃ t, exec (.lock i)
    s = .next t ∧ t.wrote Code.SAFE_CMD_REFUSED [i, 3, srNOTPROVEN] ∧ t.get (F.SAFE_CMD_STATUS_code i) =
    Code.SAFE_CMD_REFUSED ∧ t.get (F.SAFE_CMD_STATUS_reason i) = srNOTPROVEN ∧ t.safe = s.safe ∧ t.keep = s.keep
    ∧ t.get F.SAFE_STATUS_state = s.get F.SAFE_STATUS_state) ∧
  (∀ (s : State) (i : Port), s.powered = true → s.role i = roleOWNER → i.val ∈ s.boot.proven → s.keep.safetyLeft =
    0 → ∃ t, exec (.lock i) s = .next t ∧ t.wrote Code.SAFE_CMD_REFUSED [i, 3, srRATCHET] ∧ t.get
    (F.SAFE_CMD_STATUS_code i) = Code.SAFE_CMD_REFUSED ∧ t.get (F.SAFE_CMD_STATUS_reason i) = srRATCHET ∧ t.safe
    = s.safe ∧ t.keep = s.keep ∧ t.get F.SAFE_STATUS_state = s.get F.SAFE_STATUS_state) ∧
  (∀ (s : State) (i : Port), s.powered = true → s.role i = roleOWNER → i.val ∈ s.boot.proven → s.keep.safetyLeft ≠
    0 → ∃ t, exec (.unlock i) s = .next t ∧ t.keep.lock = false ∧ t.get F.SAFE_STATUS_lock = 0 ∧
    t.keep.safetyLeft = s.keep.safetyLeft - 1 ∧ t.get F.SAFE_STATUS_state = s.get F.SAFE_STATUS_state ∧ t.get
    (F.SAFE_CMD_STATUS_code i) = 0 ∧ t.get (F.SAFE_CMD_STATUS_reason i) = 0) ∧
  (∀ (s : State) (i : Port), s.powered = true → s.role i ≠ roleOWNER → ∃ t, exec (.unlock i) s = .next t ∧ t.wrote
    Code.SAFE_CMD_REFUSED [i, 4, srROLE] ∧ t.get (F.SAFE_CMD_STATUS_code i) = Code.SAFE_CMD_REFUSED ∧ t.get
    (F.SAFE_CMD_STATUS_reason i) = srROLE ∧ t.safe = s.safe ∧ t.keep = s.keep ∧ t.get F.SAFE_STATUS_state =
    s.get F.SAFE_STATUS_state) ∧
  (∀ (s : State) (i : Port), s.powered = true → s.role i = roleOWNER → i.val ∉ s.boot.proven → ∃ t, exec (.unlock
    i) s = .next t ∧ t.wrote Code.SAFE_CMD_REFUSED [i, 4, srNOTPROVEN] ∧ t.get (F.SAFE_CMD_STATUS_code i) =
    Code.SAFE_CMD_REFUSED ∧ t.get (F.SAFE_CMD_STATUS_reason i) = srNOTPROVEN ∧ t.safe = s.safe ∧ t.keep = s.keep
    ∧ t.get F.SAFE_STATUS_state = s.get F.SAFE_STATUS_state) ∧
  (∀ (s : State) (i : Port), s.powered = true → s.role i = roleOWNER → i.val ∈ s.boot.proven → s.keep.safetyLeft =
    0 → ∃ t, exec (.unlock i) s = .next t ∧ t.wrote Code.SAFE_CMD_REFUSED [i, 4, srRATCHET] ∧ t.get
    (F.SAFE_CMD_STATUS_code i) = Code.SAFE_CMD_REFUSED ∧ t.get (F.SAFE_CMD_STATUS_reason i) = srRATCHET ∧ t.safe
    = s.safe ∧ t.keep = s.keep ∧ t.get F.SAFE_STATUS_state = s.get F.SAFE_STATUS_state)

/-- R389, R392, R393, R395 to R397, R409, R413 (Table INTEG-1). -/
def Obligations.ScrubAndTrace : Prop :=
  (∀ (s : State) (k : Fin 4) (l : BitVec 32) (f : Option BadLine) (h : Fin 5), s.powered = true → s.kindLines k ≤
    l.toNat → ∃ t, exec (.scrubRead k l f h) s = .next t ∧ t.integ = s.integ ∧ t.mem = s.mem) ∧
  (∀ (s : State) (k : Fin 4) (l : BitVec 32) (f : Option BadLine) (h : Fin 5), s.powered = true → l.toNat <
    s.kindLines k → s.failedSram k l.toNat → ∃ t, exec (.scrubRead k l f h) s = .next t ∧ t.mem = s.mem ∧
    t.integ.bad = s.integ.bad ∧ t.integ.writeBack = s.integ.writeBack) ∧
  (∀ (s : State) (k : Fin 4) (l : BitVec 32) (f : Option BadLine) (h : Fin 5), s.powered = true → k.val < 3 →
    l.toNat < s.kindLines k → s.errorAt (lineAddr k l.toNat) f = none → ∃ t, exec (.scrubRead k l f h) s = .next
    t ∧ t.mem = s.mem ∧ t.integ.bad = s.integ.bad ∧ t.get (F.INTEG_ERR_CORR_count k) = s.get
    (F.INTEG_ERR_CORR_count k)) ∧
  (∀ (s : State) (k : Fin 4) (l : BitVec 32) (f : Option BadLine) (h : Fin 5) (b : BadLine), s.powered = true →
    k.val < 3 → l.toNat < s.kindLines k → s.errorAt (lineAddr k l.toNat) f = some b → sound (lineAddr k l.toNat)
    b = true → ¬ s.failedSram k l.toNat → ∃ t, exec (.scrubRead k l f h) s = .next t ∧ t.bytes (lineAddr k l.toNat) b.raw.length = b.raw ∧
    tfind t.integ.bad (lineAddr k l.toNat / 64) = none ∧ t.get (F.INTEG_ERR_CORR_count k) = s.get
    (F.INTEG_ERR_CORR_count k)) ∧
  (∀ (s : State) (k : Fin 4) (l : BitVec 32) (f : Option BadLine) (h : Fin 5) (b : BadLine) (bs : List Byte),
    s.powered = true → k.val < 3 → l.toNat < s.kindLines k → s.errorAt (lineAddr k l.toNat) f = some b → sound
    (lineAddr k l.toNat) b = false → corrected (lineAddr k l.toNat) b = some bs → s.noErrors (lineAddr k
    l.toNat) → ¬ s.failedSram k l.toNat → ∃ t, exec (.scrubRead k l f h) s = .next t ∧ t.bytes (lineAddr k l.toNat) bs.length = bs ∧
    lineAddr k l.toNat / 64 ∈ t.integ.writeBack ∧ tfind t.integ.bad (lineAddr k l.toNat / 64) = some b ∧ t.get
    (F.INTEG_ERR_CORR_count k) = min (s.get (F.INTEG_ERR_CORR_count k) + 1) (2 ^ 32 - 1) ∧ t.get
    (F.INTEG_ERR_UNCORR_count k) = s.get (F.INTEG_ERR_UNCORR_count k)) ∧
  (∀ (s : State) (k : Fin 4) (l : BitVec 32) (f : Option BadLine) (h : Fin 5) (b : BadLine), s.powered = true →
    k.val < 3 → l.toNat < s.kindLines k → s.errorAt (lineAddr k l.toNat) f = some b → sound (lineAddr k l.toNat)
    b = false → corrected (lineAddr k l.toNat) b = none → s.noErrors (lineAddr k l.toNat) → ¬ s.failedSram k l.toNat → ∃ t, exec
    (.scrubRead k l f h) s = .next t ∧ tfind t.integ.bad (lineAddr k l.toNat / 64) = some b ∧ t.integ.writeBack
    = s.integ.writeBack ∧ t.get (F.INTEG_ERR_UNCORR_count k) = min (s.get (F.INTEG_ERR_UNCORR_count k) + 1) (2 ^
    32 - 1) ∧ t.get (F.INTEG_ERR_CORR_count k) = s.get (F.INTEG_ERR_CORR_count k)) ∧
  (∀ (s : State) (k : Fin 4) (l : BitVec 32) (f : Option BadLine) (h : Fin 5), s.powered = true → k.val = memHBM →
    l.toNat < s.kindLines k → l.toNat ∉ s.integ.poison → h = 0 → ∃ t, exec (.scrubRead k l f h) s = .next t ∧
    t.integ.poison = s.integ.poison ∧ t.get (F.INTEG_ERR_CORR_count memHBM) = s.get (F.INTEG_ERR_CORR_count
    memHBM)) ∧
  (∀ (s : State) (k : Fin 4) (l : BitVec 32) (f : Option BadLine) (h : Fin 5), s.powered = true → k.val = memHBM →
    l.toNat < s.kindLines k → l.toNat ∉ s.integ.poison → h = 1 → ∃ t, exec (.scrubRead k l f h) s = .next t ∧
    t.integ.poison = s.integ.poison ∧ t.get (F.INTEG_ERR_CORR_count memHBM) = min (s.get (F.INTEG_ERR_CORR_count
    memHBM) + 1) (2 ^ 32 - 1)) ∧
  (∀ (s : State) (k : Fin 4) (l : BitVec 32) (f : Option BadLine) (h : Fin 5), s.powered = true → k.val = memHBM →
    l.toNat < s.kindLines k → l.toNat ∉ s.integ.poison → h = 2 → ∃ t, exec (.scrubRead k l f h) s = .next t ∧
    t.integ.poison = s.integ.poison ∧ t.get (F.INTEG_ERR_RETRY_refetches memHBM) = min (s.get
    (F.INTEG_ERR_RETRY_refetches memHBM) + 1) (65535)) ∧
  (∀ (s : State) (k : Fin 4) (l : BitVec 32) (f : Option BadLine) (h : Fin 5), s.powered = true → k.val = memHBM →
    l.toNat < s.kindLines k → l.toNat ∉ s.integ.poison → h = 3 ∨ h = 4 → s.integ.poison.length < 4096 → ∃ t,
    exec (.scrubRead k l f h) s = .next t ∧ t.integ.poison = s.integ.poison ++ [l.toNat] ∧ t.get
    (F.INTEG_ERR_UNCORR_count memHBM) = min (s.get (F.INTEG_ERR_UNCORR_count memHBM) + 1) (2 ^ 32 - 1) ∧ t.get
    F.INTEG_HBM_poisoned = s.integ.poison.length + 1) ∧
  (∀ (s : State) (k : Fin 4) (l : BitVec 32) (f : Option BadLine) (h : Fin 5), s.powered = true → k.val = memHBM →
    l.toNat < s.kindLines k → l.toNat ∈ s.integ.poison → ∃ t, exec (.scrubRead k l f h) s = .next t ∧
    t.integ.poison = s.integ.poison ∧ t.get (F.INTEG_ERR_UNCORR_count memHBM) = s.get (F.INTEG_ERR_UNCORR_count
    memHBM)) ∧
  (∀ (s : State) (k : Fin 4) (l : BitVec 32) (f : Option BadLine) (h : Fin 5), s.powered = true → l.toNat <
    s.kindLines k → l.toNat + 1 = s.kindLines k → k.val = memHBM → h = 0 → ∃ t, exec (.scrubRead k l f h) s =
    .next t ∧ t.get (F.INTEG_SCRUB_LAPS_count k) = min (s.get (F.INTEG_SCRUB_LAPS_count k) + 1) (2 ^ 32 - 1)) ∧
  (∀ (s : State) (k : Fin 3) (l : BitVec 32), s.powered = true → lineAddr k.val l.toNat / 64 ∈ s.integ.writeBack →
    ∃ t, exec (.scrubWriteBack k l false) s = .next t ∧ tfind t.integ.bad (lineAddr k.val l.toNat / 64) = none ∧
    lineAddr k.val l.toNat / 64 ∉ t.integ.writeBack ∧ t.mem = s.mem) ∧
  (∀ (s : State) (k : Fin 3) (l : BitVec 32), s.powered = true → lineAddr k.val l.toNat / 64 ∈ s.integ.writeBack →
    ∃ t, exec (.scrubWriteBack k l true) s = .next t ∧ t.integ.bad = s.integ.bad ∧ lineAddr k.val l.toNat / 64 ∉
    t.integ.writeBack ∧ t.mem = s.mem) ∧
  (∀ (s : State) (k : Fin 3) (l : BitVec 32) (x : Bool), s.powered = true → lineAddr k.val l.toNat / 64 ∉
    s.integ.writeBack → ∃ t, exec (.scrubWriteBack k l x) s = .next t ∧ t.integ = s.integ) ∧
  (∀ (s : State), s.powered = true → (∀ w < 256, s.tripAgree w) → ∃ t, exec (.tripleVote []) s = .next t ∧ t.integ
    = s.integ ∧ t.get (F.INTEG_TRIP_STATUS_repaired) = s.get (F.INTEG_TRIP_STATUS_repaired)) ∧
  (∀ (s : State) (k : Fin 3) (w : Fin 256) (v : Word), s.powered = true → (∀ w < 256, s.tripAgree w) → v.toNat ≠
    s.get (F.INTEG_TRIP_COPY_word k w) → ∃ t, exec (.tripleVote [(k, w, v)]) s = .next t ∧ (∀ j : Fin 3, t.get
    (F.INTEG_TRIP_COPY_word j w) = s.get (F.INTEG_TRIP_COPY_word j w)) ∧ t.get (F.INTEG_TRIP_value w) = s.get
    (F.INTEG_TRIP_COPY_word 0 w) ∧ t.get (F.INTEG_TRIP_STATUS_repaired) = min (s.get
    (F.INTEG_TRIP_STATUS_repaired) + 1) (65535) ∧ t.wrote Code.TRIPLE_REPAIRED [w, k]) ∧
  (∀ (s : State) (w : Fin 256) (v x : Word), s.powered = true → (∀ w < 256, s.tripAgree w) → v ≠ x → v.toNat ≠
    s.get (F.INTEG_TRIP_COPY_word 2 w) → x.toNat ≠ s.get (F.INTEG_TRIP_COPY_word 2 w) → w.val ∉ s.integ.tripFix
    → ∃ t, exec (.tripleVote [(0, w, v), (1, w, x)]) s = .next t ∧ w.val ∈ t.integ.tripFix ∧ t.get
    (F.INTEG_TRIP_STATUS_disagree) = min (s.get (F.INTEG_TRIP_STATUS_disagree) + 1) (65535) ∧ t.get
    (F.INTEG_TRIP_value w) = majority v.toNat x.toNat (s.get (F.INTEG_TRIP_COPY_word 2 w)) ∧ (48 ≤ w.val → w.val
    < 192 → t.get F.SAFE_STATUS_state = safeSAFE ∧ t.outputsOff)) ∧
  (∀ (s : State) (i : Port) (v : BitVec 2) (m : BitVec 8), s.powered = true → s.privileged i = true → v ≠ 3 → s.get
    F.INTEG_STATUS_trace_level = 0 ∨ s.get F.INTEG_STATUS_trace_port = i.val → (v ≠ 2 ∨ (∀ p g, p < 8 →
    m.toNat.testBit p = true → tfind s.cfg.programs p = some g → g.callTrace = true)) → ∃ t, exec (.traceSet i v
    m) s = .next t ∧ t.get F.INTEG_STATUS_trace_level = v.toNat ∧ t.get F.INTEG_STATUS_trace_port = i.val ∧
    t.integ.traceParts = m.toNat ∧ t.get (F.INTEG_CMD_STATUS_code i) = 0 ∧ t.get (F.INTEG_CMD_STATUS_reason i) =
    0) ∧
  (∀ (s : State) (i : Port) (v : BitVec 2) (m : BitVec 8), s.powered = true → s.privileged i = true → v ≠ 3 → s.get
    F.INTEG_STATUS_trace_level ≠ 0 → s.get F.INTEG_STATUS_trace_port ≠ i.val → ∃ t, exec (.traceSet i v m) s =
    .next t ∧ t.integ = s.integ ∧ t.get (F.INTEG_STATUS_trace_level) = s.get (F.INTEG_STATUS_trace_level) ∧
    t.get (F.INTEG_CMD_STATUS_code i) = Code.INTEG_BAD_COMMAND ∧ t.get (F.INTEG_CMD_STATUS_reason i) = irBUSY) ∧
  (∀ (s : State) (i : Port) (m : BitVec 8) (p : Nat) (g : ProgramSec), s.powered = true → s.privileged i = true →
    s.get F.INTEG_STATUS_trace_level = 0 ∨ s.get F.INTEG_STATUS_trace_port = i.val → p < 8 → m.toNat.testBit p =
    true → tfind s.cfg.programs p = some g → g.callTrace = false → ∃ t, exec (.traceSet i 2 m) s = .next t ∧
    t.integ = s.integ ∧ t.get (F.INTEG_STATUS_trace_level) = s.get (F.INTEG_STATUS_trace_level) ∧ t.get
    (F.INTEG_CMD_STATUS_code i) = Code.INTEG_BAD_COMMAND ∧ t.get (F.INTEG_CMD_STATUS_reason i) = irNOCALLTRACE) ∧
  (∀ (s : State) (i : Port) (m : BitVec 8), s.powered = true → s.privileged i = true → ∃ t, exec (.traceSet i 3 m)
    s = .next t ∧ t.integ = s.integ ∧ t.get (F.INTEG_STATUS_trace_level) = s.get (F.INTEG_STATUS_trace_level) ∧
    t.get (F.INTEG_CMD_STATUS_code i) = Code.INTEG_BAD_COMMAND ∧ t.get (F.INTEG_CMD_STATUS_reason i) = 0) ∧
  (∀ (s : State) (i : Port) (v : BitVec 2) (m : BitVec 8), s.powered = true → s.privileged i = false → ∃ t, exec
    (.traceSet i v m) s = .next t ∧ t.integ = s.integ ∧ t.get (F.INTEG_STATUS_trace_level) = s.get
    (F.INTEG_STATUS_trace_level) ∧ t.wrote Code.INTEG_ROLE [i, 4] ∧ t.get (F.INTEG_CMD_STATUS_code i) =
    Code.INTEG_ROLE ∧ t.get (F.INTEG_CMD_STATUS_reason i) = irROLE) ∧
  (∀ (s : State) (i : Port), s.powered = true → s.privileged i = true → ∃ t, exec (.captureClear i) s = .next t ∧
    t.get F.INTEG_CAP_LOC_valid = 0 ∧ t.get (F.INTEG_CMD_STATUS_code i) = 0 ∧ t.get (F.INTEG_CMD_STATUS_reason
    i) = 0) ∧
  (∀ (s : State) (i : Port), s.powered = true → s.privileged i = false → ∃ t, exec (.captureClear i) s = .next t ∧
    t.get (F.INTEG_CAP_LOC_valid) = s.get (F.INTEG_CAP_LOC_valid) ∧ t.wrote Code.INTEG_ROLE [i, 4] ∧ t.get
    (F.INTEG_CMD_STATUS_code i) = Code.INTEG_ROLE ∧ t.get (F.INTEG_CMD_STATUS_reason i) = irROLE)

/-- R417 to R420, R422 to R424, R431 (Table WAYM-1). -/
def Obligations.RecorderCommands : Prop :=
  (∀ (s : State) (w : Waymark) (rest : List Waymark), s.powered = true → s.recorder.buffer = w :: rest → s.headFree
    = true → ∃ t, exec .waymarkWrite s = .next t ∧ t.get F.WAYM_HEAD_SEQ_seq = (s.get F.WAYM_HEAD_SEQ_seq + 1) %
    2 ^ 32 ∧ t.recorder.headPos = (s.recorder.headPos + 1) % ringRecords ∧ (∃ x, tfind t.recorder.flash
    s.recorder.headPos = some x ∧ x.seq = s.get F.WAYM_HEAD_SEQ_seq ∧ x.code = w.code ∧ x.sev = w.sev ∧ (x.p1,
    x.p2, x.p3) = (w.p1, w.p2, w.p3) ∧ (x.flags.testBit 3 = (w.flags.testBit 3 || s.on F.WAYM_STATUS_frozen))) ∧
    t.get F.WAYM_BUDGET_tokens = s.get F.WAYM_BUDGET_tokens - 1 ∧ (s.recorder.headPos % sectorRecords ≠ 0 →
    s.get F.WAYM_BUDGET_tokens ≠ 1 → s.recorder.lost = 0 → t.recorder.buffer = rest)) ∧
  (∀ (s : State), s.powered = true → s.recorder.buffer = [] ∨ s.headFree = false → ∃ t, exec .waymarkWrite s =
    .next t ∧ t.recorder = s.recorder ∧ t.get F.WAYM_HEAD_SEQ_seq = s.get F.WAYM_HEAD_SEQ_seq) ∧
  (∀ (s : State), s.powered = true → ∃ t, exec .sectorErased s = .next t ∧ t.recorder =
    { s.recorder with erasing := none }) ∧
  (∀ (s : State), s.powered = true → s.on F.WAYM_STATUS_budget_empty = true → ∃ t, exec .budgetRefill s = .next t ∧
    t.get F.WAYM_BUDGET_tokens = min (s.get F.WAYM_BUDGET_tokens + 1) 100000 ∧ t.get F.WAYM_STATUS_budget_empty
    = 0 ∧ t.wrote Code.RECORDER_BUDGET [1, min (s.get F.WAYM_BUDGET_tokens + 1) 100000]) ∧
  (∀ (s : State), s.powered = true → s.on F.WAYM_STATUS_budget_empty = false → ∃ t, exec .budgetRefill s = .next t
    ∧ t.get F.WAYM_BUDGET_tokens = min (s.get F.WAYM_BUDGET_tokens + 1) 100000 ∧ t.recorder = s.recorder) ∧
  (∀ (s : State) (k : Nat × Nat), s.powered = true → (s.recorder.buckets.map (fun e => e.1)).Nodup → ∃ t, exec
    .bucketRefill s = .next t ∧ (t.bucket k).tokens = min ((s.bucket k).tokens + 1) (bucketCap k.1) ∧ (t.bucket
    k).supp = (s.bucket k).supp) ∧
  (∀ (s : State) (c p : Nat) (w : Waymark), s.powered = true → (s.bucket (c, p)).last = some w → (s.bucket (c,
    p)).supp ≠ 0 → s.recorder.buffer.length < 960 → ∃ t, exec (.waymarkSummary c p) s = .next t ∧ (∃ x,
    t.recorder.buffer = s.recorder.buffer ++ [x] ∧ x.code = w.code ∧ x.supp = (s.bucket (c, p)).supp ∧
    x.flags.testBit 0 = true ∧ x.cycles = s.get F.KEEP_POWER_CYCLES_count ∧ x.opSec = s.opSeconds) ∧ (t.bucket
    (c, p)).supp = 0 ∧ (t.bucket (c, p)).tokens = (s.bucket (c, p)).tokens) ∧
  (∀ (s : State) (c p : Nat) (w : Waymark), s.powered = true → (s.bucket (c, p)).last = some w → (s.bucket (c,
    p)).supp ≠ 0 → 1024 ≤ s.recorder.buffer.length → ∃ t, exec (.waymarkSummary c p) s = .next t ∧
    t.recorder.buffer = s.recorder.buffer ∧ (t.bucket (c, p)).supp = (s.bucket (c, p)).supp ∧ t.get
    (F.WAYM_DROPPED_count) = min (s.get (F.WAYM_DROPPED_count) + 1) (2 ^ 32 - 1)) ∧
  (∀ (s : State) (c p : Nat), s.powered = true → (s.bucket (c, p)).last = none ∨ (s.bucket (c, p)).supp = 0 → ∃ t,
    exec (.waymarkSummary c p) s = .next t ∧ t.recorder = s.recorder) ∧
  (∀ (s : State) (i : Port), s.powered = true → s.privileged i = true → s.on F.WAYM_STATUS_frozen = false → ∃ t,
    exec (.freeze i) s = .next t ∧ t.get F.WAYM_STATUS_frozen = 1 ∧ t.get F.WAYM_STATUS_freeze_port = i.val ∧
    t.get F.WAYM_FROZEN_AT_seq = s.get F.WAYM_HEAD_SEQ_seq ∧ t.recorder.frozenBy = some i.val ∧ t.wrote
    Code.RECORDER_FROZEN [i, s.get F.WAYM_HEAD_SEQ_seq] ∧ t.get (F.WAYM_CMD_STATUS_code i) = 0 ∧ t.get
    (F.WAYM_CMD_STATUS_reason i) = 0) ∧
  (∀ (s : State) (i : Port), s.powered = true → s.privileged i = true → s.on F.WAYM_STATUS_frozen = true → ∃ t,
    exec (.freeze i) s = .next t ∧ t.recorder = s.recorder ∧ t.get F.WAYM_STATUS_frozen = 1 ∧ t.get
    (F.WAYM_CMD_STATUS_code i) = Code.WAYM_BAD_COMMAND ∧ t.get (F.WAYM_CMD_STATUS_reason i) = 2) ∧
  (∀ (s : State) (i : Port), s.powered = true → s.privileged i = false → ∃ t, exec (.freeze i) s = .next t ∧ t.get
    F.WAYM_STATUS_frozen = s.get F.WAYM_STATUS_frozen ∧ t.recorder.frozenBy = s.recorder.frozenBy ∧ t.wrote
    Code.WAYM_ROLE [i, 0xC] ∧ t.get (F.WAYM_CMD_STATUS_code i) = Code.WAYM_ROLE ∧ t.get
    (F.WAYM_CMD_STATUS_reason i) = 1) ∧
  (∀ (s : State) (i : Port), s.powered = true → s.privileged i = false → ∃ t, exec (.thaw i) s = .next t ∧ t.get
    F.WAYM_STATUS_frozen = s.get F.WAYM_STATUS_frozen ∧ t.recorder.frozenBy = s.recorder.frozenBy ∧ t.wrote
    Code.WAYM_ROLE [i, 0xC] ∧ t.get (F.WAYM_CMD_STATUS_code i) = Code.WAYM_ROLE ∧ t.get
    (F.WAYM_CMD_STATUS_reason i) = 1) ∧
  (∀ (s : State) (i : Port), s.powered = true → s.privileged i = true → s.on F.WAYM_STATUS_frozen = true →
    s.recorder.frozenBy = some i.val → ∃ t, exec (.thaw i) s = .next t ∧ t.get F.WAYM_STATUS_frozen = 0 ∧
    t.recorder.frozenBy = none ∧ t.get (F.WAYM_CMD_STATUS_code i) = 0 ∧ t.get (F.WAYM_CMD_STATUS_reason i) = 0) ∧
  (∀ (s : State) (i : Port), s.powered = true → s.privileged i = true → s.on F.WAYM_STATUS_frozen = true →
    s.recorder.frozenBy ≠ some i.val → ∃ t, exec (.thaw i) s = .next t ∧ t.get F.WAYM_STATUS_frozen = 1 ∧
    t.recorder = s.recorder ∧ t.get (F.WAYM_CMD_STATUS_code i) = Code.WAYM_ROLE ∧ t.get
    (F.WAYM_CMD_STATUS_reason i) = 1) ∧
  (∀ (s : State), s.powered = true → s.on F.WAYM_STATUS_frozen = true → ∃ t, exec .freezeTimeout s = .next t ∧
    t.get F.WAYM_STATUS_frozen = 0 ∧ t.recorder.frozenBy = none ∧ (s.recorder.eraseHeld = false → t.wrote
    Code.RECORDER_THAWED [2, s.recorder.buffer.length, s.recorder.frozenLost])) ∧
  (∀ (s : State), s.powered = true → s.on F.WAYM_STATUS_frozen = false → ∃ t, exec .freezeTimeout s = .next t ∧
    t.recorder = s.recorder) ∧
  (∀ (s : State) (i : Port) (e : Nat × Waymark), s.powered = true → s.recorder.flash.find? (fun e => e.2.seq ==
    s.get (F.WAYM_READ_SEQ_seq i)) = some e → e.1 ∉ s.recorder.torn → ∃ t, exec (.waymRead i) s = .next t ∧
    t.readWindow i 0 (waymarkWords e.2) ∧ t.recorder = s.recorder) ∧
  (∀ (s : State) (i : Port) (e : Nat × Waymark), s.powered = true → s.recorder.flash.find? (fun e => e.2.seq ==
    s.get (F.WAYM_READ_SEQ_seq i)) = some e → e.1 ∈ s.recorder.torn → ∃ t, exec (.waymRead i) s = .next t ∧
    t.readWindow i 3 [] ∧ t.recorder = s.recorder) ∧
  (∀ (s : State) (i : Port), s.powered = true → s.recorder.flash.find? (fun e => e.2.seq == s.get
    (F.WAYM_READ_SEQ_seq i)) = none → (s.get (F.WAYM_READ_SEQ_seq i) + 2 ^ 32 - s.get F.WAYM_HEAD_SEQ_seq) % 2 ^
    32 < 2 ^ 31 → ∃ t, exec (.waymRead i) s = .next t ∧ t.readWindow i 2 []) ∧
  (∀ (s : State) (i : Port), s.powered = true → s.recorder.flash.find? (fun e => e.2.seq == s.get
    (F.WAYM_READ_SEQ_seq i)) = none → 2 ^ 31 ≤ (s.get (F.WAYM_READ_SEQ_seq i) + 2 ^ 32 - s.get
    F.WAYM_HEAD_SEQ_seq) % 2 ^ 32 → ∃ t, exec (.waymRead i) s = .next t ∧ t.readWindow i 1 [])

/-- R13, R15, R360, R427 to R431, R433 to R435, R444 (Tables MAP-1 to MAP-3). -/
def Obligations.RegistersAndCounters : Prop :=
  (∀ (s : State) (i : Port), s.powered = true → s.privileged i = true → ∃ t, exec (.snapshot i) s = .next t ∧ t.get
    F.PERF_STATUS_snapshot_pending = 1 ∧ t.get (F.PERF_CMD_STATUS_code i) = 0) ∧
  (∀ (s : State) (i : Port), s.powered = true → s.privileged i = false → ∃ t, exec (.snapshot i) s = .next t ∧
    t.get (F.PERF_STATUS_snapshot_pending) = s.get (F.PERF_STATUS_snapshot_pending) ∧ t.perf = s.perf ∧ t.wrote
    Code.PERF_ROLE [i, 4] ∧ t.get (F.PERF_CMD_STATUS_code i) = Code.PERF_ROLE) ∧
  (∀ (s : State) (i : Port), s.powered = true → s.privileged i = true → ∃ t, exec (.tagOn i) s = .next t ∧ t.get
    F.PERF_STATUS_tagging = 1 ∧ t.get (F.PERF_CMD_STATUS_code i) = 0) ∧
  (∀ (s : State) (i : Port), s.powered = true → s.privileged i = false → ∃ t, exec (.tagOn i) s = .next t ∧ t.get
    (F.PERF_STATUS_tagging) = s.get (F.PERF_STATUS_tagging) ∧ t.perf = s.perf ∧ t.wrote Code.PERF_ROLE [i, 4] ∧
    t.get (F.PERF_CMD_STATUS_code i) = Code.PERF_ROLE) ∧
  (∀ (s : State) (i : Port), s.powered = true → s.privileged i = true → ∃ t, exec (.tagOff i) s = .next t ∧ t.get
    F.PERF_STATUS_tagging = 0 ∧ t.get (F.PERF_CMD_STATUS_code i) = 0) ∧
  (∀ (s : State) (i : Port), s.powered = true → s.privileged i = false → ∃ t, exec (.tagOff i) s = .next t ∧ t.get
    (F.PERF_STATUS_tagging) = s.get (F.PERF_STATUS_tagging) ∧ t.perf = s.perf ∧ t.wrote Code.PERF_ROLE [i, 4] ∧
    t.get (F.PERF_CMD_STATUS_code i) = Code.PERF_ROLE) ∧
  (∀ (s : State) (i : Port) (c : CoreId) (k : Fin 8) (v : BitVec 16), s.powered = true → s.privileged i = true →
    s.coreRole c ≠ coreABSENT → v.toNat % 256 ≤ 0x17 → ∃ t, exec (.perfEventWrite i c k v) s = .next t ∧ tfind
    t.perf.events (8 * c.val + k.val) = some v.toNat ∧ t.get F.PERF_STATUS_pending = 1 ∧ t.get
    (F.PERF_EVENT_event c k) = s.get (F.PERF_EVENT_event c k)) ∧
  (∀ (s : State) (i : Port) (c : CoreId) (k : Fin 8) (v : BitVec 16), s.powered = true → s.privileged i = true →
    s.coreRole c ≠ coreABSENT → 0x17 < v.toNat % 256 → ∃ t, exec (.perfEventWrite i c k v) s = .next t ∧ t.perf
    = s.perf ∧ t.wrote Code.PERF_BAD_COMMAND [i, v.toNat]) ∧
  (∀ (s : State) (i : Port) (c : CoreId) (k : Fin 8) (v : BitVec 16), s.powered = true → s.privileged i = true →
    s.coreRole c = coreABSENT → ∃ t, exec (.perfEventWrite i c k v) s = .next t ∧ t.perf = s.perf) ∧
  (∀ (s : State) (i : Port) (c : CoreId) (k : Fin 8) (v : BitVec 16), s.powered = true → s.privileged i = false → ∃
    t, exec (.perfEventWrite i c k v) s = .next t ∧ t.perf = s.perf ∧ t.wrote Code.PERF_ROLE [i, 0x1048 + 0x100
    * c.val + 4 * k.val]) ∧
  (∀ (s : State) (i : Port) (a b : Nat), s.powered = true → a = min (tget 0 s.perf.bwIn i.val / 64) (2 ^ 32 - 1) →
    b = min (tget 0 s.perf.bwOut i.val / 64) (2 ^ 32 - 1) → ∃ t, exec (.bwWindowEnd i) s = .next t ∧ t.get
    (F.PERF_BW_IN_units i) = a ∧ t.get (F.PERF_BW_OUT_units i) = b ∧ t.get (F.PERF_BW_PEAK_IN_units i) = max
    (s.get (F.PERF_BW_PEAK_IN_units i)) a ∧ t.get (F.PERF_BW_PEAK_OUT_units i) = max (s.get
    (F.PERF_BW_PEAK_OUT_units i)) b ∧ tget 0 t.perf.bwIn i.val = 0 ∧ tget 0 t.perf.bwOut i.val = 0) ∧
  (∀ (s : State) (i : Port) (o : BitVec 24) (d : Bool) (f : Option BadLine), s.powered = true → s.privileged i =
    false ∨ o.toNat % 4 ≠ 0 → ∃ t, exec (.apertureRead i o d f) s = .next t ∧ tget .none t.replies i.val =
    .unsupported ∧ t.wrote Code.HOST_UR [i, 0, 0x1000000 + o.toNat]) ∧
  (∀ (s : State) (i : Port) (o : BitVec 24) (d : Bool) (f : Option BadLine), s.powered = true → s.privileged i =
    true → o.toNat % 4 = 0 → s.on F.CAP_APERTURE_enable = false ∨ s.apertureAt o.toNat = none → ∃ t, exec
    (.apertureRead i o d f) s = .next t ∧ t.answered i 0 ∧ t.integ = s.integ) ∧
  (∀ (s : State) (i : Port) (o : BitVec 24) (f : Option BadLine) (a : Nat), s.powered = true → s.privileged i =
    true → o.toNat % 4 = 0 → s.on F.CAP_APERTURE_enable = true → s.apertureAt o.toNat = some a → ∃ t, exec
    (.apertureRead i o false f) s = .next t ∧ tget .none t.replies i.val = .abort ∧ t.integ = s.integ) ∧
  (∀ (s : State) (i : Port) (o : BitVec 24) (f : Option BadLine) (a : Nat), s.powered = true → s.privileged i =
    true → o.toNat % 4 = 0 → s.on F.CAP_APERTURE_enable = true → s.apertureAt o.toNat = some a → s.errorAt a f =
    none → ∃ t, exec (.apertureRead i o true f) s = .next t ∧ t.answered i (BitVec.ofNat 32 (s.rd a 4)) ∧ t.mem
    = s.mem) ∧
  (∀ (s : State) (i : Port) (o : BitVec 24) (f : Option BadLine) (a : Nat) (b : BadLine) (bs : List Byte),
    s.powered = true → s.privileged i = true → o.toNat % 4 = 0 → s.on F.CAP_APERTURE_enable = true →
    s.apertureAt o.toNat = some a → s.errorAt a f = some b → sound (64 * (a / 64)) b = false → corrected (64 *
    (a / 64)) b = some bs → ∃ t, exec (.apertureRead i o true f) s = .next t ∧ t.answered i (BitVec.ofNat 32
    (recField bs (a % 64) 4))) ∧
  (∀ (s : State) (i : Port) (o : BitVec 24) (f : Option BadLine) (a : Nat) (b : BadLine), s.powered = true →
    s.privileged i = true → o.toNat % 4 = 0 → s.on F.CAP_APERTURE_enable = true → s.apertureAt o.toNat = some a
    → s.errorAt a f = some b → sound (64 * (a / 64)) b = false → corrected (64 * (a / 64)) b = none → ∃ t, exec
    (.apertureRead i o true f) s = .next t ∧ t.answered i 0 ∧ t.get F.CAP_APERTURE_bad = 1) ∧
  (∀ (s : State) (i : Port) (o : BitVec 26) (h : Hit) (g : Hit), s.powered = true → findReg o.toNat = some h →
    tfind s.hiLatch (portBank i + h.off) = none → h.row.name ∈ lowWords → findReg (h.off + 4) = some g → ∃ t,
    exec (.lowWordRead i o) s = .next t ∧ t.answered i (s.peek i h) ∧ tfind t.hiLatch (portBank i + (h.off + 4))
    = some (s.peek i g) ∧ t.mem = s.mem) ∧
  (∀ (s : State) (i : Port) (o : BitVec 26) (h : Hit) (w : Word), s.powered = true → findReg o.toNat = some h →
    tfind s.hiLatch (portBank i + h.off) = some w → ∃ t, exec (.lowWordRead i o) s = .next t ∧ t.answered i w ∧
    tfind t.hiLatch (portBank i + h.off) = none) ∧
  (∀ (s : State) (i : Port) (o : BitVec 26) (h : Hit), s.powered = true → findReg o.toNat = some h → tfind
    s.hiLatch (portBank i + h.off) = none → s.absent h = false → h.row.name ∉ lowWords → h.row.name ≠
    "TIME_NOW_NS" → ∃ t, exec (.rcRead i o) s = .next t ∧ t.answered i (s.peek i h) ∧ t.hiLatch = s.hiLatch ∧ ∀
    f ∈ h.row.fields, f.ty = .rc → t.get ⟨h.key i, f.lo, f.width⟩ = 0) ∧
  (∀ (s : State) (i : Port) (o : BitVec 26), s.powered = true → findReg o.toNat = none → ∃ t, exec (.lowWordRead i
    o) s = .next t ∧ tget .none t.replies i.val = .unsupported ∧ t.wrote Code.HOST_UR [i, 0, o.toNat]) ∧
  (∀ (s : State) (i : Port) (o : BitVec 26), s.powered = true → findReg o.toNat = none → ∃ t, exec (.rcRead i o) s
    = .next t ∧ tget .none t.replies i.val = .unsupported ∧ t.wrote Code.HOST_UR [i, 0, o.toNat]) ∧
  (∀ (s : State) (i : Port) (b2 : Bool) (o : BitVec 26) (n : BitVec 8) (w : Bool), s.powered = true → mapped b2
    o.toNat = false ∨ n.toNat ≠ 4 ∨ o.toNat % 4 ≠ 0 → ∃ t, exec (.unmappedAccess i b2 o n w) s = .next t ∧ tget
    .none t.replies i.val = (if w = true then .dropped else .unsupported) ∧ t.mem = s.mem ∧ t.wrote Code.HOST_UR
    [i, if b2 = true then 2 else 0, o.toNat]) ∧
  (∀ (s : State) (i : Port) (v : Word), s.powered = true → s.privileged i = true → 1 ≤ v.toNat % 2 ^ 7 → v.toNat %
    2 ^ 7 ≤ 100 → ∃ t, exec (.registerWrite i false 0x10001C v) s = .next t ∧ t.get F.TIME_SLEW_ppm = v.toNat %
    2 ^ 7) ∧
  (∀ (s : State) (i : Port) (v : Word), s.powered = true → s.privileged i = true → v.toNat % 2 ^ 7 = 0 ∨ 100 <
    v.toNat % 2 ^ 7 → ∃ t, exec (.registerWrite i false 0x10001C v) s = .next t ∧ t.get (F.TIME_SLEW_ppm) =
    s.get (F.TIME_SLEW_ppm) ∧ t.wrote Code.TIME_REFUSED [i, 0, trBADVALUE] ∧ t.get (F.TIME_CMD_STATUS_code i) =
    Code.TIME_REFUSED ∧ t.get (F.TIME_CMD_STATUS_reason i) = trBADVALUE) ∧
  (∀ (s : State) (i : Port) (v : Word), s.powered = true → s.privileged i = false → ∃ t, exec (.registerWrite i
    false 0x10001C v) s = .next t ∧ t.get (F.TIME_SLEW_ppm) = s.get (F.TIME_SLEW_ppm) ∧ t.get
    (F.TIME_CMD_STATUS_code i) = Code.TIME_REFUSED ∧ t.get (F.TIME_CMD_STATUS_reason i) = trROLE) ∧
  (∀ (s : State) (i : Port) (v : Word), s.powered = true → s.privileged i = true → 100 ≤ v.toNat % 2 ^ 30 → v.toNat
    % 2 ^ 30 ≤ 1000000000 → ∃ t, exec (.registerWrite i false 0x100018 v) s = .next t ∧ t.get F.TIME_JUMP_ns =
    v.toNat % 2 ^ 30) ∧
  (∀ (s : State) (i : Port) (v : Word), s.powered = true → s.privileged i = true → v.toNat % 2 ^ 30 < 100 ∨
    1000000000 < v.toNat % 2 ^ 30 → ∃ t, exec (.registerWrite i false 0x100018 v) s = .next t ∧ t.get
    (F.TIME_JUMP_ns) = s.get (F.TIME_JUMP_ns) ∧ t.wrote Code.TIME_REFUSED [i, 0, trBADVALUE] ∧ t.get
    (F.TIME_CMD_STATUS_code i) = Code.TIME_REFUSED ∧ t.get (F.TIME_CMD_STATUS_reason i) = trBADVALUE) ∧
  (∀ (s : State) (i : Port) (v : Word), s.powered = true → s.privileged i = false → ∃ t, exec (.registerWrite i
    false 0x100018 v) s = .next t ∧ t.get (F.TIME_JUMP_ns) = s.get (F.TIME_JUMP_ns) ∧ t.get
    (F.TIME_CMD_STATUS_code i) = Code.TIME_REFUSED ∧ t.get (F.TIME_CMD_STATUS_reason i) = trROLE) ∧
  (∀ (s : State) (i : Port) (o : BitVec 26) (v : Word), s.powered = true → findReg o.toNat = none → ∃ t, exec
    (.registerWrite i false o v) s = .next t ∧ tget .none t.replies i.val = .dropped ∧ t.mem = s.mem ∧ t.wrote
    Code.HOST_UR [i, 0, o.toNat]) ∧
  (∀ (s : State) (i : Port) (p : Part) (k : BitVec 10) (v : Word), s.powered = true → s.mayWritePart i p = true → ∃
    t, exec (.registerWrite i true (BitVec.ofNat 26 (0x800000 + 0x2000 * p.val + 4 * k.toNat)) v) s = .next t ∧
    t.rd (inMailbox p + 4 * k.toNat) 4 = v.toNat ∧ ∀ a, a < inMailbox p + 4 * k.toNat ∨ inMailbox p + 4 *
    k.toNat + 4 ≤ a → t.byte a = s.byte a) ∧
  (∀ (s : State) (i : Port) (p : Part) (k : BitVec 10) (v : Word), s.powered = true → s.mayWritePart i p = false →
    ∃ t, exec (.registerWrite i true (BitVec.ofNat 26 (0x800000 + 0x2000 * p.val + 4 * k.toNat)) v) s = .next t
    ∧ t.mem = s.mem ∧ t.wrote Code.HOST_ROLE [i, 0x800000 + 0x2000 * p.val + 4 * k.toNat]) ∧
  (∀ (s : State) (i : Port), exec (.registerWrite i false 0x14000C 1) s = exec (.freeze i) s) ∧
  (∀ (s : State) (i : Port), exec (.registerWrite i false 0x14000C 2) s = exec (.thaw i) s) ∧
  (∀ (s : State) (i : Port), exec (.registerWrite i false 0x120008 1) s = exec (.safeReset (.port i)) s) ∧
  (∀ (s : State) (i : Port), exec (.registerWrite i false 0x120008 2) s = exec (.forceSafe i) s) ∧
  (∀ (s : State) (i : Port), exec (.registerWrite i false 0x120008 3) s = exec (.lock i) s) ∧
  (∀ (s : State) (i : Port), exec (.registerWrite i false 0x120008 4) s = exec (.unlock i) s) ∧
  (∀ (s : State) (i : Port), exec (.registerWrite i false 0x100020 1) s = exec (.step i) s) ∧
  (∀ (s : State) (i : Port), exec (.registerWrite i false 0x100020 2) s = exec (.slew i) s) ∧
  (∀ (s : State) (i : Port), exec (.registerWrite i false 0x150004 1) s = exec (.snapshot i) s) ∧
  (∀ (s : State) (i : Port), exec (.registerWrite i false 0x130004 2) s = exec (.captureClear i) s)

/-- No row of the table stops the block: refusals of the spec are status codes and waymarks (R360). -/
def Obligations.EveryCommandCompletes : Prop :=
  (∀ (c : Instr) (s : State), ∃ t, exec c s = .next t ∧ t.pending = s.pending ∧ t.variant = s.variant)

/-- R36 to R38, R75: nothing stays powered without the supply; only what the field supplies read is followed (R35). Marked DEDUCED in log entry 4. -/
def Obligations.UnpoweredModuleIgnoresCommands : Prop :=
  (∀ (c : Instr) (s : State), s.power = .off ∨ s.power = .offOverVoltage → (∀ r, c ≠ .powerUp r) → (∀ r, c ≠ .overvoltageRestart r) →
    (∀ v, c ≠ .fieldSupplyLow v) → (∀ v l, c ≠ .fieldSupplyReturn v l) → (∀ g b v, c ≠ .groupSupplyLow g b v) → exec c s = .next s) ∧
  (∀ (r : BootReport) (s : State), s.power = .off → exec (.overvoltageRestart r) s = .next s) ∧
  (∀ (c : Instr) (s : State), s.power = .bootRom → (∀ v, c ≠ .brownOut v) → (∀ v, c ≠ .overVoltage v) →
    (∀ ok d, c ≠ .consoleFirmwareLoad ok d) → (∀ v, c ≠ .fieldSupplyLow v) → (∀ v l, c ≠ .fieldSupplyReturn v l) → (∀ g b v, c ≠ .groupSupplyLow g b v) →
    exec c s = .next s) ∧
  (∀ (s : State) (v : BitVec 16), s.powered = false → s.hasField = true →
    exec (.fieldSupplyLow v) s = .next { s with board := { s.board with fieldLow := some v.toNat } }) ∧
  (∀ (s : State) (v : BitVec 16) (l : Word), s.powered = false → s.hasField = true →
    exec (.fieldSupplyReturn v l) s = .next { s with board := { s.board with fieldLow := none } }) ∧
  (∀ (s : State) (g : Fin 4) (low : Bool) (v : BitVec 16), s.powered = false → s.hasField = true → ∃ t,
    exec (.groupSupplyLow g low v) s = .next t ∧ tfind t.board.groupsLow g = (if low then some v.toNat else none) ∧ t.regs = s.regs ∧
    t.power = s.power) ∧
  (∀ (s : State) (v : BitVec 16) (l : Word) (g : Fin 4) (low : Bool), s.powered = false → s.hasField = false →
    exec (.fieldSupplyLow v) s = .next s ∧ exec (.fieldSupplyReturn v l) s = .next s ∧ exec (.groupSupplyLow g low v) s = .next s)

/-- R322, R379 to R381, as an invariant of every step from every state. -/
def Obligations.SafeStateKeepsOutputsOff : Prop :=
  (∀ s t : State, s.safeMeansOff → step s = .next t → t.safeMeansOff) ∧
  (∀ s t : State, s.safeOutputsHold → step s = .next t → t.safeOutputsHold)

/-- The canonical form of Machine/State.lean: a choice of the model, kept by every step. -/
def Obligations.MemoryAndRegistersStayCanonical : Prop :=
  (∀ s t : State, s.canonical → step s = .next t → t.canonical)

/-- R82: the ratchets count down and never count up; R51: the epoch never decreases. -/
def Obligations.RatchetsNeverGainAStep : Prop :=
  (∀ s t : State, step s = .next t → Keep.spent s.keep t.keep) ∧
  (∀ (c : Instr) (s t : State), exec c s = .next t → Keep.spent s.keep t.keep)

/-- R437. -/
def Obligations.PortLatches : Prop :=
  (∀ (s : State) (i : Port) (o : BitVec 26) (h : Hit) (g : Hit), s.powered = true → findReg o.toNat = some h →
    tfind s.hiLatch (portBank i + h.off) = none → h.row.name ∈ lowWords → findReg (h.off + 4) = some g → ∃ t,
    exec (.lowWordRead i o) s = .next t ∧ t.answered i (s.peek i h) ∧ tfind t.hiLatch (portBank i + (h.off + 4))
    = some (s.peek i g) ∧ ∀ k, k ≠ portBank i + (h.off + 4) → tfind t.hiLatch k = tfind s.hiLatch k) ∧
  (∀ (s : State) (i : Port) (o : BitVec 26) (h : Hit) (w : Word), s.powered = true → findReg o.toNat = some h →
    tfind s.hiLatch (portBank i + h.off) = some w → ∃ t, exec (.lowWordRead i o) s = .next t ∧ t.answered i w ∧
    tfind t.hiLatch (portBank i + h.off) = none ∧ ∀ k, k ≠ portBank i + h.off → tfind t.hiLatch k = tfind
    s.hiLatch k) ∧
  (∀ (s : State) (i : Port) (o : BitVec 26) (h : Hit) (w : Word), s.powered = true → findReg o.toNat = some h →
    tfind s.hiLatch (portBank i + h.off) = some w → ∃ t, exec (.rcRead i o) s = .next t ∧ t.answered i w ∧ tfind
    t.hiLatch (portBank i + h.off) = none ∧ ∀ k, k ≠ portBank i + h.off → tfind t.hiLatch k = tfind s.hiLatch k)

/-- R52, R53. -/
def Obligations.LockAndUpkeepStep : Prop :=
  (∀ (s : State) (i : Port) (img : ImageFile) (st : StructureSec) (y : SafetySec), s.powered = true → s.zld.image =
    some img → s.holdsSession i = true → s.zldState = zldVERIFIED → img.header.kind = kindFULL → (∀ a ∈
    s.zld.armed, a.partial_ = false) → img.structureSec = some st → img.safety = some y → s.keep.lock = false ∨
    y.digest = s.cfg.safety.digest → st.upkeep ≠ s.get F.ZLD_ACTIVE_upkeep_mode → s.keep.upkeepLeft ≠ 0 → ∃ t,
    exec (.commit i) s = .next t ∧ t.keep.full = some (s.inactiveImageSlot img, img.digest) ∧ t.keep.upkeepLeft
    = s.keep.upkeepLeft - 1 ∧ t.zldState = zldIDLE ∧ t.get (F.ZLD_RESULT_code i) = 0) ∧
  (∀ (s : State) (i : Port) (img : ImageFile) (st : StructureSec) (y : SafetySec), s.powered = true → s.zld.image =
    some img → s.holdsSession i = true → s.zldState = zldVERIFIED → img.header.kind = kindFULL → (∀ a ∈
    s.zld.armed, a.partial_ = false) → img.structureSec = some st → img.safety = some y → s.keep.lock = false ∨
    y.digest = s.cfg.safety.digest → st.upkeep = s.get F.ZLD_ACTIVE_upkeep_mode → ∃ t, exec (.commit i) s =
    .next t ∧ t.keep.full = some (s.inactiveImageSlot img, img.digest) ∧ t.keep.upkeepLeft = s.keep.upkeepLeft ∧
    t.zldState = zldIDLE) ∧
  (∀ (s : State) (i : Port) (img : ImageFile) (st : StructureSec) (y : SafetySec), s.powered = true → s.zld.image =
    some img → s.holdsSession i = true → s.zldState = zldVERIFIED → img.header.kind = kindFULL → (∀ a ∈
    s.zld.armed, a.partial_ = false) → img.structureSec = some st → img.safety = some y → s.keep.lock = false ∨
    y.digest = s.cfg.safety.digest → st.upkeep ≠ s.get F.ZLD_ACTIVE_upkeep_mode → s.keep.upkeepLeft = 0 → ∃ t,
    exec (.commit i) s = .next t ∧ t.keep = s.keep ∧ t.cfg = s.cfg ∧ t.zld = s.zld ∧ t.zldState = s.zldState ∧
    t.get (F.ZLD_RESULT_code i) = Code.ZLD_RATCHET_EXHAUSTED) ∧
  (∀ (s : State) (i : Port) (img : ImageFile) (st : StructureSec) (y : SafetySec), s.powered = true → s.zld.image =
    some img → s.holdsSession i = true → s.zldState = zldVERIFIED → img.header.kind = kindFULL →
    img.structureSec = some st → img.safety = some y → s.keep.lock = true → y.digest ≠ s.cfg.safety.digest → ∃
    t, exec (.commit i) s = .next t ∧ t.keep = s.keep ∧ t.cfg = s.cfg ∧ t.zld = s.zld ∧ t.zldState = s.zldState
    ∧ ((∀ a ∈ s.zld.armed, a.partial_ = false) → t.get (F.ZLD_RESULT_code i) = Code.ZLD_SAFETY_LOCKED)) ∧
  (∀ (s : State) (img : ImageFile) (st : StructureSec) (y : SafetySec) (i : Port), s.powered = true → s.zld.image =
    some img → s.zldState = zldFETCHING → i = Fin.ofNat 4 (s.get F.ZLD_STATUS_session_port) → img.header.kind =
    kindFULL → img.structureSec = some st → img.safety = some y → s.keep.lock = true → y.digest ≠
    s.cfg.safety.digest → ∃ t, exec .fetchDone s = .next t ∧ t.zldState = zldFAILED ∧ t.keep = s.keep ∧ t.cfg =
    s.cfg ∧ t.flash = s.flash ∧ (img.checkFormat (s.get F.ZLD_SRC_LEN_bytes) = none → s.mayLoad i img = true →
    s.checkContent img i = none → t.get (F.ZLD_RESULT_code i) = Code.ZLD_SAFETY_LOCKED))

/-- R425. -/
def Obligations.VectorEight : Prop :=
  (∀ (s : State) (w : Waymark) (n : Nat), s.on F.WAYM_STATUS_frozen = false → (s.flashWrite w n).msix = s.msix ++
    (s.askedFor w.sev).map (fun i => (i, 8))) ∧
  (∀ (s : State) (w : Waymark) (rest : List Waymark), s.powered = true → s.recorder.buffer = w :: rest → s.headFree
    = true → s.on F.WAYM_STATUS_frozen = false → ∃ t, exec .waymarkWrite s = .next t ∧ t.msix = s.msix ++
    (s.askedFor w.sev).map (fun i => (i, 8))) ∧
  (∀ (s : State) (w : Waymark) (rest : List Waymark), s.powered = true → s.recorder.buffer = w :: rest → s.headFree
    = true → ∃ t, exec .waymarkWrite s = .next t ∧ ∃ l, t.msix = s.msix ++ l ∧ ∀ i ∈ s.askedFor w.sev, (i, 8) ∈
    l) ∧
  (∀ (s u : State) (w : Waymark), s.buffer w = some u → u.msix = s.msix ++ (if s.on F.WAYM_STATUS_frozen = true ∧
    s.recorder.buffer.length = 512 then (s.askedFor 3).map (fun i => (i, 8)) else [])) ∧
  (∀ (s : State) (us : Fin 1000), s.powered = true → s.on F.WAYM_STATUS_frozen = true → s.recorder.buffer.length =
    512 → s.recorder.buckets = [] → s.on F.WAYM_STATUS_budget_empty = false → ∃ t, exec (.supplyDip us) s =
    .next t ∧ t.msix = s.msix ++ (s.askedFor 3).map (fun i => (i, 8)))

/-- The frame of a scalar word (R155 to R157, R169, R427). -/
def Obligations.ScalarWordsLeaveTheRest : Prop :=
  (∀ (s t : State) (x : Issue), s.ScalarReady x 0x01 → exec (.add x) s = .next t → Frame (areas (wordOnly ++
    outputAreas)) s t ∧ ∀ c, c ≠ x.core.val → t.core c = s.core c) ∧
  (∀ (s t : State) (x : Issue), s.ScalarReady x 0x02 → exec (.sub x) s = .next t → Frame (areas (wordOnly ++
    outputAreas)) s t ∧ ∀ c, c ≠ x.core.val → t.core c = s.core c) ∧
  (∀ (s t : State) (x : Issue), s.ScalarReady x 0x03 → exec (.mul x) s = .next t → Frame (areas (wordOnly ++
    outputAreas)) s t ∧ ∀ c, c ≠ x.core.val → t.core c = s.core c) ∧
  (∀ (s t : State) (x : Issue), s.ScalarReady x 0x04 → exec (.and x) s = .next t → Frame (areas (wordOnly ++
    outputAreas)) s t ∧ ∀ c, c ≠ x.core.val → t.core c = s.core c) ∧
  (∀ (s t : State) (x : Issue), s.ScalarReady x 0x05 → exec (.or x) s = .next t → Frame (areas (wordOnly ++
    outputAreas)) s t ∧ ∀ c, c ≠ x.core.val → t.core c = s.core c) ∧
  (∀ (s t : State) (x : Issue), s.ScalarReady x 0x06 → exec (.xor x) s = .next t → Frame (areas (wordOnly ++
    outputAreas)) s t ∧ ∀ c, c ≠ x.core.val → t.core c = s.core c) ∧
  (∀ (s t : State) (x : Issue), s.ScalarReady x 0x07 → exec (.shl x) s = .next t → Frame (areas (wordOnly ++
    outputAreas)) s t ∧ ∀ c, c ≠ x.core.val → t.core c = s.core c) ∧
  (∀ (s t : State) (x : Issue), s.ScalarReady x 0x08 → exec (.shr x) s = .next t → Frame (areas (wordOnly ++
    outputAreas)) s t ∧ ∀ c, c ≠ x.core.val → t.core c = s.core c) ∧
  (∀ (s t : State) (x : Issue), s.ScalarReady x 0x09 → exec (.sar x) s = .next t → Frame (areas (wordOnly ++
    outputAreas)) s t ∧ ∀ c, c ≠ x.core.val → t.core c = s.core c) ∧
  (∀ (s t : State) (x : Issue), s.ScalarReady x 0x0A → exec (.slt x) s = .next t → Frame (areas (wordOnly ++
    outputAreas)) s t ∧ ∀ c, c ≠ x.core.val → t.core c = s.core c) ∧
  (∀ (s t : State) (x : Issue), s.ScalarReady x 0x0B → exec (.ldi x) s = .next t → Frame (areas (wordOnly ++
    outputAreas)) s t ∧ ∀ c, c ≠ x.core.val → t.core c = s.core c) ∧
  (∀ (s t : State) (x : Issue), s.ScalarReady x 0x0C → exec (.div x) s = .next t → Frame (areas (wordOnly ++
    outputAreas)) s t ∧ ∀ c, c ≠ x.core.val → t.core c = s.core c) ∧
  (∀ (s t : State) (x : Issue), s.ScalarReady x 0x0D → exec (.rem x) s = .next t → Frame (areas (wordOnly ++
    outputAreas)) s t ∧ ∀ c, c ≠ x.core.val → t.core c = s.core c) ∧
  (∀ (s t : State) (x : Issue), s.ScalarReady x 0x10 → exec (.fadd x) s = .next t → Frame (areas (wordOnly ++
    outputAreas)) s t ∧ ∀ c, c ≠ x.core.val → t.core c = s.core c) ∧
  (∀ (s t : State) (x : Issue), s.ScalarReady x 0x11 → exec (.fsub x) s = .next t → Frame (areas (wordOnly ++
    outputAreas)) s t ∧ ∀ c, c ≠ x.core.val → t.core c = s.core c) ∧
  (∀ (s t : State) (x : Issue), s.ScalarReady x 0x12 → exec (.fmul x) s = .next t → Frame (areas (wordOnly ++
    outputAreas)) s t ∧ ∀ c, c ≠ x.core.val → t.core c = s.core c) ∧
  (∀ (s t : State) (x : Issue), s.ScalarReady x 0x13 → exec (.ffma x) s = .next t → Frame (areas (wordOnly ++
    outputAreas)) s t ∧ ∀ c, c ≠ x.core.val → t.core c = s.core c) ∧
  (∀ (s t : State) (x : Issue), s.ScalarReady x 0x14 → exec (.fdiv x) s = .next t → Frame (areas (wordOnly ++
    outputAreas)) s t ∧ ∀ c, c ≠ x.core.val → t.core c = s.core c) ∧
  (∀ (s t : State) (x : Issue), s.ScalarReady x 0x15 → exec (.fsqrt x) s = .next t → Frame (areas (wordOnly ++
    outputAreas)) s t ∧ ∀ c, c ≠ x.core.val → t.core c = s.core c) ∧
  (∀ (s t : State) (x : Issue), s.ScalarReady x 0x16 → wFmtA x.word = fmtFP32 ∧ (wFmtD x.word = fmtI32 ∨ wFmtD
    x.word = fmtNONE) ∨ (wFmtA x.word = fmtI32 ∨ wFmtA x.word = fmtNONE) ∧ wFmtD x.word = fmtFP32 → exec (.fcvt
    x) s = .next t → Frame (areas (wordOnly ++ outputAreas)) s t ∧ ∀ c, c ≠ x.core.val → t.core c = s.core c)

/-- The areas each command may touch; a list names what a command of that kind can touch in some state, and the statements of its results say what it touches in each. -/
def Obligations.FramesOfHardwareAndImage : Prop :=
  (∀ (us : Fin 1000), touches (.supplyDip us) [markAreas, [.reg F.CAP_BOARD_STATUS_dip_seen.key]]) ∧
  (∀ (v : BitVec 16), touches (.fieldSupplyLow v) [markAreas, safeAreas, [.reg F.CAP_BOARD_STATUS_dip_seen.key, .reg
    F.FIO_IN_state.key, .board]]) ∧
  (∀ (v : BitVec 16) (levels : Word), touches (.fieldSupplyReturn v levels) [markAreas, [.safe, .reg
    F.CAP_BOARD_STATUS_dip_seen.key, .reg F.FIO_IN_state.key, .reg F.SAFE_STATUS_state.key, .board]]) ∧
  (∀ (g : Fin 4) (low : Bool) (v : BitVec 16), touches (.groupSupplyLow g low v) [markAreas, [.reg
    F.CAP_BOARD_STATUS_dip_seen.key, .board]]) ∧
  (∀ (n : ChanId) (pin24 : Bool), touches (.encSupplyFault n pin24) [markAreas, safeAreas, [.board, .host, .mem,
    .free, .reg (F.HOST_RES_DROP_count 0 0).key, .reg (F.HOST_RES_STATE_ack_reason 0 0).key, .reg
    F.MOT_STATUS_present.key, .reg (F.MOT_CH_STATUS_count_state 0).key, .reg (F.MOT_CH_COUNT_LO_count 0).key,
    .reg (F.MOT_CH_COUNT_HI_count 0).key, .reg (F.MOT_CH_SPEED_speed 0).key]]) ∧
  (∀ (inlet : BitVec 12) (flow : BitVec 8), touches (.coolantOutOfRange inlet flow) [markAreas, [.reg
    F.CAP_BOARD_STATUS_dip_seen.key]]) ∧
  (∀ (junction : BitVec 8), touches (.derated junction) [markAreas, [.board, .reg F.CAP_BOARD_STATUS_dip_seen.key,
    .reg F.PACE_STATUS_pace.key]]) ∧
  (touches .derateGrow [[.board]]) ∧
  (touches .derateShorten [[.board]]) ∧
  (∀ (cause : Fin 3) (junction : BitVec 8) (flow : BitVec 8), touches (.thermalShutdown cause junction flow)
    [markAreas, safeAreas, [.board]]) ∧
  (∀ (which : Fin 3), touches (.thermalConditionCleared which) [markAreas, [.board, .safe, .reg
    F.CAP_BOARD_STATUS_dip_seen.key, .reg F.SAFE_STATUS_state.key]]) ∧
  (∀ (cage : Fin 12) (inserted : Bool), touches (.cageChange cage inserted) [markAreas, [.lane, .safe, .free, .reg
    F.CAP_BOARD_STATUS_dip_seen.key, .reg F.LANE_UP_MASK_up.key, .reg (F.LANE_STATUS_state 0).key, .reg
    (F.LANE_STREAM_next_seq 0 0).key, .reg (F.SAFE_CTX_phase 0).key, .reg (F.LANE_PRBS_ERR_bits 0).key]]) ∧
  (∀ (opened : Bool), touches (.serviceSession opened) [markAreas, [.board]]) ∧
  (∀ (ok : Bool) (digest : BitVec 512), touches (.consoleFirmwareLoad ok digest) [[.board, .keep, .flash, .boot,
    .reg F.PACE_HUBFW_STATUS_state.key]]) ∧
  (∀ (port : Port) (on : Bool), touches (.locateWrite port on) [markAreas, [.reg F.CAP_BOARD_LED_locate.key]]) ∧
  (∀ (t : Telemetry), touches (.boardTelemetryRefresh t) [[.reg F.CAP_BOARD_SUPPLY_v48.key, .reg
    F.CAP_BOARD_POWER_p48.key, .reg F.CAP_BOARD_COOLANT_inlet.key, .reg F.CAP_BOARD_TEMP_die0.key]]) ∧
  (∀ (port : Port), touches (.openLoad port) [markAreas, [.zld, .reg F.ZLD_STATUS_state.key, .reg
    F.ZLD_PROGRESS_bytes.key, .reg (F.ZLD_RESULT_code 0).key]]) ∧
  (∀ (port : Port) (img : ImageFile), touches (.fetch port img) [markAreas, [.zld, .reg F.ZLD_STATUS_state.key,
    .reg F.ZLD_PROGRESS_bytes.key, .reg (F.ZLD_RESULT_code 0).key]]) ∧
  (touches .fetchDone [markAreas, [.flash, .free, .reg F.ZLD_STATUS_state.key, .reg F.ZLD_PROGRESS_bytes.key,
    .reg (F.ZLD_RESULT_code 0).key]]) ∧
  (∀ (port : Port), touches (.commit port) [markAreas, [.zld, .keep, .flash, .boot, .route, .kv, .reg
    F.ZLD_STATUS_state.key, .reg (F.ZLD_RESULT_code 0).key, .reg F.ZLD_ACTIVE_slot.key, .reg
    F.KEEP_STATUS_identity.key, .reg F.KEEP_RATCHET_owner_left.key, .reg (F.KEEP_OWNER_KEY_word 0).key, .reg
    F.KEEP_SIGNERS_count.key, .reg F.SAFE_STATUS_state.key]]) ∧
  (∀ (port : Port), touches (.abort port) [markAreas, [.zld, .flash, .reg F.ZLD_STATUS_state.key, .reg
    (F.ZLD_RESULT_code 0).key]]) ∧
  (touches .zldSessionTimeout [markAreas, [.zld, .flash, .reg F.ZLD_STATUS_state.key]]) ∧
  (touches .opSecondsSave [[.keep, .boot]]) ∧
  (∀ (port : Port) (h : DoeHeader), touches (.getIdentity port h) [markAreas, [.boot]]) ∧
  (∀ (port : Port) (h : DoeHeader), touches (.getMeasurements port h) [markAreas, [.boot]]) ∧
  (∀ (port : Port) (h : DoeHeader) (nonce : BitVec 256), touches (.attest port h nonce) [markAreas, [.boot]]) ∧
  (∀ (port : Port) (h : DoeHeader), touches (.ownerChallenge port h) [markAreas, [.boot, .free]]) ∧
  (∀ (port : Port) (h : DoeHeader) (ok : Bool), touches (.ownerProve port h ok) [markAreas, [.boot, .reg
    (F.HOST_STATUS_port 0).key]]) ∧
  (∀ (port : Port) (h : DoeHeader) (key : BitVec 512) (signers : List (BitVec 512)) (ok : Bool), touches
    (.ownerClaim port h key signers ok) [markAreas, [.keep, .boot, .reg F.ZLD_ACTIVE_slot.key, .reg
    F.KEEP_STATUS_identity.key, .reg F.KEEP_RATCHET_owner_left.key, .reg (F.KEEP_OWNER_KEY_word 0).key, .reg
    F.KEEP_SIGNERS_count.key, .reg (F.HOST_STATUS_port 0).key, .reg F.SAFE_STATUS_state.key]]) ∧
  (∀ (port : Port) (h : DoeHeader) (key : BitVec 512) (signers : List (BitVec 512)) (okOld : Bool) (okNew : Bool),
    touches (.ownerTransfer port h key signers okOld okNew) [markAreas, [.keep, .boot, .reg
    F.ZLD_ACTIVE_slot.key, .reg F.KEEP_STATUS_identity.key, .reg F.KEEP_RATCHET_owner_left.key, .reg
    (F.KEEP_OWNER_KEY_word 0).key, .reg F.KEEP_SIGNERS_count.key, .reg (F.HOST_STATUS_port 0).key, .reg
    F.SAFE_STATUS_state.key]]) ∧
  (∀ (port : Port) (h : DoeHeader) (signers : List (BitVec 512)) (ok : Bool), touches (.ownerSetSigners port h
    signers ok) [markAreas, [.keep, .boot, .reg F.ZLD_ACTIVE_slot.key, .reg F.KEEP_STATUS_identity.key, .reg
    F.KEEP_RATCHET_owner_left.key, .reg (F.KEEP_OWNER_KEY_word 0).key, .reg F.KEEP_SIGNERS_count.key, .reg
    (F.HOST_STATUS_port 0).key, .reg F.SAFE_STATUS_state.key]]) ∧
  (∀ (port : Port) (h : DoeHeader), touches (.getRatchets port h) [markAreas, [.boot]]) ∧
  (∀ (port : Port), touches (.doeAbort port) [[.boot]]) ∧
  (∀ (port : Port), touches (.challengeExpired port) [[.boot]]) ∧
  (∀ (c : Option CoreId) (slip : BitVec 32), touches (.paceMiss c slip) [markAreas, [.reg (F.PACE_MISS_count 0).key,
    .reg F.PACE_HUB_slack.key, .reg (F.PERF_COUNT_LO_count 0 0).key, .reg (F.PERF_COUNT_HI_count 0 0).key, .pace]])
    ∧
  (∀ (ticks : List (List (BitVec 12))) (counts : List (List Nat)) (hub : BitVec 12), touches (.slackWindow ticks counts hub)
    [markAreas, [.keep, .boot, .pace, .reg F.ZLD_ACTIVE_slot.key, .reg F.KEEP_STATUS_identity.key, .reg
    F.KEEP_RATCHET_owner_left.key, .reg (F.KEEP_OWNER_KEY_word 0).key, .reg F.KEEP_SIGNERS_count.key, .reg
    (F.PACE_DIE_voltage 0).key, .reg (F.PACE_SLACK_slack 0).key, .reg F.PACE_HUB_slack.key, .reg
    F.SAFE_STATUS_state.key]]) ∧
  (touches .slackLogWrite [[.flash, .pace]]) ∧
  (touches .planEvaluation [markAreas, [.pace, .reg F.PACE_PLAN_STATUS_minutes_left.key, .reg (F.PACE_SLACK_slack
    0).key]]) ∧
  (∀ (port : Port) (minutes : BitVec 11), touches (.openWindow port minutes) [markAreas, [.pace, .reg
    F.PACE_STATUS_pace.key, .reg F.PACE_PLAN_STATUS_minutes_left.key]]) ∧
  (∀ (port : Port), touches (.closeWindow port) [markAreas, [.pace, .reg F.PACE_STATUS_pace.key, .reg
    F.PACE_PLAN_STATUS_minutes_left.key]]) ∧
  (touches .planWindowExpired [markAreas, [.pace, .reg F.PACE_STATUS_pace.key, .reg
    F.PACE_PLAN_STATUS_minutes_left.key]]) ∧
  (∀ (port : Port), touches (.hubfwLoad port) [markAreas, [.reg F.PACE_HUBFW_STATUS_state.key]]) ∧
  (∀ (ok : Bool) (digest : BitVec 512), touches (.hubfwVerified ok digest) [markAreas, [.keep, .flash, .boot, .reg
    F.PACE_HUBFW_STATUS_state.key]]) ∧
  (∀ (port : Port), touches (.handover port) [markAreas, [.reg F.PACE_HUBFW_STATUS_state.key]]) ∧
  (touches .handoverDone [markAreas, [.boot, .reg F.KEEP_STATUS_identity.key, .reg F.PACE_HUBFW_STATUS_state.key,
    .pace]]) ∧
  (∀ (port : Port), touches (.confirm port) [markAreas, [.keep, .boot, .reg F.PACE_HUBFW_STATUS_state.key]]) ∧
  (∀ (port : Port), touches (.hubfwAbort port) [markAreas, [.keep, .boot, .reg F.PACE_HUBFW_STATUS_state.key]]) ∧
  (touches .standbyExpired [[.reg F.PACE_HUBFW_STATUS_state.key]]) ∧
  (touches .handoverFailed [markAreas, [.boot, .reg F.KEEP_STATUS_identity.key, .reg
    F.PACE_HUBFW_STATUS_state.key]]) ∧
  (∀ (locked : Bool) (cause : BitVec 32), touches (.metronomeUnlocked locked cause) [markAreas, [.reg
    F.PACE_STATUS_pace.key]]) ∧
  (∀ (n : ChanId) (pin24 : Bool), touches (.encSupplyRestored n pin24) [[.board, .motion]]) ∧
  (∀ (r : BootReport) (s t : State), exec (.powerUp r) s = .next t → t.variant = s.variant ∧ t.pending = s.pending
    ∧ Keep.spent s.keep t.keep ∧ t.flash = s.flash ∧ t.keep.owner = (s.readKeep r.torn).keep.owner ∧ t.keep.lock
    = (s.readKeep r.torn).keep.lock ∨ exec (.powerUp r) s = .next s) ∧
  (∀ (r : BootReport) (s t : State), exec (.overvoltageRestart r) s = .next t → t.variant = s.variant ∧ t.pending =
    s.pending ∧ Keep.spent s.keep t.keep ∧ t.flash = s.flash ∧ t.keep.owner = (s.readKeep r.torn).keep.owner ∧
    t.keep.lock = (s.readKeep r.torn).keep.lock ∨ exec (.overvoltageRestart r) s = .next s) ∧
  (∀ (i : Port) (r : BootReport) (s t : State), exec (.restart i r) s = .next t → t.variant = s.variant ∧ t.pending
    = s.pending ∧ t.keep.ownerLeft = s.keep.ownerLeft ∧ t.keep.epoch = s.keep.epoch ∧ t.keep.safetyLeft =
    s.keep.safetyLeft ∧ t.keep.owner = s.keep.owner ∧ t.keep.lock = s.keep.lock ∧ t.keep.baseline =
    s.keep.baseline ∧ t.keep.cycles = s.keep.cycles ∧ t.flash.fw = s.flash.fw) ∧
  (∀ (v : BitVec 16) (s t : State), exec (.brownOut v) s = .next t → t.variant = s.variant ∧ t.pending = s.pending
    ∧ t.flash = s.flash ∧ t.cores.fence = s.cores.fence ∧ t.integ.retired = s.integ.retired ∧ t.keep =
    { s.keep with cycles := t.keep.cycles, seconds := t.keep.seconds }) ∧
  (∀ (v : BitVec 16) (s t : State), exec (.overVoltage v) s = .next t → t.variant = s.variant ∧ t.pending =
    s.pending ∧ t.flash = s.flash ∧ t.cores.fence = s.cores.fence ∧ t.integ.retired = s.integ.retired ∧ t.keep =
    { s.keep with cycles := t.keep.cycles, seconds := t.keep.seconds })

/-- The areas each command may touch; a list names what a command of that kind can touch in some state, and the statements of its results say what it touches in each. -/
def Obligations.FramesOfRoutesAndCompute : Prop :=
  (∀ (p : Part), touches (.reloadTimeout p) [markAreas, [.cfg, .zld, .route, .kv, .motion, .host, .mem, .free, .reg
    (F.ROUTE_PAGES_held 0).key, .reg (F.HOST_RES_DROP_count 0 0).key, .reg (F.HOST_RES_STATE_ack_reason 0 0).key,
    .reg F.KV_STATUS_pool_total.key, .reg (F.KV_POOL_pages 0).key, .reg (F.KV_FREE_pages 0).key, .reg
    (F.KV_CHARGE_pages 0).key, .reg (F.KV_LIMBO_pages 0).key, .reg (F.KV_GEN_current 0).key, .reg
    (F.KV_GEN_HELD_oldest 0).key, .reg (F.KV_SEQ_live 0).key, .reg (F.KV_WAIT_joins 0).key, .reg (F.MOT_CH_MP_armed
    0).key, .reg (F.MOT_CH_CANCELLED_count 0).key, .reg (F.MOT_CH_LATE_count 0).key, .reg (F.MOT_CH_FIRED_count
    0).key, .reg (F.MOT_CH_SUPPRESSED_count 0).key]]) ∧
  (∀ (x : PeriodIn), touches (.periodBoundary x) [markAreas, safeAreas, [.cfg, .board, .zld, .pace, .cores, .exec,
    .route, .kv, .isp, .ingest, .time, .host, .integ, .mem, .clk, .free, .perf, .reg F.CAP_HBM_AVAIL_pages.key, .reg
    F.CAP_ENGINES_spare_left.key, .reg F.CAP_BOARD_STATUS_dip_seen.key, .reg F.ZLD_STATUS_state.key, .reg
    F.ZLD_BUILD_build.key, .reg (F.ZLD_DIGEST_word 0).key, .reg (F.ZLD_OVERLAY_present 0).key, .reg
    F.ZLD_LANDED_period.key, .reg F.PACE_STATUS_pace.key, .reg F.PACE_PLAN_STATUS_minutes_left.key, .reg
    (F.PACE_DIE_voltage 0).key, .reg (F.PACE_OVERRUN_count 0).key, .reg F.ROUTE_STATUS_builder_running.key, .reg
    F.ROUTE_PERIOD_LO_number.key, .reg F.ROUTE_PERIOD_HI_number.key, .reg (F.ROUTE_PART_criticality 0).key, .reg
    (F.ROUTE_PAGES_held 0).key, .reg (F.ROUTE_BW_share 0).key, .reg (F.ROUTE_PENDING_quota 0).key, .reg
    (F.ROUTE_JOB_state 0).key, .reg (F.ROUTE_SLOWDOWN_slowdown 0).key, .reg (F.ROUTE_BASELINE_ns 0).key, .reg
    (F.ROUTE_WIN_START_tick 0).key, .reg (F.ROUTE_WIN_LEN_ticks 0).key, .reg (F.HOST_RES_SEQ_next 0 0).key, .reg
    (F.HOST_RES_DROP_count 0 0).key, .reg (F.HOST_RES_STATE_ack_reason 0 0).key, .reg (F.HOST_MBOX_DONE_number 0
    0).key, .reg F.INGEST_STATUS_decoders_busy.key, .reg (F.INGEST_Q_STATE_state 0).key, .reg
    (F.INGEST_Q_BATCHES_closed 0).key, .reg (F.INGEST_Q_VOID_count 0 0 0).key, .reg F.KV_STATUS_pool_total.key, .reg
    (F.KV_POOL_pages 0).key, .reg (F.KV_FREE_pages 0).key, .reg (F.KV_CHARGE_pages 0).key, .reg (F.KV_LIMBO_pages
    0).key, .reg (F.KV_GEN_current 0).key, .reg (F.KV_GEN_HELD_oldest 0).key, .reg (F.KV_SEQ_live 0).key, .reg
    (F.KV_WAIT_joins 0).key, .reg (F.KV_WALKER_failed 0).key, .reg (F.MOT_CH_CANCELLED_count 0).key, .reg
    (F.MOT_CH_LATE_count 0).key, .reg (F.FIO_OUT_CFG_claimed 0).key, .reg F.TIME_STATUS_state.key, .reg
    F.TIME_FREQ_ppb.key, .reg F.TIME_START_PENDING_mask.key, .reg (F.TIME_LQ_depth 0).key, .reg
    (F.TIME_LQ_SENT_count 0).key, .reg (F.TIME_LQ_LATE_late 0).key, .reg F.SAFE_DTI_ms.key, .reg (F.SAFE_WDOG_misses
    0).key, .reg F.INTEG_HBM_poisoned.key, .reg (F.INTEG_RECOMP_fraction 0).key, .reg (F.INTEG_TRIP_value 0).key,
    .reg (F.INTEG_TRIP_COPY_word 0 0).key, .reg F.PERF_STATUS_snapshot_valid.key, .reg
    F.PERF_SNAP_PERIOD_number.key, .reg (F.PERF_TICK_LO_ticks 0).key, .reg (F.PERF_TICK_HI_ticks 0).key, .reg
    (F.PERF_COUNT_LO_count 0 0).key, .reg (F.PERF_COUNT_HI_count 0 0).key, .reg (F.PERF_EVENT_event 0 0).key, .reg
    (F.PERF_SNAP_TICK_LO_ticks 0).key, .reg (F.PERF_SNAP_TICK_HI_ticks 0).key, .reg (F.PERF_SNAP_LO_count 0 0).key,
    .reg (F.PERF_SNAP_HI_count 0 0).key, .reg (F.CORE_ID_physical 0).key, .reg (F.CORE_STATUS_partition 0).key, .reg
    (F.CORE_CLUSTER_spare_left 0).key, .reg (F.CORE_MAP_physical 0).key, .reg (F.ROUTE_ITER_count 0).key, .reg
    (F.MOT_CH_FIRED_count 0).key, .reg (F.MOT_CH_SUPPRESSED_count 0).key, .reg (F.PACE_BRIDGE_full 0).key, .reg
    (F.ROUTE_DEFER_legs 0).key]]) ∧
  (∀ (c : CoreId), touches (.coreHang c) [markAreas, [.cores, .exec, .reg (F.CORE_ID_physical 0).key, .reg
    (F.CORE_STATUS_partition 0).key, .reg (F.CORE_FAIL_cause 0).key, .reg (F.CORE_CLUSTER_spare_left 0).key, .route,
    .mem]]) ∧
  (∀ (port : Port) (c : CoreId), touches (.detourRequest port c) [markAreas, [.cores, .exec, .reg
    (F.CORE_ID_physical 0).key, .reg (F.CORE_STATUS_partition 0).key, .reg (F.CORE_FAIL_cause 0).key, .reg
    (F.CORE_CLUSTER_spare_left 0).key, .route, .mem]]) ∧
  (∀ (port : Port) (c : CoreId), touches (.fenceClear port c) [markAreas, [.cores]]) ∧
  (∀ (x : Issue), touches (.nop x) [wordAreas, markAreas]) ∧
  (∀ (x : Issue), touches (.mload x) [wordAreas, operandAreas, markAreas]) ∧
  (∀ (x : Issue), touches (.mswap x) [wordAreas, markAreas]) ∧
  (∀ (x : Issue), touches (.mma x) [wordAreas, operandAreas, markAreas]) ∧
  (∀ (x : Issue), touches (.aclr x) [wordAreas, markAreas]) ∧
  (∀ (x : Issue), touches (.abias x) [wordAreas, operandAreas, markAreas]) ∧
  (∀ (x : Issue), touches (.ascale x) [wordAreas, operandAreas, markAreas]) ∧
  (∀ (x : Issue), touches (.adrain x) [wordAreas, markAreas]) ∧
  (∀ (x : Issue), touches (.asave x) [wordAreas, markAreas]) ∧
  (∀ (x : Issue), touches (.arestore x) [wordAreas, operandAreas, markAreas]) ∧
  (∀ (x : Issue), touches (.vadd x) [wordAreas, operandAreas, markAreas]) ∧
  (∀ (x : Issue), touches (.vsub x) [wordAreas, operandAreas, markAreas]) ∧
  (∀ (x : Issue), touches (.vmul x) [wordAreas, operandAreas, markAreas]) ∧
  (∀ (x : Issue), touches (.vfma x) [wordAreas, operandAreas, markAreas]) ∧
  (∀ (x : Issue), touches (.vdiv x) [wordAreas, operandAreas, markAreas]) ∧
  (∀ (x : Issue), touches (.vmin x) [wordAreas, operandAreas, markAreas]) ∧
  (∀ (x : Issue), touches (.vmax x) [wordAreas, operandAreas, markAreas]) ∧
  (∀ (x : Issue), touches (.vabs x) [wordAreas, operandAreas, markAreas]) ∧
  (∀ (x : Issue), touches (.vneg x) [wordAreas, operandAreas, markAreas]) ∧
  (∀ (x : Issue), touches (.vcmp x) [wordAreas, operandAreas, markAreas]) ∧
  (∀ (x : Issue), touches (.vsel x) [wordAreas, operandAreas, markAreas]) ∧
  (∀ (x : Issue), touches (.vcvt x) [wordAreas, operandAreas, markAreas]) ∧
  (∀ (x : Issue), touches (.vlogic x) [wordAreas, operandAreas, markAreas]) ∧
  (∀ (x : Issue), touches (.vshift x) [wordAreas, operandAreas, markAreas]) ∧
  (∀ (x : Issue), touches (.vadds x) [wordAreas, operandAreas, markAreas]) ∧
  (∀ (x : Issue), touches (.vsubs x) [wordAreas, operandAreas, markAreas]) ∧
  (∀ (x : Issue), touches (.vfunc x) [wordAreas, operandAreas, markAreas]) ∧
  (∀ (x : Issue), touches (.vred x) [wordAreas, operandAreas, markAreas]) ∧
  (∀ (x : Issue), touches (.vasum x) [wordAreas, operandAreas, markAreas]) ∧
  (∀ (x : Issue), touches (.vmov x) [wordAreas, operandAreas, markAreas]) ∧
  (∀ (x : Issue), touches (.add x) [wordAreas, markAreas]) ∧
  (∀ (x : Issue), touches (.sub x) [wordAreas, markAreas]) ∧
  (∀ (x : Issue), touches (.mul x) [wordAreas, markAreas]) ∧
  (∀ (x : Issue), touches (.and x) [wordAreas, markAreas]) ∧
  (∀ (x : Issue), touches (.or x) [wordAreas, markAreas]) ∧
  (∀ (x : Issue), touches (.xor x) [wordAreas, markAreas]) ∧
  (∀ (x : Issue), touches (.shl x) [wordAreas, markAreas]) ∧
  (∀ (x : Issue), touches (.shr x) [wordAreas, markAreas]) ∧
  (∀ (x : Issue), touches (.sar x) [wordAreas, markAreas]) ∧
  (∀ (x : Issue), touches (.slt x) [wordAreas, markAreas]) ∧
  (∀ (x : Issue), touches (.ldi x) [wordAreas, markAreas]) ∧
  (∀ (x : Issue), touches (.div x) [wordAreas, markAreas]) ∧
  (∀ (x : Issue), touches (.rem x) [wordAreas, markAreas]) ∧
  (∀ (x : Issue), touches (.ld x) [wordAreas, operandAreas, markAreas]) ∧
  (∀ (x : Issue), touches (.st x) [wordAreas, markAreas]) ∧
  (∀ (x : Issue), touches (.fadd x) [wordAreas, markAreas]) ∧
  (∀ (x : Issue), touches (.fsub x) [wordAreas, markAreas]) ∧
  (∀ (x : Issue), touches (.fmul x) [wordAreas, markAreas]) ∧
  (∀ (x : Issue), touches (.ffma x) [wordAreas, markAreas]) ∧
  (∀ (x : Issue), touches (.fdiv x) [wordAreas, markAreas]) ∧
  (∀ (x : Issue), touches (.fsqrt x) [wordAreas, markAreas]) ∧
  (∀ (x : Issue), touches (.fcvt x) [wordAreas, markAreas]) ∧
  (∀ (x : Issue), touches (.rdv x) [wordAreas, markAreas]) ∧
  (∀ (x : Issue), touches (.loop x) [wordAreas, markAreas]) ∧
  (∀ (x : Issue), touches (.waitt x) [wordAreas, markAreas]) ∧
  (∀ (c : CoreId), touches (.waittComplete c) [markAreas, [.cfg, .zld, .exec, .route, .kv, .motion, .host, .integ,
    .mem, .free, .reg F.ROUTE_STATUS_builder_running.key, .reg (F.ROUTE_PART_criticality 0).key, .reg
    (F.ROUTE_PAGES_held 0).key, .reg (F.ROUTE_JOB_state 0).key, .reg (F.ROUTE_SLOWDOWN_slowdown 0).key, .reg
    (F.ROUTE_BASELINE_ns 0).key, .reg (F.ROUTE_ITER_count 0).key, .reg (F.HOST_RES_DROP_count 0 0).key, .reg
    (F.HOST_RES_STATE_ack_reason 0 0).key, .reg F.KV_STATUS_pool_total.key, .reg (F.KV_POOL_pages 0).key, .reg
    (F.KV_FREE_pages 0).key, .reg (F.KV_CHARGE_pages 0).key, .reg (F.KV_LIMBO_pages 0).key, .reg (F.KV_GEN_current
    0).key, .reg (F.KV_GEN_HELD_oldest 0).key, .reg (F.KV_SEQ_live 0).key, .reg (F.KV_WAIT_joins 0).key, .reg
    (F.MOT_CH_MP_armed 0).key, .reg (F.MOT_CH_CANCELLED_count 0).key, .reg (F.MOT_CH_LATE_count 0).key, .reg
    F.INTEG_HBM_poisoned.key, .reg (F.CORE_STATUS_partition 0).key, .reg (F.MOT_CH_FIRED_count 0).key, .reg
    (F.MOT_CH_SUPPRESSED_count 0).key, .cores]]) ∧
  (∀ (c : CoreId), touches (.vergeTimeout c) [markAreas, [.cfg, .zld, .exec, .route, .kv, .motion, .host, .mem,
    .free, .reg F.ROUTE_STATUS_builder_running.key, .reg (F.ROUTE_PART_criticality 0).key, .reg (F.ROUTE_PAGES_held
    0).key, .reg (F.ROUTE_JOB_state 0).key, .reg (F.ROUTE_SLOWDOWN_slowdown 0).key, .reg (F.ROUTE_BASELINE_ns
    0).key, .reg (F.ROUTE_ITER_count 0).key, .reg (F.HOST_RES_DROP_count 0 0).key, .reg (F.HOST_RES_STATE_ack_reason
    0 0).key, .reg F.KV_STATUS_pool_total.key, .reg (F.KV_POOL_pages 0).key, .reg (F.KV_FREE_pages 0).key, .reg
    (F.KV_CHARGE_pages 0).key, .reg (F.KV_LIMBO_pages 0).key, .reg (F.KV_GEN_current 0).key, .reg
    (F.KV_GEN_HELD_oldest 0).key, .reg (F.KV_SEQ_live 0).key, .reg (F.KV_WAIT_joins 0).key, .reg (F.MOT_CH_MP_armed
    0).key, .reg (F.MOT_CH_CANCELLED_count 0).key, .reg (F.MOT_CH_LATE_count 0).key, .reg (F.CORE_STATUS_partition
    0).key, .reg (F.MOT_CH_FIRED_count 0).key, .reg (F.MOT_CH_SUPPRESSED_count 0).key, .cores]]) ∧
  (∀ (x : Issue), touches (.signal x) [wordAreas, markAreas]) ∧
  (∀ (x : Issue), touches (.transfer x) [wordAreas, operandAreas, markAreas]) ∧
  (∀ (x : Issue), touches (.erun x) [wordAreas, operandAreas, markAreas]) ∧
  (∀ (x : Issue), touches (.prun x) [wordAreas, operandAreas, markAreas]) ∧
  (∀ (c : CoreId), touches (.edgeCallComplete c) [markAreas, [.exec, .route, .kv, .motion, .host, .integ, .mem,
    .free, .reg (F.HOST_RES_DROP_count 0 0).key, .reg (F.HOST_RES_STATE_ack_reason 0 0).key, .reg (F.MOT_CH_MP_armed
    0).key, .reg (F.MOT_CH_CANCELLED_count 0).key, .reg (F.MOT_CH_LATE_count 0).key, .reg F.INTEG_HBM_poisoned.key,
    .reg (F.PERF_COUNT_LO_count 0 0).key, .reg (F.PERF_COUNT_HI_count 0 0).key, .reg (F.MOT_CH_FIRED_count 0).key,
    .reg (F.MOT_CH_SUPPRESSED_count 0).key]]) ∧
  (∀ (x : Issue), touches (.gatherKv x) [wordAreas, operandAreas, markAreas, [.reg (F.KV_WALKER_failed 0).key]]) ∧
  (∀ (x : Issue), touches (.writeKv x) [wordAreas, operandAreas, markAreas, [.reg (F.KV_WALKER_failed 0).key]]) ∧
  (∀ (c : CoreId), touches (.walkCallComplete c) [markAreas, [.exec, .route, .kv, .motion, .host, .integ, .mem,
    .free, .reg (F.HOST_RES_DROP_count 0 0).key, .reg (F.HOST_RES_STATE_ack_reason 0 0).key, .reg (F.MOT_CH_MP_armed
    0).key, .reg (F.MOT_CH_CANCELLED_count 0).key, .reg (F.MOT_CH_LATE_count 0).key, .reg F.INTEG_HBM_poisoned.key,
    .reg (F.PERF_COUNT_LO_count 0 0).key, .reg (F.PERF_COUNT_HI_count 0 0).key, .reg (F.MOT_CH_FIRED_count 0).key,
    .reg (F.MOT_CH_SUPPRESSED_count 0).key]]) ∧
  (∀ (x : Issue), touches (.gather x) [wordAreas, operandAreas, markAreas]) ∧
  (∀ (x : Issue), touches (.scatter x) [wordAreas, operandAreas, markAreas]) ∧
  (∀ (x : Issue), touches (.segred x) [wordAreas, operandAreas, markAreas]) ∧
  (∀ (x : Issue), touches (.scan x) [wordAreas, operandAreas, markAreas]) ∧
  (∀ (x : Issue), touches (.compact x) [wordAreas, operandAreas, markAreas]) ∧
  (∀ (x : Issue), touches (.sort x) [wordAreas, operandAreas, markAreas]) ∧
  (∀ (x : Issue), touches (.merge x) [wordAreas, operandAreas, markAreas]) ∧
  (∀ (x : Issue), touches (.topk x) [wordAreas, operandAreas, markAreas]) ∧
  (∀ (x : Issue), touches (.unique x) [wordAreas, operandAreas, markAreas]) ∧
  (∀ (x : Issue), touches (.label x) [wordAreas, operandAreas, markAreas]) ∧
  (∀ (x : Issue), touches (.graphCc x) [wordAreas, operandAreas, markAreas]) ∧
  (∀ (x : Issue), touches (.expand x) [wordAreas, operandAreas, markAreas]) ∧
  (∀ (c : CoreId), touches (.irregCallComplete c) [markAreas, [.exec, .route, .kv, .motion, .host, .integ, .mem,
    .free, .reg (F.HOST_RES_DROP_count 0 0).key, .reg (F.HOST_RES_STATE_ack_reason 0 0).key, .reg (F.MOT_CH_MP_armed
    0).key, .reg (F.MOT_CH_CANCELLED_count 0).key, .reg (F.MOT_CH_LATE_count 0).key, .reg F.INTEG_HBM_poisoned.key,
    .reg (F.PERF_COUNT_LO_count 0 0).key, .reg (F.PERF_COUNT_HI_count 0 0).key, .reg (F.MOT_CH_FIRED_count 0).key,
    .reg (F.MOT_CH_SUPPRESSED_count 0).key]]) ∧
  (∀ (x : Issue), touches (.cappend x) [wordAreas, operandAreas, markAreas]) ∧
  (∀ (x : Issue), touches (.ccheck x) [wordAreas, operandAreas, markAreas]) ∧
  (∀ (x : Issue), touches (.cstrip x) [wordAreas, operandAreas, markAreas]) ∧
  (∀ (x : Issue), touches (.crange x) [wordAreas, operandAreas, markAreas]) ∧
  (∀ (x : Issue), touches (.ccompare x) [wordAreas, operandAreas, markAreas]) ∧
  (∀ (c : CoreId) (block : Option SeamBlock), touches (.checkCallComplete c block) [markAreas, [.exec, .route, .kv,
    .motion, .peer, .host, .integ, .mem, .free, .reg (F.HOST_RES_DROP_count 0 0).key, .reg
    (F.HOST_RES_STATE_ack_reason 0 0).key, .reg (F.MOT_CH_MP_armed 0).key, .reg (F.MOT_CH_CANCELLED_count 0).key,
    .reg (F.MOT_CH_LATE_count 0).key, .reg (F.PEER_RESEND_naks 0).key, .reg (F.INTEG_TRACE_TAIL_pos 0).key, .reg
    (F.INTEG_TRACE_DROP_count 0).key, .reg F.INTEG_HBM_poisoned.key, .reg (F.INTEG_RECOMP_FAULT_mismatches 0).key,
    .reg (F.INTEG_SEAM_blocks 0).key, .reg (F.INTEG_SEAM_FAULT_mismatches 0).key, .reg (F.PERF_COUNT_LO_count 0
    0).key, .reg (F.PERF_COUNT_HI_count 0 0).key, .reg (F.MOT_CH_FIRED_count 0).key, .reg (F.MOT_CH_SUPPRESSED_count
    0).key]]) ∧
  (∀ (port : Port) (p : Part) (target : BitVec 19), touches (.prefixRetire port p target) [markAreas, [.kv, .reg
    (F.KV_CMD_STATUS_code 0).key, .reg (F.KV_CMD_STATUS2_generation 0).key]]) ∧
  (∀ (port : Port) (p : Part) (target : BitVec 19), touches (.seqEnd port p target) [markAreas, [.kv, .motion,
    .host, .mem, .free, .reg (F.HOST_RES_DROP_count 0 0).key, .reg (F.HOST_RES_STATE_ack_reason 0 0).key, .reg
    (F.KV_CMD_STATUS_code 0).key, .reg (F.KV_CMD_STATUS2_generation 0).key, .reg (F.MOT_CH_MP_armed 0).key, .reg
    (F.MOT_CH_CANCELLED_count 0).key, .reg (F.MOT_CH_LATE_count 0).key, .reg (F.MOT_CH_FIRED_count 0).key, .reg
    (F.MOT_CH_SUPPRESSED_count 0).key]]) ∧
  (∀ (port : Port) (p : Part) (target : BitVec 19), touches (.pageQuery port p target) [markAreas, [.reg
    (F.KV_CMD_STATUS_code 0).key, .reg (F.KV_CMD_STATUS2_generation 0).key]]) ∧
  (∀ (port : Port) (p : Part) (t : BitVec 8), touches (.admitTemplate port p t) [markAreas, [.route, .reg
    F.ROUTE_STATUS_builder_running.key, .reg (F.ROUTE_CMD_STATUS_code 0).key, .reg (F.ROUTE_CMD_STATUS2_period
    0).key, .reg (F.ROUTE_PART_criticality 0).key, .reg (F.ROUTE_PAGES_held 0).key, .reg (F.ROUTE_JOB_state
    0).key, .reg (F.ROUTE_TOLL_LO_ticks 0).key, .reg (F.ROUTE_TOLL_HI_ticks 0).key, .reg
    (F.ROUTE_SLOWDOWN_slowdown 0).key, .reg (F.ROUTE_BASELINE_ns 0).key, .reg (F.ROUTE_ITER_count 0).key, .reg
    (F.ROUTE_DEFERRED_legs 0).key]]) ∧
  (∀ (port : Port) (p : Part) (j : BitVec 8), touches (.retire port p j) [markAreas, [.route, .reg
    (F.ROUTE_CMD_STATUS_code 0).key, .reg (F.ROUTE_CMD_STATUS2_period 0).key, .reg (F.ROUTE_JOB_state 0).key]]) ∧
  (∀ (port : Port) (p : Part) (j : BitVec 8), touches (.setWeight port p j) [markAreas, [.route, .reg
    (F.ROUTE_CMD_STATUS_code 0).key, .reg (F.ROUTE_CMD_STATUS2_period 0).key, .reg (F.ROUTE_PENDING_quota
    0).key, .reg (F.ROUTE_JOB_state 0).key]]) ∧
  (∀ (port : Port) (p : Part) (j : BitVec 8), touches (.measureSolo port p j) [markAreas, [.route, .reg
    (F.ROUTE_CMD_STATUS_code 0).key, .reg (F.ROUTE_CMD_STATUS2_period 0).key]]) ∧
  (∀ (port : Port) (p : Part), touches (.setQuota port p) [markAreas, [.kv, .reg (F.ROUTE_CMD_STATUS_code 0).key,
    .reg (F.ROUTE_CMD_STATUS2_period 0).key, .reg (F.ROUTE_PART_criticality 0).key, .reg (F.ROUTE_QUOTA_pages
    0).key, .reg (F.ROUTE_PAGES_held 0).key, .reg F.KV_STATUS_pool_total.key, .reg (F.KV_POOL_pages 0).key, .reg
    (F.KV_FREE_pages 0).key, .reg (F.KV_CHARGE_pages 0).key, .reg (F.KV_LIMBO_pages 0).key, .reg
    (F.KV_GEN_HELD_oldest 0).key, .reg (F.KV_SEQ_live 0).key, .reg (F.KV_WAIT_joins 0).key]]) ∧
  (∀ (port : Port) (p : Part), touches (.setBandwidth port p) [markAreas, [.route, .reg (F.ROUTE_CMD_STATUS_code
    0).key, .reg (F.ROUTE_CMD_STATUS2_period 0).key, .reg (F.ROUTE_PENDING_quota 0).key]]) ∧
  (∀ (port : Port) (p : Part) (l : BitVec 8), touches (.setWindow port p l) [markAreas, [.route, .reg
    (F.ROUTE_CMD_STATUS_code 0).key, .reg (F.ROUTE_CMD_STATUS2_period 0).key, .reg (F.ROUTE_PENDING_quota
    0).key]]) ∧
  (touches .buildStart [markAreas, [.zld, .cores, .route, .kv, .motion, .host, .mem, .free, .reg
    F.ROUTE_STATUS_builder_running.key, .reg (F.ROUTE_PART_criticality 0).key, .reg (F.ROUTE_FIT_ticks 0).key, .reg
    (F.HOST_RES_SEQ_next 0 0).key, .reg (F.HOST_RES_DROP_count 0 0).key, .reg (F.HOST_RES_STATE_ack_reason 0 0).key,
    .reg (F.KV_WALKER_failed 0).key, .reg (F.MOT_CH_MP_armed 0).key, .reg (F.MOT_CH_CANCELLED_count 0).key, .reg
    (F.MOT_CH_LATE_count 0).key, .reg (F.CORE_ID_physical 0).key, .reg (F.MOT_CH_FIRED_count 0).key, .reg
    (F.MOT_CH_SUPPRESSED_count 0).key]]) ∧
  (touches .buildComplete [markAreas, [.route, .motion, .host, .safe, .mem, .free, .reg (F.ROUTE_TOLL_LO_ticks
    0).key, .reg (F.ROUTE_TOLL_HI_ticks 0).key, .reg (F.ROUTE_DEFERRED_legs 0).key, .reg (F.HOST_RES_DROP_count 0
    0).key, .reg (F.HOST_RES_STATE_ack_reason 0 0).key, .reg (F.MOT_CH_MP_armed 0).key, .reg
    (F.MOT_CH_CANCELLED_count 0).key, .reg (F.MOT_CH_LATE_count 0).key, .reg (F.SAFE_WDOG_misses 0).key, .reg
    (F.INTEG_RECOMP_LEGS_count 0).key, .reg (F.MOT_CH_FIRED_count 0).key, .reg (F.MOT_CH_SUPPRESSED_count 0).key]])
    ∧
  (∀ (c : CoreId) (k : Fin 256) (r : LegReport), touches (.legComplete c k r) [markAreas, [.cfg, .zld, .cores,
    .exec, .route, .kv, .motion, .host, .safe, .integ, .mem, .free, .reg F.ROUTE_STATUS_builder_running.key, .reg
    (F.ROUTE_PART_criticality 0).key, .reg (F.ROUTE_PAGES_held 0).key, .reg (F.ROUTE_JOB_state 0).key, .reg
    (F.ROUTE_SLOWDOWN_slowdown 0).key, .reg (F.ROUTE_BASELINE_ns 0).key, .reg (F.ROUTE_ITER_count 0).key, .reg
    (F.HOST_RES_SEQ_next 0 0).key, .reg (F.HOST_RES_DROP_count 0 0).key, .reg (F.HOST_RES_STATE_ack_reason 0 0).key,
    .reg F.KV_STATUS_pool_total.key, .reg (F.KV_POOL_pages 0).key, .reg (F.KV_FREE_pages 0).key, .reg
    (F.KV_CHARGE_pages 0).key, .reg (F.KV_LIMBO_pages 0).key, .reg (F.KV_GEN_current 0).key, .reg
    (F.KV_GEN_HELD_oldest 0).key, .reg (F.KV_SEQ_live 0).key, .reg (F.KV_WAIT_joins 0).key, .reg (F.MOT_CH_MP_armed
    0).key, .reg (F.MOT_CH_CANCELLED_count 0).key, .reg (F.MOT_CH_LATE_count 0).key, .reg (F.PEER_MISSING_rows
    0).key, .reg (F.SAFE_WDOG_misses 0).key, .reg (F.INTEG_TRACE_TAIL_pos 0).key, .reg (F.INTEG_TRACE_DROP_count
    0).key, .reg (F.INTEG_RECOMP_FAULT_mismatches 0).key, .reg (F.PERF_COUNT_LO_count 0 0).key, .reg
    (F.PERF_COUNT_HI_count 0 0).key, .reg (F.CORE_ID_physical 0).key, .reg (F.CORE_STATUS_partition 0).key, .reg
    (F.CORE_FAIL_cause 0).key, .reg (F.CORE_CLUSTER_spare_left 0).key, .reg (F.MOT_CH_FIRED_count 0).key, .reg
    (F.MOT_CH_SUPPRESSED_count 0).key]])

/-- The areas each command may touch; a list names what a command of that kind can touch in some state, and the statements of its results say what it touches in each. -/
def Obligations.FramesOfCamerasAndMotion : Prop :=
  (∀ (port : Port) (n : LaneId), touches (.laneRetrain port n) [markAreas, [.lane, .safe, .reg
    F.LANE_UP_MASK_up.key, .reg (F.LANE_STATUS_state 0).key, .reg (F.LANE_STREAM_next_seq 0 0).key, .reg
    (F.SAFE_CTX_phase 0).key, .free, .reg (F.LANE_PRBS_ERR_bits 0).key]]) ∧
  (∀ (port : Port) (n : LaneId) (loop : BitVec 2), touches (.laneLoop port n loop) [markAreas, [.lane, .safe, .reg
    F.LANE_UP_MASK_up.key, .reg (F.LANE_STATUS_state 0).key, .reg (F.LANE_STREAM_next_seq 0 0).key, .reg
    (F.SAFE_CTX_phase 0).key, .free, .reg (F.LANE_PRBS_ERR_bits 0).key]]) ∧
  (∀ (port : Port) (n : LaneId) (prbs : BitVec 2), touches (.lanePrbs port n prbs) [markAreas, [.lane, .safe, .reg
    F.LANE_UP_MASK_up.key, .reg (F.LANE_STATUS_state 0).key, .reg (F.LANE_STREAM_next_seq 0 0).key, .reg
    (F.SAFE_CTX_phase 0).key, .free, .reg (F.LANE_PRBS_ERR_bits 0).key]]) ∧
  (∀ (port : Port) (n : LaneId), touches (.clearTest port n) [markAreas, [.lane, .safe, .reg F.LANE_UP_MASK_up.key,
    .reg (F.LANE_STATUS_state 0).key, .reg (F.LANE_STREAM_next_seq 0 0).key, .reg (F.SAFE_CTX_phase 0).key, .free,
    .reg (F.LANE_PRBS_ERR_bits 0).key]]) ∧
  (∀ (port : Port) (n : LaneId), touches (.laneDisable port n) [markAreas, [.lane, .safe, .reg
    F.LANE_UP_MASK_up.key, .reg (F.LANE_STATUS_state 0).key, .reg (F.LANE_STREAM_next_seq 0 0).key, .reg
    (F.SAFE_CTX_phase 0).key, .free, .reg (F.LANE_PRBS_ERR_bits 0).key]]) ∧
  (∀ (port : Port) (n : LaneId), touches (.laneEnable port n) [markAreas, [.lane, .safe, .reg F.LANE_UP_MASK_up.key,
    .reg (F.LANE_STATUS_state 0).key, .reg (F.LANE_STREAM_next_seq 0 0).key, .reg (F.SAFE_CTX_phase 0).key, .free,
    .reg (F.LANE_PRBS_ERR_bits 0).key]]) ∧
  (∀ (n : LaneId), touches (.laneRefWaitDone n) [[.reg (F.LANE_STATUS_state 0).key]]) ∧
  (∀ (n : LaneId), touches (.blockLock n) [[.reg (F.LANE_STATUS_state 0).key, .lane]]) ∧
  (∀ (n : LaneId) (w : BitVec 256), touches (.trainingWord n w) [markAreas, [.boot, .lane, .reg
    F.KEEP_STATUS_identity.key, .reg F.KEEP_SELFTEST_failed_cores.key, .reg (F.LANE_STATUS_state 0).key]]) ∧
  (∀ (n : LaneId), touches (.laneUp n) [markAreas, [.lane, .reg F.KEEP_STATUS_identity.key, .reg
    F.KEEP_SELFTEST_failed_cores.key, .reg F.LANE_UP_MASK_up.key, .reg (F.LANE_STATUS_state 0).key, .reg
    (F.LANE_STREAM_next_seq 0 0).key]]) ∧
  (∀ (n : LaneId), touches (.laneTrainTimeout n) [markAreas, [.boot, .reg F.KEEP_STATUS_identity.key, .reg
    F.KEEP_SELFTEST_failed_cores.key, .reg (F.LANE_STATUS_state 0).key]]) ∧
  (∀ (n : LaneId), touches (.laneTrainRetry n) [[.lane, .safe, .reg F.LANE_UP_MASK_up.key, .reg (F.LANE_STATUS_state
    0).key, .reg (F.LANE_STREAM_next_seq 0 0).key, .reg (F.SAFE_CTX_phase 0).key, .free, .reg (F.LANE_PRBS_ERR_bits
    0).key]]) ∧
  (∀ (n : LaneId), touches (.laneDown n) [markAreas, [.lane, .safe, .reg F.LANE_UP_MASK_up.key, .reg
    (F.LANE_STATUS_state 0).key, .reg (F.LANE_STREAM_next_seq 0 0).key, .reg (F.SAFE_CTX_phase 0).key, .free, .reg
    (F.LANE_PRBS_ERR_bits 0).key]]) ∧
  (∀ (n : LaneId), touches (.retrainWaitExpired n) [[.lane, .safe, .reg F.LANE_UP_MASK_up.key, .reg
    (F.LANE_STATUS_state 0).key, .reg (F.LANE_STREAM_next_seq 0 0).key, .reg (F.SAFE_CTX_phase 0).key, .free, .reg
    (F.LANE_PRBS_ERR_bits 0).key]]) ∧
  (∀ (n : LaneId) (p : Packet), touches (.lineStart n p) [markAreas, [.lane, .isp, .free, .reg (F.PACE_BRIDGE_full
    0).key, .reg (F.LANE_CRC_ERR_count 0).key, .reg (F.LANE_NAK_sent 0).key, .reg (F.LANE_LOST_lines 0).key,
    .reg (F.LANE_VIOL_count 0).key, .reg (F.LANE_STREAM_next_seq 0 0).key, .reg (F.ISP_LAYBY_bytes 0).key, .reg
    (F.ISP_LAYBY_PEAK_bytes 0).key, .reg (F.ISP_LAYBY_LOST_lines 0).key]]) ∧
  (∀ (n : LaneId) (p : Packet), touches (.pixels n p) [markAreas, [.lane, .free, .reg (F.PACE_BRIDGE_full 0).key,
    .reg (F.LANE_CRC_ERR_count 0).key, .reg (F.LANE_NAK_sent 0).key, .reg (F.LANE_LOST_lines 0).key, .reg
    (F.LANE_VIOL_count 0).key, .reg (F.LANE_STREAM_next_seq 0 0).key]]) ∧
  (∀ (n : LaneId) (p : Packet), touches (.lineEnd n p) [markAreas, [.lane, .isp, .safe, .free, .reg
    (F.PACE_BRIDGE_full 0).key, .reg F.LANE_UP_MASK_up.key, .reg (F.LANE_STATUS_state 0).key, .reg
    (F.LANE_CRC_ERR_count 0).key, .reg (F.LANE_NAK_sent 0).key, .reg (F.LANE_LOST_lines 0).key, .reg
    (F.LANE_VIOL_count 0).key, .reg (F.LANE_LINES_count 0).key, .reg (F.LANE_STREAM_next_seq 0 0).key, .reg
    (F.ISP_LAYBY_bytes 0).key, .reg (F.ISP_LAYBY_PEAK_bytes 0).key, .reg (F.ISP_LAYBY_LOST_lines 0).key, .reg
    (F.SAFE_CTX_phase 0).key, .reg (F.LANE_PRBS_ERR_bits 0).key]]) ∧
  (∀ (n : LaneId) (p : Packet), touches (.frameMark n p) [markAreas, [.lane, .isp, .peer, .safe, .mem, .free, .reg
    (F.PACE_BRIDGE_full 0).key, .reg (F.LANE_CRC_ERR_count 0).key, .reg (F.LANE_NAK_sent 0).key, .reg
    (F.LANE_LOST_lines 0).key, .reg (F.LANE_VIOL_count 0).key, .reg (F.LANE_STREAM_next_seq 0 0).key, .reg
    F.ISP_LINESTORE_work_kib.key, .reg (F.ISP_CTX_STATUS_active_bank 0).key, .reg (F.ISP_CTX_FRAME_number 0).key,
    .reg (F.ISP_CTX_LINES_count 0).key, .reg (F.ISP_CTX_STATS_frame 0).key, .reg (F.ISP_CTX_FAULTS_lost 0).key, .reg
    (F.ISP_CTX_RESULT_code 0 0).key, .reg (F.ISP_CTX_DIGEST_word 0 0).key, .reg (F.PEER_VERGE_rows 0).key, .reg
    (F.PEER_RESEND_naks 0).key, .reg (F.SAFE_WDOG_misses 0).key, .reg (F.SAFE_CTX_phase 0).key, .route, .host, .reg
    (F.HOST_RES_SEQ_next 0 0).key, .reg (F.HOST_RES_DROP_count 0 0).key, .reg (F.HOST_RES_STATE_ack_reason 0
    0).key]]) ∧
  (∀ (n : LaneId) (p : Packet), touches (.ctrlResponse n p) [markAreas, [.lane, .free, .reg (F.PACE_BRIDGE_full
    0).key, .reg (F.LANE_CRC_ERR_count 0).key, .reg (F.LANE_NAK_sent 0).key, .reg (F.LANE_LOST_lines 0).key,
    .reg (F.LANE_VIOL_count 0).key, .reg (F.LANE_STREAM_next_seq 0 0).key]]) ∧
  (∀ (n : LaneId) (p : Packet), touches (.headNak n p) [markAreas, [.lane, .free, .reg (F.PACE_BRIDGE_full 0).key,
    .reg (F.LANE_CRC_ERR_count 0).key, .reg (F.LANE_NAK_sent 0).key, .reg (F.LANE_LOST_lines 0).key, .reg
    (F.LANE_VIOL_count 0).key, .reg (F.LANE_STREAM_next_seq 0 0).key]]) ∧
  (∀ (n : LaneId) (p : Packet), touches (.headResync n p) [markAreas, [.lane, .free, .reg (F.PACE_BRIDGE_full
    0).key, .reg (F.LANE_CRC_ERR_count 0).key, .reg (F.LANE_NAK_sent 0).key, .reg (F.LANE_LOST_lines 0).key,
    .reg (F.LANE_VIOL_count 0).key, .reg (F.LANE_STREAM_next_seq 0 0).key]]) ∧
  (∀ (n : LaneId) (k : Fin 8), touches (.nakTimeout n k) [[.lane, .reg (F.LANE_LOST_lines 0).key, .reg
    (F.LANE_STREAM_next_seq 0 0).key]]) ∧
  (∀ (n : LaneId) (r : BitVec 16), touches (.laneCtrlTimeout n r) [markAreas, [.reg (F.LANE_VIOL_count 0).key]]) ∧
  (∀ (ch : Fin 16), touches (.lineEntersChannel ch) [markAreas, [.isp, .peer, .safe, .mem, .free, .reg
    F.ISP_LINESTORE_work_kib.key, .reg (F.ISP_LAYBY_bytes 0).key, .reg (F.ISP_LAYBY_PEAK_bytes 0).key, .reg
    (F.ISP_GOLDEN_WAIT_ns 0).key, .reg (F.ISP_CHAN_LINES_count 0).key, .reg (F.ISP_CTX_STATUS_active_bank 0).key,
    .reg (F.ISP_CTX_FRAME_number 0).key, .reg (F.ISP_CTX_LINES_count 0).key, .reg (F.ISP_CTX_STATS_frame 0).key,
    .reg (F.ISP_CTX_FAULTS_lost 0).key, .reg (F.ISP_CTX_RESULT_code 0 0).key, .reg (F.ISP_CTX_DIGEST_word 0 0).key,
    .reg (F.PEER_VERGE_rows 0).key, .reg (F.PEER_RESEND_naks 0).key, .reg (F.SAFE_WDOG_misses 0).key, .reg
    (F.SAFE_CTX_phase 0).key, .route, .host, .reg (F.HOST_RES_SEQ_next 0 0).key, .reg (F.HOST_RES_DROP_count 0
    0).key, .reg (F.HOST_RES_STATE_ack_reason 0 0).key]]) ∧
  (∀ (c : CtxId), touches (.frameTimeout c) [markAreas, [.isp, .peer, .safe, .mem, .free, .reg
    (F.ISP_CTX_STATUS_active_bank 0).key, .reg (F.ISP_CTX_STATS_frame 0).key, .reg (F.ISP_CTX_FAULTS_lost 0).key,
    .reg (F.PEER_VERGE_rows 0).key, .reg (F.PEER_RESEND_naks 0).key, .reg (F.SAFE_WDOG_misses 0).key, .reg
    (F.SAFE_CTX_phase 0).key, .route, .host, .reg (F.HOST_RES_SEQ_next 0 0).key, .reg (F.HOST_RES_DROP_count 0
    0).key, .reg (F.HOST_RES_STATE_ack_reason 0 0).key]]) ∧
  (∀ (port : Port) (c : CtxId), touches (.paramLoad port c) [markAreas, [.isp, .reg F.ISP_LINESTORE_work_kib.key,
    .reg (F.ISP_CTX_STATUS_active_bank 0).key, .reg (F.ISP_CTX_RESULT_code 0 0).key]]) ∧
  (∀ (c : CtxId) (host : List Byte), touches (.paramLoadDone c host) [markAreas, [.isp, .reg
    F.ISP_LINESTORE_work_kib.key, .reg (F.ISP_CTX_STATUS_active_bank 0).key, .reg (F.ISP_CTX_RESULT_code 0
    0).key]]) ∧
  (∀ (port : Port) (c : CtxId), touches (.paramCommit port c) [markAreas, [.reg (F.ISP_CTX_STATUS_active_bank
    0).key, .reg (F.ISP_CTX_RESULT_code 0 0).key]]) ∧
  (∀ (port : Port) (c : CtxId), touches (.paramDiscard port c) [markAreas, [.isp, .reg
    F.ISP_LINESTORE_work_kib.key, .reg (F.ISP_CTX_STATUS_active_bank 0).key, .reg (F.ISP_CTX_RESULT_code 0
    0).key]]) ∧
  (∀ (port : Port) (c : CtxId), touches (.contextRestart port c) [markAreas, [.isp, .reg
    (F.ISP_CTX_STATUS_active_bank 0).key, .reg (F.ISP_CTX_RESULT_code 0 0).key]]) ∧
  (∀ (c : CtxId), touches (.goldenDue c) [markAreas, [.isp, .reg (F.ISP_GOLDEN_injected 0).key]]) ∧
  (∀ (c : CtxId), touches (.goldenRetry c) [markAreas, [.isp, .reg (F.ISP_GOLDEN_injected 0).key]]) ∧
  (∀ (c : CtxId), touches (.goldenForced c) [markAreas, [.isp, .reg (F.ISP_GOLDEN_injected 0).key]]) ∧
  (∀ (c : CtxId) (d : BitVec 256), touches (.goldenComplete c d) [markAreas, safeAreas, [.isp, .reg
    (F.ISP_GOLDEN_injected 0).key, .reg (F.ISP_GOLDEN_WAIT_ns 0).key, .reg (F.SAFE_CTX_phase 0).key, .reg
    (F.SAFE_TEST_completions 0).key]]) ∧
  (∀ (port : Port) (p : Part), touches (.ingestStart port p) [markAreas, [.reg F.INGEST_STATUS_decoders_busy.key,
    .reg (F.INGEST_Q_STATE_state 0).key]]) ∧
  (∀ (port : Port) (p : Part), touches (.ingestStop port p) [markAreas, [.reg F.INGEST_STATUS_decoders_busy.key,
    .reg (F.INGEST_Q_STATE_state 0).key]]) ∧
  (∀ (port : Port) (p : Part), touches (.setSeed port p) [markAreas, [.ingest, .reg
    F.INGEST_STATUS_decoders_busy.key, .reg (F.INGEST_Q_STATE_state 0).key]]) ∧
  (∀ (port : Port) (p : Part), touches (.setEpoch port p) [markAreas, [.ingest, .reg
    F.INGEST_STATUS_decoders_busy.key, .reg (F.INGEST_Q_STATE_state 0).key]]) ∧
  (∀ (port : Port) (p : Part) (tail : BitVec 32), touches (.ingestDoorbell port p tail) [markAreas, [.reg
    F.INGEST_STATUS_decoders_busy.key, .reg (F.INGEST_Q_TAIL_pos 0).key, .reg (F.INGEST_Q_STATE_state 0).key]]) ∧
  (∀ (p : Part) (r : Option (List Byte)), touches (.descriptorRead p r) [markAreas, [.route, .ingest, .host,
    .integ, .mem, .free, .reg (F.HOST_RES_SEQ_next 0 0).key, .reg (F.HOST_RES_DROP_count 0 0).key, .reg
    (F.HOST_RES_STATE_ack_reason 0 0).key, .reg F.INGEST_STATUS_decoders_busy.key, .reg (F.INGEST_Q_HEAD_pos
    0).key, .reg (F.INGEST_Q_STATE_state 0).key, .reg (F.INGEST_Q_BATCHES_closed 0).key, .reg
    (F.INGEST_Q_VOID_count 0 0 0).key, .reg F.INTEG_HBM_poisoned.key]]) ∧
  (∀ (p : Part) (pos : BitVec 32) (x : SampleIn), touches (.sampleComplete p pos x) [markAreas, [.route, .ingest,
    .host, .integ, .mem, .free, .reg (F.HOST_RES_SEQ_next 0 0).key, .reg (F.HOST_RES_DROP_count 0 0).key, .reg
    (F.HOST_RES_STATE_ack_reason 0 0).key, .reg F.INGEST_STATUS_decoders_busy.key, .reg
    F.INGEST_LOAD_decoder.key, .reg (F.INGEST_Q_STATE_state 0).key, .reg (F.INGEST_Q_BATCHES_closed 0).key, .reg
    (F.INGEST_Q_DONE_samples 0).key, .reg (F.INGEST_Q_VOID_count 0 0 0).key, .reg F.INTEG_HBM_poisoned.key]]) ∧
  (∀ (p : Part) (pos : BitVec 32), touches (.slotTimeout p pos) [markAreas, [.route, .ingest, .host, .integ, .mem,
    .free, .reg (F.HOST_RES_SEQ_next 0 0).key, .reg (F.HOST_RES_DROP_count 0 0).key, .reg
    (F.HOST_RES_STATE_ack_reason 0 0).key, .reg F.INGEST_STATUS_decoders_busy.key, .reg (F.INGEST_Q_STATE_state
    0).key, .reg (F.INGEST_Q_BATCHES_closed 0).key, .reg (F.INGEST_Q_VOID_count 0 0 0).key, .reg
    F.INTEG_HBM_poisoned.key]]) ∧
  (∀ (n : ChanId) (levels : BitVec 3), touches (.countChange n levels) [markAreas, safeAreas, [.host, .mem, .free,
    .reg (F.HOST_RES_DROP_count 0 0).key, .reg (F.HOST_RES_STATE_ack_reason 0 0).key, .reg
    F.MOT_STATUS_present.key, .reg (F.MOT_CH_STATUS_count_state 0).key, .reg (F.MOT_CH_COUNT_LO_count 0).key,
    .reg (F.MOT_CH_COUNT_HI_count 0).key, .reg (F.MOT_CH_SPEED_speed 0).key, .reg (F.MOT_CH_ERR_errors 0).key]]) ∧
  (∀ (n : ChanId), touches (.amplitudeLoss n) [markAreas, safeAreas, [.host, .mem, .free, .reg
    (F.HOST_RES_DROP_count 0 0).key, .reg (F.HOST_RES_STATE_ack_reason 0 0).key, .reg F.MOT_STATUS_present.key,
    .reg (F.MOT_CH_STATUS_count_state 0).key, .reg (F.MOT_CH_COUNT_LO_count 0).key, .reg
    (F.MOT_CH_COUNT_HI_count 0).key, .reg (F.MOT_CH_SPEED_speed 0).key]]) ∧
  (∀ (n : ChanId), touches (.indexPulse n) [markAreas, safeAreas, [.host, .mem, .free, .reg (F.HOST_RES_DROP_count
    0 0).key, .reg (F.HOST_RES_STATE_ack_reason 0 0).key, .reg F.MOT_STATUS_present.key, .reg
    (F.MOT_CH_STATUS_count_state 0).key, .reg (F.MOT_CH_COUNT_LO_count 0).key, .reg (F.MOT_CH_COUNT_HI_count
    0).key, .reg (F.MOT_CH_SPEED_speed 0).key, .reg (F.MOT_CH_INDEX_count 0).key, .reg (F.MOT_CH_ERR_errors
    0).key]]) ∧
  (∀ (n : ChanId), touches (.serialSample n) [[.motion]]) ∧
  (∀ (n : ChanId) (f : SerialFrame), touches (.serialFrameDone n f) [markAreas, safeAreas, [.host, .mem, .free,
    .reg (F.HOST_RES_DROP_count 0 0).key, .reg (F.HOST_RES_STATE_ack_reason 0 0).key, .reg
    F.MOT_STATUS_present.key, .reg (F.MOT_CH_STATUS_count_state 0).key, .reg (F.MOT_CH_COUNT_LO_count 0).key,
    .reg (F.MOT_CH_COUNT_HI_count 0).key, .reg (F.MOT_CH_SPEED_speed 0).key, .reg (F.MOT_CH_ERR_errors 0).key]]) ∧
  (∀ (n : ChanId), touches (.speedStandstill n) [[.reg F.MOT_STATUS_present.key, .reg
    (F.MOT_CH_STATUS_count_state 0).key, .reg (F.MOT_CH_COUNT_LO_count 0).key, .reg (F.MOT_CH_COUNT_HI_count
    0).key, .reg (F.MOT_CH_SPEED_speed 0).key]]) ∧
  (∀ (d : Fin 8), touches (.dividerTrigger d) [markAreas, [.lane, .motion, .reg (F.MOT_CH_MP_armed 0).key, .reg
    (F.MOT_DIV_TRIG_next 0).key]]) ∧
  (∀ (d : Fin 8), touches (.triggerRelease d) [[.lane, .motion, .reg (F.MOT_DIV_TRIG_next 0).key]]) ∧
  (∀ (d : Fin 8), touches (.pulseWidthEnd d) [[.motion]]) ∧
  (∀ (p : Part) (r : List Byte), touches (.arm p r) [markAreas, safeAreas, [.host, .mem, .free, .reg
    (F.HOST_RES_SEQ_next 0 0).key, .reg (F.HOST_RES_DROP_count 0 0).key, .reg (F.HOST_RES_STATE_ack_reason 0
    0).key, .reg (F.MOT_CH_LATE_count 0).key]]) ∧
  (∀ (n : ChanId), touches (.milepostFire n) [markAreas, [.motion, .host, .reg (F.MOT_CH_MP_armed 0).key, .reg
    (F.MOT_CH_FIRED_count 0).key, .reg (F.MOT_CH_SUPPRESSED_count 0).key]]) ∧
  (∀ (n : ChanId) (e : Fin 4096), touches (.pulseStepEnd n e) [[.motion, .reg (F.MOT_CH_MP_armed 0).key]]) ∧
  (∀ (n : ChanId) (e : Fin 4096), touches (.pulseMaxOn n e) [markAreas, [.motion, .reg (F.MOT_CH_MP_armed 0).key]]) ∧
  (∀ (p : Part) (tag : BitVec 32), touches (.noVerdict p tag) [markAreas, [.host, .mem, .free, .reg
    (F.HOST_RES_DROP_count 0 0).key, .reg (F.HOST_RES_STATE_ack_reason 0 0).key]]) ∧
  (∀ (port : Port) (n : ChanId), touches (.clearFault port n) [markAreas, [.motion, .safe, .reg
    F.MOT_STATUS_present.key, .reg (F.MOT_CMD_STATUS_code 0).key, .reg (F.MOT_CH_STATUS_count_state 0).key, .reg
    (F.MOT_CH_COUNT_LO_count 0).key, .reg (F.MOT_CH_COUNT_HI_count 0).key, .reg (F.MOT_CH_SPEED_speed 0).key,
    .reg F.SAFE_STATUS_state.key]]) ∧
  (∀ (port : Fin 32) (level : Bool), touches (.fieldInputChange port level) [[.reg F.FIO_IN_state.key, .reg
    (F.FIO_CAP_COUNT_count 0).key, .reg (F.FIO_CAP_TIME_ns 0).key]]) ∧
  (∀ (port : Port) (mask : Word), touches (.fioOutSet port mask) [markAreas]) ∧
  (∀ (port : Port) (mask : Word), touches (.fioOutClr port mask) [markAreas]) ∧
  (∀ (port : Port) (o : BitVec 6), touches (.outputClear port o) [markAreas, [.reg (F.FIO_OUT_DIAG_overload
    0).key]]) ∧
  (∀ (o : Fin 32) (kind : Fin 5) (mA : BitVec 16), touches (.fioOutputFault o kind mA) [markAreas, [.motion, .host,
    .reg (F.MOT_CH_MP_armed 0).key, .reg (F.FIO_GROUP_current_ma 0).key, .reg (F.FIO_OUT_DIAG_overload 0).key,
    .reg (F.FIO_OUT_FAULTS_count 0).key]]) ∧
  (∀ (o : Fin 32), touches (.outputRetry o) [[.reg (F.FIO_OUT_DIAG_overload 0).key]]) ∧
  (∀ (o : Fin 32), touches (.outputCooled o) [[.reg (F.FIO_OUT_DIAG_overload 0).key]]) ∧
  (∀ (n : ChanId), touches (.amplitudeReturn n) [[.motion]])

/-- The areas each command may touch; a list names what a command of that kind can touch in some state, and the statements of its results say what it touches in each. -/
def Obligations.FramesOfTimeHostAndSafety : Prop :=
  (∀ (tp : Fin 2) (m : Ptp), touches (.sync tp m) [markAreas, [.time, .free, .reg (F.PACE_BRIDGE_full 0).key, .reg
    F.TIME_STATUS_state.key, .reg F.TIME_OFFSET_ns.key, .reg F.TIME_FREQ_ppb.key, .reg
    (F.TIME_PTP_CNT_violations 0).key]]) ∧
  (∀ (tp : Fin 2) (m : Ptp), touches (.followUp tp m) [markAreas, [.time, .free, .reg (F.PACE_BRIDGE_full 0).key,
    .reg F.TIME_STATUS_state.key, .reg F.TIME_OFFSET_ns.key, .reg F.TIME_FREQ_ppb.key, .reg
    (F.TIME_PTP_CNT_violations 0).key]]) ∧
  (∀ (tp : Fin 2) (m : Ptp), touches (.delayReq tp m) [markAreas, [.time, .free, .reg (F.PACE_BRIDGE_full 0).key,
    .reg (F.TIME_PTP_CNT_violations 0).key]]) ∧
  (∀ (tp : Fin 2) (m : Ptp), touches (.delayResp tp m) [markAreas, [.time, .free, .reg (F.PACE_BRIDGE_full 0).key,
    .reg (F.TIME_PTP_CNT_violations 0).key]]) ∧
  (∀ (tp : Fin 2) (m : Ptp), touches (.announce tp m) [markAreas, [.time, .free, .reg (F.PACE_BRIDGE_full 0).key,
    .reg F.TIME_STATUS_state.key, .reg F.TIME_FREQ_ppb.key, .reg (F.TIME_PTP_CNT_violations 0).key]]) ∧
  (∀ (tp : Fin 2) (m : Ptp), touches (.pdelayReq tp m) [markAreas, [.time, .free, .reg (F.PACE_BRIDGE_full 0).key,
    .reg (F.TIME_PTP_CNT_violations 0).key]]) ∧
  (∀ (tp : Fin 2) (m : Ptp), touches (.pdelayResp tp m) [markAreas, [.time, .free, .reg (F.PACE_BRIDGE_full 0).key,
    .reg (F.TIME_PTP_CNT_violations 0).key]]) ∧
  (∀ (tp : Fin 2) (m : Ptp), touches (.pdelayRespFollowUp tp m) [markAreas, [.time, .free, .reg (F.PACE_BRIDGE_full
    0).key, .reg (F.TIME_PTP_CNT_violations 0).key]]) ∧
  (∀ (tp : Fin 2), touches (.syncTransmit tp) [[.time]]) ∧
  (∀ (tp : Fin 2), touches (.announceTransmit tp) [[.time]]) ∧
  (touches .masterLost [markAreas, [.time, .reg F.TIME_STATUS_state.key, .reg F.TIME_FREQ_ppb.key]]) ∧
  (∀ (tp : Fin 2), touches (.nonPtpFrame tp) [[.time]]) ∧
  (∀ (port : Port), touches (.step port) [markAreas, [.time, .reg F.TIME_STATUS_state.key, .reg
    (F.TIME_CMD_STATUS_code 0).key]]) ∧
  (∀ (port : Port), touches (.slew port) [markAreas, [.time, .reg F.TIME_FREQ_ppb.key, .reg (F.TIME_CMD_STATUS_code
    0).key]]) ∧
  (∀ (port : Port) (p : Part), touches (.startAt port p) [markAreas, [.time, .reg (F.TIME_CMD_STATUS_code 0).key,
    .reg F.TIME_START_PENDING_mask.key]]) ∧
  (∀ (port : Port) (p : Part), touches (.startCancel port p) [markAreas, [.time, .reg (F.TIME_CMD_STATUS_code
    0).key, .reg F.TIME_START_PENDING_mask.key]]) ∧
  (∀ (tp : Fin 2) (p : Part) (r : List Byte), touches (.launchRecord tp p r) [markAreas, [.time, .reg
    (F.TIME_LQ_depth 0).key, .reg (F.TIME_LQ_LATE_late 0).key]]) ∧
  (∀ (tp : Fin 2), touches (.frameLaunch tp) [markAreas, [.time, .reg (F.TIME_LQ_depth 0).key, .reg
    (F.TIME_LQ_SENT_count 0).key, .reg (F.TIME_LQ_LATE_late 0).key]]) ∧
  (∀ (side : Fin 2) (head : PeerHead) (h : Hello), touches (.hello side head h) [markAreas, [.boot, .peer, .reg
    F.KEEP_STATUS_identity.key, .reg F.KEEP_SELFTEST_failed_cores.key, .reg (F.PACE_BRIDGE_full 0).key, .reg
    F.PEER_STATUS_position.key, .reg (F.PEER_SIDE_node 0).key, .reg (F.PEER_RESEND_naks 0).key]]) ∧
  (∀ (side : Fin 2), touches (.peerHelloRetry side) [[.peer, .reg (F.PEER_SIDE_node 0).key]]) ∧
  (∀ (side : Fin 2), touches (.peerDown side) [markAreas, [.peer, .reg F.PEER_STATUS_position.key, .reg
    (F.PEER_SIDE_node 0).key]]) ∧
  (∀ (side : Fin 2) (head : PeerHead) (v : VergeIn), touches (.verge side head v) [markAreas, [.motion, .peer,
    .host, .mem, .free, .reg (F.PACE_BRIDGE_full 0).key, .reg (F.HOST_RES_DROP_count 0 0).key, .reg
    (F.HOST_RES_STATE_ack_reason 0 0).key, .reg (F.MOT_CH_MP_armed 0).key, .reg (F.MOT_CH_CANCELLED_count 0).key,
    .reg (F.MOT_CH_LATE_count 0).key, .reg (F.PEER_RESEND_naks 0).key, .reg (F.INTEG_SEAM_blocks 0).key, .reg
    (F.INTEG_SEAM_FAULT_mismatches 0).key, .reg (F.MOT_CH_FIRED_count 0).key, .reg (F.MOT_CH_SUPPRESSED_count
    0).key]]) ∧
  (∀ (seam : Fin 4) (line : BitVec 32), touches (.seamCheckMissing seam line) [markAreas, [.motion, .peer, .host,
    .mem, .free, .reg (F.HOST_RES_DROP_count 0 0).key, .reg (F.HOST_RES_STATE_ack_reason 0 0).key, .reg
    (F.MOT_CH_MP_armed 0).key, .reg (F.MOT_CH_CANCELLED_count 0).key, .reg (F.MOT_CH_LATE_count 0).key, .reg
    (F.INTEG_SEAM_FAULT_mismatches 0).key, .reg (F.MOT_CH_FIRED_count 0).key, .reg (F.MOT_CH_SUPPRESSED_count
    0).key]]) ∧
  (∀ (side : Fin 2) (head : PeerHead) (r : List Byte) (tracked : Option (BitVec 32)), touches (.contrib side head r
    tracked) [markAreas, [.motion, .peer, .host, .mem, .free, .reg (F.PACE_BRIDGE_full 0).key, .reg
    (F.HOST_RES_DROP_count 0 0).key, .reg (F.HOST_RES_STATE_ack_reason 0 0).key, .reg (F.MOT_CH_MP_armed 0).key,
    .reg (F.MOT_CH_CANCELLED_count 0).key, .reg (F.MOT_CH_LATE_count 0).key, .reg (F.PEER_REJECT_received 0).key,
    .reg (F.PEER_RESEND_naks 0).key, .reg (F.MOT_CH_FIRED_count 0).key, .reg (F.MOT_CH_SUPPRESSED_count 0).key]]) ∧
  (∀ (side : Fin 2) (head : PeerHead) (seq : BitVec 16), touches (.ack side head seq) [markAreas, [.peer, .reg
    (F.PACE_BRIDGE_full 0).key, .reg (F.PEER_RESEND_naks 0).key]]) ∧
  (∀ (side : Fin 2) (head : PeerHead) (seq : BitVec 16), touches (.peerNak side head seq) [markAreas, [.peer, .reg
    (F.PACE_BRIDGE_full 0).key, .reg (F.PEER_RESEND_naks 0).key]]) ∧
  (∀ (side : Fin 2) (head : PeerHead) (key : BitVec 64) (reason : BitVec 8), touches (.reject side head key reason)
    [markAreas, [.peer, .reg (F.PACE_BRIDGE_full 0).key, .reg (F.PEER_REJECT_received 0).key, .reg
    (F.PEER_RESEND_naks 0).key]]) ∧
  (∀ (side : Fin 2) (head : PeerHead) (n : BitVec 16), touches (.credit side head n) [markAreas, [.peer, .reg
    (F.PACE_BRIDGE_full 0).key, .reg (F.PEER_RESEND_naks 0).key]]) ∧
  (∀ (port : Port) (speed : BitVec 3) (width : BitVec 5), touches (.linkUp port speed width) [markAreas, [.host,
    .reg (F.HOST_STATUS_port 0).key]]) ∧
  (∀ (port : Port) (reg : BitVec 10), touches (.configRequest port reg) [[.free, .replies]]) ∧
  (∀ (port : Port) (p : Part) (k : BitVec 12), touches (.resultStateRead port p k) [[.host, .replies]]) ∧
  (∀ (port : Port) (p : Part) (seq : BitVec 32), touches (.hostResAck port p seq) [markAreas, [.host, .reg
    (F.HOST_RES_STATE_ack_reason 0 0).key]]) ∧
  (∀ (port : Port) (p : Part) (v : Word), touches (.hostResCfgWrite port p v) [[.host, .reg (F.HOST_RES_CFG_enable
    0 0).key, .reg (F.HOST_RES_SEQ_next 0 0).key, .reg (F.HOST_PUSH_HEAD_seq 0 0).key, .reg
    (F.HOST_RES_STATE_ack_reason 0 0).key]]) ∧
  (∀ (port : Port) (p : Part) (seq : BitVec 32), touches (.hostPushHead port p seq) [[.msix, .reg
    (F.HOST_PUSH_HEAD_seq 0 0).key, .reg (F.HOST_RES_STATE_ack_reason 0 0).key]]) ∧
  (∀ (port : Port) (p : Part), touches (.coalesceTimer port p) [[.host, .msix]]) ∧
  (∀ (port : Port) (r : Fin 4) (tail : BitVec 32), touches (.hostSqTail port r tail) [markAreas, [.reg
    (F.HOST_SQ_TAIL_pos 0 0).key, .reg (F.HOST_SQ_STATE_error 0 0).key]]) ∧
  (∀ (port : Port) (r : Fin 4) (d : List Byte), touches (.copyIn port r d) [markAreas, [.host, .reg
    (F.HOST_SQ_HEAD_pos 0 0).key, .reg (F.HOST_SQ_STATE_error 0 0).key]]) ∧
  (∀ (port : Port) (r : Fin 4) (d : List Byte), touches (.copyOut port r d) [markAreas, [.host, .perf, .reg
    (F.HOST_SQ_HEAD_pos 0 0).key, .reg (F.HOST_SQ_STATE_error 0 0).key]]) ∧
  (∀ (port : Port) (r : Fin 4) (d : List Byte), touches (.release port r d) [markAreas, [.route, .host, .reg
    (F.HOST_RES_SEQ_next 0 0).key, .reg (F.HOST_RES_DROP_count 0 0).key, .reg (F.HOST_RES_STATE_ack_reason 0
    0).key, .reg (F.HOST_SQ_HEAD_pos 0 0).key, .reg (F.HOST_SQ_STATE_error 0 0).key]]) ∧
  (∀ (port : Port) (r : Fin 4) (d : List Byte), touches (.bindWeights port r d) [markAreas, [.host, .reg
    (F.HOST_SQ_HEAD_pos 0 0).key, .reg (F.HOST_SQ_STATE_error 0 0).key]]) ∧
  (∀ (port : Port) (r : Fin 4), touches (.weightsDigestDone port r) [markAreas, [.host]]) ∧
  (∀ (port : Port) (r : Fin 4) (d : List Byte), touches (.fence port r d) [markAreas, [.host, .reg
    (F.HOST_SQ_HEAD_pos 0 0).key, .reg (F.HOST_SQ_STATE_error 0 0).key]]) ∧
  (∀ (port : Port) (r : Fin 4), touches (.dmaTimeout port r) [markAreas, [.host, .reg (F.HOST_SQ_STATE_error 0
    0).key]]) ∧
  (∀ (port : Port) (p : Part) (number : Word), touches (.hostMboxPost port p number) [markAreas, [.host, .mem]]) ∧
  (∀ (port : Port) (off : BitVec 32) (w : Option Word), touches (.bar4Access port off w) [markAreas, [.integ, .mem,
    .perf, .replies, .reg F.INTEG_HBM_poisoned.key]]) ∧
  (∀ (port : Port) (bar2 : Bool) (off : BitVec 26) (bytes : BitVec 8) (write : Bool), touches (.unmappedAccess port
    bar2 off bytes write) [markAreas, [.replies]]) ∧
  (∀ (p : Part) (v : VerdictIn), touches (.verdictRecord p v) [markAreas, safeAreas, [.peer, .host, .mem, .free,
    .reg (F.HOST_RES_DROP_count 0 0).key, .reg (F.HOST_RES_STATE_ack_reason 0 0).key, .reg (F.MOT_CH_CANCELLED_count
    0).key, .reg (F.MOT_CH_LATE_count 0).key, .reg (F.PEER_CONTRIB_sent 0).key, .reg (F.PEER_RESEND_naks 0).key,
    .reg (F.SAFE_JUDGE_PASS_count 0).key, .reg (F.SAFE_JUDGE_FAIL_count 0).key, .reg (F.SAFE_JUDGE_SEQ_counter
    0).key, .reg (F.MOT_CH_FIRED_count 0).key, .reg (F.MOT_CH_SUPPRESSED_count 0).key, .route]]) ∧
  (∀ (w : Fin 64) (early : Bool), touches (.watchdogMiss w early) [markAreas, safeAreas, [.reg (F.SAFE_WDOG_misses
    0).key]]) ∧
  (∀ (addr : Word), touches (.lockstepMismatch addr) [markAreas, safeAreas]) ∧
  (∀ (t : Fin 9) (unit : Fin 64) (bound : BitVec 8) (left : BitVec 8) (waiting : Bool) (ends : Fin 4), touches
    (.testSlice t unit bound left waiting ends) [markAreas, safeAreas, [.cores, .exec, .reg (F.KV_WALKER_failed
    0).key, .reg (F.SAFE_TEST_completions 0).key, .reg (F.CORE_ID_physical 0).key, .reg (F.CORE_STATUS_partition
    0).key, .reg (F.CORE_FAIL_cause 0).key, .reg (F.CORE_SPARE_TEST_passed 0).key, .reg (F.CORE_CLUSTER_spare_left
    0).key, .route, .mem]]) ∧
  (touches .sliceOverrun [markAreas, safeAreas, [.cores, .exec, .reg (F.KV_WALKER_failed 0).key, .reg
    (F.SAFE_TEST_completions 0).key, .reg (F.CORE_ID_physical 0).key, .reg (F.CORE_STATUS_partition 0).key, .reg
    (F.CORE_FAIL_cause 0).key, .reg (F.CORE_CLUSTER_spare_left 0).key, .route, .mem]]) ∧
  (∀ (t : Fin 9), touches (.testOverdue t) [markAreas, safeAreas, [.reg (F.SAFE_TEST_completions 0).key]]) ∧
  (∀ (c : CtxId), touches (.contextNoReference c) [markAreas, [.safe]]) ∧
  (touches .checkerStartDone [markAreas, [.safe, .reg F.SAFE_STATUS_state.key, .reg F.SAFE_MSG_counter.key]]) ∧
  (∀ (port : Fin 2) (ch : Fin 2) (level : Bool), touches (.safeInputChange port ch level) [markAreas, [.safe, .reg
    F.SAFE_MSG_counter.key]]) ∧
  (∀ (port : Fin 2), touches (.safeInputDemand port) [markAreas, safeAreas]) ∧
  (∀ (port : Fin 2) (ch : Fin 2) (test : Bool), touches (.safeInputFault port ch test) [markAreas, safeAreas]) ∧
  (∀ (src : Fin 2) (follow : BitVec 4) (returned : BitVec 4), touches (.testPulse src follow returned) [markAreas,
    safeAreas, [.reg (F.SAFE_TEST_completions 0).key]]) ∧
  (∀ (port : Fin 2), touches (.inputFaultRecovered port) [markAreas, [.safe, .reg F.SAFE_STATUS_state.key, .reg
    F.SAFE_MSG_counter.key]]) ∧
  (∀ (o : Fin 2) (ch : Fin 2) (start : Bool) (readback : Bool), touches (.outputTest o ch start readback)
    [markAreas, safeAreas, [.reg (F.SAFE_TEST_completions 0).key]]) ∧
  (∀ (by_ : ResetBy), touches (.safeReset by_) [markAreas, [.safe, .reg F.SAFE_STATUS_state.key, .reg
    (F.SAFE_CMD_STATUS_code 0).key, .reg F.SAFE_MSG_counter.key, .reg (F.SAFE_CTX_phase 0).key]]) ∧
  (∀ (port : Port), touches (.forceSafe port) [markAreas, safeAreas, [.reg (F.SAFE_CMD_STATUS_code 0).key]]) ∧
  (∀ (port : Port), touches (.lock port) [markAreas, [.keep, .boot, .reg F.ZLD_ACTIVE_slot.key, .reg
    F.KEEP_STATUS_identity.key, .reg F.KEEP_RATCHET_owner_left.key, .reg (F.KEEP_OWNER_KEY_word 0).key, .reg
    F.KEEP_SIGNERS_count.key, .reg F.SAFE_STATUS_state.key, .reg (F.SAFE_CMD_STATUS_code 0).key]]) ∧
  (∀ (port : Port), touches (.unlock port) [markAreas, [.keep, .boot, .reg F.ZLD_ACTIVE_slot.key, .reg
    F.KEEP_STATUS_identity.key, .reg F.KEEP_RATCHET_owner_left.key, .reg (F.KEEP_OWNER_KEY_word 0).key, .reg
    F.KEEP_SIGNERS_count.key, .reg F.SAFE_STATUS_state.key, .reg (F.SAFE_CMD_STATUS_code 0).key]]) ∧
  (touches .safetyMessage [markAreas, [.safe, .reg F.SAFE_MSG_counter.key]]) ∧
  (∀ (kind : Fin 4) (line : BitVec 32) (found : Option BadLine) (hbm : Fin 5), touches (.scrubRead kind line found
    hbm) [markAreas, safeAreas, [.cores, .exec, .integ, .mem, .reg F.CAP_HBM_AVAIL_pages.key, .reg
    F.INTEG_STATUS_trace_level.key, .reg (F.INTEG_SCRUB_LAP_ms 0).key, .reg (F.INTEG_SCRUB_LAPS_count 0).key, .reg
    (F.INTEG_ERR_CORR_count 0).key, .reg (F.INTEG_ERR_UNCORR_count 0).key, .reg (F.INTEG_ERR_RETRY_refetches 0).key,
    .reg F.INTEG_HBM_poisoned.key, .reg F.INTEG_CAP_LOC_kind.key, .reg F.INTEG_CAP_ADDR_line.key, .reg
    F.INTEG_CAP_CRC_value.key, .reg (F.INTEG_CAP_DATA_word 0).key, .reg (F.INTEG_CAP_CHECK_word 0).key, .reg
    (F.CORE_ID_physical 0).key, .reg (F.CORE_STATUS_partition 0).key, .reg (F.CORE_FAIL_cause 0).key, .reg
    (F.CORE_SRAM_ERR_corrected 0).key, .reg (F.CORE_CLUSTER_spare_left 0).key, .route]]) ∧
  (∀ (kind : Fin 3) (line : BitVec 32) (accessed : Bool), touches (.scrubWriteBack kind line accessed) [[.integ]]) ∧
  (∀ (upsets : List (Fin 3 × Fin 256 × Word)), touches (.tripleVote upsets) [markAreas, safeAreas, [.integ, .reg
    F.INTEG_TRIP_STATUS_repaired.key, .reg (F.INTEG_TRIP_value 0).key, .reg (F.INTEG_TRIP_COPY_word 0 0).key]]) ∧
  (∀ (port : Port) (level : BitVec 2) (parts : BitVec 8), touches (.traceSet port level parts) [markAreas, [.integ,
    .reg F.INTEG_STATUS_trace_level.key, .reg (F.INTEG_CMD_STATUS_code 0).key]]) ∧
  (∀ (port : Port), touches (.captureClear port) [markAreas, [.reg (F.INTEG_CMD_STATUS_code 0).key, .reg
    F.INTEG_CAP_LOC_kind.key]]) ∧
  (touches .waymarkWrite [markAreas, [.reg F.WAYM_HEAD_SEQ_seq.key, .reg F.WAYM_OLDEST_SEQ_seq.key, .reg
    F.WAYM_BUDGET_tokens.key, .reg F.WAYM_WEAR_erases.key]]) ∧
  (touches .sectorErased [[.recorder]]) ∧
  (touches .budgetRefill [markAreas, [.reg F.WAYM_BUDGET_tokens.key]]) ∧
  (touches .bucketRefill [[.recorder]]) ∧
  (∀ (code : Nat) (par : Nat), touches (.waymarkSummary code par) [[.recorder, .msix, .reg
    F.WAYM_STATUS_frozen.key, .reg F.WAYM_DROPPED_count.key]]) ∧
  (∀ (port : Port), touches (.freeze port) [markAreas, [.reg (F.WAYM_CMD_STATUS_code 0).key, .reg
    F.WAYM_FROZEN_AT_seq.key]]) ∧
  (∀ (port : Port), touches (.thaw port) [markAreas, [.reg F.WAYM_OLDEST_SEQ_seq.key, .reg (F.WAYM_CMD_STATUS_code
    0).key, .reg F.WAYM_WEAR_erases.key]]) ∧
  (touches .freezeTimeout [markAreas, [.reg F.WAYM_OLDEST_SEQ_seq.key, .reg F.WAYM_WEAR_erases.key]]) ∧
  (∀ (port : Port), touches (.waymRead port) [[.replies, .reg (F.WAYM_READ_STATE_state 0).key, .reg
    (F.WAYM_READ_DATA_word 0 0).key]]) ∧
  (∀ (port : Port), touches (.snapshot port) [markAreas, [.reg F.PERF_STATUS_snapshot_valid.key, .reg
    (F.PERF_CMD_STATUS_code 0).key]]) ∧
  (∀ (port : Port), touches (.tagOn port) [markAreas, [.perf, .reg F.PERF_STATUS_snapshot_valid.key, .reg
    (F.PERF_CMD_STATUS_code 0).key]]) ∧
  (∀ (port : Port), touches (.tagOff port) [markAreas, [.reg F.PERF_STATUS_snapshot_valid.key, .reg
    (F.PERF_CMD_STATUS_code 0).key]]) ∧
  (∀ (port : Port) (c : CoreId) (k : Fin 8) (v : BitVec 16), touches (.perfEventWrite port c k v) [markAreas,
    [.perf, .reg F.PERF_STATUS_snapshot_valid.key]]) ∧
  (∀ (port : Port), touches (.bwWindowEnd port) [[.perf, .reg (F.PERF_BW_IN_units 0).key, .reg (F.PERF_BW_OUT_units
    0).key, .reg (F.PERF_BW_PEAK_IN_units 0).key, .reg (F.PERF_BW_PEAK_OUT_units 0).key]]) ∧
  (∀ (port : Port) (off : BitVec 24) (idle : Bool) (found : Option BadLine), touches (.apertureRead port off idle
    found) [markAreas, safeAreas, [.cores, .exec, .integ, .replies, .reg F.CAP_APERTURE_kind.key, .reg
    (F.INTEG_ERR_CORR_count 0).key, .reg (F.INTEG_ERR_UNCORR_count 0).key, .reg F.INTEG_CAP_LOC_kind.key, .reg
    F.INTEG_CAP_ADDR_line.key, .reg F.INTEG_CAP_CRC_value.key, .reg (F.INTEG_CAP_DATA_word 0).key, .reg
    (F.INTEG_CAP_CHECK_word 0).key, .reg (F.CORE_ID_physical 0).key, .reg (F.CORE_STATUS_partition 0).key, .reg
    (F.CORE_FAIL_cause 0).key, .reg (F.CORE_SRAM_ERR_corrected 0).key, .reg (F.CORE_CLUSTER_spare_left 0).key,
    .route, .mem]]) ∧
  (∀ (tp : Fin 2) (up : Bool), touches (.safeMsgLink tp up) [markAreas, [.safe, .reg F.SAFE_STATUS_state.key]]) ∧
  (∀ (port : Port) (r : Fin 4) (e : DmaEnd), touches (.dmaReadCompletion port r e) [markAreas, [.host, .integ,
    .mem, .perf, .reg (F.HOST_SQ_STATE_error 0 0).key, .reg F.INTEG_HBM_poisoned.key]]) ∧
  (∀ (port : Port) (r : Fin 4) (v : Word), touches (.hostSqCfgWrite port r v) [markAreas, [.reg (F.HOST_SQ_CFG_size
    0 0).key, .reg (F.HOST_SQ_STATE_error 0 0).key]]) ∧
  (∀ (port : Fin 2), touches (.safeInputDemandCleared port) [markAreas, [.safe, .reg F.SAFE_STATUS_state.key, .reg
    F.SAFE_MSG_counter.key]]) ∧
  (touches .delayReqTransmit [[.time]]) ∧
  (∀ (tp : Fin 2), touches (.pdelayReqTransmit tp) [[.time]]) ∧
  (∀ (i : Port) (c : Fin 5) (s t : State), exec (.portReset i c) s = .next t → t.variant = s.variant ∧ t.pending =
    s.pending ∧ t.cfg = s.cfg ∧ t.keep = s.keep ∧ t.board = s.board ∧ t.pace = s.pace ∧ t.cores = s.cores ∧
    t.exec = s.exec ∧ t.kv = s.kv ∧ t.lane = s.lane ∧ t.isp = s.isp ∧ t.motion = s.motion ∧ t.time = s.time ∧
    t.peer = s.peer ∧ t.safe = s.safe ∧ t.power = s.power ∧ t.clk = s.clk ∧ t.free = s.free ∧ t.perf = s.perf ∧
    ∀ (j : Port) (k : Nat), j ≠ i → portBank j ≤ k → k < portBank j + 0x4000000 → k ≠ (F.HOST_STATUS_ports_up
    j).key → regRead t.regs k = regRead s.regs k) ∧
  (∀ (i : Port) (o : BitVec 26) (h : Hit) (s t : State), findReg o.toNat = some h → exec (.lowWordRead i o) s =
    .next t → Frame (areas (.replies :: .hiLatch :: .free :: .reg (h.key i) :: outputAreas)) s t ∧ ∀ k, k ≠
    h.key i → (areas outputAreas).testBit (regKind k) = false → regRead t.regs k = regRead s.regs k) ∧
  (∀ (i : Port) (o : BitVec 26) (h : Hit) (s t : State), findReg o.toNat = some h → exec (.rcRead i o) s = .next t
    → Frame (areas (.replies :: .hiLatch :: .free :: .reg (h.key i) :: outputAreas)) s t ∧ ∀ k, k ≠ h.key i →
    (areas outputAreas).testBit (regKind k) = false → regRead t.regs k = regRead s.regs k) ∧
  (∀ (i : Port) (o : BitVec 26) (h : Hit) (v : Word) (s t : State), findReg o.toNat = some h → s.commandWrite i h v
    = none → exec (.registerWrite i false o v) s = .next t → t.cfg = s.cfg ∧ t.keep = s.keep ∧ t.flash = s.flash
    ∧ t.route = s.route ∧ t.exec = s.exec ∧ t.mem = s.mem ∧ t.safe = s.safe ∧ t.host = s.host ∧ t.hiLatch =
    s.hiLatch ∧ ∀ (j : Port) (k : Nat), j ≠ i → portBank j ≤ k → k < portBank j + 0x4000000 → regRead t.regs k =
    regRead s.regs k) ∧
  (∀ (i : Port) (o : BitVec 26) (v : Word) (s t : State), exec (.registerWrite i true o v) s = .next t → Frame
    (areas (.mem :: .perf :: .replies :: (markAreas ++ outputAreas))) s t)

end Statements
end

