-- ==== Sys2Proof/Laws/Tab.lean ====
section
/-! SUPPORT. Sparse tables: reading after writing, and the canonical form. -/

namespace Sys2Proof.Machine

variable {α : Type}

theorem tfind_tput_self (t : Tab α) (i : Nat) (v : α) : tfind (tput t i v) i = some v := by
  induction t with
  | nil => simp [tput, tfind]
  | cons e t ih =>
    obtain ⟨k, w⟩ := e
    unfold tput
    split
    · simp [tfind]
    · split
      · simp [tfind]
      · simp_all [tfind]

theorem tfind_tput_ne (t : Tab α) {i j : Nat} (v : α) (h : j ≠ i) : tfind (tput t i v) j = tfind t j := by
  induction t with
  | nil => simp [tput, tfind, h]
  | cons e t ih =>
    obtain ⟨k, w⟩ := e
    unfold tput
    split
    · subst i; simp [tfind, h]
    · split
      · simp [tfind, h]
      · simp [tfind, ih]

theorem tfind_filter (t : Tab α) (p : Nat → Bool) (j : Nat) :
    tfind (t.filter (fun e => p e.1)) j = if p j then tfind t j else none := by
  induction t with
  | nil => simp [tfind]
  | cons e t ih =>
    obtain ⟨k, w⟩ := e
    by_cases hk : p k <;> by_cases hj : j = k <;> simp_all [tfind]

theorem tfind_tdel_self (t : Tab α) (i : Nat) : tfind (tdel t i) i = none := by
  have := tfind_filter t (fun k => k != i) i
  simpa [tdel] using this

theorem tfind_tdel_ne (t : Tab α) {i j : Nat} (h : j ≠ i) : tfind (tdel t i) j = tfind t j := by
  have := tfind_filter t (fun k => k != i) j
  simpa [tdel, h] using this

variable [DecidableEq α]

theorem tget_tset_self (d : α) (t : Tab α) (i : Nat) (v : α) : tget d (tset d t i v) i = v := by
  unfold tset tget
  split
  · simp_all [tfind_tdel_self]
  · simp [tfind_tput_self]

theorem tget_tset_ne (d : α) (t : Tab α) {i j : Nat} (v : α) (h : j ≠ i) : tget d (tset d t i v) j = tget d t j := by
  unfold tset tget
  split
  · simp [tfind_tdel_ne _ h]
  · simp [tfind_tput_ne _ _ h]

/-- A lower bound on the keys may be weakened. -/
theorem tabWfFrom_mono (d : Nat → α) {a b : Nat} (h : b ≤ a) {t : Tab α} (w : tabWfFrom d (some a) t = true) :
    tabWfFrom d (some b) t = true := by
  cases t with
  | nil => rfl
  | cons e t =>
    obtain ⟨k, v⟩ := e
    simp only [tabWfFrom, Bool.and_eq_true, decide_eq_true_eq] at w ⊢
    exact ⟨⟨by omega, w.1.2⟩, w.2⟩

theorem tabWfFrom_none (d : Nat → α) {a : Nat} {t : Tab α} (w : tabWfFrom d (some a) t = true) :
    tabWfFrom d none t = true := by
  cases t with
  | nil => rfl
  | cons e t =>
    obtain ⟨k, v⟩ := e
    simp only [tabWfFrom, Bool.and_eq_true, decide_eq_true_eq] at w ⊢
    exact ⟨⟨trivial, w.1.2⟩, w.2⟩

theorem tabWfFrom_filter (d : Nat → α) (p : Nat × α → Bool) :
    ∀ (t : Tab α) (lo : Option Nat), tabWfFrom d lo t = true → tabWfFrom d lo (t.filter p) = true
  | [], _, _ => by simp [tabWfFrom]
  | (k, v) :: t, lo, w => by
    simp only [tabWfFrom, Bool.and_eq_true, decide_eq_true_eq] at w
    have ht := tabWfFrom_filter d p t (some k) w.2
    rw [List.filter_cons]
    split
    · simp only [tabWfFrom, Bool.and_eq_true, decide_eq_true_eq]; exact ⟨w.1, ht⟩
    · cases lo with
      | none => exact tabWfFrom_none d ht
      | some l =>
        have hl : l < k := by simpa using w.1.1
        exact tabWfFrom_mono d (Nat.le_of_lt hl) ht

theorem tabWf_filter (d : Nat → α) (p : Nat × α → Bool) {t : Tab α} (w : tabWf d t = true) :
    tabWf d (t.filter p) = true := tabWfFrom_filter d p t none w

theorem tabWfFrom_tput (d : Nat → α) (i : Nat) (v : α) (hv : v ≠ d i) :
    ∀ (t : Tab α) (lo : Option Nat), (∀ l, lo = some l → l < i) → tabWfFrom d lo t = true →
      tabWfFrom d lo (tput t i v) = true
  | [], lo, hlo, _ => by
    cases lo with
    | none => simp [tput, tabWfFrom, hv]
    | some l => simp [tput, tabWfFrom, hv, hlo l rfl]
  | (k, x) :: t, lo, hlo, w => by
    simp only [tabWfFrom, Bool.and_eq_true, decide_eq_true_eq] at w
    unfold tput
    split
    · subst i
      cases lo with
      | none => simp [tabWfFrom, hv, w.2]
      | some l => simp [tabWfFrom, hv, w.2, hlo l rfl]
    · split
      · have hik : i < k := by assumption
        cases lo with
        | none => simp [tabWfFrom, hv, w.2, w.1.2, hik]
        | some l => simp [tabWfFrom, hv, w.2, w.1.2, hik, hlo l rfl]
      · simp only [tabWfFrom, Bool.and_eq_true, decide_eq_true_eq]
        refine ⟨w.1, tabWfFrom_tput d i v hv t (some k) (fun l hl => ?_) w.2⟩
        cases hl; omega

/-- Setting a key keeps the canonical form of a table whose unlisted key `i` reads as `d i`. -/
theorem tabWf_tset (d : Nat → α) {t : Tab α} (i : Nat) (v : α) (w : tabWf d t = true) :
    tabWf d (tset (d i) t i v) = true := by
  unfold tset
  split
  · exact tabWf_filter d _ w
  · exact tabWfFrom_tput d i v (by assumption) t none (by simp) w

end Sys2Proof.Machine
end

