-- ==== Sys2Proof/Laws/Ops.lean ====
section
/-! SUPPORT. The named operations: registers, fields and the byte memory read back what was written, and keep their canonical
forms. -/

namespace Sys2Proof.Machine

/-! ### The register file -/

theorem regRead_regWrite_self (rs : Tab Word) (k : Nat) (w : Word) : regRead (regWrite rs k w) k = w := by
  have := tget_tset_self (regReset k) rs k w
  simpa [tget, regRead, regWrite] using this

theorem regRead_regWrite_ne (rs : Tab Word) {k j : Nat} (w : Word) (h : j ≠ k) :
    regRead (regWrite rs k w) j = regRead rs j := by
  unfold regRead regWrite tset
  split
  · rw [tfind_tdel_ne _ h]
  · rw [tfind_tput_ne _ _ h]

theorem regWf_regWrite {rs : Tab Word} (k : Nat) (w : Word) (h : tabWf regReset rs = true) :
    tabWf regReset (regWrite rs k w) = true := tabWf_tset regReset k w h

/-! ### Fields -/

theorem fieldOf_withField (w : Word) {lo width v : Nat} (h : lo + width ≤ 32) :
    fieldOf (withField w lo width v) lo width = v % 2 ^ width := by
  unfold fieldOf withField
  apply Nat.eq_of_testBit_eq
  intro i
  simp only [BitVec.toNat_or, BitVec.toNat_and, BitVec.toNat_not, BitVec.toNat_ofNat, Nat.testBit_mod_two_pow,
    Nat.testBit_shiftRight, Nat.testBit_or, Nat.testBit_and, Nat.testBit_mul_two_pow, Nat.testBit_two_pow_sub_one]
  by_cases hi : i < width
  · have h1 : lo + i < 32 := by omega
    have h2 : ∀ x : BitVec 32, (2 ^ 32 - 1 - x.toNat).testBit (lo + i) = !x.toNat.testBit (lo + i) := by
      intro x
      have := BitVec.toNat_not (x := x)
      rw [← this, BitVec.testBit_toNat, BitVec.getLsbD_not, BitVec.testBit_toNat]
      simp [h1]
    have h3 := h2 (BitVec.ofNat 32 ((2 ^ width - 1) * 2 ^ lo))
    simp only [BitVec.toNat_ofNat] at h3
    rw [h3]
    simp only [Nat.testBit_mod_two_pow, Nat.testBit_mul_two_pow, Nat.testBit_two_pow_sub_one]
    simp [hi, h1]
  · simp [hi]

theorem fieldOf_withField_ne (w : Word) {lo width lo' width' v : Nat} (h : lo' + width' ≤ lo ∨ lo + width ≤ lo')
    (h' : lo' + width' ≤ 32) : fieldOf (withField w lo width v) lo' width' = fieldOf w lo' width' := by
  unfold fieldOf withField
  apply Nat.eq_of_testBit_eq
  intro i
  simp only [BitVec.toNat_or, BitVec.toNat_and, BitVec.toNat_not, BitVec.toNat_ofNat, Nat.testBit_mod_two_pow,
    Nat.testBit_shiftRight, Nat.testBit_or, Nat.testBit_and, Nat.testBit_mul_two_pow, Nat.testBit_two_pow_sub_one]
  by_cases hi : i < width'
  · have h1 : lo' + i < 32 := by omega
    have h2 : ∀ x : BitVec 32, (2 ^ 32 - 1 - x.toNat).testBit (lo' + i) = !x.toNat.testBit (lo' + i) := by
      intro x
      have := BitVec.toNat_not (x := x)
      rw [← this, BitVec.testBit_toNat, BitVec.getLsbD_not, BitVec.testBit_toNat]
      simp [h1]
    have h3 := h2 (BitVec.ofNat 32 ((2 ^ width - 1) * 2 ^ lo))
    simp only [BitVec.toNat_ofNat] at h3
    rw [h3]
    simp only [Nat.testBit_mod_two_pow, Nat.testBit_mul_two_pow, Nat.testBit_two_pow_sub_one]
    rcases h with h | h
    · have : ¬ lo ≤ lo' + i := by omega
      simp [hi, this]
    · have h5 : ¬ lo' + i - lo < width := by omega
      simp [hi, h5]
  · simp [hi]

namespace State

theorem get_set_self (s : State) (f : Field) (v : Nat) (h : f.lo + f.width ≤ 32) : (s.set f v).get f = v % 2 ^ f.width := by
  unfold State.get State.set
  rw [regRead_regWrite_self, fieldOf_withField _ h]

/-- A field of the same register that shares no bit with the written one. -/
theorem get_set_apart (s : State) (f g : Field) (v : Nat) (hk : g.key = f.key)
    (h : g.lo + g.width ≤ f.lo ∨ f.lo + f.width ≤ g.lo) (hg : g.lo + g.width ≤ 32) : (s.set f v).get g = s.get g := by
  unfold State.get State.set
  rw [hk, regRead_regWrite_self, fieldOf_withField_ne _ h hg]

/-- A field of another register. -/
theorem get_set_ne (s : State) (f g : Field) (v : Nat) (hk : g.key ≠ f.key) : (s.set f v).get g = s.get g := by
  unfold State.get State.set
  rw [regRead_regWrite_ne _ _ hk]

end State

/-! ### The byte memory -/

theorem memByte_memPut_self (m : List Host.Cell) (a : Nat) (b : Byte) : memByte (memPut m a b) a = b :=
  tget_tset_self 0 m a b

theorem memByte_memPut_ne (m : List Host.Cell) {a c : Nat} (b : Byte) (h : c ≠ a) :
    memByte (memPut m a b) c = memByte m c := tget_tset_ne 0 m b h

theorem memWf_memPut {m : List Host.Cell} (a : Nat) (b : Byte) (h : Memory.wf m = true) :
    Memory.wf (memPut m a b) = true := tabWf_tset (fun _ => 0) a b h

/-- A byte outside the written range stays. -/
theorem memByte_memPutAll_out :
    ∀ (bs : List Byte) (m : List Host.Cell) (a c : Nat), c < a ∨ a + bs.length ≤ c → memByte (memPutAll m a bs) c = memByte m c
  | [], _, _, _, _ => rfl
  | b :: bs, m, a, c, h => by
    simp only [List.length_cons] at h
    rw [memPutAll, memByte_memPutAll_out bs _ (a + 1) c (by omega), memByte_memPut_ne _ _ (by omega)]

/-- A byte inside the written range is the one written there. -/
theorem memByte_memPutAll_in :
    ∀ (bs : List Byte) (m : List Host.Cell) (a i : Nat) (h : i < bs.length), memByte (memPutAll m a bs) (a + i) = bs[i]
  | b :: bs, m, a, 0, _ => by
    rw [memPutAll, memByte_memPutAll_out bs _ (a + 1) (a + 0) (by omega)]
    simpa using memByte_memPut_self m a b
  | b :: bs, m, a, i + 1, h => by
    simp only [List.length_cons] at h
    have := memByte_memPutAll_in bs (memPut m a b) (a + 1) i (by omega)
    rw [memPutAll, show a + (i + 1) = a + 1 + i by omega, this]
    simp

/-- Every write keeps the canonical form. -/
theorem memWf_memPutAll : ∀ (bs : List Byte) (m : List Host.Cell) (a : Nat), Memory.wf m = true →
    Memory.wf (memPutAll m a bs) = true
  | [], _, _, h => h
  | b :: bs, m, a, h => memWf_memPutAll bs _ (a + 1) (memWf_memPut a b h)

end Sys2Proof.Machine
end

