-- ==== Sys2Proof/Laws/Frame.lean ====
section
/-! SUPPORT. What the primitive operations change (`Frame`), in the form in which the meanings' own lemmas chain them: a state
that differs from `s0` in the parts `W` alone still does so after the operation, where the operation's parts lie in `W`. -/

namespace Sys2Proof.Machine

/-- The parts `a` lie in `w`. -/
def Within (a w : Nat) : Prop := a &&& w = a

theorem Within.trans {a b c : Nat} (h : a &&& b = a) (k : Within b c) : Within a c := by
  unfold Within at *
  rw [← h, Nat.and_assoc, k]

theorem Within.refl (a : Nat) : Within a a := Nat.and_self a

theorem Within.bit {a w : Nat} (h : Within a w) {n : Nat} (hn : a.testBit n = true) : w.testBit n = true := by
  unfold Within at h
  rw [← h, Nat.testBit_and] at hn
  simp only [Bool.and_eq_true] at hn
  exact hn.2

variable {W : Nat} {s0 s : State}

theorem Keep.spent.refl (k : Keep) : Keep.spent k k := ⟨Nat.le_refl _, Nat.le_refl _, Nat.le_refl _, Nat.le_refl _⟩

theorem Keep.spent.trans {a b c : Keep} (h : Keep.spent a b) (k : Keep.spent b c) : Keep.spent a c :=
  ⟨Nat.le_trans k.1 h.1, Nat.le_trans h.2.1 k.2.1, Nat.le_trans k.2.2.1 h.2.2.1, Nat.le_trans k.2.2.2 h.2.2.2⟩

theorem Frame.refl (W : Nat) (s : State) : Frame W s s where
  variant := rfl
  pending := rfl
  memWf := id
  regsWf := id
  regs _ _ := rfl
  spent := ⟨Nat.le_refl _, Nat.le_refl _, Nat.le_refl _, Nat.le_refl _⟩
  cfg _ := rfl
  board _ := rfl
  zld _ := rfl
  keep _ := rfl
  flash _ := rfl
  boot _ := rfl
  pace _ := rfl
  cores _ := rfl
  exec _ := rfl
  route _ := rfl
  kv _ := rfl
  lane _ := rfl
  isp _ := rfl
  ingest _ := rfl
  motion _ := rfl
  fio _ := rfl
  time _ := rfl
  peer _ := rfl
  host _ := rfl
  safe _ := rfl
  integ _ := rfl
  power _ := rfl
  mem _ := rfl
  clk _ := rfl
  free _ := rfl
  recorder _ := rfl
  perf _ := rfl
  replies _ := rfl
  hiLatch _ := rfl
  msix _ := rfl

theorem Frame.trans {t u : State} (h : Frame W s t) (k : Frame W t u) : Frame W s u where
  variant := k.variant.trans h.variant
  pending := k.pending.trans h.pending
  memWf x := k.memWf (h.memWf x)
  regsWf x := k.regsWf (h.regsWf x)
  regs n x := (k.regs n x).trans (h.regs n x)
  spent := Keep.spent.trans h.spent k.spent
  cfg x := (k.cfg x).trans (h.cfg x)
  board x := (k.board x).trans (h.board x)
  zld x := (k.zld x).trans (h.zld x)
  keep x := (k.keep x).trans (h.keep x)
  flash x := (k.flash x).trans (h.flash x)
  boot x := (k.boot x).trans (h.boot x)
  pace x := (k.pace x).trans (h.pace x)
  cores x := (k.cores x).trans (h.cores x)
  exec x := (k.exec x).trans (h.exec x)
  route x := (k.route x).trans (h.route x)
  kv x := (k.kv x).trans (h.kv x)
  lane x := (k.lane x).trans (h.lane x)
  isp x := (k.isp x).trans (h.isp x)
  ingest x := (k.ingest x).trans (h.ingest x)
  motion x := (k.motion x).trans (h.motion x)
  fio x := (k.fio x).trans (h.fio x)
  time x := (k.time x).trans (h.time x)
  peer x := (k.peer x).trans (h.peer x)
  host x := (k.host x).trans (h.host x)
  safe x := (k.safe x).trans (h.safe x)
  integ x := (k.integ x).trans (h.integ x)
  power x := (k.power x).trans (h.power x)
  mem x := (k.mem x).trans (h.mem x)
  clk x := (k.clk x).trans (h.clk x)
  free x := (k.free x).trans (h.free x)
  recorder x := (k.recorder x).trans (h.recorder x)
  perf x := (k.perf x).trans (h.perf x)
  replies x := (k.replies x).trans (h.replies x)
  hiLatch x := (k.hiLatch x).trans (h.hiLatch x)
  msix x := (k.msix x).trans (h.msix x)

theorem Frame.mono {t : State} {A : Nat} (hW : Within A W) (h : Frame A s t) : Frame W s t := by
  have q : ∀ n, W.testBit n = false → A.testBit n = false := by
    intro n hn
    cases ha : A.testBit n with
    | false => rfl
    | true => rw [hW.bit ha] at hn; cases hn
  constructor
  · exact h.variant
  · exact h.pending
  · exact h.memWf
  · exact h.regsWf
  · exact fun k x => h.regs k (q _ x)
  · exact h.spent
  · exact fun x => h.cfg (q _ x)
  · exact fun x => h.board (q _ x)
  · exact fun x => h.zld (q _ x)
  · exact fun x => h.keep (q _ x)
  · exact fun x => h.flash (q _ x)
  · exact fun x => h.boot (q _ x)
  · exact fun x => h.pace (q _ x)
  · exact fun x => h.cores (q _ x)
  · exact fun x => h.exec (q _ x)
  · exact fun x => h.route (q _ x)
  · exact fun x => h.kv (q _ x)
  · exact fun x => h.lane (q _ x)
  · exact fun x => h.isp (q _ x)
  · exact fun x => h.ingest (q _ x)
  · exact fun x => h.motion (q _ x)
  · exact fun x => h.fio (q _ x)
  · exact fun x => h.time (q _ x)
  · exact fun x => h.peer (q _ x)
  · exact fun x => h.host (q _ x)
  · exact fun x => h.safe (q _ x)
  · exact fun x => h.integ (q _ x)
  · exact fun x => h.power (q _ x)
  · exact fun x => h.mem (q _ x)
  · exact fun x => h.clk (q _ x)
  · exact fun x => h.free (q _ x)
  · exact fun x => h.recorder (q _ x)
  · exact fun x => h.perf (q _ x)
  · exact fun x => h.replies (q _ x)
  · exact fun x => h.hiLatch (q _ x)
  · exact fun x => h.msix (q _ x)

/-- A field of a register that `W` does not name reads as before. -/
theorem Frame.get {t : State} (h : Frame W s t) (f : Field) (hk : W.testBit (regKind f.key) = false) : t.get f = s.get f := by
  unfold State.get; rw [h.regs _ hk]

/-! ### Glue -/

theorem Frame.cut {P : Prop} (x : State) (h : Frame W s0 x) (k : Frame W s0 x → P) : P := k h

theorem Frame.cutF {P : Prop} (x : State → State) (h : ∀ s, Frame W s0 s → Frame W s0 (x s))
    (k : (∀ s, Frame W s0 s → Frame W s0 (x s)) → P) : P := k h

theorem Frame.cutG {P : Prop} (x : State → Nat → State) (h : ∀ s n, Frame W s0 s → Frame W s0 (x s n))
    (k : (∀ s n, Frame W s0 s → Frame W s0 (x s n)) → P) : P := k h

theorem Frame.cutN {P : Prop} (x : Nat → State) (h : ∀ n, Frame W s0 (x n)) (k : (∀ n, Frame W s0 (x n)) → P) : P := k h

theorem Frame.cutH {P : Prop} (x : State → Nat → Nat → State) (h : ∀ s n m, Frame W s0 s → Frame W s0 (x s n m))
    (k : (∀ s n m, Frame W s0 s → Frame W s0 (x s n m)) → P) : P := k h

theorem Frame.cutI {P : Prop} (x : State → Nat → List Nat → State) (h : ∀ s n l, Frame W s0 s → Frame W s0 (x s n l))
    (k : (∀ s n l, Frame W s0 s → Frame W s0 (x s n l)) → P) : P := k h

theorem Frame.ite {c : Prop} [Decidable c] {a b : State} (ha : Frame W s0 a) (hb : Frame W s0 b) :
    Frame W s0 (if c then a else b) := by split <;> assumption

theorem Frame.foldl {α : Type} {f : State → α → State} (hf : ∀ s a, Frame W s0 s → Frame W s0 (f s a)) :
    ∀ (l : List α) (s : State), Frame W s0 s → Frame W s0 (l.foldl f s)
  | [], _, h => h
  | a :: l, s, h => Frame.foldl hf l (f s a) (hf s a h)

theorem State.each_frame {α : Type} {l : List α} {f : State → α → State} (h : Frame W s0 s)
    (hf : ∀ s a, Frame W s0 s → Frame W s0 (f s a)) : Frame W s0 (s.each l f) := Frame.foldl hf l s h

theorem Frame.foldl_snd {α β : Type} {f : β × State → α → β × State}
    (hf : ∀ p a, Frame W s0 p.2 → Frame W s0 (f p a).2) :
    ∀ (l : List α) (p : β × State), Frame W s0 p.2 → Frame W s0 (l.foldl f p).2
  | [], _, h => h
  | a :: l, p, h => Frame.foldl_snd hf l (f p a) (hf p a h)

theorem State.when_frame {b : Bool} {f : State → State} (h : Frame W s0 s) (hf : ∀ s, Frame W s0 s → Frame W s0 (f s)) :
    Frame W s0 (s.when b f) := by
  unfold State.when; split
  · exact hf s h
  · exact h

/-- The state of a pair. -/
structure Frame.Snd {α : Type} (W : Nat) (s0 : State) (p : α × State) : Prop where
  out : Frame W s0 p.2

/-- The state of an answer, if there is one. -/
structure Frame.Opt (W : Nat) (s0 : State) (o : Option State) : Prop where
  out : ∀ t, o = some t → Frame W s0 t

/-- The state of a triple that begins with it. -/
structure Frame.Fst {α : Type} (W : Nat) (s0 : State) (p : State × α) : Prop where
  out : Frame W s0 p.1

theorem Frame.fst_mk {α : Type} {a : α} (h : Frame W s0 s) : Frame.Fst W s0 (s, a) := ⟨h⟩

theorem Frame.of_snd {α : Type} {p : α × State} {a : α} (e : p = (a, s)) (h : Frame.Snd W s0 p) : Frame W s0 s := by
  subst e; exact h.out

theorem Frame.of_fst {α : Type} {p : State × α} {a : α} (e : p = (s, a)) (h : Frame.Fst W s0 p) : Frame W s0 s := by
  subst e; exact h.out

theorem Frame.foldr_snd {α β : Type} {f : α → β × State → β × State}
    (hf : ∀ a p, Frame W s0 p.2 → Frame W s0 (f a p).2) :
    ∀ (l : List α) (p : β × State), Frame W s0 p.2 → Frame W s0 (l.foldr f p).2
  | [], _, h => h
  | a :: l, p, h => hf a _ (Frame.foldr_snd hf l p h)

theorem Frame.foldl_fst {α β : Type} {f : State × β → α → State × β}
    (hf : ∀ p a, Frame W s0 p.1 → Frame W s0 (f p a).1) :
    ∀ (l : List α) (p : State × β), Frame W s0 p.1 → Frame W s0 (l.foldl f p).1
  | [], _, h => h
  | a :: l, p, h => Frame.foldl_fst hf l (f p a) (hf p a h)

theorem Frame.snd_mk {α : Type} {a : α} (h : Frame W s0 s) : Frame.Snd W s0 (a, s) := ⟨h⟩

theorem Frame.opt_some (h : Frame W s0 s) : Frame.Opt W s0 (some s) := ⟨fun _ e => by cases e; exact h⟩

theorem Frame.opt_none : Frame.Opt W s0 none := ⟨fun _ e => by cases e⟩

/-! ### Registers -/

theorem State.set_frame {f : Field} {v n : Nat} (hk : regKind f.key = n) (hw : W.testBit n = true) (h : Frame W s0 s) :
    Frame W s0 (s.set f v) :=
  { h with
    regsWf := fun x => regWf_regWrite _ _ (h.regsWf x)
    regs := fun k hn => by
      have : k ≠ f.key := by
        intro e; subst e
        rw [hk, hw] at hn; cases hn
      rw [show (s.set f v).regs = regWrite s.regs f.key _ from rfl, regRead_regWrite_ne _ _ this]
      exact h.regs k hn }

theorem State.setB_frame {f : Field} {b : Bool} {n : Nat} (hk : regKind f.key = n) (hw : W.testBit n = true)
    (h : Frame W s0 s) : Frame W s0 (s.setB f b) := State.set_frame hk hw h

theorem State.addSat_frame {f : Field} {v n : Nat} (hk : regKind f.key = n) (hw : W.testBit n = true) (h : Frame W s0 s) :
    Frame W s0 (s.addSat f v) := State.set_frame hk hw h

theorem State.inc_frame {f : Field} {n : Nat} (hk : regKind f.key = n) (hw : W.testBit n = true) (h : Frame W s0 s) :
    Frame W s0 (s.inc f) := State.set_frame hk hw h

theorem State.incWrap_frame {f : Field} {n : Nat} (hk : regKind f.key = n) (hw : W.testBit n = true) (h : Frame W s0 s) :
    Frame W s0 (s.incWrap f) := State.set_frame hk hw h

theorem State.setBit_frame {f : Field} {i n : Nat} {b : Bool} (hk : regKind f.key = n) (hw : W.testBit n = true)
    (h : Frame W s0 s) : Frame W s0 (s.setBit f i b) := State.set_frame hk hw h

theorem State.set64_frame {f g : Field} {v n m : Nat} (hk : regKind f.key = n) (hw : W.testBit n = true)
    (hk' : regKind g.key = m) (hw' : W.testBit m = true) (h : Frame W s0 s) : Frame W s0 (s.set64 f g v) :=
  State.set_frame hk' hw' (State.set_frame hk hw h)

theorem ite_range {c : Prop} [Decidable c] {a b : Nat} (ha : c → 30 ≤ a ∧ a < 376) (hb : ¬c → 30 ≤ b ∧ b < 376) :
    30 ≤ (if c then a else b) ∧ (if c then a else b) < 376 := by
  split
  · exact ha ‹_›
  · exact hb ‹_›

theorem kindCap_range (u : Nat) : 30 ≤ kindCap u ∧ kindCap u < 376 := by
  unfold kindCap; (repeat' first | refine ite_range ?_ ?_ | intro _ | omega)

theorem kindZld_range (u : Nat) : 30 ≤ kindZld u ∧ kindZld u < 376 := by
  unfold kindZld; (repeat' first | refine ite_range ?_ ?_ | intro _ | omega)

theorem kindKeep_range (u : Nat) : 30 ≤ kindKeep u ∧ kindKeep u < 376 := by
  unfold kindKeep; (repeat' first | refine ite_range ?_ ?_ | intro _ | omega)

theorem kindPace_range (u : Nat) : 30 ≤ kindPace u ∧ kindPace u < 376 := by
  unfold kindPace; (repeat' first | refine ite_range ?_ ?_ | intro _ | omega)

theorem kindRoute_range (u : Nat) : 30 ≤ kindRoute u ∧ kindRoute u < 376 := by
  unfold kindRoute; (repeat' first | refine ite_range ?_ ?_ | intro _ | omega)

theorem kindHost_range (u : Nat) : 30 ≤ kindHost u ∧ kindHost u < 376 := by
  unfold kindHost; (repeat' first | refine ite_range ?_ ?_ | intro _ | omega)

theorem kindLane_range (u : Nat) : 30 ≤ kindLane u ∧ kindLane u < 376 := by
  unfold kindLane; (repeat' first | refine ite_range ?_ ?_ | intro _ | omega)

theorem kindIsp_range (u : Nat) : 30 ≤ kindIsp u ∧ kindIsp u < 376 := by
  unfold kindIsp; (repeat' first | refine ite_range ?_ ?_ | intro _ | omega)

theorem kindIngest_range (u : Nat) : 30 ≤ kindIngest u ∧ kindIngest u < 376 := by
  unfold kindIngest; (repeat' first | refine ite_range ?_ ?_ | intro _ | omega)

theorem kindKv_range (u : Nat) : 30 ≤ kindKv u ∧ kindKv u < 376 := by
  unfold kindKv; (repeat' first | refine ite_range ?_ ?_ | intro _ | omega)

theorem kindMot_range (u : Nat) : 30 ≤ kindMot u ∧ kindMot u < 376 := by
  unfold kindMot; (repeat' first | refine ite_range ?_ ?_ | intro _ | omega)

theorem kindFio_range (u : Nat) : 30 ≤ kindFio u ∧ kindFio u < 376 := by
  unfold kindFio; (repeat' first | refine ite_range ?_ ?_ | intro _ | omega)

theorem kindTime_range (u : Nat) : 30 ≤ kindTime u ∧ kindTime u < 376 := by
  unfold kindTime; (repeat' first | refine ite_range ?_ ?_ | intro _ | omega)

theorem kindPeer_range (u : Nat) : 30 ≤ kindPeer u ∧ kindPeer u < 376 := by
  unfold kindPeer; (repeat' first | refine ite_range ?_ ?_ | intro _ | omega)

theorem kindSafe_range (u : Nat) : 30 ≤ kindSafe u ∧ kindSafe u < 376 := by
  unfold kindSafe; (repeat' first | refine ite_range ?_ ?_ | intro _ | omega)

theorem kindInteg_range (u : Nat) : 30 ≤ kindInteg u ∧ kindInteg u < 376 := by
  unfold kindInteg; (repeat' first | refine ite_range ?_ ?_ | intro _ | omega)

theorem kindWaym_range (u : Nat) : 30 ≤ kindWaym u ∧ kindWaym u < 376 := by
  unfold kindWaym; (repeat' first | refine ite_range ?_ ?_ | intro _ | omega)

theorem kindPerf_range (u : Nat) : 30 ≤ kindPerf u ∧ kindPerf u < 376 := by
  unfold kindPerf; (repeat' first | refine ite_range ?_ ?_ | intro _ | omega)

theorem kindCore_range (u : Nat) : 30 ≤ kindCore u ∧ kindCore u < 376 := by
  unfold kindCore; (repeat' first | refine ite_range ?_ ?_ | intro _ | omega)

/-- Every register's number lies above those of the components. -/
theorem regKind_range (k : Nat) : 30 ≤ regKind k ∧ regKind k < 376 := by
  unfold regKind
  dsimp only
  repeat' first | with_reducible refine ite_range ?_ ?_ | intro _
  · exact kindCap_range _
  · exact kindZld_range _
  · exact kindKeep_range _
  · exact kindPace_range _
  · exact kindRoute_range _
  · exact kindHost_range _
  · exact kindLane_range _
  · exact kindIsp_range _
  · exact kindIngest_range _
  · exact kindKv_range _
  · exact kindMot_range _
  · exact kindFio_range _
  · exact kindTime_range _
  · exact kindPeer_range _
  · exact kindSafe_range _
  · exact kindInteg_range _
  · exact kindWaym_range _
  · exact kindPerf_range _
  · exact kindCore_range _

theorem Frame.all {t : State} (hw : ∀ n, n < 376 → W.testBit n = true) (hv : t.variant = s0.variant) (hp : t.pending = s0.pending)
    (hm : Memory.wf s0.mem = true → Memory.wf t.mem = true) (hr : Regs.wf s0.regs = true → Regs.wf t.regs = true)
    (hsp : Keep.spent s0.keep t.keep) : Frame W s0 t := by
  have q : ∀ {P : Prop} (n : Nat), n < 376 → W.testBit n = false → P := fun n hn hx => by
    rw [hw n hn] at hx; cases hx
  exact {
    variant := hv
    pending := hp
    memWf := hm
    regsWf := hr
    regs := fun k => q _ (regKind_range k).2
    spent := hsp
    cfg := q _ (by decide)
    board := q _ (by decide)
    zld := q _ (by decide)
    keep := q _ (by decide)
    flash := q _ (by decide)
    boot := q _ (by decide)
    pace := q _ (by decide)
    cores := q _ (by decide)
    exec := q _ (by decide)
    route := q _ (by decide)
    kv := q _ (by decide)
    lane := q _ (by decide)
    isp := q _ (by decide)
    ingest := q _ (by decide)
    motion := q _ (by decide)
    fio := q _ (by decide)
    time := q _ (by decide)
    peer := q _ (by decide)
    host := q _ (by decide)
    safe := q _ (by decide)
    integ := q _ (by decide)
    power := q _ (by decide)
    mem := q _ (by decide)
    clk := q _ (by decide)
    free := q _ (by decide)
    recorder := q _ (by decide)
    perf := q _ (by decide)
    replies := q _ (by decide)
    hiLatch := q _ (by decide)
    msix := q _ (by decide)
  }

theorem State.resetRegs_frame {a b : Nat} (hw : ∀ n, 30 ≤ n → n < 376 → W.testBit n = true) (h : Frame W s0 s) :
    Frame W s0 (s.resetRegs a b) :=
  { h with
    regsWf := fun x => tabWf_filter regReset _ (h.regsWf x)
    regs := fun k hn => by
      have h1 := regKind_range k
      rw [hw _ h1.1 h1.2] at hn; cases hn }

/-! ### Components -/

theorem Frame.board_upd {x0 : Board} (h0 : W.testBit 1 = true) (h : Frame W s0 s) :
    Frame W s0 { s with board := x0 } :=
  { h with
    board := fun hn => by
      rw [show Area.board.num = 1 from rfl, h0] at hn; cases hn }

theorem Frame.boot_upd {x0 : Boot} (h0 : W.testBit 5 = true) (h : Frame W s0 s) :
    Frame W s0 { s with boot := x0 } :=
  { h with
    boot := fun hn => by
      rw [show Area.boot.num = 5 from rfl, h0] at hn; cases hn }

theorem Frame.cfg_upd {x0 : Running} (h0 : W.testBit 0 = true) (h : Frame W s0 s) :
    Frame W s0 { s with cfg := x0 } :=
  { h with
    cfg := fun hn => by
      rw [show Area.cfg.num = 0 from rfl, h0] at hn; cases hn }

theorem Frame.clk_upd {x0 : Clock} (h0 : W.testBit 23 = true) (h : Frame W s0 s) :
    Frame W s0 { s with clk := x0 } :=
  { h with
    clk := fun hn => by
      rw [show Area.clk.num = 23 from rfl, h0] at hn; cases hn }

theorem Frame.cores_upd {x0 : CoreMapSt} (h0 : W.testBit 7 = true) (h : Frame W s0 s) :
    Frame W s0 { s with cores := x0 } :=
  { h with
    cores := fun hn => by
      rw [show Area.cores.num = 7 from rfl, h0] at hn; cases hn }

theorem Frame.exec_upd {x0 : Tab CoreExec} (h0 : W.testBit 8 = true) (h : Frame W s0 s) :
    Frame W s0 { s with exec := x0 } :=
  { h with
    exec := fun hn => by
      rw [show Area.exec.num = 8 from rfl, h0] at hn; cases hn }

theorem Frame.fio_upd {x0 : Fio} (h0 : W.testBit 15 = true) (h : Frame W s0 s) :
    Frame W s0 { s with fio := x0 } :=
  { h with
    fio := fun hn => by
      rw [show Area.fio.num = 15 from rfl, h0] at hn; cases hn }

theorem Frame.flash_upd {x0 : Flash} (h0 : W.testBit 4 = true) (h : Frame W s0 s) :
    Frame W s0 { s with flash := x0 } :=
  { h with
    flash := fun hn => by
      rw [show Area.flash.num = 4 from rfl, h0] at hn; cases hn }

theorem Frame.free_upd {x0 : Nat} (h0 : W.testBit 24 = true) (h : Frame W s0 s) :
    Frame W s0 { s with free := x0 } :=
  { h with
    free := fun hn => by
      rw [show Area.free.num = 24 from rfl, h0] at hn; cases hn }

theorem Frame.hiLatch_upd {x0 : Tab Word} (h0 : W.testBit 28 = true) (h : Frame W s0 s) :
    Frame W s0 { s with hiLatch := x0 } :=
  { h with
    hiLatch := fun hn => by
      rw [show Area.hiLatch.num = 28 from rfl, h0] at hn; cases hn }

theorem Frame.host_upd {x0 : HostSt} (h0 : W.testBit 18 = true) (h : Frame W s0 s) :
    Frame W s0 { s with host := x0 } :=
  { h with
    host := fun hn => by
      rw [show Area.host.num = 18 from rfl, h0] at hn; cases hn }

theorem Frame.ingest_upd {x0 : Tab IngQueue} (h0 : W.testBit 13 = true) (h : Frame W s0 s) :
    Frame W s0 { s with ingest := x0 } :=
  { h with
    ingest := fun hn => by
      rw [show Area.ingest.num = 13 from rfl, h0] at hn; cases hn }

theorem Frame.integ_upd {x0 : IntegSt} (h0 : W.testBit 20 = true) (h : Frame W s0 s) :
    Frame W s0 { s with integ := x0 } :=
  { h with
    integ := fun hn => by
      rw [show Area.integ.num = 20 from rfl, h0] at hn; cases hn }

theorem Frame.isp_upd {x0 : Isp} (h0 : W.testBit 12 = true) (h : Frame W s0 s) :
    Frame W s0 { s with isp := x0 } :=
  { h with
    isp := fun hn => by
      rw [show Area.isp.num = 12 from rfl, h0] at hn; cases hn }

theorem Frame.keep_upd {x0 : Keep} (h0 : W.testBit 3 = true) (hr : Keep.spent s.keep x0) (h : Frame W s0 s) :
    Frame W s0 { s with keep := x0 } :=
  { h with
    spent := Keep.spent.trans h.spent hr
    keep := fun hn => by
      rw [show Area.keep.num = 3 from rfl, h0] at hn; cases hn }

theorem Frame.kv_upd {x0 : Tab Pool} (h0 : W.testBit 10 = true) (h : Frame W s0 s) :
    Frame W s0 { s with kv := x0 } :=
  { h with
    kv := fun hn => by
      rw [show Area.kv.num = 10 from rfl, h0] at hn; cases hn }

theorem Frame.lane_upd {x0 : Lanes} (h0 : W.testBit 11 = true) (h : Frame W s0 s) :
    Frame W s0 { s with lane := x0 } :=
  { h with
    lane := fun hn => by
      rw [show Area.lane.num = 11 from rfl, h0] at hn; cases hn }

theorem Frame.mem_upd {x0 : List Host.Cell} (h0 : W.testBit 22 = true) (hm : Memory.wf s.mem = true → Memory.wf x0 = true) (h : Frame W s0 s) :
    Frame W s0 { s with mem := x0 } :=
  { h with
    memWf := fun w => hm (h.memWf w)
    mem := fun hn => by
      rw [show Area.mem.num = 22 from rfl, h0] at hn; cases hn }

theorem Frame.motion_upd {x0 : Motion} (h0 : W.testBit 14 = true) (h : Frame W s0 s) :
    Frame W s0 { s with motion := x0 } :=
  { h with
    motion := fun hn => by
      rw [show Area.motion.num = 14 from rfl, h0] at hn; cases hn }

theorem Frame.msix_upd {x0 : List (Nat × Nat)} (h0 : W.testBit 29 = true) (h : Frame W s0 s) :
    Frame W s0 { s with msix := x0 } :=
  { h with
    msix := fun hn => by
      rw [show Area.msix.num = 29 from rfl, h0] at hn; cases hn }

theorem Frame.pace_upd {x0 : PaceSt} (h0 : W.testBit 6 = true) (h : Frame W s0 s) :
    Frame W s0 { s with pace := x0 } :=
  { h with
    pace := fun hn => by
      rw [show Area.pace.num = 6 from rfl, h0] at hn; cases hn }

theorem Frame.peer_upd {x0 : PeerSt} (h0 : W.testBit 17 = true) (h : Frame W s0 s) :
    Frame W s0 { s with peer := x0 } :=
  { h with
    peer := fun hn => by
      rw [show Area.peer.num = 17 from rfl, h0] at hn; cases hn }

theorem Frame.perf_upd {x0 : Perf} (h0 : W.testBit 26 = true) (h : Frame W s0 s) :
    Frame W s0 { s with perf := x0 } :=
  { h with
    perf := fun hn => by
      rw [show Area.perf.num = 26 from rfl, h0] at hn; cases hn }

theorem Frame.power_upd {x0 : Power} (h0 : W.testBit 21 = true) (h : Frame W s0 s) :
    Frame W s0 { s with power := x0 } :=
  { h with
    power := fun hn => by
      rw [show Area.power.num = 21 from rfl, h0] at hn; cases hn }

theorem Frame.recorder_upd {x0 : Recorder} (h0 : W.testBit 25 = true) (h : Frame W s0 s) :
    Frame W s0 { s with recorder := x0 } :=
  { h with
    recorder := fun hn => by
      rw [show Area.recorder.num = 25 from rfl, h0] at hn; cases hn }

theorem Frame.regs_upd {x0 : Tab Word} (ha : ∀ k, W.testBit (regKind k) = false → regRead x0 k = regRead s.regs k) (hb : Regs.wf s.regs = true → Regs.wf x0 = true) (h : Frame W s0 s) :
    Frame W s0 { s with regs := x0 } :=
  { h with
    regs := fun k hn => (ha k hn).trans (h.regs k hn)
    regsWf := fun w => hb (h.regsWf w) }

theorem Frame.replies_upd {x0 : Tab Reply} (h0 : W.testBit 27 = true) (h : Frame W s0 s) :
    Frame W s0 { s with replies := x0 } :=
  { h with
    replies := fun hn => by
      rw [show Area.replies.num = 27 from rfl, h0] at hn; cases hn }

theorem Frame.route_upd {x0 : RouteSt} (h0 : W.testBit 9 = true) (h : Frame W s0 s) :
    Frame W s0 { s with route := x0 } :=
  { h with
    route := fun hn => by
      rw [show Area.route.num = 9 from rfl, h0] at hn; cases hn }

theorem Frame.safe_upd {x0 : SafeSt} (h0 : W.testBit 19 = true) (h : Frame W s0 s) :
    Frame W s0 { s with safe := x0 } :=
  { h with
    safe := fun hn => by
      rw [show Area.safe.num = 19 from rfl, h0] at hn; cases hn }

theorem Frame.time_upd {x0 : TimeSt} (h0 : W.testBit 16 = true) (h : Frame W s0 s) :
    Frame W s0 { s with time := x0 } :=
  { h with
    time := fun hn => by
      rw [show Area.time.num = 16 from rfl, h0] at hn; cases hn }

theorem Frame.zld_upd {x0 : Zld} (h0 : W.testBit 2 = true) (h : Frame W s0 s) :
    Frame W s0 { s with zld := x0 } :=
  { h with
    zld := fun hn => by
      rw [show Area.zld.num = 2 from rfl, h0] at hn; cases hn }

theorem Frame.board_safe_upd {x0 : Board} {x1 : SafeSt} (h0 : W.testBit 1 = true) (h1 : W.testBit 19 = true) (h : Frame W s0 s) :
    Frame W s0 { s with board := x0, safe := x1 } :=
  { h with
    board := fun hn => by
      rw [show Area.board.num = 1 from rfl, h0] at hn; cases hn
    safe := fun hn => by
      rw [show Area.safe.num = 19 from rfl, h1] at hn; cases hn }

theorem Frame.boot_safe_upd {x0 : Boot} {x1 : SafeSt} (h0 : W.testBit 5 = true) (h1 : W.testBit 19 = true) (h : Frame W s0 s) :
    Frame W s0 { s with boot := x0, safe := x1 } :=
  { h with
    boot := fun hn => by
      rw [show Area.boot.num = 5 from rfl, h0] at hn; cases hn
    safe := fun hn => by
      rw [show Area.safe.num = 19 from rfl, h1] at hn; cases hn }

theorem Frame.cfg_safe_upd {x0 : Running} {x1 : SafeSt} (h0 : W.testBit 0 = true) (h1 : W.testBit 19 = true) (h : Frame W s0 s) :
    Frame W s0 { s with cfg := x0, safe := x1 } :=
  { h with
    cfg := fun hn => by
      rw [show Area.cfg.num = 0 from rfl, h0] at hn; cases hn
    safe := fun hn => by
      rw [show Area.safe.num = 19 from rfl, h1] at hn; cases hn }

theorem Frame.route_safe_upd {x0 : RouteSt} {x1 : SafeSt} (h0 : W.testBit 9 = true) (h1 : W.testBit 19 = true) (h : Frame W s0 s) :
    Frame W s0 { s with route := x0, safe := x1 } :=
  { h with
    route := fun hn => by
      rw [show Area.route.num = 9 from rfl, h0] at hn; cases hn
    safe := fun hn => by
      rw [show Area.safe.num = 19 from rfl, h1] at hn; cases hn }

theorem Frame.cfg_zld_upd {x0 : Running} {x1 : Zld} (h0 : W.testBit 0 = true) (h1 : W.testBit 2 = true) (h : Frame W s0 s) :
    Frame W s0 { s with cfg := x0, zld := x1 } :=
  { h with
    cfg := fun hn => by
      rw [show Area.cfg.num = 0 from rfl, h0] at hn; cases hn
    zld := fun hn => by
      rw [show Area.zld.num = 2 from rfl, h1] at hn; cases hn }

theorem Frame.boot_pace_upd {x0 : Boot} {x1 : PaceSt} (h0 : W.testBit 5 = true) (h1 : W.testBit 6 = true) (h : Frame W s0 s) :
    Frame W s0 { s with boot := x0, pace := x1 } :=
  { h with
    boot := fun hn => by
      rw [show Area.boot.num = 5 from rfl, h0] at hn; cases hn
    pace := fun hn => by
      rw [show Area.pace.num = 6 from rfl, h1] at hn; cases hn }

theorem Frame.flash_pace_upd {x0 : Flash} {x1 : PaceSt} (h0 : W.testBit 4 = true) (h1 : W.testBit 6 = true) (h : Frame W s0 s) :
    Frame W s0 { s with flash := x0, pace := x1 } :=
  { h with
    flash := fun hn => by
      rw [show Area.flash.num = 4 from rfl, h0] at hn; cases hn
    pace := fun hn => by
      rw [show Area.pace.num = 6 from rfl, h1] at hn; cases hn }

theorem Frame.mem_integ_upd {x0 : List Host.Cell} {x1 : IntegSt} (h0 : W.testBit 22 = true)
    (hm : Memory.wf s.mem = true → Memory.wf x0 = true) (h1 : W.testBit 20 = true) (h : Frame W s0 s) :
    Frame W s0 { s with mem := x0, integ := x1 } :=
  { h with
    memWf := fun w => hm (h.memWf w)
    mem := fun hn => by
      rw [show Area.mem.num = 22 from rfl, h0] at hn; cases hn
    integ := fun hn => by
      rw [show Area.integ.num = 20 from rfl, h1] at hn; cases hn }

theorem Frame.host_msix_upd {x0 : HostSt} {x1 : List (Nat × Nat)} (h0 : W.testBit 18 = true) (h1 : W.testBit 29 = true) (h : Frame W s0 s) :
    Frame W s0 { s with host := x0, msix := x1 } :=
  { h with
    host := fun hn => by
      rw [show Area.host.num = 18 from rfl, h0] at hn; cases hn
    msix := fun hn => by
      rw [show Area.msix.num = 29 from rfl, h1] at hn; cases hn }

theorem Frame.keep_boot_upd {x0 : Keep} {x1 : Boot} (h0 : W.testBit 3 = true) (hr : Keep.spent s.keep x0) (h1 : W.testBit 5 = true) (h : Frame W s0 s) :
    Frame W s0 { s with keep := x0, boot := x1 } :=
  { h with
    spent := Keep.spent.trans h.spent hr
    keep := fun hn => by
      rw [show Area.keep.num = 3 from rfl, h0] at hn; cases hn
    boot := fun hn => by
      rw [show Area.boot.num = 5 from rfl, h1] at hn; cases hn }

theorem Frame.replies_hiLatch_upd {x0 : Tab Reply} {x1 : Tab Word} (h0 : W.testBit 27 = true) (h1 : W.testBit 28 = true) (h : Frame W s0 s) :
    Frame W s0 { s with replies := x0, hiLatch := x1 } :=
  { h with
    replies := fun hn => by
      rw [show Area.replies.num = 27 from rfl, h0] at hn; cases hn
    hiLatch := fun hn => by
      rw [show Area.hiLatch.num = 28 from rfl, h1] at hn; cases hn }

theorem Frame.board_regs_recorder_upd {x0 : Board} {x1 : Tab Word} {x2 : Recorder} (h0 : W.testBit 1 = true) (ha : ∀ k, W.testBit (regKind k) = false → regRead x1 k = regRead s.regs k) (hb : Regs.wf s.regs = true → Regs.wf x1 = true) (h2 : W.testBit 25 = true) (h : Frame W s0 s) :
    Frame W s0 { s with board := x0, regs := x1, recorder := x2 } :=
  { h with
    board := fun hn => by
      rw [show Area.board.num = 1 from rfl, h0] at hn; cases hn
    regs := fun k hn => (ha k hn).trans (h.regs k hn)
    regsWf := fun w => hb (h.regsWf w)
    recorder := fun hn => by
      rw [show Area.recorder.num = 25 from rfl, h2] at hn; cases hn }

theorem Frame.cfg_zld_safe_upd {x0 : Running} {x1 : Zld} {x2 : SafeSt} (h0 : W.testBit 0 = true) (h1 : W.testBit 2 = true) (h2 : W.testBit 19 = true) (h : Frame W s0 s) :
    Frame W s0 { s with cfg := x0, zld := x1, safe := x2 } :=
  { h with
    cfg := fun hn => by
      rw [show Area.cfg.num = 0 from rfl, h0] at hn; cases hn
    zld := fun hn => by
      rw [show Area.zld.num = 2 from rfl, h1] at hn; cases hn
    safe := fun hn => by
      rw [show Area.safe.num = 19 from rfl, h2] at hn; cases hn }

theorem Frame.cfg_zld_route_safe_upd {x0 : Running} {x1 : Zld} {x2 : RouteSt} {x3 : SafeSt} (h0 : W.testBit 0 = true) (h1 : W.testBit 2 = true) (h2 : W.testBit 9 = true) (h3 : W.testBit 19 = true) (h : Frame W s0 s) :
    Frame W s0 { s with cfg := x0, zld := x1, route := x2, safe := x3 } :=
  { h with
    cfg := fun hn => by
      rw [show Area.cfg.num = 0 from rfl, h0] at hn; cases hn
    zld := fun hn => by
      rw [show Area.zld.num = 2 from rfl, h1] at hn; cases hn
    route := fun hn => by
      rw [show Area.route.num = 9 from rfl, h2] at hn; cases hn
    safe := fun hn => by
      rw [show Area.safe.num = 19 from rfl, h3] at hn; cases hn }

theorem Frame.boot_cores_lane_time_peer_host_safe_integ_power_recorder_upd {x0 : Boot} {x1 : CoreMapSt} {x2 : Lanes} {x3 : TimeSt} {x4 : PeerSt} {x5 : HostSt} {x6 : SafeSt} {x7 : IntegSt} {x8 : Power} {x9 : Recorder} (h0 : W.testBit 5 = true) (h1 : W.testBit 7 = true) (h2 : W.testBit 11 = true) (h3 : W.testBit 16 = true) (h4 : W.testBit 17 = true) (h5 : W.testBit 18 = true) (h6 : W.testBit 19 = true) (h7 : W.testBit 20 = true) (h8 : W.testBit 21 = true) (h9 : W.testBit 25 = true) (h : Frame W s0 s) :
    Frame W s0 { s with boot := x0, cores := x1, lane := x2, time := x3, peer := x4, host := x5, safe := x6, integ := x7, power := x8, recorder := x9 } :=
  { h with
    boot := fun hn => by
      rw [show Area.boot.num = 5 from rfl, h0] at hn; cases hn
    cores := fun hn => by
      rw [show Area.cores.num = 7 from rfl, h1] at hn; cases hn
    lane := fun hn => by
      rw [show Area.lane.num = 11 from rfl, h2] at hn; cases hn
    time := fun hn => by
      rw [show Area.time.num = 16 from rfl, h3] at hn; cases hn
    peer := fun hn => by
      rw [show Area.peer.num = 17 from rfl, h4] at hn; cases hn
    host := fun hn => by
      rw [show Area.host.num = 18 from rfl, h5] at hn; cases hn
    safe := fun hn => by
      rw [show Area.safe.num = 19 from rfl, h6] at hn; cases hn
    integ := fun hn => by
      rw [show Area.integ.num = 20 from rfl, h7] at hn; cases hn
    power := fun hn => by
      rw [show Area.power.num = 21 from rfl, h8] at hn; cases hn
    recorder := fun hn => by
      rw [show Area.recorder.num = 25 from rfl, h9] at hn; cases hn }

/-! ### Memory -/

theorem State.putBytes_frame {a : Nat} {bs : List Byte} (hw : W.testBit 22 = true) (h : Frame W s0 s) :
    Frame W s0 (s.putBytes a bs) := Frame.mem_upd hw (memWf_memPutAll bs s.mem a) h

theorem State.wr_frame {a n v : Nat} (hw : W.testBit 22 = true) (h : Frame W s0 s) : Frame W s0 (s.wr a n v) :=
  State.putBytes_frame hw h

end Sys2Proof.Machine
end

