-- ==== Sys2Proof/Laws/Kinds.lean ====
section
/-! SUPPORT. The number of every register field's register. -/

set_option linter.all false

namespace Sys2Proof.Machine

theorem regKind_cap {k : Nat} (_h1 : 0x0 ≤ k % 0x4000000) (h2 : k % 0x4000000 < 0x10000) :
    regKind k = kindCap (k % 0x4000000) := by
  simp only [regKind]; rw [if_pos (by omega)]

theorem regKind_zld {k : Nat} (h1 : 0x10000 ≤ k % 0x4000000) (h2 : k % 0x4000000 < 0x20000) :
    regKind k = kindZld (k % 0x4000000) := by
  simp only [regKind]; rw [if_neg (by omega), if_pos (by omega)]

theorem regKind_keep {k : Nat} (h1 : 0x20000 ≤ k % 0x4000000) (h2 : k % 0x4000000 < 0x30000) :
    regKind k = kindKeep (k % 0x4000000) := by
  simp only [regKind]; rw [if_neg (by omega), if_neg (by omega), if_pos (by omega)]

theorem regKind_pace {k : Nat} (h1 : 0x30000 ≤ k % 0x4000000) (h2 : k % 0x4000000 < 0x40000) :
    regKind k = kindPace (k % 0x4000000) := by
  simp only [regKind]; (iterate 3 rw [if_neg (by omega)]); rw [if_pos (by omega)]

theorem regKind_route {k : Nat} (h1 : 0x40000 ≤ k % 0x4000000) (h2 : k % 0x4000000 < 0x60000) :
    regKind k = kindRoute (k % 0x4000000) := by
  simp only [regKind]; (iterate 4 rw [if_neg (by omega)]); rw [if_pos (by omega)]

theorem regKind_host {k : Nat} (h1 : 0x60000 ≤ k % 0x4000000) (h2 : k % 0x4000000 < 0x80000) :
    regKind k = kindHost (k % 0x4000000) := by
  simp only [regKind]; (iterate 5 rw [if_neg (by omega)]); rw [if_pos (by omega)]

theorem regKind_lane {k : Nat} (h1 : 0x80000 ≤ k % 0x4000000) (h2 : k % 0x4000000 < 0xa0000) :
    regKind k = kindLane (k % 0x4000000) := by
  simp only [regKind]; (iterate 6 rw [if_neg (by omega)]); rw [if_pos (by omega)]

theorem regKind_isp {k : Nat} (h1 : 0xa0000 ≤ k % 0x4000000) (h2 : k % 0x4000000 < 0xc0000) :
    regKind k = kindIsp (k % 0x4000000) := by
  simp only [regKind]; (iterate 7 rw [if_neg (by omega)]); rw [if_pos (by omega)]

theorem regKind_ingest {k : Nat} (h1 : 0xc0000 ≤ k % 0x4000000) (h2 : k % 0x4000000 < 0xd0000) :
    regKind k = kindIngest (k % 0x4000000) := by
  simp only [regKind]; (iterate 8 rw [if_neg (by omega)]); rw [if_pos (by omega)]

theorem regKind_kv {k : Nat} (h1 : 0xd0000 ≤ k % 0x4000000) (h2 : k % 0x4000000 < 0xe0000) :
    regKind k = kindKv (k % 0x4000000) := by
  simp only [regKind]; (iterate 9 rw [if_neg (by omega)]); rw [if_pos (by omega)]

theorem regKind_mot {k : Nat} (h1 : 0xe0000 ≤ k % 0x4000000) (h2 : k % 0x4000000 < 0xf0000) :
    regKind k = kindMot (k % 0x4000000) := by
  simp only [regKind]; (iterate 10 rw [if_neg (by omega)]); rw [if_pos (by omega)]

theorem regKind_fio {k : Nat} (h1 : 0xf0000 ≤ k % 0x4000000) (h2 : k % 0x4000000 < 0x100000) :
    regKind k = kindFio (k % 0x4000000) := by
  simp only [regKind]; (iterate 11 rw [if_neg (by omega)]); rw [if_pos (by omega)]

theorem regKind_time {k : Nat} (h1 : 0x100000 ≤ k % 0x4000000) (h2 : k % 0x4000000 < 0x110000) :
    regKind k = kindTime (k % 0x4000000) := by
  simp only [regKind]; (iterate 12 rw [if_neg (by omega)]); rw [if_pos (by omega)]

theorem regKind_peer {k : Nat} (h1 : 0x110000 ≤ k % 0x4000000) (h2 : k % 0x4000000 < 0x120000) :
    regKind k = kindPeer (k % 0x4000000) := by
  simp only [regKind]; (iterate 13 rw [if_neg (by omega)]); rw [if_pos (by omega)]

theorem regKind_safe {k : Nat} (h1 : 0x120000 ≤ k % 0x4000000) (h2 : k % 0x4000000 < 0x130000) :
    regKind k = kindSafe (k % 0x4000000) := by
  simp only [regKind]; (iterate 14 rw [if_neg (by omega)]); rw [if_pos (by omega)]

theorem regKind_integ {k : Nat} (h1 : 0x130000 ≤ k % 0x4000000) (h2 : k % 0x4000000 < 0x140000) :
    regKind k = kindInteg (k % 0x4000000) := by
  simp only [regKind]; (iterate 15 rw [if_neg (by omega)]); rw [if_pos (by omega)]

theorem regKind_waym {k : Nat} (h1 : 0x140000 ≤ k % 0x4000000) (h2 : k % 0x4000000 < 0x150000) :
    regKind k = kindWaym (k % 0x4000000) := by
  simp only [regKind]; (iterate 16 rw [if_neg (by omega)]); rw [if_pos (by omega)]

theorem regKind_perf {k : Nat} (h1 : 0x150000 ≤ k % 0x4000000) (h2 : k % 0x4000000 < 0x200000) :
    regKind k = kindPerf (k % 0x4000000) := by
  simp only [regKind]; (iterate 17 rw [if_neg (by omega)]); rw [if_pos (by omega)]

theorem regKind_core {k : Nat} (h1 : 0x200000 ≤ k % 0x4000000) (_h2 : k % 0x4000000 < 0x4000000) :
    regKind k = kindCore (k % 0x4000000) := by
  simp only [regKind]; (iterate 18 rw [if_neg (by omega)])

@[simp] theorem F.CAP_BOARD_SUPPLY_v48_kind : regKind (F.CAP_BOARD_SUPPLY_v48).key = 47 := by decide
@[simp] theorem F.CAP_BOARD_SUPPLY_v24_kind : regKind (F.CAP_BOARD_SUPPLY_v24).key = 47 := by decide
@[simp] theorem F.CAP_BOARD_POWER_p48_kind : regKind (F.CAP_BOARD_POWER_p48).key = 48 := by decide
@[simp] theorem F.CAP_BOARD_COOLANT_inlet_kind : regKind (F.CAP_BOARD_COOLANT_inlet).key = 49 := by decide
@[simp] theorem F.CAP_BOARD_COOLANT_outlet_kind : regKind (F.CAP_BOARD_COOLANT_outlet).key = 49 := by decide
@[simp] theorem F.CAP_BOARD_COOLANT_flow_kind : regKind (F.CAP_BOARD_COOLANT_flow).key = 49 := by decide
@[simp] theorem F.CAP_BOARD_TEMP_die0_kind : regKind (F.CAP_BOARD_TEMP_die0).key = 50 := by decide
@[simp] theorem F.CAP_BOARD_TEMP_die1_kind : regKind (F.CAP_BOARD_TEMP_die1).key = 50 := by decide
@[simp] theorem F.CAP_BOARD_TEMP_hub_kind : regKind (F.CAP_BOARD_TEMP_hub).key = 50 := by decide
@[simp] theorem F.CAP_BOARD_TEMP_hbm_kind : regKind (F.CAP_BOARD_TEMP_hbm).key = 50 := by decide
@[simp] theorem F.CAP_BOARD_STATUS_dip_seen_kind : regKind (F.CAP_BOARD_STATUS_dip_seen).key = 51 := by decide
@[simp] theorem F.CAP_BOARD_STATUS_field_low_kind : regKind (F.CAP_BOARD_STATUS_field_low).key = 51 := by decide
@[simp] theorem F.CAP_BOARD_STATUS_group_low_kind : regKind (F.CAP_BOARD_STATUS_group_low).key = 51 := by decide
@[simp] theorem F.CAP_BOARD_STATUS_coolant_range_kind : regKind (F.CAP_BOARD_STATUS_coolant_range).key = 51 := by decide
@[simp] theorem F.CAP_BOARD_STATUS_derated_kind : regKind (F.CAP_BOARD_STATUS_derated).key = 51 := by decide
@[simp] theorem F.CAP_BOARD_STATUS_cage_present_kind : regKind (F.CAP_BOARD_STATUS_cage_present).key = 51 := by decide
@[simp] theorem F.CAP_BOARD_STATUS_peer_present_kind : regKind (F.CAP_BOARD_STATUS_peer_present).key = 51 := by decide
@[simp] theorem F.CAP_BOARD_STATUS_time_present_kind : regKind (F.CAP_BOARD_STATUS_time_present).key = 51 := by decide
@[simp] theorem F.CAP_BOARD_STATUS_last_off_overvoltage_kind : regKind (F.CAP_BOARD_STATUS_last_off_overvoltage).key = 51 := by decide
@[simp] theorem F.CAP_BOARD_LED_locate_kind : regKind (F.CAP_BOARD_LED_locate).key = 52 := by decide
@[simp] theorem F.ZLD_STATUS_state_kind : regKind (F.ZLD_STATUS_state).key = 54 := by decide
@[simp] theorem F.ZLD_STATUS_session_port_kind : regKind (F.ZLD_STATUS_session_port).key = 54 := by decide
@[simp] theorem F.ZLD_STATUS_restart_pending_kind : regKind (F.ZLD_STATUS_restart_pending).key = 54 := by decide
@[simp] theorem F.ZLD_STATUS_armed_kind : regKind (F.ZLD_STATUS_armed).key = 54 := by decide
@[simp] theorem F.ZLD_STATUS_full_armed_kind : regKind (F.ZLD_STATUS_full_armed).key = 54 := by decide
@[simp] theorem F.ZLD_PROGRESS_bytes_kind : regKind (F.ZLD_PROGRESS_bytes).key = 58 := by decide
@[simp] theorem F.ZLD_RESULT_code_kind (i : Nat) : regKind (F.ZLD_RESULT_code i).key = 59 := by
  simp only [F.ZLD_RESULT_code, portBank]
  have h0 : i % 4 < 4 := Nat.mod_lt _ (by decide)
  generalize i % 4 = m0 at *
  have e : (0x10018 + (m0 + 1) * 0x4000000) % 0x4000000 = 0x10018 := by omega
  rw [regKind_zld (by omega) (by omega), e]; unfold kindZld; rw [if_pos (by omega)]; all_goals omega
@[simp] theorem F.ZLD_RESULT_section_kind (i : Nat) : regKind (F.ZLD_RESULT_section i).key = 59 := F.ZLD_RESULT_code_kind i
@[simp] theorem F.ZLD_RESULT_item_kind (i : Nat) : regKind (F.ZLD_RESULT_item i).key = 59 := F.ZLD_RESULT_code_kind i
@[simp] theorem F.ZLD_ACTIVE_slot_kind : regKind (F.ZLD_ACTIVE_slot).key = 60 := by decide
@[simp] theorem F.ZLD_ACTIVE_epoch_kind : regKind (F.ZLD_ACTIVE_epoch).key = 60 := by decide
@[simp] theorem F.ZLD_ACTIVE_upkeep_left_kind : regKind (F.ZLD_ACTIVE_upkeep_left).key = 60 := by decide
@[simp] theorem F.ZLD_ACTIVE_upkeep_mode_kind : regKind (F.ZLD_ACTIVE_upkeep_mode).key = 60 := by decide
@[simp] theorem F.ZLD_ACTIVE_factory_structure_kind : regKind (F.ZLD_ACTIVE_factory_structure).key = 60 := by decide
@[simp] theorem F.ZLD_BUILD_build_kind : regKind (F.ZLD_BUILD_build).key = 61 := by decide
@[simp] theorem F.ZLD_DIGEST_word_kind (i : Nat) : regKind (F.ZLD_DIGEST_word i).key = 62 := by
  simp only [F.ZLD_DIGEST_word]
  have h0 : i % 16 < 16 := Nat.mod_lt _ (by decide)
  generalize i % 16 = m0 at *
  have e : (0x10040 + 0x4 * m0) % 0x4000000 = 0x10040 + 0x4 * m0 := by omega
  rw [regKind_zld (by omega) (by omega), e]; unfold kindZld; rw [if_neg (by omega), if_pos (by omega)]; all_goals omega
@[simp] theorem F.ZLD_OVERLAY_present_kind (p : Nat) : regKind (F.ZLD_OVERLAY_present p).key = 63 := by
  simp only [F.ZLD_OVERLAY_present]
  have h0 : p % 8 < 8 := Nat.mod_lt _ (by decide)
  generalize p % 8 = m0 at *
  have e : (0x10080 + 0x4 * m0) % 0x4000000 = 0x10080 + 0x4 * m0 := by omega
  rw [regKind_zld (by omega) (by omega), e]; unfold kindZld; rw [if_neg (by omega), if_neg (by omega), if_pos (by omega)]; all_goals omega
@[simp] theorem F.ZLD_OVERLAY_slot_kind (p : Nat) : regKind (F.ZLD_OVERLAY_slot p).key = 63 := F.ZLD_OVERLAY_present_kind p
@[simp] theorem F.ZLD_OVERLAY_build_kind (p : Nat) : regKind (F.ZLD_OVERLAY_build p).key = 63 := F.ZLD_OVERLAY_present_kind p
@[simp] theorem F.ZLD_LANDED_period_kind : regKind (F.ZLD_LANDED_period).key = 64 := by decide
@[simp] theorem F.ZLD_LANDED_target_kind : regKind (F.ZLD_LANDED_target).key = 64 := by decide
@[simp] theorem F.KEEP_STATUS_identity_kind : regKind (F.KEEP_STATUS_identity).key = 65 := by decide
@[simp] theorem F.KEEP_STATUS_owned_kind : regKind (F.KEEP_STATUS_owned).key = 65 := by decide
@[simp] theorem F.KEEP_STATUS_boot_phase_kind : regKind (F.KEEP_STATUS_boot_phase).key = 65 := by decide
@[simp] theorem F.KEEP_STATUS_baseline_present_kind : regKind (F.KEEP_STATUS_baseline_present).key = 65 := by decide
@[simp] theorem F.KEEP_STATUS_fw_slot_kind : regKind (F.KEEP_STATUS_fw_slot).key = 65 := by decide
@[simp] theorem F.KEEP_STATUS_fw_fallback_kind : regKind (F.KEEP_STATUS_fw_fallback).key = 65 := by decide
@[simp] theorem F.KEEP_STATUS_restarted_kind : regKind (F.KEEP_STATUS_restarted).key = 65 := by decide
@[simp] theorem F.KEEP_POWER_CYCLES_count_kind : regKind (F.KEEP_POWER_CYCLES_count).key = 66 := by decide
@[simp] theorem F.KEEP_OP_SECONDS_LO_seconds_kind : regKind (F.KEEP_OP_SECONDS_LO_seconds).key = 67 := by decide
@[simp] theorem F.KEEP_OP_SECONDS_HI_seconds_kind : regKind (F.KEEP_OP_SECONDS_HI_seconds).key = 68 := by decide
@[simp] theorem F.KEEP_RATCHET_owner_left_kind : regKind (F.KEEP_RATCHET_owner_left).key = 69 := by decide
@[simp] theorem F.KEEP_RATCHET_epoch_left_kind : regKind (F.KEEP_RATCHET_epoch_left).key = 69 := by decide
@[simp] theorem F.KEEP_RATCHET_safety_left_kind : regKind (F.KEEP_RATCHET_safety_left).key = 69 := by decide
@[simp] theorem F.KEEP_RATCHET_upkeep_left_kind : regKind (F.KEEP_RATCHET_upkeep_left).key = 69 := by decide
@[simp] theorem F.KEEP_DEVICE_ID_word_kind (i : Nat) : regKind (F.KEEP_DEVICE_ID_word i).key = 70 := by
  simp only [F.KEEP_DEVICE_ID_word]
  have h0 : i % 2 < 2 := Nat.mod_lt _ (by decide)
  generalize i % 2 = m0 at *
  have e : (0x20020 + 0x4 * m0) % 0x4000000 = 0x20020 + 0x4 * m0 := by omega
  rw [regKind_keep (by omega) (by omega), e]; unfold kindKeep; rw [if_neg (by omega), if_pos (by omega)]; all_goals omega
@[simp] theorem F.KEEP_OWNER_KEY_word_kind (i : Nat) : regKind (F.KEEP_OWNER_KEY_word i).key = 71 := by
  simp only [F.KEEP_OWNER_KEY_word]
  have h0 : i % 16 < 16 := Nat.mod_lt _ (by decide)
  generalize i % 16 = m0 at *
  have e : (0x20040 + 0x4 * m0) % 0x4000000 = 0x20040 + 0x4 * m0 := by omega
  rw [regKind_keep (by omega) (by omega), e]; unfold kindKeep; rw [if_neg (by omega), if_neg (by omega), if_pos (by omega)]; all_goals omega
@[simp] theorem F.KEEP_SIGNERS_count_kind : regKind (F.KEEP_SIGNERS_count).key = 72 := by decide
@[simp] theorem F.KEEP_SELFTEST_failed_cores_kind : regKind (F.KEEP_SELFTEST_failed_cores).key = 73 := by decide
@[simp] theorem F.KEEP_SELFTEST_failed_unit_kind : regKind (F.KEEP_SELFTEST_failed_unit).key = 73 := by decide
@[simp] theorem F.KEEP_SELFTEST_boot_ms_kind : regKind (F.KEEP_SELFTEST_boot_ms).key = 73 := by decide
@[simp] theorem F.PACE_STATUS_pace_kind : regKind (F.PACE_STATUS_pace).key = 74 := by decide
@[simp] theorem F.PACE_STATUS_planned_pace_kind : regKind (F.PACE_STATUS_planned_pace).key = 74 := by decide
@[simp] theorem F.PACE_STATUS_metronome_lock_kind : regKind (F.PACE_STATUS_metronome_lock).key = 74 := by decide
@[simp] theorem F.PACE_STATUS_derated_kind : regKind (F.PACE_STATUS_derated).key = 74 := by decide
@[simp] theorem F.PACE_STATUS_reduced_rating_kind : regKind (F.PACE_STATUS_reduced_rating).key = 74 := by decide
@[simp] theorem F.PACE_STATUS_window_open_kind : regKind (F.PACE_STATUS_window_open).key = 74 := by decide
@[simp] theorem F.PACE_STATUS_upkeep_mode_kind : regKind (F.PACE_STATUS_upkeep_mode).key = 74 := by decide
@[simp] theorem F.PACE_PERIOD_us_kind : regKind (F.PACE_PERIOD_us).key = 75 := by decide
@[simp] theorem F.PACE_MODE_free_kind : regKind (F.PACE_MODE_free).key = 76 := by decide
@[simp] theorem F.PACE_PLAN_STATUS_minutes_left_kind : regKind (F.PACE_PLAN_STATUS_minutes_left).key = 78 := by decide
@[simp] theorem F.PACE_PLAN_STATUS_proposal_pending_kind : regKind (F.PACE_PLAN_STATUS_proposal_pending).key = 78 := by decide
@[simp] theorem F.PACE_PLAN_STATUS_proposed_pace_kind : regKind (F.PACE_PLAN_STATUS_proposed_pace).key = 78 := by decide
@[simp] theorem F.PACE_PLAN_STATUS_refusal_kind : regKind (F.PACE_PLAN_STATUS_refusal).key = 78 := by decide
@[simp] theorem F.PACE_TABLE0_rated_pace_kind : regKind (F.PACE_TABLE0_rated_pace).key = 79 := by decide
@[simp] theorem F.PACE_TABLE0_pace_ceiling_kind : regKind (F.PACE_TABLE0_pace_ceiling).key = 79 := by decide
@[simp] theorem F.PACE_TABLE0_guard_kind : regKind (F.PACE_TABLE0_guard).key = 79 := by decide
@[simp] theorem F.PACE_TABLE1_pace_step_kind : regKind (F.PACE_TABLE1_pace_step).key = 80 := by decide
@[simp] theorem F.PACE_TABLE1_v_step_kind : regKind (F.PACE_TABLE1_v_step).key = 80 := by decide
@[simp] theorem F.PACE_TABLE1_v_ceiling_kind : regKind (F.PACE_TABLE1_v_ceiling).key = 80 := by decide
@[simp] theorem F.PACE_TABLE1_horizon_kind : regKind (F.PACE_TABLE1_horizon).key = 80 := by decide
@[simp] theorem F.PACE_DIE_voltage_kind (d : Nat) : regKind (F.PACE_DIE_voltage d).key = 81 := by
  simp only [F.PACE_DIE_voltage]
  have h0 : d % 2 < 2 := Nat.mod_lt _ (by decide)
  generalize d % 2 = m0 at *
  have e : (0x30020 + 0x4 * m0) % 0x4000000 = 0x30020 + 0x4 * m0 := by omega
  rw [regKind_pace (by omega) (by omega), e]; unfold kindPace; rw [if_neg (by omega), if_pos (by omega)]; all_goals omega
@[simp] theorem F.PACE_DIE_v_start_kind (d : Nat) : regKind (F.PACE_DIE_v_start d).key = 81 := F.PACE_DIE_voltage_kind d
@[simp] theorem F.PACE_DIE_at_ceiling_kind (d : Nat) : regKind (F.PACE_DIE_at_ceiling d).key = 81 := F.PACE_DIE_voltage_kind d
@[simp] theorem F.PACE_DIE_least_slack_kind (d : Nat) : regKind (F.PACE_DIE_least_slack d).key = 81 := F.PACE_DIE_voltage_kind d
@[simp] theorem F.PACE_SLACK_slack_kind (c : Nat) : regKind (F.PACE_SLACK_slack c).key = 82 := by
  simp only [F.PACE_SLACK_slack]
  have h0 : c % 40 < 40 := Nat.mod_lt _ (by decide)
  generalize c % 40 = m0 at *
  have e : (0x30100 + 0x4 * m0) % 0x4000000 = 0x30100 + 0x4 * m0 := by omega
  rw [regKind_pace (by omega) (by omega), e]; unfold kindPace; rw [if_neg (by omega), if_neg (by omega), if_pos (by omega)]; all_goals omega
@[simp] theorem F.PACE_SLACK_baseline_kind (c : Nat) : regKind (F.PACE_SLACK_baseline c).key = 82 := F.PACE_SLACK_slack_kind c
@[simp] theorem F.PACE_SLACK_trend_kind (c : Nat) : regKind (F.PACE_SLACK_trend c).key = 82 := F.PACE_SLACK_slack_kind c
@[simp] theorem F.PACE_MISS_count_kind (c : Nat) : regKind (F.PACE_MISS_count c).key = 83 := by
  simp only [F.PACE_MISS_count]
  have h0 : c % 40 < 40 := Nat.mod_lt _ (by decide)
  generalize c % 40 = m0 at *
  have e : (0x30200 + 0x4 * m0) % 0x4000000 = 0x30200 + 0x4 * m0 := by omega
  rw [regKind_pace (by omega) (by omega), e]; unfold kindPace; (iterate 3 rw [if_neg (by omega)]); rw [if_pos (by omega)]; all_goals omega
@[simp] theorem F.PACE_OVERRUN_count_kind (p : Nat) : regKind (F.PACE_OVERRUN_count p).key = 84 := by
  simp only [F.PACE_OVERRUN_count]
  have h0 : p % 8 < 8 := Nat.mod_lt _ (by decide)
  generalize p % 8 = m0 at *
  have e : (0x30300 + 0x4 * m0) % 0x4000000 = 0x30300 + 0x4 * m0 := by omega
  rw [regKind_pace (by omega) (by omega), e]; unfold kindPace; (iterate 4 rw [if_neg (by omega)]); rw [if_pos (by omega)]; all_goals omega
@[simp] theorem F.PACE_HUB_slack_kind : regKind (F.PACE_HUB_slack).key = 85 := by decide
@[simp] theorem F.PACE_HUB_misses_kind : regKind (F.PACE_HUB_misses).key = 85 := by decide
@[simp] theorem F.PACE_BRIDGE_full_kind (i : Nat) : regKind (F.PACE_BRIDGE_full i).key = 86 := by
  simp only [F.PACE_BRIDGE_full]
  have h0 : i % 126 < 126 := Nat.mod_lt _ (by decide)
  generalize i % 126 = m0 at *
  have e : (0x30480 + 0x4 * m0) % 0x4000000 = 0x30480 + 0x4 * m0 := by omega
  rw [regKind_pace (by omega) (by omega), e]; unfold kindPace; (iterate 6 rw [if_neg (by omega)]); rw [if_pos (by omega)]; all_goals omega
@[simp] theorem F.PACE_HUBFW_STATUS_state_kind : regKind (F.PACE_HUBFW_STATUS_state).key = 88 := by decide
@[simp] theorem F.PACE_HUBFW_STATUS_active_slot_kind : regKind (F.PACE_HUBFW_STATUS_active_slot).key = 88 := by decide
@[simp] theorem F.PACE_HUBFW_STATUS_trial_kind : regKind (F.PACE_HUBFW_STATUS_trial).key = 88 := by decide
@[simp] theorem F.PACE_HUBFW_STATUS_standby_s_kind : regKind (F.PACE_HUBFW_STATUS_standby_s).key = 88 := by decide
@[simp] theorem F.CORE_ID_physical_kind (c : Nat) : regKind (F.CORE_ID_physical c).key = 367 := by
  simp only [F.CORE_ID_physical]
  have h0 : c % 40 < 40 := Nat.mod_lt _ (by decide)
  generalize c % 40 = m0 at *
  have e : (0x200000 + 0x10000 * m0) % 0x4000000 = 0x200000 + 0x10000 * m0 := by omega
  rw [regKind_core (by omega) (by omega), e]; unfold kindCore; rw [if_pos (by omega)]; all_goals first | omega | (dsimp only; (repeat' split) <;> omega)
@[simp] theorem F.CORE_ID_cluster_kind (c : Nat) : regKind (F.CORE_ID_cluster c).key = 367 := F.CORE_ID_physical_kind c
@[simp] theorem F.CORE_ID_die_kind (c : Nat) : regKind (F.CORE_ID_die c).key = 367 := F.CORE_ID_physical_kind c
@[simp] theorem F.CORE_ID_logical_kind (c : Nat) : regKind (F.CORE_ID_logical c).key = 367 := F.CORE_ID_physical_kind c
@[simp] theorem F.CORE_ID_role_kind (c : Nat) : regKind (F.CORE_ID_role c).key = 367 := F.CORE_ID_physical_kind c
@[simp] theorem F.CORE_STATUS_partition_kind (c : Nat) : regKind (F.CORE_STATUS_partition c).key = 368 := by
  simp only [F.CORE_STATUS_partition]
  have h0 : c % 40 < 40 := Nat.mod_lt _ (by decide)
  generalize c % 40 = m0 at *
  have e : (0x200004 + 0x10000 * m0) % 0x4000000 = 0x200004 + 0x10000 * m0 := by omega
  rw [regKind_core (by omega) (by omega), e]; unfold kindCore; rw [if_pos (by omega)]; all_goals first | omega | (dsimp only; (repeat' split) <;> omega)
@[simp] theorem F.CORE_STATUS_in_partition_kind (c : Nat) : regKind (F.CORE_STATUS_in_partition c).key = 368 := F.CORE_STATUS_partition_kind c
@[simp] theorem F.CORE_STATUS_paced_kind (c : Nat) : regKind (F.CORE_STATUS_paced c).key = 368 := F.CORE_STATUS_partition_kind c
@[simp] theorem F.CORE_STATUS_sheet_running_kind (c : Nat) : regKind (F.CORE_STATUS_sheet_running c).key = 368 := F.CORE_STATUS_partition_kind c
@[simp] theorem F.CORE_STATUS_backlog_kind (c : Nat) : regKind (F.CORE_STATUS_backlog c).key = 368 := F.CORE_STATUS_partition_kind c
@[simp] theorem F.CORE_FAIL_cause_kind (c : Nat) : regKind (F.CORE_FAIL_cause c).key = 370 := by
  simp only [F.CORE_FAIL_cause]
  have h0 : c % 40 < 40 := Nat.mod_lt _ (by decide)
  generalize c % 40 = m0 at *
  have e : (0x20000c + 0x10000 * m0) % 0x4000000 = 0x20000c + 0x10000 * m0 := by omega
  rw [regKind_core (by omega) (by omega), e]; unfold kindCore; rw [if_pos (by omega)]; all_goals first | omega | (dsimp only; (repeat' split) <;> omega)
@[simp] theorem F.CORE_FAIL_period_kind (c : Nat) : regKind (F.CORE_FAIL_period c).key = 370 := F.CORE_FAIL_cause_kind c
@[simp] theorem F.CORE_SRAM_ERR_corrected_kind (c : Nat) : regKind (F.CORE_SRAM_ERR_corrected c).key = 371 := by
  simp only [F.CORE_SRAM_ERR_corrected]
  have h0 : c % 40 < 40 := Nat.mod_lt _ (by decide)
  generalize c % 40 = m0 at *
  have e : (0x200010 + 0x10000 * m0) % 0x4000000 = 0x200010 + 0x10000 * m0 := by omega
  rw [regKind_core (by omega) (by omega), e]; unfold kindCore; rw [if_pos (by omega)]; all_goals first | omega | (dsimp only; (repeat' split) <;> omega)
@[simp] theorem F.CORE_SRAM_ERR_uncorrectable_kind (c : Nat) : regKind (F.CORE_SRAM_ERR_uncorrectable c).key = 371 := F.CORE_SRAM_ERR_corrected_kind c
@[simp] theorem F.CORE_SPARE_TEST_passed_kind (c : Nat) : regKind (F.CORE_SPARE_TEST_passed c).key = 372 := by
  simp only [F.CORE_SPARE_TEST_passed]
  have h0 : c % 40 < 40 := Nat.mod_lt _ (by decide)
  generalize c % 40 = m0 at *
  have e : (0x200014 + 0x10000 * m0) % 0x4000000 = 0x200014 + 0x10000 * m0 := by omega
  rw [regKind_core (by omega) (by omega), e]; unfold kindCore; rw [if_pos (by omega)]; all_goals first | omega | (dsimp only; (repeat' split) <;> omega)
@[simp] theorem F.CORE_CLUSTER_spare_left_kind (c : Nat) : regKind (F.CORE_CLUSTER_spare_left c).key = 373 := by
  simp only [F.CORE_CLUSTER_spare_left]
  have h0 : c % 40 < 40 := Nat.mod_lt _ (by decide)
  generalize c % 40 = m0 at *
  have e : (0x200100 + 0x10000 * m0) % 0x4000000 = 0x200100 + 0x10000 * m0 := by omega
  rw [regKind_core (by omega) (by omega), e]; unfold kindCore; rw [if_pos (by omega)]; all_goals first | omega | (dsimp only; (repeat' split) <;> omega)
@[simp] theorem F.CORE_CLUSTER_spare_index_kind (c : Nat) : regKind (F.CORE_CLUSTER_spare_index c).key = 373 := F.CORE_CLUSTER_spare_left_kind c
@[simp] theorem F.CORE_CLUSTER_lost_kind (c : Nat) : regKind (F.CORE_CLUSTER_lost c).key = 373 := F.CORE_CLUSTER_spare_left_kind c
@[simp] theorem F.CORE_CLUSTER_failed_kind (c : Nat) : regKind (F.CORE_CLUSTER_failed c).key = 373 := F.CORE_CLUSTER_spare_left_kind c
@[simp] theorem F.CORE_CLUSTER_detours_kind (c : Nat) : regKind (F.CORE_CLUSTER_detours c).key = 373 := F.CORE_CLUSTER_spare_left_kind c
@[simp] theorem F.CORE_MAP_physical_kind (c : Nat) : regKind (F.CORE_MAP_physical c).key = 374 := by
  simp only [F.CORE_MAP_physical]
  have h0 : c % 40 < 40 := Nat.mod_lt _ (by decide)
  generalize c % 40 = m0 at *
  have e : (0x200104 + 0x10000 * m0) % 0x4000000 = 0x200104 + 0x10000 * m0 := by omega
  rw [regKind_core (by omega) (by omega), e]; unfold kindCore; rw [if_pos (by omega)]; all_goals first | omega | (dsimp only; (repeat' split) <;> omega)
@[simp] theorem F.KV_STATUS_pool_total_kind : regKind (F.KV_STATUS_pool_total).key = 193 := by decide
@[simp] theorem F.KV_STATUS_sequences_kind : regKind (F.KV_STATUS_sequences).key = 193 := by decide
@[simp] theorem F.KV_CMD_STATUS_code_kind (i : Nat) : regKind (F.KV_CMD_STATUS_code i).key = 195 := by
  simp only [F.KV_CMD_STATUS_code, portBank]
  have h0 : i % 4 < 4 := Nat.mod_lt _ (by decide)
  generalize i % 4 = m0 at *
  have e : (0xd0008 + (m0 + 1) * 0x4000000) % 0x4000000 = 0xd0008 := by omega
  rw [regKind_kv (by omega) (by omega), e]; unfold kindKv; rw [if_pos (by omega)]; all_goals omega
@[simp] theorem F.KV_CMD_STATUS_count_kind (i : Nat) : regKind (F.KV_CMD_STATUS_count i).key = 195 := F.KV_CMD_STATUS_code_kind i
@[simp] theorem F.KV_CMD_STATUS2_generation_kind (i : Nat) : regKind (F.KV_CMD_STATUS2_generation i).key = 196 := by
  simp only [F.KV_CMD_STATUS2_generation, portBank]
  have h0 : i % 4 < 4 := Nat.mod_lt _ (by decide)
  generalize i % 4 = m0 at *
  have e : (0xd000c + (m0 + 1) * 0x4000000) % 0x4000000 = 0xd000c := by omega
  rw [regKind_kv (by omega) (by omega), e]; unfold kindKv; rw [if_pos (by omega)]; all_goals omega
@[simp] theorem F.KV_POOL_pages_kind (p : Nat) : regKind (F.KV_POOL_pages p).key = 197 := by
  simp only [F.KV_POOL_pages]
  have h0 : p % 8 < 8 := Nat.mod_lt _ (by decide)
  generalize p % 8 = m0 at *
  have e : (0xd0100 + 0x20 * m0) % 0x4000000 = 0xd0100 + 0x20 * m0 := by omega
  rw [regKind_kv (by omega) (by omega), e]; unfold kindKv; rw [if_neg (by omega), if_pos (by omega)]; all_goals omega
@[simp] theorem F.KV_FREE_pages_kind (p : Nat) : regKind (F.KV_FREE_pages p).key = 198 := by
  simp only [F.KV_FREE_pages]
  have h0 : p % 8 < 8 := Nat.mod_lt _ (by decide)
  generalize p % 8 = m0 at *
  have e : (0xd0104 + 0x20 * m0) % 0x4000000 = 0xd0104 + 0x20 * m0 := by omega
  rw [regKind_kv (by omega) (by omega), e]; unfold kindKv; rw [if_neg (by omega), if_pos (by omega)]; all_goals omega
@[simp] theorem F.KV_CHARGE_pages_kind (p : Nat) : regKind (F.KV_CHARGE_pages p).key = 199 := by
  simp only [F.KV_CHARGE_pages]
  have h0 : p % 8 < 8 := Nat.mod_lt _ (by decide)
  generalize p % 8 = m0 at *
  have e : (0xd0108 + 0x20 * m0) % 0x4000000 = 0xd0108 + 0x20 * m0 := by omega
  rw [regKind_kv (by omega) (by omega), e]; unfold kindKv; rw [if_neg (by omega), if_pos (by omega)]; all_goals omega
@[simp] theorem F.KV_CHARGE_over_quota_kind (p : Nat) : regKind (F.KV_CHARGE_over_quota p).key = 199 := F.KV_CHARGE_pages_kind p
@[simp] theorem F.KV_LIMBO_pages_kind (p : Nat) : regKind (F.KV_LIMBO_pages p).key = 200 := by
  simp only [F.KV_LIMBO_pages]
  have h0 : p % 8 < 8 := Nat.mod_lt _ (by decide)
  generalize p % 8 = m0 at *
  have e : (0xd010c + 0x20 * m0) % 0x4000000 = 0xd010c + 0x20 * m0 := by omega
  rw [regKind_kv (by omega) (by omega), e]; unfold kindKv; rw [if_neg (by omega), if_pos (by omega)]; all_goals omega
@[simp] theorem F.KV_GEN_current_kind (p : Nat) : regKind (F.KV_GEN_current p).key = 201 := by
  simp only [F.KV_GEN_current]
  have h0 : p % 8 < 8 := Nat.mod_lt _ (by decide)
  generalize p % 8 = m0 at *
  have e : (0xd0110 + 0x20 * m0) % 0x4000000 = 0xd0110 + 0x20 * m0 := by omega
  rw [regKind_kv (by omega) (by omega), e]; unfold kindKv; rw [if_neg (by omega), if_pos (by omega)]; all_goals omega
@[simp] theorem F.KV_GEN_HELD_oldest_kind (p : Nat) : regKind (F.KV_GEN_HELD_oldest p).key = 202 := by
  simp only [F.KV_GEN_HELD_oldest]
  have h0 : p % 8 < 8 := Nat.mod_lt _ (by decide)
  generalize p % 8 = m0 at *
  have e : (0xd0114 + 0x20 * m0) % 0x4000000 = 0xd0114 + 0x20 * m0 := by omega
  rw [regKind_kv (by omega) (by omega), e]; unfold kindKv; rw [if_neg (by omega), if_pos (by omega)]; all_goals omega
@[simp] theorem F.KV_SEQ_live_kind (p : Nat) : regKind (F.KV_SEQ_live p).key = 203 := by
  simp only [F.KV_SEQ_live]
  have h0 : p % 8 < 8 := Nat.mod_lt _ (by decide)
  generalize p % 8 = m0 at *
  have e : (0xd0118 + 0x20 * m0) % 0x4000000 = 0xd0118 + 0x20 * m0 := by omega
  rw [regKind_kv (by omega) (by omega), e]; unfold kindKv; rw [if_neg (by omega), if_pos (by omega)]; all_goals omega
@[simp] theorem F.KV_SEQ_prefixes_kind (p : Nat) : regKind (F.KV_SEQ_prefixes p).key = 203 := F.KV_SEQ_live_kind p
@[simp] theorem F.KV_WAIT_joins_kind (p : Nat) : regKind (F.KV_WAIT_joins p).key = 204 := by
  simp only [F.KV_WAIT_joins]
  have h0 : p % 8 < 8 := Nat.mod_lt _ (by decide)
  generalize p % 8 = m0 at *
  have e : (0xd011c + 0x20 * m0) % 0x4000000 = 0xd011c + 0x20 * m0 := by omega
  rw [regKind_kv (by omega) (by omega), e]; unfold kindKv; rw [if_neg (by omega), if_pos (by omega)]; all_goals omega
@[simp] theorem F.KV_WAIT_cows_kind (p : Nat) : regKind (F.KV_WAIT_cows p).key = 204 := F.KV_WAIT_joins_kind p
@[simp] theorem F.KV_WALKER_failed_kind (c : Nat) : regKind (F.KV_WALKER_failed c).key = 205 := by
  simp only [F.KV_WALKER_failed]
  have h0 : c % 8 < 8 := Nat.mod_lt _ (by decide)
  generalize c % 8 = m0 at *
  have e : (0xd0200 + 0x4 * m0) % 0x4000000 = 0xd0200 + 0x4 * m0 := by omega
  rw [regKind_kv (by omega) (by omega), e]; unfold kindKv; rw [if_neg (by omega), if_neg (by omega), if_pos (by omega)]; all_goals omega
@[simp] theorem F.KV_WALKER_serving_kind (c : Nat) : regKind (F.KV_WALKER_serving c).key = 205 := F.KV_WALKER_failed_kind c
@[simp] theorem F.KV_WALKER_overflows_kind (c : Nat) : regKind (F.KV_WALKER_overflows c).key = 205 := F.KV_WALKER_failed_kind c
@[simp] theorem F.ROUTE_STATUS_builder_running_kind : regKind (F.ROUTE_STATUS_builder_running).key = 92 := by decide
@[simp] theorem F.ROUTE_STATUS_jobs_kind : regKind (F.ROUTE_STATUS_jobs).key = 92 := by decide
@[simp] theorem F.ROUTE_PERIOD_LO_number_kind : regKind (F.ROUTE_PERIOD_LO_number).key = 93 := by decide
@[simp] theorem F.ROUTE_PERIOD_HI_number_kind : regKind (F.ROUTE_PERIOD_HI_number).key = 94 := by decide
@[simp] theorem F.ROUTE_CMD_STATUS_code_kind (i : Nat) : regKind (F.ROUTE_CMD_STATUS_code i).key = 100 := by
  simp only [F.ROUTE_CMD_STATUS_code, portBank]
  have h0 : i % 4 < 4 := Nat.mod_lt _ (by decide)
  generalize i % 4 = m0 at *
  have e : (0x40020 + (m0 + 1) * 0x4000000) % 0x4000000 = 0x40020 := by omega
  rw [regKind_route (by omega) (by omega), e]; unfold kindRoute; rw [if_pos (by omega)]; all_goals omega
@[simp] theorem F.ROUTE_CMD_STATUS_reason_kind (i : Nat) : regKind (F.ROUTE_CMD_STATUS_reason i).key = 100 := F.ROUTE_CMD_STATUS_code_kind i
@[simp] theorem F.ROUTE_CMD_STATUS_job_kind (i : Nat) : regKind (F.ROUTE_CMD_STATUS_job i).key = 100 := F.ROUTE_CMD_STATUS_code_kind i
@[simp] theorem F.ROUTE_CMD_STATUS2_period_kind (i : Nat) : regKind (F.ROUTE_CMD_STATUS2_period i).key = 101 := by
  simp only [F.ROUTE_CMD_STATUS2_period, portBank]
  have h0 : i % 4 < 4 := Nat.mod_lt _ (by decide)
  generalize i % 4 = m0 at *
  have e : (0x40024 + (m0 + 1) * 0x4000000) % 0x4000000 = 0x40024 := by omega
  rw [regKind_route (by omega) (by omega), e]; unfold kindRoute; rw [if_pos (by omega)]; all_goals omega
@[simp] theorem F.ROUTE_PART_criticality_kind (p : Nat) : regKind (F.ROUTE_PART_criticality p).key = 102 := by
  simp only [F.ROUTE_PART_criticality]
  have h0 : p % 8 < 8 := Nat.mod_lt _ (by decide)
  generalize p % 8 = m0 at *
  have e : (0x40100 + 0x20 * m0) % 0x4000000 = 0x40100 + 0x20 * m0 := by omega
  rw [regKind_route (by omega) (by omega), e]; unfold kindRoute; rw [if_neg (by omega), if_pos (by omega)]; all_goals omega
@[simp] theorem F.ROUTE_PART_port_kind (p : Nat) : regKind (F.ROUTE_PART_port p).key = 102 := F.ROUTE_PART_criticality_kind p
@[simp] theorem F.ROUTE_PART_paced_kind (p : Nat) : regKind (F.ROUTE_PART_paced p).key = 102 := F.ROUTE_PART_criticality_kind p
@[simp] theorem F.ROUTE_PART_fit_kind (p : Nat) : regKind (F.ROUTE_PART_fit p).key = 102 := F.ROUTE_PART_criticality_kind p
@[simp] theorem F.ROUTE_PART_over_quota_kind (p : Nat) : regKind (F.ROUTE_PART_over_quota p).key = 102 := F.ROUTE_PART_criticality_kind p
@[simp] theorem F.ROUTE_PART_defined_kind (p : Nat) : regKind (F.ROUTE_PART_defined p).key = 102 := F.ROUTE_PART_criticality_kind p
@[simp] theorem F.ROUTE_PART_jobs_kind (p : Nat) : regKind (F.ROUTE_PART_jobs p).key = 102 := F.ROUTE_PART_criticality_kind p
@[simp] theorem F.ROUTE_QUOTA_pages_kind (p : Nat) : regKind (F.ROUTE_QUOTA_pages p).key = 103 := by
  simp only [F.ROUTE_QUOTA_pages]
  have h0 : p % 8 < 8 := Nat.mod_lt _ (by decide)
  generalize p % 8 = m0 at *
  have e : (0x40104 + 0x20 * m0) % 0x4000000 = 0x40104 + 0x20 * m0 := by omega
  rw [regKind_route (by omega) (by omega), e]; unfold kindRoute; rw [if_neg (by omega), if_pos (by omega)]; all_goals omega
@[simp] theorem F.ROUTE_QUOTA_LIMIT_pages_kind (p : Nat) : regKind (F.ROUTE_QUOTA_LIMIT_pages p).key = 104 := by
  simp only [F.ROUTE_QUOTA_LIMIT_pages]
  have h0 : p % 8 < 8 := Nat.mod_lt _ (by decide)
  generalize p % 8 = m0 at *
  have e : (0x40108 + 0x20 * m0) % 0x4000000 = 0x40108 + 0x20 * m0 := by omega
  rw [regKind_route (by omega) (by omega), e]; unfold kindRoute; rw [if_neg (by omega), if_pos (by omega)]; all_goals omega
@[simp] theorem F.ROUTE_PAGES_held_kind (p : Nat) : regKind (F.ROUTE_PAGES_held p).key = 105 := by
  simp only [F.ROUTE_PAGES_held]
  have h0 : p % 8 < 8 := Nat.mod_lt _ (by decide)
  generalize p % 8 = m0 at *
  have e : (0x4010c + 0x20 * m0) % 0x4000000 = 0x4010c + 0x20 * m0 := by omega
  rw [regKind_route (by omega) (by omega), e]; unfold kindRoute; rw [if_neg (by omega), if_pos (by omega)]; all_goals omega
@[simp] theorem F.ROUTE_BW_share_kind (p : Nat) : regKind (F.ROUTE_BW_share p).key = 106 := by
  simp only [F.ROUTE_BW_share]
  have h0 : p % 8 < 8 := Nat.mod_lt _ (by decide)
  generalize p % 8 = m0 at *
  have e : (0x40110 + 0x20 * m0) % 0x4000000 = 0x40110 + 0x20 * m0 := by omega
  rw [regKind_route (by omega) (by omega), e]; unfold kindRoute; rw [if_neg (by omega), if_pos (by omega)]; all_goals omega
@[simp] theorem F.ROUTE_BW_need_kind (p : Nat) : regKind (F.ROUTE_BW_need p).key = 106 := F.ROUTE_BW_share_kind p
@[simp] theorem F.ROUTE_PENDING_bandwidth_kind (p : Nat) : regKind (F.ROUTE_PENDING_bandwidth p).key = 107 := by
  simp only [F.ROUTE_PENDING_bandwidth]
  have h0 : p % 8 < 8 := Nat.mod_lt _ (by decide)
  generalize p % 8 = m0 at *
  have e : (0x40114 + 0x20 * m0) % 0x4000000 = 0x40114 + 0x20 * m0 := by omega
  rw [regKind_route (by omega) (by omega), e]; unfold kindRoute; rw [if_neg (by omega), if_pos (by omega)]; all_goals omega
@[simp] theorem F.ROUTE_PENDING_window_kind (p : Nat) : regKind (F.ROUTE_PENDING_window p).key = 107 := F.ROUTE_PENDING_bandwidth_kind p
@[simp] theorem F.ROUTE_PENDING_weight_kind (p : Nat) : regKind (F.ROUTE_PENDING_weight p).key = 107 := F.ROUTE_PENDING_bandwidth_kind p
@[simp] theorem F.ROUTE_FIT_ticks_kind (p : Nat) : regKind (F.ROUTE_FIT_ticks p).key = 108 := by
  simp only [F.ROUTE_FIT_ticks]
  have h0 : p % 8 < 8 := Nat.mod_lt _ (by decide)
  generalize p % 8 = m0 at *
  have e : (0x40118 + 0x20 * m0) % 0x4000000 = 0x40118 + 0x20 * m0 := by omega
  rw [regKind_route (by omega) (by omega), e]; unfold kindRoute; rw [if_neg (by omega), if_pos (by omega)]; all_goals omega
@[simp] theorem F.ROUTE_DEFER_legs_kind (p : Nat) : regKind (F.ROUTE_DEFER_legs p).key = 109 := by
  simp only [F.ROUTE_DEFER_legs]
  have h0 : p % 8 < 8 := Nat.mod_lt _ (by decide)
  generalize p % 8 = m0 at *
  have e : (0x4011c + 0x20 * m0) % 0x4000000 = 0x4011c + 0x20 * m0 := by omega
  rw [regKind_route (by omega) (by omega), e]; unfold kindRoute; rw [if_neg (by omega), if_pos (by omega)]; all_goals omega
@[simp] theorem F.ROUTE_DEFER_slots_kind (p : Nat) : regKind (F.ROUTE_DEFER_slots p).key = 109 := F.ROUTE_DEFER_legs_kind p
@[simp] theorem F.ROUTE_JOB_state_kind (j : Nat) : regKind (F.ROUTE_JOB_state j).key = 110 := by
  simp only [F.ROUTE_JOB_state]
  have h0 : j % 256 < 256 := Nat.mod_lt _ (by decide)
  generalize j % 256 = m0 at *
  have e : (0x41000 + 0x20 * m0) % 0x4000000 = 0x41000 + 0x20 * m0 := by omega
  rw [regKind_route (by omega) (by omega), e]; unfold kindRoute; rw [if_neg (by omega), if_neg (by omega), if_pos (by omega)]; all_goals omega
@[simp] theorem F.ROUTE_JOB_partition_kind (j : Nat) : regKind (F.ROUTE_JOB_partition j).key = 110 := F.ROUTE_JOB_state_kind j
@[simp] theorem F.ROUTE_JOB_cadence_kind (j : Nat) : regKind (F.ROUTE_JOB_cadence j).key = 110 := F.ROUTE_JOB_state_kind j
@[simp] theorem F.ROUTE_JOB_template_kind (j : Nat) : regKind (F.ROUTE_JOB_template j).key = 110 := F.ROUTE_JOB_state_kind j
@[simp] theorem F.ROUTE_JOB_weight_kind (j : Nat) : regKind (F.ROUTE_JOB_weight j).key = 110 := F.ROUTE_JOB_state_kind j
@[simp] theorem F.ROUTE_TOLL_LO_ticks_kind (j : Nat) : regKind (F.ROUTE_TOLL_LO_ticks j).key = 111 := by
  simp only [F.ROUTE_TOLL_LO_ticks]
  have h0 : j % 256 < 256 := Nat.mod_lt _ (by decide)
  generalize j % 256 = m0 at *
  have e : (0x41004 + 0x20 * m0) % 0x4000000 = 0x41004 + 0x20 * m0 := by omega
  rw [regKind_route (by omega) (by omega), e]; unfold kindRoute; rw [if_neg (by omega), if_neg (by omega), if_pos (by omega)]; all_goals omega
@[simp] theorem F.ROUTE_TOLL_HI_ticks_kind (j : Nat) : regKind (F.ROUTE_TOLL_HI_ticks j).key = 112 := by
  simp only [F.ROUTE_TOLL_HI_ticks]
  have h0 : j % 256 < 256 := Nat.mod_lt _ (by decide)
  generalize j % 256 = m0 at *
  have e : (0x41008 + 0x20 * m0) % 0x4000000 = 0x41008 + 0x20 * m0 := by omega
  rw [regKind_route (by omega) (by omega), e]; unfold kindRoute; rw [if_neg (by omega), if_neg (by omega), if_pos (by omega)]; all_goals omega
@[simp] theorem F.ROUTE_SLOWDOWN_slowdown_kind (j : Nat) : regKind (F.ROUTE_SLOWDOWN_slowdown j).key = 113 := by
  simp only [F.ROUTE_SLOWDOWN_slowdown]
  have h0 : j % 256 < 256 := Nat.mod_lt _ (by decide)
  generalize j % 256 = m0 at *
  have e : (0x4100c + 0x20 * m0) % 0x4000000 = 0x4100c + 0x20 * m0 := by omega
  rw [regKind_route (by omega) (by omega), e]; unfold kindRoute; rw [if_neg (by omega), if_neg (by omega), if_pos (by omega)]; all_goals omega
@[simp] theorem F.ROUTE_SLOWDOWN_limit_kind (j : Nat) : regKind (F.ROUTE_SLOWDOWN_limit j).key = 113 := F.ROUTE_SLOWDOWN_slowdown_kind j
@[simp] theorem F.ROUTE_BASELINE_ns_kind (j : Nat) : regKind (F.ROUTE_BASELINE_ns j).key = 114 := by
  simp only [F.ROUTE_BASELINE_ns]
  have h0 : j % 256 < 256 := Nat.mod_lt _ (by decide)
  generalize j % 256 = m0 at *
  have e : (0x41010 + 0x20 * m0) % 0x4000000 = 0x41010 + 0x20 * m0 := by omega
  rw [regKind_route (by omega) (by omega), e]; unfold kindRoute; rw [if_neg (by omega), if_neg (by omega), if_pos (by omega)]; all_goals omega
@[simp] theorem F.ROUTE_ITER_count_kind (j : Nat) : regKind (F.ROUTE_ITER_count j).key = 115 := by
  simp only [F.ROUTE_ITER_count]
  have h0 : j % 256 < 256 := Nat.mod_lt _ (by decide)
  generalize j % 256 = m0 at *
  have e : (0x41014 + 0x20 * m0) % 0x4000000 = 0x41014 + 0x20 * m0 := by omega
  rw [regKind_route (by omega) (by omega), e]; unfold kindRoute; rw [if_neg (by omega), if_neg (by omega), if_pos (by omega)]; all_goals omega
@[simp] theorem F.ROUTE_DEFERRED_legs_kind (j : Nat) : regKind (F.ROUTE_DEFERRED_legs j).key = 116 := by
  simp only [F.ROUTE_DEFERRED_legs]
  have h0 : j % 256 < 256 := Nat.mod_lt _ (by decide)
  generalize j % 256 = m0 at *
  have e : (0x41018 + 0x20 * m0) % 0x4000000 = 0x41018 + 0x20 * m0 := by omega
  rw [regKind_route (by omega) (by omega), e]; unfold kindRoute; rw [if_neg (by omega), if_neg (by omega), if_pos (by omega)]; all_goals omega
@[simp] theorem F.ROUTE_WIN_START_tick_kind (i : Nat) : regKind (F.ROUTE_WIN_START_tick i).key = 117 := by
  simp only [F.ROUTE_WIN_START_tick]
  have h0 : i % 128 < 128 := Nat.mod_lt _ (by decide)
  generalize i % 128 = m0 at *
  have e : (0x44000 + 0x8 * m0) % 0x4000000 = 0x44000 + 0x8 * m0 := by omega
  rw [regKind_route (by omega) (by omega), e]; unfold kindRoute; (iterate 3 rw [if_neg (by omega)]); rw [if_pos (by omega)]; all_goals omega
@[simp] theorem F.ROUTE_WIN_LEN_ticks_kind (i : Nat) : regKind (F.ROUTE_WIN_LEN_ticks i).key = 118 := by
  simp only [F.ROUTE_WIN_LEN_ticks]
  have h0 : i % 128 < 128 := Nat.mod_lt _ (by decide)
  generalize i % 128 = m0 at *
  have e : (0x44004 + 0x8 * m0) % 0x4000000 = 0x44004 + 0x8 * m0 := by omega
  rw [regKind_route (by omega) (by omega), e]; unfold kindRoute; (iterate 3 rw [if_neg (by omega)]); rw [if_pos (by omega)]; all_goals omega
@[simp] theorem F.LANE_UP_MASK_up_kind : regKind (F.LANE_UP_MASK_up).key = 143 := by decide
@[simp] theorem F.LANE_CFG_enabled_kind (n : Nat) : regKind (F.LANE_CFG_enabled n).key = 144 := by
  simp only [F.LANE_CFG_enabled]
  have h0 : n % 32 < 32 := Nat.mod_lt _ (by decide)
  generalize n % 32 = m0 at *
  have e : (0x81000 + 0x100 * m0) % 0x4000000 = 0x81000 + 0x100 * m0 := by omega
  rw [regKind_lane (by omega) (by omega), e]; unfold kindLane; rw [if_neg (by omega), if_pos (by omega)]; all_goals first | omega | (dsimp only; (repeat' split) <;> omega)
@[simp] theorem F.LANE_CFG_rate_kind (n : Nat) : regKind (F.LANE_CFG_rate n).key = 144 := F.LANE_CFG_enabled_kind n
@[simp] theorem F.LANE_CFG_ref_mode_kind (n : Nat) : regKind (F.LANE_CFG_ref_mode n).key = 144 := F.LANE_CFG_enabled_kind n
@[simp] theorem F.LANE_CFG_channel_kind (n : Nat) : regKind (F.LANE_CFG_channel n).key = 144 := F.LANE_CFG_enabled_kind n
@[simp] theorem F.LANE_CFG_sensors_kind (n : Nat) : regKind (F.LANE_CFG_sensors n).key = 144 := F.LANE_CFG_enabled_kind n
@[simp] theorem F.LANE_STATUS_state_kind (n : Nat) : regKind (F.LANE_STATUS_state n).key = 146 := by
  simp only [F.LANE_STATUS_state]
  have h0 : n % 32 < 32 := Nat.mod_lt _ (by decide)
  generalize n % 32 = m0 at *
  have e : (0x81008 + 0x100 * m0) % 0x4000000 = 0x81008 + 0x100 * m0 := by omega
  rw [regKind_lane (by omega) (by omega), e]; unfold kindLane; rw [if_neg (by omega), if_pos (by omega)]; all_goals first | omega | (dsimp only; (repeat' split) <;> omega)
@[simp] theorem F.LANE_STATUS_block_lock_kind (n : Nat) : regKind (F.LANE_STATUS_block_lock n).key = 146 := F.LANE_STATUS_state_kind n
@[simp] theorem F.LANE_STATUS_streams_kind (n : Nat) : regKind (F.LANE_STATUS_streams n).key = 146 := F.LANE_STATUS_state_kind n
@[simp] theorem F.LANE_STATUS_trainings_kind (n : Nat) : regKind (F.LANE_STATUS_trainings n).key = 146 := F.LANE_STATUS_state_kind n
@[simp] theorem F.LANE_TXEQ_pre_kind (n : Nat) : regKind (F.LANE_TXEQ_pre n).key = 147 := by
  simp only [F.LANE_TXEQ_pre]
  have h0 : n % 32 < 32 := Nat.mod_lt _ (by decide)
  generalize n % 32 = m0 at *
  have e : (0x8100c + 0x100 * m0) % 0x4000000 = 0x8100c + 0x100 * m0 := by omega
  rw [regKind_lane (by omega) (by omega), e]; unfold kindLane; rw [if_neg (by omega), if_pos (by omega)]; all_goals first | omega | (dsimp only; (repeat' split) <;> omega)
@[simp] theorem F.LANE_TXEQ_post_kind (n : Nat) : regKind (F.LANE_TXEQ_post n).key = 147 := F.LANE_TXEQ_pre_kind n
@[simp] theorem F.LANE_CRC_ERR_count_kind (n : Nat) : regKind (F.LANE_CRC_ERR_count n).key = 148 := by
  simp only [F.LANE_CRC_ERR_count]
  have h0 : n % 32 < 32 := Nat.mod_lt _ (by decide)
  generalize n % 32 = m0 at *
  have e : (0x81010 + 0x100 * m0) % 0x4000000 = 0x81010 + 0x100 * m0 := by omega
  rw [regKind_lane (by omega) (by omega), e]; unfold kindLane; rw [if_neg (by omega), if_pos (by omega)]; all_goals first | omega | (dsimp only; (repeat' split) <;> omega)
@[simp] theorem F.LANE_NAK_sent_kind (n : Nat) : regKind (F.LANE_NAK_sent n).key = 149 := by
  simp only [F.LANE_NAK_sent]
  have h0 : n % 32 < 32 := Nat.mod_lt _ (by decide)
  generalize n % 32 = m0 at *
  have e : (0x81014 + 0x100 * m0) % 0x4000000 = 0x81014 + 0x100 * m0 := by omega
  rw [regKind_lane (by omega) (by omega), e]; unfold kindLane; rw [if_neg (by omega), if_pos (by omega)]; all_goals first | omega | (dsimp only; (repeat' split) <;> omega)
@[simp] theorem F.LANE_NAK_resent_kind (n : Nat) : regKind (F.LANE_NAK_resent n).key = 149 := F.LANE_NAK_sent_kind n
@[simp] theorem F.LANE_LOST_lines_kind (n : Nat) : regKind (F.LANE_LOST_lines n).key = 150 := by
  simp only [F.LANE_LOST_lines]
  have h0 : n % 32 < 32 := Nat.mod_lt _ (by decide)
  generalize n % 32 = m0 at *
  have e : (0x81018 + 0x100 * m0) % 0x4000000 = 0x81018 + 0x100 * m0 := by omega
  rw [regKind_lane (by omega) (by omega), e]; unfold kindLane; rw [if_neg (by omega), if_pos (by omega)]; all_goals first | omega | (dsimp only; (repeat' split) <;> omega)
@[simp] theorem F.LANE_LOST_resyncs_kind (n : Nat) : regKind (F.LANE_LOST_resyncs n).key = 150 := F.LANE_LOST_lines_kind n
@[simp] theorem F.LANE_VIOL_count_kind (n : Nat) : regKind (F.LANE_VIOL_count n).key = 151 := by
  simp only [F.LANE_VIOL_count]
  have h0 : n % 32 < 32 := Nat.mod_lt _ (by decide)
  generalize n % 32 = m0 at *
  have e : (0x8101c + 0x100 * m0) % 0x4000000 = 0x8101c + 0x100 * m0 := by omega
  rw [regKind_lane (by omega) (by omega), e]; unfold kindLane; rw [if_neg (by omega), if_pos (by omega)]; all_goals first | omega | (dsimp only; (repeat' split) <;> omega)
@[simp] theorem F.LANE_PRBS_ERR_bits_kind (n : Nat) : regKind (F.LANE_PRBS_ERR_bits n).key = 152 := by
  simp only [F.LANE_PRBS_ERR_bits]
  have h0 : n % 32 < 32 := Nat.mod_lt _ (by decide)
  generalize n % 32 = m0 at *
  have e : (0x81020 + 0x100 * m0) % 0x4000000 = 0x81020 + 0x100 * m0 := by omega
  rw [regKind_lane (by omega) (by omega), e]; unfold kindLane; rw [if_neg (by omega), if_pos (by omega)]; all_goals first | omega | (dsimp only; (repeat' split) <;> omega)
@[simp] theorem F.LANE_LINES_count_kind (n : Nat) : regKind (F.LANE_LINES_count n).key = 153 := by
  simp only [F.LANE_LINES_count]
  have h0 : n % 32 < 32 := Nat.mod_lt _ (by decide)
  generalize n % 32 = m0 at *
  have e : (0x81024 + 0x100 * m0) % 0x4000000 = 0x81024 + 0x100 * m0 := by omega
  rw [regKind_lane (by omega) (by omega), e]; unfold kindLane; rw [if_neg (by omega), if_pos (by omega)]; all_goals first | omega | (dsimp only; (repeat' split) <;> omega)
@[simp] theorem F.LANE_STREAM_next_seq_kind (n s : Nat) : regKind (F.LANE_STREAM_next_seq n s).key = 155 := by
  simp only [F.LANE_STREAM_next_seq]
  have h0 : n % 32 < 32 := Nat.mod_lt _ (by decide)
  have h1 : s % 8 < 8 := Nat.mod_lt _ (by decide)
  generalize n % 32 = m0, s % 8 = m1 at *
  have e : (0x81040 + 0x100 * m0 + 0x4 * m1) % 0x4000000 = 0x81040 + 0x100 * m0 + 0x4 * m1 := by omega
  rw [regKind_lane (by omega) (by omega), e]; unfold kindLane; rw [if_neg (by omega), if_pos (by omega)]; all_goals first | omega | (dsimp only; (repeat' split) <;> omega)
@[simp] theorem F.LANE_STREAM_state_kind (n s : Nat) : regKind (F.LANE_STREAM_state n s).key = 155 := F.LANE_STREAM_next_seq_kind n s
@[simp] theorem F.ISP_STATUS_contexts_kind : regKind (F.ISP_STATUS_contexts).key = 156 := by decide
@[simp] theorem F.ISP_STATUS_channels_kind : regKind (F.ISP_STATUS_channels).key = 156 := by decide
@[simp] theorem F.ISP_LINESTORE_work_kib_kind : regKind (F.ISP_LINESTORE_work_kib).key = 157 := by decide
@[simp] theorem F.ISP_CHAN_lanes_kind (n : Nat) : regKind (F.ISP_CHAN_lanes n).key = 158 := by
  simp only [F.ISP_CHAN_lanes]
  have h0 : n % 16 < 16 := Nat.mod_lt _ (by decide)
  generalize n % 16 = m0 at *
  have e : (0xa0100 + 0x20 * m0) % 0x4000000 = 0xa0100 + 0x20 * m0 := by omega
  rw [regKind_isp (by omega) (by omega), e]; unfold kindIsp; rw [if_neg (by omega), if_pos (by omega)]; all_goals omega
@[simp] theorem F.ISP_LAYBY_bytes_kind (n : Nat) : regKind (F.ISP_LAYBY_bytes n).key = 159 := by
  simp only [F.ISP_LAYBY_bytes]
  have h0 : n % 16 < 16 := Nat.mod_lt _ (by decide)
  generalize n % 16 = m0 at *
  have e : (0xa0104 + 0x20 * m0) % 0x4000000 = 0xa0104 + 0x20 * m0 := by omega
  rw [regKind_isp (by omega) (by omega), e]; unfold kindIsp; rw [if_neg (by omega), if_pos (by omega)]; all_goals omega
@[simp] theorem F.ISP_LAYBY_PEAK_bytes_kind (n : Nat) : regKind (F.ISP_LAYBY_PEAK_bytes n).key = 160 := by
  simp only [F.ISP_LAYBY_PEAK_bytes]
  have h0 : n % 16 < 16 := Nat.mod_lt _ (by decide)
  generalize n % 16 = m0 at *
  have e : (0xa0108 + 0x20 * m0) % 0x4000000 = 0xa0108 + 0x20 * m0 := by omega
  rw [regKind_isp (by omega) (by omega), e]; unfold kindIsp; rw [if_neg (by omega), if_pos (by omega)]; all_goals omega
@[simp] theorem F.ISP_LAYBY_LOST_lines_kind (n : Nat) : regKind (F.ISP_LAYBY_LOST_lines n).key = 161 := by
  simp only [F.ISP_LAYBY_LOST_lines]
  have h0 : n % 16 < 16 := Nat.mod_lt _ (by decide)
  generalize n % 16 = m0 at *
  have e : (0xa010c + 0x20 * m0) % 0x4000000 = 0xa010c + 0x20 * m0 := by omega
  rw [regKind_isp (by omega) (by omega), e]; unfold kindIsp; rw [if_neg (by omega), if_pos (by omega)]; all_goals omega
@[simp] theorem F.ISP_GOLDEN_injected_kind (n : Nat) : regKind (F.ISP_GOLDEN_injected n).key = 162 := by
  simp only [F.ISP_GOLDEN_injected]
  have h0 : n % 16 < 16 := Nat.mod_lt _ (by decide)
  generalize n % 16 = m0 at *
  have e : (0xa0110 + 0x20 * m0) % 0x4000000 = 0xa0110 + 0x20 * m0 := by omega
  rw [regKind_isp (by omega) (by omega), e]; unfold kindIsp; rw [if_neg (by omega), if_pos (by omega)]; all_goals omega
@[simp] theorem F.ISP_GOLDEN_deferred_kind (n : Nat) : regKind (F.ISP_GOLDEN_deferred n).key = 162 := F.ISP_GOLDEN_injected_kind n
@[simp] theorem F.ISP_GOLDEN_forced_kind (n : Nat) : regKind (F.ISP_GOLDEN_forced n).key = 162 := F.ISP_GOLDEN_injected_kind n
@[simp] theorem F.ISP_GOLDEN_WAIT_ns_kind (n : Nat) : regKind (F.ISP_GOLDEN_WAIT_ns n).key = 163 := by
  simp only [F.ISP_GOLDEN_WAIT_ns]
  have h0 : n % 16 < 16 := Nat.mod_lt _ (by decide)
  generalize n % 16 = m0 at *
  have e : (0xa0114 + 0x20 * m0) % 0x4000000 = 0xa0114 + 0x20 * m0 := by omega
  rw [regKind_isp (by omega) (by omega), e]; unfold kindIsp; rw [if_neg (by omega), if_pos (by omega)]; all_goals omega
@[simp] theorem F.ISP_CHAN_LINES_count_kind (n : Nat) : regKind (F.ISP_CHAN_LINES_count n).key = 164 := by
  simp only [F.ISP_CHAN_LINES_count]
  have h0 : n % 16 < 16 := Nat.mod_lt _ (by decide)
  generalize n % 16 = m0 at *
  have e : (0xa0118 + 0x20 * m0) % 0x4000000 = 0xa0118 + 0x20 * m0 := by omega
  rw [regKind_isp (by omega) (by omega), e]; unfold kindIsp; rw [if_neg (by omega), if_pos (by omega)]; all_goals omega
@[simp] theorem F.ISP_CTX_CFG_defined_kind (c : Nat) : regKind (F.ISP_CTX_CFG_defined c).key = 165 := by
  simp only [F.ISP_CTX_CFG_defined]
  have h0 : c % 64 < 64 := Nat.mod_lt _ (by decide)
  generalize c % 64 = m0 at *
  have e : (0xa1000 + 0x100 * m0) % 0x4000000 = 0xa1000 + 0x100 * m0 := by omega
  rw [regKind_isp (by omega) (by omega), e]; unfold kindIsp; rw [if_neg (by omega), if_neg (by omega), if_pos (by omega)]; all_goals first | omega | (dsimp only; (repeat' split) <;> omega)
@[simp] theorem F.ISP_CTX_CFG_lane_kind (c : Nat) : regKind (F.ISP_CTX_CFG_lane c).key = 165 := F.ISP_CTX_CFG_defined_kind c
@[simp] theorem F.ISP_CTX_CFG_stream_kind (c : Nat) : regKind (F.ISP_CTX_CFG_stream c).key = 165 := F.ISP_CTX_CFG_defined_kind c
@[simp] theorem F.ISP_CTX_CFG_kind_kind (c : Nat) : regKind (F.ISP_CTX_CFG_kind c).key = 165 := F.ISP_CTX_CFG_defined_kind c
@[simp] theorem F.ISP_CTX_CFG_partition_kind (c : Nat) : regKind (F.ISP_CTX_CFG_partition c).key = 165 := F.ISP_CTX_CFG_defined_kind c
@[simp] theorem F.ISP_CTX_CFG_channel_kind (c : Nat) : regKind (F.ISP_CTX_CFG_channel c).key = 165 := F.ISP_CTX_CFG_defined_kind c
@[simp] theorem F.ISP_CTX_STATUS_active_bank_kind (c : Nat) : regKind (F.ISP_CTX_STATUS_active_bank c).key = 170 := by
  simp only [F.ISP_CTX_STATUS_active_bank]
  have h0 : c % 64 < 64 := Nat.mod_lt _ (by decide)
  generalize c % 64 = m0 at *
  have e : (0xa1014 + 0x100 * m0) % 0x4000000 = 0xa1014 + 0x100 * m0 := by omega
  rw [regKind_isp (by omega) (by omega), e]; unfold kindIsp; rw [if_neg (by omega), if_neg (by omega), if_pos (by omega)]; all_goals first | omega | (dsimp only; (repeat' split) <;> omega)
@[simp] theorem F.ISP_CTX_STATUS_shadow_kind (c : Nat) : regKind (F.ISP_CTX_STATUS_shadow c).key = 170 := F.ISP_CTX_STATUS_active_bank_kind c
@[simp] theorem F.ISP_CTX_STATUS_loaded_kind (c : Nat) : regKind (F.ISP_CTX_STATUS_loaded c).key = 170 := F.ISP_CTX_STATUS_active_bank_kind c
@[simp] theorem F.ISP_CTX_STATUS_restart_pending_kind (c : Nat) : regKind (F.ISP_CTX_STATUS_restart_pending c).key = 170 := F.ISP_CTX_STATUS_active_bank_kind c
@[simp] theorem F.ISP_CTX_STATUS_frame_open_kind (c : Nat) : regKind (F.ISP_CTX_STATUS_frame_open c).key = 170 := F.ISP_CTX_STATUS_active_bank_kind c
@[simp] theorem F.ISP_CTX_STATUS_outputs_kind (c : Nat) : regKind (F.ISP_CTX_STATUS_outputs c).key = 170 := F.ISP_CTX_STATUS_active_bank_kind c
@[simp] theorem F.ISP_CTX_FRAME_number_kind (c : Nat) : regKind (F.ISP_CTX_FRAME_number c).key = 171 := by
  simp only [F.ISP_CTX_FRAME_number]
  have h0 : c % 64 < 64 := Nat.mod_lt _ (by decide)
  generalize c % 64 = m0 at *
  have e : (0xa1018 + 0x100 * m0) % 0x4000000 = 0xa1018 + 0x100 * m0 := by omega
  rw [regKind_isp (by omega) (by omega), e]; unfold kindIsp; rw [if_neg (by omega), if_neg (by omega), if_pos (by omega)]; all_goals first | omega | (dsimp only; (repeat' split) <;> omega)
@[simp] theorem F.ISP_CTX_LINES_count_kind (c : Nat) : regKind (F.ISP_CTX_LINES_count c).key = 172 := by
  simp only [F.ISP_CTX_LINES_count]
  have h0 : c % 64 < 64 := Nat.mod_lt _ (by decide)
  generalize c % 64 = m0 at *
  have e : (0xa101c + 0x100 * m0) % 0x4000000 = 0xa101c + 0x100 * m0 := by omega
  rw [regKind_isp (by omega) (by omega), e]; unfold kindIsp; rw [if_neg (by omega), if_neg (by omega), if_pos (by omega)]; all_goals first | omega | (dsimp only; (repeat' split) <;> omega)
@[simp] theorem F.ISP_CTX_STATS_frame_kind (c : Nat) : regKind (F.ISP_CTX_STATS_frame c).key = 173 := by
  simp only [F.ISP_CTX_STATS_frame]
  have h0 : c % 64 < 64 := Nat.mod_lt _ (by decide)
  generalize c % 64 = m0 at *
  have e : (0xa1020 + 0x100 * m0) % 0x4000000 = 0xa1020 + 0x100 * m0 := by omega
  rw [regKind_isp (by omega) (by omega), e]; unfold kindIsp; rw [if_neg (by omega), if_neg (by omega), if_pos (by omega)]; all_goals first | omega | (dsimp only; (repeat' split) <;> omega)
@[simp] theorem F.ISP_CTX_FAULTS_lost_kind (c : Nat) : regKind (F.ISP_CTX_FAULTS_lost c).key = 174 := by
  simp only [F.ISP_CTX_FAULTS_lost]
  have h0 : c % 64 < 64 := Nat.mod_lt _ (by decide)
  generalize c % 64 = m0 at *
  have e : (0xa1024 + 0x100 * m0) % 0x4000000 = 0xa1024 + 0x100 * m0 := by omega
  rw [regKind_isp (by omega) (by omega), e]; unfold kindIsp; rw [if_neg (by omega), if_neg (by omega), if_pos (by omega)]; all_goals first | omega | (dsimp only; (repeat' split) <;> omega)
@[simp] theorem F.ISP_CTX_FAULTS_cut_kind (c : Nat) : regKind (F.ISP_CTX_FAULTS_cut c).key = 174 := F.ISP_CTX_FAULTS_lost_kind c
@[simp] theorem F.ISP_CTX_FAULTS_frames_kind (c : Nat) : regKind (F.ISP_CTX_FAULTS_frames c).key = 174 := F.ISP_CTX_FAULTS_lost_kind c
@[simp] theorem F.ISP_CTX_RESULT_code_kind (i c : Nat) : regKind (F.ISP_CTX_RESULT_code i c).key = 175 := by
  simp only [F.ISP_CTX_RESULT_code, portBank]
  have h0 : i % 4 < 4 := Nat.mod_lt _ (by decide)
  have h1 : c % 64 < 64 := Nat.mod_lt _ (by decide)
  generalize i % 4 = m0, c % 64 = m1 at *
  have e : (0xa1028 + (m0 + 1) * 0x4000000 + 0x100 * m1) % 0x4000000 = 0xa1028 + 0x100 * m1 := by omega
  rw [regKind_isp (by omega) (by omega), e]; unfold kindIsp; rw [if_neg (by omega), if_neg (by omega), if_pos (by omega)]; all_goals first | omega | (dsimp only; (repeat' split) <;> omega)
@[simp] theorem F.ISP_CTX_RESULT_reason_kind (i c : Nat) : regKind (F.ISP_CTX_RESULT_reason i c).key = 175 := F.ISP_CTX_RESULT_code_kind i c
@[simp] theorem F.ISP_CTX_DIGEST_word_kind (c i : Nat) : regKind (F.ISP_CTX_DIGEST_word c i).key = 176 := by
  simp only [F.ISP_CTX_DIGEST_word]
  have h0 : c % 64 < 64 := Nat.mod_lt _ (by decide)
  have h1 : i % 8 < 8 := Nat.mod_lt _ (by decide)
  generalize c % 64 = m0, i % 8 = m1 at *
  have e : (0xa1040 + 0x100 * m0 + 0x4 * m1) % 0x4000000 = 0xa1040 + 0x100 * m0 + 0x4 * m1 := by omega
  rw [regKind_isp (by omega) (by omega), e]; unfold kindIsp; rw [if_neg (by omega), if_neg (by omega), if_pos (by omega)]; all_goals first | omega | (dsimp only; (repeat' split) <;> omega)
@[simp] theorem F.INGEST_STATUS_decoders_busy_kind : regKind (F.INGEST_STATUS_decoders_busy).key = 177 := by decide
@[simp] theorem F.INGEST_STATUS_running_kind : regKind (F.INGEST_STATUS_running).key = 177 := by decide
@[simp] theorem F.INGEST_LOAD_decoder_kind : regKind (F.INGEST_LOAD_decoder).key = 178 := by decide
@[simp] theorem F.INGEST_LOAD_augment_kind : regKind (F.INGEST_LOAD_augment).key = 178 := by decide
@[simp] theorem F.INGEST_Q_TAIL_pos_kind (p : Nat) : regKind (F.INGEST_Q_TAIL_pos p).key = 183 := by
  simp only [F.INGEST_Q_TAIL_pos]
  have h0 : p % 8 < 8 := Nat.mod_lt _ (by decide)
  generalize p % 8 = m0 at *
  have e : (0xc010c + 0x40 * m0) % 0x4000000 = 0xc010c + 0x40 * m0 := by omega
  rw [regKind_ingest (by omega) (by omega), e]; unfold kindIngest; rw [if_neg (by omega), if_pos (by omega)]; all_goals first | omega | (dsimp only; (repeat' split) <;> omega)
@[simp] theorem F.INGEST_Q_HEAD_pos_kind (p : Nat) : regKind (F.INGEST_Q_HEAD_pos p).key = 184 := by
  simp only [F.INGEST_Q_HEAD_pos]
  have h0 : p % 8 < 8 := Nat.mod_lt _ (by decide)
  generalize p % 8 = m0 at *
  have e : (0xc0110 + 0x40 * m0) % 0x4000000 = 0xc0110 + 0x40 * m0 := by omega
  rw [regKind_ingest (by omega) (by omega), e]; unfold kindIngest; rw [if_neg (by omega), if_pos (by omega)]; all_goals first | omega | (dsimp only; (repeat' split) <;> omega)
@[simp] theorem F.INGEST_Q_STATE_state_kind (p : Nat) : regKind (F.INGEST_Q_STATE_state p).key = 189 := by
  simp only [F.INGEST_Q_STATE_state]
  have h0 : p % 8 < 8 := Nat.mod_lt _ (by decide)
  generalize p % 8 = m0 at *
  have e : (0xc0124 + 0x40 * m0) % 0x4000000 = 0xc0124 + 0x40 * m0 := by omega
  rw [regKind_ingest (by omega) (by omega), e]; unfold kindIngest; rw [if_neg (by omega), if_pos (by omega)]; all_goals first | omega | (dsimp only; (repeat' split) <;> omega)
@[simp] theorem F.INGEST_Q_STATE_over_quota_kind (p : Nat) : regKind (F.INGEST_Q_STATE_over_quota p).key = 189 := F.INGEST_Q_STATE_state_kind p
@[simp] theorem F.INGEST_Q_STATE_error_kind (p : Nat) : regKind (F.INGEST_Q_STATE_error p).key = 189 := F.INGEST_Q_STATE_state_kind p
@[simp] theorem F.INGEST_Q_STATE_open_kind (p : Nat) : regKind (F.INGEST_Q_STATE_open p).key = 189 := F.INGEST_Q_STATE_state_kind p
@[simp] theorem F.INGEST_Q_BATCHES_closed_kind (p : Nat) : regKind (F.INGEST_Q_BATCHES_closed p).key = 190 := by
  simp only [F.INGEST_Q_BATCHES_closed]
  have h0 : p % 8 < 8 := Nat.mod_lt _ (by decide)
  generalize p % 8 = m0 at *
  have e : (0xc0128 + 0x40 * m0) % 0x4000000 = 0xc0128 + 0x40 * m0 := by omega
  rw [regKind_ingest (by omega) (by omega), e]; unfold kindIngest; rw [if_neg (by omega), if_pos (by omega)]; all_goals first | omega | (dsimp only; (repeat' split) <;> omega)
@[simp] theorem F.INGEST_Q_DONE_samples_kind (p : Nat) : regKind (F.INGEST_Q_DONE_samples p).key = 191 := by
  simp only [F.INGEST_Q_DONE_samples]
  have h0 : p % 8 < 8 := Nat.mod_lt _ (by decide)
  generalize p % 8 = m0 at *
  have e : (0xc012c + 0x40 * m0) % 0x4000000 = 0xc012c + 0x40 * m0 := by omega
  rw [regKind_ingest (by omega) (by omega), e]; unfold kindIngest; rw [if_neg (by omega), if_pos (by omega)]; all_goals first | omega | (dsimp only; (repeat' split) <;> omega)
@[simp] theorem F.INGEST_Q_VOID_count_kind (p i b : Nat) : regKind (F.INGEST_Q_VOID_count p i b).key = 192 := by
  simp only [F.INGEST_Q_VOID_count]
  have h0 : p % 8 < 8 := Nat.mod_lt _ (by decide)
  have h1 : i % 3 < 3 := Nat.mod_lt _ (by decide)
  generalize p % 8 = m0, i % 3 = m1 at *
  have e : (0xc0130 + 0x40 * m0 + 0x4 * m1) % 0x4000000 = 0xc0130 + 0x40 * m0 + 0x4 * m1 := by omega
  rw [regKind_ingest (by omega) (by omega), e]; unfold kindIngest; rw [if_neg (by omega), if_pos (by omega)]; all_goals first | omega | (dsimp only; (repeat' split) <;> omega)
@[simp] theorem F.MOT_STATUS_present_kind : regKind (F.MOT_STATUS_present).key = 206 := by decide
@[simp] theorem F.MOT_STATUS_count_valid_kind : regKind (F.MOT_STATUS_count_valid).key = 206 := by decide
@[simp] theorem F.MOT_STATUS_fault_kind : regKind (F.MOT_STATUS_fault).key = 206 := by decide
@[simp] theorem F.MOT_STATUS_speed_valid_kind : regKind (F.MOT_STATUS_speed_valid).key = 206 := by decide
@[simp] theorem F.MOT_CMD_STATUS_code_kind (i : Nat) : regKind (F.MOT_CMD_STATUS_code i).key = 208 := by
  simp only [F.MOT_CMD_STATUS_code, portBank]
  have h0 : i % 4 < 4 := Nat.mod_lt _ (by decide)
  generalize i % 4 = m0 at *
  have e : (0xe0008 + (m0 + 1) * 0x4000000) % 0x4000000 = 0xe0008 := by omega
  rw [regKind_mot (by omega) (by omega), e]; unfold kindMot; rw [if_pos (by omega)]; all_goals omega
@[simp] theorem F.MOT_CMD_STATUS_reason_kind (i : Nat) : regKind (F.MOT_CMD_STATUS_reason i).key = 208 := F.MOT_CMD_STATUS_code_kind i
@[simp] theorem F.MOT_CH_CFG_mode_kind (n : Nat) : regKind (F.MOT_CH_CFG_mode n).key = 209 := by
  simp only [F.MOT_CH_CFG_mode]
  have h0 : n % 8 < 8 := Nat.mod_lt _ (by decide)
  generalize n % 8 = m0 at *
  have e : (0xe0100 + 0x40 * m0) % 0x4000000 = 0xe0100 + 0x40 * m0 := by omega
  rw [regKind_mot (by omega) (by omega), e]; unfold kindMot; rw [if_neg (by omega), if_pos (by omega)]; all_goals omega
@[simp] theorem F.MOT_CH_CFG_decode_kind (n : Nat) : regKind (F.MOT_CH_CFG_decode n).key = 209 := F.MOT_CH_CFG_mode_kind n
@[simp] theorem F.MOT_CH_CFG_reverse_kind (n : Nat) : regKind (F.MOT_CH_CFG_reverse n).key = 209 := F.MOT_CH_CFG_mode_kind n
@[simp] theorem F.MOT_CH_CFG_filter_kind (n : Nat) : regKind (F.MOT_CH_CFG_filter n).key = 209 := F.MOT_CH_CFG_mode_kind n
@[simp] theorem F.MOT_CH_CFG_framing_kind (n : Nat) : regKind (F.MOT_CH_CFG_framing n).key = 209 := F.MOT_CH_CFG_mode_kind n
@[simp] theorem F.MOT_CH_CFG_index_check_kind (n : Nat) : regKind (F.MOT_CH_CFG_index_check n).key = 209 := F.MOT_CH_CFG_mode_kind n
@[simp] theorem F.MOT_CH_CFG_interval_kind (n : Nat) : regKind (F.MOT_CH_CFG_interval n).key = 209 := F.MOT_CH_CFG_mode_kind n
@[simp] theorem F.MOT_CH_STATUS_count_state_kind (n : Nat) : regKind (F.MOT_CH_STATUS_count_state n).key = 210 := by
  simp only [F.MOT_CH_STATUS_count_state]
  have h0 : n % 8 < 8 := Nat.mod_lt _ (by decide)
  generalize n % 8 = m0 at *
  have e : (0xe0104 + 0x40 * m0) % 0x4000000 = 0xe0104 + 0x40 * m0 := by omega
  rw [regKind_mot (by omega) (by omega), e]; unfold kindMot; rw [if_neg (by omega), if_pos (by omega)]; all_goals omega
@[simp] theorem F.MOT_CH_STATUS_speed_state_kind (n : Nat) : regKind (F.MOT_CH_STATUS_speed_state n).key = 210 := F.MOT_CH_STATUS_count_state_kind n
@[simp] theorem F.MOT_CH_STATUS_fault_cause_kind (n : Nat) : regKind (F.MOT_CH_STATUS_fault_cause n).key = 210 := F.MOT_CH_STATUS_count_state_kind n
@[simp] theorem F.MOT_CH_STATUS_bad_run_kind (n : Nat) : regKind (F.MOT_CH_STATUS_bad_run n).key = 210 := F.MOT_CH_STATUS_count_state_kind n
@[simp] theorem F.MOT_CH_COUNT_LO_count_kind (n : Nat) : regKind (F.MOT_CH_COUNT_LO_count n).key = 211 := by
  simp only [F.MOT_CH_COUNT_LO_count]
  have h0 : n % 8 < 8 := Nat.mod_lt _ (by decide)
  generalize n % 8 = m0 at *
  have e : (0xe0108 + 0x40 * m0) % 0x4000000 = 0xe0108 + 0x40 * m0 := by omega
  rw [regKind_mot (by omega) (by omega), e]; unfold kindMot; rw [if_neg (by omega), if_pos (by omega)]; all_goals omega
@[simp] theorem F.MOT_CH_COUNT_HI_count_kind (n : Nat) : regKind (F.MOT_CH_COUNT_HI_count n).key = 212 := by
  simp only [F.MOT_CH_COUNT_HI_count]
  have h0 : n % 8 < 8 := Nat.mod_lt _ (by decide)
  generalize n % 8 = m0 at *
  have e : (0xe010c + 0x40 * m0) % 0x4000000 = 0xe010c + 0x40 * m0 := by omega
  rw [regKind_mot (by omega) (by omega), e]; unfold kindMot; rw [if_neg (by omega), if_pos (by omega)]; all_goals omega
@[simp] theorem F.MOT_CH_SPEED_speed_kind (n : Nat) : regKind (F.MOT_CH_SPEED_speed n).key = 213 := by
  simp only [F.MOT_CH_SPEED_speed]
  have h0 : n % 8 < 8 := Nat.mod_lt _ (by decide)
  generalize n % 8 = m0 at *
  have e : (0xe0110 + 0x40 * m0) % 0x4000000 = 0xe0110 + 0x40 * m0 := by omega
  rw [regKind_mot (by omega) (by omega), e]; unfold kindMot; rw [if_neg (by omega), if_pos (by omega)]; all_goals omega
@[simp] theorem F.MOT_CH_INDEX_count_kind (n : Nat) : regKind (F.MOT_CH_INDEX_count n).key = 214 := by
  simp only [F.MOT_CH_INDEX_count]
  have h0 : n % 8 < 8 := Nat.mod_lt _ (by decide)
  generalize n % 8 = m0 at *
  have e : (0xe0114 + 0x40 * m0) % 0x4000000 = 0xe0114 + 0x40 * m0 := by omega
  rw [regKind_mot (by omega) (by omega), e]; unfold kindMot; rw [if_neg (by omega), if_pos (by omega)]; all_goals omega
@[simp] theorem F.MOT_CH_ERR_errors_kind (n : Nat) : regKind (F.MOT_CH_ERR_errors n).key = 215 := by
  simp only [F.MOT_CH_ERR_errors]
  have h0 : n % 8 < 8 := Nat.mod_lt _ (by decide)
  generalize n % 8 = m0 at *
  have e : (0xe0118 + 0x40 * m0) % 0x4000000 = 0xe0118 + 0x40 * m0 := by omega
  rw [regKind_mot (by omega) (by omega), e]; unfold kindMot; rw [if_neg (by omega), if_pos (by omega)]; all_goals omega
@[simp] theorem F.MOT_CH_ERR_warnings_kind (n : Nat) : regKind (F.MOT_CH_ERR_warnings n).key = 215 := F.MOT_CH_ERR_errors_kind n
@[simp] theorem F.MOT_CH_MP_armed_kind (n : Nat) : regKind (F.MOT_CH_MP_armed n).key = 216 := by
  simp only [F.MOT_CH_MP_armed]
  have h0 : n % 8 < 8 := Nat.mod_lt _ (by decide)
  generalize n % 8 = m0 at *
  have e : (0xe011c + 0x40 * m0) % 0x4000000 = 0xe011c + 0x40 * m0 := by omega
  rw [regKind_mot (by omega) (by omega), e]; unfold kindMot; rw [if_neg (by omega), if_pos (by omega)]; all_goals omega
@[simp] theorem F.MOT_CH_FIRED_count_kind (n : Nat) : regKind (F.MOT_CH_FIRED_count n).key = 217 := by
  simp only [F.MOT_CH_FIRED_count]
  have h0 : n % 8 < 8 := Nat.mod_lt _ (by decide)
  generalize n % 8 = m0 at *
  have e : (0xe0120 + 0x40 * m0) % 0x4000000 = 0xe0120 + 0x40 * m0 := by omega
  rw [regKind_mot (by omega) (by omega), e]; unfold kindMot; rw [if_neg (by omega), if_pos (by omega)]; all_goals omega
@[simp] theorem F.MOT_CH_CANCELLED_count_kind (n : Nat) : regKind (F.MOT_CH_CANCELLED_count n).key = 218 := by
  simp only [F.MOT_CH_CANCELLED_count]
  have h0 : n % 8 < 8 := Nat.mod_lt _ (by decide)
  generalize n % 8 = m0 at *
  have e : (0xe0124 + 0x40 * m0) % 0x4000000 = 0xe0124 + 0x40 * m0 := by omega
  rw [regKind_mot (by omega) (by omega), e]; unfold kindMot; rw [if_neg (by omega), if_pos (by omega)]; all_goals omega
@[simp] theorem F.MOT_CH_LATE_count_kind (n : Nat) : regKind (F.MOT_CH_LATE_count n).key = 219 := by
  simp only [F.MOT_CH_LATE_count]
  have h0 : n % 8 < 8 := Nat.mod_lt _ (by decide)
  generalize n % 8 = m0 at *
  have e : (0xe0128 + 0x40 * m0) % 0x4000000 = 0xe0128 + 0x40 * m0 := by omega
  rw [regKind_mot (by omega) (by omega), e]; unfold kindMot; rw [if_neg (by omega), if_pos (by omega)]; all_goals omega
@[simp] theorem F.MOT_CH_LATE_refused_kind (n : Nat) : regKind (F.MOT_CH_LATE_refused n).key = 219 := F.MOT_CH_LATE_count_kind n
@[simp] theorem F.MOT_CH_SUPPRESSED_count_kind (n : Nat) : regKind (F.MOT_CH_SUPPRESSED_count n).key = 220 := by
  simp only [F.MOT_CH_SUPPRESSED_count]
  have h0 : n % 8 < 8 := Nat.mod_lt _ (by decide)
  generalize n % 8 = m0 at *
  have e : (0xe012c + 0x40 * m0) % 0x4000000 = 0xe012c + 0x40 * m0 := by omega
  rw [regKind_mot (by omega) (by omega), e]; unfold kindMot; rw [if_neg (by omega), if_pos (by omega)]; all_goals omega
@[simp] theorem F.MOT_CH_SUPPRESSED_overlaps_kind (n : Nat) : regKind (F.MOT_CH_SUPPRESSED_overlaps n).key = 220 := F.MOT_CH_SUPPRESSED_count_kind n
@[simp] theorem F.MOT_DIV_CFG_source_kind (d : Nat) : regKind (F.MOT_DIV_CFG_source d).key = 221 := by
  simp only [F.MOT_DIV_CFG_source]
  have h0 : d % 8 < 8 := Nat.mod_lt _ (by decide)
  generalize d % 8 = m0 at *
  have e : (0xe0400 + 0x20 * m0) % 0x4000000 = 0xe0400 + 0x20 * m0 := by omega
  rw [regKind_mot (by omega) (by omega), e]; unfold kindMot; rw [if_neg (by omega), if_neg (by omega), if_pos (by omega)]; all_goals omega
@[simp] theorem F.MOT_DIV_CFG_channel_kind (d : Nat) : regKind (F.MOT_DIV_CFG_channel d).key = 221 := F.MOT_DIV_CFG_source_kind d
@[simp] theorem F.MOT_DIV_CFG_pulse_kind (d : Nat) : regKind (F.MOT_DIV_CFG_pulse d).key = 221 := F.MOT_DIV_CFG_source_kind d
@[simp] theorem F.MOT_DIV_CFG_width_kind (d : Nat) : regKind (F.MOT_DIV_CFG_width d).key = 221 := F.MOT_DIV_CFG_source_kind d
@[simp] theorem F.MOT_DIV_RATIO_ratio_kind (d : Nat) : regKind (F.MOT_DIV_RATIO_ratio d).key = 222 := by
  simp only [F.MOT_DIV_RATIO_ratio]
  have h0 : d % 8 < 8 := Nat.mod_lt _ (by decide)
  generalize d % 8 = m0 at *
  have e : (0xe0404 + 0x20 * m0) % 0x4000000 = 0xe0404 + 0x20 * m0 := by omega
  rw [regKind_mot (by omega) (by omega), e]; unfold kindMot; rw [if_neg (by omega), if_neg (by omega), if_pos (by omega)]; all_goals omega
@[simp] theorem F.MOT_DIV_LANES_mask_kind (d : Nat) : regKind (F.MOT_DIV_LANES_mask d).key = 223 := by
  simp only [F.MOT_DIV_LANES_mask]
  have h0 : d % 8 < 8 := Nat.mod_lt _ (by decide)
  generalize d % 8 = m0 at *
  have e : (0xe0408 + 0x20 * m0) % 0x4000000 = 0xe0408 + 0x20 * m0 := by omega
  rw [regKind_mot (by omega) (by omega), e]; unfold kindMot; rw [if_neg (by omega), if_neg (by omega), if_pos (by omega)]; all_goals omega
@[simp] theorem F.MOT_DIV_STREAMS_mask_kind (d : Nat) : regKind (F.MOT_DIV_STREAMS_mask d).key = 224 := by
  simp only [F.MOT_DIV_STREAMS_mask]
  have h0 : d % 8 < 8 := Nat.mod_lt _ (by decide)
  generalize d % 8 = m0 at *
  have e : (0xe040c + 0x20 * m0) % 0x4000000 = 0xe040c + 0x20 * m0 := by omega
  rw [regKind_mot (by omega) (by omega), e]; unfold kindMot; rw [if_neg (by omega), if_neg (by omega), if_pos (by omega)]; all_goals omega
@[simp] theorem F.MOT_DIV_TRIG_next_kind (d : Nat) : regKind (F.MOT_DIV_TRIG_next d).key = 225 := by
  simp only [F.MOT_DIV_TRIG_next]
  have h0 : d % 8 < 8 := Nat.mod_lt _ (by decide)
  generalize d % 8 = m0 at *
  have e : (0xe0410 + 0x20 * m0) % 0x4000000 = 0xe0410 + 0x20 * m0 := by omega
  rw [regKind_mot (by omega) (by omega), e]; unfold kindMot; rw [if_neg (by omega), if_neg (by omega), if_pos (by omega)]; all_goals omega
@[simp] theorem F.MOT_DIV_TRIG_dropped_kind (d : Nat) : regKind (F.MOT_DIV_TRIG_dropped d).key = 225 := F.MOT_DIV_TRIG_next_kind d
@[simp] theorem F.FIO_STATUS_field_low_kind : regKind (F.FIO_STATUS_field_low).key = 228 := by decide
@[simp] theorem F.FIO_STATUS_group_low_kind : regKind (F.FIO_STATUS_group_low).key = 228 := by decide
@[simp] theorem F.FIO_STATUS_safe_state_kind : regKind (F.FIO_STATUS_safe_state).key = 228 := by decide
@[simp] theorem F.FIO_IN_state_kind : regKind (F.FIO_IN_state).key = 229 := by decide
@[simp] theorem F.FIO_OUT_STATE_on_kind : regKind (F.FIO_OUT_STATE_on).key = 230 := by decide
@[simp] theorem F.FIO_GROUP_current_ma_kind (g : Nat) : regKind (F.FIO_GROUP_current_ma g).key = 234 := by
  simp only [F.FIO_GROUP_current_ma]
  have h0 : g % 4 < 4 := Nat.mod_lt _ (by decide)
  generalize g % 4 = m0 at *
  have e : (0xf0020 + 0x4 * m0) % 0x4000000 = 0xf0020 + 0x4 * m0 := by omega
  rw [regKind_fio (by omega) (by omega), e]; unfold kindFio; rw [if_neg (by omega), if_pos (by omega)]; all_goals omega
@[simp] theorem F.FIO_IN_CFG_type_kind (i : Nat) : regKind (F.FIO_IN_CFG_type i).key = 235 := by
  simp only [F.FIO_IN_CFG_type]
  have h0 : i % 32 < 32 := Nat.mod_lt _ (by decide)
  generalize i % 32 = m0 at *
  have e : (0xf0100 + 0x10 * m0) % 0x4000000 = 0xf0100 + 0x10 * m0 := by omega
  rw [regKind_fio (by omega) (by omega), e]; unfold kindFio; rw [if_neg (by omega), if_neg (by omega), if_pos (by omega)]; all_goals omega
@[simp] theorem F.FIO_IN_CFG_filter_us_kind (i : Nat) : regKind (F.FIO_IN_CFG_filter_us i).key = 235 := F.FIO_IN_CFG_type_kind i
@[simp] theorem F.FIO_IN_CFG_capture_kind (i : Nat) : regKind (F.FIO_IN_CFG_capture i).key = 235 := F.FIO_IN_CFG_type_kind i
@[simp] theorem F.FIO_IN_CFG_edge_kind (i : Nat) : regKind (F.FIO_IN_CFG_edge i).key = 235 := F.FIO_IN_CFG_type_kind i
@[simp] theorem F.FIO_CAP_COUNT_count_kind (i : Nat) : regKind (F.FIO_CAP_COUNT_count i).key = 236 := by
  simp only [F.FIO_CAP_COUNT_count]
  have h0 : i % 32 < 32 := Nat.mod_lt _ (by decide)
  generalize i % 32 = m0 at *
  have e : (0xf0104 + 0x10 * m0) % 0x4000000 = 0xf0104 + 0x10 * m0 := by omega
  rw [regKind_fio (by omega) (by omega), e]; unfold kindFio; rw [if_neg (by omega), if_neg (by omega), if_pos (by omega)]; all_goals omega
@[simp] theorem F.FIO_CAP_TIME_ns_kind (i : Nat) : regKind (F.FIO_CAP_TIME_ns i).key = 237 := by
  simp only [F.FIO_CAP_TIME_ns]
  have h0 : i % 32 < 32 := Nat.mod_lt _ (by decide)
  generalize i % 32 = m0 at *
  have e : (0xf0108 + 0x10 * m0) % 0x4000000 = 0xf0108 + 0x10 * m0 := by omega
  rw [regKind_fio (by omega) (by omega), e]; unfold kindFio; rw [if_neg (by omega), if_neg (by omega), if_pos (by omega)]; all_goals omega
@[simp] theorem F.FIO_CAP_TIME_new_kind (i : Nat) : regKind (F.FIO_CAP_TIME_new i).key = 237 := F.FIO_CAP_TIME_ns_kind i
@[simp] theorem F.FIO_OUT_CFG_claimed_kind (o : Nat) : regKind (F.FIO_OUT_CFG_claimed o).key = 238 := by
  simp only [F.FIO_OUT_CFG_claimed]
  have h0 : o % 32 < 32 := Nat.mod_lt _ (by decide)
  generalize o % 32 = m0 at *
  have e : (0xf0300 + 0x10 * m0) % 0x4000000 = 0xf0300 + 0x10 * m0 := by omega
  rw [regKind_fio (by omega) (by omega), e]; unfold kindFio; (iterate 3 rw [if_neg (by omega)]); rw [if_pos (by omega)]; all_goals omega
@[simp] theorem F.FIO_OUT_CFG_mode_kind (o : Nat) : regKind (F.FIO_OUT_CFG_mode o).key = 238 := F.FIO_OUT_CFG_claimed_kind o
@[simp] theorem F.FIO_OUT_CFG_partition_kind (o : Nat) : regKind (F.FIO_OUT_CFG_partition o).key = 238 := F.FIO_OUT_CFG_claimed_kind o
@[simp] theorem F.FIO_OUT_CFG_retry_ms_kind (o : Nat) : regKind (F.FIO_OUT_CFG_retry_ms o).key = 238 := F.FIO_OUT_CFG_claimed_kind o
@[simp] theorem F.FIO_OUT_DIAG_overload_kind (o : Nat) : regKind (F.FIO_OUT_DIAG_overload o).key = 239 := by
  simp only [F.FIO_OUT_DIAG_overload]
  have h0 : o % 32 < 32 := Nat.mod_lt _ (by decide)
  generalize o % 32 = m0 at *
  have e : (0xf0304 + 0x10 * m0) % 0x4000000 = 0xf0304 + 0x10 * m0 := by omega
  rw [regKind_fio (by omega) (by omega), e]; unfold kindFio; (iterate 3 rw [if_neg (by omega)]); rw [if_pos (by omega)]; all_goals omega
@[simp] theorem F.FIO_OUT_DIAG_open_wire_kind (o : Nat) : regKind (F.FIO_OUT_DIAG_open_wire o).key = 239 := F.FIO_OUT_DIAG_overload_kind o
@[simp] theorem F.FIO_OUT_DIAG_over_temp_kind (o : Nat) : regKind (F.FIO_OUT_DIAG_over_temp o).key = 239 := F.FIO_OUT_DIAG_overload_kind o
@[simp] theorem F.FIO_OUT_DIAG_isolator_kind (o : Nat) : regKind (F.FIO_OUT_DIAG_isolator o).key = 239 := F.FIO_OUT_DIAG_overload_kind o
@[simp] theorem F.FIO_OUT_DIAG_latched_kind (o : Nat) : regKind (F.FIO_OUT_DIAG_latched o).key = 239 := F.FIO_OUT_DIAG_overload_kind o
@[simp] theorem F.FIO_OUT_DIAG_current_ma_kind (o : Nat) : regKind (F.FIO_OUT_DIAG_current_ma o).key = 239 := F.FIO_OUT_DIAG_overload_kind o
@[simp] theorem F.FIO_OUT_FAULTS_count_kind (o : Nat) : regKind (F.FIO_OUT_FAULTS_count o).key = 240 := by
  simp only [F.FIO_OUT_FAULTS_count]
  have h0 : o % 32 < 32 := Nat.mod_lt _ (by decide)
  generalize o % 32 = m0 at *
  have e : (0xf0308 + 0x10 * m0) % 0x4000000 = 0xf0308 + 0x10 * m0 := by omega
  rw [regKind_fio (by omega) (by omega), e]; unfold kindFio; (iterate 3 rw [if_neg (by omega)]); rw [if_pos (by omega)]; all_goals omega
@[simp] theorem F.TIME_STATUS_state_kind : regKind (F.TIME_STATUS_state).key = 241 := by decide
@[simp] theorem F.TIME_STATUS_grandmaster_kind : regKind (F.TIME_STATUS_grandmaster).key = 241 := by decide
@[simp] theorem F.TIME_STATUS_tc_mode_kind : regKind (F.TIME_STATUS_tc_mode).key = 241 := by decide
@[simp] theorem F.TIME_STATUS_step_pending_kind : regKind (F.TIME_STATUS_step_pending).key = 241 := by decide
@[simp] theorem F.TIME_STATUS_valid_kind : regKind (F.TIME_STATUS_valid).key = 241 := by decide
@[simp] theorem F.TIME_OFFSET_ns_kind : regKind (F.TIME_OFFSET_ns).key = 245 := by decide
@[simp] theorem F.TIME_FREQ_ppb_kind : regKind (F.TIME_FREQ_ppb).key = 246 := by decide
@[simp] theorem F.TIME_CMD_STATUS_code_kind (i : Nat) : regKind (F.TIME_CMD_STATUS_code i).key = 250 := by
  simp only [F.TIME_CMD_STATUS_code, portBank]
  have h0 : i % 4 < 4 := Nat.mod_lt _ (by decide)
  generalize i % 4 = m0 at *
  have e : (0x100024 + (m0 + 1) * 0x4000000) % 0x4000000 = 0x100024 := by omega
  rw [regKind_time (by omega) (by omega), e]; unfold kindTime; rw [if_pos (by omega)]; all_goals omega
@[simp] theorem F.TIME_CMD_STATUS_reason_kind (i : Nat) : regKind (F.TIME_CMD_STATUS_reason i).key = 250 := F.TIME_CMD_STATUS_code_kind i
@[simp] theorem F.TIME_START_PENDING_mask_kind : regKind (F.TIME_START_PENDING_mask).key = 259 := by decide
@[simp] theorem F.TIME_PTP_CNT_violations_kind (i : Nat) : regKind (F.TIME_PTP_CNT_violations i).key = 260 := by
  simp only [F.TIME_PTP_CNT_violations]
  have h0 : i % 2 < 2 := Nat.mod_lt _ (by decide)
  generalize i % 2 = m0 at *
  have e : (0x100050 + 0x4 * m0) % 0x4000000 = 0x100050 + 0x4 * m0 := by omega
  rw [regKind_time (by omega) (by omega), e]; unfold kindTime; rw [if_neg (by omega), if_pos (by omega)]; all_goals omega
@[simp] theorem F.TIME_PTP_CNT_jumps_kind (i : Nat) : regKind (F.TIME_PTP_CNT_jumps i).key = 260 := F.TIME_PTP_CNT_violations_kind i
@[simp] theorem F.TIME_LQ_depth_kind (i : Nat) : regKind (F.TIME_LQ_depth i).key = 261 := by
  simp only [F.TIME_LQ_depth]
  have h0 : i % 2 < 2 := Nat.mod_lt _ (by decide)
  generalize i % 2 = m0 at *
  have e : (0x100060 + 0x10 * m0) % 0x4000000 = 0x100060 + 0x10 * m0 := by omega
  rw [regKind_time (by omega) (by omega), e]; unfold kindTime; rw [if_neg (by omega), if_neg (by omega), if_pos (by omega)]; all_goals omega
@[simp] theorem F.TIME_LQ_send_late_kind (i : Nat) : regKind (F.TIME_LQ_send_late i).key = 261 := F.TIME_LQ_depth_kind i
@[simp] theorem F.TIME_LQ_partition_kind (i : Nat) : regKind (F.TIME_LQ_partition i).key = 261 := F.TIME_LQ_depth_kind i
@[simp] theorem F.TIME_LQ_claimed_kind (i : Nat) : regKind (F.TIME_LQ_claimed i).key = 261 := F.TIME_LQ_depth_kind i
@[simp] theorem F.TIME_LQ_window_us_kind (i : Nat) : regKind (F.TIME_LQ_window_us i).key = 261 := F.TIME_LQ_depth_kind i
@[simp] theorem F.TIME_LQ_SENT_count_kind (i : Nat) : regKind (F.TIME_LQ_SENT_count i).key = 262 := by
  simp only [F.TIME_LQ_SENT_count]
  have h0 : i % 2 < 2 := Nat.mod_lt _ (by decide)
  generalize i % 2 = m0 at *
  have e : (0x100064 + 0x10 * m0) % 0x4000000 = 0x100064 + 0x10 * m0 := by omega
  rw [regKind_time (by omega) (by omega), e]; unfold kindTime; rw [if_neg (by omega), if_neg (by omega), if_pos (by omega)]; all_goals omega
@[simp] theorem F.TIME_LQ_LATE_late_kind (i : Nat) : regKind (F.TIME_LQ_LATE_late i).key = 263 := by
  simp only [F.TIME_LQ_LATE_late]
  have h0 : i % 2 < 2 := Nat.mod_lt _ (by decide)
  generalize i % 2 = m0 at *
  have e : (0x100068 + 0x10 * m0) % 0x4000000 = 0x100068 + 0x10 * m0 := by omega
  rw [regKind_time (by omega) (by omega), e]; unfold kindTime; rw [if_neg (by omega), if_neg (by omega), if_pos (by omega)]; all_goals omega
@[simp] theorem F.TIME_LQ_LATE_refused_kind (i : Nat) : regKind (F.TIME_LQ_LATE_refused i).key = 263 := F.TIME_LQ_LATE_late_kind i
@[simp] theorem F.PEER_STATUS_position_kind : regKind (F.PEER_STATUS_position).key = 264 := by decide
@[simp] theorem F.PEER_STATUS_west_up_kind : regKind (F.PEER_STATUS_west_up).key = 264 := by decide
@[simp] theorem F.PEER_STATUS_east_up_kind : regKind (F.PEER_STATUS_east_up).key = 264 := by decide
@[simp] theorem F.PEER_SIDE_node_kind (s : Nat) : regKind (F.PEER_SIDE_node s).key = 265 := by
  simp only [F.PEER_SIDE_node]
  have h0 : s % 2 < 2 := Nat.mod_lt _ (by decide)
  generalize s % 2 = m0 at *
  have e : (0x110100 + 0x40 * m0) % 0x4000000 = 0x110100 + 0x40 * m0 := by omega
  rw [regKind_peer (by omega) (by omega), e]; unfold kindPeer; rw [if_neg (by omega), if_pos (by omega)]; all_goals omega
@[simp] theorem F.PEER_SIDE_state_kind (s : Nat) : regKind (F.PEER_SIDE_state s).key = 265 := F.PEER_SIDE_node_kind s
@[simp] theorem F.PEER_SIDE_expected_kind (s : Nat) : regKind (F.PEER_SIDE_expected s).key = 265 := F.PEER_SIDE_node_kind s
@[simp] theorem F.PEER_VERGE_rows_kind (s : Nat) : regKind (F.PEER_VERGE_rows s).key = 266 := by
  simp only [F.PEER_VERGE_rows]
  have h0 : s % 2 < 2 := Nat.mod_lt _ (by decide)
  generalize s % 2 = m0 at *
  have e : (0x110104 + 0x40 * m0) % 0x4000000 = 0x110104 + 0x40 * m0 := by omega
  rw [regKind_peer (by omega) (by omega), e]; unfold kindPeer; rw [if_neg (by omega), if_pos (by omega)]; all_goals omega
@[simp] theorem F.PEER_CONTRIB_sent_kind (s : Nat) : regKind (F.PEER_CONTRIB_sent s).key = 267 := by
  simp only [F.PEER_CONTRIB_sent]
  have h0 : s % 2 < 2 := Nat.mod_lt _ (by decide)
  generalize s % 2 = m0 at *
  have e : (0x110108 + 0x40 * m0) % 0x4000000 = 0x110108 + 0x40 * m0 := by omega
  rw [regKind_peer (by omega) (by omega), e]; unfold kindPeer; rw [if_neg (by omega), if_pos (by omega)]; all_goals omega
@[simp] theorem F.PEER_REJECT_received_kind (s : Nat) : regKind (F.PEER_REJECT_received s).key = 268 := by
  simp only [F.PEER_REJECT_received]
  have h0 : s % 2 < 2 := Nat.mod_lt _ (by decide)
  generalize s % 2 = m0 at *
  have e : (0x11010c + 0x40 * m0) % 0x4000000 = 0x11010c + 0x40 * m0 := by omega
  rw [regKind_peer (by omega) (by omega), e]; unfold kindPeer; rw [if_neg (by omega), if_pos (by omega)]; all_goals omega
@[simp] theorem F.PEER_REJECT_sent_kind (s : Nat) : regKind (F.PEER_REJECT_sent s).key = 268 := F.PEER_REJECT_received_kind s
@[simp] theorem F.PEER_RESEND_naks_kind (s : Nat) : regKind (F.PEER_RESEND_naks s).key = 269 := by
  simp only [F.PEER_RESEND_naks]
  have h0 : s % 2 < 2 := Nat.mod_lt _ (by decide)
  generalize s % 2 = m0 at *
  have e : (0x110110 + 0x40 * m0) % 0x4000000 = 0x110110 + 0x40 * m0 := by omega
  rw [regKind_peer (by omega) (by omega), e]; unfold kindPeer; rw [if_neg (by omega), if_pos (by omega)]; all_goals omega
@[simp] theorem F.PEER_RESEND_no_credit_kind (s : Nat) : regKind (F.PEER_RESEND_no_credit s).key = 269 := F.PEER_RESEND_naks_kind s
@[simp] theorem F.PEER_MISSING_rows_kind (s : Nat) : regKind (F.PEER_MISSING_rows s).key = 270 := by
  simp only [F.PEER_MISSING_rows]
  have h0 : s % 2 < 2 := Nat.mod_lt _ (by decide)
  generalize s % 2 = m0 at *
  have e : (0x110114 + 0x40 * m0) % 0x4000000 = 0x110114 + 0x40 * m0 := by omega
  rw [regKind_peer (by omega) (by omega), e]; unfold kindPeer; rw [if_neg (by omega), if_pos (by omega)]; all_goals omega
@[simp] theorem F.HOST_STATUS_port_kind (i : Nat) : regKind (F.HOST_STATUS_port i).key = 119 := by
  simp only [F.HOST_STATUS_port, portBank]
  have h0 : i % 4 < 4 := Nat.mod_lt _ (by decide)
  generalize i % 4 = m0 at *
  have e : (0x60000 + (m0 + 1) * 0x4000000) % 0x4000000 = 0x60000 := by omega
  rw [regKind_host (by omega) (by omega), e]; unfold kindHost; rw [if_pos (by omega)]; all_goals omega
@[simp] theorem F.HOST_STATUS_role_kind (i : Nat) : regKind (F.HOST_STATUS_role i).key = 119 := F.HOST_STATUS_port_kind i
@[simp] theorem F.HOST_STATUS_speed_kind (i : Nat) : regKind (F.HOST_STATUS_speed i).key = 119 := F.HOST_STATUS_port_kind i
@[simp] theorem F.HOST_STATUS_width_kind (i : Nat) : regKind (F.HOST_STATUS_width i).key = 119 := F.HOST_STATUS_port_kind i
@[simp] theorem F.HOST_STATUS_ports_up_kind (i : Nat) : regKind (F.HOST_STATUS_ports_up i).key = 119 := F.HOST_STATUS_port_kind i
@[simp] theorem F.HOST_RES_CFG_enable_kind (i p : Nat) : regKind (F.HOST_RES_CFG_enable i p).key = 124 := by
  simp only [F.HOST_RES_CFG_enable, portBank]
  have h0 : i % 4 < 4 := Nat.mod_lt _ (by decide)
  have h1 : p % 8 < 8 := Nat.mod_lt _ (by decide)
  generalize i % 4 = m0, p % 8 = m1 at *
  have e : (0x60100 + (m0 + 1) * 0x4000000 + 0x20 * m1) % 0x4000000 = 0x60100 + 0x20 * m1 := by omega
  rw [regKind_host (by omega) (by omega), e]; unfold kindHost; rw [if_neg (by omega), if_pos (by omega)]; all_goals omega
@[simp] theorem F.HOST_RES_CFG_mode_kind (i p : Nat) : regKind (F.HOST_RES_CFG_mode i p).key = 124 := F.HOST_RES_CFG_enable_kind i p
@[simp] theorem F.HOST_RES_CFG_size_kind (i p : Nat) : regKind (F.HOST_RES_CFG_size i p).key = 124 := F.HOST_RES_CFG_enable_kind i p
@[simp] theorem F.HOST_RES_CFG_coalesce_kind (i p : Nat) : regKind (F.HOST_RES_CFG_coalesce i p).key = 124 := F.HOST_RES_CFG_enable_kind i p
@[simp] theorem F.HOST_RES_CFG_timer_us_kind (i p : Nat) : regKind (F.HOST_RES_CFG_timer_us i p).key = 124 := F.HOST_RES_CFG_enable_kind i p
@[simp] theorem F.HOST_RES_SEQ_next_kind (i p : Nat) : regKind (F.HOST_RES_SEQ_next i p).key = 126 := by
  simp only [F.HOST_RES_SEQ_next, portBank]
  have h0 : i % 4 < 4 := Nat.mod_lt _ (by decide)
  have h1 : p % 8 < 8 := Nat.mod_lt _ (by decide)
  generalize i % 4 = m0, p % 8 = m1 at *
  have e : (0x60108 + (m0 + 1) * 0x4000000 + 0x20 * m1) % 0x4000000 = 0x60108 + 0x20 * m1 := by omega
  rw [regKind_host (by omega) (by omega), e]; unfold kindHost; rw [if_neg (by omega), if_pos (by omega)]; all_goals omega
@[simp] theorem F.HOST_RES_DROP_count_kind (i p : Nat) : regKind (F.HOST_RES_DROP_count i p).key = 127 := by
  simp only [F.HOST_RES_DROP_count, portBank]
  have h0 : i % 4 < 4 := Nat.mod_lt _ (by decide)
  have h1 : p % 8 < 8 := Nat.mod_lt _ (by decide)
  generalize i % 4 = m0, p % 8 = m1 at *
  have e : (0x6010c + (m0 + 1) * 0x4000000 + 0x20 * m1) % 0x4000000 = 0x6010c + 0x20 * m1 := by omega
  rw [regKind_host (by omega) (by omega), e]; unfold kindHost; rw [if_neg (by omega), if_pos (by omega)]; all_goals omega
@[simp] theorem F.HOST_PUSH_HEAD_seq_kind (i p : Nat) : regKind (F.HOST_PUSH_HEAD_seq i p).key = 130 := by
  simp only [F.HOST_PUSH_HEAD_seq, portBank]
  have h0 : i % 4 < 4 := Nat.mod_lt _ (by decide)
  have h1 : p % 8 < 8 := Nat.mod_lt _ (by decide)
  generalize i % 4 = m0, p % 8 = m1 at *
  have e : (0x60118 + (m0 + 1) * 0x4000000 + 0x20 * m1) % 0x4000000 = 0x60118 + 0x20 * m1 := by omega
  rw [regKind_host (by omega) (by omega), e]; unfold kindHost; rw [if_neg (by omega), if_pos (by omega)]; all_goals omega
@[simp] theorem F.HOST_RES_STATE_ack_reason_kind (i p : Nat) : regKind (F.HOST_RES_STATE_ack_reason i p).key = 131 := by
  simp only [F.HOST_RES_STATE_ack_reason, portBank]
  have h0 : i % 4 < 4 := Nat.mod_lt _ (by decide)
  have h1 : p % 8 < 8 := Nat.mod_lt _ (by decide)
  generalize i % 4 = m0, p % 8 = m1 at *
  have e : (0x6011c + (m0 + 1) * 0x4000000 + 0x20 * m1) % 0x4000000 = 0x6011c + 0x20 * m1 := by omega
  rw [regKind_host (by omega) (by omega), e]; unfold kindHost; rw [if_neg (by omega), if_pos (by omega)]; all_goals omega
@[simp] theorem F.HOST_RES_STATE_push_stopped_kind (i p : Nat) : regKind (F.HOST_RES_STATE_push_stopped i p).key = 131 := F.HOST_RES_STATE_ack_reason_kind i p
@[simp] theorem F.HOST_RES_STATE_pending_kind (i p : Nat) : regKind (F.HOST_RES_STATE_pending i p).key = 131 := F.HOST_RES_STATE_ack_reason_kind i p
@[simp] theorem F.HOST_SQ_CFG_size_kind (i r : Nat) : regKind (F.HOST_SQ_CFG_size i r).key = 136 := by
  simp only [F.HOST_SQ_CFG_size, portBank]
  have h0 : i % 4 < 4 := Nat.mod_lt _ (by decide)
  have h1 : r % 4 < 4 := Nat.mod_lt _ (by decide)
  generalize i % 4 = m0, r % 4 = m1 at *
  have e : (0x60410 + (m0 + 1) * 0x4000000 + 0x20 * m1) % 0x4000000 = 0x60410 + 0x20 * m1 := by omega
  rw [regKind_host (by omega) (by omega), e]; unfold kindHost; rw [if_neg (by omega), if_neg (by omega), if_pos (by omega)]; all_goals omega
@[simp] theorem F.HOST_SQ_CFG_partition_kind (i r : Nat) : regKind (F.HOST_SQ_CFG_partition i r).key = 136 := F.HOST_SQ_CFG_size_kind i r
@[simp] theorem F.HOST_SQ_CFG_run_kind (i r : Nat) : regKind (F.HOST_SQ_CFG_run i r).key = 136 := F.HOST_SQ_CFG_size_kind i r
@[simp] theorem F.HOST_SQ_TAIL_pos_kind (i r : Nat) : regKind (F.HOST_SQ_TAIL_pos i r).key = 137 := by
  simp only [F.HOST_SQ_TAIL_pos, portBank]
  have h0 : i % 4 < 4 := Nat.mod_lt _ (by decide)
  have h1 : r % 4 < 4 := Nat.mod_lt _ (by decide)
  generalize i % 4 = m0, r % 4 = m1 at *
  have e : (0x60414 + (m0 + 1) * 0x4000000 + 0x20 * m1) % 0x4000000 = 0x60414 + 0x20 * m1 := by omega
  rw [regKind_host (by omega) (by omega), e]; unfold kindHost; rw [if_neg (by omega), if_neg (by omega), if_pos (by omega)]; all_goals omega
@[simp] theorem F.HOST_SQ_HEAD_pos_kind (i r : Nat) : regKind (F.HOST_SQ_HEAD_pos i r).key = 138 := by
  simp only [F.HOST_SQ_HEAD_pos, portBank]
  have h0 : i % 4 < 4 := Nat.mod_lt _ (by decide)
  have h1 : r % 4 < 4 := Nat.mod_lt _ (by decide)
  generalize i % 4 = m0, r % 4 = m1 at *
  have e : (0x60418 + (m0 + 1) * 0x4000000 + 0x20 * m1) % 0x4000000 = 0x60418 + 0x20 * m1 := by omega
  rw [regKind_host (by omega) (by omega), e]; unfold kindHost; rw [if_neg (by omega), if_neg (by omega), if_pos (by omega)]; all_goals omega
@[simp] theorem F.HOST_SQ_STATE_error_kind (i r : Nat) : regKind (F.HOST_SQ_STATE_error i r).key = 139 := by
  simp only [F.HOST_SQ_STATE_error, portBank]
  have h0 : i % 4 < 4 := Nat.mod_lt _ (by decide)
  have h1 : r % 4 < 4 := Nat.mod_lt _ (by decide)
  generalize i % 4 = m0, r % 4 = m1 at *
  have e : (0x6041c + (m0 + 1) * 0x4000000 + 0x20 * m1) % 0x4000000 = 0x6041c + 0x20 * m1 := by omega
  rw [regKind_host (by omega) (by omega), e]; unfold kindHost; rw [if_neg (by omega), if_neg (by omega), if_pos (by omega)]; all_goals omega
@[simp] theorem F.HOST_SQ_STATE_stopped_kind (i r : Nat) : regKind (F.HOST_SQ_STATE_stopped i r).key = 139 := F.HOST_SQ_STATE_error_kind i r
@[simp] theorem F.HOST_MBOX_DONE_number_kind (i p : Nat) : regKind (F.HOST_MBOX_DONE_number i p).key = 141 := by
  simp only [F.HOST_MBOX_DONE_number, portBank]
  have h0 : i % 4 < 4 := Nat.mod_lt _ (by decide)
  have h1 : p % 8 < 8 := Nat.mod_lt _ (by decide)
  generalize i % 4 = m0, p % 8 = m1 at *
  have e : (0x60620 + (m0 + 1) * 0x4000000 + 0x4 * m1) % 0x4000000 = 0x60620 + 0x4 * m1 := by omega
  rw [regKind_host (by omega) (by omega), e]; unfold kindHost; (iterate 4 rw [if_neg (by omega)]); rw [if_pos (by omega)]; all_goals omega
@[simp] theorem F.SAFE_STATUS_state_kind : regKind (F.SAFE_STATUS_state).key = 271 := by decide
@[simp] theorem F.SAFE_STATUS_lock_kind : regKind (F.SAFE_STATUS_lock).key = 271 := by decide
@[simp] theorem F.SAFE_STATUS_cause_active_kind : regKind (F.SAFE_STATUS_cause_active).key = 271 := by decide
@[simp] theorem F.SAFE_STATUS_overdue_kind : regKind (F.SAFE_STATUS_overdue).key = 271 := by decide
@[simp] theorem F.SAFE_STATUS_msg_link_kind : regKind (F.SAFE_STATUS_msg_link).key = 271 := by decide
@[simp] theorem F.SAFE_CAUSE_code_kind : regKind (F.SAFE_CAUSE_code).key = 272 := by decide
@[simp] theorem F.SAFE_CAUSE_entries_kind : regKind (F.SAFE_CAUSE_entries).key = 272 := by decide
@[simp] theorem F.SAFE_CMD_STATUS_code_kind (i : Nat) : regKind (F.SAFE_CMD_STATUS_code i).key = 274 := by
  simp only [F.SAFE_CMD_STATUS_code, portBank]
  have h0 : i % 4 < 4 := Nat.mod_lt _ (by decide)
  generalize i % 4 = m0 at *
  have e : (0x12000c + (m0 + 1) * 0x4000000) % 0x4000000 = 0x12000c := by omega
  rw [regKind_safe (by omega) (by omega), e]; unfold kindSafe; rw [if_pos (by omega)]; all_goals omega
@[simp] theorem F.SAFE_CMD_STATUS_reason_kind (i : Nat) : regKind (F.SAFE_CMD_STATUS_reason i).key = 274 := F.SAFE_CMD_STATUS_code_kind i
@[simp] theorem F.SAFE_IO_outputs_kind : regKind (F.SAFE_IO_outputs).key = 275 := by decide
@[simp] theorem F.SAFE_IO_inputs_kind : regKind (F.SAFE_IO_inputs).key = 275 := by decide
@[simp] theorem F.SAFE_IO_demand_kind : regKind (F.SAFE_IO_demand).key = 275 := by decide
@[simp] theorem F.SAFE_IO_input_fault_kind : regKind (F.SAFE_IO_input_fault).key = 275 := by decide
@[simp] theorem F.SAFE_IO_held_kind : regKind (F.SAFE_IO_held).key = 275 := by decide
@[simp] theorem F.SAFE_MSG_counter_kind : regKind (F.SAFE_MSG_counter).key = 276 := by decide
@[simp] theorem F.SAFE_DTI_ms_kind : regKind (F.SAFE_DTI_ms).key = 277 := by decide
@[simp] theorem F.SAFE_JUDGE_PASS_count_kind (s : Nat) : regKind (F.SAFE_JUDGE_PASS_count s).key = 278 := by
  simp only [F.SAFE_JUDGE_PASS_count]
  have h0 : s % 8 < 8 := Nat.mod_lt _ (by decide)
  generalize s % 8 = m0 at *
  have e : (0x120100 + 0x10 * m0) % 0x4000000 = 0x120100 + 0x10 * m0 := by omega
  rw [regKind_safe (by omega) (by omega), e]; unfold kindSafe; rw [if_neg (by omega), if_pos (by omega)]; all_goals omega
@[simp] theorem F.SAFE_JUDGE_FAIL_count_kind (s : Nat) : regKind (F.SAFE_JUDGE_FAIL_count s).key = 279 := by
  simp only [F.SAFE_JUDGE_FAIL_count]
  have h0 : s % 8 < 8 := Nat.mod_lt _ (by decide)
  generalize s % 8 = m0 at *
  have e : (0x120104 + 0x10 * m0) % 0x4000000 = 0x120104 + 0x10 * m0 := by omega
  rw [regKind_safe (by omega) (by omega), e]; unfold kindSafe; rw [if_neg (by omega), if_pos (by omega)]; all_goals omega
@[simp] theorem F.SAFE_JUDGE_FAIL_check_kind (s : Nat) : regKind (F.SAFE_JUDGE_FAIL_check s).key = 279 := F.SAFE_JUDGE_FAIL_count_kind s
@[simp] theorem F.SAFE_JUDGE_SEQ_counter_kind (s : Nat) : regKind (F.SAFE_JUDGE_SEQ_counter s).key = 280 := by
  simp only [F.SAFE_JUDGE_SEQ_counter]
  have h0 : s % 8 < 8 := Nat.mod_lt _ (by decide)
  generalize s % 8 = m0 at *
  have e : (0x120108 + 0x10 * m0) % 0x4000000 = 0x120108 + 0x10 * m0 := by omega
  rw [regKind_safe (by omega) (by omega), e]; unfold kindSafe; rw [if_neg (by omega), if_pos (by omega)]; all_goals omega
@[simp] theorem F.SAFE_WDOG_misses_kind (w : Nat) : regKind (F.SAFE_WDOG_misses w).key = 281 := by
  simp only [F.SAFE_WDOG_misses]
  have h0 : w % 64 < 64 := Nat.mod_lt _ (by decide)
  generalize w % 64 = m0 at *
  have e : (0x120200 + 0x4 * m0) % 0x4000000 = 0x120200 + 0x4 * m0 := by omega
  rw [regKind_safe (by omega) (by omega), e]; unfold kindSafe; rw [if_neg (by omega), if_neg (by omega), if_pos (by omega)]; all_goals omega
@[simp] theorem F.SAFE_WDOG_armed_kind (w : Nat) : regKind (F.SAFE_WDOG_armed w).key = 281 := F.SAFE_WDOG_misses_kind w
@[simp] theorem F.SAFE_WDOG_early_kind (w : Nat) : regKind (F.SAFE_WDOG_early w).key = 281 := F.SAFE_WDOG_misses_kind w
@[simp] theorem F.SAFE_CTX_phase_kind (c : Nat) : regKind (F.SAFE_CTX_phase c).key = 282 := by
  simp only [F.SAFE_CTX_phase]
  have h0 : c % 64 < 64 := Nat.mod_lt _ (by decide)
  generalize c % 64 = m0 at *
  have e : (0x120300 + 0x4 * m0) % 0x4000000 = 0x120300 + 0x4 * m0 := by omega
  rw [regKind_safe (by omega) (by omega), e]; unfold kindSafe; (iterate 3 rw [if_neg (by omega)]); rw [if_pos (by omega)]; all_goals omega
@[simp] theorem F.SAFE_CTX_golden_fail_kind (c : Nat) : regKind (F.SAFE_CTX_golden_fail c).key = 282 := F.SAFE_CTX_phase_kind c
@[simp] theorem F.SAFE_CTX_mismatches_kind (c : Nat) : regKind (F.SAFE_CTX_mismatches c).key = 282 := F.SAFE_CTX_phase_kind c
@[simp] theorem F.SAFE_CTX_golden_passed_kind (c : Nat) : regKind (F.SAFE_CTX_golden_passed c).key = 282 := F.SAFE_CTX_phase_kind c
@[simp] theorem F.SAFE_TEST_completions_kind (t : Nat) : regKind (F.SAFE_TEST_completions t).key = 283 := by
  simp only [F.SAFE_TEST_completions]
  have h0 : t % 9 < 9 := Nat.mod_lt _ (by decide)
  generalize t % 9 = m0 at *
  have e : (0x120400 + 0x4 * m0) % 0x4000000 = 0x120400 + 0x4 * m0 := by omega
  rw [regKind_safe (by omega) (by omega), e]; unfold kindSafe; (iterate 4 rw [if_neg (by omega)]); rw [if_pos (by omega)]; all_goals omega
@[simp] theorem F.SAFE_TEST_overdue_kind (t : Nat) : regKind (F.SAFE_TEST_overdue t).key = 283 := F.SAFE_TEST_completions_kind t
@[simp] theorem F.SAFE_TEST_failed_kind (t : Nat) : regKind (F.SAFE_TEST_failed t).key = 283 := F.SAFE_TEST_completions_kind t
@[simp] theorem F.INTEG_STATUS_trace_level_kind : regKind (F.INTEG_STATUS_trace_level).key = 284 := by decide
@[simp] theorem F.INTEG_STATUS_trace_port_kind : regKind (F.INTEG_STATUS_trace_port).key = 284 := by decide
@[simp] theorem F.INTEG_STATUS_poison_full_kind : regKind (F.INTEG_STATUS_poison_full).key = 284 := by decide
@[simp] theorem F.INTEG_CMD_STATUS_code_kind (i : Nat) : regKind (F.INTEG_CMD_STATUS_code i).key = 286 := by
  simp only [F.INTEG_CMD_STATUS_code, portBank]
  have h0 : i % 4 < 4 := Nat.mod_lt _ (by decide)
  generalize i % 4 = m0 at *
  have e : (0x130008 + (m0 + 1) * 0x4000000) % 0x4000000 = 0x130008 := by omega
  rw [regKind_integ (by omega) (by omega), e]; unfold kindInteg; rw [if_pos (by omega)]; all_goals omega
@[simp] theorem F.INTEG_CMD_STATUS_reason_kind (i : Nat) : regKind (F.INTEG_CMD_STATUS_reason i).key = 286 := F.INTEG_CMD_STATUS_code_kind i
@[simp] theorem F.INTEG_TRACE_TAIL_pos_kind (i : Nat) : regKind (F.INTEG_TRACE_TAIL_pos i).key = 292 := by
  simp only [F.INTEG_TRACE_TAIL_pos, portBank]
  have h0 : i % 4 < 4 := Nat.mod_lt _ (by decide)
  generalize i % 4 = m0 at *
  have e : (0x130020 + (m0 + 1) * 0x4000000) % 0x4000000 = 0x130020 := by omega
  rw [regKind_integ (by omega) (by omega), e]; unfold kindInteg; rw [if_pos (by omega)]; all_goals omega
@[simp] theorem F.INTEG_TRACE_DROP_count_kind (i : Nat) : regKind (F.INTEG_TRACE_DROP_count i).key = 293 := by
  simp only [F.INTEG_TRACE_DROP_count, portBank]
  have h0 : i % 4 < 4 := Nat.mod_lt _ (by decide)
  generalize i % 4 = m0 at *
  have e : (0x130024 + (m0 + 1) * 0x4000000) % 0x4000000 = 0x130024 := by omega
  rw [regKind_integ (by omega) (by omega), e]; unfold kindInteg; rw [if_pos (by omega)]; all_goals omega
@[simp] theorem F.INTEG_SCRUB_LAP_ms_kind (k : Nat) : regKind (F.INTEG_SCRUB_LAP_ms k).key = 295 := by
  simp only [F.INTEG_SCRUB_LAP_ms]
  have h0 : k % 4 < 4 := Nat.mod_lt _ (by decide)
  generalize k % 4 = m0 at *
  have e : (0x130040 + 0x8 * m0) % 0x4000000 = 0x130040 + 0x8 * m0 := by omega
  rw [regKind_integ (by omega) (by omega), e]; unfold kindInteg; rw [if_neg (by omega), if_pos (by omega)]; all_goals omega
@[simp] theorem F.INTEG_SCRUB_LAPS_count_kind (k : Nat) : regKind (F.INTEG_SCRUB_LAPS_count k).key = 296 := by
  simp only [F.INTEG_SCRUB_LAPS_count]
  have h0 : k % 4 < 4 := Nat.mod_lt _ (by decide)
  generalize k % 4 = m0 at *
  have e : (0x130044 + 0x8 * m0) % 0x4000000 = 0x130044 + 0x8 * m0 := by omega
  rw [regKind_integ (by omega) (by omega), e]; unfold kindInteg; rw [if_neg (by omega), if_pos (by omega)]; all_goals omega
@[simp] theorem F.INTEG_ERR_CORR_count_kind (k : Nat) : regKind (F.INTEG_ERR_CORR_count k).key = 297 := by
  simp only [F.INTEG_ERR_CORR_count]
  have h0 : k % 4 < 4 := Nat.mod_lt _ (by decide)
  generalize k % 4 = m0 at *
  have e : (0x130080 + 0x10 * m0) % 0x4000000 = 0x130080 + 0x10 * m0 := by omega
  rw [regKind_integ (by omega) (by omega), e]; unfold kindInteg; rw [if_neg (by omega), if_neg (by omega), if_pos (by omega)]; all_goals omega
@[simp] theorem F.INTEG_ERR_UNCORR_count_kind (k : Nat) : regKind (F.INTEG_ERR_UNCORR_count k).key = 298 := by
  simp only [F.INTEG_ERR_UNCORR_count]
  have h0 : k % 4 < 4 := Nat.mod_lt _ (by decide)
  generalize k % 4 = m0 at *
  have e : (0x130084 + 0x10 * m0) % 0x4000000 = 0x130084 + 0x10 * m0 := by omega
  rw [regKind_integ (by omega) (by omega), e]; unfold kindInteg; rw [if_neg (by omega), if_neg (by omega), if_pos (by omega)]; all_goals omega
@[simp] theorem F.INTEG_ERR_RETRY_refetches_kind (k : Nat) : regKind (F.INTEG_ERR_RETRY_refetches k).key = 299 := by
  simp only [F.INTEG_ERR_RETRY_refetches]
  have h0 : k % 4 < 4 := Nat.mod_lt _ (by decide)
  generalize k % 4 = m0 at *
  have e : (0x130088 + 0x10 * m0) % 0x4000000 = 0x130088 + 0x10 * m0 := by omega
  rw [regKind_integ (by omega) (by omega), e]; unfold kindInteg; rw [if_neg (by omega), if_neg (by omega), if_pos (by omega)]; all_goals omega
@[simp] theorem F.INTEG_ERR_RETRY_replays_kind (k : Nat) : regKind (F.INTEG_ERR_RETRY_replays k).key = 299 := F.INTEG_ERR_RETRY_refetches_kind k
@[simp] theorem F.INTEG_HBM_poisoned_kind : regKind (F.INTEG_HBM_poisoned).key = 300 := by decide
@[simp] theorem F.INTEG_HBM_retired_kind : regKind (F.INTEG_HBM_retired).key = 300 := by decide
@[simp] theorem F.INTEG_CAP_LOC_kind_kind : regKind (F.INTEG_CAP_LOC_kind).key = 316 := by decide
@[simp] theorem F.INTEG_CAP_LOC_unit_kind : regKind (F.INTEG_CAP_LOC_unit).key = 316 := by decide
@[simp] theorem F.INTEG_CAP_LOC_bank_kind : regKind (F.INTEG_CAP_LOC_bank).key = 316 := by decide
@[simp] theorem F.INTEG_CAP_LOC_valid_kind : regKind (F.INTEG_CAP_LOC_valid).key = 316 := by decide
@[simp] theorem F.INTEG_CAP_ADDR_line_kind : regKind (F.INTEG_CAP_ADDR_line).key = 317 := by decide
@[simp] theorem F.INTEG_CAP_CRC_value_kind : regKind (F.INTEG_CAP_CRC_value).key = 318 := by decide
@[simp] theorem F.INTEG_CAP_DATA_word_kind (i : Nat) : regKind (F.INTEG_CAP_DATA_word i).key = 319 := by
  simp only [F.INTEG_CAP_DATA_word]
  have h0 : i % 16 < 16 := Nat.mod_lt _ (by decide)
  generalize i % 16 = m0 at *
  have e : (0x130110 + 0x4 * m0) % 0x4000000 = 0x130110 + 0x4 * m0 := by omega
  rw [regKind_integ (by omega) (by omega), e]; unfold kindInteg; (iterate 4 rw [if_neg (by omega)]); rw [if_pos (by omega)]; all_goals omega
@[simp] theorem F.INTEG_CAP_CHECK_word_kind (i : Nat) : regKind (F.INTEG_CAP_CHECK_word i).key = 320 := by
  simp only [F.INTEG_CAP_CHECK_word]
  have h0 : i % 8 < 8 := Nat.mod_lt _ (by decide)
  generalize i % 8 = m0 at *
  have e : (0x130150 + 0x4 * m0) % 0x4000000 = 0x130150 + 0x4 * m0 := by omega
  rw [regKind_integ (by omega) (by omega), e]; unfold kindInteg; (iterate 5 rw [if_neg (by omega)]); rw [if_pos (by omega)]; all_goals omega
@[simp] theorem F.INTEG_RECOMP_fraction_kind (p : Nat) : regKind (F.INTEG_RECOMP_fraction p).key = 321 := by
  simp only [F.INTEG_RECOMP_fraction]
  have h0 : p % 8 < 8 := Nat.mod_lt _ (by decide)
  generalize p % 8 = m0 at *
  have e : (0x130200 + 0x10 * m0) % 0x4000000 = 0x130200 + 0x10 * m0 := by omega
  rw [regKind_integ (by omega) (by omega), e]; unfold kindInteg; (iterate 6 rw [if_neg (by omega)]); rw [if_pos (by omega)]; all_goals omega
@[simp] theorem F.INTEG_RECOMP_range_check_kind (p : Nat) : regKind (F.INTEG_RECOMP_range_check p).key = 321 := F.INTEG_RECOMP_fraction_kind p
@[simp] theorem F.INTEG_RECOMP_LEGS_count_kind (p : Nat) : regKind (F.INTEG_RECOMP_LEGS_count p).key = 322 := by
  simp only [F.INTEG_RECOMP_LEGS_count]
  have h0 : p % 8 < 8 := Nat.mod_lt _ (by decide)
  generalize p % 8 = m0 at *
  have e : (0x130204 + 0x10 * m0) % 0x4000000 = 0x130204 + 0x10 * m0 := by omega
  rw [regKind_integ (by omega) (by omega), e]; unfold kindInteg; (iterate 6 rw [if_neg (by omega)]); rw [if_pos (by omega)]; all_goals omega
@[simp] theorem F.INTEG_RECOMP_FAULT_mismatches_kind (p : Nat) : regKind (F.INTEG_RECOMP_FAULT_mismatches p).key = 323 := by
  simp only [F.INTEG_RECOMP_FAULT_mismatches]
  have h0 : p % 8 < 8 := Nat.mod_lt _ (by decide)
  generalize p % 8 = m0 at *
  have e : (0x130208 + 0x10 * m0) % 0x4000000 = 0x130208 + 0x10 * m0 := by omega
  rw [regKind_integ (by omega) (by omega), e]; unfold kindInteg; (iterate 6 rw [if_neg (by omega)]); rw [if_pos (by omega)]; all_goals omega
@[simp] theorem F.INTEG_RECOMP_FAULT_unresolved_kind (p : Nat) : regKind (F.INTEG_RECOMP_FAULT_unresolved p).key = 323 := F.INTEG_RECOMP_FAULT_mismatches_kind p
@[simp] theorem F.INTEG_SEAM_blocks_kind (s : Nat) : regKind (F.INTEG_SEAM_blocks s).key = 324 := by
  simp only [F.INTEG_SEAM_blocks]
  have h0 : s % 4 < 4 := Nat.mod_lt _ (by decide)
  generalize s % 4 = m0 at *
  have e : (0x130300 + 0x10 * m0) % 0x4000000 = 0x130300 + 0x10 * m0 := by omega
  rw [regKind_integ (by omega) (by omega), e]; unfold kindInteg; (iterate 7 rw [if_neg (by omega)]); rw [if_pos (by omega)]; all_goals omega
@[simp] theorem F.INTEG_SEAM_FAULT_mismatches_kind (s : Nat) : regKind (F.INTEG_SEAM_FAULT_mismatches s).key = 325 := by
  simp only [F.INTEG_SEAM_FAULT_mismatches]
  have h0 : s % 4 < 4 := Nat.mod_lt _ (by decide)
  generalize s % 4 = m0 at *
  have e : (0x130304 + 0x10 * m0) % 0x4000000 = 0x130304 + 0x10 * m0 := by omega
  rw [regKind_integ (by omega) (by omega), e]; unfold kindInteg; (iterate 7 rw [if_neg (by omega)]); rw [if_pos (by omega)]; all_goals omega
@[simp] theorem F.INTEG_SEAM_FAULT_missing_kind (s : Nat) : regKind (F.INTEG_SEAM_FAULT_missing s).key = 325 := F.INTEG_SEAM_FAULT_mismatches_kind s
@[simp] theorem F.INTEG_TRIP_STATUS_repaired_kind : regKind (F.INTEG_TRIP_STATUS_repaired).key = 326 := by decide
@[simp] theorem F.INTEG_TRIP_STATUS_disagree_kind : regKind (F.INTEG_TRIP_STATUS_disagree).key = 326 := by decide
@[simp] theorem F.INTEG_TRIP_value_kind (i : Nat) : regKind (F.INTEG_TRIP_value i).key = 327 := by
  simp only [F.INTEG_TRIP_value]
  have h0 : i % 256 < 256 := Nat.mod_lt _ (by decide)
  generalize i % 256 = m0 at *
  have e : (0x131000 + 0x4 * m0) % 0x4000000 = 0x131000 + 0x4 * m0 := by omega
  rw [regKind_integ (by omega) (by omega), e]; unfold kindInteg; (iterate 9 rw [if_neg (by omega)]); rw [if_pos (by omega)]; all_goals omega
@[simp] theorem F.INTEG_TRIP_COPY_word_kind (k i : Nat) : regKind (F.INTEG_TRIP_COPY_word k i).key = 328 := by
  simp only [F.INTEG_TRIP_COPY_word]
  have h0 : k % 3 < 3 := Nat.mod_lt _ (by decide)
  have h1 : i % 256 < 256 := Nat.mod_lt _ (by decide)
  generalize k % 3 = m0, i % 256 = m1 at *
  have e : (0x131400 + 0x400 * m0 + 0x4 * m1) % 0x4000000 = 0x131400 + 0x400 * m0 + 0x4 * m1 := by omega
  rw [regKind_integ (by omega) (by omega), e]; unfold kindInteg; (iterate 10 rw [if_neg (by omega)]); rw [if_pos (by omega)]; all_goals omega
@[simp] theorem F.WAYM_STATUS_frozen_kind : regKind (F.WAYM_STATUS_frozen).key = 329 := by decide
@[simp] theorem F.WAYM_STATUS_freeze_port_kind : regKind (F.WAYM_STATUS_freeze_port).key = 329 := by decide
@[simp] theorem F.WAYM_STATUS_scan_done_kind : regKind (F.WAYM_STATUS_scan_done).key = 329 := by decide
@[simp] theorem F.WAYM_STATUS_budget_empty_kind : regKind (F.WAYM_STATUS_budget_empty).key = 329 := by decide
@[simp] theorem F.WAYM_STATUS_buffered_kind : regKind (F.WAYM_STATUS_buffered).key = 329 := by decide
@[simp] theorem F.WAYM_HEAD_SEQ_seq_kind : regKind (F.WAYM_HEAD_SEQ_seq).key = 330 := by decide
@[simp] theorem F.WAYM_OLDEST_SEQ_seq_kind : regKind (F.WAYM_OLDEST_SEQ_seq).key = 331 := by decide
@[simp] theorem F.WAYM_CMD_STATUS_code_kind (i : Nat) : regKind (F.WAYM_CMD_STATUS_code i).key = 333 := by
  simp only [F.WAYM_CMD_STATUS_code, portBank]
  have h0 : i % 4 < 4 := Nat.mod_lt _ (by decide)
  generalize i % 4 = m0 at *
  have e : (0x140010 + (m0 + 1) * 0x4000000) % 0x4000000 = 0x140010 := by omega
  rw [regKind_waym (by omega) (by omega), e]; unfold kindWaym; rw [if_pos (by omega)]; all_goals omega
@[simp] theorem F.WAYM_CMD_STATUS_reason_kind (i : Nat) : regKind (F.WAYM_CMD_STATUS_reason i).key = 333 := F.WAYM_CMD_STATUS_code_kind i
@[simp] theorem F.WAYM_READ_STATE_state_kind (i : Nat) : regKind (F.WAYM_READ_STATE_state i).key = 335 := by
  simp only [F.WAYM_READ_STATE_state, portBank]
  have h0 : i % 4 < 4 := Nat.mod_lt _ (by decide)
  generalize i % 4 = m0 at *
  have e : (0x140018 + (m0 + 1) * 0x4000000) % 0x4000000 = 0x140018 := by omega
  rw [regKind_waym (by omega) (by omega), e]; unfold kindWaym; rw [if_pos (by omega)]; all_goals omega
@[simp] theorem F.WAYM_READ_DATA_word_kind (i0 i : Nat) : regKind (F.WAYM_READ_DATA_word i0 i).key = 336 := by
  simp only [F.WAYM_READ_DATA_word, portBank]
  have h0 : i0 % 4 < 4 := Nat.mod_lt _ (by decide)
  have h1 : i % 8 < 8 := Nat.mod_lt _ (by decide)
  generalize i0 % 4 = m0, i % 8 = m1 at *
  have e : (0x140020 + (m0 + 1) * 0x4000000 + 0x4 * m1) % 0x4000000 = 0x140020 + 0x4 * m1 := by omega
  rw [regKind_waym (by omega) (by omega), e]; unfold kindWaym; rw [if_neg (by omega), if_pos (by omega)]; all_goals omega
@[simp] theorem F.WAYM_DROPPED_count_kind : regKind (F.WAYM_DROPPED_count).key = 337 := by decide
@[simp] theorem F.WAYM_SUPPRESSED_count_kind : regKind (F.WAYM_SUPPRESSED_count).key = 338 := by decide
@[simp] theorem F.WAYM_BUDGET_tokens_kind : regKind (F.WAYM_BUDGET_tokens).key = 339 := by decide
@[simp] theorem F.WAYM_FROZEN_AT_seq_kind : regKind (F.WAYM_FROZEN_AT_seq).key = 341 := by decide
@[simp] theorem F.WAYM_WEAR_erases_kind : regKind (F.WAYM_WEAR_erases).key = 342 := by decide
@[simp] theorem F.PERF_STATUS_snapshot_valid_kind : regKind (F.PERF_STATUS_snapshot_valid).key = 343 := by decide
@[simp] theorem F.PERF_STATUS_pending_kind : regKind (F.PERF_STATUS_pending).key = 343 := by decide
@[simp] theorem F.PERF_STATUS_snapshot_pending_kind : regKind (F.PERF_STATUS_snapshot_pending).key = 343 := by decide
@[simp] theorem F.PERF_STATUS_tagging_kind : regKind (F.PERF_STATUS_tagging).key = 343 := by decide
@[simp] theorem F.PERF_CMD_STATUS_code_kind (i : Nat) : regKind (F.PERF_CMD_STATUS_code i).key = 345 := by
  simp only [F.PERF_CMD_STATUS_code, portBank]
  have h0 : i % 4 < 4 := Nat.mod_lt _ (by decide)
  generalize i % 4 = m0 at *
  have e : (0x150008 + (m0 + 1) * 0x4000000) % 0x4000000 = 0x150008 := by omega
  rw [regKind_perf (by omega) (by omega), e]; unfold kindPerf; rw [if_pos (by omega)]; all_goals omega
@[simp] theorem F.PERF_SNAP_PERIOD_number_kind : regKind (F.PERF_SNAP_PERIOD_number).key = 346 := by decide
@[simp] theorem F.PERF_TICK_LO_ticks_kind (c : Nat) : regKind (F.PERF_TICK_LO_ticks c).key = 348 := by
  simp only [F.PERF_TICK_LO_ticks]
  have h0 : c % 40 < 40 := Nat.mod_lt _ (by decide)
  generalize c % 40 = m0 at *
  have e : (0x151000 + 0x100 * m0) % 0x4000000 = 0x151000 + 0x100 * m0 := by omega
  rw [regKind_perf (by omega) (by omega), e]; unfold kindPerf; rw [if_neg (by omega), if_pos (by omega)]; all_goals first | omega | (dsimp only; (repeat' split) <;> omega)
@[simp] theorem F.PERF_TICK_HI_ticks_kind (c : Nat) : regKind (F.PERF_TICK_HI_ticks c).key = 349 := by
  simp only [F.PERF_TICK_HI_ticks]
  have h0 : c % 40 < 40 := Nat.mod_lt _ (by decide)
  generalize c % 40 = m0 at *
  have e : (0x151004 + 0x100 * m0) % 0x4000000 = 0x151004 + 0x100 * m0 := by omega
  rw [regKind_perf (by omega) (by omega), e]; unfold kindPerf; rw [if_neg (by omega), if_pos (by omega)]; all_goals first | omega | (dsimp only; (repeat' split) <;> omega)
@[simp] theorem F.PERF_COUNT_LO_count_kind (c k : Nat) : regKind (F.PERF_COUNT_LO_count c k).key = 350 := by
  simp only [F.PERF_COUNT_LO_count]
  have h0 : c % 40 < 40 := Nat.mod_lt _ (by decide)
  have h1 : k % 8 < 8 := Nat.mod_lt _ (by decide)
  generalize c % 40 = m0, k % 8 = m1 at *
  have e : (0x151008 + 0x100 * m0 + 0x8 * m1) % 0x4000000 = 0x151008 + 0x100 * m0 + 0x8 * m1 := by omega
  rw [regKind_perf (by omega) (by omega), e]; unfold kindPerf; rw [if_neg (by omega), if_pos (by omega)]; all_goals first | omega | (dsimp only; (repeat' split) <;> omega)
@[simp] theorem F.PERF_COUNT_HI_count_kind (c k : Nat) : regKind (F.PERF_COUNT_HI_count c k).key = 351 := by
  simp only [F.PERF_COUNT_HI_count]
  have h0 : c % 40 < 40 := Nat.mod_lt _ (by decide)
  have h1 : k % 8 < 8 := Nat.mod_lt _ (by decide)
  generalize c % 40 = m0, k % 8 = m1 at *
  have e : (0x15100c + 0x100 * m0 + 0x8 * m1) % 0x4000000 = 0x15100c + 0x100 * m0 + 0x8 * m1 := by omega
  rw [regKind_perf (by omega) (by omega), e]; unfold kindPerf; rw [if_neg (by omega), if_pos (by omega)]; all_goals first | omega | (dsimp only; (repeat' split) <;> omega)
@[simp] theorem F.PERF_EVENT_event_kind (c k : Nat) : regKind (F.PERF_EVENT_event c k).key = 352 := by
  simp only [F.PERF_EVENT_event]
  have h0 : c % 40 < 40 := Nat.mod_lt _ (by decide)
  have h1 : k % 8 < 8 := Nat.mod_lt _ (by decide)
  generalize c % 40 = m0, k % 8 = m1 at *
  have e : (0x151048 + 0x100 * m0 + 0x4 * m1) % 0x4000000 = 0x151048 + 0x100 * m0 + 0x4 * m1 := by omega
  rw [regKind_perf (by omega) (by omega), e]; unfold kindPerf; rw [if_neg (by omega), if_pos (by omega)]; all_goals first | omega | (dsimp only; (repeat' split) <;> omega)
@[simp] theorem F.PERF_EVENT_partitions_kind (c k : Nat) : regKind (F.PERF_EVENT_partitions c k).key = 352 := F.PERF_EVENT_event_kind c k
@[simp] theorem F.PERF_SNAP_TICK_LO_ticks_kind (c : Nat) : regKind (F.PERF_SNAP_TICK_LO_ticks c).key = 353 := by
  simp only [F.PERF_SNAP_TICK_LO_ticks]
  have h0 : c % 40 < 40 := Nat.mod_lt _ (by decide)
  generalize c % 40 = m0 at *
  have e : (0x151080 + 0x100 * m0) % 0x4000000 = 0x151080 + 0x100 * m0 := by omega
  rw [regKind_perf (by omega) (by omega), e]; unfold kindPerf; rw [if_neg (by omega), if_pos (by omega)]; all_goals first | omega | (dsimp only; (repeat' split) <;> omega)
@[simp] theorem F.PERF_SNAP_TICK_HI_ticks_kind (c : Nat) : regKind (F.PERF_SNAP_TICK_HI_ticks c).key = 354 := by
  simp only [F.PERF_SNAP_TICK_HI_ticks]
  have h0 : c % 40 < 40 := Nat.mod_lt _ (by decide)
  generalize c % 40 = m0 at *
  have e : (0x151084 + 0x100 * m0) % 0x4000000 = 0x151084 + 0x100 * m0 := by omega
  rw [regKind_perf (by omega) (by omega), e]; unfold kindPerf; rw [if_neg (by omega), if_pos (by omega)]; all_goals first | omega | (dsimp only; (repeat' split) <;> omega)
@[simp] theorem F.PERF_SNAP_LO_count_kind (c k : Nat) : regKind (F.PERF_SNAP_LO_count c k).key = 355 := by
  simp only [F.PERF_SNAP_LO_count]
  have h0 : c % 40 < 40 := Nat.mod_lt _ (by decide)
  have h1 : k % 8 < 8 := Nat.mod_lt _ (by decide)
  generalize c % 40 = m0, k % 8 = m1 at *
  have e : (0x151088 + 0x100 * m0 + 0x8 * m1) % 0x4000000 = 0x151088 + 0x100 * m0 + 0x8 * m1 := by omega
  rw [regKind_perf (by omega) (by omega), e]; unfold kindPerf; rw [if_neg (by omega), if_pos (by omega)]; all_goals first | omega | (dsimp only; (repeat' split) <;> omega)
@[simp] theorem F.PERF_SNAP_HI_count_kind (c k : Nat) : regKind (F.PERF_SNAP_HI_count c k).key = 356 := by
  simp only [F.PERF_SNAP_HI_count]
  have h0 : c % 40 < 40 := Nat.mod_lt _ (by decide)
  have h1 : k % 8 < 8 := Nat.mod_lt _ (by decide)
  generalize c % 40 = m0, k % 8 = m1 at *
  have e : (0x15108c + 0x100 * m0 + 0x8 * m1) % 0x4000000 = 0x15108c + 0x100 * m0 + 0x8 * m1 := by omega
  rw [regKind_perf (by omega) (by omega), e]; unfold kindPerf; rw [if_neg (by omega), if_pos (by omega)]; all_goals first | omega | (dsimp only; (repeat' split) <;> omega)
@[simp] theorem F.PERF_TAG_COUNT_taken_kind (c : Nat) : regKind (F.PERF_TAG_COUNT_taken c).key = 357 := by
  simp only [F.PERF_TAG_COUNT_taken]
  have h0 : c % 40 < 40 := Nat.mod_lt _ (by decide)
  generalize c % 40 = m0 at *
  have e : (0x1510c8 + 0x100 * m0) % 0x4000000 = 0x1510c8 + 0x100 * m0 := by omega
  rw [regKind_perf (by omega) (by omega), e]; unfold kindPerf; rw [if_neg (by omega), if_pos (by omega)]; all_goals first | omega | (dsimp only; (repeat' split) <;> omega)
@[simp] theorem F.PERF_TAG_COUNT_overwritten_kind (c : Nat) : regKind (F.PERF_TAG_COUNT_overwritten c).key = 357 := F.PERF_TAG_COUNT_taken_kind c
@[simp] theorem F.PERF_BW_IN_units_kind (i : Nat) : regKind (F.PERF_BW_IN_units i).key = 363 := by
  simp only [F.PERF_BW_IN_units]
  have h0 : i % 4 < 4 := Nat.mod_lt _ (by decide)
  generalize i % 4 = m0 at *
  have e : (0x158004 + 0x20 * m0) % 0x4000000 = 0x158004 + 0x20 * m0 := by omega
  rw [regKind_perf (by omega) (by omega), e]; unfold kindPerf; (iterate 3 rw [if_neg (by omega)]); rw [if_pos (by omega)]; all_goals omega
@[simp] theorem F.PERF_BW_OUT_units_kind (i : Nat) : regKind (F.PERF_BW_OUT_units i).key = 364 := by
  simp only [F.PERF_BW_OUT_units]
  have h0 : i % 4 < 4 := Nat.mod_lt _ (by decide)
  generalize i % 4 = m0 at *
  have e : (0x158008 + 0x20 * m0) % 0x4000000 = 0x158008 + 0x20 * m0 := by omega
  rw [regKind_perf (by omega) (by omega), e]; unfold kindPerf; (iterate 3 rw [if_neg (by omega)]); rw [if_pos (by omega)]; all_goals omega
@[simp] theorem F.PERF_BW_PEAK_IN_units_kind (i : Nat) : regKind (F.PERF_BW_PEAK_IN_units i).key = 365 := by
  simp only [F.PERF_BW_PEAK_IN_units]
  have h0 : i % 4 < 4 := Nat.mod_lt _ (by decide)
  generalize i % 4 = m0 at *
  have e : (0x15800c + 0x20 * m0) % 0x4000000 = 0x15800c + 0x20 * m0 := by omega
  rw [regKind_perf (by omega) (by omega), e]; unfold kindPerf; (iterate 3 rw [if_neg (by omega)]); rw [if_pos (by omega)]; all_goals omega
@[simp] theorem F.PERF_BW_PEAK_OUT_units_kind (i : Nat) : regKind (F.PERF_BW_PEAK_OUT_units i).key = 366 := by
  simp only [F.PERF_BW_PEAK_OUT_units]
  have h0 : i % 4 < 4 := Nat.mod_lt _ (by decide)
  generalize i % 4 = m0 at *
  have e : (0x158010 + 0x20 * m0) % 0x4000000 = 0x158010 + 0x20 * m0 := by omega
  rw [regKind_perf (by omega) (by omega), e]; unfold kindPerf; (iterate 3 rw [if_neg (by omega)]); rw [if_pos (by omega)]; all_goals omega
@[simp] theorem F.PERF_TAG_A_offset_kind (c e : Nat) : regKind (F.PERF_TAG_A_offset c e).key = 358 := by
  simp only [F.PERF_TAG_A_offset]
  have h0 : c % 40 < 40 := Nat.mod_lt _ (by decide)
  have h1 : e % 16 < 16 := Nat.mod_lt _ (by decide)
  generalize c % 40 = m0, e % 16 = m1 at *
  have e : (0x154000 + 0x100 * m0 + 0x10 * m1) % 0x4000000 = 0x154000 + 0x100 * m0 + 0x10 * m1 := by omega
  rw [regKind_perf (by omega) (by omega), e]; unfold kindPerf; rw [if_neg (by omega), if_neg (by omega), if_pos (by omega)]; all_goals first | omega | (dsimp only; (repeat' split) <;> omega)
@[simp] theorem F.PERF_TAG_A_class_kind (c e : Nat) : regKind (F.PERF_TAG_A_class c e).key = 358 := F.PERF_TAG_A_offset_kind c e
@[simp] theorem F.PERF_TAG_A_op_kind (c e : Nat) : regKind (F.PERF_TAG_A_op c e).key = 358 := F.PERF_TAG_A_offset_kind c e
@[simp] theorem F.PERF_TAG_A_partition_kind (c e : Nat) : regKind (F.PERF_TAG_A_partition c e).key = 358 := F.PERF_TAG_A_offset_kind c e
@[simp] theorem F.PERF_TAG_A_valid_kind (c e : Nat) : regKind (F.PERF_TAG_A_valid c e).key = 358 := F.PERF_TAG_A_offset_kind c e
@[simp] theorem F.PERF_TAG_B_issue_kind (c e : Nat) : regKind (F.PERF_TAG_B_issue c e).key = 359 := by
  simp only [F.PERF_TAG_B_issue]
  have h0 : c % 40 < 40 := Nat.mod_lt _ (by decide)
  have h1 : e % 16 < 16 := Nat.mod_lt _ (by decide)
  generalize c % 40 = m0, e % 16 = m1 at *
  have e : (0x154004 + 0x100 * m0 + 0x10 * m1) % 0x4000000 = 0x154004 + 0x100 * m0 + 0x10 * m1 := by omega
  rw [regKind_perf (by omega) (by omega), e]; unfold kindPerf; rw [if_neg (by omega), if_neg (by omega), if_pos (by omega)]; all_goals first | omega | (dsimp only; (repeat' split) <;> omega)
@[simp] theorem F.PERF_TAG_B_leg_kind (c e : Nat) : regKind (F.PERF_TAG_B_leg c e).key = 359 := F.PERF_TAG_B_issue_kind c e
@[simp] theorem F.PERF_TAG_C_complete_kind (c e : Nat) : regKind (F.PERF_TAG_C_complete c e).key = 360 := by
  simp only [F.PERF_TAG_C_complete]
  have h0 : c % 40 < 40 := Nat.mod_lt _ (by decide)
  have h1 : e % 16 < 16 := Nat.mod_lt _ (by decide)
  generalize c % 40 = m0, e % 16 = m1 at *
  have e : (0x154008 + 0x100 * m0 + 0x10 * m1) % 0x4000000 = 0x154008 + 0x100 * m0 + 0x10 * m1 := by omega
  rw [regKind_perf (by omega) (by omega), e]; unfold kindPerf; rw [if_neg (by omega), if_neg (by omega), if_pos (by omega)]; all_goals first | omega | (dsimp only; (repeat' split) <;> omega)
@[simp] theorem F.PERF_TAG_C_reason_kind (c e : Nat) : regKind (F.PERF_TAG_C_reason c e).key = 360 := F.PERF_TAG_C_complete_kind c e
@[simp] theorem F.PERF_TAG_D_waited_kind (c e : Nat) : regKind (F.PERF_TAG_D_waited c e).key = 361 := by
  simp only [F.PERF_TAG_D_waited]
  have h0 : c % 40 < 40 := Nat.mod_lt _ (by decide)
  have h1 : e % 16 < 16 := Nat.mod_lt _ (by decide)
  generalize c % 40 = m0, e % 16 = m1 at *
  have e : (0x15400c + 0x100 * m0 + 0x10 * m1) % 0x4000000 = 0x15400c + 0x100 * m0 + 0x10 * m1 := by omega
  rw [regKind_perf (by omega) (by omega), e]; unfold kindPerf; rw [if_neg (by omega), if_neg (by omega), if_pos (by omega)]; all_goals first | omega | (dsimp only; (repeat' split) <;> omega)
@[simp] theorem F.PERF_TAG_D_period_kind (c e : Nat) : regKind (F.PERF_TAG_D_period c e).key = 361 := F.PERF_TAG_D_waited_kind c e
@[simp] theorem F.CAP_ID_package_kind : regKind (F.CAP_ID_package).key = 30 := by decide
@[simp] theorem F.CAP_ID_variant_kind : regKind (F.CAP_ID_variant).key = 30 := by decide
@[simp] theorem F.CAP_ID_stepping_kind : regKind (F.CAP_ID_stepping).key = 30 := by decide
@[simp] theorem F.CAP_VERSION_format_kind : regKind (F.CAP_VERSION_format).key = 31 := by decide
@[simp] theorem F.CAP_VERSION_func_table_kind : regKind (F.CAP_VERSION_func_table).key = 31 := by decide
@[simp] theorem F.CAP_PRESENT_compute_die1_kind : regKind (F.CAP_PRESENT_compute_die1).key = 32 := by decide
@[simp] theorem F.CAP_PRESENT_position_kind : regKind (F.CAP_PRESENT_position).key = 32 := by decide
@[simp] theorem F.CAP_PRESENT_pulse_kind : regKind (F.CAP_PRESENT_pulse).key = 32 := by decide
@[simp] theorem F.CAP_PRESENT_milepost_kind : regKind (F.CAP_PRESENT_milepost).key = 32 := by decide
@[simp] theorem F.CAP_PRESENT_field_io_kind : regKind (F.CAP_PRESENT_field_io).key = 32 := by decide
@[simp] theorem F.CAP_PRESENT_safety_io_kind : regKind (F.CAP_PRESENT_safety_io).key = 32 := by decide
@[simp] theorem F.CAP_PRESENT_safety_functions_kind : regKind (F.CAP_PRESENT_safety_functions).key = 32 := by decide
@[simp] theorem F.CAP_PRESENT_clusters_kind : regKind (F.CAP_PRESENT_clusters).key = 32 := by decide
@[simp] theorem F.CAP_COUNTS0_physical_cores_kind : regKind (F.CAP_COUNTS0_physical_cores).key = 33 := by decide
@[simp] theorem F.CAP_COUNTS0_logical_cores_kind : regKind (F.CAP_COUNTS0_logical_cores).key = 33 := by decide
@[simp] theorem F.CAP_COUNTS0_clusters_kind : regKind (F.CAP_COUNTS0_clusters).key = 33 := by decide
@[simp] theorem F.CAP_COUNTS0_compute_dies_kind : regKind (F.CAP_COUNTS0_compute_dies).key = 33 := by decide
@[simp] theorem F.CAP_COUNTS0_contexts_kind : regKind (F.CAP_COUNTS0_contexts).key = 33 := by decide
@[simp] theorem F.CAP_COUNTS0_lanes_kind : regKind (F.CAP_COUNTS0_lanes).key = 33 := by decide
@[simp] theorem F.CAP_COUNTS1_channels_kind : regKind (F.CAP_COUNTS1_channels).key = 34 := by decide
@[simp] theorem F.CAP_COUNTS1_partitions_kind : regKind (F.CAP_COUNTS1_partitions).key = 34 := by decide
@[simp] theorem F.CAP_COUNTS1_jobs_kind : regKind (F.CAP_COUNTS1_jobs).key = 34 := by decide
@[simp] theorem F.CAP_COUNTS1_ports_kind : regKind (F.CAP_COUNTS1_ports).key = 34 := by decide
@[simp] theorem F.CAP_COUNTS1_split_kind : regKind (F.CAP_COUNTS1_split).key = 34 := by decide
@[simp] theorem F.CAP_COUNTS1_position_channels_kind : regKind (F.CAP_COUNTS1_position_channels).key = 34 := by decide
@[simp] theorem F.CAP_COUNTS1_time_ports_kind : regKind (F.CAP_COUNTS1_time_ports).key = 34 := by decide
@[simp] theorem F.CAP_COUNTS2_inputs_kind : regKind (F.CAP_COUNTS2_inputs).key = 35 := by decide
@[simp] theorem F.CAP_COUNTS2_outputs_kind : regKind (F.CAP_COUNTS2_outputs).key = 35 := by decide
@[simp] theorem F.CAP_COUNTS2_safe_inputs_kind : regKind (F.CAP_COUNTS2_safe_inputs).key = 35 := by decide
@[simp] theorem F.CAP_COUNTS2_safe_outputs_kind : regKind (F.CAP_COUNTS2_safe_outputs).key = 35 := by decide
@[simp] theorem F.CAP_COUNTS2_mileposts_kind : regKind (F.CAP_COUNTS2_mileposts).key = 35 := by decide
@[simp] theorem F.CAP_HBM_usable_kind : regKind (F.CAP_HBM_usable).key = 36 := by decide
@[simp] theorem F.CAP_HBM_AVAIL_pages_kind : regKind (F.CAP_HBM_AVAIL_pages).key = 37 := by decide
@[simp] theorem F.CAP_HBM_AVAIL_retired_kind : regKind (F.CAP_HBM_AVAIL_retired).key = 37 := by decide
@[simp] theorem F.CAP_KV_sequences_kind : regKind (F.CAP_KV_sequences).key = 38 := by decide
@[simp] theorem F.CAP_KV_max_len_kind : regKind (F.CAP_KV_max_len).key = 38 := by decide
@[simp] theorem F.CAP_KV_POOL_pages_kind : regKind (F.CAP_KV_POOL_pages).key = 39 := by decide
@[simp] theorem F.CAP_ENGINES_spare_left_kind : regKind (F.CAP_ENGINES_spare_left).key = 40 := by decide
@[simp] theorem F.CAP_ENGINES_edge_ok_kind : regKind (F.CAP_ENGINES_edge_ok).key = 40 := by decide
@[simp] theorem F.CAP_ENGINES_walker_ok_kind : regKind (F.CAP_ENGINES_walker_ok).key = 40 := by decide
@[simp] theorem F.CAP_ENGINES_post_ok_kind : regKind (F.CAP_ENGINES_post_ok).key = 40 := by decide
@[simp] theorem F.CAP_APERTURE_bad_kind : regKind (F.CAP_APERTURE_bad).key = 46 := by decide

end Sys2Proof.Machine
end

