-- ==== Sys2Proof/Laws/Recorder.lean ====
section
/-! SUPPORT. What the operations of Machine/Ops.lean change: each differs from its argument in the areas of its mask alone. -/

set_option linter.all false

namespace Sys2Proof.Machine

def State.draw_mask : Nat := 0x1000000
theorem State.draw_snd {W : Nat} {s0 s : State} (hW : Within State.draw_mask W) (h : Frame W s0 s) :
    Frame W s0 (State.draw s).2 := by
  have b24 := hW.bit (n := 24) (by decide)
  have key : Frame.Snd W s0 (State.draw s) := by
    unfold State.draw
    repeat' first
      | intro _
      | with_reducible assumption
      | (extract_lets +onlyGivenNames x; refine Frame.cut (W := W) (s0 := s0) x ?_ ?_; unfold x; clear x; rotate_left; clear_value x; revert x; intro _ _)
      | (extract_lets +onlyGivenNames x; clear_value x; revert x; intro _)
      | with_reducible refine Frame.snd_mk ?_
      | with_reducible refine Frame.ite ?_ ?_
      | with_reducible refine Frame.foldl ?_ _ _ ?_
      | split
      | with_reducible refine Frame.of_snd (by with_reducible assumption) ?_
      | with_reducible refine Frame.of_fst (by with_reducible assumption) ?_
      | with_reducible refine Frame.snd_mk ?_
      | with_reducible refine Frame.fst_mk ?_
      | with_reducible refine Frame.foldl_snd ?_ _ _ ?_
      | with_reducible refine Frame.foldl_fst ?_ _ _ ?_
      | with_reducible refine Frame.foldr_snd ?_ _ _ ?_
      | with_reducible refine Frame.Snd.mk ?_
      | with_reducible refine Frame.Fst.mk ?_
      | dsimp only
      | with_reducible refine Frame.free_upd b24 ?_
  exact key.out
theorem State.draw_frame {W : Nat} {s0 s : State} {r0 : Nat} {t : State} (e : State.draw s = (r0, t)) (hW : Within State.draw_mask W) (h : Frame W s0 s) :
    Frame W s0 t := by
  have key := State.draw_snd hW h
  rw [e] at key; exact key

def State.drawEntropy_mask : Nat := 0x1000000
theorem State.drawEntropy_snd {W : Nat} {s0 s : State} (hW : Within State.drawEntropy_mask W) (h : Frame W s0 s) :
    Frame W s0 (State.drawEntropy s).2 := by
  have b24 := hW.bit (n := 24) (by decide)
  have key : Frame.Snd W s0 (State.drawEntropy s) := by
    unfold State.drawEntropy
    repeat' first
      | intro _
      | with_reducible assumption
      | (extract_lets +onlyGivenNames x; refine Frame.cut (W := W) (s0 := s0) x ?_ ?_; unfold x; clear x; rotate_left; clear_value x; revert x; intro _ _)
      | (extract_lets +onlyGivenNames x; clear_value x; revert x; intro _)
      | with_reducible refine Frame.snd_mk ?_
      | with_reducible refine Frame.ite ?_ ?_
      | with_reducible refine Frame.foldl ?_ _ _ ?_
      | split
      | with_reducible refine Frame.of_snd (by with_reducible assumption) ?_
      | with_reducible refine Frame.of_fst (by with_reducible assumption) ?_
      | with_reducible refine Frame.snd_mk ?_
      | with_reducible refine Frame.fst_mk ?_
      | with_reducible refine Frame.foldl_snd ?_ _ _ ?_
      | with_reducible refine Frame.foldl_fst ?_ _ _ ?_
      | with_reducible refine Frame.foldr_snd ?_ _ _ ?_
      | with_reducible refine Frame.Snd.mk ?_
      | with_reducible refine Frame.Fst.mk ?_
      | dsimp only
      | with_reducible refine Frame.free_upd b24 ?_
  exact key.out
theorem State.drawEntropy_frame {W : Nat} {s0 s : State} {r0 : Nat} {t : State} (e : State.drawEntropy s = (r0, t)) (hW : Within State.drawEntropy_mask W) (h : Frame W s0 s) :
    Frame W s0 t := by
  have key := State.drawEntropy_snd hW h
  rw [e] at key; exact key

def State.fire_mask : Nat := 0x20000000
theorem State.fire_frame {W : Nat} {s0 s : State} {i : Nat} {v : Nat} (hW : Within State.fire_mask W) (h : Frame W s0 s) :
    Frame W s0 (State.fire s i v) := by
  have b29 := hW.bit (n := 29) (by decide)
  unfold State.fire
  repeat' first
    | intro _
    | with_reducible assumption
    | (extract_lets +onlyGivenNames x; refine Frame.cut (W := W) (s0 := s0) x ?_ ?_; unfold x; clear x; rotate_left; clear_value x; revert x; intro _ _)
    | (extract_lets +onlyGivenNames x; clear_value x; revert x; intro _)
    | with_reducible refine Frame.ite ?_ ?_
    | with_reducible refine Frame.foldl ?_ _ _ ?_
    | split
    | with_reducible refine Frame.of_snd (by with_reducible assumption) ?_
    | with_reducible refine Frame.of_fst (by with_reducible assumption) ?_
    | with_reducible refine Frame.snd_mk ?_
    | with_reducible refine Frame.fst_mk ?_
    | with_reducible refine Frame.msix_upd b29 ?_

def State.fireAll_mask : Nat := 0x20000000
theorem State.fireAll_frame {W : Nat} {s0 s : State} {v : Nat} (hW : Within State.fireAll_mask W) (h : Frame W s0 s) :
    Frame W s0 (State.fireAll s v) := by
  have w0 := Within.trans (a := State.fire_mask) rfl hW
  unfold State.fireAll
  repeat' first
    | intro _
    | with_reducible assumption
    | (extract_lets +onlyGivenNames x; refine Frame.cut (W := W) (s0 := s0) x ?_ ?_; unfold x; clear x; rotate_left; clear_value x; revert x; intro _ _)
    | (extract_lets +onlyGivenNames x; clear_value x; revert x; intro _)
    | with_reducible refine State.each_frame ?_ ?_
    | with_reducible refine State.fire_frame w0 ?_
    | with_reducible refine Frame.ite ?_ ?_
    | with_reducible refine Frame.foldl ?_ _ _ ?_
    | split
    | with_reducible refine Frame.of_snd (by with_reducible assumption) ?_
    | with_reducible refine Frame.of_fst (by with_reducible assumption) ?_
    | with_reducible refine Frame.snd_mk ?_
    | with_reducible refine Frame.fst_mk ?_

def State.reply_mask : Nat := 0x8000000
theorem State.reply_frame {W : Nat} {s0 s : State} {i : Nat} {r : Reply} (hW : Within State.reply_mask W) (h : Frame W s0 s) :
    Frame W s0 (State.reply s i r) := by
  have b27 := hW.bit (n := 27) (by decide)
  unfold State.reply
  repeat' first
    | intro _
    | with_reducible assumption
    | (extract_lets +onlyGivenNames x; refine Frame.cut (W := W) (s0 := s0) x ?_ ?_; unfold x; clear x; rotate_left; clear_value x; revert x; intro _ _)
    | (extract_lets +onlyGivenNames x; clear_value x; revert x; intro _)
    | with_reducible refine Frame.ite ?_ ?_
    | with_reducible refine Frame.foldl ?_ _ _ ?_
    | split
    | with_reducible refine Frame.of_snd (by with_reducible assumption) ?_
    | with_reducible refine Frame.of_fst (by with_reducible assumption) ?_
    | with_reducible refine Frame.snd_mk ?_
    | with_reducible refine Frame.fst_mk ?_
    | with_reducible refine Frame.replies_upd b27 ?_

def State.setBucket_mask : Nat := 0x2000000
theorem State.setBucket_frame {W : Nat} {s0 s : State} {k : Nat × Nat} {b : Bucket} (hW : Within State.setBucket_mask W) (h : Frame W s0 s) :
    Frame W s0 (State.setBucket s k b) := by
  have b25 := hW.bit (n := 25) (by decide)
  unfold State.setBucket
  repeat' first
    | intro _
    | with_reducible assumption
    | (extract_lets +onlyGivenNames x; refine Frame.cut (W := W) (s0 := s0) x ?_ ?_; unfold x; clear x; rotate_left; clear_value x; revert x; intro _ _)
    | (extract_lets +onlyGivenNames x; clear_value x; revert x; intro _)
    | with_reducible refine Frame.ite ?_ ?_
    | with_reducible refine Frame.foldl ?_ _ _ ?_
    | split
    | with_reducible refine Frame.of_snd (by with_reducible assumption) ?_
    | with_reducible refine Frame.of_fst (by with_reducible assumption) ?_
    | with_reducible refine Frame.snd_mk ?_
    | with_reducible refine Frame.fst_mk ?_
    | with_reducible refine Frame.recorder_upd b25 ?_

def State.noteDrop_mask : Nat := 0x2000000000000000000000000000000000000000000000000000000000000000000000000000002000000
theorem State.noteDrop_frame {W : Nat} {s0 s : State} {sev : Nat} (hW : Within State.noteDrop_mask W) (h : Frame W s0 s) :
    Frame W s0 (State.noteDrop s sev) := by
  have b25 := hW.bit (n := 25) (by decide)
  have b337 := hW.bit (n := 337) (by decide)
  unfold State.noteDrop
  repeat' first
    | intro _
    | with_reducible assumption
    | (extract_lets +onlyGivenNames x; refine Frame.cut (W := W) (s0 := s0) x ?_ ?_; unfold x; clear x; rotate_left; clear_value x; revert x; intro _ _)
    | (extract_lets +onlyGivenNames x; clear_value x; revert x; intro _)
    | with_reducible refine State.inc_frame (F.WAYM_DROPPED_count_kind) b337 ?_
    | with_reducible refine Frame.ite ?_ ?_
    | with_reducible refine Frame.foldl ?_ _ _ ?_
    | split
    | with_reducible refine Frame.of_snd (by with_reducible assumption) ?_
    | with_reducible refine Frame.of_fst (by with_reducible assumption) ?_
    | with_reducible refine Frame.snd_mk ?_
    | with_reducible refine Frame.fst_mk ?_
    | with_reducible refine Frame.recorder_upd b25 ?_

def State.buffer_mask : Nat := 0x20000000000000000000000000000000000000000000000000000000000000000000000000022000000
theorem State.buffer_frame {W : Nat} {s0 s : State} {w : Waymark} {t : State} (e : State.buffer s w = some t) (hW : Within State.buffer_mask W) (h : Frame W s0 s) :
    Frame W s0 t := by
  have b25 := hW.bit (n := 25) (by decide)
  have b329 := hW.bit (n := 329) (by decide)
  have w2 := Within.trans (a := State.fire_mask) rfl hW
  have key : Frame.Opt W s0 (State.buffer s w) := by
    unfold State.buffer
    repeat' first
      | intro _
      | with_reducible assumption
      | (extract_lets +onlyGivenNames x; refine Frame.cut (W := W) (s0 := s0) x ?_ ?_; unfold x; clear x; rotate_left; clear_value x; revert x; intro _ _)
      | (extract_lets +onlyGivenNames x; clear_value x; revert x; intro _)
      | with_reducible refine Frame.opt_some ?_
      | with_reducible exact Frame.opt_none
      | with_reducible refine State.set_frame (F.WAYM_STATUS_buffered_kind) b329 ?_
      | with_reducible refine State.each_frame ?_ ?_
      | with_reducible refine State.fire_frame w2 ?_
      | with_reducible refine Frame.ite ?_ ?_
      | with_reducible refine Frame.foldl ?_ _ _ ?_
      | split
      | with_reducible refine Frame.of_snd (by with_reducible assumption) ?_
      | with_reducible refine Frame.of_fst (by with_reducible assumption) ?_
      | with_reducible refine Frame.snd_mk ?_
      | with_reducible refine Frame.fst_mk ?_
      | with_reducible refine Frame.recorder_upd b25 ?_
  exact key.out _ e

def State.raiseMark_mask : Nat := 0x6020000000000000000000000000000000000000000000000000000000000000000000000000022000000
theorem State.raiseMark_frame {W : Nat} {s0 s : State} {key : Nat × Nat} {w : Waymark} (hW : Within State.raiseMark_mask W) (h : Frame W s0 s) :
    Frame W s0 (State.raiseMark s key w) := by
  have b338 := hW.bit (n := 338) (by decide)
  have w1 := Within.trans (a := State.setBucket_mask) rfl hW
  have w2 := Within.trans (a := State.buffer_mask) rfl hW
  have w3 := Within.trans (a := State.noteDrop_mask) rfl hW
  unfold State.raiseMark
  repeat' first
    | intro _
    | with_reducible assumption
    | (extract_lets +onlyGivenNames x; refine Frame.cut (W := W) (s0 := s0) x ?_ ?_; unfold x; clear x; rotate_left; clear_value x; revert x; intro _ _)
    | (extract_lets +onlyGivenNames x; clear_value x; revert x; intro _)
    | with_reducible refine State.inc_frame (F.WAYM_SUPPRESSED_count_kind) b338 ?_
    | with_reducible refine State.setBucket_frame w1 ?_
    | with_reducible refine State.noteDrop_frame w3 ?_
    | with_reducible refine Frame.ite ?_ ?_
    | with_reducible refine Frame.foldl ?_ _ _ ?_
    | split
    | with_reducible refine State.buffer_frame (by with_reducible assumption) w2 ?_
    | with_reducible refine Frame.of_snd (by with_reducible assumption) ?_
    | with_reducible refine Frame.of_fst (by with_reducible assumption) ?_
    | with_reducible refine Frame.snd_mk ?_
    | with_reducible refine Frame.fst_mk ?_

def State.raiseAt_mask : Nat := 0x6020000000000000000000000000000000000000000000000000000000000000000000000000022000000
theorem State.raiseAt_frame {W : Nat} {s0 s : State} {a1 : Nat} {code : Nat} {ps : List Nat} (hW : Within State.raiseAt_mask W) (h : Frame W s0 s) :
    Frame W s0 (State.raiseAt s a1 code ps) := by
  have w0 := Within.trans (a := State.raiseMark_mask) rfl hW
  unfold State.raiseAt
  repeat' first
    | intro _
    | with_reducible assumption
    | (extract_lets +onlyGivenNames x; refine Frame.cut (W := W) (s0 := s0) x ?_ ?_; unfold x; clear x; rotate_left; clear_value x; revert x; intro _ _)
    | (extract_lets +onlyGivenNames x; clear_value x; revert x; intro _)
    | with_reducible refine State.raiseMark_frame w0 ?_
    | with_reducible refine Frame.ite ?_ ?_
    | with_reducible refine Frame.foldl ?_ _ _ ?_
    | split
    | with_reducible refine Frame.of_snd (by with_reducible assumption) ?_
    | with_reducible refine Frame.of_fst (by with_reducible assumption) ?_
    | with_reducible refine Frame.snd_mk ?_
    | with_reducible refine Frame.fst_mk ?_

def State.raise_mask : Nat := 0x6020000000000000000000000000000000000000000000000000000000000000000000000000022000000
theorem State.raise_frame {W : Nat} {s0 s : State} {code : Nat} {ps : List Nat} (hW : Within State.raise_mask W) (h : Frame W s0 s) :
    Frame W s0 (State.raise s code ps) := by
  have w0 := Within.trans (a := State.raiseAt_mask) rfl hW
  unfold State.raise
  repeat' first
    | intro _
    | with_reducible assumption
    | (extract_lets +onlyGivenNames x; refine Frame.cut (W := W) (s0 := s0) x ?_ ?_; unfold x; clear x; rotate_left; clear_value x; revert x; intro _ _)
    | (extract_lets +onlyGivenNames x; clear_value x; revert x; intro _)
    | with_reducible refine State.raiseAt_frame w0 ?_
    | with_reducible refine Frame.ite ?_ ?_
    | with_reducible refine Frame.foldl ?_ _ _ ?_
    | split
    | with_reducible refine Frame.of_snd (by with_reducible assumption) ?_
    | with_reducible refine Frame.of_fst (by with_reducible assumption) ?_
    | with_reducible refine Frame.snd_mk ?_
    | with_reducible refine Frame.fst_mk ?_

def State.raiseCore_mask : Nat := 0x6020000000000000000000000000000000000000000000000000000000000000000000000000022000000
theorem State.raiseCore_frame {W : Nat} {s0 s : State} {c : Nat} {code : Nat} {ps : List Nat} (hW : Within State.raiseCore_mask W) (h : Frame W s0 s) :
    Frame W s0 (State.raiseCore s c code ps) := by
  have w0 := Within.trans (a := State.raiseAt_mask) rfl hW
  unfold State.raiseCore
  repeat' first
    | intro _
    | with_reducible assumption
    | (extract_lets +onlyGivenNames x; refine Frame.cut (W := W) (s0 := s0) x ?_ ?_; unfold x; clear x; rotate_left; clear_value x; revert x; intro _ _)
    | (extract_lets +onlyGivenNames x; clear_value x; revert x; intro _)
    | with_reducible refine State.raiseAt_frame w0 ?_
    | with_reducible refine Frame.ite ?_ ?_
    | with_reducible refine Frame.foldl ?_ _ _ ?_
    | split
    | with_reducible refine Frame.of_snd (by with_reducible assumption) ?_
    | with_reducible refine Frame.of_fst (by with_reducible assumption) ?_
    | with_reducible refine Frame.snd_mk ?_
    | with_reducible refine Frame.fst_mk ?_

def State.raiseKind_mask : Nat := 0x6020000000000000000000000000000000000000000000000000000000000000000000000000022000000
theorem State.raiseKind_frame {W : Nat} {s0 s : State} {kind : Nat} {a2 : Nat} {code : Nat} {ps : List Nat} (hW : Within State.raiseKind_mask W) (h : Frame W s0 s) :
    Frame W s0 (State.raiseKind s kind a2 code ps) := by
  have w0 := Within.trans (a := State.raiseMark_mask) rfl hW
  unfold State.raiseKind
  repeat' first
    | intro _
    | with_reducible assumption
    | (extract_lets +onlyGivenNames x; refine Frame.cut (W := W) (s0 := s0) x ?_ ?_; unfold x; clear x; rotate_left; clear_value x; revert x; intro _ _)
    | (extract_lets +onlyGivenNames x; clear_value x; revert x; intro _)
    | with_reducible refine State.raiseMark_frame w0 ?_
    | with_reducible refine Frame.ite ?_ ?_
    | with_reducible refine Frame.foldl ?_ _ _ ?_
    | split
    | with_reducible refine Frame.of_snd (by with_reducible assumption) ?_
    | with_reducible refine Frame.of_fst (by with_reducible assumption) ?_
    | with_reducible refine Frame.snd_mk ?_
    | with_reducible refine Frame.fst_mk ?_

end Sys2Proof.Machine
end

