-- ==== Sys2Proof/Laws/Links.lean ====
section
/-! SUPPORT. What the operations of Machine/Links.lean change: each differs from its argument in the areas of its mask alone. -/

set_option linter.all false

namespace Sys2Proof.Machine

def State.bridgeFull_mask : Nat := 0x6020000000000000000000000000000000000000000000000000000000000004000000000000022000000
theorem State.bridgeFull_frame {W : Nat} {s0 s : State} {i : Nat} {dir : Nat} (hW : Within State.bridgeFull_mask W) (h : Frame W s0 s) :
    Frame W s0 (State.bridgeFull s i dir) := by
  have b86 := hW.bit (n := 86) (by decide)
  have w1 := Within.trans (a := State.raise_mask) rfl hW
  unfold State.bridgeFull
  repeat' first
    | intro _
    | with_reducible assumption
    | (extract_lets +onlyGivenNames x; refine Frame.cut (W := W) (s0 := s0) x ?_ ?_; unfold x; clear x; rotate_left; clear_value x; revert x; intro _ _)
    | (extract_lets +onlyGivenNames x; clear_value x; revert x; intro _)
    | with_reducible refine State.inc_frame (F.PACE_BRIDGE_full_kind _) b86 ?_
    | with_reducible refine State.raise_frame w1 ?_
    | with_reducible refine Frame.ite ?_ ?_
    | with_reducible refine Frame.foldl ?_ _ _ ?_
    | split
    | with_reducible refine Frame.of_snd (by with_reducible assumption) ?_
    | with_reducible refine Frame.of_fst (by with_reducible assumption) ?_
    | with_reducible refine Frame.snd_mk ?_
    | with_reducible refine Frame.fst_mk ?_

def State.checkBooted_mask : Nat := 0x6020000000000000000000000000000000000000000000000000000000000000002020000000022000000
theorem State.checkBooted_frame {W : Nat} {s0 s : State} (hW : Within State.checkBooted_mask W) (h : Frame W s0 s) :
    Frame W s0 (State.checkBooted s) := by
  have b73 := hW.bit (n := 73) (by decide)
  have b65 := hW.bit (n := 65) (by decide)
  have w2 := Within.trans (a := State.raise_mask) rfl hW
  unfold State.checkBooted
  repeat' first
    | intro _
    | with_reducible assumption
    | (extract_lets +onlyGivenNames x; refine Frame.cut (W := W) (s0 := s0) x ?_ ?_; unfold x; clear x; rotate_left; clear_value x; revert x; intro _ _)
    | (extract_lets +onlyGivenNames x; clear_value x; revert x; intro _)
    | with_reducible refine State.set_frame (F.KEEP_SELFTEST_boot_ms_kind) b73 ?_
    | with_reducible refine State.set_frame (F.KEEP_STATUS_boot_phase_kind) b65 ?_
    | with_reducible refine State.raise_frame w2 ?_
    | with_reducible refine Frame.ite ?_ ?_
    | with_reducible refine Frame.foldl ?_ _ _ ?_
    | split
    | with_reducible refine Frame.of_snd (by with_reducible assumption) ?_
    | with_reducible refine Frame.of_fst (by with_reducible assumption) ?_
    | with_reducible refine Frame.snd_mk ?_
    | with_reducible refine Frame.fst_mk ?_

def State.bootTrainFail_mask : Nat := 0x6020000000000000000000000000000000000000000000000000000000000000002020000000022000020
theorem State.bootTrainFail_frame {W : Nat} {s0 s : State} {kind : Nat} {n : Nat} (hW : Within State.bootTrainFail_mask W) (h : Frame W s0 s) :
    Frame W s0 (State.bootTrainFail s kind n) := by
  have b5 := hW.bit (n := 5) (by decide)
  have w1 := Within.trans (a := State.checkBooted_mask) rfl hW
  have w2 := Within.trans (a := State.raise_mask) rfl hW
  unfold State.bootTrainFail
  repeat' first
    | intro _
    | with_reducible assumption
    | (extract_lets +onlyGivenNames x; refine Frame.cut (W := W) (s0 := s0) x ?_ ?_; unfold x; clear x; rotate_left; clear_value x; revert x; intro _ _)
    | (extract_lets +onlyGivenNames x; clear_value x; revert x; intro _)
    | with_reducible refine State.checkBooted_frame w1 ?_
    | with_reducible refine State.raise_frame w2 ?_
    | with_reducible refine Frame.ite ?_ ?_
    | with_reducible refine Frame.foldl ?_ _ _ ?_
    | split
    | with_reducible refine Frame.of_snd (by with_reducible assumption) ?_
    | with_reducible refine Frame.of_fst (by with_reducible assumption) ?_
    | with_reducible refine Frame.snd_mk ?_
    | with_reducible refine Frame.fst_mk ?_
    | with_reducible refine Frame.boot_upd b5 ?_

end Sys2Proof.Machine
end

