-- ==== Sys2Proof/Laws/Outputs.lean ====
section
/-! SUPPORT. What the operations of Machine/Outputs.lean change: each differs from its argument in the areas of its mask alone. -/

set_option linter.all false

namespace Sys2Proof.Machine

def State.driveOutputs_mask : Nat := 0x800000000005000000000000000000000000000000000000000000000000000008000
theorem State.driveOutputs_frame {W : Nat} {s0 s : State} (hW : Within State.driveOutputs_mask W) (h : Frame W s0 s) :
    Frame W s0 (State.driveOutputs s) := by
  have b15 := hW.bit (n := 15) (by decide)
  have b275 := hW.bit (n := 275) (by decide)
  have b230 := hW.bit (n := 230) (by decide)
  have b228 := hW.bit (n := 228) (by decide)
  unfold State.driveOutputs
  repeat' first
    | intro _
    | with_reducible assumption
    | (extract_lets +onlyGivenNames x; refine Frame.cut (W := W) (s0 := s0) x ?_ ?_; unfold x; clear x; rotate_left; clear_value x; revert x; intro _ _)
    | (extract_lets +onlyGivenNames x; clear_value x; revert x; intro _)
    | with_reducible refine State.set_frame (F.SAFE_IO_outputs_kind) b275 ?_
    | with_reducible refine State.set_frame (F.FIO_OUT_STATE_on_kind) b230 ?_
    | with_reducible refine State.setB_frame (F.FIO_STATUS_safe_state_kind) b228 ?_
    | with_reducible refine Frame.ite ?_ ?_
    | with_reducible refine Frame.foldl ?_ _ _ ?_
    | split
    | with_reducible refine Frame.of_snd (by with_reducible assumption) ?_
    | with_reducible refine Frame.of_fst (by with_reducible assumption) ?_
    | with_reducible refine Frame.snd_mk ?_
    | with_reducible refine Frame.fst_mk ?_
    | with_reducible refine Frame.fio_upd b15 ?_

end Sys2Proof.Machine
end

