-- ==== Sys2Proof/Laws/Run.lean ====
section
/-! SUPPORT. What every command has in common: it answers a next state, it leaves the waiting commands, and it ends with the
outputs that the new state drives. -/

namespace Sys2Proof.Machine

variable {W : Nat} {s t u : State} {f : State → State}

theorem State.become_next (h : s.become u = .next t) : t = { u with pending := s.pending } := by
  cases h; rfl

/-- While the module runs, a command's effect and then the outputs; without power nothing. -/
theorem State.run_next (h : s.run f = .next t) :
    s.powered = true ∧ t = { (f s).driveOutputs with pending := s.pending } ∨
    s.powered = false ∧ t = s := by
  have e := State.become_next h
  cases hp : s.powered with
  | true => rw [hp] at e; exact .inl ⟨rfl, e⟩
  | false => rw [hp] at e; exact .inr ⟨rfl, e⟩

theorem State.run_powered (h : s.powered = true) : s.run f = .next { (f s).driveOutputs with pending := s.pending } := by
  unfold State.run State.become; rw [h]; rfl

/-- `t` is `u` but for the waiting commands. -/
def State.Same (t u : State) : Prop := ∃ p, t = { u with pending := p }

theorem State.Same.get {f : Field} (h : t.Same u) : t.get f = u.get f := by obtain ⟨_, rfl⟩ := h; rfl
theorem State.Same.cfg (h : t.Same u) : t.cfg = u.cfg := by obtain ⟨_, rfl⟩ := h; rfl
theorem State.Same.board (h : t.Same u) : t.board = u.board := by obtain ⟨_, rfl⟩ := h; rfl
theorem State.Same.zld (h : t.Same u) : t.zld = u.zld := by obtain ⟨_, rfl⟩ := h; rfl
theorem State.Same.keep (h : t.Same u) : t.keep = u.keep := by obtain ⟨_, rfl⟩ := h; rfl
theorem State.Same.flash (h : t.Same u) : t.flash = u.flash := by obtain ⟨_, rfl⟩ := h; rfl
theorem State.Same.boot (h : t.Same u) : t.boot = u.boot := by obtain ⟨_, rfl⟩ := h; rfl
theorem State.Same.pace (h : t.Same u) : t.pace = u.pace := by obtain ⟨_, rfl⟩ := h; rfl
theorem State.Same.cores (h : t.Same u) : t.cores = u.cores := by obtain ⟨_, rfl⟩ := h; rfl
theorem State.Same.exec (h : t.Same u) : t.exec = u.exec := by obtain ⟨_, rfl⟩ := h; rfl
theorem State.Same.route (h : t.Same u) : t.route = u.route := by obtain ⟨_, rfl⟩ := h; rfl
theorem State.Same.kv (h : t.Same u) : t.kv = u.kv := by obtain ⟨_, rfl⟩ := h; rfl
theorem State.Same.lane (h : t.Same u) : t.lane = u.lane := by obtain ⟨_, rfl⟩ := h; rfl
theorem State.Same.isp (h : t.Same u) : t.isp = u.isp := by obtain ⟨_, rfl⟩ := h; rfl
theorem State.Same.ingest (h : t.Same u) : t.ingest = u.ingest := by obtain ⟨_, rfl⟩ := h; rfl
theorem State.Same.motion (h : t.Same u) : t.motion = u.motion := by obtain ⟨_, rfl⟩ := h; rfl
theorem State.Same.fio (h : t.Same u) : t.fio = u.fio := by obtain ⟨_, rfl⟩ := h; rfl
theorem State.Same.time (h : t.Same u) : t.time = u.time := by obtain ⟨_, rfl⟩ := h; rfl
theorem State.Same.peer (h : t.Same u) : t.peer = u.peer := by obtain ⟨_, rfl⟩ := h; rfl
theorem State.Same.host (h : t.Same u) : t.host = u.host := by obtain ⟨_, rfl⟩ := h; rfl
theorem State.Same.safe (h : t.Same u) : t.safe = u.safe := by obtain ⟨_, rfl⟩ := h; rfl
theorem State.Same.integ (h : t.Same u) : t.integ = u.integ := by obtain ⟨_, rfl⟩ := h; rfl
theorem State.Same.power (h : t.Same u) : t.power = u.power := by obtain ⟨_, rfl⟩ := h; rfl
theorem State.Same.mem (h : t.Same u) : t.mem = u.mem := by obtain ⟨_, rfl⟩ := h; rfl
theorem State.Same.clk (h : t.Same u) : t.clk = u.clk := by obtain ⟨_, rfl⟩ := h; rfl
theorem State.Same.free (h : t.Same u) : t.free = u.free := by obtain ⟨_, rfl⟩ := h; rfl
theorem State.Same.recorder (h : t.Same u) : t.recorder = u.recorder := by obtain ⟨_, rfl⟩ := h; rfl
theorem State.Same.perf (h : t.Same u) : t.perf = u.perf := by obtain ⟨_, rfl⟩ := h; rfl
theorem State.Same.replies (h : t.Same u) : t.replies = u.replies := by obtain ⟨_, rfl⟩ := h; rfl
theorem State.Same.hiLatch (h : t.Same u) : t.hiLatch = u.hiLatch := by obtain ⟨_, rfl⟩ := h; rfl
theorem State.Same.msix (h : t.Same u) : t.msix = u.msix := by obtain ⟨_, rfl⟩ := h; rfl
theorem State.Same.variant (h : t.Same u) : t.variant = u.variant := by obtain ⟨_, rfl⟩ := h; rfl
theorem State.Same.regs (h : t.Same u) : t.regs = u.regs := by obtain ⟨_, rfl⟩ := h; rfl

/-- While the module runs a command answers the state of its effect and the outputs. -/
theorem State.run_answers {P : State → Prop} (h : s.powered = true) (hP : ∀ t, t.Same (f s).driveOutputs → P t) :
    ∃ t, s.run f = .next t ∧ P t := ⟨_, State.run_powered h, hP _ ⟨_, rfl⟩⟩

theorem State.run_unpowered (h : s.powered = false) : s.run f = .next s := by
  unfold State.run State.become; rw [h]; rfl

theorem Frame.pending_upd {s0 : State} {p : List Instr} (hp : p = s0.pending) (h : Frame W s0 s) :
    Frame W s0 { s with pending := p } := { h with pending := hp }

theorem State.become_frame (hf : Frame W s u) (h : s.become u = .next t) : Frame W s t := by
  rw [State.become_next h]; exact Frame.pending_upd rfl hf

/-- What a command changes: what its effect changes, and the outputs. -/
theorem State.run_frame (hd : Within State.driveOutputs_mask W)
    (hf : ∀ W' s0 s, Within W W' → Frame W' s0 s → Frame W' s0 (f s)) (h : s.run f = .next t) : Frame W s t := by
  rcases State.run_next h with ⟨-, rfl⟩ | ⟨-, rfl⟩
  · exact Frame.pending_upd rfl (State.driveOutputs_frame hd (hf W s s (Within.refl W) (Frame.refl W s)))
  · exact Frame.refl W t

end Sys2Proof.Machine
end

