-- ==== Sys2Proof/Laws/SafeOps.lean ====
section
/-! SUPPORT. What the operations of Machine/SafeOps.lean change: each differs from its argument in the areas of its mask alone. -/

set_option linter.all false

namespace Sys2Proof.Machine

def State.setEntry_mask : Nat := 0x1000000000000000000000000000000000000000000000000004000
theorem State.setEntry_frame {W : Nat} {s0 s : State} {key : Nat} {e : Option Milepost} (hW : Within State.setEntry_mask W) (h : Frame W s0 s) :
    Frame W s0 (State.setEntry s key e) := by
  have b14 := hW.bit (n := 14) (by decide)
  have b216 := hW.bit (n := 216) (by decide)
  unfold State.setEntry
  repeat' first
    | intro _
    | with_reducible assumption
    | (extract_lets +onlyGivenNames x; refine Frame.cut (W := W) (s0 := s0) x ?_ ?_; unfold x; clear x; rotate_left; clear_value x; revert x; intro _ _)
    | (extract_lets +onlyGivenNames x; clear_value x; revert x; intro _)
    | with_reducible refine State.set_frame (F.MOT_CH_MP_armed_kind _) b216 ?_
    | with_reducible refine Frame.ite ?_ ?_
    | with_reducible refine Frame.foldl ?_ _ _ ?_
    | split
    | with_reducible refine Frame.of_snd (by with_reducible assumption) ?_
    | with_reducible refine Frame.of_fst (by with_reducible assumption) ?_
    | with_reducible refine Frame.snd_mk ?_
    | with_reducible refine Frame.fst_mk ?_
    | with_reducible refine Frame.motion_upd b14 ?_

def State.endPulse_mask : Nat := 0x1000000000000000000000000000000000000000000000000004000
theorem State.endPulse_frame {W : Nat} {s0 s : State} {u : Pulse} (hW : Within State.endPulse_mask W) (h : Frame W s0 s) :
    Frame W s0 (State.endPulse s u) := by
  have b14 := hW.bit (n := 14) (by decide)
  have w1 := Within.trans (a := State.setEntry_mask) rfl hW
  unfold State.endPulse
  repeat' first
    | intro _
    | with_reducible assumption
    | (extract_lets +onlyGivenNames x; refine Frame.cut (W := W) (s0 := s0) x ?_ ?_; unfold x; clear x; rotate_left; clear_value x; revert x; intro _ _)
    | (extract_lets +onlyGivenNames x; clear_value x; revert x; intro _)
    | with_reducible refine State.setEntry_frame w1 ?_
    | with_reducible refine Frame.ite ?_ ?_
    | with_reducible refine Frame.foldl ?_ _ _ ?_
    | split
    | with_reducible refine Frame.of_snd (by with_reducible assumption) ?_
    | with_reducible refine Frame.of_fst (by with_reducible assumption) ?_
    | with_reducible refine Frame.snd_mk ?_
    | with_reducible refine Frame.fst_mk ?_
    | with_reducible refine Frame.motion_upd b14 ?_

def State.endAllPulses_mask : Nat := 0x1000000000000000000000000000000000000000000000000004000
theorem State.endAllPulses_frame {W : Nat} {s0 s : State} (hW : Within State.endAllPulses_mask W) (h : Frame W s0 s) :
    Frame W s0 (State.endAllPulses s) := by
  have w0 := Within.trans (a := State.endPulse_mask) rfl hW
  unfold State.endAllPulses
  repeat' first
    | intro _
    | with_reducible assumption
    | (extract_lets +onlyGivenNames x; refine Frame.cut (W := W) (s0 := s0) x ?_ ?_; unfold x; clear x; rotate_left; clear_value x; revert x; intro _ _)
    | (extract_lets +onlyGivenNames x; clear_value x; revert x; intro _)
    | with_reducible refine State.each_frame ?_ ?_
    | with_reducible refine State.endPulse_frame w0 ?_
    | with_reducible refine Frame.ite ?_ ?_
    | with_reducible refine Frame.foldl ?_ _ _ ?_
    | split
    | with_reducible refine Frame.of_snd (by with_reducible assumption) ?_
    | with_reducible refine Frame.of_fst (by with_reducible assumption) ?_
    | with_reducible refine Frame.snd_mk ?_
    | with_reducible refine Frame.fst_mk ?_

def State.sendSafetyWith_mask : Nat := 0x6020000000000001000000000000000000000000000000000000000000000000000000000000022080000
theorem State.sendSafetyWith_frame {W : Nat} {s0 s : State} {cause : Nat} (hW : Within State.sendSafetyWith_mask W) (h : Frame W s0 s) :
    Frame W s0 (State.sendSafetyWith s cause) := by
  have b19 := hW.bit (n := 19) (by decide)
  have b276 := hW.bit (n := 276) (by decide)
  have w2 := Within.trans (a := State.raise_mask) rfl hW
  unfold State.sendSafetyWith
  repeat' first
    | intro _
    | with_reducible assumption
    | (extract_lets +onlyGivenNames x; refine Frame.cut (W := W) (s0 := s0) x ?_ ?_; unfold x; clear x; rotate_left; clear_value x; revert x; intro _ _)
    | (extract_lets +onlyGivenNames x; clear_value x; revert x; intro _)
    | with_reducible refine State.incWrap_frame (F.SAFE_MSG_counter_kind) b276 ?_
    | with_reducible refine State.each_frame ?_ ?_
    | with_reducible refine State.raise_frame w2 ?_
    | with_reducible refine Frame.ite ?_ ?_
    | with_reducible refine Frame.foldl ?_ _ _ ?_
    | split
    | with_reducible refine Frame.of_snd (by with_reducible assumption) ?_
    | with_reducible refine Frame.of_fst (by with_reducible assumption) ?_
    | with_reducible refine Frame.snd_mk ?_
    | with_reducible refine Frame.fst_mk ?_
    | with_reducible refine Frame.safe_upd b19 ?_

def State.sendSafety_mask : Nat := 0x6020000000000001000000000000000000000000000000000000000000000000000000000000022080000
theorem State.sendSafety_frame {W : Nat} {s0 s : State} (hW : Within State.sendSafety_mask W) (h : Frame W s0 s) :
    Frame W s0 (State.sendSafety s) := by
  have w0 := Within.trans (a := State.sendSafetyWith_mask) rfl hW
  unfold State.sendSafety
  repeat' first
    | intro _
    | with_reducible assumption
    | (extract_lets +onlyGivenNames x; refine Frame.cut (W := W) (s0 := s0) x ?_ ?_; unfold x; clear x; rotate_left; clear_value x; revert x; intro _ _)
    | (extract_lets +onlyGivenNames x; clear_value x; revert x; intro _)
    | with_reducible refine State.sendSafetyWith_frame w0 ?_
    | with_reducible refine Frame.ite ?_ ?_
    | with_reducible refine Frame.foldl ?_ _ _ ?_
    | split
    | with_reducible refine Frame.of_snd (by with_reducible assumption) ?_
    | with_reducible refine Frame.of_fst (by with_reducible assumption) ?_
    | with_reducible refine Frame.snd_mk ?_
    | with_reducible refine Frame.fst_mk ?_

def State.setActive_mask : Nat := 0x80000000000000000000000000000000000000000000000000000000000000080000
theorem State.setActive_frame {W : Nat} {s0 s : State} {l : List Nat} (hW : Within State.setActive_mask W) (h : Frame W s0 s) :
    Frame W s0 (State.setActive s l) := by
  have b19 := hW.bit (n := 19) (by decide)
  have b271 := hW.bit (n := 271) (by decide)
  unfold State.setActive
  repeat' first
    | intro _
    | with_reducible assumption
    | (extract_lets +onlyGivenNames x; refine Frame.cut (W := W) (s0 := s0) x ?_ ?_; unfold x; clear x; rotate_left; clear_value x; revert x; intro _ _)
    | (extract_lets +onlyGivenNames x; clear_value x; revert x; intro _)
    | with_reducible refine State.setB_frame (F.SAFE_STATUS_cause_active_kind) b271 ?_
    | with_reducible refine Frame.ite ?_ ?_
    | with_reducible refine Frame.foldl ?_ _ _ ?_
    | split
    | with_reducible refine Frame.of_snd (by with_reducible assumption) ?_
    | with_reducible refine Frame.of_fst (by with_reducible assumption) ?_
    | with_reducible refine Frame.snd_mk ?_
    | with_reducible refine Frame.fst_mk ?_
    | with_reducible refine Frame.safe_upd b19 ?_

def State.causeOn_mask : Nat := 0x80000000000000000000000000000000000000000000000000000000000000080000
theorem State.causeOn_frame {W : Nat} {s0 s : State} {code : Nat} (hW : Within State.causeOn_mask W) (h : Frame W s0 s) :
    Frame W s0 (State.causeOn s code) := by
  have w0 := Within.trans (a := State.setActive_mask) rfl hW
  unfold State.causeOn
  repeat' first
    | intro _
    | with_reducible assumption
    | (extract_lets +onlyGivenNames x; refine Frame.cut (W := W) (s0 := s0) x ?_ ?_; unfold x; clear x; rotate_left; clear_value x; revert x; intro _ _)
    | (extract_lets +onlyGivenNames x; clear_value x; revert x; intro _)
    | with_reducible refine State.setActive_frame w0 ?_
    | with_reducible refine Frame.ite ?_ ?_
    | with_reducible refine Frame.foldl ?_ _ _ ?_
    | split
    | with_reducible refine Frame.of_snd (by with_reducible assumption) ?_
    | with_reducible refine Frame.of_fst (by with_reducible assumption) ?_
    | with_reducible refine Frame.snd_mk ?_
    | with_reducible refine Frame.fst_mk ?_

def State.causeOff_mask : Nat := 0x80000000000000000000000000000000000000000000000000000000000000080000
theorem State.causeOff_frame {W : Nat} {s0 s : State} {code : Nat} (hW : Within State.causeOff_mask W) (h : Frame W s0 s) :
    Frame W s0 (State.causeOff s code) := by
  have w0 := Within.trans (a := State.setActive_mask) rfl hW
  unfold State.causeOff
  repeat' first
    | intro _
    | with_reducible assumption
    | (extract_lets +onlyGivenNames x; refine Frame.cut (W := W) (s0 := s0) x ?_ ?_; unfold x; clear x; rotate_left; clear_value x; revert x; intro _ _)
    | (extract_lets +onlyGivenNames x; clear_value x; revert x; intro _)
    | with_reducible refine State.setActive_frame w0 ?_
    | with_reducible refine Frame.ite ?_ ?_
    | with_reducible refine Frame.foldl ?_ _ _ ?_
    | split
    | with_reducible refine Frame.of_snd (by with_reducible assumption) ?_
    | with_reducible refine Frame.of_fst (by with_reducible assumption) ?_
    | with_reducible refine Frame.snd_mk ?_
    | with_reducible refine Frame.fst_mk ?_

def State.enterSafe_mask : Nat := 0x602000000000000118000000000000100000000000000000000000000000000000000000000002208c000
theorem State.enterSafe_frame {W : Nat} {s0 s : State} {code : Nat} {unit : Nat} (hW : Within State.enterSafe_mask W) (h : Frame W s0 s) :
    Frame W s0 (State.enterSafe s code unit) := by
  have b15 := hW.bit (n := 15) (by decide)
  have b19 := hW.bit (n := 19) (by decide)
  have b272 := hW.bit (n := 272) (by decide)
  have b271 := hW.bit (n := 271) (by decide)
  have w4 := Within.trans (a := State.raise_mask) rfl hW
  have w5 := Within.trans (a := State.endAllPulses_mask) rfl hW
  have w6 := Within.trans (a := State.fireAll_mask) rfl hW
  have w7 := Within.trans (a := State.sendSafety_mask) rfl hW
  unfold State.enterSafe
  repeat' first
    | intro _
    | with_reducible assumption
    | (extract_lets +onlyGivenNames x; refine Frame.cut (W := W) (s0 := s0) x ?_ ?_; unfold x; clear x; rotate_left; clear_value x; revert x; intro _ _)
    | (extract_lets +onlyGivenNames x; clear_value x; revert x; intro _)
    | with_reducible refine State.set_frame (F.SAFE_CAUSE_code_kind) b272 ?_
    | with_reducible refine State.set_frame (F.SAFE_STATUS_state_kind) b271 ?_
    | with_reducible refine State.inc_frame (F.SAFE_CAUSE_entries_kind) b272 ?_
    | with_reducible refine State.raise_frame w4 ?_
    | with_reducible refine State.endAllPulses_frame w5 ?_
    | with_reducible refine State.fireAll_frame w6 ?_
    | with_reducible refine State.sendSafety_frame w7 ?_
    | with_reducible refine Frame.ite ?_ ?_
    | with_reducible refine Frame.foldl ?_ _ _ ?_
    | split
    | with_reducible refine Frame.of_snd (by with_reducible assumption) ?_
    | with_reducible refine Frame.of_fst (by with_reducible assumption) ?_
    | with_reducible refine Frame.snd_mk ?_
    | with_reducible refine Frame.fst_mk ?_
    | with_reducible refine Frame.fio_upd b15 ?_
    | with_reducible refine Frame.safe_upd b19 ?_

def State.enterSafeHeld_mask : Nat := 0x602000000000000118000000000000100000000000000000000000000000000000000000000002208c000
theorem State.enterSafeHeld_frame {W : Nat} {s0 s : State} {code : Nat} {unit : Nat} (hW : Within State.enterSafeHeld_mask W) (h : Frame W s0 s) :
    Frame W s0 (State.enterSafeHeld s code unit) := by
  have w0 := Within.trans (a := State.enterSafe_mask) rfl hW
  have w1 := Within.trans (a := State.causeOn_mask) rfl hW
  unfold State.enterSafeHeld
  repeat' first
    | intro _
    | with_reducible assumption
    | (extract_lets +onlyGivenNames x; refine Frame.cut (W := W) (s0 := s0) x ?_ ?_; unfold x; clear x; rotate_left; clear_value x; revert x; intro _ _)
    | (extract_lets +onlyGivenNames x; clear_value x; revert x; intro _)
    | with_reducible refine State.enterSafe_frame w0 ?_
    | with_reducible refine State.causeOn_frame w1 ?_
    | with_reducible refine Frame.ite ?_ ?_
    | with_reducible refine Frame.foldl ?_ _ _ ?_
    | split
    | with_reducible refine Frame.of_snd (by with_reducible assumption) ?_
    | with_reducible refine Frame.of_fst (by with_reducible assumption) ?_
    | with_reducible refine Frame.snd_mk ?_
    | with_reducible refine Frame.fst_mk ?_

def State.kick_mask : Nat := 0x20000000000000000000000000000000000000000000000000000000000000000080000
theorem State.kick_frame {W : Nat} {s0 s : State} {w : Nat} (hW : Within State.kick_mask W) (h : Frame W s0 s) :
    Frame W s0 (State.kick s w) := by
  have b19 := hW.bit (n := 19) (by decide)
  have b281 := hW.bit (n := 281) (by decide)
  unfold State.kick
  repeat' first
    | intro _
    | with_reducible assumption
    | (extract_lets +onlyGivenNames x; refine Frame.cut (W := W) (s0 := s0) x ?_ ?_; unfold x; clear x; rotate_left; clear_value x; revert x; intro _ _)
    | (extract_lets +onlyGivenNames x; clear_value x; revert x; intro _)
    | with_reducible refine State.setB_frame (F.SAFE_WDOG_armed_kind _) b281 ?_
    | with_reducible refine Frame.ite ?_ ?_
    | with_reducible refine Frame.foldl ?_ _ _ ?_
    | split
    | with_reducible refine Frame.of_snd (by with_reducible assumption) ?_
    | with_reducible refine Frame.of_fst (by with_reducible assumption) ?_
    | with_reducible refine Frame.snd_mk ?_
    | with_reducible refine Frame.fst_mk ?_
    | with_reducible refine Frame.safe_upd b19 ?_

def State.kickAll_mask : Nat := 0x20000000000000000000000000000000000000000000000000000000000000000080000
theorem State.kickAll_frame {W : Nat} {s0 s : State} {kind : Nat} {target : Nat} (hW : Within State.kickAll_mask W) (h : Frame W s0 s) :
    Frame W s0 (State.kickAll s kind target) := by
  have w0 := Within.trans (a := State.kick_mask) rfl hW
  unfold State.kickAll
  repeat' first
    | intro _
    | with_reducible assumption
    | (extract_lets +onlyGivenNames x; refine Frame.cut (W := W) (s0 := s0) x ?_ ?_; unfold x; clear x; rotate_left; clear_value x; revert x; intro _ _)
    | (extract_lets +onlyGivenNames x; clear_value x; revert x; intro _)
    | with_reducible refine State.each_frame ?_ ?_
    | with_reducible refine State.kick_frame w0 ?_
    | with_reducible refine Frame.ite ?_ ?_
    | with_reducible refine Frame.foldl ?_ _ _ ?_
    | split
    | with_reducible refine Frame.of_snd (by with_reducible assumption) ?_
    | with_reducible refine Frame.of_fst (by with_reducible assumption) ?_
    | with_reducible refine Frame.snd_mk ?_
    | with_reducible refine Frame.fst_mk ?_

def State.kickKind_mask : Nat := 0x20000000000000000000000000000000000000000000000000000000000000000080000
theorem State.kickKind_frame {W : Nat} {s0 s : State} {kind : Nat} (hW : Within State.kickKind_mask W) (h : Frame W s0 s) :
    Frame W s0 (State.kickKind s kind) := by
  have w0 := Within.trans (a := State.kick_mask) rfl hW
  unfold State.kickKind
  repeat' first
    | intro _
    | with_reducible assumption
    | (extract_lets +onlyGivenNames x; refine Frame.cut (W := W) (s0 := s0) x ?_ ?_; unfold x; clear x; rotate_left; clear_value x; revert x; intro _ _)
    | (extract_lets +onlyGivenNames x; clear_value x; revert x; intro _)
    | with_reducible refine State.each_frame ?_ ?_
    | with_reducible refine State.kick_frame w0 ?_
    | with_reducible refine Frame.ite ?_ ?_
    | with_reducible refine Frame.foldl ?_ _ _ ?_
    | split
    | with_reducible refine Frame.of_snd (by with_reducible assumption) ?_
    | with_reducible refine Frame.of_fst (by with_reducible assumption) ?_
    | with_reducible refine Frame.snd_mk ?_
    | with_reducible refine Frame.fst_mk ?_

def State.noReference_mask : Nat := 0x40000000000000000000000000000000000000000000000000000000000000000080000
theorem State.noReference_frame {W : Nat} {s0 s : State} {c : Nat} (hW : Within State.noReference_mask W) (h : Frame W s0 s) :
    Frame W s0 (State.noReference s c) := by
  have b19 := hW.bit (n := 19) (by decide)
  have b282 := hW.bit (n := 282) (by decide)
  unfold State.noReference
  repeat' first
    | intro _
    | with_reducible assumption
    | (extract_lets +onlyGivenNames x; refine Frame.cut (W := W) (s0 := s0) x ?_ ?_; unfold x; clear x; rotate_left; clear_value x; revert x; intro _ _)
    | (extract_lets +onlyGivenNames x; clear_value x; revert x; intro _)
    | with_reducible refine State.set_frame (F.SAFE_CTX_phase_kind _) b282 ?_
    | with_reducible refine Frame.ite ?_ ?_
    | with_reducible refine Frame.foldl ?_ _ _ ?_
    | split
    | with_reducible refine Frame.of_snd (by with_reducible assumption) ?_
    | with_reducible refine Frame.of_fst (by with_reducible assumption) ?_
    | with_reducible refine Frame.snd_mk ?_
    | with_reducible refine Frame.fst_mk ?_
    | with_reducible refine Frame.safe_upd b19 ?_

def State.frameSeen_mask : Nat := 0x6020000000000040000000000000000000000000000000000000000000000000000000000000022080000
theorem State.frameSeen_frame {W : Nat} {s0 s : State} {c : Nat} {frame : Nat} {sig : Nat} {jump : Bool} (hW : Within State.frameSeen_mask W) (h : Frame W s0 s) :
    Frame W s0 (State.frameSeen s c frame sig jump) := by
  have b19 := hW.bit (n := 19) (by decide)
  have b282 := hW.bit (n := 282) (by decide)
  have w2 := Within.trans (a := State.raise_mask) rfl hW
  unfold State.frameSeen
  repeat' first
    | intro _
    | with_reducible assumption
    | (extract_lets +onlyGivenNames x; refine Frame.cut (W := W) (s0 := s0) x ?_ ?_; unfold x; clear x; rotate_left; clear_value x; revert x; intro _ _)
    | (extract_lets +onlyGivenNames x; clear_value x; revert x; intro _)
    | with_reducible refine State.set_frame (F.SAFE_CTX_phase_kind _) b282 ?_
    | with_reducible refine State.raise_frame w2 ?_
    | with_reducible refine Frame.ite ?_ ?_
    | with_reducible refine Frame.foldl ?_ _ _ ?_
    | split
    | with_reducible refine Frame.of_snd (by with_reducible assumption) ?_
    | with_reducible refine Frame.of_fst (by with_reducible assumption) ?_
    | with_reducible refine Frame.snd_mk ?_
    | with_reducible refine Frame.fst_mk ?_
    | with_reducible refine Frame.safe_upd b19 ?_

def State.reportLost_mask : Nat := 0x80000
theorem State.reportLost_frame {W : Nat} {s0 s : State} {ctx : Nat} {row : Nat} {line : Nat} {code : Nat} (hW : Within State.reportLost_mask W) (h : Frame W s0 s) :
    Frame W s0 (State.reportLost s ctx row line code) := by
  have b19 := hW.bit (n := 19) (by decide)
  unfold State.reportLost
  repeat' first
    | intro _
    | with_reducible assumption
    | (extract_lets +onlyGivenNames x; refine Frame.cut (W := W) (s0 := s0) x ?_ ?_; unfold x; clear x; rotate_left; clear_value x; revert x; intro _ _)
    | (extract_lets +onlyGivenNames x; clear_value x; revert x; intro _)
    | with_reducible refine Frame.ite ?_ ?_
    | with_reducible refine Frame.foldl ?_ _ _ ?_
    | split
    | with_reducible refine Frame.of_snd (by with_reducible assumption) ?_
    | with_reducible refine Frame.of_fst (by with_reducible assumption) ?_
    | with_reducible refine Frame.snd_mk ?_
    | with_reducible refine Frame.fst_mk ?_
    | with_reducible refine Frame.safe_upd b19 ?_

def State.ageLost_mask : Nat := 0x80000
theorem State.ageLost_frame {W : Nat} {s0 s : State} {c : Nat} {n : Nat} (hW : Within State.ageLost_mask W) (h : Frame W s0 s) :
    Frame W s0 (State.ageLost s c n) := by
  have b19 := hW.bit (n := 19) (by decide)
  unfold State.ageLost
  repeat' first
    | intro _
    | with_reducible assumption
    | (extract_lets +onlyGivenNames x; refine Frame.cut (W := W) (s0 := s0) x ?_ ?_; unfold x; clear x; rotate_left; clear_value x; revert x; intro _ _)
    | (extract_lets +onlyGivenNames x; clear_value x; revert x; intro _)
    | with_reducible refine Frame.ite ?_ ?_
    | with_reducible refine Frame.foldl ?_ _ _ ?_
    | split
    | with_reducible refine Frame.of_snd (by with_reducible assumption) ?_
    | with_reducible refine Frame.of_fst (by with_reducible assumption) ?_
    | with_reducible refine Frame.snd_mk ?_
    | with_reducible refine Frame.fst_mk ?_
    | with_reducible refine Frame.safe_upd b19 ?_

def State.forgetLost_mask : Nat := 0x80000
theorem State.forgetLost_frame {W : Nat} {s0 s : State} {c : Nat} (hW : Within State.forgetLost_mask W) (h : Frame W s0 s) :
    Frame W s0 (State.forgetLost s c) := by
  have b19 := hW.bit (n := 19) (by decide)
  unfold State.forgetLost
  repeat' first
    | intro _
    | with_reducible assumption
    | (extract_lets +onlyGivenNames x; refine Frame.cut (W := W) (s0 := s0) x ?_ ?_; unfold x; clear x; rotate_left; clear_value x; revert x; intro _ _)
    | (extract_lets +onlyGivenNames x; clear_value x; revert x; intro _)
    | with_reducible refine Frame.ite ?_ ?_
    | with_reducible refine Frame.foldl ?_ _ _ ?_
    | split
    | with_reducible refine Frame.of_snd (by with_reducible assumption) ?_
    | with_reducible refine Frame.of_fst (by with_reducible assumption) ?_
    | with_reducible refine Frame.snd_mk ?_
    | with_reducible refine Frame.fst_mk ?_
    | with_reducible refine Frame.safe_upd b19 ?_

def State.showOverdue_mask : Nat := 0x80000000000000000000000000000000000000000000000000000000000000080000
theorem State.showOverdue_frame {W : Nat} {s0 s : State} (hW : Within State.showOverdue_mask W) (h : Frame W s0 s) :
    Frame W s0 (State.showOverdue s) := by
  have b271 := hW.bit (n := 271) (by decide)
  have w1 := Within.trans (a := State.causeOff_mask) rfl hW
  unfold State.showOverdue
  repeat' first
    | intro _
    | with_reducible assumption
    | (extract_lets +onlyGivenNames x; refine Frame.cut (W := W) (s0 := s0) x ?_ ?_; unfold x; clear x; rotate_left; clear_value x; revert x; intro _ _)
    | (extract_lets +onlyGivenNames x; clear_value x; revert x; intro _)
    | with_reducible refine State.setB_frame (F.SAFE_STATUS_overdue_kind) b271 ?_
    | with_reducible refine State.causeOff_frame w1 ?_
    | with_reducible refine Frame.ite ?_ ?_
    | with_reducible refine Frame.foldl ?_ _ _ ?_
    | split
    | with_reducible refine Frame.of_snd (by with_reducible assumption) ?_
    | with_reducible refine Frame.of_fst (by with_reducible assumption) ?_
    | with_reducible refine Frame.snd_mk ?_
    | with_reducible refine Frame.fst_mk ?_

def State.testDone_mask : Nat := 0x80080000000000000000000000000000000000000000000000000000000000000080000
theorem State.testDone_frame {W : Nat} {s0 s : State} {t : Nat} {failed : Bool} (hW : Within State.testDone_mask W) (h : Frame W s0 s) :
    Frame W s0 (State.testDone s t failed) := by
  have b19 := hW.bit (n := 19) (by decide)
  have b283 := hW.bit (n := 283) (by decide)
  have w2 := Within.trans (a := State.showOverdue_mask) rfl hW
  unfold State.testDone
  repeat' first
    | intro _
    | with_reducible assumption
    | (extract_lets +onlyGivenNames x; refine Frame.cut (W := W) (s0 := s0) x ?_ ?_; unfold x; clear x; rotate_left; clear_value x; revert x; intro _ _)
    | (extract_lets +onlyGivenNames x; clear_value x; revert x; intro _)
    | with_reducible refine State.set_frame (F.SAFE_TEST_overdue_kind _) b283 ?_
    | with_reducible refine State.setB_frame (F.SAFE_TEST_failed_kind _) b283 ?_
    | with_reducible refine State.inc_frame (F.SAFE_TEST_completions_kind _) b283 ?_
    | with_reducible refine State.showOverdue_frame w2 ?_
    | with_reducible refine Frame.ite ?_ ?_
    | with_reducible refine Frame.foldl ?_ _ _ ?_
    | split
    | with_reducible refine Frame.of_snd (by with_reducible assumption) ?_
    | with_reducible refine Frame.of_fst (by with_reducible assumption) ?_
    | with_reducible refine Frame.snd_mk ?_
    | with_reducible refine Frame.fst_mk ?_
    | with_reducible refine Frame.safe_upd b19 ?_

def State.recoveryCheck_mask : Nat := 0x6020000000000001080000000000000000000000000000000000000000000000000000000000022080000
theorem State.recoveryCheck_frame {W : Nat} {s0 s : State} (hW : Within State.recoveryCheck_mask W) (h : Frame W s0 s) :
    Frame W s0 (State.recoveryCheck s) := by
  have b271 := hW.bit (n := 271) (by decide)
  have w1 := Within.trans (a := State.sendSafety_mask) rfl hW
  unfold State.recoveryCheck
  repeat' first
    | intro _
    | with_reducible assumption
    | (extract_lets +onlyGivenNames x; refine Frame.cut (W := W) (s0 := s0) x ?_ ?_; unfold x; clear x; rotate_left; clear_value x; revert x; intro _ _)
    | (extract_lets +onlyGivenNames x; clear_value x; revert x; intro _)
    | with_reducible refine State.set_frame (F.SAFE_STATUS_state_kind) b271 ?_
    | with_reducible refine State.sendSafety_frame w1 ?_
    | with_reducible refine Frame.ite ?_ ?_
    | with_reducible refine Frame.foldl ?_ _ _ ?_
    | split
    | with_reducible refine Frame.of_snd (by with_reducible assumption) ?_
    | with_reducible refine Frame.of_fst (by with_reducible assumption) ?_
    | with_reducible refine Frame.snd_mk ?_
    | with_reducible refine Frame.fst_mk ?_

def State.goldenJudge_mask : Nat := 0x60200000000000c118000000000000100000000000000000000000000000000000000000000002208c000
theorem State.goldenJudge_frame {W : Nat} {s0 s : State} {c : Nat} {d : BitVec 256} (hW : Within State.goldenJudge_mask W) (h : Frame W s0 s) :
    Frame W s0 (State.goldenJudge s c d) := by
  have b19 := hW.bit (n := 19) (by decide)
  have b282 := hW.bit (n := 282) (by decide)
  have w2 := Within.trans (a := State.causeOff_mask) rfl hW
  have w3 := Within.trans (a := State.recoveryCheck_mask) rfl hW
  have w4 := Within.trans (a := State.testDone_mask) rfl hW
  have w5 := Within.trans (a := State.raise_mask) rfl hW
  have w6 := Within.trans (a := State.enterSafeHeld_mask) rfl hW
  unfold State.goldenJudge
  repeat' first
    | intro _
    | with_reducible assumption
    | (extract_lets +onlyGivenNames x; refine Frame.cut (W := W) (s0 := s0) x ?_ ?_; unfold x; clear x; rotate_left; clear_value x; revert x; intro _ _)
    | (extract_lets +onlyGivenNames x; clear_value x; revert x; intro _)
    | with_reducible refine State.set_frame (F.SAFE_CTX_golden_fail_kind _) b282 ?_
    | with_reducible refine State.set_frame (F.SAFE_CTX_mismatches_kind _) b282 ?_
    | with_reducible refine State.inc_frame (F.SAFE_CTX_golden_passed_kind _) b282 ?_
    | with_reducible refine State.inc_frame (F.SAFE_CTX_mismatches_kind _) b282 ?_
    | with_reducible refine State.causeOff_frame w2 ?_
    | with_reducible refine State.recoveryCheck_frame w3 ?_
    | with_reducible refine State.testDone_frame w4 ?_
    | with_reducible refine State.raise_frame w5 ?_
    | with_reducible refine State.enterSafeHeld_frame w6 ?_
    | with_reducible refine Frame.ite ?_ ?_
    | with_reducible refine Frame.foldl ?_ _ _ ?_
    | split
    | with_reducible refine Frame.of_snd (by with_reducible assumption) ?_
    | with_reducible refine Frame.of_fst (by with_reducible assumption) ?_
    | with_reducible refine Frame.snd_mk ?_
    | with_reducible refine Frame.fst_mk ?_
    | with_reducible refine Frame.safe_upd b19 ?_

end Sys2Proof.Machine
end

