-- ==== Sys2Proof/Laws/Lane.lean ====
section
/-! SUPPORT. What the operations of Machine/Lane.lean change: each differs from its argument in the areas of its mask alone. -/

set_option linter.all false

namespace Sys2Proof.Machine

def State.setLane_mask : Nat := 0x800
theorem State.setLane_frame {W : Nat} {s0 s : State} {n : Nat} {l : Lane} (hW : Within State.setLane_mask W) (h : Frame W s0 s) :
    Frame W s0 (State.setLane s n l) := by
  have b11 := hW.bit (n := 11) (by decide)
  unfold State.setLane
  repeat' first
    | intro _
    | with_reducible assumption
    | (extract_lets +onlyGivenNames x; refine Frame.cut (W := W) (s0 := s0) x ?_ ?_; unfold x; clear x; rotate_left; clear_value x; revert x; intro _ _)
    | (extract_lets +onlyGivenNames x; clear_value x; revert x; intro _)
    | with_reducible refine Frame.ite ?_ ?_
    | with_reducible refine Frame.foldl ?_ _ _ ?_
    | split
    | with_reducible refine Frame.of_snd (by with_reducible assumption) ?_
    | with_reducible refine Frame.of_fst (by with_reducible assumption) ?_
    | with_reducible refine Frame.snd_mk ?_
    | with_reducible refine Frame.fst_mk ?_
    | with_reducible refine Frame.lane_upd b11 ?_

def State.setStream_mask : Nat := 0x800
theorem State.setStream_frame {W : Nat} {s0 s : State} {n : Nat} {k : Nat} {x : Stream} (hW : Within State.setStream_mask W) (h : Frame W s0 s) :
    Frame W s0 (State.setStream s n k x) := by
  have b11 := hW.bit (n := 11) (by decide)
  unfold State.setStream
  repeat' first
    | intro _
    | with_reducible assumption
    | (extract_lets +onlyGivenNames x; refine Frame.cut (W := W) (s0 := s0) x ?_ ?_; unfold x; clear x; rotate_left; clear_value x; revert x; intro _ _)
    | (extract_lets +onlyGivenNames x; clear_value x; revert x; intro _)
    | with_reducible refine Frame.ite ?_ ?_
    | with_reducible refine Frame.foldl ?_ _ _ ?_
    | split
    | with_reducible refine Frame.of_snd (by with_reducible assumption) ?_
    | with_reducible refine Frame.of_fst (by with_reducible assumption) ?_
    | with_reducible refine Frame.snd_mk ?_
    | with_reducible refine Frame.fst_mk ?_
    | with_reducible refine Frame.lane_upd b11 ?_

def State.dropStream_mask : Nat := 0x800000000000000000000000000000000000800
theorem State.dropStream_frame {W : Nat} {s0 s : State} {n : Nat} {k : Nat} {st : Nat} {cause : Nat} (hW : Within State.dropStream_mask W) (h : Frame W s0 s) :
    Frame W s0 (State.dropStream s n k st cause) := by
  have b155 := hW.bit (n := 155) (by decide)
  have w0 := Within.trans (a := State.setStream_mask) rfl hW
  unfold State.dropStream
  repeat' first
    | intro _
    | with_reducible assumption
    | (extract_lets +onlyGivenNames x; refine Frame.cut (W := W) (s0 := s0) x ?_ ?_; unfold x; clear x; rotate_left; clear_value x; revert x; intro _ _)
    | (extract_lets +onlyGivenNames x; clear_value x; revert x; intro _)
    | with_reducible refine State.set_frame (F.LANE_STREAM_state_kind _ _) b155 ?_
    | with_reducible refine State.setStream_frame w0 ?_
    | with_reducible refine Frame.ite ?_ ?_
    | with_reducible refine Frame.foldl ?_ _ _ ?_
    | split
    | with_reducible refine Frame.of_snd (by with_reducible assumption) ?_
    | with_reducible refine Frame.of_fst (by with_reducible assumption) ?_
    | with_reducible refine Frame.snd_mk ?_
    | with_reducible refine Frame.fst_mk ?_

def State.sendBack_mask : Nat := 0x800
theorem State.sendBack_frame {W : Nat} {s0 s : State} {n : Nat} {kind : Nat} {stream : Nat} {seq : Nat} {payload : List Byte} (hW : Within State.sendBack_mask W) (h : Frame W s0 s) :
    Frame W s0 (State.sendBack s n kind stream seq payload) := by
  have b11 := hW.bit (n := 11) (by decide)
  unfold State.sendBack
  repeat' first
    | intro _
    | with_reducible assumption
    | (extract_lets +onlyGivenNames x; refine Frame.cut (W := W) (s0 := s0) x ?_ ?_; unfold x; clear x; rotate_left; clear_value x; revert x; intro _ _)
    | (extract_lets +onlyGivenNames x; clear_value x; revert x; intro _)
    | with_reducible refine Frame.ite ?_ ?_
    | with_reducible refine Frame.foldl ?_ _ _ ?_
    | split
    | with_reducible refine Frame.of_snd (by with_reducible assumption) ?_
    | with_reducible refine Frame.of_fst (by with_reducible assumption) ?_
    | with_reducible refine Frame.snd_mk ?_
    | with_reducible refine Frame.fst_mk ?_
    | with_reducible refine Frame.lane_upd b11 ?_

def State.sendTrigger_mask : Nat := 0x800
theorem State.sendTrigger_frame {W : Nat} {s0 s : State} {n : Nat} {mask : Nat} {number : Nat} {count : Nat} (hW : Within State.sendTrigger_mask W) (h : Frame W s0 s) :
    Frame W s0 (State.sendTrigger s n mask number count) := by
  have w0 := Within.trans (a := State.sendBack_mask) rfl hW
  unfold State.sendTrigger
  repeat' first
    | intro _
    | with_reducible assumption
    | (extract_lets +onlyGivenNames x; refine Frame.cut (W := W) (s0 := s0) x ?_ ?_; unfold x; clear x; rotate_left; clear_value x; revert x; intro _ _)
    | (extract_lets +onlyGivenNames x; clear_value x; revert x; intro _)
    | with_reducible refine State.sendBack_frame w0 ?_
    | with_reducible refine Frame.ite ?_ ?_
    | with_reducible refine Frame.foldl ?_ _ _ ?_
    | split
    | with_reducible refine Frame.of_snd (by with_reducible assumption) ?_
    | with_reducible refine Frame.of_fst (by with_reducible assumption) ?_
    | with_reducible refine Frame.snd_mk ?_
    | with_reducible refine Frame.fst_mk ?_

def State.sendNak_mask : Nat := 0x20000000000000000000000000000000000800
theorem State.sendNak_frame {W : Nat} {s0 s : State} {n : Nat} {k : Nat} {seq : Nat} {cause : Nat} (hW : Within State.sendNak_mask W) (h : Frame W s0 s) :
    Frame W s0 (State.sendNak s n k seq cause) := by
  have b149 := hW.bit (n := 149) (by decide)
  have w1 := Within.trans (a := State.sendBack_mask) rfl hW
  unfold State.sendNak
  repeat' first
    | intro _
    | with_reducible assumption
    | (extract_lets +onlyGivenNames x; refine Frame.cut (W := W) (s0 := s0) x ?_ ?_; unfold x; clear x; rotate_left; clear_value x; revert x; intro _ _)
    | (extract_lets +onlyGivenNames x; clear_value x; revert x; intro _)
    | with_reducible refine State.inc_frame (F.LANE_NAK_sent_kind _) b149 ?_
    | with_reducible refine State.sendBack_frame w1 ?_
    | with_reducible refine Frame.ite ?_ ?_
    | with_reducible refine Frame.foldl ?_ _ _ ?_
    | split
    | with_reducible refine Frame.of_snd (by with_reducible assumption) ?_
    | with_reducible refine Frame.of_fst (by with_reducible assumption) ?_
    | with_reducible refine Frame.snd_mk ?_
    | with_reducible refine Frame.fst_mk ?_

def State.sendResync_mask : Nat := 0x840000000000000000000000000000000000800
theorem State.sendResync_frame {W : Nat} {s0 s : State} {n : Nat} {k : Nat} {cause : Nat} (hW : Within State.sendResync_mask W) (h : Frame W s0 s) :
    Frame W s0 (State.sendResync s n k cause) := by
  have b150 := hW.bit (n := 150) (by decide)
  have w1 := Within.trans (a := State.dropStream_mask) rfl hW
  have w2 := Within.trans (a := State.sendBack_mask) rfl hW
  unfold State.sendResync
  repeat' first
    | intro _
    | with_reducible assumption
    | (extract_lets +onlyGivenNames x; refine Frame.cut (W := W) (s0 := s0) x ?_ ?_; unfold x; clear x; rotate_left; clear_value x; revert x; intro _ _)
    | (extract_lets +onlyGivenNames x; clear_value x; revert x; intro _)
    | with_reducible refine State.inc_frame (F.LANE_LOST_resyncs_kind _) b150 ?_
    | with_reducible refine State.dropStream_frame w1 ?_
    | with_reducible refine State.sendBack_frame w2 ?_
    | with_reducible refine Frame.ite ?_ ?_
    | with_reducible refine Frame.foldl ?_ _ _ ?_
    | split
    | with_reducible refine Frame.of_snd (by with_reducible assumption) ?_
    | with_reducible refine Frame.of_fst (by with_reducible assumption) ?_
    | with_reducible refine Frame.snd_mk ?_
    | with_reducible refine Frame.fst_mk ?_

def State.setIspChan_mask : Nat := 0x1000
theorem State.setIspChan_frame {W : Nat} {s0 s : State} {n : Nat} {c : IspChan} (hW : Within State.setIspChan_mask W) (h : Frame W s0 s) :
    Frame W s0 (State.setIspChan s n c) := by
  have b12 := hW.bit (n := 12) (by decide)
  unfold State.setIspChan
  repeat' first
    | intro _
    | with_reducible assumption
    | (extract_lets +onlyGivenNames x; refine Frame.cut (W := W) (s0 := s0) x ?_ ?_; unfold x; clear x; rotate_left; clear_value x; revert x; intro _ _)
    | (extract_lets +onlyGivenNames x; clear_value x; revert x; intro _)
    | with_reducible refine Frame.ite ?_ ?_
    | with_reducible refine Frame.foldl ?_ _ _ ?_
    | split
    | with_reducible refine Frame.of_snd (by with_reducible assumption) ?_
    | with_reducible refine Frame.of_fst (by with_reducible assumption) ?_
    | with_reducible refine Frame.snd_mk ?_
    | with_reducible refine Frame.fst_mk ?_
    | with_reducible refine Frame.isp_upd b12 ?_

def State.showLayby_mask : Nat := 0x18000000000000000000000000000000000000000
theorem State.showLayby_frame {W : Nat} {s0 s : State} {n : Nat} (hW : Within State.showLayby_mask W) (h : Frame W s0 s) :
    Frame W s0 (State.showLayby s n) := by
  have b160 := hW.bit (n := 160) (by decide)
  have b159 := hW.bit (n := 159) (by decide)
  unfold State.showLayby
  repeat' first
    | intro _
    | with_reducible assumption
    | (extract_lets +onlyGivenNames x; refine Frame.cut (W := W) (s0 := s0) x ?_ ?_; unfold x; clear x; rotate_left; clear_value x; revert x; intro _ _)
    | (extract_lets +onlyGivenNames x; clear_value x; revert x; intro _)
    | with_reducible refine State.set_frame (F.ISP_LAYBY_PEAK_bytes_kind _) b160 ?_
    | with_reducible refine State.set_frame (F.ISP_LAYBY_bytes_kind _) b159 ?_
    | with_reducible refine Frame.ite ?_ ?_
    | with_reducible refine Frame.foldl ?_ _ _ ?_
    | split
    | with_reducible refine Frame.of_snd (by with_reducible assumption) ?_
    | with_reducible refine Frame.of_fst (by with_reducible assumption) ?_
    | with_reducible refine Frame.snd_mk ?_
    | with_reducible refine Frame.fst_mk ?_

def State.handOn_mask : Nat := 0x6020000000000000000000000000000000000000000038000000000000000000000000000000022001000
theorem State.handOn_frame {W : Nat} {s0 s : State} {ch : Nat} {l : LineIn} (hW : Within State.handOn_mask W) (h : Frame W s0 s) :
    Frame W s0 (State.handOn s ch l) := by
  have b161 := hW.bit (n := 161) (by decide)
  have w0 := Within.trans (a := State.raise_mask) rfl hW
  have w1 := Within.trans (a := State.setIspChan_mask) rfl hW
  have w2 := Within.trans (a := State.showLayby_mask) rfl hW
  unfold State.handOn
  repeat' first
    | intro _
    | with_reducible assumption
    | (extract_lets +onlyGivenNames x; refine Frame.cut (W := W) (s0 := s0) x ?_ ?_; unfold x; clear x; rotate_left; clear_value x; revert x; intro _ _)
    | (extract_lets +onlyGivenNames x; clear_value x; revert x; intro _)
    | with_reducible refine State.inc_frame (F.ISP_LAYBY_LOST_lines_kind _) b161 ?_
    | with_reducible refine State.raise_frame w0 ?_
    | with_reducible refine State.setIspChan_frame w1 ?_
    | with_reducible refine State.showLayby_frame w2 ?_
    | with_reducible refine Frame.ite ?_ ?_
    | with_reducible refine Frame.foldl ?_ _ _ ?_
    | split
    | with_reducible refine Frame.of_snd (by with_reducible assumption) ?_
    | with_reducible refine Frame.of_fst (by with_reducible assumption) ?_
    | with_reducible refine Frame.snd_mk ?_
    | with_reducible refine Frame.fst_mk ?_
    | with_reducible refine Frame.foldl_snd ?_ _ _ ?_
    | with_reducible refine Frame.foldl_fst ?_ _ _ ?_
    | with_reducible refine Frame.foldr_snd ?_ _ _ ?_
    | with_reducible refine Frame.Snd.mk ?_
    | with_reducible refine Frame.Fst.mk ?_
    | dsimp only

def State.handLost_mask : Nat := 0x6020000000000000000000000000000000000000000038040000000000000000000000000000023001000
theorem State.handLost_frame {W : Nat} {s0 s : State} {n : Nat} {k : Nat} {seq : Nat} {code : Nat} (hW : Within State.handLost_mask W) (h : Frame W s0 s) :
    Frame W s0 (State.handLost s n k seq code) := by
  have b150 := hW.bit (n := 150) (by decide)
  have w1 := Within.trans (a := State.draw_mask) rfl hW
  have w2 := Within.trans (a := State.handOn_mask) rfl hW
  unfold State.handLost
  repeat' first
    | intro _
    | with_reducible assumption
    | (extract_lets +onlyGivenNames x; refine Frame.cut (W := W) (s0 := s0) x ?_ ?_; unfold x; clear x; rotate_left; clear_value x; revert x; intro _ _)
    | (extract_lets +onlyGivenNames x; clear_value x; revert x; intro _)
    | with_reducible refine State.inc_frame (F.LANE_LOST_lines_kind _) b150 ?_
    | with_reducible refine State.draw_snd w1 ?_
    | with_reducible refine State.handOn_frame w2 ?_
    | with_reducible refine Frame.ite ?_ ?_
    | with_reducible refine Frame.foldl ?_ _ _ ?_
    | split
    | with_reducible refine State.draw_frame (by with_reducible assumption) w1 ?_
    | with_reducible refine Frame.of_snd (by with_reducible assumption) ?_
    | with_reducible refine Frame.of_fst (by with_reducible assumption) ?_
    | with_reducible refine Frame.snd_mk ?_
    | with_reducible refine Frame.fst_mk ?_

def State.handLostRun_mask : Nat := 0x6020000000000000000000000000000000000000000038040000000000000000000000000000023001000
theorem State.handLostRun_frame {W : Nat} {s0 s : State} {n : Nat} {k : Nat} {first : Nat} {m : Nat} {code : Nat} (hW : Within State.handLostRun_mask W) (h : Frame W s0 s) :
    Frame W s0 (State.handLostRun s n k first m code) := by
  have w0 := Within.trans (a := State.handLost_mask) rfl hW
  unfold State.handLostRun
  repeat' first
    | intro _
    | with_reducible assumption
    | (extract_lets +onlyGivenNames x; refine Frame.cut (W := W) (s0 := s0) x ?_ ?_; unfold x; clear x; rotate_left; clear_value x; revert x; intro _ _)
    | (extract_lets +onlyGivenNames x; clear_value x; revert x; intro _)
    | with_reducible refine State.each_frame ?_ ?_
    | with_reducible refine State.handLost_frame w0 ?_
    | with_reducible refine Frame.ite ?_ ?_
    | with_reducible refine Frame.foldl ?_ _ _ ?_
    | split
    | with_reducible refine Frame.of_snd (by with_reducible assumption) ?_
    | with_reducible refine Frame.of_fst (by with_reducible assumption) ?_
    | with_reducible refine Frame.snd_mk ?_
    | with_reducible refine Frame.fst_mk ?_

def State.laneGone_mask : Nat := 0x40000000000000000000000000000000800800000000000000000000000000000080800
theorem State.laneGone_frame {W : Nat} {s0 s : State} {n : Nat} (hW : Within State.laneGone_mask W) (h : Frame W s0 s) :
    Frame W s0 (State.laneGone s n) := by
  have b143 := hW.bit (n := 143) (by decide)
  have w1 := Within.trans (a := State.dropStream_mask) rfl hW
  have w2 := Within.trans (a := State.noReference_mask) rfl hW
  unfold State.laneGone
  repeat' first
    | intro _
    | with_reducible assumption
    | (extract_lets +onlyGivenNames x; refine Frame.cut (W := W) (s0 := s0) x ?_ ?_; unfold x; clear x; rotate_left; clear_value x; revert x; intro _ _)
    | (extract_lets +onlyGivenNames x; clear_value x; revert x; intro _)
    | with_reducible refine State.setBit_frame (F.LANE_UP_MASK_up_kind) b143 ?_
    | with_reducible refine State.each_frame ?_ ?_
    | with_reducible refine State.dropStream_frame w1 ?_
    | with_reducible refine State.noReference_frame w2 ?_
    | with_reducible refine Frame.ite ?_ ?_
    | with_reducible refine Frame.foldl ?_ _ _ ?_
    | split
    | with_reducible refine Frame.of_snd (by with_reducible assumption) ?_
    | with_reducible refine Frame.of_fst (by with_reducible assumption) ?_
    | with_reducible refine Frame.snd_mk ?_
    | with_reducible refine Frame.fst_mk ?_

def State.takeTaps_mask : Nat := 0x800
theorem State.takeTaps_frame {W : Nat} {s0 s : State} {n : Nat} (hW : Within State.takeTaps_mask W) (h : Frame W s0 s) :
    Frame W s0 (State.takeTaps s n) := by
  have w0 := Within.trans (a := State.setLane_mask) rfl hW
  unfold State.takeTaps
  repeat' first
    | intro _
    | with_reducible assumption
    | (extract_lets +onlyGivenNames x; refine Frame.cut (W := W) (s0 := s0) x ?_ ?_; unfold x; clear x; rotate_left; clear_value x; revert x; intro _ _)
    | (extract_lets +onlyGivenNames x; clear_value x; revert x; intro _)
    | with_reducible refine State.setLane_frame w0 ?_
    | with_reducible refine Frame.ite ?_ ?_
    | with_reducible refine Frame.foldl ?_ _ _ ?_
    | split
    | with_reducible refine Frame.of_snd (by with_reducible assumption) ?_
    | with_reducible refine Frame.of_fst (by with_reducible assumption) ?_
    | with_reducible refine Frame.snd_mk ?_
    | with_reducible refine Frame.fst_mk ?_

def State.endTest_mask : Nat := 0x100000000000000000000000000000001000000
theorem State.endTest_frame {W : Nat} {s0 s : State} {n : Nat} (hW : Within State.endTest_mask W) (h : Frame W s0 s) :
    Frame W s0 (State.endTest s n) := by
  have b152 := hW.bit (n := 152) (by decide)
  have w0 := Within.trans (a := State.draw_mask) rfl hW
  unfold State.endTest
  repeat' first
    | intro _
    | with_reducible assumption
    | (extract_lets +onlyGivenNames x; refine Frame.cut (W := W) (s0 := s0) x ?_ ?_; unfold x; clear x; rotate_left; clear_value x; revert x; intro _ _)
    | (extract_lets +onlyGivenNames x; clear_value x; revert x; intro _)
    | with_reducible refine State.addSat_frame (F.LANE_PRBS_ERR_bits_kind _) b152 ?_
    | with_reducible refine State.draw_snd w0 ?_
    | with_reducible refine Frame.ite ?_ ?_
    | with_reducible refine Frame.foldl ?_ _ _ ?_
    | split
    | with_reducible refine State.draw_frame (by with_reducible assumption) w0 ?_
    | with_reducible refine Frame.of_snd (by with_reducible assumption) ?_
    | with_reducible refine Frame.of_fst (by with_reducible assumption) ?_
    | with_reducible refine Frame.snd_mk ?_
    | with_reducible refine Frame.fst_mk ?_

def State.train_mask : Nat := 0x40000000000000000000000000000000904800000000000000000000000000001080800
theorem State.train_frame {W : Nat} {s0 s : State} {n : Nat} (hW : Within State.train_mask W) (h : Frame W s0 s) :
    Frame W s0 (State.train s n) := by
  have b146 := hW.bit (n := 146) (by decide)
  have w0 := Within.trans (a := State.laneGone_mask) rfl hW
  have w1 := Within.trans (a := State.endTest_mask) rfl hW
  have w2 := Within.trans (a := State.setLane_mask) rfl hW
  have w3 := Within.trans (a := State.takeTaps_mask) rfl hW
  unfold State.train
  repeat' first
    | intro _
    | with_reducible assumption
    | (extract_lets +onlyGivenNames x; refine Frame.cut (W := W) (s0 := s0) x ?_ ?_; unfold x; clear x; rotate_left; clear_value x; revert x; intro _ _)
    | (extract_lets +onlyGivenNames x; clear_value x; revert x; intro _)
    | with_reducible refine State.set_frame (F.LANE_STATUS_state_kind _) b146 ?_
    | with_reducible refine State.set_frame (F.LANE_STATUS_block_lock_kind _) b146 ?_
    | with_reducible refine State.laneGone_frame w0 ?_
    | with_reducible refine State.endTest_frame w1 ?_
    | with_reducible refine State.setLane_frame w2 ?_
    | with_reducible refine State.takeTaps_frame w3 ?_
    | with_reducible refine Frame.ite ?_ ?_
    | with_reducible refine Frame.foldl ?_ _ _ ?_
    | split
    | with_reducible refine Frame.of_snd (by with_reducible assumption) ?_
    | with_reducible refine Frame.of_fst (by with_reducible assumption) ?_
    | with_reducible refine Frame.snd_mk ?_
    | with_reducible refine Frame.fst_mk ?_

def State.disableLane_mask : Nat := 0x40000000000000000000000000000000904800000000000000000000000000001080800
theorem State.disableLane_frame {W : Nat} {s0 s : State} {n : Nat} (hW : Within State.disableLane_mask W) (h : Frame W s0 s) :
    Frame W s0 (State.disableLane s n) := by
  have b146 := hW.bit (n := 146) (by decide)
  have w0 := Within.trans (a := State.laneGone_mask) rfl hW
  have w1 := Within.trans (a := State.endTest_mask) rfl hW
  have w2 := Within.trans (a := State.setLane_mask) rfl hW
  unfold State.disableLane
  repeat' first
    | intro _
    | with_reducible assumption
    | (extract_lets +onlyGivenNames x; refine Frame.cut (W := W) (s0 := s0) x ?_ ?_; unfold x; clear x; rotate_left; clear_value x; revert x; intro _ _)
    | (extract_lets +onlyGivenNames x; clear_value x; revert x; intro _)
    | with_reducible refine State.set_frame (F.LANE_STATUS_state_kind _) b146 ?_
    | with_reducible refine State.set_frame (F.LANE_STATUS_block_lock_kind _) b146 ?_
    | with_reducible refine State.laneGone_frame w0 ?_
    | with_reducible refine State.endTest_frame w1 ?_
    | with_reducible refine State.setLane_frame w2 ?_
    | with_reducible refine Frame.ite ?_ ?_
    | with_reducible refine Frame.foldl ?_ _ _ ?_
    | split
    | with_reducible refine Frame.of_snd (by with_reducible assumption) ?_
    | with_reducible refine Frame.of_fst (by with_reducible assumption) ?_
    | with_reducible refine Frame.snd_mk ?_
    | with_reducible refine Frame.fst_mk ?_

def State.trainFail_mask : Nat := 0x6020000000000000000000000000000000000000000000004000000000000000002020000000022000020
theorem State.trainFail_frame {W : Nat} {s0 s : State} {n : Nat} {cause : Nat} (hW : Within State.trainFail_mask W) (h : Frame W s0 s) :
    Frame W s0 (State.trainFail s n cause) := by
  have b146 := hW.bit (n := 146) (by decide)
  have w1 := Within.trans (a := State.bootTrainFail_mask) rfl hW
  have w2 := Within.trans (a := State.raise_mask) rfl hW
  unfold State.trainFail
  repeat' first
    | intro _
    | with_reducible assumption
    | (extract_lets +onlyGivenNames x; refine Frame.cut (W := W) (s0 := s0) x ?_ ?_; unfold x; clear x; rotate_left; clear_value x; revert x; intro _ _)
    | (extract_lets +onlyGivenNames x; clear_value x; revert x; intro _)
    | with_reducible refine State.set_frame (F.LANE_STATUS_block_lock_kind _) b146 ?_
    | with_reducible refine State.set_frame (F.LANE_STATUS_state_kind _) b146 ?_
    | with_reducible refine State.bootTrainFail_frame w1 ?_
    | with_reducible refine State.raise_frame w2 ?_
    | with_reducible refine Frame.ite ?_ ?_
    | with_reducible refine Frame.foldl ?_ _ _ ?_
    | split
    | with_reducible refine Frame.of_snd (by with_reducible assumption) ?_
    | with_reducible refine Frame.of_fst (by with_reducible assumption) ?_
    | with_reducible refine Frame.snd_mk ?_
    | with_reducible refine Frame.fst_mk ?_

def State.laneCmd_mask : Nat := 0x6020000000000000000000000000000000000000000000000000000000000000000000000000022000000
theorem State.laneCmd_frame {W : Nat} {s0 s : State} {i : Port} {n : LaneId} {f : State → State} (hW : Within State.laneCmd_mask W) (hf_f : ∀ s, Frame W s0 s → Frame W s0 (f s)) (h : Frame W s0 s) :
    Frame W s0 (State.laneCmd s i n f) := by
  have w0 := Within.trans (a := State.raise_mask) rfl hW
  unfold State.laneCmd
  repeat' first
    | intro _
    | with_reducible assumption
    | (extract_lets +onlyGivenNames x; refine Frame.cut (W := W) (s0 := s0) x ?_ ?_; unfold x; clear x; rotate_left; clear_value x; revert x; intro _ _)
    | (extract_lets +onlyGivenNames x; clear_value x; revert x; intro _)
    | with_reducible refine State.raise_frame w0 ?_
    | with_reducible refine Frame.ite ?_ ?_
    | with_reducible apply hf_f
    | with_reducible refine Frame.foldl ?_ _ _ ?_
    | split
    | with_reducible refine Frame.of_snd (by with_reducible assumption) ?_
    | with_reducible refine Frame.of_fst (by with_reducible assumption) ?_
    | with_reducible refine Frame.snd_mk ?_
    | with_reducible refine Frame.fst_mk ?_

def State.laneUpkeep_mask : Nat := 0x6020000000000000000000000000000000000000000000000000000000000000000000000000022000000
theorem State.laneUpkeep_frame {W : Nat} {s0 s : State} {i : Port} {n : LaneId} {f : State → State} (hW : Within State.laneUpkeep_mask W) (hf_f : ∀ s, Frame W s0 s → Frame W s0 (f s)) (h : Frame W s0 s) :
    Frame W s0 (State.laneUpkeep s i n f) := by
  have w0 := Within.trans (a := State.raise_mask) rfl hW
  unfold State.laneUpkeep
  repeat' first
    | intro _
    | with_reducible assumption
    | (extract_lets +onlyGivenNames x; refine Frame.cut (W := W) (s0 := s0) x ?_ ?_; unfold x; clear x; rotate_left; clear_value x; revert x; intro _ _)
    | (extract_lets +onlyGivenNames x; clear_value x; revert x; intro _)
    | with_reducible refine State.raise_frame w0 ?_
    | with_reducible refine Frame.ite ?_ ?_
    | with_reducible apply hf_f
    | with_reducible refine Frame.foldl ?_ _ _ ?_
    | split
    | with_reducible refine Frame.of_snd (by with_reducible assumption) ?_
    | with_reducible refine Frame.of_fst (by with_reducible assumption) ?_
    | with_reducible refine Frame.snd_mk ?_
    | with_reducible refine Frame.fst_mk ?_

def execLaneRetrain_mask : Nat := 0x6020000000000040800000000005000000000000000000904800000000000000000000000000023088800
theorem execLaneRetrain_frame {s nx : State} {i : Port} {n : LaneId} (e : execLaneRetrain i n s = .next nx) : Frame execLaneRetrain_mask s nx := by
  refine State.run_frame rfl (fun W s0 s hW h => ?_) e
  have w0 := Within.trans (a := State.laneCmd_mask) rfl hW
  have w1 := Within.trans (a := State.laneUpkeep_mask) rfl hW
  have w2 := Within.trans (a := State.setLane_mask) rfl hW
  have w3 := Within.trans (a := State.train_mask) rfl hW
  repeat' first
    | intro _
    | with_reducible assumption
    | (extract_lets +onlyGivenNames x; refine Frame.cut (W := W) (s0 := s0) x ?_ ?_; unfold x; clear x; rotate_left; clear_value x; revert x; intro _ _)
    | (extract_lets +onlyGivenNames x; clear_value x; revert x; intro _)
    | with_reducible refine State.laneCmd_frame w0 ?_ ?_
    | with_reducible refine State.laneUpkeep_frame w1 ?_ ?_
    | with_reducible refine State.setLane_frame w2 ?_
    | with_reducible refine State.train_frame w3 ?_
    | with_reducible refine Frame.ite ?_ ?_
    | with_reducible refine Frame.foldl ?_ _ _ ?_
    | split
    | with_reducible refine Frame.of_snd (by with_reducible assumption) ?_
    | with_reducible refine Frame.of_fst (by with_reducible assumption) ?_

def State.enterTest_mask : Nat := 0x6020000000000040000000000000000000000000000000904800000000000000000000000000023080800
theorem State.enterTest_frame {W : Nat} {s0 s : State} {n : Nat} {kind : Nat} {which : Nat} (hW : Within State.enterTest_mask W) (h : Frame W s0 s) :
    Frame W s0 (State.enterTest s n kind which) := by
  have b146 := hW.bit (n := 146) (by decide)
  have w0 := Within.trans (a := State.laneGone_mask) rfl hW
  have w1 := Within.trans (a := State.endTest_mask) rfl hW
  have w2 := Within.trans (a := State.noReference_mask) rfl hW
  have w3 := Within.trans (a := State.setLane_mask) rfl hW
  have w4 := Within.trans (a := State.raise_mask) rfl hW
  unfold State.enterTest
  repeat' first
    | intro _
    | with_reducible assumption
    | (extract_lets +onlyGivenNames x; refine Frame.cut (W := W) (s0 := s0) x ?_ ?_; unfold x; clear x; rotate_left; clear_value x; revert x; intro _ _)
    | (extract_lets +onlyGivenNames x; clear_value x; revert x; intro _)
    | with_reducible refine State.set_frame (F.LANE_STATUS_state_kind _) b146 ?_
    | with_reducible refine State.laneGone_frame w0 ?_
    | with_reducible refine State.endTest_frame w1 ?_
    | with_reducible refine State.noReference_frame w2 ?_
    | with_reducible refine State.setLane_frame w3 ?_
    | with_reducible refine State.raise_frame w4 ?_
    | with_reducible refine State.each_frame ?_ ?_
    | with_reducible refine Frame.ite ?_ ?_
    | with_reducible refine Frame.foldl ?_ _ _ ?_
    | split
    | with_reducible refine Frame.of_snd (by with_reducible assumption) ?_
    | with_reducible refine Frame.of_fst (by with_reducible assumption) ?_
    | with_reducible refine Frame.snd_mk ?_
    | with_reducible refine Frame.fst_mk ?_

def execLaneLoop_mask : Nat := 0x6020000000000040800000000005000000000000000000904800000000000000000000000000023088800
theorem execLaneLoop_frame {s nx : State} {i : Port} {n : LaneId} {loop : BitVec 2} (e : execLaneLoop i n loop s = .next nx) : Frame execLaneLoop_mask s nx := by
  refine State.run_frame rfl (fun W s0 s hW h => ?_) e
  have w0 := Within.trans (a := State.laneCmd_mask) rfl hW
  have w1 := Within.trans (a := State.raise_mask) rfl hW
  have w2 := Within.trans (a := State.laneUpkeep_mask) rfl hW
  have w3 := Within.trans (a := State.enterTest_mask) rfl hW
  repeat' first
    | intro _
    | with_reducible assumption
    | (extract_lets +onlyGivenNames x; refine Frame.cut (W := W) (s0 := s0) x ?_ ?_; unfold x; clear x; rotate_left; clear_value x; revert x; intro _ _)
    | (extract_lets +onlyGivenNames x; clear_value x; revert x; intro _)
    | with_reducible refine State.laneCmd_frame w0 ?_ ?_
    | with_reducible refine State.raise_frame w1 ?_
    | with_reducible refine State.laneUpkeep_frame w2 ?_ ?_
    | with_reducible refine State.enterTest_frame w3 ?_
    | with_reducible refine Frame.ite ?_ ?_
    | with_reducible refine Frame.foldl ?_ _ _ ?_
    | split
    | with_reducible refine Frame.of_snd (by with_reducible assumption) ?_
    | with_reducible refine Frame.of_fst (by with_reducible assumption) ?_
    | with_reducible refine Frame.snd_mk ?_
    | with_reducible refine Frame.fst_mk ?_

def execLanePrbs_mask : Nat := 0x6020000000000040800000000005000000000000000000904800000000000000000000000000023088800
theorem execLanePrbs_frame {s nx : State} {i : Port} {n : LaneId} {prbs : BitVec 2} (e : execLanePrbs i n prbs s = .next nx) : Frame execLanePrbs_mask s nx := by
  refine State.run_frame rfl (fun W s0 s hW h => ?_) e
  have w0 := Within.trans (a := State.laneCmd_mask) rfl hW
  have w1 := Within.trans (a := State.raise_mask) rfl hW
  have w2 := Within.trans (a := State.laneUpkeep_mask) rfl hW
  have w3 := Within.trans (a := State.enterTest_mask) rfl hW
  repeat' first
    | intro _
    | with_reducible assumption
    | (extract_lets +onlyGivenNames x; refine Frame.cut (W := W) (s0 := s0) x ?_ ?_; unfold x; clear x; rotate_left; clear_value x; revert x; intro _ _)
    | (extract_lets +onlyGivenNames x; clear_value x; revert x; intro _)
    | with_reducible refine State.laneCmd_frame w0 ?_ ?_
    | with_reducible refine State.raise_frame w1 ?_
    | with_reducible refine State.laneUpkeep_frame w2 ?_ ?_
    | with_reducible refine State.enterTest_frame w3 ?_
    | with_reducible refine Frame.ite ?_ ?_
    | with_reducible refine Frame.foldl ?_ _ _ ?_
    | split
    | with_reducible refine Frame.of_snd (by with_reducible assumption) ?_
    | with_reducible refine Frame.of_fst (by with_reducible assumption) ?_
    | with_reducible refine Frame.snd_mk ?_
    | with_reducible refine Frame.fst_mk ?_

def execClearTest_mask : Nat := 0x6020000000000040800000000005000000000000000000904800000000000000000000000000023088800
theorem execClearTest_frame {s nx : State} {i : Port} {n : LaneId} (e : execClearTest i n s = .next nx) : Frame execClearTest_mask s nx := by
  refine State.run_frame rfl (fun W s0 s hW h => ?_) e
  have w0 := Within.trans (a := State.laneCmd_mask) rfl hW
  have w1 := Within.trans (a := State.raise_mask) rfl hW
  have w2 := Within.trans (a := State.train_mask) rfl hW
  have w3 := Within.trans (a := State.disableLane_mask) rfl hW
  repeat' first
    | intro _
    | with_reducible assumption
    | (extract_lets +onlyGivenNames x; refine Frame.cut (W := W) (s0 := s0) x ?_ ?_; unfold x; clear x; rotate_left; clear_value x; revert x; intro _ _)
    | (extract_lets +onlyGivenNames x; clear_value x; revert x; intro _)
    | with_reducible refine State.laneCmd_frame w0 ?_ ?_
    | with_reducible refine State.raise_frame w1 ?_
    | with_reducible refine State.train_frame w2 ?_
    | with_reducible refine State.disableLane_frame w3 ?_
    | with_reducible refine Frame.ite ?_ ?_
    | with_reducible refine Frame.foldl ?_ _ _ ?_
    | split
    | with_reducible refine Frame.of_snd (by with_reducible assumption) ?_
    | with_reducible refine Frame.of_fst (by with_reducible assumption) ?_
    | with_reducible refine Frame.snd_mk ?_
    | with_reducible refine Frame.fst_mk ?_

def execLaneDisable_mask : Nat := 0x6020000000000040800000000005000000000000000000904800000000000000000000000000023088800
theorem execLaneDisable_frame {s nx : State} {i : Port} {n : LaneId} (e : execLaneDisable i n s = .next nx) : Frame execLaneDisable_mask s nx := by
  refine State.run_frame rfl (fun W s0 s hW h => ?_) e
  have w0 := Within.trans (a := State.laneCmd_mask) rfl hW
  have w1 := Within.trans (a := State.raise_mask) rfl hW
  have w2 := Within.trans (a := State.disableLane_mask) rfl hW
  repeat' first
    | intro _
    | with_reducible assumption
    | (extract_lets +onlyGivenNames x; refine Frame.cut (W := W) (s0 := s0) x ?_ ?_; unfold x; clear x; rotate_left; clear_value x; revert x; intro _ _)
    | (extract_lets +onlyGivenNames x; clear_value x; revert x; intro _)
    | with_reducible refine State.laneCmd_frame w0 ?_ ?_
    | with_reducible refine State.raise_frame w1 ?_
    | with_reducible refine State.disableLane_frame w2 ?_
    | with_reducible refine Frame.ite ?_ ?_
    | with_reducible refine Frame.foldl ?_ _ _ ?_
    | split
    | with_reducible refine Frame.of_snd (by with_reducible assumption) ?_
    | with_reducible refine Frame.of_fst (by with_reducible assumption) ?_
    | with_reducible refine Frame.snd_mk ?_
    | with_reducible refine Frame.fst_mk ?_

def execLaneEnable_mask : Nat := 0x6020000000000040800000000005000000000000000000904800000000000000000000000000023088800
theorem execLaneEnable_frame {s nx : State} {i : Port} {n : LaneId} (e : execLaneEnable i n s = .next nx) : Frame execLaneEnable_mask s nx := by
  refine State.run_frame rfl (fun W s0 s hW h => ?_) e
  have w0 := Within.trans (a := State.laneCmd_mask) rfl hW
  have w1 := Within.trans (a := State.raise_mask) rfl hW
  have w2 := Within.trans (a := State.train_mask) rfl hW
  repeat' first
    | intro _
    | with_reducible assumption
    | (extract_lets +onlyGivenNames x; refine Frame.cut (W := W) (s0 := s0) x ?_ ?_; unfold x; clear x; rotate_left; clear_value x; revert x; intro _ _)
    | (extract_lets +onlyGivenNames x; clear_value x; revert x; intro _)
    | with_reducible refine State.laneCmd_frame w0 ?_ ?_
    | with_reducible refine State.raise_frame w1 ?_
    | with_reducible refine State.train_frame w2 ?_
    | with_reducible refine Frame.ite ?_ ?_
    | with_reducible refine Frame.foldl ?_ _ _ ?_
    | split
    | with_reducible refine Frame.of_snd (by with_reducible assumption) ?_
    | with_reducible refine Frame.of_fst (by with_reducible assumption) ?_
    | with_reducible refine Frame.snd_mk ?_
    | with_reducible refine Frame.fst_mk ?_

def execLaneRefWaitDone_mask : Nat := 0x800000000005000000000000000000004000000000000000000000000000000008000
theorem execLaneRefWaitDone_frame {s nx : State} {n : LaneId} (e : execLaneRefWaitDone n s = .next nx) : Frame execLaneRefWaitDone_mask s nx := by
  refine State.run_frame rfl (fun W s0 s hW h => ?_) e
  have b146 := hW.bit (n := 146) (by decide)
  repeat' first
    | intro _
    | with_reducible assumption
    | (extract_lets +onlyGivenNames x; refine Frame.cut (W := W) (s0 := s0) x ?_ ?_; unfold x; clear x; rotate_left; clear_value x; revert x; intro _ _)
    | (extract_lets +onlyGivenNames x; clear_value x; revert x; intro _)
    | with_reducible refine State.set_frame (F.LANE_STATUS_state_kind _) b146 ?_
    | with_reducible refine Frame.ite ?_ ?_
    | with_reducible refine Frame.foldl ?_ _ _ ?_
    | split
    | with_reducible refine Frame.of_snd (by with_reducible assumption) ?_
    | with_reducible refine Frame.of_fst (by with_reducible assumption) ?_
    | with_reducible refine Frame.snd_mk ?_
    | with_reducible refine Frame.fst_mk ?_

def execBlockLock_mask : Nat := 0x800000000005000000000000000000004000000000000000000000000000000008800
theorem execBlockLock_frame {s nx : State} {n : LaneId} (e : execBlockLock n s = .next nx) : Frame execBlockLock_mask s nx := by
  refine State.run_frame rfl (fun W s0 s hW h => ?_) e
  have b146 := hW.bit (n := 146) (by decide)
  have b11 := hW.bit (n := 11) (by decide)
  repeat' first
    | intro _
    | with_reducible assumption
    | (extract_lets +onlyGivenNames x; refine Frame.cut (W := W) (s0 := s0) x ?_ ?_; unfold x; clear x; rotate_left; clear_value x; revert x; intro _ _)
    | (extract_lets +onlyGivenNames x; clear_value x; revert x; intro _)
    | with_reducible refine State.set_frame (F.LANE_STATUS_state_kind _) b146 ?_
    | with_reducible refine State.set_frame (F.LANE_STATUS_block_lock_kind _) b146 ?_
    | with_reducible refine Frame.ite ?_ ?_
    | with_reducible refine Frame.foldl ?_ _ _ ?_
    | split
    | with_reducible refine Frame.of_snd (by with_reducible assumption) ?_
    | with_reducible refine Frame.of_fst (by with_reducible assumption) ?_
    | with_reducible refine Frame.snd_mk ?_
    | with_reducible refine Frame.fst_mk ?_
    | with_reducible refine Frame.lane_upd b11 ?_

def execTrainingWord_mask : Nat := 0x6020000000000000800000000005000000000000000000004000000000000000002020000000022008820
theorem execTrainingWord_frame {s nx : State} {n : LaneId} {w : BitVec 256} (e : execTrainingWord n w s = .next nx) : Frame execTrainingWord_mask s nx := by
  refine State.run_frame rfl (fun W s0 s hW h => ?_) e
  have b146 := hW.bit (n := 146) (by decide)
  have w1 := Within.trans (a := State.trainFail_mask) rfl hW
  have w2 := Within.trans (a := State.setLane_mask) rfl hW
  repeat' first
    | intro _
    | with_reducible assumption
    | (extract_lets +onlyGivenNames x; refine Frame.cut (W := W) (s0 := s0) x ?_ ?_; unfold x; clear x; rotate_left; clear_value x; revert x; intro _ _)
    | (extract_lets +onlyGivenNames x; clear_value x; revert x; intro _)
    | with_reducible refine State.set_frame (F.LANE_STATUS_state_kind _) b146 ?_
    | with_reducible refine State.set_frame (F.LANE_STATUS_streams_kind _) b146 ?_
    | with_reducible refine State.trainFail_frame w1 ?_
    | with_reducible refine State.setLane_frame w2 ?_
    | with_reducible refine Frame.ite ?_ ?_
    | with_reducible refine Frame.foldl ?_ _ _ ?_
    | split
    | with_reducible refine Frame.of_snd (by with_reducible assumption) ?_
    | with_reducible refine Frame.of_fst (by with_reducible assumption) ?_

def execLaneUp_mask : Nat := 0x6020000000000000800000000005000000000000000000804800000000000000002020000000022008800
theorem execLaneUp_frame {s nx : State} {n : LaneId} (e : execLaneUp n s = .next nx) : Frame execLaneUp_mask s nx := by
  refine State.run_frame rfl (fun W s0 s hW h => ?_) e
  have b146 := hW.bit (n := 146) (by decide)
  have b143 := hW.bit (n := 143) (by decide)
  have b155 := hW.bit (n := 155) (by decide)
  have w3 := Within.trans (a := State.setLane_mask) rfl hW
  have w4 := Within.trans (a := State.checkBooted_mask) rfl hW
  have w5 := Within.trans (a := State.raise_mask) rfl hW
  repeat' first
    | intro _
    | with_reducible assumption
    | (extract_lets +onlyGivenNames x; refine Frame.cut (W := W) (s0 := s0) x ?_ ?_; unfold x; clear x; rotate_left; clear_value x; revert x; intro _ _)
    | (extract_lets +onlyGivenNames x; clear_value x; revert x; intro _)
    | with_reducible refine State.inc_frame (F.LANE_STATUS_trainings_kind _) b146 ?_
    | with_reducible refine State.set_frame (F.LANE_STATUS_state_kind _) b146 ?_
    | with_reducible refine State.setBit_frame (F.LANE_UP_MASK_up_kind) b143 ?_
    | with_reducible refine State.set_frame (F.LANE_STREAM_state_kind _ _) b155 ?_
    | with_reducible refine State.setLane_frame w3 ?_
    | with_reducible refine State.each_frame ?_ ?_
    | with_reducible refine State.checkBooted_frame w4 ?_
    | with_reducible refine State.raise_frame w5 ?_
    | with_reducible refine Frame.ite ?_ ?_
    | with_reducible refine Frame.foldl ?_ _ _ ?_
    | split
    | with_reducible refine Frame.of_snd (by with_reducible assumption) ?_
    | with_reducible refine Frame.of_fst (by with_reducible assumption) ?_

def execLaneTrainTimeout_mask : Nat := 0x6020000000000000800000000005000000000000000000004000000000000000002020000000022008020
theorem execLaneTrainTimeout_frame {s nx : State} {n : LaneId} (e : execLaneTrainTimeout n s = .next nx) : Frame execLaneTrainTimeout_mask s nx := by
  refine State.run_frame rfl (fun W s0 s hW h => ?_) e
  have w0 := Within.trans (a := State.trainFail_mask) rfl hW
  repeat' first
    | intro _
    | with_reducible assumption
    | (extract_lets +onlyGivenNames x; refine Frame.cut (W := W) (s0 := s0) x ?_ ?_; unfold x; clear x; rotate_left; clear_value x; revert x; intro _ _)
    | (extract_lets +onlyGivenNames x; clear_value x; revert x; intro _)
    | with_reducible refine State.trainFail_frame w0 ?_
    | with_reducible refine Frame.ite ?_ ?_
    | with_reducible refine Frame.foldl ?_ _ _ ?_
    | split
    | with_reducible refine Frame.of_snd (by with_reducible assumption) ?_
    | with_reducible refine Frame.of_fst (by with_reducible assumption) ?_

def execLaneTrainRetry_mask : Nat := 0x40800000000005000000000000000000904800000000000000000000000000001088800
theorem execLaneTrainRetry_frame {s nx : State} {n : LaneId} (e : execLaneTrainRetry n s = .next nx) : Frame execLaneTrainRetry_mask s nx := by
  refine State.run_frame rfl (fun W s0 s hW h => ?_) e
  have w0 := Within.trans (a := State.train_mask) rfl hW
  have w1 := Within.trans (a := State.setLane_mask) rfl hW
  repeat' first
    | intro _
    | with_reducible assumption
    | (extract_lets +onlyGivenNames x; refine Frame.cut (W := W) (s0 := s0) x ?_ ?_; unfold x; clear x; rotate_left; clear_value x; revert x; intro _ _)
    | (extract_lets +onlyGivenNames x; clear_value x; revert x; intro _)
    | with_reducible refine State.train_frame w0 ?_
    | with_reducible refine State.setLane_frame w1 ?_
    | with_reducible refine Frame.ite ?_ ?_
    | with_reducible refine Frame.foldl ?_ _ _ ?_
    | split
    | with_reducible refine Frame.of_snd (by with_reducible assumption) ?_
    | with_reducible refine Frame.of_fst (by with_reducible assumption) ?_

def State.laneDown_mask : Nat := 0x6020000000000040000000000000000000000000000000904800000000000000000000000000023080800
theorem State.laneDown_frame {W : Nat} {s0 s : State} {n : Nat} {invalid : Nat} (hW : Within State.laneDown_mask W) (h : Frame W s0 s) :
    Frame W s0 (State.laneDown s n invalid) := by
  have w0 := Within.trans (a := State.train_mask) rfl hW
  have w1 := Within.trans (a := State.raise_mask) rfl hW
  unfold State.laneDown
  repeat' first
    | intro _
    | with_reducible assumption
    | (extract_lets +onlyGivenNames x; refine Frame.cut (W := W) (s0 := s0) x ?_ ?_; unfold x; clear x; rotate_left; clear_value x; revert x; intro _ _)
    | (extract_lets +onlyGivenNames x; clear_value x; revert x; intro _)
    | with_reducible refine State.train_frame w0 ?_
    | with_reducible refine State.raise_frame w1 ?_
    | with_reducible refine Frame.ite ?_ ?_
    | with_reducible refine Frame.foldl ?_ _ _ ?_
    | split
    | with_reducible refine Frame.of_snd (by with_reducible assumption) ?_
    | with_reducible refine Frame.of_fst (by with_reducible assumption) ?_
    | with_reducible refine Frame.snd_mk ?_
    | with_reducible refine Frame.fst_mk ?_

def execLaneDown_mask : Nat := 0x6020000000000040800000000005000000000000000000904800000000000000000000000000023088800
theorem execLaneDown_frame {s nx : State} {n : LaneId} (e : execLaneDown n s = .next nx) : Frame execLaneDown_mask s nx := by
  refine State.run_frame rfl (fun W s0 s hW h => ?_) e
  have w0 := Within.trans (a := State.laneDown_mask) rfl hW
  repeat' first
    | intro _
    | with_reducible assumption
    | (extract_lets +onlyGivenNames x; refine Frame.cut (W := W) (s0 := s0) x ?_ ?_; unfold x; clear x; rotate_left; clear_value x; revert x; intro _ _)
    | (extract_lets +onlyGivenNames x; clear_value x; revert x; intro _)
    | with_reducible refine State.laneDown_frame w0 ?_
    | with_reducible refine Frame.ite ?_ ?_
    | with_reducible refine Frame.foldl ?_ _ _ ?_
    | split
    | with_reducible refine Frame.of_snd (by with_reducible assumption) ?_
    | with_reducible refine Frame.of_fst (by with_reducible assumption) ?_

def execRetrainWaitExpired_mask : Nat := 0x40800000000005000000000000000000904800000000000000000000000000001088800
theorem execRetrainWaitExpired_frame {s nx : State} {n : LaneId} (e : execRetrainWaitExpired n s = .next nx) : Frame execRetrainWaitExpired_mask s nx := by
  refine State.run_frame rfl (fun W s0 s hW h => ?_) e
  have w0 := Within.trans (a := State.train_mask) rfl hW
  repeat' first
    | intro _
    | with_reducible assumption
    | (extract_lets +onlyGivenNames x; refine Frame.cut (W := W) (s0 := s0) x ?_ ?_; unfold x; clear x; rotate_left; clear_value x; revert x; intro _ _)
    | (extract_lets +onlyGivenNames x; clear_value x; revert x; intro _)
    | with_reducible refine State.train_frame w0 ?_
    | with_reducible refine Frame.ite ?_ ?_
    | with_reducible refine Frame.foldl ?_ _ _ ?_
    | split
    | with_reducible refine Frame.of_snd (by with_reducible assumption) ?_
    | with_reducible refine Frame.of_fst (by with_reducible assumption) ?_

def State.nakLine_mask : Nat := 0x860000000000000000000000000000001000800
theorem State.nakLine_frame {W : Nat} {s0 s : State} {n : Nat} {k : Nat} {seq : Nat} {cause : Nat} (hW : Within State.nakLine_mask W) (h : Frame W s0 s) :
    Frame W s0 (State.nakLine s n k seq cause) := by
  have b155 := hW.bit (n := 155) (by decide)
  have w1 := Within.trans (a := State.draw_mask) rfl hW
  have w2 := Within.trans (a := State.sendResync_mask) rfl hW
  have w3 := Within.trans (a := State.setStream_mask) rfl hW
  have w4 := Within.trans (a := State.sendNak_mask) rfl hW
  unfold State.nakLine
  repeat' first
    | intro _
    | with_reducible assumption
    | (extract_lets +onlyGivenNames x; refine Frame.cut (W := W) (s0 := s0) x ?_ ?_; unfold x; clear x; rotate_left; clear_value x; revert x; intro _ _)
    | (extract_lets +onlyGivenNames x; clear_value x; revert x; intro _)
    | with_reducible refine State.set_frame (F.LANE_STREAM_next_seq_kind _ _) b155 ?_
    | with_reducible refine State.set_frame (F.LANE_STREAM_state_kind _ _) b155 ?_
    | with_reducible refine State.draw_snd w1 ?_
    | with_reducible refine State.sendResync_frame w2 ?_
    | with_reducible refine State.setStream_frame w3 ?_
    | with_reducible refine State.sendNak_frame w4 ?_
    | with_reducible refine Frame.ite ?_ ?_
    | with_reducible refine Frame.foldl ?_ _ _ ?_
    | split
    | with_reducible refine State.draw_frame (by with_reducible assumption) w1 ?_
    | with_reducible refine Frame.of_snd (by with_reducible assumption) ?_
    | with_reducible refine Frame.of_fst (by with_reducible assumption) ?_
    | with_reducible refine Frame.snd_mk ?_
    | with_reducible refine Frame.fst_mk ?_

def State.violation_mask : Nat := 0x60200000000000000000000000000000000000000000008e0000000000000000000000000000023000800
theorem State.violation_frame {W : Nat} {s0 s : State} {n : Nat} {k : Nat} {cause : Nat} (hW : Within State.violation_mask W) (h : Frame W s0 s) :
    Frame W s0 (State.violation s n k cause) := by
  have b151 := hW.bit (n := 151) (by decide)
  have w0 := Within.trans (a := State.raise_mask) rfl hW
  have w1 := Within.trans (a := State.nakLine_mask) rfl hW
  unfold State.violation
  repeat' first
    | intro _
    | with_reducible assumption
    | (extract_lets +onlyGivenNames x; refine Frame.cut (W := W) (s0 := s0) x ?_ ?_; unfold x; clear x; rotate_left; clear_value x; revert x; intro _ _)
    | (extract_lets +onlyGivenNames x; clear_value x; revert x; intro _)
    | with_reducible refine State.inc_frame (F.LANE_VIOL_count_kind _) b151 ?_
    | with_reducible refine State.raise_frame w0 ?_
    | with_reducible refine State.nakLine_frame w1 ?_
    | with_reducible refine Frame.ite ?_ ?_
    | with_reducible refine Frame.foldl ?_ _ _ ?_
    | split
    | with_reducible refine Frame.of_snd (by with_reducible assumption) ?_
    | with_reducible refine Frame.of_fst (by with_reducible assumption) ?_
    | with_reducible refine Frame.snd_mk ?_
    | with_reducible refine Frame.fst_mk ?_

def State.unknownStream_mask : Nat := 0x6020000000000000000000000000000000000000000000080000000000000000000000000000023000800
theorem State.unknownStream_frame {W : Nat} {s0 s : State} {n : Nat} {k : Nat} (hW : Within State.unknownStream_mask W) (h : Frame W s0 s) :
    Frame W s0 (State.unknownStream s n k) := by
  have b151 := hW.bit (n := 151) (by decide)
  have w1 := Within.trans (a := State.raise_mask) rfl hW
  have w2 := Within.trans (a := State.draw_mask) rfl hW
  have w3 := Within.trans (a := State.sendBack_mask) rfl hW
  have w4 := Within.trans (a := State.setLane_mask) rfl hW
  unfold State.unknownStream
  repeat' first
    | intro _
    | with_reducible assumption
    | (extract_lets +onlyGivenNames x; refine Frame.cut (W := W) (s0 := s0) x ?_ ?_; unfold x; clear x; rotate_left; clear_value x; revert x; intro _ _)
    | (extract_lets +onlyGivenNames x; clear_value x; revert x; intro _)
    | with_reducible refine State.inc_frame (F.LANE_VIOL_count_kind _) b151 ?_
    | with_reducible refine State.raise_frame w1 ?_
    | with_reducible refine State.draw_snd w2 ?_
    | with_reducible refine State.sendBack_frame w3 ?_
    | with_reducible refine State.setLane_frame w4 ?_
    | with_reducible refine Frame.ite ?_ ?_
    | with_reducible refine Frame.foldl ?_ _ _ ?_
    | split
    | with_reducible refine State.draw_frame (by with_reducible assumption) w2 ?_
    | with_reducible refine Frame.of_snd (by with_reducible assumption) ?_
    | with_reducible refine Frame.of_fst (by with_reducible assumption) ?_
    | with_reducible refine Frame.snd_mk ?_
    | with_reducible refine Frame.fst_mk ?_

def State.packet_mask : Nat := 0x60200000000000000000000000000000000000000000008f0000000000000004000000000000023000800
theorem State.packet_frame {W : Nat} {s0 s : State} {n : Nat} {kind : Nat} {p : Packet} {f : State → State} (hW : Within State.packet_mask W) (hf_f : ∀ s, Frame W s0 s → Frame W s0 (f s)) (h : Frame W s0 s) :
    Frame W s0 (State.packet s n kind p f) := by
  have b148 := hW.bit (n := 148) (by decide)
  have w1 := Within.trans (a := State.violation_mask) rfl hW
  have w2 := Within.trans (a := State.bridgeFull_mask) rfl hW
  have w3 := Within.trans (a := State.unknownStream_mask) rfl hW
  unfold State.packet
  repeat' first
    | intro _
    | with_reducible assumption
    | (extract_lets +onlyGivenNames x; refine Frame.cut (W := W) (s0 := s0) x ?_ ?_; unfold x; clear x; rotate_left; clear_value x; revert x; intro _ _)
    | (extract_lets +onlyGivenNames x; clear_value x; revert x; intro _)
    | with_reducible refine State.inc_frame (F.LANE_CRC_ERR_count_kind _) b148 ?_
    | with_reducible refine State.violation_frame w1 ?_
    | with_reducible refine State.bridgeFull_frame w2 ?_
    | with_reducible refine State.unknownStream_frame w3 ?_
    | with_reducible refine Frame.ite ?_ ?_
    | with_reducible apply hf_f
    | with_reducible refine Frame.foldl ?_ _ _ ?_
    | split
    | with_reducible refine Frame.of_snd (by with_reducible assumption) ?_
    | with_reducible refine Frame.of_fst (by with_reducible assumption) ?_
    | with_reducible refine Frame.snd_mk ?_
    | with_reducible refine Frame.fst_mk ?_

def State.openLine_mask : Nat := 0x60200000000000000000000000000000000000000000008e0000000000000000000000000000023000800
theorem State.openLine_frame {W : Nat} {s0 s : State} {n : Nat} {k : Nat} {p : Packet} (hW : Within State.openLine_mask W) (h : Frame W s0 s) :
    Frame W s0 (State.openLine s n k p) := by
  have b155 := hW.bit (n := 155) (by decide)
  have w0 := Within.trans (a := State.setStream_mask) rfl hW
  have w1 := Within.trans (a := State.violation_mask) rfl hW
  unfold State.openLine
  repeat' first
    | intro _
    | with_reducible assumption
    | (extract_lets +onlyGivenNames x; refine Frame.cut (W := W) (s0 := s0) x ?_ ?_; unfold x; clear x; rotate_left; clear_value x; revert x; intro _ _)
    | (extract_lets +onlyGivenNames x; clear_value x; revert x; intro _)
    | with_reducible refine State.set_frame (F.LANE_STREAM_state_kind _ _) b155 ?_
    | with_reducible refine State.set_frame (F.LANE_STREAM_next_seq_kind _ _) b155 ?_
    | with_reducible refine State.setStream_frame w0 ?_
    | with_reducible refine State.violation_frame w1 ?_
    | with_reducible refine Frame.ite ?_ ?_
    | with_reducible refine Frame.foldl ?_ _ _ ?_
    | split
    | with_reducible refine Frame.of_snd (by with_reducible assumption) ?_
    | with_reducible refine Frame.of_fst (by with_reducible assumption) ?_
    | with_reducible refine Frame.snd_mk ?_
    | with_reducible refine Frame.fst_mk ?_

def State.gap_mask : Nat := 0x6020000000000000000000000000000000000000000038040000000000000000000000000000023001000
theorem State.gap_frame {W : Nat} {s0 s : State} {n : Nat} {k : Nat} {first : Nat} {seq : Nat} {cause : Nat} (hW : Within State.gap_mask W) (h : Frame W s0 s) :
    Frame W s0 (State.gap s n k first seq cause) := by
  have w0 := Within.trans (a := State.raise_mask) rfl hW
  have w1 := Within.trans (a := State.handLostRun_mask) rfl hW
  unfold State.gap
  repeat' first
    | intro _
    | with_reducible assumption
    | (extract_lets +onlyGivenNames x; refine Frame.cut (W := W) (s0 := s0) x ?_ ?_; unfold x; clear x; rotate_left; clear_value x; revert x; intro _ _)
    | (extract_lets +onlyGivenNames x; clear_value x; revert x; intro _)
    | with_reducible refine State.raise_frame w0 ?_
    | with_reducible refine State.handLostRun_frame w1 ?_
    | with_reducible refine Frame.ite ?_ ?_
    | with_reducible refine Frame.foldl ?_ _ _ ?_
    | split
    | with_reducible refine Frame.of_snd (by with_reducible assumption) ?_
    | with_reducible refine Frame.of_fst (by with_reducible assumption) ?_
    | with_reducible refine Frame.snd_mk ?_
    | with_reducible refine Frame.fst_mk ?_

def State.lineStart_mask : Nat := 0x60200000000000000000000000000000000000000000388e0000000000000000000000000000023001800
theorem State.lineStart_frame {W : Nat} {s0 s : State} {n : Nat} {k : Nat} {p : Packet} (hW : Within State.lineStart_mask W) (h : Frame W s0 s) :
    Frame W s0 (State.lineStart s n k p) := by
  have w0 := Within.trans (a := State.setStream_mask) rfl hW
  have w1 := Within.trans (a := State.violation_mask) rfl hW
  have w2 := Within.trans (a := State.openLine_mask) rfl hW
  have w3 := Within.trans (a := State.handLostRun_mask) rfl hW
  have w4 := Within.trans (a := State.gap_mask) rfl hW
  unfold State.lineStart
  repeat' first
    | intro _
    | with_reducible assumption
    | (extract_lets +onlyGivenNames x; refine Frame.cut (W := W) (s0 := s0) x ?_ ?_; unfold x; clear x; rotate_left; clear_value x; revert x; intro _ _)
    | (extract_lets +onlyGivenNames x; clear_value x; revert x; intro _)
    | with_reducible refine State.setStream_frame w0 ?_
    | with_reducible refine State.violation_frame w1 ?_
    | with_reducible refine State.openLine_frame w2 ?_
    | with_reducible refine State.handLostRun_frame w3 ?_
    | with_reducible refine State.gap_frame w4 ?_
    | with_reducible refine Frame.ite ?_ ?_
    | with_reducible refine Frame.foldl ?_ _ _ ?_
    | split
    | with_reducible refine Frame.of_snd (by with_reducible assumption) ?_
    | with_reducible refine Frame.of_fst (by with_reducible assumption) ?_
    | with_reducible refine Frame.snd_mk ?_
    | with_reducible refine Frame.fst_mk ?_

def execLineStart_mask : Nat := 0x60200000000000008000000000050000000000000000388f0000000000000004000000000000023009800
theorem execLineStart_frame {s nx : State} {n : LaneId} {p : Packet} (e : execLineStart n p s = .next nx) : Frame execLineStart_mask s nx := by
  refine State.run_frame rfl (fun W s0 s hW h => ?_) e
  have w0 := Within.trans (a := State.packet_mask) rfl hW
  have w1 := Within.trans (a := State.lineStart_mask) rfl hW
  repeat' first
    | intro _
    | with_reducible assumption
    | (extract_lets +onlyGivenNames x; refine Frame.cut (W := W) (s0 := s0) x ?_ ?_; unfold x; clear x; rotate_left; clear_value x; revert x; intro _ _)
    | (extract_lets +onlyGivenNames x; clear_value x; revert x; intro _)
    | with_reducible refine State.packet_frame w0 ?_ ?_
    | with_reducible refine State.lineStart_frame w1 ?_
    | with_reducible refine Frame.ite ?_ ?_
    | with_reducible refine Frame.foldl ?_ _ _ ?_
    | split
    | with_reducible refine Frame.of_snd (by with_reducible assumption) ?_
    | with_reducible refine Frame.of_fst (by with_reducible assumption) ?_

def execPixels_mask : Nat := 0x60200000000000008000000000050000000000000000008f0000000000000004000000000000023008800
theorem execPixels_frame {s nx : State} {n : LaneId} {p : Packet} (e : execPixels n p s = .next nx) : Frame execPixels_mask s nx := by
  refine State.run_frame rfl (fun W s0 s hW h => ?_) e
  have w0 := Within.trans (a := State.packet_mask) rfl hW
  have w1 := Within.trans (a := State.violation_mask) rfl hW
  have w2 := Within.trans (a := State.setStream_mask) rfl hW
  repeat' first
    | intro _
    | with_reducible assumption
    | (extract_lets +onlyGivenNames x; refine Frame.cut (W := W) (s0 := s0) x ?_ ?_; unfold x; clear x; rotate_left; clear_value x; revert x; intro _ _)
    | (extract_lets +onlyGivenNames x; clear_value x; revert x; intro _)
    | with_reducible refine State.packet_frame w0 ?_ ?_
    | with_reducible refine State.violation_frame w1 ?_
    | with_reducible refine State.setStream_frame w2 ?_
    | with_reducible refine Frame.ite ?_ ?_
    | with_reducible refine Frame.foldl ?_ _ _ ?_
    | split
    | with_reducible refine Frame.of_snd (by with_reducible assumption) ?_
    | with_reducible refine Frame.of_fst (by with_reducible assumption) ?_
    | with_reducible refine Frame.snd_mk ?_
    | with_reducible refine Frame.fst_mk ?_

def State.retrainCheck_mask : Nat := 0x40000000000000000000000000000000904800000000000000000000000000001080800
theorem State.retrainCheck_frame {W : Nat} {s0 s : State} {n : Nat} (hW : Within State.retrainCheck_mask W) (h : Frame W s0 s) :
    Frame W s0 (State.retrainCheck s n) := by
  have w0 := Within.trans (a := State.train_mask) rfl hW
  unfold State.retrainCheck
  repeat' first
    | intro _
    | with_reducible assumption
    | (extract_lets +onlyGivenNames x; refine Frame.cut (W := W) (s0 := s0) x ?_ ?_; unfold x; clear x; rotate_left; clear_value x; revert x; intro _ _)
    | (extract_lets +onlyGivenNames x; clear_value x; revert x; intro _)
    | with_reducible refine State.train_frame w0 ?_
    | with_reducible refine Frame.ite ?_ ?_
    | with_reducible refine Frame.foldl ?_ _ _ ?_
    | split
    | with_reducible refine Frame.of_snd (by with_reducible assumption) ?_
    | with_reducible refine Frame.of_fst (by with_reducible assumption) ?_
    | with_reducible refine Frame.snd_mk ?_
    | with_reducible refine Frame.fst_mk ?_

def State.acceptLine_mask : Nat := 0x6020000000000000000000000000000000000000000038a60000000000000000000000000000023001800
theorem State.acceptLine_frame {W : Nat} {s0 s : State} {n : Nat} {k : Nat} {l : OpenLine} {status : Nat} (hW : Within State.acceptLine_mask W) (h : Frame W s0 s) :
    Frame W s0 (State.acceptLine s n k l status) := by
  have b155 := hW.bit (n := 155) (by decide)
  have b153 := hW.bit (n := 153) (by decide)
  have b149 := hW.bit (n := 149) (by decide)
  have w3 := Within.trans (a := State.setStream_mask) rfl hW
  have w4 := Within.trans (a := State.handLost_mask) rfl hW
  have w5 := Within.trans (a := State.handOn_mask) rfl hW
  unfold State.acceptLine
  repeat' first
    | intro _
    | with_reducible assumption
    | (extract_lets +onlyGivenNames x; refine Frame.cut (W := W) (s0 := s0) x ?_ ?_; unfold x; clear x; rotate_left; clear_value x; revert x; intro _ _)
    | (extract_lets +onlyGivenNames x; clear_value x; revert x; intro _)
    | with_reducible refine State.set_frame (F.LANE_STREAM_next_seq_kind _ _) b155 ?_
    | with_reducible refine State.inc_frame (F.LANE_LINES_count_kind _) b153 ?_
    | with_reducible refine State.inc_frame (F.LANE_NAK_resent_kind _) b149 ?_
    | with_reducible refine State.setStream_frame w3 ?_
    | with_reducible refine State.handLost_frame w4 ?_
    | with_reducible refine State.handOn_frame w5 ?_
    | with_reducible refine Frame.ite ?_ ?_
    | with_reducible refine Frame.foldl ?_ _ _ ?_
    | split
    | with_reducible refine Frame.of_snd (by with_reducible assumption) ?_
    | with_reducible refine Frame.of_fst (by with_reducible assumption) ?_
    | with_reducible refine Frame.snd_mk ?_
    | with_reducible refine Frame.fst_mk ?_

def execLineEnd_mask : Nat := 0x6020000000000040800000000005000000000000000038bf4800000000000004000000000000023089800
theorem execLineEnd_frame {s nx : State} {n : LaneId} {p : Packet} (e : execLineEnd n p s = .next nx) : Frame execLineEnd_mask s nx := by
  refine State.run_frame rfl (fun W s0 s hW h => ?_) e
  have w0 := Within.trans (a := State.packet_mask) rfl hW
  have w1 := Within.trans (a := State.violation_mask) rfl hW
  have w2 := Within.trans (a := State.acceptLine_mask) rfl hW
  have w3 := Within.trans (a := State.retrainCheck_mask) rfl hW
  repeat' first
    | intro _
    | with_reducible assumption
    | (extract_lets +onlyGivenNames x; refine Frame.cut (W := W) (s0 := s0) x ?_ ?_; unfold x; clear x; rotate_left; clear_value x; revert x; intro _ _)
    | (extract_lets +onlyGivenNames x; clear_value x; revert x; intro _)
    | with_reducible refine State.packet_frame w0 ?_ ?_
    | with_reducible refine State.violation_frame w1 ?_
    | with_reducible refine State.acceptLine_frame w2 ?_
    | with_reducible refine State.retrainCheck_frame w3 ?_
    | with_reducible refine Frame.ite ?_ ?_
    | with_reducible refine Frame.foldl ?_ _ _ ?_
    | split
    | with_reducible refine Frame.of_snd (by with_reducible assumption) ?_
    | with_reducible refine Frame.of_fst (by with_reducible assumption) ?_
    | with_reducible refine Frame.snd_mk ?_
    | with_reducible refine Frame.fst_mk ?_

def execCtrlResponse_mask : Nat := 0x60200000000000008000000000050000000000000000008f0000000000000004000000000000023008800
theorem execCtrlResponse_frame {s nx : State} {n : LaneId} {p : Packet} (e : execCtrlResponse n p s = .next nx) : Frame execCtrlResponse_mask s nx := by
  refine State.run_frame rfl (fun W s0 s hW h => ?_) e
  have w0 := Within.trans (a := State.packet_mask) rfl hW
  have w1 := Within.trans (a := State.setLane_mask) rfl hW
  repeat' first
    | intro _
    | with_reducible assumption
    | (extract_lets +onlyGivenNames x; refine Frame.cut (W := W) (s0 := s0) x ?_ ?_; unfold x; clear x; rotate_left; clear_value x; revert x; intro _ _)
    | (extract_lets +onlyGivenNames x; clear_value x; revert x; intro _)
    | with_reducible refine State.packet_frame w0 ?_ ?_
    | with_reducible refine State.setLane_frame w1 ?_
    | with_reducible refine Frame.ite ?_ ?_
    | with_reducible refine Frame.foldl ?_ _ _ ?_
    | split
    | with_reducible refine Frame.of_snd (by with_reducible assumption) ?_
    | with_reducible refine Frame.of_fst (by with_reducible assumption) ?_

def execHeadNak_mask : Nat := 0x60200000000000008000000000050000000000000000008f0000000000000004000000000000023008800
theorem execHeadNak_frame {s nx : State} {n : LaneId} {p : Packet} (e : execHeadNak n p s = .next nx) : Frame execHeadNak_mask s nx := by
  refine State.run_frame rfl (fun W s0 s hW h => ?_) e
  have w0 := Within.trans (a := State.packet_mask) rfl hW
  have w1 := Within.trans (a := State.violation_mask) rfl hW
  have w2 := Within.trans (a := State.setStream_mask) rfl hW
  repeat' first
    | intro _
    | with_reducible assumption
    | (extract_lets +onlyGivenNames x; refine Frame.cut (W := W) (s0 := s0) x ?_ ?_; unfold x; clear x; rotate_left; clear_value x; revert x; intro _ _)
    | (extract_lets +onlyGivenNames x; clear_value x; revert x; intro _)
    | with_reducible refine State.packet_frame w0 ?_ ?_
    | with_reducible refine State.violation_frame w1 ?_
    | with_reducible refine State.setStream_frame w2 ?_
    | with_reducible refine State.each_frame ?_ ?_
    | with_reducible refine Frame.ite ?_ ?_
    | with_reducible refine Frame.foldl ?_ _ _ ?_
    | split
    | with_reducible refine Frame.of_snd (by with_reducible assumption) ?_
    | with_reducible refine Frame.of_fst (by with_reducible assumption) ?_
    | with_reducible refine Frame.snd_mk ?_
    | with_reducible refine Frame.fst_mk ?_

def execHeadResync_mask : Nat := 0x60200000000000008000000000050000000000000000008f0000000000000004000000000000023008800
theorem execHeadResync_frame {s nx : State} {n : LaneId} {p : Packet} (e : execHeadResync n p s = .next nx) : Frame execHeadResync_mask s nx := by
  refine State.run_frame rfl (fun W s0 s hW h => ?_) e
  have b151 := hW.bit (n := 151) (by decide)
  have b150 := hW.bit (n := 150) (by decide)
  have w2 := Within.trans (a := State.packet_mask) rfl hW
  have w3 := Within.trans (a := State.violation_mask) rfl hW
  have w4 := Within.trans (a := State.setLane_mask) rfl hW
  have w5 := Within.trans (a := State.raise_mask) rfl hW
  have w6 := Within.trans (a := State.dropStream_mask) rfl hW
  repeat' first
    | intro _
    | with_reducible assumption
    | (extract_lets +onlyGivenNames x; refine Frame.cut (W := W) (s0 := s0) x ?_ ?_; unfold x; clear x; rotate_left; clear_value x; revert x; intro _ _)
    | (extract_lets +onlyGivenNames x; clear_value x; revert x; intro _)
    | with_reducible refine State.inc_frame (F.LANE_VIOL_count_kind _) b151 ?_
    | with_reducible refine State.inc_frame (F.LANE_LOST_resyncs_kind _) b150 ?_
    | with_reducible refine State.packet_frame w2 ?_ ?_
    | with_reducible refine State.violation_frame w3 ?_
    | with_reducible refine State.setLane_frame w4 ?_
    | with_reducible refine State.raise_frame w5 ?_
    | with_reducible refine State.dropStream_frame w6 ?_
    | with_reducible refine Frame.ite ?_ ?_
    | with_reducible refine Frame.foldl ?_ _ _ ?_
    | split
    | with_reducible refine Frame.of_snd (by with_reducible assumption) ?_
    | with_reducible refine Frame.of_fst (by with_reducible assumption) ?_

def execNakTimeout_mask : Nat := 0x800000000005000000000000000000840000000000000000000000000000000008800
theorem execNakTimeout_frame {s nx : State} {n : LaneId} {k : Fin 8} (e : execNakTimeout n k s = .next nx) : Frame execNakTimeout_mask s nx := by
  refine State.run_frame rfl (fun W s0 s hW h => ?_) e
  have w0 := Within.trans (a := State.sendResync_mask) rfl hW
  repeat' first
    | intro _
    | with_reducible assumption
    | (extract_lets +onlyGivenNames x; refine Frame.cut (W := W) (s0 := s0) x ?_ ?_; unfold x; clear x; rotate_left; clear_value x; revert x; intro _ _)
    | (extract_lets +onlyGivenNames x; clear_value x; revert x; intro _)
    | with_reducible refine State.sendResync_frame w0 ?_
    | with_reducible refine Frame.ite ?_ ?_
    | with_reducible refine Frame.foldl ?_ _ _ ?_
    | split
    | with_reducible refine Frame.of_snd (by with_reducible assumption) ?_
    | with_reducible refine Frame.of_fst (by with_reducible assumption) ?_

def execLaneCtrlTimeout_mask : Nat := 0x6020000000000000800000000005000000000000000000080000000000000000000000000000022008000
theorem execLaneCtrlTimeout_frame {s nx : State} {n : LaneId} {r : BitVec 16} (e : execLaneCtrlTimeout n r s = .next nx) : Frame execLaneCtrlTimeout_mask s nx := by
  refine State.run_frame rfl (fun W s0 s hW h => ?_) e
  have b151 := hW.bit (n := 151) (by decide)
  have w0 := Within.trans (a := State.raise_mask) rfl hW
  repeat' first
    | intro _
    | with_reducible assumption
    | (extract_lets +onlyGivenNames x; refine Frame.cut (W := W) (s0 := s0) x ?_ ?_; unfold x; clear x; rotate_left; clear_value x; revert x; intro _ _)
    | (extract_lets +onlyGivenNames x; clear_value x; revert x; intro _)
    | with_reducible refine State.inc_frame (F.LANE_VIOL_count_kind _) b151 ?_
    | with_reducible refine State.raise_frame w0 ?_
    | with_reducible refine Frame.ite ?_ ?_
    | with_reducible refine Frame.foldl ?_ _ _ ?_
    | split
    | with_reducible refine Frame.of_snd (by with_reducible assumption) ?_
    | with_reducible refine Frame.of_fst (by with_reducible assumption) ?_
    | with_reducible refine Frame.snd_mk ?_
    | with_reducible refine Frame.fst_mk ?_

def State.handMark_mask : Nat := 0x1000
theorem State.handMark_frame {W : Nat} {s0 s : State} {n : Nat} {k : Nat} {frame : Nat} {opens : Bool} (hW : Within State.handMark_mask W) (h : Frame W s0 s) :
    Frame W s0 (State.handMark s n k frame opens) := by
  have w0 := Within.trans (a := State.setIspChan_mask) rfl hW
  unfold State.handMark
  repeat' first
    | intro _
    | with_reducible assumption
    | (extract_lets +onlyGivenNames x; refine Frame.cut (W := W) (s0 := s0) x ?_ ?_; unfold x; clear x; rotate_left; clear_value x; revert x; intro _ _)
    | (extract_lets +onlyGivenNames x; clear_value x; revert x; intro _)
    | with_reducible refine State.setIspChan_frame w0 ?_
    | with_reducible refine Frame.ite ?_ ?_
    | with_reducible refine Frame.foldl ?_ _ _ ?_
    | split
    | with_reducible refine Frame.of_snd (by with_reducible assumption) ?_
    | with_reducible refine Frame.of_fst (by with_reducible assumption) ?_
    | with_reducible refine Frame.snd_mk ?_
    | with_reducible refine Frame.fst_mk ?_

end Sys2Proof.Machine
end

