-- ==== Sys2Proof/Laws/Results.lean ====
section
/-! SUPPORT. What the operations of Machine/Results.lean change: each differs from its argument in the areas of its mask alone. -/

set_option linter.all false

namespace Sys2Proof.Machine

def State.setClock_mask : Nat := 0x800000
theorem State.setClock_frame {W : Nat} {s0 s : State} {t : Nat} (hW : Within State.setClock_mask W) (h : Frame W s0 s) :
    Frame W s0 (State.setClock s t) := by
  have b23 := hW.bit (n := 23) (by decide)
  unfold State.setClock
  repeat' first
    | intro _
    | with_reducible assumption
    | (extract_lets +onlyGivenNames x; refine Frame.cut (W := W) (s0 := s0) x ?_ ?_; unfold x; clear x; rotate_left; clear_value x; revert x; intro _ _)
    | (extract_lets +onlyGivenNames x; clear_value x; revert x; intro _)
    | with_reducible refine Frame.ite ?_ ?_
    | with_reducible refine Frame.foldl ?_ _ _ ?_
    | split
    | with_reducible refine Frame.of_snd (by with_reducible assumption) ?_
    | with_reducible refine Frame.of_fst (by with_reducible assumption) ?_
    | with_reducible refine Frame.snd_mk ?_
    | with_reducible refine Frame.fst_mk ?_
    | with_reducible refine Frame.clk_upd b23 ?_

def State.drawDigest_mask : Nat := 0x1000000
theorem State.drawDigest_snd {W : Nat} {s0 s : State} (hW : Within State.drawDigest_mask W) (h : Frame W s0 s) :
    Frame W s0 (State.drawDigest s).2 := by
  have b24 := hW.bit (n := 24) (by decide)
  have key : Frame.Snd W s0 (State.drawDigest s) := by
    unfold State.drawDigest
    repeat' first
      | intro _
      | with_reducible assumption
      | (extract_lets +onlyGivenNames x; refine Frame.cut (W := W) (s0 := s0) x ?_ ?_; unfold x; clear x; rotate_left; clear_value x; revert x; intro _ _)
      | (extract_lets +onlyGivenNames x; clear_value x; revert x; intro _)
      | with_reducible refine Frame.snd_mk ?_
      | with_reducible refine Frame.ite ?_ ?_
      | with_reducible refine Frame.foldl ?_ _ _ ?_
      | split
      | with_reducible refine Frame.of_snd (by with_reducible assumption) ?_
      | with_reducible refine Frame.of_fst (by with_reducible assumption) ?_
      | with_reducible refine Frame.snd_mk ?_
      | with_reducible refine Frame.fst_mk ?_
      | with_reducible refine Frame.foldl_snd ?_ _ _ ?_
      | with_reducible refine Frame.foldl_fst ?_ _ _ ?_
      | with_reducible refine Frame.foldr_snd ?_ _ _ ?_
      | with_reducible refine Frame.Snd.mk ?_
      | with_reducible refine Frame.Fst.mk ?_
      | dsimp only
      | with_reducible refine Frame.free_upd b24 ?_
  exact key.out
theorem State.drawDigest_frame {W : Nat} {s0 s : State} {r0 : BitVec 256} {t : State} (e : State.drawDigest s = (r0, t)) (hW : Within State.drawDigest_mask W) (h : Frame W s0 s) :
    Frame W s0 t := by
  have key := State.drawDigest_snd hW h
  rw [e] at key; exact key

def State.digestRecord_mask : Nat := 0x400000
theorem State.digestRecord_frame {W : Nat} {s0 s : State} {p : Nat} {g : Option ProgramSec} {resNum : Nat} {subject : Nat} {input : BitVec 256} {d : BitVec 256} {mask : Nat} {legV : Nat} {legC : Nat} (hW : Within State.digestRecord_mask W) (h : Frame W s0 s) :
    Frame W s0 (State.digestRecord s p g resNum subject input d mask legV legC) := by
  have b22 := hW.bit (n := 22) (by decide)
  unfold State.digestRecord
  repeat' first
    | intro _
    | with_reducible assumption
    | (extract_lets +onlyGivenNames x; refine Frame.cut (W := W) (s0 := s0) x ?_ ?_; unfold x; clear x; rotate_left; clear_value x; revert x; intro _ _)
    | (extract_lets +onlyGivenNames x; clear_value x; revert x; intro _)
    | with_reducible refine State.putBytes_frame b22 ?_
    | with_reducible refine Frame.ite ?_ ?_
    | with_reducible refine Frame.foldl ?_ _ _ ?_
    | split
    | with_reducible refine Frame.of_snd (by with_reducible assumption) ?_
    | with_reducible refine Frame.of_fst (by with_reducible assumption) ?_
    | with_reducible refine Frame.snd_mk ?_
    | with_reducible refine Frame.fst_mk ?_

def State.countPending_mask : Nat := 0x800000000000000000000000000000000
theorem State.countPending_frame {W : Nat} {s0 s : State} {i : Nat} {p : Nat} (hW : Within State.countPending_mask W) (h : Frame W s0 s) :
    Frame W s0 (State.countPending s i p) := by
  have b131 := hW.bit (n := 131) (by decide)
  unfold State.countPending
  repeat' first
    | intro _
    | with_reducible assumption
    | (extract_lets +onlyGivenNames x; refine Frame.cut (W := W) (s0 := s0) x ?_ ?_; unfold x; clear x; rotate_left; clear_value x; revert x; intro _ _)
    | (extract_lets +onlyGivenNames x; clear_value x; revert x; intro _)
    | with_reducible refine State.set_frame (F.HOST_RES_STATE_pending_kind _ _) b131 ?_
    | with_reducible refine Frame.ite ?_ ?_
    | with_reducible refine Frame.foldl ?_ _ _ ?_
    | split
    | with_reducible refine Frame.of_snd (by with_reducible assumption) ?_
    | with_reducible refine Frame.of_fst (by with_reducible assumption) ?_
    | with_reducible refine Frame.snd_mk ?_
    | with_reducible refine Frame.fst_mk ?_

def State.dropResult_mask : Nat := 0x6020000000000000000000000000000000000000000000000000080000000000000000000000022040000
theorem State.dropResult_frame {W : Nat} {s0 s : State} {i : Nat} {p : Nat} (hW : Within State.dropResult_mask W) (h : Frame W s0 s) :
    Frame W s0 (State.dropResult s i p) := by
  have b18 := hW.bit (n := 18) (by decide)
  have b127 := hW.bit (n := 127) (by decide)
  have w2 := Within.trans (a := State.fire_mask) rfl hW
  have w3 := Within.trans (a := State.raise_mask) rfl hW
  unfold State.dropResult
  repeat' first
    | intro _
    | with_reducible assumption
    | (extract_lets +onlyGivenNames x; refine Frame.cut (W := W) (s0 := s0) x ?_ ?_; unfold x; clear x; rotate_left; clear_value x; revert x; intro _ _)
    | (extract_lets +onlyGivenNames x; clear_value x; revert x; intro _)
    | with_reducible refine State.inc_frame (F.HOST_RES_DROP_count_kind _ _) b127 ?_
    | with_reducible refine State.fire_frame w2 ?_
    | with_reducible refine State.raise_frame w3 ?_
    | with_reducible refine Frame.ite ?_ ?_
    | with_reducible refine Frame.foldl ?_ _ _ ?_
    | split
    | with_reducible refine Frame.of_snd (by with_reducible assumption) ?_
    | with_reducible refine Frame.of_fst (by with_reducible assumption) ?_
    | with_reducible refine Frame.snd_mk ?_
    | with_reducible refine Frame.fst_mk ?_
    | with_reducible refine Frame.host_upd b18 ?_

def State.allocPort_mask : Nat := 0x60200000000000000000000000000000000000000000000000008c0000000000000000000000022040000
theorem State.allocPort_frame {W : Nat} {s0 s : State} {i : Nat} {p : Nat} {resNum : Nat} {kind : Nat} (hW : Within State.allocPort_mask W) (h : Frame W s0 s) :
    Frame W s0 (State.allocPort s i p resNum kind) := by
  have b18 := hW.bit (n := 18) (by decide)
  have b126 := hW.bit (n := 126) (by decide)
  have w2 := Within.trans (a := State.dropResult_mask) rfl hW
  have w3 := Within.trans (a := State.countPending_mask) rfl hW
  unfold State.allocPort
  repeat' first
    | intro _
    | with_reducible assumption
    | (extract_lets +onlyGivenNames x; refine Frame.cut (W := W) (s0 := s0) x ?_ ?_; unfold x; clear x; rotate_left; clear_value x; revert x; intro _ _)
    | (extract_lets +onlyGivenNames x; clear_value x; revert x; intro _)
    | with_reducible refine State.incWrap_frame (F.HOST_RES_SEQ_next_kind _ _) b126 ?_
    | with_reducible refine State.dropResult_frame w2 ?_
    | with_reducible refine State.countPending_frame w3 ?_
    | with_reducible refine Frame.ite ?_ ?_
    | with_reducible refine Frame.foldl ?_ _ _ ?_
    | split
    | with_reducible refine Frame.of_snd (by with_reducible assumption) ?_
    | with_reducible refine Frame.of_fst (by with_reducible assumption) ?_
    | with_reducible refine Frame.snd_mk ?_
    | with_reducible refine Frame.fst_mk ?_
    | with_reducible refine Frame.host_upd b18 ?_

def State.alloc_mask : Nat := 0x60200000000000000000000000000000000000000000000000008c0000000000000000000000022040000
theorem State.alloc_snd {W : Nat} {s0 s : State} {p : Nat} {kind : Nat} (hW : Within State.alloc_mask W) (h : Frame W s0 s) :
    Frame W s0 (State.alloc s p kind).2 := by
  have b18 := hW.bit (n := 18) (by decide)
  have w1 := Within.trans (a := State.allocPort_mask) rfl hW
  have key : Frame.Snd W s0 (State.alloc s p kind) := by
    unfold State.alloc
    repeat' first
      | intro _
      | with_reducible assumption
      | (extract_lets +onlyGivenNames x; refine Frame.cut (W := W) (s0 := s0) x ?_ ?_; unfold x; clear x; rotate_left; clear_value x; revert x; intro _ _)
      | (extract_lets +onlyGivenNames x; clear_value x; revert x; intro _)
      | with_reducible refine Frame.snd_mk ?_
      | with_reducible refine State.each_frame ?_ ?_
      | with_reducible refine State.allocPort_frame w1 ?_
      | with_reducible refine Frame.ite ?_ ?_
      | with_reducible refine Frame.foldl ?_ _ _ ?_
      | split
      | with_reducible refine Frame.of_snd (by with_reducible assumption) ?_
      | with_reducible refine Frame.of_fst (by with_reducible assumption) ?_
      | with_reducible refine Frame.snd_mk ?_
      | with_reducible refine Frame.fst_mk ?_
      | with_reducible refine Frame.foldl_snd ?_ _ _ ?_
      | with_reducible refine Frame.foldl_fst ?_ _ _ ?_
      | with_reducible refine Frame.foldr_snd ?_ _ _ ?_
      | with_reducible refine Frame.Snd.mk ?_
      | with_reducible refine Frame.Fst.mk ?_
      | dsimp only
      | with_reducible refine Frame.host_upd b18 ?_
  exact key.out
theorem State.alloc_frame {W : Nat} {s0 s : State} {p : Nat} {kind : Nat} {r0 : Nat} {t : State} (e : State.alloc s p kind = (r0, t)) (hW : Within State.alloc_mask W) (h : Frame W s0 s) :
    Frame W s0 t := by
  have key := State.alloc_snd (p := p) (kind := kind) hW h
  rw [e] at key; exact key

def State.coalesce_mask : Nat := 0x20040000
theorem State.coalesce_frame {W : Nat} {s0 s : State} {i : Nat} {p : Nat} (hW : Within State.coalesce_mask W) (h : Frame W s0 s) :
    Frame W s0 (State.coalesce s i p) := by
  have b18 := hW.bit (n := 18) (by decide)
  have w1 := Within.trans (a := State.fire_mask) rfl hW
  unfold State.coalesce
  repeat' first
    | intro _
    | with_reducible assumption
    | (extract_lets +onlyGivenNames x; refine Frame.cut (W := W) (s0 := s0) x ?_ ?_; unfold x; clear x; rotate_left; clear_value x; revert x; intro _ _)
    | (extract_lets +onlyGivenNames x; clear_value x; revert x; intro _)
    | with_reducible refine State.fire_frame w1 ?_
    | with_reducible refine Frame.ite ?_ ?_
    | with_reducible refine Frame.foldl ?_ _ _ ?_
    | split
    | with_reducible refine Frame.of_snd (by with_reducible assumption) ?_
    | with_reducible refine Frame.of_fst (by with_reducible assumption) ?_
    | with_reducible refine Frame.snd_mk ?_
    | with_reducible refine Frame.fst_mk ?_
    | with_reducible refine Frame.host_upd b18 ?_

def State.readySlot_mask : Nat := 0x6020000000000000000000000000000000000000000000000000880000000000000000000000022040000
theorem State.readySlot_frame {W : Nat} {s0 s : State} {x : Slot} {y : Payload} (hW : Within State.readySlot_mask W) (h : Frame W s0 s) :
    Frame W s0 (State.readySlot s x y) := by
  have w0 := Within.trans (a := State.countPending_mask) rfl hW
  have w1 := Within.trans (a := State.dropResult_mask) rfl hW
  have w2 := Within.trans (a := State.coalesce_mask) rfl hW
  have b18 := hW.bit (n := 18) (by decide)
  unfold State.readySlot
  repeat' first
    | intro _
    | with_reducible assumption
    | (extract_lets +onlyGivenNames x; refine Frame.cut (W := W) (s0 := s0) x ?_ ?_; unfold x; clear x; rotate_left; clear_value x; revert x; intro _ _)
    | (extract_lets +onlyGivenNames x; clear_value x; revert x; intro _)
    | with_reducible refine State.countPending_frame w0 ?_
    | with_reducible refine State.dropResult_frame w1 ?_
    | with_reducible refine State.coalesce_frame w2 ?_
    | with_reducible refine Frame.ite ?_ ?_
    | with_reducible refine Frame.foldl ?_ _ _ ?_
    | split
    | with_reducible refine Frame.of_snd (by with_reducible assumption) ?_
    | with_reducible refine Frame.of_fst (by with_reducible assumption) ?_
    | with_reducible refine Frame.snd_mk ?_
    | with_reducible refine Frame.fst_mk ?_
    | with_reducible refine Frame.host_upd b18 ?_

def State.ready_mask : Nat := 0x6020000000000000000000000000000000000000000000000000880000000000000000000000022040000
theorem State.ready_frame {W : Nat} {s0 s : State} {p : Nat} {resNum : Nat} {y : Payload} (hW : Within State.ready_mask W) (h : Frame W s0 s) :
    Frame W s0 (State.ready s p resNum y) := by
  have w0 := Within.trans (a := State.readySlot_mask) rfl hW
  unfold State.ready
  repeat' first
    | intro _
    | with_reducible assumption
    | (extract_lets +onlyGivenNames x; refine Frame.cut (W := W) (s0 := s0) x ?_ ?_; unfold x; clear x; rotate_left; clear_value x; revert x; intro _ _)
    | (extract_lets +onlyGivenNames x; clear_value x; revert x; intro _)
    | with_reducible refine State.each_frame ?_ ?_
    | with_reducible refine State.readySlot_frame w0 ?_
    | with_reducible refine Frame.ite ?_ ?_
    | with_reducible refine Frame.foldl ?_ _ _ ?_
    | split
    | with_reducible refine Frame.of_snd (by with_reducible assumption) ?_
    | with_reducible refine Frame.of_fst (by with_reducible assumption) ?_
    | with_reducible refine Frame.snd_mk ?_
    | with_reducible refine Frame.fst_mk ?_

def State.settle_mask : Nat := 0x6020000000000000000000000000000000000000000000000000880000000000000000000000023440000
theorem State.settle_frame {W : Nat} {s0 s : State} {u : Subject} {outcome : Nat} {carried : Nat} {cause : Nat} {flags : Nat} {v : Option VerdictIn} (hW : Within State.settle_mask W) (h : Frame W s0 s) :
    Frame W s0 (State.settle s u outcome carried cause flags v) := by
  have b18 := hW.bit (n := 18) (by decide)
  have w1 := Within.trans (a := State.digestRecord_mask) rfl hW
  have w2 := Within.trans (a := State.drawDigest_mask) rfl hW
  have w3 := Within.trans (a := State.draw_mask) rfl hW
  have w4 := Within.trans (a := State.ready_mask) rfl hW
  unfold State.settle
  repeat' first
    | intro _
    | with_reducible assumption
    | (extract_lets +onlyGivenNames x; refine Frame.cut (W := W) (s0 := s0) x ?_ ?_; unfold x; clear x; rotate_left; clear_value x; revert x; intro _ _)
    | (extract_lets +onlyGivenNames x; clear_value x; revert x; intro _)
    | with_reducible refine State.digestRecord_frame w1 ?_
    | with_reducible refine State.drawDigest_snd w2 ?_
    | with_reducible refine State.draw_snd w3 ?_
    | with_reducible refine State.ready_frame w4 ?_
    | with_reducible refine Frame.ite ?_ ?_
    | with_reducible refine Frame.foldl ?_ _ _ ?_
    | split
    | with_reducible refine State.drawDigest_frame (by with_reducible assumption) w2 ?_
    | with_reducible refine State.draw_frame (by with_reducible assumption) w3 ?_
    | with_reducible refine Frame.of_snd (by with_reducible assumption) ?_
    | with_reducible refine Frame.of_fst (by with_reducible assumption) ?_
    | with_reducible refine Frame.snd_mk ?_
    | with_reducible refine Frame.fst_mk ?_
    | with_reducible refine Frame.host_upd b18 ?_

def State.openSubject_mask : Nat := 0x60200000000000000000000000000000000000000000000000008c0000000000000000000000022040000
theorem State.openSubject_frame {W : Nat} {s0 s : State} {p : Nat} {tag : Nat} {key : Option Nat} {ch : Nat} {out : Nat} {target : Int} (hW : Within State.openSubject_mask W) (h : Frame W s0 s) :
    Frame W s0 (State.openSubject s p tag key ch out target) := by
  have w0 := Within.trans (a := State.alloc_mask) rfl hW
  have b18 := hW.bit (n := 18) (by decide)
  unfold State.openSubject
  repeat' first
    | intro _
    | with_reducible assumption
    | (extract_lets +onlyGivenNames x; refine Frame.cut (W := W) (s0 := s0) x ?_ ?_; unfold x; clear x; rotate_left; clear_value x; revert x; intro _ _)
    | (extract_lets +onlyGivenNames x; clear_value x; revert x; intro _)
    | with_reducible refine State.alloc_snd w0 ?_
    | with_reducible refine Frame.ite ?_ ?_
    | with_reducible refine Frame.foldl ?_ _ _ ?_
    | split
    | with_reducible refine State.alloc_frame (by with_reducible assumption) w0 ?_
    | with_reducible refine Frame.of_snd (by with_reducible assumption) ?_
    | with_reducible refine Frame.of_fst (by with_reducible assumption) ?_
    | with_reducible refine Frame.snd_mk ?_
    | with_reducible refine Frame.fst_mk ?_
    | with_reducible refine Frame.host_upd b18 ?_

end Sys2Proof.Machine
end

