-- ==== Sys2Proof/Laws/Motion.lean ====
section
/-! SUPPORT. What the operations of Machine/Motion.lean change: each differs from its argument in the areas of its mask alone. -/

set_option linter.all false

namespace Sys2Proof.Machine

def State.setChan_mask : Nat := 0x4000
theorem State.setChan_frame {W : Nat} {s0 s : State} {n : Nat} {c : Chan} (hW : Within State.setChan_mask W) (h : Frame W s0 s) :
    Frame W s0 (State.setChan s n c) := by
  have b14 := hW.bit (n := 14) (by decide)
  unfold State.setChan
  repeat' first
    | intro _
    | with_reducible assumption
    | (extract_lets +onlyGivenNames x; refine Frame.cut (W := W) (s0 := s0) x ?_ ?_; unfold x; clear x; rotate_left; clear_value x; revert x; intro _ _)
    | (extract_lets +onlyGivenNames x; clear_value x; revert x; intro _)
    | with_reducible refine Frame.ite ?_ ?_
    | with_reducible refine Frame.foldl ?_ _ _ ?_
    | split
    | with_reducible refine Frame.of_snd (by with_reducible assumption) ?_
    | with_reducible refine Frame.of_fst (by with_reducible assumption) ?_
    | with_reducible refine Frame.snd_mk ?_
    | with_reducible refine Frame.fst_mk ?_
    | with_reducible refine Frame.motion_upd b14 ?_

def State.showChan_mask : Nat := 0x384000000000000000000000000000000000000000000000000000
theorem State.showChan_frame {W : Nat} {s0 s : State} {n : Nat} (hW : Within State.showChan_mask W) (h : Frame W s0 s) :
    Frame W s0 (State.showChan s n) := by
  have b211 := hW.bit (n := 211) (by decide)
  have b212 := hW.bit (n := 212) (by decide)
  have b213 := hW.bit (n := 213) (by decide)
  have b206 := hW.bit (n := 206) (by decide)
  unfold State.showChan
  repeat' first
    | intro _
    | with_reducible assumption
    | (extract_lets +onlyGivenNames x; refine Frame.cut (W := W) (s0 := s0) x ?_ ?_; unfold x; clear x; rotate_left; clear_value x; revert x; intro _ _)
    | (extract_lets +onlyGivenNames x; clear_value x; revert x; intro _)
    | with_reducible refine State.set64_frame (F.MOT_CH_COUNT_LO_count_kind _) b211 (F.MOT_CH_COUNT_HI_count_kind _) b212 ?_
    | with_reducible refine State.set_frame (F.MOT_CH_SPEED_speed_kind _) b213 ?_
    | with_reducible refine State.setBit_frame (F.MOT_STATUS_present_kind) b206 ?_
    | with_reducible refine State.setBit_frame (F.MOT_STATUS_count_valid_kind) b206 ?_
    | with_reducible refine State.setBit_frame (F.MOT_STATUS_fault_kind) b206 ?_
    | with_reducible refine State.setBit_frame (F.MOT_STATUS_speed_valid_kind) b206 ?_
    | with_reducible refine Frame.ite ?_ ?_
    | with_reducible refine Frame.foldl ?_ _ _ ?_
    | split
    | with_reducible refine Frame.of_snd (by with_reducible assumption) ?_
    | with_reducible refine Frame.of_fst (by with_reducible assumption) ?_
    | with_reducible refine Frame.snd_mk ?_
    | with_reducible refine Frame.fst_mk ?_

def State.chooseMethod_mask : Nat := 0x40000000000000000000000000000000000000000000000000000
theorem State.chooseMethod_frame {W : Nat} {s0 s : State} {n : Nat} (hW : Within State.chooseMethod_mask W) (h : Frame W s0 s) :
    Frame W s0 (s.chooseMethod n) := by
  have b := hW.bit (n := 210) (by decide)
  have hs : ∀ t v, Frame W s0 t → Frame W s0 (t.set (F.MOT_CH_STATUS_speed_state n) v) := fun _ _ ht =>
    State.set_frame (F.MOT_CH_STATUS_speed_state_kind n) b ht
  have h1 : Frame W s0 (if s.get (F.MOT_CH_STATUS_speed_state n) = 0 then s.set (F.MOT_CH_STATUS_speed_state n) 1 else s) :=
    Frame.ite (hs _ _ h) h
  exact Frame.ite (hs _ _ h) (Frame.ite (hs _ _ h) (Frame.ite (hs _ _ h1) (Frame.ite (hs _ _ h1) h1)))

def State.startDivider_mask : Nat := 0x4000
theorem State.startDivider_frame {W : Nat} {s0 s : State} {d : Nat} {c : Int} (hW : Within State.startDivider_mask W) (h : Frame W s0 s) :
    Frame W s0 (State.startDivider s d c) := by
  have b14 := hW.bit (n := 14) (by decide)
  unfold State.startDivider
  repeat' first
    | intro _
    | with_reducible assumption
    | (extract_lets +onlyGivenNames x; refine Frame.cut (W := W) (s0 := s0) x ?_ ?_; unfold x; clear x; rotate_left; clear_value x; revert x; intro _ _)
    | (extract_lets +onlyGivenNames x; clear_value x; revert x; intro _)
    | with_reducible refine Frame.ite ?_ ?_
    | with_reducible refine Frame.foldl ?_ _ _ ?_
    | split
    | with_reducible refine Frame.of_snd (by with_reducible assumption) ?_
    | with_reducible refine Frame.of_fst (by with_reducible assumption) ?_
    | with_reducible refine Frame.snd_mk ?_
    | with_reducible refine Frame.fst_mk ?_
    | with_reducible refine Frame.motion_upd b14 ?_

def State.rebaseDivider_mask : Nat := 0x4000
theorem State.rebaseDivider_frame {W : Nat} {s0 s : State} {d : Nat} {c : Int} (hW : Within State.rebaseDivider_mask W) (h : Frame W s0 s) :
    Frame W s0 (State.rebaseDivider s d c) := by
  have b14 := hW.bit (n := 14) (by decide)
  unfold State.rebaseDivider
  repeat' first
    | intro _
    | with_reducible assumption
    | (extract_lets +onlyGivenNames x; refine Frame.cut (W := W) (s0 := s0) x ?_ ?_; unfold x; clear x; rotate_left; clear_value x; revert x; intro _ _)
    | (extract_lets +onlyGivenNames x; clear_value x; revert x; intro _)
    | with_reducible refine Frame.ite ?_ ?_
    | with_reducible refine Frame.foldl ?_ _ _ ?_
    | split
    | with_reducible refine Frame.of_snd (by with_reducible assumption) ?_
    | with_reducible refine Frame.of_fst (by with_reducible assumption) ?_
    | with_reducible refine Frame.snd_mk ?_
    | with_reducible refine Frame.fst_mk ?_
    | with_reducible refine Frame.motion_upd b14 ?_

def State.startDividers_mask : Nat := 0x4000
theorem State.startDividers_frame {W : Nat} {s0 s : State} {n : Nat} {again : Bool} (hW : Within State.startDividers_mask W) (h : Frame W s0 s) :
    Frame W s0 (State.startDividers s n again) := by
  have w0 := Within.trans (a := State.startDivider_mask) rfl hW
  unfold State.startDividers
  repeat' first
    | intro _
    | with_reducible assumption
    | (extract_lets +onlyGivenNames x; refine Frame.cut (W := W) (s0 := s0) x ?_ ?_; unfold x; clear x; rotate_left; clear_value x; revert x; intro _ _)
    | (extract_lets +onlyGivenNames x; clear_value x; revert x; intro _)
    | with_reducible refine State.each_frame ?_ ?_
    | with_reducible refine State.startDivider_frame w0 ?_
    | with_reducible refine Frame.ite ?_ ?_
    | with_reducible refine Frame.foldl ?_ _ _ ?_
    | split
    | with_reducible refine Frame.of_snd (by with_reducible assumption) ?_
    | with_reducible refine Frame.of_fst (by with_reducible assumption) ?_
    | with_reducible refine Frame.snd_mk ?_
    | with_reducible refine Frame.fst_mk ?_

def State.beginStep_mask : Nat := 0x1000000000000000000000000000000000000000000000000004000
theorem State.beginStep_frame {W : Nat} {s0 s : State} {u : Pulse} {k : Nat} (hW : Within State.beginStep_mask W) (h : Frame W s0 s) :
    Frame W s0 (State.beginStep s u k) := by
  have b14 := hW.bit (n := 14) (by decide)
  have w1 := Within.trans (a := State.endPulse_mask) rfl hW
  unfold State.beginStep
  repeat' first
    | intro _
    | with_reducible assumption
    | (extract_lets +onlyGivenNames x; refine Frame.cut (W := W) (s0 := s0) x ?_ ?_; unfold x; clear x; rotate_left; clear_value x; revert x; intro _ _)
    | (extract_lets +onlyGivenNames x; clear_value x; revert x; intro _)
    | with_reducible refine State.endPulse_frame w1 ?_
    | with_reducible refine Frame.ite ?_ ?_
    | with_reducible refine Frame.foldl ?_ _ _ ?_
    | split
    | with_reducible refine Frame.of_snd (by with_reducible assumption) ?_
    | with_reducible refine Frame.of_fst (by with_reducible assumption) ?_
    | with_reducible refine Frame.snd_mk ?_
    | with_reducible refine Frame.fst_mk ?_
    | with_reducible refine Frame.motion_upd b14 ?_

def State.fireEntry_mask : Nat := 0x6020000000000000000000000000013000000000000000000000000000000000000000000000022044000
theorem State.fireEntry_frame {W : Nat} {s0 s : State} {key : Nat} {e : Milepost} (hW : Within State.fireEntry_mask W) (h : Frame W s0 s) :
    Frame W s0 (State.fireEntry s key e) := by
  have b18 := hW.bit (n := 18) (by decide)
  have b14 := hW.bit (n := 14) (by decide)
  have b217 := hW.bit (n := 217) (by decide)
  have b220 := hW.bit (n := 220) (by decide)
  have w4 := Within.trans (a := State.setEntry_mask) rfl hW
  have w5 := Within.trans (a := State.raise_mask) rfl hW
  have w6 := Within.trans (a := State.raiseAt_mask) rfl hW
  have w7 := Within.trans (a := State.beginStep_mask) rfl hW
  unfold State.fireEntry
  repeat' first
    | intro _
    | with_reducible assumption
    | (extract_lets +onlyGivenNames x; refine Frame.cut (W := W) (s0 := s0) x ?_ ?_; unfold x; clear x; rotate_left; clear_value x; revert x; intro _ _)
    | (extract_lets +onlyGivenNames x; clear_value x; revert x; intro _)
    | with_reducible refine State.inc_frame (F.MOT_CH_FIRED_count_kind _) b217 ?_
    | with_reducible refine State.inc_frame (F.MOT_CH_SUPPRESSED_count_kind _) b220 ?_
    | with_reducible refine State.inc_frame (F.MOT_CH_SUPPRESSED_overlaps_kind _) b220 ?_
    | with_reducible refine State.setEntry_frame w4 ?_
    | with_reducible refine State.raise_frame w5 ?_
    | with_reducible refine State.raiseAt_frame w6 ?_
    | with_reducible refine State.beginStep_frame w7 ?_
    | with_reducible refine Frame.ite ?_ ?_
    | with_reducible refine Frame.foldl ?_ _ _ ?_
    | split
    | with_reducible refine Frame.of_snd (by with_reducible assumption) ?_
    | with_reducible refine Frame.of_fst (by with_reducible assumption) ?_
    | with_reducible refine Frame.snd_mk ?_
    | with_reducible refine Frame.fst_mk ?_
    | with_reducible refine Frame.host_upd b18 ?_
    | with_reducible refine Frame.motion_upd b14 ?_

def State.fireDue_mask : Nat := 0x6020000000000000000000000000013000000000000000000000000000000000000000000000022044000
theorem State.fireDue_frame {W : Nat} {s0 s : State} {u : Subject} (hW : Within State.fireDue_mask W) (h : Frame W s0 s) :
    Frame W s0 (State.fireDue s u) := by
  have w0 := Within.trans (a := State.fireEntry_mask) rfl hW
  unfold State.fireDue
  repeat' first
    | intro _
    | with_reducible assumption
    | (extract_lets +onlyGivenNames x; refine Frame.cut (W := W) (s0 := s0) x ?_ ?_; unfold x; clear x; rotate_left; clear_value x; revert x; intro _ _)
    | (extract_lets +onlyGivenNames x; clear_value x; revert x; intro _)
    | with_reducible refine State.fireEntry_frame w0 ?_
    | with_reducible refine Frame.ite ?_ ?_
    | with_reducible refine Frame.foldl ?_ _ _ ?_
    | split
    | with_reducible refine Frame.of_snd (by with_reducible assumption) ?_
    | with_reducible refine Frame.of_fst (by with_reducible assumption) ?_
    | with_reducible refine Frame.snd_mk ?_
    | with_reducible refine Frame.fst_mk ?_

def State.verdictArm_mask : Nat := 0x602000000000000000000000000000d000000000000000000000880000000000000000000000023444000
theorem State.verdictArm_frame {W : Nat} {s0 s : State} {u : Subject} {verdict : Nat} {cause : Nat} {v : Option VerdictIn} (hW : Within State.verdictArm_mask W) (h : Frame W s0 s) :
    Frame W s0 (State.verdictArm s u verdict cause v) := by
  have b218 := hW.bit (n := 218) (by decide)
  have b219 := hW.bit (n := 219) (by decide)
  have w0 := Within.trans (a := State.setEntry_mask) rfl hW
  have w1 := Within.trans (a := State.settle_mask) rfl hW
  have w2 := Within.trans (a := State.raiseAt_mask) rfl hW
  unfold State.verdictArm
  repeat' first
    | intro _
    | with_reducible assumption
    | (extract_lets +onlyGivenNames x; refine Frame.cut (W := W) (s0 := s0) x ?_ ?_; unfold x; clear x; rotate_left; clear_value x; revert x; intro _ _)
    | (extract_lets +onlyGivenNames x; clear_value x; revert x; intro _)
    | with_reducible refine State.inc_frame (F.MOT_CH_CANCELLED_count_kind _) b218 ?_
    | with_reducible refine State.inc_frame (F.MOT_CH_LATE_count_kind _) b219 ?_
    | with_reducible refine State.setEntry_frame w0 ?_
    | with_reducible refine State.settle_frame w1 ?_
    | with_reducible refine State.raiseAt_frame w2 ?_
    | with_reducible refine Frame.ite ?_ ?_
    | with_reducible refine Frame.foldl ?_ _ _ ?_
    | split
    | with_reducible refine Frame.of_snd (by with_reducible assumption) ?_
    | with_reducible refine Frame.of_fst (by with_reducible assumption) ?_
    | with_reducible refine Frame.snd_mk ?_
    | with_reducible refine Frame.fst_mk ?_

def State.verdictOn_mask : Nat := 0x602000000000000000000000000001f000000000000000000000880000000000000000000000023444000
theorem State.verdictOn_frame {W : Nat} {s0 s : State} {u : Subject} {verdict : Nat} {cause : Nat} {v : Option VerdictIn} (hW : Within State.verdictOn_mask W) (h : Frame W s0 s) :
    Frame W s0 (State.verdictOn s u verdict cause v) := by
  have w0 := Within.trans (a := State.fireDue_mask) rfl hW
  have w1 := Within.trans (a := State.verdictArm_mask) rfl hW
  unfold State.verdictOn
  repeat' first
    | intro _
    | with_reducible assumption
    | (extract_lets +onlyGivenNames x; refine Frame.cut (W := W) (s0 := s0) x ?_ ?_; unfold x; clear x; rotate_left; clear_value x; revert x; intro _ _)
    | (extract_lets +onlyGivenNames x; clear_value x; revert x; intro _)
    | with_reducible refine State.fireDue_frame w0 ?_
    | with_reducible refine State.verdictArm_frame w1 ?_
    | with_reducible refine Frame.ite ?_ ?_
    | with_reducible refine Frame.foldl ?_ _ _ ?_
    | split
    | with_reducible refine Frame.of_snd (by with_reducible assumption) ?_
    | with_reducible refine Frame.of_fst (by with_reducible assumption) ?_
    | with_reducible refine Frame.snd_mk ?_
    | with_reducible refine Frame.fst_mk ?_

def State.applyVerdict_mask : Nat := 0x602000000000000000000000000001f000000000000000000000880000000000000000000000023444000
theorem State.applyVerdict_frame {W : Nat} {s0 s : State} {p : Nat} {tag : Nat} {verdict : Nat} {cause : Nat} {v : Option VerdictIn} (hW : Within State.applyVerdict_mask W) (h : Frame W s0 s) :
    Frame W s0 (State.applyVerdict s p tag verdict cause v) := by
  have b219 := hW.bit (n := 219) (by decide)
  have w0 := Within.trans (a := State.raiseAt_mask) rfl hW
  have w1 := Within.trans (a := State.verdictOn_mask) rfl hW
  unfold State.applyVerdict
  repeat' first
    | intro _
    | with_reducible assumption
    | (extract_lets +onlyGivenNames x; refine Frame.cut (W := W) (s0 := s0) x ?_ ?_; unfold x; clear x; rotate_left; clear_value x; revert x; intro _ _)
    | (extract_lets +onlyGivenNames x; clear_value x; revert x; intro _)
    | with_reducible refine State.inc_frame (F.MOT_CH_LATE_count_kind _) b219 ?_
    | with_reducible refine State.raiseAt_frame w0 ?_
    | with_reducible refine State.verdictOn_frame w1 ?_
    | with_reducible refine State.each_frame ?_ ?_
    | with_reducible refine Frame.ite ?_ ?_
    | with_reducible refine Frame.foldl ?_ _ _ ?_
    | split
    | with_reducible refine Frame.of_snd (by with_reducible assumption) ?_
    | with_reducible refine Frame.of_fst (by with_reducible assumption) ?_
    | with_reducible refine Frame.snd_mk ?_
    | with_reducible refine Frame.fst_mk ?_

def State.invalidate_mask : Nat := 0x602000000000000000000000000001f000000000000000000000880000000000000000000000023444000
theorem State.invalidate_frame {W : Nat} {s0 s : State} {p : Nat} {tags : List Nat} {cause : Nat} (hW : Within State.invalidate_mask W) (h : Frame W s0 s) :
    Frame W s0 (State.invalidate s p tags cause) := by
  have w0 := Within.trans (a := State.verdictOn_mask) rfl hW
  unfold State.invalidate
  repeat' first
    | intro _
    | with_reducible assumption
    | (extract_lets +onlyGivenNames x; refine Frame.cut (W := W) (s0 := s0) x ?_ ?_; unfold x; clear x; rotate_left; clear_value x; revert x; intro _ _)
    | (extract_lets +onlyGivenNames x; clear_value x; revert x; intro _)
    | with_reducible refine State.each_frame ?_ ?_
    | with_reducible refine State.verdictOn_frame w0 ?_
    | with_reducible refine Frame.ite ?_ ?_
    | with_reducible refine Frame.foldl ?_ _ _ ?_
    | split
    | with_reducible refine Frame.of_snd (by with_reducible assumption) ?_
    | with_reducible refine Frame.of_fst (by with_reducible assumption) ?_
    | with_reducible refine Frame.snd_mk ?_
    | with_reducible refine Frame.fst_mk ?_

def State.withdraw_mask : Nat := 0x6020000000000000000000000000001000000000000000000000880000000000000000000000023444000
theorem State.withdraw_snd {W : Nat} {s0 s : State} {n : Nat} (hW : Within State.withdraw_mask W) (h : Frame W s0 s) :
    Frame W s0 (State.withdraw s n).2 := by
  have w0 := Within.trans (a := State.setEntry_mask) rfl hW
  have w1 := Within.trans (a := State.settle_mask) rfl hW
  have key : Frame.Snd W s0 (State.withdraw s n) := by
    unfold State.withdraw
    repeat' first
      | intro _
      | with_reducible assumption
      | (extract_lets +onlyGivenNames x; refine Frame.cut (W := W) (s0 := s0) x ?_ ?_; unfold x; clear x; rotate_left; clear_value x; revert x; intro _ _)
      | (extract_lets +onlyGivenNames x; clear_value x; revert x; intro _)
      | with_reducible refine Frame.snd_mk ?_
      | with_reducible refine State.each_frame ?_ ?_
      | with_reducible refine State.setEntry_frame w0 ?_
      | with_reducible refine State.settle_frame w1 ?_
      | with_reducible refine Frame.ite ?_ ?_
      | with_reducible refine Frame.foldl ?_ _ _ ?_
      | split
      | with_reducible refine Frame.of_snd (by with_reducible assumption) ?_
      | with_reducible refine Frame.of_fst (by with_reducible assumption) ?_
      | with_reducible refine Frame.snd_mk ?_
      | with_reducible refine Frame.fst_mk ?_
      | with_reducible refine Frame.foldl_snd ?_ _ _ ?_
      | with_reducible refine Frame.foldl_fst ?_ _ _ ?_
      | with_reducible refine Frame.foldr_snd ?_ _ _ ?_
      | with_reducible refine Frame.Snd.mk ?_
      | with_reducible refine Frame.Fst.mk ?_
      | dsimp only
  exact key.out
theorem State.withdraw_frame {W : Nat} {s0 s : State} {n : Nat} {r0 : Nat} {t : State} (e : State.withdraw s n = (r0, t)) (hW : Within State.withdraw_mask W) (h : Frame W s0 s) :
    Frame W s0 t := by
  have key := State.withdraw_snd (n := n) hW h
  rw [e] at key; exact key

def State.posFault_mask : Nat := 0x60200000000000011800000000000013c40000000000000000008800000000000000000000000234cc000
theorem State.posFault_frame {W : Nat} {s0 s : State} {n : Nat} {cause : Nat} (hW : Within State.posFault_mask W) (h : Frame W s0 s) :
    Frame W s0 (State.posFault s n cause) := by
  have b210 := hW.bit (n := 210) (by decide)
  have w0 := Within.trans (a := State.setChan_mask) rfl hW
  have w1 := Within.trans (a := State.withdraw_mask) rfl hW
  have w2 := Within.trans (a := State.raise_mask) rfl hW
  have w3 := Within.trans (a := State.showChan_mask) rfl hW
  have w4 := Within.trans (a := State.enterSafeHeld_mask) rfl hW
  unfold State.posFault
  repeat' first
    | intro _
    | with_reducible assumption
    | (extract_lets +onlyGivenNames x; refine Frame.cut (W := W) (s0 := s0) x ?_ ?_; unfold x; clear x; rotate_left; clear_value x; revert x; intro _ _)
    | (extract_lets +onlyGivenNames x; clear_value x; revert x; intro _)
    | with_reducible refine State.set_frame (F.MOT_CH_STATUS_count_state_kind _) b210 ?_
    | with_reducible refine State.set_frame (F.MOT_CH_STATUS_fault_cause_kind _) b210 ?_
    | with_reducible refine State.set_frame (F.MOT_CH_STATUS_speed_state_kind _) b210 ?_
    | with_reducible refine State.setChan_frame w0 ?_
    | with_reducible refine State.raise_frame w2 ?_
    | with_reducible refine State.showChan_frame w3 ?_
    | with_reducible refine State.enterSafeHeld_frame w4 ?_
    | with_reducible refine State.withdraw_snd w1 ?_
    | with_reducible refine Frame.ite ?_ ?_
    | with_reducible refine Frame.foldl ?_ _ _ ?_
    | split
    | with_reducible refine State.withdraw_frame (by with_reducible assumption) w1 ?_
    | with_reducible refine Frame.of_snd (by with_reducible assumption) ?_
    | with_reducible refine Frame.of_fst (by with_reducible assumption) ?_
    | with_reducible refine Frame.snd_mk ?_
    | with_reducible refine Frame.fst_mk ?_

def State.doubt_mask : Nat := 0x1000000000000000000000000000000000000000000000000004000
theorem State.doubt_frame {W : Nat} {s0 s : State} {n : Nat} {code : Nat} (hW : Within State.doubt_mask W) (h : Frame W s0 s) :
    Frame W s0 (State.doubt s n code) := by
  have w0 := Within.trans (a := State.setEntry_mask) rfl hW
  unfold State.doubt
  repeat' first
    | intro _
    | with_reducible assumption
    | (extract_lets +onlyGivenNames x; refine Frame.cut (W := W) (s0 := s0) x ?_ ?_; unfold x; clear x; rotate_left; clear_value x; revert x; intro _ _)
    | (extract_lets +onlyGivenNames x; clear_value x; revert x; intro _)
    | with_reducible refine State.each_frame ?_ ?_
    | with_reducible refine State.setEntry_frame w0 ?_
    | with_reducible refine Frame.ite ?_ ?_
    | with_reducible refine Frame.foldl ?_ _ _ ?_
    | split
    | with_reducible refine Frame.of_snd (by with_reducible assumption) ?_
    | with_reducible refine Frame.of_fst (by with_reducible assumption) ?_
    | with_reducible refine Frame.snd_mk ?_
    | with_reducible refine Frame.fst_mk ?_

def State.countError_mask : Nat := 0x6020000000000001180000000000001bc40000000000000000008800000000000000000000000234cc000
theorem State.countError_frame {W : Nat} {s0 s : State} {n : Nat} {cause : Nat} (hW : Within State.countError_mask W) (h : Frame W s0 s) :
    Frame W s0 (State.countError s n cause) := by
  have b215 := hW.bit (n := 215) (by decide)
  have w1 := Within.trans (a := State.setChan_mask) rfl hW
  have w2 := Within.trans (a := State.raise_mask) rfl hW
  have w3 := Within.trans (a := State.doubt_mask) rfl hW
  have w4 := Within.trans (a := State.posFault_mask) rfl hW
  unfold State.countError
  repeat' first
    | intro _
    | with_reducible assumption
    | (extract_lets +onlyGivenNames x; refine Frame.cut (W := W) (s0 := s0) x ?_ ?_; unfold x; clear x; rotate_left; clear_value x; revert x; intro _ _)
    | (extract_lets +onlyGivenNames x; clear_value x; revert x; intro _)
    | with_reducible refine State.inc_frame (F.MOT_CH_ERR_errors_kind _) b215 ?_
    | with_reducible refine State.setChan_frame w1 ?_
    | with_reducible refine State.raise_frame w2 ?_
    | with_reducible refine State.doubt_frame w3 ?_
    | with_reducible refine State.posFault_frame w4 ?_
    | with_reducible refine Frame.ite ?_ ?_
    | with_reducible refine Frame.foldl ?_ _ _ ?_
    | split
    | with_reducible refine Frame.of_snd (by with_reducible assumption) ?_
    | with_reducible refine Frame.of_fst (by with_reducible assumption) ?_
    | with_reducible refine Frame.snd_mk ?_
    | with_reducible refine Frame.fst_mk ?_

def State.stepCount_mask : Nat := 0x3c4000000000000000000000000000000000000000000000004000
theorem State.stepCount_frame {W : Nat} {s0 s : State} {n : Nat} {d : Int} (hW : Within State.stepCount_mask W) (h : Frame W s0 s) :
    Frame W s0 (State.stepCount s n d) := by
  have b210 := hW.bit (n := 210) (by decide)
  have w0 := Within.trans (a := State.setChan_mask) rfl hW
  have w1 := Within.trans (a := State.startDividers_mask) rfl hW
  have w2 := Within.trans (a := State.chooseMethod_mask) rfl hW
  have w3 := Within.trans (a := State.showChan_mask) rfl hW
  unfold State.stepCount
  repeat' first
    | intro _
    | with_reducible assumption
    | (extract_lets +onlyGivenNames x; refine Frame.cut (W := W) (s0 := s0) x ?_ ?_; unfold x; clear x; rotate_left; clear_value x; revert x; intro _ _)
    | (extract_lets +onlyGivenNames x; clear_value x; revert x; intro _)
    | with_reducible refine State.set_frame (F.MOT_CH_STATUS_count_state_kind _) b210 ?_
    | with_reducible refine State.setChan_frame w0 ?_
    | with_reducible refine State.startDividers_frame w1 ?_
    | with_reducible refine State.chooseMethod_frame w2 ?_
    | with_reducible refine State.showChan_frame w3 ?_
    | with_reducible refine Frame.ite ?_ ?_
    | with_reducible refine Frame.foldl ?_ _ _ ?_
    | split
    | with_reducible refine Frame.of_snd (by with_reducible assumption) ?_
    | with_reducible refine Frame.of_fst (by with_reducible assumption) ?_
    | with_reducible refine Frame.snd_mk ?_
    | with_reducible refine Frame.fst_mk ?_

def execCountChange_mask : Nat := 0x6020000000000001980000000005001bc40000000000000000008800000000000000000000000234cc000
theorem execCountChange_frame {s nx : State} {n : ChanId} {levels : BitVec 3} (e : execCountChange n levels s = .next nx) : Frame execCountChange_mask s nx := by
  refine State.run_frame rfl (fun W s0 s hW h => ?_) e
  have w0 := Within.trans (a := State.countError_mask) rfl hW
  have w1 := Within.trans (a := State.setChan_mask) rfl hW
  have w2 := Within.trans (a := State.stepCount_mask) rfl hW
  repeat' first
    | intro _
    | with_reducible assumption
    | (extract_lets +onlyGivenNames x; refine Frame.cut (W := W) (s0 := s0) x ?_ ?_; unfold x; clear x; rotate_left; clear_value x; revert x; intro _ _)
    | (extract_lets +onlyGivenNames x; clear_value x; revert x; intro _)
    | with_reducible refine State.countError_frame w0 ?_
    | with_reducible refine State.setChan_frame w1 ?_
    | with_reducible refine State.stepCount_frame w2 ?_
    | with_reducible refine Frame.ite ?_ ?_
    | with_reducible refine Frame.foldl ?_ _ _ ?_
    | split
    | with_reducible refine Frame.of_snd (by with_reducible assumption) ?_
    | with_reducible refine Frame.of_fst (by with_reducible assumption) ?_
    | with_reducible refine Frame.snd_mk ?_
    | with_reducible refine Frame.fst_mk ?_

def execIndexPulse_mask : Nat := 0x6020000000000001980000000005001fc40000000000000000008800000000000000000000000234cc000
theorem execIndexPulse_frame {s nx : State} {n : ChanId} (e : execIndexPulse n s = .next nx) : Frame execIndexPulse_mask s nx := by
  refine State.run_frame rfl (fun W s0 s hW h => ?_) e
  have b214 := hW.bit (n := 214) (by decide)
  have w0 := Within.trans (a := State.setChan_mask) rfl hW
  have w1 := Within.trans (a := State.countError_mask) rfl hW
  repeat' first
    | intro _
    | with_reducible assumption
    | (extract_lets +onlyGivenNames x; refine Frame.cut (W := W) (s0 := s0) x ?_ ?_; unfold x; clear x; rotate_left; clear_value x; revert x; intro _ _)
    | (extract_lets +onlyGivenNames x; clear_value x; revert x; intro _)
    | with_reducible refine State.set_frame (F.MOT_CH_INDEX_count_kind _) b214 ?_
    | with_reducible refine State.setChan_frame w0 ?_
    | with_reducible refine State.countError_frame w1 ?_
    | with_reducible refine Frame.ite ?_ ?_
    | with_reducible refine Frame.foldl ?_ _ _ ?_
    | split
    | with_reducible refine Frame.of_snd (by with_reducible assumption) ?_
    | with_reducible refine Frame.of_fst (by with_reducible assumption) ?_
    | with_reducible refine Frame.snd_mk ?_
    | with_reducible refine Frame.fst_mk ?_

def execSerialSample_mask : Nat := 0x80000000000500000000000000000000000000000000000000000000000000000c000
theorem execSerialSample_frame {s nx : State} {n : ChanId} (e : execSerialSample n s = .next nx) : Frame execSerialSample_mask s nx := by
  refine State.run_frame rfl (fun W s0 s hW h => ?_) e
  have w0 := Within.trans (a := State.setChan_mask) rfl hW
  repeat' first
    | intro _
    | with_reducible assumption
    | (extract_lets +onlyGivenNames x; refine Frame.cut (W := W) (s0 := s0) x ?_ ?_; unfold x; clear x; rotate_left; clear_value x; revert x; intro _ _)
    | (extract_lets +onlyGivenNames x; clear_value x; revert x; intro _)
    | with_reducible refine State.setChan_frame w0 ?_
    | with_reducible refine Frame.ite ?_ ?_
    | with_reducible refine Frame.foldl ?_ _ _ ?_
    | split
    | with_reducible refine Frame.of_snd (by with_reducible assumption) ?_
    | with_reducible refine Frame.of_fst (by with_reducible assumption) ?_

def execSerialFrameDone_mask : Nat := 0x6020000000000001980000000005001bc40000000000000000008800000000000000000000000234cc000
theorem execSerialFrameDone_frame {s nx : State} {n : ChanId} {f : SerialFrame} (e : execSerialFrameDone n f s = .next nx) : Frame execSerialFrameDone_mask s nx := by
  refine State.run_frame rfl (fun W s0 s hW h => ?_) e
  have b215 := hW.bit (n := 215) (by decide)
  have b210 := hW.bit (n := 210) (by decide)
  have w0 := Within.trans (a := State.setChan_mask) rfl hW
  have w1 := Within.trans (a := State.countError_mask) rfl hW
  have w2 := Within.trans (a := State.posFault_mask) rfl hW
  have w3 := Within.trans (a := State.startDividers_mask) rfl hW
  have w4 := Within.trans (a := State.chooseMethod_mask) rfl hW
  have w5 := Within.trans (a := State.showChan_mask) rfl hW
  repeat' first
    | intro _
    | with_reducible assumption
    | (extract_lets +onlyGivenNames x; refine Frame.cut (W := W) (s0 := s0) x ?_ ?_; unfold x; clear x; rotate_left; clear_value x; revert x; intro _ _)
    | (extract_lets +onlyGivenNames x; clear_value x; revert x; intro _)
    | with_reducible refine State.inc_frame (F.MOT_CH_ERR_warnings_kind _) b215 ?_
    | with_reducible refine State.set_frame (F.MOT_CH_STATUS_bad_run_kind _) b210 ?_
    | with_reducible refine State.inc_frame (F.MOT_CH_STATUS_bad_run_kind _) b210 ?_
    | with_reducible refine State.set_frame (F.MOT_CH_STATUS_count_state_kind _) b210 ?_
    | with_reducible refine State.setChan_frame w0 ?_
    | with_reducible refine State.countError_frame w1 ?_
    | with_reducible refine State.posFault_frame w2 ?_
    | with_reducible refine State.startDividers_frame w3 ?_
    | with_reducible refine State.chooseMethod_frame w4 ?_
    | with_reducible refine State.showChan_frame w5 ?_
    | with_reducible refine Frame.ite ?_ ?_
    | with_reducible refine Frame.foldl ?_ _ _ ?_
    | split
    | with_reducible refine Frame.of_snd (by with_reducible assumption) ?_
    | with_reducible refine Frame.of_fst (by with_reducible assumption) ?_
    | with_reducible refine Frame.snd_mk ?_
    | with_reducible refine Frame.fst_mk ?_

def execAmplitudeLoss_mask : Nat := 0x60200000000000019800000000050013c40000000000000000008800000000000000000000000234cc000
theorem execAmplitudeLoss_frame {s nx : State} {n : ChanId} (e : execAmplitudeLoss n s = .next nx) : Frame execAmplitudeLoss_mask s nx := by
  refine State.run_frame rfl (fun W s0 s hW h => ?_) e
  have w0 := Within.trans (a := State.posFault_mask) rfl hW
  have w1 := Within.trans (a := State.setChan_mask) rfl hW
  repeat' first
    | intro _
    | with_reducible assumption
    | (extract_lets +onlyGivenNames x; refine Frame.cut (W := W) (s0 := s0) x ?_ ?_; unfold x; clear x; rotate_left; clear_value x; revert x; intro _ _)
    | (extract_lets +onlyGivenNames x; clear_value x; revert x; intro _)
    | with_reducible refine State.posFault_frame w0 ?_
    | with_reducible refine State.setChan_frame w1 ?_
    | with_reducible refine Frame.ite ?_ ?_
    | with_reducible refine Frame.foldl ?_ _ _ ?_
    | split
    | with_reducible refine Frame.of_snd (by with_reducible assumption) ?_
    | with_reducible refine Frame.of_fst (by with_reducible assumption) ?_

def execAmplitudeReturn_mask : Nat := 0x80000000000500000000000000000000000000000000000000000000000000000c000
theorem execAmplitudeReturn_frame {s nx : State} {n : ChanId} (e : execAmplitudeReturn n s = .next nx) : Frame execAmplitudeReturn_mask s nx := by
  refine State.run_frame rfl (fun W s0 s hW h => ?_) e
  have w0 := Within.trans (a := State.setChan_mask) rfl hW
  repeat' first
    | intro _
    | with_reducible assumption
    | (extract_lets +onlyGivenNames x; refine Frame.cut (W := W) (s0 := s0) x ?_ ?_; unfold x; clear x; rotate_left; clear_value x; revert x; intro _ _)
    | (extract_lets +onlyGivenNames x; clear_value x; revert x; intro _)
    | with_reducible refine State.setChan_frame w0 ?_
    | with_reducible refine Frame.ite ?_ ?_
    | with_reducible refine Frame.foldl ?_ _ _ ?_
    | split
    | with_reducible refine Frame.of_snd (by with_reducible assumption) ?_
    | with_reducible refine Frame.of_fst (by with_reducible assumption) ?_

def State.speedSample_mask : Nat := 0x3c4000000000000000000000000000000000000000000000000000
theorem State.speedSample_frame {W : Nat} {s0 s : State} (hW : Within State.speedSample_mask W) (h : Frame W s0 s) :
    Frame W s0 (State.speedSample s) := by
  have w0 := Within.trans (a := State.chooseMethod_mask) rfl hW
  have w1 := Within.trans (a := State.showChan_mask) rfl hW
  unfold State.speedSample
  repeat' first
    | intro _
    | with_reducible assumption
    | (extract_lets +onlyGivenNames x; refine Frame.cut (W := W) (s0 := s0) x ?_ ?_; unfold x; clear x; rotate_left; clear_value x; revert x; intro _ _)
    | (extract_lets +onlyGivenNames x; clear_value x; revert x; intro _)
    | with_reducible refine State.chooseMethod_frame w0 ?_
    | with_reducible refine State.showChan_frame w1 ?_
    | with_reducible refine State.each_frame ?_ ?_
    | with_reducible refine Frame.ite ?_ ?_
    | with_reducible refine Frame.foldl ?_ _ _ ?_
    | split
    | with_reducible refine Frame.of_snd (by with_reducible assumption) ?_
    | with_reducible refine Frame.of_fst (by with_reducible assumption) ?_
    | with_reducible refine Frame.snd_mk ?_
    | with_reducible refine Frame.fst_mk ?_

def execSpeedStandstill_mask : Nat := 0x8000000000050003c4000000000000000000000000000000000000000000000008000
theorem execSpeedStandstill_frame {s nx : State} {n : ChanId} (e : execSpeedStandstill n s = .next nx) : Frame execSpeedStandstill_mask s nx := by
  refine State.run_frame rfl (fun W s0 s hW h => ?_) e
  have b210 := hW.bit (n := 210) (by decide)
  have w0 := Within.trans (a := State.showChan_mask) rfl hW
  repeat' first
    | intro _
    | with_reducible assumption
    | (extract_lets +onlyGivenNames x; refine Frame.cut (W := W) (s0 := s0) x ?_ ?_; unfold x; clear x; rotate_left; clear_value x; revert x; intro _ _)
    | (extract_lets +onlyGivenNames x; clear_value x; revert x; intro _)
    | with_reducible refine State.set_frame (F.MOT_CH_STATUS_speed_state_kind _) b210 ?_
    | with_reducible refine State.showChan_frame w0 ?_
    | with_reducible refine Frame.ite ?_ ?_
    | with_reducible refine Frame.foldl ?_ _ _ ?_
    | split
    | with_reducible refine Frame.of_snd (by with_reducible assumption) ?_
    | with_reducible refine Frame.of_fst (by with_reducible assumption) ?_
    | with_reducible refine Frame.snd_mk ?_
    | with_reducible refine Frame.fst_mk ?_

def State.motStatus_mask : Nat := 0x10000000000000000000000000000000000000000000000000000
theorem State.motStatus_frame {W : Nat} {s0 s : State} {i : Port} {code : Nat} {reason : Nat} (hW : Within State.motStatus_mask W) (h : Frame W s0 s) :
    Frame W s0 (State.motStatus s i code reason) := by
  have b208 := hW.bit (n := 208) (by decide)
  unfold State.motStatus
  repeat' first
    | intro _
    | with_reducible assumption
    | (extract_lets +onlyGivenNames x; refine Frame.cut (W := W) (s0 := s0) x ?_ ?_; unfold x; clear x; rotate_left; clear_value x; revert x; intro _ _)
    | (extract_lets +onlyGivenNames x; clear_value x; revert x; intro _)
    | with_reducible refine State.set_frame (F.MOT_CMD_STATUS_reason_kind _) b208 ?_
    | with_reducible refine State.set_frame (F.MOT_CMD_STATUS_code_kind _) b208 ?_
    | with_reducible refine Frame.ite ?_ ?_
    | with_reducible refine Frame.foldl ?_ _ _ ?_
    | split
    | with_reducible refine Frame.of_snd (by with_reducible assumption) ?_
    | with_reducible refine Frame.of_fst (by with_reducible assumption) ?_
    | with_reducible refine Frame.snd_mk ?_
    | with_reducible refine Frame.fst_mk ?_

def execClearFault_mask : Nat := 0x60200000000000008800000000050003d400000000000000000000000000000000000000000002208c000
theorem execClearFault_frame {s nx : State} {i : Port} {n : ChanId} (e : execClearFault i n s = .next nx) : Frame execClearFault_mask s nx := by
  refine State.run_frame rfl (fun W s0 s hW h => ?_) e
  have b210 := hW.bit (n := 210) (by decide)
  have w0 := Within.trans (a := State.raise_mask) rfl hW
  have w1 := Within.trans (a := State.motStatus_mask) rfl hW
  have w2 := Within.trans (a := State.setChan_mask) rfl hW
  have w3 := Within.trans (a := State.startDividers_mask) rfl hW
  have w4 := Within.trans (a := State.causeOff_mask) rfl hW
  have w5 := Within.trans (a := State.showChan_mask) rfl hW
  repeat' first
    | intro _
    | with_reducible assumption
    | (extract_lets +onlyGivenNames x; refine Frame.cut (W := W) (s0 := s0) x ?_ ?_; unfold x; clear x; rotate_left; clear_value x; revert x; intro _ _)
    | (extract_lets +onlyGivenNames x; clear_value x; revert x; intro _)
    | with_reducible refine State.set_frame (F.MOT_CH_STATUS_count_state_kind _) b210 ?_
    | with_reducible refine State.set_frame (F.MOT_CH_STATUS_fault_cause_kind _) b210 ?_
    | with_reducible refine State.set_frame (F.MOT_CH_STATUS_bad_run_kind _) b210 ?_
    | with_reducible refine State.raise_frame w0 ?_
    | with_reducible refine State.motStatus_frame w1 ?_
    | with_reducible refine State.setChan_frame w2 ?_
    | with_reducible refine State.startDividers_frame w3 ?_
    | with_reducible refine State.causeOff_frame w4 ?_
    | with_reducible refine State.showChan_frame w5 ?_
    | with_reducible refine Frame.ite ?_ ?_
    | with_reducible refine Frame.foldl ?_ _ _ ?_
    | split
    | with_reducible refine Frame.of_snd (by with_reducible assumption) ?_
    | with_reducible refine Frame.of_fst (by with_reducible assumption) ?_
    | with_reducible refine Frame.snd_mk ?_
    | with_reducible refine Frame.fst_mk ?_

def execArm_mask : Nat := 0x60200000000000019800000000050090000000000000000000008c00000000000000000000000234cc000
theorem execArm_frame {s nx : State} {p : Part} {r : List Byte} (e : execArm p r s = .next nx) : Frame execArm_mask s nx := by
  refine State.run_frame rfl (fun W s0 s hW h => ?_) e
  have b219 := hW.bit (n := 219) (by decide)
  have w1 := Within.trans (a := State.openSubject_mask) rfl hW
  have w2 := Within.trans (a := State.raise_mask) rfl hW
  have w3 := Within.trans (a := State.settle_mask) rfl hW
  have w4 := Within.trans (a := State.enterSafe_mask) rfl hW
  have w5 := Within.trans (a := State.setEntry_mask) rfl hW
  have w6 := Within.trans (a := State.setChan_mask) rfl hW
  repeat' first
    | intro _
    | with_reducible assumption
    | (extract_lets +onlyGivenNames x; refine Frame.cut (W := W) (s0 := s0) x ?_ ?_; unfold x; clear x; rotate_left; clear_value x; revert x; intro _ _)
    | (extract_lets +onlyGivenNames x; clear_value x; revert x; intro _)
    | with_reducible refine State.inc_frame (F.MOT_CH_LATE_refused_kind _) b219 ?_
    | with_reducible refine State.openSubject_frame w1 ?_
    | with_reducible refine State.raise_frame w2 ?_
    | with_reducible refine State.settle_frame w3 ?_
    | with_reducible refine State.enterSafe_frame w4 ?_
    | with_reducible refine State.setEntry_frame w5 ?_
    | with_reducible refine State.setChan_frame w6 ?_
    | with_reducible refine Frame.ite ?_ ?_
    | with_reducible refine Frame.foldl ?_ _ _ ?_
    | split
    | with_reducible refine Frame.of_snd (by with_reducible assumption) ?_
    | with_reducible refine Frame.of_fst (by with_reducible assumption) ?_

def execMilepostFire_mask : Nat := 0x602000000000000080000000000501300000000000000000000000000000000000000000000002204c000
theorem execMilepostFire_frame {s nx : State} {n : ChanId} (e : execMilepostFire n s = .next nx) : Frame execMilepostFire_mask s nx := by
  refine State.run_frame rfl (fun W s0 s hW h => ?_) e
  have w0 := Within.trans (a := State.fireEntry_mask) rfl hW
  repeat' first
    | intro _
    | with_reducible assumption
    | (extract_lets +onlyGivenNames x; refine Frame.cut (W := W) (s0 := s0) x ?_ ?_; unfold x; clear x; rotate_left; clear_value x; revert x; intro _ _)
    | (extract_lets +onlyGivenNames x; clear_value x; revert x; intro _)
    | with_reducible refine State.each_frame ?_ ?_
    | with_reducible refine State.fireEntry_frame w0 ?_
    | with_reducible refine Frame.ite ?_ ?_
    | with_reducible refine Frame.foldl ?_ _ _ ?_
    | split
    | with_reducible refine Frame.of_snd (by with_reducible assumption) ?_
    | with_reducible refine Frame.of_fst (by with_reducible assumption) ?_

def execPulseStepEnd_mask : Nat := 0x80000000000500100000000000000000000000000000000000000000000000000c000
theorem execPulseStepEnd_frame {s nx : State} {n : ChanId} {e : Fin 4096} (e : execPulseStepEnd n e s = .next nx) : Frame execPulseStepEnd_mask s nx := by
  refine State.run_frame rfl (fun W s0 s hW h => ?_) e
  have w0 := Within.trans (a := State.endPulse_mask) rfl hW
  have w1 := Within.trans (a := State.beginStep_mask) rfl hW
  repeat' first
    | intro _
    | with_reducible assumption
    | (extract_lets +onlyGivenNames x; refine Frame.cut (W := W) (s0 := s0) x ?_ ?_; unfold x; clear x; rotate_left; clear_value x; revert x; intro _ _)
    | (extract_lets +onlyGivenNames x; clear_value x; revert x; intro _)
    | with_reducible refine State.endPulse_frame w0 ?_
    | with_reducible refine State.beginStep_frame w1 ?_
    | with_reducible refine Frame.ite ?_ ?_
    | with_reducible refine Frame.foldl ?_ _ _ ?_
    | split
    | with_reducible refine Frame.of_snd (by with_reducible assumption) ?_
    | with_reducible refine Frame.of_fst (by with_reducible assumption) ?_

def execPulseMaxOn_mask : Nat := 0x602000000000000080000000000500100000000000000000000000000000000000000000000002200c000
theorem execPulseMaxOn_frame {s nx : State} {n : ChanId} {e : Fin 4096} (e : execPulseMaxOn n e s = .next nx) : Frame execPulseMaxOn_mask s nx := by
  refine State.run_frame rfl (fun W s0 s hW h => ?_) e
  have w0 := Within.trans (a := State.endPulse_mask) rfl hW
  have w1 := Within.trans (a := State.raiseAt_mask) rfl hW
  repeat' first
    | intro _
    | with_reducible assumption
    | (extract_lets +onlyGivenNames x; refine Frame.cut (W := W) (s0 := s0) x ?_ ?_; unfold x; clear x; rotate_left; clear_value x; revert x; intro _ _)
    | (extract_lets +onlyGivenNames x; clear_value x; revert x; intro _)
    | with_reducible refine State.endPulse_frame w0 ?_
    | with_reducible refine State.raiseAt_frame w1 ?_
    | with_reducible refine Frame.ite ?_ ?_
    | with_reducible refine Frame.foldl ?_ _ _ ?_
    | split
    | with_reducible refine Frame.of_snd (by with_reducible assumption) ?_
    | with_reducible refine Frame.of_fst (by with_reducible assumption) ?_

def execNoVerdict_mask : Nat := 0x6020000000000000800000000005000000000000000000000000880000000000000000000000023448000
theorem execNoVerdict_frame {s nx : State} {p : Part} {tag : BitVec 32} (e : execNoVerdict p tag s = .next nx) : Frame execNoVerdict_mask s nx := by
  refine State.run_frame rfl (fun W s0 s hW h => ?_) e
  have w0 := Within.trans (a := State.settle_mask) rfl hW
  have w1 := Within.trans (a := State.raise_mask) rfl hW
  repeat' first
    | intro _
    | with_reducible assumption
    | (extract_lets +onlyGivenNames x; refine Frame.cut (W := W) (s0 := s0) x ?_ ?_; unfold x; clear x; rotate_left; clear_value x; revert x; intro _ _)
    | (extract_lets +onlyGivenNames x; clear_value x; revert x; intro _)
    | with_reducible refine State.each_frame ?_ ?_
    | with_reducible refine State.settle_frame w0 ?_
    | with_reducible refine State.raise_frame w1 ?_
    | with_reducible refine Frame.ite ?_ ?_
    | with_reducible refine Frame.foldl ?_ _ _ ?_
    | split
    | with_reducible refine Frame.of_snd (by with_reducible assumption) ?_
    | with_reducible refine Frame.of_fst (by with_reducible assumption) ?_

end Sys2Proof.Machine
end

