-- ==== Sys2Proof/Laws/Fio.lean ====
section
/-! SUPPORT. What the operations of Machine/Fio.lean change: each differs from its argument in the areas of its mask alone. -/

set_option linter.all false

namespace Sys2Proof.Machine

def State.setDivider_mask : Nat := 0x4000
theorem State.setDivider_frame {W : Nat} {s0 s : State} {d : Nat} {v : Divider} (hW : Within State.setDivider_mask W) (h : Frame W s0 s) :
    Frame W s0 (State.setDivider s d v) := by
  have b14 := hW.bit (n := 14) (by decide)
  unfold State.setDivider
  repeat' first
    | intro _
    | with_reducible assumption
    | (extract_lets +onlyGivenNames x; refine Frame.cut (W := W) (s0 := s0) x ?_ ?_; unfold x; clear x; rotate_left; clear_value x; revert x; intro _ _)
    | (extract_lets +onlyGivenNames x; clear_value x; revert x; intro _)
    | with_reducible refine Frame.ite ?_ ?_
    | with_reducible refine Frame.foldl ?_ _ _ ?_
    | split
    | with_reducible refine Frame.of_snd (by with_reducible assumption) ?_
    | with_reducible refine Frame.of_fst (by with_reducible assumption) ?_
    | with_reducible refine Frame.snd_mk ?_
    | with_reducible refine Frame.fst_mk ?_
    | with_reducible refine Frame.motion_upd b14 ?_

def State.recordTrigger_mask : Nat := 0x800
theorem State.recordTrigger_frame {W : Nat} {s0 s : State} {n : Nat} {k : Nat} {number : Nat} {count : Nat} (hW : Within State.recordTrigger_mask W) (h : Frame W s0 s) :
    Frame W s0 (State.recordTrigger s n k number count) := by
  have w0 := Within.trans (a := State.setStream_mask) rfl hW
  unfold State.recordTrigger
  repeat' first
    | intro _
    | with_reducible assumption
    | (extract_lets +onlyGivenNames x; refine Frame.cut (W := W) (s0 := s0) x ?_ ?_; unfold x; clear x; rotate_left; clear_value x; revert x; intro _ _)
    | (extract_lets +onlyGivenNames x; clear_value x; revert x; intro _)
    | with_reducible refine State.setStream_frame w0 ?_
    | with_reducible refine Frame.ite ?_ ?_
    | with_reducible refine Frame.foldl ?_ _ _ ?_
    | split
    | with_reducible refine Frame.of_snd (by with_reducible assumption) ?_
    | with_reducible refine Frame.of_fst (by with_reducible assumption) ?_
    | with_reducible refine Frame.snd_mk ?_
    | with_reducible refine Frame.fst_mk ?_

def State.emitTrigger_mask : Nat := 0x200000000000000000000000000000000000000000000000000000800
theorem State.emitTrigger_frame {W : Nat} {s0 s : State} {d : Nat} {c : Nat} (hW : Within State.emitTrigger_mask W) (h : Frame W s0 s) :
    Frame W s0 (State.emitTrigger s d c) := by
  have b225 := hW.bit (n := 225) (by decide)
  have w1 := Within.trans (a := State.sendTrigger_mask) rfl hW
  have w2 := Within.trans (a := State.recordTrigger_mask) rfl hW
  unfold State.emitTrigger
  repeat' first
    | intro _
    | with_reducible assumption
    | (extract_lets +onlyGivenNames x; refine Frame.cut (W := W) (s0 := s0) x ?_ ?_; unfold x; clear x; rotate_left; clear_value x; revert x; intro _ _)
    | (extract_lets +onlyGivenNames x; clear_value x; revert x; intro _)
    | with_reducible refine State.incWrap_frame (F.MOT_DIV_TRIG_next_kind _) b225 ?_
    | with_reducible refine State.each_frame ?_ ?_
    | with_reducible refine State.sendTrigger_frame w1 ?_
    | with_reducible refine State.recordTrigger_frame w2 ?_
    | with_reducible refine Frame.ite ?_ ?_
    | with_reducible refine Frame.foldl ?_ _ _ ?_
    | split
    | with_reducible refine Frame.of_snd (by with_reducible assumption) ?_
    | with_reducible refine Frame.of_fst (by with_reducible assumption) ?_
    | with_reducible refine Frame.snd_mk ?_
    | with_reducible refine Frame.fst_mk ?_

def execDividerTrigger_mask : Nat := 0x602000000000000080000000000520100000000000000000000000000000000000000000000002200c800
theorem execDividerTrigger_frame {s nx : State} {d : Fin 8} (e : execDividerTrigger d s = .next nx) : Frame execDividerTrigger_mask s nx := by
  refine State.run_frame rfl (fun W s0 s hW h => ?_) e
  have b225 := hW.bit (n := 225) (by decide)
  have w1 := Within.trans (a := State.emitTrigger_mask) rfl hW
  have w2 := Within.trans (a := State.setDivider_mask) rfl hW
  have w3 := Within.trans (a := State.raise_mask) rfl hW
  have w4 := Within.trans (a := State.doubt_mask) rfl hW
  repeat' first
    | intro _
    | with_reducible assumption
    | (extract_lets +onlyGivenNames x; refine Frame.cut (W := W) (s0 := s0) x ?_ ?_; unfold x; clear x; rotate_left; clear_value x; revert x; intro _ _)
    | (extract_lets +onlyGivenNames x; clear_value x; revert x; intro _)
    | with_reducible refine State.inc_frame (F.MOT_DIV_TRIG_dropped_kind _) b225 ?_
    | with_reducible refine State.emitTrigger_frame w1 ?_
    | with_reducible refine State.setDivider_frame w2 ?_
    | with_reducible refine State.raise_frame w3 ?_
    | with_reducible refine State.doubt_frame w4 ?_
    | with_reducible refine Frame.ite ?_ ?_
    | with_reducible refine Frame.foldl ?_ _ _ ?_
    | split
    | with_reducible refine Frame.of_snd (by with_reducible assumption) ?_
    | with_reducible refine Frame.of_fst (by with_reducible assumption) ?_

def execTriggerRelease_mask : Nat := 0x80000000000520000000000000000000000000000000000000000000000000000c800
theorem execTriggerRelease_frame {s nx : State} {d : Fin 8} (e : execTriggerRelease d s = .next nx) : Frame execTriggerRelease_mask s nx := by
  refine State.run_frame rfl (fun W s0 s hW h => ?_) e
  have w0 := Within.trans (a := State.setDivider_mask) rfl hW
  have w1 := Within.trans (a := State.emitTrigger_mask) rfl hW
  repeat' first
    | intro _
    | with_reducible assumption
    | (extract_lets +onlyGivenNames x; refine Frame.cut (W := W) (s0 := s0) x ?_ ?_; unfold x; clear x; rotate_left; clear_value x; revert x; intro _ _)
    | (extract_lets +onlyGivenNames x; clear_value x; revert x; intro _)
    | with_reducible refine State.setDivider_frame w0 ?_
    | with_reducible refine State.emitTrigger_frame w1 ?_
    | with_reducible refine Frame.ite ?_ ?_
    | with_reducible refine Frame.foldl ?_ _ _ ?_
    | split
    | with_reducible refine Frame.of_snd (by with_reducible assumption) ?_
    | with_reducible refine Frame.of_fst (by with_reducible assumption) ?_

def execPulseWidthEnd_mask : Nat := 0x80000000000500000000000000000000000000000000000000000000000000000c000
theorem execPulseWidthEnd_frame {s nx : State} {d : Fin 8} (e : execPulseWidthEnd d s = .next nx) : Frame execPulseWidthEnd_mask s nx := by
  refine State.run_frame rfl (fun W s0 s hW h => ?_) e
  have w0 := Within.trans (a := State.setDivider_mask) rfl hW
  repeat' first
    | intro _
    | with_reducible assumption
    | (extract_lets +onlyGivenNames x; refine Frame.cut (W := W) (s0 := s0) x ?_ ?_; unfold x; clear x; rotate_left; clear_value x; revert x; intro _ _)
    | (extract_lets +onlyGivenNames x; clear_value x; revert x; intro _)
    | with_reducible refine State.setDivider_frame w0 ?_
    | with_reducible refine Frame.ite ?_ ?_
    | with_reducible refine Frame.foldl ?_ _ _ ?_
    | split
    | with_reducible refine Frame.of_snd (by with_reducible assumption) ?_
    | with_reducible refine Frame.of_fst (by with_reducible assumption) ?_

def State.settleInput_mask : Nat := 0x2000000000000000000000000000000000000000000000000000008000
theorem State.settleInput_frame {W : Nat} {s0 s : State} {i : Nat} {level : Bool} (hW : Within State.settleInput_mask W) (h : Frame W s0 s) :
    Frame W s0 (State.settleInput s i level) := by
  have b229 := hW.bit (n := 229) (by decide)
  have b15 := hW.bit (n := 15) (by decide)
  unfold State.settleInput
  repeat' first
    | intro _
    | with_reducible assumption
    | (extract_lets +onlyGivenNames x; refine Frame.cut (W := W) (s0 := s0) x ?_ ?_; unfold x; clear x; rotate_left; clear_value x; revert x; intro _ _)
    | (extract_lets +onlyGivenNames x; clear_value x; revert x; intro _)
    | with_reducible refine State.setBit_frame (F.FIO_IN_state_kind) b229 ?_
    | with_reducible refine Frame.ite ?_ ?_
    | with_reducible refine Frame.foldl ?_ _ _ ?_
    | split
    | with_reducible refine Frame.of_snd (by with_reducible assumption) ?_
    | with_reducible refine Frame.of_fst (by with_reducible assumption) ?_
    | with_reducible refine Frame.snd_mk ?_
    | with_reducible refine Frame.fst_mk ?_
    | with_reducible refine Frame.fio_upd b15 ?_

def State.settleField_mask : Nat := 0x2000000000000000000000000000000000000000000000000000008000
theorem State.settleField_frame {W : Nat} {s0 s : State} (hW : Within State.settleField_mask W) (h : Frame W s0 s) :
    Frame W s0 (State.settleField s) := by
  have w0 := Within.trans (a := State.settleInput_mask) rfl hW
  unfold State.settleField
  repeat' first
    | intro _
    | with_reducible assumption
    | (extract_lets +onlyGivenNames x; refine Frame.cut (W := W) (s0 := s0) x ?_ ?_; unfold x; clear x; rotate_left; clear_value x; revert x; intro _ _)
    | (extract_lets +onlyGivenNames x; clear_value x; revert x; intro _)
    | with_reducible refine State.settleInput_frame w0 ?_
    | with_reducible refine State.each_frame ?_ ?_
    | with_reducible refine Frame.ite ?_ ?_
    | with_reducible refine Frame.foldl ?_ _ _ ?_
    | split
    | with_reducible refine Frame.of_snd (by with_reducible assumption) ?_
    | with_reducible refine Frame.of_fst (by with_reducible assumption) ?_
    | with_reducible refine Frame.snd_mk ?_
    | with_reducible refine Frame.fst_mk ?_

def execFieldInputChange_mask : Nat := 0x800000000307000000000000000000000000000000000000000000000000000008000
theorem execFieldInputChange_frame {s nx : State} {i : Fin 32} {level : Bool} (e : execFieldInputChange i level s = .next nx) : Frame execFieldInputChange_mask s nx := by
  refine State.run_frame rfl (fun W s0 s hW h => ?_) e
  have b229 := hW.bit (n := 229) (by decide)
  have b236 := hW.bit (n := 236) (by decide)
  have b237 := hW.bit (n := 237) (by decide)
  have w0 := Within.trans (a := State.settleInput_mask) rfl hW
  repeat' first
    | intro _
    | with_reducible assumption
    | (extract_lets +onlyGivenNames x; refine Frame.cut (W := W) (s0 := s0) x ?_ ?_; unfold x; clear x; rotate_left; clear_value x; revert x; intro _ _)
    | (extract_lets +onlyGivenNames x; clear_value x; revert x; intro _)
    | with_reducible refine State.setBit_frame (F.FIO_IN_state_kind) b229 ?_
    | with_reducible refine State.set_frame (F.FIO_CAP_COUNT_count_kind _) b236 ?_
    | with_reducible refine State.set_frame (F.FIO_CAP_TIME_ns_kind _) b237 ?_
    | with_reducible refine State.set_frame (F.FIO_CAP_TIME_new_kind _) b237 ?_
    | with_reducible refine State.settleInput_frame w0 ?_
    | with_reducible refine Frame.ite ?_ ?_
    | with_reducible refine Frame.foldl ?_ _ _ ?_
    | split
    | with_reducible refine Frame.of_snd (by with_reducible assumption) ?_
    | with_reducible refine Frame.of_fst (by with_reducible assumption) ?_
    | with_reducible refine Frame.snd_mk ?_
    | with_reducible refine Frame.fst_mk ?_

def State.hostOut_mask : Nat := 0x6020000000000000000000000000000000000000000000000000000000000000000000000000022000000
theorem State.hostOut_frame {W : Nat} {s0 s : State} {i : Port} {mask : Nat} {off : Nat} {f : State → Nat → State} (hW : Within State.hostOut_mask W) (hf_f : ∀ s a0, Frame W s0 s → Frame W s0 (f s a0)) (h : Frame W s0 s) :
    Frame W s0 (State.hostOut s i mask off f) := by
  have w0 := Within.trans (a := State.raise_mask) rfl hW
  unfold State.hostOut
  repeat' first
    | intro _
    | with_reducible assumption
    | (extract_lets +onlyGivenNames x; refine Frame.cut (W := W) (s0 := s0) x ?_ ?_; unfold x; clear x; rotate_left; clear_value x; revert x; intro _ _)
    | (extract_lets +onlyGivenNames x; clear_value x; revert x; intro _)
    | with_reducible refine State.each_frame ?_ ?_
    | with_reducible refine State.raise_frame w0 ?_
    | with_reducible refine Frame.ite ?_ ?_
    | with_reducible apply hf_f
    | with_reducible refine Frame.foldl ?_ _ _ ?_
    | split
    | with_reducible refine Frame.of_snd (by with_reducible assumption) ?_
    | with_reducible refine Frame.of_fst (by with_reducible assumption) ?_
    | with_reducible refine Frame.snd_mk ?_
    | with_reducible refine Frame.fst_mk ?_

def execFioOutSet_mask : Nat := 0x6020000000000000800000000005000000000000000000000000000000000000000000000000022008000
theorem execFioOutSet_frame {s nx : State} {i : Port} {mask : Word} (e : execFioOutSet i mask s = .next nx) : Frame execFioOutSet_mask s nx := by
  refine State.run_frame rfl (fun W s0 s hW h => ?_) e
  have b15 := hW.bit (n := 15) (by decide)
  have w1 := Within.trans (a := State.hostOut_mask) rfl hW
  repeat' first
    | intro _
    | with_reducible assumption
    | (extract_lets +onlyGivenNames x; refine Frame.cut (W := W) (s0 := s0) x ?_ ?_; unfold x; clear x; rotate_left; clear_value x; revert x; intro _ _)
    | (extract_lets +onlyGivenNames x; clear_value x; revert x; intro _)
    | with_reducible refine State.hostOut_frame w1 ?_ ?_
    | with_reducible refine Frame.ite ?_ ?_
    | with_reducible refine Frame.foldl ?_ _ _ ?_
    | split
    | with_reducible refine Frame.of_snd (by with_reducible assumption) ?_
    | with_reducible refine Frame.of_fst (by with_reducible assumption) ?_
    | with_reducible refine Frame.fio_upd b15 ?_

def execFioOutClr_mask : Nat := 0x6020000000000000800000000005000000000000000000000000000000000000000000000000022008000
theorem execFioOutClr_frame {s nx : State} {i : Port} {mask : Word} (e : execFioOutClr i mask s = .next nx) : Frame execFioOutClr_mask s nx := by
  refine State.run_frame rfl (fun W s0 s hW h => ?_) e
  have b15 := hW.bit (n := 15) (by decide)
  have w1 := Within.trans (a := State.hostOut_mask) rfl hW
  repeat' first
    | intro _
    | with_reducible assumption
    | (extract_lets +onlyGivenNames x; refine Frame.cut (W := W) (s0 := s0) x ?_ ?_; unfold x; clear x; rotate_left; clear_value x; revert x; intro _ _)
    | (extract_lets +onlyGivenNames x; clear_value x; revert x; intro _)
    | with_reducible refine State.hostOut_frame w1 ?_ ?_
    | with_reducible refine Frame.ite ?_ ?_
    | with_reducible refine Frame.foldl ?_ _ _ ?_
    | split
    | with_reducible refine Frame.of_snd (by with_reducible assumption) ?_
    | with_reducible refine Frame.of_fst (by with_reducible assumption) ?_
    | with_reducible refine Frame.fio_upd b15 ?_

def State.clearOutput_mask : Nat := 0x800000000000000000000000000000000000000000000000000000000000
theorem State.clearOutput_frame {W : Nat} {s0 s : State} {o : Nat} (hW : Within State.clearOutput_mask W) (h : Frame W s0 s) :
    Frame W s0 (State.clearOutput s o) := by
  have b239 := hW.bit (n := 239) (by decide)
  unfold State.clearOutput
  repeat' first
    | intro _
    | with_reducible assumption
    | (extract_lets +onlyGivenNames x; refine Frame.cut (W := W) (s0 := s0) x ?_ ?_; unfold x; clear x; rotate_left; clear_value x; revert x; intro _ _)
    | (extract_lets +onlyGivenNames x; clear_value x; revert x; intro _)
    | with_reducible refine State.set_frame (F.FIO_OUT_DIAG_isolator_kind _) b239 ?_
    | with_reducible refine State.set_frame (F.FIO_OUT_DIAG_open_wire_kind _) b239 ?_
    | with_reducible refine State.set_frame (F.FIO_OUT_DIAG_latched_kind _) b239 ?_
    | with_reducible refine State.set_frame (F.FIO_OUT_DIAG_overload_kind _) b239 ?_
    | with_reducible refine Frame.ite ?_ ?_
    | with_reducible refine Frame.foldl ?_ _ _ ?_
    | split
    | with_reducible refine Frame.of_snd (by with_reducible assumption) ?_
    | with_reducible refine Frame.of_fst (by with_reducible assumption) ?_
    | with_reducible refine Frame.snd_mk ?_
    | with_reducible refine Frame.fst_mk ?_

def execOutputClear_mask : Nat := 0x6020000000000000800000000805000000000000000000000000000000000000000000000000022008000
theorem execOutputClear_frame {s nx : State} {i : Port} {o : BitVec 6} (e : execOutputClear i o s = .next nx) : Frame execOutputClear_mask s nx := by
  refine State.run_frame rfl (fun W s0 s hW h => ?_) e
  have w0 := Within.trans (a := State.raise_mask) rfl hW
  have w1 := Within.trans (a := State.clearOutput_mask) rfl hW
  repeat' first
    | intro _
    | with_reducible assumption
    | (extract_lets +onlyGivenNames x; refine Frame.cut (W := W) (s0 := s0) x ?_ ?_; unfold x; clear x; rotate_left; clear_value x; revert x; intro _ _)
    | (extract_lets +onlyGivenNames x; clear_value x; revert x; intro _)
    | with_reducible refine State.raise_frame w0 ?_
    | with_reducible refine State.clearOutput_frame w1 ?_
    | with_reducible refine Frame.ite ?_ ?_
    | with_reducible refine Frame.foldl ?_ _ _ ?_
    | split
    | with_reducible refine Frame.of_snd (by with_reducible assumption) ?_
    | with_reducible refine Frame.of_fst (by with_reducible assumption) ?_

def State.markOutFault_mask : Nat := 0x1000000000000000000000000000000000000000000000000044000
theorem State.markOutFault_frame {W : Nat} {s0 s : State} {o : Nat} (hW : Within State.markOutFault_mask W) (h : Frame W s0 s) :
    Frame W s0 (State.markOutFault s o) := by
  have b18 := hW.bit (n := 18) (by decide)
  have w1 := Within.trans (a := State.setEntry_mask) rfl hW
  unfold State.markOutFault
  repeat' first
    | intro _
    | with_reducible assumption
    | (extract_lets +onlyGivenNames x; refine Frame.cut (W := W) (s0 := s0) x ?_ ?_; unfold x; clear x; rotate_left; clear_value x; revert x; intro _ _)
    | (extract_lets +onlyGivenNames x; clear_value x; revert x; intro _)
    | with_reducible refine State.each_frame ?_ ?_
    | with_reducible refine State.setEntry_frame w1 ?_
    | with_reducible refine Frame.ite ?_ ?_
    | with_reducible refine Frame.foldl ?_ _ _ ?_
    | split
    | with_reducible refine Frame.of_snd (by with_reducible assumption) ?_
    | with_reducible refine Frame.of_fst (by with_reducible assumption) ?_
    | with_reducible refine Frame.snd_mk ?_
    | with_reducible refine Frame.fst_mk ?_
    | with_reducible refine Frame.host_upd b18 ?_

def State.overload_mask : Nat := 0x800001000000000000000000000000000000000000000000000000044000
theorem State.overload_frame {W : Nat} {s0 s : State} {o : Nat} (hW : Within State.overload_mask W) (h : Frame W s0 s) :
    Frame W s0 (State.overload s o) := by
  have b239 := hW.bit (n := 239) (by decide)
  have w1 := Within.trans (a := State.markOutFault_mask) rfl hW
  unfold State.overload
  repeat' first
    | intro _
    | with_reducible assumption
    | (extract_lets +onlyGivenNames x; refine Frame.cut (W := W) (s0 := s0) x ?_ ?_; unfold x; clear x; rotate_left; clear_value x; revert x; intro _ _)
    | (extract_lets +onlyGivenNames x; clear_value x; revert x; intro _)
    | with_reducible refine State.set_frame (F.FIO_OUT_DIAG_overload_kind _) b239 ?_
    | with_reducible refine State.set_frame (F.FIO_OUT_DIAG_latched_kind _) b239 ?_
    | with_reducible refine State.markOutFault_frame w1 ?_
    | with_reducible refine Frame.ite ?_ ?_
    | with_reducible refine Frame.foldl ?_ _ _ ?_
    | split
    | with_reducible refine Frame.of_snd (by with_reducible assumption) ?_
    | with_reducible refine Frame.of_fst (by with_reducible assumption) ?_
    | with_reducible refine Frame.snd_mk ?_
    | with_reducible refine Frame.fst_mk ?_

def execFioOutputFault_mask : Nat := 0x602000000000000080000000184500100000000000000000000000000000000000000000000002204c000
theorem execFioOutputFault_frame {s nx : State} {o : Fin 32} {kind : Fin 5} {mA : BitVec 16} (e : execFioOutputFault o kind mA s = .next nx) : Frame execFioOutputFault_mask s nx := by
  refine State.run_frame rfl (fun W s0 s hW h => ?_) e
  have b240 := hW.bit (n := 240) (by decide)
  have b239 := hW.bit (n := 239) (by decide)
  have b234 := hW.bit (n := 234) (by decide)
  have w0 := Within.trans (a := State.raise_mask) rfl hW
  have w1 := Within.trans (a := State.overload_mask) rfl hW
  have w2 := Within.trans (a := State.markOutFault_mask) rfl hW
  repeat' first
    | intro _
    | with_reducible assumption
    | (extract_lets +onlyGivenNames x; refine Frame.cut (W := W) (s0 := s0) x ?_ ?_; unfold x; clear x; rotate_left; clear_value x; revert x; intro _ _)
    | (extract_lets +onlyGivenNames x; clear_value x; revert x; intro _)
    | with_reducible refine State.inc_frame (F.FIO_OUT_FAULTS_count_kind _) b240 ?_
    | with_reducible refine State.set_frame (F.FIO_OUT_DIAG_current_ma_kind _) b239 ?_
    | with_reducible refine State.set_frame (F.FIO_GROUP_current_ma_kind _) b234 ?_
    | with_reducible refine State.set_frame (F.FIO_OUT_DIAG_open_wire_kind _) b239 ?_
    | with_reducible refine State.set_frame (F.FIO_OUT_DIAG_over_temp_kind _) b239 ?_
    | with_reducible refine State.set_frame (F.FIO_OUT_DIAG_isolator_kind _) b239 ?_
    | with_reducible refine State.raise_frame w0 ?_
    | with_reducible refine State.overload_frame w1 ?_
    | with_reducible refine State.markOutFault_frame w2 ?_
    | with_reducible refine State.each_frame ?_ ?_
    | with_reducible refine Frame.ite ?_ ?_
    | with_reducible refine Frame.foldl ?_ _ _ ?_
    | split
    | with_reducible refine Frame.of_snd (by with_reducible assumption) ?_
    | with_reducible refine Frame.of_fst (by with_reducible assumption) ?_
    | with_reducible refine Frame.snd_mk ?_
    | with_reducible refine Frame.fst_mk ?_

def execOutputRetry_mask : Nat := 0x800000000805000000000000000000000000000000000000000000000000000008000
theorem execOutputRetry_frame {s nx : State} {o : Fin 32} (e : execOutputRetry o s = .next nx) : Frame execOutputRetry_mask s nx := by
  refine State.run_frame rfl (fun W s0 s hW h => ?_) e
  have b239 := hW.bit (n := 239) (by decide)
  repeat' first
    | intro _
    | with_reducible assumption
    | (extract_lets +onlyGivenNames x; refine Frame.cut (W := W) (s0 := s0) x ?_ ?_; unfold x; clear x; rotate_left; clear_value x; revert x; intro _ _)
    | (extract_lets +onlyGivenNames x; clear_value x; revert x; intro _)
    | with_reducible refine State.set_frame (F.FIO_OUT_DIAG_overload_kind _) b239 ?_
    | with_reducible refine Frame.ite ?_ ?_
    | with_reducible refine Frame.foldl ?_ _ _ ?_
    | split
    | with_reducible refine Frame.of_snd (by with_reducible assumption) ?_
    | with_reducible refine Frame.of_fst (by with_reducible assumption) ?_

def execOutputCooled_mask : Nat := 0x800000000805000000000000000000000000000000000000000000000000000008000
theorem execOutputCooled_frame {s nx : State} {o : Fin 32} (e : execOutputCooled o s = .next nx) : Frame execOutputCooled_mask s nx := by
  refine State.run_frame rfl (fun W s0 s hW h => ?_) e
  have b239 := hW.bit (n := 239) (by decide)
  repeat' first
    | intro _
    | with_reducible assumption
    | (extract_lets +onlyGivenNames x; refine Frame.cut (W := W) (s0 := s0) x ?_ ?_; unfold x; clear x; rotate_left; clear_value x; revert x; intro _ _)
    | (extract_lets +onlyGivenNames x; clear_value x; revert x; intro _)
    | with_reducible refine State.set_frame (F.FIO_OUT_DIAG_over_temp_kind _) b239 ?_
    | with_reducible refine Frame.ite ?_ ?_
    | with_reducible refine Frame.foldl ?_ _ _ ?_
    | split
    | with_reducible refine Frame.of_snd (by with_reducible assumption) ?_
    | with_reducible refine Frame.of_fst (by with_reducible assumption) ?_

end Sys2Proof.Machine
end

