-- ==== Sys2Proof/Laws/Keep.lean ====
section
/-! SUPPORT. What the operations of Machine/Keep.lean change: each differs from its argument in the areas of its mask alone. -/

set_option linter.all false

namespace Sys2Proof.Machine

def State.keepWrite_mask : Nat := 0x28
theorem State.keepWrite_frame {W : Nat} {s0 s : State} {r : Nat} {f : Keep → Keep} (hW : Within State.keepWrite_mask W)
    (hf : Keep.spent s.keep (f s.keep)) (h : Frame W s0 s) : Frame W s0 (s.keepWrite r f) := by
  have b3 := hW.bit (n := 3) (by decide)
  have b5 := hW.bit (n := 5) (by decide)
  unfold State.keepWrite
  exact Frame.keep_boot_upd b3 hf b5 h

def State.showKeep_mask : Nat := 0x80000000000000000000000000000000000000000000000001a21000000000000000
theorem State.showKeep_frame {W : Nat} {s0 s : State} (hW : Within State.showKeep_mask W) (h : Frame W s0 s) :
    Frame W s0 (State.showKeep s) := by
  have b69 := hW.bit (n := 69) (by decide)
  have b60 := hW.bit (n := 60) (by decide)
  have b65 := hW.bit (n := 65) (by decide)
  have b271 := hW.bit (n := 271) (by decide)
  have b72 := hW.bit (n := 72) (by decide)
  have b71 := hW.bit (n := 71) (by decide)
  unfold State.showKeep
  repeat' first
    | intro _
    | with_reducible assumption
    | (extract_lets +onlyGivenNames x; refine Frame.cut (W := W) (s0 := s0) x ?_ ?_; unfold x; clear x; rotate_left; clear_value x; revert x; intro _ _)
    | (extract_lets +onlyGivenNames x; clear_value x; revert x; intro _)
    | with_reducible refine State.set_frame (F.KEEP_RATCHET_owner_left_kind) b69 ?_
    | with_reducible refine State.set_frame (F.KEEP_RATCHET_epoch_left_kind) b69 ?_
    | with_reducible refine State.set_frame (F.KEEP_RATCHET_safety_left_kind) b69 ?_
    | with_reducible refine State.set_frame (F.KEEP_RATCHET_upkeep_left_kind) b69 ?_
    | with_reducible refine State.set_frame (F.ZLD_ACTIVE_epoch_kind) b60 ?_
    | with_reducible refine State.set_frame (F.ZLD_ACTIVE_upkeep_left_kind) b60 ?_
    | with_reducible refine State.setB_frame (F.KEEP_STATUS_owned_kind) b65 ?_
    | with_reducible refine State.setB_frame (F.KEEP_STATUS_baseline_present_kind) b65 ?_
    | with_reducible refine State.setB_frame (F.SAFE_STATUS_lock_kind) b271 ?_
    | with_reducible refine State.set_frame (F.KEEP_SIGNERS_count_kind) b72 ?_
    | with_reducible refine State.set_frame (F.KEEP_OWNER_KEY_word_kind _) b71 ?_
    | with_reducible refine State.each_frame ?_ ?_
    | with_reducible refine Frame.ite ?_ ?_
    | with_reducible refine Frame.foldl ?_ _ _ ?_
    | split
    | with_reducible refine Frame.of_snd (by with_reducible assumption) ?_
    | with_reducible refine Frame.of_fst (by with_reducible assumption) ?_
    | with_reducible refine Frame.snd_mk ?_
    | with_reducible refine Frame.fst_mk ?_

def State.spend_mask : Nat := 0x6020000000000000080000000000000000000000000000000000000000000000001a21000000022000028
theorem State.spend_frame {W : Nat} {s0 s : State} {n left : Nat} {f : Keep → Keep} (hW : Within State.spend_mask W)
    (hf : Keep.spent s.keep (f s.keep)) (h : Frame W s0 s) : Frame W s0 (s.spend n left f) := by
  have w0 := Within.trans (a := State.keepWrite_mask) rfl hW
  have w1 := Within.trans (a := State.showKeep_mask) rfl hW
  have w2 := Within.trans (a := State.raise_mask) rfl hW
  exact State.raise_frame w2 (State.showKeep_frame w1 (State.keepWrite_frame w0 (Keep.spent.refl _) (State.keepWrite_frame w0 hf h)))

def State.saveCounters_mask : Nat := 0x28
theorem State.saveCounters_frame {W : Nat} {s0 s : State} (hW : Within State.saveCounters_mask W) (h : Frame W s0 s) :
    Frame W s0 (State.saveCounters s) := by
  have w0 := Within.trans (a := State.keepWrite_mask) rfl hW
  unfold State.saveCounters
  repeat' first
    | intro _
    | with_reducible assumption
    | (extract_lets +onlyGivenNames x; refine Frame.cut (W := W) (s0 := s0) x ?_ ?_; unfold x; clear x; rotate_left; clear_value x; revert x; intro _ _)
    | (extract_lets +onlyGivenNames x; clear_value x; revert x; intro _)
    | with_reducible refine State.keepWrite_frame w0 ?_ ?_
    | exact ⟨Nat.le_refl _, Nat.le_refl _, Nat.le_refl _, Nat.le_refl _⟩
    | exact ⟨Nat.sub_le _ _, Nat.le_refl _, Nat.le_refl _, Nat.le_refl _⟩
    | exact ⟨Nat.le_refl _, Nat.le_refl _, Nat.le_refl _, Nat.sub_le _ _⟩
    | exact ⟨Nat.le_refl _, Nat.le_refl _, Nat.sub_le _ _, Nat.le_refl _⟩
    | with_reducible refine Frame.ite ?_ ?_
    | with_reducible refine Frame.foldl ?_ _ _ ?_
    | split
    | with_reducible refine Frame.of_snd (by with_reducible assumption) ?_
    | with_reducible refine Frame.of_fst (by with_reducible assumption) ?_
    | with_reducible refine Frame.snd_mk ?_
    | with_reducible refine Frame.fst_mk ?_

def execOpSecondsSave_mask : Nat := 0x800000000005000000000000000000000000000000000000000000000000000008028
theorem execOpSecondsSave_frame {s nx : State} (e : execOpSecondsSave s = .next nx) : Frame execOpSecondsSave_mask s nx := by
  refine State.run_frame rfl (fun W s0 s hW h => ?_) e
  have w0 := Within.trans (a := State.saveCounters_mask) rfl hW
  repeat' first
    | intro _
    | with_reducible assumption
    | (extract_lets +onlyGivenNames x; refine Frame.cut (W := W) (s0 := s0) x ?_ ?_; unfold x; clear x; rotate_left; clear_value x; revert x; intro _ _)
    | (extract_lets +onlyGivenNames x; clear_value x; revert x; intro _)
    | with_reducible refine State.saveCounters_frame w0 ?_
    | with_reducible refine Frame.ite ?_ ?_
    | with_reducible refine Frame.foldl ?_ _ _ ?_
    | split
    | with_reducible refine Frame.of_snd (by with_reducible assumption) ?_
    | with_reducible refine Frame.of_fst (by with_reducible assumption) ?_

def State.doeAnswer_mask : Nat := 0x20
theorem State.doeAnswer_frame {W : Nat} {s0 s : State} {i : Port} {code : Nat} {h_ : DoeHeader} {body : List Byte} (hW : Within State.doeAnswer_mask W) (h : Frame W s0 s) :
    Frame W s0 (State.doeAnswer s i code h_ body) := by
  have b5 := hW.bit (n := 5) (by decide)
  unfold State.doeAnswer
  repeat' first
    | intro _
    | with_reducible assumption
    | (extract_lets +onlyGivenNames x; refine Frame.cut (W := W) (s0 := s0) x ?_ ?_; unfold x; clear x; rotate_left; clear_value x; revert x; intro _ _)
    | (extract_lets +onlyGivenNames x; clear_value x; revert x; intro _)
    | with_reducible refine Frame.ite ?_ ?_
    | with_reducible refine Frame.foldl ?_ _ _ ?_
    | split
    | with_reducible refine Frame.of_snd (by with_reducible assumption) ?_
    | with_reducible refine Frame.of_fst (by with_reducible assumption) ?_
    | with_reducible refine Frame.snd_mk ?_
    | with_reducible refine Frame.fst_mk ?_
    | with_reducible refine Frame.boot_upd b5 ?_

def State.doeError_mask : Nat := 0x20
theorem State.doeError_frame {W : Nat} {s0 s : State} {i : Port} {h_ : DoeHeader} {status : Nat} {req : Nat} (hW : Within State.doeError_mask W) (h : Frame W s0 s) :
    Frame W s0 (State.doeError s i h_ status req) := by
  have w0 := Within.trans (a := State.doeAnswer_mask) rfl hW
  unfold State.doeError
  repeat' first
    | intro _
    | with_reducible assumption
    | (extract_lets +onlyGivenNames x; refine Frame.cut (W := W) (s0 := s0) x ?_ ?_; unfold x; clear x; rotate_left; clear_value x; revert x; intro _ _)
    | (extract_lets +onlyGivenNames x; clear_value x; revert x; intro _)
    | with_reducible refine State.doeAnswer_frame w0 ?_
    | with_reducible refine Frame.ite ?_ ?_
    | with_reducible refine Frame.foldl ?_ _ _ ?_
    | split
    | with_reducible refine Frame.of_snd (by with_reducible assumption) ?_
    | with_reducible refine Frame.of_fst (by with_reducible assumption) ?_
    | with_reducible refine Frame.snd_mk ?_
    | with_reducible refine Frame.fst_mk ?_

def State.doeMalformed_mask : Nat := 0x6020000000000000000000000000000000000000000000000000000000000000000000000000022000020
theorem State.doeMalformed_frame {W : Nat} {s0 s : State} {i : Port} {h_ : DoeHeader} {req : Nat} {off : Nat} (hW : Within State.doeMalformed_mask W) (h : Frame W s0 s) :
    Frame W s0 (State.doeMalformed s i h_ req off) := by
  have w0 := Within.trans (a := State.doeError_mask) rfl hW
  have w1 := Within.trans (a := State.raise_mask) rfl hW
  unfold State.doeMalformed
  repeat' first
    | intro _
    | with_reducible assumption
    | (extract_lets +onlyGivenNames x; refine Frame.cut (W := W) (s0 := s0) x ?_ ?_; unfold x; clear x; rotate_left; clear_value x; revert x; intro _ _)
    | (extract_lets +onlyGivenNames x; clear_value x; revert x; intro _)
    | with_reducible refine State.doeError_frame w0 ?_
    | with_reducible refine State.raise_frame w1 ?_
    | with_reducible refine Frame.ite ?_ ?_
    | with_reducible refine Frame.foldl ?_ _ _ ?_
    | split
    | with_reducible refine Frame.of_snd (by with_reducible assumption) ?_
    | with_reducible refine Frame.of_fst (by with_reducible assumption) ?_
    | with_reducible refine Frame.snd_mk ?_
    | with_reducible refine Frame.fst_mk ?_

def State.doeProofFail_mask : Nat := 0x6020000000000000000000000000000000000000000000000000000000000000000000000000022000020
theorem State.doeProofFail_frame {W : Nat} {s0 s : State} {i : Port} {h_ : DoeHeader} {req : Nat} (hW : Within State.doeProofFail_mask W) (h : Frame W s0 s) :
    Frame W s0 (State.doeProofFail s i h_ req) := by
  have w0 := Within.trans (a := State.doeError_mask) rfl hW
  have w1 := Within.trans (a := State.raise_mask) rfl hW
  unfold State.doeProofFail
  repeat' first
    | intro _
    | with_reducible assumption
    | (extract_lets +onlyGivenNames x; refine Frame.cut (W := W) (s0 := s0) x ?_ ?_; unfold x; clear x; rotate_left; clear_value x; revert x; intro _ _)
    | (extract_lets +onlyGivenNames x; clear_value x; revert x; intro _)
    | with_reducible refine State.doeError_frame w0 ?_
    | with_reducible refine State.raise_frame w1 ?_
    | with_reducible refine Frame.ite ?_ ?_
    | with_reducible refine Frame.foldl ?_ _ _ ?_
    | split
    | with_reducible refine Frame.of_snd (by with_reducible assumption) ?_
    | with_reducible refine Frame.of_fst (by with_reducible assumption) ?_
    | with_reducible refine Frame.snd_mk ?_
    | with_reducible refine Frame.fst_mk ?_

def State.doe_mask : Nat := 0x6020000000000000000000000000000000000000000000000000000000000000000000000000022000020
theorem State.doe_frame {W : Nat} {s0 s : State} {i : Port} {h1 : DoeHeader} {req : Nat} {len : Nat} {f : State → State} (hW : Within State.doe_mask W) (hf_f : ∀ s, Frame W s0 s → Frame W s0 (f s)) (h : Frame W s0 s) :
    Frame W s0 (State.doe s i h1 req len f) := by
  have w0 := Within.trans (a := State.doeMalformed_mask) rfl hW
  have w1 := Within.trans (a := State.doeError_mask) rfl hW
  unfold State.doe
  repeat' first
    | intro _
    | with_reducible assumption
    | (extract_lets +onlyGivenNames x; refine Frame.cut (W := W) (s0 := s0) x ?_ ?_; unfold x; clear x; rotate_left; clear_value x; revert x; intro _ _)
    | (extract_lets +onlyGivenNames x; clear_value x; revert x; intro _)
    | with_reducible refine State.doeMalformed_frame w0 ?_
    | with_reducible refine State.doeError_frame w1 ?_
    | with_reducible refine Frame.ite ?_ ?_
    | with_reducible apply hf_f
    | with_reducible refine Frame.foldl ?_ _ _ ?_
    | split
    | with_reducible refine Frame.of_snd (by with_reducible assumption) ?_
    | with_reducible refine Frame.of_fst (by with_reducible assumption) ?_
    | with_reducible refine Frame.snd_mk ?_
    | with_reducible refine Frame.fst_mk ?_
    | solve_by_elim

def execGetIdentity_mask : Nat := 0x6020000000000000800000000005000000000000000000000000000000000000000000000000022008020
theorem execGetIdentity_frame {s nx : State} {i : Port} {h_ : DoeHeader} (e : execGetIdentity i h_ s = .next nx) : Frame execGetIdentity_mask s nx := by
  refine State.run_frame rfl (fun W s0 s hW h => ?_) e
  have w0 := Within.trans (a := State.doe_mask) rfl hW
  have w1 := Within.trans (a := State.doeAnswer_mask) rfl hW
  repeat' first
    | intro _
    | with_reducible assumption
    | (extract_lets +onlyGivenNames x; refine Frame.cut (W := W) (s0 := s0) x ?_ ?_; unfold x; clear x; rotate_left; clear_value x; revert x; intro _ _)
    | (extract_lets +onlyGivenNames x; clear_value x; revert x; intro _)
    | with_reducible refine State.doe_frame w0 ?_ ?_
    | with_reducible refine State.doeAnswer_frame w1 ?_
    | with_reducible refine Frame.ite ?_ ?_
    | with_reducible refine Frame.foldl ?_ _ _ ?_
    | split
    | with_reducible refine Frame.of_snd (by with_reducible assumption) ?_
    | with_reducible refine Frame.of_fst (by with_reducible assumption) ?_

def execGetMeasurements_mask : Nat := 0x6020000000000000800000000005000000000000000000000000000000000000000000000000022008020
theorem execGetMeasurements_frame {s nx : State} {i : Port} {h_ : DoeHeader} (e : execGetMeasurements i h_ s = .next nx) : Frame execGetMeasurements_mask s nx := by
  refine State.run_frame rfl (fun W s0 s hW h => ?_) e
  have w0 := Within.trans (a := State.doe_mask) rfl hW
  have w1 := Within.trans (a := State.doeAnswer_mask) rfl hW
  repeat' first
    | intro _
    | with_reducible assumption
    | (extract_lets +onlyGivenNames x; refine Frame.cut (W := W) (s0 := s0) x ?_ ?_; unfold x; clear x; rotate_left; clear_value x; revert x; intro _ _)
    | (extract_lets +onlyGivenNames x; clear_value x; revert x; intro _)
    | with_reducible refine State.doe_frame w0 ?_ ?_
    | with_reducible refine State.doeAnswer_frame w1 ?_
    | with_reducible refine Frame.ite ?_ ?_
    | with_reducible refine Frame.foldl ?_ _ _ ?_
    | split
    | with_reducible refine Frame.of_snd (by with_reducible assumption) ?_
    | with_reducible refine Frame.of_fst (by with_reducible assumption) ?_

def execAttest_mask : Nat := 0x6020000000000000800000000005000000000000000000000000000000000000000000000000022008020
theorem execAttest_frame {s nx : State} {i : Port} {h1 : DoeHeader} {nonce : BitVec 256} (e : execAttest i h1 nonce s = .next nx) : Frame execAttest_mask s nx := by
  refine State.run_frame rfl (fun W s0 s hW h => ?_) e
  have w0 := Within.trans (a := State.doe_mask) rfl hW
  have w1 := Within.trans (a := State.doeAnswer_mask) rfl hW
  repeat' first
    | intro _
    | with_reducible assumption
    | (extract_lets +onlyGivenNames x; refine Frame.cut (W := W) (s0 := s0) x ?_ ?_; unfold x; clear x; rotate_left; clear_value x; revert x; intro _ _)
    | (extract_lets +onlyGivenNames x; clear_value x; revert x; intro _)
    | with_reducible refine State.doe_frame w0 ?_ ?_
    | with_reducible refine State.doeAnswer_frame w1 ?_
    | with_reducible refine Frame.ite ?_ ?_
    | with_reducible refine Frame.foldl ?_ _ _ ?_
    | split
    | with_reducible refine Frame.of_snd (by with_reducible assumption) ?_
    | with_reducible refine Frame.of_fst (by with_reducible assumption) ?_
    | with_reducible refine Frame.snd_mk ?_
    | with_reducible refine Frame.fst_mk ?_

def execOwnerChallenge_mask : Nat := 0x6020000000000000800000000005000000000000000000000000000000000000000000000000023008020
theorem execOwnerChallenge_frame {s nx : State} {i : Port} {h_ : DoeHeader} (e : execOwnerChallenge i h_ s = .next nx) : Frame execOwnerChallenge_mask s nx := by
  refine State.run_frame rfl (fun W s0 s hW h => ?_) e
  have b5 := hW.bit (n := 5) (by decide)
  have w1 := Within.trans (a := State.doe_mask) rfl hW
  have w2 := Within.trans (a := State.drawEntropy_mask) rfl hW
  have w3 := Within.trans (a := State.doeAnswer_mask) rfl hW
  repeat' first
    | intro _
    | with_reducible assumption
    | (extract_lets +onlyGivenNames x; refine Frame.cut (W := W) (s0 := s0) x ?_ ?_; unfold x; clear x; rotate_left; clear_value x; revert x; intro _ _)
    | (extract_lets +onlyGivenNames x; clear_value x; revert x; intro _)
    | with_reducible refine State.doe_frame w1 ?_ ?_
    | with_reducible refine State.drawEntropy_snd w2 ?_
    | with_reducible refine State.doeAnswer_frame w3 ?_
    | with_reducible refine Frame.ite ?_ ?_
    | with_reducible refine Frame.foldl ?_ _ _ ?_
    | split
    | with_reducible refine State.drawEntropy_frame (by with_reducible assumption) w2 ?_
    | with_reducible refine Frame.of_snd (by with_reducible assumption) ?_
    | with_reducible refine Frame.of_fst (by with_reducible assumption) ?_
    | with_reducible refine Frame.boot_upd b5 ?_

def State.voidChallenge_mask : Nat := 0x20
theorem State.voidChallenge_frame {W : Nat} {s0 s : State} {i : Nat} (hW : Within State.voidChallenge_mask W) (h : Frame W s0 s) :
    Frame W s0 (State.voidChallenge s i) := by
  have b5 := hW.bit (n := 5) (by decide)
  unfold State.voidChallenge
  repeat' first
    | intro _
    | with_reducible assumption
    | (extract_lets +onlyGivenNames x; refine Frame.cut (W := W) (s0 := s0) x ?_ ?_; unfold x; clear x; rotate_left; clear_value x; revert x; intro _ _)
    | (extract_lets +onlyGivenNames x; clear_value x; revert x; intro _)
    | with_reducible refine Frame.ite ?_ ?_
    | with_reducible refine Frame.foldl ?_ _ _ ?_
    | split
    | with_reducible refine Frame.of_snd (by with_reducible assumption) ?_
    | with_reducible refine Frame.of_fst (by with_reducible assumption) ?_
    | with_reducible refine Frame.snd_mk ?_
    | with_reducible refine Frame.fst_mk ?_
    | with_reducible refine Frame.boot_upd b5 ?_

def execChallengeExpired_mask : Nat := 0x800000000005000000000000000000000000000000000000000000000000000008020
theorem execChallengeExpired_frame {s nx : State} {i : Port} (e : execChallengeExpired i s = .next nx) : Frame execChallengeExpired_mask s nx := by
  refine State.run_frame rfl (fun W s0 s hW h => ?_) e
  have w0 := Within.trans (a := State.voidChallenge_mask) rfl hW
  repeat' first
    | intro _
    | with_reducible assumption
    | (extract_lets +onlyGivenNames x; refine Frame.cut (W := W) (s0 := s0) x ?_ ?_; unfold x; clear x; rotate_left; clear_value x; revert x; intro _ _)
    | (extract_lets +onlyGivenNames x; clear_value x; revert x; intro _)
    | with_reducible refine State.voidChallenge_frame w0 ?_
    | with_reducible refine Frame.ite ?_ ?_
    | with_reducible refine Frame.foldl ?_ _ _ ?_
    | split
    | with_reducible refine Frame.of_snd (by with_reducible assumption) ?_
    | with_reducible refine Frame.of_fst (by with_reducible assumption) ?_

def State.factoryRoles_mask : Nat := 0x800000000000000000000000000000
theorem State.factoryRoles_frame {W : Nat} {s0 s : State} (hW : Within State.factoryRoles_mask W) (h : Frame W s0 s) :
    Frame W s0 (State.factoryRoles s) := by
  have b119 := hW.bit (n := 119) (by decide)
  unfold State.factoryRoles
  repeat' first
    | intro _
    | with_reducible assumption
    | (extract_lets +onlyGivenNames x; refine Frame.cut (W := W) (s0 := s0) x ?_ ?_; unfold x; clear x; rotate_left; clear_value x; revert x; intro _ _)
    | (extract_lets +onlyGivenNames x; clear_value x; revert x; intro _)
    | with_reducible refine State.set_frame (F.HOST_STATUS_role_kind _) b119 ?_
    | with_reducible refine State.each_frame ?_ ?_
    | with_reducible refine Frame.ite ?_ ?_
    | with_reducible refine Frame.foldl ?_ _ _ ?_
    | split
    | with_reducible refine Frame.of_snd (by with_reducible assumption) ?_
    | with_reducible refine Frame.of_fst (by with_reducible assumption) ?_
    | with_reducible refine Frame.snd_mk ?_
    | with_reducible refine Frame.fst_mk ?_

def execOwnerProve_mask : Nat := 0x6020000000000000800000000005000000000000000000000000000800000000000000000000022008020
theorem execOwnerProve_frame {s nx : State} {i : Port} {h_ : DoeHeader} {ok : Bool} (e : execOwnerProve i h_ ok s = .next nx) : Frame execOwnerProve_mask s nx := by
  refine State.run_frame rfl (fun W s0 s hW h => ?_) e
  have b5 := hW.bit (n := 5) (by decide)
  have w1 := Within.trans (a := State.doe_mask) rfl hW
  have w2 := Within.trans (a := State.voidChallenge_mask) rfl hW
  have w3 := Within.trans (a := State.doeAnswer_mask) rfl hW
  have w4 := Within.trans (a := State.factoryRoles_mask) rfl hW
  have w5 := Within.trans (a := State.doeProofFail_mask) rfl hW
  repeat' first
    | intro _
    | with_reducible assumption
    | (extract_lets +onlyGivenNames x; refine Frame.cut (W := W) (s0 := s0) x ?_ ?_; unfold x; clear x; rotate_left; clear_value x; revert x; intro _ _)
    | (extract_lets +onlyGivenNames x; clear_value x; revert x; intro _)
    | with_reducible refine State.doe_frame w1 ?_ ?_
    | with_reducible refine State.voidChallenge_frame w2 ?_
    | with_reducible refine State.doeAnswer_frame w3 ?_
    | with_reducible refine State.factoryRoles_frame w4 ?_
    | with_reducible refine State.doeProofFail_frame w5 ?_
    | with_reducible refine Frame.ite ?_ ?_
    | with_reducible refine Frame.foldl ?_ _ _ ?_
    | split
    | with_reducible refine Frame.of_snd (by with_reducible assumption) ?_
    | with_reducible refine Frame.of_fst (by with_reducible assumption) ?_
    | with_reducible refine Frame.boot_upd b5 ?_

def State.setOwner_mask : Nat := 0x80000000000000000000000000000000000000800000000001a21000000000000028
theorem State.setOwner_frame {W : Nat} {s0 s : State} {o : OwnerRec} (hW : Within State.setOwner_mask W) (h : Frame W s0 s) :
    Frame W s0 (State.setOwner s o) := by
  have b5 := hW.bit (n := 5) (by decide)
  have w1 := Within.trans (a := State.keepWrite_mask) rfl hW
  have w2 := Within.trans (a := State.factoryRoles_mask) rfl hW
  have w3 := Within.trans (a := State.showKeep_mask) rfl hW
  unfold State.setOwner
  repeat' first
    | intro _
    | with_reducible assumption
    | (extract_lets +onlyGivenNames x; refine Frame.cut (W := W) (s0 := s0) x ?_ ?_; unfold x; clear x; rotate_left; clear_value x; revert x; intro _ _)
    | (extract_lets +onlyGivenNames x; clear_value x; revert x; intro _)
    | with_reducible refine State.keepWrite_frame w1 ?_ ?_
    | exact ⟨Nat.le_refl _, Nat.le_refl _, Nat.le_refl _, Nat.le_refl _⟩
    | exact ⟨Nat.sub_le _ _, Nat.le_refl _, Nat.le_refl _, Nat.le_refl _⟩
    | exact ⟨Nat.le_refl _, Nat.le_refl _, Nat.le_refl _, Nat.sub_le _ _⟩
    | exact ⟨Nat.le_refl _, Nat.le_refl _, Nat.sub_le _ _, Nat.le_refl _⟩
    | with_reducible refine State.factoryRoles_frame w2 ?_
    | with_reducible refine State.showKeep_frame w3 ?_
    | with_reducible refine Frame.ite ?_ ?_
    | with_reducible refine Frame.foldl ?_ _ _ ?_
    | split
    | with_reducible refine Frame.of_snd (by with_reducible assumption) ?_
    | with_reducible refine Frame.of_fst (by with_reducible assumption) ?_
    | with_reducible refine Frame.snd_mk ?_
    | with_reducible refine Frame.fst_mk ?_
    | with_reducible refine Frame.boot_upd b5 ?_

def State.signerCount_mask : Nat := 0x6020000000000000000000000000000000000000000000000000000000000000000000000000022000020
theorem State.signerCount_frame {W : Nat} {s0 s : State} {i : Port} {h_ : DoeHeader} {req : Nat} {n : Nat} {off : Nat} {f : State → State} (hW : Within State.signerCount_mask W) (hf_f : ∀ s, Frame W s0 s → Frame W s0 (f s)) (h : Frame W s0 s) :
    Frame W s0 (State.signerCount s i h_ req n off f) := by
  have w0 := Within.trans (a := State.doeMalformed_mask) rfl hW
  unfold State.signerCount
  repeat' first
    | intro _
    | with_reducible assumption
    | (extract_lets +onlyGivenNames x; refine Frame.cut (W := W) (s0 := s0) x ?_ ?_; unfold x; clear x; rotate_left; clear_value x; revert x; intro _ _)
    | (extract_lets +onlyGivenNames x; clear_value x; revert x; intro _)
    | with_reducible refine State.doeMalformed_frame w0 ?_
    | with_reducible refine Frame.ite ?_ ?_
    | with_reducible apply hf_f
    | with_reducible refine Frame.foldl ?_ _ _ ?_
    | split
    | with_reducible refine Frame.of_snd (by with_reducible assumption) ?_
    | with_reducible refine Frame.of_fst (by with_reducible assumption) ?_
    | with_reducible refine Frame.snd_mk ?_
    | with_reducible refine Frame.fst_mk ?_

def State.ownerStep_mask : Nat := 0x6020000000000000080000000000000000000000000000000000000000000000001a21000000022000028
theorem State.ownerStep_frame {W : Nat} {s0 s : State} {i : Port} {h_ : DoeHeader} {req : Nat} {f : State → State} (hW : Within State.ownerStep_mask W) (hf_f : ∀ s, Frame W s0 s → Frame W s0 (f s)) (h : Frame W s0 s) :
    Frame W s0 (State.ownerStep s i h_ req f) := by
  have w0 := Within.trans (a := State.doeError_mask) rfl hW
  have w1 := Within.trans (a := State.raise_mask) rfl hW
  have w2 := Within.trans (a := State.spend_mask) rfl hW
  unfold State.ownerStep
  repeat' first
    | intro _
    | with_reducible assumption
    | (extract_lets +onlyGivenNames x; refine Frame.cut (W := W) (s0 := s0) x ?_ ?_; unfold x; clear x; rotate_left; clear_value x; revert x; intro _ _)
    | (extract_lets +onlyGivenNames x; clear_value x; revert x; intro _)
    | with_reducible refine State.doeError_frame w0 ?_
    | with_reducible refine State.raise_frame w1 ?_
    | with_reducible refine State.spend_frame w2 ?_ ?_
    | exact ⟨Nat.le_refl _, Nat.le_refl _, Nat.le_refl _, Nat.le_refl _⟩
    | exact ⟨Nat.sub_le _ _, Nat.le_refl _, Nat.le_refl _, Nat.le_refl _⟩
    | exact ⟨Nat.le_refl _, Nat.le_refl _, Nat.le_refl _, Nat.sub_le _ _⟩
    | exact ⟨Nat.le_refl _, Nat.le_refl _, Nat.sub_le _ _, Nat.le_refl _⟩
    | with_reducible refine Frame.ite ?_ ?_
    | with_reducible apply hf_f
    | with_reducible refine Frame.foldl ?_ _ _ ?_
    | split
    | with_reducible refine Frame.of_snd (by with_reducible assumption) ?_
    | with_reducible refine Frame.of_fst (by with_reducible assumption) ?_
    | with_reducible refine Frame.snd_mk ?_
    | with_reducible refine Frame.fst_mk ?_

def execOwnerClaim_mask : Nat := 0x6020000000000000880000000005000000000000000000000000000800000000001a21000000022008028
theorem execOwnerClaim_frame {s nx : State} {i : Port} {h_ : DoeHeader} {key : BitVec 512} {signers : List (BitVec 512)} {ok : Bool} (e : execOwnerClaim i h_ key signers ok s = .next nx) : Frame execOwnerClaim_mask s nx := by
  refine State.run_frame rfl (fun W s0 s hW h => ?_) e
  have w0 := Within.trans (a := State.doe_mask) rfl hW
  have w1 := Within.trans (a := State.signerCount_mask) rfl hW
  have w2 := Within.trans (a := State.voidChallenge_mask) rfl hW
  have w3 := Within.trans (a := State.doeProofFail_mask) rfl hW
  have w4 := Within.trans (a := State.ownerStep_mask) rfl hW
  have w5 := Within.trans (a := State.raise_mask) rfl hW
  have w6 := Within.trans (a := State.setOwner_mask) rfl hW
  have w7 := Within.trans (a := State.doeAnswer_mask) rfl hW
  repeat' first
    | intro _
    | with_reducible assumption
    | (extract_lets +onlyGivenNames x; refine Frame.cut (W := W) (s0 := s0) x ?_ ?_; unfold x; clear x; rotate_left; clear_value x; revert x; intro _ _)
    | (extract_lets +onlyGivenNames x; clear_value x; revert x; intro _)
    | with_reducible refine State.doe_frame w0 ?_ ?_
    | with_reducible refine State.signerCount_frame w1 ?_ ?_
    | with_reducible refine State.voidChallenge_frame w2 ?_
    | with_reducible refine State.doeProofFail_frame w3 ?_
    | with_reducible refine State.ownerStep_frame w4 ?_ ?_
    | with_reducible refine State.raise_frame w5 ?_
    | with_reducible refine State.setOwner_frame w6 ?_
    | with_reducible refine State.doeAnswer_frame w7 ?_
    | with_reducible refine Frame.ite ?_ ?_
    | with_reducible refine Frame.foldl ?_ _ _ ?_
    | split
    | with_reducible refine Frame.of_snd (by with_reducible assumption) ?_
    | with_reducible refine Frame.of_fst (by with_reducible assumption) ?_

def execOwnerTransfer_mask : Nat := 0x6020000000000000880000000005000000000000000000000000000800000000001a21000000022008028
theorem execOwnerTransfer_frame {s nx : State} {i : Port} {h_ : DoeHeader} {key : BitVec 512} {signers : List (BitVec 512)} {okOld : Bool} {okNew : Bool} (e : execOwnerTransfer i h_ key signers okOld okNew s = .next nx) : Frame execOwnerTransfer_mask s nx := by
  refine State.run_frame rfl (fun W s0 s hW h => ?_) e
  have w0 := Within.trans (a := State.doe_mask) rfl hW
  have w1 := Within.trans (a := State.signerCount_mask) rfl hW
  have w2 := Within.trans (a := State.voidChallenge_mask) rfl hW
  have w3 := Within.trans (a := State.doeProofFail_mask) rfl hW
  have w4 := Within.trans (a := State.ownerStep_mask) rfl hW
  have w5 := Within.trans (a := State.setOwner_mask) rfl hW
  have w6 := Within.trans (a := State.raise_mask) rfl hW
  have w7 := Within.trans (a := State.doeAnswer_mask) rfl hW
  repeat' first
    | intro _
    | with_reducible assumption
    | (extract_lets +onlyGivenNames x; refine Frame.cut (W := W) (s0 := s0) x ?_ ?_; unfold x; clear x; rotate_left; clear_value x; revert x; intro _ _)
    | (extract_lets +onlyGivenNames x; clear_value x; revert x; intro _)
    | with_reducible refine State.doe_frame w0 ?_ ?_
    | with_reducible refine State.signerCount_frame w1 ?_ ?_
    | with_reducible refine State.voidChallenge_frame w2 ?_
    | with_reducible refine State.doeProofFail_frame w3 ?_
    | with_reducible refine State.ownerStep_frame w4 ?_ ?_
    | with_reducible refine State.setOwner_frame w5 ?_
    | with_reducible refine State.raise_frame w6 ?_
    | with_reducible refine State.doeAnswer_frame w7 ?_
    | with_reducible refine Frame.ite ?_ ?_
    | with_reducible refine Frame.foldl ?_ _ _ ?_
    | split
    | with_reducible refine Frame.of_snd (by with_reducible assumption) ?_
    | with_reducible refine Frame.of_fst (by with_reducible assumption) ?_

def execOwnerSetSigners_mask : Nat := 0x6020000000000000880000000005000000000000000000000000000800000000001a21000000022008028
theorem execOwnerSetSigners_frame {s nx : State} {i : Port} {h_ : DoeHeader} {signers : List (BitVec 512)} {ok : Bool} (e : execOwnerSetSigners i h_ signers ok s = .next nx) : Frame execOwnerSetSigners_mask s nx := by
  refine State.run_frame rfl (fun W s0 s hW h => ?_) e
  have w0 := Within.trans (a := State.doe_mask) rfl hW
  have w1 := Within.trans (a := State.signerCount_mask) rfl hW
  have w2 := Within.trans (a := State.voidChallenge_mask) rfl hW
  have w3 := Within.trans (a := State.doeProofFail_mask) rfl hW
  have w4 := Within.trans (a := State.raise_mask) rfl hW
  have w5 := Within.trans (a := State.setOwner_mask) rfl hW
  have w6 := Within.trans (a := State.doeAnswer_mask) rfl hW
  repeat' first
    | intro _
    | with_reducible assumption
    | (extract_lets +onlyGivenNames x; refine Frame.cut (W := W) (s0 := s0) x ?_ ?_; unfold x; clear x; rotate_left; clear_value x; revert x; intro _ _)
    | (extract_lets +onlyGivenNames x; clear_value x; revert x; intro _)
    | with_reducible refine State.doe_frame w0 ?_ ?_
    | with_reducible refine State.signerCount_frame w1 ?_ ?_
    | with_reducible refine State.voidChallenge_frame w2 ?_
    | with_reducible refine State.doeProofFail_frame w3 ?_
    | with_reducible refine State.raise_frame w4 ?_
    | with_reducible refine State.setOwner_frame w5 ?_
    | with_reducible refine State.doeAnswer_frame w6 ?_
    | with_reducible refine Frame.ite ?_ ?_
    | with_reducible refine Frame.foldl ?_ _ _ ?_
    | split
    | with_reducible refine Frame.of_snd (by with_reducible assumption) ?_
    | with_reducible refine Frame.of_fst (by with_reducible assumption) ?_

def execGetRatchets_mask : Nat := 0x6020000000000000800000000005000000000000000000000000000000000000000000000000022008020
theorem execGetRatchets_frame {s nx : State} {i : Port} {h_ : DoeHeader} (e : execGetRatchets i h_ s = .next nx) : Frame execGetRatchets_mask s nx := by
  refine State.run_frame rfl (fun W s0 s hW h => ?_) e
  have w0 := Within.trans (a := State.doe_mask) rfl hW
  have w1 := Within.trans (a := State.doeAnswer_mask) rfl hW
  repeat' first
    | intro _
    | with_reducible assumption
    | (extract_lets +onlyGivenNames x; refine Frame.cut (W := W) (s0 := s0) x ?_ ?_; unfold x; clear x; rotate_left; clear_value x; revert x; intro _ _)
    | (extract_lets +onlyGivenNames x; clear_value x; revert x; intro _)
    | with_reducible refine State.doe_frame w0 ?_ ?_
    | with_reducible refine State.doeAnswer_frame w1 ?_
    | with_reducible refine Frame.ite ?_ ?_
    | with_reducible refine Frame.foldl ?_ _ _ ?_
    | split
    | with_reducible refine Frame.of_snd (by with_reducible assumption) ?_
    | with_reducible refine Frame.of_fst (by with_reducible assumption) ?_

def execDoeAbort_mask : Nat := 0x800000000005000000000000000000000000000000000000000000000000000008020
theorem execDoeAbort_frame {s nx : State} {i : Port} (e : execDoeAbort i s = .next nx) : Frame execDoeAbort_mask s nx := by
  refine State.run_frame rfl (fun W s0 s hW h => ?_) e
  have b5 := hW.bit (n := 5) (by decide)
  repeat' first
    | intro _
    | with_reducible assumption
    | (extract_lets +onlyGivenNames x; refine Frame.cut (W := W) (s0 := s0) x ?_ ?_; unfold x; clear x; rotate_left; clear_value x; revert x; intro _ _)
    | (extract_lets +onlyGivenNames x; clear_value x; revert x; intro _)
    | with_reducible refine Frame.ite ?_ ?_
    | with_reducible refine Frame.foldl ?_ _ _ ?_
    | split
    | with_reducible refine Frame.of_snd (by with_reducible assumption) ?_
    | with_reducible refine Frame.of_fst (by with_reducible assumption) ?_
    | with_reducible refine Frame.boot_upd b5 ?_

end Sys2Proof.Machine
end

