-- ==== Sys2Proof/Laws/Waym.lean ====
section
/-! SUPPORT. What the operations of Machine/Waym.lean change: each differs from its argument in the areas of its mask alone. -/

set_option linter.all false

namespace Sys2Proof.Machine

def State.eraseSector_mask : Nat := 0x460a0000000000000000000000000000000000000000000000000000000000000000000000000022000000
theorem State.eraseSector_frame {W : Nat} {s0 s : State} {x : Nat} (hW : Within State.eraseSector_mask W) (h : Frame W s0 s) :
    Frame W s0 (State.eraseSector s x) := by
  have b25 := hW.bit (n := 25) (by decide)
  have b342 := hW.bit (n := 342) (by decide)
  have b331 := hW.bit (n := 331) (by decide)
  have w3 := Within.trans (a := State.raise_mask) rfl hW
  unfold State.eraseSector
  repeat' first
    | intro _
    | with_reducible assumption
    | (extract_lets +onlyGivenNames x; refine Frame.cut (W := W) (s0 := s0) x ?_ ?_; unfold x; clear x; rotate_left; clear_value x; revert x; intro _ _)
    | (extract_lets +onlyGivenNames x; clear_value x; revert x; intro _)
    | with_reducible refine State.set_frame (F.WAYM_WEAR_erases_kind) b342 ?_
    | with_reducible refine State.set_frame (F.WAYM_OLDEST_SEQ_seq_kind) b331 ?_
    | with_reducible refine State.raise_frame w3 ?_
    | with_reducible refine Frame.ite ?_ ?_
    | with_reducible refine Frame.foldl ?_ _ _ ?_
    | split
    | with_reducible refine Frame.of_snd (by with_reducible assumption) ?_
    | with_reducible refine Frame.of_fst (by with_reducible assumption) ?_
    | with_reducible refine Frame.snd_mk ?_
    | with_reducible refine Frame.fst_mk ?_
    | with_reducible refine Frame.recorder_upd b25 ?_

def State.enterSector_mask : Nat := 0x460a0000000000000000000000000000000000000000000000000000000000000000000000000022000000
theorem State.enterSector_frame {W : Nat} {s0 s : State} {x : Nat} (hW : Within State.enterSector_mask W) (h : Frame W s0 s) :
    Frame W s0 (State.enterSector s x) := by
  have b25 := hW.bit (n := 25) (by decide)
  have w1 := Within.trans (a := State.eraseSector_mask) rfl hW
  unfold State.enterSector
  repeat' first
    | intro _
    | with_reducible assumption
    | (extract_lets +onlyGivenNames x; refine Frame.cut (W := W) (s0 := s0) x ?_ ?_; unfold x; clear x; rotate_left; clear_value x; revert x; intro _ _)
    | (extract_lets +onlyGivenNames x; clear_value x; revert x; intro _)
    | with_reducible refine State.eraseSector_frame w1 ?_
    | with_reducible refine Frame.ite ?_ ?_
    | with_reducible refine Frame.foldl ?_ _ _ ?_
    | split
    | with_reducible refine Frame.of_snd (by with_reducible assumption) ?_
    | with_reducible refine Frame.of_fst (by with_reducible assumption) ?_
    | with_reducible refine Frame.snd_mk ?_
    | with_reducible refine Frame.fst_mk ?_
    | with_reducible refine Frame.recorder_upd b25 ?_

def State.takeBudget_mask : Nat := 0xe020000000000000000000000000000000000000000000000000000000000000000000000000022000000
theorem State.takeBudget_frame {W : Nat} {s0 s : State} (hW : Within State.takeBudget_mask W) (h : Frame W s0 s) :
    Frame W s0 (State.takeBudget s) := by
  have b339 := hW.bit (n := 339) (by decide)
  have b329 := hW.bit (n := 329) (by decide)
  have w2 := Within.trans (a := State.raise_mask) rfl hW
  unfold State.takeBudget
  repeat' first
    | intro _
    | with_reducible assumption
    | (extract_lets +onlyGivenNames x; refine Frame.cut (W := W) (s0 := s0) x ?_ ?_; unfold x; clear x; rotate_left; clear_value x; revert x; intro _ _)
    | (extract_lets +onlyGivenNames x; clear_value x; revert x; intro _)
    | with_reducible refine State.set_frame (F.WAYM_BUDGET_tokens_kind) b339 ?_
    | with_reducible refine State.set_frame (F.WAYM_STATUS_budget_empty_kind) b329 ?_
    | with_reducible refine State.raise_frame w2 ?_
    | with_reducible refine Frame.ite ?_ ?_
    | with_reducible refine Frame.foldl ?_ _ _ ?_
    | split
    | with_reducible refine Frame.of_snd (by with_reducible assumption) ?_
    | with_reducible refine Frame.of_fst (by with_reducible assumption) ?_
    | with_reducible refine Frame.snd_mk ?_
    | with_reducible refine Frame.fst_mk ?_

def State.flashWrite_mask : Nat := 0x4e0e0000000000000000000000000000000000000000000000000000000000000000000000000022000000
theorem State.flashWrite_frame {W : Nat} {s0 s : State} {w : Waymark} {extra : Nat} (hW : Within State.flashWrite_mask W) (h : Frame W s0 s) :
    Frame W s0 (State.flashWrite s w extra) := by
  have b25 := hW.bit (n := 25) (by decide)
  have b330 := hW.bit (n := 330) (by decide)
  have b331 := hW.bit (n := 331) (by decide)
  have w3 := Within.trans (a := State.enterSector_mask) rfl hW
  have w4 := Within.trans (a := State.takeBudget_mask) rfl hW
  have w5 := Within.trans (a := State.fire_mask) rfl hW
  unfold State.flashWrite
  repeat' first
    | intro _
    | with_reducible assumption
    | (extract_lets +onlyGivenNames x; refine Frame.cut (W := W) (s0 := s0) x ?_ ?_; unfold x; clear x; rotate_left; clear_value x; revert x; intro _ _)
    | (extract_lets +onlyGivenNames x; clear_value x; revert x; intro _)
    | with_reducible refine State.set_frame (F.WAYM_HEAD_SEQ_seq_kind) b330 ?_
    | with_reducible refine State.set_frame (F.WAYM_OLDEST_SEQ_seq_kind) b331 ?_
    | with_reducible refine State.enterSector_frame w3 ?_
    | with_reducible refine State.takeBudget_frame w4 ?_
    | with_reducible refine State.each_frame ?_ ?_
    | with_reducible refine State.fire_frame w5 ?_
    | with_reducible refine Frame.ite ?_ ?_
    | with_reducible refine Frame.foldl ?_ _ _ ?_
    | split
    | with_reducible refine Frame.of_snd (by with_reducible assumption) ?_
    | with_reducible refine Frame.of_fst (by with_reducible assumption) ?_
    | with_reducible refine Frame.snd_mk ?_
    | with_reducible refine Frame.fst_mk ?_
    | with_reducible refine Frame.recorder_upd b25 ?_

def State.unbuffer_mask : Nat := 0x20000000000000000000000000000000000000000000000000000000000000000000000000002000000
theorem State.unbuffer_frame {W : Nat} {s0 s : State} (hW : Within State.unbuffer_mask W) (h : Frame W s0 s) :
    Frame W s0 (State.unbuffer s) := by
  have b25 := hW.bit (n := 25) (by decide)
  have b329 := hW.bit (n := 329) (by decide)
  unfold State.unbuffer
  repeat' first
    | intro _
    | with_reducible assumption
    | (extract_lets +onlyGivenNames x; refine Frame.cut (W := W) (s0 := s0) x ?_ ?_; unfold x; clear x; rotate_left; clear_value x; revert x; intro _ _)
    | (extract_lets +onlyGivenNames x; clear_value x; revert x; intro _)
    | with_reducible refine State.set_frame (F.WAYM_STATUS_buffered_kind) b329 ?_
    | with_reducible refine Frame.ite ?_ ?_
    | with_reducible refine Frame.foldl ?_ _ _ ?_
    | split
    | with_reducible refine Frame.of_snd (by with_reducible assumption) ?_
    | with_reducible refine Frame.of_fst (by with_reducible assumption) ?_
    | with_reducible refine Frame.snd_mk ?_
    | with_reducible refine Frame.fst_mk ?_
    | with_reducible refine Frame.recorder_upd b25 ?_

def State.reportDrop_mask : Nat := 0x6020000000000000000000000000000000000000000000000000000000000000000000000000022000000
theorem State.reportDrop_frame {W : Nat} {s0 s : State} (hW : Within State.reportDrop_mask W) (h : Frame W s0 s) :
    Frame W s0 (State.reportDrop s) := by
  have b25 := hW.bit (n := 25) (by decide)
  have w1 := Within.trans (a := State.raise_mask) rfl hW
  unfold State.reportDrop
  repeat' first
    | intro _
    | with_reducible assumption
    | (extract_lets +onlyGivenNames x; refine Frame.cut (W := W) (s0 := s0) x ?_ ?_; unfold x; clear x; rotate_left; clear_value x; revert x; intro _ _)
    | (extract_lets +onlyGivenNames x; clear_value x; revert x; intro _)
    | with_reducible refine State.raise_frame w1 ?_
    | with_reducible refine Frame.ite ?_ ?_
    | with_reducible refine Frame.foldl ?_ _ _ ?_
    | split
    | with_reducible refine Frame.of_snd (by with_reducible assumption) ?_
    | with_reducible refine Frame.of_fst (by with_reducible assumption) ?_
    | with_reducible refine Frame.snd_mk ?_
    | with_reducible refine Frame.fst_mk ?_
    | with_reducible refine Frame.recorder_upd b25 ?_

def State.waymarkWrite_mask : Nat := 0x4e0e0000000000000000000000000000000000000000000000000000000000000000000000000022000000
theorem State.waymarkWrite_frame {W : Nat} {s0 s : State} {extra : Nat} (hW : Within State.waymarkWrite_mask W) (h : Frame W s0 s) :
    Frame W s0 (State.waymarkWrite s extra) := by
  have w0 := Within.trans (a := State.reportDrop_mask) rfl hW
  have w1 := Within.trans (a := State.flashWrite_mask) rfl hW
  have w2 := Within.trans (a := State.unbuffer_mask) rfl hW
  unfold State.waymarkWrite
  repeat' first
    | intro _
    | with_reducible assumption
    | (extract_lets +onlyGivenNames x; refine Frame.cut (W := W) (s0 := s0) x ?_ ?_; unfold x; clear x; rotate_left; clear_value x; revert x; intro _ _)
    | (extract_lets +onlyGivenNames x; clear_value x; revert x; intro _)
    | with_reducible refine State.reportDrop_frame w0 ?_
    | with_reducible refine State.flashWrite_frame w1 ?_
    | with_reducible refine State.unbuffer_frame w2 ?_
    | with_reducible refine Frame.ite ?_ ?_
    | with_reducible refine Frame.foldl ?_ _ _ ?_
    | split
    | with_reducible refine Frame.of_snd (by with_reducible assumption) ?_
    | with_reducible refine Frame.of_fst (by with_reducible assumption) ?_
    | with_reducible refine Frame.snd_mk ?_
    | with_reducible refine Frame.fst_mk ?_

def execWaymarkWrite_mask : Nat := 0x4e0e0000000000000800000000005000000000000000000000000000000000000000000000000022008000
theorem execWaymarkWrite_frame {s nx : State} (e : execWaymarkWrite s = .next nx) : Frame execWaymarkWrite_mask s nx := by
  refine State.run_frame rfl (fun W s0 s hW h => ?_) e
  have w0 := Within.trans (a := State.waymarkWrite_mask) rfl hW
  repeat' first
    | intro _
    | with_reducible assumption
    | (extract_lets +onlyGivenNames x; refine Frame.cut (W := W) (s0 := s0) x ?_ ?_; unfold x; clear x; rotate_left; clear_value x; revert x; intro _ _)
    | (extract_lets +onlyGivenNames x; clear_value x; revert x; intro _)
    | with_reducible refine State.waymarkWrite_frame w0 ?_
    | with_reducible refine Frame.ite ?_ ?_
    | with_reducible refine Frame.foldl ?_ _ _ ?_
    | split
    | with_reducible refine Frame.of_snd (by with_reducible assumption) ?_
    | with_reducible refine Frame.of_fst (by with_reducible assumption) ?_

def execSectorErased_mask : Nat := 0x800000000005000000000000000000000000000000000000000000000000002008000
theorem execSectorErased_frame {s nx : State} (e : execSectorErased s = .next nx) : Frame execSectorErased_mask s nx := by
  refine State.run_frame rfl (fun W s0 s hW h => ?_) e
  have b25 := hW.bit (n := 25) (by decide)
  repeat' first
    | intro _
    | with_reducible assumption
    | (extract_lets +onlyGivenNames x; refine Frame.cut (W := W) (s0 := s0) x ?_ ?_; unfold x; clear x; rotate_left; clear_value x; revert x; intro _ _)
    | (extract_lets +onlyGivenNames x; clear_value x; revert x; intro _)
    | with_reducible refine Frame.ite ?_ ?_
    | with_reducible refine Frame.foldl ?_ _ _ ?_
    | split
    | with_reducible refine Frame.of_snd (by with_reducible assumption) ?_
    | with_reducible refine Frame.of_fst (by with_reducible assumption) ?_
    | with_reducible refine Frame.recorder_upd b25 ?_

def execBudgetRefill_mask : Nat := 0xe020000000000000800000000005000000000000000000000000000000000000000000000000022008000
theorem execBudgetRefill_frame {s nx : State} (e : execBudgetRefill s = .next nx) : Frame execBudgetRefill_mask s nx := by
  refine State.run_frame rfl (fun W s0 s hW h => ?_) e
  have b339 := hW.bit (n := 339) (by decide)
  have b329 := hW.bit (n := 329) (by decide)
  have w2 := Within.trans (a := State.raise_mask) rfl hW
  repeat' first
    | intro _
    | with_reducible assumption
    | (extract_lets +onlyGivenNames x; refine Frame.cut (W := W) (s0 := s0) x ?_ ?_; unfold x; clear x; rotate_left; clear_value x; revert x; intro _ _)
    | (extract_lets +onlyGivenNames x; clear_value x; revert x; intro _)
    | with_reducible refine State.set_frame (F.WAYM_BUDGET_tokens_kind) b339 ?_
    | with_reducible refine State.set_frame (F.WAYM_STATUS_budget_empty_kind) b329 ?_
    | with_reducible refine State.raise_frame w2 ?_
    | with_reducible refine Frame.ite ?_ ?_
    | with_reducible refine Frame.foldl ?_ _ _ ?_
    | split
    | with_reducible refine Frame.of_snd (by with_reducible assumption) ?_
    | with_reducible refine Frame.of_fst (by with_reducible assumption) ?_

def execBucketRefill_mask : Nat := 0x800000000005000000000000000000000000000000000000000000000000002008000
theorem execBucketRefill_frame {s nx : State} (e : execBucketRefill s = .next nx) : Frame execBucketRefill_mask s nx := by
  refine State.run_frame rfl (fun W s0 s hW h => ?_) e
  have b25 := hW.bit (n := 25) (by decide)
  repeat' first
    | intro _
    | with_reducible assumption
    | (extract_lets +onlyGivenNames x; refine Frame.cut (W := W) (s0 := s0) x ?_ ?_; unfold x; clear x; rotate_left; clear_value x; revert x; intro _ _)
    | (extract_lets +onlyGivenNames x; clear_value x; revert x; intro _)
    | with_reducible refine Frame.ite ?_ ?_
    | with_reducible refine Frame.foldl ?_ _ _ ?_
    | split
    | with_reducible refine Frame.of_snd (by with_reducible assumption) ?_
    | with_reducible refine Frame.of_fst (by with_reducible assumption) ?_
    | with_reducible refine Frame.recorder_upd b25 ?_

def execWaymarkSummary_mask : Nat := 0x2020000000000000800000000005000000000000000000000000000000000000000000000000022008000
theorem execWaymarkSummary_frame {s nx : State} {code : Nat} {par : Nat} (e : execWaymarkSummary code par s = .next nx) : Frame execWaymarkSummary_mask s nx := by
  refine State.run_frame rfl (fun W s0 s hW h => ?_) e
  have w0 := Within.trans (a := State.buffer_mask) rfl hW
  have w1 := Within.trans (a := State.setBucket_mask) rfl hW
  have w2 := Within.trans (a := State.noteDrop_mask) rfl hW
  repeat' first
    | intro _
    | with_reducible assumption
    | (extract_lets +onlyGivenNames x; refine Frame.cut (W := W) (s0 := s0) x ?_ ?_; unfold x; clear x; rotate_left; clear_value x; revert x; intro _ _)
    | (extract_lets +onlyGivenNames x; clear_value x; revert x; intro _)
    | with_reducible refine State.setBucket_frame w1 ?_
    | with_reducible refine State.noteDrop_frame w2 ?_
    | with_reducible refine Frame.ite ?_ ?_
    | with_reducible refine Frame.foldl ?_ _ _ ?_
    | split
    | with_reducible refine State.buffer_frame (by with_reducible assumption) w0 ?_
    | with_reducible refine Frame.of_snd (by with_reducible assumption) ?_
    | with_reducible refine Frame.of_fst (by with_reducible assumption) ?_

def State.thaw_mask : Nat := 0x460a0000000000000000000000000000000000000000000000000000000000000000000000000022000000
theorem State.thaw_frame {W : Nat} {s0 s : State} {cause : Nat} (hW : Within State.thaw_mask W) (h : Frame W s0 s) :
    Frame W s0 (State.thaw s cause) := by
  have b25 := hW.bit (n := 25) (by decide)
  have b329 := hW.bit (n := 329) (by decide)
  have w2 := Within.trans (a := State.raise_mask) rfl hW
  have w3 := Within.trans (a := State.eraseSector_mask) rfl hW
  unfold State.thaw
  repeat' first
    | intro _
    | with_reducible assumption
    | (extract_lets +onlyGivenNames x; refine Frame.cut (W := W) (s0 := s0) x ?_ ?_; unfold x; clear x; rotate_left; clear_value x; revert x; intro _ _)
    | (extract_lets +onlyGivenNames x; clear_value x; revert x; intro _)
    | with_reducible refine State.set_frame (F.WAYM_STATUS_freeze_port_kind) b329 ?_
    | with_reducible refine State.set_frame (F.WAYM_STATUS_frozen_kind) b329 ?_
    | with_reducible refine State.raise_frame w2 ?_
    | with_reducible refine State.eraseSector_frame w3 ?_
    | with_reducible refine Frame.ite ?_ ?_
    | with_reducible refine Frame.foldl ?_ _ _ ?_
    | split
    | with_reducible refine Frame.of_snd (by with_reducible assumption) ?_
    | with_reducible refine Frame.of_fst (by with_reducible assumption) ?_
    | with_reducible refine Frame.snd_mk ?_
    | with_reducible refine Frame.fst_mk ?_
    | with_reducible refine Frame.recorder_upd b25 ?_

def State.waymStatus_mask : Nat := 0x200000000000000000000000000000000000000000000000000000000000000000000000000000000000
theorem State.waymStatus_frame {W : Nat} {s0 s : State} {i : Port} {code : Nat} {reason : Nat} (hW : Within State.waymStatus_mask W) (h : Frame W s0 s) :
    Frame W s0 (State.waymStatus s i code reason) := by
  have b333 := hW.bit (n := 333) (by decide)
  unfold State.waymStatus
  repeat' first
    | intro _
    | with_reducible assumption
    | (extract_lets +onlyGivenNames x; refine Frame.cut (W := W) (s0 := s0) x ?_ ?_; unfold x; clear x; rotate_left; clear_value x; revert x; intro _ _)
    | (extract_lets +onlyGivenNames x; clear_value x; revert x; intro _)
    | with_reducible refine State.set_frame (F.WAYM_CMD_STATUS_reason_kind _) b333 ?_
    | with_reducible refine State.set_frame (F.WAYM_CMD_STATUS_code_kind _) b333 ?_
    | with_reducible refine Frame.ite ?_ ?_
    | with_reducible refine Frame.foldl ?_ _ _ ?_
    | split
    | with_reducible refine Frame.of_snd (by with_reducible assumption) ?_
    | with_reducible refine Frame.of_fst (by with_reducible assumption) ?_
    | with_reducible refine Frame.snd_mk ?_
    | with_reducible refine Frame.fst_mk ?_

def State.waymCmd_mask : Nat := 0x6220000000000000000000000000000000000000000000000000000000000000000000000000022000000
theorem State.waymCmd_frame {W : Nat} {s0 s : State} {i : Port} {f : State → State} (hW : Within State.waymCmd_mask W) (hf_f : ∀ s, Frame W s0 s → Frame W s0 (f s)) (h : Frame W s0 s) :
    Frame W s0 (State.waymCmd s i f) := by
  have w0 := Within.trans (a := State.waymStatus_mask) rfl hW
  have w1 := Within.trans (a := State.raise_mask) rfl hW
  unfold State.waymCmd
  repeat' first
    | intro _
    | with_reducible assumption
    | (extract_lets +onlyGivenNames x; refine Frame.cut (W := W) (s0 := s0) x ?_ ?_; unfold x; clear x; rotate_left; clear_value x; revert x; intro _ _)
    | (extract_lets +onlyGivenNames x; clear_value x; revert x; intro _)
    | with_reducible refine State.waymStatus_frame w0 ?_
    | with_reducible refine State.raise_frame w1 ?_
    | with_reducible refine Frame.ite ?_ ?_
    | with_reducible apply hf_f
    | with_reducible refine Frame.foldl ?_ _ _ ?_
    | split
    | with_reducible refine Frame.of_snd (by with_reducible assumption) ?_
    | with_reducible refine Frame.of_fst (by with_reducible assumption) ?_
    | with_reducible refine Frame.snd_mk ?_
    | with_reducible refine Frame.fst_mk ?_

def execFreeze_mask : Nat := 0x26220000000000000800000000005000000000000000000000000000000000000000000000000022008000
theorem execFreeze_frame {s nx : State} {i : Port} (e : execFreeze i s = .next nx) : Frame execFreeze_mask s nx := by
  refine State.run_frame rfl (fun W s0 s hW h => ?_) e
  have b25 := hW.bit (n := 25) (by decide)
  have b341 := hW.bit (n := 341) (by decide)
  have b329 := hW.bit (n := 329) (by decide)
  have w3 := Within.trans (a := State.waymCmd_mask) rfl hW
  have w4 := Within.trans (a := State.waymStatus_mask) rfl hW
  have w5 := Within.trans (a := State.raise_mask) rfl hW
  repeat' first
    | intro _
    | with_reducible assumption
    | (extract_lets +onlyGivenNames x; refine Frame.cut (W := W) (s0 := s0) x ?_ ?_; unfold x; clear x; rotate_left; clear_value x; revert x; intro _ _)
    | (extract_lets +onlyGivenNames x; clear_value x; revert x; intro _)
    | with_reducible refine State.set_frame (F.WAYM_FROZEN_AT_seq_kind) b341 ?_
    | with_reducible refine State.set_frame (F.WAYM_STATUS_freeze_port_kind) b329 ?_
    | with_reducible refine State.set_frame (F.WAYM_STATUS_frozen_kind) b329 ?_
    | with_reducible refine State.waymCmd_frame w3 ?_ ?_
    | with_reducible refine State.waymStatus_frame w4 ?_
    | with_reducible refine State.raise_frame w5 ?_
    | with_reducible refine Frame.ite ?_ ?_
    | with_reducible refine Frame.foldl ?_ _ _ ?_
    | split
    | with_reducible refine Frame.of_snd (by with_reducible assumption) ?_
    | with_reducible refine Frame.of_fst (by with_reducible assumption) ?_
    | with_reducible refine Frame.recorder_upd b25 ?_

def execThaw_mask : Nat := 0x462a0000000000000800000000005000000000000000000000000000000000000000000000000022008000
theorem execThaw_frame {s nx : State} {i : Port} (e : execThaw i s = .next nx) : Frame execThaw_mask s nx := by
  refine State.run_frame rfl (fun W s0 s hW h => ?_) e
  have w0 := Within.trans (a := State.waymCmd_mask) rfl hW
  have w1 := Within.trans (a := State.waymStatus_mask) rfl hW
  have w2 := Within.trans (a := State.thaw_mask) rfl hW
  repeat' first
    | intro _
    | with_reducible assumption
    | (extract_lets +onlyGivenNames x; refine Frame.cut (W := W) (s0 := s0) x ?_ ?_; unfold x; clear x; rotate_left; clear_value x; revert x; intro _ _)
    | (extract_lets +onlyGivenNames x; clear_value x; revert x; intro _)
    | with_reducible refine State.waymCmd_frame w0 ?_ ?_
    | with_reducible refine State.waymStatus_frame w1 ?_
    | with_reducible refine State.thaw_frame w2 ?_
    | with_reducible refine Frame.ite ?_ ?_
    | with_reducible refine Frame.foldl ?_ _ _ ?_
    | split
    | with_reducible refine Frame.of_snd (by with_reducible assumption) ?_
    | with_reducible refine Frame.of_fst (by with_reducible assumption) ?_

def execFreezeTimeout_mask : Nat := 0x460a0000000000000800000000005000000000000000000000000000000000000000000000000022008000
theorem execFreezeTimeout_frame {s nx : State} (e : execFreezeTimeout s = .next nx) : Frame execFreezeTimeout_mask s nx := by
  refine State.run_frame rfl (fun W s0 s hW h => ?_) e
  have w0 := Within.trans (a := State.thaw_mask) rfl hW
  repeat' first
    | intro _
    | with_reducible assumption
    | (extract_lets +onlyGivenNames x; refine Frame.cut (W := W) (s0 := s0) x ?_ ?_; unfold x; clear x; rotate_left; clear_value x; revert x; intro _ _)
    | (extract_lets +onlyGivenNames x; clear_value x; revert x; intro _)
    | with_reducible refine State.thaw_frame w0 ?_
    | with_reducible refine Frame.ite ?_ ?_
    | with_reducible refine Frame.foldl ?_ _ _ ?_
    | split
    | with_reducible refine Frame.of_snd (by with_reducible assumption) ?_
    | with_reducible refine Frame.of_fst (by with_reducible assumption) ?_

def execWaymRead_mask : Nat := 0x1800000000000000800000000005000000000000000000000000000000000000000000000000008008000
theorem execWaymRead_frame {s nx : State} {i : Port} (e : execWaymRead i s = .next nx) : Frame execWaymRead_mask s nx := by
  refine State.run_frame rfl (fun W s0 s hW h => ?_) e
  have b335 := hW.bit (n := 335) (by decide)
  have b336 := hW.bit (n := 336) (by decide)
  have w0 := Within.trans (a := State.reply_mask) rfl hW
  repeat' first
    | intro _
    | with_reducible assumption
    | (extract_lets +onlyGivenNames x; refine Frame.cut (W := W) (s0 := s0) x ?_ ?_; unfold x; clear x; rotate_left; clear_value x; revert x; intro _ _)
    | (extract_lets +onlyGivenNames x; clear_value x; revert x; intro _)
    | with_reducible refine State.set_frame (F.WAYM_READ_STATE_state_kind _) b335 ?_
    | with_reducible refine State.set_frame (F.WAYM_READ_DATA_word_kind _ _) b336 ?_
    | with_reducible refine State.reply_frame w0 ?_
    | with_reducible refine State.each_frame ?_ ?_
    | with_reducible refine Frame.ite ?_ ?_
    | with_reducible refine Frame.foldl ?_ _ _ ?_
    | split
    | with_reducible refine Frame.of_snd (by with_reducible assumption) ?_
    | with_reducible refine Frame.of_fst (by with_reducible assumption) ?_
    | with_reducible refine Frame.snd_mk ?_
    | with_reducible refine Frame.fst_mk ?_

end Sys2Proof.Machine
end

