-- ==== Sys2Proof/Laws/Board.lean ====
section
/-! SUPPORT. What the operations of Machine/Board.lean change: each differs from its argument in the areas of its mask alone. -/

set_option linter.all false

namespace Sys2Proof.Machine

def execSupplyDip_mask : Nat := 0x6020000000000000800000000005000000000000000000000000000000000000000000008000022008000
theorem execSupplyDip_frame {s nx : State} {us : Fin 1000} (e : execSupplyDip us s = .next nx) : Frame execSupplyDip_mask s nx := by
  refine State.run_frame rfl (fun W s0 s hW h => ?_) e
  have b51 := hW.bit (n := 51) (by decide)
  have w1 := Within.trans (a := State.raise_mask) rfl hW
  repeat' first
    | intro _
    | with_reducible assumption
    | (extract_lets +onlyGivenNames x; refine Frame.cut (W := W) (s0 := s0) x ?_ ?_; unfold x; clear x; rotate_left; clear_value x; revert x; intro _ _)
    | (extract_lets +onlyGivenNames x; clear_value x; revert x; intro _)
    | with_reducible refine State.set_frame (F.CAP_BOARD_STATUS_dip_seen_kind) b51 ?_
    | with_reducible refine State.raise_frame w1 ?_
    | with_reducible refine Frame.ite ?_ ?_
    | with_reducible refine Frame.foldl ?_ _ _ ?_
    | split
    | with_reducible refine Frame.of_snd (by with_reducible assumption) ?_
    | with_reducible refine Frame.of_fst (by with_reducible assumption) ?_

def State.powerDown_mask : Nat := 0xffffffffffffffffffffffffffffffffffffffffffffffffffffffffffffffffffffffffffffffffffffffffffffff
theorem State.powerDown_frame {W : Nat} {s0 s : State} {p : Power} (hW : Within State.powerDown_mask W) (h : Frame W s0 s) :
    Frame W s0 (s.powerDown p) := by
  have q : ∀ {P : Prop} (n : Nat), (State.powerDown_mask.testBit n = true) → W.testBit n = false → P := fun n hn hx => by
    rw [hW.bit hn] at hx; cases hx
  exact {
    variant := h.variant
    pending := h.pending
    memWf := fun _ => rfl
    regsWf := fun _ => rfl
    regs := fun k => by
      have h1 := regKind_range k
      exact q _ (by
        rw [show State.powerDown_mask = 2 ^ 376 - 1 from rfl, Nat.testBit_two_pow_sub_one]
        exact decide_eq_true h1.2)
    spent := h.spent
    cfg := q _ (by decide)
    board := q _ (by decide)
    zld := q _ (by decide)
    keep := q _ (by decide)
    flash := q _ (by decide)
    boot := q _ (by decide)
    pace := q _ (by decide)
    cores := q _ (by decide)
    exec := q _ (by decide)
    route := q _ (by decide)
    kv := q _ (by decide)
    lane := q _ (by decide)
    isp := q _ (by decide)
    ingest := q _ (by decide)
    motion := q _ (by decide)
    fio := q _ (by decide)
    time := q _ (by decide)
    peer := q _ (by decide)
    host := q _ (by decide)
    safe := q _ (by decide)
    integ := q _ (by decide)
    power := q _ (by decide)
    mem := q _ (by decide)
    clk := q _ (by decide)
    free := q _ (by decide)
    recorder := q _ (by decide)
    perf := q _ (by decide)
    replies := q _ (by decide)
    hiLatch := q _ (by decide)
    msix := q _ (by decide)
  }

def State.flushMarks_mask : Nat := 0x4e0e0000000000000000000000000000000000000000000000000000000000000000000000000022000000
theorem State.flushMarks_frame {W : Nat} {s0 s : State} {fuel : Nat} (hW : Within State.flushMarks_mask W) (h : Frame W s0 s) :
    Frame W s0 (State.flushMarks s fuel) := by
  have w0 := Within.trans (a := State.waymarkWrite_mask) rfl hW
  induction fuel generalizing s with
  | zero =>
    unfold State.flushMarks
    repeat' first
      | intro _
      | with_reducible assumption
      | (extract_lets +onlyGivenNames x; refine Frame.cut (W := W) (s0 := s0) x ?_ ?_; unfold x; clear x; rotate_left; clear_value x; revert x; intro _ _)
      | (extract_lets +onlyGivenNames x; clear_value x; revert x; intro _)
      | with_reducible refine State.waymarkWrite_frame w0 ?_
      | with_reducible refine Frame.ite ?_ ?_
      | with_reducible refine Frame.foldl ?_ _ _ ?_
      | split
      | with_reducible refine Frame.of_snd (by with_reducible assumption) ?_
      | with_reducible refine Frame.of_fst (by with_reducible assumption) ?_
      | with_reducible refine Frame.snd_mk ?_
      | with_reducible refine Frame.fst_mk ?_
  | succ fuel ih =>
    unfold State.flushMarks
    repeat' first
      | intro _
      | with_reducible assumption
      | with_reducible refine ih ?_
      | (extract_lets +onlyGivenNames x; refine Frame.cut (W := W) (s0 := s0) x ?_ ?_; unfold x; clear x; rotate_left; clear_value x; revert x; intro _ _)
      | (extract_lets +onlyGivenNames x; clear_value x; revert x; intro _)
      | with_reducible refine State.waymarkWrite_frame w0 ?_
      | with_reducible refine Frame.ite ?_ ?_
      | with_reducible refine Frame.foldl ?_ _ _ ?_
      | split
      | with_reducible refine Frame.of_snd (by with_reducible assumption) ?_
      | with_reducible refine Frame.of_fst (by with_reducible assumption) ?_
      | with_reducible refine Frame.snd_mk ?_
      | with_reducible refine Frame.fst_mk ?_

def State.powerLoss_mask : Nat := 0xffffffffffffffffffffffffffffffffffffffffffffffffffffffffffffffffffffffffffffffffffffffffffffff
theorem State.powerLoss_frame {W : Nat} {s0 s : State} {code : Nat} {v : Nat} {p : Power} (hW : Within State.powerLoss_mask W) (h : Frame W s0 s) :
    Frame W s0 (State.powerLoss s code v p) := by
  have b25 := hW.bit (n := 25) (by decide)
  have w1 := Within.trans (a := State.sendSafetyWith_mask) rfl hW
  have w2 := Within.trans (a := State.enterSafe_mask) rfl hW
  have w3 := Within.trans (a := State.driveOutputs_mask) rfl hW
  have w4 := Within.trans (a := State.saveCounters_mask) rfl hW
  have w5 := Within.trans (a := State.draw_mask) rfl hW
  have w6 := Within.trans (a := State.flushMarks_mask) rfl hW
  have w7 := Within.trans (a := State.powerDown_mask) rfl hW
  unfold State.powerLoss
  repeat' first
    | intro _
    | with_reducible assumption
    | (extract_lets +onlyGivenNames x; refine Frame.cut (W := W) (s0 := s0) x ?_ ?_; unfold x; clear x; rotate_left; clear_value x; revert x; intro _ _)
    | (extract_lets +onlyGivenNames x; clear_value x; revert x; intro _)
    | with_reducible refine State.sendSafetyWith_frame w1 ?_
    | with_reducible refine State.enterSafe_frame w2 ?_
    | with_reducible refine State.driveOutputs_frame w3 ?_
    | with_reducible refine State.saveCounters_frame w4 ?_
    | with_reducible refine State.draw_snd w5 ?_
    | with_reducible refine State.flushMarks_frame w6 ?_
    | with_reducible refine State.powerDown_frame w7 ?_
    | with_reducible refine Frame.ite ?_ ?_
    | with_reducible refine Frame.foldl ?_ _ _ ?_
    | split
    | with_reducible refine State.draw_frame (by with_reducible assumption) w5 ?_
    | with_reducible refine Frame.of_snd (by with_reducible assumption) ?_
    | with_reducible refine Frame.of_fst (by with_reducible assumption) ?_
    | with_reducible refine Frame.snd_mk ?_
    | with_reducible refine Frame.fst_mk ?_
    | with_reducible refine Frame.recorder_upd b25 ?_

def execBrownOut_mask : Nat := 0xffffffffffffffffffffffffffffffffffffffffffffffffffffffffffffffffffffffffffffffffffffffffffffff
theorem execBrownOut_frame {s nx : State} {v : BitVec 16} (e : execBrownOut v s = .next nx) : Frame execBrownOut_mask s nx := by
  unfold execBrownOut at e
  split at e
  · exact State.become_frame (State.powerDown_frame rfl (Frame.refl _ s)) e
  · exact State.run_frame rfl (fun W s0 s hW h => State.powerLoss_frame (Within.trans rfl hW) h) e

def execOverVoltage_mask : Nat := 0xffffffffffffffffffffffffffffffffffffffffffffffffffffffffffffffffffffffffffffffffffffffffffffff
theorem execOverVoltage_frame {s nx : State} {v : BitVec 16} (e : execOverVoltage v s = .next nx) : Frame execOverVoltage_mask s nx := by
  unfold execOverVoltage at e
  split at e
  · exact State.become_frame (State.powerDown_frame rfl (Frame.refl _ s)) e
  · exact State.run_frame rfl (fun W s0 s hW h => State.powerLoss_frame (Within.trans rfl hW) h) e

def State.dropHost_mask : Nat := 0x8000
theorem State.dropHost_frame {W : Nat} {s0 s : State} {off : Nat → Bool} (hW : Within State.dropHost_mask W) (h : Frame W s0 s) :
    Frame W s0 (State.dropHost s off) := by
  have b15 := hW.bit (n := 15) (by decide)
  unfold State.dropHost
  repeat' first
    | intro _
    | with_reducible assumption
    | (extract_lets +onlyGivenNames x; refine Frame.cut (W := W) (s0 := s0) x ?_ ?_; unfold x; clear x; rotate_left; clear_value x; revert x; intro _ _)
    | (extract_lets +onlyGivenNames x; clear_value x; revert x; intro _)
    | with_reducible refine Frame.ite ?_ ?_
    | with_reducible refine Frame.foldl ?_ _ _ ?_
    | split
    | with_reducible refine Frame.of_snd (by with_reducible assumption) ?_
    | with_reducible refine Frame.of_fst (by with_reducible assumption) ?_
    | with_reducible refine Frame.snd_mk ?_
    | with_reducible refine Frame.fst_mk ?_
    | with_reducible refine Frame.fio_upd b15 ?_

def State.noteField_mask : Nat := 0x2
theorem State.noteField_frame {W : Nat} {s0 s : State} {v : Option Nat} (hW : Within State.noteField_mask W) (h : Frame W s0 s) :
    Frame W s0 (State.noteField s v) := by
  have b1 := hW.bit (n := 1) (by decide)
  unfold State.noteField
  repeat' first
    | intro _
    | with_reducible assumption
    | (extract_lets +onlyGivenNames x; refine Frame.cut (W := W) (s0 := s0) x ?_ ?_; unfold x; clear x; rotate_left; clear_value x; revert x; intro _ _)
    | (extract_lets +onlyGivenNames x; clear_value x; revert x; intro _)
    | with_reducible refine Frame.ite ?_ ?_
    | with_reducible refine Frame.foldl ?_ _ _ ?_
    | split
    | with_reducible refine Frame.of_snd (by with_reducible assumption) ?_
    | with_reducible refine Frame.of_fst (by with_reducible assumption) ?_
    | with_reducible refine Frame.snd_mk ?_
    | with_reducible refine Frame.fst_mk ?_
    | with_reducible refine Frame.board_upd b1 ?_

def State.noteGroup_mask : Nat := 0x2
theorem State.noteGroup_frame {W : Nat} {s0 s : State} {g : Nat} {v : Option Nat} (hW : Within State.noteGroup_mask W) (h : Frame W s0 s) :
    Frame W s0 (State.noteGroup s g v) := by
  have b1 := hW.bit (n := 1) (by decide)
  unfold State.noteGroup
  repeat' first
    | intro _
    | with_reducible assumption
    | (extract_lets +onlyGivenNames x; refine Frame.cut (W := W) (s0 := s0) x ?_ ?_; unfold x; clear x; rotate_left; clear_value x; revert x; intro _ _)
    | (extract_lets +onlyGivenNames x; clear_value x; revert x; intro _)
    | with_reducible refine Frame.ite ?_ ?_
    | with_reducible refine Frame.foldl ?_ _ _ ?_
    | split
    | with_reducible refine Frame.of_snd (by with_reducible assumption) ?_
    | with_reducible refine Frame.of_fst (by with_reducible assumption) ?_
    | with_reducible refine Frame.snd_mk ?_
    | with_reducible refine Frame.fst_mk ?_
    | with_reducible refine Frame.board_upd b1 ?_

def State.fieldDown_mask : Nat := 0x3000000000000000000000000000000000000000000008000000008000
theorem State.fieldDown_frame {W : Nat} {s0 s : State} (hW : Within State.fieldDown_mask W) (h : Frame W s0 s) :
    Frame W s0 (State.fieldDown s) := by
  have b51 := hW.bit (n := 51) (by decide)
  have b228 := hW.bit (n := 228) (by decide)
  have b229 := hW.bit (n := 229) (by decide)
  have w0 := Within.trans (a := State.dropHost_mask) rfl hW
  have b15 := hW.bit (n := 15) (by decide)
  unfold State.fieldDown
  repeat' first
    | intro _
    | with_reducible assumption
    | (extract_lets +onlyGivenNames x; refine Frame.cut (W := W) (s0 := s0) x ?_ ?_; unfold x; clear x; rotate_left; clear_value x; revert x; intro _ _)
    | (extract_lets +onlyGivenNames x; clear_value x; revert x; intro _)
    | with_reducible refine State.set_frame (F.CAP_BOARD_STATUS_field_low_kind) b51 ?_
    | with_reducible refine State.set_frame (F.FIO_STATUS_field_low_kind) b228 ?_
    | with_reducible refine State.set_frame (F.FIO_IN_state_kind) b229 ?_
    | with_reducible refine State.dropHost_frame w0 ?_
    | with_reducible refine Frame.ite ?_ ?_
    | with_reducible refine Frame.foldl ?_ _ _ ?_
    | split
    | with_reducible refine Frame.of_snd (by with_reducible assumption) ?_
    | with_reducible refine Frame.of_fst (by with_reducible assumption) ?_
    | with_reducible refine Frame.snd_mk ?_
    | with_reducible refine Frame.fst_mk ?_
    | with_reducible refine Frame.fio_upd b15 ?_

def execFieldSupplyLow_mask : Nat := 0x602000000000000198000000000700100000000000000000000000000000000000000000800002208c002
theorem execFieldSupplyLow_frame {s nx : State} {v : BitVec 16} (e : execFieldSupplyLow v s = .next nx) : Frame execFieldSupplyLow_mask s nx := by
  unfold execFieldSupplyLow at e
  refine Frame.trans (State.noteField_frame (Within.trans (a := State.noteField_mask) rfl (Within.refl _)) (Frame.refl _ _)) (State.run_frame rfl (fun W s0 s hW h => ?_) e)
  have w0 := Within.trans (a := State.noteField_mask) rfl hW
  have w1 := Within.trans (a := State.fieldDown_mask) rfl hW
  have w2 := Within.trans (a := State.raise_mask) rfl hW
  have w3 := Within.trans (a := State.enterSafeHeld_mask) rfl hW
  repeat' first
    | intro _
    | with_reducible assumption
    | (extract_lets +onlyGivenNames x; refine Frame.cut (W := W) (s0 := s0) x ?_ ?_; unfold x; clear x; rotate_left; clear_value x; revert x; intro _ _)
    | (extract_lets +onlyGivenNames x; clear_value x; revert x; intro _)
    | with_reducible refine State.noteField_frame w0 ?_
    | with_reducible refine State.fieldDown_frame w1 ?_
    | with_reducible refine State.raise_frame w2 ?_
    | with_reducible refine State.enterSafeHeld_frame w3 ?_
    | with_reducible refine Frame.ite ?_ ?_
    | with_reducible refine Frame.foldl ?_ _ _ ?_
    | split
    | with_reducible refine Frame.of_snd (by with_reducible assumption) ?_
    | with_reducible refine Frame.of_fst (by with_reducible assumption) ?_
    | with_reducible refine Frame.snd_mk ?_
    | with_reducible refine Frame.fst_mk ?_

def execFieldSupplyReturn_mask : Nat := 0x6020000000000000880000000007000000000000000000000000000000000000000000008000022088002
theorem execFieldSupplyReturn_frame {s nx : State} {v : BitVec 16} {levels : Word} (e : execFieldSupplyReturn v levels s = .next nx) : Frame execFieldSupplyReturn_mask s nx := by
  unfold execFieldSupplyReturn at e
  refine Frame.trans (State.noteField_frame (Within.trans (a := State.noteField_mask) rfl (Within.refl _)) (Frame.refl _ _)) (State.run_frame rfl (fun W s0 s hW h => ?_) e)
  have b51 := hW.bit (n := 51) (by decide)
  have b228 := hW.bit (n := 228) (by decide)
  have w0 := Within.trans (a := State.noteField_mask) rfl hW
  have w1 := Within.trans (a := State.settleField_mask) rfl hW
  have w2 := Within.trans (a := State.raise_mask) rfl hW
  have w3 := Within.trans (a := State.causeOff_mask) rfl hW
  have b15 := hW.bit (n := 15) (by decide)
  repeat' first
    | intro _
    | with_reducible assumption
    | (extract_lets +onlyGivenNames x; refine Frame.cut (W := W) (s0 := s0) x ?_ ?_; unfold x; clear x; rotate_left; clear_value x; revert x; intro _ _)
    | (extract_lets +onlyGivenNames x; clear_value x; revert x; intro _)
    | with_reducible refine State.set_frame (F.CAP_BOARD_STATUS_field_low_kind) b51 ?_
    | with_reducible refine State.set_frame (F.FIO_STATUS_field_low_kind) b228 ?_
    | with_reducible refine State.noteField_frame w0 ?_
    | with_reducible refine State.settleField_frame w1 ?_
    | with_reducible refine State.raise_frame w2 ?_
    | with_reducible refine State.causeOff_frame w3 ?_
    | with_reducible refine Frame.ite ?_ ?_
    | with_reducible refine Frame.foldl ?_ _ _ ?_
    | split
    | with_reducible refine Frame.of_snd (by with_reducible assumption) ?_
    | with_reducible refine Frame.of_fst (by with_reducible assumption) ?_
    | with_reducible refine Frame.snd_mk ?_
    | with_reducible refine Frame.fst_mk ?_
    | with_reducible refine Frame.fio_upd b15 ?_

def execGroupSupplyLow_mask : Nat := 0x6020000000000000800000000005000000000000000000000000000000000000000000008000022008002
theorem execGroupSupplyLow_frame {s nx : State} {g : Fin 4} {low : Bool} {v : BitVec 16} (e : execGroupSupplyLow g low v s = .next nx) : Frame execGroupSupplyLow_mask s nx := by
  unfold execGroupSupplyLow at e
  refine Frame.trans (State.noteGroup_frame (Within.trans (a := State.noteGroup_mask) rfl (Within.refl _)) (Frame.refl _ _)) (State.run_frame rfl (fun W s0 s hW h => ?_) e)
  have b51 := hW.bit (n := 51) (by decide)
  have b228 := hW.bit (n := 228) (by decide)
  have w0 := Within.trans (a := State.noteGroup_mask) rfl hW
  have w1 := Within.trans (a := State.dropHost_mask) rfl hW
  have w2 := Within.trans (a := State.raise_mask) rfl hW
  repeat' first
    | intro _
    | with_reducible assumption
    | (extract_lets +onlyGivenNames x; refine Frame.cut (W := W) (s0 := s0) x ?_ ?_; unfold x; clear x; rotate_left; clear_value x; revert x; intro _ _)
    | (extract_lets +onlyGivenNames x; clear_value x; revert x; intro _)
    | with_reducible refine State.setBit_frame (F.CAP_BOARD_STATUS_group_low_kind) b51 ?_
    | with_reducible refine State.setBit_frame (F.FIO_STATUS_group_low_kind) b228 ?_
    | with_reducible refine State.noteGroup_frame w0 ?_
    | with_reducible refine State.dropHost_frame w1 ?_
    | with_reducible refine State.raise_frame w2 ?_
    | with_reducible refine Frame.ite ?_ ?_
    | with_reducible refine Frame.foldl ?_ _ _ ?_
    | split
    | with_reducible refine Frame.of_snd (by with_reducible assumption) ?_
    | with_reducible refine Frame.of_fst (by with_reducible assumption) ?_
    | with_reducible refine Frame.snd_mk ?_
    | with_reducible refine Frame.fst_mk ?_

def execEncSupplyFault_mask : Nat := 0x60200000000000019800000000050013c40000000000000000008800000000000000000000000234cc002
theorem execEncSupplyFault_frame {s nx : State} {n : ChanId} {pin24 : Bool} (e : execEncSupplyFault n pin24 s = .next nx) : Frame execEncSupplyFault_mask s nx := by
  refine State.run_frame rfl (fun W s0 s hW h => ?_) e
  have b1 := hW.bit (n := 1) (by decide)
  have w1 := Within.trans (a := State.raise_mask) rfl hW
  have w2 := Within.trans (a := State.posFault_mask) rfl hW
  have w3 := Within.trans (a := State.setChan_mask) rfl hW
  repeat' first
    | intro _
    | with_reducible assumption
    | (extract_lets +onlyGivenNames x; refine Frame.cut (W := W) (s0 := s0) x ?_ ?_; unfold x; clear x; rotate_left; clear_value x; revert x; intro _ _)
    | (extract_lets +onlyGivenNames x; clear_value x; revert x; intro _)
    | with_reducible refine State.raise_frame w1 ?_
    | with_reducible refine State.posFault_frame w2 ?_
    | with_reducible refine State.setChan_frame w3 ?_
    | with_reducible refine Frame.ite ?_ ?_
    | with_reducible refine Frame.foldl ?_ _ _ ?_
    | split
    | with_reducible refine Frame.of_snd (by with_reducible assumption) ?_
    | with_reducible refine Frame.of_fst (by with_reducible assumption) ?_
    | with_reducible refine Frame.board_upd b1 ?_

def execEncSupplyRestored_mask : Nat := 0x80000000000500000000000000000000000000000000000000000000000000000c002
theorem execEncSupplyRestored_frame {s nx : State} {n : ChanId} {pin24 : Bool} (e : execEncSupplyRestored n pin24 s = .next nx) : Frame execEncSupplyRestored_mask s nx := by
  refine State.run_frame rfl (fun W s0 s hW h => ?_) e
  have b1 := hW.bit (n := 1) (by decide)
  have w1 := Within.trans (a := State.setChan_mask) rfl hW
  repeat' first
    | intro _
    | with_reducible assumption
    | (extract_lets +onlyGivenNames x; refine Frame.cut (W := W) (s0 := s0) x ?_ ?_; unfold x; clear x; rotate_left; clear_value x; revert x; intro _ _)
    | (extract_lets +onlyGivenNames x; clear_value x; revert x; intro _)
    | with_reducible refine State.setChan_frame w1 ?_
    | with_reducible refine Frame.ite ?_ ?_
    | with_reducible refine Frame.foldl ?_ _ _ ?_
    | split
    | with_reducible refine Frame.of_snd (by with_reducible assumption) ?_
    | with_reducible refine Frame.of_fst (by with_reducible assumption) ?_
    | with_reducible refine Frame.board_upd b1 ?_

def execCoolantOutOfRange_mask : Nat := 0x6020000000000000800000000005000000000000000000000000000000000000000000008000022008000
theorem execCoolantOutOfRange_frame {s nx : State} {inlet : BitVec 12} {flow : BitVec 8} (e : execCoolantOutOfRange inlet flow s = .next nx) : Frame execCoolantOutOfRange_mask s nx := by
  refine State.run_frame rfl (fun W s0 s hW h => ?_) e
  have b51 := hW.bit (n := 51) (by decide)
  have w1 := Within.trans (a := State.raise_mask) rfl hW
  repeat' first
    | intro _
    | with_reducible assumption
    | (extract_lets +onlyGivenNames x; refine Frame.cut (W := W) (s0 := s0) x ?_ ?_; unfold x; clear x; rotate_left; clear_value x; revert x; intro _ _)
    | (extract_lets +onlyGivenNames x; clear_value x; revert x; intro _)
    | with_reducible refine State.set_frame (F.CAP_BOARD_STATUS_coolant_range_kind) b51 ?_
    | with_reducible refine State.raise_frame w1 ?_
    | with_reducible refine Frame.ite ?_ ?_
    | with_reducible refine Frame.foldl ?_ _ _ ?_
    | split
    | with_reducible refine Frame.of_snd (by with_reducible assumption) ?_
    | with_reducible refine Frame.of_fst (by with_reducible assumption) ?_

def execDerated_mask : Nat := 0x6020000000000000800000000005000000000000000000000000000000000000004000008000022008002
theorem execDerated_frame {s nx : State} {junction : BitVec 8} (e : execDerated junction s = .next nx) : Frame execDerated_mask s nx := by
  refine State.run_frame rfl (fun W s0 s hW h => ?_) e
  have b51 := hW.bit (n := 51) (by decide)
  have b74 := hW.bit (n := 74) (by decide)
  have w0 := Within.trans (a := State.raise_mask) rfl hW
  have b1 := hW.bit (n := 1) (by decide)
  repeat' first
    | intro _
    | with_reducible assumption
    | (extract_lets +onlyGivenNames x; refine Frame.cut (W := W) (s0 := s0) x ?_ ?_; unfold x; clear x; rotate_left; clear_value x; revert x; intro _ _)
    | (extract_lets +onlyGivenNames x; clear_value x; revert x; intro _)
    | with_reducible refine State.set_frame (F.CAP_BOARD_STATUS_derated_kind) b51 ?_
    | with_reducible refine State.set_frame (F.PACE_STATUS_derated_kind) b74 ?_
    | with_reducible refine State.raise_frame w0 ?_
    | with_reducible refine Frame.ite ?_ ?_
    | with_reducible refine Frame.foldl ?_ _ _ ?_
    | split
    | with_reducible refine Frame.of_snd (by with_reducible assumption) ?_
    | with_reducible refine Frame.of_fst (by with_reducible assumption) ?_
    | with_reducible refine Frame.snd_mk ?_
    | with_reducible refine Frame.fst_mk ?_
    | with_reducible refine Frame.board_upd b1 ?_

def execDerateGrow_mask : Nat := 0x800000000005000000000000000000000000000000000000000000000000000008002
theorem execDerateGrow_frame {s nx : State} (e : execDerateGrow s = .next nx) : Frame execDerateGrow_mask s nx := by
  refine State.run_frame rfl (fun W s0 s hW h => ?_) e
  have b1 := hW.bit (n := 1) (by decide)
  repeat' first
    | intro _
    | with_reducible assumption
    | (extract_lets +onlyGivenNames x; refine Frame.cut (W := W) (s0 := s0) x ?_ ?_; unfold x; clear x; rotate_left; clear_value x; revert x; intro _ _)
    | (extract_lets +onlyGivenNames x; clear_value x; revert x; intro _)
    | with_reducible refine Frame.ite ?_ ?_
    | with_reducible refine Frame.foldl ?_ _ _ ?_
    | split
    | with_reducible refine Frame.of_snd (by with_reducible assumption) ?_
    | with_reducible refine Frame.of_fst (by with_reducible assumption) ?_
    | with_reducible refine Frame.board_upd b1 ?_

def execDerateShorten_mask : Nat := 0x800000000005000000000000000000000000000000000000000000000000000008002
theorem execDerateShorten_frame {s nx : State} (e : execDerateShorten s = .next nx) : Frame execDerateShorten_mask s nx := by
  refine State.run_frame rfl (fun W s0 s hW h => ?_) e
  have b1 := hW.bit (n := 1) (by decide)
  repeat' first
    | intro _
    | with_reducible assumption
    | (extract_lets +onlyGivenNames x; refine Frame.cut (W := W) (s0 := s0) x ?_ ?_; unfold x; clear x; rotate_left; clear_value x; revert x; intro _ _)
    | (extract_lets +onlyGivenNames x; clear_value x; revert x; intro _)
    | with_reducible refine Frame.ite ?_ ?_
    | with_reducible refine Frame.foldl ?_ _ _ ?_
    | split
    | with_reducible refine Frame.of_snd (by with_reducible assumption) ?_
    | with_reducible refine Frame.of_fst (by with_reducible assumption) ?_
    | with_reducible refine Frame.board_upd b1 ?_

def execThermalShutdown_mask : Nat := 0x602000000000000198000000000500100000000000000000000000000000000000000000000002208c002
theorem execThermalShutdown_frame {s nx : State} {cause : Fin 3} {junction : BitVec 8} {flow : BitVec 8} (e : execThermalShutdown cause junction flow s = .next nx) : Frame execThermalShutdown_mask s nx := by
  refine State.run_frame rfl (fun W s0 s hW h => ?_) e
  have w0 := Within.trans (a := State.raise_mask) rfl hW
  have w1 := Within.trans (a := State.enterSafeHeld_mask) rfl hW
  have b1 := hW.bit (n := 1) (by decide)
  have b19 := hW.bit (n := 19) (by decide)
  repeat' first
    | intro _
    | with_reducible assumption
    | (extract_lets +onlyGivenNames x; refine Frame.cut (W := W) (s0 := s0) x ?_ ?_; unfold x; clear x; rotate_left; clear_value x; revert x; intro _ _)
    | (extract_lets +onlyGivenNames x; clear_value x; revert x; intro _)
    | with_reducible refine State.raise_frame w0 ?_
    | with_reducible refine State.enterSafeHeld_frame w1 ?_
    | with_reducible refine Frame.ite ?_ ?_
    | with_reducible refine Frame.foldl ?_ _ _ ?_
    | split
    | with_reducible refine Frame.of_snd (by with_reducible assumption) ?_
    | with_reducible refine Frame.of_fst (by with_reducible assumption) ?_
    | with_reducible refine Frame.snd_mk ?_
    | with_reducible refine Frame.fst_mk ?_
    | with_reducible refine Frame.board_safe_upd b1 b19 ?_

def execThermalConditionCleared_mask : Nat := 0x6020000000000000880000000005000000000000000000000000000000000000000000008000022088002
theorem execThermalConditionCleared_frame {s nx : State} {which : Fin 3} (e : execThermalConditionCleared which s = .next nx) : Frame execThermalConditionCleared_mask s nx := by
  refine State.run_frame rfl (fun W s0 s hW h => ?_) e
  have b1 := hW.bit (n := 1) (by decide)
  have b51 := hW.bit (n := 51) (by decide)
  have w2 := Within.trans (a := State.raise_mask) rfl hW
  have w3 := Within.trans (a := State.causeOff_mask) rfl hW
  repeat' first
    | intro _
    | with_reducible assumption
    | (extract_lets +onlyGivenNames x; refine Frame.cut (W := W) (s0 := s0) x ?_ ?_; unfold x; clear x; rotate_left; clear_value x; revert x; intro _ _)
    | (extract_lets +onlyGivenNames x; clear_value x; revert x; intro _)
    | with_reducible refine State.set_frame (F.CAP_BOARD_STATUS_coolant_range_kind) b51 ?_
    | with_reducible refine State.raise_frame w2 ?_
    | with_reducible refine State.causeOff_frame w3 ?_
    | with_reducible refine Frame.ite ?_ ?_
    | with_reducible refine Frame.foldl ?_ _ _ ?_
    | split
    | with_reducible refine Frame.of_snd (by with_reducible assumption) ?_
    | with_reducible refine Frame.of_fst (by with_reducible assumption) ?_
    | with_reducible refine Frame.board_upd b1 ?_

def execCageChange_mask : Nat := 0x6020000000000040800000000005000000000000000000904800000000000000000000008000023088800
theorem execCageChange_frame {s nx : State} {cage : Fin 12} {inserted : Bool} (e : execCageChange cage inserted s = .next nx) : Frame execCageChange_mask s nx := by
  refine State.run_frame rfl (fun W s0 s hW h => ?_) e
  have b51 := hW.bit (n := 51) (by decide)
  have w1 := Within.trans (a := State.raise_mask) rfl hW
  have w2 := Within.trans (a := State.draw_mask) rfl hW
  have w3 := Within.trans (a := State.laneDown_mask) rfl hW
  repeat' first
    | intro _
    | with_reducible assumption
    | (extract_lets +onlyGivenNames x; refine Frame.cut (W := W) (s0 := s0) x ?_ ?_; unfold x; clear x; rotate_left; clear_value x; revert x; intro _ _)
    | (extract_lets +onlyGivenNames x; clear_value x; revert x; intro _)
    | with_reducible refine State.setBit_frame (F.CAP_BOARD_STATUS_cage_present_kind) b51 ?_
    | with_reducible refine State.setBit_frame (F.CAP_BOARD_STATUS_peer_present_kind) b51 ?_
    | with_reducible refine State.setBit_frame (F.CAP_BOARD_STATUS_time_present_kind) b51 ?_
    | with_reducible refine State.raise_frame w1 ?_
    | with_reducible refine State.each_frame ?_ ?_
    | with_reducible refine State.draw_snd w2 ?_
    | with_reducible refine State.laneDown_frame w3 ?_
    | with_reducible refine Frame.ite ?_ ?_
    | with_reducible refine Frame.foldl ?_ _ _ ?_
    | split
    | with_reducible refine State.draw_frame (by with_reducible assumption) w2 ?_
    | with_reducible refine Frame.of_snd (by with_reducible assumption) ?_
    | with_reducible refine Frame.of_fst (by with_reducible assumption) ?_

def execServiceSession_mask : Nat := 0x6020000000000000800000000005000000000000000000000000000000000000000000000000022008002
theorem execServiceSession_frame {s nx : State} {opened : Bool} (e : execServiceSession opened s = .next nx) : Frame execServiceSession_mask s nx := by
  refine State.run_frame rfl (fun W s0 s hW h => ?_) e
  have b1 := hW.bit (n := 1) (by decide)
  have w1 := Within.trans (a := State.raise_mask) rfl hW
  repeat' first
    | intro _
    | with_reducible assumption
    | (extract_lets +onlyGivenNames x; refine Frame.cut (W := W) (s0 := s0) x ?_ ?_; unfold x; clear x; rotate_left; clear_value x; revert x; intro _ _)
    | (extract_lets +onlyGivenNames x; clear_value x; revert x; intro _)
    | with_reducible refine State.raise_frame w1 ?_
    | with_reducible refine Frame.ite ?_ ?_
    | with_reducible refine Frame.foldl ?_ _ _ ?_
    | split
    | with_reducible refine Frame.of_snd (by with_reducible assumption) ?_
    | with_reducible refine Frame.of_fst (by with_reducible assumption) ?_
    | with_reducible refine Frame.board_upd b1 ?_

def State.storeFirmware_mask : Nat := 0x38
theorem State.storeFirmware_frame {W : Nat} {s0 s : State} {slot : Nat} {f : Firmware} (hW : Within State.storeFirmware_mask W) (h : Frame W s0 s) :
    Frame W s0 (State.storeFirmware s slot f) := by
  have b4 := hW.bit (n := 4) (by decide)
  have w1 := Within.trans (a := State.keepWrite_mask) rfl hW
  unfold State.storeFirmware
  repeat' first
    | intro _
    | with_reducible assumption
    | (extract_lets +onlyGivenNames x; refine Frame.cut (W := W) (s0 := s0) x ?_ ?_; unfold x; clear x; rotate_left; clear_value x; revert x; intro _ _)
    | (extract_lets +onlyGivenNames x; clear_value x; revert x; intro _)
    | with_reducible refine State.keepWrite_frame w1 ?_ ?_
    | exact ⟨Nat.le_refl _, Nat.le_refl _, Nat.le_refl _, Nat.le_refl _⟩
    | exact ⟨Nat.sub_le _ _, Nat.le_refl _, Nat.le_refl _, Nat.le_refl _⟩
    | exact ⟨Nat.le_refl _, Nat.le_refl _, Nat.le_refl _, Nat.sub_le _ _⟩
    | exact ⟨Nat.le_refl _, Nat.le_refl _, Nat.sub_le _ _, Nat.le_refl _⟩
    | with_reducible refine Frame.ite ?_ ?_
    | with_reducible refine Frame.foldl ?_ _ _ ?_
    | split
    | with_reducible refine Frame.of_snd (by with_reducible assumption) ?_
    | with_reducible refine Frame.of_fst (by with_reducible assumption) ?_
    | with_reducible refine Frame.snd_mk ?_
    | with_reducible refine Frame.fst_mk ?_
    | with_reducible refine Frame.flash_upd b4 ?_

def execConsoleFirmwareLoad_mask : Nat := 0x80000000000500000000000000000000000000000000001000000000000000000803a
theorem execConsoleFirmwareLoad_frame {s nx : State} {ok : Bool} {digest : BitVec 512}
    (e : execConsoleFirmwareLoad ok digest s = .next nx) : Frame execConsoleFirmwareLoad_mask s nx := by
  unfold execConsoleFirmwareLoad at e
  split at e
  · exact State.become_frame (State.storeFirmware_frame rfl (Frame.refl _ s)) e
  · refine State.run_frame rfl (fun W s0 s hW h => ?_) e
    have b1 := hW.bit (n := 1) (by decide)
    have b2 := hW.bit (n := 88) (by decide)
    have w := Within.trans (a := State.storeFirmware_mask) rfl hW
    split
    · exact h
    · have h1 : Frame W s0 (s.storeFirmware s.inactiveSlot { ok := ok, digest := digest }) := State.storeFirmware_frame w h
      exact Frame.board_upd b1 (Frame.ite (State.set_frame F.PACE_HUBFW_STATUS_state_kind b2 h1) h1)

def execLocateWrite_mask : Nat := 0x6020000000000000800000000005000000000000000000000000000000000000000000010000022008000
theorem execLocateWrite_frame {s nx : State} {i : Port} {on : Bool} (e : execLocateWrite i on s = .next nx) : Frame execLocateWrite_mask s nx := by
  refine State.run_frame rfl (fun W s0 s hW h => ?_) e
  have b52 := hW.bit (n := 52) (by decide)
  have w1 := Within.trans (a := State.raiseKind_mask) rfl hW
  repeat' first
    | intro _
    | with_reducible assumption
    | (extract_lets +onlyGivenNames x; refine Frame.cut (W := W) (s0 := s0) x ?_ ?_; unfold x; clear x; rotate_left; clear_value x; revert x; intro _ _)
    | (extract_lets +onlyGivenNames x; clear_value x; revert x; intro _)
    | with_reducible refine State.setB_frame (F.CAP_BOARD_LED_locate_kind) b52 ?_
    | with_reducible refine State.raiseKind_frame w1 ?_
    | with_reducible refine Frame.ite ?_ ?_
    | with_reducible refine Frame.foldl ?_ _ _ ?_
    | split
    | with_reducible refine Frame.of_snd (by with_reducible assumption) ?_
    | with_reducible refine Frame.of_fst (by with_reducible assumption) ?_

def execBoardTelemetryRefresh_mask : Nat := 0x800000000005000000000000000000000000000000000000000000007800000008000
theorem execBoardTelemetryRefresh_frame {s nx : State} {t : Telemetry} (e : execBoardTelemetryRefresh t s = .next nx) : Frame execBoardTelemetryRefresh_mask s nx := by
  refine State.run_frame rfl (fun W s0 s hW h => ?_) e
  have b47 := hW.bit (n := 47) (by decide)
  have b48 := hW.bit (n := 48) (by decide)
  have b49 := hW.bit (n := 49) (by decide)
  have b50 := hW.bit (n := 50) (by decide)
  repeat' first
    | intro _
    | with_reducible assumption
    | (extract_lets +onlyGivenNames x; refine Frame.cut (W := W) (s0 := s0) x ?_ ?_; unfold x; clear x; rotate_left; clear_value x; revert x; intro _ _)
    | (extract_lets +onlyGivenNames x; clear_value x; revert x; intro _)
    | with_reducible refine State.set_frame (F.CAP_BOARD_SUPPLY_v24_kind) b47 ?_
    | with_reducible refine State.set_frame (F.CAP_BOARD_SUPPLY_v48_kind) b47 ?_
    | with_reducible refine State.set_frame (F.CAP_BOARD_POWER_p48_kind) b48 ?_
    | with_reducible refine State.set_frame (F.CAP_BOARD_COOLANT_flow_kind) b49 ?_
    | with_reducible refine State.set_frame (F.CAP_BOARD_COOLANT_outlet_kind) b49 ?_
    | with_reducible refine State.set_frame (F.CAP_BOARD_COOLANT_inlet_kind) b49 ?_
    | with_reducible refine State.set_frame (F.CAP_BOARD_TEMP_die1_kind) b50 ?_
    | with_reducible refine State.set_frame (F.CAP_BOARD_TEMP_die0_kind) b50 ?_
    | with_reducible refine State.set_frame (F.CAP_BOARD_TEMP_hbm_kind) b50 ?_
    | with_reducible refine State.set_frame (F.CAP_BOARD_TEMP_hub_kind) b50 ?_
    | with_reducible refine Frame.ite ?_ ?_
    | with_reducible refine Frame.foldl ?_ _ _ ?_
    | split
    | with_reducible refine Frame.of_snd (by with_reducible assumption) ?_
    | with_reducible refine Frame.of_fst (by with_reducible assumption) ?_

end Sys2Proof.Machine
end

