-- ==== Sys2Proof/Laws/CoreMap.lean ====
section
/-! SUPPORT. What the operations of Machine/CoreMap.lean change: each differs from its argument in the areas of its mask alone. -/

set_option linter.all false

namespace Sys2Proof.Machine

def State.setMap_mask : Nat := 0x4000000000000000000000000000000000000000000000000000000000000000000000000000000000000000000000
theorem State.setMap_frame {W : Nat} {s0 s : State} {l v : Nat} (hW : Within State.setMap_mask W) (h : Frame W s0 s) :
    Frame W s0 (s.setMap l v) :=
  State.set_frame (F.CORE_MAP_physical_kind _) (hW.bit (n := 374) (by decide)) h

def State.setCore_mask : Nat := 0x100
theorem State.setCore_frame {W : Nat} {s0 s : State} {c : Nat} {x : CoreExec} (hW : Within State.setCore_mask W) (h : Frame W s0 s) :
    Frame W s0 (State.setCore s c x) := by
  have b8 := hW.bit (n := 8) (by decide)
  unfold State.setCore
  repeat' first
    | intro _
    | with_reducible assumption
    | (extract_lets +onlyGivenNames x; refine Frame.cut (W := W) (s0 := s0) x ?_ ?_; unfold x; clear x; rotate_left; clear_value x; revert x; intro _ _)
    | (extract_lets +onlyGivenNames x; clear_value x; revert x; intro _)
    | with_reducible refine Frame.ite ?_ ?_
    | with_reducible refine Frame.foldl ?_ _ _ ?_
    | split
    | with_reducible refine Frame.of_snd (by with_reducible assumption) ?_
    | with_reducible refine Frame.of_fst (by with_reducible assumption) ?_
    | with_reducible refine Frame.snd_mk ?_
    | with_reducible refine Frame.fst_mk ?_
    | with_reducible refine Frame.exec_upd b8 ?_

def State.fireOwners_mask : Nat := 0x20000000
theorem State.fireOwners_frame {W : Nat} {s0 s : State} {p : Option Nat} {v : Nat} (hW : Within State.fireOwners_mask W) (h : Frame W s0 s) :
    Frame W s0 (State.fireOwners s p v) := by
  have w0 := Within.trans (a := State.fire_mask) rfl hW
  unfold State.fireOwners
  repeat' first
    | intro _
    | with_reducible assumption
    | (extract_lets +onlyGivenNames x; refine Frame.cut (W := W) (s0 := s0) x ?_ ?_; unfold x; clear x; rotate_left; clear_value x; revert x; intro _ _)
    | (extract_lets +onlyGivenNames x; clear_value x; revert x; intro _)
    | with_reducible refine State.each_frame ?_ ?_
    | with_reducible refine State.fire_frame w0 ?_
    | with_reducible refine Frame.ite ?_ ?_
    | with_reducible refine Frame.foldl ?_ _ _ ?_
    | split
    | with_reducible refine Frame.of_snd (by with_reducible assumption) ?_
    | with_reducible refine Frame.of_fst (by with_reducible assumption) ?_
    | with_reducible refine Frame.snd_mk ?_
    | with_reducible refine Frame.fst_mk ?_

def State.noteSheet_mask : Nat := 0x80
theorem State.noteSheet_frame {W : Nat} {s0 s : State} {c : Nat} {q : Option Nat} (hW : Within State.noteSheet_mask W) (h : Frame W s0 s) :
    Frame W s0 (State.noteSheet s c q) := by
  have b7 := hW.bit (n := 7) (by decide)
  unfold State.noteSheet
  repeat' first
    | intro _
    | with_reducible assumption
    | (extract_lets +onlyGivenNames x; refine Frame.cut (W := W) (s0 := s0) x ?_ ?_; unfold x; clear x; rotate_left; clear_value x; revert x; intro _ _)
    | (extract_lets +onlyGivenNames x; clear_value x; revert x; intro _)
    | with_reducible refine Frame.ite ?_ ?_
    | with_reducible refine Frame.foldl ?_ _ _ ?_
    | split
    | with_reducible refine Frame.of_snd (by with_reducible assumption) ?_
    | with_reducible refine Frame.of_fst (by with_reducible assumption) ?_
    | with_reducible refine Frame.snd_mk ?_
    | with_reducible refine Frame.fst_mk ?_
    | with_reducible refine Frame.cores_upd b7 ?_

def State.showCore_mask : Nat := 0x100000000000000000000000000000000000000000000000000000000000000000000000000000000000000000080
theorem State.showCore_frame {W : Nat} {s0 s : State} {c : Nat} (hW : Within State.showCore_mask W) (h : Frame W s0 s) :
    Frame W s0 (State.showCore s c) := by
  have b368 := hW.bit (n := 368) (by decide)
  have w0 := Within.trans (a := State.noteSheet_mask) rfl hW
  unfold State.showCore
  repeat' first
    | intro _
    | with_reducible assumption
    | (extract_lets +onlyGivenNames x; refine Frame.cut (W := W) (s0 := s0) x ?_ ?_; unfold x; clear x; rotate_left; clear_value x; revert x; intro _ _)
    | (extract_lets +onlyGivenNames x; clear_value x; revert x; intro _)
    | with_reducible refine State.set_frame (F.CORE_STATUS_sheet_running_kind _) b368 ?_
    | with_reducible refine State.set_frame (F.CORE_STATUS_backlog_kind _) b368 ?_
    | with_reducible refine State.setB_frame (F.CORE_STATUS_sheet_running_kind _) b368 ?_
    | with_reducible refine State.setB_frame (F.CORE_STATUS_backlog_kind _) b368 ?_
    | with_reducible refine State.noteSheet_frame w0 ?_
    | with_reducible refine Frame.ite ?_ ?_
    | with_reducible refine Frame.foldl ?_ _ _ ?_
    | split
    | with_reducible refine Frame.of_snd (by with_reducible assumption) ?_
    | with_reducible refine Frame.of_fst (by with_reducible assumption) ?_
    | with_reducible refine Frame.snd_mk ?_
    | with_reducible refine Frame.fst_mk ?_

def State.showOwner_mask : Nat := 0x100000000000000000000000000000000000000000000000000000000000000000000000000000000000000000000
theorem State.showOwner_frame {W : Nat} {s0 s : State} {c : Nat} (hW : Within State.showOwner_mask W) (h : Frame W s0 s) :
    Frame W s0 (State.showOwner s c) := by
  have b368 := hW.bit (n := 368) (by decide)
  unfold State.showOwner
  repeat' first
    | intro _
    | with_reducible assumption
    | (extract_lets +onlyGivenNames x; refine Frame.cut (W := W) (s0 := s0) x ?_ ?_; unfold x; clear x; rotate_left; clear_value x; revert x; intro _ _)
    | (extract_lets +onlyGivenNames x; clear_value x; revert x; intro _)
    | with_reducible refine State.set_frame (F.CORE_STATUS_paced_kind _) b368 ?_
    | with_reducible refine State.set_frame (F.CORE_STATUS_in_partition_kind _) b368 ?_
    | with_reducible refine State.set_frame (F.CORE_STATUS_partition_kind _) b368 ?_
    | with_reducible refine State.setB_frame (F.CORE_STATUS_paced_kind _) b368 ?_
    | with_reducible refine Frame.ite ?_ ?_
    | with_reducible refine Frame.foldl ?_ _ _ ?_
    | split
    | with_reducible refine Frame.of_snd (by with_reducible assumption) ?_
    | with_reducible refine Frame.of_fst (by with_reducible assumption) ?_
    | with_reducible refine Frame.snd_mk ?_
    | with_reducible refine Frame.fst_mk ?_

def State.spareGone_mask : Nat := 0x2000000000000000000000000000000000000000000000000000000000000000000000000000000000000000000000
theorem State.spareGone_frame {W : Nat} {s0 s : State} {k : Nat} (hW : Within State.spareGone_mask W) (h : Frame W s0 s) :
    Frame W s0 (State.spareGone s k) := by
  have b373 := hW.bit (n := 373) (by decide)
  unfold State.spareGone
  repeat' first
    | intro _
    | with_reducible assumption
    | (extract_lets +onlyGivenNames x; refine Frame.cut (W := W) (s0 := s0) x ?_ ?_; unfold x; clear x; rotate_left; clear_value x; revert x; intro _ _)
    | (extract_lets +onlyGivenNames x; clear_value x; revert x; intro _)
    | with_reducible refine State.set_frame (F.CORE_CLUSTER_spare_index_kind _) b373 ?_
    | with_reducible refine State.set_frame (F.CORE_CLUSTER_spare_left_kind _) b373 ?_
    | with_reducible refine Frame.ite ?_ ?_
    | with_reducible refine Frame.foldl ?_ _ _ ?_
    | split
    | with_reducible refine Frame.of_snd (by with_reducible assumption) ?_
    | with_reducible refine Frame.of_fst (by with_reducible assumption) ?_
    | with_reducible refine Frame.snd_mk ?_
    | with_reducible refine Frame.fst_mk ?_

def State.fenceWrite_mask : Nat := 0x80
theorem State.fenceWrite_frame {W : Nat} {s0 s : State} {l : List Nat} (hW : Within State.fenceWrite_mask W) (h : Frame W s0 s) :
    Frame W s0 (State.fenceWrite s l) := by
  have b7 := hW.bit (n := 7) (by decide)
  unfold State.fenceWrite
  repeat' first
    | intro _
    | with_reducible assumption
    | (extract_lets +onlyGivenNames x; refine Frame.cut (W := W) (s0 := s0) x ?_ ?_; unfold x; clear x; rotate_left; clear_value x; revert x; intro _ _)
    | (extract_lets +onlyGivenNames x; clear_value x; revert x; intro _)
    | with_reducible refine Frame.ite ?_ ?_
    | with_reducible refine Frame.foldl ?_ _ _ ?_
    | split
    | with_reducible refine Frame.of_snd (by with_reducible assumption) ?_
    | with_reducible refine Frame.of_fst (by with_reducible assumption) ?_
    | with_reducible refine Frame.snd_mk ?_
    | with_reducible refine Frame.fst_mk ?_
    | with_reducible refine Frame.cores_upd b7 ?_

def State.withdrawVerges_mask : Nat := 0x400200
theorem State.withdrawVerges_frame {W : Nat} {s0 s : State} {l : Nat} (hW : Within State.withdrawVerges_mask W) (h : Frame W s0 s) :
    Frame W s0 (State.withdrawVerges s l) := by
  have b9 := hW.bit (n := 9) (by decide)
  have b22 := hW.bit (n := 22) (by decide)
  unfold State.withdrawVerges
  repeat' first
    | intro _
    | with_reducible assumption
    | (extract_lets +onlyGivenNames x; refine Frame.cut (W := W) (s0 := s0) x ?_ ?_; unfold x; clear x; rotate_left; clear_value x; revert x; intro _ _)
    | (extract_lets +onlyGivenNames x; clear_value x; revert x; intro _)
    | with_reducible refine State.putBytes_frame b22 ?_
    | with_reducible refine State.each_frame ?_ ?_
    | with_reducible refine Frame.ite ?_ ?_
    | with_reducible refine Frame.foldl ?_ _ _ ?_
    | split
    | with_reducible refine Frame.of_snd (by with_reducible assumption) ?_
    | with_reducible refine Frame.of_fst (by with_reducible assumption) ?_
    | with_reducible refine Frame.snd_mk ?_
    | with_reducible refine Frame.fst_mk ?_
    | with_reducible refine Frame.route_upd b9 ?_

def State.failCore_mask : Nat := 0x2580000006020000000000000000000000000000000000000000000000000000000000000000000000000022400380
theorem State.failCore_frame {W : Nat} {s0 s : State} {c : Nat} {cause : Nat} {test : Nat} (hW : Within State.failCore_mask W) (h : Frame W s0 s) :
    Frame W s0 (State.failCore s c cause test) := by
  have b367 := hW.bit (n := 367) (by decide)
  have b370 := hW.bit (n := 370) (by decide)
  have b373 := hW.bit (n := 373) (by decide)
  have w0 := Within.trans (a := State.fenceWrite_mask) rfl hW
  have w1 := Within.trans (a := State.withdrawVerges_mask) rfl hW
  have w2 := Within.trans (a := State.setCore_mask) rfl hW
  have w3 := Within.trans (a := State.showCore_mask) rfl hW
  have w4 := Within.trans (a := State.spareGone_mask) rfl hW
  have w5 := Within.trans (a := State.raise_mask) rfl hW
  have w6 := Within.trans (a := State.fireOwners_mask) rfl hW
  have b7 := hW.bit (n := 7) (by decide)
  unfold State.failCore
  repeat' first
    | intro _
    | with_reducible assumption
    | (extract_lets +onlyGivenNames x; refine Frame.cut (W := W) (s0 := s0) x ?_ ?_; unfold x; clear x; rotate_left; clear_value x; revert x; intro _ _)
    | (extract_lets +onlyGivenNames x; clear_value x; revert x; intro _)
    | with_reducible refine State.set_frame (F.CORE_ID_role_kind _) b367 ?_
    | with_reducible refine State.set_frame (F.CORE_FAIL_cause_kind _) b370 ?_
    | with_reducible refine State.set_frame (F.CORE_FAIL_period_kind _) b370 ?_
    | with_reducible refine State.setBit_frame (F.CORE_CLUSTER_failed_kind _) b373 ?_
    | with_reducible refine State.fenceWrite_frame w0 ?_
    | with_reducible refine State.withdrawVerges_frame w1 ?_
    | with_reducible refine State.setCore_frame w2 ?_
    | with_reducible refine State.showCore_frame w3 ?_
    | with_reducible refine State.spareGone_frame w4 ?_
    | with_reducible refine State.raise_frame w5 ?_
    | with_reducible refine State.fireOwners_frame w6 ?_
    | with_reducible refine Frame.ite ?_ ?_
    | with_reducible refine Frame.foldl ?_ _ _ ?_
    | split
    | with_reducible refine Frame.of_snd (by with_reducible assumption) ?_
    | with_reducible refine Frame.of_fst (by with_reducible assumption) ?_
    | with_reducible refine Frame.snd_mk ?_
    | with_reducible refine Frame.fst_mk ?_
    | with_reducible refine Frame.cores_upd b7 ?_

def State.chooseSpares_mask : Nat := 0x80000000000000000000000000000000000000000000000000000000000000000000000000000000000000000080
theorem State.chooseSpares_frame {W : Nat} {s0 s : State} {n : Nat} (hW : Within State.chooseSpares_mask W) (h : Frame W s0 s) :
    Frame W s0 (State.chooseSpares s n) := by
  have b7 := hW.bit (n := 7) (by decide)
  have b367 := hW.bit (n := 367) (by decide)
  unfold State.chooseSpares
  repeat' first
    | intro _
    | with_reducible assumption
    | (extract_lets +onlyGivenNames x; refine Frame.cut (W := W) (s0 := s0) x ?_ ?_; unfold x; clear x; rotate_left; clear_value x; revert x; intro _ _)
    | (extract_lets +onlyGivenNames x; clear_value x; revert x; intro _)
    | with_reducible refine State.set_frame (F.CORE_ID_role_kind _) b367 ?_
    | with_reducible refine State.each_frame ?_ ?_
    | with_reducible refine Frame.ite ?_ ?_
    | with_reducible refine Frame.foldl ?_ _ _ ?_
    | split
    | with_reducible refine Frame.of_snd (by with_reducible assumption) ?_
    | with_reducible refine Frame.of_fst (by with_reducible assumption) ?_
    | with_reducible refine Frame.snd_mk ?_
    | with_reducible refine Frame.fst_mk ?_
    | with_reducible refine Frame.cores_upd b7 ?_

def State.replayVerges_mask : Nat := 0x200
theorem State.replayVerges_frame {W : Nat} {s0 s : State} {sel : LegRun → Bool} {on : Nat → Bool} (hW : Within State.replayVerges_mask W) (h : Frame W s0 s) :
    Frame W s0 (State.replayVerges s sel on) := by
  have b9 := hW.bit (n := 9) (by decide)
  unfold State.replayVerges
  repeat' first
    | intro _
    | with_reducible assumption
    | (extract_lets +onlyGivenNames x; refine Frame.cut (W := W) (s0 := s0) x ?_ ?_; unfold x; clear x; rotate_left; clear_value x; revert x; intro _ _)
    | (extract_lets +onlyGivenNames x; clear_value x; revert x; intro _)
    | with_reducible refine Frame.ite ?_ ?_
    | with_reducible refine Frame.foldl ?_ _ _ ?_
    | split
    | with_reducible refine Frame.of_snd (by with_reducible assumption) ?_
    | with_reducible refine Frame.of_fst (by with_reducible assumption) ?_
    | with_reducible refine Frame.snd_mk ?_
    | with_reducible refine Frame.fst_mk ?_
    | with_reducible refine Frame.route_upd b9 ?_

def State.moveVerges_mask : Nat := 0x200
theorem State.moveVerges_frame {W : Nat} {s0 s : State} {a : Nat} {b : Nat} (hW : Within State.moveVerges_mask W) (h : Frame W s0 s) :
    Frame W s0 (State.moveVerges s a b) := by
  have b9 := hW.bit (n := 9) (by decide)
  unfold State.moveVerges
  repeat' first
    | intro _
    | with_reducible assumption
    | (extract_lets +onlyGivenNames x; refine Frame.cut (W := W) (s0 := s0) x ?_ ?_; unfold x; clear x; rotate_left; clear_value x; revert x; intro _ _)
    | (extract_lets +onlyGivenNames x; clear_value x; revert x; intro _)
    | with_reducible refine Frame.ite ?_ ?_
    | with_reducible refine Frame.foldl ?_ _ _ ?_
    | split
    | with_reducible refine Frame.of_snd (by with_reducible assumption) ?_
    | with_reducible refine Frame.of_fst (by with_reducible assumption) ?_
    | with_reducible refine Frame.snd_mk ?_
    | with_reducible refine Frame.fst_mk ?_
    | with_reducible refine Frame.route_upd b9 ?_

def State.landDetours_mask : Nat := 0x6180000006020000000000000000000000000000000000000000000000000000000000000000000000000022500380
theorem State.landDetours_frame {W : Nat} {s0 s : State} {n : Nat} (hW : Within State.landDetours_mask W) (h : Frame W s0 s) :
    Frame W s0 (State.landDetours s n) := by
  have b367 := hW.bit (n := 367) (by decide)
  have b373 := hW.bit (n := 373) (by decide)
  have w0 := Within.trans (a := State.showOwner_mask) rfl hW
  have w1 := Within.trans (a := State.setMap_mask) rfl hW
  have w2 := Within.trans (a := State.raise_mask) rfl hW
  have w3 := Within.trans (a := State.fireOwners_mask) rfl hW
  have w4 := Within.trans (a := State.spareGone_mask) rfl hW
  have w5 := Within.trans (a := State.setCore_mask) rfl hW
  have w6 := Within.trans (a := State.showCore_mask) rfl hW
  have w7 := Within.trans (a := State.moveVerges_mask) rfl hW
  have w8 := Within.trans (a := State.replayVerges_mask) rfl hW
  have b7 := hW.bit (n := 7) (by decide)
  have b22 := hW.bit (n := 22) (by decide)
  have b20 := hW.bit (n := 20) (by decide)
  unfold State.landDetours
  repeat' first
    | intro _
    | with_reducible assumption
    | (extract_lets +onlyGivenNames x; refine Frame.cut (W := W) (s0 := s0) x ?_ ?_; unfold x; clear x; rotate_left; clear_value x; revert x; intro _ _)
    | (extract_lets +onlyGivenNames x; refine Frame.cutF (W := W) (s0 := s0) x ?_ ?_; unfold x; clear x; rotate_left; clear_value x; revert x; intro _ _)
    | (extract_lets +onlyGivenNames x; refine Frame.cutG (W := W) (s0 := s0) x ?_ ?_; unfold x; clear x; rotate_left; clear_value x; revert x; intro _ _)
    | (extract_lets +onlyGivenNames x; refine Frame.cutN (W := W) (s0 := s0) x ?_ ?_; unfold x; clear x; rotate_left; clear_value x; revert x; intro _ _)
    | (extract_lets +onlyGivenNames x; refine Frame.cutH (W := W) (s0 := s0) x ?_ ?_; unfold x; clear x; rotate_left; clear_value x; revert x; intro _ _)
    | (extract_lets +onlyGivenNames x; refine Frame.cutI (W := W) (s0 := s0) x ?_ ?_; unfold x; clear x; rotate_left; clear_value x; revert x; intro _ _)
    | (extract_lets +onlyGivenNames x; clear_value x; revert x; intro _)
    | with_reducible refine State.set_frame (F.CORE_ID_logical_kind _) b367 ?_
    | with_reducible refine State.setBit_frame (F.CORE_CLUSTER_lost_kind _) b373 ?_
    | with_reducible refine State.set_frame (F.CORE_ID_role_kind _) b367 ?_
    | with_reducible refine State.inc_frame (F.CORE_CLUSTER_detours_kind _) b373 ?_
    | with_reducible refine State.showOwner_frame w0 ?_
    | with_reducible refine State.setMap_frame w1 ?_
    | with_reducible refine State.raise_frame w2 ?_
    | with_reducible refine State.fireOwners_frame w3 ?_
    | with_reducible refine State.spareGone_frame w4 ?_
    | with_reducible refine State.setCore_frame w5 ?_
    | with_reducible refine State.showCore_frame w6 ?_
    | with_reducible refine State.moveVerges_frame w7 ?_
    | with_reducible refine State.replayVerges_frame w8 ?_
    | with_reducible refine State.each_frame ?_ ?_
    | with_reducible refine Frame.ite ?_ ?_
    | with_reducible refine Frame.foldl ?_ _ _ ?_
    | split
    | with_reducible refine Frame.of_snd (by with_reducible assumption) ?_
    | with_reducible refine Frame.of_fst (by with_reducible assumption) ?_
    | with_reducible refine Frame.snd_mk ?_
    | with_reducible refine Frame.fst_mk ?_
    | with_reducible refine Frame.cores_upd b7 ?_
    | with_reducible refine Frame.mem_integ_upd b22 (fun w => tabWf_filter _ _ w) b20 ?_
    | solve_by_elim

def State.coreCorrected_mask : Nat := 0x2d80000006020000000000000000000000000000000000000000000000000000000000000000000000000022400380
theorem State.coreCorrected_frame {W : Nat} {s0 s : State} {c : Nat} (hW : Within State.coreCorrected_mask W) (h : Frame W s0 s) :
    Frame W s0 (State.coreCorrected s c) := by
  have b7 := hW.bit (n := 7) (by decide)
  have b371 := hW.bit (n := 371) (by decide)
  have w2 := Within.trans (a := State.failCore_mask) rfl hW
  unfold State.coreCorrected
  repeat' first
    | intro _
    | with_reducible assumption
    | (extract_lets +onlyGivenNames x; refine Frame.cut (W := W) (s0 := s0) x ?_ ?_; unfold x; clear x; rotate_left; clear_value x; revert x; intro _ _)
    | (extract_lets +onlyGivenNames x; clear_value x; revert x; intro _)
    | with_reducible refine State.inc_frame (F.CORE_SRAM_ERR_corrected_kind _) b371 ?_
    | with_reducible refine State.failCore_frame w2 ?_
    | with_reducible refine Frame.ite ?_ ?_
    | with_reducible refine Frame.foldl ?_ _ _ ?_
    | split
    | with_reducible refine Frame.of_snd (by with_reducible assumption) ?_
    | with_reducible refine Frame.of_fst (by with_reducible assumption) ?_
    | with_reducible refine Frame.snd_mk ?_
    | with_reducible refine Frame.fst_mk ?_
    | with_reducible refine Frame.cores_upd b7 ?_

def State.coreUncorrected_mask : Nat := 0x2d80000006020000000000000000000000000000000000000000000000000000000000000000000000000022400380
theorem State.coreUncorrected_frame {W : Nat} {s0 s : State} {c : Nat} (hW : Within State.coreUncorrected_mask W) (h : Frame W s0 s) :
    Frame W s0 (State.coreUncorrected s c) := by
  have b7 := hW.bit (n := 7) (by decide)
  have b371 := hW.bit (n := 371) (by decide)
  have w2 := Within.trans (a := State.failCore_mask) rfl hW
  unfold State.coreUncorrected
  repeat' first
    | intro _
    | with_reducible assumption
    | (extract_lets +onlyGivenNames x; refine Frame.cut (W := W) (s0 := s0) x ?_ ?_; unfold x; clear x; rotate_left; clear_value x; revert x; intro _ _)
    | (extract_lets +onlyGivenNames x; clear_value x; revert x; intro _)
    | with_reducible refine State.inc_frame (F.CORE_SRAM_ERR_uncorrectable_kind _) b371 ?_
    | with_reducible refine State.failCore_frame w2 ?_
    | with_reducible refine Frame.ite ?_ ?_
    | with_reducible refine Frame.foldl ?_ _ _ ?_
    | split
    | with_reducible refine Frame.of_snd (by with_reducible assumption) ?_
    | with_reducible refine Frame.of_fst (by with_reducible assumption) ?_
    | with_reducible refine Frame.snd_mk ?_
    | with_reducible refine Frame.fst_mk ?_
    | with_reducible refine Frame.cores_upd b7 ?_

def State.coreRecompute_mask : Nat := 0x2580000006020000000000000000000000000000000000000000000000000000000000000000000000000022400380
theorem State.coreRecompute_frame {W : Nat} {s0 s : State} {c : Nat} (hW : Within State.coreRecompute_mask W) (h : Frame W s0 s) :
    Frame W s0 (State.coreRecompute s c) := by
  have b7 := hW.bit (n := 7) (by decide)
  have w1 := Within.trans (a := State.failCore_mask) rfl hW
  unfold State.coreRecompute
  repeat' first
    | intro _
    | with_reducible assumption
    | (extract_lets +onlyGivenNames x; refine Frame.cut (W := W) (s0 := s0) x ?_ ?_; unfold x; clear x; rotate_left; clear_value x; revert x; intro _ _)
    | (extract_lets +onlyGivenNames x; clear_value x; revert x; intro _)
    | with_reducible refine State.failCore_frame w1 ?_
    | with_reducible refine Frame.ite ?_ ?_
    | with_reducible refine Frame.foldl ?_ _ _ ?_
    | split
    | with_reducible refine Frame.of_snd (by with_reducible assumption) ?_
    | with_reducible refine Frame.of_fst (by with_reducible assumption) ?_
    | with_reducible refine Frame.snd_mk ?_
    | with_reducible refine Frame.fst_mk ?_
    | with_reducible refine Frame.cores_upd b7 ?_

def State.showWalkers_mask : Nat := 0x2000000000000000000000000000000000000000000000000000
theorem State.showWalkers_frame {W : Nat} {s0 s : State} (hW : Within State.showWalkers_mask W) (h : Frame W s0 s) :
    Frame W s0 (State.showWalkers s) := by
  have b205 := hW.bit (n := 205) (by decide)
  unfold State.showWalkers
  repeat' first
    | intro _
    | with_reducible assumption
    | (extract_lets +onlyGivenNames x; refine Frame.cut (W := W) (s0 := s0) x ?_ ?_; unfold x; clear x; rotate_left; clear_value x; revert x; intro _ _)
    | (extract_lets +onlyGivenNames x; clear_value x; revert x; intro _)
    | with_reducible refine State.set_frame (F.KV_WALKER_serving_kind _) b205 ?_
    | with_reducible refine State.each_frame ?_ ?_
    | with_reducible refine Frame.ite ?_ ?_
    | with_reducible refine Frame.foldl ?_ _ _ ?_
    | split
    | with_reducible refine Frame.of_snd (by with_reducible assumption) ?_
    | with_reducible refine Frame.of_fst (by with_reducible assumption) ?_
    | with_reducible refine Frame.snd_mk ?_
    | with_reducible refine Frame.fst_mk ?_

def State.showEngines_mask : Nat := 0x10000000000
theorem State.showEngines_frame {W : Nat} {s0 s : State} (hW : Within State.showEngines_mask W) (h : Frame W s0 s) :
    Frame W s0 (State.showEngines s) := by
  have b40 := hW.bit (n := 40) (by decide)
  unfold State.showEngines
  repeat' first
    | intro _
    | with_reducible assumption
    | (extract_lets +onlyGivenNames x; refine Frame.cut (W := W) (s0 := s0) x ?_ ?_; unfold x; clear x; rotate_left; clear_value x; revert x; intro _ _)
    | (extract_lets +onlyGivenNames x; clear_value x; revert x; intro _)
    | with_reducible refine State.set_frame (F.CAP_ENGINES_spare_left_kind) b40 ?_
    | with_reducible refine State.set_frame (F.CAP_ENGINES_walker_ok_kind) b40 ?_
    | with_reducible refine State.set_frame (F.CAP_ENGINES_edge_ok_kind) b40 ?_
    | with_reducible refine State.set_frame (F.CAP_ENGINES_post_ok_kind) b40 ?_
    | with_reducible refine Frame.ite ?_ ?_
    | with_reducible refine Frame.foldl ?_ _ _ ?_
    | split
    | with_reducible refine Frame.of_snd (by with_reducible assumption) ?_
    | with_reducible refine Frame.of_fst (by with_reducible assumption) ?_
    | with_reducible refine Frame.snd_mk ?_
    | with_reducible refine Frame.fst_mk ?_

def execCoreHang_mask : Nat := 0x2580000006020000000000000800000000005000000000000000000000000000000000000000000000000022408380
theorem execCoreHang_frame {s nx : State} {c : CoreId} (e : execCoreHang c s = .next nx) : Frame execCoreHang_mask s nx := by
  refine State.run_frame rfl (fun W s0 s hW h => ?_) e
  have w0 := Within.trans (a := State.failCore_mask) rfl hW
  repeat' first
    | intro _
    | with_reducible assumption
    | (extract_lets +onlyGivenNames x; refine Frame.cut (W := W) (s0 := s0) x ?_ ?_; unfold x; clear x; rotate_left; clear_value x; revert x; intro _ _)
    | (extract_lets +onlyGivenNames x; clear_value x; revert x; intro _)
    | with_reducible refine State.failCore_frame w0 ?_
    | with_reducible refine Frame.ite ?_ ?_
    | with_reducible refine Frame.foldl ?_ _ _ ?_
    | split
    | with_reducible refine Frame.of_snd (by with_reducible assumption) ?_
    | with_reducible refine Frame.of_fst (by with_reducible assumption) ?_

def execDetourRequest_mask : Nat := 0x2580000006020000000000000800000000005000000000000000000000000000000000000000000000000022408380
theorem execDetourRequest_frame {s nx : State} {i : Port} {c : CoreId} (e : execDetourRequest i c s = .next nx) : Frame execDetourRequest_mask s nx := by
  refine State.run_frame rfl (fun W s0 s hW h => ?_) e
  have w0 := Within.trans (a := State.raiseAt_mask) rfl hW
  have w1 := Within.trans (a := State.raise_mask) rfl hW
  have w2 := Within.trans (a := State.failCore_mask) rfl hW
  repeat' first
    | intro _
    | with_reducible assumption
    | (extract_lets +onlyGivenNames x; refine Frame.cut (W := W) (s0 := s0) x ?_ ?_; unfold x; clear x; rotate_left; clear_value x; revert x; intro _ _)
    | (extract_lets +onlyGivenNames x; clear_value x; revert x; intro _)
    | with_reducible refine State.raiseAt_frame w0 ?_
    | with_reducible refine State.raise_frame w1 ?_
    | with_reducible refine State.failCore_frame w2 ?_
    | with_reducible refine Frame.ite ?_ ?_
    | with_reducible refine Frame.foldl ?_ _ _ ?_
    | split
    | with_reducible refine Frame.of_snd (by with_reducible assumption) ?_
    | with_reducible refine Frame.of_fst (by with_reducible assumption) ?_
    | with_reducible refine Frame.snd_mk ?_
    | with_reducible refine Frame.fst_mk ?_

def execFenceClear_mask : Nat := 0x6020000000000000800000000005000000000000000000000000000000000000000000000000022008080
theorem execFenceClear_frame {s nx : State} {i : Port} {c : CoreId} (e : execFenceClear i c s = .next nx) : Frame execFenceClear_mask s nx := by
  refine State.run_frame rfl (fun W s0 s hW h => ?_) e
  have w0 := Within.trans (a := State.raiseAt_mask) rfl hW
  have w1 := Within.trans (a := State.raise_mask) rfl hW
  have b7 := hW.bit (n := 7) (by decide)
  repeat' first
    | intro _
    | with_reducible assumption
    | (extract_lets +onlyGivenNames x; refine Frame.cut (W := W) (s0 := s0) x ?_ ?_; unfold x; clear x; rotate_left; clear_value x; revert x; intro _ _)
    | (extract_lets +onlyGivenNames x; clear_value x; revert x; intro _)
    | with_reducible refine State.raiseAt_frame w0 ?_
    | with_reducible refine State.raise_frame w1 ?_
    | with_reducible refine Frame.ite ?_ ?_
    | with_reducible refine Frame.foldl ?_ _ _ ?_
    | split
    | with_reducible refine Frame.of_snd (by with_reducible assumption) ?_
    | with_reducible refine Frame.of_fst (by with_reducible assumption) ?_
    | with_reducible refine Frame.snd_mk ?_
    | with_reducible refine Frame.fst_mk ?_
    | with_reducible refine Frame.cores_upd b7 ?_

end Sys2Proof.Machine
end

