-- ==== Sys2Proof/Laws/Kv.lean ====
section
/-! SUPPORT. What the operations of Machine/Kv.lean change: each differs from its argument in the areas of its mask alone. -/

set_option linter.all false

namespace Sys2Proof.Machine

def State.setPool_mask : Nat := 0x400
theorem State.setPool_frame {W : Nat} {s0 s : State} {p : Nat} {x : Pool} (hW : Within State.setPool_mask W) (h : Frame W s0 s) :
    Frame W s0 (State.setPool s p x) := by
  have b10 := hW.bit (n := 10) (by decide)
  unfold State.setPool
  repeat' first
    | intro _
    | with_reducible assumption
    | (extract_lets +onlyGivenNames x; refine Frame.cut (W := W) (s0 := s0) x ?_ ?_; unfold x; clear x; rotate_left; clear_value x; revert x; intro _ _)
    | (extract_lets +onlyGivenNames x; clear_value x; revert x; intro _)
    | with_reducible refine Frame.ite ?_ ?_
    | with_reducible refine Frame.foldl ?_ _ _ ?_
    | split
    | with_reducible refine Frame.of_snd (by with_reducible assumption) ?_
    | with_reducible refine Frame.of_fst (by with_reducible assumption) ?_
    | with_reducible refine Frame.snd_mk ?_
    | with_reducible refine Frame.fst_mk ?_
    | with_reducible refine Frame.kv_upd b10 ?_

def State.showPool_mask : Nat := 0x1de2000000000000000000000000000000000000000000000000
theorem State.showPool_frame {W : Nat} {s0 s : State} {p : Nat} (hW : Within State.showPool_mask W) (h : Frame W s0 s) :
    Frame W s0 (State.showPool s p) := by
  have b197 := hW.bit (n := 197) (by decide)
  have b198 := hW.bit (n := 198) (by decide)
  have b199 := hW.bit (n := 199) (by decide)
  have b200 := hW.bit (n := 200) (by decide)
  have b203 := hW.bit (n := 203) (by decide)
  have b204 := hW.bit (n := 204) (by decide)
  have b202 := hW.bit (n := 202) (by decide)
  have b193 := hW.bit (n := 193) (by decide)
  unfold State.showPool
  repeat' first
    | intro _
    | with_reducible assumption
    | (extract_lets +onlyGivenNames x; refine Frame.cut (W := W) (s0 := s0) x ?_ ?_; unfold x; clear x; rotate_left; clear_value x; revert x; intro _ _)
    | (extract_lets +onlyGivenNames x; clear_value x; revert x; intro _)
    | with_reducible refine State.set_frame (F.KV_POOL_pages_kind _) b197 ?_
    | with_reducible refine State.set_frame (F.KV_FREE_pages_kind _) b198 ?_
    | with_reducible refine State.set_frame (F.KV_CHARGE_pages_kind _) b199 ?_
    | with_reducible refine State.set_frame (F.KV_LIMBO_pages_kind _) b200 ?_
    | with_reducible refine State.set_frame (F.KV_SEQ_live_kind _) b203 ?_
    | with_reducible refine State.set_frame (F.KV_SEQ_prefixes_kind _) b203 ?_
    | with_reducible refine State.set_frame (F.KV_WAIT_joins_kind _) b204 ?_
    | with_reducible refine State.set_frame (F.KV_GEN_HELD_oldest_kind _) b202 ?_
    | with_reducible refine State.set_frame (F.KV_STATUS_pool_total_kind) b193 ?_
    | with_reducible refine State.set_frame (F.KV_STATUS_sequences_kind) b193 ?_
    | with_reducible refine Frame.ite ?_ ?_
    | with_reducible refine Frame.foldl ?_ _ _ ?_
    | split
    | with_reducible refine Frame.of_snd (by with_reducible assumption) ?_
    | with_reducible refine Frame.of_fst (by with_reducible assumption) ?_
    | with_reducible refine Frame.snd_mk ?_
    | with_reducible refine Frame.fst_mk ?_
    | with_reducible refine Frame.foldl_snd ?_ _ _ ?_
    | with_reducible refine Frame.foldl_fst ?_ _ _ ?_
    | with_reducible refine Frame.foldr_snd ?_ _ _ ?_
    | with_reducible refine Frame.Snd.mk ?_
    | with_reducible refine Frame.Fst.mk ?_
    | dsimp only

def State.startPool_mask : Nat := 0x1fe2000000000000000000000000000000000000000000000400
theorem State.startPool_frame {W : Nat} {s0 s : State} {p : Nat} (hW : Within State.startPool_mask W) (h : Frame W s0 s) :
    Frame W s0 (State.startPool s p) := by
  have b201 := hW.bit (n := 201) (by decide)
  have w0 := Within.trans (a := State.setPool_mask) rfl hW
  have w1 := Within.trans (a := State.showPool_mask) rfl hW
  unfold State.startPool
  repeat' first
    | intro _
    | with_reducible assumption
    | (extract_lets +onlyGivenNames x; refine Frame.cut (W := W) (s0 := s0) x ?_ ?_; unfold x; clear x; rotate_left; clear_value x; revert x; intro _ _)
    | (extract_lets +onlyGivenNames x; clear_value x; revert x; intro _)
    | with_reducible refine State.set_frame (F.KV_GEN_current_kind _) b201 ?_
    | with_reducible refine State.setPool_frame w0 ?_
    | with_reducible refine State.showPool_frame w1 ?_
    | with_reducible refine Frame.ite ?_ ?_
    | with_reducible refine Frame.foldl ?_ _ _ ?_
    | split
    | with_reducible refine Frame.of_snd (by with_reducible assumption) ?_
    | with_reducible refine Frame.of_fst (by with_reducible assumption) ?_
    | with_reducible refine Frame.snd_mk ?_
    | with_reducible refine Frame.fst_mk ?_

def State.writeTables_mask : Nat := 0x400000
theorem State.writeTables_frame {W : Nat} {s0 s : State} {p : Nat} {old : Pool} (hW : Within State.writeTables_mask W) (h : Frame W s0 s) :
    Frame W s0 (State.writeTables s p old) := by
  have b22 := hW.bit (n := 22) (by decide)
  unfold State.writeTables
  repeat' first
    | intro _
    | with_reducible assumption
    | (extract_lets +onlyGivenNames x; refine Frame.cut (W := W) (s0 := s0) x ?_ ?_; unfold x; clear x; rotate_left; clear_value x; revert x; intro _ _)
    | (extract_lets +onlyGivenNames x; clear_value x; revert x; intro _)
    | with_reducible refine State.putBytes_frame b22 ?_
    | with_reducible refine State.each_frame ?_ ?_
    | with_reducible refine Frame.ite ?_ ?_
    | with_reducible refine Frame.foldl ?_ _ _ ?_
    | split
    | with_reducible refine Frame.of_snd (by with_reducible assumption) ?_
    | with_reducible refine Frame.of_fst (by with_reducible assumption) ?_
    | with_reducible refine Frame.snd_mk ?_
    | with_reducible refine Frame.fst_mk ?_

def State.copyPage_mask : Nat := 0x400000
theorem State.copyPage_frame {W : Nat} {s0 s : State} {a : Nat} {b : Nat} (hW : Within State.copyPage_mask W) (h : Frame W s0 s) :
    Frame W s0 (State.copyPage s a b) := by
  have b22 := hW.bit (n := 22) (by decide)
  unfold State.copyPage
  repeat' first
    | intro _
    | with_reducible assumption
    | (extract_lets +onlyGivenNames x; refine Frame.cut (W := W) (s0 := s0) x ?_ ?_; unfold x; clear x; rotate_left; clear_value x; revert x; intro _ _)
    | (extract_lets +onlyGivenNames x; clear_value x; revert x; intro _)
    | with_reducible refine State.putBytes_frame b22 ?_
    | with_reducible refine Frame.ite ?_ ?_
    | with_reducible refine Frame.foldl ?_ _ _ ?_
    | split
    | with_reducible refine Frame.of_snd (by with_reducible assumption) ?_
    | with_reducible refine Frame.of_fst (by with_reducible assumption) ?_
    | with_reducible refine Frame.snd_mk ?_
    | with_reducible refine Frame.fst_mk ?_

def State.applyEdit_mask : Nat := 0x602000000000000000000000000001f001000000000000000000880000000000000000000000023444400
theorem State.applyEdit_frame {W : Nat} {s0 s : State} {p : Nat} {gen : Nat} {e : Edit} (hW : Within State.applyEdit_mask W) (h : Frame W s0 s) :
    Frame W s0 (State.applyEdit s p gen e) := by
  have b204 := hW.bit (n := 204) (by decide)
  have w0 := Within.trans (a := State.setPool_mask) rfl hW
  have w1 := Within.trans (a := State.raise_mask) rfl hW
  have w2 := Within.trans (a := State.invalidate_mask) rfl hW
  have w3 := Within.trans (a := State.copyPage_mask) rfl hW
  unfold State.applyEdit
  repeat' first
    | intro _
    | with_reducible assumption
    | (extract_lets +onlyGivenNames x; refine Frame.cut (W := W) (s0 := s0) x ?_ ?_; unfold x; clear x; rotate_left; clear_value x; revert x; intro _ _)
    | (extract_lets +onlyGivenNames x; clear_value x; revert x; intro _)
    | with_reducible refine State.inc_frame (F.KV_WAIT_cows_kind _) b204 ?_
    | with_reducible refine State.setPool_frame w0 ?_
    | with_reducible refine State.raise_frame w1 ?_
    | with_reducible refine State.invalidate_frame w2 ?_
    | with_reducible refine State.copyPage_frame w3 ?_
    | with_reducible refine Frame.ite ?_ ?_
    | with_reducible refine Frame.foldl ?_ _ _ ?_
    | split
    | with_reducible refine Frame.of_snd (by with_reducible assumption) ?_
    | with_reducible refine Frame.of_fst (by with_reducible assumption) ?_
    | with_reducible refine Frame.snd_mk ?_
    | with_reducible refine Frame.fst_mk ?_
    | with_reducible refine Frame.foldl_snd ?_ _ _ ?_
    | with_reducible refine Frame.foldl_fst ?_ _ _ ?_
    | with_reducible refine Frame.foldr_snd ?_ _ _ ?_
    | with_reducible refine Frame.Snd.mk ?_
    | with_reducible refine Frame.Fst.mk ?_
    | dsimp only

def State.retirePage_mask : Nat := 0x6020000001000000000000000000000000000000000000000000000000000000000000000002022100000
theorem State.retirePage_frame {W : Nat} {s0 s : State} {k : Nat} (hW : Within State.retirePage_mask W) (h : Frame W s0 s) :
    Frame W s0 (State.retirePage s k) := by
  have b20 := hW.bit (n := 20) (by decide)
  have b300 := hW.bit (n := 300) (by decide)
  have b37 := hW.bit (n := 37) (by decide)
  have w3 := Within.trans (a := State.raise_mask) rfl hW
  unfold State.retirePage
  repeat' first
    | intro _
    | with_reducible assumption
    | (extract_lets +onlyGivenNames x; refine Frame.cut (W := W) (s0 := s0) x ?_ ?_; unfold x; clear x; rotate_left; clear_value x; revert x; intro _ _)
    | (extract_lets +onlyGivenNames x; clear_value x; revert x; intro _)
    | with_reducible refine State.set_frame (F.INTEG_HBM_retired_kind) b300 ?_
    | with_reducible refine State.set_frame (F.INTEG_HBM_poisoned_kind) b300 ?_
    | with_reducible refine State.set_frame (F.CAP_HBM_AVAIL_retired_kind) b37 ?_
    | with_reducible refine State.set_frame (F.CAP_HBM_AVAIL_pages_kind) b37 ?_
    | with_reducible refine State.raise_frame w3 ?_
    | with_reducible refine Frame.ite ?_ ?_
    | with_reducible refine Frame.foldl ?_ _ _ ?_
    | split
    | with_reducible refine Frame.of_snd (by with_reducible assumption) ?_
    | with_reducible refine Frame.of_fst (by with_reducible assumption) ?_
    | with_reducible refine Frame.snd_mk ?_
    | with_reducible refine Frame.fst_mk ?_
    | with_reducible refine Frame.integ_upd b20 ?_

def State.checkQuota_mask : Nat := 0x6020000000000000000000000000000000000000000000000000000000040000000000000000022000000
theorem State.checkQuota_frame {W : Nat} {s0 s : State} {p : Nat} (hW : Within State.checkQuota_mask W) (h : Frame W s0 s) :
    Frame W s0 (State.checkQuota s p) := by
  have b102 := hW.bit (n := 102) (by decide)
  have w1 := Within.trans (a := State.raise_mask) rfl hW
  unfold State.checkQuota
  repeat' first
    | intro _
    | with_reducible assumption
    | (extract_lets +onlyGivenNames x; refine Frame.cut (W := W) (s0 := s0) x ?_ ?_; unfold x; clear x; rotate_left; clear_value x; revert x; intro _ _)
    | (extract_lets +onlyGivenNames x; clear_value x; revert x; intro _)
    | with_reducible refine State.set_frame (F.ROUTE_PART_over_quota_kind _) b102 ?_
    | with_reducible refine State.raise_frame w1 ?_
    | with_reducible refine Frame.ite ?_ ?_
    | with_reducible refine Frame.foldl ?_ _ _ ?_
    | split
    | with_reducible refine Frame.of_snd (by with_reducible assumption) ?_
    | with_reducible refine Frame.of_fst (by with_reducible assumption) ?_
    | with_reducible refine Frame.snd_mk ?_
    | with_reducible refine Frame.fst_mk ?_

def State.retireGen_mask : Nat := 0x6020000001000000000000000000000000000000000000000000000000200000000000000002022100400
theorem State.retireGen_frame {W : Nat} {s0 s : State} {p : Nat} {g : Nat} (hW : Within State.retireGen_mask W) (h : Frame W s0 s) :
    Frame W s0 (State.retireGen s p g) := by
  have b105 := hW.bit (n := 105) (by decide)
  have w0 := Within.trans (a := State.setPool_mask) rfl hW
  have w1 := Within.trans (a := State.retirePage_mask) rfl hW
  unfold State.retireGen
  repeat' first
    | intro _
    | with_reducible assumption
    | (extract_lets +onlyGivenNames x; refine Frame.cut (W := W) (s0 := s0) x ?_ ?_; unfold x; clear x; rotate_left; clear_value x; revert x; intro _ _)
    | (extract_lets +onlyGivenNames x; clear_value x; revert x; intro _)
    | with_reducible refine State.set_frame (F.ROUTE_PAGES_held_kind _) b105 ?_
    | with_reducible refine State.setPool_frame w0 ?_
    | with_reducible refine State.retirePage_frame w1 ?_
    | with_reducible refine State.each_frame ?_ ?_
    | with_reducible refine Frame.ite ?_ ?_
    | with_reducible refine Frame.foldl ?_ _ _ ?_
    | split
    | with_reducible refine Frame.of_snd (by with_reducible assumption) ?_
    | with_reducible refine Frame.of_fst (by with_reducible assumption) ?_
    | with_reducible refine Frame.snd_mk ?_
    | with_reducible refine Frame.fst_mk ?_

def State.quotaCheck_mask : Nat := 0x6020000000000000000000000000000000080000000000000000000000000000000000000000022000400
theorem State.quotaCheck_frame {W : Nat} {s0 s : State} {p : Nat} (hW : Within State.quotaCheck_mask W) (h : Frame W s0 s) :
    Frame W s0 (State.quotaCheck s p) := by
  have b199 := hW.bit (n := 199) (by decide)
  have w0 := Within.trans (a := State.setPool_mask) rfl hW
  have w1 := Within.trans (a := State.raise_mask) rfl hW
  unfold State.quotaCheck
  repeat' first
    | intro _
    | with_reducible assumption
    | (extract_lets +onlyGivenNames x; refine Frame.cut (W := W) (s0 := s0) x ?_ ?_; unfold x; clear x; rotate_left; clear_value x; revert x; intro _ _)
    | (extract_lets +onlyGivenNames x; clear_value x; revert x; intro _)
    | with_reducible refine State.set_frame (F.KV_CHARGE_over_quota_kind _) b199 ?_
    | with_reducible refine State.setPool_frame w0 ?_
    | with_reducible refine State.raise_frame w1 ?_
    | with_reducible refine Frame.ite ?_ ?_
    | with_reducible refine Frame.foldl ?_ _ _ ?_
    | split
    | with_reducible refine Frame.of_snd (by with_reducible assumption) ?_
    | with_reducible refine Frame.of_fst (by with_reducible assumption) ?_
    | with_reducible refine Frame.snd_mk ?_
    | with_reducible refine Frame.fst_mk ?_

def State.lengthLimit_mask : Nat := 0x602000000000000000000000000001f000000000000000000000880000000000000000000000023444000
theorem State.lengthLimit_frame {W : Nat} {s0 s : State} {p : Nat} {q : Nat} {tag : Nat} {m : SeqModelCfg} (hW : Within State.lengthLimit_mask W) (h : Frame W s0 s) :
    Frame W s0 (State.lengthLimit s p q tag m) := by
  have w0 := Within.trans (a := State.raise_mask) rfl hW
  have w1 := Within.trans (a := State.invalidate_mask) rfl hW
  unfold State.lengthLimit
  repeat' first
    | intro _
    | with_reducible assumption
    | (extract_lets +onlyGivenNames x; refine Frame.cut (W := W) (s0 := s0) x ?_ ?_; unfold x; clear x; rotate_left; clear_value x; revert x; intro _ _)
    | (extract_lets +onlyGivenNames x; clear_value x; revert x; intro _)
    | with_reducible refine State.raise_frame w0 ?_
    | with_reducible refine State.invalidate_frame w1 ?_
    | with_reducible refine Frame.ite ?_ ?_
    | with_reducible refine Frame.foldl ?_ _ _ ?_
    | split
    | with_reducible refine Frame.of_snd (by with_reducible assumption) ?_
    | with_reducible refine Frame.of_fst (by with_reducible assumption) ?_
    | with_reducible refine Frame.snd_mk ?_
    | with_reducible refine Frame.fst_mk ?_

def State.refuseJoins_mask : Nat := 0x6020000000000000000000000000000000000000000000000000000000000000000000000000022000400
theorem State.refuseJoins_frame {W : Nat} {s0 s : State} {p : Nat} (hW : Within State.refuseJoins_mask W) (h : Frame W s0 s) :
    Frame W s0 (State.refuseJoins s p) := by
  have w0 := Within.trans (a := State.raise_mask) rfl hW
  have w1 := Within.trans (a := State.setPool_mask) rfl hW
  unfold State.refuseJoins
  repeat' first
    | intro _
    | with_reducible assumption
    | (extract_lets +onlyGivenNames x; refine Frame.cut (W := W) (s0 := s0) x ?_ ?_; unfold x; clear x; rotate_left; clear_value x; revert x; intro _ _)
    | (extract_lets +onlyGivenNames x; clear_value x; revert x; intro _)
    | with_reducible refine State.raise_frame w0 ?_
    | with_reducible refine State.setPool_frame w1 ?_
    | with_reducible refine State.each_frame ?_ ?_
    | with_reducible refine Frame.ite ?_ ?_
    | with_reducible refine Frame.foldl ?_ _ _ ?_
    | split
    | with_reducible refine Frame.of_snd (by with_reducible assumption) ?_
    | with_reducible refine Frame.of_fst (by with_reducible assumption) ?_
    | with_reducible refine Frame.snd_mk ?_
    | with_reducible refine Frame.fst_mk ?_

def State.admitJoins_mask : Nat := 0x602000000000000000000000000001f000000000000000000000880000000000000000000000023444400
theorem State.admitJoins_frame {W : Nat} {s0 s : State} {p : Nat} {d : StepDraft} {m : SeqModelCfg} {freed : Nat → Nat} {fuel : Nat} (hW : Within State.admitJoins_mask W) (h : Frame W s0 s) :
    Frame W s0 (State.admitJoins s p d m freed fuel) := by
  have w0 := Within.trans (a := State.refuseJoins_mask) rfl hW
  have w1 := Within.trans (a := State.setPool_mask) rfl hW
  have w2 := Within.trans (a := State.lengthLimit_mask) rfl hW
  have w3 := Within.trans (a := State.raise_mask) rfl hW
  induction fuel generalizing s p d m freed with
  | zero =>
    unfold State.admitJoins
    repeat' first
      | intro _
      | with_reducible assumption
      | (extract_lets +onlyGivenNames x; refine Frame.cut (W := W) (s0 := s0) x ?_ ?_; unfold x; clear x; rotate_left; clear_value x; revert x; intro _ _)
      | (extract_lets +onlyGivenNames x; clear_value x; revert x; intro _)
      | with_reducible refine State.refuseJoins_frame w0 ?_
      | with_reducible refine State.setPool_frame w1 ?_
      | with_reducible refine State.lengthLimit_frame w2 ?_
      | with_reducible refine State.raise_frame w3 ?_
      | with_reducible refine Frame.ite ?_ ?_
      | with_reducible refine Frame.foldl ?_ _ _ ?_
      | split
      | with_reducible refine Frame.of_snd (by with_reducible assumption) ?_
      | with_reducible refine Frame.of_fst (by with_reducible assumption) ?_
      | with_reducible refine Frame.snd_mk ?_
      | with_reducible refine Frame.fst_mk ?_
  | succ fuel ih =>
    unfold State.admitJoins
    repeat' first
      | intro _
      | with_reducible assumption
      | with_reducible refine ih ?_
      | (extract_lets +onlyGivenNames x; refine Frame.cut (W := W) (s0 := s0) x ?_ ?_; unfold x; clear x; rotate_left; clear_value x; revert x; intro _ _)
      | (extract_lets +onlyGivenNames x; clear_value x; revert x; intro _)
      | with_reducible refine State.refuseJoins_frame w0 ?_
      | with_reducible refine State.setPool_frame w1 ?_
      | with_reducible refine State.lengthLimit_frame w2 ?_
      | with_reducible refine State.raise_frame w3 ?_
      | with_reducible refine Frame.ite ?_ ?_
      | with_reducible refine Frame.foldl ?_ _ _ ?_
      | split
      | with_reducible refine Frame.of_snd (by with_reducible assumption) ?_
      | with_reducible refine Frame.of_fst (by with_reducible assumption) ?_
      | with_reducible refine Frame.snd_mk ?_
      | with_reducible refine Frame.fst_mk ?_

def State.setStepBatch_mask : Nat := 0x200
theorem State.setStepBatch_frame {W : Nat} {s0 s : State} {p : Nat} {j : Nat} {num : Nat} {l : List (Option BatchSlot)} {js : List (Nat × JoinWait)} (hW : Within State.setStepBatch_mask W) (h : Frame W s0 s) :
    Frame W s0 (State.setStepBatch s p j num l js) := by
  have b9 := hW.bit (n := 9) (by decide)
  unfold State.setStepBatch
  repeat' first
    | intro _
    | with_reducible assumption
    | (extract_lets +onlyGivenNames x; refine Frame.cut (W := W) (s0 := s0) x ?_ ?_; unfold x; clear x; rotate_left; clear_value x; revert x; intro _ _)
    | (extract_lets +onlyGivenNames x; refine Frame.cutF (W := W) (s0 := s0) x ?_ ?_; unfold x; clear x; rotate_left; clear_value x; revert x; intro _ _)
    | (extract_lets +onlyGivenNames x; refine Frame.cutG (W := W) (s0 := s0) x ?_ ?_; unfold x; clear x; rotate_left; clear_value x; revert x; intro _ _)
    | (extract_lets +onlyGivenNames x; refine Frame.cutN (W := W) (s0 := s0) x ?_ ?_; unfold x; clear x; rotate_left; clear_value x; revert x; intro _ _)
    | (extract_lets +onlyGivenNames x; refine Frame.cutH (W := W) (s0 := s0) x ?_ ?_; unfold x; clear x; rotate_left; clear_value x; revert x; intro _ _)
    | (extract_lets +onlyGivenNames x; refine Frame.cutI (W := W) (s0 := s0) x ?_ ?_; unfold x; clear x; rotate_left; clear_value x; revert x; intro _ _)
    | (extract_lets +onlyGivenNames x; clear_value x; revert x; intro _)
    | with_reducible refine Frame.ite ?_ ?_
    | with_reducible refine Frame.foldl ?_ _ _ ?_
    | split
    | with_reducible refine Frame.of_snd (by with_reducible assumption) ?_
    | with_reducible refine Frame.of_fst (by with_reducible assumption) ?_
    | with_reducible refine Frame.snd_mk ?_
    | with_reducible refine Frame.fst_mk ?_
    | with_reducible refine Frame.route_upd b9 ?_
    | solve_by_elim

def State.formBatch_mask : Nat := 0x602000000000000000000000000001f000000000000000000000880000000000000000000000023444600
set_option maxRecDepth 8000 in
theorem State.formBatch_frame {W : Nat} {s0 s : State} {p : Nat} {n : Nat} {j : Nat} {num : Nat} {g : Nat} {t : TemplateCfg} {m : SeqModelCfg} (hW : Within State.formBatch_mask W) (h : Frame W s0 s) :
    Frame W s0 (State.formBatch s p n j num g t m) := by
  have w0 := Within.trans (a := State.setStepBatch_mask) rfl hW
  have w1 := Within.trans (a := State.lengthLimit_mask) rfl hW
  have w2 := Within.trans (a := State.setPool_mask) rfl hW
  have w3 := Within.trans (a := State.admitJoins_mask) rfl hW
  have w4 := Within.trans (a := State.raise_mask) rfl hW
  have b9 := hW.bit (n := 9) (by decide)
  unfold State.formBatch
  repeat' first
    | intro _
    | with_reducible assumption
    | (extract_lets +onlyGivenNames x; refine Frame.cut (W := W) (s0 := s0) x ?_ ?_; unfold x; clear x; rotate_left; clear_value x; revert x; intro _ _)
    | (extract_lets +onlyGivenNames x; refine Frame.cutF (W := W) (s0 := s0) x ?_ ?_; unfold x; clear x; rotate_left; clear_value x; revert x; intro _ _)
    | (extract_lets +onlyGivenNames x; refine Frame.cutG (W := W) (s0 := s0) x ?_ ?_; unfold x; clear x; rotate_left; clear_value x; revert x; intro _ _)
    | (extract_lets +onlyGivenNames x; refine Frame.cutN (W := W) (s0 := s0) x ?_ ?_; unfold x; clear x; rotate_left; clear_value x; revert x; intro _ _)
    | (extract_lets +onlyGivenNames x; refine Frame.cutH (W := W) (s0 := s0) x ?_ ?_; unfold x; clear x; rotate_left; clear_value x; revert x; intro _ _)
    | (extract_lets +onlyGivenNames x; refine Frame.cutI (W := W) (s0 := s0) x ?_ ?_; unfold x; clear x; rotate_left; clear_value x; revert x; intro _ _)
    | (extract_lets +onlyGivenNames x; clear_value x; revert x; intro _)
    | with_reducible refine State.setStepBatch_frame w0 ?_
    | with_reducible refine State.lengthLimit_frame w1 ?_
    | with_reducible refine State.setPool_frame w2 ?_
    | with_reducible refine State.admitJoins_frame w3 ?_
    | with_reducible refine State.raise_frame w4 ?_
    | with_reducible refine State.each_frame ?_ ?_
    | with_reducible refine Frame.ite ?_ ?_
    | with_reducible refine Frame.foldl ?_ _ _ ?_
    | split
    | with_reducible refine Frame.of_snd (by with_reducible assumption) ?_
    | with_reducible refine Frame.of_fst (by with_reducible assumption) ?_
    | with_reducible refine Frame.snd_mk ?_
    | with_reducible refine Frame.fst_mk ?_
    | with_reducible refine Frame.route_upd b9 ?_
    | with_reducible refine Frame.foldl_snd ?_ _ _ ?_
    | with_reducible refine Frame.foldl_fst ?_ _ _ ?_
    | with_reducible refine Frame.foldr_snd ?_ _ _ ?_
    | with_reducible refine Frame.Snd.mk ?_
    | with_reducible refine Frame.Fst.mk ?_
    | dsimp only
    | solve_by_elim

def State.takeDraft_mask : Nat := 0x600
theorem State.takeDraft_frame {W : Nat} {s0 s : State} {p : Nat} {d : StepDraft} (hW : Within State.takeDraft_mask W) (h : Frame W s0 s) :
    Frame W s0 (State.takeDraft s p d) := by
  have w0 := Within.trans (a := State.setStepBatch_mask) rfl hW
  have w1 := Within.trans (a := State.setPool_mask) rfl hW
  unfold State.takeDraft
  repeat' first
    | intro _
    | with_reducible assumption
    | (extract_lets +onlyGivenNames x; refine Frame.cut (W := W) (s0 := s0) x ?_ ?_; unfold x; clear x; rotate_left; clear_value x; revert x; intro _ _)
    | (extract_lets +onlyGivenNames x; refine Frame.cutF (W := W) (s0 := s0) x ?_ ?_; unfold x; clear x; rotate_left; clear_value x; revert x; intro _ _)
    | (extract_lets +onlyGivenNames x; refine Frame.cutG (W := W) (s0 := s0) x ?_ ?_; unfold x; clear x; rotate_left; clear_value x; revert x; intro _ _)
    | (extract_lets +onlyGivenNames x; refine Frame.cutN (W := W) (s0 := s0) x ?_ ?_; unfold x; clear x; rotate_left; clear_value x; revert x; intro _ _)
    | (extract_lets +onlyGivenNames x; refine Frame.cutH (W := W) (s0 := s0) x ?_ ?_; unfold x; clear x; rotate_left; clear_value x; revert x; intro _ _)
    | (extract_lets +onlyGivenNames x; refine Frame.cutI (W := W) (s0 := s0) x ?_ ?_; unfold x; clear x; rotate_left; clear_value x; revert x; intro _ _)
    | (extract_lets +onlyGivenNames x; clear_value x; revert x; intro _)
    | with_reducible refine State.setStepBatch_frame w0 ?_
    | with_reducible refine State.setPool_frame w1 ?_
    | with_reducible refine Frame.ite ?_ ?_
    | with_reducible refine Frame.foldl ?_ _ _ ?_
    | split
    | with_reducible refine Frame.of_snd (by with_reducible assumption) ?_
    | with_reducible refine Frame.of_fst (by with_reducible assumption) ?_
    | with_reducible refine Frame.snd_mk ?_
    | with_reducible refine Frame.fst_mk ?_
    | solve_by_elim

def State.kvStep_mask : Nat := 0x602000000100000000000000000001f001fe2000000000000000880000240000000000000002023544600
theorem State.kvStep_frame {W : Nat} {s0 s : State} {p : Nat} {n : Nat} (hW : Within State.kvStep_mask W) (h : Frame W s0 s) :
    Frame W s0 (State.kvStep s p n) := by
  have b201 := hW.bit (n := 201) (by decide)
  have w0 := Within.trans (a := State.retireGen_mask) rfl hW
  have w1 := Within.trans (a := State.refuseJoins_mask) rfl hW
  have w2 := Within.trans (a := State.takeDraft_mask) rfl hW
  have w3 := Within.trans (a := State.setPool_mask) rfl hW
  have w4 := Within.trans (a := State.applyEdit_mask) rfl hW
  have w5 := Within.trans (a := State.writeTables_mask) rfl hW
  have w6 := Within.trans (a := State.quotaCheck_mask) rfl hW
  have w7 := Within.trans (a := State.checkQuota_mask) rfl hW
  have w8 := Within.trans (a := State.showPool_mask) rfl hW
  unfold State.kvStep
  repeat' first
    | intro _
    | with_reducible assumption
    | (extract_lets +onlyGivenNames x; refine Frame.cut (W := W) (s0 := s0) x ?_ ?_; unfold x; clear x; rotate_left; clear_value x; revert x; intro _ _)
    | (extract_lets +onlyGivenNames x; refine Frame.cutF (W := W) (s0 := s0) x ?_ ?_; unfold x; clear x; rotate_left; clear_value x; revert x; intro _ _)
    | (extract_lets +onlyGivenNames x; refine Frame.cutG (W := W) (s0 := s0) x ?_ ?_; unfold x; clear x; rotate_left; clear_value x; revert x; intro _ _)
    | (extract_lets +onlyGivenNames x; refine Frame.cutN (W := W) (s0 := s0) x ?_ ?_; unfold x; clear x; rotate_left; clear_value x; revert x; intro _ _)
    | (extract_lets +onlyGivenNames x; refine Frame.cutH (W := W) (s0 := s0) x ?_ ?_; unfold x; clear x; rotate_left; clear_value x; revert x; intro _ _)
    | (extract_lets +onlyGivenNames x; refine Frame.cutI (W := W) (s0 := s0) x ?_ ?_; unfold x; clear x; rotate_left; clear_value x; revert x; intro _ _)
    | (extract_lets +onlyGivenNames x; clear_value x; revert x; intro _)
    | with_reducible refine State.set_frame (F.KV_GEN_current_kind _) b201 ?_
    | with_reducible refine State.retireGen_frame w0 ?_
    | with_reducible refine State.refuseJoins_frame w1 ?_
    | with_reducible refine State.takeDraft_frame w2 ?_
    | with_reducible refine State.setPool_frame w3 ?_
    | with_reducible refine State.applyEdit_frame w4 ?_
    | with_reducible refine State.writeTables_frame w5 ?_
    | with_reducible refine State.quotaCheck_frame w6 ?_
    | with_reducible refine State.checkQuota_frame w7 ?_
    | with_reducible refine State.showPool_frame w8 ?_
    | with_reducible refine State.each_frame ?_ ?_
    | with_reducible refine Frame.ite ?_ ?_
    | with_reducible refine Frame.foldl ?_ _ _ ?_
    | split
    | with_reducible refine Frame.of_snd (by with_reducible assumption) ?_
    | with_reducible refine Frame.of_fst (by with_reducible assumption) ?_
    | with_reducible refine Frame.snd_mk ?_
    | with_reducible refine Frame.fst_mk ?_
    | with_reducible refine Frame.foldl_snd ?_ _ _ ?_
    | with_reducible refine Frame.foldl_fst ?_ _ _ ?_
    | with_reducible refine Frame.foldr_snd ?_ _ _ ?_
    | with_reducible refine Frame.Snd.mk ?_
    | with_reducible refine Frame.Fst.mk ?_
    | dsimp only
    | solve_by_elim

def State.observe_mask : Nat := 0x1de2000000000000000000000000000000000000000000000400
theorem State.observe_frame {W : Nat} {s0 s : State} {p : Nat} {w : WindowIn} (hW : Within State.observe_mask W) (h : Frame W s0 s) :
    Frame W s0 (State.observe s p w) := by
  have w0 := Within.trans (a := State.setPool_mask) rfl hW
  have w1 := Within.trans (a := State.showPool_mask) rfl hW
  unfold State.observe
  repeat' first
    | intro _
    | with_reducible assumption
    | (extract_lets +onlyGivenNames x; refine Frame.cut (W := W) (s0 := s0) x ?_ ?_; unfold x; clear x; rotate_left; clear_value x; revert x; intro _ _)
    | (extract_lets +onlyGivenNames x; clear_value x; revert x; intro _)
    | with_reducible refine State.setPool_frame w0 ?_
    | with_reducible refine State.showPool_frame w1 ?_
    | with_reducible refine Frame.ite ?_ ?_
    | with_reducible refine Frame.foldl ?_ _ _ ?_
    | split
    | with_reducible refine Frame.of_snd (by with_reducible assumption) ?_
    | with_reducible refine Frame.of_fst (by with_reducible assumption) ?_
    | with_reducible refine Frame.snd_mk ?_
    | with_reducible refine Frame.fst_mk ?_

def State.kvStatus_mask : Nat := 0x18000000000000000000000000000000000000000000000000
theorem State.kvStatus_frame {W : Nat} {s0 s : State} {i : Port} {code : Nat} {count : Nat} {gen : Nat} (hW : Within State.kvStatus_mask W) (h : Frame W s0 s) :
    Frame W s0 (State.kvStatus s i code count gen) := by
  have b196 := hW.bit (n := 196) (by decide)
  have b195 := hW.bit (n := 195) (by decide)
  unfold State.kvStatus
  repeat' first
    | intro _
    | with_reducible assumption
    | (extract_lets +onlyGivenNames x; refine Frame.cut (W := W) (s0 := s0) x ?_ ?_; unfold x; clear x; rotate_left; clear_value x; revert x; intro _ _)
    | (extract_lets +onlyGivenNames x; clear_value x; revert x; intro _)
    | with_reducible refine State.set_frame (F.KV_CMD_STATUS2_generation_kind _) b196 ?_
    | with_reducible refine State.set_frame (F.KV_CMD_STATUS_count_kind _) b195 ?_
    | with_reducible refine State.set_frame (F.KV_CMD_STATUS_code_kind _) b195 ?_
    | with_reducible refine Frame.ite ?_ ?_
    | with_reducible refine Frame.foldl ?_ _ _ ?_
    | split
    | with_reducible refine Frame.of_snd (by with_reducible assumption) ?_
    | with_reducible refine Frame.of_fst (by with_reducible assumption) ?_
    | with_reducible refine Frame.snd_mk ?_
    | with_reducible refine Frame.fst_mk ?_

def State.kvRefused_mask : Nat := 0x6020000000000000000000000000000000018000000000000000000000000000000000000000022000000
theorem State.kvRefused_frame {W : Nat} {s0 s : State} {i : Port} {cmd : Nat} {target : Nat} (hW : Within State.kvRefused_mask W) (h : Frame W s0 s) :
    Frame W s0 (State.kvRefused s i cmd target) := by
  have w0 := Within.trans (a := State.kvStatus_mask) rfl hW
  have w1 := Within.trans (a := State.raise_mask) rfl hW
  unfold State.kvRefused
  repeat' first
    | intro _
    | with_reducible assumption
    | (extract_lets +onlyGivenNames x; refine Frame.cut (W := W) (s0 := s0) x ?_ ?_; unfold x; clear x; rotate_left; clear_value x; revert x; intro _ _)
    | (extract_lets +onlyGivenNames x; clear_value x; revert x; intro _)
    | with_reducible refine State.kvStatus_frame w0 ?_
    | with_reducible refine State.raise_frame w1 ?_
    | with_reducible refine Frame.ite ?_ ?_
    | with_reducible refine Frame.foldl ?_ _ _ ?_
    | split
    | with_reducible refine Frame.of_snd (by with_reducible assumption) ?_
    | with_reducible refine Frame.of_fst (by with_reducible assumption) ?_
    | with_reducible refine Frame.snd_mk ?_
    | with_reducible refine Frame.fst_mk ?_

def State.kvCmd_mask : Nat := 0x6020000000000000000000000000000000018000000000000000000000000000000000000000022000000
theorem State.kvCmd_frame {W : Nat} {s0 s : State} {i : Port} {p : Part} {cmd : Nat} {target : Nat} {f : State → State} (hW : Within State.kvCmd_mask W) (hf_f : ∀ s, Frame W s0 s → Frame W s0 (f s)) (h : Frame W s0 s) :
    Frame W s0 (State.kvCmd s i p cmd target f) := by
  have w0 := Within.trans (a := State.kvRefused_mask) rfl hW
  unfold State.kvCmd
  repeat' first
    | intro _
    | with_reducible assumption
    | (extract_lets +onlyGivenNames x; refine Frame.cut (W := W) (s0 := s0) x ?_ ?_; unfold x; clear x; rotate_left; clear_value x; revert x; intro _ _)
    | (extract_lets +onlyGivenNames x; clear_value x; revert x; intro _)
    | with_reducible refine State.kvRefused_frame w0 ?_
    | with_reducible refine Frame.ite ?_ ?_
    | with_reducible apply hf_f
    | with_reducible refine Frame.foldl ?_ _ _ ?_
    | split
    | with_reducible refine Frame.of_snd (by with_reducible assumption) ?_
    | with_reducible refine Frame.of_fst (by with_reducible assumption) ?_
    | with_reducible refine Frame.snd_mk ?_
    | with_reducible refine Frame.fst_mk ?_

def execPrefixRetire_mask : Nat := 0x6020000000000000800000000005000000018000000000000000000000000000000000000000022008400
theorem execPrefixRetire_frame {s nx : State} {i : Port} {p : Part} {target : BitVec 19} (e : execPrefixRetire i p target s = .next nx) : Frame execPrefixRetire_mask s nx := by
  refine State.run_frame rfl (fun W s0 s hW h => ?_) e
  have w0 := Within.trans (a := State.kvCmd_mask) rfl hW
  have w1 := Within.trans (a := State.kvRefused_mask) rfl hW
  have w2 := Within.trans (a := State.kvStatus_mask) rfl hW
  have w3 := Within.trans (a := State.setPool_mask) rfl hW
  repeat' first
    | intro _
    | with_reducible assumption
    | (extract_lets +onlyGivenNames x; refine Frame.cut (W := W) (s0 := s0) x ?_ ?_; unfold x; clear x; rotate_left; clear_value x; revert x; intro _ _)
    | (extract_lets +onlyGivenNames x; clear_value x; revert x; intro _)
    | with_reducible refine State.kvCmd_frame w0 ?_ ?_
    | with_reducible refine State.kvRefused_frame w1 ?_
    | with_reducible refine State.kvStatus_frame w2 ?_
    | with_reducible refine State.setPool_frame w3 ?_
    | with_reducible refine Frame.ite ?_ ?_
    | with_reducible refine Frame.foldl ?_ _ _ ?_
    | split
    | with_reducible refine Frame.of_snd (by with_reducible assumption) ?_
    | with_reducible refine Frame.of_fst (by with_reducible assumption) ?_

def execSeqEnd_mask : Nat := 0x602000000000000080000000000501f00001800000000000000088000000000000000000000002344c400
theorem execSeqEnd_frame {s nx : State} {i : Port} {p : Part} {target : BitVec 19} (e : execSeqEnd i p target s = .next nx) : Frame execSeqEnd_mask s nx := by
  refine State.run_frame rfl (fun W s0 s hW h => ?_) e
  have w0 := Within.trans (a := State.kvCmd_mask) rfl hW
  have w1 := Within.trans (a := State.kvRefused_mask) rfl hW
  have w2 := Within.trans (a := State.kvStatus_mask) rfl hW
  have w3 := Within.trans (a := State.setPool_mask) rfl hW
  have w4 := Within.trans (a := State.invalidate_mask) rfl hW
  have w5 := Within.trans (a := State.raise_mask) rfl hW
  repeat' first
    | intro _
    | with_reducible assumption
    | (extract_lets +onlyGivenNames x; refine Frame.cut (W := W) (s0 := s0) x ?_ ?_; unfold x; clear x; rotate_left; clear_value x; revert x; intro _ _)
    | (extract_lets +onlyGivenNames x; clear_value x; revert x; intro _)
    | with_reducible refine State.kvCmd_frame w0 ?_ ?_
    | with_reducible refine State.kvRefused_frame w1 ?_
    | with_reducible refine State.kvStatus_frame w2 ?_
    | with_reducible refine State.setPool_frame w3 ?_
    | with_reducible refine State.invalidate_frame w4 ?_
    | with_reducible refine State.raise_frame w5 ?_
    | with_reducible refine Frame.ite ?_ ?_
    | with_reducible refine Frame.foldl ?_ _ _ ?_
    | split
    | with_reducible refine Frame.of_snd (by with_reducible assumption) ?_
    | with_reducible refine Frame.of_fst (by with_reducible assumption) ?_

def execPageQuery_mask : Nat := 0x6020000000000000800000000005000000018000000000000000000000000000000000000000022008000
theorem execPageQuery_frame {s nx : State} {i : Port} {p : Part} {target : BitVec 19} (e : execPageQuery i p target s = .next nx) : Frame execPageQuery_mask s nx := by
  refine State.run_frame rfl (fun W s0 s hW h => ?_) e
  have w0 := Within.trans (a := State.kvCmd_mask) rfl hW
  have w1 := Within.trans (a := State.kvRefused_mask) rfl hW
  have w2 := Within.trans (a := State.kvStatus_mask) rfl hW
  repeat' first
    | intro _
    | with_reducible assumption
    | (extract_lets +onlyGivenNames x; refine Frame.cut (W := W) (s0 := s0) x ?_ ?_; unfold x; clear x; rotate_left; clear_value x; revert x; intro _ _)
    | (extract_lets +onlyGivenNames x; clear_value x; revert x; intro _)
    | with_reducible refine State.kvCmd_frame w0 ?_ ?_
    | with_reducible refine State.kvRefused_frame w1 ?_
    | with_reducible refine State.kvStatus_frame w2 ?_
    | with_reducible refine Frame.ite ?_ ?_
    | with_reducible refine Frame.foldl ?_ _ _ ?_
    | split
    | with_reducible refine Frame.of_snd (by with_reducible assumption) ?_
    | with_reducible refine Frame.of_fst (by with_reducible assumption) ?_

end Sys2Proof.Machine
end

