-- ==== Sys2Proof/Laws/Builder.lean ====
section
/-! SUPPORT. What the operations of Machine/Builder.lean change: each differs from its argument in the areas of its mask alone. -/

set_option linter.all false

namespace Sys2Proof.Machine

def State.setJob_mask : Nat := 0x200
theorem State.setJob_frame {W : Nat} {s0 s : State} {j : Nat} {b : Job} (hW : Within State.setJob_mask W) (h : Frame W s0 s) :
    Frame W s0 (State.setJob s j b) := by
  have b9 := hW.bit (n := 9) (by decide)
  unfold State.setJob
  repeat' first
    | intro _
    | with_reducible assumption
    | (extract_lets +onlyGivenNames x; refine Frame.cut (W := W) (s0 := s0) x ?_ ?_; unfold x; clear x; rotate_left; clear_value x; revert x; intro _ _)
    | (extract_lets +onlyGivenNames x; clear_value x; revert x; intro _)
    | with_reducible refine Frame.ite ?_ ?_
    | with_reducible refine Frame.foldl ?_ _ _ ?_
    | split
    | with_reducible refine Frame.of_snd (by with_reducible assumption) ?_
    | with_reducible refine Frame.of_fst (by with_reducible assumption) ?_
    | with_reducible refine Frame.snd_mk ?_
    | with_reducible refine Frame.fst_mk ?_
    | with_reducible refine Frame.route_upd b9 ?_

def State.release_mask : Nat := 0x60200000000000000000000000000000000000000000000000008c0000000000000000000000022040200
theorem State.release_frame {W : Nat} {s0 s : State} {j : Nat} {b : Job} {g : Nat} {t : TemplateCfg} {tags : List Nat} {input : BitVec 256} {n : Nat} {ring : Option (Nat × Nat)} (hW : Within State.release_mask W) (h : Frame W s0 s) :
    Frame W s0 (State.release s j b g t tags input n ring) := by
  have w0 := Within.trans (a := State.alloc_mask) rfl hW
  have w1 := Within.trans (a := State.setJob_mask) rfl hW
  have b9 := hW.bit (n := 9) (by decide)
  unfold State.release
  repeat' first
    | intro _
    | with_reducible assumption
    | (extract_lets +onlyGivenNames x; refine Frame.cut (W := W) (s0 := s0) x ?_ ?_; unfold x; clear x; rotate_left; clear_value x; revert x; intro _ _)
    | (extract_lets +onlyGivenNames x; clear_value x; revert x; intro _)
    | with_reducible refine State.setJob_frame w1 ?_
    | with_reducible refine State.alloc_snd w0 ?_
    | with_reducible refine Frame.ite ?_ ?_
    | with_reducible refine Frame.foldl ?_ _ _ ?_
    | split
    | with_reducible refine State.alloc_frame (by with_reducible assumption) w0 ?_
    | with_reducible refine Frame.of_snd (by with_reducible assumption) ?_
    | with_reducible refine Frame.of_fst (by with_reducible assumption) ?_
    | with_reducible refine Frame.snd_mk ?_
    | with_reducible refine Frame.fst_mk ?_
    | with_reducible refine Frame.route_upd b9 ?_

def State.releaseEvents_mask : Nat := 0x60200000000000000000000000000000000000000000000000008c0000000000000000000000022040200
theorem State.releaseEvents_frame {W : Nat} {s0 s : State} {p : Nat} {sel : TemplateCfg → Bool} {tags : List Nat} {input : BitVec 256} {ring : Option (Nat × Nat)} (hW : Within State.releaseEvents_mask W) (h : Frame W s0 s) :
    Frame W s0 (State.releaseEvents s p sel tags input ring) := by
  have w0 := Within.trans (a := State.release_mask) rfl hW
  unfold State.releaseEvents
  repeat' first
    | intro _
    | with_reducible assumption
    | (extract_lets +onlyGivenNames x; refine Frame.cut (W := W) (s0 := s0) x ?_ ?_; unfold x; clear x; rotate_left; clear_value x; revert x; intro _ _)
    | (extract_lets +onlyGivenNames x; clear_value x; revert x; intro _)
    | with_reducible refine State.release_frame w0 ?_
    | with_reducible refine State.each_frame ?_ ?_
    | with_reducible refine Frame.ite ?_ ?_
    | with_reducible refine Frame.foldl ?_ _ _ ?_
    | split
    | with_reducible refine Frame.of_snd (by with_reducible assumption) ?_
    | with_reducible refine Frame.of_fst (by with_reducible assumption) ?_
    | with_reducible refine Frame.snd_mk ?_
    | with_reducible refine Frame.fst_mk ?_

def State.stepBatch_mask : Nat := 0x602000000000000000000000000001f000000000000000000000880000000000000000000000023444600
theorem State.stepBatch_frame {W : Nat} {s0 s : State} {n : Nat} {j : Nat} {num : Nat} {g : Nat} {b : Job} (hW : Within State.stepBatch_mask W) (h : Frame W s0 s) :
    Frame W s0 (State.stepBatch s n j num g b) := by
  have w0 := Within.trans (a := State.formBatch_mask) rfl hW
  have b9 := hW.bit (n := 9) (by decide)
  unfold State.stepBatch
  repeat' first
    | intro _
    | with_reducible assumption
    | (extract_lets +onlyGivenNames x; refine Frame.cut (W := W) (s0 := s0) x ?_ ?_; unfold x; clear x; rotate_left; clear_value x; revert x; intro _ _)
    | (extract_lets +onlyGivenNames x; clear_value x; revert x; intro _)
    | with_reducible refine State.formBatch_frame w0 ?_
    | with_reducible refine Frame.ite ?_ ?_
    | with_reducible refine Frame.foldl ?_ _ _ ?_
    | split
    | with_reducible refine Frame.of_snd (by with_reducible assumption) ?_
    | with_reducible refine Frame.of_fst (by with_reducible assumption) ?_
    | with_reducible refine Frame.snd_mk ?_
    | with_reducible refine Frame.fst_mk ?_
    | with_reducible refine Frame.route_upd b9 ?_

def State.cadences_mask : Nat := 0x602000000000000000000000000001f0000000000000000000008c0000000000000000000000023444600
theorem State.cadences_frame {W : Nat} {s0 s : State} {n : Nat} {j : Nat} {b : Job} (hW : Within State.cadences_mask W) (h : Frame W s0 s) :
    Frame W s0 (State.cadences s n j b) := by
  have w0 := Within.trans (a := State.release_mask) rfl hW
  have w1 := Within.trans (a := State.stepBatch_mask) rfl hW
  have w2 := Within.trans (a := State.setJob_mask) rfl hW
  unfold State.cadences
  repeat' first
    | intro _
    | with_reducible assumption
    | (extract_lets +onlyGivenNames x; refine Frame.cut (W := W) (s0 := s0) x ?_ ?_; unfold x; clear x; rotate_left; clear_value x; revert x; intro _ _)
    | (extract_lets +onlyGivenNames x; refine Frame.cutF (W := W) (s0 := s0) x ?_ ?_; unfold x; clear x; rotate_left; clear_value x; revert x; intro _ _)
    | (extract_lets +onlyGivenNames x; refine Frame.cutG (W := W) (s0 := s0) x ?_ ?_; unfold x; clear x; rotate_left; clear_value x; revert x; intro _ _)
    | (extract_lets +onlyGivenNames x; refine Frame.cutN (W := W) (s0 := s0) x ?_ ?_; unfold x; clear x; rotate_left; clear_value x; revert x; intro _ _)
    | (extract_lets +onlyGivenNames x; refine Frame.cutH (W := W) (s0 := s0) x ?_ ?_; unfold x; clear x; rotate_left; clear_value x; revert x; intro _ _)
    | (extract_lets +onlyGivenNames x; refine Frame.cutI (W := W) (s0 := s0) x ?_ ?_; unfold x; clear x; rotate_left; clear_value x; revert x; intro _ _)
    | (extract_lets +onlyGivenNames x; clear_value x; revert x; intro _)
    | with_reducible refine State.release_frame w0 ?_
    | with_reducible refine State.stepBatch_frame w1 ?_
    | with_reducible refine State.setJob_frame w2 ?_
    | with_reducible refine State.each_frame ?_ ?_
    | with_reducible refine Frame.ite ?_ ?_
    | with_reducible refine Frame.foldl ?_ _ _ ?_
    | split
    | with_reducible refine Frame.of_snd (by with_reducible assumption) ?_
    | with_reducible refine Frame.of_fst (by with_reducible assumption) ?_
    | with_reducible refine Frame.snd_mk ?_
    | with_reducible refine Frame.fst_mk ?_
    | solve_by_elim

def State.takeReleases_mask : Nat := 0x602000000000000000000000000001f0000000000000000000008c0000000000000000000000023444600
theorem State.takeReleases_frame {W : Nat} {s0 s : State} {n : Nat} (hW : Within State.takeReleases_mask W) (h : Frame W s0 s) :
    Frame W s0 (State.takeReleases s n) := by
  have w0 := Within.trans (a := State.cadences_mask) rfl hW
  have b9 := hW.bit (n := 9) (by decide)
  unfold State.takeReleases
  repeat' first
    | intro _
    | with_reducible assumption
    | (extract_lets +onlyGivenNames x; refine Frame.cut (W := W) (s0 := s0) x ?_ ?_; unfold x; clear x; rotate_left; clear_value x; revert x; intro _ _)
    | (extract_lets +onlyGivenNames x; clear_value x; revert x; intro _)
    | with_reducible refine State.cadences_frame w0 ?_
    | with_reducible refine State.each_frame ?_ ?_
    | with_reducible refine Frame.ite ?_ ?_
    | with_reducible refine Frame.foldl ?_ _ _ ?_
    | split
    | with_reducible refine Frame.of_snd (by with_reducible assumption) ?_
    | with_reducible refine Frame.of_fst (by with_reducible assumption) ?_
    | with_reducible refine Frame.snd_mk ?_
    | with_reducible refine Frame.fst_mk ?_
    | with_reducible refine Frame.route_upd b9 ?_
    | with_reducible refine Frame.foldl_snd ?_ _ _ ?_
    | with_reducible refine Frame.foldl_fst ?_ _ _ ?_
    | with_reducible refine Frame.foldr_snd ?_ _ _ ?_
    | with_reducible refine Frame.Snd.mk ?_
    | with_reducible refine Frame.Fst.mk ?_
    | dsimp only

def State.setIter_mask : Nat := 0x200
theorem State.setIter_frame {W : Nat} {s0 s : State} {it : Iter} (hW : Within State.setIter_mask W) (h : Frame W s0 s) :
    Frame W s0 (State.setIter s it) := by
  have b9 := hW.bit (n := 9) (by decide)
  unfold State.setIter
  repeat' first
    | intro _
    | with_reducible assumption
    | (extract_lets +onlyGivenNames x; refine Frame.cut (W := W) (s0 := s0) x ?_ ?_; unfold x; clear x; rotate_left; clear_value x; revert x; intro _ _)
    | (extract_lets +onlyGivenNames x; clear_value x; revert x; intro _)
    | with_reducible refine Frame.ite ?_ ?_
    | with_reducible refine Frame.foldl ?_ _ _ ?_
    | split
    | with_reducible refine Frame.of_snd (by with_reducible assumption) ?_
    | with_reducible refine Frame.of_fst (by with_reducible assumption) ?_
    | with_reducible refine Frame.snd_mk ?_
    | with_reducible refine Frame.fst_mk ?_
    | with_reducible refine Frame.route_upd b9 ?_

def State.putBack_mask : Nat := 0x200
theorem State.putBack_frame {W : Nat} {s0 s : State} {g : LegRun} {fresh : Bool} (hW : Within State.putBack_mask W) (h : Frame W s0 s) :
    Frame W s0 (State.putBack s g fresh) := by
  have w0 := Within.trans (a := State.setIter_mask) rfl hW
  unfold State.putBack
  repeat' first
    | intro _
    | with_reducible assumption
    | (extract_lets +onlyGivenNames x; refine Frame.cut (W := W) (s0 := s0) x ?_ ?_; unfold x; clear x; rotate_left; clear_value x; revert x; intro _ _)
    | (extract_lets +onlyGivenNames x; clear_value x; revert x; intro _)
    | with_reducible refine State.setIter_frame w0 ?_
    | with_reducible refine Frame.ite ?_ ?_
    | with_reducible refine Frame.foldl ?_ _ _ ?_
    | split
    | with_reducible refine Frame.of_snd (by with_reducible assumption) ?_
    | with_reducible refine Frame.of_fst (by with_reducible assumption) ?_
    | with_reducible refine Frame.snd_mk ?_
    | with_reducible refine Frame.fst_mk ?_

def State.charge_mask : Nat := 0x18000000000000000000000000200
theorem State.charge_frame {W : Nat} {s0 s : State} {n : Nat} {j : Nat} {toll : Nat} {cores : List Nat} (hW : Within State.charge_mask W) (h : Frame W s0 s) :
    Frame W s0 (State.charge s n j toll cores) := by
  have b111 := hW.bit (n := 111) (by decide)
  have b112 := hW.bit (n := 112) (by decide)
  have w0 := Within.trans (a := State.setJob_mask) rfl hW
  unfold State.charge
  repeat' first
    | intro _
    | with_reducible assumption
    | (extract_lets +onlyGivenNames x; refine Frame.cut (W := W) (s0 := s0) x ?_ ?_; unfold x; clear x; rotate_left; clear_value x; revert x; intro _ _)
    | (extract_lets +onlyGivenNames x; clear_value x; revert x; intro _)
    | with_reducible refine State.set64_frame (F.ROUTE_TOLL_LO_ticks_kind _) b111 (F.ROUTE_TOLL_HI_ticks_kind _) b112 ?_
    | with_reducible refine State.setJob_frame w0 ?_
    | with_reducible refine Frame.ite ?_ ?_
    | with_reducible refine Frame.foldl ?_ _ _ ?_
    | split
    | with_reducible refine Frame.of_snd (by with_reducible assumption) ?_
    | with_reducible refine Frame.of_fst (by with_reducible assumption) ?_
    | with_reducible refine Frame.snd_mk ?_
    | with_reducible refine Frame.fst_mk ?_
    | with_reducible refine Frame.foldl_snd ?_ _ _ ?_
    | with_reducible refine Frame.foldl_fst ?_ _ _ ?_
    | with_reducible refine Frame.foldr_snd ?_ _ _ ?_
    | with_reducible refine Frame.Snd.mk ?_
    | with_reducible refine Frame.Fst.mk ?_
    | dsimp only

def State.deferLeg_mask : Nat := 0x602000000000000000000000000001f000000000000000000000880100000000000000000000023444200
theorem State.deferLeg_frame {W : Nat} {s0 s : State} {n : Nat} {p : Nat} {j : Nat} {l : Nat} {full : Option Nat} {it : Iter} {copy : Nat} {g : LegCfg} (hW : Within State.deferLeg_mask W) (h : Frame W s0 s) :
    Frame W s0 (State.deferLeg s n p j l full it copy g) := by
  have b116 := hW.bit (n := 116) (by decide)
  have w0 := Within.trans (a := State.raise_mask) rfl hW
  have w1 := Within.trans (a := State.fire_mask) rfl hW
  have w2 := Within.trans (a := State.setIter_mask) rfl hW
  have w3 := Within.trans (a := State.invalidate_mask) rfl hW
  have b9 := hW.bit (n := 9) (by decide)
  unfold State.deferLeg
  repeat' first
    | intro _
    | with_reducible assumption
    | (extract_lets +onlyGivenNames x; refine Frame.cut (W := W) (s0 := s0) x ?_ ?_; unfold x; clear x; rotate_left; clear_value x; revert x; intro _ _)
    | (extract_lets +onlyGivenNames x; clear_value x; revert x; intro _)
    | with_reducible refine State.inc_frame (F.ROUTE_DEFERRED_legs_kind _) b116 ?_
    | with_reducible refine State.raise_frame w0 ?_
    | with_reducible refine State.fire_frame w1 ?_
    | with_reducible refine State.setIter_frame w2 ?_
    | with_reducible refine State.invalidate_frame w3 ?_
    | with_reducible refine Frame.ite ?_ ?_
    | with_reducible refine Frame.foldl ?_ _ _ ?_
    | split
    | with_reducible refine Frame.of_snd (by with_reducible assumption) ?_
    | with_reducible refine Frame.of_fst (by with_reducible assumption) ?_
    | with_reducible refine Frame.snd_mk ?_
    | with_reducible refine Frame.fst_mk ?_
    | with_reducible refine Frame.route_upd b9 ?_

def State.rounds_mask : Nat := 0x602040000000000000000000000001f000000000000000000000880118000000000000000000023444200
theorem State.rounds_fst {W : Nat} {s0 s : State} {n p : Nat} {sel : Nat → Bool} {notOn : List Nat} {fuel : Nat} {x : Sheets}
    {legs : List LegRun} {gone : List Machine.Ready} {last : Option Nat} (hW : Within State.rounds_mask W) (h : Frame W s0 s) :
    Frame W s0 (s.rounds n p sel notOn fuel x legs gone last).1 := by
  have b9 := hW.bit (n := 9) (by decide)
  have br := hW.bit (n := 322) (by decide)
  have w1 := Within.trans (a := State.deferLeg_mask) rfl hW
  have w2 := Within.trans (a := State.setIter_mask) rfl hW
  have w3 := Within.trans (a := State.charge_mask) rfl hW
  induction fuel generalizing s x legs gone last with
  | zero => exact h
  | succ fuel ih =>
    unfold State.rounds
    extract_lets ready toll
    split
    · exact h
    · split
      split
      · exact h
      · extract_lets g w
        clear_value g w
        split
        · exact ih (State.deferLeg_frame w1 h)
        · extract_lets run it1 s1 src s2 s3
          refine ih ?_
          have h1 : Frame W s0 s1 := State.charge_frame w3 (State.setIter_frame w2 h)
          clear_value s1
          have h2 : Frame W s0 s2 := Frame.route_upd b9 h1
          clear_value s2
          exact Frame.ite (State.inc_frame (F.INTEG_RECOMP_LEGS_count_kind _) br h2) h2

theorem State.rounds_frame {W : Nat} {s0 s : State} {n p : Nat} {sel : Nat → Bool} {notOn : List Nat} {fuel : Nat} {x : Sheets}
    {legs : List LegRun} {gone : List Machine.Ready} {last : Option Nat} {t : State} {r0 : Sheets} {r1 : List LegRun}
    (e : s.rounds n p sel notOn fuel x legs gone last = (t, r0, r1)) (hW : Within State.rounds_mask W) (h : Frame W s0 s) :
    Frame W s0 t := by
  have key := State.rounds_fst (n := n) (p := p) (sel := sel) (notOn := notOn) (fuel := fuel) (x := x) (legs := legs)
    (gone := gone) (last := last) hW h
  rw [e] at key; exact key

def State.buildPart_mask : Nat := 0x602040000000000000000000000001f000000000000000000000880118000000000000000000023444200
theorem State.buildPart_fst {W : Nat} {s0 s : State} {n : Nat} {p : Nat} {x : Sheets} {legs : List LegRun} (hW : Within State.buildPart_mask W) (h : Frame W s0 s) :
    Frame W s0 (State.buildPart s n p x legs).1 := by
  have w0 := Within.trans (a := State.rounds_mask) rfl hW
  have key : Frame.Fst W s0 (State.buildPart s n p x legs) := by
    unfold State.buildPart
    repeat' first
      | intro _
      | with_reducible assumption
      | (extract_lets +onlyGivenNames x; refine Frame.cut (W := W) (s0 := s0) x ?_ ?_; unfold x; clear x; rotate_left; clear_value x; revert x; intro _ _)
      | (extract_lets +onlyGivenNames x; clear_value x; revert x; intro _)
      | with_reducible refine Frame.fst_mk ?_
      | with_reducible refine State.rounds_fst w0 ?_
      | with_reducible refine Frame.ite ?_ ?_
      | with_reducible refine Frame.foldl ?_ _ _ ?_
      | split
      | with_reducible refine State.rounds_frame (by with_reducible assumption) w0 ?_
      | with_reducible refine Frame.of_snd (by with_reducible assumption) ?_
      | with_reducible refine Frame.of_fst (by with_reducible assumption) ?_
      | with_reducible refine Frame.snd_mk ?_
      | with_reducible refine Frame.fst_mk ?_
      | with_reducible refine Frame.foldl_snd ?_ _ _ ?_
      | with_reducible refine Frame.foldl_fst ?_ _ _ ?_
      | with_reducible refine Frame.foldr_snd ?_ _ _ ?_
      | with_reducible refine Frame.Snd.mk ?_
      | with_reducible refine Frame.Fst.mk ?_
      | dsimp only
  exact key.out
theorem State.buildPart_frame {W : Nat} {s0 s : State} {n : Nat} {p : Nat} {x : Sheets} {legs : List LegRun} {t : State} {r0 : Sheets} {r1 : List LegRun} (e : State.buildPart s n p x legs = (t, r0, r1)) (hW : Within State.buildPart_mask W) (h : Frame W s0 s) :
    Frame W s0 t := by
  have key := State.buildPart_fst (n := n) (p := p) (x := x) (legs := legs) hW h
  rw [e] at key; exact key

def State.markShared_mask : Nat := 0x200
theorem State.markShared_frame {W : Nat} {s0 s : State} {x : Sheets} {legs : List LegRun} (hW : Within State.markShared_mask W) (h : Frame W s0 s) :
    Frame W s0 (State.markShared s x legs) := by
  have b9 := hW.bit (n := 9) (by decide)
  unfold State.markShared
  repeat' first
    | intro _
    | with_reducible assumption
    | (extract_lets +onlyGivenNames x; refine Frame.cut (W := W) (s0 := s0) x ?_ ?_; unfold x; clear x; rotate_left; clear_value x; revert x; intro _ _)
    | (extract_lets +onlyGivenNames x; refine Frame.cutF (W := W) (s0 := s0) x ?_ ?_; unfold x; clear x; rotate_left; clear_value x; revert x; intro _ _)
    | (extract_lets +onlyGivenNames x; refine Frame.cutG (W := W) (s0 := s0) x ?_ ?_; unfold x; clear x; rotate_left; clear_value x; revert x; intro _ _)
    | (extract_lets +onlyGivenNames x; refine Frame.cutN (W := W) (s0 := s0) x ?_ ?_; unfold x; clear x; rotate_left; clear_value x; revert x; intro _ _)
    | (extract_lets +onlyGivenNames x; refine Frame.cutH (W := W) (s0 := s0) x ?_ ?_; unfold x; clear x; rotate_left; clear_value x; revert x; intro _ _)
    | (extract_lets +onlyGivenNames x; refine Frame.cutI (W := W) (s0 := s0) x ?_ ?_; unfold x; clear x; rotate_left; clear_value x; revert x; intro _ _)
    | (extract_lets +onlyGivenNames x; clear_value x; revert x; intro _)
    | with_reducible refine Frame.ite ?_ ?_
    | with_reducible refine Frame.foldl ?_ _ _ ?_
    | split
    | with_reducible refine Frame.of_snd (by with_reducible assumption) ?_
    | with_reducible refine Frame.of_fst (by with_reducible assumption) ?_
    | with_reducible refine Frame.snd_mk ?_
    | with_reducible refine Frame.fst_mk ?_
    | with_reducible refine Frame.route_upd b9 ?_
    | solve_by_elim

def State.buildSheets_mask : Nat := 0x602040000000000000000000000001f000000000000000000000880118000000000000000000023444200
theorem State.buildSheets_frame {W : Nat} {s0 s : State} {n : Nat} (hW : Within State.buildSheets_mask W) (h : Frame W s0 s) :
    Frame W s0 (State.buildSheets s n) := by
  have b9 := hW.bit (n := 9) (by decide)
  have w1 := Within.trans (a := State.buildPart_mask) rfl hW
  have w2 := Within.trans (a := State.markShared_mask) rfl hW
  unfold State.buildSheets
  have key : Frame W s0 (s.buildOrder.foldl (fun (a : State × Sheets × List LegRun) p => a.1.buildPart n p a.2.1 a.2.2) (s, sheets0, [])).1 :=
    Frame.foldl_fst (fun _ _ k => State.buildPart_fst w1 k) _ _ h
  generalize s.buildOrder.foldl (fun (a : State × Sheets × List LegRun) p => a.1.buildPart n p a.2.1 a.2.2) (s, sheets0, []) = r at key ⊢
  obtain ⟨t, x, legs⟩ := r
  exact Frame.route_upd b9 (State.markShared_frame w2 key)

def State.checkFit_mask : Nat := 0x6020000000000000000000000000000000000000000000000000000001040000000000000000022000000
theorem State.checkFit_frame {W : Nat} {s0 s : State} {n : Nat} {quiet : Bool} (hW : Within State.checkFit_mask W) (h : Frame W s0 s) :
    Frame W s0 (State.checkFit s n quiet) := by
  have b108 := hW.bit (n := 108) (by decide)
  have b102 := hW.bit (n := 102) (by decide)
  have w2 := Within.trans (a := State.fireOwners_mask) rfl hW
  have w3 := Within.trans (a := State.raise_mask) rfl hW
  unfold State.checkFit
  repeat' first
    | intro _
    | with_reducible assumption
    | (extract_lets +onlyGivenNames x; refine Frame.cut (W := W) (s0 := s0) x ?_ ?_; unfold x; clear x; rotate_left; clear_value x; revert x; intro _ _)
    | (extract_lets +onlyGivenNames x; clear_value x; revert x; intro _)
    | with_reducible refine State.set_frame (F.ROUTE_FIT_ticks_kind _) b108 ?_
    | with_reducible refine State.setB_frame (F.ROUTE_PART_fit_kind _) b102 ?_
    | with_reducible refine State.each_frame ?_ ?_
    | with_reducible refine State.fireOwners_frame w2 ?_
    | with_reducible refine State.raise_frame w3 ?_
    | with_reducible refine Frame.ite ?_ ?_
    | with_reducible refine Frame.foldl ?_ _ _ ?_
    | split
    | with_reducible refine Frame.of_snd (by with_reducible assumption) ?_
    | with_reducible refine Frame.of_fst (by with_reducible assumption) ?_
    | with_reducible refine Frame.snd_mk ?_
    | with_reducible refine Frame.fst_mk ?_

end Sys2Proof.Machine
end

