-- ==== Sys2Proof/Laws/Perf.lean ====
section
/-! SUPPORT. What the operations of Machine/Perf.lean change: each differs from its argument in the areas of its mask alone. -/

set_option linter.all false

namespace Sys2Proof.Machine

def State.perfEvent_mask : Nat := 0xc000000000000000000000000000000000000000000000000000000000000000000000000000000000000000
theorem State.perfEvent_frame {W : Nat} {s0 s : State} {c : Nat} {ev : Nat} {n : Nat} (hW : Within State.perfEvent_mask W) (h : Frame W s0 s) :
    Frame W s0 (State.perfEvent s c ev n) := by
  have b350 := hW.bit (n := 350) (by decide)
  have b351 := hW.bit (n := 351) (by decide)
  unfold State.perfEvent
  repeat' first
    | intro _
    | with_reducible assumption
    | (extract_lets +onlyGivenNames x; refine Frame.cut (W := W) (s0 := s0) x ?_ ?_; unfold x; clear x; rotate_left; clear_value x; revert x; intro _ _)
    | (extract_lets +onlyGivenNames x; clear_value x; revert x; intro _)
    | with_reducible refine State.set64_frame (F.PERF_COUNT_LO_count_kind _ _) b350 (F.PERF_COUNT_HI_count_kind _ _) b351 ?_
    | with_reducible refine State.each_frame ?_ ?_
    | with_reducible refine Frame.ite ?_ ?_
    | with_reducible refine Frame.foldl ?_ _ _ ?_
    | split
    | with_reducible refine Frame.of_snd (by with_reducible assumption) ?_
    | with_reducible refine Frame.of_fst (by with_reducible assumption) ?_
    | with_reducible refine Frame.snd_mk ?_
    | with_reducible refine Frame.fst_mk ?_

def State.tick_mask : Nat := 0x3000000000000000000000000000000000000000000000000000000000000000000000000000000000000000
theorem State.tick_frame {W : Nat} {s0 s : State} {c : Nat} {n : Nat} (hW : Within State.tick_mask W) (h : Frame W s0 s) :
    Frame W s0 (State.tick s c n) := by
  have b348 := hW.bit (n := 348) (by decide)
  have b349 := hW.bit (n := 349) (by decide)
  unfold State.tick
  repeat' first
    | intro _
    | with_reducible assumption
    | (extract_lets +onlyGivenNames x; refine Frame.cut (W := W) (s0 := s0) x ?_ ?_; unfold x; clear x; rotate_left; clear_value x; revert x; intro _ _)
    | (extract_lets +onlyGivenNames x; clear_value x; revert x; intro _)
    | with_reducible refine State.set64_frame (F.PERF_TICK_LO_ticks_kind _) b348 (F.PERF_TICK_HI_ticks_kind _) b349 ?_
    | with_reducible refine Frame.ite ?_ ?_
    | with_reducible refine Frame.foldl ?_ _ _ ?_
    | split
    | with_reducible refine Frame.of_snd (by with_reducible assumption) ?_
    | with_reducible refine Frame.of_fst (by with_reducible assumption) ?_
    | with_reducible refine Frame.snd_mk ?_
    | with_reducible refine Frame.fst_mk ?_

def State.storeTag_mask : Nat := 0x3e00000000000000000000000000000000000000000000000000000000000000000000000000000000004000000
theorem State.storeTag_frame {W : Nat} {s0 s : State} {c : Nat} {offset : Nat} {cls : Nat} {op : Nat} {part : Nat} {leg : Nat} {issue : Nat} {complete : Nat} {reason : Nat} {waited : Nat} (hW : Within State.storeTag_mask W) (h : Frame W s0 s) :
    Frame W s0 (State.storeTag s c offset cls op part leg issue complete reason waited) := by
  have b359 := hW.bit (n := 359) (by decide)
  have b360 := hW.bit (n := 360) (by decide)
  have b361 := hW.bit (n := 361) (by decide)
  have b358 := hW.bit (n := 358) (by decide)
  have b357 := hW.bit (n := 357) (by decide)
  have b26 := hW.bit (n := 26) (by decide)
  unfold State.storeTag
  repeat' first
    | intro _
    | with_reducible assumption
    | (extract_lets +onlyGivenNames x; refine Frame.cut (W := W) (s0 := s0) x ?_ ?_; unfold x; clear x; rotate_left; clear_value x; revert x; intro _ _)
    | (extract_lets +onlyGivenNames x; clear_value x; revert x; intro _)
    | with_reducible refine State.set_frame (F.PERF_TAG_B_issue_kind _ _) b359 ?_
    | with_reducible refine State.set_frame (F.PERF_TAG_B_leg_kind _ _) b359 ?_
    | with_reducible refine State.set_frame (F.PERF_TAG_C_complete_kind _ _) b360 ?_
    | with_reducible refine State.set_frame (F.PERF_TAG_C_reason_kind _ _) b360 ?_
    | with_reducible refine State.set_frame (F.PERF_TAG_D_waited_kind _ _) b361 ?_
    | with_reducible refine State.set_frame (F.PERF_TAG_D_period_kind _ _) b361 ?_
    | with_reducible refine State.set_frame (F.PERF_TAG_A_offset_kind _ _) b358 ?_
    | with_reducible refine State.set_frame (F.PERF_TAG_A_class_kind _ _) b358 ?_
    | with_reducible refine State.set_frame (F.PERF_TAG_A_op_kind _ _) b358 ?_
    | with_reducible refine State.set_frame (F.PERF_TAG_A_partition_kind _ _) b358 ?_
    | with_reducible refine State.set_frame (F.PERF_TAG_A_valid_kind _ _) b358 ?_
    | with_reducible refine State.inc_frame (F.PERF_TAG_COUNT_taken_kind _) b357 ?_
    | with_reducible refine State.inc_frame (F.PERF_TAG_COUNT_overwritten_kind _) b357 ?_
    | with_reducible refine State.when_frame ?_ ?_
    | with_reducible refine Frame.ite ?_ ?_
    | with_reducible refine Frame.foldl ?_ _ _ ?_
    | split
    | with_reducible refine Frame.of_snd (by with_reducible assumption) ?_
    | with_reducible refine Frame.of_fst (by with_reducible assumption) ?_
    | with_reducible refine Frame.snd_mk ?_
    | with_reducible refine Frame.fst_mk ?_
    | with_reducible refine Frame.perf_upd b26 ?_

def State.tagWord_mask : Nat := 0x3e00000000000000000000000000000000000000000000000000000000000000000000000000000000005000000
theorem State.tagWord_frame {W : Nat} {s0 s : State} {c : Nat} {offset : Nat} {cls : Nat} {op : Nat} {leg : Nat} {issue : Nat} {complete : Nat} {reason : Nat} {waited : Nat} (hW : Within State.tagWord_mask W) (h : Frame W s0 s) :
    Frame W s0 (State.tagWord s c offset cls op leg issue complete reason waited) := by
  have w0 := Within.trans (a := State.drawEntropy_mask) rfl hW
  have w1 := Within.trans (a := State.storeTag_mask) rfl hW
  have b26 := hW.bit (n := 26) (by decide)
  unfold State.tagWord
  repeat' first
    | intro _
    | with_reducible assumption
    | (extract_lets +onlyGivenNames x; refine Frame.cut (W := W) (s0 := s0) x ?_ ?_; unfold x; clear x; rotate_left; clear_value x; revert x; intro _ _)
    | (extract_lets +onlyGivenNames x; clear_value x; revert x; intro _)
    | with_reducible refine State.storeTag_frame w1 ?_
    | with_reducible refine State.drawEntropy_snd w0 ?_
    | with_reducible refine Frame.ite ?_ ?_
    | with_reducible refine Frame.foldl ?_ _ _ ?_
    | split
    | with_reducible refine State.drawEntropy_frame (by with_reducible assumption) w0 ?_
    | with_reducible refine Frame.of_snd (by with_reducible assumption) ?_
    | with_reducible refine Frame.of_fst (by with_reducible assumption) ?_
    | with_reducible refine Frame.snd_mk ?_
    | with_reducible refine Frame.fst_mk ?_
    | with_reducible refine Frame.perf_upd b26 ?_

def State.takeSnapshot_mask : Nat := 0x1e0480000000000000000000000000000000000000000000000000000000000000000000000000000000000000
theorem State.takeSnapshot_frame {W : Nat} {s0 s : State} (hW : Within State.takeSnapshot_mask W) (h : Frame W s0 s) :
    Frame W s0 (State.takeSnapshot s) := by
  have b354 := hW.bit (n := 354) (by decide)
  have b353 := hW.bit (n := 353) (by decide)
  have b356 := hW.bit (n := 356) (by decide)
  have b355 := hW.bit (n := 355) (by decide)
  have b343 := hW.bit (n := 343) (by decide)
  have b346 := hW.bit (n := 346) (by decide)
  unfold State.takeSnapshot
  repeat' first
    | intro _
    | with_reducible assumption
    | (extract_lets +onlyGivenNames x; refine Frame.cut (W := W) (s0 := s0) x ?_ ?_; unfold x; clear x; rotate_left; clear_value x; revert x; intro _ _)
    | (extract_lets +onlyGivenNames x; clear_value x; revert x; intro _)
    | with_reducible refine State.set_frame (F.PERF_SNAP_TICK_HI_ticks_kind _) b354 ?_
    | with_reducible refine State.set_frame (F.PERF_SNAP_TICK_LO_ticks_kind _) b353 ?_
    | with_reducible refine State.set_frame (F.PERF_SNAP_HI_count_kind _ _) b356 ?_
    | with_reducible refine State.set_frame (F.PERF_SNAP_LO_count_kind _ _) b355 ?_
    | with_reducible refine State.set_frame (F.PERF_STATUS_snapshot_pending_kind) b343 ?_
    | with_reducible refine State.set_frame (F.PERF_STATUS_snapshot_valid_kind) b343 ?_
    | with_reducible refine State.set_frame (F.PERF_SNAP_PERIOD_number_kind) b346 ?_
    | with_reducible refine State.each_frame ?_ ?_
    | with_reducible refine Frame.ite ?_ ?_
    | with_reducible refine Frame.foldl ?_ _ _ ?_
    | split
    | with_reducible refine Frame.of_snd (by with_reducible assumption) ?_
    | with_reducible refine Frame.of_fst (by with_reducible assumption) ?_
    | with_reducible refine Frame.snd_mk ?_
    | with_reducible refine Frame.fst_mk ?_

def State.perfBoundary_mask : Nat := 0x1fc480000000000000000000000000000000000000000000000000000000000000000000000000000004000000
theorem State.perfBoundary_frame {W : Nat} {s0 s : State} (hW : Within State.perfBoundary_mask W) (h : Frame W s0 s) :
    Frame W s0 (State.perfBoundary s) := by
  have b26 := hW.bit (n := 26) (by decide)
  have b352 := hW.bit (n := 352) (by decide)
  have b350 := hW.bit (n := 350) (by decide)
  have b351 := hW.bit (n := 351) (by decide)
  have b343 := hW.bit (n := 343) (by decide)
  have w5 := Within.trans (a := State.takeSnapshot_mask) rfl hW
  unfold State.perfBoundary
  repeat' first
    | intro _
    | with_reducible assumption
    | (extract_lets +onlyGivenNames x; refine Frame.cut (W := W) (s0 := s0) x ?_ ?_; unfold x; clear x; rotate_left; clear_value x; revert x; intro _ _)
    | (extract_lets +onlyGivenNames x; clear_value x; revert x; intro _)
    | with_reducible refine State.set_frame (F.PERF_EVENT_partitions_kind _ _) b352 ?_
    | with_reducible refine State.set_frame (F.PERF_EVENT_event_kind _ _) b352 ?_
    | with_reducible refine State.set64_frame (F.PERF_COUNT_LO_count_kind _ _) b350 (F.PERF_COUNT_HI_count_kind _ _) b351 ?_
    | with_reducible refine State.set_frame (F.PERF_STATUS_pending_kind) b343 ?_
    | with_reducible refine State.when_frame ?_ ?_
    | with_reducible refine State.takeSnapshot_frame w5 ?_
    | with_reducible refine State.each_frame ?_ ?_
    | with_reducible refine Frame.ite ?_ ?_
    | with_reducible refine Frame.foldl ?_ _ _ ?_
    | split
    | with_reducible refine Frame.of_snd (by with_reducible assumption) ?_
    | with_reducible refine Frame.of_fst (by with_reducible assumption) ?_
    | with_reducible refine Frame.snd_mk ?_
    | with_reducible refine Frame.fst_mk ?_
    | with_reducible refine Frame.perf_upd b26 ?_

def State.perfCmd_mask : Nat := 0x206020000000000000000000000000000000000000000000000000000000000000000000000000022000000
theorem State.perfCmd_frame {W : Nat} {s0 s : State} {i : Port} {off : Nat} {f : State → State} (hW : Within State.perfCmd_mask W) (hf_f : ∀ s, Frame W s0 s → Frame W s0 (f s)) (h : Frame W s0 s) :
    Frame W s0 (State.perfCmd s i off f) := by
  have b345 := hW.bit (n := 345) (by decide)
  have w1 := Within.trans (a := State.raise_mask) rfl hW
  unfold State.perfCmd
  repeat' first
    | intro _
    | with_reducible assumption
    | (extract_lets +onlyGivenNames x; refine Frame.cut (W := W) (s0 := s0) x ?_ ?_; unfold x; clear x; rotate_left; clear_value x; revert x; intro _ _)
    | (extract_lets +onlyGivenNames x; clear_value x; revert x; intro _)
    | with_reducible refine State.set_frame (F.PERF_CMD_STATUS_code_kind _) b345 ?_
    | with_reducible refine State.raise_frame w1 ?_
    | with_reducible refine Frame.ite ?_ ?_
    | with_reducible apply hf_f
    | with_reducible refine Frame.foldl ?_ _ _ ?_
    | split
    | with_reducible refine Frame.of_snd (by with_reducible assumption) ?_
    | with_reducible refine Frame.of_fst (by with_reducible assumption) ?_
    | with_reducible refine Frame.snd_mk ?_
    | with_reducible refine Frame.fst_mk ?_

def execSnapshot_mask : Nat := 0x286020000000000000800000000005000000000000000000000000000000000000000000000000022008000
theorem execSnapshot_frame {s nx : State} {i : Port} (e : execSnapshot i s = .next nx) : Frame execSnapshot_mask s nx := by
  refine State.run_frame rfl (fun W s0 s hW h => ?_) e
  have b343 := hW.bit (n := 343) (by decide)
  have w1 := Within.trans (a := State.perfCmd_mask) rfl hW
  repeat' first
    | intro _
    | with_reducible assumption
    | (extract_lets +onlyGivenNames x; refine Frame.cut (W := W) (s0 := s0) x ?_ ?_; unfold x; clear x; rotate_left; clear_value x; revert x; intro _ _)
    | (extract_lets +onlyGivenNames x; clear_value x; revert x; intro _)
    | with_reducible refine State.set_frame (F.PERF_STATUS_snapshot_pending_kind) b343 ?_
    | with_reducible refine State.perfCmd_frame w1 ?_ ?_
    | with_reducible refine Frame.ite ?_ ?_
    | with_reducible refine Frame.foldl ?_ _ _ ?_
    | split
    | with_reducible refine Frame.of_snd (by with_reducible assumption) ?_
    | with_reducible refine Frame.of_fst (by with_reducible assumption) ?_

def execTagOn_mask : Nat := 0x286020000000000000800000000005000000000000000000000000000000000000000000000000026008000
theorem execTagOn_frame {s nx : State} {i : Port} (e : execTagOn i s = .next nx) : Frame execTagOn_mask s nx := by
  refine State.run_frame rfl (fun W s0 s hW h => ?_) e
  have b26 := hW.bit (n := 26) (by decide)
  have b343 := hW.bit (n := 343) (by decide)
  have w2 := Within.trans (a := State.perfCmd_mask) rfl hW
  repeat' first
    | intro _
    | with_reducible assumption
    | (extract_lets +onlyGivenNames x; refine Frame.cut (W := W) (s0 := s0) x ?_ ?_; unfold x; clear x; rotate_left; clear_value x; revert x; intro _ _)
    | (extract_lets +onlyGivenNames x; clear_value x; revert x; intro _)
    | with_reducible refine State.set_frame (F.PERF_STATUS_tagging_kind) b343 ?_
    | with_reducible refine State.perfCmd_frame w2 ?_ ?_
    | with_reducible refine Frame.ite ?_ ?_
    | with_reducible refine Frame.foldl ?_ _ _ ?_
    | split
    | with_reducible refine Frame.of_snd (by with_reducible assumption) ?_
    | with_reducible refine Frame.of_fst (by with_reducible assumption) ?_
    | with_reducible refine Frame.perf_upd b26 ?_

def execTagOff_mask : Nat := 0x286020000000000000800000000005000000000000000000000000000000000000000000000000022008000
theorem execTagOff_frame {s nx : State} {i : Port} (e : execTagOff i s = .next nx) : Frame execTagOff_mask s nx := by
  refine State.run_frame rfl (fun W s0 s hW h => ?_) e
  have b343 := hW.bit (n := 343) (by decide)
  have w1 := Within.trans (a := State.perfCmd_mask) rfl hW
  repeat' first
    | intro _
    | with_reducible assumption
    | (extract_lets +onlyGivenNames x; refine Frame.cut (W := W) (s0 := s0) x ?_ ?_; unfold x; clear x; rotate_left; clear_value x; revert x; intro _ _)
    | (extract_lets +onlyGivenNames x; clear_value x; revert x; intro _)
    | with_reducible refine State.set_frame (F.PERF_STATUS_tagging_kind) b343 ?_
    | with_reducible refine State.perfCmd_frame w1 ?_ ?_
    | with_reducible refine Frame.ite ?_ ?_
    | with_reducible refine Frame.foldl ?_ _ _ ?_
    | split
    | with_reducible refine Frame.of_snd (by with_reducible assumption) ?_
    | with_reducible refine Frame.of_fst (by with_reducible assumption) ?_

def execPerfEventWrite_mask : Nat := 0x86020000000000000800000000005000000000000000000000000000000000000000000000000026008000
theorem execPerfEventWrite_frame {s nx : State} {i : Port} {c : CoreId} {k : Fin 8} {v : BitVec 16} (e : execPerfEventWrite i c k v s = .next nx) : Frame execPerfEventWrite_mask s nx := by
  refine State.run_frame rfl (fun W s0 s hW h => ?_) e
  have b26 := hW.bit (n := 26) (by decide)
  have b343 := hW.bit (n := 343) (by decide)
  have w2 := Within.trans (a := State.raise_mask) rfl hW
  repeat' first
    | intro _
    | with_reducible assumption
    | (extract_lets +onlyGivenNames x; refine Frame.cut (W := W) (s0 := s0) x ?_ ?_; unfold x; clear x; rotate_left; clear_value x; revert x; intro _ _)
    | (extract_lets +onlyGivenNames x; clear_value x; revert x; intro _)
    | with_reducible refine State.set_frame (F.PERF_STATUS_pending_kind) b343 ?_
    | with_reducible refine State.raise_frame w2 ?_
    | with_reducible refine Frame.ite ?_ ?_
    | with_reducible refine Frame.foldl ?_ _ _ ?_
    | split
    | with_reducible refine Frame.of_snd (by with_reducible assumption) ?_
    | with_reducible refine Frame.of_fst (by with_reducible assumption) ?_
    | with_reducible refine Frame.perf_upd b26 ?_

def execBwWindowEnd_mask : Nat := 0x78000000000000000000000800000000005000000000000000000000000000000000000000000000000004008000
theorem execBwWindowEnd_frame {s nx : State} {i : Port} (e : execBwWindowEnd i s = .next nx) : Frame execBwWindowEnd_mask s nx := by
  refine State.run_frame rfl (fun W s0 s hW h => ?_) e
  have b26 := hW.bit (n := 26) (by decide)
  have b364 := hW.bit (n := 364) (by decide)
  have b363 := hW.bit (n := 363) (by decide)
  have b366 := hW.bit (n := 366) (by decide)
  have b365 := hW.bit (n := 365) (by decide)
  repeat' first
    | intro _
    | with_reducible assumption
    | (extract_lets +onlyGivenNames x; refine Frame.cut (W := W) (s0 := s0) x ?_ ?_; unfold x; clear x; rotate_left; clear_value x; revert x; intro _ _)
    | (extract_lets +onlyGivenNames x; clear_value x; revert x; intro _)
    | with_reducible refine State.set_frame (F.PERF_BW_OUT_units_kind _) b364 ?_
    | with_reducible refine State.set_frame (F.PERF_BW_IN_units_kind _) b363 ?_
    | with_reducible refine State.set_frame (F.PERF_BW_PEAK_OUT_units_kind _) b366 ?_
    | with_reducible refine State.set_frame (F.PERF_BW_PEAK_IN_units_kind _) b365 ?_
    | with_reducible refine Frame.ite ?_ ?_
    | with_reducible refine Frame.foldl ?_ _ _ ?_
    | split
    | with_reducible refine Frame.of_snd (by with_reducible assumption) ?_
    | with_reducible refine Frame.of_fst (by with_reducible assumption) ?_
    | with_reducible refine Frame.perf_upd b26 ?_

def State.bwInAdd_mask : Nat := 0x4000000
theorem State.bwInAdd_frame {W : Nat} {s0 s : State} {i : Nat} {n : Nat} (hW : Within State.bwInAdd_mask W) (h : Frame W s0 s) :
    Frame W s0 (State.bwInAdd s i n) := by
  have b26 := hW.bit (n := 26) (by decide)
  unfold State.bwInAdd
  repeat' first
    | intro _
    | with_reducible assumption
    | (extract_lets +onlyGivenNames x; refine Frame.cut (W := W) (s0 := s0) x ?_ ?_; unfold x; clear x; rotate_left; clear_value x; revert x; intro _ _)
    | (extract_lets +onlyGivenNames x; clear_value x; revert x; intro _)
    | with_reducible refine Frame.ite ?_ ?_
    | with_reducible refine Frame.foldl ?_ _ _ ?_
    | split
    | with_reducible refine Frame.of_snd (by with_reducible assumption) ?_
    | with_reducible refine Frame.of_fst (by with_reducible assumption) ?_
    | with_reducible refine Frame.snd_mk ?_
    | with_reducible refine Frame.fst_mk ?_
    | with_reducible refine Frame.perf_upd b26 ?_

def State.bwOutAdd_mask : Nat := 0x4000000
theorem State.bwOutAdd_frame {W : Nat} {s0 s : State} {i : Nat} {n : Nat} (hW : Within State.bwOutAdd_mask W) (h : Frame W s0 s) :
    Frame W s0 (State.bwOutAdd s i n) := by
  have b26 := hW.bit (n := 26) (by decide)
  unfold State.bwOutAdd
  repeat' first
    | intro _
    | with_reducible assumption
    | (extract_lets +onlyGivenNames x; refine Frame.cut (W := W) (s0 := s0) x ?_ ?_; unfold x; clear x; rotate_left; clear_value x; revert x; intro _ _)
    | (extract_lets +onlyGivenNames x; clear_value x; revert x; intro _)
    | with_reducible refine Frame.ite ?_ ?_
    | with_reducible refine Frame.foldl ?_ _ _ ?_
    | split
    | with_reducible refine Frame.of_snd (by with_reducible assumption) ?_
    | with_reducible refine Frame.of_fst (by with_reducible assumption) ?_
    | with_reducible refine Frame.snd_mk ?_
    | with_reducible refine Frame.fst_mk ?_
    | with_reducible refine Frame.perf_upd b26 ?_

end Sys2Proof.Machine
end

