-- ==== Sys2Proof/Laws/Zld.lean ====
section
/-! SUPPORT. What the operations of Machine/Zld.lean change: each differs from its argument in the areas of its mask alone. -/

set_option linter.all false

namespace Sys2Proof.Machine

def State.zldResult_mask : Nat := 0x800000000000000
theorem State.zldResult_frame {W : Nat} {s0 s : State} {i : Port} {code : Nat} {sec : Nat} {item : Nat} (hW : Within State.zldResult_mask W) (h : Frame W s0 s) :
    Frame W s0 (State.zldResult s i code sec item) := by
  have b59 := hW.bit (n := 59) (by decide)
  unfold State.zldResult
  repeat' first
    | intro _
    | with_reducible assumption
    | (extract_lets +onlyGivenNames x; refine Frame.cut (W := W) (s0 := s0) x ?_ ?_; unfold x; clear x; rotate_left; clear_value x; revert x; intro _ _)
    | (extract_lets +onlyGivenNames x; clear_value x; revert x; intro _)
    | with_reducible refine State.set_frame (F.ZLD_RESULT_item_kind _) b59 ?_
    | with_reducible refine State.set_frame (F.ZLD_RESULT_section_kind _) b59 ?_
    | with_reducible refine State.set_frame (F.ZLD_RESULT_code_kind _) b59 ?_
    | with_reducible refine Frame.ite ?_ ?_
    | with_reducible refine Frame.foldl ?_ _ _ ?_
    | split
    | with_reducible refine Frame.of_snd (by with_reducible assumption) ?_
    | with_reducible refine Frame.of_fst (by with_reducible assumption) ?_
    | with_reducible refine Frame.snd_mk ?_
    | with_reducible refine Frame.fst_mk ?_

def State.zldBad_mask : Nat := 0x6020000000000000000000000000000000000000000000000000000000000000000000800000022000000
theorem State.zldBad_frame {W : Nat} {s0 s : State} {i : Port} {cmd : Nat} (hW : Within State.zldBad_mask W) (h : Frame W s0 s) :
    Frame W s0 (State.zldBad s i cmd) := by
  have w0 := Within.trans (a := State.zldResult_mask) rfl hW
  have w1 := Within.trans (a := State.raise_mask) rfl hW
  unfold State.zldBad
  repeat' first
    | intro _
    | with_reducible assumption
    | (extract_lets +onlyGivenNames x; refine Frame.cut (W := W) (s0 := s0) x ?_ ?_; unfold x; clear x; rotate_left; clear_value x; revert x; intro _ _)
    | (extract_lets +onlyGivenNames x; clear_value x; revert x; intro _)
    | with_reducible refine State.zldResult_frame w0 ?_
    | with_reducible refine State.raise_frame w1 ?_
    | with_reducible refine Frame.ite ?_ ?_
    | with_reducible refine Frame.foldl ?_ _ _ ?_
    | split
    | with_reducible refine Frame.of_snd (by with_reducible assumption) ?_
    | with_reducible refine Frame.of_fst (by with_reducible assumption) ?_
    | with_reducible refine Frame.snd_mk ?_
    | with_reducible refine Frame.fst_mk ?_

def State.emptyFull_mask : Nat := 0x10
theorem State.emptyFull_frame {W : Nat} {s0 s : State} (hW : Within State.emptyFull_mask W) (h : Frame W s0 s) :
    Frame W s0 (State.emptyFull s) := by
  have b4 := hW.bit (n := 4) (by decide)
  unfold State.emptyFull
  repeat' first
    | intro _
    | with_reducible assumption
    | (extract_lets +onlyGivenNames x; refine Frame.cut (W := W) (s0 := s0) x ?_ ?_; unfold x; clear x; rotate_left; clear_value x; revert x; intro _ _)
    | (extract_lets +onlyGivenNames x; clear_value x; revert x; intro _)
    | with_reducible refine Frame.ite ?_ ?_
    | with_reducible refine Frame.foldl ?_ _ _ ?_
    | split
    | with_reducible refine Frame.of_snd (by with_reducible assumption) ?_
    | with_reducible refine Frame.of_fst (by with_reducible assumption) ?_
    | with_reducible refine Frame.snd_mk ?_
    | with_reducible refine Frame.fst_mk ?_
    | with_reducible refine Frame.flash_upd b4 ?_

def State.slotWrite_mask : Nat := 0x10
theorem State.slotWrite_frame {W : Nat} {s0 s : State} {img : ImageFile} {v : Option ImageFile} (hW : Within State.slotWrite_mask W) (h : Frame W s0 s) :
    Frame W s0 (State.slotWrite s img v) := by
  have b4 := hW.bit (n := 4) (by decide)
  unfold State.slotWrite
  repeat' first
    | intro _
    | with_reducible assumption
    | (extract_lets +onlyGivenNames x; refine Frame.cut (W := W) (s0 := s0) x ?_ ?_; unfold x; clear x; rotate_left; clear_value x; revert x; intro _ _)
    | (extract_lets +onlyGivenNames x; clear_value x; revert x; intro _)
    | with_reducible refine Frame.ite ?_ ?_
    | with_reducible refine Frame.foldl ?_ _ _ ?_
    | split
    | with_reducible refine Frame.of_snd (by with_reducible assumption) ?_
    | with_reducible refine Frame.of_fst (by with_reducible assumption) ?_
    | with_reducible refine Frame.snd_mk ?_
    | with_reducible refine Frame.fst_mk ?_
    | with_reducible refine Frame.flash_upd b4 ?_

def State.zldEnd_mask : Nat := 0x6020000000000000000000000000000000000000000000000000000000000000000000040000022000014
theorem State.zldEnd_frame {W : Nat} {s0 s : State} {cause : Nat} (hW : Within State.zldEnd_mask W) (h : Frame W s0 s) :
    Frame W s0 (State.zldEnd s cause) := by
  have b54 := hW.bit (n := 54) (by decide)
  have w0 := Within.trans (a := State.slotWrite_mask) rfl hW
  have w1 := Within.trans (a := State.emptyFull_mask) rfl hW
  have w2 := Within.trans (a := State.raise_mask) rfl hW
  have b2 := hW.bit (n := 2) (by decide)
  unfold State.zldEnd
  repeat' first
    | intro _
    | with_reducible assumption
    | (extract_lets +onlyGivenNames x; refine Frame.cut (W := W) (s0 := s0) x ?_ ?_; unfold x; clear x; rotate_left; clear_value x; revert x; intro _ _)
    | (extract_lets +onlyGivenNames x; clear_value x; revert x; intro _)
    | with_reducible refine State.set_frame (F.ZLD_STATUS_state_kind) b54 ?_
    | with_reducible refine State.set_frame (F.ZLD_STATUS_session_port_kind) b54 ?_
    | with_reducible refine State.slotWrite_frame w0 ?_
    | with_reducible refine State.emptyFull_frame w1 ?_
    | with_reducible refine State.raise_frame w2 ?_
    | with_reducible refine Frame.ite ?_ ?_
    | with_reducible refine Frame.foldl ?_ _ _ ?_
    | split
    | with_reducible refine Frame.of_snd (by with_reducible assumption) ?_
    | with_reducible refine Frame.of_fst (by with_reducible assumption) ?_
    | with_reducible refine Frame.snd_mk ?_
    | with_reducible refine Frame.fst_mk ?_
    | with_reducible refine Frame.zld_upd b2 ?_

def execOpen_mask : Nat := 0x6020000000000000800000000005000000000000000000000000000000000000000000c40000022008004
theorem execOpen_frame {s nx : State} {i : Port} (e : execOpen i s = .next nx) : Frame execOpen_mask s nx := by
  refine State.run_frame rfl (fun W s0 s hW h => ?_) e
  have b2 := hW.bit (n := 2) (by decide)
  have b58 := hW.bit (n := 58) (by decide)
  have b54 := hW.bit (n := 54) (by decide)
  have w3 := Within.trans (a := State.zldResult_mask) rfl hW
  have w4 := Within.trans (a := State.raise_mask) rfl hW
  repeat' first
    | intro _
    | with_reducible assumption
    | (extract_lets +onlyGivenNames x; refine Frame.cut (W := W) (s0 := s0) x ?_ ?_; unfold x; clear x; rotate_left; clear_value x; revert x; intro _ _)
    | (extract_lets +onlyGivenNames x; clear_value x; revert x; intro _)
    | with_reducible refine State.set_frame (F.ZLD_PROGRESS_bytes_kind) b58 ?_
    | with_reducible refine State.set_frame (F.ZLD_STATUS_session_port_kind) b54 ?_
    | with_reducible refine State.set_frame (F.ZLD_STATUS_state_kind) b54 ?_
    | with_reducible refine State.zldResult_frame w3 ?_
    | with_reducible refine State.raise_frame w4 ?_
    | with_reducible refine Frame.ite ?_ ?_
    | with_reducible refine Frame.foldl ?_ _ _ ?_
    | split
    | with_reducible refine Frame.of_snd (by with_reducible assumption) ?_
    | with_reducible refine Frame.of_fst (by with_reducible assumption) ?_
    | with_reducible refine Frame.zld_upd b2 ?_

def execFetch_mask : Nat := 0x6020000000000000800000000005000000000000000000000000000000000000000000c40000022008004
theorem execFetch_frame {s nx : State} {i : Port} {img : ImageFile} (e : execFetch i img s = .next nx) : Frame execFetch_mask s nx := by
  refine State.run_frame rfl (fun W s0 s hW h => ?_) e
  have b2 := hW.bit (n := 2) (by decide)
  have b58 := hW.bit (n := 58) (by decide)
  have b54 := hW.bit (n := 54) (by decide)
  have w3 := Within.trans (a := State.zldBad_mask) rfl hW
  repeat' first
    | intro _
    | with_reducible assumption
    | (extract_lets +onlyGivenNames x; refine Frame.cut (W := W) (s0 := s0) x ?_ ?_; unfold x; clear x; rotate_left; clear_value x; revert x; intro _ _)
    | (extract_lets +onlyGivenNames x; clear_value x; revert x; intro _)
    | with_reducible refine State.set_frame (F.ZLD_PROGRESS_bytes_kind) b58 ?_
    | with_reducible refine State.set_frame (F.ZLD_STATUS_state_kind) b54 ?_
    | with_reducible refine State.zldBad_frame w3 ?_
    | with_reducible refine Frame.ite ?_ ?_
    | with_reducible refine Frame.foldl ?_ _ _ ?_
    | split
    | with_reducible refine Frame.of_snd (by with_reducible assumption) ?_
    | with_reducible refine Frame.of_fst (by with_reducible assumption) ?_
    | with_reducible refine Frame.zld_upd b2 ?_

def execFetchDone_mask : Nat := 0x6020000000000000800000000005000000000000000000000000000000000000000000c40000023008010
theorem execFetchDone_frame {s nx : State} (e : execFetchDone s = .next nx) : Frame execFetchDone_mask s nx := by
  refine State.run_frame rfl (fun W s0 s hW h => ?_) e
  have b54 := hW.bit (n := 54) (by decide)
  have b58 := hW.bit (n := 58) (by decide)
  have w0 := Within.trans (a := State.draw_mask) rfl hW
  have w1 := Within.trans (a := State.raise_mask) rfl hW
  have w2 := Within.trans (a := State.zldResult_mask) rfl hW
  have w3 := Within.trans (a := State.fireAll_mask) rfl hW
  have w4 := Within.trans (a := State.slotWrite_mask) rfl hW
  repeat' first
    | intro _
    | with_reducible assumption
    | (extract_lets +onlyGivenNames x; refine Frame.cut (W := W) (s0 := s0) x ?_ ?_; unfold x; clear x; rotate_left; clear_value x; revert x; intro _ _)
    | (extract_lets +onlyGivenNames x; clear_value x; revert x; intro _)
    | with_reducible refine State.set_frame (F.ZLD_STATUS_state_kind) b54 ?_
    | with_reducible refine State.set_frame (F.ZLD_PROGRESS_bytes_kind) b58 ?_
    | with_reducible refine State.raise_frame w1 ?_
    | with_reducible refine State.zldResult_frame w2 ?_
    | with_reducible refine State.fireAll_frame w3 ?_
    | with_reducible refine State.slotWrite_frame w4 ?_
    | with_reducible refine State.draw_snd w0 ?_
    | with_reducible refine Frame.ite ?_ ?_
    | with_reducible refine Frame.foldl ?_ _ _ ?_
    | split
    | with_reducible refine State.draw_frame (by with_reducible assumption) w0 ?_
    | with_reducible refine Frame.of_snd (by with_reducible assumption) ?_
    | with_reducible refine Frame.of_fst (by with_reducible assumption) ?_
    | with_reducible refine Frame.snd_mk ?_
    | with_reducible refine Frame.fst_mk ?_

def execAbort_mask : Nat := 0x6020000000000000800000000005000000000000000000000000000000000000000000840000022008014
theorem execAbort_frame {s nx : State} {i : Port} (e : execAbort i s = .next nx) : Frame execAbort_mask s nx := by
  refine State.run_frame rfl (fun W s0 s hW h => ?_) e
  have w0 := Within.trans (a := State.zldResult_mask) rfl hW
  have w1 := Within.trans (a := State.zldEnd_mask) rfl hW
  have w2 := Within.trans (a := State.zldBad_mask) rfl hW
  repeat' first
    | intro _
    | with_reducible assumption
    | (extract_lets +onlyGivenNames x; refine Frame.cut (W := W) (s0 := s0) x ?_ ?_; unfold x; clear x; rotate_left; clear_value x; revert x; intro _ _)
    | (extract_lets +onlyGivenNames x; clear_value x; revert x; intro _)
    | with_reducible refine State.zldResult_frame w0 ?_
    | with_reducible refine State.zldEnd_frame w1 ?_
    | with_reducible refine State.zldBad_frame w2 ?_
    | with_reducible refine Frame.ite ?_ ?_
    | with_reducible refine Frame.foldl ?_ _ _ ?_
    | split
    | with_reducible refine Frame.of_snd (by with_reducible assumption) ?_
    | with_reducible refine Frame.of_fst (by with_reducible assumption) ?_

def execZldSessionTimeout_mask : Nat := 0x6020000000000000800000000005000000000000000000000000000000000000000000040000022008014
theorem execZldSessionTimeout_frame {s nx : State} (e : execZldSessionTimeout s = .next nx) : Frame execZldSessionTimeout_mask s nx := by
  refine State.run_frame rfl (fun W s0 s hW h => ?_) e
  have w0 := Within.trans (a := State.zldEnd_mask) rfl hW
  repeat' first
    | intro _
    | with_reducible assumption
    | (extract_lets +onlyGivenNames x; refine Frame.cut (W := W) (s0 := s0) x ?_ ?_; unfold x; clear x; rotate_left; clear_value x; revert x; intro _ _)
    | (extract_lets +onlyGivenNames x; clear_value x; revert x; intro _)
    | with_reducible refine State.zldEnd_frame w0 ?_
    | with_reducible refine Frame.ite ?_ ?_
    | with_reducible refine Frame.foldl ?_ _ _ ?_
    | split
    | with_reducible refine Frame.of_snd (by with_reducible assumption) ?_
    | with_reducible refine Frame.of_fst (by with_reducible assumption) ?_

end Sys2Proof.Machine
end

