-- ==== Sys2Proof/Laws/Landing.lean ====
section
/-! SUPPORT. What the operations of Machine/Landing.lean change: each differs from its argument in the areas of its mask alone. -/

set_option linter.all false

namespace Sys2Proof.Machine

def State.reworkAll_mask : Nat := 0x200
theorem State.reworkAll_frame {W : Nat} {s0 s : State} {p : Nat} {n : Nat} {a : Nat} {b : Nat} {sel : Iter → Bool} (hW : Within State.reworkAll_mask W) (h : Frame W s0 s) :
    Frame W s0 (State.reworkAll s p n a b sel) := by
  have b9 := hW.bit (n := 9) (by decide)
  unfold State.reworkAll
  repeat' first
    | intro _
    | with_reducible assumption
    | (extract_lets +onlyGivenNames x; refine Frame.cut (W := W) (s0 := s0) x ?_ ?_; unfold x; clear x; rotate_left; clear_value x; revert x; intro _ _)
    | (extract_lets +onlyGivenNames x; refine Frame.cutF (W := W) (s0 := s0) x ?_ ?_; unfold x; clear x; rotate_left; clear_value x; revert x; intro _ _)
    | (extract_lets +onlyGivenNames x; refine Frame.cutG (W := W) (s0 := s0) x ?_ ?_; unfold x; clear x; rotate_left; clear_value x; revert x; intro _ _)
    | (extract_lets +onlyGivenNames x; refine Frame.cutN (W := W) (s0 := s0) x ?_ ?_; unfold x; clear x; rotate_left; clear_value x; revert x; intro _ _)
    | (extract_lets +onlyGivenNames x; refine Frame.cutH (W := W) (s0 := s0) x ?_ ?_; unfold x; clear x; rotate_left; clear_value x; revert x; intro _ _)
    | (extract_lets +onlyGivenNames x; refine Frame.cutI (W := W) (s0 := s0) x ?_ ?_; unfold x; clear x; rotate_left; clear_value x; revert x; intro _ _)
    | (extract_lets +onlyGivenNames x; clear_value x; revert x; intro _)
    | with_reducible refine Frame.ite ?_ ?_
    | with_reducible refine Frame.foldl ?_ _ _ ?_
    | split
    | with_reducible refine Frame.of_snd (by with_reducible assumption) ?_
    | with_reducible refine Frame.of_fst (by with_reducible assumption) ?_
    | with_reducible refine Frame.snd_mk ?_
    | with_reducible refine Frame.fst_mk ?_
    | with_reducible refine Frame.route_upd b9 ?_
    | solve_by_elim

def State.carrySequences_mask : Nat := 0x400
theorem State.carrySequences_frame {W : Nat} {s0 s : State} {p : Nat} {a : Nat} {b : Nat} {live : Bool} (hW : Within State.carrySequences_mask W) (h : Frame W s0 s) :
    Frame W s0 (State.carrySequences s p a b live) := by
  have w0 := Within.trans (a := State.setPool_mask) rfl hW
  unfold State.carrySequences
  repeat' first
    | intro _
    | with_reducible assumption
    | (extract_lets +onlyGivenNames x; refine Frame.cut (W := W) (s0 := s0) x ?_ ?_; unfold x; clear x; rotate_left; clear_value x; revert x; intro _ _)
    | (extract_lets +onlyGivenNames x; clear_value x; revert x; intro _)
    | with_reducible refine State.setPool_frame w0 ?_
    | with_reducible refine Frame.ite ?_ ?_
    | with_reducible refine Frame.foldl ?_ _ _ ?_
    | split
    | with_reducible refine Frame.of_snd (by with_reducible assumption) ?_
    | with_reducible refine Frame.of_fst (by with_reducible assumption) ?_
    | with_reducible refine Frame.snd_mk ?_
    | with_reducible refine Frame.fst_mk ?_
    | with_reducible refine Frame.foldl_snd ?_ _ _ ?_
    | with_reducible refine Frame.foldl_fst ?_ _ _ ?_
    | with_reducible refine Frame.foldr_snd ?_ _ _ ?_
    | with_reducible refine Frame.Snd.mk ?_
    | with_reducible refine Frame.Fst.mk ?_
    | dsimp only

def State.takeLandings_mask : Nat := 0x604
theorem State.takeLandings_frame {W : Nat} {s0 s : State} {n : Nat} (hW : Within State.takeLandings_mask W) (h : Frame W s0 s) :
    Frame W s0 (State.takeLandings s n) := by
  have w0 := Within.trans (a := State.reworkAll_mask) rfl hW
  have w1 := Within.trans (a := State.carrySequences_mask) rfl hW
  have b2 := hW.bit (n := 2) (by decide)
  unfold State.takeLandings
  repeat' first
    | intro _
    | with_reducible assumption
    | (extract_lets +onlyGivenNames x; refine Frame.cut (W := W) (s0 := s0) x ?_ ?_; unfold x; clear x; rotate_left; clear_value x; revert x; intro _ _)
    | (extract_lets +onlyGivenNames x; clear_value x; revert x; intro _)
    | with_reducible refine State.reworkAll_frame w0 ?_
    | with_reducible refine State.carrySequences_frame w1 ?_
    | with_reducible refine State.each_frame ?_ ?_
    | with_reducible refine Frame.ite ?_ ?_
    | with_reducible refine Frame.foldl ?_ _ _ ?_
    | split
    | with_reducible refine Frame.of_snd (by with_reducible assumption) ?_
    | with_reducible refine Frame.of_fst (by with_reducible assumption) ?_
    | with_reducible refine Frame.snd_mk ?_
    | with_reducible refine Frame.fst_mk ?_
    | with_reducible refine Frame.zld_upd b2 ?_

def State.untake_mask : Nat := 0x600
theorem State.untake_frame {W : Nat} {s0 s : State} {p : Nat} (hW : Within State.untake_mask W) (h : Frame W s0 s) :
    Frame W s0 (State.untake s p) := by
  have w0 := Within.trans (a := State.reworkAll_mask) rfl hW
  have w1 := Within.trans (a := State.carrySequences_mask) rfl hW
  have b9 := hW.bit (n := 9) (by decide)
  unfold State.untake
  repeat' first
    | intro _
    | with_reducible assumption
    | (extract_lets +onlyGivenNames x; refine Frame.cut (W := W) (s0 := s0) x ?_ ?_; unfold x; clear x; rotate_left; clear_value x; revert x; intro _ _)
    | (extract_lets +onlyGivenNames x; clear_value x; revert x; intro _)
    | with_reducible refine State.reworkAll_frame w0 ?_
    | with_reducible refine State.carrySequences_frame w1 ?_
    | with_reducible refine Frame.ite ?_ ?_
    | with_reducible refine Frame.foldl ?_ _ _ ?_
    | split
    | with_reducible refine Frame.of_snd (by with_reducible assumption) ?_
    | with_reducible refine Frame.of_fst (by with_reducible assumption) ?_
    | with_reducible refine Frame.snd_mk ?_
    | with_reducible refine Frame.fst_mk ?_
    | with_reducible refine Frame.route_upd b9 ?_

def State.showArmed_mask : Nat := 0x40000000000000
theorem State.showArmed_frame {W : Nat} {s0 s : State} (hW : Within State.showArmed_mask W) (h : Frame W s0 s) :
    Frame W s0 (State.showArmed s) := by
  have b54 := hW.bit (n := 54) (by decide)
  unfold State.showArmed
  repeat' first
    | intro _
    | with_reducible assumption
    | (extract_lets +onlyGivenNames x; refine Frame.cut (W := W) (s0 := s0) x ?_ ?_; unfold x; clear x; rotate_left; clear_value x; revert x; intro _ _)
    | (extract_lets +onlyGivenNames x; clear_value x; revert x; intro _)
    | with_reducible refine State.set_frame (F.ZLD_STATUS_armed_kind) b54 ?_
    | with_reducible refine State.setB_frame (F.ZLD_STATUS_full_armed_kind) b54 ?_
    | with_reducible refine Frame.ite ?_ ?_
    | with_reducible refine Frame.foldl ?_ _ _ ?_
    | split
    | with_reducible refine Frame.of_snd (by with_reducible assumption) ?_
    | with_reducible refine Frame.of_fst (by with_reducible assumption) ?_
    | with_reducible refine Frame.snd_mk ?_
    | with_reducible refine Frame.fst_mk ?_

def State.arm_mask : Nat := 0x40000000000004
theorem State.arm_frame {W : Nat} {s0 s : State} {a : Armed} (hW : Within State.arm_mask W) (h : Frame W s0 s) :
    Frame W s0 (State.arm s a) := by
  have b2 := hW.bit (n := 2) (by decide)
  have w1 := Within.trans (a := State.showArmed_mask) rfl hW
  unfold State.arm
  repeat' first
    | intro _
    | with_reducible assumption
    | (extract_lets +onlyGivenNames x; refine Frame.cut (W := W) (s0 := s0) x ?_ ?_; unfold x; clear x; rotate_left; clear_value x; revert x; intro _ _)
    | (extract_lets +onlyGivenNames x; clear_value x; revert x; intro _)
    | with_reducible refine State.showArmed_frame w1 ?_
    | with_reducible refine Frame.ite ?_ ?_
    | with_reducible refine Frame.foldl ?_ _ _ ?_
    | split
    | with_reducible refine Frame.of_snd (by with_reducible assumption) ?_
    | with_reducible refine Frame.of_fst (by with_reducible assumption) ?_
    | with_reducible refine Frame.snd_mk ?_
    | with_reducible refine Frame.fst_mk ?_
    | with_reducible refine Frame.zld_upd b2 ?_

def State.armPartial_mask : Nat := 0x6020000000000000000000000000000000000000000000000000000000000000000000040000022000604
theorem State.armPartial_frame {W : Nat} {s0 s : State} {img : ImageFile} {slot : Nat} (hW : Within State.armPartial_mask W) (h : Frame W s0 s) :
    Frame W s0 (State.armPartial s img slot) := by
  have b2 := hW.bit (n := 2) (by decide)
  have w1 := Within.trans (a := State.untake_mask) rfl hW
  have w2 := Within.trans (a := State.raise_mask) rfl hW
  have w3 := Within.trans (a := State.arm_mask) rfl hW
  unfold State.armPartial
  repeat' first
    | intro _
    | with_reducible assumption
    | (extract_lets +onlyGivenNames x; refine Frame.cut (W := W) (s0 := s0) x ?_ ?_; unfold x; clear x; rotate_left; clear_value x; revert x; intro _ _)
    | (extract_lets +onlyGivenNames x; clear_value x; revert x; intro _)
    | with_reducible refine State.untake_frame w1 ?_
    | with_reducible refine State.raise_frame w2 ?_
    | with_reducible refine State.arm_frame w3 ?_
    | with_reducible refine Frame.ite ?_ ?_
    | with_reducible refine Frame.foldl ?_ _ _ ?_
    | split
    | with_reducible refine Frame.of_snd (by with_reducible assumption) ?_
    | with_reducible refine Frame.of_fst (by with_reducible assumption) ?_
    | with_reducible refine Frame.snd_mk ?_
    | with_reducible refine Frame.fst_mk ?_
    | with_reducible refine Frame.zld_upd b2 ?_

def State.disarm_mask : Nat := 0x40000000000604
theorem State.disarm_frame {W : Nat} {s0 s : State} (hW : Within State.disarm_mask W) (h : Frame W s0 s) :
    Frame W s0 (State.disarm s) := by
  have b2 := hW.bit (n := 2) (by decide)
  have w1 := Within.trans (a := State.untake_mask) rfl hW
  have w2 := Within.trans (a := State.showArmed_mask) rfl hW
  unfold State.disarm
  repeat' first
    | intro _
    | with_reducible assumption
    | (extract_lets +onlyGivenNames x; refine Frame.cut (W := W) (s0 := s0) x ?_ ?_; unfold x; clear x; rotate_left; clear_value x; revert x; intro _ _)
    | (extract_lets +onlyGivenNames x; clear_value x; revert x; intro _)
    | with_reducible refine State.each_frame ?_ ?_
    | with_reducible refine State.untake_frame w1 ?_
    | with_reducible refine State.showArmed_frame w2 ?_
    | with_reducible refine Frame.ite ?_ ?_
    | with_reducible refine Frame.foldl ?_ _ _ ?_
    | split
    | with_reducible refine Frame.of_snd (by with_reducible assumption) ?_
    | with_reducible refine Frame.of_fst (by with_reducible assumption) ?_
    | with_reducible refine Frame.snd_mk ?_
    | with_reducible refine Frame.fst_mk ?_
    | with_reducible refine Frame.zld_upd b2 ?_

def State.adoptFull_mask : Nat := 0xe000000000000001
theorem State.adoptFull_frame {W : Nat} {s0 s : State} {build : Nat} (hW : Within State.adoptFull_mask W) (h : Frame W s0 s) :
    Frame W s0 (State.adoptFull s build) := by
  have b0 := hW.bit (n := 0) (by decide)
  have b61 := hW.bit (n := 61) (by decide)
  have b62 := hW.bit (n := 62) (by decide)
  have b63 := hW.bit (n := 63) (by decide)
  unfold State.adoptFull
  repeat' first
    | intro _
    | with_reducible assumption
    | (extract_lets +onlyGivenNames x; refine Frame.cut (W := W) (s0 := s0) x ?_ ?_; unfold x; clear x; rotate_left; clear_value x; revert x; intro _ _)
    | (extract_lets +onlyGivenNames x; clear_value x; revert x; intro _)
    | with_reducible refine State.set_frame (F.ZLD_BUILD_build_kind) b61 ?_
    | with_reducible refine State.set_frame (F.ZLD_DIGEST_word_kind _) b62 ?_
    | with_reducible refine State.set_frame (F.ZLD_OVERLAY_build_kind _) b63 ?_
    | with_reducible refine State.set_frame (F.ZLD_OVERLAY_slot_kind _) b63 ?_
    | with_reducible refine State.set_frame (F.ZLD_OVERLAY_present_kind _) b63 ?_
    | with_reducible refine State.each_frame ?_ ?_
    | with_reducible refine Frame.ite ?_ ?_
    | with_reducible refine Frame.foldl ?_ _ _ ?_
    | split
    | with_reducible refine Frame.of_snd (by with_reducible assumption) ?_
    | with_reducible refine Frame.of_fst (by with_reducible assumption) ?_
    | with_reducible refine Frame.snd_mk ?_
    | with_reducible refine Frame.fst_mk ?_
    | with_reducible refine Frame.cfg_upd b0 ?_

def State.armFull_mask : Nat := 0x40000000000604
theorem State.armFull_frame {W : Nat} {s0 s : State} {img : ImageFile} {y : SafetySec} (hW : Within State.armFull_mask W) (h : Frame W s0 s) :
    Frame W s0 (State.armFull s img y) := by
  have b54 := hW.bit (n := 54) (by decide)
  have w0 := Within.trans (a := State.disarm_mask) rfl hW
  have w1 := Within.trans (a := State.arm_mask) rfl hW
  unfold State.armFull
  repeat' first
    | intro _
    | with_reducible assumption
    | (extract_lets +onlyGivenNames x; refine Frame.cut (W := W) (s0 := s0) x ?_ ?_; unfold x; clear x; rotate_left; clear_value x; revert x; intro _ _)
    | (extract_lets +onlyGivenNames x; clear_value x; revert x; intro _)
    | with_reducible refine State.set_frame (F.ZLD_STATUS_restart_pending_kind) b54 ?_
    | with_reducible refine State.disarm_frame w0 ?_
    | with_reducible refine State.arm_frame w1 ?_
    | with_reducible refine State.each_frame ?_ ?_
    | with_reducible refine Frame.ite ?_ ?_
    | with_reducible refine Frame.foldl ?_ _ _ ?_
    | split
    | with_reducible refine Frame.of_snd (by with_reducible assumption) ?_
    | with_reducible refine Frame.of_fst (by with_reducible assumption) ?_
    | with_reducible refine Frame.snd_mk ?_
    | with_reducible refine Frame.fst_mk ?_

def State.commitRefused_mask : Nat := 0x6020000000000000000000000000000000000000000000000000000000000000000000800000022000000
theorem State.commitRefused_frame {W : Nat} {s0 s : State} {i : Port} {f : Failure} (hW : Within State.commitRefused_mask W) (h : Frame W s0 s) :
    Frame W s0 (State.commitRefused s i f) := by
  have w0 := Within.trans (a := State.zldResult_mask) rfl hW
  have w1 := Within.trans (a := State.raise_mask) rfl hW
  unfold State.commitRefused
  repeat' first
    | intro _
    | with_reducible assumption
    | (extract_lets +onlyGivenNames x; refine Frame.cut (W := W) (s0 := s0) x ?_ ?_; unfold x; clear x; rotate_left; clear_value x; revert x; intro _ _)
    | (extract_lets +onlyGivenNames x; clear_value x; revert x; intro _)
    | with_reducible refine State.zldResult_frame w0 ?_
    | with_reducible refine State.raise_frame w1 ?_
    | with_reducible refine Frame.ite ?_ ?_
    | with_reducible refine Frame.foldl ?_ _ _ ?_
    | split
    | with_reducible refine Frame.of_snd (by with_reducible assumption) ?_
    | with_reducible refine Frame.of_fst (by with_reducible assumption) ?_
    | with_reducible refine Frame.snd_mk ?_
    | with_reducible refine Frame.fst_mk ?_

def State.followCommit_mask : Nat := 0x6020000000000000000000000000000000000000000000000000000000000000000000040000022000604
theorem State.followCommit_frame {W : Nat} {s0 s : State} {img : ImageFile} {slot : Nat} (hW : Within State.followCommit_mask W)
    (h : Frame W s0 s) : Frame W s0 (State.followCommit s img slot) := by
  have b54 := hW.bit (n := 54) (by decide)
  have w9 := Within.trans (a := State.armFull_mask) rfl hW
  have w10 := Within.trans (a := State.disarm_mask) rfl hW
  have w11 := Within.trans (a := State.armPartial_mask) rfl hW
  have restart : ∀ x, Frame W s0 x → Frame W s0 (x.set F.ZLD_STATUS_restart_pending 1) := fun x hx =>
    State.set_frame (F.ZLD_STATUS_restart_pending_kind) b54 hx
  have part : Frame W s0 (if s.liveUpkeep then s.armPartial img slot else s.set F.ZLD_STATUS_restart_pending 1) :=
    Frame.ite (State.armPartial_frame w11 h) (restart _ h)
  unfold State.followCommit
  split
  · exact Frame.ite (State.armFull_frame w9 h) (restart _ (State.disarm_frame w10 h))
  · exact part

def execCommit_mask : Nat := 0x6020000000000000880000000005000000000000000000000000000000000000001a2184000002200863c
theorem execCommit_frame {s nx : State} {i : Port} (e : execCommit i s = .next nx) : Frame execCommit_mask s nx := by
  refine State.run_frame rfl (fun W s0 s hW h => ?_) e
  have b4 := hW.bit (n := 4) (by decide)
  have b2 := hW.bit (n := 2) (by decide)
  have b54 := hW.bit (n := 54) (by decide)
  have w3 := Within.trans (a := State.zldBad_mask) rfl hW
  have w4 := Within.trans (a := State.zldResult_mask) rfl hW
  have w5 := Within.trans (a := State.raise_mask) rfl hW
  have w6 := Within.trans (a := State.commitRefused_mask) rfl hW
  have w7 := Within.trans (a := State.spend_mask) rfl hW
  have w8 := Within.trans (a := State.keepWrite_mask) rfl hW
  have w9 := Within.trans (a := State.followCommit_mask) rfl hW
  have w12 := Within.trans (a := State.fireAll_mask) rfl hW
  repeat' first
    | intro _
    | with_reducible assumption
    | exact ⟨Nat.le_refl _, Nat.le_of_lt (by assumption), Nat.le_refl _, Nat.le_refl _⟩
    | (extract_lets +onlyGivenNames x; refine Frame.cut (W := W) (s0 := s0) x ?_ ?_; unfold x; clear x; rotate_left; clear_value x; revert x; intro _ _)
    | (extract_lets +onlyGivenNames x; clear_value x; revert x; intro _)
    | with_reducible refine State.set_frame (F.ZLD_STATUS_session_port_kind) b54 ?_
    | with_reducible refine State.set_frame (F.ZLD_STATUS_state_kind) b54 ?_
    | with_reducible refine State.set_frame (F.ZLD_STATUS_restart_pending_kind) b54 ?_
    | with_reducible refine State.zldBad_frame w3 ?_
    | with_reducible refine State.zldResult_frame w4 ?_
    | with_reducible refine State.raise_frame w5 ?_
    | with_reducible refine State.commitRefused_frame w6 ?_
    | with_reducible refine State.spend_frame w7 ?_ ?_
    | exact ⟨Nat.le_refl _, Nat.le_refl _, Nat.le_refl _, Nat.le_refl _⟩
    | exact ⟨Nat.sub_le _ _, Nat.le_refl _, Nat.le_refl _, Nat.le_refl _⟩
    | exact ⟨Nat.le_refl _, Nat.le_refl _, Nat.le_refl _, Nat.sub_le _ _⟩
    | exact ⟨Nat.le_refl _, Nat.le_refl _, Nat.sub_le _ _, Nat.le_refl _⟩
    | with_reducible refine State.keepWrite_frame w8 ?_ ?_
    | with_reducible refine State.followCommit_frame w9 ?_
    | with_reducible refine State.fireAll_frame w12 ?_
    | with_reducible refine Frame.foldl ?_ _ _ ?_
    | split
    | with_reducible refine Frame.of_snd (by with_reducible assumption) ?_
    | with_reducible refine Frame.of_fst (by with_reducible assumption) ?_
    | with_reducible refine Frame.flash_upd b4 ?_
    | with_reducible refine Frame.zld_upd b2 ?_

end Sys2Proof.Machine
end

