-- ==== Sys2Proof/Laws/Peer.lean ====
section
/-! SUPPORT. What the operations of Machine/Peer.lean change: each differs from its argument in the areas of its mask alone. -/

set_option linter.all false

namespace Sys2Proof.Machine

theorem sideUpField_kind (k : Nat) : regKind (sideUpField k).key = 264 := by
  unfold sideUpField; split
  · exact F.PEER_STATUS_west_up_kind
  · exact F.PEER_STATUS_east_up_kind

def State.setSide_mask : Nat := 0x20000
theorem State.setSide_frame {W : Nat} {s0 s : State} {k : Nat} {x : PeerSide} (hW : Within State.setSide_mask W) (h : Frame W s0 s) :
    Frame W s0 (State.setSide s k x) := by
  have b17 := hW.bit (n := 17) (by decide)
  unfold State.setSide
  repeat' first
    | intro _
    | with_reducible assumption
    | (extract_lets +onlyGivenNames x; refine Frame.cut (W := W) (s0 := s0) x ?_ ?_; unfold x; clear x; rotate_left; clear_value x; revert x; intro _ _)
    | (extract_lets +onlyGivenNames x; clear_value x; revert x; intro _)
    | with_reducible refine Frame.ite ?_ ?_
    | with_reducible refine Frame.foldl ?_ _ _ ?_
    | split
    | with_reducible refine Frame.of_snd (by with_reducible assumption) ?_
    | with_reducible refine Frame.of_fst (by with_reducible assumption) ?_
    | with_reducible refine Frame.snd_mk ?_
    | with_reducible refine Frame.fst_mk ?_
    | with_reducible refine Frame.peer_upd b17 ?_

def State.peerOut_mask : Nat := 0x20000
theorem State.peerOut_frame {W : Nat} {s0 s : State} {k : Nat} {seq : Option Nat} {m : PeerMsg} (hW : Within State.peerOut_mask W) (h : Frame W s0 s) :
    Frame W s0 (State.peerOut s k seq m) := by
  have b17 := hW.bit (n := 17) (by decide)
  unfold State.peerOut
  repeat' first
    | intro _
    | with_reducible assumption
    | (extract_lets +onlyGivenNames x; refine Frame.cut (W := W) (s0 := s0) x ?_ ?_; unfold x; clear x; rotate_left; clear_value x; revert x; intro _ _)
    | (extract_lets +onlyGivenNames x; clear_value x; revert x; intro _)
    | with_reducible refine Frame.ite ?_ ?_
    | with_reducible refine Frame.foldl ?_ _ _ ?_
    | split
    | with_reducible refine Frame.of_snd (by with_reducible assumption) ?_
    | with_reducible refine Frame.of_fst (by with_reducible assumption) ?_
    | with_reducible refine Frame.snd_mk ?_
    | with_reducible refine Frame.fst_mk ?_
    | with_reducible refine Frame.peer_upd b17 ?_

def State.sendHello_mask : Nat := 0x20000
theorem State.sendHello_frame {W : Nat} {s0 s : State} {k : Nat} {lane : Nat} (hW : Within State.sendHello_mask W) (h : Frame W s0 s) :
    Frame W s0 (State.sendHello s k lane) := by
  have b17 := hW.bit (n := 17) (by decide)
  unfold State.sendHello
  repeat' first
    | intro _
    | with_reducible assumption
    | (extract_lets +onlyGivenNames x; refine Frame.cut (W := W) (s0 := s0) x ?_ ?_; unfold x; clear x; rotate_left; clear_value x; revert x; intro _ _)
    | (extract_lets +onlyGivenNames x; clear_value x; revert x; intro _)
    | with_reducible refine Frame.ite ?_ ?_
    | with_reducible refine Frame.foldl ?_ _ _ ?_
    | split
    | with_reducible refine Frame.of_snd (by with_reducible assumption) ?_
    | with_reducible refine Frame.of_fst (by with_reducible assumption) ?_
    | with_reducible refine Frame.snd_mk ?_
    | with_reducible refine Frame.fst_mk ?_
    | with_reducible refine Frame.peer_upd b17 ?_

def State.peerPump_mask : Nat := 0x20000
theorem State.peerPump_frame {W : Nat} {s0 s : State} {k : Nat} {fuel : Nat} (hW : Within State.peerPump_mask W) (h : Frame W s0 s) :
    Frame W s0 (State.peerPump s k fuel) := by
  have w0 := Within.trans (a := State.setSide_mask) rfl hW
  have w1 := Within.trans (a := State.peerOut_mask) rfl hW
  induction fuel generalizing s with
  | zero =>
    unfold State.peerPump
    repeat' first
      | intro _
      | with_reducible assumption
      | (extract_lets +onlyGivenNames x; refine Frame.cut (W := W) (s0 := s0) x ?_ ?_; unfold x; clear x; rotate_left; clear_value x; revert x; intro _ _)
      | (extract_lets +onlyGivenNames x; clear_value x; revert x; intro _)
      | with_reducible refine State.setSide_frame w0 ?_
      | with_reducible refine State.peerOut_frame w1 ?_
      | with_reducible refine Frame.ite ?_ ?_
      | with_reducible refine Frame.foldl ?_ _ _ ?_
      | split
      | with_reducible refine Frame.of_snd (by with_reducible assumption) ?_
      | with_reducible refine Frame.of_fst (by with_reducible assumption) ?_
      | with_reducible refine Frame.snd_mk ?_
      | with_reducible refine Frame.fst_mk ?_
  | succ fuel ih =>
    unfold State.peerPump
    repeat' first
      | intro _
      | with_reducible assumption
      | with_reducible refine ih ?_
      | (extract_lets +onlyGivenNames x; refine Frame.cut (W := W) (s0 := s0) x ?_ ?_; unfold x; clear x; rotate_left; clear_value x; revert x; intro _ _)
      | (extract_lets +onlyGivenNames x; clear_value x; revert x; intro _)
      | with_reducible refine State.setSide_frame w0 ?_
      | with_reducible refine State.peerOut_frame w1 ?_
      | with_reducible refine Frame.ite ?_ ?_
      | with_reducible refine Frame.foldl ?_ _ _ ?_
      | split
      | with_reducible refine Frame.of_snd (by with_reducible assumption) ?_
      | with_reducible refine Frame.of_fst (by with_reducible assumption) ?_
      | with_reducible refine Frame.snd_mk ?_
      | with_reducible refine Frame.fst_mk ?_

def State.peerSend_mask : Nat := 0x20000000000000000000000000000000000000000000000000000000000000020000
theorem State.peerSend_frame {W : Nat} {s0 s : State} {k : Nat} {m : PeerMsg} (hW : Within State.peerSend_mask W) (h : Frame W s0 s) :
    Frame W s0 (State.peerSend s k m) := by
  have b269 := hW.bit (n := 269) (by decide)
  have w1 := Within.trans (a := State.setSide_mask) rfl hW
  have w2 := Within.trans (a := State.peerPump_mask) rfl hW
  unfold State.peerSend
  repeat' first
    | intro _
    | with_reducible assumption
    | (extract_lets +onlyGivenNames x; refine Frame.cut (W := W) (s0 := s0) x ?_ ?_; unfold x; clear x; rotate_left; clear_value x; revert x; intro _ _)
    | (extract_lets +onlyGivenNames x; clear_value x; revert x; intro _)
    | with_reducible refine State.inc_frame (F.PEER_RESEND_no_credit_kind _) b269 ?_
    | with_reducible refine State.setSide_frame w1 ?_
    | with_reducible refine State.peerPump_frame w2 ?_
    | with_reducible refine Frame.ite ?_ ?_
    | with_reducible refine Frame.foldl ?_ _ _ ?_
    | split
    | with_reducible refine Frame.of_snd (by with_reducible assumption) ?_
    | with_reducible refine Frame.of_fst (by with_reducible assumption) ?_
    | with_reducible refine Frame.snd_mk ?_
    | with_reducible refine Frame.fst_mk ?_

def State.sideComesUp_mask : Nat := 0x6020000000000000003000000000000000000000000000000000000000000000002020000000022020000
theorem State.sideComesUp_frame {W : Nat} {s0 s : State} {k : Nat} {h_ : Hello} (hW : Within State.sideComesUp_mask W) (h : Frame W s0 s) :
    Frame W s0 (State.sideComesUp s k h_) := by
  have b265 := hW.bit (n := 265) (by decide)
  have b264 := hW.bit (n := 264) (by decide)
  have w2 := Within.trans (a := State.setSide_mask) rfl hW
  have w3 := Within.trans (a := State.checkBooted_mask) rfl hW
  have w4 := Within.trans (a := State.peerOut_mask) rfl hW
  have w5 := Within.trans (a := State.raise_mask) rfl hW
  unfold State.sideComesUp
  repeat' first
    | intro _
    | with_reducible assumption
    | (extract_lets +onlyGivenNames x; refine Frame.cut (W := W) (s0 := s0) x ?_ ?_; unfold x; clear x; rotate_left; clear_value x; revert x; intro _ _)
    | (extract_lets +onlyGivenNames x; clear_value x; revert x; intro _)
    | with_reducible refine State.set_frame (F.PEER_SIDE_node_kind _) b265 ?_
    | with_reducible refine State.set_frame (F.PEER_SIDE_state_kind _) b265 ?_
    | with_reducible refine State.set_frame (sideUpField_kind _) b264 ?_
    | with_reducible refine State.setSide_frame w2 ?_
    | with_reducible refine State.checkBooted_frame w3 ?_
    | with_reducible refine State.peerOut_frame w4 ?_
    | with_reducible refine State.raise_frame w5 ?_
    | with_reducible refine Frame.ite ?_ ?_
    | with_reducible refine Frame.foldl ?_ _ _ ?_
    | split
    | with_reducible refine Frame.of_snd (by with_reducible assumption) ?_
    | with_reducible refine Frame.of_fst (by with_reducible assumption) ?_
    | with_reducible refine Frame.snd_mk ?_
    | with_reducible refine Frame.fst_mk ?_

def State.sideGoesDown_mask : Nat := 0x6020000000000000003000000000000000000000000000000000000000000000000000000000022020000
theorem State.sideGoesDown_frame {W : Nat} {s0 s : State} {k : Nat} {state : Nat} (hW : Within State.sideGoesDown_mask W) (h : Frame W s0 s) :
    Frame W s0 (State.sideGoesDown s k state) := by
  have b265 := hW.bit (n := 265) (by decide)
  have b264 := hW.bit (n := 264) (by decide)
  have w2 := Within.trans (a := State.setSide_mask) rfl hW
  have w3 := Within.trans (a := State.raise_mask) rfl hW
  unfold State.sideGoesDown
  repeat' first
    | intro _
    | with_reducible assumption
    | (extract_lets +onlyGivenNames x; refine Frame.cut (W := W) (s0 := s0) x ?_ ?_; unfold x; clear x; rotate_left; clear_value x; revert x; intro _ _)
    | (extract_lets +onlyGivenNames x; clear_value x; revert x; intro _)
    | with_reducible refine State.set_frame (F.PEER_SIDE_state_kind _) b265 ?_
    | with_reducible refine State.set_frame (sideUpField_kind _) b264 ?_
    | with_reducible refine State.setSide_frame w2 ?_
    | with_reducible refine State.raise_frame w3 ?_
    | with_reducible refine Frame.ite ?_ ?_
    | with_reducible refine Frame.foldl ?_ _ _ ?_
    | split
    | with_reducible refine Frame.of_snd (by with_reducible assumption) ?_
    | with_reducible refine Frame.of_fst (by with_reducible assumption) ?_
    | with_reducible refine Frame.snd_mk ?_
    | with_reducible refine Frame.fst_mk ?_

def State.peerViolation_mask : Nat := 0x6020000000000000000000000000000000000000000000000000000000000000000000000000022000000
theorem State.peerViolation_frame {W : Nat} {s0 s : State} {k : Nat} {reason : Nat} (hW : Within State.peerViolation_mask W) (h : Frame W s0 s) :
    Frame W s0 (State.peerViolation s k reason) := by
  have w0 := Within.trans (a := State.raise_mask) rfl hW
  unfold State.peerViolation
  repeat' first
    | intro _
    | with_reducible assumption
    | (extract_lets +onlyGivenNames x; refine Frame.cut (W := W) (s0 := s0) x ?_ ?_; unfold x; clear x; rotate_left; clear_value x; revert x; intro _ _)
    | (extract_lets +onlyGivenNames x; clear_value x; revert x; intro _)
    | with_reducible refine State.raise_frame w0 ?_
    | with_reducible refine Frame.ite ?_ ?_
    | with_reducible refine Frame.foldl ?_ _ _ ?_
    | split
    | with_reducible refine Frame.of_snd (by with_reducible assumption) ?_
    | with_reducible refine Frame.of_fst (by with_reducible assumption) ?_
    | with_reducible refine Frame.snd_mk ?_
    | with_reducible refine Frame.fst_mk ?_

def execHello_mask : Nat := 0x6020000000000000823000000005000000000000000000000000000000000004002020000000022028020
theorem execHello_frame {s nx : State} {side : Fin 2} {head : PeerHead} {h1 : Hello} (e : execHello side head h1 s = .next nx) : Frame execHello_mask s nx := by
  refine State.run_frame rfl (fun W s0 s hW h => ?_) e
  have b269 := hW.bit (n := 269) (by decide)
  have b265 := hW.bit (n := 265) (by decide)
  have w0 := Within.trans (a := State.bridgeFull_mask) rfl hW
  have w1 := Within.trans (a := State.peerViolation_mask) rfl hW
  have w2 := Within.trans (a := State.peerOut_mask) rfl hW
  have w3 := Within.trans (a := State.sideGoesDown_mask) rfl hW
  have w4 := Within.trans (a := State.sendHello_mask) rfl hW
  have w5 := Within.trans (a := State.bootTrainFail_mask) rfl hW
  have w6 := Within.trans (a := State.setSide_mask) rfl hW
  have w7 := Within.trans (a := State.sideComesUp_mask) rfl hW
  repeat' first
    | intro _
    | with_reducible assumption
    | (extract_lets +onlyGivenNames x; refine Frame.cut (W := W) (s0 := s0) x ?_ ?_; unfold x; clear x; rotate_left; clear_value x; revert x; intro _ _)
    | (extract_lets +onlyGivenNames x; clear_value x; revert x; intro _)
    | with_reducible refine State.inc_frame (F.PEER_RESEND_naks_kind _) b269 ?_
    | with_reducible refine State.set_frame (F.PEER_SIDE_state_kind _) b265 ?_
    | with_reducible refine State.bridgeFull_frame w0 ?_
    | with_reducible refine State.peerViolation_frame w1 ?_
    | with_reducible refine State.peerOut_frame w2 ?_
    | with_reducible refine State.sideGoesDown_frame w3 ?_
    | with_reducible refine State.sendHello_frame w4 ?_
    | with_reducible refine State.bootTrainFail_frame w5 ?_
    | with_reducible refine State.setSide_frame w6 ?_
    | with_reducible refine State.sideComesUp_frame w7 ?_
    | with_reducible refine Frame.ite ?_ ?_
    | with_reducible refine Frame.foldl ?_ _ _ ?_
    | split
    | with_reducible refine Frame.of_snd (by with_reducible assumption) ?_
    | with_reducible refine Frame.of_fst (by with_reducible assumption) ?_
    | with_reducible refine Frame.snd_mk ?_
    | with_reducible refine Frame.fst_mk ?_

def execPeerHelloRetry_mask : Nat := 0x802000000005000000000000000000000000000000000000000000000000000028000
theorem execPeerHelloRetry_frame {s nx : State} {side : Fin 2} (e : execPeerHelloRetry side s = .next nx) : Frame execPeerHelloRetry_mask s nx := by
  refine State.run_frame rfl (fun W s0 s hW h => ?_) e
  have b265 := hW.bit (n := 265) (by decide)
  have w0 := Within.trans (a := State.sendHello_mask) rfl hW
  repeat' first
    | intro _
    | with_reducible assumption
    | (extract_lets +onlyGivenNames x; refine Frame.cut (W := W) (s0 := s0) x ?_ ?_; unfold x; clear x; rotate_left; clear_value x; revert x; intro _ _)
    | (extract_lets +onlyGivenNames x; clear_value x; revert x; intro _)
    | with_reducible refine State.set_frame (F.PEER_SIDE_state_kind _) b265 ?_
    | with_reducible refine State.sendHello_frame w0 ?_
    | with_reducible refine Frame.ite ?_ ?_
    | with_reducible refine Frame.foldl ?_ _ _ ?_
    | split
    | with_reducible refine Frame.of_snd (by with_reducible assumption) ?_
    | with_reducible refine Frame.of_fst (by with_reducible assumption) ?_
    | with_reducible refine Frame.snd_mk ?_
    | with_reducible refine Frame.fst_mk ?_

def execPeerDown_mask : Nat := 0x6020000000000000803000000005000000000000000000000000000000000000000000000000022028000
theorem execPeerDown_frame {s nx : State} {side : Fin 2} (e : execPeerDown side s = .next nx) : Frame execPeerDown_mask s nx := by
  refine State.run_frame rfl (fun W s0 s hW h => ?_) e
  have w0 := Within.trans (a := State.sideGoesDown_mask) rfl hW
  repeat' first
    | intro _
    | with_reducible assumption
    | (extract_lets +onlyGivenNames x; refine Frame.cut (W := W) (s0 := s0) x ?_ ?_; unfold x; clear x; rotate_left; clear_value x; revert x; intro _ _)
    | (extract_lets +onlyGivenNames x; clear_value x; revert x; intro _)
    | with_reducible refine State.sideGoesDown_frame w0 ?_
    | with_reducible refine Frame.ite ?_ ?_
    | with_reducible refine Frame.foldl ?_ _ _ ?_
    | split
    | with_reducible refine Frame.of_snd (by with_reducible assumption) ?_
    | with_reducible refine Frame.of_fst (by with_reducible assumption) ?_

def State.peerPacket_mask : Nat := 0x6020000000000000020000000000000000000000000000000000000000000004000000000000022020000
theorem State.peerPacket_frame {W : Nat} {s0 s : State} {k : Nat} {h1 : PeerHead} {f : State → State} (hW : Within State.peerPacket_mask W) (hf_f : ∀ s, Frame W s0 s → Frame W s0 (f s)) (h : Frame W s0 s) :
    Frame W s0 (State.peerPacket s k h1 f) := by
  have b269 := hW.bit (n := 269) (by decide)
  have w0 := Within.trans (a := State.bridgeFull_mask) rfl hW
  have w1 := Within.trans (a := State.peerViolation_mask) rfl hW
  have w2 := Within.trans (a := State.peerOut_mask) rfl hW
  have w3 := Within.trans (a := State.setSide_mask) rfl hW
  unfold State.peerPacket
  repeat' first
    | intro _
    | with_reducible assumption
    | (extract_lets +onlyGivenNames x; refine Frame.cut (W := W) (s0 := s0) x ?_ ?_; unfold x; clear x; rotate_left; clear_value x; revert x; intro _ _)
    | (extract_lets +onlyGivenNames x; refine Frame.cutF (W := W) (s0 := s0) x ?_ ?_; unfold x; clear x; rotate_left; clear_value x; revert x; intro _ _)
    | (extract_lets +onlyGivenNames x; refine Frame.cutG (W := W) (s0 := s0) x ?_ ?_; unfold x; clear x; rotate_left; clear_value x; revert x; intro _ _)
    | (extract_lets +onlyGivenNames x; refine Frame.cutN (W := W) (s0 := s0) x ?_ ?_; unfold x; clear x; rotate_left; clear_value x; revert x; intro _ _)
    | (extract_lets +onlyGivenNames x; refine Frame.cutH (W := W) (s0 := s0) x ?_ ?_; unfold x; clear x; rotate_left; clear_value x; revert x; intro _ _)
    | (extract_lets +onlyGivenNames x; refine Frame.cutI (W := W) (s0 := s0) x ?_ ?_; unfold x; clear x; rotate_left; clear_value x; revert x; intro _ _)
    | (extract_lets +onlyGivenNames x; clear_value x; revert x; intro _)
    | with_reducible refine State.inc_frame (F.PEER_RESEND_naks_kind _) b269 ?_
    | with_reducible refine State.bridgeFull_frame w0 ?_
    | with_reducible refine State.peerViolation_frame w1 ?_
    | with_reducible refine State.peerOut_frame w2 ?_
    | with_reducible refine State.setSide_frame w3 ?_
    | with_reducible refine Frame.ite ?_ ?_
    | with_reducible apply hf_f
    | with_reducible refine Frame.foldl ?_ _ _ ?_
    | split
    | with_reducible refine Frame.of_snd (by with_reducible assumption) ?_
    | with_reducible refine Frame.of_fst (by with_reducible assumption) ?_
    | with_reducible refine Frame.snd_mk ?_
    | with_reducible refine Frame.fst_mk ?_
    | solve_by_elim

def State.peerControl_mask : Nat := 0x6020000000000000020000000000000000000000000000000000000000000004000000000000022020000
theorem State.peerControl_frame {W : Nat} {s0 s : State} {k : Nat} {h1 : PeerHead} {f : State → State} (hW : Within State.peerControl_mask W) (hf_f : ∀ s, Frame W s0 s → Frame W s0 (f s)) (h : Frame W s0 s) :
    Frame W s0 (State.peerControl s k h1 f) := by
  have b269 := hW.bit (n := 269) (by decide)
  have w0 := Within.trans (a := State.bridgeFull_mask) rfl hW
  have w1 := Within.trans (a := State.peerViolation_mask) rfl hW
  have w2 := Within.trans (a := State.peerOut_mask) rfl hW
  unfold State.peerControl
  repeat' first
    | intro _
    | with_reducible assumption
    | (extract_lets +onlyGivenNames x; refine Frame.cut (W := W) (s0 := s0) x ?_ ?_; unfold x; clear x; rotate_left; clear_value x; revert x; intro _ _)
    | (extract_lets +onlyGivenNames x; clear_value x; revert x; intro _)
    | with_reducible refine State.inc_frame (F.PEER_RESEND_naks_kind _) b269 ?_
    | with_reducible refine State.bridgeFull_frame w0 ?_
    | with_reducible refine State.peerViolation_frame w1 ?_
    | with_reducible refine State.peerOut_frame w2 ?_
    | with_reducible refine Frame.ite ?_ ?_
    | with_reducible apply hf_f
    | with_reducible refine Frame.foldl ?_ _ _ ?_
    | split
    | with_reducible refine Frame.of_snd (by with_reducible assumption) ?_
    | with_reducible refine Frame.of_fst (by with_reducible assumption) ?_
    | with_reducible refine Frame.snd_mk ?_
    | with_reducible refine Frame.fst_mk ?_
    | solve_by_elim

def execAck_mask : Nat := 0x6020000000000000820000000005000000000000000000000000000000000004000000000000022028000
theorem execAck_frame {s nx : State} {side : Fin 2} {head : PeerHead} {seq : BitVec 16} (e : execAck side head seq s = .next nx) : Frame execAck_mask s nx := by
  refine State.run_frame rfl (fun W s0 s hW h => ?_) e
  have w0 := Within.trans (a := State.peerControl_mask) rfl hW
  have w1 := Within.trans (a := State.peerPump_mask) rfl hW
  have w2 := Within.trans (a := State.setSide_mask) rfl hW
  repeat' first
    | intro _
    | with_reducible assumption
    | (extract_lets +onlyGivenNames x; refine Frame.cut (W := W) (s0 := s0) x ?_ ?_; unfold x; clear x; rotate_left; clear_value x; revert x; intro _ _)
    | (extract_lets +onlyGivenNames x; clear_value x; revert x; intro _)
    | with_reducible refine State.peerControl_frame w0 ?_ ?_
    | with_reducible refine State.peerPump_frame w1 ?_
    | with_reducible refine State.setSide_frame w2 ?_
    | with_reducible refine Frame.ite ?_ ?_
    | with_reducible refine Frame.foldl ?_ _ _ ?_
    | split
    | with_reducible refine Frame.of_snd (by with_reducible assumption) ?_
    | with_reducible refine Frame.of_fst (by with_reducible assumption) ?_

def execPeerNak_mask : Nat := 0x6020000000000000820000000005000000000000000000000000000000000004000000000000022028000
theorem execPeerNak_frame {s nx : State} {side : Fin 2} {head : PeerHead} {seq : BitVec 16} (e : execPeerNak side head seq s = .next nx) : Frame execPeerNak_mask s nx := by
  refine State.run_frame rfl (fun W s0 s hW h => ?_) e
  have b269 := hW.bit (n := 269) (by decide)
  have w1 := Within.trans (a := State.peerControl_mask) rfl hW
  have w2 := Within.trans (a := State.peerOut_mask) rfl hW
  repeat' first
    | intro _
    | with_reducible assumption
    | (extract_lets +onlyGivenNames x; refine Frame.cut (W := W) (s0 := s0) x ?_ ?_; unfold x; clear x; rotate_left; clear_value x; revert x; intro _ _)
    | (extract_lets +onlyGivenNames x; clear_value x; revert x; intro _)
    | with_reducible refine State.inc_frame (F.PEER_RESEND_naks_kind _) b269 ?_
    | with_reducible refine State.peerControl_frame w1 ?_ ?_
    | with_reducible refine State.each_frame ?_ ?_
    | with_reducible refine State.peerOut_frame w2 ?_
    | with_reducible refine Frame.ite ?_ ?_
    | with_reducible refine Frame.foldl ?_ _ _ ?_
    | split
    | with_reducible refine Frame.of_snd (by with_reducible assumption) ?_
    | with_reducible refine Frame.of_fst (by with_reducible assumption) ?_

def execCredit_mask : Nat := 0x6020000000000000820000000005000000000000000000000000000000000004000000000000022028000
theorem execCredit_frame {s nx : State} {side : Fin 2} {head : PeerHead} {n : BitVec 16} (e : execCredit side head n s = .next nx) : Frame execCredit_mask s nx := by
  refine State.run_frame rfl (fun W s0 s hW h => ?_) e
  have w0 := Within.trans (a := State.peerControl_mask) rfl hW
  have w1 := Within.trans (a := State.peerPump_mask) rfl hW
  have w2 := Within.trans (a := State.setSide_mask) rfl hW
  repeat' first
    | intro _
    | with_reducible assumption
    | (extract_lets +onlyGivenNames x; refine Frame.cut (W := W) (s0 := s0) x ?_ ?_; unfold x; clear x; rotate_left; clear_value x; revert x; intro _ _)
    | (extract_lets +onlyGivenNames x; clear_value x; revert x; intro _)
    | with_reducible refine State.peerControl_frame w0 ?_ ?_
    | with_reducible refine State.peerPump_frame w1 ?_
    | with_reducible refine State.setSide_frame w2 ?_
    | with_reducible refine Frame.ite ?_ ?_
    | with_reducible refine Frame.foldl ?_ _ _ ?_
    | split
    | with_reducible refine Frame.of_snd (by with_reducible assumption) ?_
    | with_reducible refine Frame.of_fst (by with_reducible assumption) ?_

def State.seamRow_mask : Nat := 0x1400000
theorem State.seamRow_frame {W : Nat} {s0 s : State} {c : SeamCfg} {line : Nat} {row : List Byte} (hW : Within State.seamRow_mask W) (h : Frame W s0 s) :
    Frame W s0 (State.seamRow s c line row) := by
  have w0 := Within.trans (a := State.draw_mask) rfl hW
  have b22 := hW.bit (n := 22) (by decide)
  unfold State.seamRow
  repeat' first
    | intro _
    | with_reducible assumption
    | (extract_lets +onlyGivenNames x; refine Frame.cut (W := W) (s0 := s0) x ?_ ?_; unfold x; clear x; rotate_left; clear_value x; revert x; intro _ _)
    | (extract_lets +onlyGivenNames x; clear_value x; revert x; intro _)
    | with_reducible refine State.draw_snd w0 ?_
    | with_reducible refine State.putBytes_frame b22 ?_
    | with_reducible refine Frame.ite ?_ ?_
    | with_reducible refine Frame.foldl ?_ _ _ ?_
    | split
    | with_reducible refine State.draw_frame (by with_reducible assumption) w0 ?_
    | with_reducible refine Frame.of_snd (by with_reducible assumption) ?_
    | with_reducible refine Frame.of_fst (by with_reducible assumption) ?_
    | with_reducible refine Frame.snd_mk ?_
    | with_reducible refine Frame.fst_mk ?_

def State.seamRead_mask : Nat := 0x602000000000000004000000000001f000000000000000000000880000000000000000000000023444000
theorem State.seamRead_frame {W : Nat} {s0 s : State} {p : Nat} {seam : Nat} {line : Nat} {tags : List Nat} (hW : Within State.seamRead_mask W) (h : Frame W s0 s) :
    Frame W s0 (State.seamRead s p seam line tags) := by
  have b270 := hW.bit (n := 270) (by decide)
  have w1 := Within.trans (a := State.raise_mask) rfl hW
  have w2 := Within.trans (a := State.invalidate_mask) rfl hW
  unfold State.seamRead
  repeat' first
    | intro _
    | with_reducible assumption
    | (extract_lets +onlyGivenNames x; refine Frame.cut (W := W) (s0 := s0) x ?_ ?_; unfold x; clear x; rotate_left; clear_value x; revert x; intro _ _)
    | (extract_lets +onlyGivenNames x; clear_value x; revert x; intro _)
    | with_reducible refine State.inc_frame (F.PEER_MISSING_rows_kind _) b270 ?_
    | with_reducible refine State.raise_frame w1 ?_
    | with_reducible refine State.invalidate_frame w2 ?_
    | with_reducible refine Frame.ite ?_ ?_
    | with_reducible refine Frame.foldl ?_ _ _ ?_
    | split
    | with_reducible refine Frame.of_snd (by with_reducible assumption) ?_
    | with_reducible refine Frame.of_fst (by with_reducible assumption) ?_
    | with_reducible refine Frame.snd_mk ?_
    | with_reducible refine Frame.fst_mk ?_

def State.sendVerge_mask : Nat := 0x24000000000000000000000000000000000000000000000000000000000000020000
theorem State.sendVerge_frame {W : Nat} {s0 s : State} {ctx : Nat} {o : Nat} {line : Nat} {w : Nat} {px : Nat} {row : List Byte} (hW : Within State.sendVerge_mask W) (h : Frame W s0 s) :
    Frame W s0 (State.sendVerge s ctx o line w px row) := by
  have b266 := hW.bit (n := 266) (by decide)
  have w1 := Within.trans (a := State.peerSend_mask) rfl hW
  unfold State.sendVerge
  repeat' first
    | intro _
    | with_reducible assumption
    | (extract_lets +onlyGivenNames x; refine Frame.cut (W := W) (s0 := s0) x ?_ ?_; unfold x; clear x; rotate_left; clear_value x; revert x; intro _ _)
    | (extract_lets +onlyGivenNames x; clear_value x; revert x; intro _)
    | with_reducible refine State.inc_frame (F.PEER_VERGE_rows_kind _) b266 ?_
    | with_reducible refine State.each_frame ?_ ?_
    | with_reducible refine State.peerSend_frame w1 ?_
    | with_reducible refine Frame.ite ?_ ?_
    | with_reducible refine Frame.foldl ?_ _ _ ?_
    | split
    | with_reducible refine Frame.of_snd (by with_reducible assumption) ?_
    | with_reducible refine Frame.of_fst (by with_reducible assumption) ?_
    | with_reducible refine Frame.snd_mk ?_
    | with_reducible refine Frame.fst_mk ?_

def State.rejectContrib_mask : Nat := 0x6020000000000000030000000000000000000000000000000000000000000000000000000000022020000
theorem State.rejectContrib_frame {W : Nat} {s0 s : State} {k : Nat} {key : Nat} {reason : Nat} (hW : Within State.rejectContrib_mask W) (h : Frame W s0 s) :
    Frame W s0 (State.rejectContrib s k key reason) := by
  have b268 := hW.bit (n := 268) (by decide)
  have w1 := Within.trans (a := State.peerSend_mask) rfl hW
  have w2 := Within.trans (a := State.peerViolation_mask) rfl hW
  unfold State.rejectContrib
  repeat' first
    | intro _
    | with_reducible assumption
    | (extract_lets +onlyGivenNames x; refine Frame.cut (W := W) (s0 := s0) x ?_ ?_; unfold x; clear x; rotate_left; clear_value x; revert x; intro _ _)
    | (extract_lets +onlyGivenNames x; clear_value x; revert x; intro _)
    | with_reducible refine State.inc_frame (F.PEER_REJECT_sent_kind _) b268 ?_
    | with_reducible refine State.peerSend_frame w1 ?_
    | with_reducible refine State.peerViolation_frame w2 ?_
    | with_reducible refine Frame.ite ?_ ?_
    | with_reducible refine Frame.foldl ?_ _ _ ?_
    | split
    | with_reducible refine Frame.of_snd (by with_reducible assumption) ?_
    | with_reducible refine Frame.of_fst (by with_reducible assumption) ?_
    | with_reducible refine Frame.snd_mk ?_
    | with_reducible refine Frame.fst_mk ?_

def State.keepContrib_mask : Nat := 0x20000
theorem State.keepContrib_frame {W : Nat} {s0 s : State} {c : Contrib} (hW : Within State.keepContrib_mask W) (h : Frame W s0 s) :
    Frame W s0 (State.keepContrib s c) := by
  have b17 := hW.bit (n := 17) (by decide)
  unfold State.keepContrib
  repeat' first
    | intro _
    | with_reducible assumption
    | (extract_lets +onlyGivenNames x; refine Frame.cut (W := W) (s0 := s0) x ?_ ?_; unfold x; clear x; rotate_left; clear_value x; revert x; intro _ _)
    | (extract_lets +onlyGivenNames x; clear_value x; revert x; intro _)
    | with_reducible refine Frame.ite ?_ ?_
    | with_reducible refine Frame.foldl ?_ _ _ ?_
    | split
    | with_reducible refine Frame.of_snd (by with_reducible assumption) ?_
    | with_reducible refine Frame.of_fst (by with_reducible assumption) ?_
    | with_reducible refine Frame.snd_mk ?_
    | with_reducible refine Frame.fst_mk ?_
    | with_reducible refine Frame.peer_upd b17 ?_

def State.giveVerdict_mask : Nat := 0x602000000000000000000000000001f000000000000000000000880000000000000000000000023464000
theorem State.giveVerdict_frame {W : Nat} {s0 s : State} {p : Nat} {v : VerdictIn} {verdict : Nat} {cause : Nat} (hW : Within State.giveVerdict_mask W) (h : Frame W s0 s) :
    Frame W s0 (State.giveVerdict s p v verdict cause) := by
  have w0 := Within.trans (a := State.applyVerdict_mask) rfl hW
  have b17 := hW.bit (n := 17) (by decide)
  unfold State.giveVerdict
  repeat' first
    | intro _
    | with_reducible assumption
    | (extract_lets +onlyGivenNames x; refine Frame.cut (W := W) (s0 := s0) x ?_ ?_; unfold x; clear x; rotate_left; clear_value x; revert x; intro _ _)
    | (extract_lets +onlyGivenNames x; clear_value x; revert x; intro _)
    | with_reducible refine State.applyVerdict_frame w0 ?_
    | with_reducible refine Frame.ite ?_ ?_
    | with_reducible refine Frame.foldl ?_ _ _ ?_
    | split
    | with_reducible refine Frame.of_snd (by with_reducible assumption) ?_
    | with_reducible refine Frame.of_fst (by with_reducible assumption) ?_
    | with_reducible refine Frame.snd_mk ?_
    | with_reducible refine Frame.fst_mk ?_
    | with_reducible refine Frame.peer_upd b17 ?_

def State.giveWaited_mask : Nat := 0x602000000000000000000000000001f000000000000000000000880000000000000000000000023464000
theorem State.giveWaited_frame {W : Nat} {s0 s : State} {h1 : HeldVerdict} (hW : Within State.giveWaited_mask W) (h : Frame W s0 s) :
    Frame W s0 (State.giveWaited s h1) := by
  have w0 := Within.trans (a := State.giveVerdict_mask) rfl hW
  have w1 := Within.trans (a := State.raise_mask) rfl hW
  unfold State.giveWaited
  repeat' first
    | intro _
    | with_reducible assumption
    | (extract_lets +onlyGivenNames x; refine Frame.cut (W := W) (s0 := s0) x ?_ ?_; unfold x; clear x; rotate_left; clear_value x; revert x; intro _ _)
    | (extract_lets +onlyGivenNames x; clear_value x; revert x; intro _)
    | with_reducible refine State.giveVerdict_frame w0 ?_
    | with_reducible refine State.raise_frame w1 ?_
    | with_reducible refine Frame.ite ?_ ?_
    | with_reducible refine Frame.foldl ?_ _ _ ?_
    | split
    | with_reducible refine Frame.of_snd (by with_reducible assumption) ?_
    | with_reducible refine Frame.of_fst (by with_reducible assumption) ?_
    | with_reducible refine Frame.snd_mk ?_
    | with_reducible refine Frame.fst_mk ?_

def State.giveHeld_mask : Nat := 0x602000000000000000000000000001f000000000000000000000880000000000000000000000023464000
theorem State.giveHeld_frame {W : Nat} {s0 s : State} (hW : Within State.giveHeld_mask W) (h : Frame W s0 s) :
    Frame W s0 (State.giveHeld s) := by
  have w0 := Within.trans (a := State.giveWaited_mask) rfl hW
  have b17 := hW.bit (n := 17) (by decide)
  unfold State.giveHeld
  repeat' first
    | intro _
    | with_reducible assumption
    | (extract_lets +onlyGivenNames x; refine Frame.cut (W := W) (s0 := s0) x ?_ ?_; unfold x; clear x; rotate_left; clear_value x; revert x; intro _ _)
    | (extract_lets +onlyGivenNames x; refine Frame.cutF (W := W) (s0 := s0) x ?_ ?_; unfold x; clear x; rotate_left; clear_value x; revert x; intro _ _)
    | (extract_lets +onlyGivenNames x; refine Frame.cutG (W := W) (s0 := s0) x ?_ ?_; unfold x; clear x; rotate_left; clear_value x; revert x; intro _ _)
    | (extract_lets +onlyGivenNames x; refine Frame.cutN (W := W) (s0 := s0) x ?_ ?_; unfold x; clear x; rotate_left; clear_value x; revert x; intro _ _)
    | (extract_lets +onlyGivenNames x; refine Frame.cutH (W := W) (s0 := s0) x ?_ ?_; unfold x; clear x; rotate_left; clear_value x; revert x; intro _ _)
    | (extract_lets +onlyGivenNames x; refine Frame.cutI (W := W) (s0 := s0) x ?_ ?_; unfold x; clear x; rotate_left; clear_value x; revert x; intro _ _)
    | (extract_lets +onlyGivenNames x; clear_value x; revert x; intro _)
    | with_reducible refine State.giveWaited_frame w0 ?_
    | with_reducible refine State.each_frame ?_ ?_
    | with_reducible refine Frame.ite ?_ ?_
    | with_reducible refine Frame.foldl ?_ _ _ ?_
    | split
    | with_reducible refine Frame.of_snd (by with_reducible assumption) ?_
    | with_reducible refine Frame.of_fst (by with_reducible assumption) ?_
    | with_reducible refine Frame.snd_mk ?_
    | with_reducible refine Frame.fst_mk ?_
    | with_reducible refine Frame.peer_upd b17 ?_
    | solve_by_elim

def execContrib_mask : Nat := 0x602000000000000083000000000501f00000000000000000000088000000000400000000000002346c000
theorem execContrib_frame {s nx : State} {side : Fin 2} {head : PeerHead} {r : List Byte} {tracked : Option (BitVec 32)} (e : execContrib side head r tracked s = .next nx) : Frame execContrib_mask s nx := by
  refine State.run_frame rfl (fun W s0 s hW h => ?_) e
  have w0 := Within.trans (a := State.peerPacket_mask) rfl hW
  have w1 := Within.trans (a := State.rejectContrib_mask) rfl hW
  have w2 := Within.trans (a := State.invalidate_mask) rfl hW
  have w3 := Within.trans (a := State.keepContrib_mask) rfl hW
  have w4 := Within.trans (a := State.giveHeld_mask) rfl hW
  repeat' first
    | intro _
    | with_reducible assumption
    | (extract_lets +onlyGivenNames x; refine Frame.cut (W := W) (s0 := s0) x ?_ ?_; unfold x; clear x; rotate_left; clear_value x; revert x; intro _ _)
    | (extract_lets +onlyGivenNames x; clear_value x; revert x; intro _)
    | with_reducible refine State.peerPacket_frame w0 ?_ ?_
    | with_reducible refine State.rejectContrib_frame w1 ?_
    | with_reducible refine State.invalidate_frame w2 ?_
    | with_reducible refine State.keepContrib_frame w3 ?_
    | with_reducible refine State.giveHeld_frame w4 ?_
    | with_reducible refine Frame.ite ?_ ?_
    | with_reducible refine Frame.foldl ?_ _ _ ?_
    | split
    | with_reducible refine Frame.of_snd (by with_reducible assumption) ?_
    | with_reducible refine Frame.of_fst (by with_reducible assumption) ?_
    | with_reducible refine Frame.snd_mk ?_
    | with_reducible refine Frame.fst_mk ?_

def execReject_mask : Nat := 0x6020000000000000830000000005000000000000000000000000000000000004000000000000022028000
theorem execReject_frame {s nx : State} {side : Fin 2} {head : PeerHead} {key : BitVec 64} {reason : BitVec 8} (e : execReject side head key reason s = .next nx) : Frame execReject_mask s nx := by
  refine State.run_frame rfl (fun W s0 s hW h => ?_) e
  have b268 := hW.bit (n := 268) (by decide)
  have w1 := Within.trans (a := State.peerPacket_mask) rfl hW
  have w2 := Within.trans (a := State.raise_mask) rfl hW
  repeat' first
    | intro _
    | with_reducible assumption
    | (extract_lets +onlyGivenNames x; refine Frame.cut (W := W) (s0 := s0) x ?_ ?_; unfold x; clear x; rotate_left; clear_value x; revert x; intro _ _)
    | (extract_lets +onlyGivenNames x; clear_value x; revert x; intro _)
    | with_reducible refine State.inc_frame (F.PEER_REJECT_received_kind _) b268 ?_
    | with_reducible refine State.peerPacket_frame w1 ?_ ?_
    | with_reducible refine State.raise_frame w2 ?_
    | with_reducible refine Frame.ite ?_ ?_
    | with_reducible refine Frame.foldl ?_ _ _ ?_
    | split
    | with_reducible refine Frame.of_snd (by with_reducible assumption) ?_
    | with_reducible refine Frame.of_fst (by with_reducible assumption) ?_

def State.sendContrib_mask : Nat := 0x28000000000000000000000000000000000000000000000000000000000000020000
theorem State.sendContrib_frame {W : Nat} {s0 s : State} {seam : Nat} {p : Nat} {key : Int} {verdict : Nat} {cause : Nat} {d : BitVec 256} (hW : Within State.sendContrib_mask W) (h : Frame W s0 s) :
    Frame W s0 (State.sendContrib s seam p key verdict cause d) := by
  have b267 := hW.bit (n := 267) (by decide)
  have w1 := Within.trans (a := State.peerSend_mask) rfl hW
  unfold State.sendContrib
  repeat' first
    | intro _
    | with_reducible assumption
    | (extract_lets +onlyGivenNames x; refine Frame.cut (W := W) (s0 := s0) x ?_ ?_; unfold x; clear x; rotate_left; clear_value x; revert x; intro _ _)
    | (extract_lets +onlyGivenNames x; clear_value x; revert x; intro _)
    | with_reducible refine State.inc_frame (F.PEER_CONTRIB_sent_kind _) b267 ?_
    | with_reducible refine State.peerSend_frame w1 ?_
    | with_reducible refine Frame.ite ?_ ?_
    | with_reducible refine Frame.foldl ?_ _ _ ?_
    | split
    | with_reducible refine Frame.of_snd (by with_reducible assumption) ?_
    | with_reducible refine Frame.of_fst (by with_reducible assumption) ?_
    | with_reducible refine Frame.snd_mk ?_
    | with_reducible refine Frame.fst_mk ?_

def State.compareSeam_mask : Nat := 0x602300000000000000000000000001f000000000000000000000880000000000000000000000023464000
theorem State.compareSeam_frame {W : Nat} {s0 s : State} {b : SeamWait} (hW : Within State.compareSeam_mask W) (h : Frame W s0 s) :
    Frame W s0 (State.compareSeam s b) := by
  have b324 := hW.bit (n := 324) (by decide)
  have b325 := hW.bit (n := 325) (by decide)
  have w0 := Within.trans (a := State.giveHeld_mask) rfl hW
  have w1 := Within.trans (a := State.raise_mask) rfl hW
  have w2 := Within.trans (a := State.invalidate_mask) rfl hW
  have b17 := hW.bit (n := 17) (by decide)
  unfold State.compareSeam
  repeat' first
    | intro _
    | with_reducible assumption
    | (extract_lets +onlyGivenNames x; refine Frame.cut (W := W) (s0 := s0) x ?_ ?_; unfold x; clear x; rotate_left; clear_value x; revert x; intro _ _)
    | (extract_lets +onlyGivenNames x; clear_value x; revert x; intro _)
    | with_reducible refine State.inc_frame (F.INTEG_SEAM_blocks_kind _) b324 ?_
    | with_reducible refine State.inc_frame (F.INTEG_SEAM_FAULT_mismatches_kind _) b325 ?_
    | with_reducible refine State.giveHeld_frame w0 ?_
    | with_reducible refine State.raise_frame w1 ?_
    | with_reducible refine State.invalidate_frame w2 ?_
    | with_reducible refine Frame.ite ?_ ?_
    | with_reducible refine Frame.foldl ?_ _ _ ?_
    | split
    | with_reducible refine Frame.of_snd (by with_reducible assumption) ?_
    | with_reducible refine Frame.of_fst (by with_reducible assumption) ?_
    | with_reducible refine Frame.snd_mk ?_
    | with_reducible refine Frame.fst_mk ?_
    | with_reducible refine Frame.peer_upd b17 ?_

def State.seamHalf_mask : Nat := 0x602300000000000000000000000001f000000000000000000000880000000000000000000000023464000
theorem State.seamHalf_frame {W : Nat} {s0 s : State} {seam : Nat} {line : Nat} {f : SeamWait → SeamWait} (hW : Within State.seamHalf_mask W) (h : Frame W s0 s) :
    Frame W s0 (State.seamHalf s seam line f) := by
  have w0 := Within.trans (a := State.compareSeam_mask) rfl hW
  have b17 := hW.bit (n := 17) (by decide)
  unfold State.seamHalf
  repeat' first
    | intro _
    | with_reducible assumption
    | (extract_lets +onlyGivenNames x; refine Frame.cut (W := W) (s0 := s0) x ?_ ?_; unfold x; clear x; rotate_left; clear_value x; revert x; intro _ _)
    | (extract_lets +onlyGivenNames x; clear_value x; revert x; intro _)
    | with_reducible refine State.compareSeam_frame w0 ?_
    | with_reducible refine Frame.ite ?_ ?_
    | with_reducible refine Frame.foldl ?_ _ _ ?_
    | split
    | with_reducible refine Frame.of_snd (by with_reducible assumption) ?_
    | with_reducible refine Frame.of_fst (by with_reducible assumption) ?_
    | with_reducible refine Frame.snd_mk ?_
    | with_reducible refine Frame.fst_mk ?_
    | with_reducible refine Frame.peer_upd b17 ?_

def State.seamOwn_mask : Nat := 0x602300000000000002000000000001f000000000000000000000880000000000000000000000023464000
theorem State.seamOwn_frame {W : Nat} {s0 s : State} {b : SeamBlock} {d : BitVec 256} (hW : Within State.seamOwn_mask W) (h : Frame W s0 s) :
    Frame W s0 (State.seamOwn s b d) := by
  have w0 := Within.trans (a := State.peerSend_mask) rfl hW
  have w1 := Within.trans (a := State.seamHalf_mask) rfl hW
  unfold State.seamOwn
  repeat' first
    | intro _
    | with_reducible assumption
    | (extract_lets +onlyGivenNames x; refine Frame.cut (W := W) (s0 := s0) x ?_ ?_; unfold x; clear x; rotate_left; clear_value x; revert x; intro _ _)
    | (extract_lets +onlyGivenNames x; clear_value x; revert x; intro _)
    | with_reducible refine State.peerSend_frame w0 ?_
    | with_reducible refine State.seamHalf_frame w1 ?_
    | with_reducible refine Frame.ite ?_ ?_
    | with_reducible refine Frame.foldl ?_ _ _ ?_
    | split
    | with_reducible refine Frame.of_snd (by with_reducible assumption) ?_
    | with_reducible refine Frame.of_fst (by with_reducible assumption) ?_
    | with_reducible refine Frame.snd_mk ?_
    | with_reducible refine Frame.fst_mk ?_

def execVerge_mask : Nat := 0x602300000000000082000000000501f00000000000000000000088000000000400000000000002346c000
theorem execVerge_frame {s nx : State} {side : Fin 2} {head : PeerHead} {v : VergeIn} (e : execVerge side head v s = .next nx) : Frame execVerge_mask s nx := by
  refine State.run_frame rfl (fun W s0 s hW h => ?_) e
  have w0 := Within.trans (a := State.peerPacket_mask) rfl hW
  have w1 := Within.trans (a := State.seamRow_mask) rfl hW
  have w2 := Within.trans (a := State.seamHalf_mask) rfl hW
  repeat' first
    | intro _
    | with_reducible assumption
    | (extract_lets +onlyGivenNames x; refine Frame.cut (W := W) (s0 := s0) x ?_ ?_; unfold x; clear x; rotate_left; clear_value x; revert x; intro _ _)
    | (extract_lets +onlyGivenNames x; clear_value x; revert x; intro _)
    | with_reducible refine State.peerPacket_frame w0 ?_ ?_
    | with_reducible refine State.each_frame ?_ ?_
    | with_reducible refine State.seamRow_frame w1 ?_
    | with_reducible refine State.seamHalf_frame w2 ?_
    | with_reducible refine Frame.ite ?_ ?_
    | with_reducible refine Frame.foldl ?_ _ _ ?_
    | split
    | with_reducible refine Frame.of_snd (by with_reducible assumption) ?_
    | with_reducible refine Frame.of_fst (by with_reducible assumption) ?_

def execSeamCheckMissing_mask : Nat := 0x602200000000000080000000000501f00000000000000000000088000000000000000000000002346c000
theorem execSeamCheckMissing_frame {s nx : State} {seam : Fin 4} {line : BitVec 32} (e : execSeamCheckMissing seam line s = .next nx) : Frame execSeamCheckMissing_mask s nx := by
  refine State.run_frame rfl (fun W s0 s hW h => ?_) e
  have b17 := hW.bit (n := 17) (by decide)
  have b325 := hW.bit (n := 325) (by decide)
  have w2 := Within.trans (a := State.raise_mask) rfl hW
  have w3 := Within.trans (a := State.invalidate_mask) rfl hW
  repeat' first
    | intro _
    | with_reducible assumption
    | (extract_lets +onlyGivenNames x; refine Frame.cut (W := W) (s0 := s0) x ?_ ?_; unfold x; clear x; rotate_left; clear_value x; revert x; intro _ _)
    | (extract_lets +onlyGivenNames x; clear_value x; revert x; intro _)
    | with_reducible refine State.inc_frame (F.INTEG_SEAM_FAULT_missing_kind _) b325 ?_
    | with_reducible refine State.raise_frame w2 ?_
    | with_reducible refine State.invalidate_frame w3 ?_
    | with_reducible refine Frame.ite ?_ ?_
    | with_reducible refine Frame.foldl ?_ _ _ ?_
    | split
    | with_reducible refine Frame.of_snd (by with_reducible assumption) ?_
    | with_reducible refine Frame.of_fst (by with_reducible assumption) ?_
    | with_reducible refine Frame.peer_upd b17 ?_

end Sys2Proof.Machine
end

