-- ==== Sys2Proof/Laws/Route.lean ====
section
/-! SUPPORT. What the operations of Machine/Route.lean change: each differs from its argument in the areas of its mask alone. -/

set_option linter.all false

namespace Sys2Proof.Machine

def State.routeStatus_mask : Nat := 0x30000000000000000000000000
theorem State.routeStatus_frame {W : Nat} {s0 s : State} {i : Port} {code : Nat} {reason : Nat} {job : Nat} {period : Nat} (hW : Within State.routeStatus_mask W) (h : Frame W s0 s) :
    Frame W s0 (State.routeStatus s i code reason job period) := by
  have b100 := hW.bit (n := 100) (by decide)
  have b101 := hW.bit (n := 101) (by decide)
  unfold State.routeStatus
  repeat' first
    | intro _
    | with_reducible assumption
    | (extract_lets +onlyGivenNames x; refine Frame.cut (W := W) (s0 := s0) x ?_ ?_; unfold x; clear x; rotate_left; clear_value x; revert x; intro _ _)
    | (extract_lets +onlyGivenNames x; clear_value x; revert x; intro _)
    | with_reducible refine State.set_frame (F.ROUTE_CMD_STATUS_reason_kind _) b100 ?_
    | with_reducible refine State.set_frame (F.ROUTE_CMD_STATUS_code_kind _) b100 ?_
    | with_reducible refine State.set_frame (F.ROUTE_CMD_STATUS2_period_kind _) b101 ?_
    | with_reducible refine State.set_frame (F.ROUTE_CMD_STATUS_job_kind _) b100 ?_
    | with_reducible refine Frame.ite ?_ ?_
    | with_reducible refine Frame.foldl ?_ _ _ ?_
    | split
    | with_reducible refine Frame.of_snd (by with_reducible assumption) ?_
    | with_reducible refine Frame.of_fst (by with_reducible assumption) ?_
    | with_reducible refine Frame.snd_mk ?_
    | with_reducible refine Frame.fst_mk ?_

def State.routeCmd_mask : Nat := 0x6020000000000000000000000000000000000000000000000000000000030000000000000000022000000
theorem State.routeCmd_frame {W : Nat} {s0 s : State} {i : Port} {p : Part} {cmd : Nat} {f : State → State} (hW : Within State.routeCmd_mask W) (hf_f : ∀ s, Frame W s0 s → Frame W s0 (f s)) (h : Frame W s0 s) :
    Frame W s0 (State.routeCmd s i p cmd f) := by
  have w0 := Within.trans (a := State.routeStatus_mask) rfl hW
  have w1 := Within.trans (a := State.raise_mask) rfl hW
  unfold State.routeCmd
  repeat' first
    | intro _
    | with_reducible assumption
    | (extract_lets +onlyGivenNames x; refine Frame.cut (W := W) (s0 := s0) x ?_ ?_; unfold x; clear x; rotate_left; clear_value x; revert x; intro _ _)
    | (extract_lets +onlyGivenNames x; clear_value x; revert x; intro _)
    | with_reducible refine State.routeStatus_frame w0 ?_
    | with_reducible refine State.raise_frame w1 ?_
    | with_reducible refine Frame.ite ?_ ?_
    | with_reducible apply hf_f
    | with_reducible refine Frame.foldl ?_ _ _ ?_
    | split
    | with_reducible refine Frame.of_snd (by with_reducible assumption) ?_
    | with_reducible refine Frame.of_fst (by with_reducible assumption) ?_
    | with_reducible refine Frame.snd_mk ?_
    | with_reducible refine Frame.fst_mk ?_

def State.admitRefused_mask : Nat := 0x6020000000000000000000000000000000000000000000000000000000030000000000000000022000000
theorem State.admitRefused_frame {W : Nat} {s0 s : State} {i : Port} {p : Nat} {reason : Nat} (hW : Within State.admitRefused_mask W) (h : Frame W s0 s) :
    Frame W s0 (State.admitRefused s i p reason) := by
  have w0 := Within.trans (a := State.routeStatus_mask) rfl hW
  have w1 := Within.trans (a := State.raise_mask) rfl hW
  unfold State.admitRefused
  repeat' first
    | intro _
    | with_reducible assumption
    | (extract_lets +onlyGivenNames x; refine Frame.cut (W := W) (s0 := s0) x ?_ ?_; unfold x; clear x; rotate_left; clear_value x; revert x; intro _ _)
    | (extract_lets +onlyGivenNames x; clear_value x; revert x; intro _)
    | with_reducible refine State.routeStatus_frame w0 ?_
    | with_reducible refine State.raise_frame w1 ?_
    | with_reducible refine Frame.ite ?_ ?_
    | with_reducible refine Frame.foldl ?_ _ _ ?_
    | split
    | with_reducible refine Frame.of_snd (by with_reducible assumption) ?_
    | with_reducible refine Frame.of_fst (by with_reducible assumption) ?_
    | with_reducible refine Frame.snd_mk ?_
    | with_reducible refine Frame.fst_mk ?_

def State.cutRefused_mask : Nat := 0x6020000000000000000000000000000000000000000000000000000000030000000000000000022000000
theorem State.cutRefused_frame {W : Nat} {s0 s : State} {i : Port} {p : Nat} {reason : Nat} (hW : Within State.cutRefused_mask W) (h : Frame W s0 s) :
    Frame W s0 (State.cutRefused s i p reason) := by
  have w0 := Within.trans (a := State.routeStatus_mask) rfl hW
  have w1 := Within.trans (a := State.raise_mask) rfl hW
  unfold State.cutRefused
  repeat' first
    | intro _
    | with_reducible assumption
    | (extract_lets +onlyGivenNames x; refine Frame.cut (W := W) (s0 := s0) x ?_ ?_; unfold x; clear x; rotate_left; clear_value x; revert x; intro _ _)
    | (extract_lets +onlyGivenNames x; clear_value x; revert x; intro _)
    | with_reducible refine State.routeStatus_frame w0 ?_
    | with_reducible refine State.raise_frame w1 ?_
    | with_reducible refine Frame.ite ?_ ?_
    | with_reducible refine Frame.foldl ?_ _ _ ?_
    | split
    | with_reducible refine Frame.of_snd (by with_reducible assumption) ?_
    | with_reducible refine Frame.of_fst (by with_reducible assumption) ?_
    | with_reducible refine Frame.snd_mk ?_
    | with_reducible refine Frame.fst_mk ?_

def State.noSuchJob_mask : Nat := 0x6020000000000000000000000000000000000000000000000000000000030000000000000000022000000
theorem State.noSuchJob_frame {W : Nat} {s0 s : State} {i : Port} {cmd : Nat} (hW : Within State.noSuchJob_mask W) (h : Frame W s0 s) :
    Frame W s0 (State.noSuchJob s i cmd) := by
  have w0 := Within.trans (a := State.routeStatus_mask) rfl hW
  have w1 := Within.trans (a := State.raise_mask) rfl hW
  unfold State.noSuchJob
  repeat' first
    | intro _
    | with_reducible assumption
    | (extract_lets +onlyGivenNames x; refine Frame.cut (W := W) (s0 := s0) x ?_ ?_; unfold x; clear x; rotate_left; clear_value x; revert x; intro _ _)
    | (extract_lets +onlyGivenNames x; clear_value x; revert x; intro _)
    | with_reducible refine State.routeStatus_frame w0 ?_
    | with_reducible refine State.raise_frame w1 ?_
    | with_reducible refine Frame.ite ?_ ?_
    | with_reducible refine Frame.foldl ?_ _ _ ?_
    | split
    | with_reducible refine Frame.of_snd (by with_reducible assumption) ?_
    | with_reducible refine Frame.of_fst (by with_reducible assumption) ?_
    | with_reducible refine Frame.snd_mk ?_
    | with_reducible refine Frame.fst_mk ?_

def State.countJobs_mask : Nat := 0x40100000000000000000000000
theorem State.countJobs_frame {W : Nat} {s0 s : State} (hW : Within State.countJobs_mask W) (h : Frame W s0 s) :
    Frame W s0 (State.countJobs s) := by
  have b92 := hW.bit (n := 92) (by decide)
  have b102 := hW.bit (n := 102) (by decide)
  unfold State.countJobs
  repeat' first
    | intro _
    | with_reducible assumption
    | (extract_lets +onlyGivenNames x; refine Frame.cut (W := W) (s0 := s0) x ?_ ?_; unfold x; clear x; rotate_left; clear_value x; revert x; intro _ _)
    | (extract_lets +onlyGivenNames x; clear_value x; revert x; intro _)
    | with_reducible refine State.set_frame (F.ROUTE_STATUS_jobs_kind) b92 ?_
    | with_reducible refine State.set_frame (F.ROUTE_PART_jobs_kind _) b102 ?_
    | with_reducible refine State.each_frame ?_ ?_
    | with_reducible refine Frame.ite ?_ ?_
    | with_reducible refine Frame.foldl ?_ _ _ ?_
    | split
    | with_reducible refine Frame.of_snd (by with_reducible assumption) ?_
    | with_reducible refine Frame.of_fst (by with_reducible assumption) ?_
    | with_reducible refine Frame.snd_mk ?_
    | with_reducible refine Frame.fst_mk ?_

def State.showJob_mask : Nat := 0x1fc000000000000000000000000000
theorem State.showJob_frame {W : Nat} {s0 s : State} {j : Nat} {p : Nat} {w : Nat} {limit : Nat} {t : TemplateCfg} (hW : Within State.showJob_mask W) (h : Frame W s0 s) :
    Frame W s0 (State.showJob s j p w limit t) := by
  have b110 := hW.bit (n := 110) (by decide)
  have b113 := hW.bit (n := 113) (by decide)
  have b114 := hW.bit (n := 114) (by decide)
  have b115 := hW.bit (n := 115) (by decide)
  have b111 := hW.bit (n := 111) (by decide)
  have b112 := hW.bit (n := 112) (by decide)
  have b116 := hW.bit (n := 116) (by decide)
  unfold State.showJob
  repeat' first
    | intro _
    | with_reducible assumption
    | (extract_lets +onlyGivenNames x; refine Frame.cut (W := W) (s0 := s0) x ?_ ?_; unfold x; clear x; rotate_left; clear_value x; revert x; intro _ _)
    | (extract_lets +onlyGivenNames x; clear_value x; revert x; intro _)
    | with_reducible refine State.set_frame (F.ROUTE_JOB_partition_kind _) b110 ?_
    | with_reducible refine State.set_frame (F.ROUTE_JOB_state_kind _) b110 ?_
    | with_reducible refine State.set_frame (F.ROUTE_JOB_template_kind _) b110 ?_
    | with_reducible refine State.set_frame (F.ROUTE_JOB_cadence_kind _) b110 ?_
    | with_reducible refine State.set_frame (F.ROUTE_SLOWDOWN_limit_kind _) b113 ?_
    | with_reducible refine State.set_frame (F.ROUTE_JOB_weight_kind _) b110 ?_
    | with_reducible refine State.set_frame (F.ROUTE_BASELINE_ns_kind _) b114 ?_
    | with_reducible refine State.set_frame (F.ROUTE_SLOWDOWN_slowdown_kind _) b113 ?_
    | with_reducible refine State.set_frame (F.ROUTE_ITER_count_kind _) b115 ?_
    | with_reducible refine State.set64_frame (F.ROUTE_TOLL_LO_ticks_kind _) b111 (F.ROUTE_TOLL_HI_ticks_kind _) b112 ?_
    | with_reducible refine State.set_frame (F.ROUTE_DEFERRED_legs_kind _) b116 ?_
    | with_reducible refine Frame.ite ?_ ?_
    | with_reducible refine Frame.foldl ?_ _ _ ?_
    | split
    | with_reducible refine Frame.of_snd (by with_reducible assumption) ?_
    | with_reducible refine Frame.of_fst (by with_reducible assumption) ?_
    | with_reducible refine Frame.snd_mk ?_
    | with_reducible refine Frame.fst_mk ?_

def execAdmit_mask : Nat := 0x60200000000000008000000000050000000000000000000000000001fc270100000000000000022008200
theorem execAdmit_frame {s nx : State} {i : Port} {p : Part} {t : BitVec 8} (e : execAdmit i p t s = .next nx) : Frame execAdmit_mask s nx := by
  refine State.run_frame rfl (fun W s0 s hW h => ?_) e
  have b105 := hW.bit (n := 105) (by decide)
  have w0 := Within.trans (a := State.routeCmd_mask) rfl hW
  have w1 := Within.trans (a := State.admitRefused_mask) rfl hW
  have w2 := Within.trans (a := State.raise_mask) rfl hW
  have w3 := Within.trans (a := State.setJob_mask) rfl hW
  have w4 := Within.trans (a := State.showJob_mask) rfl hW
  have w5 := Within.trans (a := State.countJobs_mask) rfl hW
  have w6 := Within.trans (a := State.routeStatus_mask) rfl hW
  repeat' first
    | intro _
    | with_reducible assumption
    | (extract_lets +onlyGivenNames x; refine Frame.cut (W := W) (s0 := s0) x ?_ ?_; unfold x; clear x; rotate_left; clear_value x; revert x; intro _ _)
    | (extract_lets +onlyGivenNames x; clear_value x; revert x; intro _)
    | with_reducible refine State.set_frame (F.ROUTE_PAGES_held_kind _) b105 ?_
    | with_reducible refine State.routeCmd_frame w0 ?_ ?_
    | with_reducible refine State.admitRefused_frame w1 ?_
    | with_reducible refine State.raise_frame w2 ?_
    | with_reducible refine State.setJob_frame w3 ?_
    | with_reducible refine State.showJob_frame w4 ?_
    | with_reducible refine State.countJobs_frame w5 ?_
    | with_reducible refine State.routeStatus_frame w6 ?_
    | with_reducible refine Frame.ite ?_ ?_
    | with_reducible refine Frame.foldl ?_ _ _ ?_
    | split
    | with_reducible refine Frame.of_snd (by with_reducible assumption) ?_
    | with_reducible refine Frame.of_fst (by with_reducible assumption) ?_
    | with_reducible refine Frame.snd_mk ?_
    | with_reducible refine Frame.fst_mk ?_

def execRetire_mask : Nat := 0x6020000000000000800000000005000000000000000000000000000004030000000000000000022008200
theorem execRetire_frame {s nx : State} {i : Port} {p : Part} {j : BitVec 8} (e : execRetire i p j s = .next nx) : Frame execRetire_mask s nx := by
  refine State.run_frame rfl (fun W s0 s hW h => ?_) e
  have b110 := hW.bit (n := 110) (by decide)
  have w1 := Within.trans (a := State.routeCmd_mask) rfl hW
  have w2 := Within.trans (a := State.noSuchJob_mask) rfl hW
  have w3 := Within.trans (a := State.setJob_mask) rfl hW
  have w4 := Within.trans (a := State.routeStatus_mask) rfl hW
  repeat' first
    | intro _
    | with_reducible assumption
    | (extract_lets +onlyGivenNames x; refine Frame.cut (W := W) (s0 := s0) x ?_ ?_; unfold x; clear x; rotate_left; clear_value x; revert x; intro _ _)
    | (extract_lets +onlyGivenNames x; clear_value x; revert x; intro _)
    | with_reducible refine State.set_frame (F.ROUTE_JOB_state_kind _) b110 ?_
    | with_reducible refine State.routeCmd_frame w1 ?_ ?_
    | with_reducible refine State.noSuchJob_frame w2 ?_
    | with_reducible refine State.setJob_frame w3 ?_
    | with_reducible refine State.routeStatus_frame w4 ?_
    | with_reducible refine Frame.ite ?_ ?_
    | with_reducible refine Frame.foldl ?_ _ _ ?_
    | split
    | with_reducible refine Frame.of_snd (by with_reducible assumption) ?_
    | with_reducible refine Frame.of_fst (by with_reducible assumption) ?_

def execSetWeight_mask : Nat := 0x6020000000000000800000000005000000000000000000000000000004830000000000000000022008200
theorem execSetWeight_frame {s nx : State} {i : Port} {p : Part} {j : BitVec 8} (e : execSetWeight i p j s = .next nx) : Frame execSetWeight_mask s nx := by
  refine State.run_frame rfl (fun W s0 s hW h => ?_) e
  have b9 := hW.bit (n := 9) (by decide)
  have b110 := hW.bit (n := 110) (by decide)
  have b107 := hW.bit (n := 107) (by decide)
  have w3 := Within.trans (a := State.routeCmd_mask) rfl hW
  have w4 := Within.trans (a := State.noSuchJob_mask) rfl hW
  have w5 := Within.trans (a := State.cutRefused_mask) rfl hW
  have w6 := Within.trans (a := State.setJob_mask) rfl hW
  have w7 := Within.trans (a := State.routeStatus_mask) rfl hW
  repeat' first
    | intro _
    | with_reducible assumption
    | (extract_lets +onlyGivenNames x; refine Frame.cut (W := W) (s0 := s0) x ?_ ?_; unfold x; clear x; rotate_left; clear_value x; revert x; intro _ _)
    | (extract_lets +onlyGivenNames x; clear_value x; revert x; intro _)
    | with_reducible refine State.set_frame (F.ROUTE_JOB_weight_kind _) b110 ?_
    | with_reducible refine State.set_frame (F.ROUTE_PENDING_weight_kind _) b107 ?_
    | with_reducible refine State.routeCmd_frame w3 ?_ ?_
    | with_reducible refine State.noSuchJob_frame w4 ?_
    | with_reducible refine State.cutRefused_frame w5 ?_
    | with_reducible refine State.setJob_frame w6 ?_
    | with_reducible refine State.routeStatus_frame w7 ?_
    | with_reducible refine Frame.ite ?_ ?_
    | with_reducible refine Frame.foldl ?_ _ _ ?_
    | split
    | with_reducible refine Frame.of_snd (by with_reducible assumption) ?_
    | with_reducible refine Frame.of_fst (by with_reducible assumption) ?_
    | with_reducible refine Frame.route_upd b9 ?_

def execMeasureSolo_mask : Nat := 0x6020000000000000800000000005000000000000000000000000000000030000000000000000022008200
theorem execMeasureSolo_frame {s nx : State} {i : Port} {p : Part} {j : BitVec 8} (e : execMeasureSolo i p j s = .next nx) : Frame execMeasureSolo_mask s nx := by
  refine State.run_frame rfl (fun W s0 s hW h => ?_) e
  have w0 := Within.trans (a := State.routeCmd_mask) rfl hW
  have w1 := Within.trans (a := State.noSuchJob_mask) rfl hW
  have w2 := Within.trans (a := State.admitRefused_mask) rfl hW
  have w3 := Within.trans (a := State.setJob_mask) rfl hW
  have w4 := Within.trans (a := State.routeStatus_mask) rfl hW
  repeat' first
    | intro _
    | with_reducible assumption
    | (extract_lets +onlyGivenNames x; refine Frame.cut (W := W) (s0 := s0) x ?_ ?_; unfold x; clear x; rotate_left; clear_value x; revert x; intro _ _)
    | (extract_lets +onlyGivenNames x; clear_value x; revert x; intro _)
    | with_reducible refine State.routeCmd_frame w0 ?_ ?_
    | with_reducible refine State.noSuchJob_frame w1 ?_
    | with_reducible refine State.admitRefused_frame w2 ?_
    | with_reducible refine State.setJob_frame w3 ?_
    | with_reducible refine State.routeStatus_frame w4 ?_
    | with_reducible refine Frame.ite ?_ ?_
    | with_reducible refine Frame.foldl ?_ _ _ ?_
    | split
    | with_reducible refine Frame.of_snd (by with_reducible assumption) ?_
    | with_reducible refine Frame.of_fst (by with_reducible assumption) ?_
    | with_reducible refine Frame.snd_mk ?_
    | with_reducible refine Frame.fst_mk ?_

def State.returnPages_mask : Nat := 0x200000000000000000000000400
theorem State.returnPages_frame {W : Nat} {s0 s : State} {p : Nat} {q : Nat} (hW : Within State.returnPages_mask W) (h : Frame W s0 s) :
    Frame W s0 (State.returnPages s p q) := by
  have b105 := hW.bit (n := 105) (by decide)
  have w1 := Within.trans (a := State.setPool_mask) rfl hW
  unfold State.returnPages
  repeat' first
    | intro _
    | with_reducible assumption
    | (extract_lets +onlyGivenNames x; refine Frame.cut (W := W) (s0 := s0) x ?_ ?_; unfold x; clear x; rotate_left; clear_value x; revert x; intro _ _)
    | (extract_lets +onlyGivenNames x; clear_value x; revert x; intro _)
    | with_reducible refine State.set_frame (F.ROUTE_PAGES_held_kind _) b105 ?_
    | with_reducible refine State.setPool_frame w1 ?_
    | with_reducible refine Frame.ite ?_ ?_
    | with_reducible refine Frame.foldl ?_ _ _ ?_
    | split
    | with_reducible refine Frame.of_snd (by with_reducible assumption) ?_
    | with_reducible refine Frame.of_fst (by with_reducible assumption) ?_
    | with_reducible refine Frame.snd_mk ?_
    | with_reducible refine Frame.fst_mk ?_

def execSetQuota_mask : Nat := 0x6020000000000000800000000005000001de20000000000000000000002f0000000000000000022008400
theorem execSetQuota_frame {s nx : State} {i : Port} {p : Part} (e : execSetQuota i p s = .next nx) : Frame execSetQuota_mask s nx := by
  refine State.run_frame rfl (fun W s0 s hW h => ?_) e
  have b103 := hW.bit (n := 103) (by decide)
  have b199 := hW.bit (n := 199) (by decide)
  have w2 := Within.trans (a := State.routeCmd_mask) rfl hW
  have w3 := Within.trans (a := State.cutRefused_mask) rfl hW
  have w4 := Within.trans (a := State.returnPages_mask) rfl hW
  have w5 := Within.trans (a := State.raise_mask) rfl hW
  have w6 := Within.trans (a := State.quotaCheck_mask) rfl hW
  have w7 := Within.trans (a := State.showPool_mask) rfl hW
  have w8 := Within.trans (a := State.checkQuota_mask) rfl hW
  have w9 := Within.trans (a := State.routeStatus_mask) rfl hW
  repeat' first
    | intro _
    | with_reducible assumption
    | (extract_lets +onlyGivenNames x; refine Frame.cut (W := W) (s0 := s0) x ?_ ?_; unfold x; clear x; rotate_left; clear_value x; revert x; intro _ _)
    | (extract_lets +onlyGivenNames x; clear_value x; revert x; intro _)
    | with_reducible refine State.set_frame (F.ROUTE_QUOTA_pages_kind _) b103 ?_
    | with_reducible refine State.set_frame (F.KV_CHARGE_over_quota_kind _) b199 ?_
    | with_reducible refine State.routeCmd_frame w2 ?_ ?_
    | with_reducible refine State.cutRefused_frame w3 ?_
    | with_reducible refine State.returnPages_frame w4 ?_
    | with_reducible refine State.raise_frame w5 ?_
    | with_reducible refine State.quotaCheck_frame w6 ?_
    | with_reducible refine State.showPool_frame w7 ?_
    | with_reducible refine State.checkQuota_frame w8 ?_
    | with_reducible refine State.routeStatus_frame w9 ?_
    | with_reducible refine Frame.ite ?_ ?_
    | with_reducible refine Frame.foldl ?_ _ _ ?_
    | split
    | with_reducible refine Frame.of_snd (by with_reducible assumption) ?_
    | with_reducible refine Frame.of_fst (by with_reducible assumption) ?_

def execSetBandwidth_mask : Nat := 0x6020000000000000800000000005000000000000000000000000000000830000000000000000022008200
theorem execSetBandwidth_frame {s nx : State} {i : Port} {p : Part} (e : execSetBandwidth i p s = .next nx) : Frame execSetBandwidth_mask s nx := by
  refine State.run_frame rfl (fun W s0 s hW h => ?_) e
  have b9 := hW.bit (n := 9) (by decide)
  have b107 := hW.bit (n := 107) (by decide)
  have w2 := Within.trans (a := State.routeCmd_mask) rfl hW
  have w3 := Within.trans (a := State.cutRefused_mask) rfl hW
  have w4 := Within.trans (a := State.routeStatus_mask) rfl hW
  repeat' first
    | intro _
    | with_reducible assumption
    | (extract_lets +onlyGivenNames x; refine Frame.cut (W := W) (s0 := s0) x ?_ ?_; unfold x; clear x; rotate_left; clear_value x; revert x; intro _ _)
    | (extract_lets +onlyGivenNames x; clear_value x; revert x; intro _)
    | with_reducible refine State.set_frame (F.ROUTE_PENDING_bandwidth_kind _) b107 ?_
    | with_reducible refine State.routeCmd_frame w2 ?_ ?_
    | with_reducible refine State.cutRefused_frame w3 ?_
    | with_reducible refine State.routeStatus_frame w4 ?_
    | with_reducible refine Frame.ite ?_ ?_
    | with_reducible refine Frame.foldl ?_ _ _ ?_
    | split
    | with_reducible refine Frame.of_snd (by with_reducible assumption) ?_
    | with_reducible refine Frame.of_fst (by with_reducible assumption) ?_
    | with_reducible refine Frame.route_upd b9 ?_

def execSetWindow_mask : Nat := 0x6020000000000000800000000005000000000000000000000000000000830000000000000000022008200
theorem execSetWindow_frame {s nx : State} {i : Port} {p : Part} {l : BitVec 8} (e : execSetWindow i p l s = .next nx) : Frame execSetWindow_mask s nx := by
  refine State.run_frame rfl (fun W s0 s hW h => ?_) e
  have b9 := hW.bit (n := 9) (by decide)
  have b107 := hW.bit (n := 107) (by decide)
  have w2 := Within.trans (a := State.routeCmd_mask) rfl hW
  have w3 := Within.trans (a := State.cutRefused_mask) rfl hW
  have w4 := Within.trans (a := State.routeStatus_mask) rfl hW
  repeat' first
    | intro _
    | with_reducible assumption
    | (extract_lets +onlyGivenNames x; refine Frame.cut (W := W) (s0 := s0) x ?_ ?_; unfold x; clear x; rotate_left; clear_value x; revert x; intro _ _)
    | (extract_lets +onlyGivenNames x; clear_value x; revert x; intro _)
    | with_reducible refine State.set_frame (F.ROUTE_PENDING_window_kind _) b107 ?_
    | with_reducible refine State.routeCmd_frame w2 ?_ ?_
    | with_reducible refine State.cutRefused_frame w3 ?_
    | with_reducible refine State.routeStatus_frame w4 ?_
    | with_reducible refine Frame.ite ?_ ?_
    | with_reducible refine Frame.foldl ?_ _ _ ?_
    | split
    | with_reducible refine Frame.of_snd (by with_reducible assumption) ?_
    | with_reducible refine Frame.of_fst (by with_reducible assumption) ?_
    | with_reducible refine Frame.route_upd b9 ?_

def State.buildStart_mask : Nat := 0x8000000602000000000000000000000000001f0020000000000000000008c0001040100000000000000023444684
theorem State.buildStart_frame {W : Nat} {s0 s : State} (hW : Within State.buildStart_mask W) (h : Frame W s0 s) :
    Frame W s0 (State.buildStart s) := by
  have b92 := hW.bit (n := 92) (by decide)
  have w0 := Within.trans (a := State.takeLandings_mask) rfl hW
  have w1 := Within.trans (a := State.chooseSpares_mask) rfl hW
  have w2 := Within.trans (a := State.showWalkers_mask) rfl hW
  have w3 := Within.trans (a := State.setJob_mask) rfl hW
  have w4 := Within.trans (a := State.takeReleases_mask) rfl hW
  have w5 := Within.trans (a := State.checkFit_mask) rfl hW
  have b9 := hW.bit (n := 9) (by decide)
  unfold State.buildStart
  repeat' first
    | intro _
    | with_reducible assumption
    | (extract_lets +onlyGivenNames x; refine Frame.cut (W := W) (s0 := s0) x ?_ ?_; unfold x; clear x; rotate_left; clear_value x; revert x; intro _ _)
    | (extract_lets +onlyGivenNames x; clear_value x; revert x; intro _)
    | with_reducible refine State.set_frame (F.ROUTE_STATUS_builder_running_kind) b92 ?_
    | with_reducible refine State.takeLandings_frame w0 ?_
    | with_reducible refine State.chooseSpares_frame w1 ?_
    | with_reducible refine State.showWalkers_frame w2 ?_
    | with_reducible refine State.setJob_frame w3 ?_
    | with_reducible refine State.takeReleases_frame w4 ?_
    | with_reducible refine State.checkFit_frame w5 ?_
    | with_reducible refine State.each_frame ?_ ?_
    | with_reducible refine Frame.ite ?_ ?_
    | with_reducible refine Frame.foldl ?_ _ _ ?_
    | split
    | with_reducible refine Frame.of_snd (by with_reducible assumption) ?_
    | with_reducible refine Frame.of_fst (by with_reducible assumption) ?_
    | with_reducible refine Frame.snd_mk ?_
    | with_reducible refine Frame.fst_mk ?_
    | with_reducible refine Frame.route_upd b9 ?_
    | with_reducible refine Frame.foldl_snd ?_ _ _ ?_
    | with_reducible refine Frame.foldl_fst ?_ _ _ ?_
    | with_reducible refine Frame.foldr_snd ?_ _ _ ?_
    | with_reducible refine Frame.Snd.mk ?_
    | with_reducible refine Frame.Fst.mk ?_
    | dsimp only

def execBuildStart_mask : Nat := 0x8000000602000000000000080000000000501f0020000000000000000008c000104010000000000000002344c684
theorem execBuildStart_frame {s nx : State} (e : execBuildStart s = .next nx) : Frame execBuildStart_mask s nx := by
  refine State.run_frame rfl (fun W s0 s hW h => ?_) e
  have w0 := Within.trans (a := State.buildStart_mask) rfl hW
  repeat' first
    | intro _
    | with_reducible assumption
    | (extract_lets +onlyGivenNames x; refine Frame.cut (W := W) (s0 := s0) x ?_ ?_; unfold x; clear x; rotate_left; clear_value x; revert x; intro _ _)
    | (extract_lets +onlyGivenNames x; clear_value x; revert x; intro _)
    | with_reducible refine State.buildStart_frame w0 ?_
    | with_reducible refine Frame.ite ?_ ?_
    | with_reducible refine Frame.foldl ?_ _ _ ?_
    | split
    | with_reducible refine Frame.of_snd (by with_reducible assumption) ?_
    | with_reducible refine Frame.of_fst (by with_reducible assumption) ?_

def execBuildComplete_mask : Nat := 0x602040000000002080000000000501f0000000000000000000008801180000000000000000000234cc200
theorem execBuildComplete_frame {s nx : State} (e : execBuildComplete s = .next nx) : Frame execBuildComplete_mask s nx := by
  refine State.run_frame rfl (fun W s0 s hW h => ?_) e
  have w0 := Within.trans (a := State.buildSheets_mask) rfl hW
  have w1 := Within.trans (a := State.kickKind_mask) rfl hW
  repeat' first
    | intro _
    | with_reducible assumption
    | (extract_lets +onlyGivenNames x; refine Frame.cut (W := W) (s0 := s0) x ?_ ?_; unfold x; clear x; rotate_left; clear_value x; revert x; intro _ _)
    | (extract_lets +onlyGivenNames x; clear_value x; revert x; intro _)
    | with_reducible refine State.buildSheets_frame w0 ?_
    | with_reducible refine State.kickKind_frame w1 ?_
    | with_reducible refine Frame.ite ?_ ?_
    | with_reducible refine Frame.foldl ?_ _ _ ?_
    | split
    | with_reducible refine Frame.of_snd (by with_reducible assumption) ?_
    | with_reducible refine Frame.of_fst (by with_reducible assumption) ?_

def State.latency_mask : Nat := 0x6020000000000000000000000000000000000000000000000000000064000000000000000000022000200
theorem State.latency_frame {W : Nat} {s0 s : State} {j : Nat} {lat : Nat} {alone : Bool} (hW : Within State.latency_mask W) (h : Frame W s0 s) :
    Frame W s0 (State.latency s j lat alone) := by
  have b110 := hW.bit (n := 110) (by decide)
  have b114 := hW.bit (n := 114) (by decide)
  have b113 := hW.bit (n := 113) (by decide)
  have w0 := Within.trans (a := State.raise_mask) rfl hW
  have w1 := Within.trans (a := State.setJob_mask) rfl hW
  unfold State.latency
  repeat' first
    | intro _
    | with_reducible assumption
    | (extract_lets +onlyGivenNames x; refine Frame.cut (W := W) (s0 := s0) x ?_ ?_; unfold x; clear x; rotate_left; clear_value x; revert x; intro _ _)
    | (extract_lets +onlyGivenNames x; clear_value x; revert x; intro _)
    | with_reducible refine State.set_frame (F.ROUTE_JOB_state_kind _) b110 ?_
    | with_reducible refine State.set_frame (F.ROUTE_BASELINE_ns_kind _) b114 ?_
    | with_reducible refine State.set_frame (F.ROUTE_SLOWDOWN_slowdown_kind _) b113 ?_
    | with_reducible refine State.raise_frame w0 ?_
    | with_reducible refine State.setJob_frame w1 ?_
    | with_reducible refine Frame.ite ?_ ?_
    | with_reducible refine Frame.foldl ?_ _ _ ?_
    | split
    | with_reducible refine Frame.of_snd (by with_reducible assumption) ?_
    | with_reducible refine Frame.of_fst (by with_reducible assumption) ?_
    | with_reducible refine Frame.snd_mk ?_
    | with_reducible refine Frame.fst_mk ?_
    | with_reducible refine Frame.foldl_snd ?_ _ _ ?_
    | with_reducible refine Frame.foldl_fst ?_ _ _ ?_
    | with_reducible refine Frame.foldr_snd ?_ _ _ ?_
    | with_reducible refine Frame.Snd.mk ?_
    | with_reducible refine Frame.Fst.mk ?_
    | dsimp only

def State.endIter_mask : Nat := 0x602000000000000000000000000001f000000000000000000000880000000000000000000000023444200
theorem State.endIter_frame {W : Nat} {s0 s : State} {it : Iter} {cause : Nat} (hW : Within State.endIter_mask W) (h : Frame W s0 s) :
    Frame W s0 (State.endIter s it cause) := by
  have b9 := hW.bit (n := 9) (by decide)
  have w1 := Within.trans (a := State.invalidate_mask) rfl hW
  have w2 := Within.trans (a := State.drawDigest_mask) rfl hW
  have w3 := Within.trans (a := State.draw_mask) rfl hW
  have w4 := Within.trans (a := State.ready_mask) rfl hW
  unfold State.endIter
  repeat' first
    | intro _
    | with_reducible assumption
    | (extract_lets +onlyGivenNames x; refine Frame.cut (W := W) (s0 := s0) x ?_ ?_; unfold x; clear x; rotate_left; clear_value x; revert x; intro _ _)
    | (extract_lets +onlyGivenNames x; clear_value x; revert x; intro _)
    | with_reducible refine State.invalidate_frame w1 ?_
    | with_reducible refine State.drawDigest_snd w2 ?_
    | with_reducible refine State.draw_snd w3 ?_
    | with_reducible refine State.ready_frame w4 ?_
    | with_reducible refine Frame.ite ?_ ?_
    | with_reducible refine Frame.foldl ?_ _ _ ?_
    | split
    | with_reducible refine State.drawDigest_frame (by with_reducible assumption) w2 ?_
    | with_reducible refine State.draw_frame (by with_reducible assumption) w3 ?_
    | with_reducible refine Frame.of_snd (by with_reducible assumption) ?_
    | with_reducible refine Frame.of_fst (by with_reducible assumption) ?_
    | with_reducible refine Frame.snd_mk ?_
    | with_reducible refine Frame.fst_mk ?_
    | with_reducible refine Frame.route_upd b9 ?_

def State.countHeld_mask : Nat := 0x200000000000000000000000000
theorem State.countHeld_frame {W : Nat} {s0 s : State} {p : Nat} (hW : Within State.countHeld_mask W) (h : Frame W s0 s) :
    Frame W s0 (State.countHeld s p) := by
  have b105 := hW.bit (n := 105) (by decide)
  unfold State.countHeld
  repeat' first
    | intro _
    | with_reducible assumption
    | (extract_lets +onlyGivenNames x; refine Frame.cut (W := W) (s0 := s0) x ?_ ?_; unfold x; clear x; rotate_left; clear_value x; revert x; intro _ _)
    | (extract_lets +onlyGivenNames x; clear_value x; revert x; intro _)
    | with_reducible refine State.set_frame (F.ROUTE_PAGES_held_kind _) b105 ?_
    | with_reducible refine Frame.ite ?_ ?_
    | with_reducible refine Frame.foldl ?_ _ _ ?_
    | split
    | with_reducible refine Frame.of_snd (by with_reducible assumption) ?_
    | with_reducible refine Frame.of_fst (by with_reducible assumption) ?_
    | with_reducible refine Frame.snd_mk ?_
    | with_reducible refine Frame.fst_mk ?_
    | with_reducible refine Frame.foldl_snd ?_ _ _ ?_
    | with_reducible refine Frame.foldl_fst ?_ _ _ ?_
    | with_reducible refine Frame.foldr_snd ?_ _ _ ?_
    | with_reducible refine Frame.Snd.mk ?_
    | with_reducible refine Frame.Fst.mk ?_
    | dsimp only

def State.refreshPool_mask : Nat := 0x1fe2000000000000000000000200000000000000000000000400
theorem State.refreshPool_frame {W : Nat} {s0 s : State} {p : Nat} (hW : Within State.refreshPool_mask W) (h : Frame W s0 s) :
    Frame W s0 (State.refreshPool s p) := by
  have w0 := Within.trans (a := State.startPool_mask) rfl hW
  have w1 := Within.trans (a := State.setPool_mask) rfl hW
  have w2 := Within.trans (a := State.showPool_mask) rfl hW
  have w3 := Within.trans (a := State.countHeld_mask) rfl hW
  unfold State.refreshPool
  repeat' first
    | intro _
    | with_reducible assumption
    | (extract_lets +onlyGivenNames x; refine Frame.cut (W := W) (s0 := s0) x ?_ ?_; unfold x; clear x; rotate_left; clear_value x; revert x; intro _ _)
    | (extract_lets +onlyGivenNames x; clear_value x; revert x; intro _)
    | with_reducible refine State.startPool_frame w0 ?_
    | with_reducible refine State.setPool_frame w1 ?_
    | with_reducible refine State.showPool_frame w2 ?_
    | with_reducible refine State.countHeld_frame w3 ?_
    | with_reducible refine Frame.ite ?_ ?_
    | with_reducible refine Frame.foldl ?_ _ _ ?_
    | split
    | with_reducible refine Frame.of_snd (by with_reducible assumption) ?_
    | with_reducible refine Frame.of_fst (by with_reducible assumption) ?_
    | with_reducible refine Frame.snd_mk ?_
    | with_reducible refine Frame.fst_mk ?_

def State.dropOld_mask : Nat := 0x1fe2000000000000000000000200000000000000000000000605
theorem State.dropOld_frame {W : Nat} {s0 s : State} {p : Nat} (hW : Within State.dropOld_mask W) (h : Frame W s0 s) :
    Frame W s0 (State.dropOld s p) := by
  have w0 := Within.trans (a := State.refreshPool_mask) rfl hW
  have w1 := Within.trans (a := State.setJob_mask) rfl hW
  have b0 := hW.bit (n := 0) (by decide)
  have b2 := hW.bit (n := 2) (by decide)
  unfold State.dropOld
  repeat' first
    | intro _
    | with_reducible assumption
    | (extract_lets +onlyGivenNames x; refine Frame.cut (W := W) (s0 := s0) x ?_ ?_; unfold x; clear x; rotate_left; clear_value x; revert x; intro _ _)
    | (extract_lets +onlyGivenNames x; refine Frame.cutF (W := W) (s0 := s0) x ?_ ?_; unfold x; clear x; rotate_left; clear_value x; revert x; intro _ _)
    | (extract_lets +onlyGivenNames x; refine Frame.cutG (W := W) (s0 := s0) x ?_ ?_; unfold x; clear x; rotate_left; clear_value x; revert x; intro _ _)
    | (extract_lets +onlyGivenNames x; refine Frame.cutN (W := W) (s0 := s0) x ?_ ?_; unfold x; clear x; rotate_left; clear_value x; revert x; intro _ _)
    | (extract_lets +onlyGivenNames x; refine Frame.cutH (W := W) (s0 := s0) x ?_ ?_; unfold x; clear x; rotate_left; clear_value x; revert x; intro _ _)
    | (extract_lets +onlyGivenNames x; refine Frame.cutI (W := W) (s0 := s0) x ?_ ?_; unfold x; clear x; rotate_left; clear_value x; revert x; intro _ _)
    | (extract_lets +onlyGivenNames x; clear_value x; revert x; intro _)
    | with_reducible refine State.refreshPool_frame w0 ?_
    | with_reducible refine State.setJob_frame w1 ?_
    | with_reducible refine State.each_frame ?_ ?_
    | with_reducible refine Frame.ite ?_ ?_
    | with_reducible refine Frame.foldl ?_ _ _ ?_
    | split
    | with_reducible refine Frame.of_snd (by with_reducible assumption) ?_
    | with_reducible refine Frame.of_fst (by with_reducible assumption) ?_
    | with_reducible refine Frame.snd_mk ?_
    | with_reducible refine Frame.fst_mk ?_
    | with_reducible refine Frame.cfg_zld_upd b0 b2 ?_
    | solve_by_elim

def State.freeJob_mask : Nat := 0x602000000000000000000000000001f001de2000000000000000880004240100000000000000023444600
theorem State.freeJob_frame {W : Nat} {s0 s : State} {j : Nat} (hW : Within State.freeJob_mask W) (h : Frame W s0 s) :
    Frame W s0 (State.freeJob s j) := by
  have b110 := hW.bit (n := 110) (by decide)
  have b105 := hW.bit (n := 105) (by decide)
  have w0 := Within.trans (a := State.invalidate_mask) rfl hW
  have w1 := Within.trans (a := State.setPool_mask) rfl hW
  have w2 := Within.trans (a := State.showPool_mask) rfl hW
  have w3 := Within.trans (a := State.checkQuota_mask) rfl hW
  have w4 := Within.trans (a := State.countJobs_mask) rfl hW
  have b9 := hW.bit (n := 9) (by decide)
  unfold State.freeJob
  repeat' first
    | intro _
    | with_reducible assumption
    | (extract_lets +onlyGivenNames x; refine Frame.cut (W := W) (s0 := s0) x ?_ ?_; unfold x; clear x; rotate_left; clear_value x; revert x; intro _ _)
    | (extract_lets +onlyGivenNames x; clear_value x; revert x; intro _)
    | with_reducible refine State.set_frame (F.ROUTE_JOB_state_kind _) b110 ?_
    | with_reducible refine State.set_frame (F.ROUTE_PAGES_held_kind _) b105 ?_
    | with_reducible refine State.invalidate_frame w0 ?_
    | with_reducible refine State.setPool_frame w1 ?_
    | with_reducible refine State.showPool_frame w2 ?_
    | with_reducible refine State.checkQuota_frame w3 ?_
    | with_reducible refine State.countJobs_frame w4 ?_
    | with_reducible refine Frame.ite ?_ ?_
    | with_reducible refine Frame.foldl ?_ _ _ ?_
    | split
    | with_reducible refine Frame.of_snd (by with_reducible assumption) ?_
    | with_reducible refine Frame.of_fst (by with_reducible assumption) ?_
    | with_reducible refine Frame.snd_mk ?_
    | with_reducible refine Frame.fst_mk ?_
    | with_reducible refine Frame.route_upd b9 ?_

def State.completeIter_mask : Nat := 0x602000000000000000000000000001f001fe20000000000000008800e4240100000000000000023444605
theorem State.completeIter_frame {W : Nat} {s0 s : State} {it : Iter} {r : LegReport} (hW : Within State.completeIter_mask W) (h : Frame W s0 s) :
    Frame W s0 (State.completeIter s it r) := by
  have b115 := hW.bit (n := 115) (by decide)
  have w0 := Within.trans (a := State.digestRecord_mask) rfl hW
  have w1 := Within.trans (a := State.ready_mask) rfl hW
  have w2 := Within.trans (a := State.latency_mask) rfl hW
  have w3 := Within.trans (a := State.setIter_mask) rfl hW
  have w4 := Within.trans (a := State.dropOld_mask) rfl hW
  have w5 := Within.trans (a := State.freeJob_mask) rfl hW
  have b9 := hW.bit (n := 9) (by decide)
  unfold State.completeIter
  repeat' first
    | intro _
    | with_reducible assumption
    | (extract_lets +onlyGivenNames x; refine Frame.cut (W := W) (s0 := s0) x ?_ ?_; unfold x; clear x; rotate_left; clear_value x; revert x; intro _ _)
    | (extract_lets +onlyGivenNames x; clear_value x; revert x; intro _)
    | with_reducible refine State.inc_frame (F.ROUTE_ITER_count_kind _) b115 ?_
    | with_reducible refine State.digestRecord_frame w0 ?_
    | with_reducible refine State.ready_frame w1 ?_
    | with_reducible refine State.latency_frame w2 ?_
    | with_reducible refine State.setIter_frame w3 ?_
    | with_reducible refine State.dropOld_frame w4 ?_
    | with_reducible refine State.freeJob_frame w5 ?_
    | with_reducible refine Frame.ite ?_ ?_
    | with_reducible refine Frame.foldl ?_ _ _ ?_
    | split
    | with_reducible refine Frame.of_snd (by with_reducible assumption) ?_
    | with_reducible refine Frame.of_fst (by with_reducible assumption) ?_
    | with_reducible refine Frame.snd_mk ?_
    | with_reducible refine Frame.fst_mk ?_
    | with_reducible refine Frame.route_upd b9 ?_

def State.trace_mask : Nat := 0x6020000000030000000000000000000000000000000000000000000000000000000000000000022040000
theorem State.trace_frame {W : Nat} {s0 s : State} {g : LegRun} {level : Nat} {ordinal : Nat} {d : BitVec 256} (hW : Within State.trace_mask W) (h : Frame W s0 s) :
    Frame W s0 (State.trace s g level ordinal d) := by
  have b18 := hW.bit (n := 18) (by decide)
  have b293 := hW.bit (n := 293) (by decide)
  have b292 := hW.bit (n := 292) (by decide)
  have w3 := Within.trans (a := State.raise_mask) rfl hW
  unfold State.trace
  repeat' first
    | intro _
    | with_reducible assumption
    | (extract_lets +onlyGivenNames x; refine Frame.cut (W := W) (s0 := s0) x ?_ ?_; unfold x; clear x; rotate_left; clear_value x; revert x; intro _ _)
    | (extract_lets +onlyGivenNames x; clear_value x; revert x; intro _)
    | with_reducible refine State.inc_frame (F.INTEG_TRACE_DROP_count_kind _) b293 ?_
    | with_reducible refine State.set_frame (F.INTEG_TRACE_TAIL_pos_kind _) b292 ?_
    | with_reducible refine State.raise_frame w3 ?_
    | with_reducible refine Frame.ite ?_ ?_
    | with_reducible refine Frame.foldl ?_ _ _ ?_
    | split
    | with_reducible refine Frame.of_snd (by with_reducible assumption) ?_
    | with_reducible refine Frame.of_fst (by with_reducible assumption) ?_
    | with_reducible refine Frame.snd_mk ?_
    | with_reducible refine Frame.fst_mk ?_
    | with_reducible refine Frame.host_upd b18 ?_

def State.setLeg_mask : Nat := 0x200
theorem State.setLeg_frame {W : Nat} {s0 s : State} {g : LegRun} (hW : Within State.setLeg_mask W) (h : Frame W s0 s) :
    Frame W s0 (State.setLeg s g) := by
  have b9 := hW.bit (n := 9) (by decide)
  unfold State.setLeg
  repeat' first
    | intro _
    | with_reducible assumption
    | (extract_lets +onlyGivenNames x; refine Frame.cut (W := W) (s0 := s0) x ?_ ?_; unfold x; clear x; rotate_left; clear_value x; revert x; intro _ _)
    | (extract_lets +onlyGivenNames x; clear_value x; revert x; intro _)
    | with_reducible refine Frame.ite ?_ ?_
    | with_reducible refine Frame.foldl ?_ _ _ ?_
    | split
    | with_reducible refine Frame.of_snd (by with_reducible assumption) ?_
    | with_reducible refine Frame.of_fst (by with_reducible assumption) ?_
    | with_reducible refine Frame.snd_mk ?_
    | with_reducible refine Frame.fst_mk ?_
    | with_reducible refine Frame.route_upd b9 ?_

def State.legCode_mask : Nat := 0x6020000000000000000000000000000000000000000000000000000000000000000000000000022000200
theorem State.legCode_frame {W : Nat} {s0 s : State} {c : Nat} {id : Nat} {code : Nat} {ps : List Nat} (hW : Within State.legCode_mask W) (h : Frame W s0 s) :
    Frame W s0 (State.legCode s c id code ps) := by
  have w0 := Within.trans (a := State.setLeg_mask) rfl hW
  have w1 := Within.trans (a := State.raiseCore_mask) rfl hW
  unfold State.legCode
  repeat' first
    | intro _
    | with_reducible assumption
    | (extract_lets +onlyGivenNames x; refine Frame.cut (W := W) (s0 := s0) x ?_ ?_; unfold x; clear x; rotate_left; clear_value x; revert x; intro _ _)
    | (extract_lets +onlyGivenNames x; clear_value x; revert x; intro _)
    | with_reducible refine State.setLeg_frame w0 ?_
    | with_reducible refine State.raiseCore_frame w1 ?_
    | with_reducible refine Frame.ite ?_ ?_
    | with_reducible refine Frame.foldl ?_ _ _ ?_
    | split
    | with_reducible refine Frame.of_snd (by with_reducible assumption) ?_
    | with_reducible refine Frame.of_fst (by with_reducible assumption) ?_
    | with_reducible refine Frame.snd_mk ?_
    | with_reducible refine Frame.fst_mk ?_

def State.clearLeg_mask : Nat := 0x100000000000000000000000000000000000000000000000000000000000000000000000000000000000000000180
theorem State.clearLeg_frame {W : Nat} {s0 s : State} {g : LegRun} (hW : Within State.clearLeg_mask W) (h : Frame W s0 s) :
    Frame W s0 (State.clearLeg s g) := by
  have w0 := Within.trans (a := State.setCore_mask) rfl hW
  have w1 := Within.trans (a := State.showCore_mask) rfl hW
  unfold State.clearLeg
  repeat' first
    | intro _
    | with_reducible assumption
    | (extract_lets +onlyGivenNames x; refine Frame.cut (W := W) (s0 := s0) x ?_ ?_; unfold x; clear x; rotate_left; clear_value x; revert x; intro _ _)
    | (extract_lets +onlyGivenNames x; clear_value x; revert x; intro _)
    | with_reducible refine State.setCore_frame w0 ?_
    | with_reducible refine State.showCore_frame w1 ?_
    | with_reducible refine State.each_frame ?_ ?_
    | with_reducible refine Frame.ite ?_ ?_
    | with_reducible refine Frame.foldl ?_ _ _ ?_
    | split
    | with_reducible refine Frame.of_snd (by with_reducible assumption) ?_
    | with_reducible refine Frame.of_fst (by with_reducible assumption) ?_
    | with_reducible refine Frame.snd_mk ?_
    | with_reducible refine Frame.fst_mk ?_

def State.endLeg_mask : Nat := 0x100000000000000000000000000000000000000001de2000000000000000000000000000000000000000000000380
theorem State.endLeg_frame {W : Nat} {s0 s : State} {g : LegRun} (hW : Within State.endLeg_mask W) (h : Frame W s0 s) :
    Frame W s0 (State.endLeg s g) := by
  have w0 := Within.trans (a := State.setIter_mask) rfl hW
  have w1 := Within.trans (a := State.clearLeg_mask) rfl hW
  have w2 := Within.trans (a := State.showPool_mask) rfl hW
  have b9 := hW.bit (n := 9) (by decide)
  unfold State.endLeg
  repeat' first
    | intro _
    | with_reducible assumption
    | (extract_lets +onlyGivenNames x; refine Frame.cut (W := W) (s0 := s0) x ?_ ?_; unfold x; clear x; rotate_left; clear_value x; revert x; intro _ _)
    | (extract_lets +onlyGivenNames x; clear_value x; revert x; intro _)
    | with_reducible refine State.setIter_frame w0 ?_
    | with_reducible refine State.clearLeg_frame w1 ?_
    | with_reducible refine State.showPool_frame w2 ?_
    | with_reducible refine Frame.ite ?_ ?_
    | with_reducible refine Frame.foldl ?_ _ _ ?_
    | split
    | with_reducible refine Frame.of_snd (by with_reducible assumption) ?_
    | with_reducible refine Frame.of_fst (by with_reducible assumption) ?_
    | with_reducible refine Frame.snd_mk ?_
    | with_reducible refine Frame.fst_mk ?_
    | with_reducible refine Frame.route_upd b9 ?_

def State.afterLeg_mask : Nat := 0x602000000000000000000000000001f001fe20000000000000008800e4240100000000000000023444605
theorem State.afterLeg_frame {W : Nat} {s0 s : State} {g : LegRun} {r : LegReport} (hW : Within State.afterLeg_mask W) (h : Frame W s0 s) :
    Frame W s0 (State.afterLeg s g r) := by
  have w0 := Within.trans (a := State.freeJob_mask) rfl hW
  have w1 := Within.trans (a := State.endIter_mask) rfl hW
  have w2 := Within.trans (a := State.completeIter_mask) rfl hW
  have b9 := hW.bit (n := 9) (by decide)
  unfold State.afterLeg
  repeat' first
    | intro _
    | with_reducible assumption
    | (extract_lets +onlyGivenNames x; refine Frame.cut (W := W) (s0 := s0) x ?_ ?_; unfold x; clear x; rotate_left; clear_value x; revert x; intro _ _)
    | (extract_lets +onlyGivenNames x; clear_value x; revert x; intro _)
    | with_reducible refine State.freeJob_frame w0 ?_
    | with_reducible refine State.endIter_frame w1 ?_
    | with_reducible refine State.completeIter_frame w2 ?_
    | with_reducible refine Frame.ite ?_ ?_
    | with_reducible refine Frame.foldl ?_ _ _ ?_
    | split
    | with_reducible refine Frame.of_snd (by with_reducible assumption) ?_
    | with_reducible refine Frame.of_fst (by with_reducible assumption) ?_
    | with_reducible refine Frame.snd_mk ?_
    | with_reducible refine Frame.fst_mk ?_
    | with_reducible refine Frame.route_upd b9 ?_

def State.abortLeg_mask : Nat := 0x10000000602000000000000000000000000001f001fe20000000000000008800e4240100000000000000023444785
theorem State.abortLeg_frame {W : Nat} {s0 s : State} {id : Nat} {cause : Nat} (hW : Within State.abortLeg_mask W) (h : Frame W s0 s) :
    Frame W s0 (State.abortLeg s id cause) := by
  have w0 := Within.trans (a := State.afterLeg_mask) rfl hW
  have w1 := Within.trans (a := State.endLeg_mask) rfl hW
  have w2 := Within.trans (a := State.invalidate_mask) rfl hW
  unfold State.abortLeg
  repeat' first
    | intro _
    | with_reducible assumption
    | (extract_lets +onlyGivenNames x; refine Frame.cut (W := W) (s0 := s0) x ?_ ?_; unfold x; clear x; rotate_left; clear_value x; revert x; intro _ _)
    | (extract_lets +onlyGivenNames x; clear_value x; revert x; intro _)
    | with_reducible refine State.afterLeg_frame w0 ?_
    | with_reducible refine State.endLeg_frame w1 ?_
    | with_reducible refine State.invalidate_frame w2 ?_
    | with_reducible refine Frame.ite ?_ ?_
    | with_reducible refine Frame.foldl ?_ _ _ ?_
    | split
    | with_reducible refine Frame.of_snd (by with_reducible assumption) ?_
    | with_reducible refine Frame.of_fst (by with_reducible assumption) ?_
    | with_reducible refine Frame.snd_mk ?_
    | with_reducible refine Frame.fst_mk ?_

def State.someSlots_mask : Nat := 0x1000000
theorem State.someSlots_snd {W : Nat} {s0 s : State} {g : LegRun} (hW : Within State.someSlots_mask W) (h : Frame W s0 s) :
    Frame W s0 (State.someSlots s g).2 := by
  have b24 := hW.bit (n := 24) (by decide)
  have key : Frame.Snd W s0 (State.someSlots s g) := by
    unfold State.someSlots
    repeat' first
      | intro _
      | with_reducible assumption
      | (extract_lets +onlyGivenNames x; refine Frame.cut (W := W) (s0 := s0) x ?_ ?_; unfold x; clear x; rotate_left; clear_value x; revert x; intro _ _)
      | (extract_lets +onlyGivenNames x; clear_value x; revert x; intro _)
      | with_reducible refine Frame.snd_mk ?_
      | with_reducible refine Frame.ite ?_ ?_
      | with_reducible refine Frame.foldl ?_ _ _ ?_
      | split
      | with_reducible refine Frame.of_snd (by with_reducible assumption) ?_
      | with_reducible refine Frame.of_fst (by with_reducible assumption) ?_
      | with_reducible refine Frame.snd_mk ?_
      | with_reducible refine Frame.fst_mk ?_
      | with_reducible refine Frame.free_upd b24 ?_
      | with_reducible refine Frame.foldl_snd ?_ _ _ ?_
      | with_reducible refine Frame.foldl_fst ?_ _ _ ?_
      | with_reducible refine Frame.foldr_snd ?_ _ _ ?_
      | with_reducible refine Frame.Snd.mk ?_
      | with_reducible refine Frame.Fst.mk ?_
      | dsimp only
  exact key.out
theorem State.someSlots_frame {W : Nat} {s0 s : State} {g : LegRun} {r0 : List Nat} {t : State} (e : State.someSlots s g = (r0, t)) (hW : Within State.someSlots_mask W) (h : Frame W s0 s) :
    Frame W s0 t := by
  have key := State.someSlots_snd (g := g) hW h
  rw [e] at key; exact key

def State.touched_mask : Nat := 0x1000000
theorem State.touched_snd {W : Nat} {s0 s : State} {g : LegRun} {rows : Option (List Nat)} (hW : Within State.touched_mask W) (h : Frame W s0 s) :
    Frame W s0 (State.touched s g rows).2 := by
  have w0 := Within.trans (a := State.someSlots_mask) rfl hW
  have key : Frame.Snd W s0 (State.touched s g rows) := by
    unfold State.touched
    repeat' first
      | intro _
      | with_reducible assumption
      | (extract_lets +onlyGivenNames x; refine Frame.cut (W := W) (s0 := s0) x ?_ ?_; unfold x; clear x; rotate_left; clear_value x; revert x; intro _ _)
      | (extract_lets +onlyGivenNames x; clear_value x; revert x; intro _)
      | with_reducible refine Frame.snd_mk ?_
      | with_reducible refine State.someSlots_snd w0 ?_
      | with_reducible refine Frame.ite ?_ ?_
      | with_reducible refine Frame.foldl ?_ _ _ ?_
      | split
      | with_reducible refine State.someSlots_frame (by with_reducible assumption) w0 ?_
      | with_reducible refine Frame.of_snd (by with_reducible assumption) ?_
      | with_reducible refine Frame.of_fst (by with_reducible assumption) ?_
      | with_reducible refine Frame.snd_mk ?_
      | with_reducible refine Frame.fst_mk ?_
      | with_reducible refine Frame.foldl_snd ?_ _ _ ?_
      | with_reducible refine Frame.foldl_fst ?_ _ _ ?_
      | with_reducible refine Frame.foldr_snd ?_ _ _ ?_
      | with_reducible refine Frame.Snd.mk ?_
      | with_reducible refine Frame.Fst.mk ?_
      | dsimp only
  exact key.out
theorem State.touched_frame {W : Nat} {s0 s : State} {g : LegRun} {rows : Option (List Nat)} {r0 : List Nat} {t : State} (e : State.touched s g rows = (r0, t)) (hW : Within State.touched_mask W) (h : Frame W s0 s) :
    Frame W s0 t := by
  have key := State.touched_snd (g := g) (rows := rows) hW h
  rw [e] at key; exact key

def State.voidSlot_mask : Nat := 0x602000000000000000000000000001f000000000000000000000880000000000000000000000023444600
theorem State.voidSlot_frame {W : Nat} {s0 s : State} {g : LegRun} {k : Nat} {cause : Nat} (hW : Within State.voidSlot_mask W) (h : Frame W s0 s) :
    Frame W s0 (State.voidSlot s g k cause) := by
  have w0 := Within.trans (a := State.setPool_mask) rfl hW
  have w1 := Within.trans (a := State.invalidate_mask) rfl hW
  have b9 := hW.bit (n := 9) (by decide)
  have b22 := hW.bit (n := 22) (by decide)
  unfold State.voidSlot
  repeat' first
    | intro _
    | with_reducible assumption
    | (extract_lets +onlyGivenNames x; refine Frame.cut (W := W) (s0 := s0) x ?_ ?_; unfold x; clear x; rotate_left; clear_value x; revert x; intro _ _)
    | (extract_lets +onlyGivenNames x; refine Frame.cutF (W := W) (s0 := s0) x ?_ ?_; unfold x; clear x; rotate_left; clear_value x; revert x; intro _ _)
    | (extract_lets +onlyGivenNames x; refine Frame.cutG (W := W) (s0 := s0) x ?_ ?_; unfold x; clear x; rotate_left; clear_value x; revert x; intro _ _)
    | (extract_lets +onlyGivenNames x; refine Frame.cutN (W := W) (s0 := s0) x ?_ ?_; unfold x; clear x; rotate_left; clear_value x; revert x; intro _ _)
    | (extract_lets +onlyGivenNames x; refine Frame.cutH (W := W) (s0 := s0) x ?_ ?_; unfold x; clear x; rotate_left; clear_value x; revert x; intro _ _)
    | (extract_lets +onlyGivenNames x; refine Frame.cutI (W := W) (s0 := s0) x ?_ ?_; unfold x; clear x; rotate_left; clear_value x; revert x; intro _ _)
    | (extract_lets +onlyGivenNames x; clear_value x; revert x; intro _)
    | with_reducible refine State.putBytes_frame b22 ?_
    | with_reducible refine State.setPool_frame w0 ?_
    | with_reducible refine State.invalidate_frame w1 ?_
    | with_reducible refine State.each_frame ?_ ?_
    | with_reducible refine Frame.ite ?_ ?_
    | with_reducible refine Frame.foldl ?_ _ _ ?_
    | split
    | with_reducible refine Frame.of_snd (by with_reducible assumption) ?_
    | with_reducible refine Frame.of_fst (by with_reducible assumption) ?_
    | with_reducible refine Frame.snd_mk ?_
    | with_reducible refine Frame.fst_mk ?_
    | with_reducible refine Frame.route_upd b9 ?_
    | solve_by_elim

def State.voidRecord_mask : Nat := 0x400000
theorem State.voidRecord_frame {W : Nat} {s0 s : State} {ring : Nat × Nat} {k : Nat} (hW : Within State.voidRecord_mask W) (h : Frame W s0 s) :
    Frame W s0 (State.voidRecord s ring k) := by
  have b22 := hW.bit (n := 22) (by decide)
  unfold State.voidRecord
  repeat' first
    | intro _
    | with_reducible assumption
    | (extract_lets +onlyGivenNames x; refine Frame.cut (W := W) (s0 := s0) x ?_ ?_; unfold x; clear x; rotate_left; clear_value x; revert x; intro _ _)
    | (extract_lets +onlyGivenNames x; clear_value x; revert x; intro _)
    | with_reducible refine State.putBytes_frame b22 ?_
    | with_reducible refine Frame.ite ?_ ?_
    | with_reducible refine Frame.foldl ?_ _ _ ?_
    | split
    | with_reducible refine Frame.of_snd (by with_reducible assumption) ?_
    | with_reducible refine Frame.of_fst (by with_reducible assumption) ?_
    | with_reducible refine Frame.snd_mk ?_
    | with_reducible refine Frame.fst_mk ?_

def State.breach_mask : Nat := 0x602000000000000000000000000001f000000000000000000000880000000000000000000000023444600
theorem State.breach_frame {W : Nat} {s0 s : State} {c : Nat} {id : Nat} {cause : Nat} {note : Nat} {slots : List Nat} (hW : Within State.breach_mask W) (h : Frame W s0 s) :
    Frame W s0 (State.breach s c id cause note slots) := by
  have w0 := Within.trans (a := State.voidSlot_mask) rfl hW
  have w1 := Within.trans (a := State.raiseCore_mask) rfl hW
  have w2 := Within.trans (a := State.voidRecord_mask) rfl hW
  have w3 := Within.trans (a := State.invalidate_mask) rfl hW
  unfold State.breach
  repeat' first
    | intro _
    | with_reducible assumption
    | (extract_lets +onlyGivenNames x; refine Frame.cut (W := W) (s0 := s0) x ?_ ?_; unfold x; clear x; rotate_left; clear_value x; revert x; intro _ _)
    | (extract_lets +onlyGivenNames x; clear_value x; revert x; intro _)
    | with_reducible refine State.voidSlot_frame w0 ?_
    | with_reducible refine State.raiseCore_frame w1 ?_
    | with_reducible refine State.voidRecord_frame w2 ?_
    | with_reducible refine State.invalidate_frame w3 ?_
    | with_reducible refine State.each_frame ?_ ?_
    | with_reducible refine Frame.ite ?_ ?_
    | with_reducible refine Frame.foldl ?_ _ _ ?_
    | split
    | with_reducible refine Frame.of_snd (by with_reducible assumption) ?_
    | with_reducible refine Frame.of_fst (by with_reducible assumption) ?_
    | with_reducible refine Frame.snd_mk ?_
    | with_reducible refine Frame.fst_mk ?_

def State.keepDigest_mask : Nat := 0x100000
theorem State.keepDigest_frame {W : Nat} {s0 s : State} {g : LegRun} {d : BitVec 256} (hW : Within State.keepDigest_mask W) (h : Frame W s0 s) :
    Frame W s0 (State.keepDigest s g d) := by
  have b20 := hW.bit (n := 20) (by decide)
  unfold State.keepDigest
  repeat' first
    | intro _
    | with_reducible assumption
    | (extract_lets +onlyGivenNames x; refine Frame.cut (W := W) (s0 := s0) x ?_ ?_; unfold x; clear x; rotate_left; clear_value x; revert x; intro _ _)
    | (extract_lets +onlyGivenNames x; clear_value x; revert x; intro _)
    | with_reducible refine Frame.ite ?_ ?_
    | with_reducible refine Frame.foldl ?_ _ _ ?_
    | split
    | with_reducible refine Frame.of_snd (by with_reducible assumption) ?_
    | with_reducible refine Frame.of_fst (by with_reducible assumption) ?_
    | with_reducible refine Frame.snd_mk ?_
    | with_reducible refine Frame.fst_mk ?_
    | with_reducible refine Frame.integ_upd b20 ?_

def State.tieBreak_mask : Nat := 0x2580000006020800000000000000000000000000000000000000000000000000000000000000000000000022500380
theorem State.tieBreak_frame {W : Nat} {s0 s : State} {g : LegRun} (hW : Within State.tieBreak_mask W) (h : Frame W s0 s) :
    Frame W s0 (State.tieBreak s g) := by
  have b20 := hW.bit (n := 20) (by decide)
  have b323 := hW.bit (n := 323) (by decide)
  have w2 := Within.trans (a := State.coreRecompute_mask) rfl hW
  have w3 := Within.trans (a := State.raise_mask) rfl hW
  unfold State.tieBreak
  repeat' first
    | intro _
    | with_reducible assumption
    | (extract_lets +onlyGivenNames x; refine Frame.cut (W := W) (s0 := s0) x ?_ ?_; unfold x; clear x; rotate_left; clear_value x; revert x; intro _ _)
    | (extract_lets +onlyGivenNames x; clear_value x; revert x; intro _)
    | with_reducible refine State.inc_frame (F.INTEG_RECOMP_FAULT_unresolved_kind _) b323 ?_
    | with_reducible refine State.coreRecompute_frame w2 ?_
    | with_reducible refine State.raise_frame w3 ?_
    | with_reducible refine Frame.ite ?_ ?_
    | with_reducible refine Frame.foldl ?_ _ _ ?_
    | split
    | with_reducible refine Frame.of_snd (by with_reducible assumption) ?_
    | with_reducible refine Frame.of_fst (by with_reducible assumption) ?_
    | with_reducible refine Frame.snd_mk ?_
    | with_reducible refine Frame.fst_mk ?_
    | with_reducible refine Frame.integ_upd b20 ?_

def State.legDone_mask : Nat := 0x258000000602080000003002004000000000001f001fe20000000000000008c00e42401000000000000000235c4785
theorem State.legDone_frame {W : Nat} {s0 s : State} {g : LegRun} {r : LegReport} (hW : Within State.legDone_mask W) (h : Frame W s0 s) :
    Frame W s0 (State.legDone s g r) := by
  have w0 := Within.trans (a := State.raiseCore_mask) rfl hW
  have w1 := Within.trans (a := State.keepDigest_mask) rfl hW
  have w2 := Within.trans (a := State.tieBreak_mask) rfl hW
  have w3 := Within.trans (a := State.trace_mask) rfl hW
  have w4 := Within.trans (a := State.kickAll_mask) rfl hW
  have w5 := Within.trans (a := State.observe_mask) rfl hW
  have w6 := Within.trans (a := State.releaseEvents_mask) rfl hW
  have w7 := Within.trans (a := State.seamRead_mask) rfl hW
  have w8 := Within.trans (a := State.setPool_mask) rfl hW
  have w9 := Within.trans (a := State.endLeg_mask) rfl hW
  have w10 := Within.trans (a := State.afterLeg_mask) rfl hW
  unfold State.legDone
  repeat' first
    | intro _
    | with_reducible assumption
    | (extract_lets +onlyGivenNames x; refine Frame.cut (W := W) (s0 := s0) x ?_ ?_; unfold x; clear x; rotate_left; clear_value x; revert x; intro _ _)
    | (extract_lets +onlyGivenNames x; clear_value x; revert x; intro _)
    | with_reducible refine State.raiseCore_frame w0 ?_
    | with_reducible refine State.keepDigest_frame w1 ?_
    | with_reducible refine State.tieBreak_frame w2 ?_
    | with_reducible refine State.trace_frame w3 ?_
    | with_reducible refine State.kickAll_frame w4 ?_
    | with_reducible refine State.observe_frame w5 ?_
    | with_reducible refine State.releaseEvents_frame w6 ?_
    | with_reducible refine State.seamRead_frame w7 ?_
    | with_reducible refine State.setPool_frame w8 ?_
    | with_reducible refine State.endLeg_frame w9 ?_
    | with_reducible refine State.afterLeg_frame w10 ?_
    | with_reducible refine State.each_frame ?_ ?_
    | with_reducible refine Frame.ite ?_ ?_
    | with_reducible refine Frame.foldl ?_ _ _ ?_
    | split
    | with_reducible refine Frame.of_snd (by with_reducible assumption) ?_
    | with_reducible refine Frame.of_fst (by with_reducible assumption) ?_
    | with_reducible refine Frame.snd_mk ?_
    | with_reducible refine Frame.fst_mk ?_

def execLegComplete_mask : Nat := 0x258000c00602080000003002084000000000501f001fe20000000000000008c00e42401000000000000000235cc785
theorem execLegComplete_frame {s nx : State} {c : CoreId} {k : Fin 256} {r : LegReport} (e : execLegComplete c k r s = .next nx) : Frame execLegComplete_mask s nx := by
  refine State.run_frame rfl (fun W s0 s hW h => ?_) e
  have w0 := Within.trans (a := State.perfEvent_mask) rfl hW
  have w1 := Within.trans (a := State.showCore_mask) rfl hW
  have w2 := Within.trans (a := State.setLeg_mask) rfl hW
  have w3 := Within.trans (a := State.legDone_mask) rfl hW
  repeat' first
    | intro _
    | with_reducible assumption
    | (extract_lets +onlyGivenNames x; refine Frame.cut (W := W) (s0 := s0) x ?_ ?_; unfold x; clear x; rotate_left; clear_value x; revert x; intro _ _)
    | (extract_lets +onlyGivenNames x; clear_value x; revert x; intro _)
    | with_reducible refine State.perfEvent_frame w0 ?_
    | with_reducible refine State.showCore_frame w1 ?_
    | with_reducible refine State.setLeg_frame w2 ?_
    | with_reducible refine State.legDone_frame w3 ?_
    | with_reducible refine Frame.ite ?_ ?_
    | with_reducible refine Frame.foldl ?_ _ _ ?_
    | split
    | with_reducible refine Frame.of_snd (by with_reducible assumption) ?_
    | with_reducible refine Frame.of_fst (by with_reducible assumption) ?_

def execReloadTimeout_mask : Nat := 0x602000000000000080000000000501f001fe200000000000000088000020000000000000000002344c605
theorem execReloadTimeout_frame {s nx : State} {p : Part} (e : execReloadTimeout p s = .next nx) : Frame execReloadTimeout_mask s nx := by
  refine State.run_frame rfl (fun W s0 s hW h => ?_) e
  have w0 := Within.trans (a := State.setPool_mask) rfl hW
  have w1 := Within.trans (a := State.endIter_mask) rfl hW
  have w2 := Within.trans (a := State.invalidate_mask) rfl hW
  have w3 := Within.trans (a := State.raise_mask) rfl hW
  have w4 := Within.trans (a := State.dropOld_mask) rfl hW
  have b9 := hW.bit (n := 9) (by decide)
  repeat' first
    | intro _
    | with_reducible assumption
    | (extract_lets +onlyGivenNames x; refine Frame.cut (W := W) (s0 := s0) x ?_ ?_; unfold x; clear x; rotate_left; clear_value x; revert x; intro _ _)
    | (extract_lets +onlyGivenNames x; refine Frame.cutF (W := W) (s0 := s0) x ?_ ?_; unfold x; clear x; rotate_left; clear_value x; revert x; intro _ _)
    | (extract_lets +onlyGivenNames x; refine Frame.cutG (W := W) (s0 := s0) x ?_ ?_; unfold x; clear x; rotate_left; clear_value x; revert x; intro _ _)
    | (extract_lets +onlyGivenNames x; refine Frame.cutN (W := W) (s0 := s0) x ?_ ?_; unfold x; clear x; rotate_left; clear_value x; revert x; intro _ _)
    | (extract_lets +onlyGivenNames x; refine Frame.cutH (W := W) (s0 := s0) x ?_ ?_; unfold x; clear x; rotate_left; clear_value x; revert x; intro _ _)
    | (extract_lets +onlyGivenNames x; refine Frame.cutI (W := W) (s0 := s0) x ?_ ?_; unfold x; clear x; rotate_left; clear_value x; revert x; intro _ _)
    | (extract_lets +onlyGivenNames x; clear_value x; revert x; intro _)
    | with_reducible refine State.setPool_frame w0 ?_
    | with_reducible refine State.endIter_frame w1 ?_
    | with_reducible refine State.invalidate_frame w2 ?_
    | with_reducible refine State.raise_frame w3 ?_
    | with_reducible refine State.dropOld_frame w4 ?_
    | with_reducible refine State.each_frame ?_ ?_
    | with_reducible refine Frame.ite ?_ ?_
    | with_reducible refine Frame.foldl ?_ _ _ ?_
    | split
    | with_reducible refine Frame.of_snd (by with_reducible assumption) ?_
    | with_reducible refine Frame.of_fst (by with_reducible assumption) ?_
    | with_reducible refine Frame.snd_mk ?_
    | with_reducible refine Frame.fst_mk ?_
    | with_reducible refine Frame.route_upd b9 ?_
    | solve_by_elim

def State.landJobs_mask : Nat := 0x602000000000000000000000000001f001de2000000000000000880004240100000000000000023444600
theorem State.landJobs_frame {W : Nat} {s0 s : State} {n : Nat} (hW : Within State.landJobs_mask W) (h : Frame W s0 s) :
    Frame W s0 (State.landJobs s n) := by
  have b110 := hW.bit (n := 110) (by decide)
  have w0 := Within.trans (a := State.setPool_mask) rfl hW
  have w1 := Within.trans (a := State.showPool_mask) rfl hW
  have w2 := Within.trans (a := State.invalidate_mask) rfl hW
  have w3 := Within.trans (a := State.endIter_mask) rfl hW
  have w4 := Within.trans (a := State.raise_mask) rfl hW
  have w5 := Within.trans (a := State.freeJob_mask) rfl hW
  have b9 := hW.bit (n := 9) (by decide)
  unfold State.landJobs
  repeat' first
    | intro _
    | with_reducible assumption
    | (extract_lets +onlyGivenNames x; refine Frame.cut (W := W) (s0 := s0) x ?_ ?_; unfold x; clear x; rotate_left; clear_value x; revert x; intro _ _)
    | (extract_lets +onlyGivenNames x; clear_value x; revert x; intro _)
    | with_reducible refine State.set_frame (F.ROUTE_JOB_state_kind _) b110 ?_
    | with_reducible refine State.setPool_frame w0 ?_
    | with_reducible refine State.showPool_frame w1 ?_
    | with_reducible refine State.invalidate_frame w2 ?_
    | with_reducible refine State.endIter_frame w3 ?_
    | with_reducible refine State.raise_frame w4 ?_
    | with_reducible refine State.freeJob_frame w5 ?_
    | with_reducible refine State.each_frame ?_ ?_
    | with_reducible refine Frame.ite ?_ ?_
    | with_reducible refine Frame.foldl ?_ _ _ ?_
    | split
    | with_reducible refine Frame.of_snd (by with_reducible assumption) ?_
    | with_reducible refine Frame.of_fst (by with_reducible assumption) ?_
    | with_reducible refine Frame.snd_mk ?_
    | with_reducible refine Frame.fst_mk ?_
    | with_reducible refine Frame.route_upd b9 ?_

def State.landDefers_mask : Nat := 0x2000000000000000000000000200
theorem State.landDefers_frame {W : Nat} {s0 s : State} (hW : Within State.landDefers_mask W) (h : Frame W s0 s) :
    Frame W s0 (State.landDefers s) := by
  have b109 := hW.bit (n := 109) (by decide)
  have b9 := hW.bit (n := 9) (by decide)
  unfold State.landDefers
  repeat' first
    | intro _
    | with_reducible assumption
    | (extract_lets +onlyGivenNames x; refine Frame.cut (W := W) (s0 := s0) x ?_ ?_; unfold x; clear x; rotate_left; clear_value x; revert x; intro _ _)
    | (extract_lets +onlyGivenNames x; clear_value x; revert x; intro _)
    | with_reducible refine State.addSat_frame (F.ROUTE_DEFER_legs_kind _) b109 ?_
    | with_reducible refine State.addSat_frame (F.ROUTE_DEFER_slots_kind _) b109 ?_
    | with_reducible refine State.each_frame ?_ ?_
    | with_reducible refine Frame.ite ?_ ?_
    | with_reducible refine Frame.foldl ?_ _ _ ?_
    | split
    | with_reducible refine Frame.of_snd (by with_reducible assumption) ?_
    | with_reducible refine Frame.of_fst (by with_reducible assumption) ?_
    | with_reducible refine Frame.snd_mk ?_
    | with_reducible refine Frame.fst_mk ?_
    | with_reducible refine Frame.route_upd b9 ?_

def State.markParts_mask : Nat := 0x200
theorem State.markParts_frame {W : Nat} {s0 s : State} (hW : Within State.markParts_mask W) (h : Frame W s0 s) :
    Frame W s0 (State.markParts s) := by
  have b9 := hW.bit (n := 9) (by decide)
  unfold State.markParts
  repeat' first
    | intro _
    | with_reducible assumption
    | (extract_lets +onlyGivenNames x; refine Frame.cut (W := W) (s0 := s0) x ?_ ?_; unfold x; clear x; rotate_left; clear_value x; revert x; intro _ _)
    | (extract_lets +onlyGivenNames x; clear_value x; revert x; intro _)
    | with_reducible refine Frame.ite ?_ ?_
    | with_reducible refine Frame.foldl ?_ _ _ ?_
    | split
    | with_reducible refine Frame.of_snd (by with_reducible assumption) ?_
    | with_reducible refine Frame.of_fst (by with_reducible assumption) ?_
    | with_reducible refine Frame.snd_mk ?_
    | with_reducible refine Frame.fst_mk ?_
    | with_reducible refine Frame.route_upd b9 ?_
    | with_reducible refine Frame.foldl_snd ?_ _ _ ?_
    | with_reducible refine Frame.foldl_fst ?_ _ _ ?_
    | with_reducible refine Frame.foldr_snd ?_ _ _ ?_
    | with_reducible refine Frame.Snd.mk ?_
    | with_reducible refine Frame.Fst.mk ?_
    | dsimp only

def State.landCuts_mask : Nat := 0x6020000000000000000000000000000000000000000000000000000600c00000000000000000022000200
theorem State.landCuts_frame {W : Nat} {s0 s : State} {n : Nat} (hW : Within State.landCuts_mask W) (h : Frame W s0 s) :
    Frame W s0 (State.landCuts s n) := by
  have b9 := hW.bit (n := 9) (by decide)
  have b106 := hW.bit (n := 106) (by decide)
  have b118 := hW.bit (n := 118) (by decide)
  have b117 := hW.bit (n := 117) (by decide)
  have b107 := hW.bit (n := 107) (by decide)
  have w5 := Within.trans (a := State.raise_mask) rfl hW
  unfold State.landCuts
  repeat' first
    | intro _
    | with_reducible assumption
    | (extract_lets +onlyGivenNames x; refine Frame.cut (W := W) (s0 := s0) x ?_ ?_; unfold x; clear x; rotate_left; clear_value x; revert x; intro _ _)
    | (extract_lets +onlyGivenNames x; clear_value x; revert x; intro _)
    | with_reducible refine State.set_frame (F.ROUTE_BW_share_kind _) b106 ?_
    | with_reducible refine State.set_frame (F.ROUTE_WIN_LEN_ticks_kind _) b118 ?_
    | with_reducible refine State.set_frame (F.ROUTE_WIN_START_tick_kind _) b117 ?_
    | with_reducible refine State.setB_frame (F.ROUTE_PENDING_weight_kind _) b107 ?_
    | with_reducible refine State.setB_frame (F.ROUTE_PENDING_window_kind _) b107 ?_
    | with_reducible refine State.setB_frame (F.ROUTE_PENDING_bandwidth_kind _) b107 ?_
    | with_reducible refine State.each_frame ?_ ?_
    | with_reducible refine State.raise_frame w5 ?_
    | with_reducible refine Frame.ite ?_ ?_
    | with_reducible refine Frame.foldl ?_ _ _ ?_
    | split
    | with_reducible refine Frame.of_snd (by with_reducible assumption) ?_
    | with_reducible refine Frame.of_fst (by with_reducible assumption) ?_
    | with_reducible refine Frame.snd_mk ?_
    | with_reducible refine Frame.fst_mk ?_
    | with_reducible refine Frame.route_upd b9 ?_

def State.writeLengths_mask : Nat := 0x400000
theorem State.writeLengths_frame {W : Nat} {s0 s : State} {g : LegRun} (hW : Within State.writeLengths_mask W) (h : Frame W s0 s) :
    Frame W s0 (State.writeLengths s g) := by
  have b22 := hW.bit (n := 22) (by decide)
  unfold State.writeLengths
  repeat' first
    | intro _
    | with_reducible assumption
    | (extract_lets +onlyGivenNames x; refine Frame.cut (W := W) (s0 := s0) x ?_ ?_; unfold x; clear x; rotate_left; clear_value x; revert x; intro _ _)
    | (extract_lets +onlyGivenNames x; clear_value x; revert x; intro _)
    | with_reducible refine State.putBytes_frame b22 ?_
    | with_reducible refine State.each_frame ?_ ?_
    | with_reducible refine Frame.ite ?_ ?_
    | with_reducible refine Frame.foldl ?_ _ _ ?_
    | split
    | with_reducible refine Frame.of_snd (by with_reducible assumption) ?_
    | with_reducible refine Frame.of_fst (by with_reducible assumption) ?_
    | with_reducible refine Frame.snd_mk ?_
    | with_reducible refine Frame.fst_mk ?_

def State.bindVerges_mask : Nat := 0x400000
theorem State.bindVerges_frame {W : Nat} {s0 s : State} {g : LegRun} (hW : Within State.bindVerges_mask W) (h : Frame W s0 s) :
    Frame W s0 (State.bindVerges s g) := by
  have b22 := hW.bit (n := 22) (by decide)
  unfold State.bindVerges
  repeat' first
    | intro _
    | with_reducible assumption
    | (extract_lets +onlyGivenNames x; refine Frame.cut (W := W) (s0 := s0) x ?_ ?_; unfold x; clear x; rotate_left; clear_value x; revert x; intro _ _)
    | (extract_lets +onlyGivenNames x; clear_value x; revert x; intro _)
    | with_reducible refine State.putBytes_frame b22 ?_
    | with_reducible refine State.each_frame ?_ ?_
    | with_reducible refine Frame.ite ?_ ?_
    | with_reducible refine Frame.foldl ?_ _ _ ?_
    | split
    | with_reducible refine Frame.of_snd (by with_reducible assumption) ?_
    | with_reducible refine Frame.of_fst (by with_reducible assumption) ?_
    | with_reducible refine Frame.snd_mk ?_
    | with_reducible refine Frame.fst_mk ?_

def State.startSheets_mask : Nat := 0x100000006020000000000000000000000000000000000000000000000000000000000000000000000000022400680
theorem State.startSheets_frame {W : Nat} {s0 s : State} {n : Nat} (hW : Within State.startSheets_mask W) (h : Frame W s0 s) :
    Frame W s0 (State.startSheets s n) := by
  have w0 := Within.trans (a := State.markParts_mask) rfl hW
  have w1 := Within.trans (a := State.writeLengths_mask) rfl hW
  have w2 := Within.trans (a := State.bindVerges_mask) rfl hW
  have w3 := Within.trans (a := State.showCore_mask) rfl hW
  have w4 := Within.trans (a := State.raise_mask) rfl hW
  have w5 := Within.trans (a := State.setPool_mask) rfl hW
  have b9 := hW.bit (n := 9) (by decide)
  unfold State.startSheets
  repeat' first
    | intro _
    | with_reducible assumption
    | (extract_lets +onlyGivenNames x; refine Frame.cut (W := W) (s0 := s0) x ?_ ?_; unfold x; clear x; rotate_left; clear_value x; revert x; intro _ _)
    | (extract_lets +onlyGivenNames x; clear_value x; revert x; intro _)
    | with_reducible refine State.markParts_frame w0 ?_
    | with_reducible refine State.writeLengths_frame w1 ?_
    | with_reducible refine State.bindVerges_frame w2 ?_
    | with_reducible refine State.showCore_frame w3 ?_
    | with_reducible refine State.raise_frame w4 ?_
    | with_reducible refine State.setPool_frame w5 ?_
    | with_reducible refine State.each_frame ?_ ?_
    | with_reducible refine Frame.ite ?_ ?_
    | with_reducible refine Frame.foldl ?_ _ _ ?_
    | split
    | with_reducible refine Frame.of_snd (by with_reducible assumption) ?_
    | with_reducible refine Frame.of_fst (by with_reducible assumption) ?_
    | with_reducible refine Frame.snd_mk ?_
    | with_reducible refine Frame.fst_mk ?_
    | with_reducible refine Frame.route_upd b9 ?_

def State.clearBaseline_mask : Nat := 0x60000000000000000000000000200
theorem State.clearBaseline_frame {W : Nat} {s0 s : State} {j : Nat} (hW : Within State.clearBaseline_mask W) (h : Frame W s0 s) :
    Frame W s0 (State.clearBaseline s j) := by
  have b113 := hW.bit (n := 113) (by decide)
  have b114 := hW.bit (n := 114) (by decide)
  have w2 := Within.trans (a := State.setJob_mask) rfl hW
  unfold State.clearBaseline
  repeat' first
    | intro _
    | with_reducible assumption
    | (extract_lets +onlyGivenNames x; refine Frame.cut (W := W) (s0 := s0) x ?_ ?_; unfold x; clear x; rotate_left; clear_value x; revert x; intro _ _)
    | (extract_lets +onlyGivenNames x; clear_value x; revert x; intro _)
    | with_reducible refine State.set_frame (F.ROUTE_SLOWDOWN_slowdown_kind _) b113 ?_
    | with_reducible refine State.set_frame (F.ROUTE_BASELINE_ns_kind _) b114 ?_
    | with_reducible refine State.setJob_frame w2 ?_
    | with_reducible refine Frame.ite ?_ ?_
    | with_reducible refine Frame.foldl ?_ _ _ ?_
    | split
    | with_reducible refine Frame.of_snd (by with_reducible assumption) ?_
    | with_reducible refine Frame.of_fst (by with_reducible assumption) ?_
    | with_reducible refine Frame.snd_mk ?_
    | with_reducible refine Frame.fst_mk ?_

end Sys2Proof.Machine
end

