-- ==== Sys2Proof/Laws/MemCheck.lean ====
section
/-! SUPPORT. What the operations of Machine/MemCheck.lean change: each differs from its argument in the areas of its mask alone. -/

set_option linter.all false

namespace Sys2Proof.Machine

def State.capture_mask : Nat := 0x1f0000000000000000000000000000000000000000000000000000000000000000000000000000000
theorem State.capture_frame {W : Nat} {s0 s : State} {a : Nat} {b : BadLine} (hW : Within State.capture_mask W) (h : Frame W s0 s) :
    Frame W s0 (State.capture s a b) := by
  have b316 := hW.bit (n := 316) (by decide)
  have b318 := hW.bit (n := 318) (by decide)
  have b317 := hW.bit (n := 317) (by decide)
  have b319 := hW.bit (n := 319) (by decide)
  have b320 := hW.bit (n := 320) (by decide)
  unfold State.capture
  repeat' first
    | intro _
    | with_reducible assumption
    | (extract_lets +onlyGivenNames x; refine Frame.cut (W := W) (s0 := s0) x ?_ ?_; unfold x; clear x; rotate_left; clear_value x; revert x; intro _ _)
    | (extract_lets +onlyGivenNames x; clear_value x; revert x; intro _)
    | with_reducible refine State.set_frame (F.INTEG_CAP_LOC_bank_kind) b316 ?_
    | with_reducible refine State.set_frame (F.INTEG_CAP_LOC_unit_kind) b316 ?_
    | with_reducible refine State.set_frame (F.INTEG_CAP_LOC_kind_kind) b316 ?_
    | with_reducible refine State.set_frame (F.INTEG_CAP_CRC_value_kind) b318 ?_
    | with_reducible refine State.set_frame (F.INTEG_CAP_ADDR_line_kind) b317 ?_
    | with_reducible refine State.set_frame (F.INTEG_CAP_LOC_valid_kind) b316 ?_
    | with_reducible refine State.set_frame (F.INTEG_CAP_DATA_word_kind _) b319 ?_
    | with_reducible refine State.set_frame (F.INTEG_CAP_CHECK_word_kind _) b320 ?_
    | with_reducible refine State.each_frame ?_ ?_
    | with_reducible refine Frame.ite ?_ ?_
    | with_reducible refine Frame.foldl ?_ _ _ ?_
    | split
    | with_reducible refine Frame.of_snd (by with_reducible assumption) ?_
    | with_reducible refine Frame.of_fst (by with_reducible assumption) ?_
    | with_reducible refine Frame.snd_mk ?_
    | with_reducible refine Frame.fst_mk ?_

def State.noteCorrected_mask : Nat := 0x2d800000060201f0000200000000000000000000000000000000000000000000000000000000000000000022400380
theorem State.noteCorrected_frame {W : Nat} {s0 s : State} {a : Nat} {b : BadLine} (hW : Within State.noteCorrected_mask W) (h : Frame W s0 s) :
    Frame W s0 (State.noteCorrected s a b) := by
  have b297 := hW.bit (n := 297) (by decide)
  have w1 := Within.trans (a := State.capture_mask) rfl hW
  have w2 := Within.trans (a := State.raise_mask) rfl hW
  have w3 := Within.trans (a := State.coreCorrected_mask) rfl hW
  unfold State.noteCorrected
  repeat' first
    | intro _
    | with_reducible assumption
    | (extract_lets +onlyGivenNames x; refine Frame.cut (W := W) (s0 := s0) x ?_ ?_; unfold x; clear x; rotate_left; clear_value x; revert x; intro _ _)
    | (extract_lets +onlyGivenNames x; clear_value x; revert x; intro _)
    | with_reducible refine State.inc_frame (F.INTEG_ERR_CORR_count_kind _) b297 ?_
    | with_reducible refine State.capture_frame w1 ?_
    | with_reducible refine State.raise_frame w2 ?_
    | with_reducible refine State.coreCorrected_frame w3 ?_
    | with_reducible refine Frame.ite ?_ ?_
    | with_reducible refine Frame.foldl ?_ _ _ ?_
    | split
    | with_reducible refine Frame.of_snd (by with_reducible assumption) ?_
    | with_reducible refine Frame.of_fst (by with_reducible assumption) ?_
    | with_reducible refine Frame.snd_mk ?_
    | with_reducible refine Frame.fst_mk ?_

def State.noteUncorrected_mask : Nat := 0x2d800000060201f000040000118000000000000100000000000000000000000000000000000000000000002248c380
theorem State.noteUncorrected_frame {W : Nat} {s0 s : State} {a : Nat} {b : BadLine} (hW : Within State.noteUncorrected_mask W) (h : Frame W s0 s) :
    Frame W s0 (State.noteUncorrected s a b) := by
  have b7 := hW.bit (n := 7) (by decide)
  have b298 := hW.bit (n := 298) (by decide)
  have w2 := Within.trans (a := State.capture_mask) rfl hW
  have w3 := Within.trans (a := State.raise_mask) rfl hW
  have w4 := Within.trans (a := State.coreUncorrected_mask) rfl hW
  have w5 := Within.trans (a := State.failCore_mask) rfl hW
  have w6 := Within.trans (a := State.enterSafeHeld_mask) rfl hW
  unfold State.noteUncorrected
  repeat' first
    | intro _
    | with_reducible assumption
    | (extract_lets +onlyGivenNames x; refine Frame.cut (W := W) (s0 := s0) x ?_ ?_; unfold x; clear x; rotate_left; clear_value x; revert x; intro _ _)
    | (extract_lets +onlyGivenNames x; clear_value x; revert x; intro _)
    | with_reducible refine State.inc_frame (F.INTEG_ERR_UNCORR_count_kind _) b298 ?_
    | with_reducible refine State.capture_frame w2 ?_
    | with_reducible refine State.raise_frame w3 ?_
    | with_reducible refine State.coreUncorrected_frame w4 ?_
    | with_reducible refine State.each_frame ?_ ?_
    | with_reducible refine State.failCore_frame w5 ?_
    | with_reducible refine State.enterSafeHeld_frame w6 ?_
    | with_reducible refine Frame.ite ?_ ?_
    | with_reducible refine Frame.foldl ?_ _ _ ?_
    | split
    | with_reducible refine Frame.of_snd (by with_reducible assumption) ?_
    | with_reducible refine Frame.of_fst (by with_reducible assumption) ?_
    | with_reducible refine Frame.snd_mk ?_
    | with_reducible refine Frame.fst_mk ?_
    | with_reducible refine Frame.cores_upd b7 ?_

def State.store_mask : Nat := 0x1000000000000000000000000000000000000000000000000000000000000000000000500000
theorem State.store_frame {W : Nat} {s0 s : State} {a : Nat} {bs : List Byte} (hW : Within State.store_mask W) (h : Frame W s0 s) :
    Frame W s0 (State.store s a bs) := by
  have b20 := hW.bit (n := 20) (by decide)
  have b300 := hW.bit (n := 300) (by decide)
  have b22 := hW.bit (n := 22) (by decide)
  unfold State.store
  repeat' first
    | intro _
    | with_reducible assumption
    | (extract_lets +onlyGivenNames x; refine Frame.cut (W := W) (s0 := s0) x ?_ ?_; unfold x; clear x; rotate_left; clear_value x; revert x; intro _ _)
    | (extract_lets +onlyGivenNames x; clear_value x; revert x; intro _)
    | with_reducible refine State.set_frame (F.INTEG_HBM_poisoned_kind) b300 ?_
    | with_reducible refine State.putBytes_frame b22 ?_
    | with_reducible refine Frame.ite ?_ ?_
    | with_reducible refine Frame.foldl ?_ _ _ ?_
    | split
    | with_reducible refine Frame.of_snd (by with_reducible assumption) ?_
    | with_reducible refine Frame.of_fst (by with_reducible assumption) ?_
    | with_reducible refine Frame.snd_mk ?_
    | with_reducible refine Frame.fst_mk ?_
    | with_reducible refine Frame.integ_upd b20 ?_

def State.storeAll_mask : Nat := 0x1000000000000000000000000000000000000000000000000000000000000000000000500000
theorem State.storeAll_frame {W : Nat} {s0 s : State} {ws : List (Nat × List Byte)} (hW : Within State.storeAll_mask W) (h : Frame W s0 s) :
    Frame W s0 (State.storeAll s ws) := by
  have w0 := Within.trans (a := State.store_mask) rfl hW
  unfold State.storeAll
  repeat' first
    | intro _
    | with_reducible assumption
    | (extract_lets +onlyGivenNames x; refine Frame.cut (W := W) (s0 := s0) x ?_ ?_; unfold x; clear x; rotate_left; clear_value x; revert x; intro _ _)
    | (extract_lets +onlyGivenNames x; clear_value x; revert x; intro _)
    | with_reducible refine State.each_frame ?_ ?_
    | with_reducible refine State.store_frame w0 ?_
    | with_reducible refine Frame.ite ?_ ?_
    | with_reducible refine Frame.foldl ?_ _ _ ?_
    | split
    | with_reducible refine Frame.of_snd (by with_reducible assumption) ?_
    | with_reducible refine Frame.of_fst (by with_reducible assumption) ?_
    | with_reducible refine Frame.snd_mk ?_
    | with_reducible refine Frame.fst_mk ?_

def State.replayLeg_mask : Nat := 0x10000000602000000080000000000000000001f001fe20000000000000008800e4240100000000000000023444785
theorem State.replayLeg_frame {W : Nat} {s0 s : State} {id : Nat} {c : Nat} {kind : Nat} (hW : Within State.replayLeg_mask W) (h : Frame W s0 s) :
    Frame W s0 (State.replayLeg s id c kind) := by
  have b299 := hW.bit (n := 299) (by decide)
  have w1 := Within.trans (a := State.clearLeg_mask) rfl hW
  have w2 := Within.trans (a := State.setLeg_mask) rfl hW
  have w3 := Within.trans (a := State.raise_mask) rfl hW
  have w4 := Within.trans (a := State.abortLeg_mask) rfl hW
  unfold State.replayLeg
  repeat' first
    | intro _
    | with_reducible assumption
    | (extract_lets +onlyGivenNames x; refine Frame.cut (W := W) (s0 := s0) x ?_ ?_; unfold x; clear x; rotate_left; clear_value x; revert x; intro _ _)
    | (extract_lets +onlyGivenNames x; clear_value x; revert x; intro _)
    | with_reducible refine State.inc_frame (F.INTEG_ERR_RETRY_replays_kind _) b299 ?_
    | with_reducible refine State.clearLeg_frame w1 ?_
    | with_reducible refine State.setLeg_frame w2 ?_
    | with_reducible refine State.raise_frame w3 ?_
    | with_reducible refine State.abortLeg_frame w4 ?_
    | with_reducible refine Frame.ite ?_ ?_
    | with_reducible refine Frame.foldl ?_ _ _ ?_
    | split
    | with_reducible refine Frame.of_snd (by with_reducible assumption) ?_
    | with_reducible refine Frame.of_fst (by with_reducible assumption) ?_
    | with_reducible refine Frame.snd_mk ?_
    | with_reducible refine Frame.fst_mk ?_

def State.refetch_mask : Nat := 0xc006020000001800000000000000000000000000000000000000000000000000000000000000000022500000
theorem State.refetch_frame {W : Nat} {s0 s : State} {c l : Nat} {id : Option Nat} {t : State} (e : s.refetch c l id = some t)
    (hW : Within State.refetch_mask W) (h : Frame W s0 s) : Frame W s0 t := by
  have b := hW.bit (n := 299) (by decide)
  have w1 := Within.trans (a := State.raise_mask) rfl hW
  have w2 := Within.trans (a := State.perfEvent_mask) rfl hW
  have w3 := Within.trans (a := State.store_mask) rfl hW
  unfold State.refetch at e
  split at e
  · exact (Option.some_ne_none _ e.symm).elim
  · obtain ⟨f, -, e⟩ := Option.bind_eq_some_iff.mp e
    extract_lets src again s1 s2 at e
    split at e
    · exact (Option.some_ne_none _ e.symm).elim
    · rw [← Option.some.inj e]
      have h1 : Frame W s0 s1 := State.raise_frame w1 (State.inc_frame (F.INTEG_ERR_RETRY_refetches_kind _) b h)
      exact State.store_frame w3 (State.perfEvent_frame w2 h1)

def State.checkRead_mask : Nat := 0x2d8000c0060201f0001e0000118000000000001f001fe20000000000000008800e42401000000000000000235cc785
theorem State.checkRead_snd {W : Nat} {s0 s : State} {c : Nat} {id : Option Nat} {rs : List (Nat × Nat)} (hW : Within State.checkRead_mask W) (h : Frame W s0 s) :
    Frame W s0 (State.checkRead s c id rs).2 := by
  have w0 := Within.trans (a := State.perfEvent_mask) rfl hW
  have w1 := Within.trans (a := State.noteCorrected_mask) rfl hW
  have w2 := Within.trans (a := State.noteUncorrected_mask) rfl hW
  have w3 := Within.trans (a := State.refetch_mask) rfl hW
  have w4 := Within.trans (a := State.replayLeg_mask) rfl hW
  have w5 := Within.trans (a := State.raise_mask) rfl hW
  have w6 := Within.trans (a := State.abortLeg_mask) rfl hW
  have key : Frame.Snd W s0 (State.checkRead s c id rs) := by
    unfold State.checkRead
    repeat' first
      | intro _
      | with_reducible assumption
      | (extract_lets +onlyGivenNames x; refine Frame.cut (W := W) (s0 := s0) x ?_ ?_; unfold x; clear x; rotate_left; clear_value x; revert x; intro _ _)
      | (extract_lets +onlyGivenNames x; clear_value x; revert x; intro _)
      | with_reducible refine Frame.snd_mk ?_
      | with_reducible refine State.perfEvent_frame w0 ?_
      | with_reducible refine State.noteCorrected_frame w1 ?_
      | with_reducible refine State.noteUncorrected_frame w2 ?_
      | with_reducible refine State.replayLeg_frame w4 ?_
      | with_reducible refine State.raise_frame w5 ?_
      | with_reducible refine State.abortLeg_frame w6 ?_
      | with_reducible refine Frame.ite ?_ ?_
      | with_reducible refine Frame.foldl ?_ _ _ ?_
      | split
      | with_reducible refine State.refetch_frame (by with_reducible assumption) w3 ?_
      | with_reducible refine Frame.of_snd (by with_reducible assumption) ?_
      | with_reducible refine Frame.of_fst (by with_reducible assumption) ?_
      | with_reducible refine Frame.snd_mk ?_
      | with_reducible refine Frame.fst_mk ?_
      | with_reducible refine Frame.foldl_snd ?_ _ _ ?_
      | with_reducible refine Frame.foldl_fst ?_ _ _ ?_
      | with_reducible refine Frame.foldr_snd ?_ _ _ ?_
      | with_reducible refine Frame.Snd.mk ?_
      | with_reducible refine Frame.Fst.mk ?_
      | dsimp only
  exact key.out
theorem State.checkRead_frame {W : Nat} {s0 s : State} {c : Nat} {id : Option Nat} {rs : List (Nat × Nat)} {r0 : Bool} {t : State} (e : State.checkRead s c id rs = (r0, t)) (hW : Within State.checkRead_mask W) (h : Frame W s0 s) :
    Frame W s0 t := by
  have key := State.checkRead_snd (c := c) (id := id) (rs := rs) hW h
  rw [e] at key; exact key

end Sys2Proof.Machine
end

