-- ==== Sys2Proof/Laws/Ingest.lean ====
section
/-! SUPPORT. What the operations of Machine/Ingest.lean change: each differs from its argument in the areas of its mask alone. -/

set_option linter.all false

namespace Sys2Proof.Machine

def State.showIngest_mask : Nat := 0x200200000000000000000000000000000000000000000000
theorem State.showIngest_frame {W : Nat} {s0 s : State} {p : Nat} (hW : Within State.showIngest_mask W) (h : Frame W s0 s) :
    Frame W s0 (State.showIngest s p) := by
  have b189 := hW.bit (n := 189) (by decide)
  have b177 := hW.bit (n := 177) (by decide)
  unfold State.showIngest
  repeat' first
    | intro _
    | with_reducible assumption
    | (extract_lets +onlyGivenNames x; refine Frame.cut (W := W) (s0 := s0) x ?_ ?_; unfold x; clear x; rotate_left; clear_value x; revert x; intro _ _)
    | (extract_lets +onlyGivenNames x; clear_value x; revert x; intro _)
    | with_reducible refine State.set_frame (F.INGEST_Q_STATE_open_kind _) b189 ?_
    | with_reducible refine State.setB_frame (F.INGEST_Q_STATE_over_quota_kind _) b189 ?_
    | with_reducible refine State.setBit_frame (F.INGEST_STATUS_running_kind) b177 ?_
    | with_reducible refine State.set_frame (F.INGEST_STATUS_decoders_busy_kind) b177 ?_
    | with_reducible refine Frame.ite ?_ ?_
    | with_reducible refine Frame.foldl ?_ _ _ ?_
    | split
    | with_reducible refine Frame.of_snd (by with_reducible assumption) ?_
    | with_reducible refine Frame.of_fst (by with_reducible assumption) ?_
    | with_reducible refine Frame.snd_mk ?_
    | with_reducible refine Frame.fst_mk ?_

def State.setQueue_mask : Nat := 0x200200000000000000000000000000000000000000002000
theorem State.setQueue_frame {W : Nat} {s0 s : State} {p : Nat} {q : IngQueue} (hW : Within State.setQueue_mask W) (h : Frame W s0 s) :
    Frame W s0 (State.setQueue s p q) := by
  have b13 := hW.bit (n := 13) (by decide)
  have w1 := Within.trans (a := State.showIngest_mask) rfl hW
  unfold State.setQueue
  repeat' first
    | intro _
    | with_reducible assumption
    | (extract_lets +onlyGivenNames x; refine Frame.cut (W := W) (s0 := s0) x ?_ ?_; unfold x; clear x; rotate_left; clear_value x; revert x; intro _ _)
    | (extract_lets +onlyGivenNames x; clear_value x; revert x; intro _)
    | with_reducible refine State.showIngest_frame w1 ?_
    | with_reducible refine Frame.ite ?_ ?_
    | with_reducible refine Frame.foldl ?_ _ _ ?_
    | split
    | with_reducible refine Frame.of_snd (by with_reducible assumption) ?_
    | with_reducible refine Frame.of_fst (by with_reducible assumption) ?_
    | with_reducible refine Frame.snd_mk ?_
    | with_reducible refine Frame.fst_mk ?_
    | with_reducible refine Frame.ingest_upd b13 ?_

def State.queueState_mask : Nat := 0x6020000000000000000000000000000000000200200000000000000000000000000000000000022000000
theorem State.queueState_frame {W : Nat} {s0 s : State} {p : Nat} {port : Nat} {st : Nat} (hW : Within State.queueState_mask W) (h : Frame W s0 s) :
    Frame W s0 (State.queueState s p port st) := by
  have b189 := hW.bit (n := 189) (by decide)
  have w1 := Within.trans (a := State.raise_mask) rfl hW
  have w2 := Within.trans (a := State.showIngest_mask) rfl hW
  unfold State.queueState
  repeat' first
    | intro _
    | with_reducible assumption
    | (extract_lets +onlyGivenNames x; refine Frame.cut (W := W) (s0 := s0) x ?_ ?_; unfold x; clear x; rotate_left; clear_value x; revert x; intro _ _)
    | (extract_lets +onlyGivenNames x; clear_value x; revert x; intro _)
    | with_reducible refine State.set_frame (F.INGEST_Q_STATE_state_kind _) b189 ?_
    | with_reducible refine State.raise_frame w1 ?_
    | with_reducible refine State.showIngest_frame w2 ?_
    | with_reducible refine Frame.ite ?_ ?_
    | with_reducible refine Frame.foldl ?_ _ _ ?_
    | split
    | with_reducible refine Frame.of_snd (by with_reducible assumption) ?_
    | with_reducible refine Frame.of_fst (by with_reducible assumption) ?_
    | with_reducible refine Frame.snd_mk ?_
    | with_reducible refine Frame.fst_mk ?_

def State.setBatch_mask : Nat := 0x200200000000000000000000000000000000000000002000
theorem State.setBatch_frame {W : Nat} {s0 s : State} {p : Nat} {b : IngBatch} (hW : Within State.setBatch_mask W) (h : Frame W s0 s) :
    Frame W s0 (State.setBatch s p b) := by
  have w0 := Within.trans (a := State.setQueue_mask) rfl hW
  unfold State.setBatch
  repeat' first
    | intro _
    | with_reducible assumption
    | (extract_lets +onlyGivenNames x; refine Frame.cut (W := W) (s0 := s0) x ?_ ?_; unfold x; clear x; rotate_left; clear_value x; revert x; intro _ _)
    | (extract_lets +onlyGivenNames x; clear_value x; revert x; intro _)
    | with_reducible refine State.setQueue_frame w0 ?_
    | with_reducible refine Frame.ite ?_ ?_
    | with_reducible refine Frame.foldl ?_ _ _ ?_
    | split
    | with_reducible refine Frame.of_snd (by with_reducible assumption) ?_
    | with_reducible refine Frame.of_fst (by with_reducible assumption) ?_
    | with_reducible refine Frame.snd_mk ?_
    | with_reducible refine Frame.fst_mk ?_

def State.closeBatches_mask : Nat := 0x60200000010000000000000000000000000006002000000000008c0000000000000000000000022542200
theorem State.closeBatches_frame {W : Nat} {s0 s : State} {p : Nat} {fuel : Nat} (hW : Within State.closeBatches_mask W) (h : Frame W s0 s) :
    Frame W s0 (State.closeBatches s p fuel) := by
  have b190 := hW.bit (n := 190) (by decide)
  have w0 := Within.trans (a := State.queueState_mask) rfl hW
  have w1 := Within.trans (a := State.store_mask) rfl hW
  have w2 := Within.trans (a := State.setQueue_mask) rfl hW
  have w3 := Within.trans (a := State.releaseEvents_mask) rfl hW
  induction fuel generalizing s p with
  | zero =>
    unfold State.closeBatches
    repeat' first
      | intro _
      | with_reducible assumption
      | (extract_lets +onlyGivenNames x; refine Frame.cut (W := W) (s0 := s0) x ?_ ?_; unfold x; clear x; rotate_left; clear_value x; revert x; intro _ _)
      | (extract_lets +onlyGivenNames x; clear_value x; revert x; intro _)
      | with_reducible refine State.inc_frame (F.INGEST_Q_BATCHES_closed_kind _) b190 ?_
      | with_reducible refine State.queueState_frame w0 ?_
      | with_reducible refine State.store_frame w1 ?_
      | with_reducible refine State.setQueue_frame w2 ?_
      | with_reducible refine State.releaseEvents_frame w3 ?_
      | with_reducible refine State.each_frame ?_ ?_
      | with_reducible refine Frame.ite ?_ ?_
      | with_reducible refine Frame.foldl ?_ _ _ ?_
      | split
      | with_reducible refine Frame.of_snd (by with_reducible assumption) ?_
      | with_reducible refine Frame.of_fst (by with_reducible assumption) ?_
      | with_reducible refine Frame.snd_mk ?_
      | with_reducible refine Frame.fst_mk ?_
  | succ fuel ih =>
    unfold State.closeBatches
    repeat' first
      | intro _
      | with_reducible assumption
      | with_reducible refine ih ?_
      | (extract_lets +onlyGivenNames x; refine Frame.cut (W := W) (s0 := s0) x ?_ ?_; unfold x; clear x; rotate_left; clear_value x; revert x; intro _ _)
      | (extract_lets +onlyGivenNames x; clear_value x; revert x; intro _)
      | with_reducible refine State.inc_frame (F.INGEST_Q_BATCHES_closed_kind _) b190 ?_
      | with_reducible refine State.queueState_frame w0 ?_
      | with_reducible refine State.store_frame w1 ?_
      | with_reducible refine State.setQueue_frame w2 ?_
      | with_reducible refine State.releaseEvents_frame w3 ?_
      | with_reducible refine State.each_frame ?_ ?_
      | with_reducible refine Frame.ite ?_ ?_
      | with_reducible refine Frame.foldl ?_ _ _ ?_
      | split
      | with_reducible refine Frame.of_snd (by with_reducible assumption) ?_
      | with_reducible refine Frame.of_fst (by with_reducible assumption) ?_
      | with_reducible refine Frame.snd_mk ?_
      | with_reducible refine Frame.fst_mk ?_

def State.voidSample_mask : Nat := 0x60200000010000000000000000000000000016002000000000008c0000000000000000000000022542200
theorem State.voidSample_frame {W : Nat} {s0 s : State} {p : Nat} {b : IngBatch} {i : Nat} {x : IngSlot} {cause : Nat} (hW : Within State.voidSample_mask W) (h : Frame W s0 s) :
    Frame W s0 (State.voidSample s p b i x cause) := by
  have b192 := hW.bit (n := 192) (by decide)
  have w0 := Within.trans (a := State.store_mask) rfl hW
  have w1 := Within.trans (a := State.setBatch_mask) rfl hW
  have w2 := Within.trans (a := State.raise_mask) rfl hW
  have w3 := Within.trans (a := State.closeBatches_mask) rfl hW
  unfold State.voidSample
  repeat' first
    | intro _
    | with_reducible assumption
    | (extract_lets +onlyGivenNames x; refine Frame.cut (W := W) (s0 := s0) x ?_ ?_; unfold x; clear x; rotate_left; clear_value x; revert x; intro _ _)
    | (extract_lets +onlyGivenNames x; clear_value x; revert x; intro _)
    | with_reducible refine State.inc_frame (F.INGEST_Q_VOID_count_kind _ _ _) b192 ?_
    | with_reducible refine State.store_frame w0 ?_
    | with_reducible refine State.setBatch_frame w1 ?_
    | with_reducible refine State.raise_frame w2 ?_
    | with_reducible refine State.closeBatches_frame w3 ?_
    | with_reducible refine Frame.ite ?_ ?_
    | with_reducible refine Frame.foldl ?_ _ _ ?_
    | split
    | with_reducible refine Frame.of_snd (by with_reducible assumption) ?_
    | with_reducible refine Frame.of_fst (by with_reducible assumption) ?_
    | with_reducible refine Frame.snd_mk ?_
    | with_reducible refine Frame.fst_mk ?_

def State.ingestViolation_mask : Nat := 0x6020000000000000000000000000000000000200000000000000000000000000000000000000022000000
theorem State.ingestViolation_frame {W : Nat} {s0 s : State} {p : Nat} {cause : Nat} {pos : Nat} (hW : Within State.ingestViolation_mask W) (h : Frame W s0 s) :
    Frame W s0 (State.ingestViolation s p cause pos) := by
  have b189 := hW.bit (n := 189) (by decide)
  have w1 := Within.trans (a := State.raise_mask) rfl hW
  unfold State.ingestViolation
  repeat' first
    | intro _
    | with_reducible assumption
    | (extract_lets +onlyGivenNames x; refine Frame.cut (W := W) (s0 := s0) x ?_ ?_; unfold x; clear x; rotate_left; clear_value x; revert x; intro _ _)
    | (extract_lets +onlyGivenNames x; clear_value x; revert x; intro _)
    | with_reducible refine State.set_frame (F.INGEST_Q_STATE_error_kind _) b189 ?_
    | with_reducible refine State.raise_frame w1 ?_
    | with_reducible refine Frame.ite ?_ ?_
    | with_reducible refine Frame.foldl ?_ _ _ ?_
    | split
    | with_reducible refine Frame.of_snd (by with_reducible assumption) ?_
    | with_reducible refine Frame.of_fst (by with_reducible assumption) ?_
    | with_reducible refine Frame.snd_mk ?_
    | with_reducible refine Frame.fst_mk ?_

def execDescriptorRead_mask : Nat := 0x60200000010000008000000000050000000016102000000000008c000000000000000000000002354a200
theorem execDescriptorRead_frame {s nx : State} {p : Part} {r : Option (List Byte)} (e : execDescriptorRead p r s = .next nx) : Frame execDescriptorRead_mask s nx := by
  refine State.run_frame rfl (fun W s0 s hW h => ?_) e
  have b184 := hW.bit (n := 184) (by decide)
  have w0 := Within.trans (a := State.setQueue_mask) rfl hW
  have w1 := Within.trans (a := State.draw_mask) rfl hW
  have w2 := Within.trans (a := State.voidSample_mask) rfl hW
  have w3 := Within.trans (a := State.setBatch_mask) rfl hW
  have w4 := Within.trans (a := State.ingestViolation_mask) rfl hW
  repeat' first
    | intro _
    | with_reducible assumption
    | (extract_lets +onlyGivenNames x; refine Frame.cut (W := W) (s0 := s0) x ?_ ?_; unfold x; clear x; rotate_left; clear_value x; revert x; intro _ _)
    | (extract_lets +onlyGivenNames x; clear_value x; revert x; intro _)
    | with_reducible refine State.set_frame (F.INGEST_Q_HEAD_pos_kind _) b184 ?_
    | with_reducible refine State.setQueue_frame w0 ?_
    | with_reducible refine State.voidSample_frame w2 ?_
    | with_reducible refine State.setBatch_frame w3 ?_
    | with_reducible refine State.ingestViolation_frame w4 ?_
    | with_reducible refine State.draw_snd w1 ?_
    | with_reducible refine Frame.ite ?_ ?_
    | with_reducible refine Frame.foldl ?_ _ _ ?_
    | split
    | with_reducible refine State.draw_frame (by with_reducible assumption) w1 ?_
    | with_reducible refine Frame.of_snd (by with_reducible assumption) ?_
    | with_reducible refine Frame.of_fst (by with_reducible assumption) ?_
    | with_reducible refine Frame.snd_mk ?_
    | with_reducible refine Frame.fst_mk ?_

def execSampleComplete_mask : Nat := 0x6020000001000000800000000005000000001e006000000000008c000000000000000000000002354a200
theorem execSampleComplete_frame {s nx : State} {p : Part} {pos : BitVec 32} {x : SampleIn} (e : execSampleComplete p pos x s = .next nx) : Frame execSampleComplete_mask s nx := by
  refine State.run_frame rfl (fun W s0 s hW h => ?_) e
  have b178 := hW.bit (n := 178) (by decide)
  have b191 := hW.bit (n := 191) (by decide)
  have w0 := Within.trans (a := State.draw_mask) rfl hW
  have w1 := Within.trans (a := State.voidSample_mask) rfl hW
  have w2 := Within.trans (a := State.store_mask) rfl hW
  have w3 := Within.trans (a := State.setBatch_mask) rfl hW
  have w4 := Within.trans (a := State.closeBatches_mask) rfl hW
  repeat' first
    | intro _
    | with_reducible assumption
    | (extract_lets +onlyGivenNames x; refine Frame.cut (W := W) (s0 := s0) x ?_ ?_; unfold x; clear x; rotate_left; clear_value x; revert x; intro _ _)
    | (extract_lets +onlyGivenNames x; clear_value x; revert x; intro _)
    | with_reducible refine State.set_frame (F.INGEST_LOAD_decoder_kind) b178 ?_
    | with_reducible refine State.set_frame (F.INGEST_LOAD_augment_kind) b178 ?_
    | with_reducible refine State.inc_frame (F.INGEST_Q_DONE_samples_kind _) b191 ?_
    | with_reducible refine State.voidSample_frame w1 ?_
    | with_reducible refine State.store_frame w2 ?_
    | with_reducible refine State.setBatch_frame w3 ?_
    | with_reducible refine State.closeBatches_frame w4 ?_
    | with_reducible refine State.draw_snd w0 ?_
    | with_reducible refine Frame.ite ?_ ?_
    | with_reducible refine Frame.foldl ?_ _ _ ?_
    | split
    | with_reducible refine State.draw_frame (by with_reducible assumption) w0 ?_
    | with_reducible refine Frame.of_snd (by with_reducible assumption) ?_
    | with_reducible refine Frame.of_fst (by with_reducible assumption) ?_
    | with_reducible refine Frame.snd_mk ?_
    | with_reducible refine Frame.fst_mk ?_

def execSlotTimeout_mask : Nat := 0x60200000010000008000000000050000000016002000000000008c000000000000000000000002354a200
theorem execSlotTimeout_frame {s nx : State} {p : Part} {pos : BitVec 32} (e : execSlotTimeout p pos s = .next nx) : Frame execSlotTimeout_mask s nx := by
  refine State.run_frame rfl (fun W s0 s hW h => ?_) e
  have w0 := Within.trans (a := State.draw_mask) rfl hW
  have w1 := Within.trans (a := State.voidSample_mask) rfl hW
  repeat' first
    | intro _
    | with_reducible assumption
    | (extract_lets +onlyGivenNames x; refine Frame.cut (W := W) (s0 := s0) x ?_ ?_; unfold x; clear x; rotate_left; clear_value x; revert x; intro _ _)
    | (extract_lets +onlyGivenNames x; clear_value x; revert x; intro _)
    | with_reducible refine State.draw_snd w0 ?_
    | with_reducible refine State.voidSample_frame w1 ?_
    | with_reducible refine Frame.ite ?_ ?_
    | with_reducible refine Frame.foldl ?_ _ _ ?_
    | split
    | with_reducible refine State.draw_frame (by with_reducible assumption) w0 ?_
    | with_reducible refine Frame.of_snd (by with_reducible assumption) ?_
    | with_reducible refine Frame.of_fst (by with_reducible assumption) ?_

def State.voidAll_mask : Nat := 0x60200000010000000000000000000000000016002000000000008c0000000000000000000000022542200
theorem State.voidAll_frame {W : Nat} {s0 s : State} {p : Nat} {cause : Nat} {sel : State → IngSlot → Bool} (hW : Within State.voidAll_mask W) (h : Frame W s0 s) :
    Frame W s0 (State.voidAll s p cause sel) := by
  have w0 := Within.trans (a := State.voidSample_mask) rfl hW
  unfold State.voidAll
  repeat' first
    | intro _
    | with_reducible assumption
    | (extract_lets +onlyGivenNames x; refine Frame.cut (W := W) (s0 := s0) x ?_ ?_; unfold x; clear x; rotate_left; clear_value x; revert x; intro _ _)
    | (extract_lets +onlyGivenNames x; clear_value x; revert x; intro _)
    | with_reducible refine State.each_frame ?_ ?_
    | with_reducible refine State.voidSample_frame w0 ?_
    | with_reducible refine Frame.ite ?_ ?_
    | with_reducible refine Frame.foldl ?_ _ _ ?_
    | split
    | with_reducible refine Frame.of_snd (by with_reducible assumption) ?_
    | with_reducible refine Frame.of_fst (by with_reducible assumption) ?_
    | with_reducible refine Frame.snd_mk ?_
    | with_reducible refine Frame.fst_mk ?_

def State.stepLive_mask : Nat := 0x60200000010000000000000000000000000016002000000000008c0000000000000000000000022543200
theorem State.stepLive_frame {W : Nat} {s0 s : State} (hW : Within State.stepLive_mask W) (h : Frame W s0 s) :
    Frame W s0 (State.stepLive s) := by
  have w0 := Within.trans (a := State.voidAll_mask) rfl hW
  have b12 := hW.bit (n := 12) (by decide)
  unfold State.stepLive
  repeat' first
    | intro _
    | with_reducible assumption
    | (extract_lets +onlyGivenNames x; refine Frame.cut (W := W) (s0 := s0) x ?_ ?_; unfold x; clear x; rotate_left; clear_value x; revert x; intro _ _)
    | (extract_lets +onlyGivenNames x; refine Frame.cutF (W := W) (s0 := s0) x ?_ ?_; unfold x; clear x; rotate_left; clear_value x; revert x; intro _ _)
    | (extract_lets +onlyGivenNames x; refine Frame.cutG (W := W) (s0 := s0) x ?_ ?_; unfold x; clear x; rotate_left; clear_value x; revert x; intro _ _)
    | (extract_lets +onlyGivenNames x; refine Frame.cutN (W := W) (s0 := s0) x ?_ ?_; unfold x; clear x; rotate_left; clear_value x; revert x; intro _ _)
    | (extract_lets +onlyGivenNames x; refine Frame.cutH (W := W) (s0 := s0) x ?_ ?_; unfold x; clear x; rotate_left; clear_value x; revert x; intro _ _)
    | (extract_lets +onlyGivenNames x; refine Frame.cutI (W := W) (s0 := s0) x ?_ ?_; unfold x; clear x; rotate_left; clear_value x; revert x; intro _ _)
    | (extract_lets +onlyGivenNames x; clear_value x; revert x; intro _)
    | with_reducible refine State.voidAll_frame w0 ?_
    | with_reducible refine State.each_frame ?_ ?_
    | with_reducible refine Frame.ite ?_ ?_
    | with_reducible refine Frame.foldl ?_ _ _ ?_
    | split
    | with_reducible refine Frame.of_snd (by with_reducible assumption) ?_
    | with_reducible refine Frame.of_fst (by with_reducible assumption) ?_
    | with_reducible refine Frame.snd_mk ?_
    | with_reducible refine Frame.fst_mk ?_
    | with_reducible refine Frame.isp_upd b12 ?_
    | solve_by_elim

def State.ingestPortDown_mask : Nat := 0x60200000010000000000000000000000000016002000000000008c0000000000000000000000022542200
theorem State.ingestPortDown_frame {W : Nat} {s0 s : State} {p : Nat} (hW : Within State.ingestPortDown_mask W) (h : Frame W s0 s) :
    Frame W s0 (State.ingestPortDown s p) := by
  have w0 := Within.trans (a := State.queueState_mask) rfl hW
  have w1 := Within.trans (a := State.voidAll_mask) rfl hW
  unfold State.ingestPortDown
  repeat' first
    | intro _
    | with_reducible assumption
    | (extract_lets +onlyGivenNames x; refine Frame.cut (W := W) (s0 := s0) x ?_ ?_; unfold x; clear x; rotate_left; clear_value x; revert x; intro _ _)
    | (extract_lets +onlyGivenNames x; clear_value x; revert x; intro _)
    | with_reducible refine State.queueState_frame w0 ?_
    | with_reducible refine State.voidAll_frame w1 ?_
    | with_reducible refine Frame.ite ?_ ?_
    | with_reducible refine Frame.foldl ?_ _ _ ?_
    | split
    | with_reducible refine Frame.of_snd (by with_reducible assumption) ?_
    | with_reducible refine Frame.of_fst (by with_reducible assumption) ?_
    | with_reducible refine Frame.snd_mk ?_
    | with_reducible refine Frame.fst_mk ?_

def State.ingestCmd_mask : Nat := 0x6020000000000000000000000000000000000000000000000000000000000000000000000000022000000
theorem State.ingestCmd_frame {W : Nat} {s0 s : State} {i : Port} {p : Nat} {f : State → State} (hW : Within State.ingestCmd_mask W) (hf_f : ∀ s, Frame W s0 s → Frame W s0 (f s)) (h : Frame W s0 s) :
    Frame W s0 (State.ingestCmd s i p f) := by
  have w0 := Within.trans (a := State.raise_mask) rfl hW
  unfold State.ingestCmd
  repeat' first
    | intro _
    | with_reducible assumption
    | (extract_lets +onlyGivenNames x; refine Frame.cut (W := W) (s0 := s0) x ?_ ?_; unfold x; clear x; rotate_left; clear_value x; revert x; intro _ _)
    | (extract_lets +onlyGivenNames x; clear_value x; revert x; intro _)
    | with_reducible refine State.raise_frame w0 ?_
    | with_reducible refine Frame.ite ?_ ?_
    | with_reducible apply hf_f
    | with_reducible refine Frame.foldl ?_ _ _ ?_
    | split
    | with_reducible refine Frame.of_snd (by with_reducible assumption) ?_
    | with_reducible refine Frame.of_fst (by with_reducible assumption) ?_
    | with_reducible refine Frame.snd_mk ?_
    | with_reducible refine Frame.fst_mk ?_

def execIngestStart_mask : Nat := 0x6020000000000000800000000005000000000200200000000000000000000000000000000000022008000
theorem execIngestStart_frame {s nx : State} {i : Port} {p : Part} (e : execIngestStart i p s = .next nx) : Frame execIngestStart_mask s nx := by
  refine State.run_frame rfl (fun W s0 s hW h => ?_) e
  have w0 := Within.trans (a := State.ingestCmd_mask) rfl hW
  have w1 := Within.trans (a := State.queueState_mask) rfl hW
  repeat' first
    | intro _
    | with_reducible assumption
    | (extract_lets +onlyGivenNames x; refine Frame.cut (W := W) (s0 := s0) x ?_ ?_; unfold x; clear x; rotate_left; clear_value x; revert x; intro _ _)
    | (extract_lets +onlyGivenNames x; clear_value x; revert x; intro _)
    | with_reducible refine State.ingestCmd_frame w0 ?_ ?_
    | with_reducible refine State.queueState_frame w1 ?_
    | with_reducible refine Frame.ite ?_ ?_
    | with_reducible refine Frame.foldl ?_ _ _ ?_
    | split
    | with_reducible refine Frame.of_snd (by with_reducible assumption) ?_
    | with_reducible refine Frame.of_fst (by with_reducible assumption) ?_

def execIngestStop_mask : Nat := 0x6020000000000000800000000005000000000200200000000000000000000000000000000000022008000
theorem execIngestStop_frame {s nx : State} {i : Port} {p : Part} (e : execIngestStop i p s = .next nx) : Frame execIngestStop_mask s nx := by
  refine State.run_frame rfl (fun W s0 s hW h => ?_) e
  have w0 := Within.trans (a := State.ingestCmd_mask) rfl hW
  have w1 := Within.trans (a := State.queueState_mask) rfl hW
  repeat' first
    | intro _
    | with_reducible assumption
    | (extract_lets +onlyGivenNames x; refine Frame.cut (W := W) (s0 := s0) x ?_ ?_; unfold x; clear x; rotate_left; clear_value x; revert x; intro _ _)
    | (extract_lets +onlyGivenNames x; clear_value x; revert x; intro _)
    | with_reducible refine State.ingestCmd_frame w0 ?_ ?_
    | with_reducible refine State.queueState_frame w1 ?_
    | with_reducible refine Frame.ite ?_ ?_
    | with_reducible refine Frame.foldl ?_ _ _ ?_
    | split
    | with_reducible refine Frame.of_snd (by with_reducible assumption) ?_
    | with_reducible refine Frame.of_fst (by with_reducible assumption) ?_

def execSetSeed_mask : Nat := 0x602000000000000080000000000500000000020020000000000000000000000000000000000002200a000
theorem execSetSeed_frame {s nx : State} {i : Port} {p : Part} (e : execSetSeed i p s = .next nx) : Frame execSetSeed_mask s nx := by
  refine State.run_frame rfl (fun W s0 s hW h => ?_) e
  have w0 := Within.trans (a := State.ingestCmd_mask) rfl hW
  have w1 := Within.trans (a := State.setQueue_mask) rfl hW
  repeat' first
    | intro _
    | with_reducible assumption
    | (extract_lets +onlyGivenNames x; refine Frame.cut (W := W) (s0 := s0) x ?_ ?_; unfold x; clear x; rotate_left; clear_value x; revert x; intro _ _)
    | (extract_lets +onlyGivenNames x; clear_value x; revert x; intro _)
    | with_reducible refine State.ingestCmd_frame w0 ?_ ?_
    | with_reducible refine State.setQueue_frame w1 ?_
    | with_reducible refine Frame.ite ?_ ?_
    | with_reducible refine Frame.foldl ?_ _ _ ?_
    | split
    | with_reducible refine Frame.of_snd (by with_reducible assumption) ?_
    | with_reducible refine Frame.of_fst (by with_reducible assumption) ?_

def execSetEpoch_mask : Nat := 0x602000000000000080000000000500000000020020000000000000000000000000000000000002200a000
theorem execSetEpoch_frame {s nx : State} {i : Port} {p : Part} (e : execSetEpoch i p s = .next nx) : Frame execSetEpoch_mask s nx := by
  refine State.run_frame rfl (fun W s0 s hW h => ?_) e
  have w0 := Within.trans (a := State.ingestCmd_mask) rfl hW
  have w1 := Within.trans (a := State.setQueue_mask) rfl hW
  repeat' first
    | intro _
    | with_reducible assumption
    | (extract_lets +onlyGivenNames x; refine Frame.cut (W := W) (s0 := s0) x ?_ ?_; unfold x; clear x; rotate_left; clear_value x; revert x; intro _ _)
    | (extract_lets +onlyGivenNames x; clear_value x; revert x; intro _)
    | with_reducible refine State.ingestCmd_frame w0 ?_ ?_
    | with_reducible refine State.setQueue_frame w1 ?_
    | with_reducible refine Frame.ite ?_ ?_
    | with_reducible refine Frame.foldl ?_ _ _ ?_
    | split
    | with_reducible refine Frame.of_snd (by with_reducible assumption) ?_
    | with_reducible refine Frame.of_fst (by with_reducible assumption) ?_

def execIngestDoorbell_mask : Nat := 0x6020000000000000800000000005000000000208200000000000000000000000000000000000022008000
theorem execIngestDoorbell_frame {s nx : State} {i : Port} {p : Part} {tail : BitVec 32} (e : execIngestDoorbell i p tail s = .next nx) : Frame execIngestDoorbell_mask s nx := by
  refine State.run_frame rfl (fun W s0 s hW h => ?_) e
  have b183 := hW.bit (n := 183) (by decide)
  have w1 := Within.trans (a := State.raise_mask) rfl hW
  have w2 := Within.trans (a := State.ingestViolation_mask) rfl hW
  have w3 := Within.trans (a := State.queueState_mask) rfl hW
  repeat' first
    | intro _
    | with_reducible assumption
    | (extract_lets +onlyGivenNames x; refine Frame.cut (W := W) (s0 := s0) x ?_ ?_; unfold x; clear x; rotate_left; clear_value x; revert x; intro _ _)
    | (extract_lets +onlyGivenNames x; clear_value x; revert x; intro _)
    | with_reducible refine State.set_frame (F.INGEST_Q_TAIL_pos_kind _) b183 ?_
    | with_reducible refine State.raise_frame w1 ?_
    | with_reducible refine State.ingestViolation_frame w2 ?_
    | with_reducible refine State.queueState_frame w3 ?_
    | with_reducible refine Frame.ite ?_ ?_
    | with_reducible refine Frame.foldl ?_ _ _ ?_
    | split
    | with_reducible refine Frame.of_snd (by with_reducible assumption) ?_
    | with_reducible refine Frame.of_fst (by with_reducible assumption) ?_

end Sys2Proof.Machine
end

