-- ==== Sys2Proof/Laws/Hosts.lean ====
section
/-! SUPPORT. What the operations of Machine/Hosts.lean change: each differs from its argument in the areas of its mask alone. -/

set_option linter.all false

namespace Sys2Proof.Machine

def State.hostRole_mask : Nat := 0x6020000000000000000000000000000000000000000000000000000000000000000000000000022000000
theorem State.hostRole_frame {W : Nat} {s0 s : State} {i : Port} {off : Nat} (hW : Within State.hostRole_mask W) (h : Frame W s0 s) :
    Frame W s0 (State.hostRole s i off) := by
  have w0 := Within.trans (a := State.raise_mask) rfl hW
  unfold State.hostRole
  repeat' first
    | intro _
    | with_reducible assumption
    | (extract_lets +onlyGivenNames x; refine Frame.cut (W := W) (s0 := s0) x ?_ ?_; unfold x; clear x; rotate_left; clear_value x; revert x; intro _ _)
    | (extract_lets +onlyGivenNames x; clear_value x; revert x; intro _)
    | with_reducible refine State.raise_frame w0 ?_
    | with_reducible refine Frame.ite ?_ ?_
    | with_reducible refine Frame.foldl ?_ _ _ ?_
    | split
    | with_reducible refine Frame.of_snd (by with_reducible assumption) ?_
    | with_reducible refine Frame.of_fst (by with_reducible assumption) ?_
    | with_reducible refine Frame.snd_mk ?_
    | with_reducible refine Frame.fst_mk ?_

def State.showPort_mask : Nat := 0x800000000000000000000000000000
theorem State.showPort_frame {W : Nat} {s0 s : State} {i : Nat} (hW : Within State.showPort_mask W) (h : Frame W s0 s) :
    Frame W s0 (State.showPort s i) := by
  have b119 := hW.bit (n := 119) (by decide)
  unfold State.showPort
  repeat' first
    | intro _
    | with_reducible assumption
    | (extract_lets +onlyGivenNames x; refine Frame.cut (W := W) (s0 := s0) x ?_ ?_; unfold x; clear x; rotate_left; clear_value x; revert x; intro _ _)
    | (extract_lets +onlyGivenNames x; clear_value x; revert x; intro _)
    | with_reducible refine State.set_frame (F.HOST_STATUS_role_kind _) b119 ?_
    | with_reducible refine State.set_frame (F.HOST_STATUS_port_kind _) b119 ?_
    | with_reducible refine Frame.ite ?_ ?_
    | with_reducible refine Frame.foldl ?_ _ _ ?_
    | split
    | with_reducible refine Frame.of_snd (by with_reducible assumption) ?_
    | with_reducible refine Frame.of_fst (by with_reducible assumption) ?_
    | with_reducible refine Frame.snd_mk ?_
    | with_reducible refine Frame.fst_mk ?_

def State.showUp_mask : Nat := 0x800000000000000000000000000000
theorem State.showUp_frame {W : Nat} {s0 s : State} (hW : Within State.showUp_mask W) (h : Frame W s0 s) :
    Frame W s0 (State.showUp s) := by
  have b119 := hW.bit (n := 119) (by decide)
  unfold State.showUp
  repeat' first
    | intro _
    | with_reducible assumption
    | (extract_lets +onlyGivenNames x; refine Frame.cut (W := W) (s0 := s0) x ?_ ?_; unfold x; clear x; rotate_left; clear_value x; revert x; intro _ _)
    | (extract_lets +onlyGivenNames x; clear_value x; revert x; intro _)
    | with_reducible refine State.set_frame (F.HOST_STATUS_ports_up_kind _) b119 ?_
    | with_reducible refine State.each_frame ?_ ?_
    | with_reducible refine Frame.ite ?_ ?_
    | with_reducible refine Frame.foldl ?_ _ _ ?_
    | split
    | with_reducible refine Frame.of_snd (by with_reducible assumption) ?_
    | with_reducible refine Frame.of_fst (by with_reducible assumption) ?_
    | with_reducible refine Frame.snd_mk ?_
    | with_reducible refine Frame.fst_mk ?_

def State.setReady_mask : Nat := 0x800000000000000000000000040000
theorem State.setReady_frame {W : Nat} {s0 s : State} {i : Nat} {b : Bool} (hW : Within State.setReady_mask W) (h : Frame W s0 s) :
    Frame W s0 (State.setReady s i b) := by
  have b18 := hW.bit (n := 18) (by decide)
  have w1 := Within.trans (a := State.showUp_mask) rfl hW
  unfold State.setReady
  repeat' first
    | intro _
    | with_reducible assumption
    | (extract_lets +onlyGivenNames x; refine Frame.cut (W := W) (s0 := s0) x ?_ ?_; unfold x; clear x; rotate_left; clear_value x; revert x; intro _ _)
    | (extract_lets +onlyGivenNames x; clear_value x; revert x; intro _)
    | with_reducible refine State.showUp_frame w1 ?_
    | with_reducible refine Frame.ite ?_ ?_
    | with_reducible refine Frame.foldl ?_ _ _ ?_
    | split
    | with_reducible refine Frame.of_snd (by with_reducible assumption) ?_
    | with_reducible refine Frame.of_fst (by with_reducible assumption) ?_
    | with_reducible refine Frame.snd_mk ?_
    | with_reducible refine Frame.fst_mk ?_
    | with_reducible refine Frame.host_upd b18 ?_

def State.portQuiet_mask : Nat := 0x4000000000000000000000000000000000020040020
theorem State.portQuiet_frame {W : Nat} {s0 s : State} {k : Nat} (hW : Within State.portQuiet_mask W) (h : Frame W s0 s) :
    Frame W s0 (State.portQuiet s k) := by
  have b18 := hW.bit (n := 18) (by decide)
  have b29 := hW.bit (n := 29) (by decide)
  have b5 := hW.bit (n := 5) (by decide)
  have b170 := hW.bit (n := 170) (by decide)
  unfold State.portQuiet
  repeat' first
    | intro _
    | with_reducible assumption
    | (extract_lets +onlyGivenNames x; refine Frame.cut (W := W) (s0 := s0) x ?_ ?_; unfold x; clear x; rotate_left; clear_value x; revert x; intro _ _)
    | (extract_lets +onlyGivenNames x; clear_value x; revert x; intro _)
    | with_reducible refine State.set_frame (F.ISP_CTX_STATUS_shadow_kind _) b170 ?_
    | with_reducible refine State.each_frame ?_ ?_
    | with_reducible refine Frame.ite ?_ ?_
    | with_reducible refine Frame.foldl ?_ _ _ ?_
    | split
    | with_reducible refine Frame.of_snd (by with_reducible assumption) ?_
    | with_reducible refine Frame.of_fst (by with_reducible assumption) ?_
    | with_reducible refine Frame.snd_mk ?_
    | with_reducible refine Frame.fst_mk ?_
    | with_reducible refine Frame.host_msix_upd b18 b29 ?_
    | with_reducible refine Frame.host_upd b18 ?_
    | with_reducible refine Frame.boot_upd b5 ?_

def State.portDuties_mask : Nat := 0x460a00000010001000000000000000000000016002000000000008c0000000000000000040000022542214
theorem State.portDuties_frame {W : Nat} {s0 s : State} {i : Port} {cause : Nat} (hW : Within State.portDuties_mask W) (h : Frame W s0 s) :
    Frame W s0 (State.portDuties s i cause) := by
  have b284 := hW.bit (n := 284) (by decide)
  have w1 := Within.trans (a := State.zldEnd_mask) rfl hW
  have w2 := Within.trans (a := State.thaw_mask) rfl hW
  have w3 := Within.trans (a := State.ingestPortDown_mask) rfl hW
  unfold State.portDuties
  repeat' first
    | intro _
    | with_reducible assumption
    | (extract_lets +onlyGivenNames x; refine Frame.cut (W := W) (s0 := s0) x ?_ ?_; unfold x; clear x; rotate_left; clear_value x; revert x; intro _ _)
    | (extract_lets +onlyGivenNames x; clear_value x; revert x; intro _)
    | with_reducible refine State.set_frame (F.INTEG_STATUS_trace_level_kind) b284 ?_
    | with_reducible refine State.zldEnd_frame w1 ?_
    | with_reducible refine State.thaw_frame w2 ?_
    | with_reducible refine State.each_frame ?_ ?_
    | with_reducible refine State.ingestPortDown_frame w3 ?_
    | with_reducible refine Frame.ite ?_ ?_
    | with_reducible refine Frame.foldl ?_ _ _ ?_
    | split
    | with_reducible refine Frame.of_snd (by with_reducible assumption) ?_
    | with_reducible refine Frame.of_fst (by with_reducible assumption) ?_
    | with_reducible refine Frame.snd_mk ?_
    | with_reducible refine Frame.fst_mk ?_

def State.portRegs_mask : Nat := 0xfffffffffffffffffffffffffffffffffffffffffffffffffffffffffffffffffffffffffffffffffffffff8000000
theorem State.portRegs_frame {W : Nat} {s0 s : State} {k : Nat} (hW : Within State.portRegs_mask W) (h : Frame W s0 s) :
    Frame W s0 (s.portRegs k) := by
  have b27 := hW.bit (n := 27) (by decide)
  have b28 := hW.bit (n := 28) (by decide)
  have hm : State.portRegs_mask = (2 ^ (376 - 27) - 1) <<< 27 := rfl
  unfold State.portRegs
  refine Frame.replies_hiLatch_upd b27 b28 (State.resetRegs_frame (fun n h1 h2 => hW.bit ?_) h)
  rw [hm, Nat.testBit_shiftLeft, Nat.testBit_two_pow_sub_one]
  simp only [Bool.and_eq_true, decide_eq_true_eq]
  exact ⟨by omega, by omega⟩

def execPortReset_mask : Nat := 0xfffffffffffffffffffffffffffffffffffffffffffffffffffffffffffffffffffffffffffffffffffffffa54a234
theorem execPortReset_frame {s nx : State} {i : Port} {cause : Fin 5} (e : execPortReset i cause s = .next nx) : Frame execPortReset_mask s nx := by
  refine State.run_frame rfl (fun W s0 s hW h => ?_) e
  have w0 := Within.trans (a := State.portQuiet_mask) rfl hW
  have w1 := Within.trans (a := State.portRegs_mask) rfl hW
  have w2 := Within.trans (a := State.portDuties_mask) rfl hW
  have w3 := Within.trans (a := State.setReady_mask) rfl hW
  have w4 := Within.trans (a := State.showPort_mask) rfl hW
  have w5 := Within.trans (a := State.raise_mask) rfl hW
  repeat' first
    | intro _
    | with_reducible assumption
    | (extract_lets +onlyGivenNames x; refine Frame.cut (W := W) (s0 := s0) x ?_ ?_; unfold x; clear x; rotate_left; clear_value x; revert x; intro _ _)
    | (extract_lets +onlyGivenNames x; clear_value x; revert x; intro _)
    | with_reducible refine State.portQuiet_frame w0 ?_
    | with_reducible refine State.portRegs_frame w1 ?_
    | with_reducible refine State.portDuties_frame w2 ?_
    | with_reducible refine State.setReady_frame w3 ?_
    | with_reducible refine State.showPort_frame w4 ?_
    | with_reducible refine State.raise_frame w5 ?_
    | with_reducible refine Frame.ite ?_ ?_
    | with_reducible refine Frame.foldl ?_ _ _ ?_
    | split
    | with_reducible refine Frame.of_snd (by with_reducible assumption) ?_
    | with_reducible refine Frame.of_fst (by with_reducible assumption) ?_
    | with_reducible refine Frame.snd_mk ?_
    | with_reducible refine Frame.fst_mk ?_

def execLinkUp_mask : Nat := 0x6020000000000000800000000005000000000000000000000000000800000000000000000000022048000
theorem execLinkUp_frame {s nx : State} {i : Port} {speed : BitVec 3} {width : BitVec 5} (e : execLinkUp i speed width s = .next nx) : Frame execLinkUp_mask s nx := by
  refine State.run_frame rfl (fun W s0 s hW h => ?_) e
  have b119 := hW.bit (n := 119) (by decide)
  have w1 := Within.trans (a := State.showPort_mask) rfl hW
  have w2 := Within.trans (a := State.fire_mask) rfl hW
  have w3 := Within.trans (a := State.raise_mask) rfl hW
  have w4 := Within.trans (a := State.setReady_mask) rfl hW
  repeat' first
    | intro _
    | with_reducible assumption
    | (extract_lets +onlyGivenNames x; refine Frame.cut (W := W) (s0 := s0) x ?_ ?_; unfold x; clear x; rotate_left; clear_value x; revert x; intro _ _)
    | (extract_lets +onlyGivenNames x; clear_value x; revert x; intro _)
    | with_reducible refine State.set_frame (F.HOST_STATUS_width_kind _) b119 ?_
    | with_reducible refine State.set_frame (F.HOST_STATUS_speed_kind _) b119 ?_
    | with_reducible refine State.showPort_frame w1 ?_
    | with_reducible refine State.fire_frame w2 ?_
    | with_reducible refine State.raise_frame w3 ?_
    | with_reducible refine State.setReady_frame w4 ?_
    | with_reducible refine Frame.ite ?_ ?_
    | with_reducible refine Frame.foldl ?_ _ _ ?_
    | split
    | with_reducible refine Frame.of_snd (by with_reducible assumption) ?_
    | with_reducible refine Frame.of_fst (by with_reducible assumption) ?_

def execConfigRequest_mask : Nat := 0x800000000005000000000000000000000000000000000000000000000000009008000
theorem execConfigRequest_frame {s nx : State} {i : Port} {reg : BitVec 10} (e : execConfigRequest i reg s = .next nx) : Frame execConfigRequest_mask s nx := by
  refine State.run_frame rfl (fun W s0 s hW h => ?_) e
  have w0 := Within.trans (a := State.reply_mask) rfl hW
  have w1 := Within.trans (a := State.draw_mask) rfl hW
  repeat' first
    | intro _
    | with_reducible assumption
    | (extract_lets +onlyGivenNames x; refine Frame.cut (W := W) (s0 := s0) x ?_ ?_; unfold x; clear x; rotate_left; clear_value x; revert x; intro _ _)
    | (extract_lets +onlyGivenNames x; clear_value x; revert x; intro _)
    | with_reducible refine State.reply_frame w0 ?_
    | with_reducible refine State.draw_snd w1 ?_
    | with_reducible refine Frame.ite ?_ ?_
    | with_reducible refine Frame.foldl ?_ _ _ ?_
    | split
    | with_reducible refine State.draw_frame (by with_reducible assumption) w1 ?_
    | with_reducible refine Frame.of_snd (by with_reducible assumption) ?_
    | with_reducible refine Frame.of_fst (by with_reducible assumption) ?_

def State.clearRing_mask : Nat := 0x800000000000000000000000000040000
theorem State.clearRing_frame {W : Nat} {s0 s : State} {i : Port} {p : Nat} (hW : Within State.clearRing_mask W) (h : Frame W s0 s) :
    Frame W s0 (State.clearRing s i p) := by
  have b18 := hW.bit (n := 18) (by decide)
  have b131 := hW.bit (n := 131) (by decide)
  unfold State.clearRing
  repeat' first
    | intro _
    | with_reducible assumption
    | (extract_lets +onlyGivenNames x; refine Frame.cut (W := W) (s0 := s0) x ?_ ?_; unfold x; clear x; rotate_left; clear_value x; revert x; intro _ _)
    | (extract_lets +onlyGivenNames x; clear_value x; revert x; intro _)
    | with_reducible refine State.set_frame (F.HOST_RES_STATE_push_stopped_kind _ _) b131 ?_
    | with_reducible refine State.set_frame (F.HOST_RES_STATE_pending_kind _ _) b131 ?_
    | with_reducible refine Frame.ite ?_ ?_
    | with_reducible refine Frame.foldl ?_ _ _ ?_
    | split
    | with_reducible refine Frame.of_snd (by with_reducible assumption) ?_
    | with_reducible refine Frame.of_fst (by with_reducible assumption) ?_
    | with_reducible refine Frame.snd_mk ?_
    | with_reducible refine Frame.fst_mk ?_
    | with_reducible refine Frame.host_upd b18 ?_

def execHostResCfgWrite_mask : Nat := 0x800000000005000000000000000000000000c50000000000000000000000000048000
theorem execHostResCfgWrite_frame {s nx : State} {i : Port} {p : Part} {v : Word} (e : execHostResCfgWrite i p v s = .next nx) : Frame execHostResCfgWrite_mask s nx := by
  refine State.run_frame rfl (fun W s0 s hW h => ?_) e
  have b124 := hW.bit (n := 124) (by decide)
  have b130 := hW.bit (n := 130) (by decide)
  have b126 := hW.bit (n := 126) (by decide)
  have w3 := Within.trans (a := State.clearRing_mask) rfl hW
  repeat' first
    | intro _
    | with_reducible assumption
    | (extract_lets +onlyGivenNames x; refine Frame.cut (W := W) (s0 := s0) x ?_ ?_; unfold x; clear x; rotate_left; clear_value x; revert x; intro _ _)
    | (extract_lets +onlyGivenNames x; clear_value x; revert x; intro _)
    | with_reducible refine State.set_frame (F.HOST_RES_CFG_enable_kind _ _) b124 ?_
    | with_reducible refine State.set_frame (F.HOST_RES_CFG_size_kind _ _) b124 ?_
    | with_reducible refine State.set_frame (F.HOST_RES_CFG_mode_kind _ _) b124 ?_
    | with_reducible refine State.set_frame (F.HOST_RES_CFG_timer_us_kind _ _) b124 ?_
    | with_reducible refine State.set_frame (F.HOST_RES_CFG_coalesce_kind _ _) b124 ?_
    | with_reducible refine State.set_frame (F.HOST_PUSH_HEAD_seq_kind _ _) b130 ?_
    | with_reducible refine State.set_frame (F.HOST_RES_SEQ_next_kind _ _) b126 ?_
    | with_reducible refine State.clearRing_frame w3 ?_
    | with_reducible refine Frame.ite ?_ ?_
    | with_reducible refine Frame.foldl ?_ _ _ ?_
    | split
    | with_reducible refine Frame.of_snd (by with_reducible assumption) ?_
    | with_reducible refine Frame.of_fst (by with_reducible assumption) ?_

def execResultStateRead_mask : Nat := 0x800000000005000000000000000000000000000000000000000000000000008048000
theorem execResultStateRead_frame {s nx : State} {i : Port} {p : Part} {k : BitVec 12} (e : execResultStateRead i p k s = .next nx) : Frame execResultStateRead_mask s nx := by
  refine State.run_frame rfl (fun W s0 s hW h => ?_) e
  have b18 := hW.bit (n := 18) (by decide)
  have w1 := Within.trans (a := State.reply_mask) rfl hW
  repeat' first
    | intro _
    | with_reducible assumption
    | (extract_lets +onlyGivenNames x; refine Frame.cut (W := W) (s0 := s0) x ?_ ?_; unfold x; clear x; rotate_left; clear_value x; revert x; intro _ _)
    | (extract_lets +onlyGivenNames x; clear_value x; revert x; intro _)
    | with_reducible refine State.reply_frame w1 ?_
    | with_reducible refine Frame.ite ?_ ?_
    | with_reducible refine Frame.foldl ?_ _ _ ?_
    | split
    | with_reducible refine Frame.of_snd (by with_reducible assumption) ?_
    | with_reducible refine Frame.of_fst (by with_reducible assumption) ?_
    | with_reducible refine Frame.host_upd b18 ?_

def execHostResAck_mask : Nat := 0x6020000000000000800000000005000000000000000000000000800000000000000000000000022048000
theorem execHostResAck_frame {s nx : State} {i : Port} {p : Part} {seq : BitVec 32} (e : execHostResAck i p seq s = .next nx) : Frame execHostResAck_mask s nx := by
  refine State.run_frame rfl (fun W s0 s hW h => ?_) e
  have b18 := hW.bit (n := 18) (by decide)
  have b131 := hW.bit (n := 131) (by decide)
  have w2 := Within.trans (a := State.fire_mask) rfl hW
  have w3 := Within.trans (a := State.raise_mask) rfl hW
  repeat' first
    | intro _
    | with_reducible assumption
    | (extract_lets +onlyGivenNames x; refine Frame.cut (W := W) (s0 := s0) x ?_ ?_; unfold x; clear x; rotate_left; clear_value x; revert x; intro _ _)
    | (extract_lets +onlyGivenNames x; clear_value x; revert x; intro _)
    | with_reducible refine State.set_frame (F.HOST_RES_STATE_ack_reason_kind _ _) b131 ?_
    | with_reducible refine State.fire_frame w2 ?_
    | with_reducible refine State.raise_frame w3 ?_
    | with_reducible refine Frame.ite ?_ ?_
    | with_reducible refine Frame.foldl ?_ _ _ ?_
    | split
    | with_reducible refine Frame.of_snd (by with_reducible assumption) ?_
    | with_reducible refine Frame.of_fst (by with_reducible assumption) ?_
    | with_reducible refine Frame.host_upd b18 ?_

def execHostPushHead_mask : Nat := 0x800000000005000000000000000000000000c00000000000000000000000020008000
theorem execHostPushHead_frame {s nx : State} {i : Port} {p : Part} {seq : BitVec 32} (e : execHostPushHead i p seq s = .next nx) : Frame execHostPushHead_mask s nx := by
  refine State.run_frame rfl (fun W s0 s hW h => ?_) e
  have b131 := hW.bit (n := 131) (by decide)
  have b130 := hW.bit (n := 130) (by decide)
  have w2 := Within.trans (a := State.fire_mask) rfl hW
  repeat' first
    | intro _
    | with_reducible assumption
    | (extract_lets +onlyGivenNames x; refine Frame.cut (W := W) (s0 := s0) x ?_ ?_; unfold x; clear x; rotate_left; clear_value x; revert x; intro _ _)
    | (extract_lets +onlyGivenNames x; clear_value x; revert x; intro _)
    | with_reducible refine State.set_frame (F.HOST_RES_STATE_push_stopped_kind _ _) b131 ?_
    | with_reducible refine State.set_frame (F.HOST_PUSH_HEAD_seq_kind _ _) b130 ?_
    | with_reducible refine State.fire_frame w2 ?_
    | with_reducible refine Frame.ite ?_ ?_
    | with_reducible refine Frame.foldl ?_ _ _ ?_
    | split
    | with_reducible refine Frame.of_snd (by with_reducible assumption) ?_
    | with_reducible refine Frame.of_fst (by with_reducible assumption) ?_

def execCoalesceTimer_mask : Nat := 0x800000000005000000000000000000000000000000000000000000000000020048000
theorem execCoalesceTimer_frame {s nx : State} {i : Port} {p : Part} (e : execCoalesceTimer i p s = .next nx) : Frame execCoalesceTimer_mask s nx := by
  refine State.run_frame rfl (fun W s0 s hW h => ?_) e
  have b18 := hW.bit (n := 18) (by decide)
  have w1 := Within.trans (a := State.fire_mask) rfl hW
  repeat' first
    | intro _
    | with_reducible assumption
    | (extract_lets +onlyGivenNames x; refine Frame.cut (W := W) (s0 := s0) x ?_ ?_; unfold x; clear x; rotate_left; clear_value x; revert x; intro _ _)
    | (extract_lets +onlyGivenNames x; clear_value x; revert x; intro _)
    | with_reducible refine State.fire_frame w1 ?_
    | with_reducible refine Frame.ite ?_ ?_
    | with_reducible refine Frame.foldl ?_ _ _ ?_
    | split
    | with_reducible refine Frame.of_snd (by with_reducible assumption) ?_
    | with_reducible refine Frame.of_fst (by with_reducible assumption) ?_
    | with_reducible refine Frame.host_upd b18 ?_

def execHostSqCfgWrite_mask : Nat := 0x6020000000000000800000000005000000000000000000000090000000000000000000000000022008000
theorem execHostSqCfgWrite_frame {s nx : State} {i : Port} {r : Fin 4} {v : Word} (e : execHostSqCfgWrite i r v s = .next nx) : Frame execHostSqCfgWrite_mask s nx := by
  refine State.run_frame rfl (fun W s0 s hW h => ?_) e
  have b136 := hW.bit (n := 136) (by decide)
  have b139 := hW.bit (n := 139) (by decide)
  have w0 := Within.trans (a := State.hostRole_mask) rfl hW
  have w1 := Within.trans (a := State.raiseKind_mask) rfl hW
  repeat' first
    | intro _
    | with_reducible assumption
    | (extract_lets +onlyGivenNames x; refine Frame.cut (W := W) (s0 := s0) x ?_ ?_; unfold x; clear x; rotate_left; clear_value x; revert x; intro _ _)
    | (extract_lets +onlyGivenNames x; clear_value x; revert x; intro _)
    | with_reducible refine State.set_frame (F.HOST_SQ_CFG_run_kind _ _) b136 ?_
    | with_reducible refine State.set_frame (F.HOST_SQ_CFG_size_kind _ _) b136 ?_
    | with_reducible refine State.set_frame (F.HOST_SQ_CFG_partition_kind _ _) b136 ?_
    | with_reducible refine State.set_frame (F.HOST_SQ_STATE_error_kind _ _) b139 ?_
    | with_reducible refine State.set_frame (F.HOST_SQ_STATE_stopped_kind _ _) b139 ?_
    | with_reducible refine State.hostRole_frame w0 ?_
    | with_reducible refine State.raiseKind_frame w1 ?_
    | with_reducible refine Frame.ite ?_ ?_
    | with_reducible refine Frame.foldl ?_ _ _ ?_
    | split
    | with_reducible refine Frame.of_snd (by with_reducible assumption) ?_
    | with_reducible refine Frame.of_fst (by with_reducible assumption) ?_
    | with_reducible refine Frame.snd_mk ?_
    | with_reducible refine Frame.fst_mk ?_

def execHostSqTail_mask : Nat := 0x60200000000000008000000000050000000000000000000000a0000000000000000000000000022008000
theorem execHostSqTail_frame {s nx : State} {i : Port} {r : Fin 4} {tail : BitVec 32} (e : execHostSqTail i r tail s = .next nx) : Frame execHostSqTail_mask s nx := by
  refine State.run_frame rfl (fun W s0 s hW h => ?_) e
  have b139 := hW.bit (n := 139) (by decide)
  have b137 := hW.bit (n := 137) (by decide)
  have w2 := Within.trans (a := State.hostRole_mask) rfl hW
  have w3 := Within.trans (a := State.fire_mask) rfl hW
  have w4 := Within.trans (a := State.raise_mask) rfl hW
  repeat' first
    | intro _
    | with_reducible assumption
    | (extract_lets +onlyGivenNames x; refine Frame.cut (W := W) (s0 := s0) x ?_ ?_; unfold x; clear x; rotate_left; clear_value x; revert x; intro _ _)
    | (extract_lets +onlyGivenNames x; clear_value x; revert x; intro _)
    | with_reducible refine State.set_frame (F.HOST_SQ_STATE_error_kind _ _) b139 ?_
    | with_reducible refine State.set_frame (F.HOST_SQ_STATE_stopped_kind _ _) b139 ?_
    | with_reducible refine State.set_frame (F.HOST_SQ_TAIL_pos_kind _ _) b137 ?_
    | with_reducible refine State.hostRole_frame w2 ?_
    | with_reducible refine State.fire_frame w3 ?_
    | with_reducible refine State.raise_frame w4 ?_
    | with_reducible refine Frame.ite ?_ ?_
    | with_reducible refine Frame.foldl ?_ _ _ ?_
    | split
    | with_reducible refine Frame.of_snd (by with_reducible assumption) ?_
    | with_reducible refine Frame.of_fst (by with_reducible assumption) ?_

def State.complete_mask : Nat := 0x20040000
theorem State.complete_frame {W : Nat} {s0 s : State} {i : Nat} {r : Nat} {tag : Nat} {status : Nat} {op : Nat} {landing : Nat} (hW : Within State.complete_mask W) (h : Frame W s0 s) :
    Frame W s0 (State.complete s i r tag status op landing) := by
  have b18 := hW.bit (n := 18) (by decide)
  have w1 := Within.trans (a := State.fire_mask) rfl hW
  unfold State.complete
  repeat' first
    | intro _
    | with_reducible assumption
    | (extract_lets +onlyGivenNames x; refine Frame.cut (W := W) (s0 := s0) x ?_ ?_; unfold x; clear x; rotate_left; clear_value x; revert x; intro _ _)
    | (extract_lets +onlyGivenNames x; clear_value x; revert x; intro _)
    | with_reducible refine State.fire_frame w1 ?_
    | with_reducible refine Frame.ite ?_ ?_
    | with_reducible refine Frame.foldl ?_ _ _ ?_
    | split
    | with_reducible refine Frame.of_snd (by with_reducible assumption) ?_
    | with_reducible refine Frame.of_fst (by with_reducible assumption) ?_
    | with_reducible refine Frame.snd_mk ?_
    | with_reducible refine Frame.fst_mk ?_
    | with_reducible refine Frame.host_upd b18 ?_

def State.submit_mask : Nat := 0x60200000000000000000000000000000000000000000000000c0000000000000000000000000022040000
theorem State.submit_frame {W : Nat} {s0 s : State} {i : Port} {r : Fin 4} {op : Nat} {d : List Byte} {f : State → Nat → State} (hW : Within State.submit_mask W) (hf_f : ∀ s a1, Frame W s0 s → Frame W s0 (f s a1)) (h : Frame W s0 s) :
    Frame W s0 (State.submit s i r op d f) := by
  have b138 := hW.bit (n := 138) (by decide)
  have b139 := hW.bit (n := 139) (by decide)
  have w0 := Within.trans (a := State.raise_mask) rfl hW
  have w1 := Within.trans (a := State.fire_mask) rfl hW
  have w2 := Within.trans (a := State.complete_mask) rfl hW
  unfold State.submit
  repeat' first
    | intro _
    | with_reducible assumption
    | (extract_lets +onlyGivenNames x; refine Frame.cut (W := W) (s0 := s0) x ?_ ?_; unfold x; clear x; rotate_left; clear_value x; revert x; intro _ _)
    | (extract_lets +onlyGivenNames x; refine Frame.cutF (W := W) (s0 := s0) x ?_ ?_; unfold x; clear x; rotate_left; clear_value x; revert x; intro _ _)
    | (extract_lets +onlyGivenNames x; refine Frame.cutG (W := W) (s0 := s0) x ?_ ?_; unfold x; clear x; rotate_left; clear_value x; revert x; intro _ _)
    | (extract_lets +onlyGivenNames x; refine Frame.cutN (W := W) (s0 := s0) x ?_ ?_; unfold x; clear x; rotate_left; clear_value x; revert x; intro _ _)
    | (extract_lets +onlyGivenNames x; refine Frame.cutH (W := W) (s0 := s0) x ?_ ?_; unfold x; clear x; rotate_left; clear_value x; revert x; intro _ _)
    | (extract_lets +onlyGivenNames x; refine Frame.cutI (W := W) (s0 := s0) x ?_ ?_; unfold x; clear x; rotate_left; clear_value x; revert x; intro _ _)
    | (extract_lets +onlyGivenNames x; clear_value x; revert x; intro _)
    | with_reducible refine State.set_frame (F.HOST_SQ_HEAD_pos_kind _ _) b138 ?_
    | with_reducible refine State.set_frame (F.HOST_SQ_STATE_error_kind _ _) b139 ?_
    | with_reducible refine State.raise_frame w0 ?_
    | with_reducible refine State.fire_frame w1 ?_
    | with_reducible refine State.complete_frame w2 ?_
    | with_reducible refine Frame.ite ?_ ?_
    | with_reducible apply hf_f
    | with_reducible refine Frame.foldl ?_ _ _ ?_
    | split
    | with_reducible refine Frame.of_snd (by with_reducible assumption) ?_
    | with_reducible refine Frame.of_fst (by with_reducible assumption) ?_
    | with_reducible refine Frame.snd_mk ?_
    | with_reducible refine Frame.fst_mk ?_
    | solve_by_elim

def execCopyIn_mask : Nat := 0x60200000000000008000000000050000000000000000000000c0000000000000000000000000022048000
theorem execCopyIn_frame {s nx : State} {i : Port} {r : Fin 4} {d : List Byte} (e : execCopyIn i r d s = .next nx) : Frame execCopyIn_mask s nx := by
  refine State.run_frame rfl (fun W s0 s hW h => ?_) e
  have b18 := hW.bit (n := 18) (by decide)
  have w1 := Within.trans (a := State.submit_mask) rfl hW
  have w2 := Within.trans (a := State.complete_mask) rfl hW
  have w3 := Within.trans (a := State.fire_mask) rfl hW
  have w4 := Within.trans (a := State.raise_mask) rfl hW
  repeat' first
    | intro _
    | with_reducible assumption
    | (extract_lets +onlyGivenNames x; refine Frame.cut (W := W) (s0 := s0) x ?_ ?_; unfold x; clear x; rotate_left; clear_value x; revert x; intro _ _)
    | (extract_lets +onlyGivenNames x; clear_value x; revert x; intro _)
    | with_reducible refine State.submit_frame w1 ?_ ?_
    | with_reducible refine State.complete_frame w2 ?_
    | with_reducible refine State.fire_frame w3 ?_
    | with_reducible refine State.raise_frame w4 ?_
    | with_reducible refine Frame.ite ?_ ?_
    | with_reducible refine Frame.foldl ?_ _ _ ?_
    | split
    | with_reducible refine Frame.of_snd (by with_reducible assumption) ?_
    | with_reducible refine Frame.of_fst (by with_reducible assumption) ?_
    | with_reducible refine Frame.host_upd b18 ?_

def execCopyOut_mask : Nat := 0x60200000000000008000000000050000000000000000000000c0000000000000000000000000026048000
theorem execCopyOut_frame {s nx : State} {i : Port} {r : Fin 4} {d : List Byte} (e : execCopyOut i r d s = .next nx) : Frame execCopyOut_mask s nx := by
  refine State.run_frame rfl (fun W s0 s hW h => ?_) e
  have b18 := hW.bit (n := 18) (by decide)
  have w1 := Within.trans (a := State.submit_mask) rfl hW
  have w2 := Within.trans (a := State.complete_mask) rfl hW
  have w3 := Within.trans (a := State.bwOutAdd_mask) rfl hW
  repeat' first
    | intro _
    | with_reducible assumption
    | (extract_lets +onlyGivenNames x; refine Frame.cut (W := W) (s0 := s0) x ?_ ?_; unfold x; clear x; rotate_left; clear_value x; revert x; intro _ _)
    | (extract_lets +onlyGivenNames x; clear_value x; revert x; intro _)
    | with_reducible refine State.submit_frame w1 ?_ ?_
    | with_reducible refine State.complete_frame w2 ?_
    | with_reducible refine State.bwOutAdd_frame w3 ?_
    | with_reducible refine Frame.ite ?_ ?_
    | with_reducible refine Frame.foldl ?_ _ _ ?_
    | split
    | with_reducible refine Frame.of_snd (by with_reducible assumption) ?_
    | with_reducible refine Frame.of_fst (by with_reducible assumption) ?_
    | with_reducible refine Frame.host_upd b18 ?_

def execRelease_mask : Nat := 0x60200000000000008000000000050000000000000000000000c08c0000000000000000000000022048200
theorem execRelease_frame {s nx : State} {i : Port} {r : Fin 4} {d : List Byte} (e : execRelease i r d s = .next nx) : Frame execRelease_mask s nx := by
  refine State.run_frame rfl (fun W s0 s hW h => ?_) e
  have b139 := hW.bit (n := 139) (by decide)
  have w1 := Within.trans (a := State.submit_mask) rfl hW
  have w2 := Within.trans (a := State.complete_mask) rfl hW
  have w3 := Within.trans (a := State.fire_mask) rfl hW
  have w4 := Within.trans (a := State.raise_mask) rfl hW
  have w5 := Within.trans (a := State.release_mask) rfl hW
  repeat' first
    | intro _
    | with_reducible assumption
    | (extract_lets +onlyGivenNames x; refine Frame.cut (W := W) (s0 := s0) x ?_ ?_; unfold x; clear x; rotate_left; clear_value x; revert x; intro _ _)
    | (extract_lets +onlyGivenNames x; clear_value x; revert x; intro _)
    | with_reducible refine State.set_frame (F.HOST_SQ_STATE_error_kind _ _) b139 ?_
    | with_reducible refine State.submit_frame w1 ?_ ?_
    | with_reducible refine State.complete_frame w2 ?_
    | with_reducible refine State.fire_frame w3 ?_
    | with_reducible refine State.raise_frame w4 ?_
    | with_reducible refine State.release_frame w5 ?_
    | with_reducible refine Frame.ite ?_ ?_
    | with_reducible refine Frame.foldl ?_ _ _ ?_
    | split
    | with_reducible refine Frame.of_snd (by with_reducible assumption) ?_
    | with_reducible refine Frame.of_fst (by with_reducible assumption) ?_

def execBindWeights_mask : Nat := 0x60200000000000008000000000050000000000000000000000c0000000000000000000000000022048000
theorem execBindWeights_frame {s nx : State} {i : Port} {r : Fin 4} {d : List Byte} (e : execBindWeights i r d s = .next nx) : Frame execBindWeights_mask s nx := by
  refine State.run_frame rfl (fun W s0 s hW h => ?_) e
  have b18 := hW.bit (n := 18) (by decide)
  have w1 := Within.trans (a := State.submit_mask) rfl hW
  repeat' first
    | intro _
    | with_reducible assumption
    | (extract_lets +onlyGivenNames x; refine Frame.cut (W := W) (s0 := s0) x ?_ ?_; unfold x; clear x; rotate_left; clear_value x; revert x; intro _ _)
    | (extract_lets +onlyGivenNames x; clear_value x; revert x; intro _)
    | with_reducible refine State.submit_frame w1 ?_ ?_
    | with_reducible refine Frame.ite ?_ ?_
    | with_reducible refine Frame.foldl ?_ _ _ ?_
    | split
    | with_reducible refine Frame.of_snd (by with_reducible assumption) ?_
    | with_reducible refine Frame.of_fst (by with_reducible assumption) ?_
    | with_reducible refine Frame.host_upd b18 ?_

def execFence_mask : Nat := 0x60200000000000008000000000050000000000000000000000c0000000000000000000000000022048000
theorem execFence_frame {s nx : State} {i : Port} {r : Fin 4} {d : List Byte} (e : execFence i r d s = .next nx) : Frame execFence_mask s nx := by
  refine State.run_frame rfl (fun W s0 s hW h => ?_) e
  have w0 := Within.trans (a := State.submit_mask) rfl hW
  have w1 := Within.trans (a := State.complete_mask) rfl hW
  repeat' first
    | intro _
    | with_reducible assumption
    | (extract_lets +onlyGivenNames x; refine Frame.cut (W := W) (s0 := s0) x ?_ ?_; unfold x; clear x; rotate_left; clear_value x; revert x; intro _ _)
    | (extract_lets +onlyGivenNames x; clear_value x; revert x; intro _)
    | with_reducible refine State.submit_frame w0 ?_ ?_
    | with_reducible refine State.complete_frame w1 ?_
    | with_reducible refine Frame.ite ?_ ?_
    | with_reducible refine Frame.foldl ?_ _ _ ?_
    | split
    | with_reducible refine Frame.of_snd (by with_reducible assumption) ?_
    | with_reducible refine Frame.of_fst (by with_reducible assumption) ?_

def State.takeBusy_mask : Nat := 0x40000
theorem State.takeBusy_frame {W : Nat} {s0 s t : State} {i : Port} {r : Fin 4} {op : Nat} {b : SqBusy}
    (e : s.takeBusy i r op = some (b, t)) (hW : Within State.takeBusy_mask W) (h : Frame W s0 s) : Frame W s0 t := by
  unfold State.takeBusy at e
  obtain ⟨x, -, e⟩ := Option.map_eq_some_iff.mp e
  cases e
  exact Frame.host_upd (hW.bit (n := 18) (by decide)) h

def execWeightsDigestDone_mask : Nat := 0x6020000000000000800000000005000000000000000000000000000000000000000000000000022048000
theorem execWeightsDigestDone_frame {s nx : State} {i : Port} {r : Fin 4} (e : execWeightsDigestDone i r s = .next nx) : Frame execWeightsDigestDone_mask s nx := by
  refine State.run_frame rfl (fun W s0 s hW h => ?_) e
  have b18 := hW.bit (n := 18) (by decide)
  have w1 := Within.trans (a := State.takeBusy_mask) rfl hW
  have w2 := Within.trans (a := State.complete_mask) rfl hW
  have w3 := Within.trans (a := State.fire_mask) rfl hW
  have w4 := Within.trans (a := State.raise_mask) rfl hW
  repeat' first
    | intro _
    | with_reducible assumption
    | (extract_lets +onlyGivenNames x; refine Frame.cut (W := W) (s0 := s0) x ?_ ?_; unfold x; clear x; rotate_left; clear_value x; revert x; intro _ _)
    | (extract_lets +onlyGivenNames x; clear_value x; revert x; intro _)
    | with_reducible refine State.complete_frame w2 ?_
    | with_reducible refine State.fire_frame w3 ?_
    | with_reducible refine State.raise_frame w4 ?_
    | with_reducible refine Frame.ite ?_ ?_
    | with_reducible refine Frame.foldl ?_ _ _ ?_
    | split
    | with_reducible refine State.takeBusy_frame (by with_reducible assumption) w1 ?_
    | with_reducible refine Frame.of_snd (by with_reducible assumption) ?_
    | with_reducible refine Frame.of_fst (by with_reducible assumption) ?_
    | with_reducible refine Frame.host_upd b18 ?_

def State.dmaError_mask : Nat := 0x6020000000000000000000000000000000000000000000000080000000000000000000000000022040000
theorem State.dmaError_frame {W : Nat} {s0 s : State} {i : Port} {r : Fin 4} {b : SqBusy} {st : Nat} (hW : Within State.dmaError_mask W) (h : Frame W s0 s) :
    Frame W s0 (State.dmaError s i r b st) := by
  have b139 := hW.bit (n := 139) (by decide)
  have w1 := Within.trans (a := State.complete_mask) rfl hW
  have w2 := Within.trans (a := State.fire_mask) rfl hW
  have w3 := Within.trans (a := State.raise_mask) rfl hW
  unfold State.dmaError
  repeat' first
    | intro _
    | with_reducible assumption
    | (extract_lets +onlyGivenNames x; refine Frame.cut (W := W) (s0 := s0) x ?_ ?_; unfold x; clear x; rotate_left; clear_value x; revert x; intro _ _)
    | (extract_lets +onlyGivenNames x; clear_value x; revert x; intro _)
    | with_reducible refine State.set_frame (F.HOST_SQ_STATE_error_kind _ _) b139 ?_
    | with_reducible refine State.complete_frame w1 ?_
    | with_reducible refine State.fire_frame w2 ?_
    | with_reducible refine State.raise_frame w3 ?_
    | with_reducible refine Frame.ite ?_ ?_
    | with_reducible refine Frame.foldl ?_ _ _ ?_
    | split
    | with_reducible refine Frame.of_snd (by with_reducible assumption) ?_
    | with_reducible refine Frame.of_fst (by with_reducible assumption) ?_
    | with_reducible refine Frame.snd_mk ?_
    | with_reducible refine Frame.fst_mk ?_

def execDmaReadCompletion_mask : Nat := 0x6020000001000000800000000005000000000000000000000080000000000000000000000000026548000
theorem execDmaReadCompletion_frame {s nx : State} {i : Port} {r : Fin 4} {e : DmaEnd} (e : execDmaReadCompletion i r e s = .next nx) : Frame execDmaReadCompletion_mask s nx := by
  refine State.run_frame rfl (fun W s0 s hW h => ?_) e
  have w0 := Within.trans (a := State.takeBusy_mask) rfl hW
  have w1 := Within.trans (a := State.complete_mask) rfl hW
  have w2 := Within.trans (a := State.bwInAdd_mask) rfl hW
  have w3 := Within.trans (a := State.store_mask) rfl hW
  have w4 := Within.trans (a := State.dmaError_mask) rfl hW
  repeat' first
    | intro _
    | with_reducible assumption
    | (extract_lets +onlyGivenNames x; refine Frame.cut (W := W) (s0 := s0) x ?_ ?_; unfold x; clear x; rotate_left; clear_value x; revert x; intro _ _)
    | (extract_lets +onlyGivenNames x; clear_value x; revert x; intro _)
    | with_reducible refine State.complete_frame w1 ?_
    | with_reducible refine State.bwInAdd_frame w2 ?_
    | with_reducible refine State.store_frame w3 ?_
    | with_reducible refine State.dmaError_frame w4 ?_
    | with_reducible refine Frame.ite ?_ ?_
    | with_reducible refine Frame.foldl ?_ _ _ ?_
    | split
    | with_reducible refine State.takeBusy_frame (by with_reducible assumption) w0 ?_
    | with_reducible refine Frame.of_snd (by with_reducible assumption) ?_
    | with_reducible refine Frame.of_fst (by with_reducible assumption) ?_

def execDmaTimeout_mask : Nat := 0x6020000000000000800000000005000000000000000000000080000000000000000000000000022048000
theorem execDmaTimeout_frame {s nx : State} {i : Port} {r : Fin 4} (e : execDmaTimeout i r s = .next nx) : Frame execDmaTimeout_mask s nx := by
  refine State.run_frame rfl (fun W s0 s hW h => ?_) e
  have w0 := Within.trans (a := State.takeBusy_mask) rfl hW
  have w1 := Within.trans (a := State.dmaError_mask) rfl hW
  repeat' first
    | intro _
    | with_reducible assumption
    | (extract_lets +onlyGivenNames x; refine Frame.cut (W := W) (s0 := s0) x ?_ ?_; unfold x; clear x; rotate_left; clear_value x; revert x; intro _ _)
    | (extract_lets +onlyGivenNames x; clear_value x; revert x; intro _)
    | with_reducible refine State.dmaError_frame w1 ?_
    | with_reducible refine Frame.ite ?_ ?_
    | with_reducible refine Frame.foldl ?_ _ _ ?_
    | split
    | with_reducible refine State.takeBusy_frame (by with_reducible assumption) w0 ?_
    | with_reducible refine Frame.of_snd (by with_reducible assumption) ?_
    | with_reducible refine Frame.of_fst (by with_reducible assumption) ?_

def execHostMboxPost_mask : Nat := 0x6020000000000000800000000005000000000000000000000000000000000000000000000000022448000
theorem execHostMboxPost_frame {s nx : State} {i : Port} {p : Part} {number : Word} (e : execHostMboxPost i p number s = .next nx) : Frame execHostMboxPost_mask s nx := by
  refine State.run_frame rfl (fun W s0 s hW h => ?_) e
  have b18 := hW.bit (n := 18) (by decide)
  have w1 := Within.trans (a := State.hostRole_mask) rfl hW
  have b22 := hW.bit (n := 22) (by decide)
  repeat' first
    | intro _
    | with_reducible assumption
    | (extract_lets +onlyGivenNames x; refine Frame.cut (W := W) (s0 := s0) x ?_ ?_; unfold x; clear x; rotate_left; clear_value x; revert x; intro _ _)
    | (extract_lets +onlyGivenNames x; clear_value x; revert x; intro _)
    | with_reducible refine State.hostRole_frame w1 ?_
    | with_reducible refine State.putBytes_frame b22 ?_
    | with_reducible refine Frame.ite ?_ ?_
    | with_reducible refine Frame.foldl ?_ _ _ ?_
    | split
    | with_reducible refine Frame.of_snd (by with_reducible assumption) ?_
    | with_reducible refine Frame.of_fst (by with_reducible assumption) ?_
    | with_reducible refine Frame.host_upd b18 ?_

def State.landMail_mask : Nat := 0x1000000000000000000000000000000000000000200000000000000000000000000000540000
theorem State.landMail_frame {W : Nat} {s0 s : State} {n : Nat} (hW : Within State.landMail_mask W) (h : Frame W s0 s) :
    Frame W s0 (State.landMail s n) := by
  have b18 := hW.bit (n := 18) (by decide)
  have b141 := hW.bit (n := 141) (by decide)
  have w2 := Within.trans (a := State.store_mask) rfl hW
  unfold State.landMail
  repeat' first
    | intro _
    | with_reducible assumption
    | (extract_lets +onlyGivenNames x; refine Frame.cut (W := W) (s0 := s0) x ?_ ?_; unfold x; clear x; rotate_left; clear_value x; revert x; intro _ _)
    | (extract_lets +onlyGivenNames x; clear_value x; revert x; intro _)
    | with_reducible refine State.set_frame (F.HOST_MBOX_DONE_number_kind _ _) b141 ?_
    | with_reducible refine State.each_frame ?_ ?_
    | with_reducible refine State.store_frame w2 ?_
    | with_reducible refine Frame.ite ?_ ?_
    | with_reducible refine Frame.foldl ?_ _ _ ?_
    | split
    | with_reducible refine Frame.of_snd (by with_reducible assumption) ?_
    | with_reducible refine Frame.of_fst (by with_reducible assumption) ?_
    | with_reducible refine Frame.snd_mk ?_
    | with_reducible refine Frame.fst_mk ?_
    | with_reducible refine Frame.host_upd b18 ?_

def State.publishMail_mask : Nat := 0x20440000
theorem State.publishMail_frame {W : Nat} {s0 s : State} (hW : Within State.publishMail_mask W) (h : Frame W s0 s) :
    Frame W s0 (State.publishMail s) := by
  have b18 := hW.bit (n := 18) (by decide)
  have w1 := Within.trans (a := State.fireAll_mask) rfl hW
  have b22 := hW.bit (n := 22) (by decide)
  unfold State.publishMail
  repeat' first
    | intro _
    | with_reducible assumption
    | (extract_lets +onlyGivenNames x; refine Frame.cut (W := W) (s0 := s0) x ?_ ?_; unfold x; clear x; rotate_left; clear_value x; revert x; intro _ _)
    | (extract_lets +onlyGivenNames x; clear_value x; revert x; intro _)
    | with_reducible refine State.each_frame ?_ ?_
    | with_reducible refine State.fireAll_frame w1 ?_
    | with_reducible refine State.putBytes_frame b22 ?_
    | with_reducible refine Frame.ite ?_ ?_
    | with_reducible refine Frame.foldl ?_ _ _ ?_
    | split
    | with_reducible refine Frame.of_snd (by with_reducible assumption) ?_
    | with_reducible refine Frame.of_fst (by with_reducible assumption) ?_
    | with_reducible refine Frame.snd_mk ?_
    | with_reducible refine Frame.fst_mk ?_
    | with_reducible refine Frame.host_upd b18 ?_

def execBar4Access_mask : Nat := 0x602000000100000080000000000500000000000000000000000000000000000000000000000002e508000
theorem execBar4Access_frame {s nx : State} {i : Port} {off : BitVec 32} {w : Option Word} (e : execBar4Access i off w s = .next nx) : Frame execBar4Access_mask s nx := by
  refine State.run_frame rfl (fun W s0 s hW h => ?_) e
  have w0 := Within.trans (a := State.bwOutAdd_mask) rfl hW
  have w1 := Within.trans (a := State.reply_mask) rfl hW
  have w2 := Within.trans (a := State.raise_mask) rfl hW
  have w3 := Within.trans (a := State.fire_mask) rfl hW
  have w4 := Within.trans (a := State.bwInAdd_mask) rfl hW
  have w5 := Within.trans (a := State.store_mask) rfl hW
  repeat' first
    | intro _
    | with_reducible assumption
    | (extract_lets +onlyGivenNames x; refine Frame.cut (W := W) (s0 := s0) x ?_ ?_; unfold x; clear x; rotate_left; clear_value x; revert x; intro _ _)
    | (extract_lets +onlyGivenNames x; clear_value x; revert x; intro _)
    | with_reducible refine State.bwOutAdd_frame w0 ?_
    | with_reducible refine State.reply_frame w1 ?_
    | with_reducible refine State.raise_frame w2 ?_
    | with_reducible refine State.fire_frame w3 ?_
    | with_reducible refine State.bwInAdd_frame w4 ?_
    | with_reducible refine State.store_frame w5 ?_
    | with_reducible refine Frame.ite ?_ ?_
    | with_reducible refine Frame.foldl ?_ _ _ ?_
    | split
    | with_reducible refine Frame.of_snd (by with_reducible assumption) ?_
    | with_reducible refine Frame.of_fst (by with_reducible assumption) ?_
    | with_reducible refine Frame.snd_mk ?_
    | with_reducible refine Frame.fst_mk ?_

end Sys2Proof.Machine
end

