-- ==== Sys2Proof/Laws/Time.lean ====
section
/-! SUPPORT. What the operations of Machine/Time.lean change: each differs from its argument in the areas of its mask alone. -/

set_option linter.all false

namespace Sys2Proof.Machine

def State.timeOut_mask : Nat := 0x10000
theorem State.timeOut_frame {W : Nat} {s0 s : State} {f : FrameOut} (hW : Within State.timeOut_mask W) (h : Frame W s0 s) :
    Frame W s0 (State.timeOut s f) := by
  have b16 := hW.bit (n := 16) (by decide)
  unfold State.timeOut
  repeat' first
    | intro _
    | with_reducible assumption
    | (extract_lets +onlyGivenNames x; refine Frame.cut (W := W) (s0 := s0) x ?_ ?_; unfold x; clear x; rotate_left; clear_value x; revert x; intro _ _)
    | (extract_lets +onlyGivenNames x; clear_value x; revert x; intro _)
    | with_reducible refine Frame.ite ?_ ?_
    | with_reducible refine Frame.foldl ?_ _ _ ?_
    | split
    | with_reducible refine Frame.of_snd (by with_reducible assumption) ?_
    | with_reducible refine Frame.of_fst (by with_reducible assumption) ?_
    | with_reducible refine Frame.snd_mk ?_
    | with_reducible refine Frame.fst_mk ?_
    | with_reducible refine Frame.time_upd b16 ?_

def State.setServo_mask : Nat := 0x2000000000000000000000000000000000000000000000000000000000000
theorem State.setServo_frame {W : Nat} {s0 s : State} {st : Nat} (hW : Within State.setServo_mask W) (h : Frame W s0 s) :
    Frame W s0 (State.setServo s st) := by
  have b241 := hW.bit (n := 241) (by decide)
  unfold State.setServo
  repeat' first
    | intro _
    | with_reducible assumption
    | (extract_lets +onlyGivenNames x; refine Frame.cut (W := W) (s0 := s0) x ?_ ?_; unfold x; clear x; rotate_left; clear_value x; revert x; intro _ _)
    | (extract_lets +onlyGivenNames x; clear_value x; revert x; intro _)
    | with_reducible refine State.set_frame (F.TIME_STATUS_state_kind) b241 ?_
    | with_reducible refine Frame.ite ?_ ?_
    | with_reducible refine Frame.foldl ?_ _ _ ?_
    | split
    | with_reducible refine Frame.of_snd (by with_reducible assumption) ?_
    | with_reducible refine Frame.of_fst (by with_reducible assumption) ?_
    | with_reducible refine Frame.snd_mk ?_
    | with_reducible refine Frame.fst_mk ?_

def State.setRate_mask : Nat := 0x40000000000000000000000000000000000000000000000000000000000000
theorem State.setRate_frame {W : Nat} {s0 s : State} {ppb : Int} (hW : Within State.setRate_mask W) (h : Frame W s0 s) :
    Frame W s0 (State.setRate s ppb) := by
  have b246 := hW.bit (n := 246) (by decide)
  unfold State.setRate
  repeat' first
    | intro _
    | with_reducible assumption
    | (extract_lets +onlyGivenNames x; refine Frame.cut (W := W) (s0 := s0) x ?_ ?_; unfold x; clear x; rotate_left; clear_value x; revert x; intro _ _)
    | (extract_lets +onlyGivenNames x; clear_value x; revert x; intro _)
    | with_reducible refine State.set_frame (F.TIME_FREQ_ppb_kind) b246 ?_
    | with_reducible refine Frame.ite ?_ ?_
    | with_reducible refine Frame.foldl ?_ _ _ ?_
    | split
    | with_reducible refine Frame.of_snd (by with_reducible assumption) ?_
    | with_reducible refine Frame.of_fst (by with_reducible assumption) ?_
    | with_reducible refine Frame.snd_mk ?_
    | with_reducible refine Frame.fst_mk ?_

def State.ptpViolation_mask : Nat := 0x6020000000000000000100000000000000000000000000000000000000000000000000000000022000000
theorem State.ptpViolation_frame {W : Nat} {s0 s : State} {tp : Nat} {cause : Nat} {kind : Nat} (hW : Within State.ptpViolation_mask W) (h : Frame W s0 s) :
    Frame W s0 (State.ptpViolation s tp cause kind) := by
  have b260 := hW.bit (n := 260) (by decide)
  have w1 := Within.trans (a := State.raise_mask) rfl hW
  unfold State.ptpViolation
  repeat' first
    | intro _
    | with_reducible assumption
    | (extract_lets +onlyGivenNames x; refine Frame.cut (W := W) (s0 := s0) x ?_ ?_; unfold x; clear x; rotate_left; clear_value x; revert x; intro _ _)
    | (extract_lets +onlyGivenNames x; clear_value x; revert x; intro _)
    | with_reducible refine State.inc_frame (F.TIME_PTP_CNT_violations_kind _) b260 ?_
    | with_reducible refine State.raise_frame w1 ?_
    | with_reducible refine Frame.ite ?_ ?_
    | with_reducible refine Frame.foldl ?_ _ _ ?_
    | split
    | with_reducible refine Frame.of_snd (by with_reducible assumption) ?_
    | with_reducible refine Frame.of_fst (by with_reducible assumption) ?_
    | with_reducible refine Frame.snd_mk ?_
    | with_reducible refine Frame.fst_mk ?_

def State.countMessage_mask : Nat := 0x10000
theorem State.countMessage_snd {W : Nat} {s0 s : State} {tp : Nat} {source : Nat} (hW : Within State.countMessage_mask W) (h : Frame W s0 s) :
    Frame W s0 (State.countMessage s tp source).2 := by
  have b16 := hW.bit (n := 16) (by decide)
  have key : Frame.Snd W s0 (State.countMessage s tp source) := by
    unfold State.countMessage
    repeat' first
      | intro _
      | with_reducible assumption
      | (extract_lets +onlyGivenNames x; refine Frame.cut (W := W) (s0 := s0) x ?_ ?_; unfold x; clear x; rotate_left; clear_value x; revert x; intro _ _)
      | (extract_lets +onlyGivenNames x; clear_value x; revert x; intro _)
      | with_reducible refine Frame.snd_mk ?_
      | with_reducible refine Frame.ite ?_ ?_
      | with_reducible refine Frame.foldl ?_ _ _ ?_
      | split
      | with_reducible refine Frame.of_snd (by with_reducible assumption) ?_
      | with_reducible refine Frame.of_fst (by with_reducible assumption) ?_
      | with_reducible refine Frame.snd_mk ?_
      | with_reducible refine Frame.fst_mk ?_
      | with_reducible refine Frame.foldl_snd ?_ _ _ ?_
      | with_reducible refine Frame.foldl_fst ?_ _ _ ?_
      | with_reducible refine Frame.foldr_snd ?_ _ _ ?_
      | with_reducible refine Frame.Snd.mk ?_
      | with_reducible refine Frame.Fst.mk ?_
      | dsimp only
      | with_reducible refine Frame.time_upd b16 ?_
  exact key.out
theorem State.countMessage_frame {W : Nat} {s0 s : State} {tp : Nat} {source : Nat} {r0 : Nat} {t : State} (e : State.countMessage s tp source = (r0, t)) (hW : Within State.countMessage_mask W) (h : Frame W s0 s) :
    Frame W s0 t := by
  have key := State.countMessage_snd (tp := tp) (source := source) hW h
  rw [e] at key; exact key

def State.ptpIn_mask : Nat := 0x6020000000000000000100000000000000000000000000000000000000000004000000000000022010000
theorem State.ptpIn_frame {W : Nat} {s0 s : State} {tp : Fin 2} {kind : Nat} {m : Ptp} {f : State → State} (hW : Within State.ptpIn_mask W) (hf_f : ∀ s, Frame W s0 s → Frame W s0 (f s)) (h : Frame W s0 s) :
    Frame W s0 (State.ptpIn s tp kind m f) := by
  have w0 := Within.trans (a := State.bridgeFull_mask) rfl hW
  have w1 := Within.trans (a := State.countMessage_mask) rfl hW
  have w2 := Within.trans (a := State.ptpViolation_mask) rfl hW
  unfold State.ptpIn
  repeat' first
    | intro _
    | with_reducible assumption
    | (extract_lets +onlyGivenNames x; refine Frame.cut (W := W) (s0 := s0) x ?_ ?_; unfold x; clear x; rotate_left; clear_value x; revert x; intro _ _)
    | (extract_lets +onlyGivenNames x; clear_value x; revert x; intro _)
    | with_reducible refine State.bridgeFull_frame w0 ?_
    | with_reducible refine State.ptpViolation_frame w2 ?_
    | with_reducible refine State.countMessage_snd w1 ?_
    | with_reducible refine Frame.ite ?_ ?_
    | with_reducible apply hf_f
    | with_reducible refine Frame.foldl ?_ _ _ ?_
    | split
    | with_reducible refine State.countMessage_frame (by with_reducible assumption) w1 ?_
    | with_reducible refine Frame.of_snd (by with_reducible assumption) ?_
    | with_reducible refine Frame.of_fst (by with_reducible assumption) ?_
    | with_reducible refine Frame.snd_mk ?_
    | with_reducible refine Frame.fst_mk ?_
    | solve_by_elim

def State.forward_mask : Nat := 0x1010000
theorem State.forward_frame {W : Nat} {s0 s : State} {tp : Fin 2} {kind : Nat} {event : Bool} {m : Ptp} (hW : Within State.forward_mask W) (h : Frame W s0 s) :
    Frame W s0 (State.forward s tp kind event m) := by
  have w0 := Within.trans (a := State.timeOut_mask) rfl hW
  have w1 := Within.trans (a := State.draw_mask) rfl hW
  unfold State.forward
  repeat' first
    | intro _
    | with_reducible assumption
    | (extract_lets +onlyGivenNames x; refine Frame.cut (W := W) (s0 := s0) x ?_ ?_; unfold x; clear x; rotate_left; clear_value x; revert x; intro _ _)
    | (extract_lets +onlyGivenNames x; clear_value x; revert x; intro _)
    | with_reducible refine State.timeOut_frame w0 ?_
    | with_reducible refine State.draw_snd w1 ?_
    | with_reducible refine Frame.ite ?_ ?_
    | with_reducible refine Frame.foldl ?_ _ _ ?_
    | split
    | with_reducible refine State.draw_frame (by with_reducible assumption) w1 ?_
    | with_reducible refine Frame.of_snd (by with_reducible assumption) ?_
    | with_reducible refine Frame.of_fst (by with_reducible assumption) ?_
    | with_reducible refine Frame.snd_mk ?_
    | with_reducible refine Frame.fst_mk ?_

def State.noMaster_mask : Nat := 0x42000000000000000000000000000000000000000000000000000000010000
theorem State.noMaster_frame {W : Nat} {s0 s : State} (hW : Within State.noMaster_mask W) (h : Frame W s0 s) :
    Frame W s0 (State.noMaster s) := by
  have b241 := hW.bit (n := 241) (by decide)
  have w0 := Within.trans (a := State.setServo_mask) rfl hW
  have w1 := Within.trans (a := State.setRate_mask) rfl hW
  have b16 := hW.bit (n := 16) (by decide)
  unfold State.noMaster
  repeat' first
    | intro _
    | with_reducible assumption
    | (extract_lets +onlyGivenNames x; refine Frame.cut (W := W) (s0 := s0) x ?_ ?_; unfold x; clear x; rotate_left; clear_value x; revert x; intro _ _)
    | (extract_lets +onlyGivenNames x; clear_value x; revert x; intro _)
    | with_reducible refine State.set_frame (F.TIME_STATUS_step_pending_kind) b241 ?_
    | with_reducible refine State.setServo_frame w0 ?_
    | with_reducible refine State.setRate_frame w1 ?_
    | with_reducible refine Frame.ite ?_ ?_
    | with_reducible refine Frame.foldl ?_ _ _ ?_
    | split
    | with_reducible refine Frame.of_snd (by with_reducible assumption) ?_
    | with_reducible refine Frame.of_fst (by with_reducible assumption) ?_
    | with_reducible refine Frame.snd_mk ?_
    | with_reducible refine Frame.fst_mk ?_
    | with_reducible refine Frame.time_upd b16 ?_

def State.bmca_mask : Nat := 0x42000000000000000000000000000000000000000000000000000000010000
theorem State.bmca_frame {W : Nat} {s0 s : State} {timeout : Bool} (hW : Within State.bmca_mask W) (h : Frame W s0 s) :
    Frame W s0 (State.bmca s timeout) := by
  have b241 := hW.bit (n := 241) (by decide)
  have w0 := Within.trans (a := State.noMaster_mask) rfl hW
  have b16 := hW.bit (n := 16) (by decide)
  unfold State.bmca
  repeat' first
    | intro _
    | with_reducible assumption
    | (extract_lets +onlyGivenNames x; refine Frame.cut (W := W) (s0 := s0) x ?_ ?_; unfold x; clear x; rotate_left; clear_value x; revert x; intro _ _)
    | (extract_lets +onlyGivenNames x; clear_value x; revert x; intro _)
    | with_reducible refine State.set_frame (F.TIME_STATUS_grandmaster_kind) b241 ?_
    | with_reducible refine State.noMaster_frame w0 ?_
    | with_reducible refine Frame.ite ?_ ?_
    | with_reducible refine Frame.foldl ?_ _ _ ?_
    | split
    | with_reducible refine Frame.of_snd (by with_reducible assumption) ?_
    | with_reducible refine Frame.of_fst (by with_reducible assumption) ?_
    | with_reducible refine Frame.snd_mk ?_
    | with_reducible refine Frame.fst_mk ?_
    | with_reducible refine Frame.time_upd b16 ?_

def execAnnounce_mask : Nat := 0x6020000000000000800100042005000000000000000000000000000000000004000000000000023018000
theorem execAnnounce_frame {s nx : State} {tp : Fin 2} {m : Ptp} (e : execAnnounce tp m s = .next nx) : Frame execAnnounce_mask s nx := by
  refine State.run_frame rfl (fun W s0 s hW h => ?_) e
  have w0 := Within.trans (a := State.ptpIn_mask) rfl hW
  have w1 := Within.trans (a := State.ptpViolation_mask) rfl hW
  have w2 := Within.trans (a := State.forward_mask) rfl hW
  have w3 := Within.trans (a := State.bmca_mask) rfl hW
  have b16 := hW.bit (n := 16) (by decide)
  repeat' first
    | intro _
    | with_reducible assumption
    | (extract_lets +onlyGivenNames x; refine Frame.cut (W := W) (s0 := s0) x ?_ ?_; unfold x; clear x; rotate_left; clear_value x; revert x; intro _ _)
    | (extract_lets +onlyGivenNames x; clear_value x; revert x; intro _)
    | with_reducible refine State.ptpIn_frame w0 ?_ ?_
    | with_reducible refine State.ptpViolation_frame w1 ?_
    | with_reducible refine State.forward_frame w2 ?_
    | with_reducible refine State.bmca_frame w3 ?_
    | with_reducible refine Frame.ite ?_ ?_
    | with_reducible refine Frame.foldl ?_ _ _ ?_
    | split
    | with_reducible refine Frame.of_snd (by with_reducible assumption) ?_
    | with_reducible refine Frame.of_fst (by with_reducible assumption) ?_
    | with_reducible refine Frame.snd_mk ?_
    | with_reducible refine Frame.fst_mk ?_
    | with_reducible refine Frame.time_upd b16 ?_

def execMasterLost_mask : Nat := 0x6020000000000000800000042005000000000000000000000000000000000000000000000000022018000
theorem execMasterLost_frame {s nx : State} (e : execMasterLost s = .next nx) : Frame execMasterLost_mask s nx := by
  refine State.run_frame rfl (fun W s0 s hW h => ?_) e
  have b16 := hW.bit (n := 16) (by decide)
  have w1 := Within.trans (a := State.bmca_mask) rfl hW
  have w2 := Within.trans (a := State.noMaster_mask) rfl hW
  have w3 := Within.trans (a := State.raise_mask) rfl hW
  repeat' first
    | intro _
    | with_reducible assumption
    | (extract_lets +onlyGivenNames x; refine Frame.cut (W := W) (s0 := s0) x ?_ ?_; unfold x; clear x; rotate_left; clear_value x; revert x; intro _ _)
    | (extract_lets +onlyGivenNames x; clear_value x; revert x; intro _)
    | with_reducible refine State.bmca_frame w1 ?_
    | with_reducible refine State.noMaster_frame w2 ?_
    | with_reducible refine State.raise_frame w3 ?_
    | with_reducible refine Frame.ite ?_ ?_
    | with_reducible refine Frame.foldl ?_ _ _ ?_
    | split
    | with_reducible refine Frame.of_snd (by with_reducible assumption) ?_
    | with_reducible refine Frame.of_fst (by with_reducible assumption) ?_
    | with_reducible refine Frame.time_upd b16 ?_

def State.servoRate_mask : Nat := 0x40000000000000000000000000000000000000000000000000000001000000
theorem State.servoRate_frame {W : Nat} {s0 s : State} {limit : Nat} (hW : Within State.servoRate_mask W) (h : Frame W s0 s) :
    Frame W s0 (State.servoRate s limit) := by
  have w0 := Within.trans (a := State.draw_mask) rfl hW
  have w1 := Within.trans (a := State.setRate_mask) rfl hW
  unfold State.servoRate
  repeat' first
    | intro _
    | with_reducible assumption
    | (extract_lets +onlyGivenNames x; refine Frame.cut (W := W) (s0 := s0) x ?_ ?_; unfold x; clear x; rotate_left; clear_value x; revert x; intro _ _)
    | (extract_lets +onlyGivenNames x; clear_value x; revert x; intro _)
    | with_reducible refine State.draw_snd w0 ?_
    | with_reducible refine State.setRate_frame w1 ?_
    | with_reducible refine Frame.ite ?_ ?_
    | with_reducible refine Frame.foldl ?_ _ _ ?_
    | split
    | with_reducible refine State.draw_frame (by with_reducible assumption) w0 ?_
    | with_reducible refine Frame.of_snd (by with_reducible assumption) ?_
    | with_reducible refine Frame.of_fst (by with_reducible assumption) ?_
    | with_reducible refine Frame.snd_mk ?_
    | with_reducible refine Frame.fst_mk ?_

def State.refuseOffset_mask : Nat := 0x6020000000000000000100042000000000000000000000000000000000000000000000000000022010000
theorem State.refuseOffset_frame {W : Nat} {s0 s : State} {tp : Nat} {off : Int} (hW : Within State.refuseOffset_mask W) (h : Frame W s0 s) :
    Frame W s0 (State.refuseOffset s tp off) := by
  have b16 := hW.bit (n := 16) (by decide)
  have b260 := hW.bit (n := 260) (by decide)
  have w2 := Within.trans (a := State.raise_mask) rfl hW
  have w3 := Within.trans (a := State.ptpViolation_mask) rfl hW
  have w4 := Within.trans (a := State.setRate_mask) rfl hW
  have w5 := Within.trans (a := State.setServo_mask) rfl hW
  unfold State.refuseOffset
  repeat' first
    | intro _
    | with_reducible assumption
    | (extract_lets +onlyGivenNames x; refine Frame.cut (W := W) (s0 := s0) x ?_ ?_; unfold x; clear x; rotate_left; clear_value x; revert x; intro _ _)
    | (extract_lets +onlyGivenNames x; clear_value x; revert x; intro _)
    | with_reducible refine State.inc_frame (F.TIME_PTP_CNT_jumps_kind _) b260 ?_
    | with_reducible refine State.raise_frame w2 ?_
    | with_reducible refine State.ptpViolation_frame w3 ?_
    | with_reducible refine State.setRate_frame w4 ?_
    | with_reducible refine State.setServo_frame w5 ?_
    | with_reducible refine Frame.ite ?_ ?_
    | with_reducible refine Frame.foldl ?_ _ _ ?_
    | split
    | with_reducible refine Frame.of_snd (by with_reducible assumption) ?_
    | with_reducible refine Frame.of_fst (by with_reducible assumption) ?_
    | with_reducible refine Frame.snd_mk ?_
    | with_reducible refine Frame.fst_mk ?_
    | with_reducible refine Frame.time_upd b16 ?_

def State.acceptOffset_mask : Nat := 0x6020000000000000000000042000000000000000000000000000000000000000000000000000023010000
theorem State.acceptOffset_frame {W : Nat} {s0 s : State} {tp : Nat} {off : Int} (hW : Within State.acceptOffset_mask W) (h : Frame W s0 s) :
    Frame W s0 (State.acceptOffset s tp off) := by
  have b16 := hW.bit (n := 16) (by decide)
  have b241 := hW.bit (n := 241) (by decide)
  have w2 := Within.trans (a := State.setServo_mask) rfl hW
  have w3 := Within.trans (a := State.raise_mask) rfl hW
  have w4 := Within.trans (a := State.setRate_mask) rfl hW
  have w5 := Within.trans (a := State.servoRate_mask) rfl hW
  unfold State.acceptOffset
  repeat' first
    | intro _
    | with_reducible assumption
    | (extract_lets +onlyGivenNames x; refine Frame.cut (W := W) (s0 := s0) x ?_ ?_; unfold x; clear x; rotate_left; clear_value x; revert x; intro _ _)
    | (extract_lets +onlyGivenNames x; clear_value x; revert x; intro _)
    | with_reducible refine State.set_frame (F.TIME_STATUS_valid_kind) b241 ?_
    | with_reducible refine State.setServo_frame w2 ?_
    | with_reducible refine State.raise_frame w3 ?_
    | with_reducible refine State.setRate_frame w4 ?_
    | with_reducible refine State.servoRate_frame w5 ?_
    | with_reducible refine Frame.ite ?_ ?_
    | with_reducible refine Frame.foldl ?_ _ _ ?_
    | split
    | with_reducible refine Frame.of_snd (by with_reducible assumption) ?_
    | with_reducible refine Frame.of_fst (by with_reducible assumption) ?_
    | with_reducible refine Frame.snd_mk ?_
    | with_reducible refine Frame.fst_mk ?_
    | with_reducible refine Frame.time_upd b16 ?_

def State.measure_mask : Nat := 0x6020000000000000000100062000000000000000000000000000000000000000000000000000023010000
theorem State.measure_frame {W : Nat} {s0 s : State} {tp : Nat} {off : Int} (hW : Within State.measure_mask W) (h : Frame W s0 s) :
    Frame W s0 (State.measure s tp off) := by
  have b16 := hW.bit (n := 16) (by decide)
  have b245 := hW.bit (n := 245) (by decide)
  have b241 := hW.bit (n := 241) (by decide)
  have w3 := Within.trans (a := State.acceptOffset_mask) rfl hW
  have w4 := Within.trans (a := State.refuseOffset_mask) rfl hW
  unfold State.measure
  repeat' first
    | intro _
    | with_reducible assumption
    | (extract_lets +onlyGivenNames x; refine Frame.cut (W := W) (s0 := s0) x ?_ ?_; unfold x; clear x; rotate_left; clear_value x; revert x; intro _ _)
    | (extract_lets +onlyGivenNames x; clear_value x; revert x; intro _)
    | with_reducible refine State.set_frame (F.TIME_OFFSET_ns_kind) b245 ?_
    | with_reducible refine State.set_frame (F.TIME_STATUS_step_pending_kind) b241 ?_
    | with_reducible refine State.acceptOffset_frame w3 ?_
    | with_reducible refine State.refuseOffset_frame w4 ?_
    | with_reducible refine Frame.ite ?_ ?_
    | with_reducible refine Frame.foldl ?_ _ _ ?_
    | split
    | with_reducible refine Frame.of_snd (by with_reducible assumption) ?_
    | with_reducible refine Frame.of_fst (by with_reducible assumption) ?_
    | with_reducible refine Frame.snd_mk ?_
    | with_reducible refine Frame.fst_mk ?_
    | with_reducible refine Frame.time_upd b16 ?_

def State.servoSync_mask : Nat := 0x6020000000000000000100062000000000000000000000000000000000000000000000000000023010000
theorem State.servoSync_frame {W : Nat} {s0 s : State} {tp : Nat} {t1 : Int} {t2 : Int} {corr : Int} (hW : Within State.servoSync_mask W) (h : Frame W s0 s) :
    Frame W s0 (State.servoSync s tp t1 t2 corr) := by
  have b16 := hW.bit (n := 16) (by decide)
  have w1 := Within.trans (a := State.measure_mask) rfl hW
  unfold State.servoSync
  repeat' first
    | intro _
    | with_reducible assumption
    | (extract_lets +onlyGivenNames x; refine Frame.cut (W := W) (s0 := s0) x ?_ ?_; unfold x; clear x; rotate_left; clear_value x; revert x; intro _ _)
    | (extract_lets +onlyGivenNames x; clear_value x; revert x; intro _)
    | with_reducible refine State.measure_frame w1 ?_
    | with_reducible refine Frame.ite ?_ ?_
    | with_reducible refine Frame.foldl ?_ _ _ ?_
    | split
    | with_reducible refine Frame.of_snd (by with_reducible assumption) ?_
    | with_reducible refine Frame.of_fst (by with_reducible assumption) ?_
    | with_reducible refine Frame.snd_mk ?_
    | with_reducible refine Frame.fst_mk ?_
    | with_reducible refine Frame.time_upd b16 ?_

def execSync_mask : Nat := 0x6020000000000000800100062005000000000000000000000000000000000004000000000000023018000
theorem execSync_frame {s nx : State} {tp : Fin 2} {m : Ptp} (e : execSync tp m s = .next nx) : Frame execSync_mask s nx := by
  refine State.run_frame rfl (fun W s0 s hW h => ?_) e
  have b16 := hW.bit (n := 16) (by decide)
  have w1 := Within.trans (a := State.ptpIn_mask) rfl hW
  have w2 := Within.trans (a := State.forward_mask) rfl hW
  have w3 := Within.trans (a := State.servoSync_mask) rfl hW
  repeat' first
    | intro _
    | with_reducible assumption
    | (extract_lets +onlyGivenNames x; refine Frame.cut (W := W) (s0 := s0) x ?_ ?_; unfold x; clear x; rotate_left; clear_value x; revert x; intro _ _)
    | (extract_lets +onlyGivenNames x; clear_value x; revert x; intro _)
    | with_reducible refine State.ptpIn_frame w1 ?_ ?_
    | with_reducible refine State.forward_frame w2 ?_
    | with_reducible refine State.servoSync_frame w3 ?_
    | with_reducible refine Frame.ite ?_ ?_
    | with_reducible refine Frame.foldl ?_ _ _ ?_
    | split
    | with_reducible refine Frame.of_snd (by with_reducible assumption) ?_
    | with_reducible refine Frame.of_fst (by with_reducible assumption) ?_
    | with_reducible refine Frame.time_upd b16 ?_

def execFollowUp_mask : Nat := 0x6020000000000000800100062005000000000000000000000000000000000004000000000000023018000
theorem execFollowUp_frame {s nx : State} {tp : Fin 2} {m : Ptp} (e : execFollowUp tp m s = .next nx) : Frame execFollowUp_mask s nx := by
  refine State.run_frame rfl (fun W s0 s hW h => ?_) e
  have b16 := hW.bit (n := 16) (by decide)
  have w1 := Within.trans (a := State.ptpIn_mask) rfl hW
  have w2 := Within.trans (a := State.ptpViolation_mask) rfl hW
  have w3 := Within.trans (a := State.forward_mask) rfl hW
  have w4 := Within.trans (a := State.servoSync_mask) rfl hW
  repeat' first
    | intro _
    | with_reducible assumption
    | (extract_lets +onlyGivenNames x; refine Frame.cut (W := W) (s0 := s0) x ?_ ?_; unfold x; clear x; rotate_left; clear_value x; revert x; intro _ _)
    | (extract_lets +onlyGivenNames x; clear_value x; revert x; intro _)
    | with_reducible refine State.ptpIn_frame w1 ?_ ?_
    | with_reducible refine State.ptpViolation_frame w2 ?_
    | with_reducible refine State.forward_frame w3 ?_
    | with_reducible refine State.servoSync_frame w4 ?_
    | with_reducible refine Frame.ite ?_ ?_
    | with_reducible refine Frame.foldl ?_ _ _ ?_
    | split
    | with_reducible refine Frame.of_snd (by with_reducible assumption) ?_
    | with_reducible refine Frame.of_fst (by with_reducible assumption) ?_
    | with_reducible refine Frame.time_upd b16 ?_

def State.nextSeq_mask : Nat := 0x10000
theorem State.nextSeq_snd {W : Nat} {s0 s : State} {tp : Nat} {kind : Nat} (hW : Within State.nextSeq_mask W) (h : Frame W s0 s) :
    Frame W s0 (State.nextSeq s tp kind).2 := by
  have b16 := hW.bit (n := 16) (by decide)
  have key : Frame.Snd W s0 (State.nextSeq s tp kind) := by
    unfold State.nextSeq
    repeat' first
      | intro _
      | with_reducible assumption
      | (extract_lets +onlyGivenNames x; refine Frame.cut (W := W) (s0 := s0) x ?_ ?_; unfold x; clear x; rotate_left; clear_value x; revert x; intro _ _)
      | (extract_lets +onlyGivenNames x; clear_value x; revert x; intro _)
      | with_reducible refine Frame.snd_mk ?_
      | with_reducible refine Frame.ite ?_ ?_
      | with_reducible refine Frame.foldl ?_ _ _ ?_
      | split
      | with_reducible refine Frame.of_snd (by with_reducible assumption) ?_
      | with_reducible refine Frame.of_fst (by with_reducible assumption) ?_
      | with_reducible refine Frame.snd_mk ?_
      | with_reducible refine Frame.fst_mk ?_
      | with_reducible refine Frame.foldl_snd ?_ _ _ ?_
      | with_reducible refine Frame.foldl_fst ?_ _ _ ?_
      | with_reducible refine Frame.foldr_snd ?_ _ _ ?_
      | with_reducible refine Frame.Snd.mk ?_
      | with_reducible refine Frame.Fst.mk ?_
      | dsimp only
      | with_reducible refine Frame.time_upd b16 ?_
  exact key.out
theorem State.nextSeq_frame {W : Nat} {s0 s : State} {tp : Nat} {kind : Nat} {r0 : Nat} {t : State} (e : State.nextSeq s tp kind = (r0, t)) (hW : Within State.nextSeq_mask W) (h : Frame W s0 s) :
    Frame W s0 t := by
  have key := State.nextSeq_snd (tp := tp) (kind := kind) hW h
  rw [e] at key; exact key

def execDelayReq_mask : Nat := 0x6020000000000000800100000005000000000000000000000000000000000004000000000000023018000
theorem execDelayReq_frame {s nx : State} {tp : Fin 2} {m : Ptp} (e : execDelayReq tp m s = .next nx) : Frame execDelayReq_mask s nx := by
  refine State.run_frame rfl (fun W s0 s hW h => ?_) e
  have w0 := Within.trans (a := State.ptpIn_mask) rfl hW
  have w1 := Within.trans (a := State.forward_mask) rfl hW
  have w2 := Within.trans (a := State.timeOut_mask) rfl hW
  repeat' first
    | intro _
    | with_reducible assumption
    | (extract_lets +onlyGivenNames x; refine Frame.cut (W := W) (s0 := s0) x ?_ ?_; unfold x; clear x; rotate_left; clear_value x; revert x; intro _ _)
    | (extract_lets +onlyGivenNames x; clear_value x; revert x; intro _)
    | with_reducible refine State.ptpIn_frame w0 ?_ ?_
    | with_reducible refine State.forward_frame w1 ?_
    | with_reducible refine State.timeOut_frame w2 ?_
    | with_reducible refine Frame.ite ?_ ?_
    | with_reducible refine Frame.foldl ?_ _ _ ?_
    | split
    | with_reducible refine Frame.of_snd (by with_reducible assumption) ?_
    | with_reducible refine Frame.of_fst (by with_reducible assumption) ?_
    | with_reducible refine Frame.snd_mk ?_
    | with_reducible refine Frame.fst_mk ?_

def execDelayResp_mask : Nat := 0x6020000000000000800100000005000000000000000000000000000000000004000000000000023018000
theorem execDelayResp_frame {s nx : State} {tp : Fin 2} {m : Ptp} (e : execDelayResp tp m s = .next nx) : Frame execDelayResp_mask s nx := by
  refine State.run_frame rfl (fun W s0 s hW h => ?_) e
  have w0 := Within.trans (a := State.ptpIn_mask) rfl hW
  have w1 := Within.trans (a := State.forward_mask) rfl hW
  have w2 := Within.trans (a := State.ptpViolation_mask) rfl hW
  have b16 := hW.bit (n := 16) (by decide)
  repeat' first
    | intro _
    | with_reducible assumption
    | (extract_lets +onlyGivenNames x; refine Frame.cut (W := W) (s0 := s0) x ?_ ?_; unfold x; clear x; rotate_left; clear_value x; revert x; intro _ _)
    | (extract_lets +onlyGivenNames x; clear_value x; revert x; intro _)
    | with_reducible refine State.ptpIn_frame w0 ?_ ?_
    | with_reducible refine State.forward_frame w1 ?_
    | with_reducible refine State.ptpViolation_frame w2 ?_
    | with_reducible refine Frame.ite ?_ ?_
    | with_reducible refine Frame.foldl ?_ _ _ ?_
    | split
    | with_reducible refine Frame.of_snd (by with_reducible assumption) ?_
    | with_reducible refine Frame.of_fst (by with_reducible assumption) ?_
    | with_reducible refine Frame.snd_mk ?_
    | with_reducible refine Frame.fst_mk ?_
    | with_reducible refine Frame.time_upd b16 ?_

def execDelayReqTransmit_mask : Nat := 0x800000000005000000000000000000000000000000000000000000000000000018000
theorem execDelayReqTransmit_frame {s nx : State} (e : execDelayReqTransmit s = .next nx) : Frame execDelayReqTransmit_mask s nx := by
  refine State.run_frame rfl (fun W s0 s hW h => ?_) e
  have b16 := hW.bit (n := 16) (by decide)
  have w1 := Within.trans (a := State.nextSeq_mask) rfl hW
  have w2 := Within.trans (a := State.timeOut_mask) rfl hW
  repeat' first
    | intro _
    | with_reducible assumption
    | (extract_lets +onlyGivenNames x; refine Frame.cut (W := W) (s0 := s0) x ?_ ?_; unfold x; clear x; rotate_left; clear_value x; revert x; intro _ _)
    | (extract_lets +onlyGivenNames x; clear_value x; revert x; intro _)
    | with_reducible refine State.nextSeq_snd w1 ?_
    | with_reducible refine State.timeOut_frame w2 ?_
    | with_reducible refine Frame.ite ?_ ?_
    | with_reducible refine Frame.foldl ?_ _ _ ?_
    | split
    | with_reducible refine State.nextSeq_frame (by with_reducible assumption) w1 ?_
    | with_reducible refine Frame.of_snd (by with_reducible assumption) ?_
    | with_reducible refine Frame.of_fst (by with_reducible assumption) ?_
    | with_reducible refine Frame.time_upd b16 ?_

def execPdelayReqTransmit_mask : Nat := 0x800000000005000000000000000000000000000000000000000000000000000018000
theorem execPdelayReqTransmit_frame {s nx : State} {tp : Fin 2} (e : execPdelayReqTransmit tp s = .next nx) : Frame execPdelayReqTransmit_mask s nx := by
  refine State.run_frame rfl (fun W s0 s hW h => ?_) e
  have b16 := hW.bit (n := 16) (by decide)
  have w1 := Within.trans (a := State.nextSeq_mask) rfl hW
  have w2 := Within.trans (a := State.timeOut_mask) rfl hW
  repeat' first
    | intro _
    | with_reducible assumption
    | (extract_lets +onlyGivenNames x; refine Frame.cut (W := W) (s0 := s0) x ?_ ?_; unfold x; clear x; rotate_left; clear_value x; revert x; intro _ _)
    | (extract_lets +onlyGivenNames x; clear_value x; revert x; intro _)
    | with_reducible refine State.nextSeq_snd w1 ?_
    | with_reducible refine State.timeOut_frame w2 ?_
    | with_reducible refine Frame.ite ?_ ?_
    | with_reducible refine Frame.foldl ?_ _ _ ?_
    | split
    | with_reducible refine State.nextSeq_frame (by with_reducible assumption) w1 ?_
    | with_reducible refine Frame.of_snd (by with_reducible assumption) ?_
    | with_reducible refine Frame.of_fst (by with_reducible assumption) ?_
    | with_reducible refine Frame.time_upd b16 ?_

def execPdelayReq_mask : Nat := 0x6020000000000000800100000005000000000000000000000000000000000004000000000000023018000
theorem execPdelayReq_frame {s nx : State} {tp : Fin 2} {m : Ptp} (e : execPdelayReq tp m s = .next nx) : Frame execPdelayReq_mask s nx := by
  refine State.run_frame rfl (fun W s0 s hW h => ?_) e
  have w0 := Within.trans (a := State.ptpIn_mask) rfl hW
  have w1 := Within.trans (a := State.draw_mask) rfl hW
  have w2 := Within.trans (a := State.timeOut_mask) rfl hW
  have w3 := Within.trans (a := State.forward_mask) rfl hW
  repeat' first
    | intro _
    | with_reducible assumption
    | (extract_lets +onlyGivenNames x; refine Frame.cut (W := W) (s0 := s0) x ?_ ?_; unfold x; clear x; rotate_left; clear_value x; revert x; intro _ _)
    | (extract_lets +onlyGivenNames x; clear_value x; revert x; intro _)
    | with_reducible refine State.ptpIn_frame w0 ?_ ?_
    | with_reducible refine State.draw_snd w1 ?_
    | with_reducible refine State.timeOut_frame w2 ?_
    | with_reducible refine State.forward_frame w3 ?_
    | with_reducible refine Frame.ite ?_ ?_
    | with_reducible refine Frame.foldl ?_ _ _ ?_
    | split
    | with_reducible refine State.draw_frame (by with_reducible assumption) w1 ?_
    | with_reducible refine Frame.of_snd (by with_reducible assumption) ?_
    | with_reducible refine Frame.of_fst (by with_reducible assumption) ?_

def execPdelayResp_mask : Nat := 0x6020000000000000800100000005000000000000000000000000000000000004000000000000023018000
theorem execPdelayResp_frame {s nx : State} {tp : Fin 2} {m : Ptp} (e : execPdelayResp tp m s = .next nx) : Frame execPdelayResp_mask s nx := by
  refine State.run_frame rfl (fun W s0 s hW h => ?_) e
  have b16 := hW.bit (n := 16) (by decide)
  have w1 := Within.trans (a := State.ptpIn_mask) rfl hW
  have w2 := Within.trans (a := State.forward_mask) rfl hW
  repeat' first
    | intro _
    | with_reducible assumption
    | (extract_lets +onlyGivenNames x; refine Frame.cut (W := W) (s0 := s0) x ?_ ?_; unfold x; clear x; rotate_left; clear_value x; revert x; intro _ _)
    | (extract_lets +onlyGivenNames x; clear_value x; revert x; intro _)
    | with_reducible refine State.ptpIn_frame w1 ?_ ?_
    | with_reducible refine State.forward_frame w2 ?_
    | with_reducible refine Frame.ite ?_ ?_
    | with_reducible refine Frame.foldl ?_ _ _ ?_
    | split
    | with_reducible refine Frame.of_snd (by with_reducible assumption) ?_
    | with_reducible refine Frame.of_fst (by with_reducible assumption) ?_
    | with_reducible refine Frame.time_upd b16 ?_

def execPdelayRespFollowUp_mask : Nat := 0x6020000000000000800100000005000000000000000000000000000000000004000000000000023018000
theorem execPdelayRespFollowUp_frame {s nx : State} {tp : Fin 2} {m : Ptp} (e : execPdelayRespFollowUp tp m s = .next nx) : Frame execPdelayRespFollowUp_mask s nx := by
  refine State.run_frame rfl (fun W s0 s hW h => ?_) e
  have b16 := hW.bit (n := 16) (by decide)
  have w1 := Within.trans (a := State.ptpIn_mask) rfl hW
  have w2 := Within.trans (a := State.forward_mask) rfl hW
  repeat' first
    | intro _
    | with_reducible assumption
    | (extract_lets +onlyGivenNames x; refine Frame.cut (W := W) (s0 := s0) x ?_ ?_; unfold x; clear x; rotate_left; clear_value x; revert x; intro _ _)
    | (extract_lets +onlyGivenNames x; clear_value x; revert x; intro _)
    | with_reducible refine State.ptpIn_frame w1 ?_ ?_
    | with_reducible refine State.forward_frame w2 ?_
    | with_reducible refine Frame.ite ?_ ?_
    | with_reducible refine Frame.foldl ?_ _ _ ?_
    | split
    | with_reducible refine Frame.of_snd (by with_reducible assumption) ?_
    | with_reducible refine Frame.of_fst (by with_reducible assumption) ?_
    | with_reducible refine Frame.time_upd b16 ?_

def execSyncTransmit_mask : Nat := 0x800000000005000000000000000000000000000000000000000000000000000018000
theorem execSyncTransmit_frame {s nx : State} {tp : Fin 2} (e : execSyncTransmit tp s = .next nx) : Frame execSyncTransmit_mask s nx := by
  refine State.run_frame rfl (fun W s0 s hW h => ?_) e
  have w0 := Within.trans (a := State.nextSeq_mask) rfl hW
  have w1 := Within.trans (a := State.timeOut_mask) rfl hW
  repeat' first
    | intro _
    | with_reducible assumption
    | (extract_lets +onlyGivenNames x; refine Frame.cut (W := W) (s0 := s0) x ?_ ?_; unfold x; clear x; rotate_left; clear_value x; revert x; intro _ _)
    | (extract_lets +onlyGivenNames x; clear_value x; revert x; intro _)
    | with_reducible refine State.timeOut_frame w1 ?_
    | with_reducible refine State.nextSeq_snd w0 ?_
    | with_reducible refine Frame.ite ?_ ?_
    | with_reducible refine Frame.foldl ?_ _ _ ?_
    | split
    | with_reducible refine State.nextSeq_frame (by with_reducible assumption) w0 ?_
    | with_reducible refine Frame.of_snd (by with_reducible assumption) ?_
    | with_reducible refine Frame.of_fst (by with_reducible assumption) ?_
    | with_reducible refine Frame.snd_mk ?_
    | with_reducible refine Frame.fst_mk ?_

def execAnnounceTransmit_mask : Nat := 0x800000000005000000000000000000000000000000000000000000000000000018000
theorem execAnnounceTransmit_frame {s nx : State} {tp : Fin 2} (e : execAnnounceTransmit tp s = .next nx) : Frame execAnnounceTransmit_mask s nx := by
  refine State.run_frame rfl (fun W s0 s hW h => ?_) e
  have w0 := Within.trans (a := State.nextSeq_mask) rfl hW
  have w1 := Within.trans (a := State.timeOut_mask) rfl hW
  repeat' first
    | intro _
    | with_reducible assumption
    | (extract_lets +onlyGivenNames x; refine Frame.cut (W := W) (s0 := s0) x ?_ ?_; unfold x; clear x; rotate_left; clear_value x; revert x; intro _ _)
    | (extract_lets +onlyGivenNames x; clear_value x; revert x; intro _)
    | with_reducible refine State.timeOut_frame w1 ?_
    | with_reducible refine State.nextSeq_snd w0 ?_
    | with_reducible refine Frame.ite ?_ ?_
    | with_reducible refine Frame.foldl ?_ _ _ ?_
    | split
    | with_reducible refine State.nextSeq_frame (by with_reducible assumption) w0 ?_
    | with_reducible refine Frame.of_snd (by with_reducible assumption) ?_
    | with_reducible refine Frame.of_fst (by with_reducible assumption) ?_
    | with_reducible refine Frame.snd_mk ?_
    | with_reducible refine Frame.fst_mk ?_

def execNonPtpFrame_mask : Nat := 0x800000000005000000000000000000000000000000000000000000000000000018000
theorem execNonPtpFrame_frame {s nx : State} {tp : Fin 2} (e : execNonPtpFrame tp s = .next nx) : Frame execNonPtpFrame_mask s nx := by
  refine State.run_frame rfl (fun W s0 s hW h => ?_) e
  have b16 := hW.bit (n := 16) (by decide)
  repeat' first
    | intro _
    | with_reducible assumption
    | (extract_lets +onlyGivenNames x; refine Frame.cut (W := W) (s0 := s0) x ?_ ?_; unfold x; clear x; rotate_left; clear_value x; revert x; intro _ _)
    | (extract_lets +onlyGivenNames x; clear_value x; revert x; intro _)
    | with_reducible refine Frame.ite ?_ ?_
    | with_reducible refine Frame.foldl ?_ _ _ ?_
    | split
    | with_reducible refine Frame.of_snd (by with_reducible assumption) ?_
    | with_reducible refine Frame.of_fst (by with_reducible assumption) ?_
    | with_reducible refine Frame.snd_mk ?_
    | with_reducible refine Frame.fst_mk ?_
    | with_reducible refine Frame.time_upd b16 ?_

def State.timeStatus_mask : Nat := 0x400000000000000000000000000000000000000000000000000000000000000
theorem State.timeStatus_frame {W : Nat} {s0 s : State} {i : Port} {code : Nat} {reason : Nat} (hW : Within State.timeStatus_mask W) (h : Frame W s0 s) :
    Frame W s0 (State.timeStatus s i code reason) := by
  have b250 := hW.bit (n := 250) (by decide)
  unfold State.timeStatus
  repeat' first
    | intro _
    | with_reducible assumption
    | (extract_lets +onlyGivenNames x; refine Frame.cut (W := W) (s0 := s0) x ?_ ?_; unfold x; clear x; rotate_left; clear_value x; revert x; intro _ _)
    | (extract_lets +onlyGivenNames x; clear_value x; revert x; intro _)
    | with_reducible refine State.set_frame (F.TIME_CMD_STATUS_reason_kind _) b250 ?_
    | with_reducible refine State.set_frame (F.TIME_CMD_STATUS_code_kind _) b250 ?_
    | with_reducible refine Frame.ite ?_ ?_
    | with_reducible refine Frame.foldl ?_ _ _ ?_
    | split
    | with_reducible refine Frame.of_snd (by with_reducible assumption) ?_
    | with_reducible refine Frame.of_fst (by with_reducible assumption) ?_
    | with_reducible refine Frame.snd_mk ?_
    | with_reducible refine Frame.fst_mk ?_

def State.timeRefuse_mask : Nat := 0x6020000000000000000000400000000000000000000000000000000000000000000000000000022000000
theorem State.timeRefuse_frame {W : Nat} {s0 s : State} {i : Port} {cmd : Nat} {reason : Nat} (hW : Within State.timeRefuse_mask W) (h : Frame W s0 s) :
    Frame W s0 (State.timeRefuse s i cmd reason) := by
  have w0 := Within.trans (a := State.timeStatus_mask) rfl hW
  have w1 := Within.trans (a := State.raise_mask) rfl hW
  unfold State.timeRefuse
  repeat' first
    | intro _
    | with_reducible assumption
    | (extract_lets +onlyGivenNames x; refine Frame.cut (W := W) (s0 := s0) x ?_ ?_; unfold x; clear x; rotate_left; clear_value x; revert x; intro _ _)
    | (extract_lets +onlyGivenNames x; clear_value x; revert x; intro _)
    | with_reducible refine State.timeStatus_frame w0 ?_
    | with_reducible refine State.raise_frame w1 ?_
    | with_reducible refine Frame.ite ?_ ?_
    | with_reducible refine Frame.foldl ?_ _ _ ?_
    | split
    | with_reducible refine Frame.of_snd (by with_reducible assumption) ?_
    | with_reducible refine Frame.of_fst (by with_reducible assumption) ?_
    | with_reducible refine Frame.snd_mk ?_
    | with_reducible refine Frame.fst_mk ?_

def execStep_mask : Nat := 0x6020000000000000800000402005000000000000000000000000000000000000000000000000022018000
theorem execStep_frame {s nx : State} {i : Port} (e : execStep i s = .next nx) : Frame execStep_mask s nx := by
  refine State.run_frame rfl (fun W s0 s hW h => ?_) e
  have b16 := hW.bit (n := 16) (by decide)
  have b241 := hW.bit (n := 241) (by decide)
  have w2 := Within.trans (a := State.timeRefuse_mask) rfl hW
  have w3 := Within.trans (a := State.timeStatus_mask) rfl hW
  repeat' first
    | intro _
    | with_reducible assumption
    | (extract_lets +onlyGivenNames x; refine Frame.cut (W := W) (s0 := s0) x ?_ ?_; unfold x; clear x; rotate_left; clear_value x; revert x; intro _ _)
    | (extract_lets +onlyGivenNames x; clear_value x; revert x; intro _)
    | with_reducible refine State.set_frame (F.TIME_STATUS_step_pending_kind) b241 ?_
    | with_reducible refine State.timeRefuse_frame w2 ?_
    | with_reducible refine State.timeStatus_frame w3 ?_
    | with_reducible refine Frame.ite ?_ ?_
    | with_reducible refine Frame.foldl ?_ _ _ ?_
    | split
    | with_reducible refine Frame.of_snd (by with_reducible assumption) ?_
    | with_reducible refine Frame.of_fst (by with_reducible assumption) ?_
    | with_reducible refine Frame.time_upd b16 ?_

def execSlew_mask : Nat := 0x6020000000000000800000440005000000000000000000000000000000000000000000000000022018000
theorem execSlew_frame {s nx : State} {i : Port} (e : execSlew i s = .next nx) : Frame execSlew_mask s nx := by
  refine State.run_frame rfl (fun W s0 s hW h => ?_) e
  have b16 := hW.bit (n := 16) (by decide)
  have w1 := Within.trans (a := State.timeRefuse_mask) rfl hW
  have w2 := Within.trans (a := State.timeStatus_mask) rfl hW
  have w3 := Within.trans (a := State.setRate_mask) rfl hW
  repeat' first
    | intro _
    | with_reducible assumption
    | (extract_lets +onlyGivenNames x; refine Frame.cut (W := W) (s0 := s0) x ?_ ?_; unfold x; clear x; rotate_left; clear_value x; revert x; intro _ _)
    | (extract_lets +onlyGivenNames x; clear_value x; revert x; intro _)
    | with_reducible refine State.timeRefuse_frame w1 ?_
    | with_reducible refine State.timeStatus_frame w2 ?_
    | with_reducible refine State.setRate_frame w3 ?_
    | with_reducible refine Frame.ite ?_ ?_
    | with_reducible refine Frame.foldl ?_ _ _ ?_
    | split
    | with_reducible refine Frame.of_snd (by with_reducible assumption) ?_
    | with_reducible refine Frame.of_fst (by with_reducible assumption) ?_
    | with_reducible refine Frame.time_upd b16 ?_

def execStartAt_mask : Nat := 0x6020000000000000800080400005000000000000000000000000000000000000000000000000022018000
theorem execStartAt_frame {s nx : State} {i : Port} {p : Part} (e : execStartAt i p s = .next nx) : Frame execStartAt_mask s nx := by
  refine State.run_frame rfl (fun W s0 s hW h => ?_) e
  have b16 := hW.bit (n := 16) (by decide)
  have b259 := hW.bit (n := 259) (by decide)
  have w2 := Within.trans (a := State.timeRefuse_mask) rfl hW
  have w3 := Within.trans (a := State.timeStatus_mask) rfl hW
  repeat' first
    | intro _
    | with_reducible assumption
    | (extract_lets +onlyGivenNames x; refine Frame.cut (W := W) (s0 := s0) x ?_ ?_; unfold x; clear x; rotate_left; clear_value x; revert x; intro _ _)
    | (extract_lets +onlyGivenNames x; clear_value x; revert x; intro _)
    | with_reducible refine State.setBit_frame (F.TIME_START_PENDING_mask_kind) b259 ?_
    | with_reducible refine State.timeRefuse_frame w2 ?_
    | with_reducible refine State.timeStatus_frame w3 ?_
    | with_reducible refine Frame.ite ?_ ?_
    | with_reducible refine Frame.foldl ?_ _ _ ?_
    | split
    | with_reducible refine Frame.of_snd (by with_reducible assumption) ?_
    | with_reducible refine Frame.of_fst (by with_reducible assumption) ?_
    | with_reducible refine Frame.time_upd b16 ?_

def execStartCancel_mask : Nat := 0x6020000000000000800080400005000000000000000000000000000000000000000000000000022018000
theorem execStartCancel_frame {s nx : State} {i : Port} {p : Part} (e : execStartCancel i p s = .next nx) : Frame execStartCancel_mask s nx := by
  refine State.run_frame rfl (fun W s0 s hW h => ?_) e
  have b16 := hW.bit (n := 16) (by decide)
  have b259 := hW.bit (n := 259) (by decide)
  have w2 := Within.trans (a := State.timeRefuse_mask) rfl hW
  have w3 := Within.trans (a := State.timeStatus_mask) rfl hW
  repeat' first
    | intro _
    | with_reducible assumption
    | (extract_lets +onlyGivenNames x; refine Frame.cut (W := W) (s0 := s0) x ?_ ?_; unfold x; clear x; rotate_left; clear_value x; revert x; intro _ _)
    | (extract_lets +onlyGivenNames x; clear_value x; revert x; intro _)
    | with_reducible refine State.setBit_frame (F.TIME_START_PENDING_mask_kind) b259 ?_
    | with_reducible refine State.timeRefuse_frame w2 ?_
    | with_reducible refine State.timeStatus_frame w3 ?_
    | with_reducible refine Frame.ite ?_ ?_
    | with_reducible refine Frame.foldl ?_ _ _ ?_
    | split
    | with_reducible refine Frame.of_snd (by with_reducible assumption) ?_
    | with_reducible refine Frame.of_fst (by with_reducible assumption) ?_
    | with_reducible refine Frame.time_upd b16 ?_

def State.landStarts_mask : Nat := 0x6020000000000000000080000000000000000000000000000000000000000000000000000000022010000
theorem State.landStarts_frame {W : Nat} {s0 s : State} (hW : Within State.landStarts_mask W) (h : Frame W s0 s) :
    Frame W s0 (State.landStarts s) := by
  have b16 := hW.bit (n := 16) (by decide)
  have b259 := hW.bit (n := 259) (by decide)
  have w2 := Within.trans (a := State.raise_mask) rfl hW
  unfold State.landStarts
  repeat' first
    | intro _
    | with_reducible assumption
    | (extract_lets +onlyGivenNames x; refine Frame.cut (W := W) (s0 := s0) x ?_ ?_; unfold x; clear x; rotate_left; clear_value x; revert x; intro _ _)
    | (extract_lets +onlyGivenNames x; clear_value x; revert x; intro _)
    | with_reducible refine State.setBit_frame (F.TIME_START_PENDING_mask_kind) b259 ?_
    | with_reducible refine State.each_frame ?_ ?_
    | with_reducible refine State.raise_frame w2 ?_
    | with_reducible refine Frame.ite ?_ ?_
    | with_reducible refine Frame.foldl ?_ _ _ ?_
    | split
    | with_reducible refine Frame.of_snd (by with_reducible assumption) ?_
    | with_reducible refine Frame.of_fst (by with_reducible assumption) ?_
    | with_reducible refine Frame.snd_mk ?_
    | with_reducible refine Frame.fst_mk ?_
    | with_reducible refine Frame.time_upd b16 ?_

def State.landStep_mask : Nat := 0x6020000000000000000000042000000000000000000000000000000000000000000000000000022814000
theorem State.landStep_frame {W : Nat} {s0 s : State} {n : Nat} (hW : Within State.landStep_mask W) (h : Frame W s0 s) :
    Frame W s0 (State.landStep s n) := by
  have b241 := hW.bit (n := 241) (by decide)
  have w0 := Within.trans (a := State.setClock_mask) rfl hW
  have w1 := Within.trans (a := State.setServo_mask) rfl hW
  have w2 := Within.trans (a := State.setRate_mask) rfl hW
  have w3 := Within.trans (a := State.raise_mask) rfl hW
  have w4 := Within.trans (a := State.rebaseDivider_mask) rfl hW
  have b16 := hW.bit (n := 16) (by decide)
  unfold State.landStep
  repeat' first
    | intro _
    | with_reducible assumption
    | (extract_lets +onlyGivenNames x; refine Frame.cut (W := W) (s0 := s0) x ?_ ?_; unfold x; clear x; rotate_left; clear_value x; revert x; intro _ _)
    | (extract_lets +onlyGivenNames x; clear_value x; revert x; intro _)
    | with_reducible refine State.set_frame (F.TIME_STATUS_step_pending_kind) b241 ?_
    | with_reducible refine State.set_frame (F.TIME_STATUS_valid_kind) b241 ?_
    | with_reducible refine State.setClock_frame w0 ?_
    | with_reducible refine State.setServo_frame w1 ?_
    | with_reducible refine State.setRate_frame w2 ?_
    | with_reducible refine State.raise_frame w3 ?_
    | with_reducible refine State.rebaseDivider_frame w4 ?_
    | with_reducible refine State.each_frame ?_ ?_
    | with_reducible refine Frame.ite ?_ ?_
    | with_reducible refine Frame.foldl ?_ _ _ ?_
    | split
    | with_reducible refine Frame.of_snd (by with_reducible assumption) ?_
    | with_reducible refine Frame.of_fst (by with_reducible assumption) ?_
    | with_reducible refine Frame.snd_mk ?_
    | with_reducible refine Frame.fst_mk ?_
    | with_reducible refine Frame.time_upd b16 ?_

def State.landRealign_mask : Nat := 0x6020000000000000000000000000000000000000000000000000000000000000000000000000022010000
theorem State.landRealign_frame {W : Nat} {s0 s : State} {n : Nat} (hW : Within State.landRealign_mask W) (h : Frame W s0 s) :
    Frame W s0 (State.landRealign s n) := by
  have b16 := hW.bit (n := 16) (by decide)
  have w1 := Within.trans (a := State.raise_mask) rfl hW
  unfold State.landRealign
  repeat' first
    | intro _
    | with_reducible assumption
    | (extract_lets +onlyGivenNames x; refine Frame.cut (W := W) (s0 := s0) x ?_ ?_; unfold x; clear x; rotate_left; clear_value x; revert x; intro _ _)
    | (extract_lets +onlyGivenNames x; clear_value x; revert x; intro _)
    | with_reducible refine State.raise_frame w1 ?_
    | with_reducible refine Frame.ite ?_ ?_
    | with_reducible refine Frame.foldl ?_ _ _ ?_
    | split
    | with_reducible refine Frame.of_snd (by with_reducible assumption) ?_
    | with_reducible refine Frame.of_fst (by with_reducible assumption) ?_
    | with_reducible refine Frame.snd_mk ?_
    | with_reducible refine Frame.fst_mk ?_
    | with_reducible refine Frame.time_upd b16 ?_

def State.setLaunches_mask : Nat := 0x200000000000000000000000000000000000000000000000000000000000010000
theorem State.setLaunches_frame {W : Nat} {s0 s : State} {q : Nat} {l : List Launch} (hW : Within State.setLaunches_mask W) (h : Frame W s0 s) :
    Frame W s0 (State.setLaunches s q l) := by
  have b16 := hW.bit (n := 16) (by decide)
  have b261 := hW.bit (n := 261) (by decide)
  unfold State.setLaunches
  repeat' first
    | intro _
    | with_reducible assumption
    | (extract_lets +onlyGivenNames x; refine Frame.cut (W := W) (s0 := s0) x ?_ ?_; unfold x; clear x; rotate_left; clear_value x; revert x; intro _ _)
    | (extract_lets +onlyGivenNames x; clear_value x; revert x; intro _)
    | with_reducible refine State.set_frame (F.TIME_LQ_depth_kind _) b261 ?_
    | with_reducible refine Frame.ite ?_ ?_
    | with_reducible refine Frame.foldl ?_ _ _ ?_
    | split
    | with_reducible refine Frame.of_snd (by with_reducible assumption) ?_
    | with_reducible refine Frame.of_fst (by with_reducible assumption) ?_
    | with_reducible refine Frame.snd_mk ?_
    | with_reducible refine Frame.fst_mk ?_
    | with_reducible refine Frame.time_upd b16 ?_

def State.showQueues_mask : Nat := 0x200000000000000000000000000000000000000000000000000000000000000000
theorem State.showQueues_frame {W : Nat} {s0 s : State} (hW : Within State.showQueues_mask W) (h : Frame W s0 s) :
    Frame W s0 (State.showQueues s) := by
  have b261 := hW.bit (n := 261) (by decide)
  unfold State.showQueues
  repeat' first
    | intro _
    | with_reducible assumption
    | (extract_lets +onlyGivenNames x; refine Frame.cut (W := W) (s0 := s0) x ?_ ?_; unfold x; clear x; rotate_left; clear_value x; revert x; intro _ _)
    | (extract_lets +onlyGivenNames x; clear_value x; revert x; intro _)
    | with_reducible refine State.set_frame (F.TIME_LQ_partition_kind _) b261 ?_
    | with_reducible refine State.setB_frame (F.TIME_LQ_claimed_kind _) b261 ?_
    | with_reducible refine State.set_frame (F.TIME_LQ_window_us_kind _) b261 ?_
    | with_reducible refine State.setB_frame (F.TIME_LQ_send_late_kind _) b261 ?_
    | with_reducible refine State.each_frame ?_ ?_
    | with_reducible refine Frame.ite ?_ ?_
    | with_reducible refine Frame.foldl ?_ _ _ ?_
    | split
    | with_reducible refine Frame.of_snd (by with_reducible assumption) ?_
    | with_reducible refine Frame.of_fst (by with_reducible assumption) ?_
    | with_reducible refine Frame.snd_mk ?_
    | with_reducible refine Frame.fst_mk ?_

def execLaunchRecord_mask : Nat := 0x6020000000000000800a00000005000000000000000000000000000000000000000000000000022018000
theorem execLaunchRecord_frame {s nx : State} {tp : Fin 2} {p : Part} {r : List Byte} (e : execLaunchRecord tp p r s = .next nx) : Frame execLaunchRecord_mask s nx := by
  refine State.run_frame rfl (fun W s0 s hW h => ?_) e
  have b263 := hW.bit (n := 263) (by decide)
  have w1 := Within.trans (a := State.raise_mask) rfl hW
  have w2 := Within.trans (a := State.setLaunches_mask) rfl hW
  repeat' first
    | intro _
    | with_reducible assumption
    | (extract_lets +onlyGivenNames x; refine Frame.cut (W := W) (s0 := s0) x ?_ ?_; unfold x; clear x; rotate_left; clear_value x; revert x; intro _ _)
    | (extract_lets +onlyGivenNames x; refine Frame.cutF (W := W) (s0 := s0) x ?_ ?_; unfold x; clear x; rotate_left; clear_value x; revert x; intro _ _)
    | (extract_lets +onlyGivenNames x; refine Frame.cutG (W := W) (s0 := s0) x ?_ ?_; unfold x; clear x; rotate_left; clear_value x; revert x; intro _ _)
    | (extract_lets +onlyGivenNames x; refine Frame.cutN (W := W) (s0 := s0) x ?_ ?_; unfold x; clear x; rotate_left; clear_value x; revert x; intro _ _)
    | (extract_lets +onlyGivenNames x; refine Frame.cutH (W := W) (s0 := s0) x ?_ ?_; unfold x; clear x; rotate_left; clear_value x; revert x; intro _ _)
    | (extract_lets +onlyGivenNames x; refine Frame.cutI (W := W) (s0 := s0) x ?_ ?_; unfold x; clear x; rotate_left; clear_value x; revert x; intro _ _)
    | (extract_lets +onlyGivenNames x; clear_value x; revert x; intro _)
    | with_reducible refine State.inc_frame (F.TIME_LQ_LATE_refused_kind _) b263 ?_
    | with_reducible refine State.raise_frame w1 ?_
    | with_reducible refine State.setLaunches_frame w2 ?_
    | with_reducible refine Frame.ite ?_ ?_
    | with_reducible refine Frame.foldl ?_ _ _ ?_
    | split
    | with_reducible refine Frame.of_snd (by with_reducible assumption) ?_
    | with_reducible refine Frame.of_fst (by with_reducible assumption) ?_
    | solve_by_elim

def State.launchHead_mask : Nat := 0x6020000000000000000e00000000000000000000000000000000000000000000000000000000022010000
theorem State.launchHead_frame {W : Nat} {s0 s : State} {q : Nat} (hW : Within State.launchHead_mask W) (h : Frame W s0 s) :
    Frame W s0 (State.launchHead s q) := by
  have b262 := hW.bit (n := 262) (by decide)
  have b263 := hW.bit (n := 263) (by decide)
  have w0 := Within.trans (a := State.setLaunches_mask) rfl hW
  have w1 := Within.trans (a := State.timeOut_mask) rfl hW
  have w2 := Within.trans (a := State.raise_mask) rfl hW
  unfold State.launchHead
  repeat' first
    | intro _
    | with_reducible assumption
    | (extract_lets +onlyGivenNames x; refine Frame.cut (W := W) (s0 := s0) x ?_ ?_; unfold x; clear x; rotate_left; clear_value x; revert x; intro _ _)
    | (extract_lets +onlyGivenNames x; refine Frame.cutF (W := W) (s0 := s0) x ?_ ?_; unfold x; clear x; rotate_left; clear_value x; revert x; intro _ _)
    | (extract_lets +onlyGivenNames x; refine Frame.cutG (W := W) (s0 := s0) x ?_ ?_; unfold x; clear x; rotate_left; clear_value x; revert x; intro _ _)
    | (extract_lets +onlyGivenNames x; refine Frame.cutN (W := W) (s0 := s0) x ?_ ?_; unfold x; clear x; rotate_left; clear_value x; revert x; intro _ _)
    | (extract_lets +onlyGivenNames x; refine Frame.cutH (W := W) (s0 := s0) x ?_ ?_; unfold x; clear x; rotate_left; clear_value x; revert x; intro _ _)
    | (extract_lets +onlyGivenNames x; refine Frame.cutI (W := W) (s0 := s0) x ?_ ?_; unfold x; clear x; rotate_left; clear_value x; revert x; intro _ _)
    | (extract_lets +onlyGivenNames x; clear_value x; revert x; intro _)
    | with_reducible refine State.inc_frame (F.TIME_LQ_SENT_count_kind _) b262 ?_
    | with_reducible refine State.inc_frame (F.TIME_LQ_LATE_late_kind _) b263 ?_
    | with_reducible refine State.setLaunches_frame w0 ?_
    | with_reducible refine State.timeOut_frame w1 ?_
    | with_reducible refine State.raise_frame w2 ?_
    | with_reducible refine Frame.ite ?_ ?_
    | with_reducible refine Frame.foldl ?_ _ _ ?_
    | split
    | with_reducible refine Frame.of_snd (by with_reducible assumption) ?_
    | with_reducible refine Frame.of_fst (by with_reducible assumption) ?_
    | with_reducible refine Frame.snd_mk ?_
    | with_reducible refine Frame.fst_mk ?_
    | solve_by_elim

def execFrameLaunch_mask : Nat := 0x6020000000000000800e00000005000000000000000000000000000000000000000000000000022018000
theorem execFrameLaunch_frame {s nx : State} {tp : Fin 2} (e : execFrameLaunch tp s = .next nx) : Frame execFrameLaunch_mask s nx := by
  refine State.run_frame rfl (fun W s0 s hW h => ?_) e
  have w0 := Within.trans (a := State.launchHead_mask) rfl hW
  repeat' first
    | intro _
    | with_reducible assumption
    | (extract_lets +onlyGivenNames x; refine Frame.cut (W := W) (s0 := s0) x ?_ ?_; unfold x; clear x; rotate_left; clear_value x; revert x; intro _ _)
    | (extract_lets +onlyGivenNames x; clear_value x; revert x; intro _)
    | with_reducible refine State.launchHead_frame w0 ?_
    | with_reducible refine Frame.ite ?_ ?_
    | with_reducible refine Frame.foldl ?_ _ _ ?_
    | split
    | with_reducible refine Frame.of_snd (by with_reducible assumption) ?_
    | with_reducible refine Frame.of_fst (by with_reducible assumption) ?_

def State.lateLaunches_mask : Nat := 0x6020000000000000000e00000000000000000000000000000000000000000000000000000000022010000
theorem State.lateLaunches_frame {W : Nat} {s0 s : State} {q : Nat} {fuel : Nat} (hW : Within State.lateLaunches_mask W) (h : Frame W s0 s) :
    Frame W s0 (State.lateLaunches s q fuel) := by
  have w0 := Within.trans (a := State.launchHead_mask) rfl hW
  induction fuel generalizing s with
  | zero =>
    unfold State.lateLaunches
    repeat' first
      | intro _
      | with_reducible assumption
      | (extract_lets +onlyGivenNames x; refine Frame.cut (W := W) (s0 := s0) x ?_ ?_; unfold x; clear x; rotate_left; clear_value x; revert x; intro _ _)
      | (extract_lets +onlyGivenNames x; clear_value x; revert x; intro _)
      | with_reducible refine State.launchHead_frame w0 ?_
      | with_reducible refine Frame.ite ?_ ?_
      | with_reducible refine Frame.foldl ?_ _ _ ?_
      | split
      | with_reducible refine Frame.of_snd (by with_reducible assumption) ?_
      | with_reducible refine Frame.of_fst (by with_reducible assumption) ?_
      | with_reducible refine Frame.snd_mk ?_
      | with_reducible refine Frame.fst_mk ?_
  | succ fuel ih =>
    unfold State.lateLaunches
    repeat' first
      | intro _
      | with_reducible assumption
      | with_reducible refine ih ?_
      | (extract_lets +onlyGivenNames x; refine Frame.cut (W := W) (s0 := s0) x ?_ ?_; unfold x; clear x; rotate_left; clear_value x; revert x; intro _ _)
      | (extract_lets +onlyGivenNames x; clear_value x; revert x; intro _)
      | with_reducible refine State.launchHead_frame w0 ?_
      | with_reducible refine Frame.ite ?_ ?_
      | with_reducible refine Frame.foldl ?_ _ _ ?_
      | split
      | with_reducible refine Frame.of_snd (by with_reducible assumption) ?_
      | with_reducible refine Frame.of_fst (by with_reducible assumption) ?_
      | with_reducible refine Frame.snd_mk ?_
      | with_reducible refine Frame.fst_mk ?_

end Sys2Proof.Machine
end

