-- ==== Sys2Proof/Laws/Configure.lean ====
section
/-! SUPPORT. What the operations of Machine/Configure.lean change: each differs from its argument in the areas of its mask alone. -/

set_option linter.all false

namespace Sys2Proof.Machine

def State.setAll_mask : Nat := 0x0
theorem State.setAll_nil {W : Nat} {s0 s : State} (h : Frame W s0 s) : Frame W s0 (s.setAll []) := h

theorem State.setAll_cons {W : Nat} {s0 s : State} {f : Field} {v : Nat} {l : List (Field × Nat)}
    (h : Frame W s0 ((s.set f v).setAll l)) : Frame W s0 (s.setAll ((f, v) :: l)) := h

def State.showCaps_mask : Nat := 0x100000000000000000000000000000000000000000000000000000000000000000ffc0000000
theorem State.showCaps_frame {W : Nat} {s0 s : State} (hW : Within State.showCaps_mask W) (h : Frame W s0 s) :
    Frame W s0 (State.showCaps s) := by
  have b30 := hW.bit (n := 30) (by decide)
  have b31 := hW.bit (n := 31) (by decide)
  have b32 := hW.bit (n := 32) (by decide)
  have b33 := hW.bit (n := 33) (by decide)
  have b34 := hW.bit (n := 34) (by decide)
  have b35 := hW.bit (n := 35) (by decide)
  have b36 := hW.bit (n := 36) (by decide)
  have b37 := hW.bit (n := 37) (by decide)
  have b38 := hW.bit (n := 38) (by decide)
  have b39 := hW.bit (n := 39) (by decide)
  have b300 := hW.bit (n := 300) (by decide)
  unfold State.showCaps
  repeat' first
    | intro _
    | with_reducible assumption
    | (extract_lets +onlyGivenNames x; refine Frame.cut (W := W) (s0 := s0) x ?_ ?_; unfold x; clear x; rotate_left; clear_value x; revert x; intro _ _)
    | (extract_lets +onlyGivenNames x; clear_value x; revert x; intro _)
    | with_reducible refine State.set_frame (F.CAP_ID_package_kind) b30 ?_
    | with_reducible refine State.set_frame (F.CAP_ID_variant_kind) b30 ?_
    | with_reducible refine State.set_frame (F.CAP_ID_stepping_kind) b30 ?_
    | with_reducible refine State.set_frame (F.CAP_VERSION_format_kind) b31 ?_
    | with_reducible refine State.set_frame (F.CAP_VERSION_func_table_kind) b31 ?_
    | with_reducible refine State.set_frame (F.CAP_PRESENT_compute_die1_kind) b32 ?_
    | with_reducible refine State.set_frame (F.CAP_PRESENT_position_kind) b32 ?_
    | with_reducible refine State.set_frame (F.CAP_PRESENT_pulse_kind) b32 ?_
    | with_reducible refine State.set_frame (F.CAP_PRESENT_milepost_kind) b32 ?_
    | with_reducible refine State.set_frame (F.CAP_PRESENT_field_io_kind) b32 ?_
    | with_reducible refine State.set_frame (F.CAP_PRESENT_safety_io_kind) b32 ?_
    | with_reducible refine State.set_frame (F.CAP_PRESENT_safety_functions_kind) b32 ?_
    | with_reducible refine State.set_frame (F.CAP_PRESENT_clusters_kind) b32 ?_
    | with_reducible refine State.set_frame (F.CAP_COUNTS0_physical_cores_kind) b33 ?_
    | with_reducible refine State.set_frame (F.CAP_COUNTS0_logical_cores_kind) b33 ?_
    | with_reducible refine State.set_frame (F.CAP_COUNTS0_clusters_kind) b33 ?_
    | with_reducible refine State.set_frame (F.CAP_COUNTS0_compute_dies_kind) b33 ?_
    | with_reducible refine State.set_frame (F.CAP_COUNTS0_contexts_kind) b33 ?_
    | with_reducible refine State.set_frame (F.CAP_COUNTS0_lanes_kind) b33 ?_
    | with_reducible refine State.set_frame (F.CAP_COUNTS1_channels_kind) b34 ?_
    | with_reducible refine State.set_frame (F.CAP_COUNTS1_partitions_kind) b34 ?_
    | with_reducible refine State.set_frame (F.CAP_COUNTS1_jobs_kind) b34 ?_
    | with_reducible refine State.set_frame (F.CAP_COUNTS1_ports_kind) b34 ?_
    | with_reducible refine State.set_frame (F.CAP_COUNTS1_split_kind) b34 ?_
    | with_reducible refine State.set_frame (F.CAP_COUNTS1_position_channels_kind) b34 ?_
    | with_reducible refine State.set_frame (F.CAP_COUNTS1_time_ports_kind) b34 ?_
    | with_reducible refine State.set_frame (F.CAP_COUNTS2_inputs_kind) b35 ?_
    | with_reducible refine State.set_frame (F.CAP_COUNTS2_outputs_kind) b35 ?_
    | with_reducible refine State.set_frame (F.CAP_COUNTS2_safe_inputs_kind) b35 ?_
    | with_reducible refine State.set_frame (F.CAP_COUNTS2_safe_outputs_kind) b35 ?_
    | with_reducible refine State.set_frame (F.CAP_COUNTS2_mileposts_kind) b35 ?_
    | with_reducible refine State.set_frame (F.CAP_HBM_usable_kind) b36 ?_
    | with_reducible refine State.set_frame (F.CAP_HBM_AVAIL_pages_kind) b37 ?_
    | with_reducible refine State.set_frame (F.CAP_HBM_AVAIL_retired_kind) b37 ?_
    | with_reducible refine State.set_frame (F.CAP_KV_sequences_kind) b38 ?_
    | with_reducible refine State.set_frame (F.CAP_KV_max_len_kind) b38 ?_
    | with_reducible refine State.set_frame (F.CAP_KV_POOL_pages_kind) b39 ?_
    | with_reducible refine State.set_frame (F.INTEG_HBM_retired_kind) b300 ?_
    | with_reducible refine State.setAll_cons ?_
    | with_reducible refine State.setAll_nil ?_
    | with_reducible refine Frame.ite ?_ ?_
    | with_reducible refine Frame.foldl ?_ _ _ ?_
    | split
    | with_reducible refine Frame.of_snd (by with_reducible assumption) ?_
    | with_reducible refine Frame.of_fst (by with_reducible assumption) ?_
    | with_reducible refine Frame.snd_mk ?_
    | with_reducible refine Frame.fst_mk ?_

def State.showLanes_mask : Nat := 0xd000000000000000000000000000000000800
theorem State.showLanes_frame {W : Nat} {s0 s : State} (hW : Within State.showLanes_mask W) (h : Frame W s0 s) :
    Frame W s0 (State.showLanes s) := by
  have b144 := hW.bit (n := 144) (by decide)
  have b147 := hW.bit (n := 147) (by decide)
  have b146 := hW.bit (n := 146) (by decide)
  have w0 := Within.trans (a := State.takeTaps_mask) rfl hW
  unfold State.showLanes
  repeat' first
    | intro _
    | with_reducible assumption
    | (extract_lets +onlyGivenNames x; refine Frame.cut (W := W) (s0 := s0) x ?_ ?_; unfold x; clear x; rotate_left; clear_value x; revert x; intro _ _)
    | (extract_lets +onlyGivenNames x; clear_value x; revert x; intro _)
    | with_reducible refine State.set_frame (F.LANE_CFG_enabled_kind _) b144 ?_
    | with_reducible refine State.set_frame (F.LANE_CFG_rate_kind _) b144 ?_
    | with_reducible refine State.set_frame (F.LANE_CFG_ref_mode_kind _) b144 ?_
    | with_reducible refine State.set_frame (F.LANE_CFG_channel_kind _) b144 ?_
    | with_reducible refine State.set_frame (F.LANE_CFG_sensors_kind _) b144 ?_
    | with_reducible refine State.set_frame (F.LANE_TXEQ_pre_kind _) b147 ?_
    | with_reducible refine State.set_frame (F.LANE_TXEQ_post_kind _) b147 ?_
    | with_reducible refine State.set_frame (F.LANE_STATUS_state_kind _) b146 ?_
    | with_reducible refine State.setAll_cons ?_
    | with_reducible refine State.setAll_nil ?_
    | with_reducible refine State.takeTaps_frame w0 ?_
    | with_reducible refine State.each_frame ?_ ?_
    | with_reducible refine Frame.ite ?_ ?_
    | with_reducible refine Frame.foldl ?_ _ _ ?_
    | split
    | with_reducible refine Frame.of_snd (by with_reducible assumption) ?_
    | with_reducible refine Frame.of_fst (by with_reducible assumption) ?_
    | with_reducible refine Frame.snd_mk ?_
    | with_reducible refine Frame.fst_mk ?_

def State.showContexts_mask : Nat := 0x205000000000000000000000000000000000000000
theorem State.showContexts_frame {W : Nat} {s0 s : State} (hW : Within State.showContexts_mask W) (h : Frame W s0 s) :
    Frame W s0 (State.showContexts s) := by
  have b156 := hW.bit (n := 156) (by decide)
  have b158 := hW.bit (n := 158) (by decide)
  have b165 := hW.bit (n := 165) (by decide)
  unfold State.showContexts
  repeat' first
    | intro _
    | with_reducible assumption
    | (extract_lets +onlyGivenNames x; refine Frame.cut (W := W) (s0 := s0) x ?_ ?_; unfold x; clear x; rotate_left; clear_value x; revert x; intro _ _)
    | (extract_lets +onlyGivenNames x; clear_value x; revert x; intro _)
    | with_reducible refine State.set_frame (F.ISP_STATUS_contexts_kind) b156 ?_
    | with_reducible refine State.set_frame (F.ISP_STATUS_channels_kind) b156 ?_
    | with_reducible refine State.set_frame (F.ISP_CHAN_lanes_kind _) b158 ?_
    | with_reducible refine State.set_frame (F.ISP_CTX_CFG_defined_kind _) b165 ?_
    | with_reducible refine State.set_frame (F.ISP_CTX_CFG_lane_kind _) b165 ?_
    | with_reducible refine State.set_frame (F.ISP_CTX_CFG_stream_kind _) b165 ?_
    | with_reducible refine State.set_frame (F.ISP_CTX_CFG_kind_kind _) b165 ?_
    | with_reducible refine State.set_frame (F.ISP_CTX_CFG_partition_kind _) b165 ?_
    | with_reducible refine State.set_frame (F.ISP_CTX_CFG_channel_kind _) b165 ?_
    | with_reducible refine State.setAll_cons ?_
    | with_reducible refine State.setAll_nil ?_
    | with_reducible refine State.each_frame ?_ ?_
    | with_reducible refine Frame.ite ?_ ?_
    | with_reducible refine Frame.foldl ?_ _ _ ?_
    | split
    | with_reducible refine Frame.of_snd (by with_reducible assumption) ?_
    | with_reducible refine Frame.of_fst (by with_reducible assumption) ?_
    | with_reducible refine Frame.snd_mk ?_
    | with_reducible refine Frame.fst_mk ?_

def State.showPartitions_mask : Nat := 0x6005c0000000000000000000000000
theorem State.showPartitions_frame {W : Nat} {s0 s : State} (hW : Within State.showPartitions_mask W) (h : Frame W s0 s) :
    Frame W s0 (State.showPartitions s) := by
  have b102 := hW.bit (n := 102) (by decide)
  have b103 := hW.bit (n := 103) (by decide)
  have b104 := hW.bit (n := 104) (by decide)
  have b106 := hW.bit (n := 106) (by decide)
  have b118 := hW.bit (n := 118) (by decide)
  have b117 := hW.bit (n := 117) (by decide)
  unfold State.showPartitions
  repeat' first
    | intro _
    | with_reducible assumption
    | (extract_lets +onlyGivenNames x; refine Frame.cut (W := W) (s0 := s0) x ?_ ?_; unfold x; clear x; rotate_left; clear_value x; revert x; intro _ _)
    | (extract_lets +onlyGivenNames x; clear_value x; revert x; intro _)
    | with_reducible refine State.set_frame (F.ROUTE_PART_criticality_kind _) b102 ?_
    | with_reducible refine State.set_frame (F.ROUTE_PART_port_kind _) b102 ?_
    | with_reducible refine State.set_frame (F.ROUTE_PART_defined_kind _) b102 ?_
    | with_reducible refine State.set_frame (F.ROUTE_PART_paced_kind _) b102 ?_
    | with_reducible refine State.set_frame (F.ROUTE_QUOTA_pages_kind _) b103 ?_
    | with_reducible refine State.set_frame (F.ROUTE_QUOTA_LIMIT_pages_kind _) b104 ?_
    | with_reducible refine State.set_frame (F.ROUTE_BW_share_kind _) b106 ?_
    | with_reducible refine State.set_frame (F.ROUTE_WIN_LEN_ticks_kind _) b118 ?_
    | with_reducible refine State.set_frame (F.ROUTE_WIN_START_tick_kind _) b117 ?_
    | with_reducible refine State.each_frame ?_ ?_
    | with_reducible refine State.setAll_cons ?_
    | with_reducible refine State.setAll_nil ?_
    | with_reducible refine Frame.ite ?_ ?_
    | with_reducible refine Frame.foldl ?_ _ _ ?_
    | split
    | with_reducible refine Frame.of_snd (by with_reducible assumption) ?_
    | with_reducible refine Frame.of_fst (by with_reducible assumption) ?_
    | with_reducible refine Frame.snd_mk ?_
    | with_reducible refine Frame.fst_mk ?_

def State.showProgram_mask : Nat := 0x200000000000000000000000000000000000000000000000000000400000000000000000000000000
theorem State.showProgram_frame {W : Nat} {s0 s : State} {p : Nat} (hW : Within State.showProgram_mask W) (h : Frame W s0 s) :
    Frame W s0 (State.showProgram s p) := by
  have b106 := hW.bit (n := 106) (by decide)
  have b321 := hW.bit (n := 321) (by decide)
  unfold State.showProgram
  repeat' first
    | intro _
    | with_reducible assumption
    | (extract_lets +onlyGivenNames x; refine Frame.cut (W := W) (s0 := s0) x ?_ ?_; unfold x; clear x; rotate_left; clear_value x; revert x; intro _ _)
    | (extract_lets +onlyGivenNames x; clear_value x; revert x; intro _)
    | with_reducible refine State.set_frame (F.ROUTE_BW_need_kind _) b106 ?_
    | with_reducible refine State.set_frame (F.INTEG_RECOMP_fraction_kind _) b321 ?_
    | with_reducible refine State.set_frame (F.INTEG_RECOMP_range_check_kind _) b321 ?_
    | with_reducible refine State.setAll_cons ?_
    | with_reducible refine State.setAll_nil ?_
    | with_reducible refine Frame.ite ?_ ?_
    | with_reducible refine Frame.foldl ?_ _ _ ?_
    | split
    | with_reducible refine Frame.of_snd (by with_reducible assumption) ?_
    | with_reducible refine Frame.of_fst (by with_reducible assumption) ?_
    | with_reducible refine Frame.snd_mk ?_
    | with_reducible refine Frame.fst_mk ?_

def State.showPace_mask : Nat := 0x19c000000000000000000
theorem State.showPace_frame {W : Nat} {s0 s : State} (hW : Within State.showPace_mask W) (h : Frame W s0 s) :
    Frame W s0 (State.showPace s) := by
  have b74 := hW.bit (n := 74) (by decide)
  have b75 := hW.bit (n := 75) (by decide)
  have b76 := hW.bit (n := 76) (by decide)
  have b79 := hW.bit (n := 79) (by decide)
  have b80 := hW.bit (n := 80) (by decide)
  unfold State.showPace
  repeat' first
    | intro _
    | with_reducible assumption
    | (extract_lets +onlyGivenNames x; refine Frame.cut (W := W) (s0 := s0) x ?_ ?_; unfold x; clear x; rotate_left; clear_value x; revert x; intro _ _)
    | (extract_lets +onlyGivenNames x; clear_value x; revert x; intro _)
    | with_reducible refine State.set_frame (F.PACE_STATUS_upkeep_mode_kind) b74 ?_
    | with_reducible refine State.set_frame (F.PACE_PERIOD_us_kind) b75 ?_
    | with_reducible refine State.set_frame (F.PACE_MODE_free_kind) b76 ?_
    | with_reducible refine State.set_frame (F.PACE_TABLE0_rated_pace_kind) b79 ?_
    | with_reducible refine State.set_frame (F.PACE_TABLE0_pace_ceiling_kind) b79 ?_
    | with_reducible refine State.set_frame (F.PACE_TABLE0_guard_kind) b79 ?_
    | with_reducible refine State.set_frame (F.PACE_TABLE1_pace_step_kind) b80 ?_
    | with_reducible refine State.set_frame (F.PACE_TABLE1_v_step_kind) b80 ?_
    | with_reducible refine State.set_frame (F.PACE_TABLE1_v_ceiling_kind) b80 ?_
    | with_reducible refine State.set_frame (F.PACE_TABLE1_horizon_kind) b80 ?_
    | with_reducible refine State.set_frame (F.PACE_STATUS_pace_kind) b74 ?_
    | with_reducible refine State.set_frame (F.PACE_STATUS_planned_pace_kind) b74 ?_
    | with_reducible refine State.set_frame (F.PACE_STATUS_metronome_lock_kind) b74 ?_
    | with_reducible refine State.setAll_cons ?_
    | with_reducible refine State.setAll_nil ?_
    | with_reducible refine Frame.ite ?_ ?_
    | with_reducible refine Frame.foldl ?_ _ _ ?_
    | split
    | with_reducible refine Frame.of_snd (by with_reducible assumption) ?_
    | with_reducible refine Frame.of_fst (by with_reducible assumption) ?_
    | with_reducible refine Frame.snd_mk ?_
    | with_reducible refine Frame.fst_mk ?_

def State.showDividers_mask : Nat := 0x1e0000000000000000000000000000000000000000000000000000000
theorem State.showDividers_frame {W : Nat} {s0 s : State} (hW : Within State.showDividers_mask W) (h : Frame W s0 s) :
    Frame W s0 (State.showDividers s) := by
  have b221 := hW.bit (n := 221) (by decide)
  have b222 := hW.bit (n := 222) (by decide)
  have b223 := hW.bit (n := 223) (by decide)
  have b224 := hW.bit (n := 224) (by decide)
  unfold State.showDividers
  repeat' first
    | intro _
    | with_reducible assumption
    | (extract_lets +onlyGivenNames x; refine Frame.cut (W := W) (s0 := s0) x ?_ ?_; unfold x; clear x; rotate_left; clear_value x; revert x; intro _ _)
    | (extract_lets +onlyGivenNames x; clear_value x; revert x; intro _)
    | with_reducible refine State.set_frame (F.MOT_DIV_CFG_source_kind _) b221 ?_
    | with_reducible refine State.set_frame (F.MOT_DIV_CFG_channel_kind _) b221 ?_
    | with_reducible refine State.set_frame (F.MOT_DIV_CFG_pulse_kind _) b221 ?_
    | with_reducible refine State.set_frame (F.MOT_DIV_CFG_width_kind _) b221 ?_
    | with_reducible refine State.set_frame (F.MOT_DIV_RATIO_ratio_kind _) b222 ?_
    | with_reducible refine State.set_frame (F.MOT_DIV_LANES_mask_kind _) b223 ?_
    | with_reducible refine State.set_frame (F.MOT_DIV_STREAMS_mask_kind _) b224 ?_
    | with_reducible refine State.setAll_cons ?_
    | with_reducible refine State.setAll_nil ?_
    | with_reducible refine State.each_frame ?_ ?_
    | with_reducible refine Frame.ite ?_ ?_
    | with_reducible refine Frame.foldl ?_ _ _ ?_
    | split
    | with_reducible refine Frame.of_snd (by with_reducible assumption) ?_
    | with_reducible refine Frame.of_fst (by with_reducible assumption) ?_
    | with_reducible refine Frame.snd_mk ?_
    | with_reducible refine Frame.fst_mk ?_

def State.showMotion_mask : Nat := 0x1f00000000000000000000801e0064000000000000000000000000000000000000000000000000000
theorem State.showMotion_frame {W : Nat} {s0 s : State} (hW : Within State.showMotion_mask W) (h : Frame W s0 s) :
    Frame W s0 (State.showMotion s) := by
  have b206 := hW.bit (n := 206) (by decide)
  have b209 := hW.bit (n := 209) (by decide)
  have b210 := hW.bit (n := 210) (by decide)
  have b235 := hW.bit (n := 235) (by decide)
  have w0 := Within.trans (a := State.showDividers_mask) rfl hW
  have w1 := Within.trans (a := State.capture_mask) rfl hW
  unfold State.showMotion
  repeat' first
    | intro _
    | with_reducible assumption
    | (extract_lets +onlyGivenNames x; refine Frame.cut (W := W) (s0 := s0) x ?_ ?_; unfold x; clear x; rotate_left; clear_value x; revert x; intro _ _)
    | (extract_lets +onlyGivenNames x; clear_value x; revert x; intro _)
    | with_reducible refine State.setBit_frame (F.MOT_STATUS_present_kind) b206 ?_
    | with_reducible refine State.set_frame (F.MOT_CH_CFG_mode_kind _) b209 ?_
    | with_reducible refine State.set_frame (F.MOT_CH_CFG_decode_kind _) b209 ?_
    | with_reducible refine State.set_frame (F.MOT_CH_CFG_reverse_kind _) b209 ?_
    | with_reducible refine State.set_frame (F.MOT_CH_CFG_filter_kind _) b209 ?_
    | with_reducible refine State.set_frame (F.MOT_CH_CFG_framing_kind _) b209 ?_
    | with_reducible refine State.set_frame (F.MOT_CH_CFG_index_check_kind _) b209 ?_
    | with_reducible refine State.set_frame (F.MOT_CH_CFG_interval_kind _) b209 ?_
    | with_reducible refine State.set_frame (F.MOT_CH_STATUS_count_state_kind _) b210 ?_
    | with_reducible refine State.set_frame (F.FIO_IN_CFG_type_kind _) b235 ?_
    | with_reducible refine State.set_frame (F.FIO_IN_CFG_filter_us_kind _) b235 ?_
    | with_reducible refine State.set_frame (F.FIO_IN_CFG_capture_kind _) b235 ?_
    | with_reducible refine State.set_frame (F.FIO_IN_CFG_edge_kind _) b235 ?_
    | with_reducible refine State.setAll_cons ?_
    | with_reducible refine State.setAll_nil ?_
    | with_reducible refine State.showDividers_frame w0 ?_
    | with_reducible refine State.capture_frame w1 ?_
    | with_reducible refine State.each_frame ?_ ?_
    | with_reducible refine Frame.ite ?_ ?_
    | with_reducible refine Frame.foldl ?_ _ _ ?_
    | split
    | with_reducible refine Frame.of_snd (by with_reducible assumption) ?_
    | with_reducible refine Frame.of_fst (by with_reducible assumption) ?_
    | with_reducible refine Frame.snd_mk ?_
    | with_reducible refine Frame.fst_mk ?_

def State.showClaims_mask : Nat := 0x200000400000000000000000000000000000000000000000000000000000000000
theorem State.showClaims_frame {W : Nat} {s0 s : State} (hW : Within State.showClaims_mask W) (h : Frame W s0 s) :
    Frame W s0 (State.showClaims s) := by
  have b238 := hW.bit (n := 238) (by decide)
  have w1 := Within.trans (a := State.showQueues_mask) rfl hW
  unfold State.showClaims
  repeat' first
    | intro _
    | with_reducible assumption
    | (extract_lets +onlyGivenNames x; refine Frame.cut (W := W) (s0 := s0) x ?_ ?_; unfold x; clear x; rotate_left; clear_value x; revert x; intro _ _)
    | (extract_lets +onlyGivenNames x; clear_value x; revert x; intro _)
    | with_reducible refine State.set_frame (F.FIO_OUT_CFG_claimed_kind _) b238 ?_
    | with_reducible refine State.set_frame (F.FIO_OUT_CFG_mode_kind _) b238 ?_
    | with_reducible refine State.set_frame (F.FIO_OUT_CFG_partition_kind _) b238 ?_
    | with_reducible refine State.set_frame (F.FIO_OUT_CFG_retry_ms_kind _) b238 ?_
    | with_reducible refine State.each_frame ?_ ?_
    | with_reducible refine State.setAll_cons ?_
    | with_reducible refine State.setAll_nil ?_
    | with_reducible refine State.showQueues_frame w1 ?_
    | with_reducible refine Frame.ite ?_ ?_
    | with_reducible refine Frame.foldl ?_ _ _ ?_
    | split
    | with_reducible refine Frame.of_snd (by with_reducible assumption) ?_
    | with_reducible refine Frame.of_fst (by with_reducible assumption) ?_
    | with_reducible refine Frame.snd_mk ?_
    | with_reducible refine Frame.fst_mk ?_

def State.showRest_mask : Nat := 0x2003000002000000000000000000000000000000000000000000000000000000000000
theorem State.showRest_frame {W : Nat} {s0 s : State} (hW : Within State.showRest_mask W) (h : Frame W s0 s) :
    Frame W s0 (State.showRest s) := by
  have b241 := hW.bit (n := 241) (by decide)
  have b264 := hW.bit (n := 264) (by decide)
  have b277 := hW.bit (n := 277) (by decide)
  have b265 := hW.bit (n := 265) (by decide)
  unfold State.showRest
  repeat' first
    | intro _
    | with_reducible assumption
    | (extract_lets +onlyGivenNames x; refine Frame.cut (W := W) (s0 := s0) x ?_ ?_; unfold x; clear x; rotate_left; clear_value x; revert x; intro _ _)
    | (extract_lets +onlyGivenNames x; clear_value x; revert x; intro _)
    | with_reducible refine State.set_frame (F.TIME_STATUS_tc_mode_kind) b241 ?_
    | with_reducible refine State.set_frame (F.PEER_STATUS_position_kind) b264 ?_
    | with_reducible refine State.set_frame (F.SAFE_DTI_ms_kind) b277 ?_
    | with_reducible refine State.set_frame (F.PEER_SIDE_state_kind _) b265 ?_
    | with_reducible refine State.set_frame (F.PEER_SIDE_expected_kind _) b265 ?_
    | with_reducible refine State.setAll_cons ?_
    | with_reducible refine State.setAll_nil ?_
    | with_reducible refine State.each_frame ?_ ?_
    | with_reducible refine Frame.ite ?_ ?_
    | with_reducible refine Frame.foldl ?_ _ _ ?_
    | split
    | with_reducible refine Frame.of_snd (by with_reducible assumption) ?_
    | with_reducible refine Frame.of_fst (by with_reducible assumption) ?_
    | with_reducible refine Frame.snd_mk ?_
    | with_reducible refine Frame.fst_mk ?_

def State.configure_mask : Nat := 0x3f00010000020032000024801e006400000000020500d000000e005c000019c00000000ffc0000800
theorem State.configure_frame {W : Nat} {s0 s : State} (hW : Within State.configure_mask W) (h : Frame W s0 s) :
    Frame W s0 (State.configure s) := by
  have w0 := Within.trans (a := State.showRest_mask) rfl hW
  have w1 := Within.trans (a := State.showClaims_mask) rfl hW
  have w2 := Within.trans (a := State.showMotion_mask) rfl hW
  have w3 := Within.trans (a := State.showPace_mask) rfl hW
  have w4 := Within.trans (a := State.showPartitions_mask) rfl hW
  have w5 := Within.trans (a := State.showContexts_mask) rfl hW
  have w6 := Within.trans (a := State.showLanes_mask) rfl hW
  have w7 := Within.trans (a := State.showCaps_mask) rfl hW
  have w8 := Within.trans (a := State.showProgram_mask) rfl hW
  have w9 := Within.trans (a := State.showPort_mask) rfl hW
  unfold State.configure
  repeat' first
    | intro _
    | with_reducible assumption
    | (extract_lets +onlyGivenNames x; refine Frame.cut (W := W) (s0 := s0) x ?_ ?_; unfold x; clear x; rotate_left; clear_value x; revert x; intro _ _)
    | (extract_lets +onlyGivenNames x; clear_value x; revert x; intro _)
    | with_reducible refine State.showRest_frame w0 ?_
    | with_reducible refine State.showClaims_frame w1 ?_
    | with_reducible refine State.showMotion_frame w2 ?_
    | with_reducible refine State.showPace_frame w3 ?_
    | with_reducible refine State.showPartitions_frame w4 ?_
    | with_reducible refine State.showContexts_frame w5 ?_
    | with_reducible refine State.showLanes_frame w6 ?_
    | with_reducible refine State.showCaps_frame w7 ?_
    | with_reducible refine State.each_frame ?_ ?_
    | with_reducible refine State.showProgram_frame w8 ?_
    | with_reducible refine State.showPort_frame w9 ?_
    | with_reducible refine Frame.ite ?_ ?_
    | with_reducible refine Frame.foldl ?_ _ _ ?_
    | split
    | with_reducible refine Frame.of_snd (by with_reducible assumption) ?_
    | with_reducible refine Frame.of_fst (by with_reducible assumption) ?_
    | with_reducible refine Frame.snd_mk ?_
    | with_reducible refine Frame.fst_mk ?_

end Sys2Proof.Machine
end

