-- ==== Sys2Proof/Laws/Pace.lean ====
section
/-! SUPPORT. What the operations of Machine/Pace.lean change: each differs from its argument in the areas of its mask alone. -/

set_option linter.all false

namespace Sys2Proof.Machine

def execPaceMiss_mask : Nat := 0xc006020000000000000800000000005000000000000000000000000000000000002800000000000022008040
theorem execPaceMiss_frame {s nx : State} {c : Option CoreId} {slip : BitVec 32} (e : execPaceMiss c slip s = .next nx) : Frame execPaceMiss_mask s nx := by
  refine State.run_frame rfl (fun W s0 s hW h => ?_) e
  have b85 := hW.bit (n := 85) (by decide)
  have b83 := hW.bit (n := 83) (by decide)
  have w0 := Within.trans (a := State.raise_mask) rfl hW
  have w1 := Within.trans (a := State.perfEvent_mask) rfl hW
  have b6 := hW.bit (n := 6) (by decide)
  repeat' first
    | intro _
    | with_reducible assumption
    | (extract_lets +onlyGivenNames x; refine Frame.cut (W := W) (s0 := s0) x ?_ ?_; unfold x; clear x; rotate_left; clear_value x; revert x; intro _ _)
    | (extract_lets +onlyGivenNames x; clear_value x; revert x; intro _)
    | with_reducible refine State.inc_frame (F.PACE_HUB_misses_kind) b85 ?_
    | with_reducible refine State.inc_frame (F.PACE_MISS_count_kind _) b83 ?_
    | with_reducible refine State.raise_frame w0 ?_
    | with_reducible refine State.perfEvent_frame w1 ?_
    | with_reducible refine Frame.ite ?_ ?_
    | with_reducible refine Frame.foldl ?_ _ _ ?_
    | split
    | with_reducible refine Frame.of_snd (by with_reducible assumption) ?_
    | with_reducible refine Frame.of_fst (by with_reducible assumption) ?_
    | with_reducible refine Frame.snd_mk ?_
    | with_reducible refine Frame.fst_mk ?_
    | with_reducible refine Frame.pace_upd b6 ?_

def State.slackLow_mask : Nat := 0x6020000000000000000000000000000000000000000000000000000000000000000000000000022000040
theorem State.slackLow_frame {W : Nat} {s0 s : State} {c : Nat} {v : Int} (hW : Within State.slackLow_mask W) (h : Frame W s0 s) :
    Frame W s0 (State.slackLow s c v) := by
  have b6 := hW.bit (n := 6) (by decide)
  have w1 := Within.trans (a := State.raise_mask) rfl hW
  unfold State.slackLow
  repeat' first
    | intro _
    | with_reducible assumption
    | (extract_lets +onlyGivenNames x; refine Frame.cut (W := W) (s0 := s0) x ?_ ?_; unfold x; clear x; rotate_left; clear_value x; revert x; intro _ _)
    | (extract_lets +onlyGivenNames x; clear_value x; revert x; intro _)
    | with_reducible refine State.raise_frame w1 ?_
    | with_reducible refine Frame.ite ?_ ?_
    | with_reducible refine Frame.foldl ?_ _ _ ?_
    | split
    | with_reducible refine Frame.of_snd (by with_reducible assumption) ?_
    | with_reducible refine Frame.of_fst (by with_reducible assumption) ?_
    | with_reducible refine Frame.snd_mk ?_
    | with_reducible refine Frame.fst_mk ?_
    | with_reducible refine Frame.pace_upd b6 ?_

def State.storeBaseline_mask : Nat := 0x6020000000000000080000000000000000000000000000000000000000000000401a21000000022000028
theorem State.storeBaseline_frame {W : Nat} {s0 s : State} {now : List (Nat × Int)} (hW : Within State.storeBaseline_mask W) (h : Frame W s0 s) :
    Frame W s0 (State.storeBaseline s now) := by
  have b82 := hW.bit (n := 82) (by decide)
  have w0 := Within.trans (a := State.keepWrite_mask) rfl hW
  have w1 := Within.trans (a := State.showKeep_mask) rfl hW
  have w2 := Within.trans (a := State.raise_mask) rfl hW
  unfold State.storeBaseline
  repeat' first
    | intro _
    | with_reducible assumption
    | (extract_lets +onlyGivenNames x; refine Frame.cut (W := W) (s0 := s0) x ?_ ?_; unfold x; clear x; rotate_left; clear_value x; revert x; intro _ _)
    | (extract_lets +onlyGivenNames x; clear_value x; revert x; intro _)
    | with_reducible refine State.set_frame (F.PACE_SLACK_baseline_kind _) b82 ?_
    | with_reducible refine State.keepWrite_frame w0 ?_ ?_
    | with_reducible refine State.showKeep_frame w1 ?_
    | with_reducible refine State.raise_frame w2 ?_
    | with_reducible refine State.each_frame ?_ ?_
    | with_reducible refine Frame.ite ?_ ?_
    | with_reducible refine Frame.foldl ?_ _ _ ?_
    | split
    | with_reducible refine Frame.of_snd (by with_reducible assumption) ?_
    | with_reducible refine Frame.of_fst (by with_reducible assumption) ?_
    | with_reducible refine Frame.snd_mk ?_
    | with_reducible refine Frame.fst_mk ?_
    | with_reducible refine Frame.foldl_snd ?_ _ _ ?_
    | with_reducible refine Frame.foldl_fst ?_ _ _ ?_
    | with_reducible refine Frame.foldr_snd ?_ _ _ ?_
    | with_reducible refine Frame.Snd.mk ?_
    | with_reducible refine Frame.Fst.mk ?_
    | dsimp only
    | exact ⟨Nat.le_refl _, Nat.le_refl _, Nat.le_refl _, Nat.le_refl _⟩
    | exact ⟨Nat.sub_le _ _, Nat.le_refl _, Nat.le_refl _, Nat.le_refl _⟩
    | exact ⟨Nat.le_refl _, Nat.le_refl _, Nat.sub_le _ _, Nat.le_refl _⟩
    | exact ⟨Nat.le_refl _, Nat.le_refl _, Nat.le_refl _, Nat.sub_le _ _⟩

def execSlackWindow_mask : Nat := 0x6020000000000000880000000005000000000000000000000000000000000002601a21000000022008068
theorem execSlackWindow_frame {s nx : State} {ticks : List (List (BitVec 12))} {counts : List (List Nat)} {hub : BitVec 12} (e : execSlackWindow ticks counts hub s = .next nx) : Frame execSlackWindow_mask s nx := by
  refine State.run_frame rfl (fun W s0 s hW h => ?_) e
  have b82 := hW.bit (n := 82) (by decide)
  have b81 := hW.bit (n := 81) (by decide)
  have b85 := hW.bit (n := 85) (by decide)
  have w0 := Within.trans (a := State.storeBaseline_mask) rfl hW
  have w1 := Within.trans (a := State.slackLow_mask) rfl hW
  have b6 := hW.bit (n := 6) (by decide)
  repeat' first
    | intro _
    | with_reducible assumption
    | (extract_lets +onlyGivenNames x; refine Frame.cut (W := W) (s0 := s0) x ?_ ?_; unfold x; clear x; rotate_left; clear_value x; revert x; intro _ _)
    | (extract_lets +onlyGivenNames x; refine Frame.cutF (W := W) (s0 := s0) x ?_ ?_; unfold x; clear x; rotate_left; clear_value x; revert x; intro _ _)
    | (extract_lets +onlyGivenNames x; refine Frame.cutG (W := W) (s0 := s0) x ?_ ?_; unfold x; clear x; rotate_left; clear_value x; revert x; intro _ _)
    | (extract_lets +onlyGivenNames x; refine Frame.cutN (W := W) (s0 := s0) x ?_ ?_; unfold x; clear x; rotate_left; clear_value x; revert x; intro _ _)
    | (extract_lets +onlyGivenNames x; refine Frame.cutH (W := W) (s0 := s0) x ?_ ?_; unfold x; clear x; rotate_left; clear_value x; revert x; intro _ _)
    | (extract_lets +onlyGivenNames x; refine Frame.cutI (W := W) (s0 := s0) x ?_ ?_; unfold x; clear x; rotate_left; clear_value x; revert x; intro _ _)
    | (extract_lets +onlyGivenNames x; clear_value x; revert x; intro _)
    | with_reducible refine State.set_frame (F.PACE_SLACK_slack_kind _) b82 ?_
    | with_reducible refine State.set_frame (F.PACE_DIE_least_slack_kind _) b81 ?_
    | with_reducible refine State.set_frame (F.PACE_HUB_slack_kind) b85 ?_
    | with_reducible refine State.storeBaseline_frame w0 ?_
    | with_reducible refine State.slackLow_frame w1 ?_
    | with_reducible refine State.each_frame ?_ ?_
    | with_reducible refine Frame.ite ?_ ?_
    | with_reducible refine Frame.foldl ?_ _ _ ?_
    | split
    | with_reducible refine Frame.of_snd (by with_reducible assumption) ?_
    | with_reducible refine Frame.of_fst (by with_reducible assumption) ?_
    | with_reducible refine Frame.snd_mk ?_
    | with_reducible refine Frame.fst_mk ?_
    | with_reducible refine Frame.pace_upd b6 ?_
    | with_reducible refine Frame.foldl_snd ?_ _ _ ?_
    | with_reducible refine Frame.foldl_fst ?_ _ _ ?_
    | with_reducible refine Frame.foldr_snd ?_ _ _ ?_
    | with_reducible refine Frame.Snd.mk ?_
    | with_reducible refine Frame.Fst.mk ?_
    | dsimp only
    | solve_by_elim

def execSlackLogWrite_mask : Nat := 0x800000000005000000000000000000000000000000000000000000000000000008050
theorem execSlackLogWrite_frame {s nx : State} (e : execSlackLogWrite s = .next nx) : Frame execSlackLogWrite_mask s nx := by
  refine State.run_frame rfl (fun W s0 s hW h => ?_) e
  have b4 := hW.bit (n := 4) (by decide)
  have b6 := hW.bit (n := 6) (by decide)
  repeat' first
    | intro _
    | with_reducible assumption
    | (extract_lets +onlyGivenNames x; refine Frame.cut (W := W) (s0 := s0) x ?_ ?_; unfold x; clear x; rotate_left; clear_value x; revert x; intro _ _)
    | (extract_lets +onlyGivenNames x; refine Frame.cutF (W := W) (s0 := s0) x ?_ ?_; unfold x; clear x; rotate_left; clear_value x; revert x; intro _ _)
    | (extract_lets +onlyGivenNames x; refine Frame.cutG (W := W) (s0 := s0) x ?_ ?_; unfold x; clear x; rotate_left; clear_value x; revert x; intro _ _)
    | (extract_lets +onlyGivenNames x; refine Frame.cutN (W := W) (s0 := s0) x ?_ ?_; unfold x; clear x; rotate_left; clear_value x; revert x; intro _ _)
    | (extract_lets +onlyGivenNames x; refine Frame.cutH (W := W) (s0 := s0) x ?_ ?_; unfold x; clear x; rotate_left; clear_value x; revert x; intro _ _)
    | (extract_lets +onlyGivenNames x; refine Frame.cutI (W := W) (s0 := s0) x ?_ ?_; unfold x; clear x; rotate_left; clear_value x; revert x; intro _ _)
    | (extract_lets +onlyGivenNames x; clear_value x; revert x; intro _)
    | with_reducible refine Frame.ite ?_ ?_
    | with_reducible refine Frame.foldl ?_ _ _ ?_
    | split
    | with_reducible refine Frame.of_snd (by with_reducible assumption) ?_
    | with_reducible refine Frame.of_fst (by with_reducible assumption) ?_
    | with_reducible refine Frame.snd_mk ?_
    | with_reducible refine Frame.fst_mk ?_
    | with_reducible refine Frame.flash_pace_upd b4 b6 ?_
    | solve_by_elim

def State.planRaises_mask : Nat := 0x40
theorem State.planRaises_frame {W : Nat} {s0 s : State} {d : Nat} (hW : Within State.planRaises_mask W) (h : Frame W s0 s) :
    Frame W s0 (State.planRaises s d) := by
  have b6 := hW.bit (n := 6) (by decide)
  unfold State.planRaises
  repeat' first
    | intro _
    | with_reducible assumption
    | (extract_lets +onlyGivenNames x; refine Frame.cut (W := W) (s0 := s0) x ?_ ?_; unfold x; clear x; rotate_left; clear_value x; revert x; intro _ _)
    | (extract_lets +onlyGivenNames x; clear_value x; revert x; intro _)
    | with_reducible refine Frame.ite ?_ ?_
    | with_reducible refine Frame.foldl ?_ _ _ ?_
    | split
    | with_reducible refine Frame.of_snd (by with_reducible assumption) ?_
    | with_reducible refine Frame.of_fst (by with_reducible assumption) ?_
    | with_reducible refine Frame.snd_mk ?_
    | with_reducible refine Frame.fst_mk ?_
    | with_reducible refine Frame.pace_upd b6 ?_

def State.propose_mask : Nat := 0x6020000000000000000000000000000000000000000000000000000000000000040000000000022000040
theorem State.propose_frame {W : Nat} {s0 s : State} (hW : Within State.propose_mask W) (h : Frame W s0 s) :
    Frame W s0 (State.propose s) := by
  have b78 := hW.bit (n := 78) (by decide)
  have w0 := Within.trans (a := State.slackLow_mask) rfl hW
  have w1 := Within.trans (a := State.raise_mask) rfl hW
  unfold State.propose
  repeat' first
    | intro _
    | with_reducible assumption
    | (extract_lets +onlyGivenNames x; refine Frame.cut (W := W) (s0 := s0) x ?_ ?_; unfold x; clear x; rotate_left; clear_value x; revert x; intro _ _)
    | (extract_lets +onlyGivenNames x; clear_value x; revert x; intro _)
    | with_reducible refine State.set_frame (F.PACE_PLAN_STATUS_proposal_pending_kind) b78 ?_
    | with_reducible refine State.set_frame (F.PACE_PLAN_STATUS_proposed_pace_kind) b78 ?_
    | with_reducible refine State.slackLow_frame w0 ?_
    | with_reducible refine State.raise_frame w1 ?_
    | with_reducible refine State.each_frame ?_ ?_
    | with_reducible refine Frame.ite ?_ ?_
    | with_reducible refine Frame.foldl ?_ _ _ ?_
    | split
    | with_reducible refine Frame.of_snd (by with_reducible assumption) ?_
    | with_reducible refine Frame.of_fst (by with_reducible assumption) ?_
    | with_reducible refine Frame.snd_mk ?_
    | with_reducible refine Frame.fst_mk ?_
    | with_reducible refine Frame.foldl_snd ?_ _ _ ?_
    | with_reducible refine Frame.foldl_fst ?_ _ _ ?_
    | with_reducible refine Frame.foldr_snd ?_ _ _ ?_
    | with_reducible refine Frame.Snd.mk ?_
    | with_reducible refine Frame.Fst.mk ?_
    | dsimp only

def State.plan_mask : Nat := 0x6020000000000000000000000000000000000000000000000000000000000000440000000000022000040
theorem State.plan_frame {W : Nat} {s0 s : State} (hW : Within State.plan_mask W) (h : Frame W s0 s) :
    Frame W s0 (State.plan s) := by
  have b82 := hW.bit (n := 82) (by decide)
  have w0 := Within.trans (a := State.planRaises_mask) rfl hW
  have w1 := Within.trans (a := State.propose_mask) rfl hW
  unfold State.plan
  repeat' first
    | intro _
    | with_reducible assumption
    | (extract_lets +onlyGivenNames x; refine Frame.cut (W := W) (s0 := s0) x ?_ ?_; unfold x; clear x; rotate_left; clear_value x; revert x; intro _ _)
    | (extract_lets +onlyGivenNames x; clear_value x; revert x; intro _)
    | with_reducible refine State.set_frame (F.PACE_SLACK_trend_kind _) b82 ?_
    | with_reducible refine State.planRaises_frame w0 ?_
    | with_reducible refine State.propose_frame w1 ?_
    | with_reducible refine State.each_frame ?_ ?_
    | with_reducible refine Frame.ite ?_ ?_
    | with_reducible refine Frame.foldl ?_ _ _ ?_
    | split
    | with_reducible refine Frame.of_snd (by with_reducible assumption) ?_
    | with_reducible refine Frame.of_fst (by with_reducible assumption) ?_
    | with_reducible refine Frame.snd_mk ?_
    | with_reducible refine Frame.fst_mk ?_

def execPlanEvaluation_mask : Nat := 0x6020000000000000800000000005000000000000000000000000000000000000440000000000022008040
theorem execPlanEvaluation_frame {s nx : State} (e : execPlanEvaluation s = .next nx) : Frame execPlanEvaluation_mask s nx := by
  refine State.run_frame rfl (fun W s0 s hW h => ?_) e
  have w0 := Within.trans (a := State.plan_mask) rfl hW
  repeat' first
    | intro _
    | with_reducible assumption
    | (extract_lets +onlyGivenNames x; refine Frame.cut (W := W) (s0 := s0) x ?_ ?_; unfold x; clear x; rotate_left; clear_value x; revert x; intro _ _)
    | (extract_lets +onlyGivenNames x; clear_value x; revert x; intro _)
    | with_reducible refine State.plan_frame w0 ?_
    | with_reducible refine Frame.ite ?_ ?_
    | with_reducible refine Frame.foldl ?_ _ _ ?_
    | split
    | with_reducible refine Frame.of_snd (by with_reducible assumption) ?_
    | with_reducible refine Frame.of_fst (by with_reducible assumption) ?_

def State.paceCmd_mask : Nat := 0x6020000000000000000000000000000000000000000000000000000000000000000000000000022000000
theorem State.paceCmd_frame {W : Nat} {s0 s : State} {i : Port} {off : Nat} {f : State → State} (hW : Within State.paceCmd_mask W) (hf_f : ∀ s, Frame W s0 s → Frame W s0 (f s)) (h : Frame W s0 s) :
    Frame W s0 (State.paceCmd s i off f) := by
  have w0 := Within.trans (a := State.raise_mask) rfl hW
  unfold State.paceCmd
  repeat' first
    | intro _
    | with_reducible assumption
    | (extract_lets +onlyGivenNames x; refine Frame.cut (W := W) (s0 := s0) x ?_ ?_; unfold x; clear x; rotate_left; clear_value x; revert x; intro _ _)
    | (extract_lets +onlyGivenNames x; clear_value x; revert x; intro _)
    | with_reducible refine State.raise_frame w0 ?_
    | with_reducible refine Frame.ite ?_ ?_
    | with_reducible apply hf_f
    | with_reducible refine Frame.foldl ?_ _ _ ?_
    | split
    | with_reducible refine Frame.of_snd (by with_reducible assumption) ?_
    | with_reducible refine Frame.of_fst (by with_reducible assumption) ?_
    | with_reducible refine Frame.snd_mk ?_
    | with_reducible refine Frame.fst_mk ?_

def execOpenWindow_mask : Nat := 0x6020000000000000800000000005000000000000000000000000000000000000044000000000022008040
theorem execOpenWindow_frame {s nx : State} {i : Port} {minutes : BitVec 11} (e : execOpenWindow i minutes s = .next nx) : Frame execOpenWindow_mask s nx := by
  refine State.run_frame rfl (fun W s0 s hW h => ?_) e
  have b78 := hW.bit (n := 78) (by decide)
  have b74 := hW.bit (n := 74) (by decide)
  have w0 := Within.trans (a := State.paceCmd_mask) rfl hW
  have w1 := Within.trans (a := State.raise_mask) rfl hW
  have w2 := Within.trans (a := State.propose_mask) rfl hW
  have b6 := hW.bit (n := 6) (by decide)
  repeat' first
    | intro _
    | with_reducible assumption
    | (extract_lets +onlyGivenNames x; refine Frame.cut (W := W) (s0 := s0) x ?_ ?_; unfold x; clear x; rotate_left; clear_value x; revert x; intro _ _)
    | (extract_lets +onlyGivenNames x; clear_value x; revert x; intro _)
    | with_reducible refine State.set_frame (F.PACE_PLAN_STATUS_refusal_kind) b78 ?_
    | with_reducible refine State.set_frame (F.PACE_STATUS_window_open_kind) b74 ?_
    | with_reducible refine State.set_frame (F.PACE_PLAN_STATUS_minutes_left_kind) b78 ?_
    | with_reducible refine State.paceCmd_frame w0 ?_ ?_
    | with_reducible refine State.raise_frame w1 ?_
    | with_reducible refine State.propose_frame w2 ?_
    | with_reducible refine Frame.ite ?_ ?_
    | with_reducible refine Frame.foldl ?_ _ _ ?_
    | split
    | with_reducible refine Frame.of_snd (by with_reducible assumption) ?_
    | with_reducible refine Frame.of_fst (by with_reducible assumption) ?_
    | with_reducible refine Frame.snd_mk ?_
    | with_reducible refine Frame.fst_mk ?_
    | with_reducible refine Frame.pace_upd b6 ?_

def State.closeWindow_mask : Nat := 0x6020000000000000000000000000000000000000000000000000000000000000044000000000022000040
theorem State.closeWindow_frame {W : Nat} {s0 s : State} {port : Nat} (hW : Within State.closeWindow_mask W) (h : Frame W s0 s) :
    Frame W s0 (State.closeWindow s port) := by
  have b74 := hW.bit (n := 74) (by decide)
  have b78 := hW.bit (n := 78) (by decide)
  have w0 := Within.trans (a := State.raise_mask) rfl hW
  have b6 := hW.bit (n := 6) (by decide)
  unfold State.closeWindow
  repeat' first
    | intro _
    | with_reducible assumption
    | (extract_lets +onlyGivenNames x; refine Frame.cut (W := W) (s0 := s0) x ?_ ?_; unfold x; clear x; rotate_left; clear_value x; revert x; intro _ _)
    | (extract_lets +onlyGivenNames x; clear_value x; revert x; intro _)
    | with_reducible refine State.set_frame (F.PACE_STATUS_window_open_kind) b74 ?_
    | with_reducible refine State.set_frame (F.PACE_PLAN_STATUS_minutes_left_kind) b78 ?_
    | with_reducible refine State.raise_frame w0 ?_
    | with_reducible refine Frame.ite ?_ ?_
    | with_reducible refine Frame.foldl ?_ _ _ ?_
    | split
    | with_reducible refine Frame.of_snd (by with_reducible assumption) ?_
    | with_reducible refine Frame.of_fst (by with_reducible assumption) ?_
    | with_reducible refine Frame.snd_mk ?_
    | with_reducible refine Frame.fst_mk ?_
    | with_reducible refine Frame.pace_upd b6 ?_

def execCloseWindow_mask : Nat := 0x6020000000000000800000000005000000000000000000000000000000000000044000000000022008040
theorem execCloseWindow_frame {s nx : State} {i : Port} (e : execCloseWindow i s = .next nx) : Frame execCloseWindow_mask s nx := by
  refine State.run_frame rfl (fun W s0 s hW h => ?_) e
  have b78 := hW.bit (n := 78) (by decide)
  have w1 := Within.trans (a := State.paceCmd_mask) rfl hW
  have w2 := Within.trans (a := State.closeWindow_mask) rfl hW
  repeat' first
    | intro _
    | with_reducible assumption
    | (extract_lets +onlyGivenNames x; refine Frame.cut (W := W) (s0 := s0) x ?_ ?_; unfold x; clear x; rotate_left; clear_value x; revert x; intro _ _)
    | (extract_lets +onlyGivenNames x; clear_value x; revert x; intro _)
    | with_reducible refine State.set_frame (F.PACE_PLAN_STATUS_refusal_kind) b78 ?_
    | with_reducible refine State.paceCmd_frame w1 ?_ ?_
    | with_reducible refine State.closeWindow_frame w2 ?_
    | with_reducible refine Frame.ite ?_ ?_
    | with_reducible refine Frame.foldl ?_ _ _ ?_
    | split
    | with_reducible refine Frame.of_snd (by with_reducible assumption) ?_
    | with_reducible refine Frame.of_fst (by with_reducible assumption) ?_

def execPlanWindowExpired_mask : Nat := 0x6020000000000000800000000005000000000000000000000000000000000000044000000000022008040
theorem execPlanWindowExpired_frame {s nx : State} (e : execPlanWindowExpired s = .next nx) : Frame execPlanWindowExpired_mask s nx := by
  refine State.run_frame rfl (fun W s0 s hW h => ?_) e
  have b78 := hW.bit (n := 78) (by decide)
  have w1 := Within.trans (a := State.closeWindow_mask) rfl hW
  repeat' first
    | intro _
    | with_reducible assumption
    | (extract_lets +onlyGivenNames x; refine Frame.cut (W := W) (s0 := s0) x ?_ ?_; unfold x; clear x; rotate_left; clear_value x; revert x; intro _ _)
    | (extract_lets +onlyGivenNames x; clear_value x; revert x; intro _)
    | with_reducible refine State.set_frame (F.PACE_PLAN_STATUS_minutes_left_kind) b78 ?_
    | with_reducible refine State.closeWindow_frame w1 ?_
    | with_reducible refine Frame.ite ?_ ?_
    | with_reducible refine Frame.foldl ?_ _ _ ?_
    | split
    | with_reducible refine Frame.of_snd (by with_reducible assumption) ?_
    | with_reducible refine Frame.of_fst (by with_reducible assumption) ?_

def execHubfwLoad_mask : Nat := 0x6020000000000000800000000005000000000000000000000000000000000010000000000000022008000
theorem execHubfwLoad_frame {s nx : State} {i : Port} (e : execHubfwLoad i s = .next nx) : Frame execHubfwLoad_mask s nx := by
  refine State.run_frame rfl (fun W s0 s hW h => ?_) e
  have b88 := hW.bit (n := 88) (by decide)
  have w1 := Within.trans (a := State.paceCmd_mask) rfl hW
  repeat' first
    | intro _
    | with_reducible assumption
    | (extract_lets +onlyGivenNames x; refine Frame.cut (W := W) (s0 := s0) x ?_ ?_; unfold x; clear x; rotate_left; clear_value x; revert x; intro _ _)
    | (extract_lets +onlyGivenNames x; clear_value x; revert x; intro _)
    | with_reducible refine State.set_frame (F.PACE_HUBFW_STATUS_state_kind) b88 ?_
    | with_reducible refine State.paceCmd_frame w1 ?_ ?_
    | with_reducible refine Frame.ite ?_ ?_
    | with_reducible refine Frame.foldl ?_ _ _ ?_
    | split
    | with_reducible refine Frame.of_snd (by with_reducible assumption) ?_
    | with_reducible refine Frame.of_fst (by with_reducible assumption) ?_

def execHubfwVerified_mask : Nat := 0x6020000000000000800000000005000000000000000000000000000000000010000000000000022008038
theorem execHubfwVerified_frame {s nx : State} {ok : Bool} {digest : BitVec 512} (e : execHubfwVerified ok digest s = .next nx) : Frame execHubfwVerified_mask s nx := by
  refine State.run_frame rfl (fun W s0 s hW h => ?_) e
  have b88 := hW.bit (n := 88) (by decide)
  have w1 := Within.trans (a := State.storeFirmware_mask) rfl hW
  have w2 := Within.trans (a := State.raise_mask) rfl hW
  repeat' first
    | intro _
    | with_reducible assumption
    | (extract_lets +onlyGivenNames x; refine Frame.cut (W := W) (s0 := s0) x ?_ ?_; unfold x; clear x; rotate_left; clear_value x; revert x; intro _ _)
    | (extract_lets +onlyGivenNames x; clear_value x; revert x; intro _)
    | with_reducible refine State.set_frame (F.PACE_HUBFW_STATUS_state_kind) b88 ?_
    | with_reducible refine State.storeFirmware_frame w1 ?_
    | with_reducible refine State.raise_frame w2 ?_
    | with_reducible refine Frame.ite ?_ ?_
    | with_reducible refine Frame.foldl ?_ _ _ ?_
    | split
    | with_reducible refine Frame.of_snd (by with_reducible assumption) ?_
    | with_reducible refine Frame.of_fst (by with_reducible assumption) ?_

def execHandover_mask : Nat := 0x6020000000000000800000000005000000000000000000000000000000000010000000000000022008000
theorem execHandover_frame {s nx : State} {i : Port} (e : execHandover i s = .next nx) : Frame execHandover_mask s nx := by
  refine State.run_frame rfl (fun W s0 s hW h => ?_) e
  have b88 := hW.bit (n := 88) (by decide)
  have w1 := Within.trans (a := State.paceCmd_mask) rfl hW
  repeat' first
    | intro _
    | with_reducible assumption
    | (extract_lets +onlyGivenNames x; refine Frame.cut (W := W) (s0 := s0) x ?_ ?_; unfold x; clear x; rotate_left; clear_value x; revert x; intro _ _)
    | (extract_lets +onlyGivenNames x; clear_value x; revert x; intro _)
    | with_reducible refine State.set_frame (F.PACE_HUBFW_STATUS_state_kind) b88 ?_
    | with_reducible refine State.paceCmd_frame w1 ?_ ?_
    | with_reducible refine Frame.ite ?_ ?_
    | with_reducible refine Frame.foldl ?_ _ _ ?_
    | split
    | with_reducible refine Frame.of_snd (by with_reducible assumption) ?_
    | with_reducible refine Frame.of_fst (by with_reducible assumption) ?_

def execHandoverDone_mask : Nat := 0x6020000000000000800000000005000000000000000000000000000000000010000020000000022008060
theorem execHandoverDone_frame {s nx : State} (e : execHandoverDone s = .next nx) : Frame execHandoverDone_mask s nx := by
  refine State.run_frame rfl (fun W s0 s hW h => ?_) e
  have b88 := hW.bit (n := 88) (by decide)
  have b65 := hW.bit (n := 65) (by decide)
  have w0 := Within.trans (a := State.raise_mask) rfl hW
  have b5 := hW.bit (n := 5) (by decide)
  have b6 := hW.bit (n := 6) (by decide)
  repeat' first
    | intro _
    | with_reducible assumption
    | (extract_lets +onlyGivenNames x; refine Frame.cut (W := W) (s0 := s0) x ?_ ?_; unfold x; clear x; rotate_left; clear_value x; revert x; intro _ _)
    | (extract_lets +onlyGivenNames x; clear_value x; revert x; intro _)
    | with_reducible refine State.set_frame (F.PACE_HUBFW_STATUS_active_slot_kind) b88 ?_
    | with_reducible refine State.set_frame (F.PACE_HUBFW_STATUS_trial_kind) b88 ?_
    | with_reducible refine State.set_frame (F.PACE_HUBFW_STATUS_standby_s_kind) b88 ?_
    | with_reducible refine State.set_frame (F.PACE_HUBFW_STATUS_state_kind) b88 ?_
    | with_reducible refine State.set_frame (F.KEEP_STATUS_fw_slot_kind) b65 ?_
    | with_reducible refine State.raise_frame w0 ?_
    | with_reducible refine Frame.ite ?_ ?_
    | with_reducible refine Frame.foldl ?_ _ _ ?_
    | split
    | with_reducible refine Frame.of_snd (by with_reducible assumption) ?_
    | with_reducible refine Frame.of_fst (by with_reducible assumption) ?_
    | with_reducible refine Frame.snd_mk ?_
    | with_reducible refine Frame.fst_mk ?_
    | with_reducible refine Frame.boot_pace_upd b5 b6 ?_

def execConfirm_mask : Nat := 0x6020000000000000800000000005000000000000000000000000000000000010000000000000022008028
theorem execConfirm_frame {s nx : State} {i : Port} (e : execConfirm i s = .next nx) : Frame execConfirm_mask s nx := by
  refine State.run_frame rfl (fun W s0 s hW h => ?_) e
  have b88 := hW.bit (n := 88) (by decide)
  have w1 := Within.trans (a := State.paceCmd_mask) rfl hW
  have w2 := Within.trans (a := State.keepWrite_mask) rfl hW
  repeat' first
    | intro _
    | with_reducible assumption
    | (extract_lets +onlyGivenNames x; refine Frame.cut (W := W) (s0 := s0) x ?_ ?_; unfold x; clear x; rotate_left; clear_value x; revert x; intro _ _)
    | (extract_lets +onlyGivenNames x; clear_value x; revert x; intro _)
    | with_reducible refine State.set_frame (F.PACE_HUBFW_STATUS_standby_s_kind) b88 ?_
    | with_reducible refine State.set_frame (F.PACE_HUBFW_STATUS_trial_kind) b88 ?_
    | with_reducible refine State.set_frame (F.PACE_HUBFW_STATUS_state_kind) b88 ?_
    | with_reducible refine State.paceCmd_frame w1 ?_ ?_
    | with_reducible refine State.keepWrite_frame w2 ?_ ?_
    | exact ⟨Nat.le_refl _, Nat.le_refl _, Nat.le_refl _, Nat.le_refl _⟩
    | exact ⟨Nat.sub_le _ _, Nat.le_refl _, Nat.le_refl _, Nat.le_refl _⟩
    | exact ⟨Nat.le_refl _, Nat.le_refl _, Nat.le_refl _, Nat.sub_le _ _⟩
    | exact ⟨Nat.le_refl _, Nat.le_refl _, Nat.sub_le _ _, Nat.le_refl _⟩
    | with_reducible refine Frame.ite ?_ ?_
    | with_reducible refine Frame.foldl ?_ _ _ ?_
    | split
    | with_reducible refine Frame.of_snd (by with_reducible assumption) ?_
    | with_reducible refine Frame.of_fst (by with_reducible assumption) ?_

def execHubfwAbort_mask : Nat := 0x6020000000000000800000000005000000000000000000000000000000000010000000000000022008028
theorem execHubfwAbort_frame {s nx : State} {i : Port} (e : execHubfwAbort i s = .next nx) : Frame execHubfwAbort_mask s nx := by
  refine State.run_frame rfl (fun W s0 s hW h => ?_) e
  have b88 := hW.bit (n := 88) (by decide)
  have w1 := Within.trans (a := State.paceCmd_mask) rfl hW
  have w2 := Within.trans (a := State.keepWrite_mask) rfl hW
  have w3 := Within.trans (a := State.raise_mask) rfl hW
  repeat' first
    | intro _
    | with_reducible assumption
    | (extract_lets +onlyGivenNames x; refine Frame.cut (W := W) (s0 := s0) x ?_ ?_; unfold x; clear x; rotate_left; clear_value x; revert x; intro _ _)
    | (extract_lets +onlyGivenNames x; refine Frame.cutF (W := W) (s0 := s0) x ?_ ?_; unfold x; clear x; rotate_left; clear_value x; revert x; intro _ _)
    | (extract_lets +onlyGivenNames x; refine Frame.cutG (W := W) (s0 := s0) x ?_ ?_; unfold x; clear x; rotate_left; clear_value x; revert x; intro _ _)
    | (extract_lets +onlyGivenNames x; refine Frame.cutN (W := W) (s0 := s0) x ?_ ?_; unfold x; clear x; rotate_left; clear_value x; revert x; intro _ _)
    | (extract_lets +onlyGivenNames x; refine Frame.cutH (W := W) (s0 := s0) x ?_ ?_; unfold x; clear x; rotate_left; clear_value x; revert x; intro _ _)
    | (extract_lets +onlyGivenNames x; refine Frame.cutI (W := W) (s0 := s0) x ?_ ?_; unfold x; clear x; rotate_left; clear_value x; revert x; intro _ _)
    | (extract_lets +onlyGivenNames x; clear_value x; revert x; intro _)
    | with_reducible refine State.set_frame (F.PACE_HUBFW_STATUS_state_kind) b88 ?_
    | with_reducible refine State.paceCmd_frame w1 ?_ ?_
    | with_reducible refine State.keepWrite_frame w2 ?_ ?_
    | exact ⟨Nat.le_refl _, Nat.le_refl _, Nat.le_refl _, Nat.le_refl _⟩
    | exact ⟨Nat.sub_le _ _, Nat.le_refl _, Nat.le_refl _, Nat.le_refl _⟩
    | exact ⟨Nat.le_refl _, Nat.le_refl _, Nat.le_refl _, Nat.sub_le _ _⟩
    | exact ⟨Nat.le_refl _, Nat.le_refl _, Nat.sub_le _ _, Nat.le_refl _⟩
    | with_reducible refine State.raise_frame w3 ?_
    | with_reducible refine Frame.ite ?_ ?_
    | with_reducible refine Frame.foldl ?_ _ _ ?_
    | split
    | with_reducible refine Frame.of_snd (by with_reducible assumption) ?_
    | with_reducible refine Frame.of_fst (by with_reducible assumption) ?_
    | solve_by_elim

def execStandbyExpired_mask : Nat := 0x800000000005000000000000000000000000000000000010000000000000000008000
theorem execStandbyExpired_frame {s nx : State} (e : execStandbyExpired s = .next nx) : Frame execStandbyExpired_mask s nx := by
  refine State.run_frame rfl (fun W s0 s hW h => ?_) e
  have b88 := hW.bit (n := 88) (by decide)
  repeat' first
    | intro _
    | with_reducible assumption
    | (extract_lets +onlyGivenNames x; refine Frame.cut (W := W) (s0 := s0) x ?_ ?_; unfold x; clear x; rotate_left; clear_value x; revert x; intro _ _)
    | (extract_lets +onlyGivenNames x; clear_value x; revert x; intro _)
    | with_reducible refine State.set_frame (F.PACE_HUBFW_STATUS_standby_s_kind) b88 ?_
    | with_reducible refine State.set_frame (F.PACE_HUBFW_STATUS_state_kind) b88 ?_
    | with_reducible refine Frame.ite ?_ ?_
    | with_reducible refine Frame.foldl ?_ _ _ ?_
    | split
    | with_reducible refine Frame.of_snd (by with_reducible assumption) ?_
    | with_reducible refine Frame.of_fst (by with_reducible assumption) ?_

def execHandoverFailed_mask : Nat := 0x6020000000000000800000000005000000000000000000000000000000000010000020000000022008020
theorem execHandoverFailed_frame {s nx : State} (e : execHandoverFailed s = .next nx) : Frame execHandoverFailed_mask s nx := by
  refine State.run_frame rfl (fun W s0 s hW h => ?_) e
  have b5 := hW.bit (n := 5) (by decide)
  have b88 := hW.bit (n := 88) (by decide)
  have b65 := hW.bit (n := 65) (by decide)
  have w3 := Within.trans (a := State.raise_mask) rfl hW
  repeat' first
    | intro _
    | with_reducible assumption
    | (extract_lets +onlyGivenNames x; refine Frame.cut (W := W) (s0 := s0) x ?_ ?_; unfold x; clear x; rotate_left; clear_value x; revert x; intro _ _)
    | (extract_lets +onlyGivenNames x; clear_value x; revert x; intro _)
    | with_reducible refine State.set_frame (F.PACE_HUBFW_STATUS_standby_s_kind) b88 ?_
    | with_reducible refine State.set_frame (F.PACE_HUBFW_STATUS_trial_kind) b88 ?_
    | with_reducible refine State.set_frame (F.PACE_HUBFW_STATUS_active_slot_kind) b88 ?_
    | with_reducible refine State.set_frame (F.KEEP_STATUS_fw_slot_kind) b65 ?_
    | with_reducible refine State.set_frame (F.PACE_HUBFW_STATUS_state_kind) b88 ?_
    | with_reducible refine State.raise_frame w3 ?_
    | with_reducible refine Frame.ite ?_ ?_
    | with_reducible refine Frame.foldl ?_ _ _ ?_
    | split
    | with_reducible refine Frame.of_snd (by with_reducible assumption) ?_
    | with_reducible refine Frame.of_fst (by with_reducible assumption) ?_
    | with_reducible refine Frame.boot_upd b5 ?_

def execMetronomeUnlocked_mask : Nat := 0x6020000000000000800000000005000000000000000000000000000000000000004000000000022008000
theorem execMetronomeUnlocked_frame {s nx : State} {locked : Bool} {cause : BitVec 32} (e : execMetronomeUnlocked locked cause s = .next nx) : Frame execMetronomeUnlocked_mask s nx := by
  refine State.run_frame rfl (fun W s0 s hW h => ?_) e
  have b74 := hW.bit (n := 74) (by decide)
  have w1 := Within.trans (a := State.raise_mask) rfl hW
  repeat' first
    | intro _
    | with_reducible assumption
    | (extract_lets +onlyGivenNames x; refine Frame.cut (W := W) (s0 := s0) x ?_ ?_; unfold x; clear x; rotate_left; clear_value x; revert x; intro _ _)
    | (extract_lets +onlyGivenNames x; clear_value x; revert x; intro _)
    | with_reducible refine State.setB_frame (F.PACE_STATUS_metronome_lock_kind) b74 ?_
    | with_reducible refine State.raise_frame w1 ?_
    | with_reducible refine Frame.ite ?_ ?_
    | with_reducible refine Frame.foldl ?_ _ _ ?_
    | split
    | with_reducible refine Frame.of_snd (by with_reducible assumption) ?_
    | with_reducible refine Frame.of_fst (by with_reducible assumption) ?_

def State.landVoltage_mask : Nat := 0x6020000000000000000000000000000000000000000000000000000000000000200000000000022000040
theorem State.landVoltage_frame {W : Nat} {s0 s : State} (hW : Within State.landVoltage_mask W) (h : Frame W s0 s) :
    Frame W s0 (State.landVoltage s) := by
  have b6 := hW.bit (n := 6) (by decide)
  have b81 := hW.bit (n := 81) (by decide)
  have w2 := Within.trans (a := State.raise_mask) rfl hW
  unfold State.landVoltage
  repeat' first
    | intro _
    | with_reducible assumption
    | (extract_lets +onlyGivenNames x; refine Frame.cut (W := W) (s0 := s0) x ?_ ?_; unfold x; clear x; rotate_left; clear_value x; revert x; intro _ _)
    | (extract_lets +onlyGivenNames x; clear_value x; revert x; intro _)
    | with_reducible refine State.setB_frame (F.PACE_DIE_at_ceiling_kind _) b81 ?_
    | with_reducible refine State.set_frame (F.PACE_DIE_voltage_kind _) b81 ?_
    | with_reducible refine State.each_frame ?_ ?_
    | with_reducible refine State.raise_frame w2 ?_
    | with_reducible refine Frame.ite ?_ ?_
    | with_reducible refine Frame.foldl ?_ _ _ ?_
    | split
    | with_reducible refine Frame.of_snd (by with_reducible assumption) ?_
    | with_reducible refine Frame.of_fst (by with_reducible assumption) ?_
    | with_reducible refine Frame.snd_mk ?_
    | with_reducible refine Frame.fst_mk ?_
    | with_reducible refine Frame.pace_upd b6 ?_

def State.showReduced_mask : Nat := 0x6020000000000000000000000000000000000000000000000000000000000000004000000000022000000
theorem State.showReduced_frame {W : Nat} {s0 s : State} (hW : Within State.showReduced_mask W) (h : Frame W s0 s) :
    Frame W s0 (State.showReduced s) := by
  have b74 := hW.bit (n := 74) (by decide)
  have w1 := Within.trans (a := State.fireAll_mask) rfl hW
  have w2 := Within.trans (a := State.raise_mask) rfl hW
  unfold State.showReduced
  repeat' first
    | intro _
    | with_reducible assumption
    | (extract_lets +onlyGivenNames x; refine Frame.cut (W := W) (s0 := s0) x ?_ ?_; unfold x; clear x; rotate_left; clear_value x; revert x; intro _ _)
    | (extract_lets +onlyGivenNames x; clear_value x; revert x; intro _)
    | with_reducible refine State.set_frame (F.PACE_STATUS_reduced_rating_kind) b74 ?_
    | with_reducible refine State.fireAll_frame w1 ?_
    | with_reducible refine State.raise_frame w2 ?_
    | with_reducible refine Frame.ite ?_ ?_
    | with_reducible refine Frame.foldl ?_ _ _ ?_
    | split
    | with_reducible refine Frame.of_snd (by with_reducible assumption) ?_
    | with_reducible refine Frame.of_fst (by with_reducible assumption) ?_
    | with_reducible refine Frame.snd_mk ?_
    | with_reducible refine Frame.fst_mk ?_

def State.setDerate_mask : Nat := 0x6020000000000000000000000000000000000000000000000000000000000000004000008000022000002
theorem State.setDerate_frame {W : Nat} {s0 s : State} {r : Nat} (hW : Within State.setDerate_mask W) (h : Frame W s0 s) :
    Frame W s0 (State.setDerate s r) := by
  have b74 := hW.bit (n := 74) (by decide)
  have b51 := hW.bit (n := 51) (by decide)
  have w0 := Within.trans (a := State.raise_mask) rfl hW
  have b1 := hW.bit (n := 1) (by decide)
  unfold State.setDerate
  repeat' first
    | intro _
    | with_reducible assumption
    | (extract_lets +onlyGivenNames x; refine Frame.cut (W := W) (s0 := s0) x ?_ ?_; unfold x; clear x; rotate_left; clear_value x; revert x; intro _ _)
    | (extract_lets +onlyGivenNames x; clear_value x; revert x; intro _)
    | with_reducible refine State.set_frame (F.PACE_STATUS_derated_kind) b74 ?_
    | with_reducible refine State.set_frame (F.CAP_BOARD_STATUS_derated_kind) b51 ?_
    | with_reducible refine State.set_frame (F.PACE_STATUS_pace_kind) b74 ?_
    | with_reducible refine State.raise_frame w0 ?_
    | with_reducible refine Frame.ite ?_ ?_
    | with_reducible refine Frame.foldl ?_ _ _ ?_
    | split
    | with_reducible refine Frame.of_snd (by with_reducible assumption) ?_
    | with_reducible refine Frame.of_fst (by with_reducible assumption) ?_
    | with_reducible refine Frame.snd_mk ?_
    | with_reducible refine Frame.fst_mk ?_
    | with_reducible refine Frame.board_upd b1 ?_

def State.landDerate_mask : Nat := 0x6020000000000000000000000000000000000000000000000000000000000000004000008000022000002
theorem State.landDerate_frame {W : Nat} {s0 s : State} (hW : Within State.landDerate_mask W) (h : Frame W s0 s) :
    Frame W s0 (State.landDerate s) := by
  have w0 := Within.trans (a := State.setDerate_mask) rfl hW
  have b1 := hW.bit (n := 1) (by decide)
  unfold State.landDerate
  repeat' first
    | intro _
    | with_reducible assumption
    | (extract_lets +onlyGivenNames x; refine Frame.cut (W := W) (s0 := s0) x ?_ ?_; unfold x; clear x; rotate_left; clear_value x; revert x; intro _ _)
    | (extract_lets +onlyGivenNames x; clear_value x; revert x; intro _)
    | with_reducible refine State.setDerate_frame w0 ?_
    | with_reducible refine Frame.ite ?_ ?_
    | with_reducible refine Frame.foldl ?_ _ _ ?_
    | split
    | with_reducible refine Frame.of_snd (by with_reducible assumption) ?_
    | with_reducible refine Frame.of_fst (by with_reducible assumption) ?_
    | with_reducible refine Frame.snd_mk ?_
    | with_reducible refine Frame.fst_mk ?_
    | with_reducible refine Frame.board_upd b1 ?_

def State.landPace_mask : Nat := 0x6020000000000000000000000000000000000000000000000000000060000000044000008000022000242
theorem State.landPace_frame {W : Nat} {s0 s : State} (hW : Within State.landPace_mask W) (h : Frame W s0 s) :
    Frame W s0 (State.landPace s) := by
  have b74 := hW.bit (n := 74) (by decide)
  have b78 := hW.bit (n := 78) (by decide)
  have w0 := Within.trans (a := State.showReduced_mask) rfl hW
  have w1 := Within.trans (a := State.raise_mask) rfl hW
  have w2 := Within.trans (a := State.landDerate_mask) rfl hW
  have w3 := Within.trans (a := State.clearBaseline_mask) rfl hW
  have b6 := hW.bit (n := 6) (by decide)
  unfold State.landPace
  repeat' first
    | intro _
    | with_reducible assumption
    | (extract_lets +onlyGivenNames x; refine Frame.cut (W := W) (s0 := s0) x ?_ ?_; unfold x; clear x; rotate_left; clear_value x; revert x; intro _ _)
    | (extract_lets +onlyGivenNames x; clear_value x; revert x; intro _)
    | with_reducible refine State.set_frame (F.PACE_STATUS_planned_pace_kind) b74 ?_
    | with_reducible refine State.set_frame (F.PACE_PLAN_STATUS_proposal_pending_kind) b78 ?_
    | with_reducible refine State.set_frame (F.PACE_PLAN_STATUS_proposed_pace_kind) b78 ?_
    | with_reducible refine State.set_frame (F.PACE_STATUS_pace_kind) b74 ?_
    | with_reducible refine State.showReduced_frame w0 ?_
    | with_reducible refine State.raise_frame w1 ?_
    | with_reducible refine State.landDerate_frame w2 ?_
    | with_reducible refine State.clearBaseline_frame w3 ?_
    | with_reducible refine State.each_frame ?_ ?_
    | with_reducible refine Frame.ite ?_ ?_
    | with_reducible refine Frame.foldl ?_ _ _ ?_
    | split
    | with_reducible refine Frame.of_snd (by with_reducible assumption) ?_
    | with_reducible refine Frame.of_fst (by with_reducible assumption) ?_
    | with_reducible refine Frame.snd_mk ?_
    | with_reducible refine Frame.fst_mk ?_
    | with_reducible refine Frame.pace_upd b6 ?_

end Sys2Proof.Machine
end

