-- ==== Sys2Proof/Laws/Scrub.lean ====
section
/-! SUPPORT. What the operations of Machine/Scrub.lean change: each differs from its argument in the areas of its mask alone. -/

set_option linter.all false

namespace Sys2Proof.Machine

def State.scrubSram_mask : Nat := 0x2d800000060201f000060000118000000000000100000000000000000000000000000000000000000000002258c380
theorem State.scrubSram_frame {W : Nat} {s0 s : State} {a : Nat} {found : Option BadLine} (hW : Within State.scrubSram_mask W) (h : Frame W s0 s) :
    Frame W s0 (State.scrubSram s a found) := by
  have b20 := hW.bit (n := 20) (by decide)
  have b22 := hW.bit (n := 22) (by decide)
  have w2 := Within.trans (a := State.noteCorrected_mask) rfl hW
  have w3 := Within.trans (a := State.noteUncorrected_mask) rfl hW
  unfold State.scrubSram
  repeat' first
    | intro _
    | with_reducible assumption
    | (extract_lets +onlyGivenNames x; refine Frame.cut (W := W) (s0 := s0) x ?_ ?_; unfold x; clear x; rotate_left; clear_value x; revert x; intro _ _)
    | (extract_lets +onlyGivenNames x; clear_value x; revert x; intro _)
    | with_reducible refine State.putBytes_frame b22 ?_
    | with_reducible refine State.noteCorrected_frame w2 ?_
    | with_reducible refine State.noteUncorrected_frame w3 ?_
    | with_reducible refine Frame.ite ?_ ?_
    | with_reducible refine Frame.foldl ?_ _ _ ?_
    | split
    | with_reducible refine Frame.of_snd (by with_reducible assumption) ?_
    | with_reducible refine Frame.of_fst (by with_reducible assumption) ?_
    | with_reducible refine Frame.snd_mk ?_
    | with_reducible refine Frame.fst_mk ?_
    | with_reducible refine Frame.integ_upd b20 ?_

def State.poisonLine_mask : Nat := 0x6020000001400100000000000000000000000000000000000000000000000000000000000002022100000
theorem State.poisonLine_frame {W : Nat} {s0 s : State} {l : Nat} (hW : Within State.poisonLine_mask W) (h : Frame W s0 s) :
    Frame W s0 (State.poisonLine s l) := by
  have b20 := hW.bit (n := 20) (by decide)
  have b298 := hW.bit (n := 298) (by decide)
  have b284 := hW.bit (n := 284) (by decide)
  have b300 := hW.bit (n := 300) (by decide)
  have w4 := Within.trans (a := State.retirePage_mask) rfl hW
  have w5 := Within.trans (a := State.raise_mask) rfl hW
  unfold State.poisonLine
  repeat' first
    | intro _
    | with_reducible assumption
    | (extract_lets +onlyGivenNames x; refine Frame.cut (W := W) (s0 := s0) x ?_ ?_; unfold x; clear x; rotate_left; clear_value x; revert x; intro _ _)
    | (extract_lets +onlyGivenNames x; clear_value x; revert x; intro _)
    | with_reducible refine State.inc_frame (F.INTEG_ERR_UNCORR_count_kind _) b298 ?_
    | with_reducible refine State.set_frame (F.INTEG_STATUS_poison_full_kind) b284 ?_
    | with_reducible refine State.set_frame (F.INTEG_HBM_poisoned_kind) b300 ?_
    | with_reducible refine State.retirePage_frame w4 ?_
    | with_reducible refine State.raise_frame w5 ?_
    | with_reducible refine Frame.ite ?_ ?_
    | with_reducible refine Frame.foldl ?_ _ _ ?_
    | split
    | with_reducible refine Frame.of_snd (by with_reducible assumption) ?_
    | with_reducible refine Frame.of_fst (by with_reducible assumption) ?_
    | with_reducible refine Frame.snd_mk ?_
    | with_reducible refine Frame.fst_mk ?_
    | with_reducible refine Frame.integ_upd b20 ?_

def State.scrubHbm_mask : Nat := 0x6020000001e00100000000000000000000000000000000000000000000000000000000000002022100000
theorem State.scrubHbm_frame {W : Nat} {s0 s : State} {l : Nat} {how : Nat} (hW : Within State.scrubHbm_mask W) (h : Frame W s0 s) :
    Frame W s0 (State.scrubHbm s l how) := by
  have b299 := hW.bit (n := 299) (by decide)
  have b297 := hW.bit (n := 297) (by decide)
  have w2 := Within.trans (a := State.raise_mask) rfl hW
  have w3 := Within.trans (a := State.poisonLine_mask) rfl hW
  unfold State.scrubHbm
  repeat' first
    | intro _
    | with_reducible assumption
    | (extract_lets +onlyGivenNames x; refine Frame.cut (W := W) (s0 := s0) x ?_ ?_; unfold x; clear x; rotate_left; clear_value x; revert x; intro _ _)
    | (extract_lets +onlyGivenNames x; refine Frame.cutF (W := W) (s0 := s0) x ?_ ?_; unfold x; clear x; rotate_left; clear_value x; revert x; intro _ _)
    | (extract_lets +onlyGivenNames x; refine Frame.cutG (W := W) (s0 := s0) x ?_ ?_; unfold x; clear x; rotate_left; clear_value x; revert x; intro _ _)
    | (extract_lets +onlyGivenNames x; refine Frame.cutN (W := W) (s0 := s0) x ?_ ?_; unfold x; clear x; rotate_left; clear_value x; revert x; intro _ _)
    | (extract_lets +onlyGivenNames x; refine Frame.cutH (W := W) (s0 := s0) x ?_ ?_; unfold x; clear x; rotate_left; clear_value x; revert x; intro _ _)
    | (extract_lets +onlyGivenNames x; refine Frame.cutI (W := W) (s0 := s0) x ?_ ?_; unfold x; clear x; rotate_left; clear_value x; revert x; intro _ _)
    | (extract_lets +onlyGivenNames x; clear_value x; revert x; intro _)
    | with_reducible refine State.inc_frame (F.INTEG_ERR_RETRY_refetches_kind _) b299 ?_
    | with_reducible refine State.inc_frame (F.INTEG_ERR_CORR_count_kind _) b297 ?_
    | with_reducible refine State.raise_frame w2 ?_
    | with_reducible refine State.poisonLine_frame w3 ?_
    | with_reducible refine Frame.ite ?_ ?_
    | with_reducible refine Frame.foldl ?_ _ _ ?_
    | split
    | with_reducible refine Frame.of_snd (by with_reducible assumption) ?_
    | with_reducible refine Frame.of_fst (by with_reducible assumption) ?_
    | with_reducible refine Frame.snd_mk ?_
    | with_reducible refine Frame.fst_mk ?_
    | solve_by_elim

def State.lapStep_mask : Nat := 0x6020000000180000000000000000000000000000000000000000000000000000000000000000022100000
theorem State.lapStep_frame {W : Nat} {s0 s : State} {kind : Nat} {line : Nat} (hW : Within State.lapStep_mask W) (h : Frame W s0 s) :
    Frame W s0 (State.lapStep s kind line) := by
  have b20 := hW.bit (n := 20) (by decide)
  have b296 := hW.bit (n := 296) (by decide)
  have b295 := hW.bit (n := 295) (by decide)
  have w3 := Within.trans (a := State.raise_mask) rfl hW
  unfold State.lapStep
  repeat' first
    | intro _
    | with_reducible assumption
    | (extract_lets +onlyGivenNames x; refine Frame.cut (W := W) (s0 := s0) x ?_ ?_; unfold x; clear x; rotate_left; clear_value x; revert x; intro _ _)
    | (extract_lets +onlyGivenNames x; clear_value x; revert x; intro _)
    | with_reducible refine State.inc_frame (F.INTEG_SCRUB_LAPS_count_kind _) b296 ?_
    | with_reducible refine State.set_frame (F.INTEG_SCRUB_LAP_ms_kind _) b295 ?_
    | with_reducible refine State.raise_frame w3 ?_
    | with_reducible refine Frame.ite ?_ ?_
    | with_reducible refine Frame.foldl ?_ _ _ ?_
    | split
    | with_reducible refine Frame.of_snd (by with_reducible assumption) ?_
    | with_reducible refine Frame.of_fst (by with_reducible assumption) ?_
    | with_reducible refine Frame.snd_mk ?_
    | with_reducible refine Frame.fst_mk ?_
    | with_reducible refine Frame.integ_upd b20 ?_

def execScrubRead_mask : Nat := 0x2d800000060201f0001f8010198000000000500100000000000000000000000000000000000000000000202258c380
theorem execScrubRead_frame {s nx : State} {kind : Fin 4} {line : BitVec 32} {found : Option BadLine} {hbm : Fin 5} (e : execScrubRead kind line found hbm s = .next nx) : Frame execScrubRead_mask s nx := by
  refine State.run_frame rfl (fun W s0 s hW h => ?_) e
  have w0 := Within.trans (a := State.lapStep_mask) rfl hW
  have w1 := Within.trans (a := State.scrubHbm_mask) rfl hW
  have w2 := Within.trans (a := State.scrubSram_mask) rfl hW
  repeat' first
    | intro _
    | with_reducible assumption
    | (extract_lets +onlyGivenNames x; refine Frame.cut (W := W) (s0 := s0) x ?_ ?_; unfold x; clear x; rotate_left; clear_value x; revert x; intro _ _)
    | (extract_lets +onlyGivenNames x; clear_value x; revert x; intro _)
    | with_reducible refine State.lapStep_frame w0 ?_
    | with_reducible refine State.scrubHbm_frame w1 ?_
    | with_reducible refine State.scrubSram_frame w2 ?_
    | with_reducible refine Frame.ite ?_ ?_
    | with_reducible refine Frame.foldl ?_ _ _ ?_
    | split
    | with_reducible refine Frame.of_snd (by with_reducible assumption) ?_
    | with_reducible refine Frame.of_fst (by with_reducible assumption) ?_
    | with_reducible refine Frame.snd_mk ?_
    | with_reducible refine Frame.fst_mk ?_

def execScrubWriteBack_mask : Nat := 0x800000000005000000000000000000000000000000000000000000000000000108000
theorem execScrubWriteBack_frame {s nx : State} {kind : Fin 3} {line : BitVec 32} {accessed : Bool} (e : execScrubWriteBack kind line accessed s = .next nx) : Frame execScrubWriteBack_mask s nx := by
  refine State.run_frame rfl (fun W s0 s hW h => ?_) e
  have b20 := hW.bit (n := 20) (by decide)
  repeat' first
    | intro _
    | with_reducible assumption
    | (extract_lets +onlyGivenNames x; refine Frame.cut (W := W) (s0 := s0) x ?_ ?_; unfold x; clear x; rotate_left; clear_value x; revert x; intro _ _)
    | (extract_lets +onlyGivenNames x; clear_value x; revert x; intro _)
    | with_reducible refine Frame.ite ?_ ?_
    | with_reducible refine Frame.foldl ?_ _ _ ?_
    | split
    | with_reducible refine Frame.of_snd (by with_reducible assumption) ?_
    | with_reducible refine Frame.of_fst (by with_reducible assumption) ?_
    | with_reducible refine Frame.integ_upd b20 ?_

def State.tripWrite_mask : Nat := 0x18000000000000000000000000000000000000000000000000000000000000000000000000000000000
theorem State.tripWrite_frame {W : Nat} {s0 s : State} {w : Nat} {v : Nat} (hW : Within State.tripWrite_mask W) (h : Frame W s0 s) :
    Frame W s0 (State.tripWrite s w v) := by
  have b327 := hW.bit (n := 327) (by decide)
  have b328 := hW.bit (n := 328) (by decide)
  unfold State.tripWrite
  repeat' first
    | intro _
    | with_reducible assumption
    | (extract_lets +onlyGivenNames x; refine Frame.cut (W := W) (s0 := s0) x ?_ ?_; unfold x; clear x; rotate_left; clear_value x; revert x; intro _ _)
    | (extract_lets +onlyGivenNames x; clear_value x; revert x; intro _)
    | with_reducible refine State.set_frame (F.INTEG_TRIP_value_kind _) b327 ?_
    | with_reducible refine State.set_frame (F.INTEG_TRIP_COPY_word_kind _ _) b328 ?_
    | with_reducible refine State.each_frame ?_ ?_
    | with_reducible refine Frame.ite ?_ ?_
    | with_reducible refine Frame.foldl ?_ _ _ ?_
    | split
    | with_reducible refine Frame.of_snd (by with_reducible assumption) ?_
    | with_reducible refine Frame.of_fst (by with_reducible assumption) ?_
    | with_reducible refine Frame.snd_mk ?_
    | with_reducible refine Frame.fst_mk ?_

def State.voteWord_mask : Nat := 0x603c00000000000118000000000000100000000000000000000000000000000000000000000002218c000
theorem State.voteWord_frame {W : Nat} {s0 s : State} {w : Nat} (hW : Within State.voteWord_mask W) (h : Frame W s0 s) :
    Frame W s0 (State.voteWord s w) := by
  have b20 := hW.bit (n := 20) (by decide)
  have b326 := hW.bit (n := 326) (by decide)
  have b327 := hW.bit (n := 327) (by decide)
  have b328 := hW.bit (n := 328) (by decide)
  have w4 := Within.trans (a := State.raise_mask) rfl hW
  have w5 := Within.trans (a := State.enterSafe_mask) rfl hW
  unfold State.voteWord
  repeat' first
    | intro _
    | with_reducible assumption
    | (extract_lets +onlyGivenNames x; refine Frame.cut (W := W) (s0 := s0) x ?_ ?_; unfold x; clear x; rotate_left; clear_value x; revert x; intro _ _)
    | (extract_lets +onlyGivenNames x; clear_value x; revert x; intro _)
    | with_reducible refine State.inc_frame (F.INTEG_TRIP_STATUS_repaired_kind) b326 ?_
    | with_reducible refine State.set_frame (F.INTEG_TRIP_value_kind _) b327 ?_
    | with_reducible refine State.set_frame (F.INTEG_TRIP_COPY_word_kind _ _) b328 ?_
    | with_reducible refine State.inc_frame (F.INTEG_TRIP_STATUS_disagree_kind) b326 ?_
    | with_reducible refine State.raise_frame w4 ?_
    | with_reducible refine State.enterSafe_frame w5 ?_
    | with_reducible refine Frame.ite ?_ ?_
    | with_reducible refine Frame.foldl ?_ _ _ ?_
    | split
    | with_reducible refine Frame.of_snd (by with_reducible assumption) ?_
    | with_reducible refine Frame.of_fst (by with_reducible assumption) ?_
    | with_reducible refine Frame.snd_mk ?_
    | with_reducible refine Frame.fst_mk ?_
    | with_reducible refine Frame.integ_upd b20 ?_

def execTripleVote_mask : Nat := 0x603c00000000000198000000000500100000000000000000000000000000000000000000000002218c000
theorem execTripleVote_frame {s nx : State} {upsets : List (Fin 3 × Fin 256 × Word)} (e : execTripleVote upsets s = .next nx) : Frame execTripleVote_mask s nx := by
  refine State.run_frame rfl (fun W s0 s hW h => ?_) e
  have b328 := hW.bit (n := 328) (by decide)
  have w1 := Within.trans (a := State.voteWord_mask) rfl hW
  repeat' first
    | intro _
    | with_reducible assumption
    | (extract_lets +onlyGivenNames x; refine Frame.cut (W := W) (s0 := s0) x ?_ ?_; unfold x; clear x; rotate_left; clear_value x; revert x; intro _ _)
    | (extract_lets +onlyGivenNames x; clear_value x; revert x; intro _)
    | with_reducible refine State.set_frame (F.INTEG_TRIP_COPY_word_kind _ _) b328 ?_
    | with_reducible refine State.each_frame ?_ ?_
    | with_reducible refine State.voteWord_frame w1 ?_
    | with_reducible refine Frame.ite ?_ ?_
    | with_reducible refine Frame.foldl ?_ _ _ ?_
    | split
    | with_reducible refine Frame.of_snd (by with_reducible assumption) ?_
    | with_reducible refine Frame.of_fst (by with_reducible assumption) ?_

def State.fixTriples_mask : Nat := 0x18000000000000000000000000000000000000000000000000000000000000000000000000001100000
theorem State.fixTriples_frame {W : Nat} {s0 s : State} (hW : Within State.fixTriples_mask W) (h : Frame W s0 s) :
    Frame W s0 (State.fixTriples s) := by
  have b20 := hW.bit (n := 20) (by decide)
  have w1 := Within.trans (a := State.draw_mask) rfl hW
  have w2 := Within.trans (a := State.tripWrite_mask) rfl hW
  unfold State.fixTriples
  repeat' first
    | intro _
    | with_reducible assumption
    | (extract_lets +onlyGivenNames x; refine Frame.cut (W := W) (s0 := s0) x ?_ ?_; unfold x; clear x; rotate_left; clear_value x; revert x; intro _ _)
    | (extract_lets +onlyGivenNames x; clear_value x; revert x; intro _)
    | with_reducible refine State.each_frame ?_ ?_
    | with_reducible refine State.draw_snd w1 ?_
    | with_reducible refine State.tripWrite_frame w2 ?_
    | with_reducible refine Frame.ite ?_ ?_
    | with_reducible refine Frame.foldl ?_ _ _ ?_
    | split
    | with_reducible refine State.draw_frame (by with_reducible assumption) w1 ?_
    | with_reducible refine Frame.of_snd (by with_reducible assumption) ?_
    | with_reducible refine Frame.of_fst (by with_reducible assumption) ?_
    | with_reducible refine Frame.snd_mk ?_
    | with_reducible refine Frame.fst_mk ?_
    | with_reducible refine Frame.integ_upd b20 ?_

def State.integStatus_mask : Nat := 0x400000000000000000000000000000000000000000000000000000000000000000000000
theorem State.integStatus_frame {W : Nat} {s0 s : State} {i : Port} {code : Nat} {reason : Nat} (hW : Within State.integStatus_mask W) (h : Frame W s0 s) :
    Frame W s0 (State.integStatus s i code reason) := by
  have b286 := hW.bit (n := 286) (by decide)
  unfold State.integStatus
  repeat' first
    | intro _
    | with_reducible assumption
    | (extract_lets +onlyGivenNames x; refine Frame.cut (W := W) (s0 := s0) x ?_ ?_; unfold x; clear x; rotate_left; clear_value x; revert x; intro _ _)
    | (extract_lets +onlyGivenNames x; clear_value x; revert x; intro _)
    | with_reducible refine State.set_frame (F.INTEG_CMD_STATUS_reason_kind _) b286 ?_
    | with_reducible refine State.set_frame (F.INTEG_CMD_STATUS_code_kind _) b286 ?_
    | with_reducible refine Frame.ite ?_ ?_
    | with_reducible refine Frame.foldl ?_ _ _ ?_
    | split
    | with_reducible refine Frame.of_snd (by with_reducible assumption) ?_
    | with_reducible refine Frame.of_fst (by with_reducible assumption) ?_
    | with_reducible refine Frame.snd_mk ?_
    | with_reducible refine Frame.fst_mk ?_

def State.integCmd_mask : Nat := 0x6020000000000400000000000000000000000000000000000000000000000000000000000000022000000
theorem State.integCmd_frame {W : Nat} {s0 s : State} {i : Port} {f : State → State} (hW : Within State.integCmd_mask W) (hf_f : ∀ s, Frame W s0 s → Frame W s0 (f s)) (h : Frame W s0 s) :
    Frame W s0 (State.integCmd s i f) := by
  have w0 := Within.trans (a := State.integStatus_mask) rfl hW
  have w1 := Within.trans (a := State.raise_mask) rfl hW
  unfold State.integCmd
  repeat' first
    | intro _
    | with_reducible assumption
    | (extract_lets +onlyGivenNames x; refine Frame.cut (W := W) (s0 := s0) x ?_ ?_; unfold x; clear x; rotate_left; clear_value x; revert x; intro _ _)
    | (extract_lets +onlyGivenNames x; clear_value x; revert x; intro _)
    | with_reducible refine State.integStatus_frame w0 ?_
    | with_reducible refine State.raise_frame w1 ?_
    | with_reducible refine Frame.ite ?_ ?_
    | with_reducible apply hf_f
    | with_reducible refine Frame.foldl ?_ _ _ ?_
    | split
    | with_reducible refine Frame.of_snd (by with_reducible assumption) ?_
    | with_reducible refine Frame.of_fst (by with_reducible assumption) ?_
    | with_reducible refine Frame.snd_mk ?_
    | with_reducible refine Frame.fst_mk ?_

def execTraceSet_mask : Nat := 0x6020000000000500800000000005000000000000000000000000000000000000000000000000022108000
theorem execTraceSet_frame {s nx : State} {i : Port} {level : BitVec 2} {parts : BitVec 8} (e : execTraceSet i level parts s = .next nx) : Frame execTraceSet_mask s nx := by
  refine State.run_frame rfl (fun W s0 s hW h => ?_) e
  have b20 := hW.bit (n := 20) (by decide)
  have b284 := hW.bit (n := 284) (by decide)
  have w2 := Within.trans (a := State.integCmd_mask) rfl hW
  have w3 := Within.trans (a := State.integStatus_mask) rfl hW
  have w4 := Within.trans (a := State.raise_mask) rfl hW
  repeat' first
    | intro _
    | with_reducible assumption
    | (extract_lets +onlyGivenNames x; refine Frame.cut (W := W) (s0 := s0) x ?_ ?_; unfold x; clear x; rotate_left; clear_value x; revert x; intro _ _)
    | (extract_lets +onlyGivenNames x; clear_value x; revert x; intro _)
    | with_reducible refine State.set_frame (F.INTEG_STATUS_trace_port_kind) b284 ?_
    | with_reducible refine State.set_frame (F.INTEG_STATUS_trace_level_kind) b284 ?_
    | with_reducible refine State.integCmd_frame w2 ?_ ?_
    | with_reducible refine State.integStatus_frame w3 ?_
    | with_reducible refine State.raise_frame w4 ?_
    | with_reducible refine Frame.ite ?_ ?_
    | with_reducible refine Frame.foldl ?_ _ _ ?_
    | split
    | with_reducible refine Frame.of_snd (by with_reducible assumption) ?_
    | with_reducible refine Frame.of_fst (by with_reducible assumption) ?_
    | with_reducible refine Frame.integ_upd b20 ?_

def execCaptureClear_mask : Nat := 0x6020010000000400800000000005000000000000000000000000000000000000000000000000022008000
theorem execCaptureClear_frame {s nx : State} {i : Port} (e : execCaptureClear i s = .next nx) : Frame execCaptureClear_mask s nx := by
  refine State.run_frame rfl (fun W s0 s hW h => ?_) e
  have b316 := hW.bit (n := 316) (by decide)
  have w1 := Within.trans (a := State.integCmd_mask) rfl hW
  have w2 := Within.trans (a := State.integStatus_mask) rfl hW
  repeat' first
    | intro _
    | with_reducible assumption
    | (extract_lets +onlyGivenNames x; refine Frame.cut (W := W) (s0 := s0) x ?_ ?_; unfold x; clear x; rotate_left; clear_value x; revert x; intro _ _)
    | (extract_lets +onlyGivenNames x; clear_value x; revert x; intro _)
    | with_reducible refine State.set_frame (F.INTEG_CAP_LOC_valid_kind) b316 ?_
    | with_reducible refine State.integCmd_frame w1 ?_ ?_
    | with_reducible refine State.integStatus_frame w2 ?_
    | with_reducible refine Frame.ite ?_ ?_
    | with_reducible refine Frame.foldl ?_ _ _ ?_
    | split
    | with_reducible refine Frame.of_snd (by with_reducible assumption) ?_
    | with_reducible refine Frame.of_fst (by with_reducible assumption) ?_

end Sys2Proof.Machine
end

