-- ==== Sys2Proof/Laws/Boot.lean ====
section
/-! SUPPORT. What the operations of Machine/Boot.lean change: each differs from its argument in the areas of its mask alone. -/

set_option linter.all false

namespace Sys2Proof.Machine

def State.readKeep_mask : Nat := 0x60200000000000000000000000000000000000000000000000000000000000000000000000000221000a8
theorem Keep.neverUp_spent (k old : Keep) : Keep.spent old (k.neverUp old) :=
  ⟨Nat.min_le_right _ _, Nat.le_max_right _ _, Nat.min_le_right _ _, Nat.min_le_right _ _⟩

theorem State.readKeep_frame {W : Nat} {s0 s : State} {torn : List (Nat × Nat)} (hW : Within State.readKeep_mask W) (h : Frame W s0 s) :
    Frame W s0 (s.readKeep torn) := by
  have b3 := hW.bit (n := 3) (by decide)
  have b5 := hW.bit (n := 5) (by decide)
  have b7 := hW.bit (n := 7) (by decide)
  have b20 := hW.bit (n := 20) (by decide)
  have w1 := Within.trans (a := State.raise_mask) rfl hW
  unfold State.readKeep
  refine State.each_frame h (fun s e h => ?_)
  dsimp only
  refine Frame.ite ?_ (Frame.ite (Frame.ite ?_ ?_) (Frame.ite ?_ h))
  · refine State.raise_frame w1 (Frame.keep_boot_upd b3 ?_ b5 h)
    split
    · exact Keep.neverUp_spent _ _
    · exact Keep.spent.refl _
  · exact State.raise_frame w1 (Frame.cores_upd b7 h)
  · exact State.raise_frame w1 h
  · exact Frame.integ_upd b20 h

def State.testKeep_mask : Nat := 0x6020000000000000000000000000000000000000000000000000000000000000000420000000022000000
theorem State.testKeep_frame {W : Nat} {s0 s : State} {r : BootReport} (hW : Within State.testKeep_mask W) (h : Frame W s0 s) :
    Frame W s0 (State.testKeep s r) := by
  have b65 := hW.bit (n := 65) (by decide)
  have b70 := hW.bit (n := 70) (by decide)
  have w0 := Within.trans (a := State.raise_mask) rfl hW
  unfold State.testKeep
  repeat' first
    | intro _
    | with_reducible assumption
    | (extract_lets +onlyGivenNames x; refine Frame.cut (W := W) (s0 := s0) x ?_ ?_; unfold x; clear x; rotate_left; clear_value x; revert x; intro _ _)
    | (extract_lets +onlyGivenNames x; clear_value x; revert x; intro _)
    | with_reducible refine State.set_frame (F.KEEP_STATUS_identity_kind) b65 ?_
    | with_reducible refine State.set_frame (F.KEEP_DEVICE_ID_word_kind _) b70 ?_
    | with_reducible refine State.setAll_cons ?_
    | with_reducible refine State.setAll_nil ?_
    | with_reducible refine State.raise_frame w0 ?_
    | with_reducible refine Frame.ite ?_ ?_
    | with_reducible refine Frame.foldl ?_ _ _ ?_
    | split
    | with_reducible refine Frame.of_snd (by with_reducible assumption) ?_
    | with_reducible refine Frame.of_fst (by with_reducible assumption) ?_
    | with_reducible refine Frame.snd_mk ?_
    | with_reducible refine Frame.fst_mk ?_

def State.runFirmware_mask : Nat := 0x6020000000000000000000000000000000000000000000000000000000000010000020000000022000028
theorem State.runFirmware_frame {W : Nat} {s0 s : State} {k : Nat} {fell : Bool} {tries : Nat} (hW : Within State.runFirmware_mask W) (h : Frame W s0 s) :
    Frame W s0 (State.runFirmware s k fell tries) := by
  have b5 := hW.bit (n := 5) (by decide)
  have b65 := hW.bit (n := 65) (by decide)
  have b88 := hW.bit (n := 88) (by decide)
  have w3 := Within.trans (a := State.raise_mask) rfl hW
  have w4 := Within.trans (a := State.keepWrite_mask) rfl hW
  unfold State.runFirmware
  repeat' first
    | intro _
    | with_reducible assumption
    | (extract_lets +onlyGivenNames x; refine Frame.cut (W := W) (s0 := s0) x ?_ ?_; unfold x; clear x; rotate_left; clear_value x; revert x; intro _ _)
    | (extract_lets +onlyGivenNames x; clear_value x; revert x; intro _)
    | with_reducible refine State.set_frame (F.KEEP_STATUS_fw_slot_kind) b65 ?_
    | with_reducible refine State.set_frame (F.KEEP_STATUS_fw_fallback_kind) b65 ?_
    | with_reducible refine State.set_frame (F.PACE_HUBFW_STATUS_active_slot_kind) b88 ?_
    | with_reducible refine State.set_frame (F.PACE_HUBFW_STATUS_trial_kind) b88 ?_
    | with_reducible refine State.raise_frame w3 ?_
    | with_reducible refine State.keepWrite_frame w4 ?_ ?_
    | exact ⟨Nat.le_refl _, Nat.le_refl _, Nat.le_refl _, Nat.le_refl _⟩
    | exact ⟨Nat.sub_le _ _, Nat.le_refl _, Nat.le_refl _, Nat.le_refl _⟩
    | exact ⟨Nat.le_refl _, Nat.le_refl _, Nat.le_refl _, Nat.sub_le _ _⟩
    | exact ⟨Nat.le_refl _, Nat.le_refl _, Nat.sub_le _ _, Nat.le_refl _⟩
    | with_reducible refine State.setAll_cons ?_
    | with_reducible refine State.setAll_nil ?_
    | with_reducible refine Frame.ite ?_ ?_
    | with_reducible refine Frame.foldl ?_ _ _ ?_
    | split
    | with_reducible refine Frame.of_snd (by with_reducible assumption) ?_
    | with_reducible refine Frame.of_fst (by with_reducible assumption) ?_
    | with_reducible refine Frame.snd_mk ?_
    | with_reducible refine Frame.fst_mk ?_
    | with_reducible refine Frame.boot_upd b5 ?_

def State.loadOverlay_mask : Nat := 0x8000000000000001
theorem State.loadOverlay_frame {W : Nat} {s0 s : State} {r : BootReport} {p : Nat} (hW : Within State.loadOverlay_mask W) (h : Frame W s0 s) :
    Frame W s0 (State.loadOverlay s r p) := by
  have b0 := hW.bit (n := 0) (by decide)
  have b63 := hW.bit (n := 63) (by decide)
  unfold State.loadOverlay
  repeat' first
    | intro _
    | with_reducible assumption
    | (extract_lets +onlyGivenNames x; refine Frame.cut (W := W) (s0 := s0) x ?_ ?_; unfold x; clear x; rotate_left; clear_value x; revert x; intro _ _)
    | (extract_lets +onlyGivenNames x; clear_value x; revert x; intro _)
    | with_reducible refine State.set_frame (F.ZLD_OVERLAY_present_kind _) b63 ?_
    | with_reducible refine State.set_frame (F.ZLD_OVERLAY_slot_kind _) b63 ?_
    | with_reducible refine State.set_frame (F.ZLD_OVERLAY_build_kind _) b63 ?_
    | with_reducible refine State.setAll_cons ?_
    | with_reducible refine State.setAll_nil ?_
    | with_reducible refine Frame.ite ?_ ?_
    | with_reducible refine Frame.foldl ?_ _ _ ?_
    | split
    | with_reducible refine Frame.of_snd (by with_reducible assumption) ?_
    | with_reducible refine Frame.of_fst (by with_reducible assumption) ?_
    | with_reducible refine Frame.snd_mk ?_
    | with_reducible refine Frame.fst_mk ?_
    | with_reducible refine Frame.cfg_upd b0 ?_

def State.runImage_mask : Nat := 0xf000000000000001
theorem State.runImage_frame {W : Nat} {s0 s : State} {r : BootReport} {k : Nat} {x : ImageFile} {c : Running} (hW : Within State.runImage_mask W) (h : Frame W s0 s) :
    Frame W s0 (State.runImage s r k x c) := by
  have b0 := hW.bit (n := 0) (by decide)
  have b60 := hW.bit (n := 60) (by decide)
  have b61 := hW.bit (n := 61) (by decide)
  have b62 := hW.bit (n := 62) (by decide)
  have w4 := Within.trans (a := State.loadOverlay_mask) rfl hW
  unfold State.runImage
  repeat' first
    | intro _
    | with_reducible assumption
    | (extract_lets +onlyGivenNames x; refine Frame.cut (W := W) (s0 := s0) x ?_ ?_; unfold x; clear x; rotate_left; clear_value x; revert x; intro _ _)
    | (extract_lets +onlyGivenNames x; clear_value x; revert x; intro _)
    | with_reducible refine State.set_frame (F.ZLD_ACTIVE_slot_kind) b60 ?_
    | with_reducible refine State.set_frame (F.ZLD_ACTIVE_upkeep_mode_kind) b60 ?_
    | with_reducible refine State.set_frame (F.ZLD_BUILD_build_kind) b61 ?_
    | with_reducible refine State.set_frame (F.ZLD_DIGEST_word_kind _) b62 ?_
    | with_reducible refine State.setAll_cons ?_
    | with_reducible refine State.setAll_nil ?_
    | with_reducible refine State.each_frame ?_ ?_
    | with_reducible refine State.loadOverlay_frame w4 ?_
    | with_reducible refine Frame.ite ?_ ?_
    | with_reducible refine Frame.foldl ?_ _ _ ?_
    | split
    | with_reducible refine Frame.of_snd (by with_reducible assumption) ?_
    | with_reducible refine Frame.of_fst (by with_reducible assumption) ?_
    | with_reducible refine Frame.snd_mk ?_
    | with_reducible refine Frame.fst_mk ?_
    | with_reducible refine Frame.cfg_upd b0 ?_

def State.holdFactory_mask : Nat := 0x602000000000000118000000000000100000000000000000000000000000000000000100000002208c001
theorem State.holdFactory_frame {W : Nat} {s0 s : State} {code : Nat} (hW : Within State.holdFactory_mask W) (h : Frame W s0 s) :
    Frame W s0 (State.holdFactory s code) := by
  have b0 := hW.bit (n := 0) (by decide)
  have b19 := hW.bit (n := 19) (by decide)
  have b60 := hW.bit (n := 60) (by decide)
  have w3 := Within.trans (a := State.enterSafeHeld_mask) rfl hW
  unfold State.holdFactory
  repeat' first
    | intro _
    | with_reducible assumption
    | (extract_lets +onlyGivenNames x; refine Frame.cut (W := W) (s0 := s0) x ?_ ?_; unfold x; clear x; rotate_left; clear_value x; revert x; intro _ _)
    | (extract_lets +onlyGivenNames x; clear_value x; revert x; intro _)
    | with_reducible refine State.set_frame (F.ZLD_ACTIVE_factory_structure_kind) b60 ?_
    | with_reducible refine State.enterSafeHeld_frame w3 ?_
    | with_reducible refine Frame.ite ?_ ?_
    | with_reducible refine Frame.foldl ?_ _ _ ?_
    | split
    | with_reducible refine Frame.of_snd (by with_reducible assumption) ?_
    | with_reducible refine Frame.of_fst (by with_reducible assumption) ?_
    | with_reducible refine Frame.snd_mk ?_
    | with_reducible refine Frame.fst_mk ?_
    | with_reducible refine Frame.cfg_safe_upd b0 b19 ?_

def State.loadImage_mask : Nat := 0x602000000000000118000000000000100000000000000000000000000000000000000f00000002208c029
theorem State.loadImage_frame {W : Nat} {s0 s : State} {r : BootReport} (hW : Within State.loadImage_mask W) (h : Frame W s0 s) :
    Frame W s0 (State.loadImage s r) := by
  have w0 := Within.trans (a := State.holdFactory_mask) rfl hW
  have w1 := Within.trans (a := State.raise_mask) rfl hW
  have w2 := Within.trans (a := State.keepWrite_mask) rfl hW
  have w3 := Within.trans (a := State.runImage_mask) rfl hW
  unfold State.loadImage
  repeat' first
    | intro _
    | with_reducible assumption
    | (extract_lets +onlyGivenNames x; refine Frame.cut (W := W) (s0 := s0) x ?_ ?_; unfold x; clear x; rotate_left; clear_value x; revert x; intro _ _)
    | (extract_lets +onlyGivenNames x; clear_value x; revert x; intro _)
    | with_reducible refine State.holdFactory_frame w0 ?_
    | with_reducible refine State.raise_frame w1 ?_
    | with_reducible refine State.keepWrite_frame w2 ?_ ?_
    | exact ⟨Nat.le_refl _, Nat.le_refl _, Nat.le_refl _, Nat.le_refl _⟩
    | exact ⟨Nat.sub_le _ _, Nat.le_refl _, Nat.le_refl _, Nat.le_refl _⟩
    | exact ⟨Nat.le_refl _, Nat.le_refl _, Nat.le_refl _, Nat.sub_le _ _⟩
    | exact ⟨Nat.le_refl _, Nat.le_refl _, Nat.sub_le _ _, Nat.le_refl _⟩
    | with_reducible refine State.runImage_frame w3 ?_
    | with_reducible refine Frame.ite ?_ ?_
    | with_reducible refine Frame.foldl ?_ _ _ ?_
    | split
    | with_reducible refine Frame.of_snd (by with_reducible assumption) ?_
    | with_reducible refine Frame.of_fst (by with_reducible assumption) ?_
    | with_reducible refine Frame.snd_mk ?_
    | with_reducible refine Frame.fst_mk ?_

def State.fenceCores_mask : Nat := 0x400000006020000000000000000000000000000000000000000000000000000000000000000000000000022000080
theorem State.fenceCores_frame {W : Nat} {s0 s : State} {failing : List Nat} (hW : Within State.fenceCores_mask W) (h : Frame W s0 s) :
    Frame W s0 (State.fenceCores s failing) := by
  have b370 := hW.bit (n := 370) (by decide)
  have w0 := Within.trans (a := State.fenceWrite_mask) rfl hW
  have w1 := Within.trans (a := State.raise_mask) rfl hW
  have b7 := hW.bit (n := 7) (by decide)
  unfold State.fenceCores
  repeat' first
    | intro _
    | with_reducible assumption
    | (extract_lets +onlyGivenNames x; refine Frame.cut (W := W) (s0 := s0) x ?_ ?_; unfold x; clear x; rotate_left; clear_value x; revert x; intro _ _)
    | (extract_lets +onlyGivenNames x; clear_value x; revert x; intro _)
    | with_reducible refine State.set_frame (F.CORE_FAIL_cause_kind _) b370 ?_
    | with_reducible refine State.fenceWrite_frame w0 ?_
    | with_reducible refine State.raise_frame w1 ?_
    | with_reducible refine State.each_frame ?_ ?_
    | with_reducible refine Frame.ite ?_ ?_
    | with_reducible refine Frame.foldl ?_ _ _ ?_
    | split
    | with_reducible refine Frame.of_snd (by with_reducible assumption) ?_
    | with_reducible refine Frame.of_fst (by with_reducible assumption) ?_
    | with_reducible refine Frame.snd_mk ?_
    | with_reducible refine Frame.fst_mk ?_
    | with_reducible refine Frame.cores_upd b7 ?_

def State.mapCluster_mask : Nat := 0x6180000006020000000000000000000000000000000000000000000000000000000000000000000000000022000000
theorem State.mapCluster_frame {W : Nat} {s0 s : State} {k : Nat} (hW : Within State.mapCluster_mask W) (h : Frame W s0 s) :
    Frame W s0 (State.mapCluster s k) := by
  have b367 := hW.bit (n := 367) (by decide)
  have b373 := hW.bit (n := 373) (by decide)
  have w2 := Within.trans (a := State.setMap_mask) rfl hW
  have w3 := Within.trans (a := State.showOwner_mask) rfl hW
  have w4 := Within.trans (a := State.raise_mask) rfl hW
  unfold State.mapCluster
  repeat' first
    | intro _
    | with_reducible assumption
    | (extract_lets +onlyGivenNames x; refine Frame.cut (W := W) (s0 := s0) x ?_ ?_; unfold x; clear x; rotate_left; clear_value x; revert x; intro _ _)
    | (extract_lets +onlyGivenNames x; clear_value x; revert x; intro _)
    | with_reducible refine State.set_frame (F.CORE_ID_physical_kind _) b367 ?_
    | with_reducible refine State.set_frame (F.CORE_ID_cluster_kind _) b367 ?_
    | with_reducible refine State.set_frame (F.CORE_ID_die_kind _) b367 ?_
    | with_reducible refine State.set_frame (F.CORE_ID_role_kind _) b367 ?_
    | with_reducible refine State.set_frame (F.CORE_ID_logical_kind _) b367 ?_
    | with_reducible refine State.set_frame (F.CORE_CLUSTER_spare_left_kind _) b373 ?_
    | with_reducible refine State.set_frame (F.CORE_CLUSTER_spare_index_kind _) b373 ?_
    | with_reducible refine State.set_frame (F.CORE_CLUSTER_lost_kind _) b373 ?_
    | with_reducible refine State.set_frame (F.CORE_CLUSTER_failed_kind _) b373 ?_
    | with_reducible refine State.set_frame (F.CORE_CLUSTER_detours_kind _) b373 ?_
    | with_reducible refine State.each_frame ?_ ?_
    | with_reducible refine State.setMap_frame w2 ?_
    | with_reducible refine State.setAll_cons ?_
    | with_reducible refine State.setAll_nil ?_
    | with_reducible refine State.showOwner_frame w3 ?_
    | with_reducible refine State.raise_frame w4 ?_
    | with_reducible refine Frame.ite ?_ ?_
    | with_reducible refine Frame.foldl ?_ _ _ ?_
    | split
    | with_reducible refine Frame.of_snd (by with_reducible assumption) ?_
    | with_reducible refine Frame.of_fst (by with_reducible assumption) ?_
    | with_reducible refine Frame.snd_mk ?_
    | with_reducible refine Frame.fst_mk ?_

def State.startDetours_mask : Nat := 0x2000000006020000000000000000000000000000000000000000000000000000000000000000000000000022000080
theorem State.startDetours_frame {W : Nat} {s0 s : State} {new : List Nat} (hW : Within State.startDetours_mask W) (h : Frame W s0 s) :
    Frame W s0 (State.startDetours s new) := by
  have b373 := hW.bit (n := 373) (by decide)
  have w0 := Within.trans (a := State.raise_mask) rfl hW
  have b7 := hW.bit (n := 7) (by decide)
  unfold State.startDetours
  repeat' first
    | intro _
    | with_reducible assumption
    | (extract_lets +onlyGivenNames x; refine Frame.cut (W := W) (s0 := s0) x ?_ ?_; unfold x; clear x; rotate_left; clear_value x; revert x; intro _ _)
    | (extract_lets +onlyGivenNames x; clear_value x; revert x; intro _)
    | with_reducible refine State.inc_frame (F.CORE_CLUSTER_detours_kind _) b373 ?_
    | with_reducible refine State.raise_frame w0 ?_
    | with_reducible refine State.each_frame ?_ ?_
    | with_reducible refine Frame.ite ?_ ?_
    | with_reducible refine Frame.foldl ?_ _ _ ?_
    | split
    | with_reducible refine Frame.of_snd (by with_reducible assumption) ?_
    | with_reducible refine Frame.of_fst (by with_reducible assumption) ?_
    | with_reducible refine Frame.snd_mk ?_
    | with_reducible refine Frame.fst_mk ?_
    | with_reducible refine Frame.cores_upd b7 ?_

def State.beginPace_mask : Nat := 0x44000000000000000000
theorem State.beginPace_frame {W : Nat} {s0 s : State} {p : Nat} (hW : Within State.beginPace_mask W) (h : Frame W s0 s) :
    Frame W s0 (State.beginPace s p) := by
  have b74 := hW.bit (n := 74) (by decide)
  have b78 := hW.bit (n := 78) (by decide)
  unfold State.beginPace
  repeat' first
    | intro _
    | with_reducible assumption
    | (extract_lets +onlyGivenNames x; refine Frame.cut (W := W) (s0 := s0) x ?_ ?_; unfold x; clear x; rotate_left; clear_value x; revert x; intro _ _)
    | (extract_lets +onlyGivenNames x; clear_value x; revert x; intro _)
    | with_reducible refine State.set_frame (F.PACE_STATUS_planned_pace_kind) b74 ?_
    | with_reducible refine State.set_frame (F.PACE_STATUS_pace_kind) b74 ?_
    | with_reducible refine State.set_frame (F.PACE_PLAN_STATUS_proposal_pending_kind) b78 ?_
    | with_reducible refine State.set_frame (F.PACE_PLAN_STATUS_proposed_pace_kind) b78 ?_
    | with_reducible refine State.setAll_cons ?_
    | with_reducible refine State.setAll_nil ?_
    | with_reducible refine Frame.ite ?_ ?_
    | with_reducible refine Frame.foldl ?_ _ _ ?_
    | split
    | with_reducible refine Frame.of_snd (by with_reducible assumption) ?_
    | with_reducible refine Frame.of_fst (by with_reducible assumption) ?_
    | with_reducible refine Frame.snd_mk ?_
    | with_reducible refine Frame.fst_mk ?_

def State.startPace_mask : Nat := 0x6020000000000000000000000000000000000000000000000000000000000000644000000000022000040
theorem State.startPace_frame {W : Nat} {s0 s : State} (hW : Within State.startPace_mask W) (h : Frame W s0 s) :
    Frame W s0 (State.startPace s) := by
  have b82 := hW.bit (n := 82) (by decide)
  have b81 := hW.bit (n := 81) (by decide)
  have w0 := Within.trans (a := State.beginPace_mask) rfl hW
  have w1 := Within.trans (a := State.showReduced_mask) rfl hW
  have w2 := Within.trans (a := State.plan_mask) rfl hW
  have b6 := hW.bit (n := 6) (by decide)
  unfold State.startPace
  repeat' first
    | intro _
    | with_reducible assumption
    | (extract_lets +onlyGivenNames x; refine Frame.cut (W := W) (s0 := s0) x ?_ ?_; unfold x; clear x; rotate_left; clear_value x; revert x; intro _ _)
    | (extract_lets +onlyGivenNames x; refine Frame.cutF (W := W) (s0 := s0) x ?_ ?_; unfold x; clear x; rotate_left; clear_value x; revert x; intro _ _)
    | (extract_lets +onlyGivenNames x; refine Frame.cutG (W := W) (s0 := s0) x ?_ ?_; unfold x; clear x; rotate_left; clear_value x; revert x; intro _ _)
    | (extract_lets +onlyGivenNames x; refine Frame.cutN (W := W) (s0 := s0) x ?_ ?_; unfold x; clear x; rotate_left; clear_value x; revert x; intro _ _)
    | (extract_lets +onlyGivenNames x; refine Frame.cutH (W := W) (s0 := s0) x ?_ ?_; unfold x; clear x; rotate_left; clear_value x; revert x; intro _ _)
    | (extract_lets +onlyGivenNames x; refine Frame.cutI (W := W) (s0 := s0) x ?_ ?_; unfold x; clear x; rotate_left; clear_value x; revert x; intro _ _)
    | (extract_lets +onlyGivenNames x; clear_value x; revert x; intro _)
    | with_reducible refine State.set_frame (F.PACE_SLACK_baseline_kind _) b82 ?_
    | with_reducible refine State.set_frame (F.PACE_SLACK_slack_kind _) b82 ?_
    | with_reducible refine State.set_frame (F.PACE_DIE_voltage_kind _) b81 ?_
    | with_reducible refine State.set_frame (F.PACE_DIE_v_start_kind _) b81 ?_
    | with_reducible refine State.set_frame (F.PACE_DIE_at_ceiling_kind _) b81 ?_
    | with_reducible refine State.setAll_cons ?_
    | with_reducible refine State.setAll_nil ?_
    | with_reducible refine State.beginPace_frame w0 ?_
    | with_reducible refine State.showReduced_frame w1 ?_
    | with_reducible refine State.plan_frame w2 ?_
    | with_reducible refine State.each_frame ?_ ?_
    | with_reducible refine Frame.ite ?_ ?_
    | with_reducible refine Frame.foldl ?_ _ _ ?_
    | split
    | with_reducible refine Frame.of_snd (by with_reducible assumption) ?_
    | with_reducible refine Frame.of_fst (by with_reducible assumption) ?_
    | with_reducible refine Frame.snd_mk ?_
    | with_reducible refine Frame.fst_mk ?_
    | with_reducible refine Frame.pace_upd b6 ?_
    | solve_by_elim

def State.startRecorder_mask : Nat := 0x400e0000000000000000000000000000000000000000000000000000000000000000000000000002000000
theorem State.startRecorder_frame {W : Nat} {s0 s : State} {scanMs : Nat} (hW : Within State.startRecorder_mask W) (h : Frame W s0 s) :
    Frame W s0 (State.startRecorder s scanMs) := by
  have b25 := hW.bit (n := 25) (by decide)
  have b330 := hW.bit (n := 330) (by decide)
  have b331 := hW.bit (n := 331) (by decide)
  have b329 := hW.bit (n := 329) (by decide)
  have b342 := hW.bit (n := 342) (by decide)
  unfold State.startRecorder
  repeat' first
    | intro _
    | with_reducible assumption
    | (extract_lets +onlyGivenNames x; refine Frame.cut (W := W) (s0 := s0) x ?_ ?_; unfold x; clear x; rotate_left; clear_value x; revert x; intro _ _)
    | (extract_lets +onlyGivenNames x; clear_value x; revert x; intro _)
    | with_reducible refine State.set_frame (F.WAYM_HEAD_SEQ_seq_kind) b330 ?_
    | with_reducible refine State.set_frame (F.WAYM_OLDEST_SEQ_seq_kind) b331 ?_
    | with_reducible refine State.set_frame (F.WAYM_STATUS_scan_done_kind) b329 ?_
    | with_reducible refine State.set_frame (F.WAYM_WEAR_erases_kind) b342 ?_
    | with_reducible refine State.set_frame (F.WAYM_STATUS_buffered_kind) b329 ?_
    | with_reducible refine State.setAll_cons ?_
    | with_reducible refine State.setAll_nil ?_
    | with_reducible refine Frame.ite ?_ ?_
    | with_reducible refine Frame.foldl ?_ _ _ ?_
    | split
    | with_reducible refine Frame.of_snd (by with_reducible assumption) ?_
    | with_reducible refine Frame.of_fst (by with_reducible assumption) ?_
    | with_reducible refine Frame.snd_mk ?_
    | with_reducible refine Frame.fst_mk ?_
    | with_reducible refine Frame.recorder_upd b25 ?_

def State.startField_mask : Nat := 0x602000000000000118000000000300100000000000000000000000000000000000000000800002208c000
theorem State.startField_frame {W : Nat} {s0 s : State} (hW : Within State.startField_mask W) (h : Frame W s0 s) :
    Frame W s0 (State.startField s) := by
  have b51 := hW.bit (n := 51) (by decide)
  have b228 := hW.bit (n := 228) (by decide)
  have w0 := Within.trans (a := State.raise_mask) rfl hW
  have w1 := Within.trans (a := State.fieldDown_mask) rfl hW
  have w2 := Within.trans (a := State.enterSafeHeld_mask) rfl hW
  unfold State.startField
  repeat' first
    | intro _
    | with_reducible assumption
    | (extract_lets +onlyGivenNames x; refine Frame.cut (W := W) (s0 := s0) x ?_ ?_; unfold x; clear x; rotate_left; clear_value x; revert x; intro _ _)
    | (extract_lets +onlyGivenNames x; clear_value x; revert x; intro _)
    | with_reducible refine State.setBit_frame (F.CAP_BOARD_STATUS_group_low_kind) b51 ?_
    | with_reducible refine State.setBit_frame (F.FIO_STATUS_group_low_kind) b228 ?_
    | with_reducible refine State.set_frame (F.CAP_BOARD_STATUS_field_low_kind) b51 ?_
    | with_reducible refine State.set_frame (F.FIO_STATUS_field_low_kind) b228 ?_
    | with_reducible refine State.raise_frame w0 ?_
    | with_reducible refine State.fieldDown_frame w1 ?_
    | with_reducible refine State.enterSafeHeld_frame w2 ?_
    | with_reducible refine State.each_frame ?_ ?_
    | with_reducible refine Frame.ite ?_ ?_
    | with_reducible refine Frame.foldl ?_ _ _ ?_
    | split
    | with_reducible refine Frame.of_snd (by with_reducible assumption) ?_
    | with_reducible refine Frame.of_fst (by with_reducible assumption) ?_
    | with_reducible refine Frame.snd_mk ?_
    | with_reducible refine Frame.fst_mk ?_

def State.startEncoders_mask : Nat := 0x60200000000000011800000000000013c40000000000000000008800000000000000000000000234cc000
theorem State.startEncoders_frame {W : Nat} {s0 s : State} (hW : Within State.startEncoders_mask W) (h : Frame W s0 s) :
    Frame W s0 (State.startEncoders s) := by
  have w0 := Within.trans (a := State.raise_mask) rfl hW
  have w1 := Within.trans (a := State.setChan_mask) rfl hW
  have w2 := Within.trans (a := State.posFault_mask) rfl hW
  unfold State.startEncoders
  repeat' first
    | intro _
    | with_reducible assumption
    | (extract_lets +onlyGivenNames x; refine Frame.cut (W := W) (s0 := s0) x ?_ ?_; unfold x; clear x; rotate_left; clear_value x; revert x; intro _ _)
    | (extract_lets +onlyGivenNames x; clear_value x; revert x; intro _)
    | with_reducible refine State.raise_frame w0 ?_
    | with_reducible refine State.setChan_frame w1 ?_
    | with_reducible refine State.posFault_frame w2 ?_
    | with_reducible refine State.each_frame ?_ ?_
    | with_reducible refine Frame.ite ?_ ?_
    | with_reducible refine Frame.foldl ?_ _ _ ?_
    | split
    | with_reducible refine Frame.of_snd (by with_reducible assumption) ?_
    | with_reducible refine Frame.of_fst (by with_reducible assumption) ?_
    | with_reducible refine Frame.snd_mk ?_
    | with_reducible refine Frame.fst_mk ?_

def State.trainingResults_mask : Nat := 0x6020000000000000000000000000000000000000000000000000000000000000002020000000022000020
theorem State.trainingResults_frame {W : Nat} {s0 s : State} {r : BootReport} (hW : Within State.trainingResults_mask W) (h : Frame W s0 s) :
    Frame W s0 (State.trainingResults s r) := by
  have w0 := Within.trans (a := State.bootTrainFail_mask) rfl hW
  unfold State.trainingResults
  repeat' first
    | intro _
    | with_reducible assumption
    | (extract_lets +onlyGivenNames x; refine Frame.cut (W := W) (s0 := s0) x ?_ ?_; unfold x; clear x; rotate_left; clear_value x; revert x; intro _ _)
    | (extract_lets +onlyGivenNames x; clear_value x; revert x; intro _)
    | with_reducible refine State.bootTrainFail_frame w0 ?_
    | with_reducible refine State.each_frame ?_ ?_
    | with_reducible refine Frame.ite ?_ ?_
    | with_reducible refine Frame.foldl ?_ _ _ ?_
    | split
    | with_reducible refine Frame.of_snd (by with_reducible assumption) ?_
    | with_reducible refine Frame.of_fst (by with_reducible assumption) ?_
    | with_reducible refine Frame.snd_mk ?_
    | with_reducible refine Frame.fst_mk ?_

def State.bootClock_mask : Nat := 0x1800000
theorem State.bootClock_frame {W : Nat} {s0 s : State} {again : Bool} {r : BootReport} (hW : Within State.bootClock_mask W) (h : Frame W s0 s) :
    Frame W s0 (State.bootClock s again r) := by
  have w0 := Within.trans (a := State.draw_mask) rfl hW
  have w1 := Within.trans (a := State.setClock_mask) rfl hW
  unfold State.bootClock
  repeat' first
    | intro _
    | with_reducible assumption
    | (extract_lets +onlyGivenNames x; refine Frame.cut (W := W) (s0 := s0) x ?_ ?_; unfold x; clear x; rotate_left; clear_value x; revert x; intro _ _)
    | (extract_lets +onlyGivenNames x; clear_value x; revert x; intro _)
    | with_reducible refine State.setClock_frame w1 ?_
    | with_reducible refine State.draw_snd w0 ?_
    | with_reducible refine Frame.ite ?_ ?_
    | with_reducible refine Frame.foldl ?_ _ _ ?_
    | split
    | with_reducible refine State.draw_frame (by with_reducible assumption) w0 ?_
    | with_reducible refine Frame.of_snd (by with_reducible assumption) ?_
    | with_reducible refine Frame.of_fst (by with_reducible assumption) ?_
    | with_reducible refine Frame.snd_mk ?_
    | with_reducible refine Frame.fst_mk ?_

def State.startUp_mask : Nat := 0x65800000460f83f00010000239832000024831e13e7fe200000020500d000880e017c01007dfe2f00801ffe3eccceb
theorem State.startUp_frame {W : Nat} {s0 s : State} {again : Bool} {r : BootReport} (hW : Within State.startUp_mask W) (h : Frame W s0 s) :
    Frame W s0 (State.startUp s again r) := by
  have b105 := hW.bit (n := 105) (by decide)
  have b92 := hW.bit (n := 92) (by decide)
  have b275 := hW.bit (n := 275) (by decide)
  have b65 := hW.bit (n := 65) (by decide)
  have b73 := hW.bit (n := 73) (by decide)
  have w0 := Within.trans (a := State.bootClock_mask) rfl hW
  have w1 := Within.trans (a := State.raise_mask) rfl hW
  have w2 := Within.trans (a := State.testKeep_mask) rfl hW
  have w3 := Within.trans (a := State.startField_mask) rfl hW
  have w4 := Within.trans (a := State.loadImage_mask) rfl hW
  have w5 := Within.trans (a := State.showKeep_mask) rfl hW
  have w6 := Within.trans (a := State.configure_mask) rfl hW
  have w7 := Within.trans (a := State.startEncoders_mask) rfl hW
  have w8 := Within.trans (a := State.fenceCores_mask) rfl hW
  have w9 := Within.trans (a := State.mapCluster_mask) rfl hW
  have w10 := Within.trans (a := State.startDetours_mask) rfl hW
  have w11 := Within.trans (a := State.startPace_mask) rfl hW
  have w12 := Within.trans (a := State.startPool_mask) rfl hW
  have w13 := Within.trans (a := State.showWalkers_mask) rfl hW
  have w14 := Within.trans (a := State.showEngines_mask) rfl hW
  have w15 := Within.trans (a := State.startDivider_mask) rfl hW
  have w16 := Within.trans (a := State.draw_mask) rfl hW
  have w17 := Within.trans (a := State.tripWrite_mask) rfl hW
  have w18 := Within.trans (a := State.checkFit_mask) rfl hW
  have w19 := Within.trans (a := State.kickKind_mask) rfl hW
  have w20 := Within.trans (a := State.enterSafeHeld_mask) rfl hW
  have w21 := Within.trans (a := State.startRecorder_mask) rfl hW
  have w22 := Within.trans (a := State.trainingResults_mask) rfl hW
  have w23 := Within.trans (a := State.checkBooted_mask) rfl hW
  have b5 := hW.bit (n := 5) (by decide)
  have b19 := hW.bit (n := 19) (by decide)
  have b1 := hW.bit (n := 1) (by decide)
  have b21 := hW.bit (n := 21) (by decide)
  unfold State.startUp
  repeat' first
    | intro _
    | with_reducible assumption
    | (extract_lets +onlyGivenNames x; refine Frame.cut (W := W) (s0 := s0) x ?_ ?_; unfold x; clear x; rotate_left; clear_value x; revert x; intro _ _)
    | (extract_lets +onlyGivenNames x; clear_value x; revert x; intro _)
    | with_reducible refine State.set_frame (F.ROUTE_PAGES_held_kind _) b105 ?_
    | with_reducible refine State.setB_frame (F.ROUTE_STATUS_builder_running_kind) b92 ?_
    | with_reducible refine State.set_frame (F.SAFE_IO_held_kind) b275 ?_
    | with_reducible refine State.set_frame (F.KEEP_STATUS_boot_phase_kind) b65 ?_
    | with_reducible refine State.set_frame (F.KEEP_SELFTEST_failed_cores_kind) b73 ?_
    | with_reducible refine State.set_frame (F.KEEP_SELFTEST_failed_unit_kind) b73 ?_
    | with_reducible refine State.setAll_cons ?_
    | with_reducible refine State.setAll_nil ?_
    | with_reducible refine State.bootClock_frame w0 ?_
    | with_reducible refine State.raise_frame w1 ?_
    | with_reducible refine State.testKeep_frame w2 ?_
    | with_reducible refine State.startField_frame w3 ?_
    | with_reducible refine State.loadImage_frame w4 ?_
    | with_reducible refine State.showKeep_frame w5 ?_
    | with_reducible refine State.configure_frame w6 ?_
    | with_reducible refine State.startEncoders_frame w7 ?_
    | with_reducible refine State.fenceCores_frame w8 ?_
    | with_reducible refine State.mapCluster_frame w9 ?_
    | with_reducible refine State.startDetours_frame w10 ?_
    | with_reducible refine State.startPace_frame w11 ?_
    | with_reducible refine State.startPool_frame w12 ?_
    | with_reducible refine State.showWalkers_frame w13 ?_
    | with_reducible refine State.showEngines_frame w14 ?_
    | with_reducible refine State.startDivider_frame w15 ?_
    | with_reducible refine State.tripWrite_frame w17 ?_
    | with_reducible refine State.checkFit_frame w18 ?_
    | with_reducible refine State.kickKind_frame w19 ?_
    | with_reducible refine State.enterSafeHeld_frame w20 ?_
    | with_reducible refine State.startRecorder_frame w21 ?_
    | with_reducible refine State.trainingResults_frame w22 ?_
    | with_reducible refine State.checkBooted_frame w23 ?_
    | with_reducible refine State.draw_snd w16 ?_
    | with_reducible refine State.each_frame ?_ ?_
    | with_reducible refine Frame.ite ?_ ?_
    | with_reducible refine Frame.foldl ?_ _ _ ?_
    | split
    | with_reducible refine State.draw_frame (by with_reducible assumption) w16 ?_
    | with_reducible refine Frame.of_snd (by with_reducible assumption) ?_
    | with_reducible refine Frame.of_fst (by with_reducible assumption) ?_
    | with_reducible refine Frame.snd_mk ?_
    | with_reducible refine Frame.fst_mk ?_
    | with_reducible refine Frame.boot_safe_upd b5 b19 ?_
    | with_reducible refine Frame.board_upd b1 ?_
    | with_reducible refine Frame.safe_upd b19 ?_
    | with_reducible refine Frame.power_upd b21 ?_

def State.coldStart_mask : Nat := 0x65800000460f83f00010000239832000024831e13e7fe200000020500d000880e017c01107dffef00801ffe3fccceb
theorem State.coldStart_frame {W : Nat} {s0 s : State} {r : BootReport} (hW : Within State.coldStart_mask W) (h : Frame W s0 s) :
    Frame W s0 (State.coldStart s r) := by
  have b51 := hW.bit (n := 51) (by decide)
  have b65 := hW.bit (n := 65) (by decide)
  have b66 := hW.bit (n := 66) (by decide)
  have b67 := hW.bit (n := 67) (by decide)
  have b68 := hW.bit (n := 68) (by decide)
  have b70 := hW.bit (n := 70) (by decide)
  have w0 := Within.trans (a := State.raise_mask) rfl hW
  have w1 := Within.trans (a := State.readKeep_mask) rfl hW
  have w2 := Within.trans (a := State.keepWrite_mask) rfl hW
  have w3 := Within.trans (a := State.bootClock_mask) rfl hW
  have w4 := Within.trans (a := State.runFirmware_mask) rfl hW
  have w5 := Within.trans (a := State.startUp_mask) rfl hW
  have b5 := hW.bit (n := 5) (by decide)
  have b25 := hW.bit (n := 25) (by decide)
  have b21 := hW.bit (n := 21) (by decide)
  unfold State.coldStart
  repeat' first
    | intro _
    | with_reducible assumption
    | (extract_lets +onlyGivenNames x; refine Frame.cut (W := W) (s0 := s0) x ?_ ?_; unfold x; clear x; rotate_left; clear_value x; revert x; intro _ _)
    | (extract_lets +onlyGivenNames x; clear_value x; revert x; intro _)
    | with_reducible refine State.set_frame (F.CAP_BOARD_STATUS_last_off_overvoltage_kind) b51 ?_
    | with_reducible refine State.set_frame (F.KEEP_STATUS_identity_kind) b65 ?_
    | with_reducible refine State.set_frame (F.KEEP_POWER_CYCLES_count_kind) b66 ?_
    | with_reducible refine State.set64_frame (F.KEEP_OP_SECONDS_LO_seconds_kind) b67 (F.KEEP_OP_SECONDS_HI_seconds_kind) b68 ?_
    | with_reducible refine State.set_frame (F.KEEP_DEVICE_ID_word_kind _) b70 ?_
    | with_reducible refine State.setAll_cons ?_
    | with_reducible refine State.setAll_nil ?_
    | with_reducible refine State.raise_frame w0 ?_
    | with_reducible refine State.readKeep_frame w1 ?_
    | with_reducible refine State.keepWrite_frame w2 ?_ ?_
    | with_reducible refine State.bootClock_frame w3 ?_
    | with_reducible refine State.runFirmware_frame w4 ?_
    | with_reducible refine State.startUp_frame w5 ?_
    | with_reducible refine Frame.ite ?_ ?_
    | with_reducible refine Frame.foldl ?_ _ _ ?_
    | split
    | with_reducible refine Frame.of_snd (by with_reducible assumption) ?_
    | with_reducible refine Frame.of_fst (by with_reducible assumption) ?_
    | with_reducible refine Frame.snd_mk ?_
    | with_reducible refine Frame.fst_mk ?_
    | with_reducible refine Frame.boot_upd b5 ?_
    | with_reducible refine Frame.recorder_upd b25 ?_
    | with_reducible refine Frame.power_upd b21 ?_
    | exact ⟨Nat.le_refl _, Nat.le_refl _, Nat.le_refl _, Nat.le_refl _⟩
    | exact ⟨Nat.sub_le _ _, Nat.le_refl _, Nat.le_refl _, Nat.le_refl _⟩
    | exact ⟨Nat.le_refl _, Nat.le_refl _, Nat.sub_le _ _, Nat.le_refl _⟩
    | exact ⟨Nat.le_refl _, Nat.le_refl _, Nat.le_refl _, Nat.sub_le _ _⟩

def execPowerUp_mask : Nat := 0x65800000460f83f00010000239832000024871e13e7fe200000020500d000880e017c01107dffef00801ffe3fccceb
theorem execPowerUp_frame {s nx : State} {r : BootReport} (e : execPowerUp r s = .next nx) : Frame execPowerUp_mask s nx := by
  refine State.become_frame ?_ e
  exact Frame.ite (State.driveOutputs_frame rfl (State.coldStart_frame rfl (Frame.refl _ s))) (Frame.refl _ s)

def execOvervoltageRestart_mask : Nat := 0x65800000460f83f00010000239832000024871e13e7fe200000020500d000880e017c01107dffef00801ffe3fccceb
theorem execOvervoltageRestart_frame {s nx : State} {r : BootReport} (e : execOvervoltageRestart r s = .next nx) : Frame execOvervoltageRestart_mask s nx := by
  refine State.become_frame ?_ e
  exact Frame.ite (State.driveOutputs_frame rfl (State.coldStart_frame rfl (Frame.refl _ s))) (Frame.refl _ s)

def State.restartBase_mask : Nat := 0xffffffffffffffffffffffffffffffffffffffffffffffffffffffffffffffffffffffffffffffffffffffffffffff
theorem State.restartBase_frame {W : Nat} {s0 s : State} (hW : Within State.restartBase_mask W) (h : Frame W s0 s) :
    Frame W s0 s.restartBase := by
  have hw : ∀ n, n < 376 → W.testBit n = true := fun n hn => hW.bit (by
    rw [show State.restartBase_mask = 2 ^ 376 - 1 from rfl, Nat.testBit_two_pow_sub_one]; exact decide_eq_true hn)
  have hk : ∀ {f : Field}, W.testBit (regKind f.key) = true := hw _ (regKind_range _).2
  unfold State.restartBase
  have hs : ∀ {u : State} {f : Field} {v : Nat}, Frame W s0 u → Frame W s0 (u.set f v) := fun hu =>
    State.set_frame rfl hk hu
  refine State.set64_frame rfl hk rfl hk ?_
  repeat' with_reducible refine State.setAll_cons ?_
  refine State.setAll_nil ?_
  repeat' with_reducible refine hs ?_
  exact Frame.all hw h.variant h.pending (fun _ => rfl) (fun x => tabWf_filter regReset _ (h.regsWf x)) h.spent

def execRestart_mask : Nat := 0xffffffffffffffffffffffffffffffffffffffffffffffffffffffffffffffffffffffffffffffffffffffffffffff
theorem execRestart_frame {s nx : State} {i : Port} {r : BootReport} (e : execRestart i r s = .next nx) : Frame execRestart_mask s nx := by
  refine State.run_frame rfl (fun W s0 s hW h => ?_) e
  have w0 := Within.trans (a := State.raise_mask) rfl hW
  have w1 := Within.trans (a := State.zldResult_mask) rfl hW
  have w2 := Within.trans (a := State.zldEnd_mask) rfl hW
  have w3 := Within.trans (a := State.enterSafe_mask) rfl hW
  have w4 := Within.trans (a := State.driveOutputs_mask) rfl hW
  have w5 := Within.trans (a := State.restartBase_mask) rfl hW
  have w6 := Within.trans (a := State.readKeep_mask) rfl hW
  have w7 := Within.trans (a := State.runFirmware_mask) rfl hW
  have w8 := Within.trans (a := State.startUp_mask) rfl hW
  repeat' first
    | intro _
    | with_reducible assumption
    | (extract_lets +onlyGivenNames x; refine Frame.cut (W := W) (s0 := s0) x ?_ ?_; unfold x; clear x; rotate_left; clear_value x; revert x; intro _ _)
    | (extract_lets +onlyGivenNames x; clear_value x; revert x; intro _)
    | with_reducible refine State.raise_frame w0 ?_
    | with_reducible refine State.zldResult_frame w1 ?_
    | with_reducible refine State.zldEnd_frame w2 ?_
    | with_reducible refine State.enterSafe_frame w3 ?_
    | with_reducible refine State.driveOutputs_frame w4 ?_
    | with_reducible refine State.restartBase_frame w5 ?_
    | with_reducible refine State.readKeep_frame w6 ?_
    | with_reducible refine State.runFirmware_frame w7 ?_
    | with_reducible refine State.startUp_frame w8 ?_
    | with_reducible refine Frame.ite ?_ ?_
    | with_reducible refine Frame.foldl ?_ _ _ ?_
    | split
    | with_reducible refine Frame.of_snd (by with_reducible assumption) ?_
    | with_reducible refine Frame.of_fst (by with_reducible assumption) ?_
    | with_reducible refine Frame.snd_mk ?_
    | with_reducible refine Frame.fst_mk ?_

end Sys2Proof.Machine
end

