-- ==== Sys2Proof/Laws/Boundary.lean ====
section
/-! SUPPORT. What the operations of Machine/Boundary.lean change: each differs from its argument in the areas of its mask alone. -/

set_option linter.all false

namespace Sys2Proof.Machine

def State.loadResidency_mask : Nat := 0x1000000000000000000000000000000000000000000000000000000000000000000000500000
theorem State.loadResidency_frame {W : Nat} {s0 s : State} {c : Nat} {l : Nat} (hW : Within State.loadResidency_mask W) (h : Frame W s0 s) :
    Frame W s0 (State.loadResidency s c l) := by
  have w0 := Within.trans (a := State.store_mask) rfl hW
  unfold State.loadResidency
  repeat' first
    | intro _
    | with_reducible assumption
    | (extract_lets +onlyGivenNames x; refine Frame.cut (W := W) (s0 := s0) x ?_ ?_; unfold x; clear x; rotate_left; clear_value x; revert x; intro _ _)
    | (extract_lets +onlyGivenNames x; clear_value x; revert x; intro _)
    | with_reducible refine State.each_frame ?_ ?_
    | with_reducible refine State.store_frame w0 ?_
    | with_reducible refine Frame.ite ?_ ?_
    | with_reducible refine Frame.foldl ?_ _ _ ?_
    | split
    | with_reducible refine Frame.of_snd (by with_reducible assumption) ?_
    | with_reducible refine Frame.of_fst (by with_reducible assumption) ?_
    | with_reducible refine Frame.snd_mk ?_
    | with_reducible refine Frame.fst_mk ?_

def State.unplace_mask : Nat := 0x100000000000000000000000000000000000000000000000000000000000000000000000000000000000000000380
theorem State.unplace_frame {W : Nat} {s0 s : State} {g : LegRun} (hW : Within State.unplace_mask W) (h : Frame W s0 s) :
    Frame W s0 (State.unplace s g) := by
  have w0 := Within.trans (a := State.replayVerges_mask) rfl hW
  have w1 := Within.trans (a := State.clearLeg_mask) rfl hW
  have w2 := Within.trans (a := State.putBack_mask) rfl hW
  have b9 := hW.bit (n := 9) (by decide)
  unfold State.unplace
  repeat' first
    | intro _
    | with_reducible assumption
    | (extract_lets +onlyGivenNames x; refine Frame.cut (W := W) (s0 := s0) x ?_ ?_; unfold x; clear x; rotate_left; clear_value x; revert x; intro _ _)
    | (extract_lets +onlyGivenNames x; clear_value x; revert x; intro _)
    | with_reducible refine State.replayVerges_frame w0 ?_
    | with_reducible refine State.clearLeg_frame w1 ?_
    | with_reducible refine State.putBack_frame w2 ?_
    | with_reducible refine Frame.ite ?_ ?_
    | with_reducible refine Frame.foldl ?_ _ _ ?_
    | split
    | with_reducible refine Frame.of_snd (by with_reducible assumption) ?_
    | with_reducible refine Frame.of_fst (by with_reducible assumption) ?_
    | with_reducible refine Frame.snd_mk ?_
    | with_reducible refine Frame.fst_mk ?_
    | with_reducible refine Frame.route_upd b9 ?_

def State.landMap_mask : Nat := 0x6180000006020000001000000000000000000000000000000000000000000000060000000000000000000022500380
theorem State.landMap_frame {W : Nat} {s0 s : State} {n : Nat} (hW : Within State.landMap_mask W) (h : Frame W s0 s) :
    Frame W s0 (State.landMap s n) := by
  have w0 := Within.trans (a := State.landDetours_mask) rfl hW
  have w1 := Within.trans (a := State.unplace_mask) rfl hW
  have w2 := Within.trans (a := State.loadResidency_mask) rfl hW
  have w3 := Within.trans (a := State.writeLengths_mask) rfl hW
  have w4 := Within.trans (a := State.clearBaseline_mask) rfl hW
  unfold State.landMap
  repeat' first
    | intro _
    | with_reducible assumption
    | (extract_lets +onlyGivenNames x; refine Frame.cut (W := W) (s0 := s0) x ?_ ?_; unfold x; clear x; rotate_left; clear_value x; revert x; intro _ _)
    | (extract_lets +onlyGivenNames x; clear_value x; revert x; intro _)
    | with_reducible refine State.landDetours_frame w0 ?_
    | with_reducible refine State.unplace_frame w1 ?_
    | with_reducible refine State.loadResidency_frame w2 ?_
    | with_reducible refine State.writeLengths_frame w3 ?_
    | with_reducible refine State.clearBaseline_frame w4 ?_
    | with_reducible refine State.each_frame ?_ ?_
    | with_reducible refine Frame.ite ?_ ?_
    | with_reducible refine Frame.foldl ?_ _ _ ?_
    | split
    | with_reducible refine Frame.of_snd (by with_reducible assumption) ?_
    | with_reducible refine Frame.of_fst (by with_reducible assumption) ?_
    | with_reducible refine Frame.snd_mk ?_
    | with_reducible refine Frame.fst_mk ?_

def State.clearVerges_mask : Nat := 0x1000000000000000000000000000000000000000000000000000000000000000000000500200
theorem State.clearVerges_frame {W : Nat} {s0 s : State} {p : Nat} (hW : Within State.clearVerges_mask W) (h : Frame W s0 s) :
    Frame W s0 (State.clearVerges s p) := by
  have w0 := Within.trans (a := State.store_mask) rfl hW
  have b9 := hW.bit (n := 9) (by decide)
  unfold State.clearVerges
  repeat' first
    | intro _
    | with_reducible assumption
    | (extract_lets +onlyGivenNames x; refine Frame.cut (W := W) (s0 := s0) x ?_ ?_; unfold x; clear x; rotate_left; clear_value x; revert x; intro _ _)
    | (extract_lets +onlyGivenNames x; clear_value x; revert x; intro _)
    | with_reducible refine State.store_frame w0 ?_
    | with_reducible refine State.each_frame ?_ ?_
    | with_reducible refine Frame.ite ?_ ?_
    | with_reducible refine Frame.foldl ?_ _ _ ?_
    | split
    | with_reducible refine Frame.of_snd (by with_reducible assumption) ?_
    | with_reducible refine Frame.of_fst (by with_reducible assumption) ?_
    | with_reducible refine Frame.snd_mk ?_
    | with_reducible refine Frame.fst_mk ?_
    | with_reducible refine Frame.route_upd b9 ?_

def State.emptyPool_mask : Nat := 0x602000000000000000000000000001f001fe2000000000000000880000200000000000000000023444600
theorem State.emptyPool_frame {W : Nat} {s0 s : State} {p : Nat} (hW : Within State.emptyPool_mask W) (h : Frame W s0 s) :
    Frame W s0 (State.emptyPool s p) := by
  have w0 := Within.trans (a := State.endIter_mask) rfl hW
  have w1 := Within.trans (a := State.invalidate_mask) rfl hW
  have w2 := Within.trans (a := State.startPool_mask) rfl hW
  have w3 := Within.trans (a := State.countHeld_mask) rfl hW
  have b9 := hW.bit (n := 9) (by decide)
  unfold State.emptyPool
  repeat' first
    | intro _
    | with_reducible assumption
    | (extract_lets +onlyGivenNames x; refine Frame.cut (W := W) (s0 := s0) x ?_ ?_; unfold x; clear x; rotate_left; clear_value x; revert x; intro _ _)
    | (extract_lets +onlyGivenNames x; clear_value x; revert x; intro _)
    | with_reducible refine State.endIter_frame w0 ?_
    | with_reducible refine State.invalidate_frame w1 ?_
    | with_reducible refine State.startPool_frame w2 ?_
    | with_reducible refine State.countHeld_frame w3 ?_
    | with_reducible refine State.each_frame ?_ ?_
    | with_reducible refine Frame.ite ?_ ?_
    | with_reducible refine Frame.foldl ?_ _ _ ?_
    | split
    | with_reducible refine Frame.of_snd (by with_reducible assumption) ?_
    | with_reducible refine Frame.of_fst (by with_reducible assumption) ?_
    | with_reducible refine Frame.snd_mk ?_
    | with_reducible refine Frame.fst_mk ?_
    | with_reducible refine Frame.route_upd b9 ?_

def State.landPart_mask : Nat := 0x602020000100000000020000040001f001fe20000000000000008800646000000000080000000235cc605
theorem State.landPart_frame {W : Nat} {s0 s : State} {n : Nat} {a : Armed} (hW : Within State.landPart_mask W) (h : Frame W s0 s) :
    Frame W s0 (State.landPart s n a) := by
  have b110 := hW.bit (n := 110) (by decide)
  have b63 := hW.bit (n := 63) (by decide)
  have w0 := Within.trans (a := State.emptyPool_mask) rfl hW
  have w1 := Within.trans (a := State.clearVerges_mask) rfl hW
  have w2 := Within.trans (a := State.clearBaseline_mask) rfl hW
  have w3 := Within.trans (a := State.showProgram_mask) rfl hW
  have w4 := Within.trans (a := State.showClaims_mask) rfl hW
  have w5 := Within.trans (a := State.dropOld_mask) rfl hW
  have b0 := hW.bit (n := 0) (by decide)
  have b2 := hW.bit (n := 2) (by decide)
  have b9 := hW.bit (n := 9) (by decide)
  have b19 := hW.bit (n := 19) (by decide)
  have b15 := hW.bit (n := 15) (by decide)
  unfold State.landPart
  repeat' first
    | intro _
    | with_reducible assumption
    | (extract_lets +onlyGivenNames x; refine Frame.cut (W := W) (s0 := s0) x ?_ ?_; unfold x; clear x; rotate_left; clear_value x; revert x; intro _ _)
    | (extract_lets +onlyGivenNames x; clear_value x; revert x; intro _)
    | with_reducible refine State.set_frame (F.ROUTE_JOB_state_kind _) b110 ?_
    | with_reducible refine State.set_frame (F.ZLD_OVERLAY_present_kind _) b63 ?_
    | with_reducible refine State.set_frame (F.ZLD_OVERLAY_slot_kind _) b63 ?_
    | with_reducible refine State.set_frame (F.ZLD_OVERLAY_build_kind _) b63 ?_
    | with_reducible refine State.setAll_cons ?_
    | with_reducible refine State.setAll_nil ?_
    | with_reducible refine State.emptyPool_frame w0 ?_
    | with_reducible refine State.clearVerges_frame w1 ?_
    | with_reducible refine State.clearBaseline_frame w2 ?_
    | with_reducible refine State.showProgram_frame w3 ?_
    | with_reducible refine State.showClaims_frame w4 ?_
    | with_reducible refine State.dropOld_frame w5 ?_
    | with_reducible refine State.each_frame ?_ ?_
    | with_reducible refine Frame.ite ?_ ?_
    | with_reducible refine Frame.foldl ?_ _ _ ?_
    | split
    | with_reducible refine Frame.of_snd (by with_reducible assumption) ?_
    | with_reducible refine Frame.of_fst (by with_reducible assumption) ?_
    | with_reducible refine Frame.snd_mk ?_
    | with_reducible refine Frame.fst_mk ?_
    | with_reducible refine Frame.cfg_zld_route_safe_upd b0 b2 b9 b19 ?_
    | with_reducible refine Frame.fio_upd b15 ?_

def State.landSafety_mask : Nat := 0x602000000000002318000000000000100000000000000000000000000000000000000000000002208c005
theorem State.landSafety_frame {W : Nat} {s0 s : State} {y : SafetySec} (hW : Within State.landSafety_mask W) (h : Frame W s0 s) :
    Frame W s0 (State.landSafety s y) := by
  have b0 := hW.bit (n := 0) (by decide)
  have b2 := hW.bit (n := 2) (by decide)
  have b19 := hW.bit (n := 19) (by decide)
  have b281 := hW.bit (n := 281) (by decide)
  have b277 := hW.bit (n := 277) (by decide)
  have w5 := Within.trans (a := State.kickKind_mask) rfl hW
  have w6 := Within.trans (a := State.enterSafe_mask) rfl hW
  unfold State.landSafety
  repeat' first
    | intro _
    | with_reducible assumption
    | (extract_lets +onlyGivenNames x; refine Frame.cut (W := W) (s0 := s0) x ?_ ?_; unfold x; clear x; rotate_left; clear_value x; revert x; intro _ _)
    | (extract_lets +onlyGivenNames x; clear_value x; revert x; intro _)
    | with_reducible refine State.set_frame (F.SAFE_WDOG_armed_kind _) b281 ?_
    | with_reducible refine State.set_frame (F.SAFE_DTI_ms_kind) b277 ?_
    | with_reducible refine State.each_frame ?_ ?_
    | with_reducible refine State.kickKind_frame w5 ?_
    | with_reducible refine State.enterSafe_frame w6 ?_
    | with_reducible refine Frame.ite ?_ ?_
    | with_reducible refine Frame.foldl ?_ _ _ ?_
    | split
    | with_reducible refine Frame.of_snd (by with_reducible assumption) ?_
    | with_reducible refine Frame.of_fst (by with_reducible assumption) ?_
    | with_reducible refine Frame.snd_mk ?_
    | with_reducible refine Frame.fst_mk ?_
    | with_reducible refine Frame.cfg_zld_safe_upd b0 b2 b19 ?_

def State.landSections_mask : Nat := 0x602020000100002318020000040001f001fe200000000000000088006460000000001e0400000235cc605
theorem State.landSections_frame {W : Nat} {s0 s : State} {n : Nat} (hW : Within State.landSections_mask W) (h : Frame W s0 s) :
    Frame W s0 (State.landSections s n) := by
  have b64 := hW.bit (n := 64) (by decide)
  have w1 := Within.trans (a := State.takeLandings_mask) rfl hW
  have w2 := Within.trans (a := State.landSafety_mask) rfl hW
  have w3 := Within.trans (a := State.landPart_mask) rfl hW
  have w4 := Within.trans (a := State.fireAll_mask) rfl hW
  have w5 := Within.trans (a := State.raise_mask) rfl hW
  have w6 := Within.trans (a := State.adoptFull_mask) rfl hW
  have w7 := Within.trans (a := State.showArmed_mask) rfl hW
  unfold State.landSections
  repeat' first
    | intro _
    | with_reducible assumption
    | (extract_lets +onlyGivenNames x; refine Frame.cut (W := W) (s0 := s0) x ?_ ?_; unfold x; clear x; rotate_left; clear_value x; revert x; intro _ _)
    | (extract_lets +onlyGivenNames x; clear_value x; revert x; intro _)
    | with_reducible refine State.set_frame (F.ZLD_LANDED_target_kind) b64 ?_
    | with_reducible refine State.set_frame (F.ZLD_LANDED_period_kind) b64 ?_
    | with_reducible refine State.takeLandings_frame w1 ?_
    | with_reducible refine State.each_frame ?_ ?_
    | with_reducible refine State.landSafety_frame w2 ?_
    | with_reducible refine State.landPart_frame w3 ?_
    | with_reducible refine State.fireAll_frame w4 ?_
    | with_reducible refine State.raise_frame w5 ?_
    | with_reducible refine State.adoptFull_frame w6 ?_
    | with_reducible refine State.showArmed_frame w7 ?_
    | with_reducible refine Frame.ite ?_ ?_
    | with_reducible refine Frame.foldl ?_ _ _ ?_
    | split
    | with_reducible refine Frame.of_snd (by with_reducible assumption) ?_
    | with_reducible refine Frame.of_fst (by with_reducible assumption) ?_
    | with_reducible refine Frame.snd_mk ?_
    | with_reducible refine Frame.fst_mk ?_

def State.rejectSheet_mask : Nat := 0x6020000000000000000000000000000000000000000000000000000000000000000000000000022000200
theorem State.rejectSheet_frame {W : Nat} {s0 s : State} {n : Nat} {l : Nat} {field : Nat} (hW : Within State.rejectSheet_mask W) (h : Frame W s0 s) :
    Frame W s0 (State.rejectSheet s n l field) := by
  have w0 := Within.trans (a := State.raise_mask) rfl hW
  have w1 := Within.trans (a := State.putBack_mask) rfl hW
  have b9 := hW.bit (n := 9) (by decide)
  unfold State.rejectSheet
  repeat' first
    | intro _
    | with_reducible assumption
    | (extract_lets +onlyGivenNames x; refine Frame.cut (W := W) (s0 := s0) x ?_ ?_; unfold x; clear x; rotate_left; clear_value x; revert x; intro _ _)
    | (extract_lets +onlyGivenNames x; clear_value x; revert x; intro _)
    | with_reducible refine State.raise_frame w0 ?_
    | with_reducible refine State.putBack_frame w1 ?_
    | with_reducible refine State.each_frame ?_ ?_
    | with_reducible refine Frame.ite ?_ ?_
    | with_reducible refine Frame.foldl ?_ _ _ ?_
    | split
    | with_reducible refine Frame.of_snd (by with_reducible assumption) ?_
    | with_reducible refine Frame.of_fst (by with_reducible assumption) ?_
    | with_reducible refine Frame.snd_mk ?_
    | with_reducible refine Frame.fst_mk ?_
    | with_reducible refine Frame.route_upd b9 ?_

def State.readHeaders_mask : Nat := 0x602000000000000118000000000000100000000000000000000000000000000000000000000002208c200
theorem State.readHeaders_frame {W : Nat} {s0 s : State} {n : Nat} {bad : List (Fin 32 × Fin 5)} (hW : Within State.readHeaders_mask W) (h : Frame W s0 s) :
    Frame W s0 (State.readHeaders s n bad) := by
  have w0 := Within.trans (a := State.rejectSheet_mask) rfl hW
  have w1 := Within.trans (a := State.raise_mask) rfl hW
  have w2 := Within.trans (a := State.enterSafe_mask) rfl hW
  unfold State.readHeaders
  repeat' first
    | intro _
    | with_reducible assumption
    | (extract_lets +onlyGivenNames x; refine Frame.cut (W := W) (s0 := s0) x ?_ ?_; unfold x; clear x; rotate_left; clear_value x; revert x; intro _ _)
    | (extract_lets +onlyGivenNames x; clear_value x; revert x; intro _)
    | with_reducible refine State.rejectSheet_frame w0 ?_
    | with_reducible refine State.raise_frame w1 ?_
    | with_reducible refine State.enterSafe_frame w2 ?_
    | with_reducible refine State.each_frame ?_ ?_
    | with_reducible refine Frame.ite ?_ ?_
    | with_reducible refine Frame.foldl ?_ _ _ ?_
    | split
    | with_reducible refine Frame.of_snd (by with_reducible assumption) ?_
    | with_reducible refine Frame.of_fst (by with_reducible assumption) ?_
    | with_reducible refine Frame.snd_mk ?_
    | with_reducible refine Frame.fst_mk ?_

def State.startReplays_mask : Nat := 0x200
theorem State.startReplays_frame {W : Nat} {s0 s : State} {n : Nat} (hW : Within State.startReplays_mask W) (h : Frame W s0 s) :
    Frame W s0 (State.startReplays s n) := by
  have b9 := hW.bit (n := 9) (by decide)
  have w1 := Within.trans (a := State.replayVerges_mask) rfl hW
  unfold State.startReplays
  repeat' first
    | intro _
    | with_reducible assumption
    | (extract_lets +onlyGivenNames x; refine Frame.cut (W := W) (s0 := s0) x ?_ ?_; unfold x; clear x; rotate_left; clear_value x; revert x; intro _ _)
    | (extract_lets +onlyGivenNames x; clear_value x; revert x; intro _)
    | with_reducible refine State.replayVerges_frame w1 ?_
    | with_reducible refine Frame.ite ?_ ?_
    | with_reducible refine Frame.foldl ?_ _ _ ?_
    | split
    | with_reducible refine Frame.of_snd (by with_reducible assumption) ?_
    | with_reducible refine Frame.of_fst (by with_reducible assumption) ?_
    | with_reducible refine Frame.snd_mk ?_
    | with_reducible refine Frame.fst_mk ?_
    | with_reducible refine Frame.route_upd b9 ?_

def State.countOverruns_mask : Nat := 0x6020000000000000000000000000000000000000000000000000000000000001000000000000022000000
theorem State.countOverruns_frame {W : Nat} {s0 s : State} {n : Nat} {ticks : List Nat} (hW : Within State.countOverruns_mask W) (h : Frame W s0 s) :
    Frame W s0 (State.countOverruns s n ticks) := by
  have b84 := hW.bit (n := 84) (by decide)
  have w1 := Within.trans (a := State.raise_mask) rfl hW
  unfold State.countOverruns
  repeat' first
    | intro _
    | with_reducible assumption
    | (extract_lets +onlyGivenNames x; refine Frame.cut (W := W) (s0 := s0) x ?_ ?_; unfold x; clear x; rotate_left; clear_value x; revert x; intro _ _)
    | (extract_lets +onlyGivenNames x; clear_value x; revert x; intro _)
    | with_reducible refine State.inc_frame (F.PACE_OVERRUN_count_kind _) b84 ?_
    | with_reducible refine State.each_frame ?_ ?_
    | with_reducible refine State.raise_frame w1 ?_
    | with_reducible refine Frame.ite ?_ ?_
    | with_reducible refine Frame.foldl ?_ _ _ ?_
    | split
    | with_reducible refine Frame.of_snd (by with_reducible assumption) ?_
    | with_reducible refine Frame.of_fst (by with_reducible assumption) ?_
    | with_reducible refine Frame.snd_mk ?_
    | with_reducible refine Frame.fst_mk ?_

def State.landClock_mask : Nat := 0x6020000001000000000e000420000000000016002000000000008c0000000000000000000000022d57200
theorem State.landClock_frame {W : Nat} {s0 s : State} {n : Nat} (hW : Within State.landClock_mask W) (h : Frame W s0 s) :
    Frame W s0 (State.landClock s n) := by
  have w0 := Within.trans (a := State.stepLive_mask) rfl hW
  have w1 := Within.trans (a := State.landStep_mask) rfl hW
  have w2 := Within.trans (a := State.lateLaunches_mask) rfl hW
  unfold State.landClock
  repeat' first
    | intro _
    | with_reducible assumption
    | (extract_lets +onlyGivenNames x; refine Frame.cut (W := W) (s0 := s0) x ?_ ?_; unfold x; clear x; rotate_left; clear_value x; revert x; intro _ _)
    | (extract_lets +onlyGivenNames x; clear_value x; revert x; intro _)
    | with_reducible refine State.stepLive_frame w0 ?_
    | with_reducible refine State.landStep_frame w1 ?_
    | with_reducible refine State.each_frame ?_ ?_
    | with_reducible refine State.lateLaunches_frame w2 ?_
    | with_reducible refine Frame.ite ?_ ?_
    | with_reducible refine Frame.foldl ?_ _ _ ?_
    | split
    | with_reducible refine Frame.of_snd (by with_reducible assumption) ?_
    | with_reducible refine Frame.of_fst (by with_reducible assumption) ?_
    | with_reducible refine Frame.snd_mk ?_
    | with_reducible refine Frame.fst_mk ?_

def State.expireSnapshots_mask : Nat := 0x10000000602000000000000000000000000001f001fe20000000000000008800e4240100000000000000023444785
theorem State.expireSnapshots_frame {W : Nat} {s0 s : State} {p : Nat} (hW : Within State.expireSnapshots_mask W) (h : Frame W s0 s) :
    Frame W s0 (State.expireSnapshots s p) := by
  have w0 := Within.trans (a := State.raise_mask) rfl hW
  have w1 := Within.trans (a := State.abortLeg_mask) rfl hW
  unfold State.expireSnapshots
  repeat' first
    | intro _
    | with_reducible assumption
    | (extract_lets +onlyGivenNames x; refine Frame.cut (W := W) (s0 := s0) x ?_ ?_; unfold x; clear x; rotate_left; clear_value x; revert x; intro _ _)
    | (extract_lets +onlyGivenNames x; clear_value x; revert x; intro _)
    | with_reducible refine State.raise_frame w0 ?_
    | with_reducible refine State.abortLeg_frame w1 ?_
    | with_reducible refine State.each_frame ?_ ?_
    | with_reducible refine Frame.ite ?_ ?_
    | with_reducible refine Frame.foldl ?_ _ _ ?_
    | split
    | with_reducible refine Frame.of_snd (by with_reducible assumption) ?_
    | with_reducible refine Frame.of_fst (by with_reducible assumption) ?_
    | with_reducible refine Frame.snd_mk ?_
    | with_reducible refine Frame.fst_mk ?_

def State.landSteps_mask : Nat := 0x10000000602000000100002000000000000001f001fe20000000000000008800e42401000000000000020235c4785
theorem State.landSteps_frame {W : Nat} {s0 s : State} {n : Nat} (hW : Within State.landSteps_mask W) (h : Frame W s0 s) :
    Frame W s0 (State.landSteps s n) := by
  have w0 := Within.trans (a := State.expireSnapshots_mask) rfl hW
  have w1 := Within.trans (a := State.kvStep_mask) rfl hW
  have w2 := Within.trans (a := State.kickAll_mask) rfl hW
  unfold State.landSteps
  repeat' first
    | intro _
    | with_reducible assumption
    | (extract_lets +onlyGivenNames x; refine Frame.cut (W := W) (s0 := s0) x ?_ ?_; unfold x; clear x; rotate_left; clear_value x; revert x; intro _ _)
    | (extract_lets +onlyGivenNames x; clear_value x; revert x; intro _)
    | with_reducible refine State.expireSnapshots_frame w0 ?_
    | with_reducible refine State.kvStep_frame w1 ?_
    | with_reducible refine State.kickAll_frame w2 ?_
    | with_reducible refine State.each_frame ?_ ?_
    | with_reducible refine Frame.ite ?_ ?_
    | with_reducible refine Frame.foldl ?_ _ _ ?_
    | split
    | with_reducible refine Frame.of_snd (by with_reducible assumption) ?_
    | with_reducible refine Frame.of_fst (by with_reducible assumption) ?_
    | with_reducible refine Frame.snd_mk ?_
    | with_reducible refine Frame.fst_mk ?_

def State.reportFull_mask : Nat := 0x6020000000000000000000000000000000000000000000000000000000000004000000000000022000000
theorem State.reportFull_frame {W : Nat} {s0 s : State} {full : List (Fin 126 × Fin 2)} (hW : Within State.reportFull_mask W) (h : Frame W s0 s) :
    Frame W s0 (State.reportFull s full) := by
  have w0 := Within.trans (a := State.bridgeFull_mask) rfl hW
  unfold State.reportFull
  repeat' first
    | intro _
    | with_reducible assumption
    | (extract_lets +onlyGivenNames x; refine Frame.cut (W := W) (s0 := s0) x ?_ ?_; unfold x; clear x; rotate_left; clear_value x; revert x; intro _ _)
    | (extract_lets +onlyGivenNames x; clear_value x; revert x; intro _)
    | with_reducible refine State.bridgeFull_frame w0 ?_
    | with_reducible refine State.each_frame ?_ ?_
    | with_reducible refine Frame.ite ?_ ?_
    | with_reducible refine Frame.foldl ?_ _ _ ?_
    | split
    | with_reducible refine Frame.of_snd (by with_reducible assumption) ?_
    | with_reducible refine Frame.of_fst (by with_reducible assumption) ?_
    | with_reducible refine Frame.snd_mk ?_
    | with_reducible refine Frame.fst_mk ?_

def State.leaveOld_mask : Nat := 0x1fe2000000000000000000000200000000000000000000000605
theorem State.leaveOld_frame {W : Nat} {s0 s : State} (hW : Within State.leaveOld_mask W) (h : Frame W s0 s) :
    Frame W s0 (State.leaveOld s) := by
  have w0 := Within.trans (a := State.dropOld_mask) rfl hW
  unfold State.leaveOld
  repeat' first
    | intro _
    | with_reducible assumption
    | (extract_lets +onlyGivenNames x; refine Frame.cut (W := W) (s0 := s0) x ?_ ?_; unfold x; clear x; rotate_left; clear_value x; revert x; intro _ _)
    | (extract_lets +onlyGivenNames x; clear_value x; revert x; intro _)
    | with_reducible refine State.dropOld_frame w0 ?_
    | with_reducible refine State.each_frame ?_ ?_
    | with_reducible refine Frame.ite ?_ ?_
    | with_reducible refine Frame.foldl ?_ _ _ ?_
    | split
    | with_reducible refine Frame.of_snd (by with_reducible assumption) ?_
    | with_reducible refine Frame.of_fst (by with_reducible assumption) ?_
    | with_reducible refine Frame.snd_mk ?_
    | with_reducible refine Frame.fst_mk ?_

def State.carryTicks_mask : Nat := 0x80
theorem State.carryTicks_frame {W : Nat} {s0 s : State} {c : Nat} {n : Nat} (hW : Within State.carryTicks_mask W) (h : Frame W s0 s) :
    Frame W s0 (State.carryTicks s c n) := by
  have b7 := hW.bit (n := 7) (by decide)
  unfold State.carryTicks
  repeat' first
    | intro _
    | with_reducible assumption
    | (extract_lets +onlyGivenNames x; refine Frame.cut (W := W) (s0 := s0) x ?_ ?_; unfold x; clear x; rotate_left; clear_value x; revert x; intro _ _)
    | (extract_lets +onlyGivenNames x; clear_value x; revert x; intro _)
    | with_reducible refine Frame.ite ?_ ?_
    | with_reducible refine Frame.foldl ?_ _ _ ?_
    | split
    | with_reducible refine Frame.of_snd (by with_reducible assumption) ?_
    | with_reducible refine Frame.of_fst (by with_reducible assumption) ?_
    | with_reducible refine Frame.snd_mk ?_
    | with_reducible refine Frame.fst_mk ?_
    | with_reducible refine Frame.cores_upd b7 ?_

def execPeriodBoundary_mask : Nat := 0x61801ff486038200001000023980e8004240501f003fe36002000000002008c06e6e4070524401e048012027ddf7c7
theorem execPeriodBoundary_frame {s nx : State} {x : PeriodIn} (e : execPeriodBoundary x s = .next nx) : Frame execPeriodBoundary_mask s nx := by
  refine State.run_frame rfl (fun W s0 s hW h => ?_) e
  have b93 := hW.bit (n := 93) (by decide)
  have b94 := hW.bit (n := 94) (by decide)
  have w0 := Within.trans (a := State.tick_mask) rfl hW
  have w1 := Within.trans (a := State.carryTicks_mask) rfl hW
  have w2 := Within.trans (a := State.perfEvent_mask) rfl hW
  have w3 := Within.trans (a := State.reportFull_mask) rfl hW
  have w4 := Within.trans (a := State.perfBoundary_mask) rfl hW
  have w5 := Within.trans (a := State.fixTriples_mask) rfl hW
  have w6 := Within.trans (a := State.landRealign_mask) rfl hW
  have w7 := Within.trans (a := State.landClock_mask) rfl hW
  have w8 := Within.trans (a := State.landPace_mask) rfl hW
  have w9 := Within.trans (a := State.landVoltage_mask) rfl hW
  have w10 := Within.trans (a := State.landMap_mask) rfl hW
  have w11 := Within.trans (a := State.landSections_mask) rfl hW
  have w12 := Within.trans (a := State.landJobs_mask) rfl hW
  have w13 := Within.trans (a := State.landDefers_mask) rfl hW
  have w14 := Within.trans (a := State.landCuts_mask) rfl hW
  have w15 := Within.trans (a := State.landSteps_mask) rfl hW
  have w16 := Within.trans (a := State.landStarts_mask) rfl hW
  have w17 := Within.trans (a := State.landMail_mask) rfl hW
  have w18 := Within.trans (a := State.publishMail_mask) rfl hW
  have w19 := Within.trans (a := State.readHeaders_mask) rfl hW
  have w20 := Within.trans (a := State.startReplays_mask) rfl hW
  have w21 := Within.trans (a := State.startSheets_mask) rfl hW
  have w22 := Within.trans (a := State.leaveOld_mask) rfl hW
  have w23 := Within.trans (a := State.kickAll_mask) rfl hW
  have w24 := Within.trans (a := State.kickKind_mask) rfl hW
  have w25 := Within.trans (a := State.countOverruns_mask) rfl hW
  have w26 := Within.trans (a := State.showEngines_mask) rfl hW
  have w27 := Within.trans (a := State.showWalkers_mask) rfl hW
  have w28 := Within.trans (a := State.showIngest_mask) rfl hW
  have w29 := Within.trans (a := State.showCore_mask) rfl hW
  repeat' first
    | intro _
    | with_reducible assumption
    | (extract_lets +onlyGivenNames x; refine Frame.cut (W := W) (s0 := s0) x ?_ ?_; unfold x; clear x; rotate_left; clear_value x; revert x; intro _ _)
    | (extract_lets +onlyGivenNames x; clear_value x; revert x; intro _)
    | with_reducible refine State.set64_frame (F.ROUTE_PERIOD_LO_number_kind) b93 (F.ROUTE_PERIOD_HI_number_kind) b94 ?_
    | with_reducible refine State.tick_frame w0 ?_
    | with_reducible refine State.carryTicks_frame w1 ?_
    | with_reducible refine State.perfEvent_frame w2 ?_
    | with_reducible refine State.reportFull_frame w3 ?_
    | with_reducible refine State.perfBoundary_frame w4 ?_
    | with_reducible refine State.fixTriples_frame w5 ?_
    | with_reducible refine State.landRealign_frame w6 ?_
    | with_reducible refine State.landClock_frame w7 ?_
    | with_reducible refine State.landPace_frame w8 ?_
    | with_reducible refine State.landVoltage_frame w9 ?_
    | with_reducible refine State.landMap_frame w10 ?_
    | with_reducible refine State.landSections_frame w11 ?_
    | with_reducible refine State.landJobs_frame w12 ?_
    | with_reducible refine State.landDefers_frame w13 ?_
    | with_reducible refine State.landCuts_frame w14 ?_
    | with_reducible refine State.landSteps_frame w15 ?_
    | with_reducible refine State.landStarts_frame w16 ?_
    | with_reducible refine State.landMail_frame w17 ?_
    | with_reducible refine State.publishMail_frame w18 ?_
    | with_reducible refine State.readHeaders_frame w19 ?_
    | with_reducible refine State.startReplays_frame w20 ?_
    | with_reducible refine State.startSheets_frame w21 ?_
    | with_reducible refine State.leaveOld_frame w22 ?_
    | with_reducible refine State.kickAll_frame w23 ?_
    | with_reducible refine State.kickKind_frame w24 ?_
    | with_reducible refine State.countOverruns_frame w25 ?_
    | with_reducible refine State.showEngines_frame w26 ?_
    | with_reducible refine State.showWalkers_frame w27 ?_
    | with_reducible refine State.showIngest_frame w28 ?_
    | with_reducible refine State.showCore_frame w29 ?_
    | with_reducible refine State.each_frame ?_ ?_
    | with_reducible refine Frame.ite ?_ ?_
    | with_reducible refine Frame.foldl ?_ _ _ ?_
    | split
    | with_reducible refine Frame.of_snd (by with_reducible assumption) ?_
    | with_reducible refine Frame.of_fst (by with_reducible assumption) ?_
    | with_reducible refine Frame.snd_mk ?_
    | with_reducible refine Frame.fst_mk ?_

end Sys2Proof.Machine
end

