-- ==== Sys2Proof/Laws/ByteCheck.lean ====
section
/-! SUPPORT. The byte check flags every byte with one or two bit errors (R388), whichever arrangement of the code is built. -/

namespace Sys2Proof.Machine

theorem nodup_getElem {α : Type} {l : List α} (h : l.Nodup) {i j : Nat} {hi : i < l.length} {hj : j < l.length} (e : l[i] = l[j]) : i = j := by
  rcases Nat.lt_trichotomy i j with k | k | k
  · exact absurd e (List.pairwise_iff_getElem.mp h i j hi hj k)
  · exact k
  · exact absurd e.symm (List.pairwise_iff_getElem.mp h j i hj hi k)

/-- The columns picked are distinct, as many as asked, and among those on offer. -/
theorem pickColumns_spec (pick : Nat → Nat) (n : Nat) : ∀ left : List (BitVec 4), left.Nodup → n ≤ left.length →
    (pickColumns pick n left).length = n ∧ (pickColumns pick n left).Nodup ∧ ∀ x ∈ pickColumns pick n left, x ∈ left := by
  induction n with
  | zero => intro left _ _; simp [pickColumns]
  | succ n ih =>
    intro left hd hn
    have hk : pick n % left.length < left.length := Nat.mod_lt _ (by omega)
    generalize hj : pick n % left.length = k at hk
    have hlen : (left.eraseIdx k).length = left.length - 1 := by simp [List.length_eraseIdx, hk]
    obtain ⟨h1, h2, h3⟩ := ih (left.eraseIdx k) (hd.sublist (List.eraseIdx_sublist left k)) (by omega)
    have hg : left.getD k 0 = left[k] := by simp [List.getD_eq_getElem?_getD, hk]
    simp only [pickColumns, hj, hg]
    refine ⟨by simp [h1], ?_, ?_⟩
    · refine List.nodup_cons.mpr ⟨fun hx => ?_, h2⟩
      have := h3 _ hx
      obtain ⟨i, hi, he⟩ := List.mem_eraseIdx_iff_getElem.mp this
      obtain ⟨hi2, he2⟩ := he
      exact hi2 (nodup_getElem hd he2)
    · intro x hx
      rcases List.mem_cons.mp hx with rfl | hx
      · exact List.getElem_mem _
      · exact (List.eraseIdx_sublist left k).mem (h3 x hx)

theorem checkColumns_spec : checkColumns.length = 8 ∧ checkColumns.Nodup ∧ (0 : BitVec 4) ∉ checkColumns := by
  obtain ⟨h1, h2, h3⟩ := pickColumns_spec Config.checkColumn 8 [3, 5, 6, 7, 9, 10, 11, 12, 13, 14, 15] (by decide) (by decide)
  exact ⟨h1, h2, fun h => absurd (h3 0 h) (by decide)⟩

theorem checkFold_xor (cols : List (BitVec 4)) (v w : Byte) (l : List Nat) : ∀ c d : BitVec 4,
    l.foldl (fun c j => if (v ^^^ w).getLsbD j then c ^^^ cols.getD j 0 else c) (c ^^^ d) =
      l.foldl (fun c j => if v.getLsbD j then c ^^^ cols.getD j 0 else c) c ^^^
        l.foldl (fun c j => if w.getLsbD j then c ^^^ cols.getD j 0 else c) d := by
  induction l with
  | nil => intro c d; rfl
  | cons j l ih =>
    intro c d
    have key : ∀ (c d k : BitVec 4) (p q : Bool), (if (p ^^ q) = true then c ^^^ d ^^^ k else c ^^^ d) =
        (if p = true then c ^^^ k else c) ^^^ (if q = true then d ^^^ k else d) := by decide +kernel
    rw [List.foldl_cons, List.foldl_cons, List.foldl_cons, ← ih, ← key, BitVec.getLsbD_xor]

/-- The check is linear. -/
theorem byteCheck_xor (v w : Byte) : byteCheck (v ^^^ w) = byteCheck v ^^^ byteCheck w :=
  checkFold_xor checkColumns v w (upTo 8) 0 0

theorem byteCheck_one (j : Fin 8) : byteCheck (BitVec.twoPow 8 j.val) = checkColumns.getD j.val 0 := by
  unfold byteCheck
  generalize checkColumns = cols
  have hu : upTo 8 = [0, 1, 2, 3, 4, 5, 6, 7] := by decide
  rw [hu]
  revert j
  intro ⟨j, hj⟩
  match j, hj with
  | 0, _ | 1, _ | 2, _ | 3, _ | 4, _ | 5, _ | 6, _ | 7, _ => simp [BitVec.getLsbD_twoPow]

/-- A byte with one wrong bit is flagged. -/
theorem byteCheck_single (v : Byte) (i : Fin 8) : byteCheck (v ^^^ BitVec.twoPow 8 i.val) ≠ byteCheck v := by
  rw [byteCheck_xor, byteCheck_one]
  obtain ⟨h1, _, h3⟩ := checkColumns_spec
  have hi : i.val < checkColumns.length := by omega
  intro h
  have : checkColumns.getD i.val 0 = 0 := by
    generalize checkColumns.getD i.val 0 = k at h
    generalize byteCheck v = c at h
    revert h; revert c k; decide
  rw [List.getD_eq_getElem?_getD, List.getElem?_eq_getElem hi] at this
  exact h3 (this ▸ List.getElem_mem hi)

/-- A byte with two wrong bits is flagged. -/
theorem byteCheck_double (v : Byte) (i j : Fin 8) (hne : i ≠ j) :
    byteCheck (v ^^^ BitVec.twoPow 8 i.val ^^^ BitVec.twoPow 8 j.val) ≠ byteCheck v := by
  rw [byteCheck_xor, byteCheck_xor, byteCheck_one, byteCheck_one]
  obtain ⟨h1, h2, _⟩ := checkColumns_spec
  have hi : i.val < checkColumns.length := by omega
  have hj : j.val < checkColumns.length := by omega
  intro h
  have : checkColumns.getD i.val 0 = checkColumns.getD j.val 0 := by
    generalize checkColumns.getD i.val 0 = k at h
    generalize checkColumns.getD j.val 0 = m at h
    generalize byteCheck v = c at h
    revert h; revert c k m; decide
  rw [List.getD_eq_getElem?_getD, List.getElem?_eq_getElem hi, List.getD_eq_getElem?_getD, List.getElem?_eq_getElem hj] at this
  exact hne (Fin.ext (nodup_getElem h2 this))

end Sys2Proof.Machine
end

