-- ==== Sys2Proof/Laws/Flags.lean ====
section
/-! SUPPORT. What the operations of Machine/Flags.lean change: each differs from its argument in the areas of its mask alone. -/

set_option linter.all false

namespace Sys2Proof.Machine

def State.tilePolicy_mask : Nat := 0x602000000000000000000000000001f000000000000000000000880000000000000000000000023444600
theorem State.tilePolicy_frame {W : Nat} {s0 s : State} {q : Nat} {id : Option Nat} {t : TileStatus} {rows : Bool} (hW : Within State.tilePolicy_mask W) (h : Frame W s0 s) :
    Frame W s0 (State.tilePolicy s q id t rows) := by
  have w0 := Within.trans (a := State.breach_mask) rfl hW
  have w1 := Within.trans (a := State.legCode_mask) rfl hW
  have w2 := Within.trans (a := State.touched_mask) rfl hW
  unfold State.tilePolicy
  repeat' first
    | intro _
    | with_reducible assumption
    | (extract_lets +onlyGivenNames x; refine Frame.cut (W := W) (s0 := s0) x ?_ ?_; unfold x; clear x; rotate_left; clear_value x; revert x; intro _ _)
    | (extract_lets +onlyGivenNames x; clear_value x; revert x; intro _)
    | with_reducible refine State.breach_frame w0 ?_
    | with_reducible refine State.legCode_frame w1 ?_
    | with_reducible refine State.touched_snd w2 ?_
    | with_reducible refine Frame.ite ?_ ?_
    | with_reducible refine Frame.foldl ?_ _ _ ?_
    | split
    | with_reducible refine State.touched_frame (by with_reducible assumption) w2 ?_
    | with_reducible refine Frame.of_snd (by with_reducible assumption) ?_
    | with_reducible refine Frame.of_fst (by with_reducible assumption) ?_
    | with_reducible refine Frame.snd_mk ?_
    | with_reducible refine Frame.fst_mk ?_

end Sys2Proof.Machine
end

