-- ==== Sys2Proof/Laws/Operands.lean ====
section
/-! SUPPORT. What the operations of Machine/Operands.lean change: each differs from its argument in the areas of its mask alone. -/

set_option linter.all false

namespace Sys2Proof.Machine

def State.storeRanges_mask : Nat := 0x1000000000000000000000000000000000000000000000000000000000000000000000500000
theorem State.storeRanges_frame {W : Nat} {s0 : State} : ∀ {rs : List (Nat × Nat)} {s : State} {bs : List Byte},
    Within State.storeRanges_mask W → Frame W s0 s → Frame W s0 (s.storeRanges rs bs)
  | [], _, _, _, h => h
  | r :: rs, s, bs, hW, h => by
    unfold State.storeRanges
    exact State.storeRanges_frame hW (State.store_frame (Within.trans (a := State.store_mask) rfl hW) h)

def State.storeSram_mask : Nat := 0x1000000000000000000000000000000000000000000000000000000000000000000000500000
theorem State.storeSram_frame {W : Nat} {s0 s : State} {c : Nat} {off : Nat} {bs : List Byte} (hW : Within State.storeSram_mask W) (h : Frame W s0 s) :
    Frame W s0 (State.storeSram s c off bs) := by
  have w0 := Within.trans (a := State.storeRanges_mask) rfl hW
  unfold State.storeSram
  repeat' first
    | intro _
    | with_reducible assumption
    | (extract_lets +onlyGivenNames x; refine Frame.cut (W := W) (s0 := s0) x ?_ ?_; unfold x; clear x; rotate_left; clear_value x; revert x; intro _ _)
    | (extract_lets +onlyGivenNames x; clear_value x; revert x; intro _)
    | with_reducible refine State.storeRanges_frame w0 ?_
    | with_reducible refine Frame.ite ?_ ?_
    | with_reducible refine Frame.foldl ?_ _ _ ?_
    | split
    | with_reducible refine Frame.of_snd (by with_reducible assumption) ?_
    | with_reducible refine Frame.of_fst (by with_reducible assumption) ?_
    | with_reducible refine Frame.snd_mk ?_
    | with_reducible refine Frame.fst_mk ?_

def State.storeLanes_mask : Nat := 0x1000000000000000000000000000000000000000000000000000000000000000000000500000
theorem State.storeLanes_frame {W : Nat} {s0 : State} : ∀ {es : List ((Nat × Nat) × Nat)} {s : State} {f : Nat} {cs : List Nat},
    Within State.storeLanes_mask W → Frame W s0 s → Frame W s0 (s.storeLanes es f cs)
  | [], _, _, _, _, h => h
  | e :: es, s, f, cs, hW, h => by
    unfold State.storeLanes
    exact State.storeLanes_frame hW (State.store_frame (Within.trans (a := State.store_mask) rfl hW) h)

def State.putLanes_mask : Nat := 0x1000000000000000000000000000000000000000000000000000000000000000000000500000
theorem State.putLanes_frame {W : Nat} {s0 s : State} {c : Nat} {unit : Nat} {field : Nat} {f : Nat} {per : Nat} {cs : List Nat} (hW : Within State.putLanes_mask W) (h : Frame W s0 s) :
    Frame W s0 (State.putLanes s c unit field f per cs) := by
  have w0 := Within.trans (a := State.storeLanes_mask) rfl hW
  have w1 := Within.trans (a := State.storeSram_mask) rfl hW
  unfold State.putLanes
  repeat' first
    | intro _
    | with_reducible assumption
    | (extract_lets +onlyGivenNames x; refine Frame.cut (W := W) (s0 := s0) x ?_ ?_; unfold x; clear x; rotate_left; clear_value x; revert x; intro _ _)
    | (extract_lets +onlyGivenNames x; clear_value x; revert x; intro _)
    | with_reducible refine State.storeLanes_frame w0 ?_
    | with_reducible refine State.storeSram_frame w1 ?_
    | with_reducible refine Frame.ite ?_ ?_
    | with_reducible refine Frame.foldl ?_ _ _ ?_
    | split
    | with_reducible refine Frame.of_snd (by with_reducible assumption) ?_
    | with_reducible refine Frame.of_fst (by with_reducible assumption) ?_
    | with_reducible refine Frame.snd_mk ?_
    | with_reducible refine Frame.fst_mk ?_

end Sys2Proof.Machine
end

