-- ==== Sys2Proof/Laws/Words.lean ====
section
/-! SUPPORT. What the operations of Machine/Words.lean change: each differs from its argument in the areas of its mask alone. -/

set_option linter.all false

namespace Sys2Proof.Machine

def State.noteVerge_mask : Nat := 0x200
theorem State.noteVerge_frame {W : Nat} {s0 s : State} {c : Nat} {tok : Nat} {taken : Nat} {posted : Nat} (hW : Within State.noteVerge_mask W) (h : Frame W s0 s) :
    Frame W s0 (State.noteVerge s c tok taken posted) := by
  have w0 := Within.trans (a := State.setLeg_mask) rfl hW
  unfold State.noteVerge
  repeat' first
    | intro _
    | with_reducible assumption
    | (extract_lets +onlyGivenNames x; refine Frame.cut (W := W) (s0 := s0) x ?_ ?_; unfold x; clear x; rotate_left; clear_value x; revert x; intro _ _)
    | (extract_lets +onlyGivenNames x; clear_value x; revert x; intro _)
    | with_reducible refine State.setLeg_frame w0 ?_
    | with_reducible refine Frame.ite ?_ ?_
    | with_reducible refine Frame.foldl ?_ _ _ ?_
    | split
    | with_reducible refine Frame.of_snd (by with_reducible assumption) ?_
    | with_reducible refine Frame.of_fst (by with_reducible assumption) ?_
    | with_reducible refine Frame.snd_mk ?_
    | with_reducible refine Frame.fst_mk ?_

def State.takeToken_mask : Nat := 0x300
theorem State.takeToken_frame {W : Nat} {s0 s : State} {c : Nat} {tok : Nat} (hW : Within State.takeToken_mask W) (h : Frame W s0 s) :
    Frame W s0 (State.takeToken s c tok) := by
  have w0 := Within.trans (a := State.setCore_mask) rfl hW
  have w1 := Within.trans (a := State.noteVerge_mask) rfl hW
  have b9 := hW.bit (n := 9) (by decide)
  unfold State.takeToken
  repeat' first
    | intro _
    | with_reducible assumption
    | (extract_lets +onlyGivenNames x; refine Frame.cut (W := W) (s0 := s0) x ?_ ?_; unfold x; clear x; rotate_left; clear_value x; revert x; intro _ _)
    | (extract_lets +onlyGivenNames x; clear_value x; revert x; intro _)
    | with_reducible refine State.setCore_frame w0 ?_
    | with_reducible refine State.noteVerge_frame w1 ?_
    | with_reducible refine Frame.ite ?_ ?_
    | with_reducible refine Frame.foldl ?_ _ _ ?_
    | split
    | with_reducible refine Frame.of_snd (by with_reducible assumption) ?_
    | with_reducible refine Frame.of_fst (by with_reducible assumption) ?_
    | with_reducible refine Frame.snd_mk ?_
    | with_reducible refine Frame.fst_mk ?_
    | with_reducible refine Frame.route_upd b9 ?_

def State.fireToken_mask : Nat := 0x1000000000000000000000000000000000000000000000000000000000000000000000500300
theorem State.fireToken_frame {W : Nat} {s0 s : State} {c : Nat} {tok : Nat} (hW : Within State.fireToken_mask W) (h : Frame W s0 s) :
    Frame W s0 (State.fireToken s c tok) := by
  have w0 := Within.trans (a := State.setCore_mask) rfl hW
  have w1 := Within.trans (a := State.store_mask) rfl hW
  have w2 := Within.trans (a := State.noteVerge_mask) rfl hW
  have b9 := hW.bit (n := 9) (by decide)
  unfold State.fireToken
  repeat' first
    | intro _
    | with_reducible assumption
    | (extract_lets +onlyGivenNames x; refine Frame.cut (W := W) (s0 := s0) x ?_ ?_; unfold x; clear x; rotate_left; clear_value x; revert x; intro _ _)
    | (extract_lets +onlyGivenNames x; clear_value x; revert x; intro _)
    | with_reducible refine State.setCore_frame w0 ?_
    | with_reducible refine State.store_frame w1 ?_
    | with_reducible refine State.noteVerge_frame w2 ?_
    | with_reducible refine Frame.ite ?_ ?_
    | with_reducible refine Frame.foldl ?_ _ _ ?_
    | split
    | with_reducible refine Frame.of_snd (by with_reducible assumption) ?_
    | with_reducible refine Frame.of_fst (by with_reducible assumption) ?_
    | with_reducible refine Frame.snd_mk ?_
    | with_reducible refine Frame.fst_mk ?_
    | with_reducible refine Frame.route_upd b9 ?_

def State.fireTokens_mask : Nat := 0x1000000000000000000000000000000000000000000000000000000000000000000000500300
theorem State.fireTokens_frame {W : Nat} {s0 s : State} {c : Nat} {mask : Nat} (hW : Within State.fireTokens_mask W) (h : Frame W s0 s) :
    Frame W s0 (State.fireTokens s c mask) := by
  have w0 := Within.trans (a := State.fireToken_mask) rfl hW
  unfold State.fireTokens
  repeat' first
    | intro _
    | with_reducible assumption
    | (extract_lets +onlyGivenNames x; refine Frame.cut (W := W) (s0 := s0) x ?_ ?_; unfold x; clear x; rotate_left; clear_value x; revert x; intro _ _)
    | (extract_lets +onlyGivenNames x; clear_value x; revert x; intro _)
    | with_reducible refine State.each_frame ?_ ?_
    | with_reducible refine State.fireToken_frame w0 ?_
    | with_reducible refine Frame.ite ?_ ?_
    | with_reducible refine Frame.foldl ?_ _ _ ?_
    | split
    | with_reducible refine Frame.of_snd (by with_reducible assumption) ?_
    | with_reducible refine Frame.of_fst (by with_reducible assumption) ?_
    | with_reducible refine Frame.snd_mk ?_
    | with_reducible refine Frame.fst_mk ?_

def State.vergeSkew_mask : Nat := 0x10000000602000000000000000000000000001f001fe20000000000000008800e4240100000000000000023444785
theorem State.vergeSkew_frame {W : Nat} {s0 s : State} {c : Nat} {id : Option Nat} {tok : Nat} {expected : Nat} {found : Nat} (hW : Within State.vergeSkew_mask W) (h : Frame W s0 s) :
    Frame W s0 (State.vergeSkew s c id tok expected found) := by
  have w0 := Within.trans (a := State.raiseCore_mask) rfl hW
  have w1 := Within.trans (a := State.abortLeg_mask) rfl hW
  unfold State.vergeSkew
  repeat' first
    | intro _
    | with_reducible assumption
    | (extract_lets +onlyGivenNames x; refine Frame.cut (W := W) (s0 := s0) x ?_ ?_; unfold x; clear x; rotate_left; clear_value x; revert x; intro _ _)
    | (extract_lets +onlyGivenNames x; clear_value x; revert x; intro _)
    | with_reducible refine State.raiseCore_frame w0 ?_
    | with_reducible refine State.abortLeg_frame w1 ?_
    | with_reducible refine Frame.ite ?_ ?_
    | with_reducible refine Frame.foldl ?_ _ _ ?_
    | split
    | with_reducible refine Frame.of_snd (by with_reducible assumption) ?_
    | with_reducible refine Frame.of_fst (by with_reducible assumption) ?_
    | with_reducible refine Frame.snd_mk ?_
    | with_reducible refine Frame.fst_mk ?_

def State.awaitTokens_mask : Nat := 0x10000000602000000000000000000000000001f001fe20000000000000008800e4240100000000000000023444785
theorem State.awaitTokens_frame {W : Nat} {s0 s : State} {c : Nat} {mask : Nat} {id : Option Nat} {arrived : State → State} {waits : State → State} (hW : Within State.awaitTokens_mask W) (hf_arrived : ∀ s, Frame W s0 s → Frame W s0 (arrived s)) (hf_waits : ∀ s, Frame W s0 s → Frame W s0 (waits s)) (h : Frame W s0 s) :
    Frame W s0 (State.awaitTokens s c mask id arrived waits) := by
  have w0 := Within.trans (a := State.vergeSkew_mask) rfl hW
  have w1 := Within.trans (a := State.ready_mask) rfl hW
  have w2 := Within.trans (a := State.takeToken_mask) rfl hW
  unfold State.awaitTokens
  repeat' first
    | intro _
    | with_reducible assumption
    | (extract_lets +onlyGivenNames x; refine Frame.cut (W := W) (s0 := s0) x ?_ ?_; unfold x; clear x; rotate_left; clear_value x; revert x; intro _ _)
    | (extract_lets +onlyGivenNames x; clear_value x; revert x; intro _)
    | with_reducible refine State.vergeSkew_frame w0 ?_
    | with_reducible refine State.ready_frame w1 ?_
    | with_reducible refine State.takeToken_frame w2 ?_
    | with_reducible refine State.each_frame ?_ ?_
    | with_reducible refine Frame.ite ?_ ?_
    | with_reducible apply hf_arrived
    | with_reducible apply hf_waits
    | with_reducible refine Frame.foldl ?_ _ _ ?_
    | split
    | with_reducible refine Frame.of_snd (by with_reducible assumption) ?_
    | with_reducible refine Frame.of_fst (by with_reducible assumption) ?_
    | with_reducible refine Frame.snd_mk ?_
    | with_reducible refine Frame.fst_mk ?_
    | solve_by_elim

def State.countIllegal_mask : Nat := 0x2580000006020000000000000000000000000000000000000000000000000000000000000000000000000022400380
theorem State.countIllegal_frame {W : Nat} {s0 s : State} {c : Nat} (hW : Within State.countIllegal_mask W) (h : Frame W s0 s) :
    Frame W s0 (State.countIllegal s c) := by
  have b7 := hW.bit (n := 7) (by decide)
  have w1 := Within.trans (a := State.failCore_mask) rfl hW
  unfold State.countIllegal
  repeat' first
    | intro _
    | with_reducible assumption
    | (extract_lets +onlyGivenNames x; refine Frame.cut (W := W) (s0 := s0) x ?_ ?_; unfold x; clear x; rotate_left; clear_value x; revert x; intro _ _)
    | (extract_lets +onlyGivenNames x; clear_value x; revert x; intro _)
    | with_reducible refine State.failCore_frame w1 ?_
    | with_reducible refine Frame.ite ?_ ?_
    | with_reducible refine Frame.foldl ?_ _ _ ?_
    | split
    | with_reducible refine Frame.of_snd (by with_reducible assumption) ?_
    | with_reducible refine Frame.of_fst (by with_reducible assumption) ?_
    | with_reducible refine Frame.snd_mk ?_
    | with_reducible refine Frame.fst_mk ?_
    | with_reducible refine Frame.cores_upd b7 ?_

def State.illegalWord_mask : Nat := 0x258000000602000000000000000000000000001f001fe20000000000000008800e4240100000000000000023444785
theorem State.illegalWord_frame {W : Nat} {s0 s : State} {x : Issue} {id : Option Nat} (hW : Within State.illegalWord_mask W) (h : Frame W s0 s) :
    Frame W s0 (State.illegalWord s x id) := by
  have w0 := Within.trans (a := State.raise_mask) rfl hW
  have w1 := Within.trans (a := State.abortLeg_mask) rfl hW
  have w2 := Within.trans (a := State.countIllegal_mask) rfl hW
  unfold State.illegalWord
  repeat' first
    | intro _
    | with_reducible assumption
    | (extract_lets +onlyGivenNames x; refine Frame.cut (W := W) (s0 := s0) x ?_ ?_; unfold x; clear x; rotate_left; clear_value x; revert x; intro _ _)
    | (extract_lets +onlyGivenNames x; clear_value x; revert x; intro _)
    | with_reducible refine State.raise_frame w0 ?_
    | with_reducible refine State.abortLeg_frame w1 ?_
    | with_reducible refine State.countIllegal_frame w2 ?_
    | with_reducible refine Frame.ite ?_ ?_
    | with_reducible refine Frame.foldl ?_ _ _ ?_
    | split
    | with_reducible refine Frame.of_snd (by with_reducible assumption) ?_
    | with_reducible refine Frame.of_fst (by with_reducible assumption) ?_
    | with_reducible refine Frame.snd_mk ?_
    | with_reducible refine Frame.fst_mk ?_

def State.observeWord_mask : Nat := 0x3e0c000000000000000000000000000000000000000000000000000000000000000000000000000000005000000
theorem State.observeWord_frame {W : Nat} {s0 s : State} {x : Issue} {group : Nat} {id : Option Nat} (hW : Within State.observeWord_mask W) (h : Frame W s0 s) :
    Frame W s0 (State.observeWord s x group id) := by
  have w0 := Within.trans (a := State.perfEvent_mask) rfl hW
  have w1 := Within.trans (a := State.draw_mask) rfl hW
  have w2 := Within.trans (a := State.tagWord_mask) rfl hW
  unfold State.observeWord
  repeat' first
    | intro _
    | with_reducible assumption
    | (extract_lets +onlyGivenNames x; refine Frame.cut (W := W) (s0 := s0) x ?_ ?_; unfold x; clear x; rotate_left; clear_value x; revert x; intro _ _)
    | (extract_lets +onlyGivenNames x; clear_value x; revert x; intro _)
    | with_reducible refine State.perfEvent_frame w0 ?_
    | with_reducible refine State.tagWord_frame w2 ?_
    | with_reducible refine State.draw_snd w1 ?_
    | with_reducible refine Frame.ite ?_ ?_
    | with_reducible refine Frame.foldl ?_ _ _ ?_
    | split
    | with_reducible refine State.draw_frame (by with_reducible assumption) w1 ?_
    | with_reducible refine Frame.of_snd (by with_reducible assumption) ?_
    | with_reducible refine Frame.of_fst (by with_reducible assumption) ?_
    | with_reducible refine Frame.snd_mk ?_
    | with_reducible refine Frame.fst_mk ?_

def State.holdWord_mask : Nat := 0x100
theorem State.holdWord_frame {W : Nat} {s0 s : State} {x : Issue} {id : Option Nat} (hW : Within State.holdWord_mask W) (h : Frame W s0 s) :
    Frame W s0 (State.holdWord s x id) := by
  have w0 := Within.trans (a := State.setCore_mask) rfl hW
  unfold State.holdWord
  repeat' first
    | intro _
    | with_reducible assumption
    | (extract_lets +onlyGivenNames x; refine Frame.cut (W := W) (s0 := s0) x ?_ ?_; unfold x; clear x; rotate_left; clear_value x; revert x; intro _ _)
    | (extract_lets +onlyGivenNames x; clear_value x; revert x; intro _)
    | with_reducible refine State.setCore_frame w0 ?_
    | with_reducible refine Frame.ite ?_ ?_
    | with_reducible refine Frame.foldl ?_ _ _ ?_
    | split
    | with_reducible refine Frame.of_snd (by with_reducible assumption) ?_
    | with_reducible refine Frame.of_fst (by with_reducible assumption) ?_
    | with_reducible refine Frame.snd_mk ?_
    | with_reducible refine Frame.fst_mk ?_

def State.stepLoops_mask : Nat := 0x100
theorem State.stepLoops_frame {W : Nat} {s0 s : State} {x : Issue} {id : Option Nat} (hW : Within State.stepLoops_mask W) (h : Frame W s0 s) :
    Frame W s0 (State.stepLoops s x id) := by
  have w0 := Within.trans (a := State.setCore_mask) rfl hW
  unfold State.stepLoops
  repeat' first
    | intro _
    | with_reducible assumption
    | (extract_lets +onlyGivenNames x; refine Frame.cut (W := W) (s0 := s0) x ?_ ?_; unfold x; clear x; rotate_left; clear_value x; revert x; intro _ _)
    | (extract_lets +onlyGivenNames x; clear_value x; revert x; intro _)
    | with_reducible refine State.setCore_frame w0 ?_
    | with_reducible refine Frame.ite ?_ ?_
    | with_reducible refine Frame.foldl ?_ _ _ ?_
    | split
    | with_reducible refine Frame.of_snd (by with_reducible assumption) ?_
    | with_reducible refine Frame.of_fst (by with_reducible assumption) ?_
    | with_reducible refine Frame.snd_mk ?_
    | with_reducible refine Frame.fst_mk ?_

def State.noteMark_mask : Nat := 0x200
theorem State.noteMark_frame {W : Nat} {s0 s : State} {x : Issue} {id : Option Nat} (hW : Within State.noteMark_mask W) (h : Frame W s0 s) :
    Frame W s0 (State.noteMark s x id) := by
  have w0 := Within.trans (a := State.setLeg_mask) rfl hW
  unfold State.noteMark
  repeat' first
    | intro _
    | with_reducible assumption
    | (extract_lets +onlyGivenNames x; refine Frame.cut (W := W) (s0 := s0) x ?_ ?_; unfold x; clear x; rotate_left; clear_value x; revert x; intro _ _)
    | (extract_lets +onlyGivenNames x; clear_value x; revert x; intro _)
    | with_reducible refine State.setLeg_frame w0 ?_
    | with_reducible refine Frame.ite ?_ ?_
    | with_reducible refine Frame.foldl ?_ _ _ ?_
    | split
    | with_reducible refine Frame.of_snd (by with_reducible assumption) ?_
    | with_reducible refine Frame.of_fst (by with_reducible assumption) ?_
    | with_reducible refine Frame.snd_mk ?_
    | with_reducible refine Frame.fst_mk ?_

def State.holdGeneration_mask : Nat := 0x1de2000000000000000000000000000000000000000000000200
theorem State.holdGeneration_frame {W : Nat} {s0 s : State} {id : Option Nat} (hW : Within State.holdGeneration_mask W) (h : Frame W s0 s) :
    Frame W s0 (State.holdGeneration s id) := by
  have w0 := Within.trans (a := State.setLeg_mask) rfl hW
  have w1 := Within.trans (a := State.showPool_mask) rfl hW
  unfold State.holdGeneration
  repeat' first
    | intro _
    | with_reducible assumption
    | (extract_lets +onlyGivenNames x; refine Frame.cut (W := W) (s0 := s0) x ?_ ?_; unfold x; clear x; rotate_left; clear_value x; revert x; intro _ _)
    | (extract_lets +onlyGivenNames x; clear_value x; revert x; intro _)
    | with_reducible refine State.setLeg_frame w0 ?_
    | with_reducible refine State.showPool_frame w1 ?_
    | with_reducible refine Frame.ite ?_ ?_
    | with_reducible refine Frame.foldl ?_ _ _ ?_
    | split
    | with_reducible refine Frame.of_snd (by with_reducible assumption) ?_
    | with_reducible refine Frame.of_fst (by with_reducible assumption) ?_
    | with_reducible refine Frame.snd_mk ?_
    | with_reducible refine Frame.fst_mk ?_

def State.issue_mask : Nat := 0x2583e0c00602000000100000000000000000001f001fe20000000000000008800e4240100000000000000027544785
theorem State.issue_frame {W : Nat} {s0 s : State} {x : Issue} {cls : Nat} {op : Nat} {legal : Bool} {ready : Bool} {fires : Bool} {body : State → Option Nat → State} (hW : Within State.issue_mask W) (hf_body : ∀ s a1, Frame W s0 s → Frame W s0 (body s a1)) (h : Frame W s0 s) :
    Frame W s0 (State.issue s x cls op legal ready fires body) := by
  have w0 := Within.trans (a := State.holdWord_mask) rfl hW
  have w1 := Within.trans (a := State.stepLoops_mask) rfl hW
  have w2 := Within.trans (a := State.illegalWord_mask) rfl hW
  have w3 := Within.trans (a := State.awaitTokens_mask) rfl hW
  have w4 := Within.trans (a := State.holdGeneration_mask) rfl hW
  have w5 := Within.trans (a := State.observeWord_mask) rfl hW
  have w6 := Within.trans (a := State.noteMark_mask) rfl hW
  have w7 := Within.trans (a := State.fireTokens_mask) rfl hW
  unfold State.issue
  repeat' first
    | intro _
    | with_reducible assumption
    | (extract_lets +onlyGivenNames x; refine Frame.cut (W := W) (s0 := s0) x ?_ ?_; unfold x; clear x; rotate_left; clear_value x; revert x; intro _ _)
    | (extract_lets +onlyGivenNames x; clear_value x; revert x; intro _)
    | with_reducible refine State.holdWord_frame w0 ?_
    | with_reducible refine State.stepLoops_frame w1 ?_
    | with_reducible refine State.illegalWord_frame w2 ?_
    | with_reducible refine State.awaitTokens_frame w3 ?_ ?_ ?_
    | with_reducible refine State.holdGeneration_frame w4 ?_
    | with_reducible refine State.observeWord_frame w5 ?_
    | with_reducible refine State.noteMark_frame w6 ?_
    | with_reducible refine State.fireTokens_frame w7 ?_
    | with_reducible refine Frame.ite ?_ ?_
    | with_reducible apply hf_body
    | with_reducible refine Frame.foldl ?_ _ _ ?_
    | split
    | with_reducible refine Frame.of_snd (by with_reducible assumption) ?_
    | with_reducible refine Frame.of_fst (by with_reducible assumption) ?_
    | with_reducible refine Frame.snd_mk ?_
    | with_reducible refine Frame.fst_mk ?_
    | solve_by_elim

end Sys2Proof.Machine
end

