-- ==== Sys2Proof/Laws/Matrix.lean ====
section
/-! SUPPORT. What the operations of Machine/Matrix.lean change: each differs from its argument in the areas of its mask alone. -/

set_option linter.all false

namespace Sys2Proof.Machine

def State.reading_mask : Nat := 0x2d8000c0060201f0001e0000118000000000001f001fe20000000000000008800e42401000000000000000235cc785
theorem State.reading_frame {W : Nat} {s0 s : State} {c : Nat} {id : Option Nat} {rs : List (Nat × Nat)} {f : State → State} (hW : Within State.reading_mask W) (hf_f : ∀ s, Frame W s0 s → Frame W s0 (f s)) (h : Frame W s0 s) :
    Frame W s0 (State.reading s c id rs f) := by
  have w0 := Within.trans (a := State.checkRead_mask) rfl hW
  unfold State.reading
  repeat' first
    | intro _
    | with_reducible assumption
    | (extract_lets +onlyGivenNames x; refine Frame.cut (W := W) (s0 := s0) x ?_ ?_; unfold x; clear x; rotate_left; clear_value x; revert x; intro _ _)
    | (extract_lets +onlyGivenNames x; clear_value x; revert x; intro _)
    | with_reducible refine State.checkRead_snd w0 ?_
    | with_reducible refine Frame.ite ?_ ?_
    | with_reducible apply hf_f
    | with_reducible refine Frame.foldl ?_ _ _ ?_
    | split
    | with_reducible refine State.checkRead_frame (by with_reducible assumption) w0 ?_
    | with_reducible refine Frame.of_snd (by with_reducible assumption) ?_
    | with_reducible refine Frame.of_fst (by with_reducible assumption) ?_
    | with_reducible refine Frame.snd_mk ?_
    | with_reducible refine Frame.fst_mk ?_

def execMload_mask : Nat := 0x2d83e0c0060201f0001e0000198000000000501f001fe20000000000000008800e42401000000000000000275cc785
theorem execMload_frame {s nx : State} {x : Issue} (e : execMload x s = .next nx) : Frame execMload_mask s nx := by
  refine State.run_frame rfl (fun W s0 s hW h => ?_) e
  have w0 := Within.trans (a := State.issue_mask) rfl hW
  have w1 := Within.trans (a := State.reading_mask) rfl hW
  have w2 := Within.trans (a := State.setCore_mask) rfl hW
  repeat' first
    | intro _
    | with_reducible assumption
    | (extract_lets +onlyGivenNames x; refine Frame.cut (W := W) (s0 := s0) x ?_ ?_; unfold x; clear x; rotate_left; clear_value x; revert x; intro _ _)
    | (extract_lets +onlyGivenNames x; clear_value x; revert x; intro _)
    | with_reducible refine State.issue_frame w0 ?_ ?_
    | with_reducible refine State.reading_frame w1 ?_ ?_
    | with_reducible refine State.setCore_frame w2 ?_
    | with_reducible refine Frame.ite ?_ ?_
    | with_reducible refine Frame.foldl ?_ _ _ ?_
    | split
    | with_reducible refine Frame.of_snd (by with_reducible assumption) ?_
    | with_reducible refine Frame.of_fst (by with_reducible assumption) ?_
    | with_reducible refine Frame.snd_mk ?_
    | with_reducible refine Frame.fst_mk ?_

def execMswap_mask : Nat := 0x2583e0c00602000000100000080000000000501f001fe20000000000000008800e424010000000000000002754c785
theorem execMswap_frame {s nx : State} {x : Issue} (e : execMswap x s = .next nx) : Frame execMswap_mask s nx := by
  refine State.run_frame rfl (fun W s0 s hW h => ?_) e
  have w0 := Within.trans (a := State.issue_mask) rfl hW
  have w1 := Within.trans (a := State.setCore_mask) rfl hW
  repeat' first
    | intro _
    | with_reducible assumption
    | (extract_lets +onlyGivenNames x; refine Frame.cut (W := W) (s0 := s0) x ?_ ?_; unfold x; clear x; rotate_left; clear_value x; revert x; intro _ _)
    | (extract_lets +onlyGivenNames x; clear_value x; revert x; intro _)
    | with_reducible refine State.issue_frame w0 ?_ ?_
    | with_reducible refine State.setCore_frame w1 ?_
    | with_reducible refine Frame.ite ?_ ?_
    | with_reducible refine Frame.foldl ?_ _ _ ?_
    | split
    | with_reducible refine Frame.of_snd (by with_reducible assumption) ?_
    | with_reducible refine Frame.of_fst (by with_reducible assumption) ?_
    | with_reducible refine Frame.snd_mk ?_
    | with_reducible refine Frame.fst_mk ?_

def execMma_mask : Nat := 0x2d83e0c0060201f0001e0000198000000000501f001fe20000000000000008800e42401000000000000000275cc785
theorem execMma_frame {s nx : State} {x : Issue} (e : execMma x s = .next nx) : Frame execMma_mask s nx := by
  refine State.run_frame rfl (fun W s0 s hW h => ?_) e
  have w0 := Within.trans (a := State.issue_mask) rfl hW
  have w1 := Within.trans (a := State.reading_mask) rfl hW
  have w2 := Within.trans (a := State.setCore_mask) rfl hW
  have w3 := Within.trans (a := State.perfEvent_mask) rfl hW
  repeat' first
    | intro _
    | with_reducible assumption
    | (extract_lets +onlyGivenNames x; refine Frame.cut (W := W) (s0 := s0) x ?_ ?_; unfold x; clear x; rotate_left; clear_value x; revert x; intro _ _)
    | (extract_lets +onlyGivenNames x; clear_value x; revert x; intro _)
    | with_reducible refine State.issue_frame w0 ?_ ?_
    | with_reducible refine State.reading_frame w1 ?_ ?_
    | with_reducible refine State.setCore_frame w2 ?_
    | with_reducible refine State.perfEvent_frame w3 ?_
    | with_reducible refine Frame.ite ?_ ?_
    | with_reducible refine Frame.foldl ?_ _ _ ?_
    | split
    | with_reducible refine Frame.of_snd (by with_reducible assumption) ?_
    | with_reducible refine Frame.of_fst (by with_reducible assumption) ?_
    | with_reducible refine Frame.snd_mk ?_
    | with_reducible refine Frame.fst_mk ?_
    | with_reducible refine Frame.foldl_snd ?_ _ _ ?_
    | with_reducible refine Frame.foldl_fst ?_ _ _ ?_
    | with_reducible refine Frame.foldr_snd ?_ _ _ ?_
    | with_reducible refine Frame.Snd.mk ?_
    | with_reducible refine Frame.Fst.mk ?_
    | dsimp only

def execAclr_mask : Nat := 0x2583e0c00602000000100000080000000000501f001fe20000000000000008800e424010000000000000002754c785
theorem execAclr_frame {s nx : State} {x : Issue} (e : execAclr x s = .next nx) : Frame execAclr_mask s nx := by
  refine State.run_frame rfl (fun W s0 s hW h => ?_) e
  have w0 := Within.trans (a := State.issue_mask) rfl hW
  have w1 := Within.trans (a := State.setCore_mask) rfl hW
  repeat' first
    | intro _
    | with_reducible assumption
    | (extract_lets +onlyGivenNames x; refine Frame.cut (W := W) (s0 := s0) x ?_ ?_; unfold x; clear x; rotate_left; clear_value x; revert x; intro _ _)
    | (extract_lets +onlyGivenNames x; clear_value x; revert x; intro _)
    | with_reducible refine State.issue_frame w0 ?_ ?_
    | with_reducible refine State.setCore_frame w1 ?_
    | with_reducible refine Frame.ite ?_ ?_
    | with_reducible refine Frame.foldl ?_ _ _ ?_
    | split
    | with_reducible refine Frame.of_snd (by with_reducible assumption) ?_
    | with_reducible refine Frame.of_fst (by with_reducible assumption) ?_
    | with_reducible refine Frame.snd_mk ?_
    | with_reducible refine Frame.fst_mk ?_
    | with_reducible refine Frame.foldl_snd ?_ _ _ ?_
    | with_reducible refine Frame.foldl_fst ?_ _ _ ?_
    | with_reducible refine Frame.foldr_snd ?_ _ _ ?_
    | with_reducible refine Frame.Snd.mk ?_
    | with_reducible refine Frame.Fst.mk ?_
    | dsimp only

def execAbias_mask : Nat := 0x2d83e0c0060201f0001e0000198000000000501f001fe20000000000000008800e42401000000000000000275cc785
theorem execAbias_frame {s nx : State} {x : Issue} (e : execAbias x s = .next nx) : Frame execAbias_mask s nx := by
  refine State.run_frame rfl (fun W s0 s hW h => ?_) e
  have w0 := Within.trans (a := State.issue_mask) rfl hW
  have w1 := Within.trans (a := State.reading_mask) rfl hW
  have w2 := Within.trans (a := State.setCore_mask) rfl hW
  repeat' first
    | intro _
    | with_reducible assumption
    | (extract_lets +onlyGivenNames x; refine Frame.cut (W := W) (s0 := s0) x ?_ ?_; unfold x; clear x; rotate_left; clear_value x; revert x; intro _ _)
    | (extract_lets +onlyGivenNames x; clear_value x; revert x; intro _)
    | with_reducible refine State.issue_frame w0 ?_ ?_
    | with_reducible refine State.reading_frame w1 ?_ ?_
    | with_reducible refine State.setCore_frame w2 ?_
    | with_reducible refine Frame.ite ?_ ?_
    | with_reducible refine Frame.foldl ?_ _ _ ?_
    | split
    | with_reducible refine Frame.of_snd (by with_reducible assumption) ?_
    | with_reducible refine Frame.of_fst (by with_reducible assumption) ?_
    | with_reducible refine Frame.snd_mk ?_
    | with_reducible refine Frame.fst_mk ?_

def execAscale_mask : Nat := 0x2d83e0c0060201f0001e0000198000000000501f001fe20000000000000008800e42401000000000000000275cc785
theorem execAscale_frame {s nx : State} {x : Issue} (e : execAscale x s = .next nx) : Frame execAscale_mask s nx := by
  refine State.run_frame rfl (fun W s0 s hW h => ?_) e
  have w0 := Within.trans (a := State.issue_mask) rfl hW
  have w1 := Within.trans (a := State.reading_mask) rfl hW
  have w2 := Within.trans (a := State.setCore_mask) rfl hW
  repeat' first
    | intro _
    | with_reducible assumption
    | (extract_lets +onlyGivenNames x; refine Frame.cut (W := W) (s0 := s0) x ?_ ?_; unfold x; clear x; rotate_left; clear_value x; revert x; intro _ _)
    | (extract_lets +onlyGivenNames x; clear_value x; revert x; intro _)
    | with_reducible refine State.issue_frame w0 ?_ ?_
    | with_reducible refine State.reading_frame w1 ?_ ?_
    | with_reducible refine State.setCore_frame w2 ?_
    | with_reducible refine Frame.ite ?_ ?_
    | with_reducible refine Frame.foldl ?_ _ _ ?_
    | split
    | with_reducible refine Frame.of_snd (by with_reducible assumption) ?_
    | with_reducible refine Frame.of_fst (by with_reducible assumption) ?_
    | with_reducible refine Frame.snd_mk ?_
    | with_reducible refine Frame.fst_mk ?_

def State.storeRaw_mask : Nat := 0x1000000000000000000000000000000000000000000000000000000000000000000000500000
theorem State.storeRaw_frame {W : Nat} {s0 s : State} {c : Nat} {field : Nat} {bs : List Byte} (hW : Within State.storeRaw_mask W) (h : Frame W s0 s) :
    Frame W s0 (State.storeRaw s c field bs) := by
  have w0 := Within.trans (a := State.storeRanges_mask) rfl hW
  unfold State.storeRaw
  repeat' first
    | intro _
    | with_reducible assumption
    | (extract_lets +onlyGivenNames x; refine Frame.cut (W := W) (s0 := s0) x ?_ ?_; unfold x; clear x; rotate_left; clear_value x; revert x; intro _ _)
    | (extract_lets +onlyGivenNames x; clear_value x; revert x; intro _)
    | with_reducible refine State.storeRanges_frame w0 ?_
    | with_reducible refine Frame.ite ?_ ?_
    | with_reducible refine Frame.foldl ?_ _ _ ?_
    | split
    | with_reducible refine Frame.of_snd (by with_reducible assumption) ?_
    | with_reducible refine Frame.of_fst (by with_reducible assumption) ?_
    | with_reducible refine Frame.snd_mk ?_
    | with_reducible refine Frame.fst_mk ?_

def execAdrain_mask : Nat := 0x2583e0c00602000000100000080000000000501f001fe20000000000000008800e424010000000000000002754c785
theorem execAdrain_frame {s nx : State} {x : Issue} (e : execAdrain x s = .next nx) : Frame execAdrain_mask s nx := by
  refine State.run_frame rfl (fun W s0 s hW h => ?_) e
  have w0 := Within.trans (a := State.issue_mask) rfl hW
  have w1 := Within.trans (a := State.storeRaw_mask) rfl hW
  have w2 := Within.trans (a := State.perfEvent_mask) rfl hW
  have w3 := Within.trans (a := State.breach_mask) rfl hW
  have w4 := Within.trans (a := State.tilePolicy_mask) rfl hW
  repeat' first
    | intro _
    | with_reducible assumption
    | (extract_lets +onlyGivenNames x; refine Frame.cut (W := W) (s0 := s0) x ?_ ?_; unfold x; clear x; rotate_left; clear_value x; revert x; intro _ _)
    | (extract_lets +onlyGivenNames x; refine Frame.cutF (W := W) (s0 := s0) x ?_ ?_; unfold x; clear x; rotate_left; clear_value x; revert x; intro _ _)
    | (extract_lets +onlyGivenNames x; refine Frame.cutG (W := W) (s0 := s0) x ?_ ?_; unfold x; clear x; rotate_left; clear_value x; revert x; intro _ _)
    | (extract_lets +onlyGivenNames x; refine Frame.cutN (W := W) (s0 := s0) x ?_ ?_; unfold x; clear x; rotate_left; clear_value x; revert x; intro _ _)
    | (extract_lets +onlyGivenNames x; refine Frame.cutH (W := W) (s0 := s0) x ?_ ?_; unfold x; clear x; rotate_left; clear_value x; revert x; intro _ _)
    | (extract_lets +onlyGivenNames x; refine Frame.cutI (W := W) (s0 := s0) x ?_ ?_; unfold x; clear x; rotate_left; clear_value x; revert x; intro _ _)
    | (extract_lets +onlyGivenNames x; clear_value x; revert x; intro _)
    | with_reducible refine State.issue_frame w0 ?_ ?_
    | with_reducible refine State.storeRaw_frame w1 ?_
    | with_reducible refine State.perfEvent_frame w2 ?_
    | with_reducible refine State.breach_frame w3 ?_
    | with_reducible refine State.tilePolicy_frame w4 ?_
    | with_reducible refine Frame.ite ?_ ?_
    | with_reducible refine Frame.foldl ?_ _ _ ?_
    | split
    | with_reducible refine Frame.of_snd (by with_reducible assumption) ?_
    | with_reducible refine Frame.of_fst (by with_reducible assumption) ?_
    | with_reducible refine Frame.snd_mk ?_
    | with_reducible refine Frame.fst_mk ?_
    | with_reducible refine Frame.foldl_snd ?_ _ _ ?_
    | with_reducible refine Frame.foldl_fst ?_ _ _ ?_
    | with_reducible refine Frame.foldr_snd ?_ _ _ ?_
    | with_reducible refine Frame.Snd.mk ?_
    | with_reducible refine Frame.Fst.mk ?_
    | dsimp only
    | solve_by_elim

def execAsave_mask : Nat := 0x2583e0c00602000000100000080000000000501f001fe20000000000000008800e424010000000000000002754c785
theorem execAsave_frame {s nx : State} {x : Issue} (e : execAsave x s = .next nx) : Frame execAsave_mask s nx := by
  refine State.run_frame rfl (fun W s0 s hW h => ?_) e
  have w0 := Within.trans (a := State.issue_mask) rfl hW
  have w1 := Within.trans (a := State.storeRaw_mask) rfl hW
  have w2 := Within.trans (a := State.breach_mask) rfl hW
  have w3 := Within.trans (a := State.tilePolicy_mask) rfl hW
  have w4 := Within.trans (a := State.legCode_mask) rfl hW
  repeat' first
    | intro _
    | with_reducible assumption
    | (extract_lets +onlyGivenNames x; refine Frame.cut (W := W) (s0 := s0) x ?_ ?_; unfold x; clear x; rotate_left; clear_value x; revert x; intro _ _)
    | (extract_lets +onlyGivenNames x; clear_value x; revert x; intro _)
    | with_reducible refine State.issue_frame w0 ?_ ?_
    | with_reducible refine State.storeRaw_frame w1 ?_
    | with_reducible refine State.breach_frame w2 ?_
    | with_reducible refine State.tilePolicy_frame w3 ?_
    | with_reducible refine State.legCode_frame w4 ?_
    | with_reducible refine Frame.ite ?_ ?_
    | with_reducible refine Frame.foldl ?_ _ _ ?_
    | split
    | with_reducible refine Frame.of_snd (by with_reducible assumption) ?_
    | with_reducible refine Frame.of_fst (by with_reducible assumption) ?_
    | with_reducible refine Frame.snd_mk ?_
    | with_reducible refine Frame.fst_mk ?_
    | with_reducible refine Frame.foldl_snd ?_ _ _ ?_
    | with_reducible refine Frame.foldl_fst ?_ _ _ ?_
    | with_reducible refine Frame.foldr_snd ?_ _ _ ?_
    | with_reducible refine Frame.Snd.mk ?_
    | with_reducible refine Frame.Fst.mk ?_
    | dsimp only

def execArestore_mask : Nat := 0x2d83e0c0060201f0001e0000198000000000501f001fe20000000000000008800e42401000000000000000275cc785
theorem execArestore_frame {s nx : State} {x : Issue} (e : execArestore x s = .next nx) : Frame execArestore_mask s nx := by
  refine State.run_frame rfl (fun W s0 s hW h => ?_) e
  have w0 := Within.trans (a := State.issue_mask) rfl hW
  have w1 := Within.trans (a := State.reading_mask) rfl hW
  have w2 := Within.trans (a := State.setCore_mask) rfl hW
  repeat' first
    | intro _
    | with_reducible assumption
    | (extract_lets +onlyGivenNames x; refine Frame.cut (W := W) (s0 := s0) x ?_ ?_; unfold x; clear x; rotate_left; clear_value x; revert x; intro _ _)
    | (extract_lets +onlyGivenNames x; clear_value x; revert x; intro _)
    | with_reducible refine State.issue_frame w0 ?_ ?_
    | with_reducible refine State.reading_frame w1 ?_ ?_
    | with_reducible refine State.setCore_frame w2 ?_
    | with_reducible refine Frame.ite ?_ ?_
    | with_reducible refine Frame.foldl ?_ _ _ ?_
    | split
    | with_reducible refine Frame.of_snd (by with_reducible assumption) ?_
    | with_reducible refine Frame.of_fst (by with_reducible assumption) ?_
    | with_reducible refine Frame.snd_mk ?_
    | with_reducible refine Frame.fst_mk ?_
    | with_reducible refine Frame.foldl_snd ?_ _ _ ?_
    | with_reducible refine Frame.foldl_fst ?_ _ _ ?_
    | with_reducible refine Frame.foldr_snd ?_ _ _ ?_
    | with_reducible refine Frame.Snd.mk ?_
    | with_reducible refine Frame.Fst.mk ?_
    | dsimp only

end Sys2Proof.Machine
end

