-- ==== Sys2Proof/Laws/Edge.lean ====
section
/-! SUPPORT. What the operations of Machine/Edge.lean change: each differs from its argument in the areas of its mask alone. -/

set_option linter.all false

namespace Sys2Proof.Machine

def State.startCall_mask : Nat := 0x100
theorem State.startCall_frame {W : Nat} {s0 s : State} {c : Nat} {k : Call} (hW : Within State.startCall_mask W) (h : Frame W s0 s) :
    Frame W s0 (State.startCall s c k) := by
  have w0 := Within.trans (a := State.setCore_mask) rfl hW
  unfold State.startCall
  repeat' first
    | intro _
    | with_reducible assumption
    | (extract_lets +onlyGivenNames x; refine Frame.cut (W := W) (s0 := s0) x ?_ ?_; unfold x; clear x; rotate_left; clear_value x; revert x; intro _ _)
    | (extract_lets +onlyGivenNames x; clear_value x; revert x; intro _)
    | with_reducible refine State.setCore_frame w0 ?_
    | with_reducible refine Frame.ite ?_ ?_
    | with_reducible refine Frame.foldl ?_ _ _ ?_
    | split
    | with_reducible refine Frame.of_snd (by with_reducible assumption) ?_
    | with_reducible refine Frame.of_fst (by with_reducible assumption) ?_
    | with_reducible refine Frame.snd_mk ?_
    | with_reducible refine Frame.fst_mk ?_

def State.finishCall_mask : Nat := 0xc00602000000100000000000000000001f000000000000000000000880000000000000000000000023544700
theorem State.finishCall_frame {W : Nat} {s0 s : State} {c : Nat} {k : Call} {once : Bool} {event : Nat} (hW : Within State.finishCall_mask W) (h : Frame W s0 s) :
    Frame W s0 (State.finishCall s c k once event) := by
  have w0 := Within.trans (a := State.storeAll_mask) rfl hW
  have w1 := Within.trans (a := State.perfEvent_mask) rfl hW
  have w2 := Within.trans (a := State.legCode_mask) rfl hW
  have w3 := Within.trans (a := State.raiseCore_mask) rfl hW
  have w4 := Within.trans (a := State.breach_mask) rfl hW
  have w5 := Within.trans (a := State.fireTokens_mask) rfl hW
  unfold State.finishCall
  repeat' first
    | intro _
    | with_reducible assumption
    | (extract_lets +onlyGivenNames x; refine Frame.cut (W := W) (s0 := s0) x ?_ ?_; unfold x; clear x; rotate_left; clear_value x; revert x; intro _ _)
    | (extract_lets +onlyGivenNames x; clear_value x; revert x; intro _)
    | with_reducible refine State.storeAll_frame w0 ?_
    | with_reducible refine State.perfEvent_frame w1 ?_
    | with_reducible refine State.legCode_frame w2 ?_
    | with_reducible refine State.raiseCore_frame w3 ?_
    | with_reducible refine State.breach_frame w4 ?_
    | with_reducible refine State.fireTokens_frame w5 ?_
    | with_reducible refine State.each_frame ?_ ?_
    | with_reducible refine Frame.ite ?_ ?_
    | with_reducible refine Frame.foldl ?_ _ _ ?_
    | split
    | with_reducible refine Frame.of_snd (by with_reducible assumption) ?_
    | with_reducible refine Frame.of_fst (by with_reducible assumption) ?_
    | with_reducible refine Frame.snd_mk ?_
    | with_reducible refine Frame.fst_mk ?_

def State.completeCall_mask : Nat := 0x100
theorem State.completeCall_frame {W : Nat} {s0 s : State} {c : Nat} {kinds : List Nat} {f : State → Call → State} (hW : Within State.completeCall_mask W) (hf_f : ∀ s a1, Frame W s0 s → Frame W s0 (f s a1)) (h : Frame W s0 s) :
    Frame W s0 (State.completeCall s c kinds f) := by
  have w0 := Within.trans (a := State.setCore_mask) rfl hW
  unfold State.completeCall
  repeat' first
    | intro _
    | with_reducible assumption
    | (extract_lets +onlyGivenNames x; refine Frame.cut (W := W) (s0 := s0) x ?_ ?_; unfold x; clear x; rotate_left; clear_value x; revert x; intro _ _)
    | (extract_lets +onlyGivenNames x; clear_value x; revert x; intro _)
    | with_reducible refine State.setCore_frame w0 ?_
    | with_reducible refine Frame.ite ?_ ?_
    | with_reducible apply hf_f
    | with_reducible refine Frame.foldl ?_ _ _ ?_
    | split
    | with_reducible refine Frame.of_snd (by with_reducible assumption) ?_
    | with_reducible refine Frame.of_fst (by with_reducible assumption) ?_
    | with_reducible refine Frame.snd_mk ?_
    | with_reducible refine Frame.fst_mk ?_
    | with_reducible refine Frame.foldl_snd ?_ _ _ ?_
    | with_reducible refine Frame.foldl_fst ?_ _ _ ?_
    | with_reducible refine Frame.foldr_snd ?_ _ _ ?_
    | with_reducible refine Frame.Snd.mk ?_
    | with_reducible refine Frame.Fst.mk ?_
    | dsimp only
    | solve_by_elim

def State.edgeSlots_mask : Nat := 0x1000000
theorem State.edgeSlots_snd {W : Nat} {s0 s : State} {id : Option Nat} {st : TileStatus} (hW : Within State.edgeSlots_mask W) (h : Frame W s0 s) :
    Frame W s0 (State.edgeSlots s id st).2 := by
  have w0 := Within.trans (a := State.touched_mask) rfl hW
  have key : Frame.Snd W s0 (State.edgeSlots s id st) := by
    unfold State.edgeSlots
    repeat' first
      | intro _
      | with_reducible assumption
      | (extract_lets +onlyGivenNames x; refine Frame.cut (W := W) (s0 := s0) x ?_ ?_; unfold x; clear x; rotate_left; clear_value x; revert x; intro _ _)
      | (extract_lets +onlyGivenNames x; clear_value x; revert x; intro _)
      | with_reducible refine Frame.snd_mk ?_
      | with_reducible refine State.touched_snd w0 ?_
      | with_reducible refine Frame.ite ?_ ?_
      | with_reducible refine Frame.foldl ?_ _ _ ?_
      | split
      | with_reducible refine State.touched_frame (by with_reducible assumption) w0 ?_
      | with_reducible refine Frame.of_snd (by with_reducible assumption) ?_
      | with_reducible refine Frame.of_fst (by with_reducible assumption) ?_
      | with_reducible refine Frame.snd_mk ?_
      | with_reducible refine Frame.fst_mk ?_
      | with_reducible refine Frame.foldl_snd ?_ _ _ ?_
      | with_reducible refine Frame.foldl_fst ?_ _ _ ?_
      | with_reducible refine Frame.foldr_snd ?_ _ _ ?_
      | with_reducible refine Frame.Snd.mk ?_
      | with_reducible refine Frame.Fst.mk ?_
      | dsimp only
  exact key.out
theorem State.edgeSlots_frame {W : Nat} {s0 s : State} {id : Option Nat} {st : TileStatus} {r0 : Option (List Nat)} {t : State} (e : State.edgeSlots s id st = (r0, t)) (hW : Within State.edgeSlots_mask W) (h : Frame W s0 s) :
    Frame W s0 t := by
  have key := State.edgeSlots_snd (id := id) (st := st) hW h
  rw [e] at key; exact key

def execErun_mask : Nat := 0x2d83e0c0060201f0001e0000198000000000501f001fe20000000000000008800e42401000000000000000275cc785
theorem execErun_frame {s nx : State} {x : Issue} (e : execErun x s = .next nx) : Frame execErun_mask s nx := by
  refine State.run_frame rfl (fun W s0 s hW h => ?_) e
  have w0 := Within.trans (a := State.issue_mask) rfl hW
  have w1 := Within.trans (a := State.reading_mask) rfl hW
  have w2 := Within.trans (a := State.breach_mask) rfl hW
  have w3 := Within.trans (a := State.edgeSlots_mask) rfl hW
  have w4 := Within.trans (a := State.startCall_mask) rfl hW
  repeat' first
    | intro _
    | with_reducible assumption
    | (extract_lets +onlyGivenNames x; refine Frame.cut (W := W) (s0 := s0) x ?_ ?_; unfold x; clear x; rotate_left; clear_value x; revert x; intro _ _)
    | (extract_lets +onlyGivenNames x; refine Frame.cutF (W := W) (s0 := s0) x ?_ ?_; unfold x; clear x; rotate_left; clear_value x; revert x; intro _ _)
    | (extract_lets +onlyGivenNames x; refine Frame.cutG (W := W) (s0 := s0) x ?_ ?_; unfold x; clear x; rotate_left; clear_value x; revert x; intro _ _)
    | (extract_lets +onlyGivenNames x; refine Frame.cutN (W := W) (s0 := s0) x ?_ ?_; unfold x; clear x; rotate_left; clear_value x; revert x; intro _ _)
    | (extract_lets +onlyGivenNames x; refine Frame.cutH (W := W) (s0 := s0) x ?_ ?_; unfold x; clear x; rotate_left; clear_value x; revert x; intro _ _)
    | (extract_lets +onlyGivenNames x; refine Frame.cutI (W := W) (s0 := s0) x ?_ ?_; unfold x; clear x; rotate_left; clear_value x; revert x; intro _ _)
    | (extract_lets +onlyGivenNames x; clear_value x; revert x; intro _)
    | with_reducible refine State.issue_frame w0 ?_ ?_
    | with_reducible refine State.reading_frame w1 ?_ ?_
    | with_reducible refine State.breach_frame w2 ?_
    | with_reducible refine State.startCall_frame w4 ?_
    | with_reducible refine State.edgeSlots_snd w3 ?_
    | with_reducible refine Frame.ite ?_ ?_
    | with_reducible refine Frame.foldl ?_ _ _ ?_
    | split
    | with_reducible refine State.edgeSlots_frame (by with_reducible assumption) w3 ?_
    | with_reducible refine Frame.of_snd (by with_reducible assumption) ?_
    | with_reducible refine Frame.of_fst (by with_reducible assumption) ?_
    | with_reducible refine Frame.snd_mk ?_
    | with_reducible refine Frame.fst_mk ?_
    | with_reducible refine Frame.foldl_snd ?_ _ _ ?_
    | with_reducible refine Frame.foldl_fst ?_ _ _ ?_
    | with_reducible refine Frame.foldr_snd ?_ _ _ ?_
    | with_reducible refine Frame.Snd.mk ?_
    | with_reducible refine Frame.Fst.mk ?_
    | dsimp only
    | solve_by_elim

def execPrun_mask : Nat := 0x2d83e0c0060201f0001e0000198000000000501f001fe20000000000000008800e42401000000000000000275cc785
theorem execPrun_frame {s nx : State} {x : Issue} (e : execPrun x s = .next nx) : Frame execPrun_mask s nx := by
  refine State.run_frame rfl (fun W s0 s hW h => ?_) e
  have w0 := Within.trans (a := State.issue_mask) rfl hW
  have w1 := Within.trans (a := State.reading_mask) rfl hW
  have w2 := Within.trans (a := State.startCall_mask) rfl hW
  repeat' first
    | intro _
    | with_reducible assumption
    | (extract_lets +onlyGivenNames x; refine Frame.cut (W := W) (s0 := s0) x ?_ ?_; unfold x; clear x; rotate_left; clear_value x; revert x; intro _ _)
    | (extract_lets +onlyGivenNames x; refine Frame.cutF (W := W) (s0 := s0) x ?_ ?_; unfold x; clear x; rotate_left; clear_value x; revert x; intro _ _)
    | (extract_lets +onlyGivenNames x; refine Frame.cutG (W := W) (s0 := s0) x ?_ ?_; unfold x; clear x; rotate_left; clear_value x; revert x; intro _ _)
    | (extract_lets +onlyGivenNames x; refine Frame.cutN (W := W) (s0 := s0) x ?_ ?_; unfold x; clear x; rotate_left; clear_value x; revert x; intro _ _)
    | (extract_lets +onlyGivenNames x; refine Frame.cutH (W := W) (s0 := s0) x ?_ ?_; unfold x; clear x; rotate_left; clear_value x; revert x; intro _ _)
    | (extract_lets +onlyGivenNames x; refine Frame.cutI (W := W) (s0 := s0) x ?_ ?_; unfold x; clear x; rotate_left; clear_value x; revert x; intro _ _)
    | (extract_lets +onlyGivenNames x; clear_value x; revert x; intro _)
    | with_reducible refine State.issue_frame w0 ?_ ?_
    | with_reducible refine State.reading_frame w1 ?_ ?_
    | with_reducible refine State.startCall_frame w2 ?_
    | with_reducible refine Frame.ite ?_ ?_
    | with_reducible refine Frame.foldl ?_ _ _ ?_
    | split
    | with_reducible refine Frame.of_snd (by with_reducible assumption) ?_
    | with_reducible refine Frame.of_fst (by with_reducible assumption) ?_
    | with_reducible refine Frame.snd_mk ?_
    | with_reducible refine Frame.fst_mk ?_
    | solve_by_elim

def execEdgeCallComplete_mask : Nat := 0xc00602000000100000080000000000501f00000000000000000000088000000000000000000000002354c700
theorem execEdgeCallComplete_frame {s nx : State} {c : CoreId} (e : execEdgeCallComplete c s = .next nx) : Frame execEdgeCallComplete_mask s nx := by
  refine State.run_frame rfl (fun W s0 s hW h => ?_) e
  have w0 := Within.trans (a := State.completeCall_mask) rfl hW
  have w1 := Within.trans (a := State.finishCall_mask) rfl hW
  repeat' first
    | intro _
    | with_reducible assumption
    | (extract_lets +onlyGivenNames x; refine Frame.cut (W := W) (s0 := s0) x ?_ ?_; unfold x; clear x; rotate_left; clear_value x; revert x; intro _ _)
    | (extract_lets +onlyGivenNames x; clear_value x; revert x; intro _)
    | with_reducible refine State.completeCall_frame w0 ?_ ?_
    | with_reducible refine State.finishCall_frame w1 ?_
    | with_reducible refine Frame.ite ?_ ?_
    | with_reducible refine Frame.foldl ?_ _ _ ?_
    | split
    | with_reducible refine Frame.of_snd (by with_reducible assumption) ?_
    | with_reducible refine Frame.of_fst (by with_reducible assumption) ?_

end Sys2Proof.Machine
end

