-- ==== Sys2Proof/Laws/Check.lean ====
section
/-! SUPPORT. What the operations of Machine/Check.lean change: each differs from its argument in the areas of its mask alone. -/

set_option linter.all false

namespace Sys2Proof.Machine

def State.check_mask : Nat := 0x2d83e0c0060201f0001e0000118000000000001f001fe20000000000000008800e42401000000000000000275cc785
theorem State.check_frame {W : Nat} {s0 s : State} {x : Issue} {op : Nat} {reads : CheckDesc → (Nat → Nat) → List (Nat × Nat)} {f : State → CheckDesc → (Nat → Nat) → Call → Call} (hW : Within State.check_mask W) (h : Frame W s0 s) :
    Frame W s0 (State.check s x op reads f) := by
  have w0 := Within.trans (a := State.issue_mask) rfl hW
  have w1 := Within.trans (a := State.reading_mask) rfl hW
  have w2 := Within.trans (a := State.startCall_mask) rfl hW
  unfold State.check
  repeat' first
    | intro _
    | with_reducible assumption
    | (extract_lets +onlyGivenNames x; refine Frame.cut (W := W) (s0 := s0) x ?_ ?_; unfold x; clear x; rotate_left; clear_value x; revert x; intro _ _)
    | (extract_lets +onlyGivenNames x; refine Frame.cutF (W := W) (s0 := s0) x ?_ ?_; unfold x; clear x; rotate_left; clear_value x; revert x; intro _ _)
    | (extract_lets +onlyGivenNames x; refine Frame.cutG (W := W) (s0 := s0) x ?_ ?_; unfold x; clear x; rotate_left; clear_value x; revert x; intro _ _)
    | (extract_lets +onlyGivenNames x; refine Frame.cutN (W := W) (s0 := s0) x ?_ ?_; unfold x; clear x; rotate_left; clear_value x; revert x; intro _ _)
    | (extract_lets +onlyGivenNames x; refine Frame.cutH (W := W) (s0 := s0) x ?_ ?_; unfold x; clear x; rotate_left; clear_value x; revert x; intro _ _)
    | (extract_lets +onlyGivenNames x; refine Frame.cutI (W := W) (s0 := s0) x ?_ ?_; unfold x; clear x; rotate_left; clear_value x; revert x; intro _ _)
    | (extract_lets +onlyGivenNames x; clear_value x; revert x; intro _)
    | with_reducible refine State.issue_frame w0 ?_ ?_
    | with_reducible refine State.reading_frame w1 ?_ ?_
    | with_reducible refine State.startCall_frame w2 ?_
    | with_reducible refine Frame.ite ?_ ?_
    | with_reducible refine Frame.foldl ?_ _ _ ?_
    | split
    | with_reducible refine Frame.of_snd (by with_reducible assumption) ?_
    | with_reducible refine Frame.of_fst (by with_reducible assumption) ?_
    | with_reducible refine Frame.snd_mk ?_
    | with_reducible refine Frame.fst_mk ?_
    | solve_by_elim

def execCappend_mask : Nat := 0x2d83e0c0060201f0001e0000198000000000501f001fe20000000000000008800e42401000000000000000275cc785
theorem execCappend_frame {s nx : State} {x : Issue} (e : execCappend x s = .next nx) : Frame execCappend_mask s nx := by
  refine State.run_frame rfl (fun W s0 s hW h => ?_) e
  have w0 := Within.trans (a := State.check_mask) rfl hW
  repeat' first
    | intro _
    | with_reducible assumption
    | (extract_lets +onlyGivenNames x; refine Frame.cut (W := W) (s0 := s0) x ?_ ?_; unfold x; clear x; rotate_left; clear_value x; revert x; intro _ _)
    | (extract_lets +onlyGivenNames x; clear_value x; revert x; intro _)
    | with_reducible refine State.check_frame w0 ?_
    | with_reducible refine Frame.ite ?_ ?_
    | with_reducible refine Frame.foldl ?_ _ _ ?_
    | split
    | with_reducible refine Frame.of_snd (by with_reducible assumption) ?_
    | with_reducible refine Frame.of_fst (by with_reducible assumption) ?_

def execCcheck_mask : Nat := 0x2d83e0c0060201f0001e0000198000000000501f001fe20000000000000008800e42401000000000000000275cc785
theorem execCcheck_frame {s nx : State} {x : Issue} (e : execCcheck x s = .next nx) : Frame execCcheck_mask s nx := by
  refine State.run_frame rfl (fun W s0 s hW h => ?_) e
  have w0 := Within.trans (a := State.check_mask) rfl hW
  repeat' first
    | intro _
    | with_reducible assumption
    | (extract_lets +onlyGivenNames x; refine Frame.cut (W := W) (s0 := s0) x ?_ ?_; unfold x; clear x; rotate_left; clear_value x; revert x; intro _ _)
    | (extract_lets +onlyGivenNames x; clear_value x; revert x; intro _)
    | with_reducible refine State.check_frame w0 ?_
    | with_reducible refine Frame.ite ?_ ?_
    | with_reducible refine Frame.foldl ?_ _ _ ?_
    | split
    | with_reducible refine Frame.of_snd (by with_reducible assumption) ?_
    | with_reducible refine Frame.of_fst (by with_reducible assumption) ?_

def execCstrip_mask : Nat := 0x2d83e0c0060201f0001e0000198000000000501f001fe20000000000000008800e42401000000000000000275cc785
theorem execCstrip_frame {s nx : State} {x : Issue} (e : execCstrip x s = .next nx) : Frame execCstrip_mask s nx := by
  refine State.run_frame rfl (fun W s0 s hW h => ?_) e
  have w0 := Within.trans (a := State.check_mask) rfl hW
  repeat' first
    | intro _
    | with_reducible assumption
    | (extract_lets +onlyGivenNames x; refine Frame.cut (W := W) (s0 := s0) x ?_ ?_; unfold x; clear x; rotate_left; clear_value x; revert x; intro _ _)
    | (extract_lets +onlyGivenNames x; clear_value x; revert x; intro _)
    | with_reducible refine State.check_frame w0 ?_
    | with_reducible refine Frame.ite ?_ ?_
    | with_reducible refine Frame.foldl ?_ _ _ ?_
    | split
    | with_reducible refine Frame.of_snd (by with_reducible assumption) ?_
    | with_reducible refine Frame.of_fst (by with_reducible assumption) ?_

def execCrange_mask : Nat := 0x2d83e0c0060201f0001e0000198000000000501f001fe20000000000000008800e42401000000000000000275cc785
theorem execCrange_frame {s nx : State} {x : Issue} (e : execCrange x s = .next nx) : Frame execCrange_mask s nx := by
  refine State.run_frame rfl (fun W s0 s hW h => ?_) e
  have w0 := Within.trans (a := State.check_mask) rfl hW
  repeat' first
    | intro _
    | with_reducible assumption
    | (extract_lets +onlyGivenNames x; refine Frame.cut (W := W) (s0 := s0) x ?_ ?_; unfold x; clear x; rotate_left; clear_value x; revert x; intro _ _)
    | (extract_lets +onlyGivenNames x; clear_value x; revert x; intro _)
    | with_reducible refine State.check_frame w0 ?_
    | with_reducible refine Frame.ite ?_ ?_
    | with_reducible refine Frame.foldl ?_ _ _ ?_
    | split
    | with_reducible refine Frame.of_snd (by with_reducible assumption) ?_
    | with_reducible refine Frame.of_fst (by with_reducible assumption) ?_

def execCcompare_mask : Nat := 0x2d83e0c0060201f0001e0000198000000000501f001fe20000000000000008800e42401000000000000000275cc785
theorem execCcompare_frame {s nx : State} {x : Issue} (e : execCcompare x s = .next nx) : Frame execCcompare_mask s nx := by
  refine State.run_frame rfl (fun W s0 s hW h => ?_) e
  have w0 := Within.trans (a := State.check_mask) rfl hW
  repeat' first
    | intro _
    | with_reducible assumption
    | (extract_lets +onlyGivenNames x; refine Frame.cut (W := W) (s0 := s0) x ?_ ?_; unfold x; clear x; rotate_left; clear_value x; revert x; intro _ _)
    | (extract_lets +onlyGivenNames x; clear_value x; revert x; intro _)
    | with_reducible refine State.check_frame w0 ?_
    | with_reducible refine Frame.ite ?_ ?_
    | with_reducible refine Frame.foldl ?_ _ _ ?_
    | split
    | with_reducible refine Frame.of_snd (by with_reducible assumption) ?_
    | with_reducible refine Frame.of_fst (by with_reducible assumption) ?_

def State.recomputeMismatch_mask : Nat := 0x602080000000000000000000000001f000000000000000000000880000000000000000000000023444200
theorem State.recomputeMismatch_frame {W : Nat} {s0 s : State} {it : Iter} {ls : List Nat} (hW : Within State.recomputeMismatch_mask W) (h : Frame W s0 s) :
    Frame W s0 (State.recomputeMismatch s it ls) := by
  have b323 := hW.bit (n := 323) (by decide)
  have w1 := Within.trans (a := State.raise_mask) rfl hW
  have w2 := Within.trans (a := State.invalidate_mask) rfl hW
  have w3 := Within.trans (a := State.setIter_mask) rfl hW
  unfold State.recomputeMismatch
  repeat' first
    | intro _
    | with_reducible assumption
    | (extract_lets +onlyGivenNames x; refine Frame.cut (W := W) (s0 := s0) x ?_ ?_; unfold x; clear x; rotate_left; clear_value x; revert x; intro _ _)
    | (extract_lets +onlyGivenNames x; clear_value x; revert x; intro _)
    | with_reducible refine State.inc_frame (F.INTEG_RECOMP_FAULT_mismatches_kind _) b323 ?_
    | with_reducible refine State.each_frame ?_ ?_
    | with_reducible refine State.raise_frame w1 ?_
    | with_reducible refine State.invalidate_frame w2 ?_
    | with_reducible refine State.setIter_frame w3 ?_
    | with_reducible refine Frame.ite ?_ ?_
    | with_reducible refine Frame.foldl ?_ _ _ ?_
    | split
    | with_reducible refine Frame.of_snd (by with_reducible assumption) ?_
    | with_reducible refine Frame.of_fst (by with_reducible assumption) ?_
    | with_reducible refine Frame.snd_mk ?_
    | with_reducible refine Frame.fst_mk ?_

def State.traceCall_mask : Nat := 0x6020000000030000000000000000000000000000000000000000000000000000000000000000022040200
theorem State.traceCall_frame {W : Nat} {s0 s : State} {k : Call} (hW : Within State.traceCall_mask W) (h : Frame W s0 s) :
    Frame W s0 (State.traceCall s k) := by
  have w0 := Within.trans (a := State.setLeg_mask) rfl hW
  have w1 := Within.trans (a := State.trace_mask) rfl hW
  unfold State.traceCall
  repeat' first
    | intro _
    | with_reducible assumption
    | (extract_lets +onlyGivenNames x; refine Frame.cut (W := W) (s0 := s0) x ?_ ?_; unfold x; clear x; rotate_left; clear_value x; revert x; intro _ _)
    | (extract_lets +onlyGivenNames x; clear_value x; revert x; intro _)
    | with_reducible refine State.setLeg_frame w0 ?_
    | with_reducible refine State.trace_frame w1 ?_
    | with_reducible refine Frame.ite ?_ ?_
    | with_reducible refine Frame.foldl ?_ _ _ ?_
    | split
    | with_reducible refine Frame.of_snd (by with_reducible assumption) ?_
    | with_reducible refine Frame.of_fst (by with_reducible assumption) ?_
    | with_reducible refine Frame.snd_mk ?_
    | with_reducible refine Frame.fst_mk ?_

def execCheckCallComplete_mask : Nat := 0xc00602380000103000082000000000501f00000000000000000000088000000000000000000000002356c700
theorem execCheckCallComplete_frame {s nx : State} {c : CoreId} {block : Option SeamBlock} (e : execCheckCallComplete c block s = .next nx) : Frame execCheckCallComplete_mask s nx := by
  refine State.run_frame rfl (fun W s0 s hW h => ?_) e
  have w0 := Within.trans (a := State.completeCall_mask) rfl hW
  have w1 := Within.trans (a := State.finishCall_mask) rfl hW
  have w2 := Within.trans (a := State.recomputeMismatch_mask) rfl hW
  have w3 := Within.trans (a := State.traceCall_mask) rfl hW
  have w4 := Within.trans (a := State.seamOwn_mask) rfl hW
  repeat' first
    | intro _
    | with_reducible assumption
    | (extract_lets +onlyGivenNames x; refine Frame.cut (W := W) (s0 := s0) x ?_ ?_; unfold x; clear x; rotate_left; clear_value x; revert x; intro _ _)
    | (extract_lets +onlyGivenNames x; clear_value x; revert x; intro _)
    | with_reducible refine State.completeCall_frame w0 ?_ ?_
    | with_reducible refine State.finishCall_frame w1 ?_
    | with_reducible refine State.recomputeMismatch_frame w2 ?_
    | with_reducible refine State.traceCall_frame w3 ?_
    | with_reducible refine State.seamOwn_frame w4 ?_
    | with_reducible refine Frame.ite ?_ ?_
    | with_reducible refine Frame.foldl ?_ _ _ ?_
    | split
    | with_reducible refine Frame.of_snd (by with_reducible assumption) ?_
    | with_reducible refine Frame.of_fst (by with_reducible assumption) ?_

end Sys2Proof.Machine
end

