-- ==== Sys2Proof/Laws/State.lean ====
section
/-! SUPPORT. Reads through the updates of a state: one lemma for each field and each kind of update. -/

set_option linter.all false

namespace Sys2Proof.Machine

variable {s : State} {f g : Field} {n v : Nat}


/-- The value of a field in a register file. -/
def regGet (rs : Tab Word) (f : Field) : Nat := fieldOf (regRead rs f.key) f.lo f.width

/-- A record update leaves the register fields, unless it brings a register file of its own. -/
@[simp] theorem get_mk {a0 : Running} {a1 : Variant} {a2 : Board} {a3 : Zld} {a4 : Keep} {a5 : Flash} {a6 : Boot} {a7 : PaceSt} {a8 : CoreMapSt} {a9 : Tab CoreExec} {a10 : RouteSt} {a11 : Tab Pool} {a12 : Lanes} {a13 : Isp} {a14 : Tab IngQueue} {a15 : Motion} {a16 : Fio} {a17 : TimeSt} {a18 : PeerSt} {a19 : HostSt} {a20 : SafeSt} {a21 : IntegSt} {a22 : Power} {a23 : Tab Word} {a24 : List Host.Cell} {a25 : Clock} {a26 : Nat} {a27 : Recorder} {a28 : Perf} {a29 : Tab Reply} {a30 : Tab Word} {a31 : List (Nat × Nat)} {a32 : List Instr} :
    (State.mk a0 a1 a2 a3 a4 a5 a6 a7 a8 a9 a10 a11 a12 a13 a14 a15 a16 a17 a18 a19 a20 a21 a22 a23 a24 a25 a26 a27 a28 a29 a30 a31 a32).get f = regGet a23 f := (rfl)

@[simp] theorem regGet_regs : regGet s.regs f = s.get f := rfl


/-! ### The other components after a write of a register field -/

@[simp] theorem set_cfg : (s.set f v).cfg = s.cfg := (rfl)
@[simp] theorem set_variant : (s.set f v).variant = s.variant := (rfl)
@[simp] theorem set_board : (s.set f v).board = s.board := (rfl)
@[simp] theorem set_zld : (s.set f v).zld = s.zld := (rfl)
@[simp] theorem set_keep : (s.set f v).keep = s.keep := (rfl)
@[simp] theorem set_flash : (s.set f v).flash = s.flash := (rfl)
@[simp] theorem set_boot : (s.set f v).boot = s.boot := (rfl)
@[simp] theorem set_pace : (s.set f v).pace = s.pace := (rfl)
@[simp] theorem set_cores : (s.set f v).cores = s.cores := (rfl)
@[simp] theorem set_exec : (s.set f v).exec = s.exec := (rfl)
@[simp] theorem set_route : (s.set f v).route = s.route := (rfl)
@[simp] theorem set_kv : (s.set f v).kv = s.kv := (rfl)
@[simp] theorem set_lane : (s.set f v).lane = s.lane := (rfl)
@[simp] theorem set_isp : (s.set f v).isp = s.isp := (rfl)
@[simp] theorem set_ingest : (s.set f v).ingest = s.ingest := (rfl)
@[simp] theorem set_motion : (s.set f v).motion = s.motion := (rfl)
@[simp] theorem set_fio : (s.set f v).fio = s.fio := (rfl)
@[simp] theorem set_time : (s.set f v).time = s.time := (rfl)
@[simp] theorem set_peer : (s.set f v).peer = s.peer := (rfl)
@[simp] theorem set_host : (s.set f v).host = s.host := (rfl)
@[simp] theorem set_safe : (s.set f v).safe = s.safe := (rfl)
@[simp] theorem set_integ : (s.set f v).integ = s.integ := (rfl)
@[simp] theorem set_power : (s.set f v).power = s.power := (rfl)
@[simp] theorem set_mem : (s.set f v).mem = s.mem := (rfl)
@[simp] theorem set_clk : (s.set f v).clk = s.clk := (rfl)
@[simp] theorem set_free : (s.set f v).free = s.free := (rfl)
@[simp] theorem set_recorder : (s.set f v).recorder = s.recorder := (rfl)
@[simp] theorem set_perf : (s.set f v).perf = s.perf := (rfl)
@[simp] theorem set_replies : (s.set f v).replies = s.replies := (rfl)
@[simp] theorem set_hiLatch : (s.set f v).hiLatch = s.hiLatch := (rfl)
@[simp] theorem set_msix : (s.set f v).msix = s.msix := (rfl)
@[simp] theorem set_pending : (s.set f v).pending = s.pending := (rfl)

/-! ### A register field after a write of a register field -/

/-- The field written, where it fits its word. -/
theorem State.get_set (h : f.lo + f.width ≤ 32) : (s.set f v).get f = v % 2 ^ f.width := State.get_set_self s f v h

/-- A field of a register of another kind. -/
theorem State.get_set_kind (h : regKind f.key ≠ regKind g.key) : (s.set g v).get f = s.get f :=
  State.get_set_ne s g f v (fun e => h (by rw [e]))

/-- Another field of the same register. -/
theorem State.get_set_field (hk : f.key = g.key) (h : f.lo + f.width ≤ g.lo ∨ g.lo + g.width ≤ f.lo)
    (hf : f.lo + f.width ≤ 32) : (s.set g v).get f = s.get f := State.get_set_apart s g f v hk h hf

theorem State.setB_def {b : Bool} : s.setB f b = s.set f (bit b) := (rfl)
theorem State.inc_def : s.inc f = s.set f (min (s.get f + 1) (2 ^ f.width - 1)) := (rfl)
theorem State.addSat_def : s.addSat f n = s.set f (min (s.get f + n) (2 ^ f.width - 1)) := (rfl)
theorem State.incWrap_def : s.incWrap f = s.set f (s.get f + 1) := (rfl)

@[simp] theorem bit_true : bit true = 1 := (rfl)
@[simp] theorem bit_false : bit false = 0 := (rfl)
@[simp] theorem State.each_nil {α : Type} {h : State → α → State} : s.each [] h = s := (rfl)
@[simp] theorem State.each_cons {α : Type} {h : State → α → State} {a : α} {l : List α} : s.each (a :: l) h = (h s a).each l h := (rfl)
@[simp] theorem State.when_true {h : State → State} : s.when true h = h s := (rfl)
@[simp] theorem State.when_false {h : State → State} : s.when false h = s := (rfl)

end Sys2Proof.Machine
end

