-- ==== Sys2Proof/Laws/Get.lean ====
section
/-! SUPPORT. Reads after the operations that close most commands: a waymark, a vector, an answer, the outputs. -/

set_option linter.all false

namespace Sys2Proof.Machine

variable {s : State} {f : Field}

theorem get_raise {c : Nat} {ps : List Nat} (h : State.raise_mask.testBit (regKind f.key) = false) : (s.raise c ps).get f = s.get f :=
 (State.raise_frame (W := State.raise_mask) (Within.refl _) (Frame.refl _ s)).get f h
@[simp] theorem raise_cfg {c : Nat} {ps : List Nat} : (s.raise c ps).cfg = s.cfg := (State.raise_frame (W := State.raise_mask) (Within.refl _) (Frame.refl _ s)).cfg rfl
@[simp] theorem raise_board {c : Nat} {ps : List Nat} : (s.raise c ps).board = s.board := (State.raise_frame (W := State.raise_mask) (Within.refl _) (Frame.refl _ s)).board rfl
@[simp] theorem raise_zld {c : Nat} {ps : List Nat} : (s.raise c ps).zld = s.zld := (State.raise_frame (W := State.raise_mask) (Within.refl _) (Frame.refl _ s)).zld rfl
@[simp] theorem raise_keep {c : Nat} {ps : List Nat} : (s.raise c ps).keep = s.keep := (State.raise_frame (W := State.raise_mask) (Within.refl _) (Frame.refl _ s)).keep rfl
@[simp] theorem raise_flash {c : Nat} {ps : List Nat} : (s.raise c ps).flash = s.flash := (State.raise_frame (W := State.raise_mask) (Within.refl _) (Frame.refl _ s)).flash rfl
@[simp] theorem raise_boot {c : Nat} {ps : List Nat} : (s.raise c ps).boot = s.boot := (State.raise_frame (W := State.raise_mask) (Within.refl _) (Frame.refl _ s)).boot rfl
@[simp] theorem raise_pace {c : Nat} {ps : List Nat} : (s.raise c ps).pace = s.pace := (State.raise_frame (W := State.raise_mask) (Within.refl _) (Frame.refl _ s)).pace rfl
@[simp] theorem raise_cores {c : Nat} {ps : List Nat} : (s.raise c ps).cores = s.cores := (State.raise_frame (W := State.raise_mask) (Within.refl _) (Frame.refl _ s)).cores rfl
@[simp] theorem raise_exec {c : Nat} {ps : List Nat} : (s.raise c ps).exec = s.exec := (State.raise_frame (W := State.raise_mask) (Within.refl _) (Frame.refl _ s)).exec rfl
@[simp] theorem raise_route {c : Nat} {ps : List Nat} : (s.raise c ps).route = s.route := (State.raise_frame (W := State.raise_mask) (Within.refl _) (Frame.refl _ s)).route rfl
@[simp] theorem raise_kv {c : Nat} {ps : List Nat} : (s.raise c ps).kv = s.kv := (State.raise_frame (W := State.raise_mask) (Within.refl _) (Frame.refl _ s)).kv rfl
@[simp] theorem raise_lane {c : Nat} {ps : List Nat} : (s.raise c ps).lane = s.lane := (State.raise_frame (W := State.raise_mask) (Within.refl _) (Frame.refl _ s)).lane rfl
@[simp] theorem raise_isp {c : Nat} {ps : List Nat} : (s.raise c ps).isp = s.isp := (State.raise_frame (W := State.raise_mask) (Within.refl _) (Frame.refl _ s)).isp rfl
@[simp] theorem raise_ingest {c : Nat} {ps : List Nat} : (s.raise c ps).ingest = s.ingest := (State.raise_frame (W := State.raise_mask) (Within.refl _) (Frame.refl _ s)).ingest rfl
@[simp] theorem raise_motion {c : Nat} {ps : List Nat} : (s.raise c ps).motion = s.motion := (State.raise_frame (W := State.raise_mask) (Within.refl _) (Frame.refl _ s)).motion rfl
@[simp] theorem raise_fio {c : Nat} {ps : List Nat} : (s.raise c ps).fio = s.fio := (State.raise_frame (W := State.raise_mask) (Within.refl _) (Frame.refl _ s)).fio rfl
@[simp] theorem raise_time {c : Nat} {ps : List Nat} : (s.raise c ps).time = s.time := (State.raise_frame (W := State.raise_mask) (Within.refl _) (Frame.refl _ s)).time rfl
@[simp] theorem raise_peer {c : Nat} {ps : List Nat} : (s.raise c ps).peer = s.peer := (State.raise_frame (W := State.raise_mask) (Within.refl _) (Frame.refl _ s)).peer rfl
@[simp] theorem raise_host {c : Nat} {ps : List Nat} : (s.raise c ps).host = s.host := (State.raise_frame (W := State.raise_mask) (Within.refl _) (Frame.refl _ s)).host rfl
@[simp] theorem raise_safe {c : Nat} {ps : List Nat} : (s.raise c ps).safe = s.safe := (State.raise_frame (W := State.raise_mask) (Within.refl _) (Frame.refl _ s)).safe rfl
@[simp] theorem raise_integ {c : Nat} {ps : List Nat} : (s.raise c ps).integ = s.integ := (State.raise_frame (W := State.raise_mask) (Within.refl _) (Frame.refl _ s)).integ rfl
@[simp] theorem raise_power {c : Nat} {ps : List Nat} : (s.raise c ps).power = s.power := (State.raise_frame (W := State.raise_mask) (Within.refl _) (Frame.refl _ s)).power rfl
@[simp] theorem raise_mem {c : Nat} {ps : List Nat} : (s.raise c ps).mem = s.mem := (State.raise_frame (W := State.raise_mask) (Within.refl _) (Frame.refl _ s)).mem rfl
@[simp] theorem raise_clk {c : Nat} {ps : List Nat} : (s.raise c ps).clk = s.clk := (State.raise_frame (W := State.raise_mask) (Within.refl _) (Frame.refl _ s)).clk rfl
@[simp] theorem raise_free {c : Nat} {ps : List Nat} : (s.raise c ps).free = s.free := (State.raise_frame (W := State.raise_mask) (Within.refl _) (Frame.refl _ s)).free rfl
@[simp] theorem raise_perf {c : Nat} {ps : List Nat} : (s.raise c ps).perf = s.perf := (State.raise_frame (W := State.raise_mask) (Within.refl _) (Frame.refl _ s)).perf rfl
@[simp] theorem raise_replies {c : Nat} {ps : List Nat} : (s.raise c ps).replies = s.replies := (State.raise_frame (W := State.raise_mask) (Within.refl _) (Frame.refl _ s)).replies rfl
@[simp] theorem raise_hiLatch {c : Nat} {ps : List Nat} : (s.raise c ps).hiLatch = s.hiLatch := (State.raise_frame (W := State.raise_mask) (Within.refl _) (Frame.refl _ s)).hiLatch rfl
@[simp] theorem raise_variant {c : Nat} {ps : List Nat} : (s.raise c ps).variant = s.variant := (State.raise_frame (W := State.raise_mask) (Within.refl _) (Frame.refl _ s)).variant
@[simp] theorem raise_pending {c : Nat} {ps : List Nat} : (s.raise c ps).pending = s.pending := (State.raise_frame (W := State.raise_mask) (Within.refl _) (Frame.refl _ s)).pending

theorem get_raiseAt {i c : Nat} {ps : List Nat} (h : State.raiseAt_mask.testBit (regKind f.key) = false) : (s.raiseAt i c ps).get f = s.get f :=
 (State.raiseAt_frame (W := State.raiseAt_mask) (Within.refl _) (Frame.refl _ s)).get f h
@[simp] theorem raiseAt_cfg {i c : Nat} {ps : List Nat} : (s.raiseAt i c ps).cfg = s.cfg := (State.raiseAt_frame (W := State.raiseAt_mask) (Within.refl _) (Frame.refl _ s)).cfg rfl
@[simp] theorem raiseAt_board {i c : Nat} {ps : List Nat} : (s.raiseAt i c ps).board = s.board := (State.raiseAt_frame (W := State.raiseAt_mask) (Within.refl _) (Frame.refl _ s)).board rfl
@[simp] theorem raiseAt_zld {i c : Nat} {ps : List Nat} : (s.raiseAt i c ps).zld = s.zld := (State.raiseAt_frame (W := State.raiseAt_mask) (Within.refl _) (Frame.refl _ s)).zld rfl
@[simp] theorem raiseAt_keep {i c : Nat} {ps : List Nat} : (s.raiseAt i c ps).keep = s.keep := (State.raiseAt_frame (W := State.raiseAt_mask) (Within.refl _) (Frame.refl _ s)).keep rfl
@[simp] theorem raiseAt_flash {i c : Nat} {ps : List Nat} : (s.raiseAt i c ps).flash = s.flash := (State.raiseAt_frame (W := State.raiseAt_mask) (Within.refl _) (Frame.refl _ s)).flash rfl
@[simp] theorem raiseAt_boot {i c : Nat} {ps : List Nat} : (s.raiseAt i c ps).boot = s.boot := (State.raiseAt_frame (W := State.raiseAt_mask) (Within.refl _) (Frame.refl _ s)).boot rfl
@[simp] theorem raiseAt_pace {i c : Nat} {ps : List Nat} : (s.raiseAt i c ps).pace = s.pace := (State.raiseAt_frame (W := State.raiseAt_mask) (Within.refl _) (Frame.refl _ s)).pace rfl
@[simp] theorem raiseAt_cores {i c : Nat} {ps : List Nat} : (s.raiseAt i c ps).cores = s.cores := (State.raiseAt_frame (W := State.raiseAt_mask) (Within.refl _) (Frame.refl _ s)).cores rfl
@[simp] theorem raiseAt_exec {i c : Nat} {ps : List Nat} : (s.raiseAt i c ps).exec = s.exec := (State.raiseAt_frame (W := State.raiseAt_mask) (Within.refl _) (Frame.refl _ s)).exec rfl
@[simp] theorem raiseAt_route {i c : Nat} {ps : List Nat} : (s.raiseAt i c ps).route = s.route := (State.raiseAt_frame (W := State.raiseAt_mask) (Within.refl _) (Frame.refl _ s)).route rfl
@[simp] theorem raiseAt_kv {i c : Nat} {ps : List Nat} : (s.raiseAt i c ps).kv = s.kv := (State.raiseAt_frame (W := State.raiseAt_mask) (Within.refl _) (Frame.refl _ s)).kv rfl
@[simp] theorem raiseAt_lane {i c : Nat} {ps : List Nat} : (s.raiseAt i c ps).lane = s.lane := (State.raiseAt_frame (W := State.raiseAt_mask) (Within.refl _) (Frame.refl _ s)).lane rfl
@[simp] theorem raiseAt_isp {i c : Nat} {ps : List Nat} : (s.raiseAt i c ps).isp = s.isp := (State.raiseAt_frame (W := State.raiseAt_mask) (Within.refl _) (Frame.refl _ s)).isp rfl
@[simp] theorem raiseAt_ingest {i c : Nat} {ps : List Nat} : (s.raiseAt i c ps).ingest = s.ingest := (State.raiseAt_frame (W := State.raiseAt_mask) (Within.refl _) (Frame.refl _ s)).ingest rfl
@[simp] theorem raiseAt_motion {i c : Nat} {ps : List Nat} : (s.raiseAt i c ps).motion = s.motion := (State.raiseAt_frame (W := State.raiseAt_mask) (Within.refl _) (Frame.refl _ s)).motion rfl
@[simp] theorem raiseAt_fio {i c : Nat} {ps : List Nat} : (s.raiseAt i c ps).fio = s.fio := (State.raiseAt_frame (W := State.raiseAt_mask) (Within.refl _) (Frame.refl _ s)).fio rfl
@[simp] theorem raiseAt_time {i c : Nat} {ps : List Nat} : (s.raiseAt i c ps).time = s.time := (State.raiseAt_frame (W := State.raiseAt_mask) (Within.refl _) (Frame.refl _ s)).time rfl
@[simp] theorem raiseAt_peer {i c : Nat} {ps : List Nat} : (s.raiseAt i c ps).peer = s.peer := (State.raiseAt_frame (W := State.raiseAt_mask) (Within.refl _) (Frame.refl _ s)).peer rfl
@[simp] theorem raiseAt_host {i c : Nat} {ps : List Nat} : (s.raiseAt i c ps).host = s.host := (State.raiseAt_frame (W := State.raiseAt_mask) (Within.refl _) (Frame.refl _ s)).host rfl
@[simp] theorem raiseAt_safe {i c : Nat} {ps : List Nat} : (s.raiseAt i c ps).safe = s.safe := (State.raiseAt_frame (W := State.raiseAt_mask) (Within.refl _) (Frame.refl _ s)).safe rfl
@[simp] theorem raiseAt_integ {i c : Nat} {ps : List Nat} : (s.raiseAt i c ps).integ = s.integ := (State.raiseAt_frame (W := State.raiseAt_mask) (Within.refl _) (Frame.refl _ s)).integ rfl
@[simp] theorem raiseAt_power {i c : Nat} {ps : List Nat} : (s.raiseAt i c ps).power = s.power := (State.raiseAt_frame (W := State.raiseAt_mask) (Within.refl _) (Frame.refl _ s)).power rfl
@[simp] theorem raiseAt_mem {i c : Nat} {ps : List Nat} : (s.raiseAt i c ps).mem = s.mem := (State.raiseAt_frame (W := State.raiseAt_mask) (Within.refl _) (Frame.refl _ s)).mem rfl
@[simp] theorem raiseAt_clk {i c : Nat} {ps : List Nat} : (s.raiseAt i c ps).clk = s.clk := (State.raiseAt_frame (W := State.raiseAt_mask) (Within.refl _) (Frame.refl _ s)).clk rfl
@[simp] theorem raiseAt_free {i c : Nat} {ps : List Nat} : (s.raiseAt i c ps).free = s.free := (State.raiseAt_frame (W := State.raiseAt_mask) (Within.refl _) (Frame.refl _ s)).free rfl
@[simp] theorem raiseAt_perf {i c : Nat} {ps : List Nat} : (s.raiseAt i c ps).perf = s.perf := (State.raiseAt_frame (W := State.raiseAt_mask) (Within.refl _) (Frame.refl _ s)).perf rfl
@[simp] theorem raiseAt_replies {i c : Nat} {ps : List Nat} : (s.raiseAt i c ps).replies = s.replies := (State.raiseAt_frame (W := State.raiseAt_mask) (Within.refl _) (Frame.refl _ s)).replies rfl
@[simp] theorem raiseAt_hiLatch {i c : Nat} {ps : List Nat} : (s.raiseAt i c ps).hiLatch = s.hiLatch := (State.raiseAt_frame (W := State.raiseAt_mask) (Within.refl _) (Frame.refl _ s)).hiLatch rfl
@[simp] theorem raiseAt_variant {i c : Nat} {ps : List Nat} : (s.raiseAt i c ps).variant = s.variant := (State.raiseAt_frame (W := State.raiseAt_mask) (Within.refl _) (Frame.refl _ s)).variant
@[simp] theorem raiseAt_pending {i c : Nat} {ps : List Nat} : (s.raiseAt i c ps).pending = s.pending := (State.raiseAt_frame (W := State.raiseAt_mask) (Within.refl _) (Frame.refl _ s)).pending

theorem get_raiseKind {k i c : Nat} {ps : List Nat} (h : State.raiseKind_mask.testBit (regKind f.key) = false) : (s.raiseKind k i c ps).get f = s.get f :=
 (State.raiseKind_frame (W := State.raiseKind_mask) (Within.refl _) (Frame.refl _ s)).get f h
@[simp] theorem raiseKind_cfg {k i c : Nat} {ps : List Nat} : (s.raiseKind k i c ps).cfg = s.cfg := (State.raiseKind_frame (W := State.raiseKind_mask) (Within.refl _) (Frame.refl _ s)).cfg rfl
@[simp] theorem raiseKind_board {k i c : Nat} {ps : List Nat} : (s.raiseKind k i c ps).board = s.board := (State.raiseKind_frame (W := State.raiseKind_mask) (Within.refl _) (Frame.refl _ s)).board rfl
@[simp] theorem raiseKind_zld {k i c : Nat} {ps : List Nat} : (s.raiseKind k i c ps).zld = s.zld := (State.raiseKind_frame (W := State.raiseKind_mask) (Within.refl _) (Frame.refl _ s)).zld rfl
@[simp] theorem raiseKind_keep {k i c : Nat} {ps : List Nat} : (s.raiseKind k i c ps).keep = s.keep := (State.raiseKind_frame (W := State.raiseKind_mask) (Within.refl _) (Frame.refl _ s)).keep rfl
@[simp] theorem raiseKind_flash {k i c : Nat} {ps : List Nat} : (s.raiseKind k i c ps).flash = s.flash := (State.raiseKind_frame (W := State.raiseKind_mask) (Within.refl _) (Frame.refl _ s)).flash rfl
@[simp] theorem raiseKind_boot {k i c : Nat} {ps : List Nat} : (s.raiseKind k i c ps).boot = s.boot := (State.raiseKind_frame (W := State.raiseKind_mask) (Within.refl _) (Frame.refl _ s)).boot rfl
@[simp] theorem raiseKind_pace {k i c : Nat} {ps : List Nat} : (s.raiseKind k i c ps).pace = s.pace := (State.raiseKind_frame (W := State.raiseKind_mask) (Within.refl _) (Frame.refl _ s)).pace rfl
@[simp] theorem raiseKind_cores {k i c : Nat} {ps : List Nat} : (s.raiseKind k i c ps).cores = s.cores := (State.raiseKind_frame (W := State.raiseKind_mask) (Within.refl _) (Frame.refl _ s)).cores rfl
@[simp] theorem raiseKind_exec {k i c : Nat} {ps : List Nat} : (s.raiseKind k i c ps).exec = s.exec := (State.raiseKind_frame (W := State.raiseKind_mask) (Within.refl _) (Frame.refl _ s)).exec rfl
@[simp] theorem raiseKind_route {k i c : Nat} {ps : List Nat} : (s.raiseKind k i c ps).route = s.route := (State.raiseKind_frame (W := State.raiseKind_mask) (Within.refl _) (Frame.refl _ s)).route rfl
@[simp] theorem raiseKind_kv {k i c : Nat} {ps : List Nat} : (s.raiseKind k i c ps).kv = s.kv := (State.raiseKind_frame (W := State.raiseKind_mask) (Within.refl _) (Frame.refl _ s)).kv rfl
@[simp] theorem raiseKind_lane {k i c : Nat} {ps : List Nat} : (s.raiseKind k i c ps).lane = s.lane := (State.raiseKind_frame (W := State.raiseKind_mask) (Within.refl _) (Frame.refl _ s)).lane rfl
@[simp] theorem raiseKind_isp {k i c : Nat} {ps : List Nat} : (s.raiseKind k i c ps).isp = s.isp := (State.raiseKind_frame (W := State.raiseKind_mask) (Within.refl _) (Frame.refl _ s)).isp rfl
@[simp] theorem raiseKind_ingest {k i c : Nat} {ps : List Nat} : (s.raiseKind k i c ps).ingest = s.ingest := (State.raiseKind_frame (W := State.raiseKind_mask) (Within.refl _) (Frame.refl _ s)).ingest rfl
@[simp] theorem raiseKind_motion {k i c : Nat} {ps : List Nat} : (s.raiseKind k i c ps).motion = s.motion := (State.raiseKind_frame (W := State.raiseKind_mask) (Within.refl _) (Frame.refl _ s)).motion rfl
@[simp] theorem raiseKind_fio {k i c : Nat} {ps : List Nat} : (s.raiseKind k i c ps).fio = s.fio := (State.raiseKind_frame (W := State.raiseKind_mask) (Within.refl _) (Frame.refl _ s)).fio rfl
@[simp] theorem raiseKind_time {k i c : Nat} {ps : List Nat} : (s.raiseKind k i c ps).time = s.time := (State.raiseKind_frame (W := State.raiseKind_mask) (Within.refl _) (Frame.refl _ s)).time rfl
@[simp] theorem raiseKind_peer {k i c : Nat} {ps : List Nat} : (s.raiseKind k i c ps).peer = s.peer := (State.raiseKind_frame (W := State.raiseKind_mask) (Within.refl _) (Frame.refl _ s)).peer rfl
@[simp] theorem raiseKind_host {k i c : Nat} {ps : List Nat} : (s.raiseKind k i c ps).host = s.host := (State.raiseKind_frame (W := State.raiseKind_mask) (Within.refl _) (Frame.refl _ s)).host rfl
@[simp] theorem raiseKind_safe {k i c : Nat} {ps : List Nat} : (s.raiseKind k i c ps).safe = s.safe := (State.raiseKind_frame (W := State.raiseKind_mask) (Within.refl _) (Frame.refl _ s)).safe rfl
@[simp] theorem raiseKind_integ {k i c : Nat} {ps : List Nat} : (s.raiseKind k i c ps).integ = s.integ := (State.raiseKind_frame (W := State.raiseKind_mask) (Within.refl _) (Frame.refl _ s)).integ rfl
@[simp] theorem raiseKind_power {k i c : Nat} {ps : List Nat} : (s.raiseKind k i c ps).power = s.power := (State.raiseKind_frame (W := State.raiseKind_mask) (Within.refl _) (Frame.refl _ s)).power rfl
@[simp] theorem raiseKind_mem {k i c : Nat} {ps : List Nat} : (s.raiseKind k i c ps).mem = s.mem := (State.raiseKind_frame (W := State.raiseKind_mask) (Within.refl _) (Frame.refl _ s)).mem rfl
@[simp] theorem raiseKind_clk {k i c : Nat} {ps : List Nat} : (s.raiseKind k i c ps).clk = s.clk := (State.raiseKind_frame (W := State.raiseKind_mask) (Within.refl _) (Frame.refl _ s)).clk rfl
@[simp] theorem raiseKind_free {k i c : Nat} {ps : List Nat} : (s.raiseKind k i c ps).free = s.free := (State.raiseKind_frame (W := State.raiseKind_mask) (Within.refl _) (Frame.refl _ s)).free rfl
@[simp] theorem raiseKind_perf {k i c : Nat} {ps : List Nat} : (s.raiseKind k i c ps).perf = s.perf := (State.raiseKind_frame (W := State.raiseKind_mask) (Within.refl _) (Frame.refl _ s)).perf rfl
@[simp] theorem raiseKind_replies {k i c : Nat} {ps : List Nat} : (s.raiseKind k i c ps).replies = s.replies := (State.raiseKind_frame (W := State.raiseKind_mask) (Within.refl _) (Frame.refl _ s)).replies rfl
@[simp] theorem raiseKind_hiLatch {k i c : Nat} {ps : List Nat} : (s.raiseKind k i c ps).hiLatch = s.hiLatch := (State.raiseKind_frame (W := State.raiseKind_mask) (Within.refl _) (Frame.refl _ s)).hiLatch rfl
@[simp] theorem raiseKind_variant {k i c : Nat} {ps : List Nat} : (s.raiseKind k i c ps).variant = s.variant := (State.raiseKind_frame (W := State.raiseKind_mask) (Within.refl _) (Frame.refl _ s)).variant
@[simp] theorem raiseKind_pending {k i c : Nat} {ps : List Nat} : (s.raiseKind k i c ps).pending = s.pending := (State.raiseKind_frame (W := State.raiseKind_mask) (Within.refl _) (Frame.refl _ s)).pending

theorem get_driveOutputs  (h : State.driveOutputs_mask.testBit (regKind f.key) = false) : (s.driveOutputs).get f = s.get f :=
  (State.driveOutputs_frame (W := State.driveOutputs_mask) (Within.refl _) (Frame.refl _ s)).get f h
@[simp] theorem driveOutputs_cfg : (s.driveOutputs).cfg = s.cfg := (State.driveOutputs_frame (W := State.driveOutputs_mask) (Within.refl _) (Frame.refl _ s)).cfg rfl
@[simp] theorem driveOutputs_board : (s.driveOutputs).board = s.board := (State.driveOutputs_frame (W := State.driveOutputs_mask) (Within.refl _) (Frame.refl _ s)).board rfl
@[simp] theorem driveOutputs_zld : (s.driveOutputs).zld = s.zld := (State.driveOutputs_frame (W := State.driveOutputs_mask) (Within.refl _) (Frame.refl _ s)).zld rfl
@[simp] theorem driveOutputs_keep : (s.driveOutputs).keep = s.keep := (State.driveOutputs_frame (W := State.driveOutputs_mask) (Within.refl _) (Frame.refl _ s)).keep rfl
@[simp] theorem driveOutputs_flash : (s.driveOutputs).flash = s.flash := (State.driveOutputs_frame (W := State.driveOutputs_mask) (Within.refl _) (Frame.refl _ s)).flash rfl
@[simp] theorem driveOutputs_boot : (s.driveOutputs).boot = s.boot := (State.driveOutputs_frame (W := State.driveOutputs_mask) (Within.refl _) (Frame.refl _ s)).boot rfl
@[simp] theorem driveOutputs_pace : (s.driveOutputs).pace = s.pace := (State.driveOutputs_frame (W := State.driveOutputs_mask) (Within.refl _) (Frame.refl _ s)).pace rfl
@[simp] theorem driveOutputs_cores : (s.driveOutputs).cores = s.cores := (State.driveOutputs_frame (W := State.driveOutputs_mask) (Within.refl _) (Frame.refl _ s)).cores rfl
@[simp] theorem driveOutputs_exec : (s.driveOutputs).exec = s.exec := (State.driveOutputs_frame (W := State.driveOutputs_mask) (Within.refl _) (Frame.refl _ s)).exec rfl
@[simp] theorem driveOutputs_route : (s.driveOutputs).route = s.route := (State.driveOutputs_frame (W := State.driveOutputs_mask) (Within.refl _) (Frame.refl _ s)).route rfl
@[simp] theorem driveOutputs_kv : (s.driveOutputs).kv = s.kv := (State.driveOutputs_frame (W := State.driveOutputs_mask) (Within.refl _) (Frame.refl _ s)).kv rfl
@[simp] theorem driveOutputs_lane : (s.driveOutputs).lane = s.lane := (State.driveOutputs_frame (W := State.driveOutputs_mask) (Within.refl _) (Frame.refl _ s)).lane rfl
@[simp] theorem driveOutputs_isp : (s.driveOutputs).isp = s.isp := (State.driveOutputs_frame (W := State.driveOutputs_mask) (Within.refl _) (Frame.refl _ s)).isp rfl
@[simp] theorem driveOutputs_ingest : (s.driveOutputs).ingest = s.ingest := (State.driveOutputs_frame (W := State.driveOutputs_mask) (Within.refl _) (Frame.refl _ s)).ingest rfl
@[simp] theorem driveOutputs_motion : (s.driveOutputs).motion = s.motion := (State.driveOutputs_frame (W := State.driveOutputs_mask) (Within.refl _) (Frame.refl _ s)).motion rfl
@[simp] theorem driveOutputs_time : (s.driveOutputs).time = s.time := (State.driveOutputs_frame (W := State.driveOutputs_mask) (Within.refl _) (Frame.refl _ s)).time rfl
@[simp] theorem driveOutputs_peer : (s.driveOutputs).peer = s.peer := (State.driveOutputs_frame (W := State.driveOutputs_mask) (Within.refl _) (Frame.refl _ s)).peer rfl
@[simp] theorem driveOutputs_host : (s.driveOutputs).host = s.host := (State.driveOutputs_frame (W := State.driveOutputs_mask) (Within.refl _) (Frame.refl _ s)).host rfl
@[simp] theorem driveOutputs_safe : (s.driveOutputs).safe = s.safe := (State.driveOutputs_frame (W := State.driveOutputs_mask) (Within.refl _) (Frame.refl _ s)).safe rfl
@[simp] theorem driveOutputs_integ : (s.driveOutputs).integ = s.integ := (State.driveOutputs_frame (W := State.driveOutputs_mask) (Within.refl _) (Frame.refl _ s)).integ rfl
@[simp] theorem driveOutputs_power : (s.driveOutputs).power = s.power := (State.driveOutputs_frame (W := State.driveOutputs_mask) (Within.refl _) (Frame.refl _ s)).power rfl
@[simp] theorem driveOutputs_mem : (s.driveOutputs).mem = s.mem := (State.driveOutputs_frame (W := State.driveOutputs_mask) (Within.refl _) (Frame.refl _ s)).mem rfl
@[simp] theorem driveOutputs_clk : (s.driveOutputs).clk = s.clk := (State.driveOutputs_frame (W := State.driveOutputs_mask) (Within.refl _) (Frame.refl _ s)).clk rfl
@[simp] theorem driveOutputs_free : (s.driveOutputs).free = s.free := (State.driveOutputs_frame (W := State.driveOutputs_mask) (Within.refl _) (Frame.refl _ s)).free rfl
@[simp] theorem driveOutputs_recorder : (s.driveOutputs).recorder = s.recorder := (State.driveOutputs_frame (W := State.driveOutputs_mask) (Within.refl _) (Frame.refl _ s)).recorder rfl
@[simp] theorem driveOutputs_perf : (s.driveOutputs).perf = s.perf := (State.driveOutputs_frame (W := State.driveOutputs_mask) (Within.refl _) (Frame.refl _ s)).perf rfl
@[simp] theorem driveOutputs_replies : (s.driveOutputs).replies = s.replies := (State.driveOutputs_frame (W := State.driveOutputs_mask) (Within.refl _) (Frame.refl _ s)).replies rfl
@[simp] theorem driveOutputs_hiLatch : (s.driveOutputs).hiLatch = s.hiLatch := (State.driveOutputs_frame (W := State.driveOutputs_mask) (Within.refl _) (Frame.refl _ s)).hiLatch rfl
@[simp] theorem driveOutputs_msix : (s.driveOutputs).msix = s.msix := (State.driveOutputs_frame (W := State.driveOutputs_mask) (Within.refl _) (Frame.refl _ s)).msix rfl
@[simp] theorem driveOutputs_variant : (s.driveOutputs).variant = s.variant := (State.driveOutputs_frame (W := State.driveOutputs_mask) (Within.refl _) (Frame.refl _ s)).variant
@[simp] theorem driveOutputs_pending : (s.driveOutputs).pending = s.pending := (State.driveOutputs_frame (W := State.driveOutputs_mask) (Within.refl _) (Frame.refl _ s)).pending

theorem get_fire {i w : Nat} (h : State.fire_mask.testBit (regKind f.key) = false) : (s.fire i w).get f = s.get f :=
  (State.fire_frame (W := State.fire_mask) (Within.refl _) (Frame.refl _ s)).get f h
@[simp] theorem fire_cfg {i w : Nat} : (s.fire i w).cfg = s.cfg := (State.fire_frame (W := State.fire_mask) (Within.refl _) (Frame.refl _ s)).cfg rfl
@[simp] theorem fire_board {i w : Nat} : (s.fire i w).board = s.board := (State.fire_frame (W := State.fire_mask) (Within.refl _) (Frame.refl _ s)).board rfl
@[simp] theorem fire_zld {i w : Nat} : (s.fire i w).zld = s.zld := (State.fire_frame (W := State.fire_mask) (Within.refl _) (Frame.refl _ s)).zld rfl
@[simp] theorem fire_keep {i w : Nat} : (s.fire i w).keep = s.keep := (State.fire_frame (W := State.fire_mask) (Within.refl _) (Frame.refl _ s)).keep rfl
@[simp] theorem fire_flash {i w : Nat} : (s.fire i w).flash = s.flash := (State.fire_frame (W := State.fire_mask) (Within.refl _) (Frame.refl _ s)).flash rfl
@[simp] theorem fire_boot {i w : Nat} : (s.fire i w).boot = s.boot := (State.fire_frame (W := State.fire_mask) (Within.refl _) (Frame.refl _ s)).boot rfl
@[simp] theorem fire_pace {i w : Nat} : (s.fire i w).pace = s.pace := (State.fire_frame (W := State.fire_mask) (Within.refl _) (Frame.refl _ s)).pace rfl
@[simp] theorem fire_cores {i w : Nat} : (s.fire i w).cores = s.cores := (State.fire_frame (W := State.fire_mask) (Within.refl _) (Frame.refl _ s)).cores rfl
@[simp] theorem fire_exec {i w : Nat} : (s.fire i w).exec = s.exec := (State.fire_frame (W := State.fire_mask) (Within.refl _) (Frame.refl _ s)).exec rfl
@[simp] theorem fire_route {i w : Nat} : (s.fire i w).route = s.route := (State.fire_frame (W := State.fire_mask) (Within.refl _) (Frame.refl _ s)).route rfl
@[simp] theorem fire_kv {i w : Nat} : (s.fire i w).kv = s.kv := (State.fire_frame (W := State.fire_mask) (Within.refl _) (Frame.refl _ s)).kv rfl
@[simp] theorem fire_lane {i w : Nat} : (s.fire i w).lane = s.lane := (State.fire_frame (W := State.fire_mask) (Within.refl _) (Frame.refl _ s)).lane rfl
@[simp] theorem fire_isp {i w : Nat} : (s.fire i w).isp = s.isp := (State.fire_frame (W := State.fire_mask) (Within.refl _) (Frame.refl _ s)).isp rfl
@[simp] theorem fire_ingest {i w : Nat} : (s.fire i w).ingest = s.ingest := (State.fire_frame (W := State.fire_mask) (Within.refl _) (Frame.refl _ s)).ingest rfl
@[simp] theorem fire_motion {i w : Nat} : (s.fire i w).motion = s.motion := (State.fire_frame (W := State.fire_mask) (Within.refl _) (Frame.refl _ s)).motion rfl
@[simp] theorem fire_fio {i w : Nat} : (s.fire i w).fio = s.fio := (State.fire_frame (W := State.fire_mask) (Within.refl _) (Frame.refl _ s)).fio rfl
@[simp] theorem fire_time {i w : Nat} : (s.fire i w).time = s.time := (State.fire_frame (W := State.fire_mask) (Within.refl _) (Frame.refl _ s)).time rfl
@[simp] theorem fire_peer {i w : Nat} : (s.fire i w).peer = s.peer := (State.fire_frame (W := State.fire_mask) (Within.refl _) (Frame.refl _ s)).peer rfl
@[simp] theorem fire_host {i w : Nat} : (s.fire i w).host = s.host := (State.fire_frame (W := State.fire_mask) (Within.refl _) (Frame.refl _ s)).host rfl
@[simp] theorem fire_safe {i w : Nat} : (s.fire i w).safe = s.safe := (State.fire_frame (W := State.fire_mask) (Within.refl _) (Frame.refl _ s)).safe rfl
@[simp] theorem fire_integ {i w : Nat} : (s.fire i w).integ = s.integ := (State.fire_frame (W := State.fire_mask) (Within.refl _) (Frame.refl _ s)).integ rfl
@[simp] theorem fire_power {i w : Nat} : (s.fire i w).power = s.power := (State.fire_frame (W := State.fire_mask) (Within.refl _) (Frame.refl _ s)).power rfl
@[simp] theorem fire_mem {i w : Nat} : (s.fire i w).mem = s.mem := (State.fire_frame (W := State.fire_mask) (Within.refl _) (Frame.refl _ s)).mem rfl
@[simp] theorem fire_clk {i w : Nat} : (s.fire i w).clk = s.clk := (State.fire_frame (W := State.fire_mask) (Within.refl _) (Frame.refl _ s)).clk rfl
@[simp] theorem fire_free {i w : Nat} : (s.fire i w).free = s.free := (State.fire_frame (W := State.fire_mask) (Within.refl _) (Frame.refl _ s)).free rfl
@[simp] theorem fire_recorder {i w : Nat} : (s.fire i w).recorder = s.recorder := (State.fire_frame (W := State.fire_mask) (Within.refl _) (Frame.refl _ s)).recorder rfl
@[simp] theorem fire_perf {i w : Nat} : (s.fire i w).perf = s.perf := (State.fire_frame (W := State.fire_mask) (Within.refl _) (Frame.refl _ s)).perf rfl
@[simp] theorem fire_replies {i w : Nat} : (s.fire i w).replies = s.replies := (State.fire_frame (W := State.fire_mask) (Within.refl _) (Frame.refl _ s)).replies rfl
@[simp] theorem fire_hiLatch {i w : Nat} : (s.fire i w).hiLatch = s.hiLatch := (State.fire_frame (W := State.fire_mask) (Within.refl _) (Frame.refl _ s)).hiLatch rfl
@[simp] theorem fire_variant {i w : Nat} : (s.fire i w).variant = s.variant := (State.fire_frame (W := State.fire_mask) (Within.refl _) (Frame.refl _ s)).variant
@[simp] theorem fire_pending {i w : Nat} : (s.fire i w).pending = s.pending := (State.fire_frame (W := State.fire_mask) (Within.refl _) (Frame.refl _ s)).pending

theorem get_fireAll {w : Nat} (h : State.fireAll_mask.testBit (regKind f.key) = false) : (s.fireAll w).get f = s.get f :=
  (State.fireAll_frame (W := State.fireAll_mask) (Within.refl _) (Frame.refl _ s)).get f h
@[simp] theorem fireAll_cfg {w : Nat} : (s.fireAll w).cfg = s.cfg := (State.fireAll_frame (W := State.fireAll_mask) (Within.refl _) (Frame.refl _ s)).cfg rfl
@[simp] theorem fireAll_board {w : Nat} : (s.fireAll w).board = s.board := (State.fireAll_frame (W := State.fireAll_mask) (Within.refl _) (Frame.refl _ s)).board rfl
@[simp] theorem fireAll_zld {w : Nat} : (s.fireAll w).zld = s.zld := (State.fireAll_frame (W := State.fireAll_mask) (Within.refl _) (Frame.refl _ s)).zld rfl
@[simp] theorem fireAll_keep {w : Nat} : (s.fireAll w).keep = s.keep := (State.fireAll_frame (W := State.fireAll_mask) (Within.refl _) (Frame.refl _ s)).keep rfl
@[simp] theorem fireAll_flash {w : Nat} : (s.fireAll w).flash = s.flash := (State.fireAll_frame (W := State.fireAll_mask) (Within.refl _) (Frame.refl _ s)).flash rfl
@[simp] theorem fireAll_boot {w : Nat} : (s.fireAll w).boot = s.boot := (State.fireAll_frame (W := State.fireAll_mask) (Within.refl _) (Frame.refl _ s)).boot rfl
@[simp] theorem fireAll_pace {w : Nat} : (s.fireAll w).pace = s.pace := (State.fireAll_frame (W := State.fireAll_mask) (Within.refl _) (Frame.refl _ s)).pace rfl
@[simp] theorem fireAll_cores {w : Nat} : (s.fireAll w).cores = s.cores := (State.fireAll_frame (W := State.fireAll_mask) (Within.refl _) (Frame.refl _ s)).cores rfl
@[simp] theorem fireAll_exec {w : Nat} : (s.fireAll w).exec = s.exec := (State.fireAll_frame (W := State.fireAll_mask) (Within.refl _) (Frame.refl _ s)).exec rfl
@[simp] theorem fireAll_route {w : Nat} : (s.fireAll w).route = s.route := (State.fireAll_frame (W := State.fireAll_mask) (Within.refl _) (Frame.refl _ s)).route rfl
@[simp] theorem fireAll_kv {w : Nat} : (s.fireAll w).kv = s.kv := (State.fireAll_frame (W := State.fireAll_mask) (Within.refl _) (Frame.refl _ s)).kv rfl
@[simp] theorem fireAll_lane {w : Nat} : (s.fireAll w).lane = s.lane := (State.fireAll_frame (W := State.fireAll_mask) (Within.refl _) (Frame.refl _ s)).lane rfl
@[simp] theorem fireAll_isp {w : Nat} : (s.fireAll w).isp = s.isp := (State.fireAll_frame (W := State.fireAll_mask) (Within.refl _) (Frame.refl _ s)).isp rfl
@[simp] theorem fireAll_ingest {w : Nat} : (s.fireAll w).ingest = s.ingest := (State.fireAll_frame (W := State.fireAll_mask) (Within.refl _) (Frame.refl _ s)).ingest rfl
@[simp] theorem fireAll_motion {w : Nat} : (s.fireAll w).motion = s.motion := (State.fireAll_frame (W := State.fireAll_mask) (Within.refl _) (Frame.refl _ s)).motion rfl
@[simp] theorem fireAll_fio {w : Nat} : (s.fireAll w).fio = s.fio := (State.fireAll_frame (W := State.fireAll_mask) (Within.refl _) (Frame.refl _ s)).fio rfl
@[simp] theorem fireAll_time {w : Nat} : (s.fireAll w).time = s.time := (State.fireAll_frame (W := State.fireAll_mask) (Within.refl _) (Frame.refl _ s)).time rfl
@[simp] theorem fireAll_peer {w : Nat} : (s.fireAll w).peer = s.peer := (State.fireAll_frame (W := State.fireAll_mask) (Within.refl _) (Frame.refl _ s)).peer rfl
@[simp] theorem fireAll_host {w : Nat} : (s.fireAll w).host = s.host := (State.fireAll_frame (W := State.fireAll_mask) (Within.refl _) (Frame.refl _ s)).host rfl
@[simp] theorem fireAll_safe {w : Nat} : (s.fireAll w).safe = s.safe := (State.fireAll_frame (W := State.fireAll_mask) (Within.refl _) (Frame.refl _ s)).safe rfl
@[simp] theorem fireAll_integ {w : Nat} : (s.fireAll w).integ = s.integ := (State.fireAll_frame (W := State.fireAll_mask) (Within.refl _) (Frame.refl _ s)).integ rfl
@[simp] theorem fireAll_power {w : Nat} : (s.fireAll w).power = s.power := (State.fireAll_frame (W := State.fireAll_mask) (Within.refl _) (Frame.refl _ s)).power rfl
@[simp] theorem fireAll_mem {w : Nat} : (s.fireAll w).mem = s.mem := (State.fireAll_frame (W := State.fireAll_mask) (Within.refl _) (Frame.refl _ s)).mem rfl
@[simp] theorem fireAll_clk {w : Nat} : (s.fireAll w).clk = s.clk := (State.fireAll_frame (W := State.fireAll_mask) (Within.refl _) (Frame.refl _ s)).clk rfl
@[simp] theorem fireAll_free {w : Nat} : (s.fireAll w).free = s.free := (State.fireAll_frame (W := State.fireAll_mask) (Within.refl _) (Frame.refl _ s)).free rfl
@[simp] theorem fireAll_recorder {w : Nat} : (s.fireAll w).recorder = s.recorder := (State.fireAll_frame (W := State.fireAll_mask) (Within.refl _) (Frame.refl _ s)).recorder rfl
@[simp] theorem fireAll_perf {w : Nat} : (s.fireAll w).perf = s.perf := (State.fireAll_frame (W := State.fireAll_mask) (Within.refl _) (Frame.refl _ s)).perf rfl
@[simp] theorem fireAll_replies {w : Nat} : (s.fireAll w).replies = s.replies := (State.fireAll_frame (W := State.fireAll_mask) (Within.refl _) (Frame.refl _ s)).replies rfl
@[simp] theorem fireAll_hiLatch {w : Nat} : (s.fireAll w).hiLatch = s.hiLatch := (State.fireAll_frame (W := State.fireAll_mask) (Within.refl _) (Frame.refl _ s)).hiLatch rfl
@[simp] theorem fireAll_variant {w : Nat} : (s.fireAll w).variant = s.variant := (State.fireAll_frame (W := State.fireAll_mask) (Within.refl _) (Frame.refl _ s)).variant
@[simp] theorem fireAll_pending {w : Nat} : (s.fireAll w).pending = s.pending := (State.fireAll_frame (W := State.fireAll_mask) (Within.refl _) (Frame.refl _ s)).pending

theorem get_reply {i : Nat} {r : Reply} (h : State.reply_mask.testBit (regKind f.key) = false) : (s.reply i r).get f = s.get f :=
 (State.reply_frame (W := State.reply_mask) (Within.refl _) (Frame.refl _ s)).get f h
@[simp] theorem reply_cfg {i : Nat} {r : Reply} : (s.reply i r).cfg = s.cfg := (State.reply_frame (W := State.reply_mask) (Within.refl _) (Frame.refl _ s)).cfg rfl
@[simp] theorem reply_board {i : Nat} {r : Reply} : (s.reply i r).board = s.board := (State.reply_frame (W := State.reply_mask) (Within.refl _) (Frame.refl _ s)).board rfl
@[simp] theorem reply_zld {i : Nat} {r : Reply} : (s.reply i r).zld = s.zld := (State.reply_frame (W := State.reply_mask) (Within.refl _) (Frame.refl _ s)).zld rfl
@[simp] theorem reply_keep {i : Nat} {r : Reply} : (s.reply i r).keep = s.keep := (State.reply_frame (W := State.reply_mask) (Within.refl _) (Frame.refl _ s)).keep rfl
@[simp] theorem reply_flash {i : Nat} {r : Reply} : (s.reply i r).flash = s.flash := (State.reply_frame (W := State.reply_mask) (Within.refl _) (Frame.refl _ s)).flash rfl
@[simp] theorem reply_boot {i : Nat} {r : Reply} : (s.reply i r).boot = s.boot := (State.reply_frame (W := State.reply_mask) (Within.refl _) (Frame.refl _ s)).boot rfl
@[simp] theorem reply_pace {i : Nat} {r : Reply} : (s.reply i r).pace = s.pace := (State.reply_frame (W := State.reply_mask) (Within.refl _) (Frame.refl _ s)).pace rfl
@[simp] theorem reply_cores {i : Nat} {r : Reply} : (s.reply i r).cores = s.cores := (State.reply_frame (W := State.reply_mask) (Within.refl _) (Frame.refl _ s)).cores rfl
@[simp] theorem reply_exec {i : Nat} {r : Reply} : (s.reply i r).exec = s.exec := (State.reply_frame (W := State.reply_mask) (Within.refl _) (Frame.refl _ s)).exec rfl
@[simp] theorem reply_route {i : Nat} {r : Reply} : (s.reply i r).route = s.route := (State.reply_frame (W := State.reply_mask) (Within.refl _) (Frame.refl _ s)).route rfl
@[simp] theorem reply_kv {i : Nat} {r : Reply} : (s.reply i r).kv = s.kv := (State.reply_frame (W := State.reply_mask) (Within.refl _) (Frame.refl _ s)).kv rfl
@[simp] theorem reply_lane {i : Nat} {r : Reply} : (s.reply i r).lane = s.lane := (State.reply_frame (W := State.reply_mask) (Within.refl _) (Frame.refl _ s)).lane rfl
@[simp] theorem reply_isp {i : Nat} {r : Reply} : (s.reply i r).isp = s.isp := (State.reply_frame (W := State.reply_mask) (Within.refl _) (Frame.refl _ s)).isp rfl
@[simp] theorem reply_ingest {i : Nat} {r : Reply} : (s.reply i r).ingest = s.ingest := (State.reply_frame (W := State.reply_mask) (Within.refl _) (Frame.refl _ s)).ingest rfl
@[simp] theorem reply_motion {i : Nat} {r : Reply} : (s.reply i r).motion = s.motion := (State.reply_frame (W := State.reply_mask) (Within.refl _) (Frame.refl _ s)).motion rfl
@[simp] theorem reply_fio {i : Nat} {r : Reply} : (s.reply i r).fio = s.fio := (State.reply_frame (W := State.reply_mask) (Within.refl _) (Frame.refl _ s)).fio rfl
@[simp] theorem reply_time {i : Nat} {r : Reply} : (s.reply i r).time = s.time := (State.reply_frame (W := State.reply_mask) (Within.refl _) (Frame.refl _ s)).time rfl
@[simp] theorem reply_peer {i : Nat} {r : Reply} : (s.reply i r).peer = s.peer := (State.reply_frame (W := State.reply_mask) (Within.refl _) (Frame.refl _ s)).peer rfl
@[simp] theorem reply_host {i : Nat} {r : Reply} : (s.reply i r).host = s.host := (State.reply_frame (W := State.reply_mask) (Within.refl _) (Frame.refl _ s)).host rfl
@[simp] theorem reply_safe {i : Nat} {r : Reply} : (s.reply i r).safe = s.safe := (State.reply_frame (W := State.reply_mask) (Within.refl _) (Frame.refl _ s)).safe rfl
@[simp] theorem reply_integ {i : Nat} {r : Reply} : (s.reply i r).integ = s.integ := (State.reply_frame (W := State.reply_mask) (Within.refl _) (Frame.refl _ s)).integ rfl
@[simp] theorem reply_power {i : Nat} {r : Reply} : (s.reply i r).power = s.power := (State.reply_frame (W := State.reply_mask) (Within.refl _) (Frame.refl _ s)).power rfl
@[simp] theorem reply_mem {i : Nat} {r : Reply} : (s.reply i r).mem = s.mem := (State.reply_frame (W := State.reply_mask) (Within.refl _) (Frame.refl _ s)).mem rfl
@[simp] theorem reply_clk {i : Nat} {r : Reply} : (s.reply i r).clk = s.clk := (State.reply_frame (W := State.reply_mask) (Within.refl _) (Frame.refl _ s)).clk rfl
@[simp] theorem reply_free {i : Nat} {r : Reply} : (s.reply i r).free = s.free := (State.reply_frame (W := State.reply_mask) (Within.refl _) (Frame.refl _ s)).free rfl
@[simp] theorem reply_recorder {i : Nat} {r : Reply} : (s.reply i r).recorder = s.recorder := (State.reply_frame (W := State.reply_mask) (Within.refl _) (Frame.refl _ s)).recorder rfl
@[simp] theorem reply_perf {i : Nat} {r : Reply} : (s.reply i r).perf = s.perf := (State.reply_frame (W := State.reply_mask) (Within.refl _) (Frame.refl _ s)).perf rfl
@[simp] theorem reply_hiLatch {i : Nat} {r : Reply} : (s.reply i r).hiLatch = s.hiLatch := (State.reply_frame (W := State.reply_mask) (Within.refl _) (Frame.refl _ s)).hiLatch rfl
@[simp] theorem reply_msix {i : Nat} {r : Reply} : (s.reply i r).msix = s.msix := (State.reply_frame (W := State.reply_mask) (Within.refl _) (Frame.refl _ s)).msix rfl
@[simp] theorem reply_variant {i : Nat} {r : Reply} : (s.reply i r).variant = s.variant := (State.reply_frame (W := State.reply_mask) (Within.refl _) (Frame.refl _ s)).variant
@[simp] theorem reply_pending {i : Nat} {r : Reply} : (s.reply i r).pending = s.pending := (State.reply_frame (W := State.reply_mask) (Within.refl _) (Frame.refl _ s)).pending

end Sys2Proof.Machine
end

