-- ==== Sys2Proof/Laws/Effects.lean ====
section
/-! SUPPORT. What a waymark leaves in the recorder, the fields that share a register with one that a waymark or the outputs
write, and the outputs in the safe state. -/

namespace Sys2Proof.Machine

variable {s t : State} {f : Field}

theorem afind_aput_self {κ α : Type} [DecidableEq κ] (k : κ) (v : α) : ∀ l : List (κ × α), afind (aput l k v) k = some v
  | [] => by simp [aput, afind]
  | (j, w) :: l => by
    by_cases h : k = j
    · subst h; simp [aput, afind]
    · simp [aput, afind, h, afind_aput_self k v l]

theorem Waymark.carries_mk {inst code : Nat} {ps : List Nat} : (s.mkWaymark inst code ps).carries code ps := ⟨rfl, rfl⟩

theorem wrote_of_recorder {code : Nat} {ps : List Nat} (h : t.recorder = s.recorder) (w : s.wrote code ps) : t.wrote code ps := by
  unfold State.wrote State.bucket at *
  rw [h]; exact w

theorem setBucket_bucket {k : Nat × Nat} {b : Bucket} : (s.setBucket k b).bucket k = b := by
  simp [State.setBucket, State.bucket, afind_aput_self]

theorem each_fire_recorder {l : List Nat} {h : State → Nat → State} (hh : ∀ s i, (h s i).recorder = s.recorder) :
    ∀ s : State, (s.each l h).recorder = s.recorder := by
  induction l with
  | nil => intro s; rfl
  | cons i l ih => intro s; rw [State.each_cons, ih, hh]

/-- A buffer that takes a waymark appends it and shows its length; the rest is vectors. -/
theorem buffer_cases {w : Waymark} {u : State} (h : s.buffer w = some u) :
    let s1 := ({ s with recorder := { s.recorder with buffer := s.recorder.buffer ++ [w] } }).set F.WAYM_STATUS_buffered
      (s.recorder.buffer.length + 1)
    u = s1 ∨ u = s1.each [0, 1, 2, 3] (fun s i => if s.on (F.WAYM_IRQ_enable i) then s.fire i 8 else s) := by
  intro s1
  unfold State.buffer at h
  by_cases hb : s.recorder.buffer.length < (if w.sev ≥ 2 then 1024 else 960)
  · simp only [hb, if_true] at h
    injection h with h
    rw [← h]
    split
    · exact .inr rfl
    · exact .inl rfl
  · simp only [hb, if_false] at h
    cases h

/-- A waymark that the buffer takes stands at its end. -/
theorem buffer_last {w : Waymark} {u : State} (h : s.buffer w = some u) : u.recorder.buffer.getLast? = some w := by
  rcases buffer_cases h with rfl | rfl
  · exact List.getLast?_concat
  · rw [each_fire_recorder (fun s i => by split; exact fire_recorder; rfl)]
    exact List.getLast?_concat

/-- What a raised waymark leaves (R419, R420, R422). -/
theorem raiseMark_wrote {code : Nat} {ps : List Nat} {w : Waymark} (hw : w.carries code ps) :
    (s.raiseMark (code, limitParam code ps) w).wrote code ps := by
  unfold State.raiseMark
  simp only
  split
  · refine .inr (.inl ⟨w, ?_, hw⟩)
    rw [show ∀ u : State, (State.inc u F.WAYM_SUPPRESSED_count).bucket = u.bucket from fun _ => rfl, setBucket_bucket]
  · split
    · rename_i u hu
      exact .inl ⟨_, (show _ = _ from buffer_last (u := u) hu), hw⟩
    · exact .inr (.inr rfl)

theorem raise_wrote {code : Nat} {ps : List Nat} : (s.raise code ps).wrote code ps := raiseMark_wrote Waymark.carries_mk

theorem raiseAt_wrote {inst code : Nat} {ps : List Nat} : (s.raiseAt inst code ps).wrote code ps :=
  raiseMark_wrote Waymark.carries_mk

theorem raiseKind_wrote {kind inst code : Nat} {ps : List Nat} : (s.raiseKind kind inst code ps).wrote code ps :=
  raiseMark_wrote ⟨rfl, rfl⟩

theorem Same_wrote {u : State} {code : Nat} {ps : List Nat} (h : t.Same u) (w : u.wrote code ps) : t.wrote code ps :=
  wrote_of_recorder h.recorder w

theorem driveOutputs_wrote {code : Nat} {ps : List Nat} (w : s.wrote code ps) : s.driveOutputs.wrote code ps :=
  wrote_of_recorder driveOutputs_recorder w

/-- The fields of WAYM_STATUS beside `buffered`, and every other register, after a waymark is put into the buffer. -/
theorem buffer_get {w : Waymark} {u : State} (h : s.buffer w = some u)
    (hf : f.key = F.WAYM_STATUS_buffered.key → F.WAYM_STATUS_buffered.lo + F.WAYM_STATUS_buffered.width ≤ f.lo ∨
      f.lo + f.width ≤ F.WAYM_STATUS_buffered.lo) (hw : f.lo + f.width ≤ 32) : u.get f = s.get f := by
  have q : ∀ v, (({ s with recorder := v } : State).set F.WAYM_STATUS_buffered (s.recorder.buffer.length + 1)).get f = s.get f := by
    intro v
    by_cases hk : f.key = F.WAYM_STATUS_buffered.key
    · rw [State.get_set_field hk (by have := hf hk; omega) hw]; rfl
    · rw [State.get_set_ne _ _ _ _ hk]; rfl
  rcases buffer_cases h with rfl | rfl
  · exact q _
  · suffices hh : ∀ (l : List Nat) (s0 : State), (s0.each l (fun s i => if s.on (F.WAYM_IRQ_enable i) then s.fire i 8 else s)).get f = s0.get f by
      rw [hh]; exact q _
    intro l
    induction l with
    | nil => intro s0; rfl
    | cons i l ih =>
      intro s0
      rw [State.each_cons, ih]
      split
      · unfold State.fire; split <;> rfl
      · rfl

/-- A field that a waymark does not count in reads as before. -/
theorem get_raiseMark {key : Nat × Nat} {w : Waymark} (h1 : f.key ≠ F.WAYM_SUPPRESSED_count.key) (h2 : f.key ≠ F.WAYM_DROPPED_count.key)
    (hf : f.key = F.WAYM_STATUS_buffered.key → F.WAYM_STATUS_buffered.lo + F.WAYM_STATUS_buffered.width ≤ f.lo ∨
      f.lo + f.width ≤ F.WAYM_STATUS_buffered.lo) (hw : f.lo + f.width ≤ 32) : (s.raiseMark key w).get f = s.get f := by
  unfold State.raiseMark
  simp only
  split
  · rw [State.inc, State.addSat, State.get_set_ne _ _ _ _ h1]; rfl
  · split
    · rename_i u hu
      exact (show u.get f = s.get f from buffer_get (u := u) hu hf hw)
    · unfold State.noteDrop
      simp only
      rw [State.inc, State.addSat, State.get_set_ne _ _ _ _ h2]; rfl

/-- A field of WAYM_STATUS beside `buffered` after a waymark. -/
theorem get_raise_field {code : Nat} {ps : List Nat} (h1 : f.key ≠ F.WAYM_SUPPRESSED_count.key) (h2 : f.key ≠ F.WAYM_DROPPED_count.key)
    (hf : f.key = F.WAYM_STATUS_buffered.key → F.WAYM_STATUS_buffered.lo + F.WAYM_STATUS_buffered.width ≤ f.lo ∨
      f.lo + f.width ≤ F.WAYM_STATUS_buffered.lo) (hw : f.lo + f.width ≤ 32) : (s.raise code ps).get f = s.get f :=
  get_raiseMark h1 h2 hf hw

/-- A field of FIO_STATUS, FIO_OUT_STATE or SAFE_IO beside those that the outputs write. -/
theorem get_driveOutputs_field (hw : f.lo + f.width ≤ 32)
    (h1 : f.key ≠ F.FIO_OUT_STATE_on.key)
    (h2 : f.key = F.SAFE_IO_outputs.key → f.lo + f.width ≤ F.SAFE_IO_outputs.lo ∨ F.SAFE_IO_outputs.lo + F.SAFE_IO_outputs.width ≤ f.lo)
    (h3 : f.key = F.FIO_STATUS_safe_state.key → f.lo + f.width ≤ F.FIO_STATUS_safe_state.lo ∨
      F.FIO_STATUS_safe_state.lo + F.FIO_STATUS_safe_state.width ≤ f.lo) : s.driveOutputs.get f = s.get f := by
  have q : ∀ (u : State) (g : Field) (v : Nat), (f.key = g.key → f.lo + f.width ≤ g.lo ∨ g.lo + g.width ≤ f.lo) →
      (u.set g v).get f = u.get f := by
    intro u g v hg
    by_cases hk : f.key = g.key
    · exact State.get_set_field hk (hg hk) hw
    · exact State.get_set_ne _ _ _ _ hk
  unfold State.driveOutputs
  simp only [get_mk, regGet_regs]
  rw [State.setB, q _ _ _ h3, q _ _ _ h2, State.get_set_ne _ _ _ _ h1]

theorem maskOf_false {n : Nat} {p : Nat → Bool} (h : ∀ i, p i = false) : maskOf n p = 0 := by
  unfold maskOf
  suffices hh : ∀ (l : List Nat) (m : Nat), l.foldl (fun m i => if p i then m + 2 ^ i else m) m = m from hh _ 0
  intro l
  induction l with
  | nil => intro m; rfl
  | cons i l ih => intro m; rw [List.foldl_cons, h i]; exact ih m

theorem driveOutputs_state : s.driveOutputs.get F.SAFE_STATUS_state = s.get F.SAFE_STATUS_state := by
  refine get_driveOutputs_field ?_ ?_ ?_ ?_ <;> decide

/-- The outputs that a state in the safe state drives are off. -/
theorem driveOutputs_off (h : s.get F.SAFE_STATUS_state = safeSAFE) : s.driveOutputs.outputsOff := by
  have hs : s.isSafe = true := by simp [State.isSafe, h]
  have e1 : maskOf 32 s.fieldOut = 0 := maskOf_false (fun i => by simp [State.fieldOut, hs])
  have e2 : maskOf 8 s.pulseOut = 0 := maskOf_false (fun i => by simp [State.pulseOut, hs])
  have e3 : maskOf 4 (fun k => s.safeOutOn (k / 2) (k % 2)) = 0 :=
    maskOf_false (fun i => by simp [State.safeOutOn, h, safeSAFE, safeRECOVERY, safeRUN])
  refine ⟨?_, ?_, e2⟩
  · simp only [State.driveOutputs, get_mk, regGet_regs]
    rw [State.setB, State.get_set_ne _ _ _ _ (by decide), State.get_set_ne _ _ _ _ (by decide), State.get_set (by decide), e1]; rfl
  · simp only [State.driveOutputs, get_mk, regGet_regs]
    rw [State.setB, State.get_set_ne _ _ _ _ (by decide), State.get_set (by decide), e3]; rfl

/-- After an entry the module is in the safe state. -/
theorem enterSafe_state {c u : Nat} : (s.enterSafe c u).get F.SAFE_STATUS_state = safeSAFE := by
  unfold State.enterSafe
  split
  · rename_i h
    simpa [State.isSafe] using h
  · simp only []
    rw [(State.fireAll_frame (W := State.fireAll_mask) (Within.refl _) (Frame.refl _ _)).get _ (by decide),
      (State.sendSafety_frame (W := State.sendSafety_mask) (Within.refl _) (Frame.refl _ _)).get _ (by decide)]
    simp only [get_mk, regGet_regs]
    rw [(State.endAllPulses_frame (W := State.endAllPulses_mask) (Within.refl _) (Frame.refl _ _)).get _ (by decide),
      get_raise (by decide), State.inc_def, State.get_set_kind (by decide), State.get_set_kind (by decide), State.get_set (by decide)]
    rfl

theorem enterSafeHeld_state {c u : Nat} : (s.enterSafeHeld c u).get F.SAFE_STATUS_state = safeSAFE := enterSafe_state

/-- A command that ends in the safe state leaves the outputs off. -/
theorem Same_off {u : State} (h : t.Same u.driveOutputs) (hs : u.get F.SAFE_STATUS_state = safeSAFE) : t.outputsOff := by
  obtain ⟨a, b, c⟩ := driveOutputs_off hs
  exact ⟨h.get.trans a, h.get.trans b, (congrArg Fio.pulseOut h.fio).trans c⟩

/-- The bit that is written reads as written. -/
theorem get_setBit {i : Nat} {b : Bool} (hw : f.lo + f.width ≤ 32) (hi : i < f.width) : ((s.setBit f i b).get f).testBit i = b := by
  unfold State.setBit
  simp only
  rw [State.get_set hw]
  rw [Nat.testBit_mod_two_pow]
  simp only [hi, decide_true, Bool.true_and]
  have key : (if (s.get f).testBit i = true then s.get f - 2 ^ i else s.get f).testBit i = false := by
    split
    · rename_i h
      have hb : 2 ^ i ≤ s.get f := Nat.ge_two_pow_of_testBit h
      have e : s.get f = 2 ^ i + (s.get f - 2 ^ i) := by omega
      rw [e, Nat.testBit_two_pow_add_eq] at h
      simpa using h
    · rename_i h; simpa using h
  cases b with
  | true => simp only [if_true]; rw [Nat.add_comm, Nat.testBit_two_pow_add_eq, key]; rfl
  | false => simpa using key

/-- A register field lies below two to its width. -/
theorem get_lt : s.get f < 2 ^ f.width := Nat.mod_lt _ (Nat.two_pow_pos _)

end Sys2Proof.Machine
end

