-- ==== Sys2Proof/Laws/Idle.lean ====
section
/-! SUPPORT. What the operations of Machine/Idle.lean change: each differs from its argument in the areas of its mask alone. -/

set_option linter.all false

namespace Sys2Proof.Machine

def State.idle_mask : Nat := 0x20003c4000000000000000000000000000000000000000000000808000
theorem State.idle_frame {W : Nat} {s0 s : State} (hW : Within State.idle_mask W) (h : Frame W s0 s) :
    Frame W s0 (State.idle s) := by
  have w0 := Within.trans (a := State.speedSample_mask) rfl hW
  have w1 := Within.trans (a := State.settleField_mask) rfl hW
  have b23 := hW.bit (n := 23) (by decide)
  unfold State.idle
  repeat' first
    | intro _
    | with_reducible assumption
    | (extract_lets +onlyGivenNames x; refine Frame.cut (W := W) (s0 := s0) x ?_ ?_; unfold x; clear x; rotate_left; clear_value x; revert x; intro _ _)
    | (extract_lets +onlyGivenNames x; clear_value x; revert x; intro _)
    | with_reducible refine State.speedSample_frame w0 ?_
    | with_reducible refine State.settleField_frame w1 ?_
    | with_reducible refine Frame.ite ?_ ?_
    | with_reducible refine Frame.foldl ?_ _ _ ?_
    | split
    | with_reducible refine Frame.of_snd (by with_reducible assumption) ?_
    | with_reducible refine Frame.of_fst (by with_reducible assumption) ?_
    | with_reducible refine Frame.snd_mk ?_
    | with_reducible refine Frame.fst_mk ?_
    | with_reducible refine Frame.clk_upd b23 ?_

end Sys2Proof.Machine
end

