-- ==== Sys2Proof/Laws/Isp.lean ====
section
/-! SUPPORT. What the operations of Machine/Isp.lean change: each differs from its argument in the areas of its mask alone. -/

set_option linter.all false

namespace Sys2Proof.Machine

def State.setCtx_mask : Nat := 0x1000
theorem State.setCtx_frame {W : Nat} {s0 s : State} {c : Nat} {x : Ctx} (hW : Within State.setCtx_mask W) (h : Frame W s0 s) :
    Frame W s0 (State.setCtx s c x) := by
  have b12 := hW.bit (n := 12) (by decide)
  unfold State.setCtx
  repeat' first
    | intro _
    | with_reducible assumption
    | (extract_lets +onlyGivenNames x; refine Frame.cut (W := W) (s0 := s0) x ?_ ?_; unfold x; clear x; rotate_left; clear_value x; revert x; intro _ _)
    | (extract_lets +onlyGivenNames x; clear_value x; revert x; intro _)
    | with_reducible refine Frame.ite ?_ ?_
    | with_reducible refine Frame.foldl ?_ _ _ ?_
    | split
    | with_reducible refine Frame.of_snd (by with_reducible assumption) ?_
    | with_reducible refine Frame.of_fst (by with_reducible assumption) ?_
    | with_reducible refine Frame.snd_mk ?_
    | with_reducible refine Frame.fst_mk ?_
    | with_reducible refine Frame.isp_upd b12 ?_

def State.ispResult_mask : Nat := 0x80000000000000000000000000000000000000000000
theorem State.ispResult_frame {W : Nat} {s0 s : State} {i : Nat} {c : Nat} {code : Nat} {reason : Nat} (hW : Within State.ispResult_mask W) (h : Frame W s0 s) :
    Frame W s0 (State.ispResult s i c code reason) := by
  have b175 := hW.bit (n := 175) (by decide)
  unfold State.ispResult
  repeat' first
    | intro _
    | with_reducible assumption
    | (extract_lets +onlyGivenNames x; refine Frame.cut (W := W) (s0 := s0) x ?_ ?_; unfold x; clear x; rotate_left; clear_value x; revert x; intro _ _)
    | (extract_lets +onlyGivenNames x; clear_value x; revert x; intro _)
    | with_reducible refine State.set_frame (F.ISP_CTX_RESULT_reason_kind _ _) b175 ?_
    | with_reducible refine State.set_frame (F.ISP_CTX_RESULT_code_kind _ _) b175 ?_
    | with_reducible refine Frame.ite ?_ ?_
    | with_reducible refine Frame.foldl ?_ _ _ ?_
    | split
    | with_reducible refine Frame.of_snd (by with_reducible assumption) ?_
    | with_reducible refine Frame.of_fst (by with_reducible assumption) ?_
    | with_reducible refine Frame.snd_mk ?_
    | with_reducible refine Frame.fst_mk ?_

def State.ispRefuse_mask : Nat := 0x6020000000000000000000000000000000000000080000000000000000000000000000000000022000000
theorem State.ispRefuse_frame {W : Nat} {s0 s : State} {i : Nat} {c : Nat} {reason : Nat} {off : Nat} (hW : Within State.ispRefuse_mask W) (h : Frame W s0 s) :
    Frame W s0 (State.ispRefuse s i c reason off) := by
  have w0 := Within.trans (a := State.ispResult_mask) rfl hW
  have w1 := Within.trans (a := State.raise_mask) rfl hW
  unfold State.ispRefuse
  repeat' first
    | intro _
    | with_reducible assumption
    | (extract_lets +onlyGivenNames x; refine Frame.cut (W := W) (s0 := s0) x ?_ ?_; unfold x; clear x; rotate_left; clear_value x; revert x; intro _ _)
    | (extract_lets +onlyGivenNames x; clear_value x; revert x; intro _)
    | with_reducible refine State.ispResult_frame w0 ?_
    | with_reducible refine State.raise_frame w1 ?_
    | with_reducible refine Frame.ite ?_ ?_
    | with_reducible refine Frame.foldl ?_ _ _ ?_
    | split
    | with_reducible refine Frame.of_snd (by with_reducible assumption) ?_
    | with_reducible refine Frame.of_fst (by with_reducible assumption) ?_
    | with_reducible refine Frame.snd_mk ?_
    | with_reducible refine Frame.fst_mk ?_

def State.showWork_mask : Nat := 0x2000000000000000000000000000000000000000
theorem State.showWork_frame {W : Nat} {s0 s : State} (hW : Within State.showWork_mask W) (h : Frame W s0 s) :
    Frame W s0 (State.showWork s) := by
  have b157 := hW.bit (n := 157) (by decide)
  unfold State.showWork
  repeat' first
    | intro _
    | with_reducible assumption
    | (extract_lets +onlyGivenNames x; refine Frame.cut (W := W) (s0 := s0) x ?_ ?_; unfold x; clear x; rotate_left; clear_value x; revert x; intro _ _)
    | (extract_lets +onlyGivenNames x; clear_value x; revert x; intro _)
    | with_reducible refine State.set_frame (F.ISP_LINESTORE_work_kib_kind) b157 ?_
    | with_reducible refine Frame.ite ?_ ?_
    | with_reducible refine Frame.foldl ?_ _ _ ?_
    | split
    | with_reducible refine Frame.of_snd (by with_reducible assumption) ?_
    | with_reducible refine Frame.of_fst (by with_reducible assumption) ?_
    | with_reducible refine Frame.snd_mk ?_
    | with_reducible refine Frame.fst_mk ?_

def State.showSet_mask : Nat := 0x104002000000000000000000000000000000000000000
theorem State.showSet_frame {W : Nat} {s0 s : State} {c : Nat} (hW : Within State.showSet_mask W) (h : Frame W s0 s) :
    Frame W s0 (State.showSet s c) := by
  have b170 := hW.bit (n := 170) (by decide)
  have b176 := hW.bit (n := 176) (by decide)
  have w2 := Within.trans (a := State.showWork_mask) rfl hW
  unfold State.showSet
  repeat' first
    | intro _
    | with_reducible assumption
    | (extract_lets +onlyGivenNames x; refine Frame.cut (W := W) (s0 := s0) x ?_ ?_; unfold x; clear x; rotate_left; clear_value x; revert x; intro _ _)
    | (extract_lets +onlyGivenNames x; clear_value x; revert x; intro _)
    | with_reducible refine State.set_frame (F.ISP_CTX_STATUS_loaded_kind _) b170 ?_
    | with_reducible refine State.set_frame (F.ISP_CTX_STATUS_outputs_kind _) b170 ?_
    | with_reducible refine State.set_frame (F.ISP_CTX_DIGEST_word_kind _ _) b176 ?_
    | with_reducible refine State.each_frame ?_ ?_
    | with_reducible refine State.showWork_frame w2 ?_
    | with_reducible refine Frame.ite ?_ ?_
    | with_reducible refine Frame.foldl ?_ _ _ ?_
    | split
    | with_reducible refine Frame.of_snd (by with_reducible assumption) ?_
    | with_reducible refine Frame.of_fst (by with_reducible assumption) ?_
    | with_reducible refine Frame.snd_mk ?_
    | with_reducible refine Frame.fst_mk ?_

def State.withAcc_mask : Nat := 0x1000
theorem State.withAcc_frame {W : Nat} {s0 s : State} {c : Nat} {f : Nat} {g : FrameAcc → FrameAcc} (hW : Within State.withAcc_mask W) (h : Frame W s0 s) :
    Frame W s0 (State.withAcc s c f g) := by
  have w0 := Within.trans (a := State.setCtx_mask) rfl hW
  unfold State.withAcc
  repeat' first
    | intro _
    | with_reducible assumption
    | (extract_lets +onlyGivenNames x; refine Frame.cut (W := W) (s0 := s0) x ?_ ?_; unfold x; clear x; rotate_left; clear_value x; revert x; intro _ _)
    | (extract_lets +onlyGivenNames x; clear_value x; revert x; intro _)
    | with_reducible refine State.setCtx_frame w0 ?_
    | with_reducible refine Frame.ite ?_ ?_
    | with_reducible refine Frame.foldl ?_ _ _ ?_
    | split
    | with_reducible refine Frame.of_snd (by with_reducible assumption) ?_
    | with_reducible refine Frame.of_fst (by with_reducible assumption) ?_
    | with_reducible refine Frame.snd_mk ?_
    | with_reducible refine Frame.fst_mk ?_

def State.zoneBytes_mask : Nat := 0x1000000
theorem State.zoneBytes_snd {W : Nat} {s0 s : State} {a : FrameAcc} (hW : Within State.zoneBytes_mask W) (h : Frame W s0 s) :
    Frame W s0 (State.zoneBytes s a).2 := by
  have w0 := Within.trans (a := State.draw_mask) rfl hW
  have key : Frame.Snd W s0 (State.zoneBytes s a) := by
    unfold State.zoneBytes
    repeat' first
      | intro _
      | with_reducible assumption
      | (extract_lets +onlyGivenNames x; refine Frame.cut (W := W) (s0 := s0) x ?_ ?_; unfold x; clear x; rotate_left; clear_value x; revert x; intro _ _)
      | (extract_lets +onlyGivenNames x; clear_value x; revert x; intro _)
      | with_reducible refine Frame.snd_mk ?_
      | with_reducible refine State.draw_snd w0 ?_
      | with_reducible refine Frame.ite ?_ ?_
      | with_reducible refine Frame.foldl ?_ _ _ ?_
      | split
      | with_reducible refine State.draw_frame (by with_reducible assumption) w0 ?_
      | with_reducible refine Frame.of_snd (by with_reducible assumption) ?_
      | with_reducible refine Frame.of_fst (by with_reducible assumption) ?_
      | with_reducible refine Frame.snd_mk ?_
      | with_reducible refine Frame.fst_mk ?_
      | with_reducible refine Frame.foldl_snd ?_ _ _ ?_
      | with_reducible refine Frame.foldl_fst ?_ _ _ ?_
      | with_reducible refine Frame.foldr_snd ?_ _ _ ?_
      | with_reducible refine Frame.Snd.mk ?_
      | with_reducible refine Frame.Fst.mk ?_
      | dsimp only
  exact key.out
theorem State.zoneBytes_frame {W : Nat} {s0 s : State} {a : FrameAcc} {r0 : List Byte} {t : State} (e : State.zoneBytes s a = (r0, t)) (hW : Within State.zoneBytes_mask W) (h : Frame W s0 s) :
    Frame W s0 t := by
  have key := State.zoneBytes_snd (a := a) hW h
  rw [e] at key; exact key

def State.statsRecord_mask : Nat := 0x1000000
theorem State.statsRecord_snd {W : Nat} {s0 s : State} {c : Nat} {a : FrameAcc} (hW : Within State.statsRecord_mask W) (h : Frame W s0 s) :
    Frame W s0 (State.statsRecord s c a).2 := by
  have w0 := Within.trans (a := State.zoneBytes_mask) rfl hW
  have key : Frame.Snd W s0 (State.statsRecord s c a) := by
    unfold State.statsRecord
    repeat' first
      | intro _
      | with_reducible assumption
      | (extract_lets +onlyGivenNames x; refine Frame.cut (W := W) (s0 := s0) x ?_ ?_; unfold x; clear x; rotate_left; clear_value x; revert x; intro _ _)
      | (extract_lets +onlyGivenNames x; clear_value x; revert x; intro _)
      | with_reducible refine Frame.snd_mk ?_
      | with_reducible refine State.zoneBytes_snd w0 ?_
      | with_reducible refine Frame.ite ?_ ?_
      | with_reducible refine Frame.foldl ?_ _ _ ?_
      | split
      | with_reducible refine State.zoneBytes_frame (by with_reducible assumption) w0 ?_
      | with_reducible refine Frame.of_snd (by with_reducible assumption) ?_
      | with_reducible refine Frame.of_fst (by with_reducible assumption) ?_
      | with_reducible refine Frame.snd_mk ?_
      | with_reducible refine Frame.fst_mk ?_
      | with_reducible refine Frame.foldl_snd ?_ _ _ ?_
      | with_reducible refine Frame.foldl_fst ?_ _ _ ?_
      | with_reducible refine Frame.foldr_snd ?_ _ _ ?_
      | with_reducible refine Frame.Snd.mk ?_
      | with_reducible refine Frame.Fst.mk ?_
      | dsimp only
  exact key.out
theorem State.statsRecord_frame {W : Nat} {s0 s : State} {c : Nat} {a : FrameAcc} {r0 : List Byte} {t : State} (e : State.statsRecord s c a = (r0, t)) (hW : Within State.statsRecord_mask W) (h : Frame W s0 s) :
    Frame W s0 t := by
  have key := State.statsRecord_snd (c := c) (a := a) hW h
  rw [e] at key; exact key

def State.endFrame_mask : Nat := 0x6020000000000040000000000000000000000000020000000000000000000000000000000000023481000
theorem State.endFrame_frame {W : Nat} {s0 s : State} {c : Nat} {f : Nat} (hW : Within State.endFrame_mask W) (h : Frame W s0 s) :
    Frame W s0 (State.endFrame s c f) := by
  have b173 := hW.bit (n := 173) (by decide)
  have w0 := Within.trans (a := State.statsRecord_mask) rfl hW
  have w1 := Within.trans (a := State.setCtx_mask) rfl hW
  have w2 := Within.trans (a := State.frameSeen_mask) rfl hW
  have b22 := hW.bit (n := 22) (by decide)
  unfold State.endFrame
  repeat' first
    | intro _
    | with_reducible assumption
    | (extract_lets +onlyGivenNames x; refine Frame.cut (W := W) (s0 := s0) x ?_ ?_; unfold x; clear x; rotate_left; clear_value x; revert x; intro _ _)
    | (extract_lets +onlyGivenNames x; clear_value x; revert x; intro _)
    | with_reducible refine State.set_frame (F.ISP_CTX_STATS_frame_kind _) b173 ?_
    | with_reducible refine State.putBytes_frame b22 ?_
    | with_reducible refine State.setCtx_frame w1 ?_
    | with_reducible refine State.frameSeen_frame w2 ?_
    | with_reducible refine State.statsRecord_snd w0 ?_
    | with_reducible refine Frame.ite ?_ ?_
    | with_reducible refine Frame.foldl ?_ _ _ ?_
    | split
    | with_reducible refine State.statsRecord_frame (by with_reducible assumption) w0 ?_
    | with_reducible refine Frame.of_snd (by with_reducible assumption) ?_
    | with_reducible refine Frame.of_fst (by with_reducible assumption) ?_
    | with_reducible refine Frame.snd_mk ?_
    | with_reducible refine Frame.fst_mk ?_

def State.drawPixels_mask : Nat := 0x1000000
theorem State.drawPixels_snd {W : Nat} {s0 s : State} {n : Nat} (hW : Within State.drawPixels_mask W) (h : Frame W s0 s) :
    Frame W s0 (State.drawPixels s n).2 := by
  have w0 := Within.trans (a := State.draw_mask) rfl hW
  have key : Frame.Snd W s0 (State.drawPixels s n) := by
    unfold State.drawPixels
    repeat' first
      | intro _
      | with_reducible assumption
      | (extract_lets +onlyGivenNames x; refine Frame.cut (W := W) (s0 := s0) x ?_ ?_; unfold x; clear x; rotate_left; clear_value x; revert x; intro _ _)
      | (extract_lets +onlyGivenNames x; clear_value x; revert x; intro _)
      | with_reducible refine Frame.snd_mk ?_
      | with_reducible refine State.draw_snd w0 ?_
      | with_reducible refine Frame.ite ?_ ?_
      | with_reducible refine Frame.foldl ?_ _ _ ?_
      | split
      | with_reducible refine State.draw_frame (by with_reducible assumption) w0 ?_
      | with_reducible refine Frame.of_snd (by with_reducible assumption) ?_
      | with_reducible refine Frame.of_fst (by with_reducible assumption) ?_
      | with_reducible refine Frame.snd_mk ?_
      | with_reducible refine Frame.fst_mk ?_
      | with_reducible refine Frame.foldl_snd ?_ _ _ ?_
      | with_reducible refine Frame.foldl_fst ?_ _ _ ?_
      | with_reducible refine Frame.foldr_snd ?_ _ _ ?_
      | with_reducible refine Frame.Snd.mk ?_
      | with_reducible refine Frame.Fst.mk ?_
      | dsimp only
  exact key.out
theorem State.drawPixels_frame {W : Nat} {s0 s : State} {n : Nat} {r0 : List Nat} {t : State} (e : State.drawPixels s n = (r0, t)) (hW : Within State.drawPixels_mask W) (h : Frame W s0 s) :
    Frame W s0 t := by
  have key := State.drawPixels_snd (n := n) hW h
  rw [e] at key; exact key

def State.capturedAt_mask : Nat := 0x1000
theorem State.capturedAt_frame {W : Nat} {s0 s : State} {c : Nat} {i : Nat} {slot : Nat} {t : Option Nat} (hW : Within State.capturedAt_mask W) (h : Frame W s0 s) :
    Frame W s0 (State.capturedAt s c i slot t) := by
  have b12 := hW.bit (n := 12) (by decide)
  unfold State.capturedAt
  repeat' first
    | intro _
    | with_reducible assumption
    | (extract_lets +onlyGivenNames x; refine Frame.cut (W := W) (s0 := s0) x ?_ ?_; unfold x; clear x; rotate_left; clear_value x; revert x; intro _ _)
    | (extract_lets +onlyGivenNames x; clear_value x; revert x; intro _)
    | with_reducible refine Frame.ite ?_ ?_
    | with_reducible refine Frame.foldl ?_ _ _ ?_
    | split
    | with_reducible refine Frame.of_snd (by with_reducible assumption) ?_
    | with_reducible refine Frame.of_fst (by with_reducible assumption) ?_
    | with_reducible refine Frame.snd_mk ?_
    | with_reducible refine Frame.fst_mk ?_
    | with_reducible refine Frame.isp_upd b12 ?_

def State.writeRow_mask : Nat := 0x200240000000000000000000000000000000000000000000000000000000000004a1000
theorem State.writeRow_frame {W : Nat} {s0 s : State} {c : Nat} {i : Nat} {o : OutRec} {slot : Nat} {first : Nat} {rows : List Row} (hW : Within State.writeRow_mask W) (h : Frame W s0 s) :
    Frame W s0 (State.writeRow s c i o slot first rows) := by
  have b22 := hW.bit (n := 22) (by decide)
  have w1 := Within.trans (a := State.capturedAt_mask) rfl hW
  have w2 := Within.trans (a := State.kickAll_mask) rfl hW
  have w3 := Within.trans (a := State.sendVerge_mask) rfl hW
  unfold State.writeRow
  repeat' first
    | intro _
    | with_reducible assumption
    | (extract_lets +onlyGivenNames x; refine Frame.cut (W := W) (s0 := s0) x ?_ ?_; unfold x; clear x; rotate_left; clear_value x; revert x; intro _ _)
    | (extract_lets +onlyGivenNames x; clear_value x; revert x; intro _)
    | with_reducible refine State.putBytes_frame b22 ?_
    | with_reducible refine State.capturedAt_frame w1 ?_
    | with_reducible refine State.kickAll_frame w2 ?_
    | with_reducible refine State.sendVerge_frame w3 ?_
    | with_reducible refine Frame.ite ?_ ?_
    | with_reducible refine Frame.foldl ?_ _ _ ?_
    | split
    | with_reducible refine Frame.of_snd (by with_reducible assumption) ?_
    | with_reducible refine Frame.of_fst (by with_reducible assumption) ?_
    | with_reducible refine Frame.snd_mk ?_
    | with_reducible refine Frame.fst_mk ?_

def State.outputRow_mask : Nat := 0x200240000000000000000000000000000000000000000000000000000000000004a1000
theorem State.outputRow_frame {W : Nat} {s0 s : State} {c : Nat} {i : Nat} {o : OutRec} {r : Row} (hW : Within State.outputRow_mask W) (h : Frame W s0 s) :
    Frame W s0 (State.outputRow s c i o r) := by
  have w0 := Within.trans (a := State.setCtx_mask) rfl hW
  have w1 := Within.trans (a := State.writeRow_mask) rfl hW
  unfold State.outputRow
  repeat' first
    | intro _
    | with_reducible assumption
    | (extract_lets +onlyGivenNames x; refine Frame.cut (W := W) (s0 := s0) x ?_ ?_; unfold x; clear x; rotate_left; clear_value x; revert x; intro _ _)
    | (extract_lets +onlyGivenNames x; clear_value x; revert x; intro _)
    | with_reducible refine State.setCtx_frame w0 ?_
    | with_reducible refine State.writeRow_frame w1 ?_
    | with_reducible refine Frame.ite ?_ ?_
    | with_reducible refine Frame.foldl ?_ _ _ ?_
    | split
    | with_reducible refine Frame.of_snd (by with_reducible assumption) ?_
    | with_reducible refine Frame.of_fst (by with_reducible assumption) ?_
    | with_reducible refine Frame.snd_mk ?_
    | with_reducible refine Frame.fst_mk ?_

def State.finishRow_mask : Nat := 0x200240000000000000000000000000000000000000000000000000000000000014a1000
theorem State.finishRow_frame {W : Nat} {s0 s : State} {c : Nat} {q : ParamSet} {r : Row} {mosaic : Option (List Nat)} (hW : Within State.finishRow_mask W) (h : Frame W s0 s) :
    Frame W s0 (State.finishRow s c q r mosaic) := by
  have w0 := Within.trans (a := State.withAcc_mask) rfl hW
  have w1 := Within.trans (a := State.drawPixels_mask) rfl hW
  have w2 := Within.trans (a := State.outputRow_mask) rfl hW
  unfold State.finishRow
  repeat' first
    | intro _
    | with_reducible assumption
    | (extract_lets +onlyGivenNames x; refine Frame.cut (W := W) (s0 := s0) x ?_ ?_; unfold x; clear x; rotate_left; clear_value x; revert x; intro _ _)
    | (extract_lets +onlyGivenNames x; clear_value x; revert x; intro _)
    | with_reducible refine State.withAcc_frame w0 ?_
    | with_reducible refine State.drawPixels_snd w1 ?_
    | with_reducible refine State.outputRow_frame w2 ?_
    | with_reducible refine Frame.ite ?_ ?_
    | with_reducible refine Frame.foldl ?_ _ _ ?_
    | split
    | with_reducible refine State.drawPixels_frame (by with_reducible assumption) w1 ?_
    | with_reducible refine Frame.of_snd (by with_reducible assumption) ?_
    | with_reducible refine Frame.of_fst (by with_reducible assumption) ?_
    | with_reducible refine Frame.snd_mk ?_
    | with_reducible refine Frame.fst_mk ?_

def State.swapBank_mask : Nat := 0x6020000000000000000000000000000000000000104002000000000000000000000000000000022001000
theorem State.swapBank_frame {W : Nat} {s0 s : State} {c : Nat} {f : Nat} (hW : Within State.swapBank_mask W) (h : Frame W s0 s) :
    Frame W s0 (State.swapBank s c f) := by
  have b170 := hW.bit (n := 170) (by decide)
  have w0 := Within.trans (a := State.setCtx_mask) rfl hW
  have w1 := Within.trans (a := State.showSet_mask) rfl hW
  have w2 := Within.trans (a := State.raise_mask) rfl hW
  unfold State.swapBank
  repeat' first
    | intro _
    | with_reducible assumption
    | (extract_lets +onlyGivenNames x; refine Frame.cut (W := W) (s0 := s0) x ?_ ?_; unfold x; clear x; rotate_left; clear_value x; revert x; intro _ _)
    | (extract_lets +onlyGivenNames x; clear_value x; revert x; intro _)
    | with_reducible refine State.set_frame (F.ISP_CTX_STATUS_active_bank_kind _) b170 ?_
    | with_reducible refine State.set_frame (F.ISP_CTX_STATUS_shadow_kind _) b170 ?_
    | with_reducible refine State.setCtx_frame w0 ?_
    | with_reducible refine State.showSet_frame w1 ?_
    | with_reducible refine State.raise_frame w2 ?_
    | with_reducible refine Frame.ite ?_ ?_
    | with_reducible refine Frame.foldl ?_ _ _ ?_
    | split
    | with_reducible refine Frame.of_snd (by with_reducible assumption) ?_
    | with_reducible refine Frame.of_fst (by with_reducible assumption) ?_
    | with_reducible refine Frame.snd_mk ?_
    | with_reducible refine Frame.fst_mk ?_

def State.landRestart_mask : Nat := 0x6020000000000040000000000000000000000000194002000000000000000000000000000000022081000
theorem State.landRestart_frame {W : Nat} {s0 s : State} {c : Nat} (hW : Within State.landRestart_mask W) (h : Frame W s0 s) :
    Frame W s0 (State.landRestart s c) := by
  have b170 := hW.bit (n := 170) (by decide)
  have b172 := hW.bit (n := 172) (by decide)
  have w2 := Within.trans (a := State.ispRefuse_mask) rfl hW
  have w3 := Within.trans (a := State.setCtx_mask) rfl hW
  have w4 := Within.trans (a := State.showSet_mask) rfl hW
  have w5 := Within.trans (a := State.forgetLost_mask) rfl hW
  have w6 := Within.trans (a := State.noReference_mask) rfl hW
  have w7 := Within.trans (a := State.raise_mask) rfl hW
  unfold State.landRestart
  repeat' first
    | intro _
    | with_reducible assumption
    | (extract_lets +onlyGivenNames x; refine Frame.cut (W := W) (s0 := s0) x ?_ ?_; unfold x; clear x; rotate_left; clear_value x; revert x; intro _ _)
    | (extract_lets +onlyGivenNames x; clear_value x; revert x; intro _)
    | with_reducible refine State.set_frame (F.ISP_CTX_STATUS_frame_open_kind _) b170 ?_
    | with_reducible refine State.set_frame (F.ISP_CTX_STATUS_restart_pending_kind _) b170 ?_
    | with_reducible refine State.set_frame (F.ISP_CTX_STATUS_shadow_kind _) b170 ?_
    | with_reducible refine State.set_frame (F.ISP_CTX_LINES_count_kind _) b172 ?_
    | with_reducible refine State.ispRefuse_frame w2 ?_
    | with_reducible refine State.setCtx_frame w3 ?_
    | with_reducible refine State.showSet_frame w4 ?_
    | with_reducible refine State.forgetLost_frame w5 ?_
    | with_reducible refine State.noReference_frame w6 ?_
    | with_reducible refine State.raise_frame w7 ?_
    | with_reducible refine Frame.ite ?_ ?_
    | with_reducible refine Frame.foldl ?_ _ _ ?_
    | split
    | with_reducible refine Frame.of_snd (by with_reducible assumption) ?_
    | with_reducible refine Frame.of_fst (by with_reducible assumption) ?_
    | with_reducible refine Frame.snd_mk ?_
    | with_reducible refine Frame.fst_mk ?_

def State.emitTrilinear_mask : Nat := 0x60200000000000600240000000000000000000000600000000000000000000000000000000000234a1000
theorem State.emitTrilinear_frame {W : Nat} {s0 s : State} {c : Nat} {n : Nat} {fuel : Nat} (hW : Within State.emitTrilinear_mask W) (h : Frame W s0 s) :
    Frame W s0 (State.emitTrilinear s c n fuel) := by
  have b174 := hW.bit (n := 174) (by decide)
  have w0 := Within.trans (a := State.setCtx_mask) rfl hW
  have w1 := Within.trans (a := State.reportLost_mask) rfl hW
  have w2 := Within.trans (a := State.raise_mask) rfl hW
  have w3 := Within.trans (a := State.finishRow_mask) rfl hW
  have w4 := Within.trans (a := State.endFrame_mask) rfl hW
  induction fuel generalizing s c n with
  | zero =>
    unfold State.emitTrilinear
    repeat' first
      | intro _
      | with_reducible assumption
      | (extract_lets +onlyGivenNames x; refine Frame.cut (W := W) (s0 := s0) x ?_ ?_; unfold x; clear x; rotate_left; clear_value x; revert x; intro _ _)
      | (extract_lets +onlyGivenNames x; clear_value x; revert x; intro _)
      | with_reducible refine State.inc_frame (F.ISP_CTX_FAULTS_lost_kind _) b174 ?_
      | with_reducible refine State.setCtx_frame w0 ?_
      | with_reducible refine State.reportLost_frame w1 ?_
      | with_reducible refine State.raise_frame w2 ?_
      | with_reducible refine State.finishRow_frame w3 ?_
      | with_reducible refine State.endFrame_frame w4 ?_
      | with_reducible refine Frame.ite ?_ ?_
      | with_reducible refine Frame.foldl ?_ _ _ ?_
      | split
      | with_reducible refine Frame.of_snd (by with_reducible assumption) ?_
      | with_reducible refine Frame.of_fst (by with_reducible assumption) ?_
      | with_reducible refine Frame.snd_mk ?_
      | with_reducible refine Frame.fst_mk ?_
  | succ fuel ih =>
    unfold State.emitTrilinear
    repeat' first
      | intro _
      | with_reducible assumption
      | with_reducible refine ih ?_
      | (extract_lets +onlyGivenNames x; refine Frame.cut (W := W) (s0 := s0) x ?_ ?_; unfold x; clear x; rotate_left; clear_value x; revert x; intro _ _)
      | (extract_lets +onlyGivenNames x; clear_value x; revert x; intro _)
      | with_reducible refine State.inc_frame (F.ISP_CTX_FAULTS_lost_kind _) b174 ?_
      | with_reducible refine State.setCtx_frame w0 ?_
      | with_reducible refine State.reportLost_frame w1 ?_
      | with_reducible refine State.raise_frame w2 ?_
      | with_reducible refine State.finishRow_frame w3 ?_
      | with_reducible refine State.endFrame_frame w4 ?_
      | with_reducible refine Frame.ite ?_ ?_
      | with_reducible refine Frame.foldl ?_ _ _ ?_
      | split
      | with_reducible refine Frame.of_snd (by with_reducible assumption) ?_
      | with_reducible refine Frame.of_fst (by with_reducible assumption) ?_
      | with_reducible refine Frame.snd_mk ?_
      | with_reducible refine Frame.fst_mk ?_

def State.lineFault_mask : Nat := 0x6020000000000000000000000000000000000000040000000000000000000000000000000000022000000
theorem State.lineFault_frame {W : Nat} {s0 s : State} {c : Nat} {n : Nat} {flags : Nat} {lost : Bool} (hW : Within State.lineFault_mask W) (h : Frame W s0 s) :
    Frame W s0 (State.lineFault s c n flags lost) := by
  have b174 := hW.bit (n := 174) (by decide)
  have w1 := Within.trans (a := State.raise_mask) rfl hW
  unfold State.lineFault
  repeat' first
    | intro _
    | with_reducible assumption
    | (extract_lets +onlyGivenNames x; refine Frame.cut (W := W) (s0 := s0) x ?_ ?_; unfold x; clear x; rotate_left; clear_value x; revert x; intro _ _)
    | (extract_lets +onlyGivenNames x; clear_value x; revert x; intro _)
    | with_reducible refine State.inc_frame (F.ISP_CTX_FAULTS_lost_kind _) b174 ?_
    | with_reducible refine State.inc_frame (F.ISP_CTX_FAULTS_cut_kind _) b174 ?_
    | with_reducible refine State.inc_frame (F.ISP_CTX_FAULTS_frames_kind _) b174 ?_
    | with_reducible refine State.raise_frame w1 ?_
    | with_reducible refine Frame.ite ?_ ?_
    | with_reducible refine Frame.foldl ?_ _ _ ?_
    | split
    | with_reducible refine Frame.of_snd (by with_reducible assumption) ?_
    | with_reducible refine Frame.of_fst (by with_reducible assumption) ?_
    | with_reducible refine Frame.snd_mk ?_
    | with_reducible refine Frame.fst_mk ?_

def State.startLineFrame_mask : Nat := 0x602000000000004000000000000000000000000019c002000000000000000000000000000000022081000
theorem State.startLineFrame_fst {W : Nat} {s0 s : State} {c : Nat} {n : Nat} {f : Nat} (hW : Within State.startLineFrame_mask W) (h : Frame W s0 s) :
    Frame W s0 (State.startLineFrame s c n f).1 := by
  have b171 := hW.bit (n := 171) (by decide)
  have w0 := Within.trans (a := State.landRestart_mask) rfl hW
  have w1 := Within.trans (a := State.swapBank_mask) rfl hW
  have w2 := Within.trans (a := State.setCtx_mask) rfl hW
  have key : Frame.Fst W s0 (State.startLineFrame s c n f) := by
    unfold State.startLineFrame
    repeat' first
      | intro _
      | with_reducible assumption
      | (extract_lets +onlyGivenNames x; refine Frame.cut (W := W) (s0 := s0) x ?_ ?_; unfold x; clear x; rotate_left; clear_value x; revert x; intro _ _)
      | (extract_lets +onlyGivenNames x; clear_value x; revert x; intro _)
      | with_reducible refine State.set_frame (F.ISP_CTX_FRAME_number_kind _) b171 ?_
      | with_reducible refine State.landRestart_frame w0 ?_
      | with_reducible refine State.swapBank_frame w1 ?_
      | with_reducible refine State.setCtx_frame w2 ?_
      | with_reducible refine Frame.fst_mk ?_
      | with_reducible refine Frame.ite ?_ ?_
      | with_reducible refine Frame.foldl ?_ _ _ ?_
      | split
      | with_reducible refine Frame.of_snd (by with_reducible assumption) ?_
      | with_reducible refine Frame.of_fst (by with_reducible assumption) ?_
      | with_reducible refine Frame.snd_mk ?_
      | with_reducible refine Frame.fst_mk ?_
      | with_reducible refine Frame.foldl_snd ?_ _ _ ?_
      | with_reducible refine Frame.foldl_fst ?_ _ _ ?_
      | with_reducible refine Frame.foldr_snd ?_ _ _ ?_
      | with_reducible refine Frame.Snd.mk ?_
      | with_reducible refine Frame.Fst.mk ?_
      | dsimp only
  exact key.out
theorem State.startLineFrame_frame {W : Nat} {s0 s : State} {c : Nat} {n : Nat} {f : Nat} {t : State} {r0 : Nat} {r1 : Nat} (e : State.startLineFrame s c n f = (t, r0, r1)) (hW : Within State.startLineFrame_mask W) (h : Frame W s0 s) :
    Frame W s0 t := by
  have key := State.startLineFrame_fst (c := c) (n := n) (f := f) hW h
  rw [e] at key; exact key

def State.lineEnters_mask : Nat := 0x60200000000000600240000000000000000000001fc0020000000000000000000000000000000234a1000
theorem State.lineEnters_frame {W : Nat} {s0 s : State} {c : Nat} {l : LineIn} (hW : Within State.lineEnters_mask W) (h : Frame W s0 s) :
    Frame W s0 (State.lineEnters s c l) := by
  have b172 := hW.bit (n := 172) (by decide)
  have w0 := Within.trans (a := State.startLineFrame_mask) rfl hW
  have w1 := Within.trans (a := State.lineFault_mask) rfl hW
  have w2 := Within.trans (a := State.ageLost_mask) rfl hW
  have w3 := Within.trans (a := State.reportLost_mask) rfl hW
  have w4 := Within.trans (a := State.withAcc_mask) rfl hW
  have w5 := Within.trans (a := State.setCtx_mask) rfl hW
  have w6 := Within.trans (a := State.emitTrilinear_mask) rfl hW
  have w7 := Within.trans (a := State.finishRow_mask) rfl hW
  have w8 := Within.trans (a := State.endFrame_mask) rfl hW
  unfold State.lineEnters
  repeat' first
    | intro _
    | with_reducible assumption
    | (extract_lets +onlyGivenNames x; refine Frame.cut (W := W) (s0 := s0) x ?_ ?_; unfold x; clear x; rotate_left; clear_value x; revert x; intro _ _)
    | (extract_lets +onlyGivenNames x; clear_value x; revert x; intro _)
    | with_reducible refine State.set_frame (F.ISP_CTX_LINES_count_kind _) b172 ?_
    | with_reducible refine State.lineFault_frame w1 ?_
    | with_reducible refine State.ageLost_frame w2 ?_
    | with_reducible refine State.reportLost_frame w3 ?_
    | with_reducible refine State.withAcc_frame w4 ?_
    | with_reducible refine State.setCtx_frame w5 ?_
    | with_reducible refine State.emitTrilinear_frame w6 ?_
    | with_reducible refine State.finishRow_frame w7 ?_
    | with_reducible refine State.endFrame_frame w8 ?_
    | with_reducible refine State.startLineFrame_fst w0 ?_
    | with_reducible refine Frame.ite ?_ ?_
    | with_reducible refine Frame.foldl ?_ _ _ ?_
    | split
    | with_reducible refine State.startLineFrame_frame (by with_reducible assumption) w0 ?_
    | with_reducible refine Frame.of_snd (by with_reducible assumption) ?_
    | with_reducible refine Frame.of_fst (by with_reducible assumption) ?_
    | with_reducible refine Frame.snd_mk ?_
    | with_reducible refine Frame.fst_mk ?_
    | with_reducible refine Frame.foldl_snd ?_ _ _ ?_
    | with_reducible refine Frame.foldl_fst ?_ _ _ ?_
    | with_reducible refine Frame.foldr_snd ?_ _ _ ?_
    | with_reducible refine Frame.Snd.mk ?_
    | with_reducible refine Frame.Fst.mk ?_
    | dsimp only

def State.finishArea_mask : Nat := 0x200240000000000000000000000000000000000000000000000000000000000014a1000
theorem State.finishArea_frame {W : Nat} {s0 s : State} {c : Nat} {cfa : Nat} {y : Nat} (hW : Within State.finishArea_mask W) (h : Frame W s0 s) :
    Frame W s0 (State.finishArea s c cfa y) := by
  have w0 := Within.trans (a := State.finishRow_mask) rfl hW
  have w1 := Within.trans (a := State.drawPixels_mask) rfl hW
  unfold State.finishArea
  repeat' first
    | intro _
    | with_reducible assumption
    | (extract_lets +onlyGivenNames x; refine Frame.cut (W := W) (s0 := s0) x ?_ ?_; unfold x; clear x; rotate_left; clear_value x; revert x; intro _ _)
    | (extract_lets +onlyGivenNames x; refine Frame.cutF (W := W) (s0 := s0) x ?_ ?_; unfold x; clear x; rotate_left; clear_value x; revert x; intro _ _)
    | (extract_lets +onlyGivenNames x; refine Frame.cutG (W := W) (s0 := s0) x ?_ ?_; unfold x; clear x; rotate_left; clear_value x; revert x; intro _ _)
    | (extract_lets +onlyGivenNames x; refine Frame.cutN (W := W) (s0 := s0) x ?_ ?_; unfold x; clear x; rotate_left; clear_value x; revert x; intro _ _)
    | (extract_lets +onlyGivenNames x; refine Frame.cutH (W := W) (s0 := s0) x ?_ ?_; unfold x; clear x; rotate_left; clear_value x; revert x; intro _ _)
    | (extract_lets +onlyGivenNames x; refine Frame.cutI (W := W) (s0 := s0) x ?_ ?_; unfold x; clear x; rotate_left; clear_value x; revert x; intro _ _)
    | (extract_lets +onlyGivenNames x; clear_value x; revert x; intro _)
    | with_reducible refine State.finishRow_frame w0 ?_
    | with_reducible refine State.drawPixels_snd w1 ?_
    | with_reducible refine Frame.ite ?_ ?_
    | with_reducible refine Frame.foldl ?_ _ _ ?_
    | split
    | with_reducible refine State.drawPixels_frame (by with_reducible assumption) w1 ?_
    | with_reducible refine Frame.of_snd (by with_reducible assumption) ?_
    | with_reducible refine Frame.of_fst (by with_reducible assumption) ?_
    | with_reducible refine Frame.snd_mk ?_
    | with_reducible refine Frame.fst_mk ?_
    | solve_by_elim

def State.finishTo_mask : Nat := 0x200240000000000000000000000000000000000000000000000000000000000014a1000
theorem State.finishTo_frame {W : Nat} {s0 s : State} {c : Nat} {cfa : Nat} {lim : Nat} (hW : Within State.finishTo_mask W) (h : Frame W s0 s) :
    Frame W s0 (State.finishTo s c cfa lim) := by
  have w0 := Within.trans (a := State.finishArea_mask) rfl hW
  have w1 := Within.trans (a := State.setCtx_mask) rfl hW
  unfold State.finishTo
  repeat' first
    | intro _
    | with_reducible assumption
    | (extract_lets +onlyGivenNames x; refine Frame.cut (W := W) (s0 := s0) x ?_ ?_; unfold x; clear x; rotate_left; clear_value x; revert x; intro _ _)
    | (extract_lets +onlyGivenNames x; clear_value x; revert x; intro _)
    | with_reducible refine State.finishArea_frame w0 ?_
    | with_reducible refine State.setCtx_frame w1 ?_
    | with_reducible refine State.each_frame ?_ ?_
    | with_reducible refine Frame.ite ?_ ?_
    | with_reducible refine Frame.foldl ?_ _ _ ?_
    | split
    | with_reducible refine Frame.of_snd (by with_reducible assumption) ?_
    | with_reducible refine Frame.of_fst (by with_reducible assumption) ?_
    | with_reducible refine Frame.snd_mk ?_
    | with_reducible refine Frame.fst_mk ?_

def State.areaRow_mask : Nat := 0x200240000000000000000000000000000000000000000000000000000000000014a1000
theorem State.areaRow_frame {W : Nat} {s0 s : State} {c : Nat} {r : Row} (hW : Within State.areaRow_mask W) (h : Frame W s0 s) :
    Frame W s0 (State.areaRow s c r) := by
  have w0 := Within.trans (a := State.setCtx_mask) rfl hW
  have w1 := Within.trans (a := State.finishTo_mask) rfl hW
  unfold State.areaRow
  repeat' first
    | intro _
    | with_reducible assumption
    | (extract_lets +onlyGivenNames x; refine Frame.cut (W := W) (s0 := s0) x ?_ ?_; unfold x; clear x; rotate_left; clear_value x; revert x; intro _ _)
    | (extract_lets +onlyGivenNames x; clear_value x; revert x; intro _)
    | with_reducible refine State.setCtx_frame w0 ?_
    | with_reducible refine State.finishTo_frame w1 ?_
    | with_reducible refine Frame.ite ?_ ?_
    | with_reducible refine Frame.foldl ?_ _ _ ?_
    | split
    | with_reducible refine Frame.of_snd (by with_reducible assumption) ?_
    | with_reducible refine Frame.of_fst (by with_reducible assumption) ?_
    | with_reducible refine Frame.snd_mk ?_
    | with_reducible refine Frame.fst_mk ?_

def State.padArea_mask : Nat := 0x200240000000000000000000000000000000000000000000000000000000000014a1000
theorem State.padArea_frame {W : Nat} {s0 s : State} {c : Nat} {f : Nat} {height : Nat} {fuel : Nat} (hW : Within State.padArea_mask W) (h : Frame W s0 s) :
    Frame W s0 (State.padArea s c f height fuel) := by
  have w0 := Within.trans (a := State.withAcc_mask) rfl hW
  have w1 := Within.trans (a := State.areaRow_mask) rfl hW
  induction fuel generalizing s with
  | zero =>
    unfold State.padArea
    repeat' first
      | intro _
      | with_reducible assumption
      | (extract_lets +onlyGivenNames x; refine Frame.cut (W := W) (s0 := s0) x ?_ ?_; unfold x; clear x; rotate_left; clear_value x; revert x; intro _ _)
      | (extract_lets +onlyGivenNames x; clear_value x; revert x; intro _)
      | with_reducible refine State.withAcc_frame w0 ?_
      | with_reducible refine State.areaRow_frame w1 ?_
      | with_reducible refine Frame.ite ?_ ?_
      | with_reducible refine Frame.foldl ?_ _ _ ?_
      | split
      | with_reducible refine Frame.of_snd (by with_reducible assumption) ?_
      | with_reducible refine Frame.of_fst (by with_reducible assumption) ?_
      | with_reducible refine Frame.snd_mk ?_
      | with_reducible refine Frame.fst_mk ?_
  | succ fuel ih =>
    unfold State.padArea
    repeat' first
      | intro _
      | with_reducible assumption
      | with_reducible refine ih ?_
      | (extract_lets +onlyGivenNames x; refine Frame.cut (W := W) (s0 := s0) x ?_ ?_; unfold x; clear x; rotate_left; clear_value x; revert x; intro _ _)
      | (extract_lets +onlyGivenNames x; clear_value x; revert x; intro _)
      | with_reducible refine State.withAcc_frame w0 ?_
      | with_reducible refine State.areaRow_frame w1 ?_
      | with_reducible refine Frame.ite ?_ ?_
      | with_reducible refine Frame.foldl ?_ _ _ ?_
      | split
      | with_reducible refine Frame.of_snd (by with_reducible assumption) ?_
      | with_reducible refine Frame.of_fst (by with_reducible assumption) ?_
      | with_reducible refine Frame.snd_mk ?_
      | with_reducible refine Frame.fst_mk ?_

def State.closeArea_mask : Nat := 0x60200000000000600240000000000000000000000640000000008c00000000000000000000000234e1200
theorem State.closeArea_frame {W : Nat} {s0 s : State} {c : Nat} {flags : Nat} {t : Nat} (hW : Within State.closeArea_mask W) (h : Frame W s0 s) :
    Frame W s0 (State.closeArea s c flags t) := by
  have b170 := hW.bit (n := 170) (by decide)
  have b174 := hW.bit (n := 174) (by decide)
  have w0 := Within.trans (a := State.withAcc_mask) rfl hW
  have w1 := Within.trans (a := State.padArea_mask) rfl hW
  have w2 := Within.trans (a := State.finishTo_mask) rfl hW
  have w3 := Within.trans (a := State.endFrame_mask) rfl hW
  have w4 := Within.trans (a := State.capturedAt_mask) rfl hW
  have w5 := Within.trans (a := State.setCtx_mask) rfl hW
  have w6 := Within.trans (a := State.releaseEvents_mask) rfl hW
  have w7 := Within.trans (a := State.raise_mask) rfl hW
  unfold State.closeArea
  repeat' first
    | intro _
    | with_reducible assumption
    | (extract_lets +onlyGivenNames x; refine Frame.cut (W := W) (s0 := s0) x ?_ ?_; unfold x; clear x; rotate_left; clear_value x; revert x; intro _ _)
    | (extract_lets +onlyGivenNames x; clear_value x; revert x; intro _)
    | with_reducible refine State.set_frame (F.ISP_CTX_STATUS_frame_open_kind _) b170 ?_
    | with_reducible refine State.inc_frame (F.ISP_CTX_FAULTS_frames_kind _) b174 ?_
    | with_reducible refine State.withAcc_frame w0 ?_
    | with_reducible refine State.padArea_frame w1 ?_
    | with_reducible refine State.finishTo_frame w2 ?_
    | with_reducible refine State.endFrame_frame w3 ?_
    | with_reducible refine State.capturedAt_frame w4 ?_
    | with_reducible refine State.setCtx_frame w5 ?_
    | with_reducible refine State.releaseEvents_frame w6 ?_
    | with_reducible refine State.raise_frame w7 ?_
    | with_reducible refine State.each_frame ?_ ?_
    | with_reducible refine Frame.ite ?_ ?_
    | with_reducible refine Frame.foldl ?_ _ _ ?_
    | split
    | with_reducible refine Frame.of_snd (by with_reducible assumption) ?_
    | with_reducible refine Frame.of_fst (by with_reducible assumption) ?_
    | with_reducible refine Frame.snd_mk ?_
    | with_reducible refine Frame.fst_mk ?_
    | with_reducible refine Frame.foldl_snd ?_ _ _ ?_
    | with_reducible refine Frame.foldl_fst ?_ _ _ ?_
    | with_reducible refine Frame.foldr_snd ?_ _ _ ?_
    | with_reducible refine Frame.Snd.mk ?_
    | with_reducible refine Frame.Fst.mk ?_
    | dsimp only

def State.markEnters_mask : Nat := 0x60200000000000600240000000000000000000001fc0020000008c00000000000000000000000234e1200
theorem State.markEnters_frame {W : Nat} {s0 s : State} {c : Nat} {frame : Nat} {opens : Bool} {t : Nat} (hW : Within State.markEnters_mask W) (h : Frame W s0 s) :
    Frame W s0 (State.markEnters s c frame opens t) := by
  have b170 := hW.bit (n := 170) (by decide)
  have b171 := hW.bit (n := 171) (by decide)
  have w0 := Within.trans (a := State.closeArea_mask) rfl hW
  have w1 := Within.trans (a := State.landRestart_mask) rfl hW
  have w2 := Within.trans (a := State.swapBank_mask) rfl hW
  have w3 := Within.trans (a := State.setCtx_mask) rfl hW
  unfold State.markEnters
  repeat' first
    | intro _
    | with_reducible assumption
    | (extract_lets +onlyGivenNames x; refine Frame.cut (W := W) (s0 := s0) x ?_ ?_; unfold x; clear x; rotate_left; clear_value x; revert x; intro _ _)
    | (extract_lets +onlyGivenNames x; clear_value x; revert x; intro _)
    | with_reducible refine State.set_frame (F.ISP_CTX_STATUS_frame_open_kind _) b170 ?_
    | with_reducible refine State.set_frame (F.ISP_CTX_FRAME_number_kind _) b171 ?_
    | with_reducible refine State.closeArea_frame w0 ?_
    | with_reducible refine State.landRestart_frame w1 ?_
    | with_reducible refine State.swapBank_frame w2 ?_
    | with_reducible refine State.setCtx_frame w3 ?_
    | with_reducible refine Frame.ite ?_ ?_
    | with_reducible refine Frame.foldl ?_ _ _ ?_
    | split
    | with_reducible refine Frame.of_snd (by with_reducible assumption) ?_
    | with_reducible refine Frame.of_fst (by with_reducible assumption) ?_
    | with_reducible refine Frame.snd_mk ?_
    | with_reducible refine Frame.fst_mk ?_

def State.areaLine_mask : Nat := 0x60200000000000200240000000000000000000000500000000000000000000000000000000000234a1000
theorem State.areaLine_frame {W : Nat} {s0 s : State} {c : Nat} {l : LineIn} (hW : Within State.areaLine_mask W) (h : Frame W s0 s) :
    Frame W s0 (State.areaLine s c l) := by
  have b172 := hW.bit (n := 172) (by decide)
  have b174 := hW.bit (n := 174) (by decide)
  have w0 := Within.trans (a := State.setCtx_mask) rfl hW
  have w1 := Within.trans (a := State.raise_mask) rfl hW
  have w2 := Within.trans (a := State.withAcc_mask) rfl hW
  have w3 := Within.trans (a := State.lineFault_mask) rfl hW
  have w4 := Within.trans (a := State.areaRow_mask) rfl hW
  unfold State.areaLine
  repeat' first
    | intro _
    | with_reducible assumption
    | (extract_lets +onlyGivenNames x; refine Frame.cut (W := W) (s0 := s0) x ?_ ?_; unfold x; clear x; rotate_left; clear_value x; revert x; intro _ _)
    | (extract_lets +onlyGivenNames x; clear_value x; revert x; intro _)
    | with_reducible refine State.set_frame (F.ISP_CTX_LINES_count_kind _) b172 ?_
    | with_reducible refine State.inc_frame (F.ISP_CTX_FAULTS_frames_kind _) b174 ?_
    | with_reducible refine State.inc_frame (F.ISP_CTX_FAULTS_cut_kind _) b174 ?_
    | with_reducible refine State.setCtx_frame w0 ?_
    | with_reducible refine State.raise_frame w1 ?_
    | with_reducible refine State.withAcc_frame w2 ?_
    | with_reducible refine State.lineFault_frame w3 ?_
    | with_reducible refine State.areaRow_frame w4 ?_
    | with_reducible refine Frame.ite ?_ ?_
    | with_reducible refine Frame.foldl ?_ _ _ ?_
    | split
    | with_reducible refine Frame.of_snd (by with_reducible assumption) ?_
    | with_reducible refine Frame.of_fst (by with_reducible assumption) ?_
    | with_reducible refine Frame.snd_mk ?_
    | with_reducible refine Frame.fst_mk ?_

def State.drainMarks_mask : Nat := 0x60200000000000600240000000000000000000001fc0020000008c00000000000000000000000234e1200
theorem State.drainMarks_frame {W : Nat} {s0 s : State} {ch : Nat} {fuel : Nat} (hW : Within State.drainMarks_mask W) (h : Frame W s0 s) :
    Frame W s0 (State.drainMarks s ch fuel) := by
  have w0 := Within.trans (a := State.markEnters_mask) rfl hW
  have w1 := Within.trans (a := State.setIspChan_mask) rfl hW
  induction fuel generalizing s with
  | zero =>
    unfold State.drainMarks
    repeat' first
      | intro _
      | with_reducible assumption
      | (extract_lets +onlyGivenNames x; refine Frame.cut (W := W) (s0 := s0) x ?_ ?_; unfold x; clear x; rotate_left; clear_value x; revert x; intro _ _)
      | (extract_lets +onlyGivenNames x; clear_value x; revert x; intro _)
      | with_reducible refine State.markEnters_frame w0 ?_
      | with_reducible refine State.setIspChan_frame w1 ?_
      | with_reducible refine Frame.ite ?_ ?_
      | with_reducible refine Frame.foldl ?_ _ _ ?_
      | split
      | with_reducible refine Frame.of_snd (by with_reducible assumption) ?_
      | with_reducible refine Frame.of_fst (by with_reducible assumption) ?_
      | with_reducible refine Frame.snd_mk ?_
      | with_reducible refine Frame.fst_mk ?_
  | succ fuel ih =>
    unfold State.drainMarks
    repeat' first
      | intro _
      | with_reducible assumption
      | with_reducible refine ih ?_
      | (extract_lets +onlyGivenNames x; refine Frame.cut (W := W) (s0 := s0) x ?_ ?_; unfold x; clear x; rotate_left; clear_value x; revert x; intro _ _)
      | (extract_lets +onlyGivenNames x; clear_value x; revert x; intro _)
      | with_reducible refine State.markEnters_frame w0 ?_
      | with_reducible refine State.setIspChan_frame w1 ?_
      | with_reducible refine Frame.ite ?_ ?_
      | with_reducible refine Frame.foldl ?_ _ _ ?_
      | split
      | with_reducible refine Frame.of_snd (by with_reducible assumption) ?_
      | with_reducible refine Frame.of_fst (by with_reducible assumption) ?_
      | with_reducible refine Frame.snd_mk ?_
      | with_reducible refine Frame.fst_mk ?_

def execFrameMark_mask : Nat := 0x60200000000000608240000000050000000000001fc0028f00008c00000000040000000000000234e9a00
theorem execFrameMark_frame {s nx : State} {n : LaneId} {p : Packet} (e : execFrameMark n p s = .next nx) : Frame execFrameMark_mask s nx := by
  refine State.run_frame rfl (fun W s0 s hW h => ?_) e
  have w0 := Within.trans (a := State.packet_mask) rfl hW
  have w1 := Within.trans (a := State.handMark_mask) rfl hW
  have w2 := Within.trans (a := State.drainMarks_mask) rfl hW
  have w3 := Within.trans (a := State.violation_mask) rfl hW
  repeat' first
    | intro _
    | with_reducible assumption
    | (extract_lets +onlyGivenNames x; refine Frame.cut (W := W) (s0 := s0) x ?_ ?_; unfold x; clear x; rotate_left; clear_value x; revert x; intro _ _)
    | (extract_lets +onlyGivenNames x; clear_value x; revert x; intro _)
    | with_reducible refine State.packet_frame w0 ?_ ?_
    | with_reducible refine State.handMark_frame w1 ?_
    | with_reducible refine State.drainMarks_frame w2 ?_
    | with_reducible refine State.violation_frame w3 ?_
    | with_reducible refine Frame.ite ?_ ?_
    | with_reducible refine Frame.foldl ?_ _ _ ?_
    | split
    | with_reducible refine Frame.of_snd (by with_reducible assumption) ?_
    | with_reducible refine Frame.of_fst (by with_reducible assumption) ?_

def execLineEntersChannel_mask : Nat := 0x60200000000000608240000000050000000000001fc19a0000008c00000000000000000000000234e9200
theorem execLineEntersChannel_frame {s nx : State} {ch : Fin 16} (e : execLineEntersChannel ch s = .next nx) : Frame execLineEntersChannel_mask s nx := by
  refine State.run_frame rfl (fun W s0 s hW h => ?_) e
  have b164 := hW.bit (n := 164) (by decide)
  have b163 := hW.bit (n := 163) (by decide)
  have w2 := Within.trans (a := State.showLayby_mask) rfl hW
  have w3 := Within.trans (a := State.setIspChan_mask) rfl hW
  have w4 := Within.trans (a := State.areaLine_mask) rfl hW
  have w5 := Within.trans (a := State.lineEnters_mask) rfl hW
  have w6 := Within.trans (a := State.drainMarks_mask) rfl hW
  repeat' first
    | intro _
    | with_reducible assumption
    | (extract_lets +onlyGivenNames x; refine Frame.cut (W := W) (s0 := s0) x ?_ ?_; unfold x; clear x; rotate_left; clear_value x; revert x; intro _ _)
    | (extract_lets +onlyGivenNames x; clear_value x; revert x; intro _)
    | with_reducible refine State.inc_frame (F.ISP_CHAN_LINES_count_kind _) b164 ?_
    | with_reducible refine State.set_frame (F.ISP_GOLDEN_WAIT_ns_kind _) b163 ?_
    | with_reducible refine State.showLayby_frame w2 ?_
    | with_reducible refine State.setIspChan_frame w3 ?_
    | with_reducible refine State.areaLine_frame w4 ?_
    | with_reducible refine State.lineEnters_frame w5 ?_
    | with_reducible refine State.drainMarks_frame w6 ?_
    | with_reducible refine Frame.ite ?_ ?_
    | with_reducible refine Frame.foldl ?_ _ _ ?_
    | split
    | with_reducible refine Frame.of_snd (by with_reducible assumption) ?_
    | with_reducible refine Frame.of_fst (by with_reducible assumption) ?_

def execFrameTimeout_mask : Nat := 0x60200000000000608240000000050000000000000640000000008c00000000000000000000000234e9200
theorem execFrameTimeout_frame {s nx : State} {c : CtxId} (e : execFrameTimeout c s = .next nx) : Frame execFrameTimeout_mask s nx := by
  refine State.run_frame rfl (fun W s0 s hW h => ?_) e
  have w0 := Within.trans (a := State.closeArea_mask) rfl hW
  have w1 := Within.trans (a := State.setCtx_mask) rfl hW
  repeat' first
    | intro _
    | with_reducible assumption
    | (extract_lets +onlyGivenNames x; refine Frame.cut (W := W) (s0 := s0) x ?_ ?_; unfold x; clear x; rotate_left; clear_value x; revert x; intro _ _)
    | (extract_lets +onlyGivenNames x; clear_value x; revert x; intro _)
    | with_reducible refine State.closeArea_frame w0 ?_
    | with_reducible refine State.setCtx_frame w1 ?_
    | with_reducible refine Frame.ite ?_ ?_
    | with_reducible refine Frame.foldl ?_ _ _ ?_
    | split
    | with_reducible refine Frame.of_snd (by with_reducible assumption) ?_
    | with_reducible refine Frame.of_fst (by with_reducible assumption) ?_

def State.ispCmd_mask : Nat := 0x6020000000000000000000000000000000000000000000000000000000000000000000000000022000000
theorem State.ispCmd_frame {W : Nat} {s0 s : State} {i : Port} {c : CtxId} {f : State → State} (hW : Within State.ispCmd_mask W) (hf_f : ∀ s, Frame W s0 s → Frame W s0 (f s)) (h : Frame W s0 s) :
    Frame W s0 (State.ispCmd s i c f) := by
  have w0 := Within.trans (a := State.raise_mask) rfl hW
  unfold State.ispCmd
  repeat' first
    | intro _
    | with_reducible assumption
    | (extract_lets +onlyGivenNames x; refine Frame.cut (W := W) (s0 := s0) x ?_ ?_; unfold x; clear x; rotate_left; clear_value x; revert x; intro _ _)
    | (extract_lets +onlyGivenNames x; clear_value x; revert x; intro _)
    | with_reducible refine State.raise_frame w0 ?_
    | with_reducible refine Frame.ite ?_ ?_
    | with_reducible apply hf_f
    | with_reducible refine Frame.foldl ?_ _ _ ?_
    | split
    | with_reducible refine Frame.of_snd (by with_reducible assumption) ?_
    | with_reducible refine Frame.of_fst (by with_reducible assumption) ?_
    | with_reducible refine Frame.snd_mk ?_
    | with_reducible refine Frame.fst_mk ?_

def execParamLoad_mask : Nat := 0x6020000000000000800000000005000000000000084002000000000000000000000000000000022009000
theorem execParamLoad_frame {s nx : State} {i : Port} {c : CtxId} (e : execParamLoad i c s = .next nx) : Frame execParamLoad_mask s nx := by
  refine State.run_frame rfl (fun W s0 s hW h => ?_) e
  have b170 := hW.bit (n := 170) (by decide)
  have w1 := Within.trans (a := State.ispCmd_mask) rfl hW
  have w2 := Within.trans (a := State.ispRefuse_mask) rfl hW
  have w3 := Within.trans (a := State.setCtx_mask) rfl hW
  have w4 := Within.trans (a := State.ispResult_mask) rfl hW
  have w5 := Within.trans (a := State.showWork_mask) rfl hW
  repeat' first
    | intro _
    | with_reducible assumption
    | (extract_lets +onlyGivenNames x; refine Frame.cut (W := W) (s0 := s0) x ?_ ?_; unfold x; clear x; rotate_left; clear_value x; revert x; intro _ _)
    | (extract_lets +onlyGivenNames x; clear_value x; revert x; intro _)
    | with_reducible refine State.set_frame (F.ISP_CTX_STATUS_shadow_kind _) b170 ?_
    | with_reducible refine State.ispCmd_frame w1 ?_ ?_
    | with_reducible refine State.ispRefuse_frame w2 ?_
    | with_reducible refine State.setCtx_frame w3 ?_
    | with_reducible refine State.ispResult_frame w4 ?_
    | with_reducible refine State.showWork_frame w5 ?_
    | with_reducible refine Frame.ite ?_ ?_
    | with_reducible refine Frame.foldl ?_ _ _ ?_
    | split
    | with_reducible refine Frame.of_snd (by with_reducible assumption) ?_
    | with_reducible refine Frame.of_fst (by with_reducible assumption) ?_

def execParamLoadDone_mask : Nat := 0x6020000000000000800000000005000000000000084002000000000000000000000000000000022009000
theorem execParamLoadDone_frame {s nx : State} {c : CtxId} {host : List Byte} (e : execParamLoadDone c host s = .next nx) : Frame execParamLoadDone_mask s nx := by
  refine State.run_frame rfl (fun W s0 s hW h => ?_) e
  have b170 := hW.bit (n := 170) (by decide)
  have w1 := Within.trans (a := State.ispRefuse_mask) rfl hW
  have w2 := Within.trans (a := State.setCtx_mask) rfl hW
  have w3 := Within.trans (a := State.ispResult_mask) rfl hW
  have w4 := Within.trans (a := State.showWork_mask) rfl hW
  have w5 := Within.trans (a := State.raise_mask) rfl hW
  repeat' first
    | intro _
    | with_reducible assumption
    | (extract_lets +onlyGivenNames x; refine Frame.cut (W := W) (s0 := s0) x ?_ ?_; unfold x; clear x; rotate_left; clear_value x; revert x; intro _ _)
    | (extract_lets +onlyGivenNames x; refine Frame.cutF (W := W) (s0 := s0) x ?_ ?_; unfold x; clear x; rotate_left; clear_value x; revert x; intro _ _)
    | (extract_lets +onlyGivenNames x; refine Frame.cutG (W := W) (s0 := s0) x ?_ ?_; unfold x; clear x; rotate_left; clear_value x; revert x; intro _ _)
    | (extract_lets +onlyGivenNames x; refine Frame.cutN (W := W) (s0 := s0) x ?_ ?_; unfold x; clear x; rotate_left; clear_value x; revert x; intro _ _)
    | (extract_lets +onlyGivenNames x; refine Frame.cutH (W := W) (s0 := s0) x ?_ ?_; unfold x; clear x; rotate_left; clear_value x; revert x; intro _ _)
    | (extract_lets +onlyGivenNames x; refine Frame.cutI (W := W) (s0 := s0) x ?_ ?_; unfold x; clear x; rotate_left; clear_value x; revert x; intro _ _)
    | (extract_lets +onlyGivenNames x; clear_value x; revert x; intro _)
    | with_reducible refine State.set_frame (F.ISP_CTX_STATUS_shadow_kind _) b170 ?_
    | with_reducible refine State.ispRefuse_frame w1 ?_
    | with_reducible refine State.setCtx_frame w2 ?_
    | with_reducible refine State.ispResult_frame w3 ?_
    | with_reducible refine State.showWork_frame w4 ?_
    | with_reducible refine State.raise_frame w5 ?_
    | with_reducible refine Frame.ite ?_ ?_
    | with_reducible refine Frame.foldl ?_ _ _ ?_
    | split
    | with_reducible refine Frame.of_snd (by with_reducible assumption) ?_
    | with_reducible refine Frame.of_fst (by with_reducible assumption) ?_
    | solve_by_elim

def execParamCommit_mask : Nat := 0x6020000000000000800000000005000000000000084000000000000000000000000000000000022008000
theorem execParamCommit_frame {s nx : State} {i : Port} {c : CtxId} (e : execParamCommit i c s = .next nx) : Frame execParamCommit_mask s nx := by
  refine State.run_frame rfl (fun W s0 s hW h => ?_) e
  have b170 := hW.bit (n := 170) (by decide)
  have w1 := Within.trans (a := State.ispCmd_mask) rfl hW
  have w2 := Within.trans (a := State.ispResult_mask) rfl hW
  repeat' first
    | intro _
    | with_reducible assumption
    | (extract_lets +onlyGivenNames x; refine Frame.cut (W := W) (s0 := s0) x ?_ ?_; unfold x; clear x; rotate_left; clear_value x; revert x; intro _ _)
    | (extract_lets +onlyGivenNames x; clear_value x; revert x; intro _)
    | with_reducible refine State.set_frame (F.ISP_CTX_STATUS_shadow_kind _) b170 ?_
    | with_reducible refine State.ispCmd_frame w1 ?_ ?_
    | with_reducible refine State.ispResult_frame w2 ?_
    | with_reducible refine Frame.ite ?_ ?_
    | with_reducible refine Frame.foldl ?_ _ _ ?_
    | split
    | with_reducible refine Frame.of_snd (by with_reducible assumption) ?_
    | with_reducible refine Frame.of_fst (by with_reducible assumption) ?_

def execParamDiscard_mask : Nat := 0x6020000000000000800000000005000000000000084002000000000000000000000000000000022009000
theorem execParamDiscard_frame {s nx : State} {i : Port} {c : CtxId} (e : execParamDiscard i c s = .next nx) : Frame execParamDiscard_mask s nx := by
  refine State.run_frame rfl (fun W s0 s hW h => ?_) e
  have b170 := hW.bit (n := 170) (by decide)
  have w1 := Within.trans (a := State.ispCmd_mask) rfl hW
  have w2 := Within.trans (a := State.ispResult_mask) rfl hW
  have w3 := Within.trans (a := State.showWork_mask) rfl hW
  have w4 := Within.trans (a := State.setCtx_mask) rfl hW
  repeat' first
    | intro _
    | with_reducible assumption
    | (extract_lets +onlyGivenNames x; refine Frame.cut (W := W) (s0 := s0) x ?_ ?_; unfold x; clear x; rotate_left; clear_value x; revert x; intro _ _)
    | (extract_lets +onlyGivenNames x; clear_value x; revert x; intro _)
    | with_reducible refine State.set_frame (F.ISP_CTX_STATUS_shadow_kind _) b170 ?_
    | with_reducible refine State.ispCmd_frame w1 ?_ ?_
    | with_reducible refine State.ispResult_frame w2 ?_
    | with_reducible refine State.showWork_frame w3 ?_
    | with_reducible refine State.setCtx_frame w4 ?_
    | with_reducible refine Frame.ite ?_ ?_
    | with_reducible refine Frame.foldl ?_ _ _ ?_
    | split
    | with_reducible refine Frame.of_snd (by with_reducible assumption) ?_
    | with_reducible refine Frame.of_fst (by with_reducible assumption) ?_

def execContextRestart_mask : Nat := 0x6020000000000000800000000005000000000000084000000000000000000000000000000000022009000
theorem execContextRestart_frame {s nx : State} {i : Port} {c : CtxId} (e : execContextRestart i c s = .next nx) : Frame execContextRestart_mask s nx := by
  refine State.run_frame rfl (fun W s0 s hW h => ?_) e
  have b170 := hW.bit (n := 170) (by decide)
  have w1 := Within.trans (a := State.ispCmd_mask) rfl hW
  have w2 := Within.trans (a := State.ispRefuse_mask) rfl hW
  have w3 := Within.trans (a := State.ispResult_mask) rfl hW
  have w4 := Within.trans (a := State.setCtx_mask) rfl hW
  repeat' first
    | intro _
    | with_reducible assumption
    | (extract_lets +onlyGivenNames x; refine Frame.cut (W := W) (s0 := s0) x ?_ ?_; unfold x; clear x; rotate_left; clear_value x; revert x; intro _ _)
    | (extract_lets +onlyGivenNames x; clear_value x; revert x; intro _)
    | with_reducible refine State.set_frame (F.ISP_CTX_STATUS_restart_pending_kind _) b170 ?_
    | with_reducible refine State.ispCmd_frame w1 ?_ ?_
    | with_reducible refine State.ispRefuse_frame w2 ?_
    | with_reducible refine State.ispResult_frame w3 ?_
    | with_reducible refine State.setCtx_frame w4 ?_
    | with_reducible refine Frame.ite ?_ ?_
    | with_reducible refine Frame.foldl ?_ _ _ ?_
    | split
    | with_reducible refine Frame.of_snd (by with_reducible assumption) ?_
    | with_reducible refine Frame.of_fst (by with_reducible assumption) ?_

def State.openGolden_mask : Nat := 0x1000
theorem State.openGolden_frame {W : Nat} {s0 s : State} {ch : Nat} {c : Nat} (hW : Within State.openGolden_mask W) (h : Frame W s0 s) :
    Frame W s0 (State.openGolden s ch c) := by
  have w0 := Within.trans (a := State.setIspChan_mask) rfl hW
  unfold State.openGolden
  repeat' first
    | intro _
    | with_reducible assumption
    | (extract_lets +onlyGivenNames x; refine Frame.cut (W := W) (s0 := s0) x ?_ ?_; unfold x; clear x; rotate_left; clear_value x; revert x; intro _ _)
    | (extract_lets +onlyGivenNames x; clear_value x; revert x; intro _)
    | with_reducible refine State.setIspChan_frame w0 ?_
    | with_reducible refine Frame.ite ?_ ?_
    | with_reducible refine Frame.foldl ?_ _ _ ?_
    | split
    | with_reducible refine Frame.of_snd (by with_reducible assumption) ?_
    | with_reducible refine Frame.of_fst (by with_reducible assumption) ?_
    | with_reducible refine Frame.snd_mk ?_
    | with_reducible refine Frame.fst_mk ?_

def State.goldenRequest_mask : Nat := 0x6020000000000000000000000000000000000000000040000000000000000000000000000000022001000
theorem State.goldenRequest_frame {W : Nat} {s0 s : State} {c : Nat} {forced : Bool} (hW : Within State.goldenRequest_mask W) (h : Frame W s0 s) :
    Frame W s0 (State.goldenRequest s c forced) := by
  have b162 := hW.bit (n := 162) (by decide)
  have w0 := Within.trans (a := State.openGolden_mask) rfl hW
  have w1 := Within.trans (a := State.raise_mask) rfl hW
  have b12 := hW.bit (n := 12) (by decide)
  unfold State.goldenRequest
  repeat' first
    | intro _
    | with_reducible assumption
    | (extract_lets +onlyGivenNames x; refine Frame.cut (W := W) (s0 := s0) x ?_ ?_; unfold x; clear x; rotate_left; clear_value x; revert x; intro _ _)
    | (extract_lets +onlyGivenNames x; clear_value x; revert x; intro _)
    | with_reducible refine State.inc_frame (F.ISP_GOLDEN_forced_kind _) b162 ?_
    | with_reducible refine State.inc_frame (F.ISP_GOLDEN_deferred_kind _) b162 ?_
    | with_reducible refine State.openGolden_frame w0 ?_
    | with_reducible refine State.raise_frame w1 ?_
    | with_reducible refine Frame.ite ?_ ?_
    | with_reducible refine Frame.foldl ?_ _ _ ?_
    | split
    | with_reducible refine Frame.of_snd (by with_reducible assumption) ?_
    | with_reducible refine Frame.of_fst (by with_reducible assumption) ?_
    | with_reducible refine Frame.snd_mk ?_
    | with_reducible refine Frame.fst_mk ?_
    | with_reducible refine Frame.isp_upd b12 ?_

def execGoldenDue_mask : Nat := 0x6020000000000000800000000005000000000000000040000000000000000000000000000000022009000
theorem execGoldenDue_frame {s nx : State} {c : CtxId} (e : execGoldenDue c s = .next nx) : Frame execGoldenDue_mask s nx := by
  refine State.run_frame rfl (fun W s0 s hW h => ?_) e
  have w0 := Within.trans (a := State.goldenRequest_mask) rfl hW
  repeat' first
    | intro _
    | with_reducible assumption
    | (extract_lets +onlyGivenNames x; refine Frame.cut (W := W) (s0 := s0) x ?_ ?_; unfold x; clear x; rotate_left; clear_value x; revert x; intro _ _)
    | (extract_lets +onlyGivenNames x; clear_value x; revert x; intro _)
    | with_reducible refine State.goldenRequest_frame w0 ?_
    | with_reducible refine Frame.ite ?_ ?_
    | with_reducible refine Frame.foldl ?_ _ _ ?_
    | split
    | with_reducible refine Frame.of_snd (by with_reducible assumption) ?_
    | with_reducible refine Frame.of_fst (by with_reducible assumption) ?_

def execGoldenRetry_mask : Nat := 0x6020000000000000800000000005000000000000000040000000000000000000000000000000022009000
theorem execGoldenRetry_frame {s nx : State} {c : CtxId} (e : execGoldenRetry c s = .next nx) : Frame execGoldenRetry_mask s nx := by
  refine State.run_frame rfl (fun W s0 s hW h => ?_) e
  have w0 := Within.trans (a := State.goldenRequest_mask) rfl hW
  repeat' first
    | intro _
    | with_reducible assumption
    | (extract_lets +onlyGivenNames x; refine Frame.cut (W := W) (s0 := s0) x ?_ ?_; unfold x; clear x; rotate_left; clear_value x; revert x; intro _ _)
    | (extract_lets +onlyGivenNames x; clear_value x; revert x; intro _)
    | with_reducible refine State.goldenRequest_frame w0 ?_
    | with_reducible refine Frame.ite ?_ ?_
    | with_reducible refine Frame.foldl ?_ _ _ ?_
    | split
    | with_reducible refine Frame.of_snd (by with_reducible assumption) ?_
    | with_reducible refine Frame.of_fst (by with_reducible assumption) ?_

def execGoldenForced_mask : Nat := 0x6020000000000000800000000005000000000000000040000000000000000000000000000000022009000
theorem execGoldenForced_frame {s nx : State} {c : CtxId} (e : execGoldenForced c s = .next nx) : Frame execGoldenForced_mask s nx := by
  refine State.run_frame rfl (fun W s0 s hW h => ?_) e
  have w0 := Within.trans (a := State.goldenRequest_mask) rfl hW
  repeat' first
    | intro _
    | with_reducible assumption
    | (extract_lets +onlyGivenNames x; refine Frame.cut (W := W) (s0 := s0) x ?_ ?_; unfold x; clear x; rotate_left; clear_value x; revert x; intro _ _)
    | (extract_lets +onlyGivenNames x; clear_value x; revert x; intro _)
    | with_reducible refine State.goldenRequest_frame w0 ?_
    | with_reducible refine Frame.ite ?_ ?_
    | with_reducible refine Frame.foldl ?_ _ _ ?_
    | split
    | with_reducible refine Frame.of_snd (by with_reducible assumption) ?_
    | with_reducible refine Frame.of_fst (by with_reducible assumption) ?_

def execGoldenComplete_mask : Nat := 0x60200000000000c19800000000050010000000000000c000000000000000000000000000000002208d000
theorem execGoldenComplete_frame {s nx : State} {c : CtxId} {d : BitVec 256} (e : execGoldenComplete c d s = .next nx) : Frame execGoldenComplete_mask s nx := by
  refine State.run_frame rfl (fun W s0 s hW h => ?_) e
  have b162 := hW.bit (n := 162) (by decide)
  have b163 := hW.bit (n := 163) (by decide)
  have w0 := Within.trans (a := State.setIspChan_mask) rfl hW
  have w1 := Within.trans (a := State.raise_mask) rfl hW
  have w2 := Within.trans (a := State.goldenJudge_mask) rfl hW
  have w3 := Within.trans (a := State.goldenRequest_mask) rfl hW
  have b12 := hW.bit (n := 12) (by decide)
  repeat' first
    | intro _
    | with_reducible assumption
    | (extract_lets +onlyGivenNames x; refine Frame.cut (W := W) (s0 := s0) x ?_ ?_; unfold x; clear x; rotate_left; clear_value x; revert x; intro _ _)
    | (extract_lets +onlyGivenNames x; clear_value x; revert x; intro _)
    | with_reducible refine State.inc_frame (F.ISP_GOLDEN_injected_kind _) b162 ?_
    | with_reducible refine State.set_frame (F.ISP_GOLDEN_WAIT_ns_kind _) b163 ?_
    | with_reducible refine State.setIspChan_frame w0 ?_
    | with_reducible refine State.raise_frame w1 ?_
    | with_reducible refine State.goldenJudge_frame w2 ?_
    | with_reducible refine State.goldenRequest_frame w3 ?_
    | with_reducible refine Frame.ite ?_ ?_
    | with_reducible refine Frame.foldl ?_ _ _ ?_
    | split
    | with_reducible refine Frame.of_snd (by with_reducible assumption) ?_
    | with_reducible refine Frame.of_fst (by with_reducible assumption) ?_
    | with_reducible refine Frame.snd_mk ?_
    | with_reducible refine Frame.fst_mk ?_
    | with_reducible refine Frame.isp_upd b12 ?_
    | with_reducible refine Frame.foldl_snd ?_ _ _ ?_
    | with_reducible refine Frame.foldl_fst ?_ _ _ ?_
    | with_reducible refine Frame.foldr_snd ?_ _ _ ?_
    | with_reducible refine Frame.Snd.mk ?_
    | with_reducible refine Frame.Fst.mk ?_
    | dsimp only

end Sys2Proof.Machine
end

