-- ==== Sys2Proof/Laws/Vector.lean ====
section
/-! SUPPORT. What the operations of Machine/Vector.lean change: each differs from its argument in the areas of its mask alone. -/

set_option linter.all false

namespace Sys2Proof.Machine

def State.lanes_mask : Nat := 0x2d8000c0060201f0001e0000118000000000001f001fe20000000000000008800e42401000000000000000235cc785
theorem State.lanes_frame {W : Nat} {s0 s : State} {x : Issue} {id : Option Nat} {two : Bool} {old : Bool} {outLanes : Nat → Nat} {f : State → List Nat → List Nat → List Nat → List Nat × State} (hW : Within State.lanes_mask W) (hf_f : ∀ s a0 a1 a2, Frame W s0 s → Frame W s0 (f s a0 a1 a2).2) (h : Frame W s0 s) :
    Frame W s0 (State.lanes s x id two old outLanes f) := by
  have w0 := Within.trans (a := State.reading_mask) rfl hW
  have w1 := Within.trans (a := State.putLanes_mask) rfl hW
  unfold State.lanes
  repeat' first
    | intro _
    | with_reducible assumption
    | (extract_lets +onlyGivenNames x; refine Frame.cut (W := W) (s0 := s0) x ?_ ?_; unfold x; clear x; rotate_left; clear_value x; revert x; intro _ _)
    | (extract_lets +onlyGivenNames x; clear_value x; revert x; intro _)
    | with_reducible refine State.reading_frame w0 ?_ ?_
    | with_reducible refine State.putLanes_frame w1 ?_
    | with_reducible refine Frame.ite ?_ ?_
    | with_reducible apply hf_f
    | with_reducible refine Frame.foldl ?_ _ _ ?_
    | split
    | with_reducible refine Frame.of_snd (by with_reducible assumption) ?_
    | with_reducible refine Frame.of_fst (by with_reducible assumption) ?_
    | with_reducible refine Frame.snd_mk ?_
    | with_reducible refine Frame.fst_mk ?_

def State.vector_mask : Nat := 0x2583e0c00602000000100000000000000000001f001fe20000000000000008800e4240100000000000000027544785
theorem State.vector_frame {W : Nat} {s0 s : State} {x : Issue} {op : Nat} {legal : Bool} {body : State → Option Nat → State} (hW : Within State.vector_mask W) (hf_body : ∀ s a1, Frame W s0 s → Frame W s0 (body s a1)) (h : Frame W s0 s) :
    Frame W s0 (State.vector s x op legal body) := by
  have w0 := Within.trans (a := State.issue_mask) rfl hW
  unfold State.vector
  repeat' first
    | intro _
    | with_reducible assumption
    | (extract_lets +onlyGivenNames x; refine Frame.cut (W := W) (s0 := s0) x ?_ ?_; unfold x; clear x; rotate_left; clear_value x; revert x; intro _ _)
    | (extract_lets +onlyGivenNames x; clear_value x; revert x; intro _)
    | with_reducible refine State.issue_frame w0 ?_ ?_
    | with_reducible refine Frame.ite ?_ ?_
    | with_reducible apply hf_body
    | with_reducible refine Frame.foldl ?_ _ _ ?_
    | split
    | with_reducible refine Frame.of_snd (by with_reducible assumption) ?_
    | with_reducible refine Frame.of_fst (by with_reducible assumption) ?_
    | with_reducible refine Frame.snd_mk ?_
    | with_reducible refine Frame.fst_mk ?_
    | solve_by_elim

def State.vector2_mask : Nat := 0x2d83e0c0060201f0001e0000118000000000001f001fe20000000000000008800e42401000000000000000275cc785
theorem State.vector2_frame {W : Nat} {s0 s : State} {x : Issue} {op : Nat} {g : Num → Num → Num} (hW : Within State.vector2_mask W) (h : Frame W s0 s) :
    Frame W s0 (State.vector2 s x op g) := by
  have w0 := Within.trans (a := State.vector_mask) rfl hW
  have w1 := Within.trans (a := State.lanes_mask) rfl hW
  unfold State.vector2
  repeat' first
    | intro _
    | with_reducible assumption
    | (extract_lets +onlyGivenNames x; refine Frame.cut (W := W) (s0 := s0) x ?_ ?_; unfold x; clear x; rotate_left; clear_value x; revert x; intro _ _)
    | (extract_lets +onlyGivenNames x; clear_value x; revert x; intro _)
    | with_reducible refine State.vector_frame w0 ?_ ?_
    | with_reducible refine State.lanes_frame w1 ?_ ?_
    | with_reducible refine Frame.ite ?_ ?_
    | with_reducible refine Frame.foldl ?_ _ _ ?_
    | split
    | with_reducible refine Frame.of_snd (by with_reducible assumption) ?_
    | with_reducible refine Frame.of_fst (by with_reducible assumption) ?_
    | with_reducible refine Frame.snd_mk ?_
    | with_reducible refine Frame.fst_mk ?_

def State.vector1_mask : Nat := 0x2d83e0c0060201f0001e0000118000000000001f001fe20000000000000008800e42401000000000000000275cc785
theorem State.vector1_frame {W : Nat} {s0 s : State} {x : Issue} {op : Nat} {g : Num → Num} (hW : Within State.vector1_mask W) (h : Frame W s0 s) :
    Frame W s0 (State.vector1 s x op g) := by
  have w0 := Within.trans (a := State.vector_mask) rfl hW
  have w1 := Within.trans (a := State.lanes_mask) rfl hW
  unfold State.vector1
  repeat' first
    | intro _
    | with_reducible assumption
    | (extract_lets +onlyGivenNames x; refine Frame.cut (W := W) (s0 := s0) x ?_ ?_; unfold x; clear x; rotate_left; clear_value x; revert x; intro _ _)
    | (extract_lets +onlyGivenNames x; clear_value x; revert x; intro _)
    | with_reducible refine State.vector_frame w0 ?_ ?_
    | with_reducible refine State.lanes_frame w1 ?_ ?_
    | with_reducible refine Frame.ite ?_ ?_
    | with_reducible refine Frame.foldl ?_ _ _ ?_
    | split
    | with_reducible refine Frame.of_snd (by with_reducible assumption) ?_
    | with_reducible refine Frame.of_fst (by with_reducible assumption) ?_
    | with_reducible refine Frame.snd_mk ?_
    | with_reducible refine Frame.fst_mk ?_

def execVadd_mask : Nat := 0x2d83e0c0060201f0001e0000198000000000501f001fe20000000000000008800e42401000000000000000275cc785
theorem execVadd_frame {s nx : State} {x : Issue} (e : execVadd x s = .next nx) : Frame execVadd_mask s nx := by
  refine State.run_frame rfl (fun W s0 s hW h => ?_) e
  have w0 := Within.trans (a := State.vector2_mask) rfl hW
  repeat' first
    | intro _
    | with_reducible assumption
    | (extract_lets +onlyGivenNames x; refine Frame.cut (W := W) (s0 := s0) x ?_ ?_; unfold x; clear x; rotate_left; clear_value x; revert x; intro _ _)
    | (extract_lets +onlyGivenNames x; clear_value x; revert x; intro _)
    | with_reducible refine State.vector2_frame w0 ?_
    | with_reducible refine Frame.ite ?_ ?_
    | with_reducible refine Frame.foldl ?_ _ _ ?_
    | split
    | with_reducible refine Frame.of_snd (by with_reducible assumption) ?_
    | with_reducible refine Frame.of_fst (by with_reducible assumption) ?_
    | with_reducible refine Frame.snd_mk ?_
    | with_reducible refine Frame.fst_mk ?_

def execVsub_mask : Nat := 0x2d83e0c0060201f0001e0000198000000000501f001fe20000000000000008800e42401000000000000000275cc785
theorem execVsub_frame {s nx : State} {x : Issue} (e : execVsub x s = .next nx) : Frame execVsub_mask s nx := by
  refine State.run_frame rfl (fun W s0 s hW h => ?_) e
  have w0 := Within.trans (a := State.vector2_mask) rfl hW
  repeat' first
    | intro _
    | with_reducible assumption
    | (extract_lets +onlyGivenNames x; refine Frame.cut (W := W) (s0 := s0) x ?_ ?_; unfold x; clear x; rotate_left; clear_value x; revert x; intro _ _)
    | (extract_lets +onlyGivenNames x; clear_value x; revert x; intro _)
    | with_reducible refine State.vector2_frame w0 ?_
    | with_reducible refine Frame.ite ?_ ?_
    | with_reducible refine Frame.foldl ?_ _ _ ?_
    | split
    | with_reducible refine Frame.of_snd (by with_reducible assumption) ?_
    | with_reducible refine Frame.of_fst (by with_reducible assumption) ?_
    | with_reducible refine Frame.snd_mk ?_
    | with_reducible refine Frame.fst_mk ?_

def execVmul_mask : Nat := 0x2d83e0c0060201f0001e0000198000000000501f001fe20000000000000008800e42401000000000000000275cc785
theorem execVmul_frame {s nx : State} {x : Issue} (e : execVmul x s = .next nx) : Frame execVmul_mask s nx := by
  refine State.run_frame rfl (fun W s0 s hW h => ?_) e
  have w0 := Within.trans (a := State.vector2_mask) rfl hW
  repeat' first
    | intro _
    | with_reducible assumption
    | (extract_lets +onlyGivenNames x; refine Frame.cut (W := W) (s0 := s0) x ?_ ?_; unfold x; clear x; rotate_left; clear_value x; revert x; intro _ _)
    | (extract_lets +onlyGivenNames x; clear_value x; revert x; intro _)
    | with_reducible refine State.vector2_frame w0 ?_
    | with_reducible refine Frame.ite ?_ ?_
    | with_reducible refine Frame.foldl ?_ _ _ ?_
    | split
    | with_reducible refine Frame.of_snd (by with_reducible assumption) ?_
    | with_reducible refine Frame.of_fst (by with_reducible assumption) ?_
    | with_reducible refine Frame.snd_mk ?_
    | with_reducible refine Frame.fst_mk ?_

def execVfma_mask : Nat := 0x2d83e0c0060201f0001e0000198000000000501f001fe20000000000000008800e42401000000000000000275cc785
theorem execVfma_frame {s nx : State} {x : Issue} (e : execVfma x s = .next nx) : Frame execVfma_mask s nx := by
  refine State.run_frame rfl (fun W s0 s hW h => ?_) e
  have w0 := Within.trans (a := State.vector_mask) rfl hW
  have w1 := Within.trans (a := State.lanes_mask) rfl hW
  repeat' first
    | intro _
    | with_reducible assumption
    | (extract_lets +onlyGivenNames x; refine Frame.cut (W := W) (s0 := s0) x ?_ ?_; unfold x; clear x; rotate_left; clear_value x; revert x; intro _ _)
    | (extract_lets +onlyGivenNames x; clear_value x; revert x; intro _)
    | with_reducible refine State.vector_frame w0 ?_ ?_
    | with_reducible refine State.lanes_frame w1 ?_ ?_
    | with_reducible refine Frame.ite ?_ ?_
    | with_reducible refine Frame.foldl ?_ _ _ ?_
    | split
    | with_reducible refine Frame.of_snd (by with_reducible assumption) ?_
    | with_reducible refine Frame.of_fst (by with_reducible assumption) ?_
    | with_reducible refine Frame.snd_mk ?_
    | with_reducible refine Frame.fst_mk ?_

def State.countDivZero_mask : Nat := 0x200
theorem State.countDivZero_frame {W : Nat} {s0 s : State} {id : Option Nat} {n : Nat} (hW : Within State.countDivZero_mask W) (h : Frame W s0 s) :
    Frame W s0 (State.countDivZero s id n) := by
  have w0 := Within.trans (a := State.setLeg_mask) rfl hW
  unfold State.countDivZero
  repeat' first
    | intro _
    | with_reducible assumption
    | (extract_lets +onlyGivenNames x; refine Frame.cut (W := W) (s0 := s0) x ?_ ?_; unfold x; clear x; rotate_left; clear_value x; revert x; intro _ _)
    | (extract_lets +onlyGivenNames x; clear_value x; revert x; intro _)
    | with_reducible refine State.setLeg_frame w0 ?_
    | with_reducible refine Frame.ite ?_ ?_
    | with_reducible refine Frame.foldl ?_ _ _ ?_
    | split
    | with_reducible refine Frame.of_snd (by with_reducible assumption) ?_
    | with_reducible refine Frame.of_fst (by with_reducible assumption) ?_
    | with_reducible refine Frame.snd_mk ?_
    | with_reducible refine Frame.fst_mk ?_

def execVdiv_mask : Nat := 0x2d83e0c0060201f0001e0000198000000000501f001fe20000000000000008800e42401000000000000000275cc785
theorem execVdiv_frame {s nx : State} {x : Issue} (e : execVdiv x s = .next nx) : Frame execVdiv_mask s nx := by
  refine State.run_frame rfl (fun W s0 s hW h => ?_) e
  have w0 := Within.trans (a := State.vector_mask) rfl hW
  have w1 := Within.trans (a := State.lanes_mask) rfl hW
  have w2 := Within.trans (a := State.countDivZero_mask) rfl hW
  repeat' first
    | intro _
    | with_reducible assumption
    | (extract_lets +onlyGivenNames x; refine Frame.cut (W := W) (s0 := s0) x ?_ ?_; unfold x; clear x; rotate_left; clear_value x; revert x; intro _ _)
    | (extract_lets +onlyGivenNames x; clear_value x; revert x; intro _)
    | with_reducible refine State.vector_frame w0 ?_ ?_
    | with_reducible refine State.lanes_frame w1 ?_ ?_
    | with_reducible refine State.countDivZero_frame w2 ?_
    | with_reducible refine Frame.ite ?_ ?_
    | with_reducible refine Frame.foldl ?_ _ _ ?_
    | split
    | with_reducible refine Frame.of_snd (by with_reducible assumption) ?_
    | with_reducible refine Frame.of_fst (by with_reducible assumption) ?_
    | with_reducible refine Frame.snd_mk ?_
    | with_reducible refine Frame.fst_mk ?_

def execVmin_mask : Nat := 0x2d83e0c0060201f0001e0000198000000000501f001fe20000000000000008800e42401000000000000000275cc785
theorem execVmin_frame {s nx : State} {x : Issue} (e : execVmin x s = .next nx) : Frame execVmin_mask s nx := by
  refine State.run_frame rfl (fun W s0 s hW h => ?_) e
  have w0 := Within.trans (a := State.vector2_mask) rfl hW
  repeat' first
    | intro _
    | with_reducible assumption
    | (extract_lets +onlyGivenNames x; refine Frame.cut (W := W) (s0 := s0) x ?_ ?_; unfold x; clear x; rotate_left; clear_value x; revert x; intro _ _)
    | (extract_lets +onlyGivenNames x; clear_value x; revert x; intro _)
    | with_reducible refine State.vector2_frame w0 ?_
    | with_reducible refine Frame.ite ?_ ?_
    | with_reducible refine Frame.foldl ?_ _ _ ?_
    | split
    | with_reducible refine Frame.of_snd (by with_reducible assumption) ?_
    | with_reducible refine Frame.of_fst (by with_reducible assumption) ?_
    | with_reducible refine Frame.snd_mk ?_
    | with_reducible refine Frame.fst_mk ?_

def execVmax_mask : Nat := 0x2d83e0c0060201f0001e0000198000000000501f001fe20000000000000008800e42401000000000000000275cc785
theorem execVmax_frame {s nx : State} {x : Issue} (e : execVmax x s = .next nx) : Frame execVmax_mask s nx := by
  refine State.run_frame rfl (fun W s0 s hW h => ?_) e
  have w0 := Within.trans (a := State.vector2_mask) rfl hW
  repeat' first
    | intro _
    | with_reducible assumption
    | (extract_lets +onlyGivenNames x; refine Frame.cut (W := W) (s0 := s0) x ?_ ?_; unfold x; clear x; rotate_left; clear_value x; revert x; intro _ _)
    | (extract_lets +onlyGivenNames x; clear_value x; revert x; intro _)
    | with_reducible refine State.vector2_frame w0 ?_
    | with_reducible refine Frame.ite ?_ ?_
    | with_reducible refine Frame.foldl ?_ _ _ ?_
    | split
    | with_reducible refine Frame.of_snd (by with_reducible assumption) ?_
    | with_reducible refine Frame.of_fst (by with_reducible assumption) ?_
    | with_reducible refine Frame.snd_mk ?_
    | with_reducible refine Frame.fst_mk ?_

def execVabs_mask : Nat := 0x2d83e0c0060201f0001e0000198000000000501f001fe20000000000000008800e42401000000000000000275cc785
theorem execVabs_frame {s nx : State} {x : Issue} (e : execVabs x s = .next nx) : Frame execVabs_mask s nx := by
  refine State.run_frame rfl (fun W s0 s hW h => ?_) e
  have w0 := Within.trans (a := State.vector1_mask) rfl hW
  repeat' first
    | intro _
    | with_reducible assumption
    | (extract_lets +onlyGivenNames x; refine Frame.cut (W := W) (s0 := s0) x ?_ ?_; unfold x; clear x; rotate_left; clear_value x; revert x; intro _ _)
    | (extract_lets +onlyGivenNames x; clear_value x; revert x; intro _)
    | with_reducible refine State.vector1_frame w0 ?_
    | with_reducible refine Frame.ite ?_ ?_
    | with_reducible refine Frame.foldl ?_ _ _ ?_
    | split
    | with_reducible refine Frame.of_snd (by with_reducible assumption) ?_
    | with_reducible refine Frame.of_fst (by with_reducible assumption) ?_
    | with_reducible refine Frame.snd_mk ?_
    | with_reducible refine Frame.fst_mk ?_

def execVneg_mask : Nat := 0x2d83e0c0060201f0001e0000198000000000501f001fe20000000000000008800e42401000000000000000275cc785
theorem execVneg_frame {s nx : State} {x : Issue} (e : execVneg x s = .next nx) : Frame execVneg_mask s nx := by
  refine State.run_frame rfl (fun W s0 s hW h => ?_) e
  have w0 := Within.trans (a := State.vector1_mask) rfl hW
  repeat' first
    | intro _
    | with_reducible assumption
    | (extract_lets +onlyGivenNames x; refine Frame.cut (W := W) (s0 := s0) x ?_ ?_; unfold x; clear x; rotate_left; clear_value x; revert x; intro _ _)
    | (extract_lets +onlyGivenNames x; clear_value x; revert x; intro _)
    | with_reducible refine State.vector1_frame w0 ?_
    | with_reducible refine Frame.ite ?_ ?_
    | with_reducible refine Frame.foldl ?_ _ _ ?_
    | split
    | with_reducible refine Frame.of_snd (by with_reducible assumption) ?_
    | with_reducible refine Frame.of_fst (by with_reducible assumption) ?_
    | with_reducible refine Frame.snd_mk ?_
    | with_reducible refine Frame.fst_mk ?_

def execVcmp_mask : Nat := 0x2d83e0c0060201f0001e0000198000000000501f001fe20000000000000008800e42401000000000000000275cc785
theorem execVcmp_frame {s nx : State} {x : Issue} (e : execVcmp x s = .next nx) : Frame execVcmp_mask s nx := by
  refine State.run_frame rfl (fun W s0 s hW h => ?_) e
  have w0 := Within.trans (a := State.vector_mask) rfl hW
  have w1 := Within.trans (a := State.lanes_mask) rfl hW
  repeat' first
    | intro _
    | with_reducible assumption
    | (extract_lets +onlyGivenNames x; refine Frame.cut (W := W) (s0 := s0) x ?_ ?_; unfold x; clear x; rotate_left; clear_value x; revert x; intro _ _)
    | (extract_lets +onlyGivenNames x; clear_value x; revert x; intro _)
    | with_reducible refine State.vector_frame w0 ?_ ?_
    | with_reducible refine State.lanes_frame w1 ?_ ?_
    | with_reducible refine Frame.ite ?_ ?_
    | with_reducible refine Frame.foldl ?_ _ _ ?_
    | split
    | with_reducible refine Frame.of_snd (by with_reducible assumption) ?_
    | with_reducible refine Frame.of_fst (by with_reducible assumption) ?_
    | with_reducible refine Frame.snd_mk ?_
    | with_reducible refine Frame.fst_mk ?_

def execVsel_mask : Nat := 0x2d83e0c0060201f0001e0000198000000000501f001fe20000000000000008800e42401000000000000000275cc785
theorem execVsel_frame {s nx : State} {x : Issue} (e : execVsel x s = .next nx) : Frame execVsel_mask s nx := by
  refine State.run_frame rfl (fun W s0 s hW h => ?_) e
  have w0 := Within.trans (a := State.vector_mask) rfl hW
  have w1 := Within.trans (a := State.lanes_mask) rfl hW
  repeat' first
    | intro _
    | with_reducible assumption
    | (extract_lets +onlyGivenNames x; refine Frame.cut (W := W) (s0 := s0) x ?_ ?_; unfold x; clear x; rotate_left; clear_value x; revert x; intro _ _)
    | (extract_lets +onlyGivenNames x; clear_value x; revert x; intro _)
    | with_reducible refine State.vector_frame w0 ?_ ?_
    | with_reducible refine State.lanes_frame w1 ?_ ?_
    | with_reducible refine Frame.ite ?_ ?_
    | with_reducible refine Frame.foldl ?_ _ _ ?_
    | split
    | with_reducible refine Frame.of_snd (by with_reducible assumption) ?_
    | with_reducible refine Frame.of_fst (by with_reducible assumption) ?_
    | with_reducible refine Frame.snd_mk ?_
    | with_reducible refine Frame.fst_mk ?_

def execVcvt_mask : Nat := 0x2d83e0c0060201f0001e0000198000000000501f001fe20000000000000008800e42401000000000000000275cc785
theorem execVcvt_frame {s nx : State} {x : Issue} (e : execVcvt x s = .next nx) : Frame execVcvt_mask s nx := by
  refine State.run_frame rfl (fun W s0 s hW h => ?_) e
  have w0 := Within.trans (a := State.vector_mask) rfl hW
  have w1 := Within.trans (a := State.reading_mask) rfl hW
  have w2 := Within.trans (a := State.storeRanges_mask) rfl hW
  have w3 := Within.trans (a := State.putLanes_mask) rfl hW
  repeat' first
    | intro _
    | with_reducible assumption
    | (extract_lets +onlyGivenNames x; refine Frame.cut (W := W) (s0 := s0) x ?_ ?_; unfold x; clear x; rotate_left; clear_value x; revert x; intro _ _)
    | (extract_lets +onlyGivenNames x; clear_value x; revert x; intro _)
    | with_reducible refine State.vector_frame w0 ?_ ?_
    | with_reducible refine State.reading_frame w1 ?_ ?_
    | with_reducible refine State.storeRanges_frame w2 ?_
    | with_reducible refine State.putLanes_frame w3 ?_
    | with_reducible refine Frame.ite ?_ ?_
    | with_reducible refine Frame.foldl ?_ _ _ ?_
    | split
    | with_reducible refine Frame.of_snd (by with_reducible assumption) ?_
    | with_reducible refine Frame.of_fst (by with_reducible assumption) ?_
    | with_reducible refine Frame.snd_mk ?_
    | with_reducible refine Frame.fst_mk ?_

def State.vectorBits_mask : Nat := 0x2d83e0c0060201f0001e0000118000000000001f001fe20000000000000008800e42401000000000000000275cc785
theorem State.vectorBits_frame {W : Nat} {s0 s : State} {x : Issue} {op : Nat} {legal : Bool} {g : Nat → Nat → Nat → Nat} (hW : Within State.vectorBits_mask W) (h : Frame W s0 s) :
    Frame W s0 (State.vectorBits s x op legal g) := by
  have w0 := Within.trans (a := State.vector_mask) rfl hW
  have w1 := Within.trans (a := State.lanes_mask) rfl hW
  unfold State.vectorBits
  repeat' first
    | intro _
    | with_reducible assumption
    | (extract_lets +onlyGivenNames x; refine Frame.cut (W := W) (s0 := s0) x ?_ ?_; unfold x; clear x; rotate_left; clear_value x; revert x; intro _ _)
    | (extract_lets +onlyGivenNames x; clear_value x; revert x; intro _)
    | with_reducible refine State.vector_frame w0 ?_ ?_
    | with_reducible refine State.lanes_frame w1 ?_ ?_
    | with_reducible refine Frame.ite ?_ ?_
    | with_reducible refine Frame.foldl ?_ _ _ ?_
    | split
    | with_reducible refine Frame.of_snd (by with_reducible assumption) ?_
    | with_reducible refine Frame.of_fst (by with_reducible assumption) ?_
    | with_reducible refine Frame.snd_mk ?_
    | with_reducible refine Frame.fst_mk ?_

def execVlogic_mask : Nat := 0x2d83e0c0060201f0001e0000198000000000501f001fe20000000000000008800e42401000000000000000275cc785
theorem execVlogic_frame {s nx : State} {x : Issue} (e : execVlogic x s = .next nx) : Frame execVlogic_mask s nx := by
  refine State.run_frame rfl (fun W s0 s hW h => ?_) e
  have w0 := Within.trans (a := State.vectorBits_mask) rfl hW
  repeat' first
    | intro _
    | with_reducible assumption
    | (extract_lets +onlyGivenNames x; refine Frame.cut (W := W) (s0 := s0) x ?_ ?_; unfold x; clear x; rotate_left; clear_value x; revert x; intro _ _)
    | (extract_lets +onlyGivenNames x; clear_value x; revert x; intro _)
    | with_reducible refine State.vectorBits_frame w0 ?_
    | with_reducible refine Frame.ite ?_ ?_
    | with_reducible refine Frame.foldl ?_ _ _ ?_
    | split
    | with_reducible refine Frame.of_snd (by with_reducible assumption) ?_
    | with_reducible refine Frame.of_fst (by with_reducible assumption) ?_
    | with_reducible refine Frame.snd_mk ?_
    | with_reducible refine Frame.fst_mk ?_

def execVshift_mask : Nat := 0x2d83e0c0060201f0001e0000198000000000501f001fe20000000000000008800e42401000000000000000275cc785
theorem execVshift_frame {s nx : State} {x : Issue} (e : execVshift x s = .next nx) : Frame execVshift_mask s nx := by
  refine State.run_frame rfl (fun W s0 s hW h => ?_) e
  have w0 := Within.trans (a := State.vectorBits_mask) rfl hW
  repeat' first
    | intro _
    | with_reducible assumption
    | (extract_lets +onlyGivenNames x; refine Frame.cut (W := W) (s0 := s0) x ?_ ?_; unfold x; clear x; rotate_left; clear_value x; revert x; intro _ _)
    | (extract_lets +onlyGivenNames x; clear_value x; revert x; intro _)
    | with_reducible refine State.vectorBits_frame w0 ?_
    | with_reducible refine Frame.ite ?_ ?_
    | with_reducible refine Frame.foldl ?_ _ _ ?_
    | split
    | with_reducible refine Frame.of_snd (by with_reducible assumption) ?_
    | with_reducible refine Frame.of_fst (by with_reducible assumption) ?_
    | with_reducible refine Frame.snd_mk ?_
    | with_reducible refine Frame.fst_mk ?_

def execVadds_mask : Nat := 0x2d83e0c0060201f0001e0000198000000000501f001fe20000000000000008800e42401000000000000000275cc785
theorem execVadds_frame {s nx : State} {x : Issue} (e : execVadds x s = .next nx) : Frame execVadds_mask s nx := by
  refine State.run_frame rfl (fun W s0 s hW h => ?_) e
  have w0 := Within.trans (a := State.vectorBits_mask) rfl hW
  repeat' first
    | intro _
    | with_reducible assumption
    | (extract_lets +onlyGivenNames x; refine Frame.cut (W := W) (s0 := s0) x ?_ ?_; unfold x; clear x; rotate_left; clear_value x; revert x; intro _ _)
    | (extract_lets +onlyGivenNames x; clear_value x; revert x; intro _)
    | with_reducible refine State.vectorBits_frame w0 ?_
    | with_reducible refine Frame.ite ?_ ?_
    | with_reducible refine Frame.foldl ?_ _ _ ?_
    | split
    | with_reducible refine Frame.of_snd (by with_reducible assumption) ?_
    | with_reducible refine Frame.of_fst (by with_reducible assumption) ?_
    | with_reducible refine Frame.snd_mk ?_
    | with_reducible refine Frame.fst_mk ?_

def execVsubs_mask : Nat := 0x2d83e0c0060201f0001e0000198000000000501f001fe20000000000000008800e42401000000000000000275cc785
theorem execVsubs_frame {s nx : State} {x : Issue} (e : execVsubs x s = .next nx) : Frame execVsubs_mask s nx := by
  refine State.run_frame rfl (fun W s0 s hW h => ?_) e
  have w0 := Within.trans (a := State.vectorBits_mask) rfl hW
  repeat' first
    | intro _
    | with_reducible assumption
    | (extract_lets +onlyGivenNames x; refine Frame.cut (W := W) (s0 := s0) x ?_ ?_; unfold x; clear x; rotate_left; clear_value x; revert x; intro _ _)
    | (extract_lets +onlyGivenNames x; clear_value x; revert x; intro _)
    | with_reducible refine State.vectorBits_frame w0 ?_
    | with_reducible refine Frame.ite ?_ ?_
    | with_reducible refine Frame.foldl ?_ _ _ ?_
    | split
    | with_reducible refine Frame.of_snd (by with_reducible assumption) ?_
    | with_reducible refine Frame.of_fst (by with_reducible assumption) ?_
    | with_reducible refine Frame.snd_mk ?_
    | with_reducible refine Frame.fst_mk ?_

def execVfunc_mask : Nat := 0x2d83e0c0060201f0001e0000198000000000501f001fe20000000000000008800e42401000000000000000275cc785
theorem execVfunc_frame {s nx : State} {x : Issue} (e : execVfunc x s = .next nx) : Frame execVfunc_mask s nx := by
  refine State.run_frame rfl (fun W s0 s hW h => ?_) e
  have w0 := Within.trans (a := State.vector_mask) rfl hW
  have w1 := Within.trans (a := State.lanes_mask) rfl hW
  repeat' first
    | intro _
    | with_reducible assumption
    | (extract_lets +onlyGivenNames x; refine Frame.cut (W := W) (s0 := s0) x ?_ ?_; unfold x; clear x; rotate_left; clear_value x; revert x; intro _ _)
    | (extract_lets +onlyGivenNames x; clear_value x; revert x; intro _)
    | with_reducible refine State.vector_frame w0 ?_ ?_
    | with_reducible refine State.lanes_frame w1 ?_ ?_
    | with_reducible refine Frame.ite ?_ ?_
    | with_reducible refine Frame.foldl ?_ _ _ ?_
    | split
    | with_reducible refine Frame.of_snd (by with_reducible assumption) ?_
    | with_reducible refine Frame.of_fst (by with_reducible assumption) ?_
    | with_reducible refine Frame.snd_mk ?_
    | with_reducible refine Frame.fst_mk ?_

def execVred_mask : Nat := 0x2d83e0c0060201f0001e0000198000000000501f001fe20000000000000008800e42401000000000000000275cc785
theorem execVred_frame {s nx : State} {x : Issue} (e : execVred x s = .next nx) : Frame execVred_mask s nx := by
  refine State.run_frame rfl (fun W s0 s hW h => ?_) e
  have w0 := Within.trans (a := State.vector_mask) rfl hW
  have w1 := Within.trans (a := State.lanes_mask) rfl hW
  repeat' first
    | intro _
    | with_reducible assumption
    | (extract_lets +onlyGivenNames x; refine Frame.cut (W := W) (s0 := s0) x ?_ ?_; unfold x; clear x; rotate_left; clear_value x; revert x; intro _ _)
    | (extract_lets +onlyGivenNames x; refine Frame.cutF (W := W) (s0 := s0) x ?_ ?_; unfold x; clear x; rotate_left; clear_value x; revert x; intro _ _)
    | (extract_lets +onlyGivenNames x; refine Frame.cutG (W := W) (s0 := s0) x ?_ ?_; unfold x; clear x; rotate_left; clear_value x; revert x; intro _ _)
    | (extract_lets +onlyGivenNames x; refine Frame.cutN (W := W) (s0 := s0) x ?_ ?_; unfold x; clear x; rotate_left; clear_value x; revert x; intro _ _)
    | (extract_lets +onlyGivenNames x; refine Frame.cutH (W := W) (s0 := s0) x ?_ ?_; unfold x; clear x; rotate_left; clear_value x; revert x; intro _ _)
    | (extract_lets +onlyGivenNames x; refine Frame.cutI (W := W) (s0 := s0) x ?_ ?_; unfold x; clear x; rotate_left; clear_value x; revert x; intro _ _)
    | (extract_lets +onlyGivenNames x; clear_value x; revert x; intro _)
    | with_reducible refine State.vector_frame w0 ?_ ?_
    | with_reducible refine State.lanes_frame w1 ?_ ?_
    | with_reducible refine Frame.ite ?_ ?_
    | with_reducible refine Frame.foldl ?_ _ _ ?_
    | split
    | with_reducible refine Frame.of_snd (by with_reducible assumption) ?_
    | with_reducible refine Frame.of_fst (by with_reducible assumption) ?_
    | with_reducible refine Frame.snd_mk ?_
    | with_reducible refine Frame.fst_mk ?_
    | solve_by_elim

def execVasum_mask : Nat := 0x2d83e0c0060201f0001e0000198000000000501f001fe20000000000000008800e42401000000000000000275cc785
theorem execVasum_frame {s nx : State} {x : Issue} (e : execVasum x s = .next nx) : Frame execVasum_mask s nx := by
  refine State.run_frame rfl (fun W s0 s hW h => ?_) e
  have w0 := Within.trans (a := State.vector_mask) rfl hW
  have w1 := Within.trans (a := State.lanes_mask) rfl hW
  have w2 := Within.trans (a := State.tilePolicy_mask) rfl hW
  have w3 := Within.trans (a := State.breach_mask) rfl hW
  repeat' first
    | intro _
    | with_reducible assumption
    | (extract_lets +onlyGivenNames x; refine Frame.cut (W := W) (s0 := s0) x ?_ ?_; unfold x; clear x; rotate_left; clear_value x; revert x; intro _ _)
    | (extract_lets +onlyGivenNames x; clear_value x; revert x; intro _)
    | with_reducible refine State.vector_frame w0 ?_ ?_
    | with_reducible refine State.lanes_frame w1 ?_ ?_
    | with_reducible refine State.tilePolicy_frame w2 ?_
    | with_reducible refine State.breach_frame w3 ?_
    | with_reducible refine Frame.ite ?_ ?_
    | with_reducible refine Frame.foldl ?_ _ _ ?_
    | split
    | with_reducible refine Frame.of_snd (by with_reducible assumption) ?_
    | with_reducible refine Frame.of_fst (by with_reducible assumption) ?_
    | with_reducible refine Frame.snd_mk ?_
    | with_reducible refine Frame.fst_mk ?_

def execVmov_mask : Nat := 0x2d83e0c0060201f0001e0000198000000000501f001fe20000000000000008800e42401000000000000000275cc785
theorem execVmov_frame {s nx : State} {x : Issue} (e : execVmov x s = .next nx) : Frame execVmov_mask s nx := by
  refine State.run_frame rfl (fun W s0 s hW h => ?_) e
  have w0 := Within.trans (a := State.vector_mask) rfl hW
  have w1 := Within.trans (a := State.lanes_mask) rfl hW
  repeat' first
    | intro _
    | with_reducible assumption
    | (extract_lets +onlyGivenNames x; refine Frame.cut (W := W) (s0 := s0) x ?_ ?_; unfold x; clear x; rotate_left; clear_value x; revert x; intro _ _)
    | (extract_lets +onlyGivenNames x; clear_value x; revert x; intro _)
    | with_reducible refine State.vector_frame w0 ?_ ?_
    | with_reducible refine State.lanes_frame w1 ?_ ?_
    | with_reducible refine Frame.ite ?_ ?_
    | with_reducible refine Frame.foldl ?_ _ _ ?_
    | split
    | with_reducible refine Frame.of_snd (by with_reducible assumption) ?_
    | with_reducible refine Frame.of_fst (by with_reducible assumption) ?_
    | with_reducible refine Frame.snd_mk ?_
    | with_reducible refine Frame.fst_mk ?_

end Sys2Proof.Machine
end

