-- ==== Sys2Proof/Laws/Ready.lean ====
section
/-! SUPPORT. A word that is ready issues: what the tokens it takes, its observers and the tokens it signals leave as they were. -/

namespace Sys2Proof.Machine

/-- What every step of a fold keeps, the fold keeps. -/
theorem State.each_keeps {α : Type} {P : State → Prop} {f : State → α → State} (hf : ∀ s a, P s → P (f s a)) :
    ∀ (l : List α) (s : State), P s → P (s.each l f)
  | [], _, h => h
  | a :: l, s, h => State.each_keeps hf l (f s a) (hf s a h)

/-- A word that is ready issues: its effect on the state with its tokens taken, then the observers, the loops and the tokens it signals. -/
theorem issue_ready {s : State} {x : Issue} {cls op group : Nat} {legal ready fires : Bool} {body : State → Option Nat → State}
    (h : s.Ready x cls op group) (hl : legal = true) (hr : ready = true) :
    s.issue x cls op legal ready fires body =
      (let id := s.legOf x x.group
       let t := ((body (s.took x) id).observeWord x x.group id).noteMark x id
       let t := if t.legStands id then t.stepLoops x id else t
       if fires && t.legStands id then t.fireTokens x.core (wSignal x.word) else t) := by
  obtain ⟨hp, hi, ⟨hg, hs⟩, hleg, hidle, htrips, ⟨hc, ho, hw⟩, hfree, htok⟩ := h
  subst hg
  have h1 : (s.legIn x.core x.group).any (fun h => h.replayAt.isSome) = false := by
    cases hg : s.legIn x.core x.group with
    | none => rfl
    | some g => simp [Option.any, hleg g hg]
  have h3 : (tokensOf (wWait x.word)).findSome? (fun t => match s.tokState x.core t with | .skew e f => some (t, e, f) | _ => none)
      = none := by
    rw [List.findSome?_eq_none_iff]; intro k hk; rw [htok k hk]
  have h4 : (tokensOf (wWait x.word)).all (fun t => s.tokState x.core t == .ready) = true := by
    rw [List.all_eq_true]; intro k hk; rw [htok k hk]; rfl
  unfold State.issue State.took State.legOf
  simp only [hi, h1, hidle, htrips, hc, ho, hw, hs, hl, hr, hfree, Bool.or_self, Bool.not_true, Bool.false_and, Bool.false_eq_true, if_false,
    beq_self_eq_true, Bool.and_self, State.awaitTokens, h4, if_true]
  generalize hx : List.findSome? _ _ = r
  rw [show r = none from hx ▸ h3]

/-! ### What tokens and observers leave -/

theorem State.core_setCore (s : State) (c : Nat) (y : CoreExec) (d : Nat) :
    (s.setCore c y).core d = if d = c then y else s.core d := by
  unfold State.core State.setCore
  split
  · subst d; exact tget_tset_self ..
  · exact tget_tset_ne _ _ _ ‹_›

theorem State.core_exec {s t : State} (h : t.exec = s.exec) (c : Nat) : t.core c = s.core c := by unfold State.core; rw [h]

/-- Taking a token changes nothing of a core but its tokens. -/
theorem State.takeToken_core (s : State) (c k d : Nat) : ∃ n, (s.takeToken c k).core d = { s.core d with tokens := n } := by
  unfold State.takeToken
  split
  · simp only [State.core_setCore]
    split
    · exact ⟨_, by subst d; rfl⟩
    · exact ⟨_, rfl⟩
  · refine ⟨(s.core d).tokens, ?_⟩
    exact State.core_exec ((State.noteVerge_frame (Within.refl _) (Frame.refl State.noteVerge_mask s)).exec rfl) d

/-- Signalling a token changes nothing of a core but its tokens. -/
theorem State.fireToken_core (s : State) (c k d : Nat) : ∃ n, (s.fireToken c k).core d = { s.core d with tokens := n } := by
  unfold State.fireToken
  split
  · simp only [State.core_setCore]
    split
    · exact ⟨_, by subst d; rfl⟩
    · exact ⟨_, rfl⟩
  · refine ⟨(s.core d).tokens, ?_⟩
    refine State.core_exec ?_ d
    refine ((State.noteVerge_frame (Within.refl _) (Frame.refl State.noteVerge_mask _)).exec rfl).trans ?_
    exact (State.store_frame (Within.refl _) (Frame.refl State.store_mask s)).exec rfl

/-- Taking tokens changes nothing of a core but its tokens. -/
theorem State.takeTokens_core (s : State) (c d : Nat) (l : List Nat) :
    ∃ n, (s.each l (fun s k => s.takeToken c k)).core d = { s.core d with tokens := n } := by
  refine State.each_keeps (P := fun t => ∃ n, t.core d = { s.core d with tokens := n }) ?_ l s ⟨_, rfl⟩
  intro t k ⟨n, hn⟩
  obtain ⟨m, hm⟩ := t.takeToken_core c k d
  exact ⟨m, by rw [hm, hn]⟩

/-- Taking tokens leaves everything but the cores' tokens and the scheduler's verges. -/
theorem State.takeTokens_frame (s : State) (c : Nat) (l : List Nat) :
    Frame State.takeToken_mask s (s.each l (fun s k => s.takeToken c k)) :=
  State.each_frame (Frame.refl _ s) (fun _ _ h => State.takeToken_frame (Within.refl _) h)

/-- Signalling tokens changes nothing of a core but its tokens. -/
theorem State.fireTokens_core (s : State) (c m d : Nat) : ∃ n, (s.fireTokens c m).core d = { s.core d with tokens := n } := by
  unfold State.fireTokens
  refine State.each_keeps (P := fun t => ∃ n, t.core d = { s.core d with tokens := n }) ?_ _ s ⟨_, rfl⟩
  intro t k ⟨n, hn⟩
  obtain ⟨m, hm⟩ := t.fireToken_core c k d
  exact ⟨m, by rw [hm, hn]⟩

theorem State.fireTokens_none (s : State) (c : Nat) : s.fireTokens c 0 = s := by
  have : tokensOf 0 = [] := by decide
  unfold State.fireTokens; rw [this]; rfl

/-- The observers of a word change no core, no leg and no memory. -/
theorem State.observeWord_same (s : State) (x : Issue) (g : Nat) (id : Option Nat) :
    Frame State.observeWord_mask s (s.observeWord x g id) := State.observeWord_frame (Within.refl _) (Frame.refl _ s)

/-- The snapshot of a leg changes no core, no memory and no damaged line. -/
theorem State.holdGeneration_same (s : State) (id : Option Nat) : Frame State.holdGeneration_mask s (s.holdGeneration id) :=
  State.holdGeneration_frame (Within.refl _) (Frame.refl _ s)

theorem State.took_core (s : State) (x : Issue) (d : Nat) : ∃ n, (s.took x).core d = { s.core d with tokens := n } := by
  obtain ⟨n, hn⟩ := s.takeTokens_core x.core d (tokensOf (wWait x.word))
  exact ⟨n, by rw [← hn]; exact State.core_exec ((State.holdGeneration_same _ _).exec rfl) d⟩

theorem State.took_mem (s : State) (x : Issue) : (s.took x).mem = s.mem :=
  ((State.holdGeneration_same _ _).mem rfl).trans ((State.takeTokens_frame s x.core _).mem rfl)

theorem State.took_integ (s : State) (x : Issue) : (s.took x).integ = s.integ :=
  ((State.holdGeneration_same _ _).integ rfl).trans ((State.takeTokens_frame s x.core _).integ rfl)

/-- A loop's trip changes nothing of a core but its loops and the words that wait. -/
theorem State.stepLoops_core (s : State) (x : Issue) (id : Option Nat) (d : Nat) :
    ∃ l h, (s.stepLoops x id).core d = { s.core d with loops := l, held := h } := by
  unfold State.stepLoops
  dsimp only
  split
  · exact ⟨_, _, rfl⟩
  · simp only [State.core_setCore]
    split
    · subst d; exact ⟨_, _, rfl⟩
    · exact ⟨_, _, rfl⟩

theorem State.noteMark_exec (s : State) (x : Issue) (id : Option Nat) : (s.noteMark x id).exec = s.exec :=
  (State.noteMark_frame (Within.refl _) (Frame.refl State.noteMark_mask s)).exec rfl

theorem State.noteMark_mem (s : State) (x : Issue) (id : Option Nat) : (s.noteMark x id).mem = s.mem :=
  (State.noteMark_frame (Within.refl _) (Frame.refl State.noteMark_mask s)).mem rfl

theorem State.stepLoops_mem (s : State) (x : Issue) (id : Option Nat) : (s.stepLoops x id).mem = s.mem :=
  (State.stepLoops_frame (Within.refl _) (Frame.refl State.stepLoops_mask s)).mem rfl

/-- A core but for its tokens, its loops and the words that wait. -/
def CoreExec.rest (a b : CoreExec) : Prop := ∃ n l h, a = { b with tokens := n, loops := l, held := h }

/-- A word that is ready: of a core, what its effect leaves but the tokens, the loops and the words that wait. -/
theorem issue_core {s : State} {x : Issue} {cls op group : Nat} {legal ready fires : Bool} {body : State → Option Nat → State}
    (h : s.Ready x cls op group) (hl : legal = true) (hr : ready = true) (d : Nat) :
    ((s.issue x cls op legal ready fires body).core d).rest ((body (s.took x) (s.legOf x x.group)).core d) := by
  rw [issue_ready h hl hr]
  dsimp only
  generalize body (s.took x) (s.legOf x x.group) = b
  generalize s.legOf x x.group = id
  have e : ((b.observeWord x x.group id).noteMark x id).core d = b.core d :=
    State.core_exec ((State.noteMark_exec _ _ _).trans ((State.observeWord_same b x x.group id).exec rfl)) d
  generalize (b.observeWord x x.group id).noteMark x id = m at *
  have e2 : ∃ l h, (if m.legStands id then m.stepLoops x id else m).core d = { b.core d with loops := l, held := h } := by
    split
    · rw [← e]; exact m.stepLoops_core x id d
    · exact ⟨_, _, e⟩
  obtain ⟨l, k, e2⟩ := e2
  generalize (if m.legStands id then m.stepLoops x id else m) = m2 at *
  split
  · obtain ⟨n, hn⟩ := m2.fireTokens_core x.core (wSignal x.word) d
    exact ⟨n, l, k, by rw [hn, e2]⟩
  · exact ⟨_, l, k, e2⟩

/-- A word that is ready and signals no token leaves memory as its effect leaves it. -/
theorem issue_mem {s : State} {x : Issue} {cls op group : Nat} {legal ready fires : Bool} {body : State → Option Nat → State}
    (h : s.Ready x cls op group) (hl : legal = true) (hr : ready = true) (h0 : wSignal x.word = 0) :
    (s.issue x cls op legal ready fires body).mem = (body (s.took x) (s.legOf x x.group)).mem := by
  rw [issue_ready h hl hr]
  dsimp only
  generalize body (s.took x) (s.legOf x x.group) = b
  generalize s.legOf x x.group = id
  rw [h0, State.fireTokens_none, ite_self]
  have e : ((b.observeWord x x.group id).noteMark x id).mem = b.mem :=
    (State.noteMark_mem _ _ _).trans ((State.observeWord_same b x x.group id).mem rfl)
  rw [← e]
  split
  · exact State.stepLoops_mem _ _ _
  · rfl

/-- The scalar registers follow the cores. -/
theorem State.sreg_core {s t : State} {c u r : Nat} (h : (t.core c).rest (s.core c)) :
    t.sreg c u r = s.sreg c u r := by
  obtain ⟨n, l, k, hn⟩ := h
  unfold State.sreg; rw [hn]

theorem State.sreg_setSreg (s : State) (c u r v a b : Nat) (hu : u < 4) (hr : r < 64) (ha : a < 4) (hb : b < 64) :
    (s.setSreg c u r v).sreg c a b = if a = u ∧ b = r then v % 2 ^ 64 else s.sreg c a b := by
  unfold State.sreg State.setSreg
  rw [State.core_setCore, if_pos rfl]
  dsimp only
  split
  · obtain ⟨rfl, rfl⟩ := ‹_ ∧ _›; rw [tget_tset_self]; omega
  · rw [tget_tset_ne]; omega

/-- A scalar word whose effect is one write to rd, after a change that leaves the cores and memory, completes with it. -/
theorem scalar_answers {s : State} {x : Issue} {op : Nat} {body : State → Option Nat → State} {v : BitVec 64} (h : s.ScalarReady x op)
   {f : State → State}
  (hf : ∀ s, f s = s.scalar x op body) (u : State → Nat) (b0 : State → State)
  (hb : ∀ t id, body t id = (b0 t).setSreg x.core (wUnit x.word) (wRd x.word) (u t))
  (h0 : ∀ t, (b0 t).exec = t.exec ∧ (b0 t).mem = t.mem)
  (hv : wUnit x.word < 4)
  (hu : ∀ t : State, (∃ n, t.core x.core = { s.core x.core with tokens := n }) → t.mem = s.mem → t.integ = s.integ → u t % 2 ^ 64 = v.toNat) :
  ∃ t, s.run f = .next t ∧ s.tookRd t x v ∧ s.memKept t x := by
  have hT := s.took_core x x.core
  refine State.run_answers h.power ?_
  intro t ht
  rw [hf] at ht
  unfold State.scalar at ht
  have hc := issue_core (body := body) (fires := true) h rfl rfl x.core
  have he : t.core x.core = (s.issue x 0x5 op true true true body).core x.core :=
    State.core_exec (ht.exec.trans ((State.driveOutputs_frame (Within.refl _) (Frame.refl State.driveOutputs_mask _)).exec rfl)) _
  constructor
  · intro a b ha hb'
    rw [← he] at hc
    rw [State.sreg_core hc, hb, State.sreg_setSreg _ _ _ _ _ _ _ hv (by unfold wRd wField; exact Nat.mod_lt _ (by decide)) ha hb']
    have : ∀ c a b, (b0 (s.took x)).sreg c a b = (s.took x).sreg c a b := by
      intro c a b; unfold State.sreg; rw [State.core_exec (h0 _).1]
    obtain ⟨n, hn⟩ := hT
    rw [this, State.sreg_core ⟨n, (s.core x.core).loops, (s.core x.core).held, hn⟩, hu _ ⟨n, hn⟩ (s.took_mem x) (s.took_integ x)]
  · intro hs
    rw [ht.mem, (State.driveOutputs_frame (Within.refl _) (Frame.refl State.driveOutputs_mask _)).mem rfl, issue_mem h rfl rfl hs, hb]
    show (b0 _).mem = s.mem
    rw [(h0 _).2, s.took_mem x]

end Sys2Proof.Machine
end

