-- ==== Sys2Proof/Laws/Safe.lean ====
section
/-! SUPPORT. What the operations of Machine/Safe.lean change: each differs from its argument in the areas of its mask alone. -/

set_option linter.all false

namespace Sys2Proof.Machine

def State.safeChange_mask : Nat := 0x6020000000000001000000000000000000000000000000000000000000000000000000000000022080000
theorem State.safeChange_frame {W : Nat} {s0 s : State} {f : State → State} (hW : Within State.safeChange_mask W) (hf_f : ∀ s, Frame W s0 s → Frame W s0 (f s)) (h : Frame W s0 s) :
    Frame W s0 (State.safeChange s f) := by
  have w0 := Within.trans (a := State.sendSafety_mask) rfl hW
  unfold State.safeChange
  repeat' first
    | intro _
    | with_reducible assumption
    | (extract_lets +onlyGivenNames x; refine Frame.cut (W := W) (s0 := s0) x ?_ ?_; unfold x; clear x; rotate_left; clear_value x; revert x; intro _ _)
    | (extract_lets +onlyGivenNames x; clear_value x; revert x; intro _)
    | with_reducible refine State.sendSafety_frame w0 ?_
    | with_reducible refine Frame.ite ?_ ?_
    | with_reducible apply hf_f
    | with_reducible refine Frame.foldl ?_ _ _ ?_
    | split
    | with_reducible refine Frame.of_snd (by with_reducible assumption) ?_
    | with_reducible refine Frame.of_fst (by with_reducible assumption) ?_
    | with_reducible refine Frame.snd_mk ?_
    | with_reducible refine Frame.fst_mk ?_

def State.burst_mask : Nat := 0x602000000000000118000000000000100000000000000000000000000000000000000000000002208c000
theorem State.burst_frame {W : Nat} {s0 s : State} {p : Nat} (hW : Within State.burst_mask W) (h : Frame W s0 s) :
    Frame W s0 (State.burst s p) := by
  have b19 := hW.bit (n := 19) (by decide)
  have w1 := Within.trans (a := State.enterSafe_mask) rfl hW
  have w2 := Within.trans (a := State.raise_mask) rfl hW
  unfold State.burst
  repeat' first
    | intro _
    | with_reducible assumption
    | (extract_lets +onlyGivenNames x; refine Frame.cut (W := W) (s0 := s0) x ?_ ?_; unfold x; clear x; rotate_left; clear_value x; revert x; intro _ _)
    | (extract_lets +onlyGivenNames x; clear_value x; revert x; intro _)
    | with_reducible refine State.enterSafe_frame w1 ?_
    | with_reducible refine State.raise_frame w2 ?_
    | with_reducible refine Frame.ite ?_ ?_
    | with_reducible refine Frame.foldl ?_ _ _ ?_
    | split
    | with_reducible refine Frame.of_snd (by with_reducible assumption) ?_
    | with_reducible refine Frame.of_fst (by with_reducible assumption) ?_
    | with_reducible refine Frame.snd_mk ?_
    | with_reducible refine Frame.fst_mk ?_
    | with_reducible refine Frame.safe_upd b19 ?_

def State.recordSeen_mask : Nat := 0x10000000000000000000000000000000000000000000000000000000000000000080200
theorem State.recordSeen_frame {W : Nat} {s0 s : State} {p : Nat} {r : List Byte} (hW : Within State.recordSeen_mask W) (h : Frame W s0 s) :
    Frame W s0 (State.recordSeen s p r) := by
  have b280 := hW.bit (n := 280) (by decide)
  have b9 := hW.bit (n := 9) (by decide)
  have b19 := hW.bit (n := 19) (by decide)
  unfold State.recordSeen
  repeat' first
    | intro _
    | with_reducible assumption
    | (extract_lets +onlyGivenNames x; refine Frame.cut (W := W) (s0 := s0) x ?_ ?_; unfold x; clear x; rotate_left; clear_value x; revert x; intro _ _)
    | (extract_lets +onlyGivenNames x; clear_value x; revert x; intro _)
    | with_reducible refine State.set_frame (F.SAFE_JUDGE_SEQ_counter_kind _) b280 ?_
    | with_reducible refine Frame.ite ?_ ?_
    | with_reducible refine Frame.foldl ?_ _ _ ?_
    | split
    | with_reducible refine Frame.of_snd (by with_reducible assumption) ?_
    | with_reducible refine Frame.of_fst (by with_reducible assumption) ?_
    | with_reducible refine Frame.snd_mk ?_
    | with_reducible refine Frame.fst_mk ?_
    | with_reducible refine Frame.route_safe_upd b9 b19 ?_

def State.passOn_mask : Nat := 0x602000000000000002800000000001f000000000000000000000880000000000000000000000023464000
theorem State.passOn_frame {W : Nat} {s0 s : State} {p : Nat} {v : VerdictIn} {passed : Bool} {verdict : Nat} {cause : Nat} (hW : Within State.passOn_mask W) (h : Frame W s0 s) :
    Frame W s0 (State.passOn s p v passed verdict cause) := by
  have w0 := Within.trans (a := State.giveVerdict_mask) rfl hW
  have w1 := Within.trans (a := State.applyVerdict_mask) rfl hW
  have w2 := Within.trans (a := State.sendContrib_mask) rfl hW
  unfold State.passOn
  repeat' first
    | intro _
    | with_reducible assumption
    | (extract_lets +onlyGivenNames x; refine Frame.cut (W := W) (s0 := s0) x ?_ ?_; unfold x; clear x; rotate_left; clear_value x; revert x; intro _ _)
    | (extract_lets +onlyGivenNames x; clear_value x; revert x; intro _)
    | with_reducible refine State.giveVerdict_frame w0 ?_
    | with_reducible refine State.applyVerdict_frame w1 ?_
    | with_reducible refine State.sendContrib_frame w2 ?_
    | with_reducible refine Frame.ite ?_ ?_
    | with_reducible refine Frame.foldl ?_ _ _ ?_
    | split
    | with_reducible refine Frame.of_snd (by with_reducible assumption) ?_
    | with_reducible refine Frame.of_fst (by with_reducible assumption) ?_
    | with_reducible refine Frame.snd_mk ?_
    | with_reducible refine Frame.fst_mk ?_

def State.judgeFail_mask : Nat := 0x60200000000000191a800000000001f0000000000000000000008800000000000000000000000234ec200
theorem State.judgeFail_frame {W : Nat} {s0 s : State} {p : Nat} {v : VerdictIn} {n : Nat} {value : Nat} (hW : Within State.judgeFail_mask W) (h : Frame W s0 s) :
    Frame W s0 (State.judgeFail s p v n value) := by
  have b279 := hW.bit (n := 279) (by decide)
  have w1 := Within.trans (a := State.raise_mask) rfl hW
  have w2 := Within.trans (a := State.recordSeen_mask) rfl hW
  have w3 := Within.trans (a := State.burst_mask) rfl hW
  have w4 := Within.trans (a := State.passOn_mask) rfl hW
  unfold State.judgeFail
  repeat' first
    | intro _
    | with_reducible assumption
    | (extract_lets +onlyGivenNames x; refine Frame.cut (W := W) (s0 := s0) x ?_ ?_; unfold x; clear x; rotate_left; clear_value x; revert x; intro _ _)
    | (extract_lets +onlyGivenNames x; clear_value x; revert x; intro _)
    | with_reducible refine State.inc_frame (F.SAFE_JUDGE_FAIL_count_kind _) b279 ?_
    | with_reducible refine State.set_frame (F.SAFE_JUDGE_FAIL_check_kind _) b279 ?_
    | with_reducible refine State.raise_frame w1 ?_
    | with_reducible refine State.recordSeen_frame w2 ?_
    | with_reducible refine State.burst_frame w3 ?_
    | with_reducible refine State.passOn_frame w4 ?_
    | with_reducible refine Frame.ite ?_ ?_
    | with_reducible refine Frame.foldl ?_ _ _ ?_
    | split
    | with_reducible refine Frame.of_snd (by with_reducible assumption) ?_
    | with_reducible refine Frame.of_fst (by with_reducible assumption) ?_
    | with_reducible refine Frame.snd_mk ?_
    | with_reducible refine Frame.fst_mk ?_

def State.judgePass_mask : Nat := 0x602000000000001402800000000001f0000000000000000000008800000000000000000000000234e4200
theorem State.judgePass_frame {W : Nat} {s0 s : State} {p : Nat} {v : VerdictIn} (hW : Within State.judgePass_mask W) (h : Frame W s0 s) :
    Frame W s0 (State.judgePass s p v) := by
  have b278 := hW.bit (n := 278) (by decide)
  have w1 := Within.trans (a := State.recordSeen_mask) rfl hW
  have w2 := Within.trans (a := State.passOn_mask) rfl hW
  have w3 := Within.trans (a := State.raise_mask) rfl hW
  unfold State.judgePass
  repeat' first
    | intro _
    | with_reducible assumption
    | (extract_lets +onlyGivenNames x; refine Frame.cut (W := W) (s0 := s0) x ?_ ?_; unfold x; clear x; rotate_left; clear_value x; revert x; intro _ _)
    | (extract_lets +onlyGivenNames x; clear_value x; revert x; intro _)
    | with_reducible refine State.inc_frame (F.SAFE_JUDGE_PASS_count_kind _) b278 ?_
    | with_reducible refine State.recordSeen_frame w1 ?_
    | with_reducible refine State.passOn_frame w2 ?_
    | with_reducible refine State.raise_frame w3 ?_
    | with_reducible refine Frame.ite ?_ ?_
    | with_reducible refine Frame.foldl ?_ _ _ ?_
    | split
    | with_reducible refine Frame.of_snd (by with_reducible assumption) ?_
    | with_reducible refine Frame.of_fst (by with_reducible assumption) ?_
    | with_reducible refine Frame.snd_mk ?_
    | with_reducible refine Frame.fst_mk ?_

def execVerdictRecord_mask : Nat := 0x602000000000001d9a800000000501f0000000000000000000008800000000000000000000000234ec200
theorem execVerdictRecord_frame {s nx : State} {p : Part} {v : VerdictIn} (e : execVerdictRecord p v s = .next nx) : Frame execVerdictRecord_mask s nx := by
  refine State.run_frame rfl (fun W s0 s hW h => ?_) e
  have w0 := Within.trans (a := State.passOn_mask) rfl hW
  have w1 := Within.trans (a := State.recordSeen_mask) rfl hW
  have w2 := Within.trans (a := State.judgeFail_mask) rfl hW
  have w3 := Within.trans (a := State.judgePass_mask) rfl hW
  repeat' first
    | intro _
    | with_reducible assumption
    | (extract_lets +onlyGivenNames x; refine Frame.cut (W := W) (s0 := s0) x ?_ ?_; unfold x; clear x; rotate_left; clear_value x; revert x; intro _ _)
    | (extract_lets +onlyGivenNames x; clear_value x; revert x; intro _)
    | with_reducible refine State.passOn_frame w0 ?_
    | with_reducible refine State.recordSeen_frame w1 ?_
    | with_reducible refine State.judgeFail_frame w2 ?_
    | with_reducible refine State.judgePass_frame w3 ?_
    | with_reducible refine Frame.ite ?_ ?_
    | with_reducible refine Frame.foldl ?_ _ _ ?_
    | split
    | with_reducible refine Frame.of_snd (by with_reducible assumption) ?_
    | with_reducible refine Frame.of_fst (by with_reducible assumption) ?_

def execWatchdogMiss_mask : Nat := 0x602000000000002198000000000500100000000000000000000000000000000000000000000002208c000
theorem execWatchdogMiss_frame {s nx : State} {w : Fin 64} {early : Bool} (e : execWatchdogMiss w early s = .next nx) : Frame execWatchdogMiss_mask s nx := by
  refine State.run_frame rfl (fun W s0 s hW h => ?_) e
  have b19 := hW.bit (n := 19) (by decide)
  have b281 := hW.bit (n := 281) (by decide)
  have w2 := Within.trans (a := State.raise_mask) rfl hW
  have w3 := Within.trans (a := State.enterSafe_mask) rfl hW
  repeat' first
    | intro _
    | with_reducible assumption
    | (extract_lets +onlyGivenNames x; refine Frame.cut (W := W) (s0 := s0) x ?_ ?_; unfold x; clear x; rotate_left; clear_value x; revert x; intro _ _)
    | (extract_lets +onlyGivenNames x; clear_value x; revert x; intro _)
    | with_reducible refine State.setB_frame (F.SAFE_WDOG_early_kind _) b281 ?_
    | with_reducible refine State.inc_frame (F.SAFE_WDOG_misses_kind _) b281 ?_
    | with_reducible refine State.raise_frame w2 ?_
    | with_reducible refine State.enterSafe_frame w3 ?_
    | with_reducible refine Frame.ite ?_ ?_
    | with_reducible refine Frame.foldl ?_ _ _ ?_
    | split
    | with_reducible refine Frame.of_snd (by with_reducible assumption) ?_
    | with_reducible refine Frame.of_fst (by with_reducible assumption) ?_
    | with_reducible refine Frame.safe_upd b19 ?_

def execContextNoReference_mask : Nat := 0x6020000000000000800000000005000000000000000000000000000000000000000000000000022088000
theorem execContextNoReference_frame {s nx : State} {c : CtxId} (e : execContextNoReference c s = .next nx) : Frame execContextNoReference_mask s nx := by
  refine State.run_frame rfl (fun W s0 s hW h => ?_) e
  have b19 := hW.bit (n := 19) (by decide)
  have w1 := Within.trans (a := State.raise_mask) rfl hW
  repeat' first
    | intro _
    | with_reducible assumption
    | (extract_lets +onlyGivenNames x; refine Frame.cut (W := W) (s0 := s0) x ?_ ?_; unfold x; clear x; rotate_left; clear_value x; revert x; intro _ _)
    | (extract_lets +onlyGivenNames x; clear_value x; revert x; intro _)
    | with_reducible refine State.raise_frame w1 ?_
    | with_reducible refine Frame.ite ?_ ?_
    | with_reducible refine Frame.foldl ?_ _ _ ?_
    | split
    | with_reducible refine Frame.of_snd (by with_reducible assumption) ?_
    | with_reducible refine Frame.of_fst (by with_reducible assumption) ?_
    | with_reducible refine Frame.safe_upd b19 ?_

def execLockstepMismatch_mask : Nat := 0x602000000000000198000000000500100000000000000000000000000000000000000000000002208c000
theorem execLockstepMismatch_frame {s nx : State} {addr : Word} (e : execLockstepMismatch addr s = .next nx) : Frame execLockstepMismatch_mask s nx := by
  refine State.run_frame rfl (fun W s0 s hW h => ?_) e
  have w0 := Within.trans (a := State.enterSafe_mask) rfl hW
  have w1 := Within.trans (a := State.raise_mask) rfl hW
  repeat' first
    | intro _
    | with_reducible assumption
    | (extract_lets +onlyGivenNames x; refine Frame.cut (W := W) (s0 := s0) x ?_ ?_; unfold x; clear x; rotate_left; clear_value x; revert x; intro _ _)
    | (extract_lets +onlyGivenNames x; clear_value x; revert x; intro _)
    | with_reducible refine State.enterSafe_frame w0 ?_
    | with_reducible refine State.raise_frame w1 ?_
    | with_reducible refine Frame.ite ?_ ?_
    | with_reducible refine Frame.foldl ?_ _ _ ?_
    | split
    | with_reducible refine Frame.of_snd (by with_reducible assumption) ?_
    | with_reducible refine Frame.of_fst (by with_reducible assumption) ?_

def State.engineFails_mask : Nat := 0x6020000000000000000000000000000002000000000000000000000000000000000000000000022000080
theorem State.engineFails_frame {W : Nat} {s0 s : State} {unit : Nat} (hW : Within State.engineFails_mask W) (h : Frame W s0 s) :
    Frame W s0 (State.engineFails s unit) := by
  have b205 := hW.bit (n := 205) (by decide)
  have w0 := Within.trans (a := State.raise_mask) rfl hW
  have b7 := hW.bit (n := 7) (by decide)
  unfold State.engineFails
  repeat' first
    | intro _
    | with_reducible assumption
    | (extract_lets +onlyGivenNames x; refine Frame.cut (W := W) (s0 := s0) x ?_ ?_; unfold x; clear x; rotate_left; clear_value x; revert x; intro _ _)
    | (extract_lets +onlyGivenNames x; refine Frame.cutF (W := W) (s0 := s0) x ?_ ?_; unfold x; clear x; rotate_left; clear_value x; revert x; intro _ _)
    | (extract_lets +onlyGivenNames x; refine Frame.cutG (W := W) (s0 := s0) x ?_ ?_; unfold x; clear x; rotate_left; clear_value x; revert x; intro _ _)
    | (extract_lets +onlyGivenNames x; refine Frame.cutN (W := W) (s0 := s0) x ?_ ?_; unfold x; clear x; rotate_left; clear_value x; revert x; intro _ _)
    | (extract_lets +onlyGivenNames x; refine Frame.cutH (W := W) (s0 := s0) x ?_ ?_; unfold x; clear x; rotate_left; clear_value x; revert x; intro _ _)
    | (extract_lets +onlyGivenNames x; refine Frame.cutI (W := W) (s0 := s0) x ?_ ?_; unfold x; clear x; rotate_left; clear_value x; revert x; intro _ _)
    | (extract_lets +onlyGivenNames x; clear_value x; revert x; intro _)
    | with_reducible refine State.set_frame (F.KV_WALKER_failed_kind _) b205 ?_
    | with_reducible refine State.raise_frame w0 ?_
    | with_reducible refine Frame.ite ?_ ?_
    | with_reducible refine Frame.foldl ?_ _ _ ?_
    | split
    | with_reducible refine Frame.of_snd (by with_reducible assumption) ?_
    | with_reducible refine Frame.of_fst (by with_reducible assumption) ?_
    | with_reducible refine Frame.snd_mk ?_
    | with_reducible refine Frame.fst_mk ?_
    | with_reducible refine Frame.cores_upd b7 ?_
    | solve_by_elim

def State.testCause_mask : Nat := 0x80000000000000000000000000000000000000000000000000000000000000080000
theorem State.testCause_frame {W : Nat} {s0 s : State} (hW : Within State.testCause_mask W) (h : Frame W s0 s) :
    Frame W s0 (State.testCause s) := by
  have w0 := Within.trans (a := State.causeOff_mask) rfl hW
  unfold State.testCause
  repeat' first
    | intro _
    | with_reducible assumption
    | (extract_lets +onlyGivenNames x; refine Frame.cut (W := W) (s0 := s0) x ?_ ?_; unfold x; clear x; rotate_left; clear_value x; revert x; intro _ _)
    | (extract_lets +onlyGivenNames x; clear_value x; revert x; intro _)
    | with_reducible refine State.causeOff_frame w0 ?_
    | with_reducible refine Frame.ite ?_ ?_
    | with_reducible refine Frame.foldl ?_ _ _ ?_
    | split
    | with_reducible refine Frame.of_snd (by with_reducible assumption) ?_
    | with_reducible refine Frame.of_fst (by with_reducible assumption) ?_
    | with_reducible refine Frame.snd_mk ?_
    | with_reducible refine Frame.fst_mk ?_

def State.testFails_mask : Nat := 0x258000000602000000000008118000000000000100200000000000000000000000000000000000000000002248c380
theorem State.testFails_frame {W : Nat} {s0 s : State} {t : Nat} {unit : Nat} (hW : Within State.testFails_mask W) (h : Frame W s0 s) :
    Frame W s0 (State.testFails s t unit) := by
  have w0 := Within.trans (a := State.testDone_mask) rfl hW
  have w1 := Within.trans (a := State.raise_mask) rfl hW
  have w2 := Within.trans (a := State.enterSafeHeld_mask) rfl hW
  have w3 := Within.trans (a := State.failCore_mask) rfl hW
  have w4 := Within.trans (a := State.engineFails_mask) rfl hW
  unfold State.testFails
  repeat' first
    | intro _
    | with_reducible assumption
    | (extract_lets +onlyGivenNames x; refine Frame.cut (W := W) (s0 := s0) x ?_ ?_; unfold x; clear x; rotate_left; clear_value x; revert x; intro _ _)
    | (extract_lets +onlyGivenNames x; refine Frame.cutF (W := W) (s0 := s0) x ?_ ?_; unfold x; clear x; rotate_left; clear_value x; revert x; intro _ _)
    | (extract_lets +onlyGivenNames x; refine Frame.cutG (W := W) (s0 := s0) x ?_ ?_; unfold x; clear x; rotate_left; clear_value x; revert x; intro _ _)
    | (extract_lets +onlyGivenNames x; refine Frame.cutN (W := W) (s0 := s0) x ?_ ?_; unfold x; clear x; rotate_left; clear_value x; revert x; intro _ _)
    | (extract_lets +onlyGivenNames x; refine Frame.cutH (W := W) (s0 := s0) x ?_ ?_; unfold x; clear x; rotate_left; clear_value x; revert x; intro _ _)
    | (extract_lets +onlyGivenNames x; refine Frame.cutI (W := W) (s0 := s0) x ?_ ?_; unfold x; clear x; rotate_left; clear_value x; revert x; intro _ _)
    | (extract_lets +onlyGivenNames x; clear_value x; revert x; intro _)
    | with_reducible refine State.testDone_frame w0 ?_
    | with_reducible refine State.raise_frame w1 ?_
    | with_reducible refine State.enterSafeHeld_frame w2 ?_
    | with_reducible refine State.failCore_frame w3 ?_
    | with_reducible refine State.engineFails_frame w4 ?_
    | with_reducible refine State.each_frame ?_ ?_
    | with_reducible refine Frame.ite ?_ ?_
    | with_reducible refine Frame.foldl ?_ _ _ ?_
    | split
    | with_reducible refine Frame.of_snd (by with_reducible assumption) ?_
    | with_reducible refine Frame.of_fst (by with_reducible assumption) ?_
    | with_reducible refine Frame.snd_mk ?_
    | with_reducible refine Frame.fst_mk ?_
    | solve_by_elim

def execTestSlice_mask : Nat := 0x358000000602000000000008198000000000500100200000000000000000000000000000000000000000002248c380
theorem execTestSlice_frame {s nx : State} {t : Fin 9} {unit : Fin 64} {bound : BitVec 8} {left : BitVec 8} {waiting : Bool} {ends : Fin 4} (e : execTestSlice t unit bound left waiting ends s = .next nx) : Frame execTestSlice_mask s nx := by
  refine State.run_frame rfl (fun W s0 s hW h => ?_) e
  have b7 := hW.bit (n := 7) (by decide)
  have b19 := hW.bit (n := 19) (by decide)
  have b372 := hW.bit (n := 372) (by decide)
  have w3 := Within.trans (a := State.testCause_mask) rfl hW
  have w4 := Within.trans (a := State.testDone_mask) rfl hW
  have w5 := Within.trans (a := State.testFails_mask) rfl hW
  repeat' first
    | intro _
    | with_reducible assumption
    | (extract_lets +onlyGivenNames x; refine Frame.cut (W := W) (s0 := s0) x ?_ ?_; unfold x; clear x; rotate_left; clear_value x; revert x; intro _ _)
    | (extract_lets +onlyGivenNames x; clear_value x; revert x; intro _)
    | with_reducible refine State.inc_frame (F.CORE_SPARE_TEST_passed_kind _) b372 ?_
    | with_reducible refine State.testCause_frame w3 ?_
    | with_reducible refine State.testDone_frame w4 ?_
    | with_reducible refine State.testFails_frame w5 ?_
    | with_reducible refine Frame.ite ?_ ?_
    | with_reducible refine Frame.foldl ?_ _ _ ?_
    | split
    | with_reducible refine Frame.of_snd (by with_reducible assumption) ?_
    | with_reducible refine Frame.of_fst (by with_reducible assumption) ?_
    | with_reducible refine Frame.cores_upd b7 ?_
    | with_reducible refine Frame.safe_upd b19 ?_

def execSliceOverrun_mask : Nat := 0x258000000602000000000008198000000000500100200000000000000000000000000000000000000000002248c380
theorem execSliceOverrun_frame {s nx : State} (e : execSliceOverrun s = .next nx) : Frame execSliceOverrun_mask s nx := by
  refine State.run_frame rfl (fun W s0 s hW h => ?_) e
  have b19 := hW.bit (n := 19) (by decide)
  have w1 := Within.trans (a := State.testFails_mask) rfl hW
  have w2 := Within.trans (a := State.raise_mask) rfl hW
  repeat' first
    | intro _
    | with_reducible assumption
    | (extract_lets +onlyGivenNames x; refine Frame.cut (W := W) (s0 := s0) x ?_ ?_; unfold x; clear x; rotate_left; clear_value x; revert x; intro _ _)
    | (extract_lets +onlyGivenNames x; clear_value x; revert x; intro _)
    | with_reducible refine State.testFails_frame w1 ?_
    | with_reducible refine State.raise_frame w2 ?_
    | with_reducible refine Frame.ite ?_ ?_
    | with_reducible refine Frame.foldl ?_ _ _ ?_
    | split
    | with_reducible refine Frame.of_snd (by with_reducible assumption) ?_
    | with_reducible refine Frame.of_fst (by with_reducible assumption) ?_
    | with_reducible refine Frame.safe_upd b19 ?_

def execTestOverdue_mask : Nat := 0x602000000000008198000000000500100000000000000000000000000000000000000000000002208c000
theorem execTestOverdue_frame {s nx : State} {t : Fin 9} (e : execTestOverdue t s = .next nx) : Frame execTestOverdue_mask s nx := by
  refine State.run_frame rfl (fun W s0 s hW h => ?_) e
  have b271 := hW.bit (n := 271) (by decide)
  have b283 := hW.bit (n := 283) (by decide)
  have w2 := Within.trans (a := State.raise_mask) rfl hW
  have w3 := Within.trans (a := State.enterSafeHeld_mask) rfl hW
  repeat' first
    | intro _
    | with_reducible assumption
    | (extract_lets +onlyGivenNames x; refine Frame.cut (W := W) (s0 := s0) x ?_ ?_; unfold x; clear x; rotate_left; clear_value x; revert x; intro _ _)
    | (extract_lets +onlyGivenNames x; clear_value x; revert x; intro _)
    | with_reducible refine State.set_frame (F.SAFE_STATUS_overdue_kind) b271 ?_
    | with_reducible refine State.set_frame (F.SAFE_TEST_overdue_kind _) b283 ?_
    | with_reducible refine State.raise_frame w2 ?_
    | with_reducible refine State.enterSafeHeld_frame w3 ?_
    | with_reducible refine Frame.ite ?_ ?_
    | with_reducible refine Frame.foldl ?_ _ _ ?_
    | split
    | with_reducible refine Frame.of_snd (by with_reducible assumption) ?_
    | with_reducible refine Frame.of_fst (by with_reducible assumption) ?_

def execCheckerStartDone_mask : Nat := 0x6020000000000001880000000005000000000000000000000000000000000000000000000000022088000
theorem execCheckerStartDone_frame {s nx : State} (e : execCheckerStartDone s = .next nx) : Frame execCheckerStartDone_mask s nx := by
  refine State.run_frame rfl (fun W s0 s hW h => ?_) e
  have b271 := hW.bit (n := 271) (by decide)
  have w1 := Within.trans (a := State.recoveryCheck_mask) rfl hW
  have w2 := Within.trans (a := State.safeChange_mask) rfl hW
  repeat' first
    | intro _
    | with_reducible assumption
    | (extract_lets +onlyGivenNames x; refine Frame.cut (W := W) (s0 := s0) x ?_ ?_; unfold x; clear x; rotate_left; clear_value x; revert x; intro _ _)
    | (extract_lets +onlyGivenNames x; clear_value x; revert x; intro _)
    | with_reducible refine State.set_frame (F.SAFE_STATUS_state_kind) b271 ?_
    | with_reducible refine State.recoveryCheck_frame w1 ?_
    | with_reducible refine State.safeChange_frame w2 ?_ ?_
    | with_reducible refine Frame.ite ?_ ?_
    | with_reducible refine Frame.foldl ?_ _ _ ?_
    | split
    | with_reducible refine Frame.of_snd (by with_reducible assumption) ?_
    | with_reducible refine Frame.of_fst (by with_reducible assumption) ?_

def State.endInputFault_mask : Nat := 0x800000000000000000000000000000000000000000000000000000000000000080000
theorem State.endInputFault_frame {W : Nat} {s0 s : State} {i : Nat} (hW : Within State.endInputFault_mask W) (h : Frame W s0 s) :
    Frame W s0 (State.endInputFault s i) := by
  have b19 := hW.bit (n := 19) (by decide)
  have b275 := hW.bit (n := 275) (by decide)
  unfold State.endInputFault
  repeat' first
    | intro _
    | with_reducible assumption
    | (extract_lets +onlyGivenNames x; refine Frame.cut (W := W) (s0 := s0) x ?_ ?_; unfold x; clear x; rotate_left; clear_value x; revert x; intro _ _)
    | (extract_lets +onlyGivenNames x; clear_value x; revert x; intro _)
    | with_reducible refine State.setBit_frame (F.SAFE_IO_input_fault_kind) b275 ?_
    | with_reducible refine Frame.ite ?_ ?_
    | with_reducible refine Frame.foldl ?_ _ _ ?_
    | split
    | with_reducible refine Frame.of_snd (by with_reducible assumption) ?_
    | with_reducible refine Frame.of_fst (by with_reducible assumption) ?_
    | with_reducible refine Frame.snd_mk ?_
    | with_reducible refine Frame.fst_mk ?_
    | with_reducible refine Frame.safe_upd b19 ?_

def State.settleInputs_mask : Nat := 0x880000000000000000000000000000000000000000000000000000000000000080000
theorem State.settleInputs_frame {W : Nat} {s0 s : State} (hW : Within State.settleInputs_mask W) (h : Frame W s0 s) :
    Frame W s0 (State.settleInputs s) := by
  have b275 := hW.bit (n := 275) (by decide)
  have w1 := Within.trans (a := State.endInputFault_mask) rfl hW
  have w2 := Within.trans (a := State.causeOff_mask) rfl hW
  unfold State.settleInputs
  repeat' first
    | intro _
    | with_reducible assumption
    | (extract_lets +onlyGivenNames x; refine Frame.cut (W := W) (s0 := s0) x ?_ ?_; unfold x; clear x; rotate_left; clear_value x; revert x; intro _ _)
    | (extract_lets +onlyGivenNames x; clear_value x; revert x; intro _)
    | with_reducible refine State.setBit_frame (F.SAFE_IO_held_kind) b275 ?_
    | with_reducible refine State.each_frame ?_ ?_
    | with_reducible refine State.endInputFault_frame w1 ?_
    | with_reducible refine State.causeOff_frame w2 ?_
    | with_reducible refine Frame.ite ?_ ?_
    | with_reducible refine Frame.foldl ?_ _ _ ?_
    | split
    | with_reducible refine Frame.of_snd (by with_reducible assumption) ?_
    | with_reducible refine Frame.of_fst (by with_reducible assumption) ?_
    | with_reducible refine Frame.snd_mk ?_
    | with_reducible refine Frame.fst_mk ?_

def State.demand_mask : Nat := 0x602000000000000198000000000000100000000000000000000000000000000000000000000002208c000
theorem State.demand_frame {W : Nat} {s0 s : State} {i : Nat} (hW : Within State.demand_mask W) (h : Frame W s0 s) :
    Frame W s0 (State.demand s i) := by
  have b275 := hW.bit (n := 275) (by decide)
  have w1 := Within.trans (a := State.enterSafeHeld_mask) rfl hW
  unfold State.demand
  repeat' first
    | intro _
    | with_reducible assumption
    | (extract_lets +onlyGivenNames x; refine Frame.cut (W := W) (s0 := s0) x ?_ ?_; unfold x; clear x; rotate_left; clear_value x; revert x; intro _ _)
    | (extract_lets +onlyGivenNames x; clear_value x; revert x; intro _)
    | with_reducible refine State.setBit_frame (F.SAFE_IO_held_kind) b275 ?_
    | with_reducible refine State.each_frame ?_ ?_
    | with_reducible refine State.enterSafeHeld_frame w1 ?_
    | with_reducible refine Frame.ite ?_ ?_
    | with_reducible refine Frame.foldl ?_ _ _ ?_
    | split
    | with_reducible refine Frame.of_snd (by with_reducible assumption) ?_
    | with_reducible refine Frame.of_fst (by with_reducible assumption) ?_
    | with_reducible refine Frame.snd_mk ?_
    | with_reducible refine Frame.fst_mk ?_

def State.safeIo_mask : Nat := 0x6020000000000001000000000000000000000000000000000000000000000000000000000000022080000
theorem State.safeIo_frame {W : Nat} {s0 s : State} {f : State → State} (hW : Within State.safeIo_mask W) (hf_f : ∀ s, Frame W s0 s → Frame W s0 (f s)) (h : Frame W s0 s) :
    Frame W s0 (State.safeIo s f) := by
  have w0 := Within.trans (a := State.safeChange_mask) rfl hW
  unfold State.safeIo
  repeat' first
    | intro _
    | with_reducible assumption
    | (extract_lets +onlyGivenNames x; refine Frame.cut (W := W) (s0 := s0) x ?_ ?_; unfold x; clear x; rotate_left; clear_value x; revert x; intro _ _)
    | (extract_lets +onlyGivenNames x; clear_value x; revert x; intro _)
    | with_reducible refine State.safeChange_frame w0 ?_ ?_
    | with_reducible refine Frame.ite ?_ ?_
    | with_reducible apply hf_f
    | with_reducible refine Frame.foldl ?_ _ _ ?_
    | split
    | with_reducible refine Frame.of_snd (by with_reducible assumption) ?_
    | with_reducible refine Frame.of_fst (by with_reducible assumption) ?_
    | with_reducible refine Frame.snd_mk ?_
    | with_reducible refine Frame.fst_mk ?_

def execSafeInputChange_mask : Nat := 0x6020000000000001800000000005000000000000000000000000000000000000000000000000022088000
theorem execSafeInputChange_frame {s nx : State} {i : Fin 2} {ch : Fin 2} {level : Bool} (e : execSafeInputChange i ch level s = .next nx) : Frame execSafeInputChange_mask s nx := by
  refine State.run_frame rfl (fun W s0 s hW h => ?_) e
  have b19 := hW.bit (n := 19) (by decide)
  have b275 := hW.bit (n := 275) (by decide)
  have w2 := Within.trans (a := State.safeIo_mask) rfl hW
  repeat' first
    | intro _
    | with_reducible assumption
    | (extract_lets +onlyGivenNames x; refine Frame.cut (W := W) (s0 := s0) x ?_ ?_; unfold x; clear x; rotate_left; clear_value x; revert x; intro _ _)
    | (extract_lets +onlyGivenNames x; clear_value x; revert x; intro _)
    | with_reducible refine State.setBit_frame (F.SAFE_IO_inputs_kind) b275 ?_
    | with_reducible refine State.safeIo_frame w2 ?_ ?_
    | with_reducible refine Frame.ite ?_ ?_
    | with_reducible refine Frame.foldl ?_ _ _ ?_
    | split
    | with_reducible refine Frame.of_snd (by with_reducible assumption) ?_
    | with_reducible refine Frame.of_fst (by with_reducible assumption) ?_
    | with_reducible refine Frame.safe_upd b19 ?_

def execSafeInputDemand_mask : Nat := 0x602000000000000198000000000500100000000000000000000000000000000000000000000002208c000
theorem execSafeInputDemand_frame {s nx : State} {i : Fin 2} (e : execSafeInputDemand i s = .next nx) : Frame execSafeInputDemand_mask s nx := by
  refine State.run_frame rfl (fun W s0 s hW h => ?_) e
  have b275 := hW.bit (n := 275) (by decide)
  have w1 := Within.trans (a := State.safeIo_mask) rfl hW
  have w2 := Within.trans (a := State.demand_mask) rfl hW
  have w3 := Within.trans (a := State.raise_mask) rfl hW
  repeat' first
    | intro _
    | with_reducible assumption
    | (extract_lets +onlyGivenNames x; refine Frame.cut (W := W) (s0 := s0) x ?_ ?_; unfold x; clear x; rotate_left; clear_value x; revert x; intro _ _)
    | (extract_lets +onlyGivenNames x; clear_value x; revert x; intro _)
    | with_reducible refine State.setBit_frame (F.SAFE_IO_demand_kind) b275 ?_
    | with_reducible refine State.safeIo_frame w1 ?_ ?_
    | with_reducible refine State.demand_frame w2 ?_
    | with_reducible refine State.raise_frame w3 ?_
    | with_reducible refine Frame.ite ?_ ?_
    | with_reducible refine Frame.foldl ?_ _ _ ?_
    | split
    | with_reducible refine Frame.of_snd (by with_reducible assumption) ?_
    | with_reducible refine Frame.of_fst (by with_reducible assumption) ?_

def execSafeInputDemandCleared_mask : Nat := 0x6020000000000001880000000005000000000000000000000000000000000000000000000000022088000
theorem execSafeInputDemandCleared_frame {s nx : State} {i : Fin 2} (e : execSafeInputDemandCleared i s = .next nx) : Frame execSafeInputDemandCleared_mask s nx := by
  refine State.run_frame rfl (fun W s0 s hW h => ?_) e
  have b275 := hW.bit (n := 275) (by decide)
  have w1 := Within.trans (a := State.safeIo_mask) rfl hW
  have w2 := Within.trans (a := State.settleInputs_mask) rfl hW
  have w3 := Within.trans (a := State.raise_mask) rfl hW
  repeat' first
    | intro _
    | with_reducible assumption
    | (extract_lets +onlyGivenNames x; refine Frame.cut (W := W) (s0 := s0) x ?_ ?_; unfold x; clear x; rotate_left; clear_value x; revert x; intro _ _)
    | (extract_lets +onlyGivenNames x; clear_value x; revert x; intro _)
    | with_reducible refine State.setBit_frame (F.SAFE_IO_demand_kind) b275 ?_
    | with_reducible refine State.safeIo_frame w1 ?_ ?_
    | with_reducible refine State.settleInputs_frame w2 ?_
    | with_reducible refine State.raise_frame w3 ?_
    | with_reducible refine Frame.ite ?_ ?_
    | with_reducible refine Frame.foldl ?_ _ _ ?_
    | split
    | with_reducible refine Frame.of_snd (by with_reducible assumption) ?_
    | with_reducible refine Frame.of_fst (by with_reducible assumption) ?_

def State.inputFault_mask : Nat := 0x602000000000000198000000000000100000000000000000000000000000000000000000000002208c000
theorem State.inputFault_frame {W : Nat} {s0 s : State} {i : Nat} {ch : Nat} {kind : Nat} (hW : Within State.inputFault_mask W) (h : Frame W s0 s) :
    Frame W s0 (State.inputFault s i ch kind) := by
  have b19 := hW.bit (n := 19) (by decide)
  have b275 := hW.bit (n := 275) (by decide)
  have w2 := Within.trans (a := State.raise_mask) rfl hW
  have w3 := Within.trans (a := State.demand_mask) rfl hW
  unfold State.inputFault
  repeat' first
    | intro _
    | with_reducible assumption
    | (extract_lets +onlyGivenNames x; refine Frame.cut (W := W) (s0 := s0) x ?_ ?_; unfold x; clear x; rotate_left; clear_value x; revert x; intro _ _)
    | (extract_lets +onlyGivenNames x; clear_value x; revert x; intro _)
    | with_reducible refine State.setBit_frame (F.SAFE_IO_input_fault_kind) b275 ?_
    | with_reducible refine State.raise_frame w2 ?_
    | with_reducible refine State.demand_frame w3 ?_
    | with_reducible refine Frame.ite ?_ ?_
    | with_reducible refine Frame.foldl ?_ _ _ ?_
    | split
    | with_reducible refine Frame.of_snd (by with_reducible assumption) ?_
    | with_reducible refine Frame.of_fst (by with_reducible assumption) ?_
    | with_reducible refine Frame.snd_mk ?_
    | with_reducible refine Frame.fst_mk ?_
    | with_reducible refine Frame.safe_upd b19 ?_

def execSafeInputFault_mask : Nat := 0x602000000000000198000000000500100000000000000000000000000000000000000000000002208c000
theorem execSafeInputFault_frame {s nx : State} {i : Fin 2} {ch : Fin 2} {test : Bool} (e : execSafeInputFault i ch test s = .next nx) : Frame execSafeInputFault_mask s nx := by
  refine State.run_frame rfl (fun W s0 s hW h => ?_) e
  have w0 := Within.trans (a := State.safeIo_mask) rfl hW
  have w1 := Within.trans (a := State.inputFault_mask) rfl hW
  repeat' first
    | intro _
    | with_reducible assumption
    | (extract_lets +onlyGivenNames x; refine Frame.cut (W := W) (s0 := s0) x ?_ ?_; unfold x; clear x; rotate_left; clear_value x; revert x; intro _ _)
    | (extract_lets +onlyGivenNames x; clear_value x; revert x; intro _)
    | with_reducible refine State.safeIo_frame w0 ?_ ?_
    | with_reducible refine State.inputFault_frame w1 ?_
    | with_reducible refine Frame.ite ?_ ?_
    | with_reducible refine Frame.foldl ?_ _ _ ?_
    | split
    | with_reducible refine Frame.of_snd (by with_reducible assumption) ?_
    | with_reducible refine Frame.of_fst (by with_reducible assumption) ?_

def execTestPulse_mask : Nat := 0x602000000000008198000000000500100000000000000000000000000000000000000000000002208c000
theorem execTestPulse_frame {s nx : State} {src : Fin 2} {follow : BitVec 4} {returned : BitVec 4} (e : execTestPulse src follow returned s = .next nx) : Frame execTestPulse_mask s nx := by
  refine State.run_frame rfl (fun W s0 s hW h => ?_) e
  have w0 := Within.trans (a := State.safeIo_mask) rfl hW
  have w1 := Within.trans (a := State.testDone_mask) rfl hW
  have w2 := Within.trans (a := State.inputFault_mask) rfl hW
  repeat' first
    | intro _
    | with_reducible assumption
    | (extract_lets +onlyGivenNames x; refine Frame.cut (W := W) (s0 := s0) x ?_ ?_; unfold x; clear x; rotate_left; clear_value x; revert x; intro _ _)
    | (extract_lets +onlyGivenNames x; clear_value x; revert x; intro _)
    | with_reducible refine State.safeIo_frame w0 ?_ ?_
    | with_reducible refine State.testDone_frame w1 ?_
    | with_reducible refine State.each_frame ?_ ?_
    | with_reducible refine State.inputFault_frame w2 ?_
    | with_reducible refine Frame.ite ?_ ?_
    | with_reducible refine Frame.foldl ?_ _ _ ?_
    | split
    | with_reducible refine Frame.of_snd (by with_reducible assumption) ?_
    | with_reducible refine Frame.of_fst (by with_reducible assumption) ?_

def execInputFaultRecovered_mask : Nat := 0x6020000000000001880000000005000000000000000000000000000000000000000000000000022088000
theorem execInputFaultRecovered_frame {s nx : State} {i : Fin 2} (e : execInputFaultRecovered i s = .next nx) : Frame execInputFaultRecovered_mask s nx := by
  refine State.run_frame rfl (fun W s0 s hW h => ?_) e
  have b19 := hW.bit (n := 19) (by decide)
  have w1 := Within.trans (a := State.safeIo_mask) rfl hW
  have w2 := Within.trans (a := State.settleInputs_mask) rfl hW
  repeat' first
    | intro _
    | with_reducible assumption
    | (extract_lets +onlyGivenNames x; refine Frame.cut (W := W) (s0 := s0) x ?_ ?_; unfold x; clear x; rotate_left; clear_value x; revert x; intro _ _)
    | (extract_lets +onlyGivenNames x; clear_value x; revert x; intro _)
    | with_reducible refine State.safeIo_frame w1 ?_ ?_
    | with_reducible refine State.settleInputs_frame w2 ?_
    | with_reducible refine Frame.ite ?_ ?_
    | with_reducible refine Frame.foldl ?_ _ _ ?_
    | split
    | with_reducible refine Frame.of_snd (by with_reducible assumption) ?_
    | with_reducible refine Frame.of_fst (by with_reducible assumption) ?_
    | with_reducible refine Frame.safe_upd b19 ?_

def execOutputTest_mask : Nat := 0x602000000000008198000000000500100000000000000000000000000000000000000000000002208c000
theorem execOutputTest_frame {s nx : State} {o : Fin 2} {ch : Fin 2} {start : Bool} {readback : Bool} (e : execOutputTest o ch start readback s = .next nx) : Frame execOutputTest_mask s nx := by
  refine State.run_frame rfl (fun W s0 s hW h => ?_) e
  have b19 := hW.bit (n := 19) (by decide)
  have w1 := Within.trans (a := State.enterSafeHeld_mask) rfl hW
  have w2 := Within.trans (a := State.raise_mask) rfl hW
  have w3 := Within.trans (a := State.testDone_mask) rfl hW
  have w4 := Within.trans (a := State.testCause_mask) rfl hW
  have w5 := Within.trans (a := State.causeOff_mask) rfl hW
  repeat' first
    | intro _
    | with_reducible assumption
    | (extract_lets +onlyGivenNames x; refine Frame.cut (W := W) (s0 := s0) x ?_ ?_; unfold x; clear x; rotate_left; clear_value x; revert x; intro _ _)
    | (extract_lets +onlyGivenNames x; clear_value x; revert x; intro _)
    | with_reducible refine State.enterSafeHeld_frame w1 ?_
    | with_reducible refine State.raise_frame w2 ?_
    | with_reducible refine State.testDone_frame w3 ?_
    | with_reducible refine State.testCause_frame w4 ?_
    | with_reducible refine State.causeOff_frame w5 ?_
    | with_reducible refine Frame.ite ?_ ?_
    | with_reducible refine Frame.foldl ?_ _ _ ?_
    | split
    | with_reducible refine Frame.of_snd (by with_reducible assumption) ?_
    | with_reducible refine Frame.of_fst (by with_reducible assumption) ?_
    | with_reducible refine Frame.safe_upd b19 ?_

def State.safeStatus_mask : Nat := 0x400000000000000000000000000000000000000000000000000000000000000000000
theorem State.safeStatus_frame {W : Nat} {s0 s : State} {i : Port} {code : Nat} {reason : Nat} (hW : Within State.safeStatus_mask W) (h : Frame W s0 s) :
    Frame W s0 (State.safeStatus s i code reason) := by
  have b274 := hW.bit (n := 274) (by decide)
  unfold State.safeStatus
  repeat' first
    | intro _
    | with_reducible assumption
    | (extract_lets +onlyGivenNames x; refine Frame.cut (W := W) (s0 := s0) x ?_ ?_; unfold x; clear x; rotate_left; clear_value x; revert x; intro _ _)
    | (extract_lets +onlyGivenNames x; clear_value x; revert x; intro _)
    | with_reducible refine State.set_frame (F.SAFE_CMD_STATUS_reason_kind _) b274 ?_
    | with_reducible refine State.set_frame (F.SAFE_CMD_STATUS_code_kind _) b274 ?_
    | with_reducible refine Frame.ite ?_ ?_
    | with_reducible refine Frame.foldl ?_ _ _ ?_
    | split
    | with_reducible refine Frame.of_snd (by with_reducible assumption) ?_
    | with_reducible refine Frame.of_fst (by with_reducible assumption) ?_
    | with_reducible refine Frame.snd_mk ?_
    | with_reducible refine Frame.fst_mk ?_

def State.safeRefuse_mask : Nat := 0x6020000000000000400000000000000000000000000000000000000000000000000000000000022000000
theorem State.safeRefuse_frame {W : Nat} {s0 s : State} {i : Port} {cmd : Nat} {reason : Nat} (hW : Within State.safeRefuse_mask W) (h : Frame W s0 s) :
    Frame W s0 (State.safeRefuse s i cmd reason) := by
  have w0 := Within.trans (a := State.safeStatus_mask) rfl hW
  have w1 := Within.trans (a := State.raise_mask) rfl hW
  unfold State.safeRefuse
  repeat' first
    | intro _
    | with_reducible assumption
    | (extract_lets +onlyGivenNames x; refine Frame.cut (W := W) (s0 := s0) x ?_ ?_; unfold x; clear x; rotate_left; clear_value x; revert x; intro _ _)
    | (extract_lets +onlyGivenNames x; clear_value x; revert x; intro _)
    | with_reducible refine State.safeStatus_frame w0 ?_
    | with_reducible refine State.raise_frame w1 ?_
    | with_reducible refine Frame.ite ?_ ?_
    | with_reducible refine Frame.foldl ?_ _ _ ?_
    | split
    | with_reducible refine Frame.of_snd (by with_reducible assumption) ?_
    | with_reducible refine Frame.of_fst (by with_reducible assumption) ?_
    | with_reducible refine Frame.snd_mk ?_
    | with_reducible refine Frame.fst_mk ?_

def State.resetOutput_mask : Nat := 0x800000000000000000000000000000000000000000000000000000000000000000000
theorem State.resetOutput_frame {W : Nat} {s0 s : State} {o : Nat} (hW : Within State.resetOutput_mask W) (h : Frame W s0 s) :
    Frame W s0 (State.resetOutput s o) := by
  have b275 := hW.bit (n := 275) (by decide)
  unfold State.resetOutput
  repeat' first
    | intro _
    | with_reducible assumption
    | (extract_lets +onlyGivenNames x; refine Frame.cut (W := W) (s0 := s0) x ?_ ?_; unfold x; clear x; rotate_left; clear_value x; revert x; intro _ _)
    | (extract_lets +onlyGivenNames x; clear_value x; revert x; intro _)
    | with_reducible refine State.setBit_frame (F.SAFE_IO_held_kind) b275 ?_
    | with_reducible refine Frame.ite ?_ ?_
    | with_reducible refine Frame.foldl ?_ _ _ ?_
    | split
    | with_reducible refine Frame.of_snd (by with_reducible assumption) ?_
    | with_reducible refine Frame.of_fst (by with_reducible assumption) ?_
    | with_reducible refine Frame.snd_mk ?_
    | with_reducible refine Frame.fst_mk ?_

def State.leaveSafe_mask : Nat := 0x6020000000000040880000000000000000000000000000000000000000000000000000000000022080000
theorem State.leaveSafe_frame {W : Nat} {s0 s : State} {origin : Nat} (hW : Within State.leaveSafe_mask W) (h : Frame W s0 s) :
    Frame W s0 (State.leaveSafe s origin) := by
  have b19 := hW.bit (n := 19) (by decide)
  have b271 := hW.bit (n := 271) (by decide)
  have w2 := Within.trans (a := State.raise_mask) rfl hW
  have w3 := Within.trans (a := State.noReference_mask) rfl hW
  have w4 := Within.trans (a := State.settleInputs_mask) rfl hW
  have w5 := Within.trans (a := State.resetOutput_mask) rfl hW
  unfold State.leaveSafe
  repeat' first
    | intro _
    | with_reducible assumption
    | (extract_lets +onlyGivenNames x; refine Frame.cut (W := W) (s0 := s0) x ?_ ?_; unfold x; clear x; rotate_left; clear_value x; revert x; intro _ _)
    | (extract_lets +onlyGivenNames x; clear_value x; revert x; intro _)
    | with_reducible refine State.set_frame (F.SAFE_STATUS_state_kind) b271 ?_
    | with_reducible refine State.raise_frame w2 ?_
    | with_reducible refine State.each_frame ?_ ?_
    | with_reducible refine State.noReference_frame w3 ?_
    | with_reducible refine State.settleInputs_frame w4 ?_
    | with_reducible refine State.resetOutput_frame w5 ?_
    | with_reducible refine Frame.ite ?_ ?_
    | with_reducible refine Frame.foldl ?_ _ _ ?_
    | split
    | with_reducible refine Frame.of_snd (by with_reducible assumption) ?_
    | with_reducible refine Frame.of_fst (by with_reducible assumption) ?_
    | with_reducible refine Frame.snd_mk ?_
    | with_reducible refine Frame.fst_mk ?_
    | with_reducible refine Frame.safe_upd b19 ?_

def execSafeReset_mask : Nat := 0x6020000000000041c80000000005000000000000000000000000000000000000000000000000022088000
theorem execSafeReset_frame {s nx : State} {by_ : ResetBy} (e : execSafeReset by_ s = .next nx) : Frame execSafeReset_mask s nx := by
  refine State.run_frame rfl (fun W s0 s hW h => ?_) e
  have w0 := Within.trans (a := State.safeRefuse_mask) rfl hW
  have w1 := Within.trans (a := State.safeStatus_mask) rfl hW
  have w2 := Within.trans (a := State.safeChange_mask) rfl hW
  have w3 := Within.trans (a := State.leaveSafe_mask) rfl hW
  have w4 := Within.trans (a := State.settleInputs_mask) rfl hW
  have w5 := Within.trans (a := State.resetOutput_mask) rfl hW
  repeat' first
    | intro _
    | with_reducible assumption
    | (extract_lets +onlyGivenNames x; refine Frame.cut (W := W) (s0 := s0) x ?_ ?_; unfold x; clear x; rotate_left; clear_value x; revert x; intro _ _)
    | (extract_lets +onlyGivenNames x; clear_value x; revert x; intro _)
    | with_reducible refine State.safeRefuse_frame w0 ?_
    | with_reducible refine State.safeStatus_frame w1 ?_
    | with_reducible refine State.safeChange_frame w2 ?_ ?_
    | with_reducible refine State.leaveSafe_frame w3 ?_
    | with_reducible refine State.settleInputs_frame w4 ?_
    | with_reducible refine State.each_frame ?_ ?_
    | with_reducible refine State.resetOutput_frame w5 ?_
    | with_reducible refine Frame.ite ?_ ?_
    | with_reducible refine Frame.foldl ?_ _ _ ?_
    | split
    | with_reducible refine Frame.of_snd (by with_reducible assumption) ?_
    | with_reducible refine Frame.of_fst (by with_reducible assumption) ?_

def execForceSafe_mask : Nat := 0x6020000000000001d8000000000500100000000000000000000000000000000000000000000002208c000
theorem execForceSafe_frame {s nx : State} {i : Port} (e : execForceSafe i s = .next nx) : Frame execForceSafe_mask s nx := by
  refine State.run_frame rfl (fun W s0 s hW h => ?_) e
  have w0 := Within.trans (a := State.safeRefuse_mask) rfl hW
  have w1 := Within.trans (a := State.safeStatus_mask) rfl hW
  have w2 := Within.trans (a := State.enterSafe_mask) rfl hW
  have w3 := Within.trans (a := State.raise_mask) rfl hW
  repeat' first
    | intro _
    | with_reducible assumption
    | (extract_lets +onlyGivenNames x; refine Frame.cut (W := W) (s0 := s0) x ?_ ?_; unfold x; clear x; rotate_left; clear_value x; revert x; intro _ _)
    | (extract_lets +onlyGivenNames x; clear_value x; revert x; intro _)
    | with_reducible refine State.safeRefuse_frame w0 ?_
    | with_reducible refine State.safeStatus_frame w1 ?_
    | with_reducible refine State.enterSafe_frame w2 ?_
    | with_reducible refine State.raise_frame w3 ?_
    | with_reducible refine Frame.ite ?_ ?_
    | with_reducible refine Frame.foldl ?_ _ _ ?_
    | split
    | with_reducible refine Frame.of_snd (by with_reducible assumption) ?_
    | with_reducible refine Frame.of_fst (by with_reducible assumption) ?_

def State.setLock_mask : Nat := 0x6020000000000000480000000000000000000000000000000000000000000000001a21000000022000028
theorem State.setLock_frame {W : Nat} {s0 s : State} {i : Port} {cmd : Nat} {lock : Bool} (hW : Within State.setLock_mask W) (h : Frame W s0 s) :
    Frame W s0 (State.setLock s i cmd lock) := by
  have w0 := Within.trans (a := State.safeRefuse_mask) rfl hW
  have w1 := Within.trans (a := State.raise_mask) rfl hW
  have w2 := Within.trans (a := State.spend_mask) rfl hW
  have w3 := Within.trans (a := State.showKeep_mask) rfl hW
  have w4 := Within.trans (a := State.keepWrite_mask) rfl hW
  have w5 := Within.trans (a := State.safeStatus_mask) rfl hW
  unfold State.setLock
  repeat' first
    | intro _
    | with_reducible assumption
    | (extract_lets +onlyGivenNames x; refine Frame.cut (W := W) (s0 := s0) x ?_ ?_; unfold x; clear x; rotate_left; clear_value x; revert x; intro _ _)
    | (extract_lets +onlyGivenNames x; clear_value x; revert x; intro _)
    | with_reducible refine State.safeRefuse_frame w0 ?_
    | with_reducible refine State.raise_frame w1 ?_
    | with_reducible refine State.spend_frame w2 ?_ ?_
    | exact ⟨Nat.le_refl _, Nat.le_refl _, Nat.le_refl _, Nat.le_refl _⟩
    | exact ⟨Nat.sub_le _ _, Nat.le_refl _, Nat.le_refl _, Nat.le_refl _⟩
    | exact ⟨Nat.le_refl _, Nat.le_refl _, Nat.le_refl _, Nat.sub_le _ _⟩
    | exact ⟨Nat.le_refl _, Nat.le_refl _, Nat.sub_le _ _, Nat.le_refl _⟩
    | with_reducible refine State.showKeep_frame w3 ?_
    | with_reducible refine State.keepWrite_frame w4 ?_ ?_
    | with_reducible refine State.safeStatus_frame w5 ?_
    | with_reducible refine Frame.ite ?_ ?_
    | with_reducible refine Frame.foldl ?_ _ _ ?_
    | split
    | with_reducible refine Frame.of_snd (by with_reducible assumption) ?_
    | with_reducible refine Frame.of_fst (by with_reducible assumption) ?_
    | with_reducible refine Frame.snd_mk ?_
    | with_reducible refine Frame.fst_mk ?_

def execLock_mask : Nat := 0x6020000000000000c80000000005000000000000000000000000000000000000001a21000000022008028
theorem execLock_frame {s nx : State} {i : Port} (e : execLock i s = .next nx) : Frame execLock_mask s nx := by
  refine State.run_frame rfl (fun W s0 s hW h => ?_) e
  have w0 := Within.trans (a := State.setLock_mask) rfl hW
  repeat' first
    | intro _
    | with_reducible assumption
    | (extract_lets +onlyGivenNames x; refine Frame.cut (W := W) (s0 := s0) x ?_ ?_; unfold x; clear x; rotate_left; clear_value x; revert x; intro _ _)
    | (extract_lets +onlyGivenNames x; clear_value x; revert x; intro _)
    | with_reducible refine State.setLock_frame w0 ?_
    | with_reducible refine Frame.ite ?_ ?_
    | with_reducible refine Frame.foldl ?_ _ _ ?_
    | split
    | with_reducible refine Frame.of_snd (by with_reducible assumption) ?_
    | with_reducible refine Frame.of_fst (by with_reducible assumption) ?_

def execUnlock_mask : Nat := 0x6020000000000000c80000000005000000000000000000000000000000000000001a21000000022008028
theorem execUnlock_frame {s nx : State} {i : Port} (e : execUnlock i s = .next nx) : Frame execUnlock_mask s nx := by
  refine State.run_frame rfl (fun W s0 s hW h => ?_) e
  have w0 := Within.trans (a := State.setLock_mask) rfl hW
  repeat' first
    | intro _
    | with_reducible assumption
    | (extract_lets +onlyGivenNames x; refine Frame.cut (W := W) (s0 := s0) x ?_ ?_; unfold x; clear x; rotate_left; clear_value x; revert x; intro _ _)
    | (extract_lets +onlyGivenNames x; clear_value x; revert x; intro _)
    | with_reducible refine State.setLock_frame w0 ?_
    | with_reducible refine Frame.ite ?_ ?_
    | with_reducible refine Frame.foldl ?_ _ _ ?_
    | split
    | with_reducible refine Frame.of_snd (by with_reducible assumption) ?_
    | with_reducible refine Frame.of_fst (by with_reducible assumption) ?_

def execSafetyMessage_mask : Nat := 0x6020000000000001800000000005000000000000000000000000000000000000000000000000022088000
theorem execSafetyMessage_frame {s nx : State} (e : execSafetyMessage s = .next nx) : Frame execSafetyMessage_mask s nx := by
  refine State.run_frame rfl (fun W s0 s hW h => ?_) e
  have w0 := Within.trans (a := State.sendSafety_mask) rfl hW
  repeat' first
    | intro _
    | with_reducible assumption
    | (extract_lets +onlyGivenNames x; refine Frame.cut (W := W) (s0 := s0) x ?_ ?_; unfold x; clear x; rotate_left; clear_value x; revert x; intro _ _)
    | (extract_lets +onlyGivenNames x; clear_value x; revert x; intro _)
    | with_reducible refine State.sendSafety_frame w0 ?_
    | with_reducible refine Frame.ite ?_ ?_
    | with_reducible refine Frame.foldl ?_ _ _ ?_
    | split
    | with_reducible refine Frame.of_snd (by with_reducible assumption) ?_
    | with_reducible refine Frame.of_fst (by with_reducible assumption) ?_

def State.showMsgLink_mask : Nat := 0x80000000000000000000000000000000000000000000000000000000000000000000
theorem State.showMsgLink_frame {W : Nat} {s0 s : State} (hW : Within State.showMsgLink_mask W) (h : Frame W s0 s) :
    Frame W s0 (State.showMsgLink s) := by
  have b271 := hW.bit (n := 271) (by decide)
  unfold State.showMsgLink
  repeat' first
    | intro _
    | with_reducible assumption
    | (extract_lets +onlyGivenNames x; refine Frame.cut (W := W) (s0 := s0) x ?_ ?_; unfold x; clear x; rotate_left; clear_value x; revert x; intro _ _)
    | (extract_lets +onlyGivenNames x; clear_value x; revert x; intro _)
    | with_reducible refine State.setB_frame (F.SAFE_STATUS_msg_link_kind) b271 ?_
    | with_reducible refine Frame.ite ?_ ?_
    | with_reducible refine Frame.foldl ?_ _ _ ?_
    | split
    | with_reducible refine Frame.of_snd (by with_reducible assumption) ?_
    | with_reducible refine Frame.of_fst (by with_reducible assumption) ?_
    | with_reducible refine Frame.snd_mk ?_
    | with_reducible refine Frame.fst_mk ?_

def execSafeMsgLink_mask : Nat := 0x6020000000000000880000000005000000000000000000000000000000000000000000000000022088000
theorem execSafeMsgLink_frame {s nx : State} {tp : Fin 2} {up : Bool} (e : execSafeMsgLink tp up s = .next nx) : Frame execSafeMsgLink_mask s nx := by
  refine State.run_frame rfl (fun W s0 s hW h => ?_) e
  have w0 := Within.trans (a := State.showMsgLink_mask) rfl hW
  have w1 := Within.trans (a := State.raise_mask) rfl hW
  have b19 := hW.bit (n := 19) (by decide)
  repeat' first
    | intro _
    | with_reducible assumption
    | (extract_lets +onlyGivenNames x; refine Frame.cut (W := W) (s0 := s0) x ?_ ?_; unfold x; clear x; rotate_left; clear_value x; revert x; intro _ _)
    | (extract_lets +onlyGivenNames x; clear_value x; revert x; intro _)
    | with_reducible refine State.showMsgLink_frame w0 ?_
    | with_reducible refine State.raise_frame w1 ?_
    | with_reducible refine Frame.ite ?_ ?_
    | with_reducible refine Frame.foldl ?_ _ _ ?_
    | split
    | with_reducible refine Frame.of_snd (by with_reducible assumption) ?_
    | with_reducible refine Frame.of_fst (by with_reducible assumption) ?_
    | with_reducible refine Frame.snd_mk ?_
    | with_reducible refine Frame.fst_mk ?_
    | with_reducible refine Frame.safe_upd b19 ?_

end Sys2Proof.Machine
end

