-- ==== Sys2Proof/Laws/Regs.lean ====
section
/-! SUPPORT. What the operations of Machine/Regs.lean change: each differs from its argument in the areas of its mask alone. -/

set_option linter.all false

namespace Sys2Proof.Machine

def State.latch_mask : Nat := 0x10000000
theorem State.latch_frame {W : Nat} {s0 s : State} {i : Port} {off : Nat} (hW : Within State.latch_mask W) (h : Frame W s0 s) :
    Frame W s0 (State.latch s i off) := by
  have b28 := hW.bit (n := 28) (by decide)
  unfold State.latch
  repeat' first
    | intro _
    | with_reducible assumption
    | (extract_lets +onlyGivenNames x; refine Frame.cut (W := W) (s0 := s0) x ?_ ?_; unfold x; clear x; rotate_left; clear_value x; revert x; intro _ _)
    | (extract_lets +onlyGivenNames x; clear_value x; revert x; intro _)
    | with_reducible refine Frame.ite ?_ ?_
    | with_reducible refine Frame.foldl ?_ _ _ ?_
    | split
    | with_reducible refine Frame.of_snd (by with_reducible assumption) ?_
    | with_reducible refine Frame.of_fst (by with_reducible assumption) ?_
    | with_reducible refine Frame.snd_mk ?_
    | with_reducible refine Frame.fst_mk ?_
    | with_reducible refine Frame.hiLatch_upd b28 ?_

def State.clearRc_mask : Nat := 0xffffffffffffffffffffffffffffffffffffffffffffffffffffffffffffffffffffffffffffffffffffffc0000000
theorem State.clearRc_frame {W : Nat} {s0 s : State} {i : Port} {x : Hit} (hW : Within State.clearRc_mask W) (h : Frame W s0 s) :
    Frame W s0 (s.clearRc i x) := by
  have hm : State.clearRc_mask = (2 ^ (376 - 30) - 1) <<< 30 := rfl
  have hs : ∀ {u : State} {f : Field} {n : Nat}, Frame W s0 u → Frame W s0 (u.set f n) := fun {u} {f} {n} hu =>
    State.set_frame rfl (hW.bit (by
      have q := regKind_range f.key
      rw [hm, Nat.testBit_shiftLeft, Nat.testBit_two_pow_sub_one]
      simp only [Bool.and_eq_true, decide_eq_true_eq]
      exact ⟨q.1, Nat.sub_lt_sub_right q.1 q.2⟩)) hu
  unfold State.clearRc
  exact State.each_frame h (fun _ _ => hs)

def State.readReg_mask : Nat := 0xffffffffffffffffffffffffffffffffffffffffffffffffffffffffffffffffffffffffffffffffffffffd9000000
theorem State.readReg_frame {W : Nat} {s0 s : State} {i : Port} {h_ : Hit} (hW : Within State.readReg_mask W) (h : Frame W s0 s) :
    Frame W s0 (State.readReg s i h_) := by
  have b28 := hW.bit (n := 28) (by decide)
  have b24 := hW.bit (n := 24) (by decide)
  have w2 := Within.trans (a := State.reply_mask) rfl hW
  have w3 := Within.trans (a := State.latch_mask) rfl hW
  have w4 := Within.trans (a := State.clearRc_mask) rfl hW
  unfold State.readReg
  repeat' first
    | intro _
    | with_reducible assumption
    | (extract_lets +onlyGivenNames x; refine Frame.cut (W := W) (s0 := s0) x ?_ ?_; unfold x; clear x; rotate_left; clear_value x; revert x; intro _ _)
    | (extract_lets +onlyGivenNames x; clear_value x; revert x; intro _)
    | with_reducible refine State.reply_frame w2 ?_
    | with_reducible refine State.latch_frame w3 ?_
    | with_reducible refine State.clearRc_frame w4 ?_
    | with_reducible refine Frame.ite ?_ ?_
    | with_reducible refine Frame.foldl ?_ _ _ ?_
    | split
    | with_reducible refine Frame.of_snd (by with_reducible assumption) ?_
    | with_reducible refine Frame.of_fst (by with_reducible assumption) ?_
    | with_reducible refine Frame.snd_mk ?_
    | with_reducible refine Frame.fst_mk ?_
    | with_reducible refine Frame.hiLatch_upd b28 ?_
    | with_reducible refine Frame.free_upd b24 ?_

def State.unmapped_mask : Nat := 0x602000000000000000000000000000000000000000000000000000000000000000000000000002a000000
theorem State.unmapped_frame {W : Nat} {s0 s : State} {i : Port} {bar : Nat} {off : Nat} {write : Bool} (hW : Within State.unmapped_mask W) (h : Frame W s0 s) :
    Frame W s0 (State.unmapped s i bar off write) := by
  have w0 := Within.trans (a := State.reply_mask) rfl hW
  have w1 := Within.trans (a := State.fire_mask) rfl hW
  have w2 := Within.trans (a := State.raise_mask) rfl hW
  unfold State.unmapped
  repeat' first
    | intro _
    | with_reducible assumption
    | (extract_lets +onlyGivenNames x; refine Frame.cut (W := W) (s0 := s0) x ?_ ?_; unfold x; clear x; rotate_left; clear_value x; revert x; intro _ _)
    | (extract_lets +onlyGivenNames x; clear_value x; revert x; intro _)
    | with_reducible refine State.reply_frame w0 ?_
    | with_reducible refine State.fire_frame w1 ?_
    | with_reducible refine State.raise_frame w2 ?_
    | with_reducible refine Frame.ite ?_ ?_
    | with_reducible refine Frame.foldl ?_ _ _ ?_
    | split
    | with_reducible refine Frame.of_snd (by with_reducible assumption) ?_
    | with_reducible refine Frame.of_fst (by with_reducible assumption) ?_
    | with_reducible refine Frame.snd_mk ?_
    | with_reducible refine Frame.fst_mk ?_

def State.readBar0_mask : Nat := 0xfffffffffffffffffffffffffffffffffffffffffffffffffffffffffffffffffffffffffffffffffffffffb000000
theorem State.readBar0_frame {W : Nat} {s0 s : State} {i : Port} {off : Nat} (hW : Within State.readBar0_mask W) (h : Frame W s0 s) :
    Frame W s0 (State.readBar0 s i off) := by
  have w0 := Within.trans (a := State.readReg_mask) rfl hW
  have w1 := Within.trans (a := State.unmapped_mask) rfl hW
  unfold State.readBar0
  repeat' first
    | intro _
    | with_reducible assumption
    | (extract_lets +onlyGivenNames x; refine Frame.cut (W := W) (s0 := s0) x ?_ ?_; unfold x; clear x; rotate_left; clear_value x; revert x; intro _ _)
    | (extract_lets +onlyGivenNames x; clear_value x; revert x; intro _)
    | with_reducible refine State.readReg_frame w0 ?_
    | with_reducible refine State.unmapped_frame w1 ?_
    | with_reducible refine Frame.ite ?_ ?_
    | with_reducible refine Frame.foldl ?_ _ _ ?_
    | split
    | with_reducible refine Frame.of_snd (by with_reducible assumption) ?_
    | with_reducible refine Frame.of_fst (by with_reducible assumption) ?_
    | with_reducible refine Frame.snd_mk ?_
    | with_reducible refine Frame.fst_mk ?_

def execLowWordRead_mask : Nat := 0xfffffffffffffffffffffffffffffffffffffffffffffffffffffffffffffffffffffffffffffffffffffffb008000
theorem execLowWordRead_frame {s nx : State} {i : Port} {off : BitVec 26} (e : execLowWordRead i off s = .next nx) : Frame execLowWordRead_mask s nx := by
  refine State.run_frame rfl (fun W s0 s hW h => ?_) e
  have w0 := Within.trans (a := State.readBar0_mask) rfl hW
  repeat' first
    | intro _
    | with_reducible assumption
    | (extract_lets +onlyGivenNames x; refine Frame.cut (W := W) (s0 := s0) x ?_ ?_; unfold x; clear x; rotate_left; clear_value x; revert x; intro _ _)
    | (extract_lets +onlyGivenNames x; clear_value x; revert x; intro _)
    | with_reducible refine State.readBar0_frame w0 ?_
    | with_reducible refine Frame.ite ?_ ?_
    | with_reducible refine Frame.foldl ?_ _ _ ?_
    | split
    | with_reducible refine Frame.of_snd (by with_reducible assumption) ?_
    | with_reducible refine Frame.of_fst (by with_reducible assumption) ?_

def execRcRead_mask : Nat := 0xfffffffffffffffffffffffffffffffffffffffffffffffffffffffffffffffffffffffffffffffffffffffb008000
theorem execRcRead_frame {s nx : State} {i : Port} {off : BitVec 26} (e : execRcRead i off s = .next nx) : Frame execRcRead_mask s nx := by
  refine State.run_frame rfl (fun W s0 s hW h => ?_) e
  have w0 := Within.trans (a := State.readBar0_mask) rfl hW
  repeat' first
    | intro _
    | with_reducible assumption
    | (extract_lets +onlyGivenNames x; refine Frame.cut (W := W) (s0 := s0) x ?_ ?_; unfold x; clear x; rotate_left; clear_value x; revert x; intro _ _)
    | (extract_lets +onlyGivenNames x; clear_value x; revert x; intro _)
    | with_reducible refine State.readBar0_frame w0 ?_
    | with_reducible refine Frame.ite ?_ ?_
    | with_reducible refine Frame.foldl ?_ _ _ ?_
    | split
    | with_reducible refine Frame.of_snd (by with_reducible assumption) ?_
    | with_reducible refine Frame.of_fst (by with_reducible assumption) ?_

def execUnmappedAccess_mask : Nat := 0x602000000000000080000000000500000000000000000000000000000000000000000000000002a008000
theorem execUnmappedAccess_frame {s nx : State} {i : Port} {bar2 : Bool} {off : BitVec 26} {bytes : BitVec 8} {write : Bool} (e : execUnmappedAccess i bar2 off bytes write s = .next nx) : Frame execUnmappedAccess_mask s nx := by
  refine State.run_frame rfl (fun W s0 s hW h => ?_) e
  have w0 := Within.trans (a := State.unmapped_mask) rfl hW
  repeat' first
    | intro _
    | with_reducible assumption
    | (extract_lets +onlyGivenNames x; refine Frame.cut (W := W) (s0 := s0) x ?_ ?_; unfold x; clear x; rotate_left; clear_value x; revert x; intro _ _)
    | (extract_lets +onlyGivenNames x; clear_value x; revert x; intro _)
    | with_reducible refine State.unmapped_frame w0 ?_
    | with_reducible refine Frame.ite ?_ ?_
    | with_reducible refine Frame.foldl ?_ _ _ ?_
    | split
    | with_reducible refine Frame.of_snd (by with_reducible assumption) ?_
    | with_reducible refine Frame.of_fst (by with_reducible assumption) ?_

def execApertureRead_mask : Nat := 0x2d800000060201f000060000198000000000500100000000000000000000000000000000000000000040002a58c380
theorem execApertureRead_frame {s nx : State} {i : Port} {off : BitVec 24} {idle : Bool} {found : Option BadLine} (e : execApertureRead i off idle found s = .next nx) : Frame execApertureRead_mask s nx := by
  refine State.run_frame rfl (fun W s0 s hW h => ?_) e
  have b20 := hW.bit (n := 20) (by decide)
  have b46 := hW.bit (n := 46) (by decide)
  have w2 := Within.trans (a := State.unmapped_mask) rfl hW
  have w3 := Within.trans (a := State.reply_mask) rfl hW
  have w4 := Within.trans (a := State.noteCorrected_mask) rfl hW
  have w5 := Within.trans (a := State.noteUncorrected_mask) rfl hW
  repeat' first
    | intro _
    | with_reducible assumption
    | (extract_lets +onlyGivenNames x; refine Frame.cut (W := W) (s0 := s0) x ?_ ?_; unfold x; clear x; rotate_left; clear_value x; revert x; intro _ _)
    | (extract_lets +onlyGivenNames x; clear_value x; revert x; intro _)
    | with_reducible refine State.set_frame (F.CAP_APERTURE_bad_kind) b46 ?_
    | with_reducible refine State.unmapped_frame w2 ?_
    | with_reducible refine State.reply_frame w3 ?_
    | with_reducible refine State.noteCorrected_frame w4 ?_
    | with_reducible refine State.noteUncorrected_frame w5 ?_
    | with_reducible refine Frame.ite ?_ ?_
    | with_reducible refine Frame.foldl ?_ _ _ ?_
    | split
    | with_reducible refine Frame.of_snd (by with_reducible assumption) ?_
    | with_reducible refine Frame.of_fst (by with_reducible assumption) ?_
    | with_reducible refine Frame.integ_upd b20 ?_

def State.writeRole_mask : Nat := 0x6220000000000400400000400000000000000000000000000000000000030000000000000000022000000
theorem State.writeRole_frame {W : Nat} {s0 s : State} {i : Port} {h_ : Hit} {v : Word} (hW : Within State.writeRole_mask W) (h : Frame W s0 s) :
    Frame W s0 (State.writeRole s i h_ v) := by
  have w0 := Within.trans (a := State.raiseKind_mask) rfl hW
  have w1 := Within.trans (a := State.raiseAt_mask) rfl hW
  have w2 := Within.trans (a := State.raise_mask) rfl hW
  have w3 := Within.trans (a := State.routeStatus_mask) rfl hW
  have w4 := Within.trans (a := State.timeRefuse_mask) rfl hW
  have w5 := Within.trans (a := State.hostRole_mask) rfl hW
  have w6 := Within.trans (a := State.safeRefuse_mask) rfl hW
  have w7 := Within.trans (a := State.integStatus_mask) rfl hW
  have w8 := Within.trans (a := State.waymStatus_mask) rfl hW
  unfold State.writeRole
  repeat' first
    | intro _
    | with_reducible assumption
    | (extract_lets +onlyGivenNames x; refine Frame.cut (W := W) (s0 := s0) x ?_ ?_; unfold x; clear x; rotate_left; clear_value x; revert x; intro _ _)
    | (extract_lets +onlyGivenNames x; clear_value x; revert x; intro _)
    | with_reducible refine State.raiseKind_frame w0 ?_
    | with_reducible refine State.raiseAt_frame w1 ?_
    | with_reducible refine State.raise_frame w2 ?_
    | with_reducible refine State.routeStatus_frame w3 ?_
    | with_reducible refine State.timeRefuse_frame w4 ?_
    | with_reducible refine State.hostRole_frame w5 ?_
    | with_reducible refine State.safeRefuse_frame w6 ?_
    | with_reducible refine State.integStatus_frame w7 ?_
    | with_reducible refine State.waymStatus_frame w8 ?_
    | with_reducible refine Frame.ite ?_ ?_
    | with_reducible refine Frame.foldl ?_ _ _ ?_
    | split
    | with_reducible refine Frame.of_snd (by with_reducible assumption) ?_
    | with_reducible refine Frame.of_fst (by with_reducible assumption) ?_
    | with_reducible refine Frame.snd_mk ?_
    | with_reducible refine Frame.fst_mk ?_

def State.writeLocked_mask : Nat := 0x6020000000000000000000000000000000000000000000000000000000000000000000000000022000000
theorem State.writeLocked_frame {W : Nat} {s0 s : State} {i : Port} {h_ : Hit} (hW : Within State.writeLocked_mask W) (h : Frame W s0 s) :
    Frame W s0 (State.writeLocked s i h_) := by
  have w0 := Within.trans (a := State.raiseKind_mask) rfl hW
  unfold State.writeLocked
  repeat' first
    | intro _
    | with_reducible assumption
    | (extract_lets +onlyGivenNames x; refine Frame.cut (W := W) (s0 := s0) x ?_ ?_; unfold x; clear x; rotate_left; clear_value x; revert x; intro _ _)
    | (extract_lets +onlyGivenNames x; clear_value x; revert x; intro _)
    | with_reducible refine State.raiseKind_frame w0 ?_
    | with_reducible refine Frame.ite ?_ ?_
    | with_reducible refine Frame.foldl ?_ _ _ ?_
    | split
    | with_reducible refine Frame.of_snd (by with_reducible assumption) ?_
    | with_reducible refine Frame.of_fst (by with_reducible assumption) ?_
    | with_reducible refine Frame.snd_mk ?_
    | with_reducible refine Frame.fst_mk ?_

def State.writeBad_mask : Nat := 0x206220000000000400000000000000000010018000000000000000000000030000000000800000022000000
theorem State.writeBad_frame {W : Nat} {s0 s : State} {i : Port} {h1 : Hit} {v : Nat} (hW : Within State.writeBad_mask W) (h : Frame W s0 s) :
    Frame W s0 (State.writeBad s i h1 v) := by
  have b345 := hW.bit (n := 345) (by decide)
  have w0 := Within.trans (a := State.zldBad_mask) rfl hW
  have w1 := Within.trans (a := State.raiseAt_mask) rfl hW
  have w2 := Within.trans (a := State.noSuchJob_mask) rfl hW
  have w3 := Within.trans (a := State.kvRefused_mask) rfl hW
  have w4 := Within.trans (a := State.raise_mask) rfl hW
  have w5 := Within.trans (a := State.motStatus_mask) rfl hW
  have w6 := Within.trans (a := State.integStatus_mask) rfl hW
  have w7 := Within.trans (a := State.waymStatus_mask) rfl hW
  unfold State.writeBad
  repeat' first
    | intro _
    | with_reducible assumption
    | (extract_lets +onlyGivenNames x; refine Frame.cut (W := W) (s0 := s0) x ?_ ?_; unfold x; clear x; rotate_left; clear_value x; revert x; intro _ _)
    | (extract_lets +onlyGivenNames x; clear_value x; revert x; intro _)
    | with_reducible refine State.set_frame (F.PERF_CMD_STATUS_code_kind _) b345 ?_
    | with_reducible refine State.zldBad_frame w0 ?_
    | with_reducible refine State.raiseAt_frame w1 ?_
    | with_reducible refine State.noSuchJob_frame w2 ?_
    | with_reducible refine State.kvRefused_frame w3 ?_
    | with_reducible refine State.raise_frame w4 ?_
    | with_reducible refine State.motStatus_frame w5 ?_
    | with_reducible refine State.integStatus_frame w6 ?_
    | with_reducible refine State.waymStatus_frame w7 ?_
    | with_reducible refine Frame.ite ?_ ?_
    | with_reducible refine Frame.foldl ?_ _ _ ?_
    | split
    | with_reducible refine Frame.of_snd (by with_reducible assumption) ?_
    | with_reducible refine Frame.of_fst (by with_reducible assumption) ?_
    | with_reducible refine Frame.snd_mk ?_
    | with_reducible refine Frame.fst_mk ?_

def State.outOfRange_mask : Nat := 0x206220000000000400000000400000000010018000000000000000000000030000000000800000022000000
theorem State.outOfRange_frame {W : Nat} {s0 s : State} {i : Port} {h_ : Hit} {v : Nat} (hW : Within State.outOfRange_mask W) (h : Frame W s0 s) :
    Frame W s0 (State.outOfRange s i h_ v) := by
  have w0 := Within.trans (a := State.timeRefuse_mask) rfl hW
  have w1 := Within.trans (a := State.writeBad_mask) rfl hW
  unfold State.outOfRange
  repeat' first
    | intro _
    | with_reducible assumption
    | (extract_lets +onlyGivenNames x; refine Frame.cut (W := W) (s0 := s0) x ?_ ?_; unfold x; clear x; rotate_left; clear_value x; revert x; intro _ _)
    | (extract_lets +onlyGivenNames x; clear_value x; revert x; intro _)
    | with_reducible refine State.timeRefuse_frame w0 ?_
    | with_reducible refine State.writeBad_frame w1 ?_
    | with_reducible refine Frame.ite ?_ ?_
    | with_reducible refine Frame.foldl ?_ _ _ ?_
    | split
    | with_reducible refine Frame.of_snd (by with_reducible assumption) ?_
    | with_reducible refine Frame.of_fst (by with_reducible assumption) ?_
    | with_reducible refine Frame.snd_mk ?_
    | with_reducible refine Frame.fst_mk ?_

def State.badCommand_mask : Nat := 0x206220000000000400400000400000000010018000000000000000000000030000000000800000022000000
theorem State.badCommand_frame {W : Nat} {s0 s : State} {i : Port} {h1 : Hit} {v : Nat} (hW : Within State.badCommand_mask W) (h : Frame W s0 s) :
    Frame W s0 (State.badCommand s i h1 v) := by
  have w0 := Within.trans (a := State.timeRefuse_mask) rfl hW
  have w1 := Within.trans (a := State.safeRefuse_mask) rfl hW
  have w2 := Within.trans (a := State.writeBad_mask) rfl hW
  unfold State.badCommand
  repeat' first
    | intro _
    | with_reducible assumption
    | (extract_lets +onlyGivenNames x; refine Frame.cut (W := W) (s0 := s0) x ?_ ?_; unfold x; clear x; rotate_left; clear_value x; revert x; intro _ _)
    | (extract_lets +onlyGivenNames x; clear_value x; revert x; intro _)
    | with_reducible refine State.timeRefuse_frame w0 ?_
    | with_reducible refine State.safeRefuse_frame w1 ?_
    | with_reducible refine State.writeBad_frame w2 ?_
    | with_reducible refine Frame.ite ?_ ?_
    | with_reducible refine Frame.foldl ?_ _ _ ?_
    | split
    | with_reducible refine Frame.of_snd (by with_reducible assumption) ?_
    | with_reducible refine Frame.of_fst (by with_reducible assumption) ?_
    | with_reducible refine Frame.snd_mk ?_
    | with_reducible refine Frame.fst_mk ?_

def State.applyWrite_mask : Nat := 0xffffffffffffffffffffffffffffffffffffffffffffffffffffffffffffffffffffffffffffffffffffffc0000000
theorem State.applyWrite_frame {W : Nat} {s0 s : State} {i : Port} {x : Hit} {v : Word} (hW : Within State.applyWrite_mask W) (h : Frame W s0 s) :
    Frame W s0 (s.applyWrite i x v) := by
  have hm : State.applyWrite_mask = (2 ^ (376 - 30) - 1) <<< 30 := rfl
  have hs : ∀ {u : State} {f : Field} {n : Nat}, Frame W s0 u → Frame W s0 (u.set f n) := fun {u} {f} {n} hu =>
    State.set_frame rfl (hW.bit (by
      have q := regKind_range f.key
      rw [hm, Nat.testBit_shiftLeft, Nat.testBit_two_pow_sub_one]
      simp only [Bool.and_eq_true, decide_eq_true_eq]
      exact ⟨q.1, Nat.sub_lt_sub_right q.1 q.2⟩)) hu
  unfold State.applyWrite
  refine State.each_frame h (fun s f h => ?_)
  split
  · exact hs h
  · exact hs h
  · exact Frame.ite (hs h) h
  · exact h

def State.plainWrite_mask : Nat := 0xffffffffffffffffffffffffffffffffffffffffffffffffffffffffffffffffffffffffffffffffffffffe2000000
theorem State.plainWrite_frame {W : Nat} {s0 s : State} {i : Port} {h_ : Hit} {v : Word} (hW : Within State.plainWrite_mask W) (h : Frame W s0 s) :
    Frame W s0 (State.plainWrite s i h_ v) := by
  have w0 := Within.trans (a := State.writeRole_mask) rfl hW
  have w1 := Within.trans (a := State.writeLocked_mask) rfl hW
  have w2 := Within.trans (a := State.badCommand_mask) rfl hW
  have w3 := Within.trans (a := State.outOfRange_mask) rfl hW
  have w4 := Within.trans (a := State.applyWrite_mask) rfl hW
  unfold State.plainWrite
  repeat' first
    | intro _
    | with_reducible assumption
    | (extract_lets +onlyGivenNames x; refine Frame.cut (W := W) (s0 := s0) x ?_ ?_; unfold x; clear x; rotate_left; clear_value x; revert x; intro _ _)
    | (extract_lets +onlyGivenNames x; clear_value x; revert x; intro _)
    | with_reducible refine State.writeRole_frame w0 ?_
    | with_reducible refine State.writeLocked_frame w1 ?_
    | with_reducible refine State.badCommand_frame w2 ?_
    | with_reducible refine State.outOfRange_frame w3 ?_
    | with_reducible refine State.applyWrite_frame w4 ?_
    | with_reducible refine Frame.ite ?_ ?_
    | with_reducible refine Frame.foldl ?_ _ _ ?_
    | split
    | with_reducible refine Frame.of_snd (by with_reducible assumption) ?_
    | with_reducible refine Frame.of_fst (by with_reducible assumption) ?_
    | with_reducible refine Frame.snd_mk ?_
    | with_reducible refine Frame.fst_mk ?_

def State.commandWrite_mask : Nat := execAbort_mask ||| execAdmit_mask ||| execCaptureClear_mask ||| execClearFault_mask ||| execClearTest_mask ||| execCloseWindow_mask ||| execCommit_mask ||| execConfirm_mask ||| execContextRestart_mask ||| execDetourRequest_mask ||| execFenceClear_mask ||| execFioOutClr_mask ||| execFioOutSet_mask ||| execForceSafe_mask ||| execFreeze_mask ||| execHandover_mask ||| execHostMboxPost_mask ||| execHostPushHead_mask ||| execHostResAck_mask ||| execHostResCfgWrite_mask ||| execHostSqCfgWrite_mask ||| execHostSqTail_mask ||| execHubfwAbort_mask ||| execHubfwLoad_mask ||| execIngestDoorbell_mask ||| execIngestStart_mask ||| execIngestStop_mask ||| execLaneDisable_mask ||| execLaneEnable_mask ||| execLaneLoop_mask ||| execLanePrbs_mask ||| execLaneRetrain_mask ||| execLocateWrite_mask ||| execLock_mask ||| execMeasureSolo_mask ||| execOpen_mask ||| execOpenWindow_mask ||| execOutputClear_mask ||| execPageQuery_mask ||| execParamCommit_mask ||| execParamDiscard_mask ||| execParamLoad_mask ||| execPerfEventWrite_mask ||| execPrefixRetire_mask ||| execRetire_mask ||| execSafeReset_mask ||| execSeqEnd_mask ||| execSetBandwidth_mask ||| execSetEpoch_mask ||| execSetQuota_mask ||| execSetSeed_mask ||| execSetWeight_mask ||| execSetWindow_mask ||| execSlew_mask ||| execSnapshot_mask ||| execStartAt_mask ||| execStartCancel_mask ||| execStep_mask ||| execTagOff_mask ||| execTagOn_mask ||| execThaw_mask ||| execTraceSet_mask ||| execUnlock_mask
theorem State.commandWrite_frame {s nx : State} {i : Port} {x : Hit} {v : Word} {o : Host.Outcome State Fault Refusal}
    (e : s.commandWrite i x v = some o) (e1 : o = .next nx) : Frame State.commandWrite_mask s nx := by
  unfold State.commandWrite at e
  extract_lets at e
  split at e
  · cases e; exact Frame.mono (A := execLocateWrite_mask) rfl (execLocateWrite_frame e1)
  · cases e; exact Frame.mono (A := execOpen_mask) rfl (execOpen_frame e1)
  · cases e; cases e1; exact Frame.refl _ _
  · cases e; exact Frame.mono (A := execCommit_mask) rfl (execCommit_frame e1)
  · cases e; exact Frame.mono (A := execAbort_mask) rfl (execAbort_frame e1)
  · cases e; cases e1; exact Frame.refl _ _
  · cases e; exact Frame.mono (A := execOpenWindow_mask) rfl (execOpenWindow_frame e1)
  · cases e; exact Frame.mono (A := execCloseWindow_mask) rfl (execCloseWindow_frame e1)
  · cases e; exact Frame.mono (A := execHubfwLoad_mask) rfl (execHubfwLoad_frame e1)
  · cases e; exact Frame.mono (A := execHandover_mask) rfl (execHandover_frame e1)
  · cases e; exact Frame.mono (A := execConfirm_mask) rfl (execConfirm_frame e1)
  · cases e; exact Frame.mono (A := execHubfwAbort_mask) rfl (execHubfwAbort_frame e1)
  · cases e; exact Frame.mono (A := execDetourRequest_mask) rfl (execDetourRequest_frame e1)
  · cases e; exact Frame.mono (A := execFenceClear_mask) rfl (execFenceClear_frame e1)
  · cases e; exact Frame.mono (A := execPrefixRetire_mask) rfl (execPrefixRetire_frame e1)
  · cases e; exact Frame.mono (A := execSeqEnd_mask) rfl (execSeqEnd_frame e1)
  · cases e; exact Frame.mono (A := execPageQuery_mask) rfl (execPageQuery_frame e1)
  · cases e; exact Frame.mono (A := execAdmit_mask) rfl (execAdmit_frame e1)
  · cases e; exact Frame.mono (A := execRetire_mask) rfl (execRetire_frame e1)
  · cases e; exact Frame.mono (A := execSetWeight_mask) rfl (execSetWeight_frame e1)
  · cases e; exact Frame.mono (A := execMeasureSolo_mask) rfl (execMeasureSolo_frame e1)
  · cases e; exact Frame.mono (A := execSetQuota_mask) rfl (execSetQuota_frame e1)
  · cases e; exact Frame.mono (A := execSetBandwidth_mask) rfl (execSetBandwidth_frame e1)
  · cases e; exact Frame.mono (A := execSetWindow_mask) rfl (execSetWindow_frame e1)
  · cases e; exact Frame.mono (A := execLaneRetrain_mask) rfl (execLaneRetrain_frame e1)
  · cases e; exact Frame.mono (A := execLaneLoop_mask) rfl (execLaneLoop_frame e1)
  · cases e; exact Frame.mono (A := execLanePrbs_mask) rfl (execLanePrbs_frame e1)
  · cases e; exact Frame.mono (A := execClearTest_mask) rfl (execClearTest_frame e1)
  · cases e; exact Frame.mono (A := execLaneDisable_mask) rfl (execLaneDisable_frame e1)
  · cases e; exact Frame.mono (A := execLaneEnable_mask) rfl (execLaneEnable_frame e1)
  · cases e; exact Frame.mono (A := execParamLoad_mask) rfl (execParamLoad_frame e1)
  · cases e; exact Frame.mono (A := execParamCommit_mask) rfl (execParamCommit_frame e1)
  · cases e; exact Frame.mono (A := execParamDiscard_mask) rfl (execParamDiscard_frame e1)
  · cases e; exact Frame.mono (A := execContextRestart_mask) rfl (execContextRestart_frame e1)
  · cases e; exact Frame.mono (A := execIngestStart_mask) rfl (execIngestStart_frame e1)
  · cases e; exact Frame.mono (A := execIngestStop_mask) rfl (execIngestStop_frame e1)
  · cases e; exact Frame.mono (A := execSetSeed_mask) rfl (execSetSeed_frame e1)
  · cases e; exact Frame.mono (A := execSetEpoch_mask) rfl (execSetEpoch_frame e1)
  · cases e; exact Frame.mono (A := execIngestDoorbell_mask) rfl (execIngestDoorbell_frame e1)
  · cases e; exact Frame.mono (A := execClearFault_mask) rfl (execClearFault_frame e1)
  · cases e; exact Frame.mono (A := execFioOutSet_mask) rfl (execFioOutSet_frame e1)
  · cases e; exact Frame.mono (A := execFioOutClr_mask) rfl (execFioOutClr_frame e1)
  · cases e; exact Frame.mono (A := execOutputClear_mask) rfl (execOutputClear_frame e1)
  · cases e; exact Frame.mono (A := execStep_mask) rfl (execStep_frame e1)
  · cases e; exact Frame.mono (A := execSlew_mask) rfl (execSlew_frame e1)
  · cases e; exact Frame.mono (A := execStartAt_mask) rfl (execStartAt_frame e1)
  · cases e; exact Frame.mono (A := execStartCancel_mask) rfl (execStartCancel_frame e1)
  · cases e; exact Frame.mono (A := execHostResCfgWrite_mask) rfl (execHostResCfgWrite_frame e1)
  · cases e; exact Frame.mono (A := execHostResAck_mask) rfl (execHostResAck_frame e1)
  · cases e; exact Frame.mono (A := execHostPushHead_mask) rfl (execHostPushHead_frame e1)
  · cases e; exact Frame.mono (A := execHostSqCfgWrite_mask) rfl (execHostSqCfgWrite_frame e1)
  · cases e; exact Frame.mono (A := execHostSqTail_mask) rfl (execHostSqTail_frame e1)
  · cases e; exact Frame.mono (A := execHostMboxPost_mask) rfl (execHostMboxPost_frame e1)
  · cases e; exact Frame.mono (A := execSafeReset_mask) rfl (execSafeReset_frame e1)
  · cases e; exact Frame.mono (A := execForceSafe_mask) rfl (execForceSafe_frame e1)
  · cases e; exact Frame.mono (A := execLock_mask) rfl (execLock_frame e1)
  · cases e; exact Frame.mono (A := execUnlock_mask) rfl (execUnlock_frame e1)
  · cases e; exact Frame.mono (A := execTraceSet_mask) rfl (execTraceSet_frame e1)
  · cases e; exact Frame.mono (A := execCaptureClear_mask) rfl (execCaptureClear_frame e1)
  · cases e; exact Frame.mono (A := execFreeze_mask) rfl (execFreeze_frame e1)
  · cases e; exact Frame.mono (A := execThaw_mask) rfl (execThaw_frame e1)
  · cases e; exact Frame.mono (A := execSnapshot_mask) rfl (execSnapshot_frame e1)
  · cases e; exact Frame.mono (A := execTagOn_mask) rfl (execTagOn_frame e1)
  · cases e; exact Frame.mono (A := execTagOff_mask) rfl (execTagOff_frame e1)
  · cases e; exact Frame.mono (A := execPerfEventWrite_mask) rfl (execPerfEventWrite_frame e1)
  · cases e

def State.writeBar2_mask : Nat := 0x602000000000000000000000000000000000000000000000000000000000000000000000000002e400000
theorem State.writeBar2_frame {W : Nat} {s0 s : State} {i : Port} {off : Nat} {v : Word} (hW : Within State.writeBar2_mask W) (h : Frame W s0 s) :
    Frame W s0 (State.writeBar2 s i off v) := by
  have w0 := Within.trans (a := State.unmapped_mask) rfl hW
  have w1 := Within.trans (a := State.hostRole_mask) rfl hW
  have w2 := Within.trans (a := State.bwInAdd_mask) rfl hW
  have b22 := hW.bit (n := 22) (by decide)
  unfold State.writeBar2
  repeat' first
    | intro _
    | with_reducible assumption
    | (extract_lets +onlyGivenNames x; refine Frame.cut (W := W) (s0 := s0) x ?_ ?_; unfold x; clear x; rotate_left; clear_value x; revert x; intro _ _)
    | (extract_lets +onlyGivenNames x; clear_value x; revert x; intro _)
    | with_reducible refine State.unmapped_frame w0 ?_
    | with_reducible refine State.hostRole_frame w1 ?_
    | with_reducible refine State.bwInAdd_frame w2 ?_
    | with_reducible refine State.wr_frame b22 ?_
    | with_reducible refine Frame.ite ?_ ?_
    | with_reducible refine Frame.foldl ?_ _ _ ?_
    | split
    | with_reducible refine Frame.of_snd (by with_reducible assumption) ?_
    | with_reducible refine Frame.of_fst (by with_reducible assumption) ?_
    | with_reducible refine Frame.snd_mk ?_
    | with_reducible refine Frame.fst_mk ?_

def execRegisterWrite_mask : Nat := State.commandWrite_mask ||| State.plainWrite_mask ||| State.writeBar2_mask ||| State.driveOutputs_mask

theorem execRegisterWrite_frame {s nx : State} {i : Port} {bar2 : Bool} {off : BitVec 26} {v : Word}
    (e : execRegisterWrite i bar2 off v s = .next nx) : Frame execRegisterWrite_mask s nx := by
  unfold execRegisterWrite at e
  split at e
  · exact State.run_frame rfl (fun W s0 s hW h => State.writeBar2_frame (Within.trans rfl hW) h) e
  · split at e
    · exact State.run_frame rfl (fun W s0 s hW h => State.unmapped_frame (Within.trans rfl hW) h) e
    · split at e
      · rename_i h _ _ o q
        split at q
        · cases q
        · exact Frame.mono (A := State.commandWrite_mask) rfl (State.commandWrite_frame q e)
      · exact State.run_frame rfl (fun W s0 s hW h => State.plainWrite_frame (Within.trans rfl hW) h) e

end Sys2Proof.Machine
end

