-- ==== Sys2Proof/Machine/Panel.lean ====
section
/-! DEFINITION. What a person at the module sees: the front-edge LEDs (R44, Table HW-14) and what the service console reads (R31, R423). -/

namespace Sys2Proof.Machine

/-! ### LEDs (R44, Table HW-14) -/

/-- What a three-colour LED shows. -/
inductive Light where
  | off
  | green
  | amber
  | red
  deriving DecidableEq, Repr

/-- An indication: one light, a flashing one, or the alternation of green and amber at 2 Hz that identifies the module. -/
inductive Indication where
  | steady (l : Light)
  | flashing (l : Light)
  | locate
  deriving DecidableEq, Repr

/-- The LEDs of the front edge. -/
inductive Led where
  | pwr
  | run
  | safe
  | cool
  | time
  | cam (k : Fin 8)
  | peer (side : Fin 2)
  deriving DecidableEq, Repr

/-- The contexts of partition `p`. -/
def State.contextsOf (s : State) (p : Nat) : List Nat := (upTo 64).filter (fun c => (s.ctxCfg c).defined && (s.ctxCfg c).part == p)

/-- The road is open: for every partition with contexts R22 holds.  Table HW-14 speaks of one road, and names no partition (DESIGN
CHOICE). -/
def State.roadOpen (s : State) : Bool :=
  (upTo 8).any (fun p => !(s.contextsOf p).isEmpty) &&
    (upTo 8).all (fun p => (s.contextsOf p).isEmpty || (s.roadClosed p (s.contextsOf p)).isNone)

/-- The normal indication of an LED. -/
def State.ledNormal (s : State) (l : Led) : Indication :=
  match l with
  | .pwr => .steady (if s.power == .off || s.power == .offOverVoltage then .off
      else if s.on F.CAP_BOARD_STATUS_field_low || s.get F.CAP_BOARD_STATUS_group_low != 0 then .amber else .green)
  | .run => .steady (if s.get F.KEEP_STATUS_boot_phase != phaseBOOTED then .off else if s.roadOpen then .green else .amber)
  | .safe => if s.isSafe then .steady .red
      else if s.on F.SAFE_STATUS_overdue && !s.cfg.safety.overdueSafe then .flashing .amber else .steady .off
  | .cool => if s.board.overheated then .steady .red
      else if s.on F.CAP_BOARD_STATUS_derated then .flashing .amber
      else .steady (if s.on F.CAP_BOARD_STATUS_coolant_range then .amber else .off)
  | .time => .steady (if !s.on F.TIME_STATUS_valid then .off else if s.get F.TIME_STATUS_state == tsLOCKED then .green else .amber)
  | .cam k =>
    let lanes := (upTo 4).filterMap (fun i => if (s.laneCfg (4 * k.val + i)).enabled && s.laneState (4 * k.val + i) != laneDISABLED then some (s.laneState (4 * k.val + i)) else none)
    .steady (if lanes.isEmpty then .off else if lanes.all (fun x => x == laneUP) then .green else .amber)
  | .peer k => .steady (if !s.on (F.PEER_SIDE_expected k) then .off else if s.sideUp k then .green else .amber)

/-- The indication of an LED: every one identifies the module while CAP_BOARD_LED.locate is 1 (R44). -/
def State.led (s : State) (l : Led) : Indication := if s.on F.CAP_BOARD_LED_locate then .locate else s.ledNormal l

/-- The light of an LED at this sample, where its indication tells it: the spec gives a flashing indication no rate. -/
def State.light (s : State) (l : Led) : Option Light :=
  match s.led l with
  | .steady x => some x
  | .flashing _ => none
  | .locate => some (if s.clk.now % 100000000 < 50000000 then .green else .amber)

/-! ### The service console (R31, R423) -/

/-- What the console reads of a register, as the instance of port `i` shows it, while a session is open: it reads, and changes nothing. -/
def State.consoleRead (s : State) (i : Port) (h : Hit) : Option Word := s.board.console.map (fun _ => s.peek i h)

/-- What the console reads of the waymark with sequence number `q`, through a window of its own: the state of Table WAYM-6 and the record's
eight words. -/
def State.consoleWaymark (s : State) (q : Nat) : Option (Nat × List Nat) := s.board.console.map (fun _ => s.ringRecord q)

end Sys2Proof.Machine
end

