-- ==== Sys2Proof/WellFormed.lean ====
section
/-! DEFINITION. Well-formed commands: records and reports have the sizes and ranges that the spec gives them.  `exec` gives an
ill-formed command a meaning too, so that no statement needs this premise to hold of what the hardware can be sent. -/

namespace Sys2Proof

/-- A record of `n` bytes. -/
def bytesWf (n : Nat) (l : List Byte) : Bool := l.length == n

/-- A 32-bit access lies on a 4-byte offset (R12). -/
def offsetWf {w : Nat} (off : BitVec w) : Bool := off.toNat % 4 == 0

/-- A memory line as read: 64 bytes with 64 checks of 4 bits, and a 32-bit CRC (R388). -/
def BadLine.wf (b : BadLine) : Bool :=
  b.raw.length == 64 && b.checks.length == 64 && b.checks.all (fun k => k < 16) && b.crc < 2 ^ 32

/-- A PTP message: nanoseconds below one second, 16-bit sequence number, a data set of seven values. -/
def Ptp.wf (m : Ptp) : Bool := m.ns < 1000000000 && m.seq < 65536 && m.dataset.length == 7

/-- An up-link packet: whole blocks of 64 bits after its header (R261). -/
def Packet.wf (p : Packet) : Bool := p.data.length % 8 == 0

/-- A peer packet of a kind of Table PEER-1, in whole blocks. -/
def PeerHead.wf (kind : Nat) (h : PeerHead) : Bool := h.packet.wf && h.packet.head.toNat % 16 == kind

/-- A result's tail is payload bytes 120 to 255, each of which may be variable (Table HOST-5). -/
def tailWf (tail : List Byte) (mask : Nat) : Bool := tail.length == 136 && mask < 2 ^ 136

/-- A verdict: its record of 128 bytes (Table SAFE-2), one of four seams, its tail. -/
def VerdictIn.wf (v : VerdictIn) : Bool :=
  v.record.length == 128 && v.seam.all (fun k => k < 4) && tailWf v.tail v.variableMask

/-- A leg's report. -/
def LegReport.wf (r : LegReport) : Bool :=
  r.windows.all (fun w => w.ctx < 64 && w.prefix_.all (fun k => k < 64)) && r.verges.all (fun v => v.1 < 4) &&
    tailWf r.tail r.variableMask

/-- A boot report: records, copies and slots that exist, units of Table BOOT-2, two TIME ports, four PCI Express ports, a start-up
of less than 1 s (R325). -/
def BootReport.wf (r : BootReport) : Bool :=
  r.torn.all (fun k => k.1 ≤ 10 && k.2 < 2) && r.badSlots.all (fun k => k < 18) &&
    r.failed.all (fun f => 1 ≤ f.1 && f.1 ≤ 8) && r.timeUp < 4 && r.pcieUp < 16 && r.bootMs < 1000

/-- A report of one figure for each physical core. -/
def perCore {α : Type} (l : List α) : Bool := l.length == 40

/-- A period report. -/
def PeriodIn.wf (x : PeriodIn) : Bool := perCore x.ticks && perCore x.outside && perCore x.overrun

/-- A fetched image: its directory has the length that its header states, its name 32 bytes, its key and its signature those of ML-DSA-87
(R46, R50). -/
def ImageFile.wf (img : ImageFile) : Bool :=
  img.dir.length == img.header.sectionCount && bytesWf 32 img.header.name && bytesWf 2592 img.key && bytesWf 4627 img.signature

/-- A sample: as many bytes as a descriptor can name (Table INGEST-1). -/
def SampleIn.wf (x : SampleIn) : Bool := x.bytes.length ≤ 16777216

/-- The command is well formed. -/
def Instr.wf : Instr → Bool
  | .powerUp r => r.wf
  | .overvoltageRestart r => r.wf
  | .restart _ r => r.wf
  | .fetch _ img => img.wf
  | .periodBoundary x => x.wf
  | .slackWindow ticks counts _ => perCore ticks && perCore counts && (ticks.zip counts).all (fun e => e.1.length == e.2.length)
  | .legComplete _ _ r => r.wf
  | .verdictRecord _ v => v.wf
  | .arm _ r => bytesWf 32 r
  | .launchRecord _ _ r => bytesWf 16 r
  | .contrib _ h r _ => bytesWf 64 r && h.wf 3 && h.packet.data == r
  | .hello _ h _ => h.wf 1
  | .verge _ h _ => h.wf 2
  | .ack _ h _ => h.wf 4
  | .peerNak _ h _ => h.wf 5
  | .reject _ h _ _ => h.wf 6
  | .credit _ h _ => h.wf 7
  | .descriptorRead _ r => r.all (bytesWf 64)
  | .sampleComplete _ _ x => x.wf
  | .copyIn _ _ d => bytesWf 64 d
  | .copyOut _ _ d => bytesWf 64 d
  | .release _ _ d => bytesWf 64 d
  | .bindWeights _ _ d => bytesWf 64 d
  | .fence _ _ d => bytesWf 64 d
  | .registerWrite _ _ off _ => offsetWf off
  | .rcRead _ off => offsetWf off
  | .lowWordRead _ off => offsetWf off
  | .bar4Access _ off _ => offsetWf off
  | .apertureRead _ off _ found => offsetWf off && found.all BadLine.wf
  | .scrubRead _ _ found _ => found.all BadLine.wf
  | .waymarkSummary code _ => code < 65536
  | .sync _ m => m.wf
  | .followUp _ m => m.wf
  | .delayReq _ m => m.wf
  | .delayResp _ m => m.wf
  | .pdelayReq _ m => m.wf
  | .pdelayResp _ m => m.wf
  | .pdelayRespFollowUp _ m => m.wf
  | .announce _ m => m.wf
  | .lineStart _ p => p.wf
  | .pixels _ p => p.wf
  | .lineEnd _ p => p.wf
  | .frameMark _ p => p.wf
  | .ctrlResponse _ p => p.wf
  | .headNak _ p => p.wf
  | .headResync _ p => p.wf
  | _ => true

end Sys2Proof
end

