-- ==== Sys2Proof/Tests/Slice0.lean ====
section
/-! SUPPORT. Tests: ill-formed commands that the check refuses, values of the spec's examples, single commands, and for each statement with
hypotheses a state and operands that meet them. -/

set_option linter.all false

namespace Sys2Proof.Tests

set_option Elab.async false

open Sys2Proof Sys2Proof.Machine

/-! ### Small states and operands -/

/-- A powered module: port 0 OWNER, 1 OPERATOR, 2 OBSERVER, 3 SERVICE; partitions 0 (SAFETY), 1 (MISSION) and 2 (BEST EFFORT) of port
1, each with a core and 16 pages; lane 0 with context 0 (LINE) and context 1 (AREA) of partition 1. -/
def upReset : State :=
  { State.reset with
    power := .on
    cfg := { State.reset.cfg with
      structureSec := { factoryStructure with
        islands := 2 ^ 126 - 1
        lanes := [{ enabled := true, rate := 0, refMode := 0, channel := 0, sensors := 1 }]
        contexts := [{ defined := true, lane := 0, stream := 0, kind := 0, part := 1 },
                     { defined := true, lane := 0, stream := 1, kind := 2, part := 1 }]
        parts := [{ defined := true, cores := 1, quota := 16, bandwidth := 100, criticality := critSAFETY, port := 1, windows := [] },
                  { defined := true, cores := 2, quota := 16, bandwidth := 100, criticality := critMISSION, port := 1, windows := [] },
                  { defined := true, cores := 4, quota := 16, bandwidth := 100, criticality := critBESTEFFORT, port := 1, windows := [] }] } } }

/-- The module of `upReset` with further registers set. -/
def upWith (l : List (Field × Nat)) : State :=
  upReset.setAll ([(F.HOST_STATUS_role 0, 0), (F.HOST_STATUS_role 1, 1), (F.HOST_STATUS_role 2, 2), (F.HOST_STATUS_role 3, 3),
    (F.ROUTE_PART_defined 0, 1), (F.ROUTE_PART_defined 1, 1), (F.ROUTE_PART_defined 2, 1), (F.ROUTE_PART_port 0, 1),
    (F.ROUTE_PART_port 1, 1), (F.ROUTE_PART_port 2, 1), (F.ROUTE_PART_criticality 1, critMISSION),
    (F.ROUTE_PART_criticality 2, critBESTEFFORT)] ++ l)

/-- The module of `upReset` with every island disabled. -/
def darkReset : State := { upReset with cfg := { upReset.cfg with structureSec := { upReset.cfg.structureSec with islands := 0 } } }

def ptp0 : Ptp :=
  { version := 2, domain := 0, claimed := 44, length := 44, source := 1, seq := 1, correction := 0, twoStep := false, sec := 0, ns := 0
    target := 0, dataset := [], bridgeFull := false, interval := 0 }
def packet0 : Packet := { head := 0, data := [], crc := 0, badSync := false, bridgeFull := false }
def image0 : ImageFile :=
  { header := { magic := 0, format := 1, kind := kindFULL, package := 0, variantMask := 7, minStepping := 0, epoch := 0, sectionCount := 0
                totalLength := 0, build := 1, buildTime := 0, baseDigest := 0, name := List.replicate 32 0 }
    dir := [], body := [], structureSec := none, pace := none, safety := none, tables := none, partTables := [], programs := [], key := []
    signature := [], signs := none, absent := none, inconsistent := none }
def report0 : BootReport := { pufOk := true, tries := 0, torn := [], badSlots := [], failed := [], timeUp := 0, pcieUp := 15, hbmUp := true, scanMs := 0, bootMs := 0 }
/-- A directory entry of a section without bytes (Table ZLD-2). -/
def entry0 (ty scope : Nat) : DirEntry :=
  { ty := ty, scope := scope, flags := 0, offset := 4096, length := 0, reserved := 0, digest := sha512 [] }
/-- A FULL image of the factory sections, in roles and upkeep that R48 allows. -/
def fullImage : ImageFile :=
  { image0 with
    dir := [entry0 secSTRUCTURE 255, entry0 secPACE 255, entry0 secSAFETY 255, entry0 secTABLES 255]
    structureSec := some { factoryStructure with roles := [0, 1, 2, 3], islands := 2 ^ 126 - 1, upkeep := 1 }
    pace := some factoryPace, safety := some factorySafety, tables := some factoryTables }
/-- Tables of partition 1 whose section says no bytes. -/
def tablesNone : PartTables := { programs := [], claims := [], launch := [], presets := [], digest := sha512 [] }
/-- A PARTIAL image of partition 1, before it is signed. -/
def draftImage : ImageFile :=
  { image0 with
    header := { image0.header with magic := 0x4C45415A, kind := kindPARTIAL, package := 0x9640, sectionCount := 1, totalLength := 4096
                                   baseDigest := upReset.cfg.structureSec.digest }
    dir := [entry0 secTABLES 1], body := List.replicate 3888 0, partTables := [(1, tablesNone)] }
/-- A PARTIAL image that a claimed module takes. -/
def partImage : ImageFile := { draftImage with signs := some draftImage.signedDigest }
def owner0 : OwnerRec := { key := 1, signers := [sha512 []] }
def armed0 : Armed := { target := 1, land := 5, program := none, tables := none, safety := none, build := 1, slot := 0, partial_ := true, taken := false }
def leg00 : LegRun :=
  { id := 1, part := 1, job := 0, iter := 0, leg := 0, copy := 0, gen := 0, period := 0, start := 0, span := 10, cores := [1], done := []
    snapshot := none, replays := 0, divZero := 0, codes := [], replayAt := none, callNo := 0, verges := [], eng := [], net := []
    marked := false, firstGen := [], digest := none }
def job00 : Job :=
  { part := 1, template := 0, landing := 0, retireAt := none, oldWeight := 0, weightFrom := 0, vtoll := 0, next := 0, lats := [], solos := []
    soloLeft := 0, sinceHigh := 0, pages := 0, relAt := 0, soloFrom := 0, used := 0, lastGen := 0, foldGen := 0 }
def program0 : ProgramSec :=
  { build := 1, templates := [], needBandwidth := 0, weights := [], chains := [], seqDigest := 0, recompute := 0, rangeCheck := false
    callTrace := false, digestRing := 0, digestDepth := 0, mailboxIn := none, mailboxOut := none, residency := [], taps := [], tablePages := 0
    fits := true, digest := 0 }
def template0 : TemplateCfg :=
  { index := 0, cadence := 0, every := 1, eventRate := 0, pages := 0, contexts := [], legs := [], model := none, ingest := none, output := false }
def legReport0 : LegReport :=
  { windows := [], verges := [], prefixes := [], digest := 0, inputDigest := 0, tail := [], variableMask := 0 }
/-- The word of a class and an operation with fields (lowest bit, value). -/
def word (cls op : Nat) (l : List (Nat × Nat)) : BitVec 128 :=
  BitVec.ofNat 128 (l.foldl (fun n e => n + e.2 * 2 ^ e.1) (cls * 2 ^ 124 + op * 2 ^ 112))
/-- A record of `n` bytes with fields (offset, width, value). -/
def recordOf (n : Nat) (l : List (Nat × Nat × Nat)) : List Byte :=
  leBytes n (l.foldl (fun a e => a + e.2.2 * 2 ^ (8 * e.1)) 0)
/-- The stream that issues words of a class (Table ARITH-10). -/
def groupOf (cls : Nat) : Fin 4 := Fin.ofNat 4 ((classGroup cls).getD grpSCALAR)
/-- The word of a class and an operation with fields, in the stream of core 0. -/
def wordAt (cls op : Nat) (l : List (Nat × Nat)) : Issue := { core := 0, group := groupOf cls, offset := 0, word := word cls op l }
def legCfg0 : LegCfg :=
  { leg0 with span := 10, cores := 1, groups := 15 }
/-- A packet of lane 0 whose CRC is good. -/
def packetOf (kind stream seq index : Nat) (bs : List Byte) : Packet :=
  let h := kind + 256 * stream + 2 ^ 16 * seq + 2 ^ 32 * bs.length + 2 ^ 48 * index
  { head := BitVec.ofNat 64 h, data := pad8 bs, crc := BitVec.ofNat 32 (packetCrc 0 stream seq (leBytes 8 h) (pad8 bs)), badSync := false
    bridgeFull := false }
/-- A sound packet of a kind of Table PEER-1, of sequence number `seq`, that arrives on side 0. -/
def headOf (kind seq : Nat) (bs : List Byte) : PeerHead :=
  let h := kind + 2 ^ 16 * seq + 2 ^ 32 * bs.length
  { lane := 0
    packet := { head := BitVec.ofNat 64 h, data := pad8 bs, crc := BitVec.ofNat 32 (packetCrc 0 0 seq (leBytes 8 h) (pad8 bs)), badSync := false
                bridgeFull := false } }
def head0 : PeerHead := headOf 1 0 []
/-- A training word of the head on lane 0. -/
def trainWord (streams rate : Nat) : BitVec 256 :=
  let bs := leBytes 2 0x5254 ++ [1, 0] ++ leBytes 1 rate ++ leBytes 1 streams ++ List.replicate 22 0
  BitVec.ofNat 256 (recField (bs ++ leBytes 4 (crc32 (List.replicate 4 0 ++ bs))) 0 32)
def line0 : OpenLine :=
  { seq := 7, stamp := 100, pixels := 4, format := 0, freeRun := true, resend := false, index := 1, data := [1, 2], bad := false }
def lineIn0 : LineIn :=
  { ctx := 0, seq := 7, stamp := 100, pixels := 2, format := 0, data := [1, 2], headStatus := 0, lost := false, short := false, long := false
    code := 0, at_ := 0, local_ := 0, trigAt := none, waited := false }
/-- The smallest parameter set: a header without sections (Table ISP-2). -/
def set0 : List Byte :=
  leBytes 4 0x53505349 ++ [1, 0, 0, 0, 0, 0, 2, 0] ++ leBytes 4 64 ++ sha3_256 [] ++ leBytes 4 0 ++ [1, 0] ++ List.replicate 10 0
def golden0 : GoldenCfg := { ctx := 0, pixels := 16, digest := 9 }
def slot00 : IngSlot := { state := slREAD, cause := 0, desc := [] }
def chain0 : ChainCfg := { index := 0, ringOffset := 0, depth := 2, height := 1, width := 1, chans := 1, format := 0xF, scratch := 1024, ops := [] }
def batch0 : IngBatch := { num := 2, size := 2, seed := 1, epoch := 1, chains := [chain0], slots := [slot00, { slot00 with state := slUNREAD }] }
def chanCfg0 (mode : Nat) : ChanCfg := { noChan with mode := mode, decode := 2 }
def withChan (c : ChanCfg) : Running := { upReset.cfg with tables := { factoryTables with channels := [c] } }
def program00 : PulseProgram := { steps := [{ action := 1, counts := false, duration := 100 }, { action := 2, counts := true, duration := 5 }], maxOn := 1000 }
def milepost0 : Milepost :=
  { target := 10, tag := 7, lead := 0, prog := 1, program := program00, output := 3, state := 1, doubt := 0, suppressed := false
    outFault := false, overlap := false, part := 1, firedAt := 0, serial := 1, late := false }
def pulse0 : Pulse :=
  { entry := 4095, output := 3, chan := 0, serial := 1, program := program00, step := 0, stepCount := 0, stepTime := 0, onTime := 0, on := true }
def tables0 : PartTables :=
  { programs := [(1, program00)], claims := [{ output := 3, host := false, retryMs := 0, openWireMask := true }], launch := [], presets := [], digest := 0 }
def subject0 : Subject :=
  { part := 1, resNum := 1, kind := 1, tag := 7, key := some 5, chan := 0, output := 3, target := 10, flags := 0, firedPeriod := none, joins := false, settled := false }
def slot10 : Slot :=
  { port := 0, part := 1, push := false, seq := 16, kind := 1, drops := 0, milestone := 0, resNum := 1, reads := 2, state := 2, payload := none }
def busy0 (op set_ : Nat) : SqBusy := { port := 0, ring := 3, op := op, set := set_, tag := 9, host := 4096, offset := 64, length := 3 }
/-- A verdict record of partition `p` on context 0, whose CRC is good (Table SAFE-2). -/
def verdictOf (p v tag counter stamp : Nat) : VerdictIn :=
  let r := (recordOf 128 [(0, 1, 2), (1, 1, p), (2, 1, v), (3, 1, 1), (4, 4, tag), (8, 4, counter), (12, 8, stamp), (28, 4, 5), (32, 4,
      9)]).take 124
  { record := r ++ leBytes 4 (crc32c r), seam := none, expects := [], blocks := [], inputDigest := 3, tail := List.replicate 136 7, variableMask := 0 }

/-! ### What meets a premise -/

/-- The conditions of a ready word, checked. -/
def readyB (s : State) (x : Issue) (cls op group : Nat) : Bool :=
  s.powered && s.issues x.core && decide (x.group.val = group ∧ (classGroup cls).all (fun k => group == k) = true) &&
    (match s.legIn x.core group with | some g => decide (g.replayAt = none) | none => true) &&
    !s.streamStands x.core group && !s.loopSkips x && decide (wClass x.word = cls ∧ wOp x.word = op ∧ wordLegal x.word = true) &&
    !s.producerHeld x.core x.word && (tokensOf (wWait x.word)).all (fun k => decide (s.tokState x.core k = .ready))

theorem ready_of {s : State} {x : Issue} {cls op group : Nat} (h : readyB s x cls op group = true) : s.Ready x cls op group := by
  simp only [readyB, Bool.and_eq_true, Bool.not_eq_true', decide_eq_true_eq, List.all_eq_true] at h
  obtain ⟨⟨⟨⟨⟨⟨⟨⟨h1, h2⟩, h3⟩, h4⟩, h5⟩, h6⟩, h7⟩, h8⟩, h9⟩ := h
  refine ⟨h1, h2, h3, ?_, h5, h6, h7, h8, h9⟩
  intro g hg
  rw [hg] at h4
  exact of_decide_eq_true h4

theorem scalarReady_of {s : State} {x : Issue} {op : Nat} (h : readyB s x 0x5 op grpSCALAR = true) : s.ScalarReady x op := ready_of h

theorem vectorReady_of {s : State} {x : Issue} {op : Nat}
    (h : readyB s x 0x3 op grpVECTOR = true ∧ s.pairFree x.core = true ∧ s.integ.bad = [] ∧ s.integ.poison = []) : s.VectorReady x op :=
  ⟨ready_of h.1, h.2⟩

theorem irregReady_of {s : State} {x : Issue} {op : Nat}
    (h : readyB s x 0x4 op grpVECTOR = true ∧ s.pairFree x.core = true ∧ (s.integ.bad = [] ∧ s.integ.poison = []) ∧
      (s.irrOf x).legal op = true) : s.IrregReady x op :=
  ⟨ready_of h.1, h.2⟩

theorem callReady_of {s : State} {x : Issue} {cls call eng : Nat}
    (h : (readyB s x cls 0x01 grpTRANSFER = true ∧ s.integ.bad = [] ∧ s.integ.poison = []) ∧
      s.engineFree call (s.engineOf x.core eng (s.legId x.core x.group)) = true) : s.CallReady x cls call eng :=
  ⟨⟨ready_of h.1.1, h.1.2⟩, h.2⟩

theorem checkReady_of {s : State} {x : Issue} {op : Nat}
    (h : (readyB s x 0xC op grpTRANSFER = true ∧ s.integ.bad = [] ∧ s.integ.poison = []) ∧
      (s.core x.core).calls.any (fun k => k.kind == callCHECK) = false ∧ (s.checkOf x).legal op = true) : s.CheckReady x op :=
  ⟨⟨ready_of h.1.1, h.1.2⟩, h.2⟩

theorem firstCall_of {s : State} {c i : Nat} {kinds : List Nat} {k : Call}
    (h : ((s.core c).calls[i]? = some k ∧ k.kind ∈ kinds) ∧ (List.range (s.core c).calls.length).all (fun j =>
      match (s.core c).calls[j]? with
      | some y => decide (y.kind ∈ kinds → k.endAt ≤ y.endAt ∧ (j < i → k.endAt < y.endAt))
      | none => true) = true) : s.firstCall c kinds i k := by
  refine ⟨h.1.1, h.1.2, fun j y hj => ?_⟩
  have hl : j < (s.core c).calls.length := (List.getElem?_eq_some_iff.mp hj).1
  have := List.all_eq_true.mp h.2 j (List.mem_range.mpr hl)
  rw [hj] at this
  exact of_decide_eq_true this

theorem localTokens_of {s : State} {c : Nat} (h : s.route.legs = []) : s.localTokens c := by
  intro k
  unfold State.vergeSlot State.vergeBound
  rw [show s.vergeOf c k = none from ?_]
  · rfl
  unfold State.vergeOf State.legsOn
  rw [h]
  cases s.logicalOf c <;> simp

theorem watches_of {s : State} {w : Nat} {g : WatchdogCfg} {early : Bool}
    (h : s.cfg.safety.watchdogs[w]? = some g ∧ s.on (F.SAFE_WDOG_armed w) = true ∧
      (g.kind = wdCONTEXT → early = true ∨ s.triggerPaused g.target = false) ∧ (g.kind = wdMILEPOST → s.hasField = true)) :
    s.watches w g early := h

theorem of_all {α : Type} {o : Option α} {P : α → Prop} [∀ a, Decidable (P a)] (h : o.all (fun a => decide (P a)) = true) :
    ∀ a, o = some a → P a := by
  intro a ho
  rw [ho] at h
  exact of_decide_eq_true h

theorem of_all_two {α β : Type} {o : Option (α × β)} {P : α → β → Prop} [∀ a b, Decidable (P a b)]
    (h : o.all (fun e => decide (P e.1 e.2)) = true) : ∀ a b, o = some (a, b) → P a b := by
  intro a b ho
  rw [ho] at h
  exact of_decide_eq_true h

theorem of_all_three {α β γ : Type} {o : Option (α × β × γ)} {P : α → β → γ → Prop} [∀ a b c, Decidable (P a b c)]
    (h : o.all (fun e => decide (P e.1 e.2.1 e.2.2)) = true) : ∀ a b c, o = some (a, b, c) → P a b c := by
  intro a b c ho
  rw [ho] at h
  exact of_decide_eq_true h

theorem of_all_parts {l : Tab ProgramSec} {m : Nat} {P : ProgramSec → Prop} [∀ a, Decidable (P a)]
    (h : (List.range 8).all (fun p => !m.testBit p || (tfind l p).all (fun g => decide (P g))) = true) :
    ∀ p g, p < 8 → m.testBit p = true → tfind l p = some g → P g := by
  intro p g hp hb hf
  have := List.all_eq_true.mp h p (List.mem_range.mpr hp)
  rw [hb, hf] at this
  exact of_decide_eq_true this

theorem eq_getD {α : Type} {o : Option α} {d : α} (h : o.isSome = true) : o = some (o.getD d) := by
  cases o with
  | none => cases h
  | some a => rfl

/-- A zero line whose first byte has one bit wrong: its check and the CRC find the byte. -/
theorem badBit (a : Nat) :
    sound a { raw := 1 :: List.replicate 63 0, checks := List.replicate 64 0, crc := crc32c (foldBytes a ++ List.replicate 64 0) } = false ∧
    corrected a { raw := 1 :: List.replicate 63 0, checks := List.replicate 64 0, crc := crc32c (foldBytes a ++ List.replicate 64 0) } =
      some (List.replicate 64 0) := by
  have hne : (byteCheck 1).toNat ≠ 0 := by
    have h := byteCheck_single 0 0
    intro h0
    exact h (BitVec.eq_of_toNat_eq h0)
  have hf : flagged { raw := 1 :: List.replicate 63 0, checks := List.replicate 64 0, crc := crc32c (foldBytes a ++ List.replicate 64 0) } = [0] := by
    have hu : upTo 64 = 0 :: (upTo 64).tail := by decide +kernel
    unfold flagged
    rw [hu, List.filter_cons_of_pos (by simpa using hne)]
    have : (upTo 64).tail.all (fun i => ((byteCheck ((1 :: List.replicate 63 0 : List Byte).getD i 0)).toNat == (List.replicate 64 0).getD i 0)) = true := by
      decide +kernel
    rw [List.filter_eq_nil_iff.mpr]
    intro i hi
    have := List.all_eq_true.mp this i hi
    simp only [bne, this, Bool.not_true, Bool.false_eq_true, not_false_eq_true]
  constructor
  · unfold sound
    rw [hf]
    rfl
  · have hu : upTo 256 = 0 :: (upTo 256).tail := by decide +kernel
    unfold corrected
    rw [hf]
    show Option.map _ ((upTo 256).find? _) = _
    rw [hu, List.find?_cons_of_pos]
    · rfl
    · simp only [Bool.and_eq_true]
      exact ⟨by decide +kernel, beq_self_eq_true _⟩

theorem notOwnClock : (2 ^ 90 + 1) / 65536 ≠ Config.clockIdentity.toNat := by
  have := Config.clockIdentity.isLt
  omega

theorem ownClock : (Config.clockIdentity.toNat * 65536 + 65535) / 65536 = Config.clockIdentity.toNat := by omega

theorem derateGrow_next (s : State) (h : s.pending = [.derateGrow]) : ∃ t, step s = .next t := by
  have : step s = exec .derateGrow { s with pending := [] } := by
    unfold step
    rw [h]
  rw [this]
  exact (fun u => ⟨_, rfl⟩ : ∀ u : State, ∃ t, exec .derateGrow u = .next t) _

theorem overVoltage_next (s : State) (v : BitVec 16) : ∃ t, exec (.overVoltage v) s = .next t := by
  change ∃ t, execOverVoltage v s = .next t
  unfold execOverVoltage
  split <;> exact ⟨_, rfl⟩

theorem safeOutputsHold_of {s : State}
    (h : ∀ o, o < 2 → ∀ ch, ch < 2 → (s.get F.SAFE_IO_outputs).testBit (2 * o + ch) = true →
      (s.get F.SAFE_STATUS_state = safeRECOVERY ∨ s.get F.SAFE_STATUS_state = safeRUN) ∧ s.outDemand o = false ∧ s.fieldLow = false) :
    s.safeOutputsHold := fun o ch ho hc => h o ho ch hc

theorem brownOut_next (s : State) (v : BitVec 16) : ∃ t, exec (.brownOut v) s = .next t := by
  change ∃ t, execBrownOut v s = .next t
  unfold execBrownOut
  split <;> exact ⟨_, rfl⟩

theorem row_length (e : CoreExec) (r : Nat) : (e.row r).length = 512 := by simp [CoreExec.row, upTo]

theorem row_get (e : CoreExec) (r c : Nat) (h : c < (e.row r).length) :
    (e.row r)[c] = tget cell0 (e.cells.filter (fun y => y.1 / 512 == r)) (512 * r + c) := by
  simp only [CoreExec.row, upTo, List.getElem_map, List.getElem_range]

theorem drained_of {s : State} {x : Issue} {bias : Bool}
    (h : (upTo (wCount x.word)).all (fun j => (upTo 512).all (fun c =>
      let e := s.core x.core
      let z := drainCell e bias (e.rowMode (wSrcA x.word + j)).2 (e.rowMode (wSrcA x.word + j)).1 c
        (tget cell0 (e.cells.filter (fun y => y.1 / 512 == wSrcA x.word + j)) (512 * (wSrcA x.word + j) + c))
      !z.breach && !z.nonfinite)) = true) :
    ∀ d ∈ s.drained x bias, d.2.2.2.2.breach = false ∧ d.2.2.2.2.nonfinite = false := by
  intro d hd
  unfold State.drained drainCells at hd
  revert h hd
  generalize s.core x.core = e
  generalize wSrcA x.word = r
  intro h hd
  obtain ⟨j, hj, hd⟩ := List.mem_flatMap.mp hd
  obtain ⟨c, hc, hd⟩ := List.mem_mapIdx.mp hd
  rw [row_get] at hd
  rw [row_length] at hc
  have t := List.all_eq_true.mp (List.all_eq_true.mp h j hj) c (List.mem_range.mpr hc)
  rw [Bool.and_eq_true, Bool.not_eq_true', Bool.not_eq_true'] at t
  rw [← hd]
  exact t

/-- The state in which `partImage` is checked: port 0 is OWNER of a claimed module. -/
def loading : State :=
  { (upWith [(F.ZLD_STATUS_state, zldFETCHING), (F.ZLD_SRC_LEN_bytes, 4096), (F.ZLD_STATUS_session_port, 0)]) with
    zld := { State.reset.zld with image := some partImage }, keep := { State.reset.keep with owner := some owner0 } }

theorem checkImage_none {s : State} {i : Port} {img : ImageFile} (h1 : img.checkFormat (s.get F.ZLD_SRC_LEN_bytes) = none)
    (h2 : s.mayLoad i img = true) (h3 : s.goodTarget img = true) (h4 : s.knownSigner img.signer = true)
    (h5 : img.signs = some img.signedDigest) (h6 : img.dir.findIdx? (fun e => !img.digestOk e) = none)
    (h7 : ¬ img.header.epoch < s.keep.epoch) (h8 : (img.header.kind == kindPARTIAL) = true)
    (h9 : (img.header.baseDigest != s.cfg.structureSec.digest) = false)
    (h10 : s.absentIn img s.cfg.structureSec s.cfg.tables s.cfg.safety = none) (h11 : s.checkPartial img = none)
    (h12 : s.checkLock img i = none) : s.checkImage i img = none := by
  unfold State.checkImage State.checkContent
  simp only [h1, h2, h3, h4, h5, h6, h7, h8, h9, h10, h11, h12, Bool.not_true, Bool.and_false, bne_self_eq_false, Bool.false_eq_true, if_false,
    if_true]

theorem partImage_padding : partImage.paddingOk = true := by
  unfold ImageFile.paddingOk
  rw [List.all_eq_true]
  intro i _
  have : partImage.body.getD i 0 = 0 := by
    show (List.replicate 3888 (0 : Byte)).getD i 0 = 0
    rw [List.getD_eq_getElem?_getD, List.getElem?_replicate]
    split <;> rfl
  rw [this]
  rfl

theorem partImage_format : partImage.checkFormat 4096 = none := by
  unfold ImageFile.checkFormat
  rw [partImage_padding]
  decide +kernel

theorem partImage_taken : loading.checkImage 0 partImage = none := by
  refine checkImage_none ?_ ?_ ?_ ?_ rfl ?_ ?_ rfl ?_ ?_ ?_ ?_
  · rw [show loading.get F.ZLD_SRC_LEN_bytes = 4096 by decide +kernel]
    exact partImage_format
  all_goals decide +kernel

/-! ### Ill-formed commands are refused by the check -/

/-- An image of `image0`'s header whose directory is longer than the header says. -/
def badImage : ImageFile := { image0 with dir := [entry0 secPACE 255] }

/-- `image0` with a key and a signature of their lengths. -/
def keyedImage : ImageFile := { image0 with key := List.replicate 2592 0, signature := List.replicate 4627 0 }

def line64 : BadLine := { raw := List.replicate 64 0, checks := List.replicate 64 0, crc := 0 }

theorem test_wf_records :
    (Instr.arm 0 (List.replicate 31 0)).wf = false ∧ (Instr.arm 0 (List.replicate 32 0)).wf = true ∧
    (Instr.launchRecord 0 0 (List.replicate 17 0)).wf = false ∧ (Instr.contrib 0 (headOf 3 0 (List.replicate 63 0)) (List.replicate 63 0) none).wf = false ∧
    (Instr.contrib 0 (headOf 3 0 (List.replicate 64 1)) (List.replicate 64 0) none).wf = false ∧
    (Instr.contrib 0 (headOf 4 0 (List.replicate 64 0)) (List.replicate 64 0) none).wf = false ∧
    (Instr.contrib 0 (headOf 3 0 (List.replicate 64 0)) (List.replicate 64 0) none).wf = true ∧
    (Instr.descriptorRead 0 (some [])).wf = false ∧ (Instr.copyIn 0 0 [0]).wf = false ∧ (Instr.copyOut 0 0 []).wf = false ∧
    (Instr.release 0 0 []).wf = false ∧ (Instr.bindWeights 0 0 []).wf = false ∧ (Instr.fence 0 0 []).wf = false := by decide +kernel

theorem test_wf_peer_kinds :
    (Instr.ack 0 (headOf 5 0 []) 0).wf = false ∧ (Instr.ack 0 (headOf 4 0 []) 0).wf = true ∧ (Instr.peerNak 0 (headOf 4 0 []) 0).wf = false ∧
    (Instr.reject 0 (headOf 4 0 []) 0 0).wf = false ∧ (Instr.credit 0 (headOf 4 0 []) 0).wf = false ∧
    (Instr.hello 0 (headOf 4 0 []) { node := 0, position := 0, digests := [] }).wf = false ∧
    (Instr.hello 0 head0 { node := 0, position := 0, digests := [] }).wf = true ∧
    (Instr.hello 0 { head0 with packet := { head0.packet with data := [0] } } { node := 0, position := 0, digests := [] }).wf = false := by
  decide +kernel

theorem test_wf_offsets :
    (Instr.registerWrite 0 false 0x100019 0).wf = false ∧ (Instr.registerWrite 0 false 0x100018 0).wf = true ∧
    (Instr.rcRead 0 2).wf = false ∧ (Instr.lowWordRead 0 1).wf = false ∧ (Instr.bar4Access 0 3 none).wf = false ∧
    (Instr.apertureRead 0 6 true none).wf = false := by decide +kernel

theorem test_wf_lines :
    (Instr.scrubRead 0 0 (some { line64 with raw := [] }) 0).wf = false ∧
        (Instr.scrubRead 0 0 (some { line64 with checks := [0] }) 0).wf = false ∧
    (Instr.scrubRead 0 0 (some { line64 with checks := 16 :: List.replicate 63 0 }) 0).wf = false ∧
    (Instr.scrubRead 0 0 (some { line64 with crc := 2 ^ 32 }) 0).wf = false ∧ (Instr.scrubRead 0 0 (some line64) 0).wf = true := by
  decide +kernel

theorem test_wf_messages :
    (Instr.sync 0 { ptp0 with ns := 1000000000 }).wf = false ∧ (Instr.followUp 0 { ptp0 with seq := 65536 }).wf = false ∧
    (Instr.announce 0 { ptp0 with dataset := [1] }).wf = false ∧ (Instr.announce 0 { ptp0 with dataset := List.replicate 7 0 }).wf = true ∧
    (Instr.pixels 0 { packet0 with data := [0] }).wf = false ∧ (Instr.pixels 0 packet0).wf = true ∧
    (Instr.waymarkSummary 65536 0).wf = false := by decide +kernel

theorem test_wf_reports :
    (Instr.powerUp { report0 with torn := [(0, 2)] }).wf = false ∧ (Instr.powerUp { report0 with bootMs := 1000 }).wf = false ∧ (Instr.powerUp { report0 with torn := [(11, 0)] }).wf = false ∧
    (Instr.powerUp { report0 with badSlots := [18] }).wf = false ∧
        (Instr.overvoltageRestart { report0 with failed := [(9, 1, 1)] }).wf = false ∧
    (Instr.restart 0 { report0 with timeUp := 4 }).wf = false ∧ (Instr.powerUp report0).wf = true ∧
    (Instr.fetch 0 badImage).wf = false ∧ (Instr.fetch 0 image0).wf = false ∧ (Instr.fetch 0 keyedImage).wf = true ∧
    (Instr.fetch 0 { keyedImage with header := { keyedImage.header with name := [] } }).wf = false ∧ (Instr.restart 0 { report0 with pcieUp := 16 }).wf = false ∧
    (Instr.slackWindow (List.replicate 39 []) (List.replicate 40 []) 0).wf = false ∧
    (Instr.slackWindow (List.replicate 40 []) (List.replicate 41 []) 0).wf = false ∧
    (Instr.slackWindow (List.replicate 40 [5]) (List.replicate 40 []) 0).wf = false ∧
    (Instr.slackWindow (List.replicate 40 []) (List.replicate 40 []) 0).wf = true := by decide +kernel

theorem test_wf_legs_and_verdicts :
    (Instr.legComplete 0 0 { legReport0 with tail := [0] }).wf = false ∧
    (Instr.legComplete 0 0 { legReport0 with tail := List.replicate 136 0, verges := [(4, 0, [])] }).wf = false ∧
    (Instr.legComplete 0 0 { legReport0 with tail := List.replicate 136 0 }).wf = true ∧
    (Instr.verdictRecord 0 { verdictOf 1 1 7 5 3 with record := [] }).wf = false ∧
    (Instr.verdictRecord 0 { verdictOf 1 1 7 5 3 with seam := some 4 }).wf = false ∧
    (Instr.verdictRecord 0 (verdictOf 1 1 7 5 3)).wf = true := by decide +kernel

/-! ### Values from the spec's worked examples and from the named standards -/

/-- One output cell of Table ARITH-7: four E4M3 products at anchor -65, drained. -/
def cellOf (x w : List Nat) : AccCell :=
  ((x.zip w).foldl (fun (c : AccCell) e => c.put (-65) ((fmtValue fmtE4M3 e.1).mul (fmtValue fmtE4M3 e.2))) cell0).window

theorem test_arith7_first :
    fmtRound fmtBF16 false ((cellOf [0x68, 0x68, 0xE4, 0x20] [0x60, 0x60, 0x60, 0xC4]).value false (-65)) = 0x4520 := by decide +kernel

theorem test_arith7_second :
    (cellOf [0x7E, 0x7E, 0xFE, 0xFD] [0x60, 0x60, 0x60, 0x60]).s = 2 ^ 75 ∧
    fmtRound fmtBF16 false ((cellOf [0x7E, 0x7E, 0xFE, 0xFD] [0x60, 0x60, 0x60, 0x60]).value false (-65)) = 0x4480 := by decide +kernel

theorem test_arith7_third :
    (cellOf [0x7E, 0x7E, 0x7E, 0x7E] [0x60, 0x60, 0x60, 0x60]).breach = true ∧
    (cellOf [0x7E, 0x7E, 0x7E, 0x7E] [0x60, 0x60, 0x60, 0x60]).s = 2 ^ 79 - 1 ∧
    fmtRound fmtBF16 false ((cellOf [0x7E, 0x7E, 0x7E, 0x7E] [0x60, 0x60, 0x60, 0x60]).value false (-65)) = 0x4680 := by decide +kernel

/-- The crop offset of the example of spec/14. -/
theorem test_ingest_offset : uniform 2621440000 0 1024 = 625 := by decide +kernel

/-- Stamp 0xFFFF_F000 at count 0x1_FFFF_F028 (the example of spec/15). -/
theorem test_stamp_extended : extendNear 32 0xFFFFF000 0x1FFFFF028 = 0x1FFFFF000 := by decide +kernel

/-- Leg 5 of iteration 40,003 is recomputed at 1/8, and leg 6 is not (Table INTEG-6). -/
theorem test_recompute : recomputed 8 40003 5 = true ∧ recomputed 8 40003 6 = false := by decide +kernel

/-- Shortfalls of 26 ps and 28.4 ps in steps of 18 ps and 10 ps (Table PACE-3). -/
theorem test_plan_steps : stepsFor 26 18 = 2 ∧ stepsFor 284 100 = 3 := by decide +kernel

/-- The check values of the two CRCs over the digits 1 to 9. -/
theorem test_crcs : crc32 ((List.range 9).map (fun i => BitVec.ofNat 8 (0x31 + i))) = 0xCBF43926 ∧
    crc32c ((List.range 9).map (fun i => BitVec.ofNat 8 (0x31 + i))) = 0xE3069283 := by decide +kernel

/-- SHA3-256 of no bytes begins A7 FF C6 F8 (FIPS 202). -/
theorem test_sha3 : (sha3_256 []).take 4 = [0xA7, 0xFF, 0xC6, 0xF8] := by decide +kernel

/-- Philox4x32-10 of key and counter 0 (the generator's published vector). -/
theorem test_philox : philox 0 (0, 0, 0, 0) = [0x6627E8D5, 0xE169C58D, 0xBC57AC4C, 0x9B00DBD8] := by decide +kernel

/-! ### Single commands -/

/-- The state that a command leaves. -/
def after (o : Host.Outcome State Fault Refusal) : State :=
  match o with
  | .next t => t
  | .fault _ => State.reset
  | .refused _ => State.reset

/-- A step takes the first of two waiting commands. -/
theorem test_step_front :
    (after (step { upReset with pending := [.locateWrite 0 true, .derateGrow] })).pending = [.derateGrow] ∧
    (after (step { upReset with pending := [.locateWrite 0 true, .derateGrow] })).get F.CAP_BOARD_LED_locate = 1 := by decide +kernel

/-- The table gives no row any bits. -/
theorem test_no_words : Sys2Proof.decodeTableWord 0 0 = none ∧ State.reset.withFetchWord 32 5 = State.reset := ⟨rfl, rfl⟩

/-- ADD wraps at 64 bits. -/
theorem test_add_wraps :
    (after (exec (.add (wordAt 5 1 [(74, 3), (68, 1), (62, 2)]))
      { upWith [(F.CORE_ID_role 0, coreACTIVE)] with exec := [(0, { coreExec0 with sregs := [(1, 2 ^ 64 - 1), (2, 3)] })] })).sreg 0 0 3 = 2 := by
  decide +kernel

/-- A loop of one word and three trips: the sheet's word issues once, and the loop issues it twice more (R158). -/
theorem test_loop_repeats :
    (after (step (after (step (after (exec (.add { wordAt 5 1 [(74, 1), (68, 1), (62, 2)] with offset := 1 })
      { upWith [(F.CORE_ID_role 0, coreACTIVE)] with
        exec := [(0, { coreExec0 with sregs := [(2, 5)], loops := [{ first := 1, body := 1, left := 3, words := [] }] })] })))))).sreg 0 0 1 = 15 := by
  decide +kernel

/-- A mailbox word is stored little-endian. -/
theorem test_mailbox_order :
    (after (exec (.registerWrite 1 true 0x802000 0x12345678) (upWith []))).bytes (inMailbox 1) 4 = [0x78, 0x56, 0x34, 0x12] := by
  decide +kernel

/-- TIME_SLEW takes 1 to 100 ppm. -/
theorem test_slew_bounds :
    (after (exec (.registerWrite 0 false 0x10001C 100) (upWith []))).get F.TIME_SLEW_ppm = 100 ∧
    (after (exec (.registerWrite 0 false 0x10001C 101) (upWith []))).get (F.TIME_CMD_STATUS_code 0) = Code.TIME_REFUSED := by
  decide +kernel

/-- SNAPSHOT is for privileged ports. -/
theorem test_snapshot_role :
    (after (exec (.snapshot 1) (upWith []))).get (F.PERF_CMD_STATUS_code 1) = Code.PERF_ROLE ∧
    (after (exec (.snapshot 0) (upWith []))).get F.PERF_STATUS_snapshot_pending = 1 := by decide +kernel

/-! ### The hypotheses of the statements can be met: one theorem for each statement that has some, with a state and operands for each
of its clauses -/

theorem witness_StepRunsTheFrontCommand :
    (∃ (s : State), s.pending = [] ∧ s.powered = true ∧ (∀ c, (s.core c).held = [])) ∧
    (∃ (s : State) (t : State), s.pending = [] ∧ s.powered = true ∧ s.issueHeld = some t) ∧
    (∃ (s : State), s.pending = [] ∧ s.power = .bootRom) ∧
    (∃ (s : State), s.pending = [] ∧ (s.power = .off ∨ s.power = .offOverVoltage)) :=
  ⟨⟨upWith [], by decide +kernel, by decide +kernel, fun _ => rfl⟩,
   ⟨{ (upWith [(F.CORE_ID_role 0, coreACTIVE)]) with exec := [(0, { coreExec0 with held := [(wordAt 0x5 0x01 [(74, 3)], none)] })] },
       (({ (upWith [(F.CORE_ID_role 0, coreACTIVE)]) with exec := [(0, { coreExec0 with held := [(wordAt 0x5 0x01 [(74, 3)], none)] })] }
       : State).issueHeld).getD State.reset, by decide +kernel, by decide +kernel, eq_getD (by decide +kernel)⟩,
   ⟨{ (upWith []) with power := .bootRom }, by decide +kernel⟩,
   ⟨{ (upWith []) with power := .offOverVoltage }, by decide +kernel⟩⟩

theorem witness_SupplyAndStartCommands :
    (∃ (s : State), (s.power = .off ∨ s.power = .offOverVoltage)) ∧
    (∃ (s : State), (s.power = .on ∨ s.power = .bootRom)) ∧
    (∃ (s : State), s.power = .offOverVoltage) ∧
    (∃ (s : State), s.power ≠ .offOverVoltage) ∧
    (∃ (s : State) (i : Port), s.powered = true ∧ s.privileged i = true) ∧
    (∃ (s : State) (i : Port), s.powered = true ∧ s.privileged i = false) :=
  ⟨⟨{ (upWith []) with power := .off }, by decide +kernel⟩,
   ⟨upWith [], by decide +kernel⟩,
   ⟨{ (upWith []) with power := .offOverVoltage }, by decide +kernel⟩,
   ⟨upWith [], by decide +kernel⟩,
   ⟨upWith [], 0, by decide +kernel⟩,
   ⟨upWith [], 1, by decide +kernel⟩⟩

theorem witness_SupplyAndCageReports :
    (∃ (s : State), s.powered = true ∧ s.hasField = true ∧ s.fieldLow = false) ∧
    (∃ (s : State), s.powered = true ∧ s.hasField = true ∧ s.fieldLow = true) ∧
    (∃ (s : State) (g : Fin 4) (low : Bool), s.powered = true ∧ s.hasField = true ∧ s.groupLow g = !low) ∧
    (∃ (s : State) (n : ChanId) (pin24 : Bool), s.powered = true ∧ s.hasField = true ∧ 2 * n.val + bit pin24 ∉ s.board.encShort) ∧
    (∃ (s : State), (s.power = .bootRom ∨ (s.power = .on ∧ s.board.console ≠ none))) ∧
    (∃ (s : State) (i : Port), s.powered = true ∧ s.privileged i = true) ∧
    (∃ (s : State) (i : Port), s.powered = true ∧ s.privileged i = false) :=
  ⟨⟨upWith [], by decide +kernel⟩,
   ⟨upWith [(F.CAP_BOARD_STATUS_field_low, 1)], by decide +kernel⟩,
   ⟨upWith [(F.CAP_BOARD_STATUS_group_low, 0)], 0, true, by decide +kernel⟩,
   ⟨upWith [], 0, true, by decide +kernel⟩,
   ⟨{ (upWith []) with power := .bootRom }, by decide +kernel⟩,
   ⟨upWith [], 0, by decide +kernel⟩,
   ⟨upWith [], 1, by decide +kernel⟩⟩

theorem witness_ThermalSteps :
    (∃ (s : State), s.powered = true ∧ s.get F.CAP_BOARD_STATUS_derated = 0) ∧
    (∃ (s : State), s.powered = true ∧ s.get F.CAP_BOARD_STATUS_derated = 1 ∧ s.board.derateHolds = true) ∧
    (∃ (s : State), s.powered = true ∧ (s.get F.CAP_BOARD_STATUS_derated = 0 ∨ s.board.derateHolds = false)) ∧
    (∃ (s : State), s.powered = true ∧ s.get F.CAP_BOARD_STATUS_derated = 1 ∧ s.board.derateHolds = false) ∧
    (∃ (s : State), s.powered = true ∧ (s.get F.CAP_BOARD_STATUS_derated = 0 ∨ s.board.derateHolds = true)) :=
  ⟨⟨upWith [(F.CAP_BOARD_STATUS_derated, 0)], by decide +kernel⟩,
   ⟨{ (upWith [(F.CAP_BOARD_STATUS_derated, 1)]) with board := { State.reset.board with derateHolds := true } }, by decide +kernel⟩,
   ⟨upWith [(F.CAP_BOARD_STATUS_derated, 0)], by decide +kernel⟩,
   ⟨upWith [(F.CAP_BOARD_STATUS_derated, 1)], by decide +kernel⟩,
   ⟨upWith [(F.CAP_BOARD_STATUS_derated, 0)], by decide +kernel⟩⟩

theorem witness_ZldSession :
    (∃ (s : State), s.powered = true ∧ s.zldState = zldIDLE) ∧
    (∃ (s : State), s.powered = true ∧ s.zldState ≠ zldIDLE) ∧
    (∃ (s : State) (i : Port), s.powered = true ∧ s.holdsSession i = true ∧ s.zldState = zldOPEN) ∧
    (∃ (s : State) (i : Port), s.powered = true ∧ (s.holdsSession i = false ∨ s.zldState ≠ zldOPEN)) ∧
    (∃ (s : State) (img : ImageFile), s.powered = true ∧ s.zld.image = some img ∧ s.zldState = zldFETCHING ∧
        s.checkImage (Fin.ofNat 4 (s.get F.ZLD_STATUS_session_port)) img = none) ∧
    (∃ (s : State) (img : ImageFile) (f : Failure), s.powered = true ∧ s.zld.image = some img ∧ s.zldState = zldFETCHING ∧
        s.checkImage (Fin.ofNat 4 (s.get F.ZLD_STATUS_session_port)) img = some f) ∧
    (∃ (s : State) (i : Port), s.powered = true ∧ s.holdsSession i = false) :=
  ⟨⟨upWith [(F.ZLD_STATUS_state, zldIDLE)], by decide +kernel⟩,
   ⟨upWith [(F.ZLD_STATUS_state, zldOPEN)], by decide +kernel⟩,
   ⟨upWith [(F.ZLD_STATUS_session_port, 0), (F.ZLD_STATUS_state, zldOPEN)], 0, by decide +kernel⟩,
   ⟨upWith [(F.ZLD_STATUS_state, zldVERIFIED)], 0, by decide +kernel⟩,
   ⟨loading, partImage, by decide +kernel, rfl, by decide +kernel,
       by rw [show Fin.ofNat 4 (loading.get F.ZLD_STATUS_session_port) = 0 by decide +kernel]; exact partImage_taken⟩,
   ⟨{ (upWith [(F.ZLD_STATUS_state, zldFETCHING)]) with zld := { State.reset.zld with image := some image0 }, keep := { State.reset.keep with owner := some owner0 } },
       image0, badFormat 0, by decide +kernel⟩,
   ⟨upWith [(F.ZLD_STATUS_state, zldOPEN), (F.ZLD_STATUS_session_port, 0)], 2, by decide +kernel⟩⟩

theorem witness_ZldCommit :
    (∃ (s : State) (i : Port) (img : ImageFile), s.powered = true ∧ s.zld.image = some img ∧ s.holdsSession i = true ∧
        s.zldState = zldVERIFIED ∧ img.header.kind = kindFULL ∧ (∀ a ∈ s.zld.armed, a.partial_ = false) ∧ s.checkLock img i = none) ∧
    (∃ (s : State) (i : Port) (img : ImageFile), s.powered = true ∧ s.zld.image = some img ∧ s.holdsSession i = true ∧
        s.zldState = zldVERIFIED ∧ img.header.kind ≠ kindFULL) ∧
    (∃ (s : State) (i : Port) (img : ImageFile), s.powered = true ∧ s.zld.image = some img ∧ s.holdsSession i = true ∧
        s.zldState = zldVERIFIED ∧ img.header.kind = kindFULL ∧ (∃ a ∈ s.zld.armed, a.partial_ = true)) ∧
    (∃ (s : State) (i : Port) (img : ImageFile) (f : Failure), s.powered = true ∧ s.zld.image = some img ∧ s.holdsSession i = true ∧
        s.zldState = zldVERIFIED ∧ ((img.header.kind = kindFULL → ∀ a ∈ s.zld.armed, a.partial_ = false)) ∧ s.checkLock img i = some f) ∧
    (∃ (s : State) (i : Port), s.powered = true ∧ (s.zld.image = none ∨ s.holdsSession i = false ∨ s.zldState ≠ zldVERIFIED)) :=
  ⟨⟨{ (upWith [(F.ZLD_STATUS_session_port, 0), (F.ZLD_STATUS_state, zldVERIFIED), (F.ZLD_ACTIVE_upkeep_mode, 1)]) with zld := { State.reset.zld with image := some fullImage } },
      0, fullImage, by decide +kernel⟩,
   ⟨{ (upWith [(F.ZLD_STATUS_session_port, 0), (F.ZLD_STATUS_state, zldVERIFIED)]) with zld := { State.reset.zld with image := some (({ fullImage with header := { fullImage.header with kind := kindPARTIAL } } : ImageFile)) } },
       0, ({ fullImage with header := { fullImage.header with kind := kindPARTIAL } } : ImageFile), by decide +kernel⟩,
   ⟨{ (upWith [(F.ZLD_STATUS_session_port, 0), (F.ZLD_STATUS_state, zldVERIFIED)]) with zld := { State.reset.zld with image := some fullImage, armed := [armed0] } },
       0, fullImage, by decide +kernel⟩,
   ⟨{ (upWith [(F.ZLD_STATUS_session_port, 0), (F.ZLD_STATUS_state, zldVERIFIED)]) with zld := { State.reset.zld with image := some fullImage }, keep := { State.reset.keep with lock := true }, cfg := { upReset.cfg with safety := { factorySafety with digest := 9 } } },
       0, fullImage, ({ code := Code.ZLD_SAFETY_LOCKED, section_ := 2, item := 0, params := [0] } : Failure), by decide +kernel⟩,
   ⟨upWith [(F.ZLD_STATUS_state, zldVERIFIED)], 0, by decide +kernel⟩⟩

theorem witness_IdentityRequests :
    (∃ (s : State) (h : DoeHeader), s.powered = true ∧ h.code.toNat = doeGET_IDENTITY ∧ h.length.toNat = 0) ∧
    (∃ (s : State) (h : DoeHeader), s.powered = true ∧ h.code.toNat = doeGET_MEASUREMENTS ∧ h.length.toNat = 0 ∧ s.get F.KEEP_STATUS_identity ≠ 2) ∧
    (∃ (s : State) (h : DoeHeader), s.powered = true ∧ h.code.toNat = doeATTEST ∧ h.length.toNat = 32 ∧ s.get F.KEEP_STATUS_identity ≠ 2) ∧
    (∃ (s : State) (h : DoeHeader), s.powered = true ∧ h.code.toNat = doeRATCHETS ∧ h.length.toNat = 0 ∧ s.get F.KEEP_STATUS_identity ≠ 2) ∧
    (∃ (s : State) (h : DoeHeader), s.powered = true ∧ h.code.toNat = doeGET_IDENTITY ∧ h.length.toNat ≠ 0) ∧
    (∃ (s : State) (h : DoeHeader), s.powered = true ∧ h.code.toNat = doeATTEST ∧ h.length.toNat ≠ 32) ∧
    (∃ (s : State) (h : DoeHeader), s.powered = true ∧ h.code.toNat = doeGET_MEASUREMENTS ∧ h.length.toNat = 0 ∧ s.get F.KEEP_STATUS_identity = 2) ∧
    (∃ (s : State) (h : DoeHeader), s.powered = true ∧ h.code.toNat ≠ doeGET_IDENTITY) :=
  ⟨⟨upWith [], ({ code := BitVec.ofNat 16 doeGET_IDENTITY, tag := 1, length := 0 } : DoeHeader), by decide +kernel⟩,
   ⟨upWith [], ({ code := BitVec.ofNat 16 doeGET_MEASUREMENTS, tag := 1, length := 0 } : DoeHeader), by decide +kernel⟩,
   ⟨upWith [], ({ code := BitVec.ofNat 16 doeATTEST, tag := 7, length := 32 } : DoeHeader), by decide +kernel⟩,
   ⟨upWith [], ({ code := BitVec.ofNat 16 doeRATCHETS, tag := 1, length := 0 } : DoeHeader), by decide +kernel⟩,
   ⟨upWith [], ({ code := BitVec.ofNat 16 doeGET_IDENTITY, tag := 7, length := 1 } : DoeHeader), by decide +kernel⟩,
   ⟨upWith [], ({ code := BitVec.ofNat 16 doeATTEST, tag := 7, length := 31 } : DoeHeader), by decide +kernel⟩,
   ⟨upWith [(F.KEEP_STATUS_identity, 2)], ({ code := BitVec.ofNat 16 doeGET_MEASUREMENTS, tag := 1, length := 0 } : DoeHeader), by decide +kernel⟩,
   ⟨upWith [], ({ code := 65535, tag := 1, length := 0 } : DoeHeader), by decide +kernel⟩⟩

theorem witness_OwnershipChanges :
    (∃ (s : State) (h : DoeHeader), s.powered = true ∧ h.code.toNat = doeCHALLENGE ∧ h.length.toNat = 0 ∧ s.get F.KEEP_STATUS_identity ≠ 2) ∧
    (∃ (s : State) (i : Port) (h : DoeHeader), s.powered = true ∧ h.code.toNat = doePROVE ∧ h.length.toNat = 4627 ∧ s.get F.KEEP_STATUS_identity ≠ 2 ∧
        tfind s.boot.challenge i ≠ none ∧ s.keep.owner ≠ none) ∧
    (∃ (s : State) (i : Port) (h : DoeHeader) (ok : Bool), s.powered = true ∧ h.code.toNat = doePROVE ∧ h.length.toNat = 4627 ∧ s.get F.KEEP_STATUS_identity ≠ 2 ∧
        (tfind s.boot.challenge i = none ∨ ok = false ∨ s.keep.owner = none)) ∧
    (∃ (s : State) (i : Port) (h : DoeHeader) (signers : List (BitVec 512)), s.powered = true ∧
        h.code.toNat = doeCLAIM ∧ h.length.toNat = ownerLen true signers.length 1 ∧ s.get F.KEEP_STATUS_identity ≠ 2 ∧ 1 ≤ signers.length ∧ signers.length ≤ 4 ∧
        s.keep.owner = none ∧ (s.privileged i = true ∨ s.get F.ZLD_ACTIVE_factory_structure = 1) ∧ tfind s.boot.challenge i ≠ none ∧
        s.keep.ownerLeft ≠ 0) ∧
    (∃ (s : State) (i : Port) (ok : Bool), s.powered = true ∧
        (s.keep.owner ≠ none ∨ tfind s.boot.challenge i = none ∨ ok = false ∨ s.keep.ownerLeft = 0)) ∧
    (∃ (s : State) (i : Port) (h : DoeHeader) (signers : List (BitVec 512)), s.powered = true ∧
        h.code.toNat = doeTRANSFER ∧ h.length.toNat = ownerLen true signers.length 2 ∧ s.get F.KEEP_STATUS_identity ≠ 2 ∧ 1 ≤ signers.length ∧ signers.length ≤ 4 ∧
        s.keep.owner ≠ none ∧ tfind s.boot.challenge i ≠ none ∧ s.keep.ownerLeft ≠ 0) ∧
    (∃ (s : State) (i : Port) (a : Bool) (b : Bool), s.powered = true ∧
        (s.keep.owner = none ∨ tfind s.boot.challenge i = none ∨ a = false ∨ b = false ∨ s.keep.ownerLeft = 0)) ∧
    (∃ (s : State) (i : Port) (h : DoeHeader) (signers : List (BitVec 512)) (o : OwnerRec), s.powered = true ∧
        h.code.toNat = doeSIGNERS ∧ h.length.toNat = ownerLen false signers.length 1 ∧ s.get F.KEEP_STATUS_identity ≠ 2 ∧ 1 ≤ signers.length ∧ signers.length ≤ 4 ∧
        s.keep.owner = some o ∧ tfind s.boot.challenge i ≠ none) :=
  ⟨⟨upWith [], ({ code := BitVec.ofNat 16 doeCHALLENGE, tag := 1, length := 0 } : DoeHeader), by decide +kernel⟩,
   ⟨{ (upWith []) with boot := { State.reset.boot with challenge := [(0, 9)] }, keep := { State.reset.keep with owner := some { key := 1, signers := [5] } } },
       0, ({ code := BitVec.ofNat 16 doePROVE, tag := 7, length := 4627 } : DoeHeader), by decide +kernel⟩,
   ⟨{ (upWith []) with keep := { State.reset.keep with owner := some { key := 1, signers := [5] } } }, 0,
       ({ code := BitVec.ofNat 16 doePROVE, tag := 7, length := 4627 } : DoeHeader), true, by decide +kernel⟩,
   ⟨{ (upWith []) with boot := { State.reset.boot with challenge := [(0, 9)] } }, 0,
       ({ code := BitVec.ofNat 16 doeCLAIM, tag := 7, length := BitVec.ofNat 16 (ownerLen true ([1, 2, 3, 4]).length 1) } : DoeHeader), [1, 2, 3, 4], by decide +kernel⟩,
   ⟨{ (upWith []) with boot := { State.reset.boot with challenge := [(0, 9)] }, keep := { State.reset.keep with owner := some { key := 1, signers := [5] } } },
       0, false, by decide +kernel⟩,
   ⟨{ (upWith []) with boot := { State.reset.boot with challenge := [(0, 9)] }, keep := { State.reset.keep with owner := some { key := 1, signers := [5] } } },
       0, ({ code := BitVec.ofNat 16 doeTRANSFER, tag := 7, length := BitVec.ofNat 16 (ownerLen true ([6]).length 2) } : DoeHeader), [6], by decide +kernel⟩,
   ⟨{ (upWith []) with boot := { State.reset.boot with challenge := [(0, 9)] }, keep := { State.reset.keep with owner := some { key := 1, signers := [5] } } },
       0, true, false, by decide +kernel⟩,
   ⟨{ (upWith []) with boot := { State.reset.boot with challenge := [(0, 9)] }, keep := { State.reset.keep with owner := some { key := 1, signers := [5] } } },
       0, ({ code := BitVec.ofNat 16 doeSIGNERS, tag := 7, length := BitVec.ofNat 16 (ownerLen false ([6]).length 1) } : DoeHeader), [6],
       ({ key := 1, signers := [5] } : OwnerRec), by decide +kernel⟩⟩

theorem witness_SlackAndPlan :
    (∃ (s : State) (ticks : List (List (BitVec 12))) (counts : List (List Nat)) (c : Nat) (p : BitVec 12) (n : Nat), s.powered = true ∧
        s.keep.baseline = none ∧ c < s.coreCount ∧ ticks.getD c [] = [p] ∧ counts.getD c [] = [n] ∧ n ≠ 0 ∧
        (p, n) ∈ (ticks.getD c []).zip (counts.getD c [])) ∧
    (∃ (s : State), s.powered = true ∧ s.keep.baseline ≠ none) ∧
    (∃ (s : State) (c : CoreId), s.powered = true ∧ s.coreRole c ≠ coreABSENT ∧ s.coreRole c ≠ coreFAILED ∧
        (s.get (F.CORE_STATUS_in_partition c) = 0 ∨ s.get (F.CORE_STATUS_paced c) = 1)) ∧
    (∃ (s : State) (i : Port) (m : BitVec 11), s.powered = true ∧ s.privileged i = true ∧ s.ageing = true ∧ m.toNat ≠ 0 ∧ m.toNat ≤ 1440) ∧
    (∃ (s : State) (i : Port) (m : BitVec 11), s.powered = true ∧ s.privileged i = true ∧ s.ageing = true ∧
        (m.toNat = 0 ∨ 1440 < m.toNat)) ∧
    (∃ (s : State) (i : Port), s.powered = true ∧ s.privileged i = false) :=
  ⟨⟨upWith [], [[990]], [[7]], 0, 990, 7, by decide +kernel⟩,
   ⟨{ upWith [] with keep := { State.reset.keep with baseline := some ⟨[], [], [], []⟩ } }, by decide +kernel⟩,
   ⟨upWith [(F.CORE_STATUS_in_partition 0, 0), (F.CORE_ID_role 0, coreACTIVE)], 0, by decide +kernel⟩,
   ⟨upWith [(F.PACE_STATUS_upkeep_mode, upkeepBOTH)], 0, 1440, by decide +kernel⟩,
   ⟨upWith [(F.PACE_STATUS_upkeep_mode, upkeepAGE)], 0, 1441, by decide +kernel⟩,
   ⟨upWith [], 1, by decide +kernel⟩⟩

theorem witness_FirmwareHandover :
    (∃ (s : State) (i : Port), s.powered = true ∧ s.privileged i = true ∧ s.anyUpkeep = true ∧
        (s.hubfw = hfIDLE ∨ s.hubfw = hfVERIFIED ∨ s.hubfw = hfFAILED)) ∧
    (∃ (s : State) (i : Port), s.powered = true ∧ (s.privileged i = false ∨ s.anyUpkeep = false)) ∧
    (∃ (s : State), s.powered = true ∧ s.hubfw ≠ hfLOADING) ∧
    (∃ (s : State) (i : Port), s.powered = true ∧ s.privileged i = true ∧ s.liveUpkeep = true ∧ s.hubfw = hfVERIFIED) ∧
    (∃ (s : State) (i : Port), s.powered = true ∧ (s.privileged i = false ∨ s.liveUpkeep = false ∨ s.hubfw ≠ hfVERIFIED)) ∧
    (∃ (s : State), s.powered = true ∧ s.hubfw = hfHANDED) ∧
    (∃ (s : State) (i : Port), s.powered = true ∧ s.privileged i = true ∧ s.get F.PACE_HUBFW_STATUS_trial = 1) ∧
    (∃ (s : State) (i : Port), s.powered = true ∧ s.privileged i = true ∧ s.hubfw = hfLOADING) ∧
    (∃ (s : State) (i : Port), s.powered = true ∧ s.privileged i = true ∧ (s.hubfw = hfVERIFIED ∨ s.hubfw = hfHANDED)) ∧
    (∃ (s : State), s.powered = true ∧ s.hubfw = hfSTANDBY) :=
  ⟨⟨upWith [(F.PACE_HUBFW_STATUS_state, hfIDLE), (F.PACE_STATUS_upkeep_mode, 1)], 0, by decide +kernel⟩,
   ⟨upWith [], 0, by decide +kernel⟩,
   ⟨upWith [], by decide +kernel⟩,
   ⟨upWith [(F.PACE_HUBFW_STATUS_state, hfVERIFIED), (F.ZLD_ACTIVE_upkeep_mode, upkeepLIVE)], 0, by decide +kernel⟩,
   ⟨upWith [], 0, by decide +kernel⟩,
   ⟨upWith [(F.PACE_HUBFW_STATUS_state, hfHANDED)], by decide +kernel⟩,
   ⟨upWith [(F.PACE_HUBFW_STATUS_trial, 1)], 0, by decide +kernel⟩,
   ⟨upWith [(F.PACE_HUBFW_STATUS_state, hfLOADING)], 0, by decide +kernel⟩,
   ⟨upWith [(F.PACE_HUBFW_STATUS_state, hfVERIFIED)], 0, by decide +kernel⟩,
   ⟨upWith [(F.PACE_HUBFW_STATUS_state, hfSTANDBY)], by decide +kernel⟩⟩

theorem witness_JobCommands :
    (∃ (s : State) (i : Port) (p : Part) (t : BitVec 8) (tm : TemplateCfg) (j : Nat), s.powered = true ∧ s.routeRight i p rcADMIT = true ∧
        s.templateAt p (tget 0 s.route.gens p) t.toNat = some tm ∧ (upTo 256).find? (fun k => (s.job? k).isNone) = some j ∧
        s.get (F.ROUTE_PART_over_quota p) = 0 ∧ s.get (F.ROUTE_PAGES_held p) + tm.pages ≤ s.get (F.ROUTE_QUOTA_pages p) ∧
        (((s.part p).criticality = critBESTEFFORT ∨ (s.fitPlan s.landing [(p.val, j,
        t.toNat)]).any (fun e => e.1 == p.val && e.2.1) = true)) ∧ s.routeArg i % 1024 ≠ 0) ∧
    (∃ (s : State) (i : Port) (p : Part) (j : BitVec 8) (b : Job), s.powered = true ∧ s.routeRight i p rcRETIRE = true ∧
        s.job? j.toNat = some b ∧ b.part = p.val) ∧
    (∃ (s : State) (i : Port) (p : Part) (j : BitVec 8) (b : Job), s.powered = true ∧ s.routeRight i p rcSETWEIGHT = true ∧
        s.job? j.toNat = some b ∧ b.part = p.val ∧ s.routeArg i % 1024 ≠ 0) ∧
    (∃ (s : State) (i : Port) (p : Part) (j : BitVec 8) (b : Job), s.powered = true ∧ s.routeRight i p rcSOLO = true ∧
        s.job? j.toNat = some b ∧ b.part = p.val ∧ ((s.part p).criticality = critBESTEFFORT ∨ s.soloFits s.landing p j.toNat = true)) ∧
    (∃ (s : State) (i : Port) (p : Part), s.powered = true ∧ s.routeRight i p rcADMIT = false) ∧
    (∃ (s : State) (i : Port) (p : Part), s.powered = true ∧ s.routeRight i p rcRETIRE = false) ∧
    (∃ (s : State) (i : Port) (p : Part), s.powered = true ∧ s.routeRight i p rcSETWEIGHT = false) ∧
    (∃ (s : State) (i : Port) (p : Part), s.powered = true ∧ s.routeRight i p rcSOLO = false) ∧
    (∃ (s : State) (i : Port) (p : Part) (j : BitVec 8), s.powered = true ∧ s.routeRight i p rcRETIRE = true ∧ ((∀ b,
        s.job? j.toNat = some b → b.part ≠ p.val))) :=
  ⟨⟨{ (upWith [(F.ROUTE_PART_over_quota 1, 0), (F.ROUTE_CMD_ARG0_value 0, 5)]) with cfg := { upReset.cfg with programs := [(1, { program0 with templates := [template0] })] } },
      0, 1, 0, template0, 0, by decide +kernel⟩,
   ⟨{ (upWith []) with route := { State.reset.route with jobs := [(3, job00)] } }, 1, 1, 3, job00, by decide +kernel⟩,
   ⟨{ (upWith [(F.ROUTE_CMD_ARG0_value 0, 1023)]) with route := { State.reset.route with jobs := [(3, job00)] } }, 0, 1, 3, job00,
       by decide +kernel⟩,
   ⟨{ (upWith []) with route := { State.reset.route with jobs := [(3, job00)] }, cfg := { upReset.cfg with programs := [(1, { program0 with templates := [template0] })] } },
       0, 1, 3, job00, by decide +kernel⟩,
   ⟨upWith [], 2, 1, by decide +kernel⟩,
   ⟨upWith [], 2, 1, by decide +kernel⟩,
   ⟨upWith [], 2, 1, by decide +kernel⟩,
   ⟨upWith [], 2, 1, by decide +kernel⟩,
   ⟨{ (upWith []) with route := { State.reset.route with jobs := [(3, job00)] } }, 0, 2, 3, by decide +kernel⟩⟩

theorem witness_ShareCuts :
    (∃ (s : State) (i : Port) (p : Part), s.powered = true ∧ s.routeRight i p rcQUOTA = true ∧
        s.get (F.ROUTE_CMD_ARG0_value i) ≤ s.get (F.ROUTE_QUOTA_LIMIT_pages p)) ∧
    (∃ (s : State) (i : Port) (p : Part), s.powered = true ∧ s.routeRight i p rcQUOTA = true ∧
        s.get (F.ROUTE_QUOTA_LIMIT_pages p) < s.get (F.ROUTE_CMD_ARG0_value i)) ∧
    (∃ (s : State) (i : Port) (p : Part), s.powered = true ∧ s.routeRight i p rcBANDWIDTH = true ∧
        s.get (F.ROUTE_CMD_ARG0_value i) ≤ (s.part p).bandwidth ∧ s.get (F.ROUTE_BW_need p) ≤ s.get (F.ROUTE_CMD_ARG0_value i)) ∧
    (∃ (s : State) (i : Port) (p : Part), s.powered = true ∧ s.routeRight i p rcBANDWIDTH = true ∧
        ((s.part p).bandwidth < s.get (F.ROUTE_CMD_ARG0_value i) ∨ s.get (F.ROUTE_CMD_ARG0_value i) < s.get (F.ROUTE_BW_need p))) ∧
    (∃ (s : State) (i : Port) (p : Part) (l : BitVec 8), s.powered = true ∧ s.routeRight i p rcWINDOW = true ∧
        s.windowRefusal s.landing p l.toNat (s.routeArg i) (s.get (F.ROUTE_CMD_ARG1_start i)) (s.get (F.ROUTE_CMD_ARG2_length i)) = none) ∧
    (∃ (s : State) (i : Port) (p : Part) (l : BitVec 8) (r : Nat), s.powered = true ∧ s.routeRight i p rcWINDOW = true ∧
        s.windowRefusal s.landing p l.toNat (s.routeArg i) (s.get (F.ROUTE_CMD_ARG1_start i)) (s.get (F.ROUTE_CMD_ARG2_length i)) = some r) ∧
    (∃ (s : State) (p : Part) (l : Nat) (w : Nat), (4 ≤ w ∨ (s.part p).holds l = false)) ∧
    (∃ (s : State) (i : Port) (p : Part), s.powered = true ∧ s.routeRight i p rcQUOTA = false) ∧
    (∃ (s : State) (i : Port) (p : Part), s.powered = true ∧ s.routeRight i p rcBANDWIDTH = false) ∧
    (∃ (s : State) (i : Port) (p : Part), s.powered = true ∧ s.routeRight i p rcWINDOW = false) :=
  ⟨⟨upWith [(F.ROUTE_CMD_ARG0_value 0, 16), (F.ROUTE_QUOTA_LIMIT_pages 1, 16)], 0, 1, by decide +kernel⟩,
   ⟨upWith [(F.ROUTE_CMD_ARG0_value 0, 17), (F.ROUTE_QUOTA_LIMIT_pages 1, 16)], 0, 1, by decide +kernel⟩,
   ⟨upWith [(F.ROUTE_CMD_ARG0_value 0, 100), (F.ROUTE_BW_need 1, 100)], 0, 1, by decide +kernel⟩,
   ⟨upWith [(F.ROUTE_CMD_ARG0_value 0, 101)], 0, 1, by decide +kernel⟩,
   ⟨{ (upWith [(F.ROUTE_CMD_ARG1_start 0, 0), (F.ROUTE_CMD_ARG2_length 0, 1000)]) with cfg := { upReset.cfg with structureSec := { upReset.cfg.structureSec with parts := [noPart, { noPart with defined := true, cores := 2, quota := 16, bandwidth := 100, criticality := critMISSION, port := 1, windows := [{ lcore := 1, index := 0, start := 0, length := 1000 }] }] } } },
       0, 1, 1, by decide +kernel⟩,
   ⟨{ (upWith []) with cfg := { upReset.cfg with structureSec := { upReset.cfg.structureSec with parts := [noPart, { noPart with defined := true, cores := 2, quota := 16, bandwidth := 100, criticality := critMISSION, port := 1, windows := [{ lcore := 1, index := 0, start := 0, length := 1000 }] }] } } },
       0, 1, 0, rrABOVE, by decide +kernel⟩,
   ⟨upWith [], 1, 0, 4, by decide +kernel⟩,
   ⟨upWith [], 2, 1, by decide +kernel⟩,
   ⟨upWith [], 2, 1, by decide +kernel⟩,
   ⟨upWith [], 2, 1, by decide +kernel⟩⟩

theorem witness_BuildsAndLegs :
    (∃ (s : State), s.powered = true ∧ s.route.buildFor ≤ s.period ∧ s.board.diesOff = false) ∧
    (∃ (s : State), s.powered = true ∧ (s.period < s.route.buildFor ∨ s.board.diesOff = true)) ∧
    (∃ (s : State), s.powered = true ∧ s.route.built = false ∧ s.period < s.route.buildFor) ∧
    (∃ (s : State), s.powered = true ∧ (s.route.built = true ∨ s.route.buildFor ≤ s.period)) ∧
    (∃ (s : State) (c : CoreId) (k : Fin 256) (l : Nat) (g : LegRun), s.powered = true ∧ s.coreRole c = coreACTIVE ∧ s.logicalOf c =
        some l ∧ (s.legsOn l)[k.val]? = some g ∧ (∃ q ∈ g.cores, q ≠ l ∧ q ∉ g.done)) ∧
    (∃ (s : State) (c : CoreId) (k : Fin 256) (l : Nat) (g : LegRun), s.powered = true ∧ s.coreRole c = coreACTIVE ∧ s.logicalOf c =
        some l ∧ (s.legsOn l)[k.val]? = some g ∧ ((∀ q ∈ g.cores, q = l ∨ q ∈ g.done))) ∧
    (∃ (s : State) (c : CoreId) (k : Fin 256), s.powered = true ∧ ((s.coreRole c ≠ coreACTIVE ∨ s.logicalOf c = none ∨ ∃ l,
        s.logicalOf c = some l ∧ (s.legsOn l)[k.val]? = none))) ∧
    (∃ (s : State) (p : Part) (g : Nat) (n : Nat), s.powered = true ∧ tfind s.zld.oldSince (oldKey p g) = some n ∧ n + 64 ≤
        s.period) ∧
    (∃ (s : State) (p : Part), s.powered = true ∧ (∀ g n, tfind s.zld.oldSince (oldKey p g) = some n → s.period < n + 64)) :=
  ⟨⟨upWith [], by decide +kernel⟩,
   ⟨{ (upWith []) with route := { State.reset.route with buildFor := 1 } }, by decide +kernel⟩,
   ⟨{ (upWith []) with route := { State.reset.route with buildFor := 1, built := false } }, by decide +kernel⟩,
   ⟨upWith [], by decide +kernel⟩,
   ⟨{ (upWith [(F.CORE_ID_role 1, coreACTIVE), (F.CORE_ID_logical 1, 1)]) with route := { State.reset.route with legs := [{ leg00 with cores := [1, 2] }] } },
       1, 0, 1, ({ leg00 with cores := [1, 2] } : LegRun), by decide +kernel⟩,
   ⟨{ (upWith [(F.CORE_ID_role 1, coreACTIVE), (F.CORE_ID_logical 1, 1)]) with route := { State.reset.route with legs := [{ leg00 with cores := [1, 2], done := [2] }] } },
       1, 0, 1, ({ leg00 with cores := [1, 2], done := [2] } : LegRun), by decide +kernel⟩,
   ⟨upWith [(F.CORE_ID_logical 1, 1), (F.CORE_ID_role 1, coreACTIVE)], 1, 0, by decide +kernel⟩,
   ⟨{ (upWith [(F.ROUTE_PERIOD_LO_number, 68)]) with zld := { State.reset.zld with oldSince := [(oldKey 1 3, 4)] } }, 1, 3, 4,
       by decide +kernel⟩,
   ⟨upWith [], 1, by decide +kernel, fun _ _ h => nomatch h⟩⟩

theorem witness_BoundaryAndCores :
    (∃ (s : State) (x : PeriodIn) (l : Fin 32) (f : Fin 5) (p : Nat), s.powered = true ∧ s.route.built = true ∧ s.route.buildFor =
        s.period + 1 ∧ (l, f) ∈ x.bad ∧ s.partOf l = some p ∧ s.isSafetyPart p = true) ∧
    (∃ (s : State) (c : CoreId), s.powered = true ∧ s.board.diesOff = false ∧ s.coreRole c ≠ coreABSENT ∧ s.coreRole c ≠ coreFAILED) ∧
    (∃ (s : State), s.powered = true ∧ s.board.diesOff = true) ∧
    (∃ (s : State) (i : Port) (c : CoreId), s.powered = true ∧ s.board.diesOff = false ∧ c.val < s.coreCount ∧ s.privileged i = true
        ∧ s.coreRole c = coreACTIVE ∧ s.spareOf (c.val / 5) ≠ none ∧ s.liveDetours = true) ∧
    (∃ (s : State) (i : Port) (c : CoreId), s.powered = true ∧ c.val < s.coreCount ∧ s.privileged i = false) ∧
    (∃ (s : State) (i : Port) (c : CoreId), s.powered = true ∧ c.val < s.coreCount ∧ s.privileged i = true ∧ (s.coreRole c ≠
        coreACTIVE ∨ s.spareOf (c.val / 5) = none ∨ s.liveDetours = false)) ∧
    (∃ (s : State) (i : Port) (c : CoreId), s.powered = true ∧ s.coreCount ≤ c.val ∧ s.privileged i = true) ∧
    (∃ (s : State) (i : Port) (c : CoreId), s.powered = true ∧ c.val < s.coreCount ∧ s.role i = roleSERVICE ∧ s.coreRole c =
        coreFAILED) ∧
    (∃ (s : State) (i : Port) (c : CoreId), s.powered = true ∧ c.val < s.coreCount ∧ s.role i ≠ roleSERVICE) :=
  ⟨⟨{ (upWith []) with route := { State.reset.route with buildFor := 1 } },
       ({ ticks := [], outside := [], overrun := [], bad := [(0, 2)], full := [] } : PeriodIn), 0, 2, 0, by decide +kernel⟩,
   ⟨upWith [(F.CORE_ID_role 0, coreACTIVE)], 0, by decide +kernel⟩,
   ⟨{ (upWith []) with board := { State.reset.board with diesOff := true } }, by decide +kernel⟩,
   ⟨upWith [(F.CORE_ID_role 0, coreACTIVE), (F.CORE_CLUSTER_spare_left 0, 1), (F.CORE_CLUSTER_spare_index 0, 4), (F.CORE_ID_role 4,
       coreSPARE), (F.PACE_STATUS_upkeep_mode, upkeepLIVE)], 0, 0, by decide +kernel⟩,
   ⟨upWith [], 1, 39, by decide +kernel⟩,
   ⟨upWith [(F.CORE_ID_role 39, coreSPARE)], 0, 39, by decide +kernel⟩,
   ⟨{ (upWith []) with variant := .f9620 }, 0, 39, by decide +kernel⟩,
   ⟨upWith [(F.CORE_ID_role 0, coreFAILED)], 3, 0, by decide +kernel⟩,
   ⟨upWith [], 0, 0, by decide +kernel⟩⟩

theorem witness_ScalarIntegers :
    (∃ (s : State) (x : Issue), s.ScalarReady x 0x01) ∧
    (∃ (s : State) (x : Issue), s.ScalarReady x 0x02) ∧
    (∃ (s : State) (x : Issue), s.ScalarReady x 0x03) ∧
    (∃ (s : State) (x : Issue), s.ScalarReady x 0x04) ∧
    (∃ (s : State) (x : Issue), s.ScalarReady x 0x05) ∧
    (∃ (s : State) (x : Issue), s.ScalarReady x 0x06) ∧
    (∃ (s : State) (x : Issue), s.ScalarReady x 0x07) ∧
    (∃ (s : State) (x : Issue), s.ScalarReady x 0x08) ∧
    (∃ (s : State) (x : Issue), s.ScalarReady x 0x09) ∧
    (∃ (s : State) (x : Issue), s.ScalarReady x 0x0A) ∧
    (∃ (s : State) (x : Issue), s.ScalarReady x 0x0B) ∧
    (∃ (s : State) (x : Issue), s.ScalarReady x 0x0C) ∧
    (∃ (s : State) (x : Issue), s.ScalarReady x 0x0D) ∧
    (∃ (s : State) (x : Issue) (g : LegRun), (s.ScalarReady x 0x0C ∨ s.ScalarReady x 0x0D) ∧ s.rs2 x = 0 ∧ wWait x.word = 0 ∧
        wSignal x.word = 0 ∧ s.legIn x.core grpSCALAR = some g ∧ s.leg? g.id = some g) :=
  ⟨⟨{ (upWith [(F.CORE_ID_role 0, coreACTIVE)]) with exec := [(0, { coreExec0 with sregs := [(1, 7), (2, 3), (3, 0)], tokens := 1 })] },
      (wordAt 0x5 0x01 [(68, 1), (62, 2), (74, 3), (88, 1), (80, 6)]),
      scalarReady_of (by decide +kernel)⟩,
   ⟨{ (upWith [(F.CORE_ID_role 0, coreACTIVE)]) with exec := [(0, { coreExec0 with sregs := [(1, 7), (2, 3), (3, 0)], tokens := 1 })] },
       (wordAt 0x5 0x02 [(68, 1), (62, 2), (74, 3), (88, 1), (80, 6)]),
       scalarReady_of (by decide +kernel)⟩,
   ⟨{ (upWith [(F.CORE_ID_role 0, coreACTIVE)]) with exec := [(0, { coreExec0 with sregs := [(1, 7), (2, 3), (3, 0)], tokens := 1 })] },
       (wordAt 0x5 0x03 [(68, 1), (62, 2), (74, 3), (88, 1), (80, 6)]),
       scalarReady_of (by decide +kernel)⟩,
   ⟨{ (upWith [(F.CORE_ID_role 0, coreACTIVE)]) with exec := [(0, { coreExec0 with sregs := [(1, 7), (2, 3), (3, 0)], tokens := 1 })] },
       (wordAt 0x5 0x04 [(68, 1), (62, 2), (74, 3), (88, 1), (80, 6)]),
       scalarReady_of (by decide +kernel)⟩,
   ⟨{ (upWith [(F.CORE_ID_role 0, coreACTIVE)]) with exec := [(0, { coreExec0 with sregs := [(1, 7), (2, 3), (3, 0)], tokens := 1 })] },
       (wordAt 0x5 0x05 [(68, 1), (62, 2), (74, 3), (88, 1), (80, 6)]),
       scalarReady_of (by decide +kernel)⟩,
   ⟨{ (upWith [(F.CORE_ID_role 0, coreACTIVE)]) with exec := [(0, { coreExec0 with sregs := [(1, 7), (2, 3), (3, 0)], tokens := 1 })] },
       (wordAt 0x5 0x06 [(68, 1), (62, 2), (74, 3), (88, 1), (80, 6)]),
       scalarReady_of (by decide +kernel)⟩,
   ⟨{ (upWith [(F.CORE_ID_role 0, coreACTIVE)]) with exec := [(0, { coreExec0 with sregs := [(1, 7), (2, 3), (3, 0)], tokens := 1 })] },
       (wordAt 0x5 0x07 [(68, 1), (62, 2), (74, 3), (88, 1), (80, 6)]),
       scalarReady_of (by decide +kernel)⟩,
   ⟨{ (upWith [(F.CORE_ID_role 0, coreACTIVE)]) with exec := [(0, { coreExec0 with sregs := [(1, 7), (2, 3), (3, 0)], tokens := 1 })] },
       (wordAt 0x5 0x08 [(68, 1), (62, 2), (74, 3), (88, 1), (80, 6)]),
       scalarReady_of (by decide +kernel)⟩,
   ⟨{ (upWith [(F.CORE_ID_role 0, coreACTIVE)]) with exec := [(0, { coreExec0 with sregs := [(1, 7), (2, 3), (3, 0)], tokens := 1 })] },
       (wordAt 0x5 0x09 [(68, 1), (62, 2), (74, 3), (88, 1), (80, 6)]),
       scalarReady_of (by decide +kernel)⟩,
   ⟨{ (upWith [(F.CORE_ID_role 0, coreACTIVE)]) with exec := [(0, { coreExec0 with sregs := [(1, 7), (2, 3), (3, 0)], tokens := 1 })] },
       (wordAt 0x5 0x0A [(68, 1), (62, 2), (74, 3), (88, 1), (80, 6)]),
       scalarReady_of (by decide +kernel)⟩,
   ⟨{ (upWith [(F.CORE_ID_role 0, coreACTIVE)]) with exec := [(0, { coreExec0 with sregs := [(1, 7), (2, 3), (3, 0)], tokens := 1 })] },
       (wordAt 0x5 0x0B [(68, 1), (62, 2), (74, 3), (88, 1), (80, 6)]),
       scalarReady_of (by decide +kernel)⟩,
   ⟨{ (upWith [(F.CORE_ID_role 0, coreACTIVE)]) with exec := [(0, { coreExec0 with sregs := [(1, 7), (2, 3), (3, 0)], tokens := 1 })] },
       (wordAt 0x5 0x0C [(68, 1), (62, 2), (74, 3), (88, 1), (80, 6)]),
       scalarReady_of (by decide +kernel)⟩,
   ⟨{ (upWith [(F.CORE_ID_role 0, coreACTIVE)]) with exec := [(0, { coreExec0 with sregs := [(1, 7), (2, 3), (3, 0)], tokens := 1 })] },
       (wordAt 0x5 0x0D [(68, 1), (62, 2), (74, 3), (88, 1), (80, 6)]),
       scalarReady_of (by decide +kernel)⟩,
   ⟨{ (upWith [(F.CORE_ID_role 0, coreACTIVE), (F.CORE_ID_logical 0, 1)]) with exec := [(0, { coreExec0 with sregs := [(1, 7)] })], route := { State.reset.route with legs := [{ leg00 with part := 1, job := 3, cores := [1] }], jobs := [(3, job00)] }, cfg := { upReset.cfg with programs := [(1, { program0 with templates := [{ template0 with legs := [legCfg0] }] })] } },
       (wordAt 0x5 0x0C [(68, 1), (62, 2), (74, 3)]),
       ({ leg00 with part := 1, job := 3, cores := [1] } : LegRun), Or.inl (scalarReady_of (by decide +kernel)), by decide +kernel,
       by decide +kernel, by decide +kernel, by decide +kernel, by decide +kernel⟩⟩

theorem witness_ScalarFloatsAndMemory :
    (∃ (s : State) (x : Issue), s.ScalarReady x 0x10) ∧
    (∃ (s : State) (x : Issue), s.ScalarReady x 0x11) ∧
    (∃ (s : State) (x : Issue), s.ScalarReady x 0x12) ∧
    (∃ (s : State) (x : Issue), s.ScalarReady x 0x13) ∧
    (∃ (s : State) (x : Issue), s.ScalarReady x 0x14) ∧
    (∃ (s : State) (x : Issue), s.ScalarReady x 0x15) ∧
    (∃ (s : State) (x : Issue), s.ScalarReady x 0x16 ∧ wFmtA x.word = fmtI32 ∧ wFmtD x.word = fmtFP32) ∧
    (∃ (s : State) (x : Issue), s.ScalarReady x 0x16 ∧ wFmtA x.word = fmtFP32 ∧ wFmtD x.word = fmtI32) ∧
    (∃ (s : State) (x : Issue), s.ScalarReady x 0x16 ∧ wFmtA x.word = fmtNONE ∧ wFmtD x.word = fmtFP32) ∧
    (∃ (s : State) (x : Issue), s.ScalarReady x 0x16 ∧ wFmtA x.word = fmtFP32 ∧ wFmtD x.word = fmtNONE) ∧
    (∃ (s : State) (x : Issue), s.ScalarReady x 0x0E ∧ s.clean) ∧
    (∃ (s : State) (x : Issue), s.ScalarReady x 0x0F) :=
  ⟨⟨{ (upWith [(F.CORE_ID_role 0, coreACTIVE)]) with exec := [(0, { coreExec0 with sregs := [(1, 0x3F800000), (2, 0x40490FDB), (3, 0xC0000000)], tokens := 1 })] },
      (wordAt 0x5 0x10 [(68, 1), (62, 2), (74, 3), (88, 1), (80, 6)]),
      scalarReady_of (by decide +kernel)⟩,
   ⟨{ (upWith [(F.CORE_ID_role 0, coreACTIVE)]) with exec := [(0, { coreExec0 with sregs := [(1, 0x3F800000), (2, 0x40490FDB), (3, 0xC0000000)], tokens := 1 })] },
       (wordAt 0x5 0x11 [(68, 1), (62, 2), (74, 3), (88, 1), (80, 6)]),
       scalarReady_of (by decide +kernel)⟩,
   ⟨{ (upWith [(F.CORE_ID_role 0, coreACTIVE)]) with exec := [(0, { coreExec0 with sregs := [(1, 0x3F800000), (2, 0x40490FDB), (3, 0xC0000000)], tokens := 1 })] },
       (wordAt 0x5 0x12 [(68, 1), (62, 2), (74, 3), (88, 1), (80, 6)]),
       scalarReady_of (by decide +kernel)⟩,
   ⟨{ (upWith [(F.CORE_ID_role 0, coreACTIVE)]) with exec := [(0, { coreExec0 with sregs := [(1, 0x3F800000), (2, 0x40490FDB), (3, 0xC0000000)], tokens := 1 })] },
       (wordAt 0x5 0x13 [(68, 1), (62, 2), (74, 3), (88, 1), (80, 6)]),
       scalarReady_of (by decide +kernel)⟩,
   ⟨{ (upWith [(F.CORE_ID_role 0, coreACTIVE)]) with exec := [(0, { coreExec0 with sregs := [(1, 0x3F800000), (2, 0x40490FDB), (3, 0xC0000000)], tokens := 1 })] },
       (wordAt 0x5 0x14 [(68, 1), (62, 2), (74, 3), (88, 1), (80, 6)]),
       scalarReady_of (by decide +kernel)⟩,
   ⟨{ (upWith [(F.CORE_ID_role 0, coreACTIVE)]) with exec := [(0, { coreExec0 with sregs := [(1, 0x3F800000), (2, 0x40490FDB), (3, 0xC0000000)], tokens := 1 })] },
       (wordAt 0x5 0x15 [(68, 1), (62, 2), (74, 3), (88, 1), (80, 6)]),
       scalarReady_of (by decide +kernel)⟩,
   ⟨{ (upWith [(F.CORE_ID_role 0, coreACTIVE)]) with exec := [(0, { coreExec0 with sregs := [(1, 5), (2, 0), (3, 0)], tokens := 1 })] },
       (wordAt 0x5 0x16 [(68, 1), (62, 2), (74, 3), (108, 4), (100, 12), (97, 0)]),
       scalarReady_of (by decide +kernel), by decide +kernel, by decide +kernel⟩,
   ⟨{ (upWith [(F.CORE_ID_role 0, coreACTIVE)]) with exec := [(0, { coreExec0 with sregs := [(1, 0x3FC00000), (2, 0), (3, 0)], tokens := 1 })] },
       (wordAt 0x5 0x16 [(68, 1), (62, 2), (74, 3), (108, 12), (100, 4), (97, 0)]),
       scalarReady_of (by decide +kernel), by decide +kernel, by decide +kernel⟩,
   ⟨{ (upWith [(F.CORE_ID_role 0, coreACTIVE)]) with exec := [(0, { coreExec0 with sregs := [(1, 2 ^ 64 - 1), (2, 0), (3, 0)], tokens := 1 })] },
       (wordAt 0x5 0x16 [(68, 1), (62, 2), (74, 3), (108, 0), (100, 12), (97, 0)]),
       scalarReady_of (by decide +kernel), by decide +kernel, by decide +kernel⟩,
   ⟨{ (upWith [(F.CORE_ID_role 0, coreACTIVE)]) with exec := [(0, { coreExec0 with sregs := [(1, 0x3FC00000), (2, 0), (3, 0)], tokens := 1 })] },
       (wordAt 0x5 0x16 [(68, 1), (62, 2), (74, 3), (108, 12), (100, 0), (97, 0)]),
       scalarReady_of (by decide +kernel), by decide +kernel, by decide +kernel⟩,
   ⟨({ (upWith [(F.CORE_ID_role 0, coreACTIVE)]) with exec := [(0, { coreExec0 with sregs := [(1, 64), (2, 0), (3, 0)], tokens := 1 })] }).storeAll [(sramBase 0 + 64,
       [1, 2, 3, 4, 5, 6, 7, 8]), (sramBase 0, [255, 255])],
       (wordAt 0x5 0x0E [(68, 1), (74, 3), (0, 0)]), scalarReady_of (by decide +kernel),
       by unfold State.clean; decide +kernel⟩,
   ⟨{ (upWith [(F.CORE_ID_role 0, coreACTIVE)]) with exec := [(0, { coreExec0 with sregs := [(1, 64), (2, 0x1122334455667788), (3, 0)], tokens := 1 })] },
       (wordAt 0x5 0x0F [(68, 1), (62, 2), (0, 0), (80, 3)]),
       scalarReady_of (by decide +kernel)⟩⟩

theorem witness_ScalarControl :
    (∃ (s : State) (x : Issue), s.ScalarReady x 0x20 ∧ wImm32 x.word % 256 = 1) ∧
    (∃ (s : State) (x : Issue), s.ScalarReady x 0x20 ∧ wImm32 x.word % 256 = 3) ∧
    (∃ (s : State) (x : Issue), s.ScalarReady x 0x20 ∧ wImm32 x.word % 256 = 4) ∧
    (∃ (s : State) (x : Issue), s.ScalarReady x 0x20 ∧ wImm32 x.word % 256 = 5) ∧
    (∃ (s : State) (x : Issue), s.ScalarReady x 0x20 ∧ wImm32 x.word % 256 = 6) ∧
    (∃ (s : State) (x : Issue), s.ScalarReady x 0x20 ∧ wImm32 x.word % 256 = 2) ∧
    (∃ (s : State) (x : Issue), s.ScalarReady x 0x20 ∧ wImm32 x.word % 256 = 7) ∧
    (∃ (s : State) (x : Issue) (l : List LoopRun), s.Ready x 0x6 0x01 grpSCALAR ∧ s.legsApart ∧ l = (s.core x.core).loops.filter
        (fun e => e.has x.offset.toNat) ∧ l.length < 4) ∧
    (∃ (s : State) (x : Issue), s.Ready x 0x7 0x01 grpSCALAR ∧ s.localTokens x.core ∧ (∀ k ∈ tokensOf (wImm32 x.word), (s.core
        x.core).tokens.testBit k = true ∧ (wWait x.word).testBit k = false)) ∧
    (∃ (s : State) (x : Issue) (k : Nat), s.Ready x 0x7 0x01 grpSCALAR ∧ s.localTokens x.core ∧ k ∈ tokensOf (wImm32 x.word) ∧
        (s.core x.core).tokens.testBit k = false) ∧
    (∃ (s : State) (c : CoreId) (m : Nat) (id : Option Nat), s.powered = true ∧ s.localTokens c ∧ (s.core c).waiting = some (m, id)
        ∧ (∀ k ∈ tokensOf m, (s.core c).tokens.testBit k = true)) ∧
    (∃ (s : State) (c : CoreId), s.powered = true ∧ s.localTokens c ∧ ((∀ m id, (s.core c).waiting = some (m, id) → ∃ k ∈ tokensOf
        m, (s.core c).tokens.testBit k = false))) ∧
    (∃ (s : State) (c : CoreId) (m : Nat) (i : Nat) (k : Nat) (a : Nat) (g : LegRun), s.powered = true ∧ (s.core c).waiting = some
        (m, some i) ∧ s.leg? i = some g ∧ g.id = i ∧ k ∈ tokensOf m ∧ s.vergeSlot c k = some a ∧ s.tokState c k ≠ .ready) ∧
    (∃ (s : State) (x : Issue), s.Ready x 0x7 0x02 grpSCALAR ∧ s.legsApart ∧ s.localTokens x.core) ∧
    (∃ (s : State) (x : Issue) (k : Nat) (a : Nat) (g : Nat), s.Ready x 0x7 0x02 grpSCALAR ∧ s.legsApart ∧ wWait x.word = 0 ∧
        wSignal x.word = 0 ∧ k < 8 ∧ wImm32 x.word % 256 = 2 ^ k ∧ s.vergeSlot x.core k = some a ∧ g = s.postGen x.core k a ∧ g <
        65536) ∧
    (∃ (s : State) (x : Issue) (k : Nat) (a : Nat) (g : Nat), s.Ready x 0x7 0x01 grpSCALAR ∧ s.legsApart ∧ wWait x.word = 0 ∧
        wSignal x.word = 0 ∧ k < 8 ∧ wImm32 x.word % 256 = 2 ^ k ∧ s.vergeSlot x.core k = some a ∧ g = s.takeGen x.core k a ∧ s.rd
        (a + 2 * (g % 2)) 2 = g) ∧
    (∃ (s : State) (x : Issue), s.Ready x 0x0 (wOp x.word) x.group ∧ nopUnit x.group x.word = true ∧ s.legsApart ∧ s.localTokens x.core) ∧
    (∃ (s : State) (x : Issue) (n : Nat) (ss : Nat) (so : Nat) (ds : Nat) (dof : Nat), s.Ready x 0x8 (wOp x.word) grpTRANSFER ∧
        s.clean ∧ n = wCount x.word ∧ ss = wField x.word 77 3 ∧ so = wField x.word 48 29 ∧ ds = wField x.word 45 3 ∧ dof = wField x.word
        16 29 ∧ so + n ≤ s.spaceUnits x.core ss ∧ dof + n ≤ s.spaceUnits x.core ds) :=
  ⟨⟨upWith [(F.CORE_ID_role 0, coreACTIVE), (F.PERF_TICK_LO_ticks 0, 77), (F.PERF_TICK_HI_ticks 0, 5)], (wordAt 0x5 0x20 [(123, 1),
       (74, 2), (0, 1)]), scalarReady_of (by decide +kernel), by decide +kernel⟩,
   ⟨{ (upWith [(F.CORE_ID_role 0, coreACTIVE), (F.TIME_STATUS_valid, 1)]) with clk := { now := 12345, sec := 7, ns := 999, frac := 0, rest := 0 } },
       (wordAt 0x5 0x20 [(123, 1), (74, 2), (0, 3)]), scalarReady_of (by decide +kernel), by decide +kernel⟩,
   ⟨upWith [(F.CORE_ID_role 0, coreACTIVE), (F.PACE_MISS_count 0, 9)], (wordAt 0x5 0x20 [(123, 1), (74, 2), (0, 4)]), scalarReady_of
       (by decide +kernel), by decide +kernel⟩,
   ⟨upWith [(F.CORE_ID_role 0, coreACTIVE), (F.PACE_SLACK_slack 0, 0x812)], (wordAt 0x5 0x20 [(123, 1), (74, 2), (0, 5)]),
       scalarReady_of (by decide +kernel), by decide +kernel⟩,
   ⟨upWith [(F.CORE_ID_role 0, coreACTIVE), (F.PERF_COUNT_LO_count 0 3, 77), (F.PERF_COUNT_HI_count 0 3, 2)], (wordAt 0x5 0x20
       [(123, 1), (74, 2), (0, 774)]), scalarReady_of (by decide +kernel), by decide +kernel⟩,
   ⟨{ (upWith [(F.CORE_ID_role 0, coreACTIVE)]) with clk := { now := 12345, sec := 7, ns := 999, frac := 0, rest := 0 } }, (wordAt
       0x5 0x20 [(123, 1), (74, 2), (0, 2), (120, 1)]), scalarReady_of (by decide +kernel), by decide +kernel⟩,
   ⟨upWith [(F.CORE_ID_role 0, coreACTIVE)], (wordAt 0x5 0x20 [(123, 1), (74, 2), (0, 7)]), scalarReady_of (by decide +kernel),
       by decide +kernel⟩,
   ⟨{ (upWith [(F.CORE_ID_role 0, coreACTIVE)]) with exec := [(0, { coreExec0 with loops := [({ first := 0, body := 50, left := 2, words := [] } : LoopRun), { first := 5, body := 1, left := 1, words := [] }, { first := 0, body := 100, left := 3, words := [] }] })] },
       (wordAt 0x6 0x01 [(32, 5), (0, 10)]), _, ready_of (by decide +kernel), by unfold State.legsApart; decide +kernel, rfl,
       by decide +kernel⟩,
   ⟨{ (upWith [(F.CORE_ID_role 0, coreACTIVE)]) with exec := [(0, { coreExec0 with tokens := 11 })] }, (wordAt 0x7 0x01 [(0, 3),
       (80, 4), (88, 8)]), ready_of (by decide +kernel), localTokens_of rfl, by decide +kernel⟩,
   ⟨{ (upWith [(F.CORE_ID_role 0, coreACTIVE)]) with exec := [(0, { coreExec0 with tokens := 10 })] }, (wordAt 0x7 0x01 [(0, 3),
       (80, 4), (88, 8)]), 0, ready_of (by decide +kernel), localTokens_of rfl, by decide +kernel⟩,
   ⟨{ (upWith []) with exec := [(0, { coreExec0 with waiting := some (3 + 256 * 4, none), tokens := 7 })] }, 0, 3 + 256 * 4, none,
       by decide +kernel, localTokens_of (by decide +kernel), by decide +kernel, by decide +kernel⟩,
   ⟨{ (upWith []) with exec := [(0, { coreExec0 with waiting := some (3 + 256 * 4, none), tokens := 5 })] }, 0, by decide +kernel,
       localTokens_of (by decide +kernel), of_all_two (by decide +kernel)⟩,
   ⟨{ (upWith [(F.CORE_ID_logical 0, 1)]) with exec := [(0, { coreExec0 with waiting := some (32, some 1) })], route := { State.reset.route with legs := [{ leg00 with cores := [1] }], jobs := [(0, job00)] }, cfg := { upReset.cfg with programs := [(1, { program0 with templates := [{ template0 with legs := [{ legCfg0 with verges := [{ core := 0, token := 5, space := 0, offset := 16, buffers := [(0, 32, 4), (0, 64, 4)], producer := 0, boundary := 0, rows := 1 }] }] }] })] } },
       0, 32, 1, 5, sramBase 0 + 1024, ({ leg00 with cores := [1] } : LegRun), by decide +kernel⟩,
   ⟨{ (upWith [(F.CORE_ID_role 0, coreACTIVE)]) with exec := [(0, { coreExec0 with tokens := 8 })] }, (wordAt 0x7 0x02 [(0, 3), (80,
       4), (88, 8)]), ready_of (by decide +kernel), by unfold State.legsApart; decide +kernel, localTokens_of rfl⟩,
   ⟨{ (upWith [(F.CORE_ID_role 0, coreACTIVE), (F.CORE_ID_logical 0, 1)]) with route := { State.reset.route with legs := [{ leg00 with cores := [1] }], jobs := [(0, job00)], vergePut := [(sramBase 0 + 1024, 65535)] }, cfg := { upReset.cfg with programs := [(1, { program0 with templates := [{ template0 with legs := [{ legCfg0 with verges := [{ core := 0, token := 5, space := 0, offset := 16, buffers := [(0, 32, 4), (0, 64, 4)], producer := 0, boundary := 0, rows := 1 }] }] }] })] } },
       (wordAt 0x7 0x02 [(0, 32)]), 5, sramBase 0 + 1024, 65535, ready_of (by decide +kernel),
       by unfold State.legsApart; decide +kernel, by decide +kernel⟩,
   ⟨({ (upWith [(F.CORE_ID_role 0, coreACTIVE), (F.CORE_ID_logical 0, 1)]) with route := { State.reset.route with legs := [{ leg00 with cores := [1] }], jobs := [(0, job00)], vergeGet := [(sramBase 0 + 1024, 7)] }, cfg := { upReset.cfg with programs := [(1, { program0 with templates := [{ template0 with legs := [{ legCfg0 with verges := [{ core := 0, token := 5, space := 0, offset := 16, buffers := [(0, 32, 4), (0, 64, 4)], producer := 0, boundary := 0, rows := 1 }] }] }] })] } }).storeAll
       [(sramBase 0 + 1024 + 2, [7])], (wordAt 0x7 0x01 [(0, 32)]), 5, sramBase 0 + 1024, 7, ready_of (by decide +kernel),
       by unfold State.legsApart; decide +kernel, by decide +kernel⟩,
   ⟨{ (upWith [(F.CORE_ID_role 0, coreACTIVE)]) with exec := [(0, { coreExec0 with tokens := 1 })] }, ((wordAt 0 0 [(88, 1), (80,
       2)]) : Issue), ready_of (by decide +kernel), by decide +kernel, by unfold State.legsApart; decide +kernel, localTokens_of rfl⟩,
   ⟨(upWith [(F.CORE_ID_role 0, coreACTIVE), (F.CORE_ID_logical 0, 1), (F.ROUTE_QUOTA_LIMIT_pages 1, 1)]).storeAll [(stripeBase 0 +
       192, [1, 2, 3]), (stripeBase 0 + 256 + 63, [9])], (wordAt 0x8 1 [(0, 2), (77, 1), (48, 3), (45, 2), (16, 5)]), wCount ((wordAt
       0x8 1 [(0, 2), (77, 1), (48, 3), (45, 2), (16, 5)])).word, wField ((wordAt 0x8 1 [(0, 2), (77, 1), (48, 3), (45, 2), (16,
       5)])).word 77 3, wField ((wordAt 0x8 1 [(0, 2), (77, 1), (48, 3), (45, 2), (16, 5)])).word 48 29, wField ((wordAt 0x8 1 [(0, 2),
       (77, 1), (48, 3), (45, 2), (16, 5)])).word 45 3, wField ((wordAt 0x8 1 [(0, 2), (77, 1), (48, 3), (45, 2), (16, 5)])).word 16 29,
       ready_of (by decide +kernel), ⟨by decide +kernel, by decide +kernel⟩, by decide +kernel⟩⟩

theorem witness_MatrixWords :
    (∃ (s : State) (x : Issue) (k : Nat), s.Ready x 0x1 0x01 grpMATRIX ∧ s.clean ∧ tileK (wFmtA x.word) (wFmtB x.word) = some k) ∧
    (∃ (s : State) (x : Issue) (b : Tile), s.Ready x 0x1 0x02 grpMATRIX ∧ (s.core x.core).standby = some b) ∧
    (∃ (s : State) (x : Issue), s.Ready x 0x1 0x02 grpMATRIX ∧ (s.core x.core).standby = none) ∧
    (∃ (s : State) (x : Issue) (b : Tile) (n : Nat) (sz : Nat) (blocks : Nat), s.Ready x 0x1 0x03 grpMATRIX ∧ s.clean ∧ b = (s.core
        x.core).active.getD (tileZero (wFmtB x.word) ((pairK (wFmtA x.word) (wFmtB x.word)).getD 0)) ∧ b.fmt = wFmtB x.word ∧ pairK
        (wFmtA x.word) (wFmtB x.word) = some b.k ∧ n = wCount x.word ∧ sz = rowBytes x.word b.k ∧ blocks = 8 * sz / fmtBits (wFmtA
        x.word) / 32) ∧
    (∃ (s : State) (x : Issue) (n : Nat), s.Ready x 0x2 0x01 grpMATRIX ∧ n = wCount x.word) ∧
    (∃ (s : State) (x : Issue), s.Ready x 0x2 0x02 grpMATRIX ∧ s.clean) ∧
    (∃ (s : State) (x : Issue), s.Ready x 0x2 0x03 grpMATRIX ∧ s.clean) ∧
    (∃ (s : State) (x : Issue), s.Ready x 0x2 0x04 grpMATRIX ∧ wFmtD x.word ≠ fmtACC80 ∧ (∀ d ∈ s.drained x ((wImm10 x.word).testBit
        0), d.2.2.2.2.breach = false ∧ d.2.2.2.2.nonfinite = false)) ∧
    (∃ (s : State) (x : Issue), s.Ready x 0x2 0x04 grpMATRIX ∧ wFmtD x.word = fmtACC80 ∧ (∀ d ∈ s.drained x ((wImm10 x.word).testBit
        0), d.2.2.2.2.breach = false ∧ d.2.2.2.2.nonfinite = false)) ∧
    (∃ (s : State) (x : Issue) (fold : Bool), s.Ready x 0x2 0x05 grpMATRIX ∧ fold = (s.took x).isFold (s.legOf x grpMATRIX)) ∧
    (∃ (s : State) (x : Issue) (n : Nat), s.Ready x 0x2 0x06 grpMATRIX ∧ s.clean ∧ n = wCount x.word) :=
  ⟨⟨upWith [(F.CORE_ID_role 0, coreACTIVE)], (wordAt 0x1 0x01 [(108, fmtI8), (104, fmtI8), (44, 1)]), (pairK fmtI8 fmtI8).getD 0,
       ready_of (by decide +kernel), ⟨by decide +kernel, by decide +kernel⟩, by decide +kernel⟩,
   ⟨{ (upWith [(F.CORE_ID_role 0, coreACTIVE)]) with exec := [(0, { coreExec0 with standby := some (({ fmt := fmtI8, k := 1, elems := [3, 250], scales := [] } : Tile)) })] },
       (wordAt 0x1 0x02 []), ({ fmt := fmtI8, k := 1, elems := [3, 250], scales := [] } : Tile), ready_of (by decide +kernel),
       by decide +kernel⟩,
   ⟨{ (upWith [(F.CORE_ID_role 0, coreACTIVE)]) with exec := [(0, { coreExec0 with active := some { fmt := fmtI8, k := 1, elems := [3, 250], scales := [] } })] },
       (wordAt 0x1 0x02 []), ready_of (by decide +kernel), by decide +kernel⟩,
   ⟨{ (upWith [(F.CORE_ID_role 0, coreACTIVE)]) with exec := [(0, { coreExec0 with active := some (({ fmt := fmtI8, k := (pairK fmtI8 fmtI8).getD 0, elems := [3, 250], scales := [] } : Tile)) })] },
       (wordAt 0x1 0x03 [(108, fmtI8), (104, fmtI8), (26, 254), (0, 2)]),
       ({ fmt := fmtI8, k := (pairK fmtI8 fmtI8).getD 0, elems := [3, 250], scales := [] } : Tile), _, _, _, ready_of
       (by decide +kernel), ⟨by decide +kernel, by decide +kernel⟩, by decide +kernel, by decide +kernel, by decide +kernel, rfl, rfl,
       rfl⟩,
   ⟨upWith [(F.CORE_ID_role 0, coreACTIVE)], (wordAt 0x2 0x01 [(100, fmtACC80), (26, 254), (0, 2), (16, 0x3FB)]), wCount ((wordAt
       0x2 0x01 [(100, fmtACC80), (26, 254), (0, 2), (16, 0x3FB)])).word, ready_of (by decide +kernel), by decide +kernel⟩,
   ⟨upWith [(F.CORE_ID_role 0, coreACTIVE)], (wordAt 0x2 0x02 [(108, fmtACC80), (62, 1)]), ready_of (by decide +kernel),
       ⟨by decide +kernel, by decide +kernel⟩⟩,
   ⟨upWith [(F.CORE_ID_role 0, coreACTIVE)], (wordAt 0x2 0x03 [(108, fmtFP32), (62, 1)]), ready_of (by decide +kernel),
       ⟨by decide +kernel, by decide +kernel⟩⟩,
   ⟨{ (({ State.reset with power := .on }).set (F.CORE_ID_role 0) coreACTIVE) with exec := [(0, { coreExec0 with cells := [(512 * 9, { cell0 with s := 3 })], rows := [(9, (1, true))] })] },
       (wordAt 0x2 0x04 [(100, fmtFP32), (62, 9), (0, 1), (26, 64), (44, 2)]), ready_of (by decide +kernel), by decide +kernel,
       drained_of (by decide +kernel)⟩,
   ⟨{ (({ State.reset with power := .on }).set (F.CORE_ID_role 0) coreACTIVE) with exec := [(0, { coreExec0 with cells := [(512 * 9, { cell0 with s := 3 })], rows := [(9, (1, false))], bias := [(fmtFP32, 0x3F800000)] })] },
       (wordAt 0x2 0x04 [(100, fmtACC80), (62, 9), (0, 1), (26, 64), (44, 2), (16, 1)]), ready_of (by decide +kernel),
       by decide +kernel, drained_of (by decide +kernel)⟩,
   ⟨{ (({ State.reset with power := .on }).set (F.CORE_ID_role 0) coreACTIVE) with exec := [(0, { coreExec0 with cells := [(512 * 9, { cell0 with s := 3 })], rows := [(9, (1, false))] })] },
       (wordAt 0x2 0x05 [(62, 9), (0, 1), (26, 64)]), _, ready_of (by decide +kernel), rfl⟩,
   ⟨upWith [(F.CORE_ID_role 0, coreACTIVE)], (wordAt 0x2 0x06 [(26, 254), (0, 2), (62, 1)]), wCount ((wordAt 0x2 0x06 [(26, 254),
       (0, 2), (62, 1)])).word, ready_of (by decide +kernel), ⟨by decide +kernel, by decide +kernel⟩, by decide +kernel⟩⟩

theorem witness_VectorWords :
    (∃ (s : State) (x : Issue), s.VectorReady x 0x01) ∧
    (∃ (s : State) (x : Issue), s.VectorReady x 0x02) ∧
    (∃ (s : State) (x : Issue), s.VectorReady x 0x03) ∧
    (∃ (s : State) (x : Issue), s.VectorReady x 0x05) ∧
    (∃ (s : State) (x : Issue), s.VectorReady x 0x06) ∧
    (∃ (s : State) (x : Issue), s.VectorReady x 0x07) ∧
    (∃ (s : State) (x : Issue), s.VectorReady x 0x04) ∧
    (∃ (s : State) (x : Issue), s.VectorReady x 0x08) ∧
    (∃ (s : State) (x : Issue), s.VectorReady x 0x09) ∧
    (∃ (s : State) (x : Issue), s.VectorReady x 0x0A) ∧
    (∃ (s : State) (x : Issue), s.VectorReady x 0x0B) ∧
    (∃ (s : State) (x : Issue) (vs : List FV), s.VectorReady x 0x0C ∧ vs = s.converted x ∧ isMxFmt (wFmtD x.word) = false) ∧
    (∃ (s : State) (x : Issue) (bs : List Byte), s.VectorReady x 0x0C ∧ isMxFmt (wFmtD x.word) = true ∧ bs = destBytes (wFmtD
        x.word) true (s.converted x)) ∧
    (∃ (s : State) (x : Issue) (f : Nat), s.VectorReady x 0x0D ∧ f = wFmtA x.word) ∧
    (∃ (s : State) (x : Issue) (f : Nat), s.VectorReady x 0x0E ∧ f = wFmtA x.word) ∧
    (∃ (s : State) (x : Issue) (f : Nat), s.VectorReady x 0x0F ∧ wImm10 x.word = 0 ∧ f = wFmtA x.word) ∧
    (∃ (s : State) (x : Issue) (f : Nat), s.VectorReady x 0x0F ∧ wImm10 x.word = 1 ∧ f = wFmtA x.word) ∧
    (∃ (s : State) (x : Issue), s.VectorReady x 0x10) ∧
    (∃ (s : State) (x : Issue) (g : Machine.Num → Machine.Num → Machine.Num), s.VectorReady x 0x11 ∧ ((wImm10 x.word = 0 ∧ g =
        Num.op2 FV.add (· + ·)) ∨ (wImm10 x.word = 1 ∧ g = Num.op2 (FV.minMax false) min) ∨ (wImm10 x.word = 2 ∧ g = Num.op2 (FV.minMax
        true) max))) ∧
    (∃ (s : State) (x : Issue) (c : AccCell), s.VectorReady x 0x12 ∧ c = vasum (toSigned 10 (wImm10 x.word)) (wFmtA x.word ==
        fmtACC80) (s.lanesA x false) ∧ c.breach = false ∧ c.nonfinite = false) ∧
    (∃ (s : State) (x : Issue), s.VectorReady x 0x13) :=
  ⟨⟨({ (upWith [(F.CORE_ID_role 0, coreACTIVE)]) with exec := [(0, { coreExec0 with tokens := 3 })] }).storeAll [(sramBase 0 + 64,
       [0, 0, 0x80, 0x3F])], (wordAt 0x3 0x01 [(108, fmtFP32), (104, fmtFP32), (100, fmtFP32), (16, 0), (120, 0), (0, 1), (97, 0), (62,
       1), (44, 16), (26, 32)]), vectorReady_of (by decide +kernel)⟩,
   ⟨({ (upWith [(F.CORE_ID_role 0, coreACTIVE)]) with exec := [(0, { coreExec0 with tokens := 3 })] }).storeAll [(sramBase 0 + 64,
       [0, 0, 0x80, 0x3F])], (wordAt 0x3 0x02 [(108, fmtFP32), (104, fmtFP32), (100, fmtFP32), (16, 0), (120, 0), (0, 1), (97, 0), (62,
       1), (44, 16), (26, 32)]), vectorReady_of (by decide +kernel)⟩,
   ⟨({ (upWith [(F.CORE_ID_role 0, coreACTIVE)]) with exec := [(0, { coreExec0 with tokens := 3 })] }).storeAll [(sramBase 0 + 64,
       [0, 0, 0x80, 0x3F])], (wordAt 0x3 0x03 [(108, fmtFP32), (104, fmtFP32), (100, fmtFP32), (16, 0), (120, 0), (0, 1), (97, 0), (62,
       1), (44, 16), (26, 32)]), vectorReady_of (by decide +kernel)⟩,
   ⟨({ (upWith [(F.CORE_ID_role 0, coreACTIVE)]) with exec := [(0, { coreExec0 with tokens := 3 })] }).storeAll [(sramBase 0 + 64,
       [0, 0, 0x80, 0x3F])], (wordAt 0x3 0x05 [(108, fmtFP32), (104, fmtFP32), (100, fmtFP32), (16, 0), (120, 0), (0, 1), (97, 0), (62,
       1), (44, 16), (26, 32)]), vectorReady_of (by decide +kernel)⟩,
   ⟨({ (upWith [(F.CORE_ID_role 0, coreACTIVE)]) with exec := [(0, { coreExec0 with tokens := 3 })] }).storeAll [(sramBase 0 + 64,
       [0, 0, 0x80, 0x3F])], (wordAt 0x3 0x06 [(108, fmtFP32), (104, fmtFP32), (100, fmtFP32), (16, 0), (120, 0), (0, 1), (97, 0), (62,
       1), (44, 16), (26, 32)]), vectorReady_of (by decide +kernel)⟩,
   ⟨({ (upWith [(F.CORE_ID_role 0, coreACTIVE)]) with exec := [(0, { coreExec0 with tokens := 3 })] }).storeAll [(sramBase 0 + 64,
       [0, 0, 0x80, 0x3F])], (wordAt 0x3 0x07 [(108, fmtFP32), (104, fmtFP32), (100, fmtFP32), (16, 0), (120, 0), (0, 1), (97, 0), (62,
       1), (44, 16), (26, 32)]), vectorReady_of (by decide +kernel)⟩,
   ⟨({ (upWith [(F.CORE_ID_role 0, coreACTIVE)]) with exec := [(0, { coreExec0 with tokens := 3 })] }).storeAll [(sramBase 0 + 64,
       [0, 0, 0x80, 0x3F])], (wordAt 0x3 0x04 [(108, fmtFP32), (104, fmtFP32), (100, fmtFP32), (16, 0), (120, 0), (0, 1), (97, 0), (62,
       1), (44, 16), (26, 32)]), vectorReady_of (by decide +kernel)⟩,
   ⟨({ (upWith [(F.CORE_ID_role 0, coreACTIVE)]) with exec := [(0, { coreExec0 with tokens := 3 })] }).storeAll [(sramBase 0 + 64,
       [0, 0, 0x80, 0x3F])], (wordAt 0x3 0x08 [(108, fmtFP32), (104, fmtFP32), (100, fmtFP32), (16, 0), (120, 0), (0, 1), (97, 0), (62,
       1), (44, 16), (26, 32)]), vectorReady_of (by decide +kernel)⟩,
   ⟨({ (upWith [(F.CORE_ID_role 0, coreACTIVE)]) with exec := [(0, { coreExec0 with tokens := 3 })] }).storeAll [(sramBase 0 + 64,
       [0, 0, 0x80, 0x3F])], (wordAt 0x3 0x09 [(108, fmtFP32), (104, fmtFP32), (100, fmtFP32), (16, 0), (120, 0), (0, 1), (97, 0), (62,
       1), (44, 16), (26, 32)]), vectorReady_of (by decide +kernel)⟩,
   ⟨({ (upWith [(F.CORE_ID_role 0, coreACTIVE)]) with exec := [(0, { coreExec0 with tokens := 3 })] }).storeAll [(sramBase 0 + 64,
       [0, 0, 0x80, 0x3F])], (wordAt 0x3 0x0A [(108, fmtFP32), (104, fmtFP32), (100, fmtFP32), (16, 0), (120, 0), (0, 1), (97, 0), (62,
       1), (44, 16), (26, 32)]), vectorReady_of (by decide +kernel)⟩,
   ⟨({ (upWith [(F.CORE_ID_role 0, coreACTIVE)]) with exec := [(0, { coreExec0 with tokens := 3 })] }).storeAll [(sramBase 0 + 64,
       [0, 0, 0x80, 0x3F])], (wordAt 0x3 0x0B [(108, fmtI8), (104, fmtI8), (100, fmtI8), (16, 0), (120, 0), (0, 1), (97, 0), (62, 1),
       (44, 16), (26, 32)]), vectorReady_of (by decide +kernel)⟩,
   ⟨({ (upWith [(F.CORE_ID_role 0, coreACTIVE)]) with exec := [(0, { coreExec0 with tokens := 3 })] }).storeAll [(sramBase 0 + 64,
       [0, 0, 0x80, 0x3F])], (wordAt 0x3 0x0C [(108, fmtFP32), (104, 0), (100, fmtI8), (16, 0), (120, 0), (0, 1), (97, 1), (62, 1), (44,
       16), (26, 32)]), _, vectorReady_of (by decide +kernel), rfl, by decide +kernel⟩,
   ⟨({ (upWith [(F.CORE_ID_role 0, coreACTIVE)]) with exec := [(0, { coreExec0 with tokens := 3 })] }).storeAll [(sramBase 0 + 64,
       [0, 0, 0x80, 0x3F])], (wordAt 0x3 0x0C [(108, fmtFP32), (104, 0), (100, fmtMX8E4), (16, 0), (120, 0), (0, 1), (97, 0), (62, 1),
       (44, 16), (26, 32)]), _, vectorReady_of (by decide +kernel), by decide +kernel, rfl⟩,
   ⟨({ (upWith [(F.CORE_ID_role 0, coreACTIVE)]) with exec := [(0, { coreExec0 with tokens := 3 })] }).storeAll [(sramBase 0 + 64,
       [0, 0, 0x80, 0x3F])], (wordAt 0x3 0x0D [(108, fmtI8), (104, fmtI8), (100, fmtI8), (16, 0), (120, 0), (0, 1), (97, 0), (62, 1),
       (44, 16), (26, 32)]), wFmtA ((wordAt 0x3 0x0D [(108, fmtI8), (104, fmtI8), (100, fmtI8), (16, 0), (120, 0), (0, 1), (97, 0), (62,
       1), (44, 16), (26, 32)])).word, vectorReady_of (by decide +kernel), by decide +kernel⟩,
   ⟨({ (upWith [(F.CORE_ID_role 0, coreACTIVE)]) with exec := [(0, { coreExec0 with tokens := 3 })] }).storeAll [(sramBase 0 + 64,
       [0, 0, 0x80, 0x3F])], (wordAt 0x3 0x0E [(108, fmtI8), (104, fmtI8), (100, fmtI8), (16, 0), (120, 0), (0, 1), (97, 0), (62, 1),
       (44, 16), (26, 32)]), wFmtA ((wordAt 0x3 0x0E [(108, fmtI8), (104, fmtI8), (100, fmtI8), (16, 0), (120, 0), (0, 1), (97, 0), (62,
       1), (44, 16), (26, 32)])).word, vectorReady_of (by decide +kernel), by decide +kernel⟩,
   ⟨({ (upWith [(F.CORE_ID_role 0, coreACTIVE)]) with exec := [(0, { coreExec0 with tokens := 3 })] }).storeAll [(sramBase 0 + 64,
       [0, 0, 0x80, 0x3F])], (wordAt 0x3 0x0F [(108, fmtI8), (104, fmtI8), (100, fmtI8), (16, 0), (120, 0), (0, 1), (97, 0), (62, 1),
       (44, 16), (26, 32)]), wFmtA ((wordAt 0x3 0x0F [(108, fmtI8), (104, fmtI8), (100, fmtI8), (16, 0), (120, 0), (0, 1), (97, 0), (62,
       1), (44, 16), (26, 32)])).word, vectorReady_of (by decide +kernel), by decide +kernel⟩,
   ⟨({ (upWith [(F.CORE_ID_role 0, coreACTIVE)]) with exec := [(0, { coreExec0 with tokens := 3 })] }).storeAll [(sramBase 0 + 64,
       [0, 0, 0x80, 0x3F])], (wordAt 0x3 0x0F [(108, fmtI8), (104, fmtI8), (100, fmtI8), (16, 1), (120, 0), (0, 1), (97, 0), (62, 1),
       (44, 16), (26, 32)]), wFmtA ((wordAt 0x3 0x0F [(108, fmtI8), (104, fmtI8), (100, fmtI8), (16, 1), (120, 0), (0, 1), (97, 0), (62,
       1), (44, 16), (26, 32)])).word, vectorReady_of (by decide +kernel), by decide +kernel⟩,
   ⟨({ (upWith [(F.CORE_ID_role 0, coreACTIVE)]) with exec := [(0, { coreExec0 with tokens := 3 })] }).storeAll [(sramBase 0 + 64,
       [0, 0, 0x80, 0x3F])], (wordAt 0x3 0x10 [(108, fmtFP32), (104, 0), (100, fmtFP32), (16, 1), (120, 0), (0, 1), (97, 0), (62, 1),
       (44, 16), (26, 32)]), vectorReady_of (by decide +kernel)⟩,
   ⟨({ (upWith [(F.CORE_ID_role 0, coreACTIVE)]) with exec := [(0, { coreExec0 with tokens := 3 })] }).storeAll [(sramBase 0 + 64,
       [0, 0, 0x80, 0x3F])], (wordAt 0x3 0x11 [(108, fmtFP32), (104, 0), (100, fmtFP32), (16, 0), (120, 0), (0, 1), (97, 0), (62, 1),
       (44, 16), (26, 32)]), Num.op2 FV.add (· + ·), vectorReady_of (by decide +kernel), .inl ⟨by decide +kernel, rfl⟩⟩,
   ⟨({ (upWith [(F.CORE_ID_role 0, coreACTIVE)]) with exec := [(0, { coreExec0 with tokens := 3 })] }).storeAll [(sramBase 0 + 64,
       [0, 0, 0x80, 0x3F])], (wordAt 0x3 0x12 [(108, fmtFP32), (104, 0), (100, fmtFP32), (16, 0x3F0), (120, 0), (0, 1), (97, 0), (62,
       1), (44, 16), (26, 32)]), vasum (toSigned 10 (wImm10 ((wordAt 0x3 0x12 [(108, fmtFP32), (104, 0), (100, fmtFP32), (16, 0x3F0),
       (120, 0), (0, 1), (97, 0), (62, 1), (44, 16), (26, 32)])).word)) (wFmtA ((wordAt 0x3 0x12 [(108, fmtFP32), (104, 0), (100,
       fmtFP32), (16, 0x3F0), (120, 0), (0, 1), (97, 0), (62, 1), (44, 16), (26, 32)])).word == fmtACC80)
       ((({ (upWith [(F.CORE_ID_role 0, coreACTIVE)]) with exec := [(0, { coreExec0 with tokens := 3 })] }).storeAll [(sramBase 0 + 64,
       [0, 0, 0x80, 0x3F])]).lanesA ((wordAt 0x3 0x12 [(108, fmtFP32), (104, 0), (100, fmtFP32), (16, 0x3F0), (120, 0), (0, 1), (97, 0),
       (62, 1), (44, 16), (26, 32)])) false), vectorReady_of (by decide +kernel), by decide +kernel⟩,
   ⟨({ (upWith [(F.CORE_ID_role 0, coreACTIVE)]) with exec := [(0, { coreExec0 with tokens := 3 })] }).storeAll [(sramBase 0 + 64,
       [0, 0, 0x80, 0x3F])], (wordAt 0x3 0x13 [(108, fmtI8), (104, 0), (100, fmtI8), (16, 0), (120, 0), (0, 1), (97, 0), (62, 1), (44,
       16), (26, 32)]), vectorReady_of (by decide +kernel)⟩⟩

theorem witness_IrregularCalls :
    (∃ (s : State) (x : Issue), s.IrregReady x 0x01) ∧
    (∃ (s : State) (x : Issue), s.IrregReady x 0x02) ∧
    (∃ (s : State) (x : Issue), s.IrregReady x 0x03) ∧
    (∃ (s : State) (x : Issue), s.IrregReady x 0x04) ∧
    (∃ (s : State) (x : Issue), s.IrregReady x 0x05) ∧
    (∃ (s : State) (x : Issue), s.IrregReady x 0x06) ∧
    (∃ (s : State) (x : Issue), s.IrregReady x 0x07) ∧
    (∃ (s : State) (x : Issue), s.IrregReady x 0x08) ∧
    (∃ (s : State) (x : Issue), s.IrregReady x 0x09) ∧
    (∃ (s : State) (x : Issue), s.IrregReady x 0x0A) ∧
    (∃ (s : State) (x : Issue), s.IrregReady x 0x0B) ∧
    (∃ (s : State) (x : Issue), s.IrregReady x 0x0C) ∧
    (∃ (s : State) (c : CoreId) (i : Nat) (k : Call), s.powered = true ∧ s.firstCall c [callIRREG] i k ∧ k.codes = [] ∧ k.causes =
        []) ∧
    (∃ (s : State) (c : CoreId) (i : Nat) (k : Call) (code : Nat) (ps : List Nat), s.powered = true ∧ s.firstCall c [callIRREG] i k
        ∧ k.leg = none ∧ k.codes = [(code, ps)] ∧ k.causes = []) ∧
    (∃ (s : State) (c : CoreId), s.powered = true ∧ (∀ k ∈ (s.core c).calls, k.kind ∉ [callIRREG])) :=
  ⟨⟨({ (upWith [(F.CORE_ID_role 0, coreACTIVE)]) with exec := [(0, { coreExec0 with tokens := 1 })] }).storeAll [(sramBase 0,
       recordOf 64 [(0, 1, 0), (1, 1, fmtI16 + 16 * 0), (2, 1, 0), (3, 1, 1), (4, 4, 6), (8, 4, 6), (12, 4, 3), (18, 2, 1), (20, 4, 9),
       (24, 4, 800), (28, 4, 1600), (32, 4, 2400), (36, 4, 3200), (40, 4, 4000), (44, 4, 4800), (48, 4, 5600), (52, 4, 6400)])], (wordAt
       0x4 0x01 ([(120, 2)] ++ [(80, 4), (88, 1)])), irregReady_of (by decide +kernel)⟩,
   ⟨({ (upWith [(F.CORE_ID_role 0, coreACTIVE)]) with exec := [(0, { coreExec0 with tokens := 1 })] }).storeAll [(sramBase 0,
       recordOf 64 [(0, 1, 0), (1, 1, fmtI16 + 16 * 0), (2, 1, 0), (3, 1, 1), (4, 4, 4), (8, 4, 6), (12, 4, 3), (18, 2, 1), (20, 4, 9),
       (24, 4, 800), (28, 4, 1600), (32, 4, 2400), (36, 4, 3200), (40, 4, 4000), (44, 4, 4800), (48, 4, 5600), (52, 4, 6400)])], (wordAt
       0x4 0x02 ([(120, 2)] ++ [(80, 4), (88, 1)])), irregReady_of (by decide +kernel)⟩,
   ⟨({ (upWith [(F.CORE_ID_role 0, coreACTIVE)]) with exec := [(0, { coreExec0 with tokens := 1 })] }).storeAll [(sramBase 0,
       recordOf 64 [(0, 1, 0), (1, 1, fmtI16 + 16 * 0), (2, 1, 0), (3, 1, 1), (4, 4, 6), (8, 4, 2), (12, 4, 3), (18, 2, 1), (20, 4, 9),
       (24, 4, 800), (28, 4, 1600), (32, 4, 2400), (36, 4, 3200), (40, 4, 4000), (44, 4, 4800), (48, 4, 5600), (52, 4, 6400)])], (wordAt
       0x4 0x03 ([(120, 2)] ++ [(80, 4), (88, 1)])), irregReady_of (by decide +kernel)⟩,
   ⟨({ (upWith [(F.CORE_ID_role 0, coreACTIVE)]) with exec := [(0, { coreExec0 with tokens := 1 })] }).storeAll [(sramBase 0,
       recordOf 64 [(0, 1, 0), (1, 1, fmtI16 + 16 * 0), (2, 1, 0), (3, 1, 1), (4, 4, 6), (8, 4, 2), (12, 4, 3), (18, 2, 1), (20, 4, 9),
       (24, 4, 800), (28, 4, 1600), (32, 4, 2400), (36, 4, 3200), (40, 4, 4000), (44, 4, 4800), (48, 4, 5600), (52, 4, 6400)])], (wordAt
       0x4 0x04 ([(120, 2)] ++ [(80, 4), (88, 1)])), irregReady_of (by decide +kernel)⟩,
   ⟨({ (upWith [(F.CORE_ID_role 0, coreACTIVE)]) with exec := [(0, { coreExec0 with tokens := 1 })] }).storeAll [(sramBase 0,
       recordOf 64 [(0, 1, 0), (1, 1, fmtI16 + 16 * 0), (2, 1, 0), (3, 1, 1), (4, 4, 6), (8, 4, 6), (12, 4, 3), (18, 2, 1), (20, 4, 9),
       (24, 4, 800), (28, 4, 1600), (32, 4, 2400), (36, 4, 3200), (40, 4, 4000), (44, 4, 4800), (48, 4, 5600), (52, 4, 6400)])], (wordAt
       0x4 0x05 ([(120, 2)] ++ [(80, 4), (88, 1)])), irregReady_of (by decide +kernel)⟩,
   ⟨({ (upWith [(F.CORE_ID_role 0, coreACTIVE)]) with exec := [(0, { coreExec0 with tokens := 1 })] }).storeAll [(sramBase 0,
       recordOf 64 [(0, 1, 0), (1, 1, fmtI16 + 16 * 0), (2, 1, 1), (3, 1, 1), (4, 4, 6), (8, 4, 6), (12, 4, 3), (18, 2, 1), (20, 4, 9),
       (24, 4, 800), (28, 4, 1600), (32, 4, 2400), (36, 4, 3200), (40, 4, 4000), (44, 4, 4800), (48, 4, 5600), (52, 4, 6400)])], (wordAt
       0x4 0x06 ([(120, 2)] ++ [(80, 4), (88, 1)])), irregReady_of (by decide +kernel)⟩,
   ⟨({ (upWith [(F.CORE_ID_role 0, coreACTIVE)]) with exec := [(0, { coreExec0 with tokens := 1 })] }).storeAll [(sramBase 0,
       recordOf 64 [(0, 1, 0), (1, 1, fmtI16 + 16 * 0), (2, 1, 0), (3, 1, 1), (4, 4, 6), (8, 4, 6), (12, 4, 3), (18, 2, 1), (20, 4, 9),
       (24, 4, 801), (28, 4, 1601), (32, 4, 2401), (36, 4, 3200), (40, 4, 4001), (44, 4, 4800), (48, 4, 5600), (52, 4, 6400)])], (wordAt
       0x4 0x07 ([(120, 2)] ++ [(80, 4), (88, 1)])), irregReady_of (by decide +kernel)⟩,
   ⟨({ (upWith [(F.CORE_ID_role 0, coreACTIVE)]) with exec := [(0, { coreExec0 with tokens := 1 })] }).storeAll [(sramBase 0,
       recordOf 64 [(0, 1, 0), (1, 1, fmtI16 + 16 * 0), (2, 1, 0), (3, 1, 1), (4, 4, 6), (8, 4, 2), (12, 4, 3), (18, 2, 1), (20, 4, 9),
       (24, 4, 800), (28, 4, 1600), (32, 4, 2400), (36, 4, 3200), (40, 4, 4000), (44, 4, 4800), (48, 4, 5600), (52, 4, 6400)])], (wordAt
       0x4 0x08 ([(120, 2)] ++ [(80, 4), (88, 1)])), irregReady_of (by decide +kernel)⟩,
   ⟨({ (upWith [(F.CORE_ID_role 0, coreACTIVE)]) with exec := [(0, { coreExec0 with tokens := 1 })] }).storeAll [(sramBase 0,
       recordOf 64 [(0, 1, 0), (1, 1, fmtI16 + 16 * 0), (2, 1, 0), (3, 1, 1), (4, 4, 6), (8, 4, 6), (12, 4, 3), (18, 2, 1), (20, 4, 9),
       (24, 4, 800), (28, 4, 1600), (32, 4, 2400), (36, 4, 3200), (40, 4, 4000), (44, 4, 4800), (48, 4, 5600), (52, 4, 6400)])], (wordAt
       0x4 0x09 ([(120, 2)] ++ [(80, 4), (88, 1)])), irregReady_of (by decide +kernel)⟩,
   ⟨({ (upWith [(F.CORE_ID_role 0, coreACTIVE)]) with exec := [(0, { coreExec0 with tokens := 1 })] }).storeAll [(sramBase 0,
       recordOf 64 [(0, 1, 0), (1, 1, fmtI16 + 16 * 0), (2, 1, 0), (3, 1, 1), (4, 4, 12), (8, 4, 5), (12, 4, 3 * 65536 + 4), (18, 2, 1),
       (20, 4, 9), (24, 4, 800), (28, 4, 1600), (32, 4, 2400), (36, 4, 3200), (40, 4, 4000), (44, 4, 4800), (48, 4, 5600), (52, 4,
       6400)])], (wordAt 0x4 0x0A ([(120, 2)] ++ [(80, 4), (88, 1)])), irregReady_of (by decide +kernel)⟩,
   ⟨({ (upWith [(F.CORE_ID_role 0, coreACTIVE)]) with exec := [(0, { coreExec0 with tokens := 1 })] }).storeAll [(sramBase 0,
       recordOf 64 [(0, 1, 0), (1, 1, fmtI16 + 16 * 0), (2, 1, 0), (3, 1, 4), (4, 4, 6), (8, 4, 6), (12, 4, 3), (18, 2, 1), (20, 4, 9),
       (24, 4, 801), (28, 4, 1601), (32, 4, 2400), (36, 4, 3200), (40, 4, 4000), (44, 4, 4800), (48, 4, 5600), (52, 4, 6400)])], (wordAt
       0x4 0x0B ([(120, 2)] ++ [(80, 4), (88, 1)])), irregReady_of (by decide +kernel)⟩,
   ⟨({ (upWith [(F.CORE_ID_role 0, coreACTIVE)]) with exec := [(0, { coreExec0 with tokens := 1 })] }).storeAll [(sramBase 0,
       recordOf 64 [(0, 1, 0), (1, 1, fmtI16 + 16 * 0), (2, 1, 0), (3, 1, 1), (4, 4, 6), (8, 4, 3), (12, 4, 4), (18, 2, 1), (20, 4, 9),
       (24, 4, 800), (28, 4, 1601), (32, 4, 2401), (36, 4, 3200), (40, 4, 4000), (44, 4, 4800), (48, 4, 5600), (52, 4, 6400)])], (wordAt
       0x4 0x0C ([(120, 2)] ++ [(80, 4), (88, 1)])), irregReady_of (by decide +kernel)⟩,
   ⟨{ (upWith []) with exec := [(0, { coreExec0 with calls := [call0 callEDGE 1 0 none, (({ call0 callIRREG 1 2 none with writes := [(sramBase 0 + 64, [1, 2])] } : Call))] })] },
       0, 1, ({ call0 callIRREG 1 2 none with writes := [(sramBase 0 + 64, [1, 2])] } : Call), by decide +kernel, firstCall_of
       (by decide +kernel), by decide +kernel⟩,
   ⟨{ (upWith []) with exec := [(0, { coreExec0 with calls := [(({ call0 callIRREG 1 2 none with codes := [((Code.IRREG_OVERFLOW), ([1, 2]))] } : Call))] })] },
       0, 0, ({ call0 callIRREG 1 2 none with codes := [((Code.IRREG_OVERFLOW), ([1, 2]))] } : Call), Code.IRREG_OVERFLOW, [1, 2],
       by decide +kernel, firstCall_of (by decide +kernel), by decide +kernel⟩,
   ⟨{ (upWith []) with exec := [(0, { coreExec0 with calls := [call0 callEDGE 1 0 none] })] }, 0, by decide +kernel⟩⟩

theorem witness_DescriptorCalls :
    (∃ (s : State) (x : Issue) (r : List Byte) (d : EdgeDesc), s.CallReady x 0x9 callEDGE engEDGE ∧ r = s.descriptor x.core x.word ∧
        d = edgeDesc r ∧ d.legal (recField r 0 1) = true ∧ isMxFmt d.fout = false ∧ d.fout ≠ fmtACC80) ∧
    (∃ (s : State) (x : Issue) (r : List Byte) (n : Nat) (cls : Nat) (m : Nat) (d : Nat), s.CallReady x 0xB callPOST engPOST ∧ r =
        s.descriptor x.core x.word ∧ postLegal r = true ∧ cls = recField r 2 2 ∧ n = recField r 4 4 ∧ m = recField r 8 2 ∧ d = recField
        r 10 2) ∧
    (∃ (s : State) (x : Issue) (d : WalkDesc) (tpp : Nat) (fit : List WalkSlot) (rest : List WalkSlot), s.CallReady x 0xA callWALK
        engWALK ∧ d = walkDesc (s.descriptor x.core x.word) ∧ d.kind = 1 ∧ d.legal = true ∧ tpp = (s.took x).walkTokens x.core (s.legOf
        x grpTRANSFER) ∧ (fit, rest) = fitSlots (fun z => cdiv (z.past + z.fresh) tpp) d.pages 0 ((s.took x).walkSlots d ((s.took
        x).locAddr x.core (d.locs.getD 0 0)))) ∧
    (∃ (s : State) (x : Issue) (d : WalkDesc) (tpp : Nat) (fit : List WalkSlot) (rest : List WalkSlot), s.CallReady x 0xA callWALK
        engWALK ∧ d = walkDesc (s.descriptor x.core x.word) ∧ d.kind = 2 ∧ d.legal = true ∧ tpp = (s.took x).walkTokens x.core (s.legOf
        x grpTRANSFER) ∧ (fit, rest) = fitSlots (fun z => (writePages tpp z).length) d.pages 0 ((s.took x).walkSlots d ((s.took
        x).locAddr x.core (d.locs.getD 0 0))) ∧ (∀ z ∈ fit, ∀ j ∈ writePages tpp z, ∀ g, pageOf ((s.took x).snapshotTable (s.corePart
        x.core) (s.legOf x grpTRANSFER)) d z j = some g → countIn ((s.took x).snapshotTable (s.corePart x.core) (s.legOf x grpTRANSFER))
        g ≤ 1)) ∧
    (∃ (s : State) (x : Issue) (d : WalkDesc) (tpp : Nat) (fit : List WalkSlot) (rest : List WalkSlot), s.CallReady x 0xA callWALK
        engWALK ∧ d = walkDesc (s.descriptor x.core x.word) ∧ d.kind = 2 ∧ d.legal = true ∧ tpp = (s.took x).walkTokens x.core (s.legOf
        x grpTRANSFER) ∧ (fit, rest) = fitSlots (fun z => (writePages tpp z).length) d.pages 0 ((s.took x).walkSlots d ((s.took
        x).locAddr x.core (d.locs.getD 0 0))) ∧ s.legIn x.core grpTRANSFER = none ∧ (∃ z ∈ fit, ∃ j ∈ writePages tpp z, ∃ g, pageOf
        ((s.took x).snapshotTable (s.corePart x.core) none) d z j = some g ∧ 1 < countIn ((s.took x).snapshotTable (s.corePart x.core)
        none) g)) ∧
    (∃ (s : State) (x : Issue), s.CheckReady x 0x01) ∧
    (∃ (s : State) (x : Issue), s.CheckReady x 0x02) ∧
    (∃ (s : State) (x : Issue), s.CheckReady x 0x03) ∧
    (∃ (s : State) (x : Issue) (d : CheckDesc) (vs : List FV), s.CheckReady x 0x04 ∧ d = s.checkOf x ∧ vs = (bytesCodes d.f (8 *
        d.len / fmtBits d.f) (s.bytes ((s.took x).checkLoc x locDATA) d.len)).map (fmtValue (rangeFmt d.f)) ∧ fmtBits d.f ≠ 0) ∧
    (∃ (s : State) (x : Issue) (b : Bool), s.CheckReady x 0x05 ∧ b = (s.bytes ((s.took x).checkLoc x locVALUE) 32 != s.bytes
        ((s.took x).checkLoc x locSECOND) 32)) ∧
    (∃ (s : State) (c : CoreId) (i : Nat) (k : Call), s.powered = true ∧ s.firstCall c [callEDGE, callPOST] i k ∧ k.codes = [] ∧
        k.causes = []) ∧
    (∃ (s : State) (c : CoreId) (i : Nat) (k : Call) (code : Nat) (ps : List Nat), s.powered = true ∧ s.firstCall c [callEDGE,
        callPOST] i k ∧ k.leg = none ∧ k.codes = [(code, ps)] ∧ k.causes = []) ∧
    (∃ (s : State) (c : CoreId), s.powered = true ∧ (∀ k ∈ (s.core c).calls, k.kind ∉ [callEDGE, callPOST])) ∧
    (∃ (s : State) (c : CoreId) (i : Nat) (k : Call), s.powered = true ∧ s.firstCall c [callWALK] i k ∧ k.codes = [] ∧ k.causes =
        []) ∧
    (∃ (s : State) (c : CoreId) (i : Nat) (k : Call) (code : Nat) (ps : List Nat), s.powered = true ∧ s.firstCall c [callWALK] i k ∧
        k.leg = none ∧ k.codes = [(code, ps)] ∧ k.causes = []) ∧
    (∃ (s : State) (c : CoreId), s.powered = true ∧ (∀ k ∈ (s.core c).calls, k.kind ∉ [callWALK])) ∧
    (∃ (s : State) (c : CoreId) (i : Nat) (k : Call), s.powered = true ∧ s.firstCall c [callCHECK] i k ∧ k.codes = [] ∧ k.causes =
        [] ∧ k.unequal = false ∧ k.digest = none) ∧
    (∃ (s : State) (c : CoreId) (i : Nat) (k : Call) (code : Nat) (ps : List Nat), s.powered = true ∧ s.firstCall c [callCHECK] i k
        ∧ k.leg = none ∧ k.codes = [(code, ps)] ∧ k.causes = [] ∧ k.unequal = false ∧ k.digest = none) ∧
    (∃ (s : State) (c : CoreId), s.powered = true ∧ (∀ k ∈ (s.core c).calls, k.kind ∉ [callCHECK])) :=
  ⟨⟨(upWith [(F.CORE_ID_role 0, coreACTIVE)]).storeAll [(sramBase 0, recordOf 64 [(0, 1, 1), (2, 1, fmtU8 + 16 * fmtI8), (3, 1,
       fmtI8 + 48), (4, 2, 4), (6, 2, 3), (8, 1, 34), (9, 1, 17), (10, 2, 1), (12, 2, 2), (20, 4, 801), (24, 4, 1600), (28, 4, 2400),
       (32, 4, 3200), (36, 4, 4000), (40, 4, 4800), (1, 1, 1)])], (wordAt 0x9 0x01 [(80, 4)]), _, _, callReady_of (by decide +kernel),
       rfl, rfl, by decide +kernel⟩,
   ⟨(upWith [(F.CORE_ID_role 0, coreACTIVE)]).storeAll [(sramBase 0, recordOf 64 [(0, 1, 1), (1, 1, 16 * fmtFP32), (2, 2, 3), (4, 4,
       2), (8, 2, 4), (10, 2, 2), (12, 2, 0), (32, 4, 800), (36, 4, 1600), (40, 4, 2400), (44, 4, 3200)])], (wordAt 0xB 0x01 [(80, 4)]),
       _, _, _, _, _, callReady_of (by decide +kernel), rfl, by decide +kernel, rfl, rfl, rfl, rfl⟩,
   ⟨({ (upWith [(F.CORE_ID_role 0, coreACTIVE), (F.CORE_ID_logical 0, 1), (F.ROUTE_QUOTA_LIMIT_pages 1, 16)]) with kv := [(1, { pool0 with base := 8, size := 20, tables := [(1, [(entryKey 3 4096, 9), (entryKey 3 4097, 10), (entryKey 4 4096, 11), (entryKey 5 4096, 11)])], counts := [(9, 1), (10, 1), (11, 1)] })] }).storeAll
       [(sramBase 0, recordOf 64 [(0, 1, 1), (1, 1, 1), (4, 2, 2), (8, 4, 9), (12, 4, 500), (16, 4, 800), (20, 4, 1600), (24, 4, 2400),
       (28, 4, 3200)])], (wordAt 0xA 0x01 [(80, 4)]), _, _, _, _, callReady_of (by decide +kernel), rfl, by decide +kernel,
       by decide +kernel, rfl, Prod.eta _⟩,
   ⟨({ (upWith [(F.CORE_ID_role 0, coreACTIVE), (F.CORE_ID_logical 0, 1), (F.ROUTE_QUOTA_LIMIT_pages 1, 16)]) with kv := [(1, { pool0 with base := 8, size := 20, tables := [(1, [(entryKey 3 4096, 9), (entryKey 3 4097, 10), (entryKey 4 4096, 11), (entryKey 5 4096, 11)])], counts := [(9, 1), (10, 1), (11, 1)] })] }).storeAll
       [(sramBase 0, recordOf 64 [(0, 1, 2), (1, 1, 1), (4, 2, 2), (8, 4, 9), (12, 4, 500), (16, 4, 800), (20, 4, 1600), (24, 4, 2400),
       (28, 4, 3200)])], (wordAt 0xA 0x01 [(80, 4)]), _, _, _, _, callReady_of (by decide +kernel), rfl, by decide +kernel,
       by decide +kernel, rfl, Prod.eta _, by decide +kernel⟩,
   ⟨({ (upWith [(F.CORE_ID_role 0, coreACTIVE), (F.CORE_ID_logical 0, 1), (F.ROUTE_QUOTA_LIMIT_pages 1, 16)]) with kv := [(1, { pool0 with base := 8, size := 20, tables := [(1, [(entryKey 3 4096, 9), (entryKey 3 4097, 10), (entryKey 4 4096, 11), (entryKey 5 4096, 11)])], counts := [(9, 1), (10, 1), (11, 2)] })] }).storeAll
       [(sramBase 0, recordOf 64 [(0, 1, 2), (1, 1, 1), (4, 2, 2), (8, 4, 9), (12, 4, 500), (16, 4, 800), (20, 4, 1600), (24, 4, 2400),
       (28, 4, 3200)]), (sramBase 0 + 6400, recordOf 16 [(0, 2, 3), (2, 1, 1), (4, 4, 14), (8, 2, 3), (12, 4, 0)] ++ recordOf 16 [(0, 2,
       4), (2, 1, 1), (4, 4, 0), (8, 2, 2), (12, 4, 3)]), (hbmBase + 65536 * 9, (upTo 50).map (fun i => BitVec.ofNat 8 (i + 1)))],
       (wordAt 0xA 0x01 [(80, 4)]), _, _, _, _, callReady_of (by decide +kernel), rfl, by decide +kernel, by decide +kernel, rfl,
       Prod.eta _, by decide +kernel⟩,
   ⟨(upWith [(F.CORE_ID_role 0, coreACTIVE)]).storeAll [(sramBase 0, recordOf 64 [(0, 1, 1), (1, 1, 3), (2, 1, fmtI16), (4, 4, 40),
       (8, 4, 77), (12, 4, 5), (16, 4, 3), (20, 4, 2000), (24, 2, 2), (28, 4, 800), (32, 4, 1600), (36, 4, 2400), (40, 4, 3200), (44, 4,
       4000), (48, 4, 4800)])], (wordAt 0xC 0x01 [(80, 4)]), checkReady_of (by decide +kernel)⟩,
   ⟨(upWith [(F.CORE_ID_role 0, coreACTIVE)]).storeAll [(sramBase 0, recordOf 64 [(0, 1, 1), (1, 1, 3), (2, 1, fmtI16), (4, 4, 40),
       (8, 4, 77), (12, 4, 5), (16, 4, 3), (20, 4, 2000), (24, 2, 2), (28, 4, 800), (32, 4, 1600), (36, 4, 2400), (40, 4, 3200), (44, 4,
       4000), (48, 4, 4800)])], (wordAt 0xC 0x02 [(80, 4)]), checkReady_of (by decide +kernel)⟩,
   ⟨(upWith [(F.CORE_ID_role 0, coreACTIVE)]).storeAll [(sramBase 0, recordOf 64 [(0, 1, 1), (1, 1, 3), (2, 1, fmtI16), (4, 4, 40),
       (8, 4, 77), (12, 4, 5), (16, 4, 3), (20, 4, 2000), (24, 2, 2), (28, 4, 800), (32, 4, 1600), (36, 4, 2400), (40, 4, 3200), (44, 4,
       4000), (48, 4, 4800)])], (wordAt 0xC 0x03 [(80, 4)]), checkReady_of (by decide +kernel)⟩,
   ⟨(upWith [(F.CORE_ID_role 0, coreACTIVE)]).storeAll [(sramBase 0, recordOf 64 [(0, 1, 1), (1, 1, 3), (2, 1, fmtI16), (4, 4, 40),
       (8, 4, 77), (12, 4, 5), (16, 4, 3), (20, 4, 2000), (24, 2, 2), (28, 4, 800), (32, 4, 1600), (36, 4, 2400), (40, 4, 3200), (44, 4,
       4000), (48, 4, 4800)])], (wordAt 0xC 0x04 [(80, 4)]), _, _, checkReady_of (by decide +kernel), rfl, rfl, by decide +kernel⟩,
   ⟨(upWith [(F.CORE_ID_role 0, coreACTIVE)]).storeAll [(sramBase 0, recordOf 64 [(0, 1, 1), (1, 1, 3), (2, 1, fmtI16), (4, 4, 40),
       (8, 4, 77), (12, 4, 5), (16, 4, 3), (20, 4, 2000), (24, 2, 2), (28, 4, 800), (32, 4, 1600), (36, 4, 2400), (40, 4, 3200), (44, 4,
       4000), (48, 4, 4800)])], (wordAt 0xC 0x05 [(80, 4)]), _, checkReady_of (by decide +kernel), rfl⟩,
   ⟨{ (upWith []) with exec := [(0, { coreExec0 with calls := [call0 callIRREG 1 0 none, (({ call0 callEDGE 1 2 none with writes := [(sramBase 0 + 64, [1, 2])] } : Call))] })] },
       0, 1, ({ call0 callEDGE 1 2 none with writes := [(sramBase 0 + 64, [1, 2])] } : Call), by decide +kernel, firstCall_of
       (by decide +kernel), by decide +kernel⟩,
   ⟨{ (upWith []) with exec := [(0, { coreExec0 with calls := [(({ call0 callEDGE 1 2 none with codes := [((Code.IRREG_OVERFLOW), ([1, 2]))] } : Call))] })] },
       0, 0, ({ call0 callEDGE 1 2 none with codes := [((Code.IRREG_OVERFLOW), ([1, 2]))] } : Call), Code.IRREG_OVERFLOW, [1, 2],
       by decide +kernel, firstCall_of (by decide +kernel), by decide +kernel⟩,
   ⟨{ (upWith []) with exec := [(0, { coreExec0 with calls := [call0 callIRREG 1 0 none] })] }, 0, by decide +kernel⟩,
   ⟨{ (upWith []) with exec := [(0, { coreExec0 with calls := [call0 callIRREG 1 0 none, (({ call0 callWALK 1 2 none with writes := [(sramBase 0 + 64, [1, 2])] } : Call))] })] },
       0, 1, ({ call0 callWALK 1 2 none with writes := [(sramBase 0 + 64, [1, 2])] } : Call), by decide +kernel, firstCall_of
       (by decide +kernel), by decide +kernel⟩,
   ⟨{ (upWith []) with exec := [(0, { coreExec0 with calls := [(({ call0 callWALK 1 2 none with codes := [((Code.IRREG_OVERFLOW), ([1, 2]))] } : Call))] })] },
       0, 0, ({ call0 callWALK 1 2 none with codes := [((Code.IRREG_OVERFLOW), ([1, 2]))] } : Call), Code.IRREG_OVERFLOW, [1, 2],
       by decide +kernel, firstCall_of (by decide +kernel), by decide +kernel⟩,
   ⟨{ (upWith []) with exec := [(0, { coreExec0 with calls := [call0 callIRREG 1 0 none] })] }, 0, by decide +kernel⟩,
   ⟨{ (upWith []) with exec := [(0, { coreExec0 with calls := [call0 callIRREG 1 0 none, (({ call0 callCHECK 1 2 none with writes := [(sramBase 0 + 64, [1, 2])] } : Call))] })] },
       0, 1, ({ call0 callCHECK 1 2 none with writes := [(sramBase 0 + 64, [1, 2])] } : Call), by decide +kernel, firstCall_of
       (by decide +kernel), by decide +kernel⟩,
   ⟨{ (upWith []) with exec := [(0, { coreExec0 with calls := [(({ call0 callCHECK 1 2 none with codes := [((Code.IRREG_OVERFLOW), ([1, 2]))] } : Call))] })] },
       0, 0, ({ call0 callCHECK 1 2 none with codes := [((Code.IRREG_OVERFLOW), ([1, 2]))] } : Call), Code.IRREG_OVERFLOW, [1, 2],
       by decide +kernel, firstCall_of (by decide +kernel), by decide +kernel⟩,
   ⟨{ (upWith []) with exec := [(0, { coreExec0 with calls := [call0 callIRREG 1 0 none] })] }, 0, by decide +kernel⟩⟩

theorem witness_KvCommands :
    (∃ (s : State) (i : Port) (p : Part) (v : BitVec 19) (x : Nat), s.powered = true ∧
        (s.role i = roleOWNER ∨ (s.on (F.ROUTE_PART_defined p) = true ∧ s.get (F.ROUTE_PART_port p) = i.val)) ∧
        tfind (s.pool p).prefixes (v.toNat % 64) = some x) ∧
    (∃ (s : State) (i : Port) (p : Part) (v : BitVec 19) (y : KvSeq), s.powered = true ∧
        (s.role i = roleOWNER ∨ (s.on (F.ROUTE_PART_defined p) = true ∧ s.get (F.ROUTE_PART_port p) = i.val)) ∧
        tfind (s.pool p).seqs (v.toNat % 4096) = some y ∧ y.state = seqLIVE) ∧
    (∃ (s : State) (i : Port) (p : Part) (v : BitVec 19), s.powered = true ∧
        (s.role i = roleOWNER ∨ (s.on (F.ROUTE_PART_defined p) = true ∧ s.get (F.ROUTE_PART_port p) = i.val)) ∧ (s.pool p).base ≤ v.toNat ∧
        v.toNat < (s.pool p).base + (s.pool p).size) ∧
    (∃ (s : State) (i : Port) (p : Part), s.powered = true ∧ s.role i ≠ roleOWNER ∧
        (s.on (F.ROUTE_PART_defined p) = false ∨ s.get (F.ROUTE_PART_port p) ≠ i.val)) ∧
    (∃ (s : State) (i : Port) (p : Part) (v : BitVec 19), s.powered = true ∧
        (s.role i = roleOWNER ∨ (s.on (F.ROUTE_PART_defined p) = true ∧ s.get (F.ROUTE_PART_port p) = i.val)) ∧
        tfind (s.pool p).prefixes (v.toNat % 64) = none) ∧
    (∃ (s : State) (i : Port) (p : Part) (v : BitVec 19), s.powered = true ∧
        (s.role i = roleOWNER ∨ (s.on (F.ROUTE_PART_defined p) = true ∧ s.get (F.ROUTE_PART_port p) = i.val)) ∧ ((∀ y,
        tfind (s.pool p).seqs (v.toNat % 4096) = some y → y.state ≠ seqLIVE))) ∧
    (∃ (s : State) (i : Port) (p : Part) (v : BitVec 19), s.powered = true ∧
        (s.role i = roleOWNER ∨ (s.on (F.ROUTE_PART_defined p) = true ∧ s.get (F.ROUTE_PART_port p) = i.val)) ∧
        (v.toNat < (s.pool p).base ∨ (s.pool p).base + (s.pool p).size ≤ v.toNat)) :=
  ⟨⟨{ (upWith []) with kv := [(1, { pool0 with prefixes := [(63, 5)] })] }, 0, 1, 64 + 63, 5, by decide +kernel⟩,
   ⟨{ (upWith []) with kv := [(1, { pool0 with seqs := [(4095, { state := seqLIVE, length := 5, prefix_ := none, reserved := 0, taken := 0, tag := 3, pend := 0, left := 0, gen := 0, tmpl := 0 })] })] },
       1, 1, 4095,
       ({ state := seqLIVE, length := 5, prefix_ := none, reserved := 0, taken := 0, tag := 3, pend := 0, left := 0, gen := 0, tmpl := 0 } : KvSeq),
       by decide +kernel⟩,
   ⟨{ (upWith []) with kv := [(1, { pool0 with base := 8, size := 2, counts := [(9, 3)] })] }, 0, 1, 9, by decide +kernel⟩,
   ⟨upWith [(F.ROUTE_PART_defined 1, 0)], 2, 1, by decide +kernel⟩,
   ⟨upWith [], 0, 1, 5, by decide +kernel⟩,
   ⟨{ (upWith []) with kv := [(1, { pool0 with seqs := [(5, { state := seqLEAVING, length := 5, prefix_ := none, reserved := 0, taken := 0, tag := 3, pend := 0, left := 0, gen := 0, tmpl := 0 })] })] },
       0, 1, 5, by decide +kernel⟩,
   ⟨{ (upWith []) with kv := [(1, { pool0 with base := 8, size := 2 })] }, 0, 1, 10, by decide +kernel⟩⟩

theorem witness_LaneTraining :
    (∃ (s : State) (i : Port) (n : LaneId), s.powered = true ∧ s.privileged i = true ∧ (s.laneCfg n).enabled = true ∧
        (s.ageOnly = false ∨ s.laneState n = laneFAILED ∨ s.laneState n = laneDISABLED) ∧ ((s.laneState n ≠ laneUP ∨ (∀ k,
        k < 8 → (s.streamAt n k).line = none)))) ∧
    (∃ (s : State) (i : Port) (n : LaneId) (k : Nat), s.powered = true ∧ s.privileged i = true ∧ s.ageOnly = false ∧
        s.laneState n = laneUP ∧ k < 8 ∧ (s.streamAt n k).line ≠ none) ∧
    (∃ (s : State) (i : Port) (n : LaneId) (b : BitVec 2), s.powered = true ∧ s.privileged i = true ∧ b ≠ 3 ∧
        (s.ageOnly = false ∨ s.laneState n = laneFAILED ∨ s.laneState n = laneDISABLED)) ∧
    (∃ (s : State) (i : Port) (n : LaneId) (kind : Nat) (which : Nat), s.powered = true ∧ s.privileged i = true ∧
        (s.laneCfg n).enabled = true ∧ s.laneState n = laneTEST ∧ (s.laneAt n).test = some (kind, which)) ∧
    (∃ (s : State) (i : Port) (n : LaneId) (kind : Nat) (which : Nat), s.powered = true ∧ s.privileged i = true ∧ (s.laneCfg n).enabled = false ∧
        s.laneState n = laneTEST ∧ (s.laneAt n).test = some (kind, which)) ∧
    (∃ (s : State) (i : Port) (n : LaneId), s.powered = true ∧ s.privileged i = true ∧ (s.ageOnly = false ∨ s.laneState n ≠ laneUP)) ∧
    (∃ (s : State) (i : Port) (n : LaneId), s.powered = true ∧ s.privileged i = true ∧ (s.laneCfg n).enabled = true ∧
        s.laneState n = laneDISABLED) ∧
    (∃ (s : State) (i : Port) (n : LaneId), s.powered = true ∧ s.privileged i = true ∧ s.laneState n ≠ laneDISABLED) ∧
    (∃ (s : State) (i : Port) (n : LaneId), s.powered = true ∧ s.privileged i = true ∧ s.ageOnly = true ∧ s.laneState n = laneUP) ∧
    (∃ (s : State) (i : Port), s.powered = true ∧ s.privileged i = false) ∧
    (∃ (s : State) (n : LaneId), s.powered = true ∧ s.laneState n = laneREFWAIT) ∧
    (∃ (s : State) (n : LaneId), s.powered = true ∧ s.laneState n = laneLOCK) ∧
    (∃ (s : State) (n : LaneId) (w : BitVec 256) (bs : List Byte), s.powered = true ∧ s.laneState n = laneEXCHANGE ∧
        goodTrainingWord n w = true ∧ bs = leBytes 32 w.toNat ∧ (s.laneCfg n).sensors ≤ recField bs 5 1 ∧
        recField bs 4 1 = (s.laneCfg n).rate ∧ 2 ≤ (s.laneAt n).words ∧ (s.laneAt n).lastWord = w) ∧
    (∃ (s : State) (n : LaneId) (w : BitVec 256) (bs : List Byte), s.powered = true ∧ s.laneState n = laneEXCHANGE ∧
        goodTrainingWord n w = true ∧ bs = leBytes 32 w.toNat ∧ (s.laneCfg n).sensors ≤ recField bs 5 1 ∧
        recField bs 4 1 = (s.laneCfg n).rate ∧ ((s.laneAt n).words = 0 ∨ (s.laneAt n).lastWord ≠ w)) ∧
    (∃ (s : State) (n : LaneId) (w : BitVec 256) (bs : List Byte), s.powered = true ∧ s.laneState n = laneEXCHANGE ∧
        goodTrainingWord n w = true ∧ bs = leBytes 32 w.toNat ∧
        (recField bs 5 1 < (s.laneCfg n).sensors ∨ recField bs 4 1 ≠ (s.laneCfg n).rate)) ∧
    (∃ (s : State) (n : LaneId) (w : BitVec 256), s.powered = true ∧ (goodTrainingWord n w = false ∨ s.laneState n ≠ laneEXCHANGE)) ∧
    (∃ (s : State) (n : LaneId), s.powered = true ∧ s.laneState n = lanePRBS) ∧
    (∃ (s : State) (n : LaneId), s.powered = true ∧ training (s.laneState n) = true) ∧
    (∃ (s : State) (n : LaneId), s.powered = true ∧ s.laneState n = laneFAILED ∧ (s.laneCfg n).enabled = true) ∧
    (∃ (s : State) (n : LaneId), s.powered = true ∧ s.laneState n = laneUP ∧ (s.laneCfg n).enabled = true) ∧
    (∃ (s : State) (n : LaneId), s.powered = true ∧ (s.laneAt n).retrainWait = true ∧ (s.laneCfg n).enabled = true) ∧
    (∃ (s : State) (n : LaneId), s.powered = true ∧ s.laneState n ≠ laneREFWAIT) :=
  ⟨⟨upWith [(F.PACE_STATUS_upkeep_mode, upkeepAGE), (F.LANE_STATUS_state 0, laneFAILED)], 0, 0, by decide +kernel⟩,
   ⟨{ (upWith [(F.LANE_STATUS_state 0, laneUP)]) with lane := { State.reset.lane with streams := [(7, { stream0 with line := some line0 })] } },
       0, 0, 7, by decide +kernel⟩,
   ⟨upWith [], 0, 0, 2, by decide +kernel⟩,
   ⟨{ (upWith [(F.LANE_STATUS_state 0, laneTEST)]) with lane := { State.reset.lane with lanes := [(0, { lane0 with test := some (0, 1) })] } },
       0, 0, 0, 1, by decide +kernel⟩,
   ⟨{ (upWith [(F.LANE_STATUS_state 3, laneTEST)]) with lane := { State.reset.lane with lanes := [(3, { lane0 with test := some (1, 0) })] } },
       0, 3, 1, 0, by decide +kernel⟩,
   ⟨upWith [], 0, 0, by decide +kernel⟩,
   ⟨upWith [(F.LANE_STATUS_state 0, laneDISABLED)], 3, 0, by decide +kernel⟩,
   ⟨upWith [(F.LANE_STATUS_state 0, laneUP)], 0, 0, by decide +kernel⟩,
   ⟨upWith [(F.LANE_STATUS_state 0, laneUP), (F.PACE_STATUS_upkeep_mode, upkeepAGE)], 0, 0, by decide +kernel⟩,
   ⟨upWith [], 1, by decide +kernel⟩,
   ⟨upWith [(F.LANE_STATUS_state 0, laneREFWAIT)], 0, by decide +kernel⟩,
   ⟨upWith [(F.LANE_STATUS_state 0, laneLOCK)], 0, by decide +kernel⟩,
   ⟨{ (upWith [(F.LANE_STATUS_state 0, laneEXCHANGE)]) with lane := { State.reset.lane with lanes := [(0, { lane0 with words := 2, lastWord := trainWord 1 0 })] } },
       0, trainWord 1 0, leBytes 32 (trainWord 1 0).toNat, by decide +kernel⟩,
   ⟨{ (upWith [(F.LANE_STATUS_state 0, laneEXCHANGE)]) with lane := { State.reset.lane with lanes := [(0, { lane0 with words := 2, lastWord := trainWord 1 0 })] } },
       0, trainWord 2 0, leBytes 32 (trainWord 2 0).toNat, by decide +kernel⟩,
   ⟨upWith [(F.LANE_STATUS_state 0, laneEXCHANGE)], 0, trainWord 0 0, leBytes 32 (trainWord 0 0).toNat, by decide +kernel⟩,
   ⟨upWith [(F.LANE_STATUS_state 0, laneEXCHANGE)], 0, 5, by decide +kernel⟩,
   ⟨upWith [(F.LANE_STATUS_state 0, lanePRBS)], 0, by decide +kernel⟩,
   ⟨upWith [(F.LANE_STATUS_state 0, lanePRBS)], 0, by decide +kernel⟩,
   ⟨upWith [(F.LANE_STATUS_state 0, laneFAILED)], 0, by decide +kernel⟩,
   ⟨upWith [(F.LANE_STATUS_state 0, laneUP)], 0, by decide +kernel⟩,
   ⟨{ (upWith []) with lane := { State.reset.lane with lanes := [(0, { lane0 with retrainWait := true })] } }, 0, by decide +kernel⟩,
   ⟨upWith [(F.LANE_STATUS_state 0, laneFAILED)], 0, by decide +kernel⟩⟩

theorem witness_LanePackets :
    (∃ (s : State) (n : LaneId) (p : Packet) (first : Nat), s.powered = true ∧ s.goodPacket n 1 p ∧ s.streamState n p.stream = stANY ∧
        (s.streamAt n p.stream).lostFrom = some first ∧ s.triggered n p.stream = false) ∧
    (∃ (s : State) (n : LaneId) (p : Packet), s.powered = true ∧ s.goodPacket n 1 p ∧ (s.streamState n p.stream = stANY ∧
        (s.streamAt n p.stream).lostFrom = none ∨ s.streamState n p.stream = stORDER ∧ (s.streamAt n p.stream).line = none ∧
        s.get (F.LANE_STREAM_next_seq n p.stream) = p.seq ∨ s.streamState n p.stream = stRESEND ∧
        s.get (F.LANE_STREAM_next_seq n p.stream) = p.seq) ∧ s.triggered n p.stream = false) ∧
    (∃ (s : State) (n : LaneId) (p : Packet) (l : OpenLine), s.powered = true ∧ s.goodPacket n 1 p ∧ s.streamState n p.stream = stORDER ∧
        (s.streamAt n p.stream).line = some l ∧ (recField p.payload 7 1).testBit 1 = true ∧
        32769 ≤ (p.seq + 65536 - s.get (F.LANE_STREAM_next_seq n p.stream)) % 65536) ∧
    (∃ (s : State) (n : LaneId) (p : Packet), s.powered = true ∧ s.goodPacket n 2 p ∧ s.streamState n p.stream = stORDER ∧
        (s.streamAt n p.stream).stale = some p.seq) ∧
    (∃ (s : State) (n : LaneId) (p : Packet), s.powered = true ∧ s.goodPacket n 3 p ∧ s.streamState n p.stream = stORDER ∧
        (s.streamAt n p.stream).stale = some p.seq) ∧
    (∃ (s : State) (n : LaneId) (p : Packet) (l : OpenLine), s.powered = true ∧ s.goodPacket n 2 p ∧ s.streamState n p.stream = stORDER ∧
        (s.streamAt n p.stream).stale ≠ some p.seq ∧ (s.streamAt n p.stream).line = some l ∧ l.seq = p.seq ∧ l.index = p.index) ∧
    (∃ (s : State) (n : LaneId) (p : Packet) (l : OpenLine) (c : Nat), s.powered = true ∧ s.goodPacket n 3 p ∧
        s.streamState n p.stream = stORDER ∧ (s.streamAt n p.stream).stale ≠ some p.seq ∧ (s.streamAt n p.stream).line = some l ∧ l.seq = p.seq ∧
        recField p.payload 0 4 = l.data.length ∧ l.bad = false ∧ s.laneCtx n p.stream = some c ∧
        (s.ispChan (s.laneCfg n).channel).golden = none ∧ (s.ispChan (s.laneCfg n).channel).queue = [] ∧ (s.laneAt n).retrainWait = false) ∧
    (∃ (s : State) (n : LaneId) (p : Packet) (l : OpenLine), s.powered = true ∧ s.goodPacket n 2 p ∧ s.streamState n p.stream = stORDER ∧
        (s.streamAt n p.stream).stale ≠ some p.seq ∧ (s.streamAt n p.stream).line = some l ∧ (l.seq ≠ p.seq ∨ l.index ≠ p.index) ∧
        s.get (F.LANE_RETRY_limit n) > (s.streamAt n p.stream).naks) ∧
    (∃ (s : State) (n : LaneId) (p : Packet) (l : OpenLine), s.powered = true ∧ s.goodPacket n 3 p ∧ s.streamState n p.stream = stORDER ∧
        (s.streamAt n p.stream).stale ≠ some p.seq ∧ (s.streamAt n p.stream).line = some l ∧ l.seq = p.seq ∧ recField p.payload 0 4 ≠ l.data.length ∧
        s.get (F.LANE_RETRY_limit n) > (s.streamAt n p.stream).naks) ∧
    (∃ (s : State) (n : LaneId) (p : Packet), s.powered = true ∧ s.laneState n = laneUP ∧ p.badSync = false ∧ p.length ≤ 4096 ∧
        p.data.length ≤ (p.length + 7) / 8 * 8 ∧ p.crc.toNat ≠ packetCrc n p.stream p.seq (leBytes 8 p.head.toNat) p.data ∧
        s.streamState n p.stream = stORDER ∧ s.get (F.LANE_RETRY_limit n) > (s.streamAt n p.stream).naks) ∧
    (∃ (s : State) (n : LaneId), s.powered = true ∧ s.laneState n ≠ laneUP) ∧
    (∃ (s : State) (n : LaneId) (p : Packet), s.powered = true ∧ s.goodPacket n 5 p ∧ recField p.payload 0 1 = 4) ∧
    (∃ (s : State) (n : LaneId) (p : Packet) (k : Nat), s.powered = true ∧ s.goodPacket n 6 p ∧ p.length = 8 ∧ k < 8 ∧
        (s.streamAt n k).trigs.any (fun g => g.number == recField p.payload 0 2) = true ∧ s.streamState n p.stream ≠ stRESEND ∧
        s.streamState n p.stream ≠ stANY) ∧
    (∃ (s : State) (n : LaneId) (p : Packet), s.powered = true ∧ s.goodPacket n 7 p ∧ p.length = 8) ∧
    (∃ (s : State) (n : LaneId) (k : Fin 8), s.powered = true ∧ s.laneState n = laneUP ∧ s.streamState n k = stRESEND) ∧
    (∃ (s : State) (n : LaneId) (k : Fin 8), s.powered = true ∧ (s.laneState n ≠ laneUP ∨ s.streamState n k ≠ stRESEND)) :=
  ⟨⟨{ (upWith [(F.LANE_STREAM_state 0 (packetOf 1 0 7 0 (leBytes 4 100 ++ leBytes 2 4 ++ [0, 1])).stream, stANY), (F.LANE_STATUS_state 0, laneUP), (F.LANE_STREAM_state 0 0, stANY), (F.LANE_STREAM_next_seq 0 0, 7), (F.LANE_RETRY_limit 0, 2)]) with lane := { State.reset.lane with streams := [(0, { stream0 with lostFrom := some 5, lostCause := 3 })] } },
      0, packetOf 1 0 7 0 (leBytes 4 100 ++ leBytes 2 4 ++ [0, 1]), 5, by decide +kernel, by unfold State.goodPacket; decide +kernel,
      by decide +kernel, by decide +kernel, by decide +kernel⟩,
   ⟨upWith [(F.LANE_STATUS_state 0, laneUP), (F.LANE_STREAM_state 0 0, stORDER), (F.LANE_STREAM_next_seq 0 0, 7), (F.LANE_RETRY_limit 0,
       2)], 0, packetOf 1 0 7 0 (leBytes 4 100 ++ leBytes 2 4 ++ [0, 1]), by decide +kernel, by unfold State.goodPacket; decide +kernel,
       by decide +kernel, by decide +kernel⟩,
   ⟨{ (upWith [(F.LANE_STATUS_state 0, laneUP), (F.LANE_STREAM_state 0 0, stORDER), (F.LANE_STREAM_next_seq 0 0, 7), (F.LANE_RETRY_limit 0, 2)]) with lane := { State.reset.lane with streams := [(0, { stream0 with line := some line0 })] } },
       0, packetOf 1 0 6 0 (leBytes 4 100 ++ leBytes 2 4 ++ [0, 2]), line0, by decide +kernel, by unfold State.goodPacket; decide +kernel,
       by decide +kernel⟩,
   ⟨{ (upWith [(F.LANE_STATUS_state 0, laneUP), (F.LANE_STREAM_state 0 0, stORDER), (F.LANE_STREAM_next_seq 0 0, 7), (F.LANE_RETRY_limit 0, 2)]) with lane := { State.reset.lane with streams := [(0, { stream0 with stale := some 6 })] } },
       0, packetOf 2 0 6 1 [3], by decide +kernel, by unfold State.goodPacket; decide +kernel, by decide +kernel⟩,
   ⟨{ (upWith [(F.LANE_STATUS_state 0, laneUP), (F.LANE_STREAM_state 0 0, stORDER), (F.LANE_STREAM_next_seq 0 0, 7), (F.LANE_RETRY_limit 0, 2)]) with lane := { State.reset.lane with streams := [(0, { stream0 with stale := some 6 })] } },
       0, packetOf 3 0 6 1 (leBytes 4 2 ++ [0, 0, 0, 0]), by decide +kernel, by unfold State.goodPacket; decide +kernel, by decide +kernel⟩,
   ⟨{ (upWith [(F.LANE_STREAM_state 0 (packetOf 2 0 7 1 ([3, 4, 5])).stream, stORDER), (F.LANE_STATUS_state 0, laneUP), (F.LANE_STREAM_state 0 0, stORDER), (F.LANE_STREAM_next_seq 0 0, 7), (F.LANE_RETRY_limit 0, 2)]) with lane := { State.reset.lane with streams := [(0, { stream0 with line := some line0 })] } },
       0, packetOf 2 0 7 1 ([3, 4, 5]), line0, by decide +kernel, by unfold State.goodPacket; decide +kernel, by decide +kernel, by decide +kernel,
       by decide +kernel, by decide +kernel, by decide +kernel⟩,
   ⟨{ (upWith [(F.LANE_STREAM_state 0 (packetOf 3 0 7 0 (leBytes 4 2 ++ [0, 0, 0, 0])).stream, stORDER), (F.LANE_STATUS_state 0, laneUP), (F.LANE_STREAM_state 0 0, stORDER), (F.LANE_STREAM_next_seq 0 0, 7), (F.LANE_RETRY_limit 0, 2)]) with lane := { State.reset.lane with streams := [(0, { stream0 with line := some line0 })] } },
       0, packetOf 3 0 7 0 (leBytes 4 2 ++ [0, 0, 0, 0]), line0, 0, by decide +kernel, by unfold State.goodPacket; decide +kernel, by decide +kernel,
       by decide +kernel, by decide +kernel, by decide +kernel, by decide +kernel, by decide +kernel, by decide +kernel, by decide +kernel,
       by decide +kernel, by decide +kernel⟩,
   ⟨{ (upWith [(F.LANE_STREAM_state 0 (packetOf 2 0 7 2 ([3, 4, 5])).stream, stORDER), (F.LANE_STATUS_state 0, laneUP), (F.LANE_STREAM_state 0 0, stORDER), (F.LANE_STREAM_next_seq 0 0, 7), (F.LANE_RETRY_limit 0, 2)]) with lane := { State.reset.lane with streams := [(0, { stream0 with line := some line0 })] } },
       0, packetOf 2 0 7 2 ([3, 4, 5]), line0, by decide +kernel, by unfold State.goodPacket; decide +kernel, by decide +kernel, by decide +kernel,
       by decide +kernel, by decide +kernel, by decide +kernel⟩,
   ⟨{ (upWith [(F.LANE_STREAM_state 0 (packetOf 3 0 7 0 (leBytes 4 3 ++ [0, 0, 0, 0])).stream, stORDER), (F.LANE_STATUS_state 0, laneUP), (F.LANE_STREAM_state 0 0, stORDER), (F.LANE_STREAM_next_seq 0 0, 7), (F.LANE_RETRY_limit 0, 2)]) with lane := { State.reset.lane with streams := [(0, { stream0 with line := some line0 })] } },
       0, packetOf 3 0 7 0 (leBytes 4 3 ++ [0, 0, 0, 0]), line0, by decide +kernel, by unfold State.goodPacket; decide +kernel, by decide +kernel,
       by decide +kernel, by decide +kernel, by decide +kernel, by decide +kernel, by decide +kernel⟩,
   ⟨{ (upWith [(F.LANE_STREAM_state 0 (({ packetOf 2 0 7 1 [3] with crc := 0 } : Packet)).stream, stORDER), (F.LANE_STATUS_state 0, laneUP), (F.LANE_STREAM_state 0 0, stORDER), (F.LANE_STREAM_next_seq 0 0, 7), (F.LANE_RETRY_limit 0, 2)]) with lane := { State.reset.lane with streams := [(0, { stream0 with line := some line0 })] } },
       0, ({ packetOf 2 0 7 1 [3] with crc := 0 } : Packet), by decide +kernel⟩,
   ⟨upWith [(F.LANE_STATUS_state 0, laneTEST)], 0, by decide +kernel⟩,
   ⟨upWith [(F.LANE_STATUS_state 0, laneUP), (F.LANE_STREAM_state 0 0, stORDER), (F.LANE_STREAM_next_seq 0 0, 7), (F.LANE_RETRY_limit 0,
       2)], 0, packetOf 5 0 7 0 ([4, 0, 1, 0, 9, 0, 0, 0]), by decide +kernel, by unfold State.goodPacket; decide +kernel,
       by decide +kernel⟩,
   ⟨{ (upWith [(F.LANE_STATUS_state 0, laneUP), (F.LANE_STREAM_state 0 0, stORDER), (F.LANE_STREAM_next_seq 0 0, 7), (F.LANE_RETRY_limit 0, 2)]) with lane := { State.reset.lane with streams := [(7, { stream0 with trigs := [{ number := 9, count := 4, at_ := 0 }] })] } },
       0, packetOf 6 0 7 0 ([9, 0, 1, 0, 0, 0, 0, 0]), 7, by decide +kernel, by unfold State.goodPacket; decide +kernel, by decide +kernel,
       by decide +kernel, by decide +kernel, by decide +kernel, by decide +kernel⟩,
   ⟨upWith [(F.LANE_STATUS_state 0, laneUP), (F.LANE_STREAM_state 0 0, stORDER), (F.LANE_STREAM_next_seq 0 0, 7), (F.LANE_RETRY_limit 0,
       2)], 0, packetOf 7 0 7 0 ([0, 0, 0, 0, 0, 0, 0, 0]), by decide +kernel, by unfold State.goodPacket; decide +kernel,
       by decide +kernel⟩,
   ⟨upWith [(F.LANE_STATUS_state 0, laneUP), (F.LANE_STREAM_state 0 7, stRESEND), (F.LANE_RETRY_limit 0, 2), (F.LANE_STREAM_next_seq 0 7,
       7)], 0, 7, by decide +kernel⟩,
   ⟨upWith [(F.LANE_STATUS_state 0, laneUP), (F.LANE_STREAM_state 0 0, stORDER)], 0, 0, by decide +kernel⟩⟩

theorem witness_PipelineCommands :
    (∃ (s : State) (ch : Fin 16) (l : LineIn) (q : Nat), s.powered = true ∧ (s.ispChan ch).golden = none ∧
        (s.ispChan ch).queue = [.line l] ∧ (s.ctxCfg l.ctx).kind = 0 ∧ (s.ctx l.ctx).lastSeq = some q ∧
        linesSince ((s.get (F.ISP_CTX_LINES_count l.ctx) + (l.seq + 65536 - q) % 65536) % 2 ^ 32) (s.ctx l.ctx).frameAt < (s.ctx l.ctx).set.frameLines) ∧
    (∃ (s : State) (ch : Fin 16) (l : LineIn), s.powered = true ∧ (s.ispChan ch).golden = none ∧ (s.ispChan ch).queue = [.line l] ∧
        (s.ctxCfg l.ctx).kind = 2 ∧ s.get (F.ISP_CTX_STATUS_frame_open l.ctx) = 0 ∧ (s.ctx l.ctx).discard = false) ∧
    (∃ (s : State) (ch : Fin 16), s.powered = true ∧ ((s.ispChan ch).golden ≠ none ∨ (s.ispChan ch).queue = [])) ∧
    (∃ (s : State) (n : LaneId) (p : Packet) (c : Nat) (g : Nat), s.powered = true ∧ s.goodPacket n 4 p ∧
        s.streamState n p.stream ≠ stRESEND ∧ (s.streamAt n p.stream).line = none ∧ s.laneCtx n p.stream = some c ∧
        (s.ispChan (s.laneCfg n).channel).golden = some g) ∧
    (∃ (s : State) (n : LaneId) (p : Packet) (c : Nat), s.powered = true ∧ s.goodPacket n 4 p ∧ s.streamState n p.stream ≠ stRESEND ∧
        (s.streamAt n p.stream).line = none ∧ s.laneCtx n p.stream = some c ∧ (s.ispChan (s.laneCfg n).channel).golden = none ∧
        (s.ispChan (s.laneCfg n).channel).queue = [] ∧ (s.ctxCfg c).kind = 2 ∧ recField p.payload 4 1 = 1 ∧
        s.get (F.ISP_CTX_STATUS_frame_open c) = 0) ∧
    (∃ (s : State) (c : CtxId), s.powered = true ∧ (s.ctxCfg c).kind = 2 ∧ s.get (F.ISP_CTX_STATUS_frame_open c) = 1) ∧
    (∃ (s : State) (c : CtxId), s.powered = true ∧ ((s.ctxCfg c).kind ≠ 2 ∨ s.get (F.ISP_CTX_STATUS_frame_open c) = 0)) ∧
    (∃ (s : State) (i : Port) (c : CtxId), s.powered = true ∧ (s.privileged i = true ∨ s.owns i (s.ctxCfg c).part = true) ∧
        (s.ctxCfg c).defined = true ∧ s.get (F.ISP_CTX_STATUS_shadow c) ≠ shCOMMITTED ∧ s.get (F.ISP_CTX_STATUS_shadow c) ≠ shLOADING) ∧
    (∃ (s : State) (i : Port) (c : CtxId), s.powered = true ∧ (s.privileged i = true ∨ s.owns i (s.ctxCfg c).part = true) ∧
        (s.ctxCfg c).defined = true ∧ (s.get (F.ISP_CTX_STATUS_shadow c) = shCOMMITTED ∨ s.get (F.ISP_CTX_STATUS_shadow c) = shLOADING)) ∧
    (∃ (s : State) (c : CtxId) (bs : List Byte) (q : ParamSet), s.powered = true ∧ s.get (F.ISP_CTX_STATUS_shadow c) = shLOADING ∧
        s.get (F.ISP_CTX_LEN_hbm c) = 0 ∧ s.get64 (F.ISP_CTX_SRC_LO_addr c) (F.ISP_CTX_SRC_HI_addr c) % 64 = 0 ∧
        readSet bs (s.get (F.ISP_CTX_LEN_bytes c)) (s.ctxCfg c).kind (s.ctxPages c) (((tfind s.cfg.partTables (s.ctxCfg c).part).map (fun t => t.presets)).getD []) = .inl q) ∧
    (∃ (s : State) (c : CtxId) (bs : List Byte) (r : Nat) (o : Nat), s.powered = true ∧ s.get (F.ISP_CTX_STATUS_shadow c) = shLOADING ∧
        s.get (F.ISP_CTX_LEN_hbm c) = 0 ∧ s.get64 (F.ISP_CTX_SRC_LO_addr c) (F.ISP_CTX_SRC_HI_addr c) % 64 = 0 ∧
        readSet bs (s.get (F.ISP_CTX_LEN_bytes c)) (s.ctxCfg c).kind (s.ctxPages c) (((tfind s.cfg.partTables (s.ctxCfg c).part).map (fun t => t.presets)).getD []) = .inr (r,
        o)) ∧
    (∃ (s : State) (i : Port) (c : CtxId), s.powered = true ∧ (s.privileged i = true ∨ s.owns i (s.ctxCfg c).part = true) ∧
        (s.ctxCfg c).defined = true ∧ s.get (F.ISP_CTX_STATUS_shadow c) = shLOADED) ∧
    (∃ (s : State) (i : Port) (c : CtxId), s.powered = true ∧ (s.privileged i = true ∨ s.owns i (s.ctxCfg c).part = true) ∧
        (s.ctxCfg c).defined = true ∧ s.get (F.ISP_CTX_STATUS_shadow c) ≠ shLOADED) ∧
    (∃ (s : State) (i : Port) (c : CtxId), s.powered = true ∧ (s.privileged i = true ∨ s.owns i (s.ctxCfg c).part = true) ∧
        (s.ctxCfg c).defined = true ∧ (s.get (F.ISP_CTX_STATUS_shadow c) = shLOADED ∨ s.get (F.ISP_CTX_STATUS_shadow c) = shCOMMITTED)) ∧
    (∃ (s : State) (i : Port) (c : CtxId), s.powered = true ∧ (s.privileged i = true ∨ s.owns i (s.ctxCfg c).part = true) ∧
        (s.ctxCfg c).defined = true ∧ (s.get F.PACE_STATUS_upkeep_mode = upkeepLIVE ∨ s.get F.PACE_STATUS_upkeep_mode = upkeepBOTH)) ∧
    (∃ (s : State) (i : Port) (c : CtxId), s.powered = true ∧ (s.privileged i = true ∨ s.owns i (s.ctxCfg c).part = true) ∧
        (s.ctxCfg c).defined = true ∧ s.get F.PACE_STATUS_upkeep_mode ≠ upkeepLIVE ∧ s.get F.PACE_STATUS_upkeep_mode ≠ upkeepBOTH) ∧
    (∃ (s : State) (i : Port) (c : CtxId), s.powered = true ∧ s.privileged i = false ∧ s.owns i (s.ctxCfg c).part = false) ∧
    (∃ (s : State) (c : CtxId), s.powered = true ∧ s.hasGolden c = true ∧ (s.ctxCfg c).defined = true ∧
        (s.ispChan (s.ctxChan c)).golden = none ∧ s.get (F.ISP_LAYBY_bytes (s.ctxChan c)) ≤ 1572864) ∧
    (∃ (s : State) (c : CtxId), s.powered = true ∧ s.hasGolden c = true ∧ (s.ctxCfg c).defined = true ∧
        (s.ispChan (s.ctxChan c)).golden = none ∧ s.get (F.ISP_LAYBY_bytes (s.ctxChan c)) > 1572864) ∧
    (∃ (s : State) (c : CtxId) (d : BitVec 256), s.powered = true ∧ (s.ispChan (s.ctxChan c)).golden = some c.val ∧ s.isp.goldenWait = [] ∧
        (s.cfg.safety.goldens.find? (fun g => g.ctx == c.val)).map (fun g => g.digest) = some d) ∧
    (∃ (s : State) (c : CtxId) (d : BitVec 256), s.powered = true ∧ (s.ispChan (s.ctxChan c)).golden = some c.val ∧ s.isp.goldenWait = [] ∧
        (s.cfg.safety.goldens.find? (fun g => g.ctx == c.val)).map (fun g => g.digest) ≠ some d ∧ s.get (F.SAFE_CTX_mismatches c) < 255 ∧
        s.cfg.safety.goldenLimit ≤ s.get (F.SAFE_CTX_mismatches c) + 1) ∧
    (∃ (s : State) (c : CtxId), s.powered = true ∧ (s.ispChan (s.ctxChan c)).golden ≠ some c.val) :=
  ⟨⟨{ (upWith [(F.ISP_CTX_LINES_count 0, 3)]) with isp := { State.reset.isp with chans := [(0, { chan0Isp with queue := [.line lineIn0] })], ctxs := [(0, { ctx0 0 with lastSeq := some 6, set := { unitySet 0 with frameLines := 10 } })] } },
      0, lineIn0, 6, by decide +kernel⟩,
   ⟨{ (upWith [(F.ISP_CTX_STATUS_frame_open (({ lineIn0 with ctx := 1 } : LineIn)).ctx, 0)]) with isp := { State.reset.isp with chans := [(0, { chan0Isp with queue := [.line { lineIn0 with ctx := 1 }] })] } },
       0, ({ lineIn0 with ctx := 1 } : LineIn), by decide +kernel⟩,
   ⟨{ (upWith []) with isp := { State.reset.isp with chans := [(0, { chan0Isp with golden := some 3 })] } }, 0, by decide +kernel⟩,
   ⟨{ (upWith [(F.LANE_STATUS_state 0, laneUP)]) with isp := { State.reset.isp with chans := [(0, { chan0Isp with golden := some 3 })] } },
       0, packetOf 4 1 0 0 ([1, 0, 0, 0] ++ [1, 0, 0, 0]), 1, 3, by decide +kernel, by unfold State.goodPacket; decide +kernel,
       by decide +kernel, by decide +kernel, by decide +kernel, by decide +kernel⟩,
   ⟨upWith [(F.ISP_CTX_STATUS_frame_open 1, 0), (F.LANE_STATUS_state 0, laneUP)], 0, packetOf 4 1 0 0 ([1, 0, 0, 0] ++ [1, 0, 0, 0]), 1,
       by decide +kernel, by unfold State.goodPacket; decide +kernel, by decide +kernel, by decide +kernel, by decide +kernel,
       by decide +kernel, by decide +kernel, by decide +kernel, by decide +kernel, by decide +kernel⟩,
   ⟨upWith [(F.ISP_CTX_STATUS_frame_open 1, 1)], 1, by decide +kernel⟩,
   ⟨upWith [(F.ISP_CTX_STATUS_frame_open 0, 1)], 0, by decide +kernel⟩,
   ⟨upWith [], 0, 0, by decide +kernel⟩,
   ⟨upWith [(F.ISP_CTX_STATUS_shadow 0, shCOMMITTED)], 3, 0, by decide +kernel⟩,
   ⟨upWith [(F.ISP_CTX_LEN_hbm 0, 0), (F.ISP_CTX_STATUS_shadow 0, shLOADING), (F.ISP_CTX_LEN_bytes 0, 64)], 0, set0,
       ((readSet set0 64 0 16 []).getLeft?).getD (unitySet 0), by decide +kernel⟩,
   ⟨upWith [(F.ISP_CTX_LEN_hbm 0, 0), (F.ISP_CTX_LEN_bytes 0, 65), (F.ISP_CTX_STATUS_shadow 0, shLOADING)], 0, [1] ++ set0, ispFORMAT, 0,
       by decide +kernel⟩,
   ⟨upWith [(F.ISP_CTX_STATUS_shadow 0, shLOADED)], 0, 0, by decide +kernel⟩,
   ⟨upWith [(F.ISP_CTX_STATUS_shadow 0, shCOMMITTED)], 0, 0, by decide +kernel⟩,
   ⟨upWith [(F.ISP_CTX_STATUS_shadow 0, shLOADED)], 0, 0, by decide +kernel⟩,
   ⟨upWith [(F.PACE_STATUS_upkeep_mode, upkeepBOTH)], 0, 0, by decide +kernel⟩,
   ⟨upWith [(F.PACE_STATUS_upkeep_mode, upkeepAGE)], 0, 0, by decide +kernel⟩,
   ⟨upWith [], 2, 0, by decide +kernel⟩,
   ⟨{ (upWith [(F.ISP_LAYBY_bytes 0, 1572864)]) with cfg := { upReset.cfg with safety := { factorySafety with goldens := [golden0] } } },
       0, by decide +kernel⟩,
   ⟨{ (upWith [(F.ISP_LAYBY_bytes 0, 1572865)]) with cfg := { upReset.cfg with safety := { factorySafety with goldens := [golden0] } } },
       0, by decide +kernel⟩,
   ⟨{ (upWith []) with cfg := { upReset.cfg with safety := { factorySafety with goldens := [golden0] } }, isp := { State.reset.isp with chans := [(0, { chan0Isp with golden := some 0 })] } },
       0, 9, by decide +kernel⟩,
   ⟨{ (upWith [(F.SAFE_CTX_mismatches 0, 254)]) with cfg := { upReset.cfg with safety := { factorySafety with goldens := [golden0] } }, isp := { State.reset.isp with chans := [(0, { chan0Isp with golden := some 0 })] } },
       0, 8, by decide +kernel⟩,
   ⟨{ (upWith []) with isp := { State.reset.isp with chans := [(0, { chan0Isp with golden := some 5 })] } }, 0, by decide +kernel⟩⟩

theorem witness_IngestCommands :
    (∃ (s : State) (i : Port) (p : Part), s.powered = true ∧ s.mayIngest i p = true ∧ s.get (F.INGEST_Q_STATE_state p) ≠ iqSTOPPED) ∧
    (∃ (s : State) (i : Port) (p : Part), s.powered = true ∧ s.mayIngest i p = true ∧ s.get (F.INGEST_Q_STATE_state p) = iqSTOPPED) ∧
    (∃ (s : State) (i : Port) (p : Part) (b : BitVec 32), s.powered = true ∧ s.mayIngest i p = true ∧
        (b.toNat + 2 ^ 32 - s.get (F.INGEST_Q_HEAD_pos p)) % 2 ^ 32 ≤ 2 ^ s.get (F.INGEST_Q_RING_SIZE_log2 p)) ∧
    (∃ (s : State) (i : Port) (p : Part) (b : BitVec 32), s.powered = true ∧ s.mayIngest i p = true ∧
        2 ^ s.get (F.INGEST_Q_RING_SIZE_log2 p) < (b.toNat + 2 ^ 32 - s.get (F.INGEST_Q_HEAD_pos p)) % 2 ^ 32) ∧
    (∃ (s : State) (i : Port) (p : Part), s.powered = true ∧ s.mayIngest i p = false) ∧
    (∃ (s : State) (p : Part) (r : List Byte) (n : Nat) (k : Nat), s.powered = true ∧ n = s.get (F.INGEST_Q_RING_SIZE_batch p) ∧ n ≠ 0 ∧
        s.get (F.INGEST_Q_STATE_state p) = iqRUNNING ∧ s.get (F.INGEST_Q_HEAD_pos p) ≠ s.get (F.INGEST_Q_TAIL_pos p) ∧
        (s.ingestQueue p).batches = [] ∧ k = s.get (F.INGEST_Q_HEAD_pos p) / n ∧ ((s.ingestQueue p).next ≠ k + 1 ∨ (s.ingestQueue p).lastSize ≠ n) ∧
        (((tfind s.cfg.programs p).map (fun g => g.chains)).getD []).all (fun c => c.ringFits n (s.reach p)) = true ∧
        s.get (F.ROUTE_PART_over_quota p) = 0 ∧
        s.badDescriptor p (((tfind s.cfg.programs p).map (fun g => g.chains)).getD []) (r.take 64) = false) ∧
    (∃ (s : State) (p : Part), s.powered = true ∧
        (s.get (F.INGEST_Q_RING_SIZE_batch p) = 0 ∨ s.get (F.INGEST_Q_STATE_state p) = iqSTOPPED ∨ s.get (F.INGEST_Q_HEAD_pos p) = s.get (F.INGEST_Q_TAIL_pos p))) ∧
    (∃ (s : State) (p : Part) (v : BitVec 32) (x : SampleIn) (b : IngBatch) (j : Nat) (y : IngSlot) (c : ChainCfg) (bs : List Byte),
        s.powered = true ∧ s.slotAt p v.toNat = some (b, j, y) ∧ y.state = slREAD ∧ b.chain j = some c ∧
        s.sampleResult p b c y.desc x = .inr bs ∧ (s.ingestQueue p).batches = [b] ∧ ((∃ z ∈ b.slots, z.state = slUNREAD))) ∧
    (∃ (s : State) (p : Part) (v : BitVec 32) (x : SampleIn) (b : IngBatch) (j : Nat) (y : IngSlot) (c : ChainCfg) (cause : Nat),
        s.powered = true ∧ s.slotAt p v.toNat = some (b, j, y) ∧ y.state = slREAD ∧ b.chain j = some c ∧
        s.sampleResult p b c y.desc x = .inl cause ∧ (s.ingestQueue p).batches = [b] ∧ ((∃ z ∈ b.slots, z.state = slUNREAD))) ∧
    (∃ (s : State) (p : Part) (v : BitVec 32), s.powered = true ∧ ((∀ b j y, s.slotAt p v.toNat = some (b, j, y) → y.state ≠ slREAD))) ∧
    (∃ (s : State) (p : Part) (v : BitVec 32), s.powered = true ∧ ((∀ b j y, s.slotAt p v.toNat = some (b, j, y) → y.state ≠ slREAD ∧
        y.state ≠ slUNREAD))) :=
  ⟨⟨upWith [(F.INGEST_Q_STATE_state 1, iqDRAINING)], 0, 1, by decide +kernel⟩,
   ⟨upWith [(F.INGEST_Q_STATE_state 1, iqSTOPPED)], 1, 1, by decide +kernel⟩,
   ⟨upWith [(F.INGEST_Q_HEAD_pos 1, 4294967280), (F.INGEST_Q_RING_SIZE_log2 1, 4)], 0, 1, 2 ^ 32 - 1, by decide +kernel⟩,
   ⟨upWith [(F.INGEST_Q_HEAD_pos 1, 4294967280), (F.INGEST_Q_RING_SIZE_log2 1, 4)], 0, 1, 1, by decide +kernel⟩,
   ⟨upWith [], 2, 1, by decide +kernel⟩,
   ⟨{ (upWith [(F.ROUTE_PART_over_quota 1, 0), (F.INGEST_Q_RING_SIZE_batch 1, 2), (F.INGEST_Q_STATE_state 1, iqRUNNING), (F.INGEST_Q_HEAD_pos 1, 6), (F.INGEST_Q_TAIL_pos 1, 8)]) with ingest := [(1, { queue0 with next := 3 })], cfg := { upReset.cfg with programs := [(1, { program0 with chains := [chain0] })] }, isp := { State.reset.isp with ctxs := [(0, { ctx0 0 with set := { unitySet 0 with outputs := [{ content := 0, format := 0xE, h := 1, v := 1, x0 := 0, cropW := 1, y0 := 0, cropH := 1, dest := 0, ring := 4, ringOff := 0, stride := 1, tagOff := 0 }] } })] } },
       1, recordOf 64 [(4, 1, srcLIVE), (16, 4, 4), (8, 1, 0)], 2, 3, by decide +kernel⟩,
   ⟨upWith [(F.INGEST_Q_RING_SIZE_batch 1, 0)], 1, by decide +kernel⟩,
   ⟨{ (upWith []) with ingest := [(1, { queue0 with batches := [{ batch0 with slots := [{ slot00 with desc := recordOf 64 [(4, 1, srcHOST), (5, 1, 1)] }, { slot00 with state := slUNREAD }] }] })] },
       1, 4,
       ({ readOk := true, bytes := [7, 8] } : SampleIn),
       ({ batch0 with slots := [{ slot00 with desc := recordOf 64 [(4, 1, srcHOST), (5, 1, 1)] }, { slot00 with state := slUNREAD }] } : IngBatch),
       0, ({ slot00 with desc := recordOf 64 [(4, 1, srcHOST), (5, 1, 1)] } : IngSlot), chain0, [7, 8], by decide +kernel⟩,
   ⟨{ (upWith []) with ingest := [(1, { queue0 with batches := [{ batch0 with slots := [{ slot00 with desc := recordOf 64 [(4, 1, srcHOST), (5, 1, 1)] }, { slot00 with state := slUNREAD }] }] })] },
       1, 4,
       ({ readOk := false, bytes := [7, 8] } : SampleIn),
       ({ batch0 with slots := [{ slot00 with desc := recordOf 64 [(4, 1, srcHOST), (5, 1, 1)] }, { slot00 with state := slUNREAD }] } : IngBatch),
       0, ({ slot00 with desc := recordOf 64 [(4, 1, srcHOST), (5, 1, 1)] } : IngSlot), chain0, vcSOURCE, by decide +kernel⟩,
   ⟨{ (upWith []) with ingest := [(1, { queue0 with batches := [batch0] })] }, 1, 5, by decide +kernel, of_all_three (by decide +kernel)⟩,
   ⟨{ (upWith []) with ingest := [(1, { queue0 with batches := [{ batch0 with slots := [slot00, { slot00 with state := slDONE }] }] })] },
       1, 5, by decide +kernel, of_all_three (by decide +kernel)⟩⟩

theorem witness_PositionChannels :
    (∃ (s : State) (n : ChanId) (v : BitVec 3) (o : Nat) (d : Int), s.powered = true ∧ (s.chanCfg n).mode = 1 ∧ (s.cntState n = cntWAIT ∨ s.cntState n = cntVALID) ∧
        (s.chan n).levels = some o ∧ o % 4 ≠ v.toNat % 4 ∧ (quadPos o + 2) % 4 ≠ quadPos v.toNat ∧
        d = quadStep (s.chanCfg n).decode o v.toNat ∧ d ≠ 0) ∧
    (∃ (s : State) (n : ChanId), s.powered = true ∧ (s.chanCfg n).mode = 1 ∧ (s.chan n).levels = none) ∧
    (∃ (s : State) (n : ChanId) (v : BitVec 3) (o : Nat), s.powered = true ∧ (s.chanCfg n).mode = 1 ∧ (s.cntState n = cntWAIT ∨ s.cntState n = cntVALID) ∧
        (s.chan n).levels = some o ∧ o % 4 ≠ v.toNat % 4 ∧ (quadPos o + 2) % 4 = quadPos v.toNat ∧ (s.chan n).errTimes = []) ∧
    (∃ (s : State) (n : ChanId) (v : BitVec 3) (o : Nat), s.powered = true ∧ (s.chanCfg n).mode = 2 ∧ (s.cntState n = cntWAIT ∨ s.cntState n = cntVALID) ∧
        v.toNat ≠ 0 ∧ v.toNat ≠ 7 ∧ (s.chan n).levels = some o ∧ (hallPos o + 1) % 6 = hallPos v.toNat) ∧
    (∃ (s : State) (n : ChanId) (v : BitVec 3) (o : Nat), s.powered = true ∧ (s.chanCfg n).mode = 2 ∧ (s.cntState n = cntWAIT ∨ s.cntState n = cntVALID) ∧
        v.toNat ≠ 0 ∧ v.toNat ≠ 7 ∧ (s.chan n).levels = some o ∧ (hallPos v.toNat + 1) % 6 = hallPos o) ∧
    (∃ (s : State) (n : ChanId), s.powered = true ∧ s.cntState n ≠ cntWAIT ∧ s.cntState n ≠ cntVALID) ∧
    (∃ (s : State) (n : ChanId), s.powered = true ∧ (s.chanCfg n).mode = 1 ∧ s.cntState n ≠ cntFAULT ∧ (s.chan n).index = none) ∧
    (∃ (s : State) (n : ChanId), s.powered = true ∧ ((s.chanCfg n).mode ≠ 1 ∨ s.cntState n = cntFAULT)) ∧
    (∃ (s : State) (n : ChanId), s.powered = true ∧ s.serialMode n = true ∧ s.cntState n ≠ cntOFF) ∧
    (∃ (s : State) (n : ChanId), s.powered = true ∧ (s.serialMode n = false ∨ s.cntState n = cntOFF)) ∧
    (∃ (s : State) (n : ChanId) (f : SerialFrame) (r : Reading) (raw : Nat), s.powered = true ∧ (s.chan n).clocking = true ∧
        f.startMissing = false ∧ f.idleLow = false ∧ r = readFields (s.framing n).fields f.bits []
        { pos := 0, posBits := 0, turn := 0, turnBits := 0, parityBad := false, crcBad := false, error := false, warning := false } ∧
        r.parityBad = false ∧ r.crcBad = false ∧ r.error = false ∧ s.cntState n = cntWAIT ∧ (s.chan n).awaitFirst = true ∧ (s.chan
        n).everGood = false ∧ raw = r.turn * 2 ^ r.posBits + (if (s.framing n).gray then grayDecode r.posBits r.pos else r.pos) ∧
        (s.chanCfg n).reverse = false) ∧
    (∃ (s : State) (n : ChanId) (f : SerialFrame), s.powered = true ∧ (s.chan n).clocking = true ∧ f.idleLow = true ∧ s.cntState n =
        cntVALID ∧ (s.framing n).badLimit < s.get (F.MOT_CH_STATUS_bad_run n) + 1 ∧ s.get (F.MOT_CH_STATUS_bad_run n) < 65535) ∧
    (∃ (s : State) (n : ChanId), s.powered = true ∧ (s.chan n).clocking = false) ∧
    (∃ (s : State) (n : ChanId) (x : Nat × Milepost), s.powered = true ∧ (s.cntState n = cntWAIT ∨ s.cntState n = cntVALID) ∧ x ∈
        s.chanEntries n ∧ s.isSafetyPart x.2.part = true) ∧
    (∃ (s : State) (n : ChanId), s.powered = true ∧ s.cntState n = cntOFF) ∧
    (∃ (s : State) (n : ChanId), s.powered = true ∧ s.get (F.MOT_CH_STATUS_speed_state n) ≠ 0 ∧ s.serialMode n = false ∧ (∀ x ∈
        (s.chan n).changes, (s.chanCfg n).standstill ≤ s.clk.now - x.1)) ∧
    (∃ (s : State) (i : Port) (n : ChanId), s.powered = true ∧ s.privileged i = true ∧ s.cntState n = cntFAULT ∧ s.faultPersists n =
        false) ∧
    (∃ (s : State) (i : Port) (n : ChanId), s.powered = true ∧ s.privileged i = true ∧ s.cntState n = cntFAULT ∧ s.faultPersists n =
        true) ∧
    (∃ (s : State) (i : Port) (n : ChanId), s.powered = true ∧ s.privileged i = true ∧ s.cntState n ≠ cntFAULT) ∧
    (∃ (s : State) (i : Port), s.powered = true ∧ s.privileged i = false) :=
  ⟨⟨{ (upWith [(F.MOT_CH_STATUS_count_state 0, cntWAIT)]) with motion := { State.reset.motion with chans := [(0, { chan0 with levels := some 0 })] }, cfg := withChan (chanCfg0 1) },
       0, 1, 0, quadStep (chanCfg0 1).decode 0 1, by decide +kernel⟩,
   ⟨{ (upWith [(F.MOT_CH_STATUS_count_state 0, cntWAIT)]) with cfg := withChan (chanCfg0 1) }, 0, by decide +kernel⟩,
   ⟨{ (upWith [(F.MOT_CH_STATUS_count_state 0, cntVALID)]) with motion := { State.reset.motion with chans := [(0, { chan0 with levels := some 0 })] }, cfg := withChan (chanCfg0 1) },
       0, 3, 0, by decide +kernel⟩,
   ⟨{ (upWith [(F.MOT_CH_STATUS_count_state 0, cntWAIT)]) with motion := { State.reset.motion with chans := [(0, { chan0 with levels := some 1 })] }, cfg := withChan (chanCfg0 2) },
       0, 3, 1, by decide +kernel⟩,
   ⟨{ (upWith [(F.MOT_CH_STATUS_count_state 0, cntWAIT)]) with motion := { State.reset.motion with chans := [(0, { chan0 with levels := some 1 })] }, cfg := withChan (chanCfg0 2) },
       0, 5, 1, by decide +kernel⟩,
   ⟨{ (upWith [(F.MOT_CH_STATUS_count_state 0, cntFAULT)]) with motion := { State.reset.motion with chans := [(0, { chan0 with levels := some 1 })] }, cfg := withChan (chanCfg0 1) },
       0, by decide +kernel⟩,
   ⟨{ (upWith [(F.MOT_CH_STATUS_count_state 0, cntVALID)]) with motion := { State.reset.motion with chans := [(0, { chan0 with count := 7 })] }, cfg := withChan (chanCfg0 1) },
       0, by decide +kernel⟩,
   ⟨{ (upWith []) with cfg := withChan (chanCfg0 2) }, 0, by decide +kernel⟩,
   ⟨{ (upWith [(F.MOT_CH_STATUS_count_state 0, cntVALID)]) with cfg := withChan (chanCfg0 3) }, 0, by decide +kernel⟩,
   ⟨{ (upWith []) with cfg := withChan (chanCfg0 4) }, 0, by decide +kernel⟩,
   ⟨{ (upWith [(F.MOT_CH_STATUS_count_state 0, cntWAIT)]) with motion := { State.reset.motion with chans := [(0, { chan0 with clocking := true })] }, cfg := { upReset.cfg with tables := { factoryTables with channels := [chanCfg0 3], framings := [{ noFraming with fields := [(0, 8)] }] } } },
       0, ({ bits := [true, false, true, true, false, false, false, true, true], startMissing := false, idleLow := false } :
       SerialFrame), readFields
       (({ (upWith [(F.MOT_CH_STATUS_count_state 0, cntWAIT)]) with motion := { State.reset.motion with chans := [(0, { chan0 with clocking := true })] }, cfg := { upReset.cfg with tables := { factoryTables with channels := [chanCfg0 3], framings := [{ noFraming with fields := [(0, 8)] }] } } }).framing
       0).fields (({ bits := [true, false, true, true, false, false, false, true, true], startMissing := false, idleLow := false } :
       SerialFrame)).bits []
       { pos := 0, posBits := 0, turn := 0, turnBits := 0, parityBad := false, crcBad := false, error := false, warning := false },
       (readFields
       (({ (upWith [(F.MOT_CH_STATUS_count_state 0, cntWAIT)]) with motion := { State.reset.motion with chans := [(0, { chan0 with clocking := true })] }, cfg := { upReset.cfg with tables := { factoryTables with channels := [chanCfg0 3], framings := [{ noFraming with fields := [(0, 8)] }] } } }).framing
       0).fields (({ bits := [true, false, true, true, false, false, false, true, true], startMissing := false, idleLow := false } :
       SerialFrame)).bits []
       { pos := 0, posBits := 0, turn := 0, turnBits := 0, parityBad := false, crcBad := false, error := false, warning := false }).turn
       * 2 ^ (readFields
       (({ (upWith [(F.MOT_CH_STATUS_count_state 0, cntWAIT)]) with motion := { State.reset.motion with chans := [(0, { chan0 with clocking := true })] }, cfg := { upReset.cfg with tables := { factoryTables with channels := [chanCfg0 3], framings := [{ noFraming with fields := [(0, 8)] }] } } }).framing
       0).fields (({ bits := [true, false, true, true, false, false, false, true, true], startMissing := false, idleLow := false } :
       SerialFrame)).bits []
       { pos := 0, posBits := 0, turn := 0, turnBits := 0, parityBad := false, crcBad := false, error := false, warning := false }).posBits
       + (if
       (({ (upWith [(F.MOT_CH_STATUS_count_state 0, cntWAIT)]) with motion := { State.reset.motion with chans := [(0, { chan0 with clocking := true })] }, cfg := { upReset.cfg with tables := { factoryTables with channels := [chanCfg0 3], framings := [{ noFraming with fields := [(0, 8)] }] } } }).framing
       0).gray then grayDecode (readFields
       (({ (upWith [(F.MOT_CH_STATUS_count_state 0, cntWAIT)]) with motion := { State.reset.motion with chans := [(0, { chan0 with clocking := true })] }, cfg := { upReset.cfg with tables := { factoryTables with channels := [chanCfg0 3], framings := [{ noFraming with fields := [(0, 8)] }] } } }).framing
       0).fields (({ bits := [true, false, true, true, false, false, false, true, true], startMissing := false, idleLow := false } :
       SerialFrame)).bits []
       { pos := 0, posBits := 0, turn := 0, turnBits := 0, parityBad := false, crcBad := false, error := false, warning := false }).posBits
       (readFields
       (({ (upWith [(F.MOT_CH_STATUS_count_state 0, cntWAIT)]) with motion := { State.reset.motion with chans := [(0, { chan0 with clocking := true })] }, cfg := { upReset.cfg with tables := { factoryTables with channels := [chanCfg0 3], framings := [{ noFraming with fields := [(0, 8)] }] } } }).framing
       0).fields (({ bits := [true, false, true, true, false, false, false, true, true], startMissing := false, idleLow := false } :
       SerialFrame)).bits []
       { pos := 0, posBits := 0, turn := 0, turnBits := 0, parityBad := false, crcBad := false, error := false, warning := false }).pos
       else (readFields
       (({ (upWith [(F.MOT_CH_STATUS_count_state 0, cntWAIT)]) with motion := { State.reset.motion with chans := [(0, { chan0 with clocking := true })] }, cfg := { upReset.cfg with tables := { factoryTables with channels := [chanCfg0 3], framings := [{ noFraming with fields := [(0, 8)] }] } } }).framing
       0).fields (({ bits := [true, false, true, true, false, false, false, true, true], startMissing := false, idleLow := false } :
       SerialFrame)).bits []
       { pos := 0, posBits := 0, turn := 0, turnBits := 0, parityBad := false, crcBad := false, error := false, warning := false }).pos),
       by decide +kernel⟩,
   ⟨{ (upWith [(F.MOT_CH_STATUS_count_state 0, cntVALID), (F.MOT_CH_STATUS_bad_run 0, 4)]) with motion := { State.reset.motion with chans := [(0, { chan0 with clocking := true })] }, cfg := withChan (chanCfg0 3) },
       0, ({ bits := [], startMissing := false, idleLow := true } : SerialFrame), by decide +kernel⟩,
   ⟨upWith [], 0, by decide +kernel⟩,
   ⟨{ (upWith [(F.MOT_CH_STATUS_count_state 0, cntVALID)]) with motion := { State.reset.motion with chans := [(0, { chan0 with count := 3 })], entries := [(5, { milepost0 with part := 0 })] }, cfg := withChan (chanCfg0 1) },
       0, (5, { milepost0 with part := 0 }), by decide +kernel⟩,
   ⟨upWith [(F.MOT_CH_STATUS_count_state 0, cntOFF)], 0, by decide +kernel⟩,
   ⟨{ (upWith [(F.MOT_CH_STATUS_speed_state 0, 1)]) with cfg := withChan (chanCfg0 1) }, 0, by decide +kernel⟩,
   ⟨upWith [(F.MOT_CH_STATUS_count_state 0, cntFAULT), (F.MOT_CH_STATUS_fault_cause 0, 1)], 0, 0, by decide +kernel⟩,
   ⟨{ (upWith [(F.MOT_CH_STATUS_count_state 0, cntFAULT), (F.MOT_CH_STATUS_fault_cause 0, 1)]) with motion := { State.reset.motion with chans := [(0, { chan0 with lineBreak := true })] }, cfg := withChan (chanCfg0 1) },
       0, 0, by decide +kernel⟩,
   ⟨upWith [(F.MOT_CH_STATUS_count_state 0, cntVALID)], 0, 0, by decide +kernel⟩,
   ⟨upWith [], 1, by decide +kernel⟩⟩

theorem witness_Mileposts :
    (∃ (s : State) (p : Part) (r : List Byte) (c : Nat) (j : Nat) (g : PulseProgram), s.powered = true ∧ s.hasField = true ∧
        s.armReason p r = 0 ∧ c = recField r 1 1 ∧ s.freeEntry c = some j ∧ s.pulseProgram p (recField r 2 1) (recField r 4 4) = some g) ∧
    (∃ (s : State) (p : Part) (r : List Byte), s.powered = true ∧ s.hasField = true ∧ s.armReason p r ≠ 0 ∧ recField r 1 1 < 8 ∧
        (s.isSafetyPart p = false ∨ s.armRefusalSoft p = true)) ∧
    (∃ (s : State) (p : Part) (r : List Byte), s.powered = true ∧ s.hasField = true ∧ s.armReason p r ≠ 0 ∧ s.isSafetyPart p = true ∧
        s.armRefusalSoft p = false) ∧
    (∃ (s : State), s.powered = true ∧ s.hasField = false) ∧
    (∃ (s : State) (n : ChanId) (k : Nat) (e : Milepost) (st : PulseStep), s.powered = true ∧ s.due n = [(k, e)] ∧ k / 4096 = n.val ∧
        s.suppressed e.output = false ∧ s.motion.pulses = [] ∧ e.program.steps[0]? = some st ∧ st.action ≠ 0) ∧
    (∃ (s : State) (n : ChanId) (k : Nat) (e : Milepost), s.powered = true ∧ s.due n = [(k, e)] ∧ k / 4096 = n.val ∧
        s.get F.SAFE_STATUS_state = safeSAFE) ∧
    (∃ (s : State) (n : ChanId), s.powered = true ∧ s.due n = []) ∧
    (∃ (s : State) (n : ChanId) (e : Fin 4096) (u : Pulse) (st : PulseStep) (q : PulseStep), s.powered = true ∧ s.motion.pulses = [u] ∧
        u.entry = mpKey n e ∧ u.program.steps[u.step]? = some st ∧ (st.counts = false ∨ st.duration ≤ (s.chan n).count - u.stepCount) ∧
        u.program.steps[u.step + 1]? = some q ∧ q.action ≠ 0) ∧
    (∃ (s : State) (n : ChanId) (e : Fin 4096) (u : Pulse) (st : PulseStep), s.powered = true ∧ s.motion.pulses = [u] ∧
        u.entry = mpKey n e ∧ u.program.steps[u.step]? = some st ∧ (st.counts = false ∨ st.duration ≤ (s.chan n).count - u.stepCount) ∧
        ((u.program.steps[u.step + 1]? = none ∨ (∃ q, u.program.steps[u.step + 1]? = some q ∧ q.action = 0)))) ∧
    (∃ (s : State) (n : ChanId) (e : Fin 4096), s.powered = true ∧ s.pulseOf (mpKey n e) = none) ∧
    (∃ (s : State) (n : ChanId) (e : Fin 4096) (u : Pulse) (x : Milepost), s.powered = true ∧ s.motion.pulses = [u] ∧ u.entry = mpKey n e ∧
        tfind s.motion.entries u.entry = some x ∧ x.state = 3 ∧ x.serial = u.serial) ∧
    (∃ (s : State) (p : Part) (g : BitVec 32), s.powered = true ∧ (∀ u ∈ s.openSubjects p g.toNat, u.firedPeriod = none)) ∧
    (∃ (s : State) (p : Part) (g : BitVec 32) (u : Subject), s.powered = true ∧ s.host.subjects = [u] ∧ u.kind = 1 ∧ u.part = p.val ∧
        u.tag = g.toNat ∧ u.settled = false ∧ u.firedPeriod ≠ none) :=
  ⟨⟨{ (upWith [(F.MOT_CH_STATUS_count_state 0, cntVALID)]) with cfg := { withChan (chanCfg0 1) with partTables := [(1, tables0)] } }, 1,
      recordOf 32 [(0, 1, 1), (2, 1, 1), (3, 1, 3), (4, 4, 7), (8, 8, 1000000), (16, 2, 4)], 0, 0, program00, by decide +kernel⟩,
   ⟨upWith [], 1, recordOf 32 [(0, 1, 1), (2, 1, 1), (3, 1, 3), (4, 4, 7), (8, 8, 1000000), (16, 2, 4)], by decide +kernel⟩,
   ⟨upWith [], 0, recordOf 32 [(0, 1, 1), (2, 1, 1), (3, 1, 3), (4, 4, 7), (8, 8, 1000000), (16, 2, 4)], by decide +kernel⟩,
   ⟨{ (upWith []) with variant := .v9640 }, by decide +kernel⟩,
   ⟨{ (upWith [(F.MOT_CH_STATUS_count_state 0, cntVALID)]) with motion := { State.reset.motion with entries := [(5, milepost0)], chans := [(0, { chan0 with count := 10 })] } },
       0, 5, milepost0, ({ action := 1, counts := false, duration := 100 } : PulseStep), by decide +kernel⟩,
   ⟨{ (upWith [(F.SAFE_STATUS_state, safeSAFE), (F.MOT_CH_STATUS_count_state 0, cntVALID)]) with motion := { State.reset.motion with entries := [(5, milepost0)], chans := [(0, { chan0 with count := 10 })] } },
       0, 5, milepost0, by decide +kernel⟩,
   ⟨upWith [], 0, by decide +kernel⟩,
   ⟨{ (upWith []) with motion := { State.reset.motion with pulses := [pulse0] } }, 0, 4095, pulse0,
       ({ action := 1, counts := false, duration := 100 } : PulseStep), ({ action := 2, counts := true, duration := 5 } : PulseStep),
       by decide +kernel⟩,
   ⟨{ (upWith []) with motion := { State.reset.motion with pulses := [{ pulse0 with step := 1, stepCount := -5 }] } }, 0, 4095,
       ({ pulse0 with step := 1, stepCount := -5 } : Pulse), ({ action := 2, counts := true, duration := 5 } : PulseStep),
       by decide +kernel⟩,
   ⟨upWith [], 0, 0, by decide +kernel⟩,
   ⟨{ (upWith []) with motion := { State.reset.motion with pulses := [pulse0], entries := [(4095, { milepost0 with state := 3 })] } }, 0,
       4095, pulse0, ({ milepost0 with state := 3 } : Milepost), by decide +kernel⟩,
   ⟨{ (upWith []) with host := { State.reset.host with subjects := [subject0] } }, 1, 7, by decide +kernel⟩,
   ⟨{ (upWith []) with host := { State.reset.host with subjects := [(({ subject0 with firedPeriod := some 4 } : Subject))] } }, 1, 7,
       ({ subject0 with firedPeriod := some 4 } : Subject), by decide +kernel⟩⟩

theorem witness_FieldIo :
    (∃ (s : State) (d : Fin 8) (v : Divider) (c : Int), s.powered = true ∧ s.divider d = some v ∧ s.divSource d = some c ∧ v.started
        = true ∧ v.threshold ≤ c * 65536 ∧ v.busy = false) ∧
    (∃ (s : State) (d : Fin 8) (v : Divider) (c : Int), s.powered = true ∧ s.divider d = some v ∧ s.divSource d = some c ∧ v.started
        = true ∧ v.threshold ≤ c * 65536 ∧ v.busy = true ∧ v.waiting.length < 4) ∧
    (∃ (s : State) (d : Fin 8) (v : Divider) (c : Int), s.powered = true ∧ s.divider d = some v ∧ s.divSource d = some c ∧ v.started
        = true ∧ v.threshold ≤ c * 65536 ∧ v.busy = true ∧ 4 ≤ v.waiting.length) ∧
    (∃ (s : State) (d : Fin 8) (v : Divider) (c : Int), s.powered = true ∧ s.divider d = some v ∧ s.divSource d = some c ∧
        (v.started = false ∨ c * 65536 < v.threshold)) ∧
    (∃ (s : State) (d : Fin 8) (v : Divider) (c : Nat) (cs : List Nat), s.powered = true ∧ s.divider d = some v ∧ v.waiting = c ::
        cs) ∧
    (∃ (s : State) (d : Fin 8) (v : Divider), s.powered = true ∧ s.divider d = some v ∧ v.waiting = []) ∧
    (∃ (s : State) (i : Fin 32) (b : Bool), s.powered = true ∧ s.hasField = true ∧ s.island 120 = true ∧ s.fieldLow = false ∧
        (∀ e ∈ s.fio.settle, e.1 ≠ i.val) ∧ (s.get
        F.FIO_IN_state).testBit i ≠ b ∧ ((s.inCfg i).edge = 3 ∨ (s.inCfg i).edge = 1 ∧ b = true ∨ (s.inCfg i).edge = 2 ∧ b = false)) ∧
    (∃ (s : State) (i : Fin 32) (b : Bool), s.powered = true ∧ s.hasField = true ∧ s.island 120 = true ∧ s.fieldLow = false ∧
        (∀ e ∈ s.fio.settle, e.1 ≠ i.val) ∧ (s.get
        F.FIO_IN_state).testBit i ≠ b ∧ (s.inCfg i).edge = 0) ∧
    (∃ (s : State) (i : Fin 32) (b : Bool), s.powered = true ∧ s.hasField = true ∧ s.island 120 = true ∧ s.fieldLow = false ∧
        ∃ e ∈ s.fio.settle, e.1 = i.val) ∧
    (∃ (s : State), s.powered = true ∧ (s.hasField = false ∨ s.island 120 = false ∨ s.fieldLow = true)) ∧
    (∃ (s : State) (i : Port) (m : Word) (o : Nat), s.powered = true ∧ s.hasField = true ∧ o < 32 ∧ m.toNat.testBit o = true ∧
        s.mayDrive i o = false) ∧
    (∃ (s : State), s.powered = true ∧ s.hasField = false) ∧
    (∃ (s : State) (i : Port) (o : BitVec 6), s.powered = true ∧ s.hasField = true ∧ (s.privileged i = true ∨ s.claimPort i o.toNat
        = true) ∧ o.toNat < 32) ∧
    (∃ (s : State) (i : Port) (o : BitVec 6), s.powered = true ∧ s.hasField = true ∧ s.privileged i = false ∧ s.claimPort i o.toNat
        = false) ∧
    (∃ (s : State), s.powered = true ∧ s.hasField = true ∧ s.island 120 = true) ∧
    (∃ (s : State), s.powered = true ∧ s.island 120 = false) ∧
    (∃ (s : State) (o : Fin 32) (k : Nat), s.powered = true ∧ s.hasField = true ∧ s.island 120 = true ∧ k < 8) ∧
    (∃ (s : State) (o : Fin 32), s.powered = true ∧ s.hasField = true ∧ s.island 120 = true ∧ (∀ q, s.claim o = some q → q.2.openWireMask = false)) ∧
    (∃ (s : State) (o : Fin 32) (q : Nat × ClaimCfg), s.powered = true ∧ s.claim o = some q ∧ q.2.openWireMask = true) :=
  ⟨⟨{ (upWith [(F.MOT_CH_STATUS_count_state 0, cntVALID)]) with motion := { State.reset.motion with dividers := [(0, { started := true, threshold := 5 * 65536, waiting := [], busy := false, pulse := false })], chans := [(0, { chan0 with count := 5 })] }, cfg := { upReset.cfg with tables := { factoryTables with channels := [chanCfg0 1], dividers := [{ noDivider with source := 1, ratio := 65536, lanes := 1, streams := 1, width := 20, pulse := true }] } } },
       0, ({ started := true, threshold := 5 * 65536, waiting := [], busy := false, pulse := false } : Divider), 5, by decide +kernel⟩,
   ⟨{ (upWith [(F.MOT_CH_STATUS_count_state 0, cntVALID)]) with motion := { State.reset.motion with dividers := [(0, { started := true, threshold := 5 * 65536, waiting := [1, 2, 3], busy := true, pulse := false })], chans := [(0, { chan0 with count := 5 })] }, cfg := { upReset.cfg with tables := { factoryTables with channels := [chanCfg0 1], dividers := [{ noDivider with source := 1, ratio := 65536, lanes := 1, streams := 1, width := 20, pulse := true }] } } },
       0, ({ started := true, threshold := 5 * 65536, waiting := [1, 2, 3], busy := true, pulse := false } : Divider), 5,
       by decide +kernel⟩,
   ⟨{ (upWith [(F.MOT_CH_STATUS_count_state 0, cntVALID)]) with motion := { State.reset.motion with dividers := [(0, { started := true, threshold := 5 * 65536, waiting := [1, 2, 3, 4], busy := true, pulse := false })], chans := [(0, { chan0 with count := 5 })] }, cfg := { upReset.cfg with tables := { factoryTables with channels := [chanCfg0 1], dividers := [{ noDivider with source := 1, ratio := 65536, lanes := 1, streams := 1, width := 20, pulse := true }] } } },
       0, ({ started := true, threshold := 5 * 65536, waiting := [1, 2, 3, 4], busy := true, pulse := false } : Divider), 5,
       by decide +kernel⟩,
   ⟨{ (upWith [(F.MOT_CH_STATUS_count_state 0, cntVALID)]) with motion := { State.reset.motion with dividers := [(0, { started := true, threshold := 5 * 65536 + 1, waiting := [], busy := false, pulse := false })], chans := [(0, { chan0 with count := 5 })] }, cfg := { upReset.cfg with tables := { factoryTables with channels := [chanCfg0 1], dividers := [{ noDivider with source := 1, ratio := 65536, lanes := 1, streams := 1, width := 20, pulse := true }] } } },
       0, ({ started := true, threshold := 5 * 65536 + 1, waiting := [], busy := false, pulse := false } : Divider), 5,
       by decide +kernel⟩,
   ⟨{ (upWith [(F.MOT_CH_STATUS_count_state 0, cntVALID)]) with motion := { State.reset.motion with dividers := [(0, { started := true, threshold := 5 * 65536, waiting := [8, 9], busy := true, pulse := false })], chans := [(0, { chan0 with count := 5 })] }, cfg := { upReset.cfg with tables := { factoryTables with channels := [chanCfg0 1], dividers := [{ noDivider with source := 1, ratio := 65536, lanes := 1, streams := 1, width := 20, pulse := true }] } } },
       0, ({ started := true, threshold := 5 * 65536, waiting := [8, 9], busy := true, pulse := false } : Divider), 8, [9],
       by decide +kernel⟩,
   ⟨{ (upWith [(F.MOT_CH_STATUS_count_state 0, cntVALID)]) with motion := { State.reset.motion with dividers := [(0, { started := true, threshold := 5 * 65536, waiting := [], busy := true, pulse := false })], chans := [(0, { chan0 with count := 5 })] }, cfg := { upReset.cfg with tables := { factoryTables with channels := [chanCfg0 1], dividers := [{ noDivider with source := 1, ratio := 65536, lanes := 1, streams := 1, width := 20, pulse := true }] } } },
       0, ({ started := true, threshold := 5 * 65536, waiting := [], busy := true, pulse := false } : Divider), by decide +kernel⟩,
   ⟨{ (upWith []) with cfg := { upReset.cfg with tables := { factoryTables with inputs := [{ noFieldIn with edge := 3 }] } } }, 0,
       true, by decide +kernel⟩,
   ⟨{ (upWith []) with cfg := { upReset.cfg with tables := { factoryTables with inputs := [{ noFieldIn with edge := 0 }] } } }, 0,
       true, by decide +kernel⟩,
   ⟨{ (upWith []) with fio := { State.reset.fio with settle := [(31, 200, true)] } }, 31, false, by decide +kernel⟩,
   ⟨{ (upWith []) with variant := .v9640 }, by decide +kernel⟩,
   ⟨{ (upWith []) with cfg := { upReset.cfg with partTables := [(1, { tables0 with claims := [{ output := 3, host := true, retryMs := 0, openWireMask := true }] })] } },
       2, 8, 3, by decide +kernel⟩,
   ⟨{ (upWith []) with variant := .v9640 }, by decide +kernel⟩,
   ⟨upWith [], 0, 31, by decide +kernel⟩,
   ⟨upWith [], 1, 31, by decide +kernel⟩,
   ⟨upWith [], by decide +kernel⟩,
   ⟨darkReset, by decide +kernel⟩,
   ⟨upWith [], 31, 7, by decide +kernel⟩,
   ⟨{ (upWith []) with cfg := { upReset.cfg with partTables := [(1, { tables0 with claims := [{ output := 3, host := true, retryMs := 0, openWireMask := false }] })] } },
       3, by decide +kernel⟩,
   ⟨{ (upWith []) with cfg := { upReset.cfg with partTables := [(1, { tables0 with claims := [{ output := 3, host := true, retryMs := 0, openWireMask := true }] })] } },
       3, (1, { output := 3, host := true, retryMs := 0, openWireMask := true }), by decide +kernel⟩⟩

theorem witness_PtpServo :
    (∃ (s : State) (tp : Fin 2) (m : Ptp), s.powered = true ∧ s.goodMessage tp m ∧ m.twoStep = true) ∧
    (∃ (s : State) (tp : Fin 2) (m : Ptp) (off : Int), s.powered = true ∧ s.goodMessage tp m ∧ m.twoStep = false ∧ s.time.master =
        some (m.source, tp.val) ∧ off = s.localNs - ptpStamp m - ptpCorr m - s.masterPath tp ∧ s.timeValid = true ∧ s.time.slew = none ∧
        s.jump.natAbs < off.natAbs) ∧
    (∃ (s : State) (tp : Fin 2) (m : Ptp) (off : Int), s.powered = true ∧ s.goodMessage tp m ∧ m.twoStep = false ∧ s.time.master =
        some (m.source, tp.val) ∧ off = s.localNs - ptpStamp m - ptpCorr m - s.masterPath tp ∧ s.timeValid = true ∧ s.time.slew = none ∧
        off.natAbs ≤ s.jump.natAbs ∧ off.natAbs < 100 ∧ 15 ≤ s.time.goodRun ∧ s.get F.TIME_STATUS_state ≠ tsLOCKED) ∧
    (∃ (s : State) (tp : Fin 2) (m : Ptp) (off : Int), s.powered = true ∧ s.goodMessage tp m ∧ m.twoStep = false ∧ s.time.master =
        some (m.source, tp.val) ∧ off = s.localNs - ptpStamp m - ptpCorr m - s.masterPath tp ∧ s.timeValid = true ∧ s.time.slew = none ∧
        off.natAbs ≤ s.jump.natAbs ∧ 100 ≤ off.natAbs ∧ 3 ≤ s.time.badRun ∧ s.get F.TIME_STATUS_state = tsLOCKED) ∧
    (∃ (s : State) (tp : Fin 2) (m : Ptp) (off : Int), s.powered = true ∧ s.goodMessage tp m ∧ m.twoStep = false ∧ s.time.master =
        some (m.source, tp.val) ∧ off = s.localNs - ptpStamp m - ptpCorr m - s.masterPath tp ∧ s.timeValid = false ∧ s.time.measured =
        false ∧ s.time.step = none) ∧
    (∃ (s : State) (tp : Fin 2) (m : Ptp), s.powered = true ∧ s.goodMessage tp m ∧ m.twoStep = false ∧ s.time.master ≠ some
        (m.source, tp.val)) ∧
    (∃ (s : State) (tp : Fin 2) (m : Ptp), s.powered = true ∧ s.goodMessage tp m ∧ s.tcMode ≠ 0 ∧ s.island (109 + 2 * (1 - tp.val))
        = true) ∧
    (∃ (s : State) (tp : Fin 2) (m : Ptp) (w : SyncWait), s.powered = true ∧ s.goodMessage tp m ∧ s.time.syncWait.find? (fun w =>
        w.port == tp.val && w.source == m.source && w.seq == m.seq) = some w ∧ s.time.master = some (m.source, tp.val)) ∧
    (∃ (s : State) (tp : Fin 2) (m : Ptp) (w : SyncWait), s.powered = true ∧ s.goodMessage tp m ∧ s.time.syncWait.find? (fun w =>
        w.port == tp.val && w.source == m.source && w.seq == m.seq) = some w ∧ s.time.master ≠ some (m.source, tp.val)) ∧
    (∃ (s : State) (tp : Fin 2) (m : Ptp), s.powered = true ∧ s.goodMessage tp m ∧ s.time.syncWait.find? (fun w => w.port == tp.val
        && w.source == m.source && w.seq == m.seq) = none) :=
  ⟨⟨upWith [], 0, ({ ptp0 with twoStep := true } : Ptp), by decide +kernel, by unfold State.goodMessage; decide +kernel,
       by decide +kernel⟩,
   ⟨{ (upWith [(F.TIME_STATUS_valid, 1), (F.TIME_JUMP_ns, 500)]) with time := { State.reset.time with master := some ((({ ptp0 with source := 65536 * 9 + 1, sec := 7, ns := 0, correction := 65536 * 3 } : Ptp)).source, 0), pathDelay := 100 }, clk := { now := 400000000, sec := 7, ns := 1000, frac := 0, rest := 0 } },
       0, ({ ptp0 with source := 65536 * 9 + 1, sec := 7, ns := 0, correction := 65536 * 3 } : Ptp),
       ({ (upWith [(F.TIME_STATUS_valid, 1), (F.TIME_JUMP_ns, 500)]) with time := { State.reset.time with master := some ((({ ptp0 with source := 65536 * 9 + 1, sec := 7, ns := 0, correction := 65536 * 3 } : Ptp)).source, 0), pathDelay := 100 }, clk := { now := 400000000, sec := 7, ns := 1000, frac := 0, rest := 0 } }).localNs
       - ptpStamp (({ ptp0 with source := 65536 * 9 + 1, sec := 7, ns := 0, correction := 65536 * 3 } : Ptp)) - ptpCorr
       (({ ptp0 with source := 65536 * 9 + 1, sec := 7, ns := 0, correction := 65536 * 3 } : Ptp)) -
       ({ (upWith [(F.TIME_STATUS_valid, 1), (F.TIME_JUMP_ns, 500)]) with time := { State.reset.time with master := some ((({ ptp0 with source := 65536 * 9 + 1, sec := 7, ns := 0, correction := 65536 * 3 } : Ptp)).source, 0), pathDelay := 100 }, clk := { now := 400000000, sec := 7, ns := 1000, frac := 0, rest := 0 } }).masterPath
       0, by decide +kernel, by unfold State.goodMessage; decide +kernel, by decide +kernel, by decide +kernel, by decide +kernel,
       by decide +kernel, by decide +kernel, by decide +kernel⟩,
   ⟨{ (upWith [(F.TIME_STATUS_valid, 1), (F.TIME_JUMP_ns, 1000)]) with time := { State.reset.time with master := some ((({ ptp0 with source := 65536 * 9 + 1, sec := 7, ns := 900 - 102 - 0, correction := 65536 * 3 } : Ptp)).source, 0), pathDelay := 100, goodRun := 15 }, clk := { now := 400000000, sec := 7, ns := 1000, frac := 0, rest := 0 } },
       0, ({ ptp0 with source := 65536 * 9 + 1, sec := 7, ns := 900 - 102 - 0, correction := 65536 * 3 } : Ptp),
       ({ (upWith [(F.TIME_STATUS_valid, 1), (F.TIME_JUMP_ns, 1000)]) with time := { State.reset.time with master := some ((({ ptp0 with source := 65536 * 9 + 1, sec := 7, ns := 900 - 102 - 0, correction := 65536 * 3 } : Ptp)).source, 0), pathDelay := 100, goodRun := 15 }, clk := { now := 400000000, sec := 7, ns := 1000, frac := 0, rest := 0 } }).localNs
       - ptpStamp (({ ptp0 with source := 65536 * 9 + 1, sec := 7, ns := 900 - 102 - 0, correction := 65536 * 3 } : Ptp)) - ptpCorr
       (({ ptp0 with source := 65536 * 9 + 1, sec := 7, ns := 900 - 102 - 0, correction := 65536 * 3 } : Ptp)) -
       ({ (upWith [(F.TIME_STATUS_valid, 1), (F.TIME_JUMP_ns, 1000)]) with time := { State.reset.time with master := some ((({ ptp0 with source := 65536 * 9 + 1, sec := 7, ns := 900 - 102 - 0, correction := 65536 * 3 } : Ptp)).source, 0), pathDelay := 100, goodRun := 15 }, clk := { now := 400000000, sec := 7, ns := 1000, frac := 0, rest := 0 } }).masterPath
       0, by decide +kernel, by unfold State.goodMessage; decide +kernel, by decide +kernel, by decide +kernel, by decide +kernel,
       by decide +kernel, by decide +kernel, by decide +kernel, by decide +kernel, by decide +kernel, by decide +kernel⟩,
   ⟨{ (upWith [(F.TIME_STATUS_state, tsLOCKED), (F.TIME_STATUS_valid, 1), (F.TIME_JUMP_ns, 1000)]) with time := { State.reset.time with master := some ((({ ptp0 with source := 65536 * 9 + 1, sec := 7, ns := 0, correction := 65536 * 3 } : Ptp)).source, 0), pathDelay := 100, badRun := 3 }, clk := { now := 400000000, sec := 7, ns := 1000, frac := 0, rest := 0 } },
       0, ({ ptp0 with source := 65536 * 9 + 1, sec := 7, ns := 0, correction := 65536 * 3 } : Ptp),
       ({ (upWith [(F.TIME_STATUS_state, tsLOCKED), (F.TIME_STATUS_valid, 1), (F.TIME_JUMP_ns, 1000)]) with time := { State.reset.time with master := some ((({ ptp0 with source := 65536 * 9 + 1, sec := 7, ns := 0, correction := 65536 * 3 } : Ptp)).source, 0), pathDelay := 100, badRun := 3 }, clk := { now := 400000000, sec := 7, ns := 1000, frac := 0, rest := 0 } }).localNs
       - ptpStamp (({ ptp0 with source := 65536 * 9 + 1, sec := 7, ns := 0, correction := 65536 * 3 } : Ptp)) - ptpCorr
       (({ ptp0 with source := 65536 * 9 + 1, sec := 7, ns := 0, correction := 65536 * 3 } : Ptp)) -
       ({ (upWith [(F.TIME_STATUS_state, tsLOCKED), (F.TIME_STATUS_valid, 1), (F.TIME_JUMP_ns, 1000)]) with time := { State.reset.time with master := some ((({ ptp0 with source := 65536 * 9 + 1, sec := 7, ns := 0, correction := 65536 * 3 } : Ptp)).source, 0), pathDelay := 100, badRun := 3 }, clk := { now := 400000000, sec := 7, ns := 1000, frac := 0, rest := 0 } }).masterPath
       0, by decide +kernel, by unfold State.goodMessage; decide +kernel, by decide +kernel, by decide +kernel, by decide +kernel,
       by decide +kernel, by decide +kernel, by decide +kernel, by decide +kernel, by decide +kernel, by decide +kernel⟩,
   ⟨{ (upWith [(F.TIME_STATUS_valid, 0)]) with time := { State.reset.time with master := some ((({ ptp0 with source := 65536 * 9 + 1, sec := 7, ns := 0, correction := 65536 * 3 } : Ptp)).source, 0), pathDelay := 100 }, clk := { now := 400000000, sec := 7, ns := 1000, frac := 0, rest := 0 } },
       0, ({ ptp0 with source := 65536 * 9 + 1, sec := 7, ns := 0, correction := 65536 * 3 } : Ptp),
       ({ (upWith [(F.TIME_STATUS_valid, 0)]) with time := { State.reset.time with master := some ((({ ptp0 with source := 65536 * 9 + 1, sec := 7, ns := 0, correction := 65536 * 3 } : Ptp)).source, 0), pathDelay := 100 }, clk := { now := 400000000, sec := 7, ns := 1000, frac := 0, rest := 0 } }).localNs
       - ptpStamp (({ ptp0 with source := 65536 * 9 + 1, sec := 7, ns := 0, correction := 65536 * 3 } : Ptp)) - ptpCorr
       (({ ptp0 with source := 65536 * 9 + 1, sec := 7, ns := 0, correction := 65536 * 3 } : Ptp)) -
       ({ (upWith [(F.TIME_STATUS_valid, 0)]) with time := { State.reset.time with master := some ((({ ptp0 with source := 65536 * 9 + 1, sec := 7, ns := 0, correction := 65536 * 3 } : Ptp)).source, 0), pathDelay := 100 }, clk := { now := 400000000, sec := 7, ns := 1000, frac := 0, rest := 0 } }).masterPath
       0, by decide +kernel, by unfold State.goodMessage; decide +kernel, by decide +kernel, by decide +kernel, by decide +kernel,
       by decide +kernel, by decide +kernel, by decide +kernel⟩,
   ⟨upWith [], 0, ptp0, by decide +kernel, by unfold State.goodMessage; decide +kernel, by decide +kernel, by decide +kernel⟩,
   ⟨{ (upWith []) with cfg := { upReset.cfg with structureSec := { upReset.cfg.structureSec with tcMode := 2 } }, time := { State.reset.time with linkDelay := [(0, 55)] } },
       0, ptp0, by decide +kernel, by unfold State.goodMessage; decide +kernel, by decide +kernel⟩,
   ⟨{ (upWith []) with time := { State.reset.time with master := some (1, 0), syncWait := [{ port := 0, source := 1, seq := 1, at_ := 77, corr := 2 }] } },
       0, ({ ptp0 with ns := 5 } : Ptp), ({ port := 0, source := 1, seq := 1, at_ := 77, corr := 2 } : SyncWait), by decide +kernel,
       by unfold State.goodMessage; decide +kernel, by decide +kernel, by decide +kernel⟩,
   ⟨{ (upWith []) with time := { State.reset.time with syncWait := [{ port := 0, source := 1, seq := 1, at_ := 77, corr := 2 }] } },
       0, ({ ptp0 with ns := 5 } : Ptp), ({ port := 0, source := 1, seq := 1, at_ := 77, corr := 2 } : SyncWait), by decide +kernel,
       by unfold State.goodMessage; decide +kernel, by decide +kernel, by decide +kernel⟩,
   ⟨upWith [], 0, ptp0, by decide +kernel, by unfold State.goodMessage; decide +kernel, by decide +kernel⟩⟩

theorem witness_PtpProtocol :
    (∃ (s : State) (tp : Fin 2) (m : Ptp), s.powered = true ∧ s.island (108 + 2 * tp.val) = true ∧ m.bridgeFull = false ∧ (m.domain
        ≠ s.cfg.structureSec.domain ∨ m.version ≠ 2 ∨ m.length < m.claimed)) ∧
    (∃ (s : State) (tp : Fin 2) (m : Ptp), s.powered = true ∧ s.goodMessage tp m ∧ 255 ≤ m.dataset.getD 6 0) ∧
    (∃ (s : State) (tp : Fin 2) (m : Ptp), s.powered = true ∧ s.goodMessage tp m ∧ m.dataset.getD 6 0 < 255 ∧ m.source / 65536 =
        Config.clockIdentity.toNat) ∧
    (∃ (s : State) (tp : Fin 2) (m : Ptp) (g : Foreign) (a : Nat) (l : List Nat), s.powered = true ∧ s.goodMessage tp m ∧ m.dataset.getD 6 0 < 255 ∧ m.source
        / 65536 ≠ Config.clockIdentity.toNat ∧ s.time.foreign = [g] ∧ g.source = m.source ∧ g.port = tp.val ∧ g.heard = a :: l ∧ s.clk.now < a + 4 * s.announceSamples ∧
        (s.masterCapable = false ∨ better s.ownDataset m.dataset = false)) ∧
    (∃ (s : State) (tp : Fin 2) (m : Ptp) (g : Foreign) (a : Nat) (l : List Nat), s.powered = true ∧ s.goodMessage tp m ∧ m.dataset.getD 6 0 < 255 ∧ m.source
        / 65536 ≠ Config.clockIdentity.toNat ∧ s.time.foreign = [g] ∧ g.source = m.source ∧ g.port = tp.val ∧ g.heard = a :: l ∧ s.clk.now < a + 4 * s.announceSamples ∧
        s.masterCapable = true ∧ better s.ownDataset m.dataset = true) ∧
    (∃ (s : State) (tp : Fin 2) (m : Ptp), s.powered = true ∧ s.goodMessage tp m ∧ m.dataset.getD 6 0 < 255 ∧
        m.source / 65536 ≠ Config.clockIdentity.toNat ∧ s.time.foreign = [] ∧ s.time.master = none) ∧
    (∃ (s : State) (tp : Fin 2) (m : Ptp), s.powered = true ∧ s.goodMessage tp m ∧ s.island (109 + 2 * tp.val) = true ∧ s.tcMode = 0
        ∧ s.on F.TIME_STATUS_grandmaster = true ∧ s.peerDelay = false) ∧
    (∃ (s : State) (tp : Fin 2) (m : Ptp), s.powered = true ∧ s.goodMessage tp m ∧ s.tcMode = 0 ∧ s.on F.TIME_STATUS_grandmaster =
        false) ∧
    (∃ (s : State) (tp : Fin 2) (m : Ptp) (a : Nat) (b : Nat) (t3 : Int) (leg : Int), s.powered = true ∧ s.goodMessage tp m ∧
        m.target = portIdentity tp ∧ s.time.delayReq.find? (fun e => e.1 == tp.val && e.2.1 == m.seq) = some (a, b, t3) ∧ s.time.syncLeg
        = some leg) ∧
    (∃ (s : State) (tp : Fin 2) (m : Ptp), s.powered = true ∧ s.goodMessage tp m ∧ m.target = portIdentity tp ∧
        s.time.delayReq.find? (fun e => e.1 == tp.val && e.2.1 == m.seq) = none) ∧
    (∃ (s : State) (tp : Fin 2) (m : Ptp), s.powered = true ∧ s.goodMessage tp m ∧ m.target ≠ portIdentity tp ∧ s.tcMode ≠ 0 ∧
        s.island (109 + 2 * (1 - tp.val)) = true) ∧
    (∃ (s : State) (src : Nat) (tp : Nat) (n : Nat), s.powered = true ∧ s.time.master = some (src, tp) ∧ s.peerDelay = false ∧
        s.island (109 + 2 * tp) = true ∧ n = tget 0 s.time.seqNos (16 * tp + ptpDELAYREQ)) ∧
    (∃ (s : State) (tp : Fin 2) (n : Nat), s.powered = true ∧ s.island (109 + 2 * tp.val) = true ∧ s.peerDelay = true ∧ n = tget 0
        s.time.seqNos (16 * tp.val + ptpPDELAYREQ)) ∧
    (∃ (s : State) (tp : Fin 2) (m : Ptp), s.powered = true ∧ s.goodMessage tp m ∧ s.island (109 + 2 * tp.val) = true ∧ s.peerDelay
        = true) ∧
    (∃ (s : State) (tp : Fin 2) (m : Ptp) (a : Nat) (b : Nat) (t1 : Int) (o : Option Int), s.powered = true ∧ s.goodMessage tp m ∧
        m.target = portIdentity tp ∧ s.time.pdelayReq.find? (fun e => e.1 == tp.val && e.2.1 == m.seq) = some (a, b, t1, o) ∧ m.twoStep
        = false) ∧
    (∃ (s : State) (tp : Fin 2) (m : Ptp) (a : Nat) (b : Nat) (t1 : Int) (o : Option Int), s.powered = true ∧ s.goodMessage tp m ∧
        m.target = portIdentity tp ∧ s.time.pdelayReq.find? (fun e => e.1 == tp.val && e.2.1 == m.seq) = some (a, b, t1, o) ∧ m.twoStep
        = true) ∧
    (∃ (s : State) (tp : Fin 2) (m : Ptp) (a : Nat) (b : Nat) (t1 : Int) (v : Int), s.powered = true ∧ s.goodMessage tp m ∧ m.target
        = portIdentity tp ∧ s.time.pdelayReq.find? (fun e => e.1 == tp.val && e.2.1 == m.seq) = some (a, b, t1, some v)) ∧
    (∃ (s : State) (tp : Fin 2) (m : Ptp), s.powered = true ∧ s.goodMessage tp m ∧ m.target = portIdentity tp ∧
        s.time.pdelayReq.find? (fun e => e.1 == tp.val && e.2.1 == m.seq) = none) ∧
    (∃ (s : State) (tp : Fin 2) (n : Nat), s.powered = true ∧ s.on F.TIME_STATUS_grandmaster = true ∧ s.timeLinked tp = true ∧ n =
        tget 0 s.time.seqNos (16 * tp.val + ptpSYNC)) ∧
    (∃ (s : State) (tp : Fin 2) (n : Nat), s.powered = true ∧ s.on F.TIME_STATUS_grandmaster = true ∧ s.timeLinked tp = true ∧ n =
        tget 0 s.time.seqNos (16 * tp.val + ptpANNOUNCE)) ∧
    (∃ (s : State) (src : Nat) (tp : Nat), s.powered = true ∧ s.time.master = some (src, tp) ∧ (∀ f ∈ s.time.foreign, f.source = src
        ∧ f.port = tp) ∧ s.timeValid = true ∧ s.get F.TIME_STATUS_state ≠ tsHOLDOVER) ∧
    (∃ (s : State) (src : Nat) (tp : Nat), s.powered = true ∧ s.time.master = some (src, tp) ∧ (∀ f ∈ s.time.foreign, f.source = src
        ∧ f.port = tp) ∧ s.timeValid = false) ∧
    (∃ (s : State) (tp : Fin 2), s.powered = true ∧ s.island (108 + 2 * tp.val) = true) ∧
    (∃ (s : State) (tp : Fin 2), s.powered = true ∧ s.island (108 + 2 * tp.val) = false) :=
  ⟨⟨upWith [], 0, ({ ptp0 with version := 1 } : Ptp), by decide +kernel⟩,
   ⟨upWith [], 0, ({ ptp0 with dataset := [128, 6, 33, 0, 128, 1, 255] } : Ptp), by decide +kernel,
       by unfold State.goodMessage; decide +kernel, by decide +kernel⟩,
   ⟨upWith [], 0, ({ ptp0 with source := Config.clockIdentity.toNat * 65536 + 65535, dataset := [128, 6, 33, 0, 128, 1, 254] } :
       Ptp), by decide +kernel, by unfold State.goodMessage; decide +kernel, by decide +kernel, by dsimp only; exact ownClock⟩,
   ⟨{ (upWith []) with time := { State.reset.time with foreign := [{ source := 2 ^ 90 + 1, port := 0, dataset := [], heard := [399999999] }] }, clk := { now := 400000000, sec := 7, ns := 1000, frac := 0, rest := 0 } },
       0, ({ ptp0 with source := 2 ^ 90 + 1, dataset := [128, 6, 33, 0, 128, 1, 3] } : Ptp),
       ({ source := 2 ^ 90 + 1, port := 0, dataset := [], heard := [399999999] } : Foreign), 399999999, [], by decide +kernel,
       by unfold State.goodMessage; decide +kernel, by decide +kernel, by dsimp only; exact notOwnClock, by decide +kernel, by decide +kernel,
       by decide +kernel, by decide +kernel, by decide +kernel, by decide +kernel⟩,
   ⟨{ (upWith []) with time := { State.reset.time with foreign := [{ source := 2 ^ 90 + 1, port := 0, dataset := [], heard := [399999999] }] }, clk := { now := 400000000, sec := 7, ns := 1000, frac := 0, rest := 0 }, cfg := { upReset.cfg with structureSec := { upReset.cfg.structureSec with masterCapable := true } } },
       0, ({ ptp0 with source := 2 ^ 90 + 1, dataset := [129, 6, 33, 0, 128, 1, 3] } : Ptp),
       ({ source := 2 ^ 90 + 1, port := 0, dataset := [], heard := [399999999] } : Foreign), 399999999, [], by decide +kernel,
       by unfold State.goodMessage; decide +kernel, by decide +kernel, by dsimp only; exact notOwnClock, by decide +kernel, by decide +kernel,
       by decide +kernel, by decide +kernel, by decide +kernel, by decide +kernel, by decide +kernel⟩,
   ⟨upWith [], 0, ({ ptp0 with source := 2 ^ 90 + 1, dataset := [128, 6, 33, 0, 128, 1, 3] } : Ptp), by decide +kernel,
       by unfold State.goodMessage; decide +kernel, by decide +kernel, by dsimp only; exact notOwnClock, by decide +kernel⟩,
   ⟨{ (upWith [(F.TIME_STATUS_grandmaster, 1)]) with clk := { now := 400000000, sec := 7, ns := 1000, frac := 0, rest := 0 } }, 0,
       ({ ptp0 with seq := 9 } : Ptp), by decide +kernel, by unfold State.goodMessage; decide +kernel, by decide +kernel⟩,
   ⟨upWith [(F.TIME_STATUS_grandmaster, 0)], 0, ({ ptp0 with seq := 9 } : Ptp), by decide +kernel,
       by unfold State.goodMessage; decide +kernel, by decide +kernel, by decide +kernel⟩,
   ⟨{ (upWith []) with time := { State.reset.time with delayReq := [(0, 1, 7000000500)], syncLeg := some 70 } }, 0,
       ({ ptp0 with target := portIdentity (0 : Fin 2).val, sec := 7, ns := 900 } : Ptp), 0, 1, 7000000500, 70, by decide +kernel,
       by unfold State.goodMessage; decide +kernel, rfl, by decide +kernel, by decide +kernel⟩,
   ⟨upWith [], 0, ({ ptp0 with target := portIdentity (0 : Fin 2).val } : Ptp), by decide +kernel,
       by unfold State.goodMessage; decide +kernel, rfl, by decide +kernel⟩,
   ⟨{ (upWith []) with cfg := { upReset.cfg with structureSec := { upReset.cfg.structureSec with tcMode := 1 } } }, 0,
       ({ ptp0 with target := 0 } : Ptp), by decide +kernel, by unfold State.goodMessage; decide +kernel, by decide +kernel⟩,
   ⟨{ (upWith []) with time := { State.reset.time with master := some (5, 1), seqNos := [(16 + ptpDELAYREQ, 3)] }, clk := { now := 400000000, sec := 7, ns := 1000, frac := 0, rest := 0 } },
       5, 1, 3, by decide +kernel⟩,
   ⟨{ (upWith []) with time := { State.reset.time with seqNos := [(ptpPDELAYREQ, 65535)] }, cfg := { upReset.cfg with structureSec := { upReset.cfg.structureSec with p2p := true } }, clk := { now := 400000000, sec := 7, ns := 1000, frac := 0, rest := 0 } },
       0, 65535, by decide +kernel⟩,
   ⟨{ (upWith []) with cfg := { upReset.cfg with structureSec := { upReset.cfg.structureSec with p2p := true } }, clk := { now := 400000000, sec := 7, ns := 1000, frac := 0, rest := 0 } },
       0, ({ ptp0 with seq := 4 } : Ptp), by decide +kernel, by unfold State.goodMessage; decide +kernel, by decide +kernel⟩,
   ⟨{ (upWith []) with time := { State.reset.time with pdelayReq := [(0, 1, 500, none)] }, clk := { now := 400000000, sec := 7, ns := 1000, frac := 0, rest := 0 } },
       0, ({ ptp0 with target := portIdentity (0 : Fin 2).val } : Ptp), 0, 1, 500, none, by decide +kernel,
       by unfold State.goodMessage; decide +kernel, rfl, by decide +kernel, by decide +kernel⟩,
   ⟨{ (upWith []) with time := { State.reset.time with pdelayReq := [(0, 1, 500, none)] }, clk := { now := 400000000, sec := 7, ns := 1000, frac := 0, rest := 0 } },
       0, ({ ptp0 with target := portIdentity (0 : Fin 2).val, twoStep := true } : Ptp), 0, 1, 500, none, by decide +kernel,
       by unfold State.goodMessage; decide +kernel, rfl, by decide +kernel, by decide +kernel⟩,
   ⟨{ (upWith []) with time := { State.reset.time with pdelayReq := [(0, 1, 500, some 900)] }, clk := { now := 400000000, sec := 7, ns := 1000, frac := 0, rest := 0 } },
       0, ({ ptp0 with target := portIdentity (0 : Fin 2).val, sec := 6, ns := 5 } : Ptp), 0, 1, 500, 900, by decide +kernel,
       by unfold State.goodMessage; decide +kernel, rfl, by decide +kernel⟩,
   ⟨upWith [], 0, ({ ptp0 with target := portIdentity (0 : Fin 2).val } : Ptp), by decide +kernel,
       by unfold State.goodMessage; decide +kernel, rfl, by decide +kernel⟩,
   ⟨{ (upWith [(F.TIME_STATUS_grandmaster, 1)]) with time := { State.reset.time with seqNos := [(ptpSYNC, 65535)] }, clk := { now := 400000000, sec := 7, ns := 1000, frac := 0, rest := 0 } },
       0, 65535, by decide +kernel⟩,
   ⟨upWith [(F.TIME_STATUS_grandmaster, 1)], 0, 0, by decide +kernel⟩,
   ⟨{ (upWith [(F.TIME_STATUS_valid, 1)]) with time := { State.reset.time with master := some (5, 0) } }, 5, 0, by decide +kernel⟩,
   ⟨{ (upWith []) with time := { State.reset.time with master := some (5, 0), foreign := [{ source := 5, port := 0, dataset := [], heard := [3] }] } },
       5, 0, by decide +kernel⟩,
   ⟨upWith [], 0, by decide +kernel⟩,
   ⟨darkReset, 0, by decide +kernel⟩⟩

theorem witness_TimeCommands :
    (∃ (s : State) (i : Port), s.powered = true ∧ s.privileged i = true ∧ s.masterPresent = true) ∧
    (∃ (s : State) (i : Port), s.powered = true ∧ s.privileged i = true ∧ s.masterPresent = false) ∧
    (∃ (s : State) (i : Port) (p : Part) (n : Nat), s.powered = true ∧ (s.privileged i = true ∨ s.owns i p = true) ∧ s.timeValid = true ∧
        n = s.get64 (F.TIME_START_LO_count i) (F.TIME_START_HI_count i) ∧ s.milestone ≤ n) ∧
    (∃ (s : State) (i : Port) (p : Part), s.powered = true ∧ s.privileged i = false ∧ s.owns i p = false) ∧
    (∃ (s : State) (i : Port) (p : Part), s.powered = true ∧ (s.privileged i = true ∨ s.owns i p = true) ∧ s.timeValid = false) ∧
    (∃ (s : State) (i : Port) (p : Part), s.powered = true ∧ (s.privileged i = true ∨ s.owns i p = true) ∧ s.timeValid = true ∧
        s.get64 (F.TIME_START_LO_count i) (F.TIME_START_HI_count i) < s.milestone) :=
  ⟨⟨{ (upWith []) with time := { State.reset.time with master := some (5, 0), measured := true } }, 0, by decide +kernel⟩,
   ⟨upWith [], 0, by decide +kernel⟩,
   ⟨{ (upWith [(F.TIME_START_LO_count 1, 5), (F.TIME_START_HI_count 1, 1), (F.TIME_STATUS_valid, 1)]) with clk := { now := 400000000, sec := 0, ns := 5000, frac := 0, rest := 0 } },
       1, 1, 2 ^ 32 + 5, by decide +kernel⟩,
   ⟨upWith [], 2, 1, by decide +kernel⟩,
   ⟨upWith [(F.TIME_STATUS_valid, 0)], 0, 1, by decide +kernel⟩,
   ⟨{ (upWith [(F.TIME_START_LO_count 0, 4), (F.TIME_STATUS_valid, 1)]) with clk := { now := 400000000, sec := 0, ns := 5000, frac := 0, rest := 0 } },
       0, 1, by decide +kernel⟩⟩

theorem witness_LaunchQueues :
    (∃ (s : State) (tp : Fin 2) (p : Part) (r : List Byte) (x : Launch), s.powered = true ∧ x =
        { timeNs := recField r 0 6 * 1000000000 + recField r 6 4, length := recField r 10 2, loc := recField r 12 4 } ∧ (s.launchClaim
        tp).map (fun e => e.1) = some p.val ∧ recField r 6 4 < 1000000000 ∧ 60 ≤ x.length ∧ x.length ≤ 1518 ∧ 64 * x.loc + x.length ≤
        0x4000000 ∧ s.timeValid = true ∧ (s.launches tp).length < 64 ∧ ((∀ y, (s.launches tp).getLast? = some y → y.timeNs ≤ x.timeNs))) ∧
    (∃ (s : State) (tp : Fin 2) (p : Part) (r : List Byte) (x : Launch), s.powered = true ∧ x =
        { timeNs := recField r 0 6 * 1000000000 + recField r 6 4, length := recField r 10 2, loc := recField r 12 4 } ∧ ((s.launchClaim
        tp).map (fun e => e.1) ≠ some p.val ∨ 1000000000 ≤ recField r 6 4 ∨ x.length < 60 ∨ 1518 < x.length ∨ 0x4000000 < 64 * x.loc +
        x.length)) ∧
    (∃ (s : State) (tp : Fin 2) (p : Part) (r : List Byte) (x : Launch), s.powered = true ∧ x =
        { timeNs := recField r 0 6 * 1000000000 + recField r 6 4, length := recField r 10 2, loc := recField r 12 4 } ∧ (s.launchClaim
        tp).map (fun e => e.1) = some p.val ∧ recField r 6 4 < 1000000000 ∧ 60 ≤ x.length ∧ x.length ≤ 1518 ∧ 64 * x.loc + x.length ≤
        0x4000000 ∧ s.timeValid = false) ∧
    (∃ (s : State) (tp : Fin 2) (p : Part) (r : List Byte) (x : Launch), s.powered = true ∧ x =
        { timeNs := recField r 0 6 * 1000000000 + recField r 6 4, length := recField r 10 2, loc := recField r 12 4 } ∧ (s.launchClaim
        tp).map (fun e => e.1) = some p.val ∧ recField r 6 4 < 1000000000 ∧ 60 ≤ x.length ∧ x.length ≤ 1518 ∧ 64 * x.loc + x.length ≤
        0x4000000 ∧ s.timeValid = true ∧ 64 ≤ (s.launches tp).length) ∧
    (∃ (s : State) (tp : Fin 2) (p : Part) (r : List Byte) (x : Launch) (y : Launch), s.powered = true ∧ x =
        { timeNs := recField r 0 6 * 1000000000 + recField r 6 4, length := recField r 10 2, loc := recField r 12 4 } ∧ (s.launchClaim
        tp).map (fun e => e.1) = some p.val ∧ recField r 6 4 < 1000000000 ∧ 60 ≤ x.length ∧ x.length ≤ 1518 ∧ 64 * x.loc + x.length ≤
        0x4000000 ∧ s.timeValid = true ∧ (s.launches tp).length < 64 ∧ (s.launches tp).getLast? = some y ∧ x.timeNs < y.timeNs) ∧
    (∃ (s : State) (tp : Fin 2) (x : Launch) (rest : List Launch), s.powered = true ∧ s.launches tp = x :: rest ∧ x.timeNs ≤
        s.localNs + 8 ∧ s.localNs ≤ x.timeNs + 8 ∧ s.island (109 + 2 * tp.val) = true) ∧
    (∃ (s : State) (tp : Fin 2) (x : Launch) (rest : List Launch), s.powered = true ∧ s.launches tp = x :: rest ∧ s.localNs + 8 <
        x.timeNs) ∧
    (∃ (s : State) (tp : Fin 2) (x : Launch) (rest : List Launch) (q : Nat × LaunchClaim), s.powered = true ∧ s.launches tp = x ::
        rest ∧ x.timeNs + 8 < s.localNs ∧ s.launchClaim tp = some q ∧ q.2.sendLate = true ∧ s.localNs - x.timeNs ≤ q.2.windowUs * 1000 ∧
        s.island (109 + 2 * tp.val) = true) ∧
    (∃ (s : State) (tp : Fin 2) (x : Launch) (rest : List Launch) (q : Nat × LaunchClaim), s.powered = true ∧ s.launches tp = x ::
        rest ∧ x.timeNs + 8 < s.localNs ∧ s.launchClaim tp = some q ∧ (q.2.sendLate = false ∨ q.2.windowUs * 1000 < s.localNs -
        x.timeNs)) ∧
    (∃ (s : State) (tp : Fin 2) (x : Launch) (rest : List Launch), s.powered = true ∧ s.launches tp = x :: rest ∧ x.timeNs ≤
        s.localNs + 8 ∧ s.localNs ≤ x.timeNs + 8 ∧ s.island (109 + 2 * tp.val) = false) ∧
    (∃ (s : State) (tp : Fin 2), s.powered = true ∧ s.launches tp = []) :=
  ⟨⟨{ (upWith [(F.TIME_STATUS_valid, 1)]) with cfg := { upReset.cfg with partTables := [(1, { tables0 with launch := [{ queue := 0, sendLate := true, windowUs := 5 }] })] }, time := { State.reset.time with queues := [(0, [{ timeNs := 3999999999, length := 60, loc := 0 }])] } },
       0, 1, recordOf 16 [(0, 6, 3), (6, 4, 999999999), (10, 2, 1518), (12, 4, 0xFFFE8)],
       ({ timeNs := recField (recordOf 16 [(0, 6, 3), (6, 4, 999999999), (10, 2, 1518), (12, 4, 0xFFFE8)]) 0 6 * 1000000000 + recField (recordOf 16 [(0, 6, 3), (6, 4, 999999999), (10, 2, 1518), (12, 4, 0xFFFE8)]) 6 4, length := recField (recordOf 16 [(0, 6, 3), (6, 4, 999999999), (10, 2, 1518), (12, 4, 0xFFFE8)]) 10 2, loc := recField (recordOf 16 [(0, 6, 3), (6, 4, 999999999), (10, 2, 1518), (12, 4, 0xFFFE8)]) 12 4 }
       : Launch), by decide +kernel⟩,
   ⟨{ (upWith [(F.TIME_STATUS_valid, 1)]) with cfg := { upReset.cfg with partTables := [(1, { tables0 with launch := [{ queue := 0, sendLate := true, windowUs := 5 }] })] } },
       0, 1, recordOf 16 [(0, 6, 3), (6, 4, 1000000000), (10, 2, 60), (12, 4, 0)],
       ({ timeNs := recField (recordOf 16 [(0, 6, 3), (6, 4, 1000000000), (10, 2, 60), (12, 4, 0)]) 0 6 * 1000000000 + recField (recordOf 16 [(0, 6, 3), (6, 4, 1000000000), (10, 2, 60), (12, 4, 0)]) 6 4, length := recField (recordOf 16 [(0, 6, 3), (6, 4, 1000000000), (10, 2, 60), (12, 4, 0)]) 10 2, loc := recField (recordOf 16 [(0, 6, 3), (6, 4, 1000000000), (10, 2, 60), (12, 4, 0)]) 12 4 }
       : Launch), by decide +kernel⟩,
   ⟨{ (upWith [(F.TIME_STATUS_valid, 0)]) with cfg := { upReset.cfg with partTables := [(1, { tables0 with launch := [{ queue := 0, sendLate := true, windowUs := 5 }] })] } },
       0, 1, recordOf 16 [(0, 6, 3), (6, 4, 0), (10, 2, 60), (12, 4, 0)],
       ({ timeNs := recField (recordOf 16 [(0, 6, 3), (6, 4, 0), (10, 2, 60), (12, 4, 0)]) 0 6 * 1000000000 + recField (recordOf 16 [(0, 6, 3), (6, 4, 0), (10, 2, 60), (12, 4, 0)]) 6 4, length := recField (recordOf 16 [(0, 6, 3), (6, 4, 0), (10, 2, 60), (12, 4, 0)]) 10 2, loc := recField (recordOf 16 [(0, 6, 3), (6, 4, 0), (10, 2, 60), (12, 4, 0)]) 12 4 }
       : Launch), by decide +kernel⟩,
   ⟨{ (upWith [(F.TIME_STATUS_valid, 1)]) with cfg := { upReset.cfg with partTables := [(1, { tables0 with launch := [{ queue := 0, sendLate := true, windowUs := 5 }] })] }, time := { State.reset.time with queues := [(0, List.replicate 64 ({ timeNs := 0, length := 60, loc := 0 } : Launch))] } },
       0, 1, recordOf 16 [(0, 6, 3), (6, 4, 0), (10, 2, 60), (12, 4, 0)],
       ({ timeNs := recField (recordOf 16 [(0, 6, 3), (6, 4, 0), (10, 2, 60), (12, 4, 0)]) 0 6 * 1000000000 + recField (recordOf 16 [(0, 6, 3), (6, 4, 0), (10, 2, 60), (12, 4, 0)]) 6 4, length := recField (recordOf 16 [(0, 6, 3), (6, 4, 0), (10, 2, 60), (12, 4, 0)]) 10 2, loc := recField (recordOf 16 [(0, 6, 3), (6, 4, 0), (10, 2, 60), (12, 4, 0)]) 12 4 }
       : Launch), by decide +kernel⟩,
   ⟨{ (upWith [(F.TIME_STATUS_valid, 1)]) with cfg := { upReset.cfg with partTables := [(1, { tables0 with launch := [{ queue := 0, sendLate := true, windowUs := 5 }] })] }, time := { State.reset.time with queues := [(0, [{ timeNs := 3000000001, length := 60, loc := 0 }])] } },
       0, 1, recordOf 16 [(0, 6, 3), (6, 4, 0), (10, 2, 60), (12, 4, 0)],
       ({ timeNs := recField (recordOf 16 [(0, 6, 3), (6, 4, 0), (10, 2, 60), (12, 4, 0)]) 0 6 * 1000000000 + recField (recordOf 16 [(0, 6, 3), (6, 4, 0), (10, 2, 60), (12, 4, 0)]) 6 4, length := recField (recordOf 16 [(0, 6, 3), (6, 4, 0), (10, 2, 60), (12, 4, 0)]) 10 2, loc := recField (recordOf 16 [(0, 6, 3), (6, 4, 0), (10, 2, 60), (12, 4, 0)]) 12 4 }
       : Launch), ({ timeNs := 3000000001, length := 60, loc := 0 } : Launch), by decide +kernel⟩,
   ⟨{ (upWith []) with cfg := { upReset.cfg with partTables := [(1, { tables0 with launch := [{ queue := 0, sendLate := true, windowUs := 5 }] })] }, time := { State.reset.time with queues := [(0, [{ timeNs := 3000005008, length := 60, loc := 0 }])] }, clk := { now := 400000000, sec := 3, ns := 5000, frac := 0, rest := 0 } },
       0, ({ timeNs := 3000005008, length := 60, loc := 0 } : Launch), [], by decide +kernel⟩,
   ⟨{ (upWith []) with cfg := { upReset.cfg with partTables := [(1, { tables0 with launch := [{ queue := 0, sendLate := true, windowUs := 5 }] })] }, time := { State.reset.time with queues := [(0, [{ timeNs := 3000005009, length := 60, loc := 0 }])] }, clk := { now := 400000000, sec := 3, ns := 5000, frac := 0, rest := 0 } },
       0, ({ timeNs := 3000005009, length := 60, loc := 0 } : Launch), [], by decide +kernel⟩,
   ⟨{ (upWith []) with cfg := { upReset.cfg with partTables := [(1, { tables0 with launch := [{ queue := 0, sendLate := true, windowUs := 5 }] })] }, time := { State.reset.time with queues := [(0, [{ timeNs := 3000000000, length := 60, loc := 0 }])] }, clk := { now := 400000000, sec := 3, ns := 5000, frac := 0, rest := 0 } },
       0, ({ timeNs := 3000000000, length := 60, loc := 0 } : Launch), [], (1, { queue := 0, sendLate := true, windowUs := 5 }),
       by decide +kernel⟩,
   ⟨{ (upWith []) with cfg := { upReset.cfg with partTables := [(1, { tables0 with launch := [{ queue := 0, sendLate := true, windowUs := 5 }] })] }, time := { State.reset.time with queues := [(0, [{ timeNs := 2999999999, length := 60, loc := 0 }])] }, clk := { now := 400000000, sec := 3, ns := 5000, frac := 0, rest := 0 } },
       0, ({ timeNs := 2999999999, length := 60, loc := 0 } : Launch), [], (1, { queue := 0, sendLate := true, windowUs := 5 }),
       by decide +kernel⟩,
   ⟨{ darkReset with time := { State.reset.time with queues := [(0, [{ timeNs := 0, length := 60, loc := 0 }])] } }, 0,
       ({ timeNs := 0, length := 60, loc := 0 } : Launch), [], by decide +kernel⟩,
   ⟨upWith [], 0, by decide +kernel⟩⟩

theorem witness_PeerSides :
    (∃ (s : State) (k : Fin 2) (e : PeerHead) (h : Hello), s.powered = true ∧ s.peerLane k e.lane = true ∧ e.bridgeFull = false ∧
        e.sound k = true ∧ s.goodHello k h ∧ s.sideUp k = false ∧ (s.side k).lanes + 2 ^ e.lane.val = 3 ∧
        (s.side k).lanes.testBit e.lane = false ∧ (s.side k).helloRun e.lane h = 3) ∧
    (∃ (s : State) (k : Fin 2) (e : PeerHead) (h : Hello), s.powered = true ∧ s.peerLane k e.lane = true ∧ e.bridgeFull = false ∧
        e.sound k = true ∧ s.goodHello k h ∧ s.sideUp k = false ∧ (s.side k).lanes = 0 ∧
        (s.side k).helloRun e.lane h = 3) ∧
    (∃ (s : State) (k : Fin 2) (e : PeerHead) (h : Hello) (n : Nat), s.powered = true ∧ s.peerLane k e.lane = true ∧ e.bridgeFull = false ∧
        e.sound k = true ∧ s.goodHello k h ∧ s.sideUp k = false ∧ (s.side k).lanes ≠ 3 ∧ n = (s.side k).helloRun e.lane h ∧ n < 3) ∧
    (∃ (s : State) (k : Fin 2) (e : PeerHead) (h : Hello), s.powered = true ∧ s.peerLane k e.lane = true ∧ e.bridgeFull = false ∧
        e.sound k = true ∧ ¬ s.goodHello k h) ∧
    (∃ (s : State) (k : Fin 2) (e : PeerHead), s.powered = true ∧ s.peerLane k e.lane = true ∧ e.bridgeFull = false ∧ e.sound k = false) ∧
    (∃ (s : State) (k : Fin 2) (e : PeerHead), s.powered = true ∧ s.peerLane k e.lane = false) ∧
    (∃ (s : State) (k : Fin 2), s.powered = true ∧ s.get (F.PEER_SIDE_state k) = laneFAILED) ∧
    (∃ (s : State) (k : Fin 2), s.powered = true ∧ s.get (F.PEER_SIDE_state k) ≠ laneFAILED) ∧
    (∃ (s : State) (k : Fin 2), s.powered = true ∧ s.sideUp k = true) :=
  ⟨⟨{ (upWith []) with cfg := { upReset.cfg with tables := { factoryTables with position := 3, peers := [{ expected := true, node := 77 }, { expected := true, node := 78 }] } }, peer := { State.reset.peer with sides := [(0, { side0 with lanes := 2, hellos := [(0, ({ node := 77, position := 2, digests := [5] }, 2))] })] } },
       0, head0, ({ node := 77, position := 2, digests := [5] } : Hello), by decide +kernel, by decide +kernel, by decide +kernel,
       by decide +kernel, by unfold State.goodHello; decide +kernel, by decide +kernel⟩,
   ⟨{ (upWith []) with cfg := { upReset.cfg with tables := { factoryTables with position := 3, peers := [{ expected := true, node := 77 }, { expected := true, node := 78 }] } }, peer := { State.reset.peer with sides := [(0, { side0 with hellos := [(0, ({ node := 77, position := 2, digests := [5] }, 2))] })] } },
       0, head0, ({ node := 77, position := 2, digests := [5] } : Hello), by decide +kernel, by decide +kernel, by decide +kernel,
       by decide +kernel, by unfold State.goodHello; decide +kernel, by decide +kernel⟩,
   ⟨{ (upWith []) with cfg := { upReset.cfg with tables := { factoryTables with position := 3, peers := [{ expected := true, node := 77 }, { expected := true, node := 78 }] } }, peer := { State.reset.peer with sides := [(0, { side0 with lanes := 2, hellos := [(0, ({ node := 77, position := 2, digests := [5] }, 1))] })] } },
       0, head0, ({ node := 77, position := 2, digests := [5] } : Hello), 2, by decide +kernel, by decide +kernel, by decide +kernel,
       by decide +kernel, by unfold State.goodHello; decide +kernel, by decide +kernel⟩,
   ⟨{ (upWith []) with cfg := { upReset.cfg with tables := { factoryTables with position := 3, peers := [{ expected := true, node := 77 }, { expected := true, node := 78 }] } } },
       0, head0, ({ node := 77, position := 3, digests := [5] } : Hello), by decide +kernel, by decide +kernel, by decide +kernel,
       by decide +kernel, by unfold State.goodHello; decide +kernel⟩,
   ⟨upWith [], 0, ({ head0 with lane := 1 } : PeerHead), by decide +kernel⟩,
   ⟨darkReset, 0, head0, by decide +kernel⟩,
   ⟨upWith [(F.PEER_SIDE_state 0, laneFAILED)], 0, by decide +kernel⟩,
   ⟨upWith [], 0, by decide +kernel⟩,
   ⟨upWith [(F.PEER_STATUS_west_up, 1)], 0, by decide +kernel⟩⟩

theorem witness_PeerPackets :
    (∃ (s : State) (k : Fin 2) (e : PeerHead), s.powered = true ∧ s.sideUp k = true ∧ s.peerLane k e.lane = true ∧ e.bridgeFull =
        false ∧ (e.sound k = false ∨ e.seq.toNat ≠ (s.side k).rxNext)) ∧
    (∃ (s : State) (k : Fin 2) (e : PeerHead), s.powered = true ∧ s.peerHears k e ∧ e.seq.toNat = (s.side k).rxNext ∧ (s.side
        k).granted = 0) ∧
    (∃ (s : State) (k : Fin 2) (e : PeerHead), s.powered = true ∧ (s.sideUp k = false ∨ s.peerLane k e.lane = false)) ∧
    (∃ (s : State) (k : Fin 2) (e : PeerHead) (seam : Fin 2) (line : BitVec 32) (row : List Byte) (c : SeamCfg), s.powered = true ∧
        s.peerTakes k e ∧ s.seamNo k seam = some c ∧ c.stride * 64 ≤ row.length ∧ (s.seamTagAddr c line.toNat + 16 ≤ s.seamRowAddr c
        line.toNat ∨ s.seamRowAddr c line.toNat + c.stride * 64 ≤ s.seamTagAddr c line.toNat)) ∧
    (∃ (s : State) (k : Fin 2) (e : PeerHead) (seam : Fin 2) (line : BitVec 32) (d : BitVec 256) (b : SeamWait), s.powered = true ∧
        s.peerTakes k e ∧ s.peer.blocks = [b] ∧ b.seam = 2 * k.val + seam.val ∧ b.line = line.toNat ∧ b.own = some d) ∧
    (∃ (s : State) (k : Fin 2) (e : PeerHead) (seam : Fin 2) (line : BitVec 32) (d : BitVec 256) (b : SeamWait) (x : BitVec 256),
        s.powered = true ∧ s.peerTakes k e ∧ s.peer.blocks = [b] ∧ b.seam = 2 * k.val + seam.val ∧ b.line = line.toNat ∧ b.own = some x
        ∧ x ≠ d) ∧
    (∃ (s : State) (k : Fin 2) (e : PeerHead), s.powered = true ∧ s.peerTakes k e ∧ s.peer.blocks = []) ∧
    (∃ (s : State) (m : Fin 4) (line : BitVec 32) (b : SeamWait), s.powered = true ∧ s.peer.blocks.find? (fun z => z.seam == m.val
        && z.line == line.toNat) = some b ∧ b.own.isSome = true ∧ b.peer = none) ∧
    (∃ (s : State) (m : Fin 4) (line : BitVec 32), s.powered = true ∧ ((∀ b, s.peer.blocks.find? (fun z => z.seam == m.val && z.line
        == line.toNat) = some b → b.own = none ∨ b.peer.isSome = true))) ∧
    (∃ (s : State) (k : Fin 2) (e : PeerHead) (r : List Byte) (g : BitVec 32) (c : SeamCfg), s.powered = true ∧ s.peerTakes k e ∧
        recField r 8 2 / 2 = k.val ∧ recField r 8 2 < 4 ∧ s.seamNo k (recField r 8 2 % 2) = some c ∧ (∀ z ∈ s.peer.contribs, ¬(z.key =
        recField r 0 8 ∧ z.seam = recField r 8 2)) ∧ recField r 48 8 = (s.compat c.part).toNat ∧ s.partFired c.part g.toNat = false ∧ ¬
        contribBad r) ∧
    (∃ (s : State) (k : Fin 2) (e : PeerHead) (r : List Byte) (g : BitVec 32) (c : SeamCfg) (h : HeldVerdict) (q : Fin 4) (u :
        Subject), s.powered = true ∧ s.peerTakes k e ∧ recField r 8 2 = q.val ∧ q.val / 2 = k.val ∧ s.seamNo k (q.val % 2) = some c ∧ (∀
        z ∈ s.peer.contribs, ¬(z.key = recField r 0 8 ∧ z.seam = q.val)) ∧ recField r 48 8 = (s.compat c.part).toNat ∧ s.partFired
        c.part g.toNat = false ∧ ¬ contribBad r ∧ s.peer.held = [h] ∧ recField h.v.record 12 8 = recField r 0 8 ∧ h.v.expects = [q] ∧
        s.blocksPassed h.v = true ∧
        s.oneArm h.part (recField h.v.record 4 4) u ∧ u.key = none ∧ u.firedPeriod = none) ∧
    (∃ (s : State) (k : Fin 2) (e : PeerHead) (r : List Byte) (c : SeamCfg), s.powered = true ∧ s.peerTakes k e ∧ recField r 8 2 / 2
        = k.val ∧ recField r 8 2 < 4 ∧ s.seamNo k (recField r 8 2 % 2) = some c ∧ (∃ z ∈ s.peer.contribs, (z.key = recField r 0 8 ∧
        z.seam = recField r 8 2))) ∧
    (∃ (s : State) (k : Fin 2) (e : PeerHead) (r : List Byte) (c : SeamCfg), s.powered = true ∧ s.peerTakes k e ∧ recField r 8 2 / 2
        = k.val ∧ recField r 8 2 < 4 ∧ s.seamNo k (recField r 8 2 % 2) = some c ∧ (∀ z ∈ s.peer.contribs, ¬(z.key = recField r 0 8 ∧
        z.seam = recField r 8 2)) ∧ recField r 48 8 ≠ (s.compat c.part).toNat) ∧
    (∃ (s : State) (k : Fin 2) (e : PeerHead) (r : List Byte) (g : BitVec 32) (c : SeamCfg), s.powered = true ∧ s.peerTakes k e ∧ recField r 8 2 / 2 = k.val ∧ recField r 8 2 < 4 ∧ s.seamNo k (recField r 8 2 % 2) = some c ∧ (∀ z ∈ s.peer.contribs, ¬(z.key = recField r 0 8 ∧ z.seam = recField r 8 2)) ∧ recField r 48 8 = (s.compat c.part).toNat ∧ s.partFired c.part g.toNat = true ∧ s.peer.held = []) ∧
    (∃ (s : State) (k : Fin 2) (e : PeerHead) (r : List Byte) (g : BitVec 32) (c : SeamCfg), s.powered = true ∧ s.peerTakes k e ∧
        recField r 8 2 / 2 = k.val ∧ recField r 8 2 < 4 ∧ s.seamNo k (recField r 8 2 % 2) = some c ∧ (∀ z ∈ s.peer.contribs, ¬(z.key =
        recField r 0 8 ∧ z.seam = recField r 8 2)) ∧ recField r 48 8 = (s.compat c.part).toNat ∧ s.partFired c.part g.toNat = false ∧
        contribBad r) ∧
    (∃ (s : State) (k : Fin 2) (e : PeerHead) (q : BitVec 16) (i : Nat), s.powered = true ∧ s.peerHears k e ∧ (s.side
        k).resend.findIdx? (fun z => z.1 == q.toNat) = some i ∧ (s.side k).waiting = []) ∧
    (∃ (s : State) (k : Fin 2) (e : PeerHead) (q : BitVec 16), s.powered = true ∧ s.peerHears k e ∧ (s.side k).resend.findIdx? (fun
        z => z.1 == q.toNat) = none) ∧
    (∃ (s : State) (k : Fin 2) (e : PeerHead) (q : BitVec 16) (m : PeerMsg), s.powered = true ∧ s.peerHears k e ∧ (s.side k).waiting
        = [m] ∧ (s.side k).resend.length < resendDepth ∧ q ≠ 0) :=
  ⟨⟨{ (upWith [(F.PEER_STATUS_west_up, 1)]) with peer := { State.reset.peer with sides := [(0, { side0 with rxNext := 65535, granted := 1 })] } },
       0, headOf 3 1 [], by decide +kernel⟩,
   ⟨{ (upWith [(F.PEER_STATUS_west_up, 1)]) with peer := { State.reset.peer with sides := [(0, { side0 with rxNext := 65535 })] } },
       0, headOf 3 65535 [], by decide +kernel, by unfold State.peerHears; decide +kernel, by decide +kernel,
       by decide +kernel⟩,
   ⟨upWith [], 0, head0, by decide +kernel⟩,
   ⟨{ (upWith [(F.PEER_STATUS_west_up, 1)]) with peer := { State.reset.peer with sides := [(0, { side0 with rxNext := 65535, granted := 1 })] }, cfg := { upReset.cfg with tables := { factoryTables with seams := [{ side := 0, owner := true, ctx := 0, output := 0, width := 2, ringOff := 0, ringRows := 4, stride := 1, tagOff := 16, layer := 0, checkBlock := 4, part := 1 }] }, programs := [(1, { program0 with seqDigest := 77 })] } },
       0, headOf 3 65535 [], 0, 6, List.replicate 64 7,
       ({ side := 0, owner := true, ctx := 0, output := 0, width := 2, ringOff := 0, ringRows := 4, stride := 1, tagOff := 16, layer := 0, checkBlock := 4, part := 1 }
       : SeamCfg), by decide +kernel, by unfold State.peerTakes; unfold State.peerHears; decide +kernel, by decide +kernel,
       by decide +kernel, by decide +kernel⟩,
   ⟨{ (upWith [(F.PEER_STATUS_west_up, 1)]) with peer := { State.reset.peer with sides := [(0, { side0 with rxNext := 65535, granted := 1 })], blocks := [{ seam := 1, line := 8, own := some 5, peer := none, tags := [3] }] } },
       0, headOf 3 65535 [], 1, 8, 5, ({ seam := 1, line := 8, own := some 5, peer := none, tags := [3] } :
       SeamWait), by decide +kernel, by unfold State.peerTakes; unfold State.peerHears; decide +kernel, by decide +kernel,
       by decide +kernel, by decide +kernel, by decide +kernel⟩,
   ⟨{ (upWith [(F.PEER_STATUS_west_up, 1)]) with peer := { State.reset.peer with sides := [(0, { side0 with rxNext := 65535, granted := 1 })], blocks := [{ seam := 1, line := 8, own := some 5, peer := none, tags := [3] }] } },
       0, headOf 3 65535 [], 1, 8, 6, ({ seam := 1, line := 8, own := some 5, peer := none, tags := [3] } :
       SeamWait), 5, by decide +kernel, by unfold State.peerTakes; unfold State.peerHears; decide +kernel, by decide +kernel,
       by decide +kernel, by decide +kernel, by decide +kernel, by decide +kernel⟩,
   ⟨{ (upWith [(F.PEER_STATUS_west_up, 1)]) with peer := { State.reset.peer with sides := [(0, { side0 with rxNext := 65535, granted := 1 })] } },
       0, headOf 3 65535 [], by decide +kernel,
       by unfold State.peerTakes; unfold State.peerHears; decide +kernel, by decide +kernel⟩,
   ⟨{ (upWith []) with peer := { State.reset.peer with sides := [(0, { side0 with lanes := 3 })], blocks := [{ seam := 1, line := 8, own := some 5, peer := none, tags := [3] }] } },
       1, 8, ({ seam := 1, line := 8, own := some 5, peer := none, tags := [3] } : SeamWait), by decide +kernel⟩,
   ⟨{ (upWith []) with peer := { State.reset.peer with sides := [(0, { side0 with lanes := 3 })], blocks := [{ seam := 1, line := 8, own := none, peer := some 4, tags := [3] }] } },
       1, 8, by decide +kernel⟩,
   ⟨{ (upWith [(F.PEER_STATUS_west_up, 1)]) with peer := { State.reset.peer with sides := [(0, { side0 with rxNext := 65535, granted := 1 })] }, cfg := { upReset.cfg with tables := { factoryTables with seams := [{ side := 0, owner := true, ctx := 0, output := 0, width := 2, ringOff := 0, ringRows := 4, stride := 1, tagOff := 16, layer := 0, checkBlock := 4, part := 1 }] }, programs := [(1, { program0 with seqDigest := 77 })] } },
       0, headOf 3 65535 [], recordOf 64 [(0, 8, 5), (8, 2, 0), (48, 8, 77), (10, 1, 1)], 9,
       ({ side := 0, owner := true, ctx := 0, output := 0, width := 2, ringOff := 0, ringRows := 4, stride := 1, tagOff := 16, layer := 0, checkBlock := 4, part := 1 }
       : SeamCfg), by decide +kernel, by unfold State.peerTakes; unfold State.peerHears; decide +kernel, by decide +kernel,
       by decide +kernel, by decide +kernel, by decide +kernel, by decide +kernel, by decide +kernel,
       by unfold contribBad; decide +kernel⟩,
   ⟨{ (upWith [(F.PEER_STATUS_west_up, 1)]) with peer := { State.reset.peer with sides := [(0, { side0 with rxNext := 65535, granted := 1 })], held := [{ part := 1, v := { verdictOf 1 1 9 5 5 with expects := [0] }, verdict := 1, cause := 0 }] }, cfg := { upReset.cfg with tables := { factoryTables with seams := [{ side := 0, owner := true, ctx := 0, output := 0, width := 2, ringOff := 0, ringRows := 4, stride := 1, tagOff := 16, layer := 0, checkBlock := 4, part := 1 }] }, programs := [(1, { program0 with seqDigest := 77 })] }, host := { State.reset.host with subjects := [{ subject0 with tag := 9, key := none }] } },
       0, headOf 3 65535 [], recordOf 64 [(0, 8, 5), (8, 2, 0), (48, 8, 77), (10, 1, 1)], 8,
       ({ side := 0, owner := true, ctx := 0, output := 0, width := 2, ringOff := 0, ringRows := 4, stride := 1, tagOff := 16, layer := 0, checkBlock := 4, part := 1 }
       : SeamCfg), ({ part := 1, v := { verdictOf 1 1 9 5 5 with expects := [0] }, verdict := 1, cause := 0 } : HeldVerdict), 0,
       ({ subject0 with tag := 9, key := none } : Subject), by decide +kernel,
       by unfold State.peerTakes State.peerHears; decide +kernel, by decide +kernel, by decide +kernel, by decide +kernel,
       by decide +kernel, by decide +kernel, by decide +kernel, by unfold contribBad; decide +kernel,
       by unfold State.oneArm; decide +kernel⟩,
   ⟨{ (upWith [(F.PEER_STATUS_west_up, 1)]) with peer := { State.reset.peer with sides := [(0, { side0 with rxNext := 65535, granted := 1 })], contribs := [{ key := 5, seam := 0, verdict := 1, cause := 0, node := 0, digest := 0 }] }, cfg := { upReset.cfg with tables := { factoryTables with seams := [{ side := 0, owner := true, ctx := 0, output := 0, width := 2, ringOff := 0, ringRows := 4, stride := 1, tagOff := 16, layer := 0, checkBlock := 4, part := 1 }] }, programs := [(1, { program0 with seqDigest := 77 })] } },
       0, headOf 3 65535 [], recordOf 64 [(0, 8, 5), (8, 2, 0), (48, 8, 77), (10, 1, 1)],
       ({ side := 0, owner := true, ctx := 0, output := 0, width := 2, ringOff := 0, ringRows := 4, stride := 1, tagOff := 16, layer := 0, checkBlock := 4, part := 1 }
       : SeamCfg), by decide +kernel, by unfold State.peerTakes; unfold State.peerHears; decide +kernel, by decide +kernel,
       by decide +kernel, by decide +kernel, by decide +kernel⟩,
   ⟨{ (upWith [(F.PEER_STATUS_west_up, 1)]) with peer := { State.reset.peer with sides := [(0, { side0 with rxNext := 65535, granted := 1 })] }, cfg := { upReset.cfg with tables := { factoryTables with seams := [{ side := 0, owner := true, ctx := 0, output := 0, width := 2, ringOff := 0, ringRows := 4, stride := 1, tagOff := 16, layer := 0, checkBlock := 4, part := 1 }] }, programs := [(1, { program0 with seqDigest := 77 })] } },
       0, headOf 3 65535 [], recordOf 64 [(0, 8, 5), (8, 2, 0), (48, 8, 78), (10, 1, 1)],
       ({ side := 0, owner := true, ctx := 0, output := 0, width := 2, ringOff := 0, ringRows := 4, stride := 1, tagOff := 16, layer := 0, checkBlock := 4, part := 1 }
       : SeamCfg), by decide +kernel, by unfold State.peerTakes; unfold State.peerHears; decide +kernel, by decide +kernel,
       by decide +kernel, by decide +kernel, by decide +kernel, by decide +kernel⟩,
   ⟨{ (upWith [(F.PEER_STATUS_west_up, 1)]) with peer := { State.reset.peer with sides := [(0, { side0 with rxNext := 65535, granted := 1 })] }, cfg := { upReset.cfg with tables := { factoryTables with seams := [{ side := 0, owner := true, ctx := 0, output := 0, width := 2, ringOff := 0, ringRows := 4, stride := 1, tagOff := 16, layer := 0, checkBlock := 4, part := 1 }] }, programs := [(1, { program0 with seqDigest := 77 })] }, host := { State.reset.host with subjects := [{ subject0 with tag := 9, firedPeriod := some 3 }] } },
       0, headOf 3 65535 [], recordOf 64 [(0, 8, 5), (8, 2, 0), (48, 8, 77), (10, 1, 1)], 9,
       ({ side := 0, owner := true, ctx := 0, output := 0, width := 2, ringOff := 0, ringRows := 4, stride := 1, tagOff := 16, layer := 0, checkBlock := 4, part := 1 }
       : SeamCfg), by decide +kernel, by unfold State.peerTakes State.peerHears; decide +kernel, by decide +kernel⟩,
   ⟨{ (upWith [(F.PEER_STATUS_west_up, 1)]) with peer := { State.reset.peer with sides := [(0, { side0 with rxNext := 65535, granted := 1 })] }, cfg := { upReset.cfg with tables := { factoryTables with seams := [{ side := 0, owner := true, ctx := 0, output := 0, width := 2, ringOff := 0, ringRows := 4, stride := 1, tagOff := 16, layer := 0, checkBlock := 4, part := 1 }] }, programs := [(1, { program0 with seqDigest := 77 })] } },
       0, headOf 3 65535 [], recordOf 64 [(0, 8, 5), (8, 2, 0), (48, 8, 77), (10, 1, 0)], 9,
       ({ side := 0, owner := true, ctx := 0, output := 0, width := 2, ringOff := 0, ringRows := 4, stride := 1, tagOff := 16, layer := 0, checkBlock := 4, part := 1 }
       : SeamCfg), by decide +kernel, by unfold State.peerTakes; unfold State.peerHears; decide +kernel, by decide +kernel,
       by decide +kernel, by decide +kernel, by decide +kernel, by decide +kernel, by decide +kernel,
       by unfold contribBad; decide +kernel⟩,
   ⟨{ (upWith [(F.PEER_STATUS_west_up, 1)]) with peer := { State.reset.peer with sides := [(0, { side0 with resend := [(6, .credit 1), (7, .credit 1)] })] } },
       0, head0, 7, 1, by decide +kernel, by unfold State.peerHears; decide +kernel, by decide +kernel, by decide +kernel⟩,
   ⟨upWith [(F.PEER_STATUS_west_up, 1)], 0, head0, 7, by decide +kernel, by unfold State.peerHears; decide +kernel,
       by decide +kernel⟩,
   ⟨{ (upWith [(F.PEER_STATUS_west_up, 1)]) with peer := { State.reset.peer with sides := [(0, { side0 with waiting := [.contrib []], txNext := 3 })] } },
       0, head0, 5, .contrib [], by decide +kernel, by unfold State.peerHears; decide +kernel, by decide +kernel, by decide +kernel,
       by decide +kernel⟩⟩

theorem witness_HostPortsAndResults :
    (∃ (s : State) (i : Port), s.powered = true ∧ s.hasPort i = true) ∧
    (∃ (s : State) (i : Port), s.powered = true ∧ s.hasPort i = false) ∧
    (∃ (s : State) (i : Port), s.powered = true ∧ tget false s.host.ready i.val = false) ∧
    (∃ (s : State) (i : Port) (p : Part) (v : Word), s.powered = true ∧ s.on (F.HOST_RES_CFG_enable i p) = false ∧ 4 ≤ fieldOf v 2 4
        ∧ fieldOf v 2 4 ≤ 12 ∧ v.getLsbD 0 = true) ∧
    (∃ (s : State) (i : Port) (p : Part) (v : Word), s.powered = true ∧ s.on (F.HOST_RES_CFG_enable i p) = false ∧ (fieldOf v 2 4 <
        4 ∨ 12 < fieldOf v 2 4)) ∧
    (∃ (s : State) (i : Port) (p : Part) (v : Word), s.powered = true ∧ s.on (F.HOST_RES_CFG_enable i p) = true ∧ v.getLsbD 0 =
        false) ∧
    (∃ (s : State) (i : Port) (p : Part) (v : Word), s.powered = true ∧ s.on (F.HOST_RES_CFG_enable i p) = true ∧ v.getLsbD 0 =
        true) ∧
    (∃ (s : State) (i : Port) (p : Part) (k : BitVec 12), s.powered = true ∧ s.slotIndexed i p k.toNat = none) ∧
    (∃ (s : State) (i : Port) (p : Part) (k : BitVec 12) (x : Slot), s.powered = true ∧ s.slotIndexed i p k.toNat = some x ∧ x.state
        = 1) ∧
    (∃ (s : State) (i : Port) (p : Part) (k : BitVec 12) (x : Slot), s.powered = true ∧ s.host.slots = [x] ∧ s.slotIndexed i p
        k.toNat = some x ∧ x.state ≠ 1) ∧
    (∃ (s : State) (i : Port) (p : Part) (q : BitVec 32), s.powered = true ∧ 2 ^ 31 ≤ (q.toNat + 2 ^ 32 - s.get (F.HOST_RES_SEQ_next
        i p)) % 2 ^ 32 ∧ (∃ x ∈ s.host.slots, x.port = i.val ∧ x.part = p.val ∧ x.push = false ∧ 2 ≤ x.state ∧ (q.toNat + 2 ^ 32 -
        x.seq) % 2 ^ 32 < s.ringSize i p)) ∧
    (∃ (s : State) (i : Port) (p : Part) (q : BitVec 32), s.powered = true ∧ (q.toNat + 2 ^ 32 - s.get (F.HOST_RES_SEQ_next i p)) %
        2 ^ 32 < 2 ^ 31) ∧
    (∃ (s : State) (i : Port) (p : Part) (q : BitVec 32), s.powered = true ∧ 2 ^ 31 ≤ (q.toNat + 2 ^ 32 - s.get (F.HOST_RES_SEQ_next
        i p)) % 2 ^ 32 ∧ (∀ x ∈ s.host.slots, ¬(x.port = i.val ∧ x.part = p.val ∧ x.push = false ∧ 2 ≤ x.state ∧ (q.toNat + 2 ^ 32 -
        x.seq) % 2 ^ 32 < s.ringSize i p))) ∧
    (∃ (s : State) (i : Port) (p : Part) (q : BitVec 32), s.powered = true ∧ (q.toNat = tget 0 s.host.pushTop (ppKey i p) ∨ 2 ^ 31 ≤
        (q.toNat + 2 ^ 32 - tget 0 s.host.pushTop (ppKey i p)) % 2 ^ 32)) ∧
    (∃ (s : State) (i : Port) (p : Part) (q : BitVec 32), s.powered = true ∧ q.toNat ≠ tget 0 s.host.pushTop (ppKey i p) ∧ (q.toNat
        + 2 ^ 32 - tget 0 s.host.pushTop (ppKey i p)) % 2 ^ 32 < 2 ^ 31) ∧
    (∃ (s : State) (i : Port) (p : Part), s.powered = true ∧ tget false s.host.ready i.val = true ∧ tget 0 s.host.waiting (ppKey i
        p) ≠ 0) ∧
    (∃ (s : State) (i : Port) (p : Part), s.powered = true ∧ tget 0 s.host.waiting (ppKey i p) = 0) :=
  ⟨⟨{ (upWith []) with cfg := { upReset.cfg with structureSec := { upReset.cfg.structureSec with split := 1 } } }, 1,
       by decide +kernel⟩,
   ⟨{ (upWith []) with cfg := { upReset.cfg with structureSec := { upReset.cfg.structureSec with split := 1 } } }, 2,
       by decide +kernel⟩,
   ⟨upWith [], 0, by decide +kernel⟩,
   ⟨upWith [(F.HOST_RES_CFG_enable 0 1, 0)], 0, 1, 1 + 4 * 4, by decide +kernel⟩,
   ⟨upWith [(F.HOST_RES_CFG_enable 0 1, 0)], 0, 1, 1 + 4 * 3, by decide +kernel⟩,
   ⟨{ (upWith [(F.HOST_RES_CFG_enable 0 1, 1)]) with host := { State.reset.host with slots := [slot10] } }, 0, 1, 0,
       by decide +kernel⟩,
   ⟨{ (upWith [(F.HOST_RES_CFG_enable 0 1, 1)]) with host := { State.reset.host with slots := [slot10] } }, 0, 1, 1 + 4 * 4,
       by decide +kernel⟩,
   ⟨upWith [(F.HOST_RES_CFG_enable 0 1, 1), (F.HOST_RES_CFG_size 0 1, 4)], 0, 1, 16, by decide +kernel⟩,
   ⟨{ (upWith [(F.HOST_RES_CFG_enable 0 1, 1), (F.HOST_RES_CFG_size 0 1, 4)]) with host := { State.reset.host with slots := [{ slot10 with state := 1 }] } },
       0, 1, 0, ({ slot10 with state := 1 } : Slot), by decide +kernel⟩,
   ⟨{ (upWith [(F.HOST_RES_CFG_enable 0 1, 1), (F.HOST_RES_CFG_size 0 1, 4)]) with host := { State.reset.host with slots := [slot10] } },
       0, 1, 0, slot10, by decide +kernel⟩,
   ⟨{ (upWith [(F.HOST_RES_CFG_enable 0 1, 1), (F.HOST_RES_CFG_size 0 1, 4), (F.HOST_RES_SEQ_next 0 1, 17)]) with host := { State.reset.host with slots := [slot10] } },
       0, 1, 16, by decide +kernel⟩,
   ⟨{ (upWith [(F.HOST_RES_CFG_enable 0 1, 1), (F.HOST_RES_CFG_size 0 1, 4), (F.HOST_RES_SEQ_next 0 1, 16)]) with host := { State.reset.host with slots := [slot10] } },
       0, 1, 16, by decide +kernel⟩,
   ⟨{ (upWith [(F.HOST_RES_CFG_enable 0 1, 1), (F.HOST_RES_CFG_size 0 1, 4), (F.HOST_RES_SEQ_next 0 1, 33)]) with host := { State.reset.host with slots := [slot10] } },
       0, 1, 32, by decide +kernel⟩,
   ⟨{ (upWith []) with host := { State.reset.host with pushTop := [(1, 5)] } }, 0, 1, 5, by decide +kernel⟩,
   ⟨{ (upWith []) with host := { State.reset.host with pushTop := [(1, 5)] } }, 0, 1, 6, by decide +kernel⟩,
   ⟨{ (upWith []) with host := { State.reset.host with ready := [(0, true)], waiting := [(1, 3)] } }, 0, 1, by decide +kernel⟩,
   ⟨upWith [], 0, 1, by decide +kernel⟩⟩

theorem witness_HostSubmissions :
    (∃ (s : State) (i : Port) (r : Fin 4) (d : List Byte), s.powered = true ∧ s.sqReady i r sqCOPYIN d ∧ s.boundPage (s.ringPart i
        r) (sqBusy i r d).offset (sqBusy i r d).length = none) ∧
    (∃ (s : State) (i : Port) (r : Fin 4) (d : List Byte) (g : Nat), s.powered = true ∧ s.sqReady i r sqCOPYIN d ∧ s.boundPage
        (s.ringPart i r) (sqBusy i r d).offset (sqBusy i r d).length = some g) ∧
    (∃ (s : State) (i : Port) (r : Fin 4) (d : List Byte), s.powered = true ∧ s.sqReady i r sqCOPYOUT d) ∧
    (∃ (s : State) (i : Port) (r : Fin 4) (d : List Byte) (b : Job) (g : TemplateCfg) (n : Nat), s.powered = true ∧ s.sqReady i r
        sqRELEASE d ∧ n = s.route.buildFor + 1 ∧ s.job? (recField d 2 1) = some b ∧ s.jobTemplate b = some g ∧ b.part = s.ringPart i r ∧
        g.cadence = 1 ∧ s.jobActive n (recField d 2 1) b = true) ∧
    (∃ (s : State) (i : Port) (r : Fin 4) (d : List Byte), s.powered = true ∧ s.sqReady i r sqRELEASE d ∧ s.job? (recField d 2 1) =
        none) ∧
    (∃ (s : State) (i : Port) (r : Fin 4) (d : List Byte), s.powered = true ∧ s.sqReady i r sqBIND d) ∧
    (∃ (s : State) (i : Port) (r : Fin 4) (d : List Byte), s.powered = true ∧ s.sqReady i r sqFENCE d) ∧
    (∃ (s : State) (i : Port) (r : Fin 4) (d : List Byte) (a : Nat), s.powered = true ∧ s.ringNext i r = true ∧ (recField d 0 1 =
        sqCOPYIN ∨ recField d 0 1 = 0 ∨ 5 < recField d 0 1) ∧ badField (s.reach (s.ringPart i r)) d = some a) ∧
    (∃ (s : State) (i : Port) (r : Fin 4), s.powered = true ∧ s.ringNext i r = false) ∧
    (∃ (s : State) (i : Port) (r : Fin 4) (d : List Byte) (a : Nat), s.powered = true ∧ s.ringNext i r = true ∧ (recField d 0 1 =
        sqCOPYOUT ∨ recField d 0 1 = 0 ∨ 5 < recField d 0 1) ∧ badField (s.reach (s.ringPart i r)) d = some a) ∧
    (∃ (s : State) (i : Port) (r : Fin 4) (d : List Byte) (a : Nat), s.powered = true ∧ s.ringNext i r = true ∧ (recField d 0 1 =
        sqRELEASE ∨ recField d 0 1 = 0 ∨ 5 < recField d 0 1) ∧ badField (s.reach (s.ringPart i r)) d = some a) ∧
    (∃ (s : State) (i : Port) (r : Fin 4) (d : List Byte) (a : Nat), s.powered = true ∧ s.ringNext i r = true ∧ (recField d 0 1 =
        sqBIND ∨ recField d 0 1 = 0 ∨ 5 < recField d 0 1) ∧ badField (s.reach (s.ringPart i r)) d = some a) ∧
    (∃ (s : State) (i : Port) (r : Fin 4) (d : List Byte) (a : Nat), s.powered = true ∧ s.ringNext i r = true ∧ (recField d 0 1 =
        sqFENCE ∨ recField d 0 1 = 0 ∨ 5 < recField d 0 1) ∧ badField (s.reach (s.ringPart i r)) d = some a) :=
  ⟨⟨upWith [(F.HOST_SQ_CFG_run 0 3, 1), (F.HOST_SQ_TAIL_pos 0 3, 0), (F.HOST_SQ_HEAD_pos 0 3, 4294967295), (F.HOST_SQ_CFG_partition
       0 3, 1), (F.HOST_SQ_CFG_size 0 3, 4)], 0, 3, recordOf 32 [(0, 1, sqCOPYIN), (4, 4, 0xABCD), (8, 8, 4096), (16, 8, 16383), (24, 4,
       64)], by decide +kernel, by unfold State.sqReady; decide +kernel, by decide +kernel⟩,
   ⟨{ (upWith [(F.HOST_SQ_CFG_run 0 3, 1), (F.HOST_SQ_TAIL_pos 0 3, 0), (F.HOST_SQ_HEAD_pos 0 3, 4294967295), (F.HOST_SQ_CFG_partition 0 3, 1), (F.HOST_SQ_CFG_size 0 3, 4)]) with host := { State.reset.host with bindings := [{ part := 1, set := 2, offset := 65536 * 15, length := 65536, digest := 0, landing := 9 }] } },
       0, 3, recordOf 32 [(0, 1, sqCOPYIN), (4, 4, 0xABCD), (8, 8, 4096), (16, 8, 16383), (24, 4, 64)], 15, by decide +kernel,
       by unfold State.sqReady; decide +kernel, by decide +kernel⟩,
   ⟨upWith [(F.HOST_SQ_CFG_run 0 3, 1), (F.HOST_SQ_TAIL_pos 0 3, 0), (F.HOST_SQ_HEAD_pos 0 3, 4294967295), (F.HOST_SQ_CFG_partition
       0 3, 1), (F.HOST_SQ_CFG_size 0 3, 4)], 0, 3, recordOf 32 [(0, 1, sqCOPYOUT), (4, 4, 0xABCD), (8, 8, 4096), (16, 8, 16383), (24,
       4, 64)], by decide +kernel, by unfold State.sqReady; decide +kernel⟩,
   ⟨{ (upWith [(F.HOST_SQ_CFG_run 0 3, 1), (F.HOST_SQ_TAIL_pos 0 3, 0), (F.HOST_SQ_HEAD_pos 0 3, 4294967295), (F.HOST_SQ_CFG_partition 0 3, 1), (F.HOST_SQ_CFG_size 0 3, 4), (F.ROUTE_JOB_state 3, jobRUNNING)]) with cfg := { upReset.cfg with programs := [(1, { program0 with templates := [{ template0 with cadence := 1 }] })] }, route := { State.reset.route with jobs := [(3, job00)] } },
       0, 3, recordOf 32 [(0, 1, sqRELEASE), (2, 1, 3), (4, 4, 7)], job00, ({ template0 with cadence := 1 } : TemplateCfg),
       ({ (upWith [(F.HOST_SQ_CFG_run 0 3, 1), (F.HOST_SQ_TAIL_pos 0 3, 0), (F.HOST_SQ_HEAD_pos 0 3, 4294967295), (F.HOST_SQ_CFG_partition 0 3, 1), (F.HOST_SQ_CFG_size 0 3, 4), (F.ROUTE_JOB_state 3, jobRUNNING)]) with cfg := { upReset.cfg with programs := [(1, { program0 with templates := [{ template0 with cadence := 1 }] })] }, route := { State.reset.route with jobs := [(3, job00)] } }).route.buildFor
       + 1, by decide +kernel, by unfold State.sqReady; decide +kernel, by decide +kernel, by decide +kernel, by decide +kernel,
       by decide +kernel, by decide +kernel, by decide +kernel⟩,
   ⟨upWith [(F.HOST_SQ_CFG_run 0 3, 1), (F.HOST_SQ_TAIL_pos 0 3, 0), (F.HOST_SQ_HEAD_pos 0 3, 4294967295), (F.HOST_SQ_CFG_partition
       0 3, 1), (F.HOST_SQ_CFG_size 0 3, 4)], 0, 3, recordOf 32 [(0, 1, sqRELEASE), (2, 1, 3), (4, 4, 7)], by decide +kernel,
       by unfold State.sqReady; decide +kernel, by decide +kernel⟩,
   ⟨upWith [(F.HOST_SQ_CFG_run 0 3, 1), (F.HOST_SQ_TAIL_pos 0 3, 0), (F.HOST_SQ_HEAD_pos 0 3, 4294967295), (F.HOST_SQ_CFG_partition
       0 3, 1), (F.HOST_SQ_CFG_size 0 3, 4)], 0, 3, recordOf 32 [(0, 1, sqBIND), (1, 1, 15), (4, 4, 7), (8, 8, 64), (16, 8, 16383), (24,
       4, 64)], by decide +kernel, by unfold State.sqReady; decide +kernel⟩,
   ⟨upWith [(F.HOST_SQ_CFG_run 0 3, 1), (F.HOST_SQ_TAIL_pos 0 3, 0), (F.HOST_SQ_HEAD_pos 0 3, 4294967295), (F.HOST_SQ_CFG_partition
       0 3, 1), (F.HOST_SQ_CFG_size 0 3, 4)], 0, 3, recordOf 32 [(0, 1, sqFENCE), (4, 4, 7)], by decide +kernel,
       by unfold State.sqReady; decide +kernel⟩,
   ⟨upWith [(F.HOST_SQ_CFG_run 0 3, 1), (F.HOST_SQ_TAIL_pos 0 3, 0), (F.HOST_SQ_HEAD_pos 0 3, 4294967295), (F.HOST_SQ_CFG_partition
       0 3, 1), (F.HOST_SQ_CFG_size 0 3, 4)], 0, 3, recordOf 32 [(0, 1, sqCOPYIN), (8, 8, 4096), (16, 8, 16383), (24, 4, 65)], 16,
       by decide +kernel⟩,
   ⟨upWith [(F.HOST_SQ_CFG_run 0 3, 1), (F.HOST_SQ_TAIL_pos 0 3, 0), (F.HOST_SQ_HEAD_pos 0 3, 4294967295), (F.HOST_SQ_CFG_partition
       0 3, 1), (F.HOST_SQ_CFG_size 0 3, 4), (F.HOST_SQ_STATE_stopped 0 3, 1)], 0, 3, by decide +kernel⟩,
   ⟨upWith [(F.HOST_SQ_CFG_run 0 3, 1), (F.HOST_SQ_TAIL_pos 0 3, 0), (F.HOST_SQ_HEAD_pos 0 3, 4294967295), (F.HOST_SQ_CFG_partition
       0 3, 1), (F.HOST_SQ_CFG_size 0 3, 4)], 0, 3, recordOf 32 [(0, 1, 0), (4, 4, 0xABCD), (8, 8, 4096), (16, 8, 16383), (24, 4, 64)],
       0, by decide +kernel⟩,
   ⟨upWith [(F.HOST_SQ_CFG_run 0 3, 1), (F.HOST_SQ_TAIL_pos 0 3, 0), (F.HOST_SQ_HEAD_pos 0 3, 4294967295), (F.HOST_SQ_CFG_partition
       0 3, 1), (F.HOST_SQ_CFG_size 0 3, 4)], 0, 3, recordOf 32 [(0, 1, 6), (4, 4, 0xABCD), (8, 8, 4096), (16, 8, 16383), (24, 4, 64)],
       0, by decide +kernel⟩,
   ⟨upWith [(F.HOST_SQ_CFG_run 0 3, 1), (F.HOST_SQ_TAIL_pos 0 3, 0), (F.HOST_SQ_HEAD_pos 0 3, 4294967295), (F.HOST_SQ_CFG_partition
       0 3, 1), (F.HOST_SQ_CFG_size 0 3, 4)], 0, 3, recordOf 32 [(0, 1, sqBIND), (1, 1, 16)], 1, by decide +kernel⟩,
   ⟨upWith [(F.HOST_SQ_CFG_run 0 3, 1), (F.HOST_SQ_TAIL_pos 0 3, 0), (F.HOST_SQ_HEAD_pos 0 3, 4294967295), (F.HOST_SQ_CFG_partition
       0 3, 1), (F.HOST_SQ_CFG_size 0 3, 4)], 0, 3, recordOf 32 [(0, 1, sqFENCE), (3, 1, 1)], 3, by decide +kernel⟩⟩

theorem witness_HostRingsAndDma :
    (∃ (s : State) (i : Port) (r : Fin 4) (b : SqBusy), s.powered = true ∧
        s.host.busy.find? (fun b => b.port == i.val && b.ring == r.val && b.op == sqBIND) = some b ∧
        (s.program (s.ringPart i r)).bind (fun g => g.weights.find? (fun w => w.set == b.set)) = none) ∧
    (∃ (s : State) (i : Port) (r : Fin 4) (b : SqBusy) (w : WeightSetCfg), s.powered = true ∧
        s.host.busy.find? (fun b => b.port == i.val && b.ring == r.val && b.op == sqBIND) = some b ∧
        (s.program (s.ringPart i r)).bind (fun g => g.weights.find? (fun w => w.set == b.set)) = some w ∧ w.adaptable = true ∧
        s.role i = roleOWNER) ∧
    (∃ (s : State) (i : Port) (r : Fin 4) (b : SqBusy) (w : WeightSetCfg), s.powered = true ∧
        s.host.busy.find? (fun b => b.port == i.val && b.ring == r.val && b.op == sqBIND) = some b ∧
        (s.program (s.ringPart i r)).bind (fun g => g.weights.find? (fun w => w.set == b.set)) = some w ∧ w.adaptable = false ∧
        (w.expected = [] ∨ digestOf (sha3_256 (s.bytes (s.partAddr (s.ringPart i r) b.offset) b.length)) ∈ w.expected)) ∧
    (∃ (s : State) (i : Port) (r : Fin 4) (b : SqBusy) (w : WeightSetCfg), s.powered = true ∧
        s.host.busy.find? (fun b => b.port == i.val && b.ring == r.val && b.op == sqBIND) = some b ∧
        (s.program (s.ringPart i r)).bind (fun g => g.weights.find? (fun w => w.set == b.set)) = some w ∧ (w.adaptable = true ∧
        s.role i ≠ roleOWNER ∨ w.adaptable = false ∧ w.expected ≠ [] ∧
        digestOf (sha3_256 (s.bytes (s.partAddr (s.ringPart i r) b.offset) b.length)) ∉ w.expected)) ∧
    (∃ (s : State) (i : Port) (r : Fin 4), s.powered = true ∧
        s.host.busy.find? (fun b => b.port == i.val && b.ring == r.val && b.op == sqBIND) = none) ∧
    (∃ (s : State) (i : Port) (r : Fin 4), s.powered = true ∧
        s.host.busy.find? (fun b => b.port == i.val && b.ring == r.val && b.op == sqCOPYIN) = none) ∧
    (∃ (s : State) (i : Port) (r : Fin 4) (b : SqBusy), s.powered = true ∧
        s.host.busy.find? (fun b => b.port == i.val && b.ring == r.val && b.op == sqCOPYIN) = some b) ∧
    (∃ (s : State) (i : Port) (r : Fin 4) (q : BitVec 32), s.powered = true ∧ s.mayBind i (s.ringPart i r) = true ∧
        (q.toNat + 2 ^ 32 - s.get (F.HOST_SQ_HEAD_pos i r)) % 2 ^ 32 ≤ 2 ^ s.get (F.HOST_SQ_CFG_size i r)) ∧
    (∃ (s : State) (i : Port) (r : Fin 4) (q : BitVec 32), s.powered = true ∧ s.mayBind i (s.ringPart i r) = true ∧
        2 ^ s.get (F.HOST_SQ_CFG_size i r) < (q.toNat + 2 ^ 32 - s.get (F.HOST_SQ_HEAD_pos i r)) % 2 ^ 32) ∧
    (∃ (s : State) (i : Port) (r : Fin 4), s.powered = true ∧ s.mayBind i (s.ringPart i r) = false) ∧
    (∃ (s : State) (i : Port) (r : Fin 4) (v : Word), s.powered = true ∧ s.on (F.HOST_SQ_CFG_run i r) = false ∧
        s.mayBind i (fieldOf v 4 3) = true ∧ 4 ≤ fieldOf v 0 4 ∧ fieldOf v 0 4 ≤ 12 ∧ v.getLsbD 8 = true) ∧
    (∃ (s : State) (i : Port) (r : Fin 4) (v : Word), s.powered = true ∧ s.on (F.HOST_SQ_CFG_run i r) = false ∧
        s.mayBind i (fieldOf v 4 3) = true ∧ (fieldOf v 0 4 < 4 ∨ 12 < fieldOf v 0 4)) ∧
    (∃ (s : State) (i : Port) (r : Fin 4), s.powered = true ∧ s.on (F.HOST_SQ_CFG_run i r) = true ∧ s.mayBind i (s.ringPart i r) = true) ∧
    (∃ (s : State) (i : Port) (r : Fin 4) (v : Word), s.powered = true ∧ s.on (F.HOST_SQ_CFG_run i r) = false ∧
        s.mayBind i (fieldOf v 4 3) = false) :=
  ⟨⟨{ (upWith [(F.HOST_SQ_CFG_partition 0 3, 1), (F.HOST_SQ_CFG_size 0 3, 4)]) with host := { State.reset.host with busy := [busy0 sqBIND 3] }, cfg := { upReset.cfg with programs := [(1, { program0 with weights := [{ set := 2, expected := [], adaptable := true }] })] } },
      0, 3, busy0 sqBIND 3, by decide +kernel⟩,
   ⟨{ (upWith [(F.HOST_SQ_CFG_partition 0 3, 1), (F.HOST_SQ_CFG_size 0 3, 4)]) with host := { State.reset.host with busy := [busy0 sqBIND 2] }, cfg := { upReset.cfg with programs := [(1, { program0 with weights := [{ set := 2, expected := [], adaptable := true }] })] } },
       0, 3, busy0 sqBIND 2, ({ set := 2, expected := [], adaptable := true } : WeightSetCfg), by decide +kernel⟩,
   ⟨{ (upWith [(F.HOST_SQ_CFG_partition 0 3, 1), (F.HOST_SQ_CFG_size 0 3, 4)]) with host := { State.reset.host with busy := [busy0 sqBIND 2] }, cfg := { upReset.cfg with programs := [(1, { program0 with weights := [{ set := 2, expected := [], adaptable := false }] })] } },
       0, 3, busy0 sqBIND 2, ({ set := 2, expected := [], adaptable := false } : WeightSetCfg), by decide +kernel⟩,
   ⟨{ (upWith [(F.HOST_SQ_CFG_partition 0 3, 1), (F.HOST_SQ_CFG_size 0 3, 4)]) with host := { State.reset.host with busy := [busy0 sqBIND 2] }, cfg := { upReset.cfg with programs := [(1, { program0 with weights := [{ set := 2, expected := [5], adaptable := false }] })] } },
       0, 3, busy0 sqBIND 2, ({ set := 2, expected := [5], adaptable := false } : WeightSetCfg), by decide +kernel⟩,
   ⟨upWith [(F.HOST_SQ_CFG_partition 0 3, 1), (F.HOST_SQ_CFG_size 0 3, 4)], 0, 3, by decide +kernel⟩,
   ⟨upWith [(F.HOST_SQ_CFG_partition 0 3, 1), (F.HOST_SQ_CFG_size 0 3, 4)], 0, 3, by decide +kernel⟩,
   ⟨{ (upWith [(F.HOST_SQ_CFG_partition 0 3, 1), (F.HOST_SQ_CFG_size 0 3, 4)]) with host := { State.reset.host with busy := [busy0 sqCOPYIN 0] } },
       0, 3, busy0 sqCOPYIN 0, by decide +kernel⟩,
   ⟨upWith [(F.HOST_SQ_HEAD_pos 0 3, 4294967295), (F.HOST_SQ_CFG_partition 0 3, 1), (F.HOST_SQ_CFG_size 0 3, 4)], 0, 3, 15,
       by decide +kernel⟩,
   ⟨upWith [(F.HOST_SQ_HEAD_pos 0 3, 4294967295), (F.HOST_SQ_CFG_partition 0 3, 1), (F.HOST_SQ_CFG_size 0 3, 4)], 0, 3, 16,
       by decide +kernel⟩,
   ⟨upWith [(F.HOST_SQ_CFG_partition 2 3, 1), (F.HOST_SQ_CFG_size 2 3, 4)], 2, 3, by decide +kernel⟩,
   ⟨upWith [(F.HOST_SQ_CFG_run 0 3, 0), (F.HOST_SQ_CFG_partition 0 3, 1), (F.HOST_SQ_CFG_size 0 3, 4)], 0, 3, 256 + 16 + 4,
       by decide +kernel⟩,
   ⟨upWith [(F.HOST_SQ_CFG_run 0 3, 0), (F.HOST_SQ_CFG_partition 0 3, 1), (F.HOST_SQ_CFG_size 0 3, 4)], 0, 3, 256 + 16 + 3,
       by decide +kernel⟩,
   ⟨upWith [(F.HOST_SQ_CFG_run 3 3, 1), (F.HOST_SQ_CFG_partition 3 3, 1), (F.HOST_SQ_CFG_size 3 3, 4), (F.HOST_SQ_CFG_run 3 3, 1)], 3, 3,
       by decide +kernel⟩,
   ⟨upWith [(F.HOST_SQ_CFG_run 2 3, 0), (F.HOST_SQ_CFG_partition 2 3, 1), (F.HOST_SQ_CFG_size 2 3, 4)], 2, 3, 16 + 4, by decide +kernel⟩⟩

theorem witness_HostWindows :
    (∃ (s : State) (i : Port) (p : Part), s.powered = true ∧ s.mayWritePart i p = true) ∧
    (∃ (s : State) (i : Port) (p : Part), s.powered = true ∧ s.mayWritePart i p = false) ∧
    (∃ (s : State) (i : Port) (o : BitVec 32) (p : Nat) (a : Nat), s.powered = true ∧ p = s.get (F.HOST_BAR4_WIN_partition i) ∧ a =
        65536 * s.get (F.HOST_BAR4_WIN_page i) + o.toNat ∧ s.on (F.HOST_BAR4_WIN_enable i) = true ∧ a + 4 ≤ 65536 * s.reach p ∧
        s.mayReadPart i p = true) ∧
    (∃ (s : State) (i : Port) (o : BitVec 32) (p : Nat) (a : Nat), s.powered = true ∧ p = s.get (F.HOST_BAR4_WIN_partition i) ∧ a =
        65536 * s.get (F.HOST_BAR4_WIN_page i) + o.toNat ∧ (s.on (F.HOST_BAR4_WIN_enable i) = false ∨ 65536 * s.reach p < a + 4 ∨
        s.mayReadPart i p = false)) ∧
    (∃ (s : State) (i : Port) (o : BitVec 32) (p : Nat) (a : Nat), s.powered = true ∧ p = s.get (F.HOST_BAR4_WIN_partition i) ∧ a =
        65536 * s.get (F.HOST_BAR4_WIN_page i) + o.toNat ∧ s.on (F.HOST_BAR4_WIN_enable i) = true ∧ a + 4 ≤ 65536 * s.reach p ∧
        s.mayWritePart i p = true ∧ s.boundPage p a 4 = none) ∧
    (∃ (s : State) (i : Port) (o : BitVec 32) (p : Nat) (a : Nat) (g : Nat), s.powered = true ∧ p = s.get (F.HOST_BAR4_WIN_partition
        i) ∧ a = 65536 * s.get (F.HOST_BAR4_WIN_page i) + o.toNat ∧ s.on (F.HOST_BAR4_WIN_enable i) = true ∧ a + 4 ≤ 65536 * s.reach p ∧
        s.mayWritePart i p = true ∧ s.boundPage p a 4 = some g) ∧
    (∃ (s : State) (i : Port) (o : BitVec 32) (p : Nat) (a : Nat), s.powered = true ∧ p = s.get (F.HOST_BAR4_WIN_partition i) ∧ a =
        65536 * s.get (F.HOST_BAR4_WIN_page i) + o.toNat ∧ (s.on (F.HOST_BAR4_WIN_enable i) = false ∨ 65536 * s.reach p < a + 4 ∨
        s.mayWritePart i p = false)) :=
  ⟨⟨upWith [], 1, 1, by decide +kernel⟩,
   ⟨upWith [], 2, 1, by decide +kernel⟩,
   ⟨upWith [(F.HOST_BAR4_WIN_partition 3, 1), (F.HOST_BAR4_WIN_page 3, 15), (F.HOST_BAR4_WIN_enable 3, 1)], 3, 65532, (upWith
       [(F.HOST_BAR4_WIN_partition 3, 1), (F.HOST_BAR4_WIN_page 3, 15), (F.HOST_BAR4_WIN_enable 3, 1)]).get (F.HOST_BAR4_WIN_partition
       3), 65536 * (upWith [(F.HOST_BAR4_WIN_partition 3, 1), (F.HOST_BAR4_WIN_page 3, 15), (F.HOST_BAR4_WIN_enable 3, 1)]).get
       (F.HOST_BAR4_WIN_page 3) + 65532, by decide +kernel⟩,
   ⟨upWith [(F.HOST_BAR4_WIN_partition 0, 1), (F.HOST_BAR4_WIN_page 0, 15), (F.HOST_BAR4_WIN_enable 0, 1)], 0, 65533, (upWith
       [(F.HOST_BAR4_WIN_partition 0, 1), (F.HOST_BAR4_WIN_page 0, 15), (F.HOST_BAR4_WIN_enable 0, 1)]).get (F.HOST_BAR4_WIN_partition
       0), 65536 * (upWith [(F.HOST_BAR4_WIN_partition 0, 1), (F.HOST_BAR4_WIN_page 0, 15), (F.HOST_BAR4_WIN_enable 0, 1)]).get
       (F.HOST_BAR4_WIN_page 0) + 65533, by decide +kernel⟩,
   ⟨upWith [(F.HOST_BAR4_WIN_partition 0, 1), (F.HOST_BAR4_WIN_page 0, 15), (F.HOST_BAR4_WIN_enable 0, 1)], 0, 65532, (upWith
       [(F.HOST_BAR4_WIN_partition 0, 1), (F.HOST_BAR4_WIN_page 0, 15), (F.HOST_BAR4_WIN_enable 0, 1)]).get (F.HOST_BAR4_WIN_partition
       0), 65536 * (upWith [(F.HOST_BAR4_WIN_partition 0, 1), (F.HOST_BAR4_WIN_page 0, 15), (F.HOST_BAR4_WIN_enable 0, 1)]).get
       (F.HOST_BAR4_WIN_page 0) + 65532, by decide +kernel⟩,
   ⟨{ (upWith [(F.HOST_BAR4_WIN_partition 0, 1), (F.HOST_BAR4_WIN_page 0, 15), (F.HOST_BAR4_WIN_enable 0, 1)]) with host := { State.reset.host with bindings := [{ part := 1, set := 2, offset := 65536 * 15, length := 65536, digest := 0, landing := 9 }] } },
       0, 0,
       ({ (upWith [(F.HOST_BAR4_WIN_partition 0, 1), (F.HOST_BAR4_WIN_page 0, 15), (F.HOST_BAR4_WIN_enable 0, 1)]) with host := { State.reset.host with bindings := [{ part := 1, set := 2, offset := 65536 * 15, length := 65536, digest := 0, landing := 9 }] } }).get
       (F.HOST_BAR4_WIN_partition 0), 65536 *
       ({ (upWith [(F.HOST_BAR4_WIN_partition 0, 1), (F.HOST_BAR4_WIN_page 0, 15), (F.HOST_BAR4_WIN_enable 0, 1)]) with host := { State.reset.host with bindings := [{ part := 1, set := 2, offset := 65536 * 15, length := 65536, digest := 0, landing := 9 }] } }).get
       (F.HOST_BAR4_WIN_page 0) + 0, 15, by decide +kernel⟩,
   ⟨upWith [(F.HOST_BAR4_WIN_partition 3, 1), (F.HOST_BAR4_WIN_page 3, 15), (F.HOST_BAR4_WIN_enable 3, 1)], 3, 0, (upWith
       [(F.HOST_BAR4_WIN_partition 3, 1), (F.HOST_BAR4_WIN_page 3, 15), (F.HOST_BAR4_WIN_enable 3, 1)]).get (F.HOST_BAR4_WIN_partition
       3), 65536 * (upWith [(F.HOST_BAR4_WIN_partition 3, 1), (F.HOST_BAR4_WIN_page 3, 15), (F.HOST_BAR4_WIN_enable 3, 1)]).get
       (F.HOST_BAR4_WIN_page 3) + 0, by decide +kernel⟩⟩

theorem witness_Judgements :
    (∃ (s : State) (p : Part) (v : VerdictIn) (k : Nat) (u : Subject) (e : Milepost), s.powered = true ∧ s.isSafe = true ∧ v.seam =
        none ∧ s.armedOnce p (recField v.record 4 4) k u e) ∧
    (∃ (s : State) (p : Part) (v : VerdictIn) (k : Nat) (u : Subject) (e : Milepost) (x : Nat), s.powered = true ∧ s.isSafe = false
        ∧ v.seam = none ∧ s.armedOnce p (recField v.record 4 4) k u e ∧ checkRecord p v.record = some x) ∧
    (∃ (s : State) (p : Part) (v : VerdictIn) (k : Nat) (u : Subject) (e : Milepost) (c : Nat), s.powered = true ∧ s.isSafe = false
        ∧ v.seam = none ∧ s.armedOnce p (recField v.record 4 4) k u e ∧ checkRecord p v.record = none ∧ s.lostIn v.record = some c) ∧
    (∃ (s : State) (p : Part) (v : VerdictIn) (k : Nat) (u : Subject) (e : Milepost) (n : Nat) (x : Nat), s.powered = true ∧
        s.isSafe = false ∧ v.seam = none ∧ s.armedOnce p (recField v.record 4 4) k u e ∧ checkRecord p v.record = none ∧ s.lostIn
        v.record = none ∧ s.checksOf p v = some (n, x)) ∧
    (∃ (s : State) (p : Part) (v : VerdictIn) (n : Nat) (x : Nat) (g : CheckSet), s.powered = true ∧ s.isSafe = false ∧ checkRecord
        p v.record = none ∧ s.lostIn v.record = none ∧ s.checksOf p v = some (n, x) ∧ s.checkSet p = some g ∧ g.burst ≤ s.failsNow p) ∧
    (∃ (s : State) (p : Part) (v : VerdictIn) (k : Nat) (u : Subject) (e : Milepost) (l : List Contrib), s.powered = true ∧ v.seam =
        none ∧ s.armedOnce p (recField v.record 4 4) k u e ∧ s.passes p v ∧ s.contribsFor v = some l ∧ s.roadFree p v.record ∧ recField
        v.record 2 1 = outGOOD ∧ (∀ z ∈ l, z.verdict = outGOOD) ∧ e.doubt = 0) ∧
    (∃ (s : State) (p : Part) (v : VerdictIn) (k : Nat) (u : Subject) (e : Milepost) (l : List Contrib), s.powered = true ∧ v.seam =
        none ∧ s.armedOnce p (recField v.record 4 4) k u e ∧ s.passes p v ∧ s.contribsFor v = some l ∧ (¬ s.roadFree p v.record ∨
        recField v.record 2 1 = outBAD ∨ recField v.record 2 1 = outINVALID ∨ recField v.record 2 1 = outGOOD ∧ (e.doubt ≠ 0 ∨ ∃ z ∈ l,
        z.verdict = outBAD ∨ z.verdict = outINVALID))) ∧
    (∃ (s : State) (p : Part) (v : VerdictIn), s.powered = true ∧ v.seam = none ∧ s.passes p v ∧ s.contribsFor v = none ∧ s.roadFree
        p v.record) ∧
    (∃ (s : State) (p : Part) (v : VerdictIn) (k : Nat) (u : Subject) (e : Milepost), s.powered = true ∧ v.seam = none ∧
        s.oneArm p (recField v.record 4 4) u ∧ u.key = some k ∧ tfind s.motion.entries k = some e ∧ e.state = 1 ∧ e.tag =
        u.tag ∧ e.part = u.part ∧ (k, e) ∈ s.due (k / 4096) ∧ ((∃ n, s.failsAt p v n) ∨ s.passes p v ∧ (∃ l, s.contribsFor v = some l))) ∧
    (∃ (s : State) (p : Part) (v : VerdictIn) (u : Subject), s.powered = true ∧ v.seam = none ∧ s.oneArm p (recField v.record 4 4) u ∧ u.key = none ∧ u.firedPeriod = none ∧ ((∃ n, s.failsAt p v n) ∨ s.passes p v ∧ (∃ l, s.contribsFor v = some l))) ∧
    (∃ (s : State) (v : VerdictIn) (q : Nat), s.powered = true ∧ v.seam = some q) :=
  ⟨⟨{ (upWith [(F.SAFE_STATUS_state, safeSAFE)]) with motion := { State.reset.motion with entries := [(5, milepost0)] }, host := { State.reset.host with subjects := [subject0] }, safe := { State.reset.safe with goldenSeen := [0] } },
       1, verdictOf 1 1 7 5 (2 ^ 64 - 5), 5, subject0, milepost0, by decide +kernel, by decide +kernel, by decide +kernel,
       by unfold State.armedOnce State.oneArm; decide +kernel⟩,
   ⟨{ (upWith [(F.ROUTE_PART_fit 1, 1), (F.SAFE_STATUS_state, safeRUN), (F.ISP_CTX_STATUS_loaded 0, 7), (F.MOT_CH_STATUS_count_state 0, cntVALID), (F.MOT_CH_STATUS_speed_state 0, 1), (F.SAFE_JUDGE_SEQ_counter 1, 4)]) with motion := { State.reset.motion with entries := [(5, milepost0)] }, host := { State.reset.host with subjects := [subject0] }, safe := { State.reset.safe with goldenSeen := [0] } },
       1, ({ verdictOf 1 1 7 5 3 with record := recordOf 128 [(4, 4, 7), (8, 4, 99)] } : VerdictIn), 5, subject0, milepost0, 0,
       by decide +kernel, by decide +kernel, by decide +kernel, by unfold State.armedOnce State.oneArm; decide +kernel, by decide +kernel⟩,
   ⟨{ (upWith [(F.ROUTE_PART_fit 1, 1), (F.SAFE_STATUS_state, safeRUN), (F.ISP_CTX_STATUS_loaded 0, 7), (F.MOT_CH_STATUS_count_state 0, cntVALID), (F.MOT_CH_STATUS_speed_state 0, 1), (F.SAFE_JUDGE_SEQ_counter 1, 4)]) with motion := { State.reset.motion with entries := [(5, milepost0)] }, host := { State.reset.host with subjects := [subject0] }, safe := { State.reset.safe with lostLines := [{ ctx := 0, row := 9, line := 9, code := 0x1234 }, { ctx := 0, row := 5, line := 5, code := 0x55 }] } },
       1, verdictOf 1 1 7 5 (2 ^ 64 - 5), 5, subject0, milepost0, 0x55, by decide +kernel, by decide +kernel, by decide +kernel,
       by unfold State.armedOnce State.oneArm; decide +kernel, by decide +kernel, by decide +kernel⟩,
   ⟨{ (upWith [(F.ROUTE_PART_fit 1, 1), (F.SAFE_STATUS_state, safeRUN), (F.ISP_CTX_STATUS_loaded 0, 7), (F.MOT_CH_STATUS_count_state 0, cntVALID), (F.MOT_CH_STATUS_speed_state 0, 1), (F.SAFE_JUDGE_SEQ_counter 1, 4)]) with motion := { State.reset.motion with entries := [(5, milepost0)] }, host := { State.reset.host with subjects := [subject0] }, safe := { State.reset.safe with goldenSeen := [0] } },
       1, verdictOf 1 1 7 6 (2 ^ 64 - 5), 5, subject0, milepost0, 2, 6, by decide +kernel, by decide +kernel, by decide +kernel,
       by unfold State.armedOnce State.oneArm; decide +kernel, by decide +kernel, by decide +kernel, by decide +kernel⟩,
   ⟨{ (upWith [(F.SAFE_STATUS_state, safeRUN)]) with cfg := { upReset.cfg with safety := { factorySafety with checkSets := [{ part := 0, contexts := [], travelLo := 0, travelHi := 0, lengthLo := 0, lengthHi := 0, maxAgeUs := 0, limits := [], tolerances := [], programs := [], weights := [], burst := 1, armPartition := true }] } }, clk := { State.reset.clk with now := samplesPerS }, safe := { State.reset.safe with fails := [(0, 1), (0, 0)] } },
       0, verdictOf 0 1 7 5 3, 2, 5,
       ({ part := 0, contexts := [], travelLo := 0, travelHi := 0, lengthLo := 0, lengthHi := 0, maxAgeUs := 0, limits := [], tolerances := [], programs := [], weights := [], burst := 1, armPartition := true }
       : CheckSet), by decide +kernel⟩,
   ⟨{ (upWith [(F.ROUTE_PART_fit 1, 1), (F.SAFE_STATUS_state, safeRUN), (F.ISP_CTX_STATUS_loaded 0, 7), (F.MOT_CH_STATUS_count_state 0, cntVALID), (F.MOT_CH_STATUS_speed_state 0, 1), (F.SAFE_JUDGE_SEQ_counter 1, 4)]) with motion := { State.reset.motion with entries := [(5, milepost0)] }, host := { State.reset.host with subjects := [subject0] }, safe := { State.reset.safe with goldenSeen := [0] } },
       1, verdictOf 1 1 7 5 (2 ^ 64 - 5), 5, subject0, milepost0, [], by decide +kernel, by decide +kernel,
       by unfold State.armedOnce State.oneArm; decide +kernel, by unfold State.passes; decide +kernel, by decide +kernel,
       by unfold State.roadFree; decide +kernel, by decide +kernel⟩,
   ⟨{ (upWith [(F.ROUTE_PART_fit 1, 1), (F.SAFE_STATUS_state, safeRUN), (F.ISP_CTX_STATUS_loaded 0, 7), (F.MOT_CH_STATUS_count_state 0, cntVALID), (F.MOT_CH_STATUS_speed_state 0, 1), (F.SAFE_JUDGE_SEQ_counter 1, 4)]) with motion := { State.reset.motion with entries := [(5, milepost0)] }, host := { State.reset.host with subjects := [subject0] }, safe := { State.reset.safe with goldenSeen := [0] } },
       1, verdictOf 1 2 7 9 (2 ^ 64 - 5), 5, subject0, milepost0, [], by decide +kernel, by decide +kernel,
       by unfold State.armedOnce State.oneArm; decide +kernel, by unfold State.passes; decide +kernel, by decide +kernel,
       by unfold State.roadFree; decide +kernel⟩,
   ⟨{ (upWith [(F.ROUTE_PART_fit 1, 1), (F.SAFE_STATUS_state, safeRUN), (F.ISP_CTX_STATUS_loaded 0, 7), (F.MOT_CH_STATUS_count_state 0, cntVALID), (F.MOT_CH_STATUS_speed_state 0, 1), (F.SAFE_JUDGE_SEQ_counter 1, 4)]) with motion := { State.reset.motion with entries := [(5, milepost0)] }, host := { State.reset.host with subjects := [subject0] }, safe := { State.reset.safe with goldenSeen := [0] } },
       1, ({ verdictOf 1 1 7 5 (2 ^ 64 - 5) with expects := [2] } : VerdictIn), by decide +kernel, by decide +kernel,
       by unfold State.passes; decide +kernel, by decide +kernel, by unfold State.roadFree; decide +kernel⟩,
   ⟨{ (upWith [(F.ROUTE_PART_fit 1, 1), (F.SAFE_STATUS_state, safeRUN), (F.ISP_CTX_STATUS_loaded 0, 7), (F.MOT_CH_STATUS_count_state 0, cntVALID), (F.MOT_CH_STATUS_speed_state 0, 1), (F.SAFE_JUDGE_SEQ_counter 1, 4)]) with motion := { State.reset.motion with entries := [(5, { milepost0 with target := 0 })] }, host := { State.reset.host with subjects := [subject0] }, safe := { State.reset.safe with goldenSeen := [0] } }, 1, verdictOf 1 1 7 6 (2 ^ 64 - 5), 5, subject0, ({ milepost0 with target := 0 } : Milepost), by decide +kernel, by decide +kernel, by unfold State.oneArm; decide +kernel, by decide +kernel, by decide +kernel, by decide +kernel, by decide +kernel, by decide +kernel, by decide +kernel, .inl ⟨2, by decide +kernel, .inr ⟨by decide +kernel, by decide +kernel, 6, by decide +kernel⟩⟩⟩,
   ⟨{ (upWith [(F.ROUTE_PART_fit 1, 1), (F.SAFE_STATUS_state, safeRUN), (F.ISP_CTX_STATUS_loaded 0, 7), (F.MOT_CH_STATUS_count_state 0, cntVALID), (F.MOT_CH_STATUS_speed_state 0, 1), (F.SAFE_JUDGE_SEQ_counter 1, 4)]) with host := { State.reset.host with subjects := [{ subject0 with key := none }] }, safe := { State.reset.safe with goldenSeen := [0] } }, 1, verdictOf 1 1 7 5 (2 ^ 64 - 5), ({ subject0 with key := none } : Subject), by decide +kernel, by decide +kernel, by unfold State.oneArm; decide +kernel, by decide +kernel, by decide +kernel, .inr ⟨by unfold State.passes; decide +kernel, [], by decide +kernel⟩⟩,
   ⟨upWith [], ({ verdictOf 1 1 7 5 3 with seam := some 3 } : VerdictIn), 3, by decide +kernel⟩⟩

theorem witness_CheckerSupervision :
    (∃ (s : State) (w : Fin 64) (early : Bool) (g : WatchdogCfg), s.powered = true ∧ s.watches w g early ∧ g.reaction = 0) ∧
    (∃ (s : State) (w : Fin 64) (early : Bool) (g : WatchdogCfg), s.powered = true ∧ s.watches w g early ∧ g.reaction = 1) ∧
    (∃ (s : State) (w : Fin 64) (early : Bool) (g : WatchdogCfg), s.powered = true ∧ s.watches w g early ∧ 2 ≤ g.reaction ∧
        s.isSafe = false) ∧
    (∃ (s : State) (w : Fin 64) (early : Bool), s.powered = true ∧ (∀ g, ¬ s.watches w g early)) ∧
    (∃ (s : State), s.powered = true ∧ s.isSafe = true) ∧
    (∃ (s : State) (c : CtxId), s.powered = true ∧ (s.ctxCfg c).defined = true ∧ s.get (F.SAFE_CTX_phase c) ≠ ctxNORMAL ∧
        c.val ∉ s.safe.refMissed) ∧
    (∃ (s : State) (c : CtxId), s.powered = true ∧
        ((s.ctxCfg c).defined = false ∨ s.get (F.SAFE_CTX_phase c) = ctxNORMAL ∨ c.val ∈ s.safe.refMissed)) ∧
    (∃ (s : State), s.powered = true ∧ s.get F.SAFE_STATUS_state = safeSTART ∧ ((∀ c < 64,
        (s.ctxCfg c).defined = true → c ∈ s.safe.goldenSeen))) ∧
    (∃ (s : State) (c : CtxId), s.powered = true ∧ s.get F.SAFE_STATUS_state = safeSTART ∧ (s.ctxCfg c).defined = true ∧
        c.val ∉ s.safe.goldenSeen) ∧
    (∃ (s : State), s.powered = true ∧ s.get F.SAFE_STATUS_state ≠ safeSTART) ∧
    (∃ (s : State) (k : Fin 9) (b : BitVec 8) (l : BitVec 8), s.powered = true ∧ k.val < 5 ∧ b.toNat ≤ l.toNat ∧ b.toNat ≤ 4 ∧
        s.safe.slice = none ∧ k.val < 2 ∧ s.isSafe = false) ∧
    (∃ (s : State) (k : Fin 9) (u : Fin 64) (b : BitVec 8) (l : BitVec 8), s.powered = true ∧ k.val < 5 ∧ b.toNat ≤ l.toNat ∧ b.toNat ≤ 4 ∧
        s.safe.slice = none ∧ k.val = 3 ∧ u.val < 8) ∧
    (∃ (s : State) (k : Fin 9) (u : Fin 64) (b : BitVec 8) (l : BitVec 8), s.powered = true ∧ k.val < 5 ∧ b.toNat ≤ l.toNat ∧ b.toNat ≤ 4 ∧
        s.safe.slice = none ∧ k.val = 4 ∧ 48 ≤ u.val ∧ s.isSafe = false) ∧
    (∃ (s : State) (k : Fin 9) (b : BitVec 8) (l : BitVec 8) (w : Bool), s.powered = true ∧
        (5 ≤ k.val ∨ w = true ∨ l.toNat < b.toNat ∨ 4 < b.toNat ∨ s.safe.slice ≠ none)) ∧
    (∃ (s : State) (k : Nat) (u : Nat) (b : Nat), s.powered = true ∧ s.safe.slice = some (k, u, b) ∧ k < 2 ∧ s.isSafe = false) ∧
    (∃ (s : State) (k : Fin 9), s.powered = true ∧ s.testFitted k = true ∧ s.on (F.SAFE_TEST_overdue k) = false ∧
        s.cfg.safety.overdueSafe = false) ∧
    (∃ (s : State) (k : Fin 9), s.powered = true ∧ s.testFitted k = true ∧ s.on (F.SAFE_TEST_overdue k) = false ∧
        s.cfg.safety.overdueSafe = true ∧ s.isSafe = false) ∧
    (∃ (s : State) (k : Fin 9), s.powered = true ∧ (s.testFitted k = false ∨ s.on (F.SAFE_TEST_overdue k) = true)) :=
  ⟨⟨{ (upWith [(F.SAFE_WDOG_armed 0, 1)]) with cfg := { upReset.cfg with safety := { factorySafety with watchdogs := [{ kind := 2, target := 0, minUs := 5, maxUs := 50, reaction := 0 }] } } },
      0, true, ({ kind := 2, target := 0, minUs := 5, maxUs := 50, reaction := 0 } : WatchdogCfg), by decide +kernel,
      watches_of (by decide +kernel), by decide +kernel⟩,
   ⟨{ (upWith [(F.SAFE_WDOG_armed 0, 1)]) with cfg := { upReset.cfg with safety := { factorySafety with watchdogs := [{ kind := 3, target := 1, minUs := 5, maxUs := 50, reaction := 1 }] } } },
       0, true, ({ kind := 3, target := 1, minUs := 5, maxUs := 50, reaction := 1 } : WatchdogCfg), by decide +kernel,
       watches_of (by decide +kernel), by decide +kernel⟩,
   ⟨{ (upWith [(F.SAFE_WDOG_armed 0, 1)]) with cfg := { upReset.cfg with safety := { factorySafety with watchdogs := [{ kind := 5, target := 0, minUs := 5, maxUs := 50, reaction := 2 }] } } },
       0, true, ({ kind := 5, target := 0, minUs := 5, maxUs := 50, reaction := 2 } : WatchdogCfg), by decide +kernel,
       watches_of (by decide +kernel), by decide +kernel, by decide +kernel⟩,
   ⟨{ (upWith []) with cfg := { upReset.cfg with safety := { factorySafety with watchdogs := [{ kind := 0, target := 0, minUs := 5, maxUs := 50, reaction := 0 }] } } },
       0, true, by decide +kernel, fun _ h => absurd h.2.1 (by decide +kernel)⟩,
   ⟨upWith [(F.SAFE_STATUS_state, safeSAFE)], by decide +kernel⟩,
   ⟨upWith [], 1, by decide +kernel⟩,
   ⟨upWith [], 63, by decide +kernel⟩,
   ⟨{ (upWith [(F.SAFE_STATUS_state, safeSTART)]) with safe := { State.reset.safe with goldenSeen := [0, 1] } }, by decide +kernel⟩,
   ⟨{ (upWith [(F.SAFE_STATUS_state, safeSTART)]) with safe := { State.reset.safe with goldenSeen := [0] } }, 1, by decide +kernel⟩,
   ⟨upWith [(F.SAFE_STATUS_state, safeRUN)], by decide +kernel⟩,
   ⟨upWith [], 1, 4, 4, by decide +kernel⟩,
   ⟨upWith [], 3, 7, 3, 3, by decide +kernel⟩,
   ⟨upWith [], 4, 48, 4, 4, by decide +kernel⟩,
   ⟨upWith [], 5, 0, 0, false, by decide +kernel⟩,
   ⟨{ (upWith []) with safe := { State.reset.safe with slice := some (1, 4, 3) } }, 1, 4, 3, by decide +kernel⟩,
   ⟨{ (upWith [(F.SAFE_TEST_overdue 8, 0)]) with cfg := { upReset.cfg with safety := { factorySafety with overdueSafe := false } } }, 8,
       by decide +kernel⟩,
   ⟨{ (upWith [(F.SAFE_TEST_overdue 8, 0)]) with cfg := { upReset.cfg with safety := { factorySafety with overdueSafe := true } } }, 8,
       by decide +kernel⟩,
   ⟨upWith [(F.SAFE_TEST_overdue 5, 1)], 5, by decide +kernel⟩⟩

theorem witness_SafeIo :
    (∃ (s : State) (i : Fin 2), s.powered = true ∧ s.hasField = true ∧ (s.safeLevel i 0 = false ∨ s.safeLevel i 1 = false) ∧ (s.get
        F.SAFE_IO_demand).testBit i.val = false ∧ (s.safeIn i).function = fnSAFESTATE ∧ s.isSafe = false) ∧
    (∃ (s : State) (i : Fin 2), s.powered = true ∧ s.hasField = true ∧ ((s.get F.SAFE_IO_demand).testBit i.val = true ∨ s.safeLevel
        i 0 = true ∧ s.safeLevel i 1 = true)) ∧
    (∃ (s : State) (i : Fin 2), s.powered = true ∧ s.hasField = true ∧ s.safeLevel i 0 = true ∧ s.safeLevel i 1 = true ∧ (s.get
        F.SAFE_IO_demand).testBit i.val = true) ∧
    (∃ (s : State) (i : Fin 2) (o : Nat), s.powered = true ∧ s.hasField = true ∧ s.safeLevel i 0 = true ∧ s.safeLevel i 1 = true ∧
        s.get F.SAFE_IO_demand = 2 ^ i.val ∧ s.get F.SAFE_IO_input_fault = 0 ∧ o < 2 ∧ (s.safeOut o).manual = false) ∧
    (∃ (s : State) (i : Fin 2), s.powered = true ∧ s.hasField = true ∧ (s.safeLevel i 0 = false ∨ s.safeLevel i 1 = false ∨ (s.get
        F.SAFE_IO_demand).testBit i.val = false)) ∧
    (∃ (s : State) (i : Fin 2), s.powered = true ∧ s.hasField = true ∧ s.safeLevel i 0 ≠ s.safeLevel i 1) ∧
    (∃ (s : State) (i : Fin 2), s.powered = true ∧ s.hasField = true ∧ (s.safeIn i).pulses = true) ∧
    (∃ (s : State) (i : Fin 2), s.powered = true ∧ s.hasField = true ∧ s.safeLevel i 0 = s.safeLevel i 1) ∧
    (∃ (s : State) (c : Fin 2) (f : BitVec 4) (r : BitVec 4), s.powered = true ∧ s.hasField = true ∧ ((∀ k, k < 4 → (s.safeIn (k /
        2)).pulses = true → f.getLsbD k = (k % 2 == c.val) ∧ r.getLsbD k = true))) ∧
    (∃ (s : State) (c : Fin 2) (f : BitVec 4) (r : BitVec 4) (k : Nat), s.powered = true ∧ s.hasField = true ∧ k < 4 ∧ (s.safeIn (k
        / 2)).pulses = true ∧ (f.getLsbD k ≠ (k % 2 == c.val) ∨ r.getLsbD k = false)) ∧
    (∃ (s : State) (i : Fin 2), s.powered = true ∧ s.hasField = true ∧ s.safeLevel i 0 = true ∧ s.safeLevel i 1 = true ∧ s.get
        F.SAFE_IO_demand = 0 ∧ s.get F.SAFE_IO_input_fault = 2 ^ i.val ∧ ((∀ o < 2, s.mapped i o = true → (s.safeOut o).manual =
        false))) ∧
    (∃ (s : State) (i : Fin 2) (o : Nat), s.powered = true ∧ s.hasField = true ∧ s.safeLevel i 0 = true ∧ s.safeLevel i 1 = true ∧
        (s.get F.SAFE_IO_input_fault).testBit i.val = true ∧ o < 2 ∧ s.mapped i o = true ∧ (s.safeOut o).manual = true ∧ (s.get
        F.SAFE_IO_held).testBit o = true) ∧
    (∃ (s : State) (i : Fin 2), s.powered = true ∧ s.hasField = true ∧ (s.safeLevel i 0 = false ∨ s.safeLevel i 1 = false ∨ (s.get
        F.SAFE_IO_input_fault).testBit i.val = false)) ∧
    (∃ (s : State) (o : Fin 2) (ch : Fin 2) (b : Bool), s.powered = true ∧ s.hasField = true ∧ s.safe.outTest = some (o.val, ch.val)
        ∧ b = ({ s with safe := { s.safe with outTest := none } }).safeOutOn o ch) ∧
    (∃ (s : State) (o : Fin 2) (ch : Fin 2) (b : Bool), s.powered = true ∧ s.hasField = true ∧ s.safe.outTest = some (o.val, ch.val)
        ∧ b ≠ ({ s with safe := { s.safe with outTest := none } }).safeOutOn o ch ∧ s.isSafe = false) ∧
    (∃ (s : State) (o : Fin 2) (ch : Fin 2), s.powered = true ∧ s.hasField = true ∧ s.safe.outTest ≠ some (o.val, ch.val)) ∧
    (∃ (s : State), s.powered = true ∧ s.hasField = false) ∧
    (∃ (s : State) (k : Nat), s.powered = true ∧ s.hasField = true ∧ k < 2 ∧ s.cfg.safety.msgPorts.testBit k = true ∧ s.timeLinked k
        = true) ∧
    (∃ (s : State), s.powered = true ∧ s.hasField = true ∧ ((∀ k < 2, s.cfg.safety.msgPorts.testBit k = true → s.timeLinked k =
        false))) ∧
    (∃ (s : State) (k : Fin 2) (b : Bool), s.powered = true ∧ s.timePort k = true ∧ s.timeLinked k ≠ b) ∧
    (∃ (s : State) (k : Fin 2) (b : Bool), s.powered = true ∧ (s.timePort k = false ∨ s.timeLinked k = b)) :=
  ⟨⟨{ (upWith [(F.SAFE_IO_inputs, 1), (F.SAFE_STATUS_state, safeRUN)]) with cfg := { upReset.cfg with safety := { factorySafety with inputs := [{ function := fnSAFESTATE, pulses := true, filterUs := 200, discrepancyMs := 50 }, { function := fnSAFESTATE, pulses := true, filterUs := 200, discrepancyMs := 50 }], outputs := [{ manual := true, resetInput := none, testMs := 1000, pulseUs := 300 }, { manual := true, resetInput := none, testMs := 1000, pulseUs := 300 }] } } },
       0, by decide +kernel⟩,
   ⟨upWith [(F.SAFE_IO_inputs, 12)], 1, by decide +kernel⟩,
   ⟨upWith [(F.SAFE_IO_inputs, 12), (F.SAFE_IO_demand, 3)], 1, by decide +kernel⟩,
   ⟨{ (upWith [(F.SAFE_IO_input_fault, 0), (F.SAFE_IO_inputs, 15), (F.SAFE_IO_demand, 2), (F.SAFE_IO_held, 3), (F.SAFE_STATUS_state, safeRUN)]) with cfg := { upReset.cfg with safety := { factorySafety with inputs := [{ function := 2, pulses := true, filterUs := 200, discrepancyMs := 50 }, { function := 2, pulses := true, filterUs := 200, discrepancyMs := 50 }], outputs := [{ manual := false, resetInput := none, testMs := 1000, pulseUs := 300 }, { manual := false, resetInput := none, testMs := 1000, pulseUs := 300 }] } } },
       1, 1, by decide +kernel⟩,
   ⟨upWith [(F.SAFE_IO_inputs, 1), (F.SAFE_IO_demand, 1)], 0, by decide +kernel⟩,
   ⟨upWith [(F.SAFE_IO_inputs, 2)], 0, by decide +kernel⟩,
   ⟨upWith [], 0, by decide +kernel⟩,
   ⟨upWith [(F.SAFE_IO_inputs, 3)], 0, by decide +kernel⟩,
   ⟨upWith [], 0, 5, 15, by decide +kernel⟩,
   ⟨upWith [], 0, 4, 15, 0, by decide +kernel⟩,
   ⟨{ (upWith [(F.SAFE_IO_demand, 0), (F.SAFE_IO_inputs, 15), (F.SAFE_IO_input_fault, 2)]) with cfg := { upReset.cfg with safety := { factorySafety with inputs := [{ function := 2, pulses := true, filterUs := 200, discrepancyMs := 50 }, { function := 2, pulses := true, filterUs := 200, discrepancyMs := 50 }], outputs := [{ manual := false, resetInput := none, testMs := 1000, pulseUs := 300 }, { manual := false, resetInput := none, testMs := 1000, pulseUs := 300 }] } } },
       1, by decide +kernel⟩,
   ⟨upWith [(F.SAFE_IO_inputs, 12), (F.SAFE_IO_input_fault, 2), (F.SAFE_IO_held, 2)], 1, 1, by decide +kernel⟩,
   ⟨upWith [(F.SAFE_IO_inputs, 3)], 0, by decide +kernel⟩,
   ⟨{ (upWith []) with safe := { State.reset.safe with outTest := some (0, 0) } }, 0, 0, false, by decide +kernel⟩,
   ⟨{ (upWith [(F.SAFE_STATUS_state, safeRUN)]) with safe := { State.reset.safe with outTest := some (0, 1) } }, 0, 1, false,
       by decide +kernel⟩,
   ⟨{ (upWith []) with safe := { State.reset.safe with outTest := some (1, 0) } }, 0, 0, by decide +kernel⟩,
   ⟨{ (upWith []) with variant := .v9640 }, by decide +kernel⟩,
   ⟨upWith [], 0, by decide +kernel⟩,
   ⟨{ (upWith []) with safe := { State.reset.safe with down := [0] } }, by decide +kernel⟩,
   ⟨upWith [], 0, false, by decide +kernel⟩,
   ⟨{ (upWith []) with safe := { State.reset.safe with down := [0] } }, 0, false, by decide +kernel⟩⟩

theorem witness_SafeCommands :
    (∃ (s : State) (i : Port), s.powered = true ∧ s.privileged i = true ∧ s.isSafe = false) ∧
    (∃ (s : State) (i : Port), s.powered = true ∧ s.privileged i = false) ∧
    (∃ (s : State) (i : Port), s.powered = true ∧ s.privileged i = true ∧ s.isSafe = true ∧ s.safeHeld = false) ∧
    (∃ (s : State) (i : Port), s.powered = true ∧ s.privileged i = true ∧ s.isSafe = true ∧ s.safeHeld = true) ∧
    (∃ (s : State) (n : Fin 32), s.powered = true ∧ s.hasField = true ∧ s.isSafe = true ∧ s.cfg.safety.resetByInput = some n.val ∧
        s.safeHeld = false) ∧
    (∃ (s : State) (n : Fin 32), s.powered = true ∧ s.isSafe = true ∧ (s.cfg.safety.resetByInput ≠ some n.val ∨ s.safeHeld = true)) ∧
    (∃ (s : State) (i : Port), s.powered = true ∧ s.role i = roleOWNER ∧ i.val ∈ s.boot.proven ∧ s.keep.safetyLeft ≠ 0) ∧
    (∃ (s : State) (i : Port), s.powered = true ∧ s.role i ≠ roleOWNER) ∧
    (∃ (s : State) (i : Port), s.powered = true ∧ s.role i = roleOWNER ∧ i.val ∉ s.boot.proven) ∧
    (∃ (s : State) (i : Port), s.powered = true ∧ s.role i = roleOWNER ∧ i.val ∈ s.boot.proven ∧ s.keep.safetyLeft = 0) :=
  ⟨⟨upWith [], 0, by decide +kernel⟩,
   ⟨upWith [], 2, by decide +kernel⟩,
   ⟨upWith [(F.SAFE_STATUS_state, safeSAFE)], 0, by decide +kernel⟩,
   ⟨{ (upWith [(F.SAFE_STATUS_state, safeSAFE)]) with safe := { State.reset.safe with active := [0x9001] } }, 0, by decide +kernel⟩,
   ⟨{ (upWith [(F.SAFE_STATUS_state, safeSAFE)]) with cfg := { upReset.cfg with safety := { factorySafety with resetByInput := some 31 } } },
       31, by decide +kernel⟩,
   ⟨{ (upWith [(F.SAFE_STATUS_state, safeSAFE)]) with cfg := { upReset.cfg with safety := { factorySafety with resetByInput := some 31 } } },
       30, by decide +kernel⟩,
   ⟨{ (upWith []) with boot := { State.reset.boot with proven := [0] }, keep := { State.reset.keep with safetyLeft := 1 } }, 0,
       by decide +kernel⟩,
   ⟨{ (upWith []) with boot := { State.reset.boot with proven := [3] } }, 3, by decide +kernel⟩,
   ⟨upWith [], 0, by decide +kernel⟩,
   ⟨{ (upWith []) with boot := { State.reset.boot with proven := [0] }, keep := { State.reset.keep with safetyLeft := 0 } }, 0,
       by decide +kernel⟩⟩

theorem witness_ScrubAndTrace :
    (∃ (s : State) (k : Fin 4) (l : BitVec 32), s.powered = true ∧ s.kindLines k ≤ l.toNat) ∧
    (∃ (s : State) (k : Fin 4) (l : BitVec 32), s.powered = true ∧ l.toNat < s.kindLines k ∧ s.failedSram k l.toNat) ∧
    (∃ (s : State) (k : Fin 4) (l : BitVec 32) (f : Option BadLine), s.powered = true ∧ k.val < 3 ∧ l.toNat < s.kindLines k ∧
        s.errorAt (lineAddr k l.toNat) f = none) ∧
    (∃ (s : State) (k : Fin 4) (l : BitVec 32) (f : Option BadLine) (b : BadLine), s.powered = true ∧ k.val < 3 ∧ l.toNat <
        s.kindLines k ∧ s.errorAt (lineAddr k l.toNat) f = some b ∧ sound (lineAddr k l.toNat) b = true ∧ ¬ s.failedSram k l.toNat) ∧
    (∃ (s : State) (k : Fin 4) (l : BitVec 32) (f : Option BadLine) (b : BadLine) (bs : List Byte), s.powered = true ∧ k.val < 3 ∧
        l.toNat < s.kindLines k ∧ s.errorAt (lineAddr k l.toNat) f = some b ∧ sound (lineAddr k l.toNat) b = false ∧ corrected (lineAddr
        k l.toNat) b = some bs ∧ s.noErrors (lineAddr k l.toNat) ∧ ¬ s.failedSram k l.toNat) ∧
    (∃ (s : State) (k : Fin 4) (l : BitVec 32) (f : Option BadLine) (b : BadLine), s.powered = true ∧ k.val < 3 ∧ l.toNat <
        s.kindLines k ∧ s.errorAt (lineAddr k l.toNat) f = some b ∧ sound (lineAddr k l.toNat) b = false ∧ corrected (lineAddr k
        l.toNat) b = none ∧ s.noErrors (lineAddr k l.toNat) ∧ ¬ s.failedSram k l.toNat) ∧
    (∃ (s : State) (k : Fin 4) (l : BitVec 32) (h : Fin 5), s.powered = true ∧ k.val = memHBM ∧ l.toNat < s.kindLines k ∧ l.toNat ∉
        s.integ.poison ∧ h = 0) ∧
    (∃ (s : State) (k : Fin 4) (l : BitVec 32) (h : Fin 5), s.powered = true ∧ k.val = memHBM ∧ l.toNat < s.kindLines k ∧ l.toNat ∉
        s.integ.poison ∧ h = 1) ∧
    (∃ (s : State) (k : Fin 4) (l : BitVec 32) (h : Fin 5), s.powered = true ∧ k.val = memHBM ∧ l.toNat < s.kindLines k ∧ l.toNat ∉
        s.integ.poison ∧ h = 2) ∧
    (∃ (s : State) (k : Fin 4) (l : BitVec 32) (h : Fin 5), s.powered = true ∧ k.val = memHBM ∧ l.toNat < s.kindLines k ∧ l.toNat ∉
        s.integ.poison ∧ (h = 3 ∨ h = 4) ∧ s.integ.poison.length < 4096) ∧
    (∃ (s : State) (k : Fin 4) (l : BitVec 32), s.powered = true ∧ k.val = memHBM ∧ l.toNat < s.kindLines k ∧ l.toNat ∈
        s.integ.poison) ∧
    (∃ (s : State) (k : Fin 4) (l : BitVec 32) (h : Fin 5), s.powered = true ∧ l.toNat < s.kindLines k ∧ l.toNat + 1 = s.kindLines k
        ∧ k.val = memHBM ∧ h = 0) ∧
    (∃ (s : State) (k : Fin 3) (l : BitVec 32), s.powered = true ∧ lineAddr k.val l.toNat / 64 ∈ s.integ.writeBack) ∧
    (∃ (s : State) (k : Fin 3) (l : BitVec 32), s.powered = true ∧ lineAddr k.val l.toNat / 64 ∉ s.integ.writeBack) ∧
    (∃ (s : State) (k : Fin 3) (w : Fin 256) (v : Word), s.powered = true ∧ (∀ w < 256, s.tripAgree w) ∧ v.toNat ≠ s.get
        (F.INTEG_TRIP_COPY_word k w)) ∧
    (∃ (s : State) (w : Fin 256) (v : Word) (x : Word), s.powered = true ∧ (∀ w < 256, s.tripAgree w) ∧ v ≠ x ∧ v.toNat ≠ s.get
        (F.INTEG_TRIP_COPY_word 2 w) ∧ x.toNat ≠ s.get (F.INTEG_TRIP_COPY_word 2 w) ∧ w.val ∉ s.integ.tripFix) ∧
    (∃ (s : State) (i : Port) (v : BitVec 2) (m : BitVec 8), s.powered = true ∧ s.privileged i = true ∧ v ≠ 3 ∧ (s.get
        F.INTEG_STATUS_trace_level = 0 ∨ s.get F.INTEG_STATUS_trace_port = i.val) ∧ ((v ≠ 2 ∨ (∀ p g, p < 8 → m.toNat.testBit p = true →
        tfind s.cfg.programs p = some g → g.callTrace = true)))) ∧
    (∃ (s : State) (i : Port) (v : BitVec 2), s.powered = true ∧ s.privileged i = true ∧ v ≠ 3 ∧ s.get F.INTEG_STATUS_trace_level ≠
        0 ∧ s.get F.INTEG_STATUS_trace_port ≠ i.val) ∧
    (∃ (s : State) (i : Port) (m : BitVec 8) (p : Nat) (g : ProgramSec), s.powered = true ∧ s.privileged i = true ∧ (s.get
        F.INTEG_STATUS_trace_level = 0 ∨ s.get F.INTEG_STATUS_trace_port = i.val) ∧ p < 8 ∧ m.toNat.testBit p = true ∧ tfind
        s.cfg.programs p = some g ∧ g.callTrace = false) ∧
    (∃ (s : State) (i : Port), s.powered = true ∧ s.privileged i = false) :=
  ⟨⟨upWith [], 1, 2097152 * 2, by decide +kernel⟩,
   ⟨upWith [(F.CORE_ID_role 0, coreFAILED)], 0, 0, by decide +kernel, by decide +kernel, by unfold State.failedSram; decide +kernel⟩,
   ⟨upWith [], 0, 5, none, by decide +kernel⟩,
   ⟨upWith [], 0, 5, some
       ({ raw := 0 :: List.replicate 63 0, checks := List.replicate 64 0, crc := crc32c (foldBytes (lineAddr 0 5) ++ List.replicate 64 0) }
       : BadLine),
       ({ raw := 0 :: List.replicate 63 0, checks := List.replicate 64 0, crc := crc32c (foldBytes (lineAddr 0 5) ++ List.replicate 64 0) }
       : BadLine), by decide +kernel, by decide +kernel, by decide +kernel, by decide +kernel, by decide +kernel,
       by unfold State.failedSram; decide +kernel⟩,
   ⟨upWith [], 0, 5, some
       ({ raw := 1 :: List.replicate 63 0, checks := List.replicate 64 0, crc := crc32c (foldBytes (lineAddr 0 5) ++ List.replicate 64 0) }
       : BadLine),
       ({ raw := 1 :: List.replicate 63 0, checks := List.replicate 64 0, crc := crc32c (foldBytes (lineAddr 0 5) ++ List.replicate 64 0) }
       : BadLine), List.replicate 64 0, by decide +kernel, by decide +kernel, by decide +kernel, by decide +kernel, (badBit _).1,
       (badBit _).2, by unfold State.noErrors; decide +kernel, by unfold State.failedSram; decide +kernel⟩,
   ⟨{ (upWith []) with integ := { State.reset.integ with bad := [(lineAddr 0 5 / 64, ({ raw := 0 :: List.replicate 63 0, checks := List.replicate 64 0, crc := 1 + crc32c (foldBytes (lineAddr 0 5) ++ List.replicate 64 0) } : BadLine))] } },
       0, 5, none,
       ({ raw := 0 :: List.replicate 63 0, checks := List.replicate 64 0, crc := 1 + crc32c (foldBytes (lineAddr 0 5) ++ List.replicate 64 0) }
       : BadLine), by decide +kernel, by decide +kernel, by decide +kernel, by decide +kernel, by decide +kernel, by decide +kernel,
       by unfold State.noErrors; decide +kernel, by unfold State.failedSram; decide +kernel⟩,
   ⟨upWith [], 3, 5, 0, by decide +kernel⟩,
   ⟨upWith [], 3, 5, 1, by decide +kernel⟩,
   ⟨upWith [], 3, 5, 2, by decide +kernel⟩,
   ⟨upWith [], 3, 5, 3, by decide +kernel⟩,
   ⟨{ (upWith []) with integ := { State.reset.integ with poison := [5] } }, 3, 5, by decide +kernel⟩,
   ⟨upWith [], 3, BitVec.ofNat 32 (upReset.kindLines 3 - 1), 0, by decide +kernel⟩,
   ⟨{ (upWith []) with integ := { State.reset.integ with writeBack := [lineAddr 1 5 / 64], bad := [(lineAddr 1 5 / 64, ({ raw := 1 :: List.replicate 63 0, checks := List.replicate 64 0, crc := crc32c (foldBytes (lineAddr 1 5) ++ List.replicate 64 0) } : BadLine))] } },
       1, 5, by decide +kernel⟩,
   ⟨upWith [], 1, 5, by decide +kernel⟩,
   ⟨upWith [], 1, 255, 3, by decide +kernel, by unfold State.tripAgree; decide +kernel, by decide +kernel⟩,
   ⟨upWith [], 48, 3, 5, by decide +kernel, by unfold State.tripAgree; decide +kernel, by decide +kernel, by decide +kernel,
       by decide +kernel, by decide +kernel⟩,
   ⟨upWith [(F.INTEG_STATUS_trace_level, 0)], 0, 2, 6, by decide +kernel, by decide +kernel, by decide +kernel, by decide +kernel,
       Or.inr (of_all_parts (by decide +kernel))⟩,
   ⟨upWith [(F.INTEG_STATUS_trace_level, 2), (F.INTEG_STATUS_trace_port, 3)], 0, 0, by decide +kernel⟩,
   ⟨{ (upWith [(F.INTEG_STATUS_trace_level, 0)]) with cfg := { upReset.cfg with programs := [(1, program0)] } }, 0, 2, 1, program0,
       by decide +kernel⟩,
   ⟨upWith [], 1, by decide +kernel⟩⟩

theorem witness_RecorderCommands :
    (∃ (s : State) (w : Waymark) (rest : List Waymark), s.powered = true ∧ s.recorder.buffer = w :: rest ∧ s.headFree = true) ∧
    (∃ (s : State), s.powered = true ∧ (s.recorder.buffer = [] ∨ s.headFree = false)) ∧
    (∃ (s : State), s.powered = true ∧ s.on F.WAYM_STATUS_budget_empty = true) ∧
    (∃ (s : State), s.powered = true ∧ s.on F.WAYM_STATUS_budget_empty = false) ∧
    (∃ (s : State), s.powered = true ∧ (s.recorder.buckets.map (fun e => e.1)).Nodup) ∧
    (∃ (s : State) (c : Nat) (p : Nat) (w : Waymark), s.powered = true ∧ (s.bucket (c, p)).last = some w ∧ (s.bucket (c, p)).supp ≠ 0 ∧
        s.recorder.buffer.length < 960) ∧
    (∃ (s : State) (c : Nat) (p : Nat) (w : Waymark), s.powered = true ∧ (s.bucket (c, p)).last = some w ∧ (s.bucket (c, p)).supp ≠ 0 ∧
        1024 ≤ s.recorder.buffer.length) ∧
    (∃ (s : State) (c : Nat) (p : Nat), s.powered = true ∧ ((s.bucket (c, p)).last = none ∨ (s.bucket (c, p)).supp = 0)) ∧
    (∃ (s : State) (i : Port), s.powered = true ∧ s.privileged i = true ∧ s.on F.WAYM_STATUS_frozen = false) ∧
    (∃ (s : State) (i : Port), s.powered = true ∧ s.privileged i = false) ∧
    (∃ (s : State) (i : Port), s.powered = true ∧ s.privileged i = true ∧ s.on F.WAYM_STATUS_frozen = true ∧
        s.recorder.frozenBy = some i.val) ∧
    (∃ (s : State) (i : Port), s.powered = true ∧ s.privileged i = true ∧ s.on F.WAYM_STATUS_frozen = true ∧
        s.recorder.frozenBy ≠ some i.val) ∧
    (∃ (s : State) (i : Port) (e : Nat × Waymark), s.powered = true ∧
        s.recorder.flash.find? (fun e => e.2.seq == s.get (F.WAYM_READ_SEQ_seq i)) = some e ∧ e.1 ∉ s.recorder.torn) ∧
    (∃ (s : State) (i : Port) (e : Nat × Waymark), s.powered = true ∧
        s.recorder.flash.find? (fun e => e.2.seq == s.get (F.WAYM_READ_SEQ_seq i)) = some e ∧ e.1 ∈ s.recorder.torn) ∧
    (∃ (s : State) (i : Port), s.powered = true ∧ s.recorder.flash.find? (fun e => e.2.seq == s.get (F.WAYM_READ_SEQ_seq i)) = none ∧
        (s.get (F.WAYM_READ_SEQ_seq i) + 2 ^ 32 - s.get F.WAYM_HEAD_SEQ_seq) % 2 ^ 32 < 2 ^ 31) ∧
    (∃ (s : State) (i : Port), s.powered = true ∧ s.recorder.flash.find? (fun e => e.2.seq == s.get (F.WAYM_READ_SEQ_seq i)) = none ∧
        2 ^ 31 ≤ (s.get (F.WAYM_READ_SEQ_seq i) + 2 ^ 32 - s.get F.WAYM_HEAD_SEQ_seq) % 2 ^ 32) :=
  ⟨⟨{ (upWith [(F.WAYM_STATUS_scan_done, 1), (F.WAYM_STATUS_buffered, 1)]) with recorder := { State.reset.recorder with buffer := [({ code := 0x0101, kind := 1, inst := 0, sev := 1, flags := 0, supp := 0, seq := 7, opSec := 1, cycles := 2, p1 := 1, p2 := 2, p3 := 3 } : Waymark)] } },
      ({ code := 0x0101, kind := 1, inst := 0, sev := 1, flags := 0, supp := 0, seq := 7, opSec := 1, cycles := 2, p1 := 1, p2 := 2, p3 := 3 } : Waymark),
      [], by decide +kernel⟩,
   ⟨upWith [], by decide +kernel⟩,
   ⟨upWith [(F.WAYM_STATUS_budget_empty, 1)], by decide +kernel⟩,
   ⟨upWith [(F.WAYM_STATUS_budget_empty, 0)], by decide +kernel⟩,
   ⟨{ (upWith []) with recorder := { State.reset.recorder with buckets := [((0x0101, 0), ({ tokens := 0, supp := 2, lastAt := 0, last := some ({ code := 0x0101, kind := 1, inst := 0, sev := 1, flags := 0, supp := 0, seq := 7, opSec := 1, cycles := 2, p1 := 1, p2 := 2, p3 := 3 } : Waymark) } : Bucket)), ((0x0102, 0), ({ tokens := 0, supp := 2, lastAt := 0, last := some ({ code := 0x0101, kind := 1, inst := 0, sev := 1, flags := 0, supp := 0, seq := 7, opSec := 1, cycles := 2, p1 := 1, p2 := 2, p3 := 3 } : Waymark) } : Bucket))] } },
       by decide +kernel⟩,
   ⟨{ (upWith []) with recorder := { State.reset.recorder with buckets := [((0x0101, 0), ({ tokens := 0, supp := 2, lastAt := 0, last := some ({ code := 0x0101, kind := 1, inst := 0, sev := 1, flags := 0, supp := 0, seq := 7, opSec := 1, cycles := 2, p1 := 1, p2 := 2, p3 := 3 } : Waymark) } : Bucket))] } },
       0x0101, 0,
       ({ code := 0x0101, kind := 1, inst := 0, sev := 1, flags := 0, supp := 0, seq := 7, opSec := 1, cycles := 2, p1 := 1, p2 := 2, p3 := 3 } : Waymark),
       by decide +kernel⟩,
   ⟨{ (upWith []) with recorder := { State.reset.recorder with buckets := [((0x0101, 0), ({ tokens := 0, supp := 2, lastAt := 0, last := some ({ code := 0x0101, kind := 1, inst := 0, sev := 1, flags := 0, supp := 0, seq := 7, opSec := 1, cycles := 2, p1 := 1, p2 := 2, p3 := 3 } : Waymark) } : Bucket))], buffer := List.replicate 1024 ({ code := 0x0101, kind := 1, inst := 0, sev := 1, flags := 0, supp := 0, seq := 7, opSec := 1, cycles := 2, p1 := 1, p2 := 2, p3 := 3 } : Waymark) } },
       0x0101, 0,
       ({ code := 0x0101, kind := 1, inst := 0, sev := 1, flags := 0, supp := 0, seq := 7, opSec := 1, cycles := 2, p1 := 1, p2 := 2, p3 := 3 } : Waymark),
       by decide +kernel⟩,
   ⟨upWith [], 0x0101, 0, by decide +kernel⟩,
   ⟨upWith [(F.WAYM_STATUS_frozen, 0)], 0, by decide +kernel⟩,
   ⟨upWith [], 1, by decide +kernel⟩,
   ⟨{ (upWith [(F.WAYM_STATUS_frozen, 1)]) with recorder := { State.reset.recorder with frozenBy := some 0 } }, 0, by decide +kernel⟩,
   ⟨{ (upWith [(F.WAYM_STATUS_frozen, 1)]) with recorder := { State.reset.recorder with frozenBy := some 3 } }, 0, by decide +kernel⟩,
   ⟨{ (upWith [(F.WAYM_READ_SEQ_seq 0, 7)]) with recorder := { State.reset.recorder with flash := [(5, ({ code := 0x0101, kind := 1, inst := 0, sev := 1, flags := 0, supp := 0, seq := 7, opSec := 1, cycles := 2, p1 := 1, p2 := 2, p3 := 3 } : Waymark))] } },
       0, (5,
       ({ code := 0x0101, kind := 1, inst := 0, sev := 1, flags := 0, supp := 0, seq := 7, opSec := 1, cycles := 2, p1 := 1, p2 := 2, p3 := 3 } : Waymark)),
       by decide +kernel⟩,
   ⟨{ (upWith [(F.WAYM_READ_SEQ_seq 0, 7)]) with recorder := { State.reset.recorder with flash := [(5, ({ code := 0x0101, kind := 1, inst := 0, sev := 1, flags := 0, supp := 0, seq := 7, opSec := 1, cycles := 2, p1 := 1, p2 := 2, p3 := 3 } : Waymark))], torn := [5] } },
       0, (5,
       ({ code := 0x0101, kind := 1, inst := 0, sev := 1, flags := 0, supp := 0, seq := 7, opSec := 1, cycles := 2, p1 := 1, p2 := 2, p3 := 3 } : Waymark)),
       by decide +kernel⟩,
   ⟨upWith [(F.WAYM_READ_SEQ_seq 0, 7), (F.WAYM_HEAD_SEQ_seq, 7)], 0, by decide +kernel⟩,
   ⟨upWith [(F.WAYM_READ_SEQ_seq 0, 6), (F.WAYM_HEAD_SEQ_seq, 7)], 0, by decide +kernel⟩⟩

theorem witness_RegistersAndCounters :
    (∃ (s : State) (i : Port), s.powered = true ∧ s.privileged i = false) ∧
    (∃ (s : State) (i : Port) (c : CoreId) (v : BitVec 16), s.powered = true ∧ s.privileged i = true ∧ s.coreRole c ≠ coreABSENT ∧
        v.toNat % 256 ≤ 0x17) ∧
    (∃ (s : State) (i : Port) (c : CoreId) (v : BitVec 16), s.powered = true ∧ s.privileged i = true ∧ s.coreRole c ≠ coreABSENT ∧
        0x17 < v.toNat % 256) ∧
    (∃ (s : State) (i : Port) (c : CoreId), s.powered = true ∧ s.privileged i = true ∧ s.coreRole c = coreABSENT) ∧
    (∃ (s : State) (i : Port) (a : Nat) (b : Nat), s.powered = true ∧ a = min (tget 0 s.perf.bwIn i.val / 64) (2 ^ 32 - 1) ∧
        b = min (tget 0 s.perf.bwOut i.val / 64) (2 ^ 32 - 1)) ∧
    (∃ (s : State) (i : Port) (o : BitVec 24), s.powered = true ∧ (s.privileged i = false ∨ o.toNat % 4 ≠ 0)) ∧
    (∃ (s : State) (i : Port) (o : BitVec 24), s.powered = true ∧ s.privileged i = true ∧ o.toNat % 4 = 0 ∧
        (s.on F.CAP_APERTURE_enable = false ∨ s.apertureAt o.toNat = none)) ∧
    (∃ (s : State) (i : Port) (o : BitVec 24) (f : Option BadLine) (a : Nat), s.powered = true ∧ s.privileged i = true ∧ o.toNat % 4 = 0 ∧
        s.on F.CAP_APERTURE_enable = true ∧ s.apertureAt o.toNat = some a ∧ s.errorAt a f = none) ∧
    (∃ (s : State) (i : Port) (o : BitVec 24) (f : Option BadLine) (a : Nat) (b : BadLine) (bs : List Byte), s.powered = true ∧
        s.privileged i = true ∧ o.toNat % 4 = 0 ∧ s.on F.CAP_APERTURE_enable = true ∧ s.apertureAt o.toNat = some a ∧
        s.errorAt a f = some b ∧ sound (64 * (a / 64)) b = false ∧ corrected (64 * (a / 64)) b = some bs) ∧
    (∃ (s : State) (i : Port) (o : BitVec 24) (f : Option BadLine) (a : Nat) (b : BadLine), s.powered = true ∧ s.privileged i = true ∧
        o.toNat % 4 = 0 ∧ s.on F.CAP_APERTURE_enable = true ∧ s.apertureAt o.toNat = some a ∧ s.errorAt a f = some b ∧
        sound (64 * (a / 64)) b = false ∧ corrected (64 * (a / 64)) b = none) ∧
    (∃ (s : State) (i : Port) (o : BitVec 26) (h : Hit) (g : Hit), s.powered = true ∧ findReg o.toNat = some h ∧
        tfind s.hiLatch (portBank i + h.off) = none ∧ h.row.name ∈ lowWords ∧ findReg (h.off + 4) = some g) ∧
    (∃ (s : State) (i : Port) (o : BitVec 26) (h : Hit) (w : Word), s.powered = true ∧ findReg o.toNat = some h ∧
        tfind s.hiLatch (portBank i + h.off) = some w) ∧
    (∃ (s : State) (i : Port) (o : BitVec 26) (h : Hit), s.powered = true ∧ findReg o.toNat = some h ∧
        tfind s.hiLatch (portBank i + h.off) = none ∧ s.absent h = false ∧ h.row.name ∉ lowWords ∧ h.row.name ≠ "TIME_NOW_NS") ∧
    (∃ (s : State) (o : BitVec 26), s.powered = true ∧ findReg o.toNat = none) ∧
    (∃ (s : State) (b2 : Bool) (o : BitVec 26) (n : BitVec 8), s.powered = true ∧
        (mapped b2 o.toNat = false ∨ n.toNat ≠ 4 ∨ o.toNat % 4 ≠ 0)) ∧
    (∃ (s : State) (i : Port) (v : Word), s.powered = true ∧ s.privileged i = true ∧ 1 ≤ v.toNat % 2 ^ 7 ∧ v.toNat % 2 ^ 7 ≤ 100) ∧
    (∃ (s : State) (i : Port) (v : Word), s.powered = true ∧ s.privileged i = true ∧ (v.toNat % 2 ^ 7 = 0 ∨ 100 < v.toNat % 2 ^ 7)) ∧
    (∃ (s : State) (i : Port) (v : Word), s.powered = true ∧ s.privileged i = true ∧ 100 ≤ v.toNat % 2 ^ 30 ∧
        v.toNat % 2 ^ 30 ≤ 1000000000) ∧
    (∃ (s : State) (i : Port) (v : Word), s.powered = true ∧ s.privileged i = true ∧
        (v.toNat % 2 ^ 30 < 100 ∨ 1000000000 < v.toNat % 2 ^ 30)) ∧
    (∃ (s : State) (i : Port) (p : Part), s.powered = true ∧ s.mayWritePart i p = true) ∧
    (∃ (s : State) (i : Port) (p : Part), s.powered = true ∧ s.mayWritePart i p = false) :=
  ⟨⟨upWith [], 1, by decide +kernel⟩,
   ⟨upWith [(F.CORE_ID_role 0, coreACTIVE)], 0, 0, 0x0517, by decide +kernel⟩,
   ⟨upWith [(F.CORE_ID_role 0, coreACTIVE)], 0, 0, 0x0518, by decide +kernel⟩,
   ⟨upWith [(F.CORE_ID_role 31, coreABSENT), (F.CORE_ID_role 31, coreABSENT)], 0, 31, by decide +kernel⟩,
   ⟨{ (upWith []) with perf := { State.reset.perf with bwIn := [(0, 2 ^ 39)], bwOut := [(0, 255)] } }, 0, 2 ^ 32 - 1, 3, by decide +kernel⟩,
   ⟨upWith [], 2, 4, by decide +kernel⟩,
   ⟨upWith [(F.CAP_APERTURE_enable, 0)], 0, 8, by decide +kernel⟩,
   ⟨(upWith [(F.CAP_APERTURE_enable, 1), (F.CAP_APERTURE_kind, 1), (F.CAP_APERTURE_unit, 1), (F.CAP_APERTURE_segment,
       1)]).storeAll [(stripeBase 1 + 0x1000000 + 8, [1, 2, 3, 4])], 0, 8, none, stripeBase 1 + 0x1000000 + 8, by decide +kernel⟩,
   ⟨upWith [(F.CAP_APERTURE_enable, 1), (F.CAP_APERTURE_kind, 1), (F.CAP_APERTURE_unit, 1), (F.CAP_APERTURE_segment, 1)], 0, 8,
       some ({ raw := 1 :: List.replicate 63 0, checks := List.replicate 64 0, crc := crc32c (foldBytes (64 * ((stripeBase 1 + 0x1000000 + 8) / 64)) ++ List.replicate 64 0) } : BadLine),
       stripeBase 1 + 0x1000000 + 8,
       ({ raw := 1 :: List.replicate 63 0, checks := List.replicate 64 0, crc := crc32c (foldBytes (64 * ((stripeBase 1 + 0x1000000 + 8) / 64)) ++ List.replicate 64 0) } : BadLine),
       List.replicate 64 0, by decide +kernel, by decide +kernel, by decide +kernel, by decide +kernel, by decide +kernel,
       by decide +kernel, (badBit _).1, (badBit _).2⟩,
   ⟨upWith [(F.CAP_APERTURE_enable, 1), (F.CAP_APERTURE_kind, 1), (F.CAP_APERTURE_unit, 1), (F.CAP_APERTURE_segment, 1)], 0, 8,
       some ({ raw := 0 :: List.replicate 63 0, checks := List.replicate 64 0, crc := 1 + crc32c (foldBytes (64 * ((stripeBase 1 + 0x1000000 + 8) / 64)) ++ List.replicate 64 0) } : BadLine),
       stripeBase 1 + 0x1000000 + 8,
       ({ raw := 0 :: List.replicate 63 0, checks := List.replicate 64 0, crc := 1 + crc32c (foldBytes (64 * ((stripeBase 1 + 0x1000000 + 8) / 64)) ++ List.replicate 64 0) } : BadLine),
       by decide +kernel⟩,
   ⟨upWith [], 0, 0x100008,
       ((findReg 0x100008).getD { row := { name := "", base := 0, dims := [], perPort := false, fields := [] }, idx := [], inBlock := 0, kind := 0, off := 0 }),
       ((findReg 0x10000C).getD { row := { name := "", base := 0, dims := [], perPort := false, fields := [] }, idx := [], inBlock := 0, kind := 0, off := 0 }),
       by decide +kernel, eq_getD (by decide +kernel), by decide +kernel, by decide +kernel, eq_getD (by decide +kernel)⟩,
   ⟨{ (upWith []) with hiLatch := [(portBank (0 : Port) + 0x15110C, 5)] }, 0, 0x15110C,
       ((findReg 0x15110C).getD { row := { name := "", base := 0, dims := [], perPort := false, fields := [] }, idx := [], inBlock := 0, kind := 0, off := 0 }),
       5, by decide +kernel, eq_getD (by decide +kernel), by decide +kernel⟩,
   ⟨upWith [], 0, 0x81F10,
       ((findReg 0x81F10).getD { row := { name := "", base := 0, dims := [], perPort := false, fields := [] }, idx := [], inBlock := 0, kind := 0, off := 0 }),
       by decide +kernel, eq_getD (by decide +kernel), by decide +kernel, by decide +kernel, by decide +kernel, by decide +kernel⟩,
   ⟨upWith [], 0x3FFFFFC, by decide +kernel⟩,
   ⟨upWith [], false, 0x2, 4, by decide +kernel⟩,
   ⟨upWith [], 0, 100, by decide +kernel⟩,
   ⟨upWith [], 0, 101, by decide +kernel⟩,
   ⟨upWith [], 0, 100, by decide +kernel⟩,
   ⟨upWith [], 0, 99, by decide +kernel⟩,
   ⟨upWith [], 1, 1, by decide +kernel⟩,
   ⟨upWith [], 2, 1, by decide +kernel⟩⟩

theorem witness_UnpoweredModuleIgnoresCommands :
    (∃ (c : Instr) (s : State), (s.power = .off ∨ s.power = .offOverVoltage) ∧ (∀ r, c ≠ .powerUp r) ∧ (∀ r, c ≠ .overvoltageRestart
        r) ∧ (∀ v, c ≠ .fieldSupplyLow v) ∧ (∀ v l, c ≠ .fieldSupplyReturn v l) ∧ (∀ g b v, c ≠ .groupSupplyLow g b v)) ∧
    (∃ (s : State), s.power = .off) ∧
    (∃ (c : Instr) (s : State), s.power = .bootRom ∧ (∀ v, c ≠ .brownOut v) ∧ (∀ v, c ≠ .overVoltage v) ∧ (∀ ok d, c ≠
        .consoleFirmwareLoad ok d) ∧ (∀ v, c ≠ .fieldSupplyLow v) ∧ (∀ v l, c ≠ .fieldSupplyReturn v l) ∧ (∀ g b v, c ≠ .groupSupplyLow
        g b v)) ∧
    (∃ (s : State), s.powered = false ∧ s.hasField = true) ∧
    (∃ (s : State), s.powered = false ∧ s.hasField = false) :=
  ⟨⟨.derateGrow, { (upWith []) with power := .off }, by decide +kernel, (fun _ h => nomatch h), (fun _ h => nomatch h), (fun _ h =>
       nomatch h), (fun _ _ h => nomatch h), (fun _ _ _ h => nomatch h)⟩,
   ⟨{ (upWith []) with power := .off }, by decide +kernel⟩,
   ⟨.derateGrow, { (upWith []) with power := .bootRom }, by decide +kernel, (fun _ h => nomatch h), (fun _ h => nomatch h), (fun _ _
       h => nomatch h), (fun _ h => nomatch h), (fun _ _ h => nomatch h), (fun _ _ _ h => nomatch h)⟩,
   ⟨{ (upWith []) with power := .off }, by decide +kernel⟩,
   ⟨{ (upWith []) with power := .off, variant := .v9640 }, by decide +kernel⟩⟩

theorem witness_SafeStateKeepsOutputsOff :
    (∃ s : State, s.safeMeansOff ∧ ∃ t, step s = .next t) ∧
    (∃ s : State, s.safeOutputsHold ∧ ∃ t, step s = .next t) :=
  ⟨⟨{ (upWith [(F.SAFE_STATUS_state, safeSAFE)]) with pending := [.derateGrow] },
      by unfold State.safeMeansOff State.outputsOff; decide +kernel, derateGrow_next _ rfl⟩,
   ⟨{ (upWith [(F.SAFE_STATUS_state, safeRUN), (F.SAFE_IO_outputs, 15)]) with pending := [.derateGrow] },
       safeOutputsHold_of (by decide +kernel), derateGrow_next _ rfl⟩⟩

theorem witness_MemoryAndRegistersStayCanonical :
    (∃ s : State, s.canonical ∧ ∃ t, step s = .next t) :=
  ⟨{ (upWith []) with pending := [.derateGrow] }, by unfold State.canonical; decide +kernel, derateGrow_next _ rfl⟩

theorem witness_RatchetsNeverGainAStep :
    (∃ s : State, ∃ t, step s = .next t) ∧
    (∃ (c : Instr) (s : State), ∃ t, exec c s = .next t) :=
  ⟨⟨{ (upWith []) with pending := [.derateGrow] }, derateGrow_next _ rfl⟩,
   ⟨.derateGrow, upWith [], (fun s => ⟨_, rfl⟩ : ∀ s : State, ∃ t, exec .derateGrow s = .next t) _⟩⟩

theorem witness_PortLatches :
    (∃ (s : State) (i : Port) (o : BitVec 26) (h : Hit) (g : Hit), s.powered = true ∧ findReg o.toNat = some h ∧
        tfind s.hiLatch (portBank i + h.off) = none ∧ h.row.name ∈ lowWords ∧ findReg (h.off + 4) = some g) ∧
    (∃ (s : State) (i : Port) (o : BitVec 26) (h : Hit) (w : Word), s.powered = true ∧ findReg o.toNat = some h ∧
        tfind s.hiLatch (portBank i + h.off) = some w) :=
  ⟨⟨upWith [], 0, 0x100008,
      ((findReg 0x100008).getD { row := { name := "", base := 0, dims := [], perPort := false, fields := [] }, idx := [], inBlock := 0, kind := 0, off := 0 }),
      ((findReg 0x10000C).getD { row := { name := "", base := 0, dims := [], perPort := false, fields := [] }, idx := [], inBlock := 0, kind := 0, off := 0 }),
      by decide +kernel, eq_getD (by decide +kernel), by decide +kernel, by decide +kernel, eq_getD (by decide +kernel)⟩,
   ⟨{ (upWith []) with hiLatch := [(portBank (0 : Port) + 0x15110C, 5)] }, 0, 0x15110C,
       ((findReg 0x15110C).getD { row := { name := "", base := 0, dims := [], perPort := false, fields := [] }, idx := [], inBlock := 0, kind := 0, off := 0 }),
       5, by decide +kernel, eq_getD (by decide +kernel), by decide +kernel⟩⟩

theorem witness_LockAndUpkeepStep :
    (∃ (s : State) (i : Port) (img : ImageFile) (st : StructureSec) (y : SafetySec), s.powered = true ∧ s.zld.image = some img ∧
        s.holdsSession i = true ∧ s.zldState = zldVERIFIED ∧ img.header.kind = kindFULL ∧ (∀ a ∈ s.zld.armed, a.partial_ = false) ∧
        img.structureSec = some st ∧ img.safety = some y ∧ (s.keep.lock = false ∨ y.digest = s.cfg.safety.digest) ∧
        st.upkeep ≠ s.get F.ZLD_ACTIVE_upkeep_mode ∧ s.keep.upkeepLeft ≠ 0) ∧
    (∃ (s : State) (i : Port) (img : ImageFile) (st : StructureSec) (y : SafetySec), s.powered = true ∧ s.zld.image = some img ∧
        s.holdsSession i = true ∧ s.zldState = zldVERIFIED ∧ img.header.kind = kindFULL ∧ (∀ a ∈ s.zld.armed, a.partial_ = false) ∧
        img.structureSec = some st ∧ img.safety = some y ∧ (s.keep.lock = false ∨ y.digest = s.cfg.safety.digest) ∧
        st.upkeep = s.get F.ZLD_ACTIVE_upkeep_mode) ∧
    (∃ (s : State) (i : Port) (img : ImageFile) (st : StructureSec) (y : SafetySec), s.powered = true ∧ s.zld.image = some img ∧
        s.holdsSession i = true ∧ s.zldState = zldVERIFIED ∧ img.header.kind = kindFULL ∧ (∀ a ∈ s.zld.armed, a.partial_ = false) ∧
        img.structureSec = some st ∧ img.safety = some y ∧ (s.keep.lock = false ∨ y.digest = s.cfg.safety.digest) ∧
        st.upkeep ≠ s.get F.ZLD_ACTIVE_upkeep_mode ∧ s.keep.upkeepLeft = 0) ∧
    (∃ (s : State) (i : Port) (img : ImageFile) (st : StructureSec) (y : SafetySec), s.powered = true ∧ s.zld.image = some img ∧
        s.holdsSession i = true ∧ s.zldState = zldVERIFIED ∧ img.header.kind = kindFULL ∧ img.structureSec = some st ∧
        img.safety = some y ∧ s.keep.lock = true ∧ y.digest ≠ s.cfg.safety.digest) ∧
    (∃ (s : State) (img : ImageFile) (st : StructureSec) (y : SafetySec) (i : Port), s.powered = true ∧ s.zld.image = some img ∧
        s.zldState = zldFETCHING ∧ i = Fin.ofNat 4 (s.get F.ZLD_STATUS_session_port) ∧ img.header.kind = kindFULL ∧
        img.structureSec = some st ∧ img.safety = some y ∧ s.keep.lock = true ∧ y.digest ≠ s.cfg.safety.digest) :=
  ⟨⟨{ (upWith [(F.ZLD_STATUS_state, zldVERIFIED), (F.ZLD_STATUS_session_port, 0), (F.ZLD_ACTIVE_upkeep_mode, 0)]) with zld := { State.reset.zld with image := some ({ fullImage with structureSec := some ({ factoryStructure with upkeep := 1 }), safety := some factorySafety }) }, keep := { State.reset.keep with lock := true, upkeepLeft := 3 } },
      0, ({ fullImage with structureSec := some ({ factoryStructure with upkeep := 1 }), safety := some factorySafety } : ImageFile),
      ({ factoryStructure with upkeep := 1 } : StructureSec), factorySafety, by decide +kernel⟩,
   ⟨{ (upWith [(F.ZLD_STATUS_state, zldVERIFIED), (F.ZLD_STATUS_session_port, 0), (F.ZLD_ACTIVE_upkeep_mode, 0)]) with zld := { State.reset.zld with image := some ({ fullImage with structureSec := some factoryStructure, safety := some factorySafety }) }, keep := { State.reset.keep with lock := false, upkeepLeft := 0 } },
       0, ({ fullImage with structureSec := some factoryStructure, safety := some factorySafety } : ImageFile), factoryStructure,
       factorySafety, by decide +kernel⟩,
   ⟨{ (upWith [(F.ZLD_STATUS_state, zldVERIFIED), (F.ZLD_STATUS_session_port, 0), (F.ZLD_ACTIVE_upkeep_mode, 0)]) with zld := { State.reset.zld with image := some ({ fullImage with structureSec := some ({ factoryStructure with upkeep := 1 }), safety := some factorySafety }) }, keep := { State.reset.keep with lock := false, upkeepLeft := 0 } },
       0, ({ fullImage with structureSec := some ({ factoryStructure with upkeep := 1 }), safety := some factorySafety } : ImageFile),
       ({ factoryStructure with upkeep := 1 } : StructureSec), factorySafety, by decide +kernel⟩,
   ⟨{ (upWith [(F.ZLD_STATUS_state, zldVERIFIED), (F.ZLD_STATUS_session_port, 0), (F.ZLD_ACTIVE_upkeep_mode, 0)]) with zld := { State.reset.zld with image := some ({ fullImage with structureSec := some factoryStructure, safety := some ({ factorySafety with digest := 77 }) }) }, keep := { State.reset.keep with lock := true, upkeepLeft := 3 } },
       0, ({ fullImage with structureSec := some factoryStructure, safety := some ({ factorySafety with digest := 77 }) } : ImageFile),
       factoryStructure, ({ factorySafety with digest := 77 } : SafetySec), by decide +kernel⟩,
   ⟨{ (upWith [(F.ZLD_STATUS_state, zldFETCHING), (F.ZLD_STATUS_session_port, 0), (F.ZLD_ACTIVE_upkeep_mode, 0)]) with zld := { State.reset.zld with image := some ({ fullImage with structureSec := some factoryStructure, safety := some ({ factorySafety with digest := 77 }) }) }, keep := { State.reset.keep with lock := true, upkeepLeft := 3 } },
       ({ fullImage with structureSec := some factoryStructure, safety := some ({ factorySafety with digest := 77 }) } : ImageFile),
       factoryStructure, ({ factorySafety with digest := 77 } : SafetySec), 0, by decide +kernel⟩⟩

theorem witness_VectorEight :
    (∃ (s : State) (w : Waymark) (rest : List Waymark), s.powered = true ∧ s.recorder.buffer = w :: rest ∧ s.headFree = true ∧
        s.on F.WAYM_STATUS_frozen = false) ∧
    (∃ (s : State) (u : State) (w : Waymark), s.buffer w = some u) ∧
    (∃ (s : State), s.powered = true ∧ s.on F.WAYM_STATUS_frozen = true ∧ s.recorder.buffer.length = 512 ∧ s.recorder.buckets = [] ∧
        s.on F.WAYM_STATUS_budget_empty = false) :=
  ⟨⟨{ (upWith [(F.WAYM_STATUS_frozen, 0), (F.WAYM_STATUS_scan_done, 1), (F.WAYM_STATUS_buffered, 1)]) with recorder := { State.reset.recorder with buffer := [({ code := 0x0101, kind := 1, inst := 0, sev := 1, flags := 0, supp := 0, seq := 7, opSec := 1, cycles := 2, p1 := 1, p2 := 2, p3 := 3 } : Waymark)] } },
      ({ code := 0x0101, kind := 1, inst := 0, sev := 1, flags := 0, supp := 0, seq := 7, opSec := 1, cycles := 2, p1 := 1, p2 := 2, p3 := 3 } : Waymark),
      [], by decide +kernel⟩,
   ⟨upWith [],
       ((upWith []).buffer ({ code := 0x0101, kind := 1, inst := 0, sev := 1, flags := 0, supp := 0, seq := 7, opSec := 1, cycles := 2, p1 := 1, p2 := 2, p3 := 3 } : Waymark)).getD upReset,
       ({ code := 0x0101, kind := 1, inst := 0, sev := 1, flags := 0, supp := 0, seq := 7, opSec := 1, cycles := 2, p1 := 1, p2 := 2, p3 := 3 } : Waymark),
       eq_getD (by decide +kernel)⟩,
   ⟨{ (upWith [(F.WAYM_STATUS_frozen, 1), (F.WAYM_STATUS_budget_empty, 0), (F.WAYM_IRQ_enable 2, 1)]) with recorder := { State.reset.recorder with buffer := List.replicate 512 ({ code := 0x0101, kind := 1, inst := 0, sev := 1, flags := 0, supp := 0, seq := 7, opSec := 1, cycles := 2, p1 := 1, p2 := 2, p3 := 3 } : Waymark) } },
       by decide +kernel⟩⟩

theorem witness_ScalarWordsLeaveTheRest :
    (∃ (s : State) (x : Issue), s.ScalarReady x 0x01 ∧ ∃ t, exec (.add x) s = .next t) ∧
    (∃ (s : State) (x : Issue), s.ScalarReady x 0x02 ∧ ∃ t, exec (.sub x) s = .next t) ∧
    (∃ (s : State) (x : Issue), s.ScalarReady x 0x03 ∧ ∃ t, exec (.mul x) s = .next t) ∧
    (∃ (s : State) (x : Issue), s.ScalarReady x 0x04 ∧ ∃ t, exec (.and x) s = .next t) ∧
    (∃ (s : State) (x : Issue), s.ScalarReady x 0x05 ∧ ∃ t, exec (.or x) s = .next t) ∧
    (∃ (s : State) (x : Issue), s.ScalarReady x 0x06 ∧ ∃ t, exec (.xor x) s = .next t) ∧
    (∃ (s : State) (x : Issue), s.ScalarReady x 0x07 ∧ ∃ t, exec (.shl x) s = .next t) ∧
    (∃ (s : State) (x : Issue), s.ScalarReady x 0x08 ∧ ∃ t, exec (.shr x) s = .next t) ∧
    (∃ (s : State) (x : Issue), s.ScalarReady x 0x09 ∧ ∃ t, exec (.sar x) s = .next t) ∧
    (∃ (s : State) (x : Issue), s.ScalarReady x 0x0a ∧ ∃ t, exec (.slt x) s = .next t) ∧
    (∃ (s : State) (x : Issue), s.ScalarReady x 0x0b ∧ ∃ t, exec (.ldi x) s = .next t) ∧
    (∃ (s : State) (x : Issue), s.ScalarReady x 0x0c ∧ ∃ t, exec (.div x) s = .next t) ∧
    (∃ (s : State) (x : Issue), s.ScalarReady x 0x0d ∧ ∃ t, exec (.rem x) s = .next t) ∧
    (∃ (s : State) (x : Issue), s.ScalarReady x 0x10 ∧ ∃ t, exec (.fadd x) s = .next t) ∧
    (∃ (s : State) (x : Issue), s.ScalarReady x 0x11 ∧ ∃ t, exec (.fsub x) s = .next t) ∧
    (∃ (s : State) (x : Issue), s.ScalarReady x 0x12 ∧ ∃ t, exec (.fmul x) s = .next t) ∧
    (∃ (s : State) (x : Issue), s.ScalarReady x 0x13 ∧ ∃ t, exec (.ffma x) s = .next t) ∧
    (∃ (s : State) (x : Issue), s.ScalarReady x 0x14 ∧ ∃ t, exec (.fdiv x) s = .next t) ∧
    (∃ (s : State) (x : Issue), s.ScalarReady x 0x15 ∧ ∃ t, exec (.fsqrt x) s = .next t) ∧
    (∃ (s : State) (x : Issue), s.ScalarReady x 0x16 ∧ wFmtA x.word = fmtFP32 ∧ wFmtD x.word = fmtI32 ∧ ∃ t, exec (.fcvt x) s = .next t) :=
  ⟨⟨upWith [(F.CORE_ID_role 0, coreACTIVE)], (wordAt 5 1 []), scalarReady_of (by decide +kernel),
      (fun s x => ⟨_, rfl⟩ : ∀ (s : State) (x : Issue), ∃ t, exec (.add x) s = .next t) _ _⟩,
   ⟨upWith [(F.CORE_ID_role 0, coreACTIVE)], (wordAt 5 2 []), scalarReady_of (by decide +kernel),
       (fun s x => ⟨_, rfl⟩ : ∀ (s : State) (x : Issue), ∃ t, exec (.sub x) s = .next t) _ _⟩,
   ⟨upWith [(F.CORE_ID_role 0, coreACTIVE)], (wordAt 5 3 []), scalarReady_of (by decide +kernel),
       (fun s x => ⟨_, rfl⟩ : ∀ (s : State) (x : Issue), ∃ t, exec (.mul x) s = .next t) _ _⟩,
   ⟨upWith [(F.CORE_ID_role 0, coreACTIVE)], (wordAt 5 4 []), scalarReady_of (by decide +kernel),
       (fun s x => ⟨_, rfl⟩ : ∀ (s : State) (x : Issue), ∃ t, exec (.and x) s = .next t) _ _⟩,
   ⟨upWith [(F.CORE_ID_role 0, coreACTIVE)], (wordAt 5 5 []), scalarReady_of (by decide +kernel),
       (fun s x => ⟨_, rfl⟩ : ∀ (s : State) (x : Issue), ∃ t, exec (.or x) s = .next t) _ _⟩,
   ⟨upWith [(F.CORE_ID_role 0, coreACTIVE)], (wordAt 5 6 []), scalarReady_of (by decide +kernel),
       (fun s x => ⟨_, rfl⟩ : ∀ (s : State) (x : Issue), ∃ t, exec (.xor x) s = .next t) _ _⟩,
   ⟨upWith [(F.CORE_ID_role 0, coreACTIVE)], (wordAt 5 7 []), scalarReady_of (by decide +kernel),
       (fun s x => ⟨_, rfl⟩ : ∀ (s : State) (x : Issue), ∃ t, exec (.shl x) s = .next t) _ _⟩,
   ⟨upWith [(F.CORE_ID_role 0, coreACTIVE)], (wordAt 5 8 []), scalarReady_of (by decide +kernel),
       (fun s x => ⟨_, rfl⟩ : ∀ (s : State) (x : Issue), ∃ t, exec (.shr x) s = .next t) _ _⟩,
   ⟨upWith [(F.CORE_ID_role 0, coreACTIVE)], (wordAt 5 9 []), scalarReady_of (by decide +kernel),
       (fun s x => ⟨_, rfl⟩ : ∀ (s : State) (x : Issue), ∃ t, exec (.sar x) s = .next t) _ _⟩,
   ⟨upWith [(F.CORE_ID_role 0, coreACTIVE)], (wordAt 5 10 []), scalarReady_of (by decide +kernel),
       (fun s x => ⟨_, rfl⟩ : ∀ (s : State) (x : Issue), ∃ t, exec (.slt x) s = .next t) _ _⟩,
   ⟨upWith [(F.CORE_ID_role 0, coreACTIVE)], (wordAt 5 11 []), scalarReady_of (by decide +kernel),
       (fun s x => ⟨_, rfl⟩ : ∀ (s : State) (x : Issue), ∃ t, exec (.ldi x) s = .next t) _ _⟩,
   ⟨upWith [(F.CORE_ID_role 0, coreACTIVE)], (wordAt 5 12 []), scalarReady_of (by decide +kernel),
       (fun s x => ⟨_, rfl⟩ : ∀ (s : State) (x : Issue), ∃ t, exec (.div x) s = .next t) _ _⟩,
   ⟨upWith [(F.CORE_ID_role 0, coreACTIVE)], (wordAt 5 13 []), scalarReady_of (by decide +kernel),
       (fun s x => ⟨_, rfl⟩ : ∀ (s : State) (x : Issue), ∃ t, exec (.rem x) s = .next t) _ _⟩,
   ⟨upWith [(F.CORE_ID_role 0, coreACTIVE)], (wordAt 5 16 []), scalarReady_of (by decide +kernel),
       (fun s x => ⟨_, rfl⟩ : ∀ (s : State) (x : Issue), ∃ t, exec (.fadd x) s = .next t) _ _⟩,
   ⟨upWith [(F.CORE_ID_role 0, coreACTIVE)], (wordAt 5 17 []), scalarReady_of (by decide +kernel),
       (fun s x => ⟨_, rfl⟩ : ∀ (s : State) (x : Issue), ∃ t, exec (.fsub x) s = .next t) _ _⟩,
   ⟨upWith [(F.CORE_ID_role 0, coreACTIVE)], (wordAt 5 18 []), scalarReady_of (by decide +kernel),
       (fun s x => ⟨_, rfl⟩ : ∀ (s : State) (x : Issue), ∃ t, exec (.fmul x) s = .next t) _ _⟩,
   ⟨upWith [(F.CORE_ID_role 0, coreACTIVE)], (wordAt 5 19 []), scalarReady_of (by decide +kernel),
       (fun s x => ⟨_, rfl⟩ : ∀ (s : State) (x : Issue), ∃ t, exec (.ffma x) s = .next t) _ _⟩,
   ⟨upWith [(F.CORE_ID_role 0, coreACTIVE)], (wordAt 5 20 []), scalarReady_of (by decide +kernel),
       (fun s x => ⟨_, rfl⟩ : ∀ (s : State) (x : Issue), ∃ t, exec (.fdiv x) s = .next t) _ _⟩,
   ⟨upWith [(F.CORE_ID_role 0, coreACTIVE)], (wordAt 5 21 []), scalarReady_of (by decide +kernel),
       (fun s x => ⟨_, rfl⟩ : ∀ (s : State) (x : Issue), ∃ t, exec (.fsqrt x) s = .next t) _ _⟩,
   ⟨upWith [(F.CORE_ID_role 0, coreACTIVE)], (wordAt 5 22 [(108, fmtFP32), (100, fmtI32)]),
       scalarReady_of (by decide +kernel), by decide +kernel, by decide +kernel, (fun s x => ⟨_, rfl⟩ : ∀ (s : State) (x : Issue), ∃ t,
       exec (.fcvt x) s = .next t) _ _⟩⟩

theorem witness_FramesOfHardwareAndImage :
    (∃ (s : State) (r : BootReport), ∃ t, exec (.powerUp r) s = .next t) ∧
    (∃ (s : State) (r : BootReport), ∃ t, exec (.overvoltageRestart r) s = .next t) ∧
    (∃ (s : State) (i : Port) (r : BootReport), ∃ t, exec (.restart i r) s = .next t) ∧
    (∃ (s : State) (v : BitVec 16), ∃ t, exec (.brownOut v) s = .next t) ∧
    (∃ (s : State) (v : BitVec 16), ∃ t, exec (.overVoltage v) s = .next t) ∧
    (∃ (s : State) (us : Fin 1000), ∃ t, exec (.supplyDip us) s = .next t) :=
  ⟨⟨State.reset, report0, (fun s r => ⟨_, rfl⟩ : ∀ (s : State) (r : BootReport), ∃ t, exec (.powerUp r) s = .next t) _ _⟩,
   ⟨State.reset, report0, (fun s r => ⟨_, rfl⟩ : ∀ (s : State) (r : BootReport), ∃ t, exec (.overvoltageRestart r) s = .next t) _ _⟩,
   ⟨upWith [], 0, report0, (fun s i r => ⟨_, rfl⟩ : ∀ (s : State) (i : Port) (r : BootReport), ∃ t, exec (.restart i r) s = .next t) _ _ _⟩,
   ⟨upWith [], 4, brownOut_next _ _⟩,
   ⟨upWith [], 4, overVoltage_next _ _⟩,
   ⟨upWith [], 999, (fun s us => ⟨_, rfl⟩ : ∀ (s : State) (us : Fin 1000), ∃ t, exec (.supplyDip us) s = .next t) _ _⟩⟩

theorem witness_FramesOfTimeHostAndSafety :
    (∃ (s : State) (i : Port) (c : Fin 5), ∃ t, exec (.portReset i c) s = .next t) ∧
    (∃ (s : State) (i : Port) (o : BitVec 26) (h : Hit), findReg o.toNat = some h ∧ ∃ t, exec (.lowWordRead i o) s = .next t) ∧
    (∃ (s : State) (i : Port) (o : BitVec 26) (h : Hit), findReg o.toNat = some h ∧ ∃ t, exec (.rcRead i o) s = .next t) ∧
    (∃ (s : State) (i : Port) (o : BitVec 26) (h : Hit) (v : Word), findReg o.toNat = some h ∧ (s.commandWrite i h v).isNone = true) ∧
    (∃ (s : State) (i : Port) (o : BitVec 26) (v : Word), ∃ t, exec (.registerWrite i true o v) s = .next t) :=
  ⟨⟨upWith [], 0, 4, (fun s i c => ⟨_, rfl⟩ : ∀ (s : State) (i : Port) (c : Fin 5), ∃ t, exec (.portReset i c) s = .next t) _ _ _⟩,
   ⟨upWith [], 0, 0x100018,
       ((findReg 0x100018).getD { row := { name := "", base := 0, dims := [], perPort := false, fields := [] }, idx := [], inBlock := 0, kind := 0, off := 0 }),
       eq_getD (by decide +kernel), (fun s i o => ⟨_, rfl⟩ : ∀ (s : State) (i : Port) (o : BitVec 26), ∃ t,
       exec (.lowWordRead i o) s = .next t) _ _ _⟩,
   ⟨upWith [], 0, 0x100018,
       ((findReg 0x100018).getD { row := { name := "", base := 0, dims := [], perPort := false, fields := [] }, idx := [], inBlock := 0, kind := 0, off := 0 }),
       eq_getD (by decide +kernel), (fun s i o => ⟨_, rfl⟩ : ∀ (s : State) (i : Port) (o : BitVec 26), ∃ t,
       exec (.rcRead i o) s = .next t) _ _ _⟩,
   ⟨upWith [], 0, 0x100018,
       ((findReg 0x100018).getD { row := { name := "", base := 0, dims := [], perPort := false, fields := [] }, idx := [], inBlock := 0, kind := 0, off := 0 }),
       100, eq_getD (by decide +kernel), by decide +kernel⟩,
   ⟨upWith [], 1, 0x802000, 5, (fun s i o v => ⟨_, rfl⟩ : ∀ (s : State) (i : Port) (o : BitVec 26) (v : Word), ∃ t, exec (.registerWrite i true o v) s = .next t) _ _ _ _⟩⟩

theorem witness_FramesOfRoutesAndCompute :
    (∃ (s : State) (x : Issue), ∃ t, exec (.nop x) s = .next t) :=
  ⟨upWith [(F.CORE_ID_role 0, coreACTIVE)], (wordAt 0 0 []), (fun s x => ⟨_,
      rfl⟩ : ∀ (s : State) (x : Issue), ∃ t, exec (.nop x) s = .next t) _ _⟩

theorem witness_FramesOfCamerasAndMotion :
    (∃ (s : State) (n : LaneId), ∃ t, exec (.laneUp n) s = .next t) :=
  ⟨upWith [], 0, (fun s n => ⟨_, rfl⟩ : ∀ (s : State) (n : LaneId), ∃ t, exec (.laneUp n) s = .next t) _ _⟩

end Sys2Proof.Tests
end

section
/-! PROOFS. Register reads and writes, the SRAM aperture and the performance counters (R13, R15, R427 to R436, R444): a lemma
for each outcome of a command, and from them the statement O47. -/

namespace Sys2Proof.Machine

variable {s t u : State} {i : Port}

/-! ### The end of a command: the outputs are driven, and all else stays -/

/-- A powered command whose effect is `u` answers `u` with the outputs driven. -/
theorem run_answers_of_effect {f : State → State} {P : State → Prop} (hp : s.powered = true) (he : f s = u)
    (hP : ∀ t, t.Same u.driveOutputs → P t) : ∃ t, s.run f = .next t ∧ P t :=
  State.run_answers hp (he ▸ hP)

theorem State.Same.get_driven {f : Field} (h : t.Same u.driveOutputs)
    (hf : State.driveOutputs_mask.testBit (regKind f.key) = false) : t.get f = u.get f :=
  h.get.trans (get_driveOutputs hf)

theorem State.Same.wrote_driven {code : Nat} {ps : List Nat} (h : t.Same u.driveOutputs) (w : u.wrote code ps) :
    t.wrote code ps := Same_wrote h (driveOutputs_wrote w)

theorem State.Same.mem_driven (h : t.Same u.driveOutputs) : t.mem = u.mem := h.mem.trans driveOutputs_mem

theorem State.Same.perf_driven (h : t.Same u.driveOutputs) : t.perf = u.perf := h.perf.trans driveOutputs_perf

theorem State.Same.integ_driven (h : t.Same u.driveOutputs) : t.integ = u.integ := h.integ.trans driveOutputs_integ

theorem State.Same.hiLatch_driven (h : t.Same u.driveOutputs) : t.hiLatch = u.hiLatch :=
  h.hiLatch.trans driveOutputs_hiLatch

/-- The answer of a port is the one given last. -/
theorem State.Same.reply_driven {r : Reply} (h : t.Same (u.reply i r).driveOutputs) : tget .none t.replies i.val = r := by
  rw [h.replies, driveOutputs_replies]
  exact tget_tset_self _ _ _ _

/-! ### Accesses that no range answers (R433, Table HOST-10) -/

theorem unmapped_wrote {bar off : Nat} {w : Bool} : (s.unmapped i bar off w).wrote Code.HOST_UR [i, bar, off] :=
  wrote_of_recorder (reply_recorder.trans fire_recorder) raise_wrote

/-- An unmapped access is answered, written to the recorder, and leaves the memory. -/
theorem run_unmapped {f : State → State} {bar off : Nat} {w : Bool} (hp : s.powered = true)
    (he : f s = s.unmapped i bar off w) : ∃ t, s.run f = .next t ∧
      tget .none t.replies i.val = (if w then .dropped else .unsupported) ∧ t.mem = s.mem ∧
      t.wrote Code.HOST_UR [i, bar, off] :=
  run_answers_of_effect hp he fun _ ht =>
    ⟨ht.reply_driven, by simp [ht.mem_driven, State.unmapped], ht.wrote_driven unmapped_wrote⟩

theorem exec_unmappedAccess {b2 w : Bool} {o : BitVec 26} {n : BitVec 8} :
    exec (.unmappedAccess i b2 o n w) s = execUnmappedAccess i b2 o n w s := rfl

/-- An access to a reserved range, or one that is not a 32-bit word (R433, R12). -/
theorem unmappedAccess_answers {b2 w : Bool} {o : BitVec 26} {n : BitVec 8} (hp : s.powered = true)
    (h : mapped b2 o.toNat = false ∨ n.toNat ≠ 4 ∨ o.toNat % 4 ≠ 0) :
    ∃ t, exec (.unmappedAccess i b2 o n w) s = .next t ∧
      tget .none t.replies i.val = (if w = true then .dropped else .unsupported) ∧ t.mem = s.mem ∧
      t.wrote Code.HOST_UR [i, if b2 = true then 2 else 0, o.toNat] := by
  have hu : ¬ ((mapped b2 o.toNat && n.toNat = 4 && o.toNat % 4 = 0) = true) := by
    simp only [Bool.and_eq_true, decide_eq_true_eq]
    rintro ⟨⟨hmapped, hbytes⟩, haligned⟩
    rcases h with h | h | h
    · rw [hmapped] at h; cases h
    · exact h hbytes
    · exact h haligned
  rw [exec_unmappedAccess, execUnmappedAccess]
  exact run_unmapped hp (if_neg hu)

/-! ### PERF commands and counter changes (R427 to R431) -/

theorem perfCmd_privileged {off : Nat} {f : State → State} (hr : s.privileged i = true) :
    s.perfCmd i off f = (f s).set (F.PERF_CMD_STATUS_code i) 0 := by simp [State.perfCmd, hr]

theorem perfCmd_refused {off : Nat} {f : State → State} (hr : s.privileged i = false) :
    s.perfCmd i off f = (s.raise Code.PERF_ROLE [i, off]).set (F.PERF_CMD_STATUS_code i) Code.PERF_ROLE := by
  simp [State.perfCmd, hr]

theorem get_perfStatus_driven {f : Field} (h : t.Same u.driveOutputs) (hf : regKind f.key = 343) : t.get f = u.get f :=
  h.get_driven (by rw [hf]; decide)

theorem get_perfCode_driven (h : t.Same u.driveOutputs) :
    t.get (F.PERF_CMD_STATUS_code i) = u.get (F.PERF_CMD_STATUS_code i) :=
  h.get_driven (by rw [F.PERF_CMD_STATUS_code_kind]; decide)

theorem get_set_perfCode {v : Nat} (hv : v < 2 ^ 16) :
    (u.set (F.PERF_CMD_STATUS_code i) v).get (F.PERF_CMD_STATUS_code i) = v :=
  (State.get_set (by simp [F.PERF_CMD_STATUS_code])).trans (Nat.mod_eq_of_lt hv)

/-- A PERF command of a privileged port does its work and answers 0. -/
theorem run_perfCmd_privileged {off v : Nat} {f : State → State} {g : Field} (hp : s.powered = true)
    (hr : s.privileged i = true) (hg : regKind g.key = 343) (hv : (f s).get g = v) :
    ∃ t, s.run (fun s => s.perfCmd i off f) = .next t ∧ t.get g = v ∧ t.get (F.PERF_CMD_STATUS_code i) = 0 :=
  run_answers_of_effect hp (perfCmd_privileged hr) fun _ ht =>
    ⟨by rw [get_perfStatus_driven ht hg, State.get_set_kind (by simp [hg]), hv],
      by rw [get_perfCode_driven ht, get_set_perfCode (by decide)]⟩

/-- A PERF command of any other port is refused, and changes no flag of PERF_STATUS. -/
theorem run_perfCmd_refused {off : Nat} {f : State → State} {g : Field} (hp : s.powered = true)
    (hr : s.privileged i = false) (hg : regKind g.key = 343) :
    ∃ t, s.run (fun s => s.perfCmd i off f) = .next t ∧ t.get g = s.get g ∧ t.perf = s.perf ∧
      t.wrote Code.PERF_ROLE [i, off] ∧ t.get (F.PERF_CMD_STATUS_code i) = Code.PERF_ROLE :=
  run_answers_of_effect hp (perfCmd_refused hr) fun _ ht =>
    ⟨by rw [get_perfStatus_driven ht hg, State.get_set_kind (by simp [hg]), get_raise (by rw [hg]; decide)],
      by simp [ht.perf_driven],
      ht.wrote_driven (wrote_of_recorder set_recorder raise_wrote),
      by rw [get_perfCode_driven ht, get_set_perfCode (by decide)]⟩

section PerfEvent
variable {c : CoreId} {k : Fin 8} {v : BitVec 16}

theorem exec_perfEventWrite : exec (.perfEventWrite i c k v) s = execPerfEventWrite i c k v s := rfl

/-- A counter change waits in the table of events for the boundary (R427). -/
theorem perfEventWrite_accepted (hp : s.powered = true) (hr : s.privileged i = true) (hc : s.coreRole c ≠ coreABSENT)
    (hv : v.toNat % 256 ≤ 0x17) : ∃ t, exec (.perfEventWrite i c k v) s = .next t ∧
      tfind t.perf.events (8 * c.val + k.val) = some v.toNat ∧ t.get F.PERF_STATUS_pending = 1 ∧
      t.get (F.PERF_EVENT_event c k) = s.get (F.PERF_EVENT_event c k) := by
  rw [exec_perfEventWrite, execPerfEventWrite]
  refine run_answers_of_effect hp ((if_neg (by simp [hr])).trans ((if_neg hc).trans (if_neg (Nat.not_lt.mpr hv))))
    fun t ht => ⟨?_, ?_, ?_⟩
  · rw [ht.perf_driven]
    exact tfind_tput_self _ _ _
  · rw [get_perfStatus_driven ht (by simp), State.get_set (by decide)]; rfl
  · rw [ht.get_driven (by rw [F.PERF_EVENT_event_kind]; decide), State.get_set_kind (by simp)]; rfl

theorem perfEventWrite_badEvent (hp : s.powered = true) (hr : s.privileged i = true) (hc : s.coreRole c ≠ coreABSENT)
    (hv : 0x17 < v.toNat % 256) : ∃ t, exec (.perfEventWrite i c k v) s = .next t ∧ t.perf = s.perf ∧
      t.wrote Code.PERF_BAD_COMMAND [i, v.toNat] := by
  rw [exec_perfEventWrite, execPerfEventWrite]
  exact run_answers_of_effect hp ((if_neg (by simp [hr])).trans ((if_neg hc).trans (if_pos hv))) fun _ ht =>
    ⟨ht.perf_driven.trans raise_perf, ht.wrote_driven raise_wrote⟩

theorem perfEventWrite_absent (hp : s.powered = true) (hr : s.privileged i = true) (hc : s.coreRole c = coreABSENT) :
    ∃ t, exec (.perfEventWrite i c k v) s = .next t ∧ t.perf = s.perf := by
  rw [exec_perfEventWrite, execPerfEventWrite]
  exact run_answers_of_effect hp ((if_neg (by simp [hr])).trans (if_pos hc)) fun _ ht => ht.perf_driven

theorem perfEventWrite_refused (hp : s.powered = true) (hr : s.privileged i = false) :
    ∃ t, exec (.perfEventWrite i c k v) s = .next t ∧ t.perf = s.perf ∧
      t.wrote Code.PERF_ROLE [i, 0x1048 + 0x100 * c.val + 4 * k.val] := by
  rw [exec_perfEventWrite, execPerfEventWrite]
  exact run_answers_of_effect hp (if_pos (by simp [hr])) fun _ ht =>
    ⟨ht.perf_driven.trans raise_perf, ht.wrote_driven raise_wrote⟩

end PerfEvent

/-- The four registers that the end of a bandwidth window writes, for `a` units in and `b` units out. -/
def State.bwWindowRegs (s : State) (i : Port) (a b : Nat) : State :=
  let s := (s.set (F.PERF_BW_IN_units i) a).set (F.PERF_BW_OUT_units i) b
  (s.set (F.PERF_BW_PEAK_IN_units i) (max (s.get (F.PERF_BW_PEAK_IN_units i)) a)).set (F.PERF_BW_PEAK_OUT_units i)
    (max (s.get (F.PERF_BW_PEAK_OUT_units i)) b)

section BwWindow
variable {a b : Nat}

theorem exec_bwWindowEnd : exec (.bwWindowEnd i) s = s.run fun s =>
    { s.bwWindowRegs i (min (tget 0 s.perf.bwIn i.val / 64) (2 ^ 32 - 1))
        (min (tget 0 s.perf.bwOut i.val / 64) (2 ^ 32 - 1)) with
      perf := { s.perf with bwIn := tset 0 s.perf.bwIn i.val 0, bwOut := tset 0 s.perf.bwOut i.val 0 } } := rfl

theorem bwWindowRegs_in (ha : a < 2 ^ 32) : (s.bwWindowRegs i a b).get (F.PERF_BW_IN_units i) = a := by
  rw [State.bwWindowRegs, State.get_set_kind (by simp), State.get_set_kind (by simp), State.get_set_kind (by simp),
    State.get_set (by simp [F.PERF_BW_IN_units])]
  exact Nat.mod_eq_of_lt ha

theorem bwWindowRegs_out (hb : b < 2 ^ 32) : (s.bwWindowRegs i a b).get (F.PERF_BW_OUT_units i) = b := by
  rw [State.bwWindowRegs, State.get_set_kind (by simp), State.get_set_kind (by simp),
    State.get_set (by simp [F.PERF_BW_OUT_units])]
  exact Nat.mod_eq_of_lt hb

theorem bwWindowRegs_peakIn (ha : a < 2 ^ 32) : (s.bwWindowRegs i a b).get (F.PERF_BW_PEAK_IN_units i) =
    max (s.get (F.PERF_BW_PEAK_IN_units i)) a := by
  rw [State.bwWindowRegs, State.get_set_kind (by simp), State.get_set (by simp [F.PERF_BW_PEAK_IN_units]),
    State.get_set_kind (by simp), State.get_set_kind (by simp)]
  exact Nat.mod_eq_of_lt (Nat.max_lt.mpr ⟨get_lt, ha⟩)

theorem bwWindowRegs_peakOut (hb : b < 2 ^ 32) : (s.bwWindowRegs i a b).get (F.PERF_BW_PEAK_OUT_units i) =
    max (s.get (F.PERF_BW_PEAK_OUT_units i)) b := by
  rw [State.bwWindowRegs, State.get_set (by simp [F.PERF_BW_PEAK_OUT_units]), State.get_set_kind (by simp),
    State.get_set_kind (by simp)]
  exact Nat.mod_eq_of_lt (Nat.max_lt.mpr ⟨get_lt, hb⟩)

/-- The end of a bandwidth window moves its counts into the registers, keeps the peaks, and starts at 0 again (R430). -/
theorem bwWindowEnd_counts (hp : s.powered = true) (ha : a = min (tget 0 s.perf.bwIn i.val / 64) (2 ^ 32 - 1))
    (hb : b = min (tget 0 s.perf.bwOut i.val / 64) (2 ^ 32 - 1)) : ∃ t, exec (.bwWindowEnd i) s = .next t ∧
      t.get (F.PERF_BW_IN_units i) = a ∧ t.get (F.PERF_BW_OUT_units i) = b ∧
      t.get (F.PERF_BW_PEAK_IN_units i) = max (s.get (F.PERF_BW_PEAK_IN_units i)) a ∧
      t.get (F.PERF_BW_PEAK_OUT_units i) = max (s.get (F.PERF_BW_PEAK_OUT_units i)) b ∧
      tget 0 t.perf.bwIn i.val = 0 ∧ tget 0 t.perf.bwOut i.val = 0 := by
  have ha32 : a < 2 ^ 32 := by omega
  have hb32 : b < 2 ^ 32 := by omega
  rw [exec_bwWindowEnd]
  refine run_answers_of_effect hp (by rw [← ha, ← hb]) fun t ht => ⟨?_, ?_, ?_, ?_, ?_, ?_⟩
  · rw [ht.get_driven (by rw [F.PERF_BW_IN_units_kind]; decide), get_mk, regGet_regs, bwWindowRegs_in ha32]
  · rw [ht.get_driven (by rw [F.PERF_BW_OUT_units_kind]; decide), get_mk, regGet_regs, bwWindowRegs_out hb32]
  · rw [ht.get_driven (by rw [F.PERF_BW_PEAK_IN_units_kind]; decide), get_mk, regGet_regs, bwWindowRegs_peakIn ha32]
  · rw [ht.get_driven (by rw [F.PERF_BW_PEAK_OUT_units_kind]; decide), get_mk, regGet_regs, bwWindowRegs_peakOut hb32]
  · rw [ht.perf_driven]
    exact tget_tset_self 0 s.perf.bwIn i.val 0
  · rw [ht.perf_driven]
    exact tget_tset_self 0 s.perf.bwOut i.val 0

end BwWindow

/-! ### The SRAM aperture (R434) -/

/-- What a read of the aperture in an idle tick does at address `a`, with the error that it meets there. -/
def State.apertureLine (s : State) (i : Port) (a : Nat) (found : Option BadLine) : State :=
  match s.errorAt a found with
  | none => s.reply i (.data (BitVec.ofNat 32 (s.rd a 4)))
  | some b =>
    let s := { s with integ := { s.integ with bad := tput s.integ.bad (a / 64) b } }
    if sound (64 * (a / 64)) b then s.reply i (.data (BitVec.ofNat 32 (recField b.raw (a % 64) 4)))
    else match corrected (64 * (a / 64)) b with
      | some bs => (s.noteCorrected (64 * (a / 64)) b).reply i (.data (BitVec.ofNat 32 (recField bs (a % 64) 4)))
      | none => ((s.noteUncorrected (64 * (a / 64)) b).set F.CAP_APERTURE_bad 1).reply i (.data 0)

section Aperture
variable {o : BitVec 24} {d : Bool} {f : Option BadLine} {a : Nat}

theorem exec_apertureRead : exec (.apertureRead i o d f) s = execApertureRead i o d f s := rfl

theorem apertureRead_unmapped (hp : s.powered = true) (h : s.privileged i = false ∨ o.toNat % 4 ≠ 0) :
    ∃ t, exec (.apertureRead i o d f) s = .next t ∧ tget .none t.replies i.val = .unsupported ∧
      t.wrote Code.HOST_UR [i, 0, 0x1000000 + o.toNat] := by
  rw [exec_apertureRead, execApertureRead]
  have hu : (!s.privileged i || o.toNat % 4 != 0) = true := by simpa using h
  exact run_answers_of_effect hp (if_pos hu) fun _ ht => ⟨ht.reply_driven, ht.wrote_driven unmapped_wrote⟩

theorem apertureRead_unselected (hp : s.powered = true) (hr : s.privileged i = true) (ho : o.toNat % 4 = 0)
    (h : s.on F.CAP_APERTURE_enable = false ∨ s.apertureAt o.toNat = none) :
    ∃ t, exec (.apertureRead i o d f) s = .next t ∧ t.answered i 0 ∧ t.integ = s.integ := by
  rw [exec_apertureRead, execApertureRead]
  refine run_answers_of_effect hp (u := s.reply i (.data 0)) ?_ fun _ ht =>
    ⟨ht.reply_driven, ht.integ_driven.trans reply_integ⟩
  cases he : s.on F.CAP_APERTURE_enable with
  | false => simp [hr, ho]
  | true => simp [hr, ho, h.resolve_left (by simp [he])]

variable (hp : s.powered = true) (hr : s.privileged i = true) (ho : o.toNat % 4 = 0)
  (he : s.on F.CAP_APERTURE_enable = true) (ha : s.apertureAt o.toNat = some a)
include hp hr ho he ha

theorem apertureRead_busy : ∃ t, exec (.apertureRead i o false f) s = .next t ∧
    tget .none t.replies i.val = .abort ∧ t.integ = s.integ := by
  rw [exec_apertureRead, execApertureRead]
  exact run_answers_of_effect hp (u := s.reply i .abort) (by simp [hr, ho, he, ha]) fun _ ht =>
    ⟨ht.reply_driven, ht.integ_driven.trans reply_integ⟩

/-- In an idle tick the selected line is read. -/
theorem apertureRead_line {P : State → Prop} (hP : ∀ t, t.Same (s.apertureLine i a f).driveOutputs → P t) :
    ∃ t, exec (.apertureRead i o true f) s = .next t ∧ P t := by
  rw [exec_apertureRead, execApertureRead]
  refine run_answers_of_effect hp ?_ hP
  simp only [hr, ho, he, ha, State.apertureLine, State.errorAt, Bool.not_true, bne_self_eq_false, Bool.or_self,
    Bool.false_eq_true, if_false]
  cases f <;> rfl

theorem apertureRead_good (hf : s.errorAt a f = none) : ∃ t, exec (.apertureRead i o true f) s = .next t ∧
    t.answered i (BitVec.ofNat 32 (s.rd a 4)) ∧ t.mem = s.mem := by
  refine apertureRead_line hp hr ho he ha fun t ht => ?_
  simp only [State.apertureLine, hf] at ht
  exact ⟨ht.reply_driven, ht.mem_driven.trans reply_mem⟩

variable {b : BadLine} (hf : s.errorAt a f = some b) (hs : sound (64 * (a / 64)) b = false)
include hf hs

theorem apertureRead_corrected {bs : List Byte} (hc : corrected (64 * (a / 64)) b = some bs) :
    ∃ t, exec (.apertureRead i o true f) s = .next t ∧ t.answered i (BitVec.ofNat 32 (recField bs (a % 64) 4)) := by
  refine apertureRead_line hp hr ho he ha fun t ht => ?_
  simp only [State.apertureLine, hf, hs, hc, Bool.false_eq_true, if_false] at ht
  exact ht.reply_driven

theorem apertureRead_uncorrected (hc : corrected (64 * (a / 64)) b = none) :
    ∃ t, exec (.apertureRead i o true f) s = .next t ∧ t.answered i 0 ∧ t.get F.CAP_APERTURE_bad = 1 := by
  refine apertureRead_line hp hr ho he ha fun t ht => ?_
  simp only [State.apertureLine, hf, hs, hc, Bool.false_eq_true, if_false] at ht
  exact ⟨ht.reply_driven, (ht.get_driven (by decide)).trans ((get_reply (by decide)).trans (State.get_set (by decide)))⟩

end Aperture

/-! ### Reads of registers (R13, R15, R437) -/

section Reads
variable {x : Hit} {o : Nat}

theorem findReg_off (h : findReg o = some x) : x.off = o := by
  unfold findReg at h
  split at h
  · cases h
  · obtain ⟨r, -, hr⟩ := List.exists_of_findSome?_eq_some h
    split at hr
    · cases hr
    · obtain ⟨is, -, rfl⟩ := Option.map_eq_some_iff.mp hr
      rfl

theorem latch_of_found (h : findReg o = some x) :
    s.latch i o = { s with hiLatch := tput s.hiLatch (portBank i + o) (s.peek i x) } := by
  simp [State.latch, h]

theorem clearRc_hiLatch : (s.clearRc i x).hiLatch = s.hiLatch :=
  (State.clearRc_frame (Within.refl _) (Frame.refl _ s)).hiLatch (by decide)

theorem clearRc_mem : (s.clearRc i x).mem = s.mem :=
  (State.clearRc_frame (Within.refl _) (Frame.refl _ s)).mem (by decide)

/-- A write of 0 only clears bits. -/
theorem withField_zero (w : Word) (lo width : Nat) :
    withField w lo width 0 = w &&& ~~~BitVec.ofNat 32 ((2 ^ width - 1) * 2 ^ lo) := by simp [withField]

theorem fieldOf_withField_zero (w : Word) (lo width : Nat) : fieldOf (withField w lo width 0) lo width = 0 := by
  refine Nat.eq_of_testBit_eq fun k => ?_
  rw [withField_zero, fieldOf, Nat.testBit_mod_two_pow, Nat.testBit_shiftRight, BitVec.testBit_toNat]
  by_cases hk : k < width
  · simp [hk, BitVec.getLsbD_ofNat, Nat.testBit_mul_two_pow, Nat.testBit_two_pow_sub_one]
  · simp [hk]

theorem get_set_zero_self (f : Field) : (s.set f 0).get f = 0 := by
  rw [State.get, State.set, regRead_regWrite_self, fieldOf_withField_zero]

theorem fieldOf_withField_zero_of_zero {w : Word} {lo width : Nat} (lo' width' : Nat) (h : fieldOf w lo width = 0) :
    fieldOf (withField w lo' width' 0) lo width = 0 := by
  refine Nat.eq_of_testBit_eq fun k => ?_
  have hk : (fieldOf w lo width).testBit k = false := by rw [h, Nat.zero_testBit]
  rw [fieldOf, Nat.testBit_mod_two_pow, Nat.testBit_shiftRight, BitVec.testBit_toNat] at hk ⊢
  rw [withField_zero, BitVec.getLsbD_and, Nat.zero_testBit, ← Bool.and_assoc, hk, Bool.false_and]

theorem get_set_zero_of_zero {f : Field} (g : Field) (h : s.get f = 0) : (s.set g 0).get f = 0 := by
  by_cases hk : f.key = g.key
  · rw [State.get, hk] at h
    rw [State.get, State.set, hk, regRead_regWrite_self, fieldOf_withField_zero_of_zero _ _ h]
  · rw [State.get_set_ne _ _ _ _ hk, h]

/-- A field in a list of fields to clear is 0 once all of them are. -/
theorem each_clear_get {k : Nat} {f : FieldRow} : ∀ {l : List FieldRow} {s : State},
    s.get ⟨k, f.lo, f.width⟩ = 0 ∨ f ∈ l →
      (s.each l fun s g => s.set ⟨k, g.lo, g.width⟩ 0).get ⟨k, f.lo, f.width⟩ = 0
  | [], _, h => h.resolve_right (List.not_mem_nil)
  | g :: l, s, h => by
    refine each_clear_get (l := l) ?_
    rcases h with h | h
    · exact .inl (get_set_zero_of_zero _ h)
    · rcases List.mem_cons.mp h with rfl | h
      · exact .inl (get_set_zero_self _)
      · exact .inr h

theorem clearRc_get {f : FieldRow} (hf : f ∈ x.row.fields) (ht : f.ty = .rc) :
    (s.clearRc i x).get ⟨x.key i, f.lo, f.width⟩ = 0 :=
  each_clear_get (.inr (List.mem_filter.mpr ⟨hf, by simp [ht]⟩))

/-- A register with an RC field does not stand at a key below the ports' banks that names a register without one. -/
theorem rcField_not_output (hx : findReg o = some x) {f : FieldRow} (hf : f ∈ x.row.fields) (ht : f.ty = .rc) {k : Nat}
    (hk : k < 0x4000000) (hro : (findReg k).all (fun y => y.row.fields.all (fun g => g.ty != .rc)) = true) :
    x.key i ≠ k := by
  intro h
  unfold Hit.key at h
  split at h
  · unfold portBank at h; omega
  · rw [← h, findReg_off hx, hx] at hro
    have := List.all_eq_true.mp hro f hf
    simp [ht] at this

/-- The outputs write no field that a read clears. -/
theorem get_driveOutputs_rcField (hx : findReg o = some x) {f : FieldRow} (hf : f ∈ x.row.fields) (ht : f.ty = .rc) :
    s.driveOutputs.get ⟨x.key i, f.lo, f.width⟩ = s.get ⟨x.key i, f.lo, f.width⟩ := by
  have h1 : x.key i ≠ F.FIO_OUT_STATE_on.key := rcField_not_output hx hf ht (by decide) (by decide +kernel)
  have h2 : x.key i ≠ F.SAFE_IO_outputs.key := rcField_not_output hx hf ht (by decide) (by decide +kernel)
  have h3 : x.key i ≠ F.FIO_STATUS_safe_state.key := rcField_not_output hx hf ht (by decide) (by decide +kernel)
  simp only [State.driveOutputs, get_mk, regGet_regs]
  rw [State.setB, State.get_set_ne _ _ _ _ h3, State.get_set_ne _ _ _ _ h2, State.get_set_ne _ _ _ _ h1]

/-- What a read does after its latches: the RC fields of a register that is present clear. -/
def State.readClears (s : State) (i : Port) (x : Hit) : State := if s.absent x then s else s.clearRc i x

theorem readClears_hiLatch : (s.readClears i x).hiLatch = s.hiLatch := by
  unfold State.readClears
  split
  · rfl
  · exact clearRc_hiLatch

theorem readClears_mem : (s.readClears i x).mem = s.mem := by
  unfold State.readClears
  split
  · rfl
  · exact clearRc_mem

theorem readBar0_of_found (h : findReg o = some x) : s.readBar0 i o = s.readReg i x := by simp [State.readBar0, h]

theorem readBar0_of_none (h : findReg o = none) : s.readBar0 i o = s.unmapped i 0 o false := by simp [State.readBar0, h]

theorem readReg_latched {w : Word} (h : tfind s.hiLatch (portBank i + x.off) = some w) : s.readReg i x =
    { s with hiLatch := tdel s.hiLatch (portBank i + x.off) }.reply i (.data w) := by simp [State.readReg, h]

/-- The read of a low word latches the word that stands next (R13). -/
theorem readReg_lowWord (h : tfind s.hiLatch (portBank i + x.off) = none) (hx : x.row.name ∈ lowWords) : s.readReg i x =
    ((s.latch i (x.off + 4)).readClears i x).reply i (.data (s.peek i x)) := by
  have hns : x.row.name ≠ "TIME_NOW_NS" := fun e => absurd (e ▸ hx) (by decide)
  have hcs : x.row.name ≠ "CORE_STATUS" := fun e => absurd (e ▸ hx) (by decide)
  simp [State.readReg, State.readClears, h, hx, hns, hcs]

/-- The read of any other register latches nothing; CORE_STATUS draws a free value. -/
theorem readReg_plain (h : tfind s.hiLatch (portBank i + x.off) = none) (hx : x.row.name ∉ lowWords)
    (hns : x.row.name ≠ "TIME_NOW_NS") : s.readReg i x =
      ((if x.row.name = "CORE_STATUS" then { s with free := s.free + 1 } else s).readClears i x).reply i
        (.data (s.peek i x)) := by
  simp [State.readReg, State.readClears, h, hx, hns]

end Reads

section ReadCommands
variable {o : BitVec 26} {x : Hit}

theorem exec_lowWordRead : exec (.lowWordRead i o) s = s.run fun s => s.readBar0 i o.toNat := rfl

theorem exec_rcRead : exec (.rcRead i o) s = s.run fun s => s.readBar0 i o.toNat := rfl

/-- A read where no register stands (R433). -/
theorem run_readBar0_none (hp : s.powered = true) (h : findReg o.toNat = none) :
    ∃ t, (s.run fun s => s.readBar0 i o.toNat) = .next t ∧ tget .none t.replies i.val = .unsupported ∧
      t.wrote Code.HOST_UR [i, 0, o.toNat] :=
  run_answers_of_effect hp (readBar0_of_none h) fun _ ht => ⟨ht.reply_driven, ht.wrote_driven unmapped_wrote⟩

/-- The read of a low word answers it, and latches the high word for the port (R13, R437). -/
theorem lowWordRead_latches {y : Hit} (hp : s.powered = true) (hx : findReg o.toNat = some x)
    (hl : tfind s.hiLatch (portBank i + x.off) = none) (hn : x.row.name ∈ lowWords) (hy : findReg (x.off + 4) = some y) :
    ∃ t, exec (.lowWordRead i o) s = .next t ∧ t.answered i (s.peek i x) ∧
      tfind t.hiLatch (portBank i + (x.off + 4)) = some (s.peek i y) ∧ t.mem = s.mem := by
  rw [exec_lowWordRead]
  refine run_answers_of_effect hp ((readBar0_of_found hx).trans (readReg_lowWord hl hn)) fun t ht =>
    ⟨ht.reply_driven, ?_, ?_⟩
  · rw [ht.hiLatch_driven, reply_hiLatch, readClears_hiLatch, latch_of_found hy]
    exact tfind_tput_self _ _ _
  · rw [ht.mem_driven, reply_mem, readClears_mem, latch_of_found hy]

/-- A latched word is answered once (R13). -/
theorem lowWordRead_latched {w : Word} (hp : s.powered = true) (hx : findReg o.toNat = some x)
    (hl : tfind s.hiLatch (portBank i + x.off) = some w) :
    ∃ t, exec (.lowWordRead i o) s = .next t ∧ t.answered i w ∧ tfind t.hiLatch (portBank i + x.off) = none := by
  rw [exec_lowWordRead]
  refine run_answers_of_effect hp ((readBar0_of_found hx).trans (readReg_latched hl)) fun t ht => ⟨ht.reply_driven, ?_⟩
  rw [ht.hiLatch_driven, reply_hiLatch]
  exact tfind_tdel_self _ _

/-- A read clears the RC fields of its register (R15). -/
theorem rcRead_clears (hp : s.powered = true) (hx : findReg o.toNat = some x)
    (hl : tfind s.hiLatch (portBank i + x.off) = none) (ha : s.absent x = false) (hn : x.row.name ∉ lowWords)
    (hns : x.row.name ≠ "TIME_NOW_NS") : ∃ t, exec (.rcRead i o) s = .next t ∧ t.answered i (s.peek i x) ∧
      t.hiLatch = s.hiLatch ∧ ∀ f ∈ x.row.fields, f.ty = .rc → t.get ⟨x.key i, f.lo, f.width⟩ = 0 := by
  rw [exec_rcRead]
  refine run_answers_of_effect hp ((readBar0_of_found hx).trans (readReg_plain hl hn hns)) fun t ht =>
    ⟨ht.reply_driven, ?_, fun f hf hrc => ?_⟩
  · rw [ht.hiLatch_driven, reply_hiLatch, readClears_hiLatch]
    split <;> rfl
  · rw [ht.get, get_driveOutputs_rcField hx hf hrc, State.reply, get_mk, regGet_regs, State.readClears, if_neg]
    · exact clearRc_get hf hrc
    · rw [Bool.not_eq_true]
      split <;> exact ha

end ReadCommands

/-! ### Writes of registers (R435, R436, R444) -/

section Writes
variable {o : BitVec 26} {x : Hit} {v : Word}

/-- A register of a unit that every variant has: only MOT, FIO, CORE and the core
counters of PERF have units that can be absent. -/
def Hit.alwaysPresent (x : Hit) : Bool :=
  x.kind != 0x0C && x.kind != 0x0D && x.kind != 0x06 && (x.kind != 0x14 || x.off < 0x151000)

theorem absent_of_alwaysPresent (h : x.alwaysPresent = true) : s.absent x = false := by
  simp only [Hit.alwaysPresent, State.absent, Bool.and_eq_true, Bool.or_eq_true, Bool.or_eq_false_iff, Bool.and_eq_false_iff,
    bne_iff_ne, beq_eq_false_iff_ne, decide_eq_true_eq, decide_eq_false_iff_not] at *
  omega

/-- A write of a command value to a command register is that command (R436). -/
theorem registerWrite_command {r : Host.Outcome State Fault Refusal} (hx : findReg o.toNat = some x)
    (ha : x.alwaysPresent = true) (hc : s.commandWrite i x v = some r) : exec (.registerWrite i false o v) s = r := by
  show execRegisterWrite i false o v s = r
  simp [execRegisterWrite, hx, absent_of_alwaysPresent ha, hc]

theorem registerWrite_plain (hx : findReg o.toNat = some x) (hc : s.commandWrite i x v = none) :
    exec (.registerWrite i false o v) s = s.run fun s => s.plainWrite i x v := by
  show execRegisterWrite i false o v s = _
  simp [execRegisterWrite, hx, hc]

theorem registerWrite_noRegister (hp : s.powered = true) (hx : findReg o.toNat = none) :
    ∃ t, exec (.registerWrite i false o v) s = .next t ∧ tget .none t.replies i.val = .dropped ∧ t.mem = s.mem ∧
      t.wrote Code.HOST_UR [i, 0, o.toNat] := by
  have he : exec (.registerWrite i false o v) s = s.run fun s => s.unmapped i 0 o.toNat true := by
    show execRegisterWrite i false o v s = _
    simp [execRegisterWrite, hx]
  rw [he]
  exact run_unmapped (w := true) hp rfl

theorem exec_registerWrite_bar2 :
    exec (.registerWrite i true o v) s = s.run fun s => s.writeBar2 i o.toNat v := rfl

/-! ### TIME_SLEW and TIME_JUMP -/

theorem get_timeRefuse {f : Field} {cmd reason : Nat} (hf : State.timeRefuse_mask.testBit (regKind f.key) = false) :
    (s.timeRefuse i cmd reason).get f = s.get f :=
  (State.timeRefuse_frame (Within.refl _) (Frame.refl _ s)).get f hf

theorem timeRefuse_wrote {cmd reason : Nat} : (s.timeRefuse i cmd reason).wrote Code.TIME_REFUSED [i, cmd, reason] :=
  wrote_of_recorder (set_recorder.trans set_recorder) raise_wrote

theorem timeRefuse_code {cmd reason : Nat} :
    (s.timeRefuse i cmd reason).get (F.TIME_CMD_STATUS_code i) = Code.TIME_REFUSED := by
  rw [State.timeRefuse, State.timeStatus,
    State.get_set_field (f := F.TIME_CMD_STATUS_code i) (g := F.TIME_CMD_STATUS_reason i) rfl (.inl (Nat.le_refl 16))
      (by simp [F.TIME_CMD_STATUS_code]),
    State.get_set (by simp [F.TIME_CMD_STATUS_code])]
  exact Nat.mod_eq_of_lt (show Code.TIME_REFUSED < 2 ^ 16 by decide)

theorem timeRefuse_reason {cmd reason : Nat} (hr : reason < 2 ^ 8) :
    (s.timeRefuse i cmd reason).get (F.TIME_CMD_STATUS_reason i) = reason :=
  (State.get_set (by simp [F.TIME_CMD_STATUS_reason])).trans (Nat.mod_eq_of_lt hr)

/-- At offset `o` stands a register of the TIME block with one RW field `f`, that a privileged port may write. -/
structure IsTimeValue (o : BitVec 26) (x : Hit) (f : Field) : Prop where
  found : findReg o.toNat = some x
  kind : x.kind = 0x0E
  fields : x.row.fields = [⟨f.lo, f.width, .rw⟩]
  key : ∀ i, x.key i = f.key
  fits : f.lo + f.width ≤ 32
  plain : ∀ (s : State) (i : Port) (v : Word), s.commandWrite i x v = none
  mayWrite : ∀ (s : State) (i : Port) (v : Word), s.mayWrite i x v = s.privileged i
  notStatus : State.timeRefuse_mask.testBit (regKind f.key) = false
  notOutput : State.driveOutputs_mask.testBit (regKind f.key) = false

/-- TIME_SLEW and TIME_JUMP, as their offsets name them. -/
def timeSlewHit : Hit := ⟨⟨"TIME_SLEW", 0x10001C, [], false, [⟨0, 7, .rw⟩]⟩, [], 0x1C, 0x0E, 0x10001C⟩
def timeJumpHit : Hit := ⟨⟨"TIME_JUMP", 0x100018, [], false, [⟨0, 30, .rw⟩]⟩, [], 0x18, 0x0E, 0x100018⟩

theorem isTimeValue_slew : IsTimeValue 0x10001C timeSlewHit F.TIME_SLEW_ppm where
  found := rfl
  kind := rfl
  fields := rfl
  key _ := rfl
  fits := by decide
  plain _ _ _ := rfl
  mayWrite _ _ _ := rfl
  notStatus := by decide
  notOutput := by decide

theorem isTimeValue_jump : IsTimeValue 0x100018 timeJumpHit F.TIME_JUMP_ns where
  found := rfl
  kind := rfl
  fields := rfl
  key _ := rfl
  fits := by decide
  plain _ _ _ := rfl
  mayWrite _ _ _ := rfl
  notStatus := by decide
  notOutput := by decide

theorem inRange_timeSlew : inRange timeSlewHit.row.name v.toNat = true ↔
    1 ≤ v.toNat % 2 ^ 7 ∧ v.toNat % 2 ^ 7 ≤ 100 := by
  show (decide (1 ≤ v.toNat / 2 ^ 0 % 2 ^ 7) && decide (v.toNat / 2 ^ 0 % 2 ^ 7 ≤ 100)) = true ↔ _
  simp

theorem inRange_timeSlew_false (hv : v.toNat % 2 ^ 7 = 0 ∨ 100 < v.toNat % 2 ^ 7) :
    inRange timeSlewHit.row.name v.toNat = false := by
  rw [Bool.eq_false_iff, Ne, inRange_timeSlew]
  omega

theorem inRange_timeJump : inRange timeJumpHit.row.name v.toNat = true ↔
    100 ≤ v.toNat % 2 ^ 30 ∧ v.toNat % 2 ^ 30 ≤ 1000000000 := by
  show (decide (100 ≤ v.toNat / 2 ^ 0 % 2 ^ 30) && decide (v.toNat / 2 ^ 0 % 2 ^ 30 ≤ 1000000000)) = true ↔ _
  simp

theorem inRange_timeJump_false (hv : v.toNat % 2 ^ 30 < 100 ∨ 1000000000 < v.toNat % 2 ^ 30) :
    inRange timeJumpHit.row.name v.toNat = false := by
  rw [Bool.eq_false_iff, Ne, inRange_timeJump]
  omega

namespace IsTimeValue
variable {f : Field} (h : IsTimeValue o x f)
include h

theorem absent : s.absent x = false :=
  absent_of_alwaysPresent (by simp [Hit.alwaysPresent, h.kind])

theorem plainWrite_accepted (hr : s.privileged i = true) (hv : inRange x.row.name v.toNat = true) :
    s.plainWrite i x v = s.set f (fieldOf v f.lo f.width) := by
  simp [State.plainWrite, h.absent, h.fields, h.mayWrite, hr, hv, State.applyWrite, h.key]

theorem plainWrite_badValue (hr : s.privileged i = true) (hv : inRange x.row.name v.toNat = false) :
    s.plainWrite i x v = s.timeRefuse i 0 trBADVALUE := by
  simp [State.plainWrite, h.absent, h.fields, h.mayWrite, hr, hv, State.outOfRange, h.kind, trBADVALUE]

theorem plainWrite_role (hr : s.privileged i = false) : s.plainWrite i x v = s.timeRefuse i 0 trROLE := by
  simp [State.plainWrite, h.absent, h.fields, h.mayWrite, hr, State.writeRole, h.kind, trROLE]

/-- A value in range is taken (R444). -/
theorem write_accepted (hp : s.powered = true) (hr : s.privileged i = true) (hv : inRange x.row.name v.toNat = true) :
    ∃ t, exec (.registerWrite i false o v) s = .next t ∧ t.get f = v.toNat >>> f.lo % 2 ^ f.width := by
  rw [registerWrite_plain h.found (h.plain s i v)]
  refine run_answers_of_effect hp (h.plainWrite_accepted hr hv) fun t ht => ?_
  rw [ht.get_driven h.notOutput, State.get_set h.fits, fieldOf, Nat.mod_mod]

/-- A refused write keeps the value and answers TIME_REFUSED with its reason. -/
theorem write_refused {reason : Nat} (hp : s.powered = true) (hreason : reason < 2 ^ 8)
    (he : s.plainWrite i x v = s.timeRefuse i 0 reason) : ∃ t, exec (.registerWrite i false o v) s = .next t ∧
      t.get f = s.get f ∧ t.wrote Code.TIME_REFUSED [i, 0, reason] ∧
      t.get (F.TIME_CMD_STATUS_code i) = Code.TIME_REFUSED ∧ t.get (F.TIME_CMD_STATUS_reason i) = reason := by
  rw [registerWrite_plain h.found (h.plain s i v)]
  refine run_answers_of_effect hp he fun t ht => ⟨?_, ht.wrote_driven timeRefuse_wrote, ?_, ?_⟩
  · rw [ht.get_driven h.notOutput, get_timeRefuse h.notStatus]
  · rw [ht.get_driven (by rw [F.TIME_CMD_STATUS_code_kind]; decide), timeRefuse_code]
  · rw [ht.get_driven (by rw [F.TIME_CMD_STATUS_reason_kind]; decide), timeRefuse_reason hreason]

theorem write_badValue (hp : s.powered = true) (hr : s.privileged i = true) (hv : inRange x.row.name v.toNat = false) :
    ∃ t, exec (.registerWrite i false o v) s = .next t ∧ t.get f = s.get f ∧
      t.wrote Code.TIME_REFUSED [i, 0, trBADVALUE] ∧ t.get (F.TIME_CMD_STATUS_code i) = Code.TIME_REFUSED ∧
      t.get (F.TIME_CMD_STATUS_reason i) = trBADVALUE :=
  h.write_refused hp (by decide) (h.plainWrite_badValue hr hv)

theorem write_role (hp : s.powered = true) (hr : s.privileged i = false) :
    ∃ t, exec (.registerWrite i false o v) s = .next t ∧ t.get f = s.get f ∧
      t.get (F.TIME_CMD_STATUS_code i) = Code.TIME_REFUSED ∧ t.get (F.TIME_CMD_STATUS_reason i) = trROLE := by
  obtain ⟨t, ht, hkept, -, hstatus⟩ := h.write_refused hp (by decide) (h.plainWrite_role (v := v) hr)
  exact ⟨t, ht, hkept, hstatus⟩

end IsTimeValue

end Writes

/-! ### In-mailbox words (R358, Table MAP-2) -/

section Mailbox
variable {p : Part} {k : BitVec 10} {v : Word}

/-- The BAR2 offset of word `k` of the in-mailbox of partition `p`. -/
def mailboxWord (p : Part) (k : BitVec 10) : Nat := 0x800000 + 0x2000 * p.val + 4 * k.toNat

theorem mailboxWord_toNat : (BitVec.ofNat 26 (mailboxWord p k)).toNat = mailboxWord p k := by
  rw [BitVec.toNat_ofNat, Nat.mod_eq_of_lt]
  unfold mailboxWord
  omega

theorem writeBar2_mailboxWord : s.writeBar2 i (mailboxWord p k) v =
    if s.mayWritePart i p then (s.wr (inMailbox p + 4 * k.toNat) 4 v.toNat).bwInAdd i 4
    else s.hostRole i (mailboxWord p k) := by
  have hpart : (mailboxWord p k - 0x800000) / 0x2000 = p.val := by unfold mailboxWord; omega
  have hword : (mailboxWord p k - 0x800000) % 0x2000 = 4 * k.toNat := by unfold mailboxWord; omega
  have hmapped : ¬ (mailboxWord p k < 0x800000 ∨ 8 ≤ p.val ∨ 0x1000 ≤ 4 * k.toNat ∨
      mailboxWord p k % 4 ≠ 0) := by
    unfold mailboxWord; omega
  simp only [State.writeBar2, hpart, hword]
  rw [if_neg (by simpa [or_assoc] using hmapped)]
  cases s.mayWritePart i p <;> rfl

theorem leNat_leBytes : ∀ n w : Nat, leNat (leBytes n w) = w % 256 ^ n
  | 0, w => by simp [leBytes, leNat, Nat.mod_one]
  | n + 1, w => by
    rw [leBytes, leNat, leNat_leBytes n, BitVec.toNat_ofNat, Nat.pow_succ' (m := 256)]
    exact (Nat.mod_mul).symm

theorem leBytes_length : ∀ n w : Nat, (leBytes n w).length = n
  | 0, _ => rfl
  | n + 1, w => by rw [leBytes, List.length_cons, leBytes_length n]

/-- The number read where a number was written. -/
theorem rd_wr (a n w : Nat) : (s.wr a n w).rd a n = w % 256 ^ n := by
  have hb : (s.wr a n w).bytes a n = leBytes n w := by
    refine List.ext_getElem (by simp [State.bytes, leBytes_length]) fun k hk hk' => ?_
    simp only [State.bytes, List.getElem_map, List.getElem_range]
    exact memByte_memPutAll_in _ _ _ _ hk'
  rw [State.rd, hb, leNat_leBytes]

theorem rd_of_mem {a n : Nat} (h : t.mem = u.mem) : t.rd a n = u.rd a n := by
  simp only [State.rd, State.bytes, State.byte, h]

theorem byte_wr_out {a n w b : Nat} (h : b < a ∨ a + n ≤ b) : (s.wr a n w).byte b = s.byte b :=
  memByte_memPutAll_out _ _ _ _ (by rwa [leBytes_length])

theorem mailboxWrite_stores (hp : s.powered = true) (hm : s.mayWritePart i p = true) :
    ∃ t, exec (.registerWrite i true (BitVec.ofNat 26 (mailboxWord p k)) v) s = .next t ∧
      t.rd (inMailbox p + 4 * k.toNat) 4 = v.toNat ∧
      ∀ a, a < inMailbox p + 4 * k.toNat ∨ inMailbox p + 4 * k.toNat + 4 ≤ a → t.byte a = s.byte a := by
  rw [exec_registerWrite_bar2, mailboxWord_toNat]
  refine run_answers_of_effect hp (writeBar2_mailboxWord.trans (if_pos hm)) fun t ht => ?_
  have hmem : t.mem = (s.wr (inMailbox p + 4 * k.toNat) 4 v.toNat).mem := ht.mem_driven
  refine ⟨?_, fun a ha => ?_⟩
  · rw [rd_of_mem hmem, rd_wr]
    exact Nat.mod_eq_of_lt v.isLt
  · rw [State.byte, hmem]
    exact byte_wr_out ha

theorem mailboxWrite_refused (hp : s.powered = true) (hm : s.mayWritePart i p = false) :
    ∃ t, exec (.registerWrite i true (BitVec.ofNat 26 (mailboxWord p k)) v) s = .next t ∧ t.mem = s.mem ∧
      t.wrote Code.HOST_ROLE [i, mailboxWord p k] := by
  rw [exec_registerWrite_bar2, mailboxWord_toNat]
  exact run_answers_of_effect hp (writeBar2_mailboxWord.trans (if_neg (by simp [hm]))) fun t ht =>
    ⟨ht.mem_driven.trans raise_mem, ht.wrote_driven raise_wrote⟩

end Mailbox

/-- Settles O47: each clause is a lemma above, at the register or the command that it names. -/
theorem registersAndCounters : Obligations.RegistersAndCounters := by
  unfold Obligations.RegistersAndCounters
  refine ⟨?snapshot, ?snapshotRole, ?tagOn, ?tagOnRole, ?tagOff, ?tagOffRole, ?event, ?badEvent, ?absentCore, ?eventRole,
    ?window, ?aperture, ?unselected, ?busy, ?good, ?corrected, ?uncorrected, ?lowWord, ?latched, ?rc, ?lowUnmapped,
    ?rcUnmapped, ?unmapped, ?slew, ?slewBad, ?slewRole, ?jump, ?jumpBad, ?jumpRole, ?writeUnmapped, ?mailbox, ?mailboxRole,
    ?freeze, ?thaw, ?safeReset, ?forceSafe, ?lock, ?unlock, ?step, ?slewCmd, ?snapshotCmd, ?captureClear⟩
  case snapshot => exact fun s i hp hr => run_perfCmd_privileged hp hr (by simp) (State.get_set (by decide))
  case snapshotRole => exact fun s i hp hr => run_perfCmd_refused hp hr (by simp)
  case tagOn => exact fun s i hp hr => run_perfCmd_privileged hp hr (by simp) (State.get_set (by decide))
  case tagOnRole => exact fun s i hp hr => run_perfCmd_refused hp hr (by simp)
  case tagOff => exact fun s i hp hr => run_perfCmd_privileged hp hr (by simp) (State.get_set (by decide))
  case tagOffRole => exact fun s i hp hr => run_perfCmd_refused hp hr (by simp)
  case event => exact fun s i c k v => perfEventWrite_accepted
  case badEvent => exact fun s i c k v => perfEventWrite_badEvent
  case absentCore => exact fun s i c k v => perfEventWrite_absent
  case eventRole => exact fun s i c k v => perfEventWrite_refused
  case window => exact fun s i a b => bwWindowEnd_counts
  case aperture => exact fun s i o d f => apertureRead_unmapped
  case unselected => exact fun s i o d f => apertureRead_unselected
  case busy => exact fun s i o f a => apertureRead_busy
  case good => exact fun s i o f a => apertureRead_good
  case corrected => exact fun s i o f a b bs hp hr ho he ha hf hs => apertureRead_corrected hp hr ho he ha hf hs
  case uncorrected => exact fun s i o f a b hp hr ho he ha hf hs => apertureRead_uncorrected hp hr ho he ha hf hs
  case lowWord => exact fun s i o h g => lowWordRead_latches
  case latched => exact fun s i o h w => lowWordRead_latched
  case rc => exact fun s i o h => rcRead_clears
  case lowUnmapped => exact fun s i o => run_readBar0_none
  case rcUnmapped => exact fun s i o => run_readBar0_none
  case unmapped => exact fun s i b2 o n w => unmappedAccess_answers
  case slew => exact fun s i v hp hr h1 h2 => isTimeValue_slew.write_accepted hp hr (inRange_timeSlew.mpr ⟨h1, h2⟩)
  case slewBad => exact fun s i v hp hr hv => isTimeValue_slew.write_badValue hp hr (inRange_timeSlew_false hv)
  case slewRole => exact fun s i v => isTimeValue_slew.write_role
  case jump => exact fun s i v hp hr h1 h2 => isTimeValue_jump.write_accepted hp hr (inRange_timeJump.mpr ⟨h1, h2⟩)
  case jumpBad => exact fun s i v hp hr hv => isTimeValue_jump.write_badValue hp hr (inRange_timeJump_false hv)
  case jumpRole => exact fun s i v => isTimeValue_jump.write_role
  case writeUnmapped => exact fun s i o v => registerWrite_noRegister
  case mailbox => exact fun s i p k v => mailboxWrite_stores
  case mailboxRole => exact fun s i p k v => mailboxWrite_refused
  case freeze => exact fun s i => registerWrite_command rfl rfl rfl
  case thaw => exact fun s i => registerWrite_command rfl rfl rfl
  case safeReset => exact fun s i => registerWrite_command rfl rfl rfl
  case forceSafe => exact fun s i => registerWrite_command rfl rfl rfl
  case lock => exact fun s i => registerWrite_command rfl rfl rfl
  case unlock => exact fun s i => registerWrite_command rfl rfl rfl
  case step => exact fun s i => registerWrite_command rfl rfl rfl
  case slewCmd => exact fun s i => registerWrite_command rfl rfl rfl
  case snapshotCmd => exact fun s i => registerWrite_command rfl rfl rfl
  case captureClear => exact fun s i => registerWrite_command rfl rfl rfl

end Sys2Proof.Machine
end

section
/-! PROOFS. The load session and COMMIT (R51 to R61, R72): what each operation of the session leaves and what it writes, a lemma
for each outcome of a command, and from them the statements O6, O7 and O54. -/

namespace Sys2Proof.Machine

variable {s t u : State} {i : Port} {img : ImageFile} {e : Failure}

/-! ### The end of a command, in the parts that a load session touches -/

theorem State.Same.zld_driven (h : t.Same u.driveOutputs) : t.zld = u.zld := h.zld.trans driveOutputs_zld

theorem State.Same.keep_driven (h : t.Same u.driveOutputs) : t.keep = u.keep := h.keep.trans driveOutputs_keep

theorem State.Same.cfg_driven (h : t.Same u.driveOutputs) : t.cfg = u.cfg := h.cfg.trans driveOutputs_cfg

theorem State.Same.flash_driven (h : t.Same u.driveOutputs) : t.flash = u.flash := h.flash.trans driveOutputs_flash

theorem State.Same.zldState_driven (h : t.Same u.driveOutputs) : t.zldState = u.zldState := h.get_driven (by decide)

theorem State.Same.zldResult_driven (h : t.Same u.driveOutputs) :
    t.get (F.ZLD_RESULT_code i) = u.get (F.ZLD_RESULT_code i) :=
  h.get_driven (by rw [F.ZLD_RESULT_code_kind]; decide)

/-! ### ZLD_RESULT -/

section Result
variable {code sec item : Nat}

theorem zldResult_frame_self : Frame State.zldResult_mask s (s.zldResult i code sec item) :=
  State.zldResult_frame (Within.refl _) (Frame.refl _ s)

@[simp] theorem zldResult_zld : (s.zldResult i code sec item).zld = s.zld := zldResult_frame_self.zld rfl
@[simp] theorem zldResult_keep : (s.zldResult i code sec item).keep = s.keep := zldResult_frame_self.keep rfl
@[simp] theorem zldResult_cfg : (s.zldResult i code sec item).cfg = s.cfg := zldResult_frame_self.cfg rfl
@[simp] theorem zldResult_flash : (s.zldResult i code sec item).flash = s.flash := zldResult_frame_self.flash rfl
@[simp] theorem zldResult_recorder : (s.zldResult i code sec item).recorder = s.recorder :=
  zldResult_frame_self.recorder rfl

@[simp] theorem zldState_zldResult : (s.zldResult i code sec item).zldState = s.zldState :=
  zldResult_frame_self.get _ (by decide)

/-- The section and the item stand beside the code. -/
theorem zldResult_code : (s.zldResult i code sec item).get (F.ZLD_RESULT_code i) = code % 2 ^ 16 := by
  rw [State.zldResult,
    State.get_set_field (f := F.ZLD_RESULT_code i) (g := F.ZLD_RESULT_item i) rfl
      (.inl (by simp [F.ZLD_RESULT_code, F.ZLD_RESULT_item])) (by simp [F.ZLD_RESULT_code]),
    State.get_set_field (f := F.ZLD_RESULT_code i) (g := F.ZLD_RESULT_section i) rfl (.inl (Nat.le_refl 16))
      (by simp [F.ZLD_RESULT_code]),
    State.get_set (by simp [F.ZLD_RESULT_code])]
  rfl

end Result

@[simp] theorem zldState_raise {c : Nat} {ps : List Nat} : (s.raise c ps).zldState = s.zldState := get_raise (by decide)

@[simp] theorem zldState_fireAll {v : Nat} : (s.fireAll v).zldState = s.zldState := get_fireAll (by decide)

theorem zldState_set {v : Nat} (hv : v < 2 ^ 3) : (s.set F.ZLD_STATUS_state v).zldState = v :=
  (State.get_set (by decide)).trans (Nat.mod_eq_of_lt hv)

/-- A field of ZLD_STATUS beside `state` is written. -/
theorem zldState_set_beside {g : Field} {v : Nat} (hk : g.key = F.ZLD_STATUS_state.key) (hlo : 3 ≤ g.lo) :
    (s.set g v).zldState = s.zldState := State.get_set_field hk.symm (.inl hlo) (by decide)

@[simp] theorem zldState_set_sessionPort {v : Nat} : (s.set F.ZLD_STATUS_session_port v).zldState = s.zldState :=
  zldState_set_beside rfl (by decide)

@[simp] theorem zldState_set_restartPending {v : Nat} : (s.set F.ZLD_STATUS_restart_pending v).zldState = s.zldState :=
  zldState_set_beside rfl (by decide)

@[simp] theorem zldState_set_armed {v : Nat} : (s.set F.ZLD_STATUS_armed v).zldState = s.zldState :=
  zldState_set_beside rfl (by decide)

@[simp] theorem zldState_setB_fullArmed {b : Bool} : (s.setB F.ZLD_STATUS_full_armed b).zldState = s.zldState :=
  zldState_set_beside rfl (by decide)

theorem zldState_set_kind {g : Field} {v : Nat} (hk : 54 ≠ regKind g.key) : (s.set g v).zldState = s.zldState :=
  State.get_set_kind (by rwa [F.ZLD_STATUS_state_kind])

theorem get_fireAll_result {v : Nat} : (s.fireAll v).get (F.ZLD_RESULT_code i) = s.get (F.ZLD_RESULT_code i) :=
  get_fireAll (by rw [F.ZLD_RESULT_code_kind]; decide)

/-! ### Who holds the session -/

theorem holdsSession_iff : s.holdsSession i = true ↔ s.zldState ≠ zldIDLE ∧ s.get F.ZLD_STATUS_session_port = i := by
  simp [State.holdsSession]

/-! ### A refused command of the session (R54, R56) -/

/-- From `s` to `t` a command of port `i` was refused with a code: the keep store, the running image and the session stay. -/
structure State.RefusedLoad (s t : State) (i : Port) (code : Nat) : Prop where
  keep : t.keep = s.keep
  cfg : t.cfg = s.cfg
  zld : t.zld = s.zld
  zldState : t.zldState = s.zldState
  result : t.get (F.ZLD_RESULT_code i) = code

theorem zldBad_eq_commitRefused {cmd : Nat} :
    s.zldBad i cmd = s.commitRefused i { code := Code.ZLD_BAD_COMMAND, section_ := 0, item := 0, params := [i, cmd] } := rfl

/-- What OPEN, and COMMIT of a FULL image, report as ZLD_BUSY to port `i`. -/
def State.busyFailure (s : State) (i : Port) : Failure :=
  { code := Code.ZLD_BUSY, section_ := 0, item := 0, params := [i, s.get F.ZLD_STATUS_session_port] }

theorem run_refusedLoad {f : State → State} {code : Nat} (hp : s.powered = true) (he : f s = s.commitRefused i e)
    (hc : e.code % 2 ^ 16 = code) : ∃ t, s.run f = .next t ∧ s.RefusedLoad t i code :=
  run_answers_of_effect hp he fun _ ht =>
    { keep := ht.keep_driven.trans (zldResult_keep.trans raise_keep)
      cfg := ht.cfg_driven.trans (zldResult_cfg.trans raise_cfg)
      zld := ht.zld_driven.trans (zldResult_zld.trans raise_zld)
      zldState := ht.zldState_driven.trans (zldState_zldResult.trans zldState_raise)
      result := ht.zldResult_driven.trans (zldResult_code.trans hc) }

theorem run_zldBusy {f : State → State} (hp : s.powered = true) (he : f s = s.commitRefused i (s.busyFailure i)) :
    ∃ t, s.run f = .next t ∧ s.RefusedLoad t i Code.ZLD_BUSY :=
  run_refusedLoad hp he (show Code.ZLD_BUSY % 2 ^ 16 = _ by decide)

theorem run_zldBad {f : State → State} {cmd : Nat} (hp : s.powered = true) (he : f s = s.zldBad i cmd) :
    ∃ t, s.run f = .next t ∧ s.RefusedLoad t i Code.ZLD_BAD_COMMAND :=
  run_refusedLoad hp (he.trans zldBad_eq_commitRefused) (show Code.ZLD_BAD_COMMAND % 2 ^ 16 = _ by decide)

/-! ### OPEN (R54, R56) -/

theorem exec_openLoad : exec (.openLoad i) s = execOpen i s := rfl

theorem open_idle (hp : s.powered = true) (hs : s.zldState = zldIDLE) : ∃ t, exec (.openLoad i) s = .next t ∧
    t.zldState = zldOPEN ∧ t.get F.ZLD_STATUS_session_port = i ∧ t.get F.ZLD_PROGRESS_bytes = 0 ∧ t.zld.image = none ∧
    t.cfg = s.cfg ∧ t.keep = s.keep ∧ t.flash = s.flash ∧ t.zld.armed = s.zld.armed := by
  rw [exec_openLoad, execOpen]
  refine run_answers_of_effect hp (if_neg (by simp [hs])) fun t ht =>
    ⟨ht.zldState_driven.trans ?state, (ht.get_driven (by decide)).trans ?port, (ht.get_driven (by decide)).trans ?bytes, ?image,
      ht.cfg_driven, ht.keep_driven, ht.flash_driven, ?armed⟩
  case state =>
    show State.zldState (State.set _ F.ZLD_PROGRESS_bytes 0) = _
    rw [zldState_set_kind (by simp), zldState_set_sessionPort, zldState_set (by decide)]
  case port =>
    rw [get_mk, regGet_regs, State.get_set_kind (by simp), State.get_set (by decide)]
    exact Nat.mod_eq_of_lt i.isLt
  case bytes => exact State.get_set (by decide)
  case image => exact congrArg Zld.image ht.zld_driven
  case armed => exact (congrArg Zld.armed ht.zld_driven :)

theorem open_busy (hp : s.powered = true) (hs : s.zldState ≠ zldIDLE) :
    ∃ t, exec (.openLoad i) s = .next t ∧ s.RefusedLoad t i Code.ZLD_BUSY := by
  rw [exec_openLoad, execOpen]
  exact run_zldBusy hp (if_pos (by simpa using hs))

/-! ### FETCH (R54, R55) -/

theorem exec_fetch : exec (.fetch i img) s = execFetch i img s := rfl

theorem fetch_open (hp : s.powered = true) (hh : s.holdsSession i = true) (hs : s.zldState = zldOPEN) :
    ∃ t, exec (.fetch i img) s = .next t ∧ t.zldState = zldFETCHING ∧ t.zld.image = some img ∧
      t.get F.ZLD_PROGRESS_bytes = 0 ∧ t.cfg = s.cfg ∧ t.keep = s.keep ∧ t.flash = s.flash ∧
      t.zld.armed = s.zld.armed := by
  rw [exec_fetch, execFetch]
  refine run_answers_of_effect hp (if_neg (by simp [hh, hs])) fun t ht =>
    ⟨ht.zldState_driven.trans ?state, ?image, (ht.get_driven (by decide)).trans ?bytes,
      ht.cfg_driven, ht.keep_driven, ht.flash_driven, ?armed⟩
  case state =>
    show State.zldState (State.set _ F.ZLD_PROGRESS_bytes 0) = _
    rw [zldState_set_kind (by simp), zldState_set (by decide)]
  case image => exact congrArg Zld.image ht.zld_driven
  case bytes => exact State.get_set (by decide)
  case armed => exact (congrArg Zld.armed ht.zld_driven :)

theorem fetch_refused (hp : s.powered = true) (h : s.holdsSession i = false ∨ s.zldState ≠ zldOPEN) :
    ∃ t, exec (.fetch i img) s = .next t ∧ s.RefusedLoad t i Code.ZLD_BAD_COMMAND := by
  rw [exec_fetch, execFetch]
  exact run_zldBad hp (if_pos (by simpa using h))

/-! ### The end of a FETCH (R55, R72) -/

/-- The port of the session, as FETCH_DONE reads it. -/
def State.sessionPort (s : State) : Port := Fin.ofNat 4 (s.get F.ZLD_STATUS_session_port)

/-- What a FETCH whose image passed every check leaves. -/
def State.fetchVerified (s : State) (img : ImageFile) : State :=
  ((((s.slotWrite img (some img)).set F.ZLD_STATUS_state zldVERIFIED).set F.ZLD_PROGRESS_bytes
    img.header.totalLength).zldResult s.sessionPort 0 0 0).fireAll 1

/-- What a FETCH whose image failed a check leaves. -/
def State.fetchFailed (s : State) (e : Failure) : State :=
  (((s.draw.2.set F.ZLD_STATUS_state zldFAILED).set F.ZLD_PROGRESS_bytes s.draw.1).commitRefused s.sessionPort e).fireAll 1

/-- The state after a FETCH that ended. -/
def State.fetchEnd (s : State) (img : ImageFile) : State :=
  match s.checkImage s.sessionPort img with
  | some e => s.fetchFailed e
  | none => s.fetchVerified img

theorem exec_fetchDone : exec .fetchDone s = execFetchDone s := rfl

theorem run_fetchDone {P : State → Prop} (hp : s.powered = true) (hi : s.zld.image = some img)
    (hs : s.zldState = zldFETCHING) (hP : ∀ t, t.Same (s.fetchEnd img).driveOutputs → P t) :
    ∃ t, exec .fetchDone s = .next t ∧ P t := by
  rw [exec_fetchDone, execFetchDone]
  refine run_answers_of_effect hp ?_ hP
  simp only [hi, hs, bne_self_eq_false, Bool.false_eq_true, if_false]
  rfl

theorem fetchEnd_of_none (hc : s.checkImage s.sessionPort img = none) : s.fetchEnd img = s.fetchVerified img := by
  simp [State.fetchEnd, hc]

theorem fetchEnd_of_some (hc : s.checkImage s.sessionPort img = some e) : s.fetchEnd img = s.fetchFailed e := by
  simp [State.fetchEnd, hc]

section SlotWrite
variable {v : Option ImageFile}

theorem slotWrite_frame_self : Frame State.slotWrite_mask s (s.slotWrite img v) :=
  State.slotWrite_frame (Within.refl _) (Frame.refl _ s)

@[simp] theorem slotWrite_zld : (s.slotWrite img v).zld = s.zld := slotWrite_frame_self.zld rfl
@[simp] theorem slotWrite_keep : (s.slotWrite img v).keep = s.keep := slotWrite_frame_self.keep rfl
@[simp] theorem slotWrite_cfg : (s.slotWrite img v).cfg = s.cfg := slotWrite_frame_self.cfg rfl

end SlotWrite

theorem fetchDone_verified (hp : s.powered = true) (hi : s.zld.image = some img) (hs : s.zldState = zldFETCHING)
    (hc : s.checkImage s.sessionPort img = none) : ∃ t, exec .fetchDone s = .next t ∧ t.zldState = zldVERIFIED ∧
      t.flash = (s.slotWrite img (some img)).flash ∧ t.get (F.ZLD_RESULT_code s.sessionPort) = 0 ∧
      t.cfg = s.cfg ∧ t.keep = s.keep ∧ t.zld = s.zld := by
  refine run_fetchDone hp hi hs fun t ht => ?_
  rw [fetchEnd_of_none hc] at ht
  refine
    ⟨ht.zldState_driven.trans ?state, ht.flash_driven.trans (by simp [State.fetchVerified]), ht.zldResult_driven.trans ?result,
      ht.cfg_driven.trans (by simp [State.fetchVerified]), ht.keep_driven.trans (by simp [State.fetchVerified]),
      ht.zld_driven.trans (by simp [State.fetchVerified])⟩
  case state =>
    rw [State.fetchVerified, zldState_fireAll, zldState_zldResult, zldState_set_kind (by simp), zldState_set (by decide)]
  case result => exact get_fireAll_result.trans (zldResult_code.trans (Nat.zero_mod _))

theorem fetchDone_failed (hp : s.powered = true) (hi : s.zld.image = some img) (hs : s.zldState = zldFETCHING)
    (hc : s.checkImage s.sessionPort img = some e) : ∃ t, exec .fetchDone s = .next t ∧ t.zldState = zldFAILED ∧
      t.zld = s.zld ∧ t.get (F.ZLD_RESULT_code s.sessionPort) = e.code % 2 ^ 16 ∧
      t.cfg = s.cfg ∧ t.keep = s.keep ∧ t.flash = s.flash := by
  refine run_fetchDone hp hi hs fun t ht => ?_
  rw [fetchEnd_of_some hc] at ht
  refine
    ⟨ht.zldState_driven.trans ?state, ht.zld_driven.trans ?zld, ht.zldResult_driven.trans ?result,
      ht.cfg_driven.trans ?cfg, ht.keep_driven.trans ?keep, ht.flash_driven.trans ?flash⟩
  case state =>
    rw [State.fetchFailed, zldState_fireAll, State.commitRefused, zldState_zldResult, zldState_raise,
      zldState_set_kind (by simp), zldState_set (by decide)]
  case result => exact get_fireAll_result.trans zldResult_code
  all_goals simp [State.fetchFailed, State.commitRefused, State.draw]

/-! ### The end of a session (R57) -/

/-- The slot that the session's image would take is marked empty: the inactive FULL slot where no image was read. -/
def State.clearSlot (s : State) : State :=
  match s.zld.image with
  | some img => s.slotWrite img none
  | none => s.emptyFull

theorem clearSlot_frame_self : Frame State.slotWrite_mask s s.clearSlot := by
  unfold State.clearSlot
  split
  · exact slotWrite_frame_self
  · exact State.emptyFull_frame (Within.refl _) (Frame.refl _ s)

theorem clearSlot_of_image (hi : s.zld.image = some img) : s.clearSlot = s.slotWrite img none := by
  simp [State.clearSlot, hi]

theorem clearSlot_of_none (hi : s.zld.image = none) : s.clearSlot = s.emptyFull := by simp [State.clearSlot, hi]

theorem zldEnd_eq {cause : Nat} (hs : s.zldState ≠ zldIDLE) : s.zldEnd cause =
    ((({ s.clearSlot with zld := { s.clearSlot.zld with image := none } }).set F.ZLD_STATUS_state zldIDLE).set
      F.ZLD_STATUS_session_port 0).raise Code.ZLD_ABORTED [s.get F.ZLD_STATUS_session_port, cause] :=
  if_neg (by simpa using hs)

/-- From `s` to `t` the session ended with ZLD_ABORTED: its slot is empty, and the running image, the keep store and the armed
sections stay. -/
structure State.AbortedLoad (s t : State) (cause : Nat) : Prop where
  zldState : t.zldState = zldIDLE
  image : t.zld.image = none
  wrote : t.wrote Code.ZLD_ABORTED [s.get F.ZLD_STATUS_session_port, cause]
  flash : t.flash = s.clearSlot.flash
  cfg : t.cfg = s.cfg
  keep : t.keep = s.keep
  armed : t.zld.armed = s.zld.armed

theorem zldEnd_aborts {cause : Nat} (hs : s.zldState ≠ zldIDLE) : s.AbortedLoad (s.zldEnd cause) cause := by
  rw [zldEnd_eq hs]
  have hframe := clearSlot_frame_self (s := s)
  exact
    { zldState := by rw [zldState_raise, zldState_set_sessionPort, zldState_set (by decide)]
      image := by simp
      wrote := raise_wrote
      flash := by simp
      cfg := by simp [hframe.cfg rfl]
      keep := by simp [hframe.keep rfl]
      armed := by simp [hframe.zld rfl] }

/-- What follows the end of the session in a command touches only ZLD_RESULT, the outputs and the waiting commands. -/
theorem State.AbortedLoad.of_same {cause : Nat} (h : s.AbortedLoad u cause) (hz : t.zld = u.zld) (hst : t.zldState = u.zldState)
    (hr : t.recorder = u.recorder) (hf : t.flash = u.flash) (hc : t.cfg = u.cfg) (hk : t.keep = u.keep) :
    s.AbortedLoad t cause where
  zldState := hst.trans h.zldState
  image := by rw [hz, h.image]
  wrote := wrote_of_recorder hr h.wrote
  flash := hf.trans h.flash
  cfg := hc.trans h.cfg
  keep := hk.trans h.keep
  armed := by rw [hz, h.armed]

theorem State.AbortedLoad.driven {cause : Nat} (h : s.AbortedLoad u cause) (ht : t.Same u.driveOutputs) :
    s.AbortedLoad t cause :=
  h.of_same ht.zld_driven ht.zldState_driven (ht.recorder.trans driveOutputs_recorder) ht.flash_driven ht.cfg_driven
    ht.keep_driven

theorem State.AbortedLoad.zldResult {cause code sec item : Nat} (h : s.AbortedLoad u cause) :
    s.AbortedLoad (u.zldResult i code sec item) cause :=
  h.of_same zldResult_zld zldState_zldResult zldResult_recorder zldResult_flash zldResult_cfg zldResult_keep

theorem State.AbortedLoad.flash_of_image {cause : Nat} (h : s.AbortedLoad t cause) (img : ImageFile)
    (hi : s.zld.image = some img) : t.flash = (s.slotWrite img none).flash := by
  rw [h.flash, clearSlot_of_image hi]

theorem State.AbortedLoad.flash_of_none {cause : Nat} (h : s.AbortedLoad t cause) (hi : s.zld.image = none) :
    t.flash = s.emptyFull.flash := by
  rw [h.flash, clearSlot_of_none hi]

theorem exec_abort : exec (.abort i) s = execAbort i s := rfl

theorem exec_zldSessionTimeout : exec .zldSessionTimeout s = s.run fun s => s.zldEnd 3 := rfl

theorem abort_ends (hp : s.powered = true) (hh : s.holdsSession i = true) :
    ∃ t, exec (.abort i) s = .next t ∧ s.AbortedLoad t 0 := by
  rw [exec_abort, execAbort]
  exact run_answers_of_effect hp (if_pos hh) fun t ht => (zldEnd_aborts (holdsSession_iff.mp hh).1).zldResult.driven ht

theorem abort_refused (hp : s.powered = true) (hh : s.holdsSession i = false) :
    ∃ t, exec (.abort i) s = .next t ∧ s.RefusedLoad t i Code.ZLD_BAD_COMMAND := by
  rw [exec_abort, execAbort]
  exact run_zldBad hp (if_neg (by simp [hh]))

theorem sessionTimeout_ends (hp : s.powered = true) (hs : s.zldState ≠ zldIDLE) :
    ∃ t, exec .zldSessionTimeout s = .next t ∧ s.AbortedLoad t 3 := by
  rw [exec_zldSessionTimeout]
  exact run_answers_of_effect hp rfl fun t ht => (zldEnd_aborts hs).driven ht

/-- Settles O6: each clause is a lemma above, at the command that it names. -/
theorem zldSession : Obligations.ZldSession := by
  unfold Obligations.ZldSession
  refine ⟨fun s i => open_idle, ?busy, fun s i img => fetch_open, ?badFetch, fun s img => fetchDone_verified,
    fun s img f => fetchDone_failed, ?abort, ?badAbort, ?timeout⟩
  case busy =>
    intro s i hp hs
    obtain ⟨t, ht, r⟩ := open_busy hp hs
    exact ⟨t, ht, r.zldState, r.zld, r.result⟩
  case badFetch =>
    intro s i img hp h
    obtain ⟨t, ht, r⟩ := fetch_refused hp h
    exact ⟨t, ht, r.zldState, r.zld, r.result⟩
  case abort =>
    intro s i hp hh
    obtain ⟨t, ht, a⟩ := abort_ends hp hh
    have hport := (holdsSession_iff.mp hh).2
    exact ⟨t, ht, a.zldState, a.image, hport ▸ a.wrote, a.flash_of_image, a.flash_of_none, a.cfg, a.keep, a.armed⟩
  case badAbort =>
    intro s i hp hh
    obtain ⟨t, ht, r⟩ := abort_refused hp hh
    exact ⟨t, ht, r.zldState, r.zld, r.result⟩
  case timeout =>
    intro s hp hs
    obtain ⟨t, ht, a⟩ := sessionTimeout_ends hp hs
    exact ⟨t, ht, a.zldState, a.image, a.wrote, a.flash_of_image, a.flash_of_none, a.cfg, a.keep, a.armed⟩

end Sys2Proof.Machine
end

section
/-! PROOFS. COMMIT (R51 to R53, R56, R58, R60): what each step of it leaves, a lemma for each outcome, and from them the
statements O7 and O54. -/

namespace Sys2Proof.Machine

variable {s t u : State} {i : Port} {img : ImageFile} {e : Failure}

/-! ### The lock and the upkeep ratchet (R52, R53) -/

section CheckLock
variable {st : StructureSec} {y : SafetySec}

/-- The lock and the ratchet bind a FULL image alone. -/
theorem checkLock_partial (hk : img.header.kind ≠ kindFULL) : s.checkLock img i = none :=
  if_pos (by simpa using hk)

/-- A refusal by the lock or by the ratchet has one of two codes. -/
theorem checkLock_code (h : s.checkLock img i = some e) :
    e.code = Code.ZLD_SAFETY_LOCKED ∨ e.code = Code.ZLD_RATCHET_EXHAUSTED := by
  unfold State.checkLock State.checkLockWith at h
  split at h
  · cases h
  · split at h
    · split at h
      · cases h; exact .inl rfl
      · split at h
        · cases h; exact .inr rfl
        · cases h
    · cases h

variable (hk : img.header.kind = kindFULL) (hst : img.structureSec = some st) (hy : img.safety = some y)
include hk hst hy

theorem checkLock_locked (hl : s.keep.lock = true) (hd : y.digest ≠ s.cfg.safety.digest) :
    ∃ e, s.checkLock img i = some e ∧ e.code = Code.ZLD_SAFETY_LOCKED := by
  simp [State.checkLock, State.checkLockWith, hk, hst, hy, hl, hd]

variable (hl : s.keep.lock = false ∨ y.digest = s.cfg.safety.digest)
include hl

theorem checkLock_unlocked : s.checkLock img i =
    if st.upkeep ≠ s.get F.ZLD_ACTIVE_upkeep_mode ∧ s.keep.upkeepLeft = 0 then
      some { code := Code.ZLD_RATCHET_EXHAUSTED, section_ := img.sectionAt secSTRUCTURE scopeMODULE, item := itemUPKEEP,
             params := [ratUPKEEP] }
    else none := by
  have hopen : (s.keep.lock && y.digest != s.cfg.safety.digest) = false := by
    rcases hl with h | h <;> simp [h]
  simp [State.checkLock, State.checkLockWith, hk, hst, hy, hopen]

theorem checkLock_none (hu : st.upkeep ≠ s.get F.ZLD_ACTIVE_upkeep_mode → s.keep.upkeepLeft ≠ 0) :
    s.checkLock img i = none :=
  (checkLock_unlocked hk hst hy hl).trans (if_neg (not_and.mpr hu))

theorem checkLock_exhausted (hu : st.upkeep ≠ s.get F.ZLD_ACTIVE_upkeep_mode) (h0 : s.keep.upkeepLeft = 0) :
    ∃ e, s.checkLock img i = some e ∧ e.code = Code.ZLD_RATCHET_EXHAUSTED :=
  ⟨_, (checkLock_unlocked hk hst hy hl).trans (if_pos ⟨hu, h0⟩), rfl⟩

end CheckLock

/-! ### The lock as the last check of a FETCH (R55) -/

/-- Where every earlier check passes, the lock and the ratchet decide. -/
theorem checkImage_of_passed (hf : img.checkFormat (s.get F.ZLD_SRC_LEN_bytes) = none) (hm : s.mayLoad i img = true)
    (hc : s.checkContent img i = none) : s.checkImage i img = s.checkLock img i := by
  simp [State.checkImage, hf, hm, hc]

/-- An image that the lock or the ratchet refuses fails some check. -/
theorem checkImage_fails (hl : s.checkLock img i = some e) : ∃ e', s.checkImage i img = some e' := by
  unfold State.checkImage
  split
  · exact ⟨_, rfl⟩
  · split
    · exact ⟨_, rfl⟩
    · split
      · exact ⟨_, rfl⟩
      · exact ⟨e, hl⟩

/-- An image that the lock or the ratchet refuses does not verify; the refusal is the answer where every earlier check passes. -/
theorem fetchDone_lockRefused (hp : s.powered = true) (hi : s.zld.image = some img) (hs : s.zldState = zldFETCHING)
    (hl : s.checkLock img s.sessionPort = some e) : ∃ t, exec .fetchDone s = .next t ∧ t.zldState = zldFAILED ∧
      t.keep = s.keep ∧ t.cfg = s.cfg ∧ t.flash = s.flash ∧ (img.checkFormat (s.get F.ZLD_SRC_LEN_bytes) = none →
        s.mayLoad s.sessionPort img = true → s.checkContent img s.sessionPort = none →
        t.get (F.ZLD_RESULT_code s.sessionPort) = e.code % 2 ^ 16) := by
  obtain ⟨e', he'⟩ := checkImage_fails hl
  obtain ⟨t, ht, hstate, -, hresult, hcfg, hkeep, hflash⟩ := fetchDone_failed hp hi hs he'
  refine ⟨t, ht, hstate, hkeep, hcfg, hflash, fun hformat hload hcontent => ?_⟩
  rw [checkImage_of_passed hformat hload hcontent, hl] at he'
  cases he'
  exact hresult

/-! ### Spending a ratchet step (R82) -/

section Spend
variable {n left : Nat} {f : Keep → Keep}

theorem showKeep_keep : s.showKeep.keep = s.keep :=
  (State.showKeep_frame (Within.refl _) (Frame.refl _ s)).keep rfl

@[simp] theorem spend_keep : (s.spend n left f).keep = f s.keep := raise_keep.trans showKeep_keep

theorem get_each_set_kind {g : Field} {h : Nat → Field} {v : Nat → Nat} (hk : ∀ k, regKind g.key ≠ regKind (h k).key) :
    ∀ (l : List Nat) (s : State), (s.each l fun s k => s.set (h k) (v k)).get g = s.get g
  | [], _ => rfl
  | k :: l, _ => (get_each_set_kind hk l _).trans (State.get_set_kind (hk k))

/-- The running mode stands in ZLD_ACTIVE beside the field written. -/
theorem upkeepMode_set_beside {g : Field} {v : Nat} (hk : F.ZLD_ACTIVE_upkeep_mode.key = g.key) (hlo : g.lo + g.width ≤ 18) :
    (s.set g v).get F.ZLD_ACTIVE_upkeep_mode = s.get F.ZLD_ACTIVE_upkeep_mode :=
  State.get_set_field hk (.inr hlo) (by decide)

/-- The keep store shows its epoch and its upkeep steps in ZLD_ACTIVE, beside the running mode. -/
theorem showKeep_upkeepMode : s.showKeep.get F.ZLD_ACTIVE_upkeep_mode = s.get F.ZLD_ACTIVE_upkeep_mode := by
  have hepoch : ∀ (u : State) v, (u.set F.ZLD_ACTIVE_epoch v).get F.ZLD_ACTIVE_upkeep_mode = u.get F.ZLD_ACTIVE_upkeep_mode :=
    fun _ _ => upkeepMode_set_beside rfl (by decide)
  have hleft : ∀ (u : State) v, (u.set F.ZLD_ACTIVE_upkeep_left v).get F.ZLD_ACTIVE_upkeep_mode =
      u.get F.ZLD_ACTIVE_upkeep_mode := fun _ _ => upkeepMode_set_beside rfl (by decide)
  simp only [State.showKeep, State.setB]
  rw [get_each_set_kind (by simp)]
  simp [State.get_set_kind, hepoch, hleft]

theorem spend_upkeepMode : (s.spend n left f).get F.ZLD_ACTIVE_upkeep_mode = s.get F.ZLD_ACTIVE_upkeep_mode :=
  (get_raise (by decide)).trans showKeep_upkeepMode

end Spend

/-! ### The session while a committed image is armed (R59 to R61) -/

/-- The session stands in `t` as in `u`. -/
structure State.SameSession (t u : State) : Prop where
  state : t.zldState = u.zldState
  image : t.zld.image = u.zld.image

theorem State.SameSession.refl (s : State) : s.SameSession s := ⟨rfl, rfl⟩

theorem State.SameSession.trans (h : s.SameSession t) (k : t.SameSession u) : s.SameSession u :=
  ⟨h.state.trans k.state, h.image.trans k.image⟩

theorem each_sameSession {α : Type} {f : State → α → State} (h : ∀ s a, (f s a).SameSession s) :
    ∀ (l : List α) (s : State), (s.each l f).SameSession s
  | [], s => .refl s
  | a :: l, s => (each_sameSession h l (f s a)).trans (h s a)

theorem set_restartPending_sameSession {v : Nat} : (s.set F.ZLD_STATUS_restart_pending v).SameSession s :=
  ⟨zldState_set_restartPending, rfl⟩

theorem raise_sameSession {c : Nat} {ps : List Nat} : (s.raise c ps).SameSession s :=
  ⟨zldState_raise, by rw [raise_zld]⟩

theorem untake_sameSession {p : Nat} : (s.untake p).SameSession s :=
  have h := State.untake_frame (p := p) (Within.refl _) (Frame.refl _ s)
  ⟨h.get _ (by decide), by rw [h.zld rfl]⟩

theorem showArmed_sameSession : s.showArmed.SameSession s :=
  ⟨zldState_setB_fullArmed.trans zldState_set_armed, rfl⟩

/-- What is armed is no part of the session. -/
theorem armed_sameSession {l : List Armed} : State.SameSession { s with zld := { s.zld with armed := l } } s := ⟨rfl, rfl⟩

theorem arm_sameSession {a : Armed} : (s.arm a).SameSession s := showArmed_sameSession.trans armed_sameSession

theorem disarm_sameSession : s.disarm.SameSession s :=
  showArmed_sameSession.trans (armed_sameSession.trans (each_sameSession (fun _ _ => untake_sameSession) _ s))

theorem armPartial_sameSession {slot : Nat} : (s.armPartial img slot).SameSession s := by
  unfold State.armPartial
  refine arm_sameSession.trans ?_
  split
  · exact armed_sameSession.trans (untake_sameSession.trans raise_sameSession)
  · exact .refl s

theorem armFull_sameSession {y : SafetySec} : (s.armFull img y).SameSession s :=
  (each_sameSession (fun _ _ => arm_sameSession) _ _).trans
    (arm_sameSession.trans (set_restartPending_sameSession.trans disarm_sameSession))

theorem followCommit_sameSession {slot : Nat} : (s.followCommit img slot).SameSession s := by
  unfold State.followCommit
  split
  · split
    · exact armFull_sameSession
    · exact set_restartPending_sameSession.trans disarm_sameSession
  · split
    · exact armPartial_sameSession
    · exact set_restartPending_sameSession

theorem followCommit_keep {slot : Nat} : (s.followCommit img slot).keep = s.keep :=
  (State.followCommit_frame (Within.refl _) (Frame.refl _ s)).keep rfl

/-! ### The steps of an accepted COMMIT -/

/-- The upkeep mode that an image brings. -/
def imageUpkeep (img : ImageFile) : Nat := (img.structureSec.map (fun x => x.upkeep)).getD 0

/-- The epoch steps of the image are spent (R51). -/
def State.spendEpoch (s : State) (epoch : Nat) : State :=
  if epoch > s.keep.epoch then s.spend ratEPOCH (1023 - epoch) (fun k => { k with epoch := epoch }) else s

/-- The upkeep step of a FULL image of another mode is spent (R52). -/
def State.spendUpkeep (s : State) (img : ImageFile) : State :=
  if img.header.kind == kindFULL && imageUpkeep img != s.get F.ZLD_ACTIVE_upkeep_mode then
    s.spend ratUPKEEP (s.keep.upkeepLeft - 1) (fun k => { k with upkeepLeft := k.upkeepLeft - 1 })
  else s

/-- The commit record names the image (R58). -/
def State.recordCommit (s : State) (img : ImageFile) (slot : Nat) : State :=
  if img.header.kind == kindFULL then s.keepWrite recCOMMIT (fun k => { k with full := some (slot, img.digest), overlays := [] })
  else s.keepWrite recCOMMIT (fun k => { k with overlays := tput k.overlays img.part (slot, img.digest) })

/-- A FULL image empties the overlay slots; the session closes with ZLD_COMMITTED. -/
def State.closeSession (s : State) (img : ImageFile) : State :=
  let s := if img.header.kind == kindFULL then { s with flash := { s.flash with overlays := [] } } else s
  let s := s.raise Code.ZLD_COMMITTED [img.header.kind, img.header.epoch, img.header.build]
  (({ s with zld := { s.zld with image := none } }).set F.ZLD_STATUS_state zldIDLE).set F.ZLD_STATUS_session_port 0

/-- The keep store with the ratchets spent and the commit record written. -/
def State.commitKeep (s : State) (img : ImageFile) : State :=
  ((s.spendEpoch img.header.epoch).spendUpkeep img).recordCommit img (s.inactiveImageSlot img)

/-- What an accepted COMMIT of port `i` leaves. -/
def State.commitTaken (s : State) (i : Port) (img : ImageFile) : State :=
  ((((s.commitKeep img).closeSession img).followCommit img (s.inactiveImageSlot img)).zldResult i 0 0 0).fireAll 1

theorem spendEpoch_keep {n : Nat} : (s.spendEpoch n).keep = { s.keep with epoch := max s.keep.epoch n } := by
  unfold State.spendEpoch
  split
  · rw [spend_keep, Nat.max_eq_right (Nat.le_of_lt ‹_›)]
  · rw [Nat.max_eq_left (Nat.le_of_not_lt ‹_›)]

theorem spendEpoch_upkeepMode {n : Nat} : (s.spendEpoch n).get F.ZLD_ACTIVE_upkeep_mode = s.get F.ZLD_ACTIVE_upkeep_mode := by
  unfold State.spendEpoch
  split
  · exact spend_upkeepMode
  · rfl

theorem spendUpkeep_keep_full (hk : img.header.kind = kindFULL) : (s.spendUpkeep img).keep =
    { s.keep with upkeepLeft := if imageUpkeep img ≠ s.get F.ZLD_ACTIVE_upkeep_mode then s.keep.upkeepLeft - 1
                                else s.keep.upkeepLeft } := by
  by_cases hu : imageUpkeep img = s.get F.ZLD_ACTIVE_upkeep_mode <;> simp [State.spendUpkeep, hk, hu]

theorem spendUpkeep_partial (hk : img.header.kind ≠ kindFULL) : s.spendUpkeep img = s := by simp [State.spendUpkeep, hk]

theorem recordCommit_keep_full {slot : Nat} (hk : img.header.kind = kindFULL) :
    (s.recordCommit img slot).keep = { s.keep with full := some (slot, img.digest), overlays := [] } := by
  simp [State.recordCommit, hk, State.keepWrite]

theorem recordCommit_keep_partial {slot : Nat} (hk : img.header.kind ≠ kindFULL) :
    (s.recordCommit img slot).keep = { s.keep with overlays := tput s.keep.overlays img.part (slot, img.digest) } := by
  simp [State.recordCommit, hk, State.keepWrite]

theorem commitKeep_full (hk : img.header.kind = kindFULL) : (s.commitKeep img).keep =
    { s.keep with
      full := some (s.inactiveImageSlot img, img.digest)
      overlays := []
      epoch := max s.keep.epoch img.header.epoch
      upkeepLeft := if imageUpkeep img ≠ s.get F.ZLD_ACTIVE_upkeep_mode then s.keep.upkeepLeft - 1 else s.keep.upkeepLeft } := by
  rw [State.commitKeep, recordCommit_keep_full hk, spendUpkeep_keep_full hk, spendEpoch_upkeepMode, spendEpoch_keep]

theorem commitKeep_partial (hk : img.header.kind ≠ kindFULL) : (s.commitKeep img).keep =
    { s.keep with
      overlays := tput s.keep.overlays img.part (s.inactiveImageSlot img, img.digest)
      epoch := max s.keep.epoch img.header.epoch } := by
  rw [State.commitKeep, recordCommit_keep_partial hk, spendUpkeep_partial hk, spendEpoch_keep]

theorem closeSession_keep : (s.closeSession img).keep = s.keep := by
  unfold State.closeSession
  split <;> simp

theorem closeSession_state : (s.closeSession img).zldState = zldIDLE := by
  rw [State.closeSession, zldState_set_sessionPort, zldState_set (by decide)]

theorem closeSession_image : (s.closeSession img).zld.image = none := rfl

/-! ### The outcomes of COMMIT -/

theorem exec_commit : exec (.commit i) s = execCommit i s := rfl

/-- The image of the session is verified, and port `i` holds the session. -/
structure State.Committable (s : State) (i : Port) (img : ImageFile) : Prop where
  image : s.zld.image = some img
  holds : s.holdsSession i = true
  verified : s.zldState = zldVERIFIED

/-- An accepted COMMIT: the keep store stands as the steps above leave it, the session is closed, and the answer is 0. -/
structure State.CommittedLoad (s t : State) (i : Port) (img : ImageFile) : Prop where
  keep : t.keep = (s.commitKeep img).keep
  zldState : t.zldState = zldIDLE
  image : t.zld.image = none
  result : t.get (F.ZLD_RESULT_code i) = 0

/-- A PARTIAL that is armed stands in the way of a FULL image (R56). -/
def State.partialArmed (s : State) (img : ImageFile) : Bool :=
  img.header.kind == kindFULL && s.zld.armed.any (fun a => a.partial_)

theorem partialArmed_false (h : img.header.kind = kindFULL → ∀ a ∈ s.zld.armed, a.partial_ = false) :
    s.partialArmed img = false := by
  by_cases hk : img.header.kind = kindFULL
  · simpa [State.partialArmed, hk] using h hk
  · simp [State.partialArmed, hk]

theorem partialArmed_true (hk : img.header.kind = kindFULL) (h : ∃ a ∈ s.zld.armed, a.partial_ = true) :
    s.partialArmed img = true := by
  simpa [State.partialArmed, hk] using h

theorem commit_bad (hp : s.powered = true)
    (h : s.zld.image = none ∨ s.holdsSession i = false ∨ s.zldState ≠ zldVERIFIED) :
    ∃ t, exec (.commit i) s = .next t ∧ s.RefusedLoad t i Code.ZLD_BAD_COMMAND := by
  rw [exec_commit, execCommit]
  refine run_zldBad (cmd := 3) hp ?_
  cases hi : s.zld.image with
  | none => rfl
  | some img => exact if_pos (by simpa [hi] using h)

section Committable
variable (hp : s.powered = true) (hs : s.Committable i img)
include hp hs

theorem commit_busy (ha : s.partialArmed img = true) :
    ∃ t, exec (.commit i) s = .next t ∧ s.RefusedLoad t i Code.ZLD_BUSY := by
  rw [exec_commit, execCommit]
  refine run_zldBusy hp ?_
  simp only [hs.image]
  exact (if_neg (by simp [hs.holds, hs.verified])).trans (if_pos ha)

variable (ha : s.partialArmed img = false)
include ha

theorem commit_refused (hc : s.checkLock img i = some e) :
    ∃ t, exec (.commit i) s = .next t ∧ s.RefusedLoad t i (e.code % 2 ^ 16) := by
  rw [exec_commit, execCommit]
  refine run_refusedLoad (e := e) hp ?_ rfl
  simp only [hs.image]
  refine (if_neg (by simp [hs.holds, hs.verified])).trans ((if_neg (Bool.eq_false_iff.mp ha)).trans ?_)
  simp only [hc]

theorem commit_taken (hc : s.checkLock img i = none) :
    ∃ t, exec (.commit i) s = .next t ∧ s.CommittedLoad t i img := by
  rw [exec_commit, execCommit]
  refine run_answers_of_effect (u := s.commitTaken i img) hp ?effect fun t ht => ?_
  case effect =>
    simp only [hs.image]
    refine (if_neg (by simp [hs.holds, hs.verified])).trans ((if_neg (Bool.eq_false_iff.mp ha)).trans ?_)
    simp only [hc]
    rfl
  have hsession := followCommit_sameSession (s := (s.commitKeep img).closeSession img) (img := img)
    (slot := s.inactiveImageSlot img)
  exact
    { keep := ht.keep_driven.trans (by
        rw [State.commitTaken, fireAll_keep, zldResult_keep, followCommit_keep, closeSession_keep])
      zldState := ht.zldState_driven.trans (by
        rw [State.commitTaken, zldState_fireAll, zldState_zldResult, hsession.state, closeSession_state])
      image := by
        rw [ht.zld_driven, State.commitTaken, fireAll_zld, zldResult_zld, hsession.image, closeSession_image]
      result := ht.zldResult_driven.trans (get_fireAll_result.trans (zldResult_code.trans (Nat.zero_mod _))) }

end Committable

/-- Settles O7: each clause is an outcome of COMMIT above. -/
theorem zldCommit : Obligations.ZldCommit := by
  unfold Obligations.ZldCommit
  refine ⟨?full, ?partial_, ?busy, ?refused, ?bad⟩
  case full =>
    intro s i img hp hi hh hv hk ha hc
    obtain ⟨t, ht, r⟩ := commit_taken hp ⟨hi, hh, hv⟩ (partialArmed_false fun _ => ha) hc
    have hkeep := r.keep.trans (commitKeep_full hk)
    exact ⟨t, ht, by rw [hkeep], by rw [hkeep], by rw [hkeep], congrArg Keep.upkeepLeft hkeep, by rw [hkeep],
      by rw [hkeep], r.zldState, r.image, r.result⟩
  case partial_ =>
    intro s i img hp hi hh hv hk
    obtain ⟨t, ht, r⟩ := commit_taken hp ⟨hi, hh, hv⟩ (partialArmed_false fun h => absurd h hk) (checkLock_partial hk)
    have hkeep := r.keep.trans (commitKeep_partial hk)
    exact ⟨t, ht, by rw [hkeep]; exact tfind_tput_self _ _ _, by rw [hkeep], by rw [hkeep], by rw [hkeep],
      r.zldState, r.image, r.result⟩
  case busy =>
    intro s i img hp hi hh hv hk ha
    obtain ⟨t, ht, r⟩ := commit_busy hp ⟨hi, hh, hv⟩ (partialArmed_true hk ha)
    exact ⟨t, ht, r.keep, r.cfg, r.zld, r.zldState, r.result⟩
  case refused =>
    intro s i img e hp hi hh hv ha hc
    obtain ⟨t, ht, r⟩ := commit_refused hp ⟨hi, hh, hv⟩ (partialArmed_false ha) hc
    refine ⟨t, ht, r.keep, r.cfg, r.zld, r.zldState, (checkLock_code hc).imp (fun h => ?_) fun h => ?_⟩
    · rw [r.result, h]; decide
    · rw [r.result, h]; decide
  case bad =>
    intro s i hp h
    obtain ⟨t, ht, r⟩ := commit_bad hp h
    exact ⟨t, ht, r.keep, r.cfg, r.zld, r.zldState, r.result⟩

/-- Settles O54: the outcome of COMMIT, and of FETCH_DONE, as the lock and the ratchet stand. -/
theorem lockAndUpkeepStep : Obligations.LockAndUpkeepStep := by
  unfold Obligations.LockAndUpkeepStep
  refine ⟨?spends, ?keeps, ?exhausted, ?locked, ?unverified⟩
  case spends =>
    intro s i img st y hp hi hh hv hk ha hst hy hl hu h0
    obtain ⟨t, ht, r⟩ := commit_taken hp ⟨hi, hh, hv⟩ (partialArmed_false fun _ => ha)
      (checkLock_none hk hst hy hl fun _ => h0)
    have hkeep := r.keep.trans (commitKeep_full hk)
    refine ⟨t, ht, by rw [hkeep], ?_, r.zldState, r.result⟩
    rw [hkeep]
    exact if_pos (by simpa [imageUpkeep, hst] using hu)
  case keeps =>
    intro s i img st y hp hi hh hv hk ha hst hy hl hu
    obtain ⟨t, ht, r⟩ := commit_taken hp ⟨hi, hh, hv⟩ (partialArmed_false fun _ => ha)
      (checkLock_none hk hst hy hl fun h => absurd hu h)
    have hkeep := r.keep.trans (commitKeep_full hk)
    refine ⟨t, ht, by rw [hkeep], ?_, r.zldState⟩
    rw [hkeep]
    exact if_neg (by simpa [imageUpkeep, hst] using hu)
  case exhausted =>
    intro s i img st y hp hi hh hv hk ha hst hy hl hu h0
    obtain ⟨e, hc, hcode⟩ := checkLock_exhausted (i := i) hk hst hy hl hu h0
    obtain ⟨t, ht, r⟩ := commit_refused hp ⟨hi, hh, hv⟩ (partialArmed_false fun _ => ha) hc
    exact ⟨t, ht, r.keep, r.cfg, r.zld, r.zldState, by rw [r.result, hcode]; decide⟩
  case locked =>
    intro s i img st y hp hi hh hv hk hst hy hl hd
    cases ha : s.partialArmed img with
    | true =>
      obtain ⟨t, ht, r⟩ := commit_busy hp ⟨hi, hh, hv⟩ ha
      exact ⟨t, ht, r.keep, r.cfg, r.zld, r.zldState, fun h => by
        rw [partialArmed_false fun _ => h] at ha; cases ha⟩
    | false =>
      obtain ⟨e, hc, hcode⟩ := checkLock_locked (i := i) hk hst hy hl hd
      obtain ⟨t, ht, r⟩ := commit_refused hp ⟨hi, hh, hv⟩ ha hc
      exact ⟨t, ht, r.keep, r.cfg, r.zld, r.zldState, fun _ => by rw [r.result, hcode]; decide⟩
  case unverified =>
    intro s img st y i hp hi hv hport hk hst hy hl hd
    obtain rfl : i = s.sessionPort := hport
    obtain ⟨e, hc, hcode⟩ := checkLock_locked (i := s.sessionPort) hk hst hy hl hd
    obtain ⟨t, ht, hstate, hkeep, hcfg, hflash, hresult⟩ := fetchDone_lockRefused hp hi hv hc
    exact ⟨t, ht, hstate, hkeep, hcfg, hflash, fun hformat hload hcontent => by
      rw [hresult hformat hload hcontent, hcode]; decide⟩

end Sys2Proof.Machine
end

section
/-! PROOFS. The ratchets (R51, R82): every command is framed, hence so is every step, and a frame gives back no ratchet step; from
them the statement O52. -/

namespace Sys2Proof.Machine

variable {s t : State}

/-- Every command differs from its state in some set of areas alone, and so keeps what every frame keeps: the variant, the waiting
commands, the canonical forms, and that no ratchet gains a step. -/
theorem exec_frame {c : Instr} (h : exec c s = .next t) : ∃ W, Frame W s t := by
  cases c with
  | powerUp => exact ⟨_, execPowerUp_frame h⟩
  | supplyDip => exact ⟨_, execSupplyDip_frame h⟩
  | brownOut => exact ⟨_, execBrownOut_frame h⟩
  | overVoltage => exact ⟨_, execOverVoltage_frame h⟩
  | overvoltageRestart => exact ⟨_, execOvervoltageRestart_frame h⟩
  | fieldSupplyLow => exact ⟨_, execFieldSupplyLow_frame h⟩
  | fieldSupplyReturn => exact ⟨_, execFieldSupplyReturn_frame h⟩
  | groupSupplyLow => exact ⟨_, execGroupSupplyLow_frame h⟩
  | encSupplyFault => exact ⟨_, execEncSupplyFault_frame h⟩
  | coolantOutOfRange => exact ⟨_, execCoolantOutOfRange_frame h⟩
  | derated => exact ⟨_, execDerated_frame h⟩
  | derateGrow => exact ⟨_, execDerateGrow_frame h⟩
  | derateShorten => exact ⟨_, execDerateShorten_frame h⟩
  | thermalShutdown => exact ⟨_, execThermalShutdown_frame h⟩
  | thermalConditionCleared => exact ⟨_, execThermalConditionCleared_frame h⟩
  | cageChange => exact ⟨_, execCageChange_frame h⟩
  | serviceSession => exact ⟨_, execServiceSession_frame h⟩
  | consoleFirmwareLoad => exact ⟨_, execConsoleFirmwareLoad_frame h⟩
  | locateWrite => exact ⟨_, execLocateWrite_frame h⟩
  | boardTelemetryRefresh => exact ⟨_, execBoardTelemetryRefresh_frame h⟩
  | openLoad => exact ⟨_, execOpen_frame h⟩
  | fetch => exact ⟨_, execFetch_frame h⟩
  | fetchDone => exact ⟨_, execFetchDone_frame h⟩
  | commit => exact ⟨_, execCommit_frame h⟩
  | abort => exact ⟨_, execAbort_frame h⟩
  | zldSessionTimeout => exact ⟨_, execZldSessionTimeout_frame h⟩
  | restart => exact ⟨_, execRestart_frame h⟩
  | reloadTimeout => exact ⟨_, execReloadTimeout_frame h⟩
  | opSecondsSave => exact ⟨_, execOpSecondsSave_frame h⟩
  | getIdentity => exact ⟨_, execGetIdentity_frame h⟩
  | getMeasurements => exact ⟨_, execGetMeasurements_frame h⟩
  | attest => exact ⟨_, execAttest_frame h⟩
  | ownerChallenge => exact ⟨_, execOwnerChallenge_frame h⟩
  | ownerProve => exact ⟨_, execOwnerProve_frame h⟩
  | ownerClaim => exact ⟨_, execOwnerClaim_frame h⟩
  | ownerTransfer => exact ⟨_, execOwnerTransfer_frame h⟩
  | ownerSetSigners => exact ⟨_, execOwnerSetSigners_frame h⟩
  | getRatchets => exact ⟨_, execGetRatchets_frame h⟩
  | doeAbort => exact ⟨_, execDoeAbort_frame h⟩
  | challengeExpired => exact ⟨_, execChallengeExpired_frame h⟩
  | periodBoundary => exact ⟨_, execPeriodBoundary_frame h⟩
  | paceMiss => exact ⟨_, execPaceMiss_frame h⟩
  | slackWindow => exact ⟨_, execSlackWindow_frame h⟩
  | slackLogWrite => exact ⟨_, execSlackLogWrite_frame h⟩
  | planEvaluation => exact ⟨_, execPlanEvaluation_frame h⟩
  | openWindow => exact ⟨_, execOpenWindow_frame h⟩
  | closeWindow => exact ⟨_, execCloseWindow_frame h⟩
  | planWindowExpired => exact ⟨_, execPlanWindowExpired_frame h⟩
  | hubfwLoad => exact ⟨_, execHubfwLoad_frame h⟩
  | hubfwVerified => exact ⟨_, execHubfwVerified_frame h⟩
  | handover => exact ⟨_, execHandover_frame h⟩
  | handoverDone => exact ⟨_, execHandoverDone_frame h⟩
  | confirm => exact ⟨_, execConfirm_frame h⟩
  | hubfwAbort => exact ⟨_, execHubfwAbort_frame h⟩
  | standbyExpired => exact ⟨_, execStandbyExpired_frame h⟩
  | handoverFailed => exact ⟨_, execHandoverFailed_frame h⟩
  | coreHang => exact ⟨_, execCoreHang_frame h⟩
  | detourRequest => exact ⟨_, execDetourRequest_frame h⟩
  | fenceClear => exact ⟨_, execFenceClear_frame h⟩
  | nop => exact ⟨_, execNop_frame h⟩
  | mload => exact ⟨_, execMload_frame h⟩
  | mswap => exact ⟨_, execMswap_frame h⟩
  | mma => exact ⟨_, execMma_frame h⟩
  | aclr => exact ⟨_, execAclr_frame h⟩
  | abias => exact ⟨_, execAbias_frame h⟩
  | ascale => exact ⟨_, execAscale_frame h⟩
  | adrain => exact ⟨_, execAdrain_frame h⟩
  | asave => exact ⟨_, execAsave_frame h⟩
  | arestore => exact ⟨_, execArestore_frame h⟩
  | vadd => exact ⟨_, execVadd_frame h⟩
  | vsub => exact ⟨_, execVsub_frame h⟩
  | vmul => exact ⟨_, execVmul_frame h⟩
  | vfma => exact ⟨_, execVfma_frame h⟩
  | vdiv => exact ⟨_, execVdiv_frame h⟩
  | vmin => exact ⟨_, execVmin_frame h⟩
  | vmax => exact ⟨_, execVmax_frame h⟩
  | vabs => exact ⟨_, execVabs_frame h⟩
  | vneg => exact ⟨_, execVneg_frame h⟩
  | vcmp => exact ⟨_, execVcmp_frame h⟩
  | vsel => exact ⟨_, execVsel_frame h⟩
  | vcvt => exact ⟨_, execVcvt_frame h⟩
  | vlogic => exact ⟨_, execVlogic_frame h⟩
  | vshift => exact ⟨_, execVshift_frame h⟩
  | vadds => exact ⟨_, execVadds_frame h⟩
  | vsubs => exact ⟨_, execVsubs_frame h⟩
  | vfunc => exact ⟨_, execVfunc_frame h⟩
  | vred => exact ⟨_, execVred_frame h⟩
  | vasum => exact ⟨_, execVasum_frame h⟩
  | vmov => exact ⟨_, execVmov_frame h⟩
  | add => exact ⟨_, execAdd_frame h⟩
  | sub => exact ⟨_, execSub_frame h⟩
  | mul => exact ⟨_, execMul_frame h⟩
  | and => exact ⟨_, execAnd_frame h⟩
  | or => exact ⟨_, execOr_frame h⟩
  | xor => exact ⟨_, execXor_frame h⟩
  | shl => exact ⟨_, execShl_frame h⟩
  | shr => exact ⟨_, execShr_frame h⟩
  | sar => exact ⟨_, execSar_frame h⟩
  | slt => exact ⟨_, execSlt_frame h⟩
  | ldi => exact ⟨_, execLdi_frame h⟩
  | div => exact ⟨_, execDiv_frame h⟩
  | rem => exact ⟨_, execRem_frame h⟩
  | ld => exact ⟨_, execLd_frame h⟩
  | st => exact ⟨_, execSt_frame h⟩
  | fadd => exact ⟨_, execFadd_frame h⟩
  | fsub => exact ⟨_, execFsub_frame h⟩
  | fmul => exact ⟨_, execFmul_frame h⟩
  | ffma => exact ⟨_, execFfma_frame h⟩
  | fdiv => exact ⟨_, execFdiv_frame h⟩
  | fsqrt => exact ⟨_, execFsqrt_frame h⟩
  | fcvt => exact ⟨_, execFcvt_frame h⟩
  | rdv => exact ⟨_, execRdv_frame h⟩
  | loop => exact ⟨_, execLoop_frame h⟩
  | waitt => exact ⟨_, execWaitt_frame h⟩
  | waittComplete => exact ⟨_, execWaittComplete_frame h⟩
  | vergeTimeout => exact ⟨_, execVergeTimeout_frame h⟩
  | signal => exact ⟨_, execSignal_frame h⟩
  | transfer => exact ⟨_, execTransfer_frame h⟩
  | erun => exact ⟨_, execErun_frame h⟩
  | prun => exact ⟨_, execPrun_frame h⟩
  | edgeCallComplete => exact ⟨_, execEdgeCallComplete_frame h⟩
  | gatherKv => exact ⟨_, execGatherKv_frame h⟩
  | writeKv => exact ⟨_, execWriteKv_frame h⟩
  | walkCallComplete => exact ⟨_, execWalkCallComplete_frame h⟩
  | gather => exact ⟨_, execGather_frame h⟩
  | scatter => exact ⟨_, execScatter_frame h⟩
  | segred => exact ⟨_, execSegred_frame h⟩
  | scan => exact ⟨_, execScan_frame h⟩
  | compact => exact ⟨_, execCompact_frame h⟩
  | sort => exact ⟨_, execSort_frame h⟩
  | merge => exact ⟨_, execMerge_frame h⟩
  | topk => exact ⟨_, execTopk_frame h⟩
  | unique => exact ⟨_, execUnique_frame h⟩
  | label => exact ⟨_, execLabel_frame h⟩
  | graphCc => exact ⟨_, execGraphCc_frame h⟩
  | expand => exact ⟨_, execExpand_frame h⟩
  | irregCallComplete => exact ⟨_, execIrregCallComplete_frame h⟩
  | cappend => exact ⟨_, execCappend_frame h⟩
  | ccheck => exact ⟨_, execCcheck_frame h⟩
  | cstrip => exact ⟨_, execCstrip_frame h⟩
  | crange => exact ⟨_, execCrange_frame h⟩
  | ccompare => exact ⟨_, execCcompare_frame h⟩
  | checkCallComplete => exact ⟨_, execCheckCallComplete_frame h⟩
  | prefixRetire => exact ⟨_, execPrefixRetire_frame h⟩
  | seqEnd => exact ⟨_, execSeqEnd_frame h⟩
  | pageQuery => exact ⟨_, execPageQuery_frame h⟩
  | admitTemplate => exact ⟨_, execAdmit_frame h⟩
  | retire => exact ⟨_, execRetire_frame h⟩
  | setWeight => exact ⟨_, execSetWeight_frame h⟩
  | measureSolo => exact ⟨_, execMeasureSolo_frame h⟩
  | setQuota => exact ⟨_, execSetQuota_frame h⟩
  | setBandwidth => exact ⟨_, execSetBandwidth_frame h⟩
  | setWindow => exact ⟨_, execSetWindow_frame h⟩
  | buildStart => exact ⟨_, execBuildStart_frame h⟩
  | buildComplete => exact ⟨_, execBuildComplete_frame h⟩
  | legComplete => exact ⟨_, execLegComplete_frame h⟩
  | laneRetrain => exact ⟨_, execLaneRetrain_frame h⟩
  | laneLoop => exact ⟨_, execLaneLoop_frame h⟩
  | lanePrbs => exact ⟨_, execLanePrbs_frame h⟩
  | clearTest => exact ⟨_, execClearTest_frame h⟩
  | laneDisable => exact ⟨_, execLaneDisable_frame h⟩
  | laneEnable => exact ⟨_, execLaneEnable_frame h⟩
  | laneRefWaitDone => exact ⟨_, execLaneRefWaitDone_frame h⟩
  | blockLock => exact ⟨_, execBlockLock_frame h⟩
  | trainingWord => exact ⟨_, execTrainingWord_frame h⟩
  | laneUp => exact ⟨_, execLaneUp_frame h⟩
  | laneTrainTimeout => exact ⟨_, execLaneTrainTimeout_frame h⟩
  | laneTrainRetry => exact ⟨_, execLaneTrainRetry_frame h⟩
  | laneDown => exact ⟨_, execLaneDown_frame h⟩
  | retrainWaitExpired => exact ⟨_, execRetrainWaitExpired_frame h⟩
  | lineStart => exact ⟨_, execLineStart_frame h⟩
  | pixels => exact ⟨_, execPixels_frame h⟩
  | lineEnd => exact ⟨_, execLineEnd_frame h⟩
  | frameMark => exact ⟨_, execFrameMark_frame h⟩
  | ctrlResponse => exact ⟨_, execCtrlResponse_frame h⟩
  | headNak => exact ⟨_, execHeadNak_frame h⟩
  | headResync => exact ⟨_, execHeadResync_frame h⟩
  | nakTimeout => exact ⟨_, execNakTimeout_frame h⟩
  | laneCtrlTimeout => exact ⟨_, execLaneCtrlTimeout_frame h⟩
  | lineEntersChannel => exact ⟨_, execLineEntersChannel_frame h⟩
  | frameTimeout => exact ⟨_, execFrameTimeout_frame h⟩
  | paramLoad => exact ⟨_, execParamLoad_frame h⟩
  | paramLoadDone => exact ⟨_, execParamLoadDone_frame h⟩
  | paramCommit => exact ⟨_, execParamCommit_frame h⟩
  | paramDiscard => exact ⟨_, execParamDiscard_frame h⟩
  | contextRestart => exact ⟨_, execContextRestart_frame h⟩
  | goldenDue => exact ⟨_, execGoldenDue_frame h⟩
  | goldenRetry => exact ⟨_, execGoldenRetry_frame h⟩
  | goldenForced => exact ⟨_, execGoldenForced_frame h⟩
  | goldenComplete => exact ⟨_, execGoldenComplete_frame h⟩
  | ingestStart => exact ⟨_, execIngestStart_frame h⟩
  | ingestStop => exact ⟨_, execIngestStop_frame h⟩
  | setSeed => exact ⟨_, execSetSeed_frame h⟩
  | setEpoch => exact ⟨_, execSetEpoch_frame h⟩
  | ingestDoorbell => exact ⟨_, execIngestDoorbell_frame h⟩
  | descriptorRead => exact ⟨_, execDescriptorRead_frame h⟩
  | sampleComplete => exact ⟨_, execSampleComplete_frame h⟩
  | slotTimeout => exact ⟨_, execSlotTimeout_frame h⟩
  | countChange => exact ⟨_, execCountChange_frame h⟩
  | amplitudeLoss => exact ⟨_, execAmplitudeLoss_frame h⟩
  | indexPulse => exact ⟨_, execIndexPulse_frame h⟩
  | serialSample => exact ⟨_, execSerialSample_frame h⟩
  | serialFrameDone => exact ⟨_, execSerialFrameDone_frame h⟩
  | speedStandstill => exact ⟨_, execSpeedStandstill_frame h⟩
  | dividerTrigger => exact ⟨_, execDividerTrigger_frame h⟩
  | triggerRelease => exact ⟨_, execTriggerRelease_frame h⟩
  | pulseWidthEnd => exact ⟨_, execPulseWidthEnd_frame h⟩
  | arm => exact ⟨_, execArm_frame h⟩
  | milepostFire => exact ⟨_, execMilepostFire_frame h⟩
  | pulseStepEnd => exact ⟨_, execPulseStepEnd_frame h⟩
  | pulseMaxOn => exact ⟨_, execPulseMaxOn_frame h⟩
  | noVerdict => exact ⟨_, execNoVerdict_frame h⟩
  | clearFault => exact ⟨_, execClearFault_frame h⟩
  | fieldInputChange => exact ⟨_, execFieldInputChange_frame h⟩
  | fioOutSet => exact ⟨_, execFioOutSet_frame h⟩
  | fioOutClr => exact ⟨_, execFioOutClr_frame h⟩
  | outputClear => exact ⟨_, execOutputClear_frame h⟩
  | fioOutputFault => exact ⟨_, execFioOutputFault_frame h⟩
  | outputRetry => exact ⟨_, execOutputRetry_frame h⟩
  | sync => exact ⟨_, execSync_frame h⟩
  | followUp => exact ⟨_, execFollowUp_frame h⟩
  | delayReq => exact ⟨_, execDelayReq_frame h⟩
  | delayResp => exact ⟨_, execDelayResp_frame h⟩
  | announce => exact ⟨_, execAnnounce_frame h⟩
  | pdelayReq => exact ⟨_, execPdelayReq_frame h⟩
  | pdelayResp => exact ⟨_, execPdelayResp_frame h⟩
  | pdelayRespFollowUp => exact ⟨_, execPdelayRespFollowUp_frame h⟩
  | syncTransmit => exact ⟨_, execSyncTransmit_frame h⟩
  | announceTransmit => exact ⟨_, execAnnounceTransmit_frame h⟩
  | masterLost => exact ⟨_, execMasterLost_frame h⟩
  | nonPtpFrame => exact ⟨_, execNonPtpFrame_frame h⟩
  | step => exact ⟨_, execStep_frame h⟩
  | slew => exact ⟨_, execSlew_frame h⟩
  | startAt => exact ⟨_, execStartAt_frame h⟩
  | startCancel => exact ⟨_, execStartCancel_frame h⟩
  | launchRecord => exact ⟨_, execLaunchRecord_frame h⟩
  | frameLaunch => exact ⟨_, execFrameLaunch_frame h⟩
  | hello => exact ⟨_, execHello_frame h⟩
  | peerHelloRetry => exact ⟨_, execPeerHelloRetry_frame h⟩
  | peerDown => exact ⟨_, execPeerDown_frame h⟩
  | verge => exact ⟨_, execVerge_frame h⟩
  | seamCheckMissing => exact ⟨_, execSeamCheckMissing_frame h⟩
  | contrib => exact ⟨_, execContrib_frame h⟩
  | ack => exact ⟨_, execAck_frame h⟩
  | peerNak => exact ⟨_, execPeerNak_frame h⟩
  | reject => exact ⟨_, execReject_frame h⟩
  | credit => exact ⟨_, execCredit_frame h⟩
  | portReset => exact ⟨_, execPortReset_frame h⟩
  | linkUp => exact ⟨_, execLinkUp_frame h⟩
  | configRequest => exact ⟨_, execConfigRequest_frame h⟩
  | resultStateRead => exact ⟨_, execResultStateRead_frame h⟩
  | hostResAck => exact ⟨_, execHostResAck_frame h⟩
  | hostResCfgWrite => exact ⟨_, execHostResCfgWrite_frame h⟩
  | hostPushHead => exact ⟨_, execHostPushHead_frame h⟩
  | coalesceTimer => exact ⟨_, execCoalesceTimer_frame h⟩
  | hostSqTail => exact ⟨_, execHostSqTail_frame h⟩
  | copyIn => exact ⟨_, execCopyIn_frame h⟩
  | copyOut => exact ⟨_, execCopyOut_frame h⟩
  | release => exact ⟨_, execRelease_frame h⟩
  | bindWeights => exact ⟨_, execBindWeights_frame h⟩
  | weightsDigestDone => exact ⟨_, execWeightsDigestDone_frame h⟩
  | fence => exact ⟨_, execFence_frame h⟩
  | dmaTimeout => exact ⟨_, execDmaTimeout_frame h⟩
  | hostMboxPost => exact ⟨_, execHostMboxPost_frame h⟩
  | bar4Access => exact ⟨_, execBar4Access_frame h⟩
  | unmappedAccess => exact ⟨_, execUnmappedAccess_frame h⟩
  | verdictRecord => exact ⟨_, execVerdictRecord_frame h⟩
  | watchdogMiss => exact ⟨_, execWatchdogMiss_frame h⟩
  | lockstepMismatch => exact ⟨_, execLockstepMismatch_frame h⟩
  | testSlice => exact ⟨_, execTestSlice_frame h⟩
  | sliceOverrun => exact ⟨_, execSliceOverrun_frame h⟩
  | testOverdue => exact ⟨_, execTestOverdue_frame h⟩
  | contextNoReference => exact ⟨_, execContextNoReference_frame h⟩
  | checkerStartDone => exact ⟨_, execCheckerStartDone_frame h⟩
  | safeInputChange => exact ⟨_, execSafeInputChange_frame h⟩
  | safeInputDemand => exact ⟨_, execSafeInputDemand_frame h⟩
  | safeInputFault => exact ⟨_, execSafeInputFault_frame h⟩
  | testPulse => exact ⟨_, execTestPulse_frame h⟩
  | inputFaultRecovered => exact ⟨_, execInputFaultRecovered_frame h⟩
  | outputTest => exact ⟨_, execOutputTest_frame h⟩
  | safeReset => exact ⟨_, execSafeReset_frame h⟩
  | forceSafe => exact ⟨_, execForceSafe_frame h⟩
  | lock => exact ⟨_, execLock_frame h⟩
  | unlock => exact ⟨_, execUnlock_frame h⟩
  | safetyMessage => exact ⟨_, execSafetyMessage_frame h⟩
  | scrubRead => exact ⟨_, execScrubRead_frame h⟩
  | scrubWriteBack => exact ⟨_, execScrubWriteBack_frame h⟩
  | tripleVote => exact ⟨_, execTripleVote_frame h⟩
  | traceSet => exact ⟨_, execTraceSet_frame h⟩
  | captureClear => exact ⟨_, execCaptureClear_frame h⟩
  | waymarkWrite => exact ⟨_, execWaymarkWrite_frame h⟩
  | sectorErased => exact ⟨_, execSectorErased_frame h⟩
  | budgetRefill => exact ⟨_, execBudgetRefill_frame h⟩
  | bucketRefill => exact ⟨_, execBucketRefill_frame h⟩
  | waymarkSummary => exact ⟨_, execWaymarkSummary_frame h⟩
  | freeze => exact ⟨_, execFreeze_frame h⟩
  | thaw => exact ⟨_, execThaw_frame h⟩
  | freezeTimeout => exact ⟨_, execFreezeTimeout_frame h⟩
  | waymRead => exact ⟨_, execWaymRead_frame h⟩
  | snapshot => exact ⟨_, execSnapshot_frame h⟩
  | tagOn => exact ⟨_, execTagOn_frame h⟩
  | tagOff => exact ⟨_, execTagOff_frame h⟩
  | perfEventWrite => exact ⟨_, execPerfEventWrite_frame h⟩
  | bwWindowEnd => exact ⟨_, execBwWindowEnd_frame h⟩
  | apertureRead => exact ⟨_, execApertureRead_frame h⟩
  | lowWordRead => exact ⟨_, execLowWordRead_frame h⟩
  | rcRead => exact ⟨_, execRcRead_frame h⟩
  | registerWrite => exact ⟨_, execRegisterWrite_frame h⟩
  | metronomeUnlocked => exact ⟨_, execMetronomeUnlocked_frame h⟩
  | safeMsgLink => exact ⟨_, execSafeMsgLink_frame h⟩
  | dmaReadCompletion => exact ⟨_, execDmaReadCompletion_frame h⟩
  | hostSqCfgWrite => exact ⟨_, execHostSqCfgWrite_frame h⟩
  | safeInputDemandCleared => exact ⟨_, execSafeInputDemandCleared_frame h⟩
  | outputCooled => exact ⟨_, execOutputCooled_frame h⟩
  | encSupplyRestored => exact ⟨_, execEncSupplyRestored_frame h⟩
  | amplitudeReturn => exact ⟨_, execAmplitudeReturn_frame h⟩
  | delayReqTransmit => exact ⟨_, execDelayReqTransmit_frame h⟩
  | pdelayReqTransmit => exact ⟨_, execPdelayReqTransmit_frame h⟩

/-- No command gives back a ratchet step. -/
theorem exec_spent {c : Instr} (h : exec c s = .next t) : Keep.spent s.keep t.keep := by
  obtain ⟨_, hframe⟩ := exec_frame h
  exact hframe.spent

/-! ### A step while no command waits -/

/-- A word that comes to issue again runs as its command; what the streams hold is no part of the keep store. -/
theorem retryHead_spent {c k : Nat} (h : s.retryHead c k = some t) : Keep.spent s.keep t.keep := by
  unfold State.retryHead at h
  dsimp only at h
  split at h
  · cases h
  · split at h
    next u hu =>
      have hspent := exec_spent hu
      split at h
      · cases h
      · cases h
        exact hspent
    · cases h

theorem issueHeld_spent (h : s.issueHeld = some t) : Keep.spent s.keep t.keep := by
  obtain ⟨_, _, hretry⟩ := List.exists_of_findSome?_eq_some h
  exact retryHead_spent hretry

theorem idle_spent : Keep.spent s.keep s.idle.keep :=
  (State.idle_frame (Within.refl _) (Frame.refl _ s)).spent

theorem idleStep_spent : Keep.spent s.keep s.idleStep.keep := by
  unfold State.idleStep
  split
  · cases h : s.issueHeld with
    | none => exact idle_spent
    | some t => exact issueHeld_spent h
  · exact idle_spent

/-- A step runs the first waiting command; with none waiting a word issues or a sample passes. -/
theorem step_spent (h : step s = .next t) : Keep.spent s.keep t.keep := by
  unfold step at h
  split at h
  · cases h
    exact idleStep_spent
  · exact (exec_spent h :)

/-- Settles O52: a step is a command or an idle step, and each spends ratchet steps at most. -/
theorem ratchetsNeverGainAStep : Obligations.RatchetsNeverGainAStep := by
  unfold Obligations.RatchetsNeverGainAStep
  exact ⟨fun _ _ => step_spent, fun _ _ _ => exec_spent⟩

end Sys2Proof.Machine
end

section
/-! PROOFS. The requests of DOE (R81, R83, R89, R90): when a request is taken and how it is refused, what a response leaves, and
from them the statement O8. -/

namespace Sys2Proof.Machine

variable {s t u : State} {i : Port} {q : DoeHeader}

theorem State.Same.boot_driven (h : t.Same u.driveOutputs) : t.boot = u.boot := h.boot.trans driveOutputs_boot

/-! ### A response of a port -/

section Response
variable {code status req off : Nat} {body : List Byte}

@[simp] theorem doeAnswer_keep : (s.doeAnswer i code q body).keep = s.keep := rfl
@[simp] theorem doeAnswer_recorder : (s.doeAnswer i code q body).recorder = s.recorder := rfl
@[simp] theorem doeAnswer_proven : (s.doeAnswer i code q body).boot.proven = s.boot.proven := rfl
@[simp] theorem doeAnswer_challenge : (s.doeAnswer i code q body).boot.challenge = s.boot.challenge := rfl

/-- The response stands in the port's mailbox, with its header (R90). -/
theorem doeAnswer_response : tfind (s.doeAnswer i code q body).boot.doe i = some (doeResponse code q body) :=
  tfind_tput_self _ _ _

theorem doeError_eq : s.doeError i q status req = s.doeAnswer i doeERROR q (leBytes 2 status ++ leBytes 2 req) := rfl

theorem doeMalformed_eq : s.doeMalformed i q req off =
    (s.raise Code.KEEP_DOE_MALFORMED [i, off]).doeError i q Code.KEEP_DOE_MALFORMED req := rfl

theorem doeProofFail_eq : s.doeProofFail i q req =
    (s.raise Code.KEEP_PROOF_FAIL [i, req]).doeError i q Code.KEEP_PROOF_FAIL req := rfl

@[simp] theorem doeMalformed_keep : (s.doeMalformed i q req off).keep = s.keep := by
  rw [doeMalformed_eq, doeError_eq, doeAnswer_keep, raise_keep]

end Response

/-! ### Which requests are taken (R83, R90) -/

section Taken
variable {req len : Nat} {f : State → State}

theorem doe_taken (hcode : q.code.toNat = req) (hlen : q.length.toNat = len)
    (hid : s.get F.KEEP_STATUS_identity ≠ 2 ∨ req = doeGET_IDENTITY) : s.doe i q req len f = f s := by
  have hread : ¬ (s.get F.KEEP_STATUS_identity == 2 && req != doeGET_IDENTITY) = true := by
    rcases hid with hid | hid <;> simp [hid]
  exact (if_neg (by simp [hcode])).trans ((if_neg (by simp [hlen])).trans (if_neg hread))

theorem doe_wrongCode (hcode : q.code.toNat ≠ req) : s.doe i q req len f = s.doeMalformed i q q.code.toNat 0 :=
  if_pos (by simpa using hcode)

theorem doe_wrongLength (hcode : q.code.toNat = req) (hlen : q.length.toNat ≠ len) :
    s.doe i q req len f = s.doeMalformed i q req 2 :=
  (if_neg (by simp [hcode])).trans (if_pos (by simpa using hlen))

theorem doe_noIdentity (hcode : q.code.toNat = req) (hlen : q.length.toNat = len)
    (hid : s.get F.KEEP_STATUS_identity = 2) (hreq : req ≠ doeGET_IDENTITY) :
    s.doe i q req len f = s.doeError i q Code.KEEP_IDENTITY_FAIL req :=
  (if_neg (by simp [hcode])).trans ((if_neg (by simp [hlen])).trans (if_pos (by simp [hid, hreq])))

/-! ### The outcomes of a request that reads -/

/-- From `s` to `t` a request of port `i` was answered with the bytes `bs`, and the keep store stays. -/
structure State.DoeAnswered (s t : State) (i : Port) (bs : List Byte) : Prop where
  keep : t.keep = s.keep
  response : tfind t.boot.doe i = some bs

theorem Same_doeAnswered {code : Nat} {body : List Byte} (h : t.Same (u.doeAnswer i code q body).driveOutputs)
    (hkeep : u.keep = s.keep) : s.DoeAnswered t i (doeResponse code q body) where
  keep := h.keep_driven.trans (doeAnswer_keep.trans hkeep)
  response := by rw [h.boot_driven, doeAnswer_response]

variable (hp : s.powered = true)
include hp

theorem run_doe_answered {body : State → List Byte} (hcode : q.code.toNat = req) (hlen : q.length.toNat = len)
    (hid : s.get F.KEEP_STATUS_identity ≠ 2 ∨ req = doeGET_IDENTITY) :
    ∃ t, (s.run fun s => s.doe i q req len fun s => s.doeAnswer i req q (body s)) = .next t ∧
      s.DoeAnswered t i (doeResponse req q (body s)) :=
  run_answers_of_effect hp (doe_taken hcode hlen hid) fun _ ht => Same_doeAnswered ht rfl

/-- A malformed request is answered ERROR with its code, and written to the recorder with the offending byte (R90). -/
theorem run_doeMalformed {code off : Nat} {g : State → State} (hg : g s = s.doeMalformed i q code off) :
    ∃ t, s.run g = .next t ∧ s.DoeAnswered t i (doeFailure q Code.KEEP_DOE_MALFORMED code) ∧
      t.wrote Code.KEEP_DOE_MALFORMED [i, off] :=
  run_answers_of_effect hp (hg.trans (doeMalformed_eq.trans doeError_eq)) fun _ ht =>
    ⟨Same_doeAnswered ht raise_keep, ht.wrote_driven (wrote_of_recorder doeAnswer_recorder raise_wrote)⟩

theorem run_doe_wrongCode (hcode : q.code.toNat ≠ req) :
    ∃ t, (s.run fun s => s.doe i q req len f) = .next t ∧
      s.DoeAnswered t i (doeFailure q Code.KEEP_DOE_MALFORMED q.code.toNat) ∧ t.wrote Code.KEEP_DOE_MALFORMED [i, 0] :=
  run_doeMalformed hp (doe_wrongCode hcode)

theorem run_doe_wrongLength (hcode : q.code.toNat = req) (hlen : q.length.toNat ≠ len) :
    ∃ t, (s.run fun s => s.doe i q req len f) = .next t ∧
      s.DoeAnswered t i (doeFailure q Code.KEEP_DOE_MALFORMED req) ∧ t.wrote Code.KEEP_DOE_MALFORMED [i, 2] :=
  run_doeMalformed hp (doe_wrongLength hcode hlen)

theorem run_doe_noIdentity (hcode : q.code.toNat = req) (hlen : q.length.toNat = len)
    (hid : s.get F.KEEP_STATUS_identity = 2) (hreq : req ≠ doeGET_IDENTITY) :
    ∃ t, (s.run fun s => s.doe i q req len f) = .next t ∧ s.DoeAnswered t i (doeFailure q Code.KEEP_IDENTITY_FAIL req) :=
  run_answers_of_effect hp ((doe_noIdentity hcode hlen hid hreq).trans doeError_eq) fun _ ht => Same_doeAnswered ht rfl

end Taken

/-! ### The commands -/

theorem exec_opSecondsSave : exec .opSecondsSave s = s.run State.saveCounters := rfl

theorem exec_getIdentity : exec (.getIdentity i q) s = s.run fun s => s.doe i q doeGET_IDENTITY 0 fun s =>
    s.doeAnswer i doeGET_IDENTITY q s.identityRecord := rfl

theorem exec_getMeasurements : exec (.getMeasurements i q) s = s.run fun s => s.doe i q doeGET_MEASUREMENTS 0 fun s =>
    s.doeAnswer i doeGET_MEASUREMENTS q s.measurements := rfl

/-- What ATTEST answers: the measurement block, and the signature over domain, device, port, nonce and block (R89). -/
def State.attestation (s : State) (i : Port) (nonce : BitVec 256) : List Byte :=
  s.measurements ++ (List.range 4627).map (Config.signByte (BitVec.ofNat 512 (leNat (sha3_512
    (attestTag ++ leBytes 8 deviceId ++ leBytes 1 i ++ digestBytes nonce ++ s.measurements)))))

theorem exec_attest {nonce : BitVec 256} : exec (.attest i q nonce) s = s.run fun s => s.doe i q doeATTEST 32 fun s =>
    s.doeAnswer i doeATTEST q (s.attestation i nonce) := rfl

theorem exec_getRatchets : exec (.getRatchets i q) s = s.run fun s => s.doe i q doeRATCHETS 0 fun s =>
    s.doeAnswer i doeRATCHETS q s.ratchetBytes := rfl

theorem exec_doeAbort : exec (.doeAbort i) s = s.run fun s =>
    { s with boot := { s.boot with doe := tdel s.boot.doe i } } := rfl

/-- The counters are saved, and no other record (R81). -/
theorem opSecondsSave_keep (hp : s.powered = true) : ∃ t, exec .opSecondsSave s = .next t ∧
    t.keep = { s.keep with cycles := s.get F.KEEP_POWER_CYCLES_count, seconds := s.opSeconds } := by
  rw [exec_opSecondsSave]
  exact run_answers_of_effect hp rfl fun _ ht => ht.keep_driven

/-- The response of the port is taken away (R90). -/
theorem doeAbort_response (hp : s.powered = true) : ∃ t, exec (.doeAbort i) s = .next t ∧ tfind t.boot.doe i = none ∧
    t.keep = s.keep := by
  rw [exec_doeAbort]
  refine run_answers_of_effect hp rfl fun _ ht => ⟨?_, ht.keep_driven⟩
  rw [ht.boot_driven]
  exact tfind_tdel_self _ _

/-- Settles O8: each clause is an outcome of a request above. -/
theorem identityRequests : Obligations.IdentityRequests := by
  unfold Obligations.IdentityRequests
  refine ⟨?save, ?identity, ?measurements, ?attest, ?ratchets, ?identityLength, ?attestLength, ?noIdentity, ?wrongCode, ?abort⟩
  case save => exact fun s hp => opSecondsSave_keep hp
  case identity =>
    intro s i q hp hcode hlen
    obtain ⟨t, ht, r⟩ := run_doe_answered (body := State.identityRecord) hp hcode hlen (.inr rfl)
    exact ⟨t, exec_getIdentity.trans ht, r.response, r.keep⟩
  case measurements =>
    intro s i q hp hcode hlen hid
    obtain ⟨t, ht, r⟩ := run_doe_answered (body := State.measurements) hp hcode hlen (.inl hid)
    exact ⟨t, exec_getMeasurements.trans ht, r.response, r.keep⟩
  case attest =>
    intro s i q nonce hp hcode hlen hid
    obtain ⟨t, ht, r⟩ := run_doe_answered (body := fun s => s.attestation i nonce) hp hcode hlen (.inl hid)
    exact ⟨t, exec_attest.trans ht, r.keep, r.response⟩
  case ratchets =>
    intro s i q hp hcode hlen hid
    obtain ⟨t, ht, r⟩ := run_doe_answered (body := State.ratchetBytes) hp hcode hlen (.inl hid)
    exact ⟨t, exec_getRatchets.trans ht, r.response, r.keep⟩
  case identityLength =>
    intro s i q hp hcode hlen
    obtain ⟨t, ht, r, -⟩ := run_doe_wrongLength hp hcode hlen
    exact ⟨t, exec_getIdentity.trans ht, r.keep, r.response⟩
  case attestLength =>
    intro s i q nonce hp hcode hlen
    obtain ⟨t, ht, r, -⟩ := run_doe_wrongLength hp hcode hlen
    exact ⟨t, exec_attest.trans ht, r.keep, r.response⟩
  case noIdentity =>
    intro s i q hp hcode hlen hid
    obtain ⟨t, ht, r⟩ := run_doe_noIdentity hp hcode hlen hid (by decide)
    exact ⟨t, exec_getMeasurements.trans ht, r.keep, r.response⟩
  case wrongCode =>
    intro s i q hp hcode
    obtain ⟨t, ht, r, hwrote⟩ := run_doe_wrongCode hp hcode
    exact ⟨t, exec_getIdentity.trans ht, r.keep, hwrote, r.response⟩
  case abort => exact fun s i hp => doeAbort_response hp

end Sys2Proof.Machine
end

section
/-! PROOFS. Challenges and the owner record (R82, R84 to R86): what a challenge, a proof and a change of owner leave, when an
attempt is refused, and from them the statement O9. -/

namespace Sys2Proof.Machine

variable {s t u : State} {i : Port} {q : DoeHeader} {key : BitVec 512} {signers : List (BitVec 512)} {o : OwnerRec}

/-! ### The operations of an ownership message -/

@[simp] theorem voidChallenge_keep : (s.voidChallenge i).keep = s.keep := rfl
@[simp] theorem voidChallenge_proven : (s.voidChallenge i).boot.proven = s.boot.proven := rfl
@[simp] theorem voidChallenge_on {f : Field} : (s.voidChallenge i).on f = s.on f := rfl
@[simp] theorem voidChallenge_privileged {j : Port} : (s.voidChallenge i).privileged j = s.privileged j := rfl

/-- An attempt uses the port's challenge up (R85). -/
@[simp] theorem voidChallenge_challenge : tfind (s.voidChallenge i).boot.challenge i = none := tfind_tdel_self _ _

theorem factoryRoles_frame_self : Frame State.factoryRoles_mask s s.factoryRoles :=
  State.factoryRoles_frame (Within.refl _) (Frame.refl _ s)

@[simp] theorem factoryRoles_keep : s.factoryRoles.keep = s.keep := factoryRoles_frame_self.keep rfl
@[simp] theorem factoryRoles_boot : s.factoryRoles.boot = s.boot := factoryRoles_frame_self.boot rfl

theorem showKeep_boot : s.showKeep.boot = s.boot := (State.showKeep_frame (Within.refl _) (Frame.refl _ s)).boot rfl

section Refused
variable {req n off : Nat} {f : State → State}

@[simp] theorem doeProofFail_keep : (s.doeProofFail i q req).keep = s.keep := by
  rw [doeProofFail_eq, doeError_eq, doeAnswer_keep, raise_keep]

@[simp] theorem doeProofFail_proven : (s.doeProofFail i q req).boot.proven = s.boot.proven := by
  rw [doeProofFail_eq, doeError_eq, doeAnswer_proven, raise_boot]

@[simp] theorem doeProofFail_challenge : (s.doeProofFail i q req).boot.challenge = s.boot.challenge := by
  rw [doeProofFail_eq, doeError_eq, doeAnswer_challenge, raise_boot]

/-- A request keeps the keep store where its body does. -/
theorem doe_keep {len : Nat} (hf : (f s).keep = s.keep) : (s.doe i q req len f).keep = s.keep := by
  unfold State.doe
  split
  · exact doeMalformed_keep
  · split
    · exact doeMalformed_keep
    · split
      · rw [doeError_eq, doeAnswer_keep]
      · exact hf

theorem signerCount_keep (hf : (f s).keep = s.keep) : (s.signerCount i q req n off f).keep = s.keep := by
  unfold State.signerCount
  split
  · exact doeMalformed_keep
  · exact hf

/-- One to four signers are well-formed (R90). -/
theorem signerCount_taken (h1 : 1 ≤ n) (h4 : n ≤ 4) : s.signerCount i q req n off f = f s :=
  if_neg (by simp; omega)

/-- Without a step left nothing is spent (R82). -/
theorem ownerStep_empty (h : s.keep.ownerLeft = 0) : (s.ownerStep i q req f).keep = s.keep := by
  rw [State.ownerStep, if_pos h, doeError_eq, doeAnswer_keep, raise_keep]

/-- An attempt whose proof fails, or which finds no step left, keeps the keep store. -/
theorem attempt_keep {c : Prop} [Decidable c] (h : c ∨ s.keep.ownerLeft = 0) :
    (if c then s.doeProofFail i q req else s.ownerStep i q req f).keep = s.keep := by
  split
  · exact doeProofFail_keep
  · exact ownerStep_empty (h.resolve_left ‹_›)

end Refused

/-! ### A change of the owner record (R84, R85) -/

@[simp] theorem setOwner_keep : (s.setOwner o).keep = { s.keep with owner := some o } := by
  rw [State.setOwner, factoryRoles_keep, showKeep_keep]
  rfl

@[simp] theorem setOwner_proven : (s.setOwner o).boot.proven = [] := by
  rw [State.setOwner, factoryRoles_boot, showKeep_boot]

@[simp] theorem setOwner_challenge : (s.setOwner o).boot.challenge = [] := by
  rw [State.setOwner, factoryRoles_boot, showKeep_boot]

/-- `t` has the owner record `o`, in the keep store `k` as it stood before, and every proof and challenge is void. -/
structure State.HasNewOwner (t : State) (k : Keep) (o : OwnerRec) : Prop where
  keep : t.keep = { k with owner := some o }
  proven : t.boot.proven = []
  challenge : t.boot.challenge = []

/-- A change of owner is written to the recorder and answered. -/
theorem Same_hasNewOwner {c code : Nat} {ps : List Nat} {body : List Byte} {k : Keep}
    (h : t.Same (((u.setOwner o).raise c ps).doeAnswer i code q body).driveOutputs) (hk : u.keep = k) :
    t.HasNewOwner k o where
  keep := h.keep_driven.trans (by simp [hk])
  proven := by simp [h.boot_driven]
  challenge := by simp [h.boot_driven]

/-- The keep store after a change that spends one ownership step. -/
def Keep.spendOwner (k : Keep) : Keep := { k with ownerLeft := k.ownerLeft - 1 }

/-- With a step left it is spent before the change (R82). -/
def State.spendOwner (s : State) : State := s.spend ratOWNER (s.keep.ownerLeft - 1) Keep.spendOwner

theorem spendOwner_keep : s.spendOwner.keep = s.keep.spendOwner := spend_keep

theorem ownerStep_taken {req : Nat} {f : State → State} (h : s.keep.ownerLeft ≠ 0) :
    s.ownerStep i q req f = f s.spendOwner := if_neg h

/-! ### Challenges -/

theorem exec_ownerChallenge : exec (.ownerChallenge i q) s = execOwnerChallenge i q s := rfl

/-- The challenge is the value drawn, and the answer its bytes (R85). -/
theorem ownerChallenge_issued (hp : s.powered = true) (hcode : q.code.toNat = doeCHALLENGE) (hlen : q.length.toNat = 0)
    (hid : s.get F.KEEP_STATUS_identity ≠ 2) : ∃ t, exec (.ownerChallenge i q) s = .next t ∧
      tfind t.boot.challenge i = some (BitVec.ofNat 256 (Config.entropy s.free).toNat) ∧
      tfind t.boot.doe i = some (doeResponse doeCHALLENGE q (leBytes 32 (Config.entropy s.free).toNat)) ∧
      t.keep = s.keep := by
  rw [exec_ownerChallenge, execOwnerChallenge]
  refine run_answers_of_effect hp (doe_taken hcode hlen (.inl hid)) fun t ht => ⟨?_, ?_, ht.keep_driven⟩
  · rw [ht.boot_driven]
    exact tfind_tput_self _ _ _
  · rw [ht.boot_driven]
    exact doeAnswer_response

theorem exec_challengeExpired : exec (.challengeExpired i) s = s.run fun s => s.voidChallenge i := rfl

theorem challengeExpired_void (hp : s.powered = true) : ∃ t, exec (.challengeExpired i) s = .next t ∧
    tfind t.boot.challenge i = none ∧ t.keep = s.keep := by
  rw [exec_challengeExpired]
  refine run_answers_of_effect hp rfl fun t ht => ⟨?_, ht.keep_driven⟩
  rw [ht.boot_driven, voidChallenge_challenge]

/-! ### Proofs of ownership -/

theorem exec_ownerProve {ok : Bool} : exec (.ownerProve i q ok) s = execOwnerProve i q ok s := rfl

/-- Port `i` is one with a proof. -/
def State.prove (s : State) (i : Port) : State :=
  { s with boot := { s.boot with
      proven := if s.boot.proven.contains i then s.boot.proven else s.boot.proven ++ [i.val] } }

theorem prove_proven : i.val ∈ (s.prove i).boot.proven := by
  unfold State.prove
  split
  · exact List.contains_iff_mem.mp ‹_›
  · exact List.mem_append_right _ (List.mem_singleton_self _)

section Prove
variable (hp : s.powered = true) (hcode : q.code.toNat = doePROVE) (hlen : q.length.toNat = 4627)
  (hid : s.get F.KEEP_STATUS_identity ≠ 2)
include hp hcode hlen hid

/-- A valid proof in an owned module (R84). -/
theorem ownerProve_proven (hchallenge : tfind s.boot.challenge i ≠ none) (howner : s.keep.owner ≠ none) :
    ∃ t, exec (.ownerProve i q true) s = .next t ∧ i.val ∈ t.boot.proven ∧ tfind t.boot.challenge i = none ∧
      t.keep = s.keep := by
  rw [exec_ownerProve, execOwnerProve]
  refine run_answers_of_effect (u := ((s.voidChallenge i).prove i).factoryRoles.doeAnswer i doePROVE q [0, 0]) hp
    ((doe_taken hcode hlen (.inl hid)).trans (if_pos ?_)) fun t ht => ⟨?_, ?_, ?_⟩
  · simp [Option.isSome_iff_ne_none, hchallenge, howner]
  · rw [ht.boot_driven, doeAnswer_proven, factoryRoles_boot]
    exact prove_proven
  · rw [ht.boot_driven, doeAnswer_challenge, factoryRoles_boot]
    exact voidChallenge_challenge
  · rw [ht.keep_driven, doeAnswer_keep, factoryRoles_keep]
    rfl

/-- An attempt that fails makes no port one with a proof, and uses the challenge up all the same (R85). -/
theorem ownerProve_failed {ok : Bool} (h : tfind s.boot.challenge i = none ∨ ok = false ∨ s.keep.owner = none) :
    ∃ t, exec (.ownerProve i q ok) s = .next t ∧ t.boot.proven = s.boot.proven ∧ tfind t.boot.challenge i = none ∧
      t.keep = s.keep := by
  rw [exec_ownerProve, execOwnerProve]
  refine run_answers_of_effect (u := (s.voidChallenge i).doeProofFail i q doePROVE) hp
    ((doe_taken hcode hlen (.inl hid)).trans (if_neg ?_)) fun t ht => ⟨?_, ?_, ?_⟩
  · rcases h with h | h | h <;> simp [h]
  · rw [ht.boot_driven, doeProofFail_proven, voidChallenge_proven]
  · rw [ht.boot_driven, doeProofFail_challenge, voidChallenge_challenge]
  · rw [ht.keep_driven, doeProofFail_keep, voidChallenge_keep]

end Prove

/-! ### Claim, transfer and signers (R86) -/

theorem exec_ownerClaim {ok : Bool} : exec (.ownerClaim i q key signers ok) s = execOwnerClaim i q key signers ok s := rfl

theorem exec_ownerTransfer {a b : Bool} :
    exec (.ownerTransfer i q key signers a b) s = execOwnerTransfer i q key signers a b s := rfl

theorem exec_ownerSetSigners {ok : Bool} :
    exec (.ownerSetSigners i q signers ok) s = execOwnerSetSigners i q signers ok s := rfl

/-- An owned module, a missing challenge, a bad signature or no step left: a claim changes neither record nor ratchet. -/
theorem ownerClaim_refused {ok : Bool} (hp : s.powered = true)
    (h : s.keep.owner ≠ none ∨ tfind s.boot.challenge i = none ∨ ok = false ∨ s.keep.ownerLeft = 0) :
    ∃ t, exec (.ownerClaim i q key signers ok) s = .next t ∧ t.keep = s.keep := by
  rw [exec_ownerClaim, execOwnerClaim]
  refine run_answers_of_effect hp rfl fun t ht => ht.keep_driven.trans (doe_keep (signerCount_keep ?_))
  refine (attempt_keep (s := s.voidChallenge i) ?_).trans voidChallenge_keep
  rcases h with h | h | h | h
  · exact .inl (by simp [Option.isSome_iff_ne_none, h])
  · exact .inl (by simp [h])
  · exact .inl (by simp [h])
  · exact .inr h

/-- An unclaimed module, a missing challenge, a bad signature or no step left: a transfer changes neither record nor ratchet. -/
theorem ownerTransfer_refused {a b : Bool} (hp : s.powered = true)
    (h : s.keep.owner = none ∨ tfind s.boot.challenge i = none ∨ a = false ∨ b = false ∨ s.keep.ownerLeft = 0) :
    ∃ t, exec (.ownerTransfer i q key signers a b) s = .next t ∧ t.keep = s.keep := by
  rw [exec_ownerTransfer, execOwnerTransfer]
  refine run_answers_of_effect hp rfl fun t ht => ht.keep_driven.trans (doe_keep (signerCount_keep ?_))
  refine (attempt_keep (s := s.voidChallenge i) ?_).trans voidChallenge_keep
  rcases h with h | h | h | h | h
  · exact .inl (by simp [h])
  · exact .inl (by simp [h])
  · exact .inl (by simp [h])
  · exact .inl (by simp [h])
  · exact .inr h

section Changed
variable (hp : s.powered = true) (hid : s.get F.KEEP_STATUS_identity ≠ 2) (h1 : 1 ≤ signers.length)
  (h4 : signers.length ≤ 4) (hchallenge : tfind s.boot.challenge i ≠ none)
include hp hid h1 h4 hchallenge

/-- A claim of an unclaimed module, by a privileged port or in the factory structure. -/
theorem ownerClaim_taken (hcode : q.code.toNat = doeCLAIM) (hlen : q.length.toNat = ownerLen true signers.length 1)
    (howner : s.keep.owner = none) (hport : s.privileged i = true ∨ s.get F.ZLD_ACTIVE_factory_structure = 1)
    (hleft : s.keep.ownerLeft ≠ 0) : ∃ t, exec (.ownerClaim i q key signers true) s = .next t ∧
      t.HasNewOwner s.keep.spendOwner { key := key, signers := signers } := by
  rw [exec_ownerClaim, execOwnerClaim]
  refine run_answers_of_effect hp ((doe_taken hcode hlen (.inl hid)).trans ((signerCount_taken h1 h4).trans
    ((if_neg ?_).trans (ownerStep_taken hleft)))) fun t ht => ?_
  · have hmay : s.privileged i = true ∨ s.on F.ZLD_ACTIVE_factory_structure = true :=
      hport.imp_right fun h => by simp [State.on, h]
    rcases hmay with hmay | hmay <;> simp [howner, hmay, hchallenge]
  · exact Same_hasNewOwner ht spendOwner_keep

/-- A transfer of an owned module, with both signatures. -/
theorem ownerTransfer_taken (hcode : q.code.toNat = doeTRANSFER)
    (hlen : q.length.toNat = ownerLen true signers.length 2) (howner : s.keep.owner ≠ none)
    (hleft : s.keep.ownerLeft ≠ 0) : ∃ t, exec (.ownerTransfer i q key signers true true) s = .next t ∧
      t.HasNewOwner s.keep.spendOwner { key := key, signers := signers } := by
  rw [exec_ownerTransfer, execOwnerTransfer]
  refine run_answers_of_effect hp ((doe_taken hcode hlen (.inl hid)).trans ((signerCount_taken h1 h4).trans
    ((if_neg ?_).trans (ownerStep_taken hleft)))) fun t ht => ?_
  · simp [howner, hchallenge]
  · exact Same_hasNewOwner ht spendOwner_keep

/-- The signers are replaced, the key stays, and no step is spent. -/
theorem ownerSetSigners_taken (hcode : q.code.toNat = doeSIGNERS)
    (hlen : q.length.toNat = ownerLen false signers.length 1) (howner : s.keep.owner = some o) :
    ∃ t, exec (.ownerSetSigners i q signers true) s = .next t ∧ t.HasNewOwner s.keep { o with signers := signers } := by
  rw [exec_ownerSetSigners, execOwnerSetSigners]
  refine run_answers_of_effect (u := (((s.voidChallenge i).setOwner { o with signers := signers }).raise
    Code.KEEP_SIGNERS_CHANGED [i, signers.length]).doeAnswer i doeSIGNERS q [0, 0]) hp
    ((doe_taken hcode hlen (.inl hid)).trans ((signerCount_taken h1 h4).trans ?_)) fun t ht => Same_hasNewOwner ht voidChallenge_keep
  simp [howner, Option.isNone_iff_eq_none, hchallenge]

end Changed

/-- Settles O9: each clause is an outcome of an ownership message above. -/
theorem ownershipChanges : Obligations.OwnershipChanges := by
  unfold Obligations.OwnershipChanges
  refine ⟨?challenge, ?expired, ?prove, ?proveFailed, ?claim, ?claimRefused, ?transfer, ?transferRefused, ?setSigners⟩
  case challenge => exact fun s i q hp hcode hlen hid => ownerChallenge_issued hp hcode hlen hid
  case expired => exact fun s i hp => challengeExpired_void hp
  case prove => exact fun s i q hp hcode hlen hid hc ho => ownerProve_proven hp hcode hlen hid hc ho
  case proveFailed => exact fun s i q ok hp hcode hlen hid h => ownerProve_failed hp hcode hlen hid h
  case claim =>
    intro s i q key signers hp hcode hlen hid h1 h4 howner hport hchallenge hleft
    obtain ⟨t, ht, r⟩ := ownerClaim_taken (key := key) hp hid h1 h4 hchallenge hcode hlen howner hport hleft
    exact ⟨t, ht, r.keep, r.proven, r.challenge⟩
  case claimRefused => exact fun s i q key signers ok hp h => ownerClaim_refused hp h
  case transfer =>
    intro s i q key signers hp hcode hlen hid h1 h4 howner hchallenge hleft
    obtain ⟨t, ht, r⟩ := ownerTransfer_taken (key := key) hp hid h1 h4 hchallenge hcode hlen howner hleft
    exact ⟨t, ht, r.keep, r.proven, r.challenge⟩
  case transferRefused => exact fun s i q key signers a b hp h => ownerTransfer_refused hp h
  case setSigners =>
    intro s i q signers o hp hcode hlen hid h1 h4 howner hchallenge
    obtain ⟨t, ht, r⟩ := ownerSetSigners_taken hp hid h1 h4 hchallenge hcode hlen howner
    exact ⟨t, ht, r.keep, r.proven, r.challenge⟩

end Sys2Proof.Machine
end

section
/-! PROOFS. The hub firmware handover (R75, R111, R112): what a PACE command does for each role, what PACE_HUBFW_STATUS shows
after each step of the handover, a lemma for each outcome of a command, and from them the statement O11. -/

namespace Sys2Proof.Machine

variable {s t u : State} {i : Port}

/-! ### PACE commands (R113) -/

section PaceCmd
variable {off : Nat} {f : State → State}

theorem paceCmd_privileged (hr : s.privileged i = true) : s.paceCmd i off f = f s := if_pos hr

theorem paceCmd_refused (hr : s.privileged i = false) : s.paceCmd i off f = s.raise Code.PACE_ROLE [i, off] :=
  if_neg (by simp [hr])

end PaceCmd

/-! ### PACE_HUBFW_STATUS at the end of a command -/

theorem State.Same.hubfwField_driven {f : Field} (h : t.Same u.driveOutputs) (hf : regKind f.key = 88) : t.get f = u.get f :=
  h.get_driven (by rw [hf]; decide)

theorem State.Same.hubfw_driven (h : t.Same u.driveOutputs) : t.hubfw = u.hubfw := h.hubfwField_driven (by simp)

theorem hubfw_set {v : Nat} (hv : v < 2 ^ 3) : (s.set F.PACE_HUBFW_STATUS_state v).hubfw = v :=
  (State.get_set (by decide)).trans (Nat.mod_eq_of_lt hv)

@[simp] theorem hubfw_raise {c : Nat} {ps : List Nat} : (s.raise c ps).hubfw = s.hubfw := get_raise (by decide)

theorem inactiveSlot_lt : s.inactiveSlot < 2 := by unfold State.inactiveSlot; omega

/-- A PACE command whose body leaves the state of the handover leaves it for every port. -/
theorem run_paceCmd_hubfw {off : Nat} {f : State → State} (hp : s.powered = true)
    (hf : s.privileged i = true → (f s).hubfw = s.hubfw) :
    ∃ t, (s.run fun s => s.paceCmd i off f) = .next t ∧ t.hubfw = s.hubfw := by
  refine run_answers_of_effect hp rfl fun t ht => ht.hubfw_driven.trans ?_
  cases hr : s.privileged i with
  | true => rw [paceCmd_privileged hr, hf hr]
  | false => rw [paceCmd_refused hr, hubfw_raise]

/-! ### HUBFW_LOAD (R111) -/

theorem exec_hubfwLoad : exec (.hubfwLoad i) s = execHubfwLoad i s := rfl

theorem hubfwLoad_begins (hp : s.powered = true) (hr : s.privileged i = true) (hm : s.anyUpkeep = true)
    (hs : s.hubfw = hfIDLE ∨ s.hubfw = hfVERIFIED ∨ s.hubfw = hfFAILED) :
    ∃ t, exec (.hubfwLoad i) s = .next t ∧ t.hubfw = hfLOADING ∧ t.keep = s.keep := by
  rw [exec_hubfwLoad, execHubfwLoad]
  exact run_answers_of_effect hp ((paceCmd_privileged hr).trans (if_pos (by simpa [hm, or_assoc] using hs))) fun t ht =>
    ⟨ht.hubfw_driven.trans (hubfw_set (by decide)), ht.keep_driven⟩

theorem hubfwLoad_refused (hp : s.powered = true) (h : s.privileged i = false ∨ s.anyUpkeep = false) :
    ∃ t, exec (.hubfwLoad i) s = .next t ∧ t.hubfw = s.hubfw := by
  rw [exec_hubfwLoad, execHubfwLoad]
  exact run_paceCmd_hubfw hp fun hr => congrArg State.hubfw (if_neg (by simp [h.resolve_left (by simp [hr])]))

/-! ### The end of a load (R75, R111) -/

section Verified
variable {ok : Bool} {d : BitVec 512}

theorem storeFirmware_slot {n : Nat} {x : Firmware} : tfind (s.storeFirmware n x).flash.fw n = some x := by
  have hput : (s.storeFirmware n x).flash.fw = tput s.flash.fw n x := by
    unfold State.storeFirmware
    split <;> rfl
  rw [hput, tfind_tput_self]

theorem exec_hubfwVerified : exec (.hubfwVerified ok d) s = execHubfwVerified ok d s := rfl

theorem hubfwVerified_stores (hp : s.powered = true) (hs : s.hubfw = hfLOADING) :
    ∃ t, exec (.hubfwVerified ok d) s = .next t ∧ tfind t.flash.fw s.inactiveSlot = some { ok := ok, digest := d } ∧
      t.hubfw = (if ok then hfVERIFIED else hfFAILED) := by
  rw [exec_hubfwVerified, execHubfwVerified]
  cases ok with
  | true =>
    exact run_answers_of_effect hp ((if_neg (by simp [hs])).trans (if_pos rfl)) fun t ht =>
      ⟨by rw [ht.flash_driven]; exact storeFirmware_slot, ht.hubfw_driven.trans (hubfw_set (by decide))⟩
  | false =>
    exact run_answers_of_effect hp ((if_neg (by simp [hs])).trans (if_neg (by decide))) fun t ht =>
      ⟨by rw [ht.flash_driven, raise_flash]; exact storeFirmware_slot,
        ht.hubfw_driven.trans (hubfw_raise.trans (hubfw_set (by decide)))⟩

theorem hubfwVerified_idle (hp : s.powered = true) (hs : s.hubfw ≠ hfLOADING) :
    ∃ t, exec (.hubfwVerified ok d) s = .next t ∧ t.flash = s.flash ∧ t.hubfw = s.hubfw := by
  rw [exec_hubfwVerified, execHubfwVerified]
  exact run_answers_of_effect hp (if_pos (by simpa using hs)) fun t ht => ⟨ht.flash_driven, ht.hubfw_driven⟩

end Verified

/-! ### HANDOVER (R111) -/

theorem exec_handover : exec (.handover i) s = execHandover i s := rfl

theorem handover_begins (hp : s.powered = true) (hr : s.privileged i = true) (hm : s.liveUpkeep = true)
    (hs : s.hubfw = hfVERIFIED) : ∃ t, exec (.handover i) s = .next t ∧ t.hubfw = hfHANDED ∧
      t.get F.PACE_HUBFW_STATUS_active_slot = s.get F.PACE_HUBFW_STATUS_active_slot := by
  rw [exec_handover, execHandover]
  exact run_answers_of_effect hp ((paceCmd_privileged hr).trans (if_pos (by simp [hm, hs]))) fun t ht =>
    ⟨ht.hubfw_driven.trans (hubfw_set (by decide)),
      (ht.hubfwField_driven (by simp)).trans (State.get_set_field rfl (by decide) (by decide))⟩

theorem handover_refused (hp : s.powered = true)
    (h : s.privileged i = false ∨ s.liveUpkeep = false ∨ s.hubfw ≠ hfVERIFIED) :
    ∃ t, exec (.handover i) s = .next t ∧ t.hubfw = s.hubfw := by
  rw [exec_handover, execHandover]
  refine run_paceCmd_hubfw hp fun hr => congrArg State.hubfw (if_neg ?_)
  rcases h.resolve_left (by simp [hr]) with h | h <;> simp [h]

/-! ### The duties pass from one slot to the other (R111, R112) -/

/-- Firmware slot `n` runs from here on: the status shows it, on trial or not, with `seconds` of standby and the state of the
handover; its digest is the one measured. -/
def State.runSlot (s : State) (n trial seconds state : Nat) : State :=
  let u := (((s.set F.PACE_HUBFW_STATUS_active_slot n).set F.PACE_HUBFW_STATUS_trial trial).set F.PACE_HUBFW_STATUS_standby_s
    seconds).set F.PACE_HUBFW_STATUS_state state
  let u := u.set F.KEEP_STATUS_fw_slot n
  { u with boot := { u.boot with fwDigest := ((tfind u.flash.fw n).map (fun (x : Firmware) => x.digest)).getD 0 } }

/-- PACE_HUBFW_STATUS shows slot `n` running, on trial or not, with `seconds` of standby and the state of the handover. -/
structure State.ShowsSlot (t : State) (n trial seconds state : Nat) : Prop where
  hubfw : t.hubfw = state
  active : t.get F.PACE_HUBFW_STATUS_active_slot = n
  trial : t.get F.PACE_HUBFW_STATUS_trial = trial
  standby : t.get F.PACE_HUBFW_STATUS_standby_s = seconds

section ShowsSlot
variable {n trial seconds state : Nat}

theorem State.ShowsSlot.of_get (h : u.ShowsSlot n trial seconds state)
    (hg : ∀ f : Field, regKind f.key = 88 → t.get f = u.get f) : t.ShowsSlot n trial seconds state where
  hubfw := (hg _ (by simp)).trans h.hubfw
  active := (hg _ (by simp)).trans h.active
  trial := (hg _ (by simp)).trans h.trial
  standby := (hg _ (by simp)).trans h.standby

/-- A waymark and the outputs leave the status. -/
theorem State.ShowsSlot.raise_driven {c : Nat} {ps : List Nat} (h : u.ShowsSlot n trial seconds state)
    (ht : t.Same (u.raise c ps).driveOutputs) : t.ShowsSlot n trial seconds state :=
  h.of_get fun f hf => (ht.hubfwField_driven hf).trans (get_raise (by rw [hf]; decide))

theorem runSlot_showsSlot (hn : n < 2) (htrial : trial < 2) (hseconds : seconds < 2 ^ 10) (hstate : state < 2 ^ 3) :
    (s.runSlot n trial seconds state).ShowsSlot n trial seconds state := by
  constructor <;>
    simp (disch := decide) only [State.runSlot, State.hubfw, get_mk, regGet_regs, State.get_set_kind, State.get_set_field,
      State.get_set]
  · exact Nat.mod_eq_of_lt hstate
  · exact Nat.mod_eq_of_lt hn
  · exact Nat.mod_eq_of_lt htrial
  · exact Nat.mod_eq_of_lt hseconds

end ShowsSlot

/-- The other slot runs, on trial, and the old firmware is held for 600 s from here on (R111, R112). -/
def State.switched (s : State) : State :=
  let u := s.runSlot s.inactiveSlot 1 600 hfSTANDBY
  { u with pace := { u.pace with standbyAt := u.clk.now } }

theorem switched_get {f : Field} : s.switched.get f = (s.runSlot s.inactiveSlot 1 600 hfSTANDBY).get f := rfl

theorem switched_showsSlot : s.switched.ShowsSlot s.inactiveSlot 1 600 hfSTANDBY :=
  (runSlot_showsSlot inactiveSlot_lt (by decide) (by decide) (by decide)).of_get fun _ _ => switched_get

theorem switched_period : s.switched.period = s.period := by
  simp [State.period, State.get64, switched_get, State.runSlot, State.get_set_kind]

theorem exec_handoverDone : exec .handoverDone s = execHandoverDone s := rfl

theorem handoverDone_switches (hp : s.powered = true) (hs : s.hubfw = hfHANDED) :
    ∃ t, exec .handoverDone s = .next t ∧ t.ShowsSlot s.inactiveSlot 1 600 hfSTANDBY ∧
      t.wrote Code.HANDOVER_DONE [s.inactiveSlot, s.period] := by
  rw [exec_handoverDone, execHandoverDone, ← switched_period]
  exact run_answers_of_effect (u := s.switched.raise Code.HANDOVER_DONE [s.inactiveSlot, s.switched.period]) hp
    (if_neg (by simp [hs])) fun t ht => ⟨switched_showsSlot.raise_driven ht, ht.wrote_driven raise_wrote⟩

theorem exec_handoverFailed : exec .handoverFailed s = execHandoverFailed s := rfl

/-- The old slot runs again, without a trial. -/
theorem handoverFailed_fallsBack (hp : s.powered = true) (hs : s.hubfw = hfSTANDBY) :
    ∃ t, exec .handoverFailed s = .next t ∧ t.ShowsSlot s.inactiveSlot 0 0 hfIDLE ∧
      t.wrote Code.HANDOVER_FAILED [s.get F.PACE_HUBFW_STATUS_active_slot, 1] := by
  rw [exec_handoverFailed, execHandoverFailed]
  exact run_answers_of_effect (u := (s.runSlot s.inactiveSlot 0 0 hfIDLE).raise Code.HANDOVER_FAILED
    [s.get F.PACE_HUBFW_STATUS_active_slot, 1]) hp (if_neg (by simp [hs])) fun t ht =>
    ⟨(runSlot_showsSlot inactiveSlot_lt (by decide) (by decide) (by decide)).raise_driven ht, ht.wrote_driven raise_wrote⟩

/-! ### CONFIRM (R111, R112) -/

/-- The TRIAL mark is cleared in the boot record and in the status, and the standby has no second left. -/
def State.confirmed (s : State) : State :=
  ((s.keepWrite recBOOT fun k => { k with fwTrial := false, fwTries := 0 }).set F.PACE_HUBFW_STATUS_trial 0).set
    F.PACE_HUBFW_STATUS_standby_s 0

theorem confirmed_trial : s.confirmed.get F.PACE_HUBFW_STATUS_trial = 0 := by
  simp (disch := decide) only [State.confirmed, State.get_set_field, State.get_set]
  rfl

theorem confirmed_standby : s.confirmed.get F.PACE_HUBFW_STATUS_standby_s = 0 := State.get_set (by decide)

theorem confirmed_hubfw : s.confirmed.hubfw = s.hubfw := by
  simp (disch := decide) only [State.confirmed, State.hubfw, State.get_set_field]
  rfl

/-- A confirmation ends a standby. -/
def State.endStandby (s : State) : State := if s.hubfw == hfSTANDBY then s.set F.PACE_HUBFW_STATUS_state hfIDLE else s

theorem endStandby_keep : s.endStandby.keep = s.keep := by unfold State.endStandby; split <;> rfl

theorem endStandby_trial : s.endStandby.get F.PACE_HUBFW_STATUS_trial = s.get F.PACE_HUBFW_STATUS_trial := by
  unfold State.endStandby
  split
  · exact State.get_set_field rfl (by decide) (by decide)
  · rfl

theorem endStandby_standby : s.endStandby.get F.PACE_HUBFW_STATUS_standby_s = s.get F.PACE_HUBFW_STATUS_standby_s := by
  unfold State.endStandby
  split
  · exact State.get_set_field rfl (by decide) (by decide)
  · rfl

theorem endStandby_hubfw (hs : s.hubfw = hfSTANDBY) : s.endStandby.hubfw = hfIDLE := by
  rw [State.endStandby, if_pos (by simp [hs]), hubfw_set (by decide)]

theorem exec_confirm : exec (.confirm i) s = execConfirm i s := rfl

theorem confirm_clearsTrial (hp : s.powered = true) (hr : s.privileged i = true)
    (htrial : s.get F.PACE_HUBFW_STATUS_trial = 1) : ∃ t, exec (.confirm i) s = .next t ∧
      t.keep = { s.keep with fwTrial := false, fwTries := 0 } ∧ t.get F.PACE_HUBFW_STATUS_trial = 0 ∧
      t.get F.PACE_HUBFW_STATUS_standby_s = 0 ∧ (s.hubfw = hfSTANDBY → t.hubfw = hfIDLE) := by
  rw [exec_confirm, execConfirm]
  refine run_answers_of_effect (u := s.confirmed.endStandby) hp
    ((paceCmd_privileged hr).trans (if_neg (by simp [State.on, htrial]))) fun t ht =>
      ⟨ht.keep_driven.trans endStandby_keep,
        (ht.hubfwField_driven (by simp)).trans (endStandby_trial.trans confirmed_trial),
        (ht.hubfwField_driven (by simp)).trans (endStandby_standby.trans confirmed_standby),
        fun hs => ht.hubfw_driven.trans (endStandby_hubfw (confirmed_hubfw.trans hs))⟩

/-! ### HUBFW_ABORT (R111) -/

/-- The boot record names the running slot again. -/
def State.nameRunning (s : State) : State :=
  s.keepWrite recBOOT fun k =>
    { k with fwSlot := s.get F.PACE_HUBFW_STATUS_active_slot, fwTrial := s.on F.PACE_HUBFW_STATUS_trial, fwTries := 0 }

/-- The running slot is named again, and the handover stands at its start. -/
def State.abandoned (s : State) : State := s.nameRunning.set F.PACE_HUBFW_STATUS_state hfIDLE

theorem abandoned_hubfw : s.abandoned.hubfw = hfIDLE := hubfw_set (by decide)

theorem abandoned_active :
    s.abandoned.get F.PACE_HUBFW_STATUS_active_slot = s.get F.PACE_HUBFW_STATUS_active_slot :=
  State.get_set_field rfl (by decide) (by decide)

theorem abandoned_fwSlot : s.abandoned.keep.fwSlot = s.get F.PACE_HUBFW_STATUS_active_slot := rfl

theorem exec_hubfwAbort : exec (.hubfwAbort i) s = execHubfwAbort i s := rfl

theorem hubfwAbort_endsLoad (hp : s.powered = true) (hr : s.privileged i = true) (hs : s.hubfw = hfLOADING) :
    ∃ t, exec (.hubfwAbort i) s = .next t ∧ t.hubfw = hfIDLE ∧ t.keep = s.keep := by
  rw [exec_hubfwAbort, execHubfwAbort]
  exact run_answers_of_effect hp ((paceCmd_privileged hr).trans (if_pos (by simp [hs]))) fun t ht =>
    ⟨ht.hubfw_driven.trans (hubfw_set (by decide)), ht.keep_driven⟩

theorem hubfwAbort_abandons (hp : s.powered = true) (hr : s.privileged i = true)
    (hs : s.hubfw = hfVERIFIED ∨ s.hubfw = hfHANDED) : ∃ t, exec (.hubfwAbort i) s = .next t ∧ t.hubfw = hfIDLE ∧
      t.keep.fwSlot = s.get F.PACE_HUBFW_STATUS_active_slot ∧
      t.get F.PACE_HUBFW_STATUS_active_slot = s.get F.PACE_HUBFW_STATUS_active_slot := by
  rw [exec_hubfwAbort, execHubfwAbort]
  rcases hs with hs | hs
  · refine run_answers_of_effect (u := s.abandoned) hp ((paceCmd_privileged hr).trans
      ((if_neg (by rw [hs]; decide)).trans (if_pos (by simp [hs])))) fun t ht =>
        ⟨ht.hubfw_driven.trans abandoned_hubfw, ?_, (ht.hubfwField_driven (by simp)).trans abandoned_active⟩
    rw [ht.keep_driven, abandoned_fwSlot]
  · refine run_answers_of_effect (u := s.abandoned.raise Code.HANDOVER_FAILED [s.inactiveSlot, 2]) hp
      ((paceCmd_privileged hr).trans
        ((if_neg (by rw [hs]; decide)).trans ((if_neg (by rw [hs]; decide)).trans (if_pos (by simp [hs]))))) fun t ht =>
        ⟨ht.hubfw_driven.trans (hubfw_raise.trans abandoned_hubfw), ?_,
          (ht.hubfwField_driven (by simp)).trans ((get_raise (by decide)).trans abandoned_active)⟩
    rw [ht.keep_driven, raise_keep, abandoned_fwSlot]

/-! ### The end of the standby (R112) -/

theorem exec_standbyExpired : exec .standbyExpired s = execStandbyExpired s := rfl

theorem standbyExpired_ends (hp : s.powered = true) (hs : s.hubfw = hfSTANDBY) :
    ∃ t, exec .standbyExpired s = .next t ∧ t.hubfw = hfIDLE ∧ t.get F.PACE_HUBFW_STATUS_standby_s = 0 ∧
      t.get F.PACE_HUBFW_STATUS_trial = s.get F.PACE_HUBFW_STATUS_trial ∧ t.keep = s.keep := by
  rw [exec_standbyExpired, execStandbyExpired]
  refine run_answers_of_effect hp (if_pos (by simp [hs])) fun t ht =>
    ⟨ht.hubfw_driven.trans ?state, (ht.hubfwField_driven (by simp)).trans (State.get_set (by decide)),
      (ht.hubfwField_driven (by simp)).trans ?trial, ht.keep_driven⟩
  case state =>
    simp (disch := decide) only [State.hubfw, State.get_set_field, State.get_set]
    rfl
  case trial => simp (disch := decide) only [State.get_set_field]

/-- Settles O11: each clause is an outcome of a step of the handover above. -/
theorem firmwareHandover : Obligations.FirmwareHandover := by
  unfold Obligations.FirmwareHandover
  refine ⟨?load, ?loadRefused, ?verified, ?notLoading, ?handover, ?handoverRefused, ?done, ?confirm, ?abortLoad, ?abort,
    ?expired, ?failed⟩
  case load => exact fun s i => hubfwLoad_begins
  case loadRefused => exact fun s i => hubfwLoad_refused
  case verified => exact fun s ok d => hubfwVerified_stores
  case notLoading => exact fun s ok d => hubfwVerified_idle
  case handover => exact fun s i => handover_begins
  case handoverRefused => exact fun s i => handover_refused
  case done =>
    intro s hp hs
    obtain ⟨t, ht, r, hwrote⟩ := handoverDone_switches hp hs
    exact ⟨t, ht, r.hubfw, r.active, r.trial, r.standby, hwrote⟩
  case confirm => exact fun s i => confirm_clearsTrial
  case abortLoad => exact fun s i => hubfwAbort_endsLoad
  case abort => exact fun s i => hubfwAbort_abandons
  case expired => exact fun s => standbyExpired_ends
  case failed =>
    intro s hp hs
    obtain ⟨t, ht, r, hwrote⟩ := handoverFailed_fallsBack hp hs
    exact ⟨t, ht, r.hubfw, r.active, r.trial, hwrote⟩

end Sys2Proof.Machine
end

section
/-! PROOFS. Pace misses, slack windows and the planner (R79, R100, R103, R104, R106, R107, R114): what a window measures and
stores, what a plan evaluation shows, a lemma for each outcome of a command, and from them the statement O10. -/

namespace Sys2Proof.Machine

variable {s t u : State} {i : Port}

theorem State.Same.pace_driven (h : t.Same u.driveOutputs) : t.pace = u.pace := h.pace.trans driveOutputs_pace

theorem State.Same.exec_driven (h : t.Same u.driveOutputs) : t.exec = u.exec := h.exec.trans driveOutputs_exec

/-! ### Pace misses (R100) -/

section PaceMiss
variable {f : Field} {c : CoreId} {slip : BitVec 32}

/-- A field that counts one, where it saturates. -/
theorem get_inc (hf : f.lo + f.width ≤ 32) : (s.inc f).get f = min (s.get f + 1) (2 ^ f.width - 1) := by
  rw [State.inc_def, State.get_set hf]
  exact Nat.mod_eq_of_lt (Nat.lt_of_le_of_lt (Nat.min_le_right _ _) (Nat.sub_lt (Nat.two_pow_pos _) Nat.one_pos))

theorem exec_paceMiss {c : Option CoreId} : exec (.paceMiss c slip) s = execPaceMiss c slip s := rfl

theorem paceMiss_hub (hp : s.powered = true) : ∃ t, exec (.paceMiss none slip) s = .next t ∧
    t.get F.PACE_HUB_misses = min (s.get F.PACE_HUB_misses + 1) (2 ^ F.PACE_HUB_misses.width - 1) ∧
    t.wrote Code.PACE_MISS [0xFF, slip.toNat, 1000] := by
  rw [exec_paceMiss, execPaceMiss]
  exact run_answers_of_effect hp rfl fun t ht =>
    ⟨(ht.get_driven (by decide)).trans ((get_raise (by decide)).trans (get_inc (by decide))), ht.wrote_driven raise_wrote⟩

/-- The miss of core `c` counts on its miss counter and on the performance counters that select it. -/
def State.missEvents (s : State) (c : CoreId) (slip : BitVec 32) : State :=
  ((s.inc (F.PACE_MISS_count c)).perfEvent c 0x07 1).perfEvent c 0x08 slip.toNat

/-- The miss is counted, and its slip is added to what the core has to make up. -/
def State.countMiss (s : State) (c : CoreId) (slip : BitVec 32) : State :=
  let u := s.missEvents c slip
  { u with pace := { u.pace with slips := tset 0 u.pace.slips c (tget 0 u.pace.slips c + slip.toNat) } }

theorem missEvents_frame : Frame State.perfEvent_mask (s.inc (F.PACE_MISS_count c)) (s.missEvents c slip) :=
  State.perfEvent_frame (Within.refl _) (State.perfEvent_frame (Within.refl _) (Frame.refl _ _))

theorem countMiss_get {f : Field} (hf : State.perfEvent_mask.testBit (regKind f.key) = false) :
    (s.countMiss c slip).get f = (s.inc (F.PACE_MISS_count c)).get f := by
  rw [State.countMiss, get_mk, regGet_regs]
  exact missEvents_frame.get f hf

theorem countMiss_count : (s.countMiss c slip).get (F.PACE_MISS_count c) =
    min (s.get (F.PACE_MISS_count c) + 1) (2 ^ (F.PACE_MISS_count c).width - 1) :=
  (countMiss_get (by rw [F.PACE_MISS_count_kind]; decide)).trans (get_inc (by simp [F.PACE_MISS_count]))

theorem countMiss_pace : (s.countMiss c slip).get F.PACE_STATUS_pace = s.get F.PACE_STATUS_pace :=
  (countMiss_get (by decide)).trans (State.get_set_kind (by simp))

theorem countMiss_mem : (s.countMiss c slip).mem = s.mem := by
  simp only [State.countMiss]
  exact missEvents_frame.mem rfl

theorem countMiss_exec : (s.countMiss c slip).exec = s.exec := by
  simp only [State.countMiss]
  exact missEvents_frame.exec rfl

theorem paceMiss_core (hp : s.powered = true) (habsent : s.coreRole c ≠ coreABSENT) (hfailed : s.coreRole c ≠ coreFAILED)
    (hpaced : s.get (F.CORE_STATUS_in_partition c) = 0 ∨ s.get (F.CORE_STATUS_paced c) = 1) :
    ∃ t, exec (.paceMiss (some c) slip) s = .next t ∧
      t.get (F.PACE_MISS_count c) = min (s.get (F.PACE_MISS_count c) + 1) (2 ^ (F.PACE_MISS_count c).width - 1) ∧
      t.wrote Code.PACE_MISS [c, slip.toNat, s.get F.PACE_STATUS_pace] ∧ t.mem = s.mem ∧ t.exec = s.exec := by
  rw [exec_paceMiss, execPaceMiss, ← countMiss_pace (c := c) (slip := slip)]
  refine run_answers_of_effect (u := (s.countMiss c slip).raise Code.PACE_MISS
    [c, slip.toNat, (s.countMiss c slip).get F.PACE_STATUS_pace]) hp ((if_neg ?free).trans ?effect) fun t ht =>
      ⟨?count, ht.wrote_driven raise_wrote, ht.mem_driven.trans (raise_mem.trans countMiss_mem),
        ht.exec_driven.trans (raise_exec.trans countMiss_exec)⟩
  case free => rcases hpaced with h | h <;> simp [State.on, habsent, hfailed, h]
  case effect => simp only [State.countMiss, State.missEvents]
  case count =>
    rw [ht.get_driven (by rw [F.PACE_MISS_count_kind]; decide), get_raise (by rw [F.PACE_MISS_count_kind]; decide),
      countMiss_count]

end PaceMiss

/-! ### One field for each element of a list -/

section EachSet
variable {α : Type} {g : α → Field} {v : α → Nat} {f : Field}

theorem get_each_set_ne : ∀ {l : List α} (s : State), (∀ a ∈ l, f.key ≠ (g a).key) →
    (s.each l fun s a => s.set (g a) (v a)).get f = s.get f
  | [], _, _ => rfl
  | a :: l, s, h => by
    rw [State.each_cons, get_each_set_ne _ fun b hb => h b (List.mem_cons_of_mem a hb),
      State.get_set_ne _ _ _ _ (h a List.mem_cons_self)]

/-- Where no two elements share a register, each field reads as written for its element. -/
theorem get_each_set_mem {a : α} {l : List α} (hw : (g a).lo + (g a).width ≤ 32)
    (hl : l.Pairwise fun a b => (g a).key ≠ (g b).key) (ha : a ∈ l) (s : State) :
    (s.each l fun s a => s.set (g a) (v a)).get (g a) = v a % 2 ^ (g a).width := by
  induction l generalizing s with
  | nil => cases ha
  | cons b l ih =>
    obtain ⟨hb, hl⟩ := List.pairwise_cons.mp hl
    rw [State.each_cons]
    by_cases hal : a ∈ l
    · exact ih hl hal _
    · obtain rfl := (List.mem_cons.mp ha).resolve_right hal
      rw [get_each_set_ne _ hb, State.get_set hw]

theorem each_set_keep {l : List α} : (s.each l fun s a => s.set (g a) (v a)).keep = s.keep :=
  State.each_keeps (P := fun u => u.keep = s.keep) (fun _ _ h => set_keep.trans h) l s rfl

end EachSet

/-! ### Entries put into a table one by one -/

section PutEach
variable {α : Type} {c : Nat}

theorem tfind_foldl_tput_ne : ∀ {l : List (Nat × α)} (t : Tab α), (∀ e ∈ l, e.1 ≠ c) →
    tfind (l.foldl (fun t e => tput t e.1 e.2) t) c = tfind t c
  | [], _, _ => rfl
  | e :: l, t, h => by
    rw [List.foldl_cons, tfind_foldl_tput_ne _ fun d hd => h d (List.mem_cons_of_mem e hd),
      tfind_tput_ne _ _ (h e List.mem_cons_self).symm]

theorem tfind_foldl_tput_mem {e : Nat × α} : ∀ {l : List (Nat × α)} (t : Tab α),
    l.Pairwise (fun a b => a.1 ≠ b.1) → e ∈ l → tfind (l.foldl (fun t e => tput t e.1 e.2) t) e.1 = some e.2
  | d :: l, t, hl, he => by
    obtain ⟨hd, hl⟩ := List.pairwise_cons.mp hl
    rw [List.foldl_cons]
    by_cases hel : e ∈ l
    · exact tfind_foldl_tput_mem _ hl hel
    · obtain rfl := (List.mem_cons.mp he).resolve_right hel
      rw [tfind_foldl_tput_ne _ fun b hb => (hd b hb).symm, tfind_tput_self]

end PutEach

/-! ### What a slack window measures (R103, R104) -/

section Measured
variable {ticks : List (List (BitVec 12))} {counts : List (List Nat)} {c : Nat} {e : Nat × Int}

/-- The slacks of the ticks that core `c` ran in a window, with how many ticks had each. -/
def State.tickSlacks (s : State) (ticks : List (List (BitVec 12))) (counts : List (List Nat)) (c : Nat) : List (Int × Nat) :=
  (((ticks.getD c []).zip (counts.getD c [])).filter (fun e => e.2 != 0)).map (fun e => (s.tickSlack c e.1.toNat, e.2))

/-- The corrected least slack of core `c` in a window, where it ran a tick. -/
def State.coreMeasure (s : State) (ticks : List (List (BitVec 12))) (counts : List (List Nat)) (c : Nat) :
    Option (Nat × Int) :=
  match s.tickSlacks ticks counts c with
  | [] => none
  | e :: l => some (c, s.correctedSlack c (l.foldl (fun m x => min m x.1) e.1))

/-- The cores that a window measures, with their corrected slacks. -/
def State.windowMeasures (s : State) (ticks : List (List (BitVec 12))) (counts : List (List Nat)) : List (Nat × Int) :=
  (upTo s.coreCount).filterMap (s.coreMeasure ticks counts)

theorem coreMeasure_core (h : s.coreMeasure ticks counts c = some e) : e.1 = c := by
  unfold State.coreMeasure at h
  split at h
  · cases h
  · injection h with h
    rw [← h]

theorem mem_windowMeasures :
    e ∈ s.windowMeasures ticks counts ↔ e.1 < s.coreCount ∧ s.coreMeasure ticks counts e.1 = some e := by
  simp only [State.windowMeasures, upTo, List.mem_filterMap, List.mem_range]
  constructor
  · rintro ⟨c, hc, he⟩
    obtain rfl := coreMeasure_core he
    exact ⟨hc, he⟩
  · exact fun h => ⟨e.1, h⟩

theorem coreCount_le : s.coreCount ≤ 40 := by unfold State.coreCount; split <;> decide

/-- A core is measured once. -/
theorem windowMeasures_distinct : (s.windowMeasures ticks counts).Pairwise fun a b => a.1 ≠ b.1 := by
  refine List.Pairwise.filterMap _ (fun c d hcd a ha b hb => ?_) List.nodup_range
  rw [coreMeasure_core ha, coreMeasure_core hb]
  exact hcd

/-- A core that ran a tick is measured. -/
theorem exists_coreMeasure {x : BitVec 12 × Nat} (hx : x ∈ (ticks.getD c []).zip (counts.getD c [])) (hn : x.2 ≠ 0) :
    ∃ v, s.coreMeasure ticks counts c = some (c, v) := by
  have hmem : (s.tickSlack c x.1.toNat, x.2) ∈ s.tickSlacks ticks counts c :=
    List.mem_map_of_mem (List.mem_filter.mpr ⟨hx, by simpa using hn⟩)
  unfold State.coreMeasure
  split
  · rename_i h
    rw [h] at hmem
    cases hmem
  · exact ⟨_, rfl⟩

/-- The slack of a core whose ticks all took one time. -/
theorem coreMeasure_single {p : BitVec 12} {n : Nat} (hticks : ticks.getD c [] = [p]) (hcounts : counts.getD c [] = [n])
    (hn : n ≠ 0) : s.coreMeasure ticks counts c = some (c, s.correctedSlack c (s.tickSlack c p.toNat)) := by
  have h : s.tickSlacks ticks counts c = [(s.tickSlack c p.toNat, n)] := by
    simp only [State.tickSlacks, hticks, hcounts]
    simp [hn]
  rw [State.coreMeasure, h]
  rfl

end Measured

/-! ### The stored baseline (R104) -/

section Baseline
variable {now : List (Nat × Int)} {c : Nat} {e : Nat × Int}

/-- The slacks of the stored baseline, none where there is no baseline. -/
def Keep.baselineSlacks (k : Keep) : Tab Int := (k.baseline.map Baseline.slack).getD []

/-- The measurements of a window whose core has no history yet. -/
def State.firstMeasures (s : State) (now : List (Nat × Int)) : List (Nat × Int) := now.filter fun e => !s.hasHistory e.1

theorem bind_baseline {k : Keep} : (k.baseline.bind fun b => tfind b.slack c) = tfind k.baselineSlacks c := by
  unfold Keep.baselineSlacks
  cases k.baseline <;> rfl

theorem hasHistory_iff : s.hasHistory c = true ↔ ∃ v, tfind s.keep.baselineSlacks c = some v := by
  rw [State.hasHistory, bind_baseline, Option.isSome_iff_exists]

theorem storeBaseline_of_none (h : s.firstMeasures now = []) : s.storeBaseline now = s :=
  if_pos (List.isEmpty_iff.mpr h)

/-- The baseline to which first measurements are added: the defaults where none stands. -/
def State.startBaseline (s : State) : Baseline :=
  s.keep.baseline.getD
    { slack := [], vStart := [defaultStart, defaultStart]
      gain := [defaultGain (s.get F.PACE_TABLE1_v_step), defaultGain (s.get F.PACE_TABLE1_v_step)]
      tempCo := [defaultTemp, defaultTemp] }

theorem startBaseline_slack : s.startBaseline.slack = s.keep.baselineSlacks := by
  unfold State.startBaseline Keep.baselineSlacks
  cases s.keep.baseline <;> rfl

theorem storeBaseline_keep (h : s.firstMeasures now ≠ []) : (s.storeBaseline now).keep =
    { s.keep with baseline := some { s.startBaseline with
        slack := (s.firstMeasures now).foldl (fun t e => tput t e.1 e.2) s.startBaseline.slack } } := by
  have hraise : ∀ (b : Bool) (u : State), (if b then u.raise Code.KEEP_BASELINE_ABSENT [] else u).keep = u.keep := by
    intro b u
    cases b
    · rfl
    · exact raise_keep
  have hnew : ¬ (s.firstMeasures now).isEmpty = true := by simpa using h
  exact (congrArg State.keep (if_neg hnew)).trans ((hraise _ _).trans (each_set_keep.trans showKeep_keep))

/-- Each first measurement becomes the baseline of its core. -/
theorem storeBaseline_slacks : (s.storeBaseline now).keep.baselineSlacks =
    (s.firstMeasures now).foldl (fun t e => tput t e.1 e.2) s.keep.baselineSlacks := by
  by_cases h : s.firstMeasures now = []
  · rw [storeBaseline_of_none h, h]
    rfl
  · rw [storeBaseline_keep h, ← startBaseline_slack]
    rfl

/-- A measurement of a core without a history becomes its baseline. -/
theorem storeBaseline_first (hnow : now.Pairwise fun a b => a.1 ≠ b.1) (he : e ∈ now) (hh : s.hasHistory e.1 = false) :
    tfind (s.storeBaseline now).keep.baselineSlacks e.1 = some e.2 := by
  rw [storeBaseline_slacks]
  exact tfind_foldl_tput_mem _ (hnow.filter _) (List.mem_filter.mpr ⟨he, by simp [hh]⟩)

/-- A core with a history keeps its baseline. -/
theorem storeBaseline_later (hh : s.hasHistory c = true) :
    tfind (s.storeBaseline now).keep.baselineSlacks c = tfind s.keep.baselineSlacks c := by
  rw [storeBaseline_slacks]
  refine tfind_foldl_tput_ne _ fun e he hc => ?_
  have hnew := (List.mem_filter.mp he).2
  rw [hc, hh] at hnew
  cases hnew

/-- Every core that a window measures has a history after it. -/
theorem storeBaseline_hasHistory (hnow : now.Pairwise fun a b => a.1 ≠ b.1) (he : e ∈ now) :
    (s.storeBaseline now).hasHistory e.1 = true := by
  rw [hasHistory_iff]
  cases hh : s.hasHistory e.1 with
  | false => exact ⟨_, storeBaseline_first hnow he hh⟩
  | true =>
    rw [storeBaseline_later hh]
    exact hasHistory_iff.mp hh

end Baseline

/-! ### The rest of a slack window (R103, R105, R109) -/

theorem satSigned_lt {w : Nat} {v : Int} : satSigned w v < 2 ^ w := by
  rw [satSigned, ofSigned, Int.toNat_lt' (Nat.two_pow_pos w), Int.natCast_pow]
  exact Int.emod_lt_of_pos _ (Int.pow_pos (by decide))

section Window
variable {ticks : List (List (BitVec 12))} {counts : List (List Nat)} {hub : BitVec 12} {now : List (Nat × Int)} {c : Nat}
  {e : Nat × Int} {below : List Nat}

/-- What the planner keeps of a window: how many ticks of each core were below guard, and the least slack of the hour. -/
def State.noteWindow (s : State) (below : List Nat) (now : List (Nat × Int)) : State :=
  let least := fun (t : Tab Int) (e : Nat × Int) => tput t e.1 (match tfind t e.1 with | some v => min v e.2 | none => e.2)
  { s with pace := { s.pace with below := (upTo 40).foldl (fun t c => tset 0 t c (below.getD c 0)) []
                                 hourLeast := now.foldl least s.pace.hourLeast } }

/-- The least slack of each die that has a measured core. -/
def State.showDieSlacks (s : State) (now : List (Nat × Int)) : State :=
  s.each [0, 1] (fun s d =>
    match (now.filter (fun e => dieOfCore e.1 == d)).map (fun e => e.2) with
    | [] => s
    | v :: r => s.set (F.PACE_DIE_least_slack d) (satSigned 11 (r.foldl min v)))

/-- The waymarks of a window: a hub below 100 ps, and without the planner each core below guard. -/
def State.warnSlack (s : State) (hub : BitVec 12) (now : List (Nat × Int)) : State :=
  let s := if hub.toInt < 100 then s.slackLow 40 hub.toInt else s
  if s.get F.PACE_STATUS_upkeep_mode ≤ upkeepLIVE then
    s.each now (fun s e => if e.2 < s.guard then s.slackLow e.1 e.2 else s)
  else s

/-- How many ticks of each core were below guard. -/
def State.ticksBelow (s : State) (ticks : List (List (BitVec 12))) (counts : List (List Nat)) : List Nat :=
  (upTo s.coreCount).map (fun c =>
    ((s.tickSlacks ticks counts c).filter (fun e => e.1 < s.guard)).foldl (fun n e => n + e.2) 0)

/-- Each measured core shows its corrected slack. -/
def State.showSlacks (s : State) (now : List (Nat × Int)) : State :=
  s.each now (fun s e => s.set (F.PACE_SLACK_slack e.1) (satSigned 12 e.2))

/-- The state after a window of which `now` was measured. -/
def State.windowEnd (s : State) (below : List Nat) (now : List (Nat × Int)) (hub : BitVec 12) : State :=
  ((((((s.storeBaseline now).showSlacks now).noteWindow below now).showDieSlacks now).set F.PACE_HUB_slack hub.toNat).warnSlack
    hub now)

theorem exec_slackWindow : exec (.slackWindow ticks counts hub) s =
    s.run fun s => s.windowEnd (s.ticksBelow ticks counts) (s.windowMeasures ticks counts) hub := rfl

theorem showDieSlacks_frame : Frame (1 <<< 81) s (s.showDieSlacks now) := by
  refine State.each_frame (Frame.refl _ s) fun u d h => ?_
  split
  · exact h
  · exact State.set_frame (F.PACE_DIE_least_slack_kind _) (by decide) h

theorem warnSlack_frame : Frame State.slackLow_mask s (s.warnSlack hub now) := by
  have hlow : ∀ (u : State) c v, Frame State.slackLow_mask s u → Frame State.slackLow_mask s (u.slackLow c v) :=
    fun _ _ _ h => State.slackLow_frame (Within.refl _) h
  have hhub := Frame.ite (c := hub.toInt < 100) (hlow s 40 hub.toInt (Frame.refl _ s)) (Frame.refl _ s)
  exact Frame.ite (State.each_frame hhub fun u e h => Frame.ite (hlow u _ _ h) h) hhub

/-- A window changes the keep store by the baselines alone. -/
theorem windowEnd_keep : (s.windowEnd below now hub).keep = (s.storeBaseline now).keep := by
  rw [State.windowEnd, warnSlack_frame.keep rfl, set_keep, showDieSlacks_frame.keep rfl]
  exact each_set_keep

theorem windowEnd_hubSlack : (s.windowEnd below now hub).get F.PACE_HUB_slack = hub.toNat := by
  rw [State.windowEnd, warnSlack_frame.get _ (by decide), State.get_set (by decide)]
  exact Nat.mod_eq_of_lt hub.isLt

/-- Cores of one module have each a slack register of their own. -/
theorem slackKey_ne {c d : Nat} (hc : c < 40) (hd : d < 40) (h : c ≠ d) :
    (F.PACE_SLACK_slack c).key ≠ (F.PACE_SLACK_slack d).key := by
  simp only [F.PACE_SLACK_slack]
  omega

theorem windowEnd_slack (hnow : now.Pairwise fun a b => a.1 ≠ b.1) (hcores : ∀ e ∈ now, e.1 < 40) (he : e ∈ now) :
    (s.windowEnd below now hub).get (F.PACE_SLACK_slack e.1) = satSigned 12 e.2 := by
  have hkeys : now.Pairwise fun a b => (F.PACE_SLACK_slack a.1).key ≠ (F.PACE_SLACK_slack b.1).key :=
    hnow.imp_of_mem fun ha hb hab => slackKey_ne (hcores _ ha) (hcores _ hb) hab
  rw [State.windowEnd, warnSlack_frame.get _ (by rw [F.PACE_SLACK_slack_kind]; decide), State.get_set_kind (by simp),
    showDieSlacks_frame.get _ (by rw [F.PACE_SLACK_slack_kind]; decide), State.noteWindow, get_mk, regGet_regs,
    State.showSlacks,
    get_each_set_mem (g := fun e : Nat × Int => F.PACE_SLACK_slack e.1) (by simp [F.PACE_SLACK_slack]) hkeys he]
  exact Nat.mod_eq_of_lt satSigned_lt

/-- What a window leaves of the measurements, where the module runs. -/
theorem slackWindow_ends (hp : s.powered = true) : ∃ t, exec (.slackWindow ticks counts hub) s = .next t ∧
    t.keep = (s.storeBaseline (s.windowMeasures ticks counts)).keep ∧ t.get F.PACE_HUB_slack = hub.toNat ∧
    ∀ e ∈ s.windowMeasures ticks counts, t.get (F.PACE_SLACK_slack e.1) = satSigned 12 e.2 := by
  rw [exec_slackWindow]
  refine run_answers_of_effect hp rfl fun t ht =>
    ⟨ht.keep_driven.trans windowEnd_keep, (ht.get_driven (by decide)).trans windowEnd_hubSlack, fun e he => ?_⟩
  rw [ht.get_driven (by rw [F.PACE_SLACK_slack_kind]; decide)]
  exact windowEnd_slack windowMeasures_distinct
    (fun d hd => Nat.lt_of_lt_of_le (mem_windowMeasures.mp hd).1 coreCount_le) he

theorem hasHistory_of_keep (h : t.keep = u.keep) : t.hasHistory c = u.hasHistory c := by
  rw [State.hasHistory, State.hasHistory, h]

/-- Where every core has a history, nothing is left to store. -/
theorem firstMeasures_of_history (h : ∀ c < s.coreCount, s.hasHistory c = true) :
    s.firstMeasures (s.windowMeasures ticks counts) = [] := by
  refine List.filter_eq_nil_iff.mpr fun e he => ?_
  simp [h _ (mem_windowMeasures.mp he).1]

end Window

/-! ### The slack log (R104) -/

theorem exec_slackLogWrite : exec .slackLogWrite s = execSlackLogWrite s := rfl

/-- The hour's record of the slack log. -/
def State.hourRecord (s : State) : SlackRec :=
  { cores := (upTo 40).map fun c => match tfind s.pace.hourLeast c with
      | none => (0x80 : BitVec 8)
      | some v => BitVec.ofNat 8 (satSigned 8 (v / 5))
    volts := [s.get (F.PACE_DIE_voltage 0), s.get (F.PACE_DIE_voltage 1)]
    seconds := s.opSeconds, cycles := s.get F.KEEP_POWER_CYCLES_count }

theorem slackLogWrite_adds (hp : s.powered = true) : ∃ t, exec .slackLogWrite s = .next t ∧
    t.flash.slack = (s.hourRecord :: s.flash.slack).take 16384 := by
  rw [exec_slackLogWrite, execSlackLogWrite]
  exact run_answers_of_effect hp rfl fun t ht => by rw [ht.flash_driven]; rfl

/-! ### A plan evaluation (R104, R106, R107) -/

section Plan
variable {c d : Nat}

/-- Each live core shows its trend. -/
def State.showTrends (s : State) : State := s.each s.liveCores fun s c => s.set (F.PACE_SLACK_trend c) (s.trendOf c)

/-- What an ageing mode adds to an evaluation. -/
def State.planAgeing (s : State) : State :=
  if !s.ageing || s.keep.baseline.isNone then s else (s.each s.dies State.planRaises).propose

theorem exec_planEvaluation : exec .planEvaluation s = s.run fun s => s.showTrends.planAgeing := rfl

theorem trendOf_set_trend {v : Nat} : (s.set (F.PACE_SLACK_trend d) v).trendOf c = s.trendOf c := by
  have hseconds : (s.set (F.PACE_SLACK_trend d) v).opSeconds = s.opSeconds := by
    simp [State.opSeconds, State.get64, State.get_set_kind]
  simp only [State.trendOf, State.decline, hseconds, set_flash]

/-- The trends of one evaluation are those of its start. -/
theorem showTrends_eq : s.showTrends = s.each s.liveCores fun u c => u.set (F.PACE_SLACK_trend c) (s.trendOf c) := by
  suffices ∀ (l : List Nat) (u : State), (∀ c, u.trendOf c = s.trendOf c) →
      (u.each l fun u c => u.set (F.PACE_SLACK_trend c) (u.trendOf c)) =
        u.each l fun u c => u.set (F.PACE_SLACK_trend c) (s.trendOf c) from this _ s fun _ => rfl
  intro l
  induction l with
  | nil => exact fun u _ => by rw [State.each_nil, State.each_nil]
  | cons d l ih =>
    intro u hu
    rw [State.each_cons, State.each_cons, hu d, ih _ fun c => trendOf_set_trend.trans (hu c)]

theorem showTrends_frame : Frame (1 <<< 82) s s.showTrends :=
  State.each_frame (Frame.refl _ s) fun _ _ h => State.set_frame (F.PACE_SLACK_trend_kind _) (by decide) h

theorem showTrends_trend (hc : c ∈ s.liveCores) :
    s.showTrends.get (F.PACE_SLACK_trend c) = s.trendOf c % 2 ^ (F.PACE_SLACK_trend c).width := by
  have hlive : s.liveCores.Pairwise fun a b => (F.PACE_SLACK_trend a).key ≠ (F.PACE_SLACK_trend b).key :=
    (List.nodup_range.filter _).imp_of_mem fun ha hb hab =>
      slackKey_ne (List.mem_range.mp (List.mem_filter.mp ha).1) (List.mem_range.mp (List.mem_filter.mp hb).1) hab
  rw [showTrends_eq]
  exact get_each_set_mem (by simp [F.PACE_SLACK_trend]) hlive hc s

theorem planAgeing_frame : Frame State.propose_mask s s.planAgeing :=
  Frame.ite (Frame.refl _ s) (State.propose_frame (Within.refl _)
    (State.each_frame (Frame.refl _ s) fun _ _ h => State.planRaises_frame rfl h))

theorem planAgeing_of_not (h : s.ageing = false) : s.planAgeing = s := if_pos (by simp [h])

theorem planEvaluation_shows (hp : s.powered = true) : ∃ t, exec .planEvaluation s = .next t ∧
    (∀ c ∈ s.liveCores, t.get (F.PACE_SLACK_trend c) = s.trendOf c % 2 ^ (F.PACE_SLACK_trend c).width) ∧
    (s.ageing = false → t.pace = s.pace) := by
  rw [exec_planEvaluation]
  refine run_answers_of_effect hp rfl fun t ht => ⟨fun c hc => ?_, fun hage => ?_⟩
  · rw [ht.get_driven (by rw [F.PACE_SLACK_trend_kind]; decide),
      planAgeing_frame.get _ (by rw [F.PACE_SLACK_trend_kind]; decide), showTrends_trend hc]
  · have hstays : s.showTrends.ageing = false := by
      rw [← hage, State.ageing, State.ageing, showTrends_frame.get _ (by decide)]
    rw [ht.pace_driven, planAgeing_of_not hstays, showTrends_frame.pace rfl]

end Plan

/-! ### The window of the planner (R107, R113) -/

/-- The planner's window stands in `t` as in `u`. -/
structure State.SameWindow (t u : State) : Prop where
  port : t.pace.windowPort = u.pace.windowPort
  fresh : t.pace.windowFresh = u.pace.windowFresh

section PlanWindow
variable {f : State → State} {m : BitVec 11}

theorem State.SameWindow.of_pace (h : t.pace = u.pace) : t.SameWindow u := ⟨by rw [h], by rw [h]⟩

theorem State.SameWindow.refl (s : State) : s.SameWindow s := ⟨rfl, rfl⟩

theorem State.SameWindow.trans (h : s.SameWindow t) (k : t.SameWindow u) : s.SameWindow u :=
  ⟨h.port.trans k.port, h.fresh.trans k.fresh⟩

theorem State.SameWindow.ite {p : Prop} [Decidable p] (h : s.SameWindow u) (k : t.SameWindow u) :
    (if p then s else t).SameWindow u := by split <;> assumption

theorem State.SameWindow.set {g : Field} {v : Nat} (h : s.SameWindow u) : (s.set g v).SameWindow u :=
  (State.SameWindow.of_pace set_pace).trans h

theorem State.SameWindow.raise {c : Nat} {ps : List Nat} (h : s.SameWindow u) : (s.raise c ps).SameWindow u :=
  (State.SameWindow.of_pace raise_pace).trans h

theorem State.SameWindow.slackLow {c : Nat} {v : Int} (h : s.SameWindow u) : (s.slackLow c v).SameWindow u := by
  have hlow : ∀ x : Tab Nat, ({ s with pace := { s.pace with lowAt := x } } : State).SameWindow u :=
    fun _ => ⟨h.port, h.fresh⟩
  exact .ite h (.ite (hlow _).raise (hlow _).raise)

/-- A proposal is no part of the window. -/
theorem propose_sameWindow : s.propose.SameWindow s := by
  unfold State.propose
  extract_lets dies short planned ceil want new warned
  have hwarned : warned.SameWindow s :=
    .ite (State.each_keeps (P := fun u => u.SameWindow s) (fun _ _ h => .ite h.slackLow h) _ _ (.refl s)) (.refl s)
  exact .ite (State.SameWindow.refl s).set.set (.ite hwarned.set.set (.ite hwarned hwarned.set.set.raise))

/-- A port without the right is told so in PACE_PLAN_STATUS (Table PACE-6). -/
def State.planRole (s : State) (i : Port) : State := if s.privileged i then s else s.set F.PACE_PLAN_STATUS_refusal 1

theorem planCmd_privileged (hr : s.privileged i = true) : (s.planRole i).paceCmd i planCtrlAt f = f s := by
  rw [State.planRole, if_pos hr, paceCmd_privileged hr]

theorem planCmd_refused (hr : s.privileged i = false) : (s.planRole i).paceCmd i planCtrlAt f =
    (s.set F.PACE_PLAN_STATUS_refusal 1).raise Code.PACE_ROLE [i, planCtrlAt] := by
  have hr' : (s.set F.PACE_PLAN_STATUS_refusal 1).privileged i = false := by
    rw [← hr]
    simp [State.privileged, State.role, State.get_set_kind]
  rw [State.planRole, if_neg (by simp [hr]), paceCmd_refused hr']

theorem get_set_refusal {v : Nat} (hv : v < 2 ^ 3) :
    (s.set F.PACE_PLAN_STATUS_refusal v).get F.PACE_PLAN_STATUS_refusal = v :=
  (State.get_set (by decide)).trans (Nat.mod_eq_of_lt hv)

/-- The window is open for port `i` and `m` minutes from here on, and its first boundary is still to come. -/
def State.openFor (s : State) (i : Port) (m : Nat) : State :=
  let u := (s.set F.PACE_STATUS_window_open 1).set F.PACE_PLAN_STATUS_minutes_left m
  { u with pace := { u.pace with windowPort := i, windowFresh := true, windowAt := u.clk.now } }

theorem openFor_open {m : Nat} : (s.openFor i m).get F.PACE_STATUS_window_open = 1 := by
  rw [State.openFor, get_mk, regGet_regs, State.get_set_kind (by simp), State.get_set (by decide)]
  rfl

theorem exec_openWindow : exec (.openWindow i m) s = s.run fun s => (s.planRole i).paceCmd i planCtrlAt fun s =>
    if !s.ageing then s.set F.PACE_PLAN_STATUS_refusal 2
    else if m.toNat = 0 || m.toNat > 1440 then s.set F.PACE_PLAN_STATUS_refusal 3
    else ((s.openFor i m.toNat).raise Code.PLAN_WINDOW [i, 0, m.toNat]).propose := rfl

theorem openWindow_opens (hp : s.powered = true) (hr : s.privileged i = true) (hage : s.ageing = true)
    (hm : m.toNat ≠ 0) (hmax : m.toNat ≤ 1440) : ∃ t, exec (.openWindow i m) s = .next t ∧
      t.get F.PACE_STATUS_window_open = 1 ∧ t.pace.windowPort = i ∧ t.pace.windowFresh = true := by
  rw [exec_openWindow]
  have hframe : ∀ u : State, Frame State.propose_mask u u.propose :=
    fun u => State.propose_frame (Within.refl _) (Frame.refl _ u)
  refine run_answers_of_effect hp ((planCmd_privileged hr).trans ((if_neg (by simp [hage])).trans (if_neg (by simp [hm, hmax]))))
    fun t ht => ⟨?_, ?_, ?_⟩
  · rw [ht.get_driven (by decide), (hframe _).get _ (by decide), get_raise (by decide), openFor_open]
  · rw [ht.pace_driven, propose_sameWindow.port, raise_pace]
    rfl
  · rw [ht.pace_driven, propose_sameWindow.fresh, raise_pace]
    rfl

theorem openWindow_outOfRange (hp : s.powered = true) (hr : s.privileged i = true) (hage : s.ageing = true)
    (hm : m.toNat = 0 ∨ 1440 < m.toNat) : ∃ t, exec (.openWindow i m) s = .next t ∧
      t.get F.PACE_STATUS_window_open = s.get F.PACE_STATUS_window_open ∧ t.get F.PACE_PLAN_STATUS_refusal = 3 := by
  rw [exec_openWindow]
  exact run_answers_of_effect hp
    ((planCmd_privileged hr).trans ((if_neg (by simp [hage])).trans (if_pos (by simpa using hm)))) fun t ht =>
    ⟨(ht.get_driven (by decide)).trans (State.get_set_kind (by simp)),
      (ht.get_driven (by decide)).trans (get_set_refusal (by decide))⟩

theorem openWindow_refused (hp : s.powered = true) (hr : s.privileged i = false) : ∃ t, exec (.openWindow i m) s = .next t ∧
    t.get F.PACE_STATUS_window_open = s.get F.PACE_STATUS_window_open ∧ t.get F.PACE_PLAN_STATUS_refusal = 1 := by
  rw [exec_openWindow]
  exact run_answers_of_effect hp (planCmd_refused hr) fun t ht =>
    ⟨(ht.get_driven (by decide)).trans ((get_raise (by decide)).trans (State.get_set_kind (by simp))),
      (ht.get_driven (by decide)).trans ((get_raise (by decide)).trans (get_set_refusal (by decide)))⟩

/-- After the end of a window none is open. -/
theorem closeWindow_closed {n : Nat} : (s.closeWindow n).get F.PACE_STATUS_window_open = 0 := by
  unfold State.closeWindow
  split
  · rename_i h
    simpa [State.on] using h
  · simp only
    rw [get_raise (by decide), get_mk, regGet_regs, State.get_set_kind (by simp), State.get_set (by decide)]
    rfl

theorem exec_closeWindow : exec (.closeWindow i) s =
    s.run fun s => (s.planRole i).paceCmd i planCtrlAt fun s => s.closeWindow i := rfl

theorem exec_planWindowExpired : exec .planWindowExpired s =
    s.run fun s => (s.set F.PACE_PLAN_STATUS_minutes_left 0).closeWindow s.pace.windowPort := rfl

theorem closeWindow_closes (hp : s.powered = true) (hr : s.privileged i = true) :
    ∃ t, exec (.closeWindow i) s = .next t ∧ t.get F.PACE_STATUS_window_open = 0 := by
  rw [exec_closeWindow]
  exact run_answers_of_effect hp (planCmd_privileged hr) fun t ht => (ht.get_driven (by decide)).trans closeWindow_closed

theorem planWindowExpired_closes (hp : s.powered = true) :
    ∃ t, exec .planWindowExpired s = .next t ∧ t.get F.PACE_STATUS_window_open = 0 := by
  rw [exec_planWindowExpired]
  exact run_answers_of_effect hp rfl fun t ht => (ht.get_driven (by decide)).trans closeWindow_closed

end PlanWindow

/-! ### The metronome (R114) -/

section Metronome
variable {f : Field} {locked : Bool} {cause : BitVec 32}

/-- A one-bit field is the number of its truth value. -/
theorem get_eq_bit (hw : f.width = 1) : s.get f = bit (s.on f) := by
  have hlt : s.get f < 2 := by simpa [hw] using get_lt (s := s) (f := f)
  rcases (by omega : s.get f = 0 ∨ s.get f = 1) with h | h <;> simp [State.on, h]

theorem exec_metronomeUnlocked : exec (.metronomeUnlocked locked cause) s = execMetronomeUnlocked locked cause s := rfl

theorem metronomeUnlocked_shows (hp : s.powered = true) : ∃ t, exec (.metronomeUnlocked locked cause) s = .next t ∧
    t.get F.PACE_STATUS_metronome_lock = bit locked ∧
    (s.get F.PACE_STATUS_metronome_lock ≠ bit locked → t.wrote Code.METRONOME_UNLOCKED [cause.toNat]) := by
  rw [exec_metronomeUnlocked, execMetronomeUnlocked]
  by_cases h : s.on F.PACE_STATUS_metronome_lock = locked
  · have hbit : s.get F.PACE_STATUS_metronome_lock = bit locked := (get_eq_bit rfl).trans (congrArg bit h)
    exact run_answers_of_effect hp (if_pos (by simpa using h)) fun t ht =>
      ⟨(ht.get_driven (by decide)).trans hbit, fun hne => absurd hbit hne⟩
  · refine run_answers_of_effect hp (if_neg (by simpa using h)) fun t ht =>
      ⟨?_, fun _ => ht.wrote_driven raise_wrote⟩
    rw [ht.get_driven (by decide), get_raise (by decide), State.setB_def, State.get_set (by decide)]
    cases locked <;> rfl

end Metronome

/-- Settles O10: each clause is an outcome of a command above; what a window stores follows from what it measures. -/
theorem slackAndPlan : Obligations.SlackAndPlan := by
  unfold Obligations.SlackAndPlan
  refine ⟨?missHub, ?missCore, ?window, ?log, ?plan, ?opens, ?outOfRange, ?refused, ?closes, ?expired, ?metronome⟩
  case missHub => exact fun s slip => paceMiss_hub
  case missCore => exact fun s c slip => paceMiss_core
  case window =>
    intro s ticks counts hub hp
    obtain ⟨t, ht, hkeep, hhub, hslack⟩ := slackWindow_ends (ticks := ticks) (counts := counts) (hub := hub) hp
    have hsingle : ∀ (c : Nat) (p : BitVec 12) (n : Nat), c < s.coreCount → ticks.getD c [] = [p] →
        counts.getD c [] = [n] → n ≠ 0 →
        (c, s.correctedSlack c (s.tickSlack c p.toNat)) ∈ s.windowMeasures ticks counts :=
      fun c p n hc hp hn h0 => mem_windowMeasures.mpr ⟨hc, coreMeasure_single hp hn h0⟩
    refine ⟨t, ht, hhub, fun c x hc hx hn => ?history, fun h => ?stays, fun c p n hc htick hcount hn hh => ?first,
      fun c p n hc htick hcount hn => hslack _ (hsingle c p n hc htick hcount hn)⟩
    case history =>
      obtain ⟨v, hv⟩ := exists_coreMeasure hx hn
      rw [hasHistory_of_keep hkeep]
      exact storeBaseline_hasHistory (e := (c, v)) windowMeasures_distinct (mem_windowMeasures.mpr ⟨hc, hv⟩)
    case stays => rw [hkeep, storeBaseline_of_none (firstMeasures_of_history h)]
    case first =>
      rw [bind_baseline, hkeep]
      exact storeBaseline_first (e := (c, _)) windowMeasures_distinct (hsingle c p n hc htick hcount hn) hh
  case log =>
    intro s hp
    obtain ⟨t, ht, hlog⟩ := slackLogWrite_adds hp
    exact ⟨t, ht, s.hourRecord, hlog, by simp [State.hourRecord, upTo], rfl, rfl, rfl⟩
  case plan => exact fun s => planEvaluation_shows
  case opens => exact fun s i m => openWindow_opens
  case outOfRange => exact fun s i m => openWindow_outOfRange
  case refused => exact fun s i m => openWindow_refused
  case closes => exact fun s i => closeWindow_closes
  case expired => exact fun s => planWindowExpired_closes
  case metronome => exact fun s locked cause => metronomeUnlocked_shows

end Sys2Proof.Machine
end

section
/-! PROOFS. Cores that fail (R123, R124, R126, R131, R132, R134): what the declaration of a failure leaves, and a lemma for each outcome
of CORE_HANG, DETOUR_REQUEST and FENCE_CLEAR. -/

namespace Sys2Proof.Machine

variable {s t u : State} {i : Port}

/-! ### A failed core (R123, R124, R131) -/

/-- Core `c` stands FAILED with its cause: it is on the fence list, and nothing that it ran is in progress. -/
structure State.FailedCore (t : State) (c cause : Nat) : Prop where
  role : t.coreRole c = coreFAILED
  cause : t.get (F.CORE_FAIL_cause c) = cause
  fence : c ∈ t.cores.fence
  idle : t.core c = coreExec0

section Fail
variable {c cause test k W : Nat} {l : Option Nat}

/-- What leaves CORE_ID, CORE_FAIL, the fence list and the cores' execution leaves a failed core failed. -/
theorem State.FailedCore.of_frame (h : u.FailedCore c cause) (hf : Frame W u t) (hid : W.testBit 367 = false)
    (hfail : W.testBit 370 = false) (hcores : W.testBit Area.cores.num = false)
    (hexec : W.testBit Area.exec.num = false) : t.FailedCore c cause where
  role := (hf.get (F.CORE_ID_role c) ((congrArg W.testBit (F.CORE_ID_role_kind c)).trans hid)).trans h.role
  cause := (hf.get (F.CORE_FAIL_cause c) ((congrArg W.testBit (F.CORE_FAIL_cause_kind c)).trans hfail)).trans h.cause
  fence := (hf.cores hcores) ▸ h.fence
  idle := (congrArg (tget coreExec0 · c) (hf.exec hexec)).trans h.idle

theorem State.FailedCore.raise {code : Nat} {ps : List Nat} (h : u.FailedCore c cause) :
    (u.raise code ps).FailedCore c cause :=
  h.of_frame (State.raise_frame (Within.refl _) (Frame.refl _ _)) rfl rfl rfl rfl

theorem State.FailedCore.fireOwners {p : Option Nat} {v : Nat} (h : u.FailedCore c cause) :
    (u.fireOwners p v).FailedCore c cause :=
  h.of_frame (State.fireOwners_frame (Within.refl _) (Frame.refl _ _)) rfl rfl rfl rfl

theorem State.FailedCore.spareGone (h : u.FailedCore c cause) : (u.spareGone k).FailedCore c cause :=
  h.of_frame (State.spareGone_frame (Within.refl _) (Frame.refl _ _)) rfl rfl rfl rfl

/-- The detours that fall due are beside what a failed core shows. -/
theorem State.FailedCore.due {d : List (Nat × Nat × Nat)} (h : u.FailedCore c cause) :
    State.FailedCore { u with cores := { u.cores with due := d } } c cause :=
  ⟨h.role, h.cause, h.fence, h.idle⟩

/-- The registers of a core that fails: its role, its cause and the period (R123). -/
def State.declareFailed (s : State) (c cause : Nat) : State :=
  let u := (s.set (F.CORE_ID_role c) coreFAILED).set (F.CORE_FAIL_cause c) cause
  (u.set (F.CORE_FAIL_period c) u.period).setBit (F.CORE_CLUSTER_failed (5 * (c / 5))) (c % 5) true

/-- Core `c` enters the fence list, once (R131). -/
def State.fenceCore (s : State) (c : Nat) : State :=
  if s.cores.fence.contains c then s else s.fenceWrite (s.cores.fence ++ [c])

/-- What the legs of the failed core's logical core posted and nobody took is discarded (R124). -/
def State.withdrawOf (s : State) : Option Nat → State
  | some q => s.withdrawVerges q
  | none => s

/-- What core `c` ran for logical core `l` is discarded, and its execution starts anew (R124). -/
def State.stopCore (s : State) (c : Nat) (l : Option Nat) : State := ((s.withdrawOf l).setCore c coreExec0).showCore c

theorem declareFailed_role : (s.declareFailed c cause).coreRole c = coreFAILED := by
  simp (disch := simp) only [State.declareFailed, State.coreRole, State.setBit, State.get_set_kind]
  exact State.get_set (by simp [F.CORE_ID_role])

theorem declareFailed_cause (hc : cause < 2 ^ 4) : (s.declareFailed c cause).get (F.CORE_FAIL_cause c) = cause := by
  have happart : ∀ (u : State) (v : Nat), (u.set (F.CORE_FAIL_period c) v).get (F.CORE_FAIL_cause c) =
      u.get (F.CORE_FAIL_cause c) := fun u v =>
    State.get_set_field rfl (by simp [F.CORE_FAIL_cause, F.CORE_FAIL_period]) (by simp [F.CORE_FAIL_cause])
  rw [State.declareFailed, State.setBit, State.get_set_kind (by simp), happart,
    State.get_set (f := F.CORE_FAIL_cause c) (by simp [F.CORE_FAIL_cause])]
  exact Nat.mod_eq_of_lt hc

theorem mem_fenceCore : c ∈ (s.fenceCore c).cores.fence := by
  unfold State.fenceCore State.fenceWrite
  split
  next h => simpa using h
  next => split <;> simp_all

theorem fenceCore_get {f : Field} : (s.fenceCore c).get f = s.get f := by
  unfold State.fenceCore State.fenceWrite
  split
  · rfl
  · split <;> rfl

theorem showCore_fence : (s.showCore c).cores.fence = s.cores.fence := by
  unfold State.showCore
  split <;> rfl

theorem showCore_exec : (s.showCore c).exec = s.exec :=
  (State.showCore_frame (Within.refl _) (Frame.refl _ s)).exec rfl

/-- What stopping a core changes: the verges, the memory, the core's execution and its status. -/
def State.stopCore_mask : Nat := State.showCore_mask ||| State.setCore_mask ||| State.withdrawVerges_mask

theorem withdrawOf_frame : Frame State.withdrawVerges_mask s (s.withdrawOf l) := by
  cases l with
  | none => exact Frame.refl _ _
  | some q => exact State.withdrawVerges_frame (Within.refl _) (Frame.refl _ _)

theorem stopCore_frame : Frame State.stopCore_mask s (s.stopCore c l) :=
  State.showCore_frame rfl (State.setCore_frame rfl (Frame.mono (A := State.withdrawVerges_mask) rfl withdrawOf_frame))

theorem stopCore_fence : (s.stopCore c l).cores.fence = s.cores.fence :=
  showCore_fence.trans (congrArg CoreMapSt.fence (withdrawOf_frame.cores rfl))

theorem stopCore_core : (s.stopCore c l).core c = coreExec0 := by
  unfold State.core State.stopCore
  rw [showCore_exec]
  exact tget_tset_self coreExec0 (s.withdrawOf l).exec c coreExec0

/-- A core that was declared failed stands failed once it is fenced and stopped. -/
theorem stopCore_failedCore (hc : cause < 2 ^ 4) :
    (((s.declareFailed c cause).fenceCore c).stopCore c l).FailedCore c cause where
  role := (stopCore_frame.get (F.CORE_ID_role c) (by rw [F.CORE_ID_role_kind]; decide)).trans
    (fenceCore_get.trans declareFailed_role)
  cause := (stopCore_frame.get (F.CORE_FAIL_cause c) (by rw [F.CORE_FAIL_cause_kind]; decide)).trans
    (fenceCore_get.trans (declareFailed_cause hc))
  fence := by rw [stopCore_fence]; exact mem_fenceCore
  idle := stopCore_core

/-- A declared failure fences and stops the core; the reports and the detours that follow leave it so (R123, R126). -/
theorem failCore_failedCore (habsent : s.coreRole c ≠ coreABSENT) (hfailed : s.coreRole c ≠ coreFAILED)
    (hdies : s.board.diesOff = false) (hc : cause < 2 ^ 4) : (s.failCore c cause test).FailedCore c cause := by
  rw [State.failCore, if_neg (by simp [habsent, hfailed, hdies])]
  extract_lets cluster l leg declared numbered fenced withdrawn stopped
  have h : stopped.FailedCore c cause := stopCore_failedCore (s := s) (l := l) hc
  clear_value stopped
  split
  · split
    · exact h.spareGone.raise.fireOwners.raise
    · exact h.spareGone.raise.fireOwners
  · split
    · exact h.raise.fireOwners.spareGone.due
    · split
      · exact h.raise.fireOwners
      · exact h.raise.fireOwners.due

theorem failCore_diesOff (hdies : s.board.diesOff = true) : s.failCore c cause test = s :=
  if_pos (by simp [hdies])
end Fail

/-! ### CORE_HANG (R123) -/

section Commands
variable {c : CoreId} {cause : Nat}

theorem State.Same.cores_driven (h : t.Same u.driveOutputs) : t.cores = u.cores := h.cores.trans driveOutputs_cores

theorem State.Same.coreRole_driven {k : Nat} (h : t.Same u.driveOutputs) : t.coreRole k = u.coreRole k :=
  h.get_driven (by rw [F.CORE_ID_role_kind]; decide)

theorem State.FailedCore.driven {k : Nat} (h : u.FailedCore k cause) (ht : t.Same u.driveOutputs) : t.FailedCore k cause where
  role := ht.coreRole_driven.trans h.role
  cause := (ht.get_driven (by rw [F.CORE_FAIL_cause_kind]; decide)).trans h.cause
  fence := ht.cores_driven ▸ h.fence
  idle := (congrArg (tget coreExec0 · k) ht.exec_driven).trans h.idle

theorem exec_coreHang : exec (.coreHang c) s = execCoreHang c s := rfl

theorem coreHang_fails (hp : s.powered = true) (hdies : s.board.diesOff = false) (habsent : s.coreRole c ≠ coreABSENT)
    (hfailed : s.coreRole c ≠ coreFAILED) : ∃ t, exec (.coreHang c) s = .next t ∧ t.FailedCore c failHANG := by
  rw [exec_coreHang, execCoreHang]
  exact run_answers_of_effect hp rfl fun t ht => (failCore_failedCore habsent hfailed hdies (by decide)).driven ht

theorem coreHang_diesOff (hp : s.powered = true) (hdies : s.board.diesOff = true) :
    ∃ t, exec (.coreHang c) s = .next t ∧ t.coreRole c = s.coreRole c ∧ t.cores = s.cores ∧ t.exec = s.exec := by
  rw [exec_coreHang, execCoreHang]
  exact run_answers_of_effect hp (failCore_diesOff hdies) fun t ht =>
    ⟨ht.coreRole_driven, ht.cores_driven, ht.exec_driven⟩

/-! ### DETOUR_REQUEST (R123, R132, R134) -/

theorem exec_detourRequest : exec (.detourRequest i c) s = execDetourRequest i c s := rfl

theorem coreRole_raise {k code : Nat} {ps : List Nat} : (s.raise code ps).coreRole k = s.coreRole k :=
  get_raise (by rw [F.CORE_ID_role_kind]; decide)

theorem coreRole_raiseAt {k j code : Nat} {ps : List Nat} : (s.raiseAt j code ps).coreRole k = s.coreRole k :=
  get_raiseAt (by rw [F.CORE_ID_role_kind]; decide)

theorem detourRequest_fails (hp : s.powered = true) (hdies : s.board.diesOff = false) (hcore : c.val < s.coreCount)
    (hr : s.privileged i = true) (hactive : s.coreRole c = coreACTIVE) (hspare : s.spareOf (c.val / 5) ≠ none)
    (hlive : s.liveDetours = true) : ∃ t, exec (.detourRequest i c) s = .next t ∧ t.FailedCore c failREQUEST := by
  rw [exec_detourRequest, execDetourRequest]
  refine run_answers_of_effect (u := s.failCore c failREQUEST) hp ?_ fun t ht =>
    (failCore_failedCore (by simp [hactive, coreACTIVE, coreABSENT]) (by simp [hactive, coreACTIVE, coreFAILED]) hdies
      (by decide)).driven ht
  rw [if_neg (by simp [hr]), if_neg (by simp [hactive, hcore]), if_neg (by simpa using hspare), if_neg (by simp [hlive])]

theorem detourRequest_unprivileged (hp : s.powered = true) (hr : s.privileged i = false) :
    ∃ t, exec (.detourRequest i c) s = .next t ∧ t.coreRole c = s.coreRole c ∧ t.cores = s.cores ∧
      t.wrote Code.CORE_ROLE [i, coreCtrlAt c] := by
  rw [exec_detourRequest, execDetourRequest]
  exact run_answers_of_effect hp (if_pos (by simp [hr])) fun t ht =>
    ⟨ht.coreRole_driven.trans coreRole_raiseAt, ht.cores_driven.trans raiseAt_cores, ht.wrote_driven raiseAt_wrote⟩

/-- The reason for which a request of a privileged port is refused. -/
def State.detourRefusal (s : State) (c : CoreId) : Nat :=
  if c.val ≥ s.coreCount || s.coreRole c != coreACTIVE then detNOTACTIVE
  else if (s.spareOf (c.val / 5)).isNone then detNOSPARE else detAGE

theorem detourRefusal_beyond (h : s.coreCount ≤ c.val) : s.detourRefusal c = detNOTACTIVE := if_pos (by simp [h])

theorem detourRequest_refused (hp : s.powered = true) (hr : s.privileged i = true)
    (h : s.coreCount ≤ c.val ∨ s.coreRole c ≠ coreACTIVE ∨ s.spareOf (c.val / 5) = none ∨ s.liveDetours = false) :
    ∃ t, exec (.detourRequest i c) s = .next t ∧ t.coreRole c = s.coreRole c ∧ t.cores = s.cores ∧
      t.wrote Code.DETOUR_REFUSED [i, c, s.detourRefusal c] := by
  rw [exec_detourRequest, execDetourRequest]
  refine run_answers_of_effect (u := s.raise Code.DETOUR_REFUSED [i, c, s.detourRefusal c]) hp ?_ fun t ht =>
    ⟨ht.coreRole_driven.trans coreRole_raise, ht.cores_driven.trans raise_cores, ht.wrote_driven raise_wrote⟩
  rw [if_neg (by simp [hr]), State.detourRefusal]
  split
  · rfl
  next hcore =>
    split
    · rfl
    next hspare =>
      have hlive : s.liveDetours = false := by
        rcases h with h | h | h | h
        · exact absurd (by simp [h]) hcore
        · exact absurd (by simp [h]) hcore
        · exact absurd (by simp [h]) hspare
        · exact h
      exact if_pos (by simp [hlive])

/-! ### FENCE_CLEAR (R131, R134) -/

theorem exec_fenceClear : exec (.fenceClear i c) s = execFenceClear i c s := rfl

/-- The cores whose fence is to be lifted at the next restart, with core `c`. -/
def State.noteFenceClear (s : State) (c : Nat) : State :=
  let l := if s.cores.fenceClear.contains c then s.cores.fenceClear else s.cores.fenceClear ++ [c]
  { s with cores := { s.cores with fenceClear := l } }

theorem mem_noteFenceClear {k : Nat} : k ∈ (s.noteFenceClear k).cores.fenceClear := by
  unfold State.noteFenceClear
  by_cases h : k ∈ s.cores.fenceClear <;> simp [h]

theorem fenceClear_notes (hp : s.powered = true) (hr : s.role i = roleSERVICE) (hfailed : s.coreRole c = coreFAILED) :
    ∃ t, exec (.fenceClear i c) s = .next t ∧ c.val ∈ t.cores.fenceClear ∧ t.wrote Code.CORE_FENCE_CLEARED [i, c] := by
  rw [exec_fenceClear, execFenceClear]
  refine run_answers_of_effect (u := (s.noteFenceClear c).raise Code.CORE_FENCE_CLEARED [i, c]) hp
    ((if_neg (by simp [hr])).trans (if_neg (by simp [hfailed]))) fun t ht => ⟨?_, ht.wrote_driven raise_wrote⟩
  rw [ht.cores_driven, raise_cores]
  exact mem_noteFenceClear

theorem fenceClear_refused (hp : s.powered = true) (hr : s.role i ≠ roleSERVICE) :
    ∃ t, exec (.fenceClear i c) s = .next t ∧ t.cores = s.cores ∧ t.wrote Code.CORE_ROLE [i, coreCtrlAt c] := by
  rw [exec_fenceClear, execFenceClear]
  exact run_answers_of_effect hp (if_pos (by simpa using hr)) fun t ht =>
    ⟨ht.cores_driven.trans raiseAt_cores, ht.wrote_driven raiseAt_wrote⟩

end Commands
end Sys2Proof.Machine
end

section
/-! PROOFS. What lands at a period boundary (R62, R126, R208, R247) leaves the STRUCTURE section and the latest build as they stand: a lemma
for each operation that writes the running image or the scheduler there. -/

namespace Sys2Proof.Machine

variable {s t u : State}

/-! ### The latest build and the STRUCTURE section -/

/-- Every area but the running image and the scheduler. -/
def besidesBuild : Nat := 0xfffffffffffffffffffffffffffffffffffffffffffffffffffffffffffffffffffffffffffffffffffffffffffffffffdfe

/-- `t` has the STRUCTURE section of `s`, and the latest build as it stands there: what the reading of the sheet headers depends on. -/
structure State.SameBuild (t s : State) : Prop where
  structureSec : t.cfg.structureSec = s.cfg.structureSec
  built : t.route.built = s.route.built
  buildFor : t.route.buildFor = s.route.buildFor

namespace State.SameBuild
section Operations
variable {s0 : State} {n p j c : Nat}

theorem refl (s : State) : s.SameBuild s := ⟨rfl, rfl, rfl⟩

theorem frame (h : s.SameBuild s0) (hf : Frame besidesBuild s t) : t.SameBuild s0 := by
  have hcfg := hf.cfg rfl
  have hroute := hf.route rfl
  exact ⟨hcfg ▸ h.structureSec, hroute ▸ h.built, hroute ▸ h.buildFor⟩

theorem route {r : RouteSt} (h : s.SameBuild s0) (hb : r.built = s.route.built) (hn : r.buildFor = s.route.buildFor) :
    State.SameBuild { s with route := r } s0 := ⟨h.structureSec, hb.trans h.built, hn.trans h.buildFor⟩

theorem ite {b : Prop} [Decidable b] (ht : t.SameBuild s0) (hu : u.SameBuild s0) :
    State.SameBuild (if b then t else u) s0 := by split <;> assumption

theorem each {α : Type} {l : List α} {f : State → α → State} (h : s.SameBuild s0)
    (hf : ∀ s a, s.SameBuild s0 → (f s a).SameBuild s0) : (s.each l f).SameBuild s0 := by
  induction l generalizing s with
  | nil => exact h
  | cons a l ih => exact ih (hf s a h)

theorem set {f : Field} {v : Nat} (h : s.SameBuild s0) : (s.set f v).SameBuild s0 :=
  ⟨h.structureSec, h.built, h.buildFor⟩

theorem setPool {x : Pool} (h : s.SameBuild s0) : (s.setPool p x).SameBuild s0 := ⟨h.structureSec, h.built, h.buildFor⟩

theorem raise {code : Nat} {ps : List Nat} (h : s.SameBuild s0) : (s.raise code ps).SameBuild s0 :=
  h.frame (State.raise_frame rfl (.refl _ _))

theorem store {a : Nat} {bs : List Byte} (h : s.SameBuild s0) : (s.store a bs).SameBuild s0 :=
  h.frame (State.store_frame rfl (.refl _ _))

theorem invalidate {tags : List Nat} (h : s.SameBuild s0) : (s.invalidate p tags c).SameBuild s0 :=
  h.frame (State.invalidate_frame rfl (.refl _ _))

theorem showPool (h : s.SameBuild s0) : (s.showPool p).SameBuild s0 := h.frame (State.showPool_frame rfl (.refl _ _))

theorem fireOwners {o : Option Nat} (h : s.SameBuild s0) : (s.fireOwners o n).SameBuild s0 :=
  h.frame (State.fireOwners_frame rfl (.refl _ _))

theorem setJob {b : Job} (h : s.SameBuild s0) : (s.setJob j b).SameBuild s0 := h.route rfl rfl

theorem setIter {it : Iter} (h : s.SameBuild s0) : (s.setIter it).SameBuild s0 := h.route rfl rfl

theorem clearBaseline (h : s.SameBuild s0) : (s.clearBaseline j).SameBuild s0 := by
  unfold State.clearBaseline
  split
  · exact h
  · exact h.setJob.set.set

/-! The operations that write the running image or the scheduler, each after those that it uses; what an operation writes beside them is a
step of its `Frame`. In the proofs `s1`, `s2` and so on are the states that the operation passes through, and `src` is the component that an
update of one starts from. -/

/-! A STEP of the clock (R332) -/

theorem release {b : Job} {g : Nat} {t : TemplateCfg} {tags : List Nat} {input : BitVec 256}
    {ring : Option (Nat × Nat)} (h : s.SameBuild s0) : (s.release j b g t tags input n ring).SameBuild s0 := by
  unfold State.release
  extract_lets den fold
  split
  next heq =>
    refine (setJob ?_).route rfl rfl
    split at heq <;> (injection heq with _ hs; subst hs)
    · exact h.frame (State.alloc_frame rfl rfl (.refl _ _))
    · exact h

theorem releaseEvents {sel : TemplateCfg → Bool} {tags : List Nat} {input : BitVec 256} {ring : Option (Nat × Nat)}
    (h : s.SameBuild s0) : (s.releaseEvents p sel tags input ring).SameBuild s0 :=
  h.each fun s e h => by
    dsimp only
    split
    · exact h.release.ite h
    · exact h

theorem closeBatches {fuel : Nat} (h : s.SameBuild s0) : (s.closeBatches p fuel).SameBuild s0 := by
  induction fuel generalizing s with
  | zero => exact h
  | succ fuel ih =>
    unfold State.closeBatches
    extract_lets q
    split
    · exact (h.frame (State.queueState_frame rfl (.refl _ _))).ite h
    next b rest _ =>
      extract_lets s1 s2
      have h1 : s1.SameBuild s0 := by
        unfold s1
        split
        · exact (h.each fun _ _ h => h.store).store
        · exact h
      exact h.ite (ih (releaseEvents ⟨h1.structureSec, h1.built, h1.buildFor⟩))

theorem voidSample {b : IngBatch} {i : Nat} {x : IngSlot} {cause : Nat} (h : s.SameBuild s0) :
    (s.voidSample p b i x cause).SameBuild s0 := by
  unfold State.voidSample
  extract_lets s1 s2 s3
  have h1 : s1.SameBuild s0 := by
    unfold s1
    split
    · exact h.store
    · exact h
  exact (h1.frame (State.setBatch_frame rfl (.refl _ _))).set.raise.closeBatches

theorem stepLive (h : s.SameBuild s0) : s.stepLive.SameBuild s0 := by
  unfold State.stepLive
  extract_lets captured s1
  have h1 : s1.SameBuild s0 := h.each fun _ _ h => h.each fun _ _ h => h.each fun s i h => by
    split
    · exact h.voidSample.ite h
    · exact h
  exact h1.frame (Frame.isp_upd rfl (.refl _ _))

theorem landClock (h : s.SameBuild s0) : (s.landClock n).SameBuild s0 := by
  unfold State.landClock
  extract_lets s1
  have h1 : s1.SameBuild s0 := stepLive (h.frame (State.landStep_frame rfl (.refl _ _)))
  exact h.ite (h1.each fun _ _ h => h.frame (State.lateLaunches_frame rfl (.refl _ _)))

/-! The pace plan (R98, R107) -/

theorem landPace (h : s.SameBuild s0) : s.landPace.SameBuild s0 := by
  unfold State.landPace
  extract_lets old plans pace s1 s2 src s3 now s4 s5
  have h2 : s2.SameBuild s0 := ite (h.set.set.set.frame (State.showReduced_frame rfl (.refl _ _))) h
  have h3 : s3.SameBuild s0 := h2.frame (Frame.pace_upd rfl (.refl _ _))
  have h4 : s4.SameBuild s0 := h3.ite h3.set.raise
  have h5 : s5.SameBuild s0 := h4.frame (State.landDerate_frame rfl (.refl _ _))
  exact h5.ite (h5.each fun _ _ h => h.clearBaseline)

/-! Detours and losses (R126, R129, R242) -/

theorem replayVerges {sel : LegRun → Bool} {on : Nat → Bool} (h : s.SameBuild s0) :
    (s.replayVerges sel on).SameBuild s0 := h.route rfl rfl

theorem putBack {g : LegRun} {fresh : Bool} (h : s.SameBuild s0) : (s.putBack g fresh).SameBuild s0 := by
  unfold State.putBack
  split
  · exact h
  · exact h.setIter

theorem unplace {g : LegRun} (h : s.SameBuild s0) : (s.unplace g).SameBuild s0 := by
  unfold State.unplace
  extract_lets s1
  have h1 : s1.SameBuild s0 := h.replayVerges.frame (State.clearLeg_frame rfl (.refl _ _))
  exact putBack (h1.route rfl rfl)

theorem landDetours (h : s.SameBuild s0) : (s.landDetours n).SameBuild s0 := by
  unfold State.landDetours
  extract_lets l src s1
  have h1 : s1.SameBuild s0 := ⟨h.structureSec, h.built, h.buildFor⟩
  refine h1.each fun s d h => ?_
  obtain ⟨c, v, due⟩ := d
  dsimp -zeta only
  extract_lets k s2 outside src s3
  have h2 : s2.SameBuild s0 := h.set.frame (State.showOwner_frame rfl (.refl _ _))
  have h3 : s3.SameBuild s0 := ⟨h2.structureSec, h2.built, h2.buildFor⟩
  split
  · exact h
  · extract_lets p s4 s5 s6 src s7 s8 s9 s10
    have h4 : s4.SameBuild s0 := (h2.frame (State.setMap_frame rfl (.refl _ _))).set
    have h6 : s6.SameBuild s0 :=
      h3.set.set.frame (State.setCore_frame rfl (State.spareGone_frame rfl (State.setMap_frame rfl (.refl _ _))))
    have h7 : s7.SameBuild s0 := ⟨h6.structureSec, h6.built, h6.buildFor⟩
    have h9 : s9.SameBuild s0 :=
      (h7.set.frame (State.showCore_frame rfl (State.showOwner_frame rfl (.refl _ _)))).route rfl rfl
    exact ite h4.raise.fireOwners h9.replayVerges.raise.fireOwners

theorem landMap (h : s.SameBuild s0) : (s.landMap n).SameBuild s0 := by
  unfold State.landMap
  extract_lets gone moved s1 s2
  have h2 : s2.SameBuild s0 := h.landDetours.each fun _ _ h => h.unplace
  refine h2.each fun s e h => ?_
  exact ((h.frame (State.loadResidency_frame rfl (.refl _ _))).each fun _ _ h =>
    h.frame (State.writeLengths_frame rfl (.refl _ _))).each fun _ _ h => h.clearBaseline.ite h

/-! Sections (R61 to R66) -/

theorem takeLandings (h : s.SameBuild s0) : (s.takeLandings n).SameBuild s0 := by
  refine h.each fun s p h => h.ite ?_
  extract_lets src s1 g s2
  have h1 : s1.SameBuild s0 := ⟨h.structureSec, h.built, h.buildFor⟩
  have h2 : s2.SameBuild s0 := h1.route rfl rfl
  exact h2.frame (State.carrySequences_frame rfl (.refl _ _))

theorem landSafety {y : SafetySec} (h : s.SameBuild s0) : (s.landSafety y).SameBuild s0 := by
  unfold State.landSafety
  extract_lets srcCfg srcZld srcSafe s1 s2 s3
  have h1 : s1.SameBuild s0 := ⟨h.structureSec, h.built, h.buildFor⟩
  have h2 : s2.SameBuild s0 := h1.each fun _ _ h => h.set
  have h3 : s3.SameBuild s0 :=
    (ite (h2.frame (State.kickKind_frame rfl (.refl _ _))) h2).frame (State.kickKind_frame rfl (.refl _ _))
  exact h3.set.frame (State.enterSafe_frame rfl (.refl _ _))

theorem endIter {it : Iter} (h : s.SameBuild s0) : (s.endIter it c).SameBuild s0 := by
  unfold State.endIter
  extract_lets s1 s2
  have h2 : s2.SameBuild s0 := by
    unfold s2
    split
    · exact (h.invalidate).frame (State.ready_frame rfl (State.draw_frame rfl rfl (State.drawDigest_frame rfl rfl (.refl _ _))))
    · exact h.invalidate
  exact h2.route rfl rfl

theorem emptyPool (h : s.SameBuild s0) : (s.emptyPool p).SameBuild s0 := by
  unfold State.emptyPool
  extract_lets x tags s1 s2 src s3
  have h2 : s2.SameBuild s0 := (h.each fun _ _ h => h.endIter).invalidate
  have h3 : s3.SameBuild s0 := h2.route rfl rfl
  exact h3.frame (State.countHeld_frame rfl (State.startPool_frame rfl (.refl _ _)))

theorem clearVerges (h : s.SameBuild s0) : (s.clearVerges p).SameBuild s0 := by
  unfold State.clearVerges
  extract_lets cores verges old
  refine h.each fun s v h => h.each fun s c h => ?_
  extract_lets a s1 s2
  have h2 : s2.SameBuild s0 := h.store.each fun _ _ h => h.store
  exact h.ite (h2.route rfl rfl)

theorem dropOld (h : s.SameBuild s0) : (s.dropOld p).SameBuild s0 := by
  unfold State.dropOld
  extract_lets x used keep src c left srcZld s1
  have h1 : s1.SameBuild s0 := ⟨h.structureSec, h.built, h.buildFor⟩
  exact h1.ite ((h1.frame (State.refreshPool_frame rfl (.refl _ _))).each fun _ _ h => h.setJob.ite h)

theorem landPart {a : Armed} (h : s.SameBuild s0) : (s.landPart n a).SameBuild s0 := by
  unfold State.landPart
  extract_lets p g c tables srcZld srcRoute srcSafe s1 s2 s3 s4 srcFio s5 s6
  have h1 : s1.SameBuild s0 := ⟨h.structureSec, h.built, h.buildFor⟩
  have h2 : s2.SameBuild s0 := (h1.ite h1.emptyPool).clearVerges
  have h3 : s3.SameBuild s0 := h2.each fun _ _ h => h.ite (h.clearBaseline.set.ite h.clearBaseline)
  have h4 : s4.SameBuild s0 := h3.frame (State.showClaims_frame rfl (State.showProgram_frame rfl (.refl _ _)))
  have h5 : s5.SameBuild s0 := h4.frame (Frame.fio_upd rfl (.refl _ _))
  have h6 : s6.SameBuild s0 := ite (h5.each fun _ _ h => h.set) h5
  exact h6.dropOld

theorem adoptFull {b : Nat} (h : s.SameBuild s0) : (s.adoptFull b).SameBuild s0 := by
  unfold State.adoptFull
  split
  · exact h
  · extract_lets src s1 s2
    have h1 : s1.SameBuild s0 := ⟨h.structureSec, h.built, h.buildFor⟩
    have h2 : s2.SameBuild s0 := h1.each fun _ _ h => h.set
    exact h.ite (h2.each fun _ _ h => h.set.set.set)

theorem landSections (h : s.SameBuild s0) : (s.landSections n).SameBuild s0 := by
  unfold State.landSections
  extract_lets s1 due s2 s3
  have h1 : s1.SameBuild s0 := h.takeLandings
  have h2 : s2.SameBuild s0 := h1.each fun s a h => by
    extract_lets s4 s5
    have h4 : s4.SameBuild s0 := by
      unfold s4
      split
      · exact h.landSafety
      · exact h.landPart
    exact h4.set.set.raise.frame (State.fireAll_frame rfl (.refl _ _))
  have h3 : s3.SameBuild s0 := by
    unfold s3
    split
    · exact h2.adoptFull
    · exact h2
  exact h1.ite (h3.frame (State.showArmed_frame rfl (.refl _ _)))


theorem freeJob (h : s.SameBuild s0) : (s.freeJob j).SameBuild s0 := by
  unfold State.freeJob
  split
  · exact h
  next b _ =>
    extract_lets due srcRoute s1 s2 s3 x live s4 s5
    have h1 : s1.SameBuild s0 := h.route rfl rfl
    have h4 : s4.SameBuild s0 := h1.set.set.invalidate
    have h5 : s5.SameBuild s0 := h4.ite h4.setPool.showPool
    exact h.ite (h5.frame (State.countJobs_frame rfl (State.checkQuota_frame rfl (.refl _ _))))

theorem landJobs (h : s.SameBuild s0) : (s.landJobs n).SameBuild s0 := by
  unfold State.landJobs
  extract_lets s1
  have h1 : s1.SameBuild s0 := by
    refine h.each fun s e h => ?_
    obtain ⟨j, b⟩ := e
    refine ite ?_ h
    extract_lets ends lone tags x s2 parts s3 src s4 idle s5
    have h2 : s2.SameBuild s0 := ite h.setPool.showPool h
    have h4 : s4.SameBuild s0 := h2.invalidate.route rfl rfl
    have h5 : s5.SameBuild s0 := h4.each fun _ _ h => h.endIter
    exact h5.raise.freeJob
  refine h1.each fun s e h => ?_
  extract_lets s2
  have h2 : s2.SameBuild s0 := ite h.set h
  exact ite h2.set h2

theorem landDefers (h : s.SameBuild s0) : s.landDefers.SameBuild s0 := by
  unfold State.landDefers
  extract_lets s1 src
  have h1 : s1.SameBuild s0 := h.each fun _ _ h => h.set.set
  exact h1.route rfl rfl

theorem landCuts (h : s.SameBuild s0) : (s.landCuts n).SameBuild s0 := by
  unfold State.landCuts
  extract_lets due src s1 s2 s3
  have h1 : s1.SameBuild s0 := h.route rfl rfl
  have h2 : s2.SameBuild s0 := h1.each fun _ _ h => h.raise
  have h3 : s3.SameBuild s0 := h2.each fun _ _ h => ite h.set.raise h.set.set.raise
  exact h3.each fun _ _ h => h.set.set.set

/-! The steps that begin (R208, R210) -/

theorem latency {lat : Nat} {alone : Bool} (h : s.SameBuild s0) : (s.latency j lat alone).SameBuild s0 := by
  unfold State.latency
  split
  · exact h
  next b _ =>
    extract_lets lats solos made left s1 s2 base b1 v s3 limit
    have h1 : s1.SameBuild s0 := ite h.set h
    have h2 : s2.SameBuild s0 := ite h1.set.raise h1
    exact h2.setJob.ite (ite h2.set.setJob.raise h2.set.setJob)

theorem completeIter {it : Iter} {r : LegReport} (h : s.SameBuild s0) : (s.completeIter it r).SameBuild s0 := by
  unfold State.completeIter
  extract_lets lat s1 prog mask d s2 s3 tie src s4
  have h2 : s2.SameBuild s0 := by
    unfold s2
    split
    · exact h.set.frame (State.ready_frame rfl (State.digestRecord_frame rfl (.refl _ _)))
    · exact h.set
  have h3 : s3.SameBuild s0 := h2.latency
  have h4 : s4.SameBuild s0 := h3.setIter.ite (h3.route rfl rfl)
  exact h4.dropOld.freeJob

theorem endLeg {g : LegRun} (h : s.SameBuild s0) : (s.endLeg g).SameBuild s0 := by
  unfold State.endLeg
  extract_lets src s1 s2 s3
  have h1 : s1.SameBuild s0 := h.route rfl rfl
  have h2 : s2.SameBuild s0 := by
    unfold s2
    split
    · exact h1.setIter
    · exact h1
  have h3 : s3.SameBuild s0 := h2.frame (State.clearLeg_frame rfl (.refl _ _))
  exact ite h3.showPool h3

theorem afterLeg {g : LegRun} {r : LegReport} (h : s.SameBuild s0) : (s.afterLeg g r).SameBuild s0 := by
  unfold State.afterLeg
  split
  · exact h.freeJob
  · exact ite (ite (h.route rfl rfl) h) (h.freeJob.ite (h.endIter.freeJob.ite h.completeIter))

theorem abortLeg {id : Nat} (h : s.SameBuild s0) : (s.abortLeg id c).SameBuild s0 := by
  unfold State.abortLeg
  split
  · exact h
  · exact h.invalidate.endLeg.afterLeg

theorem expireSnapshots (h : s.SameBuild s0) : (s.expireSnapshots p).SameBuild s0 := by
  unfold State.expireSnapshots
  exact h.each fun _ _ h => h.raise.abortLeg

theorem takeDraft {d : StepDraft} (h : s.SameBuild s0) : (s.takeDraft p d).SameBuild s0 := by
  unfold State.takeDraft
  exact setPool (h.route rfl rfl)

theorem kvStep (h : s.SameBuild s0) : (s.kvStep p n).SameBuild s0 := by
  unfold State.kvStep
  extract_lets g before s1 x ds s2 makes edits others due s3 x3 made s4 s5 s6
  have h1 : s1.SameBuild s0 := h.frame (State.retireGen_frame rfl (.refl _ _))
  have h2 : s2.SameBuild s0 := ite (h1.frame (State.refuseJoins_frame rfl (.refl _ _))) h1
  have h3 : s3.SameBuild s0 := h2.each fun _ _ h => h.takeDraft
  have h5 : s5.SameBuild s0 := h3.setPool.each fun _ _ h => h.frame (State.applyEdit_frame rfl (.refl _ _))
  exact (h5.setPool.set.frame (State.checkQuota_frame rfl (State.quotaCheck_frame rfl
    (State.writeTables_frame rfl (.refl _ _))))).showPool

theorem landSteps (h : s.SameBuild s0) : (s.landSteps n).SameBuild s0 := by
  unfold State.landSteps
  exact h.ite (h.each fun _ _ h => ite (h.expireSnapshots.kvStep.frame (State.kickAll_frame rfl (.refl _ _)))
    (ite h.expireSnapshots.kvStep h))

/-! Rejected sheets (R238) -/

theorem rejectSheet {l field : Nat} (h : s.SameBuild s0) : (s.rejectSheet n l field).SameBuild s0 := by
  unfold State.rejectSheet
  extract_lets s1 out src s2
  have h2 : s2.SameBuild s0 := h.raise.route rfl rfl
  exact h2.each fun _ _ h => h.putBack

end Operations
end State.SameBuild

end Sys2Proof.Machine
end

section
/-! PROOFS. The period boundary (R238, R247, R377): its order, the period number, the reading of the sheet headers, and from them and the
failed cores the statement O15. -/

namespace Sys2Proof.Machine

variable {s t u : State}

/-! ### The order of a period boundary (R247) -/

/-- The ticks that the cores completed in the period that ends are counted. -/
def State.countTicks (s : State) (x : PeriodIn) : State :=
  s.each (upTo 40) fun s c =>
    ((s.tick c (x.ticks.getD c 0)).carryTicks c (x.ticks.getD c 0)).perfEvent c 0x17 (x.outside.getD c 0)

/-- What lands at the boundary of period `n`, in the order of R247. -/
def State.landAll (s : State) (n : Nat) (full : List (Fin 126 × Fin 2)) : State :=
  let s := (s.reportFull full).perfBoundary.fixTriples
  let s := ((s.landRealign n).landClock n).landPace.landVoltage
  let s := ((((s.landMap n).landSections n).landJobs n).landDefers).landCuts n
  ((s.landSteps n).landStarts.landMail n).publishMail

/-- The sheets of period `n` begin, and the registers show it. -/
def State.beginSheets (s : State) (n : Nat) (overrun : List Nat) : State :=
  let ready := s.route.built && s.route.buildFor == n
  let s := ((s.startReplays n).startSheets n).leaveOld
  let s := if ready then s.each ((upTo 8).filter s.isSafetyPart) (fun s p => s.kickAll wdSHEET p) else s
  let s := ((s.kickKind wdTIMEBASE).countOverruns n overrun).showEngines.showWalkers
  let s := s.each (upTo 8) State.showIngest
  s.each (upTo 40) State.showCore

/-- The state in which the sheet headers of the next period are read. -/
def State.atHeaders (s : State) (x : PeriodIn) : State :=
  ((s.countTicks x).set64 F.ROUTE_PERIOD_LO_number F.ROUTE_PERIOD_HI_number (s.period + 1)).landAll (s.period + 1) x.full

theorem execPeriodBoundary_eq {x : PeriodIn} : execPeriodBoundary x s =
    s.run fun s => ((s.atHeaders x).readHeaders (s.period + 1) x.bad).beginSheets (s.period + 1) x.overrun := by
  unfold execPeriodBoundary State.atHeaders State.countTicks State.landAll State.beginSheets
  dsimp only

theorem exec_periodBoundary {x : PeriodIn} : exec (.periodBoundary x) s = execPeriodBoundary x s := rfl

/-- Every area but the registers of the period number. -/
def besidesPeriod : Nat := 0xffffffffffffffffffffffffffffffffffffffffffffffffffffffffffffffffffffffffffff9fffffffffffffffffffffff

/-- Every area but the registers of the period number and SAFE_STATUS. -/
def besidesPeriodAndSafe : Nat := 0xffffffffffffffffffffffffffffffff7fffffffffffffffffffffffffffffffffffffffffff9fffffffffffffffffffffff

/-! ### The period number (R247) -/

section Boundary
variable {n : Nat} {full : List (Fin 126 × Fin 2)} {overrun : List Nat} {x : PeriodIn}

theorem landAll_frame : Frame besidesPeriod s (s.landAll n full) :=
  State.publishMail_frame rfl <| State.landMail_frame rfl <| State.landStarts_frame rfl <| State.landSteps_frame rfl <|
  State.landCuts_frame rfl <| State.landDefers_frame rfl <| State.landJobs_frame rfl <| State.landSections_frame rfl <|
  State.landMap_frame rfl <| State.landVoltage_frame rfl <| State.landPace_frame rfl <| State.landClock_frame rfl <|
  State.landRealign_frame rfl <| State.fixTriples_frame rfl <| State.perfBoundary_frame rfl <|
  State.reportFull_frame rfl <| Frame.refl _ _

theorem beginSheets_frame : Frame besidesPeriodAndSafe s (s.beginSheets n overrun) := by
  have hready : Frame besidesPeriodAndSafe s ((s.startReplays n).startSheets n).leaveOld :=
    State.leaveOld_frame rfl <| State.startSheets_frame rfl <| State.startReplays_frame rfl <| Frame.refl _ _
  refine State.each_frame (State.each_frame (State.showWalkers_frame rfl <| State.showEngines_frame rfl <|
    State.countOverruns_frame rfl <| State.kickKind_frame rfl <| Frame.ite ?_ hready) ?_) ?_
  · exact State.each_frame hready fun _ _ h => State.kickAll_frame rfl h
  · exact fun _ _ h => State.showIngest_frame rfl h
  · exact fun _ _ h => State.showCore_frame rfl h

theorem Frame.period {W : Nat} (h : Frame W s t) (hlo : W.testBit 93 = false) (hhi : W.testBit 94 = false) :
    t.period = s.period := by
  simp only [State.period, State.get64]
  rw [h.get F.ROUTE_PERIOD_LO_number ((congrArg W.testBit F.ROUTE_PERIOD_LO_number_kind).trans hlo),
    h.get F.ROUTE_PERIOD_HI_number ((congrArg W.testBit F.ROUTE_PERIOD_HI_number_kind).trans hhi)]

theorem period_set64 {v : Nat} :
    (s.set64 F.ROUTE_PERIOD_LO_number F.ROUTE_PERIOD_HI_number v).period = v % 2 ^ 64 := by
  rw [State.period, State.get64, State.set64,
    State.get_set (f := F.ROUTE_PERIOD_HI_number) (by decide), State.get_set_kind (by simp),
    State.get_set (by decide)]
  simp only [F.ROUTE_PERIOD_LO_number, F.ROUTE_PERIOD_HI_number]
  omega

theorem State.Same.period_driven (h : t.Same u.driveOutputs) : t.period = u.period := by
  simp only [State.period, State.get64, h.get_driven (f := F.ROUTE_PERIOD_LO_number) (by decide),
    h.get_driven (f := F.ROUTE_PERIOD_HI_number) (by decide)]

theorem periodBoundary_counts (hp : s.powered = true) : ∃ t, exec (.periodBoundary x) s = .next t ∧
    t.period = (s.period + 1) % 2 ^ 64 := by
  rw [exec_periodBoundary, execPeriodBoundary_eq]
  refine run_answers_of_effect hp rfl fun t ht => ?_
  have hat : (s.atHeaders x).period = (s.period + 1) % 2 ^ 64 :=
    (landAll_frame.period (by decide) (by decide)).trans period_set64
  have hread : ((s.atHeaders x).readHeaders (s.period + 1) x.bad).period = (s.atHeaders x).period :=
    (State.readHeaders_frame (Within.refl _) (.refl _ _)).period rfl rfl
  have hbegin : (((s.atHeaders x).readHeaders (s.period + 1) x.bad).beginSheets (s.period + 1) x.overrun).period =
      ((s.atHeaders x).readHeaders (s.period + 1) x.bad).period := beginSheets_frame.period (by decide) (by decide)
  rw [ht.period_driven, hbegin, hread, hat]

end Boundary

/-! ### The sheet headers of a boundary (R238, R377) -/

section Headers
variable {n l f p : Nat}

theorem State.SameBuild.isSafetyPart (h : t.SameBuild s) : t.isSafetyPart p = s.isSafetyPart p := by
  simp only [State.isSafetyPart, State.part, h.structureSec]

theorem State.SameBuild.partOf (h : t.SameBuild s) : t.partOf l = s.partOf l := by
  simp only [State.partOf, State.part, h.structureSec]

/-- The checking of one header with a wrong field. -/
def State.judgeHeader (n : Nat) (s : State) (e : Nat × Nat) : State :=
  let s := if e.2 < headerFields then s.rejectSheet n e.1 e.2 else s
  match s.partOf e.1 with
  | some p =>
    if s.isSafetyPart p then
      (s.raise Code.SHEET_CHECK [e.1, n, e.2]).enterSafe Code.SHEET_CHECK (sourceUnit 0x11 255)
    else s
  | none => s

theorem readHeaders_eq {bad : List (Fin 32 × Fin 5)} (hbuilt : s.route.built = true) (hn : s.route.buildFor = n) :
    s.readHeaders n bad = s.each (s.route.sheets.filterMap (fun e => (sheetFault n e.2).map (fun f => (e.1, f))) ++
      bad.map (fun e => (e.1.val, e.2.val))) (State.judgeHeader n) := by
  rw [State.readHeaders, if_neg (by simp [hbuilt, hn])]
  rfl

theorem rejectIf_frame {b : Prop} [Decidable b] :
    Frame State.rejectSheet_mask s (if b then s.rejectSheet n l f else s) :=
  .ite (State.rejectSheet_frame (Within.refl _) (.refl _ _)) (.refl _ _)

theorem judgeHeader_sameBuild {e : Nat × Nat} (h : s.SameBuild u) : (s.judgeHeader n e).SameBuild u := by
  unfold State.judgeHeader
  extract_lets s1
  have h1 : s1.SameBuild u := .ite h.rejectSheet h
  split
  · exact .ite (h1.raise.frame (State.enterSafe_frame rfl (.refl _ _))) h1
  · exact h1

/-- Once the module is in the safe state, the judging of a further header leaves it there. -/
theorem judgeHeader_keepsSafe {e : Nat × Nat} (h : s.get F.SAFE_STATUS_state = safeSAFE) :
    (s.judgeHeader n e).get F.SAFE_STATUS_state = safeSAFE := by
  unfold State.judgeHeader
  extract_lets s1
  have h1 : s1.get F.SAFE_STATUS_state = safeSAFE := (rejectIf_frame.get _ (by decide)).trans h
  split
  · split
    · exact enterSafe_state
    · exact h1
  · exact h1

/-- A wrong field in the header of a core of a SAFETY partition takes the module to the safe state (R377). -/
theorem judgeHeader_entersSafe (hp : s.partOf l = some p) (hsafety : s.isSafetyPart p = true) :
    (s.judgeHeader n (l, f)).get F.SAFE_STATUS_state = safeSAFE := by
  unfold State.judgeHeader
  extract_lets s1
  have h1 : s1.SameBuild s := .ite (State.SameBuild.refl s).rejectSheet (.refl s)
  rw [h1.partOf, hp]
  dsimp only
  rw [if_pos (h1.isSafetyPart.trans hsafety)]
  exact enterSafe_state

theorem each_judgeHeader_keepsSafe {es : List (Nat × Nat)} (h : s.get F.SAFE_STATUS_state = safeSAFE) :
    (s.each es (State.judgeHeader n)).get F.SAFE_STATUS_state = safeSAFE := by
  induction es generalizing s with
  | nil => exact h
  | cons e es ih => exact ih (judgeHeader_keepsSafe h)

theorem each_append {α : Type} {a b : List α} {g : State → α → State} : s.each (a ++ b) g = (s.each a g).each b g :=
  List.foldl_append

theorem each_judgeHeader_entersSafe {es : List (Nat × Nat)} (he : (l, f) ∈ es) (hp : s.partOf l = some p)
    (hsafety : s.isSafetyPart p = true) : (s.each es (State.judgeHeader n)).get F.SAFE_STATUS_state = safeSAFE := by
  obtain ⟨before, after, rfl⟩ := List.append_of_mem he
  have hbefore : (s.each before (State.judgeHeader n)).SameBuild s :=
    (State.SameBuild.refl s).each fun _ _ => judgeHeader_sameBuild
  rw [each_append, State.each_cons]
  exact each_judgeHeader_keepsSafe
    (judgeHeader_entersSafe (hbefore.partOf.trans hp) (hbefore.isSafetyPart.trans hsafety))

theorem countTicks_frame {x : PeriodIn} : Frame besidesBuild s (s.countTicks x) :=
  State.each_frame (.refl _ _) fun _ _ h =>
    State.perfEvent_frame rfl (State.carryTicks_frame rfl (State.tick_frame rfl h))

theorem State.SameBuild.landAll {s0 : State} {full : List (Fin 126 × Fin 2)} (h : s.SameBuild s0) : (s.landAll n full).SameBuild s0 := by
  unfold State.landAll
  extract_lets s1 s2 s3
  have h1 : s1.SameBuild s0 := h.frame (State.fixTriples_frame rfl (State.perfBoundary_frame rfl
    (State.reportFull_frame rfl (.refl _ _))))
  have h2 : s2.SameBuild s0 := (h1.frame (State.landRealign_frame rfl (.refl _ _))).landClock.landPace.frame
    (State.landVoltage_frame rfl (.refl _ _))
  have h3 : s3.SameBuild s0 := h2.landMap.landSections.landJobs.landDefers.landCuts
  exact h3.landSteps.frame (State.publishMail_frame rfl (State.landMail_frame rfl (State.landStarts_frame rfl (.refl _ _))))

theorem atHeaders_sameBuild {x : PeriodIn} : (s.atHeaders x).SameBuild s :=
  ((State.SameBuild.refl s).frame countTicks_frame).set.set.landAll

theorem periodBoundary_entersSafe {x : PeriodIn} {l : Fin 32} {f : Fin 5} (hpower : s.powered = true)
    (hbuilt : s.route.built = true) (hn : s.route.buildFor = s.period + 1) (hbad : (l, f) ∈ x.bad)
    (hp : s.partOf l = some p) (hsafety : s.isSafetyPart p = true) :
    ∃ t, exec (.periodBoundary x) s = .next t ∧ t.get F.SAFE_STATUS_state = safeSAFE ∧ t.outputsOff := by
  rw [exec_periodBoundary, execPeriodBoundary_eq]
  refine run_answers_of_effect hpower rfl fun t ht => ?_
  have hat : (s.atHeaders x).SameBuild s := atHeaders_sameBuild
  have hread : ((s.atHeaders x).readHeaders (s.period + 1) x.bad).get F.SAFE_STATUS_state = safeSAFE := by
    rw [readHeaders_eq (hat.built.trans hbuilt) (hat.buildFor.trans hn)]
    exact each_judgeHeader_entersSafe (List.mem_append_right _ (List.mem_map.mpr ⟨(l, f), hbad, rfl⟩))
      (hat.partOf.trans hp) (hat.isSafetyPart.trans hsafety)
  have hstart : (((s.atHeaders x).readHeaders (s.period + 1) x.bad).beginSheets (s.period + 1) x.overrun).get
      F.SAFE_STATUS_state = safeSAFE := (beginSheets_frame.get F.SAFE_STATUS_state (by decide)).trans hread
  exact ⟨ht.get.trans (driveOutputs_state.trans hstart), Same_off ht hstart⟩

end Headers

/-- Settles O15: each clause is an outcome of a command above. -/
theorem boundaryAndCores : Obligations.BoundaryAndCores := by
  unfold Obligations.BoundaryAndCores
  refine ⟨?counts, ?headers, ?hang, ?hangOff, ?detour, ?unprivileged, ?lacks, ?beyond, ?clears, ?clearRefused⟩
  case counts => exact fun s x => periodBoundary_counts
  case headers => exact fun s x l f p => periodBoundary_entersSafe
  case hang =>
    intro s c hp hdies habsent hfailed
    obtain ⟨t, ht, r⟩ := coreHang_fails hp hdies habsent hfailed
    exact ⟨t, ht, r.role, r.cause, r.fence, r.idle⟩
  case hangOff => exact fun s c => coreHang_diesOff
  case detour =>
    intro s i c hp hdies hcore hr hactive hspare hlive
    obtain ⟨t, ht, r⟩ := detourRequest_fails hp hdies hcore hr hactive hspare hlive
    exact ⟨t, ht, r.role, r.cause, r.fence, r.idle⟩
  case unprivileged => exact fun s i c hp _ hr => detourRequest_unprivileged hp hr
  case lacks =>
    intro s i c hp _ hr h
    obtain ⟨t, ht, hrole, hcores, -⟩ := detourRequest_refused hp hr (.inr h)
    exact ⟨t, ht, hrole, hcores⟩
  case beyond =>
    intro s i c hp hcore hr
    obtain ⟨t, ht, -, hcores, hwrote⟩ := detourRequest_refused hp hr (.inl hcore)
    exact ⟨t, ht, hcores, detourRefusal_beyond hcore ▸ hwrote⟩
  case clears => exact fun s i c hp _ => fenceClear_notes hp
  case clearRefused => exact fun s i c hp _ => fenceClear_refused hp

end Sys2Proof.Machine
end

section
/-! PROOFS. Calls in flight (R182, R193, R202): what the start of a call leaves, which call completes first, what its end leaves, and
when the tokens that it signals are those of its core. -/

namespace Sys2Proof.Machine

variable {s t u : State} {x : Issue} {c : Nat}

/-! ### The sheets that bind the tokens of a core (R168) -/

/-- `t` runs the sheets of `s` on the same core map: the binding of a token and the partition of a core depend on these. -/
structure State.SameSheets (t s : State) : Prop where
  logicalOf : ∀ c, t.logicalOf c = s.logicalOf c
  cfg : t.cfg = s.cfg
  zld : t.zld = s.zld
  route : t.route = s.route

namespace State.SameSheets

theorem of_frame {W : Nat} (h : Frame W s t) (hid : W.testBit 367 = false) (hcfg : W.testBit Area.cfg.num = false)
    (hzld : W.testBit Area.zld.num = false) (hroute : W.testBit Area.route.num = false) : t.SameSheets s where
  logicalOf c := by
    unfold State.logicalOf
    rw [h.get _ ((congrArg W.testBit (F.CORE_ID_logical_kind c)).trans hid)]
  cfg := h.cfg hcfg
  zld := h.zld hzld
  route := h.route hroute

theorem programAt (h : t.SameSheets s) (p g : Nat) : t.programAt p g = s.programAt p g := by
  have hof : t.programOf p = s.programOf p := by
    funext a
    rw [State.programOf, State.programOf, State.program, State.program, h.cfg]
  rw [State.programAt, State.programAt, State.program, State.program, State.takenFor, State.takenFor, hof, h.cfg, h.zld, h.route]

theorem legDecl (h : t.SameSheets s) : t.legDecl = s.legDecl := by
  funext g
  rw [State.legDecl, State.legDecl, State.templateAt, State.templateAt, State.job?, State.job?, h.programAt, h.route]

theorem vergeOf (h : t.SameSheets s) (k : Nat) : t.vergeOf c k = s.vergeOf c k := by
  have hlegs : t.legsOn = s.legsOn := by
    funext l
    rw [State.legsOn, State.legsOn, h.route]
  rw [State.vergeOf, State.vergeOf, h.logicalOf, hlegs, h.legDecl]

theorem corePart (h : t.SameSheets s) : t.corePart c = s.corePart c := by
  unfold State.corePart State.partOf State.part
  rw [h.logicalOf, h.cfg]

/-- The slots move with the pools, but whether a token is bound to one is the sheets' alone. -/
theorem localTokens (h : t.SameSheets s) (hs : s.localTokens c) : t.localTokens c := by
  intro k
  have hk := hs k
  simp only [State.vergeSlot, State.vergeBound, Option.map_eq_none_iff] at hk ⊢
  rw [h.vergeOf, hk]

end State.SameSheets

theorem setCore_sameSheets {y : CoreExec} : (s.setCore c y).SameSheets s := ⟨fun _ => rfl, rfl, rfl, rfl⟩

/-! ### Signalling local tokens (R168) -/

theorem mem_tokensOf {m k : Nat} : k ∈ tokensOf m ↔ k < 8 ∧ m.testBit k = true := by
  simp [tokensOf, upTo]

theorem fireToken_local {k : Nat} (h : s.localTokens c) :
    s.fireToken c k = s.setCore c { s.core c with tokens := (s.core c).tokens ||| 2 ^ k } := by
  unfold State.fireToken
  rw [h k]

theorem each_fireToken_tokens {k : Nat} : ∀ {l : List Nat} {s : State}, s.localTokens c →
    ((s.each l fun s j => s.fireToken c j).core c).tokens.testBit k = (decide (k ∈ l) || (s.core c).tokens.testBit k)
  | [], _, _ => by simp
  | j :: l, s, h => by
    rw [State.each_cons, fireToken_local h, each_fireToken_tokens (setCore_sameSheets.localTokens h), State.core_setCore, if_pos rfl]
    simp only [Nat.testBit_or, Nat.testBit_two_pow, List.mem_cons, Bool.decide_or, eq_comm (a := k)]
    cases decide (j = k) <;> simp

theorem fireTokens_moved {m : Nat} (h : s.localTokens c) : s.movedTokens (s.fireTokens c m) c 0 m := by
  intro k hk
  unfold State.fireTokens
  rw [each_fireToken_tokens h]
  simp [mem_tokensOf, hk]

theorem fireTokens_calls {m d : Nat} : ((s.fireTokens c m).core d).calls = (s.core d).calls := by
  obtain ⟨n, hn⟩ := s.fireTokens_core c m d
  rw [hn]

theorem fireTokens_recorder {m : Nat} : (s.fireTokens c m).recorder = s.recorder :=
  (State.fireTokens_frame (Within.refl _) (Frame.refl State.fireTokens_mask s)).recorder rfl

/-! ### Stores -/

theorem store_mem {a : Nat} {bs : List Byte} : (s.store a bs).mem = (s.putBytes a bs).mem := by
  unfold State.store
  dsimp only
  split <;> rfl

/-- What stores leave in memory follows from what stood there. -/
theorem storeAll_mem_of_mem : ∀ {ws : List (Nat × List Byte)} {s t : State}, t.mem = s.mem →
    (t.storeAll ws).mem = (s.storeAll ws).mem
  | [], _, _, h => h
  | w :: ws, s, t, h => by
    have hw : (t.store w.1 w.2).mem = (s.store w.1 w.2).mem := by rw [store_mem, store_mem, State.putBytes, State.putBytes, h]
    exact storeAll_mem_of_mem (ws := ws) hw

/-! ### What a word that is ready finds when it has taken its tokens -/

theorem took_frame : Frame (State.takeToken_mask ||| State.holdGeneration_mask) s (s.took x) :=
  State.holdGeneration_frame rfl (State.each_frame (Frame.refl _ _) fun _ _ h => State.takeToken_frame rfl h)

theorem took_calls {d : Nat} : ((s.took x).core d).calls = (s.core d).calls := by
  obtain ⟨n, hn⟩ := s.took_core x d
  rw [hn]

theorem took_clean (h : s.clean) : (s.took x).clean := by
  unfold State.clean
  rwa [s.took_integ x]

theorem bytes_of_mem {a n : Nat} (h : t.mem = s.mem) : t.bytes a n = s.bytes a n := by
  unfold State.bytes State.byte
  rw [h]

theorem took_descriptor {w : BitVec 128} : (s.took x).descriptor c w = s.descriptor c w := bytes_of_mem (s.took_mem x)

/-- With no line damaged and none poisoned, every read finds good bytes (R389). -/
theorem reading_clean {id : Option Nat} {rs : List (Nat × Nat)} {f : State → State} (h : s.clean) :
    s.reading c id rs f = f s := by
  obtain ⟨hbad, hpoison⟩ := h
  simp [State.reading, State.checkRead, State.badIn, State.poisonIn, hbad, hpoison]

/-! ### The start of a call (R182, R192) -/

/-- A word that is ready and signals its tokens only when its call ends leaves memory as its effect leaves it. -/
theorem issue_mem_unfired {cls op group : Nat} {legal ready : Bool} {body : State → Option Nat → State}
    (h : s.Ready x cls op group) (hl : legal = true) (hr : ready = true) :
    (s.issue x cls op legal ready false body).mem = (body (s.took x) (s.legOf x x.group)).mem := by
  rw [issue_ready h hl hr]
  simp only [Bool.false_and, Bool.false_eq_true, if_false]
  have hm : ∀ b : State, ((b.observeWord x x.group (s.legOf x x.group)).noteMark x (s.legOf x x.group)).mem = b.mem := fun b =>
    (State.noteMark_mem _ _ _).trans ((State.observeWord_same b x x.group _).mem rfl)
  split
  · exact (State.stepLoops_mem _ _ _).trans (hm _)
  · exact hm _

/-- A word that is ready, whose effect is the start of call `k`, starts it. -/
theorem issue_started {cls op group : Nat} {legal ready : Bool} {body : State → Option Nat → State} {f : State → State} {k : Call}
    (h : s.Ready x cls op group) (hl : legal = true) (hr : ready = true)
    (hf : f s = s.issue x cls op legal ready false body)
    (hbody : body (s.took x) (s.legOf x group) = (s.took x).startCall x.core k) :
    ∃ t, s.run f = .next t ∧ s.started t x k := by
  rw [← h.stream.1] at hbody
  refine run_answers_of_effect h.power hf fun t ht => ⟨?_, ?_⟩
  · obtain ⟨n, l, w, hcore⟩ := issue_core (body := body) (fires := false) h hl hr x.core
    rw [State.core_exec (ht.exec.trans driveOutputs_exec), hcore, hbody, State.startCall, State.core_setCore, if_pos rfl]
    dsimp only
    rw [took_calls, took_frame.clk rfl, took_frame.get F.PACE_STATUS_pace (by decide)]
  · rw [ht.mem_driven, issue_mem_unfired h hl hr, hbody]
    exact s.took_mem x

/-! ### The end of a call (R182, R193) -/

/-- Call `i` of core `c` is in flight no more. -/
def State.eraseCall (s : State) (c i : Nat) : State :=
  s.setCore c { s.core c with calls := (s.core c).calls.eraseIdx i }

theorem eraseCall_core {i : Nat} : (s.eraseCall c i).core c = { s.core c with calls := (s.core c).calls.eraseIdx i } := by
  rw [State.eraseCall, State.core_setCore, if_pos rfl]

theorem eraseCall_sameSheets {i : Nat} : (s.eraseCall c i).SameSheets s := setCore_sameSheets

section Ended
variable {i event : Nat} {once : Bool} {k : Call} {kinds : List Nat} {f : State → Call → State}

/-- The instant at which the first of the calls of some kinds elapses. -/
def State.firstEnd (s : State) (c : Nat) (kinds : List Nat) : Nat :=
  let mine := (s.core c).calls.filter fun k => kinds.contains k.kind
  (mine.map fun k => k.endAt).foldl min ((mine.head?.map fun k => k.endAt).getD 0)

theorem completeCall_eq : s.completeCall c kinds f =
    match (s.core c).calls.findIdx? (fun k => kinds.contains k.kind && k.endAt == s.firstEnd c kinds) with
    | none => s
    | some i => match (s.core c).calls[i]? with
      | none => s
      | some k => f (s.eraseCall c i) k := rfl

theorem foldl_min_head {l : List Nat} {a : Nat} (h : l.min? = some a) : l.foldl min (l.head?.getD 0) = a := by
  cases l with
  | nil => cases h
  | cons b l =>
    have hle : a ≤ b := (List.min?_eq_some_iff.mp h).2 b List.mem_cons_self
    rw [List.foldl_min, h]
    exact Nat.min_eq_right hle

theorem firstEnd_of_first (h : s.firstCall c kinds i k) : s.firstEnd c kinds = k.endAt := by
  obtain ⟨hi, hk, hfirst⟩ := h
  simp only [State.firstEnd, ← List.head?_map]
  refine foldl_min_head (List.min?_eq_some_iff.mpr ⟨?_, ?_⟩)
  · simpa using ⟨k, ⟨List.mem_of_getElem? hi, hk⟩, rfl⟩
  · intro n hn
    obtain ⟨y, hy, rfl⟩ := List.mem_map.mp hn
    obtain ⟨hmem, hkind⟩ := List.mem_filter.mp hy
    obtain ⟨j, hj⟩ := List.getElem?_of_mem hmem
    exact (hfirst j y hj (List.contains_iff_mem.mp hkind)).1

/-- A call completes that elapses first among those of its kinds, the oldest of equals. -/
theorem completeCall_first (h : s.firstCall c kinds i k) : s.completeCall c kinds f = f (s.eraseCall c i) k := by
  have hend := firstEnd_of_first h
  obtain ⟨hi, hk, hfirst⟩ := h
  obtain ⟨hlen, hget⟩ := List.getElem?_eq_some_iff.mp hi
  have hplace : (s.core c).calls.findIdx? (fun k => kinds.contains k.kind && k.endAt == s.firstEnd c kinds) = some i := by
    refine List.findIdx?_eq_some_iff_getElem.mpr ⟨hlen, by simp [hget, hk, hend], fun j hj hmine => ?_⟩
    rw [hend, Bool.and_eq_true, beq_iff_eq] at hmine
    have hlater := (hfirst j _ (List.getElem?_eq_getElem (Nat.lt_trans hj hlen)) (List.contains_iff_mem.mp hmine.1)).2 hj
    exact Nat.ne_of_gt hlater hmine.2
  simp only [completeCall_eq, hplace, hi]

theorem completeCall_none (h : ∀ k ∈ (s.core c).calls, k.kind ∉ kinds) : s.completeCall c kinds f = s := by
  have hmine : (s.core c).calls.findIdx? (fun k => kinds.contains k.kind && k.endAt == s.firstEnd c kinds) = none := by
    rw [List.findIdx?_eq_none_iff]
    intro k hk
    simp [h k hk]
  rw [completeCall_eq, hmine]

/-- What the end of a call writes before its codes: its outputs, and the counter of its event. -/
def State.writeCall (s : State) (c : Nat) (k : Call) (event : Nat) : State :=
  let s := s.storeAll k.writes
  if event = 0 then s else s.perfEvent c event k.ticks

/-- The tokens of an ended call are signalled where its leg stands. -/
def State.signalCall (s : State) (c : Nat) (k : Call) : State :=
  if s.legStands k.leg then s.fireTokens c k.signal else s

/-- What the outputs of a call, its counter and its code change. -/
def writtenAreas : Nat := State.storeAll_mask ||| State.perfEvent_mask ||| State.raiseCore_mask

theorem writeCall_frame : Frame writtenAreas s (s.writeCall c k event) :=
  have hstored : Frame writtenAreas s (s.storeAll k.writes) := State.storeAll_frame rfl (Frame.refl _ _)
  Frame.ite hstored (State.perfEvent_frame rfl hstored)

theorem writeCall_mem : (s.writeCall c k event).mem = (s.storeAll k.writes).mem := by
  unfold State.writeCall
  dsimp only
  split
  · rfl
  · exact (State.perfEvent_frame (Within.refl _) (Frame.refl State.perfEvent_mask _)).mem rfl

/-- A call without flags ends with its outputs and its tokens. -/
theorem finishCall_quiet (hcodes : k.codes = []) (hcauses : k.causes = []) :
    s.finishCall c k once event = (s.writeCall c k event).signalCall c k := by
  unfold State.finishCall
  rw [hcodes, hcauses]
  cases hleg : k.leg <;> simp [State.writeCall, State.signalCall, hleg]

/-- A call without a leg that has one code ends with its outputs, its code and its tokens. -/
theorem finishCall_code {code : Nat} {ps : List Nat} (hleg : k.leg = none) (hcodes : k.codes = [(code, ps)]) :
    s.finishCall c k once event =
      ((s.writeCall c k event).raiseCore c code ((s.writeCall c k event).corePart c :: 0xFFFF :: ps)).signalCall c k := by
  unfold State.finishCall
  rw [hcodes, hleg]
  simp [State.writeCall, State.signalCall, hleg, State.legNames]

theorem signalCall_recorder : (s.signalCall c k).recorder = s.recorder := by
  unfold State.signalCall
  split
  · exact fireTokens_recorder
  · rfl

theorem signalCall_calls : ((s.signalCall c k).core c).calls = (s.core c).calls := by
  unfold State.signalCall
  split
  · exact fireTokens_calls
  · rfl

theorem signalCall_mem (h : k.signal = 0) : (s.signalCall c k).mem = s.mem := by
  rw [State.signalCall, h, State.fireTokens_none, ite_self]

theorem signalCall_moved (hleg : k.leg = none) (h : s.localTokens c) : s.movedTokens (s.signalCall c k) c 0 k.signal := by
  rw [State.signalCall, hleg]
  exact fireTokens_moved h

/-- A call whose outputs are written, and which is in flight no more, has ended once its tokens are signalled. -/
theorem endedCall_of_signalled (hu : Frame writtenAreas (s.eraseCall c i) u) (hmem : u.mem = (s.storeAll k.writes).mem)
    (ht : t.Same (u.signalCall c k).driveOutputs) : s.endedCall t c i k := by
  have hcore : ∀ d, t.core d = (u.signalCall c k).core d := State.core_exec (ht.exec.trans driveOutputs_exec)
  have hwritten : u.core c = { s.core c with calls := (s.core c).calls.eraseIdx i } :=
    (State.core_exec (hu.exec rfl) c).trans eraseCall_core
  refine ⟨?_, ?_, ?_⟩
  · rw [hcore, signalCall_calls, hwritten]
  · exact fun h => ht.mem_driven.trans ((signalCall_mem h).trans hmem)
  · intro hleg hlocal j hj
    have hsheets : u.SameSheets (s.eraseCall c i) := .of_frame hu rfl rfl rfl rfl
    rw [hcore, signalCall_moved hleg (hsheets.localTokens (eraseCall_sameSheets.localTokens hlocal)) j hj, hwritten]

/-- A call without flags that completes ends. -/
theorem completeCall_ends {g : State → State} (hp : s.powered = true) (hfirst : s.firstCall c kinds i k) (hcodes : k.codes = [])
    (hcauses : k.causes = [])
    (hg : g s = s.completeCall c kinds fun s k => s.finishCall c k once event) :
    ∃ t, s.run g = .next t ∧ s.endedCall t c i k := by
  refine run_answers_of_effect hp (hg.trans ((completeCall_first hfirst).trans (finishCall_quiet hcodes hcauses))) fun t ht => ?_
  exact endedCall_of_signalled writeCall_frame (writeCall_mem.trans (storeAll_mem_of_mem rfl)) ht

/-- A call without a leg that completes with one code ends and raises it. -/
theorem completeCall_raises {g : State → State} {code : Nat} {ps : List Nat} (hp : s.powered = true)
    (hfirst : s.firstCall c kinds i k) (hleg : k.leg = none) (hcodes : k.codes = [(code, ps)])
    (hg : g s = s.completeCall c kinds fun s k => s.finishCall c k once event) :
    ∃ t, s.run g = .next t ∧ s.endedCall t c i k ∧ t.wrote code (s.corePart c :: 0xFFFF :: ps) := by
  have hpart : ((s.eraseCall c i).writeCall c k event).corePart c = s.corePart c :=
    (State.SameSheets.of_frame writeCall_frame rfl rfl rfl rfl).corePart.trans eraseCall_sameSheets.corePart
  refine run_answers_of_effect hp (hg.trans ((completeCall_first hfirst).trans (finishCall_code hleg hcodes))) fun t ht => ⟨?_, ?_⟩
  · refine endedCall_of_signalled (State.raiseCore_frame rfl writeCall_frame) ?_ ht
    calc _ = ((s.eraseCall c i).writeCall c k event).mem :=
          (State.raiseCore_frame (Within.refl _) (Frame.refl State.raiseCore_mask _)).mem rfl
      _ = (s.storeAll k.writes).mem := writeCall_mem.trans (storeAll_mem_of_mem rfl)
  · rw [← hpart]
    exact ht.wrote_driven (wrote_of_recorder signalCall_recorder raiseAt_wrote)

/-- With no call of its kinds in flight a completion leaves all but the outputs. -/
theorem completeCall_idle {g : State → State} (hp : s.powered = true) (h : ∀ k ∈ (s.core c).calls, k.kind ∉ kinds)
    (hg : g s = s.completeCall c kinds f) :
    ∃ t, s.run g = .next t ∧ t.exec = s.exec ∧ t.mem = s.mem ∧ t.route = s.route :=
  run_answers_of_effect hp (hg.trans (completeCall_none h)) fun _ ht =>
    ⟨ht.exec.trans driveOutputs_exec, ht.mem_driven, ht.route.trans driveOutputs_route⟩

end Ended
end Sys2Proof.Machine
end

section
/-! PROOFS. The irregular calls (R192 to R195, R202): one lemma for the start of a call of any operation, and from it and the end of a
call the statement O21. -/

namespace Sys2Proof.Machine

variable {s t : State} {x : Issue}

/-! ### The start of an irregular call (R192, R202) -/

/-- The call that an irregular word of leg `id` starts: `d` is its descriptor, `loc` gives its locations, `o` its outputs. -/
def irregCall (x : Issue) (op : Nat) (id : Option Nat) (d : IrrDesc) (loc : Nat → Nat) (o : IrrOut) : Call :=
  { call0 callIRREG op (wSignal x.word) id with
    writes := o.planes ++ (match o.count with | some n => [(loc 3, leBytes 4 n)] | none => []) ++ [(loc 7, o.status d.slot)]
    codes := o.codes op
    causes := ((o.codes op).head?.map fun e => (e.1, Code.IRREG_VOID)).toList
    slots := if d.slot = 0xFFFF then none else some [d.slot]
    ticks := irrTicks op d (d.locs.getD (if op = 0x02 then 4 else 1) 0 % 8 == 1) }

/-- The effect of an irregular word with descriptor `d`: its call starts once the lines that it reads have passed their checks. -/
def irregEffect (x : Issue) (op : Nat) (f : State → IrrDesc → (Nat → Nat) → IrrOut) (d : IrrDesc) (s : State)
    (id : Option Nat) : State :=
  let loc := fun i => s.locAddr x.core (d.locs.getD i 0)
  s.reading x.core id ((sramBase x.core + 64 * wSrcA x.word, 64) :: irrReads op d loc) fun s =>
    s.startCall x.core (irregCall x op id d loc (f s d loc))

theorem irreg_eq {op : Nat} {f : State → IrrDesc → (Nat → Nat) → IrrOut} : s.irreg x op f =
    s.issue x 0x4 op ((s.irrOf x).legal op) (s.pairFree x.core) false (irregEffect x op f (s.irrOf x)) := rfl

theorem took_irrOf : (s.took x).irrOf x = s.irrOf x := by
  unfold State.irrOf
  rw [took_descriptor]

theorem irregEffect_took {op : Nat} {f : State → IrrDesc → (Nat → Nat) → IrrOut} {id : Option Nat} (h : s.clean) :
    irregEffect x op f (s.irrOf x) (s.took x) id = (s.took x).startCall x.core
      (irregCall x op id (s.irrOf x) ((s.took x).irrLoc x) (f (s.took x) (s.irrOf x) ((s.took x).irrLoc x))) := by
  have hloc : (s.took x).irrLoc x = fun i => (s.took x).locAddr x.core ((s.irrOf x).locs.getD i 0) := by
    funext i
    rw [State.irrLoc, took_irrOf]
  rw [irregEffect, reading_clean (took_clean h), hloc]

/-- An irregular word that is ready, with a free engine pair and a legal descriptor, starts the call of its outputs. -/
theorem irreg_started {op : Nat} {f : State → IrrDesc → (Nat → Nat) → IrrOut} (h : s.IrregReady x op) :
    ∃ t, s.run (fun s => s.irreg x op f) = .next t ∧
      s.startedIrreg t x op (f (s.took x) (s.irrOf x) ((s.took x).irrLoc x)) := by
  obtain ⟨hready, hpair, hclean, hlegal⟩ := h
  obtain ⟨t, ht, hstarted⟩ := issue_started (f := fun s => s.irreg x op f) hready hlegal hpair irreg_eq (irregEffect_took hclean)
  exact ⟨t, ht, _, hstarted, ⟨rfl, rfl, rfl, rfl⟩, rfl, rfl⟩

/-! ### The commands -/

theorem exec_irregCallComplete {c : CoreId} : exec (.irregCallComplete c) s =
    s.run fun s => s.completeCall c [callIRREG] fun s k => s.finishCall c k true 0x10 := rfl

/-- Settles O21: every operation starts its call as `irreg_started` says, and a call ends as its flags and its leg have it. -/
theorem irregularCalls : Obligations.IrregularCalls := by
  unfold Obligations.IrregularCalls
  refine ⟨?gather, ?scatter, ?segred, ?scan, ?compact, ?sort, ?merge, ?topk, ?unique, ?label,
    ?graphCc, ?expand, ?ends, ?raises, ?idle⟩
  case ends => exact fun s c i k hp hfirst hcodes hcauses => exec_irregCallComplete ▸ completeCall_ends hp hfirst hcodes hcauses rfl
  case raises =>
    exact fun s c i k code ps hp hfirst hleg hcodes _ => exec_irregCallComplete ▸ completeCall_raises hp hfirst hleg hcodes rfl
  case idle => exact fun s c hp h => exec_irregCallComplete ▸ completeCall_idle hp h rfl
  all_goals exact fun s x h => irreg_started h

end Sys2Proof.Machine
end

section
/-! PROOFS. The host commands of the KV pools (R208, R224, Table KV-9): what KV_CMD_STATUS shows, which port may write KV_CMD, an
outcome for each command, and from them the statement O23. -/

namespace Sys2Proof.Machine

variable {s t u : State} {i : Port} {p : Part} {v : BitVec 19} {cmd target : Nat}

/-! ### KV_CMD_STATUS -/

section Status
variable {code count gen : Nat}

@[simp] theorem kvStatus_kv : (s.kvStatus i code count gen).kv = s.kv := by simp [State.kvStatus]

@[simp] theorem kvStatus_recorder : (s.kvStatus i code count gen).recorder = s.recorder := by simp [State.kvStatus]

theorem kvStatus_code (h : code < 2 ^ 16) : (s.kvStatus i code count gen).get (F.KV_CMD_STATUS_code i) = code := by
  rw [State.kvStatus, State.get_set_kind (by simp),
    State.get_set_field (f := F.KV_CMD_STATUS_code i) (g := F.KV_CMD_STATUS_count i) rfl (.inl (Nat.le_refl 16))
      (by simp [F.KV_CMD_STATUS_code]),
    State.get_set (by simp [F.KV_CMD_STATUS_code])]
  exact Nat.mod_eq_of_lt h

theorem kvStatus_count : (s.kvStatus i code count gen).get (F.KV_CMD_STATUS_count i) = count % 65536 := by
  rw [State.kvStatus, State.get_set_kind (by simp), State.get_set (by simp [F.KV_CMD_STATUS_count])]
  rfl

theorem kvStatus_generation (h : gen < 2 ^ 32) :
    (s.kvStatus i code count gen).get (F.KV_CMD_STATUS2_generation i) = gen := by
  rw [State.kvStatus, State.get_set (by simp [F.KV_CMD_STATUS2_generation])]
  exact Nat.mod_eq_of_lt h

/-- What a command writes outside the registers of KV_CMD_STATUS leaves them to its end. -/
theorem State.Same.kvStatus_driven {f : Field} (h : t.Same u.driveOutputs)
    (hf : regKind f.key = 195 ∨ regKind f.key = 196) : t.get f = u.get f :=
  h.get_driven (by rcases hf with hf | hf <;> rw [hf] <;> decide)

theorem State.Same.kv_driven (h : t.Same u.driveOutputs) : t.kv = u.kv := h.kv.trans driveOutputs_kv

theorem State.Same.pool_driven (h : t.Same u.driveOutputs) (p : Nat) : t.pool p = u.pool p :=
  congrArg (tget pool0 · p) h.kv_driven

end Status

/-! ### Which port may write KV_CMD (R224) -/

/-- The OWNER port and the port that owns partition `p` may write its KV_CMD. -/
def State.mayCommandKv (s : State) (i : Port) (p : Part) : Prop :=
  s.role i = roleOWNER ∨ (s.on (F.ROUTE_PART_defined p) = true ∧ s.get (F.ROUTE_PART_port p) = i.val)

theorem kvCmd_granted {f : State → State} (h : s.mayCommandKv i p) : s.kvCmd i p cmd target f = f s :=
  if_pos (by simpa [State.mayCommandKv] using h)

theorem kvCmd_denied {f : State → State} (hrole : s.role i ≠ roleOWNER)
    (hport : s.on (F.ROUTE_PART_defined p) = false ∨ s.get (F.ROUTE_PART_port p) ≠ i.val) :
    s.kvCmd i p cmd target f = s.kvRefused i cmd target := by
  refine if_neg ?_
  rcases hport with hport | hport <;> simp [hrole, hport]

/-! ### Refused commands -/

/-- From `s` to `t` the KV command `cmd` of port `i` was refused: the status and the recorder say so, and the pools stay. -/
def State.refusedKv (s t : State) (i : Port) (cmd target : Nat) : Prop :=
  t.kv = s.kv ∧ t.get (F.KV_CMD_STATUS_code i) = Code.KV_CMD_REFUSED ∧ t.wrote Code.KV_CMD_REFUSED [i, cmd, target]

theorem run_kvRefused {f : State → State} (hp : s.powered = true) (he : f s = s.kvRefused i cmd target) :
    ∃ t, s.run f = .next t ∧ s.refusedKv t i cmd target :=
  run_answers_of_effect hp he fun _ ht =>
    ⟨ht.kv_driven.trans (kvStatus_kv.trans raise_kv),
      (ht.kvStatus_driven (.inl (by simp))).trans (kvStatus_code (by decide)),
      ht.wrote_driven (wrote_of_recorder kvStatus_recorder raise_wrote)⟩

/-! ### Edits that wait for the next build (R208) -/

/-- The edit `e` joins those that the host queued for the pool of partition `p`. -/
def State.queueEdit (s : State) (p : Nat) (e : Edit) : State :=
  s.setPool p { s.pool p with host := (s.pool p).host ++ [(e, s.route.buildFor + 1)] }

/-- From `s` to `t` the edit `e` was queued, and the status of port `i` names the generation that will publish it. -/
def State.queuedEdit (s t : State) (i : Port) (p : Part) (e : Edit) : Prop :=
  (t.pool p).host = (s.pool p).host ++ [(e, s.route.buildFor + 1)] ∧ t.get (F.KV_CMD_STATUS_code i) = 0 ∧
    t.get (F.KV_CMD_STATUS2_generation i) = s.nextGen p

theorem nextGen_lt {p : Nat} : s.nextGen p < 2 ^ 32 := Nat.mod_lt _ (by decide)

theorem queueEdit_host {p : Nat} {e : Edit} :
    ((s.queueEdit p e).pool p).host = (s.pool p).host ++ [(e, s.route.buildFor + 1)] :=
  congrArg Pool.host (tget_tset_self pool0 s.kv p _)

/-- A command that queues an edit may go on to waymarks and verdicts, which are outside the pools and KV_CMD_STATUS. -/
theorem run_queuedEdit {f : State → State} {e : Edit} (hp : s.powered = true)
    (he : Frame State.invalidate_mask ((s.queueEdit p e).kvStatus i 0 0 (s.nextGen p)) (f s)) :
    ∃ t, s.run f = .next t ∧ s.queuedEdit t i p e := by
  refine run_answers_of_effect hp rfl fun t ht => ⟨?_, ?_, ?_⟩
  · rw [ht.pool_driven, State.pool, he.kv rfl]
    exact queueEdit_host
  · rw [ht.kvStatus_driven (.inl (by simp)), he.get _ (by simp; decide), kvStatus_code (by decide)]
  · rw [ht.kvStatus_driven (.inr (by simp)), he.get _ (by simp; decide), kvStatus_generation nextGen_lt]

/-! ### PREFIX_RETIRE -/

theorem exec_prefixRetire : exec (.prefixRetire i p v) s = execPrefixRetire i p v s := rfl

theorem prefixRetire_queued {x : Nat} (hp : s.powered = true) (hport : s.mayCommandKv i p)
    (hprefix : tfind (s.pool p).prefixes (v.toNat % 64) = some x) :
    ∃ t, exec (.prefixRetire i p v) s = .next t ∧ s.queuedEdit t i p (.prefixRetire (v.toNat % 64) i) := by
  rw [exec_prefixRetire, execPrefixRetire]
  refine run_queuedEdit hp ?_
  rw [kvCmd_granted hport, if_neg (by simp [hprefix])]
  exact Frame.refl _ _

theorem prefixRetire_unknown (hp : s.powered = true) (hport : s.mayCommandKv i p)
    (hprefix : tfind (s.pool p).prefixes (v.toNat % 64) = none) :
    ∃ t, exec (.prefixRetire i p v) s = .next t ∧ s.refusedKv t i 1 v.toNat := by
  rw [exec_prefixRetire, execPrefixRetire]
  exact run_kvRefused hp ((kvCmd_granted hport).trans (if_pos (by simp [hprefix])))

/-! ### SEQ_END -/

theorem exec_seqEnd : exec (.seqEnd i p v) s = execSeqEnd i p v s := rfl

theorem seqEnd_queued {y : KvSeq} (hp : s.powered = true) (hport : s.mayCommandKv i p)
    (hseq : tfind (s.pool p).seqs (v.toNat % 4096) = some y) (hlive : y.state = seqLIVE) :
    ∃ t, exec (.seqEnd i p v) s = .next t ∧ s.queuedEdit t i p (.leave (v.toNat % 4096)) := by
  rw [exec_seqEnd, execSeqEnd]
  refine run_queuedEdit hp ?_
  rw [kvCmd_granted hport]
  simp only [hseq]
  rw [if_neg (by simp [hlive])]
  exact State.invalidate_frame (Within.refl _) (State.raise_frame rfl (Frame.refl _ _))

theorem seqEnd_unknown (hp : s.powered = true) (hport : s.mayCommandKv i p)
    (hseq : ∀ y, tfind (s.pool p).seqs (v.toNat % 4096) = some y → y.state ≠ seqLIVE) :
    ∃ t, exec (.seqEnd i p v) s = .next t ∧ s.refusedKv t i 2 v.toNat := by
  rw [exec_seqEnd, execSeqEnd]
  refine run_kvRefused hp ((kvCmd_granted hport).trans ?_)
  cases hfind : tfind (s.pool p).seqs (v.toNat % 4096) with
  | none => simp only [hfind]
  | some y =>
    simp only [hfind]
    exact if_pos (by simpa using hseq y hfind)

/-! ### PAGE_QUERY -/

theorem exec_pageQuery : exec (.pageQuery i p v) s = execPageQuery i p v s := rfl

theorem pageQuery_answers (hp : s.powered = true) (hport : s.mayCommandKv i p) (hbase : (s.pool p).base ≤ v.toNat)
    (hend : v.toNat < (s.pool p).base + (s.pool p).size) :
    ∃ t, exec (.pageQuery i p v) s = .next t ∧ t.kv = s.kv ∧ t.get (F.KV_CMD_STATUS_code i) = 0 ∧
      t.get (F.KV_CMD_STATUS_count i) = tget 0 (s.pool p).counts v.toNat % 65536 ∧
      t.get (F.KV_CMD_STATUS2_generation i) = s.gen p := by
  rw [exec_pageQuery, execPageQuery]
  refine run_answers_of_effect hp ((kvCmd_granted hport).trans (if_neg (by simp; omega))) fun t ht =>
    ⟨ht.kv_driven.trans kvStatus_kv, ?_, ?_, ?_⟩
  · rw [ht.kvStatus_driven (.inl (by simp)), kvStatus_code (by decide)]
  · rw [ht.kvStatus_driven (.inl (by simp)), kvStatus_count]
  · rw [ht.kvStatus_driven (.inr (by simp)), kvStatus_generation get_lt]

theorem pageQuery_outside (hp : s.powered = true) (hport : s.mayCommandKv i p)
    (hpage : v.toNat < (s.pool p).base ∨ (s.pool p).base + (s.pool p).size ≤ v.toNat) :
    ∃ t, exec (.pageQuery i p v) s = .next t ∧ s.refusedKv t i 3 v.toNat := by
  rw [exec_pageQuery, execPageQuery]
  exact run_kvRefused hp ((kvCmd_granted hport).trans (if_pos (by simpa using hpage)))

/-- Settles O23: each clause is an outcome of a command above; a port without the right is refused before the command looks at
its target. -/
theorem kvCommands : Obligations.KvCommands := by
  unfold Obligations.KvCommands
  refine ⟨?retired, ?ended, ?queried, ?retireDenied, ?endDenied, ?queryDenied, ?noPrefix, ?noSeq, ?noPage⟩
  case retired => exact fun s i p v x hp hport hprefix => prefixRetire_queued hp hport hprefix
  case ended => exact fun s i p v y hp hport hseq hlive => seqEnd_queued hp hport hseq hlive
  case queried => exact fun s i p v hp hport hbase hend => pageQuery_answers hp hport hbase hend
  case retireDenied => exact fun s i p v hp hrole hport => exec_prefixRetire ▸ run_kvRefused hp (kvCmd_denied hrole hport)
  case endDenied => exact fun s i p v hp hrole hport => exec_seqEnd ▸ run_kvRefused hp (kvCmd_denied hrole hport)
  case queryDenied => exact fun s i p v hp hrole hport => exec_pageQuery ▸ run_kvRefused hp (kvCmd_denied hrole hport)
  case noPrefix => exact fun s i p v hp hport hprefix => prefixRetire_unknown hp hport hprefix
  case noSeq => exact fun s i p v hp hport hseq => seqEnd_unknown hp hport hseq
  case noPage => exact fun s i p v hp hport hpage => pageQuery_outside hp hport hpage

end Sys2Proof.Machine
end

section
/-! PROOFS. Cuts of a partition's shares (R222, R245, R246, R248): what ROUTE_CMD_STATUS shows, which port has the right, the three
endings of a share command (refused, queued to land, in force at once), and from them the statement O13. -/

namespace Sys2Proof.Machine

variable {s t u : State} {i : Port} {p : Part} {l : BitVec 8} {cmd : Nat}

/-! ### ROUTE_CMD_STATUS -/

section Status
variable {code reason job period : Nat}

theorem routeStatus_frame_self : Frame State.routeStatus_mask s (s.routeStatus i code reason job period) :=
  State.routeStatus_frame (Within.refl _) (Frame.refl _ s)

@[simp] theorem routeStatus_route : (s.routeStatus i code reason job period).route = s.route := routeStatus_frame_self.route rfl

theorem routeStatus_code (h : code < 2 ^ 16) :
    (s.routeStatus i code reason job period).get (F.ROUTE_CMD_STATUS_code i) = code := by
  rw [State.routeStatus, State.get_set_kind (by simp),
    State.get_set_field (f := F.ROUTE_CMD_STATUS_code i) (g := F.ROUTE_CMD_STATUS_job i) rfl
      (.inl (by simp [F.ROUTE_CMD_STATUS_code, F.ROUTE_CMD_STATUS_job])) (by simp [F.ROUTE_CMD_STATUS_code]),
    State.get_set_field (f := F.ROUTE_CMD_STATUS_code i) (g := F.ROUTE_CMD_STATUS_reason i) rfl (.inl (Nat.le_refl 16))
      (by simp [F.ROUTE_CMD_STATUS_code]),
    State.get_set (by simp [F.ROUTE_CMD_STATUS_code])]
  exact Nat.mod_eq_of_lt h

theorem routeStatus_reason (h : reason < 2 ^ 8) :
    (s.routeStatus i code reason job period).get (F.ROUTE_CMD_STATUS_reason i) = reason := by
  rw [State.routeStatus, State.get_set_kind (by simp),
    State.get_set_field (f := F.ROUTE_CMD_STATUS_reason i) (g := F.ROUTE_CMD_STATUS_job i) rfl (.inl (Nat.le_refl 24))
      (by simp [F.ROUTE_CMD_STATUS_reason]),
    State.get_set (by simp [F.ROUTE_CMD_STATUS_reason])]
  exact Nat.mod_eq_of_lt h

theorem State.Same.route_driven (h : t.Same u.driveOutputs) : t.route = u.route := h.route.trans driveOutputs_route

theorem State.Same.routeStatus_driven {f : Field} (h : t.Same u.driveOutputs) (hf : regKind f.key = 100) : t.get f = u.get f :=
  h.get_driven (by rw [hf]; decide)

end Status

/-! ### The right of Table ROUTE-6 (R248) -/

theorem routeCmd_granted {f : State → State} (h : s.routeRight i p cmd = true) : s.routeCmd i p cmd f = f s := if_pos h

theorem routeCmd_denied {f : State → State} (h : s.routeRight i p cmd = false) :
    s.routeCmd i p cmd f = (s.raise Code.ROUTE_ROLE [i, cmd]).routeStatus i Code.ROUTE_ROLE 0 0 0 := if_neg (by simp [h])

/-! ### Refused commands -/

/-- From `s` to `t` a command of port `i` was refused with a code and a reason, and the shares stay as they are. -/
structure State.RefusedShare (s t : State) (i : Port) (code reason : Nat) : Prop where
  route : t.route = s.route
  quota : ∀ p, t.get (F.ROUTE_QUOTA_pages p) = s.get (F.ROUTE_QUOTA_pages p)
  pending : ∀ p, t.get (F.ROUTE_PENDING_bandwidth p) = s.get (F.ROUTE_PENDING_bandwidth p)
  code : t.get (F.ROUTE_CMD_STATUS_code i) = code
  reason : t.get (F.ROUTE_CMD_STATUS_reason i) = reason

section Refused
variable {f : State → State} {code reason : Nat} {ps : List Nat}

theorem State.Same.share_refused {g : Field} (h : t.Same ((s.raise code ps).routeStatus i code reason 0 0).driveOutputs)
    (hg : regKind g.key = 103 ∨ regKind g.key = 107) : t.get g = s.get g := by
  rcases hg with hg | hg <;>
    rw [h.get_driven (by rw [hg]; decide), routeStatus_frame_self.get _ (by rw [hg]; decide), get_raise (by rw [hg]; decide)]

/-- A waymark and ROUTE_CMD_STATUS are all that a refusal writes. -/
theorem run_refusedShare (hp : s.powered = true) (he : f s = (s.raise code ps).routeStatus i code reason 0 0)
    (hc : code < 2 ^ 16) (hr : reason < 2 ^ 8) : ∃ t, s.run f = .next t ∧ s.RefusedShare t i code reason :=
  run_answers_of_effect hp he fun t ht =>
    { route := by simp [ht.route_driven]
      quota := fun p => ht.share_refused (.inl (by simp))
      pending := fun p => ht.share_refused (.inr (by simp))
      code := (ht.routeStatus_driven (by simp)).trans (routeStatus_code hc)
      reason := (ht.routeStatus_driven (by simp)).trans (routeStatus_reason hr) }

theorem run_routeDenied (hp : s.powered = true) (hright : s.routeRight i p cmd = false) :
    ∃ t, (s.run fun s => s.routeCmd i p cmd f) = .next t ∧ s.RefusedShare t i Code.ROUTE_ROLE 0 :=
  run_refusedShare hp (routeCmd_denied hright) (by decide) (by decide)

theorem run_cutRefused (hp : s.powered = true) (hright : s.routeRight i p cmd = true) (he : f s = s.cutRefused i p reason)
    (hr : reason < 2 ^ 8) : ∃ t, (s.run fun s => s.routeCmd i p cmd f) = .next t ∧ s.RefusedShare t i Code.CUT_REFUSED reason :=
  run_refusedShare hp ((routeCmd_granted hright).trans he) (by decide) hr

end Refused

/-! ### Cuts that wait to land (R245, R247) -/

/-- The cut `c` joins those that wait for their period. -/
def State.queueCut (s : State) (c : Cut) : State := { s with route := { s.route with cuts := s.route.cuts ++ [c] } }

/-- A cut that is queued shows in its bit of ROUTE_PENDING. -/
theorem run_queuedCut {f : State → State} {c : Cut} {g : Field} (hp : s.powered = true) (hright : s.routeRight i p cmd = true)
    (he : f s = ((s.queueCut c).set g 1).routeStatus i 0 0 0 s.landing) (hkind : regKind g.key = 107)
    (hlo : g.lo + g.width ≤ 32) (hwidth : g.width = 1) :
    ∃ t, (s.run fun s => s.routeCmd i p cmd f) = .next t ∧ t.get g = 1 ∧ c ∈ t.route.cuts ∧
      t.get (F.ROUTE_CMD_STATUS_code i) = 0 := by
  refine run_answers_of_effect hp ((routeCmd_granted hright).trans he) fun t ht => ⟨?_, ?_, ?_⟩
  · have hset : ((s.queueCut c).set g 1).get g = 1 := (State.get_set hlo).trans (congrArg (1 % 2 ^ ·) hwidth)
    rw [ht.get_driven (by rw [hkind]; decide), routeStatus_frame_self.get _ (by rw [hkind]; decide), hset]
  · rw [ht.route_driven, routeStatus_route]
    exact List.mem_append_right _ (List.mem_singleton_self c)
  · exact (ht.routeStatus_driven (by simp)).trans (routeStatus_code (by decide))

/-! ### SET_QUOTA (R222, R246) -/

section Quota
variable {q old : Nat}

/-- What follows a quota of `q` pages of partition `p` in force where `old` was: pages return, and OVER_QUOTA is entered or left. -/
def State.quotaTaken (s : State) (i : Port) (p : Part) (q old : Nat) : State :=
  let s := if q > old then s.returnPages p q else s
  let c := (s.pool p).charge
  let s := if !s.on (F.KV_CHARGE_over_quota p) && q < s.get (F.ROUTE_PAGES_held p) && (s.pool p).size != 0 then
      (s.set (F.KV_CHARGE_over_quota p) 1).raise Code.KV_OVER_QUOTA [p, c, q, 0]
    else s.quotaCheck p
  ((s.checkQuota p).showPool p).raise Code.SHARE_CHANGED [i, p, shQUOTA, q]

/-- The parts that `quotaTaken` changes. -/
def quotaTakenAreas : Nat :=
  State.returnPages_mask ||| State.quotaCheck_mask ||| State.checkQuota_mask ||| State.showPool_mask ||| State.raise_mask

theorem quotaTaken_frame : Frame quotaTakenAreas s (s.quotaTaken i p q old) := by
  have hpages : Frame quotaTakenAreas s (if q > old then s.returnPages p q else s) :=
    .ite (State.returnPages_frame rfl (.refl _ s)) (.refl _ s)
  exact State.raise_frame rfl (State.showPool_frame rfl (State.checkQuota_frame rfl
    (.ite (State.raise_frame rfl (State.set_frame (F.KV_CHARGE_over_quota_kind _) rfl hpages))
      (State.quotaCheck_frame rfl hpages))))

theorem exec_setQuota : exec (.setQuota i p) s = execSetQuota i p s := rfl

theorem setQuota_inForce (hp : s.powered = true) (hright : s.routeRight i p rcQUOTA = true)
    (hlimit : s.get (F.ROUTE_CMD_ARG0_value i) ≤ s.get (F.ROUTE_QUOTA_LIMIT_pages p)) :
    ∃ t, exec (.setQuota i p) s = .next t ∧ t.get (F.ROUTE_QUOTA_pages p) = s.get (F.ROUTE_CMD_ARG0_value i) ∧
      t.get (F.ROUTE_CMD_STATUS_code i) = 0 := by
  rw [exec_setQuota, execSetQuota]
  refine run_answers_of_effect hp ((routeCmd_granted hright).trans (if_neg (Nat.not_lt.mpr hlimit))) fun t ht => ⟨?_, ?_⟩
  · rw [ht.get_driven (by simp; decide), routeStatus_frame_self.get _ (by simp; decide)]
    exact (quotaTaken_frame.get _ (by simp; decide)).trans
      ((State.get_set (by simp [F.ROUTE_QUOTA_pages])).trans (Nat.mod_eq_of_lt get_lt))
  · exact (ht.routeStatus_driven (by simp)).trans (routeStatus_code (by decide))

theorem setQuota_above (hp : s.powered = true) (hright : s.routeRight i p rcQUOTA = true)
    (hlimit : s.get (F.ROUTE_QUOTA_LIMIT_pages p) < s.get (F.ROUTE_CMD_ARG0_value i)) :
    ∃ t, exec (.setQuota i p) s = .next t ∧ s.RefusedShare t i Code.CUT_REFUSED rrABOVE := by
  rw [exec_setQuota, execSetQuota]
  exact run_cutRefused hp hright (if_pos hlimit) (by decide)

end Quota

/-! ### SET_BANDWIDTH (R245, R246) -/

theorem exec_setBandwidth : exec (.setBandwidth i p) s = execSetBandwidth i p s := rfl

theorem setBandwidth_queued (hp : s.powered = true) (hright : s.routeRight i p rcBANDWIDTH = true)
    (habove : s.get (F.ROUTE_CMD_ARG0_value i) ≤ (s.part p).bandwidth)
    (hneed : s.get (F.ROUTE_BW_need p) ≤ s.get (F.ROUTE_CMD_ARG0_value i)) :
    ∃ t, exec (.setBandwidth i p) s = .next t ∧ t.get (F.ROUTE_PENDING_bandwidth p) = 1 ∧
      { kind := 1, part := p, index := 0, a := s.get (F.ROUTE_CMD_ARG0_value i), b := 0,
        landing := s.landing, port := i } ∈ t.route.cuts ∧
      t.get (F.ROUTE_CMD_STATUS_code i) = 0 := by
  rw [exec_setBandwidth, execSetBandwidth]
  exact run_queuedCut hp hright ((if_neg (Nat.not_lt.mpr habove)).trans (if_neg (Nat.not_lt.mpr hneed))) (by simp)
    (by simp [F.ROUTE_PENDING_bandwidth]) rfl

theorem setBandwidth_above (hp : s.powered = true) (hright : s.routeRight i p rcBANDWIDTH = true)
    (habove : (s.part p).bandwidth < s.get (F.ROUTE_CMD_ARG0_value i)) :
    ∃ t, exec (.setBandwidth i p) s = .next t ∧ s.RefusedShare t i Code.CUT_REFUSED rrABOVE := by
  rw [exec_setBandwidth, execSetBandwidth]
  exact run_cutRefused hp hright (if_pos habove) (by decide)

theorem setBandwidth_belowNeed (hp : s.powered = true) (hright : s.routeRight i p rcBANDWIDTH = true)
    (habove : s.get (F.ROUTE_CMD_ARG0_value i) ≤ (s.part p).bandwidth)
    (hneed : s.get (F.ROUTE_CMD_ARG0_value i) < s.get (F.ROUTE_BW_need p)) :
    ∃ t, exec (.setBandwidth i p) s = .next t ∧ s.RefusedShare t i Code.CUT_REFUSED rrBELOWNEED := by
  rw [exec_setBandwidth, execSetBandwidth]
  exact run_cutRefused hp hright ((if_neg (Nat.not_lt.mpr habove)).trans (if_pos hneed)) (by decide)

/-- A bandwidth above the structure's or below the partition's need is refused, for one reason or the other. -/
theorem setBandwidth_refused (hp : s.powered = true) (hright : s.routeRight i p rcBANDWIDTH = true)
    (h : (s.part p).bandwidth < s.get (F.ROUTE_CMD_ARG0_value i) ∨ s.get (F.ROUTE_CMD_ARG0_value i) < s.get (F.ROUTE_BW_need p)) :
    ∃ t r, exec (.setBandwidth i p) s = .next t ∧ s.RefusedShare t i Code.CUT_REFUSED r := by
  by_cases habove : (s.part p).bandwidth < s.get (F.ROUTE_CMD_ARG0_value i)
  · obtain ⟨t, ht⟩ := setBandwidth_above hp hright habove
    exact ⟨t, _, ht⟩
  · obtain ⟨t, ht⟩ := setBandwidth_belowNeed hp hright (Nat.not_lt.mp habove) (h.resolve_left habove)
    exact ⟨t, _, ht⟩

/-! ### SET_WINDOW (R245, R246) -/

section Window
variable {n k w a b r : Nat}

/-- The reasons for which a window is refused. -/
theorem windowRefusal_reason (h : s.windowRefusal n p k w a b = some r) : r = rrABOVE ∨ r = rrLEGLONG ∨ r = rrOVERLAP := by
  unfold State.windowRefusal at h
  dsimp only at h
  split at h
  · exact .inl (Option.some.inj h).symm
  · split at h
    · exact .inr (.inl (Option.some.inj h).symm)
    · split at h
      · exact .inr (.inr (Option.some.inj h).symm)
      · cases h

/-- A window that is none of the four of a logical core of the partition's own lies outside the declared windows. -/
theorem windowRefusal_outside (h : 4 ≤ w ∨ (s.part p).holds k = false) : s.windowRefusal n p k w a b = some rrABOVE := by
  refine if_pos ?_
  rcases h with h | h
  · simp [Nat.not_lt.mpr h]
  · simp [h]

theorem exec_setWindow : exec (.setWindow i p l) s = execSetWindow i p l s := rfl

theorem setWindow_queued (hp : s.powered = true) (hright : s.routeRight i p rcWINDOW = true)
    (h : s.windowRefusal s.landing p l.toNat (s.routeArg i) (s.get (F.ROUTE_CMD_ARG1_start i))
      (s.get (F.ROUTE_CMD_ARG2_length i)) = none) :
    ∃ t, exec (.setWindow i p l) s = .next t ∧ t.get (F.ROUTE_PENDING_window p) = 1 ∧
      { kind := 2, part := p, index := 4 * l.toNat + s.routeArg i, a := s.get (F.ROUTE_CMD_ARG1_start i),
        b := s.get (F.ROUTE_CMD_ARG2_length i), landing := s.landing, port := i } ∈ t.route.cuts ∧
      t.get (F.ROUTE_CMD_STATUS_code i) = 0 := by
  rw [exec_setWindow, execSetWindow]
  exact run_queuedCut hp hright (by simp only [h]; rfl) (by simp) (by simp [F.ROUTE_PENDING_window]) rfl

theorem setWindow_refused (hp : s.powered = true) (hright : s.routeRight i p rcWINDOW = true)
    (h : s.windowRefusal s.landing p l.toNat (s.routeArg i) (s.get (F.ROUTE_CMD_ARG1_start i))
      (s.get (F.ROUTE_CMD_ARG2_length i)) = some r) :
    ∃ t, exec (.setWindow i p l) s = .next t ∧ s.RefusedShare t i Code.CUT_REFUSED r := by
  rw [exec_setWindow, execSetWindow]
  refine run_cutRefused hp hright (by simp only [h]) ?_
  rcases windowRefusal_reason h with rfl | rfl | rfl <;> decide

end Window

/-- Settles O13: each clause is an outcome of a command above; a port without the right is refused before the command looks at
the share. -/
theorem shareCuts : Obligations.ShareCuts := by
  unfold Obligations.ShareCuts
  refine ⟨?quota, ?quotaAbove, ?bandwidth, ?bandwidthRefused, ?window, ?windowRefused, ?windowOutside, ?quotaDenied,
    ?bandwidthDenied, ?windowDenied⟩
  case quota => exact fun s i p hp hright hlimit => setQuota_inForce hp hright hlimit
  case quotaAbove =>
    intro s i p hp hright hlimit
    obtain ⟨t, ht, hrefused⟩ := setQuota_above hp hright hlimit
    exact ⟨t, ht, hrefused.quota p, hrefused.code, hrefused.reason⟩
  case bandwidth =>
    intro s i p hp hright habove hneed
    obtain ⟨t, ht, hpending, hcut, hcode⟩ := setBandwidth_queued hp hright habove hneed
    exact ⟨t, ht, hpending, ⟨_, hcut, rfl, rfl, rfl, rfl⟩, hcode⟩
  case bandwidthRefused =>
    intro s i p hp hright h
    obtain ⟨t, r, ht, hrefused⟩ := setBandwidth_refused hp hright h
    exact ⟨t, ht, hrefused.route, hrefused.pending p, hrefused.code⟩
  case window =>
    intro s i p l hp hright h
    obtain ⟨t, ht, hpending, hcut, hcode⟩ := setWindow_queued hp hright h
    exact ⟨t, ht, hpending, ⟨_, hcut, rfl, rfl, rfl, rfl, rfl, rfl⟩, hcode⟩
  case windowRefused =>
    intro s i p l r hp hright h
    obtain ⟨t, ht, hrefused⟩ := setWindow_refused hp hright h
    exact ⟨t, ht, hrefused.route, hrefused.code, hrefused.reason, windowRefusal_reason h⟩
  case windowOutside => exact fun s n p l w a b h => windowRefusal_outside h
  case quotaDenied =>
    intro s i p hp hright
    rw [exec_setQuota]
    obtain ⟨t, ht, hrefused⟩ := run_routeDenied hp hright
    exact ⟨t, ht, hrefused.quota p, hrefused.code⟩
  case bandwidthDenied =>
    intro s i p hp hright
    rw [exec_setBandwidth]
    obtain ⟨t, ht, hrefused⟩ := run_routeDenied hp hright
    exact ⟨t, ht, hrefused.route, hrefused.code⟩
  case windowDenied =>
    intro s i p l hp hright
    rw [exec_setWindow]
    obtain ⟨t, ht, hrefused⟩ := run_routeDenied hp hright
    exact ⟨t, ht, hrefused.route, hrefused.code⟩

end Sys2Proof.Machine
end

section
/-! PROOFS. Job commands (R229, R230, R236, R244, R248): the registers of an admitted job, what a command that is carried out leaves in
ROUTE_CMD_STATUS, an outcome for each command, and from them the statement O12. -/

namespace Sys2Proof.Machine

variable {s t u : State} {i : Port} {p : Part} {j : BitVec 8} {b : Job} {cmd : Nat}

/-! ### Jobs and their registers -/

@[simp] theorem job?_setJob {k : Nat} : (s.setJob k b).job? k = some b := tfind_tput_self _ _ _

theorem job?_of_route (h : t.route = u.route) (k : Nat) : t.job? k = u.job? k := by rw [State.job?, State.job?, h]

section ShowJob
variable {k part w limit : Nat} {tm : TemplateCfg}

@[simp] theorem showJob_route : (s.showJob k part w limit tm).route = s.route :=
  (State.showJob_frame (Within.refl _) (.refl State.showJob_mask s)).route rfl

/-- A field of ROUTE_JOB after the registers of an admitted job: those beside it have kinds of their own. -/
theorem showJob_jobField {f : Field} (hf : regKind f.key = 110) : (s.showJob k part w limit tm).get f =
    (((((s.set (F.ROUTE_JOB_state k) jobADMITTED).set (F.ROUTE_JOB_partition k) part).set (F.ROUTE_JOB_cadence k) tm.cadence).set
      (F.ROUTE_JOB_template k) tm.index).set (F.ROUTE_JOB_weight k) w).get f := by
  unfold State.showJob State.set64
  dsimp only
  iterate 7 rw [State.get_set_kind (by simp [hf])]

theorem showJob_state : (s.showJob k part w limit tm).get (F.ROUTE_JOB_state k) = jobADMITTED := by
  rw [showJob_jobField (by simp)]
  rw [State.get_set_field (by rfl) (.inl (by simp [F.ROUTE_JOB_state, F.ROUTE_JOB_weight])) (by simp [F.ROUTE_JOB_state]),
    State.get_set_field (by rfl) (.inl (by simp [F.ROUTE_JOB_state, F.ROUTE_JOB_template])) (by simp [F.ROUTE_JOB_state]),
    State.get_set_field (by rfl) (.inl (by simp [F.ROUTE_JOB_state, F.ROUTE_JOB_cadence])) (by simp [F.ROUTE_JOB_state]),
    State.get_set_field (by rfl) (.inl (by simp [F.ROUTE_JOB_state, F.ROUTE_JOB_partition])) (by simp [F.ROUTE_JOB_state]),
    State.get_set (by simp [F.ROUTE_JOB_state])]
  rfl

theorem showJob_weight : (s.showJob k part w limit tm).get (F.ROUTE_JOB_weight k) = w % 1024 := by
  rw [showJob_jobField (by simp), State.get_set (by simp [F.ROUTE_JOB_weight])]
  rfl

end ShowJob

/-! ### Commands that are carried out -/

theorem routeStatus_job {code reason job period : Nat} (h : job < 2 ^ 8) :
    (s.routeStatus i code reason job period).get (F.ROUTE_CMD_STATUS_job i) = job := by
  rw [State.routeStatus, State.get_set_kind (by simp), State.get_set (by simp [F.ROUTE_CMD_STATUS_job])]
  exact Nat.mod_eq_of_lt h

/-- `t` is `u` with a command of port `i` that names job `k` shown as carried out. -/
structure State.RouteDone (u t : State) (i : Port) (k : Nat) : Prop where
  route : t.route = u.route
  get : ∀ f : Field, (State.routeStatus_mask ||| State.driveOutputs_mask).testBit (regKind f.key) = false → t.get f = u.get f
  code : t.get (F.ROUTE_CMD_STATUS_code i) = 0
  job : t.get (F.ROUTE_CMD_STATUS_job i) = k

theorem run_routeDone {f : State → State} {P : State → Prop} {k n : Nat} (hp : s.powered = true)
    (hright : s.routeRight i p cmd = true) (he : f s = u.routeStatus i 0 0 k n) (hk : k < 2 ^ 8)
    (hP : ∀ t, u.RouteDone t i k → P t) : ∃ t, (s.run fun s => s.routeCmd i p cmd f) = .next t ∧ P t :=
  run_answers_of_effect hp ((routeCmd_granted hright).trans he) fun t ht => hP t
    { route := ht.route_driven.trans routeStatus_route
      get := fun f hf => by
        rw [Nat.testBit_or, Bool.or_eq_false_iff] at hf
        exact (ht.get_driven hf.2).trans (routeStatus_frame_self.get f hf.1)
      code := (ht.routeStatus_driven (by simp)).trans (routeStatus_code (by decide))
      job := (ht.routeStatus_driven (by simp)).trans (routeStatus_job hk) }

namespace State.RouteDone
variable {k : Nat}

theorem job? (h : u.RouteDone t i k) (m : Nat) : t.job? m = u.job? m := job?_of_route h.route m

/-- The registers of the jobs and of the cuts that wait. -/
theorem get_kind (h : u.RouteDone t i k) {f : Field} (hf : regKind f.key = 110 ∨ regKind f.key = 107) : t.get f = u.get f := by
  rcases hf with hf | hf <;> exact h.get f (by rw [hf]; decide)

end State.RouteDone

/-! ### ADMIT (R229, Table ROUTE-2) -/

section Admit
variable {tpl : BitVec 8} {tm : TemplateCfg} {k w limit : Nat}

/-- The job that ADMIT of template `t` into partition `p` lists, with weight `w`. -/
def State.admittedJob (s : State) (p t w : Nat) (tm : TemplateCfg) : Job :=
  { part := p, template := t, landing := s.landing, retireAt := none, oldWeight := w, weightFrom := s.landing, vtoll := 0, next := 0
    lats := [], solos := [], soloLeft := 0, sinceHigh := 1024, pages := tm.pages, relAt := 0, soloFrom := 0, used := 0, lastGen := 0
    foldGen := 0 }

/-- The state with job `b` of partition `p` listed at index `k` and shown, and its pages among those held. -/
def State.listJob (s : State) (i : Port) (p k w limit : Nat) (b : Job) (tm : TemplateCfg) : State :=
  let s := (s.setJob k b).showJob k p w limit tm
  (s.set (F.ROUTE_PAGES_held p) (s.get (F.ROUTE_PAGES_held p) + tm.pages)).countJobs.raise Code.JOB_ADMITTED
    [i, k, b.template, b.landing]

theorem listJob_route {part : Nat} : (s.listJob i part k w limit b tm).route = (s.setJob k b).route := by
  unfold State.listJob
  dsimp only
  rw [raise_route, (State.countJobs_frame (Within.refl _) (.refl State.countJobs_mask _)).route rfl, set_route, showJob_route]

theorem listJob_jobField {part : Nat} {f : Field} (hf : regKind f.key = 110) :
    (s.listJob i part k w limit b tm).get f = ((s.setJob k b).showJob k part w limit tm).get f := by
  unfold State.listJob
  dsimp only
  rw [get_raise (by rw [hf]; decide),
    (State.countJobs_frame (Within.refl _) (.refl State.countJobs_mask _)).get f (by rw [hf]; decide),
    State.get_set_kind (by simp [hf])]

theorem exec_admitTemplate : exec (.admitTemplate i p tpl) s = execAdmit i p tpl s := rfl

theorem admitTemplate_lists (hp : s.powered = true) (hright : s.routeRight i p rcADMIT = true)
    (htm : s.templateAt p (tget 0 s.route.gens p) tpl.toNat = some tm)
    (hfree : (upTo 256).find? (fun k => (s.job? k).isNone) = some k) (hover : s.get (F.ROUTE_PART_over_quota p) = 0)
    (hquota : s.get (F.ROUTE_PAGES_held p) + tm.pages ≤ s.get (F.ROUTE_QUOTA_pages p))
    (hfit : (s.part p).criticality = critBESTEFFORT ∨
      (s.fitPlan s.landing [(p.val, k, tpl.toNat)]).any (fun e => e.1 == p.val && e.2.1) = true)
    (hw : s.routeArg i % 1024 ≠ 0) :
    ∃ t, exec (.admitTemplate i p tpl) s = .next t ∧
      t.job? k = some (s.admittedJob p tpl.toNat (s.routeArg i % 1024) tm) ∧
      t.get (F.ROUTE_JOB_state k) = jobADMITTED ∧ t.get (F.ROUTE_JOB_weight k) = s.routeArg i % 1024 ∧
      t.get (F.ROUTE_CMD_STATUS_code i) = 0 ∧ t.get (F.ROUTE_CMD_STATUS_job i) = k := by
  have hk : k < 256 := by simpa [upTo] using List.mem_of_find?_eq_some hfree
  have hon : s.on (F.ROUTE_PART_over_quota p) = false := by simp [State.on, hover]
  have hfits : ((s.part p).criticality != critBESTEFFORT &&
      !(s.fitPlan s.landing [(p.val, k, tpl.toNat)]).any (fun e => e.1 == p.val && e.2.1)) = false := by
    rcases hfit with h | h <;> simp [h]
  rw [exec_admitTemplate, execAdmit]
  refine run_routeDone (u := s.listJob i p k (s.routeArg i % 1024) (s.routeArg i / 1024 % 65536)
    (s.admittedJob p tpl.toNat (s.routeArg i % 1024) tm) tm) (n := s.landing) hp hright ?_ hk
    fun t hdone => ⟨?_, ?_, ?_, hdone.code, hdone.job⟩
  · simp only [htm, hfree, hon, hfits, if_neg hw, Nat.not_lt.mpr hquota, Bool.false_eq_true, if_false]
    rfl
  · rw [hdone.job?, job?_of_route listJob_route, job?_setJob]
  · rw [hdone.get_kind (by simp), listJob_jobField (by simp), showJob_state]
  · rw [hdone.get_kind (by simp), listJob_jobField (by simp), showJob_weight, Nat.mod_mod]

end Admit

/-! ### RETIRE, SET_WEIGHT and MEASURE_SOLO (R230, R236, R244, R245) -/

theorem exec_retire : exec (.retire i p j) s = execRetire i p j s := rfl
theorem exec_setWeight : exec (.setWeight i p j) s = execSetWeight i p j s := rfl
theorem exec_measureSolo : exec (.measureSolo i p j) s = execMeasureSolo i p j s := rfl

section OwnJob
variable (hp : s.powered = true) (hjob : s.job? j.toNat = some b) (hpart : b.part = p.val)
include hp hjob hpart

theorem retire_lists (hright : s.routeRight i p rcRETIRE = true) : ∃ t, exec (.retire i p j) s = .next t ∧
    t.job? j.toNat = some { b with retireAt := some (b.retireAt.getD s.landing) } ∧
    t.get (F.ROUTE_JOB_state j.toNat) = jobRETIRING ∧ t.get (F.ROUTE_CMD_STATUS_code i) = 0 := by
  rw [exec_retire, execRetire]
  refine run_routeDone (n := b.retireAt.getD s.landing)
    (u := (s.setJob j.toNat { b with retireAt := some (b.retireAt.getD s.landing) }).set (F.ROUTE_JOB_state j.toNat) jobRETIRING)
    hp hright ?_ j.isLt fun t hdone => ⟨?_, ?_, hdone.code⟩
  · simp only [hjob, hpart, bne_self_eq_false, Bool.false_eq_true, if_false]
  · rw [hdone.job?, job?_of_route set_route, job?_setJob]
  · rw [hdone.get_kind (by simp), State.get_set (by simp [F.ROUTE_JOB_state])]
    rfl

theorem setWeight_shows (hright : s.routeRight i p rcSETWEIGHT = true) (hw : s.routeArg i % 1024 ≠ 0) :
    ∃ t, exec (.setWeight i p j) s = .next t ∧ t.get (F.ROUTE_JOB_weight j.toNat) = s.routeArg i % 1024 ∧
    t.get (F.ROUTE_PENDING_weight p) = 1 ∧
    { kind := 3, part := p, index := j.toNat, a := s.routeArg i % 1024, b := 0, landing := s.landing, port := i } ∈ t.route.cuts ∧
    t.get (F.ROUTE_CMD_STATUS_code i) = 0 := by
  rw [exec_setWeight, execSetWeight]
  refine run_routeDone (n := s.landing) (u := (((s.setJob j.toNat
      { b with oldWeight := s.weightAt s.route.buildFor j.toNat b, weightFrom := s.landing }).set
      (F.ROUTE_JOB_weight j.toNat) (s.routeArg i % 1024)).set (F.ROUTE_PENDING_weight p) 1).queueCut
      { kind := 3, part := p, index := j.toNat, a := s.routeArg i % 1024, b := 0, landing := s.landing, port := i })
    hp hright ?_ j.isLt fun t hdone => ⟨?_, ?_, ?_, hdone.code⟩
  · simp only [hjob, hpart, bne_self_eq_false, Bool.false_eq_true, if_false, if_neg hw]
    rfl
  · rw [hdone.get_kind (by simp), State.queueCut, get_mk, regGet_regs, State.get_set_kind (by simp),
      State.get_set (by simp [F.ROUTE_JOB_weight])]
    exact Nat.mod_mod _ _
  · rw [hdone.get_kind (by simp), State.queueCut, get_mk, regGet_regs, State.get_set (by simp [F.ROUTE_PENDING_weight])]
    rfl
  · rw [hdone.route]
    exact List.mem_append_right _ (List.mem_singleton_self _)

theorem measureSolo_arms (hright : s.routeRight i p rcSOLO = true)
    (hfit : (s.part p).criticality = critBESTEFFORT ∨ s.soloFits s.landing p j.toNat = true) :
    ∃ t, exec (.measureSolo i p j) s = .next t ∧ t.job? j.toNat = some { b with soloLeft := 16, soloFrom := s.landing } ∧
    t.get (F.ROUTE_CMD_STATUS_code i) = 0 := by
  have hfits : ((s.part p).criticality != critBESTEFFORT && !s.soloFits s.landing p j.toNat) = false := by
    rcases hfit with h | h <;> simp [h]
  rw [exec_measureSolo, execMeasureSolo]
  refine run_routeDone (n := s.landing) (u := s.setJob j.toNat { b with soloLeft := 16, soloFrom := s.landing }) hp hright ?_ j.isLt
    fun t hdone => ⟨(hdone.job? _).trans job?_setJob, hdone.code⟩
  simp only [hjob, hpart, hfits, bne_self_eq_false, Bool.false_eq_true, if_false]

end OwnJob

theorem retire_noSuchJob (hp : s.powered = true) (hright : s.routeRight i p rcRETIRE = true)
    (hother : ∀ b, s.job? j.toNat = some b → b.part ≠ p.val) :
    ∃ t, exec (.retire i p j) s = .next t ∧ s.RefusedShare t i Code.ROUTE_BAD_COMMAND 0 := by
  rw [exec_retire, execRetire]
  refine run_refusedShare (ps := [i, rcRETIRE]) hp ((routeCmd_granted hright).trans ?_) (by decide) (by decide)
  split
  · rfl
  next b hb => exact if_pos (by simpa using hother b hb)

/-- Settles O12: each clause is an outcome of a command above; a port without the right is refused before the command looks at the job. -/
theorem jobCommands : Obligations.JobCommands := by
  unfold Obligations.JobCommands
  refine ⟨?admits, ?retire, ?weight, ?solo, ?admitDenied, ?retireDenied, ?weightDenied, ?soloDenied, ?noSuchJob⟩
  case admits =>
    intro s i p tpl tm k hp hright htm hfree hover hquota hfit hw
    obtain ⟨t, ht, hjob, hregs⟩ := admitTemplate_lists hp hright htm hfree hover hquota hfit hw
    exact ⟨t, ht, ⟨_, hjob, rfl, rfl, rfl, rfl, rfl⟩, hregs⟩
  case retire => exact fun s i p j b hp hright hjob hpart => retire_lists hp hjob hpart hright
  case weight =>
    intro s i p j b hp hright hjob hpart hw
    obtain ⟨t, ht, hweight, hpending, hcut, hcode⟩ := setWeight_shows hp hjob hpart hright hw
    exact ⟨t, ht, hweight, hpending, ⟨_, hcut, rfl, rfl, rfl, rfl⟩, hcode⟩
  case solo => exact fun s i p j b hp hright hjob hpart hfit => measureSolo_arms hp hjob hpart hright hfit
  case noSuchJob =>
    intro s i p j hp hright hother
    obtain ⟨t, ht, hrefused⟩ := retire_noSuchJob hp hright hother
    exact ⟨t, ht, hrefused.route, hrefused.code⟩
  all_goals
    intro s i p _ hp hright
    obtain ⟨t, ht, hrefused⟩ := run_routeDenied hp hright
    exact ⟨t, ht, hrefused.route, hrefused.code⟩

end Sys2Proof.Machine
end

section
/-! PROOFS. What the scheduler's operations make of the legs in the sheets (R62, R226 to R240): releases, placement and the end of iterations
work on the jobs and the iterations, and leave the legs that run, those in the builder and the build that is begun as they are. -/

namespace Sys2Proof.Machine

variable {s t u : State} {n p j c : Nat}

/-! ### The legs and the build that is begun -/

/-- The legs that run, the legs in the builder, the period of the latest build, and whether it is built. -/
def State.legPlan (s : State) : List LegRun × List LegRun × Nat × Bool :=
  (s.route.legs, s.route.planned, s.route.buildFor, s.route.built)

theorem legPlan_legs (h : t.legPlan = s.legPlan) : t.route.legs = s.route.legs := congrArg (fun x => x.1) h
theorem legPlan_subset (h : t.legPlan = s.legPlan) : t.route.legs ⊆ s.route.legs := by
  rw [legPlan_legs h]
  exact List.Subset.refl _

/-- What leaves the running image and the scheduler leaves the legs and the build. -/
theorem legPlan_of_frame (h : Frame besidesBuild s t) : t.legPlan = s.legPlan := by
  rw [State.legPlan, State.legPlan, h.route rfl]

theorem legPlan_ite {b : Prop} [Decidable b] (ht : t.legPlan = s.legPlan) (hu : u.legPlan = s.legPlan) :
    (if b then t else u).legPlan = s.legPlan := by split <;> assumption

theorem legPlan_each {α : Type} {f : State → α → State} (hf : ∀ s a, (f s a).legPlan = s.legPlan) :
    ∀ {l : List α} {s : State}, (s.each l f).legPlan = s.legPlan
  | [], _ => rfl
  | a :: l, s => (legPlan_each hf (l := l)).trans (hf s a)

theorem legPlan_invalidate {tags : List Nat} : (s.invalidate p tags c).legPlan = s.legPlan :=
  legPlan_of_frame (State.invalidate_frame rfl (.refl _ s))

theorem legPlan_raise {ps : List Nat} : (s.raise c ps).legPlan = s.legPlan := legPlan_of_frame (State.raise_frame rfl (.refl _ s))

theorem legPlan_showPool : (s.showPool p).legPlan = s.legPlan := legPlan_of_frame (State.showPool_frame rfl (.refl _ s))

/-! ### Releases (R227, R228, R239) -/

theorem legPlan_release {b : Job} {g : Nat} {tm : TemplateCfg} {tags : List Nat} {input : BitVec 256} {ring : Option (Nat × Nat)} :
    (s.release j b g tm tags input n ring).legPlan = s.legPlan := by
  unfold State.release
  extract_lets den fold
  split
  next res u heq =>
    have hu : u.legPlan = s.legPlan := by
      split at heq <;> (injection heq with _ hs; subst hs)
      · exact legPlan_of_frame (State.alloc_frame rfl rfl (.refl _ s))
      · rfl
    exact hu

theorem legPlan_formBatch {num g : Nat} {tm : TemplateCfg} {m : SeqModelCfg} :
    (s.formBatch p n j num g tm m).legPlan = s.legPlan := by
  unfold State.formBatch
  extract_lets x old seqs gone long leaves s1 left freed d s2 s3 x3 d3 pend
  split
  · rfl
  · have h1 : s1.legPlan = s.legPlan := legPlan_each fun u _ => (legPlan_of_frame (State.lengthLimit_frame rfl (.refl _ u)))
    have h3 : s3.legPlan = s.legPlan := (legPlan_of_frame (State.admitJoins_frame rfl (.refl _ s2))).trans h1
    split
    extract_lets s4 k src
    have h4 : s4.legPlan = s.legPlan := h3
    exact legPlan_ite h4 (legPlan_raise.trans h4)

theorem legPlan_stepBatch {num g : Nat} {b : Job} : (s.stepBatch n j num g b).legPlan = s.legPlan := by
  unfold State.stepBatch
  split
  · rfl
  · split
    · rfl
    · exact legPlan_formBatch

theorem legPlan_cadences {b : Job} : (s.cadences n j b).legPlan = s.legPlan := by
  unfold State.cadences
  extract_lets due g s1 s2 g2
  have h1 : s1.legPlan = s.legPlan := by
    unfold s1
    split
    · rfl
    · exact legPlan_ite legPlan_release rfl
  have h2 : s2.legPlan = s.legPlan := by
    refine (legPlan_each fun u it => ?_).trans h1
    exact legPlan_ite legPlan_stepBatch rfl
  split
  · exact legPlan_ite (legPlan_stepBatch.trans (legPlan_release.trans h2)) h2
  · exact h2

theorem legPlan_takeReleases : (s.takeReleases n).legPlan = s.legPlan := by
  unfold State.takeReleases
  extract_lets s1
  have h1 : s1.legPlan = s.legPlan := legPlan_each fun u e => by
    split
    · rfl
    · exact legPlan_ite rfl legPlan_cadences
  exact h1

theorem legPlan_takeLandings : (s.takeLandings n).legPlan = s.legPlan :=
  legPlan_each fun s p => by
    refine legPlan_ite rfl ?_
    extract_lets src s1 g s2
    have h2 : s2.legPlan = s.legPlan := rfl
    exact (legPlan_of_frame (State.carrySequences_frame rfl (.refl _ s2))).trans h2

/-! ### Placement (R234, R236) -/

theorem legPlan_charge {toll : Nat} {cores : List Nat} : (s.charge n j toll cores).legPlan = s.legPlan := by
  unfold State.charge
  split <;> rfl

theorem legPlan_deferLeg {l copy : Nat} {full : Option Nat} {it : Iter} {g : LegCfg} :
    (s.deferLeg n p j l full it copy g).legPlan = s.legPlan := by
  unfold State.deferLeg
  extract_lets k src s1 s2 s3
  have h2 : s2.legPlan = s.legPlan := by
    unfold s2
    split
    · exact legPlan_raise
    · rfl
  have h3 : s3.legPlan = s.legPlan := legPlan_raise.trans h2
  split
  · exact h3
  · exact legPlan_ite ((legPlan_of_frame (State.fire_frame rfl (.refl _ _))).trans (legPlan_raise.trans h3)) (legPlan_invalidate.trans h3)

theorem legPlan_rounds {sel : Nat → Bool} {notOn : List Nat} {fuel : Nat} {x : Sheets} {legs : List LegRun}
    {gone : List Ready} {last : Option Nat} : (s.rounds n p sel notOn fuel x legs gone last).1.legPlan = s.legPlan := by
  induction fuel generalizing s x legs gone last with
  | zero => rfl
  | succ fuel ih =>
    unfold State.rounds
    extract_lets ready toll
    split
    · rfl
    · split
      split
      · rfl
      · extract_lets g w
        clear_value g w
        split
        · exact ih.trans legPlan_deferLeg
        · extract_lets run it1 s1 src s2 s3
          have h1 : s1.legPlan = s.legPlan := legPlan_charge
          exact ih.trans (legPlan_ite h1 h1)

theorem legPlan_buildPart {x : Sheets} {legs : List LegRun} : (s.buildPart n p x legs).1.legPlan = s.legPlan := by
  unfold State.buildPart
  generalize hfirst : s.rounds n p (s.soloAt n) [] s.legCount x legs [] none = first
  have h : first.1.legPlan = s.legPlan := hfirst ▸ legPlan_rounds
  exact legPlan_rounds.trans h

theorem legPlan_buildParts {l : List Nat} {a : State × Sheets × List LegRun} :
    (l.foldl (fun a p => a.1.buildPart n p a.2.1 a.2.2) a).1.legPlan = a.1.legPlan := by
  induction l generalizing a with
  | nil => rfl
  | cons q l ih => exact ih.trans legPlan_buildPart

/-- The sheets of a build are placed beside those that run. -/
theorem buildSheets_legPlan :
    ∃ planned, (s.buildSheets n).legPlan = (s.route.legs, planned, s.route.buildFor, true) := by
  have hparts := legPlan_buildParts (n := n) (l := s.buildOrder) (a := (s, sheets0, []))
  unfold State.buildSheets
  generalize s.buildOrder.foldl (fun a p => a.1.buildPart n p a.2.1 a.2.2) (s, sheets0, []) = placed at hparts
  exact ⟨placed.2.2, congrArg (fun x => (x.1, placed.2.2, x.2.2.1, true)) hparts⟩

/-! ### The end of a leg and of its iteration (R62, R226, R230) -/

theorem legPlan_latency {lat : Nat} {alone : Bool} : (s.latency j lat alone).legPlan = s.legPlan := by
  unfold State.latency
  split
  · rfl
  · extract_lets lats solos made left s1 s2 base b1 v s3 limit
    have h1 : s1.legPlan = s.legPlan := legPlan_ite rfl rfl
    have h2 : s2.legPlan = s.legPlan := legPlan_ite (legPlan_raise.trans h1) h1
    exact legPlan_ite h2 (legPlan_ite (legPlan_raise.trans h2) h2)

theorem legPlan_freeJob : (s.freeJob j).legPlan = s.legPlan := by
  unfold State.freeJob
  split
  · rfl
  next b _ =>
    extract_lets due src s1 s2 s3 x live s4 s5
    have h4 : s4.legPlan = s.legPlan := legPlan_invalidate
    have h5 : s5.legPlan = s.legPlan := legPlan_ite h4 (legPlan_showPool.trans h4)
    exact legPlan_ite rfl ((legPlan_of_frame (State.countJobs_frame rfl (State.checkQuota_frame rfl (.refl _ s5)))).trans h5)

theorem legPlan_dropOld : (s.dropOld p).legPlan = s.legPlan := by
  unfold State.dropOld
  extract_lets x used keep src c left srcZld s1
  have h2 : (s1.refreshPool p).legPlan = s1.legPlan := legPlan_of_frame (State.refreshPool_frame rfl (.refl _ s1))
  exact legPlan_ite rfl ((legPlan_each fun u e => by split <;> rfl).trans h2)

theorem legPlan_completeIter {it : Iter} {r : LegReport} : (s.completeIter it r).legPlan = s.legPlan := by
  unfold State.completeIter
  extract_lets lat s1 prog mask d s2 s3 tie src s4
  have h2 : s2.legPlan = s.legPlan := by
    unfold s2
    split
    · exact legPlan_of_frame (s := s1) (State.ready_frame rfl (State.digestRecord_frame rfl (.refl _ s1)))
    · rfl
  have h4 : s4.legPlan = s.legPlan := legPlan_ite (legPlan_latency.trans h2) (legPlan_latency.trans h2)
  exact legPlan_freeJob.trans (legPlan_dropOld.trans h4)

theorem endIter_legs {it : Iter} : (s.endIter it c).route.legs =
    s.route.legs.filter (fun g => !(g.job == it.job && g.iter == it.num)) := by
  unfold State.endIter
  extract_lets s1 s2
  have h2 : s2.legPlan = s.legPlan := by
    unfold s2
    split
    · exact (legPlan_of_frame (State.ready_frame rfl (State.draw_frame rfl rfl (State.drawDigest_frame rfl rfl (.refl _ s1))))).trans
        legPlan_invalidate
    · exact legPlan_invalidate
  exact congrArg (List.filter _) (legPlan_legs h2)

/-- What follows the end of a leg brings no leg into the sheets. -/
theorem afterLeg_legs {g : LegRun} {r : LegReport} : (s.afterLeg g r).route.legs ⊆ s.route.legs := by
  unfold State.afterLeg
  split
  · exact legPlan_subset legPlan_freeJob
  next it _ =>
    split
    · -- the iteration is complete, and this was a leg that runs beside it
      split <;> exact List.Subset.refl _
    split
    · -- legs of the iteration are left
      exact legPlan_subset legPlan_freeJob
    split
    · -- its job was retired meanwhile
      rw [legPlan_legs legPlan_freeJob, endIter_legs]
      exact fun x hx => (List.mem_filter.mp hx).1
    · exact legPlan_subset legPlan_completeIter

theorem endLeg_legs {g : LegRun} : (s.endLeg g).route.legs = s.route.legs.filter (fun x => x.id != g.id) := by
  unfold State.endLeg
  extract_lets src s1 s2 s3
  have h2 : s2.legPlan = s1.legPlan := by
    unfold s2
    split <;> rfl
  have h3 : s3.legPlan = s1.legPlan := (legPlan_of_frame (State.clearLeg_frame rfl (.refl _ s2))).trans h2
  exact legPlan_legs (legPlan_ite (legPlan_showPool.trans h3) h3)

/-- A leg that is done leaves the sheets, with every other of its number. -/
theorem legDone_gone {g : LegRun} {r : LegReport} : ∀ x ∈ (s.legDone g r).route.legs, x.id ≠ g.id := by
  intro x hx
  have hleft := afterLeg_legs hx
  rw [endLeg_legs] at hleft
  simpa using (List.mem_filter.mp hleft).2

end Sys2Proof.Machine
end

section
/-! PROOFS. Builds, the legs in the sheets and the old parts of a reload (R62, R226, R228, R234): the outcomes of BUILD_START, BUILD_COMPLETE,
LEG_COMPLETE and RELOAD_TIMEOUT, and from them the statement O14. -/

namespace Sys2Proof.Machine

variable {s t u : State} {n : Nat} {p : Part}

theorem exec_buildStart : exec .buildStart s = execBuildStart s := rfl
theorem exec_buildComplete : exec .buildComplete s = execBuildComplete s := rfl
theorem exec_legComplete {c : CoreId} {k : Fin 256} {r : LegReport} : exec (.legComplete c k r) s = execLegComplete c k r s := rfl
theorem exec_reloadTimeout : exec (.reloadTimeout p) s = execReloadTimeout p s := rfl

/-! ### BUILD_START and BUILD_COMPLETE (R228, R234) -/

/-- What a build does once it is shown running. -/
def State.buildSteps_mask : Nat := State.takeLandings_mask ||| State.chooseSpares_mask ||| State.showWalkers_mask ||| State.setJob_mask |||
  State.takeReleases_mask ||| State.checkFit_mask

theorem buildStart_legPlan : s.buildStart.legPlan = (s.route.legs, [], s.period + 1, false) := by
  unfold State.buildStart
  extract_lets n src s1 s2 s3 s4
  have h2 : s2.legPlan = s1.legPlan := (legPlan_of_frame (State.chooseSpares_frame rfl (.refl _ _))).trans legPlan_takeLandings
  have h3 : s3.legPlan = s2.legPlan := legPlan_of_frame (State.showWalkers_frame rfl (.refl _ s2))
  have h4 : s4.legPlan = s3.legPlan := legPlan_each fun _ _ => by dsimp only; split <;> rfl
  exact (legPlan_of_frame (State.checkFit_frame rfl (.refl _ _))).trans (legPlan_takeReleases.trans (h4.trans (h3.trans h2)))

theorem buildStart_builderRunning : s.buildStart.get F.ROUTE_STATUS_builder_running = 1 := by
  unfold State.buildStart
  extract_lets n src s1 s2 s3 s4
  have h3 : Frame State.buildSteps_mask (s1.set F.ROUTE_STATUS_builder_running 1) s3 :=
    State.showWalkers_frame rfl (State.chooseSpares_frame rfl (State.takeLandings_frame rfl (.refl _ _)))
  have h4 : Frame State.buildSteps_mask (s1.set F.ROUTE_STATUS_builder_running 1) s4 :=
    State.each_frame h3 fun _ _ h => Frame.ite (State.setJob_frame rfl h) h
  have h5 : Frame State.buildSteps_mask (s1.set F.ROUTE_STATUS_builder_running 1) ((s4.takeReleases n).checkFit n false) :=
    State.checkFit_frame rfl (State.takeReleases_frame rfl h4)
  exact (h5.get _ rfl).trans (State.get_set (by decide))

theorem buildStart_begins (hp : s.powered = true) (hnone : s.route.buildFor ≤ s.period) (hdies : s.board.diesOff = false) :
    ∃ t, exec .buildStart s = .next t ∧ t.route.buildFor = s.period + 1 ∧ t.route.built = false ∧ t.route.planned = [] ∧
    t.get F.ROUTE_STATUS_builder_running = 1 := by
  rw [exec_buildStart, execBuildStart]
  refine run_answers_of_effect (u := s.buildStart) hp (if_neg ?_) fun t ht => ?_
  · simp [hnone, hdies]
  have hplan := buildStart_legPlan (s := s)
  simp only [State.legPlan, Prod.mk.injEq] at hplan
  obtain ⟨-, hplanned, hfor, hbuilt⟩ := hplan
  rw [ht.route_driven, ht.get_driven rfl]
  exact ⟨hfor, hbuilt, hplanned, buildStart_builderRunning⟩

theorem buildStart_leaves (hp : s.powered = true) (h : s.period < s.route.buildFor ∨ s.board.diesOff = true) :
    ∃ t, exec .buildStart s = .next t ∧ t.route = s.route := by
  rw [exec_buildStart, execBuildStart]
  refine run_answers_of_effect hp (if_pos ?_) fun _ ht => ht.route_driven
  simpa using h

theorem buildComplete_marks (hp : s.powered = true) (hbegun : s.route.built = false) (hnext : s.period < s.route.buildFor) :
    ∃ t, exec .buildComplete s = .next t ∧ t.route.built = true ∧ t.route.buildFor = s.route.buildFor ∧ t.route.legs = s.route.legs := by
  rw [exec_buildComplete, execBuildComplete]
  refine run_answers_of_effect (u := (s.buildSheets s.route.buildFor).kickKind wdBUILDER) hp (if_neg ?_) fun t ht => ?_
  · simp [hbegun, hnext]
  obtain ⟨planned, hsheets⟩ := buildSheets_legPlan (s := s) (n := s.route.buildFor)
  have hkick := (State.kickKind_frame (kind := wdBUILDER) (Within.refl _)
    (.refl State.kickKind_mask (s.buildSheets s.route.buildFor))).route rfl
  simp only [State.legPlan, Prod.mk.injEq] at hsheets
  obtain ⟨hlegs, -, hfor, hbuilt⟩ := hsheets
  rw [ht.route_driven, hkick]
  exact ⟨hbuilt, hfor, hlegs⟩

theorem buildComplete_leaves (hp : s.powered = true) (h : s.route.built = true ∨ s.route.buildFor ≤ s.period) :
    ∃ t, exec .buildComplete s = .next t ∧ t.route = s.route := by
  rw [exec_buildComplete, execBuildComplete]
  refine run_answers_of_effect hp (if_pos ?_) fun _ ht => ht.route_driven
  simpa using h

/-! ### LEG_COMPLETE (R226) -/

section LegComplete
variable {c : CoreId} {k : Fin 256} {r : LegReport} {l : Nat} {g : LegRun}

/-- Leg `g` once it has ended on logical core `l`. -/
def LegRun.endedOn (g : LegRun) (l : Nat) : LegRun := { g with done := g.done ++ [l] }

/-- The state once leg `g` has ended on logical core `l`, whose physical core is `c`. -/
def State.endOn (s : State) (c l : Nat) (g : LegRun) : State := ((s.perfEvent c 0x16 1).setLeg (g.endedOn l)).showCore c

theorem mem_legs_of_legsOn (h : (s.legsOn l)[k.val]? = some g) : g ∈ s.route.legs :=
  (List.mem_filter.mp (List.mem_mergeSort.mp (List.mem_of_getElem? h))).1

theorem endOn_legs : (s.endOn c l g).route.legs = s.route.legs.map fun x => if x.id == g.id then g.endedOn l else x := by
  have hperf := (State.perfEvent_frame (c := c) (ev := 0x16) (n := 1) (Within.refl _) (.refl State.perfEvent_mask s)).route rfl
  have hshow := (State.showCore_frame (c := c) (Within.refl _)
    (.refl State.showCore_mask ((s.perfEvent c 0x16 1).setLeg (g.endedOn l)))).route rfl
  rw [State.endOn, hshow, State.setLeg, hperf]
  rfl

theorem endOn_mem : (s.endOn c l g).mem = s.mem := by
  have hperf := (State.perfEvent_frame (c := c) (ev := 0x16) (n := 1) (Within.refl _) (.refl State.perfEvent_mask s)).mem rfl
  have hshow := (State.showCore_frame (c := c) (Within.refl _)
    (.refl State.showCore_mask ((s.perfEvent c 0x16 1).setLeg (g.endedOn l)))).mem rfl
  rw [State.endOn, hshow, State.setLeg, hperf]

theorem endedOn_mem_legs (h : g ∈ s.route.legs) : g.endedOn l ∈ (s.endOn c l g).route.legs := by
  rw [endOn_legs]
  exact List.mem_map.mpr ⟨g, h, if_pos (beq_self_eq_true _)⟩

/-- The core `c` ends its k-th leg `g`; the leg is done where each of its cores has ended it. -/
theorem legComplete_answers {P : State → Prop} (hp : s.powered = true) (hrole : s.coreRole c = coreACTIVE) (hl : s.logicalOf c = some l)
    (hg : (s.legsOn l)[k.val]? = some g)
    (hP : ∀ t, t.Same (if g.cores.all (fun q => (g.endedOn l).done.contains q) then (s.endOn c l g).legDone (g.endedOn l) r
      else s.endOn c l g).driveOutputs → P t) : ∃ t, exec (.legComplete c k r) s = .next t ∧ P t := by
  rw [exec_legComplete, execLegComplete]
  refine run_answers_of_effect hp ?_ hP
  simp only [hrole, hl, hg, bne_self_eq_false, Bool.false_eq_true, if_false]
  rfl

theorem legComplete_stays (hp : s.powered = true) (hrole : s.coreRole c = coreACTIVE) (hl : s.logicalOf c = some l)
    (hg : (s.legsOn l)[k.val]? = some g) (hpending : ∃ q ∈ g.cores, q ≠ l ∧ q ∉ g.done) : ∃ t, exec (.legComplete c k r) s = .next t ∧
    (∃ x ∈ t.route.legs, x.id = g.id ∧ x.done = g.done ++ [l]) ∧ t.mem = s.mem := by
  refine legComplete_answers hp hrole hl hg fun t ht => ?_
  have hall : ¬ g.cores.all (fun q => (g.endedOn l).done.contains q) = true := by
    obtain ⟨q, hq, hne, hdone⟩ := hpending
    intro h
    have := List.all_eq_true.mp h q hq
    simp [LegRun.endedOn, hne, hdone] at this
  rw [if_neg hall] at ht
  rw [ht.route_driven, ht.mem_driven]
  exact ⟨⟨_, endedOn_mem_legs (mem_legs_of_legsOn hg), rfl, rfl⟩, endOn_mem⟩

theorem legComplete_ends (hp : s.powered = true) (hrole : s.coreRole c = coreACTIVE) (hl : s.logicalOf c = some l)
    (hg : (s.legsOn l)[k.val]? = some g) (hlast : ∀ q ∈ g.cores, q = l ∨ q ∈ g.done) : ∃ t, exec (.legComplete c k r) s = .next t ∧
    ∀ x ∈ t.route.legs, x.id ≠ g.id := by
  refine legComplete_answers hp hrole hl hg fun t ht => ?_
  have hall : g.cores.all (fun q => (g.endedOn l).done.contains q) = true := by
    refine List.all_eq_true.mpr fun q hq => ?_
    simpa [LegRun.endedOn] using (hlast q hq).symm
  rw [if_pos hall] at ht
  rw [ht.route_driven]
  exact legDone_gone

theorem legComplete_leaves (hp : s.powered = true)
    (h : s.coreRole c ≠ coreACTIVE ∨ s.logicalOf c = none ∨ ∃ l, s.logicalOf c = some l ∧ (s.legsOn l)[k.val]? = none) :
    ∃ t, exec (.legComplete c k r) s = .next t ∧ t.route = s.route ∧ t.mem = s.mem := by
  rw [exec_legComplete, execLegComplete]
  refine run_answers_of_effect (u := s) hp ?_ fun t ht => ⟨ht.route_driven, ht.mem_driven⟩
  split
  · rfl
  next hrole =>
    rcases h with h | h | ⟨l, hl, hg⟩
    · simp [h] at hrole
    · simp only [h]
    · simp only [hl, hg]

end LegComplete

/-! ### RELOAD_TIMEOUT (R62) -/

section ReloadTimeout

theorem mem_of_tfind {α : Type} {k : Nat} {v : α} : ∀ {l : Tab α}, tfind l k = some v → (k, v) ∈ l
  | e :: l, h => by
    rw [tfind] at h
    split at h
    next he => cases h; simp [he]
    next => exact List.mem_cons_of_mem _ (mem_of_tfind h)

theorem pool_of_kv {q : Nat} (h : t.kv = u.kv) : t.pool q = u.pool q := by rw [State.pool, State.pool, h]

theorem pool_setPool {q : Nat} {x : Pool} : (s.setPool q x).pool q = x := tget_tset_self _ _ _ _

theorem endIter_kv {it : Iter} {c : Nat} : (s.endIter it c).kv = s.kv :=
  (State.endIter_frame (Within.refl _) (.refl State.endIter_mask s)).kv rfl

theorem invalidate_kv {q : Nat} {tags : List Nat} {c : Nat} : (s.invalidate q tags c).kv = s.kv :=
  (State.invalidate_frame (Within.refl _) (.refl State.invalidate_mask s)).kv rfl

theorem each_kv {α : Type} {f : State → α → State} (hf : ∀ s a, (f s a).kv = s.kv) : ∀ {l : List α} {s : State}, (s.each l f).kv = s.kv
  | [], _ => rfl
  | a :: l, s => (each_kv hf (l := l)).trans (hf s a)

/-- A pool that is set up anew keeps the joins that wait. -/
theorem refreshPool_joins {q : Nat} : ((s.refreshPool q).pool q).joins = (s.pool q).joins := by
  unfold State.refreshPool
  extract_lets x fits t
  rw [pool_of_kv ((State.countHeld_frame (Within.refl _) (.refl State.countHeld_mask _)).kv rfl)]
  split
  · rfl
  · rw [pool_of_kv ((State.showPool_frame (Within.refl _) (.refl State.showPool_mask _)).kv rfl), pool_setPool]

theorem dropOld_joins {q : Nat} : ((s.dropOld q).pool q).joins = (s.pool q).joins := by
  unfold State.dropOld
  extract_lets x used keep src c left srcZld s1
  split
  · rfl
  · refine (congrArg Pool.joins (pool_of_kv (each_kv fun u e => ?_))).trans refreshPool_joins
    split <;> rfl

/-- The old program `g` of partition `p` was left behind 64 periods ago or more. -/
def State.reloadDue (s : State) (p g : Nat) : Bool := (tfind s.zld.oldSince (oldKey p g)).any fun n => n + 64 ≤ s.period

theorem reloadTimeout_ends {g : Nat} (hp : s.powered = true) (hsince : tfind s.zld.oldSince (oldKey p g) = some n)
    (hn : n + 64 ≤ s.period) : ∃ t, exec (.reloadTimeout p) s = .next t ∧ ∀ w ∈ (t.pool p).joins, w.gen ≠ g := by
  have hdue : s.reloadDue p g = true := by simp [State.reloadDue, hsince, hn]
  have hany : (!s.zld.oldSince.any fun e => e.1 % 8 == p.val && s.reloadDue p (e.1 / 8)) = false := by
    have hkey : oldKey p g % 8 = p.val ∧ oldKey p g / 8 = g := by unfold oldKey; omega
    rw [List.any_eq_true.mpr ⟨_, mem_of_tfind hsince, by simp [hkey, hdue]⟩, Bool.not_true]
  rw [exec_reloadTimeout, execReloadTimeout]
  refine run_answers_of_effect hp rfl fun t ht => ?_
  have hkv := ht.kv.trans driveOutputs_kv
  extract_lets due old x seqs joins parts tags ended gen s1 s2 s3 src s4 at hkv
  have hkv := hkv.trans (congrArg State.kv (if_neg (ne_true_of_eq_false hany)))
  have h4 : s4.kv = s1.kv := invalidate_kv.trans (each_kv fun _ _ => endIter_kv)
  have hjoins : (t.pool p).joins = (s.pool p).joins.filter fun w => !s.reloadDue p w.gen := by
    rw [pool_of_kv hkv, dropOld_joins, pool_of_kv raise_kv, pool_of_kv h4]
    exact congrArg Pool.joins pool_setPool
  intro w hw hgen
  have hkept := (List.mem_filter.mp (hjoins ▸ hw)).2
  simp [hgen, hdue] at hkept

theorem reloadTimeout_leaves (hp : s.powered = true)
    (h : ∀ g n, tfind s.zld.oldSince (oldKey p g) = some n → s.period < n + 64) :
    ∃ t, exec (.reloadTimeout p) s = .next t ∧ t.route = s.route ∧ t.kv = s.kv ∧ t.cfg = s.cfg := by
  have hnone : ∀ g, s.reloadDue p g = false := fun g => by
    rw [State.reloadDue]
    cases hsince : tfind s.zld.oldSince (oldKey p g) with
    | none => rfl
    | some n => simpa using h g n hsince
  rw [exec_reloadTimeout, execReloadTimeout]
  refine run_answers_of_effect (u := s) hp (if_pos ?_) fun t ht =>
    ⟨ht.route_driven, ht.kv.trans driveOutputs_kv, ht.cfg.trans driveOutputs_cfg⟩
  rw [Bool.not_eq_true', List.any_eq_false]
  intro e _
  change ¬ (_ && s.reloadDue p (e.1 / 8)) = true
  rw [hnone, Bool.and_false]
  exact Bool.false_ne_true

end ReloadTimeout

/-- Settles O14: each clause is an outcome of a command above. -/
theorem buildsAndLegs : Obligations.BuildsAndLegs := by
  unfold Obligations.BuildsAndLegs
  exact ⟨fun _ => buildStart_begins, fun _ => buildStart_leaves, fun _ => buildComplete_marks, fun _ => buildComplete_leaves,
    fun _ _ _ _ _ _ => legComplete_stays, fun _ _ _ _ _ _ => legComplete_ends, fun _ _ _ _ => legComplete_leaves,
    fun _ _ _ _ => reloadTimeout_ends, fun _ _ => reloadTimeout_leaves⟩

end Sys2Proof.Machine
end

section
/-! PROOFS. The areas that each command of the scheduler, the cores, their words and the KV pools may touch (R122 to R250): every meaning
changes what its mask names alone, and the masks lie within the areas of the statement O58. -/

namespace Sys2Proof.Machine

/-- A command touches the areas of `ls` where those that its meaning changes lie within them. -/
theorem touches.of_frame {c : Instr} {A : Nat} {ls : List (List Area)} (h : ∀ {s t}, exec c s = .next t → Frame A s t)
    (hA : A &&& areas (ls.flatten ++ outputAreas) = A := by decide +kernel) : touches c ls :=
  fun _ _ e => (h e).mono hA

/-- Settles O58: each clause is the frame of one command's meaning. -/
theorem framesOfRoutesAndCompute : Obligations.FramesOfRoutesAndCompute := by
  unfold Obligations.FramesOfRoutesAndCompute
  exact ⟨
    fun _ => .of_frame execReloadTimeout_frame, fun _ => .of_frame execPeriodBoundary_frame,
    fun _ => .of_frame execCoreHang_frame, fun _ _ => .of_frame execDetourRequest_frame,
    fun _ _ => .of_frame execFenceClear_frame, fun _ => .of_frame execNop_frame, fun _ => .of_frame execMload_frame,
    fun _ => .of_frame execMswap_frame, fun _ => .of_frame execMma_frame, fun _ => .of_frame execAclr_frame,
    fun _ => .of_frame execAbias_frame, fun _ => .of_frame execAscale_frame, fun _ => .of_frame execAdrain_frame,
    fun _ => .of_frame execAsave_frame, fun _ => .of_frame execArestore_frame, fun _ => .of_frame execVadd_frame,
    fun _ => .of_frame execVsub_frame, fun _ => .of_frame execVmul_frame, fun _ => .of_frame execVfma_frame,
    fun _ => .of_frame execVdiv_frame, fun _ => .of_frame execVmin_frame, fun _ => .of_frame execVmax_frame,
    fun _ => .of_frame execVabs_frame, fun _ => .of_frame execVneg_frame, fun _ => .of_frame execVcmp_frame,
    fun _ => .of_frame execVsel_frame, fun _ => .of_frame execVcvt_frame, fun _ => .of_frame execVlogic_frame,
    fun _ => .of_frame execVshift_frame, fun _ => .of_frame execVadds_frame, fun _ => .of_frame execVsubs_frame,
    fun _ => .of_frame execVfunc_frame, fun _ => .of_frame execVred_frame, fun _ => .of_frame execVasum_frame,
    fun _ => .of_frame execVmov_frame, fun _ => .of_frame execAdd_frame, fun _ => .of_frame execSub_frame,
    fun _ => .of_frame execMul_frame, fun _ => .of_frame execAnd_frame, fun _ => .of_frame execOr_frame,
    fun _ => .of_frame execXor_frame, fun _ => .of_frame execShl_frame, fun _ => .of_frame execShr_frame,
    fun _ => .of_frame execSar_frame, fun _ => .of_frame execSlt_frame, fun _ => .of_frame execLdi_frame,
    fun _ => .of_frame execDiv_frame, fun _ => .of_frame execRem_frame, fun _ => .of_frame execLd_frame,
    fun _ => .of_frame execSt_frame, fun _ => .of_frame execFadd_frame, fun _ => .of_frame execFsub_frame,
    fun _ => .of_frame execFmul_frame, fun _ => .of_frame execFfma_frame, fun _ => .of_frame execFdiv_frame,
    fun _ => .of_frame execFsqrt_frame, fun _ => .of_frame execFcvt_frame, fun _ => .of_frame execRdv_frame,
    fun _ => .of_frame execLoop_frame, fun _ => .of_frame execWaitt_frame,
    fun _ => .of_frame execWaittComplete_frame, fun _ => .of_frame execVergeTimeout_frame,
    fun _ => .of_frame execSignal_frame, fun _ => .of_frame execTransfer_frame, fun _ => .of_frame execErun_frame,
    fun _ => .of_frame execPrun_frame, fun _ => .of_frame execEdgeCallComplete_frame,
    fun _ => .of_frame execGatherKv_frame, fun _ => .of_frame execWriteKv_frame,
    fun _ => .of_frame execWalkCallComplete_frame, fun _ => .of_frame execGather_frame,
    fun _ => .of_frame execScatter_frame, fun _ => .of_frame execSegred_frame, fun _ => .of_frame execScan_frame,
    fun _ => .of_frame execCompact_frame, fun _ => .of_frame execSort_frame, fun _ => .of_frame execMerge_frame,
    fun _ => .of_frame execTopk_frame, fun _ => .of_frame execUnique_frame, fun _ => .of_frame execLabel_frame,
    fun _ => .of_frame execGraphCc_frame, fun _ => .of_frame execExpand_frame,
    fun _ => .of_frame execIrregCallComplete_frame, fun _ => .of_frame execCappend_frame,
    fun _ => .of_frame execCcheck_frame, fun _ => .of_frame execCstrip_frame, fun _ => .of_frame execCrange_frame,
    fun _ => .of_frame execCcompare_frame, fun _ _ => .of_frame execCheckCallComplete_frame,
    fun _ _ _ => .of_frame execPrefixRetire_frame, fun _ _ _ => .of_frame execSeqEnd_frame,
    fun _ _ _ => .of_frame execPageQuery_frame, fun _ _ _ => .of_frame execAdmit_frame,
    fun _ _ _ => .of_frame execRetire_frame, fun _ _ _ => .of_frame execSetWeight_frame,
    fun _ _ _ => .of_frame execMeasureSolo_frame, fun _ _ => .of_frame execSetQuota_frame,
    fun _ _ => .of_frame execSetBandwidth_frame, fun _ _ _ => .of_frame execSetWindow_frame,
    .of_frame execBuildStart_frame, .of_frame execBuildComplete_frame, fun _ _ _ => .of_frame execLegComplete_frame⟩

end Sys2Proof.Machine
end

section
/-! PROOFS. How every command and every step ends (R36, R360, R379): with the outputs that the new state drives, with what they depend on
as it was, or with the module off; from it the statements O48, O50 and O51. -/

namespace Sys2Proof.Machine

variable {s t u v : State}

/-- `t` has the outputs of `s`, and what they depend on in the statements of the safe state. -/
structure State.SameOutputs (t s : State) : Prop where
  state : t.get F.SAFE_STATUS_state = s.get F.SAFE_STATUS_state
  field : t.get F.FIO_OUT_STATE_on = s.get F.FIO_OUT_STATE_on
  safe : t.get F.SAFE_IO_outputs = s.get F.SAFE_IO_outputs
  pulse : t.fio.pulseOut = s.fio.pulseOut
  demand : t.get F.SAFE_IO_demand = s.get F.SAFE_IO_demand
  fault : t.get F.SAFE_IO_input_fault = s.get F.SAFE_IO_input_fault
  low : t.get F.CAP_BOARD_STATUS_field_low = s.get F.CAP_BOARD_STATUS_field_low
  cfg : t.cfg = s.cfg

theorem State.SameOutputs.of_eq (hr : t.regs = s.regs) (hf : t.fio = s.fio) (hc : t.cfg = s.cfg) : t.SameOutputs s := by
  have hget (f : Field) : t.get f = s.get f := by rw [State.get, State.get, hr]
  exact ⟨hget _, hget _, hget _, by rw [hf], hget _, hget _, hget _, hc⟩

theorem State.SameOutputs.safeMeansOff (h : t.SameOutputs s) (hs : s.safeMeansOff) : t.safeMeansOff := by
  intro hsafe
  obtain ⟨hfield, hsafeOut, hpulse⟩ := hs (h.state.symm.trans hsafe)
  exact ⟨h.field.trans hfield, h.safe.trans hsafeOut, h.pulse.trans hpulse⟩

theorem State.SameOutputs.outDemand (h : t.SameOutputs s) (o : Nat) : t.outDemand o = s.outDemand o := by
  simp only [State.outDemand, State.mapped, State.safeIn, State.demands, h.demand, h.fault, h.cfg]

theorem State.SameOutputs.safeOutputsHold (h : t.SameOutputs s) (hs : s.safeOutputsHold) : t.safeOutputsHold := by
  intro o ch ho hch hon
  rw [h.safe] at hon
  rw [h.state, h.outDemand, State.fieldLow, State.on, h.low]
  exact hs o ch ho hch hon

/-! ### The outputs that a state drives -/

theorem maskOf_succ {n : Nat} {p : Nat → Bool} : maskOf (n + 1) p = maskOf n p + bit (p n) * 2 ^ n := by
  rw [maskOf, List.range_succ, List.foldl_append]
  cases h : p n <;> simp [maskOf, h, bit]

theorem maskOf_lt {p : Nat → Bool} : ∀ n, maskOf n p < 2 ^ n
  | 0 => by simp [maskOf]
  | n + 1 => by
    have := maskOf_lt (p := p) n
    rw [maskOf_succ, Nat.pow_succ]
    cases p n <;> simp [bit] <;> omega

theorem testBit_maskOf {p : Nat → Bool} {k : Nat} : ∀ n, (maskOf n p).testBit k = (decide (k < n) && p k)
  | 0 => by simp [maskOf]
  | n + 1 => by
    have hlt := maskOf_lt (p := p) n
    rw [maskOf_succ, Nat.add_comm, Nat.mul_comm, Nat.testBit_two_pow_mul_add _ hlt, testBit_maskOf n]
    by_cases hk : k < n
    · simp [hk, Nat.lt_succ_of_lt hk]
    · obtain rfl | hne := eq_or_ne k n
      · cases p k <;> simp [bit]
      · have : ¬ k < n + 1 := by omega
        have h1 : Nat.testBit 1 (k - n) = false :=
          Bool.eq_false_iff.2 (mt Nat.testBit_one_eq_true_iff_self_eq_zero.1 (by omega))
        cases p n <;> simp [hk, this, bit, h1]

theorem driveOutputs_safeOut : s.driveOutputs.get F.SAFE_IO_outputs =
    maskOf 4 (fun k => s.safeOutOn (k / 2) (k % 2)) := by
  have hlt := maskOf_lt (p := fun k => s.safeOutOn (k / 2) (k % 2)) 4
  simp only [State.driveOutputs, get_mk, regGet_regs]
  rw [State.setB, State.get_set_ne _ _ _ _ (by decide), State.get_set (by decide)]
  exact Nat.mod_eq_of_lt hlt

theorem driveOutputs_outDemand (o : Nat) : s.driveOutputs.outDemand o = s.outDemand o := by
  have hd : s.driveOutputs.get F.SAFE_IO_demand = s.get F.SAFE_IO_demand := by
    refine get_driveOutputs_field ?_ ?_ ?_ ?_ <;> decide
  have hf : s.driveOutputs.get F.SAFE_IO_input_fault = s.get F.SAFE_IO_input_fault := by
    refine get_driveOutputs_field ?_ ?_ ?_ ?_ <;> decide
  simp only [State.outDemand, State.mapped, State.safeIn, State.demands, hd, hf, driveOutputs_cfg]

/-- The outputs that a state drives are off in the safe state (R322, R379). -/
theorem driveOutputs_safeMeansOff : s.driveOutputs.safeMeansOff := fun h =>
  driveOutputs_off (driveOutputs_state.symm.trans h)

/-- The safe outputs that a state drives hold to R379. -/
theorem driveOutputs_safeOutputsHold : s.driveOutputs.safeOutputsHold := by
  intro o ch ho hch hon
  rw [driveOutputs_safeOut, testBit_maskOf, show (2 * o + ch) / 2 = o by omega, State.safeOutOn] at hon
  simp only [Bool.and_eq_true, Bool.or_eq_true, beq_iff_eq, Bool.not_eq_true'] at hon
  obtain ⟨-, ⟨⟨⟨⟨-, hstate⟩, hdemand⟩, hlow⟩, -⟩, -⟩ := hon
  rw [driveOutputs_state, driveOutputs_outDemand, State.fieldLow, State.on, get_driveOutputs (by decide)]
  exact ⟨hstate, hdemand, hlow⟩

/-! ### How a command ends -/

/-- How a command that answers `t` ends: with the outputs driven, with them as they were in a module that is off, or with the module
switched off. -/
inductive State.Ends (s t : State) : Prop
  | driven (u : State) (h : t.Same u.driveOutputs)
  | rests (h : t.SameOutputs s)
  | off (h : t.regs = [] ∧ t.fio.pulseOut = 0)

/-- The outcome `r` answers a state in which a command ends. -/
def State.Answers (s : State) (r : Host.Outcome State Fault Refusal) : Prop := ∃ t, r = .next t ∧ s.Ends t

theorem run_answers_sameOutputs {f : State → State} (h : u.SameOutputs s) : s.Answers (u.run f) := by
  cases hp : u.powered with
  | true => exact ⟨_, State.run_powered hp, .driven (f u) ⟨_, rfl⟩⟩
  | false => exact ⟨u, State.run_unpowered hp, .rests h⟩

theorem State.SameOutputs.refl (s : State) : s.SameOutputs s := .of_eq rfl rfl rfl

theorem run_ends {f : State → State} : s.Answers (s.run f) := run_answers_sameOutputs (.refl s)

theorem next_ends : s.Answers (.next s) := ⟨s, rfl, .rests (.refl s)⟩

theorem noteField_sameOutputs {x : Option Nat} : (s.noteField x).SameOutputs s := by
  unfold State.noteField
  split <;> exact .of_eq rfl rfl rfl

theorem noteGroup_sameOutputs {g : Nat} {x : Option Nat} : (s.noteGroup g x).SameOutputs s := by
  unfold State.noteGroup
  split <;> exact .of_eq rfl rfl rfl

theorem powerDown_ends {p : Power} : s.Answers (s.become (s.powerDown p)) := ⟨_, rfl, .off ⟨rfl, rfl⟩⟩

/-- A cold start ends with the outputs driven; where none comes the state stays. -/
theorem become_driven_ends {b : Bool} : s.Answers (s.become (if b then u.driveOutputs else s)) := by
  cases b with
  | true => exact ⟨_, rfl, .driven u ⟨_, rfl⟩⟩
  | false => exact ⟨_, rfl, .rests (.of_eq rfl rfl rfl)⟩

theorem State.SameOutputs.become (h : u.SameOutputs s) : s.Answers (s.become u) := by
  obtain ⟨h1, h2, h3, h4, h5, h6, h7, h8⟩ := h
  exact ⟨_, rfl, .rests ⟨h1, h2, h3, h4, h5, h6, h7, h8⟩⟩

theorem storeFirmware_sameOutputs {n : Nat} {f : Firmware} : (s.storeFirmware n f).SameOutputs s := by
  have h := State.storeFirmware_frame (slot := n) (f := f) (Within.refl _) (Frame.refl _ s)
  exact ⟨h.get _ (by decide), h.get _ (by decide), h.get _ (by decide), by rw [h.fio rfl], h.get _ (by decide), h.get _ (by decide),
    h.get _ (by decide), h.cfg rfl⟩

theorem commandWrite_ends {i : Port} {x : Hit} {w : Word} {r : Host.Outcome State Fault Refusal}
    (h : s.commandWrite i x w = some r) : s.Answers r := by
  unfold State.commandWrite at h
  extract_lets at h
  split at h
  case h_3 | h_6 => cases h; exact next_ends
  all_goals cases h <;> exact run_ends

theorem exec_ends (c : Instr) : s.Answers (exec c s) := by
  cases c with
  | powerUp r => exact become_driven_ends
  | overvoltageRestart r => exact become_driven_ends
  | brownOut v =>
    show s.Answers (execBrownOut v s)
    unfold execBrownOut
    split
    · exact powerDown_ends
    · exact run_ends
  | overVoltage v =>
    show s.Answers (execOverVoltage v s)
    unfold execOverVoltage
    split
    · exact powerDown_ends
    · exact run_ends
  | fieldSupplyLow v => unfold exec; exact run_answers_sameOutputs noteField_sameOutputs
  | fieldSupplyReturn v l => unfold exec; exact run_answers_sameOutputs noteField_sameOutputs
  | groupSupplyLow g b v => unfold exec; exact run_answers_sameOutputs noteGroup_sameOutputs
  | consoleFirmwareLoad ok d =>
    show s.Answers (execConsoleFirmwareLoad ok d s)
    unfold execConsoleFirmwareLoad
    split
    · exact storeFirmware_sameOutputs.become
    · exact run_ends
  | registerWrite i b o w =>
    show s.Answers (execRegisterWrite i b o w s)
    unfold execRegisterWrite
    split
    · exact run_ends
    · split
      · exact run_ends
      · split
        next h =>
          split at h
          · cases h
          · exact commandWrite_ends h
        · exact run_ends
  | _ => unfold exec; exact run_ends

/-- Settles O48: every command ends, and its frame keeps the waiting commands and the variant. -/
theorem everyCommandCompletes : Obligations.EveryCommandCompletes := by
  unfold Obligations.EveryCommandCompletes
  intro c s
  obtain ⟨t, ht, -⟩ := exec_ends (s := s) c
  obtain ⟨_, hframe⟩ := exec_frame ht
  exact ⟨t, ht, hframe.pending, hframe.variant⟩

/-! ### How a step ends -/

/-- `t` is `u` but for what its cores hold and the waiting commands. -/
def State.Beside (t u : State) : Prop := ∃ e p, t = { u with exec := e, pending := p }

/-- A step is a command, which finds and leaves other words in the cores where a word issues again, or a sample that passes. -/
theorem step_cases (h : step s = .next t) :
    t = s.idle ∨ ∃ c u v, State.Beside u s ∧ exec c u = .next v ∧ State.Beside t v := by
  unfold step at h
  split at h
  · cases h
    unfold State.idleStep
    split
    · cases hheld : s.issueHeld with
      | none => exact .inl rfl
      | some t =>
        obtain ⟨_, _, hretry⟩ := List.exists_of_findSome?_eq_some hheld
        unfold State.retryHead at hretry
        dsimp only at hretry
        split at hretry
        · cases hretry
        · split at hretry
          next v hv =>
            split at hretry
            · cases hretry
            · cases hretry
              exact .inr ⟨_, _, v, ⟨_, _, rfl⟩, hv, ⟨_, _, rfl⟩⟩
          · cases hretry
    · exact .inl rfl
  · exact .inr ⟨_, _, t, ⟨_, _, rfl⟩, h, ⟨_, _, rfl⟩⟩

theorem State.Beside.sameOutputs (h : State.Beside t u) : t.SameOutputs u := by
  obtain ⟨_, _, rfl⟩ := h
  exact .of_eq rfl rfl rfl

theorem State.Beside.canonical (h : State.Beside t u) (hu : u.canonical) : t.canonical := by
  obtain ⟨_, _, rfl⟩ := h
  exact hu

/-- A frame keeps the canonical forms. -/
theorem Frame.canonical {W : Nat} (h : Frame W s t) (hs : s.canonical) : t.canonical := ⟨h.memWf hs.1, h.regsWf hs.2⟩

/-- Settles O51: a step is a frame of its state. -/
theorem memoryAndRegistersStayCanonical : Obligations.MemoryAndRegistersStayCanonical := by
  unfold Obligations.MemoryAndRegistersStayCanonical
  intro s t hs h
  obtain rfl | ⟨c, u, v, hu, hv, ht⟩ := step_cases h
  · exact (State.idle_frame (Within.refl _) (Frame.refl _ s)).canonical hs
  · obtain ⟨_, hframe⟩ := exec_frame hv
    exact ht.canonical (hframe.canonical (hu.canonical hs))

theorem each_settleInput_pulse : ∀ (l : List (Nat × Nat × Bool)) (s : State),
    (s.each l fun s e => s.settleInput e.1 e.2.2).fio.pulseOut = s.fio.pulseOut
  | [], _ => rfl
  | e :: l, s => (each_settleInput_pulse l (s.settleInput e.1 e.2.2)).trans rfl

/-- A sample that passes leaves the outputs (R310, R318). -/
theorem idle_sameOutputs : s.idle.SameOutputs s := by
  have h : Frame State.idle_mask s s.idle := State.idle_frame (Within.refl _) (Frame.refl _ s)
  refine ⟨h.get _ (by decide), h.get _ (by decide), h.get _ (by decide), ?_, h.get _ (by decide), h.get _ (by decide),
    h.get _ (by decide), h.cfg rfl⟩
  unfold State.idle
  split
  · rw [State.settleField, each_settleInput_pulse,
      (State.speedSample_frame (W := State.speedSample_mask) (Within.refl _) (Frame.refl _ _)).fio rfl]
  · split <;> rfl

/-- What holds of driven outputs and of outputs off, and follows the outputs, is kept by every step. -/
theorem step_keeps_outputs {P : State → Prop} (hsame : ∀ {s t}, t.SameOutputs s → P s → P t) (hdriven : ∀ u : State, P u.driveOutputs)
    (hoff : ∀ t : State, t.regs = [] → t.fio.pulseOut = 0 → P t) (hs : P s) (h : step s = .next t) : P t := by
  obtain rfl | ⟨c, u, v, hu, hv, ht⟩ := step_cases h
  · exact hsame idle_sameOutputs hs
  · refine hsame ht.sameOutputs ?_
    obtain ⟨w, hw, hends⟩ := exec_ends (s := u) c
    cases hw.symm.trans hv
    cases hends with
    | driven w hw => exact hsame (.of_eq hw.regs hw.fio hw.cfg) (hdriven w)
    | rests hrests => exact hsame hrests (hsame hu.sameOutputs hs)
    | off hoff' => exact hoff v hoff'.1 hoff'.2

theorem get_of_noRegs (h : t.regs = []) (f : Field) : t.get f = State.reset.get f := by rw [State.get, h]; rfl

theorem safeMeansOff_of_noRegs (h : t.regs = []) (hp : t.fio.pulseOut = 0) : t.safeMeansOff := fun _ =>
  ⟨(get_of_noRegs h _).trans (by decide), (get_of_noRegs h _).trans (by decide), hp⟩

theorem safeOutputsHold_of_noRegs (h : t.regs = []) : t.safeOutputsHold := by
  intro o ch _ _ hon
  rw [get_of_noRegs h, show State.reset.get F.SAFE_IO_outputs = 0 by decide, Nat.zero_testBit] at hon
  cases hon

/-- Settles O50: a step ends with the outputs that its state drives, with those that were, or with the module off. -/
theorem safeStateKeepsOutputsOff : Obligations.SafeStateKeepsOutputsOff := by
  unfold Obligations.SafeStateKeepsOutputsOff
  exact ⟨fun _ _ => step_keeps_outputs State.SameOutputs.safeMeansOff (fun _ => driveOutputs_safeMeansOff)
      (fun _ => safeMeansOff_of_noRegs),
    fun _ _ => step_keeps_outputs State.SameOutputs.safeOutputsHold (fun _ => driveOutputs_safeOutputsHold)
      (fun _ h _ => safeOutputsHold_of_noRegs h)⟩

end Sys2Proof.Machine
end

section
/-! PROOFS. The areas that each command of the camera lanes, the pipelines, ingest, motion and field I/O may touch (R256 to R322): the masks
of the meanings lie within the areas of the statement O59. -/

namespace Sys2Proof.Machine

/-- Settles O59: each clause is the frame of one command's meaning. -/
theorem framesOfCamerasAndMotion : Obligations.FramesOfCamerasAndMotion := by
  unfold Obligations.FramesOfCamerasAndMotion
  exact ⟨
    fun _ _ => .of_frame execLaneRetrain_frame, fun _ _ _ => .of_frame execLaneLoop_frame,
    fun _ _ _ => .of_frame execLanePrbs_frame, fun _ _ => .of_frame execClearTest_frame,
    fun _ _ => .of_frame execLaneDisable_frame, fun _ _ => .of_frame execLaneEnable_frame,
    fun _ => .of_frame execLaneRefWaitDone_frame, fun _ => .of_frame execBlockLock_frame,
    fun _ _ => .of_frame execTrainingWord_frame, fun _ => .of_frame execLaneUp_frame,
    fun _ => .of_frame execLaneTrainTimeout_frame, fun _ => .of_frame execLaneTrainRetry_frame,
    fun _ => .of_frame execLaneDown_frame, fun _ => .of_frame execRetrainWaitExpired_frame,
    fun _ _ => .of_frame execLineStart_frame, fun _ _ => .of_frame execPixels_frame,
    fun _ _ => .of_frame execLineEnd_frame, fun _ _ => .of_frame execFrameMark_frame,
    fun _ _ => .of_frame execCtrlResponse_frame, fun _ _ => .of_frame execHeadNak_frame,
    fun _ _ => .of_frame execHeadResync_frame, fun _ _ => .of_frame execNakTimeout_frame,
    fun _ _ => .of_frame execLaneCtrlTimeout_frame, fun _ => .of_frame execLineEntersChannel_frame,
    fun _ => .of_frame execFrameTimeout_frame, fun _ _ => .of_frame execParamLoad_frame,
    fun _ _ => .of_frame execParamLoadDone_frame, fun _ _ => .of_frame execParamCommit_frame,
    fun _ _ => .of_frame execParamDiscard_frame, fun _ _ => .of_frame execContextRestart_frame,
    fun _ => .of_frame execGoldenDue_frame, fun _ => .of_frame execGoldenRetry_frame,
    fun _ => .of_frame execGoldenForced_frame, fun _ _ => .of_frame execGoldenComplete_frame,
    fun _ _ => .of_frame execIngestStart_frame, fun _ _ => .of_frame execIngestStop_frame,
    fun _ _ => .of_frame execSetSeed_frame, fun _ _ => .of_frame execSetEpoch_frame,
    fun _ _ _ => .of_frame execIngestDoorbell_frame, fun _ _ => .of_frame execDescriptorRead_frame,
    fun _ _ _ => .of_frame execSampleComplete_frame, fun _ _ => .of_frame execSlotTimeout_frame,
    fun _ _ => .of_frame execCountChange_frame, fun _ => .of_frame execAmplitudeLoss_frame,
    fun _ => .of_frame execIndexPulse_frame, fun _ => .of_frame execSerialSample_frame,
    fun _ _ => .of_frame execSerialFrameDone_frame, fun _ => .of_frame execSpeedStandstill_frame,
    fun _ => .of_frame execDividerTrigger_frame, fun _ => .of_frame execTriggerRelease_frame,
    fun _ => .of_frame execPulseWidthEnd_frame, fun _ _ => .of_frame execArm_frame,
    fun _ => .of_frame execMilepostFire_frame, fun _ _ => .of_frame execPulseStepEnd_frame,
    fun _ _ => .of_frame execPulseMaxOn_frame, fun _ _ => .of_frame execNoVerdict_frame,
    fun _ _ => .of_frame execClearFault_frame, fun _ _ => .of_frame execFieldInputChange_frame,
    fun _ _ => .of_frame execFioOutSet_frame, fun _ _ => .of_frame execFioOutClr_frame,
    fun _ _ => .of_frame execOutputClear_frame, fun _ _ _ => .of_frame execFioOutputFault_frame,
    fun _ => .of_frame execOutputRetry_frame, fun _ => .of_frame execOutputCooled_frame,
    fun _ => .of_frame execAmplitudeReturn_frame⟩

end Sys2Proof.Machine
end

section
namespace Sys2Proof.Machine

/-- A module whose port 1 owns partition 1, to whose results port 0 subscribes: its ingest queue holds a batch of one unread slot, and
each batch releases an iteration with an OUTPUT result (R227, R291, R346). -/
def portResetWitness : State :=
  let template : TemplateCfg :=
    { index := 0, cadence := 1, every := 1, eventRate := 0, pages := 0, contexts := [], legs := [], model := none, ingest := some 0
      output := true }
  let program : ProgramSec :=
    { build := 1, templates := [template], needBandwidth := 0, weights := [], chains := [], seqDigest := 0, recompute := 0
      rangeCheck := false, callTrace := false, digestRing := 0, digestDepth := 0, mailboxIn := none, mailboxOut := none, residency := []
      taps := [], tablePages := 0, fits := true, digest := 0 }
  let job : Job :=
    { part := 1, template := 0, landing := 0, retireAt := none, oldWeight := 0, weightFrom := 0, vtoll := 0, next := 0, lats := []
      solos := [], soloLeft := 0, sinceHigh := 0, pages := 0, relAt := 0, soloFrom := 0, used := 0, lastGen := 0, foldGen := 0 }
  let batch : IngBatch :=
    { num := 0, size := 1, seed := 0, epoch := 0, chains := [], slots := [{ state := slUNREAD, cause := 0, desc := [] }] }
  let s := { State.reset with
    power := .on
    cfg := { State.reset.cfg with programs := [(1, program)] }
    route := { State.reset.route with jobs := [(0, job)] }
    ingest := [(1, { queue0 with batches := [batch] })] }
  (((s.set (F.ROUTE_PART_defined 1) 1).set (F.ROUTE_PART_port 1) 1).set (F.ROUTE_JOB_state 0) 1).set (F.HOST_RES_CFG_enable 0 1) 1

/-- The reset of port 1 voids the slot, its batch closes, and port 0 allocates the OUTPUT result of the iteration that it releases. -/
theorem portReset_allocates_for_otherPort {t : State} (h : exec (.portReset 1 0) portResetWitness = .next t) :
    regRead t.regs (F.HOST_RES_SEQ_next 0 1).key = 1 := by
  have hrun : (match exec (.portReset 1 0) portResetWitness with
      | .next t => regRead t.regs (F.HOST_RES_SEQ_next 0 1).key == 1
      | _ => false) = true := by decide +kernel
  rw [h] at hrun
  exact eq_of_beq hrun

/-- A port reset can write a register of another port beside its count of ports up. -/
theorem portReset_writes_otherPort : ¬ ∀ (i : Port) (c : Fin 5) (s t : State), exec (.portReset i c) s = .next t →
    ∀ (j : Port) (k : Nat), j ≠ i → portBank j ≤ k → k < portBank j + 0x4000000 → k ≠ (F.HOST_STATUS_ports_up j).key →
      regRead t.regs k = regRead s.regs k := by
  intro h
  obtain ⟨t, ht, -⟩ := exec_ends (s := portResetWitness) (.portReset 1 0)
  have hnext := portReset_allocates_for_otherPort ht
  have hkept := h 1 0 _ t ht 0 (F.HOST_RES_SEQ_next 0 1).key (by decide) (by decide) (by decide) (by decide)
  exact absurd (hnext.symm.trans hkept) (by decide +kernel)

/-- Refutes O60: the reset of a port ends a batch of its partition, whose OUTPUT result moves the sequence number of another port that
subscribes to the partition. -/
theorem not_framesOfTimeHostAndSafety : ¬ Obligations.FramesOfTimeHostAndSafety := by
  unfold Obligations.FramesOfTimeHostAndSafety
  intro h
  casesm* _ ∧ _
  refine portReset_writes_otherPort fun i c s t ht => ?_
  rename_i hreset _ _ _ _
  obtain ⟨-, -, -, -, -, -, -, -, -, -, -, -, -, -, -, -, -, -, -, hregs⟩ := hreset i c s t ht
  exact hregs
end Sys2Proof.Machine
end

section
/-! PROOFS. The latches of a port (R13, R437): a read changes the port's own latched word alone; from it the statement O53. -/

namespace Sys2Proof.Machine

variable {s : State} {i : Port} {o : BitVec 26} {x y : Hit} {w : Word}

/-- The read of a low word leaves every latched word but the one that it latches. -/
theorem lowWordRead_latches_only (hp : s.powered = true) (hx : findReg o.toNat = some x)
    (hl : tfind s.hiLatch (portBank i + x.off) = none) (hn : x.row.name ∈ lowWords) (hy : findReg (x.off + 4) = some y) :
    ∃ t, exec (.lowWordRead i o) s = .next t ∧ t.answered i (s.peek i x) ∧
      tfind t.hiLatch (portBank i + (x.off + 4)) = some (s.peek i y) ∧
      ∀ k, k ≠ portBank i + (x.off + 4) → tfind t.hiLatch k = tfind s.hiLatch k := by
  rw [exec_lowWordRead]
  refine run_answers_of_effect hp ((readBar0_of_found hx).trans (readReg_lowWord hl hn)) fun t ht => ?_
  have hlatch : t.hiLatch = tput s.hiLatch (portBank i + (x.off + 4)) (s.peek i y) := by
    rw [ht.hiLatch_driven, reply_hiLatch, readClears_hiLatch, latch_of_found hy]
  rw [hlatch]
  exact ⟨ht.reply_driven, tfind_tput_self _ _ _, fun k hk => tfind_tput_ne _ _ hk⟩

/-- The read of a latched word answers it, and releases it alone. -/
theorem run_readBar0_latched (hp : s.powered = true) (hx : findReg o.toNat = some x)
    (hl : tfind s.hiLatch (portBank i + x.off) = some w) :
    ∃ t, (s.run fun s => s.readBar0 i o.toNat) = .next t ∧ t.answered i w ∧ tfind t.hiLatch (portBank i + x.off) = none ∧
      ∀ k, k ≠ portBank i + x.off → tfind t.hiLatch k = tfind s.hiLatch k := by
  refine run_answers_of_effect hp ((readBar0_of_found hx).trans (readReg_latched hl)) fun t ht => ?_
  have hlatch : t.hiLatch = tdel s.hiLatch (portBank i + x.off) := by rw [ht.hiLatch_driven, reply_hiLatch]
  rw [hlatch]
  exact ⟨ht.reply_driven, tfind_tdel_self _ _, fun k hk => tfind_tdel_ne _ hk⟩

/-- Settles O53: the two outcomes of a read, at the two commands that read. -/
theorem portLatches : Obligations.PortLatches := by
  unfold Obligations.PortLatches
  exact ⟨fun _ _ _ _ _ => lowWordRead_latches_only, fun _ _ _ _ _ => run_readBar0_latched,
    fun _ _ _ _ _ => run_readBar0_latched⟩

end Sys2Proof.Machine
end

section
/-! PROOFS. Vector 8 (R425): which vectors a waymark, a full buffer and a record written to flash fire; from them the statement O55. -/

namespace Sys2Proof.Machine

variable {s t u : State} {w : Waymark}

/-- The ready ports whose WAYM_IRQ is enabled and asks for severity `sev`, as they are asked for in turn. -/
def State.fireAsked (s : State) (sev : Nat) : State :=
  s.each [0, 1, 2, 3] fun s i =>
    if s.on (F.WAYM_IRQ_enable i) && decide (s.get (F.WAYM_IRQ_min_severity i) ≤ sev) then s.fire i 8 else s

theorem fire_eq (i v : Nat) : s.fire i v = { s with msix := (s.fire i v).msix } := by
  unfold State.fire
  split <;> rfl

/-- The vector of one port: it changes the vectors fired alone. -/
theorem fireIfAsked_eq (i sev : Nat) :
    (if s.on (F.WAYM_IRQ_enable i) && decide (s.get (F.WAYM_IRQ_min_severity i) ≤ sev) then s.fire i 8 else s) =
      { s with msix := s.msix ++ (if tget false s.host.ready i && s.on (F.WAYM_IRQ_enable i) &&
        decide (s.get (F.WAYM_IRQ_min_severity i) ≤ sev) then [(i, 8)] else []) } := by
  unfold State.fire
  cases tget false s.host.ready i <;> cases s.on (F.WAYM_IRQ_enable i) <;>
    cases decide (s.get (F.WAYM_IRQ_min_severity i) ≤ sev) <;> simp

/-- The vectors of the ports of a list, in its order. -/
theorem each_fireIfAsked_msix (sev : Nat) : ∀ (l : List Nat) (s : State),
    (s.each l fun s i =>
      if s.on (F.WAYM_IRQ_enable i) && decide (s.get (F.WAYM_IRQ_min_severity i) ≤ sev) then s.fire i 8 else s).msix =
    s.msix ++ (l.filter fun i => tget false s.host.ready i && s.on (F.WAYM_IRQ_enable i) &&
      decide (s.get (F.WAYM_IRQ_min_severity i) ≤ sev)).map fun i => (i, 8)
  | [], s => by simp
  | i :: l, s => by
    rw [State.each_cons, fireIfAsked_eq, each_fireIfAsked_msix sev l, List.filter_cons, List.append_assoc]
    congr 1
    cases h : tget false s.host.ready i && s.on (F.WAYM_IRQ_enable i) && decide (s.get (F.WAYM_IRQ_min_severity i) ≤ sev) <;> rfl

theorem fireAsked_msix {sev : Nat} : (s.fireAsked sev).msix = s.msix ++ (s.askedFor sev).map fun i => (i, 8) :=
  each_fireIfAsked_msix sev [0, 1, 2, 3] s

theorem waymIrq_kind (i : Nat) : regKind (0x14004c + portBank i) = 340 := by
  have e : (0x14004c + portBank i) % 0x4000000 = 0x14004c := by unfold portBank; omega
  rw [regKind_waym (by omega) (by omega), e]
  decide

theorem WAYM_IRQ_enable_kind (i : Nat) : regKind (F.WAYM_IRQ_enable i).key = 340 := waymIrq_kind i

theorem WAYM_IRQ_min_severity_kind (i : Nat) : regKind (F.WAYM_IRQ_min_severity i).key = 340 := waymIrq_kind i

/-- A change without the host side and WAYM_IRQ leaves the ports that are asked for. -/
theorem Frame.askedFor {W : Nat} (h : Frame W s t) (hhost : W.testBit 18 = false) (hirq : W.testBit 340 = false) (sev : Nat) :
    t.askedFor sev = s.askedFor sev := by
  have he (i : Nat) : t.get (F.WAYM_IRQ_enable i) = s.get (F.WAYM_IRQ_enable i) := h.get _ (by rwa [WAYM_IRQ_enable_kind])
  have hm (i : Nat) : t.get (F.WAYM_IRQ_min_severity i) = s.get (F.WAYM_IRQ_min_severity i) :=
    h.get _ (by rwa [WAYM_IRQ_min_severity_kind])
  simp only [State.askedFor, State.on, h.host hhost, he, hm]

/-! ### Waymarks -/

/-- The waymark at the end of the buffer, and its length shown. -/
def State.buffered (s : State) (w : Waymark) : State :=
  ({ s with recorder := { s.recorder with buffer := s.recorder.buffer ++ [w] } }).set F.WAYM_STATUS_buffered
    (s.recorder.buffer.length + 1)

theorem buffered_askedFor (sev : Nat) : (s.buffered w).askedFor sev = s.askedFor sev :=
  (State.set_frame (W := State.buffer_mask) F.WAYM_STATUS_buffered_kind rfl
    (Frame.recorder_upd rfl (Frame.refl _ s)) : Frame State.buffer_mask s (s.buffered w)).askedFor rfl rfl sev

/-- Every enabled port asks for severity 3. -/
theorem each_fireEnabled_eq : (s.each [0, 1, 2, 3] fun s i => if s.on (F.WAYM_IRQ_enable i) then s.fire i 8 else s) =
    s.fireAsked 3 := by
  have hsev (s : State) (i : Nat) : decide (s.get (F.WAYM_IRQ_min_severity i) ≤ 3) = true :=
    decide_eq_true (Nat.le_of_lt_succ get_lt)
  simp only [State.fireAsked, hsev, Bool.and_true]

/-- A buffer with room takes the waymark; in a freeze the 513th fires vector 8. -/
theorem buffer_eq (h : s.recorder.buffer.length < (if w.sev ≥ 2 then 1024 else 960)) : s.buffer w =
    some (if s.on F.WAYM_STATUS_frozen && s.recorder.buffer.length + 1 == 513 then (s.buffered w).fireAsked 3 else s.buffered w) := by
  unfold State.buffer
  dsimp only
  rw [if_pos h, each_fireEnabled_eq]
  rfl

/-- A buffer that takes a waymark fires vector 8 where a freeze takes it past half full, and nothing else. -/
theorem buffer_msix (h : s.buffer w = some u) : u.msix = s.msix ++ (if s.on F.WAYM_STATUS_frozen = true ∧
    s.recorder.buffer.length = 512 then (s.askedFor 3).map (fun i => (i, 8)) else []) := by
  by_cases hb : s.recorder.buffer.length < (if w.sev ≥ 2 then 1024 else 960)
  · rw [buffer_eq hb] at h
    cases h
    by_cases hf : s.on F.WAYM_STATUS_frozen = true ∧ s.recorder.buffer.length = 512
    · rw [if_pos (by simp [hf.1, hf.2]), if_pos hf, fireAsked_msix, buffered_askedFor]
      rfl
    · rw [if_neg (by simpa using hf), if_neg hf, List.append_nil]
      rfl
  · unfold State.buffer at h
    dsimp only at h
    rw [if_neg hb] at h
    cases h

/-- What a waymark fires: nothing, or vector 8 as a frozen buffer passes half full. -/
theorem raiseMark_msix {key : Nat × Nat} : ∃ l, (s.raiseMark key w).msix = s.msix ++ l ∧
    (s.on F.WAYM_STATUS_frozen = false → l = []) := by
  unfold State.raiseMark
  dsimp only
  split
  · exact ⟨[], (List.append_nil _).symm, fun _ => rfl⟩
  · split
    next s1 hs1 =>
      exact ⟨_, (show s1.msix = _ from buffer_msix hs1), fun hf => if_neg (by simp [hf])⟩
    · exact ⟨[], (List.append_nil _).symm, fun _ => rfl⟩

theorem raise_msix_grows {c : Nat} {ps : List Nat} : ∃ l, (s.raise c ps).msix = s.msix ++ l :=
  raiseMark_msix.imp fun _ h => h.1

theorem raise_msix {c : Nat} {ps : List Nat} (hf : s.on F.WAYM_STATUS_frozen = false) : (s.raise c ps).msix = s.msix := by
  obtain ⟨l, hl, hnil⟩ := raiseMark_msix (s := s) (w := s.mkWaymark (instOf c ps) c ps) (key := (c, limitParam c ps))
  rw [State.raise, State.raiseAt, hl, hnil hf, List.append_nil]

theorem raise_frozen {c : Nat} {ps : List Nat} : (s.raise c ps).on F.WAYM_STATUS_frozen = s.on F.WAYM_STATUS_frozen := by
  rw [State.on, State.on, get_raise_field (by decide) (by decide) (by decide) (by decide)]

/-! ### A record written to flash -/

/-- From `s` to `t` nothing but waymarks fired vectors: none while the ring is not frozen; the ring and the ports that are asked for stand
as they did. -/
structure State.Marked (s t : State) : Prop where
  grows : ∃ l, t.msix = s.msix ++ l
  quiet : s.on F.WAYM_STATUS_frozen = false → t.msix = s.msix
  frozen : t.on F.WAYM_STATUS_frozen = s.on F.WAYM_STATUS_frozen
  asked : ∀ sev, t.askedFor sev = s.askedFor sev

theorem State.Marked.trans (h : s.Marked t) (k : t.Marked u) : s.Marked u := by
  obtain ⟨l, hl⟩ := h.grows
  obtain ⟨m, hm⟩ := k.grows
  exact ⟨⟨l ++ m, by rw [hm, hl, List.append_assoc]⟩, fun hf => (k.quiet (h.frozen.trans hf)).trans (h.quiet hf),
    k.frozen.trans h.frozen, fun sev => (k.asked sev).trans (h.asked sev)⟩

theorem raise_marked {c : Nat} {ps : List Nat} : s.Marked (s.raise c ps) :=
  ⟨raise_msix_grows, raise_msix, raise_frozen,
    (State.raise_frame (W := State.raise_mask) (Within.refl _) (Frame.refl _ s)).askedFor rfl rfl⟩

/-- A change of the recorder and of a field beside WAYM_STATUS.frozen and WAYM_IRQ. -/
theorem marked_of_same (hm : t.msix = s.msix) (hf : t.get F.WAYM_STATUS_frozen = s.get F.WAYM_STATUS_frozen)
    (ha : ∀ sev, t.askedFor sev = s.askedFor sev) : s.Marked t :=
  ⟨⟨[], by rw [hm, List.append_nil]⟩, fun _ => hm, by rw [State.on, State.on, hf], ha⟩

theorem recorder_marked {r : Recorder} : s.Marked { s with recorder := r } := marked_of_same rfl rfl fun _ => rfl

theorem set_marked {f : Field} {v : Nat} (hf : F.WAYM_STATUS_frozen.key = f.key →
    F.WAYM_STATUS_frozen.lo + F.WAYM_STATUS_frozen.width ≤ f.lo ∨ f.lo + f.width ≤ F.WAYM_STATUS_frozen.lo) (hirq : regKind f.key ≠ 340) : s.Marked (s.set f v) := by
  refine marked_of_same rfl ?_ fun sev => ?_
  · by_cases hk : F.WAYM_STATUS_frozen.key = f.key
    · exact State.get_set_field hk (hf hk) (by decide)
    · exact State.get_set_ne _ _ _ _ hk
  · have hget (g : Field) (hg : regKind g.key = 340) : (s.set f v).get g = s.get g :=
      State.get_set_kind (by rw [hg]; exact hirq.symm)
    simp only [State.askedFor, State.on, hget _ (WAYM_IRQ_enable_kind _), hget _ (WAYM_IRQ_min_severity_kind _), set_host]

theorem eraseSector_marked {x : Nat} : s.Marked (s.eraseSector x) := by
  unfold State.eraseSector
  dsimp only
  split
  · exact ((recorder_marked.trans (set_marked (by decide) (by decide))).trans (set_marked (by decide) (by decide))).trans raise_marked
  · exact (recorder_marked.trans (set_marked (by decide) (by decide))).trans (set_marked (by decide) (by decide))

theorem enterSector_marked {x : Nat} : s.Marked (s.enterSector x) := by
  unfold State.enterSector
  dsimp only
  split
  · exact recorder_marked
  · exact eraseSector_marked

theorem marked_refl : s.Marked s := marked_of_same rfl rfl fun _ => rfl

theorem takeBudget_marked : s.Marked s.takeBudget := by
  unfold State.takeBudget
  dsimp only
  split
  · exact marked_refl
  · split
    · exact ((set_marked (by decide) (by decide)).trans (set_marked (by decide) (by decide))).trans raise_marked
    · exact set_marked (by decide) (by decide)

theorem reportDrop_marked : s.Marked s.reportDrop := by
  unfold State.reportDrop
  dsimp only
  split
  · exact marked_refl
  · exact recorder_marked.trans raise_marked

theorem unbuffer_marked : s.Marked s.unbuffer := recorder_marked.trans (set_marked (by decide) (by decide))

/-- A record written to flash fires vector 8 of the ports that ask for its severity, after what its sector and its token write. -/
theorem flashWrite_fires (n : Nat) : ∃ t, s.Marked t ∧ s.flashWrite w n = t.fireAsked w.sev := by
  refine ⟨_, ?_, rfl⟩
  refine State.Marked.trans ?_ takeBudget_marked
  refine State.Marked.trans ?_ (set_marked (by decide) (by decide))
  refine State.Marked.trans ?_ (set_marked (by decide) (by decide))
  refine State.Marked.trans ?_ recorder_marked
  split
  · exact enterSector_marked
  · exact marked_refl

theorem flashWrite_msix {n : Nat} (hf : s.on F.WAYM_STATUS_frozen = false) :
    (s.flashWrite w n).msix = s.msix ++ (s.askedFor w.sev).map (fun i => (i, 8)) := by
  obtain ⟨t, ht, he⟩ := flashWrite_fires (s := s) (w := w) n
  rw [he, fireAsked_msix, ht.quiet hf, ht.asked]

theorem fireAsked_frozen {sev : Nat} : (s.fireAsked sev).on F.WAYM_STATUS_frozen = s.on F.WAYM_STATUS_frozen := by
  simp only [State.fireAsked, State.each_cons, State.each_nil, fireIfAsked_eq]
  rfl

/-- What WAYMARK_WRITE fires: the vectors of the record written, and none beside them while the ring is not frozen. -/
theorem waymarkWrite_msix {rest : List Waymark} (hb : s.recorder.buffer = w :: rest) (hh : s.headFree = true) :
    ∃ l m, (s.waymarkWrite 0).msix = s.msix ++ l ++ (s.askedFor w.sev).map (fun i => (i, 8)) ++ m ∧
      (s.on F.WAYM_STATUS_frozen = false → l = [] ∧ m = []) := by
  have he : s.waymarkWrite 0 = (s.unbuffer.flashWrite w 0).reportDrop := by simp [State.waymarkWrite, hb, hh]
  obtain ⟨t, ht, hfire⟩ := flashWrite_fires (s := s.unbuffer) (w := w) 0
  have hs : s.Marked t := unbuffer_marked.trans ht
  have hdrop : (t.fireAsked w.sev).Marked (s.waymarkWrite 0) := he ▸ hfire ▸ reportDrop_marked
  obtain ⟨l, hl⟩ := hs.grows
  obtain ⟨m, hm⟩ := hdrop.grows
  refine ⟨l, m, by rw [hm, fireAsked_msix, hl, hs.asked], fun hf => ⟨?_, ?_⟩⟩
  · exact List.append_right_eq_self.1 (hl.symm.trans (hs.quiet hf))
  · exact List.append_right_eq_self.1 (hm.symm.trans (hdrop.quiet (by rw [fireAsked_frozen, hs.frozen, hf])))

/-- A waymark of a full bucket enters the buffer where the budget lets it. -/
theorem raise_buffers {c : Nat} {ps : List Nat} (hk : s.recorder.buckets = []) (he : s.on F.WAYM_STATUS_budget_empty = false)
    (hb : s.recorder.buffer.length < 960) : ∃ u w, s.buffer w = some u ∧ (s.raise c ps).msix = u.msix := by
  have hbucket : s.bucket (c, limitParam c ps) = { tokens := bucketCap c, supp := 0, lastAt := 0, last := none } := by
    simp [State.bucket, hk, afind]
  have hcap : bucketCap c ≠ 0 := by unfold bucketCap; split <;> decide
  refine ⟨_, { s.mkWaymark (instOf c ps) c ps with supp := 0 }, buffer_eq (by split <;> omega), ?_⟩
  unfold State.raise State.raiseAt State.raiseMark
  simp only [hbucket, hcap, he, Bool.false_and, Bool.or_false, decide_false, Bool.false_eq_true, if_false]
  rw [buffer_eq (by split <;> omega)]
  rfl

theorem supplyDip_fires {us : Fin 1000} (hp : s.powered = true) (hf : s.on F.WAYM_STATUS_frozen = true)
    (hb : s.recorder.buffer.length = 512) (hk : s.recorder.buckets = []) (he : s.on F.WAYM_STATUS_budget_empty = false) :
    ∃ t, exec (.supplyDip us) s = .next t ∧ t.msix = s.msix ++ (s.askedFor 3).map (fun i => (i, 8)) := by
  have hset : s.Marked (s.set F.CAP_BOARD_STATUS_dip_seen 1) := set_marked (by decide) (by decide)
  have hempty : (s.set F.CAP_BOARD_STATUS_dip_seen 1).on F.WAYM_STATUS_budget_empty = false := by
    rw [State.on, State.get_set_kind (by decide)]
    exact he
  obtain ⟨u, w, hu, hraise⟩ := raise_buffers (s := s.set F.CAP_BOARD_STATUS_dip_seen 1) (c := Code.SUPPLY_DIP) (ps := [us]) hk hempty
    (by rw [set_recorder, hb]; decide)
  unfold exec execSupplyDip
  refine State.run_answers hp fun t ht => ?_
  rw [ht.msix, driveOutputs_msix, hraise, buffer_msix hu, if_pos ⟨hset.frozen.trans hf, hb⟩, hset.asked]
  rfl

/-- Settles O55: a record written to flash, a buffer that passes half full, and a waymark that takes it there. -/
theorem vectorEight : Obligations.VectorEight := by
  unfold Obligations.VectorEight
  refine ⟨fun _ _ _ => flashWrite_msix, ?unfrozen, ?frozen, fun _ _ _ => buffer_msix, fun _ _ => supplyDip_fires⟩
  case unfrozen =>
    intro s w rest hp hb hh hf
    obtain ⟨l, m, hmsix, hnil⟩ := waymarkWrite_msix hb hh
    obtain ⟨rfl, rfl⟩ := hnil hf
    unfold exec execWaymarkWrite
    refine State.run_answers hp fun t ht => ?_
    rw [ht.msix, driveOutputs_msix, hmsix, List.append_nil, List.append_nil]
  case frozen =>
    intro s w rest hp hb hh
    obtain ⟨l, m, hmsix, -⟩ := waymarkWrite_msix hb hh
    unfold exec execWaymarkWrite
    refine State.run_answers hp fun t ht => ⟨l ++ (s.askedFor w.sev).map (fun i => (i, 8)) ++ m, ?_, fun i hi => ?_⟩
    · rw [ht.msix, driveOutputs_msix, hmsix]
      simp only [List.append_assoc]
    · simp only [List.mem_append, List.mem_map]
      exact .inl (.inr ⟨i, hi, rfl⟩)

end Sys2Proof.Machine
end

section
/-! PROOFS. The reset state reads its Reset columns. -/

namespace Sys2Proof.Machine

open Sys2Proof

/-- An indexed register that reads `v` in each of its `n` places reads `v` at every index. -/
theorem get_reset_indexed {f : Nat → Field} {n v : Nat} (hn : 0 < n) (hf : ∀ p, f (p % n) = f p)
    (hv : ∀ p < n, State.reset.get (f p) = v) (p : Nat) : State.reset.get (f p) = v :=
  hf p ▸ hv (p % n) (Nat.mod_lt p hn)

theorem reset_canonical : State.reset.canonical := by unfold State.canonical; decide +kernel

theorem reset_outputsOff : State.reset.outputsOff := by unfold State.outputsOff; decide +kernel

theorem reset_safeMeansOff : State.reset.safeMeansOff := fun _ => reset_outputsOff

theorem reset_safeOutputsHold : State.reset.safeOutputsHold := by
  intro o ch _ _ h
  obtain ⟨_, hio, _⟩ := reset_outputsOff
  rw [hio, Nat.zero_testBit] at h
  cases h

/-- Settles O1: the plain fields are read off the reset words, an indexed one place by place. -/
theorem resetState : Obligations.ResetState := by
  unfold Obligations.ResetState
  refine ⟨⟨rfl, rfl, rfl, rfl⟩, fun _ => rfl, ⟨rfl, rfl, rfl, rfl, rfl⟩,
    ⟨reset_canonical, reset_outputsOff, reset_safeMeansOff, reset_safeOutputsHold⟩, ?_⟩
  iterate 22 refine ⟨by decide +kernel, ?_⟩
  refine ⟨?_, ?_, ?_, ?_, ?_, ?_, ?_, ?_, ?_, ?_, ?_, ?_, ?_, ?_⟩
  · exact get_reset_indexed (n := 40) (by decide) (by simp [F.CORE_ID_logical]) (by decide +kernel)
  · exact get_reset_indexed (n := 8) (by decide) (by simp [F.KV_GEN_current]) (by decide +kernel)
  · exact get_reset_indexed (n := 8) (by decide) (by simp [F.KV_GEN_HELD_oldest]) (by decide +kernel)
  · exact get_reset_indexed (n := 256) (by decide) (by simp [F.ROUTE_SLOWDOWN_slowdown]) (by decide +kernel)
  · exact get_reset_indexed (n := 256) (by decide) (by simp [F.ROUTE_SLOWDOWN_limit]) (by decide +kernel)
  · exact get_reset_indexed (n := 32) (by decide) (by simp [F.LANE_RETRY_limit]) (by decide +kernel)
  · exact get_reset_indexed (n := 64) (by decide) (by simp [F.ISP_CTX_STATS_frame]) (by decide +kernel)
  · exact get_reset_indexed (n := 8) (by decide) (by simp [F.INGEST_Q_LIMITS_stale_ms]) (by decide +kernel)
  · exact get_reset_indexed (n := 8) (by decide) (by simp [F.INGEST_Q_LIMITS_timeout_us]) (by decide +kernel)
  · exact get_reset_indexed (n := 4) (by decide) (by simp [F.WAYM_IRQ_min_severity, portBank]) (by decide +kernel)
  · exact get_reset_indexed (n := 4) (by decide) (by simp [F.WAYM_IRQ_enable, portBank]) (by decide +kernel)
  · exact get_reset_indexed (n := 4) (by decide) (by simp [F.PERF_BW_CFG_window_ms]) (by decide +kernel)
  · exact get_reset_indexed (n := 8) (by decide) (by simp [F.MOT_CH_FIRED_count]) (by decide +kernel)
  · exact get_reset_indexed (n := 8) (by decide) (by simp [F.SAFE_JUDGE_PASS_count]) (by decide +kernel)

end Sys2Proof.Machine
end

section
/-! PROOFS. A step takes the front command; with none waiting, the clock ticks and the samples that end touch the field inputs and the registers. -/

namespace Sys2Proof.Machine

open Sys2Proof

/-- `t` is `s` but for its field inputs and its registers. -/
def State.SampleOf (t s : State) : Prop := t = { s with fio := t.fio, regs := t.regs }

namespace State.SampleOf

variable {s t u : State}

theorem refl : s.SampleOf s := rfl

theorem trans (h : u.SampleOf t) (h' : t.SampleOf s) : u.SampleOf s := by
  unfold SampleOf at *
  rw [h, h']

theorem clk (h : t.SampleOf s) : t.clk = s.clk := by
  unfold SampleOf at h
  rw [h]

theorem set {f : Field} {v : Nat} (h : t.SampleOf s) : (t.set f v).SampleOf s := .trans rfl h

theorem setBit {f : Field} {i : Nat} {b : Bool} (h : t.SampleOf s) : (t.setBit f i b).SampleOf s := h.set

theorem set64 {lo hi : Field} {v : Nat} (h : t.SampleOf s) : (t.set64 lo hi v).SampleOf s := h.set.set

theorem ite {c : Prop} [Decidable c] (h : t.SampleOf s) (h' : u.SampleOf s) : (if c then t else u).SampleOf s := by
  split
  · exact h
  · exact h'

theorem each {α : Type} {f : State → α → State} (hf : ∀ s a, (f s a).SampleOf s) :
    ∀ (l : List α) (s : State), (s.each l f).SampleOf s
  | [], _ => refl
  | a :: l, s => (each hf l (f s a)).trans (hf s a)

end State.SampleOf

theorem chooseMethod_sampleOf (s : State) (n : Nat) : (s.chooseMethod n).SampleOf s := by
  have hlive : (if s.get (F.MOT_CH_STATUS_speed_state n) = 0 then s.set (F.MOT_CH_STATUS_speed_state n) 1 else s).SampleOf s :=
    .ite State.SampleOf.refl.set .refl
  exact .ite State.SampleOf.refl.set (.ite State.SampleOf.refl.set (.ite hlive.set (.ite hlive.set hlive)))

theorem showChan_sampleOf (s : State) (n : Nat) : (s.showChan n).SampleOf s :=
  State.SampleOf.refl.set64.set.setBit.setBit.setBit.setBit

theorem speedSample_sampleOf (s : State) : s.speedSample.SampleOf s := by
  refine State.SampleOf.each (fun s n => ?_) _ s
  split
  · exact .refl
  · exact (showChan_sampleOf _ n).trans (chooseMethod_sampleOf s n)

theorem settleInput_sampleOf (s : State) (i : Nat) (level : Bool) : (s.settleInput i level).SampleOf s := rfl

theorem settleField_sampleOf (s : State) : s.settleField.SampleOf s :=
  State.SampleOf.each (f := fun s (e : Nat × Nat × Bool) => s.settleInput e.1 e.2.2)
    (fun s e => settleInput_sampleOf s e.1 e.2.2) _ s

/-- With every channel's speed invalid no channel is sampled. -/
theorem speedSample_of_invalid {s : State} (h : ∀ n < 8, s.get (F.MOT_CH_STATUS_speed_state n) = 0) :
    s.speedSample = s := by
  have hnone : ∀ l : List Nat, (∀ n ∈ l, n < 8) →
      s.each l (fun s n => if s.get (F.MOT_CH_STATUS_speed_state n) = 0 then s else (s.chooseMethod n).showChan n) = s := by
    intro l
    induction l with
    | nil => exact fun _ => rfl
    | cons n l ih =>
      intro hl
      have hn := h n (hl n (.head _))
      exact (congrArg (State.each · l _) (if_pos hn)).trans (ih fun m hm => hl m (.tail _ hm))
  exact hnone (upTo 8) (by simp [upTo])

theorem settleField_of_none {s : State} (h : s.fio.settle = []) : s.settleField = s := by
  unfold State.settleField
  rw [h]
  rfl

/-- The clock ticks; nothing else of the idle sample is beyond the field inputs and the registers. -/
def State.ticked (s : State) : State := { s with clk := s.clk.tick (toSigned 32 (s.get F.TIME_FREQ_ppb)) }

theorem idle_powered {s : State} (hp : s.powered = true) : s.idle = s.ticked.speedSample.settleField := if_pos hp

theorem idle_sampleOf {s : State} (hp : s.powered = true) : s.idle.SampleOf s.ticked :=
  idle_powered hp ▸ (settleField_sampleOf _).trans (speedSample_sampleOf _)

theorem issueHeld_of_none_held {s : State} (h : ∀ c, (s.core c).held = []) : s.issueHeld = none := by
  have hretry : ∀ c k, s.retryHead c k = none := by
    intro c k
    unfold State.retryHead
    simp only [h c, List.filter_nil]
  exact List.findSome?_eq_none_iff.2 fun e _ => hretry e.1 e.2

theorem step_of_pending_nil {s : State} (h : s.pending = []) : step s = .next s.idleStep := by
  unfold step
  rw [h]

theorem not_powered_of_power {s : State} (h : s.power ≠ .on) : s.powered = false := by
  cases hs : s.power <;> simp_all [State.powered]

theorem idleStep_of_not_powered {s : State} (h : s.power ≠ .on) : s.idleStep = s.idle := by
  unfold State.idleStep
  rw [if_neg (by simp [not_powered_of_power h])]

theorem idle_of_not_powered {s : State} (h : s.power ≠ .on) :
    s.idle = if s.power == .bootRom then { s with clk := s.clk.tick 0 } else s := by
  unfold State.idle
  rw [if_neg (by simp [not_powered_of_power h])]

/-- An idle step in which no word waits is the idle sample. -/
theorem step_of_none_held {s : State} (hq : s.pending = []) (hp : s.powered = true) (h : ∀ c, (s.core c).held = []) :
    step s = .next s.idle := by
  rw [step_of_pending_nil hq, State.idleStep, if_pos hp, issueHeld_of_none_held h]
  rfl

/-- Settles O2, clause by clause from the case analysis of the idle step. -/
theorem stepRunsTheFrontCommand : Obligations.StepRunsTheFrontCommand := by
  unfold Obligations.StepRunsTheFrontCommand
  refine ⟨fun _ _ _ => rfl, ?_, ?_, ?_, ?_⟩
  · intro s hq hp hheld
    have hs := idle_sampleOf hp
    have hclk : s.idle.clk = s.ticked.clk := hs.clk
    refine ⟨_, step_of_none_held hq hp hheld, hclk, congrArg Clock.now hclk, ?_, ?_⟩
    · exact Eq.trans hs (by rw [hclk]; rfl)
    · intro hfio hspeed
      have hidle : s.idle = s.ticked := by
        rw [idle_powered hp, speedSample_of_invalid (s := s.ticked) hspeed, settleField_of_none (s := s.ticked) hfio]
      rw [hidle]
      rfl
  · intro s t hq hp ht
    rw [step_of_pending_nil hq, State.idleStep, if_pos hp, ht]
    rfl
  · intro s hq hb
    rw [step_of_pending_nil hq, idleStep_of_not_powered (by simp [hb]), idle_of_not_powered (by simp [hb]), hb]
    rfl
  · intro s hq hoff
    have hon : s.power ≠ .on := by rcases hoff with h | h <;> simp [h]
    rw [step_of_pending_nil hq, idleStep_of_not_powered hon, idle_of_not_powered hon]
    rcases hoff with h | h <;> rw [h] <;> rfl

end Sys2Proof.Machine
end

section
/-! PROOFS. Reading the state that a command of any family leaves. -/

namespace Sys2Proof.Machine

open Sys2Proof

section Reading
variable {s t u : State}

/-- An indexed field is of one kind where it is so in each of its places. -/
theorem kind_of_indexed {f : Nat → Field} {n k : Nat} (hn : 0 < n) (hf : ∀ p, f (p % n) = f p)
    (hk : ∀ p < n, regKind (f p).key = k) (p : Nat) : regKind (f p).key = k := hf p ▸ hk (p % n) (Nat.mod_lt p hn)

theorem State.Same.lane_driven (h : t.Same u.driveOutputs) : t.lane = u.lane := h.lane.trans driveOutputs_lane
theorem State.Same.isp_driven (h : t.Same u.driveOutputs) : t.isp = u.isp := h.isp.trans driveOutputs_isp
theorem State.Same.ingest_driven (h : t.Same u.driveOutputs) : t.ingest = u.ingest := h.ingest.trans driveOutputs_ingest
theorem State.Same.motion_driven (h : t.Same u.driveOutputs) : t.motion = u.motion := h.motion.trans driveOutputs_motion
theorem State.Same.clk_driven (h : t.Same u.driveOutputs) : t.clk = u.clk := h.clk.trans driveOutputs_clk
theorem State.Same.time_driven (h : t.Same u.driveOutputs) : t.time = u.time := h.time.trans driveOutputs_time

/-- A state of an `each` keeps what every turn keeps. -/
theorem each_keeps {α β : Type} (v : State → β) {g : State → α → State} (hg : ∀ s a, v (g s a) = v s) :
    ∀ (l : List α) (s : State), v (s.each l g) = v s
  | [], _ => rfl
  | a :: l, s => (each_keeps v hg l (g s a)).trans (hg s a)

/-- Little-endian bytes hold less than a power of 256. -/
theorem leNat_lt : ∀ bs : List Byte, leNat bs < 256 ^ bs.length
  | [] => Nat.one_pos
  | b :: bs => by
    have hb : b.toNat < 256 := b.isLt
    have hbs := leNat_lt bs
    rw [List.length_cons, Nat.pow_succ, leNat]
    omega

theorem recField_lt {r : List Byte} {o n : Nat} : recField r o n < 256 ^ n :=
  (leNat_lt _).trans_le (Nat.pow_le_pow_right (by decide) (List.length_take_le _ _))

end Reading

end Sys2Proof.Machine
end

section
/-! PROOFS. A head may report more than 15 streams: LANE_STATUS.streams has 8 bits (Table LANE-7). -/

namespace Sys2Proof.Machine

open Sys2Proof

/-- The fields of a head's training word for lane 0 at rate 0 with 16 streams present, before its CRC (Table LANE-3). -/
def sixteenStreams : List Byte := leBytes 2 0x5254 ++ [1, 0, 0, 16, 0, 0] ++ List.replicate 20 0

/-- That training word with its CRC. -/
def sixteenStreamsWord : BitVec 256 :=
  BitVec.ofNat 256 (leNat (sixteenStreams ++ leBytes 4 (crc32 (List.replicate 4 0 ++ sixteenStreams))))

/-- A lane in EXCHANGE that has heard that word twice. -/
def sixteenStreamsWitness : State :=
  let s := { State.reset with
    power := .on
    lane := { State.reset.lane with lanes := [(0, { lane0 with words := 2, lastWord := sixteenStreamsWord })] } }
  s.set (F.LANE_STATUS_state 0) laneEXCHANGE

/-- The third word shows the 16 streams. -/
theorem trainingWord_shows_sixteen {t : State} (h : exec (.trainingWord 0 sixteenStreamsWord) sixteenStreamsWitness = .next t) :
    t.get (F.LANE_STATUS_streams 0) = 16 := by
  have hrun : (match exec (.trainingWord 0 sixteenStreamsWord) sixteenStreamsWitness with
      | .next t => t.get (F.LANE_STATUS_streams 0) == 16
      | _ => false) = true := by decide +kernel
  rw [h] at hrun
  exact eq_of_beq hrun

/-- Refutes O24: a good third word with 16 streams shows 16, not 16 % 16. -/
theorem not_laneTraining : ¬ Obligations.LaneTraining := by
  unfold Obligations.LaneTraining
  rintro ⟨-, -, -, -, -, -, -, -, -, -, -, -, -, -, -, -, -, -, -, -, -, -, h, -⟩
  obtain ⟨t, ht, -, hstreams⟩ := h sixteenStreamsWitness 0 sixteenStreamsWord (leBytes 32 sixteenStreamsWord.toNat)
    (by decide +kernel) (by decide +kernel) (by decide +kernel) rfl (by decide +kernel) (by decide +kernel) (by decide +kernel)
    (by decide +kernel)
  exact absurd ((trainingWord_shows_sixteen ht).symm.trans hstreams) (by decide +kernel)

end Sys2Proof.Machine
end

section
/-! PROOFS. The packets of a camera lane (R262 to R269, R286): a line opens, fills and ends, or a violation is counted and answered. -/

namespace Sys2Proof.Machine

open Sys2Proof

section LanePackets

variable {s t u : State} {n : LaneId} {p : Packet} {k : Nat} {l : OpenLine} {x : Stream} {f : State → State}

/-! ### Reading a stream -/

theorem F.LANE_RETRY_limit_kind (n : Nat) : regKind (F.LANE_RETRY_limit n).key = 154 :=
  kind_of_indexed (n := 32) (by decide) (by simp [F.LANE_RETRY_limit]) (by decide +kernel) n

theorem stream_lt : p.stream < 8 := Nat.mod_lt _ (by decide)

theorem seq_lt : p.seq < 65536 := Nat.mod_lt _ (by decide)

theorem streamAt_setStream : (s.setStream n k x).streamAt n k = x := tget_tset_self _ _ _ _

theorem setStream_recorder : (s.setStream n k x).recorder = s.recorder := rfl

theorem streamAt_setStream_ne {j : Nat} (h : j ≠ k) : (s.setStream n k x).streamAt n j = s.streamAt n j :=
  tget_tset_ne _ _ _ (by omega)

theorem streamAt_of_lane (h : t.lane = s.lane) : t.streamAt n k = s.streamAt n k := by
  rw [State.streamAt, h, State.streamAt]

theorem streamAt_inc {g : Field} : (s.inc g).streamAt n k = s.streamAt n k := rfl

theorem State.Same.streamAt_driven (h : t.Same u.driveOutputs) : t.streamAt n k = u.streamAt n k := streamAt_of_lane h.lane_driven

theorem State.Same.stream_driven {g : Field} (h : t.Same u.driveOutputs) (hg : regKind g.key = 155) : t.get g = u.get g :=
  h.get_driven (by rw [hg]; decide)

theorem State.Same.streamState_driven (h : t.Same u.driveOutputs) : t.streamState n k = u.streamState n k :=
  h.stream_driven (F.LANE_STREAM_state_kind n k)

theorem streamState_set {v : Nat} (hv : v < 4) : (s.set (F.LANE_STREAM_state n k) v).streamState n k = v :=
  (State.get_set (f := F.LANE_STREAM_state n k) (by simp [F.LANE_STREAM_state])).trans (Nat.mod_eq_of_lt hv)

theorem streamState_set_nextSeq {v : Nat} : (s.set (F.LANE_STREAM_next_seq n k) v).streamState n k = s.streamState n k :=
  State.get_set_field rfl (.inr (by simp [F.LANE_STREAM_state, F.LANE_STREAM_next_seq])) (by simp [F.LANE_STREAM_state])

theorem nextSeq_set {v : Nat} : (s.set (F.LANE_STREAM_next_seq n k) v).get (F.LANE_STREAM_next_seq n k) = v % 65536 :=
  State.get_set (by simp [F.LANE_STREAM_next_seq])

theorem nextSeq_set_state {v : Nat} :
    (s.set (F.LANE_STREAM_state n k) v).get (F.LANE_STREAM_next_seq n k) = s.get (F.LANE_STREAM_next_seq n k) :=
  State.get_set_field rfl (.inl (by simp [F.LANE_STREAM_state, F.LANE_STREAM_next_seq])) (by simp [F.LANE_STREAM_next_seq])

/-! ### The checks of a packet (R262, R269) -/

theorem packet_good {kind : Nat} (h : s.goodPacket n kind p) : s.packet n kind p f = f s := by
  obtain ⟨hu, hsync, hlen, hdata, hcrc, hbr, hk, hc⟩ := h
  have hlong : ¬ (p.length > 4096 || p.data.length > (p.length + 7) / 8 * 8) = true := by
    simp only [gt_iff_lt, Bool.or_eq_true, decide_eq_true_eq]
    omega
  unfold State.packet
  rw [if_neg (by simp [hu]), if_neg (by simp [hsync]), if_neg hlong, if_neg (by simp [hcrc]), if_neg (by simp [hbr]),
    if_neg (by simp [hk]), if_neg (by simp [hc])]

theorem packet_down {kind : Nat} (h : s.laneState n ≠ laneUP) : s.packet n kind p f = s := if_pos (by simpa using h)

theorem packet_badCrc {kind : Nat} (hu : s.laneState n = laneUP) (hsync : p.badSync = false) (hlen : p.length ≤ 4096)
    (hdata : p.data.length ≤ (p.length + 7) / 8 * 8)
    (hcrc : p.crc.toNat ≠ packetCrc n p.stream p.seq (leBytes 8 p.head.toNat) p.data) :
    s.packet n kind p f = (s.inc (F.LANE_CRC_ERR_count n)).violation n p.stream 2 := by
  have hlong : ¬ (p.length > 4096 || p.data.length > (p.length + 7) / 8 * 8) = true := by
    simp only [gt_iff_lt, Bool.or_eq_true, decide_eq_true_eq]
    omega
  unfold State.packet
  rw [if_neg (by simp [hu]), if_neg (by simp [hsync]), if_neg hlong, if_pos (by simpa using hcrc)]

/-! ### Opening a line (R263, R264) -/

/-- The line that LINE_START announces on a stream without a trigger divider. -/
def openedBy (p : Packet) : OpenLine :=
  { seq := p.seq, stamp := recField p.payload 0 4, pixels := recField p.payload 4 2, format := recField p.payload 6 1
    freeRun := (recField p.payload 7 1).testBit 0, resend := (recField p.payload 7 1).testBit 1, index := 0, data := [], bad := false }

theorem openLine_free (h : s.triggered n k = false) : ∃ m, s.openLine n k p =
    ((s.setStream n k { s.streamAt n k with
        line := some (openedBy p), stale := none, lostFrom := none, resynced := false, naks := m }).set
      (F.LANE_STREAM_state n k) stORDER).set (F.LANE_STREAM_next_seq n k) p.seq := by
  refine ⟨if s.get (F.LANE_STREAM_next_seq n k) == p.seq then (s.streamAt n k).naks else 0, ?_⟩
  unfold State.openLine openedBy
  simp only [h, Bool.false_and, Bool.false_eq_true, if_false]

/-- What the open line of a stream shows. -/
theorem openLine_opens (h : s.triggered n k = false) : (s.openLine n k p).streamState n k = stORDER ∧
    (s.openLine n k p).get (F.LANE_STREAM_next_seq n k) = p.seq ∧ ((s.openLine n k p).streamAt n k).line = some (openedBy p) := by
  obtain ⟨m, hm⟩ := openLine_free (p := p) h
  rw [hm]
  refine ⟨streamState_set_nextSeq.trans (streamState_set (by decide)), nextSeq_set.trans (Nat.mod_eq_of_lt seq_lt), ?_⟩
  rw [streamAt_of_lane set_lane, streamAt_of_lane set_lane, streamAt_setStream]

theorem gap_lane {first seq cause : Nat} : (s.gap n k first seq cause).lane = s.lane :=
  (State.gap_frame (Within.refl _) (.refl _ s)).lane rfl

theorem triggered_of_cfg (h : t.cfg = s.cfg) : t.triggered n k = s.triggered n k := by
  unfold State.triggered State.divCfg
  rw [h]

theorem gap_triggered {first seq cause : Nat} : (s.gap n k first seq cause).triggered n k = s.triggered n k :=
  triggered_of_cfg ((State.gap_frame (Within.refl _) (.refl _ s)).cfg rfl)

theorem lineStart_any (h : s.streamState n k = stANY) : s.lineStart n k p =
    (match (s.streamAt n k).lostFrom with
      | some first => s.gap n k first p.seq (s.streamAt n k).lostCause
      | none => s).openLine n k p := by
  unfold State.lineStart
  rw [h]
  rfl

/-- The number of a packet less the expected one, where it is the expected one. -/
theorem ahead_zero {a : Nat} (h : a = p.seq) : (p.seq + 65536 - a) % 65536 = 0 := by
  subst h
  simp

theorem lineStart_expected (h : s.streamState n k = stORDER) (hl : (s.streamAt n k).line = none)
    (hq : s.get (F.LANE_STREAM_next_seq n k) = p.seq) : s.lineStart n k p = s.openLine n k p := by
  unfold State.lineStart
  rw [h]
  dsimp only [stORDER]
  rw [ahead_zero hq, if_neg (by simp), if_neg (by simp [hl]), if_pos rfl]
  rfl

theorem lineStart_resent (h : s.streamState n k = stRESEND) (hq : s.get (F.LANE_STREAM_next_seq n k) = p.seq) :
    s.lineStart n k p = s.openLine n k p := by
  unfold State.lineStart
  rw [h]
  dsimp only [stRESEND]
  rw [ahead_zero hq, if_pos rfl]
  rfl

theorem lineStart_stale (h : s.streamState n k = stORDER) (hr : (recField p.payload 7 1).testBit 1 = true)
    (ha : 32769 ≤ (p.seq + 65536 - s.get (F.LANE_STREAM_next_seq n k)) % 65536) :
    s.lineStart n k p = s.setStream n k { s.streamAt n k with stale := some p.seq } := by
  unfold State.lineStart
  rw [h]
  dsimp only [stORDER]
  rw [if_pos (by simp [hr, ha])]
  rfl

/-! ### Violations that a NAK answers (R265, R266) -/

/-- A violation of cause `c` as it is counted and written. -/
def State.blamed (s : State) (n : LaneId) (k c : Nat) : State :=
  (s.inc (F.LANE_VIOL_count n)).raise Code.LANE_VIOLATION [n, k, c]

theorem get_blamed {c : Nat} {g : Field} (hv : regKind g.key ≠ 151) (hr : State.raise_mask.testBit (regKind g.key) = false) :
    (s.blamed n k c).get g = s.get g := by
  rw [State.blamed, get_raise hr, State.inc_def, State.get_set_kind (by simpa using hv)]

theorem blamed_lane {c : Nat} : (s.blamed n k c).lane = s.lane := raise_lane

theorem blamed_streamState {c : Nat} : (s.blamed n k c).streamState n k = s.streamState n k :=
  get_blamed (by simp) (by rw [F.LANE_STREAM_state_kind]; decide)

theorem blamed_nextSeq {c : Nat} : (s.blamed n k c).get (F.LANE_STREAM_next_seq n k) = s.get (F.LANE_STREAM_next_seq n k) :=
  get_blamed (by simp) (by rw [F.LANE_STREAM_next_seq_kind]; decide)

theorem blamed_retryLimit {c : Nat} : (s.blamed n k c).get (F.LANE_RETRY_limit n) = s.get (F.LANE_RETRY_limit n) :=
  get_blamed (by simp [F.LANE_RETRY_limit_kind]) (by rw [F.LANE_RETRY_limit_kind]; decide)

/-- A violation without an answer, of a stream that awaits no resend and no line after a gap. -/
theorem violation_unanswered {c : Nat} (hs : s.streamState n k ≠ stRESEND) (ha : s.streamState n k ≠ stANY) (hc : nakCause c = false) :
    s.violation n k c = s.blamed n k c := by
  have hst : (s.inc (F.LANE_VIOL_count n)).streamState n k = s.streamState n k := by
    rw [State.inc_def]
    exact State.get_set_kind (by simp)
  unfold State.violation
  simp only [hst, hc, Bool.false_and, Bool.false_eq_true, if_false]
  exact if_neg (by simp [hs, ha])

/-- The first line that the stream awaits: the open one, else the expected one. -/
def State.awaited (s : State) (n : LaneId) (k : Nat) : Nat :=
  (((s.streamAt n k).line.map fun l => l.seq)).getD (s.get (F.LANE_STREAM_next_seq n k))

/-- The stream whose open line is dropped by a NAK. -/
def State.naked (s : State) (n : LaneId) (k c : Nat) : Stream :=
  { s.streamAt n k with line := none, naks := (s.streamAt n k).naks + 1, nakCause := c }

theorem violation_naks {c : Nat} (hs : s.streamState n k = stORDER) (hc : nakCause c = true)
    (hl : s.get (F.LANE_RETRY_limit n) > (s.streamAt n k).naks) : s.violation n k c =
      (((((s.blamed n k c).setStream n k (s.naked n k c)).set (F.LANE_STREAM_state n k) stRESEND).set
        (F.LANE_STREAM_next_seq n k) (s.awaited n k)).sendNak n k (s.awaited n k) c) := by
  have hst : (s.inc (F.LANE_VIOL_count n)).streamState n k = stORDER := by
    rw [← hs, State.inc_def]
    exact State.get_set_kind (by simp)
  have hat : (s.blamed n k c).streamAt n k = s.streamAt n k := streamAt_of_lane blamed_lane
  unfold State.violation
  simp only [hst, hc]
  change (s.blamed n k c).nakLine n k
    ((((s.blamed n k c).streamAt n k).line.map fun l => l.seq).getD ((s.blamed n k c).get (F.LANE_STREAM_next_seq n k))) c = _
  rw [hat, blamed_nextSeq]
  unfold State.nakLine
  rw [hat, blamed_retryLimit]
  exact if_neg (by omega)

theorem sendNak_stream {q c : Nat} {g : Field} (hg : regKind g.key = 155) : (s.sendNak n k q c).get g = s.get g :=
  (State.sendNak_frame (Within.refl _) (.refl _ s)).get g (by rw [hg]; decide)

theorem sendNak_streamAt {q c : Nat} : (s.sendNak n k q c).streamAt n k = s.streamAt n k := rfl

/-- What a stream shows once a violation has been answered by a NAK. -/
theorem violation_dropsLine {c : Nat} (hs : s.streamState n k = stORDER) (hc : nakCause c = true)
    (hl : s.get (F.LANE_RETRY_limit n) > (s.streamAt n k).naks) : (s.violation n k c).streamState n k = stRESEND ∧
    (s.violation n k c).streamAt n k = s.naked n k c ∧ (s.violation n k c).wrote Code.LANE_VIOLATION [n, k, c] ∧
    (s.violation n k c).get (F.LANE_STREAM_next_seq n k) = s.awaited n k % 65536 := by
  rw [violation_naks hs hc hl]
  refine ⟨?_, ?_, ?_, ?_⟩
  · rw [State.streamState, sendNak_stream (F.LANE_STREAM_state_kind n k)]
    exact streamState_set_nextSeq.trans (streamState_set (by decide))
  · rw [sendNak_streamAt, streamAt_of_lane set_lane, streamAt_of_lane set_lane, streamAt_setStream]
  · refine wrote_of_recorder ((State.sendNak_frame (Within.refl _) (.refl _ _)).recorder rfl) ?_
    refine wrote_of_recorder ?_ (raise_wrote (s := s.inc (F.LANE_VIOL_count n)))
    rw [set_recorder, set_recorder, setStream_recorder, State.blamed]
  · rw [sendNak_stream (F.LANE_STREAM_next_seq_kind n k), nextSeq_set]

/-- The outcome of a command whose effect is a violation that a NAK answers. -/
theorem violation_answers {c : Nat} (hp : s.powered = true) (he : f s = s.violation n k c) (hs : s.streamState n k = stORDER)
    (hc : nakCause c = true) (hl : s.get (F.LANE_RETRY_limit n) > (s.streamAt n k).naks) : ∃ t, s.run f = .next t ∧
    t.streamState n k = stRESEND ∧ (t.streamAt n k).line = none ∧ (t.streamAt n k).naks = (s.streamAt n k).naks + 1 ∧
    t.wrote Code.LANE_VIOLATION [n, k, c] ∧ t.get (F.LANE_STREAM_next_seq n k) = s.awaited n k % 65536 := by
  obtain ⟨hst, hat, hw, hq⟩ := violation_dropsLine hs hc hl
  refine run_answers_of_effect hp he fun t ht => ?_
  rw [ht.streamState_driven, ht.streamAt_driven, ht.stream_driven (F.LANE_STREAM_next_seq_kind n k), hat]
  exact ⟨hst, rfl, rfl, ht.wrote_driven hw, hq⟩

/-! ### LINE_START (R263, R265) -/

section LineStart
variable (hp : s.powered = true)

theorem exec_lineStart : exec (.lineStart n p) s = s.run fun s => s.packet n 1 p fun s => s.lineStart n p.stream p := rfl

include hp

/-- A packet on a lane that is not UP does nothing. -/
theorem packet_ignored {kind : Nat} (h : s.laneState n ≠ laneUP) :
    ∃ t, s.run (fun s => s.packet n kind p f) = .next t ∧ t.lane = s.lane ∧ t.isp = s.isp :=
  run_answers_of_effect hp (packet_down h) fun _ ht => ⟨ht.lane_driven, ht.isp_driven⟩

/-- A packet whose CRC fails drops the line of its stream, whatever its kind. -/
theorem packet_crcDrops {kind : Nat} (hu : s.laneState n = laneUP) (hsync : p.badSync = false) (hlen : p.length ≤ 4096)
    (hdata : p.data.length ≤ (p.length + 7) / 8 * 8)
    (hcrc : p.crc.toNat ≠ packetCrc n p.stream p.seq (leBytes 8 p.head.toNat) p.data) (hs : s.streamState n p.stream = stORDER)
    (hl : s.get (F.LANE_RETRY_limit n) > (s.streamAt n p.stream).naks) :
    ∃ t, s.run (fun s => s.packet n kind p f) = .next t ∧ t.streamState n p.stream = stRESEND ∧ (t.streamAt n p.stream).line = none ∧
      (t.streamAt n p.stream).naks = (s.streamAt n p.stream).naks + 1 ∧ t.wrote Code.LANE_VIOLATION [n, p.stream, 2] := by
  have hcount : ∀ {g : Field}, regKind g.key ≠ 148 → (s.inc (F.LANE_CRC_ERR_count n)).get g = s.get g := fun h =>
    State.get_set_kind (by simpa using h)
  have hat : (s.inc (F.LANE_CRC_ERR_count n)).streamAt n p.stream = s.streamAt n p.stream := streamAt_of_lane rfl
  have hst : (s.inc (F.LANE_CRC_ERR_count n)).streamState n p.stream = stORDER := (hcount (by simp)).trans hs
  obtain ⟨h1, h2, h3, -⟩ := violation_dropsLine (c := 2) hst rfl
    (by rw [hat, hcount (by simp [F.LANE_RETRY_limit_kind])]; exact hl)
  refine run_answers_of_effect hp (packet_badCrc hu hsync hlen hdata hcrc) fun t ht => ?_
  rw [ht.streamState_driven, ht.streamAt_driven, h2, State.naked, hat]
  exact ⟨h1, rfl, rfl, ht.wrote_driven h3⟩

/-- The outcome of a LINE_START that opens its line in the state `u`. -/
theorem lineStart_opens (hg : s.goodPacket n 1 p) (he : s.lineStart n p.stream p = u.openLine n p.stream p)
    (ht : u.triggered n p.stream = false) : ∃ t, exec (.lineStart n p) s = .next t ∧ t.streamState n p.stream = stORDER ∧
      t.get (F.LANE_STREAM_next_seq n p.stream) = p.seq ∧ (t.streamAt n p.stream).line = some (openedBy p) := by
  obtain ⟨hst, hq, hl⟩ := openLine_opens (p := p) ht
  rw [exec_lineStart]
  refine run_answers_of_effect hp ((packet_good hg).trans he) fun t ht => ?_
  rw [ht.streamState_driven, ht.streamAt_driven, ht.stream_driven (F.LANE_STREAM_next_seq_kind n _)]
  exact ⟨hst, hq, hl⟩

theorem lineStart_afterGap {first : Nat} (hg : s.goodPacket n 1 p) (hs : s.streamState n p.stream = stANY)
    (hl : (s.streamAt n p.stream).lostFrom = some first) (ht : s.triggered n p.stream = false) :
    ∃ t, exec (.lineStart n p) s = .next t ∧ t.streamState n p.stream = stORDER ∧
      t.get (F.LANE_STREAM_next_seq n p.stream) = p.seq ∧ (t.streamAt n p.stream).line = some (openedBy p) :=
  lineStart_opens hp hg ((lineStart_any hs).trans (by rw [hl])) (gap_triggered.trans ht)

theorem lineStart_inOrder (hg : s.goodPacket n 1 p)
    (h : s.streamState n p.stream = stANY ∧ (s.streamAt n p.stream).lostFrom = none ∨
      s.streamState n p.stream = stORDER ∧ (s.streamAt n p.stream).line = none ∧ s.get (F.LANE_STREAM_next_seq n p.stream) = p.seq ∨
      s.streamState n p.stream = stRESEND ∧ s.get (F.LANE_STREAM_next_seq n p.stream) = p.seq)
    (ht : s.triggered n p.stream = false) :
    ∃ t, exec (.lineStart n p) s = .next t ∧ t.streamState n p.stream = stORDER ∧
      t.get (F.LANE_STREAM_next_seq n p.stream) = p.seq ∧ (t.streamAt n p.stream).line = some (openedBy p) := by
  refine lineStart_opens hp hg (u := s) ?_ ht
  rcases h with ⟨hs, hl⟩ | ⟨hs, hl, hq⟩ | ⟨hs, hq⟩
  · rw [lineStart_any hs, hl]
  · exact lineStart_expected hs hl hq
  · exact lineStart_resent hs hq

theorem lineStart_staleResend (hg : s.goodPacket n 1 p) (hs : s.streamState n p.stream = stORDER)
    (hr : (recField p.payload 7 1).testBit 1 = true)
    (ha : 32769 ≤ (p.seq + 65536 - s.get (F.LANE_STREAM_next_seq n p.stream)) % 65536) : ∃ t, exec (.lineStart n p) s = .next t ∧
      t.streamAt n p.stream = { s.streamAt n p.stream with stale := some p.seq } ∧
      t.get (F.LANE_VIOL_count n) = s.get (F.LANE_VIOL_count n) ∧ t.lane.out = s.lane.out := by
  rw [exec_lineStart]
  refine run_answers_of_effect hp ((packet_good hg).trans (lineStart_stale hs hr ha)) fun t ht => ?_
  rw [ht.streamAt_driven, streamAt_setStream, ht.lane_driven, ht.get_driven (by rw [F.LANE_VIOL_count_kind]; decide)]
  exact ⟨rfl, rfl, rfl⟩

end LineStart

/-! ### PIXELS and LINE_END (R263) -/

/-- What PIXELS does with the packet `p`, checked. -/
def State.pixelsOf (s : State) (n : LaneId) (p : Packet) : State :=
  let x := s.streamAt n p.stream
  if s.streamState n p.stream != stORDER then (if s.streamState n p.stream == stRESEND then s else s.violation n p.stream 6)
  else if x.stale == some p.seq then s
  else match x.line with
    | none => s.violation n p.stream 6
    | some l =>
      if l.seq != p.seq || l.index != p.index then s.violation n p.stream 7
      else s.setStream n p.stream { x with line := some { l with index := l.index + 1, data := l.data ++ p.payload } }

/-- What LINE_END does with the packet `p`, checked. -/
def State.lineEndOf (s : State) (n : LaneId) (p : Packet) : State :=
  let x := s.streamAt n p.stream
  if s.streamState n p.stream != stORDER then (if s.streamState n p.stream == stRESEND then s else s.violation n p.stream 6)
  else if x.stale == some p.seq then s
  else match x.line with
    | none => s.violation n p.stream 6
    | some l =>
      if l.seq != p.seq then s.violation n p.stream 7
      else if recField p.payload 0 4 != l.data.length then s.violation n p.stream 13
      else (s.acceptLine n p.stream l (recField p.payload 4 1)).retrainCheck n

theorem exec_pixels : exec (.pixels n p) s = s.run fun s => s.packet n 2 p fun s => s.pixelsOf n p := rfl

theorem exec_lineEnd : exec (.lineEnd n p) s = s.run fun s => s.packet n 3 p fun s => s.lineEndOf n p := rfl

section Body
variable (hs : s.streamState n p.stream = stORDER)
include hs

theorem pixelsOf_stale (h : (s.streamAt n p.stream).stale = some p.seq) : s.pixelsOf n p = s := by
  unfold State.pixelsOf
  rw [if_neg (by simp [hs]), if_pos (by simp [h])]

theorem lineEndOf_stale (h : (s.streamAt n p.stream).stale = some p.seq) : s.lineEndOf n p = s := by
  unfold State.lineEndOf
  rw [if_neg (by simp [hs]), if_pos (by simp [h])]

section Open
variable (hst : (s.streamAt n p.stream).stale ≠ some p.seq) (hl : (s.streamAt n p.stream).line = some l)
include hst hl

theorem pixelsOf_next (hq : l.seq = p.seq) (hi : l.index = p.index) : s.pixelsOf n p = s.setStream n p.stream
    { s.streamAt n p.stream with line := some { l with index := l.index + 1, data := l.data ++ p.payload } } := by
  unfold State.pixelsOf
  rw [if_neg (by simp [hs]), if_neg (by simpa using hst), hl]
  exact if_neg (by simp [hq, hi])

theorem pixelsOf_wrong (h : l.seq ≠ p.seq ∨ l.index ≠ p.index) : s.pixelsOf n p = s.violation n p.stream 7 := by
  unfold State.pixelsOf
  rw [if_neg (by simp [hs]), if_neg (by simpa using hst), hl]
  exact if_pos (by simpa using h)

theorem lineEndOf_wrongCount (hq : l.seq = p.seq) (h : recField p.payload 0 4 ≠ l.data.length) :
    s.lineEndOf n p = s.violation n p.stream 13 := by
  unfold State.lineEndOf
  rw [if_neg (by simp [hs]), if_neg (by simpa using hst), hl]
  exact (if_neg (by simp [hq])).trans (if_pos (by simpa using h))

theorem lineEndOf_accepts (hq : l.seq = p.seq) (h : recField p.payload 0 4 = l.data.length) :
    s.lineEndOf n p = (s.acceptLine n p.stream l (recField p.payload 4 1)).retrainCheck n := by
  unfold State.lineEndOf
  rw [if_neg (by simp [hs]), if_neg (by simpa using hst), hl]
  exact (if_neg (by simp [hq])).trans (if_neg (by simpa using h))

end Open
end Body

/-! ### Accepting a line (R263, R286) -/

/-- The line as it is handed on. -/
def State.lineIn (s : State) (l : OpenLine) (x : Stream) (c status : Nat) : LineIn :=
  { ctx := c, seq := l.seq, stamp := l.stamp, pixels := l.pixels, format := l.format, data := l.data
    headStatus := status, lost := false, short := knownFormat l.format && l.data.length < impliedBytes l.pixels l.format
    long := knownFormat l.format && l.data.length > impliedBytes l.pixels l.format, code := 0, at_ := s.clk.now, local_ := s.localNs
    trigAt := if l.freeRun then none else (x.trigs.find? (fun t => t.number == l.seq)).map (fun t => t.at_)
    waited := false }

theorem handOn_free {ch : Nat} {y : LineIn} (hg : (s.ispChan ch).golden = none) (hq : (s.ispChan ch).queue = []) :
    s.handOn ch y = (s.setIspChan ch { s.ispChan ch with queue := [.line { y with waited := false }] }).showLayby ch := by
  unfold State.handOn
  simp [hg, hq]

theorem ispChan_setIspChan {ch : Nat} {y : IspChan} : (s.setIspChan ch y).ispChan ch = y := tget_tset_self _ _ _ _

theorem ispChan_of_isp {ch : Nat} (h : t.isp = s.isp) : t.ispChan ch = s.ispChan ch := by rw [State.ispChan, h, State.ispChan]

theorem handOn_free_queue {ch : Nat} {y : LineIn} (hg : (s.ispChan ch).golden = none) (hq : (s.ispChan ch).queue = []) :
    ((s.handOn ch y).ispChan ch).queue = [.line { y with waited := false }] := by
  rw [handOn_free hg hq, ispChan_of_isp ((State.showLayby_frame (Within.refl _) (.refl _ _)).isp rfl), ispChan_setIspChan]

/-- The stream and the counters of a line that is accepted, before it is handed on. -/
def State.accepted (s : State) (n : LaneId) (k : Nat) (l : OpenLine) : State :=
  let s := ((s.setStream n k { s.streamAt n k with line := none, naks := 0 }).set (F.LANE_STREAM_next_seq n k) (l.seq + 1)).inc
    (F.LANE_LINES_count n)
  if l.resend then s.inc (F.LANE_NAK_resent n) else s

theorem accepted_cfg : (s.accepted n k l).cfg = s.cfg := by
  unfold State.accepted
  split <;> simp only [State.inc_def, set_cfg] <;> rfl

theorem accepted_isp : (s.accepted n k l).isp = s.isp := by
  unfold State.accepted
  split <;> simp only [State.inc_def, set_isp] <;> rfl

theorem accepted_streamAt : (s.accepted n k l).streamAt n k = { s.streamAt n k with line := none, naks := 0 } := by
  have hset : ∀ (u : State) (g : Field), (u.inc g).streamAt n k = u.streamAt n k := fun _ _ => rfl
  have hnext : ∀ (u : State) (v : Nat), (u.set (F.LANE_STREAM_next_seq n k) v).streamAt n k = u.streamAt n k := fun _ _ => rfl
  unfold State.accepted
  extract_lets y u
  have hu : u.streamAt n k = { s.streamAt n k with line := none, naks := 0 } := by rw [hset, hnext, streamAt_setStream]
  split
  · rw [hset, hu]
  · exact hu

theorem accepted_nextSeq : (s.accepted n k l).get (F.LANE_STREAM_next_seq n k) = (l.seq + 1) % 65536 := by
  unfold State.accepted
  extract_lets y u
  have hu : u.get (F.LANE_STREAM_next_seq n k) = (l.seq + 1) % 65536 := by
    change (State.inc _ _).get _ = _
    rw [State.inc_def, State.get_set_kind (by simp), nextSeq_set]
  split
  · rw [State.inc_def, State.get_set_kind (by simp), hu]
  · exact hu

theorem laneCtx_of_cfg (h : t.cfg = s.cfg) : t.laneCtx n k = s.laneCtx n k := by
  unfold State.laneCtx State.ctxCfg
  rw [h]

theorem acceptLine_handsOn {c status : Nat} (hb : l.bad = false) (hc : s.laneCtx n k = some c) : s.acceptLine n k l status =
    (s.accepted n k l).handOn ((s.accepted n k l).laneCfg n).channel
      ((s.accepted n k l).lineIn l (s.streamAt n k) c status) := by
  have hctx : (s.accepted n k l).laneCtx n k = some c := (laneCtx_of_cfg accepted_cfg).trans hc
  unfold State.acceptLine
  simp only [hb, Bool.false_eq_true, if_false]
  change (match (s.accepted n k l).laneCtx n k with | none => _ | some c => _) = _
  rw [hctx]
  rfl

/-- What the lane and the channel show once a line has been handed on. -/
theorem acceptLine_shows {c status ch : Nat} (hb : l.bad = false) (hc : s.laneCtx n k = some c) (hch : ch = (s.laneCfg n).channel)
    (hg : (s.ispChan ch).golden = none) (hq : (s.ispChan ch).queue = []) :
    ((s.acceptLine n k l status).streamAt n k).line = none ∧
      (s.acceptLine n k l status).lane = (s.accepted n k l).lane ∧
      (s.acceptLine n k l status).get (F.LANE_STREAM_next_seq n k) = (l.seq + 1) % 65536 ∧
      ((s.acceptLine n k l status).ispChan ch).queue = [.line ((s.accepted n k l).lineIn l (s.streamAt n k) c status)] := by
  have hcfg : (s.accepted n k l).laneCfg n = s.laneCfg n := by rw [State.laneCfg, accepted_cfg, State.laneCfg]
  have hchan := ispChan_of_isp (ch := ch) (accepted_isp (s := s) (n := n) (k := k) (l := l))
  have hlane : ∀ y, ((s.accepted n k l).handOn ch y).lane = (s.accepted n k l).lane := fun y =>
    (State.handOn_frame (Within.refl _) (.refl _ _)).lane rfl
  rw [acceptLine_handsOn hb hc, hcfg, ← hch, streamAt_of_lane (hlane _), accepted_streamAt,
    (State.handOn_frame (Within.refl _) (.refl _ _)).get _ (by rw [F.LANE_STREAM_next_seq_kind]; decide),
    handOn_free_queue (hchan ▸ hg) (hchan ▸ hq)]
  exact ⟨rfl, hlane _, accepted_nextSeq, rfl⟩

theorem accepted_lanes : (s.accepted n k l).lane.lanes = s.lane.lanes := by
  unfold State.accepted
  split <;> rfl

theorem retrainCheck_none (h : (s.laneAt n).retrainWait = false) : s.retrainCheck n = s := if_neg (by simp [h])

section Body
variable (hp : s.powered = true)
include hp

theorem pixels_stale (hg : s.goodPacket n 2 p) (hs : s.streamState n p.stream = stORDER)
    (hst : (s.streamAt n p.stream).stale = some p.seq) : ∃ t, exec (.pixels n p) s = .next t ∧ t.lane = s.lane ∧ t.isp = s.isp ∧
      t.get (F.LANE_VIOL_count n) = s.get (F.LANE_VIOL_count n) := by
  rw [exec_pixels]
  exact run_answers_of_effect hp ((packet_good hg).trans (pixelsOf_stale hs hst)) fun t ht =>
    ⟨ht.lane_driven, ht.isp_driven, ht.get_driven (by rw [F.LANE_VIOL_count_kind]; decide)⟩

theorem lineEnd_stale (hg : s.goodPacket n 3 p) (hs : s.streamState n p.stream = stORDER)
    (hst : (s.streamAt n p.stream).stale = some p.seq) : ∃ t, exec (.lineEnd n p) s = .next t ∧ t.lane = s.lane ∧ t.isp = s.isp ∧
      t.get (F.LANE_VIOL_count n) = s.get (F.LANE_VIOL_count n) := by
  rw [exec_lineEnd]
  exact run_answers_of_effect hp ((packet_good hg).trans (lineEndOf_stale hs hst)) fun t ht =>
    ⟨ht.lane_driven, ht.isp_driven, ht.get_driven (by rw [F.LANE_VIOL_count_kind]; decide)⟩

section Open
variable (hs : s.streamState n p.stream = stORDER) (hst : (s.streamAt n p.stream).stale ≠ some p.seq)
  (hl : (s.streamAt n p.stream).line = some l)
include hs hst hl

omit hp hs hst in
theorem awaited_open : s.awaited n p.stream = l.seq := by
  rw [State.awaited, hl]
  rfl

theorem pixels_fills (hg : s.goodPacket n 2 p) (hq : l.seq = p.seq) (hi : l.index = p.index) : ∃ t, exec (.pixels n p) s = .next t ∧
    (t.streamAt n p.stream).line = some { l with index := l.index + 1, data := l.data ++ p.payload } ∧ t.isp = s.isp := by
  rw [exec_pixels]
  refine run_answers_of_effect hp ((packet_good hg).trans (pixelsOf_next hs hst hl hq hi)) fun t ht => ?_
  rw [ht.streamAt_driven, streamAt_setStream]
  exact ⟨rfl, ht.isp_driven⟩

theorem pixels_wrong (hg : s.goodPacket n 2 p) (h : l.seq ≠ p.seq ∨ l.index ≠ p.index)
    (hlim : s.get (F.LANE_RETRY_limit n) > (s.streamAt n p.stream).naks) : ∃ t, exec (.pixels n p) s = .next t ∧
      t.streamState n p.stream = stRESEND ∧ (t.streamAt n p.stream).line = none ∧
      (t.streamAt n p.stream).naks = (s.streamAt n p.stream).naks + 1 ∧ t.wrote Code.LANE_VIOLATION [n, p.stream, 7] ∧
      t.get (F.LANE_STREAM_next_seq n p.stream) = l.seq % 65536 := by
  rw [exec_pixels, ← awaited_open hl]
  exact violation_answers hp ((packet_good hg).trans (pixelsOf_wrong hs hst hl h)) hs rfl hlim

theorem lineEnd_wrongCount (hg : s.goodPacket n 3 p) (hq : l.seq = p.seq) (h : recField p.payload 0 4 ≠ l.data.length)
    (hlim : s.get (F.LANE_RETRY_limit n) > (s.streamAt n p.stream).naks) : ∃ t, exec (.lineEnd n p) s = .next t ∧
      t.streamState n p.stream = stRESEND ∧ (t.streamAt n p.stream).line = none ∧
      (t.streamAt n p.stream).naks = (s.streamAt n p.stream).naks + 1 ∧ t.wrote Code.LANE_VIOLATION [n, p.stream, 13] ∧
      t.get (F.LANE_STREAM_next_seq n p.stream) = l.seq % 65536 := by
  rw [exec_lineEnd, ← awaited_open hl]
  exact violation_answers hp ((packet_good hg).trans (lineEndOf_wrongCount hs hst hl hq h)) hs rfl hlim

theorem lineEnd_accepts {c : Nat} (hg : s.goodPacket n 3 p) (hq : l.seq = p.seq) (h : recField p.payload 0 4 = l.data.length)
    (hb : l.bad = false) (hc : s.laneCtx n p.stream = some c) (hgold : (s.ispChan (s.laneCfg n).channel).golden = none)
    (hqueue : (s.ispChan (s.laneCfg n).channel).queue = []) (hw : (s.laneAt n).retrainWait = false) :
    ∃ t, exec (.lineEnd n p) s = .next t ∧ (t.streamAt n p.stream).line = none ∧
      t.get (F.LANE_STREAM_next_seq n p.stream) = (l.seq + 1) % 65536 ∧ ∃ x : LineIn,
      (t.ispChan (s.laneCfg n).channel).queue = [.line x] ∧ x.ctx = c ∧ x.seq = l.seq ∧ x.stamp = l.stamp ∧ x.data = l.data ∧
      x.lost = false ∧ x.headStatus = recField p.payload 4 1 := by
  obtain ⟨hline, hlane, hnext, hhand⟩ := acceptLine_shows (status := recField p.payload 4 1) hb hc rfl hgold hqueue
  have hwait : ((s.acceptLine n p.stream l (recField p.payload 4 1)).laneAt n).retrainWait = false := by
    rw [State.laneAt, hlane, accepted_lanes]
    exact hw
  rw [exec_lineEnd]
  refine run_answers_of_effect hp ((packet_good hg).trans
    ((lineEndOf_accepts hs hst hl hq h).trans (retrainCheck_none hwait))) fun t ht => ?_
  rw [ht.streamAt_driven, ht.stream_driven (F.LANE_STREAM_next_seq_kind n _), ispChan_of_isp ht.isp_driven]
  exact ⟨hline, hnext, _, hhand, rfl, rfl, rfl, rfl, rfl, rfl⟩

end Open
end Body

/-! ### CTRL, NAK and RESYNC of the head (R264, R266, R267) -/

section Answers
variable (hp : s.powered = true)

/-- What a NAK of trigger `num` does to stream `k`: the trigger's line will be missed. -/
def State.missTrigger (s : State) (n : LaneId) (num k : Nat) : State :=
  let x := s.streamAt n k
  if x.trigs.any (fun t => t.number == num) && !x.missed.contains num then s.setStream n k { x with missed := x.missed ++ [num] } else s

/-- The stream's open line is not to be accepted. -/
def State.spoilLine (s : State) (n : LaneId) (k : Nat) : State :=
  s.setStream n k { s.streamAt n k with line := (s.streamAt n k).line.map fun l => { l with bad := true } }

theorem exec_ctrlResponse : exec (.ctrlResponse n p) s = s.run fun s => s.packet n 5 p fun s =>
    if recField p.payload 0 1 != 4 then s
    else s.setLane n { s.laneAt n with
      response := some (recField p.payload 1 1, recField p.payload 2 1, recField p.payload 4 4) } := rfl

theorem exec_headNak : exec (.headNak n p) s = s.run fun s => s.packet n 6 p fun s =>
    if p.length != 8 then s.violation n p.stream 4
    else ((s.spoilLine n p.stream).violation n p.stream 11).each (upTo 8) fun s k => s.missTrigger n (recField p.payload 0 2) k := rfl

theorem missTrigger_keeps {num j : Nat} : ((s.missTrigger n num j).streamAt n k).line = (s.streamAt n k).line ∧
    ((s.missTrigger n num j).streamAt n k).trigs = (s.streamAt n k).trigs ∧
    ∀ m ∈ (s.streamAt n k).missed, m ∈ ((s.missTrigger n num j).streamAt n k).missed := by
  unfold State.missTrigger
  extract_lets x
  split
  · by_cases h : k = j
    · subst h
      rw [streamAt_setStream]
      exact ⟨rfl, rfl, fun m hm => List.mem_append_left _ hm⟩
    · rw [streamAt_setStream_ne h]
      exact ⟨rfl, rfl, fun _ hm => hm⟩
  · exact ⟨rfl, rfl, fun _ hm => hm⟩

theorem missTrigger_misses {num : Nat} (h : (s.streamAt n k).trigs.any (fun g => g.number == num) = true) :
    num ∈ ((s.missTrigger n num k).streamAt n k).missed := by
  unfold State.missTrigger
  extract_lets x
  split
  · rw [streamAt_setStream]
    exact List.mem_append_right _ (.head _)
  next hn =>
    change (x.trigs.any (fun t => t.number == num) && !x.missed.contains num) ≠ true at hn
    have hx : x.trigs.any (fun g => g.number == num) = true := h
    simpa [hx] using hn

/-- Over the streams in turn, lines and triggers stay, and what has been missed stays missed. -/
theorem each_missTrigger_keeps {num : Nat} : ∀ (js : List Nat) (s : State),
    ((s.each js fun s k => s.missTrigger n num k).streamAt n k).line = (s.streamAt n k).line ∧
    ∀ m ∈ (s.streamAt n k).missed, m ∈ ((s.each js fun s k => s.missTrigger n num k).streamAt n k).missed
  | [], _ => ⟨rfl, fun _ h => h⟩
  | j :: js, s => by
    obtain ⟨hline, htrigs, hmissed⟩ := missTrigger_keeps (s := s) (n := n) (k := k) (num := num) (j := j)
    obtain ⟨hl, hm⟩ := each_missTrigger_keeps js (s.missTrigger n num j)
    exact ⟨hl.trans hline, fun m h => hm m (hmissed m h)⟩

theorem each_missTrigger_misses {num : Nat} (js : List Nat) (s : State) (hk : k ∈ js)
    (h : (s.streamAt n k).trigs.any (fun g => g.number == num) = true) :
    num ∈ ((s.each js fun s k => s.missTrigger n num k).streamAt n k).missed := by
  induction js generalizing s with
  | nil => cases hk
  | cons j js ih =>
    rw [State.each_cons]
    by_cases hj : k = j
    · subst hj
      exact (each_missTrigger_keeps js _).2 num (missTrigger_misses h)
    · obtain ⟨-, htrigs, -⟩ := missTrigger_keeps (s := s) (n := n) (k := k) (num := num) (j := j)
      refine ih _ (List.mem_of_ne_of_mem hj hk) ?_
      rw [htrigs]
      exact h

theorem missTrigger_recorder {num : Nat} : (s.missTrigger n num k).recorder = s.recorder := by
  unfold State.missTrigger
  extract_lets x
  split <;> rfl

theorem spoilLine_trigs {j : Nat} : ((s.spoilLine n j).streamAt n k).trigs = (s.streamAt n k).trigs := by
  unfold State.spoilLine
  by_cases h : k = j
  · subst h
    rw [streamAt_setStream]
  · rw [streamAt_setStream_ne h]

include hp

theorem ctrlResponse_kept (hg : s.goodPacket n 5 p) (h : recField p.payload 0 1 = 4) : ∃ t, exec (.ctrlResponse n p) s = .next t ∧
    (t.laneAt n).response = some (recField p.payload 1 1, recField p.payload 2 1, recField p.payload 4 4) := by
  rw [exec_ctrlResponse]
  refine run_answers_of_effect hp ((packet_good hg).trans (if_neg (by simp [h]))) fun t ht => ?_
  have hlane : t.laneAt n = _ := (congrArg (fun l : Lanes => tget lane0 l.lanes n) ht.lane_driven).trans (tget_tset_self _ _ _ _)
  rw [hlane]

theorem headNak_misses (hg : s.goodPacket n 6 p) (hlen : p.length = 8) (hk : k < 8)
    (htr : (s.streamAt n k).trigs.any (fun g => g.number == recField p.payload 0 2) = true)
    (hr : s.streamState n p.stream ≠ stRESEND) (ha : s.streamState n p.stream ≠ stANY) : ∃ t, exec (.headNak n p) s = .next t ∧
      recField p.payload 0 2 ∈ (t.streamAt n k).missed ∧ t.wrote Code.LANE_VIOLATION [n, p.stream, 11] ∧
      ∀ l, (s.streamAt n p.stream).line = some l → (t.streamAt n p.stream).line = some { l with bad := true } := by
  have hviol : (s.spoilLine n p.stream).violation n p.stream 11 = (s.spoilLine n p.stream).blamed n p.stream 11 :=
    violation_unanswered hr ha rfl
  have hat : ∀ j, ((s.spoilLine n p.stream).blamed n p.stream 11).streamAt n j = (s.spoilLine n p.stream).streamAt n j := fun _ =>
    streamAt_of_lane blamed_lane
  rw [exec_headNak]
  refine run_answers_of_effect hp ((packet_good hg).trans ((if_neg (by simp [hlen])).trans (by rw [hviol]))) fun t ht => ?_
  rw [ht.streamAt_driven, ht.streamAt_driven]
  refine ⟨each_missTrigger_misses _ _ (List.mem_range.mpr hk) ?_, ht.wrote_driven ?_, fun l hl => ?_⟩
  · rw [hat, spoilLine_trigs]
    exact htr
  · exact wrote_of_recorder (each_keeps State.recorder (fun _ _ => missTrigger_recorder) _ _) raise_wrote
  · rw [(each_missTrigger_keeps _ _).1, hat, State.spoilLine, streamAt_setStream, hl]
    rfl

/-! RESYNC and the time-outs -/

omit hp in
theorem exec_headResync : exec (.headResync n p) s = s.run fun s => s.packet n 7 p fun s =>
    if p.length != 8 then s.violation n p.stream 4
    else
      let l := s.laneAt n
      let times := s.clk.now :: l.resyncs.filter (fun t => s.clk.now - t < samplesPerMs)
      let s := s.setLane n { l with resyncs := times }
      let s := if times.length > 16 then s.blamed n p.stream 12 else s
      (s.dropStream n p.stream stANY (recField p.payload 2 1)).inc (F.LANE_LOST_resyncs n) := rfl

omit hp in
theorem exec_nakTimeout {k : Fin 8} : exec (.nakTimeout n k) s = s.run fun s =>
    if s.laneState n == laneUP && s.streamState n k == stRESEND then s.sendResync n k 0 else s := rfl

omit hp in
theorem exec_laneCtrlTimeout {r : BitVec 16} : exec (.laneCtrlTimeout n r) s = s.run fun s =>
    if s.laneState n != laneUP then s else (s.blamed n 0 10).raise Code.LANE_CTRL_TIMEOUT [n, r.toNat] := rfl

omit hp in
theorem firstMissing_congr (hst : t.streamState n k = s.streamState n k)
    (hq : t.get (F.LANE_STREAM_next_seq n k) = s.get (F.LANE_STREAM_next_seq n k)) (hat : t.streamAt n k = s.streamAt n k) :
    t.firstMissing n k = s.firstMissing n k := by
  unfold State.firstMissing
  rw [hst, hq, hat]

/-- The stream that a RESYNC leaves, its lines missing from `first` with cause `c`. -/
def resyncedStream (x : Stream) (first : Option Nat) (c : Nat) : Stream :=
  { x with line := none, stale := none, naks := 0, lostFrom := first, lostCause := c, resynced := true }

omit hp in
theorem dropStream_any {c : Nat} : (s.dropStream n k stANY c).streamState n k = stANY ∧
    (s.dropStream n k stANY c).streamAt n k = resyncedStream (s.streamAt n k) (s.firstMissing n k) c := by
  unfold State.dropStream
  extract_lets x
  refine ⟨streamState_set (by decide), ?_⟩
  rw [streamAt_of_lane set_lane, streamAt_setStream]
  rfl

theorem headResync_resyncs (hg : s.goodPacket n 7 p) (hlen : p.length = 8) : ∃ t, exec (.headResync n p) s = .next t ∧
    t.streamState n p.stream = stANY ∧ t.streamAt n p.stream =
      resyncedStream (s.streamAt n p.stream) (s.firstMissing n p.stream) (recField p.payload 2 1) := by
  rw [exec_headResync]
  refine run_answers_of_effect hp ((packet_good hg).trans (if_neg (by simp [hlen]))) fun t ht => ?_
  rw [ht.streamState_driven, ht.streamAt_driven]
  extract_lets l times u v
  have hv : v.streamState n p.stream = s.streamState n p.stream ∧ v.streamAt n p.stream = s.streamAt n p.stream ∧
      v.get (F.LANE_STREAM_next_seq n p.stream) = s.get (F.LANE_STREAM_next_seq n p.stream) := by
    have hu : u.streamAt n p.stream = s.streamAt n p.stream := rfl
    by_cases h : times.length > 16
    · have hv : v = u.blamed n p.stream 12 := if_pos h
      rw [hv, blamed_streamState, streamAt_of_lane blamed_lane, blamed_nextSeq, hu]
      exact ⟨rfl, rfl, rfl⟩
    · have hv : v = u := if_neg h
      rw [hv, hu]
      exact ⟨rfl, rfl, rfl⟩
  obtain ⟨hst, hat, hq⟩ := hv
  obtain ⟨hany, hx⟩ := dropStream_any (s := v) (n := n) (k := p.stream) (c := recField p.payload 2 1)
  rw [streamAt_inc, hx, hat, firstMissing_congr hst hq hat]
  refine ⟨?_, rfl⟩
  rw [State.inc_def, State.streamState, State.get_set_kind (by simp)]
  exact hany

theorem nakTimeout_resyncs {k : Fin 8} (hu : s.laneState n = laneUP) (hs : s.streamState n k = stRESEND) :
    ∃ t, exec (.nakTimeout n k) s = .next t ∧ t.streamState n k = stANY ∧
      t.streamAt n k = resyncedStream (s.streamAt n k) (some (s.get (F.LANE_STREAM_next_seq n k))) 0 := by
  have hfirst : s.firstMissing n k = some (s.get (F.LANE_STREAM_next_seq n k)) := if_pos (by rw [hs]; rfl)
  obtain ⟨hany, hx⟩ := dropStream_any (s := s) (n := n) (k := k) (c := 0)
  rw [exec_nakTimeout]
  refine run_answers_of_effect hp (if_pos (by simp [hu, hs])) fun t ht => ?_
  rw [ht.streamState_driven, ht.streamAt_driven, State.sendResync, ← hfirst, ← hx]
  refine ⟨?_, rfl⟩
  change (State.inc _ _).get _ = _
  rw [State.inc_def, State.get_set_kind (by simp)]
  exact hany

theorem nakTimeout_leaves {k : Fin 8} (h : s.laneState n ≠ laneUP ∨ s.streamState n k ≠ stRESEND) :
    ∃ t, exec (.nakTimeout n k) s = .next t ∧ t.lane = s.lane := by
  rw [exec_nakTimeout]
  refine run_answers_of_effect (u := s) hp (if_neg ?_) fun t ht => ht.lane_driven
  rcases h with h | h <;> simp [h]

theorem laneCtrlTimeout_written {r : BitVec 16} (hu : s.laneState n = laneUP) : ∃ t, exec (.laneCtrlTimeout n r) s = .next t ∧
    t.lane = s.lane ∧ t.wrote Code.LANE_CTRL_TIMEOUT [n, r.toNat] := by
  rw [exec_laneCtrlTimeout]
  exact run_answers_of_effect hp (if_neg (by simp [hu])) fun t ht =>
    ⟨ht.lane_driven.trans (raise_lane.trans blamed_lane), ht.wrote_driven raise_wrote⟩

end Answers

end LanePackets

/-- Settles O25: each clause is an outcome of a packet or a time-out above. -/
theorem lanePackets : Obligations.LanePackets := by
  unfold Obligations.LanePackets
  refine ⟨?_, ?_, ?_, ?_, ?_, ?_, ?_, ?_, ?_, ?_, ?_, ?_, ?_, ?_, ?_, ?_, ?_, ?_, ?_, ?_, ?_⟩
  · intro s n p first hp hg hs hl htr
    obtain ⟨t, ht, hst, hq, hline⟩ := lineStart_afterGap hp hg hs hl htr
    exact ⟨t, ht, hst, hq, _, hline, rfl, rfl, rfl, rfl, rfl, rfl⟩
  · intro s n p hp hg h htr
    obtain ⟨t, ht, hst, hq, hline⟩ := lineStart_inOrder hp hg h htr
    exact ⟨t, ht, hst, hq, _, hline, rfl, rfl, rfl, rfl, rfl, rfl, rfl⟩
  · exact fun s n p l hp hg hs _ => lineStart_staleResend hp hg hs
  · exact fun s n p => pixels_stale
  · exact fun s n p => lineEnd_stale
  · exact fun s n p l hp hg hs hst hl => pixels_fills hp hs hst hl hg
  · exact fun s n p l c hp hg hs hst hl => lineEnd_accepts hp hs hst hl hg
  · exact fun s n p l hp hg hs hst hl => pixels_wrong hp hs hst hl hg
  · exact fun s n p l hp hg hs hst hl => lineEnd_wrongCount hp hs hst hl hg
  · intro s n p hp hu hsync hlen hdata hcrc hs hl
    rw [exec_lineStart]
    exact packet_crcDrops hp hu hsync hlen hdata hcrc hs hl
  · intro s n p hp hu
    rw [exec_lineStart]
    exact packet_ignored hp hu
  · intro s n p hp hu hsync hlen hdata hcrc hs hl
    rw [exec_pixels]
    exact packet_crcDrops hp hu hsync hlen hdata hcrc hs hl
  · intro s n p hp hu
    rw [exec_pixels]
    exact packet_ignored hp hu
  · intro s n p hp hu hsync hlen hdata hcrc hs hl
    rw [exec_lineEnd]
    exact packet_crcDrops hp hu hsync hlen hdata hcrc hs hl
  · intro s n p hp hu
    rw [exec_lineEnd]
    exact packet_ignored hp hu
  · exact fun s n p => ctrlResponse_kept
  · exact fun s n p k => headNak_misses
  · intro s n p hp hg hlen
    obtain ⟨t, ht, hst, hx⟩ := headResync_resyncs hp hg hlen
    refine ⟨t, ht, hst, ?_⟩
    rw [hx]
    exact ⟨rfl, rfl, rfl, rfl⟩
  · intro s n k hp hu hs
    obtain ⟨t, ht, hst, hx⟩ := nakTimeout_resyncs hp hu hs
    refine ⟨t, ht, hst, ?_⟩
    rw [hx]
    exact ⟨rfl, rfl, rfl⟩
  · exact fun s n k hp => nakTimeout_leaves hp
  · exact fun s n r hp => laneCtrlTimeout_written hp

end Sys2Proof.Machine
end

section
/-! PROOFS. The image pipeline (R274 to R276, R283 to R287, R376): lines, frame marks, parameter sets and golden frames. -/

namespace Sys2Proof.Machine

open Sys2Proof

section Pipeline

variable {s t u : State} {c ch : Nat} {l : LineIn} {x : Ctx} {f : State → State}

/-! ### Reading a context -/

theorem ctx_setCtx : (s.setCtx c x).ctx c = x := by
  unfold State.ctx State.setCtx tget
  rw [tfind_tput_self]
  rfl

theorem ctx_set {g : Field} {v : Nat} : (s.set g v).ctx c = s.ctx c := rfl

theorem ctx_of_isp (hi : t.isp = s.isp) (hc : t.cfg = s.cfg) : t.ctx c = s.ctx c := by
  rw [State.ctx, hi, State.ctxCfg, hc, State.ctx, State.ctxCfg]

theorem State.Same.cfg_isp_ctx (h : t.Same u.driveOutputs) : t.ctx c = u.ctx c :=
  ctx_of_isp h.isp_driven (h.cfg.trans driveOutputs_cfg)

theorem ctxCfg_of_cfg (h : t.cfg = s.cfg) : t.ctxCfg c = s.ctxCfg c := by rw [State.ctxCfg, h, State.ctxCfg]

/-! ### What the processing of a row keeps (R278 to R282) -/

/-- `t` has the channels and the sequence numbers of `s`. -/
structure State.KeepsLines (s t : State) : Prop where
  cfg : t.cfg = s.cfg
  chans : t.isp.chans = s.isp.chans
  lastSeq : ∀ c, (t.ctx c).lastSeq = (s.ctx c).lastSeq

namespace State.KeepsLines

theorem refl : s.KeepsLines s := ⟨rfl, rfl, fun _ => rfl⟩

theorem trans (h : s.KeepsLines t) (k : t.KeepsLines u) : s.KeepsLines u :=
  ⟨k.cfg.trans h.cfg, k.chans.trans h.chans, fun c => (k.lastSeq c).trans (h.lastSeq c)⟩

theorem of_isp (hi : t.isp = s.isp) (hc : t.cfg = s.cfg) : s.KeepsLines t := ⟨hc, by rw [hi], fun _ => by rw [ctx_of_isp hi hc]⟩

theorem of_frame {W : Nat} (h : Frame W s t) (hi : W.testBit Area.isp.num = false) (hc : W.testBit Area.cfg.num = false) :
    s.KeepsLines t := of_isp (h.isp hi) (h.cfg hc)

/-- A context written back with its sequence number. -/
theorem setCtx (h : s.KeepsLines t) (hx : x.lastSeq = (s.ctx c).lastSeq) : s.KeepsLines (t.setCtx c x) := by
  refine ⟨h.cfg, h.chans, fun d => ?_⟩
  by_cases hd : d = c
  · subst hd
    rw [ctx_setCtx, hx]
  · refine Eq.trans ?_ (h.lastSeq d)
    unfold State.ctx State.setCtx tget
    rw [tfind_tput_ne _ _ hd]
    rfl

theorem foldl {α : Type} {g : State → α → State} (hg : ∀ (s : State) (a : α), s.KeepsLines (g s a)) : ∀ (as : List α) (s : State),
    s.KeepsLines (as.foldl g s)
  | [], _ => refl
  | a :: as, s => (hg s a).trans (foldl hg as (g s a))

end State.KeepsLines

theorem withAcc_keepsLines {g : Nat} {h : FrameAcc → FrameAcc} : s.KeepsLines (s.withAcc c g h) :=
  State.KeepsLines.refl.setCtx rfl

theorem capturedAt_keepsLines {i k : Nat} {v : Option Nat} : s.KeepsLines (s.capturedAt c i k v) := ⟨rfl, rfl, fun _ => rfl⟩

theorem putBytes_keepsLines {a : Nat} {bs : List Byte} : s.KeepsLines (s.putBytes a bs) := ⟨rfl, rfl, fun _ => rfl⟩

theorem set_keepsLines {g : Field} {v : Nat} : s.KeepsLines (s.set g v) := ⟨rfl, rfl, fun _ => rfl⟩

theorem sendVerge_kickAll_keepsLines {o n w px k : Nat} {row : List Byte} : s.KeepsLines ((s.sendVerge c o n w px row).kickAll k c) :=
  .of_frame (W := State.sendVerge_mask ||| State.kickAll_mask) (State.kickAll_frame rfl (State.sendVerge_frame rfl (.refl _ s)))
    (by decide) (by decide)

theorem writeRow_keepsLines {i k first : Nat} {o : OutRec} {rows : List Row} : s.KeepsLines (s.writeRow c i o k first rows) := by
  unfold State.writeRow
  extract_lets lost bs flags r0 tag s1 s2 s3 px
  have h2 : s.KeepsLines s2 := putBytes_keepsLines.trans putBytes_keepsLines
  have h3 : s2.KeepsLines s3 := by
    unfold s3
    split
    · exact .refl
    · exact capturedAt_keepsLines
  exact (h2.trans h3).trans sendVerge_kickAll_keepsLines

theorem outputRow_keepsLines {i : Nat} {o : OutRec} {r : Row} : s.KeepsLines (s.outputRow c i o r) := by
  unfold State.outputRow
  extract_lets x area y v inside k box s1
  split
  · exact .refl
  · have h1 : s.KeepsLines s1 := State.KeepsLines.refl.setCtx rfl
    split
    · exact h1.trans writeRow_keepsLines
    · exact h1

theorem drawPixels_keepsLines {n : Nat} : s.KeepsLines (s.drawPixels n).2 :=
  .of_frame (State.drawPixels_snd (Within.refl _) (.refl _ s)) (by decide) (by decide)

theorem finishRow_keepsLines {q : ParamSet} {r : Row} {m : Option (List Nat)} : s.KeepsLines (s.finishRow c q r m) := by
  unfold State.finishRow
  extract_lets area p6 s1 needRaw
  have h1 : s.KeepsLines s1 := withAcc_keepsLines
  split
  next raw s2 hraw =>
    have h2 : s1.KeepsLines s2 := by
      cases m with
      | some m => cases hraw; exact .refl
      | none =>
        dsimp only at hraw
        split at hraw
        · have hs2 : _ = s2 := congrArg Prod.snd hraw
          exact hs2 ▸ drawPixels_keepsLines
        · cases hraw; exact .refl
    exact (h1.trans h2).trans (State.KeepsLines.foldl (fun _ _ => outputRow_keepsLines) _ _)

theorem endFrame_keepsLines {g : Nat} : s.KeepsLines (s.endFrame c g) := by
  unfold State.endFrame
  extract_lets x
  split
  · exact .refl
  next a ha =>
    extract_lets q
    split
    next bs s1 hs =>
      have h1 : s.KeepsLines s1 := .of_frame (State.statsRecord_frame hs (Within.refl _) (.refl _ s)) (by decide) (by decide)
      extract_lets s2 s3
      have h2 : s.KeepsLines s2 := by
        unfold s2
        split
        · exact h1
        · exact h1.trans (putBytes_keepsLines.trans set_keepsLines)
      have h3 : s.KeepsLines s3 := h2.setCtx rfl
      exact h3.trans (.of_frame (State.frameSeen_frame (Within.refl _) (.refl _ _)) (by decide) (by decide))

/-! ### A line enters (R274, R275) -/

/-- Line `q` has entered context `c` with count `n`. -/
structure State.Entered (s t : State) (c n q : Nat) : Prop where
  chans : t.isp.chans = s.isp.chans
  seq : (t.ctx c).lastSeq = some q
  count : t.get (F.ISP_CTX_LINES_count c) = n
  chanLines : ∀ ch, t.get (F.ISP_CHAN_LINES_count ch) = s.get (F.ISP_CHAN_LINES_count ch)

/-- What follows the entry of a line keeps it where it keeps the channels, the sequence numbers and the counts. -/
theorem State.Entered.keeps {n q W : Nat} (h : s.Entered t c n q) (hk : t.KeepsLines u) (hf : Frame W t u)
    (hn : W.testBit 172 = false := by decide) (hc : W.testBit 164 = false := by decide) : s.Entered u c n q :=
  ⟨hk.chans.trans h.chans, (hk.lastSeq c).trans h.seq, (hf.get _ (by rw [F.ISP_CTX_LINES_count_kind]; exact hn)).trans h.count,
    fun ch => (hf.get _ (by rw [F.ISP_CHAN_LINES_count_kind]; exact hc)).trans (h.chanLines ch)⟩

/-- The count of a line by its sequence number (R274). -/
def State.countOf (s : State) (c q seq : Nat) : Nat := (s.get (F.ISP_CTX_LINES_count c) + (seq + 65536 - q) % 65536) % 2 ^ 32

theorem get_linesCount_set {n : Nat} (hn : n < 2 ^ 32) : (s.set (F.ISP_CTX_LINES_count c) n).get (F.ISP_CTX_LINES_count c) = n :=
  (State.get_set (f := F.ISP_CTX_LINES_count c) (by simp [F.ISP_CTX_LINES_count])).trans (Nat.mod_eq_of_lt hn)

theorem lineEnters_entered {q : Nat} (hk : (s.ctxCfg c).kind = 0) (hq : (s.ctx c).lastSeq = some q)
    (hn : linesSince (s.countOf c q l.seq) (s.ctx c).frameAt < (s.ctx c).set.frameLines) :
    s.Entered (s.lineEnters c l) c (s.countOf c q l.seq) l.seq := by
  unfold State.lineEnters
  rw [hk]
  extract_lets kind x n f
  have hx : x.lastSeq = some q := hq
  have hcount : n = s.countOf c q l.seq := by
    unfold n
    rw [hx]
    rfl
  split
  next s1 n1 f1 h1 =>
    have h1 : (s, n, f) = (s1, n1, f1) := by
      rw [hx] at h1
      exact (if_neg (by rw [hcount]; exact Nat.not_le.mpr hn)).symm.trans h1
    cases h1
    extract_lets x1
    split
    next flags lost hflags =>
      extract_lets s2 s3 s4 raw planes r s5 x5 rows s6 s7 s8
      have hf2 : Frame State.lineFault_mask s s2 := State.lineFault_frame (Within.refl _) (.refl _ s)
      have h2 : s.KeepsLines s2 := .of_frame hf2 (by decide) (by decide)
      have h4 : s.KeepsLines s4 := by
        unfold s4
        split
        · exact h2.trans ⟨rfl, rfl, fun _ => rfl⟩
        · exact h2.trans ⟨rfl, rfl, fun _ => rfl⟩
      have hget : ∀ ch, s4.get (F.ISP_CHAN_LINES_count ch) = s.get (F.ISP_CHAN_LINES_count ch) := fun ch => by
        refine Eq.trans ?_ (hf2.get _ (by rw [F.ISP_CHAN_LINES_count_kind]; decide))
        unfold s4
        split <;> rfl
      have h5 : s.KeepsLines s5 := h4.trans withAcc_keepsLines
      have h7 : s.Entered s7 c n l.seq :=
        ⟨h5.chans, (congrArg Ctx.lastSeq ctx_setCtx : (s6.ctx c).lastSeq = some l.seq),
          get_linesCount_set (hcount ▸ Nat.mod_lt _ (by decide)),
          fun ch => (State.get_set_kind (by simp)).trans (hget ch)⟩
      have h8 : s.Entered s8 c n l.seq :=
        h7.keeps finishRow_keepsLines (State.finishRow_frame (Within.refl _) (.refl _ s7))
      have hend : s.Entered (s8.endFrame c f) c n l.seq :=
        h8.keeps endFrame_keepsLines (State.endFrame_frame (Within.refl _) (.refl _ s8))
      rw [if_neg (by decide), ← hcount]
      split
      · split
        · exact hend
        · exact h8
      · exact h8

/-- A line of an area context without an open frame is a fault, except while rows are discarded (R275, R283). -/
theorem areaLine_noFrame (ho : s.get (F.ISP_CTX_STATUS_frame_open c) = 0) (hd : (s.ctx c).discard = false) :
    (s.areaLine c l).isp.chans = s.isp.chans ∧ ((s.areaLine c l).ctx c).lastSeq = some l.seq ∧
      (s.areaLine c l).get (F.ISP_CTX_LINES_count c) = ((s.ctx c).lastSeq.map fun q => s.countOf c q l.seq).getD 0 ∧
      (s.areaLine c l).wrote Code.ISP_LINE_FAULT [c, tfMALFORMED, (s.areaLine c l).get (F.ISP_CTX_LINES_count c)] := by
  have heq : s.areaLine c l = ((((s.setCtx c { s.ctx c with lastSeq := some l.seq }).set (F.ISP_CTX_LINES_count c)
      (((s.ctx c).lastSeq.map fun q => s.countOf c q l.seq).getD 0)).inc (F.ISP_CTX_FAULTS_frames c)).raise Code.ISP_LINE_FAULT
        [c, tfMALFORMED, ((s.ctx c).lastSeq.map fun q => s.countOf c q l.seq).getD 0]) := by
    unfold State.areaLine
    extract_lets x n u f q y
    have hn : n = ((s.ctx c).lastSeq.map fun q => s.countOf c q l.seq).getD 0 := by
      unfold n x
      cases (s.ctx c).lastSeq <;> rfl
    have hou : u.on (F.ISP_CTX_STATUS_frame_open c) = false := by
      have : u.get (F.ISP_CTX_STATUS_frame_open c) = 0 := (State.get_set_kind (by simp)).trans ho
      rw [State.on, this]
      rfl
    rw [if_pos (by simp [hou]), if_neg (by simp [x, hd]), ← hn]
  have hlt : ((s.ctx c).lastSeq.map fun q => s.countOf c q l.seq).getD 0 < 2 ^ 32 := by
    cases (s.ctx c).lastSeq
    · exact Nat.two_pow_pos 32
    · exact Nat.mod_lt _ (by decide)
  have hlines : (s.areaLine c l).get (F.ISP_CTX_LINES_count c) = ((s.ctx c).lastSeq.map fun q => s.countOf c q l.seq).getD 0 := by
    rw [heq, get_raise (by simp; decide), State.inc_def, State.get_set_kind (by simp), get_linesCount_set hlt]
  have hisp : (s.areaLine c l).isp = (s.setCtx c { s.ctx c with lastSeq := some l.seq }).isp := by
    rw [heq, raise_isp, State.inc_def, set_isp, set_isp]
  have hcfg : (s.areaLine c l).cfg = s.cfg := by
    rw [heq, raise_cfg, State.inc_def, set_cfg, set_cfg]
    rfl
  refine ⟨by rw [hisp]; rfl, ?_, hlines, ?_⟩
  · rw [ctx_of_isp hisp hcfg, ctx_setCtx]
  · rw [hlines, heq]
    exact raise_wrote

/-- The only line `l` that waits in channel `ch` leaves its queue. -/
def State.lineLeaves (s : State) (ch : Nat) (l : LineIn) : State :=
  let s := ((s.setIspChan ch { s.ispChan ch with queue := [] }).showLayby ch).inc (F.ISP_CHAN_LINES_count ch)
  if l.waited then
    s.set (F.ISP_GOLDEN_WAIT_ns ch) (min 65535 (max (s.get (F.ISP_GOLDEN_WAIT_ns ch)) (5 * (s.clk.now - l.at_))))
  else s

/-- The registers of the channel that the leaving of a line writes. -/
theorem get_lineLeaves {g : Field} (hb : regKind g.key ≠ 159) (hp : regKind g.key ≠ 160) (hc : regKind g.key ≠ 164)
    (hw : regKind g.key ≠ 163) : (s.lineLeaves ch l).get g = s.get g := by
  unfold State.lineLeaves
  extract_lets y u
  have hu : u.get g = s.get g := by
    change (State.inc _ _).get _ = _
    rw [State.inc_def, State.get_set_kind (by simpa using hc), State.showLayby]
    rw [State.get_set_kind (by simpa using hp), State.get_set_kind (by simpa using hb)]
    rfl
  split
  · rw [State.get_set_kind (by simpa using hw), hu]
  · exact hu

theorem lineLeaves_chanLines : (s.lineLeaves ch l).get (F.ISP_CHAN_LINES_count ch) =
    min (s.get (F.ISP_CHAN_LINES_count ch) + 1) (2 ^ 32 - 1) := by
  unfold State.lineLeaves
  extract_lets y u
  have hu : u.get (F.ISP_CHAN_LINES_count ch) = min (s.get (F.ISP_CHAN_LINES_count ch) + 1) (2 ^ 32 - 1) := by
    change (State.inc _ _).get _ = _
    rw [get_inc (by simp [F.ISP_CHAN_LINES_count]), State.showLayby]
    rw [State.get_set_kind (by simp), State.get_set_kind (by simp)]
    rfl
  split
  · rw [State.get_set_kind (by simp), hu]
  · exact hu

theorem lineLeaves_isp : (s.lineLeaves ch l).isp = (s.setIspChan ch { s.ispChan ch with queue := [] }).isp := by
  unfold State.lineLeaves
  split <;> simp only [State.inc_def, set_isp, State.showLayby]

theorem lineLeaves_cfg : (s.lineLeaves ch l).cfg = s.cfg := by
  unfold State.lineLeaves
  split <;> simp only [State.inc_def, set_cfg, State.showLayby] <;> rfl

theorem lineLeaves_ctx : (s.lineLeaves ch l).ctx c = s.ctx c := by
  rw [State.ctx, lineLeaves_isp, ctxCfg_of_cfg lineLeaves_cfg]
  rfl

theorem lineLeaves_queue : ((s.lineLeaves ch l).ispChan ch).queue = [] := by
  rw [ispChan_of_isp lineLeaves_isp, ispChan_setIspChan]

theorem exec_lineEntersChannel {ch : Fin 16} : exec (.lineEntersChannel ch) s = execLineEntersChannel ch s := rfl

/-- The one line of a channel without a golden slot enters its context. -/
theorem lineEntersChannel_one {ch : Fin 16} {P : State → Prop} (hp : s.powered = true) (hg : (s.ispChan ch).golden = none)
    (hq : (s.ispChan ch).queue = [.line l])
    (hP : ∀ t, t.Same (if (s.ctxCfg l.ctx).kind = 2 then (s.lineLeaves ch l).areaLine l.ctx l
      else (s.lineLeaves ch l).lineEnters l.ctx l).driveOutputs → P t) : ∃ t, exec (.lineEntersChannel ch) s = .next t ∧ P t := by
  rw [exec_lineEntersChannel, execLineEntersChannel]
  refine run_answers_of_effect hp ?_ hP
  have hcfg := ctxCfg_of_cfg (c := l.ctx) (lineLeaves_cfg (s := s) (ch := ch) (l := l))
  extract_lets q
  rw [if_neg (by simp [q, hg])]
  have hqueue : q.queue = [.line l] := hq
  rw [hqueue, ← hcfg]
  rfl

section Enters
variable {ch : Fin 16} (hp : s.powered = true) (hg : (s.ispChan ch).golden = none) (hq : (s.ispChan ch).queue = [.line l])
include hp hg hq

theorem lineEnters_counts {q : Nat} (hk : (s.ctxCfg l.ctx).kind = 0) (hs : (s.ctx l.ctx).lastSeq = some q)
    (hn : linesSince (s.countOf l.ctx q l.seq) (s.ctx l.ctx).frameAt < (s.ctx l.ctx).set.frameLines) :
    ∃ t, exec (.lineEntersChannel ch) s = .next t ∧ (t.ispChan ch).queue = [] ∧ (t.ctx l.ctx).lastSeq = some l.seq ∧
      t.get (F.ISP_CTX_LINES_count l.ctx) = s.countOf l.ctx q l.seq ∧
      t.get (F.ISP_CHAN_LINES_count ch) = min (s.get (F.ISP_CHAN_LINES_count ch) + 1) (2 ^ 32 - 1) := by
  refine lineEntersChannel_one hp hg hq fun t ht => ?_
  rw [if_neg (by simp [hk])] at ht
  have hcount : (s.lineLeaves ch l).countOf l.ctx q l.seq = s.countOf l.ctx q l.seq := by
    rw [State.countOf, get_lineLeaves (by simp) (by simp) (by simp) (by simp), State.countOf]
  obtain ⟨hchans, hseq, hlines, hchan⟩ := lineEnters_entered (s := s.lineLeaves ch l) (l := l) (c := l.ctx) (q := q)
    (by rw [ctxCfg_of_cfg lineLeaves_cfg, hk]) (by rw [lineLeaves_ctx, hs]) (by rw [lineLeaves_ctx, hcount]; exact hn)
  rw [ht.cfg_isp_ctx, State.ispChan, ht.isp_driven, ht.get_driven (by simp; decide), ht.get_driven (by simp; decide), hchans, hchan, hlines, hcount,
    lineLeaves_chanLines]
  exact ⟨lineLeaves_queue, hseq, rfl, rfl⟩

theorem areaLine_faults (hk : (s.ctxCfg l.ctx).kind = 2) (ho : s.get (F.ISP_CTX_STATUS_frame_open l.ctx) = 0)
    (hd : (s.ctx l.ctx).discard = false) : ∃ t, exec (.lineEntersChannel ch) s = .next t ∧ (t.ispChan ch).queue = [] ∧
      (t.ctx l.ctx).lastSeq = some l.seq ∧
      t.get (F.ISP_CTX_LINES_count l.ctx) = ((s.ctx l.ctx).lastSeq.map fun q => s.countOf l.ctx q l.seq).getD 0 ∧
      t.wrote Code.ISP_LINE_FAULT [l.ctx, tfMALFORMED, t.get (F.ISP_CTX_LINES_count l.ctx)] := by
  have hcfg := ctxCfg_of_cfg (c := l.ctx) (lineLeaves_cfg (s := s) (ch := ch) (l := l))
  refine lineEntersChannel_one hp hg hq fun t ht => ?_
  rw [if_pos hk] at ht
  obtain ⟨hchans, hseq, hlines, hw⟩ := areaLine_noFrame (s := s.lineLeaves ch l) (l := l) (c := l.ctx)
    (by rw [get_lineLeaves (by simp) (by simp) (by simp) (by simp), ho]) (by rw [lineLeaves_ctx, hd])
  have hcount : ((s.lineLeaves ch l).areaLine l.ctx l).get (F.ISP_CTX_LINES_count l.ctx) =
      ((s.ctx l.ctx).lastSeq.map fun q => s.countOf l.ctx q l.seq).getD 0 := by
    rw [hlines, lineLeaves_ctx]
    congr 2
    funext q
    rw [State.countOf, get_lineLeaves (by simp) (by simp) (by simp) (by simp), State.countOf]
  rw [ht.cfg_isp_ctx, State.ispChan, ht.isp_driven, ht.get_driven (by simp; decide), hchans]
  exact ⟨lineLeaves_queue, hseq, hcount, ht.wrote_driven hw⟩

end Enters

theorem lineEntersChannel_idle {ch : Fin 16} (hp : s.powered = true)
    (h : (s.ispChan ch).golden ≠ none ∨ (s.ispChan ch).queue = []) :
    ∃ t, exec (.lineEntersChannel ch) s = .next t ∧ t.isp = s.isp ∧ t.mem = s.mem := by
  rw [exec_lineEntersChannel, execLineEntersChannel]
  refine run_answers_of_effect (u := s) hp ?_ fun t ht => ⟨ht.isp_driven, ht.mem_driven⟩
  extract_lets q
  split
  · rfl
  next hg =>
    have hqueue : q.queue = [] := h.resolve_left fun h => hg (Option.isSome_iff_ne_none.mpr h)
    rw [hqueue]
    rfl

/-! ### Frame marks (R275) -/

section FrameMark
variable {n : LaneId} {p : Packet} (hp : s.powered = true) (hg : s.goodPacket n 4 p) (hs : s.streamState n p.stream ≠ stRESEND)
  (hl : (s.streamAt n p.stream).line = none) (hc : s.laneCtx n p.stream = some c) (hch : ch = (s.laneCfg n).channel)

theorem exec_frameMark : exec (.frameMark n p) s = execFrameMark n p s := rfl

/-- The mark of packet `p`, for context `c`. -/
def State.markOf (s : State) (c : Nat) (p : Packet) : LayItem :=
  .mark c (recField p.payload 0 4) (recField p.payload 4 1 == 1) s.localNs

/-- The mark joins the queue of its channel. -/
def State.marked (s : State) (ch c : Nat) (p : Packet) : State :=
  s.setIspChan ch { s.ispChan ch with queue := (s.ispChan ch).queue ++ [s.markOf c p] }

include hp hg hs hl hc hch

/-- A frame mark outside a line joins its channel, and takes effect where no golden slot is open. -/
theorem frameMark_answers {P : State → Prop}
    (hP : ∀ t, t.Same (if (s.ispChan ch).golden.isNone then (s.marked ch c p).drainMarks ch ((s.ispChan ch).queue.length + 1)
      else s.marked ch c p).driveOutputs → P t) : ∃ t, exec (.frameMark n p) s = .next t ∧ P t := by
  rw [exec_frameMark, execFrameMark]
  refine run_answers_of_effect hp ?_ hP
  rw [packet_good hg, if_neg (by simpa using hs)]
  have hmark : s.handMark n p.stream (recField p.payload 0 4) (recField p.payload 4 1 == 1) = s.marked ch c p := by
    unfold State.handMark
    rw [hc, hch]
    rfl
  dsimp only
  rw [hmark, ← hch, hl]
  have hchan : (s.marked ch c p).ispChan ch = { s.ispChan ch with queue := (s.ispChan ch).queue ++ [s.markOf c p] } :=
    ispChan_setIspChan
  rw [hchan]
  rw [List.length_append]
  rfl

theorem frameMark_waits {g : Nat} (hgold : (s.ispChan ch).golden = some g) : ∃ t, exec (.frameMark n p) s = .next t ∧
    (t.ispChan ch).queue = (s.ispChan ch).queue ++ [s.markOf c p] := by
  refine frameMark_answers hp hg hs hl hc hch fun t ht => ?_
  rw [if_neg (by simp [hgold])] at ht
  rw [ispChan_of_isp ht.isp_driven, State.marked, ispChan_setIspChan]

end FrameMark

/-- A mark that opens a frame leaves it open, with its number and no row. -/
theorem markEnters_opens {g a : Nat} (hk : (s.ctxCfg c).kind = 2) (ho : s.get (F.ISP_CTX_STATUS_frame_open c) = 0) (hg : g < 2 ^ 32) :
    (s.markEnters c g true a).get (F.ISP_CTX_STATUS_frame_open c) = 1 ∧ (s.markEnters c g true a).get (F.ISP_CTX_FRAME_number c) = g ∧
      ((s.markEnters c g true a).ctx c).lastFrame = some g ∧ ((s.markEnters c g true a).ctx c).rows = [] := by
  have hon : s.on (F.ISP_CTX_STATUS_frame_open c) = false := by rw [State.on, ho]; rfl
  unfold State.markEnters
  rw [if_neg (by simp [hk])]
  extract_lets isOpen s1 s2 x jump s3
  rw [if_pos rfl]
  rw [ctx_set, ctx_set, ctx_setCtx]
  refine ⟨?_, ?_, rfl, rfl⟩
  · rw [State.get_set_kind (by simp), State.get_set (by simp [F.ISP_CTX_STATUS_frame_open])]
    rfl
  · exact (State.get_set (by simp [F.ISP_CTX_FRAME_number])).trans (Nat.mod_eq_of_lt hg)

/-- The mark that is alone in its channel is let in. -/
theorem drainMarks_one {g a : Nat} {o : Bool} (hq : (s.ispChan ch).queue = [.mark c g o a]) :
    s.drainMarks ch 1 = (s.setIspChan ch { s.ispChan ch with queue := [] }).markEnters c g o a := by
  unfold State.drainMarks
  extract_lets q
  have hq : q.queue = [.mark c g o a] := hq
  rw [hq]
  rfl

theorem frameMark_opens {n : LaneId} {p : Packet} (hp : s.powered = true) (hg : s.goodPacket n 4 p)
    (hs : s.streamState n p.stream ≠ stRESEND) (hl : (s.streamAt n p.stream).line = none) (hc : s.laneCtx n p.stream = some c)
    (hch : ch = (s.laneCfg n).channel) (hgold : (s.ispChan ch).golden = none) (hq : (s.ispChan ch).queue = [])
    (hk : (s.ctxCfg c).kind = 2) (hw : recField p.payload 4 1 = 1) (ho : s.get (F.ISP_CTX_STATUS_frame_open c) = 0) :
    ∃ t, exec (.frameMark n p) s = .next t ∧ t.get (F.ISP_CTX_STATUS_frame_open c) = 1 ∧
      t.get (F.ISP_CTX_FRAME_number c) = recField p.payload 0 4 ∧ (t.ctx c).lastFrame = some (recField p.payload 0 4) ∧
      (t.ctx c).rows = [] := by
  refine frameMark_answers hp hg hs hl hc hch fun t ht => ?_
  have hqueue : ((s.marked ch c p).ispChan ch).queue = [.mark c (recField p.payload 0 4) true s.localNs] := by
    rw [State.marked, ispChan_setIspChan, hq, State.markOf, hw]
    rfl
  rw [if_pos (by simp [hgold]), hq, List.length_nil, drainMarks_one hqueue] at ht
  obtain ⟨hopen, hnum, hlast, hrows⟩ := markEnters_opens
    (s := (s.marked ch c p).setIspChan ch { (s.marked ch c p).ispChan ch with queue := [] }) (c := c) (a := s.localNs) hk ho
    (recField_lt (n := 4))
  rw [ht.cfg_isp_ctx, ht.get_driven (by simp; decide), ht.get_driven (by simp; decide)]
  exact ⟨hopen, hnum, hlast, hrows⟩

/-! ### FRAME_TIMEOUT (R283) -/

theorem exec_frameTimeout {c : CtxId} : exec (.frameTimeout c) s = execFrameTimeout c s := rfl

/-- The frame that closes leaves no row and is not open. -/
theorem closeArea_closes {fl a : Nat} : ((s.closeArea c fl a).ctx c).rows = [] ∧
    (s.closeArea c fl a).get (F.ISP_CTX_STATUS_frame_open c) = 0 := by
  unfold State.closeArea
  extract_lets g x h got fl' s1 s2 s3 s4 s5 s6 y s7 s8
  have h6 : s6.get (F.ISP_CTX_STATUS_frame_open c) = 0 := State.get_set (by simp [F.ISP_CTX_STATUS_frame_open])
  have hf : Frame State.releaseEvents_mask s7 s8 := State.releaseEvents_frame (Within.refl _) (.refl _ s7)
  have h8 : (s8.ctx c).rows = [] ∧ s8.get (F.ISP_CTX_STATUS_frame_open c) = 0 := by
    rw [ctx_of_isp (hf.isp rfl) (hf.cfg rfl), hf.get _ (by rw [F.ISP_CTX_STATUS_frame_open_kind]; decide)]
    have h7 : s7.get (F.ISP_CTX_STATUS_frame_open c) = 0 := h6
    have hx : s7.ctx c = _ := ctx_setCtx (s := s6)
    rw [hx, h7]
    exact ⟨rfl, rfl⟩
  split
  · rw [ctx_of_isp (s := s8) (by rw [raise_isp, State.inc_def, set_isp]) (by rw [raise_cfg, State.inc_def, set_cfg]),
      get_raise (by simp; decide), State.inc_def, State.get_set_kind (by simp)]
    exact h8
  · exact h8

theorem frameTimeout_closes {c : CtxId} (hp : s.powered = true) (hk : (s.ctxCfg c).kind = 2)
    (ho : s.get (F.ISP_CTX_STATUS_frame_open c) = 1) : ∃ t, exec (.frameTimeout c) s = .next t ∧
      t.get (F.ISP_CTX_STATUS_frame_open c) = 0 ∧ (t.ctx c).discard = true ∧ (t.ctx c).rows = [] := by
  obtain ⟨hrows, hopen⟩ := closeArea_closes (s := s) (c := c) (fl := ffLATE) (a := s.localNs)
  rw [exec_frameTimeout, execFrameTimeout]
  refine run_answers_of_effect hp (if_pos (by simp [hk, State.on, ho])) fun t ht => ?_
  rw [ht.cfg_isp_ctx, ctx_setCtx, ht.get_driven (by simp; decide)]
  exact ⟨hopen, rfl, hrows⟩

theorem frameTimeout_leaves {c : CtxId} (hp : s.powered = true)
    (h : (s.ctxCfg c).kind ≠ 2 ∨ s.get (F.ISP_CTX_STATUS_frame_open c) = 0) :
    ∃ t, exec (.frameTimeout c) s = .next t ∧ t.isp = s.isp ∧ t.mem = s.mem := by
  rw [exec_frameTimeout, execFrameTimeout]
  refine run_answers_of_effect (u := s) hp (if_neg ?_) fun t ht => ⟨ht.isp_driven, ht.mem_driven⟩
  rcases h with h | h <;> simp [h, State.on]

/-! ### Parameter sets (R276, R287) -/

section Commands
variable {i : Port} {c : CtxId} (hp : s.powered = true)

theorem ispCmd_acts (hr : s.privileged i = true ∨ s.owns i (s.ctxCfg c).part = true) (hd : (s.ctxCfg c).defined = true) :
    s.ispCmd i c f = f s := by
  unfold State.ispCmd
  rw [if_neg (by rcases hr with h | h <;> simp [h]), if_neg (by simp [hd])]

theorem ispCmd_refused (hr : s.privileged i = false) (ho : s.owns i (s.ctxCfg c).part = false) :
    s.ispCmd i c f = s.raise Code.ISP_ROLE [i, ispCmdOff c] := if_pos (by simp [hr, ho])

theorem get_shadow_set {v : Nat} (hv : v < 4) : (s.set (F.ISP_CTX_STATUS_shadow c) v).get (F.ISP_CTX_STATUS_shadow c) = v :=
  (State.get_set (f := F.ISP_CTX_STATUS_shadow c) (by simp [F.ISP_CTX_STATUS_shadow])).trans (Nat.mod_eq_of_lt hv)

/-- The result of a command reads back; every register of another kind is as before. -/
theorem get_ispResult {i c code reason : Nat} {g : Field} (h : regKind g.key ≠ 175) : (s.ispResult i c code reason).get g = s.get g := by
  rw [State.ispResult, State.get_set_kind (by simpa using h), State.get_set_kind (by simpa using h)]

theorem ispResult_code {i c code reason : Nat} (h : code < 2 ^ 16) :
    (s.ispResult i c code reason).get (F.ISP_CTX_RESULT_code i c) = code := by
  rw [State.ispResult, State.get_set_field (f := F.ISP_CTX_RESULT_code i c) (g := F.ISP_CTX_RESULT_reason i c) rfl
    (.inl (by simp [F.ISP_CTX_RESULT_code, F.ISP_CTX_RESULT_reason]))
    (by simp [F.ISP_CTX_RESULT_code]), State.get_set (by simp [F.ISP_CTX_RESULT_code])]
  exact Nat.mod_eq_of_lt h

theorem ispResult_reason {i c code reason : Nat} (h : reason < 2 ^ 8) :
    (s.ispResult i c code reason).get (F.ISP_CTX_RESULT_reason i c) = reason :=
  (State.get_set (by simp [F.ISP_CTX_RESULT_reason])).trans (Nat.mod_eq_of_lt h)

theorem ispRefuse_wrote {i c reason off : Nat} : (s.ispRefuse i c reason off).wrote Code.ISP_PARAM_REFUSED [c, reason, off] :=
  wrote_of_recorder (by rw [State.ispRefuse, State.ispResult, set_recorder, set_recorder]) raise_wrote

theorem ispRefuse_isp {i c reason off : Nat} : (s.ispRefuse i c reason off).isp = s.isp := by
  rw [State.ispRefuse, State.ispResult, set_isp, set_isp, raise_isp]

theorem ispRefuse_cfg {i c reason off : Nat} : (s.ispRefuse i c reason off).cfg = s.cfg := by
  rw [State.ispRefuse, State.ispResult, set_cfg, set_cfg, raise_cfg]

theorem get_ispRefuse {i c reason off : Nat} {g : Field} (h : regKind g.key ≠ 175)
    (hr : State.raise_mask.testBit (regKind g.key) = false) : (s.ispRefuse i c reason off).get g = s.get g := by
  rw [State.ispRefuse, get_ispResult h, get_raise hr]

theorem get_shadow_refused {i c reason off : Nat} {c' : Nat} :
    (s.ispRefuse i c reason off).get (F.ISP_CTX_STATUS_shadow c') = s.get (F.ISP_CTX_STATUS_shadow c') :=
  get_ispRefuse (by simp) (by simp; decide)

theorem get_showWork {g : Field} (h : regKind g.key ≠ 157) : s.showWork.get g = s.get g := State.get_set_kind (by simpa using h)

theorem ctx_setCtx_shown {i c c' code reason : Nat} : ((s.setCtx c x).showWork.ispResult i c' code reason).ctx c = x := by
  rw [State.ispResult, ctx_set, ctx_set, State.showWork, ctx_set, ctx_setCtx]

theorem State.Same.shadow_driven (h : t.Same u.driveOutputs) :
    t.get (F.ISP_CTX_STATUS_shadow c) = u.get (F.ISP_CTX_STATUS_shadow c) := h.get_driven (by simp; decide)

theorem State.Same.ispCode_driven (h : t.Same u.driveOutputs) :
    t.get (F.ISP_CTX_RESULT_code i c) = u.get (F.ISP_CTX_RESULT_code i c) := h.get_driven (by simp; decide)

theorem State.Same.ispReason_driven (h : t.Same u.driveOutputs) :
    t.get (F.ISP_CTX_RESULT_reason i c) = u.get (F.ISP_CTX_RESULT_reason i c) := h.get_driven (by simp; decide)

theorem exec_paramLoad : exec (.paramLoad i c) s = execParamLoad i c s := rfl
theorem exec_paramLoadDone {bs : List Byte} : exec (.paramLoadDone c bs) s = execParamLoadDone c bs s := rfl
theorem exec_paramCommit : exec (.paramCommit i c) s = execParamCommit i c s := rfl
theorem exec_paramDiscard : exec (.paramDiscard i c) s = execParamDiscard i c s := rfl
theorem exec_contextRestart : exec (.contextRestart i c) s = execContextRestart i c s := rfl

include hp

/-- A refused command of the ISP block writes its reason, shows it to its port and changes no context. -/
theorem ispRefuse_answers {r : Nat} (hr : r < 2 ^ 8) (he : f s = s.ispRefuse i c r 0) : ∃ t, s.run f = .next t ∧ t.isp = s.isp ∧
    t.get (F.ISP_CTX_STATUS_shadow c) = s.get (F.ISP_CTX_STATUS_shadow c) ∧
    t.get (F.ISP_CTX_RESULT_code i c) = Code.ISP_PARAM_REFUSED ∧ t.get (F.ISP_CTX_RESULT_reason i c) = r ∧
    t.wrote Code.ISP_PARAM_REFUSED [c, r, 0] := by
  refine run_answers_of_effect hp he fun t ht => ?_
  rw [ht.isp_driven, ht.shadow_driven, ht.ispCode_driven, ht.ispReason_driven, ispRefuse_isp, get_shadow_refused]
  exact ⟨rfl, rfl, ispResult_code (by decide), ispResult_reason hr, ht.wrote_driven ispRefuse_wrote⟩

theorem ispCmd_role (hr : s.privileged i = false) (ho : s.owns i (s.ctxCfg c).part = false) :
    ∃ t, s.run (fun s => s.ispCmd i c f) = .next t ∧ t.isp = s.isp ∧
      t.get (F.ISP_CTX_STATUS_shadow c) = s.get (F.ISP_CTX_STATUS_shadow c) ∧ t.wrote Code.ISP_ROLE [i, ispCmdOff c] :=
  run_answers_of_effect hp (ispCmd_refused hr ho) fun t ht =>
    ⟨ht.isp_driven.trans raise_isp, ht.shadow_driven.trans (get_raise (by simp; decide)), ht.wrote_driven raise_wrote⟩

section Allowed
variable (hr : s.privileged i = true ∨ s.owns i (s.ctxCfg c).part = true) (hd : (s.ctxCfg c).defined = true)
include hr hd

theorem paramLoad_starts (hc : s.get (F.ISP_CTX_STATUS_shadow c) ≠ shCOMMITTED) (hl : s.get (F.ISP_CTX_STATUS_shadow c) ≠ shLOADING) :
    ∃ t, exec (.paramLoad i c) s = .next t ∧ t.get (F.ISP_CTX_STATUS_shadow c) = shLOADING ∧ (t.ctx c).loadPort = i.val ∧
      (t.ctx c).shadow = none ∧ (t.ctx c).set = (s.ctx c).set ∧ t.get (F.ISP_CTX_RESULT_code i c) = 0 := by
  rw [exec_paramLoad, execParamLoad]
  refine run_answers_of_effect hp (u := ((s.set (F.ISP_CTX_STATUS_shadow c) shLOADING).setCtx c
    { s.ctx c with shadow := none, loadPort := i }).showWork.ispResult i c 0 0)
    ((ispCmd_acts hr hd).trans (if_neg (by simp [hc, hl]))) fun t ht => ?_
  rw [ht.cfg_isp_ctx, ht.shadow_driven, ht.ispCode_driven, ispResult_code (by decide), get_ispResult (by simp),
    get_showWork (by simp), ctx_setCtx_shown]
  exact ⟨get_shadow_set (by decide), rfl, rfl, rfl, rfl⟩

theorem paramLoad_busy (hb : s.get (F.ISP_CTX_STATUS_shadow c) = shCOMMITTED ∨ s.get (F.ISP_CTX_STATUS_shadow c) = shLOADING) :
    ∃ t, exec (.paramLoad i c) s = .next t ∧ t.isp = s.isp ∧
      t.get (F.ISP_CTX_STATUS_shadow c) = s.get (F.ISP_CTX_STATUS_shadow c) ∧
      t.get (F.ISP_CTX_RESULT_code i c) = Code.ISP_PARAM_REFUSED ∧ t.get (F.ISP_CTX_RESULT_reason i c) = ispBUSY ∧
      t.wrote Code.ISP_PARAM_REFUSED [c, ispBUSY, 0] := by
  rw [exec_paramLoad, execParamLoad]
  refine ispRefuse_answers hp (r := ispBUSY) (by decide) ?_
  rw [ispCmd_acts hr hd]
  exact if_pos (by rcases hb with h | h <;> simp [h])

theorem paramCommit_commits (hs : s.get (F.ISP_CTX_STATUS_shadow c) = shLOADED) : ∃ t, exec (.paramCommit i c) s = .next t ∧
    t.get (F.ISP_CTX_STATUS_shadow c) = shCOMMITTED ∧ t.isp = s.isp ∧ t.get (F.ISP_CTX_RESULT_code i c) = 0 := by
  rw [exec_paramCommit, execParamCommit]
  refine run_answers_of_effect hp (u := (s.set (F.ISP_CTX_STATUS_shadow c) shCOMMITTED).ispResult i c 0 0)
    ((ispCmd_acts hr hd).trans (if_pos (by simp [hs]))) fun t ht => ?_
  rw [ht.isp_driven, ht.shadow_driven, ht.ispCode_driven, ispResult_code (by decide), get_ispResult (by simp), State.ispResult,
    set_isp, set_isp, set_isp]
  exact ⟨get_shadow_set (by decide), rfl, rfl⟩

theorem paramCommit_leaves (hs : s.get (F.ISP_CTX_STATUS_shadow c) ≠ shLOADED) : ∃ t, exec (.paramCommit i c) s = .next t ∧
    t.get (F.ISP_CTX_STATUS_shadow c) = s.get (F.ISP_CTX_STATUS_shadow c) ∧ t.isp = s.isp := by
  rw [exec_paramCommit, execParamCommit]
  exact run_answers_of_effect hp ((ispCmd_acts hr hd).trans (if_neg (by simp [hs]))) fun t ht => ⟨ht.shadow_driven, ht.isp_driven⟩

theorem paramDiscard_empties (hs : s.get (F.ISP_CTX_STATUS_shadow c) = shLOADED ∨ s.get (F.ISP_CTX_STATUS_shadow c) = shCOMMITTED) :
    ∃ t, exec (.paramDiscard i c) s = .next t ∧ t.get (F.ISP_CTX_STATUS_shadow c) = shEMPTY ∧ (t.ctx c).shadow = none ∧
      (t.ctx c).set = (s.ctx c).set ∧ t.get (F.ISP_CTX_RESULT_code i c) = 0 := by
  rw [exec_paramDiscard, execParamDiscard]
  refine run_answers_of_effect hp (u := ((s.set (F.ISP_CTX_STATUS_shadow c) shEMPTY).setCtx c
    { s.ctx c with shadow := none }).showWork.ispResult i c 0 0)
    ((ispCmd_acts hr hd).trans (if_pos (by rcases hs with h | h <;> simp [h]))) fun t ht => ?_
  rw [ht.cfg_isp_ctx, ht.shadow_driven, ht.ispCode_driven, ispResult_code (by decide), get_ispResult (by simp),
    get_showWork (by simp), ctx_setCtx_shown]
  exact ⟨get_shadow_set (by decide), rfl, rfl, rfl⟩

theorem contextRestart_pends (hu : s.get F.PACE_STATUS_upkeep_mode = upkeepLIVE ∨ s.get F.PACE_STATUS_upkeep_mode = upkeepBOTH) :
    ∃ t, exec (.contextRestart i c) s = .next t ∧ t.get (F.ISP_CTX_STATUS_restart_pending c) = 1 ∧ (t.ctx c).restart = some i.val ∧
      t.get (F.ISP_CTX_RESULT_code i c) = 0 := by
  have hlive : ¬ (s.get F.PACE_STATUS_upkeep_mode != upkeepLIVE && s.get F.PACE_STATUS_upkeep_mode != upkeepBOTH) = true := by
    rcases hu with h | h <;> rw [h] <;> decide
  rw [exec_contextRestart, execContextRestart]
  refine run_answers_of_effect hp (u := ((s.setCtx c { s.ctx c with restart := some i.val }).set
    (F.ISP_CTX_STATUS_restart_pending c) 1).ispResult i c 0 0)
    ((ispCmd_acts hr hd).trans (if_neg hlive)) fun t ht => ?_
  rw [ht.cfg_isp_ctx, ht.ispCode_driven, ispResult_code (by decide), ht.get_driven (by simp; decide), get_ispResult (by simp),
    State.ispResult, ctx_set, ctx_set, ctx_set, ctx_setCtx]
  exact ⟨State.get_set (by simp [F.ISP_CTX_STATUS_restart_pending]), rfl, rfl⟩

theorem contextRestart_refused (hl : s.get F.PACE_STATUS_upkeep_mode ≠ upkeepLIVE) (hb : s.get F.PACE_STATUS_upkeep_mode ≠ upkeepBOTH) :
    ∃ t, exec (.contextRestart i c) s = .next t ∧ t.isp = s.isp ∧
      t.get (F.ISP_CTX_RESULT_code i c) = Code.ISP_PARAM_REFUSED ∧ t.get (F.ISP_CTX_RESULT_reason i c) = ispAGE ∧
      t.wrote Code.ISP_PARAM_REFUSED [c, ispAGE, 0] := by
  rw [exec_contextRestart, execContextRestart]
  obtain ⟨t, ht, hi, -, h⟩ := ispRefuse_answers (c := c) (i := i) (f := fun s => s.ispCmd i c fun s =>
    if s.get F.PACE_STATUS_upkeep_mode != upkeepLIVE && s.get F.PACE_STATUS_upkeep_mode != upkeepBOTH then s.ispRefuse i c ispAGE 0
    else ((s.setCtx c { s.ctx c with restart := some i }).set (F.ISP_CTX_STATUS_restart_pending c) 1).ispResult i c 0 0)
    hp (r := ispAGE) (by decide) ((ispCmd_acts hr hd).trans (if_pos (by simp [hl, hb])))
  exact ⟨t, ht, hi, h⟩

end Allowed

/-! PARAM_LOAD_DONE -/

section LoadDone
variable {bs : List Byte} {q : ParamSet} {r o : Nat} (hs : s.get (F.ISP_CTX_STATUS_shadow c) = shLOADING)
  (hh : s.get (F.ISP_CTX_LEN_hbm c) = 0) (ha : s.get64 (F.ISP_CTX_SRC_LO_addr c) (F.ISP_CTX_SRC_HI_addr c) % 64 = 0)

/-- What the read of the set of context `c` gives, of the bytes of host memory. -/
def State.setRead (s : State) (c : CtxId) (bs : List Byte) : ParamSet ⊕ (Nat × Nat) :=
  readSet bs (s.get (F.ISP_CTX_LEN_bytes c)) (s.ctxCfg c).kind (s.ctxPages c)
    (((tfind s.cfg.partTables (s.ctxCfg c).part).map (fun t => t.presets)).getD [])

/-- The shadow bank is emptied with the reason why. -/
def State.loadFailed (s : State) (c : CtxId) (r o : Nat) : State :=
  (s.set (F.ISP_CTX_STATUS_shadow c) shEMPTY).ispRefuse (s.ctx c).loadPort c r o

/-- The good set `q` stands in the shadow bank. -/
def State.loadedSet (s : State) (c : CtxId) (q : ParamSet) : State :=
  ((((s.setCtx c { s.ctx c with shadow := some q }).set (F.ISP_CTX_STATUS_shadow c) shLOADED).showWork).ispResult
    (s.ctx c).loadPort c 0 0).raise Code.ISP_PARAM_LOADED [c, (s.ctx c).loadPort, q.digest.toNat % 2 ^ 32]

/-- How the load ends, as the read of its set does. -/
def State.loadEnds (s : State) (c : CtxId) : ParamSet ⊕ (Nat × Nat) → State
  | .inr (r, o) => s.loadFailed c r o
  | .inl q => if (s.setCtx c { s.ctx c with shadow := some q }).workKib > 32768 then s.loadFailed c ispSPACE 0 else s.loadedSet c q

omit hp in
theorem loadEnds_fits (h : (s.setCtx c { s.ctx c with shadow := some q }).workKib ≤ 32768) :
    s.loadEnds c (.inl q) = s.loadedSet c q := if_neg (Nat.not_lt.mpr h)

omit hp in
theorem loadEnds_tooBig (h : ¬ (s.setCtx c { s.ctx c with shadow := some q }).workKib ≤ 32768) :
    s.loadEnds c (.inl q) = s.loadFailed c ispSPACE 0 := if_pos (Nat.not_le.mp h)

include hs hh ha

/-- PARAM_LOAD_DONE ends as the read of the set does. -/
theorem paramLoadDone_answers {P : State → Prop} (hP : ∀ t, t.Same (s.loadEnds c (s.setRead c bs)).driveOutputs → P t) :
    ∃ t, exec (.paramLoadDone c bs) s = .next t ∧ P t := by
  rw [exec_paramLoadDone, execParamLoadDone]
  refine run_answers_of_effect hp ?_ hP
  rw [if_neg (by simp [hs])]
  extract_lets len src part data presets x fail
  have hdata : data = bs := if_neg (by simp [State.on, hh])
  rw [if_neg (by simp [src, ha]), hdata]
  rfl

omit hp hs hh ha in
theorem loadFailed_shows : (s.loadFailed c r o).get (F.ISP_CTX_STATUS_shadow c) = shEMPTY ∧ (s.loadFailed c r o).isp = s.isp ∧
    (s.loadFailed c r o).wrote Code.ISP_PARAM_REFUSED [c, r, o] :=
  ⟨get_shadow_refused.trans (get_shadow_set (by decide)), ispRefuse_isp, ispRefuse_wrote⟩

omit hp hs hh ha in
theorem loadedSet_shows : (s.loadedSet c q).get (F.ISP_CTX_STATUS_shadow c) = shLOADED ∧
    (s.loadedSet c q).ctx c = { s.ctx c with shadow := some q } ∧
    (s.loadedSet c q).wrote Code.ISP_PARAM_LOADED [c, (s.ctx c).loadPort, q.digest.toNat % 2 ^ 32] := by
  refine ⟨?_, ?_, raise_wrote⟩
  · rw [State.loadedSet, get_raise (by simp; decide), get_ispResult (by simp), get_showWork (by simp), get_shadow_set (by decide)]
  · rw [State.loadedSet, ctx_of_isp raise_isp raise_cfg, State.ispResult, ctx_set, ctx_set, State.showWork, ctx_set, ctx_set, ctx_setCtx]

theorem paramLoadDone_good (hq : s.setRead c bs = .inl q) : ∃ t, exec (.paramLoadDone c bs) s = .next t ∧
    (if (s.setCtx c { s.ctx c with shadow := some q }).workKib ≤ 32768 then
      t.get (F.ISP_CTX_STATUS_shadow c) = shLOADED ∧ (t.ctx c).shadow = some q ∧ (t.ctx c).set = (s.ctx c).set ∧
        t.wrote Code.ISP_PARAM_LOADED [c, (s.ctx c).loadPort, q.digest.toNat % 2 ^ 32]
    else t.get (F.ISP_CTX_STATUS_shadow c) = shEMPTY ∧ t.isp = s.isp ∧ t.wrote Code.ISP_PARAM_REFUSED [c, ispSPACE, 0]) := by
  refine paramLoadDone_answers hp hs hh ha (bs := bs) fun t ht => ?_
  split
  next hfit =>
    rw [hq, loadEnds_fits hfit] at ht
    obtain ⟨hst, hx, hw⟩ := loadedSet_shows (s := s) (c := c) (q := q)
    rw [ht.cfg_isp_ctx, ht.shadow_driven, hx]
    exact ⟨hst, rfl, rfl, ht.wrote_driven hw⟩
  next hbig =>
    rw [hq, loadEnds_tooBig hbig] at ht
    obtain ⟨hst, hi, hw⟩ := loadFailed_shows (s := s) (c := c) (r := ispSPACE) (o := 0)
    rw [ht.isp_driven, ht.shadow_driven]
    exact ⟨hst, hi, ht.wrote_driven hw⟩

theorem paramLoadDone_bad (hq : s.setRead c bs = .inr (r, o)) : ∃ t, exec (.paramLoadDone c bs) s = .next t ∧
    t.get (F.ISP_CTX_STATUS_shadow c) = shEMPTY ∧ t.isp = s.isp ∧ t.wrote Code.ISP_PARAM_REFUSED [c, r, o] := by
  refine paramLoadDone_answers hp hs hh ha (bs := bs) fun t ht => ?_
  rw [hq] at ht
  obtain ⟨hst, hi, hw⟩ := loadFailed_shows (s := s) (c := c) (r := r) (o := o)
  rw [ht.isp_driven, ht.shadow_driven]
  exact ⟨hst, hi, ht.wrote_driven hw⟩

end LoadDone

end Commands

/-! ### Golden frames (R284, R285, R376) -/

section Golden
variable {c : CtxId} (hp : s.powered = true)

theorem exec_goldenDue : exec (.goldenDue c) s = s.run fun s => s.goldenRequest c false := rfl
theorem exec_goldenRetry : exec (.goldenRetry c) s = s.run fun s => s.goldenRequest c false := rfl
theorem exec_goldenForced : exec (.goldenForced c) s = s.run fun s => s.goldenRequest c true := rfl
theorem exec_goldenComplete {d : BitVec 256} : exec (.goldenComplete c d) s = execGoldenComplete c d s := rfl

theorem openGolden_golden {k : Nat} : ((s.openGolden ch k).ispChan ch).golden = some k := by
  rw [State.openGolden, ispChan_setIspChan]

section Request
variable (hg : s.hasGolden c = true) (hd : (s.ctxCfg c).defined = true) (hn : (s.ispChan (s.ctxChan c)).golden = none)
include hg hd hn

theorem goldenRequest_free {forced : Bool} : s.goldenRequest c forced =
    if forced then ((s.openGolden (s.ctxChan c) c).inc (F.ISP_GOLDEN_forced (s.ctxChan c))).raise Code.GOLDEN_FORCED
      [s.ctxChan c, c, s.get (F.ISP_LAYBY_bytes (s.ctxChan c))]
    else if s.get (F.ISP_LAYBY_bytes (s.ctxChan c)) > 1572864 then (s.inc (F.ISP_GOLDEN_deferred (s.ctxChan c))).raise Code.GOLDEN_DEFERRED
      [s.ctxChan c, c, s.get (F.ISP_LAYBY_bytes (s.ctxChan c))]
    else s.openGolden (s.ctxChan c) c := by
  unfold State.goldenRequest
  rw [if_neg (by simp [hg, hd]), if_neg (by simp [hn]), if_neg (by simp [hn])]

include hp

theorem goldenRequest_granted (hu : s.get (F.ISP_LAYBY_bytes (s.ctxChan c)) ≤ 1572864) :
    ∃ t, s.run (fun s => s.goldenRequest c false) = .next t ∧ (t.ispChan (s.ctxChan c)).golden = some c.val := by
  refine run_answers_of_effect hp ((goldenRequest_free hg hd hn).trans
    ((if_neg Bool.false_ne_true).trans (if_neg (Nat.not_lt.mpr hu)))) fun t ht => ?_
  rw [ispChan_of_isp ht.isp_driven]
  exact openGolden_golden

theorem goldenRequest_deferred (hu : s.get (F.ISP_LAYBY_bytes (s.ctxChan c)) > 1572864) :
    ∃ t, s.run (fun s => s.goldenRequest c false) = .next t ∧ t.isp = s.isp ∧
      t.wrote Code.GOLDEN_DEFERRED [s.ctxChan c, c, s.get (F.ISP_LAYBY_bytes (s.ctxChan c))] := by
  refine run_answers_of_effect hp ((goldenRequest_free hg hd hn).trans
    ((if_neg Bool.false_ne_true).trans (if_pos hu))) fun t ht => ⟨?_, ht.wrote_driven raise_wrote⟩
  rw [ht.isp_driven, raise_isp, State.inc_def, set_isp]

theorem goldenRequest_forced : ∃ t, s.run (fun s => s.goldenRequest c true) = .next t ∧
    (t.ispChan (s.ctxChan c)).golden = some c.val ∧
    t.wrote Code.GOLDEN_FORCED [s.ctxChan c, c, s.get (F.ISP_LAYBY_bytes (s.ctxChan c))] := by
  refine run_answers_of_effect hp ((goldenRequest_free hg hd hn).trans (if_pos rfl)) fun t ht => ⟨?_, ht.wrote_driven raise_wrote⟩
  have hi : t.isp = (s.openGolden (s.ctxChan c) c).isp := by rw [ht.isp_driven, raise_isp, State.inc_def, set_isp]
  rw [ispChan_of_isp hi]
  exact openGolden_golden

end Request

/-! Judging a golden frame -/

theorem setActive_goldenSeen {l : List Nat} : (s.setActive l).safe.goldenSeen = s.safe.goldenSeen := rfl

theorem causeOff_goldenSeen {k : Nat} : (s.causeOff k).safe.goldenSeen = s.safe.goldenSeen := rfl

theorem setB_goldenSeen {g : Field} {b : Bool} : (s.setB g b).safe.goldenSeen = s.safe.goldenSeen := rfl

theorem showOverdue_goldenSeen : s.showOverdue.safe.goldenSeen = s.safe.goldenSeen := by
  unfold State.showOverdue
  extract_lets any u
  split
  · exact setB_goldenSeen
  · rw [causeOff_goldenSeen]
    exact setB_goldenSeen

theorem testDone_goldenSeen {k : Nat} {b : Bool} : (s.testDone k b).safe.goldenSeen = s.safe.goldenSeen := by
  unfold State.testDone
  rw [showOverdue_goldenSeen]
  rfl

theorem sendSafety_goldenSeen : s.sendSafety.safe.goldenSeen = s.safe.goldenSeen := by
  unfold State.sendSafety State.sendSafetyWith
  split
  · rfl
  · extract_lets linked u bs
    have hu : u.safe.goldenSeen = s.safe.goldenSeen := by
      unfold u
      split
      · rw [State.incWrap_def, set_safe]
      · rfl
    refine (each_keeps (fun s => s.safe.goldenSeen) (fun v tp => ?_) _ u).trans hu
    split
    · rfl
    · split
      · rfl
      · rw [raise_safe]

theorem recoveryCheck_goldenSeen : s.recoveryCheck.safe.goldenSeen = s.safe.goldenSeen := by
  unfold State.recoveryCheck
  split
  · rw [sendSafety_goldenSeen, set_safe]
  · rfl

/-- The registers of a context that has passed its golden frame. -/
def State.goldenPass (s : State) (c : Nat) : State :=
  ((s.inc (F.SAFE_CTX_golden_passed c)).set (F.SAFE_CTX_mismatches c) 0).set (F.SAFE_CTX_golden_fail c) 0

/-- The golden frame of context `c` has passed. -/
def State.goldenSees (s : State) (c : Nat) : State :=
  { s with safe := { s.safe with
      goldenSeen := if s.safe.goldenSeen.contains c then s.safe.goldenSeen else s.safe.goldenSeen ++ [c] } }

/-- GOLDEN_FAIL is no cause any more where no context fails. -/
def State.goldenClear (s : State) : State :=
  if (upTo 64).any (fun k => s.on (F.SAFE_CTX_golden_fail k)) then s else s.causeOff Code.GOLDEN_FAIL

theorem goldenJudge_pass {k : Nat} {d : BitVec 256} (h : (s.cfg.safety.goldens.find? (fun g => g.ctx == k)).map (fun g => g.digest) = some d) :
    s.goldenJudge k d = ((((s.goldenPass k).goldenSees k).goldenClear).testDone 5 false).recoveryCheck :=
  if_pos (by rw [h]; exact beq_self_eq_true _)

theorem get_goldenClear {g : Field} (h : State.causeOff_mask.testBit (regKind g.key) = false) : s.goldenClear.get g = s.get g := by
  unfold State.goldenClear
  split
  · rfl
  · exact (State.causeOff_frame (Within.refl _) (.refl _ s)).get g h

theorem goldenClear_goldenSeen : s.goldenClear.safe.goldenSeen = s.safe.goldenSeen := by
  unfold State.goldenClear
  split
  · rfl
  · exact causeOff_goldenSeen

theorem goldenJudge_isp {k : Nat} {d : BitVec 256} : (s.goldenJudge k d).isp = s.isp :=
  (State.goldenJudge_frame (Within.refl _) (.refl _ s)).isp rfl

/-- What the judging of a matching digest leaves of the context. -/
theorem goldenJudge_clears {k : Nat} {d : BitVec 256}
    (h : (s.cfg.safety.goldens.find? (fun g => g.ctx == k)).map (fun g => g.digest) = some d) :
    (s.goldenJudge k d).get (F.SAFE_CTX_golden_fail k) = 0 ∧ (s.goldenJudge k d).get (F.SAFE_CTX_mismatches k) = 0 ∧
      k ∈ (s.goldenJudge k d).safe.goldenSeen := by
  have hget : ∀ g : Field, regKind g.key = 282 → (s.goldenJudge k d).get g = (s.goldenPass k).get g := fun g hg => by
    rw [goldenJudge_pass h, (State.recoveryCheck_frame (Within.refl _) (.refl _ _)).get g (by rw [hg]; decide),
      (State.testDone_frame (Within.refl _) (.refl _ _)).get g (by rw [hg]; decide), get_goldenClear (by rw [hg]; decide)]
    rfl
  refine ⟨?_, ?_, ?_⟩
  · rw [hget _ (by simp)]
    exact State.get_set (by simp [F.SAFE_CTX_golden_fail])
  · rw [hget _ (by simp), State.goldenPass, State.get_set_field (f := F.SAFE_CTX_mismatches k) (g := F.SAFE_CTX_golden_fail k) rfl
      (.inr (by simp [F.SAFE_CTX_mismatches, F.SAFE_CTX_golden_fail])) (by simp [F.SAFE_CTX_mismatches])]
    exact State.get_set (by simp [F.SAFE_CTX_mismatches])
  · rw [goldenJudge_pass h, recoveryCheck_goldenSeen, testDone_goldenSeen, goldenClear_goldenSeen]
    unfold State.goldenSees
    dsimp only
    split
    next hc => exact List.contains_iff_mem.mp hc
    next => exact List.mem_append_right _ (.head _)

/-- A mismatch as it is written and counted. -/
def State.goldenMiss (s : State) (k : Nat) (d : BitVec 256) : State :=
  (((s.raise Code.GOLDEN_FAIL [k, d.toNat % 2 ^ 32]).set (F.SAFE_CTX_golden_fail k) 1).inc (F.SAFE_CTX_mismatches k)).testDone 5 true

theorem get_goldenMiss {k : Nat} {d : BitVec 256} {g : Field} (h : regKind g.key = 282) : (s.goldenMiss k d).get g =
    (((s.raise Code.GOLDEN_FAIL [k, d.toNat % 2 ^ 32]).set (F.SAFE_CTX_golden_fail k) 1).inc (F.SAFE_CTX_mismatches k)).get g :=
  (State.testDone_frame (Within.refl _) (.refl _ _)).get g (by rw [h]; decide)

theorem goldenMiss_mismatches {k : Nat} {d : BitVec 256} (h : s.get (F.SAFE_CTX_mismatches k) < 255) :
    (s.goldenMiss k d).get (F.SAFE_CTX_mismatches k) = s.get (F.SAFE_CTX_mismatches k) + 1 := by
  rw [get_goldenMiss (by simp), get_inc (by simp [F.SAFE_CTX_mismatches]),
    State.get_set_field (f := F.SAFE_CTX_mismatches k) (g := F.SAFE_CTX_golden_fail k) rfl
      (.inr (by simp [F.SAFE_CTX_mismatches, F.SAFE_CTX_golden_fail])) (by simp [F.SAFE_CTX_mismatches]),
    get_raise (by simp; decide)]
  exact Nat.min_eq_left h

theorem goldenMiss_fail {k : Nat} {d : BitVec 256} : (s.goldenMiss k d).get (F.SAFE_CTX_golden_fail k) = 1 := by
  rw [get_goldenMiss (by simp), State.inc_def,
    State.get_set_field (f := F.SAFE_CTX_golden_fail k) (g := F.SAFE_CTX_mismatches k) rfl
      (.inl (by simp [F.SAFE_CTX_mismatches, F.SAFE_CTX_golden_fail])) (by simp [F.SAFE_CTX_golden_fail])]
  exact State.get_set (by simp [F.SAFE_CTX_golden_fail])

/-- A mismatch at the limit is the safe state. -/
theorem goldenJudge_enters {k : Nat} {d : BitVec 256}
    (h : (s.cfg.safety.goldens.find? (fun g => g.ctx == k)).map (fun g => g.digest) ≠ some d)
    (hm : s.get (F.SAFE_CTX_mismatches k) < 255) (hl : s.cfg.safety.goldenLimit ≤ s.get (F.SAFE_CTX_mismatches k) + 1) :
    s.goldenJudge k d = (s.goldenMiss k d).enterSafeHeld Code.GOLDEN_FAIL (sourceUnit 0x11 255) := by
  have hcfg : (s.goldenMiss k d).cfg = s.cfg := by
    rw [State.goldenMiss, (State.testDone_frame (Within.refl _) (.refl _ _)).cfg rfl, State.inc_def, set_cfg, set_cfg, raise_cfg]
  refine (if_neg (by simpa using h)).trans (if_pos ?_)
  change (s.goldenMiss k d).get (F.SAFE_CTX_mismatches k) ≥ (s.goldenMiss k d).cfg.safety.goldenLimit
  rw [goldenMiss_mismatches hm, hcfg]
  exact hl

/-! GOLDEN_COMPLETE -/

/-- The longest wait of a line behind the golden slot. -/
def State.goldenWaits (s : State) (q : List LayItem) : Nat :=
  q.foldl (fun m e => match e with
    | .line l => if l.waited then max m (5 * (s.clk.now - l.at_)) else m
    | .mark _ _ _ _ => m) 0

/-- The golden slot of channel `ch` closes and its frame is written. -/
def State.goldenClosed (s : State) (ch c : Nat) : State :=
  let q := s.ispChan ch
  let wait := s.goldenWaits q.queue
  let s := (s.setIspChan ch { q with golden := none }).inc (F.ISP_GOLDEN_injected ch)
  let s := s.set (F.ISP_GOLDEN_WAIT_ns ch) (min 65535 (max (s.get (F.ISP_GOLDEN_WAIT_ns ch)) wait))
  s.raise Code.GOLDEN_INJECTED [ch, c, wait]

theorem goldenClosed_isp {k : Nat} : (s.goldenClosed ch k).isp = (s.setIspChan ch { s.ispChan ch with golden := none }).isp := by
  unfold State.goldenClosed
  extract_lets q wait s1 s2
  rw [raise_isp]
  unfold s2 s1
  rw [set_isp, State.inc_def, set_isp]

theorem goldenClosed_cfg {k : Nat} : (s.goldenClosed ch k).cfg = s.cfg := by
  unfold State.goldenClosed
  extract_lets q wait s1 s2
  rw [raise_cfg]
  unfold s2 s1
  rw [set_cfg, State.inc_def, set_cfg]
  rfl

theorem get_goldenClosed {k : Nat} {g : Field} (h : regKind g.key = 282) : (s.goldenClosed ch k).get g = s.get g := by
  unfold State.goldenClosed
  extract_lets q wait s1 s2
  rw [get_raise (by rw [h]; decide)]
  unfold s2 s1
  rw [State.get_set_kind (by simp [h]), State.inc_def, State.get_set_kind (by simp [h])]
  rfl

/-- The golden frame of a context, with no other one waiting for the slot. -/
theorem goldenComplete_judges {d : BitVec 256} {P : State → Prop} (hp : s.powered = true)
    (hg : (s.ispChan (s.ctxChan c)).golden = some c.val) (hw : s.isp.goldenWait = [])
    (hP : ∀ t, t.Same ((s.goldenClosed (s.ctxChan c) c).goldenJudge c d).driveOutputs → P t) :
    ∃ t, exec (.goldenComplete c d) s = .next t ∧ P t := by
  rw [exec_goldenComplete, execGoldenComplete]
  refine run_answers_of_effect hp ?_ hP
  extract_lets ch q wait s1 s2 s3 s4
  have h4 : s4.isp.goldenWait = [] := by
    rw [show s4 = (s.goldenClosed ch c).goldenJudge c d from rfl, goldenJudge_isp, goldenClosed_isp]
    exact hw
  rw [if_neg (by simp [q, ch, hg])]
  split
  · rfl
  next k forced hfind =>
    obtain ⟨j, -, hj⟩ := List.exists_of_findSome?_eq_some hfind
    rw [h4] at hj
    cases hj

theorem goldenComplete_passes {d : BitVec 256} (hp : s.powered = true) (hg : (s.ispChan (s.ctxChan c)).golden = some c.val)
    (hw : s.isp.goldenWait = []) (h : (s.cfg.safety.goldens.find? (fun g => g.ctx == c.val)).map (fun g => g.digest) = some d) :
    ∃ t, exec (.goldenComplete c d) s = .next t ∧ (t.ispChan (s.ctxChan c)).golden = none ∧
      t.get (F.SAFE_CTX_golden_fail c) = 0 ∧ t.get (F.SAFE_CTX_mismatches c) = 0 ∧ c.val ∈ t.safe.goldenSeen := by
  refine goldenComplete_judges hp hg hw (d := d) fun t ht => ?_
  obtain ⟨hf, hm, hs⟩ := goldenJudge_clears (s := s.goldenClosed (s.ctxChan c) c) (k := c) (d := d) (by rw [goldenClosed_cfg]; exact h)
  rw [ispChan_of_isp (ht.isp_driven.trans (goldenJudge_isp.trans goldenClosed_isp)), ispChan_setIspChan,
    ht.get_driven (by simp; decide), ht.get_driven (by simp; decide), ht.safe.trans driveOutputs_safe]
  exact ⟨rfl, hf, hm, hs⟩

theorem goldenComplete_fails {d : BitVec 256} (hp : s.powered = true) (hg : (s.ispChan (s.ctxChan c)).golden = some c.val)
    (hw : s.isp.goldenWait = []) (h : (s.cfg.safety.goldens.find? (fun g => g.ctx == c.val)).map (fun g => g.digest) ≠ some d)
    (hm : s.get (F.SAFE_CTX_mismatches c) < 255) (hl : s.cfg.safety.goldenLimit ≤ s.get (F.SAFE_CTX_mismatches c) + 1) :
    ∃ t, exec (.goldenComplete c d) s = .next t ∧ (t.ispChan (s.ctxChan c)).golden = none ∧
      t.get (F.SAFE_CTX_golden_fail c) = 1 ∧ t.get F.SAFE_STATUS_state = safeSAFE ∧ t.outputsOff := by
  refine goldenComplete_judges hp hg hw (d := d) fun t ht => ?_
  have hcount := get_goldenClosed (s := s) (ch := s.ctxChan c) (k := c) (F.SAFE_CTX_mismatches_kind c)
  have he := goldenJudge_enters (s := s.goldenClosed (s.ctxChan c) c) (k := c) (d := d)
    (by rw [goldenClosed_cfg]; exact h) (by rw [hcount]; exact hm) (by rw [hcount, goldenClosed_cfg]; exact hl)
  have hsafe : ((s.goldenClosed (s.ctxChan c) c).goldenJudge c d).get F.SAFE_STATUS_state = safeSAFE := he ▸ enterSafeHeld_state
  have hfail : ((s.goldenClosed (s.ctxChan c) c).goldenJudge c d).get (F.SAFE_CTX_golden_fail c) = 1 := by
    rw [he, (State.enterSafeHeld_frame (Within.refl _) (.refl _ _)).get _ (by rw [F.SAFE_CTX_golden_fail_kind]; decide), goldenMiss_fail]
  rw [ispChan_of_isp (ht.isp_driven.trans (goldenJudge_isp.trans goldenClosed_isp)), ispChan_setIspChan,
    ht.get_driven (by simp; decide)]
  exact ⟨rfl, hfail, ht.get.trans (driveOutputs_state.trans hsafe), Same_off ht hsafe⟩

theorem goldenComplete_leaves {d : BitVec 256} (hp : s.powered = true) (hg : (s.ispChan (s.ctxChan c)).golden ≠ some c.val) :
    ∃ t, exec (.goldenComplete c d) s = .next t ∧ t.isp = s.isp := by
  rw [exec_goldenComplete, execGoldenComplete]
  exact run_answers_of_effect hp (if_pos (by simpa using hg)) fun t ht => ht.isp_driven

end Golden

end Pipeline

/-- Settles O26: each clause is an outcome of a command above. -/
theorem pipelineCommands : Obligations.PipelineCommands := by
  unfold Obligations.PipelineCommands
  refine ⟨?_, ?_, ?_, ?_, ?_, ?_, ?_, ?_, ?_, ?_, ?_, ?_, ?_, ?_, ?_, ?_, ?_, ?_, ?_, ?_, ?_, ?_, ?_, ?_, ?_, ?_, ?_, ?_⟩
  · exact fun s ch l q hp hg hq => lineEnters_counts hp hg hq
  · exact fun s ch l hp hg hq => areaLine_faults hp hg hq
  · exact fun s ch hp => lineEntersChannel_idle hp
  · exact fun s n p c g hp hg hs hl hc => frameMark_waits hp hg hs hl hc rfl
  · exact fun s n p c hp hg hs hl hc => frameMark_opens hp hg hs hl hc rfl
  · exact fun s c hp => frameTimeout_closes hp
  · exact fun s c hp => frameTimeout_leaves hp
  · exact fun s i c hp hr hd => paramLoad_starts hp hr hd
  · exact fun s i c hp hr hd => paramLoad_busy hp hr hd
  · exact fun s c bs q hp hs hh ha => paramLoadDone_good hp hs hh ha
  · exact fun s c bs r o hp hs hh ha => paramLoadDone_bad hp hs hh ha
  · exact fun s i c hp hr hd => paramCommit_commits hp hr hd
  · exact fun s i c hp hr hd => paramCommit_leaves hp hr hd
  · exact fun s i c hp hr hd => paramDiscard_empties hp hr hd
  · exact fun s i c hp hr hd => contextRestart_pends hp hr hd
  · exact fun s i c hp hr hd => contextRestart_refused hp hr hd
  · intro s i c hp hr ho
    rw [exec_paramLoad, execParamLoad]
    exact ispCmd_role hp hr ho
  · intro s i c hp hr ho
    rw [exec_paramCommit, execParamCommit]
    exact ispCmd_role hp hr ho
  · intro s i c hp hr ho
    rw [exec_paramDiscard, execParamDiscard]
    exact ispCmd_role hp hr ho
  · intro s i c hp hr ho
    rw [exec_contextRestart, execContextRestart]
    exact ispCmd_role hp hr ho
  · intro s c hp hg hd hn hu
    rw [exec_goldenDue]
    exact goldenRequest_granted hp hg hd hn hu
  · intro s c hp hg hd hn hu
    rw [exec_goldenDue]
    exact goldenRequest_deferred hp hg hd hn hu
  · intro s c hp hg hd hn hu
    rw [exec_goldenRetry]
    exact goldenRequest_granted hp hg hd hn hu
  · intro s c hp hg hd hn hu
    rw [exec_goldenRetry]
    exact goldenRequest_deferred hp hg hd hn hu
  · intro s c hp hg hd hn
    rw [exec_goldenForced]
    exact goldenRequest_forced hp hg hd hn
  · exact fun s c d hp => goldenComplete_passes hp
  · exact fun s c d hp => goldenComplete_fails hp
  · exact fun s c d hp => goldenComplete_leaves hp

end Sys2Proof.Machine
end

section
/-! PROOFS. The ingest queues (R290 to R292, R296, R297, R300): their commands, the reading of descriptors and the ends of samples. -/

namespace Sys2Proof.Machine

open Sys2Proof

section Ingest

variable {s t u : State} {i : Port} {p : Part} {b : IngBatch} {q : IngQueue} {f : State → State}

/-! ### Reading a queue -/

theorem F.INGEST_Q_LIMITS_stale_ms_kind (p : Nat) : regKind (F.INGEST_Q_LIMITS_stale_ms p).key = 188 :=
  kind_of_indexed (n := 8) (by decide) (by simp [F.INGEST_Q_LIMITS_stale_ms]) (by decide +kernel) p

theorem ingestQueue_of_ingest (h : t.ingest = s.ingest) : t.ingestQueue p = s.ingestQueue p := by
  rw [State.ingestQueue, h, State.ingestQueue]

theorem showIngest_ingest : (s.showIngest p).ingest = s.ingest := (State.showIngest_frame (Within.refl _) (.refl _ s)).ingest rfl

theorem setQueue_queue : (s.setQueue p q).ingestQueue p = q := by
  rw [State.setQueue, ingestQueue_of_ingest showIngest_ingest]
  exact tget_tset_self _ _ _ _

/-- The registers that showing a queue leaves. -/
theorem get_showIngest {g : Field} (h : State.showIngest_mask.testBit (regKind g.key) = false) : (s.showIngest p).get g = s.get g :=
  (State.showIngest_frame (Within.refl _) (.refl _ s)).get g h

/-- A field of INGEST_Q_STATE apart from those that show the batches and the quota. -/
theorem get_showIngest_apart {g : Field} (hk : g.key = (F.INGEST_Q_STATE_open p).key) (h32 : g.lo + g.width ≤ 32)
    (ho : g.lo + g.width ≤ 16) (hq : g.lo + g.width ≤ 2 ∨ 3 ≤ g.lo) : (s.showIngest p).get g = s.get g := by
  have hkind : regKind g.key = 189 := by rw [hk]; exact F.INGEST_Q_STATE_open_kind p
  unfold State.showIngest
  extract_lets qu s1 s2 s3 waiting
  rw [State.get_set_kind (by rw [hkind]; simp)]
  unfold s3 s2 s1
  rw [State.setBit, State.get_set_kind (by rw [hkind]; simp), State.setB_def,
    State.get_set_field (g := F.INGEST_Q_STATE_over_quota p) hk (by simpa [F.INGEST_Q_STATE_over_quota] using hq) h32,
    State.get_set_field (g := F.INGEST_Q_STATE_open p) hk (.inl (by simpa [F.INGEST_Q_STATE_open] using ho)) h32]

theorem showIngest_state : (s.showIngest p).get (F.INGEST_Q_STATE_state p) = s.get (F.INGEST_Q_STATE_state p) :=
  get_showIngest_apart rfl (by simp [F.INGEST_Q_STATE_state]) (by simp [F.INGEST_Q_STATE_state]) (by simp [F.INGEST_Q_STATE_state])

theorem showIngest_error : (s.showIngest p).get (F.INGEST_Q_STATE_error p) = s.get (F.INGEST_Q_STATE_error p) :=
  get_showIngest_apart rfl (by simp [F.INGEST_Q_STATE_error]) (by simp [F.INGEST_Q_STATE_error]) (by simp [F.INGEST_Q_STATE_error])

theorem state_set {v : Nat} (hv : v < 4) : (s.set (F.INGEST_Q_STATE_state p) v).get (F.INGEST_Q_STATE_state p) = v :=
  (State.get_set (by simp [F.INGEST_Q_STATE_state])).trans (Nat.mod_eq_of_lt hv)

theorem queueState_state {k v : Nat} (hv : v < 4) : (s.queueState p k v).get (F.INGEST_Q_STATE_state p) = v := by
  unfold State.queueState
  split
  next h => simpa using h
  next => rw [get_raise (by simp; decide), showIngest_state, state_set hv]

theorem queueState_ingest {k v : Nat} : (s.queueState p k v).ingest = s.ingest :=
  (State.queueState_frame (Within.refl _) (.refl _ s)).ingest rfl

theorem queueState_error {k v : Nat} : (s.queueState p k v).get (F.INGEST_Q_STATE_error p) = s.get (F.INGEST_Q_STATE_error p) := by
  unfold State.queueState
  split
  · rfl
  · rw [get_raise (by simp; decide), showIngest_error]
    exact State.get_set_field rfl (.inr (by simp [F.INGEST_Q_STATE_error, F.INGEST_Q_STATE_state])) (by simp [F.INGEST_Q_STATE_error])

theorem State.Same.ingestState_driven (h : t.Same u.driveOutputs) :
    t.get (F.INGEST_Q_STATE_state p) = u.get (F.INGEST_Q_STATE_state p) := h.get_driven (by simp; decide)

theorem State.Same.ingestTail_driven (h : t.Same u.driveOutputs) :
    t.get (F.INGEST_Q_TAIL_pos p) = u.get (F.INGEST_Q_TAIL_pos p) := h.get_driven (by simp; decide)

/-! ### Commands (Table INGEST-7) -/

theorem exec_ingestStart : exec (.ingestStart i p) s = s.run fun s => s.ingestCmd i p fun s => s.queueState p i iqRUNNING := rfl
theorem exec_ingestStop : exec (.ingestStop i p) s = execIngestStop i p s := rfl
theorem exec_setSeed : exec (.setSeed i p) s = execSetSeed i p s := rfl
theorem exec_setEpoch : exec (.setEpoch i p) s = execSetEpoch i p s := rfl
theorem exec_ingestDoorbell {v : BitVec 32} : exec (.ingestDoorbell i p v) s = execIngestDoorbell i p v s := rfl

theorem ingestCmd_acts (h : s.mayIngest i p = true) : s.ingestCmd i p f = f s := if_pos h

section Commands
variable (hp : s.powered = true)
include hp

/-- A command whose effect is INGEST_ROLE leaves the queues. -/
theorem ingestRole_answers {off : Nat} (he : f s = s.raise Code.INGEST_ROLE [i, off]) : ∃ t, s.run f = .next t ∧ t.ingest = s.ingest ∧
    t.get (F.INGEST_Q_STATE_state p) = s.get (F.INGEST_Q_STATE_state p) ∧
    t.get (F.INGEST_Q_TAIL_pos p) = s.get (F.INGEST_Q_TAIL_pos p) ∧ t.wrote Code.INGEST_ROLE [i, off] :=
  run_answers_of_effect hp he fun t ht => ⟨ht.ingest_driven.trans raise_ingest,
    ht.ingestState_driven.trans (get_raise (by simp; decide)), ht.ingestTail_driven.trans (get_raise (by simp; decide)),
    ht.wrote_driven raise_wrote⟩

theorem ingestCmd_role (h : s.mayIngest i p = false) : ∃ t, s.run (fun s => s.ingestCmd i p f) = .next t ∧ t.ingest = s.ingest ∧
    t.get (F.INGEST_Q_STATE_state p) = s.get (F.INGEST_Q_STATE_state p) ∧
    t.get (F.INGEST_Q_TAIL_pos p) = s.get (F.INGEST_Q_TAIL_pos p) ∧ t.wrote Code.INGEST_ROLE [i, 8] :=
  ingestRole_answers hp (if_neg (by simp [h]))

theorem ingestDoorbell_role {v : BitVec 32} (h : s.mayIngest i p = false) : ∃ t, exec (.ingestDoorbell i p v) s = .next t ∧
    t.ingest = s.ingest ∧ t.get (F.INGEST_Q_STATE_state p) = s.get (F.INGEST_Q_STATE_state p) ∧
    t.get (F.INGEST_Q_TAIL_pos p) = s.get (F.INGEST_Q_TAIL_pos p) ∧ t.wrote Code.INGEST_ROLE [i, 0x10C + 0x40 * p.val] := by
  rw [exec_ingestDoorbell, execIngestDoorbell]
  exact ingestRole_answers hp (if_pos (by simp [h]))

section Allowed
variable (hm : s.mayIngest i p = true)
include hm

theorem ingestStart_runs : ∃ t, exec (.ingestStart i p) s = .next t ∧ t.get (F.INGEST_Q_STATE_state p) = iqRUNNING ∧
    t.ingest = s.ingest := by
  rw [exec_ingestStart]
  exact run_answers_of_effect hp (ingestCmd_acts hm) fun t ht =>
    ⟨ht.ingestState_driven.trans (queueState_state (by decide)), ht.ingest_driven.trans queueState_ingest⟩

/-- The state of a queue that stops. -/
def State.stopState (s : State) (p : Nat) : Nat := if (s.ingestQueue p).batches.isEmpty then iqSTOPPED else iqDRAINING

omit hp hm in
theorem stopState_lt : s.stopState p < 4 := by
  unfold State.stopState
  split <;> decide

theorem ingestStop_stops (hs : s.get (F.INGEST_Q_STATE_state p) ≠ iqSTOPPED) : ∃ t, exec (.ingestStop i p) s = .next t ∧
    t.get (F.INGEST_Q_STATE_state p) = (if (s.ingestQueue p).batches = [] then iqSTOPPED else iqDRAINING) ∧ t.ingest = s.ingest := by
  rw [exec_ingestStop, execIngestStop]
  refine run_answers_of_effect hp (u := s.queueState p i (s.stopState p))
    ((ingestCmd_acts hm).trans (if_neg (by simpa using hs))) fun t ht => ?_
  refine ⟨(ht.ingestState_driven.trans (queueState_state stopState_lt)).trans ?_, ht.ingest_driven.trans queueState_ingest⟩
  simp only [State.stopState, List.isEmpty_iff]

theorem ingestStop_stays (hs : s.get (F.INGEST_Q_STATE_state p) = iqSTOPPED) : ∃ t, exec (.ingestStop i p) s = .next t ∧
    t.get (F.INGEST_Q_STATE_state p) = iqSTOPPED ∧ t.ingest = s.ingest := by
  rw [exec_ingestStop, execIngestStop]
  exact run_answers_of_effect hp ((ingestCmd_acts hm).trans (if_pos (by simpa using hs))) fun t ht =>
    ⟨ht.ingestState_driven.trans hs, ht.ingest_driven⟩

theorem setSeed_takes : ∃ t, exec (.setSeed i p) s = .next t ∧ t.ingestQueue p =
    { s.ingestQueue p with seed := s.get64 (F.INGEST_Q_SEED_LO_seed p) (F.INGEST_Q_SEED_HI_seed p) } := by
  rw [exec_setSeed, execSetSeed]
  exact run_answers_of_effect hp (ingestCmd_acts hm) fun t ht => (ingestQueue_of_ingest ht.ingest_driven).trans setQueue_queue

theorem setEpoch_takes : ∃ t, exec (.setEpoch i p) s = .next t ∧ t.ingestQueue p =
    { s.ingestQueue p with epoch := s.get (F.INGEST_Q_EPOCH_epoch p) } := by
  rw [exec_setEpoch, execSetEpoch]
  exact run_answers_of_effect hp (ingestCmd_acts hm) fun t ht => (ingestQueue_of_ingest ht.ingest_driven).trans setQueue_queue

section Doorbell
variable {v : BitVec 32}

theorem ingestDoorbell_taken
    (hv : (v.toNat + 2 ^ 32 - s.get (F.INGEST_Q_HEAD_pos p)) % 2 ^ 32 ≤ 2 ^ s.get (F.INGEST_Q_RING_SIZE_log2 p)) :
    ∃ t, exec (.ingestDoorbell i p v) s = .next t ∧ t.get (F.INGEST_Q_TAIL_pos p) = v.toNat ∧ t.ingest = s.ingest ∧
      t.get (F.INGEST_Q_STATE_state p) = s.get (F.INGEST_Q_STATE_state p) := by
  rw [exec_ingestDoorbell, execIngestDoorbell]
  refine run_answers_of_effect hp (u := s.set (F.INGEST_Q_TAIL_pos p) v.toNat)
    ((if_neg (by simp [hm])).trans (if_neg (Nat.not_lt.mpr hv))) fun t ht => ?_
  refine ⟨ht.ingestTail_driven.trans ?_, ht.ingest_driven, ht.ingestState_driven.trans (State.get_set_kind (by simp))⟩
  exact (State.get_set (by simp [F.INGEST_Q_TAIL_pos])).trans (Nat.mod_eq_of_lt v.isLt)

omit hp hm in
theorem get_ingestViolation {c pos : Nat} {g : Field} (h : regKind g.key ≠ 189) (hr : State.raise_mask.testBit (regKind g.key) = false) :
    (s.ingestViolation p c pos).get g = s.get g := by
  rw [State.ingestViolation, get_raise hr, State.get_set_kind (by simpa using h)]

omit hp hm in
theorem ingestViolation_state {c pos : Nat} :
    (s.ingestViolation p c pos).get (F.INGEST_Q_STATE_state p) = s.get (F.INGEST_Q_STATE_state p) := by
  rw [State.ingestViolation, get_raise (by simp; decide)]
  exact State.get_set_field rfl (.inl (by simp [F.INGEST_Q_STATE_error, F.INGEST_Q_STATE_state])) (by simp [F.INGEST_Q_STATE_state])

omit hp hm in
theorem ingestViolation_error {c pos : Nat} (hc : c < 256) : (s.ingestViolation p c pos).get (F.INGEST_Q_STATE_error p) = c := by
  rw [State.ingestViolation, get_raise (by simp; decide)]
  exact (State.get_set (by simp [F.INGEST_Q_STATE_error])).trans (Nat.mod_eq_of_lt hc)

/-- A queue after a violation: it runs no more. -/
def State.ingestHalted (s : State) (p c pos k : Nat) : State :=
  let s := s.ingestViolation p c pos
  if s.get (F.INGEST_Q_STATE_state p) == iqSTOPPED then s else s.queueState p k (s.stopState p)

omit hp hm in
theorem ingestHalted_shows {c pos k : Nat} (hc : c < 256) : (s.ingestHalted p c pos k).get (F.INGEST_Q_STATE_error p) = c ∧
    (s.ingestHalted p c pos k).get (F.INGEST_Q_STATE_state p) ≠ iqRUNNING ∧
    (s.ingestHalted p c pos k).get (F.INGEST_Q_TAIL_pos p) = s.get (F.INGEST_Q_TAIL_pos p) := by
  have htail : (s.ingestViolation p c pos).get (F.INGEST_Q_TAIL_pos p) = s.get (F.INGEST_Q_TAIL_pos p) :=
    get_ingestViolation (by simp) (by simp; decide)
  unfold State.ingestHalted
  extract_lets u
  split
  next h =>
    refine ⟨ingestViolation_error hc, ?_, htail⟩
    rw [eq_of_beq h]
    decide
  next =>
    rw [queueState_error, queueState_state stopState_lt,
      (State.queueState_frame (Within.refl _) (.refl _ u)).get _ (by rw [F.INGEST_Q_TAIL_pos_kind]; decide)]
    refine ⟨ingestViolation_error hc, ?_, htail⟩
    unfold State.stopState
    split <;> decide

theorem ingestDoorbell_wild
    (hv : 2 ^ s.get (F.INGEST_Q_RING_SIZE_log2 p) < (v.toNat + 2 ^ 32 - s.get (F.INGEST_Q_HEAD_pos p)) % 2 ^ 32) :
    ∃ t, exec (.ingestDoorbell i p v) s = .next t ∧ t.get (F.INGEST_Q_TAIL_pos p) = s.get (F.INGEST_Q_TAIL_pos p) ∧
      t.get (F.INGEST_Q_STATE_error p) = vcBADDESCRIPTOR ∧ t.get (F.INGEST_Q_STATE_state p) ≠ iqRUNNING := by
  obtain ⟨he, hs, ht'⟩ := ingestHalted_shows (s := s) (p := p) (c := vcBADDESCRIPTOR) (pos := v.toNat) (k := i) (by decide)
  rw [exec_ingestDoorbell, execIngestDoorbell]
  refine run_answers_of_effect hp (u := s.ingestHalted p vcBADDESCRIPTOR v.toNat i)
    ((if_neg (by simp [hm])).trans (if_pos hv)) fun t ht => ?_
  rw [ht.ingestTail_driven, ht.ingestState_driven, ht.get_driven (by simp; decide)]
  exact ⟨ht', he, hs⟩

end Doorbell
end Allowed
end Commands

/-! ### Descriptors (R290, R291) -/

section Descriptor
variable {r : List Byte} {n k : Nat}

theorem recField_take {o w m : Nat} (h : o + w ≤ m) : recField (r.take m) o w = recField r o w := by
  rw [recField, recField, List.drop_take, List.take_take, Nat.min_eq_left (by omega)]

/-- A descriptor is its first 64 bytes. -/
theorem badDescriptor_take {chains : List ChainCfg} : s.badDescriptor p chains (r.take 64) = s.badDescriptor p chains r := by
  unfold State.badDescriptor
  simp only [recField_take (r := r) (m := 64) (show 4 + 1 ≤ 64 by decide), recField_take (r := r) (m := 64) (show 5 + 1 ≤ 64 by decide),
    recField_take (r := r) (m := 64) (show 6 + 1 ≤ 64 by decide), recField_take (r := r) (m := 64) (show 7 + 1 ≤ 64 by decide),
    recField_take (r := r) (m := 64) (show 8 + 1 ≤ 64 by decide), recField_take (r := r) (m := 64) (show 8 + 8 ≤ 64 by decide),
    recField_take (r := r) (m := 64) (show 9 + 1 ≤ 64 by decide), recField_take (r := r) (m := 64) (show 10 + 6 ≤ 64 by decide),
    recField_take (r := r) (m := 64) (show 16 + 4 ≤ 64 by decide), recField_take (r := r) (m := 64) (show 20 + 2 ≤ 64 by decide),
    recField_take (r := r) (m := 64) (show 22 + 2 ≤ 64 by decide), recField_take (r := r) (m := 64) (show 24 + 1 ≤ 64 by decide),
    recField_take (r := r) (m := 64) (show 25 + 1 ≤ 64 by decide), recField_take (r := r) (m := 64) (show 26 + 2 ≤ 64 by decide),
    recField_take (r := r) (m := 64) (show 32 + 32 ≤ 64 by decide)]

theorem badDescriptor_of_cfg {chains : List ChainCfg} (hc : t.cfg = s.cfg) (hi : t.isp = s.isp) :
    t.badDescriptor p chains r = s.badDescriptor p chains r := by
  unfold State.badDescriptor State.ctxCfg State.ctx State.reach State.part State.ctxCfg
  rw [hc, hi]

/-- The chains of the program of partition `p`. -/
def State.chainsOf (s : State) (p : Nat) : List ChainCfg := ((tfind s.cfg.programs p).map (fun g => g.chains)).getD []

/-- The batch that opens at ring position `h`, with `n` slots. -/
def State.batchAt (s : State) (p h n : Nat) : IngBatch :=
  { num := h / n, size := n, seed := (s.ingestQueue p).seed, epoch := (s.ingestQueue p).epoch, chains := s.chainsOf p
    slots := List.replicate n { state := slUNREAD, cause := 0, desc := [] } }

/-- The batch of ring position `h` has opened and the head has moved on. -/
def State.batchOpened (s : State) (p h n : Nat) : State :=
  (s.setQueue p { s.ingestQueue p with
    batches := (s.ingestQueue p).batches ++ [s.batchAt p h n], next := h / n + 1, lastSize := n }).set (F.INGEST_Q_HEAD_pos p) (h + 1)

theorem exec_descriptorRead {r : Option (List Byte)} : exec (.descriptorRead p r) s = execDescriptorRead p r s := rfl

theorem slotAt_none {h : Nat} (hb : (s.ingestQueue p).batches = []) : s.slotAt p h = none := by
  rw [State.slotAt, hb]
  rfl

theorem batchOpened_queue {h : Nat} : (s.batchOpened p h n).ingestQueue p = { s.ingestQueue p with
    batches := (s.ingestQueue p).batches ++ [s.batchAt p h n], next := h / n + 1, lastSize := n } := by
  rw [State.batchOpened, ingestQueue_of_ingest set_ingest, setQueue_queue]

theorem batchOpened_batches {h : Nat} (hb : (s.ingestQueue p).batches = []) :
    ((s.batchOpened p h n).ingestQueue p).batches = [s.batchAt p h n] := by
  rw [batchOpened_queue, hb]
  rfl

theorem batchOpened_head {h : Nat} : (s.batchOpened p h n).get (F.INGEST_Q_HEAD_pos p) = (h + 1) % 2 ^ 32 :=
  State.get_set (by simp [F.INGEST_Q_HEAD_pos])

/-- The position at which a batch opens lies in it, at its place. -/
theorem slotAt_batchOpened {h : Nat} (hn : n ≠ 0) (hb : (s.ingestQueue p).batches = []) : (s.batchOpened p h n).slotAt p h =
    some (s.batchAt p h n, h % n, { state := slUNREAD, cause := 0, desc := [] }) := by
  have hlt := Nat.mod_lt h (Nat.pos_of_ne_zero hn)
  have hle : h / n * n ≤ h := Nat.div_mul_le_self h n
  have hup : h < (h / n + 1) * n := by
    rw [Nat.succ_mul]
    exact Nat.lt_div_mul_add (Nat.pos_of_ne_zero hn)
  have hmod : h - h / n * n = h % n := by rw [Nat.mod_eq_sub_div_mul]
  have hfind : [s.batchAt p h n].find? (fun b => decide (b.num * b.size ≤ h) && decide (h < (b.num + 1) * b.size)) =
      some (s.batchAt p h n) := List.find?_cons_of_pos (by simp only [State.batchAt, hle, hup, decide_true, Bool.and_self])
  rw [State.slotAt, batchOpened_batches hb, hfind, Option.bind_some]
  simp only [State.batchAt, hmod, List.getElem?_replicate, hlt, if_true, Option.map_some]

theorem setBatch_queue {y : IngBatch} (hb : (s.ingestQueue p).batches = [y]) (hnum : y.num = b.num) :
    (s.setBatch p b).ingestQueue p = { s.ingestQueue p with batches := [b] } := by
  unfold State.setBatch
  rw [setQueue_queue, hb]
  simp [hnum]

theorem setBatch_cfg : (s.setBatch p b).cfg = s.cfg := (State.setQueue_frame (Within.refl _) (.refl _ s)).cfg rfl

theorem setBatch_isp : (s.setBatch p b).isp = s.isp := (State.setQueue_frame (Within.refl _) (.refl _ s)).isp rfl

theorem batchOpened_cfg {h : Nat} : (s.batchOpened p h n).cfg = s.cfg := by
  rw [State.batchOpened, set_cfg, (State.setQueue_frame (Within.refl _) (.refl _ s)).cfg rfl]

theorem batchOpened_isp {h : Nat} : (s.batchOpened p h n).isp = s.isp := by
  rw [State.batchOpened, set_isp, (State.setQueue_frame (Within.refl _) (.refl _ s)).isp rfl]

theorem get_setBatch {g : Field} (h : State.setQueue_mask.testBit (regKind g.key) = false) : (s.setBatch p b).get g = s.get g :=
  (State.setQueue_frame (Within.refl _) (.refl _ s)).get g h

/-- A good descriptor opens the batch of its position and fills its slot. -/
theorem descriptorRead_opens (hp : s.powered = true) (hsize : n = s.get (F.INGEST_Q_RING_SIZE_batch p)) (hn : n ≠ 0)
    (hrun : s.get (F.INGEST_Q_STATE_state p) = iqRUNNING)
    (hhead : s.get (F.INGEST_Q_HEAD_pos p) ≠ s.get (F.INGEST_Q_TAIL_pos p)) (hb : (s.ingestQueue p).batches = [])
    (hk : k = s.get (F.INGEST_Q_HEAD_pos p) / n) (hnext : (s.ingestQueue p).next ≠ k + 1 ∨ (s.ingestQueue p).lastSize ≠ n)
    (hfits : (s.chainsOf p).all (fun c => c.ringFits n (s.reach p)) = true)
    (hquota : s.get (F.ROUTE_PART_over_quota p) = 0) (hgood : s.badDescriptor p (s.chainsOf p) (r.take 64) = false) :
    ∃ t, exec (.descriptorRead p (some r)) s = .next t ∧
      t.get (F.INGEST_Q_HEAD_pos p) = (s.get (F.INGEST_Q_HEAD_pos p) + 1) % 2 ^ 32 ∧ (t.ingestQueue p).next = k + 1 ∧
      ∃ b, (t.ingestQueue p).batches = [b] ∧ b.num = k ∧ b.size = n ∧ b.seed = (s.ingestQueue p).seed ∧
        b.epoch = (s.ingestQueue p).epoch ∧ b.slots[s.get (F.INGEST_Q_HEAD_pos p) % n]? =
          some { state := slREAD, cause := 0, desc := r.take 64 } := by
  subst hk
  generalize hh : s.get (F.INGEST_Q_HEAD_pos p) = h at *
  have hslot := slotAt_batchOpened (h := h) hn hb
  rw [exec_descriptorRead, execDescriptorRead]
  refine run_answers_of_effect hp (u := (s.batchOpened p h n).setBatch p
    ((s.batchAt p h n).setSlot (h % n) { state := slREAD, cause := 0, desc := r.take 64 })) ?_ fun t ht => ?_
  · have hnotOpen : (s.slotAt p h).isSome = false := by rw [slotAt_none hb]; rfl
    rw [hh, ← hsize]
    rw [if_neg (by simp [hn, hrun, hhead]; decide)]
    dsimp only
    rw [hnotOpen, if_neg (by simpa [imp_iff_not_or] using hnext),
      if_neg (by simp [hrun, hb, State.overQuota, State.on, hquota]; simpa [State.chainsOf] using hfits), if_neg (by simp)]
    split
    next hnone => cases hslot.symm.trans hnone
    next b j x hsome =>
      cases hslot.symm.trans hsome
      have hstill : ((s.batchOpened p h n).setBatch p ((s.batchAt p h n).setSlot (h % n)
          { state := slREAD, cause := 0, desc := r.take 64 })).badDescriptor p (s.chainsOf p) r = false := by
        rw [badDescriptor_of_cfg (setBatch_cfg.trans batchOpened_cfg) (setBatch_isp.trans batchOpened_isp), ← badDescriptor_take, hgood]
      exact (if_neg (by decide)).trans (if_neg (by rw [Bool.not_eq_true]; exact hstill))
  · rw [ht.get_driven (by simp; decide), get_setBatch (by simp; decide), batchOpened_head, ingestQueue_of_ingest ht.ingest_driven,
      
      setBatch_queue (b := (s.batchAt p h n).setSlot (h % n) { state := slREAD, cause := 0, desc := r.take 64 })
        (batchOpened_batches hb) rfl, batchOpened_queue]
    refine ⟨rfl, rfl, _, rfl, rfl, rfl, rfl, rfl, ?_⟩
    simp [IngBatch.setSlot, State.batchAt, Nat.mod_lt h (Nat.pos_of_ne_zero hn)]

/-- With nothing to read, nothing changes. -/
theorem descriptorRead_idle {r : Option (List Byte)} (hp : s.powered = true) (h : s.get (F.INGEST_Q_RING_SIZE_batch p) = 0 ∨
    s.get (F.INGEST_Q_STATE_state p) = iqSTOPPED ∨ s.get (F.INGEST_Q_HEAD_pos p) = s.get (F.INGEST_Q_TAIL_pos p)) :
    ∃ t, exec (.descriptorRead p r) s = .next t ∧ t.ingest = s.ingest ∧
      t.get (F.INGEST_Q_HEAD_pos p) = s.get (F.INGEST_Q_HEAD_pos p) := by
  rw [exec_descriptorRead, execDescriptorRead]
  exact run_answers_of_effect hp (if_pos (by simpa [or_assoc] using h)) fun t ht =>
    ⟨ht.ingest_driven, ht.get_driven (by simp; decide)⟩

end Descriptor

/-! ### The ends of samples (R292, R296) -/

section Sample
variable {c : ChainCfg} {r bs : List Byte} {x : SampleIn} {j cause : Nat} {y : IngSlot} {v : BitVec 32}

theorem partAddr_of_cfg {m n : Nat} (hc : t.cfg = s.cfg) : t.partAddr m n = s.partAddr m n := by
  unfold State.partAddr State.pageBase State.part
  rw [hc]

theorem outAddr_of_cfg {n : Nat} {o : OutRec} {off : Nat} (hc : t.cfg = s.cfg) : t.outAddr n o off = s.outAddr n o off := by
  unfold State.outAddr State.ctxCfg
  rw [hc, partAddr_of_cfg hc]

theorem slotAddr_of_cfg (hc : t.cfg = s.cfg) : t.slotAddr p c b j = s.slotAddr p c b j := by
  unfold State.slotAddr State.batchAddr
  rw [partAddr_of_cfg hc]

theorem liveSlots_of_isp (hc : t.cfg = s.cfg) (hi : t.isp = s.isp) : t.liveSlots r = s.liveSlots r := by
  unfold State.liveSlots State.ctx State.ctxCfg
  rw [hc, hi]

/-- What a live sample reads. -/
theorem liveImage_of (hc : t.cfg = s.cfg) (hi : t.isp = s.isp) (hm : t.mem = s.mem) (hk : t.clk = s.clk)
    (hg : ∀ n, t.get (F.INGEST_Q_LIMITS_stale_ms n) = s.get (F.INGEST_Q_LIMITS_stale_ms n)) : t.liveImage r = s.liveImage r := by
  have hctx : ∀ n, t.ctx n = s.ctx n := fun n => by unfold State.ctx State.ctxCfg; rw [hc, hi]
  have hcfg : ∀ n, t.ctxCfg n = s.ctxCfg n := fun n => by unfold State.ctxCfg; rw [hc]
  unfold State.liveImage
  simp only [hctx, hcfg, liveSlots_of_isp hc hi, bytes_of_mem hm, outAddr_of_cfg hc, State.localNs, hk, hg, hi]
  rfl

/-- What a sample gives rests on the configuration, the pipeline, memory, the clock and the age limits. -/
theorem sampleResult_of (hc : t.cfg = s.cfg) (hi : t.isp = s.isp) (hm : t.mem = s.mem) (hk : t.clk = s.clk)
    (hg : ∀ n, t.get (F.INGEST_Q_LIMITS_stale_ms n) = s.get (F.INGEST_Q_LIMITS_stale_ms n)) :
    t.sampleResult p b c r x = s.sampleResult p b c r x := by
  unfold State.sampleResult
  simp only [liveImage_of hc hi hm hk hg, bytes_of_mem hm, partAddr_of_cfg hc]

/-- A batch with a slot still to be read stays open when another of its slots ends. -/
theorem unread_setSlot {y' : IngSlot} (hj : b.slots[j]? = some y) (hy : y.state = slREAD) (hz : ∃ z ∈ b.slots, z.state = slUNREAD) :
    ∃ z ∈ (b.setSlot j y').slots, z.state = slUNREAD := by
  obtain ⟨z, hz, hun⟩ := hz
  obtain ⟨k, hk⟩ := List.mem_iff_getElem?.mp hz
  have hne : j ≠ k := by
    rintro rfl
    rw [hj, Option.some.injEq] at hk
    rw [hk, hun] at hy
    exact absurd hy (by decide)
  exact ⟨z, List.mem_of_getElem? ((List.getElem?_set_ne hne).trans hk), hun⟩

theorem closeBatches_stays {fuel : Nat} (hb : (s.ingestQueue p).batches = [b]) (hz : ∃ z ∈ b.slots, z.state = slUNREAD) :
    s.closeBatches p fuel = s := by
  obtain ⟨z, hz, hun⟩ := hz
  cases fuel with
  | zero => rfl
  | succ fuel =>
    have hany : b.slots.any (fun x => x.state == slUNREAD || x.state == slREAD) = true := List.any_eq_true.mpr ⟨z, hz, by simp [hun]⟩
    simp only [State.closeBatches, hb, hany, if_true]

theorem slotAt_slot (h : s.slotAt p v.toNat = some (b, j, y)) : b.slots[j]? = some y := by
  obtain ⟨b', -, h⟩ := Option.bind_eq_some_iff.mp h
  obtain ⟨y', hy, h⟩ := Option.map_eq_some_iff.mp h
  cases h
  exact hy

/-- The zeros of a void sample are written. -/
def State.zeroSlot (s : State) (p : Nat) (b : IngBatch) (j : Nat) : State :=
  match b.chain j with
  | some c => s.store (s.slotAddr p c b j) (List.replicate c.slotBytes 0)
  | none => s

/-- A slot is void, its batch not yet closed. -/
def State.slotVoided (s : State) (p : Nat) (b : IngBatch) (j : Nat) (y : IngSlot) (cause : Nat) : State :=
  (((s.zeroSlot p b j).setBatch p (b.setSlot j { y with state := slVOID, cause := cause })).inc
    (F.INGEST_Q_VOID_count p ((cause - 1) / 4) ((cause - 1) % 4))).raise Code.INGEST_SAMPLE_VOID [p, b.num, j, cause]

theorem incField_ingest {g : Field} : (s.inc g).ingest = s.ingest := by rw [State.inc_def, set_ingest]

theorem zeroSlot_ingest : (s.zeroSlot p b j).ingest = s.ingest := by
  unfold State.zeroSlot
  split
  · exact (State.store_frame (Within.refl _) (.refl _ s)).ingest rfl
  · rfl

theorem slotVoided_queue (hb : (s.ingestQueue p).batches = [b]) : ((s.slotVoided p b j y cause).ingestQueue p).batches =
    [b.setSlot j { y with state := slVOID, cause := cause }] := by
  have hz : ((s.zeroSlot p b j).ingestQueue p).batches = [b] := by rw [ingestQueue_of_ingest zeroSlot_ingest, hb]
  rw [State.slotVoided, ingestQueue_of_ingest (raise_ingest.trans incField_ingest),
    setBatch_queue (b := b.setSlot j { y with state := slVOID, cause := cause }) hz rfl]

theorem setBatch_mem : (s.setBatch p b).mem = s.mem := (State.setQueue_frame (Within.refl _) (.refl _ s)).mem rfl

theorem slotVoided_mem (hc : b.chain j = some c) : (s.slotVoided p b j y cause).mem =
    (s.store (s.slotAddr p c b j) (List.replicate c.slotBytes 0)).mem := by
  rw [State.slotVoided, raise_mem, State.inc_def, set_mem, setBatch_mem, State.zeroSlot, hc]

theorem voidSample_stays (hb : (s.ingestQueue p).batches = [b]) (hj : b.slots[j]? = some y) (hy : y.state = slREAD)
    (hz : ∃ z ∈ b.slots, z.state = slUNREAD) : s.voidSample p b j y cause = s.slotVoided p b j y cause :=
  closeBatches_stays (slotVoided_queue hb) (unread_setSlot hj hy hz)

/-- The load figures are shown. -/
def State.loadShown (s : State) : State :=
  let (u, s) := s.draw
  let (v, s) := s.draw
  (s.set F.INGEST_LOAD_decoder (u % 101)).set F.INGEST_LOAD_augment (v % 101)

theorem get_loadShown {g : Field} (h : regKind g.key ≠ regKind F.INGEST_LOAD_decoder.key) : s.loadShown.get g = s.get g := by
  rw [State.loadShown, State.get_set_kind (by simpa using h), State.get_set_kind h]
  rfl

theorem loadShown_sampleResult : s.loadShown.sampleResult p b c r x = s.sampleResult p b c r x :=
  sampleResult_of rfl rfl rfl rfl fun n => get_loadShown (by simp [F.INGEST_Q_LIMITS_stale_ms_kind])

theorem exec_sampleComplete : exec (.sampleComplete p v x) s = execSampleComplete p v x s := rfl
theorem exec_slotTimeout : exec (.slotTimeout p v) s = execSlotTimeout p v s := rfl

/-- The tensor of a sample is written, and its slot is done; its batch has not yet closed. -/
def State.slotDone (s : State) (p : Nat) (b : IngBatch) (j : Nat) (y : IngSlot) (c : ChainCfg) (bs : List Byte) : State :=
  ((s.store (s.slotAddr p c b j) ((bs ++ List.replicate c.slotBytes 0).take c.slotBytes)).setBatch p
    (b.setSlot j { y with state := slDONE })).inc (F.INGEST_Q_DONE_samples p)

theorem slotDone_queue (hb : (s.ingestQueue p).batches = [b]) :
    ((s.slotDone p b j y c bs).ingestQueue p).batches = [b.setSlot j { y with state := slDONE }] := by
  rw [State.slotDone, ingestQueue_of_ingest incField_ingest,
    setBatch_queue (b := b.setSlot j { y with state := slDONE }) (y := b) ?_ rfl]
  rw [ingestQueue_of_ingest ((State.store_frame (Within.refl _) (.refl _ s)).ingest rfl), hb]

section Ends
variable (hp : s.powered = true) (hs : s.slotAt p v.toNat = some (b, j, y)) (hy : y.state = slREAD)
  (hb : (s.ingestQueue p).batches = [b]) (hz : ∃ z ∈ b.slots, z.state = slUNREAD)
include hp hs hy hb hz

/-- A sample that completes is written to its slot, which is done. -/
theorem sampleComplete_done (hc : b.chain j = some c) (hr : s.sampleResult p b c y.desc x = .inr bs) :
    ∃ t, exec (.sampleComplete p v x) s = .next t ∧ (t.ingestQueue p).batches = [b.setSlot j { y with state := slDONE }] ∧
      t.mem = (s.store (s.slotAddr p c b j) ((bs ++ List.replicate c.slotBytes 0).take c.slotBytes)).mem ∧
      t.get (F.INGEST_Q_DONE_samples p) = min (s.get (F.INGEST_Q_DONE_samples p) + 1) (2 ^ 32 - 1) := by
  have hq : ((s.loadShown.slotDone p b j y c bs).ingestQueue p).batches = _ := slotDone_queue hb
  rw [exec_sampleComplete, execSampleComplete]
  refine run_answers_of_effect hp (u := s.loadShown.slotDone p b j y c bs) ?_ fun t ht => ?_
  · rw [hs]
    refine (if_neg (by simp [hy])).trans ?_
    change (match b.chain j with | none => _ | some c => _) = _
    rw [hc]
    change (match s.loadShown.sampleResult p b c y.desc x with | .inl cause => _ | .inr bs => _) = _
    rw [loadShown_sampleResult, hr]
    exact closeBatches_stays hq (unread_setSlot (slotAt_slot hs) hy hz)
  · have hstore := (State.store_frame (W := State.store_mask) (a := s.loadShown.slotAddr p c b j)
      (bs := (bs ++ List.replicate c.slotBytes 0).take c.slotBytes) (Within.refl _) (.refl _ s.loadShown)).get
      (F.INGEST_Q_DONE_samples p) (by simp; decide)
    refine ⟨by rw [ingestQueue_of_ingest ht.ingest_driven, hq], ?_, ?_⟩
    · rw [ht.mem_driven, State.slotDone, State.inc_def, set_mem, setBatch_mem, store_mem, store_mem]
      rfl
    · rw [ht.get_driven (by simp; decide), State.slotDone, get_inc (by simp [F.INGEST_Q_DONE_samples]), get_setBatch (by simp; decide), hstore, get_loadShown (by simp)]
      rfl

/-- A sample that ends with a cause is void. -/
theorem sampleComplete_void (hc : b.chain j = some c) (hr : s.sampleResult p b c y.desc x = .inl cause) :
    ∃ t, exec (.sampleComplete p v x) s = .next t ∧
      (t.ingestQueue p).batches = [b.setSlot j { y with state := slVOID, cause := cause }] ∧
      t.mem = (s.store (s.slotAddr p c b j) (List.replicate c.slotBytes 0)).mem ∧
      t.wrote Code.INGEST_SAMPLE_VOID [p, b.num, j, cause] := by
  rw [exec_sampleComplete, execSampleComplete]
  refine run_answers_of_effect hp (u := s.loadShown.slotVoided p b j y cause) ?_ fun t ht => ?_
  · rw [hs]
    refine (if_neg (by simp [hy])).trans ?_
    change (match b.chain j with | none => _ | some c => _) = _
    rw [hc]
    change (match s.loadShown.sampleResult p b c y.desc x with | .inl cause => _ | .inr bs => _) = _
    rw [loadShown_sampleResult, hr]
    exact voidSample_stays hb (slotAt_slot hs) hy hz
  · refine ⟨?_, ?_, ht.wrote_driven raise_wrote⟩
    · rw [ingestQueue_of_ingest ht.ingest_driven]
      exact slotVoided_queue (s := s.loadShown) hb
    · rw [ht.mem_driven, slotVoided_mem hc, store_mem, store_mem]
      rfl

/-- A slot read but not done in time is void with LATE. -/
theorem slotTimeout_late : ∃ t, exec (.slotTimeout p v) s = .next t ∧
    (t.ingestQueue p).batches = [b.setSlot j { y with state := slVOID, cause := vcLATE }] ∧
    t.wrote Code.INGEST_SAMPLE_VOID [p, b.num, j, vcLATE] := by
  rw [exec_slotTimeout, execSlotTimeout]
  refine run_answers_of_effect hp (u := s.slotVoided p b j y vcLATE) ?_ fun t ht => ⟨?_, ht.wrote_driven raise_wrote⟩
  · rw [hs]
    exact (if_neg (by rw [hy]; decide)).trans ((if_pos (by rw [hy]; decide)).trans (voidSample_stays hb (slotAt_slot hs) hy hz))
  · rw [ingestQueue_of_ingest ht.ingest_driven, slotVoided_queue hb]

end Ends

/-- A slot that is not waiting for its sample does not complete. -/
theorem sampleComplete_leaves (hp : s.powered = true) (h : ∀ b j y, s.slotAt p v.toNat = some (b, j, y) → y.state ≠ slREAD) :
    ∃ t, exec (.sampleComplete p v x) s = .next t ∧ t.ingest = s.ingest ∧ t.mem = s.mem := by
  rw [exec_sampleComplete, execSampleComplete]
  refine run_answers_of_effect hp (u := s) ?_ fun t ht => ⟨ht.ingest_driven, ht.mem_driven⟩
  split
  next => rfl
  next b j y hs => exact if_pos (by simpa using h b j y hs)

/-- A slot that has ended is not timed. -/
theorem slotTimeout_leaves (hp : s.powered = true)
    (h : ∀ b j y, s.slotAt p v.toNat = some (b, j, y) → y.state ≠ slREAD ∧ y.state ≠ slUNREAD) :
    ∃ t, exec (.slotTimeout p v) s = .next t ∧ t.ingest = s.ingest ∧ t.mem = s.mem := by
  rw [exec_slotTimeout, execSlotTimeout]
  refine run_answers_of_effect hp (u := s) ?_ fun t ht => ⟨ht.ingest_driven, ht.mem_driven⟩
  split
  next => rfl
  next b j y hs =>
    obtain ⟨hread, hunread⟩ := h b j y hs
    exact (if_neg (by simpa using hunread)).trans (if_neg (by simpa using hread))

end Sample

end Ingest

/-- Settles O27: every command of a queue is a branch of its effect, and a batch with a slot still to be read stays open while its
samples end. -/
theorem ingestCommands : Obligations.IngestCommands := by
  unfold Obligations.IngestCommands
  refine ⟨fun s i p hp => ingestStart_runs hp, fun s i p hp => ingestStop_stops hp, fun s i p hp => ingestStop_stays hp,
    fun s i p hp => setSeed_takes hp, fun s i p hp => setEpoch_takes hp, fun s i p v hp hm => ingestDoorbell_taken hp hm,
    fun s i p v hp hm => ingestDoorbell_wild hp hm, fun s i p hp => ingestCmd_role hp, fun s i p hp => ingestCmd_role hp,
    fun s i p hp => ingestCmd_role hp, fun s i p hp => ingestCmd_role hp, fun s i p hp => ingestDoorbell_role hp, ?opens,
    fun s p r hp => descriptorRead_idle hp, ?done, ?void, fun s p v x hp => sampleComplete_leaves hp, ?late,
    fun s p v hp => slotTimeout_leaves hp⟩
  case opens =>
    exact fun s p r n k hp hsize hn hrun hhead hb hk hnext => descriptorRead_opens hp hsize hn hrun hhead hb hk hnext
  case done => exact fun s p v x b j y c bs hp hs hy hc hr hb hz => sampleComplete_done hp hs hy hb hz hc hr
  case void => exact fun s p v x b j y c cause hp hs hy hc hr hb hz => sampleComplete_void hp hs hy hb hz hc hr
  case late => exact fun s p v b j y hp hs hy hb hz => slotTimeout_late hp hs hy hb hz

end Sys2Proof.Machine
end

section
/-! PROOFS. Position channels (R303 to R308, R310): counting, faults and speed. -/

namespace Sys2Proof.Machine

open Sys2Proof

section Channel

variable {s t u : State} {n m : Nat} {d : Int} {c : Chan} {g : Field}

/-! ### Reading a channel -/

theorem chan_of_motion (h : t.motion = s.motion) : t.chan n = s.chan n := by rw [State.chan, h, State.chan]

theorem chan_of_chans (h : t.motion.chans = s.motion.chans) : t.chan n = s.chan n := by rw [State.chan, h, State.chan]

theorem chanCfg_of_cfg (h : t.cfg = s.cfg) : t.chanCfg n = s.chanCfg n := by rw [State.chanCfg, h, State.chanCfg]

theorem setChan_chan : (s.setChan n c).chan n = c := tget_tset_self _ _ _ _

theorem incField_motion : (s.inc g).motion = s.motion := by rw [State.inc_def, set_motion]

/-- What the speed of a channel rests on. -/
theorem speed_of (hm : t.motion = s.motion) (hc : t.cfg = s.cfg) (hk : t.clk = s.clk)
    (hs : t.get (F.MOT_CH_STATUS_speed_state n) = s.get (F.MOT_CH_STATUS_speed_state n)) : t.speed n = s.speed n := by
  unfold State.speed State.serialMode
  rw [chan_of_motion hm, chanCfg_of_cfg hc, hk, hs]

theorem set64_motion {f : Field} {v : Nat} : (s.set64 f g v).motion = s.motion := by rw [State.set64, set_motion, set_motion]

theorem showChan_motion : (s.showChan n).motion = s.motion := (State.showChan_frame (Within.refl _) (.refl _ s)).motion rfl

theorem chooseMethod_motion : (s.chooseMethod n).motion = s.motion := (State.chooseMethod_frame (Within.refl _) (.refl _ s)).motion rfl

theorem get_showChan (h : State.showChan_mask.testBit (regKind g.key) = false) : (s.showChan n).get g = s.get g :=
  (State.showChan_frame (Within.refl _) (.refl _ s)).get g h

theorem showChan_cntState : (s.showChan n).cntState m = s.cntState m := get_showChan (by simp; decide)

/-- A field of MOT_CH_STATUS apart from the speed's. -/
theorem get_chooseMethod_apart (hk : g.key = (F.MOT_CH_STATUS_speed_state n).key) (h32 : g.lo + g.width ≤ 32)
    (hd : g.lo + g.width ≤ 2 ∨ 4 ≤ g.lo) : (s.chooseMethod n).get g = s.get g := by
  have hset : ∀ (u : State) (v : Nat), (u.set (F.MOT_CH_STATUS_speed_state n) v).get g = u.get g := fun u v =>
    State.get_set_field (f := g) (g := F.MOT_CH_STATUS_speed_state n) hk (by simpa [F.MOT_CH_STATUS_speed_state] using hd) h32
  unfold State.chooseMethod
  extract_lets c cfg st u v
  have hu : u.get g = s.get g := by
    unfold u
    split
    · exact hset _ _
    · rfl
  split
  · exact hset _ _
  · split
    · exact hset _ _
    · split
      · exact (hset _ _).trans hu
      · split
        · exact (hset _ _).trans hu
        · exact hu

theorem chooseMethod_cntState : (s.chooseMethod n).cntState n = s.cntState n :=
  get_chooseMethod_apart rfl (by simp [F.MOT_CH_STATUS_count_state]) (by simp [F.MOT_CH_STATUS_count_state])

theorem chooseMethod_badRun : (s.chooseMethod n).get (F.MOT_CH_STATUS_bad_run n) = s.get (F.MOT_CH_STATUS_bad_run n) :=
  get_chooseMethod_apart rfl (by simp [F.MOT_CH_STATUS_bad_run]) (by simp [F.MOT_CH_STATUS_bad_run])

/-- The registers of a channel show the low word of its count. -/
theorem showChan_countLo : (s.showChan n).get (F.MOT_CH_COUNT_LO_count n) = ofSigned 64 (s.chan n).count % 2 ^ 32 := by
  unfold State.showChan
  extract_lets c s1 v s2 s3 s4 s5
  unfold s5 s4 s3 s2 s1 State.setBit
  rw [State.get_set_kind (by simp), State.get_set_kind (by simp), State.get_set_kind (by simp), State.get_set_kind (by simp),
    State.get_set_kind (by simp), State.set64, State.get_set_kind (by simp)]
  exact State.get_set (by simp [F.MOT_CH_COUNT_LO_count])

theorem showChan_speed : (s.showChan n).get (F.MOT_CH_SPEED_speed n) =
    ofSigned 32 ((16 * (s.speed n).1) / ((s.speed n).2 : Int)) % 2 ^ 32 := by
  unfold State.showChan
  extract_lets c s1 v s2 s3 s4 s5
  unfold s5 s4 s3 s2 State.setBit
  rw [State.get_set_kind (by simp), State.get_set_kind (by simp), State.get_set_kind (by simp), State.get_set_kind (by simp),
    State.get_set (by simp [F.MOT_CH_SPEED_speed])]
  have hv : v = s.speed n := speed_of set64_motion rfl rfl (by
    unfold s1
    rw [State.set64, State.get_set_kind (by simp), State.get_set_kind (by simp)])
  rw [hv]
  rfl

theorem startDividers_chans {again : Bool} : (s.startDividers n again).motion.chans = s.motion.chans := by
  unfold State.startDividers
  refine each_keeps (fun u : State => u.motion.chans) (fun u d => ?_) _ s
  dsimp only
  split <;> rfl

theorem get_startDividers {again : Bool} (h : State.startDividers_mask.testBit (regKind g.key) = false) :
    (s.startDividers n again).get g = s.get g := (State.startDividers_frame (Within.refl _) (.refl _ s)).get g h

/-! ### Counting (R303, R304) -/

/-- A step moves the count, makes it VALID, and shows it. -/
theorem stepCount_moves (hlive : s.cntState n = cntWAIT ∨ s.cntState n = cntVALID) :
    ((s.stepCount n d).chan n).count = (s.chan n).count + (if (s.chanCfg n).reverse then -d else d) ∧
    (s.stepCount n d).cntState n = cntVALID ∧ (s.stepCount n d).get (F.MOT_CH_COUNT_LO_count n) =
      ofSigned 64 ((s.chan n).count + (if (s.chanCfg n).reverse then -d else d)) % 2 ^ 32 := by
  unfold State.stepCount
  extract_lets c first d s1 s2
  have hchan : (s2.chan n).count = c.count + d := by
    have h1 : (s1.chan n).count = c.count + d := by rw [setChan_chan]
    unfold s2
    split
    · rw [chan_of_chans startDividers_chans]
      exact h1
    · exact h1
  have hstate : s2.cntState n = cntVALID := by
    unfold s2
    split
    · exact (get_startDividers (by simp; decide)).trans (State.get_set (by simp [F.MOT_CH_STATUS_count_state]))
    next h => exact hlive.resolve_left (by simpa [first] using h)
  have hm : (s2.chooseMethod n).chan n = s2.chan n := chan_of_motion chooseMethod_motion
  rw [showChan_countLo, chan_of_motion showChan_motion, hm, hchan, showChan_cntState, chooseMethod_cntState]
  exact ⟨rfl, hstate, rfl⟩

/-! ### Milepost entries -/

theorem get_setEntry {k : Nat} {e : Option Milepost} (h : State.setEntry_mask.testBit (regKind g.key) = false) :
    (s.setEntry k e).get g = s.get g := (State.setEntry_frame (Within.refl _) (.refl _ s)).get g h

theorem setEntry_chans {k : Nat} {e : Option Milepost} : (s.setEntry k e).motion.chans = s.motion.chans := rfl

theorem doubt_chans {code : Nat} : (s.doubt n code).motion.chans = s.motion.chans := by
  unfold State.doubt
  refine each_keeps (fun u : State => u.motion.chans) (fun u x => ?_) _ s
  exact setEntry_chans

theorem get_doubt {code : Nat} (h : State.doubt_mask.testBit (regKind g.key) = false) : (s.doubt n code).get g = s.get g :=
  (State.doubt_frame (Within.refl _) (.refl _ s)).get g h

theorem endPulse_chans {u : Pulse} : (s.endPulse u).motion.chans = s.motion.chans := by
  unfold State.endPulse
  extract_lets s1
  split
  · split <;> rfl
  · rfl

theorem endPulse_entries {u : Pulse} : (s.endPulse u).motion.entries ⊆ s.motion.entries := by
  unfold State.endPulse
  extract_lets s1
  split
  · split
    · exact List.filter_subset_self _
    · exact List.Subset.refl _
  · exact List.Subset.refl _

theorem each_entries {α : Type} {f : State → α → State} (hf : ∀ s a, (f s a).motion.entries ⊆ s.motion.entries) :
    ∀ (l : List α) (s : State), (s.each l f).motion.entries ⊆ s.motion.entries
  | [], _ => List.Subset.refl _
  | a :: l, s => List.Subset.trans (each_entries hf l (f s a)) (hf s a)

theorem settle_motion {u : Subject} {o k c f : Nat} {v : Option VerdictIn} : (s.settle u o k c f v).motion = s.motion :=
  (State.settle_frame (Within.refl _) (.refl _ s)).motion rfl

/-! ### The safe state and the channels -/

theorem sendSafety_motion : s.sendSafety.motion = s.motion := (State.sendSafety_frame (Within.refl _) (.refl _ s)).motion rfl

theorem enterSafe_motion {c k : Nat} : (s.enterSafe c k).motion = s.motion ∨
    ∃ u : State, u.motion = s.motion ∧ (s.enterSafe c k).motion = u.endAllPulses.motion := by
  unfold State.enterSafe
  split
  · exact .inl rfl
  · refine .inr ⟨(((s.set F.SAFE_STATUS_state safeSAFE).set F.SAFE_CAUSE_code c).inc F.SAFE_CAUSE_entries).raise
      Code.SAFE_STATE_ENTERED [c, k], ?_, ?_⟩
    · rw [raise_motion, incField_motion, set_motion, set_motion]
    · rw [fireAll_motion, sendSafety_motion]

theorem endAllPulses_chans : s.endAllPulses.motion.chans = s.motion.chans := by
  unfold State.endAllPulses
  exact each_keeps (fun u : State => u.motion.chans) (fun _ _ => endPulse_chans) _ s

theorem endAllPulses_entries : s.endAllPulses.motion.entries ⊆ s.motion.entries := by
  unfold State.endAllPulses
  exact each_entries (fun _ _ => endPulse_entries) _ s

theorem enterSafe_chans {c k : Nat} : (s.enterSafe c k).motion.chans = s.motion.chans := by
  obtain h | ⟨u, hu, h⟩ := enterSafe_motion (s := s) (c := c) (k := k)
  · rw [h]
  · rw [h, endAllPulses_chans, hu]

theorem enterSafe_entries {c k : Nat} : (s.enterSafe c k).motion.entries ⊆ s.motion.entries := by
  obtain h | ⟨u, hu, h⟩ := enterSafe_motion (s := s) (c := c) (k := k)
  · rw [h]
    exact List.Subset.refl _
  · rw [h, ← hu]
    exact endAllPulses_entries

theorem get_enterSafeHeld {c k : Nat} (h : State.enterSafeHeld_mask.testBit (regKind g.key) = false) :
    (s.enterSafeHeld c k).get g = s.get g := (State.enterSafeHeld_frame (Within.refl _) (.refl _ s)).get g h

theorem enterSafeHeld_chans {c k : Nat} : (s.enterSafeHeld c k).motion.chans = s.motion.chans :=
  enterSafe_chans.trans (by rw [(State.causeOn_frame (Within.refl _) (.refl _ s)).motion rfl])

theorem enterSafeHeld_entries {c k : Nat} : (s.enterSafeHeld c k).motion.entries ⊆ s.motion.entries := by
  have hm : (s.causeOn c).motion = s.motion := (State.causeOn_frame (Within.refl _) (.refl _ s)).motion rfl
  exact List.Subset.trans enterSafe_entries (by rw [hm]; exact List.Subset.refl _)

/-! ### Faults (R308) -/

/-- Entries that wait for their count. -/
def Milepost.waits (e : Milepost) : Bool := e.state == 1 || e.state == 2

/-- One entry is withdrawn. -/
def State.withdrawOne (s : State) (x : Nat × Milepost) : State :=
  let s1 := s.setEntry x.1 none
  if x.2.state == 1 then
    s1.each ((s1.openSubjects x.2.part x.2.tag).filter (fun u => u.key == some x.1)) (fun s u =>
      s.settle u outINVALID 0 Code.POS_FAULT (mpFlags x.2) none)
  else s1

theorem withdraw_def : (s.withdraw n).2 = s.each ((s.chanEntries n).filter (fun x => x.2.waits)) State.withdrawOne := rfl

theorem withdrawOne_motion {x : Nat × Milepost} : (s.withdrawOne x).motion = (s.setEntry x.1 none).motion := by
  unfold State.withdrawOne
  extract_lets s1
  split
  · exact each_keeps (fun u : State => u.motion) (fun _ _ => settle_motion) _ s1
  · rfl

theorem withdrawOne_entries {x : Nat × Milepost} : (s.withdrawOne x).motion.entries = tdel s.motion.entries x.1 := by
  rw [withdrawOne_motion]
  rfl

theorem withdraw_chans : (s.withdraw n).2.motion.chans = s.motion.chans := by
  rw [withdraw_def]
  exact each_keeps (fun u : State => u.motion.chans) (fun u x => by rw [withdrawOne_motion, setEntry_chans]) _ s

/-- What is withdrawn one after the other is no longer there. -/
theorem each_withdrawOne_entries : ∀ (l : List (Nat × Milepost)) (s : State) (x : Nat × Milepost),
    x ∈ (s.each l State.withdrawOne).motion.entries → x ∈ s.motion.entries ∧ ∀ y ∈ l, y.1 ≠ x.1
  | [], _, _, h => ⟨h, fun _ hy => absurd hy (List.not_mem_nil)⟩
  | y :: l, s, x, h => by
    obtain ⟨hx, hl⟩ := each_withdrawOne_entries l (s.withdrawOne y) x h
    rw [withdrawOne_entries, tdel, List.mem_filter] at hx
    obtain ⟨hx, hne⟩ := hx
    refine ⟨hx, fun z hz => ?_⟩
    obtain rfl | hz := List.mem_cons.mp hz
    · exact fun e => absurd hne (by simp [e])
    · exact hl z hz

/-- No entry of a channel that has been withdrawn waits. -/
theorem withdraw_waits {x : Nat × Milepost} (hx : x ∈ (s.withdraw n).2.motion.entries) (hn : x.1 / 4096 = n) : x.2.waits = false := by
  rw [withdraw_def] at hx
  obtain ⟨hmem, hne⟩ := each_withdrawOne_entries _ s x hx
  by_contra hw
  exact hne x (List.mem_filter.mpr ⟨List.mem_filter.mpr ⟨hmem, by simpa using hn⟩, by simpa using hw⟩) rfl

/-- The channel is in FAULT, its entries withdrawn. -/
def State.chanFaulted (s : State) (n cause : Nat) : State :=
  ((s.set (F.MOT_CH_STATUS_count_state n) cntFAULT).set (F.MOT_CH_STATUS_fault_cause n) cause).set (F.MOT_CH_STATUS_speed_state n) 0

/-- The channel in FAULT has no speed and no index. -/
def State.chanStopped (s : State) (n cause : Nat) : State :=
  (s.chanFaulted n cause).setChan n { s.chan n with seen := 0, index := none }

/-- The fault is written and shown. -/
def State.faultShown (s : State) (n cause : Nat) : State :=
  (((s.chanStopped n cause).withdraw n).2.raise Code.POS_FAULT [n, cause, ((s.chanStopped n cause).withdraw n).1]).showChan n

/-- The channel carries a milepost of a SAFETY partition. -/
def State.carriesSafety (s : State) (n : Nat) : Bool := (s.chanEntries n).any (fun x => s.isSafetyPart x.2.part)

theorem posFault_stays {cause : Nat} (h : s.cntState n = cntFAULT ∨ s.cntState n = cntOFF) : s.posFault n cause = s :=
  if_pos (by simpa using h)

theorem posFault_faults {cause : Nat} (h : s.cntState n = cntWAIT ∨ s.cntState n = cntVALID) : s.posFault n cause =
    if s.carriesSafety n then (s.faultShown n cause).enterSafeHeld Code.POS_FAULT (sourceUnit 0x0C n) else s.faultShown n cause :=
  if_neg (by rcases h with h | h <;> (rw [h]; decide))

section FaultShown
variable {cause : Nat}

theorem get_faultShown (h : State.withdraw_mask.testBit (regKind g.key) = false) (hr : State.raise_mask.testBit (regKind g.key) = false)
    (hs : State.showChan_mask.testBit (regKind g.key) = false) : (s.faultShown n cause).get g = (s.chanFaulted n cause).get g := by
  rw [State.faultShown, get_showChan hs, get_raise hr, (State.withdraw_snd (Within.refl _) (.refl _ (s.chanStopped n cause))).get g h]
  rfl

theorem faultShown_chan : (s.faultShown n cause).chan n = { s.chan n with seen := 0, index := none } := by
  rw [State.faultShown, chan_of_motion showChan_motion, chan_of_motion raise_motion, chan_of_chans withdraw_chans, State.chanStopped,
    setChan_chan]

theorem chanFaulted_shows (hc : cause < 8) : (s.chanFaulted n cause).cntState n = cntFAULT ∧
    (s.chanFaulted n cause).get (F.MOT_CH_STATUS_fault_cause n) = cause ∧
    (s.chanFaulted n cause).get (F.MOT_CH_STATUS_speed_state n) = 0 ∧
    (s.chanFaulted n cause).get (F.MOT_CH_STATUS_bad_run n) = s.get (F.MOT_CH_STATUS_bad_run n) := by
  unfold State.chanFaulted State.cntState
  refine ⟨?_, ?_, State.get_set (by simp [F.MOT_CH_STATUS_speed_state]), ?_⟩
  · rw [State.get_set_field (f := F.MOT_CH_STATUS_count_state n) (g := F.MOT_CH_STATUS_speed_state n) rfl
      (.inl (by simp [F.MOT_CH_STATUS_count_state, F.MOT_CH_STATUS_speed_state])) (by simp [F.MOT_CH_STATUS_count_state]),
      State.get_set_field (f := F.MOT_CH_STATUS_count_state n) (g := F.MOT_CH_STATUS_fault_cause n) rfl
      (.inl (by simp [F.MOT_CH_STATUS_count_state, F.MOT_CH_STATUS_fault_cause])) (by simp [F.MOT_CH_STATUS_count_state])]
    exact State.get_set (by simp [F.MOT_CH_STATUS_count_state])
  · rw [State.get_set_field (f := F.MOT_CH_STATUS_fault_cause n) (g := F.MOT_CH_STATUS_speed_state n) rfl
      (.inr (by simp [F.MOT_CH_STATUS_fault_cause, F.MOT_CH_STATUS_speed_state])) (by simp [F.MOT_CH_STATUS_fault_cause])]
    exact (State.get_set (by simp [F.MOT_CH_STATUS_fault_cause])).trans (Nat.mod_eq_of_lt hc)
  · rw [State.get_set_field (f := F.MOT_CH_STATUS_bad_run n) (g := F.MOT_CH_STATUS_speed_state n) rfl
      (.inr (by simp [F.MOT_CH_STATUS_bad_run, F.MOT_CH_STATUS_speed_state])) (by simp [F.MOT_CH_STATUS_bad_run]),
      State.get_set_field (f := F.MOT_CH_STATUS_bad_run n) (g := F.MOT_CH_STATUS_fault_cause n) rfl
      (.inr (by simp [F.MOT_CH_STATUS_bad_run, F.MOT_CH_STATUS_fault_cause])) (by simp [F.MOT_CH_STATUS_bad_run]),
      State.get_set_field (f := F.MOT_CH_STATUS_bad_run n) (g := F.MOT_CH_STATUS_count_state n) rfl
      (.inr (by simp [F.MOT_CH_STATUS_bad_run, F.MOT_CH_STATUS_count_state])) (by simp [F.MOT_CH_STATUS_bad_run])]

theorem faultShown_waits {x : Nat × Milepost} (hx : x ∈ (s.faultShown n cause).motion.entries) (hn : x.1 / 4096 = n) :
    x.2.waits = false := by
  rw [State.faultShown, showChan_motion, raise_motion] at hx
  exact withdraw_waits hx hn

section Live
variable (h : s.cntState n = cntWAIT ∨ s.cntState n = cntVALID)
include h

theorem get_posFault (hg : regKind g.key = 210) : (s.posFault n cause).get g = (s.chanFaulted n cause).get g := by
  have hshown : (s.faultShown n cause).get g = (s.chanFaulted n cause).get g :=
    get_faultShown (by rw [hg]; decide) (by rw [hg]; decide) (by rw [hg]; decide)
  rw [posFault_faults h]
  split
  · exact (get_enterSafeHeld (by rw [hg]; decide)).trans hshown
  · exact hshown

theorem posFault_chan : (s.posFault n cause).chan n = { s.chan n with seen := 0, index := none } := by
  rw [posFault_faults h]
  split
  · exact (chan_of_chans enterSafeHeld_chans).trans faultShown_chan
  · exact faultShown_chan

theorem posFault_waits {x : Nat × Milepost} (hx : x ∈ (s.posFault n cause).chanEntries n) : x.2.waits = false := by
  obtain ⟨hmem, hn⟩ := List.mem_filter.mp hx
  rw [posFault_faults h] at hmem
  refine faultShown_waits (cause := cause) (s := s) ?_ (by simpa using hn)
  split at hmem
  · exact enterSafeHeld_entries hmem
  · exact hmem

theorem posFault_safe (hc : s.carriesSafety n = true) : (s.posFault n cause).get F.SAFE_STATUS_state = safeSAFE := by
  rw [posFault_faults h, if_pos hc]
  exact enterSafeHeld_state

end Live
end FaultShown

/-- A count error is counted and written, before its limit is looked at. -/
def State.errorCounted (s : State) (n cause : Nat) : State :=
  let c := s.chan n
  let s := s.setChan n { c with errTimes := s.clk.now :: c.errTimes.filter (fun t => s.clk.now - t < samplesPerMs) }
  ((s.inc (F.MOT_CH_ERR_errors n)).raise Code.POS_COUNT_ERROR [n, cause, ofSigned 32 c.count]).doubt n Code.POS_COUNT_ERROR

section CountError
variable {cause : Nat}

theorem countError_few (hfew : ((s.chan n).errTimes.filter (fun t => s.clk.now - t < samplesPerMs)).length < 16) :
    s.countError n cause = s.errorCounted n cause :=
  if_neg (by simp only [List.length_cons]; omega)

theorem countError_cases : s.countError n cause = s.errorCounted n cause ∨ s.countError n cause = (s.errorCounted n cause).posFault n 3 := by
  unfold State.countError
  extract_lets c times s1 s2 s3
  split
  · exact .inr rfl
  · exact .inl rfl

theorem get_errorCounted (hd : State.doubt_mask.testBit (regKind g.key) = false) (hr : State.raise_mask.testBit (regKind g.key) = false)
    (hk : regKind g.key ≠ 215) : (s.errorCounted n cause).get g = s.get g := by
  unfold State.errorCounted
  extract_lets c s1
  rw [get_doubt hd, get_raise hr, State.inc_def, State.get_set_kind (by simpa using hk)]
  rfl

theorem errorCounted_errors : (s.errorCounted n cause).get (F.MOT_CH_ERR_errors n) = min (s.get (F.MOT_CH_ERR_errors n) + 1) 65535 := by
  unfold State.errorCounted
  extract_lets c s1
  rw [get_doubt (by simp; decide), get_raise (by simp; decide), get_inc (by simp [F.MOT_CH_ERR_errors])]
  rfl

theorem errorCounted_count : ((s.errorCounted n cause).chan n).count = (s.chan n).count := by
  unfold State.errorCounted
  extract_lets c s1
  rw [chan_of_chans doubt_chans, chan_of_motion raise_motion, chan_of_motion incField_motion, setChan_chan]

theorem errorCounted_wrote : (s.errorCounted n cause).wrote Code.POS_COUNT_ERROR [n, cause, ofSigned 32 (s.chan n).count] := by
  unfold State.errorCounted
  extract_lets c s1
  exact wrote_of_recorder ((State.doubt_frame (Within.refl _) (.refl _ _)).recorder rfl) raise_wrote

theorem errorCounted_cntState : (s.errorCounted n cause).cntState n = s.cntState n :=
  get_errorCounted (by simp; decide) (by simp; decide) (by simp)

end CountError

end Channel

/-! ### COUNT_CHANGE -/

section Commands
variable {s t u : State} {i : Port} {n : ChanId} {v : BitVec 3} {o : Nat} {d : Int}

theorem exec_countChange : exec (.countChange n v) s = execCountChange n v s := rfl
theorem exec_indexPulse : exec (.indexPulse n) s = execIndexPulse n s := rfl
theorem exec_serialSample : exec (.serialSample n) s = execSerialSample n s := rfl
theorem exec_serialFrameDone {f : SerialFrame} : exec (.serialFrameDone n f) s = execSerialFrameDone n f s := rfl
theorem exec_amplitudeLoss : exec (.amplitudeLoss n) s = execAmplitudeLoss n s := rfl
theorem exec_amplitudeReturn : exec (.amplitudeReturn n) s = execAmplitudeReturn n s := rfl
theorem exec_speedStandstill : exec (.speedStandstill n) s = execSpeedStandstill n s := rfl
theorem exec_clearFault : exec (.clearFault i n) s = execClearFault i n s := rfl

theorem State.Same.chan_driven (h : t.Same u.driveOutputs) : t.chan n = u.chan n := chan_of_motion h.motion_driven
theorem State.Same.cntState_driven (h : t.Same u.driveOutputs) : t.cntState n = u.cntState n := h.get_driven (by simp; decide)

/-- The channel takes its levels. -/
def State.levelled (s : State) (n : Nat) (l : Nat) : State := s.setChan n { s.chan n with levels := some l }

theorem levelled_count {l : Nat} : ((s.levelled n l).chan n).count = (s.chan n).count := by rw [State.levelled, setChan_chan]

/-- The effect of a change of levels while the channel has levels and counts. -/
def State.levelStep (s : State) (n : Nat) (mode o v : Nat) : State :=
  if mode == 1 then
    if o % 4 == v % 4 then s
    else if (quadPos o + 2) % 4 == quadPos v then s.countError n errAB
    else
      let d := quadStep (s.chanCfg n).decode o v
      if d = 0 then s else s.stepCount n d
  else if o == v % 8 then s
  else if (hallPos o + 1) % 6 == hallPos v then s.stepCount n 1
  else if (hallPos v + 1) % 6 == hallPos o then s.stepCount n (-1)
  else s.countError n errHALLSKIP

theorem live_of (h : s.cntState n = cntWAIT ∨ s.cntState n = cntVALID) :
    (s.cntState n == cntWAIT || s.cntState n == cntVALID) = true := by simpa using h

/-- A command of a channel that moves a step. -/
theorem step_answers {f : State → State} {l : Nat} (hp : s.powered = true) (hlive : s.cntState n = cntWAIT ∨ s.cntState n = cntVALID)
    (hf : f s = (s.levelled n l).stepCount n d) : ∃ t, s.run f = .next t ∧
      (t.chan n).count = (s.chan n).count + (if (s.chanCfg n).reverse then -d else d) ∧ t.cntState n = cntVALID ∧
      t.get (F.MOT_CH_COUNT_LO_count n) =
        ofSigned 64 ((s.chan n).count + (if (s.chanCfg n).reverse then -d else d)) % 2 ^ 32 := by
  have hmoves := stepCount_moves (s := s.levelled n l) (d := d) hlive
  rw [levelled_count] at hmoves
  obtain ⟨hcount, hstate, hlo⟩ := hmoves
  exact run_answers_of_effect hp hf fun t ht => ⟨ht.chan_driven ▸ hcount, ht.cntState_driven.trans hstate,
    (ht.get_driven (by simp; decide)).trans hlo⟩

/-- A channel that counts steps from the levels it has to the new ones. -/
theorem countChange_steps (hmode : (s.chanCfg n).mode = 1 ∨ (s.chanCfg n).mode = 2 ∧ v.toNat ≠ 0 ∧ v.toNat ≠ 7)
    (ho : (s.chan n).levels = some o) (hlive : s.cntState n = cntWAIT ∨ s.cntState n = cntVALID) :
    ∃ f, exec (.countChange n v) s = s.run f ∧ f s =
      (s.levelled n (if (s.chanCfg n).mode == 1 then v.toNat % 4 else v.toNat % 8)).levelStep n (s.chanCfg n).mode o v.toNat := by
  have hv : v.toNat < 8 := v.isLt
  refine ⟨_, exec_countChange.trans rfl, ?_⟩
  dsimp only
  have hnot : ¬ (((s.chanCfg n).mode == 2 && (v.toNat % 8 == 0 || v.toNat % 8 == 7)) = true) := by
    rcases hmode with h | ⟨h, h0, h7⟩
    · simp [h]
    · simp [Nat.mod_eq_of_lt hv, h0, h7]
  have hcounts : ((s.chanCfg n).mode == 1 || (s.chanCfg n).mode == 2) = true := by rcases hmode with h | ⟨h, -⟩ <;> simp [h]
  rw [if_neg hnot, if_pos hcounts, ho]
  exact if_neg (by simp [live_of hlive])

theorem levelStep_quad {l : Nat} (hdiff : o % 4 ≠ v.toNat % 4) (hlegal : (quadPos o + 2) % 4 ≠ quadPos v.toNat)
    (hd : d = quadStep (s.chanCfg n).decode o v.toNat) (h0 : d ≠ 0) :
    (s.levelled n l).levelStep n 1 o v.toNat = (s.levelled n l).stepCount n d := by
  subst hd
  exact (if_pos rfl).trans ((if_neg (by simpa using hdiff)).trans ((if_neg (by simpa using hlegal)).trans (if_neg h0)))

/-- One quadrature place moves the count by the step of the decode mode. -/
theorem countChange_quad (hp : s.powered = true) (hmode : (s.chanCfg n).mode = 1)
    (hlive : s.cntState n = cntWAIT ∨ s.cntState n = cntVALID) (ho : (s.chan n).levels = some o) (hdiff : o % 4 ≠ v.toNat % 4)
    (hlegal : (quadPos o + 2) % 4 ≠ quadPos v.toNat) (hd : d = quadStep (s.chanCfg n).decode o v.toNat) (h0 : d ≠ 0) :
    ∃ t, exec (.countChange n v) s = .next t ∧ (t.chan n).count = (s.chan n).count + (if (s.chanCfg n).reverse then -d else d) ∧
      t.cntState n = cntVALID ∧ t.get (F.MOT_CH_COUNT_LO_count n) =
        ofSigned 64 ((s.chan n).count + (if (s.chanCfg n).reverse then -d else d)) % 2 ^ 32 := by
  obtain ⟨f, hexec, hf⟩ := countChange_steps (v := v) (.inl hmode) ho hlive
  rw [hmode, if_pos (by rfl)] at hf
  rw [hexec]
  refine step_answers (l := v.toNat % 4) hp hlive (hf.trans ?_)
  exact levelStep_quad hdiff hlegal hd h0

/-- A Hall channel steps by one place, forwards or backwards. -/
theorem countChange_hall (hp : s.powered = true) (hmode : (s.chanCfg n).mode = 2)
    (hlive : s.cntState n = cntWAIT ∨ s.cntState n = cntVALID) (h0 : v.toNat ≠ 0) (h7 : v.toNat ≠ 7)
    (ho : (s.chan n).levels = some o)
    (hd : (hallPos o + 1) % 6 = hallPos v.toNat ∧ d = 1 ∨ (hallPos v.toNat + 1) % 6 = hallPos o ∧ d = -1) :
    ∃ t, exec (.countChange n v) s = .next t ∧ (t.chan n).count = (s.chan n).count + (if (s.chanCfg n).reverse then -d else d) ∧
      t.cntState n = cntVALID ∧ t.get (F.MOT_CH_COUNT_LO_count n) =
        ofSigned 64 ((s.chan n).count + (if (s.chanCfg n).reverse then -d else d)) % 2 ^ 32 := by
  obtain ⟨f, hexec, hf⟩ := countChange_steps (v := v) (.inr ⟨hmode, h0, h7⟩) ho hlive
  have hlt : ∀ k, hallPos k < 6 := fun k => by
    unfold hallPos
    split <;> decide
  have hmod : hallPos (v.toNat % 8) = hallPos v.toNat := by simp [hallPos]
  have hdiff : o ≠ v.toNat % 8 := by
    rintro rfl
    have := hlt v.toNat
    rw [hmod] at hd
    omega
  rw [hmode, if_neg (by decide)] at hf
  rw [hexec]
  refine step_answers (l := v.toNat % 8) hp hlive (hf.trans ?_)
  refine (if_neg (by decide)).trans ((if_neg (by simpa using hdiff)).trans ?_)
  rcases hd with ⟨hfwd, rfl⟩ | ⟨hback, rfl⟩
  · exact if_pos (by simpa using hfwd)
  · have := hlt v.toNat
    exact (if_neg (by rw [beq_iff_eq]; omega)).trans (if_pos (by simpa using hback))

/-- The first levels of an incremental channel are taken without a step. -/
theorem countChange_first (hp : s.powered = true) (hmode : (s.chanCfg n).mode = 1) (ho : (s.chan n).levels = none) :
    ∃ t, exec (.countChange n v) s = .next t ∧ t.chan n = { s.chan n with levels := some (v.toNat % 4) } ∧
      t.cntState n = s.cntState n ∧ t.get (F.MOT_CH_ERR_errors n) = s.get (F.MOT_CH_ERR_errors n) := by
  rw [exec_countChange, execCountChange]
  refine run_answers_of_effect hp (u := s.levelled n (v.toNat % 4)) ?_ fun t ht => ?_
  · simp [hmode, ho, State.levelled]
  · exact ⟨ht.chan_driven.trans setChan_chan, ht.cntState_driven, ht.get_driven (by simp; decide)⟩

/-- An illegal change is counted as an error, and moves nothing. -/
theorem countChange_illegal (hp : s.powered = true) (hmode : (s.chanCfg n).mode = 1)
    (hlive : s.cntState n = cntWAIT ∨ s.cntState n = cntVALID) (ho : (s.chan n).levels = some o) (hdiff : o % 4 ≠ v.toNat % 4)
    (hbad : (quadPos o + 2) % 4 = quadPos v.toNat) (hnone : (s.chan n).errTimes = []) :
    ∃ t, exec (.countChange n v) s = .next t ∧ (t.chan n).count = (s.chan n).count ∧
      t.get (F.MOT_CH_ERR_errors n) = min (s.get (F.MOT_CH_ERR_errors n) + 1) 65535 ∧
      t.wrote Code.POS_COUNT_ERROR [n, errAB, ofSigned 32 (s.chan n).count] := by
  obtain ⟨f, hexec, hf⟩ := countChange_steps (v := v) (.inl hmode) ho hlive
  rw [hexec]
  have hfew : (((s.levelled n (v.toNat % 4)).chan n).errTimes.filter
      (fun t => (s.levelled n (v.toNat % 4)).clk.now - t < samplesPerMs)).length < 16 := by
    rw [State.levelled, setChan_chan, hnone]
    exact Nat.zero_lt_succ _
  refine run_answers_of_effect hp (u := (s.levelled n (v.toNat % 4)).errorCounted n errAB) (hf.trans ?_) fun t ht => ?_
  · rw [hmode]
    exact (if_pos rfl).trans ((if_neg (by simpa using hdiff)).trans ((if_pos (by simpa using hbad)).trans (countError_few hfew)))
  · refine ⟨?_, (ht.get_driven (by simp; decide)).trans errorCounted_errors, ht.wrote_driven ?_⟩
    · rw [ht.chan_driven, errorCounted_count, levelled_count]
    · rw [← levelled_count (l := v.toNat % 4)]
      exact errorCounted_wrote

/-- A channel that does not count moves nothing. -/
theorem countChange_idle (hp : s.powered = true) (hw : s.cntState n ≠ cntWAIT) (hv : s.cntState n ≠ cntVALID) :
    ∃ t, exec (.countChange n v) s = .next t ∧ (t.chan n).count = (s.chan n).count ∧ t.cntState n = s.cntState n := by
  rw [exec_countChange, execCountChange]
  refine State.run_answers hp fun t ht => ?_
  have hlive : (s.cntState n == cntWAIT || s.cntState n == cntVALID) = false := by simp [hw, hv]
  rw [ht.chan_driven, ht.cntState_driven]
  dsimp only
  rw [hlive]
  split
  · exact ⟨rfl, rfl⟩
  · split
    · split
      · exact ⟨levelled_count, rfl⟩
      · exact ⟨levelled_count, rfl⟩
    · exact ⟨rfl, rfl⟩

/-! ### The index (R304) -/

theorem ofSigned_lt {w : Nat} {x : Int} : ofSigned w x < 2 ^ w := by
  have hpos : (0 : Int) < 2 ^ w := by positivity
  unfold ofSigned
  rw [Int.toNat_lt (Int.emod_nonneg _ hpos.ne')]
  exact_mod_cast Int.emod_lt_of_pos x hpos

theorem index_set {x : Int} : (s.set (F.MOT_CH_INDEX_count n) (ofSigned 32 x)).get (F.MOT_CH_INDEX_count n) = ofSigned 32 x :=
  (State.get_set (by simp [F.MOT_CH_INDEX_count])).trans (Nat.mod_eq_of_lt ofSigned_lt)

/-- The index latches the count. -/
theorem indexPulse_latches (hp : s.powered = true) (hmode : (s.chanCfg n).mode = 1) (hf : s.cntState n ≠ cntFAULT)
    (hi : (s.chan n).index = none) : ∃ t, exec (.indexPulse n) s = .next t ∧ (t.chan n).index = some (s.chan n).count ∧
      t.get (F.MOT_CH_INDEX_count n) = ofSigned 32 (s.chan n).count ∧ (t.chan n).count = (s.chan n).count := by
  rw [exec_indexPulse, execIndexPulse]
  refine run_answers_of_effect hp (u := (s.setChan n { s.chan n with index := some (s.chan n).count }).set (F.MOT_CH_INDEX_count n)
    (ofSigned 32 (s.chan n).count)) ?_ fun t ht => ?_
  · simp [hmode, hf, hi]
  · have hc := ht.chan_driven.trans ((chan_of_motion set_motion).trans setChan_chan)
    rw [hc, ht.get_driven (by rw [F.MOT_CH_INDEX_count_kind]; decide)]
    exact ⟨rfl, index_set, rfl⟩

/-- The index of a channel without one, or in FAULT, moves nothing; of an incremental one it shows the count. -/
theorem indexPulse_faulted (hp : s.powered = true) (h : (s.chanCfg n).mode ≠ 1 ∨ s.cntState n = cntFAULT) :
    ∃ t, exec (.indexPulse n) s = .next t ∧ t.motion = s.motion ∧
      ((s.chanCfg n).mode = 1 → t.get (F.MOT_CH_INDEX_count n) = ofSigned 32 (s.chan n).count) := by
  rw [exec_indexPulse, execIndexPulse]
  by_cases hmode : (s.chanCfg n).mode = 1
  · have hf := h.resolve_left (not_not_intro hmode)
    refine run_answers_of_effect hp (u := s.set (F.MOT_CH_INDEX_count n) (ofSigned 32 (s.chan n).count)) (by simp [hmode, hf])
      fun t ht => ⟨ht.motion_driven, fun _ => (ht.get_driven (by simp; decide)).trans index_set⟩
  · exact run_answers_of_effect hp (u := s) (by simp [hmode]) fun t ht => ⟨ht.motion_driven, fun h => absurd h hmode⟩

/-! ### Serial encoders (R305, R306) -/

theorem serialSample_clocks (hp : s.powered = true) (hm : s.serialMode n = true) (ho : s.cntState n ≠ cntOFF) :
    ∃ t, exec (.serialSample n) s = .next t ∧ t.chan n = { s.chan n with clocking := true } := by
  rw [exec_serialSample, execSerialSample]
  exact run_answers_of_effect hp (if_pos (by simpa [hm] using ho)) fun t ht => ht.chan_driven.trans setChan_chan

theorem serialSample_idle (hp : s.powered = true) (h : s.serialMode n = false ∨ s.cntState n = cntOFF) :
    ∃ t, exec (.serialSample n) s = .next t ∧ t.motion = s.motion := by
  rw [exec_serialSample, execSerialSample]
  exact run_answers_of_effect hp (if_neg (by rcases h with h | h <;> simp [h])) fun t ht => ht.motion_driven

theorem serialFrameDone_unclocked {f : SerialFrame} (hp : s.powered = true) (h : (s.chan n).clocking = false) :
    ∃ t, exec (.serialFrameDone n f) s = .next t ∧ t.motion = s.motion := by
  rw [exec_serialFrameDone, execSerialFrameDone]
  exact run_answers_of_effect hp (if_pos (by simp [h])) fun t ht => ht.motion_driven

/-- The reading of a frame before its first field. -/
def reading0 : Reading :=
  { pos := 0, posBits := 0, turn := 0, turnBits := 0, parityBad := false, crcBad := false, error := false, warning := false }

/-- What is counted before a frame is judged. -/
def State.serialSeen (s : State) (n : Nat) (warns : Bool) : State :=
  let s := s.setChan n { s.chan n with clocking := false }
  if warns then s.inc (F.MOT_CH_ERR_warnings n) else s

theorem serialSeen_chan {w : Bool} : (s.serialSeen n w).chan n = { s.chan n with clocking := false } := by
  unfold State.serialSeen
  extract_lets u
  split
  · rw [chan_of_motion incField_motion, setChan_chan]
  · exact setChan_chan

theorem get_serialSeen {w : Bool} {g : Field} (h : regKind g.key ≠ 215) : (s.serialSeen n w).get g = s.get g := by
  unfold State.serialSeen
  extract_lets u
  split
  · rw [State.inc_def, State.get_set_kind (by simpa using h)]
    rfl
  · rfl

/-- A good first reading is taken. -/
def State.firstReading (s : State) (n raw : Nat) : State :=
  let c := s.chan n
  let s := s.setChan n { c with count := raw, reading := some raw, awaitFirst := false, everGood := true,
                                changes := c.withChange s.clk.now (raw - c.count), seen := c.seen + 1 }
  (((s.set (F.MOT_CH_STATUS_count_state n) cntVALID).startDividers n false).chooseMethod n).showChan n

theorem firstReading_shows {s : State} {n raw : Nat} : ((s.firstReading n raw).chan n).count = raw ∧
    ((s.firstReading n raw).chan n).awaitFirst = false ∧ ((s.firstReading n raw).chan n).clocking = (s.chan n).clocking ∧
    (s.firstReading n raw).cntState n = cntVALID ∧
    (s.firstReading n raw).get (F.MOT_CH_STATUS_bad_run n) = s.get (F.MOT_CH_STATUS_bad_run n) := by
  unfold State.firstReading
  extract_lets c s1
  have hchan : (((s1.set (F.MOT_CH_STATUS_count_state n) cntVALID).startDividers n false).chooseMethod n |>.showChan n).chan n =
      s1.chan n := by
    rw [chan_of_motion showChan_motion, chan_of_motion chooseMethod_motion, chan_of_chans startDividers_chans, chan_of_motion set_motion]
  rw [hchan, setChan_chan, showChan_cntState, chooseMethod_cntState, get_showChan (by simp; decide), chooseMethod_badRun,
    State.cntState, get_startDividers (by simp; decide), get_startDividers (by simp; decide)]
  refine ⟨rfl, rfl, rfl, State.get_set (by simp [F.MOT_CH_STATUS_count_state]), ?_⟩
  exact State.get_set_field (f := F.MOT_CH_STATUS_bad_run n) (g := F.MOT_CH_STATUS_count_state n) rfl
    (.inr (by simp [F.MOT_CH_STATUS_bad_run, F.MOT_CH_STATUS_count_state])) (by simp [F.MOT_CH_STATUS_bad_run])

/-- The first good frame sets the count and makes it VALID. -/
theorem serialFrameDone_first {f : SerialFrame} {r : Reading} {raw : Nat} (hp : s.powered = true)
    (hc : (s.chan n).clocking = true) (hsm : f.startMissing = false) (hil : f.idleLow = false)
    (hr : r = readFields (s.framing n).fields f.bits [] reading0) (hpar : r.parityBad = false) (hcrc : r.crcBad = false)
    (herr : r.error = false) (hw : s.cntState n = cntWAIT) (haf : (s.chan n).awaitFirst = true)
    (heg : (s.chan n).everGood = false)
    (hraw : raw = r.turn * 2 ^ r.posBits + (if (s.framing n).gray then grayDecode r.posBits r.pos else r.pos))
    (hrev : (s.chanCfg n).reverse = false) : ∃ t, exec (.serialFrameDone n f) s = .next t ∧ (t.chan n).count = raw ∧
      (t.chan n).awaitFirst = false ∧ (t.chan n).clocking = false ∧ t.cntState n = cntVALID ∧
      t.get (F.MOT_CH_STATUS_bad_run n) = 0 := by
  rw [exec_serialFrameDone, execSerialFrameDone]
  refine run_answers_of_effect hp (u := ((s.serialSeen n r.warning).set (F.MOT_CH_STATUS_bad_run n) 0).firstReading n raw) ?_ fun t ht => ?_
  · refine (if_neg (by simp [hc])).trans ?_
    extract_lets s1 g r' bitsN pos raw' v step tooFar s2 other sRun sBad s3 count d first src s4 s5
    have hr' : r' = r := hr.symm
    have hgray : raw' = raw := by rw [hraw]; unfold raw' pos; rw [hr']; rfl
    have hv : v = raw := (if_neg (by rw [show s1.chanCfg n = s.chanCfg n from rfl, hrev]; decide)).trans hgray
    have hother : other = false := by simp [other, tooFar, hr', hsm, hil, hpar, hcrc, herr, haf]
    have hs2 : s2 = s.serialSeen n r.warning := by simp [s2, hr', hsm, State.serialSeen, s1]
    have hs3 : s3 = (s.serialSeen n r.warning).set (F.MOT_CH_STATUS_bad_run n) 0 := by rw [← hs2]
    have hstate : s3.cntState n = cntWAIT := by
      rw [hs3, State.cntState, State.get_set_field (f := F.MOT_CH_STATUS_count_state n) (g := F.MOT_CH_STATUS_bad_run n) rfl
        (.inl (by simp [F.MOT_CH_STATUS_count_state, F.MOT_CH_STATUS_bad_run])) (by simp [F.MOT_CH_STATUS_count_state]),
        get_serialSeen (by simp)]
      exact hw
    have hcount : count = raw := by simp [count, haf, heg, hv]
    have hchan : s3.chan n = { s.chan n with clocking := false } := by
      rw [hs3, chan_of_motion set_motion, serialSeen_chan]
    have hs4 : s4 = (s3.setChan n { s3.chan n with
        count := raw, reading := some raw, awaitFirst := false, everGood := true,
        changes := (s3.chan n).withChange s3.clk.now (raw - (s3.chan n).count), seen := (s3.chan n).seen + 1 }) := by
      unfold s4 d src
      rw [hcount, hv, hchan]
      rfl
    refine (if_neg (by simp [hsm])).trans ((if_neg (by simp [hsm, hother])).trans ((if_neg (by rw [hstate]; decide)).trans ?_))
    rw [← hs3, State.firstReading]
    have hs5 : s5 = (s4.set (F.MOT_CH_STATUS_count_state n) cntVALID).startDividers n false := if_pos (by simp [first, hstate])
    rw [hs5, hs4]
  · obtain ⟨hcount, hawait, hclock, hstate, hrun⟩ := firstReading_shows (n := n)
      (s := (s.serialSeen n r.warning).set (F.MOT_CH_STATUS_bad_run n) 0) (raw := raw)
    rw [ht.chan_driven, ht.cntState_driven, ht.get_driven (by simp; decide), hcount, hawait, hclock, hstate, hrun,
      chan_of_motion set_motion, serialSeen_chan]
    exact ⟨rfl, rfl, rfl, rfl, State.get_set (by simp [F.MOT_CH_STATUS_bad_run])⟩

theorem posFault_cntState {n cause : Nat} (h : s.cntState n = cntWAIT ∨ s.cntState n = cntVALID) (hc : cause < 8) :
    (s.posFault n cause).cntState n = cntFAULT :=
  (get_posFault h (by simp)).trans (chanFaulted_shows hc).1

/-- A count error keeps the count and the run of bad samples, whether it is a fault or not. -/
theorem countError_keeps {n cause : Nat} (h : s.cntState n = cntVALID) :
    ((s.countError n cause).chan n).count = (s.chan n).count ∧
    (s.countError n cause).get (F.MOT_CH_STATUS_bad_run n) = s.get (F.MOT_CH_STATUS_bad_run n) ∧
    ((s.countError n cause).cntState n = cntVALID ∨ (s.countError n cause).cntState n = cntFAULT) := by
  have hlive : (s.errorCounted n cause).cntState n = cntVALID := errorCounted_cntState.trans h
  have hrun : (s.errorCounted n cause).get (F.MOT_CH_STATUS_bad_run n) = s.get (F.MOT_CH_STATUS_bad_run n) :=
    get_errorCounted (by simp; decide) (by simp; decide) (by simp)
  obtain he | he := countError_cases (s := s) (n := n) (cause := cause)
  · rw [he]
    exact ⟨errorCounted_count, hrun, .inl hlive⟩
  · obtain ⟨-, -, -, hbad⟩ := chanFaulted_shows (s := s.errorCounted n cause) (n := n) (cause := 3) (by decide)
    rw [he, posFault_chan (.inr hlive), get_posFault (.inr hlive) (by simp), hbad]
    exact ⟨errorCounted_count, hrun, .inr (posFault_cntState (.inr hlive) (by decide))⟩

/-- A run of bad frames above the limit is a FAULT. -/
theorem serialFrameDone_bad {f : SerialFrame} (hp : s.powered = true) (hc : (s.chan n).clocking = true) (hil : f.idleLow = true)
    (hlive : s.cntState n = cntVALID) (hlimit : (s.framing n).badLimit < s.get (F.MOT_CH_STATUS_bad_run n) + 1)
    (hrun : s.get (F.MOT_CH_STATUS_bad_run n) < 65535) : ∃ t, exec (.serialFrameDone n f) s = .next t ∧
      (t.chan n).count = (s.chan n).count ∧ t.cntState n = cntFAULT := by
  rw [exec_serialFrameDone, execSerialFrameDone]
  let w := (readFields (s.framing n).fields f.bits [] reading0).warning && !f.startMissing
  have hbadState : ((s.serialSeen n w).inc (F.MOT_CH_STATUS_bad_run n)).cntState n = cntVALID := by
    rw [State.inc_def, State.cntState, State.get_set_field (f := F.MOT_CH_STATUS_count_state n) (g := F.MOT_CH_STATUS_bad_run n) rfl
      (.inl (by simp [F.MOT_CH_STATUS_count_state, F.MOT_CH_STATUS_bad_run])) (by simp [F.MOT_CH_STATUS_count_state]),
      get_serialSeen (by simp)]
    exact hlive
  obtain ⟨hcount, hkept, hstate⟩ := countError_keeps (cause := errSERIAL) hbadState
  have hmore : ((s.serialSeen n w).inc (F.MOT_CH_STATUS_bad_run n)).get (F.MOT_CH_STATUS_bad_run n) =
      s.get (F.MOT_CH_STATUS_bad_run n) + 1 := by
    rw [get_inc (by simp [F.MOT_CH_STATUS_bad_run]), get_serialSeen (by simp)]
    exact Nat.min_eq_left (show _ + 1 ≤ 2 ^ 16 - 1 by omega)
  refine run_answers_of_effect hp (u := (((s.serialSeen n w).inc (F.MOT_CH_STATUS_bad_run n)).countError n errSERIAL).posFault n 4)
    ?_ fun t ht => ?_
  · refine (if_neg (by simp [hc])).trans ?_
    extract_lets s1 g r bitsN pos raw v step tooFar s2 other sRun sBad s3 count d first src s4 s5
    have hother : other = true := by simp [other, hil]
    have hs2 : s2 = s.serialSeen n w := rfl
    have hover : sBad.get (F.MOT_CH_STATUS_bad_run n) > g.badLimit := by
      unfold sBad sRun
      rw [hs2, hkept, hmore]
      exact hlimit
    refine (if_neg (by simp [hother])).trans ((if_pos (by simp [hother])).trans ((if_neg ?_).trans (if_pos hover)))
    rw [hs2, State.cntState, get_serialSeen (by simp)]
    exact fun h => absurd (hlive.symm.trans (eq_of_beq h)) (by decide)
  · rw [ht.chan_driven, ht.cntState_driven]
    rw [chan_of_motion incField_motion, serialSeen_chan] at hcount
    rcases hstate with h | h
    · rw [posFault_chan (.inr h)]
      exact ⟨hcount, posFault_cntState (.inr h) (by decide)⟩
    · rw [posFault_stays (.inl h)]
      exact ⟨hcount, h⟩

/-! ### Loss of amplitude (R308) -/

/-- Loss of amplitude is a FAULT that withdraws the mileposts of the channel. -/
theorem amplitudeLoss_faults (hp : s.powered = true) (hlive : s.cntState n = cntWAIT ∨ s.cntState n = cntVALID) :
    ∃ t, exec (.amplitudeLoss n) s = .next t ∧ (t.chan n).lineBreak = true ∧ t.cntState n = cntFAULT ∧
      t.get (F.MOT_CH_STATUS_fault_cause n) = 1 ∧ t.get (F.MOT_CH_STATUS_speed_state n) = 0 ∧
      (t.chan n).count = (s.chan n).count ∧ ∀ x ∈ t.chanEntries n, x.2.state ≠ 1 ∧ x.2.state ≠ 2 := by
  rw [exec_amplitudeLoss, execAmplitudeLoss]
  have hl : (s.setChan n { s.chan n with lineBreak := true }).cntState n = cntWAIT ∨
      (s.setChan n { s.chan n with lineBreak := true }).cntState n = cntVALID := hlive
  obtain ⟨-, hcause, hspeed, -⟩ := chanFaulted_shows (s := s.setChan n { s.chan n with lineBreak := true }) (n := n) (cause := 1)
    (by decide)
  refine run_answers_of_effect hp (u := (s.setChan n { s.chan n with lineBreak := true }).posFault n 1)
    (if_neg (by rcases hlive with h | h <;> (rw [h]; decide))) fun t ht => ?_
  rw [ht.chan_driven, ht.cntState_driven, ht.get_driven (by simp; decide), ht.get_driven (by simp; decide), posFault_chan hl,
    posFault_cntState hl (by decide), get_posFault hl (by simp), get_posFault hl (by simp), hcause, hspeed, setChan_chan]
  refine ⟨rfl, rfl, rfl, rfl, rfl, fun x hx => ?_⟩
  rw [State.chanEntries, ht.motion_driven] at hx
  simpa [Milepost.waits] using posFault_waits hl hx

theorem amplitudeLoss_safe {x : Nat × Milepost} (hp : s.powered = true) (hlive : s.cntState n = cntWAIT ∨ s.cntState n = cntVALID)
    (hx : x ∈ s.chanEntries n) (hs : s.isSafetyPart x.2.part = true) : ∃ t, exec (.amplitudeLoss n) s = .next t ∧
      t.get F.SAFE_STATUS_state = safeSAFE ∧ t.outputsOff := by
  rw [exec_amplitudeLoss, execAmplitudeLoss]
  have hsafe : ((s.setChan n { s.chan n with lineBreak := true }).posFault n 1).get F.SAFE_STATUS_state = safeSAFE :=
    posFault_safe hlive (List.any_eq_true.mpr ⟨x, hx, hs⟩)
  exact run_answers_of_effect hp (if_neg (by rcases hlive with h | h <;> (rw [h]; decide))) fun t ht =>
    ⟨ht.get.trans (driveOutputs_state.trans hsafe), Same_off ht hsafe⟩

theorem amplitudeLoss_off (hp : s.powered = true) (h : s.cntState n = cntOFF) :
    ∃ t, exec (.amplitudeLoss n) s = .next t ∧ t.motion = s.motion := by
  rw [exec_amplitudeLoss, execAmplitudeLoss]
  exact run_answers_of_effect hp (if_pos (by simpa using h)) fun t ht => ht.motion_driven

theorem amplitudeReturn_clears (hp : s.powered = true) : ∃ t, exec (.amplitudeReturn n) s = .next t ∧
    t.chan n = { s.chan n with lineBreak := false } ∧ t.cntState n = s.cntState n := by
  rw [exec_amplitudeReturn, execAmplitudeReturn]
  exact State.run_answers hp fun t ht => ⟨ht.chan_driven.trans setChan_chan, ht.cntState_driven⟩

/-! ### Standstill (R310) -/

/-- The period method gives 0 where no change lies within the standstill time. -/
theorem periodSpeed_still {c : Chan} {cfg : ChanCfg} {now : Nat} (h : ∀ x ∈ c.changes, cfg.standstill ≤ now - x.1) :
    periodSpeed c cfg now = (0, 1) := by
  unfold periodSpeed
  split
  next t1 d t0 d0 rest hc =>
    exact if_pos (h (t1, d) (by rw [hc]; exact List.mem_cons_self))
  next => rfl

theorem speedStandstill_stops (hp : s.powered = true) (hv : s.get (F.MOT_CH_STATUS_speed_state n) ≠ 0)
    (hm : s.serialMode n = false) (h : ∀ x ∈ (s.chan n).changes, (s.chanCfg n).standstill ≤ s.clk.now - x.1) :
    ∃ t, exec (.speedStandstill n) s = .next t ∧ t.get (F.MOT_CH_STATUS_speed_state n) = 1 ∧
      t.get (F.MOT_CH_SPEED_speed n) = 0 ∧ (t.chan n).count = (s.chan n).count := by
  rw [exec_speedStandstill, execSpeedStandstill]
  have hone : (s.set (F.MOT_CH_STATUS_speed_state n) 1).get (F.MOT_CH_STATUS_speed_state n) = 1 :=
    State.get_set (by simp [F.MOT_CH_STATUS_speed_state])
  have hmode : (s.set (F.MOT_CH_STATUS_speed_state n) 1).serialMode n = s.serialMode n := rfl
  have hspeed : (s.set (F.MOT_CH_STATUS_speed_state n) 1).speed n = (0, 1) := by
    unfold State.speed
    rw [hone, if_neg (by decide), hmode, hm, if_neg (by decide), if_pos rfl]
    exact periodSpeed_still h
  refine run_answers_of_effect hp (u := (s.set (F.MOT_CH_STATUS_speed_state n) 1).showChan n) (if_neg (by simp [hv, hm])) fun t ht => ?_
  rw [ht.chan_driven, ht.get_driven (by simp; decide), ht.get_driven (by simp; decide), get_showChan (by simp; decide), showChan_speed,
    hone, hspeed, chan_of_motion showChan_motion, chan_of_motion set_motion]
  exact ⟨rfl, rfl, rfl⟩

/-! ### CLEAR_FAULT (R308) -/

theorem motStatus_code {c r : Nat} (hc : c < 2 ^ 16) : (s.motStatus i c r).get (F.MOT_CMD_STATUS_code i) = c := by
  rw [State.motStatus, State.get_set_field (f := F.MOT_CMD_STATUS_code i) (g := F.MOT_CMD_STATUS_reason i) rfl
    (.inl (by simp [F.MOT_CMD_STATUS_code, F.MOT_CMD_STATUS_reason])) (by simp [F.MOT_CMD_STATUS_code])]
  exact (State.get_set (by simp [F.MOT_CMD_STATUS_code])).trans (Nat.mod_eq_of_lt hc)

theorem motStatus_reason {c r : Nat} (hr : r < 256) : (s.motStatus i c r).get (F.MOT_CMD_STATUS_reason i) = r :=
  (State.get_set (by simp [F.MOT_CMD_STATUS_reason])).trans (Nat.mod_eq_of_lt hr)

theorem get_motStatus {c r : Nat} {g : Field} (h : regKind g.key ≠ 208) : (s.motStatus i c r).get g = s.get g := by
  rw [State.motStatus, State.get_set_kind (by simpa using h), State.get_set_kind (by simpa using h)]

theorem motStatus_motion {c r : Nat} : (s.motStatus i c r).motion = s.motion := by rw [State.motStatus, set_motion, set_motion]

theorem motStatus_recorder {c r : Nat} : (s.motStatus i c r).recorder = s.recorder := by
  rw [State.motStatus, set_recorder, set_recorder]

/-- A command of MOT that is written and shown as refused. -/
theorem motRefused_answers {f : State → State} {code r : Nat} {ps : List Nat} (hp : s.powered = true)
    (he : f s = (s.raise code ps).motStatus i code r) (hc : code < 2 ^ 16) (hr : r < 256) : ∃ t, s.run f = .next t ∧
      t.cntState n = s.cntState n ∧ t.motion = s.motion ∧ t.wrote code ps ∧ t.get (F.MOT_CMD_STATUS_code i) = code ∧
      t.get (F.MOT_CMD_STATUS_reason i) = r :=
  run_answers_of_effect hp he fun t ht => ⟨ht.cntState_driven.trans ((get_motStatus (by simp)).trans (get_raise (by simp; decide))),
    ht.motion_driven.trans (motStatus_motion.trans raise_motion),
    ht.wrote_driven (wrote_of_recorder motStatus_recorder raise_wrote),
    (ht.get_driven (by simp; decide)).trans (motStatus_code hc), (ht.get_driven (by simp; decide)).trans (motStatus_reason hr)⟩

theorem clearFault_role (hp : s.powered = true) (hr : s.privileged i = false) : ∃ t, exec (.clearFault i n) s = .next t ∧
    t.cntState n = s.cntState n ∧ t.motion = s.motion ∧ t.wrote Code.MOT_ROLE [i, 4] ∧
    t.get (F.MOT_CMD_STATUS_code i) = Code.MOT_ROLE ∧ t.get (F.MOT_CMD_STATUS_reason i) = 0 := by
  rw [exec_clearFault, execClearFault]
  exact motRefused_answers hp (if_pos (by simp [hr])) (by decide) (by decide)

section Privileged
variable (hp : s.powered = true) (hr : s.privileged i = true)
include hp hr

theorem clearFault_none (hf : s.cntState n ≠ cntFAULT) : ∃ t, exec (.clearFault i n) s = .next t ∧
    t.cntState n = s.cntState n ∧ t.motion = s.motion ∧ t.wrote Code.MOT_CMD_REFUSED [i, n, 1] ∧
    t.get (F.MOT_CMD_STATUS_code i) = Code.MOT_CMD_REFUSED ∧ t.get (F.MOT_CMD_STATUS_reason i) = 2 := by
  rw [exec_clearFault, execClearFault]
  exact motRefused_answers hp ((if_neg (by simp [hr])).trans (if_pos (by simpa using hf))) (by decide) (by decide)

section InFault
variable (hf : s.cntState n = cntFAULT)
include hf

theorem clearFault_persists (hc : s.faultPersists n = true) : ∃ t, exec (.clearFault i n) s = .next t ∧
    t.cntState n = cntFAULT ∧ t.motion = s.motion ∧ t.wrote Code.MOT_CMD_REFUSED [i, n, 0] ∧
    t.get (F.MOT_CMD_STATUS_code i) = Code.MOT_CMD_REFUSED ∧ t.get (F.MOT_CMD_STATUS_reason i) = 1 := by
  rw [exec_clearFault, execClearFault, ← hf]
  exact motRefused_answers hp ((if_neg (by simp [hr])).trans ((if_neg (by simp [hf])).trans (if_pos hc))) (by decide) (by decide)

omit hp hr hf in
/-- The status of a channel waits, its fault gone. -/
def State.statusWaits (s : State) (n : Nat) : State :=
  ((s.set (F.MOT_CH_STATUS_count_state n) cntWAIT).set (F.MOT_CH_STATUS_fault_cause n) 0).set (F.MOT_CH_STATUS_bad_run n) 0

omit hp hr hf in
/-- The channel waits, its fault gone. -/
def State.chanWaits (s : State) (n : Nat) : State :=
  let s := s.statusWaits n
  s.setChan n { s.chan n with awaitFirst := true, seen := 0, errTimes := [] }

omit hp hr hf in
/-- The fault of a channel is cleared, written and shown. -/
def State.faultCleared (s : State) (i : Port) (n : Nat) : State :=
  let s := ((s.chanWaits n).raise Code.POS_FAULT_CLEARED [i, n]).startDividers n true
  let s := if (upTo 8).any (fun k => s.cntState k == cntFAULT) then s else s.causeOff Code.POS_FAULT
  s.showChan n

omit hp hr hf in
theorem get_setChan {n : Nat} {c : Chan} {g : Field} : (s.setChan n c).get g = s.get g := rfl

omit hp hr hf in
theorem chanWaits_shows : (s.chanWaits n).cntState n = cntWAIT ∧ (s.chanWaits n).get (F.MOT_CH_STATUS_fault_cause n) = 0 := by
  rw [State.cntState, State.chanWaits, get_setChan, get_setChan, State.statusWaits]
  refine ⟨?_, ?_⟩
  · rw [State.get_set_field (f := F.MOT_CH_STATUS_count_state n) (g := F.MOT_CH_STATUS_bad_run n) rfl
      (.inl (by simp [F.MOT_CH_STATUS_count_state, F.MOT_CH_STATUS_bad_run])) (by simp [F.MOT_CH_STATUS_count_state]),
      State.get_set_field (f := F.MOT_CH_STATUS_count_state n) (g := F.MOT_CH_STATUS_fault_cause n) rfl
      (.inl (by simp [F.MOT_CH_STATUS_count_state, F.MOT_CH_STATUS_fault_cause])) (by simp [F.MOT_CH_STATUS_count_state])]
    exact State.get_set (by simp [F.MOT_CH_STATUS_count_state])
  · rw [State.get_set_field (f := F.MOT_CH_STATUS_fault_cause n) (g := F.MOT_CH_STATUS_bad_run n) rfl
      (.inl (by simp [F.MOT_CH_STATUS_fault_cause, F.MOT_CH_STATUS_bad_run])) (by simp [F.MOT_CH_STATUS_fault_cause])]
    exact State.get_set (by simp [F.MOT_CH_STATUS_fault_cause])

omit hp hr hf in
theorem chanWaits_chan : (s.chanWaits n).chan n = { s.chan n with awaitFirst := true, seen := 0, errTimes := [] } := by
  have hm : (s.statusWaits n).motion = s.motion := by rw [State.statusWaits, set_motion, set_motion, set_motion]
  rw [State.chanWaits, setChan_chan, chan_of_motion hm]

omit hp hr hf in
theorem faultCleared_of {g : Field} (h : regKind g.key = 210) : (s.faultCleared i n).get g = (s.chanWaits n).get g := by
  unfold State.faultCleared
  extract_lets u v
  have hu : u.get g = (s.chanWaits n).get g :=
    (get_startDividers (by rw [h]; decide)).trans (get_raise (by rw [h]; decide))
  rw [get_showChan (by rw [h]; decide)]
  unfold v
  split
  · exact hu
  · exact ((State.causeOff_frame (Within.refl _) (.refl _ u)).get g (by rw [h]; decide)).trans hu

omit hp hr hf in
theorem faultCleared_chan : (s.faultCleared i n).chan n = (s.chanWaits n).chan n := by
  unfold State.faultCleared
  extract_lets u v
  have hu : u.chan n = (s.chanWaits n).chan n := (chan_of_chans startDividers_chans).trans (chan_of_motion raise_motion)
  rw [chan_of_motion showChan_motion]
  unfold v
  split
  · exact hu
  · exact (chan_of_motion ((State.causeOff_frame (Within.refl _) (.refl _ u)).motion rfl)).trans hu

/-- CLEAR_FAULT of a channel whose cause is gone returns it to WAIT. -/
theorem clearFault_clears (hc : s.faultPersists n = false) : ∃ t, exec (.clearFault i n) s = .next t ∧ t.cntState n = cntWAIT ∧
    t.get (F.MOT_CH_STATUS_fault_cause n) = 0 ∧ (t.chan n).awaitFirst = true ∧ (t.chan n).count = (s.chan n).count ∧
    t.get (F.MOT_CMD_STATUS_code i) = 0 ∧ t.get (F.MOT_CMD_STATUS_reason i) = 0 := by
  obtain ⟨hstate, hcause⟩ := chanWaits_shows (s := s) (n := n)
  rw [exec_clearFault, execClearFault]
  refine run_answers_of_effect hp (u := (s.faultCleared i n).motStatus i 0 0)
    ((if_neg (by simp [hr])).trans ((if_neg (by simp [hf])).trans (if_neg (by simp [hc])))) fun t ht => ?_
  rw [ht.chan_driven, ht.cntState_driven, ht.get_driven (by simp; decide), ht.get_driven (by simp; decide),
    ht.get_driven (by simp; decide), motStatus_code (by decide), motStatus_reason (by decide), get_motStatus (by simp),
    faultCleared_of (by simp), hcause, chan_of_motion motStatus_motion, faultCleared_chan, chanWaits_chan]
  exact ⟨(get_motStatus (by simp)).trans ((faultCleared_of (by simp)).trans hstate), rfl, rfl, rfl, rfl, rfl⟩

end InFault
end Privileged
end Commands

/-- Settles O28: each clause is one branch of a channel's command; a fault, a first reading and a step show what they leave. -/
theorem positionChannels : Obligations.PositionChannels := by
  unfold Obligations.PositionChannels
  refine ⟨?quad, ?first, ?illegal, ?forward, ?backward, ?idle, ?index, ?indexFault, ?sample, ?sampleIdle, ?frame, ?bad, ?unclocked, ?loss,
    ?lossSafe, ?lossOff, ?back, ?still, ?clear, ?persists, ?none, ?role⟩
  case quad => exact fun s n v o d hp hm hl ho hd hq hs h0 => countChange_quad hp hm hl ho hd hq hs h0
  case first => exact fun s n v hp hm ho => countChange_first hp hm ho
  case illegal => exact fun s n v o hp hm hl ho hd hq hn => countChange_illegal hp hm hl ho hd hq hn
  case forward => exact fun s n v o hp hm hl h0 h7 ho hq => countChange_hall hp hm hl h0 h7 ho (.inl ⟨hq, rfl⟩)
  case backward => exact fun s n v o hp hm hl h0 h7 ho hq => countChange_hall hp hm hl h0 h7 ho (.inr ⟨hq, rfl⟩)
  case idle => exact fun s n v hp hw hv => countChange_idle hp hw hv
  case index => exact fun s n hp hm hf hi => indexPulse_latches hp hm hf hi
  case indexFault => exact fun s n hp h => indexPulse_faulted hp h
  case sample => exact fun s n hp hm ho => serialSample_clocks hp hm ho
  case sampleIdle => exact fun s n hp h => serialSample_idle hp h
  case frame =>
    exact fun s n f r raw hp hc hsm hil hr hpar hcrc herr hw haf heg hraw hrev =>
      serialFrameDone_first hp hc hsm hil hr hpar hcrc herr hw haf heg hraw hrev
  case bad => exact fun s n f hp hc hil hv hl hr => serialFrameDone_bad hp hc hil hv hl hr
  case unclocked => exact fun s n f hp hc => serialFrameDone_unclocked hp hc
  case loss => exact fun s n hp hl => amplitudeLoss_faults hp hl
  case lossSafe => exact fun s n x hp hl hx hs => amplitudeLoss_safe hp hl hx hs
  case lossOff => exact fun s n hp h => amplitudeLoss_off hp h
  case back => exact fun s n hp => amplitudeReturn_clears hp
  case still => exact fun s n hp hv hm h => speedStandstill_stops hp hv hm h
  case clear => exact fun s i n hp hr hf hc => clearFault_clears hp hr hf hc
  case persists => exact fun s i n hp hr hf hc => clearFault_persists hp hr hf hc
  case none => exact fun s i n hp hr hf => clearFault_none hp hr hf
  case role => exact fun s i n hp hr => clearFault_role hp hr

end Sys2Proof.Machine
end

section
/-! PROOFS. Mileposts (R314, R316, R317, R322, R348): arming, firing, pulse steps and parts without a verdict. -/

namespace Sys2Proof.Machine

open Sys2Proof

section Milestones

variable {s t u : State} {p : Part} {r : List Byte} {c j k m : Nat} {e : Milepost} {g : Field} {x : Pulse}

theorem exec_arm : exec (.arm p r) s = execArm p r s := rfl
theorem exec_milepostFire {n : ChanId} : exec (.milepostFire n) s = execMilepostFire n s := rfl
theorem exec_pulseStepEnd {n : ChanId} {i : Fin 4096} : exec (.pulseStepEnd n i) s = execPulseStepEnd n i s := rfl
theorem exec_pulseMaxOn {n : ChanId} {i : Fin 4096} : exec (.pulseMaxOn n i) s = execPulseMaxOn n i s := rfl
theorem exec_noVerdict {g : BitVec 32} : exec (.noVerdict p g) s = execNoVerdict p g s := rfl

theorem State.Same.host_driven (h : t.Same u.driveOutputs) : t.host = u.host := h.host.trans driveOutputs_host

/-! ### Arming (R314) -/

theorem openSubject_motion {key : Option Nat} {ch out : Nat} {target : Int} :
    (s.openSubject k m key ch out target).motion = s.motion := (State.openSubject_frame (Within.refl _) (.refl _ s)).motion rfl

/-- The subject of an arm stands last, and is open. -/
theorem openSubject_last {key : Option Nat} {ch out : Nat} {target : Int} :
    ∃ x ∈ (s.openSubject k m key ch out target).host.subjects, x.part = k ∧ x.tag = m ∧ x.key = key ∧ x.settled = false := by
  unfold State.openSubject
  exact ⟨_, List.mem_append_right _ List.mem_cons_self, rfl, rfl, rfl, rfl⟩

theorem entries_setEntry : (s.setEntry k (some e)).motion.entries = tput s.motion.entries k e := rfl

section Arm
variable (hp : s.powered = true)
include hp

/-- Without a field side an arm only allocates the result. -/
theorem arm_noField (hf : s.hasField = false) : ∃ t, exec (.arm p r) s = .next t ∧ t.motion = s.motion ∧
    ∃ u ∈ t.host.subjects, u.part = p.val ∧ u.tag = recField r 4 4 ∧ u.key = none ∧ u.settled = false := by
  rw [exec_arm, execArm]
  refine run_answers_of_effect hp (if_pos (by simp [hf])) fun t ht => ⟨ht.motion_driven.trans openSubject_motion, ?_⟩
  rw [ht.host_driven]
  exact openSubject_last

section Field
variable (hf : s.hasField = true)
include hf

/-- An accepted ARM writes its record into the free entry. -/
theorem arm_accepted {y : PulseProgram} (ha : s.armReason p r = 0) (hc : c = recField r 1 1) (hj : s.freeEntry c = some j)
    (hy : s.pulseProgram p (recField r 2 1) (recField r 4 4) = some y) : ∃ t, exec (.arm p r) s = .next t ∧
      ∃ e, tfind t.motion.entries (mpKey c j) = some e ∧ e.state = 1 ∧ e.target = toSigned 64 (recField r 8 8) ∧
        e.tag = recField r 4 4 ∧ e.lead = recField r 16 2 ∧ e.program = y ∧ e.output = recField r 3 1 ∧ e.part = p.val ∧
        e.doubt = 0 := by
  subst hc
  rw [exec_arm, execArm]
  refine State.run_answers hp fun t ht => ?_
  rw [ht.motion_driven]
  dsimp only
  rw [if_neg (by simp [hf]), if_neg (by simp [ha]), hj, hy]
  dsimp only
  rw [openSubject_motion, entries_setEntry]
  exact ⟨_, tfind_tput_self _ _ _, rfl, rfl, rfl, rfl, rfl, rfl, rfl, rfl⟩

omit hp hf in
/-- A refused ARM is written and counted. -/
def State.armCounted (s : State) (p : Part) (r : List Byte) : State :=
  let s := s.raise Code.MILEPOST_REFUSED [recField r 1 1, recField r 4 4, s.armReason p r]
  if recField r 1 1 < 8 then s.inc (F.MOT_CH_LATE_refused (recField r 1 1)) else s

omit hp hf in
/-- The subject that opened last is settled as refused. -/
def State.settleLast (s : State) : State :=
  match s.host.subjects.getLast? with
  | some u => s.settle u outINVALID 0 Code.MILEPOST_REFUSED 0 none
  | none => s

omit hp hf in
theorem settleLast_frame : Frame State.settle_mask s s.settleLast := by
  unfold State.settleLast
  split
  · exact State.settle_frame (Within.refl _) (.refl _ s)
  · exact .refl _ s

omit hp hf in
/-- The part of a refused ARM has its result settled. -/
def State.armRefused (s : State) (p : Part) (r : List Byte) : State :=
  ((s.armCounted p r).openSubject p (recField r 4 4) none (recField r 1 1) (recField r 3 1)
    (toSigned 64 (recField r 8 8))).settleLast

omit hp hf in
theorem armCounted_motion : (s.armCounted p r).motion = s.motion := by
  unfold State.armCounted
  extract_lets u
  split
  · rw [incField_motion, raise_motion]
  · exact raise_motion

omit hp hf in
theorem armRefused_motion : (s.armRefused p r).motion = s.motion :=
  (settleLast_frame.motion rfl).trans (openSubject_motion.trans armCounted_motion)

omit hp hf in
theorem armRefused_count (hch : recField r 1 1 < 8) : (s.armRefused p r).get (F.MOT_CH_LATE_refused (recField r 1 1)) =
    min (s.get (F.MOT_CH_LATE_refused (recField r 1 1)) + 1) 65535 := by
  have hcount : (s.armCounted p r).get (F.MOT_CH_LATE_refused (recField r 1 1)) =
      min (s.get (F.MOT_CH_LATE_refused (recField r 1 1)) + 1) 65535 := by
    unfold State.armCounted
    extract_lets u
    rw [if_pos hch, get_inc (by simp [F.MOT_CH_LATE_refused]), get_raise (by simp; decide)]
    rfl
  rw [State.armRefused, settleLast_frame.get _ (by simp; decide),
    (State.openSubject_frame (Within.refl _) (.refl _ (s.armCounted p r))).get _ (by simp; decide), hcount]

omit hp hf in
theorem armRefused_cfg : (s.armRefused p r).cfg = s.cfg := by
  have hcounted : (s.armCounted p r).cfg = s.cfg := by
    unfold State.armCounted
    extract_lets u
    split
    · rw [State.inc_def, set_cfg, raise_cfg]
    · exact raise_cfg
  rw [State.armRefused, settleLast_frame.cfg rfl, (State.openSubject_frame (Within.refl _) (.refl _ (s.armCounted p r))).cfg rfl, hcounted]

omit hp hf in
theorem armReaction_of_cfg (h : t.cfg = s.cfg) :
    (t.isSafetyPart m && !t.armRefusalSoft m) = (s.isSafetyPart m && !s.armRefusalSoft m) := by
  unfold State.isSafetyPart State.part State.armRefusalSoft
  rw [h]

section Refused
variable (ha : s.armReason p r ≠ 0)
include ha

omit hp in
/-- The effect of a refused ARM: for a SAFETY partition without the milder reaction, the safe state. -/
theorem arm_refuses : ∃ f, exec (.arm p r) s = s.run f ∧ f s = if s.isSafetyPart p && !s.armRefusalSoft p then
    (s.armRefused p r).enterSafe Code.MILEPOST_REFUSED (sourceUnit 0x0C (recField r 1 1)) else s.armRefused p r := by
  refine ⟨_, exec_arm.trans rfl, (if_neg (by simp [hf])).trans ?_⟩
  extract_lets reason s1 s2 s3 s4
  refine (if_pos (by simpa using ha)).trans ?_
  have h4 : s4 = s.armRefused p r := by
    change s4 = s3.settleLast
    unfold s4
    clear_value s3
    rfl
  rw [h4, armReaction_of_cfg armRefused_cfg]

/-- A refused ARM of a partition whose reaction is milder, or not of SAFETY, leaves the entries. -/
theorem arm_refused (hch : recField r 1 1 < 8) (hs : s.isSafetyPart p = false ∨ s.armRefusalSoft p = true) :
    ∃ t, exec (.arm p r) s = .next t ∧ t.motion.entries = s.motion.entries ∧
      t.get (F.MOT_CH_LATE_refused (recField r 1 1)) = min (s.get (F.MOT_CH_LATE_refused (recField r 1 1)) + 1) 65535 := by
  obtain ⟨f, hexec, he⟩ := arm_refuses hf ha
  rw [hexec]
  exact run_answers_of_effect hp (he.trans (if_neg (by rcases hs with h | h <;> simp [h]))) fun t ht =>
    ⟨by rw [ht.motion_driven, armRefused_motion], (ht.get_driven (by simp; decide)).trans (armRefused_count hch)⟩

/-- A refused ARM of a SAFETY partition is the safe state. -/
theorem arm_safe (hs : s.isSafetyPart p = true) (hsoft : s.armRefusalSoft p = false) : ∃ t, exec (.arm p r) s = .next t ∧
    t.get F.SAFE_STATUS_state = safeSAFE ∧ t.outputsOff := by
  obtain ⟨f, hexec, he⟩ := arm_refuses hf ha
  rw [hexec]
  exact run_answers_of_effect hp (he.trans (if_pos (by simp [hs, hsoft]))) fun t ht =>
    ⟨ht.get.trans (driveOutputs_state.trans enterSafe_state), Same_off ht enterSafe_state⟩

end Refused
end Field
end Arm

/-! ### Firing (R314, R316, R317, R322) -/

/-- An entry that fires, the present count its place. -/
def State.firedEntry (s : State) (k : Nat) (e : Milepost) : Milepost :=
  { e with state := 3, firedAt := (s.chan (k / 4096)).count, late := e.state == 1, suppressed := e.suppressed || s.suppressed e.output,
           overlap := e.overlap || !(s.motion.pulses.filter (fun v => v.output == e.output)).isEmpty }

/-- The program that an entry starts. -/
def State.firedPulse (s : State) (k : Nat) (e : Milepost) : Pulse :=
  { entry := k, output := e.output, chan := k / 4096, serial := e.serial, program := e.program, step := 0,
    stepCount := (s.chan (k / 4096)).count, stepTime := s.clk.now, onTime := 0, on := false }

/-- The entry is FIRING and counted. -/
def State.firedCounted (s : State) (k : Nat) (e : Milepost) : State :=
  (s.setEntry k (some (s.firedEntry k e))).inc (F.MOT_CH_FIRED_count (k / 4096))

/-- The subject of an entry that fired while ARMED knows when. -/
def State.markFired (s : State) (k : Nat) (e e1 : Milepost) : State :=
  if e.state == 1 then
    { s with host := { s.host with subjects := s.host.subjects.map (fun u =>
        if u.key == some k && u.tag == e.tag && u.part == e.part && !u.settled then
          { u with firedPeriod := some s.period, flags := mpFlags e1 } else u) } }
  else s

theorem markFired_motion {y : Milepost} : (s.markFired k e y).motion = s.motion := by
  unfold State.markFired
  split <;> rfl

theorem get_markFired {y : Milepost} : (s.markFired k e y).get g = s.get g := by
  unfold State.markFired
  split <;> rfl

theorem markFired_clk {y : Milepost} : (s.markFired k e y).clk = s.clk := by
  unfold State.markFired
  split <;> rfl

/-- The entry is FIRING, counted, and its subject knows when. -/
def State.entryFiring (s : State) (k : Nat) (e : Milepost) : State := (s.firedCounted k e).markFired k e (s.firedEntry k e)

theorem entryFiring_motion : (s.entryFiring k e).motion = (s.setEntry k (some (s.firedEntry k e))).motion := by
  rw [State.entryFiring, markFired_motion, State.firedCounted, incField_motion]

theorem get_entryFiring : (s.entryFiring k e).get g =
    ((s.setEntry k (some (s.firedEntry k e))).inc (F.MOT_CH_FIRED_count (k / 4096))).get g := by
  rw [State.entryFiring, get_markFired, State.firedCounted]

theorem entryFiring_clk : (s.entryFiring k e).clk = s.clk := by
  rw [State.entryFiring, markFired_clk, State.firedCounted, State.inc_def, set_clk,
    (State.setEntry_frame (Within.refl _) (.refl _ s)).clk rfl]

theorem isSafe_of_get (h : t.get F.SAFE_STATUS_state = s.get F.SAFE_STATUS_state) : t.isSafe = s.isSafe := by
  rw [State.isSafe, h, State.isSafe]

theorem entryFiring_isSafe : (s.entryFiring k e).isSafe = s.isSafe := by
  refine isSafe_of_get ?_
  rw [get_entryFiring, State.inc_def, State.get_set_kind (by simp), get_setEntry (by decide)]

/-- A program begins to run. -/
def State.startPulse (s : State) (x : Pulse) : State := { s with motion := { s.motion with pulses := s.motion.pulses ++ [x] } }

/-- An output that can be driven, and no program running: the entry's program starts. -/
theorem fireEntry_starts (hsup : s.suppressed e.output = false) (hnone : s.motion.pulses = []) :
    s.fireEntry k e = ((s.entryFiring k e).startPulse (s.firedPulse k e)).beginStep (s.firedPulse k e) 0 := by
  have hsafe : (s.entryFiring k e).isSafe = false := by
    rw [entryFiring_isSafe]
    rw [State.suppressed, Bool.or_eq_false_iff] at hsup
    exact hsup.1
  unfold State.fireEntry
  extract_lets ch sup others beyond low lowTag e1 s1 host s2 s3 s4 y
  have hbeyond : beyond = false := by simp [beyond, others, hnone]
  have h1 : s1 = s.firedCounted k e := rfl
  have h2 : s2 = s.entryFiring k e := by
    rw [State.entryFiring, ← h1]
    rfl
  have h4 : s4 = s.entryFiring k e := by
    unfold s4 s3
    rw [hbeyond, show sup = false from hsup]
    exact h2
  have hy : y = s.firedPulse k e := by
    unfold y
    rw [h4, entryFiring_clk]
    rfl
  rw [if_neg (by rw [h4, hsafe]; decide), ← hy, ← h4]
  rfl

/-- A step that is an action runs. -/
theorem beginStep_runs {st : PulseStep} (hst : x.program.steps[m]? = some st) (ha : st.action ≠ 0) :
    (s.beginStep x m).motion.entries = s.motion.entries ∧ (s.motion.pulses = [x] → ∃ y, (s.beginStep x m).motion.pulses = [y] ∧
      y.entry = x.entry ∧ y.step = m ∧ y.output = x.output ∧ y.stepTime = s.clk.now ∧ y.on = (st.action == 1)) := by
  unfold State.beginStep
  rw [hst]
  dsimp only
  rw [if_neg ha]
  refine ⟨rfl, fun hx => ⟨{ x with on := st.action == 1, step := m, stepCount := (s.chan x.chan).count, stepTime := s.clk.now,
                                            onTime := x.onTime + (if x.on then s.clk.now - x.stepTime else 0) }, ?_, rfl, rfl, rfl, rfl, rfl⟩⟩
  rw [hx]
  simp

/-- In the safe state a firing is counted as suppressed. -/
def State.firingSuppressed (s : State) (k : Nat) (e : Milepost) : State :=
  let s1 := ((s.entryFiring k e).inc (F.MOT_CH_SUPPRESSED_count (k / 4096))).raise Code.MILEPOST_SUPPRESSED [k / 4096, e.tag, e.output]
  if !(s.motion.pulses.filter (fun v => v.output == e.output)).isEmpty then
    (s1.inc (F.MOT_CH_SUPPRESSED_overlaps (k / 4096))).raiseAt (k / 4096) Code.MP_OVERLAP [e.output, e.tag,
      (((s.motion.pulses.filter (fun v => v.output == e.output)).foldl (fun (b : Option Pulse) v => match b with
        | some x => if v.serial < x.serial then some v else b
        | none => some v) none).bind (fun v => (tfind s.motion.entries v.entry).map (fun x => x.tag))).getD 0]
  else s1

theorem firingSuppressed_motion : (s.firingSuppressed k e).motion = (s.setEntry k (some (s.firedEntry k e))).motion := by
  unfold State.firingSuppressed
  extract_lets s1
  have h1 : s1.motion = (s.setEntry k (some (s.firedEntry k e))).motion :=
    raise_motion.trans (incField_motion.trans entryFiring_motion)
  split
  · exact raiseAt_motion.trans (incField_motion.trans h1)
  · exact h1

theorem firingSuppressed_count : (s.firingSuppressed k e).get (F.MOT_CH_SUPPRESSED_count (k / 4096)) =
    min (s.get (F.MOT_CH_SUPPRESSED_count (k / 4096)) + 1) 65535 := by
  unfold State.firingSuppressed
  extract_lets s1
  have h1 : s1.get (F.MOT_CH_SUPPRESSED_count (k / 4096)) = min (s.get (F.MOT_CH_SUPPRESSED_count (k / 4096)) + 1) 65535 := by
    unfold s1
    rw [get_raise (by simp; decide), get_inc (by simp [F.MOT_CH_SUPPRESSED_count]), get_entryFiring, State.inc_def,
      State.get_set_kind (by simp), get_setEntry (by simp; decide)]
    rfl
  split
  · rw [get_raiseAt (by simp; decide), State.inc_def, State.get_set_field (f := F.MOT_CH_SUPPRESSED_count (k / 4096))
      (g := F.MOT_CH_SUPPRESSED_overlaps (k / 4096)) rfl
      (.inl (by simp [F.MOT_CH_SUPPRESSED_count, F.MOT_CH_SUPPRESSED_overlaps])) (by simp [F.MOT_CH_SUPPRESSED_count])]
    exact h1
  · exact h1

theorem firingSuppressed_isSafe : (s.firingSuppressed k e).isSafe = s.isSafe := by
  refine isSafe_of_get ?_
  unfold State.firingSuppressed
  extract_lets s1
  have h1 : s1.get F.SAFE_STATUS_state = s.get F.SAFE_STATUS_state := by
    unfold s1
    rw [get_raise (by decide), State.inc_def, State.get_set_kind (by simp), get_entryFiring, State.inc_def,
      State.get_set_kind (by simp), get_setEntry (by decide)]
  split
  · rw [get_raiseAt (by decide), State.inc_def, State.get_set_kind (by simp)]
    exact h1
  · exact h1

/-- In the safe state a firing ends at once. -/
theorem fireEntry_suppressed (hsafe : s.isSafe = true) : s.fireEntry k e = (s.firingSuppressed k e).setEntry k none := by
  have hsup : s.suppressed e.output = true := by rw [State.suppressed, hsafe]; rfl
  unfold State.fireEntry
  extract_lets ch sup others beyond low lowTag e1 s1 host s2 s3 s4 y
  have h1 : s1 = s.firedCounted k e := rfl
  have h2 : s2 = s.entryFiring k e := by
    rw [State.entryFiring, ← h1]
    rfl
  have h4 : s4 = s.firingSuppressed k e := by
    unfold s4 s3 State.firingSuppressed
    rw [show sup = true from hsup, h2]
    rfl
  rw [h4]
  exact if_pos (firingSuppressed_isSafe.trans hsafe)

section Fire
variable {n : ChanId} (hp : s.powered = true)
include hp

/-- The one entry due fires, and its program starts on its output. -/
theorem milepostFire_fires {st : PulseStep} (hd : s.due n = [(k, e)]) (hk : k / 4096 = n.val) (hsup : s.suppressed e.output = false)
    (hnone : s.motion.pulses = []) (hst : e.program.steps[0]? = some st) (ha : st.action ≠ 0) :
    ∃ t, exec (.milepostFire n) s = .next t ∧
      (∃ x, tfind t.motion.entries k = some x ∧ x.state = 3 ∧ x.firedAt = (s.chan n).count ∧ x.tag = e.tag) ∧
      t.get (F.MOT_CH_FIRED_count n) = min (s.get (F.MOT_CH_FIRED_count n) + 1) (2 ^ 32 - 1) ∧
      ∃ u, t.motion.pulses = [u] ∧ u.entry = k ∧ u.step = 0 ∧ u.output = e.output ∧ u.on = (st.action == 1) := by
  have hm := entryFiring_motion (s := s) (k := k) (e := e)
  obtain ⟨hentries, hpulses⟩ := beginStep_runs (s := (s.entryFiring k e).startPulse (s.firedPulse k e)) (x := s.firedPulse k e) hst ha
  obtain ⟨y, hy, hentry, hstep, hout, -, hon⟩ := hpulses (by rw [State.startPulse, hm]; exact congrArg (· ++ [_]) hnone)
  rw [exec_milepostFire, execMilepostFire]
  refine run_answers_of_effect hp (u := s.fireEntry k e) (by rw [hd]; rfl) fun t ht => ?_
  rw [ht.motion_driven, ht.get_driven (by simp; decide), fireEntry_starts hsup hnone]
  refine ⟨⟨s.firedEntry k e, ?_, rfl, by rw [← hk]; rfl, rfl⟩, ?_, y, hy, hentry, hstep, hout, hon⟩
  · rw [hentries, State.startPulse, hm, entries_setEntry, tfind_tput_self]
  · rw [(State.beginStep_frame (Within.refl _) (.refl _ _)).get _ (by simp; decide), State.startPulse]
    change (s.entryFiring k e).get _ = _
    rw [get_entryFiring, hk, get_inc (by simp [F.MOT_CH_FIRED_count]), get_setEntry (by simp; decide)]
    rfl

/-- In the safe state the one entry due is counted as suppressed and freed, and no program starts. -/
theorem milepostFire_suppressed (hd : s.due n = [(k, e)]) (hk : k / 4096 = n.val) (hsafe : s.get F.SAFE_STATUS_state = safeSAFE) :
    ∃ t, exec (.milepostFire n) s = .next t ∧ tfind t.motion.entries k = none ∧ t.motion.pulses = s.motion.pulses ∧
      t.get (F.MOT_CH_SUPPRESSED_count n) = min (s.get (F.MOT_CH_SUPPRESSED_count n) + 1) 65535 := by
  have hm := firingSuppressed_motion (s := s) (k := k) (e := e)
  rw [exec_milepostFire, execMilepostFire]
  refine run_answers_of_effect hp (u := s.fireEntry k e) (by rw [hd]; rfl) fun t ht => ?_
  rw [ht.motion_driven, ht.get_driven (by simp; decide), fireEntry_suppressed (by rw [State.isSafe, hsafe]; rfl),
    get_setEntry (by simp; decide), ← hk, firingSuppressed_count]
  exact ⟨tfind_tdel_self _ _, congrArg (·.pulses) hm, rfl⟩

theorem milepostFire_idle (hd : s.due n = []) : ∃ t, exec (.milepostFire n) s = .next t ∧ t.motion = s.motion := by
  rw [exec_milepostFire, execMilepostFire]
  exact run_answers_of_effect hp (u := s) (by rw [hd]; rfl) fun t ht => ht.motion_driven

end Fire

/-! ### Pulse steps (R316) -/

theorem endPulse_pulses (hx : s.motion.pulses = [x]) : (s.endPulse x).motion.pulses = [] := by
  unfold State.endPulse
  extract_lets m0 s1
  have h1 : s1.motion.pulses = [] := by
    change s.motion.pulses.filter _ = []
    rw [hx]
    simp
  split
  · split
    · exact h1
    · exact h1
  · exact h1

theorem endPulse_frees {y : Milepost} (hy : tfind s.motion.entries x.entry = some y) (hst : y.state = 3) (hs : y.serial = x.serial) :
    tfind (s.endPulse x).motion.entries x.entry = none := by
  unfold State.endPulse
  extract_lets m0 s1
  rw [show tfind s1.motion.entries x.entry = some y from hy]
  dsimp only
  rw [if_pos (by simp [hst, hs])]
  exact tfind_tdel_self _ _

theorem beginStep_ends (h : x.program.steps[m]? = none ∨ ∃ q, x.program.steps[m]? = some q ∧ q.action = 0) :
    s.beginStep x m = s.endPulse x := by
  unfold State.beginStep
  obtain h | ⟨q, h, hq⟩ := h
  · rw [h]
  · rw [h]
    exact if_pos hq

section Pulses
variable {n : ChanId} {i : Fin 4096} (hp : s.powered = true)
include hp

omit hp in
theorem pulseOf_one (hx : s.motion.pulses = [x]) (hi : x.entry = mpKey n i) : s.pulseOf (mpKey n i) = some x := by
  rw [State.pulseOf, hx]
  exact List.find?_cons_of_pos (by simp [hi])

/-- A step that has ended gives way to the next. -/
theorem pulseStepEnd_begins {st : PulseStep} {f : State → Prop} (hx : s.motion.pulses = [x]) (hi : x.entry = mpKey n i)
    (hst : x.program.steps[x.step]? = some st) (hend : st.counts = false ∨ st.duration ≤ (s.chan n).count - x.stepCount)
    (hf : ∀ t, t.motion = (s.beginStep x (x.step + 1)).motion → f t) : ∃ t, exec (.pulseStepEnd n i) s = .next t ∧ f t := by
  rw [exec_pulseStepEnd, execPulseStepEnd]
  refine run_answers_of_effect hp (u := s.beginStep x (x.step + 1)) ?_ fun t ht => hf t ht.motion_driven
  rw [pulseOf_one hx hi]
  dsimp only
  rw [hst]
  refine if_neg ?_
  rcases hend with h | h
  · simp [h]
  · simp [Int.not_lt.mpr h]

theorem pulseStepEnd_idle (h : s.pulseOf (mpKey n i) = none) :
    ∃ t, exec (.pulseStepEnd n i) s = .next t ∧ t.motion = s.motion := by
  rw [exec_pulseStepEnd, execPulseStepEnd]
  exact run_answers_of_effect hp (u := s) (by rw [h]) fun t ht => ht.motion_driven

/-- The longest ON time ends the program and frees its entry. -/
theorem pulseMaxOn_ends {y : Milepost} (hx : s.motion.pulses = [x]) (hi : x.entry = mpKey n i)
    (hy : tfind s.motion.entries x.entry = some y) (hst : y.state = 3) (hs : y.serial = x.serial) :
    ∃ t, exec (.pulseMaxOn n i) s = .next t ∧ t.motion.pulses = [] ∧ tfind t.motion.entries x.entry = none := by
  rw [exec_pulseMaxOn, execPulseMaxOn]
  refine run_answers_of_effect hp (u := (s.raiseAt n Code.PULSE_MAX_ON [x.output, y.prog]).endPulse x) ?_ fun t ht => ?_
  · rw [pulseOf_one hx hi]
    dsimp only
    rw [hy]
    rfl
  · rw [ht.motion_driven]
    exact ⟨endPulse_pulses (by rw [raiseAt_motion, hx]), endPulse_frees (by rw [raiseAt_motion, hy]) hst hs⟩

theorem pulseMaxOn_idle (h : s.pulseOf (mpKey n i) = none) : ∃ t, exec (.pulseMaxOn n i) s = .next t ∧ t.motion = s.motion := by
  rw [exec_pulseMaxOn, execPulseMaxOn]
  exact run_answers_of_effect hp (u := s) (by rw [h]) fun t ht => ht.motion_driven

end Pulses

/-! ### Parts without a verdict (R348) -/

section NoVerdict
variable {g : BitVec 32} {z : Subject} (hp : s.powered = true)
include hp

theorem noVerdict_waits (h : ∀ u ∈ s.openSubjects p g.toNat, u.firedPeriod = none) :
    ∃ t, exec (.noVerdict p g) s = .next t ∧ t.host.subjects = s.host.subjects ∧ t.motion = s.motion := by
  rw [exec_noVerdict, execNoVerdict]
  have hnone : (s.openSubjects p g.toNat).filter (fun u => u.firedPeriod.isSome) = [] :=
    List.filter_eq_nil_iff.mpr fun u hu => by simp [h u hu]
  exact run_answers_of_effect hp (u := s) (by rw [hnone]; rfl) fun t ht => ⟨by rw [ht.host_driven], ht.motion_driven⟩

omit hp in
theorem dropResult_subjects {i a : Nat} : (s.dropResult i a).host.subjects = s.host.subjects := by
  unfold State.dropResult
  extract_lets n h s1
  rw [fire_host, raise_host, State.inc_def, set_host]

omit hp in
theorem coalesce_subjects {i a : Nat} : (s.coalesce i a).host.subjects = s.host.subjects := by
  unfold State.coalesce
  extract_lets n c
  split
  · rw [fire_host]
  · rfl

omit hp in
theorem readySlot_subjects {x : Slot} {y : Payload} : (s.readySlot x y).host.subjects = s.host.subjects := by
  unfold State.readySlot
  extract_lets others h1 s1 full k x1 base w h2 x2 slots
  split
  · split
    · exact dropResult_subjects
    · exact coalesce_subjects
  · exact coalesce_subjects

omit hp in
theorem ready_subjects {a b : Nat} {y : Payload} : (s.ready a b y).host.subjects = s.host.subjects := by
  unfold State.ready
  refine each_keeps (fun u : State => u.host.subjects) (fun u x => ?_) _ s
  exact readySlot_subjects

omit hp in
/-- A subject that is settled without a verdict is settled, and the others are as before. -/
theorem settle_subjects {o a b c : Nat} (hz : z.settled = false) : (s.settle z o a b c none).host.subjects =
    s.host.subjects.map (fun y => if y.part == z.part && y.resNum == z.resNum then { y with settled := true } else y) := by
  unfold State.settle
  rw [if_neg (by simp [hz])]
  exact ready_subjects

omit hp in
theorem openSubjects_one (hs : s.host.subjects = [z]) (hk : z.kind = 1) (hpart : z.part = p.val) (htag : z.tag = g.toNat)
    (hz : z.settled = false) : s.openSubjects p g.toNat = [z] := by
  rw [State.openSubjects, hs]
  simp [hk, hpart, htag, hz]

/-- A fired part that has had no verdict for 64 periods is settled. -/
theorem noVerdict_settles (hs : s.host.subjects = [z]) (hk : z.kind = 1) (hpart : z.part = p.val) (htag : z.tag = g.toNat)
    (hz : z.settled = false) (hf : z.firedPeriod ≠ none) : ∃ t, exec (.noVerdict p g) s = .next t ∧
      s.openSubjects p g.toNat = [z] ∧ t.openSubjects p g.toNat = [] := by
  have hopen := openSubjects_one hs hk hpart htag hz
  rw [exec_noVerdict, execNoVerdict]
  refine run_answers_of_effect hp (u := (s.raise Code.NO_VERDICT [p, g.toNat]).settle z outINVALID 0 Code.NO_VERDICT z.flags none) ?_
    fun t ht => ⟨hopen, ?_⟩
  · rw [hopen, List.filter_cons_of_pos (by simpa [Option.isSome_iff_ne_none] using hf)]
    rfl
  · rw [State.openSubjects, ht.host_driven, settle_subjects hz, raise_host, hs]
    simp

end NoVerdict

end Milestones

/-- Settles O29: an arm writes its entry or is refused, a firing starts its program or is suppressed, and steps and ends act on the one
program that runs. -/
theorem mileposts : Obligations.Mileposts := by
  unfold Obligations.Mileposts
  refine ⟨?accepted, ?refused, ?toSafe, ?noField, ?fires, ?suppressed, ?none, ?next, ?last, ?noPulse, ?maxOn, ?noMaxOn, ?waits, ?silent⟩
  case accepted => exact fun s p r c j y hp hf ha hc hj hy => arm_accepted hp hf ha hc hj hy
  case refused => exact fun s p r hp hf ha hch hs => arm_refused hp hf ha hch hs
  case toSafe => exact fun s p r hp hf ha hs hsoft => arm_safe hp hf ha hs hsoft
  case noField => exact fun s p r hp hf => arm_noField hp hf
  case fires => exact fun s n k e st hp hd hk hsup hnone hst ha => milepostFire_fires hp hd hk hsup hnone hst ha
  case suppressed => exact fun s n k e hp hd hk hsafe => milepostFire_suppressed hp hd hk hsafe
  case none => exact fun s n hp hd => milepostFire_idle hp hd
  case next =>
    intro s n i x st q hp hx hi hst hend hq ha
    refine pulseStepEnd_begins hp hx hi hst hend fun t ht => ?_
    obtain ⟨y, hy, hentry, hstep, -, htime, hon⟩ := (beginStep_runs (s := s) hq ha).2 hx
    exact ⟨y, by rw [ht, hy], hentry, hstep, htime, hon⟩
  case last =>
    exact fun s n i x st hp hx hi hst hend hq => pulseStepEnd_begins hp hx hi hst hend fun t ht => by
      rw [ht, beginStep_ends hq, endPulse_pulses hx]
  case noPulse => exact fun s n i hp h => pulseStepEnd_idle hp h
  case maxOn => exact fun s n i x y hp hx hi hy hst hs => pulseMaxOn_ends hp hx hi hy hst hs
  case noMaxOn => exact fun s n i hp h => pulseMaxOn_idle hp h
  case waits => exact fun s p g hp h => noVerdict_waits hp h
  case silent => exact fun s p g z hp hs hk hpart htag hz hf => noVerdict_settles hp hs hk hpart htag hz hf

end Sys2Proof.Machine
end

section
/-! PROOFS. Trigger dividers (R311 to R313), field inputs (R318) and field outputs (R319, R321, R322). -/

namespace Sys2Proof.Machine

open Sys2Proof

/-! ### One bit of a mask -/

/-- Setting a bit that is clear changes that bit alone. -/
theorem testBit_add_two_pow {x i : Nat} (hx : x.testBit i = false) (j : Nat) :
    (x + 2 ^ i).testBit j = (x.testBit j || decide (j = i)) := by
  have hlow : x % 2 ^ (i + 1) < 2 ^ i := by
    by_contra h
    have hbit := Nat.testBit_of_two_pow_le_and_two_pow_add_one_gt (Nat.not_lt.mp h) (Nat.mod_lt x (Nat.two_pow_pos (i + 1)))
    rw [Nat.testBit_mod_two_pow, hx, Bool.and_false] at hbit
    exact Bool.noConfusion hbit
  have hsum : x % 2 ^ (i + 1) + 2 ^ i < 2 ^ (i + 1) := by
    have hpow : 2 ^ (i + 1) = 2 ^ i * 2 := Nat.pow_succ 2 i
    omega
  have hsplit : x + 2 ^ i = 2 ^ (i + 1) * (x / 2 ^ (i + 1)) + (x % 2 ^ (i + 1) + 2 ^ i) := by
    rw [← Nat.add_assoc, Nat.div_add_mod]
  have hlt : x % 2 ^ (i + 1) < 2 ^ (i + 1) := Nat.mod_lt x (Nat.two_pow_pos _)
  have hj : x.testBit j = if j < i + 1 then (x % 2 ^ (i + 1)).testBit j else (x / 2 ^ (i + 1)).testBit (j - (i + 1)) := by
    conv_lhs => rw [← Nat.div_add_mod x (2 ^ (i + 1))]
    exact Nat.testBit_two_pow_mul_add _ hlt j
  rw [hsplit, Nat.testBit_two_pow_mul_add _ hsum, hj]
  rcases Nat.lt_trichotomy j i with h | rfl | h
  · rw [if_pos (by omega), if_pos (by omega), Nat.add_comm, Nat.testBit_two_pow_add_gt h]
    simp [h.ne]
  · rw [if_pos (by omega), if_pos (by omega), Nat.add_comm, Nat.testBit_two_pow_add_eq]
    simp [Nat.testBit_mod_two_pow, hx]
  · rw [if_neg (by omega), if_neg (by omega)]
    simp [h.ne']

/-- Clearing a bit that is set changes that bit alone. -/
theorem testBit_sub_two_pow {x i : Nat} (hx : x.testBit i = true) (j : Nat) :
    (x - 2 ^ i).testBit j = (x.testBit j && !decide (j = i)) := by
  have hle : 2 ^ i ≤ x := Nat.ge_two_pow_of_testBit hx
  have hadd : x - 2 ^ i + 2 ^ i = x := Nat.sub_add_cancel hle
  have hclear : (x - 2 ^ i).testBit i = false := by
    rw [← hadd, Nat.add_comm, Nat.testBit_two_pow_add_eq] at hx
    simpa using hx
  have hset := testBit_add_two_pow hclear j
  rw [hadd] at hset
  rw [hset]
  by_cases h : j = i
  · subst h
    simp [hclear]
  · simp [h]

section FieldIo

variable {s t u : State} {g : Field}

/-! ### Dividers (R311 to R313) -/

section Dividers
variable {d : Fin 8} {v : Divider} {c : Int} {n : Nat}

theorem exec_dividerTrigger : exec (.dividerTrigger d) s = execDividerTrigger d s := rfl
theorem exec_triggerRelease : exec (.triggerRelease d) s = execTriggerRelease d s := rfl
theorem exec_pulseWidthEnd : exec (.pulseWidthEnd d) s = execPulseWidthEnd d s := rfl

theorem setDivider_divider : (s.setDivider n v).divider n = some v := tfind_tput_self _ _ _

theorem divider_of_motion (h : t.motion = s.motion) : t.divider n = s.divider n := by rw [State.divider, h, State.divider]

theorem doubt_dividers {k code : Nat} : (s.doubt k code).motion.dividers = s.motion.dividers := by
  unfold State.doubt
  refine each_keeps (fun u : State => u.motion.dividers) (fun u x => ?_) _ s
  rfl

theorem State.Same.divider_driven (h : t.Same u.driveOutputs) : t.divider n = u.divider n := divider_of_motion h.motion_driven

theorem emitTrigger_motion {k : Nat} : (s.emitTrigger n k).motion = s.motion :=
  (State.emitTrigger_frame (Within.refl _) (.refl _ s)).motion rfl

theorem get_of_regs (h : t.regs = s.regs) : t.get g = s.get g := by rw [State.get, h, State.get]

/-- A trigger takes the next number. -/
theorem emitTrigger_next {k : Nat} :
    (s.emitTrigger n k).get (F.MOT_DIV_TRIG_next n) = (s.get (F.MOT_DIV_TRIG_next n) + 1) % 65536 := by
  unfold State.emitTrigger
  extract_lets number s1 g
  have h1 : s1.get (F.MOT_DIV_TRIG_next n) = (s.get (F.MOT_DIV_TRIG_next n) + 1) % 65536 :=
    State.get_set (by simp [F.MOT_DIV_TRIG_next])
  have hrecord : ∀ (u : State) (k m : Nat), (u.each (upTo 8) (fun u i => if g.streams.testBit i then u.recordTrigger k i number m else u)).regs =
      u.regs := fun u k m => each_keeps (fun u : State => u.regs) (fun u i => by split <;> rfl) _ u
  have hregs : (s1.each (upTo 32) (fun u n =>
      if g.lanes.testBit n && (u.laneCfg n).enabled then
        let u := if u.laneState n == laneUP then u.sendTrigger n g.streams number k else u
        u.each (upTo 8) (fun u i => if g.streams.testBit i then u.recordTrigger n i number k else u)
      else u)).regs = s1.regs := by
    refine each_keeps (fun u : State => u.regs) (fun u n => ?_) _ s1
    dsimp only
    split
    · rw [hrecord]
      split <;> rfl
    · rfl
  exact (get_of_regs hregs).trans h1

/-- A trigger is dropped and reported; a count on its source channel is in doubt. -/
def State.triggerDropped (s : State) (d : Fin 8) (v : Divider) : State :=
  let s1 := ((s.setDivider d { v with threshold := v.threshold + (s.divCfg d).ratio }).inc (F.MOT_DIV_TRIG_dropped d)).raise
    Code.TRIGGER_DROPPED [d, s.get (F.MOT_DIV_TRIG_next d)]
  if (s1.divCfg d).source == 1 then s1.doubt (s1.divCfg d).channel Code.TRIGGER_DROPPED else s1

theorem triggerDropped_shows :
    (s.triggerDropped d v).divider d = some { v with threshold := v.threshold + (s.divCfg d).ratio } ∧
    (s.triggerDropped d v).get (F.MOT_DIV_TRIG_dropped d) = min (s.get (F.MOT_DIV_TRIG_dropped d) + 1) 65535 ∧
    (s.triggerDropped d v).wrote Code.TRIGGER_DROPPED [d, s.get (F.MOT_DIV_TRIG_next d)] ∧
    (s.triggerDropped d v).lane = s.lane := by
  unfold State.triggerDropped
  extract_lets s1
  have hdiv : s1.divider d = some { v with threshold := v.threshold + (s.divCfg d).ratio } :=
    (divider_of_motion (raise_motion.trans incField_motion)).trans setDivider_divider
  have hcount : s1.get (F.MOT_DIV_TRIG_dropped d) = min (s.get (F.MOT_DIV_TRIG_dropped d) + 1) 65535 := by
    unfold s1
    rw [get_raise (by simp; decide), get_inc (by simp [F.MOT_DIV_TRIG_dropped])]
    rfl
  have hlane : s1.lane = s.lane := by
    unfold s1
    rw [raise_lane, State.inc_def, set_lane]
    rfl
  split
  · have hdoubt := State.doubt_frame (n := (s1.divCfg d).channel) (code := Code.TRIGGER_DROPPED) (Within.refl _) (.refl _ s1)
    refine ⟨?_, (hdoubt.get _ (by simp; decide)).trans hcount, wrote_of_recorder (hdoubt.recorder rfl) raise_wrote,
      (hdoubt.lane rfl).trans hlane⟩
    rw [State.divider, doubt_dividers]
    exact hdiv
  · exact ⟨hdiv, hcount, raise_wrote, hlane⟩

section Due
variable (hp : s.powered = true) (hv : s.divider d = some v) (hc : s.divSource d = some c)
include hp hv hc

theorem dividerTrigger_idle (h : v.started = false ∨ c * 65536 < v.threshold) :
    ∃ t, exec (.dividerTrigger d) s = .next t ∧ t.motion = s.motion ∧ t.lane = s.lane := by
  rw [exec_dividerTrigger, execDividerTrigger]
  refine run_answers_of_effect hp (u := s) ?_ fun t ht => ⟨ht.motion_driven, ht.lane_driven⟩
  rw [hv, hc]
  exact if_pos (by rcases h with h | h <;> simp [h])

variable (hs : v.started = true) (ht : v.threshold ≤ c * 65536)
include hs ht

omit hp in
/-- The effect of a divider whose source has reached its threshold. -/
theorem dividerTrigger_due : ∃ f, exec (.dividerTrigger d) s = s.run f ∧ f s =
    let n := ofSigned 32 c
    let v1 := { v with threshold := v.threshold + (s.divCfg d).ratio }
    if !v.busy then (s.setDivider d { v1 with busy := true, pulse := true }).emitTrigger d n
    else if v.waiting.length < 4 then s.setDivider d { v1 with waiting := v.waiting ++ [n] }
    else
      let s := ((s.setDivider d v1).inc (F.MOT_DIV_TRIG_dropped d)).raise Code.TRIGGER_DROPPED
        [d, s.get (F.MOT_DIV_TRIG_next d)]
      if (s.divCfg d).source == 1 then s.doubt (s.divCfg d).channel Code.TRIGGER_DROPPED else s := by
  refine ⟨_, exec_dividerTrigger.trans rfl, ?_⟩
  rw [hv, hc]
  exact if_neg (by simp [hs, Int.not_lt.mpr ht])

/-- A free divider emits its trigger. -/
theorem dividerTrigger_emits (hb : v.busy = false) : ∃ t, exec (.dividerTrigger d) s = .next t ∧
    (t.divider d).map (fun w => (w.threshold, w.busy, w.pulse)) = some (v.threshold + (s.divCfg d).ratio, true, true) ∧
    t.get (F.MOT_DIV_TRIG_next d) = (s.get (F.MOT_DIV_TRIG_next d) + 1) % 65536 := by
  obtain ⟨f, hexec, he⟩ := dividerTrigger_due hv hc hs ht
  rw [hexec]
  refine run_answers_of_effect hp (he.trans (if_pos (by simp [hb]))) fun t ht => ⟨?_, ?_⟩
  · rw [ht.divider_driven, divider_of_motion emitTrigger_motion, setDivider_divider]
    rfl
  · rw [ht.get_driven (by simp; decide), emitTrigger_next]
    rfl

section Busy
variable (hb : v.busy = true)
include hb

/-- A trigger that follows within 100 ns waits, where fewer than four wait. -/
theorem dividerTrigger_waits (hw : v.waiting.length < 4) : ∃ t, exec (.dividerTrigger d) s = .next t ∧
    t.divider d = some { v with threshold := v.threshold + (s.divCfg d).ratio, waiting := v.waiting ++ [ofSigned 32 c] } ∧
    t.lane = s.lane := by
  obtain ⟨f, hexec, he⟩ := dividerTrigger_due hv hc hs ht
  rw [hexec]
  exact run_answers_of_effect hp (he.trans ((if_neg (by simp [hb])).trans (if_pos hw))) fun t ht =>
    ⟨ht.divider_driven.trans setDivider_divider, ht.lane_driven⟩

/-- The fifth is dropped and reported. -/
theorem dividerTrigger_drops (hw : 4 ≤ v.waiting.length) : ∃ t, exec (.dividerTrigger d) s = .next t ∧
    t.divider d = some { v with threshold := v.threshold + (s.divCfg d).ratio } ∧
    t.get (F.MOT_DIV_TRIG_dropped d) = min (s.get (F.MOT_DIV_TRIG_dropped d) + 1) 65535 ∧
    t.wrote Code.TRIGGER_DROPPED [d, s.get (F.MOT_DIV_TRIG_next d)] ∧ t.lane = s.lane := by
  obtain ⟨f, hexec, he⟩ := dividerTrigger_due hv hc hs ht
  rw [hexec]
  refine run_answers_of_effect hp (he.trans ((if_neg (by simp [hb])).trans (if_neg (by omega)))) fun t ht => ?_
  obtain ⟨hdiv, hcount, hwrote, hlane⟩ := triggerDropped_shows (s := s) (d := d) (v := v)
  rw [ht.divider_driven, ht.get_driven (by simp; decide), ht.lane_driven]
  exact ⟨hdiv, hcount, ht.wrote_driven hwrote, hlane⟩

end Busy
end Due

section Release
variable (hp : s.powered = true) (hv : s.divider d = some v)
include hp hv

/-- A release emits the trigger that waits first. -/
theorem triggerRelease_emits {k : Nat} {ks : List Nat} (hw : v.waiting = k :: ks) : ∃ t, exec (.triggerRelease d) s = .next t ∧
    t.divider d = some { v with waiting := ks, busy := true, pulse := true } ∧
    t.get (F.MOT_DIV_TRIG_next d) = (s.get (F.MOT_DIV_TRIG_next d) + 1) % 65536 := by
  rw [exec_triggerRelease, execTriggerRelease]
  refine run_answers_of_effect hp
    (u := (s.setDivider d { v with waiting := ks, busy := true, pulse := true }).emitTrigger d k) ?_ fun t ht => ⟨?_, ?_⟩
  · rw [hv]
    dsimp only
    rw [hw]
  · rw [ht.divider_driven, divider_of_motion emitTrigger_motion, setDivider_divider]
  · rw [ht.get_driven (by simp; decide), emitTrigger_next]
    rfl

/-- A release with nothing waiting frees the divider. -/
theorem triggerRelease_frees (hw : v.waiting = []) : ∃ t, exec (.triggerRelease d) s = .next t ∧
    t.divider d = some { v with busy := false } ∧ t.lane = s.lane := by
  rw [exec_triggerRelease, execTriggerRelease]
  refine run_answers_of_effect hp (u := s.setDivider d { v with busy := false }) ?_ fun t ht =>
    ⟨ht.divider_driven.trans setDivider_divider, ht.lane_driven⟩
  rw [hv]
  dsimp only
  rw [hw]

theorem pulseWidthEnd_ends : ∃ t, exec (.pulseWidthEnd d) s = .next t ∧ t.divider d = some { v with pulse := false } := by
  rw [exec_pulseWidthEnd, execPulseWidthEnd]
  exact run_answers_of_effect hp (u := s.setDivider d { v with pulse := false }) (by rw [hv]) fun t ht =>
    ht.divider_driven.trans setDivider_divider

end Release
end Dividers

/-! ### Field inputs (R318) -/

section Inputs
variable {i : Fin 32} {b : Bool} (hp : s.powered = true)
include hp

omit hp in
theorem exec_fieldInputChange : exec (.fieldInputChange i b) s = execFieldInputChange i b s := rfl

/-- Without its supply or its island an input shows nothing. -/
theorem fieldInputChange_dead (h : s.hasField = false ∨ s.island 120 = false ∨ s.fieldLow = true) :
    ∃ t, exec (.fieldInputChange i b) s = .next t ∧ t.get F.FIO_IN_state = s.get F.FIO_IN_state := by
  rw [exec_fieldInputChange, execFieldInputChange]
  exact run_answers_of_effect hp (u := s) (if_pos (by rcases h with h | h | h <;> simp [h])) fun t ht => ht.get_driven (by decide)

omit hp in
theorem driveOutputs_settle : s.driveOutputs.fio.settle = s.fio.settle := by
  unfold State.driveOutputs
  rfl

omit hp in
theorem driveOutputs_hostOn : s.driveOutputs.fio.hostOn = s.fio.hostOn := by
  unfold State.driveOutputs
  rfl

omit hp in
theorem State.Same.settle_driven (h : t.Same u.driveOutputs) : t.fio.settle = u.fio.settle :=
  (congrArg Fio.settle h.fio).trans driveOutputs_settle
omit hp in
theorem State.Same.hostOn_driven (h : t.Same u.driveOutputs) : t.fio.hostOn = u.fio.hostOn :=
  (congrArg Fio.hostOn h.fio).trans driveOutputs_hostOn

omit hp in
theorem setBit_input : ((s.setBit F.FIO_IN_state i b).get F.FIO_IN_state).testBit i = b :=
  get_setBit (by decide) i.isLt

omit hp in
theorem get_setBit_input {v : Bool} (h : regKind g.key ≠ 229) : (s.setBit F.FIO_IN_state i v).get g = s.get g := by
  rw [State.setBit, State.get_set_kind (by simpa using h)]

omit hp in
theorem settles_iff : s.fio.settle.any (fun e => e.1 == i.val) = true ↔ ∃ e ∈ s.fio.settle, e.1 = i.val := by
  simp only [List.any_eq_true, beq_iff_eq]

section Supplied
variable (hf : s.hasField = true) (hi : s.island 120 = true) (hl : s.fieldLow = false)
include hf hi hl

/-- An input that settles takes its level without an edge. -/
theorem fieldInputChange_settles (h : ∃ e ∈ s.fio.settle, e.1 = i.val) : ∃ t, exec (.fieldInputChange i b) s = .next t ∧
    (t.get F.FIO_IN_state).testBit i = b ∧ (∀ e ∈ t.fio.settle, e.1 ≠ i.val) ∧
    t.get (F.FIO_CAP_COUNT_count i) = s.get (F.FIO_CAP_COUNT_count i) ∧
    t.get (F.FIO_CAP_TIME_new i) = s.get (F.FIO_CAP_TIME_new i) := by
  rw [exec_fieldInputChange, execFieldInputChange]
  refine run_answers_of_effect hp (u := s.settleInput i b)
    ((if_neg (by simp [hf, hi, hl])).trans (if_pos (settles_iff.mpr h))) fun t ht => ?_
  rw [ht.get_driven (by decide), ht.get_driven (by simp; decide), ht.get_driven (by simp; decide), ht.settle_driven, State.settleInput,
    get_setBit_input (g := F.FIO_CAP_COUNT_count i) (by simp), get_setBit_input (g := F.FIO_CAP_TIME_new i) (by simp)]
  refine ⟨setBit_input, fun e he => ?_, rfl, rfl⟩
  simpa using (List.mem_filter.mp he).2

section Unsettled
variable (hs : ∀ e ∈ s.fio.settle, e.1 ≠ i.val) (hb : (s.get F.FIO_IN_state).testBit i ≠ b)
include hs hb

omit hp in
/-- The effect of a new level of an input that is settled. -/
theorem fieldInputChange_effect : ∃ f, exec (.fieldInputChange i b) s = s.run f ∧ f s =
    let g := s.inCfg i
    let u := s.setBit F.FIO_IN_state i b
    if !(g.edge == 3 || (g.edge == 1 && b) || (g.edge == 2 && !b)) then u
    else ((u.set (F.FIO_CAP_COUNT_count i) (ofSigned 32 (s.countAt g.capture (g.filterUs * 200)))).set (F.FIO_CAP_TIME_ns i)
      ((s.clk.ns + 1000000000 - g.filterUs * 1000) % 1000000000)).set (F.FIO_CAP_TIME_new i) 1 :=
  ⟨_, exec_fieldInputChange.trans rfl, (if_neg (by simp [hf, hi, hl])).trans ((if_neg fun h =>
      (settles_iff.mp h).elim fun e he => hs e he.1 he.2).trans
    ((if_neg (by simpa using hb)).trans rfl))⟩

/-- A named edge captures the count and the time of its first sample. -/
theorem fieldInputChange_captures (he : (s.inCfg i).edge = 3 ∨ (s.inCfg i).edge = 1 ∧ b = true ∨ (s.inCfg i).edge = 2 ∧ b = false) :
    ∃ t, exec (.fieldInputChange i b) s = .next t ∧ (t.get F.FIO_IN_state).testBit i = b ∧ t.get (F.FIO_CAP_TIME_new i) = 1 ∧
      t.get (F.FIO_CAP_COUNT_count i) = ofSigned 32 (s.countAt (s.inCfg i).capture ((s.inCfg i).filterUs * 200)) ∧
      t.get (F.FIO_CAP_TIME_ns i) = (s.clk.ns + 1000000000 - (s.inCfg i).filterUs * 1000) % 1000000000 := by
  obtain ⟨f, hexec, hf⟩ := fieldInputChange_effect hf hi hl hs hb
  rw [hexec]
  refine run_answers_of_effect hp (hf.trans (if_neg (by rcases he with h | ⟨h, rfl⟩ | ⟨h, rfl⟩ <;> simp [h]))) fun t ht => ?_
  rw [ht.get_driven (by decide), ht.get_driven (by simp; decide), ht.get_driven (by simp; decide), ht.get_driven (by simp; decide)]
  refine ⟨?_, State.get_set (by simp [F.FIO_CAP_TIME_new]), ?_, ?_⟩
  · rw [State.get_set_kind (by simp), State.get_set_kind (by simp), State.get_set_kind (by simp)]
    exact setBit_input
  · rw [State.get_set_kind (by simp), State.get_set_kind (by simp), State.get_set (by simp [F.FIO_CAP_COUNT_count])]
    exact Nat.mod_eq_of_lt ofSigned_lt
  · rw [State.get_set_field (f := F.FIO_CAP_TIME_ns i) (g := F.FIO_CAP_TIME_new i) rfl
      (.inl (by simp [F.FIO_CAP_TIME_ns, F.FIO_CAP_TIME_new])) (by simp [F.FIO_CAP_TIME_ns]), State.get_set (by simp [F.FIO_CAP_TIME_ns])]
    exact Nat.mod_eq_of_lt ((Nat.mod_lt _ (by decide)).trans (show 1000000000 < 2 ^ 30 by decide))

/-- Without a named edge nothing is captured. -/
theorem fieldInputChange_shows (he : (s.inCfg i).edge = 0) : ∃ t, exec (.fieldInputChange i b) s = .next t ∧
    (t.get F.FIO_IN_state).testBit i = b ∧ t.get (F.FIO_CAP_COUNT_count i) = s.get (F.FIO_CAP_COUNT_count i) ∧
    t.get (F.FIO_CAP_TIME_new i) = s.get (F.FIO_CAP_TIME_new i) := by
  obtain ⟨f, hexec, hf⟩ := fieldInputChange_effect hf hi hl hs hb
  rw [hexec]
  refine run_answers_of_effect hp (hf.trans (if_pos (by simp [he]))) fun t ht => ?_
  rw [ht.get_driven (by decide), ht.get_driven (by simp; decide), ht.get_driven (by simp; decide),
    get_setBit_input (g := F.FIO_CAP_COUNT_count i) (by simp), get_setBit_input (g := F.FIO_CAP_TIME_new i) (by simp)]
  exact ⟨setBit_input, rfl, rfl⟩

end Unsettled
end Supplied
end Inputs

/-! ### Host outputs (R319, R322) -/

section HostOutputs
variable {i : Port} {m : Word} {o : Nat} {h : Nat} (hp : s.powered = true)

theorem exec_fioOutSet : exec (.fioOutSet i m) s = execFioOutSet i m s := rfl
theorem exec_fioOutClr : exec (.fioOutClr i m) s = execFioOutClr i m s := rfl

/-- The HOST outputs that are on. -/
def State.withHostOn (s : State) (h : Nat) : State := { s with fio := { s.fio with hostOn := h } }

/-- What FIO_OUT_SET makes of one output. -/
def State.setOne (s : State) (o : Nat) : State :=
  if s.suppressed o || s.fio.hostOn.testBit o then s else { s with fio := { s.fio with hostOn := s.fio.hostOn + 2 ^ o } }

/-- What FIO_OUT_CLR makes of one output. -/
def State.clearOne (s : State) (o : Nat) : State :=
  if s.fio.hostOn.testBit o then { s with fio := { s.fio with hostOn := s.fio.hostOn - 2 ^ o } } else s

theorem setOne_withHostOn : (s.withHostOn h).setOne o =
    s.withHostOn (if s.suppressed o || h.testBit o then h else h + 2 ^ o) := by
  unfold State.setOne
  rw [show (s.withHostOn h).suppressed o = s.suppressed o from rfl, show (s.withHostOn h).fio.hostOn = h from rfl]
  split <;> rfl

theorem clearOne_withHostOn : (s.withHostOn h).clearOne o = s.withHostOn (if h.testBit o then h - 2 ^ o else h) := by
  unfold State.clearOne
  rw [show (s.withHostOn h).fio.hostOn = h from rfl]
  split <;> rfl

/-- The outputs of a mask that port `i` may drive, one after the other. -/
def State.driveEach (s : State) (i : Port) (mask : Nat) (f : State → Nat → State) (l : List Nat) : State :=
  s.each l (fun s o => if mask.testBit o && s.mayDrive i o then f s o else s)

theorem mayDrive_withHostOn : (s.withHostOn h).mayDrive i o = s.mayDrive i o := rfl

/-- Where an act on one output changes its bit by a rule that acts once, a run of acts changes the bits of the outputs named so. -/
theorem driveEach_hostOn {f : State → Nat → State} {e : Nat → Nat → Nat} {r : Nat → Bool → Bool} {mask : Nat}
    (hf : ∀ h o, f (s.withHostOn h) o = s.withHostOn (e h o))
    (he : ∀ h o j, (e h o).testBit j = if j = o then r o (h.testBit o) else h.testBit j) (hr : ∀ o b, r o (r o b) = r o b) :
    ∀ (l : List Nat) (h : Nat), ∃ k, (s.withHostOn h).driveEach i mask f l = s.withHostOn k ∧ ∀ j, k.testBit j =
      if l.contains j && (mask.testBit j && s.mayDrive i j) then r j (h.testBit j) else h.testBit j
  | [], h => ⟨h, rfl, fun _ => rfl⟩
  | o :: l, h => by
    by_cases hsel : (mask.testBit o && s.mayDrive i o) = true
    · obtain ⟨k, hk, hbit⟩ := driveEach_hostOn hf he hr l (e h o)
      refine ⟨k, (congrArg (State.driveEach · i mask f l) ((if_pos hsel).trans (hf h o))).trans hk, fun j => ?_⟩
      rw [hbit, he]
      by_cases hj : j = o
      · subst hj
        simp [hsel, hr]
      · simp [hj]
    · obtain ⟨k, hk, hbit⟩ := driveEach_hostOn hf he hr l h
      refine ⟨k, (congrArg (State.driveEach · i mask f l) (if_neg hsel)).trans hk, fun j => ?_⟩
      rw [hbit]
      by_cases hj : j = o
      · subst hj
        simp [hsel]
      · simp [hj]

/-- A write of the outputs for which a port asks. -/
theorem hostOut_hostOn {f : State → Nat → State} {e : Nat → Nat → Nat} {r : Nat → Bool → Bool} {mask off : Nat}
    (hf : ∀ h o, f (s.withHostOn h) o = s.withHostOn (e h o))
    (he : ∀ h o j, (e h o).testBit j = if j = o then r o (h.testBit o) else h.testBit j) (hr : ∀ o b, r o (r o b) = r o b) (j : Nat) :
    (s.hostOut i mask off f).fio.hostOn.testBit j =
      if decide (j < 32) && (mask.testBit j && s.mayDrive i j) then r j (s.fio.hostOn.testBit j) else s.fio.hostOn.testBit j := by
  obtain ⟨k, hk, hbit⟩ := driveEach_hostOn (i := i) (mask := mask) hf he hr (upTo 32) s.fio.hostOn
  have hmem : (upTo 32).contains j = decide (j < 32) := by simp [upTo]
  have hrun : (s.hostOut i mask off f).fio.hostOn = k := by
    unfold State.hostOut
    extract_lets u
    have hu : u.fio.hostOn = k := congrArg (fun u : State => u.fio.hostOn) hk
    split
    · rw [raise_fio, hu]
    · exact hu
  rw [hrun, hbit, hmem]

/-- A write that names an output the port may not drive is written. -/
theorem hostOut_role {f : State → Nat → State} {e : Nat → Nat → Nat} {r : Nat → Bool → Bool} {mask off : Nat}
    (hf : ∀ h o, f (s.withHostOn h) o = s.withHostOn (e h o))
    (he : ∀ h o j, (e h o).testBit j = if j = o then r o (h.testBit o) else h.testBit j) (hr : ∀ o b, r o (r o b) = r o b)
    (ho : o < 32) (hm : mask.testBit o = true) (hno : s.mayDrive i o = false) :
    (s.hostOut i mask off f).wrote Code.FIO_ROLE [i, off] := by
  obtain ⟨k, hk, -⟩ := driveEach_hostOn (i := i) (mask := mask) hf he hr (upTo 32) s.fio.hostOn
  unfold State.hostOut
  extract_lets u
  have hu : u = s.withHostOn k := hk
  rw [if_pos (List.any_eq_true.mpr ⟨o, by simpa [upTo] using ho, by rw [hu, hm, mayDrive_withHostOn, hno]; rfl⟩)]
  exact raise_wrote

/-- The rules by which FIO_OUT_SET and FIO_OUT_CLR change a bit. -/
def State.setRule (s : State) (o : Nat) (b : Bool) : Bool := b || !s.suppressed o
def clearRule (_ : Nat) (_ : Bool) : Bool := false

theorem setOne_bit (h o j : Nat) : (if s.suppressed o || h.testBit o then h else h + 2 ^ o).testBit j =
    if j = o then s.setRule o (h.testBit o) else h.testBit j := by
  unfold State.setRule
  cases hs : s.suppressed o <;> cases hb : h.testBit o <;> by_cases hj : j = o <;> simp [hb, hj, testBit_add_two_pow]

theorem clearOne_bit (h o j : Nat) : (if h.testBit o then h - 2 ^ o else h).testBit j =
    if j = o then clearRule o (h.testBit o) else h.testBit j := by
  unfold clearRule
  cases hb : h.testBit o <;> by_cases hj : j = o <;> simp [hb, hj, testBit_sub_two_pow]

theorem setRule_idem (o : Nat) (b : Bool) : s.setRule o (s.setRule o b) = s.setRule o b := by simp [State.setRule]

section Fitted
variable (hf : s.hasField = true)
include hp hf

theorem fioOutSet_drives : ∃ t, exec (.fioOutSet i m) s = .next t ∧ ∀ o, t.fio.hostOn.testBit o =
    (s.fio.hostOn.testBit o || (decide (o < 32) && m.toNat.testBit o && s.mayDrive i o && !s.suppressed o)) := by
  rw [exec_fioOutSet, execFioOutSet]
  refine run_answers_of_effect hp (u := s.hostOut i m.toNat 0xC State.setOne) (if_neg (by simp [hf])) fun t ht o => ?_
  rw [ht.hostOn_driven, hostOut_hostOn (fun h o => setOne_withHostOn) setOne_bit setRule_idem, State.setRule,
    Bool.and_assoc (decide (o < 32)) (m.toNat.testBit o)]
  cases decide (o < 32) && (m.toNat.testBit o && s.mayDrive i o) <;> simp

theorem fioOutClr_drives : ∃ t, exec (.fioOutClr i m) s = .next t ∧ ∀ o, t.fio.hostOn.testBit o =
    (s.fio.hostOn.testBit o && !(decide (o < 32) && m.toNat.testBit o && s.mayDrive i o)) := by
  rw [exec_fioOutClr, execFioOutClr]
  refine run_answers_of_effect hp (u := s.hostOut i m.toNat 0x10 State.clearOne) (if_neg (by simp [hf])) fun t ht o => ?_
  rw [ht.hostOn_driven, hostOut_hostOn (fun h o => clearOne_withHostOn) clearOne_bit (fun _ _ => rfl), clearRule, Bool.and_assoc]
  cases decide (o < 32) && (m.toNat.testBit o && s.mayDrive i o) <;> simp

section Role
variable (ho : o < 32) (hm : m.toNat.testBit o = true) (hno : s.mayDrive i o = false)
include ho hm hno

theorem fioOutSet_role : ∃ t, exec (.fioOutSet i m) s = .next t ∧ t.wrote Code.FIO_ROLE [i, 0xC] := by
  rw [exec_fioOutSet, execFioOutSet]
  exact run_answers_of_effect hp (u := s.hostOut i m.toNat 0xC State.setOne) (if_neg (by simp [hf])) fun t ht =>
    ht.wrote_driven (hostOut_role (fun h o => setOne_withHostOn) setOne_bit setRule_idem ho hm hno)

theorem fioOutClr_role : ∃ t, exec (.fioOutClr i m) s = .next t ∧ t.wrote Code.FIO_ROLE [i, 0x10] := by
  rw [exec_fioOutClr, execFioOutClr]
  exact run_answers_of_effect hp (u := s.hostOut i m.toNat 0x10 State.clearOne) (if_neg (by simp [hf])) fun t ht =>
    ht.wrote_driven (hostOut_role (fun h o => clearOne_withHostOn) clearOne_bit (fun _ _ => rfl) ho hm hno)

end Role
end Fitted

include hp in
theorem fioOut_noField {g : State → State} (hf : s.hasField = false) :
    ∃ t, s.run (fun s => if !s.hasField then s else g s) = .next t ∧ t.fio.hostOn = s.fio.hostOn :=
  run_answers_of_effect hp (u := s) (if_pos (by simp [hf])) fun t ht => ht.hostOn_driven

end HostOutputs

/-! ### Diagnostics (R321) -/

section Diagnostics
variable {o k : Nat} (hp : s.powered = true)

theorem clearOutput_clears : (s.clearOutput o).get (F.FIO_OUT_DIAG_overload o) = 0 ∧ (s.clearOutput o).get (F.FIO_OUT_DIAG_latched o) = 0 ∧
    (s.clearOutput o).get (F.FIO_OUT_DIAG_open_wire o) = 0 ∧ (s.clearOutput o).get (F.FIO_OUT_DIAG_isolator o) = 0 := by
  unfold State.clearOutput
  refine ⟨?_, ?_, ?_, State.get_set (by simp [F.FIO_OUT_DIAG_isolator])⟩
  · rw [State.get_set_field (f := F.FIO_OUT_DIAG_overload o) (g := F.FIO_OUT_DIAG_isolator o) rfl
        (by simp [F.FIO_OUT_DIAG_overload, F.FIO_OUT_DIAG_isolator]) (by simp [F.FIO_OUT_DIAG_overload]),
      State.get_set_field (f := F.FIO_OUT_DIAG_overload o) (g := F.FIO_OUT_DIAG_open_wire o) rfl
        (by simp [F.FIO_OUT_DIAG_overload, F.FIO_OUT_DIAG_open_wire]) (by simp [F.FIO_OUT_DIAG_overload]),
      State.get_set_field (f := F.FIO_OUT_DIAG_overload o) (g := F.FIO_OUT_DIAG_latched o) rfl
        (by simp [F.FIO_OUT_DIAG_overload, F.FIO_OUT_DIAG_latched]) (by simp [F.FIO_OUT_DIAG_overload])]
    exact State.get_set (by simp [F.FIO_OUT_DIAG_overload])
  · rw [State.get_set_field (f := F.FIO_OUT_DIAG_latched o) (g := F.FIO_OUT_DIAG_isolator o) rfl
        (by simp [F.FIO_OUT_DIAG_latched, F.FIO_OUT_DIAG_isolator]) (by simp [F.FIO_OUT_DIAG_latched]),
      State.get_set_field (f := F.FIO_OUT_DIAG_latched o) (g := F.FIO_OUT_DIAG_open_wire o) rfl
        (by simp [F.FIO_OUT_DIAG_latched, F.FIO_OUT_DIAG_open_wire]) (by simp [F.FIO_OUT_DIAG_latched])]
    exact State.get_set (by simp [F.FIO_OUT_DIAG_latched])
  · rw [State.get_set_field (f := F.FIO_OUT_DIAG_open_wire o) (g := F.FIO_OUT_DIAG_isolator o) rfl
        (by simp [F.FIO_OUT_DIAG_open_wire, F.FIO_OUT_DIAG_isolator]) (by simp [F.FIO_OUT_DIAG_open_wire])]
    exact State.get_set (by simp [F.FIO_OUT_DIAG_open_wire])

section Clear
variable {i : Port} {q : BitVec 6} (hf : s.hasField = true)

theorem exec_outputClear : exec (.outputClear i q) s = execOutputClear i q s := rfl

include hp hf

theorem outputClear_clears (hr : s.privileged i = true ∨ s.claimPort i q.toNat = true) (hq : q.toNat < 32) :
    ∃ t, exec (.outputClear i q) s = .next t ∧ t.get (F.FIO_OUT_DIAG_overload q.toNat) = 0 ∧
      t.get (F.FIO_OUT_DIAG_latched q.toNat) = 0 ∧ t.get (F.FIO_OUT_DIAG_open_wire q.toNat) = 0 ∧
      t.get (F.FIO_OUT_DIAG_isolator q.toNat) = 0 := by
  rw [exec_outputClear, execOutputClear]
  refine run_answers_of_effect hp (u := s.clearOutput q.toNat) ((if_neg (by simp [hf])).trans
    ((if_neg (by rcases hr with h | h <;> simp [h])).trans (if_pos hq))) fun t ht => ?_
  rw [ht.get_driven (by simp; decide), ht.get_driven (by simp; decide), ht.get_driven (by simp; decide), ht.get_driven (by simp; decide)]
  exact clearOutput_clears

theorem outputClear_role (hr : s.privileged i = false) (hc : s.claimPort i q.toNat = false) :
    ∃ t, exec (.outputClear i q) s = .next t ∧
      t.get (F.FIO_OUT_DIAG_latched q.toNat) = s.get (F.FIO_OUT_DIAG_latched q.toNat) ∧ t.wrote Code.FIO_ROLE [i, 0x14] := by
  rw [exec_outputClear, execOutputClear]
  exact run_answers_of_effect hp ((if_neg (by simp [hf])).trans (if_pos (by simp [hr, hc]))) fun t ht =>
    ⟨(ht.get_driven (by simp; decide)).trans (get_raise (by simp; decide)), ht.wrote_driven raise_wrote⟩

end Clear

section Fault
variable {o : Fin 32} {mA : BitVec 16} {c : Fin 5}

theorem exec_fioOutputFault : exec (.fioOutputFault o c mA) s = execFioOutputFault o c mA s := rfl
theorem exec_outputRetry : exec (.outputRetry o) s = execOutputRetry o s := rfl
theorem exec_outputCooled : exec (.outputCooled o) s = execOutputCooled o s := rfl

theorem get_markOutFault {n : Nat} (h : State.markOutFault_mask.testBit (regKind g.key) = false) :
    (s.markOutFault n).get g = s.get g := (State.markOutFault_frame (Within.refl _) (.refl _ s)).get g h

/-- A fault is counted and written. -/
def State.faultCounted (s : State) (o : Fin 32) (c : Nat) (mA : BitVec 16) : State :=
  (s.inc (F.FIO_OUT_FAULTS_count o)).raise Code.FIO_OUTPUT_FAULT [o, c, mA.toNat]

theorem faultCounted_count {n : Nat} : (s.faultCounted o n mA).get (F.FIO_OUT_FAULTS_count o) =
    min (s.get (F.FIO_OUT_FAULTS_count o) + 1) 65535 := by
  rw [State.faultCounted, get_raise (by simp; decide), get_inc (by simp [F.FIO_OUT_FAULTS_count])]
  rfl

theorem faultCounted_retry {n : Nat} : (s.faultCounted o n mA).get (F.FIO_OUT_CFG_retry_ms o) = s.get (F.FIO_OUT_CFG_retry_ms o) := by
  rw [State.faultCounted, get_raise (by simp; decide), State.inc_def, State.get_set_kind (by simp)]

/-- What a fault of kind `n` shows on its output. -/
def State.faultShows (s : State) (o : Fin 32) (n : Nat) (mA : BitVec 16) : State :=
  match n with
  | 0 => (s.set (F.FIO_OUT_DIAG_current_ma o) mA.toNat).overload o
  | 1 => (s.set (F.FIO_GROUP_current_ma (o.val / 8)) mA.toNat).each (upTo 8) (fun s k => s.overload (8 * (o.val / 8) + k))
  | 2 => ((s.set (F.FIO_OUT_DIAG_current_ma o) mA.toNat).set (F.FIO_OUT_DIAG_open_wire o) 1).markOutFault o
  | 3 => ((s.set (F.FIO_OUT_DIAG_current_ma o) mA.toNat).set (F.FIO_OUT_DIAG_over_temp o) 1).markOutFault o
  | _ => (s.set (F.FIO_OUT_DIAG_isolator o) 1).markOutFault o

section Overload
variable {m n : Nat}

/-- An output off for an overload, its programs marked. -/
def State.overloadShown (s : State) (n : Nat) : State := (s.set (F.FIO_OUT_DIAG_overload n) 1).markOutFault n

theorem get_overloadShown (hk : regKind g.key = 239) : (s.overloadShown n).get g = (s.set (F.FIO_OUT_DIAG_overload n) 1).get g :=
  get_markOutFault (by rw [hk]; decide)

theorem overload_def : s.overload n = if (s.overloadShown n).get (F.FIO_OUT_CFG_retry_ms n) = 0 then
    (s.overloadShown n).set (F.FIO_OUT_DIAG_latched n) 1 else s.overloadShown n := rfl

theorem overloadShown_retry : (s.overloadShown n).get (F.FIO_OUT_CFG_retry_ms n) = s.get (F.FIO_OUT_CFG_retry_ms n) := by
  rw [State.overloadShown, get_markOutFault (by simp; decide), State.get_set_kind (by simp)]

/-- An output that has been off for an overload is so after any overload. -/
theorem overload_keeps (h : m % 32 = n % 32 ∨ s.get (F.FIO_OUT_DIAG_overload m) = 1) :
    (s.overload n).get (F.FIO_OUT_DIAG_overload m) = 1 := by
  have hshown : (s.overloadShown n).get (F.FIO_OUT_DIAG_overload m) = 1 := by
    rw [get_overloadShown (by simp)]
    by_cases hmn : m % 32 = n % 32
    · rw [show F.FIO_OUT_DIAG_overload m = F.FIO_OUT_DIAG_overload n by simp [F.FIO_OUT_DIAG_overload, hmn]]
      exact State.get_set (by simp [F.FIO_OUT_DIAG_overload])
    · exact (State.get_set_ne _ _ _ _ (by simp [F.FIO_OUT_DIAG_overload, hmn])).trans (h.resolve_left hmn)
  rw [overload_def]
  split
  · by_cases hmn : m % 32 = n % 32
    · exact (State.get_set_field (f := F.FIO_OUT_DIAG_overload m) (g := F.FIO_OUT_DIAG_latched n)
        (by simp [F.FIO_OUT_DIAG_overload, F.FIO_OUT_DIAG_latched, hmn]) (by simp [F.FIO_OUT_DIAG_overload, F.FIO_OUT_DIAG_latched])
        (by simp [F.FIO_OUT_DIAG_overload])).trans hshown
    · exact (State.get_set_ne _ _ _ _ (by simp [F.FIO_OUT_DIAG_overload, F.FIO_OUT_DIAG_latched, hmn])).trans hshown
  · exact hshown

/-- Every output of a run of overloads is off for one. -/
theorem each_overload {b : Nat} : ∀ (l : List Nat) (s : State), k ∈ l ∨ s.get (F.FIO_OUT_DIAG_overload (b + k)) = 1 →
    (s.each l (fun s k => s.overload (b + k))).get (F.FIO_OUT_DIAG_overload (b + k)) = 1
  | [], s, h => h.resolve_left (List.not_mem_nil)
  | n :: l, s, h => by
    refine each_overload l (s.overload (b + n)) ?_
    obtain h | h := h
    · obtain rfl | h := List.mem_cons.mp h
      · exact .inr (overload_keeps (.inl rfl))
      · exact .inl h
    · exact .inr (overload_keeps (.inr h))

theorem overload_current : (s.overload n).get (F.FIO_OUT_DIAG_current_ma n) = s.get (F.FIO_OUT_DIAG_current_ma n) := by
  have hshown : (s.overloadShown n).get (F.FIO_OUT_DIAG_current_ma n) = s.get (F.FIO_OUT_DIAG_current_ma n) := by
    rw [get_overloadShown (by simp), State.get_set_field (f := F.FIO_OUT_DIAG_current_ma n) (g := F.FIO_OUT_DIAG_overload n) rfl
      (by simp [F.FIO_OUT_DIAG_current_ma, F.FIO_OUT_DIAG_overload]) (by simp [F.FIO_OUT_DIAG_current_ma])]
  rw [overload_def]
  split
  · exact (State.get_set_field (f := F.FIO_OUT_DIAG_current_ma n) (g := F.FIO_OUT_DIAG_latched n) rfl
      (by simp [F.FIO_OUT_DIAG_current_ma, F.FIO_OUT_DIAG_latched]) (by simp [F.FIO_OUT_DIAG_current_ma])).trans hshown
  · exact hshown

theorem overload_latches (h : s.get (F.FIO_OUT_CFG_retry_ms n) = 0) : (s.overload n).get (F.FIO_OUT_DIAG_latched n) = 1 := by
  rw [overload_def, if_pos (overloadShown_retry.trans h)]
  exact State.get_set (by simp [F.FIO_OUT_DIAG_latched])

theorem get_overload (h : State.overload_mask.testBit (regKind g.key) = false) : (s.overload n).get g = s.get g :=
  (State.overload_frame (Within.refl _) (.refl _ s)).get g h

theorem overload_recorder : (s.overload n).recorder = s.recorder := (State.overload_frame (Within.refl _) (.refl _ s)).recorder rfl

end Overload

/-- A write of the present current reads as that current. -/
theorem current_set {n : Nat} : (s.set (F.FIO_OUT_DIAG_current_ma n) mA.toNat).get (F.FIO_OUT_DIAG_current_ma n) = mA.toNat :=
  (State.get_set (by simp [F.FIO_OUT_DIAG_current_ma])).trans (Nat.mod_eq_of_lt mA.isLt)

/-- What the faults of Table FIO-1 touch. -/
def faultMask : Nat := State.overload_mask ||| 2 ^ 234

theorem faultShows_frame {n : Nat} : Frame faultMask s (s.faultShows o n mA) := by
  have hover : Within State.overload_mask faultMask := rfl
  have hmark : Within State.markOutFault_mask faultMask := rfl
  have hdiag : ∀ {g : Field} {v : Nat} {u : State}, regKind g.key = 239 → Frame faultMask s u → Frame faultMask s (u.set g v) :=
    fun hk h => State.set_frame hk (by decide) h
  unfold State.faultShows
  split
  · exact State.overload_frame hover (hdiag (by simp) (.refl _ s))
  · exact State.each_frame (State.set_frame (F.FIO_GROUP_current_ma_kind _) (by decide) (.refl _ s)) fun _ _ h => State.overload_frame hover h
  · exact State.markOutFault_frame hmark (hdiag (by simp) (hdiag (by simp) (.refl _ s)))
  · exact State.markOutFault_frame hmark (hdiag (by simp) (hdiag (by simp) (.refl _ s)))
  · exact State.markOutFault_frame hmark (hdiag (by simp) (.refl _ s))

section Counted
variable (hf : s.hasField = true) (hi : s.island 120 = true)
include hf hi

/-- The effect of a fault that is not masked. -/
theorem fioOutputFault_effect (hm : c.val ≠ 2 ∨ ∀ q, s.claim o = some q → q.2.openWireMask = false) :
    ∃ f, exec (.fioOutputFault o c mA) s = s.run f ∧ f s = (s.faultCounted o c mA).faultShows o c mA := by
  refine ⟨_, exec_fioOutputFault.trans rfl, ?_⟩
  have hmask : (c.val == faultOPENWIRE && ((s.claim o).map (fun c => c.2.openWireMask)).getD false) = false := by
    rcases hm with h | h
    · simp [faultOPENWIRE, h]
    · cases hq : s.claim o with
      | none => simp
      | some q => simp [h q hq]
  exact (if_neg (by rw [hmask]; simp [hf, hi])).trans rfl


include hp

theorem fioOutputFault_overload : ∃ t, exec (.fioOutputFault o 0 mA) s = .next t ∧
    t.get (F.FIO_OUT_FAULTS_count o) = min (s.get (F.FIO_OUT_FAULTS_count o) + 1) 65535 ∧ t.get (F.FIO_OUT_DIAG_overload o) = 1 ∧
    t.get (F.FIO_OUT_DIAG_current_ma o) = mA.toNat ∧
    (s.get (F.FIO_OUT_CFG_retry_ms o) = 0 → t.get (F.FIO_OUT_DIAG_latched o) = 1) ∧
    t.wrote Code.FIO_OUTPUT_FAULT [o, 0, mA.toNat] := by
  obtain ⟨f, hexec, he⟩ := fioOutputFault_effect (o := o) (mA := mA) (c := 0) hf hi (.inl (by decide))
  rw [hexec]
  refine run_answers_of_effect hp he fun t ht => ?_
  rw [ht.get_driven (by simp; decide), ht.get_driven (by simp; decide), ht.get_driven (by simp; decide), ht.get_driven (by simp; decide)]
  refine ⟨(faultShows_frame.get _ (by simp; decide)).trans faultCounted_count, overload_keeps (.inl rfl),
    overload_current.trans current_set, fun h => overload_latches ?_, ht.wrote_driven (wrote_of_recorder (faultShows_frame.recorder rfl) raise_wrote)⟩
  rw [State.get_set_kind (by simp)]
  exact faultCounted_retry.trans h

theorem fioOutputFault_overTemp : ∃ t, exec (.fioOutputFault o 3 mA) s = .next t ∧
    t.get (F.FIO_OUT_FAULTS_count o) = min (s.get (F.FIO_OUT_FAULTS_count o) + 1) 65535 ∧ t.get (F.FIO_OUT_DIAG_over_temp o) = 1 ∧
    t.get (F.FIO_OUT_DIAG_current_ma o) = mA.toNat ∧ t.wrote Code.FIO_OUTPUT_FAULT [o, 3, mA.toNat] := by
  obtain ⟨f, hexec, he⟩ := fioOutputFault_effect (o := o) (mA := mA) (c := 3) hf hi (.inl (by decide))
  rw [hexec]
  refine run_answers_of_effect hp he fun t ht => ?_
  rw [ht.get_driven (by simp; decide), ht.get_driven (by simp; decide), ht.get_driven (by simp; decide)]
  refine ⟨(faultShows_frame.get _ (by simp; decide)).trans faultCounted_count, ?_, ?_,
    ht.wrote_driven (wrote_of_recorder (faultShows_frame.recorder rfl) raise_wrote)⟩
  · exact (get_markOutFault (by simp; decide)).trans (State.get_set (by simp [F.FIO_OUT_DIAG_over_temp]))
  · refine (get_markOutFault (by simp; decide)).trans ((State.get_set_field (f := F.FIO_OUT_DIAG_current_ma o)
      (g := F.FIO_OUT_DIAG_over_temp o) rfl (by simp [F.FIO_OUT_DIAG_current_ma, F.FIO_OUT_DIAG_over_temp])
      (by simp [F.FIO_OUT_DIAG_current_ma])).trans current_set)

theorem fioOutputFault_isolator : ∃ t, exec (.fioOutputFault o 4 mA) s = .next t ∧
    t.get (F.FIO_OUT_FAULTS_count o) = min (s.get (F.FIO_OUT_FAULTS_count o) + 1) 65535 ∧ t.get (F.FIO_OUT_DIAG_isolator o) = 1 ∧
    t.wrote Code.FIO_OUTPUT_FAULT [o, 4, mA.toNat] := by
  obtain ⟨f, hexec, he⟩ := fioOutputFault_effect (o := o) (mA := mA) (c := 4) hf hi (.inl (by decide))
  rw [hexec]
  refine run_answers_of_effect hp he fun t ht => ?_
  rw [ht.get_driven (by simp; decide), ht.get_driven (by simp; decide)]
  exact ⟨(faultShows_frame.get _ (by simp; decide)).trans faultCounted_count,
    (get_markOutFault (by simp; decide)).trans (State.get_set (by simp [F.FIO_OUT_DIAG_isolator])),
    ht.wrote_driven (wrote_of_recorder (faultShows_frame.recorder rfl) raise_wrote)⟩

theorem fioOutputFault_openWire (hm : ∀ q, s.claim o = some q → q.2.openWireMask = false) :
    ∃ t, exec (.fioOutputFault o 2 mA) s = .next t ∧
      t.get (F.FIO_OUT_FAULTS_count o) = min (s.get (F.FIO_OUT_FAULTS_count o) + 1) 65535 ∧
      t.get (F.FIO_OUT_DIAG_open_wire o) = 1 ∧ t.get (F.FIO_OUT_DIAG_current_ma o) = mA.toNat := by
  obtain ⟨f, hexec, he⟩ := fioOutputFault_effect (o := o) (mA := mA) (c := 2) hf hi (.inr hm)
  rw [hexec]
  refine run_answers_of_effect hp he fun t ht => ?_
  rw [ht.get_driven (by simp; decide), ht.get_driven (by simp; decide), ht.get_driven (by simp; decide)]
  refine ⟨(faultShows_frame.get _ (by simp; decide)).trans faultCounted_count, ?_, ?_⟩
  · exact (get_markOutFault (by simp; decide)).trans (State.get_set (by simp [F.FIO_OUT_DIAG_open_wire]))
  · refine (get_markOutFault (by simp; decide)).trans ((State.get_set_field (f := F.FIO_OUT_DIAG_current_ma o)
      (g := F.FIO_OUT_DIAG_open_wire o) rfl (by simp [F.FIO_OUT_DIAG_current_ma, F.FIO_OUT_DIAG_open_wire])
      (by simp [F.FIO_OUT_DIAG_current_ma])).trans current_set)

theorem fioOutputFault_group (hk : k < 8) : ∃ t, exec (.fioOutputFault o 1 mA) s = .next t ∧
    t.get (F.FIO_OUT_FAULTS_count o) = min (s.get (F.FIO_OUT_FAULTS_count o) + 1) 65535 ∧
    t.get (F.FIO_OUT_DIAG_overload (8 * (o.val / 8) + k)) = 1 ∧ t.get (F.FIO_GROUP_current_ma (o.val / 8)) = mA.toNat := by
  obtain ⟨f, hexec, he⟩ := fioOutputFault_effect (o := o) (mA := mA) (c := 1) hf hi (.inl (by decide))
  rw [hexec]
  refine run_answers_of_effect hp he fun t ht => ?_
  rw [ht.get_driven (by simp; decide), ht.get_driven (by simp; decide), ht.get_driven (by simp; decide)]
  refine ⟨(faultShows_frame.get _ (by simp; decide)).trans faultCounted_count,
    each_overload _ _ (.inl (by simpa [upTo] using hk)), ?_⟩
  refine (each_keeps (fun u : State => u.get (F.FIO_GROUP_current_ma (o.val / 8))) (fun u n => get_overload (by simp; decide)) _ _).trans ?_
  exact (State.get_set (by simp [F.FIO_GROUP_current_ma])).trans (Nat.mod_eq_of_lt mA.isLt)

end Counted

include hp

/-- A masked open wire is ignored. -/
theorem fioOutputFault_masked {q : Nat × ClaimCfg} (hc : s.claim o = some q) (hm : q.2.openWireMask = true) :
    ∃ t, exec (.fioOutputFault o 2 mA) s = .next t ∧ t.get (F.FIO_OUT_DIAG_open_wire o) = s.get (F.FIO_OUT_DIAG_open_wire o) ∧
      t.get (F.FIO_OUT_FAULTS_count o) = s.get (F.FIO_OUT_FAULTS_count o) := by
  rw [exec_fioOutputFault, execFioOutputFault]
  exact run_answers_of_effect hp (u := s) (if_pos (by simp [hc, hm, faultOPENWIRE])) fun t ht =>
    ⟨ht.get_driven (by simp; decide), ht.get_driven (by simp; decide)⟩

theorem fioOutputFault_dead (hi : s.island 120 = false) : ∃ t, exec (.fioOutputFault o c mA) s = .next t ∧
    t.get (F.FIO_OUT_FAULTS_count o) = s.get (F.FIO_OUT_FAULTS_count o) ∧
    t.get (F.FIO_OUT_DIAG_current_ma o) = s.get (F.FIO_OUT_DIAG_current_ma o) := by
  rw [exec_fioOutputFault, execFioOutputFault]
  exact run_answers_of_effect hp (u := s) (if_pos (by simp [hi])) fun t ht =>
    ⟨ht.get_driven (by simp; decide), ht.get_driven (by simp; decide)⟩

/-- A retry ends an overload that is not latched. -/
theorem outputRetry_ends : ∃ t, exec (.outputRetry o) s = .next t ∧ t.get (F.FIO_OUT_DIAG_overload o) =
    if s.get (F.FIO_OUT_DIAG_latched o) = 0 then 0 else s.get (F.FIO_OUT_DIAG_overload o) := by
  rw [exec_outputRetry, execOutputRetry]
  by_cases hl : s.get (F.FIO_OUT_DIAG_latched o) = 0
  · refine run_answers_of_effect hp (if_neg (by simp [State.on, hl])) fun t ht => ?_
    rw [ht.get_driven (by simp; decide), if_pos hl]
    exact State.get_set (by simp [F.FIO_OUT_DIAG_overload])
  · refine run_answers_of_effect hp (u := s) (if_pos (by simpa [State.on] using hl)) fun t ht => ?_
    rw [ht.get_driven (by simp; decide), if_neg hl]

theorem outputCooled_ends : ∃ t, exec (.outputCooled o) s = .next t ∧ t.get (F.FIO_OUT_DIAG_over_temp o) = 0 ∧
    t.get (F.FIO_OUT_DIAG_overload o) = s.get (F.FIO_OUT_DIAG_overload o) := by
  rw [exec_outputCooled, execOutputCooled]
  refine State.run_answers hp fun t ht => ?_
  rw [ht.get_driven (by simp; decide), ht.get_driven (by simp; decide)]
  exact ⟨State.get_set (by simp [F.FIO_OUT_DIAG_over_temp]), State.get_set_field (f := F.FIO_OUT_DIAG_overload o)
    (g := F.FIO_OUT_DIAG_over_temp o) rfl (by simp [F.FIO_OUT_DIAG_overload, F.FIO_OUT_DIAG_over_temp])
    (by simp [F.FIO_OUT_DIAG_overload])⟩

end Fault
end Diagnostics
end FieldIo

/-- Settles O30: each clause is one branch of a command; a write of the outputs changes the bits that its port may drive. -/
theorem fieldIo : Obligations.FieldIo := by
  unfold Obligations.FieldIo
  refine ⟨?emits, ?waits, ?drops, ?idle, ?releases, ?frees, ?width, ?captures, ?shows, ?settles, ?dead, ?sets, ?clears, ?setRole, ?setNone,
    ?clearRole, ?clearNone, ?clear, ?clearDenied, ?overload, ?overTemp, ?isolator, ?group, ?openWire, ?masked, ?faultDead, ?retry, ?cooled⟩
  case emits => exact fun s d v c hp hv hc hs ht hb => dividerTrigger_emits hp hv hc hs ht hb
  case waits => exact fun s d v c hp hv hc hs ht hb hw => dividerTrigger_waits hp hv hc hs ht hb hw
  case drops => exact fun s d v c hp hv hc hs ht hb hw => dividerTrigger_drops hp hv hc hs ht hb hw
  case idle => exact fun s d v c hp hv hc h => dividerTrigger_idle hp hv hc h
  case releases => exact fun s d v c cs hp hv hw => triggerRelease_emits hp hv hw
  case frees => exact fun s d v hp hv hw => triggerRelease_frees hp hv hw
  case width => exact fun s d v hp hv => pulseWidthEnd_ends hp hv
  case captures => exact fun s i b hp hf hi hl hs hb he => fieldInputChange_captures hp hf hi hl hs hb he
  case shows => exact fun s i b hp hf hi hl hs hb he => fieldInputChange_shows hp hf hi hl hs hb he
  case settles => exact fun s i b hp hf hi hl h => fieldInputChange_settles hp hf hi hl h
  case dead => exact fun s i b hp h => fieldInputChange_dead hp h
  case sets => exact fun s i m hp hf => fioOutSet_drives hp hf
  case clears => exact fun s i m hp hf => fioOutClr_drives hp hf
  case setRole => exact fun s i m o hp hf ho hm hno => fioOutSet_role hp hf ho hm hno
  case setNone => exact fun s i m hp hf => fioOut_noField (g := fun s => s.hostOut i m.toNat 0xC State.setOne) hp hf
  case clearRole => exact fun s i m o hp hf ho hm hno => fioOutClr_role hp hf ho hm hno
  case clearNone => exact fun s i m hp hf => fioOut_noField (g := fun s => s.hostOut i m.toNat 0x10 State.clearOne) hp hf
  case clear => exact fun s i q hp hf hr hq => outputClear_clears hp hf hr hq
  case clearDenied => exact fun s i q hp hf hr hc => outputClear_role hp hf hr hc
  case overload => exact fun s o mA hp hf hi => fioOutputFault_overload hp hf hi
  case overTemp => exact fun s o mA hp hf hi => fioOutputFault_overTemp hp hf hi
  case isolator => exact fun s o mA hp hf hi => fioOutputFault_isolator hp hf hi
  case group => exact fun s o mA k hp hf hi hk => fioOutputFault_group hp hf hi hk
  case openWire => exact fun s o mA hp hf hi hm => fioOutputFault_openWire hp hf hi hm
  case masked => exact fun s o mA q hp hc hm => fioOutputFault_masked hp hc hm
  case faultDead => exact fun s o c mA hp hi => fioOutputFault_dead hp hi
  case retry => exact fun s o hp => outputRetry_ends hp
  case cooled => exact fun s o hp => outputCooled_ends hp

end Sys2Proof.Machine
end

section
/-! PROOFS. The servo (R328 to R331): Sync, Follow_Up and what an offset does. -/

namespace Sys2Proof.Machine

open Sys2Proof

section Servo

variable {s t u : State} {tp : Fin 2} {m : Ptp} {off : Int} {g : Field} {kind : Nat} {f : State → State}

theorem exec_sync : exec (.sync tp m) s = execSync tp m s := rfl
theorem exec_followUp : exec (.followUp tp m) s = execFollowUp tp m s := rfl

/-! ### Messages in -/

/-- A state in which a message is counted, messages are sent, free words drawn and the leg of a Sync taken. -/
def State.Heard (s u : State) : Prop :=
  ∃ c o l n, u = { s with time := { s.time with msgCount := c, out := o, syncLeg := l }, free := n }

section Heard
variable (h : s.Heard u)
include h

theorem State.Heard.offset : u.time.offset = s.time.offset := by obtain ⟨c, o, l, n, rfl⟩ := h; rfl
theorem State.Heard.master : u.time.master = s.time.master := by obtain ⟨c, o, l, n, rfl⟩ := h; rfl
theorem State.Heard.measured : u.time.measured = s.time.measured := by obtain ⟨c, o, l, n, rfl⟩ := h; rfl
theorem State.Heard.slew : u.time.slew = s.time.slew := by obtain ⟨c, o, l, n, rfl⟩ := h; rfl
theorem State.Heard.step : u.time.step = s.time.step := by obtain ⟨c, o, l, n, rfl⟩ := h; rfl
theorem State.Heard.goodRun : u.time.goodRun = s.time.goodRun := by obtain ⟨c, o, l, n, rfl⟩ := h; rfl
theorem State.Heard.badRun : u.time.badRun = s.time.badRun := by obtain ⟨c, o, l, n, rfl⟩ := h; rfl
theorem State.Heard.lockedRate : u.time.lockedRate = s.time.lockedRate := by obtain ⟨c, o, l, n, rfl⟩ := h; rfl
theorem State.Heard.syncWait : u.time.syncWait = s.time.syncWait := by obtain ⟨c, o, l, n, rfl⟩ := h; rfl
theorem State.Heard.linkDelay : u.time.linkDelay = s.time.linkDelay := by obtain ⟨c, o, l, n, rfl⟩ := h; rfl

end Heard

theorem State.Heard.get (h : s.Heard u) : u.get g = s.get g := by
  obtain ⟨c, o, l, n, rfl⟩ := h
  rfl

theorem State.Heard.valid (h : s.Heard u) : u.timeValid = s.timeValid := congrArg (· != 0) h.get

theorem State.Heard.clk (h : s.Heard u) : u.clk = s.clk := by
  obtain ⟨c, o, l, n, rfl⟩ := h
  rfl

theorem State.Heard.cfg (h : s.Heard u) : u.cfg = s.cfg := by
  obtain ⟨c, o, l, n, rfl⟩ := h
  rfl

theorem State.Heard.localNs (h : s.Heard u) : u.localNs = s.localNs := by rw [State.localNs, h.clk, State.localNs]

theorem State.Heard.masterPath (h : s.Heard u) : u.masterPath kind = s.masterPath kind := by
  obtain ⟨c, o, l, n, rfl⟩ := h
  rfl

theorem timeOut_heard {x : FrameOut} (h : s.Heard u) : s.Heard (u.timeOut x) := by
  obtain ⟨c, o, l, n, rfl⟩ := h
  unfold State.timeOut
  split
  · exact ⟨c, _, l, n, rfl⟩
  · exact ⟨c, o, l, n, rfl⟩

/-- What leaves a port whose transmit island is on. -/
theorem timeOut_out {x : FrameOut} (h : s.island (109 + 2 * x.port) = true) : (s.timeOut x).time.out = s.time.out ++ [x] := by
  unfold State.timeOut
  rw [if_pos h]

theorem draw_heard (h : s.Heard u) : s.Heard u.draw.2 := by
  obtain ⟨c, o, l, n, rfl⟩ := h
  exact ⟨c, o, l, _, rfl⟩

theorem countMessage_heard {a b : Nat} : s.Heard (s.countMessage a b).2 := ⟨_, s.time.out, s.time.syncLeg, s.free, rfl⟩

theorem countMessage_out {a b : Nat} : (s.countMessage a b).2.time.out = s.time.out := rfl

theorem forward_heard {e : Bool} (h : s.Heard u) : s.Heard (u.forward tp kind e m) := by
  unfold State.forward
  split
  · exact h
  · split
    · exact timeOut_heard h
    · exact timeOut_heard (draw_heard h)

/-- A good message is taken, once it is counted. -/
theorem ptpIn_good (h : s.goodMessage tp m) : s.ptpIn tp kind m f = f (s.countMessage tp m.source).2 := by
  obtain ⟨hi, hb, hd, hv, hl, hn⟩ := h
  unfold State.ptpIn
  rw [if_neg (by simp [hi]), if_neg (by simp [hb])]
  refine (if_neg ?_).trans (if_neg (Nat.not_lt.mpr hn))
  simp [hd, hv, hl]

/-- What a Sync finds: it is counted, and has gone on. -/
def State.syncHeard (s : State) (tp : Fin 2) (m : Ptp) : State := (s.countMessage tp m.source).2.forward tp ptpSYNC true m

theorem syncHeard_heard : s.Heard (s.syncHeard tp m) := forward_heard countMessage_heard

/-- A transparent clock sends the Sync on. -/
theorem syncHeard_out (htc : s.tcMode ≠ 0) (hi : s.island (109 + 2 * (1 - tp.val)) = true) : ∃ r : Nat,
    (s.syncHeard tp m).time.out = s.time.out ++ [.ptp (1 - tp.val) ptpSYNC { m with
      correction := m.correction + 65536 * r + (if s.tcMode = 2 then 65536 * tget 0 s.time.linkDelay tp.val else 0) }] := by
  refine ⟨(s.countMessage tp m.source).2.draw.1, ?_⟩
  unfold State.syncHeard State.forward
  rw [if_neg (show ¬ (s.countMessage tp m.source).2.tcMode = 0 from htc), if_neg (by decide)]
  have hisl : (s.countMessage tp m.source).2.draw.2.island (109 + 2 * (1 - tp.val)) = true := hi
  refine (timeOut_out hisl).trans ?_
  refine congrArg (fun c => s.time.out ++ [FrameOut.ptp (1 - tp.val) ptpSYNC { m with correction := c }]) ?_
  change m.correction + ((65536 * (s.countMessage tp m.source).2.draw.1 : Nat) : Int) +
    (if (s.tcMode == 2) = true then 65536 * tget 0 s.time.linkDelay tp.val else 0) = _
  simp only [beq_iff_eq]
  push_cast
  rfl

/-! ### Offsets (R330, R331) -/

/-- An offset is shown. -/
def State.offsetShown (s : State) (off : Int) : State :=
  ({ s with time := { s.time with offset := off, measured := true } }).set F.TIME_OFFSET_ns (ofSigned 32 off)

/-- The runs of good and bad offsets. -/
def State.runsCounted (s : State) (off : Int) : State :=
  let good := off.natAbs < 100
  let t := s.time
  { s with time := { t with goodRun := if good then min (t.goodRun + 1) 16 else 0
                            badRun := if good then 0 else min (t.badRun + 1) 4 } }

/-- The servo takes a master's offsets again, or ends its lock. -/
def State.servoAcquires (s : State) : State :=
  let st := s.get F.TIME_STATUS_state
  let s := if st == tsHOLDOVER || st == tsINVALID then s.setServo tsACQUIRING else s
  if st == tsLOCKED && s.time.badRun ≥ 4 then s.setServo tsACQUIRING else s

/-- The servo is locked. -/
def State.servoLocked (s : State) (tp : Nat) (off : Int) : State :=
  let s := (s.setServo tsLOCKED).set F.TIME_STATUS_valid 1
  ({ s with time := { s.time with slewing := false } }).raise Code.TIME_LOCKED [tp, ofSigned 32 off]

/-- The servo has judged an offset. -/
def State.offsetJudged (s : State) (tp : Nat) (off : Int) : State :=
  let s1 := (s.runsCounted off).servoAcquires
  if s1.time.goodRun ≥ 16 && (s.runsCounted off).get F.TIME_STATUS_state != tsLOCKED then s1.servoLocked tp off else s1

/-- The rate that follows from an offset. -/
def State.offsetRated (s : State) : State :=
  match s.time.slew with
  | some (o, _) => s.setRate (if o > 0 then -(s.slewPpb : Int) else s.slewPpb)
  | none =>
    let s := s.servoRate (if s.time.slewing then s.slewPpb else 200000)
    if s.get F.TIME_STATUS_state == tsLOCKED then
      { s with time := { s.time with lockedRate := toSigned 32 (s.get F.TIME_FREQ_ppb) } }
    else s

theorem acceptOffset_def {k : Nat} : s.acceptOffset k off = (s.offsetJudged k off).offsetRated := rfl

/-- What no offset moves in the time unit. -/
def TimeSt.kept (x : TimeSt) : Int × Bool × Option (Nat × Nat) × List FrameOut := (x.offset, x.measured, x.step, x.out)

theorem servoRate_time {k : Nat} : (s.servoRate k).time = s.time := (State.servoRate_frame (Within.refl _) (.refl _ s)).time rfl

theorem get_servoRate {k : Nat} (h : regKind g.key ≠ 246) : (s.servoRate k).get g = s.get g := by
  unfold State.servoRate State.setRate
  exact State.get_set_kind (by simpa using h)

theorem offsetRated_kept : s.offsetRated.time.kept = s.time.kept := by
  unfold State.offsetRated
  split
  · rfl
  · extract_lets u
    have hu : u.time.kept = s.time.kept := congrArg TimeSt.kept servoRate_time
    split
    · exact hu
    · exact hu

theorem get_offsetRated (h : regKind g.key ≠ 246) : s.offsetRated.get g = s.get g := by
  unfold State.offsetRated
  split
  · exact State.get_set_kind (by simpa using h)
  · extract_lets u
    have hu : u.get g = s.get g := get_servoRate h
    split
    · exact hu
    · exact hu

theorem offsetRated_recorder : s.offsetRated.recorder = s.recorder := by
  unfold State.offsetRated
  split
  · rfl
  · extract_lets u
    have hu : u.recorder = s.recorder := (State.servoRate_frame (Within.refl _) (.refl _ s)).recorder rfl
    split
    · exact hu
    · exact hu

theorem toSigned_ofSigned {x : Int} (hlo : -(2 ^ 31) ≤ x) (hhi : x < 2 ^ 31) : toSigned 32 (ofSigned 32 x) = x := by
  have hlt : ofSigned 32 x < 2 ^ 32 := ofSigned_lt
  have hval : ((ofSigned 32 x : Nat) : Int) = x % 2 ^ 32 := by
    rw [ofSigned, Int.toNat_of_nonneg (Int.emod_nonneg _ (by decide))]
  unfold toSigned
  rw [Nat.mod_eq_of_lt hlt]
  split <;> omega

/-- Without a SLEW and its limit, the rate lies within 200 ppm. -/
theorem offsetRated_bounds (hs : s.time.slew = none) (hl : s.time.slewing = false) :
    -200000 ≤ toSigned 32 (s.offsetRated.get F.TIME_FREQ_ppb) ∧ toSigned 32 (s.offsetRated.get F.TIME_FREQ_ppb) ≤ 200000 := by
  have hrate : ∃ x : Int, -200000 ≤ x ∧ x ≤ 200000 ∧ (s.servoRate 200000).get F.TIME_FREQ_ppb = ofSigned 32 x := by
    refine ⟨((s.draw.1 % 400001 : Nat) : Int) - 200000, by omega, by omega, ?_⟩
    exact (State.get_set (by decide)).trans (Nat.mod_eq_of_lt ofSigned_lt)
  obtain ⟨x, hlo, hhi, hx⟩ := hrate
  have hfreq : s.offsetRated.get F.TIME_FREQ_ppb = ofSigned 32 x := by
    unfold State.offsetRated
    rw [hs, hl]
    dsimp only
    rw [if_neg Bool.false_ne_true]
    split
    · exact hx
    · exact hx
  rw [hfreq, toSigned_ofSigned (by omega) (by omega)]
  exact ⟨hlo, hhi⟩

theorem servoAcquires_time : s.servoAcquires.time = s.time := by
  unfold State.servoAcquires
  extract_lets st u
  have hu : u.time = s.time := by
    unfold u
    split <;> rfl
  split
  · exact hu
  · exact hu

theorem get_servoAcquires (hk : g.key ≠ F.TIME_STATUS_state.key ∨ 2 ≤ g.lo ∧ g.lo + g.width ≤ 32) :
    s.servoAcquires.get g = s.get g := by
  have hset : ∀ (u : State) (v : Nat), (u.setServo v).get g = u.get g := fun u v => by
    by_cases h : g.key = F.TIME_STATUS_state.key
    · obtain ⟨hlo, h32⟩ := hk.resolve_left (not_not_intro h)
      exact State.get_set_field (f := g) (g := F.TIME_STATUS_state) h (.inr hlo) h32
    · exact State.get_set_ne _ _ _ _ h
  unfold State.servoAcquires
  extract_lets st u
  have hu : u.get g = s.get g := by
    unfold u
    split
    · exact hset _ _
    · rfl
  split
  · exact (hset _ _).trans hu
  · exact hu

theorem servoAcquires_recorder : s.servoAcquires.recorder = s.recorder := by
  unfold State.servoAcquires
  extract_lets st u
  have hu : u.recorder = s.recorder := by
    unfold u
    split <;> rfl
  split
  · exact hu
  · exact hu

/-- A lock ends after four bad offsets. -/
theorem servoAcquires_state (h : s.get F.TIME_STATUS_state = tsLOCKED) (hb : 4 ≤ s.time.badRun) :
    s.servoAcquires.get F.TIME_STATUS_state = tsACQUIRING := by
  unfold State.servoAcquires
  extract_lets st u
  have hu : u = s := if_neg (by rw [show st = tsLOCKED from h]; decide)
  rw [if_pos (by rw [hu]; simpa [st, h] using hb)]
  exact State.get_set (by decide)

theorem servoLocked_kept {k : Nat} : (s.servoLocked k off).time.kept = s.time.kept := by
  unfold State.servoLocked
  extract_lets u
  rw [raise_time]
  rfl

theorem get_servoLocked {k : Nat} (hk : regKind g.key ≠ 241) (hr : State.raise_mask.testBit (regKind g.key) = false) :
    (s.servoLocked k off).get g = s.get g := by
  unfold State.servoLocked
  extract_lets u
  rw [get_raise hr]
  change u.get g = s.get g
  unfold u
  rw [State.get_set_kind (by simpa using hk)]
  exact State.get_set_kind (by simpa using hk)

theorem offsetJudged_kept {k : Nat} : (s.offsetJudged k off).time.kept = s.time.kept := by
  unfold State.offsetJudged
  extract_lets u
  have hu : u.time.kept = s.time.kept := by
    unfold u
    rw [servoAcquires_time]
    rfl
  split
  · exact servoLocked_kept.trans hu
  · exact hu

theorem acceptOffset_kept {k : Nat} : (s.acceptOffset k off).time.kept = s.time.kept := by
  rw [acceptOffset_def, offsetRated_kept, offsetJudged_kept]

/-- A refused offset is counted and written. -/
def State.jumpCounted (s : State) (k : Nat) (off : Int) : State :=
  ((s.inc (F.TIME_PTP_CNT_jumps k)).raise Code.TIME_JUMP_REFUSED [ofSigned 32 off, k]).ptpViolation k 3 ptpSYNC

/-- The servo holds the last locked rate, its runs begun again. -/
def State.servoHolds (s : State) : State :=
  ((({ s with time := { s.time with goodRun := 0, badRun := 0, slew := none, slewing := true } } : State).setServo tsHOLDOVER)).setRate
    s.time.lockedRate

theorem refuseOffset_def {k : Nat} : s.refuseOffset k off = if s.get F.TIME_STATUS_state == tsHOLDOVER then
    (s.jumpCounted k off).servoHolds else (s.jumpCounted k off).servoHolds.raise Code.TIME_HOLDOVER [1] := rfl

theorem get_refuseOffset {k : Nat} (h : State.raise_mask.testBit (regKind g.key) = false) :
    (s.refuseOffset k off).get g = (s.jumpCounted k off).servoHolds.get g := by
  rw [refuseOffset_def]
  split
  · rfl
  · exact get_raise h

theorem refuseOffset_time {k : Nat} : (s.refuseOffset k off).time = (s.jumpCounted k off).servoHolds.time := by
  rw [refuseOffset_def]
  split
  · rfl
  · exact raise_time

theorem jumpCounted_time {k : Nat} : (s.jumpCounted k off).time = s.time := by
  rw [State.jumpCounted, (State.ptpViolation_frame (Within.refl _) (.refl _ _)).time rfl, raise_time, State.inc_def, set_time]

theorem get_jumpCounted {k : Nat} (h : regKind g.key ≠ 260) (hr : State.raise_mask.testBit (regKind g.key) = false) :
    (s.jumpCounted k off).get g = s.get g := by
  rw [State.jumpCounted, State.ptpViolation, get_raise hr, State.inc_def, State.get_set_kind (by simpa using h), get_raise hr,
    State.inc_def, State.get_set_kind (by simpa using h)]

theorem jumpCounted_jumps {k : Nat} : (s.jumpCounted k off).get (F.TIME_PTP_CNT_jumps k) =
    min (s.get (F.TIME_PTP_CNT_jumps k) + 1) 65535 := by
  rw [State.jumpCounted, State.ptpViolation, get_raise (by simp; decide), State.inc_def,
    State.get_set_field (f := F.TIME_PTP_CNT_jumps k) (g := F.TIME_PTP_CNT_violations k) rfl
      (by simp [F.TIME_PTP_CNT_jumps, F.TIME_PTP_CNT_violations]) (by simp [F.TIME_PTP_CNT_jumps]),
    get_raise (by simp; decide), get_inc (by simp [F.TIME_PTP_CNT_jumps])]
  rfl

theorem servoHolds_kept : s.servoHolds.time.kept = s.time.kept := rfl

theorem get_servoHolds (hk : regKind g.key ≠ 246) (h : g.key ≠ F.TIME_STATUS_state.key ∨ 2 ≤ g.lo ∧ g.lo + g.width ≤ 32) :
    s.servoHolds.get g = s.get g := by
  rw [State.servoHolds, State.setRate, State.get_set_kind (by simpa using hk), State.setServo]
  by_cases hkey : g.key = F.TIME_STATUS_state.key
  · obtain ⟨hlo, h32⟩ := h.resolve_left (not_not_intro hkey)
    exact State.get_set_field (f := g) (g := F.TIME_STATUS_state) hkey (.inr hlo) h32
  · exact State.get_set_ne _ _ _ _ hkey

theorem servoHolds_state : s.servoHolds.get F.TIME_STATUS_state = tsHOLDOVER := by
  rw [State.servoHolds, State.setRate, State.get_set_kind (by simp)]
  exact State.get_set (by decide)

theorem servoHolds_freq : s.servoHolds.get F.TIME_FREQ_ppb = ofSigned 32 s.time.lockedRate :=
  (State.get_set (by decide)).trans (Nat.mod_eq_of_lt ofSigned_lt)

theorem refuseOffset_kept {k : Nat} : (s.refuseOffset k off).time.kept = s.time.kept := by
  rw [refuseOffset_time, servoHolds_kept, jumpCounted_time]

theorem get_acceptOffset {k : Nat} (h : regKind g.key ≠ 246) (hk : regKind g.key ≠ 241)
    (hr : State.raise_mask.testBit (regKind g.key) = false) : (s.acceptOffset k off).get g = s.get g := by
  have hne : g.key ≠ F.TIME_STATUS_state.key := fun e => hk (by rw [e]; decide)
  rw [acceptOffset_def, get_offsetRated h]
  unfold State.offsetJudged
  extract_lets u
  have hu : u.get g = s.get g := get_servoAcquires (.inl hne)
  split
  · exact (get_servoLocked hk hr).trans hu
  · exact hu

/-! ### Measuring -/

/-- The first offset while time is INVALID prepares the setting of the clock. -/
def State.stepPrepared (s : State) (first : Bool) : State :=
  if first && s.time.step.isNone then
    { s with time := { s.time with step := some (255, 0) } }.set F.TIME_STATUS_step_pending 1 else s

theorem get_offsetShown (h : regKind g.key ≠ 245) : (s.offsetShown off).get g = s.get g := State.get_set_kind (by simpa using h)

theorem offsetShown_valid : (s.offsetShown off).timeValid = s.timeValid := congrArg (· != 0) (get_offsetShown (by decide))

theorem offsetShown_ns : (s.offsetShown off).get F.TIME_OFFSET_ns = ofSigned 32 off :=
  (State.get_set (by decide)).trans (Nat.mod_eq_of_lt ofSigned_lt)

theorem measure_invalid {k : Nat} (h : s.timeValid = false) :
    s.measure k off = ((s.offsetShown off).stepPrepared (!s.time.measured)).acceptOffset k off := by
  unfold State.measure
  extract_lets first x u v
  have hval : u.timeValid = false := offsetShown_valid.trans h
  rw [if_pos (by rw [hval]; decide)]
  rfl

/-- While no SLEW runs, an offset is refused above the threshold and accepted below. -/
theorem measure_valid {k : Nat} (h : s.timeValid = true) (hs : s.time.slew = none) : s.measure k off =
    if off.natAbs > s.jump.natAbs then (s.offsetShown off).refuseOffset k off else (s.offsetShown off).acceptOffset k off := by
  have hj : (s.offsetShown off).jump = s.jump := by rw [State.jump, get_offsetShown (by
    rw [kind_of_indexed (f := fun _ => F.TIME_JUMP_ns) (n := 1) (k := regKind F.TIME_JUMP_ns.key) (by decide) (fun _ => rfl)
      (fun _ _ => rfl) 0]; decide), State.jump]
  rw [← hj]
  unfold State.measure
  extract_lets first x u v
  have hval : u.timeValid = true := offsetShown_valid.trans h
  rw [if_neg (by rw [hval]; decide)]
  have hu : u.time.slew = none := hs
  split
  next heq => cases hu.symm.trans heq
  next => rfl

theorem stepPrepared_offset {b : Bool} : (s.stepPrepared b).time.offset = s.time.offset ∧
    (s.stepPrepared b).time.measured = s.time.measured ∧ (s.stepPrepared b).time.out = s.time.out := by
  unfold State.stepPrepared
  split <;> exact ⟨rfl, rfl, rfl⟩

theorem get_stepPrepared {b : Bool} (h : regKind g.key ≠ 241) : (s.stepPrepared b).get g = s.get g := by
  unfold State.stepPrepared
  split
  · exact State.get_set_kind (by simpa using h)
  · rfl

/-- What every offset that is measured shows. -/
def State.shows (u : State) (off : Int) (out : List FrameOut) : Prop :=
  u.time.offset = off ∧ u.time.measured = true ∧ u.time.out = out ∧ u.get F.TIME_OFFSET_ns = ofSigned 32 off

theorem shows_of_kept {out : List FrameOut} (h : s.shows off out) (hk : t.time.kept = s.time.kept)
    (hg : t.get F.TIME_OFFSET_ns = s.get F.TIME_OFFSET_ns) : t.shows off out := by
  obtain ⟨ho, hm, hout, hns⟩ := h
  simp only [TimeSt.kept, Prod.mk.injEq] at hk
  obtain ⟨ko, km, -, kout⟩ := hk
  exact ⟨ko.trans ho, km.trans hm, kout.trans hout, hg.trans hns⟩

theorem acceptOffset_shows {k : Nat} {out : List FrameOut} (h : s.shows off out) : (s.acceptOffset k off).shows off out :=
  shows_of_kept h acceptOffset_kept (get_acceptOffset (by decide) (by decide) (by decide))

theorem refuseOffset_shows {k : Nat} {out : List FrameOut} (h : s.shows off out) : (s.refuseOffset k off).shows off out := by
  refine shows_of_kept h refuseOffset_kept ?_
  rw [get_refuseOffset (by decide), get_servoHolds (by decide) (.inl (by decide)), get_jumpCounted (by decide) (by decide)]

theorem measure_shows {k : Nat} : (s.measure k off).shows off s.time.out := by
  have hshown : (s.offsetShown off).shows off s.time.out := ⟨rfl, rfl, rfl, offsetShown_ns⟩
  cases hv : s.timeValid with
  | false =>
    obtain ⟨ho, hm, hout⟩ := stepPrepared_offset (s := s.offsetShown off) (b := !s.time.measured)
    rw [measure_invalid hv]
    exact acceptOffset_shows ⟨ho, hm, hout, (get_stepPrepared (by decide)).trans offsetShown_ns⟩
  | true =>
    unfold State.measure
    extract_lets first x u v
    have hu : u.shows off s.time.out := hshown
    have hval : u.timeValid = true := offsetShown_valid.trans hv
    rw [if_neg (by rw [hval]; decide)]
    split
    · split
      · exact refuseOffset_shows hu
      · split
        · exact acceptOffset_shows hu
        · exact acceptOffset_shows hu
    · split
      · exact refuseOffset_shows hu
      · exact acceptOffset_shows hu

theorem get_acceptOffset_status {k : Nat} (hk : g.key = F.TIME_STATUS_state.key) (h : 2 ≤ g.lo ∧ g.lo + g.width ≤ 6) :
    (s.acceptOffset k off).get g = s.get g := by
  have hkind : regKind g.key = 241 := by rw [hk]; decide
  rw [acceptOffset_def, get_offsetRated (by rw [hkind]; decide)]
  unfold State.offsetJudged
  extract_lets u
  have hu : u.get g = s.get g := get_servoAcquires (.inr ⟨h.1, by omega⟩)
  split
  · refine Eq.trans ?_ hu
    unfold State.servoLocked
    extract_lets v
    rw [get_raise (by rw [hkind]; decide)]
    change v.get g = u.get g
    unfold v State.setServo
    rw [State.get_set_field (f := g) (g := F.TIME_STATUS_valid) hk (.inl h.2) (by omega),
      State.get_set_field (f := g) (g := F.TIME_STATUS_state) hk (.inr h.1) (by omega)]
  · exact hu

theorem valid_eq_one (h : s.timeValid = true) : s.get F.TIME_STATUS_valid = 1 := by
  have hlt : s.get F.TIME_STATUS_valid < 2 := get_lt
  have hne : s.get F.TIME_STATUS_valid ≠ 0 := by simpa [State.timeValid, State.on] using h
  omega

/-- The fourth bad offset in a row ends a lock, and time stays VALID. -/
theorem acceptOffset_unlocks {k : Nat} (hbad : 100 ≤ off.natAbs) (hrun : 3 ≤ s.time.badRun) (hl : s.get F.TIME_STATUS_state = tsLOCKED) :
    (s.acceptOffset k off).get F.TIME_STATUS_state = tsACQUIRING ∧
    (s.acceptOffset k off).get F.TIME_STATUS_valid = s.get F.TIME_STATUS_valid := by
  have hnot : ¬ off.natAbs < 100 := Nat.not_lt.mpr hbad
  have hgoodRun : (s.runsCounted off).time.goodRun = 0 := if_neg (by simpa using hnot)
  have hbadRun : 4 ≤ (s.runsCounted off).time.badRun := by
    refine le_trans ?_ (if_neg (by simpa using hnot)).ge
    omega
  have hjudged : s.offsetJudged k off = (s.runsCounted off).servoAcquires := by
    unfold State.offsetJudged
    extract_lets u
    refine if_neg ?_
    rw [show u.time = _ from servoAcquires_time, hgoodRun]
    simp
  rw [acceptOffset_def, get_offsetRated (by decide), get_offsetRated (by decide), hjudged,
    servoAcquires_state (s := s.runsCounted off) hl hbadRun, get_servoAcquires (.inr (by decide))]
  exact ⟨rfl, rfl⟩

/-- The sixteenth good offset in a row makes the servo LOCKED. -/
theorem acceptOffset_locks {k : Nat} (hgood : off.natAbs < 100) (hrun : 15 ≤ s.time.goodRun) (hl : s.get F.TIME_STATUS_state ≠ tsLOCKED)
    (hs : s.time.slew = none) : (s.acceptOffset k off).get F.TIME_STATUS_state = tsLOCKED ∧
      (s.acceptOffset k off).wrote Code.TIME_LOCKED [k, ofSigned 32 off] ∧
      -200000 ≤ toSigned 32 ((s.acceptOffset k off).get F.TIME_FREQ_ppb) ∧
      toSigned 32 ((s.acceptOffset k off).get F.TIME_FREQ_ppb) ≤ 200000 := by
  have hgoodRun : 16 ≤ (s.runsCounted off).time.goodRun := by
    refine le_trans ?_ (if_pos (by simpa using hgood)).ge
    omega
  have hjudged : s.offsetJudged k off = (s.runsCounted off).servoAcquires.servoLocked k off := by
    unfold State.offsetJudged
    extract_lets u
    refine if_pos ?_
    have hl' : (s.runsCounted off).get F.TIME_STATUS_state ≠ tsLOCKED := hl
    rw [show u.time = _ from servoAcquires_time]
    simpa [hgoodRun] using hl'
  have htime : ((s.runsCounted off).servoAcquires.servoLocked k off).time =
      { (s.runsCounted off).servoAcquires.time with slewing := false } := by
    unfold State.servoLocked
    extract_lets v
    rw [raise_time]
    rfl
  rw [acceptOffset_def, get_offsetRated (by decide), hjudged]
  refine ⟨?_, wrote_of_recorder offsetRated_recorder ?_, offsetRated_bounds ?_ (by rw [htime])⟩
  · unfold State.servoLocked
    extract_lets v
    rw [get_raise (by decide)]
    change v.get _ = _
    unfold v
    rw [State.get_set_field (f := F.TIME_STATUS_state) (g := F.TIME_STATUS_valid) rfl (.inl (by decide)) (by decide)]
    exact State.get_set (by decide)
  · unfold State.servoLocked
    exact raise_wrote
  · rw [htime, servoAcquires_time]
    exact hs

/-- The first offset while time is INVALID. -/
theorem measure_first {k : Nat} (hv : s.timeValid = false) (hf : s.time.measured = false) (hs : s.time.step = none) :
    (s.measure k off).time.step = some (255, 0) ∧ (s.measure k off).get F.TIME_STATUS_step_pending = 1 := by
  have hprep : (s.offsetShown off).stepPrepared (!s.time.measured) =
      ({ s.offsetShown off with time := { (s.offsetShown off).time with step := some (255, 0) } } : State).set
        F.TIME_STATUS_step_pending 1 := if_pos (by
    rw [hf, show (s.offsetShown off).time.step = none from hs]
    rfl)
  have hkept := acceptOffset_kept (s := (s.offsetShown off).stepPrepared (!s.time.measured)) (k := k) (off := off)
  simp only [TimeSt.kept, Prod.mk.injEq] at hkept
  obtain ⟨-, -, hstep, -⟩ := hkept
  rw [measure_invalid hv, hstep, get_acceptOffset_status (g := F.TIME_STATUS_step_pending) rfl (by decide), hprep]
  exact ⟨rfl, State.get_set (by decide)⟩

/-- The servo takes a Sync: the offset is receipt less timestamp less correction less path delay. -/
def State.legTaken (s : State) (leg : Int) : State := { s with time := { s.time with syncLeg := some leg } }

theorem legTaken_heard {leg : Int} (h : s.Heard u) : s.Heard (u.legTaken leg) := by
  obtain ⟨c, o, l, n, rfl⟩ := h
  exact ⟨c, o, some leg, n, rfl⟩

theorem servoSync_def {k : Nat} {t1 t2 c : Int} :
    s.servoSync k t1 t2 c = (s.legTaken (t2 - t1 - c)).measure k (t2 - t1 - c - s.masterPath k) := rfl

section Commands
variable (hp : s.powered = true) (hg : s.goodMessage tp m)
include hp hg

omit hp in
theorem sync_effect : ∃ f, exec (.sync tp m) s = s.run f ∧ f s = if m.twoStep then
    let u := s.syncHeard tp m
    { u with time := { u.time with syncWait := u.time.syncWait.filter (fun w => !(w.port == tp.val && w.source == m.source)) ++
      [{ port := tp.val, source := m.source, seq := m.seq, at_ := u.localNs, corr := ptpCorr m }] } }
    else if (s.syncHeard tp m).time.master == some (m.source, tp.val) then
      (s.syncHeard tp m).servoSync tp (ptpStamp m) (s.syncHeard tp m).localNs (ptpCorr m)
    else s.syncHeard tp m :=
  ⟨_, exec_sync.trans rfl, (ptpIn_good hg).trans rfl⟩

/-- A two-step Sync waits for its Follow_Up. -/
theorem sync_waits (h2 : m.twoStep = true) : ∃ t, exec (.sync tp m) s = .next t ∧
    { port := tp.val, source := m.source, seq := m.seq, at_ := s.localNs, corr := ptpCorr m } ∈ t.time.syncWait ∧
    t.time.offset = s.time.offset := by
  obtain ⟨f, hexec, he⟩ := sync_effect hg
  have hheard := syncHeard_heard (s := s) (tp := tp) (m := m)
  rw [hexec]
  refine run_answers_of_effect hp (he.trans (if_pos h2)) fun t ht => ?_
  rw [ht.time_driven]
  refine ⟨List.mem_append_right _ ?_, hheard.offset⟩
  rw [hheard.localNs]
  exact List.mem_cons_self

section OneStep
variable (h2 : m.twoStep = false)
include h2

theorem sync_other (hm : s.time.master ≠ some (m.source, tp.val)) : ∃ t, exec (.sync tp m) s = .next t ∧
    t.time.offset = s.time.offset ∧ t.get F.TIME_STATUS_state = s.get F.TIME_STATUS_state := by
  obtain ⟨f, hexec, he⟩ := sync_effect hg
  have hheard := syncHeard_heard (s := s) (tp := tp) (m := m)
  rw [hexec]
  refine run_answers_of_effect hp (he.trans ((if_neg (by simp [h2])).trans (if_neg (by rw [hheard.master]; simpa using hm)))) fun t ht => ?_
  rw [ht.time_driven, ht.get_driven (by decide), hheard.get]
  exact ⟨hheard.offset, rfl⟩

section Master
variable (hm : s.time.master = some (m.source, tp.val))
  (hoff : off = s.localNs - ptpStamp m - ptpCorr m - s.masterPath tp)
include hm hoff

/-- A one-step Sync of the master measures its offset. -/
theorem sync_measures {P : State → Prop} (hP : ∀ u t, s.Heard u → t.Same (u.measure tp off).driveOutputs → P t) :
    ∃ t, exec (.sync tp m) s = .next t ∧ P t := by
  subst hoff
  obtain ⟨f, hexec, he⟩ := sync_effect hg
  have hheard := syncHeard_heard (s := s) (tp := tp) (m := m)
  have hservo : f s = ((s.syncHeard tp m).legTaken (s.localNs - ptpStamp m - ptpCorr m)).measure tp
      (s.localNs - ptpStamp m - ptpCorr m - s.masterPath tp) := by
    rw [he, if_neg (by simp [h2]), if_pos (by rw [hheard.master]; simpa using hm), servoSync_def, hheard.localNs, hheard.masterPath]
  rw [hexec]
  exact run_answers_of_effect hp hservo fun t ht => hP _ t (legTaken_heard hheard) ht

/-- What the offset of a Sync shows. -/
theorem sync_shows : ∃ t, exec (.sync tp m) s = .next t ∧ t.measured off := by
  refine sync_measures hp hg h2 hm hoff fun u t _ ht => ?_
  obtain ⟨ho, hmeas, -, hns⟩ := measure_shows (s := u) (k := tp) (off := off)
  rw [State.measured, ht.time_driven, ht.get_driven (by decide)]
  exact ⟨ho, hmeas, hns⟩

/-- The first offset while time is INVALID prepares the setting by port 0xFF. -/
theorem sync_first (hv : s.timeValid = false) (hf : s.time.measured = false) (hs : s.time.step = none) :
    ∃ t, exec (.sync tp m) s = .next t ∧ t.time.step = some (255, 0) ∧ t.get F.TIME_STATUS_step_pending = 1 ∧ t.clk = s.clk := by
  refine sync_measures hp hg h2 hm hoff fun u t hu ht => ?_
  obtain ⟨hstep, hpending⟩ := measure_first (k := tp) (off := off) (hu.valid.trans hv) (hu.measured.trans hf) (hu.step.trans hs)
  rw [ht.time_driven, ht.get_driven (by decide), ht.clk_driven, (State.measure_frame (Within.refl _) (.refl _ u)).clk rfl, hu.clk]
  exact ⟨hstep, hpending, rfl⟩

section Valid
variable (hv : s.timeValid = true) (hs : s.time.slew = none)
include hv hs

/-- An offset above the threshold is refused: HOLDOVER at the last locked rate. -/
theorem sync_refused (hj : s.jump.natAbs < off.natAbs) : ∃ t, exec (.sync tp m) s = .next t ∧
    t.get F.TIME_STATUS_state = tsHOLDOVER ∧ t.get F.TIME_FREQ_ppb = ofSigned 32 s.time.lockedRate ∧
    t.get F.TIME_STATUS_valid = 1 ∧ t.get (F.TIME_PTP_CNT_jumps tp) = min (s.get (F.TIME_PTP_CNT_jumps tp) + 1) 65535 ∧
    t.clk = s.clk := by
  refine sync_measures hp hg h2 hm hoff fun u t hu ht => ?_
  have hclk : (u.measure tp off).clk = s.clk := ((State.measure_frame (Within.refl _) (.refl _ u)).clk rfl).trans hu.clk
  have hjump : u.jump = s.jump := congrArg Nat.cast hu.get
  have hrate : ((u.offsetShown off).jumpCounted tp off).time.lockedRate = s.time.lockedRate :=
    (congrArg TimeSt.lockedRate jumpCounted_time).trans hu.lockedRate
  have hmeas : u.measure tp off = (u.offsetShown off).refuseOffset tp off := by
    rw [measure_valid (hu.valid.trans hv) (hu.slew.trans hs), if_pos (by rw [hjump]; exact hj)]
  have hvalid : s.get F.TIME_STATUS_valid = 1 := valid_eq_one hv
  rw [ht.get_driven (by decide), ht.get_driven (by decide), ht.get_driven (by decide), ht.get_driven (by simp; decide),
    ht.clk_driven, hclk, hmeas, get_refuseOffset (by decide), get_refuseOffset (by decide), get_refuseOffset (by decide),
    get_refuseOffset (by simp; decide), servoHolds_state, servoHolds_freq, hrate]
  refine ⟨rfl, rfl, ?_, ?_, rfl⟩
  · rw [get_servoHolds (by decide) (.inr (by decide)), get_jumpCounted (by decide) (by decide), get_offsetShown (by decide), hu.get]
    exact hvalid
  · rw [get_servoHolds (by simp) (.inl (by simp [F.TIME_PTP_CNT_jumps, F.TIME_STATUS_state]; omega)), jumpCounted_jumps,
      get_offsetShown (by simp), hu.get]

section Within
variable (hj : off.natAbs ≤ s.jump.natAbs)
include hj

/-- An offset below the threshold is accepted. -/
theorem sync_accepts {P : State → Prop} (hP : ∀ u t, s.Heard u → t.Same ((u.offsetShown off).acceptOffset tp off).driveOutputs → P t) :
    ∃ t, exec (.sync tp m) s = .next t ∧ P t := by
  refine sync_measures hp hg h2 hm hoff fun u t hu ht => hP u t hu ?_
  have hjump : u.jump = s.jump := congrArg Nat.cast hu.get
  rw [measure_valid (hu.valid.trans hv) (hu.slew.trans hs), if_neg (by rw [hjump]; exact Nat.not_lt.mpr hj)] at ht
  exact ht

/-- The fourth bad offset in a row ends a lock. -/
theorem sync_unlocks (hbad : 100 ≤ off.natAbs) (hrun : 3 ≤ s.time.badRun) (hl : s.get F.TIME_STATUS_state = tsLOCKED) :
    ∃ t, exec (.sync tp m) s = .next t ∧ t.get F.TIME_STATUS_state = tsACQUIRING ∧ t.get F.TIME_STATUS_valid = 1 := by
  refine sync_accepts hp hg h2 hm hoff hv hs hj fun u t hu ht => ?_
  have hstate : (u.offsetShown off).get F.TIME_STATUS_state = tsLOCKED := (get_offsetShown (by decide)).trans (hu.get.trans hl)
  have hvalid : (u.offsetShown off).get F.TIME_STATUS_valid = 1 :=
    (get_offsetShown (by decide)).trans (hu.get.trans (valid_eq_one hv))
  obtain ⟨hacq, hval⟩ := acceptOffset_unlocks (k := tp) hbad (show 3 ≤ (u.offsetShown off).time.badRun from hu.badRun ▸ hrun) hstate
  rw [ht.get_driven (by decide), ht.get_driven (by decide), hacq, hval, hvalid]
  exact ⟨rfl, rfl⟩

/-- The sixteenth good offset in a row makes the servo LOCKED. -/
theorem sync_locks (hgood : off.natAbs < 100) (hrun : 15 ≤ s.time.goodRun) (hl : s.get F.TIME_STATUS_state ≠ tsLOCKED) :
    ∃ t, exec (.sync tp m) s = .next t ∧ t.get F.TIME_STATUS_state = tsLOCKED ∧ t.wrote Code.TIME_LOCKED [tp, ofSigned 32 off] ∧
      -200000 ≤ toSigned 32 (t.get F.TIME_FREQ_ppb) ∧ toSigned 32 (t.get F.TIME_FREQ_ppb) ≤ 200000 := by
  refine sync_accepts hp hg h2 hm hoff hv hs hj fun u t hu ht => ?_
  have hstate : (u.offsetShown off).get F.TIME_STATUS_state ≠ tsLOCKED := by
    rw [get_offsetShown (by decide), hu.get]
    exact hl
  obtain ⟨hlock, hwrote, hbounds⟩ := acceptOffset_locks (k := tp) hgood (show 15 ≤ (u.offsetShown off).time.goodRun from hu.goodRun ▸ hrun)
    hstate (show (u.offsetShown off).time.slew = none from hu.slew.trans hs)
  rw [ht.get_driven (by decide), ht.get_driven (by decide)]
  exact ⟨hlock, ht.wrote_driven hwrote, hbounds⟩

end Within
end Valid
end Master
end OneStep
/-- A transparent clock sends a Sync on with its residence time and, in P2P mode, the link delay. -/
theorem sync_forwards (htc : s.tcMode ≠ 0) (hi : s.island (109 + 2 * (1 - tp.val)) = true) : ∃ t, exec (.sync tp m) s = .next t ∧
    ∃ r : Nat, t.time.out = s.time.out ++ [.ptp (1 - tp.val) ptpSYNC { m with
      correction := m.correction + 65536 * r + (if s.tcMode = 2 then 65536 * tget 0 s.time.linkDelay tp.val else 0) }] := by
  obtain ⟨f, hexec, he⟩ := sync_effect hg
  have hout := syncHeard_out (s := s) (tp := tp) (m := m) htc hi
  rw [hexec]
  refine run_answers_of_effect hp he fun t ht => ?_
  rw [ht.time_driven]
  split
  · exact hout
  · split
    · obtain ⟨-, -, hsame, -⟩ := measure_shows (s := (s.syncHeard tp m).legTaken ((s.syncHeard tp m).localNs - ptpStamp m - ptpCorr m))
        (k := tp) (off := (s.syncHeard tp m).localNs - ptpStamp m - ptpCorr m - (s.syncHeard tp m).masterPath tp)
      rw [servoSync_def, hsame]
      exact hout
    · exact hout

/-! ### Follow_Up -/

end Commands

/-- Whether a Sync waits for this Follow_Up. -/
def SyncWait.answeredBy (tp : Nat) (m : Ptp) (w : SyncWait) : Bool := w.port == tp && w.source == m.source && w.seq == m.seq

/-- What a Follow_Up that answers a Sync finds: it is counted and has gone on, and the Sync waits no more. -/
def State.followUpHeard (s : State) (tp : Fin 2) (m : Ptp) (w : SyncWait) : State :=
  let u := (s.countMessage tp m.source).2.forward tp ptpFOLLOWUP false m
  { u with time := { u.time with syncWait := u.time.syncWait.filter (fun v => !(v.port == w.port && v.source == w.source)) } }

section FollowUp
variable {w : SyncWait} (hp : s.powered = true) (hg : s.goodMessage tp m)
include hp hg

/-- A Follow_Up without a Sync is a violation. -/
theorem followUp_unmatched (hw : s.time.syncWait.find? (SyncWait.answeredBy tp m) = none) :
    ∃ t, exec (.followUp tp m) s = .next t ∧ s.violated t tp 2 ptpFOLLOWUP ∧ t.time.offset = s.time.offset := by
  rw [exec_followUp]
  refine run_answers_of_effect hp ((ptpIn_good hg).trans ?_) (fun t ht => ?_) (u := (s.countMessage tp m.source).2.ptpViolation tp 2 ptpFOLLOWUP)
  · split
    next => rfl
    next heq => cases hw.symm.trans heq
  · refine ⟨⟨?_, ht.wrote_driven raise_wrote⟩, ?_⟩
    · rw [ht.get_driven (by simp; decide), State.ptpViolation, get_raise (by simp; decide), get_inc (by simp [F.TIME_PTP_CNT_violations])]
      rfl
    · rw [ht.time_driven, (State.ptpViolation_frame (Within.refl _) (.refl _ _)).time rfl]
      rfl

section Matched
variable (hw : s.time.syncWait.find? (SyncWait.answeredBy tp m) = some w)
include hw

omit hp in
theorem followUp_effect : ∃ f, exec (.followUp tp m) s = s.run f ∧ f s =
    if (s.followUpHeard tp m w).time.master == some (m.source, tp.val) then
      (s.followUpHeard tp m w).servoSync tp (ptpStamp m) w.at_ (w.corr + ptpCorr m) else s.followUpHeard tp m w := by
  refine ⟨_, exec_followUp.trans rfl, (ptpIn_good hg).trans ?_⟩
  split
  next heq => cases hw.symm.trans heq
  next v heq =>
    cases Option.some.inj (hw.symm.trans heq)
    rfl

omit hp hg hw in
theorem followUpHeard_time : ((s.followUpHeard tp m w).time.offset = s.time.offset ∧
    (s.followUpHeard tp m w).time.master = s.time.master) ∧ (s.followUpHeard tp m w).masterPath kind = s.masterPath kind := by
  have hheard : s.Heard ((s.countMessage tp m.source).2.forward tp ptpFOLLOWUP false m) := forward_heard countMessage_heard
  exact ⟨⟨hheard.offset, hheard.master⟩, hheard.masterPath⟩

/-- A Follow_Up that answers a Sync of the master measures the offset. -/
theorem followUp_measures (hm : s.time.master = some (m.source, tp.val)) : ∃ t, exec (.followUp tp m) s = .next t ∧
    t.measured (w.at_ - ptpStamp m - (w.corr + ptpCorr m) - s.masterPath tp) := by
  obtain ⟨f, hexec, he⟩ := followUp_effect hg hw
  obtain ⟨⟨-, hmaster⟩, hpath⟩ := followUpHeard_time (s := s) (tp := tp) (m := m) (w := w) (kind := tp)
  rw [hexec]
  refine run_answers_of_effect hp (he.trans (if_pos (by rw [hmaster]; simpa using hm))) fun t ht => ?_
  rw [servoSync_def, hpath] at ht
  obtain ⟨ho, hmeas, -, hns⟩ := measure_shows (s := (s.followUpHeard tp m w).legTaken (w.at_ - ptpStamp m - (w.corr + ptpCorr m)))
    (k := tp) (off := w.at_ - ptpStamp m - (w.corr + ptpCorr m) - s.masterPath tp)
  rw [State.measured, ht.time_driven, ht.get_driven (by decide)]
  exact ⟨ho, hmeas, hns⟩

/-- One of another source only ends the wait. -/
theorem followUp_other (hm : s.time.master ≠ some (m.source, tp.val)) : ∃ t, exec (.followUp tp m) s = .next t ∧
    t.time.offset = s.time.offset ∧ ∀ v ∈ t.time.syncWait, v.port ≠ w.port ∨ v.source ≠ w.source := by
  obtain ⟨f, hexec, he⟩ := followUp_effect hg hw
  obtain ⟨⟨hoffset, hmaster⟩, -⟩ := followUpHeard_time (s := s) (tp := tp) (m := m) (w := w) (kind := tp)
  rw [hexec]
  refine run_answers_of_effect hp (he.trans (if_neg (by rw [hmaster]; simpa using hm))) fun t ht => ?_
  rw [ht.time_driven]
  refine ⟨hoffset, fun v hv => ?_⟩
  obtain ⟨-, hkeep⟩ := List.mem_filter.mp hv
  by_cases hport : v.port = w.port
  · exact .inr (by simpa [hport] using hkeep)
  · exact .inl hport

end Matched
end FollowUp
end Servo

/-- Settles O31: each message goes through `ptpIn`, and each offset of the master through `State.measure`, where it is refused
or moves the runs of the servo. -/
theorem ptpServo : Obligations.PtpServo := by
  unfold Obligations.PtpServo
  exact ⟨fun _ _ _ hp hg h2 => sync_waits hp hg h2,
    fun _ _ _ _ hp hg h2 hm ho => sync_shows hp hg h2 hm ho,
    fun _ _ _ _ hp hg h2 hm ho hv hs hj => sync_refused hp hg h2 hm ho hv hs hj,
    fun _ _ _ _ hp hg h2 hm ho hv hs hj hgood hrun hl => sync_locks hp hg h2 hm ho hv hs hj hgood hrun hl,
    fun _ _ _ _ hp hg h2 hm ho hv hs hj hbad hrun hl => sync_unlocks hp hg h2 hm ho hv hs hj hbad hrun hl,
    fun _ _ _ _ hp hg h2 hm ho hv hf hs => sync_first hp hg h2 hm ho hv hf hs,
    fun _ _ _ hp hg h2 hm => sync_other hp hg h2 hm,
    fun _ _ _ hp hg htc hi => sync_forwards hp hg htc hi,
    fun _ _ _ _ hp hg hw hm => followUp_measures hp hg hw hm,
    fun _ _ _ _ hp hg hw hm => followUp_other hp hg hw hm,
    fun _ _ _ hp hg hw => followUp_unmatched hp hg hw⟩

end Sys2Proof.Machine
end

section
/-! PROOFS. The PTP messages in and out, and the best master clock (R328 to R330). -/

namespace Sys2Proof.Machine

open Sys2Proof

section Protocol

variable {s t u : State} {tp : Fin 2} {m : Ptp} {g : Field} {kind : Nat} {f : State → State} {c : Instr}

theorem exec_delayReq : exec (.delayReq tp m) s = execDelayReq tp m s := rfl
theorem exec_delayResp : exec (.delayResp tp m) s = execDelayResp tp m s := rfl
theorem exec_pdelayReq : exec (.pdelayReq tp m) s = execPdelayReq tp m s := rfl
theorem exec_pdelayResp : exec (.pdelayResp tp m) s = execPdelayResp tp m s := rfl
theorem exec_pdelayRespFollowUp : exec (.pdelayRespFollowUp tp m) s = execPdelayRespFollowUp tp m s := rfl
theorem exec_announce : exec (.announce tp m) s = execAnnounce tp m s := rfl
theorem exec_masterLost : exec .masterLost s = execMasterLost s := rfl
theorem exec_delayReqTransmit : exec .delayReqTransmit s = execDelayReqTransmit s := rfl
theorem exec_pdelayReqTransmit : exec (.pdelayReqTransmit tp) s = execPdelayReqTransmit tp s := rfl
theorem exec_syncTransmit : exec (.syncTransmit tp) s = execSyncTransmit tp s := rfl
theorem exec_announceTransmit : exec (.announceTransmit tp) s = execAnnounceTransmit tp s := rfl
theorem exec_nonPtpFrame : exec (.nonPtpFrame tp) s = execNonPtpFrame tp s := rfl

theorem State.Heard.foreign (h : s.Heard u) : u.time.foreign = s.time.foreign := by
  obtain ⟨c, o, l, n, rfl⟩ := h
  rfl

theorem tget_tput_self {α : Type} (d : α) (x : Tab α) (i : Nat) (v : α) : tget d (tput x i v) i = v := by
  rw [tget, tfind_tput_self]
  rfl

/-! ### What arrives -/

/-- A message on a port whose receive island is off is not received. -/
theorem ptpIn_off (hc : exec c s = s.run (fun s => s.ptpIn tp kind m f)) (hp : s.powered = true)
    (hi : s.island (108 + 2 * tp.val) = false) : ∃ t, exec c s = .next t ∧ t.time = s.time ∧ t.clk = s.clk := by
  rw [hc]
  refine run_answers_of_effect hp (u := s) ?_ fun t ht => ⟨ht.time_driven, ht.clk_driven⟩
  unfold State.ptpIn
  exact if_pos (by simp [hi])

theorem ptpViolation_time {k cause : Nat} : (s.ptpViolation k cause kind).time = s.time := by
  rw [State.ptpViolation, raise_time, State.inc_def, set_time]

theorem ptpViolation_count {k cause : Nat} : (s.ptpViolation k cause kind).get (F.TIME_PTP_CNT_violations k) =
    min (s.get (F.TIME_PTP_CNT_violations k) + 1) 65535 := by
  rw [State.ptpViolation, get_raise (by simp; decide), get_inc (by simp [F.TIME_PTP_CNT_violations])]
  rfl

/-- A violation, once the message is counted. -/
theorem ptpViolation_answers {cause : Nat} {e : State → State} (hp : s.powered = true)
    (he : e s = (s.countMessage tp m.source).2.ptpViolation tp cause kind) : ∃ t, s.run e = .next t ∧ s.violated t tp cause kind ∧
      t.time = (s.countMessage tp m.source).2.time ∧ t.clk = s.clk := by
  refine run_answers_of_effect hp he fun t ht => ⟨⟨?_, ht.wrote_driven raise_wrote⟩, ?_, ?_⟩
  · rw [ht.get_driven (by simp; decide), ptpViolation_count]
    rfl
  · rw [ht.time_driven, ptpViolation_time]
  · rw [ht.clk_driven, (State.ptpViolation_frame (Within.refl _) (.refl _ _)).clk rfl]
    rfl

/-- A message of another domain or version, or shorter than it says, is a violation. -/
theorem ptpIn_bad (hc : exec c s = s.run (fun s => s.ptpIn tp kind m f)) (hp : s.powered = true) (hi : s.island (108 + 2 * tp.val) = true)
    (hb : m.bridgeFull = false) (hbad : m.domain ≠ s.cfg.structureSec.domain ∨ m.version ≠ 2 ∨ m.length < m.claimed) :
    ∃ t, exec c s = .next t ∧ s.violated t tp 0 kind ∧ t.time.out = s.time.out ∧ t.clk = s.clk := by
  have he : s.ptpIn tp kind m f = (s.countMessage tp m.source).2.ptpViolation tp 0 kind := by
    unfold State.ptpIn
    rw [if_neg (by simp [hi]), if_neg (by simp [hb])]
    refine if_pos ?_
    change (m.domain != s.cfg.structureSec.domain || m.version != 2 || decide (m.length < m.claimed)) = true
    simpa [or_assoc] using hbad
  obtain ⟨t, ht, hv, htime, hclk⟩ := ptpViolation_answers (e := fun s => s.ptpIn tp kind m f) hp he
  exact ⟨t, hc.trans ht, hv, (congrArg TimeSt.out htime).trans rfl, hclk⟩

/-! ### What leaves -/

theorem timeOut_on {x : FrameOut} (h : s.island (109 + 2 * x.port) = true) :
    s.timeOut x = { s with time := { s.time with out := s.time.out ++ [x] } } := if_pos h

/-- Two leave one after the other. -/
theorem timeOut_twice {x y : FrameOut} (hx : s.island (109 + 2 * x.port) = true) (hy : s.island (109 + 2 * y.port) = true) :
    ((s.timeOut x).timeOut y).time.out = s.time.out ++ [x, y] := by
  rw [timeOut_on hx]
  exact (timeOut_out (by exact hy)).trans (List.append_assoc _ _ _)

section GoodMessage
variable (hp : s.powered = true) (hg : s.goodMessage tp m)
include hp hg

/-- What a good message of a type does. -/
theorem good_answers {P : State → Prop} (hc : exec c s = s.run (fun s => s.ptpIn tp kind m f)) (he : f (s.countMessage tp m.source).2 = u)
    (hP : ∀ t, t.Same u.driveOutputs → P t) : ∃ t, exec c s = .next t ∧ P t := by
  rw [hc]
  exact run_answers_of_effect hp ((ptpIn_good hg).trans he) hP

/-- A grandmaster answers a Delay_Req. -/
theorem delayReq_answered (hi : s.island (109 + 2 * tp.val) = true) (htc : s.tcMode = 0) (hgm : s.on F.TIME_STATUS_grandmaster = true)
    (hpd : s.peerDelay = false) : ∃ t, exec (.delayReq tp m) s = .next t ∧ t.time.out = s.time.out ++ [.ptp tp ptpDELAYRESP
      { s.ownPtp tp m.seq 54 with correction := m.correction, target := m.source, interval := Config.logDelayReq.toInt }] := by
  have hfwd : (s.countMessage tp m.source).2.forward tp ptpDELAYREQ true m = (s.countMessage tp m.source).2 := if_pos htc
  have hcond : ((s.countMessage tp m.source).2.on F.TIME_STATUS_grandmaster && !(s.countMessage tp m.source).2.peerDelay) = true := by
    change (s.on F.TIME_STATUS_grandmaster && !s.peerDelay) = true
    rw [hgm, hpd]
    rfl
  refine good_answers hp hg (exec_delayReq.trans rfl) rfl fun t ht => ?_
  rw [ht.time_driven, hfwd]
  dsimp only
  rw [if_pos hcond, timeOut_on (show (s.countMessage tp m.source).2.island (109 + 2 * tp.val) = true from hi)]
  rfl

/-- One that is no grandmaster does not. -/
theorem delayReq_unanswered (htc : s.tcMode = 0) (hgm : s.on F.TIME_STATUS_grandmaster = false) :
    ∃ t, exec (.delayReq tp m) s = .next t ∧ t.time.out = s.time.out := by
  have hfwd : (s.countMessage tp m.source).2.forward tp ptpDELAYREQ true m = (s.countMessage tp m.source).2 := if_pos htc
  have hcond : ((s.countMessage tp m.source).2.on F.TIME_STATUS_grandmaster && !(s.countMessage tp m.source).2.peerDelay) = false := by
    change (s.on F.TIME_STATUS_grandmaster && !s.peerDelay) = false
    rw [hgm]
    rfl
  refine good_answers hp hg (exec_delayReq.trans rfl) rfl fun t ht => ?_
  rw [ht.time_driven, hfwd]
  dsimp only
  rw [hcond]
  rfl

/-- The answer of the master to a Delay_Req gives the path delay; that of another gives none. -/
theorem delayResp_measures {a b : Nat} {t3 leg : Int} (htarget : m.target = portIdentity tp)
    (hreq : s.time.delayReq.find? (fun e => e.1 == tp.val && e.2.1 == m.seq) = some (a, b, t3)) (hleg : s.time.syncLeg = some leg) :
    ∃ t, exec (.delayResp tp m) s = .next t ∧ t.time.pathDelay =
      (if s.time.master = some (m.source, tp.val) then (leg + (ptpStamp m - t3 - ptpCorr m)) / 2 else s.time.pathDelay) := by
  refine good_answers hp hg (exec_delayResp.trans rfl) rfl fun t ht => ?_
  rw [ht.time_driven, if_neg (by simp [htarget])]
  split
  next heq => cases hreq.symm.trans heq
  next x y z heq =>
    cases Option.some.inj (hreq.symm.trans heq)
    change TimeSt.pathDelay (State.time (match (if s.time.master == some (m.source, tp.val) then s.time.syncLeg else none) with
      | some leg => _ | none => _)) = _
    by_cases hm : s.time.master = some (m.source, tp.val)
    · rw [if_pos hm, if_pos (by simpa using hm), hleg]
    · rw [if_neg hm, if_neg (by simpa using hm)]
      rfl

/-- An answer to no Delay_Req is a violation. -/
theorem delayResp_unasked (htarget : m.target = portIdentity tp)
    (hreq : s.time.delayReq.find? (fun e => e.1 == tp.val && e.2.1 == m.seq) = none) :
    ∃ t, exec (.delayResp tp m) s = .next t ∧ s.violated t tp 2 ptpDELAYRESP ∧ t.time.pathDelay = s.time.pathDelay := by
  obtain ⟨t, ht, hv, htime, -⟩ := ptpViolation_answers (m := m) (tp := tp) (cause := 2) (kind := ptpDELAYRESP) hp
    (e := fun s => (s.countMessage tp m.source).2.ptpViolation tp 2 ptpDELAYRESP) rfl
  refine good_answers hp hg (exec_delayResp.trans rfl) (u := (s.countMessage tp m.source).2.ptpViolation tp 2 ptpDELAYRESP) ?_ fun t ht =>
    ⟨⟨?_, ht.wrote_driven raise_wrote⟩, ?_⟩
  · rw [if_neg (by simp [htarget])]
    split
    next => rfl
    next heq => cases hreq.symm.trans heq
  · rw [ht.get_driven (by simp; decide), ptpViolation_count]
    rfl
  · rw [ht.time_driven, ptpViolation_time]
    rfl

/-- An answer to another clock passes a transparent clock. -/
theorem delayResp_forwards (htarget : m.target ≠ portIdentity tp) (htc : s.tcMode ≠ 0) (hi : s.island (109 + 2 * (1 - tp.val)) = true) :
    ∃ t, exec (.delayResp tp m) s = .next t ∧ t.time.out = s.time.out ++ [.ptp (1 - tp.val) ptpDELAYRESP m] := by
  refine good_answers hp hg (exec_delayResp.trans rfl) (if_pos (by simpa using htarget)) fun t ht => ?_
  rw [ht.time_driven, State.forward, if_neg (show ¬ (s.countMessage tp m.source).2.tcMode = 0 from htc), if_pos (by rfl)]
  exact timeOut_out hi

/-- A Pdelay_Req is answered, and its answer followed up. -/
theorem pdelayReq_answered (hi : s.island (109 + 2 * tp.val) = true) (hpd : s.peerDelay = true) :
    ∃ t, exec (.pdelayReq tp m) s = .next t ∧ ∃ f : Ptp, t.time.out = s.time.out ++ [.ptp tp ptpPDELAYRESP
      { s.ownPtp tp m.seq 54 with target := m.source, twoStep := true }, .ptp tp ptpPDELAYRESPFU f] ∧ f.target = m.source ∧
      f.seq = m.seq ∧ f.correction = m.correction := by
  refine good_answers hp hg (exec_pdelayReq.trans rfl) (if_pos hpd) fun t ht => ?_
  rw [ht.time_driven]
  exact ⟨_, timeOut_twice (s := (s.countMessage tp m.source).2.draw.2) (by exact hi) (by exact hi), rfl, rfl, rfl⟩

/-- Without P2P operation a Pdelay_Req gets no answer. -/
theorem pdelayReq_unanswered (hpd : s.peerDelay = false) (htc : s.tcMode = 0) :
    ∃ t, exec (.pdelayReq tp m) s = .next t ∧ t.time.out = s.time.out := by
  have hfwd : (s.countMessage tp m.source).2.forward tp ptpPDELAYREQ true m = (s.countMessage tp m.source).2 := if_pos htc
  refine good_answers hp hg (exec_pdelayReq.trans rfl) ((if_neg (by
    change ¬ s.peerDelay = true
    rw [hpd]; exact Bool.false_ne_true)).trans hfwd) fun t ht => ?_
  rw [ht.time_driven]
  rfl

section Pdelay
variable {a b : Nat} {t1 v : Int} {o : Option Int} (htarget : m.target = portIdentity tp)
include htarget

/-- The answer to a Pdelay_Req: a one-step one gives the link delay. -/
theorem pdelayResp_measures (hreq : s.time.pdelayReq.find? (fun e => e.1 == tp.val && e.2.1 == m.seq) = some (a, b, t1, o))
    (h2 : m.twoStep = false) : ∃ t, exec (.pdelayResp tp m) s = .next t ∧
      tget 0 t.time.linkDelay tp.val = ((s.localNs : Int) - t1 - ptpCorr m) / 2 := by
  refine good_answers hp hg (exec_pdelayResp.trans rfl) rfl fun t ht => ?_
  rw [ht.time_driven, if_neg (by simp [htarget])]
  split
  next heq => cases hreq.symm.trans heq
  next heq =>
    cases Option.some.inj (hreq.symm.trans heq)
    rw [h2]
    exact tget_tput_self _ _ _ _

/-- A two-step one waits for its follow-up. -/
theorem pdelayResp_waits (hreq : s.time.pdelayReq.find? (fun e => e.1 == tp.val && e.2.1 == m.seq) = some (a, b, t1, o))
    (h2 : m.twoStep = true) : ∃ t, exec (.pdelayResp tp m) s = .next t ∧
      (tp.val, m.seq, t1, some (ptpStamp m - t1 + s.localNs - ptpCorr m)) ∈ t.time.pdelayReq := by
  refine good_answers hp hg (exec_pdelayResp.trans rfl) rfl fun t ht => ?_
  rw [ht.time_driven, if_neg (by simp [htarget])]
  split
  next heq => cases hreq.symm.trans heq
  next heq =>
    cases Option.some.inj (hreq.symm.trans heq)
    rw [h2]
    exact List.mem_append_right _ List.mem_cons_self

/-- The follow-up gives the link delay. -/
theorem pdelayFollowUp_measures (hreq : s.time.pdelayReq.find? (fun e => e.1 == tp.val && e.2.1 == m.seq) = some (a, b, t1, some v)) :
    ∃ t, exec (.pdelayRespFollowUp tp m) s = .next t ∧ tget 0 t.time.linkDelay tp.val = (v - ptpStamp m - ptpCorr m) / 2 := by
  refine good_answers hp hg (exec_pdelayRespFollowUp.trans rfl) rfl fun t ht => ?_
  rw [ht.time_driven, if_neg (by simp [htarget])]
  split
  next heq =>
    cases Option.some.inj (hreq.symm.trans heq)
    exact tget_tput_self _ _ _ _
  next hno => exact absurd hreq (hno _ _ _ _)

/-- A follow-up to nothing measures nothing. -/
theorem pdelayFollowUp_unasked (hreq : s.time.pdelayReq.find? (fun e => e.1 == tp.val && e.2.1 == m.seq) = none) :
    ∃ t, exec (.pdelayRespFollowUp tp m) s = .next t ∧ t.time.linkDelay = s.time.linkDelay := by
  refine good_answers hp hg (exec_pdelayRespFollowUp.trans rfl) rfl fun t ht => ?_
  rw [ht.time_driven, if_neg (by simp [htarget])]
  split
  next heq => cases hreq.symm.trans heq
  next => rfl

end Pdelay
end GoodMessage
/-! ### What the module sends of its own -/

section Sending
variable (hp : s.powered = true)
include hp

/-- What a command does to the time unit alone. -/
theorem time_answers {e : State → State} {P : TimeSt → Prop} (hc : exec c s = s.run e) (hP : P (e s).time) :
    ∃ t, exec c s = .next t ∧ P t.time := by
  rw [hc]
  refine run_answers_of_effect hp rfl fun t ht => ?_
  rw [ht.time_driven]
  exact hP

/-- A slave sends a Delay_Req, which waits for its answer. -/
theorem delayReqTransmit_sends {src k n : Nat} (hm : s.time.master = some (src, k)) (hpd : s.peerDelay = false)
    (hi : s.island (109 + 2 * k) = true) (hn : n = tget 0 s.time.seqNos (16 * k + ptpDELAYREQ)) :
    ∃ t, exec .delayReqTransmit s = .next t ∧ t.time.out = s.time.out ++ [.ptp k ptpDELAYREQ (s.ownPtp k n 44)] ∧
      (k, n, (s.localNs : Int)) ∈ t.time.delayReq := by
  subst hn
  refine time_answers hp (exec_delayReqTransmit.trans rfl) (P := fun x => x.out = _ ∧ _ ∈ x.delayReq) ?_
  split
  next heq => cases hm.symm.trans heq
  next a b heq =>
    cases Option.some.inj (hm.symm.trans heq)
    rw [if_neg (by rw [hpd]; exact Bool.false_ne_true)]
    dsimp only
    rw [timeOut_on (by exact hi)]
    exact ⟨rfl, List.mem_append_right _ List.mem_cons_self⟩

theorem delayReqTransmit_idle (hm : s.time.master = none) : ∃ t, exec .delayReqTransmit s = .next t ∧ t.time = s.time := by
  refine time_answers hp (exec_delayReqTransmit.trans rfl) (P := fun x => x = s.time) ?_
  split
  next => rfl
  next heq => cases hm.symm.trans heq

/-- In P2P operation a Pdelay_Req leaves, and waits for its answer. -/
theorem pdelayReqTransmit_sends {n : Nat} (hi : s.island (109 + 2 * tp.val) = true) (hpd : s.peerDelay = true)
    (hn : n = tget 0 s.time.seqNos (16 * tp.val + ptpPDELAYREQ)) : ∃ t, exec (.pdelayReqTransmit tp) s = .next t ∧
      t.time.out = s.time.out ++ [.ptp tp ptpPDELAYREQ (s.ownPtp tp n 54)] ∧ (tp.val, n, (s.localNs : Int), none) ∈ t.time.pdelayReq := by
  subst hn
  refine time_answers hp (exec_pdelayReqTransmit.trans rfl) (P := fun x => x.out = _ ∧ _ ∈ x.pdelayReq) ?_
  rw [if_neg (by simp [hpd])]
  dsimp only
  rw [timeOut_on (by exact hi)]
  exact ⟨rfl, List.mem_append_right _ List.mem_cons_self⟩

theorem pdelayReqTransmit_idle (hpd : s.peerDelay = false) : ∃ t, exec (.pdelayReqTransmit tp) s = .next t ∧ t.time = s.time :=
  time_answers hp (exec_pdelayReqTransmit.trans rfl) (P := fun x => x = s.time) (congrArg State.time (if_pos (by simp [hpd])))

section Grandmaster
variable {n : Nat} (hgm : s.on F.TIME_STATUS_grandmaster = true) (hl : s.timeLinked tp = true)
include hgm hl

omit hp hgm in
theorem island_of_timeLinked : s.island (109 + 2 * tp.val) = true := by
  simp only [State.timeLinked, State.timePort, Bool.and_eq_true] at hl
  exact hl.1.2

/-- A grandmaster sends a Sync with the next number. -/
theorem syncTransmit_sends (hn : n = tget 0 s.time.seqNos (16 * tp.val + ptpSYNC)) : ∃ t, exec (.syncTransmit tp) s = .next t ∧
    t.time.out = s.time.out ++ [.ptp tp ptpSYNC { s.ownPtp tp n 44 with interval := s.cfg.structureSec.logSync }] ∧
    tget 0 t.time.seqNos (16 * tp.val + ptpSYNC) = (n + 1) % 65536 := by
  subst hn
  refine time_answers hp (exec_syncTransmit.trans rfl) (P := fun x => x.out = _ ∧ tget 0 x.seqNos _ = _) ?_
  rw [if_neg (by simp [hgm, hl])]
  dsimp only
  rw [timeOut_on (by exact island_of_timeLinked hl)]
  exact ⟨rfl, tget_tset_self _ _ _ _⟩

/-- A grandmaster sends an Announce with the next number. -/
theorem announceTransmit_sends (hn : n = tget 0 s.time.seqNos (16 * tp.val + ptpANNOUNCE)) : ∃ t, exec (.announceTransmit tp) s = .next t ∧
    t.time.out = s.time.out ++ [.ptp tp ptpANNOUNCE { s.ownPtp tp n 64 with
      dataset := s.ownDataset, interval := s.cfg.structureSec.logAnnounce }] ∧
    tget 0 t.time.seqNos (16 * tp.val + ptpANNOUNCE) = (n + 1) % 65536 := by
  subst hn
  refine time_answers hp (exec_announceTransmit.trans rfl) (P := fun x => x.out = _ ∧ tget 0 x.seqNos _ = _) ?_
  rw [if_neg (by simp [hgm, hl])]
  dsimp only
  rw [timeOut_on (by exact island_of_timeLinked hl)]
  exact ⟨rfl, tget_tset_self _ _ _ _⟩

end Grandmaster

theorem syncTransmit_idle (hgm : s.on F.TIME_STATUS_grandmaster = false) : ∃ t, exec (.syncTransmit tp) s = .next t ∧ t.time = s.time :=
  time_answers hp (exec_syncTransmit.trans rfl) (P := fun x => x = s.time) (congrArg State.time (if_pos (by simp [hgm])))

theorem announceTransmit_idle (hgm : s.on F.TIME_STATUS_grandmaster = false) :
    ∃ t, exec (.announceTransmit tp) s = .next t ∧ t.time = s.time :=
  time_answers hp (exec_announceTransmit.trans rfl) (P := fun x => x = s.time) (congrArg State.time (if_pos (by simp [hgm])))

/-- A frame that is no PTP message is counted. -/
theorem nonPtpFrame_counts (hi : s.island (108 + 2 * tp.val) = true) : ∃ t, exec (.nonPtpFrame tp) s = .next t ∧
    tget 0 t.time.nonPtp tp.val = tget 0 s.time.nonPtp tp.val + 1 ∧ t.time.queues = s.time.queues ∧ t.time.out = s.time.out := by
  refine time_answers hp (exec_nonPtpFrame.trans rfl) (P := fun x => tget 0 x.nonPtp tp.val = _ ∧ x.queues = _ ∧ x.out = _) ?_
  rw [if_pos hi]
  exact ⟨tget_tset_self 0 s.time.nonPtp tp.val (tget 0 s.time.nonPtp tp.val + 1), rfl, rfl⟩

theorem nonPtpFrame_off (hi : s.island (108 + 2 * tp.val) = false) : ∃ t, exec (.nonPtpFrame tp) s = .next t ∧ t.time = s.time :=
  time_answers hp (exec_nonPtpFrame.trans rfl) (P := fun x => x = s.time) (congrArg State.time (if_neg (by simp [hi])))

end Sending

/-! ### The best master clock -/

/-- The module has left the master it had. -/
def State.unled (s : State) : State := if s.time.master.isSome then s.noMaster else s

theorem noMaster_time : s.noMaster.time.master = none ∧ s.noMaster.time.foreign = s.time.foreign := by
  unfold State.noMaster
  extract_lets x a y b
  split
  · exact ⟨rfl, rfl⟩
  · unfold b
    split <;> exact ⟨rfl, rfl⟩

theorem unled_time : s.unled.time.master = none ∧ s.unled.time.foreign = s.time.foreign := by
  unfold State.unled
  split
  · exact noMaster_time
  next h => exact ⟨by simpa using h, rfl⟩

/-- What the best master clock algorithm selects, where one foreign master qualifies. -/
theorem bmca_foreign {x : Foreign} {b : Bool} (h : s.bestForeign = some x) : s.bmca b =
    if s.masterCapable && better s.ownDataset x.dataset then s.unled.set F.TIME_STATUS_grandmaster 1
    else if s.masterCapable && s.ownClass < 128 then s.unled.set F.TIME_STATUS_grandmaster 0
    else if s.time.master == some (x.source, x.port) then s
    else
      let u := s.unled.set F.TIME_STATUS_grandmaster 0
      { u with time := { u.time with master := some (x.source, x.port), measured := false } } := by
  unfold State.bmca
  rw [h]
  rfl

theorem bmca_none {b : Bool} (h : s.bestForeign = none) :
    s.bmca b = if b && s.masterCapable then s.set F.TIME_STATUS_grandmaster 1 else s := by
  unfold State.bmca
  rw [h]

theorem bmca_keeps_foreign {b : Bool} : (s.bmca b).time.foreign = s.time.foreign := by
  obtain ⟨-, hunled⟩ := unled_time (s := s)
  cases h : s.bestForeign with
  | none =>
    rw [bmca_none h]
    split <;> rfl
  | some x =>
    rw [bmca_foreign h]
    split
    · exact hunled
    · split
      · exact hunled
      · split
        · rfl
        · exact hunled

/-- The best foreign master where there is one that qualifies. -/
theorem bestForeign_one {x : Foreign} (h : s.time.foreign = [x]) (hq : s.qualifies x = true) : s.bestForeign = some x := by
  unfold State.bestForeign
  rw [h, List.filter_cons_of_pos hq, List.filter_nil]
  rfl

theorem bestForeign_none (h : ∀ x ∈ s.time.foreign, s.qualifies x = false) : s.bestForeign = none := by
  unfold State.bestForeign
  rw [List.filter_eq_nil_iff.mpr fun x hx => by simp [h x hx]]
  rfl

/-- The foreign master that an Announce leaves. -/
def State.heardMaster (s : State) (tp : Fin 2) (m : Ptp) : Foreign :=
  { source := m.source, port := tp.val, dataset := m.dataset
    heard := s.clk.now :: ((((s.time.foreign.find? (fun f => f.source == m.source && f.port == tp.val)).map (fun f => f.heard)).getD []).take 1) }

/-- An Announce of another clock is kept. -/
def State.announced (s : State) (tp : Fin 2) (m : Ptp) : State :=
  let u := (s.countMessage tp m.source).2.forward tp ptpANNOUNCE false m
  { u with time := { u.time with
      foreign := u.time.foreign.filter (fun f => !(f.source == m.source && f.port == tp.val)) ++ [u.heardMaster tp m] } }

theorem announced_view : (s.announced tp m).time.master = s.time.master ∧ (s.announced tp m).get g = s.get g ∧
    (s.announced tp m).clk = s.clk ∧ (s.announced tp m).cfg = s.cfg ∧ (s.announced tp m).time.foreign =
      s.time.foreign.filter (fun f => !(f.source == m.source && f.port == tp.val)) ++ [s.heardMaster tp m] := by
  have hheard : s.Heard ((s.countMessage tp m.source).2.forward tp ptpANNOUNCE false m) := forward_heard countMessage_heard
  refine ⟨hheard.master, hheard.get, hheard.clk, hheard.cfg, ?_⟩
  unfold State.announced State.heardMaster
  dsimp only
  rw [hheard.foreign, hheard.clk]

section Announce
variable (hp : s.powered = true) (hg : s.goodMessage tp m)
include hp hg

/-- An Announce too many steps away is a violation. -/
theorem announce_far (hd : 255 ≤ m.dataset.getD 6 0) : ∃ t, exec (.announce tp m) s = .next t ∧ s.violated t tp 1 ptpANNOUNCE ∧
    t.time.foreign = s.time.foreign := by
  refine good_answers hp hg (exec_announce.trans rfl) (if_pos hd) fun t ht => ⟨⟨?_, ht.wrote_driven raise_wrote⟩, ?_⟩
  · rw [ht.get_driven (by simp; decide), ptpViolation_count]
    rfl
  · rw [ht.time_driven, ptpViolation_time]
    rfl

section Near
variable (hd : m.dataset.getD 6 0 < 255)
include hd

/-- One of the module itself changes nothing. -/
theorem announce_own (hown : m.source / 65536 = Config.clockIdentity.toNat) : ∃ t, exec (.announce tp m) s = .next t ∧
    t.time.foreign = s.time.foreign ∧ t.time.master = s.time.master := by
  refine good_answers hp hg (exec_announce.trans rfl) ((if_neg (Nat.not_le.mpr hd)).trans (if_pos (by simpa using hown))) fun t ht => ?_
  rw [ht.time_driven]
  exact ⟨rfl, rfl⟩

section Other
variable (hother : m.source / 65536 ≠ Config.clockIdentity.toNat)
include hother

theorem announce_answers {P : State → Prop} (hP : ∀ t, t.Same ((s.announced tp m).bmca false).driveOutputs → P t) :
    ∃ t, exec (.announce tp m) s = .next t ∧ P t :=
  good_answers hp hg (exec_announce.trans rfl) ((if_neg (Nat.not_le.mpr hd)).trans (if_neg (by simpa using hother))) hP

/-- Another's is kept as a foreign master. -/
theorem announce_kept : ∃ t, exec (.announce tp m) s = .next t ∧ ∃ f ∈ t.time.foreign, f.source = m.source ∧ f.port = tp.val ∧
    f.dataset = m.dataset := by
  refine announce_answers hp hg hd hother fun t ht => ?_
  obtain ⟨-, -, -, -, hforeign⟩ := announced_view (s := s) (tp := tp) (m := m) (g := F.TIME_STATUS_valid)
  rw [ht.time_driven, bmca_keeps_foreign, hforeign]
  exact ⟨s.heardMaster tp m, List.mem_append_right _ List.mem_cons_self, rfl, rfl, rfl⟩

/-- The first Announce selects nothing. -/
theorem announce_first (hf : s.time.foreign = []) (hm : s.time.master = none) : ∃ t, exec (.announce tp m) s = .next t ∧
    t.time.master = none ∧ t.get F.TIME_STATUS_grandmaster = s.get F.TIME_STATUS_grandmaster := by
  refine announce_answers hp hg hd hother fun t ht => ?_
  obtain ⟨hmaster, hget, hclk, -, hforeign⟩ := announced_view (s := s) (tp := tp) (m := m) (g := F.TIME_STATUS_grandmaster)
  have hnone : (s.announced tp m).bestForeign = none := by
    refine bestForeign_none fun x hx => ?_
    rw [hforeign, hf, List.filter_nil, List.nil_append, List.mem_singleton] at hx
    unfold State.qualifies
    rw [hmaster, hm, hx]
    have hheard : (s.heardMaster tp m).heard = [s.clk.now] := by
      unfold State.heardMaster
      rw [hf]
      rfl
    have hlen := List.length_filter_le (fun a => decide ((s.announced tp m).clk.now < a + 4 * (s.announced tp m).announceSamples))
      (s.heardMaster tp m).heard
    rw [hheard] at hlen ⊢
    simpa using by simpa using hlen
  rw [ht.time_driven, ht.get_driven (by decide), bmca_none hnone]
  exact ⟨hmaster.trans hm, hget⟩

section Second
variable {x : Foreign} {a : Nat} {l : List Nat} (hf : s.time.foreign = [x]) (hs : x.source = m.source) (hport : x.port = tp.val)
  (hheard : x.heard = a :: l) (hnow : s.clk.now < a + 4 * s.announceSamples)
include hf hs hport hheard hnow

omit hp hg hd hother in
/-- The second Announce of the one foreign master qualifies it. -/
theorem announced_best : (s.announced tp m).bestForeign = some (s.heardMaster tp m) := by
  obtain ⟨hmaster, -, hclk, hcfg, hforeign⟩ := announced_view (s := s) (tp := tp) (m := m) (g := F.TIME_STATUS_valid)
  have hanswer : (x.source == m.source && x.port == tp.val) = true := by simp [hs, hport]
  have hlist : (s.heardMaster tp m).heard = [s.clk.now, a] := by
    unfold State.heardMaster
    rw [hf, List.find?_cons_of_pos (by exact hanswer)]
    simp [hheard]
  have hsamples : (s.announced tp m).announceSamples = s.announceSamples := by rw [State.announceSamples, hcfg, State.announceSamples]
  have hpos : 0 < s.announceSamples := Nat.mul_pos (by decide) (Nat.pow_pos (by decide))
  refine bestForeign_one (hforeign.trans ?_) ?_
  · rw [hf, List.filter_cons_of_neg (by simp [hs, hport]), List.filter_nil, List.nil_append]
  · unfold State.qualifies
    rw [hlist, hclk, hsamples]
    simp [hnow, hpos]

omit hp hg hd hother hf hs hport hheard hnow in
theorem announced_own : (s.announced tp m).masterCapable = s.masterCapable ∧ (s.announced tp m).ownClass = s.ownClass ∧
    (s.announced tp m).ownDataset = s.ownDataset := by
  obtain ⟨-, hget, -, hcfg, -⟩ := announced_view (s := s) (tp := tp) (m := m) (g := F.TIME_STATUS_valid)
  have hclass : (s.announced tp m).ownClass = s.ownClass := by
    unfold State.ownClass State.timeValid State.on
    rw [hget]
  refine ⟨?_, hclass, ?_⟩
  · unfold State.masterCapable State.tcMode
    rw [hcfg]
  · unfold State.ownDataset
    rw [hclass, hcfg]

/-- A better module becomes grandmaster. -/
theorem announce_grandmaster (hmc : s.masterCapable = true) (hb : better s.ownDataset m.dataset = true) :
    ∃ t, exec (.announce tp m) s = .next t ∧ t.time.master = none ∧ t.get F.TIME_STATUS_grandmaster = 1 := by
  refine announce_answers hp hg hd hother fun t ht => ?_
  obtain ⟨hcapable, -, hown⟩ := announced_own (s := s) (tp := tp) (m := m)
  have hbmca := (bmca_foreign (b := false) (announced_best hf hs hport hheard hnow)).trans (if_pos (by
    rw [hcapable, hown, hmc]
    exact hb))
  rw [ht.time_driven, ht.get_driven (by decide), hbmca]
  exact ⟨unled_time.1, State.get_set (by decide)⟩

/-- Else a clock of class 1 to 127 is passive, and another takes the foreign master. -/
theorem announce_selects (hno : s.masterCapable = false ∨ better s.ownDataset m.dataset = false) :
    ∃ t, exec (.announce tp m) s = .next t ∧
      (s.masterCapable = true ∧ s.ownClass < 128 → t.time.master = none ∧ t.get F.TIME_STATUS_grandmaster = 0) ∧
      (s.masterCapable = false ∨ 128 ≤ s.ownClass → s.time.master = none →
        t.time.master = some (m.source, tp.val) ∧ t.time.measured = false ∧ t.get F.TIME_STATUS_grandmaster = 0) := by
  refine announce_answers hp hg hd hother fun t ht => ?_
  obtain ⟨hcapable, hclass, hown⟩ := announced_own (s := s) (tp := tp) (m := m)
  obtain ⟨hmaster, -⟩ := announced_view (s := s) (tp := tp) (m := m) (g := F.TIME_STATUS_valid)
  have hnot : ¬ (s.masterCapable && better s.ownDataset (s.heardMaster tp m).dataset) = true := by
    rcases hno with h | h
    · simp [h]
    · simp [h, State.heardMaster]
  have hbmca := (bmca_foreign (b := false) (announced_best hf hs hport hheard hnow)).trans (if_neg (by
    rw [hcapable, hown]
    exact hnot))
  rw [hcapable, hclass] at hbmca
  rw [ht.time_driven, ht.get_driven (by decide), hbmca]
  refine ⟨fun ⟨hmc, hlow⟩ => ?_, fun hpass hm => ?_⟩
  · rw [if_pos (by simp [hmc, hlow])]
    exact ⟨unled_time.1, State.get_set (by decide)⟩
  · rw [if_neg (by rcases hpass with h | h <;> simp [h]), if_neg (by rw [hmaster, hm]; simp)]
    exact ⟨rfl, rfl, State.get_set (by decide)⟩

end Second
end Other
end Near
end Announce

/-! ### The last master lost -/

section Lost
variable {src k : Nat} (hp : s.powered = true) (hm : s.time.master = some (src, k)) (hf : ∀ f ∈ s.time.foreign, f.source = src ∧ f.port = k)
include hp hm hf

/-- The foreign masters without the one that is lost. -/
def State.forgotten (s : State) (src k : Nat) : State :=
  { s with time := { s.time with foreign := s.time.foreign.filter (fun f => !(f.source == src && f.port == k)) } }

omit hp hm in
theorem forgotten_foreign : (s.forgotten src k).time.foreign = [] := by
  refine List.filter_eq_nil_iff.mpr fun f hx => ?_
  obtain ⟨hs, hk⟩ := hf f hx
  simp [hs, hk]

omit hp hm hf in
theorem get_unmastered (h : s.timeValid = true) (hk : regKind g.key ≠ 246)
    (hkey : g.key ≠ F.TIME_STATUS_state.key ∨ 2 ≤ g.lo ∧ g.lo + g.width ≤ 32) : s.noMaster.get g = s.get g := by
  unfold State.noMaster
  extract_lets x a y b
  rw [if_pos (show a.timeValid = true from h), State.setRate, State.get_set_kind (by simpa using hk), State.setServo]
  by_cases e : g.key = F.TIME_STATUS_state.key
  · obtain ⟨hlo, h32⟩ := hkey.resolve_left (not_not_intro e)
    exact State.get_set_field (f := g) (g := F.TIME_STATUS_state) e (.inr hlo) h32
  · exact State.get_set_ne _ _ _ _ e

omit hp hm hf in
theorem noMaster_valid (h : s.timeValid = true) : s.noMaster.get F.TIME_STATUS_state = tsHOLDOVER ∧
    s.noMaster.get F.TIME_FREQ_ppb = ofSigned 32 s.time.lockedRate := by
  unfold State.noMaster
  extract_lets x a y b
  rw [if_pos (show a.timeValid = true from h), State.setRate, State.get_set_kind (by decide)]
  exact ⟨State.get_set (by decide), (State.get_set (by decide)).trans (Nat.mod_eq_of_lt ofSigned_lt)⟩

omit hp hm hf in
theorem noMaster_invalid (h : s.timeValid = false) : s.noMaster.get F.TIME_STATUS_state = tsINVALID ∧
    s.noMaster.get F.TIME_FREQ_ppb = 0 := by
  unfold State.noMaster
  extract_lets x a y b
  rw [if_neg (by rw [show a.timeValid = false from h]; decide), State.setRate, State.get_set_kind (by decide)]
  exact ⟨State.get_set (by decide), (State.get_set (by decide)).trans (by decide)⟩

/-- Without foreign masters a capable module becomes grandmaster. -/
def State.ledAlone (s : State) : State := if s.masterCapable then s.set F.TIME_STATUS_grandmaster 1 else s

omit hp hm hf in
theorem bmca_alone (h : s.time.foreign = []) : s.bmca true = s.ledAlone :=
  bmca_none (bestForeign_none fun _ hx => absurd (h ▸ hx) List.not_mem_nil)

omit hp hm hf in
theorem get_ledAlone (h : g.key ≠ F.TIME_STATUS_grandmaster.key ∨ (g.lo + g.width ≤ F.TIME_STATUS_grandmaster.lo ∨
    F.TIME_STATUS_grandmaster.lo + F.TIME_STATUS_grandmaster.width ≤ g.lo) ∧ g.lo + g.width ≤ 32) :
    s.ledAlone.get g = s.get g := by
  unfold State.ledAlone
  split
  · by_cases e : g.key = F.TIME_STATUS_grandmaster.key
    · obtain ⟨hlo, h32⟩ := h.resolve_left (not_not_intro e)
      exact State.get_set_field (f := g) (g := F.TIME_STATUS_grandmaster) e hlo h32
    · exact State.get_set_ne _ _ _ _ e
  · rfl

omit hp hm hf in
theorem ledAlone_time : s.ledAlone.time = s.time := by
  unfold State.ledAlone
  split <;> rfl

omit hp in
/-- MASTER_LOST of a module whose foreign masters are all lost with it. -/
theorem masterLost_effect : ∃ e, exec .masterLost s = s.run e ∧ e s =
    (if (s.forgotten src k).noMaster.timeValid && !(s.get F.TIME_STATUS_state == tsHOLDOVER) then
      (s.forgotten src k).noMaster.raise Code.TIME_HOLDOVER [0] else (s.forgotten src k).noMaster).ledAlone := by
  refine ⟨_, exec_masterLost.trans rfl, ?_⟩
  split
  next heq => cases hm.symm.trans heq
  next heq =>
    cases Option.some.inj (hm.symm.trans heq)
    refine (bmca_alone ?_).trans rfl
    have hnone : (s.forgotten src k).noMaster.time.foreign = [] := noMaster_time.2.trans (forgotten_foreign hf)
    split
    · exact (congrArg TimeSt.foreign raise_time).trans hnone
    · exact hnone

/-- While time is VALID: HOLDOVER at the last locked rate. -/
theorem masterLost_holds (hv : s.timeValid = true) (hstate : s.get F.TIME_STATUS_state ≠ tsHOLDOVER) :
    ∃ t, exec .masterLost s = .next t ∧ t.time.master = none ∧ t.time.foreign = [] ∧ t.get F.TIME_STATUS_state = tsHOLDOVER ∧
      t.get F.TIME_STATUS_valid = 1 ∧ t.get F.TIME_FREQ_ppb = ofSigned 32 s.time.lockedRate ∧
      (s.masterCapable = true → t.get F.TIME_STATUS_grandmaster = 1) ∧ t.wrote Code.TIME_HOLDOVER [0] := by
  obtain ⟨e, hexec, he⟩ := masterLost_effect hm hf
  obtain ⟨hmaster, hforeign⟩ := noMaster_time (s := s.forgotten src k)
  obtain ⟨hholdover, hfreq⟩ := noMaster_valid (s := s.forgotten src k) hv
  have hvalid : (s.forgotten src k).noMaster.get F.TIME_STATUS_valid = 1 :=
    (get_unmastered (s := s.forgotten src k) hv (by decide) (.inr (by decide))).trans (valid_eq_one hv)
  have hraised : e s = ((s.forgotten src k).noMaster.raise Code.TIME_HOLDOVER [0]).ledAlone := by
    rw [he, if_pos (by simp [State.timeValid, State.on, hvalid, hstate])]
  rw [hexec]
  refine run_answers_of_effect hp hraised fun t ht => ?_
  rw [ht.time_driven, ht.get_driven (by decide), ht.get_driven (by decide), ht.get_driven (by decide), ht.get_driven (by decide),
    ledAlone_time, raise_time, get_ledAlone (.inr (by decide)), get_ledAlone (.inr (by decide)), get_ledAlone (.inl (by decide)),
    get_raise (by decide), get_raise (by decide), get_raise (by decide), hholdover, hvalid, hfreq]
  refine ⟨hmaster, hforeign.trans (forgotten_foreign hf), rfl, rfl, rfl, fun hmc => ?_, ht.wrote_driven (wrote_of_recorder ?_ (raise_wrote (s := (s.forgotten src k).noMaster)))⟩
  · have hcfg : ((s.forgotten src k).noMaster.raise Code.TIME_HOLDOVER [0]).cfg = s.cfg :=
      ((State.raise_frame (Within.refl _) (.refl _ _)).cfg rfl).trans ((State.noMaster_frame (Within.refl _) (.refl _ _)).cfg rfl)
    have hcapable : ((s.forgotten src k).noMaster.raise Code.TIME_HOLDOVER [0]).masterCapable = true := by
      rw [← hmc]
      unfold State.masterCapable State.tcMode
      rw [hcfg]
    rw [State.ledAlone, if_pos hcapable]
    exact State.get_set (by decide)
  · unfold State.ledAlone
    split <;> rfl

/-- While it is not: INVALID at the nominal rate. -/
theorem masterLost_invalid (hv : s.timeValid = false) : ∃ t, exec .masterLost s = .next t ∧ t.time.master = none ∧
    t.get F.TIME_STATUS_state = tsINVALID ∧ t.get F.TIME_FREQ_ppb = 0 := by
  obtain ⟨e, hexec, he⟩ := masterLost_effect hm hf
  obtain ⟨hmaster, -⟩ := noMaster_time (s := s.forgotten src k)
  obtain ⟨hinvalid, hfreq⟩ := noMaster_invalid (s := s.forgotten src k) hv
  rw [hexec]
  refine run_answers_of_effect hp he fun t ht => ?_
  rw [ht.time_driven, ht.get_driven (by decide), ht.get_driven (by decide), ledAlone_time, get_ledAlone (.inr (by decide)),
    get_ledAlone (.inl (by decide))]
  split
  · rw [raise_time, get_raise (by decide), get_raise (by decide)]
    exact ⟨hmaster, hinvalid, hfreq⟩
  · exact ⟨hmaster, hinvalid, hfreq⟩

end Lost
end Protocol

/-- Settles O32: each message goes through `ptpIn`, where it is received, counted and checked, and each of the effects is its own lemma. -/
theorem ptpProtocol : Obligations.PtpProtocol := by
  unfold Obligations.PtpProtocol
  exact ⟨fun _ _ _ hp hi hb h => ptpIn_bad (exec_sync.trans rfl) hp hi hb h,
    fun _ _ _ hp hi hb h => ptpIn_bad (exec_delayReq.trans rfl) hp hi hb h,
    fun _ _ _ hp hi hb h => ptpIn_bad (exec_pdelayReq.trans rfl) hp hi hb h,
    fun _ _ _ hp hi hb h => ptpIn_bad (exec_pdelayResp.trans rfl) hp hi hb h,
    fun _ _ _ hp hi hb h => ptpIn_bad (exec_followUp.trans rfl) hp hi hb h,
    fun _ _ _ hp hi hb h => ptpIn_bad (exec_delayResp.trans rfl) hp hi hb h,
    fun _ _ _ hp hi hb h => ptpIn_bad (exec_pdelayRespFollowUp.trans rfl) hp hi hb h,
    fun _ _ _ hp hi hb h => ptpIn_bad (exec_announce.trans rfl) hp hi hb h,
    fun _ _ _ hp hg hd => announce_far hp hg hd,
    fun _ _ _ hp hg hd hown => announce_own hp hg hd hown,
    fun _ _ _ hp hg hd hother => announce_kept hp hg hd hother,
    fun _ _ _ _ _ _ hp hg hd hother hf hs hport hheard hnow hno => announce_selects hp hg hd hother hf hs hport hheard hnow hno,
    fun _ _ _ _ _ _ hp hg hd hother hf hs hport hheard hnow hmc hb =>
      announce_grandmaster hp hg hd hother hf hs hport hheard hnow hmc hb,
    fun _ _ _ hp hg hd hother hf hm => announce_first hp hg hd hother hf hm,
    fun _ _ _ hp hg hi htc hgm hpd => delayReq_answered hp hg hi htc hgm hpd,
    fun _ _ _ hp hg htc hgm => delayReq_unanswered hp hg htc hgm,
    fun _ _ _ _ _ _ _ hp hg htarget hreq hleg => delayResp_measures hp hg htarget hreq hleg,
    fun _ _ _ hp hg htarget hreq => delayResp_unasked hp hg htarget hreq,
    fun _ _ _ hp hg htarget htc hi => delayResp_forwards hp hg htarget htc hi,
    fun _ _ _ _ hp hm hpd hi hn => delayReqTransmit_sends hp hm hpd hi hn,
    fun _ hp hm => delayReqTransmit_idle hp hm,
    fun _ _ _ hp hi hpd hn => pdelayReqTransmit_sends hp hi hpd hn,
    fun _ _ hp hpd => pdelayReqTransmit_idle hp hpd,
    fun _ _ _ hp hg hi hpd => pdelayReq_answered hp hg hi hpd,
    fun _ _ _ hp hg hpd htc => pdelayReq_unanswered hp hg hpd htc,
    fun _ _ _ _ _ _ _ hp hg htarget hreq h2 => pdelayResp_measures hp hg htarget hreq h2,
    fun _ _ _ _ _ _ _ hp hg htarget hreq h2 => pdelayResp_waits hp hg htarget hreq h2,
    fun _ _ _ _ _ _ _ hp hg htarget hreq => pdelayFollowUp_measures hp hg htarget hreq,
    fun _ _ _ hp hg htarget hreq => pdelayFollowUp_unasked hp hg htarget hreq,
    fun _ _ _ hp hgm hl hn => syncTransmit_sends hp hgm hl hn,
    fun _ _ hp hgm => syncTransmit_idle hp hgm,
    fun _ _ _ hp hgm hl hn => announceTransmit_sends hp hgm hl hn,
    fun _ _ hp hgm => announceTransmit_idle hp hgm,
    fun _ _ _ hp hm hf hv hstate => masterLost_holds hp hm hf hv hstate,
    fun _ _ _ hp hm hf hv => masterLost_invalid hp hm hf hv,
    fun _ _ hp hi => nonPtpFrame_counts hp hi,
    fun _ _ _ hp hi => ptpIn_off (exec_sync.trans rfl) hp hi,
    fun _ _ _ hp hi => ptpIn_off (exec_delayReq.trans rfl) hp hi,
    fun _ _ _ hp hi => ptpIn_off (exec_pdelayReq.trans rfl) hp hi,
    fun _ _ _ hp hi => ptpIn_off (exec_pdelayResp.trans rfl) hp hi,
    fun _ _ _ hp hi => ptpIn_off (exec_followUp.trans rfl) hp hi,
    fun _ _ _ hp hi => ptpIn_off (exec_delayResp.trans rfl) hp hi,
    fun _ _ _ hp hi => ptpIn_off (exec_pdelayRespFollowUp.trans rfl) hp hi,
    fun _ _ _ hp hi => ptpIn_off (exec_announce.trans rfl) hp hi,
    fun _ _ hp hi => nonPtpFrame_off hp hi⟩

end Sys2Proof.Machine
end

section
/-! PROOFS. The commands of the TIME block (R332, R335). -/

namespace Sys2Proof.Machine

open Sys2Proof

section TimeCommands

variable {s t u : State} {i : Port} {p : Part} {g : Field} {c : Instr} {cmd reason code : Nat}

theorem exec_step : exec (.step i) s = execStep i s := rfl
theorem exec_slew : exec (.slew i) s = execSlew i s := rfl
theorem exec_startAt : exec (.startAt i p) s = execStartAt i p s := rfl
theorem exec_startCancel : exec (.startCancel i p) s = execStartCancel i p s := rfl

/-- What a status leaves of the registers. -/
theorem get_timeStatus (h : regKind g.key ≠ regKind (F.TIME_CMD_STATUS_code i).key) : (s.timeStatus i code reason).get g = s.get g := by
  unfold State.timeStatus
  rw [State.get_set_kind (by simpa using h), State.get_set_kind (by simpa using h)]

/-- What a status shows. -/
theorem timeStatus_shows (hc : code < 2 ^ 16) (hr : reason < 2 ^ 8) :
    (s.timeStatus i code reason).get (F.TIME_CMD_STATUS_code i) = code ∧
    (s.timeStatus i code reason).get (F.TIME_CMD_STATUS_reason i) = reason := by
  unfold State.timeStatus
  constructor
  · rw [State.get_set_field (f := F.TIME_CMD_STATUS_code i) (g := F.TIME_CMD_STATUS_reason i) rfl
      (by simp [F.TIME_CMD_STATUS_code, F.TIME_CMD_STATUS_reason]) (by simp [F.TIME_CMD_STATUS_code]),
      State.get_set (by simp [F.TIME_CMD_STATUS_code])]
    exact Nat.mod_eq_of_lt hc
  · rw [State.get_set (by simp [F.TIME_CMD_STATUS_reason])]
    exact Nat.mod_eq_of_lt hr

theorem timeStatus_time : (s.timeStatus i code reason).time = s.time := by
  rw [State.timeStatus, set_time, set_time]
theorem timeStatus_clk : (s.timeStatus i code reason).clk = s.clk := by
  rw [State.timeStatus, set_clk, set_clk]
theorem timeStatus_recorder : (s.timeStatus i code reason).recorder = s.recorder := by
  rw [State.timeStatus, set_recorder, set_recorder]

section Answers
variable (hp : s.powered = true)
include hp

/-- A refused command writes and shows its reason and changes nothing of the time unit. -/
theorem timeRefuse_answers {e : State → State} (hc : exec c s = s.run e) (he : e s = s.timeRefuse i cmd reason) (hr : reason < 2 ^ 8) :
    ∃ t, exec c s = .next t ∧ t.wrote Code.TIME_REFUSED [i, cmd, reason] ∧ t.get (F.TIME_CMD_STATUS_code i) = Code.TIME_REFUSED ∧
      t.get (F.TIME_CMD_STATUS_reason i) = reason ∧ t.time = s.time ∧ t.clk = s.clk := by
  rw [hc]
  refine run_answers_of_effect hp he fun t ht => ?_
  obtain ⟨hcode, hreason⟩ := timeStatus_shows (s := s.raise Code.TIME_REFUSED [i, cmd, reason]) (i := i) (code := Code.TIME_REFUSED)
    (reason := reason) (by decide) hr
  rw [ht.get_driven (by simp; decide), ht.get_driven (by simp; decide), ht.time_driven, ht.clk_driven]
  exact ⟨ht.wrote_driven (wrote_of_recorder (s := s.raise _ _) timeStatus_recorder raise_wrote), hcode, hreason,
    timeStatus_time.trans raise_time, timeStatus_clk.trans ((State.raise_frame (Within.refl _) (.refl _ s)).clk rfl)⟩

/-- A command that is carried out shows that. -/
theorem timeDone_answers {e : State → State} {P : State → Prop} (hc : exec c s = s.run e) (he : e s = u.timeStatus i 0 0)
    (hP : ∀ t, t.Same (u.timeStatus i 0 0).driveOutputs → P t) : ∃ t, exec c s = .next t ∧ P t ∧
      t.get (F.TIME_CMD_STATUS_code i) = 0 ∧ t.get (F.TIME_CMD_STATUS_reason i) = 0 := by
  rw [hc]
  refine run_answers_of_effect hp he fun t ht => ⟨hP t ht, ?_⟩
  rw [ht.get_driven (by simp; decide), ht.get_driven (by simp; decide)]
  exact timeStatus_shows (by decide) (by decide)

/-- STEP of a privileged port waits for the next boundary. -/
theorem step_waits (hr : s.privileged i = true) : ∃ t, exec (.step i) s = .next t ∧ t.time.step = some (i.val, s.timeSet i) ∧
    t.get F.TIME_STATUS_step_pending = 1 ∧ t.clk = s.clk ∧ t.get (F.TIME_CMD_STATUS_code i) = 0 ∧
    t.get (F.TIME_CMD_STATUS_reason i) = 0 := by
  obtain ⟨t, ht, ⟨hstep, hpending, hclk⟩, hshown⟩ := timeDone_answers (i := i)
    (P := fun t => t.time.step = some (i.val, s.timeSet i) ∧ t.get F.TIME_STATUS_step_pending = 1 ∧ t.clk = s.clk) hp
    (exec_step.trans rfl) (if_neg (by simp [hr])) fun t ht => by
      rw [ht.time_driven, ht.get_driven (by decide), ht.clk_driven, get_timeStatus (by simp)]
      exact ⟨rfl, State.get_set (by decide), rfl⟩
  exact ⟨t, ht, hstep, hpending, hclk, hshown⟩

theorem step_refused (hr : s.privileged i = false) : ∃ t, exec (.step i) s = .next t ∧ t.wrote Code.TIME_REFUSED [i, tcSTEP, trROLE] ∧
    t.get (F.TIME_CMD_STATUS_code i) = Code.TIME_REFUSED ∧ t.get (F.TIME_CMD_STATUS_reason i) = trROLE ∧ t.time = s.time ∧ t.clk = s.clk :=
  timeRefuse_answers hp (exec_step.trans rfl) (if_pos (by simp [hr])) (by decide)

/-- SLEW of a privileged port corrects the offset of the master from now on. -/
theorem slew_accepts (hr : s.privileged i = true) (hm : s.masterPresent = true) : ∃ t, exec (.slew i) s = .next t ∧
    t.time.slew = some (s.time.offset, s.clk.now) ∧ t.get F.TIME_FREQ_ppb = ofSigned 32 (if 0 < s.time.offset then -(s.slewPpb : Int)
      else if s.time.offset < 0 then s.slewPpb else 0) ∧ t.clk = s.clk ∧ t.get (F.TIME_CMD_STATUS_code i) = 0 ∧
    t.get (F.TIME_CMD_STATUS_reason i) = 0 := by
  obtain ⟨t, ht, ⟨hslew, hfreq, hclk⟩, hshown⟩ := timeDone_answers (i := i)
    (P := fun t => t.time.slew = some (s.time.offset, s.clk.now) ∧ t.get F.TIME_FREQ_ppb = ofSigned 32 (if 0 < s.time.offset then
      -(s.slewPpb : Int) else if s.time.offset < 0 then s.slewPpb else 0) ∧ t.clk = s.clk) hp
    (exec_slew.trans rfl) ((if_neg (by simp [hr])).trans (if_neg (by simp [hm]))) fun t ht => by
      rw [ht.time_driven, ht.get_driven (by decide), ht.clk_driven, get_timeStatus (by simp)]
      exact ⟨rfl, (State.get_set (by decide)).trans (Nat.mod_eq_of_lt ofSigned_lt), rfl⟩
  exact ⟨t, ht, hslew, hfreq, hclk, hshown⟩

theorem slew_refused (hr : s.privileged i = false) : ∃ t, exec (.slew i) s = .next t ∧ t.wrote Code.TIME_REFUSED [i, tcSLEW, trROLE] ∧
    t.get (F.TIME_CMD_STATUS_code i) = Code.TIME_REFUSED ∧ t.get (F.TIME_CMD_STATUS_reason i) = trROLE ∧ t.time = s.time ∧ t.clk = s.clk :=
  timeRefuse_answers hp (exec_slew.trans rfl) (if_pos (by simp [hr])) (by decide)

theorem slew_masterless (hr : s.privileged i = true) (hm : s.masterPresent = false) : ∃ t, exec (.slew i) s = .next t ∧
    t.wrote Code.TIME_REFUSED [i, tcSLEW, trNOMASTER] ∧ t.get (F.TIME_CMD_STATUS_code i) = Code.TIME_REFUSED ∧
    t.get (F.TIME_CMD_STATUS_reason i) = trNOMASTER ∧ t.time = s.time ∧ t.clk = s.clk :=
  timeRefuse_answers hp (exec_slew.trans rfl) ((if_neg (by simp [hr])).trans (if_pos (by simp [hm]))) (by decide)

section Allowed
variable (hr : s.privileged i = true ∨ s.owns i p = true)
include hr

omit hp in
theorem startAllowed : (s.privileged i || s.owns i p) = true := by simpa using hr

/-- START_AT holds the partition until its count. -/
theorem startAt_holds {n : Nat} (hv : s.timeValid = true) (hn : n = s.get64 (F.TIME_START_LO_count i) (F.TIME_START_HI_count i))
    (hm : s.milestone ≤ n) : ∃ t, exec (.startAt i p) s = .next t ∧ tfind t.time.startAt p.val = some n ∧
      (t.get F.TIME_START_PENDING_mask).testBit p.val = true ∧ t.get (F.TIME_CMD_STATUS_code i) = 0 ∧
      t.get (F.TIME_CMD_STATUS_reason i) = 0 := by
  subst hn
  obtain ⟨t, ht, ⟨hstart, hmask⟩, hshown⟩ := timeDone_answers (i := i)
    (P := fun t => tfind t.time.startAt p.val = some (s.get64 (F.TIME_START_LO_count i) (F.TIME_START_HI_count i)) ∧
      (t.get F.TIME_START_PENDING_mask).testBit p.val = true) hp
    ((exec_startAt (p := p)).trans rfl) ((if_neg (by simp [startAllowed (p := p) hr])).trans ((if_neg (by simp [hv])).trans (if_neg (Nat.not_lt.mpr hm))))
    fun t ht => by
      rw [ht.time_driven, ht.get_driven (by decide), get_timeStatus (by simp), get_setBit (by decide) (by exact p.isLt)]
      exact ⟨tfind_tput_self _ _ _, rfl⟩
  exact ⟨t, ht, hstart, hmask, hshown⟩

theorem startAt_invalid (hv : s.timeValid = false) : ∃ t, exec (.startAt i p) s = .next t ∧
    t.wrote Code.TIME_REFUSED [i, tcSTARTAT, trINVALIDTIME] ∧ t.get (F.TIME_CMD_STATUS_code i) = Code.TIME_REFUSED ∧
    t.get (F.TIME_CMD_STATUS_reason i) = trINVALIDTIME ∧ t.time = s.time ∧ t.clk = s.clk :=
  timeRefuse_answers hp (exec_startAt.trans rfl) ((if_neg (by simp [startAllowed (p := p) hr])).trans (if_pos (by simp [hv]))) (by decide)

theorem startAt_past (hv : s.timeValid = true) (hm : s.get64 (F.TIME_START_LO_count i) (F.TIME_START_HI_count i) < s.milestone) :
    ∃ t, exec (.startAt i p) s = .next t ∧ t.wrote Code.TIME_REFUSED [i, tcSTARTAT, trPAST] ∧
      t.get (F.TIME_CMD_STATUS_code i) = Code.TIME_REFUSED ∧ t.get (F.TIME_CMD_STATUS_reason i) = trPAST ∧ t.time = s.time ∧ t.clk = s.clk :=
  timeRefuse_answers hp (exec_startAt.trans rfl)
    ((if_neg (by simp [startAllowed (p := p) hr])).trans ((if_neg (by simp [hv])).trans (if_pos hm))) (by decide)

/-- START_CANCEL ends a wait. -/
theorem startCancel_ends : ∃ t, exec (.startCancel i p) s = .next t ∧ tfind t.time.startAt p.val = none ∧
    (t.get F.TIME_START_PENDING_mask).testBit p.val = false ∧ t.get (F.TIME_CMD_STATUS_code i) = 0 ∧
    t.get (F.TIME_CMD_STATUS_reason i) = 0 := by
  obtain ⟨t, ht, ⟨hstart, hmask⟩, hshown⟩ := timeDone_answers (i := i)
    (P := fun t => tfind t.time.startAt p.val = none ∧ (t.get F.TIME_START_PENDING_mask).testBit p.val = false) hp
    ((exec_startCancel (p := p)).trans rfl) (if_neg (by simp [startAllowed (p := p) hr])) fun t ht => by
      rw [ht.time_driven, ht.get_driven (by decide), get_timeStatus (by simp), get_setBit (by decide) (by exact p.isLt)]
      exact ⟨tfind_tdel_self _ _, rfl⟩
  exact ⟨t, ht, hstart, hmask, hshown⟩

end Allowed

section Foreign
variable (hr : s.privileged i = false) (ho : s.owns i p = false)
include hr ho

theorem startAt_refused : ∃ t, exec (.startAt i p) s = .next t ∧ t.wrote Code.TIME_REFUSED [i, tcSTARTAT, trROLE] ∧
    t.get (F.TIME_CMD_STATUS_code i) = Code.TIME_REFUSED ∧ t.get (F.TIME_CMD_STATUS_reason i) = trROLE ∧ t.time = s.time ∧ t.clk = s.clk :=
  timeRefuse_answers hp (exec_startAt.trans rfl) (if_pos (by simp [hr, ho])) (by decide)

theorem startCancel_refused : ∃ t, exec (.startCancel i p) s = .next t ∧ t.wrote Code.TIME_REFUSED [i, tcSTARTCANCEL, trROLE] ∧
    t.get (F.TIME_CMD_STATUS_code i) = Code.TIME_REFUSED ∧ t.get (F.TIME_CMD_STATUS_reason i) = trROLE ∧ t.time = s.time ∧ t.clk = s.clk :=
  timeRefuse_answers hp (exec_startCancel.trans rfl) (if_pos (by simp [hr, ho])) (by decide)

end Foreign
end Answers
end TimeCommands

/-- Settles O33: each command is carried out and shown as done, or refused and shown so. -/
theorem timeCommands : Obligations.TimeCommands := by
  unfold Obligations.TimeCommands
  exact ⟨fun _ _ hp hr => step_waits hp hr,
    fun _ _ hp hr => step_refused hp hr,
    fun _ _ hp hr hm => slew_accepts hp hr hm,
    fun _ _ hp hr => slew_refused hp hr,
    fun _ _ hp hr hm => slew_masterless hp hr hm,
    fun _ _ _ _ hp hr hv hn hm => startAt_holds hp hr hv hn hm,
    fun _ _ _ hp hr ho => startAt_refused hp hr ho,
    fun _ _ _ hp hr hv => startAt_invalid hp hr hv,
    fun _ _ _ hp hr hv hm => startAt_past hp hr hv hm,
    fun _ _ _ hp hr => startCancel_ends hp hr,
    fun _ _ _ hp hr ho => startCancel_refused hp hr ho⟩

end Sys2Proof.Machine
end

section
/-! PROOFS. The launch queues (R337, R338). -/

namespace Sys2Proof.Machine

open Sys2Proof

section Launching

variable {s t u : State} {tp : Fin 2} {p : Part} {r : List Byte} {x y : Launch} {rest : List Launch} {g : Field}

theorem exec_launchRecord : exec (.launchRecord tp p r) s = execLaunchRecord tp p r s := rfl
theorem exec_frameLaunch : exec (.frameLaunch tp) s = execFrameLaunch tp s := rfl

/-! ### A queue -/

theorem setLaunches_launches {k : Nat} {l : List Launch} : (s.setLaunches k l).launches k = l := by
  rw [State.setLaunches, State.launches, set_time]
  exact tget_tset_self _ _ _ _

theorem launches_of_time (h : t.time = u.time) {k : Nat} : t.launches k = u.launches k := by rw [State.launches, h, State.launches]

theorem setLaunches_depth {k : Nat} {l : List Launch} (h : l.length < 128) : (s.setLaunches k l).get (F.TIME_LQ_depth k) = l.length :=
  (State.get_set (by simp [F.TIME_LQ_depth])).trans (Nat.mod_eq_of_lt h)

/-- The queues stand as they do in another state, and what has left. -/
theorem setLaunches_out {k : Nat} {l : List Launch} : (s.setLaunches k l).time.out = s.time.out := by
  rw [State.setLaunches, set_time]

theorem get_setLaunches {k : Nat} {l : List Launch} (h : regKind g.key ≠ regKind (F.TIME_LQ_depth k).key) : (s.setLaunches k l).get g = s.get g :=
  State.get_set_kind (by simpa using h)

/-! ### Records in -/

/-- A record that is refused. -/
def State.launchRefused (s : State) (k c : Nat) : State := (s.inc (F.TIME_LQ_LATE_refused k)).raise Code.LAUNCH_REFUSED [k, c]

/-- The claim of a queue is of the partition. -/
def State.launchMine (s : State) (k p : Nat) : Bool := match s.launchClaim k with | some (o, _) => o == p | none => false

theorem launchMine_iff {k q : Nat} : s.launchMine k q = true ↔ (s.launchClaim k).map (fun e => e.1) = some q := by
  unfold State.launchMine
  cases s.launchClaim k with
  | none => simp
  | some e => simp

/-- What a record does in the queue. -/
def State.launchEnters (s : State) (tp : Fin 2) (x : Launch) : State :=
  if !s.timeValid then s.launchRefused tp lrINVALIDTIME
  else if (s.launches tp).length ≥ 64 then s.launchRefused tp lrFULL
  else if (s.launches tp).getLast?.any (fun t => x.timeNs < t.timeNs) then s.launchRefused tp lrORDER
  else s.setLaunches tp (s.launches tp ++ [x])

section Record
variable (hp : s.powered = true)
  (hx : x = { timeNs := recField r 0 6 * 1000000000 + recField r 6 4, length := recField r 10 2, loc := recField r 12 4 })
include hp hx

omit hp in
theorem launchRecord_effect : ∃ f, exec (.launchRecord tp p r) s = s.run f ∧ f s =
    if !s.launchMine tp p.val || decide (recField r 6 4 ≥ 1000000000) || decide (x.length < 60) || decide (1518 < x.length) ||
      decide (0x4000000 < 64 * x.loc + x.length) then s.launchRefused tp lrBADRECORD else s.launchEnters tp x := by
  subst hx
  refine ⟨_, exec_launchRecord.trans rfl, ?_⟩
  unfold State.launchMine State.launchEnters State.launchRefused
  cases s.launchClaim tp with
  | none => rfl
  | some e => rfl

omit hx in
/-- A refused record changes nothing of the time unit. -/
theorem launchRefused_answers {c : Nat} {f : State → State} (hexec : exec (.launchRecord tp p r) s = s.run f)
    (he : f s = s.launchRefused tp c) : ∃ t, exec (.launchRecord tp p r) s = .next t ∧ t.time = s.time ∧
      t.wrote Code.LAUNCH_REFUSED [tp, c] ∧ t.get (F.TIME_LQ_LATE_refused tp) = min (s.get (F.TIME_LQ_LATE_refused tp) + 1) 65535 := by
  rw [hexec]
  refine run_answers_of_effect hp he fun t ht => ?_
  rw [ht.time_driven, ht.get_driven (by simp; decide), State.launchRefused, raise_time, State.inc_def, set_time,
    get_raise (by simp; decide), ← State.inc_def, get_inc (by simp [F.TIME_LQ_LATE_refused])]
  exact ⟨rfl, ht.wrote_driven raise_wrote, rfl⟩

/-- One that breaks the format, or is of another partition, is a bad record. -/
theorem launchRecord_bad (hbad : (s.launchClaim tp).map (fun e => e.1) ≠ some p.val ∨ 1000000000 ≤ recField r 6 4 ∨ x.length < 60 ∨
    1518 < x.length ∨ 0x4000000 < 64 * x.loc + x.length) : ∃ t, exec (.launchRecord tp p r) s = .next t ∧ t.time = s.time ∧
      t.wrote Code.LAUNCH_REFUSED [tp, lrBADRECORD] ∧
      t.get (F.TIME_LQ_LATE_refused tp) = min (s.get (F.TIME_LQ_LATE_refused tp) + 1) 65535 := by
  obtain ⟨f, hexec, he⟩ := launchRecord_effect (s := s) (tp := tp) (p := p) hx
  refine launchRefused_answers hp hexec (he.trans (if_pos ?_))
  rw [ne_eq, ← launchMine_iff] at hbad
  simpa [or_assoc] using hbad

section Good
variable (hmine : (s.launchClaim tp).map (fun e => e.1) = some p.val) (hns : recField r 6 4 < 1000000000) (hlo : 60 ≤ x.length)
  (hhi : x.length ≤ 1518) (hloc : 64 * x.loc + x.length ≤ 0x4000000)
include hmine hns hlo hhi hloc

omit hp in
theorem launchRecord_enters : ∃ f, exec (.launchRecord tp p r) s = s.run f ∧ f s = s.launchEnters tp x := by
  obtain ⟨f, hexec, he⟩ := launchRecord_effect (s := s) (tp := tp) (p := p) hx
  refine ⟨f, hexec, he.trans (if_neg ?_)⟩
  simp [launchMine_iff.mpr hmine, Nat.not_le.mpr hns, Nat.not_lt.mpr hlo, Nat.not_lt.mpr hhi, Nat.not_lt.mpr hloc]

theorem launchRecord_invalid (hv : s.timeValid = false) : ∃ t, exec (.launchRecord tp p r) s = .next t ∧ t.time = s.time ∧
    t.wrote Code.LAUNCH_REFUSED [tp, lrINVALIDTIME] ∧
    t.get (F.TIME_LQ_LATE_refused tp) = min (s.get (F.TIME_LQ_LATE_refused tp) + 1) 65535 := by
  obtain ⟨f, hexec, he⟩ := launchRecord_enters hx hmine hns hlo hhi hloc
  exact launchRefused_answers hp hexec (he.trans (if_pos (by simp [hv])))

section Valid
variable (hv : s.timeValid = true)
include hv

theorem launchRecord_full (hfull : 64 ≤ (s.launches tp).length) : ∃ t, exec (.launchRecord tp p r) s = .next t ∧ t.time = s.time ∧
    t.wrote Code.LAUNCH_REFUSED [tp, lrFULL] ∧
    t.get (F.TIME_LQ_LATE_refused tp) = min (s.get (F.TIME_LQ_LATE_refused tp) + 1) 65535 := by
  obtain ⟨f, hexec, he⟩ := launchRecord_enters hx hmine hns hlo hhi hloc
  exact launchRefused_answers hp hexec (he.trans ((if_neg (by simp [hv])).trans (if_pos hfull)))

theorem launchRecord_order (hroom : (s.launches tp).length < 64) (hlast : (s.launches tp).getLast? = some y) (hord : x.timeNs < y.timeNs) :
    ∃ t, exec (.launchRecord tp p r) s = .next t ∧ t.time = s.time ∧ t.wrote Code.LAUNCH_REFUSED [tp, lrORDER] ∧
      t.get (F.TIME_LQ_LATE_refused tp) = min (s.get (F.TIME_LQ_LATE_refused tp) + 1) 65535 := by
  obtain ⟨f, hexec, he⟩ := launchRecord_enters hx hmine hns hlo hhi hloc
  exact launchRefused_answers hp hexec (he.trans ((if_neg (by simp [hv])).trans
    ((if_neg (Nat.not_le.mpr hroom)).trans (if_pos (by simp [hlast, hord])))))

/-- A good record enters behind the others. -/
theorem launchRecord_queued (hroom : (s.launches tp).length < 64) (hord : ∀ y, (s.launches tp).getLast? = some y → y.timeNs ≤ x.timeNs) :
    ∃ t, exec (.launchRecord tp p r) s = .next t ∧ t.launches tp = s.launches tp ++ [x] ∧
      t.get (F.TIME_LQ_depth tp) = (s.launches tp).length + 1 := by
  obtain ⟨f, hexec, he⟩ := launchRecord_enters hx hmine hns hlo hhi hloc
  have horder : ¬ (s.launches tp).getLast?.any (fun t => decide (x.timeNs < t.timeNs)) = true := by
    cases h : (s.launches tp).getLast? with
    | none => simp
    | some y => simpa using hord y h
  rw [hexec]
  refine run_answers_of_effect hp (he.trans ((if_neg (by simp [hv])).trans ((if_neg (Nat.not_le.mpr hroom)).trans (if_neg horder))))
    fun t ht => ?_
  rw [launches_of_time ht.time_driven, ht.get_driven (by simp; decide), setLaunches_launches,
    setLaunches_depth (by rw [List.length_append]; simp; omega), List.length_append]
  exact ⟨rfl, rfl⟩

end Valid
end Good
end Record

/-! ### Frames out -/

/-- The bytes of a frame as it stands in the line store, with its FCS. -/
def State.launchFrame (s : State) (x : Launch) : List Byte := withFcs (s.bytes (lineStoreBase + 64 * x.loc) x.length)

/-- A frame is sent. -/
def State.launchSends (s : State) (k : Nat) (x : Launch) : State :=
  (s.timeOut (.frame k (s.launchFrame x))).inc (F.TIME_LQ_SENT_count k)

/-- A frame that is late is counted and written. -/
def State.launchLate (s : State) (k late : Nat) (ok : Bool) : State :=
  (s.inc (F.TIME_LQ_LATE_late k)).raise Code.LAUNCH_LATE [k, late, bit (!ok)]

/-- Whether a late frame leaves all the same. -/
def State.launchOk (s : State) (k late : Nat) : Bool :=
  match s.launchClaim k with | some (_, c) => c.sendLate && late ≤ c.windowUs * 1000 | none => false

theorem launchHead_def {k : Nat} (h : s.launches k = x :: rest) : s.launchHead k =
    let u := s.setLaunches k rest
    let late := u.localNs - x.timeNs
    if late ≤ 8 then u.launchSends k x
    else if u.launchOk k late then (u.launchLate k late (u.launchOk k late)).launchSends k x
    else u.launchLate k late (u.launchOk k late) := by
  unfold State.launchHead
  split
  next heq => cases h.symm.trans heq
  next a b heq =>
    cases List.cons.inj (h.symm.trans heq) |>.1
    cases List.cons.inj (h.symm.trans heq) |>.2
    unfold State.launchSends State.launchLate State.launchOk State.launchFrame
    rfl

theorem launchSends_view {k : Nat} : (s.launchSends k x).time = (s.timeOut (.frame k (s.launchFrame x))).time ∧
    (s.launchSends k x).get (F.TIME_LQ_SENT_count k) = min (s.get (F.TIME_LQ_SENT_count k) + 1) (2 ^ 32 - 1) := by
  have hget : (s.timeOut (.frame k (s.launchFrame x))).get (F.TIME_LQ_SENT_count k) = s.get (F.TIME_LQ_SENT_count k) := by
    unfold State.timeOut
    split <;> rfl
  constructor
  · rw [State.launchSends, State.inc_def, set_time]
  · rw [State.launchSends, get_inc (by simp [F.TIME_LQ_SENT_count]), hget]
    rfl

theorem launchSends_launches {k q : Nat} : (s.launchSends k x).launches q = s.launches q := by
  rw [launches_of_time launchSends_view.1]
  unfold State.timeOut
  split <;> rfl

theorem get_launchSends {k : Nat} (h : regKind g.key ≠ regKind (F.TIME_LQ_SENT_count k).key) : (s.launchSends k x).get g = s.get g := by
  rw [State.launchSends, State.inc_def, State.get_set_kind (by simpa using h)]
  unfold State.timeOut
  split <;> rfl

theorem launchLate_time {k late : Nat} {ok : Bool} : (s.launchLate k late ok).time = s.time := by
  rw [State.launchLate, raise_time, State.inc_def, set_time]

theorem launchLate_mem {k late : Nat} {ok : Bool} : (s.launchLate k late ok).mem = s.mem := by
  rw [State.launchLate, raise_mem, State.inc_def, set_mem]

theorem launchLate_cfg {k late : Nat} {ok : Bool} : (s.launchLate k late ok).cfg = s.cfg := by
  rw [State.launchLate, raise_cfg, State.inc_def, set_cfg]

theorem launchLate_count {k late : Nat} {ok : Bool} : (s.launchLate k late ok).get (F.TIME_LQ_LATE_late k) =
    min (s.get (F.TIME_LQ_LATE_late k) + 1) 65535 := by
  rw [State.launchLate, get_raise (by simp; decide), get_inc (by simp [F.TIME_LQ_LATE_late])]
  rfl

theorem get_launchLate {k late : Nat} {ok : Bool} (h : regKind g.key ≠ regKind (F.TIME_LQ_LATE_late k).key)
    (hr : State.raise_mask.testBit (regKind g.key) = false) : (s.launchLate k late ok).get g = s.get g := by
  rw [State.launchLate, get_raise hr, State.inc_def, State.get_set_kind (by simpa using h)]

/-- A frame is read from memory. -/
theorem launchFrame_of_mem (h : t.mem = s.mem) : t.launchFrame x = s.launchFrame x := by
  unfold State.launchFrame State.bytes State.byte
  rw [h]

section Frame
variable (hp : s.powered = true)
include hp

theorem frameLaunch_idle (h : s.launches tp = []) : ∃ t, exec (.frameLaunch tp) s = .next t ∧ t.time = s.time := by
  refine time_answers hp (exec_frameLaunch.trans rfl) (P := fun x => x = s.time) ?_
  rw [h]

section Head
variable (h : s.launches tp = x :: rest)
include h

/-- Before its time a frame waits. -/
theorem frameLaunch_early (hns : s.localNs + 8 < x.timeNs) : ∃ t, exec (.frameLaunch tp) s = .next t ∧ t.time = s.time := by
  refine time_answers hp (exec_frameLaunch.trans rfl) (P := fun x => x = s.time) ?_
  rw [h]
  exact congrArg State.time (if_pos hns)

omit hp in
theorem frameLaunch_effect (hns : x.timeNs ≤ s.localNs + 8) : ∃ f, exec (.frameLaunch tp) s = s.run f ∧ f s =
    let u := s.setLaunches tp rest
    let late := s.localNs - x.timeNs
    if late ≤ 8 then u.launchSends tp x
    else if s.launchOk tp late then (u.launchLate tp late (s.launchOk tp late)).launchSends tp x
    else u.launchLate tp late (s.launchOk tp late) := by
  refine ⟨_, exec_frameLaunch.trans rfl, ?_⟩
  have hhead := launchHead_def h
  have hnow : (s.setLaunches tp rest).localNs = s.localNs := rfl
  have hok : ∀ late, (s.setLaunches tp rest).launchOk tp late = s.launchOk tp late := fun _ => rfl
  rw [h]
  refine (if_neg (Nat.not_lt.mpr hns)).trans (hhead.trans ?_)
  dsimp only
  rw [hnow, hok]

section Sent
variable (hi : s.island (109 + 2 * tp.val) = true)
include hi

/-- Within 8 ns of its time a frame leaves. -/
theorem frameLaunch_sends (hns : x.timeNs ≤ s.localNs + 8) (hlate : s.localNs ≤ x.timeNs + 8) : ∃ t, exec (.frameLaunch tp) s = .next t ∧
    t.launches tp = rest ∧ t.time.out = s.time.out ++ [.frame tp (withFcs (s.bytes (lineStoreBase + 64 * x.loc) x.length))] ∧
    t.get (F.TIME_LQ_SENT_count tp) = min (s.get (F.TIME_LQ_SENT_count tp) + 1) (2 ^ 32 - 1) := by
  obtain ⟨f, hexec, he⟩ := frameLaunch_effect h hns
  rw [hexec]
  refine run_answers_of_effect hp (he.trans (if_pos (by omega))) fun t ht => ?_
  obtain ⟨htime, hcount⟩ := launchSends_view (s := s.setLaunches tp rest) (k := tp) (x := x)
  rw [launches_of_time ht.time_driven, launchSends_launches, setLaunches_launches, ht.time_driven, htime, ht.get_driven (by simp; decide),
    hcount, get_setLaunches (by simp), timeOut_out (by exact hi), setLaunches_out]
  exact ⟨rfl, rfl, rfl⟩

end Sent

section Late
variable {q : Nat × LaunchClaim} (hns : x.timeNs + 8 < s.localNs) (hq : s.launchClaim tp = some q)
include hns hq

omit hp h hns in
theorem launchOk_eq {late : Nat} : s.launchOk tp late = (q.2.sendLate && decide (late ≤ q.2.windowUs * 1000)) := by
  unfold State.launchOk
  rw [hq]

/-- A late frame leaves under SEND_LATE within its window. -/
theorem frameLaunch_sends_late (hi : s.island (109 + 2 * tp.val) = true) (hsend : q.2.sendLate = true)
    (hw : s.localNs - x.timeNs ≤ q.2.windowUs * 1000) : ∃ t, exec (.frameLaunch tp) s = .next t ∧ t.launches tp = rest ∧
      t.get (F.TIME_LQ_LATE_late tp) = min (s.get (F.TIME_LQ_LATE_late tp) + 1) 65535 ∧
      t.time.out = s.time.out ++ [.frame tp (withFcs (s.bytes (lineStoreBase + 64 * x.loc) x.length))] ∧
      t.get (F.TIME_LQ_SENT_count tp) = min (s.get (F.TIME_LQ_SENT_count tp) + 1) (2 ^ 32 - 1) := by
  obtain ⟨f, hexec, he⟩ := frameLaunch_effect h (by omega)
  have hok : s.launchOk tp (s.localNs - x.timeNs) = true := by rw [launchOk_eq hq]; simp [hsend, hw]
  rw [hexec]
  refine run_answers_of_effect hp (he.trans ((if_neg (by omega)).trans (if_pos hok))) fun t ht => ?_
  obtain ⟨htime, hcount⟩ := launchSends_view (x := x) (k := tp)
    (s := (s.setLaunches tp rest).launchLate tp (s.localNs - x.timeNs) (s.launchOk tp (s.localNs - x.timeNs)))
  have hisl : ((s.setLaunches tp rest).launchLate tp (s.localNs - x.timeNs) (s.launchOk tp (s.localNs - x.timeNs))).island
      (109 + 2 * tp.val) = true := by
    rw [State.island, launchLate_cfg]
    exact hi
  rw [launches_of_time ht.time_driven, launchSends_launches, launches_of_time launchLate_time, setLaunches_launches, ht.time_driven, htime,
    ht.get_driven (by simp; decide), ht.get_driven (by simp; decide), hcount, get_launchSends (by simp), launchLate_count,
    get_launchLate (by simp) (by simp; decide), get_setLaunches (by simp), get_setLaunches (by simp), timeOut_out (by exact hisl),
    launchLate_time, setLaunches_out, launchFrame_of_mem launchLate_mem]
  exact ⟨rfl, rfl, rfl, rfl⟩

/-- Else it is discarded. -/
theorem frameLaunch_discards (hno : q.2.sendLate = false ∨ q.2.windowUs * 1000 < s.localNs - x.timeNs) :
    ∃ t, exec (.frameLaunch tp) s = .next t ∧ t.launches tp = rest ∧
      t.get (F.TIME_LQ_LATE_late tp) = min (s.get (F.TIME_LQ_LATE_late tp) + 1) 65535 ∧ t.time.out = s.time.out ∧
      t.wrote Code.LAUNCH_LATE [tp, s.localNs - x.timeNs, 1] := by
  obtain ⟨f, hexec, he⟩ := frameLaunch_effect h (by omega)
  have hok : s.launchOk tp (s.localNs - x.timeNs) = false := by
    rw [launchOk_eq hq]
    rcases hno with hn | hn
    · simp [hn]
    · simp [Nat.not_le.mpr hn]
  rw [hexec]
  refine run_answers_of_effect hp (he.trans ((if_neg (by omega)).trans (if_neg (by rw [hok]; exact Bool.false_ne_true)))) fun t ht => ?_
  rw [hok] at ht
  rw [launches_of_time ht.time_driven, launches_of_time launchLate_time, setLaunches_launches, ht.time_driven, launchLate_time,
    setLaunches_out, ht.get_driven (by simp; decide), launchLate_count, get_setLaunches (by simp)]
  exact ⟨rfl, rfl, rfl, ht.wrote_driven raise_wrote⟩

end Late

/-- Nothing leaves a port whose transmit island is off. -/
theorem frameLaunch_off (hns : x.timeNs ≤ s.localNs + 8) (hlate : s.localNs ≤ x.timeNs + 8) (hi : s.island (109 + 2 * tp.val) = false) :
    ∃ t, exec (.frameLaunch tp) s = .next t ∧ t.launches tp = rest ∧ t.time.out = s.time.out := by
  obtain ⟨f, hexec, he⟩ := frameLaunch_effect h hns
  rw [hexec]
  refine run_answers_of_effect hp (he.trans (if_pos (by omega))) fun t ht => ?_
  obtain ⟨htime, -⟩ := launchSends_view (s := s.setLaunches tp rest) (k := tp) (x := x)
  rw [launches_of_time ht.time_driven, launchSends_launches, setLaunches_launches, ht.time_driven, htime]
  exact ⟨rfl, (congrArg (fun u : State => u.time.out) (if_neg (by
    change ¬ s.island (109 + 2 * tp.val) = true
    rw [hi]
    exact Bool.false_ne_true))).trans setLaunches_out⟩

end Head
end Frame
end Launching

/-- Settles O34: a record goes through the checks of R337 in their order; the head of a queue leaves, is late or waits. -/
theorem launchQueues : Obligations.LaunchQueues := by
  unfold Obligations.LaunchQueues
  exact ⟨fun _ _ _ _ _ hp hx hmine hns hlo hhi hloc hv hroom hord => launchRecord_queued hp hx hmine hns hlo hhi hloc hv hroom hord,
    fun _ _ _ _ _ hp hx hbad => launchRecord_bad hp hx hbad,
    fun _ _ _ _ _ hp hx hmine hns hlo hhi hloc hv => launchRecord_invalid hp hx hmine hns hlo hhi hloc hv,
    fun _ _ _ _ _ hp hx hmine hns hlo hhi hloc hv hfull => launchRecord_full hp hx hmine hns hlo hhi hloc hv hfull,
    fun _ _ _ _ _ _ hp hx hmine hns hlo hhi hloc hv hroom hlast hord =>
      launchRecord_order hp hx hmine hns hlo hhi hloc hv hroom hlast hord,
    fun _ _ _ _ hp h hns hlate hi => frameLaunch_sends hp h hi hns hlate,
    fun _ _ _ _ hp h hns => frameLaunch_early hp h hns,
    fun _ _ _ _ _ hp h hns hq hsend hw hi => frameLaunch_sends_late hp h hns hq hi hsend hw,
    fun _ _ _ _ _ hp h hns hq hno => frameLaunch_discards hp h hns hq hno,
    fun _ _ _ _ hp h hns hlate hi => frameLaunch_off hp h hns hlate hi,
    fun _ _ hp h => frameLaunch_idle hp h⟩

end Sys2Proof.Machine
end

section
/-! PROOFS. The reset of a port that the split does not have (R26) is no reason for the outputs' readbacks to stay. -/

namespace Sys2Proof.Machine

open Sys2Proof

/-- A module with one port whose field-I/O status shows the safe state while the module is not in it. -/
def staleReadbackWitness : State :=
  let s := { State.reset with
    power := .on
    cfg := { State.reset.cfg with structureSec := { State.reset.cfg.structureSec with split := 2 } } }
  s.set F.FIO_STATUS_safe_state 1

/-- The readbacks follow the state after every command, also after one that is ignored (R322). -/
theorem portReset_refreshes_readback {t : State} (h : exec (.portReset 1 0) staleReadbackWitness = .next t) :
    t.get F.FIO_STATUS_safe_state = 0 := by
  have hrun : (match exec (.portReset 1 0) staleReadbackWitness with
      | .next t => t.get F.FIO_STATUS_safe_state == 0
      | _ => false) = true := by decide +kernel
  rw [h] at hrun
  exact eq_of_beq hrun

/-- Refutes O37: PORT_RESET of a port that the split does not have leaves hosts and sessions, but not every register: a readback of
the outputs that does not follow the state is brought to it. -/
theorem not_hostPortsAndResults : ¬ Obligations.HostPortsAndResults := by
  unfold Obligations.HostPortsAndResults
  intro h
  obtain ⟨-, -, habsent, -⟩ := h
  obtain ⟨t, ht, -, hregs, -⟩ := habsent staleReadbackWitness 1 0 (by decide +kernel) (by decide +kernel)
  have hstale : t.get F.FIO_STATUS_safe_state = 1 := by
    rw [State.get, hregs]
    decide +kernel
  exact absurd (hstale.symm.trans (portReset_refreshes_readback ht)) (by decide)

end Sys2Proof.Machine
end

section
/-! PROOFS. The event recorder (R417 to R424, R431): the record written at the head, the budget and the buckets, the freeze, and the
read windows. -/

namespace Sys2Proof.Machine

open Sys2Proof

section RecorderCommands

variable {s t u : State} {i : Port} {w : Waymark} {g : Field} {code reason : Nat} {ps : List Nat}

theorem exec_waymarkWrite : exec .waymarkWrite s = execWaymarkWrite s := rfl
theorem exec_sectorErased : exec .sectorErased s = execSectorErased s := rfl
theorem exec_budgetRefill : exec .budgetRefill s = execBudgetRefill s := rfl
theorem exec_bucketRefill : exec .bucketRefill s = execBucketRefill s := rfl
theorem exec_waymarkSummary {c p : Nat} : exec (.waymarkSummary c p) s = execWaymarkSummary c p s := rfl
theorem exec_freeze : exec (.freeze i) s = execFreeze i s := rfl
theorem exec_thaw : exec (.thaw i) s = execThaw i s := rfl
theorem exec_freezeTimeout : exec .freezeTimeout s = execFreezeTimeout s := rfl
theorem exec_waymRead : exec (.waymRead i) s = execWaymRead i s := rfl

theorem State.Same.recorder_driven (h : t.Same u.driveOutputs) : t.recorder = u.recorder := h.recorder.trans driveOutputs_recorder

/-- The flash of the ring, its head and who froze it stand as they did. -/
structure State.SameRing (s t : State) : Prop where
  flash : t.recorder.flash = s.recorder.flash
  head : t.recorder.headPos = s.recorder.headPos
  frozenBy : t.recorder.frozenBy = s.recorder.frozenBy

theorem State.SameRing.trans (h : s.SameRing t) (k : t.SameRing u) : s.SameRing u :=
  ⟨k.flash.trans h.flash, k.head.trans h.head, k.frozenBy.trans h.frozenBy⟩

theorem sameRing_of_recorder (h : t.recorder = s.recorder) : s.SameRing t := ⟨by rw [h], by rw [h], by rw [h]⟩

/-- A buffer that takes a waymark appends it and changes nothing else of the recorder. -/
theorem buffer_recorder (h : s.buffer w = some u) :
    u.recorder = { s.recorder with buffer := s.recorder.buffer ++ [w] } := by
  rcases buffer_cases h with rfl | rfl
  · rfl
  · rw [each_fire_recorder fun s i => by split; exact fire_recorder; rfl]
    rfl

theorem buffer_sameRing (h : s.buffer w = some u) : s.SameRing u := by
  have hr := buffer_recorder h
  exact ⟨by rw [hr], by rw [hr], by rw [hr]⟩

theorem raiseMark_sameRing {key : Nat × Nat} : s.SameRing (s.raiseMark key w) := by
  unfold State.raiseMark
  dsimp only
  split
  · exact ⟨rfl, rfl, rfl⟩
  · split
    next v hv => exact (buffer_sameRing (u := v) hv).trans ⟨rfl, rfl, rfl⟩
    · exact ⟨rfl, rfl, rfl⟩

theorem raise_sameRing : s.SameRing (s.raise code ps) := raiseMark_sameRing

/-! ### The record at the head -/

theorem fireAsked_recorder {sev : Nat} : (s.fireAsked sev).recorder = s.recorder :=
  each_fire_recorder (fun s i => by rw [fireIfAsked_eq]) s

theorem get_fireAsked {sev : Nat} : (s.fireAsked sev).get g = s.get g :=
  each_keeps (fun s => s.get g) (fun s i => by rw [fireIfAsked_eq]; rfl) _ s

/-- The erase of a sector leaves the head and the freezing port. -/
theorem eraseSector_head {x : Nat} : (s.eraseSector x).recorder.headPos = s.recorder.headPos ∧
    (s.eraseSector x).recorder.frozenBy = s.recorder.frozenBy := by
  unfold State.eraseSector
  dsimp only
  split
  · exact ⟨raise_sameRing.head, raise_sameRing.frozenBy⟩
  · exact ⟨rfl, rfl⟩

theorem enterSector_head {x : Nat} : (s.enterSector x).recorder.headPos = s.recorder.headPos := by
  unfold State.enterSector
  dsimp only
  split
  · rfl
  · exact eraseSector_head.1

/-- The sector of the head entered, where the head stands at its first record. -/
def State.atHead (s : State) : State :=
  if s.recorder.headPos % sectorRecords = 0 then s.enterSector (s.recorder.headPos / sectorRecords) else s

theorem atHead_head : s.atHead.recorder.headPos = s.recorder.headPos := by
  unfold State.atHead
  split
  · exact enterSector_head
  · rfl

theorem get_atHead (h : State.enterSector_mask.testBit (regKind g.key) = false) : s.atHead.get g = s.get g := by
  unfold State.atHead
  split
  · exact (State.enterSector_frame (Within.refl _) (.refl _ s)).get g h
  · rfl

/-- The waymark as it is written at the head. -/
def State.headMark (s : State) (w : Waymark) (extra : Nat) : Waymark :=
  { w with seq := s.get F.WAYM_HEAD_SEQ_seq, flags := w.flags ||| extra ||| (if s.on F.WAYM_STATUS_frozen then flagFROZEN else 0) |||
      (if s.recorder.dropBefore then flagDROPBEFORE else 0) }

/-- A record put at the head, which moves on. -/
def State.putHead (s : State) (w : Waymark) : State :=
  { s with recorder := { s.recorder with
      flash := tput s.recorder.flash s.recorder.headPos w, headPos := (s.recorder.headPos + 1) % ringRecords, dropBefore := false } }

/-- The record of `w` put at the head, with the sequence numbers of head and oldest record shown. -/
def State.headWritten (s : State) (w : Waymark) (extra : Nat) : State :=
  let u := (s.atHead.putHead (s.headMark w extra)).set F.WAYM_HEAD_SEQ_seq (s.get F.WAYM_HEAD_SEQ_seq + 1)
  u.set F.WAYM_OLDEST_SEQ_seq u.oldestSeq

theorem flashWrite_eq {n : Nat} : s.flashWrite w n = (s.headWritten w n).takeBudget.fireAsked w.sev := rfl

theorem headWritten_recorder {n : Nat} : (s.headWritten w n).recorder = { s.atHead.recorder with
    flash := tput s.atHead.recorder.flash s.atHead.recorder.headPos (s.headMark w n),
    headPos := (s.atHead.recorder.headPos + 1) % ringRecords, dropBefore := false } := rfl

theorem headWritten_seq {n : Nat} : (s.headWritten w n).get F.WAYM_HEAD_SEQ_seq = (s.get F.WAYM_HEAD_SEQ_seq + 1) % 2 ^ 32 := by
  unfold State.headWritten
  rw [State.get_set_kind (by decide), State.get_set (by decide)]
  rfl

theorem headWritten_tokens {n : Nat} : (s.headWritten w n).get F.WAYM_BUDGET_tokens = s.get F.WAYM_BUDGET_tokens := by
  unfold State.headWritten
  rw [State.get_set_kind (by decide), State.get_set_kind (by decide)]
  exact get_atHead (by decide)

/-- The mark of the freeze on a record. -/
theorem headMark_frozen : (s.headMark w 0).flags.testBit 3 = (w.flags.testBit 3 || s.on F.WAYM_STATUS_frozen) := by
  unfold State.headMark
  rw [Nat.testBit_or, Nat.testBit_or, Nat.testBit_or]
  cases s.on F.WAYM_STATUS_frozen <;> cases s.recorder.dropBefore <;> simp [flagFROZEN, flagDROPBEFORE, Nat.testBit]

/-- A token is taken where one is left; the waymark of an emptied budget touches neither ring nor head. -/
theorem takeBudget_sameRing : s.SameRing s.takeBudget := by
  unfold State.takeBudget
  dsimp only
  split
  · exact sameRing_of_recorder rfl
  · split
    · exact (sameRing_of_recorder (set_recorder.trans set_recorder)).trans raise_sameRing
    · exact sameRing_of_recorder rfl

theorem takeBudget_tokens : s.takeBudget.get F.WAYM_BUDGET_tokens = s.get F.WAYM_BUDGET_tokens - 1 := by
  have hset : ((s.set F.WAYM_BUDGET_tokens (s.get F.WAYM_BUDGET_tokens - 1)).get F.WAYM_BUDGET_tokens) = s.get F.WAYM_BUDGET_tokens - 1 :=
    (State.get_set (by decide)).trans (Nat.mod_eq_of_lt (lt_of_le_of_lt (Nat.sub_le _ _) get_lt))
  unfold State.takeBudget
  dsimp only
  split
  · omega
  · split
    · rw [get_raise (by decide), State.get_set_kind (by decide), hset]
    · exact hset

theorem takeBudget_recorder (h : s.get F.WAYM_BUDGET_tokens ≠ 1) : s.takeBudget.recorder = s.recorder := by
  unfold State.takeBudget
  dsimp only
  split
  · rfl
  · rw [if_neg (by simp [h])]
    rfl

theorem reportDrop_sameRing : s.SameRing s.reportDrop := by
  unfold State.reportDrop
  dsimp only
  split
  · exact sameRing_of_recorder rfl
  · refine State.SameRing.trans ?_ raise_sameRing
    exact ⟨rfl, rfl, rfl⟩

theorem unbuffer_recorder : s.unbuffer.recorder = { s.recorder with buffer := s.recorder.buffer.drop 1 } := rfl

theorem get_unbuffer (h : regKind g.key ≠ 329) : s.unbuffer.get g = s.get g :=
  State.get_set_kind (by rw [F.WAYM_STATUS_buffered_kind]; exact h)

theorem unbuffer_frozen : s.unbuffer.on F.WAYM_STATUS_frozen = s.on F.WAYM_STATUS_frozen := by
  rw [State.on, State.on, State.unbuffer, State.get_set_field (f := F.WAYM_STATUS_frozen) (g := F.WAYM_STATUS_buffered) rfl
    (by decide) (by decide)]
  rfl

/-- The state in which the oldest buffered waymark stands at the head and its token is taken. -/
def State.tokenTaken (s : State) (w : Waymark) : State := (s.unbuffer.headWritten w 0).takeBudget

theorem waymarkWrite_eq {rest : List Waymark} (hb : s.recorder.buffer = w :: rest) (hh : s.headFree = true) :
    s.waymarkWrite 0 = ((s.tokenTaken w).fireAsked w.sev).reportDrop := by
  simp only [State.waymarkWrite, hb, hh, if_true, flashWrite_eq]
  rfl

theorem waymarkWrite_idle (h : s.recorder.buffer = [] ∨ s.headFree = false) : s.waymarkWrite 0 = s := by
  unfold State.waymarkWrite
  split
  · rfl
  next hb =>
    rw [if_neg]
    simpa [hb] using h

/-- The ring after the record. -/
theorem tokenTaken_ring : (s.tokenTaken w).recorder.headPos = (s.recorder.headPos + 1) % ringRecords ∧
    tfind (s.tokenTaken w).recorder.flash s.recorder.headPos = some (s.unbuffer.headMark w 0) := by
  have hhead : s.unbuffer.atHead.recorder.headPos = s.recorder.headPos := atHead_head
  unfold State.tokenTaken
  rw [takeBudget_sameRing.head, takeBudget_sameRing.flash, headWritten_recorder, hhead]
  exact ⟨rfl, tfind_tput_self _ _ _⟩

theorem tokenTaken_fields : (s.tokenTaken w).get F.WAYM_HEAD_SEQ_seq = (s.get F.WAYM_HEAD_SEQ_seq + 1) % 2 ^ 32 ∧
    (s.tokenTaken w).get F.WAYM_BUDGET_tokens = s.get F.WAYM_BUDGET_tokens - 1 := by
  constructor
  · rw [State.tokenTaken, (State.takeBudget_frame (Within.refl _) (.refl _ _)).get _ (by decide), headWritten_seq,
      get_unbuffer (by decide)]
  · rw [State.tokenTaken, takeBudget_tokens, headWritten_tokens, get_unbuffer (by decide)]

/-- Inside a sector, with a token to spare, the record changes nothing else of the recorder. -/
theorem tokenTaken_recorder (hhead : s.recorder.headPos % sectorRecords ≠ 0) (htok : s.get F.WAYM_BUDGET_tokens ≠ 1) :
    (s.tokenTaken w).recorder.buffer = s.recorder.buffer.drop 1 ∧ (s.tokenTaken w).recorder.lost = s.recorder.lost := by
  have hat : s.unbuffer.atHead = s.unbuffer := if_neg hhead
  rw [State.tokenTaken, takeBudget_recorder (by rwa [headWritten_tokens, get_unbuffer (by decide)]), headWritten_recorder, hat]
  exact ⟨rfl, rfl⟩

theorem get_reportDrop (h : State.reportDrop_mask.testBit (regKind g.key) = false) : s.reportDrop.get g = s.get g :=
  (State.reportDrop_frame (Within.refl _) (.refl _ s)).get g h

/-! ### Budget and buckets -/

/-- The keys of a list that is filtered are among its keys. -/
theorem afind_eq_none {κ α : Type} [DecidableEq κ] {k : κ} : ∀ {l : List (κ × α)}, k ∉ l.map (fun e => e.1) → afind l k = none
  | [], _ => rfl
  | (j, b) :: l, h => by
    rw [List.map_cons, List.mem_cons, not_or] at h
    rw [afind, if_neg h.1, afind_eq_none h.2]

/-- One entry of a list with distinct keys, after its values have changed and some entries have left. -/
theorem afind_filter_map {κ α : Type} [DecidableEq κ] {h : κ → α → α} {q : κ × α → Bool} {k : κ} : ∀ {l : List (κ × α)},
    (l.map fun e => e.1).Nodup →
    afind ((l.map fun e => (e.1, h e.1 e.2)).filter q) k = ((afind l k).map (h k)).filter fun b => q (k, b)
  | [], _ => rfl
  | (j, b) :: l, hn => by
    rw [List.map_cons, List.nodup_cons] at hn
    obtain ⟨hj, hn⟩ := hn
    have ih := afind_filter_map (h := h) (q := q) (k := k) hn
    rw [List.map_cons, List.filter_cons]
    by_cases hk : k = j
    · subst hk
      rw [afind_eq_none hj] at ih
      cases hq : q (k, h k b) <;> simp [afind, Option.filter, hq, ih]
    · cases q (j, h j b) <;> simp [afind, hk, ih]

/-- The buckets after a token more for each, without those that are full and hold nothing. -/
def State.refilled (s : State) : State :=
  { s with recorder := { s.recorder with
      buckets := (s.recorder.buckets.map fun e => (e.1, { e.2 with tokens := min (e.2.tokens + 1) (bucketCap e.1.1) })).filter
        (fun e => e.2.tokens != bucketCap e.1.1 || e.2.supp != 0) } }

theorem refilled_bucket {k : Nat × Nat} (hn : (s.recorder.buckets.map (fun e => e.1)).Nodup) :
    (s.refilled.bucket k).tokens = min ((s.bucket k).tokens + 1) (bucketCap k.1) ∧
    (s.refilled.bucket k).supp = (s.bucket k).supp := by
  have hfind := afind_filter_map (k := k) (l := s.recorder.buckets)
    (h := fun k b => { b with tokens := min (b.tokens + 1) (bucketCap k.1) })
    (q := fun e => e.2.tokens != bucketCap e.1.1 || e.2.supp != 0) hn
  have hbucket : s.refilled.bucket k = (afind s.refilled.recorder.buckets k).getD _ := rfl
  rw [hbucket, show afind s.refilled.recorder.buckets k = _ from hfind, State.bucket]
  cases afind s.recorder.buckets k with
  | none => simp
  | some b =>
    by_cases hfull : min (b.tokens + 1) (bucketCap k.1) = bucketCap k.1 ∧ b.supp = 0
    · simp [Option.filter, hfull]
    · rw [Option.map_some, Option.filter, if_pos (by rw [not_and_or] at hfull; simpa [-inf_eq_right] using hfull)]
      exact ⟨rfl, rfl⟩

/-- The SUMMARY record of a held count. -/
def State.summary (s : State) (k : Nat × Nat) (w : Waymark) : Waymark :=
  { w with supp := (s.bucket k).supp, flags := (if s.recorder.early then flagEARLY else 0) ||| flagSUMMARY,
           opSec := s.opSeconds, cycles := s.get F.KEEP_POWER_CYCLES_count }

theorem summary_marked {k : Nat × Nat} : (s.summary k w).flags.testBit 0 = true := by
  unfold State.summary
  rw [Nat.testBit_or]
  simp [flagSUMMARY]

theorem bucket_of_recorder {k : Nat × Nat} (h : t.recorder = s.recorder) : t.bucket k = s.bucket k := by
  unfold State.bucket
  rw [h]

theorem noteDrop_bucket {sev : Nat} {k : Nat × Nat} : (s.noteDrop sev).bucket k = s.bucket k := rfl

/-- A full buffer takes no waymark. -/
theorem buffer_full (h : 1024 ≤ s.recorder.buffer.length) : s.buffer w = none := by
  unfold State.buffer
  dsimp only
  rw [if_neg]
  split <;> omega

/-! ### The freeze -/

theorem get_waymStatus (h : regKind g.key ≠ regKind (F.WAYM_CMD_STATUS_code i).key) : (s.waymStatus i code reason).get g = s.get g := by
  unfold State.waymStatus
  rw [State.get_set_kind (by simpa using h), State.get_set_kind (by simpa using h)]

/-- What a command status of WAYM shows. -/
theorem waymStatus_shows (hc : code < 2 ^ 16) (hr : reason < 2 ^ 8) :
    (s.waymStatus i code reason).get (F.WAYM_CMD_STATUS_code i) = code ∧
    (s.waymStatus i code reason).get (F.WAYM_CMD_STATUS_reason i) = reason := by
  unfold State.waymStatus
  constructor
  · rw [State.get_set_field (f := F.WAYM_CMD_STATUS_code i) (g := F.WAYM_CMD_STATUS_reason i) rfl
      (by simp [F.WAYM_CMD_STATUS_code, F.WAYM_CMD_STATUS_reason]) (by simp [F.WAYM_CMD_STATUS_code]),
      State.get_set (by simp [F.WAYM_CMD_STATUS_code])]
    exact Nat.mod_eq_of_lt hc
  · rw [State.get_set (by simp [F.WAYM_CMD_STATUS_reason])]
    exact Nat.mod_eq_of_lt hr

theorem waymStatus_recorder : (s.waymStatus i code reason).recorder = s.recorder := by
  rw [State.waymStatus, set_recorder, set_recorder]

theorem get_raise_frozen : (s.raise code ps).get F.WAYM_STATUS_frozen = s.get F.WAYM_STATUS_frozen :=
  get_raise_field (by decide) (by decide) (by decide) (by decide)

theorem frozen_eq_one (h : s.on F.WAYM_STATUS_frozen = true) : s.get F.WAYM_STATUS_frozen = 1 := by
  have hne : s.get F.WAYM_STATUS_frozen ≠ 0 := by simpa [State.on] using h
  have hlt : s.get F.WAYM_STATUS_frozen < 2 := get_lt
  omega

/-- The ring frozen by port `i`. -/
def State.frozen (s : State) (i : Port) : State :=
  ((({ s with recorder := { s.recorder with frozenBy := some i, frozenLost := 0 } }).set F.WAYM_STATUS_frozen 1).set
    F.WAYM_STATUS_freeze_port i).set F.WAYM_FROZEN_AT_seq (s.get F.WAYM_HEAD_SEQ_seq)

theorem frozen_shown : (s.frozen i).get F.WAYM_STATUS_frozen = 1 ∧ (s.frozen i).get F.WAYM_STATUS_freeze_port = i.val ∧
    (s.frozen i).get F.WAYM_FROZEN_AT_seq = s.get F.WAYM_HEAD_SEQ_seq := by
  unfold State.frozen
  refine ⟨?_, ?_, ?_⟩
  · rw [State.get_set_kind (by decide), State.get_set_field (f := F.WAYM_STATUS_frozen) (g := F.WAYM_STATUS_freeze_port) rfl
      (by decide) (by decide), State.get_set (by decide)]
    rfl
  · rw [State.get_set_kind (by decide), State.get_set (by decide)]
    exact Nat.mod_eq_of_lt (i.isLt.trans_le (by decide))
  · rw [State.get_set (by decide)]
    exact Nat.mod_eq_of_lt get_lt

/-- The end of a freeze, before an erase that it held back. -/
def State.thawed (s : State) (cause : Nat) : State :=
  ((({ s with recorder := { s.recorder with frozenBy := none, frozenLost := 0 } }).set F.WAYM_STATUS_frozen 0).set
    F.WAYM_STATUS_freeze_port 0).raise Code.RECORDER_THAWED [cause, s.recorder.buffer.length, s.recorder.frozenLost]

theorem get_eraseSector_frozen {x : Nat} : (s.eraseSector x).get F.WAYM_STATUS_frozen = s.get F.WAYM_STATUS_frozen := by
  unfold State.eraseSector
  dsimp only
  split
  · rw [get_raise_frozen, State.get_set_kind (by decide), State.get_set_kind (by decide)]
    rfl
  · rw [State.get_set_kind (by decide), State.get_set_kind (by decide)]
    rfl

theorem thawed_frozen {n : Nat} : (s.thawed n).get F.WAYM_STATUS_frozen = 0 := by
  unfold State.thawed
  rw [get_raise_frozen, State.get_set_field (f := F.WAYM_STATUS_frozen) (g := F.WAYM_STATUS_freeze_port) rfl (by decide) (by decide),
    State.get_set (by decide)]
  rfl

theorem thawed_frozenBy {n : Nat} : (s.thawed n).recorder.frozenBy = none := by
  unfold State.thawed
  rw [raise_sameRing.frozenBy, set_recorder, set_recorder]

/-- A thaw ends the freeze; an erase that it held back starts. -/
theorem thaw_eq {n : Nat} (hf : s.on F.WAYM_STATUS_frozen = true) : s.thaw n =
    if s.recorder.eraseHeld then (s.thawed n).eraseSector (if s.recorder.headPos % sectorRecords = 0 then
      s.recorder.headPos / sectorRecords else (s.recorder.headPos / sectorRecords + 1) % ringSectors) else s.thawed n := by
  unfold State.thaw
  rw [if_neg (by simp [hf])]
  rfl

theorem thaw_ends {n : Nat} (hf : s.on F.WAYM_STATUS_frozen = true) :
    (s.thaw n).get F.WAYM_STATUS_frozen = 0 ∧ (s.thaw n).recorder.frozenBy = none := by
  rw [thaw_eq hf]
  split
  · rw [get_eraseSector_frozen, eraseSector_head.2]
    exact ⟨thawed_frozen, thawed_frozenBy⟩
  · exact ⟨thawed_frozen, thawed_frozenBy⟩

/-- A command that only sets its status. -/
def State.Shown (t : State) (i : Port) (code reason : Nat) : Prop :=
  t.get (F.WAYM_CMD_STATUS_code i) = code ∧ t.get (F.WAYM_CMD_STATUS_reason i) = reason

/-- The refusal of a port that may not command the recorder. -/
def State.waymRole (s : State) (i : Port) : State := (s.raise Code.WAYM_ROLE [i, 0xC]).waymStatus i Code.WAYM_ROLE 1

theorem waymRole_frozen : (s.waymRole i).get F.WAYM_STATUS_frozen = s.get F.WAYM_STATUS_frozen ∧
    (s.waymRole i).recorder.frozenBy = s.recorder.frozenBy := by
  unfold State.waymRole
  rw [get_waymStatus (by simp), get_raise_frozen, waymStatus_recorder, raise_sameRing.frozenBy]
  exact ⟨rfl, rfl⟩

/-! ### The read windows -/

/-- Port `i`'s window with the eight words `ws` of a record, or none. -/
def State.windowed (s : State) (i : Port) (st : Nat) (ws : List Nat) : State :=
  (s.set (F.WAYM_READ_STATE_state i) st).each (upTo 8) fun s k => s.set (F.WAYM_READ_DATA_word i k) (ws.getD k 0)

theorem windowed_state {st : Nat} {ws : List Nat} (hst : st < 4) : (s.windowed i st ws).get (F.WAYM_READ_STATE_state i) = st := by
  unfold State.windowed
  rw [get_each_set_kind (by simp), State.get_set (by simp [F.WAYM_READ_STATE_state])]
  exact Nat.mod_eq_of_lt hst

theorem windowed_word {st k : Nat} {ws : List Nat} (hk : k < 8) :
    (s.windowed i st ws).get (F.WAYM_READ_DATA_word i k) = ws.getD k 0 % 2 ^ 32 := by
  have hdistinct : (upTo 8).Pairwise fun a b => (F.WAYM_READ_DATA_word i a).key ≠ (F.WAYM_READ_DATA_word i b).key := by
    simp [upTo, List.range, List.range.loop, F.WAYM_READ_DATA_word]
  exact get_each_set_mem (g := fun k => F.WAYM_READ_DATA_word i k) (v := fun k => ws.getD k 0) (by simp [F.WAYM_READ_DATA_word])
    hdistinct (by simpa [upTo] using hk) _

theorem windowed_recorder {st : Nat} {ws : List Nat} : (s.windowed i st ws).recorder = s.recorder := by
  unfold State.windowed
  rw [each_keeps State.recorder (fun _ _ => set_recorder), set_recorder]

/-- The read window with the record, of which the read took the first word. -/
def State.windowRead (s : State) (i : Port) (st : Nat) (ws : List Nat) : State :=
  (s.windowed i st ws).reply i (.data (BitVec.ofNat 32 (ws.getD 0 0)))

theorem execWaymRead_eq {st : Nat} {ws : List Nat} (hr : s.ringRecord (s.get (F.WAYM_READ_SEQ_seq i)) = (st, ws)) :
    ∃ f, exec (.waymRead i) s = s.run f ∧ f s = s.windowRead i st ws := by
  refine ⟨_, exec_waymRead, ?_⟩
  simp only [hr, State.windowed, State.windowRead]

/-- The answer to a read of the record, by what the ring holds under its number. -/
theorem waymRead_shows {st : Nat} {ws : List Nat} (hp : s.powered = true) (hst : st < 4)
    (hr : s.ringRecord (s.get (F.WAYM_READ_SEQ_seq i)) = (st, ws)) :
    ∃ t, exec (.waymRead i) s = .next t ∧ t.readWindow i st ws ∧ t.recorder = s.recorder := by
  obtain ⟨f, hexec, heff⟩ := execWaymRead_eq hr
  rw [hexec]
  refine run_answers_of_effect hp heff fun t ht => ⟨⟨?_, fun k hk => ?_, ?_⟩, ?_⟩
  · rw [ht.get_driven (by simp; decide), State.windowRead, get_reply (by simp; decide), windowed_state hst]
  · rw [ht.get_driven (by simp; decide), State.windowRead, get_reply (by simp; decide), windowed_word hk]
  · rw [State.answered, ht.replies.trans driveOutputs_replies, State.windowRead, State.reply, tget_tset_self]
  · rw [ht.recorder_driven, State.windowRead, reply_recorder, windowed_recorder]

/-- A record in the ring, by whether it is torn. -/
theorem ringRecord_found {q : Nat} {e : Nat × Waymark} (h : s.recorder.flash.find? (fun e => e.2.seq == q) = some e) :
    s.ringRecord q = if s.recorder.torn.contains e.1 then (3, []) else (0, waymarkWords e.2) := by
  unfold State.ringRecord
  rw [h]

theorem ringRecord_missing {q : Nat} (h : s.recorder.flash.find? (fun e => e.2.seq == q) = none) :
    s.ringRecord q = if (q + 2 ^ 32 - s.get F.WAYM_HEAD_SEQ_seq) % 2 ^ 32 < 2 ^ 31 then (2, []) else (1, []) := by
  unfold State.ringRecord
  rw [h]

section Answers
variable (hp : s.powered = true)
include hp

/-- With a free head the oldest buffered waymark is written at it. -/
theorem waymarkWrite_answers {rest : List Waymark} (hb : s.recorder.buffer = w :: rest) (hh : s.headFree = true) :
    ∃ t, exec .waymarkWrite s = .next t ∧ t.get F.WAYM_HEAD_SEQ_seq = (s.get F.WAYM_HEAD_SEQ_seq + 1) %
    2 ^ 32 ∧ t.recorder.headPos = (s.recorder.headPos + 1) % ringRecords ∧ (∃ x, tfind t.recorder.flash
    s.recorder.headPos = some x ∧ x.seq = s.get F.WAYM_HEAD_SEQ_seq ∧ x.code = w.code ∧ x.sev = w.sev ∧ (x.p1,
    x.p2, x.p3) = (w.p1, w.p2, w.p3) ∧ (x.flags.testBit 3 = (w.flags.testBit 3 || s.on F.WAYM_STATUS_frozen))) ∧
    t.get F.WAYM_BUDGET_tokens = s.get F.WAYM_BUDGET_tokens - 1 ∧ (s.recorder.headPos % sectorRecords ≠ 0 →
    s.get F.WAYM_BUDGET_tokens ≠ 1 → s.recorder.lost = 0 → t.recorder.buffer = rest) := by
  rw [exec_waymarkWrite]
  refine run_answers_of_effect hp (waymarkWrite_eq hb hh) fun t ht => ?_
  obtain ⟨hhead, hflash⟩ := tokenTaken_ring (s := s) (w := w)
  obtain ⟨hseq, htokens⟩ := tokenTaken_fields (s := s) (w := w)
  rw [ht.get_driven (by decide), ht.get_driven (by decide), get_reportDrop (by decide), get_reportDrop (by decide), get_fireAsked,
    get_fireAsked, ht.recorder_driven, reportDrop_sameRing.head, reportDrop_sameRing.flash, fireAsked_recorder]
  refine ⟨hseq, hhead, ⟨_, hflash, get_unbuffer (by decide), rfl, rfl, rfl, headMark_frozen.trans (by rw [unbuffer_frozen])⟩, htokens,
    fun hin htok hlost => ?_⟩
  obtain ⟨hbuffer, hlost'⟩ := tokenTaken_recorder (w := w) hin htok
  have hquiet : ((s.tokenTaken w).fireAsked w.sev).reportDrop = (s.tokenTaken w).fireAsked w.sev :=
    if_pos (by rw [fireAsked_recorder, hlost', hlost])
  rw [hquiet, fireAsked_recorder, hbuffer, hb]
  rfl

theorem waymarkWrite_idles (h : s.recorder.buffer = [] ∨ s.headFree = false) : ∃ t, exec .waymarkWrite s = .next t ∧
    t.recorder = s.recorder ∧ t.get F.WAYM_HEAD_SEQ_seq = s.get F.WAYM_HEAD_SEQ_seq := by
  rw [exec_waymarkWrite]
  refine run_answers_of_effect hp (waymarkWrite_idle h) fun t ht => ?_
  rw [ht.recorder_driven, ht.get_driven (by decide)]
  exact ⟨rfl, rfl⟩

theorem sectorErased_answers : ∃ t, exec .sectorErased s = .next t ∧ t.recorder = { s.recorder with erasing := none } := by
  rw [exec_sectorErased]
  exact run_answers_of_effect hp rfl fun _ ht => ht.recorder_driven

/-- A refilled budget that was empty is written. -/
theorem budgetRefill_leaves_empty (he : s.on F.WAYM_STATUS_budget_empty = true) : ∃ t, exec .budgetRefill s = .next t ∧
    t.get F.WAYM_BUDGET_tokens = min (s.get F.WAYM_BUDGET_tokens + 1) 100000 ∧ t.get F.WAYM_STATUS_budget_empty
    = 0 ∧ t.wrote Code.RECORDER_BUDGET [1, min (s.get F.WAYM_BUDGET_tokens + 1) 100000] := by
  rw [exec_budgetRefill]
  refine run_answers_of_effect hp (if_pos ?_) fun t ht => ⟨?_, ?_, ht.wrote_driven raise_wrote⟩
  · rw [State.on, State.get_set_kind (by decide)]
    exact he
  · rw [ht.get_driven (by decide), get_raise (by decide), State.get_set_kind (by decide), State.get_set (by decide)]
    exact Nat.mod_eq_of_lt (lt_of_le_of_lt (Nat.min_le_right _ _) (by decide))
  · rw [ht.get_driven (by decide), get_raise_field (by decide) (by decide) (by decide) (by decide), State.get_set (by decide)]
    rfl

theorem budgetRefill_grows (he : s.on F.WAYM_STATUS_budget_empty = false) : ∃ t, exec .budgetRefill s = .next t ∧
    t.get F.WAYM_BUDGET_tokens = min (s.get F.WAYM_BUDGET_tokens + 1) 100000 ∧ t.recorder = s.recorder := by
  rw [exec_budgetRefill]
  refine run_answers_of_effect hp (if_neg ?_) fun t ht => ⟨?_, ht.recorder_driven.trans set_recorder⟩
  · rw [State.on, State.get_set_kind (by decide)]
    exact ne_true_of_eq_false he
  · rw [ht.get_driven (by decide), State.get_set (by decide)]
    exact Nat.mod_eq_of_lt (lt_of_le_of_lt (Nat.min_le_right _ _) (by decide))

theorem bucketRefill_answers {k : Nat × Nat} (hn : (s.recorder.buckets.map (fun e => e.1)).Nodup) : ∃ t, exec
    .bucketRefill s = .next t ∧ (t.bucket k).tokens = min ((s.bucket k).tokens + 1) (bucketCap k.1) ∧ (t.bucket
    k).supp = (s.bucket k).supp := by
  rw [exec_bucketRefill]
  refine run_answers_of_effect (u := s.refilled) hp rfl fun t ht => ?_
  rw [bucket_of_recorder ht.recorder_driven]
  exact refilled_bucket hn

section Summary
variable {c p : Nat} (hl : (s.bucket (c, p)).last = some w) (hs : (s.bucket (c, p)).supp ≠ 0)
include hl hs

/-- A held count is written as a SUMMARY record. -/
theorem waymarkSummary_answers (hb : s.recorder.buffer.length < 960) : ∃ t, exec (.waymarkSummary c p) s = .next t ∧ (∃ x,
    t.recorder.buffer = s.recorder.buffer ++ [x] ∧ x.code = w.code ∧ x.supp = (s.bucket (c, p)).supp ∧
    x.flags.testBit 0 = true ∧ x.cycles = s.get F.KEEP_POWER_CYCLES_count ∧ x.opSec = s.opSeconds) ∧ (t.bucket
    (c, p)).supp = 0 ∧ (t.bucket (c, p)).tokens = (s.bucket (c, p)).tokens := by
  obtain ⟨u, hu⟩ : ∃ u, s.buffer (s.summary (c, p) w) = some u :=
    ⟨_, buffer_eq (by split <;> omega)⟩
  have he : s.buffer { w with
      supp := (s.bucket (c, p)).supp, flags := (if s.recorder.early then flagEARLY else 0) ||| flagSUMMARY,
      opSec := s.opSeconds, cycles := s.get F.KEEP_POWER_CYCLES_count } = some u := hu
  rw [exec_waymarkSummary]
  refine run_answers_of_effect (u := u.setBucket (c, p) { s.bucket (c, p) with supp := 0, last := none }) hp
    (by simp only [hl, if_neg hs, he]) fun t ht => ?_
  rw [bucket_of_recorder ht.recorder_driven, ht.recorder_driven, setBucket_bucket]
  exact ⟨⟨_, congrArg Recorder.buffer (buffer_recorder hu), rfl, rfl, summary_marked, rfl, rfl⟩, rfl, rfl⟩

/-- A full buffer leaves the count held. -/
theorem waymarkSummary_held (hb : 1024 ≤ s.recorder.buffer.length) : ∃ t, exec (.waymarkSummary c p) s = .next t ∧
    t.recorder.buffer = s.recorder.buffer ∧ (t.bucket (c, p)).supp = (s.bucket (c, p)).supp ∧ t.get
    (F.WAYM_DROPPED_count) = min (s.get (F.WAYM_DROPPED_count) + 1) (2 ^ 32 - 1) := by
  rw [exec_waymarkSummary]
  refine run_answers_of_effect (u := (s.setBucket (c, p) { s.bucket (c, p) with lastAt := s.clk.now }).noteDrop w.sev) hp
    (by simp only [hl, if_neg hs, buffer_full hb]) fun t ht => ?_
  rw [bucket_of_recorder ht.recorder_driven, ht.recorder_driven, ht.get_driven (by decide), noteDrop_bucket, setBucket_bucket]
  refine ⟨rfl, rfl, ?_⟩
  · unfold State.noteDrop
    dsimp only
    rw [get_inc (by decide)]
    rfl

end Summary

theorem waymarkSummary_idles {c p : Nat} (h : (s.bucket (c, p)).last = none ∨ (s.bucket (c, p)).supp = 0) : ∃ t,
    exec (.waymarkSummary c p) s = .next t ∧ t.recorder = s.recorder := by
  rw [exec_waymarkSummary]
  refine run_answers_of_effect (u := s) hp ?_ fun t ht => ht.recorder_driven
  rcases hl : (s.bucket (c, p)).last with _ | w
  · simp only [hl]
  · simp only [hl, if_pos (h.resolve_left (by simp [hl]))]

/-! ### The freeze -/

/-- A command of the recorder that ends with its status. -/
theorem waymDone_answers {c : Instr} {e : State → State} {P : State → Prop} (hc : exec c s = s.run e) (he : e s = u.waymStatus i code reason)
    (hcode : code < 2 ^ 16) (hr : reason < 2 ^ 8) (hP : ∀ t, t.Same (u.waymStatus i code reason).driveOutputs → P t) :
    ∃ t, exec c s = .next t ∧ P t ∧ t.get (F.WAYM_CMD_STATUS_code i) = code ∧ t.get (F.WAYM_CMD_STATUS_reason i) = reason := by
  rw [hc]
  refine run_answers_of_effect hp he fun t ht => ⟨hP t ht, ?_⟩
  rw [ht.get_driven (by simp; decide), ht.get_driven (by simp; decide)]
  exact waymStatus_shows hcode hr

/-- A command of the recorder that is refused for the state of the freeze changes nothing of it. -/
theorem waymRefused_answers {c : Instr} {e : State → State} (hc : exec c s = s.run e) (he : e s = s.waymStatus i code reason)
    (hcode : code < 2 ^ 16) (hr : reason < 2 ^ 8) :
    ∃ t, exec c s = .next t ∧ (t.recorder = s.recorder ∧ t.get F.WAYM_STATUS_frozen = s.get F.WAYM_STATUS_frozen) ∧
      t.get (F.WAYM_CMD_STATUS_code i) = code ∧ t.get (F.WAYM_CMD_STATUS_reason i) = reason :=
  waymDone_answers hp hc he hcode hr fun t ht => by
    rw [ht.recorder_driven, ht.get_driven (by decide), get_waymStatus (by simp), waymStatus_recorder]
    exact ⟨rfl, rfl⟩

/-- A command of the recorder by a port that may not give it. -/
theorem waymRole_answers {c : Instr} {e : State → State} (hc : exec c s = s.run e) (he : e s = s.waymRole i) :
    ∃ t, exec c s = .next t ∧ (t.get F.WAYM_STATUS_frozen = s.get F.WAYM_STATUS_frozen ∧
      t.recorder.frozenBy = s.recorder.frozenBy ∧ t.wrote Code.WAYM_ROLE [i, 0xC]) ∧
      t.get (F.WAYM_CMD_STATUS_code i) = Code.WAYM_ROLE ∧ t.get (F.WAYM_CMD_STATUS_reason i) = 1 :=
  waymDone_answers hp hc he (by decide) (by decide) fun t ht => by
    rw [ht.get_driven (by decide), ht.recorder_driven]
    exact ⟨waymRole_frozen.1, waymRole_frozen.2, ht.wrote_driven (wrote_of_recorder waymStatus_recorder raise_wrote)⟩

theorem freeze_answers (hr : s.privileged i = true) (hf : s.on F.WAYM_STATUS_frozen = false) : ∃ t,
    exec (.freeze i) s = .next t ∧ (t.get F.WAYM_STATUS_frozen = 1 ∧ t.get F.WAYM_STATUS_freeze_port = i.val ∧
    t.get F.WAYM_FROZEN_AT_seq = s.get F.WAYM_HEAD_SEQ_seq ∧ t.recorder.frozenBy = some i.val ∧ t.wrote
    Code.RECORDER_FROZEN [i, s.get F.WAYM_HEAD_SEQ_seq]) ∧ t.get (F.WAYM_CMD_STATUS_code i) = 0 ∧ t.get
    (F.WAYM_CMD_STATUS_reason i) = 0 :=
  waymDone_answers (u := (s.frozen i).raise Code.RECORDER_FROZEN [i, s.get F.WAYM_HEAD_SEQ_seq]) hp (exec_freeze.trans rfl)
    ((if_pos hr).trans (if_neg (ne_true_of_eq_false hf))) (by decide) (by decide) fun t ht => by
      obtain ⟨hfrozen, hport, hat⟩ := frozen_shown (s := s) (i := i)
      rw [ht.get_driven (by decide), ht.get_driven (by decide), ht.get_driven (by decide), ht.recorder_driven,
        get_waymStatus (by simp), get_waymStatus (by simp), get_waymStatus (by simp), waymStatus_recorder, get_raise_frozen,
        get_raise_field (by decide) (by decide) (by decide) (by decide), get_raise (by decide), raise_sameRing.frozenBy]
      exact ⟨hfrozen, hport, hat, rfl, ht.wrote_driven (wrote_of_recorder waymStatus_recorder raise_wrote)⟩

theorem thaw_answers (hr : s.privileged i = true) (hf : s.on F.WAYM_STATUS_frozen = true) (hi : s.recorder.frozenBy = some i.val) : ∃ t,
    exec (.thaw i) s = .next t ∧ (t.get F.WAYM_STATUS_frozen = 0 ∧ t.recorder.frozenBy = none) ∧
    t.get (F.WAYM_CMD_STATUS_code i) = 0 ∧ t.get (F.WAYM_CMD_STATUS_reason i) = 0 :=
  waymDone_answers (u := s.thaw 0) hp (exec_thaw.trans rfl) ((if_pos hr).trans (if_neg (by simp [hi]))) (by decide) (by decide)
    fun t ht => by
      rw [ht.get_driven (by decide), ht.recorder_driven, get_waymStatus (by simp), waymStatus_recorder]
      exact thaw_ends hf

theorem freezeTimeout_answers (hf : s.on F.WAYM_STATUS_frozen = true) : ∃ t, exec .freezeTimeout s = .next t ∧
    t.get F.WAYM_STATUS_frozen = 0 ∧ t.recorder.frozenBy = none ∧ (s.recorder.eraseHeld = false → t.wrote
    Code.RECORDER_THAWED [2, s.recorder.buffer.length, s.recorder.frozenLost]) := by
  rw [exec_freezeTimeout]
  refine run_answers_of_effect hp rfl fun t ht => ?_
  obtain ⟨hshown, hby⟩ := thaw_ends (n := 2) hf
  rw [ht.get_driven (by decide), ht.recorder_driven]
  refine ⟨hshown, hby, fun hheld => ht.wrote_driven ?_⟩
  rw [thaw_eq hf, if_neg (ne_true_of_eq_false hheld)]
  exact raise_wrote

theorem freezeTimeout_idles (hf : s.on F.WAYM_STATUS_frozen = false) : ∃ t, exec .freezeTimeout s = .next t ∧ t.recorder = s.recorder := by
  rw [exec_freezeTimeout]
  exact run_answers_of_effect (u := s) hp (if_pos (by simp [hf])) fun t ht => ht.recorder_driven

end Answers

end RecorderCommands

/-- Settles O46. -/
theorem recorderCommands : Obligations.RecorderCommands := by
  unfold Obligations.RecorderCommands
  refine ⟨fun _ _ _ hp => waymarkWrite_answers hp, fun _ hp => waymarkWrite_idles hp, fun _ hp => sectorErased_answers hp,
    fun _ hp => budgetRefill_leaves_empty hp, fun _ hp => budgetRefill_grows hp, fun _ _ hp => bucketRefill_answers hp,
    fun _ _ _ _ hp => waymarkSummary_answers hp, fun _ _ _ _ hp => waymarkSummary_held hp, fun _ _ _ hp => waymarkSummary_idles hp,
    ?_, ?_, ?_, ?_, ?_, ?_, fun _ hp => freezeTimeout_answers hp, fun _ hp => freezeTimeout_idles hp, ?_, ?_, ?_, ?_⟩
  · intro s i hp hr hf
    obtain ⟨t, ht, ⟨hfrozen, hport, hat, hby, hwrote⟩, hshown⟩ := freeze_answers hp hr hf
    exact ⟨t, ht, hfrozen, hport, hat, hby, hwrote, hshown⟩
  · intro s i hp hr hf
    obtain ⟨t, ht, ⟨hrec, hfrozen⟩, hshown⟩ := waymRefused_answers (i := i) (code := Code.WAYM_BAD_COMMAND) (reason := 2) hp
      (exec_freeze.trans rfl) ((if_pos hr).trans (if_pos hf)) (by decide) (by decide)
    exact ⟨t, ht, hrec, hfrozen.trans (frozen_eq_one hf), hshown⟩
  · intro s i hp hr
    obtain ⟨t, ht, ⟨hfrozen, hby, hwrote⟩, hshown⟩ := waymRole_answers (i := i) hp (exec_freeze.trans rfl) (if_neg (by simp [hr]))
    exact ⟨t, ht, hfrozen, hby, hwrote, hshown⟩
  · intro s i hp hr
    obtain ⟨t, ht, ⟨hfrozen, hby, hwrote⟩, hshown⟩ := waymRole_answers (i := i) hp (exec_thaw.trans rfl) (if_neg (by simp [hr]))
    exact ⟨t, ht, hfrozen, hby, hwrote, hshown⟩
  · intro s i hp hr hf hi
    obtain ⟨t, ht, ⟨hfrozen, hby⟩, hshown⟩ := thaw_answers hp hr hf hi
    exact ⟨t, ht, hfrozen, hby, hshown⟩
  · intro s i hp hr hf hi
    obtain ⟨t, ht, ⟨hrec, hfrozen⟩, hshown⟩ := waymRefused_answers (i := i) (code := Code.WAYM_ROLE) (reason := 1) hp
      (exec_thaw.trans rfl) ((if_pos hr).trans (if_pos (by simp [hf, hi]))) (by decide) (by decide)
    exact ⟨t, ht, hfrozen.trans (frozen_eq_one hf), hrec, hshown⟩
  · intro s i e hp he htorn
    exact waymRead_shows hp (by decide) ((ringRecord_found he).trans (if_neg (by simpa using htorn)))
  · intro s i e hp he htorn
    exact waymRead_shows hp (by decide) ((ringRecord_found he).trans (if_pos (by simpa using htorn)))
  · intro s i hp he hq
    obtain ⟨t, ht, hw, -⟩ := waymRead_shows hp (by decide) ((ringRecord_missing he).trans (if_pos hq))
    exact ⟨t, ht, hw⟩
  · intro s i hp he hq
    obtain ⟨t, ht, hw, -⟩ := waymRead_shows hp (by decide) ((ringRecord_missing he).trans (if_neg (Nat.not_lt.2 hq)))
    exact ⟨t, ht, hw⟩

end Sys2Proof.Machine
end

section
/-! PROOFS. The two sides to the neighbouring modules: HELLO, its retry, and going down (R339, R340). -/

namespace Sys2Proof.Machine

open Sys2Proof

section PeerSides

variable {s t u : State} {k : Fin 2} {e : PeerHead} {h : Hello} {j n reason : Nat} {g : Field} {x : PeerSide} {q : Option Nat} {m : PeerMsg}

theorem exec_hello : exec (.hello k e h) s = execHello k e h s := rfl
theorem exec_peerHelloRetry : exec (.peerHelloRetry k) s = execPeerHelloRetry k s := rfl
theorem exec_peerDown : exec (.peerDown k) s = execPeerDown k s := rfl

theorem State.Same.peer_driven (h : t.Same u.driveOutputs) : t.peer = u.peer := h.peer.trans driveOutputs_peer

/-! ### The record of a side -/

theorem side_of_sides (h : t.peer.sides = s.peer.sides) : t.side j = s.side j := by
  unfold State.side
  rw [h]

theorem sideUp_of_get (h : t.get (sideUpField j) = s.get (sideUpField j)) : t.sideUp j = s.sideUp j := by
  unfold State.sideUp State.on
  rw [h]

theorem State.Same.sideUp_driven (h : t.Same u.driveOutputs) : t.sideUp j = u.sideUp j :=
  sideUp_of_get (h.get_driven (by rw [sideUpField_kind]; decide))

theorem State.Same.side_driven (h : t.Same u.driveOutputs) : t.side j = u.side j := side_of_sides (congrArg PeerSt.sides h.peer_driven)

theorem setSide_side : (s.setSide j x).side j = x := by
  rw [State.setSide, State.side, tget_tset_self]

theorem set_side {v : Nat} : (s.set g v).side j = s.side j := side_of_sides (by rw [set_peer])

theorem raise_side {c : Nat} {ps : List Nat} : (s.raise c ps).side j = s.side j := side_of_sides (by rw [raise_peer])

theorem setSide_out : (s.setSide j x).peer.out = s.peer.out := rfl

theorem sideUpField_width : (sideUpField j).lo + (sideUpField j).width ≤ 32 := by
  unfold sideUpField
  split <;> decide

theorem sideUp_set (v : Nat) : (s.set (sideUpField j) v).sideUp j = (v % 2 != 0) := by
  have hw : (sideUpField j).width = 1 := by unfold sideUpField; split <;> rfl
  rw [State.sideUp, State.on, State.get_set sideUpField_width, hw, pow_one]

/-- What a set of another register leaves of a side. -/
theorem sideUp_set_kind {v : Nat} (hg : regKind g.key ≠ 264) : (s.set g v).sideUp j = s.sideUp j :=
  sideUp_of_get (State.get_set_kind (by rw [sideUpField_kind]; exact hg.symm))

theorem raise_sideUp {c : Nat} {ps : List Nat} : (s.raise c ps).sideUp j = s.sideUp j :=
  sideUp_of_get (get_raise (by rw [sideUpField_kind]; decide))

/-- The state of a side shown. -/
theorem sideState_set {v : Nat} (hv : v < 16) : (s.set (F.PEER_SIDE_state j) v).get (F.PEER_SIDE_state j) = v := by
  rw [State.get_set (by simp [F.PEER_SIDE_state])]
  exact Nat.mod_eq_of_lt hv

/-! ### The refusal of a packet -/

/-- A packet refused with NAK. -/
def State.nak (s : State) (k reason : Nat) : State :=
  ((s.peerViolation k reason).inc (F.PEER_RESEND_naks k)).peerOut k none (.nak (s.side k).rxNext)

theorem nak_peer : (s.nak j reason).peer = { s.peer with out := s.peer.out ++ [(j, none, none, .nak (s.side j).rxNext)] } := by
  unfold State.nak State.peerViolation State.peerOut
  rw [State.inc_def, set_peer, raise_peer]
  rfl

theorem nak_count : (s.nak j reason).get (F.PEER_RESEND_naks j) = min (s.get (F.PEER_RESEND_naks j) + 1) 65535 := by
  unfold State.nak State.peerViolation
  rw [show ∀ v : State, (v.peerOut j none (.nak (s.side j).rxNext)).get (F.PEER_RESEND_naks j) = v.get (F.PEER_RESEND_naks j) from fun _ => rfl,
    get_inc (by simp [F.PEER_RESEND_naks]), get_raise (by simp; decide)]
  rfl

theorem nak_wrote : (s.nak j reason).wrote Code.PEER_VIOLATION [j, reason] :=
  wrote_of_recorder (s := s.raise Code.PEER_VIOLATION [j, reason]) (by
    unfold State.nak State.peerViolation State.peerOut
    rw [State.inc_def, set_recorder]) raise_wrote

/-- A command that answers NAK. -/
theorem nak_nakked (ht : t.Same (s.nak j reason).driveOutputs) : s.nakked t j reason := by
  unfold State.nakked
  rw [ht.side_driven, ht.peer_driven, ht.get_driven (by simp; decide), nak_count, nak_peer]
  exact ⟨side_of_sides (by rw [nak_peer]), rfl, rfl, ht.wrote_driven nak_wrote⟩

/-! ### HELLO -/

/-- The state after the HELLO of a lane is recorded and answered. -/
def State.helloTaken (s : State) (k : Nat) (lane : Fin 2) (h : Hello) : State :=
  (s.setSide k ((s.side k).takeHello lane h)).sendHello k lane

theorem helloTaken_out {l : Fin 2} : (s.helloTaken j l h).peer.out = s.peer.out ++ [(j, some l.val, none, .hello s.ownHello)] := rfl

theorem helloTaken_side {l : Fin 2} : (s.helloTaken j l h).side j = (s.side j).takeHello l h :=
  (side_of_sides (j := j) (s := s.setSide j ((s.side j).takeHello l h)) (t := s.helloTaken j l h) rfl).trans setSide_side

theorem takeHello_lanes {l : Fin 2} : (x.takeHello l h).lanes =
    if x.helloRun l h < 3 ∨ x.lanes.testBit l then x.lanes else x.lanes + 2 ^ l.val := by
  unfold PeerSide.takeHello
  simp only [Bool.or_eq_true, decide_eq_true_eq]

/-- The registers of a side that has come up. -/
def State.cameUp (s : State) (k : Nat) (h : Hello) : State :=
  (((s.setSide k { side0 with lanes := 3, granted := Config.peerBuffers.toNat, digests := h.digests }).set (sideUpField k) 1).set
    (F.PEER_SIDE_state k) laneUP).set (F.PEER_SIDE_node k) h.node.toNat

/-- A side that has come up, as it writes and grants its buffers. -/
def State.granting (s : State) (k : Nat) (h : Hello) : State :=
  ((s.cameUp k h).raise Code.PEER_UP [k, h.node.toNat]).peerOut k none (.credit Config.peerBuffers.toNat)

theorem sideComesUp_eq : s.sideComesUp j h = (s.granting j h).checkBooted := rfl

theorem cameUp_side : (s.cameUp j h).side j = { side0 with lanes := 3, granted := Config.peerBuffers.toNat, digests := h.digests } := by
  unfold State.cameUp
  rw [set_side, set_side, set_side, setSide_side]

theorem cameUp_out : (s.cameUp j h).peer.out = s.peer.out := by
  unfold State.cameUp
  rw [set_peer, set_peer, set_peer]
  rfl

theorem cameUp_shown : (s.cameUp j h).sideUp j = true ∧ (s.cameUp j h).get (F.PEER_SIDE_state j) = laneUP ∧
    (s.cameUp j h).get (F.PEER_SIDE_node j) = h.node.toNat := by
  unfold State.cameUp
  refine ⟨?_, ?_, ?_⟩
  · rw [sideUp_set_kind (by simp), sideUp_set_kind (by simp), sideUp_set]
    rfl
  · rw [State.get_set_field (f := F.PEER_SIDE_state j) (g := F.PEER_SIDE_node j) rfl (by simp [F.PEER_SIDE_state, F.PEER_SIDE_node])
      (by simp [F.PEER_SIDE_state]), sideState_set (by decide)]
  · rw [State.get_set (by simp [F.PEER_SIDE_node])]
    exact Nat.mod_eq_of_lt h.node.isLt

/-- What the end of link training leaves of a side. -/
theorem checkBooted_peer : s.checkBooted.peer = s.peer := (State.checkBooted_frame (Within.refl _) (.refl _ s)).peer rfl

theorem checkBooted_idle (hb : s.get F.KEEP_STATUS_boot_phase ≠ phaseTRAINING) : s.checkBooted = s := by
  unfold State.checkBooted
  rw [if_neg (by simp [hb])]

theorem bootTrainFail_idle {kind : Nat} (hb : s.get F.KEEP_STATUS_boot_phase ≠ phaseTRAINING) : s.bootTrainFail kind n = s := by
  unfold State.bootTrainFail
  rw [if_neg (by simp [hb])]

theorem granting_peer : (s.granting j h).peer = { (s.cameUp j h).peer with
    out := (s.cameUp j h).peer.out ++ [(j, none, none, .credit Config.peerBuffers.toNat)] } := by
  unfold State.granting State.peerOut
  rw [raise_peer]
  rfl

theorem get_granting (hg : State.raise_mask.testBit (regKind g.key) = false) : (s.granting j h).get g = (s.cameUp j h).get g :=
  get_raise (s := s.cameUp j h) hg

theorem granting_wrote : (s.granting j h).wrote Code.PEER_UP [j, h.node.toNat] :=
  wrote_of_recorder (s := (s.cameUp j h).raise Code.PEER_UP [j, h.node.toNat]) rfl raise_wrote

theorem get_cameUp (hu : regKind g.key ≠ 264) (hs : regKind g.key ≠ 265) : (s.cameUp j h).get g = s.get g := by
  unfold State.cameUp
  rw [State.get_set_kind (by simpa using hs), State.get_set_kind (by simpa using hs),
    State.get_set_kind (by rw [sideUpField_kind]; exact hu)]
  rfl

/-! ### A side goes down -/

/-- The registers of a side that has gone down. -/
def State.wentDown (s : State) (k v : Nat) : State :=
  ((s.setSide k side0).set (sideUpField k) 0).set (F.PEER_SIDE_state k) v

theorem wentDown_side {v : Nat} : (s.wentDown j v).side j = side0 := by
  unfold State.wentDown
  rw [set_side, set_side, setSide_side]

theorem wentDown_out {v : Nat} : (s.wentDown j v).peer.out = s.peer.out := by
  unfold State.wentDown
  rw [set_peer, set_peer]
  rfl

theorem wentDown_shown {v : Nat} (hv : v < 16) : (s.wentDown j v).sideUp j = false ∧ (s.wentDown j v).get (F.PEER_SIDE_state j) = v := by
  unfold State.wentDown
  rw [sideUp_set_kind (by simp), sideUp_set, sideState_set hv]
  exact ⟨rfl, rfl⟩

theorem sideGoesDown_up {v : Nat} (hu : s.sideUp j = true) :
    s.sideGoesDown j v = (s.wentDown j v).raise Code.PEER_DOWN [j, (s.side j).resend.length + (s.side j).waiting.length] := by
  unfold State.sideGoesDown
  rw [if_pos hu]
  rfl

/-- A side that goes down, with what it writes where it was UP. -/
theorem sideGoesDown_peer {v : Nat} : (s.sideGoesDown j v).peer = (s.wentDown j v).peer := by
  by_cases hu : s.sideUp j = true
  · rw [sideGoesDown_up hu, raise_peer]
  · unfold State.sideGoesDown
    rw [if_neg hu]
    rfl

theorem get_sideGoesDown {v : Nat} (hg : State.raise_mask.testBit (regKind g.key) = false) :
    (s.sideGoesDown j v).get g = (s.wentDown j v).get g := by
  by_cases hu : s.sideUp j = true
  · rw [sideGoesDown_up hu, get_raise hg]
  · unfold State.sideGoesDown
    rw [if_neg hu]
    rfl

/-- The answer to a HELLO that breaks the peer table. -/
def State.helloBroken (s : State) (k : Nat) (lane : Fin 2) : State :=
  ((s.sideGoesDown k laneFAILED).peerViolation k 1).sendHello k lane

theorem ownHello_of_cfg (hc : t.cfg = s.cfg) : t.ownHello = s.ownHello := by
  have hcompat : t.compat = s.compat := by funext p; unfold State.compat; rw [hc]
  unfold State.ownHello
  rw [hc, hcompat]

theorem helloBroken_peer {l : Fin 2} : (s.helloBroken j l).peer = { (s.wentDown j laneFAILED).peer with
    out := s.peer.out ++ [(j, some l.val, none, .hello s.ownHello)] } := by
  have hcfg : ((s.sideGoesDown j laneFAILED).peerViolation j 1).cfg = s.cfg :=
    ((State.raise_frame (Within.refl _) (.refl _ _)).cfg rfl).trans
      ((State.sideGoesDown_frame (Within.refl _) (.refl _ s)).cfg rfl)
  unfold State.helloBroken State.sendHello
  rw [ownHello_of_cfg hcfg, State.peerViolation, raise_peer, sideGoesDown_peer, wentDown_out]

theorem get_helloBroken {l : Fin 2} (hg : State.raise_mask.testBit (regKind g.key) = false) :
    (s.helloBroken j l).get g = (s.wentDown j laneFAILED).get g :=
  (get_raise (s := s.sideGoesDown j laneFAILED) hg).trans (get_sideGoesDown hg)

section Answers
variable (hp : s.powered = true)
include hp

section Hears
variable (hl : s.peerLane k e.lane = true) (hb : e.bridgeFull = false)
include hl hb

omit hp in
theorem execHello_bad (hs : e.sound k = false) : ∃ f, exec (.hello k e h) s = s.run f ∧ f s = s.nak k 2 := by
  refine ⟨_, exec_hello, ?_⟩
  simp only [hl, hb, hs, Bool.not_true, Bool.not_false, Bool.false_eq_true, if_false, if_true]
  rfl

omit hp in
theorem execHello_broken (hs : e.sound k = true) (hg : ¬ s.goodHello k h) :
    ∃ f, exec (.hello k e h) s = s.run f ∧ f s = (s.helloBroken k e.lane).bootTrainFail linkPEER k := by
  refine ⟨_, exec_hello, ?_⟩
  have hbad : ((s.peerCfg k).expected && h.node.toNat == (s.peerCfg k).node && h.node.toNat != s.cfg.structureSec.nodeId &&
      (h.position.toNat : Int) == s.neighbourPosition k) = false := by
    rw [Bool.eq_false_iff]
    intro ht
    simp only [Bool.and_eq_true, beq_iff_eq, bne_iff_ne] at ht
    obtain ⟨⟨⟨hexp, hnode⟩, hown⟩, hpos⟩ := ht
    exact hg ⟨hexp, hnode, hown, hpos⟩
  simp only [hl, hb, hs, hbad, Bool.not_true, Bool.not_false, Bool.false_eq_true, if_false, if_true]
  rfl

omit hp in
/-- A good HELLO to a side that is down. -/
theorem execHello_good (hs : e.sound k = true) (hg : s.goodHello k h) (hd : s.sideUp k = false) :
    ∃ f, exec (.hello k e h) s = s.run f ∧ f s = if ((s.side k).takeHello e.lane h).lanes = 3 then
      (s.helloTaken k e.lane h).sideComesUp k h else (s.helloTaken k e.lane h).set (F.PEER_SIDE_state k) laneEXCHANGE := by
  refine ⟨_, exec_hello, ?_⟩
  obtain ⟨hexp, hnode, hown, hpos⟩ := hg
  have hgood : ((s.peerCfg k).expected && h.node.toNat == (s.peerCfg k).node && h.node.toNat != s.cfg.structureSec.nodeId &&
      (h.position.toNat : Int) == s.neighbourPosition k) = true := by
    simp only [Bool.and_eq_true, beq_iff_eq, bne_iff_ne]
    exact ⟨⟨⟨hexp, hnode⟩, hown⟩, hpos⟩
  simp only [hl, hb, hs, hgood, hd, Bool.not_true, Bool.false_eq_true, if_false, beq_iff_eq]
  rfl

theorem hello_nakked (hs : e.sound k = false) : ∃ t, exec (.hello k e h) s = .next t ∧ s.nakked t k 2 := by
  obtain ⟨f, hexec, heff⟩ := execHello_bad (h := h) hl hb hs
  rw [hexec]
  exact run_answers_of_effect hp heff fun t ht => nak_nakked ht

/-- A HELLO that breaks the peer table. -/
theorem hello_fails (hs : e.sound k = true) (hg : ¬ s.goodHello k h) : ∃ t, exec (.hello k e h) s = .next t ∧
    t.sideUp k = false ∧ t.get (F.PEER_SIDE_state k) = laneFAILED ∧ t.side k = side0 ∧
    t.peer.out = s.peer.out ++ [(k.val, some e.lane.val, none, .hello s.ownHello)] ∧
    (s.get F.KEEP_STATUS_boot_phase ≠ phaseTRAINING → t.wrote Code.PEER_VIOLATION [k, 1]) := by
  obtain ⟨f, hexec, heff⟩ := execHello_broken hl hb hs hg
  rw [hexec]
  refine run_answers_of_effect hp heff fun t ht => ?_
  obtain ⟨hdown, hstate⟩ := wentDown_shown (s := s) (j := k) (v := laneFAILED) (by decide)
  have hframe := State.bootTrainFail_frame (Within.refl _) (.refl _ (s.helloBroken k e.lane)) (kind := linkPEER) (n := k.val)
  have hpeer := (hframe.peer rfl).trans helloBroken_peer
  have hside : ((s.helloBroken k e.lane).bootTrainFail linkPEER k).side k = (s.wentDown k laneFAILED).side k :=
    side_of_sides (by rw [hpeer])
  have hget (g : Field) (h1 : State.bootTrainFail_mask.testBit (regKind g.key) = false)
      (h2 : State.raise_mask.testBit (regKind g.key) = false) := (hframe.get g h1).trans (get_helloBroken (l := e.lane) h2)
  rw [ht.sideUp_driven, ht.side_driven, ht.peer_driven, ht.get_driven (by simp; decide),
    sideUp_of_get (hget _ (by rw [sideUpField_kind]; decide) (by rw [sideUpField_kind]; decide)), hget _ (by simp; decide) (by simp; decide),
    hdown, hstate, hpeer, hside, wentDown_side]
  refine ⟨rfl, rfl, rfl, rfl, fun hboot => ht.wrote_driven ?_⟩
  rw [bootTrainFail_idle]
  · exact wrote_of_recorder (s := (s.sideGoesDown k laneFAILED).raise _ _) rfl raise_wrote
  · rw [get_helloBroken (by decide), State.wentDown, State.get_set_kind (by simp), State.get_set_kind (by rw [sideUpField_kind]; decide)]
    exact hboot

section Good
variable (hs : e.sound k = true) (hg : s.goodHello k h) (hd : s.sideUp k = false)
include hs hg hd

/-- A HELLO that does not complete both lanes. -/
theorem hello_exchanges (hx : ((s.side k).takeHello e.lane h).lanes ≠ 3) : ∃ t, exec (.hello k e h) s = .next t ∧
    t.sideUp k = false ∧ t.get (F.PEER_SIDE_state k) = laneEXCHANGE ∧ t.side k = (s.side k).takeHello e.lane h ∧
    t.peer.out = s.peer.out ++ [(k.val, some e.lane.val, none, .hello s.ownHello)] := by
  obtain ⟨f, hexec, heff⟩ := execHello_good hl hb hs hg hd
  rw [hexec]
  refine run_answers_of_effect hp (heff.trans (if_neg hx)) fun t ht => ?_
  rw [ht.sideUp_driven, ht.side_driven, ht.peer_driven, ht.get_driven (by simp; decide), sideUp_set_kind (by simp),
    sideState_set (by decide), set_peer, set_side, helloTaken_side]
  exact ⟨hd, rfl, rfl, helloTaken_out⟩

/-- The HELLO that completes both lanes. -/
theorem hello_up (hx : ((s.side k).takeHello e.lane h).lanes = 3) : ∃ t, exec (.hello k e h) s =
    .next t ∧ t.sideUp k = true ∧ t.get (F.PEER_SIDE_state k) = laneUP ∧ t.get (F.PEER_SIDE_node k) =
    h.node.toNat ∧ t.side k =
    { side0 with lanes := 3, granted := Config.peerBuffers.toNat, digests := h.digests } ∧ t.peer.out =
    s.peer.out ++ [(k.val, some e.lane.val, none, .hello s.ownHello), (k.val, none, none, .credit Config.peerBuffers.toNat)] ∧ (s.get
    F.KEEP_STATUS_boot_phase ≠ phaseTRAINING → t.wrote Code.PEER_UP [k, h.node.toNat]) := by
  obtain ⟨f, hexec, heff⟩ := execHello_good hl hb hs hg hd
  rw [hexec]
  refine run_answers_of_effect hp ((heff.trans (if_pos hx)).trans sideComesUp_eq) fun t ht => ?_
  have hframe := State.checkBooted_frame (Within.refl _) (.refl _ ((s.helloTaken k e.lane h).granting k h))
  have hside : ((s.helloTaken k e.lane h).granting k h).checkBooted.side k = ((s.helloTaken k e.lane h).cameUp k h).side k :=
    side_of_sides (by rw [checkBooted_peer, granting_peer])
  obtain ⟨hup, hstate, hnode⟩ := cameUp_shown (s := s.helloTaken k e.lane h) (j := k) (h := h)
  rw [ht.sideUp_driven, ht.side_driven, ht.peer_driven, ht.get_driven (by simp; decide), ht.get_driven (by simp; decide),
    hside, checkBooted_peer, granting_peer,
    sideUp_of_get (hframe.get _ (by rw [sideUpField_kind]; decide)), hframe.get _ (by simp; decide), hframe.get _ (by simp; decide),
    sideUp_of_get (get_granting (by rw [sideUpField_kind]; decide)), get_granting (by simp; decide), get_granting (by simp; decide),
    hup, hstate, hnode, cameUp_out, helloTaken_out, List.append_assoc]
  refine ⟨rfl, rfl, rfl, cameUp_side, rfl, fun hboot => ht.wrote_driven ?_⟩
  rw [checkBooted_idle]
  · exact granting_wrote
  · rw [get_granting (by decide), get_cameUp (by decide) (by decide)]
    exact hboot

end Good

end Hears

theorem hello_off (hl : s.peerLane k e.lane = false) : ∃ t, exec (.hello k e h) s = .next t ∧ t.peer = s.peer ∧ t.sideUp k = s.sideUp k := by
  rw [exec_hello]
  exact run_answers_of_effect (u := s) hp (if_pos (by simp [hl])) fun t ht => ⟨ht.peer_driven, ht.sideUp_driven⟩

theorem peerHelloRetry_answers (hf : s.get (F.PEER_SIDE_state k) = laneFAILED) : ∃ t, exec (.peerHelloRetry k) s = .next t ∧
    t.get (F.PEER_SIDE_state k) = laneEXCHANGE ∧ t.peer.out = s.peer.out ++
    [(k.val, some 0, none, .hello s.ownHello), (k.val, some 1, none, .hello s.ownHello)] := by
  rw [exec_peerHelloRetry]
  refine run_answers_of_effect (u := ((s.set (F.PEER_SIDE_state k) laneEXCHANGE).sendHello k 0).sendHello k 1) hp (if_pos (by simp [hf]))
    fun t ht => ?_
  rw [ht.get_driven (by simp; decide), ht.peer_driven]
  exact ⟨sideState_set (by decide), List.append_assoc _ _ _⟩

theorem peerHelloRetry_idles (hf : s.get (F.PEER_SIDE_state k) ≠ laneFAILED) : ∃ t, exec (.peerHelloRetry k) s = .next t ∧
    t.peer = s.peer ∧ t.get (F.PEER_SIDE_state k) = s.get (F.PEER_SIDE_state k) := by
  rw [exec_peerHelloRetry]
  exact run_answers_of_effect (u := s) hp (if_neg (by simpa using hf)) fun t ht => ⟨ht.peer_driven, ht.get_driven (by simp; decide)⟩

theorem peerDown_answers (hu : s.sideUp k = true) : ∃ t, exec (.peerDown k) s = .next t ∧ t.sideUp
    k = false ∧ t.get (F.PEER_SIDE_state k) = laneREFWAIT ∧ t.side k = side0 ∧ t.wrote Code.PEER_DOWN [k,
    (s.side k).resend.length + (s.side k).waiting.length] := by
  rw [exec_peerDown]
  refine run_answers_of_effect hp ((if_pos hu).trans (sideGoesDown_up hu)) fun t ht => ?_
  obtain ⟨hdown, hstate⟩ := wentDown_shown (s := s) (j := k) (v := laneREFWAIT) (by decide)
  rw [ht.sideUp_driven, ht.side_driven, ht.get_driven (by simp; decide), raise_sideUp, get_raise (by simp; decide), hdown, hstate,
    raise_side, wentDown_side]
  exact ⟨rfl, rfl, rfl, ht.wrote_driven raise_wrote⟩

theorem peerDown_idles (hu : s.sideUp k = false) : ∃ t, exec (.peerDown k) s = .next t ∧ t.peer
    = s.peer ∧ t.get (F.PEER_SIDE_state k) = s.get (F.PEER_SIDE_state k) := by
  rw [exec_peerDown]
  exact run_answers_of_effect (u := s) hp (if_neg (by simp [hu])) fun t ht => ⟨ht.peer_driven, ht.get_driven (by simp; decide)⟩

end Answers

end PeerSides

/-- Settles O35. -/
theorem peerSides : Obligations.PeerSides := by
  unfold Obligations.PeerSides
  refine ⟨?_, ?_, ?_, fun _ _ _ _ hp => hello_fails hp, fun _ _ _ _ hp => hello_nakked hp, fun _ _ _ _ hp => hello_off hp,
    fun _ _ hp => peerHelloRetry_answers hp, fun _ _ hp => peerHelloRetry_idles hp, fun _ _ hp => peerDown_answers hp,
    fun _ _ hp => peerDown_idles hp⟩
  · intro s k e h hp hl hb hs hg hd hbit hsum hrun
    exact hello_up hp hl hb hs hg hd (by rw [takeHello_lanes, if_neg (by simp [hrun, hbit]), hsum])
  · intro s k e h hp hl hb hs hg hd h0 hrun
    have hlanes : ((s.side k).takeHello e.lane h).lanes = 2 ^ e.lane.val := by
      rw [takeHello_lanes, if_neg (by simp [hrun, h0]), h0, Nat.zero_add]
    have hne : ∀ l : Fin 2, 2 ^ l.val ≠ 3 := by decide
    obtain ⟨t, ht, hdown, hstate, hside, hout⟩ := hello_exchanges hp hl hb hs hg hd (hlanes ▸ hne e.lane)
    refine ⟨t, ht, hdown, hstate, ?_, hout⟩
    rw [hside, ← hlanes, PeerSide.takeHello, hrun]
  · intro s k e h n hp hl hb hs hg hd h3 hn hlt
    have hlanes : ((s.side k).takeHello e.lane h).lanes = (s.side k).lanes := by
      rw [takeHello_lanes, if_pos (.inl (hn ▸ hlt))]
    obtain ⟨t, ht, hdown, hstate, hside, hout⟩ := hello_exchanges hp hl hb hs hg hd (by rwa [hlanes])
    refine ⟨t, ht, hdown, hstate, ?_, hout⟩
    rw [hside, PeerSide.takeHello, ← hn]
    simp [hlt]

end Sys2Proof.Machine
end

section
/-! PROOFS. The mailboxes and the HBM window of the host ports (R357, R358). -/

namespace Sys2Proof.Machine

open Sys2Proof

section HostWindows

variable {s t u : State} {i : Port} {p : Part} {n v : Word} {o : BitVec 32} {a b k : Nat} {bs : List Byte} {r : Reply}

theorem exec_hostMboxPost : exec (.hostMboxPost i p n) s = execHostMboxPost i p n s := rfl
theorem exec_bar4Access {w : Option Word} : exec (.bar4Access i o w) s = execBar4Access i o w s := rfl

/-! ### Bytes of memory -/

theorem byte_of_mem (h : t.mem = s.mem) : t.byte a = s.byte a := by
  unfold State.byte
  rw [h]

/-- The bytes read where bytes were put. -/
theorem bytes_putBytes : (s.putBytes a bs).bytes a bs.length = bs := by
  refine List.ext_getElem (by simp [State.bytes]) fun k hk hk' => ?_
  simp only [State.bytes, List.getElem_map, List.getElem_range]
  exact memByte_memPutAll_in _ _ _ _ hk'

theorem byte_putBytes_out (h : b < a ∨ a + bs.length ≤ b) : (s.putBytes a bs).byte b = s.byte b :=
  memByte_memPutAll_out _ _ _ _ h

theorem bytes_length : (s.bytes a k).length = k := by simp [State.bytes]

/-! ### Answers -/

/-- What the answer to a port is. -/
theorem reply_answers (ht : t.Same (u.reply i r).driveOutputs) : tget .none t.replies i.val = r := by
  rw [ht.replies.trans driveOutputs_replies, State.reply, tget_tset_self]

theorem hostRole_host : (s.hostRole i k).host = s.host := raise_host
theorem hostRole_mem : (s.hostRole i k).mem = s.mem := raise_mem

/-- The in-mailbox of a partition copied into staging. -/
def State.mailStaged (s : State) (p : Nat) : State := s.putBytes (mailStaging p) (s.bytes (inMailbox p) 4096)

/-- A post that waits for its boundary in place of an earlier one. -/
def State.mailPosted (s : State) (p n : Nat) : State :=
  { s with host := { s.host with
      posted := s.host.posted.filter (fun e => e.1 != p) ++ [(p, n, s.route.buildFor + 1)] } }

theorem mailPosted_mem : (s.mailPosted a b).mem = s.mem := rfl

theorem mailStaged_bytes : (s.mailStaged a).bytes (mailStaging a) 4096 = s.bytes (inMailbox a) 4096 := by
  have h := bytes_putBytes (s := s) (a := mailStaging a) (bs := s.bytes (inMailbox a) 4096)
  rwa [bytes_length] at h

theorem mailStaged_byte (h : b < mailStaging a ∨ mailStaging a + 4096 ≤ b) : (s.mailStaged a).byte b = s.byte b :=
  byte_putBytes_out (by rwa [bytes_length])

section Answers
variable (hp : s.powered = true)
include hp

/-- A post stands in the staging area and waits for its boundary. -/
theorem hostMboxPost_answers (hw : s.mayWritePart i p = true) : ∃ t, exec
    (.hostMboxPost i p n) s = .next t ∧ t.bytes (mailStaging p) 4096 = s.bytes (inMailbox p) 4096 ∧ (p.val,
    n.toNat, s.route.buildFor + 1) ∈ t.host.posted ∧ (∀ e ∈ t.host.posted, e.1 = p.val → e = (p.val, n.toNat,
    s.route.buildFor + 1)) ∧ ∀ a, a < mailStaging p ∨ mailStaging p + 4096 ≤ a → t.byte a = s.byte a := by
  rw [exec_hostMboxPost]
  refine run_answers_of_effect (u := (s.mailStaged p).mailPosted p n.toNat) hp (if_neg (by simp [hw])) fun t ht => ?_
  have hmem := ht.mem_driven.trans mailPosted_mem
  rw [bytes_of_mem hmem, ht.host_driven]
  refine ⟨mailStaged_bytes, List.mem_append_right _ List.mem_cons_self, fun e he hpart => ?_, fun b hb => ?_⟩
  · rcases List.mem_append.1 he with hold | hnew
    · have hne := (List.mem_filter.1 hold).2
      simp [hpart] at hne
    · exact List.mem_singleton.1 hnew
  · rw [byte_of_mem hmem]
    exact mailStaged_byte hb

theorem hostMboxPost_refused (hw : s.mayWritePart i p = false) : ∃ t, exec
    (.hostMboxPost i p n) s = .next t ∧ t.host = s.host ∧ t.mem = s.mem ∧ t.wrote Code.HOST_ROLE [i, 0x600 + 4 * p.val] := by
  rw [exec_hostMboxPost]
  refine run_answers_of_effect hp (if_pos (by simp [hw])) fun t ht => ?_
  exact ⟨ht.host_driven.trans hostRole_host, ht.mem_driven.trans hostRole_mem, ht.wrote_driven raise_wrote⟩

/-- An access that writes a waymark and answers. -/
theorem refusal_answers {c : Instr} {e : State → State} {code j : Nat} {ps : List Nat} (hc : exec c s = s.run e)
    (he : e s = ((s.raise code ps).fire j 0).reply i r) :
    ∃ t, exec c s = .next t ∧ tget .none t.replies i.val = r ∧ t.wrote code ps ∧ t.mem = s.mem := by
  rw [hc]
  refine run_answers_of_effect hp he fun t ht => ⟨reply_answers ht, ht.wrote_driven ?_, ?_⟩
  · exact wrote_of_recorder (s := s.raise code ps) (by rw [reply_recorder, fire_recorder]) raise_wrote
  · rw [ht.mem_driven, reply_mem, fire_mem, raise_mem]

section Window
variable {q : Nat} (hq : q = s.get (F.HOST_BAR4_WIN_partition i)) (ha : a = 65536 * s.get (F.HOST_BAR4_WIN_page i) + o.toNat)
include hq ha

/-- A read within the window. -/
theorem bar4Read_answers (he : s.on (F.HOST_BAR4_WIN_enable i) = true) (hr : a + 4 ≤ 65536 * s.reach q)
    (hm : s.mayReadPart i q = true) : ∃ t, exec (.bar4Access i o none) s = .next t ∧ tget
    .none t.replies i.val = .data (BitVec.ofNat 32 (s.rd (s.partAddr q a) 4)) ∧ t.mem = s.mem := by
  subst hq ha
  rw [exec_bar4Access]
  refine run_answers_of_effect hp (if_pos (by simp [he, hr, hm])) fun t ht => ⟨reply_answers ht, ?_⟩
  rw [ht.mem_driven, reply_mem]
  rfl

/-- A read that the window does not answer. -/
theorem bar4Read_unsupported (h : s.on (F.HOST_BAR4_WIN_enable i) = false ∨ 65536 * s.reach q < a + 4 ∨ s.mayReadPart i q = false) :
    ∃ t, exec (.bar4Access i o none) s = .next t ∧ tget
    .none t.replies i.val = .unsupported ∧ t.wrote Code.HOST_UR [i, 4, o.toNat] ∧ t.mem = s.mem := by
  subst hq ha
  refine refusal_answers hp exec_bar4Access (if_neg ?_)
  rcases h with he | hr | hm
  · simp [he]
  · simp [Nat.not_le.2 hr]
  · simp [hm]

/-- A write within the window stores its four bytes. -/
theorem bar4Write_answers (he : s.on (F.HOST_BAR4_WIN_enable i) = true) (hr : a + 4 ≤ 65536 * s.reach q)
    (hm : s.mayWritePart i q = true) (hb : s.boundPage q a 4 = none) : ∃ t, exec (.bar4Access i o (some v)) s = .next t ∧
    t.rd (s.partAddr q a) 4 = v.toNat ∧ ∀ b, b < s.partAddr q a ∨ s.partAddr q a + 4 ≤ b → t.byte b = s.byte b := by
  subst hq ha
  rw [exec_bar4Access]
  refine run_answers_of_effect hp ((if_neg (by simp [he, hr, hm])).trans (by rw [hb])) fun t ht => ?_
  have hmem := ht.mem_driven.trans store_mem
  refine ⟨?_, fun b hout => ?_⟩
  · rw [rd_of_mem hmem]
    exact (rd_wr (s := s.bwInAdd i 4) _ 4 v.toNat).trans (Nat.mod_eq_of_lt v.isLt)
  · rw [byte_of_mem hmem]
    exact byte_wr_out (s := s.bwInAdd i 4) hout

/-- A write to a page bound as weights. -/
theorem bar4Write_bound {g : Nat} (he : s.on (F.HOST_BAR4_WIN_enable i) = true) (hr : a + 4 ≤ 65536 * s.reach q)
    (hm : s.mayWritePart i q = true) (hb : s.boundPage q a 4 = some g) : ∃ t, exec (.bar4Access i o (some v)) s = .next t ∧
    tget .none t.replies i.val = .dropped ∧ t.wrote Code.HOST_PAGE_BOUND [i, q, g] ∧ t.mem = s.mem := by
  subst hq ha
  exact refusal_answers hp exec_bar4Access ((if_neg (by simp [he, hr, hm])).trans (by rw [hb]))

theorem bar4Write_dropped (h : s.on (F.HOST_BAR4_WIN_enable i) = false ∨ 65536 * s.reach q < a + 4 ∨ s.mayWritePart i q = false) :
    ∃ t, exec (.bar4Access i o (some v)) s = .next t ∧ tget .none t.replies i.val = .dropped ∧ t.wrote Code.HOST_UR
    [i, 4, o.toNat] ∧ t.mem = s.mem := by
  subst hq ha
  refine refusal_answers hp exec_bar4Access (if_pos ?_)
  rcases h with he | hr | hm
  · simp [he]
  · simp [Nat.not_le.2 hr]
  · simp [hm]

end Window

end Answers

end HostWindows

/-- Settles O40. -/
theorem hostWindows : Obligations.HostWindows := by
  unfold Obligations.HostWindows
  refine ⟨fun _ _ _ _ hp => hostMboxPost_answers hp, fun _ _ _ _ hp => hostMboxPost_refused hp,
    fun _ _ _ _ _ hp => bar4Read_answers hp, fun _ _ _ _ _ hp => bar4Read_unsupported hp, fun _ _ _ _ _ _ hp => bar4Write_answers hp,
    fun s i o q a v g hp hq ha he hr hm hb => ?_, fun _ _ _ _ _ _ hp => bar4Write_dropped hp⟩
  obtain ⟨t, ht, hreply, hwrote, hmem⟩ := bar4Write_bound (v := v) hp hq ha he hr hm hb
  exact ⟨t, ht, hreply, hmem, hwrote⟩

end Sys2Proof.Machine
end

section
/-! PROOFS. The submission rings of the host ports (R354 to R356, R360): how a descriptor at the head starts its command, what completes
it, and how one that breaks Table HOST-8 is refused. -/

namespace Sys2Proof.Machine

open Sys2Proof

section HostSubmissions

variable {s t u v : State} {i : Port} {r : Fin 4} {d : List Byte} {g : Field} {f : State → Nat → State} {op tag status landing a p : Nat}

theorem exec_copyIn : exec (.copyIn i r d) s = execCopyIn i r d s := rfl
theorem exec_copyOut : exec (.copyOut i r d) s = execCopyOut i r d s := rfl
theorem exec_release : exec (.release i r d) s = execRelease i r d s := rfl
theorem exec_bindWeights : exec (.bindWeights i r d) s = execBindWeights i r d s := rfl
theorem exec_fence : exec (.fence i r d) s = execFence i r d s := rfl

/-! ### The completion ring -/

theorem hostCqLo_kind (i r : Nat) : regKind (F.HOST_CQ_LO_addr i r).key = 134 := by
  simp only [F.HOST_CQ_LO_addr, portBank]
  have e : (0x60408 + (i % 4 + 1) * 0x4000000 + 0x20 * (r % 4)) % 0x4000000 = 0x60408 + 0x20 * (r % 4) := by omega
  rw [regKind_host (by omega) (by omega), e]
  unfold kindHost
  rw [if_neg (by omega), if_neg (by omega), if_pos (by omega)]
  omega

theorem hostCqHi_kind (i r : Nat) : regKind (F.HOST_CQ_HI_addr i r).key = 135 := by
  simp only [F.HOST_CQ_HI_addr, portBank]
  have e : (0x6040c + (i % 4 + 1) * 0x4000000 + 0x20 * (r % 4)) % 0x4000000 = 0x6040c + 0x20 * (r % 4) := by omega
  rw [regKind_host (by omega) (by omega), e]
  unfold kindHost
  rw [if_neg (by omega), if_neg (by omega), if_pos (by omega)]
  omega

/-- The completion rings of `t` stand as those of `s`: what was written to the host, how many entries, and where the next one goes. -/
structure State.SameRings (s t : State) : Prop where
  writes : t.host.writes = s.host.writes
  completed : t.host.completed = s.host.completed
  place : ∀ g : Field, regKind g.key = 134 ∨ regKind g.key = 135 ∨ regKind g.key = 136 → t.get g = s.get g

theorem State.SameRings.trans (h : s.SameRings t) (k : t.SameRings u) : s.SameRings u :=
  ⟨k.writes.trans h.writes, k.completed.trans h.completed, fun g hg => (k.place g hg).trans (h.place g hg)⟩

theorem State.SameRings.refl : s.SameRings s := ⟨rfl, rfl, fun _ _ => rfl⟩

/-- A change that touches neither the hosts nor the registers of the rings. -/
theorem Frame.sameRings {W : Nat} (h : Frame W s t) (hh : W.testBit 18 = false) (h4 : W.testBit 134 = false) (h5 : W.testBit 135 = false)
    (h6 : W.testBit 136 = false) : s.SameRings t :=
  ⟨by rw [h.host hh], by rw [h.host hh], fun g hg => by
    rcases hg with e | e | e
    · exact h.get g (e ▸ h4)
    · exact h.get g (e ▸ h5)
    · exact h.get g (e ▸ h6)⟩

theorem set_sameRings {n : Nat} (hg : regKind g.key < 134 ∨ 136 < regKind g.key) : s.SameRings (s.set g n) :=
  ⟨by rw [set_host], by rw [set_host], fun f hf => State.get_set_kind (by omega)⟩

theorem raise_sameRings {c : Nat} {ps : List Nat} : s.SameRings (s.raise c ps) :=
  (State.raise_frame (Within.refl _) (.refl _ s)).sameRings (by decide) (by decide) (by decide) (by decide)

theorem fire_sameRings {n m : Nat} : s.SameRings (s.fire n m) :=
  (State.fire_frame (Within.refl _) (.refl _ s)).sameRings (by decide) (by decide) (by decide) (by decide)

theorem fire_reads {n m : Nat} : (s.fire n m).get g = s.get g := by
  unfold State.fire
  split <;> rfl

theorem State.SameRings.cqEntry (h : s.SameRings t) : t.cqEntry i r tag status op landing = s.cqEntry i r tag status op landing := by
  unfold State.cqEntry State.get64
  rw [h.completed, h.place _ (.inr (.inr (by simp))), h.place _ (.inl (hostCqLo_kind _ _)), h.place _ (.inr (.inl (hostCqHi_kind _ _)))]

/-- A completion writes its entry and counts it. -/
theorem complete_host : (s.complete i r tag status op landing).host = { s.host with
    completed := tset 0 s.host.completed (4 * i.val + r.val) (tget 0 s.host.completed (4 * i.val + r.val) + 1)
    writes := s.host.writes ++ [s.cqEntry i r tag status op landing] } := by
  unfold State.complete
  rw [fire_host]
  rfl

theorem complete_frame : Frame State.complete_mask s (s.complete i r tag status op landing) :=
  State.complete_frame (Within.refl _) (.refl _ s)

theorem get_complete : (s.complete i r tag status op landing).get g = s.get g := by
  unfold State.complete State.fire
  dsimp only
  split <;> rfl

theorem complete_recorder : (s.complete i r tag status op landing).recorder = s.recorder := complete_frame.recorder rfl
theorem complete_mem : (s.complete i r tag status op landing).mem = s.mem := complete_frame.mem rfl
theorem complete_route : (s.complete i r tag status op landing).route = s.route := complete_frame.route rfl

/-- The entry that completes what began in `s`. -/
theorem State.SameRings.complete (h : s.SameRings t) :
    (t.complete i r tag status op landing).host.writes = s.host.writes ++ [s.cqEntry i r tag status op landing] := by
  rw [complete_host, ← h.cqEntry (i := i), ← h.writes]

/-! ### The descriptor at the head -/

/-- The head of a ring moved on by one. -/
def State.headStep (s : State) (i : Port) (r : Fin 4) : State := s.set (F.HOST_SQ_HEAD_pos i r) (s.get (F.HOST_SQ_HEAD_pos i r) + 1)

theorem get_headStep (h : regKind g.key ≠ 138) : (s.headStep i r).get g = s.get g :=
  State.get_set_kind (by simpa using h)

theorem headStep_moved : s.headMoved (s.headStep i r) i r := State.get_set (by simp [F.HOST_SQ_HEAD_pos])

theorem headStep_host : (s.headStep i r).host = s.host := set_host
theorem headStep_mem : (s.headStep i r).mem = s.mem := set_mem
theorem headStep_route : (s.headStep i r).route = s.route := set_route
theorem headStep_zld : (s.headStep i r).zld = s.zld := set_zld
theorem headStep_cfg : (s.headStep i r).cfg = s.cfg := set_cfg

theorem headStep_sameRings : s.SameRings (s.headStep i r) := set_sameRings (by simp)

theorem reach_of_cfg (h : t.cfg = s.cfg) : t.reach p = s.reach p := by
  unfold State.reach State.part
  rw [h]

theorem headStep_role : (s.headStep i r).role i = s.role i := get_headStep (by simp)

/-- A page that a binding names is named whatever head a ring stands at. -/
theorem headStep_boundPage {n : Nat} : (s.headStep i r).boundPage p a n = s.boundPage p a n := by
  have hperiod : (s.headStep i r).period = s.period := by
    unfold State.period State.get64
    rw [get_headStep (by decide), get_headStep (by decide)]
  have hsets : (s.headStep i r).boundSets p = s.boundSets p := by
    unfold State.boundSets
    rw [hperiod, headStep_host]
  have hpart (m n : Nat) : (s.headStep i r).get (F.HOST_SQ_CFG_partition m n) = s.get (F.HOST_SQ_CFG_partition m n) :=
    get_headStep (by simp)
  unfold State.boundPage
  simp only [hperiod, hsets, headStep_host, hpart]

/-- A descriptor refused for the field at offset `a`. -/
def State.refuseSq (s : State) (i : Port) (r : Fin 4) (tag op a : Nat) : State :=
  (((s.set (F.HOST_SQ_STATE_error i r) Code.HOST_BAD_DESCRIPTOR).raise Code.HOST_BAD_DESCRIPTOR [i, r, a]).fire i 0).complete
    i r tag Code.HOST_BAD_DESCRIPTOR op 0

theorem refuseSq_writes (h : s.SameRings t) : (t.refuseSq i r tag op a).host.writes =
    s.host.writes ++ [s.cqEntry i r tag Code.HOST_BAD_DESCRIPTOR op 0] :=
  (((h.trans (set_sameRings (by simp))).trans raise_sameRings).trans fire_sameRings).complete

theorem refuseSq_busy : (s.refuseSq i r tag op a).host.busy = s.host.busy := by
  unfold State.refuseSq
  rw [complete_host, fire_host, raise_host, set_host]

theorem refuseSq_mem : (s.refuseSq i r tag op a).mem = s.mem := by
  unfold State.refuseSq
  rw [complete_mem, fire_mem, raise_mem, set_mem]

theorem refuseSq_route : (s.refuseSq i r tag op a).route = s.route := by
  unfold State.refuseSq
  rw [complete_route, fire_route, raise_route, set_route]

theorem get_refuseSq (hr : State.raise_mask.testBit (regKind g.key) = false) (hk : regKind g.key ≠ 139) :
    (s.refuseSq i r tag op a).get g = s.get g := by
  unfold State.refuseSq
  rw [get_complete, fire_reads, get_raise hr, State.get_set_kind (by simpa using hk)]

theorem refuseSq_error : (s.refuseSq i r tag op a).get (F.HOST_SQ_STATE_error i r) = Code.HOST_BAD_DESCRIPTOR := by
  unfold State.refuseSq
  rw [get_complete, fire_reads, get_raise (by simp; decide),
    State.get_set (by simp [F.HOST_SQ_STATE_error])]
  rfl

theorem refuseSq_wrote : (s.refuseSq i r tag op a).wrote Code.HOST_BAD_DESCRIPTOR [i, r, a] :=
  wrote_of_recorder (s := (s.set (F.HOST_SQ_STATE_error i r) Code.HOST_BAD_DESCRIPTOR).raise Code.HOST_BAD_DESCRIPTOR [i, r, a]) (by
    unfold State.refuseSq
    rw [complete_recorder, fire_recorder]) raise_wrote

theorem submit_idle (h : s.ringNext i r = false) : s.submit i r op d f = s := by
  unfold State.submit
  rw [if_pos (by simp [h])]

/-- A descriptor that breaks the table, as the commands of its op and of an unknown op find it. -/
theorem submit_bad (hn : s.ringNext i r = true) (ho : recField d 0 1 = op ∨ recField d 0 1 = 0 ∨ 5 < recField d 0 1)
    (hb : badField (s.reach (s.ringPart i r)) d = some a) :
    s.submit i r op d f = (s.headStep i r).refuseSq i r (recField d 4 4) (recField d 0 1) a := by
  have hmine : ¬ (!s.ringNext i r || (decide (1 ≤ recField d 0 1) && decide (recField d 0 1 ≤ 5) && recField d 0 1 != op)) = true := by
    rcases ho with e | e | e <;> simp [hn, e]
  unfold State.submit
  rw [if_neg hmine]
  have hreach : (s.headStep i r).reach (s.ringPart i r) = s.reach (s.ringPart i r) := reach_of_cfg headStep_cfg
  change (match badField ((s.headStep i r).reach (s.ringPart i r)) d with | some _ => _ | none => _) = _
  rw [hreach, hb]
  rfl

/-- A descriptor that keeps the table starts its command. -/
theorem submit_runs (h : s.sqReady i r op d) : s.submit i r op d f = f (s.headStep i r) (s.ringPart i r) := by
  obtain ⟨hn, ho, hb, hrole⟩ := h
  unfold State.submit
  rw [if_neg (by simp [hn, ho])]
  have hreach : (s.headStep i r).reach (s.ringPart i r) = s.reach (s.ringPart i r) := reach_of_cfg headStep_cfg
  have hmay : ¬ ((s.headStep i r).role i == roleSERVICE && recField d 0 1 != sqCOPYOUT && recField d 0 1 != sqFENCE) = true := by
    rw [headStep_role, ho]
    rcases hrole with e | e | e <;> simp [e]
  change (match badField ((s.headStep i r).reach (s.ringPart i r)) d with | some _ => _ | none => _) = _
  rw [hreach, hb]
  exact if_neg hmay

/-! ### A released iteration -/

theorem host_sameRings {x : HostSt} (hw : x.writes = s.host.writes) (hc : x.completed = s.host.completed) :
    s.SameRings { s with host := x } := ⟨hw, hc, fun _ _ => rfl⟩

theorem dropResult_sameRings {j k : Nat} : s.SameRings (s.dropResult j k) := by
  unfold State.dropResult
  dsimp only
  rw [State.inc_def]
  refine State.SameRings.trans (State.SameRings.trans (State.SameRings.trans ?_ (set_sameRings ?_)) raise_sameRings) fire_sameRings
  · exact host_sameRings rfl rfl
  · simp

theorem countPending_sameRings {j k : Nat} : s.SameRings (s.countPending j k) := set_sameRings (by simp)

theorem incWrap_sameRings (hg : regKind g.key < 134 ∨ 136 < regKind g.key) : s.SameRings (s.incWrap g) := by
  rw [State.incWrap_def]
  exact set_sameRings hg

/-- A result that takes its slot, or is dropped, writes nothing to the host yet. -/
theorem allocPort_sameRings {j k m n : Nat} : s.SameRings (s.allocPort j k m n) := by
  unfold State.allocPort
  extract_lets seq s1 n1 push full drops slot ds
  split
  · exact .refl
  · have h1 : s.SameRings s1 := incWrap_sameRings (g := F.HOST_RES_SEQ_next j k) (by simp)
    split
    · exact h1.trans dropResult_sameRings
    · refine h1.trans (State.SameRings.trans ?_ countPending_sameRings)
      exact host_sameRings rfl rfl

theorem each_sameRings {α : Type} {h : State → α → State} (hh : ∀ (s : State) (a : α), s.SameRings (h s a)) : ∀ (l : List α) (s : State),
    s.SameRings (s.each l h)
  | [], _ => .refl
  | a :: l, s => (hh s a).trans (each_sameRings hh l (h s a))

/-- The next result number of partition `k` taken. -/
def State.numbered (s : State) (k : Nat) : State :=
  { s with host := { s.host with resNum := tset 0 s.host.resNum k ((tget 0 s.host.resNum k + 1) % 2 ^ 32) } }

theorem alloc_snd {k n : Nat} : (s.alloc k n).2 =
    (s.numbered k).each [0, 1, 2, 3] fun v i => v.allocPort i k (tget 0 s.host.resNum k) n := by
  rw [State.alloc, State.numbered]

theorem numbered_sameRings {k : Nat} : s.SameRings (s.numbered k) := host_sameRings rfl rfl

theorem alloc_sameRings {k n : Nat} : s.SameRings (s.alloc k n).2 := by
  rw [alloc_snd]
  exact numbered_sameRings.trans (each_sameRings (fun _ _ => allocPort_sameRings) _ _)

/-- An iteration added, and its job put back. -/
def State.withIter (s : State) (j : Nat) (b : Job) (y : Iter) : State :=
  { s.setJob j b with route := { (s.setJob j b).route with iters := (s.setJob j b).route.iters ++ [y] } }

theorem withIter_sameRings {j : Nat} {b : Job} {y : Iter} : s.SameRings (s.withIter j b y) := ⟨rfl, rfl, fun _ _ => rfl⟩

theorem withIter_iters {j : Nat} {b : Job} {y : Iter} : (s.withIter j b y).route.iters = s.route.iters ++ [y] := rfl

/-- The iteration that a release adds, and what it leaves of the hosts. -/
theorem release_adds {j n g : Nat} {b : Job} {x : TemplateCfg} {tags : List Nat} {input : BitVec 256} :
    s.SameRings (s.release j b g x tags input n) ∧ ∃ y, (s.release j b g x tags input n).route.iters = s.route.iters ++ [y] ∧
      y.part = b.part ∧ y.job = j ∧ y.num = b.next ∧ y.tags = tags := by
  obtain ⟨v, b1, y, he, hrings, hroute, hy⟩ : ∃ v b1 y, s.release j b g x tags input n = v.withIter j b1 y ∧ s.SameRings v ∧
      v.route = s.route ∧ y.part = b.part ∧ y.job = j ∧ y.num = b.next ∧ y.tags = tags := by
    unfold State.release
    extract_lets den fold
    split
    next res s1 heq =>
      refine ⟨s1, _, _, rfl, ?_⟩
      split at heq <;> (injection heq with _ hs; subst hs)
      · exact ⟨alloc_sameRings, (State.alloc_frame (W := State.alloc_mask) rfl (Within.refl _) (.refl _ s)).route rfl, rfl, rfl, rfl, rfl⟩
      · exact ⟨.refl, rfl, rfl, rfl, rfl, rfl⟩
  rw [he, withIter_iters, hroute]
  exact ⟨hrings.trans withIter_sameRings, y, rfl, hy⟩

/-- A command that waits for its data stands as outstanding. -/
def State.busied (s : State) (x : SqBusy) : State := { s with host := { s.host with busy := s.host.busy ++ [x] } }

theorem busied_busy {x : SqBusy} : (s.busied x).host.busy = s.host.busy ++ [x] := rfl
theorem busied_bindings {x : SqBusy} : (s.busied x).host.bindings = s.host.bindings := rfl
theorem busied_mem {x : SqBusy} : (s.busied x).mem = s.mem := rfl
theorem get_busied {x : SqBusy} : (s.busied x).get g = s.get g := rfl

/-- A COPY_IN refused for page `n`, which is bound as weights. -/
def State.pageBound (s : State) (i : Port) (r : Fin 4) (tag p n : Nat) : State :=
  ((s.raise Code.HOST_PAGE_BOUND [i, p, n]).fire i 0).complete i r tag Code.HOST_PAGE_BOUND sqCOPYIN 0

theorem pageBound_writes {n : Nat} (h : s.SameRings t) : (t.pageBound i r tag p n).host.writes =
    s.host.writes ++ [s.cqEntry i r tag Code.HOST_PAGE_BOUND sqCOPYIN 0] := ((h.trans raise_sameRings).trans fire_sameRings).complete

theorem pageBound_busy {n : Nat} : (s.pageBound i r tag p n).host.busy = s.host.busy := by
  unfold State.pageBound
  rw [complete_host, fire_host, raise_host]

theorem pageBound_mem {n : Nat} : (s.pageBound i r tag p n).mem = s.mem := by
  unfold State.pageBound
  rw [complete_mem, fire_mem, raise_mem]

theorem get_pageBound_head {n : Nat} : (s.pageBound i r tag p n).get (F.HOST_SQ_HEAD_pos i r) = s.get (F.HOST_SQ_HEAD_pos i r) := by
  unfold State.pageBound
  rw [get_complete, fire_reads, get_raise (by simp; decide)]

theorem pageBound_wrote {n : Nat} : (s.pageBound i r tag p n).wrote Code.HOST_PAGE_BOUND [i, p, n] :=
  wrote_of_recorder (s := s.raise Code.HOST_PAGE_BOUND [i, p, n]) (by
    unfold State.pageBound
    rw [complete_recorder, fire_recorder]) raise_wrote

/-- The bytes of a region written into host memory. -/
def State.sentOut (s : State) (i : Port) (w : HostWrite) (n : Nat) : State :=
  ({ s with host := { s.host with writes := s.host.writes ++ [w] } }).bwOutAdd i n

theorem sentOut_mem {w : HostWrite} {n : Nat} : (s.sentOut i w n).mem = s.mem := rfl
theorem get_sentOut {w : HostWrite} {n : Nat} : (s.sentOut i w n).get g = s.get g := rfl
theorem sentOut_writes {w : HostWrite} {n : Nat} : (s.sentOut i w n).host.writes = s.host.writes ++ [w] := rfl

theorem sentOut_cqEntry {w : HostWrite} {n : Nat} : (s.sentOut i w n).cqEntry i r tag status op landing = s.cqEntry i r tag status op landing := rfl

/-- What a COPY_OUT of partition `p` writes into host memory. -/
def State.outWrite (s : State) (i : Port) (p : Nat) (d : List Byte) : HostWrite :=
  { port := i, addr := recField d 8 8, bytes := s.bytes (s.partAddr p (64 * recField d 16 8)) (recField d 24 4) }

theorem headStep_job {j : Nat} : (s.headStep i r).job? j = s.job? j := by
  unfold State.job?
  rw [headStep_route]

theorem headStep_program : (s.headStep i r).program p = s.program p := by
  unfold State.program
  rw [headStep_cfg]

theorem headStep_takenFor : (s.headStep i r).takenFor p = s.takenFor p := by
  unfold State.takenFor
  rw [headStep_zld]

theorem headStep_programAt {n : Nat} : (s.headStep i r).programAt p n = s.programAt p n := by
  have hprogram : (s.headStep i r).programOf p = s.programOf p := by
    funext x
    unfold State.programOf
    rw [headStep_program]
  unfold State.programAt
  rw [headStep_route, headStep_program, headStep_takenFor, hprogram, headStep_cfg]

theorem headStep_jobTemplate {b : Job} : (s.headStep i r).jobTemplate b = s.jobTemplate b := by
  unfold State.jobTemplate State.templateAt State.buildGen
  rw [headStep_programAt, headStep_route, headStep_takenFor]

/-- One iteration of job `b` released with the region of a descriptor as its input. -/
def State.released (s : State) (d : List Byte) (p : Nat) (b : Job) (g : TemplateCfg) : State :=
  s.release (recField d 2 1) b (s.buildGen p) g [] (digestOf (sha3_256 (s.bytes (s.partAddr p (64 * recField d 16 8)) (recField d 24 4))))
    (s.route.buildFor + 1)

theorem released_adds {b : Job} {x : TemplateCfg} : s.SameRings (s.released d p b x) ∧ ∃ y,
    (s.released d p b x).route.iters = s.route.iters ++ [y] ∧ y.part = b.part ∧ y.job = recField d 2 1 ∧ y.num = b.next ∧ y.tags = [] :=
  release_adds

theorem get_released_head {b : Job} {x : TemplateCfg} :
    (s.released d p b x).get (F.HOST_SQ_HEAD_pos i r) = s.get (F.HOST_SQ_HEAD_pos i r) :=
  (State.release_frame (Within.refl _) (.refl _ s)).get _ (by simp; decide)

section Answers
variable (hp : s.powered = true)
include hp

/-- What every submission that breaks the table answers. -/
theorem badSubmission_answers {c : Instr} {e : State → State} (hc : exec c s = s.run e) (he : e s = s.submit i r op d f)
    (hn : s.ringNext i r = true) (ho : recField d 0 1 = op ∨ recField d 0 1 = 0 ∨ 5 < recField d 0 1)
    (hb : badField (s.reach (s.ringPart i r)) d = some a) : ∃ t, exec c s = .next t ∧ s.headMoved t i r ∧ t.get
    (F.HOST_SQ_STATE_error i r) = Code.HOST_BAD_DESCRIPTOR ∧ t.wrote Code.HOST_BAD_DESCRIPTOR [i, r, a] ∧
    t.host.writes = s.host.writes ++ [s.cqEntry i r (recField d 4 4) (Code.HOST_BAD_DESCRIPTOR) (recField d 0 1)
    (0)] ∧ t.host.busy = s.host.busy ∧ t.mem = s.mem ∧ t.route = s.route := by
  rw [hc]
  refine run_answers_of_effect hp (he.trans (submit_bad hn ho hb)) fun t ht => ?_
  rw [State.headMoved, ht.get_driven (by simp; decide), ht.get_driven (by simp; decide), ht.host_driven, ht.mem_driven, ht.route_driven,
    get_refuseSq (by simp; decide) (by simp), refuseSq_error, refuseSq_writes headStep_sameRings, refuseSq_busy, refuseSq_mem, refuseSq_route,
    headStep_host, headStep_mem, headStep_route]
  exact ⟨headStep_moved, rfl, ht.wrote_driven refuseSq_wrote, rfl, rfl, rfl, rfl⟩

/-- What every submission to a ring that cannot start one answers. -/
theorem idleSubmission_answers {c : Instr} {e : State → State} (hc : exec c s = s.run e) (he : e s = s.submit i r op d f)
    (hn : s.ringNext i r = false) : ∃ t, exec c s = .next t ∧ t.host = s.host ∧ t.mem = s.mem ∧ t.route = s.route ∧ t.get
    (F.HOST_SQ_HEAD_pos i r) = s.get (F.HOST_SQ_HEAD_pos i r) := by
  rw [hc]
  exact run_answers_of_effect hp (he.trans (submit_idle hn)) fun t ht =>
    ⟨ht.host_driven, ht.mem_driven, ht.route_driven, ht.get_driven (by simp; decide)⟩

/-- What a submission that keeps the table answers, from what its command does. -/
theorem submission_answers {c : Instr} {e : State → State} {P : State → Prop} (hc : exec c s = s.run e) (he : e s = s.submit i r op d f)
    (hq : s.sqReady i r op d) (hu : f (s.headStep i r) (s.ringPart i r) = u)
    (hhead : u.get (F.HOST_SQ_HEAD_pos i r) = (s.headStep i r).get (F.HOST_SQ_HEAD_pos i r))
    (hP : ∀ t, t.Same u.driveOutputs → P t) : ∃ t, exec c s = .next t ∧ s.headMoved t i r ∧ P t := by
  rw [hc]
  refine run_answers_of_effect hp ((he.trans (submit_runs hq)).trans hu) fun t ht => ⟨?_, hP t ht⟩
  rw [State.headMoved, ht.get_driven (by simp; decide), hhead]
  exact headStep_moved

theorem copyIn_starts (hq : s.sqReady i r sqCOPYIN d) (hb : s.boundPage
    (s.ringPart i r) (sqBusy i r d).offset (sqBusy i r d).length = none) : ∃ t, exec (.copyIn i r d) s = .next t
    ∧ s.headMoved t i r ∧ t.host.busy = s.host.busy ++ [sqBusy i r d] ∧ t.mem = s.mem :=
  submission_answers (u := (s.headStep i r).busied (sqBusy i r d)) hp (exec_copyIn.trans rfl) rfl hq
    (by dsimp only; rw [headStep_boundPage, hb]; rfl) get_busied fun t ht => by
      rw [ht.host_driven, ht.mem_driven, busied_busy, busied_mem, headStep_host, headStep_mem]
      exact ⟨rfl, rfl⟩

theorem bindWeights_starts (hq : s.sqReady i r sqBIND d) : ∃ t, exec
    (.bindWeights i r d) s = .next t ∧ s.headMoved t i r ∧ t.host.busy = s.host.busy ++ [sqBusy i r d] ∧
    t.host.bindings = s.host.bindings :=
  submission_answers (u := (s.headStep i r).busied (sqBusy i r d)) hp (exec_bindWeights.trans rfl) rfl hq rfl get_busied fun t ht => by
    rw [ht.host_driven, busied_busy, busied_bindings, headStep_host]
    exact ⟨rfl, rfl⟩

theorem fence_completes (hq : s.sqReady i r sqFENCE d) : ∃ t, exec
    (.fence i r d) s = .next t ∧ s.headMoved t i r ∧ t.host.writes = s.host.writes ++ [s.cqEntry i r (recField d
    4 4) (0) (sqFENCE) (0)] ∧ t.mem = s.mem :=
  submission_answers hp (exec_fence.trans rfl) rfl hq rfl get_complete fun t ht => by
    rw [ht.host_driven, ht.mem_driven, headStep_sameRings.complete, complete_mem, headStep_mem]
    exact ⟨rfl, rfl⟩

/-- A COPY_IN into a page bound as weights. -/
theorem copyIn_bound {n : Nat} (hq : s.sqReady i r sqCOPYIN d) (hb : s.boundPage
    (s.ringPart i r) (sqBusy i r d).offset (sqBusy i r d).length = some n) : ∃ t, exec (.copyIn i r
    d) s = .next t ∧ s.headMoved t i r ∧ t.host.busy = s.host.busy ∧ t.mem = s.mem ∧ t.host.writes =
    s.host.writes ++ [s.cqEntry i r (recField d 4 4) (Code.HOST_PAGE_BOUND) (sqCOPYIN) (0)] ∧ t.wrote
    Code.HOST_PAGE_BOUND [i, s.ringPart i r, n] :=
  submission_answers (u := (s.headStep i r).pageBound i r (recField d 4 4) (s.ringPart i r) n) hp (exec_copyIn.trans rfl) rfl hq
    (by dsimp only; rw [headStep_boundPage, hb, State.pageBound, ← hq.2.1]; rfl) get_pageBound_head fun t ht => by
      rw [ht.host_driven, ht.mem_driven, pageBound_writes headStep_sameRings, pageBound_busy, pageBound_mem, headStep_host, headStep_mem]
      exact ⟨rfl, rfl, rfl, ht.wrote_driven pageBound_wrote⟩

/-- A COPY_OUT writes its bytes and completes. -/
theorem copyOut_completes (hq : s.sqReady i r sqCOPYOUT d) : ∃ t, exec
    (.copyOut i r d) s = .next t ∧ s.headMoved t i r ∧ t.mem = s.mem ∧ t.host.writes = s.host.writes ++
    [{ port := i, addr := recField d 8 8, bytes := s.bytes (s.partAddr (s.ringPart i r) (64 * recField d 16 8)) (recField d 24 4) },
    s.cqEntry i r (recField d 4 4) (0) (sqCOPYOUT) (0)] := by
  have hrow : (s.headStep i r).outWrite i (s.ringPart i r) d = s.outWrite i (s.ringPart i r) d := by
    unfold State.outWrite
    rw [partAddr_of_cfg headStep_cfg, bytes_of_mem headStep_mem]
  refine submission_answers (u := ((s.headStep i r).sentOut i ((s.headStep i r).outWrite i (s.ringPart i r) d) (recField d 24 4)).complete
    i r (recField d 4 4) 0 sqCOPYOUT 0) hp (exec_copyOut.trans rfl) rfl hq (by rw [← hq.2.1]; rfl) (get_complete.trans get_sentOut)
    fun t ht => ?_
  rw [ht.host_driven, ht.mem_driven, complete_mem, complete_host, sentOut_mem, headStep_mem, sentOut_cqEntry, headStep_sameRings.cqEntry,
    sentOut_writes, headStep_host, hrow, List.append_assoc]
  exact ⟨rfl, rfl⟩

/-- A RELEASE of an active EVENT job of the ring's partition. -/
theorem release_completes {b : Job} {g : TemplateCfg} {n : Nat} (hq : s.sqReady i r sqRELEASE d) (hn : n = s.route.buildFor + 1)
    (hb : s.job? (recField d 2 1) = some b) (hg : s.jobTemplate b = some g) (hpart : b.part = s.ringPart i r) (hc : g.cadence = 1)
    (ha : s.jobActive n (recField d 2 1) b = true) : ∃ t, exec
    (.release i r d) s = .next t ∧ s.headMoved t i r ∧ (∃ x, t.route.iters = s.route.iters ++ [x] ∧ x.part =
    s.ringPart i r ∧ x.job = recField d 2 1 ∧ x.num = b.next ∧ x.tags = []) ∧ t.host.writes = s.host.writes ++
    [s.cqEntry i r (recField d 4 4) (0) (sqRELEASE) (n % 2 ^ 32)] := by
  subst hn
  have hactive : (s.headStep i r).jobActive ((s.headStep i r).route.buildFor + 1) (recField d 2 1) b = true := by
    rw [headStep_route, ← ha, State.jobActive, State.jobActive, State.jobState, State.jobState, get_headStep (by simp)]
  refine submission_answers (u := ((s.headStep i r).released d (s.ringPart i r) b g).complete i r (recField d 4 4) 0 sqRELEASE
    (((s.headStep i r).route.buildFor + 1) % 2 ^ 32)) hp (exec_release.trans rfl) rfl hq ?_ (get_complete.trans get_released_head) fun t ht => ?_
  · dsimp only
    rw [headStep_job, hb]
    dsimp only
    rw [headStep_jobTemplate, hg]
    dsimp only
    rw [if_pos (by simp [hpart, hc, hactive]), ← hq.2.1]
    rfl
  · obtain ⟨hrings, y, hiters, hy⟩ := released_adds (s := s.headStep i r) (d := d) (p := s.ringPart i r) (b := b) (x := g)
    rw [ht.host_driven, ht.route_driven, (headStep_sameRings.trans hrings).complete, complete_route, hiters, headStep_route]
    obtain ⟨hypart, hyjob, hynum, hytags⟩ := hy
    exact ⟨⟨y, rfl, hypart.trans hpart, hyjob, hynum, hytags⟩, rfl⟩

/-- A RELEASE of a job that there is not. -/
theorem release_jobless (hq : s.sqReady i r sqRELEASE d) (hb : s.job? (recField d 2 1) = none) : ∃ t,
    exec (.release i r d) s = .next t ∧ s.headMoved t i r ∧ t.route = s.route ∧
    t.get (F.HOST_SQ_STATE_error i r) = Code.HOST_BAD_DESCRIPTOR ∧ t.host.writes = s.host.writes ++ [s.cqEntry i
    r (recField d 4 4) (Code.HOST_BAD_DESCRIPTOR) (sqRELEASE) (0)] := by
  refine submission_answers (u := (s.headStep i r).refuseSq i r (recField d 4 4) sqRELEASE 2) hp (exec_release.trans rfl) rfl hq ?_
    (get_refuseSq (by simp; decide) (by simp)) fun t ht => ?_
  · dsimp only
    rw [headStep_job, hb, ← hq.2.1]
    rfl
  · rw [ht.host_driven, ht.route_driven, ht.get_driven (by simp; decide), refuseSq_route, refuseSq_error, refuseSq_writes headStep_sameRings,
      headStep_route]
    exact ⟨rfl, rfl, rfl⟩

end Answers

end HostSubmissions

/-- Settles O38. -/
theorem hostSubmissions : Obligations.HostSubmissions := by
  unfold Obligations.HostSubmissions
  exact ⟨fun _ _ _ _ hp => copyIn_starts hp, fun _ _ _ _ _ hp => copyIn_bound hp, fun _ _ _ _ hp => copyOut_completes hp,
    fun _ _ _ _ _ _ _ hp => release_completes hp, fun _ _ _ _ hp => release_jobless hp, fun _ _ _ _ hp => bindWeights_starts hp,
    fun _ _ _ _ hp => fence_completes hp,
    fun _ _ _ _ _ hp hn => badSubmission_answers hp (exec_copyIn.trans rfl) rfl hn,
    fun _ _ _ _ hp => idleSubmission_answers hp (exec_copyIn.trans rfl) rfl,
    fun _ _ _ _ _ hp hn => badSubmission_answers hp (exec_copyOut.trans rfl) rfl hn,
    fun _ _ _ _ hp => idleSubmission_answers hp (exec_copyOut.trans rfl) rfl,
    fun _ _ _ _ _ hp hn => badSubmission_answers hp (exec_release.trans rfl) rfl hn,
    fun _ _ _ _ hp => idleSubmission_answers hp (exec_release.trans rfl) rfl,
    fun _ _ _ _ _ hp hn => badSubmission_answers hp (exec_bindWeights.trans rfl) rfl hn,
    fun _ _ _ _ hp => idleSubmission_answers hp (exec_bindWeights.trans rfl) rfl,
    fun _ _ _ _ _ hp hn => badSubmission_answers hp (exec_fence.trans rfl) rfl hn,
    fun _ _ _ _ hp => idleSubmission_answers hp (exec_fence.trans rfl) rfl⟩

end Sys2Proof.Machine
end

section
/-! PROOFS. The rings of the host ports beside their submissions (R354 to R356, R360, R444): the ends of the commands that wait, the
doorbell and the configuration. -/

namespace Sys2Proof.Machine

open Sys2Proof

section HostRings

variable {s t u v : State} {i : Port} {r : Fin 4} {b : SqBusy} {g : Field} {op n p : Nat} {q : BitVec 32} {w : Word}

theorem exec_weightsDigestDone : exec (.weightsDigestDone i r) s = execWeightsDigestDone i r s := rfl
theorem exec_dmaReadCompletion {e : DmaEnd} : exec (.dmaReadCompletion i r e) s = execDmaReadCompletion i r e s := rfl
theorem exec_dmaTimeout : exec (.dmaTimeout i r) s = execDmaTimeout i r s := rfl
theorem exec_hostSqTail : exec (.hostSqTail i r q) s = execHostSqTail i r q s := rfl
theorem exec_hostSqCfgWrite : exec (.hostSqCfgWrite i r w) s = execHostSqCfgWrite i r w s := rfl

/-! ### The command that waits -/

/-- A ring with nothing outstanding. -/
def State.unbusied (s : State) (i : Port) (r : Fin 4) : State :=
  { s with host := { s.host with busy := s.host.busy.filter fun x => !(x.port == i.val && x.ring == r.val) } }

theorem unbusied_mem : (s.unbusied i r).mem = s.mem := rfl
theorem get_unbusied : (s.unbusied i r).get g = s.get g := rfl
theorem unbusied_sameRings : s.SameRings (s.unbusied i r) := ⟨rfl, rfl, fun _ _ => rfl⟩
theorem unbusied_bindings : (s.unbusied i r).host.bindings = s.host.bindings := rfl

theorem unbusied_idle : ∀ x ∈ (s.unbusied i r).host.busy, ¬(x.port = i.val ∧ x.ring = r.val) := by
  intro x hx
  have hx := (List.mem_filter.1 hx).2
  simpa [imp_iff_not_or] using hx

theorem takeBusy_some (h : s.host.busy.find? (fun b => b.port == i.val && b.ring == r.val && b.op == op) = some b) :
    s.takeBusy i r op = some (b, s.unbusied i r) := by
  unfold State.takeBusy
  rw [h]
  rfl

theorem takeBusy_none (h : s.host.busy.find? (fun b => b.port == i.val && b.ring == r.val && b.op == op) = none) :
    s.takeBusy i r op = none := by
  unfold State.takeBusy
  rw [h]
  rfl

/-! ### A finished BIND_WEIGHTS -/

/-- The digest of the region that a BIND_WEIGHTS names. -/
def State.regionDigest (s : State) (p : Nat) (b : SqBusy) : BitVec 256 := digestOf (sha3_256 (s.bytes (s.partAddr p b.offset) b.length))

/-- What the program of partition `p` declares of the set that a BIND_WEIGHTS names. -/
def State.declaration (s : State) (p : Nat) (b : SqBusy) : Option WeightSetCfg :=
  (s.program p).bind fun g => g.weights.find? fun w => w.set == b.set

/-- The set may be bound with digest `d`. -/
def State.mayBindSet (s : State) (i : Port) (x : Option WeightSetCfg) (d : BitVec 256) : Bool :=
  match x with
  | none => true
  | some w => if w.adaptable then s.role i == roleOWNER else w.expected.isEmpty || w.expected.contains d

/-- The binding of a region, to land with the next build. -/
def State.newBinding (s : State) (p : Nat) (b : SqBusy) (d : BitVec 256) : Binding :=
  { part := p, set := b.set, offset := b.offset, length := b.length, digest := d, landing := s.route.buildFor + 1 }

/-- A set bound. -/
def State.withBinding (s : State) (x : Binding) : State := { s with host := { s.host with bindings := s.host.bindings ++ [x] } }

/-- A binding refused: its waymark, its vector, and the completion. -/
def State.bindRefused (s : State) (i : Port) (r : Fin 4) (b : SqBusy) (p : Nat) : State :=
  ((s.raise Code.HOST_WEIGHTS_REFUSED [i, p, b.set]).fire i 0).complete i r b.tag Code.HOST_WEIGHTS_REFUSED b.op 0

/-- A binding made. -/
def State.bindDone (s : State) (i : Port) (r : Fin 4) (b : SqBusy) (p : Nat) (d : BitVec 256) : State :=
  ((s.withBinding (s.newBinding p b d)).raise Code.HOST_WEIGHTS_BOUND [p, b.set, s.route.buildFor + 1]).complete i r b.tag 0 b.op
    ((s.route.buildFor + 1) % 2 ^ 32)

/-- The end of a BIND_WEIGHTS. -/
def State.bindEnds (s : State) (i : Port) (r : Fin 4) (b : SqBusy) (p : Nat) : State :=
  if !s.mayBindSet i (s.declaration p b) (s.regionDigest p b) then s.bindRefused i r b p else s.bindDone i r b p (s.regionDigest p b)

theorem weightsDigestDone_effect (h : s.host.busy.find? (fun b => b.port == i.val && b.ring == r.val && b.op == sqBIND) = some b) :
    ∃ f, exec (.weightsDigestDone i r) s = s.run f ∧ f s = (s.unbusied i r).bindEnds i r b ((s.unbusied i r).ringPart i r) := by
  refine ⟨_, exec_weightsDigestDone, ?_⟩
  rw [takeBusy_some h]
  rfl

theorem unbusied_digest : (s.unbusied i r).regionDigest p b = s.regionDigest p b := by
  unfold State.regionDigest
  rw [bytes_of_mem unbusied_mem, partAddr_of_cfg (s := s) (t := s.unbusied i r) rfl]

theorem unbusied_declaration : (s.unbusied i r).declaration p b = s.declaration p b := rfl

theorem unbusied_mayBindSet {x : Option WeightSetCfg} {d : BitVec 256} : (s.unbusied i r).mayBindSet i x d = s.mayBindSet i x d := rfl

theorem unbusied_newBinding {d : BitVec 256} : (s.unbusied i r).newBinding p b d = s.newBinding p b d := rfl

theorem unbusied_ringPart : (s.unbusied i r).ringPart i r = s.ringPart i r := rfl

/-- The end of a BIND_WEIGHTS, by whether its digest is allowed. -/
theorem unbusied_bindEnds : (s.unbusied i r).bindEnds i r b ((s.unbusied i r).ringPart i r) =
    if s.mayBindSet i (s.declaration (s.ringPart i r) b) (s.regionDigest (s.ringPart i r) b) = true then
      (s.unbusied i r).bindDone i r b (s.ringPart i r) (s.regionDigest (s.ringPart i r) b)
    else (s.unbusied i r).bindRefused i r b (s.ringPart i r) := by
  unfold State.bindEnds
  rw [unbusied_ringPart, unbusied_mayBindSet, unbusied_declaration, unbusied_digest]
  cases s.mayBindSet i (s.declaration (s.ringPart i r) b) (s.regionDigest (s.ringPart i r) b) <;> rfl

theorem bindRefused_host : (s.bindRefused i r b p).host.bindings = s.host.bindings ∧ (s.bindRefused i r b p).host.busy = s.host.busy := by
  unfold State.bindRefused
  rw [complete_host, fire_host, raise_host]
  exact ⟨rfl, rfl⟩

theorem bindRefused_writes (h : s.SameRings t) : (t.bindRefused i r b p).host.writes =
    s.host.writes ++ [s.cqEntry i r b.tag Code.HOST_WEIGHTS_REFUSED b.op 0] := ((h.trans raise_sameRings).trans fire_sameRings).complete

theorem bindRefused_wrote : (s.bindRefused i r b p).wrote Code.HOST_WEIGHTS_REFUSED [i, p, b.set] :=
  wrote_of_recorder (s := s.raise Code.HOST_WEIGHTS_REFUSED [i, p, b.set]) (by
    unfold State.bindRefused
    rw [complete_recorder, fire_recorder]) raise_wrote

theorem bindDone_host {d : BitVec 256} : (s.bindDone i r b p d).host.bindings = s.host.bindings ++ [s.newBinding p b d] ∧
    (s.bindDone i r b p d).host.busy = s.host.busy := by
  unfold State.bindDone
  rw [complete_host, raise_host]
  exact ⟨rfl, rfl⟩

theorem withBinding_sameRings {x : Binding} : s.SameRings (s.withBinding x) := ⟨rfl, rfl, fun _ _ => rfl⟩

theorem bindDone_writes {d : BitVec 256} (h : s.SameRings t) : (t.bindDone i r b p d).host.writes =
    s.host.writes ++ [s.cqEntry i r b.tag 0 b.op ((t.route.buildFor + 1) % 2 ^ 32)] :=
  ((h.trans withBinding_sameRings).trans raise_sameRings).complete

theorem bindDone_wrote {d : BitVec 256} : (s.bindDone i r b p d).wrote Code.HOST_WEIGHTS_BOUND [p, b.set, s.route.buildFor + 1] :=
  wrote_of_recorder (s := (s.withBinding (s.newBinding p b d)).raise Code.HOST_WEIGHTS_BOUND [p, b.set, s.route.buildFor + 1]) (by
    unfold State.bindDone
    rw [complete_recorder]) raise_wrote

/-! ### A failed or finished DMA read -/

theorem dmaError_mem : (s.dmaError i r b n).mem = s.mem := by
  unfold State.dmaError
  rw [complete_mem, fire_mem, raise_mem, set_mem]

theorem dmaError_busy : (s.dmaError i r b n).host.busy = s.host.busy := by
  unfold State.dmaError
  rw [complete_host, fire_host, raise_host, set_host]

theorem dmaError_error : (s.dmaError i r b n).get (F.HOST_SQ_STATE_error i r) = Code.HOST_DMA_ERROR := by
  unfold State.dmaError
  rw [get_complete, fire_reads, get_raise (by simp; decide), State.get_set (by simp [F.HOST_SQ_STATE_error])]
  rfl

theorem dmaError_wrote : (s.dmaError i r b n).wrote Code.HOST_DMA_ERROR [i, r, n] :=
  wrote_of_recorder (s := (s.set (F.HOST_SQ_STATE_error i r) Code.HOST_DMA_ERROR).raise Code.HOST_DMA_ERROR [i, r, n]) (by
    unfold State.dmaError
    rw [complete_recorder, fire_recorder]) raise_wrote

theorem dmaError_writes (h : s.SameRings t) : (t.dmaError i r b n).host.writes =
    s.host.writes ++ [s.cqEntry i r b.tag Code.HOST_DMA_ERROR b.op 0] :=
  (((h.trans (set_sameRings (by simp))).trans raise_sameRings).trans fire_sameRings).complete

/-- The data of a COPY_IN in its region. -/
def State.copiedIn (s : State) (i : Port) (p : Nat) (b : SqBusy) (bs : List Byte) : State :=
  (s.store (s.partAddr p b.offset) (copyData bs b.length)).bwInAdd i b.length

theorem copyData_length {bs : List Byte} {m : Nat} : (copyData bs m).length = m := by simp [copyData]

theorem copiedIn_mem {bs : List Byte} : (s.copiedIn i p b bs).mem = (s.putBytes (s.partAddr p b.offset) (copyData bs b.length)).mem :=
  store_mem

theorem bwInAdd_sameRings {m : Nat} : s.SameRings (s.bwInAdd i m) := ⟨rfl, rfl, fun _ _ => rfl⟩

theorem copiedIn_sameRings {bs : List Byte} : s.SameRings (s.copiedIn i p b bs) :=
  ((State.store_frame (Within.refl _) (.refl _ s)).sameRings (by decide) (by decide) (by decide) (by decide)).trans bwInAdd_sameRings

theorem copiedIn_host {bs : List Byte} : (s.copiedIn i p b bs).host = s.host := (State.store_frame (Within.refl _) (.refl _ s)).host rfl

theorem copyIn_bytes {bs : List Byte} {a : Nat} (h : t.mem = (s.putBytes a (copyData bs b.length)).mem) :
    t.bytes a b.length = copyData bs b.length := by
  have hput := bytes_putBytes (s := s) (a := a) (bs := copyData bs b.length)
  rw [copyData_length] at hput
  rw [bytes_of_mem h, hput]

section Answers
variable (hp : s.powered = true)
include hp

section Bind
variable (h : s.host.busy.find? (fun b => b.port == i.val && b.ring == r.val && b.op == sqBIND) = some b)
include h

/-- A digest that is allowed. -/
theorem weightsDigestDone_binds (hok : s.mayBindSet i (s.declaration (s.ringPart i r) b) (s.regionDigest (s.ringPart i r) b) = true) :
    ∃ t, exec (.weightsDigestDone i r) s = .next t ∧
    t.host.bindings = s.host.bindings ++ [s.newBinding (s.ringPart i r) b (s.regionDigest (s.ringPart i r) b)]
    ∧ (∀ x ∈ t.host.busy, ¬(x.port = i.val ∧ x.ring = r.val)) ∧ t.host.writes = s.host.writes ++ [s.cqEntry i r
    (b.tag) (0) (b.op) ((s.route.buildFor + 1) % 2 ^ 32)] ∧ t.wrote Code.HOST_WEIGHTS_BOUND [s.ringPart i r,
    b.set, s.route.buildFor + 1] := by
  obtain ⟨f, hexec, heff⟩ := weightsDigestDone_effect h
  rw [hexec]
  refine run_answers_of_effect hp (heff.trans (unbusied_bindEnds.trans (if_pos hok))) fun t ht => ?_
  rw [ht.host_driven, bindDone_host.1, bindDone_host.2, bindDone_writes unbusied_sameRings, unbusied_newBinding, unbusied_bindings]
  exact ⟨rfl, unbusied_idle, rfl, ht.wrote_driven bindDone_wrote⟩

/-- A digest that is not allowed. -/
theorem weightsDigestDone_refuses (hno : s.mayBindSet i (s.declaration (s.ringPart i r) b) (s.regionDigest (s.ringPart i r) b) = false) :
    ∃ t, exec (.weightsDigestDone i r) s = .next t ∧ t.host.bindings = s.host.bindings
    ∧ (∀ x ∈ t.host.busy, ¬(x.port = i.val ∧ x.ring = r.val)) ∧ t.host.writes = s.host.writes ++ [s.cqEntry i r
    (b.tag) (Code.HOST_WEIGHTS_REFUSED) (b.op) (0)] ∧ t.wrote Code.HOST_WEIGHTS_REFUSED [i, s.ringPart i r,
    b.set] := by
  obtain ⟨f, hexec, heff⟩ := weightsDigestDone_effect h
  rw [hexec]
  refine run_answers_of_effect hp (heff.trans (unbusied_bindEnds.trans (if_neg (ne_true_of_eq_false hno)))) fun t ht => ?_
  rw [ht.host_driven, bindRefused_host.1, bindRefused_host.2, bindRefused_writes unbusied_sameRings, unbusied_bindings]
  exact ⟨rfl, unbusied_idle, rfl, ht.wrote_driven bindRefused_wrote⟩

end Bind

/-- Where the ring has no such command, its end changes nothing. -/
theorem noCommand_answers {c : Instr} {e : State → State} (hc : exec c s = s.run e) (he : e s = s) :
    ∃ t, exec c s = .next t ∧ t.host = s.host ∧ t.mem = s.mem := by
  rw [hc]
  exact run_answers_of_effect hp he fun t ht => ⟨ht.host_driven, ht.mem_driven⟩

section Read
variable (h : s.host.busy.find? (fun b => b.port == i.val && b.ring == r.val && b.op == sqCOPYIN) = some b)
include h

/-- The data of a COPY_IN arrives. -/
theorem dmaReadCompletion_copies {bs : List Byte} : ∃ t, exec (.dmaReadCompletion i r
    (.data bs)) s = .next t ∧ t.bytes (s.partAddr (s.ringPart i r) b.offset) b.length = copyData bs b.length ∧
    (∀ a, a < s.partAddr (s.ringPart i r) b.offset ∨ s.partAddr (s.ringPart i r) b.offset + b.length ≤ a →
    t.byte a = s.byte a) ∧ (∀ x ∈ t.host.busy, ¬(x.port = i.val ∧ x.ring = r.val)) ∧ t.host.writes =
    s.host.writes ++ [s.cqEntry i r (b.tag) (0) (b.op) (0)] := by
  rw [exec_dmaReadCompletion]
  refine run_answers_of_effect (u := ((s.unbusied i r).copiedIn i (s.ringPart i r) b bs).complete i r b.tag 0 b.op 0) hp
    (by rw [takeBusy_some h]; rfl) fun t ht => ?_
  have hmem : t.mem = ((s.unbusied i r).putBytes (s.partAddr (s.ringPart i r) b.offset) (copyData bs b.length)).mem := by
    rw [ht.mem_driven, complete_mem, copiedIn_mem, partAddr_of_cfg (s := s) (t := s.unbusied i r) rfl]
  rw [ht.host_driven, (unbusied_sameRings.trans copiedIn_sameRings).complete, complete_host, copiedIn_host, copyIn_bytes hmem]
  refine ⟨rfl, fun a ha => ?_, unbusied_idle, rfl⟩
  rw [byte_of_mem hmem, byte_putBytes_out (by rwa [copyData_length]), byte_of_mem unbusied_mem]

omit h in
/-- A DMA read that fails. -/
theorem dmaError_answers {c : Instr} {e : State → State} (hc : exec c s = s.run e) (he : e s = (s.unbusied i r).dmaError i r b n) :
    ∃ t, exec c s = .next t ∧ t.mem = s.mem ∧ (∀ x ∈ t.host.busy, ¬(x.port = i.val ∧ x.ring = r.val)) ∧ t.get
    (F.HOST_SQ_STATE_error i r) = Code.HOST_DMA_ERROR ∧ t.wrote Code.HOST_DMA_ERROR [i, r, n] ∧ t.host.writes =
    s.host.writes ++ [s.cqEntry i r (b.tag) (Code.HOST_DMA_ERROR) (b.op) (0)] := by
  rw [hc]
  refine run_answers_of_effect hp he fun t ht => ?_
  rw [ht.host_driven, ht.mem_driven, ht.get_driven (by simp; decide), dmaError_mem, dmaError_busy, dmaError_error,
    dmaError_writes unbusied_sameRings, unbusied_mem]
  exact ⟨rfl, unbusied_idle, rfl, ht.wrote_driven dmaError_wrote, rfl⟩

theorem dmaTimeout_fails : ∃ t, exec (.dmaTimeout i r) s = .next t ∧ t.mem =
    s.mem ∧ (∀ x ∈ t.host.busy, ¬(x.port = i.val ∧ x.ring = r.val)) ∧ t.get (F.HOST_SQ_STATE_error i r) =
    Code.HOST_DMA_ERROR ∧ t.wrote Code.HOST_DMA_ERROR [i, r, 4] ∧ t.host.writes = s.host.writes ++ [s.cqEntry i
    r (b.tag) (Code.HOST_DMA_ERROR) (b.op) (0)] :=
  dmaError_answers hp (exec_dmaTimeout.trans rfl) (by rw [takeBusy_some h])

end Read

/-! ### The doorbell and the configuration -/

theorem hostSqTail_takes (hm : s.mayBind i (s.ringPart i r) = true)
    (hq : (q.toNat + 2 ^ 32 - s.get (F.HOST_SQ_HEAD_pos i r)) % 2 ^ 32 ≤ 2 ^ s.get (F.HOST_SQ_CFG_size i r)) : ∃ t,
    exec (.hostSqTail i r q) s = .next t ∧ t.get (F.HOST_SQ_TAIL_pos i r) = q.toNat ∧ t.host = s.host := by
  have hmay : s.mayBind i (s.get (F.HOST_SQ_CFG_partition i r)) = true := hm
  rw [exec_hostSqTail]
  refine run_answers_of_effect hp ((if_neg (by simp [hmay])).trans (if_neg (Nat.not_lt.2 hq))) fun t ht => ?_
  rw [ht.get_driven (by simp; decide), ht.host_driven, State.get_set (by simp [F.HOST_SQ_TAIL_pos]), set_host]
  exact ⟨Nat.mod_eq_of_lt q.isLt, rfl⟩

/-- A ring stopped by its doorbell. -/
def State.ringStopped (s : State) (i : Port) (r : Fin 4) : State :=
  (s.set (F.HOST_SQ_STATE_stopped i r) 1).set (F.HOST_SQ_STATE_error i r) Code.HOST_RING_STOPPED

omit hp in
theorem ringStopped_shows : (s.ringStopped i r).get (F.HOST_SQ_STATE_stopped i r) = 1 ∧
    (s.ringStopped i r).get (F.HOST_SQ_STATE_error i r) = Code.HOST_RING_STOPPED := by
  unfold State.ringStopped
  constructor
  · rw [State.get_set_field (f := F.HOST_SQ_STATE_stopped i r) (g := F.HOST_SQ_STATE_error i r) rfl
      (by simp [F.HOST_SQ_STATE_stopped, F.HOST_SQ_STATE_error]) (by simp [F.HOST_SQ_STATE_stopped]),
      State.get_set (by simp [F.HOST_SQ_STATE_stopped])]
    rfl
  · rw [State.get_set (by simp [F.HOST_SQ_STATE_error])]
    rfl

theorem hostSqTail_stops (hm : s.mayBind i (s.ringPart i r) = true)
    (hq : 2 ^ s.get (F.HOST_SQ_CFG_size i r) < (q.toNat + 2 ^ 32 - s.get (F.HOST_SQ_HEAD_pos i r)) % 2 ^ 32) : ∃ t, exec
    (.hostSqTail i r q) s = .next t ∧ t.get (F.HOST_SQ_STATE_stopped i r) = 1 ∧ t.get (F.HOST_SQ_STATE_error i
    r) = Code.HOST_RING_STOPPED ∧ t.get (F.HOST_SQ_TAIL_pos i r) = s.get (F.HOST_SQ_TAIL_pos i r) ∧ t.wrote
    Code.HOST_RING_STOPPED [i, r, 0] := by
  have hmay : s.mayBind i (s.get (F.HOST_SQ_CFG_partition i r)) = true := hm
  rw [exec_hostSqTail]
  refine run_answers_of_effect (u := ((s.ringStopped i r).raise Code.HOST_RING_STOPPED [i, r, 0]).fire i 0) hp
    ((if_neg (by simp [hmay])).trans (if_pos hq)) fun t ht => ?_
  obtain ⟨hstopped, herror⟩ := ringStopped_shows (s := s) (i := i) (r := r)
  rw [ht.get_driven (by simp; decide), ht.get_driven (by simp; decide), ht.get_driven (by simp; decide), fire_reads, fire_reads, fire_reads,
    get_raise (by simp; decide), get_raise (by simp; decide), get_raise (by simp; decide), hstopped, herror, State.ringStopped,
    State.get_set_kind (by simp), State.get_set_kind (by simp)]
  exact ⟨rfl, rfl, rfl, ht.wrote_driven (wrote_of_recorder (s := (s.ringStopped i r).raise _ _) fire_recorder raise_wrote)⟩

/-- A write of a port that may not bind writes HOST_ROLE and changes no register of the ring. -/
theorem hostRole_answers {c : Instr} {e : State → State} {o : Nat} (hc : exec c s = s.run e) (he : e s = s.hostRole i o)
    (hg : 136 ≤ regKind g.key ∧ regKind g.key ≤ 137) : ∃ t, exec c s = .next t ∧ t.get g = s.get g ∧ t.wrote Code.HOST_ROLE [i, o] := by
  have hkind : regKind g.key = 136 ∨ regKind g.key = 137 := by omega
  rw [hc]
  refine run_answers_of_effect hp he fun t ht => ⟨?_, ht.wrote_driven raise_wrote⟩
  rcases hkind with e | e
  · rw [ht.get_driven (by rw [e]; decide), State.hostRole, get_raise (by rw [e]; decide)]
  · rw [ht.get_driven (by rw [e]; decide), State.hostRole, get_raise (by rw [e]; decide)]

/-- A stopped ring sized and bound to a partition. -/
def State.ringSet (s : State) (i : Port) (r : Fin 4) (w : Word) : State :=
  (s.set (F.HOST_SQ_CFG_size i r) (fieldOf w 0 4)).set (F.HOST_SQ_CFG_partition i r) (fieldOf w 4 3)

/-- A ring that runs. -/
def State.ringRun (s : State) (i : Port) (r : Fin 4) : State :=
  ((s.set (F.HOST_SQ_CFG_run i r) 1).set (F.HOST_SQ_STATE_error i r) 0).set (F.HOST_SQ_STATE_stopped i r) 0

omit hp in
theorem ringSet_shows : (s.ringSet i r w).get (F.HOST_SQ_CFG_size i r) = fieldOf w 0 4 ∧
    (s.ringSet i r w).ringPart i r = fieldOf w 4 3 := by
  unfold State.ringSet
  constructor
  · rw [State.get_set_field (f := F.HOST_SQ_CFG_size i r) (g := F.HOST_SQ_CFG_partition i r) rfl
      (by simp [F.HOST_SQ_CFG_size, F.HOST_SQ_CFG_partition]) (by simp [F.HOST_SQ_CFG_size]), State.get_set (by simp [F.HOST_SQ_CFG_size])]
    exact Nat.mod_mod _ _
  · rw [State.ringPart, State.get_set (by simp [F.HOST_SQ_CFG_partition])]
    exact Nat.mod_mod _ _

omit hp in
/-- A change of the run bit alone leaves size and partition. -/
theorem get_set_run (hg : g = F.HOST_SQ_CFG_size i r ∨ g = F.HOST_SQ_CFG_partition i r) : (s.set (F.HOST_SQ_CFG_run i r) n).get g = s.get g := by
  rcases hg with rfl | rfl
  · exact State.get_set_field (f := F.HOST_SQ_CFG_size i r) (g := F.HOST_SQ_CFG_run i r) rfl
      (by simp [F.HOST_SQ_CFG_size, F.HOST_SQ_CFG_run]) (by simp [F.HOST_SQ_CFG_size])
  · exact State.get_set_field (f := F.HOST_SQ_CFG_partition i r) (g := F.HOST_SQ_CFG_run i r) rfl
      (by simp [F.HOST_SQ_CFG_partition, F.HOST_SQ_CFG_run]) (by simp [F.HOST_SQ_CFG_partition])

omit hp in
theorem get_ringRun (hg : g = F.HOST_SQ_CFG_size i r ∨ g = F.HOST_SQ_CFG_partition i r) : (s.ringRun i r).get g = s.get g := by
  have hkind : regKind g.key = 136 := by rcases hg with rfl | rfl <;> simp
  unfold State.ringRun
  rw [State.get_set_kind (by simp [hkind]), State.get_set_kind (by simp [hkind]), get_set_run hg]

omit hp in
theorem ringRun_shows : (s.ringRun i r).get (F.HOST_SQ_CFG_run i r) = 1 ∧ (s.ringRun i r).get (F.HOST_SQ_STATE_error i r) = 0 ∧
    (s.ringRun i r).get (F.HOST_SQ_STATE_stopped i r) = 0 := by
  unfold State.ringRun
  refine ⟨?_, ?_, ?_⟩
  · rw [State.get_set_kind (by simp), State.get_set_kind (by simp), State.get_set (by simp [F.HOST_SQ_CFG_run])]
    rfl
  · rw [State.get_set_field (f := F.HOST_SQ_STATE_error i r) (g := F.HOST_SQ_STATE_stopped i r) rfl
      (by simp [F.HOST_SQ_STATE_error, F.HOST_SQ_STATE_stopped]) (by simp [F.HOST_SQ_STATE_error]),
      State.get_set (by simp [F.HOST_SQ_STATE_error]), Nat.zero_mod]
  · rw [State.get_set (by simp [F.HOST_SQ_STATE_stopped]), Nat.zero_mod]

omit hp in
theorem run_off (h : s.on (F.HOST_SQ_CFG_run i r) = false) : s.get (F.HOST_SQ_CFG_run i r) = 0 := by simpa [State.on] using h

/-- A stopped ring starts. -/
theorem hostSqCfgWrite_starts (hoff : s.on (F.HOST_SQ_CFG_run i r) = false) (hm : s.mayBind i (fieldOf w 4 3) = true)
    (hlo : 4 ≤ fieldOf w 0 4) (hhi : fieldOf w 0 4 ≤ 12) (hrun : w.getLsbD 8 = true) : ∃ t, exec
    (.hostSqCfgWrite i r w) s = .next t ∧ t.get (F.HOST_SQ_CFG_run i r) = 1 ∧ t.get (F.HOST_SQ_CFG_size i r) =
    fieldOf w 0 4 ∧ t.ringPart i r = fieldOf w 4 3 ∧ t.get (F.HOST_SQ_STATE_error i r) = 0 ∧ t.get
    (F.HOST_SQ_STATE_stopped i r) = 0 := by
  rw [exec_hostSqCfgWrite]
  refine run_answers_of_effect (u := (s.ringSet i r w).ringRun i r) hp ((if_neg (ne_true_of_eq_false hoff)).trans ((if_neg (by simp [hm])).trans
    ((if_neg (by simp; omega)).trans (if_pos hrun)))) fun t ht => ?_
  obtain ⟨hrun, herror, hstopped⟩ := ringRun_shows (s := s.ringSet i r w) (i := i) (r := r)
  rw [State.ringPart, ht.get_driven (by simp; decide), ht.get_driven (by simp; decide), ht.get_driven (by simp; decide),
    ht.get_driven (by simp; decide), ht.get_driven (by simp; decide), get_ringRun (.inl rfl), get_ringRun (.inr rfl)]
  exact ⟨hrun, ringSet_shows.1, ringSet_shows.2, herror, hstopped⟩

/-- A size outside 4 to 12 is ignored. -/
theorem hostSqCfgWrite_ignored (hoff : s.on (F.HOST_SQ_CFG_run i r) = false) (hm : s.mayBind i (fieldOf w 4 3) = true)
    (hsize : fieldOf w 0 4 < 4 ∨ 12 < fieldOf w 0 4) : ∃ t, exec (.hostSqCfgWrite i r
    w) s = .next t ∧ t.get (F.HOST_SQ_CFG_run i r) = 0 ∧ t.get (F.HOST_SQ_CFG_size i r) = s.get
    (F.HOST_SQ_CFG_size i r) := by
  rw [exec_hostSqCfgWrite]
  refine run_answers_of_effect (u := s) hp ((if_neg (ne_true_of_eq_false hoff)).trans ((if_neg (by simp [hm])).trans
    (if_pos (by simpa using hsize)))) fun t ht => ?_
  rw [ht.get_driven (by simp; decide), ht.get_driven (by simp; decide)]
  exact ⟨run_off hoff, rfl⟩

/-- A running ring stops or runs on; its size and partition are locked. -/
theorem hostSqCfgWrite_locked (hon : s.on (F.HOST_SQ_CFG_run i r) = true) (hm : s.mayBind i (s.ringPart i r) = true) : ∃ t,
    exec (.hostSqCfgWrite i r w) s = .next t ∧ t.get
    (F.HOST_SQ_CFG_run i r) = bit (w.getLsbD 8) ∧ t.get (F.HOST_SQ_CFG_size i r) = s.get (F.HOST_SQ_CFG_size i
    r) ∧ t.ringPart i r = s.ringPart i r ∧ (fieldOf w 0 4 ≠ s.get (F.HOST_SQ_CFG_size i r) ∨ fieldOf w 4 3 ≠
    s.ringPart i r → t.wrote Code.RWL_LOCKED [i, 0x410 + 0x20 * r.val]) := by
  have hmay : s.mayBind i (s.get (F.HOST_SQ_CFG_partition i r)) = true := hm
  have hbit (v : State) : (v.set (F.HOST_SQ_CFG_run i r) (bit (w.getLsbD 8))).get (F.HOST_SQ_CFG_run i r) = bit (w.getLsbD 8) := by
    rw [State.get_set (by simp [F.HOST_SQ_CFG_run])]
    cases w.getLsbD 8 <;> rfl
  rw [exec_hostSqCfgWrite]
  refine run_answers_of_effect hp ((if_pos hon).trans (if_neg (by simp [hmay]))) fun t ht => ?_
  rw [State.ringPart, ht.get_driven (by simp; decide), ht.get_driven (by simp; decide), ht.get_driven (by simp; decide), hbit,
    get_set_run (.inl rfl), get_set_run (.inr rfl)]
  by_cases hsame : (fieldOf w 0 4 == s.get (F.HOST_SQ_CFG_size i r) && fieldOf w 4 3 == s.get (F.HOST_SQ_CFG_partition i r)) = true
  · rw [if_pos hsame]
    simp only [Bool.and_eq_true, beq_iff_eq] at hsame
    refine ⟨rfl, rfl, rfl, fun hne => ?_⟩
    rcases hne with hne | hne
    · exact absurd hsame.1 hne
    · exact absurd hsame.2 hne
  · dsimp only at ht
    rw [if_neg hsame] at ht ⊢
    rw [get_raiseKind (by simp; decide), get_raiseKind (by simp; decide)]
    exact ⟨rfl, rfl, rfl, fun _ => ht.wrote_driven (wrote_of_recorder set_recorder raiseKind_wrote)⟩

end Answers

end HostRings

/-- Settles O39. -/
theorem hostRingsAndDma : Obligations.HostRingsAndDma := by
  unfold Obligations.HostRingsAndDma
  refine ⟨fun s i r b hp h hdecl => weightsDigestDone_binds hp h ?_, fun s i r b w hp h hdecl hadapt hrole => weightsDigestDone_binds hp h ?_,
    fun s i r b w hp h hdecl hfixed hin => weightsDigestDone_binds hp h ?_, fun s i r b w hp h hdecl hno => weightsDigestDone_refuses hp h ?_,
    fun _ _ _ hp h => noCommand_answers hp (exec_weightsDigestDone.trans rfl) (by rw [takeBusy_none h]),
    fun _ _ _ hp h => noCommand_answers hp (exec_dmaTimeout.trans rfl) (by rw [takeBusy_none h]),
    fun _ _ _ _ hp h => noCommand_answers hp (exec_dmaReadCompletion.trans rfl) (by rw [takeBusy_none h]),
    fun _ _ _ _ _ hp h => dmaReadCompletion_copies hp h,
    fun _ _ _ _ hp h => dmaError_answers hp (exec_dmaReadCompletion.trans rfl) (by rw [takeBusy_some h]),
    fun _ _ _ _ hp h => dmaError_answers hp (exec_dmaReadCompletion.trans rfl) (by rw [takeBusy_some h]),
    fun _ _ _ _ hp h => dmaError_answers hp (exec_dmaReadCompletion.trans rfl) (by rw [takeBusy_some h]),
    fun _ _ _ _ hp h => dmaTimeout_fails hp h, fun _ _ _ _ hp => hostSqTail_takes hp, fun _ _ _ _ hp => hostSqTail_stops hp,
    fun s i r q hp hm => ?_, fun _ _ _ _ hp => hostSqCfgWrite_starts hp, fun _ _ _ _ hp => hostSqCfgWrite_ignored hp,
    fun _ _ _ _ hp => hostSqCfgWrite_locked hp, fun s i r w hp hoff hm => ?_⟩
  · simp only [State.declaration, hdecl, State.mayBindSet]
  · simp only [State.declaration, hdecl, State.mayBindSet, hadapt, hrole, if_true, beq_self_eq_true]
  · simp only [State.declaration, hdecl, State.mayBindSet, hfixed, Bool.false_eq_true, if_false, Bool.or_eq_true, List.isEmpty_iff,
      List.contains_iff_mem]
    exact hin
  · simp only [State.declaration, hdecl, State.mayBindSet]
    rcases hno with ⟨hadapt, hrole⟩ | ⟨hfixed, hne, hout⟩
    · simp [hadapt, hrole]
    · have hlisted : w.expected.contains (s.regionDigest (s.ringPart i r) b) = false :=
        Bool.eq_false_iff.2 fun h => hout (List.contains_iff_mem.1 h)
      simp [hfixed, hne, -List.contains_eq_mem, hlisted]
  · have hmay : s.mayBind i (s.get (F.HOST_SQ_CFG_partition i r)) = false := hm
    exact hostRole_answers hp (exec_hostSqTail.trans rfl) (if_pos (by simp [hmay])) (by simp)
  · obtain ⟨t, ht, hrun, hwrote⟩ := hostRole_answers (g := F.HOST_SQ_CFG_run i r) hp ((exec_hostSqCfgWrite (w := w)).trans rfl)
      ((if_neg (ne_true_of_eq_false hoff)).trans (if_pos (by simp [hm]))) (by simp)
    exact ⟨t, ht, hrun.trans (run_off hoff), hwrote⟩

end Sys2Proof.Machine
end

section
/-! PROOFS. The safety unit: what a safety message, a cause, a completed test and the entry of the safe state leave of its registers and
records (R375, R379 to R383). -/

namespace Sys2Proof.Machine

open Sys2Proof

section SafeUnit

variable {s t u v : State} {g : Field} {c k n : Nat} {b : Bool}

theorem State.Same.safe_driven (h : t.Same u.driveOutputs) : t.safe = u.safe := h.safe.trans driveOutputs_safe

/-- A field of SAFE_IO beside the output readback. -/
theorem State.Same.safeIo_driven (h : t.Same u.driveOutputs) (hk : g.key = F.SAFE_IO_outputs.key)
    (hlo : F.SAFE_IO_outputs.lo + F.SAFE_IO_outputs.width ≤ g.lo) (hw : g.lo + g.width ≤ 32) : t.get g = u.get g :=
  h.get.trans (get_driveOutputs_field hw (by rw [hk]; decide) (fun _ => .inr hlo) (fun e => absurd (hk.symm.trans e) (by decide)))

/-- A command that ends in the safe state with a cause. -/
theorem safeWith_of (h : t.Same u.driveOutputs) (hs : u.get F.SAFE_STATUS_state = safeSAFE) (hc : u.get F.SAFE_CAUSE_code = c) :
    t.safeWith c :=
  ⟨(h.get_driven (by decide)).trans hs, (h.get_driven (by decide)).trans hc, Same_off h hs⟩

/-! ### The safety message -/

/-- A message, or that there is none, adds to the messages sent and changes nothing else of the records. -/
theorem sendSafetyWith_safe : ∃ ms, (s.sendSafetyWith c).safe = { s.safe with msgs := s.safe.msgs ++ ms } := by
  have hbase : ∃ ms, s.safe = { s.safe with msgs := s.safe.msgs ++ ms } := ⟨[], by rw [List.append_nil]⟩
  unfold State.sendSafetyWith
  split
  · exact hbase
  · extract_lets linked u bs
    have hu : u.safe = s.safe := by
      unfold u
      split
      · rw [State.incWrap_def, set_safe]
      · rfl
    refine State.each_keeps (P := fun x => ∃ ms, x.safe = { s.safe with msgs := s.safe.msgs ++ ms }) (fun x tp hx => ?_) _ u (by rwa [hu])
    obtain ⟨ms, hx⟩ := hx
    split
    · exact ⟨ms, hx⟩
    · split
      · exact ⟨ms ++ [{ port := tp, bytes := bs }], by rw [hx, List.append_assoc]⟩
      · exact ⟨ms, by rw [raise_safe, hx]⟩

theorem sendSafety_safe : ∃ ms, s.sendSafety.safe = { s.safe with msgs := s.safe.msgs ++ ms } := sendSafetyWith_safe

theorem get_sendSafety (h : State.sendSafety_mask.testBit (regKind g.key) = false) : s.sendSafety.get g = s.get g :=
  (State.sendSafety_frame (Within.refl _) (.refl _ s)).get g h

/-- A change of the safety unit is what `f` changes, with a message where it is to be told. -/
theorem safeChange_cases {f : State → State} : s.safeChange f = f s ∨ s.safeChange f = (f s).sendSafety := by
  unfold State.safeChange
  dsimp only
  split
  · exact .inl rfl
  · exact .inr rfl

theorem get_safeChange {f : State → State} (h : State.sendSafety_mask.testBit (regKind g.key) = false) :
    (s.safeChange f).get g = (f s).get g := by
  rcases safeChange_cases (s := s) (f := f) with e | e
  · rw [e]
  · rw [e, get_sendSafety h]

theorem safeChange_safe {f : State → State} : ∃ ms, (s.safeChange f).safe = { (f s).safe with msgs := (f s).safe.msgs ++ ms } := by
  rcases safeChange_cases (s := s) (f := f) with e | e
  · exact ⟨[], by rw [e, List.append_nil]⟩
  · rw [e]
    exact sendSafety_safe

theorem safeChange_cfg {f : State → State} : (s.safeChange f).cfg = (f s).cfg := by
  rcases safeChange_cases (s := s) (f := f) with e | e
  · rw [e]
  · rw [e, (State.sendSafety_frame (Within.refl _) (.refl _ _)).cfg rfl]

/-! ### Causes and tests -/

/-- The fields of SAFE_STATUS beside `cause_active` after a change of the active causes. -/
theorem get_setActive {l : List Nat} (hg : g = F.SAFE_STATUS_state ∨ g = F.SAFE_STATUS_overdue) : (s.setActive l).get g = s.get g := by
  unfold State.setActive State.setB
  rcases hg with rfl | rfl
  · exact State.get_set_field (f := F.SAFE_STATUS_state) (g := F.SAFE_STATUS_cause_active) rfl (by decide) (by decide)
  · exact State.get_set_field (f := F.SAFE_STATUS_overdue) (g := F.SAFE_STATUS_cause_active) rfl (by decide) (by decide)

theorem get_causeOff (hg : g = F.SAFE_STATUS_state ∨ g = F.SAFE_STATUS_overdue) : (s.causeOff c).get g = s.get g := get_setActive hg

theorem get_causeOn (hg : g = F.SAFE_STATUS_state ∨ g = F.SAFE_STATUS_overdue) : (s.causeOn c).get g = s.get g := by
  unfold State.causeOn
  split
  · rfl
  · exact get_setActive hg

theorem causeOff_safe : (s.causeOff c).safe = { s.safe with active := s.safe.active.filter (fun k => k != c) } := by
  unfold State.causeOff State.setActive State.setB
  rw [set_safe]

theorem get_causeOff_kind (h : regKind g.key ≠ 271) : (s.causeOff c).get g = s.get g := by
  unfold State.causeOff State.setActive State.setB
  rw [State.get_set_kind (by rw [F.SAFE_STATUS_cause_active_kind]; exact h)]
  rfl

theorem get_causeOn_kind (h : regKind g.key ≠ 271) : (s.causeOn c).get g = s.get g := by
  unfold State.causeOn State.setActive State.setB
  split
  · rfl
  · rw [State.get_set_kind (by rw [F.SAFE_STATUS_cause_active_kind]; exact h)]
    rfl

/-- The registers of a test item that has completed. -/
def State.testShown (s : State) (k : Nat) (b : Bool) : State :=
  ((s.inc (F.SAFE_TEST_completions k)).setB (F.SAFE_TEST_failed k) b).set (F.SAFE_TEST_overdue k) 0

/-- The time of a test item noted. -/
def State.testNoted (s : State) (k : Nat) : State := { s with safe := { s.safe with testAt := tset 0 s.safe.testAt k s.clk.now } }

theorem testDone_eq : s.testDone k b = ((s.testShown k b).testNoted k).showOverdue := rfl

theorem get_testNoted : (s.testNoted k).get g = s.get g := rfl

theorem testShown_shows : (s.testShown k b).get (F.SAFE_TEST_completions k) = min (s.get (F.SAFE_TEST_completions k) + 1) 65535 ∧
    (s.testShown k b).get (F.SAFE_TEST_failed k) = bit b ∧ (s.testShown k b).get (F.SAFE_TEST_overdue k) = 0 := by
  unfold State.testShown State.setB
  refine ⟨?_, ?_, ?_⟩
  · rw [State.get_set_field (f := F.SAFE_TEST_completions k) (g := F.SAFE_TEST_overdue k) rfl
      (by simp [F.SAFE_TEST_completions, F.SAFE_TEST_overdue]) (by simp [F.SAFE_TEST_completions]),
      State.get_set_field (f := F.SAFE_TEST_completions k) (g := F.SAFE_TEST_failed k) rfl
      (by simp [F.SAFE_TEST_completions, F.SAFE_TEST_failed]) (by simp [F.SAFE_TEST_completions]), get_inc (by simp [F.SAFE_TEST_completions])]
    rfl
  · rw [State.get_set_field (f := F.SAFE_TEST_failed k) (g := F.SAFE_TEST_overdue k) rfl
      (by simp [F.SAFE_TEST_failed, F.SAFE_TEST_overdue]) (by simp [F.SAFE_TEST_failed]), State.get_set (by simp [F.SAFE_TEST_failed])]
    cases b <;> rfl
  · rw [State.get_set (by simp [F.SAFE_TEST_overdue]), Nat.zero_mod]

theorem get_testShown (h : regKind g.key ≠ 283) : (s.testShown k b).get g = s.get g := by
  unfold State.testShown State.setB
  rw [State.inc_def, State.get_set_kind (by simpa using h), State.get_set_kind (by simpa using h), State.get_set_kind (by simpa using h)]

theorem get_showOverdue (h : regKind g.key ≠ 271) : s.showOverdue.get g = s.get g := by
  unfold State.showOverdue
  extract_lets any u
  have hu : u.get g = s.get g := State.get_set_kind (by rw [F.SAFE_STATUS_overdue_kind]; exact h)
  split
  · exact hu
  · rw [get_causeOff_kind h, hu]

theorem showOverdue_state : s.showOverdue.get F.SAFE_STATUS_state = s.get F.SAFE_STATUS_state := by
  unfold State.showOverdue
  extract_lets any u
  have hu : u.get F.SAFE_STATUS_state = s.get F.SAFE_STATUS_state :=
    State.get_set_field (f := F.SAFE_STATUS_state) (g := F.SAFE_STATUS_overdue) rfl (by decide) (by decide)
  split
  · exact hu
  · rw [get_causeOff (.inl rfl), hu]

/-- What a completed test changes of the records: when it ran, and the active causes. -/
theorem testDone_safe : ∃ at_ l, (s.testDone k b).safe = { s.safe with testAt := at_, active := l } := by
  rw [testDone_eq]
  unfold State.showOverdue
  extract_lets any u
  have hu : u.safe = { s.safe with testAt := tset 0 s.safe.testAt k s.clk.now } := by
    have hshown : (s.testShown k b).safe = s.safe := by
      unfold State.testShown State.setB
      rw [State.inc_def, set_safe, set_safe, set_safe]
    have hclk : (s.testShown k b).clk = s.clk := by
      unfold State.testShown State.setB
      rw [State.inc_def, set_clk, set_clk, set_clk]
    unfold u State.setB State.testNoted
    rw [set_safe, hshown, hclk]
  split
  · exact ⟨_, _, hu⟩
  · exact ⟨_, _, by rw [causeOff_safe, hu]⟩

theorem testDone_state : (s.testDone k b).get F.SAFE_STATUS_state = s.get F.SAFE_STATUS_state := by
  rw [testDone_eq, showOverdue_state, get_testNoted, get_testShown (by simp)]

theorem get_testDone (h1 : regKind g.key ≠ 271) (h3 : regKind g.key ≠ 283) : (s.testDone k b).get g = s.get g := by
  rw [testDone_eq, get_showOverdue h1, get_testNoted, get_testShown h3]

/-- A completed test shows its run and its result. -/
theorem testDone_tested : s.tested (s.testDone k b) k b := by
  obtain ⟨hcount, hfailed, hoverdue⟩ := testShown_shows (s := s) (k := k) (b := b)
  unfold State.tested
  rw [testDone_eq, get_showOverdue (by simp), get_showOverdue (by simp), get_showOverdue (by simp)]
  exact ⟨hcount, hfailed, hoverdue⟩

/-- What is tested stays so where the registers of the tests stay. -/
theorem State.tested.of_get (h : s.tested t k b) (hg : ∀ g : Field, regKind g.key = 283 → u.get g = t.get g) : s.tested u k b := by
  obtain ⟨hcount, hfailed, hoverdue⟩ := h
  unfold State.tested
  rw [hg _ (by simp), hg _ (by simp), hg _ (by simp)]
  exact ⟨hcount, hfailed, hoverdue⟩

/-! ### The entry of the safe state -/

theorem isSafe_false (h : s.isSafe = false) : s.get F.SAFE_STATUS_state ≠ safeSAFE := by simpa [State.isSafe] using h

theorem isSafe_true (h : s.isSafe = true) : s.get F.SAFE_STATUS_state = safeSAFE := by simpa [State.isSafe] using h

theorem isSafe_of_state (h : t.get F.SAFE_STATUS_state = s.get F.SAFE_STATUS_state) : t.isSafe = s.isSafe := by
  unfold State.isSafe
  rw [h]

theorem enterSafe_idle (h : s.isSafe = true) : s.enterSafe c k = s := if_pos h

/-- The registers of an entry of the safe state. -/
def State.safeShown (s : State) (c k : Nat) : State :=
  (((s.set F.SAFE_STATUS_state safeSAFE).set F.SAFE_CAUSE_code c).inc F.SAFE_CAUSE_entries).raise Code.SAFE_STATE_ENTERED [c, k]

/-- The pulses ended and the outputs of the host off. -/
def State.safeQuiet (s : State) : State := { s.endAllPulses with fio := { s.fio with hostOn := 0 } }

/-- The time of an entry noted, and a running output test ended. -/
def State.safeEntered (s : State) : State := { s with safe := { s.safe with enteredAt := s.clk.now, outTest := none } }

/-- The pulses ended, the outputs of the host off, the entry noted. -/
def State.safeHalted (s : State) : State := s.safeQuiet.safeEntered

theorem get_safeHalted (h : State.endAllPulses_mask.testBit (regKind g.key) = false) : s.safeHalted.get g = s.get g :=
  (State.endAllPulses_frame (Within.refl _) (.refl _ s)).get g h

theorem enterSafe_eq (h : s.isSafe = false) : s.enterSafe c k = (s.safeShown c k).safeHalted.sendSafety.fireAll 7 := by
  unfold State.enterSafe State.safeHalted State.safeEntered State.safeQuiet State.safeShown
  rw [if_neg (by simp [h])]

theorem safeShown_cause (hc : c < 2 ^ 16) : (s.safeShown c k).get F.SAFE_CAUSE_code = c := by
  unfold State.safeShown
  rw [get_raise (by decide), State.inc_def, State.get_set_field (f := F.SAFE_CAUSE_code) (g := F.SAFE_CAUSE_entries) rfl (by decide) (by decide),
    State.get_set (by decide)]
  exact Nat.mod_eq_of_lt hc

/-- The cause of an entry stands in SAFE_CAUSE. -/
theorem enterSafe_cause (h : s.isSafe = false) (hc : c < 2 ^ 16) : (s.enterSafe c k).get F.SAFE_CAUSE_code = c := by
  rw [enterSafe_eq h, get_fireAll (by decide), get_sendSafety (by decide), get_safeHalted (by decide), safeShown_cause hc]

theorem enterSafeHeld_cause (h : s.isSafe = false) (hc : c < 2 ^ 16) : (s.enterSafeHeld c k).get F.SAFE_CAUSE_code = c :=
  enterSafe_cause ((isSafe_of_state (get_causeOn (.inl rfl))).trans h) hc

theorem get_enterSafe (h : State.enterSafe_mask.testBit (regKind g.key) = false) : (s.enterSafe c k).get g = s.get g :=
  (State.enterSafe_frame (Within.refl _) (.refl _ s)).get g h

/-- What an entry changes of the records: its time, an output test that it ends, the messages sent. -/
theorem enterSafe_safe : ∃ e o ms, (s.enterSafe c k).safe = { s.safe with enteredAt := e, outTest := o, msgs := ms } := by
  by_cases h : s.isSafe = true
  · rw [enterSafe_idle h]
    exact ⟨_, _, _, rfl⟩
  · have hsafe : (s.safeShown c k).endAllPulses.safe = s.safe := by
      rw [(State.endAllPulses_frame (Within.refl _) (.refl _ _)).safe rfl, State.safeShown, raise_safe, State.inc_def, set_safe, set_safe, set_safe]
    obtain ⟨ms, hms⟩ := sendSafety_safe (s := (s.safeShown c k).safeHalted)
    rw [enterSafe_eq (by simpa using h), fireAll_safe, hms, State.safeHalted, State.safeEntered, State.safeQuiet, hsafe]
    exact ⟨_, _, _, rfl⟩

end SafeUnit

end Sys2Proof.Machine
end

section
/-! PROOFS. Safe inputs and outputs: the holds of the outputs, the demands and the faults of the inputs, and what settles them (R378, R379). -/

namespace Sys2Proof.Machine

open Sys2Proof

section SafeInputs

variable {s t u v : State} {f g : Field} {c : State → Nat → Bool} {i j k o ch : Nat} {b : Bool}

/-! ### One bit of a field -/

/-- The bits of a field after one of them is written. -/
theorem testBit_setBit (hw : f.lo + f.width ≤ 32) (hi : i < f.width) :
    ((s.setBit f i b).get f).testBit j = if j = i then b else (s.get f).testBit j := by
  by_cases hj : j = i
  · rw [hj, if_pos rfl, get_setBit hw hi]
  · have hclear : ((if (s.get f).testBit i then s.get f - 2 ^ i else s.get f)).testBit j = (s.get f).testBit j := by
      split
      · rw [testBit_sub_two_pow ‹_›]
        simp [hj]
      · rfl
    have hoff : ((if (s.get f).testBit i then s.get f - 2 ^ i else s.get f)).testBit i = false := by
      split
      · rw [testBit_sub_two_pow ‹_›]
        simp
      · exact Bool.eq_false_iff.mpr ‹_›
    have hwritten : (if b then (if (s.get f).testBit i then s.get f - 2 ^ i else s.get f) + 2 ^ i
        else (if (s.get f).testBit i then s.get f - 2 ^ i else s.get f)).testBit j = (s.get f).testBit j := by
      cases b
      · exact hclear
      · refine (testBit_add_two_pow hoff j).trans ?_
        simp [hclear, hj]
    rw [if_neg hj, State.setBit, State.get_set hw, Nat.testBit_mod_two_pow, hwritten]
    by_cases hjw : j < f.width
    · simp [hjw]
    · rw [Nat.testBit_lt_two_pow (lt_of_lt_of_le get_lt (Nat.pow_le_pow_right (by omega) (Nat.not_lt.mp hjw))), Bool.and_false]

theorem setBit_eq_set : ∃ n, s.setBit f i b = s.set f n := ⟨_, rfl⟩

theorem get_setBit_kind (h : regKind g.key ≠ regKind f.key) : (s.setBit f i b).get g = s.get g := by
  obtain ⟨n, hn⟩ := setBit_eq_set (s := s) (f := f) (i := i) (b := b)
  rw [hn, State.get_set_kind h]

theorem get_setBit_field (hk : g.key = f.key) (h : g.lo + g.width ≤ f.lo ∨ f.lo + f.width ≤ g.lo) (hw : g.lo + g.width ≤ 32) :
    (s.setBit f i b).get g = s.get g := by
  obtain ⟨n, hn⟩ := setBit_eq_set (s := s) (f := f) (i := i) (b := b)
  rw [hn, State.get_set_field hk h hw]

@[simp] theorem setBit_safe : (s.setBit f i b).safe = s.safe := by rw [State.setBit, set_safe]
@[simp] theorem setBit_cfg : (s.setBit f i b).cfg = s.cfg := by rw [State.setBit, set_cfg]

/-! ### Loops -/

/-- A loop reaches what one of its steps brings about and no step undoes. -/
theorem State.each_reaches {α : Type} {P Q : State → Prop} {h : State → α → State} {a : α} (hQ : ∀ s b, Q s → Q (h s b))
    (hP : ∀ s b, P s → P (h s b)) (hset : ∀ s, Q s → P (h s a)) {l : List α} (hm : a ∈ l) (hq : Q s) : P (s.each l h) := by
  induction l generalizing s with
  | nil => cases hm
  | cons b l ih =>
    rw [State.each_cons]
    rcases List.mem_cons.mp hm with rfl | hm
    · exact State.each_keeps hP l _ (hset s hq)
    · exact ih hm (hQ s b hq)

/-! ### States with the same inputs -/

/-- The demands and the faults of the safe inputs, their agreement, and the configuration, as they were. -/
structure State.SameInputs (s t : State) : Prop where
  cfg : t.cfg = s.cfg
  safe : t.safe = s.safe
  demand : t.get F.SAFE_IO_demand = s.get F.SAFE_IO_demand
  fault : t.get F.SAFE_IO_input_fault = s.get F.SAFE_IO_input_fault

theorem State.SameInputs.refl : s.SameInputs s := ⟨rfl, rfl, rfl, rfl⟩

theorem State.SameInputs.trans (h : s.SameInputs t) (h' : t.SameInputs u) : s.SameInputs u :=
  ⟨h'.cfg.trans h.cfg, h'.safe.trans h.safe, h'.demand.trans h.demand, h'.fault.trans h.fault⟩

theorem safeOut_of_cfg (h : t.cfg = s.cfg) : t.safeOut o = s.safeOut o := by rw [State.safeOut, h, State.safeOut]
theorem safeIn_of_cfg (h : t.cfg = s.cfg) : t.safeIn i = s.safeIn i := by rw [State.safeIn, h, State.safeIn]
theorem mapped_of_cfg (h : t.cfg = s.cfg) : t.mapped i o = s.mapped i o := by rw [State.mapped, safeIn_of_cfg h, State.mapped]

theorem State.SameInputs.demandEnded (h : s.SameInputs t) : t.demandEnded o = s.demandEnded o := by
  unfold State.demandEnded State.insists
  rw [mapped_of_cfg h.cfg, mapped_of_cfg h.cfg, h.demand, h.fault, h.safe]

/-! ### Holds -/

/-- Output `o` is held, or no longer held, where `c` says so. -/
def State.holdIf (c : State → Nat → Bool) (b : Bool) (s : State) (o : Nat) : State :=
  if c s o then s.setBit F.SAFE_IO_held o b else s

theorem holdIf_sameInputs : s.SameInputs (s.holdIf c b o) := by
  unfold State.holdIf
  split
  · exact ⟨setBit_cfg, setBit_safe, get_setBit_field rfl (by decide) (by decide), get_setBit_field rfl (by decide) (by decide)⟩
  · exact .refl

theorem holdIf_each_sameInputs {l : List Nat} : s.SameInputs (s.each l (State.holdIf c b)) :=
  State.each_keeps (P := s.SameInputs) (fun _ _ h => h.trans holdIf_sameInputs) _ _ .refl

theorem holdIf_bit (ho : o < 2) :
    ((s.holdIf c b o).get F.SAFE_IO_held).testBit j = if j = o ∧ c s o = true then b else (s.get F.SAFE_IO_held).testBit j := by
  unfold State.holdIf
  by_cases h : c s o = true
  · rw [if_pos h, testBit_setBit (by decide) ho]
    simp [h]
  · rw [if_neg h, if_neg (fun e => h e.2)]

/-- Both outputs after a change of the holds by a condition on the inputs. -/
theorem holdIf_each_bit (hc : ∀ t, s.SameInputs t → ∀ o, c t o = c s o) (ho : o < 2) :
    ((s.each [0, 1] (State.holdIf c b)).get F.SAFE_IO_held).testBit o = if c s o then b else (s.get F.SAFE_IO_held).testBit o := by
  rw [State.each_cons, State.each_cons, State.each_nil, holdIf_bit (by decide), holdIf_bit (by decide), hc _ holdIf_sameInputs]
  rcases (show o = 0 ∨ o = 1 by omega) with rfl | rfl <;> simp

theorem get_holdIf_each {l : List Nat} (h : regKind g.key ≠ 275) : (s.each l (State.holdIf c b)).get g = s.get g := by
  refine each_keeps (fun s => s.get g) (fun s o => ?_) l s
  unfold State.holdIf
  split
  · exact get_setBit_kind (by simpa using h)
  · rfl

/-- A field of SAFE_IO below the holds. -/
theorem holdIf_each_below {l : List Nat} (hk : g.key = F.SAFE_IO_held.key) (hlo : g.lo + g.width ≤ 12) :
    (s.each l (State.holdIf c b)).get g = s.get g := by
  refine each_keeps (fun s => s.get g) (fun s o => ?_) l s
  unfold State.holdIf
  split
  · exact get_setBit_field hk (.inl hlo) (by omega)
  · rfl

/-! ### Resets and the end of faults -/

/-- The MANUAL outputs whose demand has ended are reset. -/
theorem resetOutput_eq : State.resetOutput = State.holdIf (fun s o => (s.safeOut o).manual && s.demandEnded o) false := rfl

theorem resetOutputs_bit (ho : o < 2) : ((s.each [0, 1] State.resetOutput).get F.SAFE_IO_held).testBit o =
    if (s.safeOut o).manual && s.demandEnded o then false else (s.get F.SAFE_IO_held).testBit o := by
  rw [resetOutput_eq, holdIf_each_bit (fun t h o => by rw [safeOut_of_cfg h.cfg, h.demandEnded]) ho]

/-- The AUTO outputs whose demand has ended are reset. -/
def State.autoReset (s : State) : State := s.each [0, 1] (State.holdIf (fun s o => !(s.safeOut o).manual && s.demandEnded o) false)

theorem autoReset_sameInputs : s.SameInputs s.autoReset := holdIf_each_sameInputs

theorem autoReset_bit (ho : o < 2) : (s.autoReset.get F.SAFE_IO_held).testBit o =
    if !(s.safeOut o).manual && s.demandEnded o then false else (s.get F.SAFE_IO_held).testBit o :=
  holdIf_each_bit (fun t h o => by rw [safeOut_of_cfg h.cfg, h.demandEnded]) ho

/-- Input `i` may end its fault. -/
def State.faultEnds (s : State) (i : Nat) : Bool :=
  (s.get F.SAFE_IO_input_fault).testBit i && !s.insists i && [0, 1].all (fun o => !s.mapped i o || !(s.get F.SAFE_IO_held).testBit o)

theorem endInputFault_idle (h : s.faultEnds i = false) : s.endInputFault i = s := if_neg (by simpa [State.faultEnds] using h)

theorem endInputFault_ends (h : s.faultEnds i = true) : s.endInputFault i =
    { s.setBit F.SAFE_IO_input_fault i false with safe := { s.safe with agreed := s.safe.agreed.filter (fun k => k != i) } } :=
  if_pos h

/-- What the end of a fault leaves of the registers. -/
theorem get_endInputFault (h : regKind g.key ≠ 275 ∨ g.key = F.SAFE_IO_input_fault.key ∧ (g.lo + g.width ≤ 10 ∨ 12 ≤ g.lo) ∧
    g.lo + g.width ≤ 32) : (s.endInputFault i).get g = s.get g := by
  by_cases he : s.faultEnds i = true
  · rw [endInputFault_ends he]
    show (s.setBit F.SAFE_IO_input_fault i false).get g = s.get g
    rcases h with h | ⟨hk, hlo, hw⟩
    · exact get_setBit_kind (by simpa using h)
    · exact get_setBit_field hk hlo hw
  · rw [endInputFault_idle (by simpa using he)]

theorem endInputFault_cfg : (s.endInputFault i).cfg = s.cfg := by
  by_cases he : s.faultEnds i = true
  · rw [endInputFault_ends he]
    exact setBit_cfg (f := F.SAFE_IO_input_fault) (i := i) (b := false)
  · rw [endInputFault_idle (by simpa using he)]

theorem endInputFault_safe : ∃ a, (s.endInputFault i).safe = { s.safe with agreed := a } := by
  by_cases he : s.faultEnds i = true
  · rw [endInputFault_ends he]
    exact ⟨_, rfl⟩
  · rw [endInputFault_idle (by simpa using he)]
    exact ⟨_, rfl⟩

/-- The faults end that may. -/
def State.faultsEnded (s : State) : State := s.each [0, 1] State.endInputFault

theorem get_faultsEnded (h : regKind g.key ≠ 275 ∨ g.key = F.SAFE_IO_input_fault.key ∧ (g.lo + g.width ≤ 10 ∨ 12 ≤ g.lo) ∧
    g.lo + g.width ≤ 32) : s.faultsEnded.get g = s.get g :=
  each_keeps (fun s => s.get g) (fun _ _ => get_endInputFault h) _ s

theorem faultsEnded_safe : ∃ a, s.faultsEnded.safe = { s.safe with agreed := a } := by
  refine State.each_keeps (P := fun t => ∃ a, t.safe = { s.safe with agreed := a }) (fun t i ⟨a, ha⟩ => ?_) _ s ⟨_, rfl⟩
  obtain ⟨a', ha'⟩ := endInputFault_safe (s := t) (i := i)
  exact ⟨a', by rw [ha', ha]⟩

/-- Inputs and outputs settle: AUTO outputs are reset, faults end, and the cause of a demand where none is left. -/
theorem settleInputs_cases : s.settleInputs = s.autoReset.faultsEnded ∨
    s.settleInputs = s.autoReset.faultsEnded.causeOff Code.SAFE_INPUT_DEMAND := by
  unfold State.settleInputs State.faultsEnded State.autoReset State.holdIf
  dsimp only
  split
  · exact .inl rfl
  · exact .inr rfl

/-- The registers beside SAFE_STATUS after inputs and outputs settle. -/
theorem get_settleInputs_io (h : regKind g.key ≠ 271) : s.settleInputs.get g = s.autoReset.faultsEnded.get g := by
  rcases settleInputs_cases (s := s) with e | e
  · rw [e]
  · rw [e, get_causeOff_kind h]

theorem settleInputs_held (ho : o < 2) : (s.settleInputs.get F.SAFE_IO_held).testBit o =
    if !(s.safeOut o).manual && s.demandEnded o then false else (s.get F.SAFE_IO_held).testBit o := by
  rw [get_settleInputs_io (by decide), get_faultsEnded (g := F.SAFE_IO_held) (.inr ⟨rfl, by decide, by decide⟩), autoReset_bit ho]

/-- The levels and the demands of the inputs stay. -/
theorem get_settleInputs_below (hk : g.key = F.SAFE_IO_held.key) (hlo : g.lo + g.width ≤ 10) : s.settleInputs.get g = s.get g := by
  rw [get_settleInputs_io (by rw [hk]; decide), get_faultsEnded (.inr ⟨hk, .inl hlo, by omega⟩), State.autoReset,
    holdIf_each_below hk (by omega)]

theorem get_settleInputs (h : regKind g.key ≠ 271) (h' : regKind g.key ≠ 275) : s.settleInputs.get g = s.get g := by
  rw [get_settleInputs_io h, get_faultsEnded (.inl h'), State.autoReset, get_holdIf_each h']

theorem settleInputs_state : s.settleInputs.get F.SAFE_STATUS_state = s.get F.SAFE_STATUS_state := by
  have hended : s.autoReset.faultsEnded.get F.SAFE_STATUS_state = s.get F.SAFE_STATUS_state := by
    rw [get_faultsEnded (.inl (by decide)), State.autoReset, get_holdIf_each (by decide)]
  rcases settleInputs_cases (s := s) with e | e
  · rw [e, hended]
  · rw [e, get_causeOff (.inl rfl), hended]

theorem settleInputs_safe : ∃ a l, s.settleInputs.safe = { s.safe with agreed := a, active := l } := by
  obtain ⟨a, ha⟩ := faultsEnded_safe (s := s.autoReset)
  rw [autoReset_sameInputs.safe] at ha
  rcases settleInputs_cases (s := s) with e | e
  · exact ⟨a, _, by rw [e, ha]⟩
  · exact ⟨a, _, by rw [e, causeOff_safe, ha]⟩

end SafeInputs

end Sys2Proof.Machine
end

section
/-! PROOFS. The commands of the safety unit: FORCE_SAFE, RESET, LOCK and UNLOCK (R379, R382, R384, R386). -/

namespace Sys2Proof.Machine

open Sys2Proof

section SafeCommands

variable {s t u : State} {i : Port} {g : Field} {e : Instr} {f : Keep → Keep} {cmd reason code c o r n left : Nat} {b : Bool}

theorem exec_safeReset {w : ResetBy} : exec (.safeReset w) s = execSafeReset w s := rfl
theorem exec_forceSafe : exec (.forceSafe i) s = execForceSafe i s := rfl
theorem exec_lock : exec (.lock i) s = execLock i s := rfl
theorem exec_unlock : exec (.unlock i) s = execUnlock i s := rfl

/-! ### The result of a command -/

theorem get_safeStatus (h : regKind g.key ≠ regKind (F.SAFE_CMD_STATUS_code i).key) : (s.safeStatus i code reason).get g = s.get g := by
  unfold State.safeStatus
  rw [State.get_set_kind (by simpa using h), State.get_set_kind (by simpa using h)]

/-- What a result shows. -/
theorem safeStatus_shows (hc : code < 2 ^ 16) (hr : reason < 2 ^ 8) :
    (s.safeStatus i code reason).get (F.SAFE_CMD_STATUS_code i) = code ∧
    (s.safeStatus i code reason).get (F.SAFE_CMD_STATUS_reason i) = reason := by
  unfold State.safeStatus
  constructor
  · rw [State.get_set_field (f := F.SAFE_CMD_STATUS_code i) (g := F.SAFE_CMD_STATUS_reason i) rfl
      (by simp [F.SAFE_CMD_STATUS_code, F.SAFE_CMD_STATUS_reason]) (by simp [F.SAFE_CMD_STATUS_code]),
      State.get_set (by simp [F.SAFE_CMD_STATUS_code])]
    exact Nat.mod_eq_of_lt hc
  · rw [State.get_set (by simp [F.SAFE_CMD_STATUS_reason])]
    exact Nat.mod_eq_of_lt hr

theorem safeStatus_safe : (s.safeStatus i code reason).safe = s.safe := by rw [State.safeStatus, set_safe, set_safe]
theorem safeStatus_keep : (s.safeStatus i code reason).keep = s.keep := by rw [State.safeStatus, set_keep, set_keep]
theorem safeStatus_recorder : (s.safeStatus i code reason).recorder = s.recorder := by
  rw [State.safeStatus, set_recorder, set_recorder]

section Answers
variable (hp : s.powered = true)
include hp

/-- A refused command writes and shows its reason and changes nothing of the checker and the keep store. -/
theorem safeRefuse_answers {h : State → State} (he : exec e s = s.run h) (hu : h s = u.safeRefuse i cmd reason)
    (hr : reason < 2 ^ 8) (hsafe : u.safe = s.safe) (hkeep : u.keep = s.keep)
    (hstate : u.get F.SAFE_STATUS_state = s.get F.SAFE_STATUS_state) :
    ∃ t, exec e s = .next t ∧ t.wrote Code.SAFE_CMD_REFUSED [i, cmd, reason] ∧
      t.get (F.SAFE_CMD_STATUS_code i) = Code.SAFE_CMD_REFUSED ∧ t.get (F.SAFE_CMD_STATUS_reason i) = reason ∧ t.safe = s.safe ∧
      t.keep = s.keep ∧ t.get F.SAFE_STATUS_state = s.get F.SAFE_STATUS_state := by
  rw [he]
  refine run_answers_of_effect hp hu fun t ht => ?_
  obtain ⟨hcode, hreason⟩ := safeStatus_shows (s := u.raise Code.SAFE_CMD_REFUSED [i, cmd, reason]) (i := i)
    (code := Code.SAFE_CMD_REFUSED) (reason := reason) (by decide) hr
  rw [ht.get_driven (by simp; decide), ht.get_driven (by simp; decide), ht.get_driven (by decide), ht.safe_driven, ht.keep_driven]
  refine ⟨ht.wrote_driven (wrote_of_recorder (s := u.raise _ _) safeStatus_recorder raise_wrote), hcode, hreason,
    safeStatus_safe.trans (raise_safe.trans hsafe), safeStatus_keep.trans (raise_keep.trans hkeep), ?_⟩
  rw [State.safeRefuse, get_safeStatus (by simp), get_raise (by decide), hstate]

/-- A command that is carried out shows that. -/
theorem safeDone_answers {h : State → State} {P : State → Prop} (he : exec e s = s.run h) (hu : h s = u.safeStatus i 0 0)
    (hP : ∀ t, t.Same (u.safeStatus i 0 0).driveOutputs → P t) : ∃ t, exec e s = .next t ∧ P t ∧
      t.get (F.SAFE_CMD_STATUS_code i) = 0 ∧ t.get (F.SAFE_CMD_STATUS_reason i) = 0 := by
  rw [he]
  refine run_answers_of_effect hp hu fun t ht => ⟨hP t ht, ?_⟩
  rw [ht.get_driven (by simp; decide), ht.get_driven (by simp; decide)]
  exact safeStatus_shows (by decide) (by decide)

/-! ### FORCE_SAFE (R380, R386) -/

theorem forceSafe_enters (hr : s.privileged i = true) (hs : s.isSafe = false) : ∃ t, exec (.forceSafe i) s = .next t ∧
    t.safeWith Code.SAFE_FORCED ∧ t.get (F.SAFE_CMD_STATUS_code i) = 0 ∧ t.get (F.SAFE_CMD_STATUS_reason i) = 0 :=
  safeDone_answers hp (exec_forceSafe.trans rfl) (if_neg (by simp [hr])) fun t ht =>
    safeWith_of ht (by rw [get_safeStatus (by simp), enterSafe_state])
      (by rw [get_safeStatus (by simp), enterSafe_cause ((isSafe_of_state (get_raise (by decide))).trans hs) (by decide)])

theorem forceSafe_stays (hr : s.privileged i = true) (hs : s.isSafe = true) : ∃ t, exec (.forceSafe i) s = .next t ∧
    t.get F.SAFE_STATUS_state = safeSAFE ∧ t.get F.SAFE_CAUSE_code = s.get F.SAFE_CAUSE_code ∧
    t.get (F.SAFE_CMD_STATUS_code i) = 0 ∧ t.get (F.SAFE_CMD_STATUS_reason i) = 0 := by
  obtain ⟨t, ht, ⟨hstate, hcause⟩, hshown⟩ := safeDone_answers (i := i)
    (P := fun t => t.get F.SAFE_STATUS_state = safeSAFE ∧ t.get F.SAFE_CAUSE_code = s.get F.SAFE_CAUSE_code) hp
    (exec_forceSafe.trans rfl) (if_neg (by simp [hr])) fun t ht => by
      rw [ht.get_driven (by decide), ht.get_driven (by decide), get_safeStatus (by simp), get_safeStatus (by simp),
        enterSafe_idle ((isSafe_of_state (get_raise (by decide))).trans hs), get_raise (by decide), get_raise (by decide)]
      exact ⟨isSafe_true hs, rfl⟩
  exact ⟨t, ht, hstate, hcause, hshown⟩

theorem forceSafe_refused (hr : s.privileged i = false) : ∃ t, exec (.forceSafe i) s = .next t ∧
    t.wrote Code.SAFE_CMD_REFUSED [i, 2, srROLE] ∧ t.get (F.SAFE_CMD_STATUS_code i) = Code.SAFE_CMD_REFUSED ∧
    t.get (F.SAFE_CMD_STATUS_reason i) = srROLE ∧ t.safe = s.safe ∧ t.keep = s.keep ∧
    t.get F.SAFE_STATUS_state = s.get F.SAFE_STATUS_state :=
  safeRefuse_answers hp (exec_forceSafe.trans rfl) (if_pos (by simp [hr])) (by decide) rfl rfl rfl

/-! ### RESET (R379, R382) -/

omit hp in
/-- Every context of the structure without its reference. -/
def State.unreferenced (s : State) : State := s.each (upTo 64) (fun s c => if (s.ctxCfg c).defined then s.noReference c else s)

omit hp in
theorem noReference_phase : (s.noReference c).get (F.SAFE_CTX_phase c) = ctxNOREF :=
  State.get_set (f := F.SAFE_CTX_phase c) (by simp [F.SAFE_CTX_phase])

omit hp in
/-- A context without its reference stays so while another loses its own. -/
theorem noReference_keeps (h : s.get (F.SAFE_CTX_phase c) = ctxNOREF) : (s.noReference o).get (F.SAFE_CTX_phase c) = ctxNOREF := by
  by_cases hk : (F.SAFE_CTX_phase c).key = (F.SAFE_CTX_phase o).key
  · have hf : F.SAFE_CTX_phase c = F.SAFE_CTX_phase o := by
      simpa [F.SAFE_CTX_phase] using hk
    rw [hf, noReference_phase]
  · exact (State.get_set_ne _ _ _ _ hk).trans h

omit hp in
theorem noReference_cfg : (s.noReference c).cfg = s.cfg :=
  (State.noReference_frame (Within.refl _) (.refl _ s)).cfg rfl

omit hp in
theorem unreferenced_phase (hc : c < 64) (hd : (s.ctxCfg c).defined = true) : s.unreferenced.get (F.SAFE_CTX_phase c) = ctxNOREF := by
  refine State.each_reaches (a := c) (P := fun t => t.get (F.SAFE_CTX_phase c) = ctxNOREF) (Q := fun t => t.cfg = s.cfg) (fun t b ht => ?_)
    (fun t b ht => ?_) (fun t ht => ?_) (List.mem_range.mpr hc) rfl
  · split
    · rw [noReference_cfg, ht]
    · exact ht
  · split
    · exact noReference_keeps ht
    · exact ht
  · rw [if_pos (by rw [ctxCfg_of_cfg ht, hd]), noReference_phase]

omit hp in
theorem get_unreferenced (h : regKind g.key ≠ 282) : s.unreferenced.get g = s.get g :=
  each_keeps (fun s => s.get g) (fun s c => by
    split
    · exact State.get_set_kind (f := g) (g := F.SAFE_CTX_phase c) (by simpa using h)
    · rfl) _ s

omit hp in
theorem unreferenced_cfg : s.unreferenced.cfg = s.cfg :=
  each_keeps State.cfg (fun s c => by
    split
    · exact noReference_cfg
    · rfl) _ s

omit hp in
/-- The start of the tests again, with no golden frame seen and fresh counters. -/
def State.freshened (s : State) : State := { s with safe := { s.safe with goldenSeen := [], seqFresh := upTo 8 } }

omit hp in
theorem get_freshened : s.freshened.get g = s.get g := rfl

omit hp in
/-- What leaving the safe state writes and shows before its contexts lose their references. -/
def State.leftSafe (s : State) (o : Nat) : State :=
  (s.raise Code.SAFE_STATE_LEFT [o, (s.clk.now - s.safe.enteredAt) / samplesPerS]).set F.SAFE_STATUS_state safeSTART

omit hp in
theorem leaveSafe_eq : s.leaveSafe o = ((s.leftSafe o).unreferenced.freshened.each [0, 1] State.resetOutput).settleInputs := by
  unfold State.leaveSafe State.freshened State.unreferenced State.leftSafe
  rfl

omit hp in
theorem get_resetOutputs (h : regKind g.key ≠ 275) : (s.each [0, 1] State.resetOutput).get g = s.get g := by
  rw [resetOutput_eq, get_holdIf_each h]

omit hp in
theorem leaveSafe_state : (s.leaveSafe o).get F.SAFE_STATUS_state = safeSTART := by
  rw [leaveSafe_eq, settleInputs_state, get_resetOutputs (by decide), get_freshened, get_unreferenced (by decide), State.leftSafe, State.get_set (by decide)]
  rfl

omit hp in
theorem leaveSafe_phase (hc : c < 64) (hd : (s.ctxCfg c).defined = true) : (s.leaveSafe o).get (F.SAFE_CTX_phase c) = ctxNOREF := by
  rw [leaveSafe_eq, get_settleInputs (by simp) (by simp), get_resetOutputs (by simp), get_freshened]
  refine unreferenced_phase hc ?_
  rw [ctxCfg_of_cfg (s := s) (by rw [State.leftSafe, set_cfg, raise_cfg]), hd]

omit hp in
theorem leaveSafe_safe : (s.leaveSafe o).safe.goldenSeen = [] ∧ (s.leaveSafe o).safe.seqFresh = upTo 8 := by
  obtain ⟨a, l, hsafe⟩ := settleInputs_safe (s := (s.leftSafe o).unreferenced.freshened.each [0, 1] State.resetOutput)
  rw [leaveSafe_eq, hsafe, resetOutput_eq, holdIf_each_sameInputs.safe]
  exact ⟨rfl, rfl⟩

omit hp in
/-- What a state shows that has left the safe state. -/
theorem left_of_change (hsafe : t.safe = (s.safeChange (fun s => s.leaveSafe o)).safe)
    (hget : ∀ g : Field, regKind g.key = 271 ∨ regKind g.key = 282 → g.lo + g.width ≤ 2 → t.get g = (s.safeChange (fun s => s.leaveSafe o)).get g) :
    t.get F.SAFE_STATUS_state = safeSTART ∧ t.safe.goldenSeen = [] ∧ t.safe.seqFresh = upTo 8 ∧
      ∀ c < 64, (s.ctxCfg c).defined = true → t.get (F.SAFE_CTX_phase c) = ctxNOREF := by
  obtain ⟨ms, hms⟩ := safeChange_safe (s := s) (f := fun s => s.leaveSafe o)
  obtain ⟨hseen, hfresh⟩ := leaveSafe_safe (s := s) (o := o)
  refine ⟨?_, by rw [hsafe, hms, hseen], by rw [hsafe, hms, hfresh], fun c hc hd => ?_⟩
  · rw [hget _ (.inl rfl) (by decide), get_safeChange (by decide), leaveSafe_state]
  · rw [hget _ (.inr (by simp)) (by simp [F.SAFE_CTX_phase]), get_safeChange (by simp; decide), leaveSafe_phase hc hd]

/-- RESET of a port leaves the safe state where no cause is active. -/
theorem safeReset_leaves (hr : s.privileged i = true) (hs : s.isSafe = true) (hh : s.safeHeld = false) : ∃ t,
    exec (.safeReset (.port i)) s = .next t ∧ t.get F.SAFE_STATUS_state = safeSTART ∧ t.safe.goldenSeen = [] ∧
    t.safe.seqFresh = upTo 8 ∧ t.get (F.SAFE_CMD_STATUS_code i) = 0 ∧ t.get (F.SAFE_CMD_STATUS_reason i) = 0 ∧
    ∀ c < 64, (s.ctxCfg c).defined = true → t.get (F.SAFE_CTX_phase c) = ctxNOREF := by
  obtain ⟨t, ht, ⟨hstate, hseen, hfresh, hphase⟩, hcode, hreason⟩ := safeDone_answers (i := i)
    (P := fun t => t.get F.SAFE_STATUS_state = safeSTART ∧ t.safe.goldenSeen = [] ∧ t.safe.seqFresh = upTo 8 ∧
      ∀ c < 64, (s.ctxCfg c).defined = true → t.get (F.SAFE_CTX_phase c) = ctxNOREF) hp
    ((exec_safeReset (w := .port i)).trans rfl) ((if_neg (by simp [hr])).trans ((if_pos hs).trans (if_neg (by simp [hh])))) fun t ht =>
      left_of_change (ht.safe_driven.trans safeStatus_safe) fun g hg hw => by
        have hk : regKind g.key ≠ 274 := by omega
        rw [ht.get_driven (by rcases hg with h | h <;> rw [h] <;> decide), get_safeStatus (by simpa using hk)]
  exact ⟨t, ht, hstate, hseen, hfresh, hcode, hreason, hphase⟩

theorem safeReset_held (hr : s.privileged i = true) (hs : s.isSafe = true) (hh : s.safeHeld = true) : ∃ t,
    exec (.safeReset (.port i)) s = .next t ∧ t.wrote Code.SAFE_CMD_REFUSED [i, 1, srCAUSEACTIVE] ∧
    t.get (F.SAFE_CMD_STATUS_code i) = Code.SAFE_CMD_REFUSED ∧ t.get (F.SAFE_CMD_STATUS_reason i) = srCAUSEACTIVE ∧ t.safe = s.safe ∧
    t.keep = s.keep ∧ t.get F.SAFE_STATUS_state = s.get F.SAFE_STATUS_state :=
  safeRefuse_answers hp ((exec_safeReset (w := .port i)).trans rfl) ((if_neg (by simp [hr])).trans ((if_pos hs).trans (if_pos hh))) (by decide) rfl rfl rfl

theorem safeReset_refused (hr : s.privileged i = false) : ∃ t, exec (.safeReset (.port i)) s = .next t ∧
    t.wrote Code.SAFE_CMD_REFUSED [i, 1, srROLE] ∧ t.get (F.SAFE_CMD_STATUS_code i) = Code.SAFE_CMD_REFUSED ∧
    t.get (F.SAFE_CMD_STATUS_reason i) = srROLE ∧ t.safe = s.safe ∧ t.keep = s.keep ∧
    t.get F.SAFE_STATUS_state = s.get F.SAFE_STATUS_state :=
  safeRefuse_answers hp ((exec_safeReset (w := .port i)).trans rfl) (if_pos (by simp [hr])) (by decide) rfl rfl rfl

omit hp in
/-- A MANUAL output after resets and settling. -/
theorem reset_held (ho : o < 2) (hm : (s.safeOut o).manual = true) :
    ((s.each [0, 1] State.resetOutput).settleInputs.get F.SAFE_IO_held).testBit o = ((s.get F.SAFE_IO_held).testBit o && !s.demandEnded o) := by
  have hout : ((s.each [0, 1] State.resetOutput).safeOut o).manual = true := by
    rw [resetOutput_eq, safeOut_of_cfg holdIf_each_sameInputs.cfg, hm]
  rw [settleInputs_held ho, hout, resetOutputs_bit ho, hm]
  cases s.demandEnded o <;> simp

theorem safeReset_outputs (hr : s.privileged i = true) (hs : s.isSafe = false) : ∃ t, exec (.safeReset (.port i)) s = .next t ∧
    t.get (F.SAFE_CMD_STATUS_code i) = 0 ∧ t.get (F.SAFE_CMD_STATUS_reason i) = 0 ∧
    t.get F.SAFE_STATUS_state = s.get F.SAFE_STATUS_state ∧ ∀ o < 2, (s.safeOut o).manual = true →
      (t.get F.SAFE_IO_held).testBit o = ((s.get F.SAFE_IO_held).testBit o && !s.demandEnded o) := by
  obtain ⟨t, ht, ⟨hstate, hheld⟩, hcode, hreason⟩ := safeDone_answers (i := i)
    (P := fun t => t.get F.SAFE_STATUS_state = s.get F.SAFE_STATUS_state ∧ ∀ o < 2, (s.safeOut o).manual = true →
      (t.get F.SAFE_IO_held).testBit o = ((s.get F.SAFE_IO_held).testBit o && !s.demandEnded o)) hp
    ((exec_safeReset (w := .port i)).trans rfl) ((if_neg (by simp [hr])).trans (if_neg (by simp [hs]))) fun t ht => by
      refine ⟨?_, fun o ho hm => ?_⟩
      · rw [ht.get_driven (by decide), get_safeStatus (by simp), get_safeChange (by decide), settleInputs_state, get_resetOutputs (by decide)]
      · rw [ht.safeIo_driven (g := F.SAFE_IO_held) rfl (by decide) (by decide), get_safeStatus (by simp), get_safeChange (by decide), reset_held ho hm]
  exact ⟨t, ht, hcode, hreason, hstate, hheld⟩

/-- The reset input that the structure names leaves the safe state where no cause is active. -/
theorem resetInput_leaves {n : Fin 32} (hf : s.hasField = true) (hs : s.isSafe = true)
    (hn : s.cfg.safety.resetByInput = some n.val) (hh : s.safeHeld = false) : ∃ t, exec (.safeReset (.input n)) s = .next t ∧
    t.get F.SAFE_STATUS_state = safeSTART ∧ t.safe.goldenSeen = [] ∧ t.safe.seqFresh = upTo 8 ∧
    ∀ c < 64, (s.ctxCfg c).defined = true → t.get (F.SAFE_CTX_phase c) = ctxNOREF := by
  rw [exec_safeReset]
  refine run_answers_of_effect hp ((if_neg (by simp [hf])).trans ((if_pos hs).trans (if_pos (by simp [hn, hh])))) fun t ht => ?_
  exact left_of_change ht.safe_driven fun g hg hw => ht.get_driven (by rcases hg with h | h <;> rw [h] <;> decide)

theorem resetInput_idle {n : Fin 32} (hs : s.isSafe = true) (h : s.cfg.safety.resetByInput ≠ some n.val ∨ s.safeHeld = true) :
    ∃ t, exec (.safeReset (.input n)) s = .next t ∧ t.get F.SAFE_STATUS_state = safeSAFE ∧ t.safe = s.safe := by
  have hno : (s.cfg.safety.resetByInput == some n.val && !s.safeHeld) = false := by
    rcases h with h | h <;> simp [h]
  rw [exec_safeReset]
  refine run_answers_of_effect (u := s) hp ?_ fun t ht => ⟨(ht.get_driven (by decide)).trans (isSafe_true hs), ht.safe_driven⟩
  cases s.hasField with
  | false => exact if_pos (by simp)
  | true => exact (if_neg (by simp)).trans ((if_pos hs).trans (if_neg (by simp [hno])))

/-! ### LOCK and UNLOCK (R384) -/

omit hp in
/-- The state of the checker stands in SAFE_STATUS beside the lock. -/
theorem showKeep_state : s.showKeep.get F.SAFE_STATUS_state = s.get F.SAFE_STATUS_state := by
  have hlock : ∀ (u : State) v, (u.set F.SAFE_STATUS_lock v).get F.SAFE_STATUS_state = u.get F.SAFE_STATUS_state :=
    fun _ _ => State.get_set_field rfl (by decide) (by decide)
  simp only [State.showKeep, State.setB]
  rw [get_each_set_kind (by simp)]
  simp [State.get_set_kind, hlock]

omit hp in
theorem showKeep_lock : s.showKeep.get F.SAFE_STATUS_lock = bit s.keep.lock := by
  have hbit : bit s.keep.lock % 2 ^ F.SAFE_STATUS_lock.width = bit s.keep.lock := by cases s.keep.lock <;> rfl
  simp only [State.showKeep, State.setB]
  rw [get_each_set_kind (by simp), State.get_set_kind (by simp), State.get_set (by decide), hbit]

omit hp in
theorem spend_state : (s.spend n left f).get F.SAFE_STATUS_state = s.get F.SAFE_STATUS_state :=
  (get_raise (by decide)).trans showKeep_state

omit hp in
/-- A ratchet step spent and the lock written. -/
def State.lockWritten (s : State) (b : Bool) : State :=
  ((s.spend ratSAFETY (s.keep.safetyLeft - 1) (fun k => { k with safetyLeft := k.safetyLeft - 1 })).keepWrite recLOCK
    (fun k => { k with lock := b })).showKeep

omit hp in
theorem lockWritten_keep : (s.lockWritten b).keep = { s.keep with safetyLeft := s.keep.safetyLeft - 1, lock := b } := by
  rw [State.lockWritten, showKeep_keep, State.keepWrite, spend_keep]

omit hp in
theorem lockWritten_lock : (s.lockWritten b).get F.SAFE_STATUS_lock = bit b := by
  rw [State.lockWritten, showKeep_lock, State.keepWrite]

omit hp in
theorem lockWritten_state : (s.lockWritten b).get F.SAFE_STATUS_state = s.get F.SAFE_STATUS_state := by
  rw [State.lockWritten, showKeep_state]
  exact spend_state

omit hp in
theorem setLock_done (hr : s.role i = roleOWNER) (hb : i.val ∈ s.boot.proven) (hk : s.keep.safetyLeft ≠ 0) : s.setLock i cmd b =
    ((s.lockWritten b).raise Code.SAFE_LOCK_CHANGED [i, bit b, s.keep.safetyLeft - 1]).safeStatus i 0 0 := by
  unfold State.setLock
  rw [if_neg (by simp [hr]), if_neg (by simpa using hb), if_neg hk]
  rfl

/-- A lock or an unlock of the OWNER with a proof and a step left. -/
theorem setLock_sets (he : exec e s = s.run (fun s => s.setLock i cmd b)) (hr : s.role i = roleOWNER) (hb : i.val ∈ s.boot.proven)
    (hk : s.keep.safetyLeft ≠ 0) : ∃ t, exec e s = .next t ∧ t.keep.lock = b ∧ t.get F.SAFE_STATUS_lock = bit b ∧
    t.keep.safetyLeft = s.keep.safetyLeft - 1 ∧ t.get F.SAFE_STATUS_state = s.get F.SAFE_STATUS_state ∧
    t.get (F.SAFE_CMD_STATUS_code i) = 0 ∧ t.get (F.SAFE_CMD_STATUS_reason i) = 0 := by
  obtain ⟨t, ht, ⟨hkeep, hlock, hstate⟩, hshown⟩ := safeDone_answers (i := i)
    (P := fun t => t.keep = { s.keep with safetyLeft := s.keep.safetyLeft - 1, lock := b } ∧ t.get F.SAFE_STATUS_lock = bit b ∧
      t.get F.SAFE_STATUS_state = s.get F.SAFE_STATUS_state) hp he (setLock_done hr hb hk) fun t ht => by
      rw [ht.keep_driven, ht.get_driven (by decide), ht.get_driven (by decide), safeStatus_keep, raise_keep, lockWritten_keep,
        get_safeStatus (by simp), get_safeStatus (by simp), get_raise (by decide), get_raise (by decide), lockWritten_lock,
        lockWritten_state]
      exact ⟨rfl, rfl, rfl⟩
  exact ⟨t, ht, by rw [hkeep], hlock, by rw [hkeep], hstate, hshown⟩

/-- What a refused lock or unlock leaves. -/
theorem setLock_refused (he : exec e s = s.run (fun s => s.setLock i cmd b)) (hr : s.role i ≠ roleOWNER) : ∃ t, exec e s = .next t ∧
    t.wrote Code.SAFE_CMD_REFUSED [i, cmd, srROLE] ∧ t.get (F.SAFE_CMD_STATUS_code i) = Code.SAFE_CMD_REFUSED ∧
    t.get (F.SAFE_CMD_STATUS_reason i) = srROLE ∧ t.safe = s.safe ∧ t.keep = s.keep ∧
    t.get F.SAFE_STATUS_state = s.get F.SAFE_STATUS_state :=
  safeRefuse_answers hp he (if_pos (by simpa using hr)) (by decide) rfl rfl rfl

theorem setLock_unproven (he : exec e s = s.run (fun s => s.setLock i cmd b)) (hr : s.role i = roleOWNER) (hb : i.val ∉ s.boot.proven) :
    ∃ t, exec e s = .next t ∧ t.wrote Code.SAFE_CMD_REFUSED [i, cmd, srNOTPROVEN] ∧
    t.get (F.SAFE_CMD_STATUS_code i) = Code.SAFE_CMD_REFUSED ∧ t.get (F.SAFE_CMD_STATUS_reason i) = srNOTPROVEN ∧ t.safe = s.safe ∧
    t.keep = s.keep ∧ t.get F.SAFE_STATUS_state = s.get F.SAFE_STATUS_state :=
  safeRefuse_answers hp he ((if_neg (by simp [hr])).trans (if_pos (by simpa using hb))) (by decide) rfl rfl rfl

theorem setLock_exhausted (he : exec e s = s.run (fun s => s.setLock i cmd b)) (hr : s.role i = roleOWNER) (hb : i.val ∈ s.boot.proven)
    (hk : s.keep.safetyLeft = 0) : ∃ t, exec e s = .next t ∧ t.wrote Code.SAFE_CMD_REFUSED [i, cmd, srRATCHET] ∧
    t.get (F.SAFE_CMD_STATUS_code i) = Code.SAFE_CMD_REFUSED ∧ t.get (F.SAFE_CMD_STATUS_reason i) = srRATCHET ∧ t.safe = s.safe ∧
    t.keep = s.keep ∧ t.get F.SAFE_STATUS_state = s.get F.SAFE_STATUS_state :=
  safeRefuse_answers hp he ((if_neg (by simp [hr])).trans ((if_neg (by simpa using hb)).trans (if_pos hk))) (by decide) raise_safe
    raise_keep (get_raise (by decide))

end Answers

end SafeCommands

/-- Settles O44, command by command: what each one reports, and the safety unit it leaves. -/
theorem safeCommands : Obligations.SafeCommands := by
  unfold Obligations.SafeCommands
  exact ⟨fun s i hp => forceSafe_enters hp, fun s i hp => forceSafe_stays hp, fun s i hp => forceSafe_refused hp,
    fun s i hp => safeReset_leaves hp, fun s i hp => safeReset_held hp, fun s i hp => safeReset_refused hp,
    fun s i hp => safeReset_outputs hp, fun s n hp => resetInput_leaves hp, fun s n hp => resetInput_idle hp,
    fun s i hp => setLock_sets hp exec_lock, fun s i hp => setLock_refused hp exec_lock, fun s i hp => setLock_unproven hp exec_lock,
    fun s i hp => setLock_exhausted hp exec_lock, fun s i hp => setLock_sets hp exec_unlock,
    fun s i hp => setLock_refused hp exec_unlock, fun s i hp => setLock_unproven hp exec_unlock,
    fun s i hp => setLock_exhausted hp exec_unlock⟩

end Sys2Proof.Machine
end

section
/-! PROOFS. The safety message: its bytes, the counter and the links on which it goes out (R383, Table SAFE-9). -/

namespace Sys2Proof.Machine

open Sys2Proof

section Bytes

variable {a b bs : List Byte} {o n w p c : Nat}

/-- A field that stands in the bytes of a record at its place. -/
theorem recField_leBytes (ho : a.length = o) : recField (a ++ (leBytes n w ++ b)) o n = w % 256 ^ n := by
  rw [recField, List.drop_left' ho, List.take_left' (leBytes_length n w), leNat_leBytes]

theorem crcByte_lt {x : Byte} (hp : p < 2 ^ 32) (hc : c < 2 ^ 32) : crcByte p c x < 2 ^ 32 := by
  have hstart : c ^^^ x.toNat < 2 ^ 32 := Nat.xor_lt_two_pow hc (lt_of_lt_of_le x.isLt (by decide))
  refine List.foldlRecOn (motive := fun r => r < 2 ^ 32) _ _ hstart fun r hr _ _ => ?_
  split
  · exact Nat.xor_lt_two_pow (lt_of_le_of_lt (Nat.div_le_self r 2) hr) hp
  · exact lt_of_le_of_lt (Nat.div_le_self r 2) hr

theorem crc32c_lt : crc32c bs < 2 ^ 32 := by
  have hsum : bs.foldl (crcByte 0x82F63B78) (2 ^ 32 - 1) < 2 ^ 32 :=
    List.foldlRecOn (motive := fun r => r < 2 ^ 32) _ _ (by decide) fun r hr _ _ => crcByte_lt (by decide) hr
  exact Nat.xor_lt_two_pow hsum (by decide)

end Bytes

section Message

variable {s t u : State} {bs : List Byte} {k c : Nat} {b : Bool}

theorem exec_safetyMessage : exec .safetyMessage s = execSafetyMessage s := rfl
theorem exec_safeMsgLink {tp : Fin 2} : exec (.safeMsgLink tp b) s = execSafeMsgLink tp b s := rfl

/-! ### The bytes -/

/-- The bytes of a safety message before its CRC. -/
def State.msgHead (s : State) (c : Nat) : List Byte :=
  leBytes 2 0x5346 ++ [1] ++ leBytes 1 (s.get F.SAFE_STATUS_state + 1) ++ leBytes 4 s.cfg.structureSec.nodeId ++
    leBytes 4 (s.get F.SAFE_MSG_counter) ++ leBytes 2 c ++ leBytes 1 (maskOf 4 (fun k => s.safeOutOn (k / 2) (k % 2))) ++
    leBytes 1 s.safeInByte ++ leBytes 8 s.milestone ++ leBytes 5 s.opSeconds ++ leBytes 3 (s.get F.KEEP_POWER_CYCLES_count) ++
    List.replicate 12 0

theorem safetyBytes_eq : s.safetyBytes c = s.msgHead c ++ leBytes 4 (crc32c (leBytes 4 s.cfg.safety.key ++ s.msgHead c)) := rfl

theorem msgHead_length : (s.msgHead c).length = 44 := by simp [State.msgHead, leBytes_length]

theorem safetyBytes_length : (s.safetyBytes c).length = 48 := by
  rw [safetyBytes_eq, List.length_append, msgHead_length, leBytes_length]

/-- The last field is the CRC over the key and the bytes before. -/
theorem safetyBytes_crc : recField (s.safetyBytes c) 44 4 = crc32c (leBytes 4 s.cfg.safety.key ++ (s.safetyBytes c).take 44) := by
  have hcrc := recField_leBytes (a := s.msgHead c) (b := []) (n := 4) (w := crc32c (leBytes 4 s.cfg.safety.key ++ s.msgHead c)) msgHead_length
  rw [List.append_nil, ← safetyBytes_eq, Nat.mod_eq_of_lt (lt_of_lt_of_eq crc32c_lt (by norm_num))] at hcrc
  rw [hcrc, safetyBytes_eq, List.take_left' msgHead_length]

/-- State, counter and cause of a safety message. -/
theorem safetyBytes_fields (hc : c < 2 ^ 16) : recField (s.safetyBytes c) 3 1 = s.get F.SAFE_STATUS_state + 1 ∧
    recField (s.safetyBytes c) 8 4 = s.get F.SAFE_MSG_counter ∧ recField (s.safetyBytes c) 12 2 = c := by
  have hstate : s.get F.SAFE_STATUS_state < 2 ^ 2 := get_lt
  have hcount : s.get F.SAFE_MSG_counter < 2 ^ 32 := get_lt
  rw [safetyBytes_eq]
  unfold State.msgHead
  simp only [List.append_assoc]
  refine ⟨?_, ?_, ?_⟩
  · rw [← List.append_assoc, recField_leBytes (by simp [leBytes_length])]
    omega
  · rw [← List.append_assoc, ← List.append_assoc, ← List.append_assoc, recField_leBytes (by simp [leBytes_length])]
    omega
  · rw [← List.append_assoc, ← List.append_assoc, ← List.append_assoc, ← List.append_assoc, recField_leBytes (by simp [leBytes_length])]
    omega

/-! ### The links -/

/-- A message goes out on a port that the structure names and that is linked. -/
def State.sendOn (bs : List Byte) (s : State) (k : Nat) : State :=
  if !s.cfg.safety.msgPorts.testBit k then s
  else if s.timeLinked k then { s with safe := { s.safe with msgs := s.safe.msgs ++ [{ port := k, bytes := bs }] } }
  else s.raise Code.SAFE_MSG_LINK [k, 1]

/-- What sending on one port leaves: the configuration, the links that are down, the counter. -/
theorem sendOn_leaves : (s.sendOn bs k).cfg = s.cfg ∧ (s.sendOn bs k).safe.down = s.safe.down ∧
    (s.sendOn bs k).get F.SAFE_MSG_counter = s.get F.SAFE_MSG_counter := by
  unfold State.sendOn
  split
  · exact ⟨rfl, rfl, rfl⟩
  · split
    · exact ⟨rfl, rfl, rfl⟩
    · exact ⟨raise_cfg, by rw [raise_safe], get_raise (by decide)⟩

/-- The messages sent after one port. -/
theorem sendOn_msgs : ∃ ms, (s.sendOn bs k).safe.msgs = s.safe.msgs ++ ms := by
  unfold State.sendOn
  split
  · exact ⟨[], (List.append_nil _).symm⟩
  · split
    · exact ⟨_, rfl⟩
    · exact ⟨[], by rw [raise_safe, List.append_nil]⟩

theorem timeLinked_of (hc : t.cfg = s.cfg) (hd : t.safe.down = s.safe.down) : t.timeLinked k = s.timeLinked k := by
  unfold State.timeLinked State.timePort State.island
  rw [hc, hd]

/-- What has gone out since. -/
def State.SentFrom (s t : State) : Prop :=
  t.cfg = s.cfg ∧ t.safe.down = s.safe.down ∧ ∃ ms, t.safe.msgs = s.safe.msgs ++ ms

theorem State.SentFrom.sendOn (h : s.SentFrom t) : s.SentFrom (t.sendOn bs k) := by
  obtain ⟨hc, hd, ms, hms⟩ := h
  obtain ⟨hc', hd', -⟩ := sendOn_leaves (s := t) (bs := bs) (k := k)
  obtain ⟨ms', hms'⟩ := sendOn_msgs (s := t) (bs := bs) (k := k)
  exact ⟨hc'.trans hc, hd'.trans hd, ms ++ ms', by rw [hms', hms, List.append_assoc]⟩

/-- A message goes out on each port that is named and linked. -/
theorem sendOn_each_sent (hk : k < 2) (hn : s.cfg.safety.msgPorts.testBit k = true) (hl : s.timeLinked k = true) :
    ⟨k, bs⟩ ∈ (s.each [0, 1] (State.sendOn bs)).safe.msgs.drop s.safe.msgs.length := by
  obtain ⟨ms, hms, hmem⟩ : ∃ ms, (s.each [0, 1] (State.sendOn bs)).safe.msgs = s.safe.msgs ++ ms ∧ (⟨k, bs⟩ : SafetyMsg) ∈ ms := by
    refine State.each_reaches (a := k) (P := fun t => ∃ ms, t.safe.msgs = s.safe.msgs ++ ms ∧ ⟨k, bs⟩ ∈ ms) (Q := s.SentFrom)
      (fun t _ ht => ht.sendOn) (fun t j ⟨ms, hms, hmem⟩ => ?_) (fun t ht => ?_) ?_ ⟨rfl, rfl, [], (List.append_nil _).symm⟩
    · obtain ⟨ms', hms'⟩ := sendOn_msgs (s := t) (bs := bs) (k := j)
      exact ⟨ms ++ ms', by rw [hms', hms, List.append_assoc], List.mem_append_left _ hmem⟩
    · obtain ⟨hc, hd, ms, hms⟩ := ht
      refine ⟨ms ++ [⟨k, bs⟩], ?_, List.mem_append_right _ List.mem_cons_self⟩
      rw [State.sendOn, if_neg (by rw [hc]; simpa using hn), if_pos (by rw [timeLinked_of hc hd, hl])]
      show t.safe.msgs ++ _ = _
      rw [hms, List.append_assoc]
    · simp only [List.mem_cons, List.not_mem_nil, or_false]
      omega
  rw [hms, List.drop_left]
  exact hmem

theorem sendOn_each_counter {l : List Nat} : (s.each l (State.sendOn bs)).get F.SAFE_MSG_counter = s.get F.SAFE_MSG_counter :=
  each_keeps (fun s => s.get F.SAFE_MSG_counter) (fun _ _ => sendOn_leaves.2.2) l s

/-- Nothing goes out on ports without a link. -/
theorem sendOn_each_silent (h : ∀ k < 2, s.cfg.safety.msgPorts.testBit k = true → s.timeLinked k = false) :
    (s.each [0, 1] (State.sendOn bs)).safe.msgs = s.safe.msgs := by
  have hstep : ∀ (t : State) k, k < 2 → t.cfg = s.cfg → t.safe = s.safe → (t.sendOn bs k).cfg = s.cfg ∧ (t.sendOn bs k).safe = s.safe := by
    intro t k hk hc hs
    refine ⟨sendOn_leaves.1.trans hc, ?_⟩
    unfold State.sendOn
    split
    · exact hs
    · rename_i hn
      rw [if_neg (by rw [timeLinked_of hc (by rw [hs]), h k hk (by rw [← hc]; simpa using hn)]; decide), raise_safe, hs]
  obtain ⟨hc, hs⟩ := hstep s 0 (by decide) rfl rfl
  rw [State.each_cons, State.each_cons, State.each_nil, (hstep _ 1 (by decide) hc hs).2]

/-- Some port that the structure names is linked. -/
def State.anyLinked (s : State) : Bool := [0, 1].any (fun k => s.cfg.safety.msgPorts.testBit k && s.timeLinked k)

theorem sendSafety_sends (hf : s.hasField = true) (ha : s.anyLinked = true) : s.sendSafety =
    (s.incWrap F.SAFE_MSG_counter).each [0, 1] (State.sendOn ((s.incWrap F.SAFE_MSG_counter).safetyBytes s.safeCause)) := by
  unfold State.sendSafety State.sendSafetyWith State.sendOn
  unfold State.anyLinked at ha
  rw [if_neg (by simp [hf]), ha]
  rfl

theorem sendSafety_silent (hf : s.hasField = true) (ha : s.anyLinked = false) : s.sendSafety =
    s.each [0, 1] (State.sendOn (s.safetyBytes s.safeCause)) := by
  unfold State.sendSafety State.sendSafetyWith State.sendOn
  unfold State.anyLinked at ha
  rw [if_neg (by simp [hf]), ha]
  rfl

theorem safeCause_lt : s.safeCause < 2 ^ 16 := by
  unfold State.safeCause
  split
  · exact get_lt
  · decide

section Commands
variable (hp : s.powered = true)
include hp

/-- A message goes out with the counter of the message before plus one, the state and the cause. -/
theorem safetyMessage_sent (hf : s.hasField = true) (hk : k < 2) (hn : s.cfg.safety.msgPorts.testBit k = true)
    (hl : s.timeLinked k = true) : ∃ t, exec .safetyMessage s = .next t ∧
    t.get F.SAFE_MSG_counter = (s.get F.SAFE_MSG_counter + 1) % 2 ^ 32 ∧ ∃ b, ⟨k, b⟩ ∈ t.safe.msgs.drop s.safe.msgs.length ∧
      b.length = 48 ∧ recField b 3 1 = s.get F.SAFE_STATUS_state + 1 ∧ recField b 8 4 = t.get F.SAFE_MSG_counter ∧
      recField b 12 2 = s.safeCause ∧ recField b 44 4 = crc32c (leBytes 4 s.cfg.safety.key ++ b.take 44) := by
  have hany : s.anyLinked = true := by
    refine List.any_eq_true.mpr ⟨k, ?_, by rw [hn, hl]; rfl⟩
    simp only [List.mem_cons, List.not_mem_nil, or_false]
    omega
  have hcfg : (s.incWrap F.SAFE_MSG_counter).cfg = s.cfg := by rw [State.incWrap_def, set_cfg]
  have hsafe : (s.incWrap F.SAFE_MSG_counter).safe = s.safe := by rw [State.incWrap_def, set_safe]
  have hcount : (s.incWrap F.SAFE_MSG_counter).get F.SAFE_MSG_counter = (s.get F.SAFE_MSG_counter + 1) % 2 ^ 32 := by
    rw [State.incWrap_def, State.get_set (by decide)]
    rfl
  have hstate : (s.incWrap F.SAFE_MSG_counter).get F.SAFE_STATUS_state = s.get F.SAFE_STATUS_state := by
    rw [State.incWrap_def, State.get_set_kind (by decide)]
  rw [exec_safetyMessage]
  refine run_answers_of_effect hp (sendSafety_sends hf hany) fun t ht => ?_
  have hread : t.get F.SAFE_MSG_counter = (s.incWrap F.SAFE_MSG_counter).get F.SAFE_MSG_counter := by
    rw [ht.get_driven (by decide), sendOn_each_counter]
  obtain ⟨hbstate, hbcount, hbcause⟩ := safetyBytes_fields (s := s.incWrap F.SAFE_MSG_counter) (safeCause_lt (s := s))
  refine ⟨hread.trans hcount, _, ?_, safetyBytes_length, hbstate.trans (by rw [hstate]), hbcount.trans hread.symm, hbcause, ?_⟩
  · rw [ht.safe_driven, ← hsafe]
    exact sendOn_each_sent hk (by rw [hcfg, hn]) ((timeLinked_of hcfg (by rw [hsafe])).trans hl)
  · rw [safetyBytes_crc, hcfg]

/-- Without a link nothing goes out. -/
theorem safetyMessage_silent (hf : s.hasField = true) (h : ∀ k < 2, s.cfg.safety.msgPorts.testBit k = true → s.timeLinked k = false) :
    ∃ t, exec .safetyMessage s = .next t ∧ t.get F.SAFE_MSG_counter = s.get F.SAFE_MSG_counter ∧ t.safe.msgs = s.safe.msgs := by
  have hany : s.anyLinked = false := by
    refine List.any_eq_false.mpr fun k hk => ?_
    rcases hn : s.cfg.safety.msgPorts.testBit k with _ | _
    · simp
    · rw [h k (by simp only [List.mem_cons, List.not_mem_nil, or_false] at hk; omega) hn]
      decide
  rw [exec_safetyMessage]
  refine run_answers_of_effect hp (sendSafety_silent hf hany) fun t ht => ?_
  rw [ht.get_driven (by decide), ht.safe_driven, sendOn_each_counter, sendOn_each_silent h]
  exact ⟨rfl, rfl⟩

/-! ### A link that comes up or goes down -/

omit hp in
/-- The links of the TIME ports with one of them changed. -/
def State.linkNoted (s : State) (k : Nat) (b : Bool) : State :=
  { s with safe := { s.safe with down := if b then s.safe.down.filter (fun x => x != k) else s.safe.down ++ [k] } }

omit hp in
theorem linkNoted_linked (hk : s.timePort k = true) : (s.linkNoted k b).timeLinked k = b := by
  have hport : (s.linkNoted k b).timePort k = true := hk
  unfold State.timeLinked
  rw [hport]
  cases b <;> simp [State.linkNoted]

omit hp in
/-- What a change of a link writes. -/
def State.linkTold (s : State) (k : Nat) (b : Bool) : State :=
  if s.hasField && s.cfg.safety.msgPorts.testBit k then s.raise Code.SAFE_MSG_LINK [k, bit (!b)] else s

omit hp in
theorem linkTold_safe : (s.linkTold k b).safe = s.safe := by
  unfold State.linkTold
  split
  · exact raise_safe
  · rfl

omit hp in
theorem linkTold_cfg : (s.linkTold k b).cfg = s.cfg := by
  unfold State.linkTold
  split
  · exact raise_cfg
  · rfl

/-- A change of a link of a port with its islands is shown, and written for a port that the structure names. -/
theorem msgLink_changes {k : Fin 2} (hk : s.timePort k = true) (hl : s.timeLinked k ≠ b) : ∃ t, exec (.safeMsgLink k b) s = .next t ∧
    t.timeLinked k = b ∧ t.safe.msgs = s.safe.msgs ∧ (s.hasField = true → s.cfg.safety.msgPorts.testBit k = true →
      t.wrote Code.SAFE_MSG_LINK [k, bit (!b)]) := by
  have hsafe : (s.linkNoted k b).showMsgLink.safe = (s.linkNoted k b).safe := by rw [State.showMsgLink, State.setB_def, set_safe]
  have hcfg : (s.linkNoted k b).showMsgLink.cfg = s.cfg := by
    rw [State.showMsgLink, State.setB_def, set_cfg]
    rfl
  have hfield : (s.linkNoted k b).showMsgLink.hasField = s.hasField := by
    unfold State.hasField
    rw [State.showMsgLink, State.setB_def, set_variant]
    rfl
  rw [exec_safeMsgLink]
  refine run_answers_of_effect (u := (s.linkNoted k b).showMsgLink.linkTold k b) hp (if_neg (by simp [hk, hl])) fun t ht =>
    ⟨?_, ?_, fun hf hn => ht.wrote_driven ?_⟩
  · rw [timeLinked_of (s := s.linkNoted k b) (by rw [ht.cfg_driven, linkTold_cfg, hcfg]; rfl)
      (by rw [ht.safe_driven, linkTold_safe, hsafe]), linkNoted_linked hk]
  · rw [ht.safe_driven, linkTold_safe, hsafe]
    rfl
  · rw [State.linkTold, if_pos (by rw [hfield, hcfg, hf, hn]; rfl)]
    exact raise_wrote

theorem msgLink_idle {k : Fin 2} (h : s.timePort k = false ∨ s.timeLinked k = b) : ∃ t, exec (.safeMsgLink k b) s = .next t ∧
    t.safe = s.safe := by
  rw [exec_safeMsgLink]
  exact run_answers_of_effect (u := s) hp (if_pos (by rcases h with h | h <;> simp [h])) fun t ht => ht.safe_driven

end Commands

end Message

end Sys2Proof.Machine
end

section
/-! PROOFS. The commands of the safe inputs and outputs (R365, R378, R379). -/

namespace Sys2Proof.Machine

open Sys2Proof

section SafeIo

variable {s t u : State} {g : Field} {e : Instr} {f : State → State} {j k n o q : Nat} {b : Bool}

theorem exec_safeInputChange {i ch : Fin 2} : exec (.safeInputChange i ch b) s = execSafeInputChange i ch b s := rfl
theorem exec_safeInputDemand {i : Fin 2} : exec (.safeInputDemand i) s = execSafeInputDemand i s := rfl
theorem exec_safeInputDemandCleared {i : Fin 2} : exec (.safeInputDemandCleared i) s = execSafeInputDemandCleared i s := rfl
theorem exec_safeInputFault {i ch : Fin 2} : exec (.safeInputFault i ch b) s = execSafeInputFault i ch b s := rfl
theorem exec_testPulse {c : Fin 2} {x r : BitVec 4} : exec (.testPulse c x r) s = execTestPulse c x r s := rfl
theorem exec_inputFaultRecovered {i : Fin 2} : exec (.inputFaultRecovered i) s = execInputFaultRecovered i s := rfl
theorem exec_outputTest {o ch : Fin 2} {a : Bool} : exec (.outputTest o ch a b) s = execOutputTest o ch a b s := rfl

/-! ### Commands of the safe inputs -/

theorem safeIo_fitted (hf : s.hasField = true) : s.safeIo f = s.safeChange f := if_pos hf

/-- A field of SAFE_IO beside the output readback, after a change that is told. -/
theorem io_reads (ht : t.Same (s.safeChange f).driveOutputs) (hk : g.key = F.SAFE_IO_outputs.key) (hlo : 4 ≤ g.lo)
    (hw : g.lo + g.width ≤ 32) : t.get g = (f s).get g := by
  rw [ht.safeIo_driven hk hlo hw, get_safeChange (by rw [hk]; decide)]

/-- A held output is off. -/
theorem safeOutOn_held {ch : Nat} (h : (t.get F.SAFE_IO_held).testBit o = true) : t.safeOutOn o ch = false := by simp [State.safeOutOn, h]

section Commands
variable (hp : s.powered = true)
include hp

/-- Without a field side a command of the safe inputs and outputs has no effect. -/
theorem noField_idle {h : State → State} (he : exec e s = s.run h) (hu : h s = s) : ∃ t, exec e s = .next t ∧
    t.get F.SAFE_IO_inputs = s.get F.SAFE_IO_inputs ∧ t.get F.SAFE_IO_demand = s.get F.SAFE_IO_demand ∧
    t.get F.SAFE_IO_input_fault = s.get F.SAFE_IO_input_fault ∧ t.safe = s.safe := by
  rw [he]
  refine run_answers_of_effect hp hu fun t ht => ?_
  rw [ht.safeIo_driven (g := F.SAFE_IO_inputs) rfl (by decide) (by decide), ht.safeIo_driven (g := F.SAFE_IO_demand) rfl (by decide) (by decide),
    ht.safeIo_driven (g := F.SAFE_IO_input_fault) rfl (by decide) (by decide), ht.safe_driven]
  exact ⟨rfl, rfl, rfl, rfl⟩

/-- A channel shows its level. -/
theorem inputChange_shows {i ch : Fin 2} (hf : s.hasField = true) : ∃ t, exec (.safeInputChange i ch b) s = .next t ∧
    (t.get F.SAFE_IO_inputs).testBit (2 * i.val + ch.val) = b ∧ t.get F.SAFE_IO_demand = s.get F.SAFE_IO_demand := by
  rw [exec_safeInputChange]
  refine run_answers_of_effect hp (safeIo_fitted hf) fun t ht => ?_
  have hread : ∀ g : Field, g.key = F.SAFE_IO_outputs.key → 4 ≤ g.lo → g.lo + g.width ≤ 32 →
      t.get g = (s.setBit F.SAFE_IO_inputs (2 * i.val + ch.val) b).get g := fun g hk hlo hw => by
    rw [io_reads ht hk hlo hw]
    dsimp only
    split
    · rfl
    · rfl
  rw [hread F.SAFE_IO_inputs rfl (by decide) (by decide), hread F.SAFE_IO_demand rfl (by decide) (by decide), get_setBit (by decide) (show _ < 4 by omega),
    get_setBit_field (g := F.SAFE_IO_demand) (f := F.SAFE_IO_inputs) rfl (by decide) (by decide)]
  exact ⟨rfl, rfl⟩

/-! ### Demands (R378) -/

omit hp in
/-- The outputs that an input switches are held. -/
def State.heldBy (s : State) (i : Nat) : State := s.each [0, 1] (State.holdIf (fun s o => s.mapped i o) true)

omit hp in
theorem heldBy_bit {i : Nat} (ho : o < 2) (hm : s.mapped i o = true) : ((s.heldBy i).get F.SAFE_IO_held).testBit o = true := by
  rw [State.heldBy, holdIf_each_bit (c := fun s o => s.mapped i o) (fun t h o => mapped_of_cfg h.cfg) ho, hm, if_pos rfl]

omit hp in
/-- A demand holds the outputs of its input, and enters the safe state where its function says so. -/
theorem demand_cases {i : Nat} : s.demand i = s.heldBy i ∧ (s.safeIn i).function ≠ fnSAFESTATE ∨
    s.demand i = (s.heldBy i).enterSafeHeld Code.SAFE_INPUT_DEMAND (sourceUnit 0x11 255) ∧ (s.safeIn i).function = fnSAFESTATE := by
  have hin : (s.heldBy i).safeIn i = s.safeIn i := safeIn_of_cfg holdIf_each_sameInputs.cfg
  unfold State.demand
  change (if ((s.heldBy i).safeIn i).function == fnSAFESTATE then _ else s.heldBy i) = _ ∧ _ ∨
    (if ((s.heldBy i).safeIn i).function == fnSAFESTATE then _ else s.heldBy i) = _ ∧ _
  rw [hin]
  by_cases h : (s.safeIn i).function = fnSAFESTATE
  · exact .inr ⟨if_pos (by simpa using h), h⟩
  · exact .inl ⟨if_neg (by simpa using h), h⟩

omit hp in
theorem get_demand_io {i : Nat} (h : State.enterSafeHeld_mask.testBit (regKind g.key) = false) : (s.demand i).get g = (s.heldBy i).get g := by
  rcases demand_cases (s := s) (i := i) with ⟨e, -⟩ | ⟨e, -⟩
  · rw [e]
  · rw [e, get_enterSafeHeld h]

omit hp in
theorem demand_held {i : Nat} (ho : o < 2) (hm : s.mapped i o = true) : ((s.demand i).get F.SAFE_IO_held).testBit o = true := by
  rw [get_demand_io (by decide), heldBy_bit ho hm]

omit hp in
/-- A field of SAFE_IO below the holds stays under a demand. -/
theorem get_demand_below {i : Nat} (hk : g.key = F.SAFE_IO_held.key) (hlo : g.lo + g.width ≤ 12) : (s.demand i).get g = s.get g := by
  rw [get_demand_io (by rw [hk]; decide), State.heldBy, holdIf_each_below hk hlo]

omit hp in
/-- Input `i` with its demand noted. -/
def State.demandNoted (s : State) (i : Nat) : State := (s.setBit F.SAFE_IO_demand i true).raise Code.SAFE_INPUT_DEMAND [i, 0]

omit hp in
theorem demandNoted_cfg {i : Nat} : (s.demandNoted i).cfg = s.cfg := by rw [State.demandNoted, raise_cfg, setBit_cfg]

omit hp in
theorem demandNoted_bit {i : Fin 2} : ((s.demandNoted i).get F.SAFE_IO_demand).testBit i = true := by
  rw [State.demandNoted, get_raise (by decide), get_setBit (by decide) i.isLt]

section Fitted
variable {i : Fin 2} (hf : s.hasField = true)
include hf

section Demanding
variable (hl : s.safeLevel i 0 = false ∨ s.safeLevel i 1 = false) (hd : (s.get F.SAFE_IO_demand).testBit i.val = false)
include hl hd

omit hp hf in
theorem demand_new : ((s.safeLevel i 0 && s.safeLevel i 1) || (s.get F.SAFE_IO_demand).testBit i) = false := by
  rw [hd]
  rcases hl with h | h <;> simp [h]

/-- A demand sets its bit and holds every mapped output off. -/
theorem demand_holds : ∃ t, exec (.safeInputDemand i) s = .next t ∧ (t.get F.SAFE_IO_demand).testBit i.val = true ∧
    (∀ o < 2, s.mapped i o = true → (t.get F.SAFE_IO_held).testBit o = true ∧ ∀ ch, t.safeOutOn o ch = false) := by
  have hnew := demand_new hl hd
  rw [exec_safeInputDemand]
  refine run_answers_of_effect hp (safeIo_fitted hf) fun t ht => ?_
  have hread : ∀ g : Field, g.key = F.SAFE_IO_outputs.key → 4 ≤ g.lo → g.lo + g.width ≤ 32 →
      t.get g = ((s.demandNoted i).demand i).get g := fun g hk hlo hw => by
    rw [io_reads ht hk hlo hw, if_neg (by rw [hnew]; decide)]
    rfl
  have hheld : ∀ o < 2, s.mapped i o = true → (t.get F.SAFE_IO_held).testBit o = true := fun o ho hm => by
    rw [hread F.SAFE_IO_held rfl (by decide) (by decide), demand_held ho (by rw [mapped_of_cfg demandNoted_cfg, hm])]
  refine ⟨?_, fun o ho hm => ⟨hheld o ho hm, fun ch => safeOutOn_held (hheld o ho hm)⟩⟩
  rw [hread F.SAFE_IO_demand rfl (by decide) (by decide), get_demand_below (g := F.SAFE_IO_demand) rfl (by decide), demandNoted_bit]

/-- A demand of an input whose function is SAFE_STATE is the safe state. -/
theorem demand_safe (hn : (s.safeIn i).function = fnSAFESTATE) (hs : s.isSafe = false) :
    ∃ t, exec (.safeInputDemand i) s = .next t ∧ t.safeWith Code.SAFE_INPUT_DEMAND := by
  have hnew := demand_new hl hd
  have hin : ((s.demandNoted i).safeIn i).function = fnSAFESTATE := by rw [safeIn_of_cfg demandNoted_cfg, hn]
  have hrun : ((s.demandNoted i).heldBy i).isSafe = false := by
    refine (isSafe_of_state ?_).trans hs
    rw [State.heldBy, get_holdIf_each (by decide), State.demandNoted, get_raise (by decide), get_setBit_kind (by decide)]
  rw [exec_safeInputDemand]
  refine run_answers_of_effect hp (safeIo_fitted hf) fun t ht => ?_
  have hread : ∀ g : Field, State.sendSafety_mask.testBit (regKind g.key) = false → (s.safeChange fun s =>
      if (s.safeLevel i 0 && s.safeLevel i 1) || (s.get F.SAFE_IO_demand).testBit i then s
      else ((s.setBit F.SAFE_IO_demand i true).raise Code.SAFE_INPUT_DEMAND [i, 0]).demand i).get g =
      (((s.demandNoted i).heldBy i).enterSafeHeld Code.SAFE_INPUT_DEMAND (sourceUnit 0x11 255)).get g := fun g hg => by
    rw [get_safeChange hg, if_neg (by rw [hnew]; decide)]
    rcases demand_cases (s := s.demandNoted i) (i := i) with ⟨-, he⟩ | ⟨he, -⟩
    · exact absurd hin he
    · rw [← he]
      rfl
  exact safeWith_of ht ((hread _ (by decide)).trans enterSafeHeld_state) ((hread _ (by decide)).trans (enterSafeHeld_cause hrun (by decide)))

end Demanding

/-- What demands already, or has both channels high, demands no further. -/
theorem demand_idle (h : (s.get F.SAFE_IO_demand).testBit i.val = true ∨ s.safeLevel i 0 = true ∧ s.safeLevel i 1 = true) :
    ∃ t, exec (.safeInputDemand i) s = .next t ∧ t.get F.SAFE_IO_demand = s.get F.SAFE_IO_demand ∧
      t.get F.SAFE_IO_held = s.get F.SAFE_IO_held := by
  have hold : ((s.safeLevel i 0 && s.safeLevel i 1) || (s.get F.SAFE_IO_demand).testBit i) = true := by
    rcases h with h | ⟨h, h'⟩
    · simp [h]
    · simp [h, h']
  rw [exec_safeInputDemand]
  refine run_answers_of_effect hp (safeIo_fitted hf) fun t ht => ?_
  rw [io_reads (g := F.SAFE_IO_demand) ht rfl (by decide) (by decide), io_reads (g := F.SAFE_IO_held) ht rfl (by decide) (by decide), if_pos hold]
  exact ⟨rfl, rfl⟩

/-! ### The end of a demand -/

omit hp hf in
/-- Input `i` with its demand ended. -/
def State.demandCleared (s : State) (i : Nat) : State := (s.setBit F.SAFE_IO_demand i false).raise Code.SAFE_INPUT_DEMAND [i, 1]

omit hp hf in
theorem demandCleared_cfg {i : Nat} : (s.demandCleared i).cfg = s.cfg := by rw [State.demandCleared, raise_cfg, setBit_cfg]

omit hp hf in
/-- The other fields of SAFE_IO stay as a demand ends. -/
theorem get_demandCleared {i : Nat} (hk : g.key = F.SAFE_IO_demand.key) (hlo : 10 ≤ g.lo) (hw : g.lo + g.width ≤ 32) :
    (s.demandCleared i).get g = s.get g := by
  rw [State.demandCleared, get_raise (by rw [hk]; decide), get_setBit_field hk (.inr hlo) hw]

section Clearing
variable (h0 : s.safeLevel i 0 = true) (h1 : s.safeLevel i 1 = true)
include h0 h1

omit hp in
/-- The fields of SAFE_IO as a demand ends and the inputs settle. -/
theorem cleared_reads (hd : (s.get F.SAFE_IO_demand).testBit i.val = true) (ht : t.Same (s.safeIo fun s =>
      if s.safeLevel i 0 && s.safeLevel i 1 && (s.get F.SAFE_IO_demand).testBit i then
        ((s.setBit F.SAFE_IO_demand i false).raise Code.SAFE_INPUT_DEMAND [i, 1]).settleInputs
      else s).driveOutputs) (hk : g.key = F.SAFE_IO_outputs.key) (hlo : 4 ≤ g.lo) (hw : g.lo + g.width ≤ 32) :
    t.get g = (s.demandCleared i).settleInputs.get g := by
  rw [safeIo_fitted hf] at ht
  rw [io_reads ht hk hlo hw, if_pos (by rw [h0, h1, hd]; rfl)]
  rfl

/-- A demand that ends clears its bit and leaves the MANUAL outputs held. -/
theorem demandCleared_manual (hd : (s.get F.SAFE_IO_demand).testBit i.val = true) : ∃ t, exec (.safeInputDemandCleared i) s = .next t ∧
    (t.get F.SAFE_IO_demand).testBit i.val = false ∧ ∀ o < 2, (s.safeOut o).manual = true →
      (t.get F.SAFE_IO_held).testBit o = (s.get F.SAFE_IO_held).testBit o := by
  rw [exec_safeInputDemandCleared]
  refine run_answers_of_effect hp rfl fun t ht => ⟨?_, fun o ho hm => ?_⟩
  · rw [cleared_reads (g := F.SAFE_IO_demand) hf h0 h1 hd ht rfl (by decide) (by decide), get_settleInputs_below (g := F.SAFE_IO_demand) rfl (by decide),
      State.demandCleared, get_raise (by decide), get_setBit (by decide) i.isLt]
  · rw [cleared_reads (g := F.SAFE_IO_held) hf h0 h1 hd ht rfl (by decide) (by decide), settleInputs_held ho,
      safeOut_of_cfg demandCleared_cfg, hm, get_demandCleared (g := F.SAFE_IO_held) rfl (by decide) (by decide)]
    rfl

/-- An AUTO output is reset where nothing else demands. -/
theorem demandCleared_auto (hd : s.get F.SAFE_IO_demand = 2 ^ i.val) (hn : s.get F.SAFE_IO_input_fault = 0) (ho : o < 2)
    (hm : (s.safeOut o).manual = false) : ∃ t, exec (.safeInputDemandCleared i) s = .next t ∧ (t.get F.SAFE_IO_held).testBit o = false := by
  have hbit : (s.get F.SAFE_IO_demand).testBit i.val = true := by rw [hd, Nat.testBit_two_pow_self]
  have hquiet : ∀ k, (s.demandCleared i).insists k = false := fun k => by
    unfold State.insists
    rw [get_demandCleared (g := F.SAFE_IO_input_fault) rfl (by decide) (by decide), hn, State.demandCleared, get_raise (by decide),
      testBit_setBit (by decide) i.isLt, hd]
    by_cases hk : k = i.val
    · simp [hk]
    · simp [hk, Nat.testBit_two_pow_of_ne (Ne.symm hk)]
  have hended : (s.demandCleared i).demandEnded o = true := by simp [State.demandEnded, hquiet]
  rw [exec_safeInputDemandCleared]
  refine run_answers_of_effect hp rfl fun t ht => ?_
  rw [cleared_reads (g := F.SAFE_IO_held) hf h0 h1 hbit ht rfl (by decide) (by decide), settleInputs_held ho,
    safeOut_of_cfg demandCleared_cfg, hm, hended]
  rfl

end Clearing

theorem demandCleared_idle (h : s.safeLevel i 0 = false ∨ s.safeLevel i 1 = false ∨ (s.get F.SAFE_IO_demand).testBit i.val = false) :
    ∃ t, exec (.safeInputDemandCleared i) s = .next t ∧ t.get F.SAFE_IO_demand = s.get F.SAFE_IO_demand ∧
      t.get F.SAFE_IO_held = s.get F.SAFE_IO_held := by
  have hno : (s.safeLevel i 0 && s.safeLevel i 1 && (s.get F.SAFE_IO_demand).testBit i) = false := by
    rcases h with h | h | h <;> simp [h]
  rw [exec_safeInputDemandCleared]
  refine run_answers_of_effect hp (safeIo_fitted hf) fun t ht => ?_
  rw [io_reads (g := F.SAFE_IO_demand) ht rfl (by decide) (by decide), io_reads (g := F.SAFE_IO_held) ht rfl (by decide) (by decide),
    if_neg (by rw [hno]; decide)]
  exact ⟨rfl, rfl⟩

end Fitted

/-! ### Faults of an input -/

section Faults

omit hp in
/-- Input `j` with its fault noted. -/
def State.faultNoted (s : State) (j k n : Nat) : State :=
  { (s.setBit F.SAFE_IO_input_fault j true).raise Code.SAFE_INPUT_FAULT [j, k, n] with safe :=
    { s.safe with agreed := s.safe.agreed.filter (fun k => k != j) } }

omit hp in
theorem inputFault_eq : s.inputFault j k n = (s.faultNoted j k n).demand j := by
  have hsafe : ((s.setBit F.SAFE_IO_input_fault j true).raise Code.SAFE_INPUT_FAULT [j, k, n]).safe = s.safe := by
    rw [raise_safe, setBit_safe]
  unfold State.inputFault State.faultNoted
  dsimp only
  rw [hsafe]

omit hp in
theorem get_faultNoted : (s.faultNoted j k n).get g =
    ((s.setBit F.SAFE_IO_input_fault j true).raise Code.SAFE_INPUT_FAULT [j, k, n]).get g := rfl

omit hp in
theorem faultNoted_cfg : (s.faultNoted j k n).cfg = s.cfg := by
  show ((s.setBit F.SAFE_IO_input_fault j true).raise Code.SAFE_INPUT_FAULT [j, k, n]).cfg = s.cfg
  rw [raise_cfg, setBit_cfg]

omit hp in
/-- The faults of the inputs after one of them. -/
theorem inputFault_bit (hj : j < 2) : ((s.inputFault j k n).get F.SAFE_IO_input_fault).testBit q =
    if q = j then true else (s.get F.SAFE_IO_input_fault).testBit q := by
  rw [inputFault_eq, get_demand_below (g := F.SAFE_IO_input_fault) rfl (by decide), get_faultNoted, get_raise (by decide), testBit_setBit (by decide) hj]

omit hp in
/-- A fault counts as a demand: the mapped outputs are held. -/
theorem inputFault_held (ho : o < 2) (hm : s.mapped j o = true) : ((s.inputFault j k n).get F.SAFE_IO_held).testBit o = true := by
  rw [inputFault_eq, demand_held ho (by rw [mapped_of_cfg faultNoted_cfg, hm])]

omit hp in
theorem get_inputFault (h : State.inputFault_mask.testBit (regKind g.key) = false) : (s.inputFault j k n).get g = s.get g :=
  (State.inputFault_frame (Within.refl _) (.refl _ s)).get g h

/-- A command that finds a fault sets its bit and holds every mapped output off. -/
theorem fault_holds {i : Fin 2} {h : State → State} (he : exec e s = s.run h) (hu : h s = s.safeChange f) (hs : f s = s.inputFault i k n) :
    ∃ t, exec e s = .next t ∧ (t.get F.SAFE_IO_input_fault).testBit i.val = true ∧
      (∀ o < 2, s.mapped i o = true → (t.get F.SAFE_IO_held).testBit o = true ∧ ∀ ch, t.safeOutOn o ch = false) := by
  rw [he]
  refine run_answers_of_effect hp hu fun t ht => ?_
  have hheld : ∀ o < 2, s.mapped i o = true → (t.get F.SAFE_IO_held).testBit o = true := fun o ho hm => by
    rw [io_reads (g := F.SAFE_IO_held) ht rfl (by decide) (by decide), hs, inputFault_held ho hm]
  refine ⟨?_, fun o ho hm => ⟨hheld o ho hm, fun ch => safeOutOn_held (hheld o ho hm)⟩⟩
  rw [io_reads (g := F.SAFE_IO_input_fault) ht rfl (by decide) (by decide), hs, inputFault_bit i.isLt, if_pos rfl]

theorem discrepancy_faults {i ch : Fin 2} (hf : s.hasField = true) (hl : s.safeLevel i 0 ≠ s.safeLevel i 1) :
    ∃ t, exec (.safeInputFault i ch false) s = .next t ∧ (t.get F.SAFE_IO_input_fault).testBit i.val = true ∧
      (∀ o < 2, s.mapped i o = true → (t.get F.SAFE_IO_held).testBit o = true ∧ ∀ ch, t.safeOutOn o ch = false) :=
  fault_holds hp exec_safeInputFault (safeIo_fitted hf) ((if_neg Bool.false_ne_true).trans (if_pos (by simpa using hl)))

theorem testPulse_faults {i ch : Fin 2} (hf : s.hasField = true) (hl : (s.safeIn i).pulses = true) :
    ∃ t, exec (.safeInputFault i ch true) s = .next t ∧ (t.get F.SAFE_IO_input_fault).testBit i.val = true ∧
      (∀ o < 2, s.mapped i o = true → (t.get F.SAFE_IO_held).testBit o = true ∧ ∀ ch, t.safeOutOn o ch = false) :=
  fault_holds hp exec_safeInputFault (safeIo_fitted hf) ((if_pos rfl).trans (if_pos hl))

/-- A change of nothing is not told. -/
theorem unchanged_idle {h : State → State} (he : exec e s = s.run h) (hu : h s = s.safeChange f) (hs : f s = s) :
    ∃ t, exec e s = .next t ∧ t.safe = s.safe ∧ t.get F.SAFE_IO_input_fault = s.get F.SAFE_IO_input_fault := by
  have hsame : s.safeChange f = s := by
    unfold State.safeChange
    dsimp only
    rw [hs, if_pos (by simp)]
  rw [he]
  refine run_answers_of_effect hp (hu.trans hsame) fun t ht => ?_
  rw [ht.safe_driven, ht.safeIo_driven (g := F.SAFE_IO_input_fault) rfl (by decide) (by decide)]
  exact ⟨rfl, rfl⟩

theorem agreement_faultless {i ch : Fin 2} (hf : s.hasField = true) (hl : s.safeLevel i 0 = s.safeLevel i 1) :
    ∃ t, exec (.safeInputFault i ch false) s = .next t ∧ t.safe = s.safe ∧ t.get F.SAFE_IO_input_fault = s.get F.SAFE_IO_input_fault :=
  unchanged_idle hp exec_safeInputFault (safeIo_fitted hf) ((if_neg Bool.false_ne_true).trans (if_neg (by simpa using hl)))

end Faults

/-! ### Test pulses -/

section Pulses
variable {c : Fin 2} {x r : BitVec 4}

omit hp in
/-- Channel `k` does not follow a test pulse of source `c`, or does not return from it. -/
def State.badPulse (s : State) (c : Fin 2) (x r : BitVec 4) (k : Nat) : Bool :=
  (s.safeIn (k / 2)).pulses && (x.getLsbD k != (k % 2 == c.val) || !r.getLsbD k)

omit hp in
/-- The channels that fail a test pulse. -/
def State.badPulses (s : State) (c : Fin 2) (x r : BitVec 4) : List Nat := [0, 1, 2, 3].filter (s.badPulse c x r)

omit hp in
/-- The faults of the channels that fail. -/
def State.pulseFaults (s : State) (l : List Nat) : State := s.each l (fun s k => s.inputFault (k / 2) (k % 2) 1)

omit hp in
theorem get_pulseFaults {l : List Nat} (h : State.inputFault_mask.testBit (regKind g.key) = false) : (s.pulseFaults l).get g = s.get g :=
  each_keeps (fun s => s.get g) (fun _ _ => get_inputFault h) l s

omit hp in
/-- Every channel that fails faults its input. -/
theorem pulseFaults_bit {l : List Nat} (hk : k < 4) (hm : k ∈ l) (hl : ∀ q ∈ l, q < 4) :
    ((s.pulseFaults l).get F.SAFE_IO_input_fault).testBit (k / 2) = true := by
  have hstep : ∀ (t : State) q, ((t.get F.SAFE_IO_input_fault).testBit (k / 2) = true) →
      ((t.inputFault (q / 2 % 2) (q % 2) 1).get F.SAFE_IO_input_fault).testBit (k / 2) = true := fun t q ht => by
    rw [inputFault_bit (Nat.mod_lt _ (by decide)), ht]
    simp
  have hcut : s.pulseFaults l = s.each l (fun s k => s.inputFault (k / 2 % 2) (k % 2) 1) :=
    List.foldl_ext _ _ _ fun t q hq => by rw [Nat.mod_eq_of_lt (show q / 2 < 2 by have := hl q hq; omega)]
  rw [hcut]
  refine State.each_reaches (a := k) (P := fun t => (t.get F.SAFE_IO_input_fault).testBit (k / 2) = true) (Q := fun _ => True)
    (fun _ _ _ => trivial) hstep (fun t _ => ?_) hm trivial
  rw [Nat.mod_eq_of_lt (show k / 2 < 2 by omega), inputFault_bit (by omega), if_pos rfl]

/-- What a test pulse leaves: item 6 completed, and the faults of the channels that failed. -/
theorem testPulse_answers {P : State → Prop} (hf : s.hasField = true)
    (hP : ∀ t, t.Same (s.safeChange fun s => (s.testDone 6 (!(s.badPulses c x r).isEmpty)).pulseFaults (s.badPulses c x r)).driveOutputs → P t) :
    ∃ t, exec (.testPulse c x r) s = .next t ∧ P t := by
  rw [exec_testPulse]
  exact run_answers_of_effect hp (safeIo_fitted hf) hP

omit hp in
theorem testPulse_tested (ht : t.Same (s.safeChange fun s =>
    (s.testDone 6 (!(s.badPulses c x r).isEmpty)).pulseFaults (s.badPulses c x r)).driveOutputs) :
    s.tested t 6 (!(s.badPulses c x r).isEmpty) := by
  refine testDone_tested.of_get fun g hg => ?_
  rw [ht.get_driven (by rw [hg]; decide), get_safeChange (by rw [hg]; decide), get_pulseFaults (by rw [hg]; decide)]

/-- A pulse that every channel follows and returns from passes. -/
theorem testPulse_passes (hf : s.hasField = true)
    (hg : ∀ k, k < 4 → (s.safeIn (k / 2)).pulses = true → x.getLsbD k = (k % 2 == c.val) ∧ r.getLsbD k = true) :
    ∃ t, exec (.testPulse c x r) s = .next t ∧ s.tested t 6 false ∧ t.get F.SAFE_IO_input_fault = s.get F.SAFE_IO_input_fault := by
  have hgood : s.badPulses c x r = [] := by
    refine List.filter_eq_nil_iff.mpr fun k hk => ?_
    have hk4 : k < 4 := by
      simp only [List.mem_cons, List.not_mem_nil, or_false] at hk
      omega
    unfold State.badPulse
    rcases hpulse : (s.safeIn (k / 2)).pulses with _ | _
    · simp
    · obtain ⟨hx, hr⟩ := hg k hk4 hpulse
      simp [hx, hr]
  refine testPulse_answers hp hf fun t ht => ⟨?_, ?_⟩
  · have htested := testPulse_tested ht
    rwa [hgood] at htested
  · rw [io_reads (g := F.SAFE_IO_input_fault) ht rfl (by decide) (by decide), hgood]
    exact get_testDone (by decide) (by decide)

/-- A channel that fails its pulse fails item 6 and faults its input. -/
theorem testPulse_fails (hf : s.hasField = true) (hk : k < 4) (hpulse : (s.safeIn (k / 2)).pulses = true)
    (hbad : x.getLsbD k ≠ (k % 2 == c.val) ∨ r.getLsbD k = false) : ∃ t, exec (.testPulse c x r) s = .next t ∧ s.tested t 6 true ∧
      (t.get F.SAFE_IO_input_fault).testBit (k / 2) = true := by
  have hmem : k ∈ s.badPulses c x r := by
    refine List.mem_filter.mpr ⟨by simp only [List.mem_cons, List.not_mem_nil, or_false]; omega, ?_⟩
    unfold State.badPulse
    rw [hpulse]
    rcases hbad with h | h
    · simp [h]
    · simp [h]
  have hsome : (!(s.badPulses c x r).isEmpty) = true := by
    rw [List.isEmpty_eq_false_iff_exists_mem.mpr ⟨k, hmem⟩]
    rfl
  refine testPulse_answers hp hf fun t ht => ⟨?_, ?_⟩
  · have htested := testPulse_tested ht
    rwa [hsome] at htested
  · rw [io_reads (g := F.SAFE_IO_input_fault) ht rfl (by decide) (by decide)]
    refine pulseFaults_bit hk hmem fun q hq => ?_
    have hq4 := List.mem_of_mem_filter hq
    simp only [List.mem_cons, List.not_mem_nil, or_false] at hq4
    omega

end Pulses

/-! ### The end of a fault -/

section Recovery
variable {i : Fin 2}

omit hp in
/-- Input `i` with its channels agreed. -/
def State.agreedOn (s : State) (i : Nat) : State :=
  { s with safe := { s.safe with agreed := s.safe.agreed.filter (fun k => k != i) ++ [i] } }

omit hp in
theorem agreedOn_insists {i : Nat} : (s.agreedOn i).insists i = (s.get F.SAFE_IO_demand).testBit i := by
  show ((s.get F.SAFE_IO_demand).testBit i || ((s.get F.SAFE_IO_input_fault).testBit i &&
    !(s.safe.agreed.filter (fun k => k != i) ++ [i]).contains i)) = _
  simp

/-- A recovered input settles once its channels have agreed. -/
theorem recovered_answers {P : State → Prop} (hf : s.hasField = true) (h0 : s.safeLevel i 0 = true) (h1 : s.safeLevel i 1 = true)
    (hb : (s.get F.SAFE_IO_input_fault).testBit i.val = true)
    (hP : ∀ t : State, (∃ ms, t.safe = { (s.agreedOn i).settleInputs.safe with msgs := (s.agreedOn i).settleInputs.safe.msgs ++ ms }) →
      t.get F.SAFE_IO_input_fault = (s.agreedOn i).settleInputs.get F.SAFE_IO_input_fault → P t) :
    ∃ t, exec (.inputFaultRecovered i) s = .next t ∧ P t := by
  rw [exec_inputFaultRecovered]
  have heff : ∀ {f : State → State}, f s = (s.agreedOn i).settleInputs → ∀ t, t.Same (s.safeChange f).driveOutputs → P t := fun hfs t ht => by
    refine hP t ?_ (by rw [io_reads (g := F.SAFE_IO_input_fault) ht rfl (by decide) (by decide), hfs])
    rw [ht.safe_driven, ← hfs]
    exact safeChange_safe
  exact run_answers_of_effect hp (safeIo_fitted hf) (heff (if_pos (by rw [hb, h0, h1]; rfl)))

omit hp in
theorem endInputFault_faultless (h : (s.get F.SAFE_IO_input_fault).testBit j = false) : s.endInputFault j = s :=
  endInputFault_idle (by rw [State.faultEnds, h]; rfl)

omit hp in
/-- The only fault of the inputs ends. -/
theorem endInputFault_clears (hj : j < 2) (h : s.faultEnds j = true) (hb : s.get F.SAFE_IO_input_fault = 2 ^ j) :
    (s.endInputFault j).get F.SAFE_IO_input_fault = 0 := by
  rw [endInputFault_ends h]
  refine Nat.zero_of_testBit_eq_false fun q => ?_
  refine (testBit_setBit (s := s) (f := F.SAFE_IO_input_fault) (i := j) (b := false) (j := q) (by decide) hj).trans ?_
  rw [hb]
  by_cases hq : q = j
  · rw [if_pos hq]
  · rw [if_neg hq, Nat.testBit_two_pow_of_ne (Ne.symm hq)]

omit hp in
theorem faultsEnded_clears {i : Fin 2} (h : s.faultEnds i = true) (hb : s.get F.SAFE_IO_input_fault = 2 ^ i.val) :
    s.faultsEnded.get F.SAFE_IO_input_fault = 0 := by
  have hclear := endInputFault_clears i.isLt h hb
  unfold State.faultsEnded
  rw [State.each_cons, State.each_cons, State.each_nil]
  rcases (show i = 0 ∨ i = 1 by omega) with rfl | rfl
  · rw [endInputFault_faultless (s := s.endInputFault 0) (j := 1) (by rw [show (s.endInputFault 0).get F.SAFE_IO_input_fault = 0 from hclear]; decide)]
    exact hclear
  · rw [endInputFault_faultless (s := s) (j := 0) (by rw [hb]; decide)]
    exact hclear

/-- The fault of an input ends once its channels agree, where its outputs are AUTO. -/
theorem recovered_ends (hf : s.hasField = true) (h0 : s.safeLevel i 0 = true) (h1 : s.safeLevel i 1 = true)
    (hd : s.get F.SAFE_IO_demand = 0) (hb : s.get F.SAFE_IO_input_fault = 2 ^ i.val)
    (hauto : ∀ o < 2, s.mapped i o = true → (s.safeOut o).manual = false) :
    ∃ t, exec (.inputFaultRecovered i) s = .next t ∧ t.get F.SAFE_IO_input_fault = 0 := by
  have hquiet : ∀ k, (s.agreedOn i).insists k = false := fun k => by
    by_cases hk : k = i.val
    · rw [hk, agreedOn_insists, hd, Nat.zero_testBit]
    · show ((s.get F.SAFE_IO_demand).testBit k || ((s.get F.SAFE_IO_input_fault).testBit k && _)) = false
      rw [hd, hb, Nat.zero_testBit, Nat.testBit_two_pow_of_ne (Ne.symm hk)]
      rfl
  have hsame := autoReset_sameInputs (s := s.agreedOn i)
  have hreset : ∀ o < 2, s.mapped i o = true → ((s.agreedOn i).autoReset.get F.SAFE_IO_held).testBit o = false := fun o ho hm => by
    have hout : ((s.agreedOn i).safeOut o).manual = false := hauto o ho hm
    rw [autoReset_bit ho, hout, if_pos (by simp [State.demandEnded, hquiet])]
  have hfault : (s.agreedOn i).autoReset.get F.SAFE_IO_input_fault = 2 ^ i.val := hsame.fault.trans hb
  have hends : (s.agreedOn i).autoReset.faultEnds i = true := by
    have hinsists : (s.agreedOn i).autoReset.insists i = false := by
      unfold State.insists
      rw [hsame.demand, hsame.fault, hsame.safe]
      exact hquiet i
    have hrest : ∀ o < 2, (!s.mapped i o || !((s.agreedOn i).autoReset.get F.SAFE_IO_held).testBit o) = true := fun o ho => by
      rcases hm : s.mapped i o with _ | _
      · rfl
      · rw [hreset o ho hm]
        rfl
    have hmap : ∀ o, (s.agreedOn i).autoReset.mapped i o = s.mapped i o := fun o => mapped_of_cfg hsame.cfg
    unfold State.faultEnds
    rw [hfault, hinsists, Nat.testBit_two_pow_self]
    refine List.all_eq_true.mpr fun o ho => ?_
    rw [hmap]
    exact hrest o (by simp only [List.mem_cons, List.not_mem_nil, or_false] at ho; omega)
  refine recovered_answers hp hf h0 h1 (by rw [hb, Nat.testBit_two_pow_self]) fun t _ hread => ?_
  rw [hread, get_settleInputs_io (by decide), faultsEnded_clears hends hfault]

omit hp in
/-- An input whose fault stands, agreed, under a held output. -/
structure State.Waiting (s t : State) (i o : Nat) : Prop where
  cfg : t.cfg = s.cfg
  held : (t.get F.SAFE_IO_held).testBit o = true
  fault : (t.get F.SAFE_IO_input_fault).testBit i = true
  agreed : i ∈ t.safe.agreed

omit hp in
/-- A fault that waits for the reset of an output stands while another ends. -/
theorem State.Waiting.endInputFault {i : Nat} (h : s.Waiting t i o) (ho : o < 2) (hm : s.mapped i o = true) (hj : j < 2) :
    s.Waiting (t.endInputFault j) i o := by
  by_cases he : t.faultEnds j = true
  · have hne : i ≠ j := by
      rintro rfl
      have hall := (Bool.and_eq_true_iff.mp he).2
      have hone := List.all_eq_true.mp hall o (by simp only [List.mem_cons, List.not_mem_nil, or_false]; omega)
      rw [mapped_of_cfg h.cfg, hm, h.held] at hone
      exact Bool.noConfusion hone
    refine ⟨endInputFault_cfg.trans h.cfg, ?_, ?_, ?_⟩
    · rw [get_endInputFault (g := F.SAFE_IO_held) (.inr ⟨rfl, by decide, by decide⟩), h.held]
    · rw [endInputFault_ends he]
      refine (testBit_setBit (s := t) (f := F.SAFE_IO_input_fault) (i := j) (b := false) (j := i) (by decide) hj).trans ?_
      rw [if_neg hne, h.fault]
    · rw [endInputFault_ends he]
      exact List.mem_filter.mpr ⟨h.agreed, by simpa using hne⟩
  · rw [endInputFault_idle (by simpa using he)]
    exact h

/-- A fault waits for the reset of a MANUAL output that it holds. -/
theorem recovered_waits (hf : s.hasField = true) (h0 : s.safeLevel i 0 = true) (h1 : s.safeLevel i 1 = true)
    (hb : (s.get F.SAFE_IO_input_fault).testBit i.val = true) (ho : o < 2) (hm : s.mapped i o = true)
    (hmanual : (s.safeOut o).manual = true) (hheld : (s.get F.SAFE_IO_held).testBit o = true) :
    ∃ t, exec (.inputFaultRecovered i) s = .next t ∧ (t.get F.SAFE_IO_input_fault).testBit i.val = true ∧ i.val ∈ t.safe.agreed := by
  have hsame := autoReset_sameInputs (s := s.agreedOn i)
  have hstart : s.Waiting (s.agreedOn i).autoReset i o := by
    refine ⟨hsame.cfg, ?_, ?_, ?_⟩
    · have hout : ((s.agreedOn i).safeOut o).manual = true := hmanual
      rw [autoReset_bit ho, hout]
      exact hheld
    · rw [hsame.fault]
      exact hb
    · rw [hsame.safe]
      exact List.mem_append_right _ List.mem_cons_self
  have hwait : s.Waiting (s.agreedOn i).autoReset.faultsEnded i o := by
    unfold State.faultsEnded
    rw [State.each_cons, State.each_cons, State.each_nil]
    exact (hstart.endInputFault ho hm (by decide)).endInputFault ho hm (by decide)
  have hagreed : i.val ∈ (s.agreedOn i).settleInputs.safe.agreed := by
    rcases settleInputs_cases (s := s.agreedOn i) with e | e
    · rw [e]
      exact hwait.agreed
    · rw [e, causeOff_safe]
      exact hwait.agreed
  refine recovered_answers hp hf h0 h1 hb fun t ⟨ms, hms⟩ hread => ⟨?_, by rw [hms]; exact hagreed⟩
  rw [hread, get_settleInputs_io (by decide), hwait.fault]

theorem recovered_idle (hf : s.hasField = true) (h : s.safeLevel i 0 = false ∨ s.safeLevel i 1 = false ∨
    (s.get F.SAFE_IO_input_fault).testBit i.val = false) : ∃ t, exec (.inputFaultRecovered i) s = .next t ∧ t.safe = s.safe ∧
      t.get F.SAFE_IO_input_fault = s.get F.SAFE_IO_input_fault :=
  unchanged_idle hp exec_inputFaultRecovered (safeIo_fitted hf) (if_neg (by rcases h with h | h | h <;> simp [h]))

end Recovery

/-! ### Tests of an output (R379) -/

section OutputTests
variable {o ch : Fin 2} (hf : s.hasField = true)
include hf

omit hp hf in
/-- No test of an output runs. -/
def State.testEnded (s : State) : State := { s with safe := { s.safe with outTest := none } }

omit hp hf in
/-- A test of an output that fails. -/
def State.testFailed (s : State) (o ch : Nat) : State :=
  ((s.testEnded.testDone 7 true).raise Code.SAFE_OUTPUT_FAULT [o, ch]).enterSafeHeld Code.SAFE_OUTPUT_FAULT (sourceUnit 0x11 255)

omit hp hf in
theorem testEnded_tested {v : State} (h : s.testEnded.tested v k b) : s.tested v k b := h

omit hf in
/-- A failed test of an output is the safe state. -/
theorem testFailed_answers {o ch : Nat} {h : State → State} (he : exec e s = s.run h) (hu : h s = s.testFailed o ch) (hs : s.isSafe = false) :
    ∃ t, exec e s = .next t ∧ s.tested t 7 true ∧ t.safeWith Code.SAFE_OUTPUT_FAULT := by
  have hrun : ((s.testEnded.testDone 7 true).raise Code.SAFE_OUTPUT_FAULT [o, ch]).isSafe = false :=
    (isSafe_of_state ((get_raise (by decide)).trans testDone_state)).trans hs
  rw [he]
  refine run_answers_of_effect hp hu fun t ht => ⟨?_, safeWith_of ht enterSafeHeld_state (enterSafeHeld_cause hrun (by decide))⟩
  refine testEnded_tested (testDone_tested.of_get fun g hg => ?_)
  rw [ht.get_driven (by rw [hg]; decide), State.testFailed, get_enterSafeHeld (by rw [hg]; decide), get_raise (by rw [hg]; decide)]

/-- A test of an output switches its channel off. -/
theorem outputTest_starts : ∃ t, exec (.outputTest o ch true false) s = .next t ∧ t.safe.outTest = some (o.val, ch.val) ∧
    t.safeOutOn o ch = false ∧ t.get F.SAFE_STATUS_state = s.get F.SAFE_STATUS_state := by
  rw [exec_outputTest]
  refine run_answers_of_effect (u := { s with safe := { s.safe with outTest := some (o.val, ch.val) } }) hp (if_neg (by simp [hf]))
    fun t ht => ?_
  have htest : t.safe.outTest = some (o.val, ch.val) := by rw [ht.safe_driven]
  exact ⟨htest, by simp [State.safeOutOn, htest], ht.get_driven (by decide)⟩

theorem outputTest_stuck (hs : s.isSafe = false) : ∃ t, exec (.outputTest o ch true true) s = .next t ∧ s.tested t 7 true ∧
    t.safeWith Code.SAFE_OUTPUT_FAULT :=
  testFailed_answers (o := o) (ch := ch) hp exec_outputTest ((if_neg (by simp [hf])).trans ((if_pos rfl).trans (if_pos rfl))) hs

omit hp hf in
/-- What the end of the cause of failed tests changes. -/
theorem testCause_safe : ∃ l, s.testCause.safe = { s.safe with active := l } := by
  unfold State.testCause
  split
  · exact ⟨_, rfl⟩
  · exact ⟨_, causeOff_safe⟩

omit hp hf in
theorem get_testCause (h : regKind g.key ≠ 271) : s.testCause.get g = s.get g := by
  unfold State.testCause
  split
  · rfl
  · exact get_causeOff_kind h

section Running
variable (ht : s.safe.outTest = some (o.val, ch.val))
include ht

theorem outputTest_passes (hb : b = ({ s with safe := { s.safe with outTest := none } }).safeOutOn o ch) :
    ∃ t, exec (.outputTest o ch false b) s = .next t ∧ s.tested t 7 false ∧ t.safe.outTest = none := by
  rw [exec_outputTest]
  refine run_answers_of_effect (u := ((s.testEnded.testDone 7 false).causeOff Code.SAFE_OUTPUT_FAULT).testCause) hp
    ((if_neg (by simp [hf])).trans ((if_neg (by simp)).trans ((if_neg (by simp [ht])).trans (if_pos (by simp [hb]))))) fun t hsame => ⟨?_, ?_⟩
  · refine testEnded_tested (testDone_tested.of_get fun g hg => ?_)
    rw [hsame.get_driven (by rw [hg]; decide), get_testCause (by rw [hg]; decide), get_causeOff_kind (by rw [hg]; decide)]
  · obtain ⟨l, hl⟩ := testCause_safe (s := (s.testEnded.testDone 7 false).causeOff Code.SAFE_OUTPUT_FAULT)
    obtain ⟨at_, l', hdone⟩ := testDone_safe (s := s.testEnded) (k := 7) (b := false)
    rw [hsame.safe_driven, hl, causeOff_safe, hdone]
    rfl

theorem outputTest_fails (hb : b ≠ ({ s with safe := { s.safe with outTest := none } }).safeOutOn o ch) (hs : s.isSafe = false) :
    ∃ t, exec (.outputTest o ch false b) s = .next t ∧ s.tested t 7 true ∧ t.safeWith Code.SAFE_OUTPUT_FAULT :=
  testFailed_answers (o := o) (ch := ch) hp exec_outputTest
    ((if_neg (by simp [hf])).trans ((if_neg (by simp)).trans ((if_neg (by simp [ht])).trans (if_neg (by simpa using hb))))) hs

end Running

theorem outputTest_idle (ht : s.safe.outTest ≠ some (o.val, ch.val)) : ∃ t, exec (.outputTest o ch false b) s = .next t ∧ t.safe = s.safe := by
  rw [exec_outputTest]
  exact run_answers_of_effect (u := s) hp ((if_neg (by simp [hf])).trans ((if_neg (by simp)).trans (if_pos (by simpa using ht))))
    fun t hsame => hsame.safe_driven

end OutputTests

end Commands

end SafeIo

/-- Settles O43, command by command: the safe inputs and outputs, the message and its links. -/
theorem safeIo : Obligations.SafeIo := by
  unfold Obligations.SafeIo
  refine ⟨fun s i ch b hp => inputChange_shows hp, fun s i hp => demand_holds hp, fun s i hp => demand_safe hp, fun s i hp => demand_idle hp,
    fun s i hp => demandCleared_manual hp, fun s i o hp => demandCleared_auto hp, fun s i hp => demandCleared_idle hp,
    fun s i ch hp => discrepancy_faults hp, fun s i ch hp => testPulse_faults hp, fun s i ch hp => agreement_faultless hp,
    fun s c f r hp => testPulse_passes hp, fun s c f r k hp => testPulse_fails hp, fun s i hp => recovered_ends hp,
    fun s i o hp => recovered_waits hp, fun s i hp => recovered_idle hp, fun s o ch hp => outputTest_starts hp,
    fun s o ch hp => outputTest_stuck hp, fun s o ch b hp => outputTest_passes hp, fun s o ch b hp => outputTest_fails hp,
    fun s o ch b hp => outputTest_idle hp, fun s i ch b hp hf => noField_idle hp exec_safeInputChange (if_neg (by simp [hf])),
    fun s i hp hf => noField_idle hp exec_safeInputDemand (if_neg (by simp [hf])),
    fun s i hp hf => noField_idle hp exec_safeInputDemandCleared (if_neg (by simp [hf])),
    fun s i ch b hp hf => noField_idle hp exec_safeInputFault (if_neg (by simp [hf])),
    fun s c f r hp hf => noField_idle hp exec_testPulse (if_neg (by simp [hf])),
    fun s i hp hf => noField_idle hp exec_inputFaultRecovered (if_neg (by simp [hf])),
    fun s o ch a b hp hf => noField_idle hp exec_outputTest (if_pos (by simp [hf])),
    fun s hp hf => noField_idle hp exec_safetyMessage (if_pos (by simp [hf])),
    fun s k hp => safetyMessage_sent hp, fun s hp => safetyMessage_silent hp, fun s k b hp => msgLink_changes hp,
    fun s k b hp => msgLink_idle hp⟩

end Sys2Proof.Machine
end

section
/-! PROOFS. The supervision of the checker: watchdogs, the lock-step comparator, frame references and self-tests (R366, R371, R372, R374,
R375, R382). -/

namespace Sys2Proof.Machine

open Sys2Proof

section Supervision

variable {s t u : State} {g : Field} {e : Instr} {c n : Nat} {b : Bool}

theorem exec_watchdogMiss {w : Fin 64} : exec (.watchdogMiss w b) s = execWatchdogMiss w b s := rfl
theorem exec_lockstepMismatch {a : Word} : exec (.lockstepMismatch a) s = execLockstepMismatch a s := rfl
theorem exec_contextNoReference {c : CtxId} : exec (.contextNoReference c) s = execContextNoReference c s := rfl
theorem exec_checkerStartDone : exec .checkerStartDone s = execCheckerStartDone s := rfl
theorem exec_testSlice {k : Fin 9} {q : Fin 64} {x l : BitVec 8} {w : Bool} {v : Fin 4} :
    exec (.testSlice k q x l w v) s = execTestSlice k q x l w v s := rfl
theorem exec_sliceOverrun : exec .sliceOverrun s = execSliceOverrun s := rfl
theorem exec_testOverdue {k : Fin 9} : exec (.testOverdue k) s = execTestOverdue k s := rfl

/-- An entry of the safe state changes neither slices, nor what watchdogs and references have missed. -/
theorem enterSafeHeld_slice {k : Nat} : (s.enterSafeHeld c k).safe.slice = s.safe.slice := by
  obtain ⟨e, o, ms, h⟩ := enterSafe_safe (s := s.causeOn c) (c := c) (k := k)
  unfold State.enterSafeHeld
  rw [h]
  unfold State.causeOn State.setActive State.setB
  split
  · rfl
  · rw [set_safe]

section Commands
variable (hp : s.powered = true)
include hp

/-! ### Watchdogs (R371) -/

section Watchdogs
variable {w : Fin 64} {d : WatchdogCfg}

omit hp in
/-- A miss of watchdog `w`, counted and written. -/
def State.missCounted (s : State) (w : Nat) (b : Bool) : State :=
  ((s.inc (F.SAFE_WDOG_misses w)).setB (F.SAFE_WDOG_early w) b).raise Code.WATCHDOG_MISS
    [w, bit (!b), (s.clk.now - tget s.clk.now s.safe.kicked w) / 200]

omit hp in
/-- The kick of watchdog `w` noted. -/
def State.kickNoted (s : State) (w : Nat) (b : Bool) : State :=
  { s with safe := { s.safe with kicked := if b then tput s.safe.kicked w s.clk.now else tdel s.safe.kicked w } }

omit hp in
/-- The reaction of a watchdog to a miss. -/
def State.missReaction (s : State) (w : Nat) (d : WatchdogCfg) : State :=
  match d.reaction with
  | 0 => { s with safe := { s.safe with ctxMiss := tset 0 s.safe.ctxMiss d.target 16 } }
  | 1 => { s with safe := { s.safe with partMiss := if s.safe.partMiss.contains w then s.safe.partMiss else s.safe.partMiss ++ [w] } }
  | _ => s.enterSafe Code.WATCHDOG_MISS (sourceUnit 0x11 255)

omit hp in
theorem missReaction_context (hr : d.reaction = 0) :
    (s.missReaction n d).safe.ctxMiss = tset 0 s.safe.ctxMiss d.target 16 ∧ (s.missReaction n d).get g = s.get g := by
  rw [State.missReaction, hr]
  exact ⟨rfl, rfl⟩

omit hp in
theorem missReaction_partition (hr : d.reaction = 1) : (s.missReaction n d).safe.partMiss =
    (if s.safe.partMiss.contains n then s.safe.partMiss else s.safe.partMiss ++ [n]) ∧ (s.missReaction n d).get g = s.get g := by
  rw [State.missReaction, hr]
  exact ⟨rfl, rfl⟩

omit hp in
/-- A miss of watchdog `w` before its reaction. -/
def State.missed (s : State) (w : Nat) (b : Bool) : State := (s.missCounted w b).kickNoted w b

omit hp in
theorem get_missed : (s.missed n b).get g = (s.missCounted n b).get g := rfl

omit hp in
/-- The count of a watchdog and whether its miss was early. -/
theorem missed_shows : (s.missed n b).get (F.SAFE_WDOG_misses n) = min (s.get (F.SAFE_WDOG_misses n) + 1) 65535 ∧
    (s.missed n b).get (F.SAFE_WDOG_early n) = bit b := by
  rw [get_missed, get_missed, State.missCounted, get_raise (by simp; decide), get_raise (by simp; decide), State.setB_def]
  constructor
  · rw [State.get_set_field (f := F.SAFE_WDOG_misses n) (g := F.SAFE_WDOG_early n) rfl (by simp [F.SAFE_WDOG_misses, F.SAFE_WDOG_early])
      (by simp [F.SAFE_WDOG_misses]), get_inc (by simp [F.SAFE_WDOG_misses])]
    rfl
  · rw [State.get_set (by simp [F.SAFE_WDOG_early])]
    cases b <;> rfl

omit hp in
theorem missed_state : (s.missed n b).get F.SAFE_STATUS_state = s.get F.SAFE_STATUS_state := by
  rw [get_missed, State.missCounted, get_raise (by decide), State.setB_def, State.get_set_kind (by simp), State.inc_def,
    State.get_set_kind (by simp)]

omit hp in
/-- The registers of the watchdogs after a reaction. -/
theorem get_missReaction (hk : State.enterSafe_mask.testBit (regKind g.key) = false) : (s.missReaction n d).get g = s.get g := by
  unfold State.missReaction
  split
  · rfl
  · rfl
  · exact get_enterSafe hk

omit hp in
/-- What a watched miss leads to. -/
theorem watchdogMiss_effect (hw : s.watches w d b) : ∃ f : State → State, exec (.watchdogMiss w b) s = s.run f ∧
    f s = (s.missed w b).missReaction w d := by
  refine ⟨_, exec_watchdogMiss, ?_⟩
  obtain ⟨hd, harmed, hpaused, hfield⟩ := hw
  have hrun : (!s.on (F.SAFE_WDOG_armed w) || (d.kind == wdCONTEXT && !b && s.triggerPaused d.target) ||
      (d.kind == wdMILEPOST && !s.hasField)) = false := by
    rw [harmed]
    by_cases hc : d.kind = wdCONTEXT
    · have hm : d.kind ≠ wdMILEPOST := by rw [hc]; decide
      rcases hpaused hc with h | h <;> simp [hm, h]
    · by_cases hm : d.kind = wdMILEPOST
      · simp [hc, hfield hm]
      · simp [hc, hm]
  rw [hd]
  dsimp only
  rw [if_neg (by rw [hrun]; decide)]
  unfold State.missed State.kickNoted State.missReaction State.missCounted
  rfl

/-- A watched miss is counted, with whether it was early, before its reaction. -/
theorem watchdog_answers {P : State → Prop} (hw : s.watches w d b) (hP : ∀ t, t.Same ((s.missed w b).missReaction w d).driveOutputs → P t) :
    ∃ t, exec (.watchdogMiss w b) s = .next t ∧ t.get (F.SAFE_WDOG_misses w) = min (s.get (F.SAFE_WDOG_misses w) + 1) 65535 ∧
      t.get (F.SAFE_WDOG_early w) = bit b ∧ P t := by
  obtain ⟨hcount, hearly⟩ := missed_shows (s := s) (n := w) (b := b)
  obtain ⟨f, hexec, heff⟩ := watchdogMiss_effect hw
  rw [hexec]
  refine run_answers_of_effect hp heff fun t ht => ⟨?_, ?_, hP t ht⟩
  · rw [ht.get_driven (by simp; decide), get_missReaction (by simp; decide), hcount]
  · rw [ht.get_driven (by simp; decide), get_missReaction (by simp; decide), hearly]

theorem watchdog_context (hw : s.watches w d b) (hr : d.reaction = 0) : ∃ t, exec (.watchdogMiss w b) s = .next t ∧
    t.get (F.SAFE_WDOG_misses w) = min (s.get (F.SAFE_WDOG_misses w) + 1) 65535 ∧ t.get (F.SAFE_WDOG_early w) = bit b ∧
    tget 0 t.safe.ctxMiss d.target = 16 ∧ t.get F.SAFE_STATUS_state = s.get F.SAFE_STATUS_state :=
  watchdog_answers hp hw fun t ht => by
    obtain ⟨hmiss, hget⟩ := missReaction_context (s := s.missed w b) (n := w) (g := F.SAFE_STATUS_state) hr
    rw [ht.safe_driven, ht.get_driven (by decide), hmiss, hget]
    exact ⟨tget_tset_self _ _ _ _, missed_state⟩

theorem watchdog_partition (hw : s.watches w d b) (hr : d.reaction = 1) : ∃ t, exec (.watchdogMiss w b) s = .next t ∧
    t.get (F.SAFE_WDOG_misses w) = min (s.get (F.SAFE_WDOG_misses w) + 1) 65535 ∧ t.get (F.SAFE_WDOG_early w) = bit b ∧
    w.val ∈ t.safe.partMiss ∧ t.get F.SAFE_STATUS_state = s.get F.SAFE_STATUS_state :=
  watchdog_answers hp hw fun t ht => by
    obtain ⟨hmiss, hget⟩ := missReaction_partition (s := s.missed w b) (n := w) (g := F.SAFE_STATUS_state) hr
    rw [ht.safe_driven, ht.get_driven (by decide), hmiss, hget]
    refine ⟨?_, missed_state⟩
    split
    · rename_i h
      simpa using h
    · exact List.mem_append_right _ List.mem_cons_self

theorem watchdog_safe (hw : s.watches w d b) (hr : 2 ≤ d.reaction) (hs : s.isSafe = false) : ∃ t, exec (.watchdogMiss w b) s = .next t ∧
    t.get (F.SAFE_WDOG_misses w) = min (s.get (F.SAFE_WDOG_misses w) + 1) 65535 ∧ t.get (F.SAFE_WDOG_early w) = bit b ∧
    t.safeWith Code.WATCHDOG_MISS := by
  have hreaction : (s.missed w b).missReaction w d = (s.missed w b).enterSafe Code.WATCHDOG_MISS (sourceUnit 0x11 255) := by
    unfold State.missReaction
    split
    · omega
    · omega
    · rfl
  refine watchdog_answers hp hw fun t ht => ?_
  rw [hreaction] at ht
  exact safeWith_of ht enterSafe_state (enterSafe_cause ((isSafe_of_state missed_state).trans hs) (by decide))

/-- A miss that is not watched changes nothing. -/
theorem watchdog_idle (hw : ∀ d, ¬ s.watches w d b) : ∃ t, exec (.watchdogMiss w b) s = .next t ∧ t.safe = s.safe ∧
    t.get (F.SAFE_WDOG_misses w) = s.get (F.SAFE_WDOG_misses w) := by
  rw [exec_watchdogMiss]
  refine run_answers_of_effect (u := s) hp ?_ fun t ht => ⟨ht.safe_driven, ht.get_driven (by simp; decide)⟩
  split
  · rfl
  · rename_i d hd
    refine if_pos ?_
    by_contra hrun
    refine hw d ⟨hd, ?_, fun hc => ?_, fun hm => ?_⟩
    · cases h : s.on (F.SAFE_WDOG_armed w)
      · simp [h] at hrun
      · rfl
    · cases hb : b
      · cases h : s.triggerPaused d.target
        · exact .inr rfl
        · simp [hc, hb, h] at hrun
      · exact .inl rfl
    · cases h : s.hasField
      · simp [hm, h] at hrun
      · rfl

end Watchdogs

/-! ### The comparator and the references (R366, R372) -/

theorem lockstep_safe {a : Word} (hs : s.isSafe = false) : ∃ t, exec (.lockstepMismatch a) s = .next t ∧
    t.safeWith Code.LOCKSTEP_MISMATCH := by
  rw [exec_lockstepMismatch]
  exact run_answers_of_effect hp rfl fun t ht => safeWith_of ht enterSafe_state
    (enterSafe_cause ((isSafe_of_state (get_raise (by decide))).trans hs) (by decide))

theorem lockstep_stays {a : Word} (hs : s.isSafe = true) : ∃ t, exec (.lockstepMismatch a) s = .next t ∧
    t.get F.SAFE_STATUS_state = safeSAFE ∧ t.get F.SAFE_CAUSE_code = s.get F.SAFE_CAUSE_code ∧ t.outputsOff ∧
    t.wrote Code.LOCKSTEP_MISMATCH [a.toNat] := by
  have hstate : (s.raise Code.LOCKSTEP_MISMATCH [a.toNat]).get F.SAFE_STATUS_state = safeSAFE := (get_raise (by decide)).trans (isSafe_true hs)
  rw [exec_lockstepMismatch]
  refine run_answers_of_effect hp (enterSafe_idle ((isSafe_of_state (get_raise (by decide))).trans hs)) fun t ht => ?_
  exact ⟨(ht.get_driven (by decide)).trans hstate, (ht.get_driven (by decide)).trans (get_raise (by decide)), Same_off ht hstate,
    ht.wrote_driven raise_wrote⟩

theorem reference_missed {c : CtxId} (hd : (s.ctxCfg c).defined = true) (hn : s.get (F.SAFE_CTX_phase c) ≠ ctxNORMAL)
    (hm : c.val ∉ s.safe.refMissed) : ∃ t, exec (.contextNoReference c) s = .next t ∧ c.val ∈ t.safe.refMissed ∧
    t.wrote Code.CONTEXT_NO_REFERENCE [c] := by
  rw [exec_contextNoReference]
  refine run_answers_of_effect hp (if_neg (by simp [hd, hn, hm])) fun t ht => ⟨?_, ht.wrote_driven raise_wrote⟩
  rw [ht.safe_driven, raise_safe]
  exact List.mem_append_right _ List.mem_cons_self

theorem reference_idle {c : CtxId} (h : (s.ctxCfg c).defined = false ∨ s.get (F.SAFE_CTX_phase c) = ctxNORMAL ∨
    c.val ∈ s.safe.refMissed) : ∃ t, exec (.contextNoReference c) s = .next t ∧ t.safe = s.safe := by
  rw [exec_contextNoReference]
  exact run_answers_of_effect (u := s) hp (if_pos (by rcases h with h | h | h <;> simp [h])) fun t ht => ht.safe_driven

/-! ### The end of the start-up tests (R382) -/

section Start

omit hp in
/-- The start-up tests have passed. -/
def State.startPassed (s : State) : State := s.safeChange (fun s => s.set F.SAFE_STATUS_state safeRECOVERY)

omit hp in
theorem startPassed_state : s.startPassed.get F.SAFE_STATUS_state = safeRECOVERY := by
  rw [State.startPassed, get_safeChange (by decide), State.get_set (by decide)]
  rfl

omit hp in
theorem startPassed_cfg : s.startPassed.cfg = s.cfg := by rw [State.startPassed, safeChange_cfg, set_cfg]

omit hp in
theorem startPassed_goldenSeen : s.startPassed.safe.goldenSeen = s.safe.goldenSeen := by
  obtain ⟨ms, hms⟩ := safeChange_safe (s := s) (f := fun s => s.set F.SAFE_STATUS_state safeRECOVERY)
  rw [State.startPassed, hms, set_safe]

omit hp in
/-- Every defined context has seen its golden frame. -/
def State.allGolden (s : State) : Bool := (upTo 64).all (fun c => !(s.ctxCfg c).defined || s.safe.goldenSeen.contains c)

omit hp in
theorem startPassed_allGolden : s.startPassed.allGolden = s.allGolden := by
  unfold State.allGolden
  simp only [ctxCfg_of_cfg startPassed_cfg, startPassed_goldenSeen]

theorem start_runs (hs : s.get F.SAFE_STATUS_state = safeSTART)
    (hg : ∀ c < 64, (s.ctxCfg c).defined = true → c ∈ s.safe.goldenSeen) :
    ∃ t, exec .checkerStartDone s = .next t ∧ t.get F.SAFE_STATUS_state = safeRUN := by
  have hall : s.startPassed.allGolden = true := by
    rw [startPassed_allGolden]
    refine List.all_eq_true.mpr fun c hc => ?_
    rcases hd : (s.ctxCfg c).defined with _ | _
    · rfl
    · simpa using hg c (List.mem_range.mp hc) hd
  have hrec : s.startPassed.recoveryCheck = (s.startPassed.set F.SAFE_STATUS_state safeRUN).sendSafety := by
    unfold State.recoveryCheck
    refine if_pos ?_
    rw [startPassed_state]
    exact hall
  rw [exec_checkerStartDone]
  refine run_answers_of_effect hp ((if_neg (by simp [hs])).trans hrec) fun t ht => ?_
  rw [ht.get_driven (by decide), get_sendSafety (by decide), State.get_set (by decide)]
  rfl

theorem start_recovers {c : CtxId} (hs : s.get F.SAFE_STATUS_state = safeSTART) (hd : (s.ctxCfg c).defined = true)
    (hg : c.val ∉ s.safe.goldenSeen) : ∃ t, exec .checkerStartDone s = .next t ∧ t.get F.SAFE_STATUS_state = safeRECOVERY := by
  have hnot : s.startPassed.allGolden = false := by
    rw [startPassed_allGolden]
    exact List.all_eq_false.mpr ⟨c.val, List.mem_range.mpr c.isLt, by simp [hd, hg]⟩
  have hrec : s.startPassed.recoveryCheck = s.startPassed := by
    unfold State.recoveryCheck
    unfold State.allGolden at hnot
    rw [hnot, Bool.and_false]
    rfl
  rw [exec_checkerStartDone]
  refine run_answers_of_effect hp ((if_neg (by simp [hs])).trans hrec) fun t ht => ?_
  rw [ht.get_driven (by decide), startPassed_state]

theorem start_idle (hs : s.get F.SAFE_STATUS_state ≠ safeSTART) : ∃ t, exec .checkerStartDone s = .next t ∧
    t.get F.SAFE_STATUS_state = s.get F.SAFE_STATUS_state ∧ t.safe = s.safe := by
  rw [exec_checkerStartDone]
  exact run_answers_of_effect (u := s) hp (if_pos (by simpa using hs)) fun t ht => ⟨ht.get_driven (by decide), ht.safe_driven⟩

end Start

/-! ### Slices (R374) -/

section Slices
variable {k : Fin 9} {q : Fin 64} {x l : BitVec 8}

omit hp in
/-- A failed test of an item, completed and written. -/
def State.failNoted (s : State) (k n : Nat) : State := (s.testDone k true).raise Code.TEST_FAILED [k, n]

omit hp in
theorem failNoted_state {k : Nat} : (s.failNoted k n).get F.SAFE_STATUS_state = s.get F.SAFE_STATUS_state := by
  rw [State.failNoted, get_raise (by decide), testDone_state]

omit hp in
theorem failNoted_tested {k : Nat} : s.tested (s.failNoted k n) k true :=
  testDone_tested.of_get fun g hg => get_raise (by rw [hg]; decide)

omit hp in
/-- The items whose failure is the safe state: of the checker and the line store. -/
theorem testFails_safe {k : Nat} (h : k < 2 ∨ k = 4 ∧ 48 ≤ n) :
    s.testFails k n = (s.failNoted k n).enterSafeHeld Code.TEST_FAILED (sourceUnit 0x11 255) := by
  unfold State.testFails
  dsimp only
  rcases h with h | ⟨rfl, h⟩
  · obtain rfl | rfl : k = 0 ∨ k = 1 := by omega
    · rfl
    · rfl
  · exact (if_neg (by omega)).trans (if_neg (by omega))

/-- A failed test that is the safe state. -/
theorem failed_answers {k : Nat} {h : State → State} (he : exec e s = s.run h) (hu : h s = u.testFails k n) (hi : k < 2 ∨ k = 4 ∧ 48 ≤ n)
    (hget : ∀ g : Field, regKind g.key = 271 ∨ regKind g.key = 283 → u.get g = s.get g) (hs : s.isSafe = false) : ∃ t, exec e s = .next t ∧
      t.safe.slice = u.safe.slice ∧ s.tested t k true ∧ t.safeWith Code.TEST_FAILED := by
  have hrun : (u.failNoted k n).isSafe = false :=
    (isSafe_of_state (failNoted_state.trans (hget _ (.inl rfl)))).trans hs
  rw [he]
  refine run_answers_of_effect hp (hu.trans (testFails_safe hi)) fun t ht =>
    ⟨?_, ?_, safeWith_of ht enterSafeHeld_state (enterSafeHeld_cause hrun (by decide))⟩
  · obtain ⟨at_, l, hdone⟩ := testDone_safe (s := u) (k := k) (b := true)
    rw [ht.safe_driven, enterSafeHeld_slice, State.failNoted, raise_safe, hdone]
  · have htested : u.tested t k true := failNoted_tested.of_get fun g hg => by
      rw [ht.get_driven (by rw [hg]; decide), get_enterSafeHeld (by rw [hg]; decide)]
    unfold State.tested at htested ⊢
    rwa [hget _ (.inr (by simp))] at htested

section Fits
variable (hk : k.val < 5) (hx : x.toNat ≤ l.toNat) (hb : x.toNat ≤ 4) (hn : s.safe.slice = none)
include hk hx hb hn

omit hp in
/-- A slice starts whose bound fits. -/
theorem slice_fits : ¬ ((5 ≤ k.val || false || l.toNat < x.toNat || 4 < x.toNat || s.safe.slice.isSome) = true) := by
  simp [hn]
  omega

omit hp hk hx hb hn in
/-- A test leg that a spare has passed is counted. -/
def State.spareNoted (s : State) (k : Fin 9) (q : Fin 64) : State :=
  if k.val = 2 && s.coreRole q == coreSPARE then
    ({ s with cores := { s.cores with spareTest := tput s.cores.spareTest q s.clk.now } }).inc (F.CORE_SPARE_TEST_passed q)
  else s

omit hp hk hx hb hn in
theorem spareNoted_safe : (s.spareNoted k q).safe = s.safe := by
  unfold State.spareNoted
  split
  · rw [State.inc_def, set_safe]
  · rfl

omit hp hk hx hb hn in
theorem get_spareNoted (h : regKind g.key ≠ 372) : (s.spareNoted k q).get g = s.get g := by
  unfold State.spareNoted
  split
  · rw [State.inc_def, State.get_set_kind (by simpa using h)]
    rfl
  · rfl

theorem slice_passes : ∃ t, exec (.testSlice k q x l false 1) s = .next t ∧ s.tested t k false ∧ t.safe.slice = none := by
  have hfits := slice_fits hk hx hb hn
  rw [exec_testSlice]
  refine run_answers_of_effect (u := ((s.spareNoted k q).testDone k false).testCause) hp ((if_neg hfits).trans (if_pos rfl)) fun t ht => ⟨?_, ?_⟩
  · have htested : (s.spareNoted k q).tested t k false := testDone_tested.of_get fun g hg => by
      rw [ht.get_driven (by rw [hg]; decide), get_testCause (by rw [hg]; decide)]
    unfold State.tested at htested ⊢
    rwa [get_spareNoted (by simp)] at htested
  · obtain ⟨act, hcause⟩ := testCause_safe (s := (s.spareNoted k q).testDone k false)
    obtain ⟨at_, act', hdone⟩ := testDone_safe (s := s.spareNoted k q) (k := k) (b := false)
    rw [ht.safe_driven, hcause, hdone, spareNoted_safe]
    exact hn

theorem slice_runs : ∃ t, exec (.testSlice k q x l false 3) s = .next t ∧ t.safe.slice = some (k.val, q.val, x.toNat) := by
  have hfits := slice_fits hk hx hb hn
  rw [exec_testSlice]
  refine run_answers_of_effect hp ((if_neg hfits).trans ((if_neg (by decide)).trans ((if_neg (by decide)).trans (if_pos rfl)))) fun t ht => ?_
  rw [ht.safe_driven]

theorem slice_continues : ∃ t, exec (.testSlice k q x l false 0) s = .next t ∧ t.safe = s.safe := by
  have hfits := slice_fits hk hx hb hn
  rw [exec_testSlice]
  exact run_answers_of_effect (u := s) hp ((if_neg hfits).trans ((if_neg (by decide)).trans ((if_neg (by decide)).trans (if_neg (by decide)))))
    fun t ht => ht.safe_driven

omit hp in
theorem slice_effect : (if 5 ≤ k.val || false || l.toNat < x.toNat || 4 < x.toNat || s.safe.slice.isSome then s
    else if (2 : Fin 4).val == slicePASS then ((s.spareNoted k q).testDone k false).testCause
    else if (2 : Fin 4).val == sliceFAIL then s.testFails k q
    else if (2 : Fin 4).val == sliceRUNS then { s with safe := { s.safe with slice := some (k.val, q.val, x.toNat) } }
    else s) = s.testFails k q :=
  (if_neg (slice_fits hk hx hb hn)).trans ((if_neg (by decide)).trans (if_pos rfl))

theorem slice_fails (hi : k.val < 2 ∨ k.val = 4 ∧ 48 ≤ q.val) (hs : s.isSafe = false) : ∃ t, exec (.testSlice k q x l false 2) s = .next t ∧
    s.tested t k true ∧ t.safeWith Code.TEST_FAILED := by
  obtain ⟨t, ht, -, htested, hsafe⟩ := failed_answers (u := s) (k := k) (n := q) hp exec_testSlice (slice_effect hk hx hb hn) hi
    (fun _ _ => rfl) hs
  exact ⟨t, ht, htested, hsafe⟩

omit hp hk hx hb hn in
/-- An edge engine that fails its test. -/
def State.edgeOut (s : State) (q : Nat) : State :=
  { s with cores := { s.cores with edgeFailed := if s.cores.edgeFailed.contains q then s.cores.edgeFailed else s.cores.edgeFailed ++ [q] } }

omit hp hk hx hb hn in
theorem engineFails_edge {q : Nat} (hq : q < 8) : s.engineFails q = (s.edgeOut q).raise Code.ENGINE_FAILED [0, q, 3] := if_pos hq

omit hp hk hx hb hn in
theorem edgeOut_failed {q : Nat} : q ∈ (s.edgeOut q).cores.edgeFailed := by
  show q ∈ if s.cores.edgeFailed.contains q then s.cores.edgeFailed else s.cores.edgeFailed ++ [q]
  split
  · rename_i h
    simpa using h
  · exact List.mem_append_right _ List.mem_cons_self

/-- A failed test of an edge engine takes the engine out. -/
theorem slice_engine (hi : k.val = 3) (hq : q.val < 8) : ∃ t, exec (.testSlice k q x l false 2) s = .next t ∧ s.tested t k true ∧
    q.val ∈ t.cores.edgeFailed ∧ t.wrote Code.ENGINE_FAILED [0, q, 3] := by
  have hfail : s.testFails k q = ((s.failNoted k q).edgeOut q).raise Code.ENGINE_FAILED [0, q, 3] := by
    rw [← engineFails_edge hq]
    unfold State.testFails
    rw [hi]
    rfl
  rw [exec_testSlice]
  refine run_answers_of_effect hp ((slice_effect hk hx hb hn).trans hfail) fun t ht => ⟨?_, ?_, ht.wrote_driven raise_wrote⟩
  · refine (failNoted_tested (n := q)).of_get fun g hg => ?_
    rw [ht.get_driven (by rw [hg]; decide), get_raise (by rw [hg]; decide)]
    rfl
  · rw [ht.cores.trans driveOutputs_cores, raise_cores]
    exact edgeOut_failed

end Fits

theorem slice_idle {w : Bool} {v : Fin 4} (h : 5 ≤ k.val ∨ w = true ∨ l.toNat < x.toNat ∨ 4 < x.toNat ∨ s.safe.slice ≠ none) :
    ∃ t, exec (.testSlice k q x l w v) s = .next t ∧ t.safe = s.safe := by
  have hno : (5 ≤ k.val || w || l.toNat < x.toNat || 4 < x.toNat || s.safe.slice.isSome) = true := by
    rcases h with h | h | h | h | h
    · simp [h]
    · simp [h]
    · simp [h]
    · simp [h]
    · simp [Option.isSome_iff_ne_none.mpr h]
  rw [exec_testSlice]
  exact run_answers_of_effect (u := s) hp (if_pos hno) fun t ht => ht.safe_driven

/-! ### Overruns and overdue tests (R374, R375) -/

omit hp in
/-- A slice that overruns is stopped. -/
def State.sliceStopped (s : State) (k n : Nat) : State := ({ s with safe := { s.safe with slice := none } }).raise Code.SLICE_OVERRUN [k, n]

theorem overrun_safe {k n b : Nat} (hn : s.safe.slice = some (k, n, b)) (hk : k < 2) (hs : s.isSafe = false) :
    ∃ t, exec .sliceOverrun s = .next t ∧ t.safe.slice = none ∧ s.tested t k true ∧ t.safeWith Code.TEST_FAILED := by
  have hstopped : (s.sliceStopped k b).safe.slice = none := by rw [State.sliceStopped, raise_safe]
  obtain ⟨t, ht, hslice, hrest⟩ := failed_answers (u := s.sliceStopped k b) (k := k) (n := n) hp exec_sliceOverrun
    (by rw [hn]; rfl) (.inl hk) (fun g hg => get_raise (by rcases hg with h | h <;> rw [h] <;> decide)) hs
  exact ⟨t, ht, hslice.trans hstopped, hrest⟩

theorem overrun_idle (hn : s.safe.slice = none) : ∃ t, exec .sliceOverrun s = .next t ∧ t.safe = s.safe := by
  rw [exec_sliceOverrun]
  exact run_answers_of_effect (u := s) hp (by rw [hn]) fun t ht => ht.safe_driven

section Overdue
variable (hf : s.testFitted k = true) (ho : s.on (F.SAFE_TEST_overdue k) = false)
include hf ho

omit hp hf ho in
/-- An overdue item, flagged and written. -/
def State.overdueNoted (s : State) (k : Nat) : State :=
  ((s.set (F.SAFE_TEST_overdue k) 1).set F.SAFE_STATUS_overdue 1).raise Code.TEST_OVERDUE [k, s.testAge k]

omit hp hf ho in
theorem overdueNoted_shows {k : Nat} : (s.overdueNoted k).get (F.SAFE_TEST_overdue k) = 1 ∧ (s.overdueNoted k).get F.SAFE_STATUS_overdue = 1 ∧
    (s.overdueNoted k).get F.SAFE_STATUS_state = s.get F.SAFE_STATUS_state := by
  unfold State.overdueNoted
  refine ⟨?_, ?_, ?_⟩
  · rw [get_raise (by simp; decide), State.get_set_kind (by simp), State.get_set (by simp [F.SAFE_TEST_overdue])]
    rfl
  · rw [get_raise (by decide), State.get_set (by decide)]
    rfl
  · rw [get_raise (by decide), State.get_set_field (f := F.SAFE_STATUS_state) (g := F.SAFE_STATUS_overdue) rfl (by decide) (by decide),
      State.get_set_kind (by simp)]

omit hp hf ho in
theorem overdueNoted_cfg {k : Nat} : (s.overdueNoted k).cfg = s.cfg := by rw [State.overdueNoted, raise_cfg, set_cfg, set_cfg]

theorem overdue_flagged (hsafe : s.cfg.safety.overdueSafe = false) : ∃ t, exec (.testOverdue k) s = .next t ∧
    t.get (F.SAFE_TEST_overdue k) = 1 ∧ t.get F.SAFE_STATUS_overdue = 1 ∧ t.get F.SAFE_STATUS_state = s.get F.SAFE_STATUS_state ∧
    t.wrote Code.TEST_OVERDUE [k, s.testAge k] := by
  obtain ⟨htest, hstatus, hstate⟩ := overdueNoted_shows (s := s) (k := k)
  have hcfg : (s.overdueNoted k).cfg.safety.overdueSafe = false := by rw [overdueNoted_cfg, hsafe]
  rw [exec_testOverdue]
  refine run_answers_of_effect (u := s.overdueNoted k) hp ((if_neg (by simp [hf, ho])).trans (if_neg (by rw [hcfg]; decide) :
    (if (s.overdueNoted k).cfg.safety.overdueSafe then _ else s.overdueNoted k) = _)) fun t ht => ?_
  rw [ht.get_driven (by simp; decide), ht.get_driven (by decide), ht.get_driven (by decide)]
  exact ⟨htest, hstatus, hstate, ht.wrote_driven raise_wrote⟩

theorem overdue_safe (hsafe : s.cfg.safety.overdueSafe = true) (hs : s.isSafe = false) : ∃ t, exec (.testOverdue k) s = .next t ∧
    t.get (F.SAFE_TEST_overdue k) = 1 ∧ t.safeWith Code.TEST_OVERDUE := by
  obtain ⟨htest, hstatus, hstate⟩ := overdueNoted_shows (s := s) (k := k)
  have hcfg : (s.overdueNoted k).cfg.safety.overdueSafe = true := by rw [overdueNoted_cfg, hsafe]
  rw [exec_testOverdue]
  refine run_answers_of_effect (u := (s.overdueNoted k).enterSafeHeld Code.TEST_OVERDUE (sourceUnit 0x11 255)) hp
    ((if_neg (by simp [hf, ho])).trans (if_pos hcfg)) fun t ht =>
    ⟨?_, safeWith_of ht enterSafeHeld_state (enterSafeHeld_cause ((isSafe_of_state hstate).trans hs) (by decide))⟩
  rw [ht.get_driven (by simp; decide), get_enterSafeHeld (by simp; decide), htest]

end Overdue

theorem overdue_idle (h : s.testFitted k = false ∨ s.on (F.SAFE_TEST_overdue k) = true) : ∃ t, exec (.testOverdue k) s = .next t ∧
    t.safe = s.safe ∧ t.get F.SAFE_STATUS_state = s.get F.SAFE_STATUS_state := by
  rw [exec_testOverdue]
  exact run_answers_of_effect (u := s) hp (if_pos (by rcases h with h | h <;> simp [h])) fun t ht => ⟨ht.safe_driven, ht.get_driven (by decide)⟩

end Slices

end Commands

end Supervision

/-- Settles O42, command by command: the reaction that each finding of the supervision brings. -/
theorem checkerSupervision : Obligations.CheckerSupervision := by
  unfold Obligations.CheckerSupervision
  exact ⟨fun s w b d hp => watchdog_context hp, fun s w b d hp => watchdog_partition hp, fun s w b d hp => watchdog_safe hp,
    fun s w b hp => watchdog_idle hp, fun s a hp => lockstep_safe hp, fun s a hp => lockstep_stays hp, fun s c hp => reference_missed hp,
    fun s c hp => reference_idle hp, fun s hp => start_runs hp, fun s c hp => start_recovers hp, fun s hp => start_idle hp,
    fun s k u b l hp => slice_passes hp, fun s k u b l hp => slice_runs hp, fun s k u b l hp => slice_continues hp,
    fun s k u b l hp hk hx hb hn hi => slice_fails hp hk hx hb hn (.inl hi), fun s k u b l hp => slice_engine hp,
    fun s k u b l hp hk hx hb hn hi hu => slice_fails hp hk hx hb hn (.inr ⟨hi, hu⟩), fun s k u b l w e hp => slice_idle hp,
    fun s k u b hp => overrun_safe hp, fun s hp => overrun_idle hp, fun s k hp => overdue_flagged hp, fun s k hp => overdue_safe hp,
    fun s k hp => overdue_idle hp⟩

end Sys2Proof.Machine
end

section
/-! PROOFS. A verdict for the one arm of a part: which subject it reaches, and what it leaves of the open ones (R315). -/

namespace Sys2Proof.Machine

open Sys2Proof

section Verdicts

variable {s t : State} {z : Subject} {v : Option VerdictIn} {p tag o a b c : Nat}

theorem digestRecord_host {g : Option ProgramSec} {m n : Nat} {x y : BitVec 256} {i j k : Nat} :
    (s.digestRecord p g m n x y i j k).host = s.host :=
  (State.digestRecord_frame (Within.refl _) (.refl _ s)).host rfl

/-- A settled subject is settled, and the others are as before. -/
theorem settled_subjects (hz : z.settled = false) : (s.settle z o a b c v).host.subjects =
    s.host.subjects.map (fun y => if y.part == z.part && y.resNum == z.resNum then { y with settled := true } else y) := by
  cases v with
  | none => exact settle_subjects hz
  | some v =>
    unfold State.settle
    rw [if_neg (by simp [hz])]
    refine ready_subjects.trans ?_
    dsimp only
    rw [digestRecord_host]

theorem openSubjects_of_subjects (h : t.host.subjects = s.host.subjects) : t.openSubjects p tag = s.openSubjects p tag := by
  unfold State.openSubjects
  rw [h]

/-- A subject that is open, its tag and its partition. -/
theorem open_of_mem (h : z ∈ s.openSubjects p tag) : z.kind = 1 ∧ z.part = p ∧ z.tag = tag ∧ z.settled = false := by
  obtain ⟨-, hz⟩ := List.mem_filter.mp h
  simp only [Bool.and_eq_true, beq_iff_eq, Bool.not_eq_true'] at hz
  obtain ⟨⟨⟨hkind, hpart⟩, htag⟩, hopen⟩ := hz
  exact ⟨hkind, hpart, htag, hopen⟩

/-- The tag of the one open subject has none once it is settled. -/
theorem settle_closes (h : s.openSubjects p tag = [z]) : (s.settle z o a b c v).openSubjects p tag = [] := by
  obtain ⟨-, -, -, hz⟩ := open_of_mem (h ▸ List.mem_cons_self)
  rw [State.openSubjects, settled_subjects hz, List.filter_eq_nil_iff]
  intro y hy
  obtain ⟨x, hx, rfl⟩ := List.mem_map.mp hy
  by_cases hm : (x.part == z.part && x.resNum == z.resNum) = true
  · rw [if_pos hm]
    simp
  · rw [if_neg hm]
    intro hopen
    have hmem : x ∈ s.openSubjects p tag := List.mem_filter.mpr ⟨hx, hopen⟩
    rw [h, List.mem_singleton] at hmem
    subst hmem
    simp at hm

theorem oneArm_of_subjects (h : t.host.subjects = s.host.subjects) (ha : s.oneArm p tag z) : t.oneArm p tag z := by
  unfold State.oneArm at ha ⊢
  rwa [openSubjects_of_subjects h, h]

/-- The verdict of a part with one arm is one for that arm. -/
theorem applyVerdict_oneArm (ha : s.oneArm p tag z) : s.applyVerdict p tag o c v = s.verdictOn z o c v := by
  obtain ⟨hopen, hlast⟩ := ha
  obtain ⟨-, -, -, hz⟩ := open_of_mem (hopen ▸ List.mem_cons_self)
  unfold State.applyVerdict
  rw [hlast]
  dsimp only
  rw [List.filter_cons_of_pos (by simp [hz]), List.filter_nil]
  dsimp only [List.isEmpty_cons]
  rw [if_neg Bool.false_ne_true, State.each_cons, State.each_nil, if_neg (by simp [hz])]

/-- The one open subject of a tag is its own present. -/
theorem subjectNow_one (h : s.openSubjects p tag = [z]) : s.subjectNow z = z := by
  obtain ⟨-, rfl, rfl, -⟩ := open_of_mem (h ▸ List.mem_cons_self)
  unfold State.subjectNow
  rw [h, List.find?_cons_of_pos (by simp)]
  rfl

theorem entryOf_keyless (hk : z.key = none) : s.entryOf z = none := by rw [State.entryOf, hk]

/-- A verdict for an arm without an entry that has not fired settles it. -/
theorem verdictOn_keyless (hk : z.key = none) (hf : z.firedPeriod = none) (h : s.openSubjects p tag = [z]) :
    s.verdictOn z o c v = s.settle z o 0 (if o == outINVALID then c else 0) z.flags v := by
  unfold State.verdictOn State.fireDue
  rw [entryOf_keyless hk]
  dsimp only
  rw [subjectNow_one h]
  unfold State.verdictArm
  rw [entryOf_keyless hk, hf]
  rfl

/-- A verdict for a part without an entry closes it. -/
theorem applyVerdict_keyless (hk : z.key = none) (hf : z.firedPeriod = none) (ha : s.oneArm p tag z) :
    (s.applyVerdict p tag o c v).openSubjects p tag = [] := by
  rw [applyVerdict_oneArm ha, verdictOn_keyless hk hf ha.1, settle_closes ha.1]

/-! ### The contributions that a verdict expects -/

variable {x : VerdictIn} {l : List Contrib}

/-- A verdict whose contributions have come is applied. -/
theorem giveVerdict_applies (hl : s.contribsFor x = some l) : s.giveVerdict p x a b = s.applyVerdict p (recField x.record 4 4)
    (if s.isSafe then (outINVALID, Code.SAFE_STATE_ENTERED) else combined a b l).1
    (if s.isSafe then (outINVALID, Code.SAFE_STATE_ENTERED) else combined a b l).2 (some x) := by
  unfold State.giveVerdict
  rw [hl]

theorem contribsFor_of_peer (h : t.peer = s.peer) : t.contribsFor x = s.contribsFor x := by
  unfold State.contribsFor State.blocksPassed
  rw [h]

/-- A verdict that waited is applied once its contributions have come. -/
theorem giveWaited_applies {h : HeldVerdict} (hl : s.contribsFor h.v = some l) : ∃ (u : State) (a b : Nat),
    s.giveWaited h = u.applyVerdict h.part (recField h.v.record 4 4) a b (some h.v) ∧ u.host = s.host ∧ u.peer = s.peer := by
  have hroad : ∀ n, ((s.raise Code.ROAD_CLOSED [h.part, recField h.v.record 4 4, n])).contribsFor h.v = some l := fun n =>
    (contribsFor_of_peer raise_peer).trans hl
  unfold State.giveWaited
  dsimp only
  split
  · exact ⟨s, _, _, giveVerdict_applies hl, rfl, rfl⟩
  · split
    · exact ⟨s, _, _, giveVerdict_applies hl, rfl, rfl⟩
    · exact ⟨_, _, _, giveVerdict_applies (hroad _), raise_host, raise_peer⟩
    · exact ⟨s, _, _, giveVerdict_applies hl, rfl, rfl⟩

end Verdicts

end Sys2Proof.Machine
end

section
/-! PROOFS. The packets between neighbouring modules: the sequence and its refusals, verge rows, seam digests, contributions, and the
control packets (R340 to R342, R404, R405). -/

namespace Sys2Proof.Machine

open Sys2Proof

section PeerPackets

variable {s t u : State} {k : Fin 2} {e : PeerHead} {g : Field} {w : Instr} {f : State → State} {j n m l reason key : Nat} {x : PeerMsg}

/-! ### The sequence (R340) -/

/-- The next packet of a side is counted. -/
def State.taken (s : State) (k : Nat) : State := s.setSide k { s.side k with rxNext := ((s.side k).rxNext + 1) % 65536 }

/-- A packet that is taken is answered with ACK and one credit. -/
def State.acked (s : State) (k : Nat) (e : PeerHead) : State :=
  (s.peerOut k none (.ack e.seq.toNat)).peerOut k none (.credit 1)

theorem taken_side : ((s.taken j).side j).rxNext = ((s.side j).rxNext + 1) % 65536 := by rw [State.taken, setSide_side]

theorem acked_peer : (s.acked j e).peer =
    { s.peer with out := s.peer.out ++ [(j, none, none, .ack e.seq.toNat), (j, none, none, .credit 1)] } := by
  have hout : (s.acked j e).peer.out = (s.peer.out ++ [(j, none, none, .ack e.seq.toNat)]) ++ [(j, none, none, .credit 1)] := rfl
  rw [List.append_assoc] at hout
  exact (show (s.acked j e).peer = { s.peer with out := (s.acked j e).peer.out } from rfl).trans (by rw [hout]; rfl)

theorem get_acked : (s.acked j e).get g = s.get g := rfl

theorem acked_wrote {c : Nat} {ps : List Nat} (h : s.wrote c ps) : (s.acked j e).wrote c ps := wrote_of_recorder (s := s) rfl h

theorem peerPacket_down (h : s.sideUp j = false ∨ s.peerLane j e.lane = false) : s.peerPacket j e f = s :=
  if_pos (by rcases h with h | h <;> simp [h])

theorem peerPacket_bad (hu : s.sideUp j = true) (hl : s.peerLane j e.lane = true) (hb : e.bridgeFull = false)
    (h : e.sound j = false ∨ e.seq.toNat ≠ (s.side j).rxNext) : s.peerPacket j e f = s.nak j 2 := by
  have hrefused : (!e.sound j || e.seq.toNat != (s.side j).rxNext) = true := by rcases h with h | h <;> simp [h]
  unfold State.peerPacket
  rw [if_neg (by simp [hu, hl]), if_neg (by simp [hb])]
  exact if_pos hrefused

section Heard
variable (hh : s.peerHears j e) (hs : e.seq.toNat = (s.side j).rxNext)
include hh hs

theorem peerPacket_creditless (hg : (s.side j).granted = 0) : s.peerPacket j e f = s.nak j 3 := by
  obtain ⟨hu, hl, hb, hsound⟩ := hh
  unfold State.peerPacket
  rw [if_neg (by simp [hu, hl]), if_neg (by simp [hb])]
  exact (if_neg (by simp [hsound, hs])).trans (if_pos hg)

theorem peerPacket_credited (hg : (s.side j).granted ≠ 0) : s.peerPacket j e f = (f (s.taken j)).acked j e := by
  obtain ⟨hu, hl, hb, hsound⟩ := hh
  unfold State.peerPacket
  rw [if_neg (by simp [hu, hl]), if_neg (by simp [hb])]
  exact (if_neg (by simp [hsound, hs])).trans (if_neg hg)

end Heard

/-- What a packet leaves that a side takes. -/
theorem tookPacket_of (ht : t.Same (u.acked j e).driveOutputs) (hside : (u.side j).rxNext = ((s.side j).rxNext + 1) % 65536)
    (hout : u.peer.out = s.peer.out) : s.tookPacket t j e := by
  refine ⟨?_, by rw [ht.peer_driven, acked_peer, hout]⟩
  rw [ht.side_driven, side_of_sides (s := u) (by rw [acked_peer]), hside]

theorem tookPacket_same (ht : t.Same (u.acked j e).driveOutputs) (hsides : u.peer.sides = (s.taken j).peer.sides)
    (hout : u.peer.out = s.peer.out) : s.tookPacket t j e :=
  tookPacket_of ht (by rw [side_of_sides hsides, taken_side]) hout

section Answers
variable (hp : s.powered = true)
include hp

/-- A packet that the side takes. -/
theorem takes_answers {P : State → Prop} (hw : exec w s = s.run (fun s => s.peerPacket j e f)) (ht : s.peerTakes j e) (hf : f (s.taken j) = u)
    (hP : ∀ t, t.Same (u.acked j e).driveOutputs → P t) : ∃ t, exec w s = .next t ∧ P t := by
  obtain ⟨hh, hs, hg⟩ := ht
  rw [hw]
  exact run_answers_of_effect hp (by rw [peerPacket_credited hh hs hg, hf]) hP

/-- A bad header, CRC or number is refused with NAK. -/
theorem bad_nakked (hw : exec w s = s.run (fun s => s.peerPacket j e f)) (hu : s.sideUp j = true) (hl : s.peerLane j e.lane = true)
    (hb : e.bridgeFull = false) (h : e.sound j = false ∨ e.seq.toNat ≠ (s.side j).rxNext) : ∃ t, exec w s = .next t ∧ s.nakked t j 2 := by
  rw [hw]
  exact run_answers_of_effect hp (peerPacket_bad hu hl hb h) fun t ht => nak_nakked ht

theorem creditless_nakked (hw : exec w s = s.run (fun s => s.peerPacket j e f)) (hh : s.peerHears j e)
    (hs : e.seq.toNat = (s.side j).rxNext) (hg : (s.side j).granted = 0) : ∃ t, exec w s = .next t ∧ s.nakked t j 3 := by
  rw [hw]
  exact run_answers_of_effect hp (peerPacket_creditless hh hs hg) fun t ht => nak_nakked ht

/-- A side that is down, or a lane whose islands are off, takes nothing. -/
theorem down_idle (hw : exec w s = s.run (fun s => s.peerPacket j e f)) (h : s.sideUp j = false ∨ s.peerLane j e.lane = false) :
    ∃ t, exec w s = .next t ∧ t.peer = s.peer ∧ t.mem = s.mem := by
  rw [hw]
  exact run_answers_of_effect hp (peerPacket_down h) fun t ht => ⟨ht.peer_driven, ht.mem_driven⟩

/-! ### Verge rows (R341) -/

section Rows
variable {v : VergeIn} {c : SeamCfg} {row : List Byte} {a : Nat} {bs : List Byte}

omit hp in
theorem bytes_putBytes_out (h : a + bs.length ≤ m ∨ m + n ≤ a) : (s.putBytes a bs).bytes m n = s.bytes m n := by
  refine List.map_congr_left fun i hi => ?_
  have hin := List.mem_range.mp hi
  exact byte_putBytes_out (s := s) (a := a) (bs := bs) (b := m + i) (by omega)

omit hp in
theorem bytes_take (h : n ≤ m) : (s.bytes a m).take n = s.bytes a n := by
  unfold State.bytes
  rw [← List.map_take, List.take_range, Nat.min_eq_left h]

omit hp in
theorem bytes_get (h : n < m) : (s.bytes a m)[n]? = some (s.byte (a + n)) := by
  unfold State.bytes
  rw [List.getElem?_map, List.getElem?_range h]
  rfl

omit hp in
theorem seamRowAddr_of_cfg (h : t.cfg = s.cfg) : t.seamRowAddr c l = s.seamRowAddr c l := by
  unfold State.seamRowAddr
  rw [partAddr_of_cfg h]

omit hp in
theorem seamTagAddr_of_cfg (h : t.cfg = s.cfg) : t.seamTagAddr c l = s.seamTagAddr c l := by
  unfold State.seamTagAddr
  rw [partAddr_of_cfg h]

omit hp in
/-- A row is written, and then its tag. -/
theorem seamRow_writes : ∃ (u : State) (a b : Nat), u.cfg = s.cfg ∧ u.mem = s.mem ∧ u.peer = s.peer ∧
    s.seamRow c l row = (u.putBytes (s.seamRowAddr c l) (row.take (c.stride * 64))).putBytes (s.seamTagAddr c l)
      (leBytes 4 l ++ leBytes 8 a ++ leBytes 3 b ++ [0xA5]) :=
  ⟨(s.draw.2).draw.2, _, _, rfl, rfl, rfl, rfl⟩

omit hp in
theorem exec_verge {v : VergeIn} : ∃ f : State → State, exec (.verge k e v) s = s.run (fun s => s.peerPacket k e f) := ⟨_, rfl⟩

omit hp in
/-- One verge row of a seam of the structure. -/
theorem exec_vergeRow {seam : Fin 2} {line : BitVec 32} (hc : s.seamNo k seam = some c) : ∃ f : State → State,
    exec (.verge k e (.rows seam line [row])) s = s.run (fun s => s.peerPacket k e f) ∧
    f (s.taken k) = (s.taken k).seamRow c line.toNat row := by
  refine ⟨_, rfl, ?_⟩
  have hseam : (s.taken k).seamNo k seam = some c := hc
  dsimp only
  rw [hseam]
  show (s.taken k).seamRow c ((line.toNat + 0) % 2 ^ 32) row = _
  rw [Nat.add_zero, Nat.mod_eq_of_lt line.isLt]

/-- A verge row stands in its slot of the ring, and its tag behind the line count and the mark. -/
theorem verge_row {seam : Fin 2} {line : BitVec 32} (ht : s.peerTakes k e) (hc : s.seamNo k seam = some c) (hrow : c.stride * 64 ≤ row.length)
    (hapart : s.seamTagAddr c line.toNat + 16 ≤ s.seamRowAddr c line.toNat ∨
      s.seamRowAddr c line.toNat + c.stride * 64 ≤ s.seamTagAddr c line.toNat) :
    ∃ t, exec (.verge k e (.rows seam line [row])) s = .next t ∧ s.tookPacket t k e ∧
      t.bytes (s.seamRowAddr c line.toNat) (c.stride * 64) = row.take (c.stride * 64) ∧
      t.bytes (s.seamTagAddr c line.toNat) 4 = leBytes 4 line.toNat ∧ t.byte (s.seamTagAddr c line.toNat + 15) = 0xA5 ∧
      ∀ a, (a < s.seamRowAddr c line.toNat ∨ s.seamRowAddr c line.toNat + c.stride * 64 ≤ a) →
        (a < s.seamTagAddr c line.toNat ∨ s.seamTagAddr c line.toNat + 16 ≤ a) → t.byte a = s.byte a := by
  obtain ⟨f, hexec, hf⟩ := exec_vergeRow (e := e) (row := row) (line := line) hc
  obtain ⟨u, a, b, hcfg, hmem, hpeer, hwrite⟩ := seamRow_writes (s := s.taken k) (c := c) (l := line.toNat) (row := row)
  rw [seamRowAddr_of_cfg (s := s) (t := s.taken k) rfl, seamTagAddr_of_cfg (s := s) (t := s.taken k) rfl] at hwrite
  refine takes_answers hp hexec ht (hf.trans hwrite) fun t hsame => ?_
  have hlen : (row.take (c.stride * 64)).length = c.stride * 64 := by rw [List.length_take, Nat.min_eq_left hrow]
  have htag : (leBytes 4 line.toNat ++ leBytes 8 a ++ leBytes 3 b ++ [(0xA5 : Byte)]).length = 16 := by simp [leBytes_length]
  generalize htagged : leBytes 4 line.toNat ++ leBytes 8 a ++ leBytes 3 b ++ [(0xA5 : Byte)] = tag at hsame htag
  have hread := fun a n => bytes_of_mem (a := a) (n := n) (hsame.mem_driven)
  have hbyte := fun n => byte_of_mem (a := n) (hsame.mem_driven)
  have htagbytes : t.bytes (s.seamTagAddr c line.toNat) 16 = tag := by
    have hput := bytes_putBytes (s := u.putBytes (s.seamRowAddr c line.toNat) (row.take (c.stride * 64))) (a := s.seamTagAddr c line.toNat)
      (bs := tag)
    rw [htag] at hput
    exact (hread _ _).trans hput
  refine ⟨tookPacket_same hsame ?_ ?_, ?_, ?_, ?_, fun n hrowout htagout => ?_⟩
  · exact congrArg PeerSt.sides hpeer
  · exact (congrArg PeerSt.out hpeer).trans rfl
  · refine (hread _ _).trans ((bytes_putBytes_out (by rw [htag]; omega)).trans ?_)
    have hput := bytes_putBytes (s := u) (a := s.seamRowAddr c line.toNat) (bs := row.take (c.stride * 64))
    rwa [hlen] at hput
  · rw [← bytes_take (m := 16) (by decide), htagbytes, ← htagged, List.append_assoc, List.append_assoc, List.take_left' (leBytes_length 4 _)]
  · have hlast := bytes_get (s := t) (a := s.seamTagAddr c line.toNat) (n := 15) (m := 16) (by decide)
    rw [htagbytes, ← htagged, List.getElem?_append_right (by simp [leBytes_length])] at hlast
    simp only [List.length_append, leBytes_length] at hlast
    exact (Option.some.inj hlast).symm
  · rw [hbyte, show ∀ v : State, (v.acked k e).byte n = v.byte n from fun _ => rfl, byte_putBytes_out (by rw [htag]; exact htagout),
      byte_putBytes_out (by rw [hlen]; exact hrowout)]
    exact byte_of_mem hmem

end Rows

/-! ### Verdicts that waited -/

omit hp in
theorem applyVerdict_peer {p tag o c : Nat} {v : Option VerdictIn} : (s.applyVerdict p tag o c v).peer = s.peer :=
  (State.applyVerdict_frame (Within.refl _) (.refl _ s)).peer rfl

omit hp in
/-- Verdicts that are given change of the neighbours' records only which ones wait. -/
theorem giveVerdict_peer {p o c : Nat} {v : VerdictIn} : ∃ hs, (s.giveVerdict p v o c).peer = { s.peer with held := hs } := by
  unfold State.giveVerdict
  dsimp only
  split
  · exact ⟨_, applyVerdict_peer⟩
  · exact ⟨_, rfl⟩

omit hp in
theorem giveWaited_peer {h : HeldVerdict} : ∃ hs, (s.giveWaited h).peer = { s.peer with held := hs } := by
  unfold State.giveWaited
  dsimp only
  split
  · exact giveVerdict_peer
  · split
    · exact giveVerdict_peer
    · obtain ⟨hs, hpeer⟩ := giveVerdict_peer (s := s.raise Code.ROAD_CLOSED _) (p := h.part) (v := h.v) (o := outINVALID)
        (c := Code.ROAD_CLOSED)
      exact ⟨hs, by rw [hpeer, raise_peer]⟩
    · exact giveVerdict_peer

omit hp in
theorem giveHeld_peer : ∃ hs, s.giveHeld.peer = { s.peer with held := hs } := by
  refine State.each_keeps (P := fun t => ∃ hs, t.peer = { s.peer with held := hs }) (fun t h ⟨hs, ht⟩ => ?_) _ _ ⟨_, rfl⟩
  obtain ⟨hs', h'⟩ := giveWaited_peer (s := t) (h := h)
  exact ⟨hs', by rw [h', ht]⟩

omit hp in
theorem get_giveHeld (hg : State.giveHeld_mask.testBit (regKind g.key) = false) : s.giveHeld.get g = s.get g :=
  (State.giveHeld_frame (Within.refl _) (.refl _ s)).get g hg

/-! ### Seam digests (R404, R405) -/

section Digests
variable {b : SeamWait} {seam : Fin 2} {line : BitVec 32} {d y : BitVec 256} {z : BitVec 64}

omit hp in
/-- A block whose comparison has ended. -/
def State.blockEnded (s : State) (b : SeamWait) : State :=
  { s with peer := { s.peer with blocks := s.peer.blocks.filter (fun z => !(z.seam == b.seam && z.line == b.line)) } }

omit hp in
/-- A block whose digests agree, counted. -/
def State.blockCounted (s : State) (b : SeamWait) : State := (s.blockEnded b).inc (F.INTEG_SEAM_blocks b.seam)

omit hp in
/-- A block whose comparison has passed. -/
def State.blockPassed (s : State) (b : SeamWait) : State :=
  { s.blockCounted b with peer := { (s.blockCounted b).peer with passed := (s.blockCounted b).peer.passed ++ [(b.seam, b.line)] } }

omit hp in
theorem blockPassed_peer : (s.blockPassed b).peer = { (s.blockEnded b).peer with passed := s.peer.passed ++ [(b.seam, b.line)] } := by
  have hcounted : (s.blockCounted b).peer = (s.blockEnded b).peer := by rw [State.blockCounted, State.inc_def, set_peer]
  unfold State.blockPassed
  rw [hcounted]
  rfl

omit hp in
theorem blockPassed_count : (s.blockPassed b).get (F.INTEG_SEAM_blocks b.seam) = min (s.get (F.INTEG_SEAM_blocks b.seam) + 1) (2 ^ 32 - 1) :=
  get_inc (s := s.blockEnded b) (f := F.INTEG_SEAM_blocks b.seam) (by simp [F.INTEG_SEAM_blocks])

omit hp in
theorem compareSeam_passes (ho : b.own = some d) (hq : b.peer = some d) : s.compareSeam b = (s.blockPassed b).giveHeld := by
  unfold State.compareSeam
  rw [ho, hq]
  exact if_pos (by simp)

omit hp in
/-- A block whose digests differ, counted and written. -/
def State.blockDiffers (s : State) (b : SeamWait) : State :=
  ((s.blockEnded b).inc (F.INTEG_SEAM_FAULT_mismatches b.seam)).raise Code.SEAM_DIGEST_MISMATCH [b.seam, b.line, b.tags.length]

omit hp in
theorem blockDiffers_peer : (s.blockDiffers b).peer = (s.blockEnded b).peer := by
  rw [State.blockDiffers, raise_peer, State.inc_def, set_peer]

omit hp in
theorem blockDiffers_count : (s.blockDiffers b).get (F.INTEG_SEAM_FAULT_mismatches b.seam) =
    min (s.get (F.INTEG_SEAM_FAULT_mismatches b.seam) + 1) 65535 := by
  rw [State.blockDiffers, get_raise (by simp; decide), get_inc (by simp [F.INTEG_SEAM_FAULT_mismatches])]
  rfl

omit hp in
/-- What becomes of the parts that a seam's fault touches. -/
def State.seamSpoils (s : State) (m : Nat) (tags : List Nat) (code : Nat) : State :=
  match s.seamNo (m / 2) (m % 2) with
  | some c => s.invalidate c.part tags code
  | none => s

omit hp in
theorem seamSpoils_frame {tags : List Nat} {code : Nat} : Frame State.invalidate_mask s (s.seamSpoils m tags code) := by
  unfold State.seamSpoils
  split
  · exact State.invalidate_frame (Within.refl _) (.refl _ s)
  · exact .refl _ s

omit hp in
theorem seamSpoils_none {code : Nat} : s.seamSpoils m [] code = s := by
  unfold State.seamSpoils
  split
  · rfl
  · rfl

omit hp in
theorem compareSeam_differs (ho : b.own = some y) (hq : b.peer = some d) (hne : y ≠ d) :
    s.compareSeam b = (s.blockDiffers b).seamSpoils b.seam b.tags Code.SEAM_DIGEST_MISMATCH := by
  unfold State.compareSeam
  rw [ho, hq]
  exact if_neg (by simpa using hne)

omit hp in
/-- A half of a block noted. -/
def State.withBlock (s : State) (m l : Nat) (b : SeamWait) : State :=
  { s with peer := { s.peer with blocks := s.peer.blocks.filter (fun z => !(z.seam == m && z.line == l)) ++ [b]
                                 passed := s.peer.passed.filter (fun z => z != (m, l)) } }

omit hp in
theorem seamHalf_eq {f : SeamWait → SeamWait} : s.seamHalf m l f =
    (s.withBlock m l (f ((s.peer.blocks.find? (fun z => z.seam == m && z.line == l)).getD
      { seam := m, line := l, own := none, peer := none, tags := [] }))).compareSeam
      (f ((s.peer.blocks.find? (fun z => z.seam == m && z.line == l)).getD
        { seam := m, line := l, own := none, peer := none, tags := [] })) := rfl

omit hp in
/-- The digest of the neighbour for a block whose own digest waits alone. -/
theorem seamHalf_waiting (hs : s.peer.blocks = [b]) (hm : b.seam = m) (hl : b.line = l) :
    s.seamHalf m l (fun z => { z with peer := some d }) =
      (s.withBlock m l { b with peer := some d }).compareSeam { b with peer := some d } := by
  rw [seamHalf_eq, hs, List.find?_cons_of_pos (by simp [hm, hl])]
  rfl

omit hp in
theorem withBlock_alone (hs : s.peer.blocks = [b]) (hm : b.seam = m) (hl : b.line = l) :
    (s.withBlock m l { b with peer := some d }).peer.blocks = [{ b with peer := some d }] := by
  show s.peer.blocks.filter _ ++ _ = _
  rw [hs, List.filter_cons_of_neg (by simp [hm, hl])]
  rfl

omit hp in
/-- The block of a comparison that ends is gone. -/
theorem blockEnded_alone {u : State} (hs : u.peer.blocks = [b]) : (u.blockEnded b).peer.blocks = [] := by
  show u.peer.blocks.filter _ = []
  rw [hs, List.filter_cons_of_neg (by simp)]
  rfl

omit hp in
theorem exec_seamDigest {n l : Nat} : ∃ f : State → State, exec (.verge k e (.check seam line n l d z)) s = s.run (fun s => s.peerPacket k e f) ∧
    f (s.taken k) = (s.taken k).seamHalf (2 * k.val + seam.val) line.toNat (fun z => { z with peer := some d }) := ⟨_, rfl, rfl⟩

/-- Digests that agree end the block as passed and count it. -/
theorem digest_passes {n l : Nat} (ht : s.peerTakes k e) (hs : s.peer.blocks = [b]) (hm : b.seam = 2 * k.val + seam.val)
    (hl : b.line = line.toNat) (ho : b.own = some d) : ∃ t, exec (.verge k e (.check seam line n l d z)) s = .next t ∧ s.tookPacket t k e ∧
      t.peer.blocks = [] ∧ (b.seam, b.line) ∈ t.peer.passed ∧
      t.get (F.INTEG_SEAM_blocks b.seam) = min (s.get (F.INTEG_SEAM_blocks b.seam) + 1) (2 ^ 32 - 1) := by
  obtain ⟨f, hexec, hf⟩ := exec_seamDigest (s := s) (k := k) (e := e) (seam := seam) (line := line) (n := n) (l := l) (d := d) (z := z)
  have hblocks : (s.taken k).peer.blocks = [b] := hs
  have hhalf := (seamHalf_waiting (d := d) hblocks hm hl).trans (compareSeam_passes (d := d) ho rfl)
  refine takes_answers hp hexec ht (hf.trans hhalf) fun t hsame => ?_
  generalize hv : (s.taken k).withBlock (2 * k.val + seam.val) line.toNat { b with peer := some d } = v at hsame
  have hvblocks : v.peer.blocks = [{ b with peer := some d }] := hv ▸ withBlock_alone hblocks hm hl
  have hvpeer : v.peer.sides = (s.taken k).peer.sides ∧ v.peer.out = s.peer.out := hv ▸ ⟨rfl, rfl⟩
  have hvget : v.get (F.INTEG_SEAM_blocks b.seam) = s.get (F.INTEG_SEAM_blocks b.seam) := hv ▸ rfl
  obtain ⟨hs', hgiven⟩ := giveHeld_peer (s := v.blockPassed { b with peer := some d })
  rw [blockPassed_peer] at hgiven
  refine ⟨tookPacket_same hsame ?_ ?_, ?_, ?_, ?_⟩
  · rw [hgiven]
    exact hvpeer.1
  · rw [hgiven]
    exact hvpeer.2
  · rw [hsame.peer_driven, acked_peer, hgiven]
    exact blockEnded_alone hvblocks
  · rw [hsame.peer_driven, acked_peer, hgiven]
    exact List.mem_append_right _ List.mem_cons_self
  · rw [hsame.get_driven (by simp; decide), get_acked, get_giveHeld (by simp; decide),
      blockPassed_count (b := { b with peer := some d }), hvget]

/-- Digests that differ end the block and count a mismatch. -/
theorem digest_differs {n l : Nat} (ht : s.peerTakes k e) (hs : s.peer.blocks = [b]) (hm : b.seam = 2 * k.val + seam.val)
    (hl : b.line = line.toNat) (ho : b.own = some y) (hne : y ≠ d) : ∃ t, exec (.verge k e (.check seam line n l d z)) s = .next t ∧
      t.peer.blocks = [] ∧ t.get (F.INTEG_SEAM_FAULT_mismatches b.seam) = min (s.get (F.INTEG_SEAM_FAULT_mismatches b.seam) + 1) 65535 ∧
      (b.tags = [] → s.tookPacket t k e ∧ t.wrote Code.SEAM_DIGEST_MISMATCH [b.seam, b.line, 0]) := by
  obtain ⟨f, hexec, hf⟩ := exec_seamDigest (s := s) (k := k) (e := e) (seam := seam) (line := line) (n := n) (l := l) (d := d) (z := z)
  have hblocks : (s.taken k).peer.blocks = [b] := hs
  have hhalf := (seamHalf_waiting (d := d) hblocks hm hl).trans (compareSeam_differs (d := d) ho rfl hne)
  refine takes_answers hp hexec ht (hf.trans hhalf) fun t hsame => ?_
  generalize hv : (s.taken k).withBlock (2 * k.val + seam.val) line.toNat { b with peer := some d } = v at hsame
  have hvblocks : v.peer.blocks = [{ b with peer := some d }] := hv ▸ withBlock_alone hblocks hm hl
  have hvpeer : v.peer.sides = (s.taken k).peer.sides ∧ v.peer.out = s.peer.out := hv ▸ ⟨rfl, rfl⟩
  have hvget : v.get (F.INTEG_SEAM_FAULT_mismatches b.seam) = s.get (F.INTEG_SEAM_FAULT_mismatches b.seam) := hv ▸ rfl
  have hframe := seamSpoils_frame (s := v.blockDiffers { b with peer := some d }) (m := b.seam) (tags := b.tags)
    (code := Code.SEAM_DIGEST_MISMATCH)
  have hpeer := (hframe.peer rfl).trans blockDiffers_peer
  refine ⟨?_, ?_, fun htags => ⟨tookPacket_same hsame ?_ ?_, hsame.wrote_driven (acked_wrote ?_)⟩⟩
  · rw [hsame.peer_driven, acked_peer, hpeer]
    exact blockEnded_alone hvblocks
  · rw [hsame.get_driven (by simp; decide), get_acked, hframe.get _ (by simp; decide), blockDiffers_count (b := { b with peer := some d }), hvget]
  · rw [hpeer]
    exact hvpeer.1
  · rw [hpeer]
    exact hvpeer.2
  · show (State.seamSpoils _ b.seam b.tags _).wrote _ _
    rw [htags, seamSpoils_none, State.blockDiffers]
    have hwrote := raise_wrote (s := (v.blockEnded { b with peer := some d }).inc (F.INTEG_SEAM_FAULT_mismatches b.seam))
      (code := Code.SEAM_DIGEST_MISMATCH) (ps := [b.seam, b.line, b.tags.length])
    rw [htags] at hwrote
    exact hwrote

/-- The first digest of a block waits. -/
theorem digest_first {n l : Nat} (ht : s.peerTakes k e) (hs : s.peer.blocks = []) :
    ∃ t, exec (.verge k e (.check seam line n l d z)) s = .next t ∧ s.tookPacket t k e ∧
      t.peer.blocks = [{ seam := 2 * k.val + seam.val, line := line.toNat, own := none, peer := some d, tags := [] }] := by
  obtain ⟨f, hexec, hf⟩ := exec_seamDigest (s := s) (k := k) (e := e) (seam := seam) (line := line) (n := n) (l := l) (d := d) (z := z)
  have hblocks : (s.taken k).peer.blocks = [] := hs
  have hhalf : (s.taken k).seamHalf (2 * k.val + seam.val) line.toNat (fun z => { z with peer := some d }) =
      (s.taken k).withBlock (2 * k.val + seam.val) line.toNat
        { seam := 2 * k.val + seam.val, line := line.toNat, own := none, peer := some d, tags := [] } := by
    rw [seamHalf_eq, hblocks]
    rfl
  refine takes_answers hp hexec ht (hf.trans hhalf) fun t hsame => ⟨tookPacket_same hsame rfl rfl, ?_⟩
  rw [hsame.peer_driven, acked_peer]
  show (s.taken k).peer.blocks.filter _ ++ _ = _
  rw [hblocks]
  rfl

omit hp in
theorem exec_seamCheckMissing {q : Fin 4} : exec (.seamCheckMissing q line) s = execSeamCheckMissing q line s := rfl

omit hp in
/-- A block whose digest never came, counted and written. -/
def State.blockMissing (s : State) (m l n : Nat) : State :=
  (({ s with peer := { s.peer with blocks := s.peer.blocks.filter (fun z => !(z.seam == m && z.line == l)) } }).inc
    (F.INTEG_SEAM_FAULT_missing m)).raise Code.SEAM_CHECK_MISSING [m, l, n]

omit hp in
theorem blockMissing_blocks : (s.blockMissing m l n).peer.blocks = s.peer.blocks.filter (fun z => !(z.seam == m && z.line == l)) := by
  rw [State.blockMissing, raise_peer, State.inc_def, set_peer]

omit hp in
theorem blockMissing_count : (s.blockMissing m l n).get (F.INTEG_SEAM_FAULT_missing m) = min (s.get (F.INTEG_SEAM_FAULT_missing m) + 1) 65535 := by
  rw [State.blockMissing, get_raise (by simp; decide), get_inc (by simp [F.INTEG_SEAM_FAULT_missing])]
  rfl

/-- The digest of the neighbour that never came ends the block. -/
theorem digest_missing {q : Fin 4} (hb : s.peer.blocks.find? (fun z => z.seam == q.val && z.line == line.toNat) = some b)
    (ho : b.own.isSome = true) (hn : b.peer = none) : ∃ t, exec (.seamCheckMissing q line) s = .next t ∧
      t.get (F.INTEG_SEAM_FAULT_missing q) = min (s.get (F.INTEG_SEAM_FAULT_missing q) + 1) 65535 ∧
      (∀ z ∈ t.peer.blocks, ¬(z.seam = q.val ∧ z.line = line.toNat)) ∧
      (b.tags = [] → t.wrote Code.SEAM_CHECK_MISSING [q, line.toNat, 0]) := by
  rw [exec_seamCheckMissing]
  refine run_answers_of_effect (u := (s.blockMissing q line.toNat b.tags.length).seamSpoils q b.tags Code.SEAM_CHECK_MISSING) hp
    (by rw [hb]; exact if_neg (by simp [Option.isSome_iff_ne_none.mp ho, hn])) fun t ht => ?_
  have hframe := seamSpoils_frame (s := s.blockMissing q line.toNat b.tags.length) (m := q) (tags := b.tags) (code := Code.SEAM_CHECK_MISSING)
  refine ⟨?_, fun z hz => ?_, fun htags => ht.wrote_driven ?_⟩
  · rw [ht.get_driven (by simp; decide), hframe.get _ (by simp; decide), blockMissing_count]
  · rw [ht.peer_driven, hframe.peer rfl, blockMissing_blocks] at hz
    have hrest := (List.mem_filter.mp hz).2
    rintro ⟨hseam, hline⟩
    simp [hseam, hline] at hrest
  · rw [htags, seamSpoils_none]
    exact raise_wrote

theorem digest_none {q : Fin 4} (h : ∀ b, s.peer.blocks.find? (fun z => z.seam == q.val && z.line == line.toNat) = some b →
    b.own = none ∨ b.peer.isSome = true) : ∃ t, exec (.seamCheckMissing q line) s = .next t ∧ t.peer = s.peer := by
  rw [exec_seamCheckMissing]
  refine run_answers_of_effect (u := s) hp ?_ fun t ht => ht.peer_driven
  split
  · rfl
  · rename_i b hb
    refine if_pos ?_
    rcases h b hb with h | h
    · simp [h]
    · simp [h]

end Digests

end Answers

end PeerPackets

end Sys2Proof.Machine
end

section
/-! PROOFS. Contributions from a neighbouring module, and the control packets ACK, NAK and CREDIT (R340, R342). -/

namespace Sys2Proof.Machine

open Sys2Proof

section PeerMessages

variable {s t u : State} {k : Fin 2} {e : PeerHead} {g : Field} {w : Instr} {f : State → State} {j n reason key : Nat} {x : PeerMsg}

/-! ### Sending (R340) -/

/-- What is sent changes the sides and the packets that leave. -/
theorem peerPump_peer : ∀ (n : Nat) (s : State), ∃ sd o, (s.peerPump j n).peer = { s.peer with sides := sd, out := o }
  | 0, _ => ⟨_, _, rfl⟩
  | n + 1, s => by
    unfold State.peerPump
    dsimp only
    split
    · split
      · exact ⟨_, _, rfl⟩
      · obtain ⟨sd, o, h⟩ := peerPump_peer n _
        exact ⟨sd, o, h.trans rfl⟩
    · exact ⟨_, _, rfl⟩

theorem peerPump_frame {n : Nat} : Frame State.peerPump_mask s (s.peerPump j n) := State.peerPump_frame (Within.refl _) (.refl _ s)

theorem peerSend_peer : ∃ sd o, (s.peerSend j x).peer = { s.peer with sides := sd, out := o } := by
  unfold State.peerSend
  split
  · exact ⟨_, _, rfl⟩
  · dsimp only
    split
    · obtain ⟨sd, o, h⟩ := peerPump_peer (j := j) ((s.side j).waiting.length + 1)
        ((s.inc (F.PEER_RESEND_no_credit j)).setSide j { s.side j with waiting := (s.side j).waiting ++ [x] })
      have hset : ((s.inc (F.PEER_RESEND_no_credit j)).setSide j { s.side j with waiting := (s.side j).waiting ++ [x] }).peer =
          { s.peer with sides := tset side0 s.peer.sides j { s.side j with waiting := (s.side j).waiting ++ [x] } } := by
        unfold State.setSide
        rw [State.inc_def, set_peer]
      exact ⟨sd, o, h.trans (by rw [hset])⟩
    · obtain ⟨sd, o, h⟩ := peerPump_peer (j := j) ((s.side j).waiting.length + 1)
        (s.setSide j { s.side j with waiting := (s.side j).waiting ++ [x] })
      exact ⟨sd, o, h.trans rfl⟩

/-! ### A contribution that is rejected (Table PEER-3) -/

/-- A rejection before it is sent. -/
def State.rejectNoted (s : State) (k reason : Nat) : State := (s.peerViolation k reason).inc (F.PEER_REJECT_sent k)

theorem rejectContrib_eq : s.rejectContrib j key n = (s.rejectNoted j n).peerSend j (.reject key n) := rfl

theorem rejectContrib_frame : Frame State.peerSend_mask (s.rejectNoted j n) (s.rejectContrib j key n) :=
  State.peerSend_frame (Within.refl _) (.refl _ _)

theorem rejectNoted_peer : (s.rejectNoted j n).peer = s.peer := by
  rw [State.rejectNoted, State.peerViolation, State.inc_def, set_peer, raise_peer]

theorem rejectContrib_contribs : (s.rejectContrib j key n).peer.contribs = s.peer.contribs ∧ (s.rejectContrib j key n).peer.held = s.peer.held := by
  obtain ⟨sd, o, h⟩ := peerSend_peer (s := s.rejectNoted j n) (j := j) (x := .reject key n)
  rw [rejectContrib_eq, h, rejectNoted_peer]
  exact ⟨rfl, rfl⟩

theorem rejectContrib_count : (s.rejectContrib j key n).get (F.PEER_REJECT_sent j) = min (s.get (F.PEER_REJECT_sent j) + 1) 65535 := by
  rw [rejectContrib_frame.get _ (by simp; decide), State.rejectNoted, State.peerViolation, get_inc (by simp [F.PEER_REJECT_sent]),
    get_raise (by simp; decide)]
  rfl

theorem rejectContrib_wrote : (s.rejectContrib j key n).wrote Code.PEER_VIOLATION [j, n] := by
  refine wrote_of_recorder (s := s.raise Code.PEER_VIOLATION [j, n]) ?_ raise_wrote
  rw [rejectContrib_frame.recorder rfl, State.rejectNoted, State.peerViolation, State.inc_def, set_recorder]

theorem rejectContrib_host : (s.rejectContrib j key n).host = s.host := by
  rw [rejectContrib_frame.host rfl, State.rejectNoted, State.peerViolation, State.inc_def, set_host, raise_host]

/-- A part without an open subject loses nothing. -/
theorem invalidate_none {p tag c : Nat} (h : s.openSubjects p tag = []) : s.invalidate p [tag] c = s := by
  unfold State.invalidate
  rw [State.each_cons, State.each_nil, h, State.each_nil]

/-! ### Contributions (R342) -/

/-- What CONTRIB does with a contribution that its side takes. -/
def State.contribStep (s : State) (k : Nat) (r : List Byte) (tracked : Option (BitVec 32)) : State :=
  match tracked, (if recField r 8 2 / 2 == k && recField r 8 2 < 4 then s.seamNo k (recField r 8 2 % 2) else none) with
  | some t, some g =>
    if s.peer.contribs.any (fun z => z.key == recField r 0 8 && z.seam == recField r 8 2) then s.rejectContrib k (recField r 0 8) 5
    else if BitVec.ofNat 64 (recField r 48 8) != s.compat g.part then
      (s.rejectContrib k (recField r 0 8) 6).invalidate g.part [t.toNat] Code.PEER_VIOLATION
    else if s.partFired g.part t.toNat then ((s.rejectContrib k (recField r 0 8) 7).keepContrib (contribOf r)).giveHeld
    else if recField r 12 3 ≥ 2 ^ 18 || recField r 15 1 != 0 || recField r 56 8 != 0 || recField r 10 1 = 0 || 3 < recField r 10 1 then
      (s.rejectContrib k (recField r 0 8) 8).invalidate g.part [t.toNat] Code.PEER_VIOLATION
    else (s.keepContrib (contribOf r)).giveHeld
  | _, _ => s.rejectContrib k (recField r 0 8) 4

theorem exec_contrib {r : List Byte} {q : Option (BitVec 32)} :
    exec (.contrib k e r q) s = s.run (fun s => s.peerPacket k e (fun s => s.contribStep k r q)) := rfl

theorem exec_reject {y : BitVec 64} {q : BitVec 8} : exec (.reject k e y q) s = s.run (fun s => s.peerPacket k e (fun s =>
    (s.inc (F.PEER_REJECT_received k)).raise Code.PEER_CONTRIB_REJECTED [k, y.toNat % 2 ^ 32, q.toNat])) := rfl

section Answers
variable (hp : s.powered = true)
include hp

/-- A rejected contribution is not kept, is counted and written. -/
theorem rejected_answers {p tag c : Nat} (hw : exec w s = s.run (fun s => s.peerPacket j e f)) (ht : s.peerTakes j e)
    (hf : f (s.taken j) = ((s.taken j).rejectContrib j key n).invalidate p [tag] c) : ∃ t, exec w s = .next t ∧
      t.peer.contribs = s.peer.contribs ∧ t.get (F.PEER_REJECT_sent j) = min (s.get (F.PEER_REJECT_sent j) + 1) 65535 ∧
      (s.openSubjects p tag = [] → t.wrote Code.PEER_VIOLATION [j, n]) := by
  have hframe : Frame State.invalidate_mask ((s.taken j).rejectContrib j key n) (((s.taken j).rejectContrib j key n).invalidate p [tag] c) :=
    State.invalidate_frame (Within.refl _) (.refl _ _)
  refine takes_answers hp hw ht hf fun t hsame => ⟨?_, ?_, fun hopen => hsame.wrote_driven (acked_wrote ?_)⟩
  · rw [hsame.peer_driven, acked_peer, hframe.peer rfl]
    exact rejectContrib_contribs.1
  · rw [hsame.get_driven (by simp; decide), get_acked, hframe.get _ (by simp; decide), rejectContrib_count]
    rfl
  · rw [invalidate_none ((openSubjects_of_subjects (by rw [rejectContrib_host]; rfl)).trans hopen)]
    exact rejectContrib_wrote

/-- A rejection that spoils no part. -/
theorem rejected_plain (hw : exec w s = s.run (fun s => s.peerPacket j e f)) (ht : s.peerTakes j e)
    (hf : f (s.taken j) = (s.taken j).rejectContrib j key n) : ∃ t, exec w s = .next t ∧ t.peer.contribs = s.peer.contribs ∧
      t.get (F.PEER_REJECT_sent j) = min (s.get (F.PEER_REJECT_sent j) + 1) 65535 ∧ t.wrote Code.PEER_VIOLATION [j, n] := by
  refine takes_answers hp hw ht hf fun t hsame => ⟨?_, ?_, hsame.wrote_driven (acked_wrote rejectContrib_wrote)⟩
  · rw [hsame.peer_driven, acked_peer]
    exact rejectContrib_contribs.1
  · rw [hsame.get_driven (by simp; decide), get_acked, rejectContrib_count]
    rfl

theorem contrib_untracked {r : List Byte} (ht : s.peerTakes k e) : ∃ t, exec (.contrib k e r none) s = .next t ∧
    t.peer.contribs = s.peer.contribs ∧ t.get (F.PEER_REJECT_sent k) = min (s.get (F.PEER_REJECT_sent k) + 1) 65535 ∧
    t.wrote Code.PEER_VIOLATION [k, 4] := rejected_plain hp exec_contrib ht rfl

section Tracked
variable {r : List Byte} {q : BitVec 32} {c : SeamCfg} (ht : s.peerTakes k e) (hk : recField r 8 2 / 2 = k.val) (h4 : recField r 8 2 < 4)
  (hc : s.seamNo k (recField r 8 2 % 2) = some c)

section Step
include hk h4 hc

omit hp in
/-- A contribution for a part that the tracker holds, of a seam of the side. -/
theorem contribStep_tracked : s.contribStep k r (some q) =
    if s.peer.contribs.any (fun z => z.key == recField r 0 8 && z.seam == recField r 8 2) then s.rejectContrib k (recField r 0 8) 5
    else if BitVec.ofNat 64 (recField r 48 8) != s.compat c.part then
      (s.rejectContrib k (recField r 0 8) 6).invalidate c.part [q.toNat] Code.PEER_VIOLATION
    else if s.partFired c.part q.toNat then ((s.rejectContrib k (recField r 0 8) 7).keepContrib (contribOf r)).giveHeld
    else if recField r 12 3 ≥ 2 ^ 18 || recField r 15 1 != 0 || recField r 56 8 != 0 || recField r 10 1 = 0 || 3 < recField r 10 1 then
      (s.rejectContrib k (recField r 0 8) 8).invalidate c.part [q.toNat] Code.PEER_VIOLATION
    else (s.keepContrib (contribOf r)).giveHeld := by
  unfold State.contribStep
  rw [if_pos (by simp [hk, h4]), hc]

end Step

omit hp in
/-- No contribution of the key and seam is kept. -/
theorem noContrib_any (hn : ∀ z ∈ s.peer.contribs, ¬(z.key = recField r 0 8 ∧ z.seam = recField r 8 2)) :
    s.peer.contribs.any (fun z => z.key == recField r 0 8 && z.seam == recField r 8 2) = false := by
  refine List.any_eq_false.mpr fun z hz => ?_
  simpa using hn z hz

omit hp in
theorem contribBad_iff : (recField r 12 3 ≥ 2 ^ 18 || recField r 15 1 != 0 || recField r 56 8 != 0 || recField r 10 1 = 0 ||
    3 < recField r 10 1) = true ↔ contribBad r := by
  unfold contribBad
  simp only [Bool.or_eq_true, decide_eq_true_eq, bne_iff_ne, or_assoc, ge_iff_le]

omit hp in
/-- The compatibility digest of a contribution is that of its program. -/
theorem compat_bne (hd : recField r 48 8 = (s.compat c.part).toNat) : (BitVec.ofNat 64 (recField r 48 8) != s.compat c.part) = false := by
  rw [hd, BitVec.ofNat_toNat, BitVec.setWidth_eq]
  exact bne_self_eq_false _

omit hp in
theorem compat_bne_of_ne (hd : recField r 48 8 ≠ (s.compat c.part).toNat) : (BitVec.ofNat 64 (recField r 48 8) != s.compat c.part) = true := by
  refine bne_iff_ne.mpr fun h => hd ?_
  rw [← h, BitVec.toNat_ofNat]
  exact (Nat.mod_eq_of_lt recField_lt).symm

include ht hk h4 hc

theorem contrib_again (hz : ∃ z ∈ s.peer.contribs, z.key = recField r 0 8 ∧ z.seam = recField r 8 2) :
    ∃ t, exec (.contrib k e r (some q)) s = .next t ∧ t.peer.contribs = s.peer.contribs ∧
      t.get (F.PEER_REJECT_sent k) = min (s.get (F.PEER_REJECT_sent k) + 1) 65535 ∧ t.wrote Code.PEER_VIOLATION [k, 5] := by
  have hany : s.peer.contribs.any (fun z => z.key == recField r 0 8 && z.seam == recField r 8 2) = true := by
    obtain ⟨z, hz, hkey, hseam⟩ := hz
    exact List.any_eq_true.mpr ⟨z, hz, by simp [hkey, hseam]⟩
  exact rejected_plain hp exec_contrib ht ((contribStep_tracked (s := s.taken k) hk h4 hc).trans (if_pos hany))

section Fresh
variable (hn : ∀ z ∈ s.peer.contribs, ¬(z.key = recField r 0 8 ∧ z.seam = recField r 8 2))
include hn

omit hp ht in
/-- A contribution that is new. -/
theorem contribStep_fresh : (s.taken k).contribStep k r (some q) =
    if BitVec.ofNat 64 (recField r 48 8) != s.compat c.part then
      ((s.taken k).rejectContrib k (recField r 0 8) 6).invalidate c.part [q.toNat] Code.PEER_VIOLATION
    else if s.partFired c.part q.toNat then (((s.taken k).rejectContrib k (recField r 0 8) 7).keepContrib (contribOf r)).giveHeld
    else if recField r 12 3 ≥ 2 ^ 18 || recField r 15 1 != 0 || recField r 56 8 != 0 || recField r 10 1 = 0 || 3 < recField r 10 1 then
      ((s.taken k).rejectContrib k (recField r 0 8) 8).invalidate c.part [q.toNat] Code.PEER_VIOLATION
    else ((s.taken k).keepContrib (contribOf r)).giveHeld := by
  have hany := noContrib_any hn
  exact (contribStep_tracked (s := s.taken k) hk h4 hc).trans (if_neg (by rw [show (s.taken k).peer.contribs = s.peer.contribs from rfl, hany]; decide))

theorem contrib_otherProgram (hd : recField r 48 8 ≠ (s.compat c.part).toNat) : ∃ t, exec (.contrib k e r (some q)) s = .next t ∧
    t.peer.contribs = s.peer.contribs ∧ t.get (F.PEER_REJECT_sent k) = min (s.get (F.PEER_REJECT_sent k) + 1) 65535 ∧
    (s.openSubjects c.part q.toNat = [] → t.wrote Code.PEER_VIOLATION [k, 6]) :=
  rejected_answers hp exec_contrib ht ((contribStep_fresh hk h4 hc hn).trans (if_pos (compat_bne_of_ne hd)))

variable (hd : recField r 48 8 = (s.compat c.part).toNat)
include hd

/-- A contribution for a part that has fired is rejected and kept. -/
theorem contrib_fired (hf : s.partFired c.part q.toNat = true) (hh : s.peer.held = []) : ∃ t, exec (.contrib k e r (some q)) s = .next t ∧
    t.peer.contribs = s.peer.contribs ++ [contribOf r] ∧ t.get (F.PEER_REJECT_sent k) = min (s.get (F.PEER_REJECT_sent k) + 1) 65535 ∧
    t.wrote Code.PEER_VIOLATION [k, 7] := by
  have hstep := (contribStep_fresh (q := q) hk h4 hc hn).trans ((if_neg (by rw [compat_bne hd]; decide)).trans (if_pos hf))
  generalize hv : ((s.taken k).rejectContrib k (recField r 0 8) 7).keepContrib (contribOf r) = v at hstep
  obtain ⟨hcontribs, hheld⟩ := rejectContrib_contribs (s := s.taken k) (j := k) (key := recField r 0 8) (n := 7)
  have hvheld : v.peer.held = [] := by rw [← hv]; exact hheld.trans hh
  have hgive : v.giveHeld = { v with peer := { v.peer with held := [] } } := by
    unfold State.giveHeld
    rw [hvheld]
    rfl
  refine takes_answers hp exec_contrib ht (hstep.trans hgive) fun t hsame => ⟨?_, ?_, hsame.wrote_driven (acked_wrote ?_)⟩
  · rw [hsame.peer_driven, acked_peer, ← hv]
    show ((s.taken k).rejectContrib k (recField r 0 8) 7).peer.contribs ++ _ = _
    rw [hcontribs]
    rfl
  · rw [hsame.get_driven (by simp; decide), get_acked, ← hv]
    exact rejectContrib_count
  · rw [← hv]
    exact wrote_of_recorder (s := (s.taken k).rejectContrib k (recField r 0 8) 7) rfl rejectContrib_wrote

variable (hf : s.partFired c.part q.toNat = false)
include hf

theorem contrib_bad (hb : contribBad r) : ∃ t, exec (.contrib k e r (some q)) s = .next t ∧
    t.peer.contribs = s.peer.contribs ∧ t.get (F.PEER_REJECT_sent k) = min (s.get (F.PEER_REJECT_sent k) + 1) 65535 ∧
    (s.openSubjects c.part q.toNat = [] → t.wrote Code.PEER_VIOLATION [k, 8]) :=
  rejected_answers hp exec_contrib ht ((contribStep_fresh hk h4 hc hn).trans ((if_neg (by rw [compat_bne hd]; decide)).trans
    ((if_neg (by rw [hf]; decide)).trans (if_pos (contribBad_iff.mpr hb)))))

variable (hb : ¬ contribBad r)
include hb

omit hp ht in
theorem contribStep_keeps : (s.taken k).contribStep k r (some q) = ((s.taken k).keepContrib (contribOf r)).giveHeld :=
  (contribStep_fresh hk h4 hc hn).trans ((if_neg (by rw [compat_bne hd]; decide)).trans
    ((if_neg (by rw [hf]; decide)).trans (if_neg (fun h => hb (contribBad_iff.mp h)))))

/-- A good contribution is kept. -/
theorem contrib_kept : ∃ t, exec (.contrib k e r (some q)) s = .next t ∧ t.peer.contribs = s.peer.contribs ++ [contribOf r] ∧
    s.tookPacket t k e := by
  obtain ⟨hs, hpeer⟩ := giveHeld_peer (s := (s.taken k).keepContrib (contribOf r))
  refine takes_answers hp exec_contrib ht (contribStep_keeps hk h4 hc hn hd hf hb) fun t hsame =>
    ⟨?_, tookPacket_same hsame (by rw [hpeer]; rfl) (by rw [hpeer]; rfl)⟩
  rw [hsame.peer_driven, acked_peer, hpeer]
  rfl

/-- A contribution for which alone a verdict waited gives the verdict. -/
theorem contrib_gives {h : HeldVerdict} {m : Fin 4} {a : Subject} (hm : recField r 8 2 = m.val) (hh : s.peer.held = [h])
    (hkey : recField h.v.record 12 8 = recField r 0 8) (hexp : h.v.expects = [m]) (hpass : s.blocksPassed h.v = true)
    (harm : s.oneArm h.part (recField h.v.record 4 4) a) (hak : a.key = none) (haf : a.firedPeriod = none) :
    ∃ t, exec (.contrib k e r (some q)) s = .next t ∧ t.peer.held = [] ∧ t.openSubjects h.part (recField h.v.record 4 4) = [] ∧
      s.tookPacket t k e := by
  have hstep := contribStep_keeps (q := q) hk h4 hc hn hd hf hb
  generalize hv : (s.taken k).keepContrib (contribOf r) = v at hstep
  have hvpeer : v.peer = { (s.taken k).peer with contribs := s.peer.contribs ++ [contribOf r] } := hv ▸ rfl
  have hvhost : v.host = s.host := hv ▸ rfl
  have hcame : v.contribsFor h.v = some [contribOf r] := by
    have hold : s.peer.contribs.find? (fun z => z.key == recField h.v.record 12 8 && z.seam == m.val) = none := by
      refine List.find?_eq_none.mpr fun z hz => ?_
      have hz' := hn z hz
      rw [hm] at hz'
      simpa [hkey] using hz'
    have hnew : v.peer.contribs.find? (fun z => z.key == recField h.v.record 12 8 && z.seam == m.val) = some (contribOf r) := by
      rw [hvpeer]
      show (s.peer.contribs ++ [contribOf r]).find? _ = _
      rw [List.find?_append, hold, Option.none_or, List.find?_cons_of_pos (by simp [contribOf, hkey, hm])]
    have hblocks : v.blocksPassed h.v = true := by
      unfold State.blocksPassed at hpass ⊢
      rw [hvpeer]
      exact hpass
    have hfound : [m].filterMap (fun k => v.peer.contribs.find? (fun z => z.key == recField h.v.record 12 8 && z.seam == k.val)) =
        [contribOf r] := by
      simp only [List.filterMap_cons, hnew, List.filterMap_nil]
    unfold State.contribsFor
    rw [hexp]
    dsimp only
    rw [hfound, hblocks]
    rfl
  have hgive : v.giveHeld = ({ v with peer := { v.peer with held := [] } }).giveWaited h := by
    have hvheld : v.peer.held = [h] := by rw [hvpeer]; exact hh
    unfold State.giveHeld
    dsimp only
    rw [hvheld, List.filter_cons_of_neg (p := fun h : HeldVerdict => !(v.contribsFor h.v).isSome) (by simp [hcame]),
      List.filter_cons_of_pos (p := fun h : HeldVerdict => (v.contribsFor h.v).isSome) (by simp [hcame])]
    rfl
  obtain ⟨y, a1, a2, happly, hyhost, hypeer⟩ := giveWaited_applies (s := { v with peer := { v.peer with held := [] } }) (h := h)
    (l := [contribOf r]) hcame
  refine takes_answers hp exec_contrib ht (hstep.trans (hgive.trans happly)) fun t hsame => ⟨?_, ?_, tookPacket_same hsame ?_ ?_⟩
  · rw [hsame.peer_driven, acked_peer, applyVerdict_peer, hypeer]
  · have hyarm := oneArm_of_subjects (t := y) (by rw [hyhost]; exact congrArg HostSt.subjects hvhost) harm
    rw [openSubjects_of_subjects (congrArg HostSt.subjects hsame.host_driven)]
    exact applyVerdict_keyless hak haf hyarm
  · rw [applyVerdict_peer, hypeer, hvpeer]
  · rw [applyVerdict_peer, hypeer, hvpeer]
    rfl

end Fresh

end Tracked

/-- A rejection of the neighbour is counted and written. -/
theorem reject_counts {y : BitVec 64} {q : BitVec 8} (ht : s.peerTakes k e) : ∃ t, exec (.reject k e y q) s = .next t ∧
    s.tookPacket t k e ∧ t.get (F.PEER_REJECT_received k) = min (s.get (F.PEER_REJECT_received k) + 1) 65535 ∧
    t.wrote Code.PEER_CONTRIB_REJECTED [k, y.toNat % 2 ^ 32, q.toNat] := by
  have hpeer : (((s.taken k).inc (F.PEER_REJECT_received k)).raise Code.PEER_CONTRIB_REJECTED [k, y.toNat % 2 ^ 32, q.toNat]).peer =
      (s.taken k).peer := by rw [raise_peer, State.inc_def, set_peer]
  refine takes_answers hp exec_reject ht rfl fun t hsame =>
    ⟨tookPacket_same hsame (by rw [hpeer]) (by rw [hpeer]; rfl), ?_, hsame.wrote_driven (acked_wrote raise_wrote)⟩
  rw [hsame.get_driven (by simp; decide), get_acked, get_raise (by simp; decide), get_inc (by simp [F.PEER_REJECT_received])]
  rfl

/-! ### Control packets (R340) -/

section Control
variable {q : BitVec 16} {i : Nat} (hh : s.peerHears k e)

omit hp in
theorem exec_ack : exec (.ack k e q) s = execAck k e q s := rfl
omit hp in
theorem exec_peerNak : exec (.peerNak k e q) s = execPeerNak k e q s := rfl
omit hp in
theorem exec_credit : exec (.credit k e q) s = execCredit k e q s := rfl

include hh

omit hp in
theorem peerControl_hears : s.peerControl k e f = f s := by
  obtain ⟨hu, hl, hb, hsound⟩ := hh
  unfold State.peerControl
  rw [if_neg (by simp [hu, hl]), if_neg (by simp [hb]), if_neg (by simp [hsound])]

/-- ACK empties the resend buffer up to its number. -/
theorem ack_empties (hi : (s.side k).resend.findIdx? (fun z => z.1 == q.toNat) = some i) (hw : (s.side k).waiting = []) :
    ∃ t, exec (.ack k e q) s = .next t ∧ t.side k = { s.side k with resend := (s.side k).resend.drop (i + 1) } ∧ t.peer.out = s.peer.out := by
  rw [exec_ack]
  refine run_answers_of_effect (u := s.setSide k { s.side k with resend := (s.side k).resend.drop (i + 1) }) hp
    ((peerControl_hears hh).trans ?_) fun t ht => ?_
  · dsimp only
    rw [hi, hw]
    rfl
  · rw [ht.side_driven, ht.peer_driven, setSide_side]
    exact ⟨rfl, rfl⟩

theorem ack_unknown (hi : (s.side k).resend.findIdx? (fun z => z.1 == q.toNat) = none) :
    ∃ t, exec (.ack k e q) s = .next t ∧ t.peer = s.peer := by
  rw [exec_ack]
  exact run_answers_of_effect (u := s) hp ((peerControl_hears hh).trans (by dsimp only; rw [hi])) fun t ht => ht.peer_driven

omit hp hh in
/-- Packets sent again leave in their order. -/
theorem resend_out : ∀ (l : List (Nat × PeerMsg)) (s : State), (s.each l (fun s z => s.peerOut j (some z.1) z.2)).peer =
    { s.peer with out := s.peer.out ++ l.map (fun z => (j, some (z.1 % 2), some z.1, z.2)) }
  | [], s => by
    rw [State.each_nil, List.map_nil, List.append_nil]
  | z :: l, s => by
    rw [State.each_cons, resend_out l, List.map_cons]
    have hout : (s.peerOut j (some z.1) z.2).peer.out = s.peer.out ++ [(j, some (z.1 % 2), some z.1, z.2)] := rfl
    rw [hout, List.append_assoc]
    rfl

omit hp hh in
theorem get_resend {l : List (Nat × PeerMsg)} : (s.each l (fun s z => s.peerOut j (some z.1) z.2)).get g = s.get g :=
  each_keeps (fun s => s.get g) (g := fun s (z : Nat × PeerMsg) => s.peerOut j (some z.1) z.2) (fun _ _ => rfl) l s

/-- NAK sends again from its number. -/
theorem nak_resends (hi : (s.side k).resend.findIdx? (fun z => z.1 == q.toNat) = some i) : ∃ t, exec (.peerNak k e q) s = .next t ∧
    t.side k = s.side k ∧
    t.peer.out = s.peer.out ++ ((s.side k).resend.drop i).map (fun z => (k.val, some (z.1 % 2), some z.1, z.2)) ∧
    t.get (F.PEER_RESEND_naks k) = min (s.get (F.PEER_RESEND_naks k) + 1) 65535 := by
  have hpeer : (s.inc (F.PEER_RESEND_naks k)).peer = s.peer := by rw [State.inc_def, set_peer]
  have hout := resend_out (j := k) ((s.side k).resend.drop i) (s.inc (F.PEER_RESEND_naks k))
  rw [hpeer] at hout
  rw [exec_peerNak]
  refine run_answers_of_effect (u := (s.inc (F.PEER_RESEND_naks k)).each ((s.side k).resend.drop i) (fun s z => s.peerOut k (some z.1) z.2)) hp
    ((peerControl_hears hh).trans (by dsimp only; rw [hi])) fun t ht => ?_
  rw [ht.side_driven, ht.peer_driven, ht.get_driven (by simp; decide), hout, side_of_sides (s := s) (by rw [hout]), get_resend,
    get_inc (by simp [F.PEER_RESEND_naks])]
  exact ⟨rfl, rfl, rfl⟩

/-- CREDIT adds to what may be sent. -/
theorem credit_adds (hw : (s.side k).waiting = []) : ∃ t, exec (.credit k e q) s = .next t ∧
    t.side k = { s.side k with credit := (s.side k).credit + q.toNat } ∧ t.peer.out = s.peer.out := by
  rw [exec_credit]
  refine run_answers_of_effect (u := s.setSide k { s.side k with credit := (s.side k).credit + q.toNat }) hp
    ((peerControl_hears hh).trans ?_) fun t ht => ?_
  · dsimp only
    rw [hw]
    rfl
  · rw [ht.side_driven, ht.peer_driven, setSide_side]
    exact ⟨rfl, rfl⟩

omit hp hh in
/-- A side whose one waiting packet leaves. -/
def PeerSide.sends (y : PeerSide) (x : PeerMsg) : PeerSide :=
  { y with
    waiting := [], credit := y.credit - 1, txNext := (y.txNext + 1) % 65536, resend := y.resend ++ [(y.txNext, x)] }

omit hp hh in
/-- The one packet that waits leaves within the credit. -/
theorem peerPump_one (hw : (s.side j).waiting = [x]) (hc : (s.side j).credit ≠ 0) (hr : (s.side j).resend.length < resendDepth) :
    s.peerPump j 1 = (s.setSide j ((s.side j).sends x)).peerOut j (some (s.side j).txNext) x := by
  unfold State.peerPump
  dsimp only
  rw [hw]
  refine (if_neg ?_).trans rfl
  simp only [Bool.or_eq_true, decide_eq_true_eq, not_or]
  exact ⟨hc, by omega⟩

/-- CREDIT lets what waits go. -/
theorem credit_sends {m : PeerMsg} (hw : (s.side k).waiting = [m]) (hr : (s.side k).resend.length < resendDepth) (hq : q ≠ 0) :
    ∃ t, exec (.credit k e q) s = .next t ∧
      t.peer.out = s.peer.out ++ [(k.val, some ((s.side k).txNext % 2), some (s.side k).txNext, m)] ∧ t.side k =
        { s.side k with credit := (s.side k).credit + q.toNat - 1, waiting := [], txNext := ((s.side k).txNext + 1) % 65536, resend := (s.side k).resend ++ [((s.side k).txNext, m)] } := by
  have hpos : q.toNat ≠ 0 := fun h => hq (BitVec.eq_of_toNat_eq h)
  have hcredit : (s.setSide k { s.side k with credit := (s.side k).credit + q.toNat }).side k =
      { s.side k with credit := (s.side k).credit + q.toNat } := setSide_side
  have hpump := peerPump_one (s := s.setSide k { s.side k with credit := (s.side k).credit + q.toNat }) (j := k) (x := m)
    (by rw [hcredit]; exact hw) (by rw [hcredit]; show (s.side k).credit + q.toNat ≠ 0; omega) (by rw [hcredit]; exact hr)
  rw [hcredit] at hpump
  rw [exec_credit]
  refine run_answers_of_effect hp ((peerControl_hears hh).trans ((by dsimp only; rw [hw]; rfl : _ = State.peerPump _ k 1).trans hpump))
    fun t ht => ⟨?_, ?_⟩
  · rw [ht.peer_driven]
    rfl
  · rw [ht.side_driven]
    exact (side_of_sides rfl).trans setSide_side

end Control

end Answers

end PeerMessages

/-- Settles O36, packet by packet: the sequence with its refusals, and what a packet that is taken brings. -/
theorem peerPackets : Obligations.PeerPackets := by
  unfold Obligations.PeerPackets
  refine ⟨?_, ?_, ?_, ?_, ?_, ?_, ?_, ?_, ?_, ?_, ?_, ?_, ?_, ?_, ?_, ?_, ?_, ?_, ?_, ?_, ?_, ?_, ?_, ?_, ?_, ?_, ?_, ?_⟩
  · exact fun s k e v hp => bad_nakked hp exec_verge.choose_spec
  · exact fun s k e v hp => creditless_nakked hp exec_verge.choose_spec
  · exact fun s k e v hp => down_idle hp exec_verge.choose_spec
  · exact fun s k e r q hp => bad_nakked hp exec_contrib
  · exact fun s k e r q hp => creditless_nakked hp exec_contrib
  · exact fun s k e r q hp => down_idle hp exec_contrib
  · exact fun s k e y n hp => bad_nakked hp exec_reject
  · exact fun s k e y n hp => creditless_nakked hp exec_reject
  · exact fun s k e y n hp => down_idle hp exec_reject
  · exact fun s k e seam line row c hp => verge_row hp
  · exact fun s k e seam line n l d w b hp => digest_passes hp
  · exact fun s k e seam line n l d w b x hp => digest_differs hp
  · exact fun s k e seam line n l d w hp => digest_first hp
  · exact fun s m line b hp => digest_missing hp
  · exact fun s m line hp => digest_none hp
  · exact fun s k e r g c hp => contrib_kept hp
  · exact fun s k e r g c h q u hp ht hm hk hc hn hd hf hb hh hkey hexp hpass harm => contrib_gives hp ht (by rw [hm]; exact hk)
      (by rw [hm]; exact q.isLt) (by rw [hm]; exact hc) (by rw [hm]; exact hn) hd hf hb hm hh hkey hexp hpass harm
  · exact fun s k e r hp => contrib_untracked hp
  · exact fun s k e r g c hp => contrib_again hp
  · exact fun s k e r g c hp => contrib_otherProgram hp
  · exact fun s k e r g c hp => contrib_fired hp
  · exact fun s k e r g c hp => contrib_bad hp
  · exact fun s k e y n hp => reject_counts hp
  · exact fun s k e q i hp => ack_empties hp
  · exact fun s k e q hp => ack_unknown hp
  · exact fun s k e q i hp => nak_resends hp
  · exact fun s k e q hp => credit_adds hp
  · exact fun s k e q m hp hh => credit_sends hp hh

end Sys2Proof.Machine
end

section
/-! PROOFS. A verdict for an arm with an entry: it frees or confirms an ARMED one, and finds the part LATE where the entry is due (R315). -/

namespace Sys2Proof.Machine

open Sys2Proof

section Arms

variable {s t w : State} {e x : Milepost} {u z : Subject} {y : Pulse} {g : Field} {v : Option VerdictIn} {p tag k o c m n : Nat}

/-! ### Entries -/

theorem setEntry_host {q : Option Milepost} : (s.setEntry k q).host = s.host := (State.setEntry_frame (Within.refl _) (.refl _ s)).host rfl

theorem tfind_setEntry : tfind (s.setEntry k (some x)).motion.entries k = some x := tfind_tput_self _ _ _

theorem tfind_setEntry_none : tfind (s.setEntry k none).motion.entries k = none := tfind_tdel_self _ _

/-- The end of a pulse program frees at most the entry of the program, and that one only where it is FIRING. -/
theorem endPulse_tfind : tfind (s.endPulse y).motion.entries k = tfind s.motion.entries k ∨ y.entry = k ∧
    (∃ x, tfind s.motion.entries k = some x ∧ x.state = 3) ∧ tfind (s.endPulse y).motion.entries k = none := by
  unfold State.endPulse
  dsimp only
  split
  · rename_i q hq
    split
    · rename_i hthree
      by_cases hk : y.entry = k
      · refine .inr ⟨hk, ⟨q, hk ▸ hq, ?_⟩, hk ▸ tfind_setEntry_none⟩
        simp only [Bool.and_eq_true, beq_iff_eq] at hthree
        exact hthree.1
      · exact .inl (tfind_tdel_ne _ (Ne.symm hk))
    · exact .inl rfl
  · exact .inl rfl

/-- The end of a pulse program keeps an entry that is not FIRING. -/
theorem endPulse_keeps (h : tfind s.motion.entries k = some x) (hx : x.state ≠ 3) : tfind (s.endPulse y).motion.entries k = some x := by
  rcases endPulse_tfind (s := s) (y := y) (k := k) with e | ⟨-, ⟨q, hq, hthree⟩, -⟩
  · rw [e, h]
  · rw [h] at hq
    exact absurd (Option.some.inj hq ▸ hthree) hx

theorem enterSafe_keeps (h : tfind s.motion.entries k = some x) (hx : x.state ≠ 3) : tfind (s.enterSafe c m).motion.entries k = some x := by
  rcases enterSafe_motion (s := s) (c := c) (k := m) with e | ⟨w, hw, e⟩
  · rw [e, h]
  · rw [e]
    exact State.each_keeps (P := fun t => tfind t.motion.entries k = some x) (fun t y ht => endPulse_keeps ht hx) _ w (by rw [hw, h])

/-! ### An ARMED entry -/

theorem entryOf_found (hk : u.key = some k) (he : tfind s.motion.entries k = some e) (htag : e.tag = u.tag) (hpart : e.part = u.part) :
    s.entryOf u = some (k, e) := by
  unfold State.entryOf
  rw [hk]
  dsimp only
  rw [he, Option.bind_some, if_pos (by simp [htag, hpart])]

/-- A verdict for the one arm of a part acts on its ARMED entry. -/
theorem applyVerdict_armed (ha : s.armedOnce p tag k u e) : s.applyVerdict p tag o c v =
    if o = outGOOD ∧ e.doubt = 0 then ((s.setEntry k none).inc (F.MOT_CH_CANCELLED_count u.chan)).settle u outGOOD 0 0 (mpFlags e) v
    else (s.setEntry k (some { e with state := 2 })).settle u (if o == outGOOD then outINVALID else o) 0
      (if o == outGOOD then e.doubt else if o == outINVALID then c else 0) (mpFlags e) v := by
  obtain ⟨harm, hk, he, hstate, htag, hpart, hdue⟩ := ha
  have hentry := entryOf_found hk he htag hpart
  have hquiet : (s.due (k / 4096)).any (fun x => x.1 == k) = false := List.any_eq_false.mpr fun x hx => by simpa using hdue x hx
  rw [applyVerdict_oneArm harm]
  unfold State.verdictOn State.fireDue
  rw [hentry]
  dsimp only
  rw [hquiet]
  show s.verdictArm (s.subjectNow u) o c v = _
  rw [subjectNow_one harm.1]
  unfold State.verdictArm
  rw [hentry]
  dsimp only
  rw [if_pos (by simp [hstate])]
  by_cases h : o = outGOOD ∧ e.doubt = 0
  · rw [if_pos h, if_pos (by simp [h.1, h.2])]
  · rw [if_neg h, if_neg (by simpa using h)]

/-- All but GOOD without doubt confirms the ejection. -/
theorem applyVerdict_confirms (ha : s.armedOnce p tag k u e) (h : ¬ (o = outGOOD ∧ e.doubt = 0)) :
    tfind (s.applyVerdict p tag o c v).motion.entries k = some { e with state := 2 } := by
  rw [applyVerdict_armed ha, if_neg h, settle_motion, tfind_setEntry]

/-- GOOD without doubt frees the entry and counts it. -/
theorem applyVerdict_frees (ha : s.armedOnce p tag k u e) (hd : e.doubt = 0) :
    tfind (s.applyVerdict p tag outGOOD c v).motion.entries k = none ∧
    (s.applyVerdict p tag outGOOD c v).get (F.MOT_CH_CANCELLED_count u.chan) =
      min (s.get (F.MOT_CH_CANCELLED_count u.chan) + 1) (2 ^ 32 - 1) := by
  rw [applyVerdict_armed ha, if_pos ⟨rfl, hd⟩, settle_motion, incField_motion]
  refine ⟨tfind_setEntry_none, ?_⟩
  rw [(State.settle_frame (Within.refl _) (.refl _ _)).get _ (by simp; decide), get_inc (by simp [F.MOT_CH_CANCELLED_count]),
    get_setEntry (by simp; decide)]
  rfl

/-! ### An entry that is due -/

theorem beginStep_host : (s.beginStep y m).host = s.host := (State.beginStep_frame (Within.refl _) (.refl _ s)).host rfl

/-- A step begins, or the program ends and frees its FIRING entry. -/
theorem beginStep_tfind : tfind (s.beginStep y m).motion.entries k = tfind s.motion.entries k ∨
    tfind (s.beginStep y m).motion.entries k = none := by
  have hend : tfind (s.endPulse y).motion.entries k = tfind s.motion.entries k ∨ tfind (s.endPulse y).motion.entries k = none :=
    endPulse_tfind.imp_right fun h => h.2.2
  unfold State.beginStep
  dsimp only
  split
  · split
    · exact hend
    · exact .inl rfl
  · exact hend

/-- An entry fires, and its program starts or, in the safe state, it is done. -/
theorem fireEntry_fires : ∃ w : State, w.motion = (s.entryFiring k e).motion ∧ w.host = (s.entryFiring k e).host ∧
    (s.fireEntry k e = w.setEntry k none ∨ ∃ y, s.fireEntry k e = (w.startPulse y).beginStep y 0) := by
  unfold State.fireEntry
  extract_lets ch sup others beyond low lowTag e1 s1 host s2 s3 s4 y
  have h1 : s1 = s.firedCounted k e := rfl
  have h2 : s2 = s.entryFiring k e := by
    rw [State.entryFiring, ← h1]
    rfl
  have h3 : s3.motion = s2.motion ∧ s3.host = s2.host := by
    unfold s3
    split
    · exact ⟨by rw [raise_motion, incField_motion], by rw [raise_host, State.inc_def, set_host]⟩
    · exact ⟨rfl, rfl⟩
  have h4 : s4.motion = s3.motion ∧ s4.host = s3.host := by
    unfold s4
    split
    · exact ⟨by rw [raiseAt_motion, incField_motion], by
        rw [(State.raiseAt_frame (Within.refl _) (.refl _ _)).host rfl, State.inc_def, set_host]⟩
    · exact ⟨rfl, rfl⟩
  refine ⟨s4, by rw [h4.1, h3.1, h2], by rw [h4.2, h3.2, h2], ?_⟩
  split
  · exact .inl rfl
  · exact .inr ⟨y, rfl⟩

/-- The entry that fired is FIRING, or done. -/
theorem fireEntry_tfind : tfind (s.fireEntry k e).motion.entries k = some (s.firedEntry k e) ∨
    tfind (s.fireEntry k e).motion.entries k = none := by
  obtain ⟨w, hm, -, h | ⟨y, h⟩⟩ := fireEntry_fires (s := s) (k := k) (e := e)
  · exact .inr (h ▸ tfind_setEntry_none)
  · have hfound : tfind w.motion.entries k = some (s.firedEntry k e) := by rw [hm, entryFiring_motion, tfind_setEntry]
    rw [h]
    refine beginStep_tfind.imp_left fun hk => hk.trans ?_
    exact hfound

theorem fireEntry_host : (s.fireEntry k e).host = (s.entryFiring k e).host := by
  obtain ⟨w, -, hh, h | ⟨y, h⟩⟩ := fireEntry_fires (s := s) (k := k) (e := e)
  · rw [h, setEntry_host, hh]
  · rw [h, beginStep_host, ← hh]
    rfl

/-- The subject of an entry that has fired while ARMED. -/
def State.firedSubject (s : State) (k : Nat) (e : Milepost) (u : Subject) : Subject :=
  { u with firedPeriod := some (s.firedCounted k e).period, flags := mpFlags (s.firedEntry k e) }

/-- The one open subject of a tag knows that its entry has fired. -/
theorem fireEntry_open (ho : s.openSubjects p tag = [u]) (hk : u.key = some k) (hstate : e.state = 1) (htag : e.tag = u.tag)
    (hpart : e.part = u.part) : (s.fireEntry k e).openSubjects p tag = [s.firedSubject k e u] := by
  obtain ⟨-, -, -, hopen⟩ := open_of_mem (ho ▸ List.mem_cons_self)
  have hsame : (s.firedCounted k e).host.subjects = s.host.subjects := by
    rw [State.firedCounted, State.inc_def, set_host, setEntry_host]
  have hmark : (s.fireEntry k e).host.subjects = s.host.subjects.map (fun u =>
      if u.key == some k && u.tag == e.tag && u.part == e.part && !u.settled then s.firedSubject k e u else u) := by
    rw [fireEntry_host, State.entryFiring, State.markFired, if_pos (by simp [hstate]), ← hsame]
    rfl
  unfold State.openSubjects at ho ⊢
  rw [hmark, List.filter_map, List.filter_congr (q := fun u => u.kind == 1 && u.part == p && u.tag == tag && !u.settled), ho,
    List.map_singleton, if_pos (by simp [hk, htag, hpart, hopen])]
  intro z hz
  dsimp only [Function.comp]
  split
  · rfl
  · rfl

/-- A verdict for an arm whose entry is due finds the part LATE. -/
theorem applyVerdict_late (harm : s.oneArm p tag u) (hk : u.key = some k) (he : tfind s.motion.entries k = some e) (hstate : e.state = 1)
    (htag : e.tag = u.tag) (hpart : e.part = u.part) (hdue : (k, e) ∈ s.due (k / 4096)) : ∃ fl, s.applyVerdict p tag o c v =
      (((s.fireEntry k e).raiseAt u.chan Code.MILEPOST_LATE [u.chan, u.tag, o]).inc (F.MOT_CH_LATE_count u.chan)).settle
        (s.firedSubject k e u) outLATE o 0 fl v := by
  have hopen := fireEntry_open harm.1 hk hstate htag hpart
  have hany : (s.due (k / 4096)).any (fun x => x.1 == k) = true := List.any_eq_true.mpr ⟨(k, e), hdue, by simp⟩
  have hnow : (s.fireEntry k e).subjectNow u = s.firedSubject k e u := by
    obtain ⟨-, rfl, rfl, -⟩ := open_of_mem (harm.1 ▸ List.mem_cons_self)
    unfold State.subjectNow
    rw [hopen, List.find?_cons_of_pos (by simp [State.firedSubject])]
    rfl
  rw [applyVerdict_oneArm harm]
  unfold State.verdictOn State.fireDue
  rw [entryOf_found hk he htag hpart]
  dsimp only
  rw [hany, if_pos rfl, hnow]
  unfold State.verdictArm
  rcases fireEntry_tfind (s := s) (k := k) (e := e) with h | h
  · rw [entryOf_found (u := s.firedSubject k e u) hk h htag hpart]
    dsimp only
    rw [if_neg (by simp [State.firedEntry]), if_pos (by simp [State.firedEntry, hstate])]
    exact ⟨_, rfl⟩
  · have hnone : (s.fireEntry k e).entryOf (s.firedSubject k e u) = none := by
      unfold State.entryOf
      rw [show (s.firedSubject k e u).key = some k from hk]
      dsimp only
      rw [h, Option.bind_none]
    rw [hnone]
    exact ⟨_, rfl⟩

/-- What a LATE part shows: its count, and no open subject. -/
theorem applyVerdict_late_shows (harm : s.oneArm p tag u) (hk : u.key = some k) (he : tfind s.motion.entries k = some e)
    (hstate : e.state = 1) (htag : e.tag = u.tag) (hpart : e.part = u.part) (hdue : (k, e) ∈ s.due (k / 4096)) :
    (s.applyVerdict p tag o c v).get (F.MOT_CH_LATE_count u.chan) = min (s.get (F.MOT_CH_LATE_count u.chan) + 1) 65535 ∧
    (s.applyVerdict p tag o c v).openSubjects p tag = [] := by
  obtain ⟨fl, h⟩ := applyVerdict_late (o := o) (c := c) (v := v) harm hk he hstate htag hpart hdue
  have hopen := fireEntry_open harm.1 hk hstate htag hpart
  rw [h]
  constructor
  · rw [(State.settle_frame (Within.refl _) (.refl _ _)).get _ (by simp; decide), get_inc (by simp [F.MOT_CH_LATE_count]),
      get_raiseAt (by simp; decide), (State.fireEntry_frame (Within.refl _) (.refl _ s)).get _ (by simp; decide)]
    rfl
  · refine settle_closes ((openSubjects_of_subjects ?_).trans hopen)
    rw [State.inc_def, set_host, (State.raiseAt_frame (Within.refl _) (.refl _ _)).host rfl]

end Arms

end Sys2Proof.Machine
end

section
/-! PROOFS. The judgement of a verdict record: what it counts, and what it passes to the milepost unit (R368, R370, R381). -/

namespace Sys2Proof.Machine

open Sys2Proof

section Judging

variable {s t u w : State} {p : Nat} {r : List Byte} {v : VerdictIn} {n x o c : Nat}

/-- What the judgement of a record can touch before it is passed on. -/
def judgedMask : Nat := 0x602000000000001c000000000000000000000000000000000000000000000000000000000000022080200

/-- The state in which a judged record is passed on: its guard counter and stamp are the previous ones. -/
structure State.Judged (s u : State) (p : Nat) (r : List Byte) : Prop where
  frame : Frame judgedMask s u
  saw : u.sawRecord p r
  fails : u.safe.fails = s.safe.fails

theorem State.Judged.host (h : s.Judged u p r) : u.host = s.host := h.frame.host rfl
theorem State.Judged.motion (h : s.Judged u p r) : u.motion = s.motion := h.frame.motion rfl
theorem State.Judged.peer (h : s.Judged u p r) : u.peer = s.peer := h.frame.peer rfl

theorem State.Judged.isSafe (h : s.Judged u p r) : u.isSafe = s.isSafe := isSafe_of_state (h.frame.get _ (by decide))

/-- The entries that are due depend on the motion unit, the configuration, the clock and the speed's readback. -/
theorem State.Judged.due (h : s.Judged u p r) : u.due n = s.due n := by
  have hspeed : u.get (F.MOT_CH_STATUS_speed_state n) = s.get (F.MOT_CH_STATUS_speed_state n) := h.frame.get _ (by simp; decide)
  unfold State.due State.projection State.speed State.serialMode State.chanCfg State.chanEntries State.chan
  rw [h.motion, hspeed, h.frame.cfg rfl, h.frame.clk rfl]

theorem State.Judged.oneArm {z : Subject} (h : s.Judged u p r) (ha : s.oneArm p n z) : u.oneArm p n z :=
  oneArm_of_subjects (by rw [h.host]) ha

theorem State.Judged.armedOnce {z : Subject} {k : Nat} {e : Milepost} (h : s.Judged u p r) (ha : s.armedOnce p n k z e) :
    u.armedOnce p n k z e := by
  obtain ⟨harm, hk, he, hstate, htag, hpart, hdue⟩ := ha
  exact ⟨h.oneArm harm, hk, by rw [h.motion, he], hstate, htag, hpart, by rwa [h.due]⟩

theorem State.Judged.contribsFor (h : s.Judged u p r) : u.contribsFor v = s.contribsFor v := contribsFor_of_peer h.peer

/-! ### The record is the previous one -/

theorem sawRecord_of (hseq : t.get (F.SAFE_JUDGE_SEQ_counter p) = u.get (F.SAFE_JUDGE_SEQ_counter p))
    (hstamp : t.safe.prevStamp = u.safe.prevStamp) (h : u.sawRecord p r) : t.sawRecord p r :=
  ⟨hseq.trans h.1, by rw [hstamp, h.2]⟩

theorem recordSeen_saw : (s.recordSeen p r).sawRecord p r := by
  refine ⟨?_, tfind_tput_self _ _ _⟩
  have hget : (s.recordSeen p r).get (F.SAFE_JUDGE_SEQ_counter p) =
      (s.set (F.SAFE_JUDGE_SEQ_counter p) (recField r 8 4)).get (F.SAFE_JUDGE_SEQ_counter p) := rfl
  rw [hget, State.get_set (by simp [F.SAFE_JUDGE_SEQ_counter])]
  exact Nat.mod_eq_of_lt recField_lt

theorem recordSeen_judged (h : Frame judgedMask s w) (hs : w.safe = s.safe) : s.Judged (w.recordSeen p r) p r := by
  refine ⟨State.recordSeen_frame rfl h, recordSeen_saw, ?_⟩
  have hfails : (w.recordSeen p r).safe.fails = (w.set (F.SAFE_JUDGE_SEQ_counter p) (recField r 8 4)).safe.fails := rfl
  rw [hfails, set_safe, hs]

theorem get_recordSeen {f : Field} (h : State.recordSeen_mask.testBit (regKind f.key) = false) : (w.recordSeen p r).get f = w.get f :=
  (State.recordSeen_frame (Within.refl _) (.refl _ w)).get f h

/-! ### The three ways of a record -/

/-- The effect of VERDICT_RECORD. -/
def State.judgeRecord (p : Nat) (v : VerdictIn) (s : State) : State :=
  if s.isSafe then (s.recordSeen p v.record).passOn p v false outINVALID Code.SAFE_STATE_ENTERED
  else match checkRecord p v.record with
    | some x => s.judgeFail p v 1 x
    | none => match s.lostIn v.record with
      | some c => (s.recordSeen p v.record).passOn p v false outINVALID c
      | none => match s.checksOf p v with
        | some (n, x) => s.judgeFail p v n x
        | none => s.judgePass p v

theorem exec_verdictRecord {p : Part} : exec (.verdictRecord p v) s = s.run (State.judgeRecord p v) := rfl

/-- In the safe state no record is judged. -/
theorem judgeRecord_safe (h : s.isSafe = true) :
    s.judgeRecord p v = (s.recordSeen p v.record).passOn p v false outINVALID Code.SAFE_STATE_ENTERED := if_pos h

/-- A record whose stations hold a lost line is not judged. -/
theorem judgeRecord_lost (h : s.isSafe = false) (hrec : checkRecord p v.record = none) (hlost : s.lostIn v.record = some c) :
    s.judgeRecord p v = (s.recordSeen p v.record).passOn p v false outINVALID c := by
  unfold State.judgeRecord
  rw [h, if_neg Bool.false_ne_true, hrec, hlost]

theorem judgeRecord_failing (h : s.failsAt p v n) : ∃ x, s.judgeRecord p v = s.judgeFail p v n x := by
  obtain ⟨hsafe, hcase⟩ := h
  unfold State.judgeRecord
  rw [hsafe, if_neg Bool.false_ne_true]
  rcases hcase with ⟨hrec, rfl⟩ | ⟨hrec, hlost, x, hx⟩
  · obtain ⟨x, hx⟩ := Option.ne_none_iff_exists'.mp hrec
    rw [hx]
    exact ⟨x, rfl⟩
  · rw [hrec, hlost, hx]
    exact ⟨x, rfl⟩

theorem judgeRecord_passing (h : s.passes p v) : s.judgeRecord p v = s.judgePass p v := by
  obtain ⟨hsafe, hrec, hlost, hchecks⟩ := h
  unfold State.judgeRecord
  rw [hsafe, if_neg Bool.false_ne_true, hrec, hlost, hchecks]

/-- A record passes, fails a check, or is not judged. -/
theorem record_cases : s.passes p v ∨ (∃ n, s.failsAt p v n) ∨ ∃ c, s.judgeRecord p v =
    (s.recordSeen p v.record).passOn p v false outINVALID c := by
  by_cases hsafe : s.isSafe = true
  · exact .inr (.inr ⟨_, judgeRecord_safe hsafe⟩)
  have hnot : s.isSafe = false := by simpa using hsafe
  by_cases hrec : checkRecord p v.record = none
  · cases hlost : s.lostIn v.record with
    | some c => exact .inr (.inr ⟨c, judgeRecord_lost hnot hrec hlost⟩)
    | none =>
      cases hchecks : s.checksOf p v with
      | none => exact .inl ⟨hnot, hrec, hlost, hchecks⟩
      | some y => exact .inr (.inl ⟨y.1, hnot, .inr ⟨hrec, hlost, y.2, hchecks⟩⟩)
  · exact .inr (.inl ⟨1, hnot, .inl ⟨hrec, rfl⟩⟩)

theorem failsAt_not_passes (h : s.failsAt p v n) : ¬ s.passes p v := by
  rintro ⟨-, hrec, -, hchecks⟩
  rcases h.2 with ⟨hne, -⟩ | ⟨-, -, x, hx⟩
  · exact hne hrec
  · rw [hchecks] at hx
    exact absurd hx (by simp)

theorem failsAt_unique {m : Nat} (h : s.failsAt p v n) (k : s.failsAt p v m) : m = n := by
  rcases h.2 with ⟨hne, rfl⟩ | ⟨hrec, -, x, hx⟩
  · rcases k.2 with ⟨-, e⟩ | ⟨hrec, -⟩
    · exact e
    · exact absurd hrec hne
  · rcases k.2 with ⟨hne, -⟩ | ⟨-, -, y, hy⟩
    · exact absurd hrec hne
    · rw [hx] at hy
      exact (congrArg (fun z => (Option.getD z (0, 0)).1) hy).symm

/-! ### A failed check -/

/-- The failure is counted with the number of its check. -/
def State.failShown (s : State) (p n : Nat) (vals : List Nat) : State :=
  ((s.raise (0xB020 + n) vals).inc (F.SAFE_JUDGE_FAIL_count p)).set (F.SAFE_JUDGE_FAIL_check p) n

theorem failShown_frame {vals : List Nat} : Frame judgedMask s (s.failShown p n vals) :=
  State.set_frame (F.SAFE_JUDGE_FAIL_check_kind _) rfl (State.inc_frame (F.SAFE_JUDGE_FAIL_count_kind _) rfl
    (State.raise_frame rfl (.refl _ s)))

theorem failShown_safe {vals : List Nat} : (s.failShown p n vals).safe = s.safe := by
  rw [State.failShown, set_safe, State.inc_def, set_safe, raise_safe]

theorem failShown_count {vals : List Nat} : (s.failShown p n vals).get (F.SAFE_JUDGE_FAIL_count p) =
    min (s.get (F.SAFE_JUDGE_FAIL_count p) + 1) 65535 := by
  rw [State.failShown, State.get_set_field (f := F.SAFE_JUDGE_FAIL_count p) (g := F.SAFE_JUDGE_FAIL_check p) rfl
      (by simp [F.SAFE_JUDGE_FAIL_count, F.SAFE_JUDGE_FAIL_check]) (by simp [F.SAFE_JUDGE_FAIL_count]),
    get_inc (by simp [F.SAFE_JUDGE_FAIL_count]), get_raise (by simp; decide)]
  rfl

theorem failShown_check {vals : List Nat} (hn : n < 10) : (s.failShown p n vals).get (F.SAFE_JUDGE_FAIL_check p) = n := by
  rw [State.failShown, State.get_set (by simp [F.SAFE_JUDGE_FAIL_check])]
  exact Nat.mod_eq_of_lt (Nat.lt_of_lt_of_le hn (by simp [F.SAFE_JUDGE_FAIL_check]))

/-- The checks after C1 are numbered 2 to 9. -/
theorem checks_lt (h : s.checks p r = some (n, x)) : n < 10 := by
  unfold State.checks at h
  split at h
  · exact absurd h (by simp)
  · obtain ⟨e, he, hx⟩ := List.exists_of_findSome?_eq_some h
    have hn : n = e.1 := by
      obtain ⟨y, -, hy⟩ := Option.map_eq_some_iff.mp hx
      exact (congrArg Prod.fst hy).symm
    subst hn
    split at he
    · simp only [List.cons_append, List.nil_append, List.mem_cons, List.not_mem_nil, or_false] at he
      rcases he with rfl | rfl | rfl | rfl | rfl | rfl | rfl | rfl <;> simp
    · split at he
      · simp only [List.cons_append, List.nil_append, List.mem_cons, List.not_mem_nil, or_false] at he
        rcases he with rfl | rfl | rfl <;> simp
      · simp only [List.append_nil, List.mem_cons, List.not_mem_nil, or_false] at he
        rcases he with rfl | rfl <;> simp

theorem checksOf_lt (h : s.checksOf p v = some (n, x)) : n < 10 := by
  unfold State.checksOf at h
  split at h
  · split at h
    · exact absurd h (by simp)
    · exact checks_lt h
  · exact checks_lt h

theorem failsAt_lt (h : s.failsAt p v n) : n < 10 := by
  rcases h.2 with ⟨-, rfl⟩ | ⟨-, -, x, hx⟩
  · decide
  · exact checksOf_lt hx

/-- A failing record is counted with its check, and passed on as INVALID. -/
theorem judgeRecord_fails (h : s.failsAt p v n) : ∃ u c, s.Judged u p v.record ∧
    s.judgeRecord p v = (u.passOn p v false outINVALID c).burst p ∧
    u.get (F.SAFE_JUDGE_FAIL_count p) = min (s.get (F.SAFE_JUDGE_FAIL_count p) + 1) 65535 ∧
    u.get (F.SAFE_JUDGE_FAIL_check p) = n ∧ u.get (F.SAFE_JUDGE_PASS_count p) = s.get (F.SAFE_JUDGE_PASS_count p) := by
  obtain ⟨x, hx⟩ := judgeRecord_failing h
  refine ⟨(s.failShown p n [p, recField v.record 4 4, x]).recordSeen p v.record, 0xB020 + n,
    recordSeen_judged failShown_frame failShown_safe, hx, ?_, ?_, ?_⟩
  · rw [get_recordSeen (by simp; decide), failShown_count]
  · rw [get_recordSeen (by simp; decide), failShown_check (failsAt_lt h)]
  · rw [get_recordSeen (by simp; decide), State.failShown, State.get_set_kind (by simp), State.inc_def, State.get_set_kind (by simp),
      get_raise (by simp; decide)]

/-! ### A passing record -/

/-- The passing record is counted. -/
def State.passSeen (s : State) (p : Nat) (r : List Byte) : State := (s.inc (F.SAFE_JUDGE_PASS_count p)).recordSeen p r

theorem passSeen_judged : s.Judged (s.passSeen p r) p r :=
  recordSeen_judged (State.inc_frame (F.SAFE_JUDGE_PASS_count_kind _) rfl (.refl _ s)) (by rw [State.inc_def, set_safe])

theorem passSeen_count : (s.passSeen p r).get (F.SAFE_JUDGE_PASS_count p) = min (s.get (F.SAFE_JUDGE_PASS_count p) + 1) (2 ^ 32 - 1) := by
  rw [State.passSeen, get_recordSeen (by simp; decide), get_inc (by simp [F.SAFE_JUDGE_PASS_count])]
  rfl

theorem passSeen_fail : (s.passSeen p r).get (F.SAFE_JUDGE_FAIL_count p) = s.get (F.SAFE_JUDGE_FAIL_count p) := by
  rw [State.passSeen, get_recordSeen (by simp; decide), State.inc_def, State.get_set_kind (by simp)]

/-- The registers of a road other than its judgement counters. -/
theorem passSeen_other {f : Field} (h : State.recordSeen_mask.testBit (regKind f.key) = false) (hk : regKind f.key ≠ 278) :
    (s.passSeen p r).get f = s.get f := by
  rw [State.passSeen, get_recordSeen h, State.inc_def, State.get_set_kind (by simpa using hk)]

theorem passSeen_safe : ∃ a b, (s.passSeen p r).safe = { s.safe with seqFresh := a, prevStamp := b } := by
  have h : (s.passSeen p r).safe = { ((s.inc (F.SAFE_JUDGE_PASS_count p)).set (F.SAFE_JUDGE_SEQ_counter p) (recField r 8 4)).safe with
      seqFresh := (s.passSeen p r).safe.seqFresh
      prevStamp := (s.passSeen p r).safe.prevStamp } := rfl
  rw [State.inc_def, set_safe, set_safe] at h
  exact ⟨_, _, h⟩

theorem passSeen_cfg : (s.passSeen p r).cfg = s.cfg := passSeen_judged.frame.cfg rfl

theorem passSeen_blockedBy {cs : List Nat} : (s.passSeen p r).blockedBy n cs = s.blockedBy n cs := by
  obtain ⟨a, b, h⟩ := passSeen_safe (s := s) (p := p) (r := r)
  have hget : ∀ c, (s.passSeen p r).get (F.SAFE_CTX_golden_fail c) = s.get (F.SAFE_CTX_golden_fail c) := fun c =>
    passSeen_other (by simp; decide) (by simp)
  unfold State.blockedBy State.on
  rw [h, passSeen_cfg]
  simp only [hget]

theorem passSeen_roadClosed {cs : List Nat} : (s.passSeen p r).roadClosed n cs = s.roadClosed n cs := by
  obtain ⟨a, b, h⟩ := passSeen_safe (s := s) (p := p) (r := r)
  have hfield : (s.passSeen p r).hasField = s.hasField := congrArg (fun x => x != Variant.v9640) passSeen_judged.frame.variant
  have hspeed : (s.passSeen p r).get (F.MOT_CH_STATUS_speed_state 0) = s.get (F.MOT_CH_STATUS_speed_state 0) :=
    passSeen_other (by simp; decide) (by simp)
  have hcount : (s.passSeen p r).get (F.MOT_CH_STATUS_count_state 0) = s.get (F.MOT_CH_STATUS_count_state 0) :=
    passSeen_other (by simp; decide) (by simp)
  have hfit : (s.passSeen p r).get (F.ROUTE_PART_fit n) = s.get (F.ROUTE_PART_fit n) := passSeen_other (by simp; decide) (by simp)
  have hstate : (s.passSeen p r).get F.SAFE_STATUS_state = s.get F.SAFE_STATUS_state := passSeen_other (by decide) (by decide)
  have hloaded : ∀ c, (s.passSeen p r).paramsLoaded c = s.paramsLoaded c := fun c => by
    have hcfg : (s.passSeen p r).ctxCfg c = s.ctxCfg c := by rw [State.ctxCfg, passSeen_cfg, State.ctxCfg]
    unfold State.paramsLoaded State.ctx
    rw [hcfg, passSeen_judged.frame.isp rfl, passSeen_other (f := F.ISP_CTX_STATUS_loaded c) (by simp; decide) (by simp)]
  unfold State.roadClosed State.cntState State.on
  rw [h, hfield, hspeed, hcount, hfit, hstate]
  simp only [hloaded]

/-- A passing record is counted and passed on: with its own verdict on a free road, else as INVALID. -/
theorem judgeRecord_passes (h : s.passes p v) : ∃ u a b, s.Judged u p v.record ∧ s.judgeRecord p v = u.passOn p v true a b ∧
    u.get (F.SAFE_JUDGE_PASS_count p) = min (s.get (F.SAFE_JUDGE_PASS_count p) + 1) (2 ^ 32 - 1) ∧
    u.get (F.SAFE_JUDGE_FAIL_count p) = s.get (F.SAFE_JUDGE_FAIL_count p) ∧
    (∀ j, u.get (F.PEER_CONTRIB_sent j) = s.get (F.PEER_CONTRIB_sent j) ∧ u.get (sideUpField j) = s.get (sideUpField j)) ∧
    (s.roadFree p v.record → a = recField v.record 2 1 ∧ b = if recField v.record 2 1 = outINVALID then recField v.record 20 2 else 0) ∧
    (¬ s.roadFree p v.record → a = outINVALID) := by
  have hseen := passSeen_judged (s := s) (p := p) (r := v.record)
  have hpeer : ∀ j, (s.passSeen p v.record).get (F.PEER_CONTRIB_sent j) = s.get (F.PEER_CONTRIB_sent j) ∧
      (s.passSeen p v.record).get (sideUpField j) = s.get (sideUpField j) := fun j =>
    ⟨passSeen_other (by simp; decide) (by simp), passSeen_other (by rw [sideUpField_kind]; decide) (by rw [sideUpField_kind]; decide)⟩
  have hpass : s.judgePass p v = match (s.passSeen p v.record).blockedBy p ((stations v.record).map (fun e => e.1)),
      (s.passSeen p v.record).roadClosed p ((stations v.record).map (fun e => e.1)) with
    | some c, _ => (s.passSeen p v.record).passOn p v true outINVALID c
    | none, some n => ((s.passSeen p v.record).raise Code.ROAD_CLOSED [p, recField v.record 4 4, n]).passOn p v true outINVALID Code.ROAD_CLOSED
    | none, none => (s.passSeen p v.record).passOn p v true (recField v.record 2 1)
        (if recField v.record 2 1 == outINVALID then recField v.record 20 2 else 0) := rfl
  rw [judgeRecord_passing h, hpass, passSeen_blockedBy, passSeen_roadClosed]
  cases hb : s.blockedBy p ((stations v.record).map (fun e => e.1)) with
  | some c =>
    exact ⟨_, _, _, hseen, rfl, passSeen_count, passSeen_fail, hpeer, fun hr => absurd (hb.symm.trans hr.1) (by simp), fun _ => rfl⟩
  | none =>
    cases hc : s.roadClosed p ((stations v.record).map (fun e => e.1)) with
    | some n =>
      have hraised : s.Judged ((s.passSeen p v.record).raise Code.ROAD_CLOSED [p, recField v.record 4 4, n]) p v.record :=
        ⟨State.raise_frame rfl hseen.frame, sawRecord_of (get_raise (by simp; decide)) (by rw [raise_safe]) hseen.saw,
          by rw [raise_safe, hseen.fails]⟩
      refine ⟨_, _, _, hraised, rfl, ?_, ?_, fun j => ?_, fun hr => absurd (hc.symm.trans hr.2) (by simp), fun _ => rfl⟩
      · rw [get_raise (by simp; decide), passSeen_count]
      · rw [get_raise (by simp; decide), passSeen_fail]
      · rw [get_raise (by simp; decide), get_raise (by rw [sideUpField_kind]; decide)]
        exact hpeer j
    | none =>
      exact ⟨_, _, _, hseen, rfl, passSeen_count, passSeen_fail, hpeer, fun _ => ⟨rfl, by simp⟩, fun hr => absurd ⟨hb, hc⟩ hr⟩

/-! ### What is passed on -/

theorem get_passOn {b : Bool} {f : Field} (h : State.passOn_mask.testBit (regKind f.key) = false) :
    (u.passOn p v b o c).get f = u.get f := (State.passOn_frame (Within.refl _) (.refl _ u)).get f h

theorem passOn_safe {b : Bool} : (u.passOn p v b o c).safe = u.safe := (State.passOn_frame (Within.refl _) (.refl _ u)).safe rfl

theorem passOn_failed (h : v.seam = none) : u.passOn p v false o c = u.applyVerdict p (recField v.record 4 4) o c (some v) := by
  unfold State.passOn
  rw [h]
  rfl

theorem passOn_passed (h : v.seam = none) : u.passOn p v true o c = u.giveVerdict p v o c := by
  unfold State.passOn
  rw [h]
  rfl

/-- A record for a seam that did not pass is not passed on. -/
theorem passOn_seam_failed {q : Nat} (h : v.seam = some q) : u.passOn p v false o c = u := by
  unfold State.passOn
  rw [h]
  rfl

theorem passOn_seam_passed {q : Nat} (h : v.seam = some q) : ∃ d, u.passOn p v true o c =
    u.sendContrib q p (toSigned 64 (recField v.record 12 8)) o c d := by
  unfold State.passOn
  rw [h]
  exact ⟨_, rfl⟩

/-! ### The burst limit -/

/-- The failure stands among those of the last second. -/
def State.failCounted (s : State) (p : Nat) : State :=
  { s with
    safe := { s.safe with fails := s.safe.fails.filter (fun e => s.clk.now < e.2 + samplesPerS) ++ [(p, s.clk.now)] } }

theorem failCounted_length : ((s.failCounted p).safe.fails.filter (fun e => e.1 == p)).length = s.failsNow p + 1 := by
  unfold State.failCounted State.failsNow
  dsimp only
  rw [List.filter_append, List.filter_filter, List.length_append, List.filter_cons_of_pos (by simp), List.filter_nil]
  rfl

theorem burst_unset (h : s.checkSet p = none) : s.burst p = s := by
  unfold State.burst
  rw [h]

theorem burst_set {g : CheckSet} (h : s.checkSet p = some g) : s.burst p =
    if s.failsNow p + 1 > g.burst then ((s.failCounted p).raise Code.JUDGE_BURST [p, s.failsNow p + 1]).enterSafe Code.JUDGE_BURST
      (sourceUnit 0x11 255)
    else s.failCounted p := by
  rw [← failCounted_length]
  unfold State.burst
  rw [h]
  rfl

theorem burst_cases : s.burst p = s ∨ s.burst p = s.failCounted p ∨ ∃ n, s.burst p =
    ((s.failCounted p).raise Code.JUDGE_BURST [p, n]).enterSafe Code.JUDGE_BURST (sourceUnit 0x11 255) := by
  cases h : s.checkSet p with
  | none => exact .inl (burst_unset h)
  | some g =>
    rw [burst_set h]
    split
    · exact .inr (.inr ⟨_, rfl⟩)
    · exact .inr (.inl rfl)

theorem get_burst {f : Field} (h : State.burst_mask.testBit (regKind f.key) = false) : (s.burst p).get f = s.get f :=
  (State.burst_frame (Within.refl _) (.refl _ s)).get f h

theorem burst_host : (s.burst p).host = s.host := (State.burst_frame (Within.refl _) (.refl _ s)).host rfl

theorem burst_peer : (s.burst p).peer = s.peer := (State.burst_frame (Within.refl _) (.refl _ s)).peer rfl

theorem burst_prevStamp : (s.burst p).safe.prevStamp = s.safe.prevStamp := by
  rcases burst_cases (s := s) (p := p) with h | h | ⟨n, h⟩
  · rw [h]
  · rw [h]
    rfl
  · obtain ⟨a, b, d, hs⟩ := enterSafe_safe (s := (s.failCounted p).raise Code.JUDGE_BURST [p, n]) (c := Code.JUDGE_BURST)
      (k := sourceUnit 0x11 255)
    rw [h, hs, raise_safe]
    rfl

/-- The safe state that a burst brings keeps an entry that is not FIRING. -/
theorem burst_keeps {k : Nat} {e : Milepost} (h : tfind s.motion.entries k = some e) (he : e.state ≠ 3) :
    tfind (s.burst p).motion.entries k = some e := by
  rcases burst_cases (s := s) (p := p) with hb | hb | ⟨n, hb⟩
  · rw [hb, h]
  · rw [hb]
    exact h
  · rw [hb]
    exact enterSafe_keeps (by rw [raise_motion]; exact h) he

/-- A failure beyond the limit of the check set brings the safe state. -/
theorem burst_enters {g : CheckSet} (hsafe : s.isSafe = false) (h : s.checkSet p = some g) (hb : g.burst ≤ s.failsNow p) :
    (s.burst p).get F.SAFE_STATUS_state = safeSAFE ∧ (s.burst p).get F.SAFE_CAUSE_code = Code.JUDGE_BURST := by
  rw [burst_set h, if_pos (Nat.lt_succ_of_le hb)]
  refine ⟨enterSafe_state, enterSafe_cause ?_ (by decide)⟩
  rw [← hsafe]
  exact isSafe_of_state ((get_raise (by decide)).trans rfl)

theorem burst_saw (h : s.sawRecord p r) : (s.burst p).sawRecord p r :=
  sawRecord_of (get_burst (by simp; decide)) burst_prevStamp h

theorem passOn_saw {b : Bool} (h : u.sawRecord p r) : (u.passOn p v b o c).sawRecord p r :=
  sawRecord_of (get_passOn (by simp; decide)) (by rw [passOn_safe]) h

end Judging

end Sys2Proof.Machine
end

section
/-! PROOFS. A verdict record at the milepost unit, and the obligation on judgements (R315, R342, R368, R370). -/

namespace Sys2Proof.Machine

open Sys2Proof

section Records

variable {s t u : State} {v : VerdictIn} {z : Subject} {e : Milepost} {l : List Contrib} {p k n a b : Nat}

/-! ### What every record counts -/

theorem judgeRecord_saw : (s.judgeRecord p v).sawRecord p v.record := by
  rcases record_cases (s := s) (p := p) (v := v) with h | ⟨n, h⟩ | ⟨c, h⟩
  · obtain ⟨u, a, b, hu, e, -⟩ := judgeRecord_passes h
    exact e ▸ passOn_saw hu.saw
  · obtain ⟨u, c, hu, e, -⟩ := judgeRecord_fails h
    exact e ▸ burst_saw (passOn_saw hu.saw)
  · exact h ▸ passOn_saw recordSeen_saw

theorem passes_counts (h : s.passes p v) :
    (s.judgeRecord p v).get (F.SAFE_JUDGE_PASS_count p) = min (s.get (F.SAFE_JUDGE_PASS_count p) + 1) (2 ^ 32 - 1) ∧
    (s.judgeRecord p v).get (F.SAFE_JUDGE_FAIL_count p) = s.get (F.SAFE_JUDGE_FAIL_count p) := by
  obtain ⟨u, a, b, -, e, hpass, hfail, -⟩ := judgeRecord_passes h
  rw [e]
  exact ⟨(get_passOn (by simp; decide)).trans hpass, (get_passOn (by simp; decide)).trans hfail⟩

theorem failsAt_counts (h : s.failsAt p v n) :
    (s.judgeRecord p v).get (F.SAFE_JUDGE_FAIL_count p) = min (s.get (F.SAFE_JUDGE_FAIL_count p) + 1) 65535 ∧
    (s.judgeRecord p v).get (F.SAFE_JUDGE_FAIL_check p) = n ∧
    (s.judgeRecord p v).get (F.SAFE_JUDGE_PASS_count p) = s.get (F.SAFE_JUDGE_PASS_count p) := by
  obtain ⟨u, c, -, e, hfail, hcheck, hpass⟩ := judgeRecord_fails h
  rw [e]
  exact ⟨((get_burst (by simp; decide)).trans (get_passOn (by simp; decide))).trans hfail,
    ((get_burst (by simp; decide)).trans (get_passOn (by simp; decide))).trans hcheck,
    ((get_burst (by simp; decide)).trans (get_passOn (by simp; decide))).trans hpass⟩

theorem unjudged_counts (h : ¬ s.passes p v) (hf : ∀ n, ¬ s.failsAt p v n) :
    (s.judgeRecord p v).get (F.SAFE_JUDGE_PASS_count p) = s.get (F.SAFE_JUDGE_PASS_count p) ∧
    (s.judgeRecord p v).get (F.SAFE_JUDGE_FAIL_count p) = s.get (F.SAFE_JUDGE_FAIL_count p) := by
  rcases record_cases (s := s) (p := p) (v := v) with hp | ⟨n, hn⟩ | ⟨c, e⟩
  · exact absurd hp h
  · exact absurd hn (hf n)
  · rw [e]
    exact ⟨(get_passOn (by simp; decide)).trans (get_recordSeen (by simp; decide)),
      (get_passOn (by simp; decide)).trans (get_recordSeen (by simp; decide))⟩

/-! ### What reaches the milepost unit -/

/-- A record that does not pass is passed on as INVALID, before the burst limit is looked at. -/
theorem judgeRecord_not_passed (h : ¬ s.passes p v) : ∃ u c, s.Judged u p v.record ∧
    (s.judgeRecord p v = u.passOn p v false outINVALID c ∨ s.judgeRecord p v = (u.passOn p v false outINVALID c).burst p) := by
  rcases record_cases (s := s) (p := p) (v := v) with hp | ⟨n, hn⟩ | ⟨c, e⟩
  · exact absurd hp h
  · obtain ⟨u, c, hu, e, -⟩ := judgeRecord_fails hn
    exact ⟨u, c, hu, .inr e⟩
  · exact ⟨_, c, recordSeen_judged (.refl _ s) rfl, .inl e⟩

/-- A record that does not pass confirms the ARMED entry of its part. -/
theorem not_passed_confirms (h : ¬ s.passes p v) (hv : v.seam = none) (ha : s.armedOnce p (recField v.record 4 4) k z e) :
    tfind (s.judgeRecord p v).motion.entries k = some { e with state := 2 } := by
  obtain ⟨u, c, hu, hcase⟩ := judgeRecord_not_passed h
  have hkept : tfind (u.passOn p v false outINVALID c).motion.entries k = some { e with state := 2 } := by
    rw [passOn_failed hv]
    exact applyVerdict_confirms (hu.armedOnce ha) (by rintro ⟨h, -⟩; exact absurd h (by decide))
  rcases hcase with hc | hc
  · rw [hc, hkept]
  · rw [hc, burst_keeps hkept (by simp)]

/-- A passing record whose contributions have come is applied, combined with them. -/
theorem passing_applied (h : s.passes p v) (hv : v.seam = none) (hl : s.contribsFor v = some l) : ∃ u a b, s.Judged u p v.record ∧
    s.judgeRecord p v = u.applyVerdict p (recField v.record 4 4) (combined a b l).1 (combined a b l).2 (some v) ∧
    (s.roadFree p v.record → a = recField v.record 2 1) ∧ (¬ s.roadFree p v.record → a = outINVALID) := by
  obtain ⟨u, a, b, hu, e, -, -, -, hfree, hclosed⟩ := judgeRecord_passes h
  refine ⟨u, a, b, hu, ?_, fun hr => (hfree hr).1, hclosed⟩
  have hsafe : u.isSafe = false := hu.isSafe.trans h.1
  rw [e, passOn_passed hv, giveVerdict_applies (hu.contribsFor.trans hl), hsafe]
  rfl

theorem combined_good (h : ∀ z ∈ l, z.verdict = outGOOD) : combined outGOOD b l = (outGOOD, 0) := by
  have hinvalid : l.find? (fun z => z.verdict == outINVALID) = none :=
    List.find?_eq_none.mpr fun z hz => by rw [h z hz]; decide
  have hbad : l.any (fun z => z.verdict == outBAD) = false := List.any_eq_false.mpr fun z hz => by rw [h z hz]; decide
  unfold combined
  rw [hinvalid, if_neg (by decide)]
  dsimp only
  rw [hbad, if_neg Bool.false_ne_true]

/-- A verdict other than GOOD, or a contribution that is BAD or INVALID, gives none that is GOOD. -/
theorem combined_not_good (h : a ≠ outGOOD ∨ ∃ z ∈ l, z.verdict = outBAD ∨ z.verdict = outINVALID) : (combined a b l).1 ≠ outGOOD := by
  unfold combined
  by_cases ha : a = outGOOD
  · rw [if_neg (by simp [ha])]
    obtain ⟨z, hz, hout⟩ := h.resolve_left (absurd ha)
    cases hfind : l.find? (fun z => z.verdict == outINVALID) with
    | some y => exact show outINVALID ≠ outGOOD by decide
    | none =>
      have hbad : z.verdict = outBAD := hout.resolve_right fun hi => List.find?_eq_none.mp hfind z hz (by simp [hi])
      dsimp only
      rw [if_pos (List.any_eq_true.mpr ⟨z, hz, by simp [hbad]⟩)]
      exact show outBAD ≠ outGOOD by decide
  · rw [if_pos (by simpa using ha)]
    exact ha

/-- A record that fails, or passes with its contributions come, is applied. -/
theorem record_applied (hv : v.seam = none) (h : (∃ n, s.failsAt p v n) ∨ s.passes p v ∧ ∃ l, s.contribsFor v = some l) :
    ∃ u a b, s.Judged u p v.record ∧ (s.judgeRecord p v = u.applyVerdict p (recField v.record 4 4) a b (some v) ∨
      s.judgeRecord p v = (u.applyVerdict p (recField v.record 4 4) a b (some v)).burst p) := by
  rcases h with ⟨n, hn⟩ | ⟨hp, l, hl⟩
  · obtain ⟨u, c, hu, e, -⟩ := judgeRecord_fails hn
    exact ⟨u, _, c, hu, .inr (by rw [e, passOn_failed hv])⟩
  · obtain ⟨u, a, b, hu, e, -⟩ := passing_applied hp hv hl
    exact ⟨u, _, _, hu, .inl e⟩

/-! ### The answers -/

section Answers

variable {p : Part} {n k x : Nat}

section Powered

variable (hp : s.powered = true)
include hp

theorem exec_record_counts : ∃ t, exec (.verdictRecord p v) s = .next t ∧
    t.sawRecord p v.record ∧ (s.passes p v → t.get (F.SAFE_JUDGE_PASS_count p) = min (s.get (F.SAFE_JUDGE_PASS_count p) + 1) (2 ^ 32 - 1) ∧
      t.get (F.SAFE_JUDGE_FAIL_count p) = s.get (F.SAFE_JUDGE_FAIL_count p)) ∧
    (∀ n, s.failsAt p v n → t.get (F.SAFE_JUDGE_FAIL_count p) = min (s.get (F.SAFE_JUDGE_FAIL_count p) + 1) 65535 ∧
      t.get (F.SAFE_JUDGE_FAIL_check p) = n ∧ t.get (F.SAFE_JUDGE_PASS_count p) = s.get (F.SAFE_JUDGE_PASS_count p)) ∧
    (¬ s.passes p v → (∀ n, ¬ s.failsAt p v n) → t.get (F.SAFE_JUDGE_PASS_count p) = s.get (F.SAFE_JUDGE_PASS_count p) ∧
      t.get (F.SAFE_JUDGE_FAIL_count p) = s.get (F.SAFE_JUDGE_FAIL_count p)) := by
  rw [exec_verdictRecord]
  refine run_answers_of_effect hp rfl fun t ht => ?_
  have hpass : t.get (F.SAFE_JUDGE_PASS_count p) = (s.judgeRecord p v).get (F.SAFE_JUDGE_PASS_count p) := ht.get_driven (by simp; decide)
  have hfail : t.get (F.SAFE_JUDGE_FAIL_count p) = (s.judgeRecord p v).get (F.SAFE_JUDGE_FAIL_count p) := ht.get_driven (by simp; decide)
  have hcheck : t.get (F.SAFE_JUDGE_FAIL_check p) = (s.judgeRecord p v).get (F.SAFE_JUDGE_FAIL_check p) := ht.get_driven (by simp; decide)
  rw [hpass, hfail, hcheck]
  exact ⟨sawRecord_of (ht.get_driven (by simp; decide)) (by rw [ht.safe_driven]) judgeRecord_saw, passes_counts, fun n => failsAt_counts,
    unjudged_counts⟩

theorem exec_record_confirms (h : ¬ s.passes p v) (hv : v.seam = none) (ha : s.armedOnce p (recField v.record 4 4) k z e) :
    ∃ t, exec (.verdictRecord p v) s = .next t ∧ tfind t.motion.entries k = some { e with state := 2 } := by
  rw [exec_verdictRecord]
  refine run_answers_of_effect hp rfl fun t ht => ?_
  rw [ht.motion_driven, not_passed_confirms h hv ha]

/-- A failing record confirms the ejection and is counted with its check. -/
theorem exec_record_fails (h : s.failsAt p v n) (hv : v.seam = none) (ha : s.armedOnce p (recField v.record 4 4) k z e) :
    ∃ t, exec (.verdictRecord p v) s = .next t ∧ tfind t.motion.entries k = some { e with state := 2 } ∧ t.sawRecord p v.record ∧
    t.get (F.SAFE_JUDGE_FAIL_count p) = min (s.get (F.SAFE_JUDGE_FAIL_count p) + 1) 65535 ∧
    t.get (F.SAFE_JUDGE_FAIL_check p) = n ∧ t.get (F.SAFE_JUDGE_PASS_count p) = s.get (F.SAFE_JUDGE_PASS_count p) := by
  obtain ⟨t, ht, hsaw, -, hcounts, -⟩ := exec_record_counts (p := p) (v := v) hp
  obtain ⟨t', ht', hentry⟩ := exec_record_confirms hp (failsAt_not_passes h) hv ha
  obtain rfl : t = t' := Host.Outcome.next.inj (ht.symm.trans ht')
  exact ⟨t, ht, hentry, hsaw, hcounts n h⟩

/-- A record that is not judged confirms the ejection and counts in neither. -/
theorem exec_record_unjudged (h : ¬ s.passes p v) (hf : ∀ n, ¬ s.failsAt p v n) (hv : v.seam = none)
    (ha : s.armedOnce p (recField v.record 4 4) k z e) : ∃ t, exec (.verdictRecord p v) s = .next t ∧
    tfind t.motion.entries k = some { e with state := 2 } ∧ t.sawRecord p v.record ∧
    t.get (F.SAFE_JUDGE_PASS_count p) = s.get (F.SAFE_JUDGE_PASS_count p) ∧ t.get (F.SAFE_JUDGE_FAIL_count p) = s.get (F.SAFE_JUDGE_FAIL_count p) := by
  obtain ⟨t, ht, hsaw, -, -, hcounts⟩ := exec_record_counts (p := p) (v := v) hp
  obtain ⟨t', ht', hentry⟩ := exec_record_confirms hp h hv ha
  obtain rfl : t = t' := Host.Outcome.next.inj (ht.symm.trans ht')
  exact ⟨t, ht, hentry, hsaw, hcounts h hf⟩

theorem exec_record_safe (hsafe : s.isSafe = true) (hv : v.seam = none) (ha : s.armedOnce p (recField v.record 4 4) k z e) :
    ∃ t, exec (.verdictRecord p v) s = .next t ∧ tfind t.motion.entries k = some { e with state := 2 } ∧ t.sawRecord p v.record ∧
    t.get (F.SAFE_JUDGE_PASS_count p) = s.get (F.SAFE_JUDGE_PASS_count p) ∧
    t.get (F.SAFE_JUDGE_FAIL_count p) = s.get (F.SAFE_JUDGE_FAIL_count p) ∧ t.get F.SAFE_STATUS_state = safeSAFE := by
  have hnot : ¬ s.isSafe = false := by simp [hsafe]
  obtain ⟨t, ht, hentry, hsaw, hpass, hfail⟩ := exec_record_unjudged hp (fun h => hnot h.1) (fun n h => hnot h.1) hv ha
  have hstate : ∃ t, exec (.verdictRecord p v) s = .next t ∧ t.get F.SAFE_STATUS_state = safeSAFE := by
    rw [exec_verdictRecord]
    refine run_answers_of_effect hp (judgeRecord_safe hsafe) fun t ht => ?_
    rw [ht.get_driven (by decide), get_passOn (by decide), get_recordSeen (by decide), isSafe_true hsafe]
  obtain ⟨t', ht', hs⟩ := hstate
  obtain rfl : t = t' := Host.Outcome.next.inj (ht.symm.trans ht')
  exact ⟨t, ht, hentry, hsaw, hpass, hfail, hs⟩

theorem exec_record_lost {c : Nat} (hv : v.seam = none) (ha : s.armedOnce p (recField v.record 4 4) k z e)
    (hrec : checkRecord p v.record = none) (hlost : s.lostIn v.record = some c) :
    ∃ t, exec (.verdictRecord p v) s = .next t ∧ tfind t.motion.entries k = some { e with state := 2 } ∧ t.sawRecord p v.record ∧
    t.get (F.SAFE_JUDGE_FAIL_count p) = s.get (F.SAFE_JUDGE_FAIL_count p) ∧
    t.get (F.SAFE_JUDGE_PASS_count p) = s.get (F.SAFE_JUDGE_PASS_count p) := by
  have hpasses : ¬ s.passes p v := fun h => absurd (hlost.symm.trans h.2.2.1) (by simp)
  have hfails : ∀ n, ¬ s.failsAt p v n := by
    rintro n ⟨-, ⟨h, -⟩ | ⟨-, h, -⟩⟩
    · exact h hrec
    · exact absurd (hlost.symm.trans h) (by simp)
  obtain ⟨t, ht, hentry, hsaw, hpass, hfail⟩ := exec_record_unjudged hp hpasses hfails hv ha
  exact ⟨t, ht, hentry, hsaw, hfail, hpass⟩

/-- A failure beyond the burst limit brings the safe state. -/
theorem exec_record_bursts {g : CheckSet} (h : s.failsAt p v n) (hg : s.checkSet p = some g) (hb : g.burst ≤ s.failsNow p) :
    ∃ t, exec (.verdictRecord p v) s = .next t ∧ t.safeWith Code.JUDGE_BURST := by
  obtain ⟨u, c, hu, e, -⟩ := judgeRecord_fails h
  have hframe := State.passOn_frame (Within.refl _) (.refl _ u) (p := p) (v := v) (passed := false) (verdict := outINVALID) (cause := c)
  have hsafe : (u.passOn p v false outINVALID c).isSafe = false :=
    (isSafe_of_state (get_passOn (by decide))).trans (hu.isSafe.trans h.1)
  have hset : (u.passOn p v false outINVALID c).checkSet p = some g := by
    rw [← hg, State.checkSet, State.isSafetyPart, State.part, hframe.cfg rfl, hu.frame.cfg rfl, State.checkSet, State.isSafetyPart, State.part]
  have hnow : (u.passOn p v false outINVALID c).failsNow p = s.failsNow p := by
    rw [State.failsNow, passOn_safe, hu.fails, hframe.clk rfl, hu.frame.clk rfl, State.failsNow]
  obtain ⟨hstate, hcause⟩ := burst_enters hsafe hset (hnow ▸ hb)
  rw [exec_verdictRecord]
  exact run_answers_of_effect hp e fun t ht => safeWith_of ht hstate hcause

theorem exec_record_frees (h : s.passes p v) (hv : v.seam = none) (ha : s.armedOnce p (recField v.record 4 4) k z e)
    (hl : s.contribsFor v = some l) (hroad : s.roadFree p v.record) (hgood : recField v.record 2 1 = outGOOD)
    (hall : ∀ z ∈ l, z.verdict = outGOOD) (hd : e.doubt = 0) : ∃ t, exec (.verdictRecord p v) s = .next t ∧
    tfind t.motion.entries k = none ∧ t.get (F.MOT_CH_CANCELLED_count z.chan) =
      min (s.get (F.MOT_CH_CANCELLED_count z.chan) + 1) (2 ^ 32 - 1) := by
  obtain ⟨u, a, b, hu, eff, hfree, -⟩ := passing_applied h hv hl
  rw [hfree hroad, hgood, combined_good hall] at eff
  obtain ⟨hentry, hcount⟩ := applyVerdict_frees (c := 0) (v := some v) (hu.armedOnce ha) hd
  rw [exec_verdictRecord]
  refine run_answers_of_effect hp eff fun t ht => ⟨?_, ?_⟩
  · rw [ht.motion_driven, hentry]
  · rw [ht.get_driven (by simp; decide), hcount, hu.frame.get _ (by simp; decide)]

theorem exec_record_doubted (h : s.passes p v) (hv : v.seam = none) (ha : s.armedOnce p (recField v.record 4 4) k z e)
    (hl : s.contribsFor v = some l) (hbad : ¬ s.roadFree p v.record ∨ recField v.record 2 1 = outBAD ∨
      recField v.record 2 1 = outINVALID ∨ recField v.record 2 1 = outGOOD ∧
        (e.doubt ≠ 0 ∨ ∃ z ∈ l, z.verdict = outBAD ∨ z.verdict = outINVALID)) :
    ∃ t, exec (.verdictRecord p v) s = .next t ∧ tfind t.motion.entries k = some { e with state := 2 } := by
  obtain ⟨u, a, b, hu, eff, hfree, hclosed⟩ := passing_applied h hv hl
  have hnot : ¬ ((combined a b l).1 = outGOOD ∧ e.doubt = 0) := by
    rintro ⟨hgood, hd⟩
    refine absurd hgood (combined_not_good ?_)
    by_cases hroad : s.roadFree p v.record
    · rw [hfree hroad]
      rcases hbad with h | h | h | ⟨-, h | h⟩
      · exact absurd hroad h
      · exact .inl (by rw [h]; decide)
      · exact .inl (by rw [h]; decide)
      · exact absurd hd h
      · exact .inr h
    · exact .inl (by rw [hclosed hroad]; decide)
  rw [exec_verdictRecord]
  refine run_answers_of_effect hp eff fun t ht => ?_
  rw [ht.motion_driven, applyVerdict_confirms (hu.armedOnce ha) hnot]

omit hp in
theorem giveVerdict_waits {h : HeldVerdict} (hl : u.contribsFor h.v = none) : u.giveVerdict h.part h.v h.verdict h.cause =
    { u with peer := { u.peer with held := u.peer.held ++ [h] } } := by
  unfold State.giveVerdict
  rw [hl]

/-- A passing record whose contributions have not all come waits. -/
theorem exec_record_waits (hv : v.seam = none) (h : s.passes p v) (hl : s.contribsFor v = none) (hroad : s.roadFree p v.record) :
    ∃ t, exec (.verdictRecord p v) s = .next t ∧ t.motion = s.motion ∧ t.host.subjects = s.host.subjects ∧
    t.peer.held = s.peer.held ++ [⟨p, v, recField v.record 2 1,
      if recField v.record 2 1 = outINVALID then recField v.record 20 2 else 0⟩] := by
  obtain ⟨u, a, b, hu, e, -, -, -, hfree, -⟩ := judgeRecord_passes h
  obtain ⟨rfl, rfl⟩ := hfree hroad
  have hwait := giveVerdict_waits (u := u) (h := ⟨p, v, recField v.record 2 1,
    if recField v.record 2 1 = outINVALID then recField v.record 20 2 else 0⟩) (hu.contribsFor.trans hl)
  rw [exec_verdictRecord]
  refine run_answers_of_effect hp (e.trans ((passOn_passed hv).trans hwait)) fun t ht => ⟨?_, ?_, ?_⟩
  · rw [ht.motion_driven]
    exact hu.motion
  · rw [ht.host_driven, hu.host]
  · rw [ht.peer_driven, hu.peer]

/-- A record for a part whose entry is due comes LATE. -/
theorem exec_record_late (hv : v.seam = none) (harm : s.oneArm p (recField v.record 4 4) z) (hk : z.key = some k)
    (he : tfind s.motion.entries k = some e) (hstate : e.state = 1) (htag : e.tag = z.tag) (hpart : e.part = z.part)
    (hdue : (k, e) ∈ s.due (k / 4096)) (h : (∃ n, s.failsAt p v n) ∨ s.passes p v ∧ ∃ l, s.contribsFor v = some l) :
    ∃ t, exec (.verdictRecord p v) s = .next t ∧
    t.get (F.MOT_CH_LATE_count z.chan) = min (s.get (F.MOT_CH_LATE_count z.chan) + 1) 65535 ∧
    t.openSubjects p (recField v.record 4 4) = [] := by
  obtain ⟨u, a, b, hu, hcase⟩ := record_applied hv h
  obtain ⟨hcount, hopen⟩ := applyVerdict_late_shows (o := a) (c := b) (v := some v) (hu.oneArm harm) hk (by rw [hu.motion, he]) hstate
    htag hpart (by rwa [hu.due])
  rw [hu.frame.get _ (by simp; decide)] at hcount
  rw [exec_verdictRecord]
  rcases hcase with eff | eff
  · refine run_answers_of_effect hp eff fun t ht => ⟨?_, ?_⟩
    · rw [ht.get_driven (by simp; decide), hcount]
    · exact (openSubjects_of_subjects (by rw [ht.host_driven])).trans hopen
  · refine run_answers_of_effect hp eff fun t ht => ⟨?_, ?_⟩
    · rw [ht.get_driven (by simp; decide), get_burst (by simp; decide), hcount]
    · exact (openSubjects_of_subjects (by rw [ht.host_driven, burst_host])).trans hopen

theorem exec_record_keyless (hv : v.seam = none) (harm : s.oneArm p (recField v.record 4 4) z) (hk : z.key = none)
    (hf : z.firedPeriod = none) (h : (∃ n, s.failsAt p v n) ∨ s.passes p v ∧ ∃ l, s.contribsFor v = some l) :
    ∃ t, exec (.verdictRecord p v) s = .next t ∧ t.openSubjects p (recField v.record 4 4) = [] := by
  obtain ⟨u, a, b, hu, hcase⟩ := record_applied hv h
  have hopen := applyVerdict_keyless (o := a) (c := b) (v := some v) hk hf (hu.oneArm harm)
  rw [exec_verdictRecord]
  rcases hcase with eff | eff
  · refine run_answers_of_effect hp eff fun t ht => ?_
    exact (openSubjects_of_subjects (by rw [ht.host_driven])).trans hopen
  · refine run_answers_of_effect hp eff fun t ht => ?_
    exact (openSubjects_of_subjects (by rw [ht.host_driven, burst_host])).trans hopen

end Powered

/-! ### A record for a seam -/

theorem sendContrib_counts {q : Nat} {key : Int} {d : BitVec 256} (h : s.sideUp (q / 2) = true) :
    (s.sendContrib q n key a b d).get (F.PEER_CONTRIB_sent (q / 2)) = min (s.get (F.PEER_CONTRIB_sent (q / 2)) + 1) (2 ^ 32 - 1) := by
  unfold State.sendContrib
  dsimp only
  rw [if_pos h, (State.peerSend_frame (Within.refl _) (.refl _ _)).get _ (by simp; decide), get_inc (by simp [F.PEER_CONTRIB_sent])]
  rfl

theorem sendContrib_motion {q : Nat} {key : Int} {d : BitVec 256} : (s.sendContrib q n key a b d).motion = s.motion :=
  (State.sendContrib_frame (Within.refl _) (.refl _ s)).motion rfl

theorem sendContrib_host {q : Nat} {key : Int} {d : BitVec 256} : (s.sendContrib q n key a b d).host = s.host :=
  (State.sendContrib_frame (Within.refl _) (.refl _ s)).host rfl

theorem exec_record_seam {q : Nat} (hp : s.powered = true) (hv : v.seam = some q) : ∃ t, exec (.verdictRecord p v) s = .next t ∧
    t.host.subjects = s.host.subjects ∧ (s.passes p v → t.motion = s.motion) ∧
    (s.passes p v → s.sideUp (q / 2) = true → t.get (F.PEER_CONTRIB_sent (q / 2)) =
      min (s.get (F.PEER_CONTRIB_sent (q / 2)) + 1) (2 ^ 32 - 1)) ∧ (¬ s.passes p v → t.peer = s.peer) := by
  rw [exec_verdictRecord]
  by_cases h : s.passes p v
  · obtain ⟨u, a, b, hu, e, -, -, hpeer, -⟩ := judgeRecord_passes h
    obtain ⟨d, hd⟩ := passOn_seam_passed (u := u) (p := p) (o := a) (c := b) hv
    refine run_answers_of_effect hp (e.trans hd) fun t ht => ⟨?_, fun _ => ?_, fun _ hup => ?_, fun hn => absurd h hn⟩
    · rw [ht.host_driven, sendContrib_host, hu.host]
    · rw [ht.motion_driven, sendContrib_motion, hu.motion]
    · rw [ht.get_driven (by simp; decide), sendContrib_counts ((sideUp_of_get (hpeer _).2).trans hup), (hpeer _).1]
  · obtain ⟨u, c, hu, hcase⟩ := judgeRecord_not_passed h
    rw [passOn_seam_failed hv] at hcase
    have hkept : (s.judgeRecord p v).host = u.host ∧ (s.judgeRecord p v).peer = u.peer := by
      rcases hcase with e | e
      · exact ⟨by rw [e], by rw [e]⟩
      · exact ⟨by rw [e, burst_host], by rw [e, burst_peer]⟩
    refine run_answers_of_effect hp rfl fun t ht => ⟨?_, fun hy => absurd hy h, fun hy => absurd hy h, fun _ => ?_⟩
    · rw [ht.host_driven, hkept.1, hu.host]
    · rw [ht.peer_driven, hkept.2, hu.peer]

end Answers

end Records

/-- Settles O41, by the three ways of a record: it passes, fails a check, or is not judged. -/
theorem judgements : Obligations.Judgements :=
  ⟨fun _ _ _ hp => exec_record_counts hp,
   fun _ _ _ _ _ _ hp hsafe hv ha => exec_record_safe hp hsafe hv ha,
   fun _ _ _ _ _ _ _ hp hsafe hv ha hrec => exec_record_fails hp ⟨hsafe, .inl ⟨by simp [hrec], rfl⟩⟩ hv ha,
   fun _ _ _ _ _ _ _ hp _ hv ha hrec hlost => exec_record_lost hp hv ha hrec hlost,
   fun _ _ _ _ _ _ _ x hp hsafe hv ha hrec hlost hx => exec_record_fails hp ⟨hsafe, .inr ⟨hrec, hlost, x, hx⟩⟩ hv ha,
   fun _ _ _ _ x _ hp hsafe hrec hlost hx hg hb => exec_record_bursts hp ⟨hsafe, .inr ⟨hrec, hlost, x, hx⟩⟩ hg hb,
   fun _ _ _ _ _ _ _ hp hv ha h hl hroad hgood hall hd => exec_record_frees hp h hv ha hl hroad hgood hall hd,
   fun _ _ _ _ _ _ _ hp hv ha h hl hbad => exec_record_doubted hp h hv ha hl hbad,
   fun _ _ _ hp hv h hl hroad => exec_record_waits hp hv h hl hroad,
   fun _ _ _ _ _ _ hp hv harm hk he hstate htag hpart hdue h => exec_record_late hp hv harm hk he hstate htag hpart hdue h,
   fun _ _ _ _ hp hv harm hk hf h => exec_record_keyless hp hv harm hk hf h,
   fun _ _ _ _ hp hv => exec_record_seam hp hv⟩

end Sys2Proof.Machine
end

section
/-! PROOFS. The scrubber: the lap, a line of SRAM, a line of HBM, and the write-back (R392 to R396). -/

namespace Sys2Proof.Machine

open Sys2Proof

section Scrubbing

variable {s t u : State} {k l a n : Nat} {b : BadLine} {bs : List Byte}

/-! ### The lap -/

theorem kindLines_of_variant (h : t.variant = s.variant) : t.kindLines k = s.kindLines k := by
  unfold State.kindLines State.clusters State.coreCount State.hbmPages
  rw [h]

/-- A lap step is the lap's start beside registers of its own. -/
theorem lapStep_shape : ∃ (w : State) (x : List (Nat × Bool)), s.lapStep k l = { w with integ := { w.integ with lapStart := x } } ∧
    w.integ = s.integ ∧ (l + 1 = s.kindLines k →
      w.get (F.INTEG_SCRUB_LAPS_count k) = min (s.get (F.INTEG_SCRUB_LAPS_count k) + 1) (2 ^ 32 - 1)) := by
  unfold State.lapStep
  split
  rename_i start noted hstart
  extract_lets _ slow s1 ends s2 x
  have h1 : s1.integ = s.integ ∧ s1.variant = s.variant ∧ s1.get (F.INTEG_SCRUB_LAPS_count k) = s.get (F.INTEG_SCRUB_LAPS_count k) := by
    unfold s1
    split
    · exact ⟨raise_integ, raise_variant, get_raise (by simp; decide)⟩
    · exact ⟨rfl, rfl, rfl⟩
  obtain ⟨hinteg, hvariant, hcount⟩ := h1
  have h2 : s2.integ = s.integ := by
    unfold s2
    split
    · rw [State.inc_def, set_integ, set_integ, hinteg]
    · exact hinteg
  refine ⟨s2, s2.integ.lapStart.set k x, rfl, h2, fun hlast => ?_⟩
  have hends : ends := by
    show s1.kindLines k ≤ l + 1
    rw [kindLines_of_variant hvariant, hlast]
  unfold s2
  rw [if_pos hends, get_inc (by simp [F.INTEG_SCRUB_LAPS_count]), State.get_set_kind (by simp), hcount]
  rfl

theorem get_lapStep {f : Field} (h : State.lapStep_mask.testBit (regKind f.key) = false) : (s.lapStep k l).get f = s.get f :=
  (State.lapStep_frame (Within.refl _) (.refl _ s)).get f h

theorem lapStep_mem : (s.lapStep k l).mem = s.mem := (State.lapStep_frame (Within.refl _) (.refl _ s)).mem rfl

/-- A lap step keeps what the integrity unit holds of lines. -/
theorem lapStep_lines : (s.lapStep k l).integ.bad = s.integ.bad ∧ (s.lapStep k l).integ.writeBack = s.integ.writeBack ∧
    (s.lapStep k l).integ.poison = s.integ.poison := by
  obtain ⟨w, x, h, hw, -⟩ := lapStep_shape (s := s) (k := k) (l := l)
  rw [h]
  dsimp only
  rw [hw]
  exact ⟨rfl, rfl, rfl⟩

theorem lapStep_bad : (s.lapStep k l).integ.bad = s.integ.bad := lapStep_lines.1
theorem lapStep_writeBack : (s.lapStep k l).integ.writeBack = s.integ.writeBack := lapStep_lines.2.1
theorem lapStep_poison : (s.lapStep k l).integ.poison = s.integ.poison := lapStep_lines.2.2

/-- The last line of a kind counts its lap. -/
theorem lapStep_counts (h : l + 1 = s.kindLines k) : (s.lapStep k l).get (F.INTEG_SCRUB_LAPS_count k) =
    min (s.get (F.INTEG_SCRUB_LAPS_count k) + 1) (2 ^ 32 - 1) := by
  obtain ⟨w, x, e, -, hcount⟩ := lapStep_shape (s := s) (k := k) (l := l)
  rw [e]
  exact hcount h

/-! ### Where a line stands -/

/-- A line that the scrubber reads belongs to its own kind. -/
theorem memKind_lineAddr (hk : k < 3) (h : l < s.kindLines k) : memKind (lineAddr k l) = k := by
  have hcores : s.coreCount ≤ 40 := by
    unfold State.coreCount
    split
    · decide
    · exact le_rfl
  have hclusters : s.clusters ≤ 8 := Nat.div_le_div_right hcores
  unfold State.kindLines at h
  unfold memKind lineAddr
  interval_cases k
  · rw [if_pos (show 0 = memCORE from rfl)] at h ⊢
    rw [if_pos (by simp only [stripeBase]; omega)]
    rfl
  · rw [if_neg (show 1 ≠ memCORE by decide), if_pos (show 1 = memSTRIPE from rfl)] at h ⊢
    rw [if_neg (by simp only [stripeBase]; omega), if_pos (by simp only [stripeBase, lineStoreBase]; omega)]
    rfl
  · rw [if_neg (show 2 ≠ memCORE by decide), if_neg (show 2 ≠ memSTRIPE by decide), if_pos (show 2 = memLINES from rfl)] at h ⊢
    rw [if_neg (by simp only [stripeBase, lineStoreBase]; omega), if_neg (by omega), if_pos (by simp only [lineStoreBase, hbmBase]; omega)]
    rfl

/-! ### A damaged line of SRAM -/

theorem putBytes_frame_mem {A : Nat} (hA : A.testBit 22 = true) : Frame A s (s.putBytes a bs) := State.putBytes_frame hA (.refl _ s)

theorem get_capture {f : Field} (h : State.capture_mask.testBit (regKind f.key) = false) : (s.capture a b).get f = s.get f :=
  (State.capture_frame (Within.refl _) (.refl _ s)).get f h

theorem capture_cores : (s.capture a b).cores = s.cores := (State.capture_frame (Within.refl _) (.refl _ s)).cores rfl

/-- The state in which a corrected or uncorrectable line is held against its unit. -/
def State.lineNoted (s : State) (a : Nat) (b : BadLine) (f : Nat → Field) (code : Nat) : State :=
  ((s.capture a b).inc (f (memKind a))).raise code [memKind a, memUnit a, memLine a]

theorem lineNoted_cores {f : Nat → Field} {c : Nat} : (s.lineNoted a b f c).cores = s.cores := by
  rw [State.lineNoted, raise_cores, State.inc_def, set_cores, capture_cores]

theorem lineNoted_mem {f : Nat → Field} {c : Nat} : (s.lineNoted a b f c).mem = s.mem := by
  rw [State.lineNoted, raise_mem, State.inc_def, set_mem, (State.capture_frame (Within.refl _) (.refl _ s)).mem rfl]

theorem lineNoted_corr : (s.lineNoted a b F.INTEG_ERR_CORR_count n).get (F.INTEG_ERR_CORR_count (memKind a)) =
    min (s.get (F.INTEG_ERR_CORR_count (memKind a)) + 1) (2 ^ 32 - 1) := by
  rw [State.lineNoted, get_raise (by simp; decide), get_inc (by simp [F.INTEG_ERR_CORR_count]), get_capture (by simp; decide)]
  rfl

theorem lineNoted_uncorr : (s.lineNoted a b F.INTEG_ERR_UNCORR_count n).get (F.INTEG_ERR_UNCORR_count (memKind a)) =
    min (s.get (F.INTEG_ERR_UNCORR_count (memKind a)) + 1) (2 ^ 32 - 1) := by
  rw [State.lineNoted, get_raise (by simp; decide), get_inc (by simp [F.INTEG_ERR_UNCORR_count]), get_capture (by simp; decide)]
  rfl

theorem recent_nil {now span : Nat} : recent [] now span = [now] := rfl

/-- A first correctable error of a core fails nothing. -/
theorem coreCorrected_first (h : tget [] s.cores.corr n = []) : ∃ x : CoreMapSt, s.coreCorrected n =
    ({ s with cores := x }).inc (F.CORE_SRAM_ERR_corrected n) := by
  unfold State.coreCorrected
  rw [h, recent_nil]
  dsimp only
  rw [if_neg (by simp)]
  exact ⟨_, rfl⟩

theorem coreUncorrected_first (h : tget [] s.cores.uncorr n = []) : ∃ x : CoreMapSt, s.coreUncorrected n =
    ({ s with cores := x }).inc (F.CORE_SRAM_ERR_uncorrectable n) := by
  unfold State.coreUncorrected
  rw [h, recent_nil]
  dsimp only
  rw [if_neg (by simp)]
  exact ⟨_, rfl⟩

/-- A first corrected line is counted; memory stays. -/
theorem noteCorrected_first (h : s.noErrors a) : (s.noteCorrected a b).mem = s.mem ∧
    (s.noteCorrected a b).get (F.INTEG_ERR_CORR_count (memKind a)) = min (s.get (F.INTEG_ERR_CORR_count (memKind a)) + 1) (2 ^ 32 - 1) := by
  have hnote : s.noteCorrected a b = if memKind a = memCORE then
      (s.lineNoted a b F.INTEG_ERR_CORR_count Code.SRAM_CORRECTED).coreCorrected (memUnit a)
    else s.lineNoted a b F.INTEG_ERR_CORR_count Code.SRAM_CORRECTED := rfl
  rw [hnote]
  split
  · obtain ⟨x, e⟩ := coreCorrected_first (s := s.lineNoted a b F.INTEG_ERR_CORR_count Code.SRAM_CORRECTED) (by rw [lineNoted_cores]; exact h.1)
    rw [e, State.inc_def, set_mem, State.get_set_kind (by simp)]
    exact ⟨lineNoted_mem, lineNoted_corr⟩
  · exact ⟨lineNoted_mem, lineNoted_corr⟩

theorem noteCorrected_integ : (s.noteCorrected a b).integ = s.integ := (State.noteCorrected_frame (Within.refl _) (.refl _ s)).integ rfl

theorem get_noteCorrected {f : Field} (h : State.noteCorrected_mask.testBit (regKind f.key) = false) :
    (s.noteCorrected a b).get f = s.get f := (State.noteCorrected_frame (Within.refl _) (.refl _ s)).get f h

/-- A first uncorrectable line is counted. -/
theorem noteUncorrected_first (h : s.noErrors a) : (s.noteUncorrected a b).get (F.INTEG_ERR_UNCORR_count (memKind a)) =
    min (s.get (F.INTEG_ERR_UNCORR_count (memKind a)) + 1) (2 ^ 32 - 1) := by
  unfold State.noteUncorrected
  extract_lets kind unit s1 s2 key l s3
  have hcores : s2.cores = s.cores := lineNoted_cores (f := F.INTEG_ERR_UNCORR_count) (c := Code.SRAM_UNCORRECTABLE)
  have hcount : s2.get (F.INTEG_ERR_UNCORR_count kind) = min (s.get (F.INTEG_ERR_UNCORR_count kind) + 1) (2 ^ 32 - 1) :=
    lineNoted_uncorr (n := Code.SRAM_UNCORRECTABLE)
  obtain ⟨-, huncorr, hstripe, hline⟩ := h
  by_cases hkind : kind = memCORE
  · obtain ⟨x, e⟩ := coreUncorrected_first (s := s2) (n := unit) (by rw [hcores]; exact huncorr)
    rw [if_pos hkind, e, State.inc_def, State.get_set_kind (by simp)]
    exact hcount
  · have hfresh : l.length = 1 := by
      have hold : tget [] s2.cores.banks key = [] := by
        rw [hcores]
        unfold key
        split
        · exact hstripe
        · exact hline
      unfold l
      rw [hold, recent_nil]
      rfl
    rw [if_neg hkind, if_pos (by omega)]
    exact hcount

theorem noteUncorrected_integ : (s.noteUncorrected a b).integ = s.integ :=
  (State.noteUncorrected_frame (Within.refl _) (.refl _ s)).integ rfl

theorem get_noteUncorrected {f : Field} (h : State.noteUncorrected_mask.testBit (regKind f.key) = false) :
    (s.noteUncorrected a b).get f = s.get f := (State.noteUncorrected_frame (Within.refl _) (.refl _ s)).get f h

end Scrubbing

end Sys2Proof.Machine
end

section
/-! PROOFS. What SCRUB_READ and SCRUB_WRITE_BACK do to the lines they meet (R392 to R396). -/

namespace Sys2Proof.Machine

open Sys2Proof

section Lines

variable {s t : State} {a l how : Nat} {b : BadLine} {bs : List Byte} {f : Option BadLine}

/-! ### A line of SRAM -/

/-- A line without error stays. -/
theorem scrubSram_clean (h : s.errorAt a f = none) : s.scrubSram a f = s := by
  unfold State.scrubSram
  cases f with
  | some b => exact absurd h (by simp [State.errorAt])
  | none =>
    have hbad : tfind s.integ.bad (a / 64) = none := h
    dsimp only
    rw [hbad]

/-- The error of line `l` is known. -/
def State.lineBad (s : State) (l : Nat) (b : BadLine) : State := { s with integ := { s.integ with bad := tput s.integ.bad l b } }

/-- The corrected line `l` waits for its write-back. -/
def State.lineWaits (s : State) (l : Nat) : State :=
  { s with integ := { s.integ with writeBack := s.integ.writeBack.filter (fun x => x != l) ++ [l] } }

/-- A line with an error is mended, corrected, or left. -/
theorem scrubSram_error (h : s.errorAt a f = some b) : s.scrubSram a f =
    if sound a b then { s.putBytes a b.raw with integ := { s.integ with bad := tdel s.integ.bad (a / 64) } }
    else match corrected a b with
      | some bs => ((((s.lineBad (a / 64) b).putBytes a bs).noteCorrected a b)).lineWaits (a / 64)
      | none => ((s.lineBad (a / 64) b).putBytes a b.raw).noteUncorrected a b := by
  unfold State.scrubSram
  cases f with
  | some c =>
    obtain rfl : c = b := Option.some.inj h
    rfl
  | none =>
    have hbad : tfind s.integ.bad (a / 64) = some b := h
    dsimp only
    rw [hbad]
    rfl

theorem scrubSram_sound (h : s.errorAt a f = some b) (hs : sound a b = true) : (s.scrubSram a f).bytes a b.raw.length = b.raw ∧
    tfind (s.scrubSram a f).integ.bad (a / 64) = none ∧ ∀ k, (s.scrubSram a f).get (F.INTEG_ERR_CORR_count k) = s.get (F.INTEG_ERR_CORR_count k) := by
  rw [scrubSram_error h, if_pos hs]
  exact ⟨bytes_putBytes, tfind_tdel_self _ _, fun _ => rfl⟩

theorem scrubSram_corrected (h : s.errorAt a f = some b) (hs : sound a b = false) (hc : corrected a b = some bs) (he : s.noErrors a) :
    (s.scrubSram a f).bytes a bs.length = bs ∧ a / 64 ∈ (s.scrubSram a f).integ.writeBack ∧
    tfind (s.scrubSram a f).integ.bad (a / 64) = some b ∧
    (s.scrubSram a f).get (F.INTEG_ERR_CORR_count (memKind a)) = min (s.get (F.INTEG_ERR_CORR_count (memKind a)) + 1) (2 ^ 32 - 1) ∧
    (s.scrubSram a f).get (F.INTEG_ERR_UNCORR_count (memKind a)) = s.get (F.INTEG_ERR_UNCORR_count (memKind a)) := by
  obtain ⟨hmem, hcount⟩ := noteCorrected_first (s := (s.lineBad (a / 64) b).putBytes a bs) (b := b) he
  have hother := get_noteCorrected (s := (s.lineBad (a / 64) b).putBytes a bs) (a := a) (b := b)
    (f := F.INTEG_ERR_UNCORR_count (memKind a)) (by simp; decide)
  rw [scrubSram_error h, if_neg (by simp [hs]), hc]
  refine ⟨(bytes_of_mem hmem).trans bytes_putBytes, by simp [State.lineWaits], ?_, hcount, hother⟩
  dsimp only [State.lineWaits]
  rw [noteCorrected_integ]
  exact tfind_tput_self _ _ _

theorem scrubSram_uncorrectable (h : s.errorAt a f = some b) (hs : sound a b = false) (hc : corrected a b = none) (he : s.noErrors a) :
    tfind (s.scrubSram a f).integ.bad (a / 64) = some b ∧ (s.scrubSram a f).integ.writeBack = s.integ.writeBack ∧
    (s.scrubSram a f).get (F.INTEG_ERR_UNCORR_count (memKind a)) = min (s.get (F.INTEG_ERR_UNCORR_count (memKind a)) + 1) (2 ^ 32 - 1) ∧
    (s.scrubSram a f).get (F.INTEG_ERR_CORR_count (memKind a)) = s.get (F.INTEG_ERR_CORR_count (memKind a)) := by
  have hcount := noteUncorrected_first (s := (s.lineBad (a / 64) b).putBytes a b.raw) (b := b) he
  have hother := get_noteUncorrected (s := (s.lineBad (a / 64) b).putBytes a b.raw) (a := a) (b := b)
    (f := F.INTEG_ERR_CORR_count (memKind a)) (by simp; decide)
  rw [scrubSram_error h, if_neg (by simp [hs]), hc]
  dsimp only
  rw [noteUncorrected_integ]
  exact ⟨tfind_tput_self _ _ _, rfl, hcount, hother⟩

/-! ### A line of HBM -/

/-- The line was read again. -/
def State.reread (s : State) (l : Nat) : State :=
  (s.inc (F.INTEG_ERR_RETRY_refetches memHBM)).raise Code.HBM_LINE_REREAD [l / 1024, l % 1024]

theorem reread_integ : (s.reread l).integ = s.integ := by rw [State.reread, raise_integ, State.inc_def, set_integ]

theorem reread_counts : (s.reread l).get (F.INTEG_ERR_RETRY_refetches memHBM) =
    min (s.get (F.INTEG_ERR_RETRY_refetches memHBM) + 1) 65535 := by
  rw [State.reread, get_raise (by decide), get_inc (by decide)]
  rfl

theorem get_reread {g : Field} (h : State.raise_mask.testBit (regKind g.key) = false) (hk : regKind g.key ≠ 299) :
    (s.reread l).get g = s.get g := by
  rw [State.reread, get_raise h, State.inc_def, State.get_set_kind (by simpa using hk)]

theorem scrubHbm_poisoned (h : l ∈ s.integ.poison) : s.scrubHbm l how = s := by
  unfold State.scrubHbm
  dsimp only
  rw [if_pos (by simpa using h)]

/-- A line that is not poisoned. -/
theorem scrubHbm_fresh (h : l ∉ s.integ.poison) : s.scrubHbm l how = match how with
    | 0 => s
    | 1 => s.inc (F.INTEG_ERR_CORR_count memHBM)
    | 2 => s.reread l
    | 3 => (s.reread l).poisonLine l
    | _ => s.poisonLine l := by
  unfold State.scrubHbm
  dsimp only
  rw [if_neg (by simpa using h)]
  rfl

theorem scrubHbm_good : s.scrubHbm l 0 = s := by
  by_cases h : l ∈ s.integ.poison
  · exact scrubHbm_poisoned h
  · exact scrubHbm_fresh h

/-- A fresh poisoned line joins the list and is counted. -/
theorem poisonLine_fresh (h : l ∉ s.integ.poison) (hn : s.integ.poison.length < 4096) :
    (s.poisonLine l).integ.poison = s.integ.poison ++ [l] ∧
    (s.poisonLine l).get (F.INTEG_ERR_UNCORR_count memHBM) = min (s.get (F.INTEG_ERR_UNCORR_count memHBM) + 1) (2 ^ 32 - 1) ∧
    (s.poisonLine l).get F.INTEG_HBM_poisoned = s.integ.poison.length + 1 := by
  have hinc : (s.inc (F.INTEG_ERR_UNCORR_count memHBM)).integ = s.integ := by rw [State.inc_def, set_integ]
  unfold State.poisonLine
  rw [if_neg (by simpa using h)]
  dsimp only
  rw [if_neg (by rw [hinc]; omega), hinc]
  refine ⟨by rw [set_integ], ?_, ?_⟩
  · rw [State.get_set_kind (by decide)]
    exact get_inc (by decide)
  · rw [State.get_set (by decide), List.length_append]
    exact Nat.mod_eq_of_lt (show s.integ.poison.length + 1 < 8192 by omega)

/-- A line that was bad twice, or is uncorrectable, is poisoned. -/
theorem scrubHbm_bad (h : l ∉ s.integ.poison) (hhow : how = 3 ∨ how = 4) (hn : s.integ.poison.length < 4096) :
    (s.scrubHbm l how).integ.poison = s.integ.poison ++ [l] ∧
    (s.scrubHbm l how).get (F.INTEG_ERR_UNCORR_count memHBM) = min (s.get (F.INTEG_ERR_UNCORR_count memHBM) + 1) (2 ^ 32 - 1) ∧
    (s.scrubHbm l how).get F.INTEG_HBM_poisoned = s.integ.poison.length + 1 := by
  rw [scrubHbm_fresh h]
  rcases hhow with rfl | rfl
  · obtain ⟨hpoison, hcount, hshown⟩ := poisonLine_fresh (s := s.reread l) (l := l) (by rwa [reread_integ]) (by rwa [reread_integ])
    rw [reread_integ] at hpoison hshown
    rw [get_reread (by decide) (by decide)] at hcount
    exact ⟨hpoison, hcount, hshown⟩
  · exact poisonLine_fresh h hn

/-! ### SCRUB_READ -/

/-- The effect of SCRUB_READ. -/
def State.scrubLine (k l : Nat) (f : Option BadLine) (h : Nat) (s : State) : State :=
  if s.kindLines k ≤ l then s
  else if k = memCORE && s.coreRole (l / 131072) == coreFAILED then s.lapStep k l
  else (if k = memHBM then s.scrubHbm l h else s.scrubSram (lineAddr k l) f).lapStep k l

theorem exec_scrubRead {k : Fin 4} {l : BitVec 32} {h : Fin 5} : exec (.scrubRead k l f h) s = s.run (State.scrubLine k l.toNat f h) := rfl

section Answers

variable {k : Fin 4} {l : BitVec 32} {h : Fin 5} {P : State → Prop} (hp : s.powered = true)
include hp

/-- A line beyond the memory is not read. -/
theorem scrubRead_beyond (hl : s.kindLines k ≤ l.toNat) : ∃ t, exec (.scrubRead k l f h) s = .next t ∧ t.integ = s.integ ∧ t.mem = s.mem :=
  exec_scrubRead ▸ run_answers_of_effect hp (if_pos hl) fun _ ht => ⟨ht.integ_driven, ht.mem_driven⟩

/-- A line in the SRAM of a failed core steps the lap alone. -/
theorem scrubRead_failed (hl : l.toNat < s.kindLines k) (hf : s.failedSram k l.toNat)
    (hP : ∀ t, t.Same (s.lapStep k l.toNat).driveOutputs → P t) : ∃ t, exec (.scrubRead k l f h) s = .next t ∧ P t := by
  have hcond : (decide (k.val = memCORE) && s.coreRole (l.toNat / 131072) == coreFAILED) = true := by simp [hf.1, hf.2]
  exact exec_scrubRead ▸ run_answers_of_effect hp ((if_neg (Nat.not_le.mpr hl)).trans (if_pos hcond)) hP

/-- Another line is scrubbed, and steps the lap. -/
theorem scrubRead_read (hl : l.toNat < s.kindLines k) (hf : ¬ s.failedSram k l.toNat)
    (hP : ∀ t, t.Same ((if k.val = memHBM then s.scrubHbm l.toNat h else s.scrubSram (lineAddr k l.toNat) f).lapStep k
      l.toNat).driveOutputs → P t) : ∃ t, exec (.scrubRead k l f h) s = .next t ∧ P t := by
  have hcond : ¬ (decide (k.val = memCORE) && s.coreRole (l.toNat / 131072) == coreFAILED) = true := by
    intro hc
    simp only [Bool.and_eq_true, decide_eq_true_eq, beq_iff_eq] at hc
    exact hf hc
  exact exec_scrubRead ▸ run_answers_of_effect hp ((if_neg (Nat.not_le.mpr hl)).trans (if_neg hcond)) hP

theorem scrubRead_sram (hk : k.val < 3) (hl : l.toNat < s.kindLines k) (hf : ¬ s.failedSram k l.toNat)
    (hP : ∀ t, t.Same ((s.scrubSram (lineAddr k l.toNat) f).lapStep k l.toNat).driveOutputs → P t) :
    ∃ t, exec (.scrubRead k l f h) s = .next t ∧ P t :=
  scrubRead_read hp hl hf fun t ht => hP t (by rwa [if_neg (show k.val ≠ memHBM from Nat.ne_of_lt hk)] at ht)

theorem scrubRead_hbm (hk : k.val = memHBM) (hl : l.toNat < s.kindLines k)
    (hP : ∀ t, t.Same ((s.scrubHbm l.toNat h).lapStep k l.toNat).driveOutputs → P t) :
    ∃ t, exec (.scrubRead k l f h) s = .next t ∧ P t :=
  scrubRead_read hp hl (fun hf => absurd (hk.symm.trans hf.1) (by decide)) fun t ht => hP t (by rwa [if_pos hk] at ht)

theorem scrubRead_failed_answers (hl : l.toNat < s.kindLines k) (hf : s.failedSram k l.toNat) :
    ∃ t, exec (.scrubRead k l f h) s = .next t ∧ t.mem = s.mem ∧ t.integ.bad = s.integ.bad ∧ t.integ.writeBack = s.integ.writeBack :=
  scrubRead_failed hp hl hf fun t ht => by
    rw [ht.mem_driven, ht.integ_driven]
    exact ⟨lapStep_mem, lapStep_bad, lapStep_writeBack⟩

theorem scrubRead_clean (hk : k.val < 3) (hl : l.toNat < s.kindLines k) (he : s.errorAt (lineAddr k l.toNat) f = none) :
    ∃ t, exec (.scrubRead k l f h) s = .next t ∧ t.mem = s.mem ∧ t.integ.bad = s.integ.bad ∧
    t.get (F.INTEG_ERR_CORR_count k) = s.get (F.INTEG_ERR_CORR_count k) := by
  have hlap : ∀ t : State, t.Same (s.lapStep k l.toNat).driveOutputs → t.mem = s.mem ∧ t.integ.bad = s.integ.bad ∧
      t.get (F.INTEG_ERR_CORR_count k) = s.get (F.INTEG_ERR_CORR_count k) := fun t ht => by
    rw [ht.mem_driven, ht.integ_driven, ht.get_driven (by simp; decide), get_lapStep (by simp; decide)]
    exact ⟨lapStep_mem, lapStep_bad, rfl⟩
  by_cases hf : s.failedSram k l.toNat
  · exact scrubRead_failed hp hl hf hlap
  · exact scrubRead_sram hp hk hl hf fun t ht => hlap t (by rwa [scrubSram_clean he] at ht)

theorem scrubRead_sound (hk : k.val < 3) (hl : l.toNat < s.kindLines k) (he : s.errorAt (lineAddr k l.toNat) f = some b)
    (hs : sound (lineAddr k l.toNat) b = true) (hf : ¬ s.failedSram k l.toNat) : ∃ t, exec (.scrubRead k l f h) s = .next t ∧
    t.bytes (lineAddr k l.toNat) b.raw.length = b.raw ∧ tfind t.integ.bad (lineAddr k l.toNat / 64) = none ∧
    t.get (F.INTEG_ERR_CORR_count k) = s.get (F.INTEG_ERR_CORR_count k) := by
  obtain ⟨hbytes, hbad, hcount⟩ := scrubSram_sound he hs
  refine scrubRead_sram hp hk hl hf fun t ht => ⟨?_, ?_, ?_⟩
  · rw [bytes_of_mem ht.mem_driven, bytes_of_mem lapStep_mem, hbytes]
  · rw [ht.integ_driven, lapStep_bad, hbad]
  · rw [ht.get_driven (by simp; decide), get_lapStep (by simp; decide), hcount]

theorem scrubRead_corrected (hk : k.val < 3) (hl : l.toNat < s.kindLines k) (he : s.errorAt (lineAddr k l.toNat) f = some b)
    (hs : sound (lineAddr k l.toNat) b = false) (hc : corrected (lineAddr k l.toNat) b = some bs) (hn : s.noErrors (lineAddr k l.toNat))
    (hf : ¬ s.failedSram k l.toNat) : ∃ t, exec (.scrubRead k l f h) s = .next t ∧
    t.bytes (lineAddr k l.toNat) bs.length = bs ∧ lineAddr k l.toNat / 64 ∈ t.integ.writeBack ∧
    tfind t.integ.bad (lineAddr k l.toNat / 64) = some b ∧
    t.get (F.INTEG_ERR_CORR_count k) = min (s.get (F.INTEG_ERR_CORR_count k) + 1) (2 ^ 32 - 1) ∧
    t.get (F.INTEG_ERR_UNCORR_count k) = s.get (F.INTEG_ERR_UNCORR_count k) := by
  obtain ⟨hbytes, hback, hbad, hcount, hother⟩ := scrubSram_corrected he hs hc hn
  rw [memKind_lineAddr hk hl] at hcount hother
  refine scrubRead_sram hp hk hl hf fun t ht => ⟨?_, ?_, ?_, ?_, ?_⟩
  · rw [bytes_of_mem ht.mem_driven, bytes_of_mem lapStep_mem, hbytes]
  · rwa [ht.integ_driven, lapStep_writeBack]
  · rw [ht.integ_driven, lapStep_bad, hbad]
  · rw [ht.get_driven (by simp; decide), get_lapStep (by simp; decide), hcount]
  · rw [ht.get_driven (by simp; decide), get_lapStep (by simp; decide), hother]

theorem scrubRead_uncorrectable (hk : k.val < 3) (hl : l.toNat < s.kindLines k) (he : s.errorAt (lineAddr k l.toNat) f = some b)
    (hs : sound (lineAddr k l.toNat) b = false) (hc : corrected (lineAddr k l.toNat) b = none) (hn : s.noErrors (lineAddr k l.toNat))
    (hf : ¬ s.failedSram k l.toNat) : ∃ t, exec (.scrubRead k l f h) s = .next t ∧
    tfind t.integ.bad (lineAddr k l.toNat / 64) = some b ∧ t.integ.writeBack = s.integ.writeBack ∧
    t.get (F.INTEG_ERR_UNCORR_count k) = min (s.get (F.INTEG_ERR_UNCORR_count k) + 1) (2 ^ 32 - 1) ∧
    t.get (F.INTEG_ERR_CORR_count k) = s.get (F.INTEG_ERR_CORR_count k) := by
  obtain ⟨hbad, hback, hcount, hother⟩ := scrubSram_uncorrectable he hs hc hn
  rw [memKind_lineAddr hk hl] at hcount hother
  refine scrubRead_sram hp hk hl hf fun t ht => ⟨?_, ?_, ?_, ?_⟩
  · rw [ht.integ_driven, lapStep_bad, hbad]
  · rw [ht.integ_driven, lapStep_writeBack, hback]
  · rw [ht.get_driven (by simp; decide), get_lapStep (by simp; decide), hcount]
  · rw [ht.get_driven (by simp; decide), get_lapStep (by simp; decide), hother]

/-- What a read of an HBM line shows: the lap changes nothing of it. -/
theorem scrubRead_hbm_answers (hk : k.val = memHBM) (hl : l.toNat < s.kindLines k) : ∃ t, exec (.scrubRead k l f h) s = .next t ∧
    t.integ.poison = (s.scrubHbm l.toNat h).integ.poison ∧
    (∀ j, t.get (F.INTEG_ERR_CORR_count j) = (s.scrubHbm l.toNat h).get (F.INTEG_ERR_CORR_count j) ∧
      t.get (F.INTEG_ERR_UNCORR_count j) = (s.scrubHbm l.toNat h).get (F.INTEG_ERR_UNCORR_count j) ∧
      t.get (F.INTEG_ERR_RETRY_refetches j) = (s.scrubHbm l.toNat h).get (F.INTEG_ERR_RETRY_refetches j)) ∧
    t.get F.INTEG_HBM_poisoned = (s.scrubHbm l.toNat h).get F.INTEG_HBM_poisoned := by
  refine scrubRead_hbm hp hk hl fun t ht => ⟨?_, fun j => ⟨?_, ?_, ?_⟩, ?_⟩
  · rw [ht.integ_driven, lapStep_poison]
  · rw [ht.get_driven (by simp; decide), get_lapStep (by simp; decide)]
  · rw [ht.get_driven (by simp; decide), get_lapStep (by simp; decide)]
  · rw [ht.get_driven (by simp; decide), get_lapStep (by simp; decide)]
  · rw [ht.get_driven (by decide), get_lapStep (by decide)]

theorem scrubRead_laps (hl : l.toNat < s.kindLines k) (hlast : l.toNat + 1 = s.kindLines k) (hk : k.val = memHBM) (hh : h = 0) :
    ∃ t, exec (.scrubRead k l f h) s = .next t ∧
    t.get (F.INTEG_SCRUB_LAPS_count k) = min (s.get (F.INTEG_SCRUB_LAPS_count k) + 1) (2 ^ 32 - 1) := by
  subst hh
  refine scrubRead_hbm hp hk hl fun t ht => ?_
  rw [ht.get_driven (by simp; decide)]
  rw [show s.scrubHbm l.toNat (0 : Fin 5) = s from scrubHbm_good, lapStep_counts hlast]

end Answers

/-! ### SCRUB_WRITE_BACK -/

section WriteBack

variable {k : Fin 3} {l : BitVec 32} {x : Bool}

/-- The write-back of line `l` is taken from those that wait. -/
def State.takeBack (s : State) (l : Nat) : State :=
  { s with integ := { s.integ with writeBack := s.integ.writeBack.filter (fun y => y != l) } }

/-- Line `l` has no error. -/
def State.lineMended (s : State) (l : Nat) : State := { s with integ := { s.integ with bad := tdel s.integ.bad l } }

/-- The effect of SCRUB_WRITE_BACK. -/
def State.writtenBack (l : Nat) (x : Bool) (s : State) : State :=
  if !s.integ.writeBack.contains l then s else if x then s.takeBack l else (s.takeBack l).lineMended l

theorem exec_scrubWriteBack : exec (.scrubWriteBack k l x) s = s.run (State.writtenBack (lineAddr k l.toNat / 64) x) := rfl

theorem takeBack_taken (s : State) (l : Nat) : l ∉ (s.takeBack l).integ.writeBack := by simp [State.takeBack]

variable (hp : s.powered = true)
include hp

/-- A line without a pending write-back stays. -/
theorem scrubWriteBack_idle (h : lineAddr k.val l.toNat / 64 ∉ s.integ.writeBack) :
    ∃ t, exec (.scrubWriteBack k l x) s = .next t ∧ t.integ = s.integ :=
  exec_scrubWriteBack ▸ run_answers_of_effect hp (if_pos (by simpa using h)) fun t ht => ht.integ_driven

/-- The pending write-back ends the damage. -/
theorem scrubWriteBack_mends (h : lineAddr k.val l.toNat / 64 ∈ s.integ.writeBack) : ∃ t, exec (.scrubWriteBack k l false) s = .next t ∧
    tfind t.integ.bad (lineAddr k.val l.toNat / 64) = none ∧ lineAddr k.val l.toNat / 64 ∉ t.integ.writeBack ∧ t.mem = s.mem :=
  exec_scrubWriteBack ▸ run_answers_of_effect hp ((if_neg (by simpa using h)).trans (if_neg Bool.false_ne_true)) fun t ht => by
    rw [ht.mem_driven, ht.integ_driven]
    exact ⟨tfind_tdel_self _ _, takeBack_taken s _, rfl⟩

/-- Where the bank was accessed since, the damage stays. -/
theorem scrubWriteBack_accessed (h : lineAddr k.val l.toNat / 64 ∈ s.integ.writeBack) : ∃ t, exec (.scrubWriteBack k l true) s = .next t ∧
    t.integ.bad = s.integ.bad ∧ lineAddr k.val l.toNat / 64 ∉ t.integ.writeBack ∧ t.mem = s.mem :=
  exec_scrubWriteBack ▸ run_answers_of_effect hp ((if_neg (by simpa using h)).trans (if_pos rfl)) fun t ht => by
    rw [ht.mem_driven, ht.integ_driven]
    exact ⟨rfl, takeBack_taken s _, rfl⟩

end WriteBack

end Lines

end Sys2Proof.Machine
end

section
/-! PROOFS. The vote of the triplicated words, the commands of the INTEG block, and the obligation on both (R389, R397, R409, R413). -/

namespace Sys2Proof.Machine

open Sys2Proof

section Vote

variable {s t u : State} {w x j k v o a b c : Nat}

/-! ### The copies of a word -/

/-- The copies of words have registers of their own. -/
theorem copy_key_ne (h : j % 3 ≠ k % 3 ∨ x % 256 ≠ w % 256) : (F.INTEG_TRIP_COPY_word j x).key ≠ (F.INTEG_TRIP_COPY_word k w).key := by
  simp only [F.INTEG_TRIP_COPY_word]
  omega

theorem get_copy_set_ne (h : j % 3 ≠ k % 3 ∨ x % 256 ≠ w % 256) :
    (s.set (F.INTEG_TRIP_COPY_word k w) v).get (F.INTEG_TRIP_COPY_word j x) = s.get (F.INTEG_TRIP_COPY_word j x) :=
  State.get_set_ne _ _ _ _ (copy_key_ne h)

theorem get_copy_set (h : v < 2 ^ 32) : (s.set (F.INTEG_TRIP_COPY_word k w) v).get (F.INTEG_TRIP_COPY_word k w) = v :=
  (State.get_set (by simp [F.INTEG_TRIP_COPY_word])).trans (Nat.mod_eq_of_lt h)

theorem copy_lt : s.get (F.INTEG_TRIP_COPY_word k w) < 2 ^ 32 := get_lt

theorem tripAgree_of_get (h : ∀ j, t.get (F.INTEG_TRIP_COPY_word j w) = s.get (F.INTEG_TRIP_COPY_word j w)) (ha : s.tripAgree w) :
    t.tripAgree w := by
  unfold State.tripAgree at ha ⊢
  rwa [h, h, h]

/-! ### The majority -/

theorem majority_comm : majority a b c = majority b c a := by
  unfold majority
  rw [Nat.and_comm a c, Nat.and_comm a b, Nat.or_comm (b &&& a) (c &&& a), Nat.or_comm (b &&& c) (b &&& a),
    Nat.or_comm (c &&& a) (b &&& a), Nat.or_assoc, Nat.or_assoc, Nat.or_comm (c &&& a) (b &&& c)]

theorem majority_pair : majority a a b = a := by
  refine Nat.eq_of_testBit_eq fun i => ?_
  simp only [majority, Nat.testBit_or, Nat.testBit_and]
  cases a.testBit i <;> simp

theorem majority_lt (ha : a < 2 ^ 32) (hb : b < 2 ^ 32) : majority a b c < 2 ^ 32 :=
  Nat.or_lt_two_pow (Nat.or_lt_two_pow (Nat.and_lt_two_pow _ hb) (Nat.lt_of_le_of_lt Nat.and_le_left ha))
    (Nat.lt_of_le_of_lt Nat.and_le_left hb)

/-! ### The vote over one word -/

/-- Copy `k` takes the value `o` of the other two. -/
def State.tripRepaired (s : State) (w k o : Nat) : State :=
  (((s.set (F.INTEG_TRIP_COPY_word k w) o).set (F.INTEG_TRIP_value w) o).inc F.INTEG_TRIP_STATUS_repaired).raise Code.TRIPLE_REPAIRED [w, k]

/-- A word of the checker without a majority is the safe state. -/
def State.tripGuarded (s : State) (w : Nat) : State :=
  if 48 ≤ w && w < 192 then s.enterSafe Code.TEST_FAILED (sourceUnit 0x12 255) else s

/-- The bitwise majority stands for a word whose copies all differ. -/
def State.tripShown (s : State) (w v : Nat) : State :=
  (((s.tripGuarded w).set (F.INTEG_TRIP_value w) v).inc F.INTEG_TRIP_STATUS_disagree).raise Code.TRIPLE_DISAGREE [w]

/-- The word is kept for repair. -/
def State.tripDisputed (s : State) (w v : Nat) : State :=
  { s.tripShown w v with integ := { (s.tripShown w v).integ with tripFix := (s.tripShown w v).integ.tripFix ++ [w] } }

/-- The copy that differs from the other two. -/
def oddCopy (a b c : Nat) : Option Nat := if b == c then some 0 else if a == c then some 1 else if a == b then some 2 else none

/-- The vote over word `w` with the copies `a`, `b` and `c`. -/
def State.voteOn (s : State) (w a b c : Nat) : State :=
  if a == b && b == c then s
  else match oddCopy a b c with
    | some k => s.tripRepaired w k (majority a b c)
    | none => if s.integ.tripFix.contains w then s else s.tripDisputed w (majority a b c)

theorem voteWord_eq : s.voteWord w =
    s.voteOn w (s.get (F.INTEG_TRIP_COPY_word 0 w)) (s.get (F.INTEG_TRIP_COPY_word 1 w)) (s.get (F.INTEG_TRIP_COPY_word 2 w)) := rfl

theorem voteWord_agrees (h : s.tripAgree w) : s.voteWord w = s := by
  obtain ⟨hab, hbc⟩ := h
  rw [voteWord_eq, hab, hbc]
  exact if_pos (by simp)

theorem voteOn_odd (hne : ¬ (a = b ∧ b = c)) (hodd : oddCopy a b c = some k) (hm : majority a b c = o) :
    s.voteOn w a b c = s.tripRepaired w k o := by
  unfold State.voteOn
  rw [if_neg (by simpa using hne), hodd, hm]

/-- One odd copy takes the value of the other two. -/
theorem voteWord_repairs (hk : k < 3) (hother : ∀ j < 3, j ≠ k → s.get (F.INTEG_TRIP_COPY_word j w) = o)
    (hodd : s.get (F.INTEG_TRIP_COPY_word k w) ≠ o) : s.voteWord w = s.tripRepaired w k o := by
  rw [voteWord_eq]
  interval_cases k
  · rw [hother 1 (by decide) (by decide), hother 2 (by decide) (by decide)]
    exact voteOn_odd (fun h => hodd h.1) (if_pos (by simp)) (majority_comm.trans majority_pair)
  · rw [hother 0 (by decide) (by decide), hother 2 (by decide) (by decide)]
    exact voteOn_odd (fun h => hodd h.2) ((if_neg (by simpa using hodd)).trans (if_pos (by simp)))
      (majority_comm.trans (majority_comm.trans majority_pair))
  · rw [hother 0 (by decide) (by decide), hother 1 (by decide) (by decide)]
    exact voteOn_odd (fun h => hodd h.2.symm)
      ((if_neg (by simpa using Ne.symm hodd)).trans ((if_neg (by simpa using Ne.symm hodd)).trans (if_pos (by simp)))) majority_pair

/-- Three different copies have no odd one. -/
theorem voteWord_disputes (ha : s.get (F.INTEG_TRIP_COPY_word 0 w) = a) (hb : s.get (F.INTEG_TRIP_COPY_word 1 w) = b)
    (hc : s.get (F.INTEG_TRIP_COPY_word 2 w) = c) (hab : a ≠ b) (hac : a ≠ c) (hbc : b ≠ c) (hw : w ∉ s.integ.tripFix) :
    s.voteWord w = s.tripDisputed w (majority a b c) := by
  have hnone : oddCopy a b c = none :=
    (if_neg (by simpa using hbc)).trans ((if_neg (by simpa using hac)).trans (if_neg (by simpa using hab)))
  rw [voteWord_eq, ha, hb, hc, State.voteOn, if_neg (by simp [hab]), hnone]
  exact if_neg (by simpa using hw)

theorem get_tripGuarded {f : Field} (h : State.enterSafe_mask.testBit (regKind f.key) = false) : (s.tripGuarded w).get f = s.get f := by
  unfold State.tripGuarded
  split
  · exact (State.enterSafe_frame (Within.refl _) (.refl _ s)).get f h
  · rfl

/-- The vote over a word leaves the copies of the others. -/
theorem tripRepaired_other (h : x % 256 ≠ w % 256) :
    (s.tripRepaired w k o).get (F.INTEG_TRIP_COPY_word j x) = s.get (F.INTEG_TRIP_COPY_word j x) := by
  rw [State.tripRepaired, get_raise (by simp; decide), State.inc_def, State.get_set_kind (by simp), State.get_set_kind (by simp),
    get_copy_set_ne (.inr h)]

theorem tripDisputed_copy : (s.tripDisputed w v).get (F.INTEG_TRIP_COPY_word j x) = s.get (F.INTEG_TRIP_COPY_word j x) := by
  have h : (s.tripDisputed w v).get (F.INTEG_TRIP_COPY_word j x) = (s.tripShown w v).get (F.INTEG_TRIP_COPY_word j x) := rfl
  rw [h, State.tripShown, get_raise (by simp; decide), State.inc_def, State.get_set_kind (by simp), State.get_set_kind (by simp),
    get_tripGuarded (by simp; decide)]

/-! ### The vote over all words -/

theorem vote_agrees : ∀ {l : List Nat}, (∀ x ∈ l, s.tripAgree x) → s.each l State.voteWord = s
  | [], _ => rfl
  | x :: l, h => by
    rw [State.each_cons, voteWord_agrees (h x List.mem_cons_self), vote_agrees fun y hy => h y (List.mem_cons_of_mem _ hy)]

/-- Where one word is to be voted on, the vote is its own. -/
theorem vote_one (hw : w < 256) (hbefore : ∀ x < 256, x ≠ w → s.tripAgree x)
    (hafter : ∀ x < 256, x ≠ w → (s.voteWord w).tripAgree x) : s.each (upTo 256) State.voteWord = s.voteWord w := by
  obtain ⟨l, m, hsplit⟩ := List.append_of_mem (List.mem_range.mpr hw)
  have hnodup : (l ++ w :: m).Nodup := hsplit ▸ List.nodup_range
  have hlt : ∀ x ∈ l ++ w :: m, x < 256 := fun x hx => List.mem_range.mp (hsplit ▸ hx)
  obtain ⟨-, hwm, hdisj⟩ := List.nodup_append.mp hnodup
  have hl : ∀ x ∈ l, x ≠ w := fun x hx => hdisj x hx w List.mem_cons_self
  have hm : ∀ x ∈ m, x ≠ w := fun x hx e => (List.nodup_cons.mp hwm).1 (e ▸ hx)
  have hrange : upTo 256 = l ++ w :: m := hsplit
  rw [hrange, each_append, State.each_cons, vote_agrees fun x hx => hbefore x (hlt x (List.mem_append_left _ hx)) (hl x hx),
    vote_agrees fun x hx => hafter x (hlt x (List.mem_append_right _ (List.mem_cons_of_mem _ hx))) (hm x hx)]

/-! ### TRIPLE_VOTE -/

section Answers

variable (hp : s.powered = true)
include hp

omit hp in
theorem exec_tripleVote {l : List (Fin 3 × Fin 256 × Word)} : exec (.tripleVote l) s = s.run (fun s =>
    (s.each l fun s u => s.set (F.INTEG_TRIP_COPY_word u.1 u.2.1) u.2.2.toNat).each (upTo 256) State.voteWord) := rfl

/-- Copies that agree stay. -/
theorem tripleVote_agrees (h : ∀ w < 256, s.tripAgree w) : ∃ t, exec (.tripleVote []) s = .next t ∧ t.integ = s.integ ∧
    t.get (F.INTEG_TRIP_STATUS_repaired) = s.get (F.INTEG_TRIP_STATUS_repaired) := by
  rw [exec_tripleVote]
  exact run_answers_of_effect hp (vote_agrees fun x hx => h x (List.mem_range.mp hx)) fun t ht =>
    ⟨ht.integ_driven, ht.get_driven (by decide)⟩

omit hp in
/-- What an odd copy shows once it is repaired. -/
theorem tripRepaired_shows (ho : o < 2 ^ 32) : (s.tripRepaired w k o).get (F.INTEG_TRIP_COPY_word k w) = o ∧
    (s.tripRepaired w k o).get (F.INTEG_TRIP_value w) = o ∧
    (s.tripRepaired w k o).get F.INTEG_TRIP_STATUS_repaired = min (s.get F.INTEG_TRIP_STATUS_repaired + 1) 65535 := by
  rw [State.tripRepaired, get_raise (by simp; decide), get_raise (by simp; decide), get_raise (by decide)]
  refine ⟨?_, ?_, ?_⟩
  · rw [State.inc_def, State.get_set_kind (by simp), State.get_set_kind (by simp), get_copy_set ho]
  · rw [State.inc_def, State.get_set_kind (by simp), State.get_set (by simp [F.INTEG_TRIP_value])]
    exact Nat.mod_eq_of_lt ho
  · rw [get_inc (by decide), State.get_set_kind (by simp), State.get_set_kind (by simp)]
    rfl

omit hp in
/-- The copies beside the odd one stay. -/
theorem tripRepaired_copy (h : j % 3 ≠ k % 3) :
    (s.tripRepaired w k o).get (F.INTEG_TRIP_COPY_word j w) = s.get (F.INTEG_TRIP_COPY_word j w) := by
  rw [State.tripRepaired, get_raise (by simp; decide), State.inc_def, State.get_set_kind (by simp), State.get_set_kind (by simp),
    get_copy_set_ne (.inl h)]

omit hp in
theorem fin_word_ne {w : Fin 256} (hx : x < 256) (h : x ≠ w) : x % 256 ≠ w.val % 256 := by omega

omit hp in
theorem fin_copy_ne {j k : Fin 3} (h : j ≠ k) : j.val % 3 ≠ k.val % 3 := by
  rw [Nat.mod_eq_of_lt j.isLt, Nat.mod_eq_of_lt k.isLt]
  exact fun e => h (Fin.ext e)

omit hp in
/-- The common value of three copies that agree. -/
theorem tripAgree_copy {j : Fin 3} (h : s.tripAgree w) : s.get (F.INTEG_TRIP_COPY_word j w) = s.get (F.INTEG_TRIP_COPY_word 0 w) := by
  match j with
  | 0 => rfl
  | 1 => exact h.1.symm
  | 2 => exact (h.1.trans h.2).symm

/-- One odd copy is repaired, counted and written. -/
theorem tripleVote_repairs {k : Fin 3} {w : Fin 256} {v : Word} (h : ∀ w < 256, s.tripAgree w)
    (hv : v.toNat ≠ s.get (F.INTEG_TRIP_COPY_word k w)) : ∃ t, exec (.tripleVote [(k, w, v)]) s = .next t ∧
    (∀ j : Fin 3, t.get (F.INTEG_TRIP_COPY_word j w) = s.get (F.INTEG_TRIP_COPY_word j w)) ∧
    t.get (F.INTEG_TRIP_value w) = s.get (F.INTEG_TRIP_COPY_word 0 w) ∧
    t.get (F.INTEG_TRIP_STATUS_repaired) = min (s.get (F.INTEG_TRIP_STATUS_repaired) + 1) 65535 ∧ t.wrote Code.TRIPLE_REPAIRED [w, k] := by
  have hagree := h w w.isLt
  have hkept : ∀ x : Nat, x < 256 → x ≠ w.val → (s.set (F.INTEG_TRIP_COPY_word k w) v.toNat).tripAgree x := fun x hx hne =>
    tripAgree_of_get (fun j => get_copy_set_ne (.inr (fin_word_ne hx hne))) (h x hx)
  have hvote : (s.set (F.INTEG_TRIP_COPY_word k w) v.toNat).voteWord w =
      (s.set (F.INTEG_TRIP_COPY_word k w) v.toNat).tripRepaired w k (s.get (F.INTEG_TRIP_COPY_word 0 w)) := by
    refine voteWord_repairs k.isLt (fun j hj hne => ?_) ?_
    · rw [get_copy_set_ne (.inl (fin_copy_ne (j := ⟨j, hj⟩) fun e => hne (congrArg Fin.val e)))]
      exact tripAgree_copy (j := ⟨j, hj⟩) hagree
    · rw [get_copy_set v.isLt, ← tripAgree_copy (j := k) hagree]
      exact hv
  have heff := (vote_one w.isLt hkept fun x hx hne => by
    rw [hvote]
    exact tripAgree_of_get (fun j => tripRepaired_other (fin_word_ne hx hne)) (hkept x hx hne)).trans hvote
  obtain ⟨hcopy, hvalue, hcount⟩ := tripRepaired_shows (s := s.set (F.INTEG_TRIP_COPY_word k w) v.toNat) (w := w) (k := k)
    (o := s.get (F.INTEG_TRIP_COPY_word 0 w)) copy_lt
  rw [State.get_set_kind (by simp)] at hcount
  rw [exec_tripleVote]
  refine run_answers_of_effect hp heff fun t ht => ⟨fun j => ?_, ?_, ?_, ht.wrote_driven raise_wrote⟩
  · rw [ht.get_driven (by simp; decide)]
    by_cases hj : j = k
    · rw [hj, hcopy, tripAgree_copy (j := k) hagree]
    · rw [tripRepaired_copy (fin_copy_ne hj), get_copy_set_ne (.inl (fin_copy_ne hj))]
  · rw [ht.get_driven (by simp; decide), hvalue]
  · rw [ht.get_driven (by decide), hcount]

omit hp in
/-- What a word without a majority shows. -/
theorem tripDisputed_shows (hv : v < 2 ^ 32) : w ∈ (s.tripDisputed w v).integ.tripFix ∧
    (s.tripDisputed w v).get F.INTEG_TRIP_STATUS_disagree = min (s.get F.INTEG_TRIP_STATUS_disagree + 1) 65535 ∧
    (s.tripDisputed w v).get (F.INTEG_TRIP_value w) = v ∧
    (48 ≤ w → w < 192 → (s.tripDisputed w v).get F.SAFE_STATUS_state = safeSAFE) := by
  refine ⟨by simp [State.tripDisputed], ?_, ?_, fun hlo hhi => ?_⟩
  · have h : (s.tripDisputed w v).get F.INTEG_TRIP_STATUS_disagree = (s.tripShown w v).get F.INTEG_TRIP_STATUS_disagree := rfl
    rw [h, State.tripShown, get_raise (by decide), get_inc (by decide), State.get_set_kind (by simp), get_tripGuarded (by decide)]
    rfl
  · have h : (s.tripDisputed w v).get (F.INTEG_TRIP_value w) = (s.tripShown w v).get (F.INTEG_TRIP_value w) := rfl
    rw [h, State.tripShown, get_raise (by simp; decide), State.inc_def, State.get_set_kind (by simp),
      State.get_set (by simp [F.INTEG_TRIP_value])]
    exact Nat.mod_eq_of_lt hv
  · have h : (s.tripDisputed w v).get F.SAFE_STATUS_state = (s.tripShown w v).get F.SAFE_STATUS_state := rfl
    rw [h, State.tripShown, get_raise (by decide), State.inc_def, State.get_set_kind (by decide), State.get_set_kind (by simp),
      State.tripGuarded, if_pos (by simp [hlo, hhi]), enterSafe_state]

/-- Three different copies give the bitwise majority; in a word of the checker they are the safe state. -/
theorem tripleVote_disputes {w : Fin 256} {v x : Word} (h : ∀ w < 256, s.tripAgree w) (hvx : v ≠ x)
    (hv : v.toNat ≠ s.get (F.INTEG_TRIP_COPY_word 2 w)) (hx : x.toNat ≠ s.get (F.INTEG_TRIP_COPY_word 2 w))
    (hw : w.val ∉ s.integ.tripFix) : ∃ t, exec (.tripleVote [(0, w, v), (1, w, x)]) s = .next t ∧ w.val ∈ t.integ.tripFix ∧
    t.get (F.INTEG_TRIP_STATUS_disagree) = min (s.get (F.INTEG_TRIP_STATUS_disagree) + 1) 65535 ∧
    t.get (F.INTEG_TRIP_value w) = majority v.toNat x.toNat (s.get (F.INTEG_TRIP_COPY_word 2 w)) ∧
    (48 ≤ w.val → w.val < 192 → t.get F.SAFE_STATUS_state = safeSAFE ∧ t.outputsOff) := by
  generalize hu : (s.set (F.INTEG_TRIP_COPY_word 0 w) v.toNat).set (F.INTEG_TRIP_COPY_word 1 w) x.toNat = u
  have hother : ∀ j y, y % 256 ≠ w.val % 256 → u.get (F.INTEG_TRIP_COPY_word j y) = s.get (F.INTEG_TRIP_COPY_word j y) := fun j y hy => by
    rw [← hu, get_copy_set_ne (.inr hy), get_copy_set_ne (.inr hy)]
  have hkept : ∀ y : Nat, y < 256 → y ≠ w.val → u.tripAgree y := fun y hy hne =>
    tripAgree_of_get (fun j => hother j y (fin_word_ne hy hne)) (h y hy)
  have h0 : u.get (F.INTEG_TRIP_COPY_word 0 w) = v.toNat := by
    rw [← hu, get_copy_set_ne (.inl (by decide)), get_copy_set v.isLt]
  have h1 : u.get (F.INTEG_TRIP_COPY_word 1 w) = x.toNat := by rw [← hu, get_copy_set x.isLt]
  have h2 : u.get (F.INTEG_TRIP_COPY_word 2 w) = s.get (F.INTEG_TRIP_COPY_word 2 w) := by
    rw [← hu, get_copy_set_ne (.inl (by decide)), get_copy_set_ne (.inl (by decide))]
  have hcount : u.get F.INTEG_TRIP_STATUS_disagree = s.get F.INTEG_TRIP_STATUS_disagree := by
    rw [← hu, State.get_set_kind (by simp), State.get_set_kind (by simp)]
  have hvote := voteWord_disputes h0 h1 h2 (fun e => hvx (BitVec.eq_of_toNat_eq e)) hv hx
    (by rwa [← hu, set_integ, set_integ])
  have heff := (vote_one w.isLt hkept fun y hy hne => by
    rw [hvote]
    exact tripAgree_of_get (fun j => tripDisputed_copy) (hkept y hy hne)).trans hvote
  obtain ⟨hfix, hdisagree, hvalue, hsafe⟩ := tripDisputed_shows (s := u) (w := w)
    (v := majority v.toNat x.toNat (s.get (F.INTEG_TRIP_COPY_word 2 w))) (majority_lt v.isLt x.isLt)
  rw [hcount] at hdisagree
  rw [exec_tripleVote]
  refine run_answers_of_effect hp ((congrArg (fun z : State => z.each (upTo 256) State.voteWord) hu).trans heff)
    fun t ht => ⟨?_, ?_, ?_, fun hlo hhi => ⟨?_, Same_off ht (hsafe hlo hhi)⟩⟩
  · rwa [ht.integ_driven]
  · rw [ht.get_driven (by decide), hdisagree]
  · rw [ht.get_driven (by simp; decide), hvalue]
  · rw [ht.get_driven (by decide), hsafe hlo hhi]

end Answers

end Vote

end Sys2Proof.Machine
end

section
/-! PROOFS. TRACE_SET and CAPTURE_CLEAR, and the obligation on scrubbing, voting and tracing (R389, R392 to R397, R409, R413). -/

namespace Sys2Proof.Machine

open Sys2Proof

section Trace

variable {s t u : State} {i : Port} {v : BitVec 2} {m : BitVec 8} {code reason : Nat} {e : Instr} {P : State → Prop}

/-! ### The status of a command -/

theorem integStatus_shows (hc : code < 2 ^ 16) (hr : reason < 2 ^ 8) :
    (s.integStatus i code reason).get (F.INTEG_CMD_STATUS_code i) = code ∧
    (s.integStatus i code reason).get (F.INTEG_CMD_STATUS_reason i) = reason := by
  unfold State.integStatus
  constructor
  · rw [State.get_set_field (f := F.INTEG_CMD_STATUS_code i) (g := F.INTEG_CMD_STATUS_reason i) rfl
      (by simp [F.INTEG_CMD_STATUS_code, F.INTEG_CMD_STATUS_reason]) (by simp [F.INTEG_CMD_STATUS_code]),
      State.get_set (by simp [F.INTEG_CMD_STATUS_code])]
    exact Nat.mod_eq_of_lt hc
  · rw [State.get_set (by simp [F.INTEG_CMD_STATUS_reason])]
    exact Nat.mod_eq_of_lt hr

theorem integStatus_integ : (s.integStatus i code reason).integ = s.integ := by rw [State.integStatus, set_integ, set_integ]

theorem integStatus_recorder : (s.integStatus i code reason).recorder = s.recorder := by
  rw [State.integStatus, set_recorder, set_recorder]

theorem get_integStatus {f : Field} (h : regKind f.key ≠ 286) : (s.integStatus i code reason).get f = s.get f := by
  rw [State.integStatus, State.get_set_kind (by simpa using h), State.get_set_kind (by simpa using h)]

/-- Nothing runs in this program that could be called and not traced. -/
def State.untraced (s : State) (m : Nat) : Bool :=
  (upTo 8).any (fun p => m.testBit p && (match tfind s.cfg.programs p with
    | some g => !g.callTrace
    | none => false))

/-- The trace stands at level `lv` for port `i`. -/
def State.traced (s : State) (i : Port) (lv m : Nat) : State :=
  { (s.set F.INTEG_STATUS_trace_level lv).set F.INTEG_STATUS_trace_port i with integ := { s.integ with traceParts := m } }

/-- The effect of TRACE_SET. -/
def State.traceSet (i : Port) (lv m : Nat) (s : State) : State :=
  s.integCmd i (fun s =>
    if lv = 3 then (s.raise Code.INTEG_BAD_COMMAND [i, 1 + 16 * lv + 256 * m]).integStatus i Code.INTEG_BAD_COMMAND 0
    else if s.get F.INTEG_STATUS_trace_level != 0 && s.get F.INTEG_STATUS_trace_port != i.val then
      s.integStatus i Code.INTEG_BAD_COMMAND irBUSY
    else if lv = 2 && s.untraced m then s.integStatus i Code.INTEG_BAD_COMMAND irNOCALLTRACE
    else (s.traced i lv m).integStatus i 0 0)

theorem exec_traceSet : exec (.traceSet i v m) s = s.run (State.traceSet i v.toNat m.toNat) := rfl

/-- The effect of CAPTURE_CLEAR. -/
def State.captureClear (i : Port) (s : State) : State := s.integCmd i (fun s => (s.set F.INTEG_CAP_LOC_valid 0).integStatus i 0 0)

theorem exec_captureClear : exec (.captureClear i) s = s.run (State.captureClear i) := rfl

theorem integCmd_privileged {f : State → State} (h : s.privileged i = true) : s.integCmd i f = f s := if_pos h

theorem integCmd_refused {f : State → State} (h : s.privileged i = false) :
    s.integCmd i f = (s.raise Code.INTEG_ROLE [i, 4]).integStatus i Code.INTEG_ROLE irROLE := if_neg (by simp [h])

/-- The port that traces may set the trace again. -/
theorem trace_free (h : s.get F.INTEG_STATUS_trace_level = 0 ∨ s.get F.INTEG_STATUS_trace_port = i.val) :
    ¬ (s.get F.INTEG_STATUS_trace_level != 0 && s.get F.INTEG_STATUS_trace_port != i.val) = true := by
  rcases h with h | h <;> simp [h]

theorem untraced_of_program {p : Nat} {g : ProgramSec} (hp : p < 8) (hm : m.toNat.testBit p = true)
    (hg : tfind s.cfg.programs p = some g) (hc : g.callTrace = false) : s.untraced m.toNat = true := by
  refine List.any_eq_true.mpr ⟨p, List.mem_range.mpr hp, ?_⟩
  rw [hm, hg]
  simp [hc]

theorem untraced_false (h : ∀ p g, p < 8 → m.toNat.testBit p = true → tfind s.cfg.programs p = some g → g.callTrace = true) :
    s.untraced m.toNat = false := by
  refine List.any_eq_false.mpr fun p hp => ?_
  intro hp'
  simp only [Bool.and_eq_true] at hp'
  obtain ⟨hm, hg⟩ := hp'
  cases hfind : tfind s.cfg.programs p with
  | none => simp [hfind] at hg
  | some g => simp [hfind, h p g (List.mem_range.mp hp) hm hfind] at hg

/-! ### The answers -/

section Answers

variable (hp : s.powered = true)
include hp

/-- A command shows its status. -/
theorem integStatus_answers {f : State → State} (he : exec e s = s.run f) (hu : f s = u.integStatus i code reason)
    (hc : code < 2 ^ 16) (hr : reason < 2 ^ 8) (hP : ∀ t, t.Same (u.integStatus i code reason).driveOutputs → P t) :
    ∃ t, exec e s = .next t ∧ P t ∧ t.get (F.INTEG_CMD_STATUS_code i) = code ∧ t.get (F.INTEG_CMD_STATUS_reason i) = reason := by
  rw [he]
  refine run_answers_of_effect hp hu fun t ht => ⟨hP t ht, ?_⟩
  rw [ht.get_driven (by simp; decide), ht.get_driven (by simp; decide)]
  exact integStatus_shows hc hr

/-- A refused TRACE_SET leaves the trace. -/
theorem traceSet_refused (hu : s.traceSet i v.toNat m.toNat = u.integStatus i code reason) (hc : code < 2 ^ 16) (hr : reason < 2 ^ 8)
    (hinteg : u.integ = s.integ) (hlevel : u.get F.INTEG_STATUS_trace_level = s.get F.INTEG_STATUS_trace_level) :
    ∃ t, exec (.traceSet i v m) s = .next t ∧ t.integ = s.integ ∧
    t.get F.INTEG_STATUS_trace_level = s.get F.INTEG_STATUS_trace_level ∧ t.get (F.INTEG_CMD_STATUS_code i) = code ∧
    t.get (F.INTEG_CMD_STATUS_reason i) = reason := by
  obtain ⟨t, ht, ⟨ha, hb⟩, hshown⟩ := integStatus_answers (P := fun t => t.integ = s.integ ∧
    t.get F.INTEG_STATUS_trace_level = s.get F.INTEG_STATUS_trace_level) hp exec_traceSet hu hc hr fun t ht =>
      ⟨by rw [ht.integ_driven, integStatus_integ, hinteg], by rw [ht.get_driven (by decide), get_integStatus (by decide), hlevel]⟩
  exact ⟨t, ht, ha, hb, hshown⟩

theorem traceSet_sets (hr : s.privileged i = true) (hv : v ≠ 3)
    (hfree : s.get F.INTEG_STATUS_trace_level = 0 ∨ s.get F.INTEG_STATUS_trace_port = i.val)
    (hcalls : v ≠ 2 ∨ ∀ p g, p < 8 → m.toNat.testBit p = true → tfind s.cfg.programs p = some g → g.callTrace = true) :
    ∃ t, exec (.traceSet i v m) s = .next t ∧ t.get F.INTEG_STATUS_trace_level = v.toNat ∧ t.get F.INTEG_STATUS_trace_port = i.val ∧
    t.integ.traceParts = m.toNat ∧ t.get (F.INTEG_CMD_STATUS_code i) = 0 ∧ t.get (F.INTEG_CMD_STATUS_reason i) = 0 := by
  have hthree : v.toNat ≠ 3 := fun h => hv (BitVec.eq_of_toNat_eq h)
  have htwo : ¬ (decide (v.toNat = 2) && s.untraced m.toNat) = true := by
    rcases hcalls with h | h
    · simp [show v.toNat ≠ 2 from fun e => h (BitVec.eq_of_toNat_eq e)]
    · simp [untraced_false h]
  have heff : s.traceSet i v.toNat m.toNat = (s.traced i v.toNat m.toNat).integStatus i 0 0 :=
    (integCmd_privileged hr).trans ((if_neg hthree).trans ((if_neg (trace_free hfree)).trans (if_neg htwo)))
  have hlevel : (s.traced i v.toNat m.toNat).get F.INTEG_STATUS_trace_level =
      ((s.set F.INTEG_STATUS_trace_level v.toNat).set F.INTEG_STATUS_trace_port i).get F.INTEG_STATUS_trace_level := rfl
  have hport : (s.traced i v.toNat m.toNat).get F.INTEG_STATUS_trace_port =
      ((s.set F.INTEG_STATUS_trace_level v.toNat).set F.INTEG_STATUS_trace_port i).get F.INTEG_STATUS_trace_port := rfl
  rw [State.get_set_field (f := F.INTEG_STATUS_trace_level) (g := F.INTEG_STATUS_trace_port) rfl (by decide) (by decide),
    State.get_set (by decide)] at hlevel
  rw [State.get_set (by decide)] at hport
  obtain ⟨t, ht, ⟨ha, hb, hc⟩, hshown⟩ := integStatus_answers (P := fun t => t.get F.INTEG_STATUS_trace_level = v.toNat ∧
    t.get F.INTEG_STATUS_trace_port = i.val ∧ t.integ.traceParts = m.toNat) hp exec_traceSet heff (by decide) (by decide) fun t ht => by
      rw [ht.integ_driven, ht.get_driven (by decide), ht.get_driven (by decide), get_integStatus (by decide), get_integStatus (by decide),
        integStatus_integ, hlevel, hport]
      exact ⟨Nat.mod_eq_of_lt v.isLt, Nat.mod_eq_of_lt i.isLt, rfl⟩
  exact ⟨t, ht, ha, hb, hc, hshown⟩

theorem traceSet_busy (hr : s.privileged i = true) (hv : v ≠ 3) (hlevel : s.get F.INTEG_STATUS_trace_level ≠ 0)
    (hport : s.get F.INTEG_STATUS_trace_port ≠ i.val) : ∃ t, exec (.traceSet i v m) s = .next t ∧ t.integ = s.integ ∧
    t.get F.INTEG_STATUS_trace_level = s.get F.INTEG_STATUS_trace_level ∧
    t.get (F.INTEG_CMD_STATUS_code i) = Code.INTEG_BAD_COMMAND ∧ t.get (F.INTEG_CMD_STATUS_reason i) = irBUSY := by
  have hthree : v.toNat ≠ 3 := fun h => hv (BitVec.eq_of_toNat_eq h)
  exact traceSet_refused hp ((integCmd_privileged hr).trans ((if_neg hthree).trans (if_pos (by simp [hlevel, hport])))) (by decide)
    (by decide) rfl rfl

theorem traceSet_calls {p : Nat} {g : ProgramSec} (hr : s.privileged i = true)
    (hfree : s.get F.INTEG_STATUS_trace_level = 0 ∨ s.get F.INTEG_STATUS_trace_port = i.val) (h8 : p < 8)
    (hm : m.toNat.testBit p = true) (hg : tfind s.cfg.programs p = some g) (hc : g.callTrace = false) :
    ∃ t, exec (.traceSet i 2 m) s = .next t ∧ t.integ = s.integ ∧
    t.get F.INTEG_STATUS_trace_level = s.get F.INTEG_STATUS_trace_level ∧
    t.get (F.INTEG_CMD_STATUS_code i) = Code.INTEG_BAD_COMMAND ∧ t.get (F.INTEG_CMD_STATUS_reason i) = irNOCALLTRACE :=
  traceSet_refused (v := 2) hp ((integCmd_privileged hr).trans ((if_neg (by decide)).trans ((if_neg (trace_free hfree)).trans
    (if_pos (by simp [untraced_of_program h8 hm hg hc]))))) (by decide) (by decide) rfl rfl

theorem traceSet_undefined (hr : s.privileged i = true) : ∃ t, exec (.traceSet i 3 m) s = .next t ∧ t.integ = s.integ ∧
    t.get F.INTEG_STATUS_trace_level = s.get F.INTEG_STATUS_trace_level ∧
    t.get (F.INTEG_CMD_STATUS_code i) = Code.INTEG_BAD_COMMAND ∧ t.get (F.INTEG_CMD_STATUS_reason i) = 0 :=
  traceSet_refused (v := 3) hp ((integCmd_privileged hr).trans (if_pos (by decide))) (by decide) (by decide) raise_integ
    (get_raise (by decide))

/-- Another port is refused. -/
theorem integCmd_answers {f : State → State} (he : exec e s = s.run (fun s => s.integCmd i f)) (hr : s.privileged i = false) :
    ∃ t, exec e s = .next t ∧ (t.integ = s.integ ∧ t.get F.INTEG_STATUS_trace_level = s.get F.INTEG_STATUS_trace_level ∧
      t.get F.INTEG_CAP_LOC_valid = s.get F.INTEG_CAP_LOC_valid ∧ t.wrote Code.INTEG_ROLE [i, 4]) ∧
    t.get (F.INTEG_CMD_STATUS_code i) = Code.INTEG_ROLE ∧ t.get (F.INTEG_CMD_STATUS_reason i) = irROLE := by
  refine integStatus_answers hp he (integCmd_refused hr) (by decide) (by decide) fun t ht => ⟨?_, ?_, ?_, ?_⟩
  · rw [ht.integ_driven, integStatus_integ, raise_integ]
  · rw [ht.get_driven (by decide), get_integStatus (by decide), get_raise (by decide)]
  · rw [ht.get_driven (by decide), get_integStatus (by decide), get_raise (by decide)]
  · exact ht.wrote_driven (wrote_of_recorder integStatus_recorder raise_wrote)

theorem traceSet_role (hr : s.privileged i = false) : ∃ t, exec (.traceSet i v m) s = .next t ∧ t.integ = s.integ ∧
    t.get F.INTEG_STATUS_trace_level = s.get F.INTEG_STATUS_trace_level ∧ t.wrote Code.INTEG_ROLE [i, 4] ∧
    t.get (F.INTEG_CMD_STATUS_code i) = Code.INTEG_ROLE ∧ t.get (F.INTEG_CMD_STATUS_reason i) = irROLE := by
  obtain ⟨t, ht, ⟨hinteg, hlevel, -, hrole⟩, hshown⟩ := integCmd_answers hp exec_traceSet hr
  exact ⟨t, ht, hinteg, hlevel, hrole, hshown⟩

theorem captureClear_role (hr : s.privileged i = false) : ∃ t, exec (.captureClear i) s = .next t ∧
    t.get F.INTEG_CAP_LOC_valid = s.get F.INTEG_CAP_LOC_valid ∧ t.wrote Code.INTEG_ROLE [i, 4] ∧
    t.get (F.INTEG_CMD_STATUS_code i) = Code.INTEG_ROLE ∧ t.get (F.INTEG_CMD_STATUS_reason i) = irROLE := by
  obtain ⟨t, ht, ⟨-, -, hvalid, hrole⟩, hshown⟩ := integCmd_answers hp exec_captureClear hr
  exact ⟨t, ht, hvalid, hrole, hshown⟩

theorem captureClear_clears (hr : s.privileged i = true) : ∃ t, exec (.captureClear i) s = .next t ∧
    t.get F.INTEG_CAP_LOC_valid = 0 ∧ t.get (F.INTEG_CMD_STATUS_code i) = 0 ∧ t.get (F.INTEG_CMD_STATUS_reason i) = 0 := by
  refine integStatus_answers (u := s.set F.INTEG_CAP_LOC_valid 0) hp exec_captureClear (integCmd_privileged hr) (by decide) (by decide)
    fun t ht => ?_
  rw [ht.get_driven (by decide), get_integStatus (by decide), State.get_set (by decide)]
  rfl

end Answers

end Trace

section HbmReads

variable {s : State} {k : Fin 4} {l : BitVec 32} {f : Option BadLine} {h : Fin 5} (hp : s.powered = true)
include hp

theorem scrubRead_hbm_good (hk : k.val = memHBM) (hl : l.toNat < s.kindLines k) (hh : h = 0) :
    ∃ t, exec (.scrubRead k l f h) s = .next t ∧ t.integ.poison = s.integ.poison ∧
    t.get (F.INTEG_ERR_CORR_count memHBM) = s.get (F.INTEG_ERR_CORR_count memHBM) := by
  subst hh
  obtain ⟨t, ht, hpoison, hcounts, -⟩ := scrubRead_hbm_answers (f := f) (h := 0) hp hk hl
  have hgood : s.scrubHbm l.toNat (0 : Fin 5) = s := scrubHbm_good
  rw [hgood] at hpoison hcounts
  exact ⟨t, ht, hpoison, (hcounts _).1⟩

theorem scrubRead_hbm_corrected (hk : k.val = memHBM) (hl : l.toNat < s.kindLines k) (hn : l.toNat ∉ s.integ.poison) (hh : h = 1) :
    ∃ t, exec (.scrubRead k l f h) s = .next t ∧ t.integ.poison = s.integ.poison ∧
    t.get (F.INTEG_ERR_CORR_count memHBM) = min (s.get (F.INTEG_ERR_CORR_count memHBM) + 1) (2 ^ 32 - 1) := by
  subst hh
  obtain ⟨t, ht, hpoison, hcounts, -⟩ := scrubRead_hbm_answers (f := f) (h := 1) hp hk hl
  have hone : s.scrubHbm l.toNat (1 : Fin 5) = s.inc (F.INTEG_ERR_CORR_count memHBM) := scrubHbm_fresh hn
  rw [hone, State.inc_def, set_integ] at hpoison
  refine ⟨t, ht, hpoison, ?_⟩
  rw [(hcounts _).1, hone, get_inc (by decide)]
  rfl

theorem scrubRead_hbm_refetched (hk : k.val = memHBM) (hl : l.toNat < s.kindLines k) (hn : l.toNat ∉ s.integ.poison) (hh : h = 2) :
    ∃ t, exec (.scrubRead k l f h) s = .next t ∧ t.integ.poison = s.integ.poison ∧
    t.get (F.INTEG_ERR_RETRY_refetches memHBM) = min (s.get (F.INTEG_ERR_RETRY_refetches memHBM) + 1) 65535 := by
  subst hh
  obtain ⟨t, ht, hpoison, hcounts, -⟩ := scrubRead_hbm_answers (f := f) (h := 2) hp hk hl
  have htwo : s.scrubHbm l.toNat (2 : Fin 5) = s.reread l.toNat := scrubHbm_fresh hn
  rw [htwo, reread_integ] at hpoison
  refine ⟨t, ht, hpoison, ?_⟩
  rw [(hcounts _).2.2, htwo, reread_counts]

theorem scrubRead_hbm_bad (hk : k.val = memHBM) (hl : l.toNat < s.kindLines k) (hn : l.toNat ∉ s.integ.poison) (hh : h = 3 ∨ h = 4)
    (hroom : s.integ.poison.length < 4096) : ∃ t, exec (.scrubRead k l f h) s = .next t ∧
    t.integ.poison = s.integ.poison ++ [l.toNat] ∧
    t.get (F.INTEG_ERR_UNCORR_count memHBM) = min (s.get (F.INTEG_ERR_UNCORR_count memHBM) + 1) (2 ^ 32 - 1) ∧
    t.get F.INTEG_HBM_poisoned = s.integ.poison.length + 1 := by
  have hhow : h.val = 3 ∨ h.val = 4 := hh.imp (congrArg Fin.val) (congrArg Fin.val)
  obtain ⟨t, ht, hpoison, hcounts, hshown⟩ := scrubRead_hbm_answers (f := f) (h := h) hp hk hl
  obtain ⟨hadded, hcount, hlength⟩ := scrubHbm_bad hn hhow hroom
  exact ⟨t, ht, hpoison.trans hadded, (hcounts _).2.1.trans hcount, hshown.trans hlength⟩

theorem scrubRead_hbm_poisoned (hk : k.val = memHBM) (hl : l.toNat < s.kindLines k) (hn : l.toNat ∈ s.integ.poison) :
    ∃ t, exec (.scrubRead k l f h) s = .next t ∧ t.integ.poison = s.integ.poison ∧
    t.get (F.INTEG_ERR_UNCORR_count memHBM) = s.get (F.INTEG_ERR_UNCORR_count memHBM) := by
  obtain ⟨t, ht, hpoison, hcounts, -⟩ := scrubRead_hbm_answers (f := f) (h := h) hp hk hl
  rw [scrubHbm_poisoned hn] at hpoison hcounts
  exact ⟨t, ht, hpoison, (hcounts _).2.1⟩

end HbmReads

/-- Settles O45, by the cases of a scrubbed line, of a voted word and of a command's port. -/
theorem scrubAndTrace : Obligations.ScrubAndTrace :=
  ⟨fun _ _ _ _ _ hp hl => scrubRead_beyond hp hl,
   fun _ _ _ _ _ hp hl hf => scrubRead_failed_answers hp hl hf,
   fun _ _ _ _ _ hp hk hl he => scrubRead_clean hp hk hl he,
   fun _ _ _ _ _ _ hp hk hl he hs hf => scrubRead_sound hp hk hl he hs hf,
   fun _ _ _ _ _ _ _ hp hk hl he hs hc hn hf => scrubRead_corrected hp hk hl he hs hc hn hf,
   fun _ _ _ _ _ _ hp hk hl he hs hc hn hf => scrubRead_uncorrectable hp hk hl he hs hc hn hf,
   fun _ _ _ _ _ hp hk hl _ hh => scrubRead_hbm_good hp hk hl hh,
   fun _ _ _ _ _ hp hk hl hn hh => scrubRead_hbm_corrected hp hk hl hn hh,
   fun _ _ _ _ _ hp hk hl hn hh => scrubRead_hbm_refetched hp hk hl hn hh,
   fun _ _ _ _ _ hp hk hl hn hh hroom => scrubRead_hbm_bad hp hk hl hn hh hroom,
   fun _ _ _ _ _ hp hk hl hn => scrubRead_hbm_poisoned hp hk hl hn,
   fun _ _ _ _ _ hp hl hlast hk hh => scrubRead_laps hp hl hlast hk hh,
   fun _ _ _ hp h => scrubWriteBack_mends hp h,
   fun _ _ _ hp h => scrubWriteBack_accessed hp h,
   fun _ _ _ _ hp h => scrubWriteBack_idle hp h,
   fun _ hp h => tripleVote_agrees hp h,
   fun _ _ _ _ hp h hv => tripleVote_repairs hp h hv,
   fun _ _ _ _ hp h hvx hv hx hw => tripleVote_disputes hp h hvx hv hx hw,
   fun _ _ _ _ hp hr hv hfree hcalls => traceSet_sets hp hr hv hfree hcalls,
   fun _ _ _ _ hp hr hv hlevel hport => traceSet_busy hp hr hv hlevel hport,
   fun _ _ _ _ _ hp hr hfree h8 hm hg hc => traceSet_calls hp hr hfree h8 hm hg hc,
   fun _ _ _ hp hr => traceSet_undefined hp hr,
   fun _ _ _ _ hp hr => traceSet_role hp hr,
   fun _ _ hp hr => captureClear_clears hp hr,
   fun _ _ hp hr => captureClear_role hp hr⟩

end Sys2Proof.Machine
end
